-- ==== Sys2Proof/Word.lean ====
section
/-! DEFINITION. The word types of the module: 32-bit registers (R11), 64-bit packet words and watch cells, and 68-bit
queue words (R227). -/

namespace Sys2Proof

/-- A register word (R11). -/
abbrev Word := BitVec 32

/-- A packet word (R227 DATA) or a watch cell (R149). -/
abbrev LWord := BitVec 64

/-- A queue word: PARITY, TAG, EOP and DATA (R227). -/
abbrev QWord := BitVec 68

end Sys2Proof
end

