-- ==== Sys2Proof/Syntax.lean ====
section
/-! DEFINITION. The commands of the module: one constructor per row of spec/opcode_table.json, in the table's order. A
command is an access of the host or of a partner, or an event in the module or at its balls. Its operands are what the
outside gives it: the port of an access (0 SMBus, 1 management UART, 2 + r command ring r), addresses and words, times
as raw counts with a phase, and the readings of analog parts (log entry 7). -/

namespace Sys2Proof

/-- A command. DESIGN CHOICE: log entry 64. -/
inductive Instr where
  /-- REGISTER_WRITE (R13): A write to a register that has no row of its own stores each field according to its
  access code. -/
  | registerWrite (p : Fin 10) (a : BitVec 32) (w : Word)
  /-- PAIR_LOW_READ (R11): A read of the low word of a 64-bit pair loads the port's pair latch with the high word.
  -/
  | pairLowRead (p : Fin 10) (a : BitVec 32)
  /-- WATCH_CELL_READ (R156): A host read of a watch cell returns the whole cell as it stood before or after an
  update, within 2 µs. -/
  | watchCellRead (p : Fin 10) (cell : Fin 262144) (high : Bool)
  /-- DIAG_WINDOW_READ (R453): A read of the capture-ring diagnostic window takes one slot of the ring read port's
  last share. -/
  | diagWindowRead (p : Fin 10) (word : Fin 4194304)
  /-- REFCLK_LOSS (R27): When REFCLK is absent, the keeper derives the slow tick from its internal oscillator and
  reports a fault. -/
  | refclkLoss
  /-- ELASTIC_BUFFER_OVERFLOW (R482): A converter elastic buffer drops a 64-sample block, fills it with zeros and
  marks it and its successor POISON. -/
  | elasticBufferOverflow (ch : Fin 64) (n : Nat)
  /-- PACE_LOOP_TICK (R42): Once per tick the keeper evaluates the lowest pace margin and raises or holds the VCORE
  setpoint. -/
  | paceLoopTick (margins : List Int)
  /-- VCORE_STEP_DOWN (R42): After 1000 consecutive ticks with a margin of at least 25%, the VCORE setpoint is
  lowered by 10 mV. -/
  | vcoreStepDown
  /-- PACE_FAULT (R43): After 10 ticks below 10% margin at 0.85 V, PACE_FAULT is set, an incident opens and FMAX is
  lowered. -/
  | paceFault
  /-- AUTO_FALLBACK (R43): With AUTO_FALLBACK set, a converter elastic buffer passing 75% fill starts the switch to
  FMAX. -/
  | autoFallback
  /-- PACE_SWITCH (R45): A write of PWR_PACE_CMD.SWITCH while PACE_FAULT is set starts the switch to FMAX. -/
  | paceSwitch (p : Fin 10)
  /-- PACE_RESTORE (R46): A write of RESTORE while SWITCHED is set returns the module to the configured rate. -/
  | paceRestore (p : Fin 10)
  /-- PACE_CLR_MIN (R48): A write of CLR_MIN resets MIN_SINCE_CLEAR of all pace monitors to 255. -/
  | paceClrMin (p : Fin 10)
  /-- RATE_SWITCH_INGEST_STOP (R45): Ingest stops on all channels at the common count N that is a multiple of 1024.
  -/
  | rateSwitchIngestStop
  /-- RATE_SWITCH_RELOCK (R45): The region PLLs and the counter reference relock at the new rate, and the time unit
  re-bases. -/
  | rateSwitchRelock (periods : Nat) (readings : List Int)
  /-- RATE_SWITCH_RESUME (R45): Ingest resumes from count N, with RATE_REDUCED set in the stream blocks. -/
  | rateSwitchResume
  /-- PACE_FAULT_CLEAR (R46): PACE_FAULT and RATE_REDUCED clear after 1000 consecutive ticks with a margin of at
  least 10%. -/
  | paceFaultClear
  /-- STREAM_PACKET_COMPLETE (R212): An encoder group completes a stream packet and enters it into its class 2
  sub-queue. flips are the coded bits that its encoder inverts, by block and place in the payload, bad the blocks at which the second
  decoder errs (R216). -/
  | streamPacketComplete (ch : Fin 64) (n0 : Nat) (flips : List (Nat × Nat)) (bad : List Nat)
  /-- RAW_BLOCK_WRITE (R170): A raw block is written to its capture-ring slot, with an attribute log entry when its
  attributes change. conv are the converter results of its 64 samples in 1/64 code, ahead those that follow, as far as the filters
  reach. -/
  | rawBlockWrite (ch : Fin 64) (n : Nat) (conv : List Int) (ahead : List Int)
  /-- MODULE_ID_WRITE (R66): A write of MGT_MODULE_ID sets the module ID from the next frame boundary on each lane.
  -/
  | moduleIdWrite (p : Fin 10) (id : BitVec 16)
  /-- UNIT_ENABLE_WRITE (R52): A write of AFE_UNIT_EN is checked as a stream configuration change. -/
  | unitEnableWrite (p : Fin 10) (half : Fin 2) (w : Word)
  /-- UNIT_ENABLE_TAKE_EFFECT (R52): An accepted unit enable change takes effect at the channel's next packet
  boundary. -/
  | unitEnableTakeEffect
  /-- STATION_WIDE_REPORT (R69): After the reporting interval and a random delay, the report of a station-wide event
  is sent on class 0. -/
  | stationWideReport (e : Fin 256)
  /-- REGION_FAULT (R59): A fault of a region's PLL, power domain or bundle takes out that region and opens one
  region incident. -/
  | regionFault (r : Fin 4) (kind : Fin 2)
  /-- CAL_SOURCE_FAULT (R58): A fault of a cluster calibration source is reported once, and the cluster stops
  accepting calibrations. -/
  | calSourceFault (g : Fin 16)
  /-- THERMAL_THRESHOLD (R62): A die whose temperature on a tick is above its threshold triggers that die's thermal
  action. -/
  | thermalThreshold (d : Fin 5) (tj : Int)
  /-- THERMAL_RECOVER (R62): A thermal action is undone once the die has cooled 10 °C below its threshold. -/
  | thermalRecover (d : Fin 5) (tj : Int)
  /-- RANGE_WRITE (R77): A write of AFE_RANGE sets PENDING and schedules a range change. -/
  | rangeWrite (p : Fin 10) (ch : Fin 64) (w : Word)
  /-- RANGE_CHANGE_APPLY (R76): A range change takes effect at block count N_c, and the affected blocks carry
  RANGE_CHG and SETTLE. -/
  | rangeChangeApply (ch : Fin 64)
  /-- AUTO_RANGE_DECISION (R84): At the end of each dwell window, the auto-ranger schedules a range step up or down.
  -/
  | autoRangeDecision (ch : Fin 64)
  /-- AR_THR_WRITE (R85): A write of AFE_AR_THR is refused unless 1000 × HI > 1303 × LO. -/
  | arThrWrite (p : Fin 10) (w : Word)
  /-- FEED_STATE_TICK (R87): On each tick the keeper evaluates the state of each feed from its latched comparators.
  -/
  | feedStateTick (current : List Nat) (opened : BitVec 32) (lineUp : BitVec 32) (back : BitVec 32)
  /-- FEED_EN_WRITE (R87): A write of AFE_FEED_EN switches feeds on with soft start, or off. -/
  | feedEnWrite (p : Fin 10) (w : Word)
  /-- FEED_OVERLOAD_TRIP (R90): A feed held in current limit past its time is switched off and enters OVERLOAD. -/
  | feedOverloadTrip (a : Fin 32)
  /-- FEED_RETRY (R90): 100 ticks after an overload, the keeper switches the feed on again with a new soft start. -/
  | feedRetry (a : Fin 32)
  /-- FEED_SWEEP (R91): A SWEEP write starts a test-pulse sweep for shorts between feeds. -/
  | feedSweep (p : Fin 10)
  /-- FEED_SWEEP_PERIODIC (R91): With PERIODIC set, a sweep starts every PERIOD_S seconds. -/
  | feedSweepPeriodic
  /-- FEED_SWEEP_START_UP (R91): After a cold start, a sweep starts once all enabled feeds have left soft start. -/
  | feedSweepStartUp
  /-- FEED_TEST_PULSE (R91): On a tick of a sweep, the next eligible feed is switched off and connected to the
  discharge sink. -/
  | feedTestPulse (before : List Nat)
  /-- FEED_PULSE_END (R91): At the end of a test pulse, the keeper compares the line, names any SHORTED feed and
  PARTNER, and restores the feed. -/
  | feedPulseEnd (lineHigh : Bool) (now : List Nat)
  /-- FEED_SWEEP_END (R91): One tick after the last pulse, the sweep ends and clears BUSY. -/
  | feedSweepEnd
  /-- VFEED_UNDERVOLTAGE (R94): VFEED below its under-voltage threshold puts all feeds into NO_SUPPLY and opens one
  keeper incident. -/
  | vfeedUndervoltage (mv10 : Nat)
  /-- VFEED_RECOVER (R87): When VFEED recovers, each feed returns to the state that its EN gives. -/
  | vfeedRecover (mv10 : Nat)
  /-- BG_WINDOW_END (R102): At the end of each background update window, the estimator moves the factors or updates
  HOLD and CONVERGED. levels are the estimated errors of offset and gain of the slices, from their means and powers, edges those of
  timing and bandwidth, from the cross-correlations. -/
  | bgWindowEnd (ch : Fin 64) (levels : List Int) (share : Nat) (spur : Nat) (edges : List Int)
  /-- REHEARSAL_START (R106): A nonzero START mask in ADC_REH_CMD starts Rehearsal in the named regions. -/
  | rehearsalStart (p : Fin 10) (mask : BitVec 4)
  /-- REHEARSAL_CONNECT (R107): At switch count N_s, the region's enabled units connect to their cluster calibration
  sources. -/
  | rehearsalConnect (r : Fin 4)
  /-- REHEARSAL_PHASE (R108): Each Rehearsal phase begins at its sample count and drives and measures its source
  signal. -/
  | rehearsalPhase (r : Fin 4) (meas : List Int)
  /-- REHEARSAL_RECONNECT (R107): At N_r the antenna inputs reconnect, and background correction resumes. The region, and
  the junction temperature of its die. -/
  | rehearsalReconnect (seen : Fin 4 × Int)
  /-- CAL_SAVE (R113): A SAVE command starts writing a calibration set into the alternate flash slot. -/
  | calSave (p : Fin 10)
  /-- CAL_SAVE_DONE (R113): The write and check of a saved calibration set complete, and SAVE_BUSY clears. -/
  | calSaveDone (ok : Bool)
  /-- CAL_LOAD (R113): A LOAD command copies the newest valid saved set, or the factory set, into ADC_CAL. -/
  | calLoad (p : Fin 10)
  /-- REGION_PLL_LOCK (R115): When a region PLL achieves lock, the phase detector's reading replaces the region
  phase. -/
  | regionPllLock (r : Fin 4) (reading : Int)
  /-- INJECT_REQUEST (R119): A write of ADC_INJ_REQ queues an injected conversion in the cluster queue. -/
  | injectRequest (p : Fin 10) (w : Word)
  /-- INJECT_WINDOW_START (R120): At N_i the calibration source is connected to the channel for 1024 samples. -/
  | injectWindowStart (g : Fin 16)
  /-- INJECT_COMPLETE (R120): The injection window ends, the antenna reconnects, and the completion is issued with
  its status. -/
  | injectComplete (g : Fin 16)
  /-- SKEW_WRITE (R128): A write of FLT_SKEW schedules a new effective skew. -/
  | skewWrite (p : Fin 10) (ch : Fin 64) (w : Word)
  /-- SKEW_CHANGE_APPLY (R128): A new effective skew takes effect at N_k, with SETTLE on the affected blocks. -/
  | skewChangeApply (ch : Fin 64)
  /-- SKEW_CAL_REQUEST (R129): A write of FLT_SKEW_CAL queues a skew calibration of each named cluster. -/
  | skewCalRequest (p : Fin 10) (mask : BitVec 16)
  /-- SKEW_CAL_COMPLETE (R129): A skew calibration ends, writes FLT_SKEW_MEAS and issues its completion. -/
  | skewCalComplete (g : Fin 16) (meas : List Int)
  /-- NOTCH_WRITE (R131): A write of FLT_NOTCH is checked against the limits and schedules a notch change. -/
  | notchWrite (p : Fin 10) (j : Fin 512) (w : Word)
  /-- NOTCH_BW_WRITE (R131): A write of FLT_NOTCH_BW is clamped, checked and, for an enabled notch, scheduled as a
  notch change. -/
  | notchBwWrite (p : Fin 10) (j : Fin 512) (w : Word)
  /-- NOTCH_CHANGE_APPLY (R132): A notch change takes effect at N_k, with SETTLE over its settling length. -/
  | notchChangeApply (ch : Fin 64)
  /-- FIR_BANK_SWAP (R135): A write of FLT_CHAIN.SWAP schedules the shadow FIR bank to become active. -/
  | firBankSwap (p : Fin 10) (ch : Fin 64)
  /-- CHAIN_CONFIG_WRITE (R135): A write of DECIM or ORDER schedules a chain change, subject to admission. -/
  | chainConfigWrite (p : Fin 10) (ch : Fin 64) (decim : Fin 4) (order : Fin 4)
  /-- CHAIN_CHANGE_APPLY (R135): A chain change takes effect at N_x, with SETTLE on the affected stream blocks. -/
  | chainChangeApply (ch : Fin 64)
  /-- SPECTRUM_FRAME (R138): A channeliser completes frame m, marks it, and passes its record on. ups says of each bin
  whether its level, whose rounding is open, is rounded up. -/
  | spectrumFrame (ch : Fin 64) (m : Nat) (ups : List Bool)
  /-- PROTOTYPE_SWAP (R144): A write of CHN_CTL.SWAP schedules a swap of the prototype banks. -/
  | prototypeSwap (p : Fin 10)
  /-- PROTOTYPE_SWAP_APPLY (R144): At the first eligible frame boundary, all channelisers switch to the new
  prototype bank. -/
  | prototypeSwapApply
  /-- CHN_EN_WRITE (R145): A write of CHN_CTL.EN stops the channelisers or restarts them at the next frame boundary.
  -/
  | chnEnWrite (p : Fin 10) (en : Bool)
  /-- FRAME_RECORD (R154): A frame record reaches the watch cells and mask tests and updates every cell of the
  channel. -/
  | frameRecord
  /-- K_CHANGE (R155): A write of WCH_CHAN.K puts the channel into PRIMING at the next frame. -/
  | kChange (p : Fin 10) (ch : Fin 64) (k : Fin 32)
  /-- SEG_SWAP (R155): A write of WCH_CTL.SEG_SWAP schedules a swap of the threshold segment banks. -/
  | segSwap (p : Fin 10)
  /-- SEG_SWAP_APPLY (R155): At the frame boundary, the segment banks swap, or the swap is refused for an invalid
  table. -/
  | segSwapApply
  /-- MASK_SWAP (R167): A write of WCH_CTL.MASK_SWAP schedules a swap of the mask banks. -/
  | maskSwap (p : Fin 10)
  /-- MASK_SWAP_APPLY (R163): The mask banks swap at the frame boundary, and every violation state clears with exit
  reason 2. -/
  | maskSwapApply
  /-- ECC_SWEEP (R156): The background sweep checks watch cells and zeroes and reports any cell that is
  uncorrectable. -/
  | eccSweep (ch : Fin 64) (sub : Fin 4096) (errors : Nat)
  /-- DETECTOR_WINDOW_END (R174): At the end of an estimation window, the impulse detector updates dc and noise. -/
  | detectorWindowEnd (ch : Fin 64)
  /-- IMPULSE_DETECTOR_FIRE (R174): An envelope at or above threshold makes the detector interpolate a peak and
  propose a cue. -/
  | impulseDetectorFire (ch : Fin 64) (n : Nat)
  /-- TRIGGER_INPUT_EDGE (R178): An accepted edge on TRIG_IN[n] is time-stamped and proposes a bit 3 or bit 4 cue.
  -/
  | triggerInputEdge (n : Fin 2) (k : Nat) (phi : Fin 64) (falling : Bool)
  /-- SOFTWARE_CUE (R173): A write of TRG_SW.FIRE proposes a bit 6 cue. -/
  | softwareCue (p : Fin 10)
  /-- CUE_PROPOSAL (R180): The cue engine takes a proposal through the prescaler, the blind check and merging. -/
  | cueProposal (i : Nat)
  /-- CUE_CLOSE (R181): At count c + 32,768 a cue closes and emits its record with its disposition. -/
  | cueClose
  /-- TRIG_OUT_END (R185): TRIG_OUT goes low when its pulse width expires. -/
  | trigOutEnd
  /-- BUDGET_INTERVAL_END (R189): At the end of each budget interval, each prescaler exponent is adjusted from the
  charge. -/
  | budgetIntervalEnd
  /-- SNIPPET_EXTRACT_START (R187): When the cue has closed and count end − 1 has been written, extraction of the
  snippet begins. -/
  | snippetExtractStart
  /-- SNIPPET_COMPLETE (R188): A snippet job finishes reading its blocks and emits its trailer. flips are coded bits that come out
  inverted, by channel, block and place, bad the blocks at which the second decoder errs (R216). -/
  | snippetComplete (id : BitVec 32) (size : Nat) (flips : List (Nat × Nat × Nat)) (bad : List (Nat × Nat))
  /-- FREEZE (R191): A write of TRG_CTL.FREEZE in ARMED sets FREEZE_PENDING and sets Z. -/
  | freeze (p : Fin 10)
  /-- FREEZE_STOP (R193): At count Z, ring writes stop, RING_STATE becomes FROZEN and a FREEZE mark is made. -/
  | freezeStop
  /-- REARM (R194): A write of TRG_CTL.REARM in FROZEN moves the ring to REARMING. -/
  | rearm (p : Fin 10)
  /-- REARM_LOG_CLEAR (R194): Once the active jobs have finished, the attribute log is cleared and R is set. -/
  | rearmLogClear (ns : Nat)
  /-- REARM_RESUME (R194): At count R, writes resume, RING_STATE becomes ARMED and a REARM mark is made. -/
  | rearmResume
  /-- READOUT_REQUEST (R195): A readout-request frame is checked for duplicates, converted to counts and answered
  with a header. -/
  | readoutRequest (req : BitVec 32) (len : BitVec 32) (t : BitVec 48) (map : BitVec 64)
  /-- READOUT_COMPLETE (R200): A readout finishes its data and emits its trailer with the final status. -/
  | readoutComplete (req : BitVec 32) (size : Nat) (flips : List (Nat × Nat × Nat)) (bad : List (Nat × Nat))
  /-- STREAM_APPLY (R210): A write of CDC_STREAM_CMD.APPLY commits the staged stream settings, subject to admission.
  -/
  | streamApply (p : Fin 10)
  /-- STREAM_APPLY_TAKE_EFFECT (R210): An accepted APPLY takes effect at each channel's next eligible packet
  boundary. -/
  | streamApplyTakeEffect
  /-- CODEC_JOB_START (R223): A waiting codec job starts when the previous job has completed, and its descriptor is
  checked. -/
  | codecJobStart
  /-- CODEC_JOB_COMPLETE (R221): A codec job ends and writes its completion entry with TOKEN and STATUS. -/
  | codecJobComplete (flips : List (Nat × Nat × Nat)) (bad : List (Nat × Nat))
  /-- CODEC_CANCEL (R222): A write of CDC_JOB_CTL.CANCEL stops the running job and completes the waiting jobs as
  CANCELLED. -/
  | codecCancel (p : Fin 10)
  /-- FRAME_START (R284): At a chance on a path, the frame builders in class order start a frame on a lane. -/
  | frameStart (path : Fin 2)
  /-- LINGER_EXPIRY (R236): When the oldest ready word of class 1 or 3 has waited its linger time, a part-filled
  frame may start. -/
  | lingerExpiry (cls : Fin 4)
  /-- QUEUE_FLUSH (R240): A FLUSH bit fixes the flush set of a class 2 sub-queue and discards its waiting packets.
  -/
  | queueFlush (p : Fin 10) (g : Fin 8)
  /-- QUEUE_FLUSH_DONE (R240): Once the in-progress packets are discarded and the read packet is done, FLUSH_BUSY
  clears. -/
  | queueFlushDone (g : Fin 8)
  /-- DROP3 (R241): A write of QUE_CMD.DROP3 cuts the class 3 packet being read, or sets DROP_NONE_SEEN. -/
  | drop3 (p : Fin 10)
  /-- DROP3_DONE (R241): The rest of the dropped packet is discarded through EOP, and DROP_BUSY clears. -/
  | drop3Done
  /-- HWM_RESET (R243): A write of QUE_HWM sets it to the present fill. -/
  | hwmReset (p : Fin 10) (q : Fin 12) (w : Word)
  /-- BRINGUP_ATTEMPT (R259): A lane starts a bring-up attempt and sends training groups. -/
  | bringupAttempt (n : Fin 24)
  /-- BRINGUP_FRAME_RECEIVED (R259): A received bring-up frame advances the RX_GOOD and partner counts, or sets
  MISMATCH. -/
  | bringupFrameReceived (n : Fin 24) (crcOk : Bool) (w : LWord)
  /-- LANE_UP (R259): After the final training groups, the lane enters UP. -/
  | laneUp (n : Fin 24)
  /-- BRINGUP_TIMEOUT (R260): An attempt that has not reached UP within 400 µs ends in WAIT, and repeated failures
  raise a lane fault. -/
  | bringupTimeout (n : Fin 24)
  /-- WAIT_EXPIRY (R260): After 100 µs in WAIT, a new attempt begins with a new seed. -/
  | waitExpiry (n : Fin 24)
  /-- SEED_RECEIVED (R251): An aligned receiver compares a received SEED with its scrambler state. -/
  | seedReceived (n : Fin 24) (seed : BitVec 31)
  /-- REALIGN (R255): A marker error or stuffing violation discards the frame and puts the receiver into REALIGN.
  The 33 line bits at the marker position, or none for a stuffing violation. -/
  | realign (n : Fin 24) (marker : Option (BitVec 33))
  /-- REALIGN_TIMEOUT (R261): REALIGN lasting more than 1.0 ms returns the lane to BRINGUP. -/
  | realignTimeout (n : Fin 24)
  /-- LOSS_OF_SIGNAL (R261): No line transitions for 100 ns return an UP lane to BRINGUP. -/
  | lossOfSignal (n : Fin 24)
  /-- PARTNER_TRAINING (R261): Training groups from the partner return an UP lane to BRINGUP. -/
  | partnerTraining (n : Fin 24)
  /-- RETRAIN (R261): A write of LNK_LANE_CTL.RETRAIN returns the lane to BRINGUP. -/
  | retrain (p : Fin 10) (n : Fin 24)
  /-- IDLE_ENTRY (R262): A transmitter idle for IDLE_US sends HUSH and stops driving. -/
  | idleEntry (n : Fin 24)
  /-- HUSH_RECEIVED (R262): A receiver that takes a HUSH enters its IDLE sub-state. -/
  | hushReceived (n : Fin 24)
  /-- FAST_EXIT (R263): A frame assigned to an idle transmitter wakes it with a burst, a SEED and a SYNC. -/
  | fastExit (n : Fin 24)
  /-- REFRESH_BURST (R264): Every 8 ms in IDLE, the transmitter sends a refresh burst. -/
  | refreshBurst (n : Fin 24)
  /-- CLR_ERR (R269): A write of LNK_CMD.CLR_ERR clears the violation and sync counters of all lanes. -/
  | clrErr (p : Fin 10)
  /-- LANE_SET_CHANGE (R267): A write of a path rate or lane EN is checked under admission and, if accepted,
  retrains the lanes concerned. -/
  | laneSetChange (p : Fin 10) (lane : Option (Fin 24)) (w : Word)
  /-- CLASS_POLICY_WRITE (R287): A write of LNK_CLASS_POL changes duplication policies, with class 2 subject to
  admission. -/
  | classPolicyWrite (p : Fin 10) (w : Word)
  /-- FRAME_RECEIVED (R293): A received downlink frame is checked for CRC, module, path, type, class and words. -/
  | frameReceived (n : Fin 24) (header : LWord) (payload : List LWord) (crc : BitVec 32) (k : Nat) (phi : Fin 1024)
  /-- CREDIT_FRAME (R281): A received CREDIT frame updates the cumulative limits of the path. -/
  | creditFrame (path : Fin 2) (w : LWord)
  /-- CREDIT_SEND (R282): The module sends a CREDIT frame when its class 1 limit has advanced by 8, or every 5 µs.
  -/
  | creditSend (path : Fin 2)
  /-- REORDER_TIMEOUT (R292): A frame held for a missing SEQ is passed on after REORDER, setting GAP_SEEN. -/
  | reorderTimeout
  /-- NUDGE (R332): An accepted NUDGE frame starts a poll, or merges with one that is pending. -/
  | nudge
  /-- MEM_RD_DATA (R294): A read answer delivers data for its outstanding read. -/
  | memRdData (lane : Fin 24) (tag : BitVec 16) (status : Fin 4) (data : List LWord)
  /-- MEM_WR_ERR (R295): A failed-write report stops the ring concerned or marks the command's output as failed.
  Its address and STATUS. -/
  | memWrErr (err : BitVec 64 × Fin 8)
  /-- MEM_READ_TIMEOUT (R295): A read without an answer within TIMEOUT_US is retired and reported. -/
  | memReadTimeout
  /-- MEM_PATH_CHANGE (R342): A change of the memory path stops memory transactions on the old path. -/
  | memPathChange
  /-- MEM_PATH_RESUME (R342): After TIMEOUT_US, the Prompter polls on the new path, rewrites slots and entries, and
  emits PATH_CHANGE records. -/
  | memPathResume
  /-- ORIGIN (R311): An ORIGIN frame on lane 0 or lane 12 is stamped as t2 of a time round. -/
  | origin (lane : Fin 24) (round : BitVec 16) (master : BitVec 16) (k : Nat) (phi : Fin 1024)
  /-- FOLLOW (R311): A FOLLOW frame supplies t1 of the round. -/
  | follow (lane : Fin 24) (round : BitVec 16) (ns : BitVec 64) (frac : BitVec 16)
  /-- PROBE_SEND (R311): 20 to 100 µs after t2, the module sends PROBE and stamps t3. -/
  | probeSend (path : Fin 2) (k : Nat) (phi : Fin 1024)
  /-- ANSWER (R313): An ANSWER frame supplies t4, and the module computes the round and sends REPORT. -/
  | answer (lane : Fin 24) (round : BitVec 16) (ns : BitVec 64) (frac : BitVec 16)
  /-- REBASE (R304): At N_e a new rate or step takes effect, and the offset is recomputed. -/
  | rebase
  /-- RELATION_REPEAT (R306): The relation record in force is repeated at least once per second. -/
  | relationRepeat
  /-- HEARTBEAT (R307): After 500 ms without a T48-bearing packet in class 1 or 3, a heartbeat is enqueued. -/
  | heartbeat (cls : Fin 4)
  /-- PATH_LOSS (R316): A time path without an accepted round for LOSS_ROUNDS × 62.5 ms stops being good. -/
  | pathLoss (path : Fin 2)
  /-- PPS_EDGE (R319): A PPS_IN edge is stamped and processed as a round in PPS mode. The count, and the phase
  with the edge's direction, true for a rising one. -/
  | ppsEdge (k : Nat) (phi : Fin 1024 × Bool)
  /-- PPS_LOSS (R319): Two missing PPS edges make PPS not good, a station-wide event. -/
  | ppsLoss
  /-- ACCEPT_JUMP (R317): A write of ACCEPT_JUMP in REFUSED makes one step at the next accepted round. -/
  | acceptJump (p : Fin 10)
  /-- ASYM_CAL (R320): A write of ASYM_CAL starts averaging CAL_N PPS edges against the path. -/
  | asymCal (p : Fin 10)
  /-- ASYM_CAL_DONE (R320): After CAL_N edges, TIM_ASYM_MEAS is written with VALID and BUSY clears. -/
  | asymCalDone
  /-- ASYM_APPLY (R320): A write of ASYM_APPLY copies a valid TIM_ASYM_MEAS into TIM_ASYM. -/
  | asymApply (p : Fin 10)
  /-- VOTE_CORRECTION (R322): A disagreeing copy of the time state is overwritten from the majority or taken out. -/
  | voteCorrection (c : Fin 3)
  /-- COMMIT (R330): A write of PRM_CTL.COMMIT checks the set-up and, if accepted, locks every RWL field and starts
  polling. -/
  | commit (p : Fin 10)
  /-- POLL_START (R331): A poll reads the doorbell slots when the interval has elapsed and the previous poll is
  complete. -/
  | pollStart
  /-- POLL_COMPLETE (R331): Both doorbell answers arrive, the indices are checked, and descriptors are fetched. -/
  | pollComplete
  /-- RING_RESUME (R329): A RESUME write restarts a stopped ring if the indices of the next poll are valid. -/
  | ringResume (p : Fin 10) (ring : Fin 36)
  /-- NOP (R334): The NOP command completes with DONE. -/
  | nop
  /-- FENCE (R334): The FENCE command starts once every earlier command of its ring has completed. -/
  | fence
  /-- REG_WR (R334): The REG_WR command writes a register and completes with a status. -/
  | regWr
  /-- REG_RD (R334): The REG_RD command reads a register into its completion entry. -/
  | regRd
  /-- BLOCK_RD (R334): The BLOCK_RD command copies register or window space into host memory. -/
  | blockRd
  /-- INJECT (R334): The INJECT command requests an injected conversion and completes with its status and N_i. -/
  | inject (ns : Nat)
  /-- CODEC (R217): The CODEC command queues a codec job for the L engines. -/
  | codec
  /-- SAFETY_CYCLE (R349): Each 1 ms safety cycle, the three voter channels evaluate inputs, position and functions,
  and vote the curtain switches. What the balls of the monitor show (R349, R352, R355, R356, R359, R360): the samples of the safe
  inputs in 10 us steps since the last cycle, bits 0 to 7 SI_A and 8 to 15 SI_B; the encoder edges counted up and down, a line
  break or an illegal transition, and the change of the count up to a Z pulse; the SSI frame, with DATA before the first clock
  (bit 0 of line: high) and after the last one (bit 1: low), and the pair open (bit 2); VAUX24 and the balls FC_H and FC_L of
  each curtain in 10 mV; the voter channel whose results differ (0 none, else its number plus 1); and the cycle's length in
  microseconds by the channels' oscillators. -/
  | safetyCycle (samples : List (BitVec 16)) (up : Nat) (down : Nat) (cut : Bool) (z : Option Int) (ssi : Nat) (line : Nat)
      (vaux : Nat) (balls : List (Nat × Nat)) (differ : Nat) (cycleUs : Nat)
  /-- SI_TEST_PULSE (R353): A test pulse of TP_A or TP_B is checked at its last sample for each input with TP_EN
  set. -/
  | siTestPulse (source : Fin 2) (a : BitVec 8) (b : BitVec 8)
  /-- CURTAIN_TEST (R359): Every TEST_PERIOD_S, each switch of a closed curtain is pulsed off and its readback
  checked. -/
  | curtainTest (balls : List (Nat × Nat))
  /-- SAFETY_STATUS_SEND (R362): Every 4 ms the monitor sends a STATUS telegram on both paths. -/
  | safetyStatusSend
  /-- SAFETY_COMMAND (R363): A COMMAND telegram copy acts on its safer parts at once and on the others when both
  copies agree. -/
  | safetyCommand (path : Fin 2) (w0 : LWord) (w1 : LWord)
  /-- COMMAND_COPY_TIMEOUT (R364): A missing copy or command for 20 ms marks the lagging path or both paths lost. -/
  | commandCopyTimeout
  /-- DEGRADED_EXPIRY (R366): DEG_TIME_S in DEGRADED raises fault 0x5401 and leads to LOCKOUT. -/
  | degradedExpiry
  /-- SAFE_RESET_RELEASE (R368): The release of a valid SAFE_RESET press opens the 5 s window for the ACK. -/
  | safeResetRelease (ms : Nat)
  /-- SAFE_RESET_STUCK (R368): A SAFE_RESET press held past 2000 ms is ignored and sets RESET_STUCK. -/
  | safeResetStuck
  /-- SAFETY_ACK (R368): An agreed ACK carrying LOCK_SEQ clears the lock-out when the cause is gone. -/
  | safetyAck (path : Fin 2) (w0 : LWord) (w1 : LWord)
  /-- SAFETY_PARAM (R370): An agreed pair of PARAM telegrams writes one word of the staged safety set. -/
  | safetyParam (path : Fin 2) (w0 : LWord) (w1 : LWord)
  /-- SAFETY_ACTIVATE (R370): An agreed ACTIVATE telegram activates the staged set if its checks pass, or is
  refused. -/
  | safetyActivate (path : Fin 2) (w0 : LWord) (w1 : LWord) (w2 : LWord)
  /-- SENSOR_PULSE (R377): In a tick's pulse slot, the excitation of the due slow-sensor input switches on. -/
  | sensorPulse (parity : Fin 2)
  /-- SENSOR_CONVERSION (R378): At the end of a pulse, CODE, VALUE and OPEN are written. -/
  | sensorConversion (parity : Fin 2) (s1 : BitVec 16) (s2 : BitVec 16) (above : Bool) (t1 : BitVec 16) (t2 : BitVec 16) (tabove : Bool)
  /-- SWITCH_EVALUATE (R381): On the tick after a conversion, the input's threshold switches apply their debounce
  rule and act. -/
  | switchEvaluate (i : Fin 16)
  /-- STAGE_TICK (R393): On each tick the shedding controller enters a deeper stage in force with all intermediate
  actions. -/
  | stageTick (vins : List (BitVec 14)) (vaux : BitVec 12) (vfeed : BitVec 12) (power : BitVec 10)
  /-- STAGE_RESTORE (R393): After 100 ticks in a stage with a shallower stage in force, the controller moves up one
  stage. -/
  | stageRestore
  /-- FORCE_STAGE (R392): A write of PWR_FORCE sets the host's forced stage. -/
  | forceStage (p : Fin 10) (k : Fin 8)
  /-- SHEDDING_NOTICE (R396): A shedding notice goes out on class 0, at most once per 100 ms. -/
  | sheddingNotice
  /-- KEEPER_POWER_FAIL (R390): The unfiltered comparator raises keeper power-fail, which enters S5 at once. -/
  | keeperPowerFail
  /-- ORDERLY_STOP (R398): Entry into S5 stops the data plane, opens the curtains and commits the prompt book. -/
  | orderlyStop (vins : List (BitVec 14))
  /-- KEEPER_RESTART (R398): After S5, the keeper makes a cold start once VIN and its temperature allow. -/
  | keeperRestart (straps : BitVec 4) (tj : Int)
  /-- KEEPER_DROP_OUT (R390): VIN below the drop-out stops the keeper. -/
  | keeperDropOut
  /-- VIN_OVERVOLTAGE (R388): 101 consecutive samples above 75 V set OV_SEEN and open incident 0x4302. -/
  | vinOvervoltage (vins : List (BitVec 14))
  /-- RAIL_FAULT (R389): A rail more than 5% from its setpoint for 10 µs raises fault 0x4301. -/
  | railFault (rail : Fin 4) (scope : Fin 5)
  /-- REGION_RESTORE (R394): A region powered up by a stage change resumes ingest at the first eligible count after
  lock. -/
  | regionRestore (r : Fin 4)
  /-- PB_COMMIT (R400): A write of PWR_CMD.PB_COMMIT starts a HOST prompt book commit. -/
  | pbCommit (p : Fin 10)
  /-- PB_PERIODIC_COMMIT (R400): Every PERIOD_S seconds a PERIODIC prompt book commit starts. -/
  | pbPeriodicCommit
  /-- PB_COMMIT_DONE (R401): A commit's record is read back, and a failed record is repeated once. -/
  | pbCommitDone (ok : Bool)
  /-- VIN_CLR_MIN (R404): A write of PWR_CMD.CLR_MIN sets MIN_10MV to the present VIN. -/
  | vinClrMin (p : Fin 10)
  /-- COLD_RESET (R411): VIN rising through the keeper boot threshold starts the cold start sequence. -/
  | coldReset (straps : BitVec 4)
  /-- RESET_N_ASSERT (R408): A filtered low on RESET_N starts a warm reset and holds CX and the QF dies in reset. -/
  | resetNAssert
  /-- RESET_N_RELEASE (R408): After 10 µs high, start-up continues from step 3. -/
  | resetNRelease (straps : BitVec 4)
  /-- WARM (R406): A keyed write of MGT_RESET_CMD.WARM starts a warm reset. -/
  | warm (p : Fin 10)
  /-- RESTART (R414): A keyed write of MGT_RESET_CMD.RESTART starts a data-plane restart. -/
  | restart (p : Fin 10)
  /-- RESTART_INGEST_STOP (R414): Ingest stops at the next common multiple of 1024, and jobs end and queues empty.
  -/
  | restartIngestStop
  /-- RESTART_RESUME (R414): Ingest resumes, the ring restarts with a RING_RESET mark, and RESTART_BUSY clears. -/
  | restartResume (us : Nat)
  /-- STUCK_RESET (R409): RESET_N low for 30 s is stuck: incident 0x4401, ALERT and an optional release with
  OVERRIDE. -/
  | stuckReset (straps : BitVec 4)
  /-- OVERRIDE_CLEAR (R409): OVERRIDE clears after RESET_N has stayed high for 1000 ticks. -/
  | overrideClear
  /-- STARTUP_REHEARSAL (R411): With AUTO_REHEARSAL set, start-up runs Rehearsal in all powered regions once time is
  acquired. -/
  | startupRehearsal (ns : Nat)
  /-- STARTUP_READY (R411): The start-up sequence issues APPLY if the image enables the stream and sets READY. -/
  | startupReady
  /-- TIME_WAIT_EXPIRY (R412): Time not LOCKED within TIME_WAIT_S sets TIME_WAIT_EXPIRED and continues the sequence.
  -/
  | timeWaitExpiry
  /-- FAULT_REPORT (R421): A fault report opens an incident, counts in an open one, or folds into a root. -/
  | faultReport (code : BitVec 16) (place : BitVec 16) (detail : BitVec 32)
  /-- INCIDENT_HOLD_EXPIRY (R423): After its 2 ms hold, a dependent incident without a root is reported. -/
  | incidentHoldExpiry (e : Fin 256)
  /-- INCIDENT_CLOSE_TIMER (R421): An incident closes when its condition has cleared and no report has come for 10
  ms. -/
  | incidentCloseTimer (e : Fin 256) (cleared : Bool)
  /-- INCIDENT_REPORT_SEND (R426): A pending incident report is sent on class 0 once its 100 ms spacing and the
  class 0 rate allow. -/
  | incidentReportSend (e : Fin 256)
  /-- CLOSE (R421): A write of FAU_CMD.CLOSE closes the named open entry at once. -/
  | close (p : Fin 10) (e : Fin 256)
  /-- PURGE_PREVIOUS (R436): A write of PURGE_PREVIOUS makes every PREVIOUS entry FREE. -/
  | purgePrevious (p : Fin 10)
  /-- CONFIG_SCRUB (R430): The scrub reads a configuration word and rewrites a disagreeing copy. -/
  | configScrub (a : BitVec 32) (kind : Fin 3)
  /-- FLASH_REFRESH (R431): Every 337.5 s the refresh reads one flash block, and copies or retires it as needed. -/
  | flashRefresh (worst : Fin 4) (eraseOk : Bool) (item : Nat)
  /-- TELEMETRY (R433): At each whole second of network time a telemetry packet is sent in class 3. -/
  | telemetry
  /-- SNAP (R440): A write of PMC_CMD.SNAP latches all 528 counters at one instant. -/
  | snap (p : Fin 10)
  /-- CLR_WRAP (R445): A write of PMC_CMD.CLR_WRAP clears all sticky wrap bits. -/
  | clrWrap (p : Fin 10)
  /-- DUMP_NOW (R443): A write of PMC_CMD.DUMP_NOW latches and dumps the counters at once. -/
  | dumpNow (p : Fin 10)
  /-- PERIODIC_DUMP (R443): Every PERIOD_MS-th tick at S0, a dump falls due and is latched, or skipped. -/
  | periodicDump
  /-- FOCUS_CONFIG_WRITE (R441): A write of a focus filter resets its counter to 0 and clears its WRAPPED bit. -/
  | focusConfigWrite (p : Fin 10) (f : Fin 16) (loc : Bool) (w : Word)
  /-- TRACER_RECORD (R448): A tagged block reaching point 9, or discarded, produces a tracer record. -/
  | tracerRecord (i : Nat) (offsets : List (Option Nat))
  /-- SMBUS_WRITE (R476): SMBus command 0x10 writes a 32-bit register. -/
  | smbusWrite (a : BitVec 32) (w : Word) (pecOk : Bool)
  /-- SMBUS_SET_READ_ADDRESS (R476): SMBus command 0x11 sets the port's read address. -/
  | smbusSetReadAddress (a : BitVec 32) (pecOk : Bool)
  /-- SMBUS_READ (R476): SMBus command 0x12 reads the register at the read address and adds 4 to the address. -/
  | smbusRead
  /-- ALERT_RESPONSE (R476): An Alert Response Address read releases SMB_ALERT_N. -/
  | alertResponse
  /-- UART_WRITE (R478): A management UART frame with OP 0x10 writes a register and is answered. -/
  | uartWrite (a : BitVec 32) (w : Word) (crc : BitVec 8)
  /-- UART_READ (R478): A management UART frame with OP 0x12 reads a register and returns its value. -/
  | uartRead (a : BitVec 32) (w : Word) (crc : BitVec 8)
  /-- KEY_PROVISIONING (R370): A management UART frame with OP 0x30 provisions the safety key while the monitor is
  DISABLED or locked out. -/
  | keyProvisioning (key : BitVec 128) (crcOk : Bool)
  /-- JTAG_TEST_LOGIC_RESET (R477): A JTAG test-logic reset selects IDCODE. -/
  | jtagTestLogicReset
  /-- BYPASS (R477): The JTAG BYPASS instruction selects the bypass register. -/
  | bypass
  /-- IDCODE (R477): The JTAG IDCODE instruction returns the device identification code. -/
  | idcode
  /-- SAMPLE_PRELOAD (R477): The JTAG SAMPLE/PRELOAD instruction samples or preloads the boundary-scan register. -/
  | samplePreload (balls : BitVec 64) (shifted : BitVec 64)
  /-- EXTEST (R477): The JTAG EXTEST instruction drives the scanned balls from the boundary-scan register. -/
  | extest (balls : BitVec 64) (shifted : BitVec 64)
  /-- CLAMP (R477): The JTAG CLAMP instruction holds the scanned outputs and selects bypass. -/
  | clamp
  /-- HIGHZ (R477): The JTAG HIGHZ instruction places the scanned outputs in high impedance. -/
  | highz
  /-- UNIT_FAILURE (R55): A unit fails, its blocks carry POISON from then on and its faults carry the unit's
  location code. -/
  | unitFailure (ch : Fin 64)
  /-- DIE_FAULT (R63): A fault common to a die, a QF die's analog supply or a CX fault, takes out both regions of
  that QF die or stops the whole data plane. -/
  | dieFault (d : Fin 3)
  /-- REFCLK_RETURN (R27): REFCLK comes back, and the slow tick is again derived from it and marked synchronised. -/
  | refclkReturn
  /-- LANE_PLL_UNLOCK (R257): A lane's PLL loses lock, and the lane goes OFF. -/
  | lanePllUnlock (n : Fin 24)
  /-- SEED_FOUND (R255): A receiver without alignment, in REALIGN, in bring-up or waking from IDLE, finds 32 zeros
  and a 1, loads the seed and resumes aligned parsing. -/
  | seedFound (n : Fin 24) (seed : BitVec 31) (followed : Bool)
  /-- CONFIGURATION_IMAGE_LOADED (R411): The flash load of start-up step 3 completes, feeds and sensors start, CX is
  powered and lanes begin bring-up. -/
  | configurationImageLoaded (slot : Fin 2) (failed : Fin 3) (valid : Bool) (image : List (Nat × Nat)) (sensorCal : Bool) (safOk : Bool)
  /-- OVER_VOLTAGE_END (R388): A filtered VIN sample at or below 75 V ends the over-voltage condition, so incident
  0x4302 can close. -/
  | overVoltageEnd
  /-- CURTAIN_OVERLOAD (R359): A curtain load current above the trip level turns both switches of the pair off
  within 50 µs and raises fault 0x5500 + n. -/
  | curtainOverload (n : Fin 2)
  /-- SAFETY_SET_WRITTEN (R370): The flash write of an activated safety set completes, SAF_SET_CRC is updated and
  the monitor enters STO or DISABLED. -/
  | safetySetWritten
  /-- UART_FRAME_GAP (R478): A gap of more than 10 ms between bytes of a management UART frame discards the partial
  frame without an answer. -/
  | uartFrameGap
  /-- SMBUS_CLOCK_LOW_TIMEOUT (R476): The SMBus clock held low for 25 to 35 ms aborts the transaction in progress.
  -/
  | smbusClockLowTimeout
  deriving DecidableEq, Repr

end Sys2Proof
end

