-- ==== Sys2Proof/Config.lean ====
section
/-! DEFINITION. What one implementation fixes and the manual leaves open: opaque constants without a body, so that
nothing can be proved of their values. -/

namespace Sys2Proof.Config

/-- The free values: the value taken the n-th time the manual leaves one open, n being the counter State.free
(log entry 6). -/
opaque freeNat : Nat → Nat

/-- The built-in channeliser prototype (R147): its 18-bit coefficients, which the manual does not publish. -/
opaque protoBuiltin : Nat → Nat

/-- The factory calibration set (R114): 2048 factors of 16 bits, written at production. -/
opaque factoryCal : Nat → Nat

/-- The measured excitation current in nA of slow-sensor input i at an IEXC code, as the calibration set holds it (R375,
R386); it was measured at production and the manual gives no value. -/
opaque iexcCal : Nat → Nat → Nat

/-- Tap i of the skew correction's 16-tap interpolator at phase f of 256, in 2^-32 (R127): the manual bounds its response
and gives no tap. -/
opaque interpTap : Nat → Nat → Int

/-- Tap i of the 15-tap first-derivative filter of the interleave correction, in 2^-32 (R99), which the manual does not
publish. -/
opaque derivTap : Nat → Int

/-- Tap i of the 15-tap filter matched to the bandwidth error of a track-and-hold, in 2^-32 (R99), which the manual does not
publish. -/
opaque bandTap : Nat → Int

/-- Does a quotient whose rounding the manual leaves open round up: by the place where it is formed, its numerator and its
denominator (log entry 68)? -/
opaque roundUp : Nat → Int → Nat → Bool

/-- The level in 1/256 dB that the channeliser's transform of a full-scale sine at a subband centre has with the built-in
prototype (R140, R142): it follows from coefficients that the manual does not publish. -/
opaque binRef : Int

/-- What stands for the sample of a channel at a count at which it took none, where a later sample needs it: after the end
of a run, and in a gap within a frame's span (R60, R141). -/
opaque gapSample : Nat → Nat → Int

/-- The delay of a stream packet's blocks in their encoder beyond the least one, by channel and first raw count (R47). -/
opaque encoderDelay : Nat → Nat → Nat

/-- TX_UI and RX_UI of a lane rate in Gbit/s, as they were measured in production and stand in the calibration set (R312): the
manual gives typical values alone. -/
opaque laneLatency : Nat → Nat × Nat

/-- The silicon step of the module: false step A, true step B (R6, R477). -/
opaque stepB : Bool

end Sys2Proof.Config
end

