-- ==== Sys2Proof/Machine/Fields.lean ====
section
/-! DEFINITION. The names of the registers and of their fields, with the places the register tables of the manual give
them (the tables named in R455). A register name is its address (of instance 0, for an array); a field name is the
field of instance i at base + stride i. -/

namespace Sys2Proof.Machine

/-- The place of a field: address of instance 0, stride between instances, lowest bit and width. -/
structure Fld where
  base : Nat
  stride : Nat
  lo : Nat
  width : Nat
  deriving DecidableEq, Repr

namespace F

/-- MGT_RESET_CAUSE (17_resets_and_start_up.md, R417). -/
def MGT_RESET_CAUSE : Nat := 0x0
abbrev MGT_RESET_CAUSE_KIND : Fld := ⟨0x0, 4, 0, 2⟩
abbrev MGT_RESET_CAUSE_OVERRIDE : Fld := ⟨0x0, 4, 2, 1⟩
abbrev MGT_RESET_CAUSE_CMD_PORT : Fld := ⟨0x0, 4, 3, 2⟩
/-- MGT_RESET_CMD (17_resets_and_start_up.md, R417). -/
def MGT_RESET_CMD : Nat := 0x4
abbrev MGT_RESET_CMD_WARM : Fld := ⟨0x4, 4, 0, 1⟩
abbrev MGT_RESET_CMD_RESTART : Fld := ⟨0x4, 4, 1, 1⟩
abbrev MGT_RESET_CMD_KEY : Fld := ⟨0x4, 4, 16, 16⟩
/-- MGT_CFG (17_resets_and_start_up.md, R417). -/
def MGT_CFG : Nat := 0x8
abbrev MGT_CFG_STUCK_RESET_RELEASE : Fld := ⟨0x8, 4, 0, 1⟩
abbrev MGT_CFG_AUTO_REHEARSAL : Fld := ⟨0x8, 4, 1, 1⟩
abbrev MGT_CFG_TIME_WAIT_S : Fld := ⟨0x8, 4, 8, 4⟩
/-- MGT_START_STAT (17_resets_and_start_up.md, R417). -/
def MGT_START_STAT : Nat := 0xC
abbrev MGT_START_STAT_PHASE : Fld := ⟨0xC, 4, 0, 4⟩
abbrev MGT_START_STAT_READY : Fld := ⟨0xC, 4, 4, 1⟩
abbrev MGT_START_STAT_FW_SLOT : Fld := ⟨0xC, 4, 5, 1⟩
abbrev MGT_START_STAT_IMAGE_VALID : Fld := ⟨0xC, 4, 6, 1⟩
abbrev MGT_START_STAT_TIME_WAIT_EXPIRED : Fld := ⟨0xC, 4, 7, 1⟩
abbrev MGT_START_STAT_RESTART_BUSY : Fld := ⟨0xC, 4, 8, 1⟩
/-- MGT_MODULE_ID (02_hierarchy.md, R71). -/
def MGT_MODULE_ID : Nat := 0x10
abbrev MGT_MODULE_ID_ID : Fld := ⟨0x10, 4, 0, 16⟩
/-- MGT_STRAP (17_resets_and_start_up.md, R417). -/
def MGT_STRAP : Nat := 0x14
abbrev MGT_STRAP_RECOVERY : Fld := ⟨0x14, 4, 0, 1⟩
abbrev MGT_STRAP_DEFAULT_IMAGE : Fld := ⟨0x14, 4, 1, 1⟩
abbrev MGT_STRAP_SMB_ADDR : Fld := ⟨0x14, 4, 2, 2⟩
/-- MGT_RESET_EVT (17_resets_and_start_up.md, R417). -/
def MGT_RESET_EVT : Nat := 0x18
abbrev MGT_RESET_EVT_RESETN_SEEN : Fld := ⟨0x18, 4, 0, 1⟩
abbrev MGT_RESET_EVT_CMD_SEEN : Fld := ⟨0x18, 4, 1, 1⟩
abbrev MGT_RESET_EVT_STUCK_SEEN : Fld := ⟨0x18, 4, 2, 1⟩
abbrev MGT_RESET_EVT_RESETN_CNT : Fld := ⟨0x18, 4, 8, 8⟩
abbrev MGT_RESET_EVT_CMD_CNT : Fld := ⟨0x18, 4, 16, 8⟩
abbrev MGT_RESET_EVT_STUCK_CNT : Fld := ⟨0x18, 4, 24, 8⟩
/-- PWR_STAGE (16_power_and_shedding.md, R404). -/
def PWR_STAGE : Nat := 0x10000
abbrev PWR_STAGE_STAGE : Fld := ⟨0x10000, 4, 0, 3⟩
abbrev PWR_STAGE_VIN_STAGE : Fld := ⟨0x10000, 4, 3, 3⟩
abbrev PWR_STAGE_REQ_STAGE : Fld := ⟨0x10000, 4, 6, 3⟩
abbrev PWR_STAGE_CAUSE : Fld := ⟨0x10000, 4, 9, 6⟩
abbrev PWR_STAGE_RESTORING : Fld := ⟨0x10000, 4, 15, 1⟩
/-- PWR_FORCE (16_power_and_shedding.md, R404). -/
def PWR_FORCE : Nat := 0x10004
abbrev PWR_FORCE_STAGE : Fld := ⟨0x10004, 4, 0, 3⟩
/-- PWR_VIN (16_power_and_shedding.md, R404). -/
def PWR_VIN : Nat := 0x10008
abbrev PWR_VIN_VIN_10MV : Fld := ⟨0x10008, 4, 0, 14⟩
abbrev PWR_VIN_MIN_10MV : Fld := ⟨0x10008, 4, 16, 14⟩
/-- PWR_AUX (16_power_and_shedding.md, R404). -/
def PWR_AUX : Nat := 0x1000C
abbrev PWR_AUX_VAUX24_10MV : Fld := ⟨0x1000C, 4, 0, 12⟩
abbrev PWR_AUX_VFEED_10MV : Fld := ⟨0x1000C, 4, 16, 12⟩
/-- PWR_POWER (16_power_and_shedding.md, R404). -/
def PWR_POWER : Nat := 0x10010
abbrev PWR_POWER_INPUT_DW : Fld := ⟨0x10010, 4, 0, 10⟩
/-- PWR_EVT (16_power_and_shedding.md, R404). -/
def PWR_EVT : Nat := 0x10014
abbrev PWR_EVT_SHED_SEEN : Fld := ⟨0x10014, 4, 0, 1⟩
abbrev PWR_EVT_OV_SEEN : Fld := ⟨0x10014, 4, 1, 1⟩
abbrev PWR_EVT_PB_FAIL_SEEN : Fld := ⟨0x10014, 4, 2, 1⟩
abbrev PWR_EVT_SHED_CNT : Fld := ⟨0x10014, 4, 8, 8⟩
abbrev PWR_EVT_OV_CNT : Fld := ⟨0x10014, 4, 16, 8⟩
abbrev PWR_EVT_PB_FAIL_CNT : Fld := ⟨0x10014, 4, 24, 8⟩
/-- PWR_CMD (16_power_and_shedding.md, R404). -/
def PWR_CMD : Nat := 0x10018
abbrev PWR_CMD_PB_COMMIT : Fld := ⟨0x10018, 4, 0, 1⟩
abbrev PWR_CMD_CLR_MIN : Fld := ⟨0x10018, 4, 1, 1⟩
/-- PWR_PB_CFG (16_power_and_shedding.md, R404). -/
def PWR_PB_CFG : Nat := 0x1001C
abbrev PWR_PB_CFG_PERIOD_S : Fld := ⟨0x1001C, 4, 0, 16⟩
/-- PWR_PB_STAT (16_power_and_shedding.md, R404). -/
def PWR_PB_STAT : Nat := 0x10020
abbrev PWR_PB_STAT_LAST_KIND : Fld := ⟨0x10020, 4, 0, 3⟩
abbrev PWR_PB_STAT_LAST_OK : Fld := ⟨0x10020, 4, 3, 1⟩
abbrev PWR_PB_STAT_BUSY : Fld := ⟨0x10020, 4, 4, 1⟩
abbrev PWR_PB_STAT_RECNO : Fld := ⟨0x10020, 4, 8, 24⟩
/-- PWR_PACE_CTL (01_architecture.md, R48). -/
def PWR_PACE_CTL : Nat := 0x10100
abbrev PWR_PACE_CTL_LOOP_EN : Fld := ⟨0x10100, 4, 0, 1⟩
abbrev PWR_PACE_CTL_AUTO_FALLBACK : Fld := ⟨0x10100, 4, 1, 1⟩
/-- PWR_PACE_STAT (01_architecture.md, R48). -/
def PWR_PACE_STAT : Nat := 0x10104
abbrev PWR_PACE_STAT_MIN_MARGIN : Fld := ⟨0x10104, 4, 0, 8⟩
abbrev PWR_PACE_STAT_MIN_MONITOR : Fld := ⟨0x10104, 4, 8, 4⟩
abbrev PWR_PACE_STAT_ALARM : Fld := ⟨0x10104, 4, 12, 1⟩
abbrev PWR_PACE_STAT_PACE_FAULT : Fld := ⟨0x10104, 4, 13, 1⟩
abbrev PWR_PACE_STAT_SWITCHED : Fld := ⟨0x10104, 4, 14, 1⟩
/-- PWR_VCORE (01_architecture.md, R48). -/
def PWR_VCORE : Nat := 0x10108
abbrev PWR_VCORE_SETPOINT_MV : Fld := ⟨0x10108, 4, 0, 10⟩
/-- PWR_PACE_FMAX (01_architecture.md, R48). -/
def PWR_PACE_FMAX : Nat := 0x1010C
abbrev PWR_PACE_FMAX_FMAX_MHZ : Fld := ⟨0x1010C, 4, 0, 12⟩
/-- PWR_PACE_CMD (01_architecture.md, R48). -/
def PWR_PACE_CMD : Nat := 0x10110
abbrev PWR_PACE_CMD_SWITCH : Fld := ⟨0x10110, 4, 0, 1⟩
abbrev PWR_PACE_CMD_RESTORE : Fld := ⟨0x10110, 4, 1, 1⟩
abbrev PWR_PACE_CMD_CLR_MIN : Fld := ⟨0x10110, 4, 2, 1⟩
/-- PWR_PACE_EVT (01_architecture.md, R48). -/
def PWR_PACE_EVT : Nat := 0x10114
abbrev PWR_PACE_EVT_ALARM_SEEN : Fld := ⟨0x10114, 4, 0, 1⟩
abbrev PWR_PACE_EVT_FAULT_SEEN : Fld := ⟨0x10114, 4, 1, 1⟩
abbrev PWR_PACE_EVT_ALARM_CNT : Fld := ⟨0x10114, 4, 8, 8⟩
abbrev PWR_PACE_EVT_FAULT_CNT : Fld := ⟨0x10114, 4, 16, 8⟩
/-- PWR_PACE_MON (01_architecture.md, R48). -/
def PWR_PACE_MON : Nat := 0x10120
abbrev PWR_PACE_MON_MARGIN : Fld := ⟨0x10120, 4, 0, 8⟩
abbrev PWR_PACE_MON_MIN_SINCE_CLEAR : Fld := ⟨0x10120, 4, 8, 8⟩
/-- AFE_UNIT_EN (02_hierarchy.md, R71). -/
def AFE_UNIT_EN : Nat := 0x40000
abbrev AFE_UNIT_EN_EN : Fld := ⟨0x40000, 4, 0, 32⟩
/-- AFE_ZONE (03_inputs_and_feeds.md, R96). -/
def AFE_ZONE : Nat := 0x40008
abbrev AFE_ZONE_ZONE : Fld := ⟨0x40008, 4, 0, 32⟩
/-- AFE_RANGE (03_inputs_and_feeds.md, R96). -/
def AFE_RANGE : Nat := 0x40100
abbrev AFE_RANGE_RANGE : Fld := ⟨0x40100, 4, 0, 4⟩
abbrev AFE_RANGE_PENDING : Fld := ⟨0x40100, 4, 4, 1⟩
abbrev AFE_RANGE_AR_MIN : Fld := ⟨0x40100, 4, 8, 4⟩
abbrev AFE_RANGE_AR_MAX : Fld := ⟨0x40100, 4, 12, 4⟩
abbrev AFE_RANGE_AR_EN : Fld := ⟨0x40100, 4, 16, 1⟩
/-- AFE_AR_THR (03_inputs_and_feeds.md, R96). -/
def AFE_AR_THR : Nat := 0x40200
abbrev AFE_AR_THR_HI : Fld := ⟨0x40200, 4, 0, 12⟩
abbrev AFE_AR_THR_LO : Fld := ⟨0x40200, 4, 16, 12⟩
/-- AFE_AR_DWELL (03_inputs_and_feeds.md, R96). -/
def AFE_AR_DWELL : Nat := 0x40204
abbrev AFE_AR_DWELL_DWELL : Fld := ⟨0x40204, 4, 0, 16⟩
/-- AFE_CLIP (03_inputs_and_feeds.md, R96). -/
def AFE_CLIP : Nat := 0x40300
abbrev AFE_CLIP_CLIP_SEEN : Fld := ⟨0x40300, 4, 0, 1⟩
abbrev AFE_CLIP_CLIP_CNT : Fld := ⟨0x40300, 4, 8, 8⟩
/-- AFE_RANGE_DEV (03_inputs_and_feeds.md, R96). -/
def AFE_RANGE_DEV : Nat := 0x40400
abbrev AFE_RANGE_DEV_DEV : Fld := ⟨0x40400, 4, 0, 32⟩
/-- AFE_FEED_EN (03_inputs_and_feeds.md, R96). -/
def AFE_FEED_EN : Nat := 0x41000
abbrev AFE_FEED_EN_EN : Fld := ⟨0x41000, 4, 0, 32⟩
/-- AFE_FEED_CFG (03_inputs_and_feeds.md, R96). -/
def AFE_FEED_CFG : Nat := 0x41004
abbrev AFE_FEED_CFG_OPEN_MA : Fld := ⟨0x41004, 4, 0, 7⟩
abbrev AFE_FEED_CFG_RETRIES : Fld := ⟨0x41004, 4, 8, 4⟩
/-- AFE_FEED_TP (03_inputs_and_feeds.md, R96). -/
def AFE_FEED_TP : Nat := 0x41008
abbrev AFE_FEED_TP_PERIODIC : Fld := ⟨0x41008, 4, 0, 1⟩
abbrev AFE_FEED_TP_SWEEP : Fld := ⟨0x41008, 4, 1, 1⟩
abbrev AFE_FEED_TP_BUSY : Fld := ⟨0x41008, 4, 2, 1⟩
abbrev AFE_FEED_TP_RECOV_US : Fld := ⟨0x41008, 4, 8, 8⟩
abbrev AFE_FEED_TP_PERIOD_S : Fld := ⟨0x41008, 4, 16, 16⟩
/-- AFE_FEED_TP_MASK (03_inputs_and_feeds.md, R96). -/
def AFE_FEED_TP_MASK : Nat := 0x4100C
abbrev AFE_FEED_TP_MASK_MASK : Fld := ⟨0x4100C, 4, 0, 32⟩
/-- AFE_FEED_EVT (03_inputs_and_feeds.md, R96). -/
def AFE_FEED_EVT : Nat := 0x41010
abbrev AFE_FEED_EVT_OPEN_SEEN : Fld := ⟨0x41010, 4, 0, 1⟩
abbrev AFE_FEED_EVT_OVLD_SEEN : Fld := ⟨0x41010, 4, 1, 1⟩
abbrev AFE_FEED_EVT_SHORT_SEEN : Fld := ⟨0x41010, 4, 2, 1⟩
abbrev AFE_FEED_EVT_OPEN_CNT : Fld := ⟨0x41010, 4, 8, 8⟩
abbrev AFE_FEED_EVT_OVLD_CNT : Fld := ⟨0x41010, 4, 16, 8⟩
abbrev AFE_FEED_EVT_SHORT_CNT : Fld := ⟨0x41010, 4, 24, 8⟩
/-- AFE_FEED_STAT (03_inputs_and_feeds.md, R96). -/
def AFE_FEED_STAT : Nat := 0x41100
abbrev AFE_FEED_STAT_STATE : Fld := ⟨0x41100, 4, 0, 3⟩
abbrev AFE_FEED_STAT_CURRENT_MA : Fld := ⟨0x41100, 4, 4, 10⟩
abbrev AFE_FEED_STAT_PARTNER : Fld := ⟨0x41100, 4, 16, 5⟩
abbrev AFE_FEED_STAT_PARTNER_VALID : Fld := ⟨0x41100, 4, 21, 1⟩
abbrev AFE_FEED_STAT_RETRY_LEFT : Fld := ⟨0x41100, 4, 24, 4⟩
/-- ADC_CTL (04_converters.md, R123). -/
def ADC_CTL : Nat := 0x80000
abbrev ADC_CTL_CAL_MODE : Fld := ⟨0x80000, 4, 0, 2⟩
abbrev ADC_CTL_BG_EN : Fld := ⟨0x80000, 4, 2, 1⟩
abbrev ADC_CTL_BG_MU : Fld := ⟨0x80000, 4, 4, 4⟩
/-- ADC_REH_CMD (04_converters.md, R123). -/
def ADC_REH_CMD : Nat := 0x80004
abbrev ADC_REH_CMD_START : Fld := ⟨0x80004, 4, 0, 4⟩
abbrev ADC_REH_CMD_SAVE : Fld := ⟨0x80004, 4, 4, 1⟩
abbrev ADC_REH_CMD_LOAD : Fld := ⟨0x80004, 4, 5, 1⟩
/-- ADC_REH_STAT (04_converters.md, R123). -/
def ADC_REH_STAT : Nat := 0x80008
abbrev ADC_REH_STAT_BUSY : Fld := ⟨0x80008, 4, 0, 4⟩
abbrev ADC_REH_STAT_RESULT : Fld := ⟨0x80008, 4, 4, 12⟩
abbrev ADC_REH_STAT_SAVE_BUSY : Fld := ⟨0x80008, 4, 16, 1⟩
abbrev ADC_REH_STAT_SAVED_VALID : Fld := ⟨0x80008, 4, 17, 1⟩
/-- ADC_REH_EVT (04_converters.md, R123). -/
def ADC_REH_EVT : Nat := 0x8000C
abbrev ADC_REH_EVT_REHEARSAL_DEFERRED : Fld := ⟨0x8000C, 4, 0, 1⟩
abbrev ADC_REH_EVT_DONE_SEEN : Fld := ⟨0x8000C, 4, 1, 1⟩
abbrev ADC_REH_EVT_DEFERRED_CNT : Fld := ⟨0x8000C, 4, 8, 8⟩
abbrev ADC_REH_EVT_DONE_CNT : Fld := ⟨0x8000C, 4, 16, 8⟩
/-- ADC_REH_CH_RES (04_converters.md, R123). -/
def ADC_REH_CH_RES : Nat := 0x80010
abbrev ADC_REH_CH_RES_RES : Fld := ⟨0x80010, 4, 0, 32⟩
/-- ADC_PLL_PHASE (04_converters.md, R123). -/
def ADC_PLL_PHASE : Nat := 0x80020
abbrev ADC_PLL_PHASE_PHASE : Fld := ⟨0x80020, 4, 0, 16⟩
abbrev ADC_PLL_PHASE_SOURCE : Fld := ⟨0x80020, 4, 16, 1⟩
/-- ADC_REH_TEMP (04_converters.md, R123). -/
def ADC_REH_TEMP : Nat := 0x80030
abbrev ADC_REH_TEMP_TJ_QF0 : Fld := ⟨0x80030, 4, 0, 8⟩
abbrev ADC_REH_TEMP_TJ_QF1 : Fld := ⟨0x80030, 4, 8, 8⟩
/-- ADC_INJ_REQ (04_converters.md, R123). -/
def ADC_INJ_REQ : Nat := 0x80040
abbrev ADC_INJ_REQ_CH : Fld := ⟨0x80040, 4, 0, 6⟩
abbrev ADC_INJ_REQ_SIGNAL : Fld := ⟨0x80040, 4, 6, 3⟩
abbrev ADC_INJ_REQ_PARAM : Fld := ⟨0x80040, 4, 9, 10⟩
abbrev ADC_INJ_REQ_LEVEL : Fld := ⟨0x80040, 4, 19, 2⟩
/-- ADC_INJ_STAT (04_converters.md, R123). -/
def ADC_INJ_STAT : Nat := 0x80080
abbrev ADC_INJ_STAT_PENDING : Fld := ⟨0x80080, 4, 0, 2⟩
abbrev ADC_INJ_STAT_LAST_STATUS : Fld := ⟨0x80080, 4, 2, 3⟩
abbrev ADC_INJ_STAT_LAST_CH : Fld := ⟨0x80080, 4, 5, 6⟩
abbrev ADC_INJ_STAT_LAST_KIND : Fld := ⟨0x80080, 4, 11, 1⟩
/-- ADC_BG_STAT (04_converters.md, R123). -/
def ADC_BG_STAT : Nat := 0x80100
abbrev ADC_BG_STAT_CONVERGED : Fld := ⟨0x80100, 4, 0, 1⟩
abbrev ADC_BG_STAT_HOLD : Fld := ⟨0x80100, 4, 1, 1⟩
abbrev ADC_BG_STAT_RESID : Fld := ⟨0x80100, 4, 8, 8⟩
/-- ADC_CAL (04_converters.md, R123). -/
def ADC_CAL : Nat := 0x81000
abbrev ADC_CAL_VALUE : Fld := ⟨0x81000, 4, 0, 16⟩
/-- FLT_CHAIN (05_filters_and_channeliser.md, R146). -/
def FLT_CHAIN : Nat := 0xC0000
abbrev FLT_CHAIN_DECIM : Fld := ⟨0xC0000, 4, 0, 2⟩
abbrev FLT_CHAIN_ORDER : Fld := ⟨0xC0000, 4, 2, 2⟩
abbrev FLT_CHAIN_SWAP : Fld := ⟨0xC0000, 4, 4, 1⟩
abbrev FLT_CHAIN_BANK : Fld := ⟨0xC0000, 4, 5, 1⟩
abbrev FLT_CHAIN_PENDING : Fld := ⟨0xC0000, 4, 6, 1⟩
/-- FLT_SKEW (05_filters_and_channeliser.md, R146). -/
def FLT_SKEW : Nat := 0xC0100
abbrev FLT_SKEW_SKEW : Fld := ⟨0xC0100, 4, 0, 14⟩
abbrev FLT_SKEW_PENDING : Fld := ⟨0xC0100, 4, 14, 1⟩
/-- FLT_SKEW_EFF (05_filters_and_channeliser.md, R146). -/
def FLT_SKEW_EFF : Nat := 0xC0200
abbrev FLT_SKEW_EFF_EFF : Fld := ⟨0xC0200, 4, 0, 16⟩
abbrev FLT_SKEW_EFF_SAT : Fld := ⟨0xC0200, 4, 16, 1⟩
/-- FLT_SKEW_CAL (05_filters_and_channeliser.md, R146). -/
def FLT_SKEW_CAL : Nat := 0xC0300
abbrev FLT_SKEW_CAL_START : Fld := ⟨0xC0300, 4, 0, 16⟩
/-- FLT_SKEW_MEAS (05_filters_and_channeliser.md, R146). -/
def FLT_SKEW_MEAS : Nat := 0xC0400
abbrev FLT_SKEW_MEAS_MEAS : Fld := ⟨0xC0400, 4, 0, 16⟩
abbrev FLT_SKEW_MEAS_VALID : Fld := ⟨0xC0400, 4, 16, 1⟩
abbrev FLT_SKEW_MEAS_PENDING : Fld := ⟨0xC0400, 4, 17, 1⟩
/-- FLT_NOTCH (05_filters_and_channeliser.md, R146). -/
def FLT_NOTCH : Nat := 0xC1000
abbrev FLT_NOTCH_FC : Fld := ⟨0xC1000, 8, 0, 24⟩
abbrev FLT_NOTCH_PENDING : Fld := ⟨0xC1000, 8, 30, 1⟩
abbrev FLT_NOTCH_EN : Fld := ⟨0xC1000, 8, 31, 1⟩
/-- FLT_NOTCH_BW (05_filters_and_channeliser.md, R146). -/
def FLT_NOTCH_BW : Nat := 0xC1004
abbrev FLT_NOTCH_BW_BW : Fld := ⟨0xC1004, 8, 0, 17⟩
/-- FLT_FIR_COEF (05_filters_and_channeliser.md, R146). -/
def FLT_FIR_COEF : Nat := 0xC4000
abbrev FLT_FIR_COEF_COEF : Fld := ⟨0xC4000, 4, 0, 18⟩
/-- CHN_CTL (05_filters_and_channeliser.md, R147). -/
def CHN_CTL : Nat := 0x100000
abbrev CHN_CTL_EN : Fld := ⟨0x100000, 4, 0, 1⟩
abbrev CHN_CTL_SWAP : Fld := ⟨0x100000, 4, 1, 1⟩
abbrev CHN_CTL_BANK : Fld := ⟨0x100000, 4, 2, 1⟩
abbrev CHN_CTL_SWAP_PENDING : Fld := ⟨0x100000, 4, 3, 1⟩
/-- CHN_GAIN_ADJ (05_filters_and_channeliser.md, R147). -/
def CHN_GAIN_ADJ : Nat := 0x100004
abbrev CHN_GAIN_ADJ_ADJ : Fld := ⟨0x100004, 4, 0, 16⟩
/-- CHN_FRAME_LO (05_filters_and_channeliser.md, R147). -/
def CHN_FRAME_LO : Nat := 0x100008
abbrev CHN_FRAME_LO_FRAME : Fld := ⟨0x100008, 4, 0, 32⟩
/-- CHN_FRAME_HI (05_filters_and_channeliser.md, R147). -/
def CHN_FRAME_HI : Nat := 0x10000C
abbrev CHN_FRAME_HI_FRAME : Fld := ⟨0x10000C, 4, 0, 32⟩
/-- CHN_COEF (05_filters_and_channeliser.md, R147). -/
def CHN_COEF : Nat := 0x108000
abbrev CHN_COEF_COEF : Fld := ⟨0x108000, 4, 0, 18⟩
/-- WCH_CTL (06_watch_cells.md, R167). -/
def WCH_CTL : Nat := 0x140000
abbrev WCH_CTL_EN : Fld := ⟨0x140000, 4, 0, 1⟩
abbrev WCH_CTL_SEG_SWAP : Fld := ⟨0x140000, 4, 1, 1⟩
abbrev WCH_CTL_SEG_BANK : Fld := ⟨0x140000, 4, 2, 1⟩
abbrev WCH_CTL_MASK_SWAP : Fld := ⟨0x140000, 4, 3, 1⟩
abbrev WCH_CTL_MASK_BANK : Fld := ⟨0x140000, 4, 4, 1⟩
abbrev WCH_CTL_SWAP_PENDING : Fld := ⟨0x140000, 4, 5, 1⟩
abbrev WCH_CTL_DUTY_SHIFT : Fld := ⟨0x140000, 4, 8, 4⟩
/-- WCH_EVT_BUCKET (06_watch_cells.md, R167). -/
def WCH_EVT_BUCKET : Nat := 0x140004
abbrev WCH_EVT_BUCKET_PER_FRAME : Fld := ⟨0x140004, 4, 0, 8⟩
abbrev WCH_EVT_BUCKET_DEPTH : Fld := ⟨0x140004, 4, 16, 16⟩
/-- WCH_EVT_STAT (06_watch_cells.md, R167). -/
def WCH_EVT_STAT : Nat := 0x140008
abbrev WCH_EVT_STAT_LOST_SEEN : Fld := ⟨0x140008, 4, 0, 1⟩
abbrev WCH_EVT_STAT_VIOL_SEEN : Fld := ⟨0x140008, 4, 1, 1⟩
abbrev WCH_EVT_STAT_LOST_CNT : Fld := ⟨0x140008, 4, 8, 8⟩
abbrev WCH_EVT_STAT_VIOL_CNT : Fld := ⟨0x140008, 4, 16, 8⟩
/-- WCH_EVT_DROPPED (06_watch_cells.md, R167). -/
def WCH_EVT_DROPPED : Nat := 0x14000C
abbrev WCH_EVT_DROPPED_COUNT : Fld := ⟨0x14000C, 4, 0, 32⟩
/-- WCH_CHAN (06_watch_cells.md, R167). -/
def WCH_CHAN : Nat := 0x140100
abbrev WCH_CHAN_K : Fld := ⟨0x140100, 4, 0, 5⟩
abbrev WCH_CHAN_EVT_ON : Fld := ⟨0x140100, 4, 5, 1⟩
abbrev WCH_CHAN_EVT_OFF : Fld := ⟨0x140100, 4, 6, 1⟩
abbrev WCH_CHAN_CUE_ON : Fld := ⟨0x140100, 4, 7, 1⟩
abbrev WCH_CHAN_CUE_OFF : Fld := ⟨0x140100, 4, 8, 1⟩
abbrev WCH_CHAN_HELD_LAST : Fld := ⟨0x140100, 4, 9, 1⟩
abbrev WCH_CHAN_MODE : Fld := ⟨0x140100, 4, 10, 2⟩
abbrev WCH_CHAN_SUBST_LAST : Fld := ⟨0x140100, 4, 15, 17⟩
/-- WCH_MASK_CFG (06_watch_cells.md, R167). -/
def WCH_MASK_CFG : Nat := 0x140400
abbrev WCH_MASK_CFG_FIRST : Fld := ⟨0x140400, 16, 0, 12⟩
abbrev WCH_MASK_CFG_EN : Fld := ⟨0x140400, 16, 12, 1⟩
abbrev WCH_MASK_CFG_STOP : Fld := ⟨0x140400, 16, 13, 1⟩
abbrev WCH_MASK_CFG_CUE_EN : Fld := ⟨0x140400, 16, 14, 1⟩
abbrev WCH_MASK_CFG_PERSIST : Fld := ⟨0x140400, 16, 16, 8⟩
/-- WCH_MASK_HITS (06_watch_cells.md, R167). -/
def WCH_MASK_HITS : Nat := 0x140404
abbrev WCH_MASK_HITS_HITS : Fld := ⟨0x140404, 16, 0, 13⟩
/-- WCH_MASK_CHAN_LO (06_watch_cells.md, R167). -/
def WCH_MASK_CHAN_LO : Nat := 0x140408
abbrev WCH_MASK_CHAN_LO_MAP : Fld := ⟨0x140408, 16, 0, 32⟩
/-- WCH_MASK_CHAN_HI (06_watch_cells.md, R167). -/
def WCH_MASK_CHAN_HI : Nat := 0x14040C
abbrev WCH_MASK_CHAN_HI_MAP : Fld := ⟨0x14040C, 16, 0, 32⟩
/-- WCH_MASK_ACTIVE (06_watch_cells.md, R167). -/
def WCH_MASK_ACTIVE : Nat := 0x140600
abbrev WCH_MASK_ACTIVE_VIOL : Fld := ⟨0x140600, 4, 0, 16⟩
/-- WCH_SEG (06_watch_cells.md, R167). -/
def WCH_SEG : Nat := 0x141000
abbrev WCH_SEG_LAST : Fld := ⟨0x141000, 4, 0, 12⟩
abbrev WCH_SEG_ON_THR : Fld := ⟨0x141000, 4, 12, 10⟩
abbrev WCH_SEG_OFF_THR : Fld := ⟨0x141000, 4, 22, 10⟩
/-- WCH_MASK_TABLE (06_watch_cells.md, R167). -/
def WCH_MASK_TABLE : Nat := 0x144000
abbrev WCH_MASK_TABLE_ENTRY : Fld := ⟨0x144000, 4, 0, 32⟩
/-- TRG_CTL (07_cues_and_capture.md, R202). -/
def TRG_CTL : Nat := 0x180000
abbrev TRG_CTL_EN : Fld := ⟨0x180000, 4, 0, 1⟩
abbrev TRG_CTL_FREEZE : Fld := ⟨0x180000, 4, 1, 1⟩
abbrev TRG_CTL_REARM : Fld := ⟨0x180000, 4, 2, 1⟩
abbrev TRG_CTL_RING_STATE : Fld := ⟨0x180000, 4, 3, 2⟩
/-- TRG_RING_DEPTH (07_cues_and_capture.md, R202). -/
def TRG_RING_DEPTH : Nat := 0x180004
abbrev TRG_RING_DEPTH_BLOCKS : Fld := ⟨0x180004, 4, 0, 20⟩
abbrev TRG_RING_DEPTH_N_ENABLED : Fld := ⟨0x180004, 4, 20, 7⟩
/-- TRG_FREEZE_LO (07_cues_and_capture.md, R202). -/
def TRG_FREEZE_LO : Nat := 0x180008
abbrev TRG_FREEZE_LO_COUNT : Fld := ⟨0x180008, 4, 0, 32⟩
/-- TRG_FREEZE_HI (07_cues_and_capture.md, R202). -/
def TRG_FREEZE_HI : Nat := 0x18000C
abbrev TRG_FREEZE_HI_COUNT : Fld := ⟨0x18000C, 4, 0, 32⟩
/-- TRG_RO_CFG (07_cues_and_capture.md, R202). -/
def TRG_RO_CFG : Nat := 0x180010
abbrev TRG_RO_CFG_GUARD_NS : Fld := ⟨0x180010, 4, 0, 16⟩
/-- TRG_RO_STAT (07_cues_and_capture.md, R202). -/
def TRG_RO_STAT : Nat := 0x180014
abbrev TRG_RO_STAT_ACTIVE : Fld := ⟨0x180014, 4, 0, 4⟩
abbrev TRG_RO_STAT_DUPLICATES : Fld := ⟨0x180014, 4, 16, 16⟩
/-- TRG_SNIP_STAT (07_cues_and_capture.md, R202). -/
def TRG_SNIP_STAT : Nat := 0x180018
abbrev TRG_SNIP_STAT_JOBS : Fld := ⟨0x180018, 4, 0, 7⟩
/-- TRG_SW (07_cues_and_capture.md, R202). -/
def TRG_SW : Nat := 0x18001C
abbrev TRG_SW_FIRE : Fld := ⟨0x18001C, 4, 0, 1⟩
/-- TRG_OUT (07_cues_and_capture.md, R202). -/
def TRG_OUT : Nat := 0x180020
abbrev TRG_OUT_MASK : Fld := ⟨0x180020, 4, 0, 9⟩
abbrev TRG_OUT_WIDTH : Fld := ⟨0x180020, 4, 16, 8⟩
/-- TRG_RATE_CFG (07_cues_and_capture.md, R202). -/
def TRG_RATE_CFG : Nat := 0x180024
abbrev TRG_RATE_CFG_QUIET_N : Fld := ⟨0x180024, 4, 0, 8⟩
/-- TRG_DET_FLOOR (07_cues_and_capture.md, R202). -/
def TRG_DET_FLOOR : Nat := 0x180028
abbrev TRG_DET_FLOOR_FLOOR : Fld := ⟨0x180028, 4, 0, 11⟩
/-- TRG_EVT (07_cues_and_capture.md, R202). -/
def TRG_EVT : Nat := 0x180030
abbrev TRG_EVT_FREEZE_SEEN : Fld := ⟨0x180030, 4, 0, 1⟩
abbrev TRG_EVT_BLIND_SEEN : Fld := ⟨0x180030, 4, 1, 1⟩
abbrev TRG_EVT_FREEZE_CNT : Fld := ⟨0x180030, 4, 8, 8⟩
abbrev TRG_EVT_BLIND_CNT : Fld := ⟨0x180030, 4, 16, 8⟩
/-- TRG_EVT2 (07_cues_and_capture.md, R202). -/
def TRG_EVT2 : Nat := 0x180034
abbrev TRG_EVT2_DECLINE_SEEN : Fld := ⟨0x180034, 4, 0, 1⟩
abbrev TRG_EVT2_OVERRUN_SEEN : Fld := ⟨0x180034, 4, 1, 1⟩
abbrev TRG_EVT2_DECLINE_CNT : Fld := ⟨0x180034, 4, 8, 8⟩
abbrev TRG_EVT2_OVERRUN_CNT : Fld := ⟨0x180034, 4, 16, 8⟩
/-- TRG_BLIND_TOTAL (07_cues_and_capture.md, R202). -/
def TRG_BLIND_TOTAL : Nat := 0x180038
abbrev TRG_BLIND_TOTAL_COUNT : Fld := ⟨0x180038, 4, 0, 32⟩
/-- TRG_SRC_CFG (07_cues_and_capture.md, R202). -/
def TRG_SRC_CFG : Nat := 0x180100
abbrev TRG_SRC_CFG_REC_EN : Fld := ⟨0x180100, 16, 0, 1⟩
abbrev TRG_SRC_CFG_SNIP_EN : Fld := ⟨0x180100, 16, 1, 1⟩
abbrev TRG_SRC_CFG_SCOPE : Fld := ⟨0x180100, 16, 2, 3⟩
/-- TRG_SRC_WIN (07_cues_and_capture.md, R202). -/
def TRG_SRC_WIN : Nat := 0x180104
abbrev TRG_SRC_WIN_PRE_BLK : Fld := ⟨0x180104, 16, 0, 11⟩
abbrev TRG_SRC_WIN_POST_BLK : Fld := ⟨0x180104, 16, 16, 11⟩
/-- TRG_SRC_BUDGET (07_cues_and_capture.md, R202). -/
def TRG_SRC_BUDGET : Nat := 0x180108
abbrev TRG_SRC_BUDGET_BYTES_PER_S : Fld := ⟨0x180108, 16, 0, 32⟩
/-- TRG_SRC_STAT (07_cues_and_capture.md, R202). -/
def TRG_SRC_STAT : Nat := 0x18010C
abbrev TRG_SRC_STAT_K : Fld := ⟨0x18010C, 16, 0, 4⟩
abbrev TRG_SRC_STAT_NOT_PASSED : Fld := ⟨0x18010C, 16, 8, 24⟩
/-- TRG_SRC_MAP_LO (07_cues_and_capture.md, R202). -/
def TRG_SRC_MAP_LO : Nat := 0x180200
abbrev TRG_SRC_MAP_LO_MAP : Fld := ⟨0x180200, 8, 0, 32⟩
/-- TRG_SRC_MAP_HI (07_cues_and_capture.md, R202). -/
def TRG_SRC_MAP_HI : Nat := 0x180204
abbrev TRG_SRC_MAP_HI_MAP : Fld := ⟨0x180204, 8, 0, 32⟩
/-- TRG_DET (07_cues_and_capture.md, R202). -/
def TRG_DET : Nat := 0x180300
abbrev TRG_DET_EN : Fld := ⟨0x180300, 4, 0, 1⟩
abbrev TRG_DET_MULT : Fld := ⟨0x180300, 4, 1, 8⟩
abbrev TRG_DET_HOLDOFF : Fld := ⟨0x180300, 4, 16, 8⟩
/-- TRG_COINC (07_cues_and_capture.md, R202). -/
def TRG_COINC : Nat := 0x180400
abbrev TRG_COINC_EN : Fld := ⟨0x180400, 4, 0, 1⟩
abbrev TRG_COINC_K : Fld := ⟨0x180400, 4, 1, 3⟩
abbrev TRG_COINC_WINDOW : Fld := ⟨0x180400, 4, 8, 9⟩
/-- TRG_EXT (07_cues_and_capture.md, R202). -/
def TRG_EXT : Nat := 0x180440
abbrev TRG_EXT_EN : Fld := ⟨0x180440, 4, 0, 1⟩
abbrev TRG_EXT_EDGE : Fld := ⟨0x180440, 4, 1, 1⟩
abbrev TRG_EXT_DELAY : Fld := ⟨0x180440, 4, 16, 16⟩
/-- CDC_STREAM_CTL (08_sage_codec.md, R225). -/
def CDC_STREAM_CTL : Nat := 0x1C0000
abbrev CDC_STREAM_CTL_EN : Fld := ⟨0x1C0000, 4, 0, 1⟩
abbrev CDC_STREAM_CTL_EN_ACTIVE : Fld := ⟨0x1C0000, 4, 1, 1⟩
/-- CDC_STREAM_CMD (08_sage_codec.md, R225). -/
def CDC_STREAM_CMD : Nat := 0x1C0004
abbrev CDC_STREAM_CMD_APPLY : Fld := ⟨0x1C0004, 4, 0, 1⟩
/-- CDC_STREAM_STAT (08_sage_codec.md, R225). -/
def CDC_STREAM_STAT : Nat := 0x1C0008
abbrev CDC_STREAM_STAT_APPLY_PENDING : Fld := ⟨0x1C0008, 4, 0, 1⟩
abbrev CDC_STREAM_STAT_REFUSED : Fld := ⟨0x1C0008, 4, 1, 1⟩
abbrev CDC_STREAM_STAT_REFUSED_PATH : Fld := ⟨0x1C0008, 4, 2, 2⟩
/-- CDC_VERIFY (08_sage_codec.md, R225). -/
def CDC_VERIFY : Nat := 0x1C0010
abbrev CDC_VERIFY_VF_SEEN : Fld := ⟨0x1C0010, 4, 0, 1⟩
abbrev CDC_VERIFY_VF_CNT : Fld := ⟨0x1C0010, 4, 8, 8⟩
/-- CDC_VERIFY_TOTAL (08_sage_codec.md, R225). -/
def CDC_VERIFY_TOTAL : Nat := 0x1C0014
abbrev CDC_VERIFY_TOTAL_COUNT : Fld := ⟨0x1C0014, 4, 0, 32⟩
/-- CDC_JOB_CTL (08_sage_codec.md, R225). -/
def CDC_JOB_CTL : Nat := 0x1C0020
abbrev CDC_JOB_CTL_EN : Fld := ⟨0x1C0020, 4, 0, 1⟩
abbrev CDC_JOB_CTL_CANCEL : Fld := ⟨0x1C0020, 4, 1, 1⟩
/-- CDC_JOB_STAT (08_sage_codec.md, R225). -/
def CDC_JOB_STAT : Nat := 0x1C0024
abbrev CDC_JOB_STAT_ACTIVE : Fld := ⟨0x1C0024, 4, 0, 1⟩
abbrev CDC_JOB_STAT_WAITING : Fld := ⟨0x1C0024, 4, 1, 5⟩
abbrev CDC_JOB_STAT_LAST_STATUS : Fld := ⟨0x1C0024, 4, 6, 4⟩
/-- CDC_STREAM_MODE (08_sage_codec.md, R225). -/
def CDC_STREAM_MODE : Nat := 0x1C0100
abbrev CDC_STREAM_MODE_MODE : Fld := ⟨0x1C0100, 4, 0, 4⟩
abbrev CDC_STREAM_MODE_ACTIVE : Fld := ⟨0x1C0100, 4, 4, 4⟩
/-- QUE_LINGER (09_output_queues.md, R243). -/
def QUE_LINGER : Nat := 0x200000
abbrev QUE_LINGER_C1_LINGER : Fld := ⟨0x200000, 4, 0, 10⟩
abbrev QUE_LINGER_C3_LINGER : Fld := ⟨0x200000, 4, 16, 14⟩
/-- QUE_CMD (09_output_queues.md, R243). -/
def QUE_CMD : Nat := 0x200004
abbrev QUE_CMD_FLUSH : Fld := ⟨0x200004, 4, 0, 8⟩
abbrev QUE_CMD_DROP3 : Fld := ⟨0x200004, 4, 8, 1⟩
/-- QUE_CMD_STAT (09_output_queues.md, R243). -/
def QUE_CMD_STAT : Nat := 0x200008
abbrev QUE_CMD_STAT_FLUSH_BUSY : Fld := ⟨0x200008, 4, 0, 8⟩
abbrev QUE_CMD_STAT_DROP_BUSY : Fld := ⟨0x200008, 4, 8, 1⟩
/-- QUE_EVT (09_output_queues.md, R243). -/
def QUE_EVT : Nat := 0x20000C
abbrev QUE_EVT_PARITY_SEEN : Fld := ⟨0x20000C, 4, 0, 1⟩
abbrev QUE_EVT_FULL_SEEN : Fld := ⟨0x20000C, 4, 1, 1⟩
abbrev QUE_EVT_DROP_NONE_SEEN : Fld := ⟨0x20000C, 4, 2, 1⟩
abbrev QUE_EVT_PARITY_CNT : Fld := ⟨0x20000C, 4, 8, 8⟩
abbrev QUE_EVT_FULL_CNT : Fld := ⟨0x20000C, 4, 16, 8⟩
abbrev QUE_EVT_DROP_NONE_CNT : Fld := ⟨0x20000C, 4, 24, 8⟩
/-- QUE_PARITY_TOTAL (09_output_queues.md, R243). -/
def QUE_PARITY_TOTAL : Nat := 0x200010
abbrev QUE_PARITY_TOTAL_COUNT : Fld := ⟨0x200010, 4, 0, 32⟩
/-- QUE_STAT (09_output_queues.md, R243). -/
def QUE_STAT : Nat := 0x200100
abbrev QUE_STAT_PKT_COUNT : Fld := ⟨0x200100, 16, 0, 16⟩
abbrev QUE_STAT_READING : Fld := ⟨0x200100, 16, 16, 1⟩
/-- QUE_FILL (09_output_queues.md, R243). -/
def QUE_FILL : Nat := 0x200104
abbrev QUE_FILL_WORDS : Fld := ⟨0x200104, 16, 0, 17⟩
/-- QUE_HWM (09_output_queues.md, R243). -/
def QUE_HWM : Nat := 0x200108
abbrev QUE_HWM_WORDS : Fld := ⟨0x200108, 16, 0, 17⟩
/-- QUE_DISCARD (09_output_queues.md, R243). -/
def QUE_DISCARD : Nat := 0x20010C
abbrev QUE_DISCARD_COUNT : Fld := ⟨0x20010C, 16, 0, 32⟩
/-- QUE_PEEK_LO (09_output_queues.md, R243). -/
def QUE_PEEK_LO : Nat := 0x200200
abbrev QUE_PEEK_LO_DATA : Fld := ⟨0x200200, 16, 0, 32⟩
/-- QUE_PEEK_HI (09_output_queues.md, R243). -/
def QUE_PEEK_HI : Nat := 0x200204
abbrev QUE_PEEK_HI_DATA : Fld := ⟨0x200204, 16, 0, 32⟩
/-- QUE_PEEK_ATTR (09_output_queues.md, R243). -/
def QUE_PEEK_ATTR : Nat := 0x200208
abbrev QUE_PEEK_ATTR_EOP : Fld := ⟨0x200208, 16, 0, 1⟩
abbrev QUE_PEEK_ATTR_TAG : Fld := ⟨0x200208, 16, 1, 2⟩
abbrev QUE_PEEK_ATTR_PARITY : Fld := ⟨0x200208, 16, 3, 1⟩
abbrev QUE_PEEK_ATTR_PARITY_OK : Fld := ⟨0x200208, 16, 4, 1⟩
/-- LNK_PATH_CFG (10_barif_lanes.md, R269). -/
def LNK_PATH_CFG : Nat := 0x240000
abbrev LNK_PATH_CFG_RATE_A : Fld := ⟨0x240000, 4, 0, 2⟩
abbrev LNK_PATH_CFG_RATE_B : Fld := ⟨0x240000, 4, 2, 2⟩
abbrev LNK_PATH_CFG_IDLE_US : Fld := ⟨0x240000, 4, 8, 10⟩
/-- LNK_UP (10_barif_lanes.md, R269). -/
def LNK_UP : Nat := 0x240004
abbrev LNK_UP_UP : Fld := ⟨0x240004, 4, 0, 24⟩
/-- LNK_EVT (10_barif_lanes.md, R269). -/
def LNK_EVT : Nat := 0x240008
abbrev LNK_EVT_DOWN_SEEN : Fld := ⟨0x240008, 4, 0, 1⟩
abbrev LNK_EVT_REALIGN_SEEN : Fld := ⟨0x240008, 4, 1, 1⟩
abbrev LNK_EVT_SLIP_SEEN : Fld := ⟨0x240008, 4, 2, 1⟩
abbrev LNK_EVT_DOWN_CNT : Fld := ⟨0x240008, 4, 8, 8⟩
abbrev LNK_EVT_REALIGN_CNT : Fld := ⟨0x240008, 4, 16, 8⟩
abbrev LNK_EVT_SLIP_CNT : Fld := ⟨0x240008, 4, 24, 8⟩
/-- LNK_CMD (10_barif_lanes.md, R269). -/
def LNK_CMD : Nat := 0x24000C
abbrev LNK_CMD_CLR_ERR : Fld := ⟨0x24000C, 4, 0, 1⟩
/-- LNK_LANE_CTL (10_barif_lanes.md, R269). -/
def LNK_LANE_CTL : Nat := 0x240100
abbrev LNK_LANE_CTL_EN : Fld := ⟨0x240100, 4, 0, 1⟩
abbrev LNK_LANE_CTL_TX_INV : Fld := ⟨0x240100, 4, 1, 1⟩
abbrev LNK_LANE_CTL_RX_INV : Fld := ⟨0x240100, 4, 2, 1⟩
abbrev LNK_LANE_CTL_S1_KEEP : Fld := ⟨0x240100, 4, 3, 1⟩
abbrev LNK_LANE_CTL_RETRAIN : Fld := ⟨0x240100, 4, 4, 1⟩
/-- LNK_LANE_STAT (10_barif_lanes.md, R269). -/
def LNK_LANE_STAT : Nat := 0x240200
abbrev LNK_LANE_STAT_STATE : Fld := ⟨0x240200, 4, 0, 2⟩
abbrev LNK_LANE_STAT_TX_SUB : Fld := ⟨0x240200, 4, 2, 2⟩
abbrev LNK_LANE_STAT_RX_SUB : Fld := ⟨0x240200, 4, 4, 2⟩
abbrev LNK_LANE_STAT_PARTNER_GOOD : Fld := ⟨0x240200, 4, 6, 1⟩
abbrev LNK_LANE_STAT_MISMATCH : Fld := ⟨0x240200, 4, 7, 1⟩
abbrev LNK_LANE_STAT_FAIL_ATTEMPTS : Fld := ⟨0x240200, 4, 8, 8⟩
/-- LNK_LANE_VIOL (10_barif_lanes.md, R269). -/
def LNK_LANE_VIOL : Nat := 0x240300
abbrev LNK_LANE_VIOL_STUFF : Fld := ⟨0x240300, 8, 0, 16⟩
abbrev LNK_LANE_VIOL_MARKER : Fld := ⟨0x240300, 8, 16, 16⟩
/-- LNK_LANE_SYNC (10_barif_lanes.md, R269). -/
def LNK_LANE_SYNC : Nat := 0x240304
abbrev LNK_LANE_SYNC_REALIGN : Fld := ⟨0x240304, 8, 0, 16⟩
abbrev LNK_LANE_SYNC_SLIP : Fld := ⟨0x240304, 8, 16, 16⟩
/-- LNK_CLASS_POL (11_barif_frames_and_paths.md, R300). -/
def LNK_CLASS_POL : Nat := 0x241000
abbrev LNK_CLASS_POL_C1_POL : Fld := ⟨0x241000, 4, 0, 2⟩
abbrev LNK_CLASS_POL_C2_POL : Fld := ⟨0x241000, 4, 2, 2⟩
abbrev LNK_CLASS_POL_C3_POL : Fld := ⟨0x241000, 4, 4, 2⟩
abbrev LNK_CLASS_POL_C1_FAILOVER : Fld := ⟨0x241000, 4, 8, 1⟩
abbrev LNK_CLASS_POL_C3_FAILOVER : Fld := ⟨0x241000, 4, 9, 1⟩
abbrev LNK_CLASS_POL_SPLIT_MAP : Fld := ⟨0x241000, 4, 16, 8⟩
/-- LNK_MEM_CFG (11_barif_frames_and_paths.md, R300). -/
def LNK_MEM_CFG : Nat := 0x241004
abbrev LNK_MEM_CFG_PATH : Fld := ⟨0x241004, 4, 0, 1⟩
abbrev LNK_MEM_CFG_MEM_FAILOVER : Fld := ⟨0x241004, 4, 1, 1⟩
abbrev LNK_MEM_CFG_TIMEOUT_US : Fld := ⟨0x241004, 4, 8, 8⟩
/-- LNK_RX_CFG (11_barif_frames_and_paths.md, R300). -/
def LNK_RX_CFG : Nat := 0x241008
abbrev LNK_RX_CFG_REORDER : Fld := ⟨0x241008, 4, 0, 12⟩
/-- LNK_RX_EVT (11_barif_frames_and_paths.md, R300). -/
def LNK_RX_EVT : Nat := 0x24100C
abbrev LNK_RX_EVT_CRC_SEEN : Fld := ⟨0x24100C, 4, 0, 1⟩
abbrev LNK_RX_EVT_REJECT_SEEN : Fld := ⟨0x24100C, 4, 1, 1⟩
abbrev LNK_RX_EVT_GAP_SEEN : Fld := ⟨0x24100C, 4, 2, 1⟩
abbrev LNK_RX_EVT_CRC_CNT : Fld := ⟨0x24100C, 4, 8, 8⟩
abbrev LNK_RX_EVT_REJECT_CNT : Fld := ⟨0x24100C, 4, 16, 8⟩
abbrev LNK_RX_EVT_GAP_CNT : Fld := ⟨0x24100C, 4, 24, 8⟩
/-- LNK_MEM_EVT (11_barif_frames_and_paths.md, R300). -/
def LNK_MEM_EVT : Nat := 0x241010
abbrev LNK_MEM_EVT_TIMEOUT_SEEN : Fld := ⟨0x241010, 4, 0, 1⟩
abbrev LNK_MEM_EVT_ERR_SEEN : Fld := ⟨0x241010, 4, 1, 1⟩
abbrev LNK_MEM_EVT_TIMEOUT_CNT : Fld := ⟨0x241010, 4, 8, 8⟩
abbrev LNK_MEM_EVT_ERR_CNT : Fld := ⟨0x241010, 4, 16, 8⟩
/-- LNK_CREDIT_WAIT (11_barif_frames_and_paths.md, R300). -/
def LNK_CREDIT_WAIT : Nat := 0x241014
abbrev LNK_CREDIT_WAIT_COUNT : Fld := ⟨0x241014, 4, 0, 32⟩
/-- LNK_CREDIT_STAT (11_barif_frames_and_paths.md, R300). -/
def LNK_CREDIT_STAT : Nat := 0x241020
abbrev LNK_CREDIT_STAT_C1 : Fld := ⟨0x241020, 4, 0, 8⟩
abbrev LNK_CREDIT_STAT_C2 : Fld := ⟨0x241020, 4, 8, 8⟩
abbrev LNK_CREDIT_STAT_C3 : Fld := ⟨0x241020, 4, 16, 8⟩
abbrev LNK_CREDIT_STAT_WAITING : Fld := ⟨0x241020, 4, 24, 1⟩
/-- LNK_SEQ (11_barif_frames_and_paths.md, R300). -/
def LNK_SEQ : Nat := 0x241030
abbrev LNK_SEQ_NEXT : Fld := ⟨0x241030, 4, 0, 24⟩
/-- LNK_TX_DISCARD (11_barif_frames_and_paths.md, R300). -/
def LNK_TX_DISCARD : Nat := 0x241040
abbrev LNK_TX_DISCARD_COUNT : Fld := ⟨0x241040, 4, 0, 32⟩
/-- LNK_COPY_DROP (11_barif_frames_and_paths.md, R300). -/
def LNK_COPY_DROP : Nat := 0x241050
abbrev LNK_COPY_DROP_COUNT : Fld := ⟨0x241050, 4, 0, 32⟩
/-- LNK_LANE_RX (11_barif_frames_and_paths.md, R300). -/
def LNK_LANE_RX : Nat := 0x241100
abbrev LNK_LANE_RX_CRC : Fld := ⟨0x241100, 4, 0, 16⟩
abbrev LNK_LANE_RX_REJECT : Fld := ⟨0x241100, 4, 16, 16⟩
/-- TIM_CTL (12_laral_time.md, R324). -/
def TIM_CTL : Nat := 0x280000
abbrev TIM_CTL_SOURCE : Fld := ⟨0x280000, 4, 0, 1⟩
abbrev TIM_CTL_PRIMARY : Fld := ⟨0x280000, 4, 1, 1⟩
/-- TIM_STAT (12_laral_time.md, R324). -/
def TIM_STAT : Nat := 0x280004
abbrev TIM_STAT_STATE : Fld := ⟨0x280004, 4, 0, 3⟩
abbrev TIM_STAT_PATH_IN_USE : Fld := ⟨0x280004, 4, 3, 1⟩
abbrev TIM_STAT_PATH_A_GOOD : Fld := ⟨0x280004, 4, 4, 1⟩
abbrev TIM_STAT_PATH_B_GOOD : Fld := ⟨0x280004, 4, 5, 1⟩
abbrev TIM_STAT_PPS_GOOD : Fld := ⟨0x280004, 4, 6, 1⟩
abbrev TIM_STAT_DISAGREE : Fld := ⟨0x280004, 4, 7, 1⟩
abbrev TIM_STAT_VOTE_DEGRADED : Fld := ⟨0x280004, 4, 8, 1⟩
/-- TIM_EVT (12_laral_time.md, R324). -/
def TIM_EVT : Nat := 0x280008
abbrev TIM_EVT_HOLDOVER_SEEN : Fld := ⟨0x280008, 4, 0, 1⟩
abbrev TIM_EVT_JUMP_SEEN : Fld := ⟨0x280008, 4, 1, 1⟩
abbrev TIM_EVT_HOLDOVER_CNT : Fld := ⟨0x280008, 4, 8, 8⟩
abbrev TIM_EVT_JUMP_CNT : Fld := ⟨0x280008, 4, 16, 8⟩
/-- TIM_EVT2 (12_laral_time.md, R324). -/
def TIM_EVT2 : Nat := 0x28000C
abbrev TIM_EVT2_PATH_LOSS_SEEN : Fld := ⟨0x28000C, 4, 0, 1⟩
abbrev TIM_EVT2_VOTE_SEEN : Fld := ⟨0x28000C, 4, 1, 1⟩
abbrev TIM_EVT2_PATH_LOSS_CNT : Fld := ⟨0x28000C, 4, 8, 8⟩
abbrev TIM_EVT2_VOTE_CNT : Fld := ⟨0x28000C, 4, 16, 8⟩
/-- TIM_CMD (12_laral_time.md, R324). -/
def TIM_CMD : Nat := 0x280010
abbrev TIM_CMD_ACCEPT_JUMP : Fld := ⟨0x280010, 4, 0, 1⟩
abbrev TIM_CMD_ASYM_CAL : Fld := ⟨0x280010, 4, 1, 1⟩
abbrev TIM_CMD_ASYM_APPLY : Fld := ⟨0x280010, 4, 2, 1⟩
/-- TIM_COUNT_LO (12_laral_time.md, R324). -/
def TIM_COUNT_LO : Nat := 0x280020
abbrev TIM_COUNT_LO_COUNT : Fld := ⟨0x280020, 4, 0, 32⟩
/-- TIM_COUNT_HI (12_laral_time.md, R324). -/
def TIM_COUNT_HI : Nat := 0x280024
abbrev TIM_COUNT_HI_COUNT : Fld := ⟨0x280024, 4, 0, 32⟩
/-- TIM_NOW_LO (12_laral_time.md, R324). -/
def TIM_NOW_LO : Nat := 0x280028
abbrev TIM_NOW_LO_NS : Fld := ⟨0x280028, 4, 0, 32⟩
/-- TIM_NOW_HI (12_laral_time.md, R324). -/
def TIM_NOW_HI : Nat := 0x28002C
abbrev TIM_NOW_HI_NS : Fld := ⟨0x28002C, 4, 0, 32⟩
/-- TIM_NOW_FRAC (12_laral_time.md, R324). -/
def TIM_NOW_FRAC : Nat := 0x280030
abbrev TIM_NOW_FRAC_FRAC : Fld := ⟨0x280030, 4, 0, 16⟩
/-- TIM_OFFSET_FRAC (12_laral_time.md, R324). -/
def TIM_OFFSET_FRAC : Nat := 0x280040
abbrev TIM_OFFSET_FRAC_FRAC : Fld := ⟨0x280040, 4, 0, 16⟩
/-- TIM_OFFSET_LO (12_laral_time.md, R324). -/
def TIM_OFFSET_LO : Nat := 0x280044
abbrev TIM_OFFSET_LO_NS : Fld := ⟨0x280044, 4, 0, 32⟩
/-- TIM_OFFSET_HI (12_laral_time.md, R324). -/
def TIM_OFFSET_HI : Nat := 0x280048
abbrev TIM_OFFSET_HI_NS : Fld := ⟨0x280048, 4, 0, 32⟩
/-- TIM_RATE (12_laral_time.md, R324). -/
def TIM_RATE : Nat := 0x28004C
abbrev TIM_RATE_RATE : Fld := ⟨0x28004C, 4, 0, 32⟩
/-- TIM_TNOM_LO (12_laral_time.md, R324). -/
def TIM_TNOM_LO : Nat := 0x280050
abbrev TIM_TNOM_LO_TNOM : Fld := ⟨0x280050, 4, 0, 32⟩
/-- TIM_TNOM_HI (12_laral_time.md, R324). -/
def TIM_TNOM_HI : Nat := 0x280054
abbrev TIM_TNOM_HI_TNOM : Fld := ⟨0x280054, 4, 0, 2⟩
/-- TIM_SECONDS_LO (12_laral_time.md, R324). -/
def TIM_SECONDS_LO : Nat := 0x280058
abbrev TIM_SECONDS_LO_SEC : Fld := ⟨0x280058, 4, 0, 32⟩
/-- TIM_SECONDS_HI (12_laral_time.md, R324). -/
def TIM_SECONDS_HI : Nat := 0x28005C
abbrev TIM_SECONDS_HI_SEC : Fld := ⟨0x28005C, 4, 0, 32⟩
/-- TIM_JUMP_THR (12_laral_time.md, R324). -/
def TIM_JUMP_THR : Nat := 0x280060
abbrev TIM_JUMP_THR_NS : Fld := ⟨0x280060, 4, 0, 24⟩
/-- TIM_SERVO (12_laral_time.md, R324). -/
def TIM_SERVO : Nat := 0x280064
abbrev TIM_SERVO_KP : Fld := ⟨0x280064, 4, 0, 4⟩
abbrev TIM_SERVO_KI : Fld := ⟨0x280064, 4, 4, 4⟩
abbrev TIM_SERVO_LOSS_ROUNDS : Fld := ⟨0x280064, 4, 8, 4⟩
abbrev TIM_SERVO_DLY_GATE : Fld := ⟨0x280064, 4, 16, 12⟩
/-- TIM_LAT (12_laral_time.md, R324). -/
def TIM_LAT : Nat := 0x280070
abbrev TIM_LAT_TX_UI : Fld := ⟨0x280070, 4, 0, 12⟩
abbrev TIM_LAT_RX_UI : Fld := ⟨0x280070, 4, 16, 12⟩
/-- TIM_ASYM (12_laral_time.md, R324). -/
def TIM_ASYM : Nat := 0x280078
abbrev TIM_ASYM_PS : Fld := ⟨0x280078, 4, 0, 16⟩
/-- TIM_PATH_THETA (12_laral_time.md, R324). -/
def TIM_PATH_THETA : Nat := 0x280080
abbrev TIM_PATH_THETA_THETA : Fld := ⟨0x280080, 8, 0, 32⟩
/-- TIM_PATH_DELAY (12_laral_time.md, R324). -/
def TIM_PATH_DELAY : Nat := 0x280084
abbrev TIM_PATH_DELAY_DELAY : Fld := ⟨0x280084, 8, 0, 32⟩
/-- TIM_PATH_CNT (12_laral_time.md, R324). -/
def TIM_PATH_CNT : Nat := 0x280090
abbrev TIM_PATH_CNT_ACCEPTED : Fld := ⟨0x280090, 4, 0, 16⟩
abbrev TIM_PATH_CNT_REJECTED : Fld := ⟨0x280090, 4, 16, 16⟩
/-- TIM_JUMP_OFS_LO (12_laral_time.md, R324). -/
def TIM_JUMP_OFS_LO : Nat := 0x280098
abbrev TIM_JUMP_OFS_LO_OFS : Fld := ⟨0x280098, 4, 0, 32⟩
/-- TIM_JUMP_OFS_HI (12_laral_time.md, R324). -/
def TIM_JUMP_OFS_HI : Nat := 0x28009C
abbrev TIM_JUMP_OFS_HI_OFS : Fld := ⟨0x28009C, 4, 0, 32⟩
/-- TIM_PPS_CFG (12_laral_time.md, R324). -/
def TIM_PPS_CFG : Nat := 0x2800A0
abbrev TIM_PPS_CFG_EN : Fld := ⟨0x2800A0, 4, 0, 1⟩
abbrev TIM_PPS_CFG_EDGE : Fld := ⟨0x2800A0, 4, 1, 1⟩
abbrev TIM_PPS_CFG_CAL_N : Fld := ⟨0x2800A0, 4, 8, 8⟩
/-- TIM_PPS_DELAY (12_laral_time.md, R324). -/
def TIM_PPS_DELAY : Nat := 0x2800A4
abbrev TIM_PPS_DELAY_PS : Fld := ⟨0x2800A4, 4, 0, 32⟩
/-- TIM_PPS_SEC_LO (12_laral_time.md, R324). -/
def TIM_PPS_SEC_LO : Nat := 0x2800A8
abbrev TIM_PPS_SEC_LO_SEC : Fld := ⟨0x2800A8, 4, 0, 32⟩
/-- TIM_PPS_SEC_HI (12_laral_time.md, R324). -/
def TIM_PPS_SEC_HI : Nat := 0x2800AC
abbrev TIM_PPS_SEC_HI_SEC : Fld := ⟨0x2800AC, 4, 0, 32⟩
/-- TIM_ASYM_MEAS (12_laral_time.md, R324). -/
def TIM_ASYM_MEAS : Nat := 0x2800B0
abbrev TIM_ASYM_MEAS_PS : Fld := ⟨0x2800B0, 4, 0, 16⟩
abbrev TIM_ASYM_MEAS_VALID : Fld := ⟨0x2800B0, 4, 16, 1⟩
abbrev TIM_ASYM_MEAS_PATH : Fld := ⟨0x2800B0, 4, 17, 1⟩
abbrev TIM_ASYM_MEAS_BUSY : Fld := ⟨0x2800B0, 4, 18, 1⟩
/-- TIM_VOTE_TOTAL (12_laral_time.md, R324). -/
def TIM_VOTE_TOTAL : Nat := 0x2800B4
abbrev TIM_VOTE_TOTAL_COUNT : Fld := ⟨0x2800B4, 4, 0, 32⟩
/-- PRM_CTL (13_prompter.md, R346). -/
def PRM_CTL : Nat := 0x2C0000
abbrev PRM_CTL_COMMIT : Fld := ⟨0x2C0000, 4, 0, 1⟩
/-- PRM_STAT (13_prompter.md, R346). -/
def PRM_STAT : Nat := 0x2C0004
abbrev PRM_STAT_COMMITTED : Fld := ⟨0x2C0004, 4, 0, 1⟩
abbrev PRM_STAT_POLLING : Fld := ⟨0x2C0004, 4, 1, 1⟩
abbrev PRM_STAT_COMMIT_ERR : Fld := ⟨0x2C0004, 4, 2, 4⟩
/-- PRM_DELIVERY (13_prompter.md, R346). -/
def PRM_DELIVERY : Nat := 0x2C0008
abbrev PRM_DELIVERY_C1_MEM : Fld := ⟨0x2C0008, 4, 0, 1⟩
abbrev PRM_DELIVERY_C2_MEM : Fld := ⟨0x2C0008, 4, 1, 1⟩
abbrev PRM_DELIVERY_C3_MEM : Fld := ⟨0x2C0008, 4, 2, 1⟩
/-- PRM_POLL (13_prompter.md, R346). -/
def PRM_POLL : Nat := 0x2C000C
abbrev PRM_POLL_INTERVAL : Fld := ⟨0x2C000C, 4, 0, 17⟩
/-- PRM_DB_BASE_LO (13_prompter.md, R346). -/
def PRM_DB_BASE_LO : Nat := 0x2C0010
abbrev PRM_DB_BASE_LO_ADDR : Fld := ⟨0x2C0010, 4, 12, 20⟩
/-- PRM_DB_BASE_HI (13_prompter.md, R346). -/
def PRM_DB_BASE_HI : Nat := 0x2C0014
abbrev PRM_DB_BASE_HI_ADDR : Fld := ⟨0x2C0014, 4, 0, 32⟩
/-- PRM_ST_BASE_LO (13_prompter.md, R346). -/
def PRM_ST_BASE_LO : Nat := 0x2C0018
abbrev PRM_ST_BASE_LO_ADDR : Fld := ⟨0x2C0018, 4, 12, 20⟩
/-- PRM_ST_BASE_HI (13_prompter.md, R346). -/
def PRM_ST_BASE_HI : Nat := 0x2C001C
abbrev PRM_ST_BASE_HI_ADDR : Fld := ⟨0x2C001C, 4, 0, 32⟩
/-- PRM_EVT (13_prompter.md, R346). -/
def PRM_EVT : Nat := 0x2C0020
abbrev PRM_EVT_POLL_FAIL_SEEN : Fld := ⟨0x2C0020, 4, 0, 1⟩
abbrev PRM_EVT_RING_ERR_SEEN : Fld := ⟨0x2C0020, 4, 1, 1⟩
abbrev PRM_EVT_PATH_CHANGE_SEEN : Fld := ⟨0x2C0020, 4, 2, 1⟩
abbrev PRM_EVT_POLL_FAIL_CNT : Fld := ⟨0x2C0020, 4, 8, 8⟩
abbrev PRM_EVT_RING_ERR_CNT : Fld := ⟨0x2C0020, 4, 16, 8⟩
abbrev PRM_EVT_PATH_CHANGE_CNT : Fld := ⟨0x2C0020, 4, 24, 8⟩
/-- PRM_RING_CMD (13_prompter.md, R346). -/
def PRM_RING_CMD : Nat := 0x2C0024
abbrev PRM_RING_CMD_RING : Fld := ⟨0x2C0024, 4, 0, 6⟩
abbrev PRM_RING_CMD_RESUME : Fld := ⟨0x2C0024, 4, 8, 1⟩
/-- PRM_POLL_TOTAL (13_prompter.md, R346). -/
def PRM_POLL_TOTAL : Nat := 0x2C0028
abbrev PRM_POLL_TOTAL_COUNT : Fld := ⟨0x2C0028, 4, 0, 32⟩
/-- PRM_RING_BASE_LO (13_prompter.md, R346). -/
def PRM_RING_BASE_LO : Nat := 0x2C0100
abbrev PRM_RING_BASE_LO_ADDR : Fld := ⟨0x2C0100, 16, 12, 20⟩
/-- PRM_RING_BASE_HI (13_prompter.md, R346). -/
def PRM_RING_BASE_HI : Nat := 0x2C0104
abbrev PRM_RING_BASE_HI_ADDR : Fld := ⟨0x2C0104, 16, 0, 32⟩
/-- PRM_RING_CFG (13_prompter.md, R346). -/
def PRM_RING_CFG : Nat := 0x2C0108
abbrev PRM_RING_CFG_SIZE : Fld := ⟨0x2C0108, 16, 0, 5⟩
abbrev PRM_RING_CFG_EN : Fld := ⟨0x2C0108, 16, 8, 1⟩
/-- PRM_RING_STAT (13_prompter.md, R346). -/
def PRM_RING_STAT : Nat := 0x2C010C
abbrev PRM_RING_STAT_STOPPED : Fld := ⟨0x2C010C, 16, 0, 1⟩
abbrev PRM_RING_STAT_ERR : Fld := ⟨0x2C010C, 16, 1, 3⟩
abbrev PRM_RING_STAT_IN_FLIGHT : Fld := ⟨0x2C010C, 16, 16, 11⟩
/-- SAF_STAT (14_fire_curtain.md, R373). -/
def SAF_STAT : Nat := 0x300000
abbrev SAF_STAT_STATE : Fld := ⟨0x300000, 4, 0, 3⟩
abbrev SAF_STAT_FC_CLOSED : Fld := ⟨0x300000, 4, 3, 2⟩
abbrev SAF_STAT_VOTERS : Fld := ⟨0x300000, 4, 5, 3⟩
abbrev SAF_STAT_VAUX_OK : Fld := ⟨0x300000, 4, 8, 1⟩
abbrev SAF_STAT_PATH_A_OK : Fld := ⟨0x300000, 4, 9, 1⟩
abbrev SAF_STAT_PATH_B_OK : Fld := ⟨0x300000, 4, 10, 1⟩
abbrev SAF_STAT_INC_OK : Fld := ⟨0x300000, 4, 11, 1⟩
abbrev SAF_STAT_SSI_OK : Fld := ⟨0x300000, 4, 12, 1⟩
abbrev SAF_STAT_KEY_SET : Fld := ⟨0x300000, 4, 13, 1⟩
abbrev SAF_STAT_SLS_SEL : Fld := ⟨0x300000, 4, 14, 2⟩
abbrev SAF_STAT_DEG_LEFT_S : Fld := ⟨0x300000, 4, 16, 7⟩
abbrev SAF_STAT_RESET_STUCK : Fld := ⟨0x300000, 4, 23, 1⟩
/-- SAF_CAUSE (14_fire_curtain.md, R373). -/
def SAF_CAUSE : Nat := 0x300004
abbrev SAF_CAUSE_CODE : Fld := ⟨0x300004, 4, 0, 16⟩
abbrev SAF_CAUSE_LOCK_SEQ : Fld := ⟨0x300004, 4, 16, 16⟩
/-- SAF_CNT (14_fire_curtain.md, R373). -/
def SAF_CNT : Nat := 0x300008
abbrev SAF_CNT_LOCKOUTS : Fld := ⟨0x300008, 4, 0, 8⟩
abbrev SAF_CNT_DEGRADED : Fld := ⟨0x300008, 4, 8, 8⟩
abbrev SAF_CNT_RESET_IGNORED : Fld := ⟨0x300008, 4, 16, 8⟩
abbrev SAF_CNT_INPUT_FAULTS : Fld := ⟨0x300008, 4, 24, 8⟩
/-- SAF_CNT2 (14_fire_curtain.md, R373). -/
def SAF_CNT2 : Nat := 0x30000C
abbrev SAF_CNT2_TEL_DISCARD : Fld := ⟨0x30000C, 4, 0, 8⟩
abbrev SAF_CNT2_ACT_REFUSED : Fld := ⟨0x30000C, 4, 8, 8⟩
/-- SAF_SI_STAT (14_fire_curtain.md, R373). -/
def SAF_SI_STAT : Nat := 0x300010
abbrev SAF_SI_STAT_A : Fld := ⟨0x300010, 4, 0, 1⟩
abbrev SAF_SI_STAT_B : Fld := ⟨0x300010, 4, 1, 1⟩
abbrev SAF_SI_STAT_LOCKED : Fld := ⟨0x300010, 4, 2, 1⟩
/-- SAF_POS (14_fire_curtain.md, R373). -/
def SAF_POS : Nat := 0x300030
abbrev SAF_POS_MDEG : Fld := ⟨0x300030, 4, 0, 32⟩
/-- SAF_SPEED (14_fire_curtain.md, R373). -/
def SAF_SPEED : Nat := 0x300034
abbrev SAF_SPEED_MDEG_S : Fld := ⟨0x300034, 4, 0, 32⟩
/-- SAF_SET_CRC (14_fire_curtain.md, R373). -/
def SAF_SET_CRC : Nat := 0x300038
abbrev SAF_SET_CRC_CRC : Fld := ⟨0x300038, 4, 0, 32⟩
/-- SAF_CFG (14_fire_curtain.md, R373). -/
def SAF_CFG : Nat := 0x300100
abbrev SAF_CFG_MONITOR_EN : Fld := ⟨0x300100, 4, 0, 1⟩
abbrev SAF_CFG_SLS_REACT : Fld := ⟨0x300100, 4, 1, 1⟩
abbrev SAF_CFG_DEG_TIME_S : Fld := ⟨0x300100, 4, 16, 7⟩
/-- SAF_TP (14_fire_curtain.md, R373). -/
def SAF_TP : Nat := 0x300104
abbrev SAF_TP_WIDTH_US : Fld := ⟨0x300104, 4, 0, 10⟩
abbrev SAF_TP_PERIOD_MS : Fld := ⟨0x300104, 4, 16, 8⟩
/-- SAF_SI_CFG (14_fire_curtain.md, R373). -/
def SAF_SI_CFG : Nat := 0x300108
abbrev SAF_SI_CFG_FUNC : Fld := ⟨0x300108, 4, 0, 3⟩
abbrev SAF_SI_CFG_TP_EN : Fld := ⟨0x300108, 4, 3, 1⟩
abbrev SAF_SI_CFG_FILTER_MS : Fld := ⟨0x300108, 4, 4, 3⟩
abbrev SAF_SI_CFG_TD_MS : Fld := ⟨0x300108, 4, 16, 9⟩
/-- SAF_INC (14_fire_curtain.md, R373). -/
def SAF_INC : Nat := 0x300128
abbrev SAF_INC_CPR : Fld := ⟨0x300128, 4, 0, 24⟩
abbrev SAF_INC_ZTOL : Fld := ⟨0x300128, 4, 24, 8⟩
/-- SAF_SSI (14_fire_curtain.md, R373). -/
def SAF_SSI : Nat := 0x30012C
abbrev SAF_SSI_LEN : Fld := ⟨0x30012C, 4, 0, 6⟩
abbrev SAF_SSI_ST_BITS : Fld := ⟨0x30012C, 4, 6, 5⟩
abbrev SAF_SSI_GRAY : Fld := ⟨0x30012C, 4, 11, 1⟩
abbrev SAF_SSI_ERRBIT : Fld := ⟨0x30012C, 4, 12, 1⟩
abbrev SAF_SSI_CLK : Fld := ⟨0x30012C, 4, 13, 2⟩
/-- SAF_POS_TOL (14_fire_curtain.md, R373). -/
def SAF_POS_TOL : Nat := 0x300130
abbrev SAF_POS_TOL_MDEG : Fld := ⟨0x300130, 4, 0, 16⟩
/-- SAF_SLS_LIM (14_fire_curtain.md, R373). -/
def SAF_SLS_LIM : Nat := 0x300134
abbrev SAF_SLS_LIM_MDEG_S : Fld := ⟨0x300134, 4, 0, 24⟩
/-- SAF_DEG_SLS (14_fire_curtain.md, R373). -/
def SAF_DEG_SLS : Nat := 0x300144
abbrev SAF_DEG_SLS_MDEG_S : Fld := ⟨0x300144, 4, 0, 24⟩
/-- SAF_SS1 (14_fire_curtain.md, R373). -/
def SAF_SS1 : Nat := 0x300148
abbrev SAF_SS1_T_MS : Fld := ⟨0x300148, 4, 0, 14⟩
abbrev SAF_SS1_TOL : Fld := ⟨0x300148, 4, 16, 16⟩
/-- SAF_STANDSTILL (14_fire_curtain.md, R373). -/
def SAF_STANDSTILL : Nat := 0x30014C
abbrev SAF_STANDSTILL_MDEG_S : Fld := ⟨0x30014C, 4, 0, 16⟩
/-- SAF_SLP_MIN (14_fire_curtain.md, R373). -/
def SAF_SLP_MIN : Nat := 0x300150
abbrev SAF_SLP_MIN_MDEG : Fld := ⟨0x300150, 4, 0, 32⟩
/-- SAF_SLP_MAX (14_fire_curtain.md, R373). -/
def SAF_SLP_MAX : Nat := 0x300154
abbrev SAF_SLP_MAX_MDEG : Fld := ⟨0x300154, 4, 0, 32⟩
/-- SAF_SLP_DECEL (14_fire_curtain.md, R373). -/
def SAF_SLP_DECEL : Nat := 0x300158
abbrev SAF_SLP_DECEL_MDEG_S2 : Fld := ⟨0x300158, 4, 0, 24⟩
abbrev SAF_SLP_DECEL_SLP_EN : Fld := ⟨0x300158, 4, 31, 1⟩
/-- SAF_SDI_TOL (14_fire_curtain.md, R373). -/
def SAF_SDI_TOL : Nat := 0x30015C
abbrev SAF_SDI_TOL_MDEG : Fld := ⟨0x30015C, 4, 0, 16⟩
/-- SAF_FC (14_fire_curtain.md, R373). -/
def SAF_FC : Nat := 0x300160
abbrev SAF_FC_EN : Fld := ⟨0x300160, 4, 0, 2⟩
abbrev SAF_FC_TEST_PERIOD_S : Fld := ⟨0x300160, 4, 8, 6⟩
abbrev SAF_FC_TEST_US : Fld := ⟨0x300160, 4, 16, 9⟩
/-- SNS_CTL (15_slow_sensors.md, R386). -/
def SNS_CTL : Nat := 0x340000
abbrev SNS_CTL_EN : Fld := ⟨0x340000, 4, 0, 1⟩
abbrev SNS_CTL_STEP_LSB : Fld := ⟨0x340000, 4, 8, 8⟩
/-- SNS_EVT (15_slow_sensors.md, R386). -/
def SNS_EVT : Nat := 0x340004
abbrev SNS_EVT_OPEN_SEEN : Fld := ⟨0x340004, 4, 0, 1⟩
abbrev SNS_EVT_SW_SEEN : Fld := ⟨0x340004, 4, 1, 1⟩
abbrev SNS_EVT_OPEN_CNT : Fld := ⟨0x340004, 4, 8, 8⟩
abbrev SNS_EVT_SW_CNT : Fld := ⟨0x340004, 4, 16, 8⟩
/-- SNS_SW_STAT (15_slow_sensors.md, R386). -/
def SNS_SW_STAT : Nat := 0x340008
abbrev SNS_SW_STAT_STATE : Fld := ⟨0x340008, 4, 0, 32⟩
/-- SNS_IN_CFG (15_slow_sensors.md, R386). -/
def SNS_IN_CFG : Nat := 0x340100
abbrev SNS_IN_CFG_MODE : Fld := ⟨0x340100, 4, 0, 2⟩
abbrev SNS_IN_CFG_IEXC : Fld := ⟨0x340100, 4, 2, 3⟩
abbrev SNS_IN_CFG_PERIOD_MS : Fld := ⟨0x340100, 4, 16, 14⟩
/-- SNS_IN_STAT (15_slow_sensors.md, R386). -/
def SNS_IN_STAT : Nat := 0x340140
abbrev SNS_IN_STAT_CODE : Fld := ⟨0x340140, 4, 0, 16⟩
abbrev SNS_IN_STAT_OPEN : Fld := ⟨0x340140, 4, 16, 1⟩
abbrev SNS_IN_STAT_CONV_CNT : Fld := ⟨0x340140, 4, 24, 8⟩
/-- SNS_IN_VALUE (15_slow_sensors.md, R386). -/
def SNS_IN_VALUE : Nat := 0x340180
abbrev SNS_IN_VALUE_VALUE : Fld := ⟨0x340180, 4, 0, 32⟩
/-- SNS_IEXC_CAL (15_slow_sensors.md, R386). -/
def SNS_IEXC_CAL : Nat := 0x3401C0
abbrev SNS_IEXC_CAL_NA : Fld := ⟨0x3401C0, 4, 0, 32⟩
/-- SNS_SW_CFG (15_slow_sensors.md, R386). -/
def SNS_SW_CFG : Nat := 0x340200
abbrev SNS_SW_CFG_EN : Fld := ⟨0x340200, 16, 0, 1⟩
abbrev SNS_SW_CFG_DIR : Fld := ⟨0x340200, 16, 1, 1⟩
abbrev SNS_SW_CFG_OPEN_ON : Fld := ⟨0x340200, 16, 2, 1⟩
abbrev SNS_SW_CFG_DEBOUNCE : Fld := ⟨0x340200, 16, 4, 4⟩
abbrev SNS_SW_CFG_ACTION : Fld := ⟨0x340200, 16, 8, 2⟩
abbrev SNS_SW_CFG_PARAM : Fld := ⟨0x340200, 16, 10, 3⟩
/-- SNS_SW_ON (15_slow_sensors.md, R386). -/
def SNS_SW_ON : Nat := 0x340204
abbrev SNS_SW_ON_ON_THR : Fld := ⟨0x340204, 16, 0, 32⟩
/-- SNS_SW_OFF (15_slow_sensors.md, R386). -/
def SNS_SW_OFF : Nat := 0x340208
abbrev SNS_SW_OFF_OFF_THR : Fld := ⟨0x340208, 16, 0, 32⟩
/-- FAU_STAT (18_faults_and_background.md, R436). -/
def FAU_STAT : Nat := 0x380000
abbrev FAU_STAT_OPEN : Fld := ⟨0x380000, 4, 0, 9⟩
abbrev FAU_STAT_OVERFLOW : Fld := ⟨0x380000, 4, 9, 1⟩
abbrev FAU_STAT_NEXT_ID : Fld := ⟨0x380000, 4, 16, 16⟩
/-- FAU_EVT (18_faults_and_background.md, R436). -/
def FAU_EVT : Nat := 0x380004
abbrev FAU_EVT_OPEN_SEEN : Fld := ⟨0x380004, 4, 0, 1⟩
abbrev FAU_EVT_OVERFLOW_SEEN : Fld := ⟨0x380004, 4, 1, 1⟩
abbrev FAU_EVT_SCRUB_SEEN : Fld := ⟨0x380004, 4, 2, 1⟩
abbrev FAU_EVT_OPEN_CNT : Fld := ⟨0x380004, 4, 8, 8⟩
abbrev FAU_EVT_OVERFLOW_CNT : Fld := ⟨0x380004, 4, 16, 8⟩
abbrev FAU_EVT_SCRUB_CNT : Fld := ⟨0x380004, 4, 24, 8⟩
/-- FAU_CMD (18_faults_and_background.md, R436). -/
def FAU_CMD : Nat := 0x380008
abbrev FAU_CMD_ENTRY : Fld := ⟨0x380008, 4, 0, 8⟩
abbrev FAU_CMD_CLOSE : Fld := ⟨0x380008, 4, 8, 1⟩
abbrev FAU_CMD_PURGE_PREVIOUS : Fld := ⟨0x380008, 4, 9, 1⟩
/-- FAU_SCRUB_TOTAL (18_faults_and_background.md, R436). -/
def FAU_SCRUB_TOTAL : Nat := 0x38000C
abbrev FAU_SCRUB_TOTAL_COUNT : Fld := ⟨0x38000C, 4, 0, 32⟩
/-- FAU_ECC_CORR (18_faults_and_background.md, R436). -/
def FAU_ECC_CORR : Nat := 0x380010
abbrev FAU_ECC_CORR_COUNT : Fld := ⟨0x380010, 4, 0, 32⟩
/-- FAU_ECC_UNCORR (18_faults_and_background.md, R436). -/
def FAU_ECC_UNCORR : Nat := 0x380014
abbrev FAU_ECC_UNCORR_COUNT : Fld := ⟨0x380014, 4, 0, 32⟩
/-- FAU_FLASH_STAT (18_faults_and_background.md, R436). -/
def FAU_FLASH_STAT : Nat := 0x380018
abbrev FAU_FLASH_STAT_RETIRED : Fld := ⟨0x380018, 4, 0, 9⟩
abbrev FAU_FLASH_STAT_REFRESH_BUSY : Fld := ⟨0x380018, 4, 9, 1⟩
/-- FAU_STATION_CTL (02_hierarchy.md, R71). -/
def FAU_STATION_CTL : Nat := 0x380040
abbrev FAU_STATION_CTL_GROUP_BITS : Fld := ⟨0x380040, 4, 0, 4⟩
/-- FAU_INC_LO (18_faults_and_background.md, R436). -/
def FAU_INC_LO : Nat := 0x381000
abbrev FAU_INC_LO_WORD : Fld := ⟨0x381000, 8, 0, 32⟩
/-- FAU_INC_HI (18_faults_and_background.md, R436). -/
def FAU_INC_HI : Nat := 0x381004
abbrev FAU_INC_HI_WORD : Fld := ⟨0x381004, 8, 0, 32⟩
/-- PMC_CTL (19_counters_and_tracers.md, R450). -/
def PMC_CTL : Nat := 0x3C0000
abbrev PMC_CTL_PERIOD_MS : Fld := ⟨0x3C0000, 4, 0, 14⟩
abbrev PMC_CTL_DUMP_EN : Fld := ⟨0x3C0000, 4, 14, 1⟩
abbrev PMC_CTL_TRC_EN : Fld := ⟨0x3C0000, 4, 15, 1⟩
abbrev PMC_CTL_TRC_K : Fld := ⟨0x3C0000, 4, 16, 5⟩
/-- PMC_CMD (19_counters_and_tracers.md, R450). -/
def PMC_CMD : Nat := 0x3C0004
abbrev PMC_CMD_SNAP : Fld := ⟨0x3C0004, 4, 0, 1⟩
abbrev PMC_CMD_CLR_WRAP : Fld := ⟨0x3C0004, 4, 1, 1⟩
abbrev PMC_CMD_DUMP_NOW : Fld := ⟨0x3C0004, 4, 2, 1⟩
/-- PMC_DUMP_NO (19_counters_and_tracers.md, R450). -/
def PMC_DUMP_NO : Nat := 0x3C0008
abbrev PMC_DUMP_NO_NO : Fld := ⟨0x3C0008, 4, 0, 32⟩
/-- PMC_EVT (19_counters_and_tracers.md, R450). -/
def PMC_EVT : Nat := 0x3C000C
abbrev PMC_EVT_WRAP_SEEN : Fld := ⟨0x3C000C, 4, 0, 1⟩
abbrev PMC_EVT_SKIP_SEEN : Fld := ⟨0x3C000C, 4, 1, 1⟩
abbrev PMC_EVT_MISS_SEEN : Fld := ⟨0x3C000C, 4, 2, 1⟩
abbrev PMC_EVT_WRAP_CNT : Fld := ⟨0x3C000C, 4, 8, 8⟩
abbrev PMC_EVT_SKIP_CNT : Fld := ⟨0x3C000C, 4, 16, 8⟩
abbrev PMC_EVT_MISS_CNT : Fld := ⟨0x3C000C, 4, 24, 8⟩
/-- PMC_TRC_MISSED (19_counters_and_tracers.md, R450). -/
def PMC_TRC_MISSED : Nat := 0x3C0010
abbrev PMC_TRC_MISSED_COUNT : Fld := ⟨0x3C0010, 4, 0, 32⟩
/-- PMC_DUMP_SKIP (19_counters_and_tracers.md, R450). -/
def PMC_DUMP_SKIP : Nat := 0x3C0014
abbrev PMC_DUMP_SKIP_COUNT : Fld := ⟨0x3C0014, 4, 0, 32⟩
/-- PMC_TRC_CHAN_LO (19_counters_and_tracers.md, R450). -/
def PMC_TRC_CHAN_LO : Nat := 0x3C0018
abbrev PMC_TRC_CHAN_LO_MAP : Fld := ⟨0x3C0018, 4, 0, 32⟩
/-- PMC_TRC_CHAN_HI (19_counters_and_tracers.md, R450). -/
def PMC_TRC_CHAN_HI : Nat := 0x3C001C
abbrev PMC_TRC_CHAN_HI_MAP : Fld := ⟨0x3C001C, 4, 0, 32⟩
/-- PMC_SNAP_COUNT_LO (19_counters_and_tracers.md, R450). -/
def PMC_SNAP_COUNT_LO : Nat := 0x3C0020
abbrev PMC_SNAP_COUNT_LO_L : Fld := ⟨0x3C0020, 4, 0, 32⟩
/-- PMC_SNAP_COUNT_HI (19_counters_and_tracers.md, R450). -/
def PMC_SNAP_COUNT_HI : Nat := 0x3C0024
abbrev PMC_SNAP_COUNT_HI_L : Fld := ⟨0x3C0024, 4, 0, 32⟩
/-- PMC_WRAP (19_counters_and_tracers.md, R450). -/
def PMC_WRAP : Nat := 0x3C0040
abbrev PMC_WRAP_WRAPPED : Fld := ⟨0x3C0040, 4, 0, 32⟩
/-- PMC_FOCUS_CFG (19_counters_and_tracers.md, R450). -/
def PMC_FOCUS_CFG : Nat := 0x3C0100
abbrev PMC_FOCUS_CFG_EVENT : Fld := ⟨0x3C0100, 16, 0, 9⟩
abbrev PMC_FOCUS_CFG_EV_MASK : Fld := ⟨0x3C0100, 16, 9, 9⟩
/-- PMC_FOCUS_LOC (19_counters_and_tracers.md, R450). -/
def PMC_FOCUS_LOC : Nat := 0x3C0104
abbrev PMC_FOCUS_LOC_LOC : Fld := ⟨0x3C0104, 16, 0, 16⟩
abbrev PMC_FOCUS_LOC_LOC_MASK : Fld := ⟨0x3C0104, 16, 16, 16⟩
/-- PMC_FOCUS_LO (19_counters_and_tracers.md, R450). -/
def PMC_FOCUS_LO : Nat := 0x3C0108
abbrev PMC_FOCUS_LO_VALUE : Fld := ⟨0x3C0108, 16, 0, 32⟩
/-- PMC_FOCUS_HI (19_counters_and_tracers.md, R450). -/
def PMC_FOCUS_HI : Nat := 0x3C010C
abbrev PMC_FOCUS_HI_VALUE : Fld := ⟨0x3C010C, 16, 0, 16⟩
/-- PMC_CNT_LO (19_counters_and_tracers.md, R450). -/
def PMC_CNT_LO : Nat := 0x3C1000
abbrev PMC_CNT_LO_VALUE : Fld := ⟨0x3C1000, 8, 0, 32⟩
/-- PMC_CNT_HI (19_counters_and_tracers.md, R450). -/
def PMC_CNT_HI : Nat := 0x3C1004
abbrev PMC_CNT_HI_VALUE : Fld := ⟨0x3C1004, 8, 0, 16⟩
/-- PMC_SNAP_LO (19_counters_and_tracers.md, R450). -/
def PMC_SNAP_LO : Nat := 0x3C2000
abbrev PMC_SNAP_LO_VALUE : Fld := ⟨0x3C2000, 8, 0, 32⟩
/-- PMC_SNAP_HI (19_counters_and_tracers.md, R450). -/
def PMC_SNAP_HI : Nat := 0x3C2004
abbrev PMC_SNAP_HI_VALUE : Fld := ⟨0x3C2004, 8, 0, 16⟩

end F

end Sys2Proof.Machine
end

