-- ==== Sys2Proof/Machine/RegTable.lean ====
section
/-! DEFINITION. The register tables of the manual (spec files 01 to 19, indexed by R451 to R455), one entry for
each register or register array: base address, stride, number of instances, group and used part of a group (the FIR
coefficient banks hold 49 words in every 64), and its fields with their access code (R13, R14, R15) and their three
reset columns (R17). Reserved fields have no entry: they read 0 and are not written (R12). -/

namespace Sys2Proof.Machine

/-- Access codes of R13. A set-event count, listed with RWV in the tables, has the code cnt, because R14 takes the
place of the RWV row for its writes. -/
inductive Acc where
  | ro | rw | rwv | w1c | wo | rwl | cnt
  deriving DecidableEq, Repr

/-- An entry of a reset column (R17). -/
inductive Rst where
  | val (n : Nat)
  | keep
  | image (n : Nat)
  | strap
  deriving DecidableEq, Repr

/-- One field of a register: lowest bit, width, access code, and the columns cold, warm and restart. -/
structure FieldDef where
  lo : Nat
  width : Nat
  acc : Acc
  cold : Rst
  warm : Rst
  restart : Rst
  deriving DecidableEq, Repr

/-- One register or register array of a table. -/
structure RegDef where
  base : Nat
  stride : Nat
  count : Nat
  group : Nat
  used : Nat
  fields : List FieldDef
  deriving DecidableEq, Repr

/-- Registers MGT_RESET_CAUSE to PWR_CMD (R404, R417, R71). -/
def regTable0 : List RegDef :=
  [ ⟨0x0, 4, 1, 1, 1, [⟨0, 2, .ro, .val 0, .val 1, .val 2⟩, ⟨2, 1, .ro, .val 0, .keep, .keep⟩, ⟨3, 2, .ro, .val 0, .keep, .keep⟩]⟩,
    ⟨0x4, 4, 1, 1, 1, [⟨0, 1, .wo, .val 0, .val 0, .val 0⟩, ⟨1, 1, .wo, .val 0, .val 0, .val 0⟩, ⟨16, 16, .wo, .val 0, .val 0, .val 0⟩]⟩,
    ⟨0x8, 4, 1, 1, 1, [⟨0, 1, .rw, .image 1, .keep, .keep⟩, ⟨1, 1, .rw, .image 1, .keep, .keep⟩, ⟨8, 4, .rw, .image 3, .keep, .keep⟩]⟩,
    ⟨0xC, 4, 1, 1, 1, [⟨0, 4, .ro, .val 0, .val 3, .keep⟩, ⟨4, 1, .ro, .val 0, .val 0, .keep⟩, ⟨5, 1, .ro, .val 0, .keep, .keep⟩, ⟨6, 1, .ro, .val 0, .val 0, .keep⟩, ⟨7, 1, .ro, .val 0, .val 0, .keep⟩, ⟨8, 1, .ro, .val 0, .val 0, .val 0⟩]⟩,
    ⟨0x10, 4, 1, 1, 1, [⟨0, 16, .rw, .val 0, .val 0, .keep⟩]⟩,
    ⟨0x14, 4, 1, 1, 1, [⟨0, 1, .ro, .strap, .strap, .keep⟩, ⟨1, 1, .ro, .strap, .strap, .keep⟩, ⟨2, 2, .ro, .strap, .strap, .keep⟩]⟩,
    ⟨0x18, 4, 1, 1, 1, [⟨0, 1, .w1c, .val 0, .keep, .keep⟩, ⟨1, 1, .w1c, .val 0, .keep, .keep⟩, ⟨2, 1, .w1c, .val 0, .keep, .keep⟩, ⟨8, 8, .cnt, .val 0, .keep, .keep⟩, ⟨16, 8, .cnt, .val 0, .keep, .keep⟩, ⟨24, 8, .cnt, .val 0, .keep, .keep⟩]⟩,
    ⟨0x10000, 4, 1, 1, 1, [⟨0, 3, .ro, .val 4, .keep, .keep⟩, ⟨3, 3, .ro, .val 4, .keep, .keep⟩, ⟨6, 3, .ro, .val 0, .keep, .keep⟩, ⟨9, 6, .ro, .val 1, .keep, .keep⟩, ⟨15, 1, .ro, .val 0, .keep, .keep⟩]⟩,
    ⟨0x10004, 4, 1, 1, 1, [⟨0, 3, .rw, .image 0, .keep, .keep⟩]⟩,
    ⟨0x10008, 4, 1, 1, 1, [⟨0, 14, .ro, .val 0, .keep, .keep⟩, ⟨16, 14, .ro, .val 0x3fff, .keep, .keep⟩]⟩,
    ⟨0x1000C, 4, 1, 1, 1, [⟨0, 12, .ro, .val 0, .keep, .keep⟩, ⟨16, 12, .ro, .val 0, .keep, .keep⟩]⟩,
    ⟨0x10010, 4, 1, 1, 1, [⟨0, 10, .ro, .val 0, .keep, .keep⟩]⟩,
    ⟨0x10014, 4, 1, 1, 1, [⟨0, 1, .w1c, .val 0, .keep, .keep⟩, ⟨1, 1, .w1c, .val 0, .keep, .keep⟩, ⟨2, 1, .w1c, .val 0, .keep, .keep⟩, ⟨8, 8, .cnt, .val 0, .keep, .keep⟩, ⟨16, 8, .cnt, .val 0, .keep, .keep⟩, ⟨24, 8, .cnt, .val 0, .keep, .keep⟩]⟩,
    ⟨0x10018, 4, 1, 1, 1, [⟨0, 1, .wo, .val 0, .val 0, .val 0⟩, ⟨1, 1, .wo, .val 0, .val 0, .val 0⟩]⟩ ]

/-- Registers PWR_PB_CFG to AFE_AR_DWELL (R404, R48, R71, R96). -/
def regTable1 : List RegDef :=
  [ ⟨0x1001C, 4, 1, 1, 1, [⟨0, 16, .rw, .image 0xe10, .keep, .keep⟩]⟩,
    ⟨0x10020, 4, 1, 1, 1, [⟨0, 3, .ro, .val 0, .keep, .keep⟩, ⟨3, 1, .ro, .val 0, .keep, .keep⟩, ⟨4, 1, .ro, .val 0, .keep, .keep⟩, ⟨8, 24, .ro, .val 0, .keep, .keep⟩]⟩,
    ⟨0x10100, 4, 1, 1, 1, [⟨0, 1, .rw, .val 1, .keep, .keep⟩, ⟨1, 1, .rw, .val 1, .keep, .keep⟩]⟩,
    ⟨0x10104, 4, 1, 1, 1, [⟨0, 8, .ro, .val 0, .val 0, .val 0⟩, ⟨8, 4, .ro, .val 0, .val 0, .val 0⟩, ⟨12, 1, .ro, .val 0, .val 0, .val 0⟩, ⟨13, 1, .ro, .val 0, .val 0, .val 0⟩, ⟨14, 1, .ro, .val 0, .val 0, .val 0⟩]⟩,
    ⟨0x10108, 4, 1, 1, 1, [⟨0, 10, .ro, .val 0x2bc, .keep, .keep⟩]⟩,
    ⟨0x1010C, 4, 1, 1, 1, [⟨0, 12, .ro, .val 0x4e2, .keep, .keep⟩]⟩,
    ⟨0x10110, 4, 1, 1, 1, [⟨0, 1, .wo, .val 0, .val 0, .val 0⟩, ⟨1, 1, .wo, .val 0, .val 0, .val 0⟩, ⟨2, 1, .wo, .val 0, .val 0, .val 0⟩]⟩,
    ⟨0x10114, 4, 1, 1, 1, [⟨0, 1, .w1c, .val 0, .val 0, .keep⟩, ⟨1, 1, .w1c, .val 0, .val 0, .keep⟩, ⟨8, 8, .cnt, .val 0, .val 0, .keep⟩, ⟨16, 8, .cnt, .val 0, .val 0, .keep⟩]⟩,
    ⟨0x10120, 4, 10, 1, 1, [⟨0, 8, .ro, .val 0, .val 0, .val 0⟩, ⟨8, 8, .ro, .val 0xff, .val 0xff, .keep⟩]⟩,
    ⟨0x40000, 4, 2, 1, 1, [⟨0, 32, .rw, .image 0xffffffff, .image 0xffffffff, .keep⟩]⟩,
    ⟨0x40008, 4, 2, 1, 1, [⟨0, 32, .rwl, .image 0, .image 0, .keep⟩]⟩,
    ⟨0x40100, 4, 64, 1, 1, [⟨0, 4, .rwv, .image 0xf, .image 0xf, .keep⟩, ⟨4, 1, .ro, .val 0, .val 0, .val 0⟩, ⟨8, 4, .rw, .image 0, .image 0, .keep⟩, ⟨12, 4, .rw, .image 0xf, .image 0xf, .keep⟩, ⟨16, 1, .rw, .image 0, .image 0, .keep⟩]⟩,
    ⟨0x40200, 4, 1, 1, 1, [⟨0, 12, .rw, .image 0x79e, .image 0x79e, .keep⟩, ⟨16, 12, .rw, .image 0x400, .image 0x400, .keep⟩]⟩,
    ⟨0x40204, 4, 1, 1, 1, [⟨0, 16, .rw, .image 0x494, .image 0x494, .keep⟩]⟩ ]

/-- Registers AFE_CLIP to ADC_PLL_PHASE (R123, R96). -/
def regTable2 : List RegDef :=
  [ ⟨0x40300, 4, 64, 1, 1, [⟨0, 1, .w1c, .val 0, .val 0, .keep⟩, ⟨8, 8, .cnt, .val 0, .val 0, .keep⟩]⟩,
    ⟨0x40400, 4, 256, 1, 1, [⟨0, 32, .ro, .image 0, .image 0, .keep⟩]⟩,
    ⟨0x41000, 4, 1, 1, 1, [⟨0, 32, .rw, .image 0, .keep, .keep⟩]⟩,
    ⟨0x41004, 4, 1, 1, 1, [⟨0, 7, .rw, .image 0xa, .keep, .keep⟩, ⟨8, 4, .rw, .image 3, .keep, .keep⟩]⟩,
    ⟨0x41008, 4, 1, 1, 1, [⟨0, 1, .rw, .image 0, .keep, .keep⟩, ⟨1, 1, .wo, .val 0, .val 0, .val 0⟩, ⟨2, 1, .ro, .val 0, .val 0, .keep⟩, ⟨8, 8, .rw, .image 0x14, .keep, .keep⟩, ⟨16, 16, .rw, .image 0x258, .keep, .keep⟩]⟩,
    ⟨0x4100C, 4, 1, 1, 1, [⟨0, 32, .rw, .image 0xffffffff, .keep, .keep⟩]⟩,
    ⟨0x41010, 4, 1, 1, 1, [⟨0, 1, .w1c, .val 0, .keep, .keep⟩, ⟨1, 1, .w1c, .val 0, .keep, .keep⟩, ⟨2, 1, .w1c, .val 0, .keep, .keep⟩, ⟨8, 8, .cnt, .val 0, .keep, .keep⟩, ⟨16, 8, .cnt, .val 0, .keep, .keep⟩, ⟨24, 8, .cnt, .val 0, .keep, .keep⟩]⟩,
    ⟨0x41100, 4, 32, 1, 1, [⟨0, 3, .ro, .val 0, .keep, .keep⟩, ⟨4, 10, .ro, .val 0, .keep, .keep⟩, ⟨16, 5, .ro, .val 0, .keep, .keep⟩, ⟨21, 1, .ro, .val 0, .keep, .keep⟩, ⟨24, 4, .ro, .val 0, .keep, .keep⟩]⟩,
    ⟨0x80000, 4, 1, 1, 1, [⟨0, 2, .rwl, .image 0, .image 0, .keep⟩, ⟨2, 1, .rw, .image 1, .image 1, .keep⟩, ⟨4, 4, .rw, .image 6, .image 6, .keep⟩]⟩,
    ⟨0x80004, 4, 1, 1, 1, [⟨0, 4, .wo, .val 0, .val 0, .val 0⟩, ⟨4, 1, .wo, .val 0, .val 0, .val 0⟩, ⟨5, 1, .wo, .val 0, .val 0, .val 0⟩]⟩,
    ⟨0x80008, 4, 1, 1, 1, [⟨0, 4, .ro, .val 0, .val 0, .val 0⟩, ⟨4, 12, .ro, .val 0, .val 0, .keep⟩, ⟨16, 1, .ro, .val 0, .val 0, .val 0⟩, ⟨17, 1, .ro, .image 0, .image 0, .keep⟩]⟩,
    ⟨0x8000C, 4, 1, 1, 1, [⟨0, 1, .w1c, .val 0, .val 0, .keep⟩, ⟨1, 1, .w1c, .val 0, .val 0, .keep⟩, ⟨8, 8, .cnt, .val 0, .val 0, .keep⟩, ⟨16, 8, .cnt, .val 0, .val 0, .keep⟩]⟩,
    ⟨0x80010, 4, 4, 1, 1, [⟨0, 32, .ro, .val 0, .val 0, .keep⟩]⟩,
    ⟨0x80020, 4, 4, 1, 1, [⟨0, 16, .ro, .val 0, .val 0, .keep⟩, ⟨16, 1, .ro, .val 0, .val 0, .keep⟩]⟩ ]

/-- Registers ADC_REH_TEMP to CHN_CTL (R123, R146, R147). -/
def regTable3 : List RegDef :=
  [ ⟨0x80030, 4, 1, 1, 1, [⟨0, 8, .ro, .val 0, .val 0, .keep⟩, ⟨8, 8, .ro, .val 0, .val 0, .keep⟩]⟩,
    ⟨0x80040, 4, 1, 1, 1, [⟨0, 6, .wo, .val 0, .val 0, .val 0⟩, ⟨6, 3, .wo, .val 0, .val 0, .val 0⟩, ⟨9, 10, .wo, .val 0, .val 0, .val 0⟩, ⟨19, 2, .wo, .val 0, .val 0, .val 0⟩]⟩,
    ⟨0x80080, 4, 16, 1, 1, [⟨0, 2, .ro, .val 0, .val 0, .val 0⟩, ⟨2, 3, .ro, .val 0, .val 0, .val 0⟩, ⟨5, 6, .ro, .val 0, .val 0, .val 0⟩, ⟨11, 1, .ro, .val 0, .val 0, .val 0⟩]⟩,
    ⟨0x80100, 4, 64, 1, 1, [⟨0, 1, .ro, .val 0, .val 0, .val 0⟩, ⟨1, 1, .ro, .val 0, .val 0, .val 0⟩, ⟨8, 8, .ro, .val 0, .val 0, .val 0⟩]⟩,
    ⟨0x81000, 4, 2048, 1, 1, [⟨0, 16, .rwv, .val 0, .val 0, .keep⟩]⟩,
    ⟨0xC0000, 4, 64, 1, 1, [⟨0, 2, .rw, .image 0, .image 0, .keep⟩, ⟨2, 2, .rw, .image 2, .image 2, .keep⟩, ⟨4, 1, .wo, .val 0, .val 0, .val 0⟩, ⟨5, 1, .ro, .val 0, .val 0, .keep⟩, ⟨6, 1, .ro, .val 0, .val 0, .val 0⟩]⟩,
    ⟨0xC0100, 4, 64, 1, 1, [⟨0, 14, .rw, .image 0, .image 0, .keep⟩, ⟨14, 1, .ro, .val 0, .val 0, .val 0⟩]⟩,
    ⟨0xC0200, 4, 64, 1, 1, [⟨0, 16, .ro, .val 0, .val 0, .keep⟩, ⟨16, 1, .ro, .val 0, .val 0, .keep⟩]⟩,
    ⟨0xC0300, 4, 1, 1, 1, [⟨0, 16, .wo, .val 0, .val 0, .val 0⟩]⟩,
    ⟨0xC0400, 4, 64, 1, 1, [⟨0, 16, .ro, .val 0, .val 0, .keep⟩, ⟨16, 1, .ro, .val 0, .val 0, .keep⟩, ⟨17, 1, .ro, .val 0, .val 0, .val 0⟩]⟩,
    ⟨0xC1000, 8, 512, 1, 1, [⟨0, 24, .rw, .image 0, .image 0, .keep⟩, ⟨30, 1, .ro, .val 0, .val 0, .val 0⟩, ⟨31, 1, .rw, .image 0, .image 0, .keep⟩]⟩,
    ⟨0xC1004, 8, 512, 1, 1, [⟨0, 17, .rw, .image 0x3e8, .image 0x3e8, .keep⟩]⟩,
    ⟨0xC4000, 4, 8192, 64, 49, [⟨0, 18, .rw, .image 0, .image 0, .keep⟩]⟩,
    ⟨0x100000, 4, 1, 1, 1, [⟨0, 1, .rw, .image 1, .image 1, .keep⟩, ⟨1, 1, .wo, .val 0, .val 0, .val 0⟩, ⟨2, 1, .ro, .val 0, .val 0, .keep⟩, ⟨3, 1, .ro, .val 0, .val 0, .val 0⟩]⟩ ]

/-- Registers CHN_GAIN_ADJ to WCH_MASK_ACTIVE (R147, R167). -/
def regTable4 : List RegDef :=
  [ ⟨0x100004, 4, 1, 1, 1, [⟨0, 16, .rw, .image 0, .image 0, .keep⟩]⟩,
    ⟨0x100008, 4, 1, 1, 1, [⟨0, 32, .ro, .val 0, .val 0, .val 0⟩]⟩,
    ⟨0x10000C, 4, 1, 1, 1, [⟨0, 32, .ro, .val 0, .val 0, .val 0⟩]⟩,
    ⟨0x108000, 4, 16384, 1, 1, [⟨0, 18, .rw, .image 0, .image 0, .keep⟩]⟩,
    ⟨0x140000, 4, 1, 1, 1, [⟨0, 1, .rw, .image 1, .image 1, .keep⟩, ⟨1, 1, .wo, .val 0, .val 0, .val 0⟩, ⟨2, 1, .ro, .val 0, .val 0, .keep⟩, ⟨3, 1, .wo, .val 0, .val 0, .val 0⟩, ⟨4, 1, .ro, .val 0, .val 0, .keep⟩, ⟨5, 1, .ro, .val 0, .val 0, .val 0⟩, ⟨8, 4, .rw, .image 4, .image 4, .keep⟩]⟩,
    ⟨0x140004, 4, 1, 1, 1, [⟨0, 8, .rw, .image 0x10, .image 0x10, .keep⟩, ⟨16, 16, .rw, .image 0x1000, .image 0x1000, .keep⟩]⟩,
    ⟨0x140008, 4, 1, 1, 1, [⟨0, 1, .w1c, .val 0, .val 0, .keep⟩, ⟨1, 1, .w1c, .val 0, .val 0, .keep⟩, ⟨8, 8, .cnt, .val 0, .val 0, .keep⟩, ⟨16, 8, .cnt, .val 0, .val 0, .keep⟩]⟩,
    ⟨0x14000C, 4, 1, 1, 1, [⟨0, 32, .ro, .val 0, .val 0, .keep⟩]⟩,
    ⟨0x140100, 4, 64, 1, 1, [⟨0, 5, .rw, .image 0xa, .image 0xa, .keep⟩, ⟨5, 1, .rw, .image 1, .image 1, .keep⟩, ⟨6, 1, .rw, .image 1, .image 1, .keep⟩, ⟨7, 1, .rw, .image 0, .image 0, .keep⟩, ⟨8, 1, .rw, .image 0, .image 0, .keep⟩, ⟨9, 1, .ro, .val 0, .val 0, .val 0⟩, ⟨10, 2, .ro, .val 1, .val 1, .val 1⟩, ⟨15, 17, .ro, .val 0, .val 0, .val 0⟩]⟩,
    ⟨0x140400, 16, 16, 1, 1, [⟨0, 12, .rw, .image 0, .image 0, .keep⟩, ⟨12, 1, .rw, .image 0, .image 0, .keep⟩, ⟨13, 1, .rw, .image 0, .image 0, .keep⟩, ⟨14, 1, .rw, .image 1, .image 1, .keep⟩, ⟨16, 8, .rw, .image 1, .image 1, .keep⟩]⟩,
    ⟨0x140404, 16, 16, 1, 1, [⟨0, 13, .rw, .image 1, .image 1, .keep⟩]⟩,
    ⟨0x140408, 16, 16, 1, 1, [⟨0, 32, .rw, .image 0, .image 0, .keep⟩]⟩,
    ⟨0x14040C, 16, 16, 1, 1, [⟨0, 32, .rw, .image 0, .image 0, .keep⟩]⟩,
    ⟨0x140600, 4, 64, 1, 1, [⟨0, 16, .ro, .val 0, .val 0, .val 0⟩]⟩ ]

/-- Registers WCH_SEG to TRG_EVT (R167, R202). -/
def regTable5 : List RegDef :=
  [ ⟨0x141000, 4, 2048, 1, 1, [⟨0, 12, .rw, .image 0xfff, .image 0xfff, .keep⟩, ⟨12, 10, .rw, .image 0x2c0, .image 0x2c0, .keep⟩, ⟨22, 10, .rw, .image 0x2b0, .image 0x2b0, .keep⟩]⟩,
    ⟨0x144000, 4, 4096, 1, 1, [⟨0, 32, .rw, .image 0, .image 0, .keep⟩]⟩,
    ⟨0x180000, 4, 1, 1, 1, [⟨0, 1, .rw, .image 1, .image 1, .keep⟩, ⟨1, 1, .wo, .val 0, .val 0, .val 0⟩, ⟨2, 1, .wo, .val 0, .val 0, .val 0⟩, ⟨3, 2, .ro, .val 0, .val 0, .val 0⟩]⟩,
    ⟨0x180004, 4, 1, 1, 1, [⟨0, 20, .ro, .val 0, .val 0, .keep⟩, ⟨20, 7, .ro, .val 0, .val 0, .keep⟩]⟩,
    ⟨0x180008, 4, 1, 1, 1, [⟨0, 32, .ro, .val 0, .val 0, .val 0⟩]⟩,
    ⟨0x18000C, 4, 1, 1, 1, [⟨0, 32, .ro, .val 0, .val 0, .val 0⟩]⟩,
    ⟨0x180010, 4, 1, 1, 1, [⟨0, 16, .rw, .image 0x7d0, .image 0x7d0, .keep⟩]⟩,
    ⟨0x180014, 4, 1, 1, 1, [⟨0, 4, .ro, .val 0, .val 0, .val 0⟩, ⟨16, 16, .ro, .val 0, .val 0, .keep⟩]⟩,
    ⟨0x180018, 4, 1, 1, 1, [⟨0, 7, .ro, .val 0, .val 0, .val 0⟩]⟩,
    ⟨0x18001C, 4, 1, 1, 1, [⟨0, 1, .wo, .val 0, .val 0, .val 0⟩]⟩,
    ⟨0x180020, 4, 1, 1, 1, [⟨0, 9, .rw, .image 0, .image 0, .keep⟩, ⟨16, 8, .rw, .image 1, .image 1, .keep⟩]⟩,
    ⟨0x180024, 4, 1, 1, 1, [⟨0, 8, .rw, .image 0x64, .image 0x64, .keep⟩]⟩,
    ⟨0x180028, 4, 1, 1, 1, [⟨0, 11, .rw, .image 0x20, .image 0x20, .keep⟩]⟩,
    ⟨0x180030, 4, 1, 1, 1, [⟨0, 1, .w1c, .val 0, .val 0, .keep⟩, ⟨1, 1, .w1c, .val 0, .val 0, .keep⟩, ⟨8, 8, .cnt, .val 0, .val 0, .keep⟩, ⟨16, 8, .cnt, .val 0, .val 0, .keep⟩]⟩ ]

/-- Registers TRG_EVT2 to CDC_STREAM_STAT (R202, R225). -/
def regTable6 : List RegDef :=
  [ ⟨0x180034, 4, 1, 1, 1, [⟨0, 1, .w1c, .val 0, .val 0, .keep⟩, ⟨1, 1, .w1c, .val 0, .val 0, .keep⟩, ⟨8, 8, .cnt, .val 0, .val 0, .keep⟩, ⟨16, 8, .cnt, .val 0, .val 0, .keep⟩]⟩,
    ⟨0x180038, 4, 1, 1, 1, [⟨0, 32, .ro, .val 0, .val 0, .keep⟩]⟩,
    ⟨0x180100, 16, 9, 1, 1, [⟨0, 1, .rw, .image 1, .image 1, .keep⟩, ⟨1, 1, .rw, .image 0, .image 0, .keep⟩, ⟨2, 3, .rw, .image 0, .image 0, .keep⟩]⟩,
    ⟨0x180104, 16, 9, 1, 1, [⟨0, 11, .rw, .image 0x40, .image 0x40, .keep⟩, ⟨16, 11, .rw, .image 0x40, .image 0x40, .keep⟩]⟩,
    ⟨0x180108, 16, 9, 1, 1, [⟨0, 32, .rw, .image 0, .image 0, .keep⟩]⟩,
    ⟨0x18010C, 16, 9, 1, 1, [⟨0, 4, .ro, .val 0, .val 0, .val 0⟩, ⟨8, 24, .ro, .val 0, .val 0, .keep⟩]⟩,
    ⟨0x180200, 8, 9, 1, 1, [⟨0, 32, .rw, .image 0, .image 0, .keep⟩]⟩,
    ⟨0x180204, 8, 9, 1, 1, [⟨0, 32, .rw, .image 0, .image 0, .keep⟩]⟩,
    ⟨0x180300, 4, 64, 1, 1, [⟨0, 1, .rw, .image 0, .image 0, .keep⟩, ⟨1, 8, .rw, .image 0x30, .image 0x30, .keep⟩, ⟨16, 8, .rw, .image 4, .image 4, .keep⟩]⟩,
    ⟨0x180400, 4, 16, 1, 1, [⟨0, 1, .rw, .image 0, .image 0, .keep⟩, ⟨1, 3, .rw, .image 2, .image 2, .keep⟩, ⟨8, 9, .rw, .image 0x20, .image 0x20, .keep⟩]⟩,
    ⟨0x180440, 4, 2, 1, 1, [⟨0, 1, .rw, .image 0, .image 0, .keep⟩, ⟨1, 1, .rw, .image 0, .image 0, .keep⟩, ⟨16, 16, .rw, .image 0, .image 0, .keep⟩]⟩,
    ⟨0x1C0000, 4, 1, 1, 1, [⟨0, 1, .rw, .image 0, .image 0, .keep⟩, ⟨1, 1, .ro, .val 0, .val 0, .keep⟩]⟩,
    ⟨0x1C0004, 4, 1, 1, 1, [⟨0, 1, .wo, .val 0, .val 0, .val 0⟩]⟩,
    ⟨0x1C0008, 4, 1, 1, 1, [⟨0, 1, .ro, .val 0, .val 0, .val 0⟩, ⟨1, 1, .ro, .val 0, .val 0, .keep⟩, ⟨2, 2, .ro, .val 0, .val 0, .keep⟩]⟩ ]

/-- Registers CDC_VERIFY to QUE_DISCARD (R225, R243). -/
def regTable7 : List RegDef :=
  [ ⟨0x1C0010, 4, 1, 1, 1, [⟨0, 1, .w1c, .val 0, .val 0, .keep⟩, ⟨8, 8, .cnt, .val 0, .val 0, .keep⟩]⟩,
    ⟨0x1C0014, 4, 1, 1, 1, [⟨0, 32, .ro, .val 0, .val 0, .keep⟩]⟩,
    ⟨0x1C0020, 4, 1, 1, 1, [⟨0, 1, .rw, .image 1, .image 1, .keep⟩, ⟨1, 1, .wo, .val 0, .val 0, .val 0⟩]⟩,
    ⟨0x1C0024, 4, 1, 1, 1, [⟨0, 1, .ro, .val 0, .val 0, .val 0⟩, ⟨1, 5, .ro, .val 0, .val 0, .val 0⟩, ⟨6, 4, .ro, .val 0, .val 0, .keep⟩]⟩,
    ⟨0x1C0100, 4, 64, 1, 1, [⟨0, 4, .rw, .image 4, .image 4, .keep⟩, ⟨4, 4, .ro, .val 0, .val 0, .keep⟩]⟩,
    ⟨0x200000, 4, 1, 1, 1, [⟨0, 10, .rw, .image 0x14, .image 0x14, .keep⟩, ⟨16, 14, .rw, .image 0x1f4, .image 0x1f4, .keep⟩]⟩,
    ⟨0x200004, 4, 1, 1, 1, [⟨0, 8, .wo, .val 0, .val 0, .val 0⟩, ⟨8, 1, .wo, .val 0, .val 0, .val 0⟩]⟩,
    ⟨0x200008, 4, 1, 1, 1, [⟨0, 8, .ro, .val 0, .val 0, .val 0⟩, ⟨8, 1, .ro, .val 0, .val 0, .val 0⟩]⟩,
    ⟨0x20000C, 4, 1, 1, 1, [⟨0, 1, .w1c, .val 0, .val 0, .keep⟩, ⟨1, 1, .w1c, .val 0, .val 0, .keep⟩, ⟨2, 1, .w1c, .val 0, .val 0, .keep⟩, ⟨8, 8, .cnt, .val 0, .val 0, .keep⟩, ⟨16, 8, .cnt, .val 0, .val 0, .keep⟩, ⟨24, 8, .cnt, .val 0, .val 0, .keep⟩]⟩,
    ⟨0x200010, 4, 1, 1, 1, [⟨0, 32, .ro, .val 0, .val 0, .keep⟩]⟩,
    ⟨0x200100, 16, 12, 1, 1, [⟨0, 16, .ro, .val 0, .val 0, .keep⟩, ⟨16, 1, .ro, .val 0, .val 0, .keep⟩]⟩,
    ⟨0x200104, 16, 12, 1, 1, [⟨0, 17, .ro, .val 0, .val 0, .keep⟩]⟩,
    ⟨0x200108, 16, 12, 1, 1, [⟨0, 17, .rwv, .val 0, .val 0, .keep⟩]⟩,
    ⟨0x20010C, 16, 12, 1, 1, [⟨0, 32, .ro, .val 0, .val 0, .keep⟩]⟩ ]

/-- Registers QUE_PEEK_LO to LNK_RX_CFG (R243, R269, R300). -/
def regTable8 : List RegDef :=
  [ ⟨0x200200, 16, 12, 1, 1, [⟨0, 32, .ro, .val 0, .val 0, .val 0⟩]⟩,
    ⟨0x200204, 16, 12, 1, 1, [⟨0, 32, .ro, .val 0, .val 0, .val 0⟩]⟩,
    ⟨0x200208, 16, 12, 1, 1, [⟨0, 1, .ro, .val 0, .val 0, .val 0⟩, ⟨1, 2, .ro, .val 0, .val 0, .val 0⟩, ⟨3, 1, .ro, .val 0, .val 0, .val 0⟩, ⟨4, 1, .ro, .val 0, .val 0, .val 0⟩]⟩,
    ⟨0x240000, 4, 1, 1, 1, [⟨0, 2, .rw, .image 0, .image 0, .keep⟩, ⟨2, 2, .rw, .image 0, .image 0, .keep⟩, ⟨8, 10, .rw, .image 0x14, .image 0x14, .keep⟩]⟩,
    ⟨0x240004, 4, 1, 1, 1, [⟨0, 24, .ro, .val 0, .val 0, .keep⟩]⟩,
    ⟨0x240008, 4, 1, 1, 1, [⟨0, 1, .w1c, .val 0, .val 0, .keep⟩, ⟨1, 1, .w1c, .val 0, .val 0, .keep⟩, ⟨2, 1, .w1c, .val 0, .val 0, .keep⟩, ⟨8, 8, .cnt, .val 0, .val 0, .keep⟩, ⟨16, 8, .cnt, .val 0, .val 0, .keep⟩, ⟨24, 8, .cnt, .val 0, .val 0, .keep⟩]⟩,
    ⟨0x24000C, 4, 1, 1, 1, [⟨0, 1, .wo, .val 0, .val 0, .val 0⟩]⟩,
    ⟨0x240100, 4, 24, 1, 1, [⟨0, 1, .rw, .image 1, .image 1, .keep⟩, ⟨1, 1, .rw, .image 0, .image 0, .keep⟩, ⟨2, 1, .rw, .image 0, .image 0, .keep⟩, ⟨3, 1, .rw, .image 1, .image 1, .keep⟩, ⟨4, 1, .wo, .val 0, .val 0, .val 0⟩]⟩,
    ⟨0x240200, 4, 24, 1, 1, [⟨0, 2, .ro, .val 0, .val 0, .keep⟩, ⟨2, 2, .ro, .val 0, .val 0, .keep⟩, ⟨4, 2, .ro, .val 0, .val 0, .keep⟩, ⟨6, 1, .ro, .val 0, .val 0, .keep⟩, ⟨7, 1, .ro, .val 0, .val 0, .keep⟩, ⟨8, 8, .ro, .val 0, .val 0, .keep⟩]⟩,
    ⟨0x240300, 8, 24, 1, 1, [⟨0, 16, .ro, .val 0, .val 0, .keep⟩, ⟨16, 16, .ro, .val 0, .val 0, .keep⟩]⟩,
    ⟨0x240304, 8, 24, 1, 1, [⟨0, 16, .ro, .val 0, .val 0, .keep⟩, ⟨16, 16, .ro, .val 0, .val 0, .keep⟩]⟩,
    ⟨0x241000, 4, 1, 1, 1, [⟨0, 2, .rw, .image 0, .image 0, .keep⟩, ⟨2, 2, .rw, .image 1, .image 1, .keep⟩, ⟨4, 2, .rw, .image 2, .image 2, .keep⟩, ⟨8, 1, .rw, .image 1, .image 1, .keep⟩, ⟨9, 1, .rw, .image 1, .image 1, .keep⟩, ⟨16, 8, .rw, .image 0xf0, .image 0xf0, .keep⟩]⟩,
    ⟨0x241004, 4, 1, 1, 1, [⟨0, 1, .rw, .image 0, .image 0, .keep⟩, ⟨1, 1, .rw, .image 1, .image 1, .keep⟩, ⟨8, 8, .rw, .image 0x64, .image 0x64, .keep⟩]⟩,
    ⟨0x241008, 4, 1, 1, 1, [⟨0, 12, .rw, .image 0xc8, .image 0xc8, .keep⟩]⟩ ]

/-- Registers LNK_RX_EVT to TIM_COUNT_LO (R300, R324). -/
def regTable9 : List RegDef :=
  [ ⟨0x24100C, 4, 1, 1, 1, [⟨0, 1, .w1c, .val 0, .val 0, .keep⟩, ⟨1, 1, .w1c, .val 0, .val 0, .keep⟩, ⟨2, 1, .w1c, .val 0, .val 0, .keep⟩, ⟨8, 8, .cnt, .val 0, .val 0, .keep⟩, ⟨16, 8, .cnt, .val 0, .val 0, .keep⟩, ⟨24, 8, .cnt, .val 0, .val 0, .keep⟩]⟩,
    ⟨0x241010, 4, 1, 1, 1, [⟨0, 1, .w1c, .val 0, .val 0, .keep⟩, ⟨1, 1, .w1c, .val 0, .val 0, .keep⟩, ⟨8, 8, .cnt, .val 0, .val 0, .keep⟩, ⟨16, 8, .cnt, .val 0, .val 0, .keep⟩]⟩,
    ⟨0x241014, 4, 1, 1, 1, [⟨0, 32, .ro, .val 0, .val 0, .keep⟩]⟩,
    ⟨0x241020, 4, 2, 1, 1, [⟨0, 8, .ro, .val 0, .val 0, .keep⟩, ⟨8, 8, .ro, .val 0, .val 0, .keep⟩, ⟨16, 8, .ro, .val 0, .val 0, .keep⟩, ⟨24, 1, .ro, .val 1, .val 1, .keep⟩]⟩,
    ⟨0x241030, 4, 4, 1, 1, [⟨0, 24, .ro, .val 0, .val 0, .keep⟩]⟩,
    ⟨0x241040, 4, 4, 1, 1, [⟨0, 32, .ro, .val 0, .val 0, .keep⟩]⟩,
    ⟨0x241050, 4, 2, 1, 1, [⟨0, 32, .ro, .val 0, .val 0, .keep⟩]⟩,
    ⟨0x241100, 4, 24, 1, 1, [⟨0, 16, .ro, .val 0, .val 0, .keep⟩, ⟨16, 16, .ro, .val 0, .val 0, .keep⟩]⟩,
    ⟨0x280000, 4, 1, 1, 1, [⟨0, 1, .rw, .image 0, .image 0, .keep⟩, ⟨1, 1, .rw, .image 0, .image 0, .keep⟩]⟩,
    ⟨0x280004, 4, 1, 1, 1, [⟨0, 3, .ro, .val 0, .val 0, .keep⟩, ⟨3, 1, .ro, .val 0, .val 0, .keep⟩, ⟨4, 1, .ro, .val 0, .val 0, .keep⟩, ⟨5, 1, .ro, .val 0, .val 0, .keep⟩, ⟨6, 1, .ro, .val 0, .val 0, .keep⟩, ⟨7, 1, .ro, .val 0, .val 0, .keep⟩, ⟨8, 1, .ro, .val 0, .val 0, .keep⟩]⟩,
    ⟨0x280008, 4, 1, 1, 1, [⟨0, 1, .w1c, .val 0, .val 0, .keep⟩, ⟨1, 1, .w1c, .val 0, .val 0, .keep⟩, ⟨8, 8, .cnt, .val 0, .val 0, .keep⟩, ⟨16, 8, .cnt, .val 0, .val 0, .keep⟩]⟩,
    ⟨0x28000C, 4, 1, 1, 1, [⟨0, 1, .w1c, .val 0, .val 0, .keep⟩, ⟨1, 1, .w1c, .val 0, .val 0, .keep⟩, ⟨8, 8, .cnt, .val 0, .val 0, .keep⟩, ⟨16, 8, .cnt, .val 0, .val 0, .keep⟩]⟩,
    ⟨0x280010, 4, 1, 1, 1, [⟨0, 1, .wo, .val 0, .val 0, .val 0⟩, ⟨1, 1, .wo, .val 0, .val 0, .val 0⟩, ⟨2, 1, .wo, .val 0, .val 0, .val 0⟩]⟩,
    ⟨0x280020, 4, 1, 1, 1, [⟨0, 32, .ro, .val 0, .val 0, .keep⟩]⟩ ]

/-- Registers TIM_COUNT_HI to TIM_SERVO (R324). -/
def regTable10 : List RegDef :=
  [ ⟨0x280024, 4, 1, 1, 1, [⟨0, 32, .ro, .val 0, .val 0, .keep⟩]⟩,
    ⟨0x280028, 4, 1, 1, 1, [⟨0, 32, .ro, .val 0, .val 0, .keep⟩]⟩,
    ⟨0x28002C, 4, 1, 1, 1, [⟨0, 32, .ro, .val 0, .val 0, .keep⟩]⟩,
    ⟨0x280030, 4, 1, 1, 1, [⟨0, 16, .ro, .val 0, .val 0, .keep⟩]⟩,
    ⟨0x280040, 4, 1, 1, 1, [⟨0, 16, .ro, .val 0, .val 0, .keep⟩]⟩,
    ⟨0x280044, 4, 1, 1, 1, [⟨0, 32, .ro, .val 0, .val 0, .keep⟩]⟩,
    ⟨0x280048, 4, 1, 1, 1, [⟨0, 32, .ro, .val 0, .val 0, .keep⟩]⟩,
    ⟨0x28004C, 4, 1, 1, 1, [⟨0, 32, .ro, .val 0, .val 0, .keep⟩]⟩,
    ⟨0x280050, 4, 1, 1, 1, [⟨0, 32, .ro, .val 0xd5555555, .val 0xd5555555, .keep⟩]⟩,
    ⟨0x280054, 4, 1, 1, 1, [⟨0, 2, .ro, .val 0, .val 0, .keep⟩]⟩,
    ⟨0x280058, 4, 1, 1, 1, [⟨0, 32, .ro, .val 0, .val 0, .keep⟩]⟩,
    ⟨0x28005C, 4, 1, 1, 1, [⟨0, 32, .ro, .val 0, .val 0, .keep⟩]⟩,
    ⟨0x280060, 4, 1, 1, 1, [⟨0, 24, .rw, .image 0x64, .image 0x64, .keep⟩]⟩,
    ⟨0x280064, 4, 1, 1, 1, [⟨0, 4, .rw, .image 4, .image 4, .keep⟩, ⟨4, 4, .rw, .image 0xa, .image 0xa, .keep⟩, ⟨8, 4, .rw, .image 8, .image 8, .keep⟩, ⟨16, 12, .rw, .image 0x1f4, .image 0x1f4, .keep⟩]⟩ ]

/-- Registers TIM_LAT to PRM_CTL (R324, R346). -/
def regTable11 : List RegDef :=
  [ ⟨0x280070, 4, 2, 1, 1, [⟨0, 12, .rw, .image 0x60, .image 0x60, .keep⟩, ⟨16, 12, .rw, .image 0x88, .image 0x88, .keep⟩]⟩,
    ⟨0x280078, 4, 2, 1, 1, [⟨0, 16, .rw, .image 0, .image 0, .keep⟩]⟩,
    ⟨0x280080, 8, 2, 1, 1, [⟨0, 32, .ro, .val 0, .val 0, .keep⟩]⟩,
    ⟨0x280084, 8, 2, 1, 1, [⟨0, 32, .ro, .val 0, .val 0, .keep⟩]⟩,
    ⟨0x280090, 4, 2, 1, 1, [⟨0, 16, .ro, .val 0, .val 0, .keep⟩, ⟨16, 16, .ro, .val 0, .val 0, .keep⟩]⟩,
    ⟨0x280098, 4, 1, 1, 1, [⟨0, 32, .ro, .val 0, .val 0, .keep⟩]⟩,
    ⟨0x28009C, 4, 1, 1, 1, [⟨0, 32, .ro, .val 0, .val 0, .keep⟩]⟩,
    ⟨0x2800A0, 4, 1, 1, 1, [⟨0, 1, .rw, .image 0, .image 0, .keep⟩, ⟨1, 1, .rw, .image 0, .image 0, .keep⟩, ⟨8, 8, .rw, .image 0x40, .image 0x40, .keep⟩]⟩,
    ⟨0x2800A4, 4, 1, 1, 1, [⟨0, 32, .rw, .image 0, .image 0, .keep⟩]⟩,
    ⟨0x2800A8, 4, 1, 1, 1, [⟨0, 32, .rwv, .val 0, .val 0, .keep⟩]⟩,
    ⟨0x2800AC, 4, 1, 1, 1, [⟨0, 32, .rwv, .val 0, .val 0, .keep⟩]⟩,
    ⟨0x2800B0, 4, 1, 1, 1, [⟨0, 16, .ro, .val 0, .val 0, .keep⟩, ⟨16, 1, .ro, .val 0, .val 0, .keep⟩, ⟨17, 1, .ro, .val 0, .val 0, .keep⟩, ⟨18, 1, .ro, .val 0, .val 0, .val 0⟩]⟩,
    ⟨0x2800B4, 4, 1, 1, 1, [⟨0, 32, .ro, .val 0, .val 0, .keep⟩]⟩,
    ⟨0x2C0000, 4, 1, 1, 1, [⟨0, 1, .wo, .val 0, .val 0, .val 0⟩]⟩ ]

/-- Registers PRM_STAT to PRM_RING_STAT (R346). -/
def regTable12 : List RegDef :=
  [ ⟨0x2C0004, 4, 1, 1, 1, [⟨0, 1, .ro, .val 0, .val 0, .keep⟩, ⟨1, 1, .ro, .val 0, .val 0, .keep⟩, ⟨2, 4, .ro, .val 0, .val 0, .keep⟩]⟩,
    ⟨0x2C0008, 4, 1, 1, 1, [⟨0, 1, .rwl, .image 0, .image 0, .keep⟩, ⟨1, 1, .rwl, .image 0, .image 0, .keep⟩, ⟨2, 1, .rwl, .image 0, .image 0, .keep⟩]⟩,
    ⟨0x2C000C, 4, 1, 1, 1, [⟨0, 17, .rwl, .image 0x64, .image 0x64, .keep⟩]⟩,
    ⟨0x2C0010, 4, 1, 1, 1, [⟨12, 20, .rwl, .image 0, .image 0, .keep⟩]⟩,
    ⟨0x2C0014, 4, 1, 1, 1, [⟨0, 32, .rwl, .image 0, .image 0, .keep⟩]⟩,
    ⟨0x2C0018, 4, 1, 1, 1, [⟨12, 20, .rwl, .image 0, .image 0, .keep⟩]⟩,
    ⟨0x2C001C, 4, 1, 1, 1, [⟨0, 32, .rwl, .image 0, .image 0, .keep⟩]⟩,
    ⟨0x2C0020, 4, 1, 1, 1, [⟨0, 1, .w1c, .val 0, .val 0, .keep⟩, ⟨1, 1, .w1c, .val 0, .val 0, .keep⟩, ⟨2, 1, .w1c, .val 0, .val 0, .keep⟩, ⟨8, 8, .cnt, .val 0, .val 0, .keep⟩, ⟨16, 8, .cnt, .val 0, .val 0, .keep⟩, ⟨24, 8, .cnt, .val 0, .val 0, .keep⟩]⟩,
    ⟨0x2C0024, 4, 1, 1, 1, [⟨0, 6, .wo, .val 0, .val 0, .val 0⟩, ⟨8, 1, .wo, .val 0, .val 0, .val 0⟩]⟩,
    ⟨0x2C0028, 4, 1, 1, 1, [⟨0, 32, .ro, .val 0, .val 0, .keep⟩]⟩,
    ⟨0x2C0100, 16, 36, 1, 1, [⟨12, 20, .rwl, .image 0, .image 0, .keep⟩]⟩,
    ⟨0x2C0104, 16, 36, 1, 1, [⟨0, 32, .rwl, .image 0, .image 0, .keep⟩]⟩,
    ⟨0x2C0108, 16, 36, 1, 1, [⟨0, 5, .rwl, .image 0, .image 0, .keep⟩, ⟨8, 1, .rwl, .image 0, .image 0, .keep⟩]⟩,
    ⟨0x2C010C, 16, 36, 1, 1, [⟨0, 1, .ro, .val 0, .val 0, .keep⟩, ⟨1, 3, .ro, .val 0, .val 0, .keep⟩, ⟨16, 11, .ro, .val 0, .val 0, .keep⟩]⟩ ]

/-- Registers SAF_STAT to SAF_POS_TOL (R373). -/
def regTable13 : List RegDef :=
  [ ⟨0x300000, 4, 1, 1, 1, [⟨0, 3, .ro, .val 0, .keep, .keep⟩, ⟨3, 2, .ro, .val 0, .keep, .keep⟩, ⟨5, 3, .ro, .val 7, .keep, .keep⟩, ⟨8, 1, .ro, .val 0, .keep, .keep⟩, ⟨9, 1, .ro, .val 0, .keep, .keep⟩, ⟨10, 1, .ro, .val 0, .keep, .keep⟩, ⟨11, 1, .ro, .val 0, .keep, .keep⟩, ⟨12, 1, .ro, .val 0, .keep, .keep⟩, ⟨13, 1, .ro, .keep, .keep, .keep⟩, ⟨14, 2, .ro, .val 0, .keep, .keep⟩, ⟨16, 7, .ro, .val 0, .keep, .keep⟩, ⟨23, 1, .ro, .val 0, .keep, .keep⟩]⟩,
    ⟨0x300004, 4, 1, 1, 1, [⟨0, 16, .ro, .keep, .keep, .keep⟩, ⟨16, 16, .ro, .keep, .keep, .keep⟩]⟩,
    ⟨0x300008, 4, 1, 1, 1, [⟨0, 8, .ro, .val 0, .keep, .keep⟩, ⟨8, 8, .ro, .val 0, .keep, .keep⟩, ⟨16, 8, .ro, .val 0, .keep, .keep⟩, ⟨24, 8, .ro, .val 0, .keep, .keep⟩]⟩,
    ⟨0x30000C, 4, 1, 1, 1, [⟨0, 8, .ro, .val 0, .keep, .keep⟩, ⟨8, 8, .ro, .val 0, .keep, .keep⟩]⟩,
    ⟨0x300010, 4, 8, 1, 1, [⟨0, 1, .ro, .val 0, .keep, .keep⟩, ⟨1, 1, .ro, .val 0, .keep, .keep⟩, ⟨2, 1, .ro, .val 0, .keep, .keep⟩]⟩,
    ⟨0x300030, 4, 1, 1, 1, [⟨0, 32, .ro, .val 0, .keep, .keep⟩]⟩,
    ⟨0x300034, 4, 1, 1, 1, [⟨0, 32, .ro, .val 0, .keep, .keep⟩]⟩,
    ⟨0x300038, 4, 1, 1, 1, [⟨0, 32, .ro, .image 0, .keep, .keep⟩]⟩,
    ⟨0x300100, 4, 1, 1, 1, [⟨0, 1, .ro, .image 0, .keep, .keep⟩, ⟨1, 1, .ro, .image 0, .keep, .keep⟩, ⟨16, 7, .ro, .image 0x1e, .keep, .keep⟩]⟩,
    ⟨0x300104, 4, 1, 1, 1, [⟨0, 10, .ro, .image 0x1f4, .keep, .keep⟩, ⟨16, 8, .ro, .image 0x20, .keep, .keep⟩]⟩,
    ⟨0x300108, 4, 8, 1, 1, [⟨0, 3, .ro, .image 0, .keep, .keep⟩, ⟨3, 1, .ro, .image 1, .keep, .keep⟩, ⟨4, 3, .ro, .image 1, .keep, .keep⟩, ⟨16, 9, .ro, .image 0x14, .keep, .keep⟩]⟩,
    ⟨0x300128, 4, 1, 1, 1, [⟨0, 24, .ro, .image 0, .keep, .keep⟩, ⟨24, 8, .ro, .image 4, .keep, .keep⟩]⟩,
    ⟨0x30012C, 4, 1, 1, 1, [⟨0, 6, .ro, .image 0x19, .keep, .keep⟩, ⟨6, 5, .ro, .image 0xd, .keep, .keep⟩, ⟨11, 1, .ro, .image 1, .keep, .keep⟩, ⟨12, 1, .ro, .image 0, .keep, .keep⟩, ⟨13, 2, .ro, .image 1, .keep, .keep⟩]⟩,
    ⟨0x300130, 4, 1, 1, 1, [⟨0, 16, .ro, .image 0x1f4, .keep, .keep⟩]⟩ ]

/-- Registers SAF_SLS_LIM to SNS_IN_STAT (R373, R386). -/
def regTable14 : List RegDef :=
  [ ⟨0x300134, 4, 4, 1, 1, [⟨0, 24, .ro, .image 0, .keep, .keep⟩]⟩,
    ⟨0x300144, 4, 1, 1, 1, [⟨0, 24, .ro, .image 0, .keep, .keep⟩]⟩,
    ⟨0x300148, 4, 1, 1, 1, [⟨0, 14, .ro, .image 0x3e8, .keep, .keep⟩, ⟨16, 16, .ro, .image 0x1f4, .keep, .keep⟩]⟩,
    ⟨0x30014C, 4, 1, 1, 1, [⟨0, 16, .ro, .image 0x64, .keep, .keep⟩]⟩,
    ⟨0x300150, 4, 1, 1, 1, [⟨0, 32, .ro, .image 0, .keep, .keep⟩]⟩,
    ⟨0x300154, 4, 1, 1, 1, [⟨0, 32, .ro, .image 0, .keep, .keep⟩]⟩,
    ⟨0x300158, 4, 1, 1, 1, [⟨0, 24, .ro, .image 0, .keep, .keep⟩, ⟨31, 1, .ro, .image 0, .keep, .keep⟩]⟩,
    ⟨0x30015C, 4, 1, 1, 1, [⟨0, 16, .ro, .image 0x3e8, .keep, .keep⟩]⟩,
    ⟨0x300160, 4, 1, 1, 1, [⟨0, 2, .ro, .image 3, .keep, .keep⟩, ⟨8, 6, .ro, .image 1, .keep, .keep⟩, ⟨16, 9, .ro, .image 0x12c, .keep, .keep⟩]⟩,
    ⟨0x340000, 4, 1, 1, 1, [⟨0, 1, .rw, .image 1, .keep, .keep⟩, ⟨8, 8, .rw, .image 0x40, .keep, .keep⟩]⟩,
    ⟨0x340004, 4, 1, 1, 1, [⟨0, 1, .w1c, .val 0, .keep, .keep⟩, ⟨1, 1, .w1c, .val 0, .keep, .keep⟩, ⟨8, 8, .cnt, .val 0, .keep, .keep⟩, ⟨16, 8, .cnt, .val 0, .keep, .keep⟩]⟩,
    ⟨0x340008, 4, 1, 1, 1, [⟨0, 32, .ro, .val 0, .keep, .keep⟩]⟩,
    ⟨0x340100, 4, 16, 1, 1, [⟨0, 2, .rw, .image 0, .keep, .keep⟩, ⟨2, 3, .rw, .image 1, .keep, .keep⟩, ⟨16, 14, .rw, .image 0x3e8, .keep, .keep⟩]⟩,
    ⟨0x340140, 4, 16, 1, 1, [⟨0, 16, .ro, .val 0, .keep, .keep⟩, ⟨16, 1, .ro, .val 0, .keep, .keep⟩, ⟨24, 8, .ro, .val 0, .keep, .keep⟩]⟩ ]

/-- Registers SNS_IN_VALUE to FAU_INC_LO (R386, R436, R71). -/
def regTable15 : List RegDef :=
  [ ⟨0x340180, 4, 16, 1, 1, [⟨0, 32, .ro, .val 0, .keep, .keep⟩]⟩,
    ⟨0x3401C0, 4, 16, 1, 1, [⟨0, 32, .ro, .image 0x186a0, .keep, .keep⟩]⟩,
    ⟨0x340200, 16, 32, 1, 1, [⟨0, 1, .rw, .image 0, .keep, .keep⟩, ⟨1, 1, .rw, .image 0, .keep, .keep⟩, ⟨2, 1, .rw, .image 1, .keep, .keep⟩, ⟨4, 4, .rw, .image 3, .keep, .keep⟩, ⟨8, 2, .rw, .image 0, .keep, .keep⟩, ⟨10, 3, .rw, .image 0, .keep, .keep⟩]⟩,
    ⟨0x340204, 16, 32, 1, 1, [⟨0, 32, .rw, .image 0, .keep, .keep⟩]⟩,
    ⟨0x340208, 16, 32, 1, 1, [⟨0, 32, .rw, .image 0, .keep, .keep⟩]⟩,
    ⟨0x380000, 4, 1, 1, 1, [⟨0, 9, .ro, .val 0, .val 0, .keep⟩, ⟨9, 1, .ro, .val 0, .val 0, .keep⟩, ⟨16, 16, .ro, .val 1, .keep, .keep⟩]⟩,
    ⟨0x380004, 4, 1, 1, 1, [⟨0, 1, .w1c, .val 0, .keep, .keep⟩, ⟨1, 1, .w1c, .val 0, .keep, .keep⟩, ⟨2, 1, .w1c, .val 0, .keep, .keep⟩, ⟨8, 8, .cnt, .val 0, .keep, .keep⟩, ⟨16, 8, .cnt, .val 0, .keep, .keep⟩, ⟨24, 8, .cnt, .val 0, .keep, .keep⟩]⟩,
    ⟨0x380008, 4, 1, 1, 1, [⟨0, 8, .wo, .val 0, .val 0, .val 0⟩, ⟨8, 1, .wo, .val 0, .val 0, .val 0⟩, ⟨9, 1, .wo, .val 0, .val 0, .val 0⟩]⟩,
    ⟨0x38000C, 4, 1, 1, 1, [⟨0, 32, .ro, .val 0, .val 0, .keep⟩]⟩,
    ⟨0x380010, 4, 1, 1, 1, [⟨0, 32, .ro, .val 0, .val 0, .keep⟩]⟩,
    ⟨0x380014, 4, 1, 1, 1, [⟨0, 32, .ro, .val 0, .val 0, .keep⟩]⟩,
    ⟨0x380018, 4, 1, 1, 1, [⟨0, 9, .ro, .image 0, .keep, .keep⟩, ⟨9, 1, .ro, .val 0, .keep, .keep⟩]⟩,
    ⟨0x380040, 4, 1, 1, 1, [⟨0, 4, .rw, .image 0, .image 0, .keep⟩]⟩,
    ⟨0x381000, 8, 1024, 1, 1, [⟨0, 32, .ro, .val 0, .keep, .keep⟩]⟩ ]

/-- Registers FAU_INC_HI to PMC_FOCUS_LOC (R436, R450). -/
def regTable16 : List RegDef :=
  [ ⟨0x381004, 8, 1024, 1, 1, [⟨0, 32, .ro, .val 0, .keep, .keep⟩]⟩,
    ⟨0x3C0000, 4, 1, 1, 1, [⟨0, 14, .rw, .image 0x3e8, .image 0x3e8, .keep⟩, ⟨14, 1, .rw, .image 0, .image 0, .keep⟩, ⟨15, 1, .rw, .image 0, .image 0, .keep⟩, ⟨16, 5, .rw, .image 0x10, .image 0x10, .keep⟩]⟩,
    ⟨0x3C0004, 4, 1, 1, 1, [⟨0, 1, .wo, .val 0, .val 0, .val 0⟩, ⟨1, 1, .wo, .val 0, .val 0, .val 0⟩, ⟨2, 1, .wo, .val 0, .val 0, .val 0⟩]⟩,
    ⟨0x3C0008, 4, 1, 1, 1, [⟨0, 32, .ro, .val 0, .val 0, .keep⟩]⟩,
    ⟨0x3C000C, 4, 1, 1, 1, [⟨0, 1, .w1c, .val 0, .val 0, .keep⟩, ⟨1, 1, .w1c, .val 0, .val 0, .keep⟩, ⟨2, 1, .w1c, .val 0, .val 0, .keep⟩, ⟨8, 8, .cnt, .val 0, .val 0, .keep⟩, ⟨16, 8, .cnt, .val 0, .val 0, .keep⟩, ⟨24, 8, .cnt, .val 0, .val 0, .keep⟩]⟩,
    ⟨0x3C0010, 4, 1, 1, 1, [⟨0, 32, .ro, .val 0, .val 0, .keep⟩]⟩,
    ⟨0x3C0014, 4, 1, 1, 1, [⟨0, 32, .ro, .val 0, .val 0, .keep⟩]⟩,
    ⟨0x3C0018, 4, 1, 1, 1, [⟨0, 32, .rw, .image 0xffffffff, .image 0xffffffff, .keep⟩]⟩,
    ⟨0x3C001C, 4, 1, 1, 1, [⟨0, 32, .rw, .image 0xffffffff, .image 0xffffffff, .keep⟩]⟩,
    ⟨0x3C0020, 4, 1, 1, 1, [⟨0, 32, .ro, .val 0, .val 0, .keep⟩]⟩,
    ⟨0x3C0024, 4, 1, 1, 1, [⟨0, 32, .ro, .val 0, .val 0, .keep⟩]⟩,
    ⟨0x3C0040, 4, 17, 1, 1, [⟨0, 32, .ro, .val 0, .val 0, .keep⟩]⟩,
    ⟨0x3C0100, 16, 16, 1, 1, [⟨0, 9, .rw, .image 0, .image 0, .keep⟩, ⟨9, 9, .rw, .image 0x1ff, .image 0x1ff, .keep⟩]⟩,
    ⟨0x3C0104, 16, 16, 1, 1, [⟨0, 16, .rw, .image 0, .image 0, .keep⟩, ⟨16, 16, .rw, .image 0, .image 0, .keep⟩]⟩ ]

/-- Registers PMC_FOCUS_LO to PMC_SNAP_HI (R450). -/
def regTable17 : List RegDef :=
  [ ⟨0x3C0108, 16, 16, 1, 1, [⟨0, 32, .ro, .val 0, .val 0, .keep⟩]⟩,
    ⟨0x3C010C, 16, 16, 1, 1, [⟨0, 16, .ro, .val 0, .val 0, .keep⟩]⟩,
    ⟨0x3C1000, 8, 512, 1, 1, [⟨0, 32, .ro, .val 0, .val 0, .keep⟩]⟩,
    ⟨0x3C1004, 8, 512, 1, 1, [⟨0, 16, .ro, .val 0, .val 0, .keep⟩]⟩,
    ⟨0x3C2000, 8, 528, 1, 1, [⟨0, 32, .ro, .val 0, .val 0, .keep⟩]⟩,
    ⟨0x3C2004, 8, 528, 1, 1, [⟨0, 16, .ro, .val 0, .val 0, .keep⟩]⟩ ]

/-- Every register of the module (R455). -/
def regTable : List RegDef :=
  regTable0 ++
  regTable1 ++
  regTable2 ++
  regTable3 ++
  regTable4 ++
  regTable5 ++
  regTable6 ++
  regTable7 ++
  regTable8 ++
  regTable9 ++
  regTable10 ++
  regTable11 ++
  regTable12 ++
  regTable13 ++
  regTable14 ++
  regTable15 ++
  regTable16 ++
  regTable17

end Sys2Proof.Machine
end

