-- ==== Sys2Proof/Machine/State.lean ====
section
/-! DEFINITION. The state of the module as plain data, its reasons to stop, and the state after a cold reset. Every
register of the register tables lives in State.regs, keyed by its address; what the manual holds outside the register
tables (queues, tables, counters of ticks, scheduled changes, buffers) stands in the structures below, one for each
chapter. Default field values are the values after a cold reset (R417 and the chapter's own reset rules). -/

namespace Sys2Proof.Machine

/-- Reasons for a stop while a command runs. The manual names an effect for every command it has, and a command whose
conditions do not hold leaves the state as it is, so no command of this hardware stops. -/
inductive Fault where
  /-- A command without any effect in the manual. Nothing raises it; safe, since nothing is proved of a run that ends. -/
  | noSuchBehaviour
  deriving DecidableEq, Repr

/-- Reasons to refuse a command. -/
inductive Refusal where
  /-- A command that has no meaning in the model yet, by its mnemonic. Only an arm of exec could raise it, and none does;
  safe, since nothing is proved of a run that ends. -/
  | notModelled (mnemonic : String)
  deriving DecidableEq, Repr

/-- The register file and the other addressed tables: address and value, addresses strictly rising, no entry equal to
what an unlisted address reads as. -/
abbrev Table (v : Type) := List (Nat × v)

/-- Clocks: the sample rate in use and as configured (R26, R45), the 64-bit sample counter (R302) and whether it is
counting, and the slow tick (R27) with the part of the next tick already passed, in thousandths of a sample second. -/
structure Clk where
  fs : Nat := 1200000000
  fsCfg : Nat := 1200000000
  count : Nat := 0
  running : Bool := false
  phase : Nat := 0
  tick : Nat := 0
  refclk : Bool := true
  deriving DecidableEq, Repr, Inhabited

/-- The pair latch of an access port (R11, R454): the low address whose read loaded it, and the words it latched; and
the last value and status the port returned. -/
structure Port where
  low : Option Nat := none
  words : Table Word := []
  value : Word := 0
  status : Nat := 0
  deriving DecidableEq, Repr, Inhabited

/-- State of an incident table entry (R420, word 1 [15:14]). -/
inductive IncState where
  | free | opened | closed | folded
  deriving DecidableEq, Repr, Inhabited

/-- An entry of the incident table (R420), with the bookkeeping R421 to R426 need: the ticks of its opening, of its
latest report and of its last sent report, the hold of R423, whether its condition lasts, and whether COUNT or DETAIL
have changed since the last sent report. -/
structure Incident where
  id : Nat := 0
  code : Nat := 0
  loc : Nat := 0
  tFirst : Nat := 0
  st : IncState := .free
  station : Bool := false
  previous : Bool := false
  pending : Bool := false
  tLast : Nat := 0
  root : Nat := 0
  count : Nat := 0
  detail : Nat := 0
  openTick : Nat := 0
  lastTick : Nat := 0
  sentTick : Option Nat := none
  held : Bool := false
  lasting : Bool := false
  outer : Bool := false
  seenNs : Nat := 0
  dueNs : Nat := 0
  deriving DecidableEq, Repr, Inhabited

/-- The fault unit (R420 to R433): the 256 entries; the conditions to report again after a host close (code, location,
DETAIL, tick of the close); the count of the last incident frame; the scrub's hits (address, tick); the flash blocks
retired, the next one to refresh and the tick of the last refresh; the sums of the telemetry second under way; and the last second reported. -/
structure Fau where
  inc : List Incident := List.replicate 256 {}
  again : List (Nat × Nat × Nat × Nat) := []
  lastSend : Option Nat := none
  scrubHits : List (Nat × Nat) := []
  retired : List Nat := []
  refreshNext : Nat := 0
  refreshTick : Nat := 0
  corrSecond : Nat := 0
  scrubSecond : Nat := 0
  discardSecond : Nat := 0
  verifySecond : Nat := 0
  lastSecond : Int := 0
  deriving DecidableEq, Repr, Inhabited

/-- A packet in an output queue (R227, R232): its 68-bit words, the sample count at which its EOP was stored (R236),
its channel and first raw count where it is a stream packet (R240), the frame TYPE of a class 0 item (R276) and the
one path of a TIME frame (R289), the steering channel where its word 0 holds no location code, or where it carries a
channel set (R288), and the host address of a codec job segment (R219). -/
structure Packet where
  words : List QWord := []
  at_ : Nat := 0
  ch : Nat := 0
  n0 : Nat := 0
  ftype : Nat := 0x80
  only : Option Nat := none
  steer : Option (Option Nat) := none
  dest : Option Nat := none
  deriving DecidableEq, Repr, Inhabited

/-- An output queue (R231, R232): whole packets waiting, the packet being read (its remaining words, the words it has
in all, and the words already delivered from it), packets in progress (channel, first raw count, reserved
words, 0 when no space could be reserved), packets whose producer waits for space (R233), the packets in progress of the
flush set with the packets discarded so far, and whether the packet being read was being read when a flush or a drop
began (R240, R241). -/
structure Queue where
  waiting : List Packet := []
  reading : Option Packet := none
  readTotal : Nat := 0
  progress : List (Nat × Nat × Nat) := []
  blocked : List Packet := []
  flushSet : List (Nat × Nat) := []
  flushCount : Nat := 0
  flushRead : Bool := false
  dropRead : Bool := false
  deriving DecidableEq, Repr, Inhabited

/-- A round of the time exchange under way on a path (R311): its ROUND, the sample count of t2, and the stamps t1, t2, t3
and t4 in units of 2^-16 ns / 1000. -/
structure TimeRound where
  round : Nat := 0
  t2Count : Nat := 0
  t2 : Int := 0
  t1 : Option Int := none
  t3 : Option Int := none
  t4 : Option Int := none
  deriving DecidableEq, Repr, Inhabited

/-- A relation record (R306). -/
structure Relation where
  st : Nat := 0
  step : Bool := false
  master : Nat := 0
  ne : Nat := 0
  offset : Int := 0
  tnom : Nat := 3579139413
  rate : Int := 0
  seq : Nat := 0
  deriving DecidableEq, Repr, Inhabited

/-- The time unit (R302 to R322): offset in 2^-16 ns, rate in 2^-40, t_nom in 2^-32 ns, the servo's integrator in
2^-16 ns, whether time is acquired, whether it has been acquired since the last reset (R69), and for each path the round under way, the delays of the
accepted rounds since the history was cleared (newest first, at most 16), the network time of the last accepted round,
MASTER_ID, the last theta; the points of an acquisition (network time and theta), the rounds in a row below 1 ns, and
whether the next round is the first after a step; re-basings waiting for their N_e; the relation in force and when it
was last sent; a jump acceptance waiting and the latest refused
theta; the PPS edges and the asymmetry calibration (path, edges taken, sum in ps
times 1000); the counts at which each copy disagreed, and the copies taken out; and when each class last took a
T48-bearing packet (R307). -/
structure Tim where
  offset : Int := 0
  rate : Int := 0
  tnom : Nat := 3579139413
  integ : Int := 0
  acquired : Bool := false
  acquiredOnce : Bool := false
  rounds : List (Option TimeRound) := [none, none]
  delays : List (List Int) := [[], []]
  lastAccept : List (Option Int) := [none, none]
  master : List Nat := [0, 0]
  lastTheta : List Int := [0, 0]
  points : List (Int × Int) := []
  lockRun : Nat := 0
  stepped : Bool := false
  afterStep : Bool := false
  pending : List Relation := []
  relation : Relation := {}
  relationSeq : Nat := 0
  relationAt : Int := 0
  accept : Bool := false
  refused : Int := 0
  ppsLast : Option Int := none
  cal : Option (Nat × Nat × Int) := none
  votes : List (List Nat) := [[], [], []]
  out : List Bool := [false, false, false]
  lastT48C1 : Int := 0
  lastT48C3 : Int := 0
  deriving DecidableEq, Repr, Inhabited

/-- A frame of the module (R271): TYPE, CLASS, SEQ, path, lane, MODULE and payload, the payload words that hold a location
code in [31:0] (R66), and whether its CRC is sent complemented (R238). -/
structure TxFrame where
  ftype : Nat := 0
  cls : Nat := 0
  seq : Nat := 0
  path : Nat := 0
  lane : Nat := 0
  module_ : Nat := 0
  words : List LWord := []
  locs : List Nat := []
  cut : Bool := false
  deriving DecidableEq, Repr, Inhabited

/-- What a transmitter puts on the line (R248): a training burst, a SEED of a scrambler state, a SYNC with a frame's body
scrambled from a state on, a run of FILLs, a HUSH. -/
inductive LineItem where
  | burst
  | seed (st : Nat)
  | frame (st : Nat) (f : TxFrame)
  | fill (n : Nat)
  | hush
  deriving DecidableEq, Repr, Inhabited

/-- A lane (R250 to R264): the scrambler states of its two directions, the whole frames in its transmit buffer and in
the class 0 slot of lanes 0 and 12 (oldest first); in UI since the boot of the keeper, when its line is free for the next item,
when the last frame of the buffer, the last of the slot and the last of any has left, and the assignment that wakes it; what it
has sent since its last training burst or SEED, with that one; the bring-up run counts of R259, the training groups left, the
count of attempts, the items since the last SEED and the frames since the last FILL; the counts of its transmitter's entry into
IDLE, of its receiver's entry into REALIGN, of the start of its attempt and of its wait; whether its PLL is locked and whether
it is shed, whether the board crosses the two wires of its receiver (R247), and the tick of a loss of signal with
DOWN_SEEN and DOWN_CNT before it (R268). STATE and the sub-states stand in LNK_LANE_STAT. -/
structure Lane where
  txScr : Nat := 1
  rxScr : Nat := 1
  buf : List TxFrame := []
  slot0 : List TxFrame := []
  free : Nat := 0
  bufEnd : Nat := 0
  slotEnd : Nat := 0
  lastFrame : Nat := 0
  wakeAt : Nat := 0
  line : List LineItem := []
  aligned : Bool := false
  goodRun : Nat := 0
  rxGood : Bool := false
  partnerRun : Nat := 0
  groups : Option Nat := none
  attempt : Nat := 0
  items : Nat := 0
  frames : Nat := 0
  idleAt : Nat := 0
  realignAt : Nat := 0
  attemptAt : Nat := 0
  waitAt : Nat := 0
  pll : Bool := true
  shed : Bool := false
  swapped : Bool := false
  loss : Option (Nat × Bool × Nat) := none
  deriving DecidableEq, Repr, Inhabited

/-- A received frame held for a missing SEQ (R292): path, class, SEQ, TYPE, lane, payload, and the count of its
arrival with the phase of its SYNC. -/
structure RxHeld where
  path : Nat := 0
  cls : Nat := 0
  seq : Nat := 0
  ftype : Nat := 0
  lane : Nat := 0
  words : List LWord := []
  at_ : Nat := 0
  phi : Nat := 0
  deriving DecidableEq, Repr, Inhabited

/-- A memory read waiting for its answer (R294, R295): path, TAG, address, word count, the count at which it was sent,
and what it is for: 200 or 201 a half of the doorbell page, 210 + r descriptors of ring r, 299 nothing any more. -/
structure MemRead where
  path : Nat := 0
  tag : Nat := 0
  addr : Nat := 0
  count : Nat := 0
  at_ : Nat := 0
  purpose : Nat := 0
  deriving DecidableEq, Repr, Inhabited

/-- A memory transaction waiting to be framed (R294, R340): the class position it takes, TYPE, address, data words (for
MEM_RD the word of TAG and COUNT), a key that names the ring whose records or status slot it carries, and the data words that
hold a location code in [31:0] (R66). -/
structure MemTx where
  pos : Nat := 1
  ftype : Nat := 0x20
  addr : Nat := 0
  data : List LWord := []
  key : Nat := 0
  locs : List Nat := []
  deriving DecidableEq, Repr, Inhabited

/-- A ring of the Prompter (R327, R328): its module-side index (FI or WI), its host-side index (PI or CI), RECNO, a
RESUME waiting for the next poll, the writes of the last TIMEOUT_US (count, WI before), and the count of its last status write
with whether the slot is behind the index (R340). -/
structure PRing where
  head : Nat := 0
  tail : Nat := 0
  recno : Nat := 0
  resume : Bool := false
  recent : List (Nat × Nat) := []
  statusAt : Option Nat := none
  behind : Bool := false
  deriving DecidableEq, Repr, Inhabited

/-- What the data-ring writer writes of a queue (R336, R338): the ring of its record, none where its words go to a job's buffer;
the address of the record's header, or of the buffer; the words of the packet and those delivered; and the word that holds a
location code. -/
structure RecWrite where
  ring : Option Nat := none
  at_ : Nat := 0
  len : Nat := 0
  done : Nat := 0
  loc : Option Nat := none
  deriving DecidableEq, Repr, Inhabited

/-- A descriptor fetched and not yet completed (R333 to R335): its ring, its index, its four words, whether it has
started and finished, its completion (RESULT, STATUS, BLOCKS, word 1 [31:0]), and the output it has in host memory. -/
structure PCmd where
  ring : Nat := 0
  idx : Nat := 0
  words : List LWord := []
  started : Bool := false
  finished : Bool := false
  result : LWord := 0
  status : Nat := 0
  blocks : Nat := 0
  low : Nat := 0
  outAddr : Nat := 0
  outLen : Nat := 0
  deriving DecidableEq, Repr, Inhabited

/-- The Prompter (R327 to R342): its rings, the commands in flight in the order of their fetching, the ring whose turn
comes next; the poll under way (the count of its start and the doorbell words of its two answers, none while it has not
come), failed polls in a row, a nudge waiting; the path in use and the pause of a change of path (the count until which
it waits, the last write on the old path); the completion entries written of late (ring, index, words, count);
whether the poll of a change of path is under way; the commands of cancelled codec jobs whose entries are still to be
written, in job order (R224); and by queue the packet that the data-ring writer is writing. -/
structure Prm where
  rings : List PRing := List.replicate 36 {}
  cmds : List PCmd := []
  turn : Nat := 0
  pollAt : Option Nat := none
  lastPoll : Option Nat := none
  answers : List (Option (List LWord)) := [none, none]
  failRun : Nat := 0
  nudge : Bool := false
  path : Nat := 0
  paused : Bool := false
  changeAt : Nat := 0
  lastWrite : Nat := 0
  entries : List (Nat × Nat × List LWord × Nat) := []
  resuming : Bool := false
  cancelled : List (Nat × Nat) := []
  writing : List (Option RecWrite) := List.replicate 12 none
  deriving DecidableEq, Repr, Inhabited

/-- The stream encoders (R210): the channels whose stream is enabled, as a map; whether stage S3 holds the stream (R395);
and an accepted APPLY that waits: its
modes, its enable, the least first raw count it may take effect at, and the channels it has not yet reached. -/
structure Stream where
  on : Nat := 0
  held : Bool := false
  pend : Option (List Nat × Bool × Nat × Nat) := none
  deriving DecidableEq, Repr, Inhabited

/-- The link layer (R279 to R295): SENT and LIMIT by 3 * path + class - 1, whether the path waits for its first CREDIT
frame; the holding buffers by 2 * class + path; the queue whose packet each class is delivering, whether it is open-sized and whether
it goes on both paths; by class the path of the packet still open, the frames of its run (R278) and whether they went on both
paths; the sub-queue rotation of each path; the class 1 frames taken
and the limit granted on each path, with the count of the last CREDIT frame; whether a class 1 start already counted
its wait; the next SEQ expected by 2 * path + class, and the frames held; the memory transactions waiting (TYPE and
payload) and the reads outstanding; the path in use for memory. -/
structure Lnk where
  lanes : List Lane := List.replicate 24 {}
  sent : List Nat := List.replicate 6 0
  limit : List Nat := List.replicate 6 0
  held : List (List TxFrame) := List.replicate 8 []
  cur : List (Option (Nat × Bool × Bool)) := List.replicate 4 none
  openPath : List (Option (Nat × Nat × Bool)) := List.replicate 4 none
  rot : List Nat := [0, 0]
  taken : List Nat := [0, 0]
  granted : List Nat := [0, 0]
  creditAt : List Nat := [0, 0]
  waited : List Bool := [false, false]
  expect : List (Option Nat) := List.replicate 8 none
  hold : List RxHeld := []
  mem : List MemTx := []
  reads : List MemRead := []
  nextTag : Nat := 0
  deriving DecidableEq, Repr, Inhabited

/-- What a span of raw counts carries (R78, R92, R110, R128, R132, R482): a range change, settling of a range change,
settling of another change, source samples, a poisoned block, a feed test-pulse window. -/
inductive SpanKind where
  | rangeChg | rangeSettle | settle | rehearsal | poison | pulse
  deriving DecidableEq, Repr, Inhabited

/-- A marked span of a channel's raw counts, from a to b inclusive: whether raw blocks carry it, whether stream blocks
do, and half the FIR order by which stream marks widen (R79), at its end another one when a chain change came between. -/
structure Span where
  kind : SpanKind := .settle
  a : Nat := 0
  b : Nat := 0
  raw : Bool := true
  stream : Bool := true
  f : Nat := 0
  fe : Option Nat := none
  deriving DecidableEq, Repr, Inhabited

/-- A raw block as a channel took it (R83, R174): its first count, its 64 samples after skew correction, and which of
them were clips after interleave correction. -/
structure RawBlk where
  n : Nat := 0
  xs : List Int := []
  clips : List Bool := []
  deriving DecidableEq, Repr, Inhabited

/-- A notch change on its way to the filtered road (R132): the notch of its channel, the width by which its settling
counts, and EN, FC and BW as they were written. -/
structure NotchChg where
  notch : Nat := 0
  settle : Nat := 0
  en : Bool := false
  fc : Nat := 0
  bw : Nat := 0
  deriving DecidableEq, Repr, Inhabited

/-- A notch of the filtered road (R130): in use, its centre in 100 Hz, a and b with 32 fractional bits, and its state: the
last two inputs and outputs in 2^-32 code. -/
structure Notch where
  on : Bool := false
  fc : Nat := 0
  a : Int := 0
  b : Int := 0
  x1 : Int := 0
  x2 : Int := 0
  y1 : Int := 0
  y2 : Int := 0
  deriving DecidableEq, Repr, Inhabited

/-- The background estimator of a channel (R102): the first count of the window under way, and by slice the number of the
samples used, their sum, the sum of their squares, and the sum of their products with the next sample. -/
structure BgWin where
  start : Option Nat := none
  num : List Nat := List.replicate 8 0
  sum : List Int := List.replicate 8 0
  power : List Int := List.replicate 8 0
  cross : List Int := List.replicate 8 0
  deriving DecidableEq, Repr, Inhabited

/-- An impulse detector (R174): dc in 1/64 code and noise in 1/16 code^2, the count from which they are in force and the ones
before it, the count from which detection runs, the count until which it is dead, and the estimation window under way: its end,
the count up to which its samples are summed, the samples and their number, envelope powers in 2^-36 code^2 below the threshold
and their number. -/
structure Det where
  dc : Int := 0
  noise : Nat := 0
  from_ : Nat := 0
  dcOld : Int := 0
  noiseOld : Nat := 0
  start : Option Nat := none
  dead : Nat := 0
  stop : Nat := 0
  summed : Nat := 0
  sumX : Int := 0
  nX : Nat := 0
  sumE : Int := 0
  nE : Nat := 0
  deriving DecidableEq, Repr, Inhabited

/-- A channel's own state beside its registers: failed (R55); the count from which it has taken samples without a gap,
none while it takes none; the range in force and the changes of range taken (N_c and code, newest first); the counts at
which waiting changes take effect: range (R76), skew (R128), notches (R132, each with the notches concerned and their
widths), filter chain (R135, each with whether it swaps banks, DECIM and ORDER); DECIM and ORDER in force; notches
bypassed after a rate switch (R137); the auto-ranger (R84) with the count of a decision that is due; the background estimator's runs without excitation and of
good windows (R103, R104); its marked spans and the blocks that held a clip (R141); the last 513 raw blocks, newest first,
and the impulse detector; the ring's write position W, the attributes of the last block written since the restart count,
the log entries in use (first count and attributes, oldest first) and the number written since the restart count (R170,
R171), and the runs of counts that it never wrote (R172); the acceptance counts of cues whose CUE flag is
still to be sent (R182); the stream modes and the chain settings (DECIM, ORDER, bank) in force with the counts from which
they hold, newest first, the runs of counts taken before, and the first raw count of the last stream packet completed;
the MASK periods: mask, first count and count of the end (R164); the counts of blocks its elastic buffer dropped
(R482); the host skew and region phase in force, and the count at which a new region phase takes effect (R126, R128);
the 32 factors that still correct the blocks before a count (R101); the converter results held, in 1/64 code, with the count
of the first (R98, R99); the effective skews with the counts from which they hold, newest first (R126); the notches of the
filtered road, the notch changes that it has still to take with their counts, and its last blocks, newest first, in 2^-32
code (R125, R130); and the background estimator's window (R102). -/
structure Chan where
  failed : Bool := false
  since : Option Nat := none
  range : Nat := 15
  ranges : List (Nat × Nat) := []
  rangeAt : Option Nat := none
  skewAt : Option Nat := none
  notchAt : List (Nat × List NotchChg) := []
  chainAt : List (Nat × Bool × Nat × Nat) := []
  decim : Nat := 0
  order : Nat := 2
  bypassed : List Nat := []
  hot : Bool := false
  quiet : Bool := true
  age : Nat := 0
  arDue : Option Nat := none
  bgIdle : Nat := 0
  bgGood : Nat := 0
  spans : List Span := []
  clipBlocks : List Nat := []
  recent : List RawBlk := []
  det : Det := {}
  w : Nat := 0
  attr : Option Nat := none
  log : List (Nat × Nat) := []
  logNo : Nat := 0
  gaps : List (Nat × Nat) := []
  cue : List Nat := []
  streams : List (Nat × Nat) := []
  chains : List (Nat × Nat × Nat × Nat) := []
  ran : List (Nat × Nat) := []
  sent : Option Nat := none
  masks : List (Nat × Nat × Option Nat) := []
  drops : List Nat := []
  host : Int := 0
  phase : Int := 0
  phaseAt : Option Nat := none
  calOld : Option (Nat × List Nat) := none
  line : Nat × List Int := (0, [])
  skews : List (Nat × Int) := []
  notches : List Notch := List.replicate 8 {}
  notchNew : List (Nat × List NotchChg) := []
  road : List (Nat × List Int) := []
  bg : BgWin := {}
  deriving DecidableEq, Repr, Inhabited

/-- A region (R50, R59 to R63): powered, its PLL locked, failed, powered down by its die's temperature, shed, its
calibration factors' Rehearsal. -/
structure Region where
  powered : Bool := false
  locked : Bool := false
  failed : Bool := false
  thermal : Bool := false
  shed : Bool := false
  resumeAt : Option Nat := none
  deriving DecidableEq, Repr, Inhabited

/-- A step of the sample rate under way (R45): the rate to come, the count N at which ingest stops, whether it returns to
the configured rate, and how far it has come (0 waiting for N, 1 stopped, 2 relocked). -/
structure RateSwitch where
  target : Nat := 0
  n : Nat := 0
  restore : Bool := false
  stage : Nat := 0
  deriving DecidableEq, Repr, Inhabited

/-- The data plane and its pace loop (R42 to R46, R51 to R63): ingest running; the units enabled in effect as a map of 64
bits and the changes waiting (channel, enable, boundary); stopped under R44; a CX fault or thermal action; CX powered;
ticks in a row at or above 25%, below 10% at 0.85 V, and at or above 10%; the counts between which stream blocks carry
RATE_REDUCED (R46); the rate switch under way; whether monitors
report; the last temperatures and the thermal actions in force of the dies QF 0, QF 1, CX, keeper and flash; and the
clusters whose calibration source is faulty; the lowest margin of the last tick in percent and its monitor; the AR_DWELL
last written (R85); a RESTART that waits for the end of a rate switch (R414); and what took effect at the last start-up: the
channels in the second zone as a map and factory-trim mode (R74, R116). A die reads 25 °C before its first reading. DESIGN
CHOICE: log entry 94. -/
structure Plane where
  ingest : Bool := false
  unitOn : Nat := 0
  unitPend : List (Nat × Bool × Nat) := []
  stopped : Bool := false
  cxFault : Bool := false
  cxOn : Bool := false
  good : Nat := 0
  low : Nat := 0
  ok : Nat := 0
  monitors : Bool := false
  reduced : List (Nat × Option Nat) := []
  switch : Option RateSwitch := none
  temps : List Int := [25, 25, 25, 25, 25]
  hot : List Bool := [false, false, false, false, false]
  qfFault : List Bool := [false, false]
  sourceFault : List Nat := []
  minMargin : Int := 255
  minMonitor : Nat := 0
  dwell : Nat := 1172
  restartWait : Bool := false
  zone : Nat := 0
  trim : Bool := false
  deriving DecidableEq, Repr, Inhabited

/-- A feed (R87 to R91): ticks of soft start left, whether that soft start is a retry, and the tick of the next retry; and
what was latched since the last tick: an overload trip, and the result of a test pulse, held up with the DETAIL of the
report or clear. -/
structure Feed where
  soft : Nat := 0
  retrying : Bool := false
  retryAt : Option Nat := none
  trip : Bool := false
  short : Option Nat := none
  clear : Bool := false
  deriving DecidableEq, Repr, Inhabited

/-- A test-pulse sweep (R91): the next feed to consider, the tick of the last pulse, the feed being pulsed with the count of
its pulse and the currents before it, the feeds skipped. -/
structure Sweep where
  next : Nat := 0
  tick : Option Nat := none
  pulse : Option (Nat × Nat) := none
  before : List Nat := []
  skipped : List Nat := []
  deriving DecidableEq, Repr, Inhabited

/-- The antenna feeds (R86 to R95): the feeds, the sweep under way, the last sweep's skipped feeds and whether it was
stopped, whether VFEED is good, whether the sweep after the cold start has been made, the tick from which the sweep period
counts, and the regions whose feeds are shed (R93). -/
structure Feeds where
  feeds : List Feed := List.replicate 32 {}
  sweep : Option Sweep := none
  lastSkipped : List Nat := []
  lastStopped : Bool := false
  vfeedOk : Bool := true
  startSwept : Bool := false
  lastSweepTick : Nat := 0
  shed : List Bool := [false, false, false, false]
  deriving DecidableEq, Repr, Inhabited

/-- Rehearsal of a region (R107 to R111): its switch count N_s, whether its units are connected, the phase under way,
the units that are measured, the factors and the phase register from before N_s, the measurements of the phases so far,
and the units with a factor at its limit. -/
structure Reh where
  busy : Bool := false
  ns : Nat := 0
  connected : Bool := false
  phase : Nat := 0
  units : List Nat := []
  factors : List Nat := []
  phaseReg : Word := 0
  meas : List (List Int) := []
  limited : List Nat := []
  deriving DecidableEq, Repr, Inhabited

/-- A request in a cluster's injection queue (R119, R129): its channel, whether it is a skew calibration, its signal,
parameter and level (R105), the count of its arrival, the least count at which its window may start, its start N_i once assigned, whether its window
runs, and the Prompter command that asked for it (ring and index). -/
structure Inject where
  ch : Nat := 0
  skew : Bool := false
  signal : Nat × Nat × Nat := (0, 0, 0)
  at_ : Nat := 0
  least : Nat := 0
  ni : Option Nat := none
  running : Bool := false
  prm : Option (Nat × Nat) := none
  deriving DecidableEq, Repr, Inhabited

/-- A saved calibration set (R113): ADC_CAL, the four ADC_PLL_PHASE registers and ADC_REH_TEMP; valid once checked. -/
structure CalSet where
  cal : List Nat := []
  phases : List Word := []
  temp : Word := 0
  valid : Bool := false
  seq : Nat := 0
  deriving DecidableEq, Repr, Inhabited

/-- The converters (R97 to R123): Rehearsal by region, injection queues by cluster, the two saved sets, and the slot being
written. -/
structure Adc where
  reh : List Reh := List.replicate 4 {}
  inj : List (List Inject) := List.replicate 16 []
  saved : List CalSet := [{}, {}]
  saving : Option Nat := none
  deriving DecidableEq, Repr, Inhabited

/-- A spectrum frame record (R140). -/
structure FrameRec where
  ch : Nat := 0
  m : Nat := 0
  mark : Nat := 0
  range : Nat := 0
  power : List Int := []
  deriving DecidableEq, Repr, Inhabited

/-- The channelisers (R138 to R145): the boundary of a waiting prototype swap and that of the last one; the frame
boundary from which they run, none while they are stopped; and the frame records on their way to the watch cells,
oldest first. -/
structure Chn where
  swapAt : Option Nat := none
  swapped : Option Nat := none
  start : Option Nat := none
  records : List FrameRec := []
  deriving DecidableEq, Repr, Inhabited

/-- Watch-cell state of one channel (R151 to R156): the last frame index, the substituted and clipped frames of the
interval under way, whether a priming interval has begun and has been spoilt, whether the next frame enters PRIMING for a
change of K, and the subbands treated as held. -/
structure WChan where
  last : Option Nat := none
  subst : Nat := 0
  clipped : Nat := 0
  begun : Bool := false
  spoilt : Bool := false
  reprime : Bool := false
  held : List Nat := []
  deriving DecidableEq, Repr, Inhabited

/-- The violation state of a channel and mask (R163, R165): the length of the run towards a change, whether it is in
violation, and what the exit record says of the episode. -/
structure MaskRun where
  run : Nat := 0
  viol : Bool := false
  clipped : Bool := false
  worstSub : Nat := 0
  worstExc : Nat := 0
  hitsMax : Nat := 0
  deriving DecidableEq, Repr, Inhabited

/-- The watch cells and masks (R149 to R164): the cells by 4096 * ch + s, the channels, the mask runs by 16 * ch + n, the
token bucket with the last frame that fed it, whether a record was dropped since the last one sent, and the boundaries
of waiting bank swaps. -/
structure Wch where
  cells : Table LWord := []
  chans : List WChan := List.replicate 64 {}
  runs : List MaskRun := List.replicate 1024 {}
  tokens : Nat := 0
  tokenFrame : Option Nat := none
  lost : Bool := false
  segAt : Option Nat := none
  maskAt : Option Nat := none
  deriving DecidableEq, Repr, Inhabited

/-- A block of the capture ring (R170): 64 samples of 12 bits, sample i in bits [12 i + 11 : 12 i]. -/
abbrev RingBlock := BitVec 768

/-- A ring block as a job read it: channel, first count div 64, samples, attributes (R170). -/
structure ReadBlk where
  ch : Nat := 0
  blk : Nat := 0
  data : RingBlock := 0
  attr : Nat := 0
  deriving DecidableEq, Repr, Inhabited

/-- A job that reads the ring through its read port (R190): the next block to read, none after the last one, the bytes left of
its last burst, the blocks read, newest first, and the number of those overwritten before it reached them. -/
structure Reader where
  at_ : Option (Nat × Nat) := none
  part : Nat := 0
  got : List ReadBlk := []
  lost : Nat := 0
  deriving DecidableEq, Repr, Inhabited

/-- The ring read port (R32, R190): the bursts it has had time for since count 0, its place in the round of eight bursts, the
CUE_ID of the snippet job that it served last, the diagnostic reads that wait, and whether the last burst of their share was
one of them. -/
structure ReadPort where
  n : Nat := 0
  slot : Nat := 0
  snip : Nat := 0
  diag : Nat := 0
  diagLast : Bool := false
  deriving DecidableEq, Repr, Inhabited

/-- A firing of an impulse detector as a cluster's combiner holds it (R177): channel, c, fraction, PEAK and CLIP. -/
structure Firing where
  ch : Nat := 0
  c : Nat := 0
  frac : Nat := 0
  peak : Nat := 0
  clip : Bool := false
  deriving DecidableEq, Repr, Inhabited

/-- An open cue (R180 to R183, R187): c and fraction, CUE_ID, condition bits, location of its lowest bit, channel set,
windows in samples, whether any member has REC_EN and SNIP_EN, PEAK, MEMBERS and CLIP, and whether it asked for the
freeze. -/
structure Cue where
  c : Nat := 0
  frac : Nat := 0
  id : Nat := 0
  conds : Nat := 0
  loc : Nat := 0
  set : Nat := 0
  pre : Nat := 0
  post : Nat := 0
  record : Bool := false
  snip : Bool := false
  peak : Nat := 0
  members : Nat := 0
  clip : Bool := false
  freezes : Bool := false
  deriving DecidableEq, Repr, Inhabited

/-- A cue proposal on its way to the cue engine (R173, R179): source bit, c and fraction, location, the proposing units as
a map of channels, PEAK, MEMBERS and CLIP of its firings, and whether its mask asks for the freeze (R164). -/
structure Proposal where
  bit : Nat := 0
  c : Nat := 0
  frac : Nat := 0
  loc : Nat := 0
  units : Nat := 0
  peak : Nat := 0
  members : Nat := 0
  clip : Bool := false
  stop : Bool := false
  deriving DecidableEq, Repr, Inhabited

/-- A snippet job (R187, R188): what its header says, whether extraction has begun, and how far it has read. -/
structure SnipJob where
  id : Nat := 0
  conds : Nat := 0
  loc : Nat := 0
  start : Nat := 0
  stop : Nat := 0
  preActual : Nat := 0
  set : Nat := 0
  shortPre : Bool := false
  shortPost : Bool := false
  running : Bool := false
  rd : Reader := {}
  deriving DecidableEq, Repr, Inhabited

/-- A readout waiting or running (R195 to R200): REQ_ID, F, E, the delivered channels, the STATUS of its header, the blocks
that were missing when it was decided, and how far it has read. -/
structure Readout where
  req : Nat := 0
  first : Nat := 0
  stop : Nat := 0
  map : Nat := 0
  status : Nat := 0
  absent : Nat := 0
  rd : Reader := {}
  deriving DecidableEq, Repr, Inhabited

/-- A cue source's prescaler (R189): proposals counted, the charge of the interval, quiet intervals in a row, and the
proposals not passed since its last mark. -/
structure Source where
  pcount : Nat := 0
  charge : Nat := 0
  quiet : Nat := 0
  missed : Nat := 0
  deriving DecidableEq, Repr, Inhabited

/-- The cue engine and the capture ring (R168 to R202): the ring's blocks by their place in the sample area, its log
words, the channels it holds as a map, its restart count and whether it has a first block since, and whether the engine
and ring run (R172); the open cues, the next CUE_ID, the snippet jobs and readouts in order of arrival; the requests
served of late (REQ_ID and count); the sources; whether the last proposal at the blind check was blind, and the blind
proposals since step 2 of the freeze; the freeze count Z, and the resume count R of a re-arm; the firings held and the
count until which each combiner ignores firings; the count at which TRIG_OUT goes low; the proposals on their way to the
engine (R173), oldest first; the count at which the budget interval ends; the last accepted edge of each trigger input in
1/64 sample and the edges ignored; whether the first write is still to make a RING_RESET mark; and the ring's read port. -/
structure Trg where
  blocks : Table RingBlock := []
  alog : Table Word := []
  map : Nat := 0
  restart : Nat := 0
  running : Bool := false
  resetMark : Bool := false
  cues : List Cue := []
  nextId : Nat := 1
  jobs : List SnipJob := []
  readouts : List Readout := []
  served : List (Nat × Nat) := []
  sources : List Source := List.replicate 9 {}
  lastBlind : Bool := false
  blindRun : Nat := 0
  z : Option Nat := none
  freezing : Bool := false
  r : Option Nat := none
  firings : List (List Firing) := List.replicate 16 []
  ignore : List (Option Nat) := List.replicate 16 none
  outUntil : Option Nat := none
  proposals : List Proposal := []
  budgetNext : Nat := 1200000
  edges : List (Option Int) := [none, none]
  ignored : List Nat := [0, 0]
  port : ReadPort := {}
  deriving DecidableEq, Repr, Inhabited

/-- A codec job (R217 to R223): the command's ring and index, its four words, whether it runs, how far it has read, and
whether its source was removed (R190). -/
structure CJob where
  ring : Nat := 0
  idx : Nat := 0
  words : List LWord := []
  running : Bool := false
  rd : Reader := {}
  cut : Bool := false
  deriving DecidableEq, Repr, Inhabited

/-- A tagged stream block in flight (R446 to R448): channel, raw count of its first sample, stream MODE and DECIM, and
whether it has been discarded. -/
structure TraceTag where
  ch : Nat := 0
  n : Nat := 0
  mode : Nat := 0
  decim : Nat := 0
  discarded : Bool := false
  deriving DecidableEq, Repr, Inhabited

/-- Dumps and tracers (R443 to R448): the tick from which the next dump period counts, and the tagged blocks in
flight. -/
structure Pmc where
  base : Nat := 0
  tags : List TraceTag := []
  deriving DecidableEq, Repr, Inhabited

/-- A slow-sensor pulse under way (R377, R378): its input, MODE and excitation in nA as they were at its start. -/
structure Pulse where
  input : Nat := 0
  mode : Nat := 0
  iexc : Nat := 0
  deriving DecidableEq, Repr, Inhabited

/-- The slow sensors (R374 to R385): whether pulses may run (from the loading of the image to S5), and whether a valid
calibration set gives the excitation currents; by input, the tick at which it fell due and waits; by slot parity, the tick
up to which due ticks have been taken, the tick of the last pulse and the pulse under way; the inputs whose switches are to
be evaluated with the tick of their conversion; and the debounce counts of the switches. -/
structure Sns where
  on : Bool := false
  calValid : Bool := false
  waiting : List (Option Nat) := List.replicate 16 none
  seen : List Nat := [0, 0]
  last : List (Option Nat) := [none, none]
  pulses : List (Option Pulse) := [none, none]
  toEval : List (Nat × Nat) := []
  counts : List Nat := List.replicate 32 0
  deriving DecidableEq, Repr, Inhabited

/-- A first copy of a safety telegram that waits for the other one (R363, R364, R368, R370): its path, its words, and the tick of its arrival. -/
structure Copy where
  path : Nat := 0
  words : List LWord := []
  tick : Nat := 0
  deriving DecidableEq, Repr, Inhabited

/-- The safety monitor (R347 to R371): whether the keeper runs it; the lock-out latch that needs no supply (R367), the
safety key (R370), the set stored in flash, the staged words, and a set being written; the tick of the last cycle; the
ticks at which each voter channel differed, and whether two are out (R349); by input, the cycles of its discrepancy, and
since it was locked whether it read 0 on both channels and each source's test pulse passed (R353, R354); by channel (SI_A, then SI_B)
the samples in a row that differ from its filtered value, by input whether a channel read 0 at any sample of the last cycle,
and the starts of the last test pulses in microseconds (R352, R353); the encoder's count, VAUX24 in 10 mV, the incremental
count and position of the last alignment, the Z count learnt, the last SSI value, the positions of the last cycles (newest
first), the cycles of disagreement, and whether each source was faulty in the last cycle (R355 to R357); the entry of SS1
(tick, v0) and its cycles at standstill, the commanded SLS selection, whether an input holds limit 0, the ramp of the limit
(its start as a fraction and its tick), the limit it leads to, the cycles of violation, SDI with the furthest position
reached, an SLP stop and its recovery (R358); the entry into DEGRADED, the element lost (0 path A, 1 path B, 2 incremental,
3 SSI), a second loss still to act, and the ticks since which the four elements have been good (R366); cycles of VAUX24 out
of range; curtains whose check failed and the tick of the last curtain test; the last accepted TCOUNT, the first copies that
wait, the ticks of the last command by path, the agreed commands in a row and whether the loss of the path stands (R363,
R364); RUN or RESUME to act in the next cycle, with SLP_RECOVER; TCOUNT and tick of the last STATUS and the code of the latest
fault (R362); the tick of a valid SAFE_RESET release, the tick from which the pin has been high after a stuck press (R368);
and the first copies of ACK, PARAM and ACTIVATE. -/
structure Saf where
  on : Bool := false
  latch : Bool := false
  key : Option Nat := none
  stored : Option (List Word) := none
  staged : List (Nat × Word) := []
  writing : Option (List Word) := none
  cycle : Nat := 0
  differ : List (List Nat) := [[], [], []]
  twoOut : Bool := false
  discrepant : List Nat := List.replicate 8 0
  zeroSeen : List Bool := List.replicate 8 false
  passedA : List Bool := List.replicate 8 false
  passedB : List Bool := List.replicate 8 false
  runs : List Nat := List.replicate 16 0
  low : List Bool := List.replicate 8 true
  pulseUs : List Nat := [0, 0]
  encoder : Int := 0
  vaux : Nat := 0
  incRef : Option (Int × Int) := none
  zRef : Option Int := none
  ssiLast : Option Nat := none
  positions : List Int := []
  apart : Nat := 0
  faulty : List Bool := [false, false]
  ss1 : Option (Nat × Int) := none
  still : Nat := 0
  sel : Nat := 0
  slsHold : Bool := false
  ramp : Option (Nat × Nat × Nat) := none
  target : Nat := 0
  slsRun : Nat := 0
  sdi : Nat := 0
  sdiRef : Int := 0
  slpStop : Bool := false
  slpRecover : Bool := false
  degEntry : Nat := 0
  lost : Option Nat := none
  second : Bool := false
  goodSince : List (Option Nat) := [none, none, none, none]
  vauxOut : Nat := 0
  fcBad : Nat := 0
  testTick : Nat := 0
  accepted : Option Nat := none
  copies : List Copy := []
  lastCmd : List Nat := [0, 0]
  agreed : List Nat := [0, 0]
  lossSeen : List Bool := [false, false]
  runReq : Option Nat := none
  recoverReq : Bool := false
  tcount : Nat := 0
  statusTick : Nat := 0
  lastCode : Nat := 0
  release : Option Nat := none
  highSince : Option Nat := none
  ack : Option Copy := none
  param : Option Copy := none
  activate : Option Copy := none
  deriving DecidableEq, Repr, Inhabited

/-- A prompt book record (R400): RECNO, KIND, T48, TIM_SECONDS, stage and MIN_10MV; time state; calibration summary; lock-out
(locked, CODE, LOCK_SEQ); incident table; the 528 counters; and whether its CRC matches. -/
structure Record where
  recno : Nat := 0
  kind : Nat := 0
  t48 : Nat := 0
  seconds : Int := 0
  stage : Nat := 0
  minVin : Nat := 0
  timState : Nat := 0
  offset : Int := 0
  rate : Int := 0
  tnom : Nat := 0
  asym : List Word := []
  result : Word := 0
  temp : Word := 0
  slot : Option Nat := none
  converged : List Bool := []
  locked : Bool := false
  code : Nat := 0
  lockSeq : Nat := 0
  incidents : List Incident := []
  counters : List Nat := []
  valid : Bool := false
  deriving DecidableEq, Repr, Inhabited

/-- The prompt book (R400 to R402, R432): the records of its 1024 areas, newest first; the kind of the commit under way with
whether it is the repeat of a failed one, the kinds that wait; the tick of the last periodic commit. -/
structure Book where
  records : List Record := []
  running : Option (Nat × Bool) := none
  waiting : List Nat := []
  periodTick : Nat := 0
  deriving DecidableEq, Repr, Inhabited

/-- The shedding controller (R387 to R398): the tick of entry into the present stage; keeper power-fail; over-voltage in
force, with the filtered samples in a row above 75 V, and the last VIN samples, newest first (R388, R390); the notice: the
tick of the last one, the deepest stage since, whether one waits, and T48 and filtered VIN of the latest change; the orderly
stop (0 none, 1 under way, 2 the keeper halted) with the tick since which VIN has allowed a restart; and whether the keeper
has supply. -/
structure Pwr where
  entry : Nat := 0
  failed : Bool := false
  overVin : Bool := false
  overRun : Nat := 0
  vins : List Nat := []
  noticeTick : Option Nat := none
  deepest : Nat := 0
  noticeDue : Bool := false
  changeT48 : Nat := 0
  changeVin : Nat := 0
  stop : Nat := 0
  vinHigh : Option Nat := none
  alive : Bool := true
  deriving DecidableEq, Repr, Inhabited

/-- Resets and start-up (R405 to R417): whether the keeper has booted; the filtered RESET_N pin; the tick at which a warm reset
began while it holds CX and the QF dies in reset, and whether the pin asked for it; whether a stuck low has been detected;
the tick since which the filtered pin has been high; the start of the wait for time (R412); the count N at which a restart
stops ingest with the count of its start, and whether it has stopped. -/
structure Start where
  booted : Bool := false
  pinLow : Bool := false
  hold : Option Nat := none
  fromPin : Bool := false
  stuck : Bool := false
  highSince : Option Nat := none
  waitFrom : Option Nat := none
  restartAt : Option (Nat × Nat) := none
  restartStopped : Bool := false
  deriving DecidableEq, Repr, Inhabited

/-- What the balls do under JTAG (R477): mission mode, driven by the boundary-scan register, held at their outputs, or high
impedance. -/
inductive ScanMode where
  | mission | extest | clamp | highz
  deriving DecidableEq, Repr, Inhabited

/-- The access ports (R476 to R478): the SMBus read address, the incidents and the stuck reset or boot failure whose alert an
Alert Response Address read has released, a boot failure to alert; the last frame of the management UART sent by the module;
the JTAG instruction, the data register it selects as shifted out, the boundary-scan register, and the mode of the balls. -/
structure Access where
  smbAddr : Nat := 0
  acked : List Nat := []
  ackStuck : Bool := false
  bootFail : Bool := false
  ackBoot : Bool := false
  answer : List Nat := []
  jtagIr : Nat := 0
  jtagDr : Nat := 0
  bsr : Nat := 0
  scan : ScanMode := .mission
  deriving DecidableEq, Repr, Inhabited

-- END STRUCTURES

/-- The state of the module. Every register of the register tables stands in regs at its address; banks holds the
active copies of the banked tables, whose shadows the registers show (R144, R155, R167). -/
structure State where
  pending : List Instr := []
  free : Nat := 0
  regs : Table Word := []
  banks : Table Word := []
  clk : Clk := {}
  ports : List Port := List.replicate 10 {}
  tim : Tim := {}
  lnk : Lnk := {}
  que : List Queue := List.replicate 12 {}
  fau : Fau := {}
  prm : Prm := {}
  stream : Stream := {}
  plane : Plane := {}
  regions : List Region := List.replicate 4 {}
  chans : List Chan := List.replicate 64 {}
  feeds : Feeds := {}
  adc : Adc := {}
  chn : Chn := {}
  wch : Wch := {}
  trg : Trg := {}
  codec : List CJob := []
  pmc : Pmc := {}
  sns : Sns := {}
  saf : Saf := {}
  book : Book := {}
  pwr : Pwr := {}
  start : Start := {}
  access : Access := {}
  deriving DecidableEq, Repr, Inhabited

/-- The state right after a cold reset, at step 1 of the start-up sequence (R411): every field at the value of its cold
column, the keeper about to boot, CX off, memories clear, and no command waiting. DESIGN CHOICE: log entry 17. -/
def State.reset : State := {}

end Sys2Proof.Machine
end

