-- ==== Sys2Proof/Machine/Ops.lean ====
section
/-! DEFINITION. The shared operations of every family: addressed tables, register fields (R11 to R15), event flags
(R14), clocks and network time (R302 to R304), location codes (R19, R49), event counters (R438 to R441), incidents
(R420 to R426) and the output queues (R227 to R241). -/

namespace Sys2Proof.Machine

/-! ### Addressed tables in canonical form -/

/-- The value of a table at a key: the listed one, or what an unlisted key reads as. -/
def tableGet {v : Type} (unlisted : v) (t : Table v) (k : Nat) : v :=
  match t with
  | [] => unlisted
  | (a, x) :: rest => if a = k then x else tableGet unlisted rest k

/-- Store a value at a key of a table, keeping the keys rising and listing no value that an unlisted key reads as. -/
def tablePut {v : Type} [DecidableEq v] (unlisted : v) (k : Nat) (x : v) : Table v → Table v
  | [] => if x = unlisted then [] else [(k, x)]
  | (a, y) :: rest =>
    if k < a then (if x = unlisted then (a, y) :: rest else (k, x) :: (a, y) :: rest)
    else if a = k then (if x = unlisted then rest else (k, x) :: rest)
    else (a, y) :: tablePut unlisted k x rest

/-- The canonical form of a table: keys strictly rising, no value that an unlisted key reads as. -/
def tableWf {v : Type} [DecidableEq v] (unlisted : Nat → v) : Table v → Bool
  | [] => true
  | (a, x) :: rest =>
    decide (x ≠ unlisted a) && (rest.head?.all fun p => decide (a < p.1)) && tableWf unlisted rest

/-! ### Register words -/

/-- The value of a reset column entry after a cold reset (R17), before the configuration image is loaded: an image
field holds the value in parentheses. DESIGN CHOICE (log entries 1 and 2): keep and strap fields are 0.
DESIGN CHOICE: log entry 1. DEDUCED: log entry 2. -/
def Rst.coldValue : Rst → Nat
  | .val n => n
  | .keep => 0
  | .image n => n
  | .strap => 0

/-- Does this table row hold the register at address a? -/
def RegDef.holds (r : RegDef) (a : Nat) : Bool :=
  decide (r.base ≤ a) && (a - r.base) % r.stride == 0 && decide ((a - r.base) / r.stride < r.count)
    && decide ((a - r.base) / r.stride % r.group < r.used)

/-- The register at an address (R455): its table row, or none for an unassigned address (R12). -/
def regAt (a : Nat) : Option RegDef :=
  regTable.find? fun r => r.holds a

/-- Put a value into the bits [lo + width - 1 : lo] of a word. -/
def setField (w : Word) (lo width v : Nat) : Word :=
  (w &&& ~~~(BitVec.ofNat 32 (2 ^ width - 1) <<< lo)) ||| (BitVec.ofNat 32 (v % 2 ^ width) <<< lo)

/-- The value of the bits [lo + width - 1 : lo] of a word. -/
def getField (w : Word) (lo width : Nat) : Nat :=
  w.toNat / 2 ^ lo % 2 ^ width

/-- Address of the FIR coefficient banks (R146). -/
def firBase : Nat := 0x000C4000

/-- What a register reads as after a cold reset (R17). A FIR bank not loaded from an image is the identity filter of
R136: coefficient 48 is 0x1_0000 and every other one is 0. The built-in prototype of R147 is not published: its
coefficients are free values. -/
def coldWord (a : Nat) : Word :=
  match regAt a with
  | none => 0
  | some r =>
    if r.base = firBase then (if (a - firBase) / 4 % 64 = 48 then 0x10000 else 0)
    else if r.base = F.CHN_COEF then BitVec.ofNat 32 (Config.protoBuiltin ((a - F.CHN_COEF) / 4) % 2 ^ 18)
    else r.fields.foldl (fun w f => setField w f.lo f.width f.cold.coldValue) 0

/-- A register word. DEDUCED: log entry 20. -/
def State.regGet (s : State) (a : Nat) : Word := tableGet (coldWord a) s.regs a

/-- A register word as it reads: write-only fields read 0 (R13). -/
def RegDef.shown (r : RegDef) (w : Word) : Word :=
  r.fields.foldl (fun x f => if f.acc == .wo then setField x f.lo f.width 0 else x) w

/-- The register at an address as it reads. -/
def State.shown (s : State) (a : Nat) : Word :=
  match regAt a with
  | some r => r.shown (s.regGet a)
  | none => 0

/-- Store a register word. -/
def State.regPut (s : State) (a : Nat) (w : Word) : State :=
  { s with regs := tablePut (coldWord a) a w s.regs }

/-- Address of instance i of a field. -/
def Fld.addr (f : Fld) (i : Nat) : Nat := f.base + f.stride * i

/-- Value of a field of instance i. -/
def State.rd (s : State) (f : Fld) (i : Nat := 0) : Nat := getField (s.regGet (f.addr i)) f.lo f.width

/-- Value of a one-bit field of instance i. -/
def State.rdB (s : State) (f : Fld) (i : Nat := 0) : Bool := s.rd f i == 1

/-- Two's complement value of the low width bits of n. -/
def signed (width n : Nat) : Int :=
  if n % 2 ^ width < 2 ^ (width - 1) then ((n % 2 ^ width : Nat) : Int) else ((n % 2 ^ width : Nat) : Int) - 2 ^ width

/-- The low width bits of an integer, as two's complement. -/
def wrapBits (width : Nat) (x : Int) : Nat := (x % (2 ^ width : Nat)).toNat

/-- Signed value of a field. -/
def State.rdS (s : State) (f : Fld) (i : Nat := 0) : Int := signed f.width (s.rd f i)

/-- Set a field of instance i. -/
def State.wr (s : State) (f : Fld) (i v : Nat) : State :=
  s.regPut (f.addr i) (setField (s.regGet (f.addr i)) f.lo f.width v)

/-- Set a one-bit field of instance i. -/
def State.wrB (s : State) (f : Fld) (i : Nat) (b : Bool) : State := s.wr f i b.toNat

/-- Set a field of instance i to a signed value, as two's complement. -/
def State.wrS (s : State) (f : Fld) (i : Nat) (v : Int) : State := s.wr f i (wrapBits f.width v)

/-- Hardware sets the W1C flag in bit k of the register at address a and counts it in [8 (k + 1) + 7 : 8 (k + 1)],
which saturates at 255 (R14). -/
def State.flag (s : State) (a k : Nat) : State :=
  let w := s.regGet a
  let n := getField w (8 * (k + 1)) 8
  s.regPut a (setField (setField w k 1 1) (8 * (k + 1)) 8 (min 255 (n + 1)))

/-- Add n to a count field, saturating at its greatest value. -/
def State.satAdd (s : State) (f : Fld) (i n : Nat) : State :=
  s.wr f i (min (2 ^ f.width - 1) (s.rd f i + n))

/-- The value of a bit of a register pair or map at two addresses 4 bytes apart: bit j of the 64. -/
def State.mapBit (s : State) (lo hi : Fld) (i j : Nat) : Bool :=
  if j < 32 then (s.rd lo i).testBit j else (s.rd hi i).testBit (j - 32)

/-- A run of operations, one for each element of a list, in the order of the list. -/
def State.forEach {a : Type} (s : State) (l : List a) (f : State → a → State) : State := l.foldl f s

/-- An operation that applies only under a condition. -/
def State.when (s : State) (c : Bool) (f : State → State) : State := if c then f s else s

/-! ### Free values -/

/-- A free value below a bound, and the state with the free-value counter moved on (log entry 6). -/
def State.freeBelow (s : State) (bound : Nat) : Nat × State :=
  (Config.freeNat s.free % bound, { s with free := s.free + 1 })

/-! ### Arithmetic -/

/-- Division of an integer by a positive divisor, rounded to the nearest, a half to the even quotient. -/
def rhe (n : Int) (d : Nat) : Int :=
  let q := n / (d : Int)
  let r := n % (d : Int)
  if 2 * r < d then q else if 2 * r > d then q + 1 else if q % 2 = 0 then q else q + 1

/-- Hold a value between two limits. -/
def clampNat (lo hi x : Nat) : Nat := max lo (min hi x)

/-- Hold an integer between two limits. -/
def clampInt (lo hi x : Int) : Int := max lo (min hi x)

/-- Division of naturals rounded up. -/
def ceilDiv (n d : Nat) : Nat := (n + d - 1) / d

/-- The first multiple of m that is at least x. -/
def nextMultiple (m x : Nat) : Nat := ceilDiv x m * m

/-- The even-parity bit of a word of the given width. -/
def parityOf (width n : Nat) : Bool :=
  (List.range width).foldl (fun p i => p ^^ n.testBit i) false

/-! ### Clocks and network time -/

/-- n sample periods pass: the counter counts them when it runs (R302), and the slow tick moves on every millisecond
(R27). -/
def State.pass (s : State) (n : Nat) : State :=
  let c := s.clk
  let ph := c.phase + n * 1000
  { s with clk := { c with
      count := if c.running then c.count + n else c.count
      phase := ph % c.fs
      tick := c.tick + ph / c.fs } }

/-- Time passes until the sample counter has reached n: the command says that its time has come (log entry 4). -/
def State.toCount (s : State) (n : Nat) : State :=
  if s.clk.running then s.pass (n - s.clk.count) else s

/-- Time passes until slow tick t (log entry 4). -/
def State.toTick (s : State) (t : Nat) : State :=
  if s.clk.tick < t then s.pass (ceilDiv ((t - s.clk.tick) * s.clk.fs - s.clk.phase) 1000) else s

/-- The number of sample periods in n microseconds, rounded up. -/
def State.samplesUs (s : State) (n : Nat) : Nat := ceilDiv (n * s.clk.fs) 1000000

/-- The number of sample periods in n nanoseconds, rounded up. -/
def State.samplesNs (s : State) (n : Nat) : Nat := ceilDiv (n * s.clk.fs) 1000000000

/-- t_nom of a sample rate: round(2^32 * 10^9 / f_s) (R303). -/
def tNomOf (fs : Nat) : Nat := (rhe (2 ^ 32 * 1000000000) fs).toNat

/-- Network time in 2^-16 ns of the count num / den, the product formed exactly and the sum rounded half-even (R303). -/
def Tim.at_ (t : Tim) (num : Int) (den : Nat) : Int :=
  rhe (t.offset * (den * 2 ^ 56 : Nat) + num * t.tnom * (2 ^ 40 + t.rate)) (den * 2 ^ 56)

/-- Network time of a whole count (R303). -/
def State.timeOf (s : State) (n : Nat) : Int := s.tim.at_ n 1

/-- Network time now, in 2^-16 ns. -/
def State.now (s : State) : Int := s.timeOf s.clk.count

/-- A network time as T48 (R18). -/
def t48 (t : Int) : Nat := wrapBits 48 t

/-- T48 of now. -/
def State.nowT48 (s : State) : Nat := t48 s.now

/-- Network time now in whole nanoseconds. -/
def State.nowNs (s : State) : Int := s.now / 65536

/-! ### Location codes (R19, R49) -/

/-- The module ID in force (R66). -/
def State.moduleId (s : State) : Nat := s.rd F.MGT_MODULE_ID_ID

/-- A location code from its fields (R19). -/
def State.loc (s : State) (die region cluster unit : Nat) : Nat :=
  ((((s.moduleId * 16 + die) * 16 + region) * 16 + cluster) * 16) + unit

/-- The QF die of a channel. -/
def dieOfCh (ch : Nat) : Nat := ch / 32

/-- The global region of a channel. -/
def regionOf (ch : Nat) : Nat := ch / 16

/-- The location code of a channel's unit on its QF die. -/
def State.locUnit (s : State) (ch : Nat) : Nat := s.loc (ch / 32) (ch / 16) (ch / 4 % 4) (ch % 4)

/-- The location code of a per-channel function on CX (R20). -/
def State.locCxUnit (s : State) (ch : Nat) : Nat := s.loc 2 (ch / 16) (ch / 4 % 4) (ch % 4)

/-- The location code of a cluster on its QF die. -/
def State.locCluster (s : State) (g : Nat) : Nat := s.loc (g / 8) (g / 4) (g % 4) 15

/-- The location code of a region on its QF die. -/
def State.locRegion (s : State) (r : Nat) : Nat := s.loc (r / 2) r 15 15

/-- The location code of a whole die. -/
def State.locDie (s : State) (d : Nat) : Nat := s.loc d 15 15 15

/-- m.2.F.F.F -/
def State.locCx (s : State) : Nat := s.locDie 2

/-- m.3.F.F.F -/
def State.locKeeper (s : State) : Nat := s.locDie 3

/-- m.F.F.F.F -/
def State.locModule (s : State) : Nat := s.locDie 15

/-- Fields of a location code. -/
def locDieOf (l : Nat) : Nat := l / 4096 % 16
/-- The region field of a location code. -/
def locRegionOf (l : Nat) : Nat := l / 256 % 16

/-! ### Event counters (R438 to R441, R445) -/

/-- The value of a 48-bit counter held as a register pair. -/
def State.rdPair (s : State) (lo hi : Fld) (i : Nat) : Nat := s.rd lo i + 2 ^ 32 * s.rd hi i

/-- Store a value over a register pair. -/
def State.wrPair (s : State) (lo hi : Fld) (i v : Nat) : State :=
  (s.wr lo i (v % 2 ^ 32)).wr hi i (v / 2 ^ 32)

/-- Bit w of the sticky vector PMC_WRAP is set and WRAP_SEEN with it (R445). -/
def State.pmcWrapped (s : State) (j : Nat) : State :=
  (s.wr F.PMC_WRAP_WRAPPED (j / 32) (s.rd F.PMC_WRAP_WRAPPED (j / 32) ||| 2 ^ (j % 32))).flag F.PMC_EVT 0

/-- Add an amount to a counter modulo 2^48, noting a wrap (R438). DESIGN CHOICE: log entry 62. -/
def State.pmcAdd (s : State) (lo hi : Fld) (i j amount : Nat) : State :=
  let v := s.rdPair lo hi i + amount
  let s := s.wrPair lo hi i (v % 2 ^ 48)
  if 2 ^ 48 ≤ v then s.pmcWrapped j else s

/-- Does focus counter f take event e at location l (R441)? -/
def State.focusTakes (s : State) (f e l : Nat) : Bool :=
  ((e ^^^ s.rd F.PMC_FOCUS_CFG_EVENT f) &&& s.rd F.PMC_FOCUS_CFG_EV_MASK f) == 0
    && ((l % 65536 ^^^ s.rd F.PMC_FOCUS_LOC_LOC f) &&& s.rd F.PMC_FOCUS_LOC_LOC_MASK f) == 0

/-- Event e of an amount at a location: its counter and every focus counter that takes it add the amount (R438, R441). -/
def State.count (s : State) (e l amount : Nat) : State :=
  if amount = 0 then s else
    (s.pmcAdd F.PMC_CNT_LO_VALUE F.PMC_CNT_HI_VALUE e e amount).forEach (List.range 16) fun s f =>
      if s.focusTakes f e l then s.pmcAdd F.PMC_FOCUS_LO_VALUE F.PMC_FOCUS_HI_VALUE f (512 + f) amount else s

/-! ### Output queues (R227 to R241) -/

/-- The packet types that carry a T48 field. -/
def t48Types : List Nat := [0x0F, 0x11, 0x15, 0x19, 0x21, 0x22, 0x31, 0x41, 0x42, 0x43]

/-- A queue word from its fields, with even parity over its 68 bits (R227). -/
def mkQWord (data : LWord) (eop : Bool) (tag : Nat) : QWord :=
  let body := data.toNat + eop.toNat * 2 ^ 64 + tag % 4 * 2 ^ 65
  BitVec.ofNat 68 (body + (parityOf 67 body).toNat * 2 ^ 67)

/-- DATA of a queue word. -/
def qData (w : QWord) : LWord := BitVec.ofNat 64 w.toNat
/-- EOP of a queue word. -/
def qEop (w : QWord) : Bool := w.toNat.testBit 64
/-- TAG of a queue word. -/
def qTag (w : QWord) : Nat := w.toNat / 2 ^ 65 % 4
/-- PARITY of a queue word. -/
def qParity (w : QWord) : Bool := w.toNat.testBit 67
/-- Does the word pass the parity check of R229? -/
def qParityOk (w : QWord) : Bool := !parityOf 68 w.toNat

/-- The blank item that a read of an empty queue returns (R230). -/
def blankItem : QWord := 0xC0000000000000000

/-- A packet as it is stored: NORMAL words, EOP on the last (R227, R228). -/
def packetWords (ws : List LWord) : List QWord :=
  match ws with
  | [] => []
  | [w] => [mkQWord w true 0]
  | w :: rest => mkQWord w false 0 :: packetWords rest

/-- Capacity of queue q in words (R231). -/
def queueCap (q : Nat) : Nat :=
  if q = 0 then 2048 else if q = 1 then 32704 else if q = 2 then 64 else if q = 3 then 98304 else 24576

/-- Words stored or reserved in a queue (QUE_FILL, R243). -/
def Queue.fill (q : Queue) : Nat :=
  (q.waiting.map fun p => p.words.length).sum + q.readTotal + (q.progress.map fun p => p.2.2).sum

/-- Queue q of the module. -/
def State.queue (s : State) (q : Nat) : Queue := s.que.getD q {}

/-- Replace queue q. -/
def State.setQueue (s : State) (q : Nat) (x : Queue) : State := { s with que := s.que.set q x }

/-- Change queue q. -/
def State.onQueue (s : State) (q : Nat) (f : Queue → Queue) : State := s.setQueue q (f (s.queue q))

/-- QUE_HWM follows the highest fill (R243). -/
def State.hwm (s : State) (q : Nat) : State :=
  s.wr F.QUE_HWM_WORDS q (max (s.rd F.QUE_HWM_WORDS q) (s.queue q).fill)

/-- Does a packet of this TYPE carry a T48 field (R307)? They are: heartbeat (R307), occupancy and mask records (R158,
R165), cue record, marks and gap marks (R183, R186, R141), answer and data headers of readouts (R198, R200), snippet
headers (R188), telemetry (R433), dumps (R444) and tracer records (R448). -/
def t48Bearing (type : Nat) : Bool := t48Types.contains type

/-- A T48-bearing packet entered the queue of class 1 or class 3: the heartbeat interval of that class starts anew
(R307). -/
def State.noteT48 (s : State) (q : Nat) (p : Packet) : State :=
  if t48Bearing ((qData (p.words.headD 0)).toNat / 2 ^ 56) then
    (if q = 1 ∨ q = 2 then { s with tim := { s.tim with lastT48C1 := s.now } }
     else if q = 3 then { s with tim := { s.tim with lastT48C3 := s.now } } else s)
  else s

/-- A whole packet enters the waiting packets of its queue; its words are ready from now on (R232, R236). -/
def State.enqueue (s : State) (q : Nat) (p : Packet) : State :=
  ((s.onQueue q fun x => { x with waiting := x.waiting ++ [{ p with at_ := s.clk.count }] }).hwm q).noteT48 q p

/-- Blocked producers store their packets in turn while there is space (R233). -/
def State.unblock (s : State) (q : Nat) : State :=
  s.forEach (s.queue q).blocked fun s p =>
    if (s.queue q).blocked.head? = some p ∧ (s.queue q).fill + p.words.length ≤ queueCap q then
      (s.onQueue q fun x => { x with blocked := x.blocked.tail }).enqueue q p
    else s

/-! ### Incidents (R420 to R426) -/

/-- Faults without a lasting condition (R421, rule 3). -/
def fleetingCode (c : Nat) : Bool :=
  [0x1001, 0x1002, 0x1003, 0x2202, 0x2205, 0x2206, 0x3003, 0x3009].contains c

/-- Codes whose DETAIL names a lane or a path (R419), which must match too (R421, rule 2). -/
def detailNamesPath (c : Nat) : Bool :=
  [0x1003, 0x3001, 0x3002, 0x3003, 0x3004, 0x3008, 0x3101].contains c

/-- Station-wide events (R69, R419). -/
def stationCode (c : Nat) : Bool := [0x3008, 0x3101, 0x3102, 0x3103, 0x3104].contains c

/-- The dependents of a region root (R422). -/
def regionDependent (c : Nat) : Bool := [0x2001, 0x2201, 0x2202, 0x2203, 0x2204].contains c

/-- Is this the root of one region: its PLL, its bundle, or a rail fault of the region (R422)? -/
def regionRoot (c l : Nat) : Bool :=
  c = 0x2101 || c = 0x2103 || (c = 0x4301 && decide (locRegionOf l < 4))

/-- Does location l lie in the scope of QF die d (R422)? -/
def inDie (d l : Nat) : Bool :=
  (decide (locRegionOf l < 4) && locRegionOf l / 2 == d) || locDieOf l == d

/-- The path that the DETAIL of a report names: of a lane for 0x3001, else 0 or 1, 2 naming both (R419). -/
def namesPath (c d p : Nat) : Bool :=
  if c = 0x3001 then d / 12 == p else d == p || d == 2

/-- Does a root of code rc, location rl and DETAIL rd cover a report of code c, location l and DETAIL d (R422)?
DEDUCED (log entry 9): a report is no dependent of a root of its own code. -/
def foldsInto (rc rl rd c l d : Nat) : Bool :=
  rc != c &&
  (if regionRoot rc rl then regionDependent c && locRegionOf l == locRegionOf rl
   else if rc = 0x2110 then (regionRoot c l || regionDependent c) && inDie (locDieOf rl) l
   else if rc = 0x2120 ∨ rc = 0x2111 ∨ (rc = 0x4301 ∧ locDieOf rl = 2) then
     c / 4096 == 2 || [0x3001, 0x3002, 0x3003, 0x3004].contains c
   else if rc = 0x3008 then [0x3001, 0x3002, 0x3003, 0x3004, 0x3101].contains c && namesPath c d rd
   else if rc = 0x4504 then [0x4501, 0x4502, 0x4503].contains c
   else false)

/-- Does the code appear as a dependent in R422, so that its first report is held (R423)? -/
def heldCode (c l : Nat) : Bool :=
  c / 4096 == 2 || [0x3001, 0x3002, 0x3003, 0x3004, 0x3101, 0x4501, 0x4502, 0x4503].contains c || regionRoot c l

/-- Saturating 32-bit sum. -/
def satAdd32 (a b : Nat) : Nat := min 0xFFFFFFFF (a + b)

/-- Change entry e of the incident table. -/
def State.onInc (s : State) (e : Nat) (f : Incident → Incident) : State :=
  { s with fau := { s.fau with inc := s.fau.inc.modify e f } }

/-- Entry e of the incident table. -/
def State.incAt (s : State) (e : Nat) : Incident := s.fau.inc.getD e {}

/-- The open root that takes a report as a dependent, entry 255 left out (R421 rule 2, R422). -/
def State.rootFor (s : State) (c l d : Nat) : Option Nat :=
  (List.range 255).find? fun e =>
    let x := s.incAt e
    x.st == .opened && foldsInto x.code x.loc x.detail c l d

/-- The open incident of the report's own root (R421, rule 2). -/
def State.sameRoot (s : State) (c l d : Nat) : Option Nat :=
  (List.range 255).find? fun e =>
    let x := s.incAt e
    x.st == .opened && x.code == c && x.loc == l && (!detailNamesPath c || x.detail == d)

/-- The entry of the lowest INC_ID order among those that satisfy a test: the oldest by tick of opening, then by place. -/
def State.oldest (s : State) (ok : Incident → Bool) : Option Nat :=
  (List.range 255).foldl (fun best e =>
    if ok (s.incAt e) then
      match best with
      | none => some e
      | some b => if (s.incAt e).openTick < (s.incAt b).openTick then some e else some b
    else best) none

/-- The entry that a new incident takes: a FREE one, then the oldest PREVIOUS, then the oldest CLOSED or FOLDED whose
last report has been sent (R424). -/
def State.incAlloc (s : State) : Option Nat :=
  match s.oldest fun x => x.st == .free with
  | some e => some e
  | none =>
    match s.oldest fun x => x.previous && x.st != .opened with
    | some e => some e
    | none => s.oldest fun x => (x.st == .closed || x.st == .folded) && !x.pending

/-- Is the incident one that folds into a root just opened in entry r: open, of a dependent code in the scope, and
opened within the 10 ms before (R422)? -/
def State.foldsNow (s : State) (r e : Nat) : Bool :=
  let x := s.incAt e
  let y := s.incAt r
  e != r && x.st == .opened && decide (s.clk.tick - x.openTick ≤ 10)
    && foldsInto y.code y.loc y.detail x.code x.loc x.detail

/-- Close the incident of entry e into the root of entry r (R422); a reported one sends a CLOSED report (R426). -/
def State.foldInc (s : State) (r e : Nat) : State :=
  let n := (s.incAt e).count
  let id := (s.incAt r).id
  (s.onInc e fun x =>
    { x with st := .folded, root := id, tLast := s.nowT48, held := false, pending := x.sentTick.isSome }).onInc r
      fun x => { x with count := satAdd32 x.count n }

/-- A uniform random delay of 0 to 5 ms in ns (R69, step 3), a free value. -/
def State.stationDelay (s : State) : Nat × State := s.freeBelow 5000001

/-- The start in ns of the reporting interval of a station-wide event seen at ns t (R69, step 2): the first interval
in which the module may report and whose end lies at least 5 ms after t. A module that has not acquired time since its last
reset reports in the interval in which it sees the event. -/
def State.reportInterval (s : State) (t : Nat) : Nat :=
  let k := t / 100000000
  if s.tim.acquiredOnce then
    let k0 := if (k + 1) * 100000000 < t + 5000000 then k + 1 else k
    let m := 2 ^ s.rd F.FAU_STATION_CTL_GROUP_BITS
    (k0 + (s.moduleId + m - k0 % m) % m) * 100000000
  else k * 100000000

/-- Open an incident in entry e (R421 rule 1, R69, R423). A module that has not acquired time sends at its sight plus its delay, in
the last 5 ms of an interval after its end too. DESIGN CHOICE: log entry 89. -/
def State.openInc (s : State) (e c l d : Nat) : State :=
  let id := s.rd F.FAU_STAT_NEXT_ID
  let t := s.nowNs.toNat
  let (delay, s) := if stationCode c then s.stationDelay else (0, s)
  let s := s.onInc e fun _ =>
    { id := id, code := c, loc := l, tFirst := s.nowT48, st := .opened, station := stationCode c,
      pending := !heldCode c l, tLast := s.nowT48, count := 1, detail := d, openTick := s.clk.tick,
      lastTick := s.clk.tick, held := heldCode c l, lasting := !fleetingCode c, seenNs := t,
      dueNs := if stationCode c then max t (s.reportInterval t) + delay else 0 }
  let s := s.wr F.FAU_STAT_NEXT_ID 0 (if id = 65535 then 1 else id + 1)
  let s := (s.flag F.FAU_EVT 0).count 0x190 l 1
  s.forEach ((List.range 255).filter fun x => s.foldsNow e x) fun s x => s.foldInc e x

/-- With no entry to take, a report counts in the overflow incident of entry 255 (R424). -/
def State.incOverflow (s : State) : State :=
  let fresh := (s.incAt 255).st != .opened
  let id := s.rd F.FAU_STAT_NEXT_ID
  let s := s.onInc 255 fun x =>
    if fresh then
      { id := id, code := 0x6001, loc := s.locCx, tFirst := s.nowT48, st := .opened, pending := true,
        tLast := s.nowT48, count := 1, detail := 1, openTick := s.clk.tick, lastTick := s.clk.tick }
    else { x with count := satAdd32 x.count 1, detail := satAdd32 x.count 1, tLast := s.nowT48,
                  lastTick := s.clk.tick, pending := true }
  let s := if fresh then
      ((s.wr F.FAU_STAT_NEXT_ID 0 (if id = 65535 then 1 else id + 1)).flag F.FAU_EVT 0).count 0x190 s.locCx 1
    else s
  (s.flag F.FAU_EVT 1).wr F.FAU_STAT_OVERFLOW 0 1

/-- A fault report reaches the fault unit (R421, R422, R424). DEDUCED (log entry 9): a folded report counts in its root
and keeps it open, and leaves the root's T_LAST and DETAIL as they are. -/
def State.report (s : State) (c l d : Nat) : State :=
  match s.rootFor c l d with
  | some r => s.onInc r fun x =>
      { x with count := satAdd32 x.count 1, lastTick := s.clk.tick, pending := !x.held }
  | none =>
    match s.sameRoot c l d with
    | some e => s.onInc e fun x =>
        { x with count := satAdd32 x.count 1, detail := if c = 0x3009 then satAdd32 x.count 1 else d,
                 tLast := s.nowT48, lastTick := s.clk.tick, lasting := !fleetingCode c, pending := !x.held }
    | none =>
      match s.incAlloc with
      | some e => s.openInc e c l d
      | none => s.incOverflow

/-- The condition of the open incidents of a root has cleared, so that they can close (R421, rule 3). -/
def State.conditionOver (s : State) (c l : Nat) : State :=
  { s with fau := { s.fau with inc := s.fau.inc.map fun x =>
      if x.st == .opened && x.code == c && x.loc == l then { x with lasting := false, lastTick := s.clk.tick } else x } }

/-- The same, for a root whose DETAIL names its lane or path. -/
def State.conditionOverAt (s : State) (c l d : Nat) : State :=
  { s with fau := { s.fau with inc := s.fau.inc.map fun x =>
      if x.st == .opened && x.code == c && x.loc == l && x.detail == d then
        { x with lasting := false, lastTick := s.clk.tick } else x } }

/-- A configuration fault: a refused configuration write (R419, 0x1001). -/
def State.configFault (s : State) (l addr : Nat) : State := s.report 0x1001 l addr

/-! ### Storing packets -/

/-- A TIME frame of one path enters the class 0 queue (R289, R310). -/
def State.pushTime (s : State) (path : Nat) (ws : List LWord) : State :=
  let p : Packet := { words := packetWords ws, at_ := s.clk.count, ftype := 0x08, only := some path }
  if (s.queue 0).fill + ws.length ≤ queueCap 0 then s.enqueue 0 p
  else ((s.satAdd F.QUE_DISCARD_COUNT 0 1).flag F.QUE_EVT 1).report 0x3009 s.locCx 1

/-- A SAFETY telegram enters the class 0 queue (R296), for the paths given: both, or one alone. -/
def State.pushSafety (s : State) (only : Option Nat) (ws : List LWord) : State :=
  let p : Packet := { words := packetWords ws, at_ := s.clk.count, ftype := 0x09, only := only }
  if (s.queue 0).fill + ws.length ≤ queueCap 0 then s.enqueue 0 p
  else ((s.satAdd F.QUE_DISCARD_COUNT 0 1).flag F.QUE_EVT 1).report 0x3009 s.locCx 1

/-- A producer stores a packet in queue q. With no space, a class 0 item is discarded and reported (R233); a producer
of class 1 or 3 waits. -/
def State.pushPkt (s : State) (q : Nat) (p : Packet) : State :=
  if (s.queue q).blocked = [] ∧ (s.queue q).fill + p.words.length ≤ queueCap q then s.enqueue q p
  else if q = 0 then
    ((s.satAdd F.QUE_DISCARD_COUNT 0 1).flag F.QUE_EVT 1).report 0x3009 s.locCx 1
  else (s.onQueue q fun x => { x with blocked := x.blocked ++ [p] }).flag F.QUE_EVT 1

/-- A packet that its location code steers (R288) is stored in queue q. -/
def State.push (s : State) (q : Nat) (ws : List LWord) : State :=
  s.pushPkt q { words := packetWords ws, at_ := s.clk.count }

/-- A packet steered by a channel, or by none, is stored in queue q (R288). -/
def State.pushSteered (s : State) (q : Nat) (ch : Option Nat) (ws : List LWord) : State :=
  s.pushPkt q { words := packetWords ws, at_ := s.clk.count, steer := some ch }

/-- A 64-bit packet word from fields, each with its lowest bit. -/
def word64 (fields : List (Nat × Nat)) : LWord :=
  BitVec.ofNat 64 (fields.foldl (fun w p => w + p.2 * 2 ^ p.1) 0)

end Sys2Proof.Machine
end

