-- ==== Sys2Proof/Machine/Admission.lean ====
section
/-! DEFINITION. Admission (R37, R38): the class 2 demand of each path and the limit it is held against, with the factor
of memory delivery (R338). -/

namespace Sys2Proof.Machine

/-- What the demand of class 2 depends on: channel enables and stream enables as maps of 64 bits, the mode and DECIM of
each channel, the class 2 policy and SPLIT_MAP, the lane enables as a map of 24 bits, the rate codes, and memory
delivery. -/
structure AdmitCfg where
  units : Nat
  on : Nat
  modes : List Nat
  decims : List Nat
  policy : Nat
  split : Nat
  lanes : Nat
  rateA : Nat
  rateB : Nat
  inMem : Bool
  memPath : Nat

/-- The length of a stream packet in words (R211), 0 for a channel that is not streamed. -/
def packetLen (mode : Nat) : Nat := if 2 ≤ mode ∧ mode ≤ 5 then 16 * mode + 9 else 0

/-- The size of a Sage S block in bits (R205). -/
def blockBits (mode : Nat) : Nat := 32 + 64 * mode

/-- A map of n bits from the bit of each index. -/
def bitMap (n : Nat) (bit : Nat → Bool) : Nat :=
  (List.range n).foldl (fun m i => if bit i then m + 2 ^ i else m) 0

/-- Enabled units (R51) as a map of 64 bits. -/
def State.unitMap (s : State) : Nat := s.rd F.AFE_UNIT_EN_EN 0 + 2 ^ 32 * s.rd F.AFE_UNIT_EN_EN 1

/-- The configuration that a change is judged against: what is in effect, with a waiting APPLY in place of the active
modes (R224). -/
def State.admitCfg (s : State) : AdmitCfg :=
  { units := s.unitMap
    on := match s.stream.pend with
      | some (_, en, _, _) => if en then 0xFFFFFFFFFFFFFFFF else 0
      | none => s.stream.on
    modes := match s.stream.pend with
      | some (m, _, _, _) => m
      | none => (List.range 64).map fun ch => s.rd F.CDC_STREAM_MODE_ACTIVE ch
    decims := (List.range 64).map fun ch => s.rd F.FLT_CHAIN_DECIM ch
    policy := s.rd F.LNK_CLASS_POL_C2_POL
    split := s.rd F.LNK_CLASS_POL_SPLIT_MAP
    lanes := bitMap 24 fun n => s.rdB F.LNK_LANE_CTL_EN n || n == 0 || n == 12
    rateA := s.rd F.LNK_PATH_CFG_RATE_A
    rateB := s.rd F.LNK_PATH_CFG_RATE_B
    inMem := s.rdB F.PRM_DELIVERY_C2_MEM && s.rdB F.PRM_STAT_COMMITTED
    memPath := s.rd F.LNK_MEM_CFG_PATH }

/-- Does sub-queue g send on path p under a class 2 policy (R287, R288)? In memory it goes on the memory path (R338). -/
def AdmitCfg.takes (c : AdmitCfg) (g p : Nat) : Bool :=
  if c.inMem then c.memPath == p
  else if c.policy = 0 then true
  else if c.policy = 1 then p == 0
  else if c.policy = 2 then p == 1
  else c.split.testBit g == (p == 1)

/-- The class 2 demand of channel ch in units of f_s / (31 * 8192) bits (R37, R338): the packet bits over the 1024 * D
samples, times 32 (W + 1) / (31 W) in memory. -/
def AdmitCfg.channelDemand (c : AdmitCfg) (ch : Nat) : Nat :=
  let w := packetLen (c.modes.getD ch 0)
  if c.units.testBit ch && c.on.testBit ch && w != 0 then
    64 * (8 / 2 ^ c.decims.getD ch 0) * (if c.inMem then 32 * (w + 1) else 31 * w)
  else 0

/-- The class 2 demand of a path, in the same units. -/
def AdmitCfg.demand (c : AdmitCfg) (p : Nat) : Nat :=
  ((List.range 64).map fun ch => if c.takes (ch / 8) p then c.channelDemand ch else 0).sum

/-- Lane rate code in Gbit/s (R269). -/
def rateOf (code : Nat) : Nat := if code = 0 then 10 else if code = 1 then 20 else 32

/-- Lanes of a path in the lane set. -/
def AdmitCfg.nLanes (c : AdmitCfg) (p : Nat) : Nat :=
  ((List.range 12).filter fun i => c.lanes.testBit (12 * p + i)).length

/-- Does the demand of path p exceed 98% of its payload capacity n_lanes * rate * 0.9401 (R37, R38)? -/
def AdmitCfg.exceeds (c : AdmitCfg) (fs p : Nat) : Bool :=
  decide (31 * 8192 * 98 * 9401 * c.nLanes p * rateOf (if p = 0 then c.rateA else c.rateB) * 1000000000
    < fs * c.demand p * 1000000)

/-- The path that refuses a configuration: 0, 1, or 2 for both (R38). -/
def AdmitCfg.refusedBy (c : AdmitCfg) (fs : Nat) : Option Nat :=
  if c.exceeds fs 0 then (if c.exceeds fs 1 then some 2 else some 0)
  else if c.exceeds fs 1 then some 1 else none

/-- The configuration fault of a refused stream configuration (R38, R419). -/
def State.admitFault (s : State) (path : Nat) : State := s.report 0x1003 s.locCx path

/-- A configuration change after admission has judged it: refused by a path, or accepted (R38). -/
def State.judge (s : State) (verdict : Option Nat) (refused : State → Nat → State) (accepted : State → State) : State :=
  match verdict with
  | some p => refused s p
  | none => accepted s

end Sys2Proof.Machine
end

