-- ==== Sys2Proof/Machine/Sage.lean ====
section
/-! DEFINITION. The Sage block codec (R203 to R216): block headers, fixed-ratio and lossless coding, their decoders, and
the packing of blocks into packets and segments (R207, R211, R215). -/

namespace Sys2Proof.Machine

/-! ### Bits -/

/-- The low n bits of a value, most significant first (R207). -/
def fieldBits (n v : Nat) : List Bool := (List.range n).map fun i => v.testBit (n - 1 - i)

/-- A signed value in n bits of two's complement, most significant first. -/
def signedBits (n : Nat) (v : Int) : List Bool := fieldBits n (wrapBits n v)

/-- The value of bits, most significant first. -/
def bitsVal (bits : List Bool) : Nat := bits.foldl (fun v b => 2 * v + b.toNat) 0

/-- Bits packed into 64-bit words from bit 63 down, zeros filling the last word (R215). n bounds the words. -/
def packWords (bits : List Bool) : Nat → List LWord
  | 0 => []
  | n + 1 =>
    if bits.isEmpty then []
    else
      let w := bits.take 64
      BitVec.ofNat 64 (bitsVal (w ++ List.replicate (64 - w.length) false)) :: packWords (bits.drop 64) n

/-- All of a run of bits, packed (R215). -/
def packBits (bits : List Bool) : List LWord := packWords bits (bits.length / 64 + 1)

/-! ### Block headers (R204 to R206) -/

/-- Flag bits of a block header, counted from bit 12 (R206). -/
def flagRateReduced : Nat := 0
def flagRehearsal : Nat := 1
def flagVerifyFail : Nat := 2
def flagPoison : Nat := 3
def flagMask : Nat := 4
def flagSettle : Nat := 5
def flagRangeChg : Nat := 6
def flagCue : Nat := 7

/-- FLAGS of a block header from its flags (R206). -/
def flagsByte (cue rangeChg settle mask poison verifyFail rehearsal rateReduced : Bool) : Nat :=
  rateReduced.toNat * 2 ^ flagRateReduced + rehearsal.toNat * 2 ^ flagRehearsal + verifyFail.toNat * 2 ^ flagVerifyFail
    + poison.toNat * 2 ^ flagPoison + mask.toNat * 2 ^ flagMask + settle.toNat * 2 ^ flagSettle
    + rangeChg.toNat * 2 ^ flagRangeChg + cue.toNat * 2 ^ flagCue

/-- A block header (R204). -/
def sageHeader (mode exp range flags chg : Nat) : Nat :=
  mode * 2 ^ 28 + exp * 2 ^ 24 + range % 16 * 2 ^ 20 + flags % 256 * 2 ^ 12 + chg % 64 * 2 ^ 6

/-! ### Fixed-ratio coding (R208, R209) -/

/-- The mantissa of a sample at exponent e. -/
def sMant (e : Nat) (x : Int) : Int := rhe x (2 ^ e)

/-- Does every mantissa at exponent e fit into m bits (R208)? -/
def sFits (m e : Nat) (xs : List Int) : Bool :=
  xs.all fun x => decide (-(2 ^ (m - 1) : Nat) ≤ sMant e x ∧ sMant e x ≤ (2 ^ (m - 1) : Nat) - 1)

/-- The smallest exponent at which every rounded sample fits, at most 11 (R208). -/
def sExp (m : Nat) (xs : List Int) : Nat := ((List.range 12).find? fun e => sFits m e xs).getD 11

/-- The sample that a decoder reconstructs (R209). -/
def sDecode (e : Nat) (q : Int) : Int := clampInt (-2048) 2047 (q * 2 ^ e)

/-- The payload of a fixed-ratio block (R208). -/
def sPayload (m : Nat) (xs : List Int) : List Bool :=
  xs.flatMap fun x => signedBits m (sMant (sExp m xs) x)

/-! ### Lossless coding (R213, R214) -/

/-- A difference folded to a natural number (R213). -/
def zigzag (d : Int) : Nat := if 0 ≤ d then (2 * d).toNat else (-2 * d - 1).toNat

/-- The difference that a folded number stands for (R214). -/
def unzigzag (u : Nat) : Int := if u % 2 = 0 then (u / 2 : Nat) else -((u + 1) / 2 : Nat)

/-- The folded differences of a block (R213). -/
def riceDiffs : List Int → List Nat
  | x :: y :: rest => zigzag (y - x) :: riceDiffs (y :: rest)
  | _ => []

/-- size[k] of a block (R213). -/
def riceSize (k : Nat) (us : List Nat) : Nat := 12 + (us.map fun u => u / 2 ^ k + 1 + k).sum

/-- The smallest k from 0 to 13 with size[k] minimal (R213). -/
def riceK (us : List Nat) : Nat :=
  (List.range 14).foldl (fun best k => if riceSize k us < riceSize best us then k else best) 0

/-- The Rice code of one folded difference (R213). -/
def riceCode (k u : Nat) : List Bool := List.replicate (u / 2 ^ k) true ++ false :: fieldBits k u

/-- The mode, exponent and payload of a Sage L block (R213). -/
def lPayload (xs : List Int) : Nat × Nat × List Bool :=
  let us := riceDiffs xs
  let k := riceK us
  if riceSize k us ≤ 768 then (8, k, signedBits 12 (xs.headD 0) ++ us.flatMap (riceCode k))
  else (9, 0, xs.flatMap (signedBits 12))

/-- The one bits before the next zero bit, and what follows that zero (R214). -/
def unaryRun : List Bool → Nat × List Bool
  | [] => (0, [])
  | true :: rest => let r := unaryRun rest; (r.1 + 1, r.2)
  | false :: rest => (0, rest)

/-- The samples of n Rice codes after sample x (R214). -/
def riceDecode (k : Nat) (x : Int) : Nat → List Bool → List Int
  | 0, _ => []
  | n + 1, bits =>
    let r := unaryRun bits
    let y := x + unzigzag (r.1 * 2 ^ k + bitsVal (r.2.take k))
    y :: riceDecode k y n (r.2.drop k)

/-- The signed values of n fields of w bits. -/
def fieldDecode (w : Nat) : Nat → List Bool → List Int
  | 0, _ => []
  | n + 1, bits => signed w (bitsVal (bits.take w)) :: fieldDecode w n (bits.drop w)

/-- The samples of a Sage L block of n samples (R214). -/
def lDecode (n mode k : Nat) (bits : List Bool) : List Int :=
  if mode = 9 then fieldDecode 12 n bits
  else
    match n with
    | 0 => []
    | n + 1 =>
      let x := signed 12 (bitsVal (bits.take 12))
      x :: riceDecode k x n (bits.drop 12)

/-! ### Whole blocks (R205, R207, R216) -/

/-- What a block header says beside its coding: RANGE, the flags but VERIFY_FAIL, and CHG_INDEX. -/
structure BlockAttr where
  range : Nat := 0
  cue : Bool := false
  rangeChg : Bool := false
  settle : Bool := false
  mask : Bool := false
  poison : Bool := false
  rehearsal : Bool := false
  rateReduced : Bool := false
  chg : Nat := 0
  deriving DecidableEq, Repr

/-- The header bits of a block that did or did not pass verification (R204, R206, R216). -/
def headerBits (mode exp : Nat) (a : BlockAttr) (bad : Bool) : List Bool :=
  fieldBits 32 (sageHeader mode exp a.range
    (flagsByte a.cue a.rangeChg a.settle a.mask (a.poison || bad) bad a.rehearsal a.rateReduced) a.chg)

/-- What goes wrong at a block (R216): the coded payload bits that come out inverted, by place, and whether the second decoder
errs. -/
structure Upset where
  flips : List Nat := []
  bad : Bool := false
  deriving DecidableEq, Repr, Inhabited

/-- A coded payload as it leaves the encoder. -/
def Upset.on (u : Upset) (bits : List Bool) : List Bool :=
  if u.flips.isEmpty then bits else bits.zipIdx.map fun p => xor p.1 (u.flips.contains p.2)

/-- Does the second decoder find a block good: a Sage L block decodes to its samples, an S block to samples within half a step
of them (R209, R214, R216)? -/
def verifies (mode : Nat) (xs : List Int) (u : Upset) : Bool :=
  if mode = 8 then
    let p := lPayload xs
    lDecode xs.length p.1 p.2.1 (u.on p.2.2) == xs
  else
    let e := sExp mode xs
    ((fieldDecode mode xs.length (u.on (sPayload mode xs))).zipWith
      (fun q x => decide (2 * (x - sDecode e q).natAbs ≤ 2 ^ e)) xs).all id

/-- Does a block fail its verification (R216)? -/
def blockFails (mode : Nat) (xs : List Int) (u : Upset) : Bool := u.bad || !verifies mode xs u

/-- A coded block: header and payload (R204, R207). One that fails its verification is sent as coded in an S mode, in mode
0x9 in Sage L, both with VERIFY_FAIL and POISON (R216). DEDUCED: log entry 53. -/
def codeBlock (mode : Nat) (xs : List Int) (a : BlockAttr) (u : Upset) : List Bool :=
  let fails := blockFails mode xs u
  if mode = 8 then
    (if fails then headerBits 9 0 a true ++ xs.flatMap (signedBits 12)
     else let p := lPayload xs; headerBits p.1 p.2.1 a false ++ u.on p.2.2)
  else headerBits mode (sExp mode xs) a fails ++ u.on (sPayload mode xs)

/-- What goes wrong at the blocks of a job (R216): inverted bits by channel, block and place, and the blocks at which the second
decoder errs. -/
structure Upsets where
  flips : List (Nat × Nat × Nat) := []
  bad : List (Nat × Nat) := []
  deriving DecidableEq, Repr, Inhabited

/-- What goes wrong at one block of a job. -/
def Upsets.at (u : Upsets) (ch blk : Nat) : Upset :=
  { flips := (u.flips.filter fun p => p.1 == ch && p.2.1 == blk).map fun p => p.2.2, bad := u.bad.contains (ch, blk) }

/-- The largest size of a block of a mode in bits (R205, R220). -/
def blockReserve (mode : Nat) : Nat := if mode = 8 then 800 else 32 + 64 * mode

/-- The header word of a stream packet (R211). -/
def streamHeader (ch decim mode n0 : Nat) : LWord :=
  word64 [(58, ch), (56, decim), (52, mode), (0, n0 / 1024 % 2 ^ 50)]

/-- A segment packet: its first word, and its blocks packed (R188, R200, R215, R219). -/
def segmentWords (type ch first : Nat) (blocks : List (List Bool)) : List LWord :=
  word64 [(56, type), (50, ch), (45, blocks.length), (0, first % 2 ^ 40)] :: packBits blocks.flatten

/-! ### Ring blocks (R170) -/

/-- A ring block from 64 samples (R170). -/
def ringBlockOf (xs : List Int) : RingBlock :=
  BitVec.ofNat 768 (xs.reverse.foldl (fun w x => w * 4096 + wrapBits 12 x) 0)

/-- The 64 samples of a ring block (R170). -/
def ringSamples (b : RingBlock) : List Int :=
  (List.range 64).map fun i => signed 12 (b.toNat / 2 ^ (12 * i))

/-- A word of an attribute log entry from its attributes and first count (R170). -/
def logWord (attr n : Nat) : Word := BitVec.ofNat 32 (attr * 2 ^ 24 + n / 64 % 2 ^ 20)

/-- The attributes of a raw block: POISON, REHEARSAL, SETTLE, RANGE_CHG and the range code (R170). -/
def attrOf (poison rehearsal settle rangeChg : Bool) (range : Nat) : Nat :=
  poison.toNat * 128 + rehearsal.toNat * 64 + settle.toNat * 32 + rangeChg.toNat * 16 + range % 16

/-- The header attributes of a block coded from the ring (R206). -/
def ringAttr (attr : Nat) : BlockAttr :=
  { range := attr % 16, poison := attr.testBit 7, rehearsal := attr.testBit 6, settle := attr.testBit 5,
    rangeChg := attr.testBit 4 }

end Sys2Proof.Machine
end

