-- ==== Sys2Proof/Machine/Blocks.lean ====
section
/-! DEFINITION. Channels as they run: who produces samples (R51, R60), the boundaries at which changes take effect (R76,
R128, R135), and the marked spans of a channel's counts with the flags that raw blocks, stream blocks and spectrum frames
take from them (R78, R79, R92, R110, R121, R128, R132, R135, R141, R482). -/

namespace Sys2Proof.Machine

/-! ### Channels and regions -/

/-- Channel ch. -/
def State.chan (s : State) (ch : Nat) : Chan := s.chans.getD ch {}

/-- Change channel ch. -/
def State.onChan (s : State) (ch : Nat) (f : Chan → Chan) : State := { s with chans := s.chans.modify ch f }

/-- Region r. -/
def State.region (s : State) (r : Nat) : Region := s.regions.getD r {}

/-- Change region r. -/
def State.onRegion (s : State) (r : Nat) (f : Region → Region) : State := { s with regions := s.regions.modify r f }

/-- Does a region run: powered, its PLL locked, and neither failed, nor shed, nor powered down by heat (R60, R62)? -/
def Region.live (r : Region) : Bool := r.powered && r.locked && !r.failed && !r.thermal && !r.shed

/-- Change the data plane. -/
def State.onPlane (s : State) (f : Plane → Plane) : State := { s with plane := f s.plane }

/-- Is unit ch enabled in effect (R51, R52)? -/
def State.unitOn (s : State) (ch : Nat) : Bool := s.plane.unitOn.testBit ch

/-- Does channel ch produce samples: ingest runs, its unit is enabled and its region lives (R51, R60)? -/
def State.producing (s : State) (ch : Nat) : Bool :=
  s.plane.ingest && s.unitOn ch && (s.region (regionOf ch)).live

/-- The 16 channels of a region (R50). -/
def regionChans (r : Nat) : List Nat := (List.range 16).map fun i => 16 * r + i

/-- The 4 channels of a cluster (R49). -/
def clusterChans (g : Nat) : List Nat := (List.range 4).map fun i => 4 * g + i

/-- All channels. -/
def allChans : List Nat := List.range 64

/-- The stage in force (R392). -/
def State.stage (s : State) : Nat := s.rd F.PWR_STAGE_STAGE

/-- F, half the FIR order, of an ORDER code (R79, R134). -/
def halfOrder (code : Nat) : Nat := if code = 0 then 12 else if code = 1 then 24 else 48

/-- D of channel ch in force (R125). -/
def State.decimOf (s : State) (ch : Nat) : Nat := 2 ^ (s.chan ch).decim

/-- F of channel ch in force. -/
def State.firHalf (s : State) (ch : Nat) : Nat := halfOrder (s.chan ch).order

/-- Is channel ch in the second zone, as AFE_ZONE stood at start-up (R74)? -/
def State.secondZone (s : State) (ch : Nat) : Bool := s.plane.zone.testBit ch

/-! ### Boundaries -/

/-- The first multiple of m at least 32 samples after count n (R76, R119, R128, R135, R144, R155). -/
def boundaryAfter (m n : Nat) : Nat := nextMultiple m (n + 32)

/-- A latency in ns within the 0.10 to 0.50 us in which a write reaches a channel (R77, R107, R120, R128), in samples. -/
def State.reach (s : State) (ns : Nat) : Nat := s.clk.count + s.samplesNs (clampNat 100 500 ns)

/-- The channels that a request occupies. -/
def Inject.chans (x : Inject) : List Nat := if x.skew then clusterChans (x.ch / 4) else [x.ch]

/-- The length of a request's window (R119, R129). -/
def Inject.len (x : Inject) : Nat := if x.skew then 16384 else 1024

/-- The windows of a cluster's queue, with the channels of each: the head's as it is assigned, and those behind it where the
end of the one before lets them start (R119). -/
def injWindows (q : List Inject) : List (List Nat × Nat × Nat) :=
  match q with
  | [] => []
  | x :: rest =>
    match x.ni with
    | none => []
    | some a =>
      (rest.foldl (fun (acc : List (List Nat × Nat × Nat) × Nat) y =>
        let n := max y.least (nextMultiple 64 acc.2)
        (acc.1 ++ [(y.chans, n, n + y.len)], n + y.len)) ([(x.chans, a, a + x.len)], a + x.len)).1

/-- A boundary that falls inside an injected-conversion or skew-calibration window of the channel moves to the first
multiple of 64 after the window ends (R81, R128). -/
def State.clearOfInject (s : State) (ch n : Nat) : Nat :=
  (injWindows (s.adc.inj.getD (ch / 4) [])).foldl (fun n w =>
    if w.1.contains ch && decide (w.2.1 ≤ n ∧ n < w.2.2) then nextMultiple 64 w.2.2 else n) n

/-- A boundary for a change of range: clear of the windows, and in another stream block than the last change (R80, R81). -/
def State.rangeBoundary (s : State) (ch n : Nat) : Nat :=
  let nc := s.clearOfInject ch n
  let w := 64 * s.decimOf ch
  match (s.chan ch).ranges.head? with
  | some last =>
    if 2 ≤ (s.chan ch).ranges.length ∧ last.1 / w = nc / w then s.clearOfInject ch ((nc / w + 1) * w) else nc
  | none => nc

/-- The waiting changes of a channel move past a window that its cluster's queue has taken in or assigned (R81, R128,
R132). -/
def State.moveChanges (s : State) (ch : Nat) : State :=
  let clear := s.clearOfInject ch
  let range := s.rangeBoundary ch
  s.onChan ch fun c =>
    { c with rangeAt := c.rangeAt.map range, skewAt := c.skewAt.map clear, phaseAt := c.phaseAt.map clear
             notchAt := c.notchAt.map fun p => (clear p.1, p.2) }

/-! ### Spans -/

/-- Mark a span of a channel's counts. -/
def State.mark (s : State) (ch : Nat) (x : Span) : State := s.onChan ch fun c => { c with spans := x :: c.spans }

/-- The marks of the source that began at count a change: they end at another count, or their end widens by another F
(R110, R121). -/
def State.onSource (s : State) (ch a : Nat) (f : Span → Span) : State :=
  s.onChan ch fun c => { c with spans := c.spans.map fun y => if y.kind = .rehearsal ∧ y.a = a then f y else y }

/-- Does the raw block at n hold a count of the span? -/
def Span.onRaw (x : Span) (n : Nat) : Bool := x.raw && decide (x.a ≤ n + 63 ∧ n ≤ x.b)

/-- Does the stream block that begins at output count k0 hold an output sample that the span marks: a count from (a - F)
div D to (b + F) div D, or for a feed test pulse a sample of the window itself (R79, R92)? -/
def Span.onStream (x : Span) (d k0 : Nat) : Bool :=
  x.stream &&
    (if x.kind = .pulse then decide (ceilDiv x.a d ≤ k0 + 63 ∧ k0 ≤ x.b / d ∧ ceilDiv x.a d ≤ x.b / d)
     else decide ((x.a - x.f) / d ≤ k0 + 63 ∧ k0 ≤ (x.b + x.fe.getD x.f) / d))

/-- Does a kind of span make a block carry SETTLE? -/
def SpanKind.settles : SpanKind → Bool
  | .rangeSettle => true
  | .settle => true
  | .pulse => true
  | .rangeChg => false
  | .rehearsal => false
  | .poison => false

/-- The range code of channel ch at raw count n (R78): that of the last change at or before n. -/
def Chan.rangeAtCount (c : Chan) (n : Nat) : Nat :=
  match c.ranges.find? fun p => decide (p.1 ≤ n) with
  | some p => p.2
  | none => c.range

/-- The attributes of the raw block at n (R78, R110, R121, R128, R170, R482). -/
def Chan.rawAttr (c : Chan) (n : Nat) : Nat :=
  attrOf (c.spans.any fun x => x.kind == .poison && x.onRaw n)
    (c.spans.any fun x => x.kind == .rehearsal && x.onRaw n)
    (c.spans.any fun x => x.kind.settles && x.onRaw n)
    (c.spans.any fun x => x.kind == .rangeChg && decide (x.a = n))
    (c.rangeAtCount n)

/-- The range change whose index falls into the stream block at output count k0 (R79, R80). -/
def Chan.changeIn (c : Chan) (d k0 : Nat) : Option Nat :=
  (c.spans.find? fun x => x.kind == .rangeChg && decide (k0 ≤ x.a / d ∧ x.a / d ≤ k0 + 63)).map fun x => x.a / d % 64

/-- Does a MASK period of the channel hold an output sample of the stream block (R164)? -/
def Chan.maskOn (c : Chan) (d k0 : Nat) : Bool :=
  c.masks.any fun p =>
    decide (p.2.1 ≤ (k0 + 63) * d) &&
      (match p.2.2 with
       | some e => decide (ceilDiv (max p.2.1 (k0 * d)) d * d < e)
       | none => true)

/-- Do stream blocks whose first raw count is n carry RATE_REDUCED (R43, R46)? -/
def State.reducedAt (s : State) (n : Nat) : Bool :=
  s.plane.reduced.any fun p => decide (p.1 ≤ n) && (p.2.all fun e => decide (n < e))

/-- The header attributes of the stream block of channel ch that begins at output count k0 (R79, R206). -/
def State.streamAttr (s : State) (ch d k0 : Nat) (cue : Bool) : BlockAttr :=
  let c := s.chan ch
  let chg := c.changeIn d k0
  { range := c.rangeAtCount ((k0 + 63) * d)
    cue := cue
    rangeChg := chg.isSome
    settle := c.spans.any fun x => x.kind.settles && x.onStream d k0
    mask := c.maskOn d k0
    poison := c.spans.any fun x => x.kind == .poison && x.onStream d k0
    rehearsal := c.spans.any fun x => x.kind == .rehearsal && x.onStream d k0
    rateReduced := s.reducedAt (k0 * d)
    chg := chg.getD 0 }

/-! ### Frame marks (R141) -/

/-- Does a span touch the counts from a to b? -/
def Span.touches (x : Span) (a b : Nat) : Bool := x.raw && decide (x.a / 64 * 64 ≤ b ∧ a ≤ x.b / 64 * 64 + 63)

/-- The mark of frame m of channel ch: INCOMPLETE while its span reaches before the first sample, FLAGGED, CLIPPED, CLEAN
(R141, R144, R145). -/
def State.frameMark (s : State) (ch m : Nat) : Nat :=
  let c := s.chan ch
  let a := 8192 * (m - 3)
  let b := 8192 * m + 8191
  let from_ := max (c.since.getD 0) (s.chn.start.getD 0)
  if m < 3 ∨ a < from_ then 3
  else if c.spans.any (fun x => x.touches a b)
      || (match s.chn.swapped with | some n => decide (a < n ∧ n ≤ b) | none => false) then 2
  else if c.clipBlocks.any fun n => decide (a ≤ n ∧ n ≤ b) then 1
  else 0

/-- Is a sample of the channel skipped by its impulse detector: in a settling window of a range change, in a test-pulse
window, in a POISON block or in a REHEARSAL block (R82, R110, R174)? -/
def Chan.skips (c : Chan) (n : Nat) : Bool :=
  c.spans.any fun x =>
    match x.kind with
    | .rangeSettle => decide (x.a ≤ n ∧ n ≤ x.b)
    | .pulse => decide (x.a ≤ n ∧ n ≤ x.b)
    | .poison => decide (x.a ≤ n ∧ n ≤ x.b)
    | .rehearsal => x.onRaw (n / 64 * 64)
    | .rangeChg => false
    | .settle => false

end Sys2Proof.Machine
end

