-- ==== Sys2Proof/Machine/Jobs.lean ====
section
/-! DEFINITION. A codec job by itself (R217 to R220): its descriptor, the order of its blocks, and the coding of the blocks it
read into segments with the fit test. -/

namespace Sys2Proof.Machine

/-! ### Descriptors (R217, R222) -/

/-- MODE of a codec descriptor. -/
def CJob.mode (j : CJob) : Nat := (j.words.getD 0 0).toNat / 2 ^ 52 % 16
/-- CH_FIRST. -/
def CJob.chFirst (j : CJob) : Nat := (j.words.getD 0 0).toNat / 2 ^ 42 % 64
/-- CH_LAST. -/
def CJob.chLast (j : CJob) : Nat := (j.words.getD 0 0).toNat / 2 ^ 36 % 64
/-- START_OFS. -/
def CJob.startOfs (j : CJob) : Nat := (j.words.getD 0 0).toNat / 2 ^ 32 % 16
/-- OUT_BYTES. -/
def CJob.outBytes (j : CJob) : Nat := (j.words.getD 0 0).toNat % 2 ^ 32
/-- CUR_CH. -/
def CJob.curCh (j : CJob) : Nat := (j.words.getD 1 0).toNat / 2 ^ 58
/-- CUR_BLOCK. -/
def CJob.curBlock (j : CJob) : Nat := (j.words.getD 1 0).toNat % 2 ^ 58
/-- END_BLOCK. -/
def CJob.endBlock (j : CJob) : Nat := (j.words.getD 2 0).toNat % 2 ^ 58
/-- OUT_ADDR. -/
def CJob.outAddr (j : CJob) : Nat := (j.words.getD 3 0).toNat

/-- The descriptor checks of BAD_DESC (R222). -/
def CJob.bad (j : CJob) : Bool :=
  !((decide (2 ≤ j.mode ∧ j.mode ≤ 5) || j.mode == 8) && decide (j.chFirst ≤ j.chLast ∧ j.chFirst ≤ j.curCh ∧
    j.curCh ≤ j.chLast ∧ j.curBlock < j.endBlock ∧ j.endBlock - j.curBlock ≤ 2 ^ 20 - 1) &&
    j.outBytes % 8 == 0 && j.outAddr % 8 == 0)

/-- A cursor in the layout of descriptor word 1 (R217, R221). -/
def cursor (ch blk : Nat) : LWord := word64 [(58, ch), (0, blk)]

/-- The end of the group that holds a block: the next block above it whose remainder by 16 is START_OFS (R218). -/
def CJob.groupEnd (j : CJob) (blk : Nat) : Nat := blk + 16 - (blk + 16 - j.startOfs) % 16

/-- The place after one in a job's order: the next block of the channel in the group, the group's next channel, the next group
(R218). -/
def CJob.after (j : CJob) (p : Nat × Nat) : Option (Nat × Nat) :=
  let e := j.groupEnd p.2
  if p.2 + 1 < min e j.endBlock then some (p.1, p.2 + 1)
  else if p.1 < j.chLast then some (p.1 + 1, e - 16)
  else if e < j.endBlock then some (j.chFirst, e)
  else none

/-! ### Coding a job (R219, R220) -/

/-- A job under way: the words of closed segments, the open segment (channel, first block, its coded blocks, newest last),
and the blocks coded. -/
structure CRun where
  done : List LWord := []
  seg : Option (Nat × Nat × List (List Bool)) := none
  blocks : Nat := 0
  deriving DecidableEq, Repr, Inhabited

/-- Close the open segment, zeros filling its last word (R215). -/
def CRun.close (r : CRun) : CRun :=
  match r.seg with
  | none => r
  | some (ch, b, bs) => { r with done := r.done ++ segmentWords 0x38 ch (64 * b) bs, seg := none }

/-- Does block (ch, blk) continue the open segment: same channel, next block, fewer than 16 blocks, same group (R219)? -/
def CRun.joins (r : CRun) (ofs ch blk : Nat) : Bool :=
  match r.seg with
  | none => false
  | some (c, b, bs) => c == ch && b + bs.length == blk && (blk + 16 - ofs) % 16 != 0

/-- The fit test of R220 before a block: need * 8 <= OUT_BYTES. -/
def CRun.fits (r : CRun) (ofs ch blk mode outBytes : Nat) : Bool :=
  let c := if r.joins ofs ch blk then r else r.close
  let bits := match c.seg with
    | none => 64
    | some (_, _, bs) => 64 + (bs.map fun b => b.length).sum
  decide ((c.done.length + ceilDiv (bits + blockReserve mode) 64) * 8 ≤ outBytes)

/-- A block is coded into the open segment, or opens one. -/
def CRun.add (r : CRun) (ofs ch blk : Nat) (bits : List Bool) : CRun :=
  let c := if r.joins ofs ch blk then r else r.close
  match c.seg with
  | none => { c with seg := some (ch, blk, [bits]), blocks := c.blocks + 1 }
  | some (a, b, bs) => { c with seg := some (a, b, bs ++ [bits]), blocks := c.blocks + 1 }

/-- A block coded for a segment; bad says what goes wrong in the encoder. -/
def codeRead (mode : Nat) (bad : Upsets) (b : ReadBlk) : List Bool :=
  codeBlock mode (ringSamples b.data) (ringAttr b.attr) (bad.at b.ch b.blk)

/-- Does a block read from the ring fail its verification (R216)? -/
def ReadBlk.fails (mode : Nat) (bad : Upsets) (b : ReadBlk) : Bool :=
  blockFails mode (ringSamples b.data) (bad.at b.ch b.blk)

/-- A job codes the blocks it read until one does not fit (R220); answers that one. -/
def CJob.code (j : CJob) (bad : Upsets) (r : CRun) : List ReadBlk → CRun × Option (Nat × Nat)
  | [] => (r, none)
  | b :: rest =>
    if r.fits j.startOfs b.ch b.blk j.mode j.outBytes then j.code bad (r.add j.startOfs b.ch b.blk (codeRead j.mode bad b)) rest
    else (r, some (b.ch, b.blk))

/-- What a job has coded of the blocks it read. -/
def CJob.coded (j : CJob) (bad : Upsets) : CRun × Option (Nat × Nat) := j.code bad {} j.rd.got.reverse

/-- Has the job room for the block at a place (R220)? -/
def CJob.takes (j : CJob) (p : Nat × Nat) : Bool :=
  let r := j.coded {}
  r.2.isNone && r.1.fits j.startOfs p.1 p.2 j.mode j.outBytes

end Sys2Proof.Machine
end

