-- ==== Sys2Proof/Machine/Ring.lean ====
section
/-! DEFINITION. The capture ring (R169 to R172): its division, the writing of raw blocks with the attribute log, what it
holds, marks (R186), the read port (R32, R34, R190), segments and trailers of snippets and readouts (R188, R200), and the ends
that remove ring content (R171, R190, R201). -/

namespace Sys2Proof.Machine

/-! ### Geometry (R169) -/

/-- RING_STATE (R191). -/
def ringArmed : Nat := 0
def ringPending : Nat := 1
def ringFrozen : Nat := 2
def ringRearming : Nat := 3

/-- RING_STATE now. -/
def State.ringState (s : State) : Nat := s.rd F.TRG_CTL_RING_STATE

/-- Enter a ring state. -/
def State.setRingState (s : State) (n : Nat) : State := s.wr F.TRG_CTL_RING_STATE 0 n

/-- Change the cue engine and ring. -/
def State.onTrg (s : State) (f : Trg → Trg) : State := { s with trg := f s.trg }

/-- The channels of a map, in ascending order. -/
def mapChans (m : Nat) : List Nat := allChans.filter fun ch => m.testBit ch

/-- n of R169: the channels that the ring is divided among. -/
def State.ringN (s : State) : Nat := (mapChans s.trg.map).length

/-- B of R169 for n channels. -/
def blocksFor (n : Nat) : Nat := if n = 0 then 0 else 16773120 / (n * 96)

/-- B of R169. -/
def State.ringB (s : State) : Nat := blocksFor s.ringN

/-- L of R170: log entries of each channel. -/
def State.ringL (s : State) : Nat := if s.ringN = 0 then 0 else 1024 / s.ringN

/-- The partition of a channel: the channels of the ring below it. -/
def State.partition (s : State) (ch : Nat) : Nat := ((mapChans s.trg.map).filter fun c => decide (c < ch)).length

/-- Does the ring hold channel ch? -/
def State.inRing (s : State) (ch : Nat) : Bool := s.trg.map.testBit ch

/-- The place of the block at count n in the sample area, in blocks of 96 bytes (R170). -/
def State.slotOf (s : State) (ch n : Nat) : Nat := s.partition ch * s.ringB + n / 64 % s.ringB

/-! ### What the ring holds (R171) -/

/-- V of a channel: the oldest count still held (R171). -/
def State.vOf (s : State) (ch : Nat) : Nat :=
  let c := s.chan ch
  max (c.w - 64 * s.ringB) (max ((c.log.head?.map fun e => e.1).getD 0) s.trg.restart)

/-- The largest V of a set of channels. -/
def State.vMax (s : State) (chs : List Nat) : Nat := (chs.map fun ch => s.vOf ch).foldl max 0

/-- W of the module: the largest W of the ring's channels. -/
def State.wMax (s : State) : Nat := ((mapChans s.trg.map).map fun ch => (s.chan ch).w).foldl max s.trg.restart

/-- Is the block at count n of channel ch held (R171, R172)? -/
def State.holds (s : State) (ch n : Nat) : Bool :=
  s.inRing ch && decide (s.vOf ch ≤ n ∧ n + 64 ≤ (s.chan ch).w) &&
    !((s.chan ch).gaps.any fun g => decide (g.1 ≤ n ∧ n < g.2))

/-- The attributes of a held block: those of the last log entry at or before it (R170). -/
def Chan.logAttr (c : Chan) (n : Nat) : Nat :=
  ((c.log.filter fun e => decide (e.1 ≤ n)).getLast?.map fun e => e.2).getD 0

/-- A held block as a job reads it: samples from its slot, attributes from the log (R170). -/
def State.readBlk (s : State) (ch n : Nat) : ReadBlk :=
  { ch := ch, blk := n / 64, data := tableGet 0 s.trg.blocks (s.slotOf ch n), attr := (s.chan ch).logAttr n }

/-! ### Marks and cue records (R183, R186) -/

/-- A cue record or mark packet (R183). The channel set steers it when it is not empty (R288). -/
def State.pushCue (s : State) (disp conds loc c frac id w3 set : Nat) : State :=
  let ws := [ word64 [(56, 0x11), (52, 5), (48, disp), (32, conds), (0, loc)], BitVec.ofNat 64 c,
              word64 [(16, t48 (s.tim.at_ (c * 64 + frac) 64)), (10, frac)], word64 [(40, id), (0, w3)],
              BitVec.ofNat 64 set ]
  match (mapChans set).head? with
  | some ch => s.pushSteered 1 (some ch) ws
  | none => s.push 1 ws

/-- A mark of a kind at a count, with MARK_SOURCE, PRESCALE_K and MARK_COUNT (R186). -/
def State.pushMark (s : State) (kind c source k n : Nat) : State :=
  s.pushCue 4 0x0100 s.locCx c 0 0 (kind % 16 * 2 ^ 36 + source % 16 * 2 ^ 32 + k % 16 * 2 ^ 28 + n % 2 ^ 24 * 2 ^ 4) 0

/-- Kinds of marks (R186). -/
def markPrescale : Nat := 0
def markBlind : Nat := 1
def markFreeze : Nat := 2
def markRearm : Nat := 3
def markDivide : Nat := 4
def markReset : Nat := 5

/-! ### Writing a block (R170, R171, R193) -/

/-- May the ring write the block at count n: the ring runs, the count is not before its restart count, and no freeze
stops the write (R172, R193, R194)? -/
def State.ringWrites (s : State) (ch n : Nat) : Bool :=
  s.trg.running && s.inRing ch && decide (s.trg.restart ≤ n) &&
    (s.ringState == ringArmed || (s.ringState == ringPending && decide (n < s.trg.z.getD 0)))

/-! ### The read port (R32, R34, R190) -/

/-- A block as a job finds it: held; still to be written by a channel that goes on writing, or waiting for a freeze to come; or
neither (R171, R172, R196, R222). -/
inductive Avail where
  | here | later | never
  deriving DecidableEq, Repr

/-- How a job finds the block blk of channel ch. -/
def State.avail (s : State) (ch blk : Nat) : Avail :=
  let n := 64 * blk
  if s.holds ch n then .here
  else if s.inRing ch && decide ((s.chan ch).w < n + 64) && s.producing ch && s.trg.running && decide (s.trg.restart ≤ n)
      && (s.ringState == ringArmed || s.ringState == ringPending) then .later
  else .never

/-- Has the ring overwritten a block that it held (R188, R200)? -/
def State.overwrote (s : State) (ch blk : Nat) : Bool :=
  let n := 64 * blk
  decide (n < s.vOf ch ∧ n + 64 ≤ (s.chan ch).w) && !((s.chan ch).gaps.any fun g => decide (g.1 ≤ n ∧ n < g.2))

/-- The first block of a window over a set of channels: oldest block first across the channels (R188, R196). -/
def firstPlace (set a b : Nat) : Option (Nat × Nat) :=
  if a < b then (mapChans set).head?.map fun ch => (ch, a / 64) else none

/-- The block after one in a window that ends at count b: the next channel's, or the first channel's next one (R188, R196). -/
def nextPlace (set b : Nat) (p : Nat × Nat) : Option (Nat × Nat) :=
  match (mapChans set).find? fun ch => decide (p.1 < ch) with
  | some ch => some (ch, p.2)
  | none => if 64 * (p.2 + 1) < b then (mapChans set).head?.map fun ch => (ch, p.2 + 1) else none

/-- The number of blocks of a window. -/
def windowBlocks (set a b : Nat) : Nat := (mapChans set).length * ((b - a) / 64)

/-- A reader passes over the blocks that never come, and counts those that were overwritten (R188). fuel bounds them. -/
def State.skip (s : State) (next : Nat × Nat → Option (Nat × Nat)) : Nat → Reader → Reader
  | 0, r => r
  | fuel + 1, r =>
    match r.at_ with
    | none => r
    | some p =>
      if s.avail p.1 p.2 = .never then
        s.skip next fuel { r with at_ := next p, lost := r.lost + (s.overwrote p.1 p.2).toNat }
      else r

/-- Is the next block of a reader there to read? -/
def State.canRead (s : State) (r : Reader) : Bool := r.at_.any fun p => decide (s.avail p.1 p.2 = .here)

/-- A reader takes blocks of 96 bytes while its burst lasts and they are there, at most fuel. -/
def State.pull (s : State) (next : Nat × Nat → Option (Nat × Nat)) : Nat → Reader → Reader
  | 0, r => r
  | fuel + 1, r =>
    match r.at_ with
    | none => { r with part := 0 }
    | some p =>
      if r.part < 96 then r
      else if s.avail p.1 p.2 = .here then
        s.pull next fuel { r with at_ := next p, part := r.part - 96, got := s.readBlk p.1 (64 * p.2) :: r.got }
      else { r with part := 0 }

/-- A reader is given a burst of 512 bytes (R32). -/
def State.burst (s : State) (next : Nat × Nat → Option (Nat × Nat)) (r : Reader) : Reader :=
  s.pull next 6 { r with part := r.part + 512 }

/-- Readouts and snippet jobs pass over the blocks that never come. -/
def State.skipAll (s : State) : State :=
  s.onTrg fun t =>
    { t with
      readouts := t.readouts.map fun x =>
        { x with rd := s.skip (nextPlace x.map x.stop) (windowBlocks x.map x.first x.stop + 1) x.rd }
      jobs := t.jobs.map fun x =>
        if x.running then { x with rd := s.skip (nextPlace x.set x.stop) (windowBlocks x.set x.start x.stop + 1) x.rd }
        else x }

/-- Does the codec job read at the port's next turn: it runs, its source is there, and its output takes the block? -/
def State.codecReads (s : State) (j : CJob) : Bool :=
  j.running && !j.cut && s.canRead j.rd && j.rd.at_.any j.takes

/-- The running snippet job that reads next: the one after the job served last (R190). -/
def State.snipNext (s : State) : Option SnipJob :=
  let l := s.trg.jobs
  let i := (l.findIdx? fun x => x.id == s.trg.port.snip).getD l.length
  (l.drop (i + 1) ++ l.take (i + 1)).find? fun x => x.running && s.canRead x.rd

/-- Has share k data to read: 0 readouts, 1 snippets, 2 codec job and diagnostic window (R32)? -/
def State.shareReady (s : State) (k : Nat) : Bool :=
  if k = 0 then s.trg.readouts.any fun x => s.canRead x.rd
  else if k = 1 then s.snipNext.isSome
  else decide (0 < s.trg.port.diag) || s.codec.any fun j => s.codecReads j

/-- A burst of a share: the first readout that has written blocks, the next snippet job, or the codec job and the diagnostic
window in turn (R190). -/
def State.serveShare (s : State) (k : Nat) : State :=
  if k = 0 then
    match s.trg.readouts.findIdx? fun x => s.canRead x.rd with
    | none => s
    | some i => s.onTrg fun t =>
        { t with readouts := t.readouts.modify i fun x => { x with rd := s.burst (nextPlace x.map x.stop) x.rd } }
  else if k = 1 then
    match s.snipNext with
    | none => s
    | some x => s.onTrg fun t =>
        { t with port := { t.port with snip := x.id }
                 jobs := t.jobs.map fun y => if y.id = x.id then { y with rd := s.burst (nextPlace y.set y.stop) y.rd } else y }
  else if 0 < s.trg.port.diag ∧ (!s.trg.port.diagLast ∨ !s.codec.any fun j => s.codecReads j) then
    s.onTrg fun t => { t with port := { t.port with diag := t.port.diag - 1, diagLast := true } }
  else
    { s with codec := s.codec.map fun j => if s.codecReads j then { j with rd := s.burst j.after j.rd } else j }.onTrg fun t =>
      { t with port := { t.port with diagLast := false } }

/-- The share of a place in the port's round of eight bursts, by the weights 4 : 3 : 1 (R32). -/
def shareOf (slot : Nat) : Nat := if slot % 8 < 4 then 0 else if slot % 8 < 7 then 1 else 2

/-- The port's next burst goes to the next place of the round whose share has data; none has. DESIGN CHOICE: log entry 83. -/
def State.portStep (s : State) : Option State :=
  let s := s.skipAll
  match ((List.range 8).map fun i => s.trg.port.slot + i).find? fun i => s.shareReady (shareOf i) with
  | none => none
  | some i =>
    some ((s.serveShare (shareOf i)).onTrg fun t => { t with port := { t.port with n := t.port.n + 1, slot := (i + 1) % 8 } })

/-- At most fuel bursts, while a share has data and the end has not come. -/
def State.portUntil (s : State) (done : State → Bool) : Nat → State
  | 0 => s
  | fuel + 1 =>
    if done s then s
    else
      match s.portStep with
      | none => s
      | some t => t.portUntil done fuel

/-- The blocks that the port's jobs may still read. -/
def State.portLeft (s : State) : Nat :=
  (s.trg.readouts.map fun x => windowBlocks x.map x.first x.stop).sum
    + ((s.trg.jobs.filter fun x => x.running).map fun x => windowBlocks x.set x.start x.stop).sum
    + ((s.codec.filter fun j => j.running).map fun j => (j.chLast + 1) * (j.endBlock - j.curBlock + 16)).sum + s.trg.port.diag

/-- The bursts for which the port has had time at a count: 48 bytes in each sample period, three bursts in 32 of them (R32).
DESIGN CHOICE: log entry 83. -/
def portTime (n : Nat) : Nat := n * 3 / 32

/-- The port does the bursts up to now (R32, R190). -/
def State.runPort (s : State) : State :=
  let due := portTime s.clk.count
  let s := s.portUntil (fun t => decide (due ≤ t.trg.port.n)) (min (due - s.trg.port.n) s.portLeft)
  (s.skipAll).onTrg fun t => { t with port := { t.port with n := max due t.port.n } }

/-- The port goes on until an end has come, and time with it. -/
def State.runPortTo (s : State) (done : State → Bool) : State :=
  let s := s.runPort
  let s := (s.portUntil done s.portLeft).skipAll
  s.toCount (ceilDiv (32 * s.trg.port.n) 3)

/-- The log takes an entry of its channel when the attributes differ from those of the block before, or no block has been
written since the restart count (R170). -/
def State.logEntry (s : State) (ch n attr : Nat) : State :=
  if (s.chan ch).attr = some attr then s
  else
    let l := s.ringL
    let k := (s.chan ch).logNo
    let i := s.partition ch * l + (if l = 0 then 0 else k % l)
    (s.onTrg fun t => { t with alog := tablePut 0 i (logWord attr n) t.alog }).onChan ch fun c =>
      { c with attr := some attr, logNo := k + 1
               log := if c.log.length < l then c.log ++ [(n, attr)] else c.log.tail ++ [(n, attr)] }

/-- A raw block with its attributes is written to its slot, and W moves on (R170, R171); what the read port read before is read.
The first write after a reset, a restart or a stop makes the RING_RESET mark (R186). -/
def State.ringWrite (s : State) (ch n attr : Nat) (xs : List Int) : State :=
  if s.ringWrites ch n then
    let s := s.runPort
    let s := if s.trg.resetMark then
        (s.onTrg fun t => { t with resetMark := false, restart := n }).pushMark markReset n 0 0 0
      else s
    let s := s.onTrg fun t => { t with blocks := tablePut 0 (s.slotOf ch n) (ringBlockOf xs) t.blocks }
    (s.logEntry ch n attr).onChan ch fun c =>
      { c with w := n + 64, gaps := if c.w < n ∧ s.trg.restart < c.w then (c.w, n) :: c.gaps else c.gaps }
  else s

/-! ### Verification failures (R216) -/

/-- A block of channel ch failed its verification (R216). -/
def State.verifyFail (s : State) (ch : Nat) : State :=
  let s := ((s.satAdd F.CDC_VERIFY_TOTAL_COUNT 0 1).flag F.CDC_VERIFY 0).count (0x80 + ch) (s.locCxUnit ch) 1
  let s := { s with fau := { s.fau with verifySecond := s.fau.verifySecond + 1 } }
  s.report 0x2202 (s.locUnit ch) 0

/-! ### Segments (R188, R200, R215) -/

/-- Consecutive blocks of one channel, at most size of them, from the front of a list, and the rest. -/
def takeRun (size : Nat) : List ReadBlk → List ReadBlk × List ReadBlk
  | [] => ([], [])
  | b :: rest =>
    match size with
    | 0 => ([], b :: rest)
    | 1 => ([b], rest)
    | size + 1 =>
      match rest with
      | [] => ([b], [])
      | b2 :: _ =>
        if b2.ch = b.ch ∧ b2.blk = b.blk + 1 then
          let r := takeRun size rest
          (b :: r.1, r.2)
        else ([b], rest)

/-- The runs of a list of blocks: one channel, no gap in counts, at most size blocks. fuel bounds the runs. -/
def runsOf (size : Nat) : Nat → List ReadBlk → List (List ReadBlk)
  | 0, _ => []
  | _, [] => []
  | fuel + 1, b :: rest =>
    let r := takeRun (max 1 (min 16 size)) (b :: rest)
    r.1 :: runsOf size fuel r.2

/-- The blocks whose verification fails count and are reported (R216). -/
def State.verifyAll (s : State) (mode : Nat) (bad : Upsets) (bs : List ReadBlk) : State :=
  s.forEach (bs.filter fun b => b.fails mode bad) fun s b => s.verifyFail b.ch

/-- What goes wrong at the blocks of a list where no command says it: which of them the second decoder fails, and which have an
inverted bit and where, all free (R216). -/
def State.freeUpsets (s : State) (bs : List ReadBlk) : Upsets × State :=
  let v := Config.freeNat s.free
  let place := Config.freeNat (s.free + 1)
  let pick := fun o => bs.zipIdx.filter fun p => v.testBit (2 * p.2 + o)
  ({ flips := (pick 1).map fun p => (p.1.ch, p.1.blk, place / 1024 ^ p.2 % 1024), bad := (pick 0).map fun p => (p.1.ch, p.1.blk) },
   { s with free := s.free + 2 })

/-- The segments of a job's blocks (R188, R200). -/
def segmentsOf (type size : Nat) (bad : Upsets) (bs : List ReadBlk) : List (List LWord) :=
  (runsOf size bs.length bs).map fun r =>
    segmentWords type (r.headD {}).ch ((r.headD {}).blk * 64) (r.map (codeRead 8 bad))

/-- Blocks in the order in which a job reads them: groups of size blocks from start on, the channels of each group in
ascending order (R188, R196; log entry 12). -/
def readOrder (start size : Nat) (bs : List ReadBlk) : List ReadBlk :=
  let key := fun (b : ReadBlk) => ((b.blk - start / 64) / max 1 size * 64 + b.ch) * 2 ^ 58 + b.blk
  bs.mergeSort fun a b => decide (key a ≤ key b)

/-- Segments are stored in class 3 (R188, R200); answers their bytes. -/
def State.pushSegments (s : State) (ch : Option Nat) (segs : List (List LWord)) : State :=
  s.forEach segs fun s ws => s.pushSteered 3 ch ws

/-- Bytes of segments. -/
def segBytes (segs : List (List LWord)) : Nat := 8 * (segs.map fun ws => ws.length).sum

/-! ### Ends of snippet jobs and readouts -/

/-- The channel that steers a snippet's or readout's packets (R288). -/
def setSteer (set : Nat) : Option Nat := (mapChans set).head?

/-- The header of a snippet (R188). -/
def State.snipHeader (s : State) (j : SnipJob) : List LWord :=
  [ word64 [(56, 0x31), (52, 6), (51, j.shortPre.toNat), (50, j.shortPost.toNat), (32, j.conds), (0, j.loc)],
    word64 [(40, j.id)], BitVec.ofNat 64 j.start, word64 [(32, j.preActual), (0, j.stop - j.start)],
    BitVec.ofNat 64 j.set, word64 [(16, t48 (s.timeOf j.start))] ]

/-- A snippet's segments and trailer (R188): the blocks delivered, those lost to the overwrite front, and ABORTED. A
snippet that is complete counts under event 0x10B. -/
def State.endSnippet (s : State) (j : SnipJob) (size : Nat) (aborted : Bool) (bad : Upsets) : State :=
  let bs := readOrder j.start size j.rd.got
  let lost := j.rd.lost
  let s := s.verifyAll 8 bad bs
  let segs := segmentsOf 0x32 size bad bs
  let s := s.pushSegments (setSteer j.set) segs
  let s := s.pushSteered 3 (setSteer j.set)
    [ word64 [(56, 0x33), (52, 2), (51, (decide (0 < lost)).toNat), (50, aborted.toNat), (0, j.id)],
      word64 [(32, lost), (0, segBytes segs)] ]
  let s := if 0 < lost then s.flag F.TRG_EVT2 1 else s
  if aborted then s else s.count 0x10B s.locCx 1

/-- TRG_SNIP_STAT.JOBS and TRG_RO_STAT.ACTIVE follow the jobs (R202). -/
def State.showJobs (s : State) : State :=
  (s.wr F.TRG_SNIP_STAT_JOBS 0 s.trg.jobs.length).wr F.TRG_RO_STAT_ACTIVE 0 s.trg.readouts.length

/-- The blocks that a readout should deliver: every channel of its map, from F to E (R196). -/
def Readout.due (r : Readout) : Nat := windowBlocks r.map r.first r.stop

/-- A readout's segments and trailer (R200): the final STATUS is that of the header unless blocks have gone missing since it was
decided, then PARTIAL, or EXPIRED when none was delivered. -/
def State.endReadout (s : State) (r : Readout) (size : Nat) (aborted : Bool) (bad : Upsets) : State :=
  let bs := readOrder r.first size r.rd.got
  let s := s.verifyAll 8 bad bs
  let lost := r.due - bs.length - r.absent
  let status := if bs.isEmpty then 2 else if 0 < lost then 1 else r.status
  let segs := segmentsOf 0x35 size bad bs
  let s := s.pushSegments (setSteer r.map) segs
  s.pushSteered 3 (setSteer r.map)
    [ word64 [(56, 0x36), (52, 2), (48, status), (47, aborted.toNat), (0, r.req)], word64 [(32, lost), (0, segBytes segs)] ]

/-- Every active readout and snippet job is aborted (R172, R201): what each had read is sent, and its trailer carries ABORTED. A
job that had not begun sends its header first. -/
def State.abortJobs (s : State) : State :=
  let s := s.runPort
  let s := s.forEach s.trg.readouts fun s r =>
    let (bad, s) := s.freeUpsets r.rd.got
    s.endReadout r 16 true bad
  let s := s.forEach s.trg.jobs fun s j =>
    let (bad, s) := s.freeUpsets j.rd.got
    (if j.running then s else s.pushSteered 3 (setSteer j.set) (s.snipHeader j)).endSnippet j 16 true bad
  (s.onTrg fun t => { t with readouts := [], jobs := [] }).showJobs

/-- The running codec job's source is removed: it takes no more blocks (R190). -/
def State.cutCodec (s : State) : State :=
  let s := s.runPort
  { s with codec := s.codec.map fun j => { j with cut := j.cut || j.running } }

/-- The ring's content goes: from restart count n on every channel is written anew (R171). -/
def State.ringRestart (s : State) (n : Nat) : State :=
  let s := (s.cutCodec).onTrg fun t => { t with restart := n }
  { s with chans := s.chans.map fun c =>
      { c with w := n, log := [], logNo := 0, attr := none, gaps := [] } }

/-- The ring is divided among the enabled units at count n (R53, R169): jobs are aborted, the restart count is set, and a
RING_DIVIDE mark is made (R171, R186). DEDUCED: log entry 51. -/
def State.divideRing (s : State) (map n : Nat) : State :=
  let s := s.abortJobs
  let s := s.onTrg fun t => { t with map := map }
  let s := s.ringRestart n
  let s := (s.wr F.TRG_RING_DEPTH_BLOCKS 0 s.ringB).wr F.TRG_RING_DEPTH_N_ENABLED 0 s.ringN
  s.pushMark markDivide n 0 0 0

end Sys2Proof.Machine
end

