-- ==== Sys2Proof/Machine/Cues.lean ====
section
/-! DEFINITION. Cues (R173 to R187, R189): detectors, combiners, trigger inputs and software cues as sources of proposals,
the engine that takes them, the close of a cue, the trigger output and rate reduction. -/

namespace Sys2Proof.Machine

/-! ### Impulse detectors (R174, R175) -/

/-- The sample of a channel at count n from its last raw blocks, and whether it was a clip. -/
def Chan.sampleAt (c : Chan) (n : Nat) : Option (Int × Bool) :=
  (c.recent.find? fun b => decide (b.n ≤ n ∧ n < b.n + 64)).map fun b =>
    (b.xs.getD (n - b.n) 0, b.clips.getD (n - b.n) false)

/-- y[n] in 1/64 code, with the dc in force at n (R174); 0 where no sample was taken. -/
def Chan.yAt (c : Chan) (n : Nat) : Int :=
  match c.sampleAt n with
  | some p => 64 * p.1 - (if n < c.det.from_ then c.det.dcOld else c.det.dc)
  | none => 0

/-- e[n] in 2^-36 code^2: y and hilbert15 of y, squared and added without rounding (R174). -/
def Chan.envAt (c : Chan) (n : Nat) : Int :=
  let h := 2574 * (c.yAt (n - 1) - c.yAt (n + 1)) + 792 * (c.yAt (n - 3) - c.yAt (n + 3))
    + 372 * (c.yAt (n - 5) - c.yAt (n + 5)) + 132 * (c.yAt (n - 7) - c.yAt (n + 7))
  4096 * 4096 * (c.yAt n * c.yAt n) + h * h

/-- The threshold in 2^-36 code^2 from FLOOR, MULT and the noise in 1/16 code^2 (R174). -/
def detThreshold (floor mult noise : Nat) : Int :=
  max (floor * floor * 2 ^ 36 : Nat) (mult * mult * noise * 2 ^ 26 : Nat)

/-- The threshold of channel ch for the sample at n, from the noise in force then. -/
def State.threshold (s : State) (ch n : Nat) : Int :=
  let d := (s.chan ch).det
  detThreshold (s.rd F.TRG_DET_FLOOR_FLOOR) (s.rd F.TRG_DET_MULT ch) (if n < d.from_ then d.noiseOld else d.noise)

/-- Detection starts at count n (R174): dc and noise are 0, and nothing is proposed until the end of the first whole
estimation window that begins at or after it. -/
def State.startDetector (s : State) (ch n : Nat) : State :=
  s.onChan ch fun c =>
    { c with det := { start := some (nextMultiple 65536 n + 65536), stop := (n / 65536 + 1) * 65536, summed := n } }

/-- The end of an estimation window whose samples are all summed: dc takes the mean of its samples and noise the mean envelope
power of those below the threshold, each when at least 2^15 entered it, in force from the next sample on (R174). -/
def Det.closeWindow (d : Det) : Det :=
  if d.summed < d.stop then d
  else
    { d with
      dcOld := d.dc, noiseOld := d.noise, from_ := d.stop, stop := (d.summed / 65536 + 1) * 65536
      dc := if 2 ^ 15 ≤ d.nX then rhe (64 * d.sumX) d.nX else d.dc
      noise := if 2 ^ 15 ≤ d.nE then (rhe d.sumE (d.nE * 2 ^ 32)).toNat else d.noise
      sumX := 0, nX := 0, sumE := 0, nE := 0 }

/-- The block before the last one joins the sums of its estimation window, now that the samples after it are known: its
samples that are not skipped, and the envelope powers of those below the threshold (R174). A window that ends before it has
closed. -/
def State.sumBlock (s : State) (ch n : Nat) : State :=
  let s := s.onChan ch fun c => { c with det := c.det.closeWindow }
  let c := s.chan ch
  let ns := ((List.range 64).map fun i => n + i).filter fun k => !c.skips k
  let low := ns.filter fun k => decide (c.envAt k < s.threshold ch k)
  s.onChan ch fun c =>
    { c with det := { c.det with
        summed := n + 64
        sumX := c.det.sumX + (ns.map fun k => ((c.sampleAt k).getD (0, false)).1).sum
        nX := c.det.nX + ns.length
        sumE := c.det.sumE + (low.map fun k => c.envAt k).sum
        nE := c.det.nE + low.length } }

/-- DETECTOR_WINDOW_END: the estimation window under way ends at count 2^16 (w + 1), once its last sample's envelope is known
(R174). -/
def State.doDetectorWindowEnd (s : State) (ch : Nat) : State := s.onChan ch fun c => { c with det := c.det.closeWindow }

/-- The integer square root: the greatest r below 2^bits with r * r at most n. -/
def isqrt (n : Nat) : Nat → Nat
  | 0 => 0
  | bits + 1 =>
    let r := isqrt (n / 4) bits
    if (2 * r + 1) * (2 * r + 1) ≤ n then 2 * r + 1 else 2 * r

/-- c and fraction of an interpolated peak from the envelope powers around n_p (R175). -/
def interpolate (np : Nat) (e0 e1 e2 : Int) : Nat × Nat :=
  let num := e0 - e2
  let den := 2 * (e0 - 2 * e1 + e2)
  let d := if den = 0 then 0 else if den < 0 then rhe (-(64 * num)) den.natAbs else rhe (64 * num) den.natAbs
  let d := clampInt (-32) 31 d
  if d < 0 then (np - 1, (64 + d).toNat) else (np, d.toNat)

/-- A proposal sets out towards the cue engine (R173). -/
def State.propose (s : State) (p : Proposal) : State := s.onTrg fun t => { t with proposals := t.proposals ++ [p] }

/-- The distinct channels of firings. -/
def firingChans (fs : List Firing) : List Nat := (fs.map fun f => f.ch).eraseDups

/-- A firing reaches its cluster's combiner, unless it ignores it (R177). -/
def State.fireCombiner (s : State) (f : Firing) : State :=
  let g := f.ch / 4
  if s.rdB F.TRG_COINC_EN g && !((s.trg.ignore.getD g none).any fun n => decide (f.c ≤ n)) then
    s.onTrg fun t => { t with firings := t.firings.modify g fun l =>
      (l.filter fun x => decide (x.c ≤ f.c)) ++ f :: (l.filter fun x => decide (f.c < x.c)) }
  else s

/-- Is the sample of channel ch at n at or above its threshold, and not skipped (R174)? -/
def State.aboveAt (s : State) (ch n : Nat) : Bool :=
  let c := s.chan ch
  (c.sampleAt n).isSome && !c.skips n && decide (s.threshold ch n ≤ c.envAt n)

/-- The counts of the samples held from count a up to, not including, n. -/
def Chan.heldFrom (c : Chan) (a n : Nat) : List Nat :=
  let b := max a ((c.recent.getLast?.map fun b => b.n).getD n)
  (List.range (n - b)).map fun i => b + i

/-- IMPULSE_DETECTOR_FIRE: sample n is the first at or above the threshold, outside dead time and not skipped, and the
detector proposes its interpolated peak (R174, R175); the firing counts for the combiner too (R177). -/
def State.doImpulseFire (s : State) (ch n : Nat) : State :=
  let c := s.chan ch
  let from_ := match c.det.start with
    | some a => max a c.det.dead
    | none => n + 1
  if s.rdB F.TRG_DET_EN ch && s.producing ch && decide (from_ ≤ n) && s.aboveAt ch n && (c.sampleAt (n + 23)).isSome
      && !((c.heldFrom from_ n).any fun k => s.aboveAt ch k) then
    let cands := ((List.range 16).map fun i => n + i).filter fun k => !c.skips k
    let np := cands.foldl (fun best k => if c.envAt best < c.envAt k then k else best) n
    let p := interpolate np (c.envAt (np - 1)) (c.envAt np) (c.envAt (np + 1))
    let clip := [np - 1, np, np + 1].any fun k => ((c.sampleAt k).getD (0, false)).2
    let peak := isqrt ((c.envAt np).toNat / 2 ^ 36) 32
    let s := s.onChan ch fun c => { c with det := { c.det with dead := np + 64 * s.rd F.TRG_DET_HOLDOFF ch } }
    let s := s.propose
      { bit := 0, c := p.1, frac := p.2, loc := s.locUnit ch, units := 2 ^ ch, peak := peak, members := 2 ^ (ch % 4), clip := clip }
    s.fireCombiner { ch := ch, c := p.1, frac := p.2, peak := peak, clip := clip }
  else s

/-! ### Combiners (R56, R177) -/

/-- Enabled units of cluster g. -/
def State.clusterUnits (s : State) (g : Nat) : Nat := ((clusterChans g).filter fun ch => s.unitOn ch).length

/-- A combiner whose k exceeds its cluster's enabled units is a configuration fault (R56). -/
def State.checkCombiner (s : State) (g : Nat) : State :=
  if s.rdB F.TRG_COINC_EN g && decide (s.clusterUnits g < s.rd F.TRG_COINC_K g) then
    s.configFault (s.locCluster g) (F.TRG_COINC + 4 * g)
  else s

/-- The combiner of cluster g decides on its earliest unused firing once W_c samples have passed after it: with k distinct
units it fires with that firing's c and fraction, and otherwise the firing is dropped (R177). During Rehearsal of its region it
proposes nothing (R201). -/
def State.combine (s : State) (g : Nat) : State :=
  match s.trg.firings.getD g [] with
  | [] => s
  | e :: rest =>
    if (s.adc.reh.getD (g / 4) {}).connected then s.onTrg fun t => { t with firings := t.firings.set g [] } else
    let w := s.rd F.TRG_COINC_WINDOW g
    let k := s.rd F.TRG_COINC_K g
    if s.clk.count < e.c + w then s
    else
      let inWin := (e :: rest).filter fun f => decide (f.c ≤ e.c + w)
      let chs := firingChans inWin
      if k ≤ chs.length ∧ k ≤ s.clusterUnits g then
        let last := (inWin.map fun f => f.c).foldl max e.c
        let s := s.onTrg fun t =>
          { t with firings := t.firings.modify g (fun l => l.filter fun f => decide (last + w < f.c))
                   ignore := t.ignore.set g (some (last + w)) }
        s.propose
          { bit := 1, c := e.c, frac := e.frac, loc := s.locCluster g, units := (chs.map fun ch => 2 ^ ch).sum
            peak := (inWin.map fun f => f.peak).foldl max 0, members := (chs.map fun ch => 2 ^ (ch % 4)).sum
            clip := inWin.any fun f => f.clip }
      else s.onTrg fun t => { t with firings := t.firings.set g rest }

/-- Every combiner decides what is due; at most 64 firings wait in each. DEDUCED: log entry 50. -/
def State.combineAll (s : State) : State :=
  s.forEach (List.range 16) fun s g => s.forEach (s.trg.firings.getD g []) fun s _ => s.combine g

/-! ### Other sources (R173, R178) -/

/-- TRIGGER_INPUT_EDGE: an edge on TRIG_IN[n] at count k and phase phi / 64. The chosen edge of an enabled input proposes
bit 3 + n at its time less DELAY; within 100 ns of an accepted edge it is ignored and counted (R178). -/
def State.doTriggerEdge (s : State) (n k phi : Nat) (falling : Bool) : State :=
  if s.rdB F.TRG_EXT_EN n && s.rdB F.TRG_EXT_EDGE n == falling && s.clk.running then
    let s := s.toCount k
    let t : Int := (k * 64 + phi % 64 : Nat)
    let dead := match s.trg.edges.getD n none with
      | some a => decide ((t - a) * 1000000000 < 64 * 100 * s.clk.fs)
      | none => false
    if dead then s.onTrg fun x => { x with ignored := x.ignored.modify n (· + 1) }
    else
      let s := s.onTrg fun x => { x with edges := x.edges.set n (some t) }
      let c := (t - s.rdS F.TRG_EXT_DELAY n).toNat
      s.propose { bit := 3 + n, c := c / 64, frac := c % 64, loc := s.locCx }
  else s

/-- SOFTWARE_CUE: a write of TRG_SW.FIRE proposes bit 6 at the first count not yet taken (R173). -/
def State.doSoftwareCue (s : State) : State := s.propose { bit := 6, c := s.clk.count, frac := 0, loc := s.locCx }

/-! ### From proposal to cue (R179, R180) -/

/-- The channel set of a proposal before the ring is asked (R179). -/
def State.scopeSet (s : State) (p : Proposal) : Nat :=
  let sc := s.rd F.TRG_SRC_CFG_SCOPE p.bit
  let grow := fun (n : Nat) => (allChans.map fun ch =>
    if (mapChans p.units).any (fun u => decide (u / n = ch / n)) then 2 ^ ch else 0).sum
  if sc = 5 then s.rd F.TRG_SRC_MAP_LO_MAP p.bit + 2 ^ 32 * s.rd F.TRG_SRC_MAP_HI_MAP p.bit
  else if p.bit = 3 ∨ p.bit = 4 ∨ p.bit = 6 ∨ sc = 4 then 0xFFFFFFFFFFFFFFFF
  else if sc = 0 then p.units
  else if sc = 1 then grow 2
  else if sc = 2 then grow 4
  else grow 16

/-- The freeze of R193, step 1: a request is taken in ARMED alone (R191). z is the end of the freezing cue's window; when
count Z - 1 has been written, Z is the first multiple of 64 at least 32 samples later. -/
def State.requestFreeze (s : State) (z : Nat) : State :=
  if s.ringState = ringArmed ∧ s.trg.running then
    let z := if z ≤ s.wMax ∨ z ≤ s.clk.count then boundaryAfter 64 s.clk.count else z
    (s.setRingState ringPending).onTrg fun t => { t with z := some z }
  else s

/-- The pulse of TRIG_OUT starts or starts anew (R185). -/
def State.pulseOut (s : State) (bit : Nat) : State :=
  if (s.rd F.TRG_OUT_MASK).testBit bit then
    s.onTrg fun t => { t with outUntil := some (s.clk.count + s.samplesNs (100 * s.rd F.TRG_OUT_WIDTH)) }
  else s

/-- A proposal that passed joins the cue with its count, or opens a new one, which is its acceptance: CUE_ID, the CUE flag
of its channels' streams, TRIG_OUT (R180, R182, R185). -/
def State.acceptProposal (s : State) (p : Proposal) (set : Nat) : State :=
  let pre := 64 * s.rd F.TRG_SRC_WIN_PRE_BLK p.bit
  let post := 64 * s.rd F.TRG_SRC_WIN_POST_BLK p.bit
  let rec_ := s.rdB F.TRG_SRC_CFG_REC_EN p.bit
  let snip := s.rdB F.TRG_SRC_CFG_SNIP_EN p.bit
  if s.trg.cues.any fun q => q.c == p.c then
    s.onTrg fun t => { t with cues := t.cues.map fun q =>
      if q.c = p.c then
        { q with conds := q.conds ||| 2 ^ p.bit
                 loc := if q.conds % 2 ^ p.bit = 0 ∧ !q.conds.testBit p.bit then p.loc else q.loc
                 set := q.set ||| set, pre := max q.pre pre, post := max q.post post
                 record := q.record || rec_, snip := q.snip || snip
                 peak := max q.peak p.peak, members := q.members ||| p.members, clip := q.clip || p.clip
                 freezes := q.freezes || p.stop }
      else q }
  else
    let id := s.trg.nextId
    let s := s.onTrg fun t =>
      { t with nextId := if id = 2 ^ 24 - 1 then 1 else id + 1
               cues := t.cues ++ [{ c := p.c, frac := p.frac, id := id, conds := 2 ^ p.bit, loc := p.loc, set := set,
                                    pre := pre, post := post, record := rec_, snip := snip, peak := p.peak,
                                    members := p.members, clip := p.clip, freezes := p.stop }] }
    let s := s.forEach (mapChans set) fun s ch => s.onChan ch fun c => { c with cue := s.clk.count :: c.cue }
    (s.count 0x109 s.locCx 1).pulseOut p.bit

/-- A blind proposal (R180, step 2). -/
def State.blindProposal (s : State) (p : Proposal) : State :=
  let s := (((s.satAdd F.TRG_BLIND_TOTAL_COUNT 0 1).flag F.TRG_EVT 1).count 0x10A s.locCx 1).onTrg fun t =>
    { t with blindRun := t.blindRun + 1 }
  let s := if s.trg.lastBlind then s else s.pushMark markBlind p.c 0 0 0
  s.onTrg fun t => { t with lastBlind := true }

/-- The engine takes a proposal through prescaler, blind check and merging (R180). With EN 0 it is discarded uncounted
(R202). -/
def State.takeProposal (s : State) (p : Proposal) : State :=
  if !s.rdB F.TRG_CTL_EN || !s.trg.running then s
  else
    let s := s.count (0x100 + p.bit) p.loc 1
    let n := (s.trg.sources.getD p.bit {}).pcount + 1
    let s := s.onTrg fun t => { t with sources := t.sources.modify p.bit fun x => { x with pcount := n } }
    if n % 2 ^ s.rd F.TRG_SRC_STAT_K p.bit ≠ 0 then
      (s.satAdd F.TRG_SRC_STAT_NOT_PASSED p.bit 1).onTrg fun t =>
        { t with sources := t.sources.modify p.bit fun x => { x with missed := x.missed + 1 } }
    else
      let set := s.scopeSet p &&& s.trg.map
      let chs := mapChans set
      let old := !chs.isEmpty && chs.all fun ch => decide (p.c < s.vOf ch)
      if s.ringState = ringFrozen ∨ s.ringState = ringRearming ∨ old = true then s.blindProposal p
      else
        let s := s.onTrg fun t => { t with lastBlind := false }
        let s := s.acceptProposal p set
        if p.stop then
          match s.trg.cues.find? fun q => q.c == p.c with
          | some q => s.requestFreeze (nextMultiple 64 (q.c + q.post))
          | none => s
        else s

/-- CUE_PROPOSAL: a proposal on its way arrives at the engine (R173, R180). The combiners decide what is due first. -/
def State.doCueProposal (s : State) (i : Nat) : State :=
  let s := s.combineAll
  match s.trg.proposals[i]? with
  | none => s
  | some p => (s.onTrg fun t => { t with proposals := t.proposals.eraseIdx i }).takeProposal p

/-! ### Close of a cue (R181, R183, R187) -/

/-- The cue record's word 3 beside CUE_ID (R183). -/
def Cue.w3 (q : Cue) : Nat := q.peak % 2 ^ 16 * 2 ^ 16 + q.members % 16 * 2 ^ 12 + q.clip.toNat * 2 ^ 11

/-- The record of a closing cue, if a member source has REC_EN or SNIP_EN (R181). -/
def State.cueRecord (s : State) (q : Cue) (disp : Nat) : State :=
  if q.record || q.snip then s.pushCue disp q.conds q.loc q.c q.frac q.id q.w3 (if disp = 0 then q.set else 0) else s

/-- An accepted snippet of n blocks of its channels is charged to every member source: 100 bytes a block (R189). -/
def State.chargeSnippet (s : State) (conds bytes : Nat) : State :=
  s.forEach ((List.range 9).filter fun i => conds.testBit i) fun s i =>
    s.onTrg fun t => { t with sources := t.sources.modify i fun x => { x with charge := x.charge + bytes } }

/-- The snippet job of a closing cue (R187): its window, raised to V and lowered to Z. pre_actual is not stated for a start
after c and is a free value then. -/
def State.snippetJob (s : State) (q : Cue) : SnipJob × State :=
  let v := s.vMax (mapChans q.set)
  let start := (q.c - q.pre) / 64 * 64
  let stop := nextMultiple 64 (q.c + q.post)
  let start' := max start v
  let stop' := match s.trg.z with
    | some z => min stop z
    | none => stop
  let (free, s) := s.freeBelow (2 ^ 32)
  ({ id := q.id, conds := q.conds, loc := q.loc, start := start', stop := stop'
     preActual := if start' ≤ q.c then q.c - start' else free
     set := q.set, shortPre := decide (start < v), shortPost := decide (stop' < stop) }, s)

/-- A cue closes with its disposition: RECORD_ONLY, NO_DATA, DECLINED_FULL or SNIPPET (R181). -/
def State.closeCue (s : State) (q : Cue) : State :=
  let s := s.onTrg fun t => { t with cues := t.cues.erase q }
  if !q.snip then s.cueRecord q 1
  else if q.set = 0 then s.cueRecord q 3
  else if 64 ≤ s.trg.jobs.length then (s.cueRecord q 2).flag F.TRG_EVT2 0
  else
    let (j, s) := s.snippetJob q
    let s := (s.cueRecord q 0).onTrg fun t => { t with jobs := t.jobs ++ [j] }
    (s.chargeSnippet q.conds (100 * ((j.stop - j.start) / 64) * (mapChans j.set).length)).showJobs

/-- CUE_CLOSE: the sample counter reaches c + 32,768 of the open cue with the lowest c (R181). -/
def State.doCueClose (s : State) : State :=
  match s.trg.cues.foldl (fun (best : Option Cue) q =>
      match best with
      | none => some q
      | some b => if q.c < b.c then some q else some b) none with
  | none => s
  | some q => (s.toCount (q.c + 32768)).closeCue q

/-- Open cues close at once without their snippets, with RECORD_ONLY (R172, R201). -/
def State.closeCuesEarly (s : State) : State :=
  (s.forEach s.trg.cues fun s q => s.cueRecord q 1).onTrg fun t => { t with cues := [] }

/-- TRIG_OUT_END: TRIG_OUT goes low when its width has passed (R185). -/
def State.doTrigOutEnd (s : State) : State :=
  match s.trg.outUntil with
  | none => s
  | some n => (s.toCount n).onTrg fun t => { t with outUntil := none }

/-! ### Rate reduction (R189) -/

/-- I of R189: a budget interval in samples. -/
def State.budgetInterval (s : State) : Nat := (rhe s.clk.fs 1000).toNat

/-- A prescaler takes a new exponent, with a prescale mark at the end of the interval (R186, R189). -/
def State.setPrescale (s : State) (i k n : Nat) : State :=
  let missed := (s.trg.sources.getD i {}).missed
  ((s.wr F.TRG_SRC_STAT_K i k).pushMark markPrescale n i k missed).onTrg fun t =>
    { t with sources := t.sources.modify i fun x => { x with missed := 0 } }

/-- The end of a budget interval for source i (R189). -/
def State.budgetSource (s : State) (n i : Nat) : State :=
  let x := s.trg.sources.getD i {}
  let budget := s.rd F.TRG_SRC_BUDGET_BYTES_PER_S i
  let allow := budget / 1000
  let k := s.rd F.TRG_SRC_STAT_K i
  let setQuiet := fun (s : State) (q : Nat) =>
    s.onTrg fun t => { t with sources := t.sources.modify i fun x => { x with quiet := q, charge := 0 } }
  if budget = 0 then setQuiet s x.quiet
  else if allow < x.charge then setQuiet (if k < 15 then s.setPrescale i (k + 1) n else s) 0
  else if x.charge ≤ allow / 2 then
    if x.quiet + 1 = s.rd F.TRG_RATE_CFG_QUIET_N then setQuiet (if 0 < k then s.setPrescale i (k - 1) n else s) 0
    else setQuiet s (x.quiet + 1)
  else setQuiet s 0

/-- BUDGET_INTERVAL_END: at the end of each interval every source but 5 and 8 adjusts its exponent (R189). -/
def State.doBudgetIntervalEnd (s : State) : State :=
  if !s.clk.running then s
  else
    let n := s.trg.budgetNext
    let s := s.toCount n
    let s := s.forEach [0, 1, 2, 3, 4, 6, 7] fun s i => s.budgetSource n i
    s.onTrg fun t => { t with budgetNext := n + s.budgetInterval }

/-- Budget intervals run from count n: from the next multiple of I at the start of ingest, from N after a rate switch
(R189). -/
def State.startBudget (s : State) (n : Nat) : State := s.onTrg fun t => { t with budgetNext := n }

/-! ### Freeze and re-arm (R191 to R194) -/

/-- FREEZE: a write of TRG_CTL.FREEZE; Z is the first multiple of 64 at least 32 samples later (R193). -/
def State.doFreeze (s : State) : State := s.requestFreeze (boundaryAfter 64 s.clk.count)

/-- FREEZE_STOP: at count Z writes stop, with a FREEZE mark (R193, step 2). -/
def State.doFreezeStop (s : State) : State :=
  match s.trg.z with
  | some z =>
    if s.ringState = ringPending then
      let s := ((s.toCount z).setRingState ringFrozen).flag F.TRG_EVT 0
      let s := s.wrPair F.TRG_FREEZE_LO_COUNT F.TRG_FREEZE_HI_COUNT 0 (z % 2 ^ 64)
      (s.onTrg fun t => { t with blindRun := 0 }).pushMark markFreeze z 0 0 0
    else s
  | none => s

/-- REARM: a write of TRG_CTL.REARM in FROZEN; codec jobs that read the ring stop (R194, steps 1 and 2). -/
def State.doRearm (s : State) : State :=
  if s.ringState = ringFrozen then (s.setRingState ringRearming).cutCodec else s

/-- REARM_LOG_CLEAR: once readouts and snippet jobs have finished, 0.05 to 0.40 us later, the attribute log is cleared and
R is fixed (R194, step 3). -/
def State.doRearmLogClear (s : State) (ns : Nat) : State :=
  if s.ringState = ringRearming ∧ s.trg.readouts = [] ∧ s.trg.jobs = [] ∧ s.trg.r = none then
    let s := s.pass (s.samplesNs (clampNat 50 400 ns))
    let s := s.onTrg fun t => { t with alog := [], r := some (boundaryAfter 1024 s.clk.count) }
    { s with chans := s.chans.map fun c => { c with log := [], logNo := 0, attr := none } }
  else s

/-- REARM_RESUME: at count R writes resume with V := R, and a REARM mark carries the blind proposals since the freeze
(R194, step 4). -/
def State.doRearmResume (s : State) : State :=
  match s.trg.r with
  | some r =>
    if s.ringState = ringRearming then
      let s := (((s.toCount r).ringRestart r).setRingState ringArmed).onTrg fun t => { t with r := none, z := none }
      s.pushMark markRearm r 0 0 s.trg.blindRun
    else s
  | none => s

/-! ### Stops of the engine (R172, R201) -/

/-- The cue engine and the ring stop at S4 or S5: open cues close, jobs are aborted, the content is lost, a pending freeze
is dropped, and TRG_FREEZE keeps the last Z (R172). -/
def State.stopRing (s : State) : State :=
  if s.trg.running then
    let s := ((s.closeCuesEarly).abortJobs.cutCodec).setRingState ringArmed
    let s := s.onTrg fun t =>
      { t with running := false, z := none, r := none, blocks := [], alog := [], proposals := []
               firings := List.replicate 16 [], ignore := List.replicate 16 none }
    { s with chans := s.chans.map fun c => { c with log := [], logNo := 0, attr := none, gaps := [] } }
  else s

/-- The ring starts again; the first count written is its restart count, with a RING_RESET mark (R171, R186). -/
def State.startRing (s : State) (n : Nat) : State :=
  (s.onTrg fun t => { t with running := true, resetMark := true }).ringRestart n

end Sys2Proof.Machine
end

