-- ==== Sys2Proof/Machine/Rings.lean ====
section
/-! DEFINITION. Host memory as the Prompter reaches it: memory transactions waiting to be framed (R294, R340), the
rings and their status slots (R327, R328), records (R336 to R338), and the data-ring writer that consumes the queues of
a class delivered in memory (R337). -/

namespace Sys2Proof.Machine

/-- Change the link layer. -/
def State.onLnk (s : State) (f : Lnk → Lnk) : State := { s with lnk := f s.lnk }

/-- Change the Prompter. -/
def State.onPrm (s : State) (f : Prm → Prm) : State := { s with prm := f s.prm }

/-- Ring r. -/
def State.ring (s : State) (r : Nat) : PRing := s.prm.rings.getD r {}

/-- Change ring r. -/
def State.onRing (s : State) (r : Nat) (f : PRing → PRing) : State :=
  s.onPrm fun p => { p with rings := p.rings.modify r f }

/-- Base address of ring r (R327). -/
def State.ringBase (s : State) (r : Nat) : Nat :=
  s.rd F.PRM_RING_BASE_LO_ADDR r * 4096 + s.rd F.PRM_RING_BASE_HI_ADDR r * 2 ^ 32

/-- 2^SIZE of ring r. -/
def State.ringLen (s : State) (r : Nat) : Nat := 2 ^ s.rd F.PRM_RING_CFG_SIZE r

/-- Is ring r in use? -/
def State.ringEn (s : State) (r : Nat) : Bool := s.rdB F.PRM_RING_CFG_EN r

/-- Is ring r stopped (R329)? -/
def State.ringStopped (s : State) (r : Nat) : Bool := s.rdB F.PRM_RING_STAT_STOPPED r

/-- The difference of two free-running 64-bit indices (R328). -/
def idxDiff (a b : Nat) : Nat := (a + 2 ^ 64 - b % 2 ^ 64) % 2 ^ 64

/-- A memory transaction waits behind those already waiting. -/
def State.memPush (s : State) (x : MemTx) : State := s.onLnk fun l => { l with mem := l.mem ++ [x] }

/-- Words written at an address join the last waiting frame when that frame belongs to the same ring and position, ends
at the address and has fewer than 31 data words (R338); otherwise they start a frame of their own. -/
def State.memAppend (s : State) (pos key addr : Nat) (w : LWord) : State :=
  match s.lnk.mem.getLast? with
  | some x =>
    if x.ftype = 0x20 ∧ x.pos = pos ∧ x.key = key ∧ x.addr + 8 * x.data.length = addr ∧ x.data.length < 31 then
      s.onLnk fun l => { l with mem := l.mem.dropLast ++ [{ x with data := x.data ++ [w] }] }
    else s.memPush { pos := pos, addr := addr, data := [w], key := key }
  | none => s.memPush { pos := pos, addr := addr, data := [w], key := key }

/-- A run of words written from an address up. -/
def State.memWrite (s : State) (pos key addr : Nat) (ws : List LWord) : State :=
  (ws.foldl (fun x w => ((x.1.memAppend pos key x.2 w), x.2 + 8)) (s, addr)).1

/-- The write of ring r's status slot, with the index of this moment (R328). -/
def State.pushStatus (s : State) (r : Nat) : State :=
  let base := s.rd F.PRM_ST_BASE_LO_ADDR * 4096 + s.rd F.PRM_ST_BASE_HI_ADDR * 2 ^ 32
  ((s.onLnk fun l => { l with mem := l.mem.filter fun x => x.key != 100 + r }).memPush
    { pos := 1, addr := base + 8 * r, data := [BitVec.ofNat 64 (s.ring r).head], key := 100 + r }).onRing r fun x =>
      { x with statusAt := some s.clk.count, behind := false }

/-- The status slot of ring r is written with its index: at most once in a microsecond, and not while a write of it waits; the
slot is then behind, and is written later (R340). -/
def State.writeStatus (s : State) (r : Nat) : State :=
  if (s.lnk.mem.any fun x => x.key == 100 + r) || (s.ring r).statusAt.any fun n => decide (s.clk.count < n + s.samplesUs 1) then
    s.onRing r fun x => { x with behind := true }
  else s.pushStatus r

/-- Slots that are behind are written as soon as they may be (R340). -/
def State.catchStatus (s : State) : State :=
  s.forEach (List.range 36) fun s r => if (s.ring r).behind then s.writeStatus r else s

/-- A record header (R336). -/
def recordHeader (len : Nat) (cut pad : Bool) (q recno : Nat) : LWord :=
  word64 [(48, len), (47, cut.toNat), (46, pad.toNat), (40, if pad then 0 else q), (0, recno % 2 ^ 32)]

/-- The bytes that a record of n words after its header needs in ring r, with the pad record before it if it does not
fit before the end (R336). -/
def State.recordNeeds (s : State) (r n : Nat) : Nat :=
  let toEnd := s.ringLen r - (s.ring r).head % s.ringLen r
  if toEnd < 8 * (n + 1) then toEnd + 8 * (n + 1) else 8 * (n + 1)

/-- Can the writer place such a record: the ring in use, not stopped, and with the room it needs (R329, R336)? -/
def State.recordFits (s : State) (r n : Nat) : Bool :=
  s.ringEn r && !s.ringStopped r &&
    decide (s.recordNeeds r n ≤ s.ringLen r - idxDiff (s.ring r).head (s.ring r).tail)

/-- WI moves on by a number of bytes, noted for a change of path (R342). -/
def State.advanceWi (s : State) (r bytes : Nat) : State :=
  let keep := s.samplesUs (s.rd F.LNK_MEM_CFG_TIMEOUT_US)
  s.onRing r fun x =>
    { x with head := (x.head + bytes) % 2 ^ 64, recno := x.recno + 1,
             recent := (x.recent.filter fun e => decide (s.clk.count ≤ e.1 + keep)) ++ [(s.clk.count, x.head)] }

/-! ### Reading a queue (R227 to R239) -/

/-- TYPE of a packet's first word. -/
def pktType (p : Packet) : Nat := (qData (p.words.headD 0)).toNat / 2 ^ 56

/-- The lowest channel that the location code in a packet's first word names (R288, rule 2). -/
def locChannel (l : Nat) : Option Nat :=
  let r := l / 256 % 16
  let c := l / 16 % 16
  let u := l % 16
  if r < 4 then
    if c < 4 then (if u < 4 then some (16 * r + 4 * c + u) else some (16 * r + 4 * c)) else some (16 * r)
  else none

/-- The channel by which a packet is steered (R288): the one its producer gave, else the one its location code names. -/
def pktChannel (p : Packet) : Option Nat :=
  match p.steer with
  | some ch => ch
  | none => locChannel ((qData (p.words.headD 0)).toNat % 2 ^ 32)

/-- The packet types whose word 0 holds a location code in [31:0]. -/
def locTypes : List Nat := [0x06, 0x0F, 0x11, 0x13, 0x19, 0x21, 0x22, 0x31, 0x41, 0x42, 0x43]

/-- The word of a packet that holds a location code in [31:0]: word 1 of an incident report, word 0 of other types that have
one. -/
def locWordOf (type : Nat) : Option Nat := if locTypes.contains type then some 0 else if type = 0x05 then some 1 else none

/-- The consumer starts the oldest packet of queue q (R232, R234). -/
def State.startPacket (s : State) (q : Nat) : State :=
  match (s.queue q).waiting with
  | [] => s
  | p :: rest => s.onQueue q fun x =>
    { x with waiting := rest, reading := some { p with steer := some (pktChannel p) }, readTotal := p.words.length }

/-- The consumer is done with its packet: the space is released, and blocked producers go on (R233, R240). -/
def State.endPacket (s : State) (q : Nat) : State :=
  (s.onQueue q fun x => { x with reading := none, readTotal := 0, flushRead := false, dropRead := false }).unblock q

/-- The consumer reads one word of its packet: the word with EOP, or none where poison cuts the packet (R229, R239). -/
def State.takeWord (s : State) (q : Nat) : State × Option (LWord × Bool) :=
  match (s.queue q).reading with
  | none => (s, none)
  | some p =>
    match p.words with
    | [] => (s.endPacket q, none)
    | w :: rest =>
      let bad := !qParityOk w || decide (2 ≤ qTag w)
      let s := if bad then
          (((s.flag F.QUE_EVT 0).satAdd F.QUE_PARITY_TOTAL_COUNT 0 1).count (0x110 + q) s.locCx 1).report 0x2206 s.locCx q
        else s
      if bad || qTag w == 1 then ((s.endPacket q).satAdd F.QUE_DISCARD_COUNT q 1, none)
      else if qEop w then (s.endPacket q, some (qData w, true))
      else (s.onQueue q fun x => { x with reading := some { p with words := rest } }, some (qData w, false))

/-- The words of the packet being read, up to its end or to the word that cuts it. -/
def State.takePacket (s : State) (q : Nat) : Nat → State × List LWord
  | 0 => (s, [])
  | fuel + 1 =>
    match s.takeWord q with
    | (s, none) => (s, [])
    | (s, some (w, true)) => (s, [w])
    | (s, some (w, false)) =>
      let r := s.takePacket q fuel
      (r.1, w :: r.2)

/-- The ring that takes a packet of queue q (R337). -/
def ringOfPacket (q : Nat) (p : Packet) : Nat :=
  let t := pktType p
  if 4 ≤ q then 16 + (q - 4)
  else if q = 3 then
    if t = 0x31 ∨ t = 0x32 ∨ t = 0x33 then 24 + ((pktChannel p).getD 0) / 16
    else if t = 0x35 ∨ t = 0x36 then 28
    else if t = 0x42 then 29 else if t = 0x43 then 30 else 31
  else if t = 0x11 then 32
  else if t = 0x21 ∨ t = 0x22 then 33
  else if t = 0x13 ∨ t = 0x0F then 34
  else 35

/-- Class of a queue. -/
def classOf (q : Nat) : Nat := if q = 0 then 0 else if q = 1 ∨ q = 2 then 1 else if q = 3 then 3 else 2

/-- Is a class delivered in memory (R337)? The choice takes effect at COMMIT (R330). -/
def State.inMemory (s : State) (c : Nat) : Bool :=
  s.rdB F.PRM_STAT_COMMITTED &&
    (if c = 1 then s.rdB F.PRM_DELIVERY_C1_MEM else if c = 2 then s.rdB F.PRM_DELIVERY_C2_MEM
     else if c = 3 then s.rdB F.PRM_DELIVERY_C3_MEM else false)

/-- Ready words of a queue (R236). -/
def Queue.ready (q : Queue) : Nat :=
  (q.waiting.map fun p => p.words.length).sum + (q.reading.map fun p => p.words.length).getD 0

/-- The count at which the oldest ready word's EOP was stored. -/
def Queue.oldest (q : Queue) : Option Nat :=
  match q.reading with
  | some p => some p.at_
  | none => q.waiting.head?.map fun p => p.at_

/-- The linger time of a class in sample periods (R237). -/
def State.linger (s : State) (c : Nat) : Nat :=
  s.samplesNs (100 * (if c = 1 then s.rd F.QUE_LINGER_C1_LINGER else s.rd F.QUE_LINGER_C3_LINGER))

/-- May a frame or write of a class start from this queue (R236)? -/
def State.queueReady (s : State) (q : Nat) : Bool :=
  let x := s.queue q
  if x.ready = 0 then false
  else if q = 1 ∨ q = 3 then
    decide (32 ≤ x.ready) || decide ((x.oldest.getD 0) + s.linger (classOf q) ≤ s.clk.count)
  else true

/-! ### The data-ring writer (R237, R238, R336 to R338)

It fills one MEM_WR of at most 31 data words after another, as a frame builder fills frames: each begins under R236, and the
next one of a queue is filled when the one before it has gone. DESIGN CHOICE: log entry 87. -/

/-- A MEM_WR being filled: the state, the key of its ring (99 for a job's buffer), its address, its words, those of them that hold
location codes, the rings whose records have ended in it, and whether it is closed. -/
structure WriteUnit where
  s : State
  key : Nat := 0
  addr : Nat := 0
  words : List LWord := []
  locs : List Nat := []
  ended : List Nat := []
  closed : Bool := false

/-- Do words of a key at an address go on with the unit's words (R338)? -/
def WriteUnit.joins (u : WriteUnit) (key addr : Nat) : Bool :=
  u.words.isEmpty || (u.key == key && u.addr + 8 * u.words.length == addr)

/-- One more word. -/
def WriteUnit.put (u : WriteUnit) (key addr : Nat) (w : LWord) (isLoc : Bool) : WriteUnit :=
  { u with key := key, addr := if u.words.isEmpty then addr else u.addr, words := u.words ++ [w]
           locs := if isLoc then u.locs ++ [u.words.length] else u.locs }

/-- The writer's packet of queue q. -/
def State.writing (s : State) (q : Nat) : Option RecWrite := s.prm.writing.getD q none

/-- Note the writer's packet of queue q. -/
def State.setWriting (s : State) (q : Nat) (w : Option RecWrite) : State :=
  s.onPrm fun p => { p with writing := p.writing.set q w }

/-- The class position of the writes of queue q (R340). -/
def writePos (q : Nat) : Nat := if q = 1 then 1 else classOf q

/-- The record ends after its words: WI moves on, and its status slot follows (R336, R341). -/
def WriteUnit.endRecord (u : WriteUnit) (q : Nat) (w : RecWrite) : WriteUnit :=
  let s := u.s.setWriting q none
  match w.ring with
  | some r => { u with s := s.advanceWi r (8 * (w.done + 1)), ended := u.ended ++ [r] }
  | none => { u with s := s, closed := true }

/-- The words filled so far wait as a MEM_WR. -/
def WriteUnit.flush (u : WriteUnit) (q : Nat) : WriteUnit :=
  if u.words.isEmpty then u
  else
    { u with s := u.s.memPush { pos := writePos q, addr := u.addr, data := u.words, key := u.key, locs := u.locs }
             words := [], locs := [] }

/-- The header of a record cut after its words is written again with CUT and the delivered LEN, and the record ends (R338). -/
def WriteUnit.cutRecord (u : WriteUnit) (q : Nat) (w : RecWrite) : WriteUnit :=
  match w.ring with
  | some r =>
    let h := recordHeader w.done true false q (u.s.ring r).recno
    let u := u.flush q
    ({ u with key := r, addr := w.at_, words := [h] } : WriteUnit).flush q |>.endRecord q w
  | none => u.endRecord q w

/-- The next word of the packet under way (R227), when it goes on with the unit and its ring has not stopped (R329). A cut packet's
record ends where it was cut. -/
def WriteUnit.goOn (u : WriteUnit) (q : Nat) (w : RecWrite) : WriteUnit :=
  let key := w.ring.getD 99
  let addr := w.at_ + 8 * (if w.ring.isSome then w.done + 1 else w.done)
  if !u.joins key addr || (w.ring.any fun r => u.s.ringStopped r) then { u with closed := true }
  else
    match u.s.takeWord q with
    | (s, some (x, eop)) =>
      let u := ({ u with s := s } : WriteUnit).put key addr x (w.loc == some w.done)
      let w := { w with done := w.done + 1 }
      if eop then u.endRecord q w else { u with s := u.s.setWriting q (some w) }
    | (s, none) => { ({ u with s := s } : WriteUnit).cutRecord q w with closed := true }

/-- The next packet begins, when it is this writer's, its ring has room and it goes on with the unit: with its record header, or
with a pad record where it does not fit before the end of the ring (R336, R337). -/
def WriteUnit.begin_ (u : WriteUnit) (q : Nat) : WriteUnit :=
  let stop := { u with closed := true }
  match (u.s.queue q).waiting with
  | [] => stop
  | p :: _ =>
    match p.dest with
    | some a =>
      if u.words.isEmpty then
        { u with s := (u.s.startPacket q).setWriting q (some { at_ := a, len := p.words.length }) }
      else stop
    | none =>
      let r := ringOfPacket q p
      let n := p.words.length
      if !u.s.inMemory (classOf q) || !u.s.recordFits r n then stop
      else
        let off := (u.s.ring r).head % u.s.ringLen r
        let toEnd := u.s.ringLen r - off
        let addr := u.s.ringBase r + off
        if !u.joins r addr then stop
        else if toEnd < 8 * (n + 1) then
          let u := u.put r addr (recordHeader (toEnd / 8 - 1) false true 0 (u.s.ring r).recno) false
          { u with s := u.s.advanceWi r toEnd, ended := u.ended ++ [r], closed := true }
        else
          let u := u.put r addr (recordHeader n false false q (u.s.ring r).recno) false
          let w : RecWrite := { ring := some r, at_ := addr, len := n, loc := locWordOf (pktType p) }
          { u with s := (u.s.startPacket q).setWriting q (some w) }

/-- One move of the writer. -/
def WriteUnit.move (q : Nat) (u : WriteUnit) : WriteUnit :=
  if u.closed || decide (31 ≤ u.words.length) then { u with closed := true }
  else
    match u.s.writing q with
    | some w => u.goOn q w
    | none => u.begin_ q

/-- A MEM_WR of queue q: at most 31 data words, one packet beginning before each. Status slots follow it (R341). -/
def State.writeUnit (s : State) (q : Nat) : State :=
  let u := ((List.range 64).foldl (fun u _ => u.move q) ({ s := s } : WriteUnit)).flush q
  u.s.forEach u.ended.eraseDups State.writeStatus

/-- The queue that a memory write carries words of, by its key. -/
def keyQueue (k : Nat) : Option Nat :=
  if 16 ≤ k ∧ k < 24 then some (k - 12) else if (24 ≤ k ∧ k < 32) ∨ k = 99 then some 3
  else if 32 ≤ k ∧ k < 36 then some 1 else none

/-- May a MEM_WR of queue q be filled: the one before it has gone, the packet under way is the writer's or none is, and R236 lets
it start, or the packet under way has been cut (R237, R238)? -/
def State.unitReady (s : State) (q : Nat) : Bool :=
  let x := s.queue q
  !(s.lnk.mem.any fun m => keyQueue m.key == some q) &&
    (if (s.writing q).isSome then x.reading.isNone || s.queueReady q else x.reading.isNone && s.queueReady q)

/-- The queues whose packets the data-ring writer may take. -/
def memQueues : List Nat := [1, 4, 5, 6, 7, 8, 9, 10, 11, 3]

/-- May the Prompter issue memory transactions: committed, not stopped by stage S4, no change of path under way, and a module ID
assigned (R21, R342, R345)? -/
def State.memOpen (s : State) : Bool :=
  s.rdB F.PRM_STAT_COMMITTED && s.rdB F.PRM_STAT_POLLING && !s.prm.paused && s.moduleId != 0

/-- The data-ring writer fills what it may. -/
def State.memService (s : State) : State :=
  if s.memOpen then s.forEach memQueues fun s q => if s.unitReady q then s.writeUnit q else s else s

/-- Records being written are cut, as a data-plane restart cuts them (R242, R345). -/
def State.cutWrites (s : State) : State :=
  s.forEach memQueues fun s q =>
    match s.writing q with
    | some w =>
      let u := ({ s := s } : WriteUnit).cutRecord q w
      u.s.forEach u.ended State.writeStatus
    | none => s

/-! ### Completions (R335, R341, R345) -/

/-- COMPL_RING of a descriptor (R334). -/
def PCmd.cpl (c : PCmd) : Nat := (c.words.headD 0).toNat / 2 ^ 48 % 16

/-- OPCODE of a descriptor (R334). -/
def PCmd.opcode (c : PCmd) : Nat := (c.words.headD 0).toNat / 2 ^ 56

/-- Do n words from an address on meet a command's output? -/
def PCmd.outputs (c : PCmd) (a n : Nat) : Bool := decide (0 < c.outLen ∧ c.outAddr < a + 8 * n ∧ a < c.outAddr + c.outLen)

/-- Is output of a command still waiting to be written (R341, guarantee 4)? -/
def State.outputWaits (s : State) (c : PCmd) : Bool :=
  (s.lnk.mem.any fun x => x.key == 99 && c.outputs x.addr x.data.length) ||
    ((s.writing 3).any fun w => w.ring.isNone && c.outputs w.at_ w.len) ||
    (((s.queue 3).waiting ++ (s.queue 3).blocked).any fun p => p.dest.any fun a => c.outputs a p.words.length)

/-- The words of a completion entry at index wi of a ring of 2^SIZE entries (R335). -/
def completionWords (c : PCmd) (size wi : Nat) : List LWord :=
  [ c.result, word64 [(63, 1 - wi / 2 ^ size % 2), (59, c.status % 16), (32, c.blocks % 2 ^ 27), (0, c.low % 2 ^ 32)] ]

/-- IN_FLIGHT of a command ring (R346). -/
def State.showFlight (s : State) (r : Nat) : State :=
  s.wr F.PRM_RING_STAT_IN_FLIGHT r (s.prm.cmds.filter fun c => c.ring == r).length

/-- Has completion ring cr room for an entry, and is it running (R329, R345)? -/
def State.cplRoom (s : State) (cr : Nat) : Bool :=
  s.ringEn (8 + cr) && !s.ringStopped (8 + cr) && !s.prm.paused &&
    decide (idxDiff (s.ring (8 + cr)).head (s.ring (8 + cr)).tail < s.ringLen (8 + cr))

/-- A completion entry is written, then WI (R335, R341). -/
def State.postEntry (s : State) (c : PCmd) : State :=
  let r := 8 + c.cpl
  let wi := (s.ring r).head
  let ws := completionWords c (s.rd F.PRM_RING_CFG_SIZE r) wi
  let s := s.memWrite 1 r (s.ringBase r + wi % s.ringLen r * 16) ws
  let s := s.onRing r fun x => { x with head := (wi + 1) % 2 ^ 64 }
  let keep := s.samplesUs (s.rd F.LNK_MEM_CFG_TIMEOUT_US)
  let s := s.onPrm fun p =>
    { p with cmds := p.cmds.erase c, cancelled := p.cancelled.filter fun x => x != (c.ring, c.idx)
             entries := (p.entries.filter fun e => decide (s.clk.count ≤ e.2.2.2 + keep)) ++ [(r, wi, ws, s.clk.count)] }
  (s.writeStatus r).showFlight c.ring

/-- Is the command of a cancelled codec job behind one whose entry is still to be written, in a ring that runs (R224)? -/
def State.cancelBehind (s : State) (c : PCmd) : Bool :=
  s.prm.cancelled.contains (c.ring, c.idx) &&
    ((s.prm.cancelled.takeWhile fun x => decide (x ≠ (c.ring, c.idx))).any fun x =>
      s.prm.cmds.any fun d => (d.ring, d.idx) == x && s.ringEn (8 + d.cpl) && !s.ringStopped (8 + d.cpl))

/-- May a command's entry be written: it has finished, its output is written, no earlier command of its ring that names the
same completion ring is unfinished, none of its ring waits for a full one (R341 guarantee 3, R345), and no job cancelled before
its own waits (R224)? -/
def State.mayPost (s : State) (c : PCmd) : Bool :=
  c.finished && !s.outputWaits c && s.cplRoom c.cpl && !s.cancelBehind c &&
    (((s.prm.cmds.takeWhile fun d => decide (d ≠ c)).filter fun d => d.ring == c.ring).all fun d =>
      d.cpl != c.cpl && !(d.finished && !s.cplRoom d.cpl))

/-- Every completion entry that may be written is written, in the order of fetching. -/
def State.postAll (s : State) : State :=
  s.forEach s.prm.cmds fun s c => if s.mayPost c then s.postEntry c else s

/-- A command finishes with its RESULT, STATUS, BLOCKS and word 1 [31:0] (R334, R335); its output failed is HOST_FAULT. -/
def State.finishCmd (s : State) (ring idx : Nat) (result : LWord) (status blocks low : Nat) : State :=
  (s.onPrm fun p => { p with cmds := p.cmds.map fun c =>
    if c.ring = ring ∧ c.idx = idx then
      { c with finished := true, result := result, status := if c.status = 14 then 14 else status
               blocks := blocks, low := low }
    else c }).postAll

/-- The output of a command: words written from an address in host memory as class 3 packets of at most 248 words, without
record headers (R219, R334). -/
def State.pushOutput (s : State) (ring idx addr : Nat) (ws : List LWord) : State :=
  let s := s.onPrm fun p => { p with cmds := p.cmds.map fun c =>
    if c.ring = ring ∧ c.idx = idx then { c with outAddr := addr, outLen := 8 * ws.length } else c }
  s.forEach (List.range (ceilDiv ws.length 248)) fun s i =>
    s.pushPkt 3 { words := packetWords ((ws.drop (248 * i)).take 248), at_ := s.clk.count
                  dest := some (addr + 8 * 248 * i), steer := some none }

end Sys2Proof.Machine
end

