-- ==== Sys2Proof/Machine/Signal.lean ====
section
/-! DEFINITION. The arithmetic of the sample path: sine and cosine in fixed point, interleave correction (R99), skew
correction's interpolator (R127), the notch section (R130), and the channeliser's transform (R138 to R140). Where the manual
bounds a result by accuracy only, its last bit is open (log entry 68). -/

namespace Sys2Proof.Machine

/-- A quotient whose rounding the manual leaves open: the floor, or one more where the division is not exact. -/
def openDiv (site : Nat) (n : Int) (d : Nat) : Int :=
  n / (d : Int) + (if n % (d : Int) = 0 then 0 else ((Config.roundUp site n d).toNat : Int))

/-- A 12-bit code limit (R99, R134). -/
def saturate12 (x : Int) : Int := clampInt (-2048) 2047 x

/-- The sum of a list of products of two sequences over indices below n. -/
def dot (n : Nat) (h x : Nat → Int) : Int := ((List.range n).map fun i => h i * x i).sum

/-! ### Sine and cosine in 2^-96 -/

/-- The ratio of a circle's circumference to its diameter, in 2^-96, rounded down. -/
def piFix : Nat := 0x3243F6A8885A308D313198A2E

/-- Terms of the power series of a sine (o = 1) or a cosine (o = 0) from term k on, x2 being the square of the angle. -/
def trigSeries (x2 : Int) (o : Nat) : Nat → Nat → Int → Int
  | 0, _, _ => 0
  | n + 1, k, t => t + trigSeries x2 o n (k + 1) (-(t * x2 / 2 ^ 96 / ((2 * k + 1 + o) * (2 * k + 2 + o) : Nat)))

/-- Cosine of an angle in radians up to 2 pi, both in 2^-96. -/
def cosFix (x : Nat) : Int := trigSeries ((x * x / 2 ^ 96 : Nat) : Int) 0 28 0 (2 ^ 96)

/-- Sine of an angle in radians up to 2 pi, both in 2^-96. -/
def sinFix (x : Nat) : Int := trigSeries ((x * x / 2 ^ 96 : Nat) : Int) 1 28 0 x

/-! ### Interleave correction (R99) -/

/-- u of R99 in 2^-24 code: the result x in 1/64 code, less the offset, times the gain. -/
def sliceValue (off gain x : Int) : Int := (x - off) * (2 ^ 18 + gain)

/-- The corrected sample of R99: us are the 15 values of the merged stream around it, in 2^-24 code. -/
def correct (fs : Nat) (tau bw : Int) (us : List Int) : Int :=
  let d := dot 15 Config.derivTap fun i => us.getD (14 - i) 0
  let e := dot 15 Config.bandTap fun i => us.getD (14 - i) 0
  saturate12 (rhe (us.getD 7 0 * 2 ^ 50 * 1000000000000 - tau * fs * d * 2 ^ 8 - bw * e * 1000000000000)
    (2 ^ 74 * 1000000000000))

/-! ### Skew correction (R126, R127) -/

/-- The sample with count n after a delay of skew / 256 samples: x gives the samples before skew correction by count. The
integer part is a delay, the fraction is applied by the 16 taps of its phase. -/
def delayed (x : Int → Int) (skew : Int) (n : Int) : Int :=
  saturate12 (openDiv 3 (dot 16 (Config.interpTap (skew % 256).toNat) fun j => x (n - skew / 256 + 7 - j)) (2 ^ 32))

/-! ### Notches (R130) -/

/-- a and b of a notch at f Hz of width bw Hz, with 32 fractional bits: tan and cos as quotients of the series, t left out of
a = (1 - t) / (1 + t) by multiplying with the cosine. -/
def notchCoef (fs f bw : Nat) : Int × Int :=
  let c := cosFix (piFix * bw / fs)
  let n := sinFix (piFix * bw / fs)
  (openDiv 0 ((c - n) * 2 ^ 32) (c + n).toNat, openDiv 1 (cosFix (2 * piFix * f / fs)) (2 ^ 64))

/-- One sample through a notch, in 2^-32 code; a notch out of use passes it on (R130, R132). -/
def Notch.run (c : Notch) (x : Int) : Int × Notch :=
  if c.on then
    let y := openDiv 2 ((2 ^ 32 + c.a) * (2 ^ 32 * x - 2 * c.b * c.x1 + 2 ^ 32 * c.x2)
      + 2 * c.b * (2 ^ 32 + c.a) * c.y1 - c.a * 2 ^ 33 * c.y2) (2 ^ 65)
    (y, { c with x1 := x, x2 := c.x1, y1 := y, y2 := c.y1 })
  else (x, c)

/-- One sample through notches 0 to 7 in cascade (R125). -/
def cascade : List Notch → Int → Int × List Notch
  | [], x => (x, [])
  | c :: cs, x =>
    let r := c.run x
    let q := cascade cs r.1
    (q.1, r.2 :: q.2)

/-- Samples through the cascade, one after another. -/
def cascadeAll (cs : List Notch) : List Int → List Int × List Notch
  | [] => ([], cs)
  | x :: xs =>
    let r := cascade cs x
    let q := cascadeAll r.2 xs
    (r.1 :: q.1, q.2)

/-! ### The channeliser's transform (R138 to R140) -/

/-- The 8192 branch sums of a frame: 4 taps for each branch over its 32,768 samples (R138). -/
def branchSums (tap : Nat → Int) (xs : List Int) : List Int :=
  let rows := (List.range 4).map fun q => (xs.drop (8192 * q)).take 8192
  (List.range 8192).map fun k => dot 4 (fun q => tap (8192 * q + k)) fun q => (rows.getD q []).getD k 0

/-- cos and sin of 2 pi k / 8192 for k below 8192, in 2^-48. -/
def twiddles : Array (Int × Int) :=
  ((List.range 8192).map fun k =>
    (cosFix (2 * piFix * k / 8192) / 2 ^ 48, sinFix (2 * piFix * k / 8192) / 2 ^ 48)).toArray

/-- The power of bin b of the transform of the branch sums v (R139). -/
def binSquare (v : List Int) (b : Nat) : Nat :=
  let w := (List.range 8192).zip v
  let re := (w.map fun p => p.2 * (twiddles.getD (b * p.1 % 8192) (0, 0)).1).sum
  let im := (w.map fun p => p.2 * (twiddles.getD (b * p.1 % 8192) (0, 0)).2).sum
  (re * re + im * im).toNat

/-- A power as a level in 1/256 dB, rounded down: 2560 times its decimal logarithm. The estimate from the binary logarithm is
right or one too low. -/
def levelOf (p : Nat) : Int :=
  if p = 0 then -1000000
  else
    let k := Nat.log2 (p ^ 2560) * 30102999 / 100000000
    if 10 ^ (k + 1) ≤ p ^ 2560 then (k + 1 : Nat) else (k : Nat)

end Sys2Proof.Machine
end

