-- ==== Sys2Proof/Machine/Stream.lean ====
section
/-! DEFINITION. The Sage stream (R125, R134, R210 to R212): a channel's runs, FIR and decimation, the packets of the
encoder groups with their admission into the class 2 sub-queues (R39, R232), APPLY, flushes (R240) and the drop of a
class 3 packet (R241). -/

namespace Sys2Proof.Machine

/-! ### What was in force at a count -/

/-- The entry of a history that holds at count n: the newest one from n or before. -/
def histAt {a : Type} (h : List (Nat × a)) (n : Nat) : Option a := (h.find? fun p => decide (p.1 ≤ n)).map fun p => p.2

/-- The stream mode of a channel at count n, 0 when it is not streamed (R210). -/
def Chan.modeAt (c : Chan) (n : Nat) : Nat := (histAt c.streams n).getD 0

/-- DECIM, ORDER and bank of a channel at count n (R135). -/
def Chan.chainAtCount (c : Chan) (n : Nat) : Nat × Nat × Nat := (histAt c.chains n).getD (c.decim, c.order, 0)

/-- Did the channel take every sample from a to b - 1? -/
def Chan.took (c : Chan) (a b : Nat) : Bool :=
  (match c.since with
   | some n => decide (n ≤ a)
   | none => false) || c.ran.any fun r => decide (r.1 ≤ a ∧ b ≤ r.2)

/-- The mode in effect for channel ch: its ACTIVE mode while the stream is on for it (R210). -/
def State.liveMode (s : State) (ch : Nat) : Nat :=
  if s.stream.on.testBit ch && !s.stream.held then s.rd F.CDC_STREAM_MODE_ACTIVE ch else 0

/-! ### Packets in progress (R39, R232, R240) -/

/-- An encoder group begins a packet: it reserves the packet's length in its sub-queue, when there is space (R232). -/
def State.beginPacket (s : State) (ch n0 len : Nat) : State :=
  let q := 4 + ch / 8
  let x := s.queue q
  let words := if x.fill + len ≤ queueCap q then len else 0
  if x.progress.any fun p => p.1 == ch && p.2.1 == n0 then s
  else (s.onQueue q fun x => { x with progress := x.progress ++ [(ch, n0, words)] }).hwm q

/-- The packet of a channel that begins at or after count n, when it is streamed then. -/
def State.beginFrom (s : State) (ch n : Nat) : State :=
  let n0 := nextMultiple (1024 * s.decimOf ch) n
  let len := packetLen (s.liveMode ch)
  if len = 0 then s else s.beginPacket ch n0 len

/-- A packet of the flush set is discarded (R240, step 4). -/
def State.flushOne (s : State) (q ch n0 : Nat) : State :=
  let s := s.onQueue q fun x =>
    { x with flushSet := x.flushSet.filter fun p => p != (ch, n0), flushCount := x.flushCount + 1 }
  { s.count (0xC0 + ch) (s.locCxUnit ch) 1 with fau :=
      { s.fau with discardSecond := s.fau.discardSecond + 1 } }

/-- The tagged blocks of a discarded packet reach no further point (R448, R449). -/
def State.discardTags (s : State) (ch a b : Nat) : State :=
  { s with pmc := { s.pmc with tags := s.pmc.tags.map fun t =>
      if t.ch = ch ∧ a ≤ t.n ∧ t.n < b then { t with discarded := true } else t } }

/-- A channel stops: its packets that can no longer complete are discarded by the encoder, which releases their space, and
those of a flush set count among its packets (R240). -/
def State.dropProgress (s : State) (ch n : Nat) : State :=
  let q := 4 + ch / 8
  let d := 1024 * s.decimOf ch
  let gone := (s.queue q).progress.filter fun p => p.1 == ch && decide (n < p.2.1 + d)
  let s := s.onQueue q fun x => { x with progress := x.progress.filter fun p => !gone.contains p }
  let s := s.forEach gone fun s p => s.discardTags ch p.2.1 (p.2.1 + d)
  s.forEach (gone.filter fun p => (s.queue q).flushSet.contains (ch, p.2.1)) fun s p => s.flushOne q ch p.2.1

/-! ### Runs of a channel -/

/-- A channel begins to take samples at count n: its detector starts (R174), its stream packets begin at the next
boundary, its histories note what is in force, and its skew line and filtered road start empty (R137). -/
def State.startChannel (s : State) (ch n : Nat) (notches : List Notch) : State :=
  if (s.chan ch).since.isSome then s
  else
    let mode := s.liveMode ch
    let bank := s.rd F.FLT_CHAIN_BANK ch
    let skew := s.rdS F.FLT_SKEW_EFF_EFF ch
    let s := s.onChan ch fun c =>
      { c with since := some n, streams := [(n, mode)], chains := [(n, c.decim, c.order, bank)], recent := []
               line := (n, []), skews := [(n, skew)], notches := notches, notchNew := [], road := [], bg := {} }
    (s.startDetector ch n).beginFrom ch n

/-- A channel stops taking samples at count n. -/
def State.stopChannel (s : State) (ch n : Nat) : State :=
  match (s.chan ch).since with
  | none => s
  | some a => (s.onChan ch fun c => { c with since := none, ran := (a, n) :: c.ran }).dropProgress ch n

/-! ### FIR and decimation (R134) -/

/-- h[i] of a bank of channel ch, i from 0 to N (R134, R146). -/
def State.firTap (s : State) (ch bank order i : Nat) : Int :=
  let f := halfOrder order
  let j := if i ≤ f then i else 2 * f - i
  s.rdS F.FLT_FIR_COEF_COEF (128 * ch + 64 * bank + j)

/-- The FIR's output before its limits: the sum over the taps, unity at 2^16, of inputs in 2^-32 code, rounded half-even
(R134). xs holds the input from F samples before the output of index 0 on. -/
def State.firSum (s : State) (ch bank order : Nat) (xs : List Int) (k : Nat) : Int :=
  let n := 2 * halfOrder order
  let w := (xs.drop k).take (n + 1)
  rhe ((List.range (n + 1)).zipWith (fun i x => s.firTap ch bank order i * x) w).sum (2 ^ 48)

/-- The FIR's outputs over n counts (R134). DEDUCED: log entry 47. -/
def State.firOut (s : State) (ch bank order : Nat) (xs : List Int) (n : Nat) : List Int :=
  (List.range n).map fun k => s.firSum ch bank order xs k

/-- The filtered road's block at count n, in 2^-32 code: 0 before the run, and open beyond it (R137). -/
def Chan.roadAt (c : Chan) (ch n : Nat) : List Int :=
  match c.road.find? fun b => b.1 == n with
  | some b => b.2
  | none =>
    if c.road.all fun b => decide (n < b.1) then List.replicate 64 0
    else (List.range 64).map fun i => saturate12 (Config.gapSample ch (n + i)) * 2 ^ 32

/-- The FIR's input for n blocks from count n0 on: from F samples before n0 (R134). -/
def Chan.firInput (c : Chan) (ch order n0 n : Nat) : List Int :=
  let before := if n0 = 0 then List.replicate 64 0 else c.roadAt ch (n0 - 64)
  (before ++ (List.range (n + 1)).flatMap fun j => c.roadAt ch (n0 + 64 * j)).drop (64 - halfOrder order)

/-- The FIR runs on every sample: with the block after it on the road, the block before n gives its outputs, and those that
saturate are counted (R134). -/
def State.firBlock (s : State) (ch n : Nat) : State :=
  let c := s.chan ch
  if n < 64 ∨ !(c.road.any fun b => b.1 + 64 == n) then s
  else
    let (_, order, bank) := c.chainAtCount (n - 64)
    let out := s.firOut ch bank order (c.firInput ch order (n - 64) 1) 64
    s.count (0x40 + ch) (s.locUnit ch) (out.filter fun y => y != saturate12 y).length

/-! ### Stream packets (R211, R212, R216) -/

/-- The CUE flags of a packet's 16 blocks: each accepted cue marks the first block that has not left its encoder. A block
leaves it some time after its first sample is taken (R47, point 5), which is free within its limits. Answers the flags
and the acceptances that no block of this packet carries (R182). -/
def cueFlags (accepts : List Nat) (left : List Nat) : List Bool × List Nat :=
  let place := fun a => (left.findIdx? fun l => decide (a < l))
  (( List.range left.length).map fun j => accepts.any fun a => place a == some j,
   accepts.filter fun a => (place a).isNone)

/-- The tracer selector draws for a block (R446): a free value whose low K bits are 0 tags it, unless 64 are in flight or
the record buffer is full, when it counts as missed. -/
def State.traceBlock (s : State) (ch n mode decim : Nat) : State :=
  if s.rdB F.PMC_CTL_TRC_EN && s.stage == 0 && s.mapBit F.PMC_TRC_CHAN_LO_MAP F.PMC_TRC_CHAN_HI_MAP 0 ch then
    let (v, s) := s.freeBelow (2 ^ s.rd F.PMC_CTL_TRC_K)
    if v ≠ 0 then s
    else
      let waiting := ((s.queue 3).blocked.filter fun p => (qData (p.words.headD 0)).toNat / 2 ^ 56 == 0x43).length
      if 64 ≤ s.pmc.tags.length ∨ 64 ≤ waiting then (s.satAdd F.PMC_TRC_MISSED_COUNT 0 1).flag F.PMC_EVT 2
      else { s with pmc := { s.pmc with tags := s.pmc.tags ++ [{ ch := ch, n := n, mode := mode, decim := decim }] } }
  else s

/-- The path whose lack of capacity holds sub-queue g: 2 under the both policy (R39). -/
def State.heldPath (s : State) (g : Nat) : Nat :=
  if s.rdB F.PRM_DELIVERY_C2_MEM && s.rdB F.PRM_STAT_COMMITTED then s.rd F.LNK_MEM_CFG_PATH
  else
    let pol := s.rd F.LNK_CLASS_POL_C2_POL
    if pol = 0 then 2 else if pol = 1 then 0 else if pol = 2 then 1
    else ((s.rd F.LNK_CLASS_POL_SPLIT_MAP).testBit g).toNat

/-- A whole packet that its sub-queue cannot take is discarded and counted (R39). -/
def State.discardPacket (s : State) (ch : Nat) : State :=
  let q := 4 + ch / 8
  let s := ((s.satAdd F.QUE_DISCARD_COUNT q 1).flag F.QUE_EVT 1).count (0xC0 + ch) (s.locCxUnit ch) 1
  let s := { s with fau := { s.fau with discardSecond := s.fau.discardSecond + 1 } }
  s.report 0x3002 s.locCx (s.heldPath (ch / 8))

/-- A completed packet enters its sub-queue whole, or not at all (R39, R212, R232); one of a flush set is discarded
(R240), by R39 first when it finds no space (R242). -/
def State.storePacket (s : State) (ch n0 d : Nat) (ws : List LWord) : State :=
  let q := 4 + ch / 8
  let entry := (s.queue q).progress.find? fun p => p.1 == ch && p.2.1 == n0
  let s := s.onQueue q fun x => { x with progress := x.progress.filter fun p => !(p.1 == ch && p.2.1 == n0) }
  let reserved := match entry with
    | some p => p.2.2 != 0
    | none => decide ((s.queue q).fill + ws.length ≤ queueCap q)
  if !reserved then
    let s := s.onQueue q fun x => { x with flushSet := x.flushSet.filter fun p => p != (ch, n0) }
    (s.discardTags ch n0 (n0 + 1024 * d)).discardPacket ch
  else if (s.queue q).flushSet.contains (ch, n0) then (s.discardTags ch n0 (n0 + 1024 * d)).flushOne q ch n0
  else s.enqueue q { words := packetWords ws, at_ := s.clk.count, ch := ch, n0 := n0 }

/-- Has the road all that the FIR needs of the packet from n0 to n0 + span: its last block, and the block after it unless the
run ended before? -/
def Chan.roadFull (c : Chan) (n0 span : Nat) : Bool :=
  (c.road.any fun b => b.1 + 64 == n0 + span) &&
    (!c.took (n0 + span) (n0 + span + 64) || c.road.any fun b => b.1 == n0 + span)

/-- The count at which block j of the packet of channel ch from n0 on leaves its encoder: 230 to 440 ns after its last sample
(R47, point 5), by a delay of its packet that the spec leaves open, and earlier with a lower order (R134). -/
def State.leaves (s : State) (ch n0 j : Nat) : Nat :=
  let (dc, order, _) := (s.chan ch).chainAtCount n0
  let d := 2 ^ dc
  let late := Config.encoderDelay ch n0 % (s.samplesNs 440 - s.samplesNs 230 + 1)
  n0 + 64 * d * j + 64 * (d - 1) + s.samplesNs 230 + late - (48 - halfOrder order)

/-- Is another packet of the group complete before this one, or at the same instant with a lower channel (R212)? -/
def State.packetBefore (s : State) (ch n0 : Nat) : Bool :=
  (s.queue (4 + ch / 8)).progress.any fun p =>
    (s.chan p.1).since.isSome && decide (packetLen ((s.chan p.1).modeAt p.2.1) ≠ 0) && p.1 != ch &&
      (let a := s.leaves p.1 p.2.1 15
       let b := s.leaves ch n0 15
       decide (a < b ∨ (a = b ∧ p.1 < ch)))

/-- STREAM_PACKET_COMPLETE: the packet of channel ch from raw count n0 is complete, once its last block has left the encoder
(R182, R211, R212). flips are bits that the encoder inverts, by block and place, bad the blocks at which the second decoder errs
(R216). With a lower order each block leaves earlier
(R134). -/
def State.doStreamPacket (s : State) (ch n0 : Nat) (flips : List (Nat × Nat)) (bad : List Nat) : State :=
  let c := s.chan ch
  let mode := c.modeAt n0
  let (dc, order, bank) := c.chainAtCount n0
  let d := 2 ^ dc
  let span := 1024 * d
  if packetLen mode = 0 || n0 % span != 0 || !c.took n0 (n0 + span) || (c.sent.any fun m => decide (n0 ≤ m))
      || !c.roadFull n0 span || s.packetBefore ch n0 then s
  else
    let out := s.firOut ch bank order (c.firInput ch order n0 (16 * d)) span
    let kept := (List.range 1024).map fun k => saturate12 (out.getD (k * d) 0)
    let left := (List.range 16).map fun j => s.leaves ch n0 j
    let s := s.toCount (max (n0 + span) (left.getD 15 0))
    let cues := cueFlags (s.chan ch).cue left
    let k0 := n0 / d
    let upset := fun (j : Nat) => ({ flips := (flips.filter fun p => p.1 == j).map fun p => p.2, bad := bad.contains j } : Upset)
    let blocks := (List.range 16).map fun j =>
      codeBlock mode ((kept.drop (64 * j)).take 64) (s.streamAttr ch d (k0 + 64 * j) (cues.1.getD j false)) (upset j)
    let fails := (List.range 16).filter fun j => blockFails mode ((kept.drop (64 * j)).take 64) (upset j)
    let s := s.forEach fails fun s _ => s.verifyFail ch
    let s := s.forEach (List.range 16) fun s j => s.traceBlock ch (n0 + 64 * d * j) mode dc
    let s := s.onChan ch fun c => { c with cue := cues.2, sent := some n0 }
    let s := s.storePacket ch n0 d (streamHeader ch dc mode n0 :: packBits blocks.flatten)
    if (s.chan ch).since.isSome ∧ (s.chan ch).modeAt (n0 + span) ≠ 0 then
      s.beginPacket ch (n0 + span) (packetLen ((s.chan ch).modeAt (n0 + span)))
    else s

/-! ### APPLY (R210, R224) -/

/-- The staged stream modes (R210). -/
def State.stagedModes (s : State) : List Nat := allChans.map fun ch => s.rd F.CDC_STREAM_MODE_MODE ch

/-- The path that refuses the staged modes and enable, if one does (R38). -/
def State.stagedRefused (s : State) : Option Nat :=
  let on := if s.rdB F.CDC_STREAM_CTL_EN then 0xFFFFFFFFFFFFFFFF else 0
  AdmitCfg.refusedBy { s.admitCfg with modes := s.stagedModes, on := on } s.clk.fs

/-- An accepted APPLY waits; it replaces one that waits (R210). -/
def State.acceptApply (s : State) : State :=
  let pend := some (s.stagedModes, s.rdB F.CDC_STREAM_CTL_EN, s.clk.count + 32, 0xFFFFFFFFFFFFFFFF)
  let s := (s.wr F.CDC_STREAM_STAT_REFUSED 0 0).wr F.CDC_STREAM_STAT_APPLY_PENDING 0 1
  { s with stream := { s.stream with pend := pend } }

/-- STREAM_APPLY: a write of CDC_STREAM_CMD.APPLY judges the staged modes and enable. A refused one sets REFUSED with the path
(R38, R210). -/
def State.doStreamApply (s : State) : State :=
  s.judge s.stagedRefused
    (fun s p => ((s.wr F.CDC_STREAM_STAT_REFUSED 0 1).wr F.CDC_STREAM_STAT_REFUSED_PATH 0 p).admitFault p) State.acceptApply

/-- The new mode of one channel from count n on (R210). -/
def State.setMode (s : State) (ch n mode : Nat) (en : Bool) : State :=
  let s := s.wr F.CDC_STREAM_MODE_ACTIVE ch mode
  let on := s.stream.on - (if s.stream.on.testBit ch then 2 ^ ch else 0) + (if en then 2 ^ ch else 0)
  let s := { s with stream := { s.stream with on := on } }
  let live := s.liveMode ch
  let s := s.onChan ch fun c => { c with streams := (n, live) :: c.streams }
  let q := 4 + ch / 8
  let s := s.onQueue q fun x => { x with progress := x.progress.filter fun p => !(p.1 == ch && p.2.1 == n) }
  if (s.chan ch).since.isSome then s.beginFrom ch n else s

/-- STREAM_APPLY_TAKE_EFFECT: at the next packet boundary of a waiting APPLY, the channels whose boundary it is take their
new modes; the last of them ends the wait (R210). DEDUCED: log entry 54. -/
def State.doStreamApplyEffect (s : State) : State :=
  match s.stream.pend with
  | none => s
  | some (modes, en, least, left) =>
    let chs := mapChans left
    let at_ := fun (ch : Nat) => nextMultiple (1024 * s.decimOf ch) least
    match (chs.map at_).min? with
    | none => s
    | some n =>
      let now := chs.filter fun ch => at_ ch == n
      let s := (s.toCount n).wrB F.CDC_STREAM_CTL_EN_ACTIVE 0 en
      let s := s.forEach now fun s ch => s.setMode ch n (modes.getD ch 0) en
      let rest := left - (now.map fun ch => 2 ^ ch).sum
      let s := { s with stream := { s.stream with pend := if rest = 0 then none else some (modes, en, least, rest) } }
      s.wrB F.CDC_STREAM_STAT_APPLY_PENDING 0 (rest != 0)

/-- Stage S3 stops each channel's stream at its next packet boundary, and S2 restores it at the first one (R395). -/
def State.holdStream (s : State) (held : Bool) : State :=
  if s.stream.held = held then s
  else
    let s := { s with stream := { s.stream with held := held } }
    s.forEach (allChans.filter fun ch => (s.chan ch).since.isSome) fun s ch =>
      let n := nextMultiple (1024 * s.decimOf ch) (s.clk.count + 1)
      let live := s.liveMode ch
      let s := s.onChan ch fun c => { c with streams := (n, live) :: c.streams }
      if held then
        s.onQueue (4 + ch / 8) fun x => { x with progress := x.progress.filter fun p => !(p.1 == ch && decide (n ≤ p.2.1)) }
      else s.beginFrom ch n

/-! ### Flush, drop and high-water marks (R240, R241, R243) -/

/-- FLUSH_BUSY of sub-queue g. -/
def State.flushBusy (s : State) (g : Nat) : Bool := (s.rd F.QUE_CMD_STAT_FLUSH_BUSY).testBit g

/-- Set FLUSH_BUSY of sub-queue g. -/
def State.setFlushBusy (s : State) (g : Nat) (b : Bool) : State :=
  let v := s.rd F.QUE_CMD_STAT_FLUSH_BUSY
  s.wr F.QUE_CMD_STAT_FLUSH_BUSY 0 (if b then v ||| 2 ^ g else v - (if v.testBit g then 2 ^ g else 0))

/-- QUEUE_FLUSH_DONE: the packets in progress of the flush set are gone and the packet being read is done; FLUSH_BUSY
clears and QUE_DISCARD has the packets discarded (R240, step 5). -/
def State.doFlushDone (s : State) (g : Nat) : State :=
  let q := 4 + g
  let x := s.queue q
  if s.flushBusy g && x.flushSet.isEmpty && !x.flushRead then
    ((s.setFlushBusy g false).satAdd F.QUE_DISCARD_COUNT q x.flushCount).onQueue q fun x => { x with flushCount := 0 }
  else s

/-- QUEUE_FLUSH: the flush set of sub-queue g is fixed and its waiting packets are discarded (R240, steps 1 and 2). With
nothing in progress and nothing being read the flush ends at once (R242). A busy sub-queue ignores the bit. -/
def State.doQueueFlush (s : State) (g : Nat) : State :=
  if s.flushBusy g then s
  else
    let q := 4 + g
    let x := s.queue q
    let waiting := x.waiting
    let set := (x.progress.filter fun p => decide (p.2.1 < s.clk.count)).map fun p => (p.1, p.2.1)
    let s := (s.setFlushBusy g true).onQueue q fun x =>
      { x with waiting := [], flushSet := set, flushCount := 0, flushRead := x.reading.isSome }
    let s := s.forEach waiting fun s p => (s.discardTags p.ch p.n0 (p.n0 + 1024 * s.decimOf p.ch)).flushOne q p.ch p.n0
    s.doFlushDone g

/-- DROP3: the class 3 packet being read is to be cut; with none, DROP_NONE_SEEN (R241, step 1). -/
def State.doDrop3 (s : State) : State :=
  if s.rdB F.QUE_CMD_STAT_DROP_BUSY then s
  else if (s.queue 3).reading.isNone then s.flag F.QUE_EVT 2
  else (s.wr F.QUE_CMD_STAT_DROP_BUSY 0 1).onQueue 3 fun x => { x with dropRead := true }

/-- DROP3_DONE: the packet is cut and the rest of it discarded through EOP, or it had already ended (R241, steps 2 and
3). -/
def State.doDrop3Done (s : State) : State :=
  if !s.rdB F.QUE_CMD_STAT_DROP_BUSY then s
  else
    let s' := s.wr F.QUE_CMD_STAT_DROP_BUSY 0 0
    if (s.queue 3).dropRead then (s'.endPacket 3).satAdd F.QUE_DISCARD_COUNT 3 1 else s'.flag F.QUE_EVT 2

/-- HWM_RESET: a write of QUE_HWM sets it to the present fill (R243). -/
def State.doHwmReset (s : State) (q : Nat) : State := s.wr F.QUE_HWM_WORDS q (s.queue q).fill

end Sys2Proof.Machine
end

