-- ==== Sys2Proof/Machine/Watch.lean ====
section
/-! DEFINITION. Watch cells and spectral masks (R149 to R167): the cell and its update rule, channel modes, occupancy and
mask records with their token bucket, masks and their violations, and the swaps of the banked tables. -/

namespace Sys2Proof.Machine

/-! ### Banked tables (R144, R167) -/

/-- A word of the active bank of a banked table. -/
def State.bankGet (s : State) (a : Nat) : Word := tableGet (coldWord a) s.banks a

/-- A field of the active bank of a banked table. -/
def State.bankRd (s : State) (f : Fld) (i : Nat := 0) : Nat := getField (s.bankGet (f.addr i)) f.lo f.width

/-- A table with the keys from lo below hi taken from another one. -/
def swapRange {v : Type} (lo hi : Nat) (own other : Table v) : Table v :=
  (own.filter fun p => decide (p.1 < lo)) ++ (other.filter fun p => decide (lo ≤ p.1 ∧ p.1 < hi))
    ++ own.filter fun p => decide (lo ≤ p.1 ∧ hi ≤ p.1)

/-- The active and the shadow bank of the addresses from lo below hi exchange places. -/
def State.swapBanks (s : State) (lo hi : Nat) : State :=
  { s with regs := swapRange lo hi s.regs s.banks, banks := swapRange lo hi s.banks s.regs }

/-! ### The cell (R149) and its update rule (R154) -/

/-- The fields of a watch cell (R149). -/
structure Cell where
  on : Bool := false
  acc : Int := 0
  level : Int := 0
  duty : Nat := 0
  dwell : Nat := 0
  last : Nat := 0
  deriving DecidableEq, Repr

/-- The cell that a 64-bit word holds (R149). -/
def unpackCell (w : LWord) : Cell :=
  let n := w.toNat
  { on := n.testBit 63, acc := signed 26 (n / 2 ^ 37), level := signed 10 (n / 2 ^ 27), duty := n / 2 ^ 19 % 256,
    dwell := n / 2 ^ 12 % 128, last := n % 4096 }

/-- The 64-bit word of a cell (R149). -/
def Cell.pack (x : Cell) : LWord :=
  BitVec.ofNat 64 (x.on.toNat * 2 ^ 63 + wrapBits 26 x.acc * 2 ^ 37 + wrapBits 10 x.level * 2 ^ 27
    + x.duty % 256 * 2 ^ 19 + x.dwell % 128 * 2 ^ 12 + x.last % 4096)

/-- q of R154 from a power in 1/256 dB. -/
def quarterDb (p : Int) : Int := clampInt (-512) 511 (rhe p 64)

/-- The first part of R154: the running sum takes the frame's term, or LEVEL in its place (R152). -/
def Cell.add (x : Cell) (first clean : Bool) (p : Int) : Cell :=
  { x with acc := (if first then 0 else x.acc) + (if clean then quarterDb p else x.level) }

/-- A held interval ends (R154). -/
def Cell.hold (x : Cell) (running : Bool) : Cell :=
  { x with acc := 0, last := if running then min (x.last + 1) 4095 else x.last }

/-- DUTY moves towards 255 or 0 (R154). -/
def dutyStep (duty : Nat) (on : Bool) (shift : Nat) : Nat :=
  let target : Int := if on then 255 else 0
  let d := Int.tdiv (target - duty) (2 ^ shift : Nat)
  let d := if d = 0 ∧ (duty : Int) ≠ target then (if (duty : Int) < target then 1 else -1) else d
  ((duty : Int) + d).toNat

/-- An interval of 2^k frames is evaluated (R154). -/
def Cell.evaluate (x : Cell) (k : Nat) (onThr offThr : Int) (shift : Nat) (running : Bool) : Cell :=
  let level := rhe x.acc (2 ^ k)
  let new := if !x.on && decide (onThr ≤ level) then true else if x.on && decide (level < offThr) then false else x.on
  { on := new, acc := 0, level := level, duty := dutyStep x.duty new shift
    dwell := if new != x.on then min (x.last + 1) 127 else x.dwell
    last := if new != x.on then 0 else if running then min (x.last + 1) 4095 else x.last }

/-! ### Channels of the watch cells (R151) -/

/-- WCH_CHAN.MODE (R151, R167). -/
def modeStopped : Nat := 0
def modePriming : Nat := 1
def modeRunning : Nat := 2

/-- Change the watch cells' own state. -/
def State.onWch (s : State) (f : Wch → Wch) : State := { s with wch := f s.wch }

/-- Watch-cell state of channel ch. -/
def State.wchan (s : State) (ch : Nat) : WChan := s.wch.chans.getD ch {}

/-- Change the watch-cell state of channel ch. -/
def State.onWchan (s : State) (ch : Nat) (f : WChan → WChan) : State :=
  s.onWch fun w => { w with chans := w.chans.modify ch f }

/-- MODE of channel ch. -/
def State.wmode (s : State) (ch : Nat) : Nat := s.rd F.WCH_CHAN_MODE ch

/-- Channel ch enters PRIMING: the interval under way is discarded (R151, R155). -/
def State.prime (s : State) (ch : Nat) : State :=
  (s.wr F.WCH_CHAN_MODE ch modePriming).onWchan ch fun c =>
    { c with begun := false, spoilt := false, reprime := false, subst := 0, clipped := 0, held := [] }

/-- Is channel ch one that R151 holds STOPPED? During a rate switch no channel produces frames. -/
def State.watchStopped (s : State) (ch : Nat) : Bool :=
  !s.producing ch || s.chn.start.isNone || !s.rdB F.WCH_CTL_EN || s.clk.fs != s.clk.fsCfg || decide (2 ≤ s.stage)
    || s.plane.switch.any fun w => w.stage != 0

/-- Is channel ch still to begin, with all else in order? After a reset it stays in PRIMING until then (R151, R167).
DEDUCED: log entry 81. -/
def State.watchBegins (s : State) (ch : Nat) : Bool :=
  (s.chan ch).since.isNone && (s.chan ch).ran.isEmpty && s.chn.start.isSome && s.rdB F.WCH_CTL_EN
    && s.clk.fs == s.clk.fsCfg && decide (s.stage < 2)

/-! ### The token bucket and records (R158, R160, R165) -/

/-- The bucket gains PER_FRAME tokens at each frame boundary up to the end of frame m (R160). DEDUCED: log entry 49. -/
def State.feedTokens (s : State) (m : Nat) : State :=
  let fed := s.wch.tokenFrame.getD 0
  if fed < m + 1 then
    s.onWch fun w =>
      { w with tokens := min (s.rd F.WCH_EVT_BUCKET_DEPTH) (w.tokens + (m + 1 - fed) * s.rd F.WCH_EVT_BUCKET_PER_FRAME)
               tokenFrame := some (m + 1) }
  else s

/-- A record takes a token and enters class 1, or is dropped (R160). lost gives the record with its LOST bit. The answer
says whether it was sent. -/
def State.sendRecord (s : State) (event : Nat) (rec_ : Bool → List LWord) : Bool × State :=
  if s.wch.tokens = 0 then
    (false, (((s.satAdd F.WCH_EVT_DROPPED_COUNT 0 1).flag F.WCH_EVT_STAT 0).count 0x172 s.locCx 1).onWch fun w =>
      { w with lost := true })
  else
    let lost := s.wch.lost
    (true, ((s.onWch fun w => { w with tokens := w.tokens - 1, lost := false }).push 1 (rec_ lost)).count event s.locCx 1)

/-- T48 of the last sample of frame m, at [63:16]. -/
def State.frameT48 (s : State) (m : Nat) : LWord := word64 [(16, t48 (s.timeOf (8192 * m + 8191)))]

/-- An occupancy event record (R158). -/
def State.occupancyRecord (s : State) (ch sub m : Nat) (x : Cell) (lost : Bool) : List LWord :=
  let c := s.wchan ch
  [ word64 [(56, 0x21), (52, 4), (51, x.on.toNat), (50, lost.toNat), (49, (decide (0 < c.clipped)).toNat),
            (44, s.rd F.WCH_CHAN_K ch), (32, sub), (0, s.locCxUnit ch)],
    word64 [(16, t48 (s.timeOf (8192 * m + 8191))), (6, wrapBits 10 x.level)], BitVec.ofNat 64 m,
    word64 [(56, x.duty), (49, x.dwell), (32, c.subst), (15, c.clipped)] ]

/-- A cell changed state at the end of frame m (R157): its record, and the bit 7 cue unless the record was dropped. -/
def State.occupancy (s : State) (ch sub m : Nat) (x : Cell) : State :=
  let emit := if x.on then s.rdB F.WCH_CHAN_EVT_ON ch else s.rdB F.WCH_CHAN_EVT_OFF ch
  let cue := if x.on then s.rdB F.WCH_CHAN_CUE_ON ch else s.rdB F.WCH_CHAN_CUE_OFF ch
  let (kept, s) := if emit then s.sendRecord 0x170 (s.occupancyRecord ch sub m x) else (true, s)
  if kept && cue then
    s.propose { bit := 7, c := 8192 * m + 8191, loc := s.locCxUnit ch, units := 2 ^ ch }
  else s

/-! ### Cells on a frame (R150 to R154) -/

/-- The threshold segment that applies to a subband: the first whose LAST is at or above it (R153). -/
def State.segmentFor (s : State) (ch sub : Nat) : Nat :=
  ((List.range 32).find? fun i => decide (sub ≤ s.bankRd F.WCH_SEG_LAST (32 * ch + i))).getD 31

/-- A cell of channel ch before the update. -/
def State.cell (s : State) (ch sub : Nat) : LWord := tableGet 0 s.wch.cells (4096 * ch + sub)

/-- The cells of a channel, replaced by a function of subband and cell. -/
def State.mapCells (s : State) (ch : Nat) (f : Nat → Cell → Cell) : State :=
  let new := ((List.range 4096).map fun sub => (4096 * ch + sub, (f sub (unpackCell (s.cell ch sub))).pack)).filter
    fun p => p.2 != 0
  s.onWch fun w => { w with cells := swapRange (4096 * ch) (4096 * (ch + 1)) w.cells new }

/-- What happens to a cell at the last frame of an interval: held, discarded or evaluated (R151, R154, R156). -/
def State.endCell (s : State) (ch sub : Nat) (held discard running : Bool) (x : Cell) : Cell :=
  if held || (s.wchan ch).held.contains sub then x.hold running
  else if discard then { x with acc := 0 }
  else
    let i := 32 * ch + s.segmentFor ch sub
    x.evaluate (s.rd F.WCH_CHAN_K ch) (signed 10 (s.bankRd F.WCH_SEG_ON_THR i)) (signed 10 (s.bankRd F.WCH_SEG_OFF_THR i))
      (s.rd F.WCH_CTL_DUTY_SHIFT) running

/-- The cells of channel ch take frame m of the record (R152 to R154, R157). -/
def State.cellFrame (s : State) (r : FrameRec) : State :=
  let ch := r.ch
  if s.watchStopped ch then s
  else
    let c := s.wchan ch
    let s := if s.wmode ch = modeStopped ∨ c.reprime ∨ c.last.map (· + 1) ≠ some r.m then s.prime ch else s
    let k := s.rd F.WCH_CHAN_K ch
    let first := r.m % 2 ^ k == 0
    let final := r.m % 2 ^ k == 2 ^ k - 1
    let clean := decide (r.mark ≤ 1)
    let running := s.wmode ch == modeRunning
    let s := s.onWchan ch fun c =>
      { c with last := some r.m
               subst := (if first then 0 else c.subst) + (!clean).toNat
               clipped := (if first then 0 else c.clipped) + (r.mark == 1).toNat
               begun := c.begun || first, spoilt := (if first then false else c.spoilt) || !clean
               held := if first && !running then [] else c.held }
    let c := s.wchan ch
    if !running && !c.begun then s
    else
      let add := fun (sub : Nat) (x : Cell) => x.add first clean (r.power.getD sub (-32768))
      if !final then s.mapCells ch add
      else
        let held := running && decide (2 ^ (k - 1) < c.subst)
        let discard := !running && c.spoilt
        let fin := fun (sub : Nat) (x : Cell) => s.endCell ch sub held discard running (add sub x)
        let turned := (List.range 4096).filter fun sub =>
          (unpackCell (s.cell ch sub)).on != (fin sub (unpackCell (s.cell ch sub))).on
        let s := s.mapCells ch fin
        let s := s.forEach turned fun s sub => s.occupancy ch sub r.m (unpackCell (s.cell ch sub))
        let s := if discard then s else
          (s.wrB F.WCH_CHAN_HELD_LAST ch held).wr F.WCH_CHAN_SUBST_LAST ch c.subst
        let s := if !running && !discard then s.wr F.WCH_CHAN_MODE ch modeRunning else s
        s.onWchan ch fun c => { c with subst := 0, clipped := 0, spoilt := false, begun := false, held := [] }

/-! ### Masks (R161 to R165) -/

/-- A breakpoint of a mask: its subband, GAP and limit (R161). -/
structure Breakpoint where
  sub : Nat
  gap : Bool
  lim : Int
  deriving DecidableEq, Repr

/-- The breakpoints of a mask from a table entry up to the first entry with END, none if no entry has it (R161). read
reads a word of the table; fuel bounds the entries. -/
def breakpoints (read : Nat → Word) : Nat → Nat → Option (List Breakpoint)
  | 0, _ => none
  | fuel + 1, i =>
    let n := (read (F.WCH_MASK_TABLE + 4 * i)).toNat
    let b : Breakpoint := { sub := n / 2 ^ 20, gap := n.testBit 19, lim := signed 16 n }
    if n.testBit 18 then some [b] else (breakpoints read fuel (i + 1)).map fun l => b :: l

/-- SUBBAND does not decrease, and at most two consecutive breakpoints share a subband (R161). -/
def breakpointsOk : List Breakpoint → Bool
  | a :: b :: rest =>
    decide (a.sub ≤ b.sub) && (match rest with | c :: _ => !(a.sub == b.sub && b.sub == c.sub) | [] => true)
      && breakpointsOk (b :: rest)
  | _ => true

/-- The limit at a subband, none where it is not tested (R162). -/
def limitAt : List Breakpoint → Nat → Option Int
  | [], _ => none
  | [b], s => if s = b.sub then some b.lim else none
  | a :: b :: rest, s =>
    if s < a.sub then none
    else if b.sub ≤ s then limitAt (b :: rest) s
    else if s = a.sub then some a.lim
    else if a.gap then none
    else some (a.lim + (b.lim - a.lim) * (s - a.sub : Nat) / ((b.sub - a.sub : Nat) : Int))

/-- The hits of a frame against a mask: subband and excess, in ascending subbands (R162). -/
def maskHits (bps : List Breakpoint) (power : List Int) : List (Nat × Nat) :=
  (List.range 4096).filterMap fun s =>
    match limitAt bps s with
    | some l => let p := power.getD s (-32768); if l < p then some (s, (p - l).toNat) else none
    | none => none

/-- The hit of the largest excess, the lowest subband of several. -/
def worstHit (hits : List (Nat × Nat)) : Nat × Nat :=
  hits.foldl (fun best h => if best.2 < h.2 then h else best) (0, 0)

/-- Violation state of channel ch and mask n. -/
def State.maskRun (s : State) (ch n : Nat) : MaskRun := s.wch.runs.getD (16 * ch + n) {}

/-- Change the violation state of channel ch and mask n. -/
def State.onMaskRun (s : State) (ch n : Nat) (f : MaskRun → MaskRun) : State :=
  s.onWch fun w => { w with runs := w.runs.modify (16 * ch + n) f }

/-- A mask record (R165). -/
def State.maskRecord (s : State) (ch n m : Nat) (entry : Bool) (reason : Nat) (lost : Bool) : List LWord :=
  let r := s.maskRun ch n
  [ word64 [(56, 0x22), (52, 4), (51, entry.toNat), (48, reason), (44, n), (43, r.clipped.toNat), (42, lost.toNat),
            (0, s.locCxUnit ch)],
    s.frameT48 m, BitVec.ofNat 64 m, word64 [(52, r.worstSub), (36, min 0xFFFF r.worstExc), (23, r.hitsMax)] ]

/-- Entry into violation at frame m (R164). -/
def State.maskEnter (s : State) (ch n m : Nat) : State :=
  let s := s.wr F.WCH_MASK_ACTIVE_VIOL ch (s.rd F.WCH_MASK_ACTIVE_VIOL ch ||| 2 ^ n)
  let s := (s.flag F.WCH_EVT_STAT 1).onChan ch fun c => { c with masks := (n, 8192 * (m + 2), none) :: c.masks }
  let s := (s.sendRecord 0x171 (s.maskRecord ch n m true 0)).2
  if s.bankRd F.WCH_MASK_CFG_CUE_EN n = 1 then
    s.propose { bit := 2, c := 8192 * (m - 1), loc := s.locCxUnit ch, units := 2 ^ ch
                stop := s.bankRd F.WCH_MASK_CFG_STOP n == 1 }
  else s

/-- Exit from violation at frame m for a reason (R163, R164). -/
def State.maskExit (s : State) (ch n m reason : Nat) : State :=
  let s := s.wr F.WCH_MASK_ACTIVE_VIOL ch (s.rd F.WCH_MASK_ACTIVE_VIOL ch &&& (2 ^ 16 - 1 - 2 ^ n))
  let s := s.onChan ch fun c =>
    { c with masks := c.masks.map fun p => if p.1 = n ∧ p.2.2 = none then (n, p.2.1, some (8192 * (m + 2))) else p }
  let s := (s.sendRecord 0x171 (s.maskRecord ch n m false reason)).2
  s.onMaskRun ch n fun _ => {}

/-- Does the active mask n apply to channel ch (R161, R163)? -/
def State.maskApplies (s : State) (ch n : Nat) : Bool :=
  s.bankRd F.WCH_MASK_CFG_EN n == 1 &&
    (if ch < 32 then (s.bankRd F.WCH_MASK_CHAN_LO_MAP n).testBit ch
     else (s.bankRd F.WCH_MASK_CHAN_HI_MAP n).testBit (ch - 32))

/-- A tested frame meets mask n of its channel (R163). -/
def State.maskTest (s : State) (r : FrameRec) (n : Nat) : State :=
  let hits := maskHits ((breakpoints s.bankGet 4096 (s.bankRd F.WCH_MASK_CFG_FIRST n)).getD []) r.power
  let violates := decide (s.bankRd F.WCH_MASK_HITS_HITS n ≤ hits.length)
  let worst := worstHit hits
  let p := s.bankRd F.WCH_MASK_CFG_PERSIST n
  let old := s.maskRun r.ch n
  let run := if violates != old.viol then old.run + 1 else 0
  let note := fun (x : MaskRun) =>
    { x with clipped := x.clipped || r.mark == 1, hitsMax := max x.hitsMax hits.length
             worstSub := if x.worstExc < worst.2 then worst.1 else x.worstSub, worstExc := max x.worstExc worst.2 }
  if old.viol then
    let s := s.onMaskRun r.ch n fun x => { note x with run := run }
    if p ≤ run then s.maskExit r.ch n r.m 0 else s
  else if p ≤ run then
    (s.onMaskRun r.ch n fun _ => { note {} with viol := true, run := 0 }).maskEnter r.ch n r.m
  else s.onMaskRun r.ch n fun x => { x with run := run }

/-- The masks of a channel, in mask order, on a frame marked CLEAN or CLIPPED (R163). -/
def State.maskFrame (s : State) (r : FrameRec) : State :=
  if s.watchStopped r.ch || decide (1 < r.mark) then s
  else s.forEach (List.range 16) fun s n => if s.maskApplies r.ch n then s.maskTest r n else s

/-- Every violation state of a channel clears with a reason on frame m, and its runs restart (R163). -/
def State.clearMasks (s : State) (ch m reason : Nat) : State :=
  s.forEach (List.range 16) fun s n =>
    if (s.maskRun ch n).viol then s.maskExit ch n m reason else s.onMaskRun ch n fun _ => {}

/-- Channels that R151 holds STOPPED enter STOPPED: their violations clear with exit reason 1 on the last frame they
took. -/
def State.wchSync (s : State) : State :=
  s.forEach allChans fun s ch =>
    if s.watchStopped ch && s.wmode ch != modeStopped && !s.watchBegins ch then
      (s.wr F.WCH_CHAN_MODE ch modeStopped).clearMasks ch ((s.wchan ch).last.getD (s.clk.count / 8192)) 1
    else s

/-! ### Swaps (R155, R161, R163) -/

/-- A threshold table is valid (R153): up to the first segment with LAST = 4095, which it has, LAST does not fall and
OFF_THR is at most ON_THR. seg gives LAST, ON_THR and OFF_THR. -/
def segmentsOk (seg : Nat → Nat × Int × Int) : Nat → Nat → Nat → Bool
  | 0, _, _ => false
  | fuel + 1, i, before =>
    let x := seg i
    decide (before ≤ x.1) && decide (x.2.2 ≤ x.2.1) && (x.1 == 4095 || segmentsOk seg fuel (i + 1) x.1)

/-- Is the shadow threshold table of channel ch valid? -/
def State.shadowSegmentsOk (s : State) (ch : Nat) : Bool :=
  segmentsOk (fun i => (s.rd F.WCH_SEG_LAST (32 * ch + i), s.rdS F.WCH_SEG_ON_THR (32 * ch + i),
    s.rdS F.WCH_SEG_OFF_THR (32 * ch + i))) 32 0 0

/-- Is the shadow mask n one that R161 allows, enabled or not? -/
def State.shadowMaskOk (s : State) (n : Nat) : Bool :=
  match breakpoints s.regGet (4096 - s.rd F.WCH_MASK_CFG_FIRST n) (s.rd F.WCH_MASK_CFG_FIRST n) with
  | some l => breakpointsOk l
  | none => false

/-- SWAP_PENDING follows the waiting swaps. -/
def State.showSwaps (s : State) : State :=
  s.wrB F.WCH_CTL_SWAP_PENDING 0 (s.wch.segAt.isSome || s.wch.maskAt.isSome)

/-- SEG_SWAP: a write of WCH_CTL.SEG_SWAP schedules the swap for the first frame boundary at least 32 samples later
(R155). DEDUCED: log entry 48. -/
def State.doSegSwap (s : State) : State :=
  (s.onWch fun w => { w with segAt := some (w.segAt.getD (boundaryAfter 8192 s.clk.count)) }).showSwaps

/-- The segment banks swap, or the swap is refused for an invalid table (R155). -/
def State.segSwapNow (s : State) : State :=
  let s := (s.onWch fun w => { w with segAt := none }).showSwaps
  match allChans.find? fun ch => !s.shadowSegmentsOk ch with
  | some ch => s.configFault (s.locCxUnit ch) F.WCH_CTL
  | none => (s.swapBanks F.WCH_SEG (F.WCH_SEG + 8192)).wr F.WCH_CTL_SEG_BANK 0 (1 - s.rd F.WCH_CTL_SEG_BANK)

/-- MASK_SWAP: a write of WCH_CTL.MASK_SWAP schedules the swap, at the same boundary rule (R155, R167). -/
def State.doMaskSwap (s : State) : State :=
  (s.onWch fun w => { w with maskAt := some (w.maskAt.getD (boundaryAfter 8192 s.clk.count)) }).showSwaps

/-- The mask banks swap and every violation state clears with exit reason 2, or the swap is refused (R161, R163). The
clearing frame is the last one before the boundary n. -/
def State.maskSwapNow (s : State) (n : Nat) : State :=
  let s := (s.onWch fun w => { w with maskAt := none }).showSwaps
  if (List.range 16).all fun i => s.shadowMaskOk i then
    let s := s.forEach allChans fun s ch => s.clearMasks ch (n / 8192 - 1) 2
    ((s.swapBanks F.WCH_MASK_CFG (F.WCH_MASK_CFG + 256)).swapBanks F.WCH_MASK_TABLE (F.WCH_MASK_TABLE + 16384)).wr
      F.WCH_CTL_MASK_BANK 0 (1 - s.rd F.WCH_CTL_MASK_BANK)
  else s.configFault s.locCx F.WCH_CTL

/-! ### FRAME_RECORD -/

/-- The records of frame m reach the consumers: tokens, masks, then cells, each in ascending channels (R154, R159,
R160). -/
def State.frameRecords (s : State) (m : Nat) : State :=
  let rs := allChans.filterMap fun ch => s.chn.records.find? fun r => r.ch == ch && r.m == m
  let s := { s with chn := { s.chn with records := s.chn.records.filter fun r => r.m != m } }
  let s := s.feedTokens m
  let s := s.forEach rs fun s r => s.maskFrame r
  s.forEach rs fun s r => s.cellFrame r

/-- Swaps whose boundary lies before the end of frame m take effect before its records are used (R155). -/
def State.swapsBefore (s : State) (m : Nat) : State :=
  let s := match s.wch.segAt with
    | some n => if n ≤ 8192 * m + 8191 then s.segSwapNow else s
    | none => s
  match s.wch.maskAt with
  | some n => if n ≤ 8192 * m + 8191 then s.maskSwapNow n else s
  | none => s

/-- The lowest frame index among the waiting records. -/
def State.oldestFrame (s : State) : Option Nat := (s.chn.records.map fun r => r.m).min?

/-- FRAME_RECORD: the waiting records of the oldest frame reach the watch cells and the mask tests (R154). -/
def State.doFrameRecord (s : State) : State :=
  match s.oldestFrame with
  | none => s
  | some m => (s.swapsBefore m).frameRecords m

/-- The records of frames that ended before a boundary are used before the boundary's swap. fuel bounds the frames. -/
def State.drainBefore (s : State) (n : Nat) : Nat → State
  | 0 => s
  | fuel + 1 =>
    match s.oldestFrame with
    | none => s
    | some m => if 8192 * m + 8191 < n then (s.doFrameRecord).drainBefore n fuel else s

/-- SEG_SWAP_APPLY: the frame boundary of a waiting SEG_SWAP comes (R155). -/
def State.doSegSwapApply (s : State) : State :=
  match s.wch.segAt with
  | none => s
  | some n =>
    let s := (s.toCount n).drainBefore n s.chn.records.length
    if s.wch.segAt.isSome then s.segSwapNow else s

/-- MASK_SWAP_APPLY: the frame boundary of a waiting MASK_SWAP comes (R163). -/
def State.doMaskSwapApply (s : State) : State :=
  match s.wch.maskAt with
  | none => s
  | some n =>
    let s := (s.toCount n).drainBefore n s.chn.records.length
    if s.wch.maskAt.isSome then s.maskSwapNow n else s

/-! ### K, EN and storage errors (R155, R156) -/

/-- K_CHANGE: a write of WCH_CHAN.K, held within 4 to 16; a change puts the channel into PRIMING at its next frame
(R155, R167). -/
def State.doKChange (s : State) (ch k : Nat) : State :=
  let k := clampNat 4 16 k
  if s.rd F.WCH_CHAN_K ch = k then s
  else (s.wr F.WCH_CHAN_K ch k).onWchan ch fun c => { c with reprime := true }

/-- A watch cell's storage shows an error (R156): a single-bit error is corrected and counted; an uncorrectable one
rewrites the cell to zeros and is reported, and the cell's interval ends held, or with 16 such cells already, the channel
enters PRIMING. -/
def State.cellError (s : State) (ch sub : Nat) (correctable : Bool) : State :=
  if correctable then
    { ((s.satAdd F.FAU_ECC_CORR_COUNT 0 1).count 0x180 (s.locCxUnit ch) 1) with
      fau := { s.fau with corrSecond := s.fau.corrSecond + 1 } }
  else
    let s := s.onWch fun w => { w with cells := tablePut 0 (4096 * ch + sub) 0 w.cells }
    let s := (s.satAdd F.FAU_ECC_UNCORR_COUNT 0 1).report 0x2205 (s.locCxUnit ch) sub
    if s.wmode ch = modeStopped ∨ (s.wchan ch).held.contains sub then s
    else if (s.wch.chans.map fun c => c.held.length).sum < 16 then
      s.onWchan ch fun c => { c with held := sub :: c.held }
    else s.prime ch

/-- ECC_SWEEP: the background sweep reads a cell and finds its number of wrong bits: 0, 1, or more (R156, R429). -/
def State.doEccSweep (s : State) (ch sub errors : Nat) : State :=
  if errors = 0 then s else s.cellError ch sub (errors == 1)

/-- A data-plane restart keeps the cells, discards ACC and puts every channel into PRIMING (R151, R167). -/
def State.wchRestart (s : State) : State :=
  s.forEach allChans fun s ch => (s.mapCells ch fun _ x => { x with acc := 0 }).prime ch

end Sys2Proof.Machine
end

