-- ==== Sys2Proof/Machine/Filters.lean ====
section
/-! DEFINITION. Skew correction, notches, filter chain (R126 to R137) and the channeliser (R138 to R145): the changes with
their counts, the two roads of a channel's samples (R125), and the spectrum frames. -/

namespace Sys2Proof.Machine

/-! ### Skew (R126, R128) -/

/-- Host skew at the rate in use, rounded half-even (R126). -/
def State.skewHost (s : State) (ch : Nat) : Int := rhe ((s.chan ch).host * s.clk.fs) s.clk.fsCfg

/-- The effective skew is formed anew for channel ch from count n on: FLT_SKEW_EFF, a configuration fault when SAT becomes
1, and SETTLE when the skew changed (R126, R128). -/
def State.formSkew (s : State) (ch n : Nat) : State :=
  let v := s.skewHost ch + (s.chan ch).phase
  let e := clampInt (-4096) 4096 v
  let sat := decide (v < -4096 ∨ 4096 < v)
  let old := s.rdS F.FLT_SKEW_EFF_EFF ch
  let s := if sat && !s.rdB F.FLT_SKEW_EFF_SAT ch then s.configFault (s.locUnit ch) (F.FLT_SKEW + 4 * ch) else s
  let s := ((s.wrS F.FLT_SKEW_EFF_EFF ch e).wrB F.FLT_SKEW_EFF_SAT ch sat).onChan ch fun c =>
    { c with skews := (n, e) :: c.skews }
  if e = old then s else s.mark ch { kind := .settle, a := n, b := n + 15, f := s.firHalf ch }

/-- The host skew, the region phase, or both take effect at count n. -/
def State.applySkew (s : State) (ch n : Nat) (host phase : Bool) : State :=
  let v := s.rdS F.FLT_SKEW_SKEW ch
  let p := s.rdS F.ADC_PLL_PHASE_PHASE (regionOf ch)
  let s := s.onChan ch fun c =>
    { c with host := if host then v else c.host, skewAt := if host then none else c.skewAt
             phase := if phase then p else c.phase, phaseAt := if phase then none else c.phaseAt }
  (s.wrB F.FLT_SKEW_PENDING ch ((s.chan ch).skewAt.isSome || (s.chan ch).phaseAt.isSome)).formSkew ch n

/-- SKEW_WRITE: a write of FLT_SKEW, held within ±4096, schedules a new effective skew; a change already pending keeps its
N_k, and one of a channel without samples waits (R128, R137). -/
def State.doSkewWrite (s : State) (ch : Nat) (w : Word) (ns : Nat) : State :=
  let v := clampInt (-4096) 4096 (signed 14 w.toNat)
  let s := (s.wrS F.FLT_SKEW_SKEW ch v).wr F.FLT_SKEW_PENDING ch 1
  if (s.chan ch).skewAt.isSome || (s.chan ch).since.isNone then s
  else
    let nk := s.clearOfInject ch (boundaryAfter 64 (s.reach ns))
    s.onChan ch fun c => { c with skewAt := some nk }

/-- A new region phase is scheduled for the channels of region r: a skew change that waits for its N_k (R128). -/
def State.phaseChanged (s : State) (r : Nat) : State :=
  s.forEach (regionChans r) fun s ch =>
    if (s.chan ch).since.isNone then s
    else
      let nk := s.clearOfInject ch (boundaryAfter 64 s.clk.count)
      (s.wr F.FLT_SKEW_PENDING ch 1).onChan ch fun c => { c with phaseAt := some nk }

/-- SKEW_CHANGE_APPLY: at N_k, the earliest of those pending, the effective skew is formed anew (R128). -/
def State.doSkewApply (s : State) (ch : Nat) : State :=
  let c := s.chan ch
  match c.skewAt, c.phaseAt with
  | none, none => s
  | some n, none => (s.toCount n).applySkew ch n true false
  | none, some n => (s.toCount n).applySkew ch n false true
  | some a, some b =>
    let n := min a b
    (s.toCount n).applySkew ch n (a == n) (b == n)

/-! ### Notches (R130 to R132) -/

/-- Does FC, in 100 Hz, keep the limits of R131 with width BW at the sample rate in use? -/
def State.notchOk (s : State) (ch fc bw : Nat) : Bool :=
  if s.secondZone ch then decide (s.clk.fs + 200 * bw ≤ 200 * fc ∧ 100 * fc + 100 * bw ≤ s.clk.fs)
  else decide (bw ≤ fc ∧ 200 * fc + 200 * bw ≤ s.clk.fs)

/-- L of R132 for a width in 100 Hz. -/
def State.notchSettle (s : State) (bw : Nat) : Nat := ceilDiv (22 * s.clk.fs) (1000 * max 1 bw)

/-- The change of notch j that the registers now hold, with the width by which its settling counts (R132). -/
def State.notchChg (s : State) (j settle : Nat) : NotchChg :=
  { notch := j % 8, settle := settle, en := s.rdB F.FLT_NOTCH_EN j, fc := s.rd F.FLT_NOTCH_FC j, bw := s.rd F.FLT_NOTCH_BW_BW j }

/-- A notch change with a width for settling reaches channel ch at count n: it joins a pending change at least 32 samples
away, or takes the next N_k (R132); a channel without samples holds it (R137). -/
def State.scheduleNotch (s : State) (j settle n : Nat) : State :=
  let ch := j / 8
  let x := s.notchChg j settle
  let s := s.wr F.FLT_NOTCH_PENDING j 1
  let held := (s.chan ch).since.isNone
  let nk := s.clearOfInject ch (boundaryAfter 64 n)
  s.onChan ch fun c =>
    match c.notchAt.find? fun p => held || decide (n + 32 ≤ p.1) with
    | some p => { c with notchAt := c.notchAt.map fun q => if q = p then (q.1, x :: q.2) else q }
    | none => { c with notchAt := c.notchAt ++ [(if held then 0 else nk, [x])] }

/-- NOTCH_WRITE: a write of FLT_NOTCH, checked with EN = 1 against the stored width (R131); one that enables, disables or
moves the notch is a notch change (R132). -/
def State.doNotchWrite (s : State) (j : Nat) (w : Word) (ns : Nat) : State :=
  let ch := j / 8
  let fc := getField w 0 24
  let en := getField w 31 1 == 1
  let bw := s.rd F.FLT_NOTCH_BW_BW j
  let was := s.rdB F.FLT_NOTCH_EN j
  if en && !s.notchOk ch fc bw then s.configFault (s.locUnit ch) (F.FLT_NOTCH + 8 * j)
  else
    let moved := en && was && s.rd F.FLT_NOTCH_FC j != fc
    let s := (s.wr F.FLT_NOTCH_FC j fc).wrB F.FLT_NOTCH_EN j en
    if en != was || moved then s.scheduleNotch j bw (s.reach ns) else s

/-- NOTCH_BW_WRITE: a write of FLT_NOTCH_BW, held within 10 kHz to 10 MHz, checked while the notch is enabled, when a new
width is a notch change (R131, R132). -/
def State.doNotchBwWrite (s : State) (j : Nat) (w : Word) (ns : Nat) : State :=
  let ch := j / 8
  let bw := clampNat 100 100000 (getField w 0 17)
  let old := s.rd F.FLT_NOTCH_BW_BW j
  let en := s.rdB F.FLT_NOTCH_EN j
  if en && !s.notchOk ch (s.rd F.FLT_NOTCH_FC j) bw then s.configFault (s.locUnit ch) (F.FLT_NOTCH_BW + 8 * j)
  else
    let s := s.wr F.FLT_NOTCH_BW_BW j bw
    if en && bw != old then s.scheduleNotch j (min old bw) (s.reach ns) else s

/-- PENDING of a channel's notches follows its waiting changes. -/
def State.showNotches (s : State) (ch : Nat) : State :=
  s.forEach (List.range 8) fun s i =>
    s.wrB F.FLT_NOTCH_PENDING (8 * ch + i) ((s.chan ch).notchAt.any fun p => p.2.any fun q => q.notch == i)

/-- The notch changes of one N_k take effect, with SETTLE over the length of the smallest width (R132); the filtered road
takes them from the block at N_k on. One that breaks R131 at the rate in use stays bypassed (R137). -/
def State.applyNotch (s : State) (ch n : Nat) (p : Nat × List NotchChg) : State :=
  let bw := ((p.2.map fun q => q.settle).min?).getD 100000
  let s := s.mark ch { kind := .settle, a := n, b := n + s.notchSettle bw - 1, raw := false, f := s.firHalf ch }
  (s.onChan ch fun c =>
    { c with notchAt := c.notchAt.erase p, notchNew := c.notchNew ++ [(n, p.2)]
             bypassed := c.bypassed.filter fun i => !(p.2.any fun q => q.notch == i && s.notchOk ch q.fc q.bw) }).showNotches ch

/-- The earliest of a channel's waiting changes. -/
def earliestBy {a : Type} (key : a → Nat) (l : List a) : Option a :=
  l.foldl (fun best x =>
    match best with
    | none => some x
    | some b => if key x < key b then some x else some b) none

/-- NOTCH_CHANGE_APPLY: the earliest pending notch change of a channel takes effect at its N_k (R132). -/
def State.doNotchApply (s : State) (ch : Nat) : State :=
  if (s.chan ch).since.isNone then s
  else
    match earliestBy (fun p => p.1) (s.chan ch).notchAt with
    | none => s
    | some p => (s.toCount p.1).applyNotch ch p.1 p

/-! ### The filtered road (R125, R130, R132) -/

/-- a and b of a notch of channel ch at the rate in use (R130). -/
def State.notchAB (s : State) (ch fc bw : Nat) : Int × Int :=
  notchCoef s.clk.fs (if s.secondZone ch then s.clk.fs - 100 * fc else 100 * fc) (100 * bw)

/-- A notch as a change leaves it: one that is enabled or moved starts from zero state; a change of width alone keeps the state
(R132). DESIGN CHOICE: log entry 78. -/
def State.changeNotch (s : State) (ch : Nat) (x : NotchChg) (c : Notch) : Notch :=
  if !x.en || (s.chan ch).bypassed.contains x.notch then {}
  else
    let ab := s.notchAB ch x.fc x.bw
    if c.on && c.fc == x.fc then { c with a := ab.1, b := ab.2 } else { on := true, fc := x.fc, a := ab.1, b := ab.2 }

/-- The notches of a channel as it begins: from the registers, with zero state (R137). -/
def State.freshNotches (s : State) (ch : Nat) : List Notch :=
  (List.range 8).map fun i => s.changeNotch ch (s.notchChg (8 * ch + i) 0) {}

/-- The filtered road takes the block at count n of skew-corrected samples: the notch changes from n or before come first, then
the samples pass the cascade (R125, R130). -/
def State.roadBlock (s : State) (ch n : Nat) (ys : List Int) : State :=
  let c := s.chan ch
  let due := c.notchNew.filter fun p => decide (p.1 ≤ n)
  let cs := due.foldl (fun cs p => p.2.foldr (fun x cs => cs.modify x.notch (s.changeNotch ch x)) cs) c.notches
  let r := cascadeAll cs (ys.map fun y => y * 2 ^ 32)
  s.onChan ch fun c =>
    { c with notches := r.2, notchNew := c.notchNew.filter fun p => !decide (p.1 ≤ n), road := ((n, r.1) :: c.road).take 132 }

/-! ### Chain (R134, R135) -/

/-- A chain change reaches channel ch at count n: it joins a pending one at least 32 samples away, a second SWAP being
discarded, or takes its own N_x (R135, R137). -/
def State.scheduleChain (s : State) (ch decim order : Nat) (swap : Bool) (n : Nat) : State :=
  let c := s.chan ch
  let held := c.since.isNone
  let swap := swap && !(c.chainAt.any fun p => p.2.1)
  let s := s.wr F.FLT_CHAIN_PENDING ch 1
  let nx := boundaryAfter 8192 n
  s.onChan ch fun c =>
    match c.chainAt.find? fun p => held || decide (n + 32 ≤ p.1) with
    | some p => { c with chainAt := c.chainAt.map fun q => if q = p then (q.1, q.2.1 || swap, decim, order) else q }
    | none => { c with chainAt := c.chainAt ++ [(if held then 0 else nx, swap, decim, order)] }

/-- A write of FLT_CHAIN: ORDER 3 is refused; a new DECIM is judged under R38, and a refused one leaves the whole write
without effect; SWAP, DECIM or ORDER make a chain change (R135, R146). -/
def State.writeChain (s : State) (ch decim order : Nat) (swap : Bool) (ns : Nat) : State :=
  if order = 3 then s.configFault (s.locUnit ch) (F.FLT_CHAIN + 4 * ch)
  else
    let oldD := s.rd F.FLT_CHAIN_DECIM ch
    let cfg := s.admitCfg
    let refused := if decim = oldD then none
      else AdmitCfg.refusedBy { cfg with decims := cfg.decims.set ch decim } s.clk.fs
    s.judge refused State.admitFault fun s =>
      let change := swap || decim != oldD || order != s.rd F.FLT_CHAIN_ORDER ch
      let second := swap && decim == oldD && order == s.rd F.FLT_CHAIN_ORDER ch
        && ((s.chan ch).chainAt.any fun p => p.2.1)
      let s := (s.wr F.FLT_CHAIN_DECIM ch decim).wr F.FLT_CHAIN_ORDER ch order
      if change && !second then s.scheduleChain ch decim order swap (s.reach ns) else s

/-- FIR_BANK_SWAP: a write of FLT_CHAIN with SWAP set and DECIM and ORDER as they read (R135). -/
def State.doFirSwap (s : State) (ch ns : Nat) : State :=
  s.writeChain ch (s.rd F.FLT_CHAIN_DECIM ch) (s.rd F.FLT_CHAIN_ORDER ch) true ns

/-- CHAIN_CONFIG_WRITE: a write of DECIM and ORDER (R135). -/
def State.doChainWrite (s : State) (ch decim order ns : Nat) : State := s.writeChain ch (decim % 4) (order % 4) false ns

/-- A chain change takes effect at count n: DECIM, ORDER and bank, with SETTLE over the larger F (R135). -/
def State.applyChain (s : State) (ch n : Nat) (p : Nat × Bool × Nat × Nat) : State :=
  let f := max (s.firHalf ch) (halfOrder p.2.2.2)
  let bank := if p.2.1 then 1 - s.rd F.FLT_CHAIN_BANK ch else s.rd F.FLT_CHAIN_BANK ch
  let s := (s.wr F.FLT_CHAIN_BANK ch bank).onChan ch fun c =>
    { c with decim := p.2.2.1, order := p.2.2.2, chainAt := c.chainAt.erase p
             chains := (n, p.2.2.1, p.2.2.2, bank) :: c.chains }
  let s := s.mark ch { kind := .settle, a := n, b := n, raw := false, f := f }
  s.wrB F.FLT_CHAIN_PENDING ch !(s.chan ch).chainAt.isEmpty

/-- CHAIN_CHANGE_APPLY: the earliest pending chain change of a channel takes effect at its N_x (R135). -/
def State.doChainApply (s : State) (ch : Nat) : State :=
  if (s.chan ch).since.isNone then s
  else
    match earliestBy (fun p => p.1) (s.chan ch).chainAt with
    | none => s
    | some p => (s.toCount p.1).applyChain ch p.1 p

/-- A write of a FIR coefficient: the shadow bank takes it; the active bank discards it with a configuration fault
(R135). i indexes FLT_FIR_COEF. -/
def State.writeFir (s : State) (i : Nat) (w : Word) : State :=
  let ch := i / 128
  if i / 64 % 2 = s.rd F.FLT_CHAIN_BANK ch then s.configFault (s.locUnit ch) (F.FLT_FIR_COEF + 4 * i)
  else s.wr F.FLT_FIR_COEF_COEF i w.toNat

/-! ### Channeliser (R138 to R145) -/

/-- The channelisers run, from the next frame boundary when they start, or stop, as EN and the stage have it (R145). -/
def State.chnSync (s : State) : State :=
  let runs := s.rdB F.CHN_CTL_EN && decide (s.stage < 2)
  let start := if !runs then none else some (s.chn.start.getD (nextMultiple 8192 s.clk.count))
  ({ s with chn := { s.chn with start := start } }).wchSync

/-- CHN_EN_WRITE: a write of CHN_CTL.EN (R145). -/
def State.doChnEnWrite (s : State) (en : Bool) : State := (s.wrB F.CHN_CTL_EN 0 en).chnSync

/-- PROTOTYPE_SWAP: a write of CHN_CTL.SWAP schedules the swap for the first frame boundary at least 32 samples later
(R144). -/
def State.doProtoSwap (s : State) : State :=
  let n := s.chn.swapAt.getD (boundaryAfter 8192 s.clk.count)
  ({ s with chn := { s.chn with swapAt := some n } }).wr F.CHN_CTL_SWAP_PENDING 0 1

/-- PROTOTYPE_SWAP_APPLY: the banks swap for all channels at once (R144). -/
def State.doProtoSwapApply (s : State) : State :=
  match s.chn.swapAt with
  | none => s
  | some n =>
    let s := (s.toCount n).swapBanks F.CHN_COEF (F.CHN_COEF + 65536)
    let s := { s with chn := { s.chn with swapAt := none, swapped := some n } }
    (s.wr F.CHN_CTL_BANK 0 (1 - s.rd F.CHN_CTL_BANK)).wr F.CHN_CTL_SWAP_PENDING 0 0

/-- A bin power as R140 delivers it: below -128 dBm 0x8000, above 0x7FFF. -/
def binPower (p : Int) : Int := clampInt (-32768) 32767 p

/-- The raw samples of channel ch with counts from a on, over n blocks of 64, after skew correction; a count without a sample
has an open value. -/
def State.rawSamples (s : State) (ch a n : Nat) : List Int :=
  (List.range n).flatMap fun j =>
    match (s.chan ch).recent.find? fun b => b.n == a + 64 * j with
    | some b => b.xs
    | none => (List.range 64).map fun i => saturate12 (Config.gapSample ch (a + 64 * j + i))

/-- Tap i of the prototype in use (R144). -/
def State.protoTap (s : State) (i : Nat) : Int :=
  signed 18 (s.bankRd F.CHN_COEF_COEF (if i < 16384 then i else 32767 - i))

/-- The powers of the bins of frame m of channel ch, in 1/256 dB relative to a full-scale sine at a subband centre (R138 to
R140); the counts before 0 stand for zeros. ups says which levels are rounded up (log entry 68). -/
def State.frameBins (s : State) (ch m : Nat) (ups : List Bool) : List Int :=
  let xs := (List.replicate (8192 * (3 - m)) 0) ++ s.rawSamples ch (8192 * (m - 3)) (128 * (min m 3 + 1))
  let v := branchSums s.protoTap xs
  (List.range 4097).map fun b =>
    let l := levelOf (binSquare v b)
    l - Config.binRef + ((ups.getD b false).toNat : Int)

/-- SPECTRUM_FRAME: the channeliser of channel ch completes frame m, whose last sample has been taken: the record holds the
powers by subband in dBm (R138 to R141). The conversion of AFE_RANGE_DEV to 1/256 dB is not stated where it is not exact, and
takes a free last bit. -/
def State.doSpectrumFrame (s : State) (ch m : Nat) (ups : List Bool) : State :=
  let ok := s.producing ch && (match (s.chan ch).since with | some n => decide (n ≤ 8192 * m) | none => false)
    && (match s.chn.start with | some n => decide (n ≤ 8192 * m) | none => false)
    && ((s.chan ch).recent.any fun b => b.n == 8192 * m + 8128)
    && !(s.chn.records.any fun r => r.ch == ch && decide (m ≤ r.m))
    && ((s.wchan ch).last.all fun l => decide (l < m))
  if ok then
    let s := (s.toCount (8192 * m + 8192)).feedTokens m
    let r := (s.chan ch).rangeAtCount (8192 * m + 8191)
    let i := 16 * ch + r
    let dev := signed 8 ((s.regGet (F.AFE_RANGE_DEV + 4 * (i / 4))).toNat / 2 ^ (8 * (i % 4)))
    let (bit, s) := s.freeBelow 2
    let conv := dev * 256 / 100 + (if dev * 256 % 100 = 0 then 0 else (bit : Int))
    let off := 512 * (r : Int) - 512 + conv + s.rdS F.CHN_GAIN_ADJ_ADJ
    let second := s.secondZone ch
    let bins := s.frameBins ch m ups
    let power := (List.range 4096).map fun sub => binPower (bins.getD (if second then 4096 - sub else sub) (-65536) + off)
    let rec_ : FrameRec := { ch := ch, m := m, mark := s.frameMark ch m, range := r, power := power }
    ({ s with chn := { s.chn with records := s.chn.records ++ [rec_] } }).wrPair F.CHN_FRAME_LO_FRAME
      F.CHN_FRAME_HI_FRAME 0 (max m (s.rdPair F.CHN_FRAME_LO_FRAME F.CHN_FRAME_HI_FRAME 0))
  else s

end Sys2Proof.Machine
end

