-- ==== Sys2Proof/Machine/Inputs.lean ====
section
/-! DEFINITION. Ranges and auto-ranging (R75 to R85) and the antenna feeds (R86 to R95). -/

namespace Sys2Proof.Machine

/-! ### Ranges (R76 to R81) -/

/-- Is Rehearsal of region r under way, from its START on (R81, R107, R112)? -/
def State.rehearsing (s : State) (r : Nat) : Bool := (s.adc.reh.getD r {}).busy

/-- N_c for a request that reaches channel ch at count n: the first multiple of 64 at least 32 samples later, moved past an
injected window and to the next stream block when one block would hold two changes (R76, R80, R81). -/
def State.rangeCount (s : State) (ch n : Nat) : Nat := s.rangeBoundary ch (boundaryAfter 64 n)

/-- A range change is scheduled: RANGE reads the new code, PENDING is set, and a change already pending keeps its N_c
(R77, R81). It is held for a channel that takes no samples and during Rehearsal. DEDUCED: log entry 46. -/
def State.scheduleRange (s : State) (ch code n : Nat) : State :=
  let s := (s.wr F.AFE_RANGE_RANGE ch code).wr F.AFE_RANGE_PENDING ch 1
  if (s.chan ch).rangeAt.isSome || (s.chan ch).since.isNone || s.rehearsing (regionOf ch) then s
  else
    let nc := s.rangeCount ch n
    s.onChan ch fun c => { c with rangeAt := some nc }

/-- The requested range is in force from count n on: 16 settling samples, and the marks of R78 and R79. -/
def State.applyRange (s : State) (ch n : Nat) : State :=
  let new := s.rd F.AFE_RANGE_RANGE ch
  let f := s.firHalf ch
  let s := s.onChan ch fun c =>
    { c with range := new, rangeAt := none
             ranges := (n, new) :: (if c.ranges.isEmpty then [(0, c.range)] else c.ranges) }
  let s := s.mark ch { kind := .rangeChg, a := n, b := n, f := f }
  (s.mark ch { kind := .rangeSettle, a := n, b := n + 15, f := f }).wr F.AFE_RANGE_PENDING ch 0

/-- The auto-ranger's window starts anew (R84). -/
def State.autoReset (s : State) (ch : Nat) : State :=
  s.onChan ch fun c => { c with age := 0, hot := false, quiet := true, arDue := none }

/-- RANGE_WRITE: a write of AFE_RANGE, refused whole when AR_MIN is above AR_MAX; a new RANGE schedules a change, and a
write restarts the auto-ranger's window (R77, R81, R84). -/
def State.doRangeWrite (s : State) (ch : Nat) (w : Word) (ns : Nat) : State :=
  let amin := getField w 8 4
  let amax := getField w 12 4
  let code := getField w 0 4
  if amax < amin then s.configFault (s.locUnit ch) (F.AFE_RANGE + 4 * ch)
  else
    let s := ((s.wr F.AFE_RANGE_AR_MIN ch amin).wr F.AFE_RANGE_AR_MAX ch amax).wr F.AFE_RANGE_AR_EN ch (getField w 16 1)
    let s := s.autoReset ch
    if code = s.rd F.AFE_RANGE_RANGE ch then s else s.scheduleRange ch code (s.reach ns)

/-- RANGE_CHANGE_APPLY: sample N_c is taken at the new range (R76). -/
def State.doRangeApply (s : State) (ch : Nat) : State :=
  match (s.chan ch).rangeAt with
  | none => s
  | some n => (s.toCount n).applyRange ch n

/-- A change held over Rehearsal is scheduled at its end, count n (R81). -/
def State.releaseRange (s : State) (ch n : Nat) : State :=
  let s := s.autoReset ch
  if s.rdB F.AFE_RANGE_PENDING ch && (s.chan ch).rangeAt.isNone && (s.chan ch).since.isSome then
    let nc := s.rangeCount ch n
    s.onChan ch fun c => { c with rangeAt := some nc }
  else s

/-! ### Auto-ranging (R84, R85) -/

/-- The least AR_DWELL at the sample rate in use (R85). -/
def State.dwellMin (s : State) : Nat := ceilDiv s.clk.fs 1024000

/-- AFE_AR_DWELL stores the larger of the value written and its minimum (R85). -/
def State.storeDwell (s : State) (n : Nat) : State :=
  (s.onPlane fun p => { p with dwell := n }).wr F.AFE_AR_DWELL_DWELL 0 (max n s.dwellMin)

/-- AR_THR_WRITE: refused unless 1000 HI > 1303 LO (R85). -/
def State.doArThrWrite (s : State) (w : Word) : State :=
  let hi := getField w 0 12
  let lo := getField w 16 12
  if 1303 * lo < 1000 * hi then (s.wr F.AFE_AR_THR_HI 0 hi).wr F.AFE_AR_THR_LO 0 lo
  else s.configFault s.locCx F.AFE_AR_THR

/-- AUTO_RANGE_DECISION: at the end of a dwell window the auto-ranger schedules a step up or down, from the count at which
the window's last block ends (R84). -/
def State.doAutoRange (s : State) (ch : Nat) : State :=
  let c := s.chan ch
  match c.arDue with
  | none => s
  | some n =>
    if s.rdB F.AFE_RANGE_AR_EN ch && !s.rehearsing (regionOf ch) then
      let r := s.rd F.AFE_RANGE_RANGE ch
      let s := if c.hot && decide (r < s.rd F.AFE_RANGE_AR_MAX ch) then s.scheduleRange ch (r + 1) n
        else if !c.hot && c.quiet && decide (s.rd F.AFE_RANGE_AR_MIN ch < r) then s.scheduleRange ch (r - 1) n
        else s
      s.autoReset ch
    else s

/-- A raw block's peak over its samples that are no clips enters the auto-ranger's statistics (R83); blocks with settling,
test-pulse or injected samples only count towards age. A window whose last block this is makes a decision due (R84). -/
def State.autoBlock (s : State) (ch n : Nat) (peak : Nat) : State :=
  if !s.rdB F.AFE_RANGE_AR_EN ch || s.rehearsing (regionOf ch) then s
  else
    let s := s.doAutoRange ch
    let skip := ((s.chan ch).spans.any fun x =>
      (x.kind == .rangeSettle || x.kind == .pulse || x.kind == .rehearsal) && x.onRaw n)
    let due := if (s.chan ch).age + 1 = 16 * s.rd F.AFE_AR_DWELL_DWELL then some (n + 64) else none
    s.onChan ch fun c =>
      { c with age := c.age + 1, arDue := due
               hot := if skip then c.hot else c.hot || decide (s.rd F.AFE_AR_THR_HI ≤ peak)
               quiet := if skip then c.quiet else c.quiet && decide (peak < s.rd F.AFE_AR_THR_LO) }

/-! ### Feeds (R86 to R90, R93 to R95) -/

/-- Feed states (R87). -/
def feedOff : Nat := 0
def feedOn : Nat := 1
def feedOpen : Nat := 2
def feedOpenOff : Nat := 3
def feedOverload : Nat := 4
def feedShorted : Nat := 5
def feedNoSupply : Nat := 6
def feedShed : Nat := 7

/-- Change the feeds' own state. -/
def State.onFeeds (s : State) (f : Feeds → Feeds) : State := { s with feeds := f s.feeds }

/-- State of feed a. -/
def State.feedState (s : State) (a : Nat) : Nat := s.rd F.AFE_FEED_STAT_STATE a

/-- Own state of feed a. -/
def State.feed (s : State) (a : Nat) : Feed := s.feeds.feeds.getD a {}

/-- Change feed a's own state. -/
def State.onFeed (s : State) (a : Nat) (f : Feed → Feed) : State :=
  s.onFeeds fun x => { x with feeds := x.feeds.modify a f }

/-- Location of feed a: keeper, with region, cluster and unit of channel 2a (R94). -/
def State.locFeed (s : State) (a : Nat) : Nat := s.loc 3 (2 * a / 16) (2 * a / 4 % 4) (2 * a % 4)

/-- EN of feed a. -/
def State.feedEn (s : State) (a : Nat) : Bool := (s.rd F.AFE_FEED_EN_EN).testBit a

/-- The shorted feeds' report: the feed, and its partner in [15:8] (R419). -/
def feedDetail (a : Nat) (partner : Option Nat) : Nat :=
  match partner with
  | some p => a + 256 * p
  | none => a

/-- The conditions of a feed's incidents that its new state no longer shows are over. -/
def State.feedCleared (s : State) (a old new : Nat) : State :=
  let l := s.locFeed a
  let s := if (old = feedOpen ∨ old = feedOpenOff) ∧ new ≠ feedOpen ∧ new ≠ feedOpenOff then s.conditionOver 0x4501 l else s
  let s := if old = feedOverload ∧ new ≠ feedOverload then s.conditionOver 0x4502 l else s
  if old = feedShorted ∧ new ≠ feedShorted then s.conditionOver 0x4503 l else s

/-- Feed a enters a state, with the flag, the incident and the end of the old condition (R87, R88, R94). -/
def State.enterFeed (s : State) (a new : Nat) (detail : Nat) : State :=
  let old := s.feedState a
  if old = new then s
  else
    let s := (s.wr F.AFE_FEED_STAT_STATE a new).feedCleared a old new
    if new = feedOpen ∨ new = feedOpenOff then (s.flag F.AFE_FEED_EVT 0).report 0x4501 (s.locFeed a) detail
    else if new = feedOverload then (s.flag F.AFE_FEED_EVT 1).report 0x4502 (s.locFeed a) detail
    else if new = feedShorted then (s.flag F.AFE_FEED_EVT 2).report 0x4503 (s.locFeed a) detail
    else s

/-- Feed a switches on with a soft start of 10 ms (R86, R87); its STATE follows on the next tick. -/
def State.feedSwitchOn (s : State) (a : Nat) (retrying : Bool) : State :=
  s.onFeed a fun x => { x with soft := 10, retrying := retrying, trip := false }

/-- Are the feeds of feed a's region shed (R93)? -/
def State.feedsShed (s : State) (a : Nat) : Bool := s.feeds.shed.getD (2 * a / 16) false

/-- Does feed a have a supply to switch: VFEED good, and its region not shed (R87, R93)? -/
def State.feedFed (s : State) (a : Nat) : Bool := s.feeds.vfeedOk && !s.feedsShed a

/-- Has the region of feed a power, so that its cluster can time a pulse (R91)? -/
def State.feedRegionOn (s : State) (a : Nat) : Bool :=
  let x := s.region (2 * a / 16)
  x.powered && !x.shed && !x.thermal

/-- A test pulse that runs on feed a ends and its measurement is discarded; the feed counts as skipped when skip (R95). -/
def State.dropPulse (s : State) (a : Nat) (skip : Bool) : State :=
  s.onFeeds fun x => { x with sweep := x.sweep.map fun w =>
    if (w.pulse.any fun p => p.1 == a) then
      { w with pulse := none, next := if skip then a + 1 else a, skipped := if skip then w.skipped ++ [a] else w.skipped }
    else w }

/-- FEED_EN_WRITE: feeds switch on with soft start, or off; STATE follows on the next tick (R87, R90, R95). -/
def State.doFeedEnWrite (s : State) (w : Word) : State :=
  let old := s.rd F.AFE_FEED_EN_EN
  let s := s.wr F.AFE_FEED_EN_EN 0 w.toNat
  s.forEach (List.range 32) fun s a =>
    let was := old.testBit a
    let now := w.toNat.testBit a
    if was == now then s
    else if now then
      let s := s.wr F.AFE_FEED_STAT_RETRY_LEFT a (s.rd F.AFE_FEED_CFG_RETRIES)
      if s.feedFed a then s.feedSwitchOn a false else s
    else (s.dropPulse a true).onFeed a fun _ => {}

/-- Is feed a the one whose test pulse runs? -/
def State.pulsing (s : State) (a : Nat) : Bool := s.feeds.sweep.any fun w => w.pulse.any fun p => p.1 == a

/-- An overload latched since the last tick: feed a enters OVERLOAD, or counts a failed retry in its incident, and the next
retry is due after 100 ticks while any is left (R90). -/
def State.feedOverloaded (s : State) (a : Nat) : State :=
  let left := s.rd F.AFE_FEED_STAT_RETRY_LEFT a
  let s := if s.feedState a = feedOverload then (s.flag F.AFE_FEED_EVT 1).report 0x4502 (s.locFeed a) a
    else s.enterFeed a feedOverload a
  s.onFeed a fun _ => { retryAt := if 0 < left then some (s.clk.tick + 100) else none }

/-- The state of a feed that is on, from its current in mA and its open comparator: blanked in soft start and during a pulse,
when a feed below OPEN_MA keeps its state (R87, R88, R90). DEDUCED: log entry 69. -/
def State.feedOnState (s : State) (a current : Nat) (opened back blanked : Bool) : State :=
  let st := s.feedState a
  let high := decide (s.rd F.AFE_FEED_CFG_OPEN_MA ≤ current)
  if st = feedOpen then (if back then s.enterFeed a feedOn a else s)
  else if opened && !blanked then s.enterFeed a feedOpen a
  else if high then s.enterFeed a feedOn a
  else s

/-- One feed on a tick: its mean current in mA, and what its comparators latched: open while on, line above the off-state
threshold, current at or above OPEN_MA + 2 mA. Every change of STATE but that into SHED is made here (R87 to R91). -/
def State.feedTick (s : State) (a current : Nat) (opened lineUp back : Bool) : State :=
  let s := s.wr F.AFE_FEED_STAT_CURRENT_MA a (min 1023 current)
  let x := s.feed a
  let s := s.onFeed a fun x => { x with soft := x.soft - 1, short := none, clear := false }
  let st := s.feedState a
  if !s.feeds.vfeedOk then s.enterFeed a feedNoSupply a
  else if s.feedsShed a then s.enterFeed a feedShed a
  else if !s.feedEn a then s.enterFeed a (if lineUp then feedOpenOff else feedOff) a
  else if x.trip then s.feedOverloaded a
  else if st = feedOverload then
    if x.retrying && x.soft == 1 then
      let s := (s.onFeed a fun _ => {}).wr F.AFE_FEED_STAT_RETRY_LEFT a (s.rd F.AFE_FEED_CFG_RETRIES)
      s.enterFeed a feedOn a
    else s
  else
    match x.short with
    | some d => s.enterFeed a feedShorted d
    | none =>
      if st = feedShorted && !x.clear then s
      else s.feedOnState a current opened back (decide (1 < x.soft) || s.pulsing a)

/-- FEED_STATE_TICK: on a tick the keeper evaluates every feed from its comparators; current, opened, lineUp and back list
what they show for feeds 0 to 31 (R87). -/
def State.doFeedTick (s : State) (current : List Nat) (opened lineUp back : Nat) : State :=
  s.forEach (List.range 32) fun s a =>
    s.feedTick a (current.getD a 0) (opened.testBit a) (lineUp.testBit a) (back.testBit a)

/-- FEED_OVERLOAD_TRIP: a feed held in current limit past its time is switched off by its timer; it enters OVERLOAD on the
next tick (R90). A retry may trip within its soft start too. DEDUCED: log entry 70. -/
def State.doFeedTrip (s : State) (a : Nat) : State :=
  let x := s.feed a
  if s.feedEn a && s.feedFed a && !x.trip && (x.retrying || (x.soft == 0 && s.feedState a != feedOverload)) then
    s.onFeed a fun _ => { trip := true }
  else s

/-- FEED_RETRY: 100 ticks after an overload the keeper switches the feed on again (R90). -/
def State.doFeedRetry (s : State) (a : Nat) : State :=
  match (s.feed a).retryAt with
  | none => s
  | some t =>
    if s.feedState a = feedOverload ∧ s.feedEn a ∧ s.feedFed a then
      let s := (s.toTick t).wr F.AFE_FEED_STAT_RETRY_LEFT a (s.rd F.AFE_FEED_STAT_RETRY_LEFT a - 1)
      s.onFeed a fun _ => { soft := 10, retrying := true }
    else s

/-- The feeds of a region switch off in SHED in the same tick, or on again with a soft start where EN is 1 (R93). -/
def State.shedFeeds (s : State) (r : Nat) (off : Bool) : State :=
  let s := s.onFeeds fun x => { x with shed := x.shed.set r off }
  s.forEach ((List.range 8).map fun i => 8 * r + i) fun s a =>
    if off then
      let s := (s.dropPulse a true).onFeed a fun _ => {}
      if s.feeds.vfeedOk then s.enterFeed a feedShed a else s
    else if s.feedEn a && s.feedFed a then s.feedSwitchOn a false
    else s

/-- VFEED_UNDERVOLTAGE: VFEED falls below its threshold, its value in 10 mV: every feed loses its supply, a sweep stops, and
one keeper incident opens; the feeds read NO_SUPPLY from the next tick on (R87, R94, R95). -/
def State.doVfeedUnder (s : State) (mv10 : Nat) : State :=
  let s := s.wr F.PWR_AUX_VFEED_10MV 0 mv10
  if s.feeds.vfeedOk then
    let stopped := s.feeds.sweep
    let s := s.onFeeds fun x =>
      { x with vfeedOk := false, sweep := none
               lastSkipped := (stopped.map fun w => w.skipped).getD x.lastSkipped
               lastStopped := stopped.isSome || x.lastStopped
               feeds := List.replicate 32 {} }
    (s.wr F.AFE_FEED_TP_BUSY 0 0).report 0x4504 s.locKeeper mv10
  else s

/-- VFEED_RECOVER: each feed whose EN is 1 switches on again with a soft start, but for the feeds of a shed region (R87,
R93). -/
def State.doVfeedRecover (s : State) (mv10 : Nat) : State :=
  let s := s.wr F.PWR_AUX_VFEED_10MV 0 mv10
  if s.feeds.vfeedOk then s
  else
    let s := (s.onFeeds fun x => { x with vfeedOk := true }).conditionOver 0x4504 s.locKeeper
    s.forEach (List.range 32) fun s a => if s.feedEn a && s.feedFed a then s.feedSwitchOn a false else s

/-! ### Test-pulse sweeps (R91, R92) -/

/-- A sweep starts, unless one runs (R91). -/
def State.startSweep (s : State) : State :=
  if s.feeds.sweep.isSome then s
  else (s.wr F.AFE_FEED_TP_BUSY 0 1).onFeeds fun x => { x with sweep := some {}, lastSweepTick := s.clk.tick }

/-- FEED_SWEEP: a SWEEP write (R91). -/
def State.doFeedSweep (s : State) : State := s.startSweep

/-- FEED_SWEEP_PERIODIC: PERIOD_S seconds after the last start a sweep falls due; one that falls due while a sweep runs is
skipped (R91). DESIGN CHOICE (log entry 71): the period counts from the last start of a sweep of any cause. -/
def State.doFeedSweepPeriodic (s : State) : State :=
  if s.rdB F.AFE_FEED_TP_PERIODIC then
    let s := s.toTick (s.feeds.lastSweepTick + 1000 * s.rd F.AFE_FEED_TP_PERIOD_S)
    let s := s.onFeeds fun x => { x with lastSweepTick := s.clk.tick }
    s.startSweep
  else s

/-- FEED_SWEEP_START_UP: once after a cold start, when the image has started the feeds and all enabled feeds have left soft
start (R91, R411). -/
def State.doFeedSweepStartUp (s : State) : State :=
  if s.feeds.startSwept || (s.feeds.feeds.any fun x => decide (0 < x.soft)) || !s.sns.on then s
  else (s.onFeeds fun x => { x with startSwept := true }).startSweep

/-- May feed a be pulsed: TP_MASK set, ON or SHORTED by an earlier sweep, its region powered (R91)?
DEDUCED (log entry 43): a SHORTED feed is pulsed again, since a later sweep can find it clear (R87). -/
def State.eligible (s : State) (a : Nat) : Bool :=
  (s.rd F.AFE_FEED_TP_MASK_MASK).testBit a && s.feedRegionOn a && s.feedFed a &&
    (s.feedState a == feedOn || s.feedState a == feedShorted)

/-- The tick of a sweep's next step: one after its last pulse (R91). -/
def State.sweepTick (s : State) (w : Sweep) : State :=
  match w.tick with
  | some t => s.toTick (t + 1)
  | none => s

/-- FEED_TEST_PULSE: on a tick of a sweep the next eligible feed is pulsed, one on each tick; those before it are listed as
skipped. before lists the feeds' currents in mA; the data window of the feed's two channels runs from the pulse's first
sample (R91, R92). While ingest is stopped for a rate switch no pulse starts (R95). -/
def State.doFeedPulse (s : State) (before : List Nat) : State :=
  match s.feeds.sweep with
  | none => s
  | some w =>
    if w.pulse.isSome || s.plane.switch.any fun x => x.stage != 0 then s
    else
      let s := s.sweepTick w
      match ((List.range 32).filter fun a => decide (w.next ≤ a)).find? fun a => s.eligible a with
      | none =>
        let rest := (List.range 32).filter fun a => decide (w.next ≤ a)
        s.onFeeds fun x => { x with sweep := some { w with next := 32, skipped := w.skipped ++ rest } }
      | some a =>
        let n := s.clk.count
        let win := (rhe (s.clk.fs * 50) 1000000).toNat + (rhe (s.clk.fs * s.rd F.AFE_FEED_TP_RECOV_US) 1000000).toNat
        let passed := (List.range 32).filter fun b => decide (w.next ≤ b ∧ b < a)
        let s := s.onFeeds fun x =>
          { x with sweep := some { w with next := a, tick := some s.clk.tick, pulse := some (a, n), before := before
                                          skipped := w.skipped ++ passed } }
        s.forEach [2 * a, 2 * a + 1] fun s ch => s.mark ch { kind := .pulse, a := n, b := n + win - 1, f := 0 }

/-- The partner of a shorted feed: the other feed whose current rose by 50 mA or more, the largest rise of several
(R91). -/
def partnerOf (a : Nat) (before now : List Nat) : Option Nat :=
  let rise := fun b => now.getD b 0 - before.getD b 0
  ((List.range 32).filter fun b => b != a && decide (50 ≤ rise b)).foldl (fun best b =>
    match best with
    | none => some b
    | some c => if rise c < rise b then some b else some c) none

/-- FEED_PULSE_END: round(f_s * 50 us) samples after its start the pulse ends: lineHigh tells whether the line lies above
0.5 VFEED, now lists the currents. The feed switches on again; it and its partner read SHORTED from the next tick on, or
a feed found clear leaves SHORTED (R87, R91). -/
def State.doFeedPulseEnd (s : State) (lineHigh : Bool) (now : List Nat) : State :=
  match s.feeds.sweep with
  | none => s
  | some w =>
    match w.pulse with
    | none => s
    | some (a, n) =>
      let s := s.toCount (n + (rhe (s.clk.fs * 50) 1000000).toNat)
      let partner := if lineHigh then partnerOf a w.before now else none
      let s := (s.wr F.AFE_FEED_STAT_PARTNER a (partner.getD 0)).wrB F.AFE_FEED_STAT_PARTNER_VALID a partner.isSome
      let s := (s.onFeeds fun x => { x with sweep := some { w with pulse := none, next := a + 1 } }).feedSwitchOn a false
      let s := s.onFeed a fun x =>
        { x with short := if lineHigh then some (feedDetail a partner) else none, clear := !lineHigh }
      match partner with
      | some b => s.onFeed b fun x => { x with short := some (feedDetail b (some a)) }
      | none => s

/-- A sweep is over, with the feeds that it skipped (R91). -/
def State.closeSweep (s : State) (skipped : List Nat) (stopped : Bool) : State :=
  (s.onFeeds fun x => { x with sweep := none, lastSkipped := skipped, lastStopped := stopped }).wr F.AFE_FEED_TP_BUSY 0 0

/-- FEED_SWEEP_END: one tick after the last pulse the sweep ends (R91). -/
def State.doFeedSweepEnd (s : State) : State :=
  match s.feeds.sweep with
  | none => s
  | some w =>
    if w.pulse.isSome || ((List.range 32).any fun a => decide (w.next ≤ a) && s.eligible a) then s
    else (s.sweepTick w).closeSweep (w.skipped ++ (List.range 32).filter fun a => decide (w.next ≤ a)) false

/-- A rate switch ends a running pulse with the ingest stop; the feed switches on with a new soft start and is pulsed again
(R95). -/
def State.rateDropPulse (s : State) : State :=
  match s.feeds.sweep with
  | some w =>
    match w.pulse with
    | some p => (s.dropPulse p.1 false).feedSwitchOn p.1 false
    | none => s
  | none => s

/-- A warm reset ends a sweep, whose pulses the cluster sequencers time; a feed being pulsed switches on again. DEDUCED: log
entry 72. -/
def State.stopSweep (s : State) : State :=
  match s.feeds.sweep with
  | some w => s.rateDropPulse.closeSweep w.skipped true
  | none => s

end Sys2Proof.Machine
end

