-- ==== Sys2Proof/Machine/Converters.lean ====
section
/-! DEFINITION. Interleaved converters (R98 to R123): correction, background correction, Rehearsal, saved sets, region
phase, and the injection queues with skew calibration (R129). -/

namespace Sys2Proof.Machine

/-- Change the converters' own state. -/
def State.onAdc (s : State) (f : Adc → Adc) : State := { s with adc := f s.adc }

/-- Factory-trim mode, as CAL_MODE stood at start-up (R116). -/
def State.factoryTrim (s : State) : Bool := s.plane.trim

/-! ### Factors and correction (R99 to R101) -/

/-- The 32 factors of channel ch as ADC_CAL holds them: factor f of slice j at 4 j + f. -/
def State.factors (s : State) (ch : Nat) : List Nat := (List.range 32).map fun k => s.rd F.ADC_CAL_VALUE (32 * ch + k)

/-- Factors of channel ch change: (place, value) pairs of its 32. The blocks before the next block boundary keep the old
ones (R101). -/
def State.putFactors (s : State) (ch : Nat) (vs : List (Nat × Nat)) : State :=
  let old := s.factors ch
  let n := nextMultiple 64 s.clk.count
  let s := s.onChan ch fun c =>
    { c with calOld := match c.calOld with
        | some p => if s.clk.count < p.1 then some p else some (n, old)
        | none => some (n, old) }
  s.forEach vs fun s v => s.wr F.ADC_CAL_VALUE (32 * ch + v.1) v.2

/-- All 32 factors of a channel are replaced. -/
def State.loadFactors (s : State) (ch : Nat) (vs : List Nat) : State :=
  s.putFactors ch ((List.range 32).map fun k => (k, vs.getD k 0))

/-- The factor k of the channel that corrects the block at count n (R101). -/
def State.factorAt (s : State) (ch n k : Nat) : Int :=
  signed 16 (match (s.chan ch).calOld with
    | some p => if n < p.1 then p.2.getD k 0 else s.rd F.ADC_CAL_VALUE (32 * ch + k)
    | none => s.rd F.ADC_CAL_VALUE (32 * ch + k))

/-- The converter result of channel ch at a count, in 1/64 code: 0 where none is held, before the first of a run. -/
def Chan.result (c : Chan) (m : Nat) : Int :=
  if c.line.1 ≤ m then c.line.2.getD (m - c.line.1) 0 else 0

/-- The converter results that a raw block's command carries, from count n on, join those held: a count that is held keeps its
result. Results that no later block needs are let go. -/
def Chan.takeResults (c : Chan) (n : Nat) (conv : List Int) : Chan :=
  let held := if c.line.1 + c.line.2.length < n then (n, []) else c.line
  let all := held.2 ++ conv.drop (held.1 + held.2.length - n)
  let first := max held.1 (n - 32)
  { c with line := (first, all.drop (first - held.1)) }

/-- u of R99 of channel ch at count m, in 2^-24 code (R98). -/
def State.merged (s : State) (ch m : Nat) : Int :=
  let k := 4 * (m % 8)
  sliceValue (s.factorAt ch m k) (s.factorAt ch m (k + 1)) ((s.chan ch).result m)

/-- The corrected samples of channel ch at len counts from n - 24 on (R98, R99); those of a dropped block are 0 (R482), and so
are those before count 0. -/
def State.corrected (s : State) (ch n len : Nat) : List Int :=
  let us := (List.range (len + 14)).map fun i => if n + i < 31 then 0 else s.merged ch (n + i - 31)
  (List.range len).map fun i =>
    let m := n + i - 24
    if n + i < 24 ∨ (s.chan ch).drops.contains (m / 64 * 64) = true then 0
    else correct s.clk.fs (s.factorAt ch m (4 * (m % 8) + 2)) (s.factorAt ch m (4 * (m % 8) + 3)) ((us.drop i).take 15)

/-- A factor held within its range (R100). -/
def factorLimit (v : Int) : Int := clampInt (-32768) 32767 v

/-- A write of ADC_CAL (R101). -/
def State.writeCal (s : State) (i : Nat) (w : Word) : State := s.putFactors (i / 32) [(i % 32, w.toNat % 65536)]

/-! ### Background correction (R102 to R104) -/

/-- Does the background estimator of channel ch run: BG_EN set, native mode, the unit producing samples, and its region not
connected to the sources (R102, R107)? -/
def State.bgRuns (s : State) (ch : Nat) : Bool :=
  s.rdB F.ADC_CTL_BG_EN && !s.factoryTrim && s.producing ch && !(s.adc.reh.getD (regionOf ch) {}).connected

/-- A sample x of slice j, with the next one, enters the statistics of a window (R102). -/
def BgWin.add (b : BgWin) (j : Nat) (x next : Int) : BgWin :=
  { b with
    num := b.num.modify j (· + 1)
    sum := b.sum.modify j (· + x)
    power := b.power.modify j (· + x * x)
    cross := b.cross.modify j (· + x * next) }

/-- A corrected block of channel ch enters the background statistics, but for its clips, and not at all when it carries
REHEARSAL, SETTLE or RANGE_CHG (R102) or lies beyond the window's 2^20 counts. While the estimator does not run there is no
window, and the next one begins with the first block after. DESIGN CHOICE: log entry 73. -/
def State.bgBlock (s : State) (ch n : Nat) (xs : List Int) (clips : List Bool) : State :=
  let c := s.chan ch
  if !s.bgRuns ch then s.onChan ch fun c => { c with bg := {} }
  else
    let win := if c.bg.start.isNone then { start := some n } else c.bg
    let out := (c.spans.any fun x => (x.kind == .rehearsal || x.kind.settles) && x.onRaw n)
      || (c.spans.any fun x => x.kind == .rangeChg && x.onRaw n) || !(win.start.any fun a => decide (n < a + 2 ^ 20))
    let bg := if out then win
      else (List.range 64).foldl (fun (w : BgWin) i =>
        if clips.getD i false then w else w.add ((n + i) % 8) (xs.getD i 0) (xs.getD (i + 1) 0)) win
    s.onChan ch fun c => { c with bg := bg }

/-- Does a window's mean input power reach -40 dBFS, 0 dBFS being a sine of peak 2048 (R75, R103)? -/
def BgWin.strong (b : BgWin) : Bool := decide (2048 ^ 2 * ((b.num.sum : Nat) : Int) ≤ 20000 * b.power.sum) && b.num.sum != 0

/-- The move of the factors at the end of an excited window: each by 2^-BG_MU of its estimated error, the rounding of the
product being open (R101, R102). -/
def State.bgMove (s : State) (ch : Nat) (errors : List Int) : State :=
  let mu := s.rd F.ADC_CTL_BG_MU
  let (free, s) := s.freeBelow (2 ^ 32)
  s.putFactors ch ((List.range 32).map fun k =>
    let e := errors.getD k 0
    let step := e / (2 ^ mu : Nat) + (if e % (2 ^ mu : Nat) = 0 then 0 else ((free.testBit k).toNat : Int))
    (k, wrapBits 16 (factorLimit (s.rdS F.ADC_CAL_VALUE (32 * ch + k) + step))))

/-- The estimated errors of the 32 factors, by factor index, from those of offset and gain and those of timing and bandwidth, each
two to a slice (R100, R102). -/
def bgErrors (levels edges : List Int) : List Int :=
  (List.range 32).map fun k => (if k % 4 < 2 then levels else edges).getD (k / 4 * 2 + k % 2) 0

/-- BG_WINDOW_END: the window of 2^20 samples of channel ch ends and the next one begins. share is the percent of its power
near the multiples of f_s / 16, spur its largest spur in -dBFS, errors the estimated errors of the 32 factors: the
estimators over the statistics are not given (log entry 7). A window that is not excited changes no factor, and its spur
estimate counts for nothing. DESIGN CHOICE: log entry 74. -/
def State.doBgWindow (s : State) (ch : Nat) (share spur : Nat) (errors : List Int) : State :=
  match (s.chan ch).bg.start with
  | none => s
  | some a =>
    if !s.bgRuns ch then s
    else
      let strong := (s.chan ch).bg.strong
      let s := (s.toCount (a + 2 ^ 20)).onChan ch fun c => { c with bg := { start := some (a + 2 ^ 20) } }
      if !strong || decide (90 < share) then
        let idle := (s.chan ch).bgIdle + 1
        let s := s.onChan ch fun c => { c with bgIdle := idle }
        if 16 ≤ idle then s.wr F.ADC_BG_STAT_HOLD ch 1 else s
      else
        let good := if 80 ≤ spur then (s.chan ch).bgGood + 1 else 0
        let s := (s.bgMove ch errors).onChan ch fun c => { c with bgIdle := 0, bgGood := good }
        let s := (s.wr F.ADC_BG_STAT_HOLD ch 0).wr F.ADC_BG_STAT_RESID ch (min 255 spur)
        if 8 ≤ good then s.wr F.ADC_BG_STAT_CONVERGED ch 1
        else if spur < 78 then s.wr F.ADC_BG_STAT_CONVERGED ch 0
        else s

/-! ### Injection queues (R57, R119 to R122, R129) -/

/-- Completion statuses (R122). -/
def injDone : Nat := 0
def injBusy : Nat := 1
def injDisabled : Nat := 2
def injRegionOff : Nat := 3
def injSource : Nat := 4
def injAborted : Nat := 5
def injBadParam : Nat := 6

/-- The injection queue of cluster g. -/
def State.injQueue (s : State) (g : Nat) : List Inject := s.adc.inj.getD g []

/-- Replace the injection queue of cluster g; PENDING follows it. -/
def State.setInjQueue (s : State) (g : Nat) (q : List Inject) : State :=
  (s.onAdc fun a => { a with inj := a.inj.set g q }).wr F.ADC_INJ_STAT_PENDING g q.length

/-- RESULT of an INJECT command: N_i with DONE and ABORTED, else 0 (R334). A request aborted before it had an N_i has none to
show, and the value is free (log entry 6). -/
def State.injResult (s : State) (x : Inject) (status : Nat) : Nat × State :=
  if status = injDone ∨ status = injAborted then
    match x.ni with
    | some n => (n, s)
    | none => s.freeBelow (2 ^ 64)
  else (0, s)

/-- A request that has left the queue ends with its completion in ADC_INJ_STAT and, for a Prompter command, its completion
entry with N_i; PENDING of a skew calibration stays while another one of the cluster is queued or running (R122, R129,
R334). -/
def State.injComplete (s : State) (x : Inject) (status : Nat) : State :=
  let g := x.ch / 4
  let s := ((s.wr F.ADC_INJ_STAT_LAST_STATUS g status).wr F.ADC_INJ_STAT_LAST_CH g
    (if x.skew then 4 * g else x.ch)).wrB F.ADC_INJ_STAT_LAST_KIND g x.skew
  let more := (s.injQueue g).any fun y => y.skew
  let s := if x.skew && !more then s.forEach (clusterChans g) fun s ch => s.wr F.FLT_SKEW_MEAS_PENDING ch 0 else s
  match x.prm with
  | some p =>
    let (n, s) := s.injResult x status
    s.finishCmd p.1 p.2 (BitVec.ofNat 64 n) status 0 0
  | none => s

/-- The waiting changes of a cluster's channels move past the windows of its queue (R81, R128). -/
def State.clearWindows (s : State) (g : Nat) : State := s.forEach (clusterChans g) fun s ch => s.moveChanges ch

/-- The head of a cluster's queue gets its window start, unless its region rehearses (R57, R119); a unit that is disabled by
then has its request completed as DISABLED, and the next one takes its turn (R122). -/
def State.assignInject (s : State) (g n : Nat) : State :=
  s.forEach (s.injQueue g) fun s y =>
    match s.injQueue g with
    | [] => s
    | x :: rest =>
      if x != y || x.ni.isSome || (s.adc.reh.getD (g / 4) {}).busy then s
      else if (if x.skew then (clusterChans g).all fun ch => !s.unitOn ch else !s.unitOn x.ch) then
        (s.setInjQueue g rest).injComplete x injDisabled
      else (s.setInjQueue g ({ x with ni := some (max x.least (nextMultiple 64 n)) } :: rest)).clearWindows g

/-- Does R105 know the signal, with its parameter and level? DEDUCED (log entry 44): an index beyond the level column is outside it. -/
def signalOk (sig param level : Nat) : Bool :=
  match sig with
  | 0 => true
  | 1 => true
  | 2 => decide (1 ≤ param ∧ param ≤ 511)
  | 3 => decide (1 ≤ param ∧ param ≤ 16 ∧ level ≤ 1)
  | 4 => decide (level ≤ 1)
  | _ => false

/-- Why a request is refused at its arrival, if it is (R122, R129). DEDUCED (log entry 44): in the order of this list. -/
def State.injRefusal (s : State) (x : Inject) : Option Nat :=
  let g := x.ch / 4
  let off := if x.skew then (clusterChans g).all fun ch => !s.unitOn ch else !s.unitOn x.ch
  if !x.skew && !signalOk x.signal.1 x.signal.2.1 x.signal.2.2 then some injBadParam
  else if off then some injDisabled
  else if !(s.region (g / 4)).live || !s.plane.ingest then some injRegionOff
  else if s.plane.sourceFault.contains g then some injSource
  else if 2 ≤ (s.injQueue g).length then some injBusy
  else none

/-- A request joins a cluster's queue in the order of arrival; of two units' requests of the same sample the lower unit's goes
first, while no window runs (R57). -/
def joinInject (q : List Inject) (x : Inject) : List Inject :=
  match q with
  | [y] =>
    if !y.running && !y.skew && !x.skew && decide (y.at_ = x.at_ ∧ x.ch < y.ch) then [x, { y with ni := none }] else [y, x]
  | _ => q ++ [x]

/-- A request enters its cluster's queue, or completes at once (R57, R119, R129). -/
def State.requestInject (s : State) (x : Inject) (ns : Nat) : State :=
  match s.injRefusal x with
  | some st => s.injComplete x st
  | none =>
    let g := x.ch / 4
    let x := { x with at_ := s.clk.count, least := boundaryAfter 64 (s.reach ns) }
    ((s.setInjQueue g (joinInject (s.injQueue g) x)).assignInject g 0).clearWindows g

/-- INJECT_REQUEST: a write of ADC_INJ_REQ (R119). -/
def State.doInjectRequest (s : State) (w : Word) (ns : Nat) : State :=
  s.requestInject { ch := getField w 0 6, signal := (getField w 6 3, getField w 9 10, getField w 19 2) } ns

/-- INJECT_WINDOW_START: at N_i the source is connected: REHEARSAL over the window, and SETTLE on its first raw block
(R120, R121, R129); the background statistics leave its blocks out. -/
def State.doInjectStart (s : State) (g : Nat) : State :=
  match s.injQueue g with
  | x :: rest =>
    match x.ni with
    | some n =>
      if x.running then s
      else
        let s := (s.toCount n).setInjQueue g ({ x with running := true } :: rest)
        s.forEach x.chans fun s ch =>
          (s.mark ch { kind := .rehearsal, a := n, b := n + x.len - 1, f := s.firHalf ch }).mark ch
            { kind := .settle, a := n, b := n + 15, stream := false }
    | none => s
  | [] => s

/-- The head of a cluster's queue leaves it with a status, and the next request takes its turn at count n. -/
def State.popInject (s : State) (g status n : Nat) : State :=
  match s.injQueue g with
  | [] => s
  | x :: rest => ((s.setInjQueue g rest).injComplete x status).assignInject g n

/-- A running window ends at its last sample: SETTLE on what follows (R121, R129). -/
def State.endWindow (s : State) (g : Nat) (x : Inject) (n : Nat) : State :=
  let e := n + x.len
  let s := s.toCount e
  (s.forEach x.chans fun s ch =>
    (s.onSource ch n fun y => { y with fe := some (s.firHalf ch) }).mark ch
      { kind := .settle, a := e, b := e + 15, f := s.firHalf ch }).popInject g injDone e

/-- INJECT_COMPLETE: the window of an injected conversion has ended, and its completion is issued (R120). -/
def State.doInjectComplete (s : State) (g : Nat) : State :=
  match s.injQueue g with
  | x :: _ =>
    match x.ni with
    | some n => if x.running && !x.skew then s.endWindow g x n else s
    | none => s
  | [] => s

/-- SKEW_CAL_REQUEST: a write of FLT_SKEW_CAL queues a skew calibration of each named cluster, which drives EDGE of period 1
at -6 dBFS; its units read PENDING 1 and VALID 0 (R129). -/
def State.doSkewCal (s : State) (mask ns : Nat) : State :=
  s.forEach ((List.range 16).filter fun g => mask.testBit g) fun s g =>
    let s := s.forEach (clusterChans g) fun s ch => (s.wr F.FLT_SKEW_MEAS_PENDING ch 1).wr F.FLT_SKEW_MEAS_VALID ch 0
    s.requestInject { ch := 4 * g, skew := true, signal := (3, 1, 1) } ns

/-- SKEW_CAL_COMPLETE: a skew calibration ends: FLT_SKEW_MEAS of each enabled unit takes its delay relative to the mean of
the cluster's enabled units, in 1/256 sample (R129, log entry 7). -/
def State.doSkewCalComplete (s : State) (g : Nat) (meas : List Int) : State :=
  match s.injQueue g with
  | x :: _ =>
    match x.ni with
    | some n =>
      if x.running && x.skew then
        let s := s.toCount (n + x.len)
        let s := s.forEach (clusterChans g) fun s ch =>
          if s.unitOn ch then (s.wrS F.FLT_SKEW_MEAS_MEAS ch (meas.getD (ch % 4) 0)).wr F.FLT_SKEW_MEAS_VALID ch 1 else s
        s.endWindow g x n
      else s
    | none => s
  | [] => s

/-- All requests of a cluster end: a running window with a status, the others with another. Its marks are cut at count
n. DESIGN CHOICE: log entry 75. -/
def State.dropInjects (s : State) (g running waiting n : Nat) : State :=
  let q := s.injQueue g
  let s := s.setInjQueue g []
  s.forEach q fun s x =>
    let s := if x.running then
        s.forEach x.chans fun s ch => s.onSource ch (x.ni.getD 0) fun y => { y with b := max y.a (n - 1) }
      else s
    s.injComplete x (if x.running then running else waiting)

/-! ### Rehearsal (R106 to R112) -/

/-- Rehearsal of region r. -/
def State.rehOf (s : State) (r : Nat) : Reh := s.adc.reh.getD r {}

/-- Change Rehearsal of region r. -/
def State.onReh (s : State) (r : Nat) (f : Reh → Reh) : State := s.onAdc fun a => { a with reh := a.reh.modify r f }

/-- A channel's factors from before N_s. -/
def Reh.old (x : Reh) (ch : Nat) : List Nat := (x.factors.drop (32 * (ch % 16))).take 32

/-- CAL_SOURCE_FAULT: a cluster's source is faulty from now on: one report, and requests that wait are refused. A Rehearsal
that has already written new factors gives the cluster its previous ones back (R58, R112). -/
def State.doSourceFault (s : State) (g : Nat) : State :=
  if s.plane.sourceFault.contains g then s
  else
    let s := (s.onPlane fun p => { p with sourceFault := g :: p.sourceFault }).report 0x2204 (s.locCluster g) 0
    let q := s.injQueue g
    let s := s.setInjQueue g (q.filter fun x => x.running)
    let s := s.forEach (q.filter fun x => !x.running) fun s x => s.injComplete x injSource
    let x := s.rehOf (g / 4)
    if x.connected && decide (5 < x.phase) then
      s.forEach ((clusterChans g).filter fun ch => x.units.contains ch) fun s ch => s.loadFactors ch (x.old ch)
    else s

/-- ADC_REH_STAT.RESULT of region r. -/
def rehResult (r : Nat) : Fld := ⟨F.ADC_REH_STAT, 4, 3 * r + 4, 3⟩

/-- Set BUSY of region r. -/
def State.setRehBusy (s : State) (r : Nat) (b : Bool) : State :=
  let v := s.rd F.ADC_REH_STAT_BUSY
  s.wr F.ADC_REH_STAT_BUSY 0 (v - (if v.testBit r then 2 ^ r else 0) + (if b then 2 ^ r else 0))

/-- The phases' lengths (R108), in sample periods. -/
def phaseLengths : List Nat := [1200000, 12000000, 24000000, 48000000, 96000000, 24000000, 9600000, 1200000]

/-- N_r - N_s (R107). -/
def rehLength : Nat := 216000000

/-- Clusters of a region. -/
def regionClusters (r : Nat) : List Nat := (List.range 4).map fun i => 4 * r + i

/-- The end of the windows running or assigned at the heads of a region's injection queues (R107, step 3). -/
def State.windowsEnd (s : State) (r : Nat) : Option Nat :=
  ((regionClusters r).filterMap fun g => (s.injQueue g).head?.bind fun x => x.ni.map fun n => n + x.len).max?

/-- Rehearsal of one region starts: BUSY, and N_s after the windows in its way (R107). A region that is off, or one whose
ingest is stopped, answers NOT_RUN (R111). DESIGN CHOICE: log entry 76. -/
def State.startRehearsal (s : State) (r ns : Nat) : State :=
  if (s.rehOf r).busy then s
  else if !(s.region r).live || !s.plane.ingest then s.wr (rehResult r) 0 3
  else
    let s := s.setRehBusy r true
    let at_ := s.reach ns
    let (at_, s) := match s.windowsEnd r with
      | some e => if at_ < e then (e, s.flag F.ADC_REH_EVT 0) else (at_, s)
      | none => (at_, s)
    s.onReh r fun _ => { busy := true, ns := boundaryAfter 64 at_ }

/-- REHEARSAL_START: a nonzero START mask; refused in factory-trim mode (R106, R112, R116). -/
def State.doRehearsalStart (s : State) (mask ns : Nat) : State :=
  if mask % 16 = 0 then s
  else if s.factoryTrim then s.configFault s.locCx F.ADC_REH_CMD
  else s.forEach ((List.range 4).filter fun r => mask.testBit r) fun s r => s.startRehearsal r ns

/-- REHEARSAL_CONNECT: at N_s the region's enabled units connect to their sources; their blocks carry REHEARSAL (R107,
R110). -/
def State.doRehearsalConnect (s : State) (r : Nat) : State :=
  let x := s.rehOf r
  if !x.busy || x.connected then s
  else
    let s := s.toCount x.ns
    let units := (regionChans r).filter fun ch => s.producing ch
    let facs := (regionChans r).flatMap fun ch => s.factors ch
    let reg := s.regGet (F.ADC_PLL_PHASE + 4 * r)
    let s := s.onReh r fun x => { x with connected := true, phase := 1, units := units, factors := facs, phaseReg := reg }
    s.forEach units fun s ch =>
      s.mark ch { kind := .rehearsal, a := x.ns, b := x.ns + rehLength - 1, f := s.firHalf ch }

/-- The units that Rehearsal measures: enabled at N_s and still, and their cluster's source sound (R58, R109). -/
def State.measured (s : State) (r : Nat) : List Nat :=
  (s.rehOf r).units.filter fun ch => s.unitOn ch && !s.plane.sourceFault.contains (ch / 4)

/-- The new factors of a measured unit from the measurements of phases 2 to 5, and whether one is at its limit (R100,
R109). The measurements list 16 units of 8 slices. -/
def Reh.newFactors (x : Reh) (u : Nat) : List (Nat × Nat) × Bool :=
  let raw := (List.range 8).flatMap fun j =>
    [(4 * j, (x.meas.getD 2 []).getD (8 * u + j) 0), (4 * j + 1, (x.meas.getD 3 []).getD (8 * u + j) 0),
     (4 * j + 2, (x.meas.getD 5 []).getD (8 * u + j) 0), (4 * j + 3, (x.meas.getD 4 []).getD (8 * u + j) 0)]
  (raw.map fun p => (p.1, wrapBits 16 (factorLimit p.2)), raw.any fun p => factorLimit p.2 != p.2)

/-- What the end of a phase writes: the factors after phase 5, the region phase after phase 6 (R109). -/
def State.phaseEnd (s : State) (r phase : Nat) : State :=
  let x := s.rehOf r
  if phase = 5 then
    let s := s.forEach (s.measured r) fun s ch => s.putFactors ch (x.newFactors (ch % 16)).1
    s.onReh r fun x => { x with limited := x.units.filter fun ch => (x.newFactors (ch % 16)).2 }
  else if phase = 6 then
    ((s.wrS F.ADC_PLL_PHASE_PHASE r ((x.meas.getD 6 []).getD 0 0)).wr F.ADC_PLL_PHASE_SOURCE r 1).phaseChanged r
  else s

/-- REHEARSAL_PHASE: the next phase of region r begins at its count, and the phase before it ends with its measurements:
for phases 2 to 5 factor values by unit and slice, for phase 6 the region phase, for phase 7 the largest residual spur of
each unit in -dBFS (R108, R109, log entry 7). -/
def State.doRehearsalPhase (s : State) (r : Nat) (meas : List Int) : State :=
  let x := s.rehOf r
  if x.connected && decide (x.phase < 8) then
    let s := s.toCount (x.ns + (phaseLengths.take x.phase).sum)
    let m := (if x.meas.length ≤ x.phase then x.meas ++ List.replicate (x.phase + 1 - x.meas.length) [] else x.meas).set
      x.phase meas
    (s.onReh r fun x => { x with meas := m, phase := x.phase + 1 }).phaseEnd r x.phase
  else s

/-- Rehearsal of a region is over: it releases the changes and requests that waited for it (R57, R81). -/
def State.releaseRehearsal (s : State) (r n : Nat) : State :=
  let s := (s.setRehBusy r false).onReh r fun _ => {}
  let s := (s.flag F.ADC_REH_EVT 1).forEach (regionChans r) fun s ch => s.releaseRange ch n
  s.forEach (regionClusters r) fun s g => s.assignInject g n

/-- The grade of a unit (R109): 0 PASS, 1 MARGINAL, 2 FAIL, 3 NOT_RUN. -/
def State.grade (s : State) (r ch : Nat) : Nat :=
  let x := s.rehOf r
  let spur := (x.meas.getD 7 []).getD (ch % 16) 0
  if !(s.measured r).contains ch then 3
  else if x.limited.contains ch then 2
  else if 80 ≤ spur then 0
  else if 72 ≤ spur then 1
  else 2

/-- REHEARSAL_RECONNECT: at N_r the inputs reconnect; the units are graded; one that reads FAIL or NOT_RUN takes back its
factors, FAIL with an incident; RESULT is PASS when every unit enabled now reads PASS; BUSY clears (R107, R109 to R111). tj
is the die's junction temperature (R118). -/
def State.doRehearsalReconnect (s : State) (r : Nat) (tj : Int) : State :=
  let x := s.rehOf r
  if x.connected && x.phase == 8 then
    let n := x.ns + rehLength
    let s := s.toCount n
    let grades := (regionChans r).map fun ch => s.grade r ch
    let s := s.forEach ((regionChans r).filter fun ch => (s.chan ch).since.isSome) fun s ch =>
      (s.forEach ((s.chan ch).spans.filter fun y => y.kind = .rehearsal ∧ y.b = n - 1) fun s y =>
        s.onSource ch y.a fun y => { y with fe := some (s.firHalf ch) }).mark ch
          { kind := .settle, a := n, b := n + 15, f := s.firHalf ch }
    let s := s.forEach (x.units.filter fun ch => decide (2 ≤ grades.getD (ch % 16) 3)) fun s ch => s.loadFactors ch (x.old ch)
    let s := s.forEach ((regionChans r).filter fun ch => grades.getD (ch % 16) 3 == 2) fun s ch =>
      s.report 0x2203 (s.locUnit ch) ((x.meas.getD 7 []).getD (ch % 16) 0).toNat
    let s := s.regPut (F.ADC_REH_CH_RES + 4 * r)
      (BitVec.ofNat 32 ((List.range 16).map fun u => grades.getD u 3 * 4 ^ u).sum)
    let pass := ((regionChans r).filter fun ch => s.unitOn ch).all fun ch => grades.getD (ch % 16) 3 == 0
    let s := s.wr (rehResult r) 0 (if pass then 1 else 2)
    let s := if r < 2 then s.wrS F.ADC_REH_TEMP_TJ_QF0 0 tj else s.wrS F.ADC_REH_TEMP_TJ_QF1 0 tj
    s.releaseRehearsal r n
  else s

/-- Rehearsal of a region stops at count n with a result, ABORTED or PLL_LOSS: its factors and region phase are as before
N_s (R111). -/
def State.stopRehearsal (s : State) (r result n : Nat) : State :=
  let x := s.rehOf r
  if !x.busy then s
  else
    let s := if x.connected then
        let s := s.forEach (regionChans r) fun s ch => s.loadFactors ch (x.old ch)
        let s := s.forEach (regionChans r) fun s ch => s.onChan ch fun c =>
          { c with spans := c.spans.map fun y =>
              if y.kind = .rehearsal ∧ y.b = x.ns + rehLength - 1 then { y with b := max y.a (n - 1) } else y }
        if s.regGet (F.ADC_PLL_PHASE + 4 * r) = x.phaseReg then s
        else (s.regPut (F.ADC_PLL_PHASE + 4 * r) x.phaseReg).phaseChanged r
      else s
    (s.wr (rehResult r) 0 result).releaseRehearsal r n

/-! ### Saved sets (R113, R114) -/

/-- The newest valid saved set. -/
def State.newestSet (s : State) : Option CalSet :=
  (s.adc.saved.filter fun c => c.valid).foldl (fun (best : Option CalSet) c =>
    match best with
    | none => some c
    | some b => if b.seq < c.seq then some c else some b) none

/-- The slot that the next save writes: the one that does not hold the newest valid set. -/
def State.saveSlot (s : State) : Nat :=
  match s.newestSet with
  | none => 0
  | some c => if s.adc.saved.head? = some c then 1 else 0

/-- May SAVE or LOAD run: no region's BUSY is set (R112)? -/
def State.rehIdle (s : State) : Bool := s.rd F.ADC_REH_STAT_BUSY == 0

/-- CAL_SAVE: SAVE captures ADC_CAL, the region phases and ADC_REH_TEMP and starts writing them; refused in factory-trim
mode and while a region rehearses (R112, R113, R116). DEDUCED: log entry 45. DESIGN CHOICE: log entry 77. -/
def State.doCalSave (s : State) : State :=
  if s.factoryTrim || !s.rehIdle then s.configFault s.locCx F.ADC_REH_CMD
  else if s.adc.saving.isSome then s
  else
    let set : CalSet :=
      { cal := (List.range 2048).map fun i => s.rd F.ADC_CAL_VALUE i
        phases := (List.range 4).map fun r => s.regGet (F.ADC_PLL_PHASE + 4 * r)
        temp := s.regGet F.ADC_REH_TEMP, valid := false, seq := 1 + (s.adc.saved.map fun c => c.seq).foldl max 0 }
    let slot := s.saveSlot
    (s.onAdc fun a => { a with saved := a.saved.set slot set, saving := some slot }).wr F.ADC_REH_STAT_SAVE_BUSY 0 1

/-- CAL_SAVE_DONE: the write and its check have completed; the set is valid when the check passed (R113). -/
def State.doCalSaveDone (s : State) (ok : Bool) : State :=
  match s.adc.saving with
  | none => s
  | some i =>
    let s := s.onAdc fun a => { a with saved := a.saved.modify i fun c => { c with valid := ok }, saving := none }
    (s.wr F.ADC_REH_STAT_SAVE_BUSY 0 0).wrB F.ADC_REH_STAT_SAVED_VALID 0 s.newestSet.isSome

/-- The factors that a load takes: the newest valid saved set, or the factory set, always in factory-trim mode (R113,
R114, R116). -/
def State.loadSource (s : State) (i : Nat) : Nat :=
  match if s.factoryTrim then none else s.newestSet with
  | some c => c.cal.getD i 0
  | none => Config.factoryCal i % 65536

/-- ADC_CAL is loaded from its source (R113, R114). -/
def State.loadCal (s : State) : State :=
  s.forEach allChans fun s ch => s.loadFactors ch ((List.range 32).map fun k => s.loadSource (32 * ch + k))

/-- CAL_LOAD: LOAD (R112, R113). -/
def State.doCalLoad (s : State) : State :=
  if s.rehIdle then s.loadCal else s.configFault s.locCx F.ADC_REH_CMD

/-- The phase detector's reading of region r, in 1/16 sample, replaces the region phase (R115). -/
def State.takePhase (s : State) (r : Nat) (reading : Int) : State :=
  ((s.wrS F.ADC_PLL_PHASE_PHASE r (16 * reading)).wr F.ADC_PLL_PHASE_SOURCE r 0).phaseChanged r

end Sys2Proof.Machine
end

