-- ==== Sys2Proof/Machine/Counters.lean ====
section
/-! DEFINITION. Latches and dumps of the event and focus counters, sticky bits, focus filters, and tracer records (R440 to
R448). -/

namespace Sys2Proof.Machine

/-- The 48-bit value of counter j: event counter j below 512, then focus counter j - 512 (R450). -/
def State.counterAt (s : State) (j : Nat) : Nat :=
  if j < 512 then s.rdPair F.PMC_CNT_LO_VALUE F.PMC_CNT_HI_VALUE j
  else s.rdPair F.PMC_FOCUS_LO_VALUE F.PMC_FOCUS_HI_VALUE (j - 512)

/-- The sticky bit of counter j (R445). -/
def State.wrapped (s : State) (j : Nat) : Bool := (s.rd F.PMC_WRAP_WRAPPED (j / 32)).testBit (j % 32)

/-- SNAP: a write of PMC_CMD.SNAP latches all 528 counters and the count of the instant (R440, R442). -/
def State.doSnap (s : State) : State :=
  (s.forEach (List.range 528) fun s j => s.wrPair F.PMC_SNAP_LO_VALUE F.PMC_SNAP_HI_VALUE j (s.counterAt j)).wrPair
    F.PMC_SNAP_COUNT_LO_L F.PMC_SNAP_COUNT_HI_L 0 (s.clk.count % 2 ^ 64)

/-- CLR_WRAP: a write of PMC_CMD.CLR_WRAP clears all sticky bits (R445). -/
def State.doClrWrap (s : State) : State := s.forEach (List.range 17) fun s i => s.wr F.PMC_WRAP_WRAPPED i 0

/-- A counter word of a dump (R444). -/
def State.counterWord (s : State) (j index : Nat) : LWord :=
  word64 [(55, index), (54, (s.wrapped j).toNat), (0, s.counterAt j)]

/-- The words of a dump's part (R444). -/
def State.dumpPart (s : State) (part : Nat) : List LWord :=
  [ word64 [(56, 0x42), (49, part), (0, s.locCx)], word64 [(32, s.rd F.PMC_DUMP_NO_NO)], word64 [(16, s.nowT48)],
    BitVec.ofNat 64 s.clk.count ] ++
  (if part < 4 then (List.range 128).map fun i => s.counterWord (128 * part + i) (128 * part + i)
   else (List.range 16).flatMap fun f =>
     [word64 [(32, (s.regGet (F.PMC_FOCUS_CFG + 16 * f)).toNat), (0, (s.regGet (F.PMC_FOCUS_LOC + 16 * f)).toNat)],
      s.counterWord (512 + f) f])

/-- Does a part of the last dump still wait to enter the class 3 queue (R443)? -/
def State.dumpWaits (s : State) : Bool :=
  (s.queue 3).blocked.any fun p => (qData (p.words.headD 0)).toNat / 2 ^ 56 == 0x42

/-- A dump falls due: its number, and its five parts or its skip (R443, R444). -/
def State.dump (s : State) : State :=
  let s := s.wr F.PMC_DUMP_NO_NO 0 (s.rd F.PMC_DUMP_NO_NO + 1)
  if s.dumpWaits then (s.satAdd F.PMC_DUMP_SKIP_COUNT 0 1).flag F.PMC_EVT 1
  else s.forEach ((List.range 5).map s.dumpPart) fun s ws => s.push 3 ws

/-- DUMP_NOW: a write of PMC_CMD.DUMP_NOW triggers one dump; at S1 and deeper none falls due (R443). -/
def State.doDumpNow (s : State) : State := if s.stage = 0 then s.dump else s

/-- PERIODIC_DUMP: the PERIOD_MS-th tick comes (R443). -/
def State.doPeriodicDump (s : State) : State :=
  if s.rdB F.PMC_CTL_DUMP_EN && s.stage == 0 then
    let due := s.pmc.base + s.rd F.PMC_CTL_PERIOD_MS
    let s := s.toTick due
    ({ s with pmc := { s.pmc with base := due } }).dump
  else s

/-- FOCUS_CONFIG_WRITE: a write of PMC_FOCUS_CFG (part 0) or PMC_FOCUS_LOC (part 1) of focus counter f sets the counter to
0 and clears its WRAPPED bit (R441). -/
def State.doFocusWrite (s : State) (f part : Nat) (w : Word) : State :=
  let s := if part = 0 then s.regPut (F.PMC_FOCUS_CFG + 16 * f) (w &&& 0x3FFFF) else s.regPut (F.PMC_FOCUS_LOC + 16 * f) w
  (s.wrPair F.PMC_FOCUS_LO_VALUE F.PMC_FOCUS_HI_VALUE f 0).wr F.PMC_WRAP_WRAPPED 16
    (s.rd F.PMC_WRAP_WRAPPED 16 &&& (2 ^ 32 - 1 - 2 ^ f))

/-- An offset as a tracer record stores it: 0xFF_FFFF for a point never reached, at most 0xFF_FFFE (R447). -/
def traceOffset (o : Option Nat) : Nat :=
  match o with
  | none => 0xFFFFFF
  | some n => min 0xFFFFFE n

/-- The record of a tagged block (R448): the eight offsets form one 192-bit field across words 3 to 5. -/
def State.tracerWords (s : State) (t : TraceTag) (offsets : List (Option Nat)) : List LWord :=
  let v := (List.range 8).foldl (fun v i => v * 2 ^ 24 +
    traceOffset (if i = 7 ∧ t.discarded then none else offsets.getD i none)) 0
  [ word64 [(56, 0x43), (52, 6), (51, (s.inMemory 2).toNat), (50, t.discarded.toNat), (46, t.mode), (44, t.decim),
            (0, s.locUnit t.ch)],
    BitVec.ofNat 64 t.n, word64 [(16, t48 (s.timeOf t.n))],
    BitVec.ofNat 64 (v / 2 ^ 128), BitVec.ofNat 64 (v / 2 ^ 64), BitVec.ofNat 64 v ]

/-- Does the packet of a tagged block still wait whole: in the encoder or in its class 2 sub-queue? -/
def State.tagWaits (s : State) (t : TraceTag) : Bool :=
  let q := s.queue (4 + t.ch / 8)
  let has := fun ch n0 => ch == t.ch && decide (n0 ≤ t.n) && decide (t.n < n0 + 1024 * 2 ^ t.decim)
  q.progress.any (fun p => has p.1 p.2.1) || q.waiting.any fun p => has p.ch p.n0

/-- TRACER_RECORD: the i-th tagged block in flight reached point 9 or was discarded, and its record enters class 3 (R448).
The offsets of points 2 to 9 are what the points read (log entry 7). -/
def State.doTracerRecord (s : State) (i : Nat) (offsets : List (Option Nat)) : State :=
  match s.pmc.tags[i]? with
  | none => s
  | some t =>
    if !t.discarded && s.tagWaits t then s
    else ({ s with pmc := { s.pmc with tags := s.pmc.tags.eraseIdx i } }).push 3 (s.tracerWords t offsets)

end Sys2Proof.Machine
end

