-- ==== Sys2Proof/Machine/Readout.lean ====
section
/-! DEFINITION. Snippet extraction (R187, R188), station readout (R195 to R200), and the window into the ring (R453). -/

namespace Sys2Proof.Machine

/-! ### Snippets (R187, R188) -/

/-- The first counts of the blocks from a to b. -/
def blockCounts (a b : Nat) : List Nat := (List.range ((b - a) / 64)).map fun i => a + 64 * i

/-- SNIPPET_EXTRACT_START: the cue has closed and count end - 1 has been written by every channel that still writes, and the
waiting job with the earliest end begins: its header enters class 3 (R187, R188). -/
def State.doSnippetStart (s : State) : State :=
  let waiting := s.trg.jobs.filter fun j => !j.running
  match waiting.find? fun j => waiting.all fun x => decide (j.stop ≤ x.stop) with
  | none => s
  | some j =>
    if (mapChans j.set).any fun ch => decide (s.avail ch (j.stop / 64 - 1) = .later) then s
    else
      let j' := { j with running := true, rd := { at_ := firstPlace j.set j.start j.stop } }
      let s := s.runPort.onTrg fun t => { t with jobs := t.jobs.map fun x => if x = j then j' else x }
      s.pushSteered 3 (setSteer j.set) (s.snipHeader j)

/-- The running snippet job of a CUE_ID. -/
def State.snippetOf (s : State) (id : Nat) : Option SnipJob := s.trg.jobs.find? fun j => j.running && j.id == id

/-- The read port goes on until the snippet job of a CUE_ID has read its window (R190). -/
def State.readSnippet (s : State) (id : Nat) : State :=
  s.runPortTo fun t => (t.snippetOf id).all fun j => j.rd.at_.isNone

/-- SNIPPET_COMPLETE: the job of a CUE_ID reads its last block, and its segments and trailer enter class 3 (R188). size is the
number of blocks that a segment takes, bad what goes wrong in the encoder (R216). -/
def State.doSnippetComplete (s : State) (id size : Nat) (bad : Upsets) : State :=
  let t := s.readSnippet id
  match t.snippetOf id with
  | none => s
  | some j =>
    if j.rd.at_.isSome then s
    else ((t.onTrg fun x => { x with jobs := x.jobs.erase j }).endSnippet j size false bad).showJobs

/-! ### Requests (R195, R196) -/

/-- The first count whose network time is at or after a time (R196), 0 for a time before the first count. -/
def State.countAt (s : State) (t : Int) : Nat :=
  let guess := ((t - s.tim.offset) * 2 ^ 56 / (s.tim.tnom * (2 ^ 40 + s.tim.rate) : Int)).toNat
  let from_ := guess - 2
  (((List.range 6).map fun i => from_ + i).find? fun n => decide (t ≤ s.timeOf n)).getD (from_ + 6)

/-- The time that a T48 start names: the value within 2^31 ns of now (R195). -/
def State.nearTime (s : State) (t : Nat) : Int := s.now + signed 48 (t + 2 ^ 48 - s.nowT48 % 2 ^ 48)

/-- Samples that the readouts ahead have to read, over all their channels (R196). -/
def State.readAhead (s : State) : Nat := (s.trg.readouts.map fun r => 64 * r.due).sum

/-- F of R196 for n delivered channels whose largest V is v: from S, and from where the read finishes ahead of the
overwrite front at the guaranteed share of 19.2e9 samples per second. DEDUCED (log entry 13): the predicted read time of
the readouts ahead is that of all their samples at that share. -/
def firstCount (fs n v s e guardNs ahead : Nat) : Nat :=
  let a : Int := v + ceilDiv (fs * (192 * guardNs + 10 * ahead)) 192000000000
  let f : Int := if fs * n ≤ 19200000000 then max (s : Int) a
    else max (s : Int) (max a (e - 19200000000 * ((e : Int) - a) / ((n * fs : Nat) : Int)))
  nextMultiple 64 f.toNat

/-- The blocks between F and E that a delivered channel lacks: neither held nor still to be written (R197). -/
def State.lacks (s : State) (ch a b : Nat) : Nat :=
  ((blockCounts a b).filter fun n => decide (s.avail ch (n / 64) = .never)).length

/-- A readout answer header (R198) enters the priority part of class 1, counted under event 0x10C. -/
def State.pushAnswer (s : State) (req status reason first blocks skipped map : Nat) : State :=
  let ws := [ word64 [(56, 0x15), (52, 5), (48, status), (44, reason), (0, req)], BitVec.ofNat 64 first,
              word64 [(32, blocks), (0, skipped)], BitVec.ofNat 64 map,
              if status = 3 then 0 else word64 [(16, t48 (s.timeOf first))] ]
  (s.pushSteered 2 (setSteer map) ws).count 0x10C s.locCx 1

/-- The reason that declines a request, the lowest that applies (R197), 0 for none. DEDUCED: log entry 52. -/
def State.declineReason (s : State) (len map first : Nat) : Nat :=
  if len = 0 ∨ 100000 < len then 1
  else if map &&& s.trg.map = 0 then 2
  else if 8 ≤ s.trg.readouts.length then 3
  else if s.ringState = ringFrozen ∧ (s.trg.z.getD 0) ≤ first then 4
  else if s.clk.count + s.samplesUs 100 < first then 5
  else if !s.trg.running ∨ s.plane.switch.isSome then 6
  else if s.ringState = ringRearming then 7
  else 0

/-- READOUT_REQUEST: REQ_ID, length in ns, T48 start and channel map. A duplicate within 1 ms of a served request is
discarded and counted (R195); any other is answered with a header (R196 to R198). -/
def State.doReadoutRequest (s : State) (req len t map : Nat) : State :=
  let window := s.samplesUs 1000
  if s.trg.served.any fun p => p.1 == req && decide (s.clk.count < p.2 + window) then
    s.satAdd F.TRG_RO_STAT_DUPLICATES 0 1
  else
    let s := s.onTrg fun x =>
      { x with served := (req, s.clk.count) :: x.served.filter fun p => decide (s.clk.count < p.2 + window) }
    let ts := s.nearTime t
    let first := s.countAt ts / 64 * 64
    let e0 := nextMultiple 64 (s.countAt (ts + len * 65536))
    let reason := s.declineReason len map first
    if reason ≠ 0 then s.pushAnswer req 3 reason 0 0 0 0
    else
      let frozen := s.ringState = ringFrozen
      let e := if frozen then min e0 (s.trg.z.getD e0) else e0
      let got := map &&& s.trg.map
      let chs := mapChans got
      let f := firstCount (if frozen then 0 else s.clk.fs) chs.length (s.vMax chs) first e (s.rd F.TRG_RO_CFG_GUARD_NS)
        s.readAhead
      if e ≤ f then s.pushAnswer req 2 0 f 0 ((f - first) / 64) got
      else
        let absent := (chs.map fun ch => s.lacks ch f e).sum
        let whole := f = first ∧ e = e0 ∧ got = map ∧ absent = 0
        let status := if whole then 0 else 1
        let s := (s.runPort).pushAnswer req status 0 f ((e - f) / 64) ((f - first) / 64) got
        (s.onTrg fun x =>
          { x with readouts := x.readouts ++ [{ req := req, first := f, stop := e, map := got, status := status
                                                absent := absent, rd := { at_ := firstPlace got f e } }] }).showJobs

/-- The readout of a REQ_ID. -/
def State.readoutOf (s : State) (req : Nat) : Option Readout := s.trg.readouts.find? fun r => r.req == req

/-- The read port goes on until the readout of a REQ_ID has read its window (R190). -/
def State.readReadout (s : State) (req : Nat) : State :=
  s.runPortTo fun t => (t.readoutOf req).all fun r => r.rd.at_.isNone

/-- READOUT_COMPLETE: the readout of a REQ_ID reads its last block, and its segments and trailer enter class 3 (R200). It waits
while a block of its window is still to be written. -/
def State.doReadoutComplete (s : State) (req size : Nat) (bad : Upsets) : State :=
  let t := s.readReadout req
  match t.readoutOf req with
  | none => s
  | some r =>
    if r.rd.at_.isSome then s
    else ((t.onTrg fun x => { x with readouts := x.readouts.erase r }).endReadout r size false bad).showJobs

/-! ### The diagnostic window (R170, R453) -/

/-- Diagnostic reads of n bytes of a running ring take bursts of the last share (R190, R453). -/
def State.diagRead (s : State) (n : Nat) : State :=
  if s.trg.running then s.runPort.onTrg fun t => { t with port := { t.port with diag := t.port.diag + ceilDiv n 512 } } else s

/-- The word of the ring window at a byte offset, a multiple of 4: the sample area, or the attribute log from
0x00FF_F000. DESIGN CHOICE: log entry 67. -/
def State.ringWord (s : State) (off : Nat) : Word :=
  if 0x00FFF000 ≤ off then tableGet 0 s.trg.alog ((off - 0x00FFF000) / 4)
  else BitVec.ofNat 32 ((tableGet 0 s.trg.blocks (off / 96)).toNat / 2 ^ (8 * (off % 96)))

end Sys2Proof.Machine
end

