-- ==== Sys2Proof/Machine/Faults.lean ====
section
/-! DEFINITION. Fault reports and incidents as commands (R419 to R427, R69) and telemetry (R433). -/

namespace Sys2Proof.Machine

/-- The kind of location that R419 gives a code: 0 any, 1 unit, 2 cluster, 3 region, 4 QF die, 5 CX, 6 keeper, 7 the module,
8 flash, 9 a watch cell's unit on CX; none for a code that it does not assign. -/
def codePlace (c : Nat) : Option Nat :=
  if [0x1001, 0x2001, 0x4301, 0x4501, 0x4502, 0x4503, 0x6002, 0x6003].contains c then some 0
  else if [0x2201, 0x2202, 0x2203].contains c then some 1
  else if c = 0x2204 then some 2
  else if c = 0x2101 ∨ c = 0x2103 then some 3
  else if c = 0x2110 then some 4
  else if [0x1002, 0x1003, 0x2111, 0x2120, 0x2206, 0x3001, 0x3002, 0x3003, 0x3004, 0x3008, 0x3009, 0x3101, 0x3105, 0x3106,
           0x6001].contains c then some 5
  else if [0x3107, 0x4302, 0x4303, 0x4304, 0x4401, 0x4402, 0x4403, 0x4404, 0x4504, 0x5201, 0x5202, 0x5203, 0x5301, 0x5302,
           0x5303, 0x5304, 0x5401, 0x5402, 0x5500, 0x5501, 0x5601, 0x5602, 0x5603, 0x5701].contains c
      || (decide (0x4100 ≤ c) && decide (c < 0x4110)) || (decide (0x4200 ≤ c) && decide (c < 0x4220))
      || (decide (0x5100 ≤ c) && decide (c < 0x5108)) || (decide (0x5110 ≤ c) && decide (c < 0x5118)) then some 6
  else if [0x2002, 0x3102, 0x3103, 0x3104].contains c then some 7
  else if c = 0x6004 ∨ c = 0x6005 then some 8
  else if c = 0x2205 then some 9
  else none

/-- Change the fault unit's own state. -/
def State.onFau (s : State) (f : Fau → Fau) : State := { s with fau := f s.fau }

/-- Is a place below the module, as die, region, cluster and unit, one whose location code occurs (R19, R20): F under an F,
and a region of a QF die one of its own? -/
def placeOk (place : Nat) : Bool :=
  let d := place / 4096 % 16
  let r := place / 256 % 16
  let c := place / 16 % 16
  let u := place % 16
  (decide (d < 5) || d == 15) && (decide (r < 4) || r == 15) && (decide (c < 4) || c == 15) && (decide (u < 4) || u == 15)
    && (d != 15 || r == 15) && (r != 15 || c == 15) && (c != 15 || u == 15) && (decide (2 ≤ d) || r == 15 || r / 2 == d)

/-- May a report of a code carry a location (R419, R20)? -/
def codeAt (c place : Nat) : Bool :=
  let d := place / 4096 % 16
  let r := place / 256 % 16
  let u := place % 16
  placeOk place &&
    (match codePlace c with
     | none => false
     | some 0 => true
     | some 1 => decide (u < 4) && (decide (d < 2) || (d == 2 && c == 0x2202))
     | some 2 => decide (d < 2) && decide (place / 16 % 16 < 4) && u == 15
     | some 3 => decide (d < 2) && decide (r < 4) && place % 256 == 255
     | some 4 => decide (d < 2) && place % 4096 == 4095
     | some 5 => place == 0x2FFF
     | some 6 => place == 0x3FFF
     | some 7 => place == 0xFFFF
     | some 8 => place == 0x4FFF
     | some _ => d == 2 && decide (u < 4))

/-- The open incident that holds a report of a root, if one does. -/
def State.takenBy (s : State) (c l d : Nat) : Option Nat :=
  match s.rootFor c l d with
  | some _ => none
  | none => s.sameRoot c l d

/-- FAULT_REPORT: a report of a code of R419 from outside the modelled functions, with its location below the module, and DETAIL,
reaches the fault unit (R421). A location code that does not occur (R20) is no report. -/
def State.doFaultReport (s : State) (code place detail : Nat) : State :=
  let place := place % 65536
  if !codeAt code place then s
  else
    let l := s.moduleId * 65536 + place
    let s := s.report code l (detail % 2 ^ 32)
    match s.takenBy code l (detail % 2 ^ 32) with
    | some e => s.onInc e fun x => { x with outer := true }
    | none => s

/-- Codes whose condition the model holds itself, so that it knows when it has cleared. -/
def ownCondition (c : Nat) : Bool :=
  [0x2001, 0x2002, 0x2101, 0x2103, 0x2110, 0x2111, 0x2120, 0x2201, 0x3001, 0x3004, 0x3008, 0x3101, 0x3102, 0x3103, 0x3104,
   0x3107, 0x4301, 0x4302, 0x4401, 0x4501, 0x4502, 0x4503, 0x4504].contains c
  || (decide (0x4100 ≤ c) && decide (c < 0x4300)) || decide (c / 4096 = 5 ∧ c ≠ 0x5601)

/-- An open incident closes: CLOSED waits to be sent, or OPENED_CLOSED (R421, R426). -/
def State.closeInc (s : State) (e : Nat) : State :=
  let t := s.nowT48
  let s := s.onInc e fun x => { x with st := .closed, tLast := t, held := false, pending := true, lasting := false }
  if e = 255 then s.wr F.FAU_STAT_OVERFLOW 0 0 else s

/-- INCIDENT_HOLD_EXPIRY: 2 ms after it opened, a held incident is to be reported (R423). -/
def State.doHoldExpiry (s : State) (e : Nat) : State :=
  let x := s.incAt e
  if x.st = .opened ∧ x.held then
    (s.toTick (x.openTick + 2)).onInc e fun x => { x with held := false, pending := true }
  else s

/-- INCIDENT_CLOSE_TIMER: an incident whose condition has cleared closes 10 ms after the latest report of its root; the
overflow incident, once an entry has become free too (R421, R424). cleared says so of a condition outside the model (log
entry 7). -/
def State.doCloseTimer (s : State) (e : Nat) (cleared : Bool) : State :=
  let x := s.incAt e
  if x.st = .opened ∧ ((cleared && (x.outer || !ownCondition x.code)) || !x.lasting) ∧ (e ≠ 255 ∨ s.incAlloc.isSome) then
    (s.toTick (x.lastTick + 10)).closeInc e
  else s

/-- May a report be sent: lane 0 or lane 12 is UP and a module ID is assigned (R426)? -/
def State.mayReport (s : State) : Bool :=
  (s.rd F.LNK_LANE_STAT_STATE 0 == 2 || s.rd F.LNK_LANE_STAT_STATE 12 == 2) && s.moduleId != 0

/-- Words 0 to 3 of an entry (R420). -/
def Incident.words (x : Incident) : List LWord :=
  let st := match x.st with
    | .free => 0
    | .opened => 1
    | .closed => 2
    | .folded => 3
  [ word64 [(48, x.id), (32, x.code), (0, x.loc)],
    word64 [(16, x.tFirst), (14, st), (13, x.station.toNat), (12, x.previous.toNat), (11, x.pending.toNat)],
    word64 [(16, x.tLast), (0, x.root)], word64 [(32, x.count), (0, x.detail)] ]

/-- EVENT of the report that an entry would now send (R425, R426). -/
def Incident.event (x : Incident) : Nat :=
  match x.sentTick with
  | none => if x.st = .opened then 0 else 3
  | some _ => if x.st = .opened then 1 else 2

/-- The report of an entry is sent on class 0, at least 2 us after the last incident frame (R296, R425, R426).
DEDUCED: log entry 57. -/
def State.sendIncident (s : State) (e : Nat) : State :=
  let s := match s.fau.lastSend with
    | some n => s.toCount (n + s.samplesUs 2)
    | none => s
  let ev := (s.incAt e).event
  let s := s.onInc e fun x => { x with pending := false, sentTick := some s.clk.tick }
  (s.push 0 (word64 [(56, 0x05), (52, 5), (50, ev)] :: (s.incAt e).words)).onFau fun f =>
    { f with lastSend := some s.clk.count }

/-- INCIDENT_REPORT_SEND: a waiting report is sent, no sooner than 100 ms after the previous one of its incident; the
first report of a station-wide event follows R69 instead (R426). -/
def State.doReportSend (s : State) (e : Nat) : State :=
  let x := s.incAt e
  if x.pending && !x.held && s.mayReport && (!x.station || x.sentTick.isSome) then
    (match x.sentTick with
     | some t => s.toTick (t + 100)
     | none => s).sendIncident e
  else s

/-- STATION_WIDE_REPORT: the reporting interval has begun and the random delay has passed, and the first report of a
station-wide event is sent (R69). -/
def State.doStationReport (s : State) (e : Nat) : State :=
  let x := s.incAt e
  if x.pending && x.station && x.sentTick.isNone && s.mayReport then
    (s.toCount (s.countAt (x.dueNs * 65536 : Nat))).sendIncident e
  else s

/-- CLOSE: a write of FAU_CMD.CLOSE closes the named open entry at once; a condition that persists is reported again on
the next slow tick (R421, R436). -/
def State.doClose (s : State) (e : Nat) : State :=
  let x := s.incAt e
  if x.st = .opened then
    let s := s.closeInc e
    if x.lasting then s.onFau fun f => { f with again := f.again ++ [(x.code, x.loc, x.detail, s.clk.tick)] } else s
  else s

/-- Conditions whose incidents a host closed are reported again on the first slow tick after the close (R421). -/
def State.reportAgain (s : State) : State :=
  let due := s.fau.again.filter fun a => decide (a.2.2.2 < s.clk.tick)
  let s := s.onFau fun f => { f with again := f.again.filter fun a => decide (s.clk.tick ≤ a.2.2.2) }
  s.forEach due fun s a => s.report a.1 a.2.1 a.2.2.1

/-- PURGE_PREVIOUS: every PREVIOUS entry becomes FREE (R436). -/
def State.doPurgePrevious (s : State) : State :=
  s.onFau fun f => { f with inc := f.inc.map fun x => if x.previous then {} else x }

/-- Open incidents (R436). -/
def State.openIncidents (s : State) : Nat := (s.fau.inc.filter fun x => x.st == .opened).length

/-- Whole seconds of network time at a time (R308). -/
def secondsOf (t : Int) : Int := t / 65536000000000

/-- The telemetry packet of second k (R433). -/
def State.telemetryWords (s : State) (k : Int) : List LWord :=
  let temp := fun i => wrapBits 8 (s.plane.temps.getD i 0)
  [ word64 [(56, 0x41), (52, 8), (49, s.stage), (40, s.openIncidents), (0, s.locModule)], BitVec.ofInt 64 k,
    word64 [(16, t48 (k * 65536000000000))],
    word64 [(50, s.rd F.PWR_VIN_VIN_10MV), (38, s.rd F.PWR_AUX_VAUX24_10MV), (26, s.rd F.PWR_AUX_VFEED_10MV),
            (16, s.rd F.PWR_POWER_INPUT_DW), (6, s.rd F.PWR_VCORE_SETPOINT_MV)],
    word64 [(56, temp 0), (48, temp 1), (40, temp 2), (32, temp 3), (24, temp 4), (16, s.rd F.PWR_PACE_STAT_MIN_MARGIN),
            (12, s.rd F.PWR_PACE_STAT_MIN_MONITOR), (9, s.rd F.TIM_STAT_STATE), (6, s.rd F.SAF_STAT_STATE),
            (4, (!s.clk.refclk).toNat)],
    word64 [(32, s.fau.corrSecond % 2 ^ 32), (0, s.fau.scrubSecond % 2 ^ 32)],
    word64 [(32, s.fau.discardSecond % 2 ^ 32), (0, s.fau.verifySecond % 2 ^ 32)], 0 ]

/-- TELEMETRY: at a whole second of network time, counted from the first count before time is acquired, the telemetry
packet enters class 3 (R433). DEDUCED: log entry 55. -/
def State.doTelemetry (s : State) : State :=
  if !s.plane.cxOn then s
  else
    let k := secondsOf s.now
    let k := if k = s.fau.lastSecond then k + 1 else k
    let s := s.toCount (s.countAt (k * 65536000000000))
    (s.push 3 (s.telemetryWords k)).onFau fun f =>
      { f with corrSecond := 0, scrubSecond := 0, discardSecond := 0, verifySecond := 0, lastSecond := k }

end Sys2Proof.Machine
end

