-- ==== Sys2Proof/Machine/Time.lean ====
section
/-! DEFINITION. Laral time and time-stamps (R301 to R325): the relation of counts to network time and its re-basing,
the exchanges, acquisition, the servo, holdover and jumps, PPS, asymmetry calibration and voting.

Stamps and their sums are held in units of 2^-16 ns / 1000, in which every UI of R312 and every ps of TIM_ASYM is a
whole number; theta and delay are formed from them exactly and rounded half-even to 2^-16 ns, the unit in which R310
and R324 show them (DEDUCED, log entry 10). -/

namespace Sys2Proof.Machine

/-! ### States and stamps -/

/-- TIM_STAT.STATE (R324). -/
def timFree : Nat := 0
def timAcquiring : Nat := 1
def timLocked : Nat := 2
def timHoldover : Nat := 3
def timRefused : Nat := 4

/-- The state of the clock. -/
def State.timState (s : State) : Nat := s.rd F.TIM_STAT_STATE

/-- Enter a state of the clock. -/
def State.setTimState (s : State) (n : Nat) : State := s.wr F.TIM_STAT_STATE 0 n

/-- Change the time unit's own state. -/
def State.onTim (s : State) (f : Tim → Tim) : State := { s with tim := f s.tim }

/-- Is SOURCE 1, so that PPS edges govern time (R319)? -/
def State.ppsMode (s : State) : Bool := s.rdB F.TIM_CTL_SOURCE

/-- The path in use (R316). -/
def State.pathInUse (s : State) : Nat := s.rd F.TIM_STAT_PATH_IN_USE

/-- Is path p good (R316)? -/
def State.pathGood (s : State) (p : Nat) : Bool :=
  if p = 0 then s.rdB F.TIM_STAT_PATH_A_GOOD else s.rdB F.TIM_STAT_PATH_B_GOOD

/-- Set whether path p is good. -/
def State.setPathGood (s : State) (p : Nat) (b : Bool) : State :=
  if p = 0 then s.wrB F.TIM_STAT_PATH_A_GOOD 0 b else s.wrB F.TIM_STAT_PATH_B_GOOD 0 b

/-- Is lane n in state UP (R257)? -/
def State.laneUp (s : State) (n : Nat) : Bool := s.rd F.LNK_LANE_STAT_STATE n == 2

/-- The rate of a path in Gbit/s (R245). -/
def State.pathRate (s : State) (p : Nat) : Nat :=
  let c := if p = 0 then s.rd F.LNK_PATH_CFG_RATE_A else s.rd F.LNK_PATH_CFG_RATE_B
  if c = 0 then 10 else if c = 1 then 20 else 32

/-- One UI of a path in units of 2^-16 ns / 1000. -/
def State.uiUnits (s : State) (p : Nat) : Int := ((65536000 / s.pathRate p : Nat) : Int)

/-- Time passes until network time has reached t, in 2^-16 ns, at the rate in force (R303). -/
def State.toTime (s : State) (t : Int) : State :=
  let step := s.tim.tnom * (2 ^ 40 + s.tim.rate)
  let n := ((t - s.tim.offset) * 2 ^ 56 + step - 1) / step
  s.toCount n.toNat

/-- Network time of count k and phase phi / 1024, in units of 2^-16 ns / 1000. -/
def State.stampUnits (s : State) (k phi : Nat) : Int := s.tim.at_ (k * 1024 + phi) 1024 * 1000

/-- Integer ns and a 16-bit fraction, in units of 2^-16 ns / 1000. -/
def nsUnits (ns frac : Nat) : Int := ((ns * 65536 + frac) * 1000 : Nat)

/-- A value shown in a 32-bit field: itself in range, and otherwise a free value, for the manual does not say how it
is shown (log entry 6). -/
def State.show32 (s : State) (v : Int) : Nat × State :=
  if -2 ^ 31 ≤ v ∧ v < 2 ^ 31 then (wrapBits 32 v, s) else s.freeBelow (2 ^ 32)

/-! ### Relations (R303 to R306) -/

/-- Push the relation record in force or announced (R306). -/
def State.pushRelation (s : State) (r : Relation) : State :=
  (s.push 1
    [ word64 [(56, 0x13), (52, 5), (49, r.st), (48, r.step.toNat), (32, r.master), (0, s.locCx)],
      BitVec.ofNat 64 r.ne,
      BitVec.ofInt 64 (r.offset / 65536),
      word64 [(48, (r.offset % 65536).toNat), (14, r.tnom)],
      word64 [(32, wrapBits 32 r.rate), (0, r.seq % 2 ^ 32)] ]).onTim fun t => { t with relationAt := s.now }

/-- MASTER_ID as the relation record carries it: of the path in use, 0 in PPS mode or before acquisition (R306). -/
def State.relationMaster (s : State) : Nat :=
  if s.ppsMode || !s.tim.acquired then 0 else s.tim.master.getD s.pathInUse 0

/-- The relation that holds once every waiting re-base has taken effect. -/
def Tim.projected (t : Tim) : Tim :=
  match t.pending.getLast? with
  | none => t
  | some r => { t with offset := r.offset, rate := r.rate, tnom := r.tnom }

/-- N_e of a decision at count n: the first multiple of 1024 at least 2048 samples later (R304). -/
def effectiveCount (n : Nat) : Nat := nextMultiple 1024 (n + 2048)

/-- The offset that a re-base at ne to a new rate and t_nom gives, with a step (R304). -/
def newOffset (old : Tim) (ne : Nat) (rate : Int) (tnom : Nat) (step : Int) : Int :=
  rhe ((old.at_ ne 1 + step) * 2 ^ 56 - ne * tnom * (2 ^ 40 + rate)) (2 ^ 56)

/-- A re-base is decided: it waits for its N_e, and its relation record enters class 1 (R304, R306). -/
def State.decideRebase (s : State) (rate : Int) (step : Int) (stepped : Bool) : State :=
  let ne := effectiveCount s.clk.count
  let old := s.tim.projected
  let r : Relation :=
    { st := s.timState, step := stepped, master := s.relationMaster, ne := ne,
      offset := newOffset old ne rate old.tnom step, tnom := old.tnom, rate := rate, seq := s.tim.relationSeq + 1 }
  (s.onTim fun t => { t with pending := t.pending ++ [r], relationSeq := r.seq }).pushRelation r

/-- The marks of elapsed time move with a step of network time (R316, R319). DEDUCED: log entry 95. -/
def Tim.shift (t : Tim) (d : Int) : Tim :=
  { t with lastAccept := t.lastAccept.map fun x => x.map fun n => n + d, ppsLast := t.ppsLast.map fun n => n + d
           relationAt := t.relationAt + d }

/-- REBASE: at N_e the oldest waiting relation takes effect (R304). -/
def State.doRebase (s : State) : State :=
  match s.tim.pending with
  | [] => s
  | r :: rest =>
    (s.toCount r.ne).onTim fun t =>
      let u := { t with offset := r.offset, rate := r.rate, tnom := r.tnom, pending := rest, relation := r }
      u.shift (u.at_ r.ne 1 - t.at_ r.ne 1)

/-- A relation that takes effect at once at count n, as at the resume of a rate switch (R304), or that announces a
change of state without a re-base (R318). -/
def State.relationNow (s : State) (n : Nat) (offset : Int) (tnom : Nat) : State :=
  let r : Relation :=
    { st := s.timState, step := false, master := s.relationMaster, ne := n, offset := offset, tnom := tnom,
      rate := s.tim.rate, seq := s.tim.relationSeq + 1 }
  (s.onTim fun t =>
    { t with offset := offset, tnom := tnom, pending := [], relation := r, relationSeq := r.seq }).pushRelation r

/-- RELATION_REPEAT: the record in force is sent again, with the sequence number it has (R306). -/
def State.doRelationRepeat (s : State) : State :=
  s.pushRelation { s.tim.relation with st := s.timState }

/-! ### Holdover and the path in use (R316, R318) -/

/-- Whether the governing source is good (R318). -/
def State.sourceGood (s : State) : Bool :=
  if s.ppsMode then s.rdB F.TIM_STAT_PPS_GOOD else s.pathGood 0 || s.pathGood 1

/-- The path in use is PRIMARY while it is good, and otherwise the other path; DISAGREE compares the last thetas while
both are good (R316). -/
def State.selectPath (s : State) : State :=
  let prim := s.rd F.TIM_CTL_PRIMARY
  let s := s.wr F.TIM_STAT_PATH_IN_USE 0 (if s.pathGood prim then prim else 1 - prim)
  let d := s.tim.lastTheta.getD 0 0 - s.tim.lastTheta.getD 1 0
  s.wrB F.TIM_STAT_DISAGREE 0 (s.pathGood 0 && s.pathGood 1 && decide (131072 < d ∨ d < -131072))

/-- A LOCKED clock with no good source enters HOLDOVER: a relation record with STATE HOLDOVER and a station-wide report
(R318). -/
def State.checkHoldover (s : State) : State :=
  if s.timState = timLocked ∧ !s.sourceGood then
    let s := (s.setTimState timHoldover).flag F.TIM_EVT 0
    (s.relationNow s.tim.relation.ne s.tim.offset s.tim.tnom).report 0x3102 s.locModule 0
  else s

/-- An asymmetry calibration that cannot go on ends with VALID 0 (R320). -/
def State.endCal (s : State) : State :=
  if s.tim.cal.isSome then
    ((s.wr F.TIM_ASYM_MEAS_VALID 0 0).wr F.TIM_ASYM_MEAS_BUSY 0 0).onTim fun t => { t with cal := none }
  else s

/-! ### Rounds (R311 to R315) -/

/-- The servo of R315 for a round or edge: integrator and rate, and the re-base it decides. The period is 62.5 ms, or
1 s in PPS mode (R319). -/
def State.servo (s : State) (theta : Int) : State :=
  let kp := s.rd F.TIM_SERVO_KP
  let ki := s.rd F.TIM_SERVO_KI
  let i := s.tim.integ + theta
  let period := if s.ppsMode then 1000000000 else 62500000
  let adj := rhe ((theta * 2 ^ ki + i * 2 ^ kp) * 2 ^ 40) (2 ^ (kp + ki + 16) * period)
  let rate := clampInt (-2 ^ 31) (2 ^ 31 - 1) (s.tim.projected.rate - adj)
  (s.onTim fun t => { t with integ := i }).decideRebase rate 0 false

/-- The least-squares line through the points of an acquisition (R314, step 2): the rate change round(y * 2^40) and the
fitted theta at network time x, both rounded half-even. -/
def fitLine (pts : List (Int × Int)) (x : Int) : Int × Int :=
  let n : Int := pts.length
  let x0 := (pts.headD (0, 0)).1
  let sx := (pts.map fun p => p.1 - x0).sum
  let st := (pts.map fun p => p.2).sum
  let sxx := n * (pts.map fun p => (p.1 - x0) * (p.1 - x0)).sum - sx * sx
  let sxy := n * (pts.map fun p => (p.1 - x0) * p.2).sum - sx * st
  if sxx ≤ 0 then (0, rhe st (max 1 n.toNat))
  else (rhe (sxy * 2 ^ 40) sxx.toNat, rhe (st * sxx - sxy * sx + n * sxy * (x - x0)) (n * sxx).toNat)

/-- A step of -theta at N_e resets the integrator (R304, R315). -/
def State.stepBy (s : State) (rate step : Int) : State :=
  (s.onTim fun t => { t with integ := 0 }).decideRebase rate step true

/-- A round or edge while the clock is not yet locked; at_ is the network time of its t2 or stamp, in 2^-16 ns (R314). -/
def State.acquireRound (s : State) (at_ theta : Int) : State :=
  let s := if s.timState = timFree then
      (s.setTimState timAcquiring).onTim fun t => { t with points := [], lockRun := 0, stepped := false, afterStep := false }
    else s
  let s := if s.tim.afterStep ∧ (65536000 ≤ theta ∨ theta ≤ -65536000) then
      s.onTim fun t => { t with points := [], lockRun := 0, stepped := false, afterStep := false }
    else s.onTim fun t => { t with afterStep := false }
  if s.tim.stepped then
    let run := if -65536 < theta ∧ theta < 65536 then s.tim.lockRun + 1 else 0
    let s := s.onTim fun t => { t with lockRun := run }
    if run ≥ 4 then s.setTimState timLocked else s
  else
    let pts := s.tim.points ++ [(at_, theta)]
    if pts.length < 8 then s.onTim fun t => { t with points := pts }
    else
      let ne := effectiveCount s.clk.count
      let fit := fitLine pts (s.tim.projected.at_ ne 1)
      let rate := clampInt (-2 ^ 31) (2 ^ 31 - 1) (s.tim.projected.rate - fit.1)
      (s.onTim fun t =>
        { t with points := [], stepped := true, afterStep := true, lockRun := 0, acquired := true, acquiredOnce := true }).stepBy
          rate (-fit.2)

/-- Does |theta| exceed TIM_JUMP_THR (R317)? -/
def State.beyondJump (s : State) (theta : Int) : Bool :=
  decide ((s.rd F.TIM_JUMP_THR_NS * 65536 : Nat) < theta.natAbs)

/-- A refused round: state REFUSED, JUMP_SEEN, TIM_JUMP_OFS, and the station-wide report (R317). -/
def State.refuseJump (s : State) (theta : Int) : State :=
  let s := ((s.setTimState timRefused).flag F.TIM_EVT 1).onTim fun t => { t with refused := theta }
  let s := s.wrPair F.TIM_JUMP_OFS_LO_OFS F.TIM_JUMP_OFS_HI_OFS 0 (wrapBits 64 (-theta))
  s.report 0x3103 s.locModule (wrapBits 32 (clampInt (-2 ^ 31) (2 ^ 31 - 1) (rhe (-theta) 65536)))

/-- The clock is LOCKED again: the conditions of a holdover and of a refused jump are over. -/
def State.relock (s : State) : State :=
  ((s.setTimState timLocked).conditionOver 0x3102 s.locModule).conditionOver 0x3103 s.locModule

/-- An accepted round or edge of the governing source (R314 to R318). After ACCEPT_JUMP it makes the one step, by the latest
refused theta (R317, R323). -/
def State.governRound (s : State) (at_ theta : Int) : State :=
  if s.timState = timFree ∨ s.timState = timAcquiring then s.acquireRound at_ theta
  else if s.tim.accept ∧ s.timState = timRefused then
    ((s.onTim fun t => { t with accept := false }).relock).stepBy s.tim.projected.rate (-s.tim.refused)
  else if s.beyondJump theta then s.refuseJump theta
  else (if s.timState = timLocked then s else s.relock).servo theta

/-- A path has an accepted round: it is good, and the path in use follows (R316). -/
def State.roundAccepted (s : State) (p : Nat) (theta delay : Int) : State :=
  let s := s.onTim fun t =>
    { t with delays := t.delays.set p ((delay :: t.delays.getD p []).take 16),
             lastAccept := t.lastAccept.set p (some s.now), lastTheta := t.lastTheta.set p theta }
  let (th, s) := s.show32 theta
  let (dl, s) := s.show32 delay
  let s := (s.wr F.TIM_PATH_THETA_THETA p th).wr F.TIM_PATH_DELAY_DELAY p dl
  let s := (s.satAdd F.TIM_PATH_CNT_ACCEPTED p 1).setPathGood p true
  (s.conditionOverAt 0x3101 s.locCx p).selectPath

/-- A round is rejected or discarded: it is counted and changes nothing else (R313). -/
def State.roundRejected (s : State) (p : Nat) : State := s.satAdd F.TIM_PATH_CNT_REJECTED p 1

/-- The delay gate of R313: open for the first 4 rounds after the history was cleared, then within DLY_GATE of the mean
of at most 16 accepted rounds. -/
def State.delayGate (s : State) (p : Nat) (delay : Int) : Bool :=
  let h := s.tim.delays.getD p []
  let n := h.length
  decide (n < 4) ||
    decide ((n * delay - h.sum).natAbs * 1000 ≤ s.rd F.TIM_SERVO_DLY_GATE * 65536 * n)

/-- The round under way on path p is discarded, as one that overlaps a relock or a retrain is (R311). -/
def State.dropRound (s : State) (p : Nat) : State :=
  if (s.tim.rounds.getD p none).isSome then
    (s.onTim fun t => { t with rounds := t.rounds.set p none }).roundRejected p
  else s

/-- A downlink frame of a lane is discarded and counted as rejected (R293). -/
def State.rejectFrame (s : State) (lane : Nat) : State := (s.flag F.LNK_RX_EVT 1).satAdd F.LNK_LANE_RX_REJECT lane 1

/-- ORIGIN: its SYNC is stamped as t2 of a round, on lane 0 or lane 12 alone; from another lane it is counted as
rejected (R309, R311, R312). k and phi are the count and phase of the SYNC at the deserialiser. -/
def State.doOrigin (s : State) (lane round master k phi : Nat) : State :=
  let p := lane / 12
  if !s.laneUp lane || s.moduleId == 0 || !s.clk.running then s
  else if lane ≠ 0 ∧ lane ≠ 12 then s.rejectFrame lane
  else
    let s := (s.toCount k).dropRound p
    let t2 := s.stampUnits k (phi % 1024) - s.rd F.TIM_LAT_RX_UI p * s.uiUnits p
    s.onTim fun t =>
      { t with rounds := t.rounds.set p (some { round := round, t2Count := k, t2 := t2 }),
               master := t.master.set p master }

/-- Does the exchange of a path run on this lane (R309)? -/
def exchangeLane (lane : Nat) : Bool := lane == 0 || lane == 12

/-- Has a round's 10 ms passed (R311)? -/
def State.roundLate (s : State) (r : TimeRound) : Bool := decide (r.t2Count + s.samplesUs 10000 < s.clk.count)

/-- Word 0 of a TIME frame of the module (R310). -/
def State.timeWord (s : State) (kind round : Nat) : LWord :=
  word64 [(60, kind), (40, round % 65536), (32, s.timState)]

/-- PROBE_SEND: 20 to 100 us after t2 the module sends PROBE, whose SYNC is stamped as t3 at count k and phase phi (R311,
R312). -/
def State.doProbeSend (s : State) (p k phi : Nat) : State :=
  match s.tim.rounds.getD p none with
  | none => s
  | some r =>
    if r.t3.isSome then s
    else if !s.laneUp (12 * p) || s.moduleId == 0 || decide (r.t2Count + s.samplesUs 100 < s.clk.count) then s.dropRound p
    else
      let k := clampNat (r.t2Count + s.samplesUs 20) (r.t2Count + s.samplesUs 100) k
      let s := s.toCount k
      let t3 := s.stampUnits k (phi % 1024) + s.rd F.TIM_LAT_TX_UI p * s.uiUnits p
      (s.onTim fun t => { t with rounds := t.rounds.set p (some { r with t3 := some t3 }) }).pushTime p
        [s.timeWord 3 r.round]

/-- ROUND_COMPUTE: theta and delay of a valid round in 2^-16 ns (R313). -/
def roundValues (t1 t2 t3 t4 asymPs : Int) : Int × Int :=
  let fwd := t2 - t1
  let back := t4 - t3
  (rhe (fwd - back - 2 * 65536 * asymPs) 2000, rhe (fwd + back) 2000)

/-- The REPORT of a computed round (R310). -/
def State.sendReport (s : State) (p round : Nat) (theta delay t2 : Int) : State :=
  let (th, s) := s.show32 theta
  let (dl, s) := s.show32 delay
  let t2 := rhe t2 1000
  s.pushTime p
    [ s.timeWord 5 round, word64 [(32, th), (0, dl)], BitVec.ofInt 64 (t2 / 65536),
      word64 [(48, (t2 % 65536).toNat), (16, wrapBits 32 s.tim.rate)] ]

/-- A round that has its four stamps is computed, gated and applied, and reported (R311, R313). -/
def State.computeRound (s : State) (p : Nat) : State :=
  match s.tim.rounds.getD p none with
  | none => s
  | some r =>
    match r.t1, r.t3, r.t4 with
    | some t1, some t3, some t4 =>
      let v := roundValues t1 r.t2 t3 t4 (s.rdS F.TIM_ASYM_PS p)
      let s := s.onTim fun t => { t with rounds := t.rounds.set p none }
      let s := if s.delayGate p v.2 then
          let s := s.roundAccepted p v.1 v.2
          if !s.ppsMode && s.pathInUse == p then s.governRound (rhe r.t2 1000) v.1 else s
        else s.roundRejected p
      s.sendReport p r.round v.1 v.2 r.t2
    | _, _, _ => s

/-- FOLLOW: t1 of the round. One with another ROUND, or later than 10 ms after t2, discards the round under way; with none under
way it has no effect (R309 to R311). -/
def State.doFollow (s : State) (lane round ns frac : Nat) : State :=
  let p := lane / 12
  if !exchangeLane lane then s.rejectFrame lane
  else
    match s.tim.rounds.getD p none with
    | none => s
    | some r =>
      if r.round ≠ round ∨ s.roundLate r then s.dropRound p
      else
        (s.onTim fun t => { t with rounds := t.rounds.set p (some { r with t1 := some (nsUnits ns frac) }) }).computeRound p

/-- ANSWER: t4 of the round, after its PROBE; it may come before FOLLOW (R309 to R311). -/
def State.doAnswer (s : State) (lane round ns frac : Nat) : State :=
  let p := lane / 12
  if !exchangeLane lane then s.rejectFrame lane
  else
    match s.tim.rounds.getD p none with
    | none => s
    | some r =>
      if r.round ≠ round ∨ s.roundLate r ∨ r.t3.isNone then s.dropRound p
      else
        (s.onTim fun t => { t with rounds := t.rounds.set p (some { r with t4 := some (nsUnits ns frac) }) }).computeRound p

/-- PATH_LOSS: LOSS_ROUNDS * 62.5 ms of network time without an accepted round, and the path stops being good (R316). -/
def State.doPathLoss (s : State) (p : Nat) : State :=
  if !s.pathGood p then s
  else
    let due := (s.tim.lastAccept.getD p none).getD 0 + s.rd F.TIM_SERVO_LOSS_ROUNDS * 62500000 * 65536
    let s := s.toTime due
    let s := (s.setPathGood p false).flag F.TIM_EVT2 0
    let s := s.onTim fun t => { t with delays := t.delays.set p [] }
    let s := (if s.tim.cal.any fun c => c.1 == p then s.endCal else s).selectPath
    (s.report 0x3101 s.locCx p).checkHoldover

/-! ### Heartbeats (R307) -/

/-- HEARTBEAT: 500 ms of network time without a T48-bearing packet in class 1 or class 3, and a heartbeat enters that
queue. The other classes have none. -/
def State.doHeartbeat (s : State) (cls : Nat) : State :=
  if cls ≠ 1 ∧ cls ≠ 3 then s
  else
    let s := s.toTime ((if cls = 1 then s.tim.lastT48C1 else s.tim.lastT48C3) + 500000000 * 65536)
    s.push cls [word64 [(56, 0x0F), (52, 2), (0, s.locCx)], word64 [(16, s.nowT48)]]

/-! ### PPS (R319) and asymmetry calibration (R320) -/

/-- PPS_SEC. -/
def State.ppsSec (s : State) : Nat := s.rdPair F.TIM_PPS_SEC_LO_SEC F.TIM_PPS_SEC_HI_SEC 0

/-- An error against a whole second: t(stamp) - (second * 10^9 + PPS_DELAY / 1000) ns, in units of 2^-16 ns / 1000. -/
def State.secondError (s : State) (stamp : Int) (second : Nat) : Int :=
  stamp - (second * 1000000000 * 65536000 : Nat) - s.rdS F.TIM_PPS_DELAY_PS * 65536

/-- The whole second nearest a stamp, taking PPS_DELAY off (DEDUCED, log entry 11). -/
def State.nearestSecond (s : State) (stamp : Int) : Nat :=
  (rhe (stamp - s.rdS F.TIM_PPS_DELAY_PS * 65536) (1000000000 * 65536000)).toNat

/-- An edge counts towards a running asymmetry calibration, until CAL_N have been taken (R320, step 2). -/
def State.calEdge (s : State) (stamp : Int) : State :=
  match s.tim.cal with
  | none => s
  | some (p, n, sum) =>
    if s.rd F.TIM_PPS_CFG_CAL_N ≤ n then s
    else s.onTim fun t => { t with cal := some (p, n + 1, sum + s.secondError stamp (s.nearestSecond stamp)) }

/-- PPS is not good, a station-wide event; a calibration ends, and a LOCKED clock in PPS mode enters HOLDOVER (R318 to R320). -/
def State.losePps (s : State) : State :=
  if s.rdB F.TIM_STAT_PPS_GOOD then ((s.wr F.TIM_STAT_PPS_GOOD 0 0).endCal.report 0x3104 s.locModule 0).checkHoldover else s

/-- PPS_EDGE: an edge of PPS_IN at count k and phase phi, rising or falling, is stamped when TIM_PPS_CFG selects it; in PPS mode it
is a round (R319), and it counts towards a calibration (R320). PPS is good while an edge has arrived within 1 s +- 1 ms of the
previous one. -/
def State.doPpsEdge (s : State) (k phi : Nat) (rising : Bool) : State :=
  if !s.rdB F.TIM_PPS_CFG_EN || !s.clk.running || rising == s.rdB F.TIM_PPS_CFG_EDGE then s
  else
    let s := s.toCount k
    let stamp := s.stampUnits k (phi % 1024)
    let near := match s.tim.ppsLast with
      | none => false
      | some t => decide ((rhe stamp 1000 - t - 1000000000 * 65536).natAbs ≤ 1000000 * 65536)
    let s := s.onTim fun t => { t with ppsLast := some (rhe stamp 1000) }
    let s := if near then (s.wr F.TIM_STAT_PPS_GOOD 0 1).conditionOver 0x3104 s.locModule else s
    let s := s.calEdge stamp
    let s := if s.ppsMode then
        let theta := rhe (s.secondError stamp s.ppsSec) 1000
        let s := s.governRound (rhe stamp 1000) theta
        s.wrPair F.TIM_PPS_SEC_LO_SEC F.TIM_PPS_SEC_HI_SEC 0 ((s.ppsSec + 1) % 2 ^ 64)
      else s
    if near then s else s.losePps

/-- PPS_LOSS: the two edges after the last one have failed to come by 2 s + 1 ms after it, and PPS is not good (R319). -/
def State.doPpsLoss (s : State) : State :=
  match s.rdB F.TIM_STAT_PPS_GOOD, s.tim.ppsLast with
  | true, some t => ((s.toTime (t + 2001000000 * 65536)).onTim fun t => { t with ppsLast := none }).losePps
  | _, _ => s

/-- ACCEPT_JUMP: in REFUSED, the next accepted round makes one step; otherwise ignored (R317). -/
def State.doAcceptJump (s : State) : State :=
  if s.timState = timRefused then s.onTim fun t => { t with accept := true } else s

/-- ASYM_CAL: CAL_N edges are averaged against the path in use (R320, step 2). -/
def State.doAsymCal (s : State) : State :=
  ((s.wr F.TIM_ASYM_MEAS_BUSY 0 1).wr F.TIM_ASYM_MEAS_VALID 0 0).onTim fun t =>
    { t with cal := some (s.pathInUse, 0, 0) }

/-- ASYM_CAL_DONE: after CAL_N edges, TIM_ASYM_MEAS takes TIM_ASYM less the mean error in ps (R320, step 3). -/
def State.doAsymCalDone (s : State) : State :=
  match s.tim.cal with
  | none => s
  | some (p, n, sum) =>
    if n < s.rd F.TIM_PPS_CFG_CAL_N ∨ n = 0 then s
    else
      let ps := s.rdS F.TIM_ASYM_PS p - rhe sum (65536 * n)
      let s := if -32768 ≤ ps ∧ ps ≤ 32767 then s.wrS F.TIM_ASYM_MEAS_PS 0 ps
        else let (v, s) := s.freeBelow 65536; s.wr F.TIM_ASYM_MEAS_PS 0 v
      (((s.wr F.TIM_ASYM_MEAS_PATH 0 p).wr F.TIM_ASYM_MEAS_VALID 0 1).wr F.TIM_ASYM_MEAS_BUSY 0 0).onTim fun t =>
        { t with cal := none }

/-- ASYM_APPLY: a valid result is copied into TIM_ASYM of its path (R320, step 4). -/
def State.doAsymApply (s : State) : State :=
  if s.rdB F.TIM_ASYM_MEAS_VALID then s.wr F.TIM_ASYM_PS (s.rd F.TIM_ASYM_MEAS_PATH) (s.rd F.TIM_ASYM_MEAS_PS) else s

/-! ### Voting (R322) -/

/-- VOTE_CORRECTION: copy c of the time state disagrees. It is overwritten from the majority; disagreeing 16 times
within 1 s it is taken out; with one copy out, the two that remain disagreeing starts a new acquisition. -/
def State.doVoteCorrection (s : State) (c : Nat) : State :=
  if s.rdB F.TIM_STAT_VOTE_DEGRADED then
    if s.tim.out.getD c false then s
    else
      let s := s.report 0x3106 s.locCx 0
      (s.setTimState timFree).onTim fun t =>
        { t with points := [], lockRun := 0, stepped := false, afterStep := false, accept := false, acquired := false }
  else
    let s := (s.flag F.TIM_EVT2 1).satAdd F.TIM_VOTE_TOTAL_COUNT 0 1
    let hits := (s.clk.count :: s.tim.votes.getD c []).filter fun n => decide (s.clk.count < n + s.clk.fs)
    let s := s.onTim fun t => { t with votes := t.votes.set c (hits.take 16) }
    if hits.length ≥ 16 then
      ((s.wr F.TIM_STAT_VOTE_DEGRADED 0 1).onTim fun t => { t with out := t.out.set c true }).report 0x3105 s.locCx 0
    else s

end Sys2Proof.Machine
end

