-- ==== Sys2Proof/Machine/Book.lean ====
section
/-! DEFINITION. The prompt book (R400, R401, R404, R432): records, commits and their checks. -/

namespace Sys2Proof.Machine

/-- Kinds of commits (R400). -/
def commitPower : Nat := 1
def commitLockout : Nat := 2
def commitHost : Nat := 3
def commitPeriodic : Nat := 4

/-- Change the prompt book. -/
def State.onBook (s : State) (f : Book → Book) : State := { s with book := f s.book }

/-- The saved calibration slot in use (R113, R400). -/
def State.slotInUse (s : State) : Option Nat :=
  match s.newestSet with
  | none => none
  | some c => some (if s.adc.saved.head? = some c then 0 else 1)

/-- The record that a commit writes now (R400). It is not valid before its check. -/
def State.makeRecord (s : State) (kind : Nat) : Record :=
  { recno := (s.rd F.PWR_PB_STAT_RECNO + 1) % 2 ^ 24, kind := kind, t48 := s.nowT48, seconds := secondsOf s.now
    stage := s.stage, minVin := s.rd F.PWR_VIN_MIN_10MV
    timState := s.timState, offset := s.tim.offset, rate := s.tim.rate, tnom := s.tim.tnom
    asym := [s.regGet F.TIM_ASYM, s.regGet (F.TIM_ASYM + 4)]
    result := s.regGet F.ADC_REH_STAT, temp := s.regGet F.ADC_REH_TEMP, slot := s.slotInUse
    converged := allChans.map fun ch => s.rdB F.ADC_BG_STAT_CONVERGED ch
    locked := s.saf.latch, code := s.rd F.SAF_CAUSE_CODE, lockSeq := s.rd F.SAF_CAUSE_LOCK_SEQ
    incidents := s.fau.inc, counters := (List.range 528).map fun j => s.counterAt j }

/-- The next commit starts when none runs (R400): its record goes into the next erased area. -/
def State.startCommit (s : State) : State :=
  match s.book.running, s.book.waiting with
  | none, k :: rest =>
    let r := s.makeRecord k
    (s.wr F.PWR_PB_STAT_BUSY 0 1).onBook fun b =>
      { b with records := (r :: b.records).take 1024, running := some (k, false), waiting := rest }
  | _, _ => s

/-- A commit is requested: it follows one that runs, a POWER commit ahead of others that wait (R400).
DESIGN CHOICE: log entry 40. -/
def State.requestCommit (s : State) (kind : Nat) : State :=
  (s.onBook fun b =>
    { b with waiting := if kind = commitPower then kind :: b.waiting else b.waiting ++ [kind] }).startCommit

/-- PB_COMMIT: a HOST commit (R400). -/
def State.doPbCommit (s : State) : State := s.requestCommit commitHost

/-- PB_PERIODIC_COMMIT: PERIOD_S seconds since the last one, a PERIODIC commit starts (R400). -/
def State.doPbPeriodic (s : State) : State :=
  let p := s.rd F.PWR_PB_CFG_PERIOD_S
  if p = 0 then s
  else
    let s := s.toTick (s.book.periodTick + 1000 * p)
    (s.onBook fun b => { b with periodTick := s.clk.tick }).requestCommit commitPeriodic

/-- PB_COMMIT_DONE: the record is read back. A failed one is repeated once in the next area; a second failure sets
PB_FAIL_SEEN and opens incident 0x4303 (R396, R401). The next commit follows. -/
def State.doCommitDone (s : State) (ok : Bool) : State :=
  match s.book.running, s.book.records with
  | some (k, again), r :: rest =>
    if ok then
      let s := s.onBook fun b => { b with records := { r with valid := true } :: rest, running := none }
      let s := ((s.wr F.PWR_PB_STAT_LAST_KIND 0 k).wr F.PWR_PB_STAT_LAST_OK 0 1).wr F.PWR_PB_STAT_RECNO 0 r.recno
      (s.wr F.PWR_PB_STAT_BUSY 0 0).startCommit
    else if again then
      let s := (s.onBook fun b => { b with running := none }).wr F.PWR_PB_STAT_LAST_OK 0 0
      let s := (s.flag F.PWR_EVT 2).report 0x4303 s.locKeeper r.recno
      (s.wr F.PWR_PB_STAT_BUSY 0 0).startCommit
    else s.onBook fun b => { b with records := (r :: r :: rest).take 1024, running := some (k, true) }
  | _, _ => s

/-- The newest valid record (R401). -/
def Book.newest (b : Book) : Option Record := b.records.find? fun r => r.valid

end Sys2Proof.Machine
end

