-- ==== Sys2Proof/Machine/Sensors.lean ====
section
/-! DEFINITION. Slow sensors: pulses (R377, R378), conversions (R376, R379) and threshold switches (R381 to R385). -/

namespace Sys2Proof.Machine

/-- Change the slow sensors. -/
def State.onSns (s : State) (f : Sns → Sns) : State := { s with sns := f s.sns }

/-- Is SX[i] the odd input of a RATIO pair, which runs no pulses of its own (R376)? -/
def State.ratioPartner (s : State) (i : Nat) : Bool := i % 2 == 1 && s.rd F.SNS_IN_CFG_MODE (i - 1) == 3

/-- Does input i run pulses (R376)? -/
def State.pulsed (s : State) (i : Nat) : Bool := s.rd F.SNS_IN_CFG_MODE i != 0 && !s.ratioPartner i

/-- The first tick after t at which input i falls due: k mod P = i div 2 (R377). -/
def State.nextDue (s : State) (i t : Nat) : Nat :=
  let p := max 1 (s.rd F.SNS_IN_CFG_PERIOD_MS i)
  t + 1 + (i / 2 + p - (t + 1) % p) % p

/-- The inputs of a parity. -/
def parityInputs (parity : Nat) : List Nat := (List.range 8).map fun i => 2 * i + parity

/-- Inputs of a parity that fell due up to the present tick wait (R377). -/
def State.noteDue (s : State) (parity : Nat) : State :=
  let seen := s.sns.seen.getD parity 0
  let s := s.forEach (parityInputs parity) fun s i =>
    let k := s.nextDue i seen
    if (s.sns.waiting.getD i none).isNone && s.pulsed i && decide (k ≤ s.clk.tick) then
      s.onSns fun x => { x with waiting := x.waiting.set i (some k) }
    else s
  s.onSns fun x => { x with seen := x.seen.set parity s.clk.tick }

/-- The input of a parity that has waited longest, the lowest-numbered of several (R377). DEDUCED: log entry 56. -/
def State.longestWaiting (s : State) (parity : Nat) : Option Nat :=
  (parityInputs parity).foldl (fun best i =>
    match if s.pulsed i then s.sns.waiting.getD i none else none with
    | none => best
    | some k =>
      match best with
      | none => some i
      | some b => if k < (s.sns.waiting.getD b none).getD 0 then some i else some b) none

/-- SENSOR_PULSE: the slot of a parity on the present tick: the due input that has waited longest is excited (R377, R378
steps 1 to 4). A slot serves one pulse in a tick. -/
def State.doSensorPulse (s : State) (parity : Nat) : State :=
  let parity := parity % 2
  if !s.sns.on || !s.rdB F.SNS_CTL_EN || s.sns.last.getD parity none == some s.clk.tick then s
  else
    let s := s.noteDue parity
    match s.longestWaiting parity with
    | none => s
    | some i =>
      let p : Pulse := { input := i, mode := s.rd F.SNS_IN_CFG_MODE i, iexc := s.rd F.SNS_IEXC_CAL_NA i }
      s.onSns fun x =>
        { x with waiting := x.waiting.set i none, last := x.last.set parity (some s.clk.tick)
                 pulses := x.pulses.set parity (some p) }

/-- VALUE of a result code (R376): odd is the result of SX[i + 1] in RATIO mode. -/
def sensorValue (p : Pulse) (c odd : Nat) : Int :=
  if p.mode = 1 then rhe (c * 2500000000000) (65536 * max 1 p.iexc)
  else if p.mode = 2 then rhe (c * 2500000) 65536
  else if c = 0 then 0 else ((2 ^ 24 * odd / c : Nat) : Int)

/-- A conversion result: the two samples and whether the second lies at or above the open threshold (R375, R379). -/
structure SensorSample where
  s1 : Nat
  s2 : Nat
  above : Bool
  deriving DecidableEq, Repr

/-- Is a conversion OPEN (R379)? -/
def SensorSample.isOpen (x : SensorSample) (step : Nat) : Bool :=
  x.above || decide (step < (x.s2 - x.s1) + (x.s1 - x.s2))

/-- SENSOR_CONVERSION: at the end of the pulse of a slot, CODE, VALUE, OPEN and CONV_CNT are written (R376, R378 step 5,
R379); in RATIO mode own is the result of the even input and odd that of the other. -/
def State.doSensorConversion (s : State) (parity : Nat) (own odd : SensorSample) : State :=
  let parity := parity % 2
  match s.sns.pulses.getD parity none with
  | none => s
  | some p =>
    let i := p.input
    let step := s.rd F.SNS_CTL_STEP_LSB
    let s := s.onSns fun x => { x with pulses := x.pulses.set parity none, toEval := x.toEval ++ [(i, s.clk.tick)] }
    let s := s.wr F.SNS_IN_STAT_CONV_CNT i ((s.rd F.SNS_IN_STAT_CONV_CNT i + 1) % 256)
    if own.isOpen step || (p.mode == 3 && odd.isOpen step) then
      let s := ((s.wr F.SNS_IN_STAT_CODE i 0xFFFF).wr F.SNS_IN_VALUE_VALUE i 0x7FFFFFFF).wr F.SNS_IN_STAT_OPEN i 1
      (s.flag F.SNS_EVT 0).report (0x4100 + i) s.locKeeper 0x7FFFFFFF
    else
      let (v, s) := s.show32 (sensorValue p (own.s2 % 65536) (odd.s2 % 65536))
      let s := ((s.wr F.SNS_IN_STAT_CODE i own.s2).wr F.SNS_IN_VALUE_VALUE i v).wr F.SNS_IN_STAT_OPEN i 0
      s.conditionOver (0x4100 + i) s.locKeeper

/-- Is switch j on? -/
def State.switchOn (s : State) (j : Nat) : Bool := (s.rd F.SNS_SW_STAT_STATE).testBit j

/-- Switch j changes to a state: SW_SEEN, and the incident of an INCIDENT switch, which lasts while it is on (R381, R382). -/
def State.setSwitch (s : State) (j : Nat) (on : Bool) : State :=
  if s.switchOn j == on then s
  else
    let v := s.rd F.SNS_SW_STAT_STATE
    let s := (s.wr F.SNS_SW_STAT_STATE 0 (if on then v + 2 ^ j else v - 2 ^ j)).flag F.SNS_EVT 1
    if !on then s.conditionOver (0x4200 + j) s.locKeeper
    else if s.rd F.SNS_SW_CFG_ACTION j = 1 then
      s.report (0x4200 + j) s.locKeeper (s.rd F.SNS_IN_VALUE_VALUE (j / 2))
    else s

/-- The debounce count of switch j. -/
def State.setSwitchCount (s : State) (j n : Nat) : State := s.onSns fun x => { x with counts := x.counts.set j n }

/-- Does a switch in a state want to change at a value (R381)? -/
def switchWants (below on : Bool) (value onThr offThr : Int) : Bool :=
  match below, on with
  | false, false => decide (onThr ≤ value)
  | false, true => decide (value < offThr)
  | true, false => decide (value ≤ onThr)
  | true, true => decide (offThr < value)

/-- The rule of R381 for switch j of an input. -/
def State.evalSwitch (s : State) (j : Nat) : State :=
  if !s.rdB F.SNS_SW_CFG_EN j then s
  else if s.rdB F.SNS_IN_STAT_OPEN (j / 2) then
    let s := s.setSwitchCount j 0
    if s.rdB F.SNS_SW_CFG_OPEN_ON j then s.setSwitch j true else s
  else
    let on := s.switchOn j
    let want := switchWants (s.rdB F.SNS_SW_CFG_DIR j) on (s.rdS F.SNS_IN_VALUE_VALUE (j / 2))
      (s.rdS F.SNS_SW_ON_ON_THR j) (s.rdS F.SNS_SW_OFF_OFF_THR j)
    let n := if want then s.sns.counts.getD j 0 + 1 else 0
    if n = s.rd F.SNS_SW_CFG_DEBOUNCE j ∧ n ≠ 0 then (s.setSwitchCount j 0).setSwitch j !on else s.setSwitchCount j n

/-- SWITCH_EVALUATE: on the tick after a conversion of input i, its two switches are evaluated (R378 step 6, R381). -/
def State.doSwitchEvaluate (s : State) (i : Nat) : State :=
  match s.sns.toEval.find? fun p => p.1 == i with
  | none => s
  | some p =>
    let s := (s.toTick (p.2 + 1)).onSns fun x => { x with toEval := x.toEval.erase p }
    if s.rd F.SNS_IN_CFG_MODE i = 0 ∨ s.ratioPartner i then s
    else (s.evalSwitch (2 * i)).evalSwitch (2 * i + 1)

/-- The deepest stage that switches with ACTION SHED request (R382, R385). -/
def State.sensorStage (s : State) : Nat :=
  (((List.range 32).filter fun j => s.switchOn j && s.rd F.SNS_SW_CFG_ACTION j == 2).map fun j =>
    s.rd F.SNS_SW_CFG_PARAM j).foldl max 0

/-- Does a switch with ACTION SAFETY demand STO (param 1) or SS1 (param 0) (R382, R383)? -/
def State.sensorDemand (s : State) (param : Nat) : Bool :=
  (List.range 32).any fun j =>
    s.switchOn j && s.rd F.SNS_SW_CFG_ACTION j == 3 && s.rd F.SNS_SW_CFG_PARAM j == param

/-! ### Register writes (R376, R381, R385, R386) -/

/-- Nominal excitation in nA of an IEXC code (R375). -/
def nominalIexc (code : Nat) : Nat :=
  if code = 0 then 50000 else if code = 1 then 100000 else if code = 2 then 200000 else if code = 3 then 500000
  else 1000000

/-- SNS_IEXC_CAL follows IEXC: the calibrated value of a valid set, else the nominal current (R386). -/
def State.loadIexc (s : State) (i : Nat) : State :=
  let code := s.rd F.SNS_IN_CFG_IEXC i
  s.wr F.SNS_IEXC_CAL_NA i (if s.sns.calValid then Config.iexcCal i code % 2 ^ 32 else nominalIexc code)

/-- Both switches of an input go off (R376, R385). -/
def State.switchesOff (s : State) (i : Nat) : State :=
  ((s.setSwitch (2 * i) false).setSwitch (2 * i + 1) false).setSwitchCount (2 * i) 0 |>.setSwitchCount (2 * i + 1) 0

/-- A write of SNS_IN_CFG[i] (R376, R385, R386): RATIO on an odd input stores 0 with a configuration fault; OFF puts its
switches off and clears CODE and VALUE. -/
def State.writeSensorCfg (s : State) (i : Nat) (w : Word) : State :=
  let odd3 := i % 2 == 1 && getField w 0 2 == 3
  let s := if odd3 then s.configFault s.locCx (F.SNS_IN_CFG + 4 * i) else s
  let mode := if odd3 then 0 else getField w 0 2
  let iexc := min 4 (getField w 2 3)
  let old := s.rd F.SNS_IN_CFG_IEXC i
  let s := ((s.wr F.SNS_IN_CFG_MODE i mode).wr F.SNS_IN_CFG_IEXC i iexc).wr F.SNS_IN_CFG_PERIOD_MS i
    (clampNat 10 10000 (getField w 16 14))
  let s := if iexc = old then s else s.loadIexc i
  let s := if mode = 0 then
      ((s.switchesOff i).wr F.SNS_IN_STAT_CODE i 0).wr F.SNS_IN_VALUE_VALUE i 0
    else s
  if mode = 3 then s.switchesOff (i + 1) else s

/-- A write of SNS_CTL (R386): pulses run from a set EN on, and no due tick before it counts (R377). -/
def State.writeSensorCtl (s : State) (w : Word) : State :=
  let was := s.rdB F.SNS_CTL_EN
  let s := (s.wr F.SNS_CTL_EN 0 (getField w 0 1)).wr F.SNS_CTL_STEP_LSB 0 (max 1 (getField w 8 8))
  if was then s else s.onSns fun x => { x with seen := [s.clk.tick, s.clk.tick], waiting := List.replicate 16 none }

/-- Do a switch's direction and thresholds keep R381? -/
def switchOk (below : Bool) (onThr offThr : Int) : Bool :=
  if below then decide (onThr ≤ offThr) else decide (offThr ≤ onThr)

/-- PARAM as it is stored for an ACTION (R382). -/
def storeParam (action param : Nat) : Nat :=
  if action = 2 then clampNat 1 4 param else if action = 3 then min 1 param else param

/-- A write of SNS_SW_CFG[j] (R381, R382, R385, R386): a switch that is disabled goes off; a new DIR or DEBOUNCE restarts
the count. -/
def State.writeSwitchCfg (s : State) (j : Nat) (w : Word) : State :=
  let dir := getField w 1 1
  if !switchOk (dir == 1) (s.rdS F.SNS_SW_ON_ON_THR j) (s.rdS F.SNS_SW_OFF_OFF_THR j) then
    s.configFault s.locCx (F.SNS_SW_CFG + 16 * j)
  else
    let d := max 1 (getField w 4 4)
    let same := dir == s.rd F.SNS_SW_CFG_DIR j && d == s.rd F.SNS_SW_CFG_DEBOUNCE j
    let action := getField w 8 2
    let s := (((s.wr F.SNS_SW_CFG_EN j (getField w 0 1)).wr F.SNS_SW_CFG_DIR j dir).wr F.SNS_SW_CFG_OPEN_ON j
      (getField w 2 1)).wr F.SNS_SW_CFG_DEBOUNCE j d
    let s := (s.wr F.SNS_SW_CFG_ACTION j action).wr F.SNS_SW_CFG_PARAM j (storeParam action (getField w 10 3))
    let s := if same then s else s.setSwitchCount j 0
    if getField w 0 1 = 0 then (s.setSwitchCount j 0).setSwitch j false else s

/-- A write of SNS_SW_ON[j] or SNS_SW_OFF[j], refused where it breaks R381; it restarts the count (R385). -/
def State.writeSwitchThr (s : State) (j : Nat) (isOn : Bool) (w : Word) : State :=
  let v := w.toInt
  let onThr := if isOn then v else s.rdS F.SNS_SW_ON_ON_THR j
  let offThr := if isOn then s.rdS F.SNS_SW_OFF_OFF_THR j else v
  if !switchOk (s.rdB F.SNS_SW_CFG_DIR j) onThr offThr then
    s.configFault s.locCx ((if isOn then F.SNS_SW_ON else F.SNS_SW_OFF) + 16 * j)
  else
    (s.wr (if isOn then F.SNS_SW_ON_ON_THR else F.SNS_SW_OFF_OFF_THR) j w.toNat).setSwitchCount j 0

/-- The slow sensors start as the image sets them (R384, R411): every switch off with a count of 0. -/
def State.startSensors (s : State) (calValid : Bool) : State :=
  let s := (s.wr F.SNS_SW_STAT_STATE 0 0).onSns fun _ =>
    { on := true, calValid := calValid, seen := [s.clk.tick, s.clk.tick] }
  s.forEach (List.range 16) fun s i => s.loadIexc i

/-- Stage S5 stops the excitation; switch states hold (R384). -/
def State.stopSensors (s : State) : State :=
  s.onSns fun x => { x with on := false, pulses := [none, none], waiting := List.replicate 16 none }

end Sys2Proof.Machine
end

