-- ==== Sys2Proof/Machine/Monitor.lean ====
section
/-! DEFINITION. The safety monitor: its states and faults (R347 to R351, R365 to R367), safe inputs (R352 to R354), position
sources (R355 to R357), safety functions (R358), fire curtains (R359, R360) and the safety cycle (R349, R369). -/

namespace Sys2Proof.Machine

/-- What the balls of the safety monitor show in one safety cycle, as SAFETY_CYCLE carries it (R349). -/
structure SafetySeen where
  samples : List (BitVec 16) := []
  up : Nat := 0
  down : Nat := 0
  cut : Bool := false
  z : Option Int := none
  ssi : Nat := 0
  line : Nat := 3
  vaux : Nat := 2400
  balls : List (Nat × Nat) := []
  differ : Nat := 0
  cycleUs : Nat := 1000
  deriving DecidableEq, Repr, Inhabited

/-- Change the safety monitor. -/
def State.onSaf (s : State) (f : Saf → Saf) : State := { s with saf := f s.saf }

/-- MONITOR_EN of the active set, while the keeper runs the monitor (R348). -/
def State.monitorEn (s : State) : Bool := s.saf.on && s.rdB F.SAF_CFG_MONITOR_EN

/-- The state of the monitor (R351): 0 STO, 1 RUN, 2 SS1, 3 DEGRADED, 4 LOCKOUT, 7 DISABLED. -/
def State.safState (s : State) : Nat := s.rd F.SAF_STAT_STATE

/-- Are curtains closed in a state (R351)? -/
def closedIn (st : Nat) : Bool := st == 1 || st == 2 || st == 3

/-- The monitor enters a state, which closes the curtains in use or opens them all (R351, R359). -/
def State.setSaf (s : State) (st : Nat) : State :=
  (s.wr F.SAF_STAT_STATE 0 st).wr F.SAF_STAT_FC_CLOSED 0 (if closedIn st then s.rd F.SAF_FC_EN else 0)

/-! ### Faults, LOCKOUT, STO, SS1 and DEGRADED (R351, R365 to R367) -/

/-- A safety fault is reported as a keeper incident and is the latest one (R362, R365). -/
def State.safReport (s : State) (code : Nat) : State :=
  (s.report code s.locKeeper 0).onSaf fun x => { x with lastCode := code }

/-- Entry into LOCKOUT (R367): curtains open, LOCK_SEQ, CODE, the keeper latch and the prompt book. -/
def State.lockOut (s : State) (code : Nat) : State :=
  if s.safState = 4 then s
  else
    let s := (s.setSaf 4).wr F.SAF_CAUSE_LOCK_SEQ 0 ((s.rd F.SAF_CAUSE_LOCK_SEQ + 1) % 65536)
    let s := (s.wr F.SAF_CAUSE_CODE 0 code).satAdd F.SAF_CNT_LOCKOUTS 0 1
    let s := (s.wr F.SAF_STAT_DEG_LEFT_S 0 0).onSaf fun x =>
      { x with latch := true, ss1 := none, runReq := none, second := false, release := none, ack := none }
    s.requestCommit commitLockout

/-- A fault that leads to LOCKOUT (R365). -/
def State.safLock (s : State) (code : Nat) : State := (s.safReport code).lockOut code

/-- STO from a state with closed curtains (R351, R358). -/
def State.enterSto (s : State) : State :=
  if closedIn s.safState then
    ((s.setSaf 0).wr F.SAF_STAT_DEG_LEFT_S 0 0).onSaf fun x => { x with ss1 := none, second := false }
  else s

/-- SS1 from RUN or DEGRADED, with the speed of the entry (R358). -/
def State.enterSs1 (s : State) : State :=
  if s.safState = 1 ∨ s.safState = 3 then
    let v := s.rdS F.SAF_SPEED_MDEG_S
    ((s.setSaf 2).wr F.SAF_STAT_DEG_LEFT_S 0 0).onSaf fun x =>
      { x with ss1 := some (s.clk.tick, v), still := 0, second := false }
  else s

/-- The selection in force: limit 0 where an input or an SLP recovery holds it, else the commanded one (R358). -/
def State.slsSel (s : State) : Nat := if s.saf.slsHold || s.saf.slpRecover then 0 else s.saf.sel

/-- The limit that the SLS selection leads to: in DEGRADED, DEG_SLS at most (R358, R366). -/
def State.slsTarget (s : State) : Nat :=
  let l := s.rd F.SAF_SLS_LIM_MDEG_S s.slsSel
  if s.safState = 3 then min l (s.rd F.SAF_DEG_SLS_MDEG_S) else l

/-- The SLS limit at a tick, as a fraction: along the ramp of SS1 from the old limit to the new one over T (R358). -/
def State.slsLimit (s : State) (tick : Nat) : Nat × Nat :=
  let n := s.saf.target
  match s.saf.ramp with
  | none => (n, 1)
  | some (num, den, c0) =>
    let t := max 1 (s.rd F.SAF_SS1_T_MS)
    if c0 + t ≤ tick then (n, 1) else (n * den * t + (num - n * den) * (t - (tick - c0)), den * t)

/-- The limit follows the selection: a lower limit by a ramp, a higher one at once (R358, R366). -/
def State.followSls (s : State) : State :=
  let n := s.slsTarget
  let s := s.wr F.SAF_STAT_SLS_SEL 0 s.slsSel
  if n = s.saf.target then s
  else
    let l := s.slsLimit s.clk.tick
    let g := max 1 (Nat.gcd l.1 l.2)
    let ramp := if n * l.2 < l.1 then some (l.1 / g, l.2 / g, s.clk.tick) else none
    s.onSaf fun x => { x with ramp := ramp, target := n }

/-- DEGRADED with the element that was lost (R366). -/
def State.enterDegraded (s : State) (elem : Nat) : State :=
  let s := ((s.setSaf 3).satAdd F.SAF_CNT_DEGRADED 0 1).wr F.SAF_STAT_DEG_LEFT_S 0 (s.rd F.SAF_CFG_DEG_TIME_S)
  (s.onSaf fun x => { x with degEntry := s.clk.tick, lost := some elem }).followSls

/-- An element is lost (0 path A, 1 path B, 2 incremental, 3 SSI): DEGRADED from RUN, LOCKOUT with 0x5402 for a second one in
DEGRADED, and otherwise no change of state (R365, R366). DEDUCED: log entry 58. -/
def State.loseElement (s : State) (elem code : Nat) : State :=
  let s := (s.safReport code).onSaf fun x => { x with goodSince := x.goodSince.set elem none }
  if s.safState = 1 then s.enterDegraded elem
  else if s.safState = 3 ∧ s.saf.lost ≠ some elem then s.safLock 0x5402
  else s

/-- An element is good from now on. -/
def State.elementGood (s : State) (elem : Nat) : State :=
  s.onSaf fun x => if (x.goodSince.getD elem none).isNone then { x with goodSince := x.goodSince.set elem (some s.clk.tick) } else x

/-- Has the element that was lost been good for 1 s (R363, R366)? -/
def State.lostGood (s : State) : Bool :=
  match s.saf.lost with
  | none => true
  | some e =>
    match s.saf.goodSince.getD e none with
    | none => false
    | some t => decide (t + 1000 ≤ s.clk.tick)

/-! ### Voters (R349) -/

/-- The voter channels in service. -/
def State.votersIn (s : State) : Nat := ((List.range 3).filter fun k => (s.rd F.SAF_STAT_VOTERS).testBit k).length

/-- Voter channel k differs from the others in this cycle (R349): with three in service it is outvoted, and taken out when it
differs twice within 1 s; with two in service the disagreement is 0x5602. -/
def State.voterDiffers (s : State) (k : Nat) : State :=
  let v := s.rd F.SAF_STAT_VOTERS
  if !v.testBit k then s
  else if s.votersIn < 3 then (s.onSaf fun x => { x with twoOut := true }).safLock 0x5602
  else
    let old := (s.saf.differ.getD k []).filter fun t => decide (s.clk.tick ≤ t + 1000)
    let s := s.onSaf fun x => { x with differ := x.differ.set k ((s.clk.tick :: old).take 2) }
    if old = [] then s else (s.wr F.SAF_STAT_VOTERS 0 (v - 2 ^ k)).safReport 0x5601

/-! ### Safe inputs (R352 to R354) -/

/-- An input locks after a discrepancy or test-pulse fault (R354). -/
def State.lockInput (s : State) (i code : Nat) : State :=
  let s := ((s.safReport code).wr F.SAF_SI_STAT_LOCKED i 1).satAdd F.SAF_CNT_INPUT_FAULTS 0 1
  s.onSaf fun x =>
    { x with discrepant := x.discrepant.set i 0, zeroSeen := x.zeroSeen.set i false
             passedA := x.passedA.set i false, passedB := x.passedB.set i false }

/-- A locked input unlocks once both channels have read 0 together and both sources' test pulses have passed (R354). -/
def State.tryUnlock (s : State) (i : Nat) : State :=
  let x := s.saf
  let pulses := !s.rdB F.SAF_SI_CFG_TP_EN i || (x.passedA.getD i false && x.passedB.getD i false)
  if s.rdB F.SAF_SI_STAT_LOCKED i && x.zeroSeen.getD i false && pulses then
    ((s.wr F.SAF_SI_STAT_LOCKED i 0).conditionOver (0x5100 + i) s.locKeeper).conditionOver (0x5110 + i) s.locKeeper
  else s

/-- The discrepancy rule of input i for this cycle (R354): a disagreement of exactly t_d cycles may fault. -/
def State.checkDiscrepancy (s : State) (i : Nat) (a b : Bool) : State :=
  if a == b then s.onSaf fun x => { x with discrepant := x.discrepant.set i 0 }
  else if s.rdB F.SAF_SI_STAT_LOCKED i then s
  else
    let n := s.saf.discrepant.getD i 0 + 1
    let td := s.rd F.SAF_SI_CFG_TD_MS i
    let (bit, s) := if n = td then s.freeBelow 2 else (0, s)
    if td < n ∨ bit = 1 then s.lockInput i (0x5100 + i)
    else s.onSaf fun x => { x with discrepant := x.discrepant.set i n }

/-- Does the mask of a test pulse hold at a microsecond, counted over the slow ticks (R353)? TP_A pulses start at the multiples of
PERIOD_MS, those of TP_B half a period later, and the mask ends 50 us after the pulse. DESIGN CHOICE: log entry 90. -/
def State.masked (s : State) (us : Nat) : Bool :=
  let p := 1000 * max 1 (s.rd F.SAF_TP_PERIOD_MS)
  let w := s.rd F.SAF_TP_WIDTH_US + 50
  decide (us % p ≤ w) || decide ((us + p / 2) % p ≤ w)

/-- A channel of a safe input in its filter: its filtered value, the samples in a row that differ from it, and whether it read 0 in
this cycle. -/
structure Filtered where
  level : Bool
  run : Nat
  low : Bool
  deriving DecidableEq, Repr

/-- One sample in the filter: a level passes once it has lasted for more than ms milliseconds of samples (R352). DESIGN CHOICE:
log entry 90. -/
def Filtered.take (f : Filtered) (ms : Nat) (x : Bool) : Filtered :=
  let run := if x == f.level then 0 else f.run + 1
  let level := if 100 * ms < run then x else f.level
  { level := level, run := if 100 * ms < run then 0 else run, low := f.low || !level }

/-- The samples of input i that its filter takes in a cycle: with TP_EN those in the mask of a test pulse are left out (R352,
R353). -/
def State.inputSamples (s : State) (i : Nat) (xs : List (BitVec 16)) : List (BitVec 16) :=
  if s.rdB F.SAF_SI_CFG_TP_EN i then
    (xs.zipIdx.filter fun x => !s.masked (1000 * (s.clk.tick - 1) + 10 * (x.2 + 1))).map Prod.fst
  else xs

/-- A channel of input i (0 SI_A, 1 SI_B) at the end of a cycle with the samples xs (R352). -/
def State.filterChannel (s : State) (i c : Nat) (xs : List (BitVec 16)) : Filtered :=
  let old := s.rdB (if c = 0 then F.SAF_SI_STAT_A else F.SAF_SI_STAT_B) i
  (s.inputSamples i xs).foldl (fun f x => f.take (s.rd F.SAF_SI_CFG_FILTER_MS i) (x.getLsbD (8 * c + i)))
    { level := old, run := s.saf.runs.getD (8 * c + i) 0, low := !old }

/-- The channels of input i are sampled and filtered (R352). -/
def State.filterInput (s : State) (i : Nat) (xs : List (BitVec 16)) : State :=
  let a := s.filterChannel i 0 xs
  let b := s.filterChannel i 1 xs
  ((s.wrB F.SAF_SI_STAT_A i a.level).wrB F.SAF_SI_STAT_B i b.level).onSaf fun x =>
    { x with runs := (x.runs.set i a.run).set (8 + i) b.run, low := x.low.set i (a.low || b.low) }

/-- Input i in a safety cycle (R352, R354). -/
def State.takeInput (s : State) (i : Nat) (xs : List (BitVec 16)) : State :=
  let s := s.filterInput i xs
  let a := s.rdB F.SAF_SI_STAT_A i
  let b := s.rdB F.SAF_SI_STAT_B i
  let s := s.checkDiscrepancy i a b
  let s := if !a && !b then s.onSaf fun x => { x with zeroSeen := x.zeroSeen.set i true } else s
  s.tryUnlock i

/-- The effective value of input i: both channels read 1, and it is not locked (R352, R354). -/
def State.inputEff (s : State) (i : Nat) : Bool :=
  s.rdB F.SAF_SI_STAT_A i && s.rdB F.SAF_SI_STAT_B i && !s.rdB F.SAF_SI_STAT_LOCKED i

/-- Does an input of a function demand its safe state: is it not effective, or did a channel read 0 within the last cycle
(R352)? -/
def State.inputDemand (s : State) (func : Nat) : Bool :=
  (List.range 8).any fun i => s.rd F.SAF_SI_CFG_FUNC i == func && (!s.inputEff i || s.saf.low.getD i false)

/-- The start in microseconds of the next test pulse of a source: after its last one, and with its last sample not before the
present tick (R353). -/
def State.nextPulse (s : State) (source : Nat) : Nat :=
  let p := 1000 * max 1 (s.rd F.SAF_TP_PERIOD_MS)
  let off := if source = 0 then 0 else p / 2
  let least := max (s.saf.pulseUs.getD source 0 + 1) (1000 * s.clk.tick - s.rd F.SAF_TP_WIDTH_US)
  nextMultiple p (least + p - off) + off - p

/-- SI_TEST_PULSE: the last sample of the next test pulse of source 0 (TP_A) or 1 (TP_B), with the levels of the channels as maps:
the pulsed channel must read 0 and the other one must keep its reading (R353). -/
def State.doTestPulse (s : State) (source a b : Nat) : State :=
  if !s.monitorEn then s
  else
    let us := s.nextPulse source
    let s := (s.toTick ((us + s.rd F.SAF_TP_WIDTH_US) / 1000)).onSaf fun x => { x with pulseUs := x.pulseUs.set source us }
    s.forEach ((List.range 8).filter fun i => s.rdB F.SAF_SI_CFG_TP_EN i) fun s i =>
      let good := if source = 0 then !a.testBit i && b.testBit i == s.rdB F.SAF_SI_STAT_B i
        else !b.testBit i && a.testBit i == s.rdB F.SAF_SI_STAT_A i
      if !good then s.lockInput i (0x5110 + i)
      else
        (s.onSaf fun x =>
          if source = 0 then { x with passedA := x.passedA.set i true }
          else { x with passedB := x.passedB.set i true }).tryUnlock i

/-! ### Position sources (R355 to R357) -/

/-- A quotient whose rounding the manual leaves open: the floor, or one more where it is not exact (log entry 6). -/
def State.freeDiv (s : State) (n : Int) (d : Nat) : Int × State :=
  if n % (d : Int) = 0 then (n / d, s)
  else
    let (b, s) := s.freeBelow 2
    (n / d + b, s)

/-- A Gray code of up to 32 bits as binary. -/
def grayToBin (g : Nat) : Nat :=
  let a := g ^^^ (g / 2)
  let b := a ^^^ (a / 4)
  let c := b ^^^ (b / 16)
  let d := c ^^^ (c / 256)
  d ^^^ (d / 65536)

/-- The position value of an SSI frame, and its error bit (R356). -/
def State.ssiFrame (s : State) (raw : Nat) : Nat × Bool :=
  let e := s.rdB F.SAF_SSI_ERRBIT
  let data := (if e then raw / 2 else raw) % 2 ^ s.rd F.SAF_SSI_LEN
  (if s.rdB F.SAF_SSI_GRAY then grayToBin data else data, e && raw % 2 == 1)

/-- Do two SSI values differ by more than 1.25 times the highest SLS limit for 1 ms plus 0.1 degree (R356)? -/
def State.ssiJump (s : State) (v w : Nat) : Bool :=
  decide ((5 * s.rd F.SAF_SLS_LIM_MDEG_S 3 + 400000) * 2 ^ s.rd F.SAF_SSI_ST_BITS < ((v - w) + (w - v)) * 1440000000)

/-- Is the SSI source faulty in this cycle (R356, R475)? line bit 0: DATA high before the first clock; bit 1: low after the last;
bit 2: the pair is open. -/
def State.ssiFault (s : State) (raw line : Nat) : Bool :=
  let f := s.ssiFrame raw
  !line.testBit 0 || !line.testBit 1 || line.testBit 2 || f.2 || (s.saf.ssiLast.any fun v => s.ssiJump v f.1)

/-- Does a Z pulse lie more than ZTOL counts from the one learnt, modulo CPR (R355)? -/
def State.zFault (s : State) (z : Option Int) : Bool :=
  match s.saf.zRef, z with
  | some r, some c =>
    let cpr : Int := (max 1 (s.rd F.SAF_INC_CPR) : Nat)
    let d := (c - r) % cpr
    decide ((s.rd F.SAF_INC_ZTOL : Int) < min d (cpr - d))
  | _, _ => false

/-- p_inc of a count: from the alignment on, so that p_inc equalled p_ssi there (R357). -/
def State.pInc (s : State) (count : Int) : Int × State :=
  let r := s.saf.incRef.getD (0, 0)
  let (d, s) := s.freeDiv ((count - r.1) * 360000) (max 1 (s.rd F.SAF_INC_CPR))
  (r.2 + d, s)

/-- A source is good or faulty in this cycle (0 incremental, 1 SSI). -/
def State.takeSource (s : State) (k : Nat) (bad : Bool) : State :=
  let s := s.wrB (if k = 0 then F.SAF_STAT_INC_OK else F.SAF_STAT_SSI_OK) 0 !bad
  if bad then s
  else
    (s.onSaf fun x => { x with faulty := x.faulty.set k false }).elementGood (2 + k)
      |>.conditionOver (if k = 0 then 0x5202 else 0x5201) s.locKeeper

/-- A source that was good shows a fault (R365, R366, R371): the second of two in one cycle acts in the next one. -/
def State.sourceLost (s : State) (k : Nat) (wait : Bool) : State :=
  let code := if k = 0 then 0x5202 else 0x5201
  let s := s.onSaf fun x => { x with faulty := x.faulty.set k true }
  if wait then
    (s.safReport code).onSaf fun x => { x with goodSince := x.goodSince.set (2 + k) none, second := true }
  else s.loseElement (2 + k) code

/-- The count of a Z pulse in this cycle. -/
def State.zCount (s : State) (x : SafetySeen) : Option Int := x.z.map fun d => s.saf.encoder + d

/-- Is the incremental source faulty in this cycle (R355): a line break or an illegal transition, edges above 5 MHz, or a Z pulse
off its place? -/
def State.incFault (s : State) (x : SafetySeen) : Bool :=
  x.cut || decide (5000 < x.up + x.down) || s.zFault (s.zCount x)

/-- The position sources in this cycle (R355 to R357, R365): the count, faults, alignment, comparison, position and speed. -/
def State.takeSources (s : State) (seen : SafetySeen) : State :=
  let raw := seen.ssi
  let line := seen.line
  let incBad := s.incFault seen
  let z := s.zCount seen
  let count := s.saf.encoder + seen.up - seen.down
  let ssiBad := s.ssiFault raw line
  let v := (s.ssiFrame raw).1
  let newSsi := ssiBad && !s.saf.faulty.getD 1 false
  let newInc := incBad && !s.saf.faulty.getD 0 false
  let s := (s.takeSource 0 incBad).takeSource 1 ssiBad
  let (pSsi, s) := s.freeDiv ((v : Int) * 360000) (2 ^ s.rd F.SAF_SSI_ST_BITS)
  let s := s.onSaf fun x =>
    { x with encoder := count, ssiLast := some v
             zRef := if x.zRef.isNone && !incBad then z else x.zRef
             incRef := if x.incRef.isNone && !incBad && !ssiBad then some (count, pSsi) else x.incRef }
  let (pInc, s) := s.pInc count
  let far := !incBad && !ssiBad && decide (s.rd F.SAF_POS_TOL_MDEG < (pInc - pSsi).natAbs)
  let s := s.onSaf fun x => { x with apart := if far then x.apart + 1 else 0 }
  let p := if incBad then pSsi else pInc
  let old := s.saf.positions
  let s := s.onSaf fun x => { x with positions := (p :: old).take 4 }
  let (pv, s) := s.show32 p
  let (vv, s) := s.show32 ((p - old.getD 3 (old.getLastD p)) * 250)
  let s := (s.wr F.SAF_POS_MDEG 0 pv).wr F.SAF_SPEED_MDEG_S 0 vv
  let was := s.safState
  let s := if newSsi then s.sourceLost 1 false else s
  let s := if newInc then s.sourceLost 0 (newSsi && was == 1) else s
  if s.saf.apart = 3 then s.safLock 0x5203 else s

/-! ### Safety functions (R358) -/

/-- Does SLS see a violation in this cycle (R358)? -/
def State.slsViolated (s : State) : Bool :=
  let l := s.slsLimit s.clk.tick
  decide (l.1 < (s.rdS F.SAF_SPEED_MDEG_S).natAbs * l.2)

/-- SLS in this cycle: two violations in a row lead to SS1 or STO (R358). -/
def State.checkSls (s : State) : State :=
  let s := s.followSls
  let n := if s.slsViolated then s.saf.slsRun + 1 else 0
  let s := s.onSaf fun x => { x with slsRun := n }
  if n < 2 then s else if s.rdB F.SAF_CFG_SLS_REACT then s.enterSto else s.enterSs1

/-- Does p lie inside the SLP window? -/
def State.slpInside (s : State) (p : Int) : Bool :=
  decide (s.rdS F.SAF_SLP_MIN_MDEG ≤ p) && decide (p ≤ s.rdS F.SAF_SLP_MAX_MDEG)

/-- Do position and predicted stop keep the SLP window (R358)? -/
def State.slpKept (s : State) (p v : Int) : Bool :=
  let d : Int := 2 * (s.rd F.SAF_SLP_DECEL_MDEG_S2 : Nat)
  let q := p * d + v * (v.natAbs : Nat)
  s.slpInside p && decide (s.rdS F.SAF_SLP_MIN_MDEG * d ≤ q) && decide (q ≤ s.rdS F.SAF_SLP_MAX_MDEG * d)

/-- SLP in this cycle (R358): during a recovery only motion toward the window is permitted. -/
def State.checkSlp (s : State) : State :=
  if !s.rdB F.SAF_SLP_DECEL_SLP_EN then s
  else
    let p := s.rdS F.SAF_POS_MDEG
    let v := s.rdS F.SAF_SPEED_MDEG_S
    let back := s.saf.slpRecover && !s.slpInside p
    let s := s.onSaf fun x => { x with slpRecover := back }
    let kept := if back then (if p < s.rdS F.SAF_SLP_MIN_MDEG then decide (0 ≤ v) else decide (v ≤ 0)) else s.slpKept p v
    if kept then s else (s.onSaf fun x => { x with slpStop := true }).enterSs1

/-- SDI in this cycle, measured from the furthest position reached in the permitted direction (R358).
DEDUCED: log entry 60. -/
def State.checkSdi (s : State) : State :=
  let p := s.rdS F.SAF_POS_MDEG
  let tol : Int := (s.rd F.SAF_SDI_TOL_MDEG : Nat)
  let r := s.saf.sdiRef
  if s.saf.sdi = 1 then
    let s := s.onSaf fun x => { x with sdiRef := max r p }
    if tol < r - p then s.enterSto else s
  else if s.saf.sdi = 2 then
    let s := s.onSaf fun x => { x with sdiRef := min r p }
    if tol < p - r then s.enterSto else s
  else s

/-- SS1 in this cycle (R358): its envelope, and STO at t = T or after 4 cycles at standstill. -/
def State.checkSs1 (s : State) : State :=
  match s.saf.ss1 with
  | none => s
  | some (c0, v0) =>
    let t := s.clk.tick - c0
    let total := s.rd F.SAF_SS1_T_MS
    let v := (s.rdS F.SAF_SPEED_MDEG_S).natAbs
    let n := if v ≤ s.rd F.SAF_STANDSTILL_MDEG_S then s.saf.still + 1 else 0
    let s := s.onSaf fun x => { x with still := n }
    if v0.natAbs * (total - t) + s.rd F.SAF_SS1_TOL * total < v * total then s.enterSto
    else if total ≤ t ∨ 4 ≤ n then s.enterSto
    else s

/-- DEGRADED_EXPIRY: DEG_TIME_S after the entry, fault 0x5401 and LOCKOUT (R366). -/
def State.doDegradedExpiry (s : State) : State :=
  if s.monitorEn && s.safState == 3 then
    (s.toTick (s.saf.degEntry + 1000 * s.rd F.SAF_CFG_DEG_TIME_S)).safLock 0x5401
  else s

/-- The demands and the functions of this cycle while the curtains are closed (R352, R358, R366, R383). -/
def State.checkFunctions (s : State) : State :=
  let s := if s.inputDemand 3 then s.onSaf fun x => { x with slsHold := true } else s
  let s := if s.inputDemand 1 || s.sensorDemand 1 then s.enterSto else s
  let s := if s.inputDemand 2 || s.sensorDemand 0 then s.enterSs1 else s
  let s := s.when (closedIn s.safState) State.checkSdi
  let s := s.when (closedIn s.safState) State.checkSlp
  let s := s.when (closedIn s.safState) State.checkSls
  let s := s.when (s.safState == 2) State.checkSs1
  if s.safState = 3 then
    let expiry := s.saf.degEntry + 1000 * s.rd F.SAF_CFG_DEG_TIME_S
    if expiry ≤ s.clk.tick then s.safLock 0x5401 else s.wr F.SAF_STAT_DEG_LEFT_S 0 ((expiry - s.clk.tick) / 1000)
  else s

/-! ### RUN and RESUME (R363) -/

/-- May RUN be carried out (R363)? -/
def State.mayRun (s : State) : Bool :=
  s.safState == 0 && s.rdB F.SAF_STAT_VAUX_OK && !s.inputDemand 1 && !s.inputDemand 2 && !s.inputDemand 3
    && !s.sensorDemand 0 && !s.sensorDemand 1 && s.rdB F.SAF_STAT_INC_OK && s.rdB F.SAF_STAT_SSI_OK
    && s.rdB F.SAF_STAT_PATH_A_OK && s.rdB F.SAF_STAT_PATH_B_OK && (!s.saf.slpStop || s.saf.recoverReq) && s.lostGood

/-- RUN is carried out: the curtains close, and the limits hold from here on (R351, R358, R363). -/
def State.enterRun (s : State) : State :=
  let rec_ := s.saf.slpStop
  let s := (s.setSaf 1).onSaf fun x =>
    { x with slpStop := false, slpRecover := rec_, slsHold := false, lost := none, slsRun := 0, ramp := none
             testTick := s.clk.tick, sdiRef := s.rdS F.SAF_POS_MDEG }
  let s := s.onSaf fun x => { x with target := s.slsTarget }
  s.followSls

/-- RUN (3) or RESUME (4), agreed on both paths, acts at the end of the cycle (R363, R369, R371). -/
def State.takeRequest (s : State) : State :=
  let r := s.saf.runReq
  let run := s.mayRun
  let s := s.onSaf fun x => { x with runReq := none }
  if r = some 3 ∧ run then s.enterRun
  else if r = some 4 ∧ s.safState = 3 ∧ s.lostGood then
    ((s.setSaf 1).wr F.SAF_STAT_DEG_LEFT_S 0 0).onSaf (fun x => { x with lost := none }) |>.followSls
  else s

/-! ### Fire curtains (R359, R360) -/

/-- Curtain n fails a check (R359). -/
def State.curtainFault (s : State) (n : Nat) : State := s.safLock (0x5500 + n)

/-- Does ball FC_H read below 2 V, in 10 mV? -/
def highOff (h : Nat) : Bool := decide (h < 200)

/-- Does ball FC_L read above VAUX24 less 2 V, in 10 mV? -/
def lowOff (l vaux : Nat) : Bool := decide (vaux < l + 200)

/-- The curtains in use whose two balls do not both show their off level, as a map (R359). -/
def State.notOff (s : State) (balls : List (Nat × Nat)) : Nat :=
  ((List.range 2).map fun n =>
    let b := balls.getD n (0, s.saf.vaux)
    if highOff b.1 && lowOff b.2 s.saf.vaux then 0 else 2 ^ n).sum &&& s.rd F.SAF_FC_EN

/-- The readback of the open curtains in this cycle (R359). -/
def State.takeReadback (s : State) (balls : List (Nat × Nat)) : State :=
  let bad := if s.rd F.SAF_STAT_FC_CLOSED = 0 then s.notOff balls else 0
  let fresh := (List.range 2).filter fun n => bad.testBit n && !s.saf.fcBad.testBit n
  (s.onSaf fun x => { x with fcBad := bad }).forEach fresh State.curtainFault

/-- VAUX24 in this cycle, in units of 10 mV: out of 19.2 to 30.0 V for 2 cycles opens the curtains (R360). -/
def State.takeVaux (s : State) (vaux : Nat) : State :=
  let s := s.onSaf fun x => { x with vaux := vaux }
  if 1920 ≤ vaux ∧ vaux ≤ 3000 then
    (s.wr F.SAF_STAT_VAUX_OK 0 1).onSaf fun x => { x with vauxOut := 0 }
  else
    let n := s.saf.vauxOut + 1
    let s := s.onSaf fun x => { x with vauxOut := n }
    if n < 2 then s else (s.wr F.SAF_STAT_VAUX_OK 0 0).enterSto

/-- RESET_STUCK goes once SAFE_RESET has been high for 1 s (R368). -/
def State.freeReset (s : State) : State :=
  match s.saf.highSince with
  | some h => if h + 1000 ≤ s.clk.tick then s.wr F.SAF_STAT_RESET_STUCK 0 0 else s
  | none => s

/-- SAFETY_CYCLE: the safety cycle of a slow tick, the next one where this tick has had its cycle, with what the monitor's balls
show (R347, R349). DEDUCED: log entry 60. -/
def State.doSafetyCycle (s : State) (x : SafetySeen) : State :=
  if !s.saf.on then s
  else
    let s := s.toTick (s.saf.cycle + 1)
    let s := s.onSaf fun y => { y with cycle := s.clk.tick }
    if !s.monitorEn then s.forEach (List.range 8) fun s i => s.filterInput i x.samples
    else
      let s := if x.differ = 0 then s else s.voterDiffers (x.differ - 1)
      let s := if x.cycleUs < 950 ∨ 1050 < x.cycleUs then s.safLock 0x5603 else s
      let s := if s.saf.second && s.safState == 3 then s.safLock 0x5402 else s
      let s := s.forEach (List.range 8) fun s i => s.takeInput i x.samples
      let s := ((s.takeSources x).takeVaux x.vaux).takeReadback x.balls
      let s := s.when (closedIn s.safState) State.checkFunctions
      (s.takeRequest).freeReset

/-- CURTAIN_TEST: TEST_PERIOD_S after the last one, each switch of the closed curtains is pulsed off in turn, and its ball must
reach its off level, that of an open curtain, within the pulse (R359). DEDUCED: log entry 91. -/
def State.doCurtainTest (s : State) (balls : List (Nat × Nat)) : State :=
  if s.monitorEn && closedIn s.safState then
    let s := s.toTick (s.saf.testTick + 1000 * s.rd F.SAF_FC_TEST_PERIOD_S)
    let s := s.onSaf fun x => { x with testTick := s.clk.tick }
    let bad := s.notOff balls
    (s.onSaf fun x => { x with fcBad := x.fcBad ||| bad }).forEach ((List.range 2).filter fun n => bad.testBit n)
      State.curtainFault
  else s

/-- CURTAIN_OVERLOAD: the load current of curtain n passes its trip level: both switches turn off, and fault 0x5500 + n
follows (R359). -/
def State.doCurtainOverload (s : State) (n : Nat) : State :=
  if s.monitorEn && (s.rd F.SAF_STAT_FC_CLOSED).testBit (n % 2) then s.curtainFault (n % 2) else s

/-! ### SAFE_RESET (R368) -/

/-- SAFE_RESET_STUCK: a press lasts past 2000 ms (R368). -/
def State.doSafeResetStuck (s : State) : State :=
  if s.monitorEn && (!s.rdB F.SAF_STAT_RESET_STUCK || s.saf.highSince.isSome) then
    ((s.wr F.SAF_STAT_RESET_STUCK 0 1).satAdd F.SAF_CNT_RESET_IGNORED 0 1).onSaf fun x =>
      { x with release := none, highSince := none }
  else s

/-- Does a press of a length in ms count (R368)? Exactly 100 or 2000 ms may. -/
def State.pressCounts (s : State) (ms : Nat) : Bool × State :=
  if ms = 100 ∨ ms = 2000 then
    let (b, s) := s.freeBelow 2
    (b == 1, s)
  else (decide (100 < ms) && decide (ms < 2000), s)

/-- SAFE_RESET_RELEASE: the pin goes high after a press of ms milliseconds. A counting press opens the window of 5 s for the
ACK; after a stuck press the pin must have been high for 1 s before the press (R368). -/
def State.doSafeResetRelease (s : State) (ms : Nat) : State :=
  if !s.monitorEn then s
  else if s.rdB F.SAF_STAT_RESET_STUCK && s.saf.highSince.isNone then
    s.onSaf fun x => { x with highSince := some s.clk.tick }
  else if s.saf.highSince.any fun h => decide (s.clk.tick < h + 1000 + ms) then
    s.onSaf fun x => { x with highSince := some s.clk.tick }
  else if 2000 < ms then (s.doSafeResetStuck).onSaf fun x => { x with highSince := some s.clk.tick }
  else
    let (ok, s) := s.pressCounts ms
    (s.wr F.SAF_STAT_RESET_STUCK 0 0).onSaf fun x =>
      { x with highSince := none, release := if ok then some s.clk.tick else x.release, ack := none }

/-- Power goes: the curtains open with the commit, which is no fault (R350, R367, R371). -/
def State.safPowerOff (s : State) : State := (s.enterSto).onSaf fun x => { x with on := false, runReq := none }

end Sys2Proof.Machine
end

