-- ==== Sys2Proof/Machine/Plane.lean ====
section
/-! DEFINITION. The data plane as a whole: channels that begin and end (R51, R52, R60), raw blocks (R83, R170, R482),
faults of units, regions and dies (R55, R59 to R63), the locks and restores of regions (R115, R394), the pace loop (R41 to
R44, R46, R48) and the rate switch (R45). -/

namespace Sys2Proof.Machine

/-! ### Channels begin and end -/

/-- The smallest width of the notches in use on a channel, in 100 Hz (R137). -/
def State.smallestBw (s : State) (ch : Nat) : Option Nat :=
  (((List.range 8).filter fun i => s.rdB F.FLT_NOTCH_EN (8 * ch + i) && !(s.chan ch).bypassed.contains i).map fun i =>
    s.rd F.FLT_NOTCH_BW_BW (8 * ch + i)).min?

/-- SETTLE after a rate switch or a region's restore: 16 samples on raw blocks, and the longest notch settling on stream
blocks (R137). -/
def State.settleFrom (s : State) (ch n : Nat) : State :=
  let l := match s.smallestBw ch with
    | some bw => max 16 (s.notchSettle bw)
    | none => 16
  let s := s.mark ch { kind := .settle, a := n, b := n + 15, stream := false }
  s.mark ch { kind := .settle, a := n, b := n + l - 1, raw := false, f := s.firHalf ch }

/-- A channel that begins while its region is connected to the sources carries REHEARSAL up to N_r (R110). -/
def State.joinRehearsal (s : State) (ch n : Nat) : State :=
  let x := s.rehOf (regionOf ch)
  if x.connected then s.mark ch { kind := .rehearsal, a := n, b := x.ns + rehLength - 1, f := s.firHalf ch } else s

/-- A producing channel begins to take samples at count n: the changes held for it take effect there (R81, R128, R137). -/
def State.beginChan (s : State) (settle : Bool) (ch n : Nat) : State :=
  if (s.chan ch).since.isSome || !s.producing ch then s
  else
    let s := if s.rdB F.AFE_RANGE_PENDING ch && !s.rehearsing (regionOf ch) then s.applyRange ch n else s
    let s := s.applySkew ch n (s.rdB F.FLT_SKEW_PENDING ch) true
    let s := s.forEach (s.chan ch).notchAt fun s p => s.applyNotch ch n p
    let s := s.forEach (s.chan ch).chainAt fun s p => s.applyChain ch n p
    let s := if settle then s.settleFrom ch n else s
    (s.startChannel ch n (s.freshNotches ch)).joinRehearsal ch n

/-- A channel takes no sample from count n on; its waiting changes are held (R60, R81, R137). -/
def State.endChan (s : State) (ch n : Nat) : State :=
  (s.stopChannel ch n).onChan ch fun c =>
    { c with rangeAt := none, skewAt := none, phaseAt := none
             notchAt := c.notchAt.map fun p => (0, p.2)
             chainAt := c.chainAt.map fun p => (0, p.2) }

/-- Every channel that may take samples begins at count n. -/
def State.beginAll (s : State) (settle : Bool) (n : Nat) : State :=
  s.forEach allChans fun s ch => s.beginChan settle ch n

/-- Ingest stops on every channel at count n: Rehearsal and injected windows end (R111, R122, R129). -/
def State.endAll (s : State) (n : Nat) : State :=
  let s := s.forEach (List.range 4) fun s r => s.stopRehearsal r 4 n
  let s := s.forEach (List.range 16) fun s g => s.dropInjects g injAborted injAborted n
  s.forEach allChans fun s ch => s.endChan ch n

/-- Tagged blocks in flight get their records with DISCARDED set (R449). -/
def State.discardAllTags (s : State) : State :=
  { s with pmc := { s.pmc with tags := s.pmc.tags.map fun t => { t with discarded := true } } }

/-! ### Unit enables (R52, R53) -/

/-- UNIT_ENABLE_WRITE: a write of AFE_UNIT_EN[half]. A write that enables units is judged under R38; an accepted change
waits for each channel's next packet boundary, which DECIM sets. DEDUCED: log entry 42. -/
def State.doUnitEnableWrite (s : State) (half : Nat) (w : Word) : State :=
  let half := half % 2
  let old := s.unitMap
  let new := if half = 0 then old / 2 ^ 32 * 2 ^ 32 + w.toNat else w.toNat * 2 ^ 32 + old % 2 ^ 32
  let adds := allChans.any fun ch => new.testBit ch && !old.testBit ch
  s.judge (if adds then AdmitCfg.refusedBy { s.admitCfg with units := new } s.clk.fs else none) State.admitFault fun s =>
    let s := s.wr F.AFE_UNIT_EN_EN half w.toNat
    let changed := allChans.filter fun ch => new.testBit ch != s.unitOn ch
    let kept := s.plane.unitPend.filter fun p => changed.contains p.1
    let fresh := changed.filter fun ch => !(kept.any fun p => p.1 == ch)
    let more := fresh.map fun ch => (ch, new.testBit ch, nextMultiple (1024 * s.decimOf ch) (s.clk.count + 1))
    s.onPlane fun p => { p with unitPend := kept ++ more }

/-- The units enabled in effect take a new map at count n: the ring is divided anew (R53), and the combiners are checked
(R56). A ring that does not run takes its division without a mark. -/
def State.takeUnits (s : State) (map n : Nat) : State :=
  let s := s.onPlane fun p => { p with unitOn := map }
  let s := if s.trg.running then s.divideRing map n
    else
      let s := s.onTrg fun t => { t with map := map }
      (s.wr F.TRG_RING_DEPTH_BLOCKS 0 s.ringB).wr F.TRG_RING_DEPTH_N_ENABLED 0 s.ringN
  s.forEach (List.range 16) fun s g => s.checkCombiner g

/-- UNIT_ENABLE_TAKE_EFFECT: the earliest packet boundary of the waiting changes comes; every change due at it takes effect
(R51 to R53). -/
def State.doUnitEnableEffect (s : State) : State :=
  match (s.plane.unitPend.map fun p => p.2.2).min? with
  | none => s
  | some n =>
    if !s.clk.running then s
    else
      let now := s.plane.unitPend.filter fun p => p.2.2 == n
      let s := (s.toCount n).onPlane fun p => { p with unitPend := p.unitPend.filter fun q => q.2.2 != n }
      let map := bitMap 64 fun ch =>
        match now.find? fun p => p.1 == ch with
        | some p => p.2.1
        | none => s.unitOn ch
      let s := s.takeUnits map n
      let s := s.forEach now fun s p =>
        if p.2.1 then (s.autoReset p.1).beginChan false p.1 n else s.endChan p.1 n
      s.wchSync

/-! ### Raw blocks (R83, R170, R482) -/

/-- UNIT_FAILURE: from now on every block of the unit carries POISON (R55, R482). -/
def State.doUnitFailure (s : State) (ch : Nat) : State :=
  if (s.chan ch).failed then s
  else
    (s.onChan ch fun c => { c with failed := true }).mark ch
      { kind := .poison, a := s.clk.count / 64 * 64, b := 2 ^ 70, f := s.firHalf ch }

/-- ELASTIC_BUFFER_OVERFLOW: the buffer of channel ch drops the block at n; it and its successor are poisoned, and the loss
is reported (R27, R482). DEDUCED (log entry 14): the pace fault that R27 names is this report; the sequence of R43 follows
the margins. -/
def State.doOverflow (s : State) (ch n : Nat) : State :=
  let n := n / 64 * 64
  if (s.chan ch).drops.contains n || (s.chan ch).since.isNone then s
  else
    let s := (s.onChan ch fun c => { c with drops := n :: c.drops }).mark ch
      { kind := .poison, a := n, b := n + 127, f := s.firHalf ch }
    (s.report 0x2201 (s.locUnit ch) 1).conditionOver 0x2201 (s.locUnit ch)

/-- Is a corrected sample a clip (R83)? -/
def isClip (x : Int) : Bool := x == -2048 || x == 2047

/-- The samples of a corrected block after skew correction: ys holds the corrected samples from 24 counts before the block at
n on, and the skew is the one in force at n (R126, R127). -/
def State.skewBlock (s : State) (ch n : Nat) (ys : List Int) : List Int :=
  let skew := (histAt (s.chan ch).skews n).getD (s.rdS F.FLT_SKEW_EFF_EFF ch)
  let at_ := fun (m : Int) => if m < -24 then 0 else ys.getD (m + 24).toNat 0
  (List.range 64).map fun (i : Nat) => delayed at_ skew i

/-- Clips of a block count, set CLIP_SEEN and mark the block (R83). -/
def State.clipBlock (s : State) (ch n hits : Nat) : State :=
  if hits = 0 then s
  else ((s.flag (F.AFE_CLIP + 4 * ch) 0).count ch (s.locUnit ch) hits).onChan ch fun c =>
    { c with clipBlocks := n :: c.clipBlocks }

/-- RAW_BLOCK_WRITE: the raw block of channel ch at n has been taken. conv holds the converter results from count n on, in
1/64 code: the block's own and those after it that the filters reach (log entry 7). Clips are judged after interleave
correction (R83); the auto-ranger and the background estimator take the corrected block (R84, R102), the detector, the ring
and the notches the skew-corrected one (R125, R170, R174). A dropped block goes through as zeros (R482). -/
def State.doRawBlock (s : State) (ch n : Nat) (conv : List Int) : State :=
  let c := s.chan ch
  if !s.producing ch || n % 64 != 0 || !(c.since.any fun a => decide (a ≤ n)) || !(c.recent.all fun b => decide (b.n < n)) then s
  else
    let s := (s.toCount (n + 64)).onChan ch fun c => c.takeResults n conv
    let all := s.corrected ch n 111
    let xs := (all.drop 24).take 64
    let clips := xs.map isClip
    let s := s.clipBlock ch n (clips.filter fun b => b).length
    let s := s.autoBlock ch n (((xs.filter fun x => !isClip x).map Int.natAbs).foldl max 0)
    let s := s.bgBlock ch n ((all.drop 24).take 65) clips
    let ys := s.skewBlock ch n all
    let s := s.onChan ch fun c => { c with recent := ({ n := n, xs := ys, clips := clips } :: c.recent).take 513 }
    let s := if (s.chan ch).recent.any fun b => b.n + 64 == n then s.sumBlock ch (n - 64) else s
    let s := (s.roadBlock ch n ys).firBlock ch n
    s.ringWrite ch n ((s.chan ch).rawAttr n) ys

/-! ### Regions (R59 to R61, R115, R394) -/

/-- A region stops at count n: Rehearsal ends with a result, its channels end, and its clusters' requests end (R60, R111, R122).
DESIGN CHOICE: log entry 75. -/
def State.stopRegion (s : State) (r result n : Nat) : State :=
  let s := s.stopRehearsal r result n
  let s := s.forEach (regionClusters r) fun s g => s.dropInjects g injAborted injRegionOff n
  let s := s.drainBefore n s.chn.records.length
  (s.forEach (regionChans r) fun s ch => s.endChan ch n).wchSync

/-- A running region fails now with a Rehearsal result (R59, R60). -/
def State.failRegion (s : State) (r result : Nat) : State :=
  (s.onRegion r fun x => { x with failed := true, locked := false, resumeAt := none }).stopRegion r result s.clk.count

/-- Is a region monitored: on, and not off by shedding or heat (R61)? -/
def Region.monitored (x : Region) : Bool := x.powered && !x.shed && !x.thermal

/-- REGION_FAULT: the PLL (kind 0) or the bundle (kind 1) of region r fails: one region incident, and the region stops. In a
region that is off, nothing (R59 to R61). -/
def State.doRegionFault (s : State) (r kind : Nat) : State :=
  if !(s.region r).monitored then s
  else
    let code := if kind = 0 then 0x2101 else 0x2103
    (s.report code (s.locRegion r) 0).failRegion r (if kind = 0 then 5 else 4)

/-- The data plane stops now (R44, R63): time, links, safety and management go on. -/
def State.stopPlane (s : State) : State :=
  if s.plane.ingest then
    ((s.endAll s.clk.count).onPlane fun p => { p with ingest := false }).wchSync
  else s

/-- DIE_FAULT: the analog supply of QF die d fails, which takes out both of its regions; or CX fails (d = 2), which stops
the data plane (R61, R63). -/
def State.doDieFault (s : State) (d : Nat) : State :=
  if d < 2 then
    if s.plane.qfFault.getD d false then s
    else
      let s := s.onPlane fun p => { p with qfFault := p.qfFault.set d true }
      let s := s.report 0x2110 (s.locDie d) (wrapBits 32 (s.plane.temps.getD d 0))
      s.forEach [2 * d, 2 * d + 1] fun s r => if (s.region r).monitored then s.failRegion r 4 else s
  else if d = 2 ∧ s.plane.cxOn ∧ !s.plane.cxFault then
    ((s.onPlane fun p => { p with cxFault := true }).report 0x2120 s.locCx 0).stopPlane
  else s

/-- RESTART_BUSY (R417). -/
def State.restarting (s : State) : Bool := s.rdB F.MGT_START_STAT_RESTART_BUSY

/-- The conditions of a region's incidents are over (R60, R421). -/
def State.regionHealed (s : State) (r : Nat) : State :=
  let s := s.forEach [0x2101, 0x2103, 0x4301] fun s c => s.conditionOver c (s.locRegion r)
  if s.plane.qfFault.getD (r / 2) false then
    (s.onPlane fun p => { p with qfFault := p.qfFault.set (r / 2) false }).conditionOver 0x2110 (s.locDie (r / 2))
  else s

/-- REGION_PLL_LOCK: the PLL of a powered region achieves lock: its phase is taken from the detector, and ingest may resume at
the first multiple of 1024 at least 32 samples later (R115, R394). A failed region heals by a lock during a restart alone
(R60, R414). Without REFCLK no PLL locks (R461). -/
def State.doPllLock (s : State) (r : Nat) (reading : Int) : State :=
  let x := s.region r
  if !x.powered || x.locked || x.thermal || x.shed || !s.clk.refclk || (x.failed && !s.restarting) then s
  else
    let s := s.takePhase r reading
    let s := if x.failed then s.regionHealed r else s
    s.onRegion r fun x =>
      { x with locked := true, failed := false, resumeAt := some (boundaryAfter 1024 s.clk.count) }

/-- REGION_RESTORE: the channels of a region that powered up resume (R394). A rate switch or restart under way holds it. -/
def State.doRegionRestore (s : State) (r : Nat) : State :=
  match (s.region r).resumeAt with
  | none => s
  | some n =>
    if (s.region r).live && s.plane.ingest && s.clk.running && !s.restarting then
      let s := (s.toCount n).onRegion r fun x => { x with resumeAt := none }
      (s.forEach (regionChans r) fun s ch => s.beginChan true ch n).wchSync
    else s

/-! ### Pace loop (R41 to R44, R46, R48) -/

/-- Location of the faults of a pace monitor (R41). -/
def State.locMonitor (s : State) (n : Nat) : Nat := if n < 4 then s.locRegion n else s.locCx

/-- The monitors that report: that of a region that is off does not (R61). -/
def State.monitorsOn (s : State) : List Nat :=
  (List.range 10).filter fun n => decide (4 ≤ n) || (s.region n).monitored

/-- A margin as an 8-bit field shows it: saturating at 255 (R48); a negative one is not stated and is a free value. -/
def State.showMargin (s : State) (m : Int) : Nat × State :=
  if m < 0 then s.freeBelow 256 else (min 255 m.toNat, s)

/-- A monitor's registers take its margin (R48). -/
def State.takeMargin (s : State) (n : Nat) (m : Int) : State :=
  let (v, s) := s.showMargin m
  (s.wr F.PWR_PACE_MON_MARGIN n v).wr F.PWR_PACE_MON_MIN_SINCE_CLEAR n (min v (s.rd F.PWR_PACE_MON_MIN_SINCE_CLEAR n))

/-- The lowest margin and its monitor, the lowest monitor of several. -/
def lowestMargin (ms : List (Nat × Int)) : Nat × Int :=
  match ms with
  | [] => (0, 255)
  | m :: rest => rest.foldl (fun b x => if x.2 < b.2 then x else b) m

/-- The setpoint after a tick (R42): raised by 10 mV, up to 850, while the margin is low; 700 while LOOP_EN is 0 (R48). -/
def paceSetpoint (loop low : Bool) (sp : Nat) : Nat := if !loop then 700 else if low then min 850 (sp + 10) else sp

/-- PACE_LOOP_TICK: the next slow tick, with the margins of the ten monitors in percent. What lasts and was closed by the
host is reported again (R421); the keeper evaluates the pace loop once monitors report (R42, R43 steps 1 and 2, R48). DESIGN
CHOICE (log entry 79): with LOOP_EN 0 the ticks below 10% count towards step 3 of R43 at 0.70 V. -/
def State.doPaceTick (s : State) (margins : List Int) : State :=
  let s := (s.toTick (s.clk.tick + 1)).reportAgain
  if !s.plane.monitors then s
  else
    let ms := s.monitorsOn.map fun n => (n, margins.getD n 255)
    let s := s.forEach ms fun s p => s.takeMargin p.1 p.2
    let m := lowestMargin ms
    let sp := s.rd F.PWR_VCORE_SETPOINT_MV
    let loop := s.rdB F.PWR_PACE_CTL_LOOP_EN
    let low := decide (m.2 < 10)
    let (v, s) := s.showMargin m.2
    let s := ((s.wr F.PWR_PACE_STAT_MIN_MARGIN 0 v).wr F.PWR_PACE_STAT_MIN_MONITOR 0 m.1).wrB F.PWR_PACE_STAT_ALARM 0 low
    let s := if low then s.flag F.PWR_PACE_EVT 0 else s
    let s := s.wr F.PWR_VCORE_SETPOINT_MV 0 (paceSetpoint loop low sp)
    s.onPlane fun p =>
      { p with good := if 25 ≤ m.2 then p.good + 1 else 0
               low := if low && (!loop || sp == 850) then p.low + 1 else 0
               ok := if low then 0 else p.ok + 1
               minMargin := m.2, minMonitor := m.1 }

/-- VCORE_STEP_DOWN: after 1000 ticks at or above 25% the setpoint is lowered by 10 mV, and the count restarts (R42). -/
def State.doStepDown (s : State) : State :=
  if s.plane.good < 1000 ∨ !s.rdB F.PWR_PACE_CTL_LOOP_EN then s
  else
    (s.onPlane fun p => { p with good := 0 }).wr F.PWR_VCORE_SETPOINT_MV 0 (max 700 (s.rd F.PWR_VCORE_SETPOINT_MV - 10))

/-- FMAX in MHz: the highest multiple of 50 MHz that does not exceed f_s * (1 + m) / 1.10, m the margin in percent (R44). -/
def fmaxMHz (fs : Nat) (m : Int) : Nat := (fs * (100 + m) / 110 / 50000000).toNat * 50

/-- The blocks carry RATE_REDUCED from the next block boundary on (R43). -/
def openReduced (l : List (Nat × Option Nat)) (n : Nat) : List (Nat × Option Nat) :=
  if l.any fun p => p.2.isNone then l else (n, none) :: l

/-- PACE_FAULT: after 10 ticks below 10% at 0.85 V: the fault, its incident, RATE_REDUCED and a lower FMAX, below 0.80 GS/s
with a stop of the data plane (R43 step 3, R44). -/
def State.doPaceFault (s : State) : State :=
  if s.plane.low < 10 then s
  else
    let fmax := fmaxMHz s.clk.fs s.plane.minMargin
    let s := (s.wr F.PWR_PACE_STAT_PACE_FAULT 0 1).flag F.PWR_PACE_EVT 1
    let s := s.report 0x2001 (s.locMonitor s.plane.minMonitor) (s.rd F.PWR_PACE_STAT_MIN_MARGIN)
    let s := (s.wr F.PWR_PACE_FMAX_FMAX_MHZ 0 fmax).onPlane fun p =>
      { p with low := 0, reduced := openReduced p.reduced s.clk.count }
    if fmax < 800 then
      ((s.onPlane fun p => { p with stopped := true }).report 0x2002 s.locModule fmax).stopPlane
    else s

/-- PACE_FAULT_CLEAR: at the configured rate, after 1000 ticks at or above 10%, PACE_FAULT clears and RATE_REDUCED with it
(R46). DESIGN CHOICE (log entry 80): PWR_PACE_FMAX keeps the lowered value. -/
def State.doPaceClear (s : State) : State :=
  if s.plane.ok < 1000 || !s.rdB F.PWR_PACE_STAT_PACE_FAULT || s.rdB F.PWR_PACE_STAT_SWITCHED then s
  else
    let s := (s.wr F.PWR_PACE_STAT_PACE_FAULT 0 0).onPlane fun p =>
      { p with reduced := p.reduced.map fun q => (q.1, some (q.2.getD s.clk.count)) }
    s.forEach [0, 1, 2, 3, 4] fun s n => s.conditionOver 0x2001 (s.locMonitor n)

/-- PACE_CLR_MIN: MIN_SINCE_CLEAR of all monitors becomes 255 (R48). -/
def State.doPaceClrMin (s : State) : State :=
  s.forEach (List.range 10) fun s n => s.wr F.PWR_PACE_MON_MIN_SINCE_CLEAR n 255

/-! ### Rate switch (R45) -/

/-- A switch is decided: ingest is to stop at the next common count that is a multiple of 1024 (R45, step 1). -/
def State.decideSwitch (s : State) (target : Nat) (restore : Bool) : State :=
  if s.plane.switch.isSome || !s.plane.ingest then s
  else s.onPlane fun p =>
    { p with switch := some { target := target, n := nextMultiple 1024 (s.clk.count + 1), restore := restore } }

/-- PACE_SWITCH: a write of SWITCH, ignored unless PACE_FAULT is 1 (R48). -/
def State.doPaceSwitch (s : State) : State :=
  if s.rdB F.PWR_PACE_STAT_PACE_FAULT then s.decideSwitch (s.rd F.PWR_PACE_FMAX_FMAX_MHZ * 1000000) false else s

/-- AUTO_FALLBACK: a converter elastic buffer passes 75% fill after step 3 of R43, with AUTO_FALLBACK set (R43, step 4). -/
def State.doAutoFallback (s : State) : State :=
  if s.rdB F.PWR_PACE_CTL_AUTO_FALLBACK then s.doPaceSwitch else s

/-- PACE_RESTORE: a write of RESTORE, ignored unless SWITCHED is 1 (R46, R48). -/
def State.doPaceRestore (s : State) : State :=
  if s.rdB F.PWR_PACE_STAT_SWITCHED then s.decideSwitch s.clk.fsCfg true else s

/-- An acquisition under way starts again (R323). -/
def State.dropAcquisition (s : State) : State :=
  if s.timState = timAcquiring then
    s.onTim fun t => { t with points := [], lockRun := 0, stepped := false, afterStep := false }
  else s

/-- RATE_SWITCH_INGEST_STOP: at N ingest stops on all channels, with what R111, R122, R172, R201, R222, R323, R95 and R449
end, and the counter holds N (R45). A restart under way goes first. DEDUCED: log entry 41. -/
def State.doSwitchStop (s : State) : State :=
  match s.plane.switch with
  | none => s
  | some w =>
    if w.stage ≠ 0 || s.restarting then s
    else
      let n := if s.clk.count ≤ w.n then w.n else nextMultiple 1024 (s.clk.count + 1)
      let s := s.toCount n
      let s := (s.drainBefore n s.chn.records.length).endAll n
      let s := ((s.closeCuesEarly).abortJobs.cutCodec).rateDropPulse.discardAllTags
      let s := ((s.dropRound 0).dropRound 1).dropAcquisition
      let s := { s with clk := { s.clk with running := false } }
      (s.onPlane fun p => { p with switch := some { w with n := n, stage := 1 } }).wchSync

/-- Network time that passes over a number of REFCLK periods of 10 ns, in 2^-16 ns, at the rate in force (R304). -/
def refclkTime (periods : Nat) (rate : Int) : Int := rhe (periods * 10 * 65536 * (2 ^ 40 + rate)) (2 ^ 40)

/-- RATE_SWITCH_RELOCK: the PLLs relock at the new rate, and time is re-based at N so that it is continuous (R45 steps 2
and 3, R304); each region that runs takes its phase from the detector (R115). periods is the number of REFCLK periods from
the stop to the counter's resume, readings the detectors' readings. -/
def State.doRelock (s : State) (periods : Nat) (readings : List Int) : State :=
  match s.plane.switch with
  | none => s
  | some w =>
    if w.stage ≠ 1 || !s.clk.refclk then s
    else
      let s := s.pass (periods * s.clk.fs / 100000000)
      let tnom := tNomOf w.target
      let offset := newOffset s.tim w.n s.tim.rate tnom (refclkTime periods s.tim.rate)
      let s := { s with clk := { s.clk with fs := w.target, phase := s.clk.phase * w.target / s.clk.fs } }
      let s := s.relationNow w.n offset tnom
      let s := s.forEach ((List.range 4).filter fun r => (s.region r).live) fun s r => s.takePhase r (readings.getD r 0)
      s.onPlane fun p => { p with switch := some { w with stage := 2 } }

/-- Notches that break R131 at the rate in use are bypassed, with a configuration fault for each that was not, and others
return (R137). -/
def State.bypassNotches (s : State) (ch : Nat) : State :=
  let bad := (List.range 8).filter fun i =>
    s.rdB F.FLT_NOTCH_EN (8 * ch + i) &&
      !s.notchOk ch (s.rd F.FLT_NOTCH_FC (8 * ch + i)) (s.rd F.FLT_NOTCH_BW_BW (8 * ch + i))
  let fresh := bad.filter fun i => !(s.chan ch).bypassed.contains i
  (s.forEach fresh fun s i => s.configFault (s.locUnit ch) (F.FLT_NOTCH + 8 * (8 * ch + i))).onChan ch fun c =>
    { c with bypassed := bad }

/-- The ring and its clocks start anew at count n after a rate switch (R171, R186, R189). -/
def State.ringAfterSwitch (s : State) (n : Nat) : State :=
  let s := if s.trg.running then
      ((s.ringRestart n).onTrg fun t => { t with resetMark := false }).pushMark markReset n 0 0 0
    else s
  s.startBudget n

/-- RATE_SWITCH_RESUME: the counter and ingest resume at N (R45 steps 3 and 4, R85, R137, R145, R151, R171, R189). -/
def State.doSwitchResume (s : State) : State :=
  match s.plane.switch with
  | none => s
  | some w =>
    if w.stage ≠ 2 then s
    else
      let s := { s with clk := { s.clk with running := true } }
      let s := (s.wrB F.PWR_PACE_STAT_SWITCHED 0 !w.restore).onPlane fun p => { p with switch := none, ok := 0 }
      let s := s.forEach allChans fun s ch => s.bypassNotches ch
      let s := (s.storeDwell s.plane.dwell).ringAfterSwitch w.n
      let s := s.forEach (List.range 4) fun s r => s.onRegion r fun x => if x.live then { x with resumeAt := none } else x
      (s.beginAll true w.n).chnSync

end Sys2Proof.Machine
end

