-- ==== Sys2Proof/Machine/Codec.lean ====
section
/-! DEFINITION. Codec jobs in the machine (R219 to R224): their start, the end of a job with its status and token, and CANCEL. -/

namespace Sys2Proof.Machine

/-! ### The end of a job (R219 to R222) -/

/-- Why a job stops (R222), or that it must wait for its next block. -/
inductive CStop where
  | done | outFull | lost | frozen | wait
  deriving DecidableEq, Repr

/-- Why the next block is not read: the job's source was removed, or the block lies below V, or its channel is not held or has
stopped, all SOURCE_LOST; or the ring is frozen and it lies at or after Z; otherwise it is still to come (R222). -/
def State.whyMissing (s : State) (ch blk : Nat) (removed : Bool) : CStop :=
  if removed then .lost
  else if s.avail ch blk ≠ .never then .wait
  else if s.ringState = ringFrozen ∧ s.inRing ch = true ∧ (s.chan ch).w ≤ 64 * blk ∧ (s.trg.z.getD 0) ≤ 64 * blk then .frozen
  else .lost

/-- What a job has coded, why it stops, and its token (R220 to R222). -/
def State.jobEnd (s : State) (j : CJob) (bad : Upsets) : CRun × CStop × LWord :=
  let r := j.coded bad
  match (r.2, j.rd.at_) with
  | (some p, _) => (r.1.close, .outFull, cursor p.1 p.2)
  | (none, none) => (r.1.close, .done, cursor j.chFirst j.endBlock)
  | (none, some p) =>
    (r.1.close, if r.1.fits j.startOfs p.1 p.2 j.mode j.outBytes then s.whyMissing p.1 p.2 j.cut else .outFull, cursor p.1 p.2)

/-- The blocks that a job coded count where they fail their verification (R216). -/
def State.verifyCoded (s : State) (j : CJob) (bad : Upsets) (blocks : Nat) : State :=
  s.verifyAll j.mode bad (j.rd.got.reverse.take blocks)

/-- CDC_JOB_STAT shows the jobs (R225). -/
def State.showCodec (s : State) : State :=
  (s.wrB F.CDC_JOB_STAT_ACTIVE 0 (s.codec.any fun j => j.running)).wr F.CDC_JOB_STAT_WAITING 0
    (s.codec.filter fun j => !j.running).length

/-- A job ends: its output is handed to class 3, LAST_STATUS is set, and its completion follows (R219, R221). -/
def State.endJob (s : State) (j : CJob) (r : CRun) (status : Nat) (token : LWord) : State :=
  let s := ({ s with codec := s.codec.erase j }.wr F.CDC_JOB_STAT_LAST_STATUS 0 status).showCodec
  let s := if r.done.isEmpty then s else s.pushOutput j.ring j.idx j.outAddr r.done
  s.finishCmd j.ring j.idx token status r.blocks (8 * r.done.length)

/-- CODEC_JOB_START: with EN set and no job running, the oldest waiting job starts at its cursor; a bad descriptor completes at
once with BAD_DESC (R217, R222, R223). -/
def State.doCodecStart (s : State) : State :=
  if !s.rdB F.CDC_JOB_CTL_EN || s.codec.any fun j => j.running then s
  else
    let s := s.runPort
    match s.codec with
    | [] => s
    | j :: rest =>
      if j.bad then s.endJob j {} 4 0
      else { s with codec := { j with running := true, rd := { at_ := some (j.curCh, j.curBlock) } } :: rest }.showCodec

/-- The read port goes on until the running codec job reads no more (R190). -/
def State.readJob (s : State) : State := s.runPortTo fun t => !t.codec.any fun j => t.codecReads j

/-- CODEC_JOB_COMPLETE: the running job reads on until it ends, and its completion entry is written (R221, R222). bad says
what goes wrong in the encoder (R216). A job that still waits for a block goes on waiting. -/
def State.doCodecComplete (s : State) (bad : Upsets) : State :=
  let t := s.readJob
  match t.codec.find? fun j => j.running with
  | none => s
  | some j =>
    let r := t.jobEnd j bad
    let t := t.verifyCoded j bad r.1.blocks
    match r.2.1 with
    | .wait => s
    | .done => t.endJob j r.1 0 r.2.2
    | .outFull => t.endJob j r.1 1 r.2.2
    | .lost => t.endJob j r.1 2 r.2.2
    | .frozen => t.endJob j r.1 3 r.2.2

/-- A job ends early with a status: the running one after the whole blocks it has coded, a waiting one with no output and its
own cursor (R222, R224, R345). -/
def State.stopJob (s : State) (j : CJob) (status : Nat) : State :=
  if j.running then
    let (bad, s) := s.freeUpsets j.rd.got
    let r := s.jobEnd j bad
    (s.verifyCoded j bad r.1.blocks).endJob j r.1 status r.2.2
  else s.endJob j {} status (j.words.getD 1 0)

/-- Every codec job ends with a status, in job order. -/
def State.stopJobs (s : State) (status : Nat) : State :=
  let s := s.runPort
  s.forEach s.codec fun s j => s.stopJob j status

/-- CODEC_CANCEL: a write of CDC_JOB_CTL.CANCEL: the entries of the jobs follow in job order (R222, R224). -/
def State.doCodecCancel (s : State) : State :=
  (s.onPrm fun p => { p with cancelled := p.cancelled ++ s.codec.map fun j => (j.ring, j.idx) }).stopJobs 5

end Sys2Proof.Machine
end

