-- ==== Sys2Proof/Machine/Lanes.lean ====
section
/-! DEFINITION. Barif lanes (R244 to R269): the scrambler, stuffing and markers, the CRC-32C and header of a frame
(R271, R273), the transmit buffers, bring-up, alignment, electrical idle and the lane events. -/

namespace Sys2Proof.Machine

/-! ### Line coding -/

/-- The scrambler after one body bit (R250). -/
def scrStep (st : Nat) : Nat :=
  (st * 2 + (st.testBit 30 ^^ st.testBit 27).toNat) % 2 ^ 31

/-- The scrambler after n body bits. -/
def scrAdvance (st : Nat) : Nat → Nat
  | 0 => st
  | n + 1 => scrAdvance (scrStep st) n

/-- Scramble body bits, first bit first; descrambling is the same (R250). -/
def scramble (st : Nat) : List Bool → List Bool
  | [] => []
  | d :: rest => (d ^^ (st.testBit 30 ^^ st.testBit 27)) :: scramble (scrStep st) rest

/-- Stuff scrambled bits: a complement bit after every 12 identical bits (R252). run and last are the count of the
current run and its bit. -/
def stuffFrom (run : Nat) (last : Bool) : List Bool → List Bool
  | [] => []
  | b :: rest =>
    let run' := if 0 < run ∧ b = last then run + 1 else 1
    if run' = 12 then b :: (!b) :: stuffFrom 0 b rest else b :: stuffFrom run' b rest

/-- Stuffing of a body or a seed (R252). -/
def stuff (bits : List Bool) : List Bool := stuffFrom 0 false bits

/-- Destuff n body bits from line bits; none on a stuffing violation or when the line ends (R252). A body that ends in
12 identical bits is followed by its inserted bit. Answers the body bits and the rest of the line. -/
def destuffFrom (run : Nat) (last : Bool) : Nat → List Bool → Option (List Bool × List Bool)
  | n, [] => if n = 0 ∧ run ≠ 12 then some ([], []) else none
  | n, c :: rest =>
    if run = 12 then (if c = last then none else destuffFrom 0 c n rest)
    else
      match n with
      | 0 => some ([], c :: rest)
      | n + 1 =>
        let run' := if 0 < run ∧ c = last then run + 1 else 1
        (destuffFrom run' c n rest).map fun r => (c :: r.1, r.2)

/-- Destuffing of n body bits (R252). -/
def destuff (n : Nat) (line : List Bool) : Option (List Bool × List Bool) := destuffFrom 0 false n line

/-- The low n bits of a value, most significant first (R249, R273). -/
def bitsMsb (n v : Nat) : List Bool := (List.range n).map fun i => v.testBit (n - 1 - i)

/-- The SYNC marker (R249). -/
def syncBits : List Bool := bitsMsb 32 0xFFFF0000
/-- The FILL marker (R249). -/
def fillBits : List Bool := bitsMsb 32 0x0000FFFF
/-- The HUSH marker (R249). -/
def hushBits : List Bool := bitsMsb 32 0xFFFFFFFF
/-- The SEED marker of a scrambler state: 32 zeros, a 1, and the 31 seed bits stuffed (R249, R251). -/
def seedBits (st : Nat) : List Bool := bitsMsb 33 1 ++ stuff (bitsMsb 31 st)

/-- One bit of the reflected CRC-32C (R273). -/
def crcBit (c : Nat) : Nat := if c % 2 = 1 then c / 2 ^^^ 0x82F63B78 else c / 2

/-- One byte of the CRC-32C. -/
def crcByte (c b : Nat) : Nat :=
  crcBit (crcBit (crcBit (crcBit (crcBit (crcBit (crcBit (crcBit (c ^^^ b))))))))

/-- CRC-32C of a byte string (R273). -/
def crc32c (bytes : List Nat) : Nat := bytes.foldl crcByte 0xFFFFFFFF ^^^ 0xFFFFFFFF

/-- The bytes of a word, bits [63:56] first (R273). -/
def bytesOf (w : LWord) : List Nat := (List.range 8).map fun i => w.toNat / 2 ^ (8 * (7 - i)) % 256

/-- CRC-32C of a run of words (R273). -/
def crcWords (ws : List LWord) : Nat := crc32c (ws.flatMap bytesOf)

/-- The header of a frame (R271). -/
def frameHeader (f : TxFrame) : LWord :=
  word64 [(56, f.ftype), (54, f.cls), (48, f.words.length), (24, f.seq), (23, f.path), (16, f.lane), (0, f.module_)]

/-- The CRC that a frame is sent with, complemented for a cut frame (R238, R273). -/
def frameCrc (f : TxFrame) : Nat :=
  let c := crcWords (frameHeader f :: f.words)
  if f.cut then 0xFFFFFFFF - c else c

/-- Body bits of a frame with n payload words (R248). -/
def bodyBits (n : Nat) : Nat := 96 + 64 * n

/-- The body of a frame, most significant bits first (R207, R273). -/
def frameBody (f : TxFrame) : List Bool :=
  ((frameHeader f :: f.words).flatMap fun w => bitsMsb 64 w.toNat) ++ bitsMsb 32 (frameCrc f)

/-- The line bits of a frame sent with scrambler state st: SYNC and the stuffed, scrambled body (R248). -/
def frameLine (st : Nat) (f : TxFrame) : List Bool := syncBits ++ stuff (scramble st (frameBody f))

/-- The line bits of an item (R248, R249): the training burst is 128 UI of alternating bits that begin with 1. -/
def LineItem.bits : LineItem → List Bool
  | .burst => (List.range 128).map fun i => i % 2 == 0
  | .seed st => seedBits st
  | .frame st f => frameLine st f
  | .fill n => (List.range n).flatMap fun _ => fillBits
  | .hush => hushBits

/-- Are the 33 line bits at a marker position (the first bit highest) a marker error (R254)? SYNC, FILL and HUSH take the first
32, a SEED begins with 32 zeros and a 1. -/
def markerError (bits : Nat) : Bool :=
  let w := bits / 2 % 2 ^ 32
  w != 0xFFFF0000 && w != 0x0000FFFF && w != 0xFFFFFFFF && !(w == 0 && bits % 2 == 1)

/-! ### Lanes and their buffers -/

/-- Lane n. -/
def State.lane (s : State) (n : Nat) : Lane := s.lnk.lanes.getD n {}

/-- Change lane n. -/
def State.onLane (s : State) (n : Nat) (f : Lane → Lane) : State :=
  s.onLnk fun l => { l with lanes := l.lanes.modify n f }

/-- Enter a state of R257. -/
def State.setLaneState (s : State) (n st : Nat) : State := s.wr F.LNK_LANE_STAT_STATE n st

/-- The UP lanes of a path, lowest first. -/
def State.upLanes (s : State) (p : Nat) : List Nat :=
  ((List.range 12).map fun i => 12 * p + i).filter fun n => s.laneUp n

/-- Does path p have an UP lane? -/
def State.pathUp (s : State) (p : Nat) : Bool := !(s.upLanes p).isEmpty

/-! ### The transmitter's line (R248, R251, R256)

Times on a line are in UI since the boot of the keeper, at the rate of its path. DESIGN CHOICE: log entry 66. -/

/-- The UI that a frame takes on the line. -/
def frameUi (st : Nat) (f : TxFrame) : Nat := 32 + (stuff (scramble st (frameBody f))).length

/-- The UI that a SEED takes: 64 to 66 (R249). -/
def seedUi (st : Nat) : Nat := 33 + (stuff (bitsMsb 31 st)).length

/-- n FILLs on a line: they join those before them. -/
def addFills (line : List LineItem) (n : Nat) : List LineItem :=
  match line.getLast? with
  | some (.fill m) => line.dropLast ++ [.fill (m + n)]
  | _ => line ++ [.fill n]

/-- A SEED is sent once 1023 frames and FILLs have followed the last one (R251). -/
def Lane.seedDue (l : Lane) : Lane :=
  if l.items < 1023 then l
  else { l with free := l.free + seedUi l.txScr, items := 0, line := [.seed l.txScr] }

/-- A FILL is sent. -/
def Lane.sendFill (l : Lane) : Lane :=
  let l := l.seedDue
  { l with free := l.free + 32, items := l.items + 1, frames := 0, line := addFills l.line 1 }

/-- What is due before the next frame: a FILL after 16 frames (R256), a SEED. -/
def Lane.ready (l : Lane) : Lane := (if l.frames < 16 then l else l.sendFill).seedDue

/-- A frame is sent: the scrambler moves over its body (R250). -/
def Lane.sendOne (l : Lane) (f : TxFrame) : Lane :=
  let l := l.ready
  let stop := l.free + frameUi l.txScr f
  { l with txScr := scrAdvance l.txScr (bodyBits f.words.length), free := stop, lastFrame := stop, items := l.items + 1
           frames := l.frames + 1, line := l.line ++ [.frame l.txScr f] }

/-- The oldest waiting frame is sent, the class 0 slot's first (R286). -/
def Lane.sendNext (l : Lane) : Lane :=
  match l.slot0, l.buf with
  | f :: rest, _ => let l := { l with slot0 := rest }.sendOne f; { l with slotEnd := l.free }
  | [], f :: rest => let l := { l with buf := rest }.sendOne f; { l with bufEnd := l.free }
  | [], [] => l

/-- The next n waiting frames are sent. -/
def Lane.sendSome (l : Lane) : Nat → Lane
  | 0 => l
  | n + 1 => l.sendNext.sendSome n

/-- Frames that wait. -/
def Lane.waiting (l : Lane) : Nat := l.slot0.length + l.buf.length

/-- The frames that have begun by a time are sent, at most n. -/
def Lane.sendUntil (now : Nat) (l : Lane) : Nat → Lane
  | 0 => l
  | n + 1 => if now < l.free then l else l.sendNext.sendUntil now n

/-- FILLs, with their SEEDs, up to the first item boundary after a time (R28, R251). -/
def Lane.fillTo (now : Nat) (l : Lane) : Lane :=
  if now < l.free then l
  else
    let gap := now - l.free
    let left := 1023 - l.items
    if gap < 32 * left then
      let k := gap / 32 + 1
      { l with free := l.free + 32 * k, items := l.items + k, frames := 0, line := addFills l.line k }
    else
      let sd := seedUi l.txScr
      let round := sd + 32 * 1023
      let rest := (gap - 32 * left) % round
      let k := if rest < sd then 0 else (rest - sd) / 32 + 1
      { l with free := l.free + 32 * left + (gap - 32 * left) / round * round + sd + 32 * k, items := k, frames := 0
               line := if k = 0 then [.seed l.txScr] else [.seed l.txScr, .fill k] }

/-- The line up to a time: frames while one waits, and FILL otherwise (R28). Frames are held while no module ID is assigned
(R21). -/
def Lane.runTo (l : Lane) (now : Nat) (mayFrame : Bool) : Lane :=
  (if mayFrame then l.sendUntil now l.waiting else l).fillTo now

/-- The UI since the boot of the keeper at the rate of path p. -/
def State.uiNow (s : State) (p : Nat) : Nat :=
  (s.clk.tick * s.clk.fs + s.clk.phase) * 1000000 * s.pathRate p / s.clk.fs

/-- Time passes until the UI clock of path p has reached u. -/
def State.toUi (s : State) (p u : Nat) : State :=
  s.pass (ceilDiv (ceilDiv (u * s.clk.fs) (1000000 * s.pathRate p) - (s.clk.tick * s.clk.fs + s.clk.phase)) 1000)

/-- TX_SUB of lane n (R257). -/
def State.txSub (s : State) (n : Nat) : Nat := s.rd F.LNK_LANE_STAT_TX_SUB n

/-- Lane n sends what the time that has passed allows, when it is UP and its transmitter active. -/
def State.laneRun (s : State) (n : Nat) : State :=
  if s.laneUp n && s.txSub n == 0 then
    s.onLane n fun l => l.runTo (s.uiNow (n / 12)) (s.moduleId != 0)
  else s

/-- The lanes of path p send what the time that has passed allows. -/
def State.runPath (s : State) (p : Nat) : State :=
  s.forEach ((List.range 12).map fun i => 12 * p + i) State.laneRun

/-- Every lane sends what the time that has passed allows. -/
def State.runLanes (s : State) : State := s.forEach (List.range 24) State.laneRun

/-! ### Placing frames (R27, R28, R286) -/

/-- The longest time from a frame's assignment to an idle lane to its SYNC, in UI (R263). -/
def wakeUi (rate : Nat) : Nat := if rate = 10 then 550 else if rate = 20 then 900 else 1280

/-- The shortest one. -/
def wakeLeast (rate : Nat) : Nat := if rate = 10 then 292 else if rate = 20 then 392 else 512

/-- Has lane n's buffer room? It takes 2 frames, the one that is leaving included (R27). -/
def State.laneRoom (s : State) (n : Nat) : Bool :=
  let l := s.lane n
  decide (l.buf.length + (decide (s.uiNow (n / 12) < l.bufEnd)).toNat < 2)

/-- Is the class 0 slot of lane n free (R286)? -/
def State.slotRoom (s : State) (n : Nat) : Bool :=
  let l := s.lane n
  l.slot0.isEmpty && decide (l.slotEnd ≤ s.uiNow (n / 12))

/-- When lane n's buffer has room, in UI. -/
def State.roomAt (s : State) (n : Nat) : Nat :=
  let l := s.lane n
  if s.laneRoom n then s.uiNow (n / 12) else (l.sendSome (l.slot0.length + (l.buf.length - 1))).bufEnd

/-- When the class 0 slot of lane n is free, in UI. -/
def State.slotAt (s : State) (n : Nat) : Nat := ((s.lane n).sendSome (s.lane n).slot0.length).slotEnd

/-- When a frame placed in lane n's buffer now can start, in UI (R263, R286). -/
def State.startUi (s : State) (n : Nat) : Nat :=
  let l := s.lane n
  let wake := wakeUi (s.pathRate (n / 12))
  if s.txSub n = 1 then max (s.uiNow (n / 12)) l.free + wake
  else
    let l := if s.txSub n = 2 then { l with free := l.wakeAt + wake } else l
    (l.sendSome l.waiting).ready.free

/-- The lane among these whose buffer can start a frame earliest, ties to the lowest number (R286). -/
def State.bestLane (s : State) (ns : List Nat) : Option Nat :=
  ns.foldl (fun best n =>
    match best with
    | none => some n
    | some b => if s.startUi n < s.startUi b then some n else some b) none

/-- The UP lanes of a path with room for a frame. -/
def State.roomy (s : State) (p : Nat) : List Nat := (s.upLanes p).filter fun n => s.laneRoom n

/-- The lane of a path that takes the next frame (R286). -/
def State.earliestLane (s : State) (p : Nat) : Option Nat := s.bestLane (s.roomy p)

/-- Time passes until a lane of path p has room for a frame, or a class 0 item finds the slot free. A lane that wakes has no
room before its exit from idle. -/
def State.awaitRoom (s : State) (p : Nat) (zero : Bool) : State :=
  let slot := zero && s.laneUp (12 * p)
  if !(s.roomy p).isEmpty || (slot && s.slotRoom (12 * p)) then s
  else
    let ts := ((s.upLanes p).filter fun n => s.txSub n == 0).map s.roomAt ++ (if slot then [s.slotAt (12 * p)] else [])
    match ts.min? with
    | some u => (s.toUi p u).runPath p
    | none => s

/-- A frame assigned to a lane wakes an idle transmitter, once a HUSH under way is complete (R263, R268). -/
def State.wakeLane (s : State) (n : Nat) : State :=
  if s.txSub n = 1 then
    (s.wr F.LNK_LANE_STAT_TX_SUB n 2).onLane n fun l => { l with wakeAt := max (s.uiNow (n / 12)) l.free }
  else s

/-- A frame is placed in lane n's buffer. -/
def State.putOnLane (s : State) (n : Nat) (f : TxFrame) : State :=
  (s.onLane n fun l => { l with buf := l.buf ++ [{ f with lane := n }] }).wakeLane n

/-- A class 0 frame is placed in the class 0 slot of lane 0 or 12 (R286). -/
def State.putOnSlot (s : State) (n : Nat) (f : TxFrame) : State :=
  s.onLane n fun l => { l with slot0 := l.slot0 ++ [{ f with lane := n }] }

/-- A frame of a class is discarded for want of an UP lane, and counted (R261, R290). -/
def State.txDiscard (s : State) (c : Nat) : State := s.satAdd F.LNK_TX_DISCARD_COUNT (c % 4) 1

/-- A frame is assigned to a lane of its path (R286): a class 0 frame to the slot of lane 0 or 12, any other to the lane that
can start it earliest. A TIME frame goes on lane 0 or 12 alone (R309). Frames moved from a lane that has left UP may find every
buffer full and wait behind the two frames of one. DESIGN CHOICE: log entry 85. -/
def State.assignFrame (s : State) (p : Nat) (f : TxFrame) : State :=
  let f := { f with path := p }
  if f.cls = 0 ∧ f.ftype ≠ 0x01 ∧ s.laneUp (12 * p) then s.putOnSlot (12 * p) f
  else if f.ftype = 0x08 then s.txDiscard 0
  else
    match (s.earliestLane p).or (s.bestLane (s.upLanes p)) with
    | some n => s.putOnLane n f
    | none => s.txDiscard f.cls

/-! ### Credits as lanes come up (R280) -/

/-- Credits available to class c (1 to 3) on path p: (LIMIT - SENT) mod 2^16, 0 when outside 1 to 32,767. -/
def State.credit (s : State) (p c : Nat) : Nat :=
  let d := (s.lnk.limit.getD (3 * p + c - 1) 0 + 65536 - s.lnk.sent.getD (3 * p + c - 1) 0) % 65536
  if d ≤ 32767 then d else 0

/-- LNK_CREDIT_STAT shows the credits of path p, each saturating at 255 (R300). -/
def State.showCredits (s : State) (p : Nat) : State :=
  ((s.wr F.LNK_CREDIT_STAT_C1 p (min 255 (s.credit p 1))).wr F.LNK_CREDIT_STAT_C2 p (min 255 (s.credit p 2))).wr
    F.LNK_CREDIT_STAT_C3 p (min 255 (s.credit p 3))

/-- SENT and LIMIT of a path return to 0, and the transmitter waits for a CREDIT frame (R280). -/
def State.resetCredits (s : State) (p : Nat) : State :=
  let z := fun (l : List Nat) => ((l.set (3 * p) 0).set (3 * p + 1) 0).set (3 * p + 2) 0
  ((s.onLnk fun l => { l with sent := z l.sent, limit := z l.limit, taken := l.taken.set p 0, granted := l.granted.set p 0 }).wr
    F.LNK_CREDIT_STAT_WAITING p 1).showCredits p

/-! ### Bring-up (R257 to R260) -/

/-- May lane n leave OFF: enabled (lanes 0 and 12 always are, R265) and not shed (R257)? -/
def State.laneAllowed (s : State) (n : Nat) : Bool :=
  (s.rdB F.LNK_LANE_CTL_EN n || n == 0 || n == 12) && !(s.lane n).shed

/-- Does the receiver of lane n take the line with its true polarity (R247)? DESIGN CHOICE: log entry 86. -/
def State.hears (s : State) (n : Nat) : Bool := s.rdB F.LNK_LANE_CTL_RX_INV n == (s.lane n).swapped

/-- What lane n puts on the line, inverted under TX_INV (R247). -/
def State.lineBits (s : State) (n : Nat) : List Bool :=
  ((s.lane n).line.flatMap LineItem.bits).map fun b => b ^^ s.rdB F.LNK_LANE_CTL_TX_INV n

/-- The payload word of lane n's bring-up frames (R258). -/
def State.bringupWord (s : State) (n : Nat) : LWord :=
  word64 [(56, 1), (48, s.pathRate (n / 12)), (33, (s.lane n).aligned.toNat), (32, (s.lane n).rxGood.toNat),
          (0, (s.lane n).attempt)]

/-- Lane n's bring-up frame (R258, R274). -/
def State.bringupFrame (s : State) (n : Nat) : TxFrame :=
  { ftype := 0x00, cls := 0, seq := 0, path := n / 12, lane := n, module_ := s.moduleId, words := [s.bringupWord n] }

/-- Lane n sends a training group: a burst, a SEED, a SYNC with its bring-up frame, and a FILL (R258). The scrambler moves over
the frame's body (R250). -/
def State.train (s : State) (n : Nat) : State :=
  let f := s.bringupFrame n
  s.onLane n fun l =>
    { l with line := [.burst, .seed l.txScr, .frame l.txScr f, .fill 1], txScr := scrAdvance l.txScr (bodyBits 1) }

/-- A scrambler state is never 0 (R251): a free nonzero one. -/
def State.freeScr (s : State) : Nat × State :=
  let (v, s) := s.freeBelow (2 ^ 31 - 1)
  (v + 1, s)

/-- A new attempt begins with a new nonzero scrambler state, drawn at random (a free value), and the transmitter sends training
groups (R251, R258, R259, R260). -/
def State.startAttempt (s : State) (n : Nat) : State :=
  if !s.laneAllowed n || !(s.lane n).pll then s
  else
    let (seed, s) := s.freeScr
    let s := (s.setLaneState n 1).wr F.LNK_LANE_STAT_MISMATCH n 0
    let s := (s.wr F.LNK_LANE_STAT_TX_SUB n 0).wr F.LNK_LANE_STAT_RX_SUB n 0
    (s.onLane n fun l =>
      { l with txScr := seed, aligned := false, goodRun := 0, rxGood := false, partnerRun := 0, groups := none
               attempt := (l.attempt + 1) % 2 ^ 32, items := 0, frames := 0, attemptAt := s.clk.count }).train n

/-- BRINGUP_ATTEMPT: the PLL of a lane in OFF that may run locks to REFCLK, and an attempt begins (R257, R259 step 1, R461). -/
def State.doBringupAttempt (s : State) (n : Nat) : State :=
  if s.rd F.LNK_LANE_STAT_STATE n ≠ 0 ∨ !s.laneAllowed n ∨ !s.clk.refclk then s
  else (s.onLane n fun l => { l with pll := true }).startAttempt n

/-- A frame that fails its CRC is discarded and counted (R273, event 0x140 + lane). -/
def State.crcFailed (s : State) (n : Nat) : State :=
  ((s.satAdd F.LNK_LANE_RX_CRC n 1).flag F.LNK_RX_EVT 0).count (0x140 + n) s.locCx 1

/-- A bring-up frame with its payload word and whether its CRC is good (R259). A receiver in UP discards it. -/
def State.takeBringup (s : State) (n : Nat) (crcOk : Bool) (w : LWord) : State :=
  if s.rd F.LNK_LANE_STAT_STATE n ≠ 1 then s
  else
    let v := w.toNat
    let match_ := v / 2 ^ 56 == 1 && v / 2 ^ 48 % 256 == s.pathRate (n / 12)
    let s := s.onLane n fun l => { l with aligned := true }
    if !crcOk then (s.onLane n fun l => { l with goodRun := 0, partnerRun := 0 }).train n
    else
      let pg := v.testBit 32
      let s := s.wrB F.LNK_LANE_STAT_PARTNER_GOOD n pg
      let s := if match_ then s
        else (s.wr F.LNK_LANE_STAT_MISMATCH n 1).satAdd F.LNK_LANE_VIOL_MARKER n 1
      (s.onLane n fun l =>
        let good := if match_ then l.goodRun + 1 else 0
        let rxGood := l.rxGood || decide (16 ≤ good)
        let partner := if pg then l.partnerRun + 1 else 0
        { l with goodRun := good, rxGood := rxGood, partnerRun := partner,
                 groups := match l.groups with
                   | some g => some g
                   | none => if rxGood ∧ 2 ≤ partner then some 8 else none }).train n

/-- The receiver's scrambler moves over a body with n payload words (R250). -/
def State.rxAdvance (s : State) (n words : Nat) : State :=
  s.onLane n fun l => { l with rxScr := scrAdvance l.rxScr (bodyBits words) }

/-- BRINGUP_FRAME_RECEIVED: a bring-up frame arrives on a lane in BRINGUP or UP (R250, R259, R273). -/
def State.doBringupFrame (s : State) (n : Nat) (crcOk : Bool) (w : LWord) : State :=
  let st := s.rd F.LNK_LANE_STAT_STATE n
  if !s.hears n || !(st == 1 || (st == 2 && s.rd F.LNK_LANE_STAT_RX_SUB n == 0)) then s
  else
    let s := s.rxAdvance n 1
    (if crcOk then s else s.crcFailed n).takeBringup n crcOk w

/-- LANE_UP: after the final 8 training groups the lane enters UP, both directions active. The first UP lane of its path
resets the path's credits (R259 step 5, R280). How many training groups were sent is open, and with it the scrambler state. -/
def State.doLaneUp (s : State) (n : Nat) : State :=
  if s.rd F.LNK_LANE_STAT_STATE n ≠ 1 ∨ (s.lane n).groups.isNone then s
  else
    let p := n / 12
    let s := if s.pathUp p then s else s.resetCredits p
    let s := (s.setLaneState n 2).wr F.LNK_LANE_STAT_FAIL_ATTEMPTS n 0
    let s := (s.wr F.LNK_LANE_STAT_TX_SUB n 0).wr F.LNK_LANE_STAT_RX_SUB n 0
    let (scr, s) := s.freeScr
    let now := s.uiNow p
    let s := s.onLane n fun l =>
      { l with groups := none, txScr := scr, free := now, bufEnd := now, slotEnd := now, lastFrame := now }
    (s.conditionOverAt 0x3001 s.locCx n).conditionOverAt 0x3008 s.locCx p

/-- BRINGUP_TIMEOUT: an attempt not UP 400 us after its start ends in WAIT; the eighth failure in a row raises a lane
fault (R260). -/
def State.doBringupTimeout (s : State) (n : Nat) : State :=
  if s.rd F.LNK_LANE_STAT_STATE n ≠ 1 then s
  else
    let s := s.toCount ((s.lane n).attemptAt + s.samplesUs 400)
    let s := (s.setLaneState n 3).satAdd F.LNK_LANE_STAT_FAIL_ATTEMPTS n 1
    let s := s.onLane n fun l => { l with waitAt := s.clk.count, groups := none }
    if s.rd F.LNK_LANE_STAT_FAIL_ATTEMPTS n = 8 then s.report 0x3001 s.locCx n else s

/-- WAIT_EXPIRY: after 100 us in WAIT, a new attempt begins (R260). -/
def State.doWaitExpiry (s : State) (n : Nat) : State :=
  if s.rd F.LNK_LANE_STAT_STATE n ≠ 3 then s
  else (s.toCount ((s.lane n).waitAt + s.samplesUs 100)).startAttempt n

/-! ### Leaving UP (R261, R266) -/

/-- The policy of a class: both, A, B, split (R287). Class 0 is both (R30). -/
def State.classPolicy (s : State) (c : Nat) : Nat :=
  if c = 1 then s.rd F.LNK_CLASS_POL_C1_POL else if c = 2 then s.rd F.LNK_CLASS_POL_C2_POL
  else if c = 3 then s.rd F.LNK_CLASS_POL_C3_POL else 0

/-- Is FAILOVER set for a class (R290)? -/
def State.failover (s : State) (c : Nat) : Bool :=
  if c = 1 then s.rdB F.LNK_CLASS_POL_C1_FAILOVER else if c = 3 then s.rdB F.LNK_CLASS_POL_C3_FAILOVER else false

/-- Does a frame move to the other path when its own has no UP lane: class 1 or 3 on one path with FAILOVER, or a memory
transaction with MEM_FAILOVER (R290, R295)? -/
def State.movesOver (s : State) (f : TxFrame) : Bool :=
  if f.ftype = 0x20 ∨ f.ftype = 0x21 then s.rdB F.LNK_MEM_CFG_MEM_FAILOVER
  else s.failover f.cls && s.classPolicy f.cls != 0

/-- A read that has moved is answered on the path on which it goes (R295). -/
def State.moveRead (s : State) (p : Nat) (f : TxFrame) : State :=
  if f.ftype = 0x21 then
    let tag := (f.words.getD 1 0).toNat / 2 ^ 48
    s.onLnk fun l => { l with reads := l.reads.map fun r => if r.tag = tag then { r with path := p } else r }
  else s

/-- Where a frame that was whole in the buffer of a lane that has left UP goes: another UP lane of its path, or the other path;
otherwise it is discarded and counted (R261, R290). -/
def State.rehome (s : State) (p : Nat) (f : TxFrame) : State :=
  if s.pathUp p then s.assignFrame p f
  else if s.movesOver f && s.pathUp (1 - p) then (s.moveRead (1 - p) f).assignFrame (1 - p) f
  else s.txDiscard f.cls

/-- The copies held for a path that has lost its last lane are discarded and counted (R290). -/
def State.dropHeld (s : State) (p : Nat) : State :=
  let s := s.forEach [0, 1, 2, 3] fun s c => s.satAdd F.LNK_TX_DISCARD_COUNT c (s.lnk.held.getD (2 * c + p) []).length
  s.onLnk fun l => { l with held := (((l.held.set p []).set (2 + p) []).set (4 + p) []).set (6 + p) [] }

/-- A lane leaves UP to another state: its whole frames are moved in sequence order, a round on it is dropped, and a
path that has lost all its lanes is a station-wide event (R261, R69). -/
def State.leaveUp (s : State) (n st : Nat) (seen : Bool) : State :=
  let p := n / 12
  let s := s.laneRun n
  let frames := (s.lane n).slot0 ++ (s.lane n).buf
  let s := s.setLaneState n st
  let s := if seen then s.flag F.LNK_EVT 0 else s
  let s := s.onLane n fun l =>
    { l with slot0 := [], buf := [], line := if st = 0 then [.hush] else l.line, attemptAt := s.clk.count }
  let s := (s.wr F.LNK_LANE_STAT_TX_SUB n 0).wr F.LNK_LANE_STAT_RX_SUB n 0
  let s := s.forEach frames fun s f => s.rehome p f
  let s := if s.pathUp p then s else s.dropHeld p
  let s := if n = 0 ∨ n = 12 then s.dropRound p else s
  if seen && !s.pathUp p then s.report 0x3008 s.locCx p else s

/-- LANE_DOWN: an UP lane returns to BRINGUP and a new attempt begins (R260, R261). -/
def State.laneDown (s : State) (n : Nat) : State :=
  if s.laneUp n then (s.leaveUp n 1 true).startAttempt n else s

/-- A lane goes OFF without DOWN_SEEN, as shedding and resets make it (R266, R268). -/
def State.laneOff (s : State) (n : Nat) : State :=
  if s.laneUp n then s.leaveUp n 0 false else (s.setLaneState n 0).onLane n fun l => { l with groups := none, line := [] }

/-- A lane that may run starts BRINGUP (R266). -/
def State.laneStart (s : State) (n : Nat) : State :=
  if s.rd F.LNK_LANE_STAT_STATE n = 0 then s.startAttempt n else s

/-- LOSS_OF_SIGNAL: no transitions for 100 ns while the receiver is not in IDLE (R261, R262). The tick is kept, for shedding in
the same tick takes the event back (R268). -/
def State.doLossOfSignal (s : State) (n : Nat) : State :=
  if s.laneUp n && s.rd F.LNK_LANE_STAT_RX_SUB n != 1 then
    let before := (s.clk.tick, s.rdB F.LNK_EVT_DOWN_SEEN, s.rd F.LNK_EVT_DOWN_CNT)
    (s.laneDown n).onLane n fun l => { l with loss := some before }
  else s

/-- PARTNER_TRAINING: the partner's training groups arrive (R261). -/
def State.doPartnerTraining (s : State) (n : Nat) : State := if s.hears n then s.laneDown n else s

/-- RETRAIN is written (R261). -/
def State.doRetrain (s : State) (n : Nat) : State := s.laneDown n

/-- LANE_PLL_UNLOCK: the lane's PLL loses lock and the lane goes OFF; an UP lane's exit sets DOWN_SEEN (R257, R269). -/
def State.doLanePllUnlock (s : State) (n : Nat) : State :=
  let s := s.onLane n fun l => { l with pll := false }
  if s.laneUp n then s.leaveUp n 0 true else s.laneOff n

/-! ### Receiving (R251, R254, R255, R261) -/

/-- Is the receiver of lane n aligned: active in UP, or in bring-up with a SEED and SYNC found? -/
def State.rxAligned (s : State) (n : Nat) : Bool :=
  s.hears n && ((s.laneUp n && s.rd F.LNK_LANE_STAT_RX_SUB n == 0) ||
    (s.rd F.LNK_LANE_STAT_STATE n == 1 && (s.lane n).aligned))

/-- SEED_RECEIVED: an aligned receiver compares a SEED with its state; a different one is loaded and counted as a slip
(R251). -/
def State.doSeedReceived (s : State) (n seed : Nat) : State :=
  if !s.rxAligned n || (s.lane n).rxScr == seed then s
  else
    ((s.onLane n fun l => { l with rxScr := seed }).satAdd F.LNK_LANE_SYNC_SLIP n 1).flag F.LNK_EVT 2

/-- A marker error or a stuffing violation is counted, and a receiver not yet in REALIGN enters it; the frame being received is
discarded (R255). -/
def State.enterRealign (s : State) (n : Nat) (stuffing : Bool) : State :=
  let s := if stuffing then s.satAdd F.LNK_LANE_VIOL_STUFF n 1 else s.satAdd F.LNK_LANE_VIOL_MARKER n 1
  if s.rd F.LNK_LANE_STAT_RX_SUB n = 2 then s
  else
    ((((s.wr F.LNK_LANE_STAT_RX_SUB n 2).satAdd F.LNK_LANE_SYNC_REALIGN n 1).flag F.LNK_EVT 1).onLane n fun l =>
      { l with realignAt := s.clk.count })

/-- REALIGN: a stuffing violation, or 33 line bits at a marker position that are no marker (R254, R255). A receiver in REALIGN
discards the line, and looks at no marker position. -/
def State.doRealign (s : State) (n : Nat) (stuffing : Bool) (bits : Nat) : State :=
  if s.laneUp n && s.rd F.LNK_LANE_STAT_RX_SUB n != 2 && (stuffing || markerError bits) then s.enterRealign n stuffing else s

/-- REALIGN_TIMEOUT: 1.0 ms in REALIGN without a SEED returns the lane to BRINGUP (R255, R261). -/
def State.doRealignTimeout (s : State) (n : Nat) : State :=
  if s.laneUp n && s.rd F.LNK_LANE_STAT_RX_SUB n == 2 then
    (s.toCount ((s.lane n).realignAt + s.samplesUs 1000)).laneDown n
  else s

/-- SEED_FOUND: a receiver without alignment, in REALIGN, in bring-up or waking from IDLE, finds a SEED and loads it. In
REALIGN a SEED that no SYNC or FILL follows is a marker error, and REALIGN continues (R255, R263, R268). -/
def State.doSeedFound (s : State) (n seed : Nat) (followed : Bool) : State :=
  if !s.hears n then s
  else if s.rd F.LNK_LANE_STAT_STATE n = 1 then
    (s.onLane n fun l => { l with rxScr := seed, aligned := followed || l.aligned }).train n
  else if s.laneUp n && s.rd F.LNK_LANE_STAT_RX_SUB n != 0 then
    if followed then
      (s.onLane n fun l => { l with rxScr := seed }).wr F.LNK_LANE_STAT_RX_SUB n 0
    else s.enterRealign n false
  else s

/-! ### Electrical idle (R262 to R265) -/

/-- IDLE_ENTRY: a transmitter that has sent no frame for IDLE_US sends HUSH and stops driving; lanes 0 and 12 never do
(R262, R265). The frames it still held have left by then. -/
def State.doIdleEntry (s : State) (n : Nat) : State :=
  let us := s.rd F.LNK_PATH_CFG_IDLE_US
  if !s.laneUp n || s.txSub n != 0 || n == 0 || n == 12 || us == 0 then s
  else
    let p := n / 12
    let s := s.laneRun n
    let last := ((s.lane n).sendSome (s.lane n).waiting).lastFrame
    let s := (s.toUi p (last + us * 1000 * s.pathRate p)).laneRun n
    if (s.lane n).waiting ≠ 0 then s
    else
      (s.wr F.LNK_LANE_STAT_TX_SUB n 1).onLane n fun l =>
        { l with idleAt := s.clk.count, free := l.free + 32, line := l.line ++ [.hush] }

/-- HUSH_RECEIVED: the receiver enters its IDLE sub-state and keeps its scrambler state (R262). -/
def State.doHushReceived (s : State) (n : Nat) : State :=
  if s.hears n && s.laneUp n && s.rd F.LNK_LANE_STAT_RX_SUB n == 0 then s.wr F.LNK_LANE_STAT_RX_SUB n 1 else s

/-- FAST_EXIT: a waking transmitter has sent its training burst and SEED, and is active: the SYNC of its first frame follows, at
the earliest time of R263. DEDUCED: log entry 98. -/
def State.doFastExit (s : State) (n : Nat) : State :=
  if s.laneUp n && s.txSub n == 2 then
    let now := s.uiNow (n / 12)
    let least := wakeLeast (s.pathRate (n / 12))
    (s.wr F.LNK_LANE_STAT_TX_SUB n 0).onLane n fun l =>
      { l with items := 0, frames := 0, free := max now (l.wakeAt + least), line := [.burst, .seed l.txScr] }
  else s

/-- REFRESH_BURST: 8 ms after the entry into IDLE or the last refresh burst, the transmitter sends a training burst, a
SEED, a FILL and a HUSH (R264). -/
def State.doRefreshBurst (s : State) (n : Nat) : State :=
  if s.laneUp n && s.txSub n == 1 then
    let s := s.toCount ((s.lane n).idleAt + s.samplesUs 8000)
    s.onLane n fun l =>
      { l with idleAt := s.clk.count, items := 0, frames := 0, line := [.burst, .seed l.txScr, .fill 1, .hush] }
  else s

/-- CLR_ERR: the violation, sync, CRC and reject counters of all lanes return to 0 (R269, R300). -/
def State.doClrErr (s : State) : State :=
  s.forEach (List.range 24) fun s n =>
    ((s.regPut (F.LNK_LANE_VIOL + 8 * n) 0).regPut (F.LNK_LANE_SYNC + 8 * n) 0).regPut (F.LNK_LANE_RX + 4 * n) 0

/-! ### Shedding (R266) -/

/-- A loss of signal in the tick of the shedding is taken back: a shed lane raises no DOWN_SEEN (R268). DEDUCED: log
entry 97. -/
def State.retractLoss (s : State) (n : Nat) : State :=
  match (s.lane n).loss with
  | some (t, seen, cnt) =>
    if t ≠ s.clk.tick then s
    else if s.rd F.LNK_EVT_DOWN_CNT = min 255 (cnt + 1) then (s.wrB F.LNK_EVT_DOWN_SEEN 0 seen).wr F.LNK_EVT_DOWN_CNT 0 cnt
    else s.wr F.LNK_EVT_DOWN_CNT 0 (s.rd F.LNK_EVT_DOWN_CNT - 1)
  | none => s

/-- A set of lanes is shed: each sends HUSH and goes OFF. -/
def State.shedLanes (s : State) (ns : List Nat) : State :=
  s.forEach ns fun s n => ((s.retractLoss n).onLane n fun l => { l with shed := true, loss := none }).laneOff n

/-- Lanes that a stage left upward keeps start BRINGUP (R266). -/
def State.unshedLanes (s : State) (ns : List Nat) : State :=
  s.forEach ns fun s n => (s.onLane n fun l => { l with shed := false }).laneStart n

end Sys2Proof.Machine
end

