-- ==== Sys2Proof/Machine/Frames.lean ====
section
/-! DEFINITION. Barif frames (R270 to R300): frame builders, runs, credits, the two paths and their holding buffers,
memory transactions on the lanes, the events of the link, and the configuration writes that admission judges. -/

namespace Sys2Proof.Machine

/-! ### Sending a frame -/

/-- One more frame of class c (1 to 3) started on path p (R280). -/
def State.useCredit (s : State) (p c : Nat) : State :=
  if c = 0 then s
  else (s.onLnk fun l => { l with sent := l.sent.modify (3 * p + c - 1) fun n => (n + 1) % 65536 }).showCredits p

/-- A copy waits in the holding buffer of 64 frames of its class and path; the oldest is dropped from a full one (R289). -/
def State.holdCopy (s : State) (p : Nat) (f : TxFrame) : State :=
  let k := 2 * f.cls + p
  let q := s.lnk.held.getD k []
  let s := if q.length ≥ 64 then s.satAdd F.LNK_COPY_DROP_COUNT p 1 else s
  let q := if q.length ≥ 64 then q.tail else q
  s.onLnk fun l => { l with held := l.held.set k (q ++ [{ f with path := p }]) }

/-- The next SEQ of a class is taken, and the frame counted (R291, event 0x130 + class). -/
def State.takeSeq (s : State) (c : Nat) : Nat × State :=
  let n := s.rd F.LNK_SEQ_NEXT c
  (n, (s.wr F.LNK_SEQ_NEXT c ((n + 1) % 2 ^ 24)).count (0x130 + c) s.locCx 1)

/-- A path's own copy of an assembled frame goes to a lane, or is discarded and counted when the path has none (R290). -/
def State.sendCopy (s : State) (p : Nat) (f : TxFrame) : State :=
  if s.pathUp p then (s.useCredit p f.cls).assignFrame p f else s.txDiscard f.cls

/-- An assembled frame takes its SEQ and leaves on path p; with both set, the copy for the other path waits in its
holding buffer, or is discarded while that path has no UP lane (R286, R289, R290, R291). locs are the words that hold location
codes (R66). -/
def State.sendFrame (s : State) (p c ftype : Nat) (ws : List LWord) (locs : List Nat) (cut both : Bool) : State :=
  let (seq, s) := s.takeSeq c
  let f : TxFrame :=
    { ftype := ftype, cls := c, seq := seq, path := p, module_ := s.moduleId, words := ws, locs := locs, cut := cut }
  let s := s.sendCopy p f
  if both then (if s.pathUp (1 - p) then s.holdCopy (1 - p) f else s.txDiscard c) else s

/-! ### Which packets a path may take (R287, R288, R290) -/

/-- The path of class 1 or 3 packets that go on one path, after failover: the path named, or the other while the named
one has no UP lane and FAILOVER is set (R290). -/
def State.onePath (s : State) (c named : Nat) : Nat :=
  if !s.pathUp named && s.failover c && s.pathUp (1 - named) then 1 - named else named

/-- The path a packet goes on under a policy that names one path for it, none for both (R287, R288). -/
def State.packetPath (s : State) (c : Nat) (p : Packet) : Option Nat :=
  let pol := s.classPolicy c
  if pol = 0 then none
  else if pol = 1 then some (s.onePath c 0)
  else if pol = 2 then some (s.onePath c 1)
  else
    match pktChannel p with
    | some ch => some (s.onePath c ((s.rd F.LNK_CLASS_POL_SPLIT_MAP).testBit (ch / 8)).toNat)
    | none => some (s.onePath c 0)

/-- The path of sub-queue g, none for both. -/
def State.subPath (s : State) (g : Nat) : Option Nat :=
  let pol := s.classPolicy 2
  if pol = 0 then none else if pol = 1 then some 0 else if pol = 2 then some 1
  else some ((s.rd F.LNK_CLASS_POL_SPLIT_MAP).testBit g).toNat

/-- The path of a packet of queue q, none for both. -/
def State.pathOf (s : State) (q : Nat) (x : Packet) : Option Nat :=
  if classOf q = 2 then s.subPath (q - 4) else s.packetPath (classOf q) x

/-- May path p take the oldest waiting packet of queue q in a DATA frame? -/
def State.headFor (s : State) (p q : Nat) : Bool :=
  match (s.queue q).reading, (s.queue q).waiting with
  | none, x :: _ =>
    let path := s.pathOf q x
    (!s.inMemory (classOf q) || q == 2) && x.dest.isNone && (path.isNone || path == some p)
  | _, _ => false

/-- The queue from which path p takes the next packet of class c at a packet boundary: the priority part first for class
1 (R235), the sub-queues of the path in rotation for class 2 (R284). -/
def State.nextQueue (s : State) (p c : Nat) : Option Nat :=
  if c = 1 then (if s.headFor p 2 then some 2 else if s.headFor p 1 then some 1 else none)
  else if c = 2 then
    let from_ := s.lnk.rot.getD p 0
    ((List.range 8).map fun i => 4 + (from_ + i) % 8).find? fun q => s.headFor p q
  else if s.headFor p 3 then some 3 else none

/-- Is a packet open-sized (R275)? -/
def openSized (q : Nat) (p : Packet) : Bool :=
  let t := pktType p
  if 4 ≤ q then false
  else t == 0x32 || t == 0x35 || t == 0x38 || t == 0x42 || (qData (p.words.headD 0)).toNat / 2 ^ 52 % 16 == 0

/-! ### Assembling a frame of classes 1 to 3 (R236, R238, R276, R278) -/

/-- A frame being assembled: the state, its words and those of them that hold location codes, the index of the first packet
begun in it, the index at which the packet under way began (none if it continues from the frame before), whether it goes on both
paths once a packet has settled that, whether it is cut, and whether it is closed. -/
structure Assembly where
  s : State
  words : List LWord := []
  locs : List Nat := []
  first : Option Nat := none
  start : Option Nat := none
  both : Option Bool := none
  cut : Bool := false
  closed : Bool := false

/-- The frames of the run that class c has open, 0 when none is (R278). -/
def State.runLength (s : State) (c : Nat) : Nat := ((s.lnk.openPath.getD c none).map fun r => r.2.1).getD 0

/-- The class's current packet ends. -/
def State.endCurrent (s : State) (c : Nat) : State := s.onLnk fun l => { l with cur := l.cur.set c none }

/-- Would a packet of n words, begun after w words of the frame being assembled, carry the run beyond 8 frames (R278)?
DEDUCED: log entry 96. -/
def State.runTooLong (s : State) (c w n : Nat) : Bool := decide (32 - w + 32 * (7 - s.runLength c) < n)

/-- The next word of the packet under way of queue q. A cut drops the words of a packet begun in this frame, and complements the
CRC of one begun before (R238). -/
def Assembly.goOn (c q : Nat) (open_ : Bool) (a : Assembly) : Assembly :=
  match a.s.takeWord q with
  | (s, some (w, eop)) =>
    { a with s := if eop then s.endCurrent c else s, words := a.words ++ [w], closed := eop && open_ }
  | (s, none) =>
    let s := s.endCurrent c
    match a.start with
    | some i => { a with s := s, words := a.words.take i, locs := a.locs.filter fun j => decide (j < i), closed := true
                         first := if a.first = some i then none else a.first }
    | none => { a with s := s, cut := true, closed := true }

/-- The next packet begins, in a frame that goes on the same paths as it does; under a policy for one path, the frame closes
before a packet that would carry the run beyond 8 frames (R276, R278, R287). -/
def Assembly.begin_ (p c : Nat) (a : Assembly) : Assembly :=
  match a.s.nextQueue p c with
  | none => { a with closed := true }
  | some q =>
    match (a.s.queue q).waiting with
    | [] => { a with closed := true }
    | x :: _ =>
      let both := a.s.classPolicy c == 0
      let n := a.words.length
      if n ≠ 0 ∧ (a.both.any (fun b => b != both) || (!both && a.s.runTooLong c n x.words.length)) then
        { a with closed := true }
      else
        let s := (a.s.startPacket q).onLnk fun l =>
          { l with cur := l.cur.set c (some (q, openSized q x, both))
                   rot := if c = 2 then l.rot.set p ((q - 4 + 1) % 8) else l.rot }
        { a with s := s, first := a.first.or (some n), start := some n, both := a.both.or (some both)
                 locs := a.locs ++ ((locWordOf (pktType x)).map fun j => n + j).toList }

/-- One move of the assembly of a class c frame on path p: a word of the packet under way, or the next packet begins. -/
def Assembly.move (p c : Nat) (a : Assembly) : Assembly :=
  if a.closed || decide (32 ≤ a.words.length) then { a with closed := true }
  else
    match a.s.lnk.cur.getD c none with
    | some (q, open_, both) => ({ a with both := a.both.or (some both) } : Assembly).goOn c q open_
    | none => a.begin_ p c

/-- The assembly of a frame: at most 32 words, each with at most one packet beginning before it. -/
def assemble (s : State) (p c : Nat) : Assembly :=
  (List.range 66).foldl (fun a _ => a.move p c) { s := s }

/-- The run of R278 after a frame: it goes on while a packet is open. -/
def State.setRun (s : State) (p c : Nat) (both : Bool) : State :=
  let run := if (s.lnk.cur.getD c none).isSome then some (p, s.runLength c + 1, both) else none
  s.onLnk fun l => { l with openPath := l.openPath.set c run }

/-- Does an assembled frame go on both paths? The class 2 policy holds from a packet boundary on, those of class 1 and 3 from a
frame boundary (R287). -/
def Assembly.onBoth (a : Assembly) (s : State) (c : Nat) : Bool :=
  if c = 2 then a.both.getD false else s.classPolicy c == 0

/-- Build a DATA frame of class c on path p and send it; a frame left without words by a cut is not sent (R238, R276). -/
def State.buildData (s : State) (p c : Nat) : State :=
  let a := assemble s p c
  let both := a.onBoth s c
  let s := a.s.setRun p c both
  if a.words.isEmpty && !a.cut then s
  else
    s.sendFrame p c (match a.first with | some i => 0x80 + i | none => 0xBF) a.words
      (a.locs.filter fun j => decide (j < a.words.length)) a.cut both

/-- The path on which the packet under way of class c may go on, none for both: of class 2 as its sub-queue's policy stands, of
class 1 and 3 as its own (R287, R290). -/
def State.currentPath (s : State) (c : Nat) : Option Nat :=
  match s.lnk.cur.getD c none with
  | some (q, _, both) =>
    if c = 2 ∧ both then none
    else match (s.queue q).reading with
      | some x => s.pathOf q x
      | none => none
  | none => none

/-- Is a run of the class open on the other path, so that its frames wait (R278)? A packet goes on where it began, as R276 has it,
unless the frames of its run went on both paths, or its path has lost its last lane and its policy names this one (R290,
R299). -/
def State.runElsewhere (s : State) (p c : Nat) : Bool :=
  match s.lnk.openPath.getD c none with
  | some (r, _, both) =>
    if both || (!s.pathUp r && (s.currentPath c).isSome) then (s.currentPath c).any fun t => t != p else r != p
  | none => false

/-- Is the builder of class c on path p ready to assemble a frame (R236, R284, R285)? -/
def State.dataReady (s : State) (p c : Nat) : Bool :=
  if s.runElsewhere p c then false
  else
    match s.lnk.cur.getD c none with
    | some (q, _) =>
      s.queueReady q || decide (4 ≤ q) || q == 2 || (c == 1 && !(s.queue 2).waiting.isEmpty) || (s.queue q).reading.isNone
    | none =>
      match s.nextQueue p c with
      | none => false
      | some q => q == 2 || s.queueReady q

/-- Class 1 to 3 on path p: a held copy first, then a frame assembled from the queue, each with a credit; none when the
class has nothing to start (R280, R284, R289). -/
def State.tryData (s : State) (p c : Nat) : Option State :=
  if s.credit p c = 0 then none
  else
    match s.lnk.held.getD (2 * c + p) [] with
    | f :: rest => some ((s.onLnk fun l => { l with held := l.held.set (2 * c + p) rest }).sendCopy p f)
    | [] => if s.dataReady p c then some (s.buildData p c) else none

/-- A class 1 start that waits for credit is counted once, be it of DATA or of a memory transaction (R283, R300, R340). -/
def State.noteCreditWait (s : State) (p : Nat) (memory : Bool) : State :=
  let starts := !(s.lnk.held.getD (2 + p) []).isEmpty || s.dataReady p 1 || memory
  let waits := s.pathUp p && s.credit p 1 == 0 && starts
  let s := if waits && !s.lnk.waited.getD p false then s.satAdd F.LNK_CREDIT_WAIT_COUNT 0 1 else s
  s.onLnk fun l => { l with waited := l.waited.set p waits }

/-- A TIME frame goes on lane 0 or 12 of its path alone: with that lane not UP it is discarded (R309). -/
def State.timeLost (s : State) (p : Nat) (ftype : Nat) : Bool := ftype == 0x08 && !s.laneUp (12 * p)

/-- The class 0 items at the head of the queue that path p does not carry leave it: an item of the other path alone waits in that
path's holding buffer, a cut one is dropped, and a TIME frame whose lane is not UP is discarded and counted (R238, R284, R289,
R309). -/
def State.clearHead (s : State) (p : Nat) : State :=
  match (s.queue 0).waiting with
  | [] => s
  | x :: _ =>
    let t := x.only.getD p
    let r := (s.startPacket 0).takePacket 0 (x.words.length + 1)
    if r.2.length < x.words.length then r.1
    else if s.timeLost t x.ftype then r.1.txDiscard 0
    else if t = p then s
    else
      let (seq, s) := r.1.takeSeq 0
      let f : TxFrame := { ftype := x.ftype, cls := 0, seq := seq, path := t, module_ := s.moduleId, words := r.2 }
      if s.pathUp t then s.holdCopy t f else s.txDiscard 0

/-- Every such item leaves the queue, and held TIME frames whose lane is not UP with them. -/
def State.clearClass0 (s : State) (p : Nat) : State :=
  let lost := (s.lnk.held.getD p []).filter fun f => s.timeLost p f.ftype
  let s := s.onLnk fun l => { l with held := l.held.modify p fun q => q.filter fun f => !s.timeLost p f.ftype }
  let s := s.forEach lost fun s _ => s.txDiscard 0
  s.forEach (s.queue 0).waiting fun s _ => s.clearHead p

/-- Has path p a class 0 frame to start? -/
def State.class0Ready (s : State) (p : Nat) : Bool := !(s.lnk.held.getD p []).isEmpty || !(s.queue 0).waiting.isEmpty

/-- Class 0 on path p, with the slot of lane 0 or 12 free or else a lane with room: a held copy first, then the oldest item. A
TIME or SAFETY item of one path goes on that path alone (R30, R284, R286, R289). DEDUCED: log entry 30. -/
def State.tryClass0 (s : State) (p : Nat) : Option State :=
  if !(if s.laneUp (12 * p) then s.slotRoom (12 * p) else !(s.roomy p).isEmpty) then none
  else
    match s.lnk.held.getD p [], (s.queue 0).waiting with
    | f :: rest, _ => some ((s.onLnk fun l => { l with held := l.held.set p rest }).sendCopy p f)
    | [], x :: _ =>
      let r := (s.startPacket 0).takePacket 0 (x.words.length + 1)
      let locs := if x.ftype = 0x80 then (locWordOf (pktType x)).toList else []
      some (r.1.sendFrame p 0 x.ftype r.2 locs false x.only.isNone)
    | [], [] => none

/-! ### Memory transactions on the lanes (R294, R295, R340) -/

/-- Payload of a memory transaction (R294). -/
def memPayload (x : MemTx) : List LWord := BitVec.ofNat 64 (x.addr / 8 * 8) :: x.data

/-- May a memory transaction go on path p: a status slot waits for the records and entries that it counts (R341, guarantee
4); a read waits while 64 are outstanding on the path (R295); during a change of path only its own poll goes (R342). -/
def State.memMay (s : State) (p : Nat) (x : MemTx) : Bool :=
  (decide (x.key < 100 ∨ 200 ≤ x.key) || !((s.lnk.mem.takeWhile fun y => decide (y ≠ x)).any fun y => y.key + 100 == x.key))
    && (x.ftype != 0x21 || decide ((s.lnk.reads.filter fun r => r.path == p).length < 64))
    && (!s.prm.paused || (s.prm.resuming && decide (200 ≤ x.key)))

/-- The payload of a transaction that goes: a read takes the next TAG and is outstanding from now on (R294). -/
def State.memGo (s : State) (p : Nat) (x : MemTx) : State × List LWord :=
  if x.ftype = 0x21 then
    let t := s.lnk.nextTag
    let n := (x.data.headD 0).toNat % 64
    (s.onLnk fun l =>
      { l with nextTag := (t + 1) % 65536
               reads := l.reads ++ [{ path := p, tag := t, addr := x.addr, count := n, at_ := s.clk.count, purpose := x.key }] },
     memPayload { x with data := [word64 [(48, t), (0, n)]] })
  else (s.onPrm fun r => { r with lastWrite := s.clk.count }, memPayload x)

/-- The oldest memory transaction of a class position that may go on path p, the path in use, at a class 1 packet boundary
(R340). -/
def State.memNext (s : State) (p : Nat) (pos : Nat) : Option MemTx :=
  if s.prm.path ≠ p ∨ (s.lnk.cur.getD 1 none).isSome then none
  else s.lnk.mem.find? fun x => x.pos == pos && s.memMay p x

/-- It starts, with class 1 credit (R340). -/
def State.tryMem (s : State) (p pos : Nat) : Option State :=
  if s.credit p 1 = 0 then none
  else
    (s.memNext p pos).map fun x =>
      let r := (s.onLnk fun l => { l with mem := l.mem.erase x }).memGo p x
      r.1.sendFrame p 1 x.ftype r.2 (x.locs.map fun j => j + 1) false false

/-! ### A chance on a path (R284, R290) -/

/-- The first alternative that has something to do. -/
def firstOf (s : State) : List (Option State) → State
  | [] => s
  | some t :: _ => t
  | none :: rest => firstOf s rest

/-- A path without an UP lane: frames of class 1 and 3 that go on it alone without failover, and frames of classes 1 to 3 that go
on both paths while neither has a lane, are assembled, discarded and counted; class 0 and class 2 on one path stay in their
queues (R290). -/
def State.discardPath (s : State) (p : Nat) : State :=
  s.forEach [1, 2, 3] fun s c =>
    let both := match c, s.lnk.cur.getD 2 none with
      | 2, some (_, _, b) => b
      | _, _ => s.classPolicy c == 0
    if (both && !s.pathUp (1 - p)) || (!both && c != 2 && !s.failover c) then
      (if s.dataReady p c then s.buildData p c else s)
    else s

/-- The builders of path p in class order, and the first that is ready starts its frame (R284). Classes 1 to 3 need a lane with
room (R236). -/
def State.chance (s : State) (p : Nat) : State :=
  let s := s.clearClass0 p
  let on := fun (t : Option State) => if (s.roomy p).isEmpty then none else t
  firstOf s [s.tryClass0 p, on (s.tryData p 1), on (s.tryMem p 1), on (s.tryData p 2), on (s.tryMem p 2), on (s.tryData p 3),
    on (s.tryMem p 3)]

/-- FRAME_START: at a chance on path p, which comes when a lane of it has room, the frame builders are served in class order, and
the first that is ready starts its frame (R284, R286). The data-ring writer takes what it may first (R337). With module ID 0
nothing is sent (R21). -/
def State.doFrameStart (s : State) (p : Nat) : State :=
  if s.moduleId = 0 then s
  else
    let s := (s.runPath p).awaitRoom p (s.class0Ready p)
    let s := (if s.prm.paused then s else s.catchStatus).memService
    let s := s.noteCreditWait p ([1, 2, 3].any fun pos => (s.memNext p pos).isSome)
    if !s.pathUp p then s.discardPath p else (s.chance p).postAll

/-- LINGER_EXPIRY: the oldest ready word of class 1 or 3 has waited its linger time, and a part-filled frame, or write in
memory delivery, may start (R236, R237). -/
def State.doLingerExpiry (s : State) (c : Nat) : State :=
  let q := if c = 1 then 1 else 3
  match (s.queue q).oldest with
  | some n => ((s.toCount (n + s.linger c)).runLanes).memService
  | none => s

/-! ### Credits (R281, R282) -/

/-- CREDIT_FRAME: the cumulative limits of a path (R281). -/
def State.doCreditFrame (s : State) (p : Nat) (w : LWord) : State :=
  let v := w.toNat
  ((s.onLnk fun l =>
    { l with limit := ((l.limit.set (3 * p) (v / 2 ^ 48)).set (3 * p + 1) (v / 2 ^ 32 % 65536)).set (3 * p + 2) (v / 2 ^ 16 % 65536) }).wr
      F.LNK_CREDIT_STAT_WAITING p 0).showCredits p

/-- CREDIT_SEND: the module sends a CREDIT frame that grants 64 class 1 frames beyond those taken, as a link-control
frame without sequence number or credit (R274, R282). -/
def State.doCreditSend (s : State) (p : Nat) : State :=
  if s.moduleId = 0 then s
  else
    let s := (s.runPath p).awaitRoom p false
    match s.earliestLane p with
    | none => s
    | some n =>
      let limit := (s.lnk.taken.getD p 0 + 64) % 65536
      let f : TxFrame :=
        { ftype := 0x01, cls := 0, seq := 0, path := p, module_ := s.moduleId, words := [word64 [(48, limit)]] }
      (s.putOnLane n f).onLnk fun l =>
        { l with granted := l.granted.set p limit, creditAt := l.creditAt.set p s.clk.count }

/-! ### Configuration writes -/

/-- Every lane of a path goes OFF, as at a rate change (R267). -/
def State.stopPath (s : State) (p : Nat) : State :=
  s.forEach ((List.range 12).map fun i => 12 * p + i) fun s n => if s.laneUp n then s.leaveUp n 0 true else s.laneOff n

/-- Lanes of a path that may run start BRINGUP (R267). -/
def State.startPath (s : State) (p : Nat) : State :=
  s.forEach ((List.range 12).map fun i => 12 * p + i) State.laneStart

/-- TIM_LAT takes the values that production measured for a new lane rate (R312). -/
def State.loadLat (s : State) (p : Nat) : State :=
  let v := Config.laneLatency (s.pathRate p)
  (s.wr F.TIM_LAT_TX_UI p v.1).wr F.TIM_LAT_RX_UI p v.2

/-- LANE_SET_CHANGE by a write of LNK_PATH_CFG: a rate code of 3 is refused with a configuration fault, and admission may
refuse a rate change; an accepted one moves every lane of its path through OFF and BRINGUP (R267). IDLE_US above 1000
stores 1000 (R269). DEDUCED: log entry 31. -/
def State.writePathCfg (s : State) (w : Word) : State :=
  let a := getField w 0 2
  let b := getField w 2 2
  let s0 := s
  let s := s.wr F.LNK_PATH_CFG_IDLE_US 0 (min 1000 (getField w 8 10))
  if a = 3 ∨ b = 3 then s.configFault s.locCx F.LNK_PATH_CFG
  else
    s.judge (AdmitCfg.refusedBy { s.admitCfg with rateA := a, rateB := b } s.clk.fs)
      (fun s p => if a = s0.rd F.LNK_PATH_CFG_RATE_A ∧ b = s0.rd F.LNK_PATH_CFG_RATE_B then s else s.admitFault p)
      fun s =>
      let changed := (if a = s0.rd F.LNK_PATH_CFG_RATE_A then [] else [0]) ++ (if b = s0.rd F.LNK_PATH_CFG_RATE_B then [] else [1])
      let s := s.forEach changed State.stopPath
      let s := (s.wr F.LNK_PATH_CFG_RATE_A 0 a).wr F.LNK_PATH_CFG_RATE_B 0 b
      s.forEach changed fun s p => ((s.loadLat p).startPath p).dropRound p

/-- LANE_SET_CHANGE by a write of LNK_LANE_CTL[n]: EN and S1_KEEP of lanes 0 and 12 read 1 and ignore writes (R265, R269);
a change of EN is judged by admission; RETRAIN acts under R261. -/
def State.writeLaneCtl (s : State) (n : Nat) (w : Word) : State :=
  let fixed := n == 0 || n == 12
  let en := if fixed then 1 else getField w 0 1
  let old := s.rd F.LNK_LANE_CTL_EN n
  let s := (s.wr F.LNK_LANE_CTL_TX_INV n (getField w 1 1)).wr F.LNK_LANE_CTL_RX_INV n (getField w 2 1)
  let s := s.wr F.LNK_LANE_CTL_S1_KEEP n (if fixed then 1 else getField w 3 1)
  let c := s.admitCfg
  let lanes := if en = 1 then c.lanes ||| 2 ^ n else c.lanes - (if c.lanes.testBit n then 2 ^ n else 0)
  let s :=
    if en = old then s
    else
      s.judge (AdmitCfg.refusedBy { c with lanes := lanes } s.clk.fs) State.admitFault fun s =>
        let s := s.wr F.LNK_LANE_CTL_EN n en
        if en = 1 then s.laneStart n else (if s.laneUp n then s.leaveUp n 0 true else s.laneOff n)
  if getField w 4 1 = 1 then s.doRetrain n else s

/-- CLASS_POLICY_WRITE: a class 2 change is judged by admission, and a refused write leaves the whole register as it was
(R287). -/
def State.doClassPolicyWrite (s : State) (w : Word) : State :=
  let p2 := getField w 2 2
  let sm := getField w 16 8
  let changed := p2 ≠ s.rd F.LNK_CLASS_POL_C2_POL ∨ sm ≠ s.rd F.LNK_CLASS_POL_SPLIT_MAP
  let verdict := if changed then AdmitCfg.refusedBy { s.admitCfg with policy := p2, split := sm } s.clk.fs else none
  s.judge verdict State.admitFault fun s =>
    let s := ((s.wr F.LNK_CLASS_POL_C1_POL 0 (getField w 0 2)).wr F.LNK_CLASS_POL_C2_POL 0 p2).wr
      F.LNK_CLASS_POL_C3_POL 0 (getField w 4 2)
    ((s.wr F.LNK_CLASS_POL_C1_FAILOVER 0 (getField w 8 1)).wr F.LNK_CLASS_POL_C3_FAILOVER 0 (getField w 9 1)).wr
      F.LNK_CLASS_POL_SPLIT_MAP 0 sm

end Sys2Proof.Machine
end

