-- ==== Sys2Proof/Machine/Prompter.lean ====
section
/-! DEFINITION. The Prompter (R326 to R345): COMMIT, polls and nudges, ring errors, the fetching and starting of commands,
the answers of host memory (R294, R295) and a change of the memory path (R342). Commands that reach registers are in Bus. -/

namespace Sys2Proof.Machine

/-! ### Event records and ring errors (R329, R339) -/

/-- A Prompter event record (R339). -/
def State.prmEvent (s : State) (kind r err w2 : Nat) : State :=
  s.push 1
    [ word64 [(56, 0x19), (52, 3), (48, kind), (42, r), (39, err), (0, s.locCx)], word64 [(16, s.nowT48)], BitVec.ofNat 64 w2 ]

/-- Codes of PRM_RING_STAT.ERR (R346). -/
def errBadIndex : Nat := 1
def errBadCpl : Nat := 2
def errRead : Nat := 3
def errWrite : Nat := 4

/-- A ring stops with an error; its record carries the index as read (R329, R339). -/
def State.stopPrmRing (s : State) (r err index : Nat) : State :=
  (((s.wr F.PRM_RING_STAT_STOPPED r 1).wr F.PRM_RING_STAT_ERR r err).flag F.PRM_EVT 1).prmEvent 1 r err index

/-- The index of a doorbell answer is checked and taken (R329): idx is PI of a command ring and CI of any other. A stopped ring
takes it only on a RESUME. -/
def State.takeIndex (s : State) (r idx : Nat) : State :=
  let x := s.ring r
  let stopped := s.ringStopped r
  let valid := decide ((if r < 8 then idxDiff idx x.head else idxDiff x.head idx) ≤ s.ringLen r)
  if !s.ringEn r || (stopped && !x.resume) then s
  else if valid then
    let s := s.onRing r fun x => { x with tail := idx, resume := false }
    if stopped then (s.wr F.PRM_RING_STAT_STOPPED r 0).wr F.PRM_RING_STAT_ERR r 0 else s
  else if stopped then s.onRing r fun x => { x with resume := false }
  else s.stopPrmRing r errBadIndex idx

/-- RING_RESUME: a write of PRM_RING_CMD with RESUME names the ring to restart (R329). -/
def State.doRingResume (s : State) (r : Nat) : State :=
  if s.ringStopped r then s.onRing r fun x => { x with resume := true } else s

/-! ### COMMIT (R330) -/

/-- SIZE of a ring lies in its range (R327). -/
def sizeOk (r size : Nat) : Bool := if r < 16 then decide (4 ≤ size ∧ size ≤ 16) else decide (16 ≤ size ∧ size ≤ 30)

/-- Is one of n rings from r on disabled? -/
def State.someOff (s : State) (r n : Nat) : Bool := (List.range n).any fun i => !s.ringEn (r + i)

/-- COMMIT_ERR of a COMMIT write: the lowest code that applies, 0 for none (R330). -/
def State.commitErr (s : State) : Nat :=
  let db := s.rd F.PRM_DB_BASE_LO_ADDR + s.rd F.PRM_DB_BASE_HI_ADDR
  let st := s.rd F.PRM_ST_BASE_LO_ADDR + s.rd F.PRM_ST_BASE_HI_ADDR
  let c2 := s.rdB F.PRM_DELIVERY_C2_MEM
  if s.moduleId = 0 then 1
  else if db = 0 ∨ st = 0 then 2
  else if (List.range 36).any fun r => s.ringEn r && !sizeOk r (s.rd F.PRM_RING_CFG_SIZE r) then 3
  else if ((List.range 8).any fun r => s.ringEn r) && ((List.range 8).all fun r => !s.ringEn (8 + r)) then 4
  else if (s.rdB F.PRM_DELIVERY_C1_MEM && s.someOff 32 4) || (c2 && s.someOff 16 8)
      || (s.rdB F.PRM_DELIVERY_C3_MEM && s.someOff 24 8) then 5
  else if c2 && AdmitCfg.exceeds { s.admitCfg with inMem := true } s.clk.fs (s.rd F.LNK_MEM_CFG_PATH) then 6
  else 0

/-- The poll interval in force in sample periods: at least 100 us from stage S1 on (R331). -/
def State.pollInterval (s : State) : Nat :=
  let ns := 10 * s.rd F.PRM_POLL_INTERVAL
  s.samplesNs (if 1 ≤ s.stage then max ns 100000 else ns)

/-- The memory path that the configuration and the lanes give (R290, R295). -/
def State.wantedPath (s : State) : Nat :=
  let p := s.rd F.LNK_MEM_CFG_PATH
  if s.rdB F.LNK_MEM_CFG_MEM_FAILOVER && !s.pathUp p && s.pathUp (1 - p) then 1 - p else p

/-- COMMIT: a write of PRM_CTL.COMMIT checks the set-up, and an accepted one locks it and starts polling (R330). -/
def State.doCommit (s : State) : State :=
  if s.rdB F.PRM_STAT_COMMITTED then s
  else
    let e := s.commitErr
    let s := s.wr F.PRM_STAT_COMMIT_ERR 0 e
    if e ≠ 0 then s
    else
      let s := (s.wr F.PRM_STAT_COMMITTED 0 1).wrB F.PRM_STAT_POLLING 0 (decide (s.stage < 4))
      s.onPrm fun p => { p with path := s.wantedPath, lastPoll := none, pollAt := none }

/-! ### Polls and nudges (R331, R332) -/

/-- Base address of the doorbell page. -/
def State.dbBase (s : State) : Nat := s.rd F.PRM_DB_BASE_LO_ADDR * 4096 + s.rd F.PRM_DB_BASE_HI_ADDR * 2 ^ 32

/-- A read of host memory waits to be framed (R294, R340). DESIGN CHOICE: log entry 32. -/
def State.memRead (s : State) (key addr n : Nat) : State :=
  s.memPush { pos := 1, ftype := 0x21, addr := addr, data := [BitVec.ofNat 64 n], key := key }

/-- May a poll start: committed, none running, not shed, an ID assigned, and for the first poll a lane of the path UP (R21, R330,
R331)? -/
def State.mayPoll (s : State) : Bool :=
  s.rdB F.PRM_STAT_COMMITTED && s.rdB F.PRM_STAT_POLLING && s.prm.pollAt.isNone && s.moduleId != 0
    && (s.prm.lastPoll.isSome || s.pathUp s.prm.path) && (!s.prm.paused || s.prm.resuming)

/-- A poll starts now: two reads of 18 words each (R331). -/
def State.startPoll (s : State) : State :=
  let s := s.onPrm fun p =>
    { p with pollAt := some s.clk.count, lastPoll := some s.clk.count, answers := [none, none], nudge := false }
  (s.memRead 200 s.dbBase 18).memRead 201 (s.dbBase + 0x90) 18

/-- POLL_START: INTERVAL after the start of the previous poll and after its completion, a poll starts; one that a nudge waits
for starts at once (R331, R332). -/
def State.doPollStart (s : State) : State :=
  if s.mayPoll then
    (match s.prm.lastPoll with
     | some n => if s.prm.nudge then s else s.toCount (n + s.pollInterval)
     | none => s).startPoll
  else s

/-- NUDGE: an accepted NUDGE frame starts a poll, or has one start when the running one completes (R332). -/
def State.doNudge (s : State) : State :=
  if s.mayPoll then s.startPoll
  else if s.rdB F.PRM_STAT_COMMITTED then s.onPrm fun p => { p with nudge := true }
  else s

/-- The poll fails: POLL_FAIL_SEEN, and after 8 in a row an event record and an incident (R331). -/
def State.pollFailed (s : State) : State :=
  let n := s.prm.failRun + 1
  let s := s.onPrm fun p => { p with pollAt := none, answers := [none, none], failRun := n }
  let s := (s.onLnk fun l =>
    { l with mem := l.mem.filter fun x => x.key != 200 && x.key != 201
             reads := l.reads.map fun r => if r.purpose = 200 ∨ r.purpose = 201 then { r with purpose := 299 } else r }).flag
      F.PRM_EVT 0
  if n = 8 then (s.prmEvent 2 0 0 n).report 0x3004 s.locCx s.prm.path else s

/-! ### Fetching (R333) -/

/-- Descriptors of ring r that have been fetched and not completed. -/
def State.inFlight (s : State) (r : Nat) : Nat := (s.prm.cmds.filter fun c => c.ring == r).length

/-- The next descriptors of command ring r are read, up to 7, within the ring and the limit of 1024 in flight (R333). One read
of a ring is under way at a time. -/
def State.fetchRing (s : State) (r : Nat) : State :=
  let x := s.ring r
  let busy := (s.lnk.mem.any fun y => y.key == 210 + r) || (s.lnk.reads.any fun y => y.purpose == 210 + r)
  let off := x.head % s.ringLen r
  let n := min (min 7 (idxDiff x.tail x.head)) (min (s.ringLen r - off) (1024 - s.inFlight r))
  if !s.ringEn r || s.ringStopped r || busy || n == 0 || s.prm.paused || !s.rdB F.PRM_STAT_POLLING then s
  else s.memRead (210 + r) (s.ringBase r + 32 * off) (4 * n)

/-- Every command ring fetches. -/
def State.fetchAll (s : State) : State := s.forEach (List.range 8) State.fetchRing

/-! ### Starting commands (R333 to R335, R341) -/

/-- The head of command ring r: its oldest command not yet started. -/
def State.ringHead (s : State) (r : Nat) : Option PCmd := s.prm.cmds.find? fun c => c.ring == r && !c.started

/-- Can a head start (R223, R333, R334)? -/
def State.canStart (s : State) (c : PCmd) : Bool :=
  if c.opcode = 0x01 then (s.prm.cmds.find? fun d => d.ring == c.ring) == some c
  else if c.opcode = 0x20 then decide ((s.codec.filter fun j => !j.running).length < 16)
  else true

/-- The command whose turn comes: the head that can start of the first ring in rotation that has one (R333).
DEDUCED: log entry 33. -/
def State.nextCmd (s : State) : Option PCmd :=
  ((List.range 8).filterMap fun i => s.ringHead ((s.prm.turn + i) % 8)).find? s.canStart

/-- A command starts, and the turn passes to the next ring (R333). -/
def State.startCmd (s : State) (c : PCmd) : State :=
  s.onPrm fun p =>
    { p with turn := (c.ring + 1) % 8
             cmds := p.cmds.map fun d => if d.ring = c.ring ∧ d.idx = c.idx then { d with started := true } else d }

/-- The opcodes of R334. -/
def knownOpcodes : List Nat := [0x00, 0x01, 0x02, 0x03, 0x04, 0x10, 0x20]

/-- Does COMPL_RING name a completion ring in use (R335)? -/
def State.cplOk (s : State) (c : PCmd) : Bool := decide (c.cpl < 8) && s.ringEn (8 + c.cpl)

/-- Commands whose turn comes and that are not executed are served: BAD_CPL stops the ring and drops the descriptor, BAD_OPCODE
completes (R335). -/
def State.serveBad (s : State) : Nat → State
  | 0 => s
  | fuel + 1 =>
    match s.nextCmd with
    | none => s
    | some c =>
      if !s.cplOk c then
        let s := (s.startCmd c).onPrm fun p => { p with cmds := p.cmds.filter fun d => !(d.ring == c.ring && d.idx == c.idx) }
        ((s.showFlight c.ring).stopPrmRing c.ring errBadCpl (s.ring c.ring).tail).serveBad fuel
      else if !knownOpcodes.contains c.opcode then ((s.startCmd c).finishCmd c.ring c.idx 0 15 0 0).serveBad fuel
      else s

/-- Every such command is served. -/
def State.serve (s : State) : State := s.serveBad (s.prm.cmds.length + 1)

/-- The command whose turn comes, if it has an opcode. -/
def State.turnOf (s : State) (op : Nat) : Option PCmd :=
  match s.nextCmd with
  | some c => if c.opcode = op then some c else none
  | none => none

/-- NOP: completes with DONE (R334). -/
def State.doNop (s : State) : State :=
  match s.turnOf 0x00 with
  | some c => ((s.startCmd c).finishCmd c.ring c.idx 0 0 0 0).serve
  | none => s

/-- FENCE: starts once every earlier command of its ring has its completion written, and completes (R334). -/
def State.doFence (s : State) : State :=
  match s.turnOf 0x01 with
  | some c => ((s.startCmd c).finishCmd c.ring c.idx 0 0 0 0).serve
  | none => s

/-- INJECT: requests an injected conversion (R119, R334). -/
def State.doPrmInject (s : State) (ns : Nat) : State :=
  match s.turnOf 0x10 with
  | some c =>
    let w := (c.words.getD 1 0).toNat
    let x : Inject := { ch := w % 64, signal := (w / 64 % 8, w / 512 % 1024, w / 2 ^ 19 % 4), prm := some (c.ring, c.idx) }
    ((s.startCmd c).requestInject x ns).serve
  | none => s

/-- CODEC: queues a codec job for the L engines (R217, R223). -/
def State.doPrmCodec (s : State) : State :=
  match s.turnOf 0x20 with
  | some c =>
    let s := s.startCmd c
    let j : CJob := { ring := c.ring, idx := c.idx, words := c.words }
    ({ s with codec := s.codec ++ [j] }).showCodec.serve
  | none => s

/-! ### Answers of host memory (R294, R295, R331, R333, R345) -/

/-- The descriptors of an answer enter the cache, and FI is published (R333, R341). -/
def State.takeDescriptors (s : State) (r n : Nat) (ws : List LWord) : State :=
  let i0 := (s.ring r).head
  let cmds := (List.range n).map fun i => ({ ring := r, idx := (i0 + i) % 2 ^ 64, words := (ws.drop (4 * i)).take 4 } : PCmd)
  let s := s.onPrm fun p => { p with cmds := p.cmds ++ cmds }
  let s := s.onRing r fun x => { x with head := (i0 + n) % 2 ^ 64 }
  (((s.writeStatus r).showFlight r).serve).fetchRing r

/-- MEM_RD_DATA: an answer delivers data for its outstanding read; any other one is rejected. A nonzero STATUS sets ERR_SEEN
(R294, R299, R300, R331, R333). -/
def State.doMemRdData (s : State) (lane tag status : Nat) (ws : List LWord) : State :=
  match s.lnk.reads.find? fun r => r.path == lane / 12 && r.tag == tag with
  | none => s.rejectFrame lane
  | some r =>
    let s := s.onLnk fun l => { l with reads := l.reads.erase r }
    let s := if status = 0 then s else s.flag F.LNK_MEM_EVT 1
    if r.purpose = 200 ∨ r.purpose = 201 then
      if status ≠ 0 then s.pollFailed
      else s.onPrm fun p => { p with answers := p.answers.set (r.purpose - 200) (some ws) }
    else if r.purpose < 299 then
      let ring := r.purpose - 210
      if status ≠ 0 then s.stopPrmRing ring errRead (s.ring ring).tail else s.takeDescriptors ring (r.count / 4) ws
    else s

/-- The slots rewritten and the records emitted on the new path (R342, steps 4 and 5). -/
def State.finishPathChange (s : State) : State :=
  let span := s.samplesUs (s.rd F.LNK_MEM_CFG_TIMEOUT_US)
  let since := s.prm.changeAt - span
  let s := s.onPrm fun p => { p with paused := false, resuming := false }
  let s := s.forEach (s.prm.entries.filter fun e => decide (since ≤ e.2.2.2)) fun s e =>
    if idxDiff e.2.1 (s.ring e.1).tail < 2 ^ 63 then s.memWrite 1 e.1 (s.ringBase e.1 + e.2.1 % s.ringLen e.1 * 16) e.2.2.1 else s
  let s := s.forEach ((List.range 36).filter fun r => s.ringEn r) State.pushStatus
  let s := s.forEach ((List.range 20).map fun i => 16 + i) fun s r =>
    match (s.ring r).recent.find? fun e => decide (since ≤ e.1 ∧ e.1 ≤ s.prm.changeAt) with
    | some e => s.prmEvent 3 r 0 e.2
    | none => s
  s.flag F.PRM_EVT 2

/-- POLL_COMPLETE: both answers have arrived: the indices are checked and taken, waiting writes go on, and descriptors are fetched
(R329, R331, R333); the poll of a change of path ends it (R342). -/
def State.doPollComplete (s : State) : State :=
  match s.prm.pollAt, s.prm.answers with
  | some _, [some a, some b] =>
    let ws := a ++ b
    let s := (s.satAdd F.PRM_POLL_TOTAL_COUNT 0 1).onPrm fun p =>
      { p with pollAt := none, answers := [none, none], failRun := 0 }
    let s := s.conditionOverAt 0x3004 s.locCx s.prm.path
    let s := s.forEach (List.range 36) fun s r => s.takeIndex r (ws.getD r 0).toNat
    let s := if s.prm.resuming then s.finishPathChange else s
    ((s.postAll).memService).fetchAll
  | _, _ => s

/-- A read has had no answer for TIMEOUT_US (R295). -/
def State.readTimedOut (s : State) (path : Nat) : State := (s.flag F.LNK_MEM_EVT 0).report 0x3003 s.locCx path

/-- The poll under way has a read that has not been sent. -/
def State.pollUnsent (s : State) : Bool := s.lnk.mem.any fun x => x.key == 200 || x.key == 201

/-- MEM_READ_TIMEOUT: the oldest read, outstanding or of a poll that no lane has taken, has had no answer for TIMEOUT_US: it is
retired and reported (R295, R331). A descriptor read is repeated after the next poll. -/
def State.doMemReadTimeout (s : State) : State :=
  let span := s.samplesUs (s.rd F.LNK_MEM_CFG_TIMEOUT_US)
  let late := if s.pollUnsent then s.prm.pollAt else none
  match s.lnk.reads, late with
  | r :: rest, none =>
    let s := ((s.toCount (r.at_ + span)).onLnk fun l => { l with reads := rest }).readTimedOut r.path
    if r.purpose = 200 ∨ r.purpose = 201 then s.pollFailed else s
  | r :: rest, some n =>
    if r.at_ < n then
      let s := ((s.toCount (r.at_ + span)).onLnk fun l => { l with reads := rest }).readTimedOut r.path
      if r.purpose = 200 ∨ r.purpose = 201 then s.pollFailed else s
    else ((s.toCount (n + span)).readTimedOut s.prm.path).pollFailed
  | [], some n => ((s.toCount (n + span)).readTimedOut s.prm.path).pollFailed
  | [], none => s

/-- The ring whose entries, records or status slot hold an address of host memory. -/
def State.ringAt (s : State) (a : Nat) : Option Nat :=
  let st := s.rd F.PRM_ST_BASE_LO_ADDR * 4096 + s.rd F.PRM_ST_BASE_HI_ADDR * 2 ^ 32
  if st ≤ a ∧ a < st + 288 then some ((a - st) / 8)
  else ((List.range 28).map fun i => 8 + i).find? fun r =>
    s.ringEn r && decide (s.ringBase r ≤ a ∧ a < s.ringBase r + s.ringLen r * (if r < 16 then 16 else 1))

/-- A failed write at an address of a ring, or of a command's output (R335, R345). -/
def State.writeFailed (s : State) (addr : Nat) (ring : Option Nat) : State :=
  match ring with
  | some r => s.stopPrmRing r errWrite (s.ring r).tail
  | none => s.onPrm fun p =>
    { p with cmds := p.cmds.map fun c => if c.outputs addr 1 then { c with status := 14 } else c }

/-- MEM_WR_ERR: a failed write stops the ring whose record, entry or slot it carried, or marks the command whose output it was
(R335, R345). One with STATUS 0 reports no failure (R294, R300). -/
def State.doMemWrErr (s : State) (addr status : Nat) : State :=
  if status = 0 then s
  else
    let s := s.flag F.LNK_MEM_EVT 1
    s.writeFailed addr (s.ringAt addr)

/-! ### Change of the memory path (R342) -/

/-- MEM_PATH_CHANGE: the path that the configuration and the lanes give is not the one in use: the Prompter stops issuing memory
transactions (R342, step 1). Reads not yet sent are dropped. -/
def State.doMemPathChange (s : State) : State :=
  if s.rdB F.PRM_STAT_COMMITTED && !s.prm.paused && s.wantedPath != s.prm.path then
    let unsent := s.lnk.mem.any fun x => x.key == 200 || x.key == 201
    let s := s.onPrm fun p =>
      { p with paused := true, resuming := false, changeAt := s.clk.count, pollAt := if unsent then none else p.pollAt }
    s.onLnk fun l =>
      { l with mem := l.mem.filter fun x => x.ftype != 0x21
               reads := l.reads.map fun r => if unsent ∧ r.purpose < 210 then { r with purpose := 299 } else r }
  else s

/-- MEM_PATH_RESUME: with the old path's reads retired and TIMEOUT_US passed since its last write, a poll starts on the new path
(R342, steps 2 and 3); its completion ends the change. -/
def State.doMemPathResume (s : State) : State :=
  if s.prm.paused && !s.prm.resuming && (s.lnk.reads.all fun r => r.path != s.prm.path) then
    let s := s.toCount (s.prm.lastWrite + s.samplesUs (s.rd F.LNK_MEM_CFG_TIMEOUT_US))
    (s.onPrm fun p => { p with path := s.wantedPath, resuming := true, pollAt := none }).startPoll
  else s

/-! ### Shedding and restart (R345) -/

/-- The Prompter stops at stage S4: every fetched command completes (R345). -/
def State.prmShed (s : State) : State :=
  let s := s.stopJobs 2
  let s := s.forEach s.prm.cmds fun s c =>
    if c.finished then s
    else if !c.started && c.opcode == 0x20 then s.finishCmd c.ring c.idx (c.words.getD 1 0) 2 0 0
    else s.finishCmd c.ring c.idx 0 (if c.opcode = 0x10 then injRegionOff else 5) 0 0
  let s := s.onPrm fun p => { p with pollAt := none, answers := [none, none], nudge := false }
  (s.wr F.PRM_STAT_POLLING 0 0).onLnk fun l =>
    { l with mem := l.mem.filter fun x => x.ftype != 0x21, reads := l.reads.map fun r => { r with purpose := 299 } }

/-- Polling resumes at S3 from the kept indices (R345). -/
def State.prmUnshed (s : State) : State :=
  if s.rdB F.PRM_STAT_COMMITTED then s.wr F.PRM_STAT_POLLING 0 1 else s

/-- A data-plane restart: codec jobs complete with SOURCE_LOST, and CODEC and INJECT commands not yet started with SOURCE_LOST
and ABORTED; the others finish (R345). -/
def State.prmRestart (s : State) : State :=
  let s := s.stopJobs 2
  s.forEach s.prm.cmds fun s c =>
    if c.started || c.finished then s
    else if c.opcode = 0x20 then s.finishCmd c.ring c.idx (c.words.getD 1 0) 2 0 0
    else if c.opcode = 0x10 then
      let (n, s) := s.freeBelow (2 ^ 64)
      s.finishCmd c.ring c.idx (BitVec.ofNat 64 n) injAborted 0 0
    else s

end Sys2Proof.Machine
end

