-- ==== Sys2Proof/Machine/Power.lean ====
section
/-! DEFINITION. Power input and shedding (R387 to R398, R403), thermal actions (R62), rail faults (R389) and the orderly stop
(R398). -/

namespace Sys2Proof.Machine

/-- Change the shedding controller. -/
def State.onPwr (s : State) (f : Pwr → Pwr) : State := { s with pwr := f s.pwr }

/-! ### The stage in force (R391, R392) -/

/-- Entry level of stages 1 to 4 in 10 mV (R391); each is left upward 1.0 V higher. -/
def stageEntry (k : Nat) : Nat := if k = 1 then 3500 else if k = 2 then 3350 else if k = 3 then 3200 else 3000

/-- The VIN stage that a filtered VIN in 10 mV demands, from the one before (R391). DEDUCED: log entry 38. -/
def vinStage (vin cur : Nat) : Nat :=
  if vin < 2800 then 5
  else ([1, 2, 3, 4].filter fun k => decide (vin < stageEntry k ∨ (k ≤ cur ∧ vin < stageEntry k + 100))).foldl max 0

/-- Does the keeper's temperature demand S5 (R62)? -/
def State.keeperHot (s : State) : Bool := s.plane.hot.getD 3 false

/-- The stages that the sources other than VIN request, with their CAUSE bits (R392, R404). -/
def State.requests (s : State) : List (Nat × Nat) :=
  [ (s.rd F.PWR_FORCE_STAGE, 2), (s.sensorStage, 4), (if s.plane.hot.getD 2 false then 4 else 0, 8),
    (if s.keeperHot then 5 else 0, 16), (if s.pwr.failed then 5 else 0, 32) ]

/-- The deepest stage requested by sources other than VIN. -/
def State.reqStage (s : State) : Nat := (s.requests.map Prod.fst).foldl max 0

/-- The stage in force (R392). -/
def State.inForce (s : State) : Nat := max (s.rd F.PWR_STAGE_VIN_STAGE) s.reqStage

/-- PWR_STAGE shows the requests, their causes and the wait before the next step up (R404). -/
def State.showStage (s : State) : State :=
  let f := s.inForce
  let vin := if s.rd F.PWR_STAGE_VIN_STAGE = f then 1 else 0
  let cause := vin + ((s.requests.filter fun r => r.1 == f && r.1 != 0).map Prod.snd).sum
  ((s.wr F.PWR_STAGE_REQ_STAGE 0 s.reqStage).wr F.PWR_STAGE_CAUSE 0 cause).wrB F.PWR_STAGE_RESTORING 0
    (decide (f < s.stage ∧ s.stage < 5))

/-! ### What a stage sheds and restores (R391, R393 to R395) -/

/-- A region powers down by shedding, with its feeds (R93, R112, R393). -/
def State.shedRegion (s : State) (r : Nat) : State :=
  let s := if (s.region r).powered then s.stopRegion r 4 s.clk.count else s
  (s.onRegion r fun x => { x with powered := false, locked := false, shed := true, resumeAt := none }).shedFeeds r true

/-- A region powers up: its PLL is to lock (R394); its feeds switch on (R93). -/
def State.unshedRegion (s : State) (r : Nat) : State :=
  (s.onRegion r fun x => { x with powered := true, shed := false, locked := false, resumeAt := none }).shedFeeds r false

/-- The lanes with an S1_KEEP value. -/
def State.keepLanes (s : State) (keep : Bool) : List Nat := (List.range 24).filter fun n => s.rdB F.LNK_LANE_CTL_S1_KEEP n == keep

/-- Lanes other than 0 and 12. -/
def otherLanes : List Nat := (List.range 24).filter fun n => n != 0 && n != 12

/-- Does stage k keep lane n (R266)? -/
def State.stageKeeps (s : State) (k n : Nat) : Bool :=
  if k = 0 then true else if k < 4 then s.rdB F.LNK_LANE_CTL_S1_KEEP n else n == 0 || n == 12

/-- Entry into stage k from the one above it (R391). -/
def State.shedStep (s : State) (k : Nat) : State :=
  let s := s.wr F.PWR_STAGE_STAGE 0 k
  match k with
  | 1 => s.shedLanes ((s.keepLanes false).filter fun n => n != 0 && n != 12)
  | 2 => s.chnSync
  | 3 => (s.holdStream true).forEach [1, 2, 3] State.shedRegion
  | 4 => (((s.shedRegion 0).stopRing).prmShed).shedLanes otherLanes
  | _ => s

/-- The shed lanes that stage k keeps start BRINGUP (R266). -/
def State.restoreLanes (s : State) (k : Nat) : State :=
  s.unshedLanes ((List.range 24).filter fun n => s.stageKeeps k n && (s.lane n).shed)

/-- Stage k is left upward by one (R266, R345, R394, R395). -/
def State.unshedStep (s : State) (k : Nat) : State :=
  let s := s.wr F.PWR_STAGE_STAGE 0 (k - 1)
  match k with
  | 4 =>
    let s := s.unshedRegion 0
    let s := if s.plane.ingest then s.startRing s.clk.count else s
    (s.prmUnshed).restoreLanes 3
  | 3 => ((s.forEach [1, 2, 3] State.unshedRegion).holdStream false).restoreLanes 2
  | 2 => (s.chnSync).restoreLanes 1
  | 1 =>
    let s := s.restoreLanes 0
    { s with pmc := { s.pmc with base := s.clk.tick } }
  | _ => s

/-- A change of stage is noted for the shedding notice and starts the 100-tick count anew (R393, R396). -/
def State.noteStage (s : State) : State :=
  let t := s.nowT48
  let vin := s.rd F.PWR_VIN_VIN_10MV
  s.onPwr fun p =>
    { p with entry := s.clk.tick, deepest := max p.deepest s.stage, noticeDue := true, changeT48 := t, changeVin := vin }

/-- The controller enters a deeper stage above S5, with the actions of every intermediate stage in order (R393). -/
def State.enterStage (s : State) (k : Nat) : State :=
  if k ≤ s.stage then s
  else ((s.forEach ((List.range (k - s.stage)).map fun i => s.stage + 1 + i) State.shedStep).flag F.PWR_EVT 0).noteStage

/-! ### Notices (R396) -/

/-- The notice of the state at this moment (R396). -/
def State.sendNotice (s : State) : State :=
  let p := s.pwr
  let s := s.push 0
    [ word64 [(56, 0x06), (52, 2), (49, s.stage), (46, max p.deepest s.stage), (40, s.rd F.PWR_STAGE_CAUSE), (0, s.locKeeper)],
      word64 [(16, p.changeT48), (0, p.changeVin)] ]
  s.onPwr fun p => { p with noticeTick := some s.clk.tick, noticeDue := false, deepest := 0 }

/-- SHEDDING_NOTICE: a change of stage waits to be told, 100 ms after the last notice at the earliest (R296, R396). A module
without an ID sends none (R21). -/
def State.doSheddingNotice (s : State) : State :=
  if s.pwr.noticeDue && s.moduleId != 0 && s.plane.cxOn then
    (match s.pwr.noticeTick with
     | some t => s.toTick (t + 100)
     | none => s).sendNotice
  else s

/-! ### S5 (R62, R390, R398) -/

/-- A flash write under way is abandoned: the commit takes the flash (R403). -/
def State.abandonWrites (s : State) : State :=
  let s := (s.onAdc fun a => { a with saving := none }).wr F.ADC_REH_STAT_SAVE_BUSY 0 0
  s.onSaf fun x => { x with writing := none }

/-- S5 is entered at once (R393), with steps 1 to 3 of R398: the data plane stops, regions and feeds go off, the curtains open, a
notice goes out without its wait, and the POWER commit begins. -/
def State.enterS5 (s : State) : State :=
  if s.stage = 5 then s
  else
    let s := s.forEach ((List.range (4 - s.stage)).map fun i => s.stage + 1 + i) State.shedStep
    let s := ((s.wr F.PWR_STAGE_STAGE 0 5).flag F.PWR_EVT 0).noteStage.showStage
    let s := ((s.stopPlane.stopRing).forEach [0, 1, 2, 3] fun s r => s.shedFeeds r true).safPowerOff
    let s := (s.stopSensors.abandonWrites).onPwr fun p => { p with stop := 1, vinHigh := none }
    let s := if s.moduleId ≠ 0 ∧ s.plane.cxOn then s.sendNotice else s
    s.requestCommit commitPower

/-- The keeper halts: every lane goes OFF, and CX is switched off, with which time stops (R266, R323, R398, steps 5 and 6). -/
def State.haltKeeper (s : State) : State :=
  let s := s.shedLanes (List.range 24)
  let s := { s with clk := { s.clk with running := false } }
  (s.onPlane fun p => { p with cxOn := false, monitors := false }).onPwr fun p => { p with stop := 2 }

/-! ### VIN (R388, R390) -/

/-- The VIN monitor over a run of samples in 10 mV (R388, R390, R391): the last five samples, the filtered VIN, its least value,
the VIN stage, whether a value lay below 28.0 V or 34.0 V, the filtered values in a row above 75 V, over-voltage, and the
filtered VIN at which it set in. -/
structure VinRun where
  recent : List Nat
  filtered : Nat
  least : Nat
  stage : Nat
  lost : Bool := false
  low : Bool := false
  run : Nat
  above : Bool
  opened : Option Nat := none
  deriving DecidableEq, Repr

/-- One VIN sample: filtered VIN is the mean over 50 us, that is over five samples, here rounded down to 10 mV for the registers
(R388, R390). DESIGN CHOICE: log entry 92. -/
def VinRun.take (r : VinRun) (x : Nat) : VinRun :=
  let recent := (x :: r.recent).take 5
  let f := recent.sum / recent.length
  let run := if 7500 * recent.length < recent.sum then r.run + 1 else 0
  { recent := recent, filtered := f, least := min r.least f, stage := vinStage f r.stage, lost := r.lost || decide (f < 2800)
    low := r.low || decide (f < 3400), run := run, above := decide (run ≠ 0) && (r.above || decide (101 ≤ run))
    opened := if run = 101 ∧ !r.above then some f else r.opened }

/-- The VIN monitor's samples since the last command, as it stands before them. -/
def State.vinRun (s : State) (vins : List Nat) : VinRun :=
  vins.foldl VinRun.take
    { recent := s.pwr.vins, filtered := s.rd F.PWR_VIN_VIN_10MV, least := s.rd F.PWR_VIN_MIN_10MV
      stage := s.rd F.PWR_STAGE_VIN_STAGE, run := s.pwr.overRun, above := s.pwr.overVin }

/-- An incident opened while the POWER commit runs goes into its record (R481). DESIGN CHOICE: log entry 92. -/
def State.keepSurge (s : State) : State :=
  if s.pwr.stop = 1 ∧ s.book.running.isSome then
    s.onBook fun b => { b with records := b.records.modify 0 fun r => { r with incidents := s.fau.inc } }
  else s

/-- Over-voltage sets in with the 101st filtered sample in a row above 75 V, and ends with any at or below it (R388). -/
def State.noteOverVoltage (s : State) (r : VinRun) : State :=
  let was := s.pwr.overVin
  let s := s.onPwr fun p => { p with vins := r.recent, overRun := r.run, overVin := r.above }
  let s := match r.opened with
    | some f => ((s.flag F.PWR_EVT 1).report 0x4302 s.locKeeper f).keepSurge
    | none => s
  if r.above || (!was && r.opened.isNone) then s else s.conditionOver 0x4302 s.locKeeper

/-- The keeper takes VIN samples (R388, R390, R391): S5 is entered as soon as filtered VIN falls below 28.0 V (R393). -/
def State.takeVin (s : State) (vins : List Nat) : State :=
  let r := s.vinRun vins
  let s := (s.wr F.PWR_VIN_VIN_10MV 0 r.filtered).wr F.PWR_VIN_MIN_10MV 0 r.least
  let s := (s.wr F.PWR_STAGE_VIN_STAGE 0 (if r.lost then 5 else r.stage)).noteOverVoltage r
  if r.lost && s.pwr.stop == 0 then s.enterS5 else s

/-- ORDERLY_STOP: S5 is entered as soon as filtered VIN falls below 28.0 V or another source demands it; once the commit has ended,
the lanes go OFF and the keeper halts (R393, R398). vins are the VIN samples in 10 mV since the last ones. DEDUCED: log
entry 39. -/
def State.doOrderlyStop (s : State) (vins : List Nat) : State :=
  if s.pwr.stop = 0 then
    let s := s.takeVin vins
    if s.pwr.stop = 0 ∧ s.inForce = 5 then s.enterS5 else s
  else if s.pwr.stop = 1 ∧ s.book.running.isNone ∧ s.book.waiting = [] then s.haltKeeper
  else s

/-- KEEPER_POWER_FAIL: the unfiltered comparator raises keeper power-fail, which enters S5 at once (R390, R393). -/
def State.doPowerFail (s : State) : State := (s.onPwr fun p => { p with failed := true }).enterS5

/-- KEEPER_DROP_OUT: the keeper stops; a commit under way is cut short (R390, R398, R403). -/
def State.doDropOut (s : State) : State :=
  let s := s.onBook fun b => { b with running := none, waiting := [] }
  let s := { s with clk := { s.clk with running := false } }
  (s.onPlane fun p => { p with cxOn := false, ingest := false, monitors := false }).onPwr fun p => { p with alive := false }

/-! ### The tick of the controller (R393, R404) -/

/-- The tick's other measurements (R360, R404), in 10 mV and 0.1 W (log entry 7). -/
def State.takeSupplies (s : State) (vaux vfeed power : Nat) : State :=
  ((s.wr F.PWR_AUX_VAUX24_10MV 0 vaux).wr F.PWR_AUX_VFEED_10MV 0 vfeed).wr F.PWR_POWER_INPUT_DW 0 power

/-- The halted keeper watches VIN: the tick since which no filtered value lay below 34.0 V (R398). -/
def State.watchVin (s : State) (vins : List Nat) : State :=
  let r := s.vinRun vins
  s.onPwr fun p => { p with vins := r.recent
                            vinHigh := if r.low || vins.isEmpty then none else some (p.vinHigh.getD s.clk.tick) }

/-- STAGE_TICK: on a tick, with the VIN samples since the last one, the controller takes the stage in force and enters it when it
is deeper (R393). After S5 the halted keeper watches VIN alone (R398). -/
def State.doStageTick (s : State) (vins : List Nat) (vaux vfeed power : Nat) : State :=
  if s.pwr.stop = 2 then s.watchVin vins
  else
    let s := (s.takeVin vins).takeSupplies vaux vfeed power
    if s.pwr.stop = 1 then s
    else
      let f := s.inForce
      let s := s.showStage
      if f = 5 then s.enterS5 else (s.enterStage f).showStage

/-- STAGE_RESTORE: after 100 ticks in a stage, with a shallower stage in force, the controller moves up by one (R393). At a cold start
it rises once CX is powered (R411, step 4). -/
def State.doStageRestore (s : State) : State :=
  if s.inForce < s.stage ∧ s.stage < 5 ∧ (s.plane.cxOn ∨ s.rd F.MGT_RESET_CAUSE_KIND = 1) then
    let s := s.toTick (s.pwr.entry + 100)
    ((s.unshedStep s.stage).noteStage).showStage
  else s

/-- FORCE_STAGE: a write of PWR_FORCE; 5 to 7 store 4 (R392, R404). -/
def State.doForceStage (s : State) (w : Word) : State := (s.wr F.PWR_FORCE_STAGE 0 (min 4 (getField w 0 3))).showStage

/-- VIN_CLR_MIN: MIN_10MV becomes the present VIN_10MV (R404). -/
def State.doVinClrMin (s : State) : State := s.wr F.PWR_VIN_MIN_10MV 0 (s.rd F.PWR_VIN_VIN_10MV)

/-! ### Over-voltage, rails and temperatures (R62, R388, R389) -/

/-- VIN_OVERVOLTAGE: VIN samples, with which 101 filtered ones in a row have come to lie above 75 V (R388). -/
def State.doOverVoltage (s : State) (vins : List Nat) : State := s.takeVin vins

/-- OVER_VOLTAGE_END: a filtered VIN sample at or below 75 V ends the over-voltage (R388). The command says nothing of the sample's
value, so the mean starts over with the samples that follow. DESIGN CHOICE: log entry 92. -/
def State.doOverVoltageEnd (s : State) : State :=
  let t := s.onPwr fun p => { p with vins := [], overRun := 0, overVin := false }
  if s.pwr.overVin then t.conditionOver 0x4302 t.locKeeper else t

/-- Does a rail (0 VCORE, 1 VANA, 2 VSER, 3 VIO) supply a scope: a region 0 to 3, or CX for 4 (R389)? -/
def railOf (rail scope : Nat) : Bool :=
  if scope < 4 then decide (rail ≤ 1) else decide (scope = 4) && (rail == 0 || rail == 2 || rail == 3)

/-- RAIL_FAULT: a rail stays more than 5% off for 10 us: a region incident or a CX fault (R59, R63, R389). A rail that is off is not
monitored (R403). -/
def State.doRailFault (s : State) (rail scope : Nat) : State :=
  if !railOf rail scope then s
  else if scope < 4 then
    if (s.region scope).monitored then (s.report 0x4301 (s.locRegion scope) rail).failRegion scope 4 else s
  else if s.plane.cxOn && !s.plane.cxFault then
    ((s.onPlane fun p => { p with cxFault := true }).report 0x4301 s.locCx rail).stopPlane
  else s

/-- The threshold of die d in degrees (R62). -/
def thermalLimit (d : Nat) : Int := if d < 3 then 120 else if d = 3 then 135 else 125

/-- A QF die's regions power down by heat, as in R60 (R62, R112). -/
def State.heatRegion (s : State) (r : Nat) : State :=
  let on := (s.region r).monitored
  let s := s.onRegion r fun x => { x with thermal := true, locked := false, resumeAt := none }
  if on then s.stopRegion r 4 s.clk.count else s

/-- A die's temperature, evaluated once per tick (R62). -/
def State.takeTemp (s : State) (d : Nat) (tj : Int) : State := s.onPlane fun p => { p with temps := p.temps.set d tj }

/-- THERMAL_THRESHOLD: a die (0 and 1 QF, 2 CX, 3 keeper, 4 flash) is above its threshold on a tick: its thermal action (R62, R63). -/
def State.doThermal (s : State) (d : Nat) (tj : Int) : State :=
  let s := s.takeTemp d tj
  if tj ≤ thermalLimit d || s.plane.hot.getD d true then s
  else
    let s := s.onPlane fun p => { p with hot := p.hot.set d true }
    if d < 2 then (s.report 0x2110 (s.locDie d) (wrapBits 32 tj)).forEach [2 * d, 2 * d + 1] State.heatRegion
    else if d = 2 then (s.report 0x2111 s.locCx (wrapBits 32 tj)).showStage
    else if d = 3 then (s.report 0x4304 s.locKeeper (wrapBits 32 tj)).enterS5
    else s

/-- THERMAL_RECOVER: a die has fallen 10 degrees below its threshold: the action is undone (R62). -/
def State.doThermalRecover (s : State) (d : Nat) (tj : Int) : State :=
  let s := s.takeTemp d tj
  if thermalLimit d - 10 < tj || !s.plane.hot.getD d false then s
  else
    let s := s.onPlane fun p => { p with hot := p.hot.set d false }
    if d < 2 then
      let s := s.forEach [2 * d, 2 * d + 1] fun s r => s.onRegion r fun x => { x with thermal := false }
      if s.plane.qfFault.getD d false then s else s.conditionOver 0x2110 (s.locDie d)
    else if d = 2 then (s.conditionOver 0x2111 s.locCx).showStage
    else s

end Sys2Proof.Machine
end

