-- ==== Sys2Proof/Machine/Sha.lean ====
section
/-! DEFINITION. HMAC-SHA-256 (R370), by the public standards that the manual names (PRESUMED, log entry 15). -/

namespace Sys2Proof.Machine

/-- The primes from which the standard takes its constants. -/
def shaPrimes : List Nat :=
  [2, 3, 5, 7, 11, 13, 17, 19, 23, 29, 31, 37, 41, 43, 47, 53, 59, 61, 67, 71, 73, 79, 83, 89, 97, 101, 103, 107, 109, 113, 127, 131] ++
  [137, 139, 149, 151, 157, 163, 167, 173, 179, 181, 191, 193, 197, 199, 211, 223, 227, 229, 233, 239, 241, 251, 257, 263, 269, 271, 277, 281, 283, 293, 307, 311]

/-- The greatest r with r ^ k at most n, its bits found from bit b - 1 down. -/
def rootBits (k n : Nat) : Nat → Nat → Nat
  | 0, r => r
  | b + 1, r => rootBits k n b (if (r + 2 ^ b) ^ k ≤ n then r + 2 ^ b else r)

/-- The first 32 bits of the fraction of the k-th root of p. -/
def rootFraction (k p : Nat) : Word := BitVec.ofNat 32 (rootBits k (p * 2 ^ (32 * k)) 37 0)

/-- The round constants: the fractions of the cube roots of the primes. -/
def shaRounds : List Word := shaPrimes.map (rootFraction 3)

/-- The hash value before the first block: the fractions of the square roots of the first eight. -/
def shaStart : List Word := (shaPrimes.take 8).map (rootFraction 2)

/-- Rotation to the right. -/
def rotR (x : Word) (n : Nat) : Word := (x >>> n) ||| (x <<< (32 - n))

/-- One more word of the message schedule, kept newest first. -/
def shaNext (ws : List Word) : Word :=
  let a := ws.getD 1 0
  let b := ws.getD 14 0
  (rotR a 17 ^^^ rotR a 19 ^^^ (a >>> 10)) + ws.getD 6 0 + (rotR b 7 ^^^ rotR b 18 ^^^ (b >>> 3)) + ws.getD 15 0

/-- The message schedule of a block, newest first. -/
def shaSchedule (block : List Word) : List Word := (List.range 48).foldl (fun ws _ => shaNext ws :: ws) block.reverse

/-- A round on the eight working variables. -/
def shaRound (v : List Word) (kw : Word) : List Word :=
  match v with
  | [a, b, c, d, e, f, g, h] =>
    let t1 := h + (rotR e 6 ^^^ rotR e 11 ^^^ rotR e 25) + ((e &&& f) ^^^ (~~~e &&& g)) + kw
    let t2 := (rotR a 2 ^^^ rotR a 13 ^^^ rotR a 22) + ((a &&& b) ^^^ (a &&& c) ^^^ (b &&& c))
    [t1 + t2, a, b, c, d + t1, e, f, g]
  | v => v

/-- The compression of a block of 16 words. -/
def shaBlock (hash block : List Word) : List Word :=
  let ws := (shaSchedule block).reverse
  let v := (shaRounds.zip ws).foldl (fun v p => shaRound v (p.1 + p.2)) hash
  (hash.zip v).map fun p => p.1 + p.2

/-- A word from 4 bytes, most significant first. -/
def wordOfBytes (bs : List Nat) : Word := BitVec.ofNat 32 (bs.foldl (fun n b => 256 * n + b % 256) 0)

/-- The blocks of 64 bytes of a padded message. -/
def shaBlocks : Nat → List Nat → List (List Word)
  | 0, _ => []
  | n + 1, bs => ((List.range 16).map fun i => wordOfBytes ((bs.drop (4 * i)).take 4)) :: shaBlocks n (bs.drop 64)

/-- The padding of SHA-256. -/
def shaPad (bs : List Nat) : List Nat :=
  let n := bs.length
  let zeros := (119 - n % 64) % 64
  bs ++ 0x80 :: List.replicate zeros 0 ++ (List.range 8).map fun i => 8 * n / 256 ^ (7 - i) % 256

/-- SHA-256 of a list of bytes, as bytes. -/
def sha256 (bs : List Nat) : List Nat :=
  let p := shaPad bs
  let h := (shaBlocks (p.length / 64) p).foldl shaBlock shaStart
  h.flatMap fun w => (List.range 4).map fun i => w.toNat / 256 ^ (3 - i) % 256

/-- HMAC-SHA-256 under a key of at most 64 bytes. -/
def hmacSha256 (key bs : List Nat) : List Nat :=
  let k := key ++ List.replicate (64 - key.length) 0
  sha256 ((k.map fun b => b ^^^ 0x5C) ++ sha256 ((k.map fun b => b ^^^ 0x36) ++ bs))

end Sys2Proof.Machine
end

