-- ==== Sys2Proof/Machine/Telegrams.lean ====
section
/-! DEFINITION. Safety telegrams (R361 to R364): STATUS, COMMAND and its copies, the ACK of a lock-out (R368), and the staging
and activation of safety parameters (R370). -/

namespace Sys2Proof.Machine

/-! ### Common fields (R361) -/

/-- Bits [lo + width - 1 : lo] of a telegram word. -/
def telField (w : LWord) (lo width : Nat) : Nat := w.toNat / 2 ^ lo % 2 ^ width

/-- KIND of a telegram. -/
def telKind (ws : List LWord) : Nat := telField (ws.headD 0) 60 4

/-- TCOUNT of a telegram. -/
def telCount (ws : List LWord) : Nat := telField (ws.headD 0) 44 16

/-- The module ID as two bytes, [15:8] first. -/
def State.idBytes (s : State) : List Nat := [s.moduleId / 256 % 256, s.moduleId % 256]

/-- SCRC of a telegram: over the module ID and its words, the low half of the last one left out (R361). -/
def State.scrc (s : State) (ws : List LWord) : Nat :=
  crc32c (s.idBytes ++ (ws.dropLast).flatMap bytesOf ++ (bytesOf (ws.getLastD 0)).take 4)

/-- A received telegram of a KIND and length whose SCRC matches. -/
def State.scrcOk (s : State) (ws : List LWord) : Bool := s.scrc ws == telField (ws.getLastD 0) 0 32

/-- A telegram is discarded for its SCRC or its TCOUNT (R361, R363, R373). -/
def State.telDiscard (s : State) : State := s.satAdd F.SAF_CNT2_TEL_DISCARD 0 1

/-- A telegram with its SCRC. -/
def State.sealed (s : State) (ws : List LWord) : List LWord :=
  ws.dropLast ++ [ws.getLastD 0 ||| BitVec.ofNat 64 (s.scrc ws)]

/-! ### STATUS (R362) -/

/-- The four words of a STATUS telegram, with the TCOUNT of the last accepted command. -/
def State.statusWords (s : State) (last : Nat) : List LWord :=
  let eff := ((List.range 8).map fun i => (s.inputEff i).toNat * 2 ^ i).sum
  let locked := ((List.range 8).map fun i => s.rd F.SAF_SI_STAT_LOCKED i * 2 ^ i).sum
  s.sealed
    [ word64 [(60, 1), (44, s.saf.tcount), (41, s.safState), (39, s.rd F.SAF_STAT_FC_CLOSED), (36, s.rd F.SAF_STAT_VOTERS),
              (34, s.rd F.SAF_STAT_SLS_SEL), (32, s.saf.sdi), (24, eff), (16, locked), (0, s.saf.lastCode)],
      word64 [(32, s.rd F.SAF_POS_MDEG), (0, s.rd F.SAF_SPEED_MDEG_S)],
      word64 [(48, last), (41, s.rd F.SAF_STAT_DEG_LEFT_S), (40, s.rd F.SAF_STAT_PATH_A_OK), (39, s.rd F.SAF_STAT_PATH_B_OK),
              (38, s.rd F.SAF_STAT_INC_OK), (37, s.rd F.SAF_STAT_SSI_OK), (36, s.rd F.SAF_STAT_VAUX_OK)],
      word64 [(32, s.nowT48 / 65536)] ]

/-- SAFETY_STATUS_SEND: 4 ms after the last one, the STATUS telegram goes out on both paths while MONITOR_EN is 1; it waits
for CX and for a module ID (R348, R362, R371). -/
def State.doStatusSend (s : State) : State :=
  if s.monitorEn && s.plane.cxOn && s.moduleId != 0 then
    let s := s.toTick (s.saf.statusTick + 4)
    let (last, s) := match s.saf.accepted with
      | some t => (t, s)
      | none => s.freeBelow 65536
    (s.pushSafety none (s.statusWords last)).onSaf fun x =>
      { x with tcount := (x.tcount + 1) % 65536, statusTick := s.clk.tick }
  else s

/-! ### Paths (R363, R364) -/

/-- PATH_A_OK or PATH_B_OK. -/
def pathOk (p : Nat) : Fld := if p = 0 then F.SAF_STAT_PATH_A_OK else F.SAF_STAT_PATH_B_OK

/-- Loss of path p (R364): reported once, until the path is good again. -/
def State.losePath (s : State) (p : Nat) : State :=
  let seen := s.saf.lossSeen.getD p false
  let s := (s.wr (pathOk p) 0 0).onSaf fun x =>
    { x with agreed := x.agreed.set p 0, lossSeen := x.lossSeen.set p true, goodSince := x.goodSince.set p none }
  if seen then s else s.loseElement p (0x5301 + p)

/-- One more agreed command was delivered by path p: three in a row make it good (R364). -/
def State.agreedOn (s : State) (p : Nat) : State :=
  let n := s.saf.agreed.getD p 0 + 1
  let s := s.onSaf fun x => { x with agreed := x.agreed.set p n }
  if n < 3 then s
  else
    (((s.wr (pathOk p) 0 1).onSaf fun x => { x with lossSeen := x.lossSeen.set p false }).elementGood p).conditionOver
      (0x5301 + p) s.locKeeper

/-! ### COMMAND (R363, R364, R371) -/

/-- The safer parts of a command act on its first copy: STO, SS1, a lower SLS_SEL, and an SDI restriction that replaces none
(R363). -/
def State.saferParts (s : State) (w : LWord) : State :=
  let req := telField w 41 3
  let sel := telField w 39 2
  let sdi := telField w 37 2
  let s := if sel < s.saf.sel then s.onSaf fun x => { x with sel := sel } else s
  let s := if s.saf.sdi = 0 ∧ (sdi = 1 ∨ sdi = 2) then
      s.onSaf fun x => { x with sdi := sdi, sdiRef := s.rdS F.SAF_POS_MDEG }
    else s
  let s := if closedIn s.safState then s.followSls else s
  if req = 1 then s.enterSto else if req = 2 then s.enterSs1 else s

/-- The other parts of an agreed command act (R352, R358, R363): SLS_SEL, SDI, and RUN or RESUME in the next cycle. A new
selection ends the hold of a low-speed input that demands no more. REQ 5 to 7 and SDI 3 are not assigned and do nothing. -/
def State.agreedParts (s : State) (w : LWord) : State :=
  let req := telField w 41 3
  let sel := telField w 39 2
  let sdi := telField w 37 2
  let p := s.rdS F.SAF_POS_MDEG
  let free := sel != s.saf.sel && !s.inputDemand 3
  let s := s.onSaf fun x =>
    { x with sel := sel, slsHold := x.slsHold && !free
             sdi := if sdi = 3 then x.sdi else sdi
             sdiRef := if sdi = 3 ∨ sdi = x.sdi then x.sdiRef else p
             runReq := if req = 3 ∨ req = 4 then some req else x.runReq
             recoverReq := telField w 36 1 == 1 }
  if closedIn s.safState then s.followSls else s

/-- Is a TCOUNT new (R363)? -/
def State.isNew (s : State) (tc : Nat) : Bool :=
  match s.saf.accepted with
  | none => true
  | some t => let d := (tc + 65536 - t) % 65536; decide (1 ≤ d) && decide (d ≤ 255)

/-- The first copy of the other path that waits for this telegram's TCOUNT (R364). -/
def State.waitingCopy (s : State) (p tc : Nat) : Option Copy :=
  s.saf.copies.find? fun c => c.path != p && telCount c.words == tc && decide (s.clk.tick ≤ c.tick + 20)

/-- Path p delivered a command now. -/
def State.sawCommand (s : State) (p : Nat) : State := s.onSaf fun x => { x with lastCmd := x.lastCmd.set p s.clk.tick }

/-- The second copy of a command arrived (R364): agreement accepts it, a difference is a mismatch. -/
def State.secondCopy (s : State) (c : Copy) (ws : List LWord) : State :=
  let s := s.onSaf fun x => { x with copies := x.copies.erase c }
  if c.words = ws then
    let s := s.onSaf fun x => { x with accepted := some (telCount ws) }
    ((s.agreedOn 0).agreedOn 1).agreedParts (ws.headD 0)
  else (s.onSaf fun x => { x with agreed := [0, 0] }).safLock 0x5303

/-- SAFETY_COMMAND: a copy of a COMMAND telegram of two words arrives on a path (R363, R364). While MONITOR_EN is 0 it is
discarded (R348). -/
def State.doSafetyCommand (s : State) (path : Nat) (w0 w1 : LWord) : State :=
  let p := path % 2
  let ws := [w0, w1]
  if !s.monitorEn || telKind ws != 2 then s
  else if !s.scrcOk ws then s.telDiscard
  else
    match s.waitingCopy p (telCount ws) with
    | some c => (s.sawCommand p).secondCopy c ws
    | none =>
      if s.saf.accepted = some (telCount ws) then s.sawCommand p
      else if !s.isNew (telCount ws) then s.telDiscard
      else
        ((s.sawCommand p).onSaf fun x =>
          { x with copies := x.copies ++ [{ path := p, words := ws, tick := s.clk.tick }] }).saferParts w0

/-- The earliest wait that ends (R364): 0 or 1, path 0 or 1 is lost because it lags; 2 or 3, path 0 or 1 is silent while the
other one delivers; 4, both are silent; with its tick. -/
def State.nextTimeout (s : State) : Option (Nat × Nat) :=
  let x := s.saf
  let last := fun p => x.lastCmd.getD p 0
  let lag := x.copies.map fun c => (1 - c.path, c.tick + 20)
  let silent := ([0, 1].filter fun p => !x.lossSeen.getD p false && decide (last p < last (1 - p))).map fun p =>
    (2 + p, last p + 20)
  let known := closedIn s.safState || s.rdB F.SAF_STAT_PATH_A_OK || s.rdB F.SAF_STAT_PATH_B_OK
  let both := if known then [(4, max (last 0) (last 1) + 20)] else []
  (lag ++ silent ++ both).foldl (fun best t =>
    match best with
    | none => some t
    | some b => if t.2 < b.2 then some t else some b) none

/-- Both paths are silent for 20 ms: LOCKOUT with closed curtains; with open ones no fault, and neither path is good (R364). -/
def State.bothSilent (s : State) : State :=
  let shut := closedIn s.safState
  let s := ((s.wr F.SAF_STAT_PATH_A_OK 0 0).wr F.SAF_STAT_PATH_B_OK 0 0).onSaf fun x =>
    { x with agreed := [0, 0], goodSince := (x.goodSince.set 0 none).set 1 none }
  if shut then s.safLock 0x5304 else s

/-- COMMAND_COPY_TIMEOUT: the next wait of 20 ms ends (R364). A first copy alone moves the last accepted TCOUNT on, once a
reference has been set (R363). DEDUCED: log entry 59. -/
def State.doCopyTimeout (s : State) : State :=
  if !s.monitorEn then s
  else
    match s.nextTimeout with
    | none => s
    | some (k, t) =>
      let s := s.toTick t
      if k = 4 then s.bothSilent
      else if 2 ≤ k then s.losePath (k - 2)
      else
        match s.saf.copies.find? fun c => c.path != k && c.tick + 20 == t with
        | none => s
        | some c =>
          (s.onSaf fun x =>
            { x with copies := x.copies.erase c
                     accepted := x.accepted.map fun a => if s.isNew (telCount c.words) then telCount c.words else a }).losePath k

/-! ### ACK (R368) -/

/-- Has the cause of a lock-out gone (R368, step 3)? -/
def State.causeGone (s : State) : Bool :=
  s.rdB F.SAF_STAT_PATH_A_OK && s.rdB F.SAF_STAT_PATH_B_OK && s.rdB F.SAF_STAT_INC_OK && s.rdB F.SAF_STAT_SSI_OK
    && s.saf.fcBad == 0 && !s.saf.twoOut

/-- The conditions of the safety incidents that led to LOCKOUT are over. -/
def State.safConditionsOver (s : State) : State :=
  s.forEach [0x5203, 0x5303, 0x5304, 0x5401, 0x5402, 0x5500, 0x5501, 0x5602, 0x5603, 0x5701] fun s c =>
    s.conditionOver c s.locKeeper

/-- The lock-out is cleared (R368): both records, the sources realigned, STO, and a new TCOUNT reference. -/
def State.clearLockout (s : State) : State :=
  let s := s.onBook fun b => { b with records := b.records.map fun r => { r with locked := false } }
  (s.setSaf 0).safConditionsOver.onSaf fun x =>
    { x with latch := false, release := none, ack := none, accepted := none, copies := [], incRef := none, zRef := none
             apart := 0 }

/-- SAFETY_ACK: a copy of an ACK telegram of two words arrives. Both copies within 5 s of the release, agreeing and carrying
LOCK_SEQ, clear the lock-out when the cause is gone; else the whole procedure must be repeated (R368, R371). -/
def State.doSafetyAck (s : State) (path : Nat) (w0 w1 : LWord) : State :=
  let p := path % 2
  let ws := [w0, w1]
  if !s.monitorEn || telKind ws != 3 then s
  else if !s.scrcOk ws then s.telDiscard
  else
    match s.saf.release with
    | none => s
    | some r =>
      if r + 5000 < s.clk.tick ∨ s.safState ≠ 4 then s.onSaf fun x => { x with release := none, ack := none }
      else
        match s.saf.ack with
        | some c =>
          if c.path = p then s
          else if c.words = ws ∧ telField w0 0 16 = s.rd F.SAF_CAUSE_LOCK_SEQ ∧ s.causeGone then s.clearLockout
          else s.onSaf fun x => { x with release := none, ack := none }
        | none => s.onSaf fun x => { x with ack := some { path := p, words := ws, tick := s.clk.tick } }

/-! ### PARAM and ACTIVATE (R370) -/

/-- Words in a safety set: 0x00300100 to 0x00300160. -/
def safWords : Nat := 25

/-- The active set. -/
def State.activeSet (s : State) : List Word := (List.range safWords).map fun i => s.regGet (F.SAF_CFG + 4 * i)

/-- The staged set: a word that has not been staged is that of the active set. DEDUCED: log entry 61. -/
def State.stagedSet (s : State) : List Word :=
  (List.range safWords).map fun i => ((s.saf.staged.find? fun p => p.1 == i).map Prod.snd).getD (s.regGet (F.SAF_CFG + 4 * i))

/-- The bytes of a set, most significant byte of each word first. -/
def setBytes (ws : List Word) : List Nat := ws.flatMap fun w => (List.range 4).map fun i => w.toNat / 2 ^ (8 * (3 - i)) % 256

/-- CRC-32C of a set. -/
def setCrc (ws : List Word) : Nat := crc32c (setBytes ws)

/-- The tag of an activation: the first 64 bits of HMAC-SHA-256 over the module ID and the staged set (R370). -/
def State.setTag (s : State) (key : Nat) (ws : List Word) : Nat :=
  let k := (List.range 16).map fun i => key / 2 ^ (8 * (15 - i)) % 256
  ((hmacSha256 k (s.idBytes ++ setBytes ws)).take 8).foldl (fun v b => v * 256 + b) 0

/-- The bits of each word of a set that belong to no reserved field (R373). -/
def setMasks : List Nat :=
  [0x007F0003, 0x00FF03FF] ++ List.replicate 8 0x01FF007F ++ [0xFFFFFFFF, 0x00007FFF, 0x0000FFFF]
    ++ List.replicate 4 0x00FFFFFF ++ [0x00FFFFFF, 0xFFFF3FFF, 0x0000FFFF, 0xFFFFFFFF, 0xFFFFFFFF, 0x80FFFFFF, 0x0000FFFF,
       0x01FF3F03]

/-- Does a value lie between two limits? -/
def within (lo hi x : Nat) : Bool := decide (lo ≤ x) && decide (x ≤ hi)

/-- A field of word i of a set. -/
def setPart (ws : List Word) (i lo width : Nat) : Nat := getField (ws.getD i 0) lo width

/-- Is a staged set consistent (R370, step 3)? -/
def setConsistent (ws : List Word) : Bool :=
  let f := setPart ws
  let lim := fun j => f (13 + j) 0 24
  let inputs := (List.range 8).all fun i =>
    within 0 4 (f (2 + i) 0 3) && within 0 4 (f (2 + i) 4 3) && within 2 500 (f (2 + i) 16 9)
  let reserved := (List.range safWords).all fun i =>
    (ws.getD i 0).toNat &&& (0xFFFFFFFF - setMasks.getD i 0) == 0
  inputs && reserved && within 200 1000 (f 1 0 10) && within 8 128 (f 1 16 8) && within 1 120 (f 0 16 7)
    && within 10 32 (f 11 0 6) && within 8 24 (f 11 6 5) && decide (f 11 6 5 ≤ f 11 0 6) && decide (4 ≤ f 10 0 24)
    && decide (lim 0 ≤ lim 1) && decide (lim 1 ≤ lim 2) && decide (lim 2 ≤ lim 3) && decide (f 17 0 24 ≤ lim 3)
    && within 10 10000 (f 18 0 14) && within 1 60 (f 24 8 6) && within 100 300 (f 24 16 9)
    && (f 22 31 1 == 0 || (decide ((ws.getD 20 0).toInt < (ws.getD 21 0).toInt) && f 22 0 24 != 0))

/-- SAFETY_PARAM: a copy of a PARAM telegram of two words arrives. Each agreed pair writes one word of the staged set; in RUN
it is refused (R370, R371). -/
def State.doSafetyParam (s : State) (path : Nat) (w0 w1 : LWord) : State :=
  let p := path % 2
  let ws := [w0, w1]
  if !s.saf.on || telKind ws != 5 then s
  else if !s.scrcOk ws then s.telDiscard
  else
    match s.saf.param with
    | some c =>
      if c.path ≠ p ∧ c.words = ws then
        let s := s.onSaf fun x => { x with param := none }
        let i := telField w0 32 12
        if s.safState = 1 then s.satAdd F.SAF_CNT2_ACT_REFUSED 0 1
        else if i < safWords then
          s.onSaf fun x =>
            { x with staged := (i, BitVec.ofNat 32 w0.toNat) :: x.staged.filter fun q => q.1 != i }
        else s
      else s.onSaf fun x => { x with param := some { path := p, words := ws, tick := s.clk.tick } }
    | none => s.onSaf fun x => { x with param := some { path := p, words := ws, tick := s.clk.tick } }

/-- A refused activation: the staged set is discarded (R370, step 4). -/
def State.refuseActivation (s : State) : State :=
  (s.satAdd F.SAF_CNT2_ACT_REFUSED 0 1).onSaf fun x => { x with staged := [], activate := none }

/-- Do the checks of an activation pass (R370, step 3)? -/
def State.mayActivate (s : State) (crc tag : Nat) : Bool :=
  let set := s.stagedSet
  match s.saf.key with
  | none => false
  | some k => setCrc set == crc && s.setTag k set == tag && s.rd F.SAF_STAT_FC_CLOSED == 0 && setConsistent set

/-- SAFETY_ACTIVATE: a copy of an ACTIVATE telegram of three words arrives. An agreed pair within 5 s whose checks pass
starts the write of the staged set to flash; else it is refused (R370, R371). -/
def State.doSafetyActivate (s : State) (path : Nat) (w0 w1 w2 : LWord) : State :=
  let p := path % 2
  let ws := [w0, w1, w2]
  if !s.saf.on || telKind ws != 6 then s
  else if !s.scrcOk ws then s.telDiscard
  else
    match s.saf.activate with
    | some c =>
      if c.path = p then s.onSaf fun x => { x with activate := some { path := p, words := ws, tick := s.clk.tick } }
      else if c.words = ws ∧ s.clk.tick ≤ c.tick + 5000 ∧ s.safState ≠ 1 ∧ s.saf.writing.isNone
          ∧ s.mayActivate (telField w0 0 32) w1.toNat then
        s.onSaf fun x => { x with activate := none, writing := some s.stagedSet }
      else s.refuseActivation
    | none => s.onSaf fun x => { x with activate := some { path := p, words := ws, tick := s.clk.tick } }

/-- The fields of a register take their bits of a word; its reserved bits read 0 (R12). -/
def fieldWord (a : Nat) (w : Word) : Word :=
  match regAt a with
  | none => 0
  | some r => r.fields.foldl (fun x f => setField x f.lo f.width (getField w f.lo f.width)) 0

/-- A safety set takes force: the SAF parameter registers and SAF_SET_CRC (R370). -/
def State.loadSafetySet (s : State) (ws : List Word) (crc : Nat) : State :=
  (s.forEach (List.range safWords) fun s i =>
    let a := F.SAF_CFG + 4 * i
    s.regPut a (fieldWord a (ws.getD i 0))).wr F.SAF_SET_CRC_CRC 0 crc

/-- SAFETY_SET_WRITTEN: the flash write of an activated set ends: the set takes force, and the monitor enters STO or DISABLED; a
latched lock-out stays (R348, R367, R370). -/
def State.doSafetySetWritten (s : State) : State :=
  match s.saf.writing with
  | none => s
  | some ws =>
    let s := (s.loadSafetySet ws (setCrc ws)).onSaf fun x =>
      { x with writing := none, stored := some ws, staged := [], accepted := none, copies := [], ssiLast := none }
    s.setSaf (if !s.rdB F.SAF_CFG_MONITOR_EN then 7 else if s.saf.latch then 4 else 0)

end Sys2Proof.Machine
end

