-- ==== Sys2Proof/Machine/Resets.lean ====
section
/-! DEFINITION. Resets and start-up (R17, R66, R405 to R417, R427): the reset columns, the cold start, the warm reset and
RESET_N, the loading of the configuration image with the start of CX, the data-plane restart, and the status outputs. -/

namespace Sys2Proof.Machine

/-- Change the access ports' state. -/
def State.onAccess (s : State) (f : Access → Access) : State := { s with access := f s.access }

/-- Change the state of resets and start-up. -/
def State.onStart (s : State) (f : Start → Start) : State := { s with start := f s.start }

/-- PHASE (R417). -/
def State.phase (s : State) : Nat := s.rd F.MGT_START_STAT_PHASE

/-- Enter a step of R411. -/
def State.setPhase (s : State) (n : Nat) : State := s.wr F.MGT_START_STAT_PHASE 0 n

/-- Are CX and the QF dies running: powered and not held in reset (R408, R411)? -/
def State.cxRuns (s : State) : Bool := s.plane.cxOn && s.start.hold.isNone

/-- Does the keeper run: it has supply, has booted, and has not halted after S5 (R398)? -/
def State.keeperRuns (s : State) : Bool := s.pwr.alive && s.start.booted && s.pwr.stop != 2

/-! ### Reset columns (R17) -/

/-- A register word after a reset, from its column: an image field holds its value in parentheses until the image is
loaded; a strap field keeps its value until the straps are sampled. -/
def resetWord (column : FieldDef → Rst) (a : Nat) (w : Word) : Word :=
  match regAt a with
  | none => w
  | some r => r.fields.foldl (fun w f =>
      match column f with
      | .val n => setField w f.lo f.width n
      | .image _ => setField w f.lo f.width (getField (coldWord a) f.lo f.width)
      | .keep => w
      | .strap => w) w

/-- Every register takes its column. A register that is not listed holds its cold value, which only KIND and PHASE of the
MGT block would change (R417); the resets write those two. -/
def State.takeColumn (s : State) (column : FieldDef → Rst) : State :=
  s.forEach s.regs fun s p => s.regPut p.1 (resetWord column p.1 p.2)

/-- The image fields of a register take their bits of a word (R17). -/
def imageWord (column : FieldDef → Rst) (a : Nat) (old w : Word) : Word :=
  match regAt a with
  | none => old
  | some r => r.fields.foldl (fun x f =>
      match column f with
      | .image _ => setField x f.lo f.width (getField w f.lo f.width)
      | _ => x) old

/-- Does the flash hold this register apart from the configuration image: the safety set (R370), the state of the saved sets
(R113) and of the flash (R431)? -/
def apartFromImage (a : Nat) : Bool :=
  decide (F.SAF_STAT ≤ a ∧ a < F.SAF_STAT + 0x40000) || a == F.ADC_REH_STAT || a == F.FAU_FLASH_STAT

/-- EN and S1_KEEP of lanes 0 and 12 read 1 whatever the image holds (R265, R269). -/
def State.keepEnabled (s : State) : State :=
  s.forEach [0, 12] fun s n => (s.wrB F.LNK_LANE_CTL_EN n true).wrB F.LNK_LANE_CTL_S1_KEEP n true

/-- The configuration image: addresses and words for the fields whose column reads image (R17). -/
def State.loadImage (s : State) (column : FieldDef → Rst) (image : List (Nat × Nat)) : State :=
  (s.forEach image fun s p =>
    if apartFromImage p.1 then s
    else s.regPut p.1 (imageWord column p.1 (s.regGet p.1) (BitVec.ofNat 32 p.2))).keepEnabled

/-- The banked tables: both banks hold what the image gives (R144, R155, R167). -/
def State.loadBanks (s : State) : State :=
  let banked := fun (a : Nat) =>
    decide (F.CHN_COEF ≤ a ∧ a < F.CHN_COEF + 65536) || decide (F.WCH_SEG ≤ a ∧ a < F.WCH_SEG + 8192)
      || decide (F.WCH_MASK_CFG ≤ a ∧ a < F.WCH_MASK_CFG + 256)
      || decide (F.WCH_MASK_TABLE ≤ a ∧ a < F.WCH_MASK_TABLE + 16384)
  { s with banks := s.regs.filter fun p => banked p.1 }

/-! ### The module ID (R21, R66, R412) -/

/-- A location code under a module ID. -/
def relocate (id loc : Nat) : Nat := id % 65536 * 65536 + loc % 65536

/-- A queue word with the location code of its DATA [31:0] under a new module ID. -/
def relocateWord (id : Nat) (w : QWord) : QWord :=
  let d := (qData w).toNat
  mkQWord (BitVec.ofNat 64 (d / 2 ^ 32 * 2 ^ 32 + relocate id (d % 2 ^ 32))) (qEop w) (qTag w)

/-- A packet under a new module ID: word 0, or word 1 of an incident report, holds its location code. -/
def relocatePacket (id : Nat) (p : Packet) : Packet :=
  if p.dest.isSome || p.ftype != 0x80 then p
  else
    match locWordOf (pktType p) with
    | some i => { p with words := p.words.modify i (relocateWord id) }
    | none => p

/-- A packet word with the location code of its bits [31:0] under a new module ID. -/
def relocateData (id : Nat) (w : LWord) : LWord := BitVec.ofNat 64 (w.toNat / 2 ^ 32 * 2 ^ 32 + relocate id (w.toNat % 2 ^ 32))

/-- The words of a list at some places under a new module ID. -/
def relocateAt (id : Nat) (locs : List Nat) (ws : List LWord) : List LWord :=
  locs.foldl (fun ws i => ws.modify i (relocateData id)) ws

/-- A frame that has not begun to leave, under a new module ID: its header and its location codes (R66). -/
def TxFrame.restamp (id : Nat) (f : TxFrame) : TxFrame :=
  { f with module_ := id % 65536, words := relocateAt id f.locs f.words }

/-- A queue under a new module ID: a packet of which no word has been read yet too. -/
def Queue.relocate (id : Nat) (q : Queue) : Queue :=
  { q with waiting := q.waiting.map (relocatePacket id), blocked := q.blocked.map (relocatePacket id)
           reading := q.reading.map fun p => if p.words.length = q.readTotal then relocatePacket id p else p }

/-- From now on every frame and location code carries module ID id (R66). A frame that has begun to leave its lane keeps its
own. -/
def State.setModuleId (s : State) (id : Nat) : State :=
  let s := (s.runLanes).wr F.MGT_MODULE_ID_ID 0 id
  let que := s.que.map (Queue.relocate id)
  let inc := s.fau.inc.map fun x => if x.st = .free then x else { x with loc := relocate id x.loc }
  let again := s.fau.again.map fun a => (a.1, relocate id a.2.1, a.2.2)
  let stamp := TxFrame.restamp id
  let lanes := s.lnk.lanes.map fun l => { l with buf := l.buf.map stamp, slot0 := l.slot0.map stamp }
  let mem := s.lnk.mem.map fun x => { x with data := relocateAt id x.locs x.data }
  let cues := s.trg.cues.map fun q => { q with loc := relocate id q.loc }
  let props := s.trg.proposals.map fun p => { p with loc := relocate id p.loc }
  let jobs := s.trg.jobs.map fun j => { j with loc := relocate id j.loc }
  { s with que := que, fau := { s.fau with inc := inc, again := again }
           lnk := { s.lnk with lanes := lanes, held := s.lnk.held.map fun q => q.map stamp, mem := mem }
           trg := { s.trg with cues := cues, proposals := props, jobs := jobs } }

/-- Step 6 of R411 begins once lane 0 or lane 12 is UP and the module ID is written (R412). -/
def State.noteStart (s : State) : State :=
  if s.phase = 5 ∧ s.moduleId ≠ 0 ∧ (s.laneUp 0 ∨ s.laneUp 12) then
    (s.setPhase 6).onStart fun x => { x with waitFrom := some s.clk.tick }
  else s

/-- MODULE_ID_WRITE: a write of MGT_MODULE_ID (R66, R412). -/
def State.doModuleId (s : State) (w : Word) : State := (s.setModuleId (w.toNat % 65536)).noteStart

/-- LANE_UP as start-up sees it: the lane enters UP, and step 6 of R411 may begin (R259, R412). -/
def State.doLaneUpStart (s : State) (n : Nat) : State :=
  if s.rd F.LNK_LANE_STAT_STATE n ≠ 1 ∨ (s.lane n).groups.isNone then s else (s.doLaneUp n).noteStart

/-! ### The incident table over a reset (R427) -/

/-- An entry restored from the mirror or the prompt book: PREVIOUS, CLOSED when it was open, and not reported again. -/
def Incident.restored (x : Incident) : Incident :=
  if x.st = .free then {}
  else { x with st := if x.st = .opened then .closed else x.st, previous := true, pending := false, held := false
                lasting := false, sentTick := none, openTick := 0, lastTick := 0 }

/-- The table holds restored entries, under the module ID in force (R21); INC_ID continues after the highest one (R427). -/
def State.restoreIncidents (s : State) (inc : List Incident) : State :=
  let inc := inc.map fun x => if x.st = .free then x.restored else { x.restored with loc := relocate s.moduleId x.loc }
  let high := (inc.map fun x => x.id).foldl max 0
  { s with fau := { s.fau with inc := inc } }.wr F.FAU_STAT_NEXT_ID 0 (if high = 65535 then 1 else high + 1)

/-! ### Cold start (R390, R398, R401, R407, R410, R411 steps 1 and 2) -/

/-- What a cold reset leaves of the state: what flash, latches and pins hold. Every other field is as after State.reset. -/
def State.coldState (s : State) : State :=
  let saved := s.adc.saved.map fun c => if c.valid then c else {}
  let t : State :=
    { pending := s.pending, free := s.free, regs := s.regs
      clk := { fs := s.clk.fsCfg, fsCfg := s.clk.fsCfg, refclk := s.clk.refclk }
      adc := { saved := saved }, book := { records := s.book.records }
      saf := { latch := s.saf.latch, key := s.saf.key, stored := s.saf.stored }
      fau := { retired := s.fau.retired, refreshNext := s.fau.refreshNext }
      plane := { temps := s.plane.temps }
      lnk := { lanes := s.lnk.lanes.map fun (l : Lane) => { swapped := l.swapped } }
      start := { booted := true, pinLow := s.start.pinLow } }
  t.takeColumn fun f => f.cold

/-- The straps are sampled (R410). -/
def State.takeStraps (s : State) (straps : Nat) : State :=
  ((s.wr F.MGT_STRAP_RECOVERY 0 (straps % 2)).wr F.MGT_STRAP_DEFAULT_IMAGE 0 (straps / 2 % 2)).wr F.MGT_STRAP_SMB_ADDR 0
    (straps / 4 % 4)

/-- The newest valid prompt book record is read: its incidents, its lock-out and PWR_PB_STAT; a newest area that holds no
valid record is reported (R401, R427). -/
def State.readBook (s : State) : State :=
  let s := match s.book.newest with
    | none => s
    | some r =>
      let s := (s.wr F.PWR_PB_STAT_LAST_KIND 0 r.kind).wr F.PWR_PB_STAT_RECNO 0 r.recno
      s.restoreIncidents r.incidents
  match s.book.records with
  | r :: _ => if r.valid then s else (s.flag F.PWR_EVT 2).report 0x4303 s.locKeeper r.recno
  | [] => s

/-- The safety channels start: in LOCKOUT when a record says so, else in STO (R367, R411). -/
def State.startSafety (s : State) : State :=
  let locked := s.saf.latch || (s.book.newest.any fun r => r.locked)
  ((s.onSaf fun x => { x with on := true, latch := locked }).wr F.SAF_STAT_STATE 0 (if locked then 4 else 0)).wr
    F.SAF_STAT_KEY_SET 0 (if s.saf.key.isSome then 1 else 0)

/-- Step 3, or recovery when STRAP[0] asks for it (R410, R411). -/
def State.enterLoad (s : State) : State := s.setPhase (if s.rdB F.MGT_STRAP_RECOVERY then 9 else 3)

/-- A cold start up to the flash load (R411 steps 1 and 2). -/
def State.coldStart (s : State) (straps : Nat) : State :=
  ((((s.coldState).takeStraps straps).readBook).startSafety).enterLoad

/-- COLD_RESET: VIN rises through the keeper boot threshold; the keeper boots (R390, R406, R411). A keeper that has supply
and runs sees no such rise. -/
def State.doColdReset (s : State) (straps : Nat) : State :=
  if s.pwr.alive && s.start.booted then s else s.coldStart straps

/-- KEEPER_RESTART: the halted keeper makes a cold start once filtered VIN has stayed at or above 34.0 V for 100 ticks and
its Tj (in degrees) is at least 10 degrees below its threshold (R62, R398). -/
def State.doKeeperRestart (s : State) (straps : Nat) (tj : Int) : State :=
  match s.pwr.vinHigh with
  | some t =>
    if s.pwr.alive ∧ s.pwr.stop = 2 ∧ tj ≤ 125 then (s.toTick (t + 100)).coldStart straps else s
  | none => s

/-! ### The flash load and the start of CX (R411 steps 3 and 4, R413) -/

/-- A channel as its registers set it when CX starts: range, filter chain, skew and region phase (R76, R126, R135). -/
def State.initChan (s : State) (ch : Nat) : Chan :=
  { range := s.rd F.AFE_RANGE_RANGE ch, decim := s.rd F.FLT_CHAIN_DECIM ch, order := s.rd F.FLT_CHAIN_ORDER ch
    host := s.rdS F.FLT_SKEW_SKEW ch, phase := s.rdS F.ADC_PLL_PHASE_PHASE (regionOf ch) }

/-- Is region r powered in stage k (R393)? -/
def stagePowers (k r : Nat) : Bool := decide (k < 3) || (decide (k = 3) && r == 0)

/-- The regions that the stage powers wait for the lock of their PLLs. -/
def State.startRegions (s : State) : State :=
  { s with regions := (List.range 4).map fun r =>
      { powered := stagePowers s.stage r, shed := !stagePowers s.stage r, thermal := s.plane.hot.getD (r / 2) false } }

/-- The lanes that the stage keeps start BRINGUP; the others are shed (R266). -/
def State.startLanes (s : State) : State :=
  s.forEach (List.range 24) fun s n =>
    if s.stageKeeps s.stage n then s.laneStart n else s.onLane n fun l => { l with shed := true }

/-- The rate last committed is preloaded at a cold start (R314). -/
def State.preloadTime (s : State) (cold : Bool) : State :=
  let rate := match cold, s.book.newest with
    | true, some r => r.rate
    | _, _ => 0
  s.onTim fun _ => { tnom := tNomOf s.clk.fs, rate := rate, relation := { tnom := tNomOf s.clk.fs, rate := rate } }

/-- The counter starts at 0 once its reference has locked to REFCLK (R302, R461), and every channel as its registers set it. -/
def State.initChans (s : State) : State :=
  { s with clk := { s.clk with count := 0, running := s.clk.refclk }, chans := (List.range 64).map s.initChan }

/-- No channel carries a marked span of counts. -/
def State.clearSpans (s : State) : State := { s with chans := s.chans.map fun c => { c with spans := [] } }

/-- CX is powered and the counter reference locks: the counter starts at 0, ingest waits for the regions, the ring and the
channelisers start as the stage has them, and lanes start BRINGUP (R302, R393, R411 step 4). DEDUCED: log entry 37. -/
def State.startCx (s : State) (cold : Bool) : State :=
  let s := s.onPlane fun p =>
    { p with zone := s.rd F.AFE_ZONE_ZONE + 2 ^ 32 * s.rd F.AFE_ZONE_ZONE 1, trim := s.rd F.ADC_CTL_CAL_MODE == 1 }
  let s := (s.preloadTime cold).loadCal
  let s := s.wrB F.ADC_REH_STAT_SAVED_VALID 0 s.newestSet.isSome
  let s := s.onPlane fun p => { p with cxOn := true, monitors := true, ingest := true, unitOn := 0 }
  let s := s.initChans
  let s := s.storeDwell (s.rd F.AFE_AR_DWELL_DWELL)
  let s := s.takeUnits s.unitMap 0
  let s := s.forEach allChans fun s ch => s.formSkew ch 0
  let s := s.clearSpans.startRegions
  let s := (if s.stage ≤ 3 then s.startRing 0 else s).startBudget s.budgetInterval
  let s := { s with pmc := { s.pmc with base := s.clk.tick } }
  ((s.chnSync).startLanes).setPhase 5

/-- The safety set is loaded and checked: the stored one, else that of the image (R370, R413). -/
def State.loadSafety (s : State) (image : List (Nat × Nat)) (ok : Bool) : State :=
  let fromImage := (List.range safWords).map fun i =>
    let a := F.SAF_CFG + 4 * i
    match image.find? fun p => p.1 == a with
    | some p => BitVec.ofNat 32 p.2
    | none => s.regGet a
  let set := s.saf.stored.getD fromImage
  if !ok then s.safLock 0x5701
  else
    let s := s.loadSafetySet set (setCrc set)
    s.wr F.SAF_STAT_STATE 0 (if !s.rdB F.SAF_CFG_MONITOR_EN then 7 else if s.saf.latch then 4 else 0)

/-- The feeds and slow sensors start as the image sets them (R384, R411). -/
def State.startKeeperIo (s : State) (sensorCal : Bool) : State :=
  let en := s.regGet F.AFE_FEED_EN
  ((s.wr F.AFE_FEED_EN_EN 0 0).doFeedEnWrite en).startSensors sensorCal

/-- The firmware slots at a cold start: slot boots, failed counts the slots whose authentication failed. With both failed
the module waits in recovery and alerts (R413). DEDUCED: log entry 36. -/
def State.bootFirmware (s : State) (slot failed : Nat) : State :=
  let s := s.wr F.MGT_START_STAT_FW_SLOT 0 (slot % 2)
  if failed = 0 then s
  else if failed = 1 then s.report 0x4403 s.locKeeper (1 - slot % 2)
  else ((s.report 0x4403 s.locKeeper 2).setPhase 9).onAccess fun x => { x with bootFail := true }

/-- CONFIGURATION_IMAGE_LOADED: the flash load of step 3 completes. slot and failed tell how the firmware slots fared, image
holds the configuration image when it is valid, sensorCal and safOk whether the sensors' calibration and the safety set passed
their checks (R411, R413). A warm reset reloads the image and the calibration set alone. -/
def State.doImageLoaded (s : State) (slot failed : Nat) (valid : Bool) (image : List (Nat × Nat)) (sensorCal safOk : Bool) :
    State :=
  if s.phase ≠ 3 ∨ s.start.hold.isSome ∨ s.plane.cxOn then s
  else
    let cold := decide (s.rd F.MGT_RESET_CAUSE_KIND ≠ 1)
    let s := if cold then s.bootFirmware slot failed else s
    if s.phase = 9 then s
    else
      let ignored := s.rdB F.MGT_STRAP_DEFAULT_IMAGE
      let s := s.wrB F.MGT_START_STAT_IMAGE_VALID 0 (valid && !ignored)
      let s := if !valid && !ignored then s.report 0x4402 s.locKeeper 0 else s
      let s := if valid && !ignored then s.loadImage (fun f => if cold then f.cold else f.warm) image else s
      let s := (s.loadBanks).wr F.FAU_FLASH_STAT_RETIRED 0 s.fau.retired.length
      let s := if cold then
          ((s.loadSafety (if valid && !ignored then image else []) safOk).startKeeperIo sensorCal)
        else s
      let s := if s.pwr.stop = 0 then s.startCx cold else s
      s.noteStart

/-! ### Warm reset (R407, R408, R427) -/

/-- A warm reset begins: CX and the QF dies are held in reset and lose their state; the keeper keeps its own (R407, R408).
The incident table is restored from the keeper's mirror (R427). A calibration set being written is lost.
DEDUCED: log entry 34. -/
def State.beginWarm (s : State) (fromPin : Bool) : State :=
  let s := s.stopSweep
  let inc := s.fau.inc
  let ports : List Port := s.ports.take 2 ++ List.replicate 8 ({} : Port)
  let lanes : List Lane := s.lnk.lanes.map fun (l : Lane) => { swapped := l.swapped }
  let s : State := { s with
    clk := { s.clk with fs := s.clk.fsCfg, count := 0, running := false }
    ports := ports
    banks := [], tim := {}, que := List.replicate 12 {}, prm := {}, stream := {}, chn := {}, wch := {}, trg := {}
    codec := [], pmc := {}, chans := List.replicate 64 {}, regions := List.replicate 4 {}
    lnk := { lanes := lanes }
    plane := { temps := s.plane.temps, hot := s.plane.hot }
    adc := { saved := s.adc.saved }
    fau := { retired := s.fau.retired, refreshNext := s.fau.refreshNext }
    start := { booted := true, pinLow := s.start.pinLow, highSince := s.start.highSince, hold := some s.clk.tick
               fromPin := fromPin } }
  (((s.takeColumn fun f => f.warm).setPhase 3).restoreIncidents inc).setModuleId 0

/-- The reset is released: the straps are sampled, MGT_RESET_EVT and MGT_RESET_CAUSE are written, and start-up continues from
step 3 (R408, R410, R411, R417). -/
def State.release (s : State) (straps : Nat) : State :=
  let s := (s.takeStraps straps).wr F.MGT_RESET_CAUSE_KIND 0 1
  let s := s.flag F.MGT_RESET_EVT (if s.start.fromPin then 0 else 1)
  (s.onStart fun x => { x with hold := none, fromPin := false, stuck := false }).enterLoad

/-- RESET_N_ASSERT: the filtered RESET_N pin goes low. A warm reset begins, unless OVERRIDE ignores the pin or S5 is under way (R408, R409,
R413). DEDUCED: log entry 35. -/
def State.doResetAssert (s : State) : State :=
  let s := s.onStart fun x => { x with pinLow := true, highSince := none }
  if s.rdB F.MGT_RESET_CAUSE_OVERRIDE || s.pwr.stop != 0 || !s.keeperRuns then s
  else if s.start.hold.isSome then s.onStart fun x => { x with fromPin := true, hold := some s.clk.tick }
  else s.beginWarm true

/-- RESET_N_RELEASE: the pin has been high for 10 us, or the millisecond of a WARM command has passed; start-up continues
from step 3 (R408). -/
def State.doResetRelease (s : State) (straps : Nat) : State :=
  let s := if s.start.pinLow then s.onStart fun x => { x with pinLow := false, highSince := some s.clk.tick } else s
  match s.start.hold with
  | none => s
  | some t =>
    let s := if s.start.stuck then s.conditionOver 0x4401 s.locKeeper else s
    (if s.start.fromPin then s else s.toTick (t + 1)).release straps

/-- WARM: a keyed write of MGT_RESET_CMD.WARM through a port (0 SMBus, 1 UART, 2 link); ignored in S5 and while a reset is
under way (R406, R408, R413). -/
def State.doWarm (s : State) (port : Nat) : State :=
  if s.pwr.stop ≠ 0 ∨ s.start.hold.isSome then s
  else (s.wr F.MGT_RESET_CAUSE_CMD_PORT 0 (min 2 port)).beginWarm false

/-- STUCK_RESET: RESET_N has been low for 30,001 ticks, or for 30,000, which may count (log entry 6): it is reported, and released when STUCK_RESET_RELEASE is set (R409). -/
def State.doStuckReset (s : State) (straps : Nat) : State :=
  match s.start.hold with
  | none => s
  | some t =>
    if s.start.fromPin ∧ s.start.pinLow ∧ !s.start.stuck then
      let (late, s) := s.freeBelow 2
      let s := (s.toTick (t + 30000 + late)).flag F.MGT_RESET_EVT 2
      let s := (s.onStart fun x => { x with stuck := true }).report 0x4401 s.locKeeper 0
      let s := { s with access := { s.access with ackStuck := false } }
      if s.rdB F.MGT_CFG_STUCK_RESET_RELEASE then (s.wr F.MGT_RESET_CAUSE_OVERRIDE 0 1).release straps else s
    else s

/-- OVERRIDE_CLEAR: RESET_N has stayed high for 1000 ticks (R409). -/
def State.doOverrideClear (s : State) : State :=
  match s.start.highSince with
  | some t =>
    if s.rdB F.MGT_RESET_CAUSE_OVERRIDE then
      ((s.toTick (t + 1000)).wr F.MGT_RESET_CAUSE_OVERRIDE 0 0).conditionOver 0x4401 s.locKeeper
    else s
  | none => s

/-! ### The end of start-up (R411 steps 6 to 8, R412) -/

/-- TIME_WAIT_EXPIRY: TIME_WAIT_S after lane 0 or 12 was UP with an ID, time is not LOCKED (R412). -/
def State.doTimeWaitExpiry (s : State) : State :=
  match s.start.waitFrom with
  | some t =>
    if s.phase = 6 ∧ s.timState ≠ timLocked ∧ !s.rdB F.MGT_START_STAT_TIME_WAIT_EXPIRED then
      ((s.toTick (t + 1000 * s.rd F.MGT_CFG_TIME_WAIT_S)).wr F.MGT_START_STAT_TIME_WAIT_EXPIRED 0 1).report 0x4404
        s.locKeeper 0
    else s
  | none => s

/-- STARTUP_REHEARSAL: time is LOCKED or its wait has expired; with AUTO_REHEARSAL, Rehearsal is started in every region, and
one that has no power has the result NOT_RUN (R106, R411 step 7, R413). Factory-trim mode runs none (R116). -/
def State.doStartRehearsal (s : State) (ns : Nat) : State :=
  if s.phase = 6 ∧ (s.timState = timLocked ∨ s.rdB F.MGT_START_STAT_TIME_WAIT_EXPIRED) then
    let s := s.setPhase 7
    if s.rdB F.MGT_CFG_AUTO_REHEARSAL && !s.factoryTrim then
      s.doRehearsalStart 15 ns
    else s
  else s

/-- STARTUP_READY: step 7 has ended; an APPLY is issued when the stream is enabled, and READY is set (R411 step 8). -/
def State.doStartReady (s : State) : State :=
  if s.phase = 7 ∧ s.rehIdle then
    let s := if s.rdB F.CDC_STREAM_CTL_EN then s.doStreamApply else s
    (s.setPhase 8).wr F.MGT_START_STAT_READY 0 1
  else s

/-! ### Data-plane restart (R407, R414) -/

/-- RESTART: a keyed write of MGT_RESET_CMD.RESTART through a port; ignored during a warm reset, before READY and while a
restart runs. During a rate switch it waits for its end (R414). -/
def State.doRestart (s : State) (port : Nat) : State :=
  if s.start.hold.isSome || !s.rdB F.MGT_START_STAT_READY || s.restarting then s
  else
    let s := (s.wr F.MGT_RESET_CAUSE_CMD_PORT 0 (min 2 port)).flag F.MGT_RESET_EVT 1
    if s.plane.switch.any fun w => w.stage != 0 then s.onPlane fun p => { p with restartWait := true }
    else
      let n := nextMultiple 1024 (s.clk.count + 1)
      (s.wr F.MGT_START_STAT_RESTART_BUSY 0 1).onStart fun x =>
        { x with restartAt := some (n, s.clk.count), restartStopped := false }

/-- RATE_SWITCH_RESUME as a restart sees it: one that waited for the switch starts (R414). -/
def State.doSwitchResumeStart (s : State) : State :=
  let t := s.doSwitchResume
  if t.plane.restartWait && t.plane.switch.isNone then
    let n := nextMultiple 1024 (t.clk.count + 1)
    ((t.onPlane fun p => { p with restartWait := false }).wr F.MGT_START_STAT_RESTART_BUSY 0 1).onStart fun x =>
      { x with restartAt := some (n, t.clk.count), restartStopped := false }
  else t

/-- Every queue but that of class 0 loses its packets. -/
def State.dropPackets (s : State) : State :=
  let que : List Queue := s.que.take 1 ++ List.replicate 11 ({} : Queue)
  { s with que := que }

/-- The queues of classes 1 to 3 are emptied, and active flushes and drops end (R242). -/
def State.emptyQueues (s : State) : State :=
  let s := s.dropPackets
  let s := (s.wr F.QUE_CMD_STAT_FLUSH_BUSY 0 0).wr F.QUE_CMD_STAT_DROP_BUSY 0 0
  s.onLnk fun l => { l with cur := List.replicate 4 none, openPath := List.replicate 4 none }

/-- RESTART_INGEST_STOP: at the multiple of 1024 ingest stops, the queues empty, and cues, jobs and commands end with the records,
trailers and entries that the host sees (R201, R345, R414, step 2). A rate switch not yet under way is given up. -/
def State.doRestartStop (s : State) : State :=
  match s.start.restartAt with
  | none => s
  | some (n, from_) =>
    if s.start.restartStopped || !s.restarting then s
    else
      let s := s.toCount n
      let s := (s.drainBefore n s.chn.records.length).endAll n
      let s := ((s.cutWrites.emptyQueues.closeCuesEarly).abortJobs.prmRestart).discardAllTags.endCal
      let s := s.onPlane fun p => { p with ingest := false, switch := none }
      (s.wchSync).onStart fun x => { x with restartAt := some (n, from_), restartStopped := true }

/-- Changes that wait take effect at count n, in channels that take no samples too: their PENDING bits read 0 after a restart
(R417, R17; DEDUCED, log entry 16). -/
def State.settlePending (s : State) (ch n : Nat) : State :=
  let s := if s.rdB F.AFE_RANGE_PENDING ch then s.applyRange ch n else s
  let s := if s.rdB F.FLT_SKEW_PENDING ch then s.applySkew ch n true true else s
  let s := s.forEach (s.chan ch).notchAt fun s p => s.applyNotch ch n p
  s.forEach (s.chan ch).chainAt fun s p => s.applyChain ch n p

/-- Bank swaps and an APPLY that wait take effect at count n (R417; DEDUCED, log entry 16). -/
def State.settleSwaps (s : State) (n : Nat) : State :=
  let s := if s.chn.swapAt.isSome then
      { s with chn := { s.chn with swapAt := some n } }.doProtoSwapApply
    else s
  let s := if s.wch.segAt.isSome then s.segSwapNow else s
  let s := if s.wch.maskAt.isSome then s.maskSwapNow n else s
  match s.stream.pend with
  | some (modes, en, _, left) =>
    let s := { s with stream := { s.stream with pend := none } }
    let s := (s.wrB F.CDC_STREAM_CTL_EN_ACTIVE 0 en).wr F.CDC_STREAM_STAT_APPLY_PENDING 0 0
    s.forEach (mapChans left) fun s ch => s.setMode ch n (modes.getD ch 0) en
  | none => s

/-- The pace faults' state after a restart: PACE_STAT takes its column, and a stop of the data plane ends (R417, R48). At FMAX
the rate stays, RATE_REDUCED goes on, and RESTORE is ignored from then on (R45, R46). DEDUCED: log entry 84. -/
def State.restartPace (s : State) : State :=
  let s := s.onPlane fun p =>
    { p with stopped := false, low := 0, ok := 0
             reduced := if s.clk.fs = s.clk.fsCfg then p.reduced.map fun q => (q.1, some (q.2.getD s.clk.count)) else p.reduced }
  (s.forEach [0, 1, 2, 3, 4] fun s n => s.conditionOver 0x2001 (s.locMonitor n)).conditionOver 0x2002 s.locModule

/-- RESTART_RESUME: 3.0 to 3.2 ms (in us) after the start, ingest resumes at the first multiple of 1024 at least 32 samples later. The
ring restarts with a RING_RESET mark, the watch cells prime, and every register takes its restart column (R17, R414,
step 4). A save under way goes on (R113). DESIGN CHOICE: log entry 77. -/
def State.doRestartResume (s : State) (us : Nat) : State :=
  match s.start.restartAt with
  | none => s
  | some (_, from_) =>
    if !s.start.restartStopped then s
    else
      let s := s.toCount (from_ + s.samplesUs (clampNat 3000 3200 us))
      let n := boundaryAfter 1024 s.clk.count
      let s := s.toCount n
      let s := if s.plane.cxFault then
          ((s.onPlane fun p => { p with cxFault := false }).conditionOver 0x2120 s.locCx).conditionOver 0x4301 s.locCx
        else s
      let s := (s.forEach allChans fun s ch => s.settlePending ch n).settleSwaps n
      let ks := (List.range 9).filter fun i => s.rd F.TRG_SRC_STAT_K i != 0
      let s := s.forEach ks fun s i => s.setPrescale i 0 n
      let s := (s.takeColumn fun f => f.restart).restartPace
      let s := (s.wr F.MGT_RESET_CAUSE_KIND 0 2).onStart fun x => { x with restartAt := none, restartStopped := false }
      let s := s.onTrg fun t => { t with z := none, r := none, lastBlind := false, blindRun := 0 }
      let s := if s.stage ≤ 3 then s.startRing n else s
      let s := s.forEach (List.range 4) fun s r => s.onRegion r fun x => if x.live then { x with resumeAt := none } else x
      let s := (s.onPlane fun p => { p with ingest := true }).beginAll false n
      (s.wchRestart).chnSync

end Sys2Proof.Machine
end

