-- ==== Sys2Proof/Machine/Bus.lean ====
section
/-! DEFINITION. Register access (R11 to R16, R451 to R454): reads with the pair latch, writes by access code with the row
commands that registers start, what ports report, and the Prompter's register commands (R334, R335). -/

namespace Sys2Proof.Machine

/-! ### The address space (R451, R452) -/

/-- Does an address lie in the watch-cell window or the ring window (R451)? -/
def inCells (a : Nat) : Bool := decide (0x01000000 ≤ a ∧ a < 0x01200000)
/-- Does an address lie in the capture-ring diagnostic window (R451)? -/
def inRingWindow (a : Nat) : Bool := decide (0x02000000 ≤ a ∧ a < 0x03000000)

/-- Bases of the blocks with the die field of R451. -/
def blocks : List (Nat × Nat) :=
  [ (0x000000, 3), (0x010000, 3), (0x040000, 15), (0x080000, 15), (0x0C0000, 15), (0x100000, 2), (0x140000, 2),
    (0x180000, 2), (0x1C0000, 2), (0x200000, 2), (0x240000, 2), (0x280000, 2), (0x2C0000, 2), (0x300000, 3),
    (0x340000, 3), (0x380000, 2), (0x3C0000, 2) ]

/-- The base of the block that an address falls in. -/
def blockOf (a : Nat) : Option Nat :=
  if a < 0x400000 then ((blocks.filter fun b => decide (b.1 ≤ a)).getLast?).map fun b => b.1 else none

/-- The die field of event 0x160 for an address (R451, R452). -/
def dieOfAddr (a : Nat) : Nat :=
  if inCells a || inRingWindow a then 2
  else if a < 0x400000 then (((blocks.filter fun b => decide (b.1 ≤ a)).getLast?).map fun b => b.2).getD 15
  else 15

/-- Is this an assigned register: aligned, and in a register table (R12)? -/
def isReg (a : Nat) : Bool := a % 4 == 0 && (regAt a).isSome

/-- Do the keeper's own blocks and the feeds hold this register (R451, R87)? -/
def onKeeper (a : Nat) : Bool :=
  decide (a < 0x40000) || decide (0x41000 ≤ a ∧ a < 0x42000) || decide (0x300000 ≤ a ∧ a < 0x380000)

/-! ### Values as they stand (R11, R243, R269, R324, R436) -/

/-- The two words of a 64-bit value: low, then high. -/
def halfWord (v : Int) (high : Bool) : Word := BitVec.ofInt 32 (if high then v / 2 ^ 32 else v)

/-- A time register whose value follows from the time unit (R324), if the address is one. -/
def State.timeReg (s : State) (a : Nat) : Option Word :=
  let t := s.tim
  if a = F.TIM_COUNT_LO then some (halfWord s.clk.count false)
  else if a = F.TIM_COUNT_HI then some (halfWord s.clk.count true)
  else if a = F.TIM_NOW_LO then some (halfWord s.nowNs false)
  else if a = F.TIM_NOW_HI then some (halfWord s.nowNs true)
  else if a = F.TIM_NOW_FRAC then some (BitVec.ofInt 32 (s.now % 65536))
  else if a = F.TIM_OFFSET_LO then some (halfWord (t.offset / 65536) false)
  else if a = F.TIM_OFFSET_HI then some (halfWord (t.offset / 65536) true)
  else if a = F.TIM_OFFSET_FRAC then some (BitVec.ofInt 32 (t.offset % 65536))
  else if a = F.TIM_RATE then some (BitVec.ofInt 32 t.rate)
  else if a = F.TIM_TNOM_LO then some (halfWord t.tnom false)
  else if a = F.TIM_TNOM_HI then some (BitVec.ofNat 32 (t.tnom / 2 ^ 32 % 4))
  else if a = F.TIM_SECONDS_LO then some (halfWord (secondsOf s.now) false)
  else if a = F.TIM_SECONDS_HI then some (halfWord (secondsOf s.now) true)
  else none

/-- The oldest ready word of a queue without removing it; the blank item when there is none (R230, R243). -/
def Queue.peek (q : Queue) : QWord :=
  match q.reading with
  | some p => p.words.headD blankItem
  | none => match q.waiting with
    | p :: _ => p.words.headD blankItem
    | [] => blankItem

/-- A queue register whose value follows from the queue (R243), if the address is one. -/
def State.queueReg (s : State) (a : Nat) : Option Word :=
  if a < F.QUE_STAT ∨ F.QUE_STAT + 0x1C0 ≤ a then none
  else
    let q := (a - F.QUE_STAT) % 0x100 / 16
    let x := s.queue q
    let w := x.peek
    match (a - F.QUE_STAT) / 0x100 * 4 + (a - F.QUE_STAT) % 16 / 4 with
    | 0 => some (BitVec.ofNat 32 (x.waiting.length + x.reading.isSome.toNat * 2 ^ 16))
    | 1 => some (BitVec.ofNat 32 x.fill)
    | 4 => some (BitVec.ofNat 32 w.toNat)
    | 5 => some (BitVec.ofNat 32 ((qData w).toNat / 2 ^ 32))
    | 6 => some (BitVec.ofNat 32 ((qEop w).toNat + 2 * qTag w + 8 * (qParity w).toNat + 16 * (qParityOk w).toNat))
    | _ => none

/-- FAU_INC: a half of a word of an incident entry (R420, R436), if the address is one. -/
def State.incReg (s : State) (a : Nat) : Option Word :=
  if a < F.FAU_INC_LO ∨ F.FAU_INC_LO + 8192 ≤ a then none
  else
    let k := (a - F.FAU_INC_LO) / 8
    let w := ((s.incAt (k / 4)).words.getD (k % 4) 0).toNat
    some (BitVec.ofNat 32 (if (a - F.FAU_INC_LO) % 8 = 0 then w else w / 2 ^ 32))

/-- LNK_UP: bit n tells that lane n is UP (R269). -/
def State.upMap (s : State) : Nat := bitMap 24 fun n => s.laneUp n

/-- Is this a register of cue source 5 or 8, which read 0 and ignore writes (R202)? -/
def deadSource (a : Nat) : Bool :=
  (decide (F.TRG_SRC_CFG ≤ a ∧ a < F.TRG_SRC_CFG + 0x90) &&
    ((a - F.TRG_SRC_CFG) / 16 == 5 || (a - F.TRG_SRC_CFG) / 16 == 8)) ||
  (decide (F.TRG_SRC_MAP_LO ≤ a ∧ a < F.TRG_SRC_MAP_LO + 0x48) &&
    ((a - F.TRG_SRC_MAP_LO) / 8 == 5 || (a - F.TRG_SRC_MAP_LO) / 8 == 8))

/-- The value of a register as it stands at a read (R13). -/
def State.regNow (s : State) (a : Nat) : Word :=
  match s.timeReg a with
  | some w => w
  | none =>
    match s.queueReg a with
    | some w => w
    | none =>
      match s.incReg a with
      | some w => w
      | none =>
        if deadSource a then 0
        else if a = F.LNK_UP then BitVec.ofNat 32 s.upMap
        else if a = F.FAU_STAT then setField (s.regGet a) 0 9 s.openIncidents
        else if a = F.ADC_CTL ∧ s.factoryTrim then setField (s.regGet a) 2 1 0
        else s.shown a

/-- The value at an address as it stands: a window word, a register, or 0 at an unassigned address (R12, R156, R453). -/
def State.peek (s : State) (a : Nat) : Word :=
  if a % 4 ≠ 0 then 0
  else if inCells a then
    let c := (tableGet 0 s.wch.cells ((a - 0x01000000) / 8)).toNat
    BitVec.ofNat 32 (if a % 8 = 0 then c else c / 2 ^ 32)
  else if inRingWindow a then s.ringWord (a - 0x02000000)
  else if isReg a then s.regNow a
  else 0

/-! ### Reads (R11, R454) -/

/-- Register pairs: address of the first low word, stride, number of pairs, and the distances of the words that a low
read latches (R11). DEDUCED: log entry 23. -/
def pairs : List (Nat × Nat × Nat × List Nat) :=
  [ (F.TIM_COUNT_LO, 8, 1, [4]), (F.TIM_NOW_LO, 8, 1, [4, 8]), (F.TIM_TNOM_LO, 8, 1, [4]), (F.TIM_SECONDS_LO, 8, 1, [4]),
    (F.TIM_JUMP_OFS_LO, 8, 1, [4]), (F.TIM_PPS_SEC_LO, 8, 1, [4]), (F.CHN_FRAME_LO, 8, 1, [4]),
    (F.TRG_FREEZE_LO, 8, 1, [4]), (F.TRG_SRC_MAP_LO, 8, 9, [4]), (F.WCH_MASK_CHAN_LO, 16, 16, [4]),
    (F.PMC_SNAP_COUNT_LO, 8, 1, [4]), (F.PMC_TRC_CHAN_LO, 8, 1, [4]), (F.PMC_FOCUS_LO, 16, 16, [4]),
    (F.PMC_CNT_LO, 8, 512, [4]), (F.PMC_SNAP_LO, 8, 528, [4]), (F.QUE_PEEK_LO, 16, 12, [4, 8]),
    (F.FAU_INC_LO, 8, 1024, [4]), (F.PRM_DB_BASE_LO, 8, 2, [4]), (F.PRM_RING_BASE_LO, 16, 36, [4]) ]

/-- The addresses that a read of a latches, none unless a is the low word of a pair (R11, R156, R324). -/
def latchedBy (a : Nat) : List Nat :=
  if a = F.TIM_OFFSET_LO then [F.TIM_OFFSET_HI, F.TIM_OFFSET_FRAC]
  else if inCells a then (if a % 8 = 0 then [a + 4] else [])
  else
    match pairs.find? fun p => decide (p.1 ≤ a) && (a - p.1) % p.2.1 == 0 && decide ((a - p.1) / p.2.1 < p.2.2.1) with
    | some p => p.2.2.2.map fun d => a + d
    | none => []

/-- Port p. -/
def State.port (s : State) (p : Nat) : Port := s.ports.getD p {}

/-- Change port p. -/
def State.onPort (s : State) (p : Nat) (f : Port → Port) : State := { s with ports := s.ports.modify p f }

/-- Status codes of an access (R335, R476). -/
def accDone : Nat := 0
def accRefused : Nat := 1
def accAddr : Nat := 2

/-- Does an access find something at an address: an aligned register or window word (R12, R335)? -/
def assigned (a : Nat) : Bool := a % 4 == 0 && (inCells a || inRingWindow a || isReg a)

/-- A port reads an address: a low word loads the port's latch; a high word that the latch holds comes from it (R11). The port
returns the value and a status. A read of the ring's window takes a burst of the read port (R453). -/
def State.portRead (s : State) (p a : Nat) : State :=
  let s := if inRingWindow a && a % 4 == 0 then s.diagRead 4 else s
  let now := s.peek a
  let v := match (s.port p).words.find? fun w => w.1 == a with
    | some w => if a % 4 = 0 then w.2 else 0
    | none => now
  let hi := latchedBy a
  s.onPort p fun x =>
    { low := if hi.isEmpty then x.low else some a
      words := if hi.isEmpty then x.words else hi.map fun b => (b, s.peek b)
      value := if hi.isEmpty then v else now
      status := if assigned a then accDone else accAddr }

/-! ### Stores by access code (R13, R14, R15) -/

/-- Fields that store the nearer limit: register base, lowest bit, least and greatest value (the tables named in R455).
DEDUCED: log entry 63. -/
def clamps : List (Nat × Nat × Nat × Nat) :=
  [ (F.MGT_CFG, 8, 1, 15), (F.AFE_FEED_CFG, 0, 2, 100), (F.AFE_FEED_TP, 16, 1, 65535), (F.ADC_CTL, 4, 4, 10),
    (F.WCH_CTL, 8, 1, 8), (F.WCH_EVT_BUCKET, 16, 1, 65535), (F.WCH_CHAN, 0, 4, 16), (F.WCH_MASK_CFG, 16, 1, 255),
    (F.WCH_MASK_HITS, 0, 1, 4096), (F.TRG_RO_CFG, 0, 500, 65535), (F.TRG_OUT, 16, 1, 255), (F.TRG_RATE_CFG, 0, 1, 255),
    (F.TRG_SRC_WIN, 0, 0, 1024), (F.TRG_SRC_WIN, 16, 1, 1024), (F.TRG_DET, 1, 16, 255), (F.TRG_DET, 16, 1, 255),
    (F.TRG_COINC, 1, 1, 4), (F.TRG_COINC, 8, 1, 256), (F.QUE_LINGER, 0, 1, 1000), (F.QUE_LINGER, 16, 1, 10000),
    (F.LNK_MEM_CFG, 8, 10, 255), (F.LNK_RX_CFG, 0, 50, 4095), (F.TIM_JUMP_THR, 0, 1, 16777215), (F.TIM_SERVO, 0, 2, 10),
    (F.TIM_SERVO, 4, 6, 15), (F.TIM_SERVO, 8, 2, 15), (F.TIM_SERVO, 16, 50, 4095), (F.TIM_PPS_CFG, 8, 1, 255),
    (F.PRM_POLL, 0, 25, 100000), (F.SNS_CTL, 8, 1, 255), (F.FAU_STATION_CTL, 0, 0, 8), (F.PMC_CTL, 0, 1, 10000),
    (F.PMC_CTL, 16, 8, 24) ]

/-- The value that a field of the register with base b stores for a value written. -/
def stored (b lo v : Nat) : Nat :=
  if b = F.TRG_SRC_CFG ∧ lo = 2 ∧ 6 ≤ v then 4
  else if b = F.ADC_CTL ∧ lo = 0 ∧ 2 ≤ v then 0
  else
    match clamps.find? fun c => c.1 == b && c.2.1 == lo with
    | some c => clampNat c.2.2.1 c.2.2.2 v
    | none => v

/-- The word after each field has taken a written word by its access code (R13, R14). A locked RWL field keeps its value
(R15). -/
def storedWord (r : RegDef) (locked : Bool) (old w : Word) : Word :=
  r.fields.foldl (fun x f =>
    let v := stored r.base f.lo (getField w f.lo f.width)
    match f.acc with
    | .rw | .rwv => setField x f.lo f.width v
    | .rwl => if locked then x else setField x f.lo f.width v
    | .w1c => setField x f.lo f.width (getField old f.lo f.width &&& (2 ^ f.width - 1 - getField w f.lo f.width))
    | .cnt => if getField w f.lo f.width = 0 then setField x f.lo f.width 0 else x
    | .ro | .wo => x) old

/-- Would a write change an RWL field (R15)?. DEDUCED: log entry 21. -/
def changesLocked (r : RegDef) (old w : Word) : Bool :=
  r.fields.any fun f => f.acc == .rwl &&
    stored r.base f.lo (getField w f.lo f.width) != getField old f.lo f.width

/-- Is COMMIT in force, so that RWL fields are locked (R15, R330)? -/
def State.locked (s : State) : Bool := s.rdB F.PRM_STAT_COMMITTED

/-- Each field of a register stores a written word by its access code. -/
def State.store (s : State) (r : RegDef) (a : Nat) (w : Word) : State :=
  s.regPut a (storedWord r s.locked (s.regGet a) w)

/-! ### Registers with an effect of their own -/

/-- The operations that the bits of a command register start: (bit, operation). -/
def State.commands (s : State) (w : Word) (ops : List (Nat × (State → State))) : State :=
  ops.foldl (fun s p => if w.toNat.testBit p.1 then p.2 s else s) s

/-- Management and power registers (R48, R71, R404, R417), none when the register has no effect of its own. -/
def State.writeMgt (s : State) (r : RegDef) (port a : Nat) (w : Word) : Option State :=
  let b := r.base
  if b = F.MGT_RESET_CMD then
    some (if getField w 16 16 = 0x4B57 then s.commands w [(0, fun s => s.doWarm port), (1, fun s => s.doRestart port)] else s)
  else if b = F.MGT_MODULE_ID then some (s.doModuleId w)
  else if b = F.PWR_FORCE then some (s.doForceStage w)
  else if b = F.PWR_CMD then some (s.commands w [(0, State.doPbCommit), (1, State.doVinClrMin)])
  else if b = F.PWR_PACE_CMD then
    some (s.commands w [(0, State.doPaceSwitch), (1, State.doPaceRestore), (2, State.doPaceClrMin)])
  else if b = F.AFE_FEED_EN then some (s.doFeedEnWrite w)
  else if b = F.AFE_FEED_TP then some ((s.store r a w).commands w [(1, State.doFeedSweep)])
  else if b = F.SNS_IN_CFG then some (s.writeSensorCfg ((a - b) / 4) w)
  else if b = F.SNS_CTL then some (s.writeSensorCtl w)
  else if b = F.SNS_SW_CFG then some (s.writeSwitchCfg ((a - b) / 16) w)
  else if b = F.SNS_SW_ON then some (s.writeSwitchThr ((a - b) / 16) true w)
  else if b = F.SNS_SW_OFF then some (s.writeSwitchThr ((a - b) / 16) false w)
  else none

/-- ADC_CTL: CAL_MODE 2 or 3 stores 0 with a configuration fault (R123). -/
def State.writeAdcCtl (s : State) (r : RegDef) (w : Word) : State :=
  let t := s.store r F.ADC_CTL w
  if 2 ≤ getField w 0 2 then t.configFault s.locCx F.ADC_CTL else t

/-- FLT_CHAIN: DECIM, ORDER and SWAP of one write make one chain change (R135). -/
def State.writeFltChain (s : State) (ch : Nat) (w : Word) (ns : Nat) : State :=
  s.writeChain ch (getField w 0 2) (getField w 2 2) (getField w 4 1 == 1) ns

/-- Registers of inputs, converters and filters (R96, R123, R146). ns is the time that a write takes to its channel. DESIGN
CHOICE (log entry 82): START of a write of ADC_REH_CMD comes before its SAVE and LOAD. -/
def State.writeFront (s : State) (r : RegDef) (a : Nat) (w : Word) (ns : Nat) : Option State :=
  let b := r.base
  let i := (a - b) / r.stride
  if b = F.AFE_UNIT_EN then some (s.doUnitEnableWrite i w)
  else if b = F.AFE_RANGE then some (s.doRangeWrite i w ns)
  else if b = F.AFE_AR_THR then some (s.doArThrWrite w)
  else if b = F.AFE_AR_DWELL then some (s.storeDwell (getField w 0 16))
  else if b = F.ADC_CTL then some (s.writeAdcCtl r w)
  else if b = F.ADC_REH_CMD then
    let s := if getField w 0 4 = 0 then s else s.doRehearsalStart (getField w 0 4) ns
    some (s.commands w [(4, State.doCalSave), (5, State.doCalLoad)])
  else if b = F.ADC_INJ_REQ then some (s.doInjectRequest w ns)
  else if b = F.ADC_CAL then some (s.writeCal i w)
  else if b = F.FLT_CHAIN then some (s.writeFltChain i w ns)
  else if b = F.FLT_SKEW then some (s.doSkewWrite i w ns)
  else if b = F.FLT_SKEW_CAL then some (s.doSkewCal (getField w 0 16) ns)
  else if b = F.FLT_NOTCH then some (s.doNotchWrite i w ns)
  else if b = F.FLT_NOTCH_BW then some (s.doNotchBwWrite i w ns)
  else if b = F.FLT_FIR_COEF then some (s.writeFir i w)
  else none

/-- A write of WCH_EVT_BUCKET: the boundaries passed so far fed the bucket by the old PER_FRAME, and it holds at most the new
DEPTH (R160). -/
def State.writeBucket (s : State) (r : RegDef) (w : Word) : State :=
  let s := if 8192 ≤ s.clk.count then s.feedTokens (s.clk.count / 8192 - 1) else s
  let s := s.store r F.WCH_EVT_BUCKET w
  s.onWch fun x => { x with tokens := min (s.rd F.WCH_EVT_BUCKET_DEPTH) x.tokens }

/-- WCH_CTL (R151, R155, R167). -/
def State.writeWchCtl (s : State) (r : RegDef) (w : Word) : State :=
  ((s.store r F.WCH_CTL w).wchSync).commands w [(1, State.doSegSwap), (3, State.doMaskSwap)]

/-- WCH_CHAN: K and the record and cue enables (R155, R167). -/
def State.writeWchan (s : State) (r : RegDef) (ch : Nat) (w : Word) : State :=
  (s.doKChange ch (getField w 0 5)).store r (F.WCH_CHAN + 4 * ch) w

/-- TRG_DET: a detector that is switched on starts anew (R174). -/
def State.writeDet (s : State) (r : RegDef) (ch : Nat) (w : Word) : State :=
  let was := s.rdB F.TRG_DET_EN ch
  let s := s.store r (F.TRG_DET + 4 * ch) w
  if !was && s.rdB F.TRG_DET_EN ch && (s.chan ch).since.isSome then s.startDetector ch s.clk.count else s

/-- CDC_STREAM_MODE: a mode that is none is discarded with a configuration fault (R225). -/
def State.writeStreamMode (s : State) (r : RegDef) (ch : Nat) (w : Word) : State :=
  let m := getField w 0 4
  if m = 0 ∨ (2 ≤ m ∧ m ≤ 5) then s.store r (F.CDC_STREAM_MODE + 4 * ch) w
  else s.configFault (s.locCxUnit ch) (F.CDC_STREAM_MODE + 4 * ch)

/-- Registers of the channelisers, watch cells, cues, codec and queues (R147, R167, R202, R225, R243). -/
def State.writeCore (s : State) (r : RegDef) (a : Nat) (w : Word) : Option State :=
  let b := r.base
  let i := (a - b) / r.stride
  if deadSource a then some s
  else if b = F.CHN_CTL then some ((s.doChnEnWrite (getField w 0 1 == 1)).commands w [(1, State.doProtoSwap)])
  else if b = F.WCH_CTL then some (s.writeWchCtl r w)
  else if b = F.WCH_EVT_BUCKET then some (s.writeBucket r w)
  else if b = F.WCH_CHAN then some (s.writeWchan r i w)
  else if b = F.TRG_CTL then some ((s.store r a w).commands w [(1, State.doFreeze), (2, State.doRearm)])
  else if b = F.TRG_SW then some (s.commands w [(0, State.doSoftwareCue)])
  else if b = F.TRG_DET then some (s.writeDet r i w)
  else if b = F.TRG_COINC then some ((s.store r a w).checkCombiner i)
  else if b = F.CDC_STREAM_CMD then some (s.commands w [(0, State.doStreamApply)])
  else if b = F.CDC_JOB_CTL then some ((s.store r a w).commands w [(1, State.doCodecCancel)])
  else if b = F.CDC_STREAM_MODE then some (s.writeStreamMode r i w)
  else if b = F.QUE_CMD then
    some (s.commands w (((List.range 8).map fun g => (g, fun (s : State) => s.doQueueFlush g)) ++ [(8, State.doDrop3)]))
  else if b = F.QUE_HWM then some (s.doHwmReset i)
  else none

/-- LNK_MEM_CFG: a change of PATH with class 2 in memory is judged by admission (R38, R300, R338). -/
def State.writeMemCfg (s : State) (r : RegDef) (w : Word) : State :=
  let c := s.admitCfg
  let new := getField w 0 1
  s.judge (if c.inMem && new != c.memPath then AdmitCfg.refusedBy { c with memPath := new } s.clk.fs else none)
    (fun s p => (s.store r F.LNK_MEM_CFG (setField w 0 1 c.memPath)).admitFault p) fun s => s.store r F.LNK_MEM_CFG w

/-- TIM_CTL: a new source or primary path ends a calibration and selects the path anew (R316, R319, R320). -/
def State.writeTimCtl (s : State) (r : RegDef) (w : Word) : State :=
  let old := s.regGet F.TIM_CTL
  let s := s.store r F.TIM_CTL w
  if s.regGet F.TIM_CTL = old then s else s.endCal.selectPath.checkHoldover

/-- Registers of links, time, Prompter, faults and counters (R269, R300, R324, R346, R436, R450). -/
def State.writeLink (s : State) (r : RegDef) (a : Nat) (w : Word) : Option State :=
  let b := r.base
  let i := (a - b) / r.stride
  if b = F.LNK_PATH_CFG then some (s.writePathCfg w)
  else if b = F.LNK_CMD then some (s.commands w [(0, State.doClrErr)])
  else if b = F.LNK_LANE_CTL then some (s.writeLaneCtl i w)
  else if b = F.LNK_CLASS_POL then some (s.doClassPolicyWrite w)
  else if b = F.LNK_MEM_CFG then some (s.writeMemCfg r w)
  else if b = F.TIM_CTL then some (s.writeTimCtl r w)
  else if b = F.TIM_CMD then
    some (s.commands w [(0, State.doAcceptJump), (1, State.doAsymCal), (2, State.doAsymApply)])
  else if b = F.PRM_CTL then some (s.commands w [(0, State.doCommit)])
  else if b = F.PRM_RING_CMD then some (s.commands w [(8, fun s => s.doRingResume (getField w 0 6))])
  else if b = F.FAU_CMD then
    some (s.commands w [(8, fun s => s.doClose (getField w 0 8)), (9, State.doPurgePrevious)])
  else if b = F.PMC_CTL then
    let s := s.store r a w
    some { s with pmc := { s.pmc with base := s.clk.tick } }
  else if b = F.PMC_CMD then
    some (s.commands w [(0, State.doSnap), (1, State.doClrWrap), (2, State.doDumpNow)])
  else if b = F.PMC_FOCUS_CFG then some (s.doFocusWrite i 0 w)
  else if b = F.PMC_FOCUS_LOC then some (s.doFocusWrite i 1 w)
  else none

/-- A write reaches its register: its own effect, or each field by its access code (R13). -/
def State.writeReg (s : State) (r : RegDef) (port a : Nat) (w : Word) (ns : Nat) : State :=
  match s.writeMgt r port a w with
  | some t => t
  | none =>
    match s.writeFront r a w ns with
    | some t => t
    | none =>
      match s.writeCore r a w with
      | some t => t
      | none =>
        match s.writeLink r a w with
        | some t => t
        | none => s.store r a w

/-! ### Writes (R12, R15, R16, R454) -/

/-- A write to an address that holds nothing writable is discarded and counted (R12, R452, R453). -/
def State.unassignedWrite (s : State) (a : Nat) : State := s.count 0x160 (s.locDie (dieOfAddr a)) 1

/-- A write that would change a locked field: fault 0x1002, counted under event 0x161 (R15). -/
def State.lockedWrite (s : State) (a : Nat) : State := (s.report 0x1002 s.locCx a).count 0x161 s.locCx 1

/-- The word that a write stores beside locked RWL fields, which keep what they hold. -/
def keepLocked (r : RegDef) (old w : Word) : Word :=
  r.fields.foldl (fun x f => if f.acc == .rwl then setField x f.lo f.width (getField old f.lo f.width) else x) w

/-- A port writes an address, and the state with the status that the port returns (R12, R15, R16, R335). The time to a channel
on a QF die is a free value of 100 to 500 ns (R77). While CX is off or in reset, a write to one of its registers has no
effect (log entry 8). -/
def State.portWrite (s : State) (p a : Nat) (w : Word) : Nat × State :=
  if inCells a || inRingWindow a then (if a % 4 = 0 then accRefused else accAddr, s.unassignedWrite a)
  else if a % 4 ≠ 0 then (accAddr, s.unassignedWrite a)
  else
    match regAt a with
    | none => (accAddr, s.unassignedWrite a)
    | some r =>
      if F.SAF_STAT ≤ a ∧ a < F.SAF_STAT + 0x40000 then (accRefused, s)
      else if !onKeeper a && !s.cxRuns then (accDone, s)
      else
        let old := s.regGet a
        let (n, s) := s.freeBelow 401
        if s.locked && changesLocked r old w then
          (accRefused, (s.lockedWrite a).writeReg r p a (keepLocked r old w) (100 + n))
        else (accDone, s.writeReg r p a w (100 + n))

/-- A port writes, and keeps the status it returns. -/
def State.portStore (s : State) (p a : Nat) (w : Word) : State :=
  let r := s.portWrite p a w
  r.2.onPort p fun x => { x with status := r.1 }

/-- REGISTER_WRITE: a port (0 SMBus, 1 UART, 2 + r command ring r) writes a register (R13). -/
def State.doRegisterWrite (s : State) (p a : Nat) (w : Word) : State := s.portStore (p % 10) (a % 2 ^ 32) w

/-- PAIR_LOW_READ: a port reads the low word of a pair and its latch takes the rest (R11). -/
def State.doPairRead (s : State) (p a : Nat) : State := s.portRead (p % 10) (a % 2 ^ 32)

/-- WATCH_CELL_READ: a port reads a word of a watch cell (R156). cell counts from channel 0, subband 0. -/
def State.doCellRead (s : State) (p cell : Nat) (high : Bool) : State :=
  s.portRead (p % 10) (0x01000000 + 8 * (cell % 262144) + (if high then 4 else 0))

/-- DIAG_WINDOW_READ: a port reads a word of the capture-ring window (R453). -/
def State.doDiagRead (s : State) (p word : Nat) : State := s.portRead (p % 10) (0x02000000 + 4 * (word % 2 ^ 22))

/-! ### The Prompter's register commands (R334, R335, R454) -/

/-- REG_WR: writes a register through the ring's own port and completes with a status. One that starts a warm reset never
completes (R345, R406). -/
def State.doRegWr (s : State) : State :=
  match s.turnOf 0x02 with
  | some c =>
    let a := (c.words.getD 1 0).toNat % 2 ^ 32
    let r := (s.startCmd c).portWrite (2 + c.ring) a (BitVec.ofNat 32 (c.words.getD 2 0).toNat)
    if r.2.start.hold.isSome then r.2 else (r.2.finishCmd c.ring c.idx 0 r.1 0 0).serve
  | none => s

/-- REG_RD: reads a register through the ring's own port into its completion entry (R11, R334). -/
def State.doRegRd (s : State) : State :=
  match s.turnOf 0x03 with
  | some c =>
    let s := (s.startCmd c).portRead (2 + c.ring) ((c.words.getD 1 0).toNat % 2 ^ 32)
    let x := s.port (2 + c.ring)
    (s.finishCmd c.ring c.idx (BitVec.ofNat 64 x.value.toNat) x.status 0 0).serve
  | none => s

/-- Does a range of bytes stay in one block or window (R335, R451)? -/
def inOneBlock (a n : Nat) : Bool :=
  (inCells a && inCells (a + n - 4)) || (inRingWindow a && inRingWindow (a + n - 4)) ||
    ((blockOf a).isSome && blockOf a == blockOf (a + n - 4))

/-- BLOCK_RD: copies register or window space to host memory as class 3 output (R334, R335). DEDUCED: log entry 22. -/
def State.doBlockRd (s : State) : State :=
  match s.turnOf 0x04 with
  | some c =>
    let a := (c.words.getD 1 0).toNat % 2 ^ 32
    let n := (c.words.getD 2 0).toNat % 2 ^ 32
    let out := (c.words.getD 3 0).toNat
    let s := s.startCmd c
    if n % 8 ≠ 0 ∨ n < 8 ∨ 16777216 < n ∨ out % 8 ≠ 0 then (s.finishCmd c.ring c.idx 0 4 0 0).serve
    else if a % 8 ≠ 0 || !inOneBlock a n then (s.finishCmd c.ring c.idx 0 accAddr 0 0).serve
    else
      let ws := (List.range (n / 8)).map fun i =>
        word64 [(32, (s.peek (a + 8 * i + 4)).toNat), (0, (s.peek (a + 8 * i)).toNat)]
      let s := if inRingWindow a then s.diagRead n else s
      ((s.pushOutput c.ring c.idx out ws).finishCmd c.ring c.idx 0 0 0 n).serve
  | none => s

/-! ### Configuration scrub (R430) -/

/-- The location of a configuration word's owner (R419, R430): the unit of a channel's word on its QF die, the keeper, or CX. -/
def State.ownerLoc (s : State) (a : Nat) : Nat :=
  match regAt a with
  | none => s.locCx
  | some r =>
    let i := (a - r.base) / r.stride
    if onKeeper a then s.locKeeper
    else if r.base = F.AFE_UNIT_EN ∨ r.base = F.AFE_ZONE then s.locDie i
    else if r.base = F.AFE_RANGE ∨ r.base = F.FLT_CHAIN ∨ r.base = F.FLT_SKEW then s.locUnit i
    else if r.base = F.ADC_CAL then s.locUnit (i / 32)
    else if r.base = F.FLT_NOTCH ∨ r.base = F.FLT_NOTCH_BW then s.locUnit (i / 8)
    else if r.base = F.FLT_FIR_COEF then s.locUnit (i / 128)
    else s.locCx

/-- Is this a configuration word: a register with RW, RWL or RWV fields outside the safety monitor (R430)? -/
def isConfig (a : Nat) : Bool :=
  isReg a && !decide (F.SAF_STAT ≤ a ∧ a < F.SAF_STAT + 0x40000) &&
    ((regAt a).any fun r => r.fields.any fun f => f.acc == .rw || f.acc == .rwl || f.acc == .rwv)

/-- The write that gives a word's configuration fields their cold values and leaves its flags and counts alone. -/
def coldWrite (r : RegDef) (a : Nat) : Word :=
  r.fields.foldl (fun x f =>
    match f.acc with
    | .rw | .rwl | .rwv => setField x f.lo f.width (getField (coldWord a) f.lo f.width)
    | .cnt => setField x f.lo f.width 1
    | .ro | .wo | .w1c => x) 0

/-- CONFIG_SCRUB: the scrub reads a configuration word: all copies agree (0), one differs and is rewritten (1), or all differ
(2), and the word takes its cold value as a change of its fields (R430). Four disagreements within 1 s are reported.
DESIGN CHOICE: log entry 24. -/
def State.doConfigScrub (s : State) (a kind : Nat) : State :=
  if !isConfig a || kind == 0 then s
  else if kind = 1 then
    let l := s.ownerLoc a
    let s := ((s.satAdd F.FAU_SCRUB_TOTAL_COUNT 0 1).flag F.FAU_EVT 2).count 0x181 l 1
    let hits := (a, s.clk.tick) :: s.fau.scrubHits.filter fun h => decide (s.clk.tick < h.2 + 1000)
    let s := s.onFau fun f => { f with scrubHits := hits, scrubSecond := f.scrubSecond + 1 }
    if 4 ≤ (hits.filter fun h => h.1 == a).length then s.report 0x6002 l a else s
  else
    match regAt a with
    | none => s
    | some r =>
      let s := s.report 0x6003 (s.ownerLoc a) a
      let (n, s) := s.freeBelow 401
      let w := coldWrite r a
      let kept := s.regPut a (storedWord r false (s.regGet a) w)
      (if r.fields.any fun f => f.acc == .rwl then kept else s).writeReg r 0 a w (100 + n)

/-! ### Flash refresh (R431) and the reference clock (R27) -/

/-- Data found uncorrectable in flash: a saved calibration set (item 1 or 2) or a prompt book record (3 + its age) is invalid from
now on; an image or firmware slot shows at the next start (R113, R401, R413, R431). -/
def State.loseItem (s : State) (item : Nat) : State :=
  if item = 0 then s
  else if item ≤ 2 then
    let s := s.onAdc fun a => { a with saved := a.saved.modify (item - 1) fun c => { c with valid := false } }
    s.wrB F.ADC_REH_STAT_SAVED_VALID 0 s.newestSet.isSome
  else s.onBook fun b => { b with records := b.records.modify (item - 3) fun r => { r with valid := false } }

/-- The next block to refresh: the first after the last one that is not retired. -/
def State.nextBlock (s : State) (n : Nat) : Nat :=
  (((List.range 256).map fun i => (n + i) % 256).find? fun b => !s.fau.retired.contains b).getD 0

/-- FLASH_REFRESH: 337.5 s after the last one, the refresh reads the next block and finds at most worst corrected bits in a unit (3 for uncorrectable). Two
mean a copy to a spare block and an erase, which may fail and retire the block. Above 125 degrees refresh waits (R62,
R431). -/
def State.doFlashRefresh (s : State) (worst : Nat) (eraseOk : Bool) (item : Nat) : State :=
  if s.plane.hot.getD 4 false then s
  else
    let b := s.nextBlock s.fau.refreshNext
    let s := s.toTick (s.fau.refreshTick + 337500)
    let s := s.onFau fun f => { f with refreshNext := (b + 1) % 256, refreshTick := s.clk.tick }
    let l := s.locDie 4
    if 3 ≤ worst then (s.report 0x6005 l b).loseItem item
    else if worst = 2 && !eraseOk then
      let s := s.onFau fun f => { f with retired := f.retired ++ [b] }
      (s.wr F.FAU_FLASH_STAT_RETIRED 0 s.fau.retired.length).report 0x6004 l b
    else s

/-- REFCLK_LOSS: the keeper derives the slow tick from its own oscillator, unsynchronised, and reports it (R27). A counter that runs
goes on, and PLLs that lose lock do so by their own commands. DESIGN CHOICE: log entry 93. -/
def State.doRefclkLoss (s : State) : State :=
  if s.clk.refclk then ({ s with clk := { s.clk with refclk := false } }).report 0x3107 s.locKeeper 0 else s

/-- REFCLK_RETURN: the slow tick is derived from REFCLK again (R27); a counter that has waited for it starts (R411, R461). -/
def State.doRefclkReturn (s : State) : State :=
  if s.clk.refclk then s
  else
    let held := s.plane.switch.any fun w => w.stage != 0
    let run := s.clk.running || (s.plane.cxOn && s.pwr.stop != 2 && !held)
    ({ s with clk := { s.clk with refclk := true, running := run } }).conditionOver 0x3107 s.locKeeper

end Sys2Proof.Machine
end

