-- ==== Sys2Proof/Machine/Flags.lean ====
section
/-! DEFINITION. What the module shows at its balls as flags of its state: the SMBus alert (R409, R413, R415, R476) and the
status outputs (R415). -/

namespace Sys2Proof.Machine

/-- The entries of the incident table that are open. -/
def State.openIds (s : State) : List Nat := (s.fau.inc.filter fun x => x.st == .opened).map fun x => x.id

/-- Is SMB_ALERT_N asserted: an open incident, a stuck reset or a failed boot that no Alert Response Address read has
released yet (R409, R415, R416, R476)? -/
def State.smbAlert (s : State) : Bool :=
  (s.openIds.any fun i => !s.access.acked.contains i) || (s.start.stuck && !s.access.ackStuck)
    || (s.access.bootFail && !s.access.ackBoot)

/-! ### Status outputs (R415) -/

/-- STAT_OUT[0] to [2]. DESIGN CHOICE: log entry 65. -/
def State.statOut (s : State) : Bool × Bool × Bool :=
  let up := s.keeperRuns && s.start.hold.isNone
  ( up && s.rdB F.MGT_START_STAT_READY, up && s.plane.cxOn && s.timState == timLocked,
    up && decide (s.openIncidents = 0) )

end Sys2Proof.Machine
end

