-- ==== Sys2Proof/Machine/Access.lean ====
section
/-! DEFINITION. The access ports (R370, R415, R476 to R478): the SMBus target and its alert, the management UART, and the
JTAG port. -/

namespace Sys2Proof.Machine

/-! ### SMBus (R476) -/

/-- SMBUS_WRITE: command 0x10 with its address, its data, and whether its PEC is right. DESIGN CHOICE: log entry 25. -/
def State.doSmbusWrite (s : State) (a : Nat) (w : Word) (pecOk : Bool) : State :=
  if pecOk then s.portStore 0 (a % 2 ^ 32) w else s

/-- SMBUS_SET_READ_ADDRESS: command 0x11. -/
def State.doSmbusAddress (s : State) (a : Nat) (pecOk : Bool) : State :=
  if pecOk then s.onAccess fun x => { x with smbAddr := a % 2 ^ 32 } else s

/-- SMBUS_READ: command 0x12; the port then holds the status and the data returned. -/
def State.doSmbusRead (s : State) : State :=
  (s.portRead 0 s.access.smbAddr).onAccess fun x => { x with smbAddr := (x.smbAddr + 4) % 2 ^ 32 }

/-- ALERT_RESPONSE: an Alert Response Address read releases the alert; a later incident asserts it again.
DEDUCED: log entry 26. -/
def State.doAlertResponse (s : State) : State :=
  if s.smbAlert then
    let ids := s.openIds
    s.onAccess fun x => { x with acked := ids, ackStuck := true, ackBoot := true }
  else s

/-! ### The management UART (R478) -/

/-- One bit of a CRC-8 with polynomial 0x07. -/
def crc8Bit (c : Nat) : Nat := if c / 128 % 2 = 1 then (c * 2 % 256) ^^^ 7 else c * 2 % 256

/-- CRC-8 over bytes, from the initial value 0. -/
def crc8 (bytes : List Nat) : Nat :=
  bytes.foldl (fun c b => (List.range 8).foldl (fun c _ => crc8Bit c) (c ^^^ b % 256)) 0

/-- The four bytes of a word, least significant first. -/
def wordBytes (n : Nat) : List Nat := [n % 256, n / 256 % 256, n / 65536 % 256, n / 16777216 % 256]

/-- Bytes 1 to 9 of a UART frame. -/
def uartBody (op a : Nat) (data : List Nat) : List Nat := op :: (wordBytes a ++ data)

/-- A whole UART frame. -/
def uartFrame (op a : Nat) (data : List Nat) : List Nat :=
  0x57 :: (uartBody op a data ++ [crc8 (uartBody op a data)])

/-- The module answers with a frame. -/
def State.uartAnswer (s : State) (op a : Nat) (data : List Nat) : State :=
  s.onAccess fun x => { x with answer := uartFrame op a data }

/-- UART_WRITE: OP 0x10, with the CRC as received. The answer holds the status in byte 9; R478 states nothing of bytes 6 to
8, which are free (log entry 6). -/
def State.doUartWrite (s : State) (a : Nat) (w : Word) (crc : Nat) : State :=
  let a := a % 2 ^ 32
  if crc = crc8 (uartBody 0x10 a (wordBytes w.toNat)) then
    let t := s.portStore 1 a w
    let (n, t) := t.freeBelow (2 ^ 24)
    t.uartAnswer 0x10 a ((wordBytes n).take 3 ++ [(t.port 1).status])
  else s

/-- UART_READ: OP 0x12, with its data field and CRC as received; the answer holds the value. -/
def State.doUartRead (s : State) (a : Nat) (w : Word) (crc : Nat) : State :=
  let a := a % 2 ^ 32
  if crc = crc8 (uartBody 0x12 a (wordBytes w.toNat)) then
    let t := s.portRead 1 a
    t.uartAnswer 0x12 a (wordBytes (t.port 1).value.toNat)
  else s

/-- KEY_PROVISIONING: OP 0x30 gives the module its 128-bit safety key while the monitor is DISABLED or locked out (R370);
the answer carries the same OP, and R478 states nothing of its address and data. -/
def State.doKeyProvisioning (s : State) (key : Nat) (crcOk : Bool) : State :=
  if crcOk then
    let (a, s) := s.freeBelow (2 ^ 32)
    let (d, s) := s.freeBelow (2 ^ 32)
    let s := if s.safState = 7 ∨ s.safState = 4 then
        (s.onSaf fun x => { x with key := some (key % 2 ^ 128) }).wr F.SAF_STAT_KEY_SET 0 1
      else s
    s.uartAnswer 0x30 a (wordBytes d)
  else s

/-- UART_FRAME_GAP: a partial frame with a gap of more than 10 ms is discarded without an answer. -/
def State.doUartGap (s : State) : State := s

/-- SMBUS_CLOCK_LOW_TIMEOUT: the transaction in progress is aborted; a transaction acts only when it is complete. -/
def State.doSmbusTimeout (s : State) : State := s

/-! ### JTAG (R477) -/

/-- The identification code of the silicon step. -/
def idcode : Nat := if Config.stepB then 0x2641256B else 0x1641256B

/-- Codes of the selected instruction as the model keeps them: R477 gives no encodings. -/
def irIdcode : Nat := 0
def irBypass : Nat := 1
def irSample : Nat := 2
def irExtest : Nat := 3
def irClamp : Nat := 4
def irHighz : Nat := 5

/-- An instruction takes effect: the data register it selects holds what it captured, and the balls take a mode. -/
def State.jtagSelect (s : State) (ir dr : Nat) (mode : ScanMode) : State :=
  s.onAccess fun x => { x with jtagIr := ir, jtagDr := dr, scan := mode }

/-- JTAG_TEST_LOGIC_RESET: IDCODE is selected and the balls follow the module. -/
def State.doTestLogicReset (s : State) : State := s.jtagSelect irIdcode idcode .mission

/-- BYPASS: the one-bit bypass register, which captures 0. -/
def State.doBypass (s : State) : State := s.jtagSelect irBypass 0 .mission

/-- IDCODE: the identification register. -/
def State.doIdcode (s : State) : State := s.jtagSelect irIdcode idcode .mission

/-- SAMPLE/PRELOAD: the boundary-scan register captures the balls, and what is shifted in preloads it. -/
def State.doSamplePreload (s : State) (balls shifted : Nat) : State :=
  (s.jtagSelect irSample balls .mission).onAccess fun x => { x with bsr := shifted }

/-- EXTEST: the scanned balls are driven from the boundary-scan register; the inputs are captured and a new pattern is
shifted in. -/
def State.doExtest (s : State) (balls shifted : Nat) : State :=
  (s.jtagSelect irExtest balls .extest).onAccess fun x => { x with bsr := shifted }

/-- CLAMP: the scanned outputs hold what the boundary-scan register drives, with bypass selected. -/
def State.doClamp (s : State) : State := s.jtagSelect irClamp 0 .clamp

/-- HIGHZ: the scanned outputs go to high impedance, with bypass selected. -/
def State.doHighz (s : State) : State := s.jtagSelect irHighz 0 .highz

end Sys2Proof.Machine
end

