-- ==== Sys2Proof/Machine/Operands.lean ====
section
/-! DEFINITION. How the operands of a command reach the module: when a command finds the keeper and CX running (R390, R408,
R411), and the writes that a port makes to a register with a command or a field of its own (R13, R335). -/

namespace Sys2Proof.Machine

/-- A command acts only while the keeper runs: it has supply, has booted and has not halted (R390, R398, R411). -/
def State.keeperDo (s : State) (f : State → State) : State := if s.keeperRuns then f s else s

/-- A command of CX or a QF die acts only while the keeper and CX run (R408, R411). DESIGN CHOICE: log entry 5.
DESIGN CHOICE: log entry 18. -/
def State.cxDo (s : State) (f : State → State) : State := if s.keeperRuns && s.cxRuns then f s else s

/-- A command that the halted keeper still takes: it has supply and has booted (R398). -/
def State.bootedDo (s : State) (f : State → State) : State := if s.pwr.alive && s.start.booted then f s else s

/-- A port writes a register (R12 to R16, R335). DESIGN CHOICE: log entry 19. -/
def State.hostWrite (s : State) (p a : Nat) (w : Word) : State := s.portStore p a w

/-- A port writes one field of register i of an array, and the rest of the word as it reads. -/
def State.hostField (s : State) (p : Nat) (f : Fld) (i n : Nat) : State :=
  s.hostWrite p (f.base + f.stride * i) (setField (s.shown (f.base + f.stride * i)) f.lo f.width n)

/-- A port writes 1 to a command bit of register i of an array, and the rest of the word as it reads. -/
def State.hostBit (s : State) (p : Nat) (f : Fld) (i : Nat) : State := s.hostField p f i 1

end Sys2Proof.Machine
end

