-- ==== Sys2Proof/Machine/Accesses.lean ====
section
/-! DEFINITION. The commands of register accesses, the access ports, the reference clock and the module ID (R11 to
R13, R27, R66, R156, R453, R476 to R478): one meaning for each constructor, over the operations of the block's
parts. -/

namespace Sys2Proof.Machine

/-- REGISTER_WRITE (R13): A write to a register that has no row of its own stores each field according to its access
code. -/
def execRegisterWrite (p : Fin 10) (a : BitVec 32) (w : Word) (s : State) : Host.Outcome State Fault Refusal :=
  .next (s.keeperDo fun s => s.doRegisterWrite p a.toNat w)

/-- PAIR_LOW_READ (R11): A read of the low word of a 64-bit pair loads the port's pair latch with the high word. -/
def execPairLowRead (p : Fin 10) (a : BitVec 32) (s : State) : Host.Outcome State Fault Refusal :=
  .next (s.keeperDo fun s => s.doPairRead p a.toNat)

/-- WATCH_CELL_READ (R156): A host read of a watch cell returns the whole cell as it stood before or after an
update, within 2 µs. -/
def execWatchCellRead (p : Fin 10) (cell : Fin 262144) (high : Bool) (s : State) : Host.Outcome State Fault Refusal :=
  .next (s.keeperDo fun s => s.doCellRead p cell high)

/-- DIAG_WINDOW_READ (R453): A read of the capture-ring diagnostic window takes one slot of the ring read port's
last share. -/
def execDiagWindowRead (p : Fin 10) (word : Fin 4194304) (s : State) : Host.Outcome State Fault Refusal :=
  .next (s.keeperDo fun s => s.doDiagRead p word)

/-- REFCLK_LOSS (R27): When REFCLK is absent, the keeper derives the slow tick from its internal oscillator and
reports a fault. -/
def execRefclkLoss (s : State) : Host.Outcome State Fault Refusal :=
  .next (s.keeperDo fun s => s.doRefclkLoss)

/-- MODULE_ID_WRITE (R66): A write of MGT_MODULE_ID sets the module ID from the next frame boundary on each lane. -/
def execModuleIdWrite (p : Fin 10) (id : BitVec 16) (s : State) : Host.Outcome State Fault Refusal :=
  .next (s.keeperDo fun s => s.hostWrite p F.MGT_MODULE_ID (BitVec.ofNat 32 id.toNat))

/-- SMBUS_WRITE (R476): SMBus command 0x10 writes a 32-bit register. -/
def execSmbusWrite (a : BitVec 32) (w : Word) (pecOk : Bool) (s : State) : Host.Outcome State Fault Refusal :=
  .next (s.keeperDo fun s => s.doSmbusWrite a.toNat w pecOk)

/-- SMBUS_SET_READ_ADDRESS (R476): SMBus command 0x11 sets the port's read address. -/
def execSmbusSetReadAddress (a : BitVec 32) (pecOk : Bool) (s : State) : Host.Outcome State Fault Refusal :=
  .next (s.keeperDo fun s => s.doSmbusAddress a.toNat pecOk)

/-- SMBUS_READ (R476): SMBus command 0x12 reads the register at the read address and adds 4 to the address. -/
def execSmbusRead (s : State) : Host.Outcome State Fault Refusal :=
  .next (s.keeperDo fun s => s.doSmbusRead)

/-- ALERT_RESPONSE (R476): An Alert Response Address read releases SMB_ALERT_N. -/
def execAlertResponse (s : State) : Host.Outcome State Fault Refusal :=
  .next (s.keeperDo fun s => s.doAlertResponse)

/-- UART_WRITE (R478): A management UART frame with OP 0x10 writes a register and is answered. -/
def execUartWrite (a : BitVec 32) (w : Word) (crc : BitVec 8) (s : State) : Host.Outcome State Fault Refusal :=
  .next (s.keeperDo fun s => s.doUartWrite a.toNat w crc.toNat)

/-- UART_READ (R478): A management UART frame with OP 0x12 reads a register and returns its value. -/
def execUartRead (a : BitVec 32) (w : Word) (crc : BitVec 8) (s : State) : Host.Outcome State Fault Refusal :=
  .next (s.keeperDo fun s => s.doUartRead a.toNat w crc.toNat)

/-- KEY_PROVISIONING (R370): A management UART frame with OP 0x30 provisions the safety key while the monitor is
DISABLED or locked out. -/
def execKeyProvisioning (key : BitVec 128) (crcOk : Bool) (s : State) : Host.Outcome State Fault Refusal :=
  .next (s.keeperDo fun s => s.doKeyProvisioning key.toNat crcOk)

/-- JTAG_TEST_LOGIC_RESET (R477): A JTAG test-logic reset selects IDCODE. -/
def execJtagTestLogicReset (s : State) : Host.Outcome State Fault Refusal :=
  .next (s.doTestLogicReset)

/-- BYPASS (R477): The JTAG BYPASS instruction selects the bypass register. -/
def execBypass (s : State) : Host.Outcome State Fault Refusal :=
  .next (s.doBypass)

/-- IDCODE (R477): The JTAG IDCODE instruction returns the device identification code. -/
def execIdcode (s : State) : Host.Outcome State Fault Refusal :=
  .next (s.doIdcode)

/-- SAMPLE_PRELOAD (R477): The JTAG SAMPLE/PRELOAD instruction samples or preloads the boundary-scan register. -/
def execSamplePreload (balls : BitVec 64) (shifted : BitVec 64) (s : State) : Host.Outcome State Fault Refusal :=
  .next (s.doSamplePreload balls.toNat shifted.toNat)

/-- EXTEST (R477): The JTAG EXTEST instruction drives the scanned balls from the boundary-scan register. -/
def execExtest (balls : BitVec 64) (shifted : BitVec 64) (s : State) : Host.Outcome State Fault Refusal :=
  .next (s.doExtest balls.toNat shifted.toNat)

/-- CLAMP (R477): The JTAG CLAMP instruction holds the scanned outputs and selects bypass. -/
def execClamp (s : State) : Host.Outcome State Fault Refusal :=
  .next (s.doClamp)

/-- HIGHZ (R477): The JTAG HIGHZ instruction places the scanned outputs in high impedance. -/
def execHighz (s : State) : Host.Outcome State Fault Refusal :=
  .next (s.doHighz)

/-- REFCLK_RETURN (R27): REFCLK comes back, and the slow tick is again derived from it and marked synchronised. -/
def execRefclkReturn (s : State) : Host.Outcome State Fault Refusal :=
  .next (s.keeperDo fun s => s.doRefclkReturn)

/-- UART_FRAME_GAP (R478): A gap of more than 10 ms between bytes of a management UART frame discards the partial
frame without an answer. -/
def execUartFrameGap (s : State) : Host.Outcome State Fault Refusal :=
  .next (s.doUartGap)

/-- SMBUS_CLOCK_LOW_TIMEOUT (R476): The SMBus clock held low for 25 to 35 ms aborts the transaction in progress. -/
def execSmbusClockLowTimeout (s : State) : Host.Outcome State Fault Refusal :=
  .next (s.doSmbusTimeout)

end Sys2Proof.Machine
end

