-- ==== Sys2Proof/Machine/Antennas.lean ====
section
/-! DEFINITION. The commands of input ranges and antenna feeds (R76 to R94): one meaning for each constructor, over
the operations of the block's parts. -/

namespace Sys2Proof.Machine

/-- RANGE_WRITE (R77): A write of AFE_RANGE sets PENDING and schedules a range change. -/
def execRangeWrite (p : Fin 10) (ch : Fin 64) (w : Word) (s : State) : Host.Outcome State Fault Refusal :=
  .next (s.keeperDo fun s => s.hostWrite p (F.AFE_RANGE + 4 * ch) w)

/-- RANGE_CHANGE_APPLY (R76): A range change takes effect at block count N_c, and the affected blocks carry
RANGE_CHG and SETTLE. -/
def execRangeChangeApply (ch : Fin 64) (s : State) : Host.Outcome State Fault Refusal :=
  .next (s.cxDo fun s => s.doRangeApply ch)

/-- AUTO_RANGE_DECISION (R84): At the end of each dwell window, the auto-ranger schedules a range step up or down.
-/
def execAutoRangeDecision (ch : Fin 64) (s : State) : Host.Outcome State Fault Refusal :=
  .next (s.cxDo fun s => s.doAutoRange ch)

/-- AR_THR_WRITE (R85): A write of AFE_AR_THR is refused unless 1000 × HI > 1303 × LO. -/
def execArThrWrite (p : Fin 10) (w : Word) (s : State) : Host.Outcome State Fault Refusal :=
  .next (s.keeperDo fun s => s.hostWrite p F.AFE_AR_THR w)

/-- FEED_STATE_TICK (R87): On each tick the keeper evaluates the state of each feed from its latched comparators. -/
def execFeedStateTick (current : List Nat) (opened : BitVec 32) (lineUp : BitVec 32) (back : BitVec 32) (s : State)
    : Host.Outcome State Fault Refusal :=
  .next (s.keeperDo fun s => s.doFeedTick current opened.toNat lineUp.toNat back.toNat)

/-- FEED_EN_WRITE (R87): A write of AFE_FEED_EN switches feeds on with soft start, or off. -/
def execFeedEnWrite (p : Fin 10) (w : Word) (s : State) : Host.Outcome State Fault Refusal :=
  .next (s.keeperDo fun s => s.hostWrite p F.AFE_FEED_EN w)

/-- FEED_OVERLOAD_TRIP (R90): A feed held in current limit past its time is switched off and enters OVERLOAD. -/
def execFeedOverloadTrip (a : Fin 32) (s : State) : Host.Outcome State Fault Refusal :=
  .next (s.keeperDo fun s => s.doFeedTrip a)

/-- FEED_RETRY (R90): 100 ticks after an overload, the keeper switches the feed on again with a new soft start. -/
def execFeedRetry (a : Fin 32) (s : State) : Host.Outcome State Fault Refusal :=
  .next (s.keeperDo fun s => s.doFeedRetry a)

/-- FEED_SWEEP (R91): A SWEEP write starts a test-pulse sweep for shorts between feeds. -/
def execFeedSweep (p : Fin 10) (s : State) : Host.Outcome State Fault Refusal :=
  .next (s.keeperDo fun s => s.hostBit p F.AFE_FEED_TP_SWEEP 0)

/-- FEED_SWEEP_PERIODIC (R91): With PERIODIC set, a sweep starts every PERIOD_S seconds. -/
def execFeedSweepPeriodic (s : State) : Host.Outcome State Fault Refusal :=
  .next (s.keeperDo fun s => s.doFeedSweepPeriodic)

/-- FEED_SWEEP_START_UP (R91): After a cold start, a sweep starts once all enabled feeds have left soft start. -/
def execFeedSweepStartUp (s : State) : Host.Outcome State Fault Refusal :=
  .next (s.keeperDo fun s => s.doFeedSweepStartUp)

/-- FEED_TEST_PULSE (R91): On a tick of a sweep, the next eligible feed is switched off and connected to the
discharge sink. -/
def execFeedTestPulse (before : List Nat) (s : State) : Host.Outcome State Fault Refusal :=
  .next (s.keeperDo fun s => s.doFeedPulse before)

/-- FEED_PULSE_END (R91): At the end of a test pulse, the keeper compares the line, names any SHORTED feed and
PARTNER, and restores the feed. -/
def execFeedPulseEnd (lineHigh : Bool) (now : List Nat) (s : State) : Host.Outcome State Fault Refusal :=
  .next (s.keeperDo fun s => s.doFeedPulseEnd lineHigh now)

/-- FEED_SWEEP_END (R91): One tick after the last pulse, the sweep ends and clears BUSY. -/
def execFeedSweepEnd (s : State) : Host.Outcome State Fault Refusal :=
  .next (s.keeperDo fun s => s.doFeedSweepEnd)

/-- VFEED_UNDERVOLTAGE (R94): VFEED below its under-voltage threshold puts all feeds into NO_SUPPLY and opens one
keeper incident. -/
def execVfeedUndervoltage (mv10 : Nat) (s : State) : Host.Outcome State Fault Refusal :=
  .next (s.keeperDo fun s => s.doVfeedUnder mv10)

/-- VFEED_RECOVER (R87): When VFEED recovers, each feed returns to the state that its EN gives. -/
def execVfeedRecover (mv10 : Nat) (s : State) : Host.Outcome State Fault Refusal :=
  .next (s.keeperDo fun s => s.doVfeedRecover mv10)

end Sys2Proof.Machine
end

