-- ==== Sys2Proof/Machine/Channels.lean ====
section
/-! DEFINITION. The commands of the channels of the data plane: unit enables, raw blocks, unit, region and die
faults, and region PLLs (R52 to R63, R115, R170, R394): one meaning for each constructor, over the operations of the
block's parts. -/

namespace Sys2Proof.Machine

/-- RAW_BLOCK_WRITE (R170): A raw block is written to its capture-ring slot, with an attribute log entry when its
attributes change. -/
def execRawBlockWrite (ch : Fin 64) (n : Nat) (conv : List Int) (ahead : List Int) (s : State) :
    Host.Outcome State Fault Refusal :=
  .next (s.cxDo fun s => s.doRawBlock ch n (conv ++ ahead))

/-- UNIT_ENABLE_WRITE (R52): A write of AFE_UNIT_EN is checked as a stream configuration change. -/
def execUnitEnableWrite (p : Fin 10) (half : Fin 2) (w : Word) (s : State) : Host.Outcome State Fault Refusal :=
  .next (s.keeperDo fun s => s.hostWrite p (F.AFE_UNIT_EN + 4 * half) w)

/-- UNIT_ENABLE_TAKE_EFFECT (R52): An accepted unit enable change takes effect at the channel's next packet
boundary. -/
def execUnitEnableTakeEffect (s : State) : Host.Outcome State Fault Refusal :=
  .next (s.cxDo fun s => s.doUnitEnableEffect)

/-- REGION_FAULT (R59): A fault of a region's PLL, power domain or bundle takes out that region and opens one region
incident. -/
def execRegionFault (r : Fin 4) (kind : Fin 2) (s : State) : Host.Outcome State Fault Refusal :=
  .next (s.cxDo fun s => s.doRegionFault r kind)

/-- CAL_SOURCE_FAULT (R58): A fault of a cluster calibration source is reported once, and the cluster stops
accepting calibrations. -/
def execCalSourceFault (g : Fin 16) (s : State) : Host.Outcome State Fault Refusal :=
  .next (s.cxDo fun s => s.doSourceFault g)

/-- REGION_PLL_LOCK (R115): When a region PLL achieves lock, the phase detector's reading replaces the region phase.
-/
def execRegionPllLock (r : Fin 4) (reading : Int) (s : State) : Host.Outcome State Fault Refusal :=
  .next (s.cxDo fun s => s.doPllLock r reading)

/-- REGION_RESTORE (R394): A region powered up by a stage change resumes ingest at the first eligible count after
lock. -/
def execRegionRestore (r : Fin 4) (s : State) : Host.Outcome State Fault Refusal :=
  .next (s.cxDo fun s => s.doRegionRestore r)

/-- UNIT_FAILURE (R55): A unit fails, its blocks carry POISON from then on and its faults carry the unit's location
code. -/
def execUnitFailure (ch : Fin 64) (s : State) : Host.Outcome State Fault Refusal :=
  .next (s.cxDo fun s => s.doUnitFailure ch)

/-- DIE_FAULT (R63): A fault common to a die, a QF die's analog supply or a CX fault, takes out both regions of that
QF die or stops the whole data plane. -/
def execDieFault (d : Fin 3) (s : State) : Host.Outcome State Fault Refusal :=
  .next (s.cxDo fun s => s.doDieFault d)

end Sys2Proof.Machine
end

