-- ==== Sys2Proof/Machine/Clock.lean ====
section
/-! DEFINITION. The commands of network time (R304 to R322): one meaning for each constructor, over the operations
of the block's parts. -/

namespace Sys2Proof.Machine

/-- ORIGIN (R311): An ORIGIN frame on lane 0 or lane 12 is stamped as t2 of a time round. -/
def execOrigin (lane : Fin 24) (round : BitVec 16) (master : BitVec 16) (k : Nat) (phi : Fin 1024) (s : State) :
    Host.Outcome State Fault Refusal :=
  .next (s.cxDo fun s => s.doOrigin lane round.toNat master.toNat k phi)

/-- FOLLOW (R311): A FOLLOW frame supplies t1 of the round. -/
def execFollow (lane : Fin 24) (round : BitVec 16) (ns : BitVec 64) (frac : BitVec 16) (s : State) : Host.Outcome
    State Fault Refusal :=
  .next (s.cxDo fun s => s.doFollow lane round.toNat ns.toNat frac.toNat)

/-- PROBE_SEND (R311): 20 to 100 µs after t2, the module sends PROBE and stamps t3. -/
def execProbeSend (path : Fin 2) (k : Nat) (phi : Fin 1024) (s : State) : Host.Outcome State Fault Refusal :=
  .next (s.cxDo fun s => s.doProbeSend path k phi)

/-- ANSWER (R313): An ANSWER frame supplies t4, and the module computes the round and sends REPORT. -/
def execAnswer (lane : Fin 24) (round : BitVec 16) (ns : BitVec 64) (frac : BitVec 16) (s : State) : Host.Outcome
    State Fault Refusal :=
  .next (s.cxDo fun s => s.doAnswer lane round.toNat ns.toNat frac.toNat)

/-- REBASE (R304): At N_e a new rate or step takes effect, and the offset is recomputed. -/
def execRebase (s : State) : Host.Outcome State Fault Refusal :=
  .next (s.cxDo fun s => s.doRebase)

/-- RELATION_REPEAT (R306): The relation record in force is repeated at least once per second. -/
def execRelationRepeat (s : State) : Host.Outcome State Fault Refusal :=
  .next (s.cxDo fun s => s.doRelationRepeat)

/-- HEARTBEAT (R307): After 500 ms without a T48-bearing packet in class 1 or 3, a heartbeat is enqueued. -/
def execHeartbeat (cls : Fin 4) (s : State) : Host.Outcome State Fault Refusal :=
  .next (s.cxDo fun s => s.doHeartbeat cls)

/-- PATH_LOSS (R316): A time path without an accepted round for LOSS_ROUNDS × 62.5 ms stops being good. -/
def execPathLoss (path : Fin 2) (s : State) : Host.Outcome State Fault Refusal :=
  .next (s.cxDo fun s => s.doPathLoss path)

/-- PPS_EDGE (R319): A PPS_IN edge is stamped and processed as a round in PPS mode. -/
def execPpsEdge (k : Nat) (phi : Fin 1024 × Bool) (s : State) : Host.Outcome State Fault
    Refusal :=
  .next (s.cxDo fun s => s.doPpsEdge k phi.1 phi.2)

/-- PPS_LOSS (R319): Two missing PPS edges make PPS not good, a station-wide event. -/
def execPpsLoss (s : State) : Host.Outcome State Fault Refusal :=
  .next (s.cxDo fun s => s.doPpsLoss)

/-- ACCEPT_JUMP (R317): A write of ACCEPT_JUMP in REFUSED makes one step at the next accepted round. -/
def execAcceptJump (p : Fin 10) (s : State) : Host.Outcome State Fault Refusal :=
  .next (s.keeperDo fun s => s.hostBit p F.TIM_CMD_ACCEPT_JUMP 0)

/-- ASYM_CAL (R320): A write of ASYM_CAL starts averaging CAL_N PPS edges against the path. -/
def execAsymCal (p : Fin 10) (s : State) : Host.Outcome State Fault Refusal :=
  .next (s.keeperDo fun s => s.hostBit p F.TIM_CMD_ASYM_CAL 0)

/-- ASYM_CAL_DONE (R320): After CAL_N edges, TIM_ASYM_MEAS is written with VALID and BUSY clears. -/
def execAsymCalDone (s : State) : Host.Outcome State Fault Refusal :=
  .next (s.cxDo fun s => s.doAsymCalDone)

/-- ASYM_APPLY (R320): A write of ASYM_APPLY copies a valid TIM_ASYM_MEAS into TIM_ASYM. -/
def execAsymApply (p : Fin 10) (s : State) : Host.Outcome State Fault Refusal :=
  .next (s.keeperDo fun s => s.hostBit p F.TIM_CMD_ASYM_APPLY 0)

/-- VOTE_CORRECTION (R322): A disagreeing copy of the time state is overwritten from the majority or taken out. -/
def execVoteCorrection (c : Fin 3) (s : State) : Host.Outcome State Fault Refusal :=
  .next (s.cxDo fun s => s.doVoteCorrection c)

end Sys2Proof.Machine
end

