-- ==== Sys2Proof/Machine/Conversion.lean ====
section
/-! DEFINITION. The commands of the converters: background correction, Rehearsal, calibration sets, injected
conversions and skew calibration (R102 to R129): one meaning for each constructor, over the operations of the
block's parts. -/

namespace Sys2Proof.Machine

/-- BG_WINDOW_END (R102): At the end of each background update window, the estimator moves the factors or updates
HOLD and CONVERGED. -/
def execBgWindowEnd (ch : Fin 64) (levels : List Int) (share : Nat) (spur : Nat) (edges : List Int) (s : State) :
    Host.Outcome State Fault Refusal :=
  .next (s.cxDo fun s => s.doBgWindow ch share spur (bgErrors levels edges))

/-- REHEARSAL_START (R106): A nonzero START mask in ADC_REH_CMD starts Rehearsal in the named regions. -/
def execRehearsalStart (p : Fin 10) (mask : BitVec 4) (s : State) : Host.Outcome State Fault Refusal :=
  .next (s.keeperDo fun s => s.hostWrite p F.ADC_REH_CMD (BitVec.ofNat 32 mask.toNat))

/-- REHEARSAL_CONNECT (R107): At switch count N_s, the region's enabled units connect to their cluster calibration
sources. -/
def execRehearsalConnect (r : Fin 4) (s : State) : Host.Outcome State Fault Refusal :=
  .next (s.cxDo fun s => s.doRehearsalConnect r)

/-- REHEARSAL_PHASE (R108): Each Rehearsal phase begins at its sample count and drives and measures its source
signal. -/
def execRehearsalPhase (r : Fin 4) (meas : List Int) (s : State) : Host.Outcome State Fault Refusal :=
  .next (s.cxDo fun s => s.doRehearsalPhase r meas)

/-- REHEARSAL_RECONNECT (R107): At N_r the antenna inputs reconnect, and background correction resumes. -/
def execRehearsalReconnect (seen : Fin 4 × Int) (s : State) : Host.Outcome State Fault
    Refusal :=
  .next (s.cxDo fun s => s.doRehearsalReconnect seen.1 seen.2)

/-- CAL_SAVE (R113): A SAVE command starts writing a calibration set into the alternate flash slot. -/
def execCalSave (p : Fin 10) (s : State) : Host.Outcome State Fault Refusal :=
  .next (s.keeperDo fun s => s.hostBit p F.ADC_REH_CMD_SAVE 0)

/-- CAL_SAVE_DONE (R113): The write and check of a saved calibration set complete, and SAVE_BUSY clears. -/
def execCalSaveDone (ok : Bool) (s : State) : Host.Outcome State Fault Refusal :=
  .next (s.cxDo fun s => s.doCalSaveDone ok)

/-- CAL_LOAD (R113): A LOAD command copies the newest valid saved set, or the factory set, into ADC_CAL. -/
def execCalLoad (p : Fin 10) (s : State) : Host.Outcome State Fault Refusal :=
  .next (s.keeperDo fun s => s.hostBit p F.ADC_REH_CMD_LOAD 0)

/-- INJECT_REQUEST (R119): A write of ADC_INJ_REQ queues an injected conversion in the cluster queue. -/
def execInjectRequest (p : Fin 10) (w : Word) (s : State) : Host.Outcome State Fault Refusal :=
  .next (s.keeperDo fun s => s.hostWrite p F.ADC_INJ_REQ w)

/-- INJECT_WINDOW_START (R120): At N_i the calibration source is connected to the channel for 1024 samples. -/
def execInjectWindowStart (g : Fin 16) (s : State) : Host.Outcome State Fault Refusal :=
  .next (s.cxDo fun s => s.doInjectStart g)

/-- INJECT_COMPLETE (R120): The injection window ends, the antenna reconnects, and the completion is issued with its
status. -/
def execInjectComplete (g : Fin 16) (s : State) : Host.Outcome State Fault Refusal :=
  .next (s.cxDo fun s => s.doInjectComplete g)

/-- SKEW_CAL_REQUEST (R129): A write of FLT_SKEW_CAL queues a skew calibration of each named cluster. -/
def execSkewCalRequest (p : Fin 10) (mask : BitVec 16) (s : State) : Host.Outcome State Fault Refusal :=
  .next (s.keeperDo fun s => s.hostWrite p F.FLT_SKEW_CAL (BitVec.ofNat 32 mask.toNat))

/-- SKEW_CAL_COMPLETE (R129): A skew calibration ends, writes FLT_SKEW_MEAS and issues its completion. -/
def execSkewCalComplete (g : Fin 16) (meas : List Int) (s : State) : Host.Outcome State Fault Refusal :=
  .next (s.cxDo fun s => s.doSkewCalComplete g meas)

end Sys2Proof.Machine
end

