-- ==== Sys2Proof/Machine/Counting.lean ====
section
/-! DEFINITION. The commands of performance counters and tracers (R440 to R448): one meaning for each constructor,
over the operations of the block's parts. -/

namespace Sys2Proof.Machine

/-- SNAP (R440): A write of PMC_CMD.SNAP latches all 528 counters at one instant. -/
def execSnap (p : Fin 10) (s : State) : Host.Outcome State Fault Refusal :=
  .next (s.keeperDo fun s => s.hostBit p F.PMC_CMD_SNAP 0)

/-- CLR_WRAP (R445): A write of PMC_CMD.CLR_WRAP clears all sticky wrap bits. -/
def execClrWrap (p : Fin 10) (s : State) : Host.Outcome State Fault Refusal :=
  .next (s.keeperDo fun s => s.hostBit p F.PMC_CMD_CLR_WRAP 0)

/-- DUMP_NOW (R443): A write of PMC_CMD.DUMP_NOW latches and dumps the counters at once. -/
def execDumpNow (p : Fin 10) (s : State) : Host.Outcome State Fault Refusal :=
  .next (s.keeperDo fun s => s.hostBit p F.PMC_CMD_DUMP_NOW 0)

/-- PERIODIC_DUMP (R443): Every PERIOD_MS-th tick at S0, a dump falls due and is latched, or skipped. -/
def execPeriodicDump (s : State) : Host.Outcome State Fault Refusal :=
  .next (s.cxDo fun s => s.doPeriodicDump)

/-- FOCUS_CONFIG_WRITE (R441): A write of a focus filter resets its counter to 0 and clears its WRAPPED bit. -/
def execFocusConfigWrite (p : Fin 10) (f : Fin 16) (loc : Bool) (w : Word) (s : State) : Host.Outcome State Fault
    Refusal :=
  .next (s.keeperDo fun s => s.hostWrite p ((if loc then F.PMC_FOCUS_LOC else F.PMC_FOCUS_CFG) + 16 * f) w)

/-- TRACER_RECORD (R448): A tagged block reaching point 9, or discarded, produces a tracer record. -/
def execTracerRecord (i : Nat) (offsets : List (Option Nat)) (s : State) : Host.Outcome State Fault Refusal :=
  .next (s.cxDo fun s => s.doTracerRecord i offsets)

end Sys2Proof.Machine
end

