-- ==== Sys2Proof/Machine/Curtain.lean ====
section
/-! DEFINITION. The commands of the safety monitor and the fire curtain (R349 to R370): one meaning for each
constructor, over the operations of the block's parts. -/

namespace Sys2Proof.Machine

/-- SAFETY_CYCLE (R349): Each 1 ms safety cycle, the three voter channels evaluate inputs, position and functions,
and vote the curtain switches. -/
def execSafetyCycle (samples : List (BitVec 16)) (up : Nat) (down : Nat) (cut : Bool) (z : Option Int) (ssi : Nat) (line : Nat)
    (vaux : Nat) (balls : List (Nat × Nat)) (differ : Nat) (cycleUs : Nat) (s : State) : Host.Outcome State Fault Refusal :=
  .next (s.keeperDo fun s => s.doSafetyCycle
    { samples := samples, up := up, down := down, cut := cut, z := z, ssi := ssi, line := line, vaux := vaux, balls := balls
      differ := differ, cycleUs := cycleUs })

/-- SI_TEST_PULSE (R353): A test pulse of TP_A or TP_B is checked at its last sample for each input with TP_EN set.
-/
def execSiTestPulse (source : Fin 2) (a : BitVec 8) (b : BitVec 8) (s : State) : Host.Outcome State Fault Refusal :=
  .next (s.keeperDo fun s => s.doTestPulse source a.toNat b.toNat)

/-- CURTAIN_TEST (R359): Every TEST_PERIOD_S, each switch of a closed curtain is pulsed off and its readback
checked. -/
def execCurtainTest (balls : List (Nat × Nat)) (s : State) : Host.Outcome State Fault Refusal :=
  .next (s.keeperDo fun s => s.doCurtainTest balls)

/-- SAFETY_STATUS_SEND (R362): Every 4 ms the monitor sends a STATUS telegram on both paths. -/
def execSafetyStatusSend (s : State) : Host.Outcome State Fault Refusal :=
  .next (s.cxDo fun s => s.doStatusSend)

/-- SAFETY_COMMAND (R363): A COMMAND telegram copy acts on its safer parts at once and on the others when both
copies agree. -/
def execSafetyCommand (path : Fin 2) (w0 : LWord) (w1 : LWord) (s : State) : Host.Outcome State Fault Refusal :=
  .next (s.cxDo fun s => s.doSafetyCommand path w0 w1)

/-- COMMAND_COPY_TIMEOUT (R364): A missing copy or command for 20 ms marks the lagging path or both paths lost. -/
def execCommandCopyTimeout (s : State) : Host.Outcome State Fault Refusal :=
  .next (s.keeperDo fun s => s.doCopyTimeout)

/-- DEGRADED_EXPIRY (R366): DEG_TIME_S in DEGRADED raises fault 0x5401 and leads to LOCKOUT. -/
def execDegradedExpiry (s : State) : Host.Outcome State Fault Refusal :=
  .next (s.keeperDo fun s => s.doDegradedExpiry)

/-- SAFE_RESET_RELEASE (R368): The release of a valid SAFE_RESET press opens the 5 s window for the ACK. -/
def execSafeResetRelease (ms : Nat) (s : State) : Host.Outcome State Fault Refusal :=
  .next (s.keeperDo fun s => s.doSafeResetRelease ms)

/-- SAFE_RESET_STUCK (R368): A SAFE_RESET press held past 2000 ms is ignored and sets RESET_STUCK. -/
def execSafeResetStuck (s : State) : Host.Outcome State Fault Refusal :=
  .next (s.keeperDo fun s => s.doSafeResetStuck)

/-- SAFETY_ACK (R368): An agreed ACK carrying LOCK_SEQ clears the lock-out when the cause is gone. -/
def execSafetyAck (path : Fin 2) (w0 : LWord) (w1 : LWord) (s : State) : Host.Outcome State Fault Refusal :=
  .next (s.cxDo fun s => s.doSafetyAck path w0 w1)

/-- SAFETY_PARAM (R370): An agreed pair of PARAM telegrams writes one word of the staged safety set. -/
def execSafetyParam (path : Fin 2) (w0 : LWord) (w1 : LWord) (s : State) : Host.Outcome State Fault Refusal :=
  .next (s.cxDo fun s => s.doSafetyParam path w0 w1)

/-- SAFETY_ACTIVATE (R370): An agreed ACTIVATE telegram activates the staged set if its checks pass, or is refused.
-/
def execSafetyActivate (path : Fin 2) (w0 : LWord) (w1 : LWord) (w2 : LWord) (s : State) : Host.Outcome State Fault
    Refusal :=
  .next (s.cxDo fun s => s.doSafetyActivate path w0 w1 w2)

/-- CURTAIN_OVERLOAD (R359): A curtain load current above the trip level turns both switches of the pair off within
50 µs and raises fault 0x5500 + n. -/
def execCurtainOverload (n : Fin 2) (s : State) : Host.Outcome State Fault Refusal :=
  .next (s.keeperDo fun s => s.doCurtainOverload n)

/-- SAFETY_SET_WRITTEN (R370): The flash write of an activated safety set completes, SAF_SET_CRC is updated and the
monitor enters STO or DISABLED. -/
def execSafetySetWritten (s : State) : Host.Outcome State Fault Refusal :=
  .next (s.keeperDo fun s => s.doSafetySetWritten)

end Sys2Proof.Machine
end

