-- ==== Sys2Proof/Machine/Filtering.lean ====
section
/-! DEFINITION. The commands of skew, notches and filter chains (R128 to R135): one meaning for each constructor,
over the operations of the block's parts. -/

namespace Sys2Proof.Machine

/-- SKEW_WRITE (R128): A write of FLT_SKEW schedules a new effective skew. -/
def execSkewWrite (p : Fin 10) (ch : Fin 64) (w : Word) (s : State) : Host.Outcome State Fault Refusal :=
  .next (s.keeperDo fun s => s.hostWrite p (F.FLT_SKEW + 4 * ch) w)

/-- SKEW_CHANGE_APPLY (R128): A new effective skew takes effect at N_k, with SETTLE on the affected blocks. -/
def execSkewChangeApply (ch : Fin 64) (s : State) : Host.Outcome State Fault Refusal :=
  .next (s.cxDo fun s => s.doSkewApply ch)

/-- NOTCH_WRITE (R131): A write of FLT_NOTCH is checked against the limits and schedules a notch change. -/
def execNotchWrite (p : Fin 10) (j : Fin 512) (w : Word) (s : State) : Host.Outcome State Fault Refusal :=
  .next (s.keeperDo fun s => s.hostWrite p (F.FLT_NOTCH + 8 * j) w)

/-- NOTCH_BW_WRITE (R131): A write of FLT_NOTCH_BW is clamped, checked and, for an enabled notch, scheduled as a
notch change. -/
def execNotchBwWrite (p : Fin 10) (j : Fin 512) (w : Word) (s : State) : Host.Outcome State Fault Refusal :=
  .next (s.keeperDo fun s => s.hostWrite p (F.FLT_NOTCH_BW + 8 * j) w)

/-- NOTCH_CHANGE_APPLY (R132): A notch change takes effect at N_k, with SETTLE over its settling length. -/
def execNotchChangeApply (ch : Fin 64) (s : State) : Host.Outcome State Fault Refusal :=
  .next (s.cxDo fun s => s.doNotchApply ch)

/-- FIR_BANK_SWAP (R135): A write of FLT_CHAIN.SWAP schedules the shadow FIR bank to become active. -/
def execFirBankSwap (p : Fin 10) (ch : Fin 64) (s : State) : Host.Outcome State Fault Refusal :=
  .next (s.keeperDo fun s => s.hostBit p F.FLT_CHAIN_SWAP ch)

/-- CHAIN_CONFIG_WRITE (R135): A write of DECIM or ORDER schedules a chain change, subject to admission. -/
def execChainConfigWrite (p : Fin 10) (ch : Fin 64) (decim : Fin 4) (order : Fin 4) (s : State) : Host.Outcome State
    Fault Refusal :=
  .next (s.keeperDo fun s => s.hostWrite p (F.FLT_CHAIN + 4 * ch) (BitVec.ofNat 32 (decim + 4 * order)))

/-- CHAIN_CHANGE_APPLY (R135): A chain change takes effect at N_x, with SETTLE on the affected stream blocks. -/
def execChainChangeApply (ch : Fin 64) (s : State) : Host.Outcome State Fault Refusal :=
  .next (s.cxDo fun s => s.doChainApply ch)

end Sys2Proof.Machine
end

