-- ==== Sys2Proof/Machine/HostMemory.lean ====
section
/-! DEFINITION. The commands of the Prompter and host memory (R294, R295, R329 to R342): one meaning for each
constructor, over the operations of the block's parts. -/

namespace Sys2Proof.Machine

/-- NUDGE (R332): An accepted NUDGE frame starts a poll, or merges with one that is pending. -/
def execNudge (s : State) : Host.Outcome State Fault Refusal :=
  .next (s.cxDo fun s => s.doNudge)

/-- MEM_RD_DATA (R294): A read answer delivers data for its outstanding read. -/
def execMemRdData (lane : Fin 24) (tag : BitVec 16) (status : Fin 4) (data : List LWord) (s : State) : Host.Outcome
    State Fault Refusal :=
  .next (s.cxDo fun s => s.doMemRdData lane tag.toNat status data)

/-- MEM_WR_ERR (R295): A failed-write report stops the ring concerned or marks the command's output as failed. -/
def execMemWrErr (err : BitVec 64 × Fin 8) (s : State) : Host.Outcome State Fault
    Refusal :=
  .next (s.cxDo fun s => s.doMemWrErr (err.1.toNat / 8 * 8) err.2)

/-- MEM_READ_TIMEOUT (R295): A read without an answer within TIMEOUT_US is retired and reported. -/
def execMemReadTimeout (s : State) : Host.Outcome State Fault Refusal :=
  .next (s.cxDo fun s => s.doMemReadTimeout)

/-- MEM_PATH_CHANGE (R342): A change of the memory path stops memory transactions on the old path. -/
def execMemPathChange (s : State) : Host.Outcome State Fault Refusal :=
  .next (s.cxDo fun s => s.doMemPathChange)

/-- MEM_PATH_RESUME (R342): After TIMEOUT_US, the Prompter polls on the new path, rewrites slots and entries, and
emits PATH_CHANGE records. -/
def execMemPathResume (s : State) : Host.Outcome State Fault Refusal :=
  .next (s.cxDo fun s => s.doMemPathResume)

/-- COMMIT (R330): A write of PRM_CTL.COMMIT checks the set-up and, if accepted, locks every RWL field and starts
polling. -/
def execCommit (p : Fin 10) (s : State) : Host.Outcome State Fault Refusal :=
  .next (s.keeperDo fun s => s.hostBit p F.PRM_CTL_COMMIT 0)

/-- POLL_START (R331): A poll reads the doorbell slots when the interval has elapsed and the previous poll is
complete. -/
def execPollStart (s : State) : Host.Outcome State Fault Refusal :=
  .next (s.cxDo fun s => s.doPollStart)

/-- POLL_COMPLETE (R331): Both doorbell answers arrive, the indices are checked, and descriptors are fetched. -/
def execPollComplete (s : State) : Host.Outcome State Fault Refusal :=
  .next (s.cxDo fun s => s.doPollComplete)

/-- RING_RESUME (R329): A RESUME write restarts a stopped ring if the indices of the next poll are valid. -/
def execRingResume (p : Fin 10) (ring : Fin 36) (s : State) : Host.Outcome State Fault Refusal :=
  .next (s.keeperDo fun s => s.hostWrite p F.PRM_RING_CMD (BitVec.ofNat 32 (256 + ring.val)))

/-- NOP (R334): The NOP command completes with DONE. -/
def execNop (s : State) : Host.Outcome State Fault Refusal :=
  .next (s.cxDo fun s => s.doNop)

/-- FENCE (R334): The FENCE command starts once every earlier command of its ring has completed. -/
def execFence (s : State) : Host.Outcome State Fault Refusal :=
  .next (s.cxDo fun s => s.doFence)

/-- REG_WR (R334): The REG_WR command writes a register and completes with a status. -/
def execRegWr (s : State) : Host.Outcome State Fault Refusal :=
  .next (s.cxDo fun s => s.doRegWr)

/-- REG_RD (R334): The REG_RD command reads a register into its completion entry. -/
def execRegRd (s : State) : Host.Outcome State Fault Refusal :=
  .next (s.cxDo fun s => s.doRegRd)

/-- BLOCK_RD (R334): The BLOCK_RD command copies register or window space into host memory. -/
def execBlockRd (s : State) : Host.Outcome State Fault Refusal :=
  .next (s.cxDo fun s => s.doBlockRd)

/-- INJECT (R334): The INJECT command requests an injected conversion and completes with its status and N_i. -/
def execInject (ns : Nat) (s : State) : Host.Outcome State Fault Refusal :=
  .next (s.cxDo fun s => s.doPrmInject ns)

/-- CODEC (R217): The CODEC command queues a codec job for the L engines. -/
def execCodec (s : State) : Host.Outcome State Fault Refusal :=
  .next (s.cxDo fun s => s.doPrmCodec)

end Sys2Proof.Machine
end

