-- ==== Sys2Proof/Machine/Incidents.lean ====
section
/-! DEFINITION. The commands of incidents, scrubs and telemetry (R69, R421 to R436): one meaning for each
constructor, over the operations of the block's parts. -/

namespace Sys2Proof.Machine

/-- STATION_WIDE_REPORT (R69): After the reporting interval and a random delay, the report of a station-wide event
is sent on class 0. -/
def execStationWideReport (e : Fin 256) (s : State) : Host.Outcome State Fault Refusal :=
  .next (s.cxDo fun s => s.doStationReport e)

/-- FAULT_REPORT (R421): A fault report opens an incident, counts in an open one, or folds into a root. -/
def execFaultReport (code : BitVec 16) (place : BitVec 16) (detail : BitVec 32) (s : State) : Host.Outcome State
    Fault Refusal :=
  .next (s.keeperDo fun s => s.doFaultReport code.toNat place.toNat detail.toNat)

/-- INCIDENT_HOLD_EXPIRY (R423): After its 2 ms hold, a dependent incident without a root is reported. -/
def execIncidentHoldExpiry (e : Fin 256) (s : State) : Host.Outcome State Fault Refusal :=
  .next (s.keeperDo fun s => s.doHoldExpiry e)

/-- INCIDENT_CLOSE_TIMER (R421): An incident closes when its condition has cleared and no report has come for 10 ms.
-/
def execIncidentCloseTimer (e : Fin 256) (cleared : Bool) (s : State) : Host.Outcome State Fault Refusal :=
  .next (s.keeperDo fun s => s.doCloseTimer e cleared)

/-- INCIDENT_REPORT_SEND (R426): A pending incident report is sent on class 0 once its 100 ms spacing and the class
0 rate allow. -/
def execIncidentReportSend (e : Fin 256) (s : State) : Host.Outcome State Fault Refusal :=
  .next (s.cxDo fun s => s.doReportSend e)

/-- CLOSE (R421): A write of FAU_CMD.CLOSE closes the named open entry at once. -/
def execClose (p : Fin 10) (e : Fin 256) (s : State) : Host.Outcome State Fault Refusal :=
  .next (s.keeperDo fun s => s.hostWrite p F.FAU_CMD (BitVec.ofNat 32 (256 + e.val)))

/-- PURGE_PREVIOUS (R436): A write of PURGE_PREVIOUS makes every PREVIOUS entry FREE. -/
def execPurgePrevious (p : Fin 10) (s : State) : Host.Outcome State Fault Refusal :=
  .next (s.keeperDo fun s => s.hostBit p F.FAU_CMD_PURGE_PREVIOUS 0)

/-- CONFIG_SCRUB (R430): The scrub reads a configuration word and rewrites a disagreeing copy. -/
def execConfigScrub (a : BitVec 32) (kind : Fin 3) (s : State) : Host.Outcome State Fault Refusal :=
  .next (s.keeperDo fun s => s.doConfigScrub a.toNat kind)

/-- FLASH_REFRESH (R431): Every 337.5 s the refresh reads one flash block, and copies or retires it as needed. -/
def execFlashRefresh (worst : Fin 4) (eraseOk : Bool) (item : Nat) (s : State) : Host.Outcome State Fault Refusal :=
  .next (s.keeperDo fun s => s.doFlashRefresh worst eraseOk item)

/-- TELEMETRY (R433): At each whole second of network time a telemetry packet is sent in class 3. -/
def execTelemetry (s : State) : Host.Outcome State Fault Refusal :=
  .next (s.cxDo fun s => s.doTelemetry)

end Sys2Proof.Machine
end

