-- ==== Sys2Proof/Machine/Lines.lean ====
section
/-! DEFINITION. The commands of lanes: bring-up, alignment and idle (R251 to R269): one meaning for each
constructor, over the operations of the block's parts. -/

namespace Sys2Proof.Machine

/-- BRINGUP_ATTEMPT (R259): A lane starts a bring-up attempt and sends training groups. -/
def execBringupAttempt (n : Fin 24) (s : State) : Host.Outcome State Fault Refusal :=
  .next (s.cxDo fun s => s.doBringupAttempt n)

/-- BRINGUP_FRAME_RECEIVED (R259): A received bring-up frame advances the RX_GOOD and partner counts, or sets
MISMATCH. -/
def execBringupFrameReceived (n : Fin 24) (crcOk : Bool) (w : LWord) (s : State) : Host.Outcome State Fault Refusal :=
  .next (s.cxDo fun s => s.doBringupFrame n crcOk w)

/-- LANE_UP (R259): After the final training groups, the lane enters UP. -/
def execLaneUp (n : Fin 24) (s : State) : Host.Outcome State Fault Refusal :=
  .next (s.cxDo fun s => s.doLaneUpStart n)

/-- BRINGUP_TIMEOUT (R260): An attempt that has not reached UP within 400 µs ends in WAIT, and repeated failures
raise a lane fault. -/
def execBringupTimeout (n : Fin 24) (s : State) : Host.Outcome State Fault Refusal :=
  .next (s.cxDo fun s => s.doBringupTimeout n)

/-- WAIT_EXPIRY (R260): After 100 µs in WAIT, a new attempt begins with a new seed. -/
def execWaitExpiry (n : Fin 24) (s : State) : Host.Outcome State Fault Refusal :=
  .next (s.cxDo fun s => s.doWaitExpiry n)

/-- SEED_RECEIVED (R251): An aligned receiver compares a received SEED with its scrambler state. -/
def execSeedReceived (n : Fin 24) (seed : BitVec 31) (s : State) : Host.Outcome State Fault Refusal :=
  .next (s.cxDo fun s => s.doSeedReceived n seed.toNat)

/-- REALIGN (R255): A marker error or stuffing violation discards the frame and puts the receiver into REALIGN. -/
def execRealign (n : Fin 24) (marker : Option (BitVec 33)) (s : State) : Host.Outcome State Fault
    Refusal :=
  .next (s.cxDo fun s => s.doRealign n marker.isNone (marker.getD 0).toNat)

/-- REALIGN_TIMEOUT (R261): REALIGN lasting more than 1.0 ms returns the lane to BRINGUP. -/
def execRealignTimeout (n : Fin 24) (s : State) : Host.Outcome State Fault Refusal :=
  .next (s.cxDo fun s => s.doRealignTimeout n)

/-- LOSS_OF_SIGNAL (R261): No line transitions for 100 ns return an UP lane to BRINGUP. -/
def execLossOfSignal (n : Fin 24) (s : State) : Host.Outcome State Fault Refusal :=
  .next (s.cxDo fun s => s.doLossOfSignal n)

/-- PARTNER_TRAINING (R261): Training groups from the partner return an UP lane to BRINGUP. -/
def execPartnerTraining (n : Fin 24) (s : State) : Host.Outcome State Fault Refusal :=
  .next (s.cxDo fun s => s.doPartnerTraining n)

/-- RETRAIN (R261): A write of LNK_LANE_CTL.RETRAIN returns the lane to BRINGUP. -/
def execRetrain (p : Fin 10) (n : Fin 24) (s : State) : Host.Outcome State Fault Refusal :=
  .next (s.keeperDo fun s => s.hostBit p F.LNK_LANE_CTL_RETRAIN n)

/-- IDLE_ENTRY (R262): A transmitter idle for IDLE_US sends HUSH and stops driving. -/
def execIdleEntry (n : Fin 24) (s : State) : Host.Outcome State Fault Refusal :=
  .next (s.cxDo fun s => s.doIdleEntry n)

/-- HUSH_RECEIVED (R262): A receiver that takes a HUSH enters its IDLE sub-state. -/
def execHushReceived (n : Fin 24) (s : State) : Host.Outcome State Fault Refusal :=
  .next (s.cxDo fun s => s.doHushReceived n)

/-- FAST_EXIT (R263): A frame assigned to an idle transmitter wakes it with a burst, a SEED and a SYNC. -/
def execFastExit (n : Fin 24) (s : State) : Host.Outcome State Fault Refusal :=
  .next (s.cxDo fun s => s.doFastExit n)

/-- REFRESH_BURST (R264): Every 8 ms in IDLE, the transmitter sends a refresh burst. -/
def execRefreshBurst (n : Fin 24) (s : State) : Host.Outcome State Fault Refusal :=
  .next (s.cxDo fun s => s.doRefreshBurst n)

/-- CLR_ERR (R269): A write of LNK_CMD.CLR_ERR clears the violation and sync counters of all lanes. -/
def execClrErr (p : Fin 10) (s : State) : Host.Outcome State Fault Refusal :=
  .next (s.keeperDo fun s => s.hostBit p F.LNK_CMD_CLR_ERR 0)

/-- LANE_SET_CHANGE (R267): A write of a path rate or lane EN is checked under admission and, if accepted, retrains
the lanes concerned. -/
def execLaneSetChange (p : Fin 10) (lane : Option (Fin 24)) (w : Word) (s : State) : Host.Outcome State Fault
    Refusal :=
  .next (s.keeperDo fun s => s.hostWrite p (match lane with | none => F.LNK_PATH_CFG | some n => F.LNK_LANE_CTL + 4 * n) w)

/-- LANE_PLL_UNLOCK (R257): A lane's PLL loses lock, and the lane goes OFF. -/
def execLanePllUnlock (n : Fin 24) (s : State) : Host.Outcome State Fault Refusal :=
  .next (s.cxDo fun s => s.doLanePllUnlock n)

/-- SEED_FOUND (R255): A receiver without alignment, in REALIGN, in bring-up or waking from IDLE, finds 32 zeros and
a 1, loads the seed and resumes aligned parsing. -/
def execSeedFound (n : Fin 24) (seed : BitVec 31) (followed : Bool) (s : State) : Host.Outcome State Fault Refusal :=
  .next (s.cxDo fun s => s.doSeedFound n seed.toNat followed)

end Sys2Proof.Machine
end

