-- ==== Sys2Proof/Machine/Receive.lean ====
section
/-! DEFINITION. The module's receiver of downlink frames (R272 to R274, R282, R292, R293, R299): what it accepts, the order in
which it passes frames on, and what each accepted frame does. -/

namespace Sys2Proof.Machine

/-- CLASS and the least and greatest WORDS of the downlink frame types (R274). -/
def downType (t : Nat) : Option (Nat × Nat × Nat) :=
  if t = 0x00 ∨ t = 0x01 then some (0, 1, 1)
  else if t = 0x08 ∨ t = 0x09 then some (0, 1, 4)
  else if t = 0x10 then some (1, 3, 3)
  else if t = 0x11 then some (1, 0, 0)
  else if t = 0x22 then some (1, 1, 32)
  else if t = 0x23 then some (1, 1, 1)
  else none

/-- TYPE, CLASS, WORDS, SEQ, PATH and MODULE of a header (R271). -/
def hdrType (h : LWord) : Nat := h.toNat / 2 ^ 56
def hdrClass (h : LWord) : Nat := h.toNat / 2 ^ 54 % 4
def hdrWords (h : LWord) : Nat := h.toNat / 2 ^ 48 % 64
def hdrSeq (h : LWord) : Nat := h.toNat / 2 ^ 24 % 2 ^ 24
def hdrPath (h : LWord) : Nat := h.toNat / 2 ^ 23 % 2
def hdrModule (h : LWord) : Nat := h.toNat % 65536

/-- Is a frame of lane n accepted (R274, R282, R293)? While the module ID is 0 only BRINGUP frames are. -/
def State.accepts (s : State) (n : Nat) (h : LWord) : Bool :=
  hdrModule h == s.moduleId && hdrPath h == n / 12 && (s.moduleId != 0 || hdrType h == 0)
    && match downType (hdrType h) with
      | none => false
      | some (c, lo, hi) => hdrClass h == c && decide (lo ≤ hdrWords h) && decide (hdrWords h ≤ hi)

/-- An accepted TIME frame acts by its KIND (R310); a KIND the aggregator does not send is rejected. -/
def State.takeTime (s : State) (n k phi : Nat) (ws : List LWord) : State :=
  let w := fun i => (ws.getD i 0).toNat
  let round := w 0 / 2 ^ 40 % 65536
  let kind := w 0 / 2 ^ 60
  if kind = 1 then s.doOrigin n round (w 0 / 65536 % 65536) k phi
  else if kind = 2 then s.doFollow n round (w 1) (w 2 / 2 ^ 48)
  else if kind = 4 then s.doAnswer n round (w 1) (w 2 / 2 ^ 48)
  else s.rejectFrame n

/-- An accepted SAFETY frame acts by its KIND and length (R361); any other telegram is discarded and counted. -/
def State.takeSafety (s : State) (p : Nat) (ws : List LWord) : State :=
  match telKind ws, ws with
  | 2, [a, b] => s.doSafetyCommand p a b
  | 3, [a, b] => s.doSafetyAck p a b
  | 5, [a, b] => s.doSafetyParam p a b
  | 6, [a, b, c] => s.doSafetyActivate p a b c
  | _, _ => s.telDiscard

/-- An accepted frame of classes 0 and 1 acts. DEDUCED: log entry 29. -/
def State.takeFrame (s : State) (f : RxHeld) : State :=
  let w := fun i => (f.words.getD i 0).toNat
  if f.ftype = 0x08 then s.takeTime f.lane f.at_ f.phi f.words
  else if f.ftype = 0x09 then s.takeSafety f.path f.words
  else if f.ftype = 0x10 then s.doReadoutRequest (w 0 / 2 ^ 32) (w 0 % 2 ^ 32) (w 1 / 65536) (w 2)
  else if f.ftype = 0x11 then s.doNudge
  else if f.ftype = 0x22 then s.doMemRdData f.lane (w 0 / 2 ^ 48) (w 0 / 2 ^ 46 % 4) (f.words.tail.take (w 0 % 64))
  else if f.ftype = 0x23 then s.doMemWrErr (w 0 / 8 * 8) (w 0 % 8)
  else s

/-- The next SEQ expected in a class on a path (R292). DEDUCED: log entry 27. -/
def State.expected (s : State) (p c : Nat) : Option Nat := s.lnk.expect.getD (2 * p + c) none

/-- A frame in SEQ order, or the first of its class and path, acts; the next SEQ is expected from now on. -/
def State.passOn (s : State) (f : RxHeld) : State :=
  (s.onLnk fun l => { l with expect := l.expect.set (2 * f.path + f.cls) (some ((f.seq + 1) % 2 ^ 24))
                             hold := l.hold.erase f }).takeFrame f

/-- Held frames of a class and path that are now in order act. -/
def State.passHeld (s : State) (p c : Nat) : State :=
  s.forEach s.lnk.hold fun s _ =>
    match s.lnk.hold.find? fun f => f.path == p && f.cls == c && s.expected p c == some f.seq with
    | some f => s.passOn f
    | none => s

/-- An accepted frame of class 0 or 1: it acts in SEQ order; one ahead of a missing SEQ is held; one behind acts at once, since
downlink duplicates are told by their content (R292). -/
def State.order (s : State) (f : RxHeld) : State :=
  match s.expected f.path f.cls with
  | none => (s.passOn f).passHeld f.path f.cls
  | some e =>
    if f.seq = e then (s.passOn f).passHeld f.path f.cls
    else if (f.seq + 2 ^ 24 - e) % 2 ^ 24 < 2 ^ 23 then
      let hold := s.lnk.hold ++ [f]
      s.onLnk fun l => { l with hold := hold }
    else s.takeFrame f

/-- A class 1 frame beyond the credit that the module has granted is rejected (R299); any other is taken, and its place is
granted again (R282). -/
def State.takeCredit (s : State) (p : Nat) : Option State :=
  let left := (s.lnk.granted.getD p 0 + 65536 - s.lnk.taken.getD p 0) % 65536
  if left = 0 ∨ 32767 < left then none
  else some (s.onLnk fun l => { l with taken := l.taken.modify p fun n => (n + 1) % 65536 })

/-- A frame with a good CRC (R274, R282, R292, R293). -/
def State.goodFrame (s : State) (n : Nat) (h : LWord) (ws : List LWord) (k phi : Nat) : State :=
  let p := n / 12
  if !s.accepts n h then s.rejectFrame n
  else if hdrType h = 0x00 then s.takeBringup n true (ws.headD 0)
  else if !s.laneUp n then s
  else if hdrType h = 0x01 then s.doCreditFrame p (ws.headD 0)
  else
    let f : RxHeld :=
      { path := p, cls := hdrClass h, seq := hdrSeq h, ftype := hdrType h, lane := n, words := ws, at_ := k, phi := phi }
    if hdrClass h = 1 then
      match s.takeCredit p with
      | none => s.rejectFrame n
      | some s => s.order f
    else s.order f

/-- Is lane n's receive buffer full: 8 of its frames are held for a missing SEQ (R27, R292)? DESIGN CHOICE: log entry 88. -/
def State.rxFull (s : State) (n : Nat) : Bool := decide (8 ≤ (s.lnk.hold.filter fun f => f.lane == n).length)

/-- FRAME_RECEIVED: lane n has received a frame: header, payload and CRC as they arrived, with the count and phase of its SYNC.
A WORDS value above 32 is a marker error (R272). Only a lane in UP whose receiver is active, or one in bring-up, takes
frames (R255, R257, R262). A frame that fails its CRC is counted (R273), and one that finds the receive buffer full is discarded
and counted (R27). DEDUCED: log entry 28. -/
def State.doFrameReceived (s : State) (n : Nat) (h : LWord) (payload : List LWord) (crc k phi : Nat) : State :=
  let up := s.laneUp n && s.rd F.LNK_LANE_STAT_RX_SUB n == 0
  if !s.hears n || !(up || s.rd F.LNK_LANE_STAT_STATE n == 1) then s
  else
    let s := if up then s.toCount k else s
    if 32 < hdrWords h then (if up then s.enterRealign n false else s)
    else
      let ws := payload.take (hdrWords h)
      let s := s.rxAdvance n ws.length
      if crc ≠ crcWords (h :: ws) then (s.crcFailed n).takeBringup n false 0
      else if up && s.rxFull n then s.rejectFrame n
      else s.goodFrame n h ws k (phi % 1024)

/-- The held frame of a class and path whose SEQ is the first ahead of the expected one. -/
def State.firstHeld (s : State) (p c : Nat) : Option RxHeld :=
  let ahead := fun (g : RxHeld) => (g.seq + 2 ^ 24 - (s.expected p c).getD 0) % 2 ^ 24
  (s.lnk.hold.filter fun g => g.path == p && g.cls == c).foldl (fun b g =>
    match b with
    | none => some g
    | some x => if ahead g < ahead x then some g else some x) none

/-- Frames of a class and path act in SEQ order until frame f has acted. -/
def State.passUntil (s : State) (f : RxHeld) : State :=
  s.forEach s.lnk.hold fun s _ =>
    if s.lnk.hold.contains f then
      match s.firstHeld f.path f.cls with
      | some g => s.passOn g
      | none => s
    else s

/-- REORDER_TIMEOUT: the frame held longest has waited REORDER (in 10 ns): it and those before it are passed on in order, and
the gap is counted (R292). -/
def State.doReorderTimeout (s : State) : State :=
  match s.lnk.hold with
  | [] => s
  | f :: _ =>
    let s := s.toCount (f.at_ + ceilDiv (s.rd F.LNK_RX_CFG_REORDER * 10 * s.clk.fs) 1000000000)
    ((s.flag F.LNK_RX_EVT 2).passUntil f).passHeld f.path f.cls

end Sys2Proof.Machine
end

