-- ==== Sys2Proof/Machine/Links.lean ====
section
/-! DEFINITION. The commands of frames, credits and the two paths (R281 to R293): one meaning for each constructor,
over the operations of the block's parts. -/

namespace Sys2Proof.Machine

/-- FRAME_START (R284): At a chance on a path, the frame builders in class order start a frame on a lane. -/
def execFrameStart (path : Fin 2) (s : State) : Host.Outcome State Fault Refusal :=
  .next (s.cxDo fun s => s.doFrameStart path)

/-- CLASS_POLICY_WRITE (R287): A write of LNK_CLASS_POL changes duplication policies, with class 2 subject to
admission. -/
def execClassPolicyWrite (p : Fin 10) (w : Word) (s : State) : Host.Outcome State Fault Refusal :=
  .next (s.keeperDo fun s => s.hostWrite p F.LNK_CLASS_POL w)

/-- FRAME_RECEIVED (R293): A received downlink frame is checked for CRC, module, path, type, class and words. -/
def execFrameReceived (n : Fin 24) (header : LWord) (payload : List LWord) (crc : BitVec 32) (k : Nat) (phi : Fin
    1024) (s : State) : Host.Outcome State Fault Refusal :=
  .next (s.cxDo fun s => s.doFrameReceived n header payload crc.toNat k phi)

/-- CREDIT_FRAME (R281): A received CREDIT frame updates the cumulative limits of the path. -/
def execCreditFrame (path : Fin 2) (w : LWord) (s : State) : Host.Outcome State Fault Refusal :=
  .next (s.cxDo fun s => s.doCreditFrame path w)

/-- CREDIT_SEND (R282): The module sends a CREDIT frame when its class 1 limit has advanced by 8, or every 5 µs. -/
def execCreditSend (path : Fin 2) (s : State) : Host.Outcome State Fault Refusal :=
  .next (s.cxDo fun s => s.doCreditSend path)

/-- REORDER_TIMEOUT (R292): A frame held for a missing SEQ is passed on after REORDER, setting GAP_SEEN. -/
def execReorderTimeout (s : State) : Host.Outcome State Fault Refusal :=
  .next (s.cxDo fun s => s.doReorderTimeout)

end Sys2Proof.Machine
end

