-- ==== Sys2Proof/Machine/Pace.lean ====
section
/-! DEFINITION. The commands of the pace loop, PACE_FAULT and the rate switch, and the elastic buffers (R42 to R48,
R482): one meaning for each constructor, over the operations of the block's parts. -/

namespace Sys2Proof.Machine

/-- ELASTIC_BUFFER_OVERFLOW (R482): A converter elastic buffer drops a 64-sample block, fills it with zeros and
marks it and its successor POISON. -/
def execElasticBufferOverflow (ch : Fin 64) (n : Nat) (s : State) : Host.Outcome State Fault Refusal :=
  .next (s.cxDo fun s => s.doOverflow ch n)

/-- PACE_LOOP_TICK (R42): Once per tick the keeper evaluates the lowest pace margin and raises or holds the VCORE
setpoint. -/
def execPaceLoopTick (margins : List Int) (s : State) : Host.Outcome State Fault Refusal :=
  .next (s.keeperDo fun s => s.doPaceTick margins)

/-- VCORE_STEP_DOWN (R42): After 1000 consecutive ticks with a margin of at least 25%, the VCORE setpoint is lowered
by 10 mV. -/
def execVcoreStepDown (s : State) : Host.Outcome State Fault Refusal :=
  .next (s.cxDo fun s => s.doStepDown)

/-- PACE_FAULT (R43): After 10 ticks below 10% margin at 0.85 V, PACE_FAULT is set, an incident opens and FMAX is
lowered. -/
def execPaceFault (s : State) : Host.Outcome State Fault Refusal :=
  .next (s.cxDo fun s => s.doPaceFault)

/-- AUTO_FALLBACK (R43): With AUTO_FALLBACK set, a converter elastic buffer passing 75% fill starts the switch to
FMAX. -/
def execAutoFallback (s : State) : Host.Outcome State Fault Refusal :=
  .next (s.cxDo fun s => s.doAutoFallback)

/-- PACE_SWITCH (R45): A write of PWR_PACE_CMD.SWITCH while PACE_FAULT is set starts the switch to FMAX. -/
def execPaceSwitch (p : Fin 10) (s : State) : Host.Outcome State Fault Refusal :=
  .next (s.keeperDo fun s => s.hostBit p F.PWR_PACE_CMD_SWITCH 0)

/-- PACE_RESTORE (R46): A write of RESTORE while SWITCHED is set returns the module to the configured rate. -/
def execPaceRestore (p : Fin 10) (s : State) : Host.Outcome State Fault Refusal :=
  .next (s.keeperDo fun s => s.hostBit p F.PWR_PACE_CMD_RESTORE 0)

/-- PACE_CLR_MIN (R48): A write of CLR_MIN resets MIN_SINCE_CLEAR of all pace monitors to 255. -/
def execPaceClrMin (p : Fin 10) (s : State) : Host.Outcome State Fault Refusal :=
  .next (s.keeperDo fun s => s.hostBit p F.PWR_PACE_CMD_CLR_MIN 0)

/-- RATE_SWITCH_INGEST_STOP (R45): Ingest stops on all channels at the common count N that is a multiple of 1024. -/
def execRateSwitchIngestStop (s : State) : Host.Outcome State Fault Refusal :=
  .next (s.cxDo fun s => s.doSwitchStop)

/-- RATE_SWITCH_RELOCK (R45): The region PLLs and the counter reference relock at the new rate, and the time unit
re-bases. -/
def execRateSwitchRelock (periods : Nat) (readings : List Int) (s : State) : Host.Outcome State Fault Refusal :=
  .next (s.cxDo fun s => s.doRelock periods readings)

/-- RATE_SWITCH_RESUME (R45): Ingest resumes from count N, with RATE_REDUCED set in the stream blocks. -/
def execRateSwitchResume (s : State) : Host.Outcome State Fault Refusal :=
  .next (s.cxDo fun s => s.doSwitchResumeStart)

/-- PACE_FAULT_CLEAR (R46): PACE_FAULT and RATE_REDUCED clear after 1000 consecutive ticks with a margin of at least
10%. -/
def execPaceFaultClear (s : State) : Host.Outcome State Fault Refusal :=
  .next (s.cxDo fun s => s.doPaceClear)

end Sys2Proof.Machine
end

