-- ==== Sys2Proof/Machine/SlowSensors.lean ====
section
/-! DEFINITION. The commands of slow sensors (R377 to R381): one meaning for each constructor, over the operations
of the block's parts. -/

namespace Sys2Proof.Machine

/-- SENSOR_PULSE (R377): In a tick's pulse slot, the excitation of the due slow-sensor input switches on. -/
def execSensorPulse (parity : Fin 2) (s : State) : Host.Outcome State Fault Refusal :=
  .next (s.keeperDo fun s => s.doSensorPulse parity)

/-- SENSOR_CONVERSION (R378): At the end of a pulse, CODE, VALUE and OPEN are written. -/
def execSensorConversion (parity : Fin 2) (s1 : BitVec 16) (s2 : BitVec 16) (above : Bool) (t1 : BitVec 16) (t2 :
    BitVec 16) (tabove : Bool) (s : State) : Host.Outcome State Fault Refusal :=
  .next (s.keeperDo fun s => s.doSensorConversion parity ⟨s1.toNat, s2.toNat, above⟩ ⟨t1.toNat, t2.toNat, tabove⟩)

/-- SWITCH_EVALUATE (R381): On the tick after a conversion, the input's threshold switches apply their debounce rule
and act. -/
def execSwitchEvaluate (i : Fin 16) (s : State) : Host.Outcome State Fault Refusal :=
  .next (s.keeperDo fun s => s.doSwitchEvaluate i)

end Sys2Proof.Machine
end

