-- ==== Sys2Proof/Machine/Spectra.lean ====
section
/-! DEFINITION. The commands of channelisers, watch cells and masks (R138 to R167): one meaning for each
constructor, over the operations of the block's parts. -/

namespace Sys2Proof.Machine

/-- SPECTRUM_FRAME (R138): A channeliser completes frame m, marks it, and passes its record on. -/
def execSpectrumFrame (ch : Fin 64) (m : Nat) (ups : List Bool) (s : State) : Host.Outcome State Fault
    Refusal :=
  .next (s.cxDo fun s => s.doSpectrumFrame ch m ups)

/-- PROTOTYPE_SWAP (R144): A write of CHN_CTL.SWAP schedules a swap of the prototype banks. -/
def execPrototypeSwap (p : Fin 10) (s : State) : Host.Outcome State Fault Refusal :=
  .next (s.keeperDo fun s => s.hostBit p F.CHN_CTL_SWAP 0)

/-- PROTOTYPE_SWAP_APPLY (R144): At the first eligible frame boundary, all channelisers switch to the new prototype
bank. -/
def execPrototypeSwapApply (s : State) : Host.Outcome State Fault Refusal :=
  .next (s.cxDo fun s => s.doProtoSwapApply)

/-- CHN_EN_WRITE (R145): A write of CHN_CTL.EN stops the channelisers or restarts them at the next frame boundary.
-/
def execChnEnWrite (p : Fin 10) (en : Bool) (s : State) : Host.Outcome State Fault Refusal :=
  .next (s.keeperDo fun s => s.hostField p F.CHN_CTL_EN 0 en.toNat)

/-- FRAME_RECORD (R154): A frame record reaches the watch cells and mask tests and updates every cell of the
channel. -/
def execFrameRecord (s : State) : Host.Outcome State Fault Refusal :=
  .next (s.cxDo fun s => s.doFrameRecord)

/-- K_CHANGE (R155): A write of WCH_CHAN.K puts the channel into PRIMING at the next frame. -/
def execKChange (p : Fin 10) (ch : Fin 64) (k : Fin 32) (s : State) : Host.Outcome State Fault Refusal :=
  .next (s.keeperDo fun s => s.hostField p F.WCH_CHAN_K ch k)

/-- SEG_SWAP (R155): A write of WCH_CTL.SEG_SWAP schedules a swap of the threshold segment banks. -/
def execSegSwap (p : Fin 10) (s : State) : Host.Outcome State Fault Refusal :=
  .next (s.keeperDo fun s => s.hostBit p F.WCH_CTL_SEG_SWAP 0)

/-- SEG_SWAP_APPLY (R155): At the frame boundary, the segment banks swap, or the swap is refused for an invalid
table. -/
def execSegSwapApply (s : State) : Host.Outcome State Fault Refusal :=
  .next (s.cxDo fun s => s.doSegSwapApply)

/-- MASK_SWAP (R167): A write of WCH_CTL.MASK_SWAP schedules a swap of the mask banks. -/
def execMaskSwap (p : Fin 10) (s : State) : Host.Outcome State Fault Refusal :=
  .next (s.keeperDo fun s => s.hostBit p F.WCH_CTL_MASK_SWAP 0)

/-- MASK_SWAP_APPLY (R163): The mask banks swap at the frame boundary, and every violation state clears with exit
reason 2. -/
def execMaskSwapApply (s : State) : Host.Outcome State Fault Refusal :=
  .next (s.cxDo fun s => s.doMaskSwapApply)

/-- ECC_SWEEP (R156): The background sweep checks watch cells and zeroes and reports any cell that is uncorrectable.
-/
def execEccSweep (ch : Fin 64) (sub : Fin 4096) (errors : Nat) (s : State) : Host.Outcome State Fault Refusal :=
  .next (s.cxDo fun s => s.doEccSweep ch sub errors)

end Sys2Proof.Machine
end

