-- ==== Sys2Proof/Machine/Starting.lean ====
section
/-! DEFINITION. The commands of resets and start-up (R405 to R417): one meaning for each constructor, over the
operations of the block's parts. -/

namespace Sys2Proof.Machine

/-- KEEPER_RESTART (R398): After S5, the keeper makes a cold start once VIN and its temperature allow. -/
def execKeeperRestart (straps : BitVec 4) (tj : Int) (s : State) : Host.Outcome State Fault Refusal :=
  .next (s.doKeeperRestart straps.toNat tj)

/-- COLD_RESET (R411): VIN rising through the keeper boot threshold starts the cold start sequence. -/
def execColdReset (straps : BitVec 4) (s : State) : Host.Outcome State Fault Refusal :=
  .next (s.doColdReset straps.toNat)

/-- RESET_N_ASSERT (R408): A filtered low on RESET_N starts a warm reset and holds CX and the QF dies in reset. -/
def execResetNAssert (s : State) : Host.Outcome State Fault Refusal :=
  .next (s.doResetAssert)

/-- RESET_N_RELEASE (R408): After 10 µs high, start-up continues from step 3. -/
def execResetNRelease (straps : BitVec 4) (s : State) : Host.Outcome State Fault Refusal :=
  .next (s.doResetRelease straps.toNat)

/-- WARM (R406): A keyed write of MGT_RESET_CMD.WARM starts a warm reset. -/
def execWarm (p : Fin 10) (s : State) : Host.Outcome State Fault Refusal :=
  .next (s.keeperDo fun s => s.hostWrite p F.MGT_RESET_CMD 0x4B570001#32)

/-- RESTART (R414): A keyed write of MGT_RESET_CMD.RESTART starts a data-plane restart. -/
def execRestart (p : Fin 10) (s : State) : Host.Outcome State Fault Refusal :=
  .next (s.keeperDo fun s => s.hostWrite p F.MGT_RESET_CMD 0x4B570002#32)

/-- RESTART_INGEST_STOP (R414): Ingest stops at the next common multiple of 1024, and jobs end and queues empty. -/
def execRestartIngestStop (s : State) : Host.Outcome State Fault Refusal :=
  .next (s.cxDo fun s => s.doRestartStop)

/-- RESTART_RESUME (R414): Ingest resumes, the ring restarts with a RING_RESET mark, and RESTART_BUSY clears. -/
def execRestartResume (us : Nat) (s : State) : Host.Outcome State Fault Refusal :=
  .next (s.cxDo fun s => s.doRestartResume us)

/-- STUCK_RESET (R409): RESET_N low for 30 s is stuck: incident 0x4401, ALERT and an optional release with OVERRIDE.
-/
def execStuckReset (straps : BitVec 4) (s : State) : Host.Outcome State Fault Refusal :=
  .next (s.keeperDo fun s => s.doStuckReset straps.toNat)

/-- OVERRIDE_CLEAR (R409): OVERRIDE clears after RESET_N has stayed high for 1000 ticks. -/
def execOverrideClear (s : State) : Host.Outcome State Fault Refusal :=
  .next (s.keeperDo fun s => s.doOverrideClear)

/-- STARTUP_REHEARSAL (R411): With AUTO_REHEARSAL set, start-up runs Rehearsal in all powered regions once time is
acquired. -/
def execStartupRehearsal (ns : Nat) (s : State) : Host.Outcome State Fault Refusal :=
  .next (s.cxDo fun s => s.doStartRehearsal ns)

/-- STARTUP_READY (R411): The start-up sequence issues APPLY if the image enables the stream and sets READY. -/
def execStartupReady (s : State) : Host.Outcome State Fault Refusal :=
  .next (s.cxDo fun s => s.doStartReady)

/-- TIME_WAIT_EXPIRY (R412): Time not LOCKED within TIME_WAIT_S sets TIME_WAIT_EXPIRED and continues the sequence.
-/
def execTimeWaitExpiry (s : State) : Host.Outcome State Fault Refusal :=
  .next (s.cxDo fun s => s.doTimeWaitExpiry)

/-- CONFIGURATION_IMAGE_LOADED (R411): The flash load of start-up step 3 completes, feeds and sensors start, CX is
powered and lanes begin bring-up. -/
def execConfigurationImageLoaded (slot : Fin 2) (failed : Fin 3) (valid : Bool) (image : List (Nat × Nat))
    (sensorCal : Bool) (safOk : Bool) (s : State) : Host.Outcome State Fault Refusal :=
  .next (s.keeperDo fun s => s.doImageLoaded slot failed valid image sensorCal safOk)

end Sys2Proof.Machine
end

