-- ==== Sys2Proof/Machine/Streams.lean ====
section
/-! DEFINITION. The commands of stream encoders, codec jobs and output queues (R210 to R243): one meaning for each
constructor, over the operations of the block's parts. -/

namespace Sys2Proof.Machine

/-- STREAM_PACKET_COMPLETE (R212): An encoder group completes a stream packet and enters it into its class 2
sub-queue. -/
def execStreamPacketComplete (ch : Fin 64) (n0 : Nat) (flips : List (Nat × Nat)) (bad : List Nat) (s : State) :
    Host.Outcome State Fault Refusal :=
  .next (s.cxDo fun s => s.doStreamPacket ch n0 flips bad)

/-- STREAM_APPLY (R210): A write of CDC_STREAM_CMD.APPLY commits the staged stream settings, subject to admission.
-/
def execStreamApply (p : Fin 10) (s : State) : Host.Outcome State Fault Refusal :=
  .next (s.keeperDo fun s => s.hostBit p F.CDC_STREAM_CMD_APPLY 0)

/-- STREAM_APPLY_TAKE_EFFECT (R210): An accepted APPLY takes effect at each channel's next eligible packet boundary.
-/
def execStreamApplyTakeEffect (s : State) : Host.Outcome State Fault Refusal :=
  .next (s.cxDo fun s => s.doStreamApplyEffect)

/-- CODEC_JOB_START (R223): A waiting codec job starts when the previous job has completed, and its descriptor is
checked. -/
def execCodecJobStart (s : State) : Host.Outcome State Fault Refusal :=
  .next (s.cxDo fun s => s.doCodecStart)

/-- CODEC_JOB_COMPLETE (R221): A codec job ends and writes its completion entry with TOKEN and STATUS. -/
def execCodecJobComplete (flips : List (Nat × Nat × Nat)) (bad : List (Nat × Nat)) (s : State) :
    Host.Outcome State Fault Refusal :=
  .next (s.cxDo fun s => s.doCodecComplete { flips := flips, bad := bad })

/-- CODEC_CANCEL (R222): A write of CDC_JOB_CTL.CANCEL stops the running job and completes the waiting jobs as
CANCELLED. -/
def execCodecCancel (p : Fin 10) (s : State) : Host.Outcome State Fault Refusal :=
  .next (s.keeperDo fun s => s.hostBit p F.CDC_JOB_CTL_CANCEL 0)

/-- LINGER_EXPIRY (R236): When the oldest ready word of class 1 or 3 has waited its linger time, a part-filled frame
may start. -/
def execLingerExpiry (cls : Fin 4) (s : State) : Host.Outcome State Fault Refusal :=
  .next (s.cxDo fun s => s.doLingerExpiry cls)

/-- QUEUE_FLUSH (R240): A FLUSH bit fixes the flush set of a class 2 sub-queue and discards its waiting packets. -/
def execQueueFlush (p : Fin 10) (g : Fin 8) (s : State) : Host.Outcome State Fault Refusal :=
  .next (s.keeperDo fun s => s.hostWrite p F.QUE_CMD (BitVec.ofNat 32 (2 ^ g.val)))

/-- QUEUE_FLUSH_DONE (R240): Once the in-progress packets are discarded and the read packet is done, FLUSH_BUSY
clears. -/
def execQueueFlushDone (g : Fin 8) (s : State) : Host.Outcome State Fault Refusal :=
  .next (s.cxDo fun s => s.doFlushDone g)

/-- DROP3 (R241): A write of QUE_CMD.DROP3 cuts the class 3 packet being read, or sets DROP_NONE_SEEN. -/
def execDrop3 (p : Fin 10) (s : State) : Host.Outcome State Fault Refusal :=
  .next (s.keeperDo fun s => s.hostBit p F.QUE_CMD_DROP3 0)

/-- DROP3_DONE (R241): The rest of the dropped packet is discarded through EOP, and DROP_BUSY clears. -/
def execDrop3Done (s : State) : Host.Outcome State Fault Refusal :=
  .next (s.cxDo fun s => s.doDrop3Done)

/-- HWM_RESET (R243): A write of QUE_HWM sets it to the present fill. -/
def execHwmReset (p : Fin 10) (q : Fin 12) (w : Word) (s : State) : Host.Outcome State Fault Refusal :=
  .next (s.keeperDo fun s => s.hostWrite p (F.QUE_HWM + 16 * q) w)

end Sys2Proof.Machine
end

