-- ==== Sys2Proof/Machine/Supplies.lean ====
section
/-! DEFINITION. The commands of power, shedding, temperatures and the prompt book (R62, R388 to R404): one meaning
for each constructor, over the operations of the block's parts. -/

namespace Sys2Proof.Machine

/-- THERMAL_THRESHOLD (R62): A die whose temperature on a tick is above its threshold triggers that die's thermal
action. -/
def execThermalThreshold (d : Fin 5) (tj : Int) (s : State) : Host.Outcome State Fault Refusal :=
  .next (s.keeperDo fun s => s.doThermal d tj)

/-- THERMAL_RECOVER (R62): A thermal action is undone once the die has cooled 10 °C below its threshold. -/
def execThermalRecover (d : Fin 5) (tj : Int) (s : State) : Host.Outcome State Fault Refusal :=
  .next (s.keeperDo fun s => s.doThermalRecover d tj)

/-- STAGE_TICK (R393): On each tick the shedding controller enters a deeper stage in force with all intermediate
actions. -/
def execStageTick (vins : List (BitVec 14)) (vaux : BitVec 12) (vfeed : BitVec 12) (power : BitVec 10) (s : State) :
    Host.Outcome State Fault Refusal :=
  .next (s.bootedDo fun s => s.doStageTick (vins.map BitVec.toNat) vaux.toNat vfeed.toNat power.toNat)

/-- STAGE_RESTORE (R393): After 100 ticks in a stage with a shallower stage in force, the controller moves up one
stage. -/
def execStageRestore (s : State) : Host.Outcome State Fault Refusal :=
  .next (s.keeperDo fun s => s.doStageRestore)

/-- FORCE_STAGE (R392): A write of PWR_FORCE sets the host's forced stage. -/
def execForceStage (p : Fin 10) (k : Fin 8) (s : State) : Host.Outcome State Fault Refusal :=
  .next (s.keeperDo fun s => s.hostWrite p F.PWR_FORCE (BitVec.ofNat 32 k))

/-- SHEDDING_NOTICE (R396): A shedding notice goes out on class 0, at most once per 100 ms. -/
def execSheddingNotice (s : State) : Host.Outcome State Fault Refusal :=
  .next (s.cxDo fun s => s.doSheddingNotice)

/-- KEEPER_POWER_FAIL (R390): The unfiltered comparator raises keeper power-fail, which enters S5 at once. -/
def execKeeperPowerFail (s : State) : Host.Outcome State Fault Refusal :=
  .next (s.keeperDo fun s => s.doPowerFail)

/-- ORDERLY_STOP (R398): Entry into S5 stops the data plane, opens the curtains and commits the prompt book. -/
def execOrderlyStop (vins : List (BitVec 14)) (s : State) : Host.Outcome State Fault Refusal :=
  .next (s.keeperDo fun s => s.doOrderlyStop (vins.map BitVec.toNat))

/-- KEEPER_DROP_OUT (R390): VIN below the drop-out stops the keeper. -/
def execKeeperDropOut (s : State) : Host.Outcome State Fault Refusal :=
  .next (s.doDropOut)

/-- VIN_OVERVOLTAGE (R388): 101 consecutive samples above 75 V set OV_SEEN and open incident 0x4302. -/
def execVinOvervoltage (vins : List (BitVec 14)) (s : State) : Host.Outcome State Fault Refusal :=
  .next (s.keeperDo fun s => s.doOverVoltage (vins.map BitVec.toNat))

/-- RAIL_FAULT (R389): A rail more than 5% from its setpoint for 10 µs raises fault 0x4301. -/
def execRailFault (rail : Fin 4) (scope : Fin 5) (s : State) : Host.Outcome State Fault Refusal :=
  .next (s.keeperDo fun s => s.doRailFault rail scope)

/-- PB_COMMIT (R400): A write of PWR_CMD.PB_COMMIT starts a HOST prompt book commit. -/
def execPbCommit (p : Fin 10) (s : State) : Host.Outcome State Fault Refusal :=
  .next (s.keeperDo fun s => s.hostBit p F.PWR_CMD_PB_COMMIT 0)

/-- PB_PERIODIC_COMMIT (R400): Every PERIOD_S seconds a PERIODIC prompt book commit starts. -/
def execPbPeriodicCommit (s : State) : Host.Outcome State Fault Refusal :=
  .next (s.keeperDo fun s => s.doPbPeriodic)

/-- PB_COMMIT_DONE (R401): A commit's record is read back, and a failed record is repeated once. -/
def execPbCommitDone (ok : Bool) (s : State) : Host.Outcome State Fault Refusal :=
  .next (s.keeperDo fun s => s.doCommitDone ok)

/-- VIN_CLR_MIN (R404): A write of PWR_CMD.CLR_MIN sets MIN_10MV to the present VIN. -/
def execVinClrMin (p : Fin 10) (s : State) : Host.Outcome State Fault Refusal :=
  .next (s.keeperDo fun s => s.hostBit p F.PWR_CMD_CLR_MIN 0)

/-- OVER_VOLTAGE_END (R388): A filtered VIN sample at or below 75 V ends the over-voltage condition, so incident
0x4302 can close. -/
def execOverVoltageEnd (s : State) : Host.Outcome State Fault Refusal :=
  .next (s.keeperDo fun s => s.doOverVoltageEnd)

end Sys2Proof.Machine
end

