-- ==== Sys2Proof/Machine/Triggers.lean ====
section
/-! DEFINITION. The commands of detectors, cues, the capture ring, snippets and readouts (R173 to R200): one meaning
for each constructor, over the operations of the block's parts. -/

namespace Sys2Proof.Machine

/-- DETECTOR_WINDOW_END (R174): At the end of an estimation window, the impulse detector updates dc and noise. -/
def execDetectorWindowEnd (ch : Fin 64) (s : State) : Host.Outcome State Fault Refusal :=
  .next (s.cxDo fun s => s.doDetectorWindowEnd ch)

/-- IMPULSE_DETECTOR_FIRE (R174): An envelope at or above threshold makes the detector interpolate a peak and
propose a cue. -/
def execImpulseDetectorFire (ch : Fin 64) (n : Nat) (s : State) : Host.Outcome State Fault Refusal :=
  .next (s.cxDo fun s => s.doImpulseFire ch n)

/-- TRIGGER_INPUT_EDGE (R178): An accepted edge on TRIG_IN[n] is time-stamped and proposes a bit 3 or bit 4 cue. -/
def execTriggerInputEdge (n : Fin 2) (k : Nat) (phi : Fin 64) (falling : Bool) (s : State) : Host.Outcome State
    Fault Refusal :=
  .next (s.cxDo fun s => s.doTriggerEdge n k phi falling)

/-- SOFTWARE_CUE (R173): A write of TRG_SW.FIRE proposes a bit 6 cue. -/
def execSoftwareCue (p : Fin 10) (s : State) : Host.Outcome State Fault Refusal :=
  .next (s.keeperDo fun s => s.hostBit p F.TRG_SW_FIRE 0)

/-- CUE_PROPOSAL (R180): The cue engine takes a proposal through the prescaler, the blind check and merging. -/
def execCueProposal (i : Nat) (s : State) : Host.Outcome State Fault Refusal :=
  .next (s.cxDo fun s => s.doCueProposal i)

/-- CUE_CLOSE (R181): At count c + 32,768 a cue closes and emits its record with its disposition. -/
def execCueClose (s : State) : Host.Outcome State Fault Refusal :=
  .next (s.cxDo fun s => s.doCueClose)

/-- TRIG_OUT_END (R185): TRIG_OUT goes low when its pulse width expires. -/
def execTrigOutEnd (s : State) : Host.Outcome State Fault Refusal :=
  .next (s.cxDo fun s => s.doTrigOutEnd)

/-- BUDGET_INTERVAL_END (R189): At the end of each budget interval, each prescaler exponent is adjusted from the
charge. -/
def execBudgetIntervalEnd (s : State) : Host.Outcome State Fault Refusal :=
  .next (s.cxDo fun s => s.doBudgetIntervalEnd)

/-- SNIPPET_EXTRACT_START (R187): When the cue has closed and count end − 1 has been written, extraction of the
snippet begins. -/
def execSnippetExtractStart (s : State) : Host.Outcome State Fault Refusal :=
  .next (s.cxDo fun s => s.doSnippetStart)

/-- SNIPPET_COMPLETE (R188): A snippet job finishes reading its blocks and emits its trailer. -/
def execSnippetComplete (id : BitVec 32) (size : Nat) (flips : List (Nat × Nat × Nat)) (bad : List (Nat × Nat)) (s : State) :
    Host.Outcome State Fault Refusal :=
  .next (s.cxDo fun s => s.doSnippetComplete id.toNat size { flips := flips, bad := bad })

/-- FREEZE (R191): A write of TRG_CTL.FREEZE in ARMED sets FREEZE_PENDING and sets Z. -/
def execFreeze (p : Fin 10) (s : State) : Host.Outcome State Fault Refusal :=
  .next (s.keeperDo fun s => s.hostBit p F.TRG_CTL_FREEZE 0)

/-- FREEZE_STOP (R193): At count Z, ring writes stop, RING_STATE becomes FROZEN and a FREEZE mark is made. -/
def execFreezeStop (s : State) : Host.Outcome State Fault Refusal :=
  .next (s.cxDo fun s => s.doFreezeStop)

/-- REARM (R194): A write of TRG_CTL.REARM in FROZEN moves the ring to REARMING. -/
def execRearm (p : Fin 10) (s : State) : Host.Outcome State Fault Refusal :=
  .next (s.keeperDo fun s => s.hostBit p F.TRG_CTL_REARM 0)

/-- REARM_LOG_CLEAR (R194): Once the active jobs have finished, the attribute log is cleared and R is set. -/
def execRearmLogClear (ns : Nat) (s : State) : Host.Outcome State Fault Refusal :=
  .next (s.cxDo fun s => s.doRearmLogClear ns)

/-- REARM_RESUME (R194): At count R, writes resume, RING_STATE becomes ARMED and a REARM mark is made. -/
def execRearmResume (s : State) : Host.Outcome State Fault Refusal :=
  .next (s.cxDo fun s => s.doRearmResume)

/-- READOUT_REQUEST (R195): A readout-request frame is checked for duplicates, converted to counts and answered with
a header. -/
def execReadoutRequest (req : BitVec 32) (len : BitVec 32) (t : BitVec 48) (map : BitVec 64) (s : State) :
    Host.Outcome State Fault Refusal :=
  .next (s.cxDo fun s => s.doReadoutRequest req.toNat len.toNat t.toNat map.toNat)

/-- READOUT_COMPLETE (R200): A readout finishes its data and emits its trailer with the final status. -/
def execReadoutComplete (req : BitVec 32) (size : Nat) (flips : List (Nat × Nat × Nat)) (bad : List (Nat × Nat)) (s : State) :
    Host.Outcome State Fault Refusal :=
  .next (s.cxDo fun s => s.doReadoutComplete req.toNat size { flips := flips, bad := bad })

end Sys2Proof.Machine
end

