-- ==== Sys2Proof/Machine/Dispatch.lean ====
section
/-! DEFINITION. The effect of a command on everything but the queue: one arm for each constructor. -/

namespace Sys2Proof.Machine

/-- The meaning of each command. -/
def exec (i : Instr) (s : State) : Host.Outcome State Fault Refusal :=
  match i with
  | .registerWrite p a w => Sys2Proof.Machine.execRegisterWrite p a w s
  | .pairLowRead p a => Sys2Proof.Machine.execPairLowRead p a s
  | .watchCellRead p cell high => Sys2Proof.Machine.execWatchCellRead p cell high s
  | .diagWindowRead p word => Sys2Proof.Machine.execDiagWindowRead p word s
  | .refclkLoss => Sys2Proof.Machine.execRefclkLoss s
  | .elasticBufferOverflow ch n => Sys2Proof.Machine.execElasticBufferOverflow ch n s
  | .paceLoopTick margins => Sys2Proof.Machine.execPaceLoopTick margins s
  | .vcoreStepDown => Sys2Proof.Machine.execVcoreStepDown s
  | .paceFault => Sys2Proof.Machine.execPaceFault s
  | .autoFallback => Sys2Proof.Machine.execAutoFallback s
  | .paceSwitch p => Sys2Proof.Machine.execPaceSwitch p s
  | .paceRestore p => Sys2Proof.Machine.execPaceRestore p s
  | .paceClrMin p => Sys2Proof.Machine.execPaceClrMin p s
  | .rateSwitchIngestStop => Sys2Proof.Machine.execRateSwitchIngestStop s
  | .rateSwitchRelock periods readings => Sys2Proof.Machine.execRateSwitchRelock periods readings s
  | .rateSwitchResume => Sys2Proof.Machine.execRateSwitchResume s
  | .paceFaultClear => Sys2Proof.Machine.execPaceFaultClear s
  | .streamPacketComplete ch n0 flips bad => Sys2Proof.Machine.execStreamPacketComplete ch n0 flips bad s
  | .rawBlockWrite ch n conv ahead => Sys2Proof.Machine.execRawBlockWrite ch n conv ahead s
  | .moduleIdWrite p id => Sys2Proof.Machine.execModuleIdWrite p id s
  | .unitEnableWrite p half w => Sys2Proof.Machine.execUnitEnableWrite p half w s
  | .unitEnableTakeEffect => Sys2Proof.Machine.execUnitEnableTakeEffect s
  | .stationWideReport e => Sys2Proof.Machine.execStationWideReport e s
  | .regionFault r kind => Sys2Proof.Machine.execRegionFault r kind s
  | .calSourceFault g => Sys2Proof.Machine.execCalSourceFault g s
  | .thermalThreshold d tj => Sys2Proof.Machine.execThermalThreshold d tj s
  | .thermalRecover d tj => Sys2Proof.Machine.execThermalRecover d tj s
  | .rangeWrite p ch w => Sys2Proof.Machine.execRangeWrite p ch w s
  | .rangeChangeApply ch => Sys2Proof.Machine.execRangeChangeApply ch s
  | .autoRangeDecision ch => Sys2Proof.Machine.execAutoRangeDecision ch s
  | .arThrWrite p w => Sys2Proof.Machine.execArThrWrite p w s
  | .feedStateTick current opened lineUp back => Sys2Proof.Machine.execFeedStateTick current opened lineUp back s
  | .feedEnWrite p w => Sys2Proof.Machine.execFeedEnWrite p w s
  | .feedOverloadTrip a => Sys2Proof.Machine.execFeedOverloadTrip a s
  | .feedRetry a => Sys2Proof.Machine.execFeedRetry a s
  | .feedSweep p => Sys2Proof.Machine.execFeedSweep p s
  | .feedSweepPeriodic => Sys2Proof.Machine.execFeedSweepPeriodic s
  | .feedSweepStartUp => Sys2Proof.Machine.execFeedSweepStartUp s
  | .feedTestPulse before => Sys2Proof.Machine.execFeedTestPulse before s
  | .feedPulseEnd lineHigh now => Sys2Proof.Machine.execFeedPulseEnd lineHigh now s
  | .feedSweepEnd => Sys2Proof.Machine.execFeedSweepEnd s
  | .vfeedUndervoltage mv10 => Sys2Proof.Machine.execVfeedUndervoltage mv10 s
  | .vfeedRecover mv10 => Sys2Proof.Machine.execVfeedRecover mv10 s
  | .bgWindowEnd ch levels share spur edges => Sys2Proof.Machine.execBgWindowEnd ch levels share spur edges s
  | .rehearsalStart p mask => Sys2Proof.Machine.execRehearsalStart p mask s
  | .rehearsalConnect r => Sys2Proof.Machine.execRehearsalConnect r s
  | .rehearsalPhase r meas => Sys2Proof.Machine.execRehearsalPhase r meas s
  | .rehearsalReconnect seen => Sys2Proof.Machine.execRehearsalReconnect seen s
  | .calSave p => Sys2Proof.Machine.execCalSave p s
  | .calSaveDone ok => Sys2Proof.Machine.execCalSaveDone ok s
  | .calLoad p => Sys2Proof.Machine.execCalLoad p s
  | .regionPllLock r reading => Sys2Proof.Machine.execRegionPllLock r reading s
  | .injectRequest p w => Sys2Proof.Machine.execInjectRequest p w s
  | .injectWindowStart g => Sys2Proof.Machine.execInjectWindowStart g s
  | .injectComplete g => Sys2Proof.Machine.execInjectComplete g s
  | .skewWrite p ch w => Sys2Proof.Machine.execSkewWrite p ch w s
  | .skewChangeApply ch => Sys2Proof.Machine.execSkewChangeApply ch s
  | .skewCalRequest p mask => Sys2Proof.Machine.execSkewCalRequest p mask s
  | .skewCalComplete g meas => Sys2Proof.Machine.execSkewCalComplete g meas s
  | .notchWrite p j w => Sys2Proof.Machine.execNotchWrite p j w s
  | .notchBwWrite p j w => Sys2Proof.Machine.execNotchBwWrite p j w s
  | .notchChangeApply ch => Sys2Proof.Machine.execNotchChangeApply ch s
  | .firBankSwap p ch => Sys2Proof.Machine.execFirBankSwap p ch s
  | .chainConfigWrite p ch decim order => Sys2Proof.Machine.execChainConfigWrite p ch decim order s
  | .chainChangeApply ch => Sys2Proof.Machine.execChainChangeApply ch s
  | .spectrumFrame ch m ups => Sys2Proof.Machine.execSpectrumFrame ch m ups s
  | .prototypeSwap p => Sys2Proof.Machine.execPrototypeSwap p s
  | .prototypeSwapApply => Sys2Proof.Machine.execPrototypeSwapApply s
  | .chnEnWrite p en => Sys2Proof.Machine.execChnEnWrite p en s
  | .frameRecord => Sys2Proof.Machine.execFrameRecord s
  | .kChange p ch k => Sys2Proof.Machine.execKChange p ch k s
  | .segSwap p => Sys2Proof.Machine.execSegSwap p s
  | .segSwapApply => Sys2Proof.Machine.execSegSwapApply s
  | .maskSwap p => Sys2Proof.Machine.execMaskSwap p s
  | .maskSwapApply => Sys2Proof.Machine.execMaskSwapApply s
  | .eccSweep ch sub errors => Sys2Proof.Machine.execEccSweep ch sub errors s
  | .detectorWindowEnd ch => Sys2Proof.Machine.execDetectorWindowEnd ch s
  | .impulseDetectorFire ch n => Sys2Proof.Machine.execImpulseDetectorFire ch n s
  | .triggerInputEdge n k phi falling => Sys2Proof.Machine.execTriggerInputEdge n k phi falling s
  | .softwareCue p => Sys2Proof.Machine.execSoftwareCue p s
  | .cueProposal n => Sys2Proof.Machine.execCueProposal n s
  | .cueClose => Sys2Proof.Machine.execCueClose s
  | .trigOutEnd => Sys2Proof.Machine.execTrigOutEnd s
  | .budgetIntervalEnd => Sys2Proof.Machine.execBudgetIntervalEnd s
  | .snippetExtractStart => Sys2Proof.Machine.execSnippetExtractStart s
  | .snippetComplete id size flips bad => Sys2Proof.Machine.execSnippetComplete id size flips bad s
  | .freeze p => Sys2Proof.Machine.execFreeze p s
  | .freezeStop => Sys2Proof.Machine.execFreezeStop s
  | .rearm p => Sys2Proof.Machine.execRearm p s
  | .rearmLogClear ns => Sys2Proof.Machine.execRearmLogClear ns s
  | .rearmResume => Sys2Proof.Machine.execRearmResume s
  | .readoutRequest req len t map => Sys2Proof.Machine.execReadoutRequest req len t map s
  | .readoutComplete req size flips bad => Sys2Proof.Machine.execReadoutComplete req size flips bad s
  | .streamApply p => Sys2Proof.Machine.execStreamApply p s
  | .streamApplyTakeEffect => Sys2Proof.Machine.execStreamApplyTakeEffect s
  | .codecJobStart => Sys2Proof.Machine.execCodecJobStart s
  | .codecJobComplete flips bad => Sys2Proof.Machine.execCodecJobComplete flips bad s
  | .codecCancel p => Sys2Proof.Machine.execCodecCancel p s
  | .frameStart path => Sys2Proof.Machine.execFrameStart path s
  | .lingerExpiry cls => Sys2Proof.Machine.execLingerExpiry cls s
  | .queueFlush p g => Sys2Proof.Machine.execQueueFlush p g s
  | .queueFlushDone g => Sys2Proof.Machine.execQueueFlushDone g s
  | .drop3 p => Sys2Proof.Machine.execDrop3 p s
  | .drop3Done => Sys2Proof.Machine.execDrop3Done s
  | .hwmReset p q w => Sys2Proof.Machine.execHwmReset p q w s
  | .bringupAttempt n => Sys2Proof.Machine.execBringupAttempt n s
  | .bringupFrameReceived n crcOk w => Sys2Proof.Machine.execBringupFrameReceived n crcOk w s
  | .laneUp n => Sys2Proof.Machine.execLaneUp n s
  | .bringupTimeout n => Sys2Proof.Machine.execBringupTimeout n s
  | .waitExpiry n => Sys2Proof.Machine.execWaitExpiry n s
  | .seedReceived n seed => Sys2Proof.Machine.execSeedReceived n seed s
  | .realign n marker => Sys2Proof.Machine.execRealign n marker s
  | .realignTimeout n => Sys2Proof.Machine.execRealignTimeout n s
  | .lossOfSignal n => Sys2Proof.Machine.execLossOfSignal n s
  | .partnerTraining n => Sys2Proof.Machine.execPartnerTraining n s
  | .retrain p n => Sys2Proof.Machine.execRetrain p n s
  | .idleEntry n => Sys2Proof.Machine.execIdleEntry n s
  | .hushReceived n => Sys2Proof.Machine.execHushReceived n s
  | .fastExit n => Sys2Proof.Machine.execFastExit n s
  | .refreshBurst n => Sys2Proof.Machine.execRefreshBurst n s
  | .clrErr p => Sys2Proof.Machine.execClrErr p s
  | .laneSetChange p lane w => Sys2Proof.Machine.execLaneSetChange p lane w s
  | .classPolicyWrite p w => Sys2Proof.Machine.execClassPolicyWrite p w s
  | .frameReceived n header payload crc k phi => Sys2Proof.Machine.execFrameReceived n header payload crc k phi s
  | .creditFrame path w => Sys2Proof.Machine.execCreditFrame path w s
  | .creditSend path => Sys2Proof.Machine.execCreditSend path s
  | .reorderTimeout => Sys2Proof.Machine.execReorderTimeout s
  | .nudge => Sys2Proof.Machine.execNudge s
  | .memRdData lane tag status data => Sys2Proof.Machine.execMemRdData lane tag status data s
  | .memWrErr err => Sys2Proof.Machine.execMemWrErr err s
  | .memReadTimeout => Sys2Proof.Machine.execMemReadTimeout s
  | .memPathChange => Sys2Proof.Machine.execMemPathChange s
  | .memPathResume => Sys2Proof.Machine.execMemPathResume s
  | .origin lane round master k phi => Sys2Proof.Machine.execOrigin lane round master k phi s
  | .follow lane round ns frac => Sys2Proof.Machine.execFollow lane round ns frac s
  | .probeSend path k phi => Sys2Proof.Machine.execProbeSend path k phi s
  | .answer lane round ns frac => Sys2Proof.Machine.execAnswer lane round ns frac s
  | .rebase => Sys2Proof.Machine.execRebase s
  | .relationRepeat => Sys2Proof.Machine.execRelationRepeat s
  | .heartbeat cls => Sys2Proof.Machine.execHeartbeat cls s
  | .pathLoss path => Sys2Proof.Machine.execPathLoss path s
  | .ppsEdge k phi => Sys2Proof.Machine.execPpsEdge k phi s
  | .ppsLoss => Sys2Proof.Machine.execPpsLoss s
  | .acceptJump p => Sys2Proof.Machine.execAcceptJump p s
  | .asymCal p => Sys2Proof.Machine.execAsymCal p s
  | .asymCalDone => Sys2Proof.Machine.execAsymCalDone s
  | .asymApply p => Sys2Proof.Machine.execAsymApply p s
  | .voteCorrection c => Sys2Proof.Machine.execVoteCorrection c s
  | .commit p => Sys2Proof.Machine.execCommit p s
  | .pollStart => Sys2Proof.Machine.execPollStart s
  | .pollComplete => Sys2Proof.Machine.execPollComplete s
  | .ringResume p ring => Sys2Proof.Machine.execRingResume p ring s
  | .nop => Sys2Proof.Machine.execNop s
  | .fence => Sys2Proof.Machine.execFence s
  | .regWr => Sys2Proof.Machine.execRegWr s
  | .regRd => Sys2Proof.Machine.execRegRd s
  | .blockRd => Sys2Proof.Machine.execBlockRd s
  | .inject ns => Sys2Proof.Machine.execInject ns s
  | .codec => Sys2Proof.Machine.execCodec s
  | .safetyCycle samples up down cut z ssi line vaux balls differ cycleUs => Sys2Proof.Machine.execSafetyCycle samples up down cut z ssi line vaux balls differ cycleUs s
  | .siTestPulse source a b => Sys2Proof.Machine.execSiTestPulse source a b s
  | .curtainTest balls => Sys2Proof.Machine.execCurtainTest balls s
  | .safetyStatusSend => Sys2Proof.Machine.execSafetyStatusSend s
  | .safetyCommand path w0 w1 => Sys2Proof.Machine.execSafetyCommand path w0 w1 s
  | .commandCopyTimeout => Sys2Proof.Machine.execCommandCopyTimeout s
  | .degradedExpiry => Sys2Proof.Machine.execDegradedExpiry s
  | .safeResetRelease ms => Sys2Proof.Machine.execSafeResetRelease ms s
  | .safeResetStuck => Sys2Proof.Machine.execSafeResetStuck s
  | .safetyAck path w0 w1 => Sys2Proof.Machine.execSafetyAck path w0 w1 s
  | .safetyParam path w0 w1 => Sys2Proof.Machine.execSafetyParam path w0 w1 s
  | .safetyActivate path w0 w1 w2 => Sys2Proof.Machine.execSafetyActivate path w0 w1 w2 s
  | .sensorPulse parity => Sys2Proof.Machine.execSensorPulse parity s
  | .sensorConversion parity s1 s2 above t1 t2 tabove => Sys2Proof.Machine.execSensorConversion parity s1 s2 above t1 t2 tabove s
  | .switchEvaluate n => Sys2Proof.Machine.execSwitchEvaluate n s
  | .stageTick vins vaux vfeed power => Sys2Proof.Machine.execStageTick vins vaux vfeed power s
  | .stageRestore => Sys2Proof.Machine.execStageRestore s
  | .forceStage p k => Sys2Proof.Machine.execForceStage p k s
  | .sheddingNotice => Sys2Proof.Machine.execSheddingNotice s
  | .keeperPowerFail => Sys2Proof.Machine.execKeeperPowerFail s
  | .orderlyStop vins => Sys2Proof.Machine.execOrderlyStop vins s
  | .keeperRestart straps tj => Sys2Proof.Machine.execKeeperRestart straps tj s
  | .keeperDropOut => Sys2Proof.Machine.execKeeperDropOut s
  | .vinOvervoltage vins => Sys2Proof.Machine.execVinOvervoltage vins s
  | .railFault rail scope => Sys2Proof.Machine.execRailFault rail scope s
  | .regionRestore r => Sys2Proof.Machine.execRegionRestore r s
  | .pbCommit p => Sys2Proof.Machine.execPbCommit p s
  | .pbPeriodicCommit => Sys2Proof.Machine.execPbPeriodicCommit s
  | .pbCommitDone ok => Sys2Proof.Machine.execPbCommitDone ok s
  | .vinClrMin p => Sys2Proof.Machine.execVinClrMin p s
  | .coldReset straps => Sys2Proof.Machine.execColdReset straps s
  | .resetNAssert => Sys2Proof.Machine.execResetNAssert s
  | .resetNRelease straps => Sys2Proof.Machine.execResetNRelease straps s
  | .warm p => Sys2Proof.Machine.execWarm p s
  | .restart p => Sys2Proof.Machine.execRestart p s
  | .restartIngestStop => Sys2Proof.Machine.execRestartIngestStop s
  | .restartResume us => Sys2Proof.Machine.execRestartResume us s
  | .stuckReset straps => Sys2Proof.Machine.execStuckReset straps s
  | .overrideClear => Sys2Proof.Machine.execOverrideClear s
  | .startupRehearsal ns => Sys2Proof.Machine.execStartupRehearsal ns s
  | .startupReady => Sys2Proof.Machine.execStartupReady s
  | .timeWaitExpiry => Sys2Proof.Machine.execTimeWaitExpiry s
  | .faultReport code place detail => Sys2Proof.Machine.execFaultReport code place detail s
  | .incidentHoldExpiry e => Sys2Proof.Machine.execIncidentHoldExpiry e s
  | .incidentCloseTimer e cleared => Sys2Proof.Machine.execIncidentCloseTimer e cleared s
  | .incidentReportSend e => Sys2Proof.Machine.execIncidentReportSend e s
  | .close p e => Sys2Proof.Machine.execClose p e s
  | .purgePrevious p => Sys2Proof.Machine.execPurgePrevious p s
  | .configScrub a kind => Sys2Proof.Machine.execConfigScrub a kind s
  | .flashRefresh worst eraseOk item => Sys2Proof.Machine.execFlashRefresh worst eraseOk item s
  | .telemetry => Sys2Proof.Machine.execTelemetry s
  | .snap p => Sys2Proof.Machine.execSnap p s
  | .clrWrap p => Sys2Proof.Machine.execClrWrap p s
  | .dumpNow p => Sys2Proof.Machine.execDumpNow p s
  | .periodicDump => Sys2Proof.Machine.execPeriodicDump s
  | .focusConfigWrite p f loc w => Sys2Proof.Machine.execFocusConfigWrite p f loc w s
  | .tracerRecord n offsets => Sys2Proof.Machine.execTracerRecord n offsets s
  | .smbusWrite a w pecOk => Sys2Proof.Machine.execSmbusWrite a w pecOk s
  | .smbusSetReadAddress a pecOk => Sys2Proof.Machine.execSmbusSetReadAddress a pecOk s
  | .smbusRead => Sys2Proof.Machine.execSmbusRead s
  | .alertResponse => Sys2Proof.Machine.execAlertResponse s
  | .uartWrite a w crc => Sys2Proof.Machine.execUartWrite a w crc s
  | .uartRead a w crc => Sys2Proof.Machine.execUartRead a w crc s
  | .keyProvisioning key crcOk => Sys2Proof.Machine.execKeyProvisioning key crcOk s
  | .jtagTestLogicReset => Sys2Proof.Machine.execJtagTestLogicReset s
  | .bypass => Sys2Proof.Machine.execBypass s
  | .idcode => Sys2Proof.Machine.execIdcode s
  | .samplePreload balls shifted => Sys2Proof.Machine.execSamplePreload balls shifted s
  | .extest balls shifted => Sys2Proof.Machine.execExtest balls shifted s
  | .clamp => Sys2Proof.Machine.execClamp s
  | .highz => Sys2Proof.Machine.execHighz s
  | .unitFailure ch => Sys2Proof.Machine.execUnitFailure ch s
  | .dieFault d => Sys2Proof.Machine.execDieFault d s
  | .refclkReturn => Sys2Proof.Machine.execRefclkReturn s
  | .lanePllUnlock n => Sys2Proof.Machine.execLanePllUnlock n s
  | .seedFound n seed followed => Sys2Proof.Machine.execSeedFound n seed followed s
  | .configurationImageLoaded slot failed valid image sensorCal safOk => Sys2Proof.Machine.execConfigurationImageLoaded slot failed valid image sensorCal safOk s
  | .overVoltageEnd => Sys2Proof.Machine.execOverVoltageEnd s
  | .curtainOverload n => Sys2Proof.Machine.execCurtainOverload n s
  | .safetySetWritten => Sys2Proof.Machine.execSafetySetWritten s
  | .uartFrameGap => Sys2Proof.Machine.execUartFrameGap s
  | .smbusClockLowTimeout => Sys2Proof.Machine.execSmbusClockLowTimeout s

end Sys2Proof.Machine
end

