-- ==== Sys2Proof/Machine/Step.lean ====
section
/-! DEFINITION. The step: the command at the front of the queue takes its effect; on an empty queue one sample period passes
and the lanes send what it allows (log entry 3). -/

namespace Sys2Proof.Machine

/-- What happens when no command waits: one sample period passes, and while CX runs the lanes send what their time allows.
DESIGN CHOICE (log entry 3). -/
def State.idle (s : State) : State := (s.pass 1).cxDo State.runLanes

/-- One step of the module. -/
def step (s : State) : Host.Outcome State Fault Refusal :=
  match s.pending with
  | [] => .next s.idle
  | c :: rest => exec c { s with pending := rest }

/-- A state with the command that a word spells at the front of its queue; none of the table's rows has bits. -/
def State.withFetchWord (s : State) (nbits w : Nat) : State :=
  match decodeTableWord nbits w with
  | none => s
  | some c => { s with pending := c :: s.pending }

end Sys2Proof.Machine
end

