-- ==== Sys2Proof/Safety.lean ====
section
/-! DEFINITION. What a sound state is, in the terms that claims use. -/

namespace Sys2Proof.Machine

/-- A sound state: the register file and the active banks of its banked tables are in canonical form, and every part of the module is there: the ten access ports, the 12
output queues, the 24 lanes, the 64 channels and the 4 regions (R11, R22, R231, R244). -/
structure State.Sound (s : State) : Prop where
  regs : tableWf coldWord s.regs = true
  banks : tableWf coldWord s.banks = true
  ports : s.ports.length = 10
  que : s.que.length = 12
  lanes : s.lnk.lanes.length = 24
  chans : s.chans.length = 64
  regions : s.regions.length = 4

/-- A sound state in which the keeper runs, so that the keeper's own commands act (R390, R398, R411). -/
structure State.Awake (s : State) : Prop where
  sound : s.Sound
  keeper : s.keeperRuns = true

/-- A sound state in which the keeper and CX run, so that every command acts (R408, R411). -/
structure State.Working (s : State) : Prop where
  sound : s.Sound
  keeper : s.keeperRuns = true
  cx : s.cxRuns = true

/-- The time in ns that a port's next write takes to reach a channel: a free value of 100 to 500 (R77, log entry 6). -/
def State.writeNs (s : State) : Nat := 100 + Config.freeNat s.free % 401

/-- The state after port p's write whose effect f the module has taken: the free value of its time has been drawn, f has
acted, and the port returns DONE (R13, R335). -/
def State.accepted (s : State) (p : Nat) (f : State → State) : State :=
  (f { s with free := s.free + 1 }).onPort p fun x => { x with status := accDone }

/-- The word that a write of v to one field stores beside the rest of the register as it reads. -/
def State.fieldWord (s : State) (f : Fld) (i v : Nat) : Word := setField (s.shown (f.addr i)) f.lo f.width v

/-- t holds every register as s does, but those at the addresses of l. -/
def State.sameRegs (s t : State) (l : List Nat) : Prop := ∀ b, b ∉ l → t.regGet b = s.regGet b

/-- The same for the registers outside the blocks QUE, FAU and PMC (R451): whatever stores a packet, reports a fault or counts
an event moves those (R233, R243, R421, R438). -/
def State.sameMain (s t : State) (l : List Nat) : Prop :=
  ∀ b, (b < 0x200000 ∨ 0x240000 ≤ b) → b < 0x380000 → b ∉ l → t.regGet b = s.regGet b

/-- The registers that an UP lane n going down may change outside the blocks QUE, FAU and PMC: LNK_EVT, the count of rejected
time rounds of its path, the state of each lane, and the four counts of frames discarded (R260, R263, R290, R300, R311). -/
def laneDownRegs (n : Nat) : List Nat :=
  F.LNK_EVT :: F.TIM_PATH_CNT_REJECTED.addr (n / 12) ::
    ((List.range 24).map F.LNK_LANE_STAT_STATE.addr ++ (List.range 4).map F.LNK_TX_DISCARD_COUNT.addr)

/-- From s to t the UP lane n has gone down: only these registers may have changed, and that of another lane only in that an
idle transmitter wakes for a frame moved to it (R261, R263). -/
def State.laneLeft (s t : State) (n : Nat) : Prop :=
  s.sameMain t (laneDownRegs n) ∧
  ∀ m < 24, m ≠ n →
    (t.rd F.LNK_LANE_STAT_TX_SUB m = s.rd F.LNK_LANE_STAT_TX_SUB m ∨
      (s.rd F.LNK_LANE_STAT_TX_SUB m = 1 ∧ t.rd F.LNK_LANE_STAT_TX_SUB m = 2)) ∧
    t.regGet (F.LNK_LANE_STAT_STATE.addr m) = setField (s.regGet (F.LNK_LANE_STAT_STATE.addr m)) F.LNK_LANE_STAT_TX_SUB.lo
      F.LNK_LANE_STAT_TX_SUB.width (t.rd F.LNK_LANE_STAT_TX_SUB m)

/-- Time has passed from s to t until count n, unless the counter stands still or is beyond it (R302, log entry 4). -/
def State.reached (s t : State) (n : Nat) : Prop := s.clk.running = true → t.clk.count = max s.clk.count n

/-- c is the only command that the Prompter has, its turn has come, and its completion ring has room for its entry (R333,
R335). -/
def State.soleCmd (s : State) (c : PCmd) : Prop :=
  s.prm.cmds = [c] ∧ c.started = false ∧ c.finished = false ∧ c.status = 0 ∧ c.outLen = 0 ∧ c.ring < 8 ∧ c.cpl < 8 ∧
    s.cplRoom c.cpl = true ∧ s.prm.rings.length = 36

/-- From s to t the command c has completed: its entry stands at the index of its completion ring, which has moved on, and
the command is gone (R335, R341). -/
def State.completed (s t : State) (c : PCmd) (result : LWord) (status blocks low : Nat) : Prop :=
  t.prm.cmds = [] ∧ (t.ring (8 + c.cpl)).head = ((s.ring (8 + c.cpl)).head + 1) % 2 ^ 64 ∧
    t.prm.entries.getLast? = some (8 + c.cpl, (s.ring (8 + c.cpl)).head,
      completionWords { c with result := result, status := status, blocks := blocks, low := low }
        (s.rd F.PRM_RING_CFG_SIZE (8 + c.cpl)) (s.ring (8 + c.cpl)).head, t.clk.count)

/-- t holds every register as s does, but those of the blocks QUE, SAF, FAU and PMC and PWR_PB_STAT (R371, R400, R451). -/
def State.sameButSafety (s t : State) : Prop :=
  ∀ b, (b < 0x200000 ∨ 0x240000 ≤ b) → (b < 0x300000 ∨ 0x340000 ≤ b) → b < 0x380000 → b ≠ F.PWR_PB_STAT →
    t.regGet b = s.regGet b

/-- From s to t the safety monitor has locked out by a fault code (R367). -/
def State.lockedBy (s t : State) (code : Nat) : Prop :=
  t.safState = 4 ∧ t.rd F.SAF_STAT_FC_CLOSED = 0 ∧ t.rd F.SAF_CAUSE_CODE = code ∧
    t.rd F.SAF_CAUSE_LOCK_SEQ = (s.rd F.SAF_CAUSE_LOCK_SEQ + 1) % 65536 ∧ t.saf.latch = true ∧ t.saf.ss1 = none ∧
    t.saf.runReq = none

/-- t is the state of a keeper that has made a cold start from s with these straps: what flash and the latch hold has stayed,
and every field whose cold column gives a value has it, but in the blocks MGT, FAU and PMC, in PWR_EVT, PWR_PB_STAT and
SAF_STAT, which the start itself writes (R17, R401, R407, R410, R411). -/
def State.coldStarted (s t : State) (straps : Nat) : Prop :=
  t.keeperRuns = true ∧ t.phase = (if straps % 2 = 1 then 9 else 3) ∧
    t.clk = { fs := s.clk.fsCfg, fsCfg := s.clk.fsCfg, refclk := s.clk.refclk } ∧ t.cxRuns = false ∧
    t.que = List.replicate 12 {} ∧ t.ports = List.replicate 10 {} ∧ t.saf.on = true ∧
    t.safState = (if s.saf.latch || (s.book.newest.any fun r => r.locked) then 4 else 0) ∧
    t.book = { records := s.book.records } ∧ t.pending = s.pending ∧
    ∀ a r f n, regAt a = some r → f ∈ r.fields → f.cold = .val n → 0x10000 ≤ a → a < 0x380000 →
      a ∉ [F.PWR_EVT, F.PWR_PB_STAT, F.SAF_STAT] → getField (t.regGet a) f.lo f.width = n % 2 ^ f.width

/-- t is s with CX and the QF dies held in a warm reset, asked for by the pin or by a command: the keeper's part has stayed, no
incident is open, and every field outside the blocks MGT, FAU and PMC has taken its warm column (R17, R407, R408, R427). -/
def State.heldWarm (s t : State) (pin : Bool) : Prop :=
  t.start.hold = some s.clk.tick ∧ t.start.fromPin = pin ∧ t.phase = 3 ∧ t.moduleId = 0 ∧ t.clk.running = false ∧
    t.clk.count = 0 ∧ t.clk.tick = s.clk.tick ∧ t.cxRuns = false ∧ t.que = List.replicate 12 {} ∧
    t.saf = s.saf ∧ t.pwr = s.pwr ∧ t.book = s.book ∧ t.feeds = s.stopSweep.feeds ∧ t.sns = s.sns ∧ t.access = s.access ∧
    t.pending = s.pending ∧ (∀ x ∈ t.fau.inc, x.st ≠ .opened ∧ (x.st ≠ .free → x.previous = true)) ∧
    ∀ a r f, regAt a = some r → f ∈ r.fields → 0x10000 ≤ a → a < 0x380000 →
      (∀ n, f.warm = .val n → getField (t.regGet a) f.lo f.width = n % 2 ^ f.width) ∧
      (f.warm = .keep → getField (t.regGet a) f.lo f.width = getField (s.regGet a) f.lo f.width)

/-- Commands that the pins, JTAG, a port's own timers and the start itself bring: they act whether or not the keeper runs (R390,
R398, R408, R476 to R478). -/
def actsAlone (c : Instr) : Bool :=
  match c with
  | .stageTick .. | .keeperRestart .. | .keeperDropOut .. | .coldReset .. | .resetNAssert .. | .resetNRelease ..
  | .jtagTestLogicReset .. | .bypass .. | .idcode .. | .samplePreload .. | .extest .. | .clamp .. | .highz ..
  | .uartFrameGap .. | .smbusClockLowTimeout .. => true
  | _ => false

/-- Commands of CX and the QF dies: they act only while CX is powered and not held in reset (R408, R411). -/
def needsCx (c : Instr) : Bool :=
  match c with
  | .elasticBufferOverflow .. | .vcoreStepDown .. | .paceFault .. | .autoFallback .. | .rateSwitchIngestStop ..
  | .rateSwitchRelock .. | .rateSwitchResume .. | .paceFaultClear .. | .streamPacketComplete .. | .rawBlockWrite ..
  | .unitEnableTakeEffect .. | .stationWideReport .. | .regionFault .. | .calSourceFault .. | .rangeChangeApply ..
  | .autoRangeDecision .. | .bgWindowEnd .. | .rehearsalConnect .. | .rehearsalPhase .. | .rehearsalReconnect ..
  | .calSaveDone .. | .regionPllLock .. | .injectWindowStart .. | .injectComplete .. | .skewChangeApply ..
  | .skewCalComplete .. | .notchChangeApply .. | .chainChangeApply .. | .spectrumFrame .. | .prototypeSwapApply ..
  | .frameRecord .. | .segSwapApply .. | .maskSwapApply .. | .eccSweep .. | .detectorWindowEnd .. | .impulseDetectorFire ..
  | .triggerInputEdge .. | .cueProposal .. | .cueClose .. | .trigOutEnd .. | .budgetIntervalEnd .. | .snippetExtractStart ..
  | .snippetComplete .. | .freezeStop .. | .rearmLogClear .. | .rearmResume .. | .readoutRequest .. | .readoutComplete ..
  | .streamApplyTakeEffect .. | .codecJobStart .. | .codecJobComplete .. | .frameStart .. | .lingerExpiry ..
  | .queueFlushDone .. | .drop3Done .. | .bringupAttempt .. | .bringupFrameReceived .. | .laneUp .. | .bringupTimeout ..
  | .waitExpiry .. | .seedReceived .. | .realign .. | .realignTimeout .. | .lossOfSignal .. | .partnerTraining ..
  | .idleEntry .. | .hushReceived .. | .fastExit .. | .refreshBurst .. | .frameReceived .. | .creditFrame .. | .creditSend ..
  | .reorderTimeout .. | .nudge .. | .memRdData .. | .memWrErr .. | .memReadTimeout .. | .memPathChange ..
  | .memPathResume .. | .origin .. | .follow .. | .probeSend .. | .answer .. | .rebase .. | .relationRepeat ..
  | .heartbeat .. | .pathLoss .. | .ppsEdge .. | .ppsLoss .. | .asymCalDone .. | .voteCorrection .. | .pollStart ..
  | .pollComplete .. | .nop .. | .fence .. | .regWr .. | .regRd .. | .blockRd .. | .inject .. | .codec ..
  | .safetyStatusSend .. | .safetyCommand .. | .safetyAck .. | .safetyParam .. | .safetyActivate .. | .sheddingNotice ..
  | .regionRestore .. | .restartIngestStop .. | .restartResume .. | .startupRehearsal .. | .startupReady ..
  | .timeWaitExpiry .. | .incidentReportSend .. | .telemetry .. | .periodicDump .. | .tracerRecord .. | .unitFailure ..
  | .dieFault .. | .lanePllUnlock .. | .seedFound .. => true
  | _ => false

/-- Commands that may change the state of the safety monitor (R347): its cycle and events, its telegrams, its key and sets, and
what starts, stops or overheats the keeper. -/
def reachesSafety (c : Instr) : Bool :=
  match c with
  | .thermalThreshold .. | .frameReceived .. | .reorderTimeout .. | .safetyCycle .. | .siTestPulse .. | .curtainTest ..
  | .safetyStatusSend .. | .safetyCommand .. | .commandCopyTimeout .. | .degradedExpiry .. | .safeResetRelease ..
  | .safeResetStuck .. | .safetyAck .. | .safetyParam .. | .safetyActivate .. | .stageTick .. | .keeperPowerFail ..
  | .orderlyStop .. | .keeperRestart .. | .coldReset .. | .keyProvisioning .. | .configurationImageLoaded ..
  | .curtainOverload .. | .safetySetWritten .. | .vinOvervoltage .. | .overVoltageEnd .. => true
  | _ => false

/-- Commands that may change the state of the supplies (R390 to R404): stages, notices, and what starts or stops the keeper. -/
def reachesPower (c : Instr) : Bool :=
  match c with
  | .thermalThreshold .. | .stageTick .. | .stageRestore .. | .sheddingNotice .. | .keeperPowerFail .. | .orderlyStop ..
  | .keeperRestart .. | .keeperDropOut .. | .vinOvervoltage .. | .coldReset .. | .overVoltageEnd .. => true
  | _ => false

end Sys2Proof.Machine
end

