-- ==== Sys2Proof/Certificates/Slice0/Obligations.lean ====
section
/-! DEFINITION. The statements about the module SH-6412, by group: the ports and the keeper; pace, inputs and feeds; converters,
filters, channeliser and watch cells; cues, streams and queues; faults, power and counters; links and Prompter; time; safety;
sensors and start-up; the machine as a whole. They stand on choices of the model: a command that says an event happened moves the
time to the count or tick at which it is due (log entry 4), without its condition it changes nothing (log entry 5), values of the
analog world or of another agent are operands (log entry 7), and a value the manual leaves open is free (log entry 6), so that a
statement holds for every value of it; reset values the manual does not give are those of log entry 1. Working, Awake and Sound are the hypotheses of Sys2Proof/Safety.lean. -/
open Sys2Proof Sys2Proof.Machine

/-- Register writes of a port (R12, R15, R335, R452): a write to a place that holds nothing writable is discarded and counted; one to
the safety monitor is refused; one that would change a locked field is refused, reported and counted; any other is taken. -/
def Obligations.PortWriteOutcomes : Prop :=
  ∀ (s : State) (p : Fin 10) (a : BitVec 32) (w : Word), s.Awake →
    ((inCells a.toNat || inRingWindow a.toNat) = true → a.toNat % 4 = 0 →
      exec (.registerWrite p a w) s
        = .next ((s.count 0x160 (s.locDie (dieOfAddr a.toNat)) 1).onPort p fun x => { x with status := 1 })) ∧
    (a.toNat % 4 ≠ 0 ∨ (inCells a.toNat || inRingWindow a.toNat) = false ∧ regAt a.toNat = none →
      exec (.registerWrite p a w) s
        = .next ((s.count 0x160 (s.locDie (dieOfAddr a.toNat)) 1).onPort p fun x => { x with status := 2 })) ∧
    ∀ r, (inCells a.toNat || inRingWindow a.toNat) = false → a.toNat % 4 = 0 → regAt a.toNat = some r →
      (0x300000 ≤ a.toNat → a.toNat < 0x340000 →
        exec (.registerWrite p a w) s = .next (s.onPort p fun x => { x with status := 1 })) ∧
      (a.toNat < 0x300000 ∨ 0x340000 ≤ a.toNat → onKeeper a.toNat = true ∨ s.cxRuns = true →
        (s.locked = false ∨ changesLocked r (s.regGet a.toNat) w = false →
          exec (.registerWrite p a w) s = .next (s.accepted p fun u => u.writeReg r p a.toNat w s.writeNs)) ∧
        (s.locked = true → changesLocked r (s.regGet a.toNat) w = true →
          ∃ t, exec (.registerWrite p a w) s = .next t ∧ (t.port p).status = 1 ∧
            t = (((({ s with free := s.free + 1 }).report 0x1002 s.locCx a.toNat).count 0x161 s.locCx 1).writeReg r p
              a.toNat (keepLocked r (s.regGet a.toNat) w) s.writeNs).onPort p fun x => { x with status := 1 }))

/-- REGISTER_WRITE of a register without an effect of its own (R13, R14): each field stores the word by its access code, and
every other register and part stays as it is. -/
def Obligations.PlainWriteStores : Prop :=
  ∀ (s : State) (p : Fin 10) (a : BitVec 32) (w : Word) (r : RegDef), s.Working →
    (inCells a.toNat || inRingWindow a.toNat) = false → a.toNat % 4 = 0 → regAt a.toNat = some r →
    (a.toNat < 0x300000 ∨ 0x340000 ≤ a.toNat) → (s.locked = false ∨ changesLocked r (s.regGet a.toNat) w = false) →
    (∀ u : State, u.writeMgt r p a.toNat w = none ∧ u.writeFront r a.toNat w s.writeNs = none ∧
      u.writeCore r a.toNat w = none ∧ u.writeLink r a.toNat w = none) →
    ∃ t, exec (.registerWrite p a w) s = .next t ∧
      t.regGet a.toNat = storedWord r s.locked (s.regGet a.toNat) w ∧
      (∀ b, b ≠ a.toNat → t.regGet b = s.regGet b) ∧
      t = { s with regs := t.regs, ports := t.ports, free := s.free + 1 }

/-- Reads of a port (R11, R156, R453): the low word of a pair loads the port's latch with the words beside it, a word that the
latch holds comes from it, and every other read leaves the latch; the port holds the value, and nothing else changes, but that a
read of the ring's window takes a burst of the ring read port's last share, behind what the port has had time for. -/
def Obligations.PortReads : Prop :=
  ∀ (s : State) (p : Fin 10), s.Awake →
    (∀ a : BitVec 32, ∃ t, exec (.pairLowRead p a) s = .next t ∧
      ((inRingWindow a.toNat && a.toNat % 4 == 0) = false → t = { s with ports := t.ports }) ∧
      ((inRingWindow a.toNat && a.toNat % 4 == 0) = true →
        t = { s.diagRead 4 with ports := t.ports } ∧ s.diagRead 4 = { s with trg := t.trg, codec := t.codec }) ∧
      (latchedBy a.toNat = [] → ∀ w, (s.port p).words.find? (fun w => w.1 == a.toNat) = some w → a.toNat % 4 = 0 →
        t.port p = { s.port p with value := w.2, status := if assigned a.toNat then 0 else 2 }) ∧
      (latchedBy a.toNat ≠ [] →
        t.port p = { low := some a.toNat, words := (latchedBy a.toNat).map fun b => (b, s.peek b), value := s.peek a.toNat
                     status := if assigned a.toNat then 0 else 2 }) ∧
      (latchedBy a.toNat = [] → (s.port p).words.find? (fun w => w.1 == a.toNat) = none →
        t.port p = { s.port p with value := s.peek a.toNat, status := if assigned a.toNat then 0 else 2 })) ∧
    (∀ (cell : Fin 262144), ∃ t, exec (.watchCellRead p cell false) s = .next t ∧ t = { s with ports := t.ports } ∧
      (t.port p).value = BitVec.ofNat 32 (tableGet 0 s.wch.cells cell).toNat ∧
      ∃ u, exec (.watchCellRead p cell true) t = .next u ∧ u = { s with ports := u.ports } ∧
        (u.port p).value = BitVec.ofNat 32 ((tableGet 0 s.wch.cells cell).toNat / 2 ^ 32)) ∧
    (∀ (word : Fin 4194304), ∃ t, exec (.diagWindowRead p word) s = .next t ∧ t = { s.diagRead 4 with ports := t.ports } ∧
      t.trg.blocks = s.trg.blocks ∧ t.trg.alog = s.trg.alog ∧
      (s.trg.running = true → t.trg.port.diag = s.runPort.trg.port.diag + 1) ∧
      ((s.port p).words.find? (fun w => w.1 == 0x02000000 + 4 * word.val) = none →
        (t.port p).value = s.ringWord (4 * word.val) ∧ (t.port p).status = 0))

/-- The management ports. SMBus (R476): a write with a good PEC is a write of port 0, one with a bad PEC does nothing; command 0x11
sets the read address; command 0x12 reads there and moves it on by 4; a read of the Alert Response Address releases the alert.
UART (R478): a frame whose CRC is good acts as port 1 and is answered by a frame of 11 bytes with sync byte, OP, the address and
the CRC-8 of bytes 1 to 9; a write's answer carries the status in byte 9 and a read's the value; a frame with a bad CRC does
nothing. JTAG (R477): each instruction selects its data register and gives the balls their mode, whatever the module does; the
timeouts of the ports leave no trace. -/
def Obligations.ManagementPorts : Prop :=
  (∀ s : State, s.Awake →
      (∀ a w, ∃ t, exec (.smbusWrite a w true) s = .next t ∧ exec (.registerWrite 0 a w) s = .next t) ∧
      (∀ a w, exec (.smbusWrite a w false) s = .next s) ∧
      (∀ a, exec (.smbusSetReadAddress a true) s = .next (s.onAccess fun x => { x with smbAddr := a.toNat })) ∧
      (∀ a, exec (.smbusSetReadAddress a false) s = .next s) ∧
      (∃ t, exec .smbusRead s = .next t ∧
        t = { s with ports := t.ports, access := t.access, trg := t.trg, codec := t.codec } ∧
        (inRingWindow s.access.smbAddr = false → t.trg = s.trg ∧ t.codec = s.codec) ∧
        t.access = { s.access with smbAddr := (s.access.smbAddr + 4) % 2 ^ 32 } ∧
        ((s.port 0).words.find? (fun w => w.1 == s.access.smbAddr) = none →
          (t.port 0).value = s.peek s.access.smbAddr)) ∧
      (s.smbAlert = true → ∃ t, exec .alertResponse s = .next t ∧ t.smbAlert = false ∧ t = { s with access := t.access })) ∧
  (∀ (s : State) (a : BitVec 32) (w : Word) (c : BitVec 8), s.Awake →
      (c.toNat = crc8 (uartBody 0x10 a.toNat (wordBytes w.toNat)) →
        ∃ t u d, exec (.uartWrite a w c) s = .next t ∧ exec (.registerWrite 1 a w) s = .next u ∧
          t.access.answer = uartFrame 0x10 a.toNat (d ++ [(u.port 1).status]) ∧ d.length = 3 ∧
          t = { u with free := u.free + 1, access := t.access }) ∧
      (c.toNat = crc8 (uartBody 0x12 a.toNat (wordBytes w.toNat)) →
        ∃ t u, exec (.uartRead a w c) s = .next t ∧ exec (.pairLowRead 1 a) s = .next u ∧
          t.access.answer = uartFrame 0x12 a.toNat (wordBytes (u.port 1).value.toNat) ∧ t = { u with access := t.access }) ∧
      (c.toNat ≠ crc8 (uartBody 0x10 a.toNat (wordBytes w.toNat)) → exec (.uartWrite a w c) s = .next s) ∧
      (c.toNat ≠ crc8 (uartBody 0x12 a.toNat (wordBytes w.toNat)) → exec (.uartRead a w c) s = .next s)) ∧
  (∀ s : State,
      exec .jtagTestLogicReset s
        = .next (s.onAccess fun x => { x with jtagIr := irIdcode, jtagDr := idcode, scan := .mission }) ∧
      exec .idcode s = .next (s.onAccess fun x => { x with jtagIr := irIdcode, jtagDr := idcode, scan := .mission }) ∧
      exec .bypass s = .next (s.onAccess fun x => { x with jtagIr := irBypass, jtagDr := 0, scan := .mission }) ∧
      (∀ b d, exec (.samplePreload b d) s
        = .next (s.onAccess fun x => { x with jtagIr := irSample, jtagDr := b.toNat, scan := .mission, bsr := d.toNat })) ∧
      (∀ b d, exec (.extest b d) s
        = .next (s.onAccess fun x => { x with jtagIr := irExtest, jtagDr := b.toNat, scan := .extest, bsr := d.toNat })) ∧
      exec .clamp s = .next (s.onAccess fun x => { x with jtagIr := irClamp, jtagDr := 0, scan := .clamp }) ∧
      exec .highz s = .next (s.onAccess fun x => { x with jtagIr := irHighz, jtagDr := 0, scan := .highz }) ∧
      exec .uartFrameGap s = .next s ∧ exec .smbusClockLowTimeout s = .next s)

/-- Commands of the keeper (R27, R66, R370): the loss of REFCLK is reported once as 0x3107 and its return ends the condition; a
module ID is stored, and every location code carries it from then on; a counter that has waited for REFCLK starts with it; the safety key is taken while the monitor is
DISABLED (7) or locked out (4), in no other state, and SAF_STAT.KEY_SET tells it. -/
def Obligations.KeeperCommands : Prop :=
  ∀ s : State, s.Awake →
    (s.clk.refclk = true →
      exec .refclkLoss s
        = .next (({ s with clk := { s.clk with refclk := false } }).report 0x3107 s.locKeeper 0)) ∧
    (s.clk.refclk = false →
      exec .refclkReturn s
        = .next (({ s with clk := { s.clk with
            refclk := true
            running := s.clk.running || (s.plane.cxOn && s.pwr.stop != 2 && !s.plane.switch.any fun (w : RateSwitch) => w.stage != 0) } }
          ).conditionOver 0x3107 s.locKeeper)) ∧
    (s.clk.refclk = false → exec .refclkLoss s = .next s) ∧ (s.clk.refclk = true → exec .refclkReturn s = .next s) ∧
    (∀ (p : Fin 10) (id : BitVec 16),
      ∃ t, exec (.moduleIdWrite p id) s = .next t ∧ t.moduleId = id.toNat ∧
        (∀ d r c u, t.loc d r c u = (((id.toNat * 16 + d) * 16 + r) * 16 + c) * 16 + u) ∧
        s.sameRegs t [F.MGT_MODULE_ID, F.MGT_START_STAT] ∧
        t = { s with free := s.free + 1, regs := t.regs, ports := t.ports, que := t.que, fau := t.fau, lnk := t.lnk
                     trg := t.trg, start := t.start }) ∧
    (∀ key : BitVec 128, (s.safState = 7 ∨ s.safState = 4) →
      ∃ t, exec (.keyProvisioning key true) s = .next t ∧ t.saf = { s.saf with key := some key.toNat } ∧
        t.rdB F.SAF_STAT_KEY_SET = true ∧ s.sameRegs t [F.SAF_STAT] ∧
        t = { s with free := t.free, regs := t.regs, saf := t.saf, access := t.access }) ∧
    (∀ key : BitVec 128, s.safState ≠ 7 → s.safState ≠ 4 →
      ∃ t, exec (.keyProvisioning key true) s = .next t ∧ t = { s with free := t.free, access := t.access }) ∧
    (∀ key : BitVec 128, exec (.keyProvisioning key false) s = .next s)

/-- The pace loop (R41 to R44, R46, R48). Each tick takes the lowest margin of the monitors that report: it raises the setpoint by
10 mV up to 850 mV below 10%, and moves the counts of ticks; after 1000 ticks at or above 25% the setpoint is lowered by
10 mV; 1000 ticks at or above 10% clear a pace fault; CLR_MIN sets the ten minima to 255. After 10 ticks below 10% at 0.85 V,
RATE_REDUCED opens and FMAX falls to the highest multiple of 50 MHz that leaves the margin; below 0.80 GS/s the data
plane stops as well. -/
def Obligations.PaceLoop : Prop :=
  ∀ (s : State), s.Awake →
    (∀ margins, s.plane.monitors = true → s.fau.again = [] →
      ∃ t low, low = (lowestMargin (s.monitorsOn.map fun n => (n, margins.getD n 255))).2 ∧
        exec (.paceLoopTick margins) s = .next t ∧
        t.rd F.PWR_VCORE_SETPOINT_MV
          = (if s.rdB F.PWR_PACE_CTL_LOOP_EN = false then 700
             else if low < 10 then min 850 (s.rd F.PWR_VCORE_SETPOINT_MV + 10) else s.rd F.PWR_VCORE_SETPOINT_MV) ∧
        t.plane = { s.plane with
          good := if 25 ≤ low then s.plane.good + 1 else 0
          low := if low < 10 ∧ (s.rdB F.PWR_PACE_CTL_LOOP_EN = false ∨ s.rd F.PWR_VCORE_SETPOINT_MV = 850)
            then s.plane.low + 1 else 0
          ok := if low < 10 then 0 else s.plane.ok + 1
          minMargin := low, minMonitor := t.plane.minMonitor } ∧
        s.sameMain t ([F.PWR_VCORE_SETPOINT_MV.addr 0, F.PWR_PACE_STAT, F.PWR_PACE_EVT]
          ++ (List.range 10).map F.PWR_PACE_MON_MARGIN.addr) ∧
        t = { s with free := t.free, regs := t.regs, clk := t.clk, fau := t.fau, plane := t.plane }) ∧
    (∀ p, ∃ t, exec (.paceClrMin p) s = .next t ∧ (∀ n < 10, t.rd F.PWR_PACE_MON_MIN_SINCE_CLEAR n = 255) ∧
      s.sameRegs t ((List.range 10).map F.PWR_PACE_MON_MIN_SINCE_CLEAR.addr) ∧
      t = { s with free := s.free + 1, regs := t.regs, ports := t.ports }) ∧
    (s.cxRuns = true → 1000 ≤ s.plane.good → s.rdB F.PWR_PACE_CTL_LOOP_EN = true →
      exec .vcoreStepDown s
        = .next ((s.onPlane fun p => { p with good := 0 }).wr F.PWR_VCORE_SETPOINT_MV 0
            (max 700 (s.rd F.PWR_VCORE_SETPOINT_MV - 10)))) ∧
    (s.cxRuns = true → 1000 ≤ s.plane.ok → s.rdB F.PWR_PACE_STAT_PACE_FAULT = true →
      s.rdB F.PWR_PACE_STAT_SWITCHED = false →
      ∃ t, exec .paceFaultClear s = .next t ∧ t.rdB F.PWR_PACE_STAT_PACE_FAULT = false ∧
        (∀ q ∈ t.plane.reduced, q.2 ≠ none) ∧ s.sameRegs t [F.PWR_PACE_STAT] ∧
        t = { s with regs := t.regs, plane := t.plane, fau := t.fau }) ∧
    (s.cxRuns = true → 10 ≤ s.plane.low →
      ∃ t, exec .paceFault s = .next t ∧ t.plane.low = 0 ∧ (∃ q ∈ t.plane.reduced, q.2 = none) ∧
        t.rdB F.PWR_PACE_STAT_PACE_FAULT = true ∧
        (fmaxMHz s.clk.fs s.plane.minMargin < 800 → t.plane.stopped = true ∧ t.plane.ingest = false) ∧
        (800 ≤ fmaxMHz s.clk.fs s.plane.minMargin →
          s.sameMain t [F.PWR_PACE_STAT, F.PWR_PACE_EVT, F.PWR_PACE_FMAX] ∧
          t.plane = { s.plane with low := 0, reduced := t.plane.reduced } ∧
          t = { s with free := t.free, regs := t.regs, fau := t.fau, plane := t.plane }))

/-- The rate switch (R45, R46, R48). SWITCH after a pace fault, RESTORE at the fallen rate and the automatic fallback decide it,
with N the next common count that is a multiple of 1024; at N ingest stops and the counter holds N; the relock puts the new
rate in force; the resume lets the counter run again. -/
def Obligations.RateSwitch : Prop :=
  ∀ (s : State), s.Awake →
    (∀ p, s.rdB F.PWR_PACE_STAT_PACE_FAULT = true → s.plane.switch = none → s.plane.ingest = true →
      exec (.paceSwitch p) s = .next (s.accepted p fun u => u.onPlane fun q => { q with
        switch := some { target := s.rd F.PWR_PACE_FMAX_FMAX_MHZ * 1000000, n := nextMultiple 1024 (s.clk.count + 1) } })) ∧
    (∀ p, s.rdB F.PWR_PACE_STAT_SWITCHED = true → s.plane.switch = none → s.plane.ingest = true →
      exec (.paceRestore p) s = .next (s.accepted p fun u => u.onPlane fun q => { q with
        switch := some { target := s.clk.fsCfg, n := nextMultiple 1024 (s.clk.count + 1), restore := true } })) ∧
    (s.cxRuns = true → s.rdB F.PWR_PACE_CTL_AUTO_FALLBACK = true → s.rdB F.PWR_PACE_STAT_PACE_FAULT = true →
      s.plane.switch = none → s.plane.ingest = true →
      exec .autoFallback s = .next (s.onPlane fun q => { q with
        switch := some { target := s.rd F.PWR_PACE_FMAX_FMAX_MHZ * 1000000, n := nextMultiple 1024 (s.clk.count + 1) } })) ∧
    (∀ w, s.cxRuns = true → s.plane.switch = some w → w.stage = 0 → s.restarting = false → s.clk.running = true →
      s.clk.count ≤ w.n →
      ∃ t, exec .rateSwitchIngestStop s = .next t ∧ t.clk.running = false ∧ t.clk.count = w.n ∧
        t.plane = { s.plane with switch := some { w with stage := 1 } } ∧ (∀ g ∈ t.pmc.tags, g.discarded = true)) ∧
    (∀ w periods readings, s.cxRuns = true → s.plane.switch = some w → w.stage = 1 → s.clk.running = false →
      s.clk.refclk = true →
      ∃ t, exec (.rateSwitchRelock periods readings) s = .next t ∧ t.clk.fs = w.target ∧ t.clk.count = s.clk.count ∧
        t.clk.running = false ∧ t.plane = { s.plane with switch := some { w with stage := 2 } }) ∧
    (∀ w, s.cxRuns = true → s.plane.switch = some w → w.stage = 2 →
      ∃ t, exec .rateSwitchResume s = .next t ∧ t.clk = { s.clk with running := true } ∧ t.plane.switch = none ∧
        t.plane.restartWait = false)

/-- Raw blocks and units (R15, R27, R38, R52, R53, R55, R83, R170, R482): an overflow drops a block and poisons it and the
next one; a failed unit poisons every block from now on; a raw block that is taken moves the counter to its end and enters
the channel's recent blocks with its 64 samples, made by the correction filters and the skew from the converter results held; a write of the unit enables is stored, unless admission refuses it, and takes
effect at each channel's packet boundary. -/
def Obligations.RawBlocks : Prop :=
  ∀ (s : State) (ch : Fin 64), s.Working →
    (∀ n, (s.chan ch).drops.contains (n / 64 * 64) = false → (s.chan ch).since ≠ none →
      ∃ t, exec (.elasticBufferOverflow ch n) s = .next t ∧
        (t.chan ch).drops = n / 64 * 64 :: (s.chan ch).drops ∧
        ({ kind := .poison, a := n / 64 * 64, b := n / 64 * 64 + 127, f := s.firHalf ch } : Span) ∈ (t.chan ch).spans ∧
        (∀ c : Fin 64, c ≠ ch → t.chan c = s.chan c) ∧ s.sameMain t [] ∧
        t = { s with free := t.free, regs := t.regs, chans := t.chans, fau := t.fau }) ∧
    ((s.chan ch).failed = false →
      exec (.unitFailure ch) s = .next (s.onChan ch fun c => { c with failed := true, spans :=
        { kind := .poison, a := s.clk.count / 64 * 64, b := 2 ^ 70, f := s.firHalf ch } :: c.spans })) ∧
    (∀ n conv ahead a, s.producing ch = true → n % 64 = 0 → (s.chan ch).since = some a → a ≤ n →
      (∀ b ∈ (s.chan ch).recent, b.n < n) →
      ∃ t, exec (.rawBlockWrite ch n conv ahead) s = .next t ∧
        (s.clk.running = true → t.clk.count = max s.clk.count (n + 64)) ∧
        ((t.chan ch).recent.head?.map fun b => b.n) = some n ∧
        ((t.chan ch).recent.head?.map fun b => b.xs.length) = some 64 ∧
        (∀ u, u = (s.toCount (n + 64)).onChan ch (fun c => c.takeResults n (conv ++ ahead)) →
          (t.chan ch).recent.head? = some { n := n, xs := u.skewBlock ch n (u.corrected ch n 111)
                                            clips := (((u.corrected ch n 111).drop 24).take 64).map isClip }) ∧
        (∀ c : Fin 64, c ≠ ch → (t.chan c).recent = (s.chan c).recent) ∧
        s.sameMain t [F.AFE_RANGE_RANGE.addr ch, F.AFE_CLIP + 4 * ch.val] ∧
        t = { s with free := t.free, regs := t.regs, clk := t.clk, tim := t.tim, que := t.que, fau := t.fau
                     chans := t.chans, trg := t.trg, codec := t.codec }) ∧
    (∀ n, (s.plane.unitPend.map fun p => p.2.2).min? = some n → s.clk.running = true → s.clk.count ≤ n →
      ∃ t, exec .unitEnableTakeEffect s = .next t ∧ t.clk.count = n ∧
        t.plane.unitPend = s.plane.unitPend.filter (fun q => q.2.2 != n) ∧
        ∀ c : Fin 64, t.unitOn c = match (s.plane.unitPend.filter fun p => p.2.2 == n).find? fun p => p.1 == c.val with
          | some p => p.2.1
          | none => s.unitOn c) ∧
    (∀ (p : Fin 10) (half : Fin 2) (w : Word) (old new : Nat), old = s.unitMap →
      new = (if half.val = 0 then old / 2 ^ 32 * 2 ^ 32 + w.toNat else w.toNat * 2 ^ 32 + old % 2 ^ 32) → s.locked = false →
      ((∀ c : Fin 64, new.testBit c = true → old.testBit c = true) ∨
          AdmitCfg.refusedBy { s.admitCfg with units := new } s.clk.fs = none →
        ∃ t, exec (.unitEnableWrite p half w) s = .next t ∧ t.rd F.AFE_UNIT_EN_EN half = w.toNat ∧
          (∀ c : Fin 64, new.testBit c ≠ s.unitOn c → ∃ q ∈ t.plane.unitPend, q.1 = c.val) ∧
          (∀ q ∈ t.plane.unitPend, new.testBit q.1 ≠ s.unitOn q.1) ∧ t.plane.unitOn = s.plane.unitOn ∧
          s.sameRegs t [F.AFE_UNIT_EN_EN.addr half] ∧
          t = { s with free := s.free + 1, regs := t.regs, ports := t.ports, plane := t.plane }) ∧
      (∀ q, ¬ (∀ c : Fin 64, new.testBit c = true → old.testBit c = true) →
          AdmitCfg.refusedBy { s.admitCfg with units := new } s.clk.fs = some q →
        exec (.unitEnableWrite p half w) s = .next (s.accepted p fun u => u.admitFault q)))

/-- Faults of regions, dies and sources, and the return of a region (R59 to R63, R115, R394): a region that fails stops and gives
one incident; the loss of a QF die fails both of its regions; a CX fault stops the data plane; a locked PLL takes its phase
and lets the region resume at the first multiple of 1024 at least 32 samples later. -/
def Obligations.RegionFaults : Prop :=
  ∀ (s : State), s.Working →
    (∀ (r : Fin 4) (k : Fin 2), (s.region r).monitored = true →
      ∃ t, exec (.regionFault r k) s = .next t ∧ (t.region r).failed = true ∧ (t.region r).locked = false ∧
        (∀ q : Fin 4, q ≠ r → t.region q = s.region q) ∧
        t = { s with free := t.free, regs := t.regs, banks := t.banks, tim := t.tim, lnk := t.lnk, que := t.que, fau := t.fau
                     prm := t.prm, regions := t.regions, chans := t.chans, adc := t.adc, chn := t.chn, wch := t.wch
                     trg := t.trg, pmc := t.pmc }) ∧
    (∀ d : Fin 2, s.plane.qfFault.getD d false = false → d.val < s.plane.qfFault.length →
      ∃ t, exec (.dieFault ⟨d.val, by omega⟩) s = .next t ∧ t.plane.qfFault.getD d false = true ∧
        (∀ r : Fin 4, r.val / 2 = d.val → (s.region r).monitored = true → (t.region r).failed = true) ∧
        (∀ r : Fin 4, r.val / 2 ≠ d.val → t.region r = s.region r)) ∧
    (s.plane.cxFault = false →
      ∃ t, exec (.dieFault 2) s = .next t ∧ t.plane.cxFault = true ∧ t.plane.ingest = false ∧ t.regions = s.regions) ∧
    (∀ (r : Fin 4) (x : Int), (s.region r).powered = true → (s.region r).locked = false → (s.region r).thermal = false →
      (s.region r).shed = false → ((s.region r).failed = false ∨ s.restarting = true) → s.clk.refclk = true →
      ∃ t n, exec (.regionPllLock r x) s = .next t ∧ n % 1024 = 0 ∧ s.clk.count + 32 ≤ n ∧ n < s.clk.count + 32 + 1024 ∧
        t.region r = { s.region r with locked := true, failed := false, resumeAt := some n } ∧
        (∀ q : Fin 4, q ≠ r → t.region q = s.region q) ∧
        t = { s with regs := t.regs, fau := t.fau, plane := t.plane, regions := t.regions, chans := t.chans }) ∧
    (∀ (r : Fin 4) (n : Nat), (s.region r).resumeAt = some n → (s.region r).live = true → s.plane.ingest = true →
      s.clk.running = true → s.restarting = false →
      ∃ t, exec (.regionRestore r) s = .next t ∧ t.region r = { s.region r with resumeAt := none } ∧
        t.clk.count = max s.clk.count n ∧ (∀ q : Fin 4, q ≠ r → t.region q = s.region q) ∧
        t = { s with free := t.free, regs := t.regs, clk := t.clk, tim := t.tim, que := t.que, fau := t.fau
                     regions := t.regions, chans := t.chans, wch := t.wch })

/-- Ranges and auto-ranging (R76, R77, R81, R84, R85): a write with AR_MIN above AR_MAX is refused whole; a new range is shown with
PENDING at once and takes effect at a multiple of 64 at least 32 samples later, 16 samples settling from there on; a dwell
window's end moves the range by one step; the thresholds are stored only when 1000 HI exceeds 1303 LO. -/
def Obligations.Ranges : Prop :=
  ∀ (s : State) (p : Fin 10) (ch : Fin 64) (w : Word), s.Working →
    (getField w 12 4 < getField w 8 4 →
      exec (.rangeWrite p ch w) s = .next (s.accepted p fun u => u.configFault (s.locUnit ch) (F.AFE_RANGE + 4 * ch.val))) ∧
    (getField w 8 4 ≤ getField w 12 4 →
      ∃ t, exec (.rangeWrite p ch w) s = .next t ∧ t.rd F.AFE_RANGE_RANGE ch = getField w 0 4 ∧
        t.rd F.AFE_RANGE_AR_MIN ch = getField w 8 4 ∧ t.rd F.AFE_RANGE_AR_MAX ch = getField w 12 4 ∧
        t.rd F.AFE_RANGE_AR_EN ch = getField w 16 1 ∧ (t.chan ch).age = 0 ∧
        (getField w 0 4 = s.rd F.AFE_RANGE_RANGE ch →
          (t.chan ch).rangeAt = (s.chan ch).rangeAt ∧ t.rd F.AFE_RANGE_PENDING ch = s.rd F.AFE_RANGE_PENDING ch) ∧
        (getField w 0 4 ≠ s.rd F.AFE_RANGE_RANGE ch → t.rdB F.AFE_RANGE_PENDING ch = true) ∧
        (getField w 0 4 ≠ s.rd F.AFE_RANGE_RANGE ch → (s.chan ch).rangeAt = none → (s.chan ch).since ≠ none →
          s.rehearsing (ch.val / 16) = false →
          ∃ n, (t.chan ch).rangeAt = some n ∧ n % 64 = 0 ∧ s.clk.count + 32 ≤ n) ∧
        s.sameRegs t [F.AFE_RANGE_RANGE.addr ch] ∧
        t = { s with free := s.free + 1, regs := t.regs, ports := t.ports, chans := t.chans }) ∧
    (∀ n, (s.chan ch).rangeAt = some n →
      ∃ t, exec (.rangeChangeApply ch) s = .next t ∧ (t.chan ch).range = s.rd F.AFE_RANGE_RANGE ch ∧
        (t.chan ch).rangeAt = none ∧ t.rdB F.AFE_RANGE_PENDING ch = false ∧
        ({ kind := .rangeSettle, a := n, b := n + 15, f := s.firHalf ch } : Span) ∈ (t.chan ch).spans ∧
        (∀ c : Fin 64, c ≠ ch → t.chan c = s.chan c) ∧ s.sameRegs t [F.AFE_RANGE_RANGE.addr ch] ∧
        t = { s with regs := t.regs, clk := t.clk, chans := t.chans }) ∧
    (∀ n, s.rdB F.AFE_RANGE_AR_EN ch = true → s.rehearsing (ch.val / 16) = false → (s.chan ch).arDue = some n →
      ∃ t, exec (.autoRangeDecision ch) s = .next t ∧ (t.chan ch).age = 0 ∧
        t.rd F.AFE_RANGE_RANGE ch =
          (if (s.chan ch).hot = true ∧ s.rd F.AFE_RANGE_RANGE ch < s.rd F.AFE_RANGE_AR_MAX ch
            then s.rd F.AFE_RANGE_RANGE ch + 1
           else if (s.chan ch).hot = false ∧ (s.chan ch).quiet = true ∧
              s.rd F.AFE_RANGE_AR_MIN ch < s.rd F.AFE_RANGE_RANGE ch then s.rd F.AFE_RANGE_RANGE ch - 1
           else s.rd F.AFE_RANGE_RANGE ch) ∧
        (∀ c : Fin 64, c ≠ ch → t.chan c = s.chan c) ∧ s.sameRegs t [F.AFE_RANGE_RANGE.addr ch] ∧
        t = { s with regs := t.regs, chans := t.chans }) ∧
    (1303 * getField w 16 12 < 1000 * getField w 0 12 →
      exec (.arThrWrite p w) s
        = .next (s.accepted p fun u => (u.wr F.AFE_AR_THR_HI 0 (getField w 0 12)).wr F.AFE_AR_THR_LO 0 (getField w 16 12))) ∧
    (1000 * getField w 0 12 ≤ 1303 * getField w 16 12 →
      exec (.arThrWrite p w) s = .next (s.accepted p fun u => u.configFault s.locCx F.AFE_AR_THR))

/-- The feeds and their test-pulse sweeps (R86 to R95): a write of FEED_EN switches feeds on with a soft start of 10 ms and off; on a tick each
feed takes its current and its state: NO_SUPPLY, SHED, OFF or OPEN_OFF while it is not on, OVERLOAD after a trip with the retry
100 ticks later, SHORTED after a pulse that found it held up, OPEN where its comparator tripped, and ON again where an OPEN one
draws current; an overload switches a feed off at once; VFEED below its threshold takes every feed's supply, and its return
switches feeds on. A command, its period and the start-up start a sweep; each eligible feed is pulsed in turn, on a tick of its
own, and its pulse ends; when none is left the sweep ends and lists the feeds skipped. -/
def Obligations.Feeds : Prop :=
  ∀ (s : State), s.Awake →
    (∀ p w, exec (.feedEnWrite p w) s = .next (s.accepted p fun u =>
      (u.wr F.AFE_FEED_EN_EN 0 w.toNat).forEach (List.range 32) fun v a =>
        if (s.rd F.AFE_FEED_EN_EN).testBit a = w.toNat.testBit a then v
        else if w.toNat.testBit a = true then
          let v := v.wr F.AFE_FEED_STAT_RETRY_LEFT a (v.rd F.AFE_FEED_CFG_RETRIES)
          if v.feedFed a = true then v.feedSwitchOn a false else v
        else (v.dropPulse a true).onFeed a fun _ => {})) ∧
    (∀ cs o l b,
      exec (.feedStateTick cs o l b) s = .next (s.forEach (List.range 32) fun u a =>
        u.feedTick a (cs.getD a 0) (o.toNat.testBit a) (l.toNat.testBit a) (b.toNat.testBit a))) ∧
    (∀ (a : Fin 32) (c : Nat) (o l b : Bool) (u : State),
      u = (s.wr F.AFE_FEED_STAT_CURRENT_MA a (min 1023 c)).onFeed a
        (fun x => { x with soft := x.soft - 1, short := none, clear := false }) →
      (s.feeds.vfeedOk = false → s.feedTick a c o l b = u.enterFeed a feedNoSupply a) ∧
      (s.feeds.vfeedOk = true → s.feedsShed a = true → s.feedTick a c o l b = u.enterFeed a feedShed a) ∧
      (s.feedFed a = true → s.feedEn a = false →
        s.feedTick a c o l b = u.enterFeed a (if l = true then feedOpenOff else feedOff) a) ∧
      (s.feedFed a = true → s.feedEn a = true → (s.feed a).trip = true → s.feedState a ≠ feedOverload →
        s.feedTick a c o l b = (u.enterFeed a feedOverload a).onFeed a fun _ =>
          { retryAt := if 0 < s.rd F.AFE_FEED_STAT_RETRY_LEFT a then some (s.clk.tick + 100) else none }) ∧
      (s.feedFed a = true → s.feedEn a = true → (s.feed a).trip = false → s.feedState a ≠ feedOverload →
        (∀ d, (s.feed a).short = some d → s.feedTick a c o l b = u.enterFeed a feedShorted d) ∧
        ((s.feed a).short = none → s.feedState a = feedOpen → b = true → s.feedTick a c o l b = u.enterFeed a feedOn a) ∧
        ((s.feed a).short = none → s.feedState a = feedOn → o = true → (s.feed a).soft ≤ 1 → s.pulsing a = false →
          s.feedTick a c o l b = u.enterFeed a feedOpen a))) ∧
    (∀ a : Fin 32, s.feedEn a = true → s.feedFed a = true → (s.feed a).trip = false →
      (s.feed a).retrying = true ∨ (s.feed a).soft = 0 ∧ s.feedState a ≠ feedOverload →
      exec (.feedOverloadTrip a) s = .next (s.onFeed a fun _ => { trip := true })) ∧
    (∀ (a : Fin 32) k, (s.feed a).retryAt = some k → s.feedState a = feedOverload → s.feedEn a = true →
      s.feedFed a = true → s.feeds.feeds.length = 32 →
      ∃ t, exec (.feedRetry a) s = .next t ∧ t.feed a = { soft := 10, retrying := true } ∧
        t.rd F.AFE_FEED_STAT_RETRY_LEFT a = s.rd F.AFE_FEED_STAT_RETRY_LEFT a - 1 ∧
        (∀ b : Fin 32, b ≠ a → t.feed b = s.feed b) ∧ s.sameRegs t [F.AFE_FEED_STAT_STATE.addr a] ∧
        t = { s with clk := t.clk, regs := t.regs, feeds := t.feeds }) ∧
    (∀ mv, s.feeds.vfeedOk = true →
      ∃ t, exec (.vfeedUndervoltage mv) s = .next t ∧ t.feeds.vfeedOk = false ∧ t.feeds.sweep = none ∧
        t.feeds.feeds = List.replicate 32 {} ∧ s.sameMain t [F.AFE_FEED_TP, F.PWR_AUX] ∧
        t = { s with free := t.free, regs := t.regs, fau := t.fau, feeds := t.feeds }) ∧
    (∀ mv, s.feeds.vfeedOk = false →
      ∃ t, exec (.vfeedRecover mv) s = .next t ∧ t.feeds.vfeedOk = true ∧
        (s.feeds.feeds.length = 32 → ∀ a : Fin 32, t.feed a =
          if s.feedEn a = true ∧ s.feedsShed a = false then { s.feed a with soft := 10, retrying := false, trip := false }
          else s.feed a) ∧
        s.sameRegs t [F.PWR_AUX] ∧ t = { s with regs := t.regs, fau := t.fau, feeds := t.feeds }) ∧
    (∀ p, s.feeds.sweep = none →
      ∃ t, exec (.feedSweep p) s = .next t ∧ t.feeds = { s.feeds with sweep := some {}, lastSweepTick := s.clk.tick } ∧
        t.rdB F.AFE_FEED_TP_BUSY = true ∧ s.sameRegs t [F.AFE_FEED_TP] ∧
        t = { s with free := s.free + 1, regs := t.regs, ports := t.ports, feeds := t.feeds }) ∧
    (s.rdB F.AFE_FEED_TP_PERIODIC = true → s.feeds.sweep = none →
      ∃ t, exec .feedSweepPeriodic s = .next t ∧ t.feeds = { s.feeds with sweep := some {}, lastSweepTick := t.clk.tick } ∧
        t.rdB F.AFE_FEED_TP_BUSY = true ∧ s.sameRegs t [F.AFE_FEED_TP] ∧
        t = { s with regs := t.regs, clk := t.clk, feeds := t.feeds }) ∧
    (s.feeds.startSwept = false → (∀ x ∈ s.feeds.feeds, x.soft = 0) → s.sns.on = true → s.feeds.sweep = none →
      ∃ t, exec .feedSweepStartUp s = .next t ∧
        t.feeds = { s.feeds with startSwept := true, sweep := some {}, lastSweepTick := s.clk.tick } ∧
        s.sameRegs t [F.AFE_FEED_TP] ∧
        t = { s with regs := t.regs, feeds := t.feeds }) ∧
    (∀ (w : Sweep) (a : Nat) before, s.feeds.sweep = some w → w.pulse = none →
      (∀ x, s.plane.switch = some x → x.stage = 0) →
      ((List.range 32).filter fun b => decide (w.next ≤ b)).find? (fun b => s.eligible b) = some a →
      ∃ t v, exec (.feedTestPulse before) s = .next t ∧ t.feeds = { s.feeds with sweep := some v } ∧
        v.pulse = some (a, t.clk.count) ∧ v.before = before ∧ v.tick = some t.clk.tick ∧
        (∀ c ∈ [2 * a, 2 * a + 1], ∃ x ∈ (t.chan c).spans, x.kind = .pulse ∧ x.a = t.clk.count) ∧
        t = { s with clk := (s.sweepTick w).clk, chans := t.chans, feeds := t.feeds }) ∧
    (∀ (w : Sweep) a n high now, s.feeds.sweep = some w → w.pulse = some (a, n) →
      ∃ t v, exec (.feedPulseEnd high now) s = .next t ∧ t.feeds.sweep = some v ∧ v.pulse = none ∧ v.next = a + 1 ∧
        (a < 32 → s.feeds.feeds.length = 32 → (t.feed a).soft = 10 ∧ (t.feed a).short.isSome = high ∧ (t.feed a).clear = !high) ∧
        s.sameRegs t [F.AFE_FEED_STAT_STATE.addr a] ∧ t = { s with regs := t.regs, clk := t.clk, feeds := t.feeds }) ∧
    (∀ w : Sweep, s.feeds.sweep = some w → w.pulse = none → (∀ a < 32, w.next ≤ a → s.eligible a = false) →
      ∃ t, exec .feedSweepEnd s = .next t ∧ t.feeds = { s.feeds with
          sweep := none, lastStopped := false
          lastSkipped := w.skipped ++ (List.range 32).filter fun a => decide (w.next ≤ a) } ∧
        t.rdB F.AFE_FEED_TP_BUSY = false ∧ s.sameRegs t [F.AFE_FEED_TP] ∧
        t = { s with regs := t.regs, clk := (s.sweepTick w).clk, feeds := t.feeds })

/-- Background correction and saved sets (R102 to R104, R112 to R116): at the end of a window of 2^20 samples the next one begins;
a window without enough signal only counts, and 16 of them hold the correction; a window with signal moves each factor by its error over 2^BG_MU, up to one unit, within 16 bits. SAVE
captures the 2048 factors; the write's end tells whether the set is valid; LOAD takes the newest valid set, or the factory
set. -/
def Obligations.CalibrationSets : Prop :=
  ∀ (s : State), s.Working →
    (∀ (ch : Fin 64) levels share spur edges a, (s.chan ch).bg.start = some a → s.bgRuns ch = true →
      ((s.chan ch).bg.strong = false ∨ 90 < share →
        ∃ t, exec (.bgWindowEnd ch levels share spur edges) s = .next t ∧
          t.chan ch = { s.chan ch with bg := { start := some (a + 2 ^ 20) }, bgIdle := (s.chan ch).bgIdle + 1 } ∧
          (16 ≤ (s.chan ch).bgIdle + 1 → t.rdB F.ADC_BG_STAT_HOLD ch = true) ∧ s.reached t (a + 2 ^ 20) ∧
          s.sameRegs t [F.ADC_BG_STAT_HOLD.addr ch] ∧ t = { s with regs := t.regs, clk := t.clk, chans := t.chans }) ∧
      ((s.chan ch).bg.strong = true → share ≤ 90 →
        ∃ t, exec (.bgWindowEnd ch levels share spur edges) s = .next t ∧ (t.chan ch).bgIdle = 0 ∧
          (t.chan ch).bg = { start := some (a + 2 ^ 20) } ∧ s.reached t (a + 2 ^ 20) ∧
          (t.chan ch).bgGood = (if 80 ≤ spur then (s.chan ch).bgGood + 1 else 0) ∧
          (∀ k : Fin 32, ∃ d : Int, (d = 0 ∨ d = 1) ∧
            t.rd F.ADC_CAL_VALUE (32 * ch.val + k.val) = wrapBits 16 (factorLimit (s.rdS F.ADC_CAL_VALUE (32 * ch.val + k.val)
              + (bgErrors levels edges).getD k.val 0 / (2 ^ s.rd F.ADC_CTL_BG_MU : Nat) + d))) ∧
          s.sameMain t (F.ADC_BG_STAT_HOLD.addr ch :: (List.range 32).map fun k => F.ADC_CAL_VALUE.addr (32 * ch.val + k)) ∧
          t = { s with free := s.free + 1, regs := t.regs, clk := t.clk, chans := t.chans })) ∧
    (∀ p, s.factoryTrim = false → s.rehIdle = true → s.adc.saving = none → s.adc.saved.length = 2 →
      ∃ t i c, exec (.calSave p) s = .next t ∧ t.adc.saving = some i ∧ t.adc.saved[i]? = some c ∧
        c.cal = (List.range 2048).map (fun k => s.rd F.ADC_CAL_VALUE k) ∧ c.valid = false ∧
        t.rdB F.ADC_REH_STAT_SAVE_BUSY = true ∧ s.sameRegs t [F.ADC_REH_STAT] ∧
        t = { s with free := s.free + 1, regs := t.regs, ports := t.ports, adc := t.adc }) ∧
    (∀ p, s.factoryTrim = true ∨ s.rehIdle = false →
      exec (.calSave p) s = .next (s.accepted p fun u => u.configFault s.locCx F.ADC_REH_CMD)) ∧
    (∀ i ok, s.adc.saving = some i →
      ∃ t, exec (.calSaveDone ok) s = .next t ∧ t.adc.saving = none ∧
        t.adc.saved = s.adc.saved.modify i (fun c => { c with valid := ok }) ∧
        t.rdB F.ADC_REH_STAT_SAVE_BUSY = false ∧ t.rdB F.ADC_REH_STAT_SAVED_VALID = t.newestSet.isSome ∧
        s.sameRegs t [F.ADC_REH_STAT] ∧
        t = { s with regs := t.regs, adc := t.adc }) ∧
    (∀ p, s.rehIdle = true →
      ∃ t, exec (.calLoad p) s = .next t ∧ (∀ i : Fin 2048, t.rd F.ADC_CAL_VALUE i = s.loadSource i % 2 ^ 16) ∧
        s.sameRegs t ((List.range 2048).map F.ADC_CAL_VALUE.addr) ∧
        t = { s with free := s.free + 1, regs := t.regs, ports := t.ports, chans := t.chans }) ∧
    (∀ p, s.rehIdle = false →
      exec (.calLoad p) s = .next (s.accepted p fun u => u.configFault s.locCx F.ADC_REH_CMD))

/-- Rehearsal (R106 to R112, R116): a start mask starts each named region's Rehearsal; at N_s its units connect and carry
REHEARSAL; the phases follow one another at their lengths; after the eighth the inputs reconnect at N_s plus 216,000,000,
each unit's grade is shown, and the region is idle again. -/
def Obligations.Rehearsal : Prop :=
  ∀ (s : State) (r : Fin 4), s.Working → s.adc.reh.length = 4 →
    (∀ (p : Fin 10) (mask : BitVec 4), mask.toNat = 2 ^ r.val → s.factoryTrim = false → (s.rehOf r).busy = false →
      (s.region r).live = true → s.plane.ingest = true →
      ∃ t n, exec (.rehearsalStart p mask) s = .next t ∧ t.rehOf r = { busy := true, ns := n } ∧ n % 64 = 0 ∧
        s.clk.count + 32 ≤ n ∧ (∀ q : Fin 4, q ≠ r → t.rehOf q = s.rehOf q) ∧
        s.sameRegs t [F.ADC_REH_STAT, F.ADC_REH_EVT] ∧ t = { s with free := s.free + 1, regs := t.regs, ports := t.ports, adc := t.adc }) ∧
    (∀ (p : Fin 10) (mask : BitVec 4), mask.toNat ≠ 0 → s.factoryTrim = true →
      exec (.rehearsalStart p mask) s = .next (s.accepted p fun u => u.configFault s.locCx F.ADC_REH_CMD)) ∧
    ((s.rehOf r).busy = true → (s.rehOf r).connected = false →
      ∃ t, exec (.rehearsalConnect r) s = .next t ∧ (t.rehOf r).connected = true ∧ (t.rehOf r).phase = 1 ∧
        (t.rehOf r).units = (regionChans r).filter (fun ch => s.producing ch) ∧
        (∀ ch ∈ (t.rehOf r).units, ∃ x ∈ (t.chan ch).spans, x.kind = .rehearsal ∧ x.a = (s.rehOf r).ns ∧
          x.b = (s.rehOf r).ns + 215999999) ∧
        t = { s with clk := t.clk, chans := t.chans, adc := t.adc }) ∧
    (∀ meas, (s.rehOf r).connected = true → (s.rehOf r).phase < 8 →
      ∃ t, exec (.rehearsalPhase r meas) s = .next t ∧ (t.rehOf r).phase = (s.rehOf r).phase + 1 ∧
        (t.rehOf r).meas[(s.rehOf r).phase]? = some meas ∧
        s.sameRegs t ((F.ADC_PLL_PHASE + 4 * r.val) :: (regionChans r).map F.FLT_SKEW_PENDING.addr ++
          (s.rehOf r).units.flatMap fun ch => (List.range 32).map fun k => F.ADC_CAL_VALUE.addr (32 * ch + k)) ∧
        t = { s with regs := t.regs, clk := t.clk, chans := t.chans, adc := t.adc }) ∧
    (∀ tj : Int, (s.rehOf r).connected = true → (s.rehOf r).phase = 8 →
      ∃ t, exec (.rehearsalReconnect (r, tj)) s = .next t ∧ (t.rehOf r).busy = false ∧ (t.rehOf r).connected = false ∧
        (s.clk.running = true → t.clk.count = max s.clk.count ((s.rehOf r).ns + 216000000)) ∧
        (∀ u : Fin 16, (t.regGet (F.ADC_REH_CH_RES + 4 * r.val)).toNat / 4 ^ u.val % 4 = s.grade r (16 * r.val + u.val)) ∧
        ((∀ g ∈ regionClusters r, s.injQueue g = []) →
          s.sameMain t ([F.ADC_REH_STAT, F.ADC_REH_EVT, F.ADC_REH_CH_RES + 4 * r.val, F.ADC_REH_TEMP] ++
            (List.range 512).map (fun k => F.ADC_CAL_VALUE.addr (512 * r.val + k)) ++
            (regionChans r).map F.AFE_RANGE_RANGE.addr ++ (regionClusters r).map F.ADC_INJ_STAT_PENDING.addr) ∧
          t = { s with free := t.free, regs := t.regs, clk := t.clk, fau := t.fau, chans := t.chans, adc := t.adc }) ∧
        t = { s with free := t.free, regs := t.regs, clk := t.clk, lnk := t.lnk, fau := t.fau, prm := t.prm
                     chans := t.chans, adc := t.adc })

/-- Injected conversions and skew calibration (R57, R58, R119 to R122, R129): a request joins its cluster's queue with a window
start at a multiple of 64 at least 32 samples later, or completes at once with its refusal; a window starts at N_i, ends
after 1,024 or 16,384 samples, and completes with DONE; a faulty source lets no waiting request run, and takes the factors that a Rehearsal wrote back. -/
def Obligations.Injection : Prop :=
  ∀ (s : State), s.Working → s.adc.inj.length = 16 →
    (∀ (p : Fin 10) (w : Word) (x : Inject), x = { ch := getField w 0 6, signal := (getField w 6 3, getField w 9 10, getField w 19 2) } →
      (s.injRefusal x = none → s.injQueue (x.ch / 4) = [] → (s.adc.reh.getD (x.ch / 4 / 4) {}).busy = false →
        ∃ t n, exec (.injectRequest p w) s = .next t ∧ t.injQueue (x.ch / 4) = [{ x with at_ := s.clk.count, least := n, ni := some n }] ∧
          n % 64 = 0 ∧ s.clk.count + 32 ≤ n ∧ t.rd F.ADC_INJ_STAT_PENDING (x.ch / 4) = 1 ∧
          s.sameRegs t [F.ADC_INJ_STAT + 4 * (x.ch / 4)] ∧
          (∀ c : Fin 64, c.val / 4 ≠ x.ch / 4 → t.chan c = s.chan c) ∧
          t = { s with free := s.free + 1, regs := t.regs, ports := t.ports, chans := t.chans, adc := t.adc }) ∧
      (∀ st, s.injRefusal x = some st →
        ∃ t, exec (.injectRequest p w) s = .next t ∧ t.rd F.ADC_INJ_STAT_LAST_STATUS (x.ch / 4) = st ∧
          t.rd F.ADC_INJ_STAT_LAST_CH (x.ch / 4) = x.ch ∧
          s.sameRegs t [F.ADC_INJ_STAT + 4 * (x.ch / 4)] ∧
          t = { s with free := s.free + 1, regs := t.regs, ports := t.ports })) ∧
    (∀ (g : Fin 16) x rest n, s.injQueue g = x :: rest → x.ni = some n → x.running = false →
      ∃ t, exec (.injectWindowStart g) s = .next t ∧ t.injQueue g = { x with running := true } :: rest ∧
        (∀ ch ∈ x.chans, ch < 64 → ∃ y ∈ (t.chan ch).spans, y.kind = .rehearsal ∧ y.a = n ∧ y.b + 1 = n + x.len) ∧
        s.sameRegs t [F.ADC_INJ_STAT + 4 * g.val] ∧ t = { s with regs := t.regs, clk := t.clk, chans := t.chans, adc := t.adc }) ∧
    (∀ (g : Fin 16) x n, s.injQueue g = [x] → x.ni = some n → x.running = true → x.skew = false → x.prm = none →
      x.ch / 4 = g.val →
      ∃ t, exec (.injectComplete g) s = .next t ∧ t.injQueue g = [] ∧ t.rd F.ADC_INJ_STAT_LAST_STATUS g = 0 ∧
        t.rd F.ADC_INJ_STAT_LAST_CH g = x.ch % 64 ∧ (s.clk.running = true → t.clk.count = max s.clk.count (n + 1024)) ∧
        s.sameRegs t [F.ADC_INJ_STAT + 4 * g.val] ∧
        t = { s with regs := t.regs, clk := t.clk, chans := t.chans, adc := t.adc }) ∧
    (∀ (p : Fin 10) (mask : BitVec 16) (g : Fin 16), mask.toNat = 2 ^ g.val → s.injRefusal { ch := 4 * g.val, skew := true } = none →
      s.injQueue g = [] → (s.adc.reh.getD (g.val / 4) {}).busy = false →
      ∃ t n, exec (.skewCalRequest p mask) s = .next t ∧
        t.injQueue g = [{ ch := 4 * g.val, skew := true, signal := (3, 1, 1), at_ := s.clk.count, least := n, ni := some n }] ∧
        n % 64 = 0 ∧ s.clk.count + 32 ≤ n ∧
        (∀ u < 4, t.rdB F.FLT_SKEW_MEAS_PENDING (4 * g.val + u) = true ∧ t.rdB F.FLT_SKEW_MEAS_VALID (4 * g.val + u) = false) ∧
        s.sameRegs t ((F.ADC_INJ_STAT + 4 * g.val) :: (List.range 4).map fun u => F.FLT_SKEW_MEAS_VALID.addr (4 * g.val + u)) ∧
        t = { s with free := s.free + 1, regs := t.regs, ports := t.ports, chans := t.chans, adc := t.adc }) ∧
    (∀ (g : Fin 16) x n meas, s.injQueue g = [x] → x.ni = some n → x.running = true → x.skew = true → x.prm = none →
      x.ch = 4 * g.val →
      ∃ t, exec (.skewCalComplete g meas) s = .next t ∧ t.injQueue g = [] ∧ t.rd F.ADC_INJ_STAT_LAST_STATUS g = 0 ∧
        (∀ u < 4, s.unitOn (4 * g.val + u) = true → t.rdB F.FLT_SKEW_MEAS_VALID (4 * g.val + u) = true ∧
          t.rdB F.FLT_SKEW_MEAS_PENDING (4 * g.val + u) = false) ∧
        (s.clk.running = true → t.clk.count = max s.clk.count (n + 16384)) ∧
        s.sameRegs t ((F.ADC_INJ_STAT + 4 * g.val) :: (List.range 4).map fun u => F.FLT_SKEW_MEAS_VALID.addr (4 * g.val + u)) ∧
        t = { s with regs := t.regs, clk := t.clk, chans := t.chans, adc := t.adc }) ∧
    (∀ g : Fin 16, s.plane.sourceFault.contains g.val = false →
      ∃ t, exec (.calSourceFault g) s = .next t ∧ t.plane = { s.plane with sourceFault := g.val :: s.plane.sourceFault } ∧
        t.injQueue g = (s.injQueue g).filter (fun x => x.running) ∧
        ((s.rehOf (g.val / 4)).connected = true → 5 < (s.rehOf (g.val / 4)).phase →
          ∀ ch ∈ (s.rehOf (g.val / 4)).units, ch / 4 = g.val → ∀ k : Fin 32,
            t.rd F.ADC_CAL_VALUE (32 * ch + k.val) = ((s.rehOf (g.val / 4)).old ch).getD k.val 0 % 2 ^ 16) ∧
        ((∀ x ∈ s.injQueue g, x.running = true ∨ x.prm = none) →
          (s.rehOf (g.val / 4)).connected = false ∨ (s.rehOf (g.val / 4)).phase ≤ 5 →
          s.sameMain t ((F.ADC_INJ_STAT + 4 * g.val) :: (s.injQueue g).flatMap fun x => (F.ADC_INJ_STAT + 4 * (x.ch / 4)) ::
            (List.range 4).map fun u => F.FLT_SKEW_MEAS_VALID.addr (4 * (x.ch / 4) + u)) ∧
          t = { s with free := t.free, regs := t.regs, fau := t.fau, plane := t.plane, adc := t.adc }) ∧
        t = { s with free := t.free, regs := t.regs, fau := t.fau, plane := t.plane, chans := t.chans, adc := t.adc
                     prm := t.prm, lnk := t.lnk })

/-- Skew and notches (R126, R128, R130 to R132, R137): a skew is held within ±4096 and takes effect at a multiple of 64 at least
32 samples later, when the effective skew is formed anew, held within ±4096 as well; a notch within the limits of R131 is
stored, and a change of it waits for its N_k; one outside is refused with a configuration fault; at N_k the change leaves the
waiting changes, and stream blocks settle. -/
def Obligations.SkewAndNotches : Prop :=
  ∀ (s : State) (p : Fin 10) (ch : Fin 64) (j : Fin 512) (w : Word), s.Working →
    (∃ t, exec (.skewWrite p ch w) s = .next t ∧ 
        t.rdS F.FLT_SKEW_SKEW ch = clampInt (-4096) 4096 (signed 14 w.toNat) ∧
        t.rdB F.FLT_SKEW_PENDING ch = true ∧
        ((s.chan ch).skewAt = none → (s.chan ch).since ≠ none →
          ∃ n, (t.chan ch).skewAt = some n ∧ n % 64 = 0 ∧ s.clk.count + 32 ≤ n) ∧
        ((s.chan ch).skewAt ≠ none ∨ (s.chan ch).since = none → t.chans = s.chans) ∧
        s.sameRegs t [F.FLT_SKEW_SKEW.addr ch] ∧ t = { s with free := s.free + 1, regs := t.regs, ports := t.ports, chans := t.chans }) ∧
    (∀ n, (s.chan ch).skewAt = some n → (s.chan ch).phaseAt = none →
      ∃ t, exec (.skewChangeApply ch) s = .next t ∧ (t.chan ch).host = s.rdS F.FLT_SKEW_SKEW ch ∧ (t.chan ch).skewAt = none ∧
        t.rdB F.FLT_SKEW_PENDING ch = false ∧
        t.rdS F.FLT_SKEW_EFF_EFF ch = clampInt (-4096) 4096
          (rhe (s.rdS F.FLT_SKEW_SKEW ch * s.clk.fs) s.clk.fsCfg + (s.chan ch).phase) ∧
        s.sameMain t [F.FLT_SKEW_SKEW.addr ch, F.FLT_SKEW_EFF_EFF.addr ch] ∧
        t = { s with free := t.free, regs := t.regs, clk := t.clk, chans := t.chans, fau := t.fau }) ∧
    (getField w 31 1 = 1 → s.notchOk (j.val / 8) (getField w 0 24) (s.rd F.FLT_NOTCH_BW_BW j) = false →
      exec (.notchWrite p j w) s
        = .next (s.accepted p fun u => u.configFault (s.locUnit (j.val / 8)) (F.FLT_NOTCH + 8 * j.val))) ∧
    (getField w 31 1 = 0 ∨ s.notchOk (j.val / 8) (getField w 0 24) (s.rd F.FLT_NOTCH_BW_BW j) = true →
      ∃ t, exec (.notchWrite p j w) s = .next t ∧ t.rd F.FLT_NOTCH_FC j = getField w 0 24 ∧
        t.rd F.FLT_NOTCH_EN j = getField w 31 1 ∧
        (getField w 31 1 ≠ s.rd F.FLT_NOTCH_EN j → t.rdB F.FLT_NOTCH_PENDING j = true ∧
          ∃ q ∈ (t.chan (j.val / 8)).notchAt, ∃ x ∈ q.2, x.1 = j.val % 8) ∧
        s.sameRegs t [F.FLT_NOTCH_FC.addr j] ∧ t = { s with free := s.free + 1, regs := t.regs, ports := t.ports, chans := t.chans }) ∧
    (s.rdB F.FLT_NOTCH_EN j = true →
      s.notchOk (j.val / 8) (s.rd F.FLT_NOTCH_FC j) (clampNat 100 100000 (getField w 0 17)) = false →
      exec (.notchBwWrite p j w) s
        = .next (s.accepted p fun u => u.configFault (s.locUnit (j.val / 8)) (F.FLT_NOTCH_BW + 8 * j.val))) ∧
    (s.rdB F.FLT_NOTCH_EN j = false ∨
        s.notchOk (j.val / 8) (s.rd F.FLT_NOTCH_FC j) (clampNat 100 100000 (getField w 0 17)) = true →
      ∃ t, exec (.notchBwWrite p j w) s = .next t ∧
        t.rd F.FLT_NOTCH_BW_BW j = clampNat 100 100000 (getField w 0 17) ∧
        (s.rdB F.FLT_NOTCH_EN j = true → s.rd F.FLT_NOTCH_BW_BW j ≠ clampNat 100 100000 (getField w 0 17) →
          t.rdB F.FLT_NOTCH_PENDING j = true) ∧
        s.sameRegs t [F.FLT_NOTCH_FC.addr j, F.FLT_NOTCH_BW_BW.addr j] ∧ t = { s with free := s.free + 1, regs := t.regs, ports := t.ports, chans := t.chans }) ∧
    (∀ n l, (s.chan ch).since ≠ none → (s.chan ch).notchAt = [(n, l)] →
      ∃ t, exec (.notchChangeApply ch) s = .next t ∧ (t.chan ch).notchAt = [] ∧
        (∀ i < 8, t.rdB F.FLT_NOTCH_PENDING (8 * ch.val + i) = false) ∧
        (∃ x ∈ (t.chan ch).spans, x.kind = .settle ∧ x.a = n ∧ x.raw = false) ∧
        (s.clk.running = true → t.clk.count = max s.clk.count n) ∧
        s.sameRegs t ((List.range 8).map fun i => F.FLT_NOTCH_FC.addr (8 * ch.val + i)) ∧
        t = { s with regs := t.regs, clk := t.clk, chans := t.chans })

/-- Filter chains and the channeliser (R38, R134, R135, R138 to R145): ORDER 3 is refused; a write that admission lets through
stores DECIM and ORDER and takes effect at a multiple of 8,192 at least 32 samples later; SWAP exchanges the coefficient banks
there; the change in effect gives the channel its DECIM, ORDER and bank. CHN_CTL.EN starts the channeliser at a frame boundary
and stops it; a SWAP waits for a frame boundary, where the two prototype banks exchange places; a frame that a producing channel
completes is recorded with its 4,096 powers, those of the bins that the prototype bank makes of its samples. -/
def Obligations.ChainsAndChanneliser : Prop :=
  ∀ (s : State) (p : Fin 10) (ch : Fin 64), s.Working →
    (∀ d : Fin 4, exec (.chainConfigWrite p ch d 3) s
      = .next (s.accepted p fun u => u.configFault (s.locUnit ch) (F.FLT_CHAIN + 4 * ch.val))) ∧
    (∀ (d o : Fin 4), o ≠ 3 → (d.val = s.rd F.FLT_CHAIN_DECIM ch ∨
        AdmitCfg.refusedBy { s.admitCfg with decims := s.admitCfg.decims.set ch d } s.clk.fs = none) →
      ∃ t, exec (.chainConfigWrite p ch d o) s = .next t ∧ t.rd F.FLT_CHAIN_DECIM ch = d ∧ t.rd F.FLT_CHAIN_ORDER ch = o ∧
        ((d.val ≠ s.rd F.FLT_CHAIN_DECIM ch ∨ o.val ≠ s.rd F.FLT_CHAIN_ORDER ch) → (s.chan ch).since ≠ none →
          (s.chan ch).chainAt = [] → ∃ n, (t.chan ch).chainAt = [(n, false, d.val, o.val)] ∧ n % 8192 = 0 ∧
            s.clk.count + 32 ≤ n ∧ t.rdB F.FLT_CHAIN_PENDING ch = true) ∧
        s.sameRegs t [F.FLT_CHAIN_DECIM.addr ch] ∧ t = { s with free := s.free + 1, regs := t.regs, ports := t.ports, chans := t.chans }) ∧
    (∀ (d o : Fin 4) q, o ≠ 3 → d.val ≠ s.rd F.FLT_CHAIN_DECIM ch →
      AdmitCfg.refusedBy { s.admitCfg with decims := s.admitCfg.decims.set ch d } s.clk.fs = some q →
      exec (.chainConfigWrite p ch d o) s = .next (s.accepted p fun u => u.admitFault q)) ∧
    (s.rd F.FLT_CHAIN_ORDER ch ≠ 3 → (s.chan ch).since ≠ none → (s.chan ch).chainAt = [] →
      ∃ t n, exec (.firBankSwap p ch) s = .next t ∧
        (t.chan ch).chainAt = [(n, true, s.rd F.FLT_CHAIN_DECIM ch, s.rd F.FLT_CHAIN_ORDER ch)] ∧ n % 8192 = 0 ∧
        s.clk.count + 32 ≤ n ∧ t.rdB F.FLT_CHAIN_PENDING ch = true ∧
        s.sameRegs t [F.FLT_CHAIN_DECIM.addr ch] ∧ t = { s with free := s.free + 1, regs := t.regs, ports := t.ports, chans := t.chans }) ∧
    (∀ n sw d o, (s.chan ch).since ≠ none → (s.chan ch).chainAt = [(n, sw, d, o)] →
      ∃ t, exec (.chainChangeApply ch) s = .next t ∧ (t.chan ch).decim = d ∧ (t.chan ch).order = o ∧
        (t.chan ch).chainAt = [] ∧ t.rdB F.FLT_CHAIN_PENDING ch = false ∧
        t.rd F.FLT_CHAIN_BANK ch = (if sw = true then 1 - s.rd F.FLT_CHAIN_BANK ch else s.rd F.FLT_CHAIN_BANK ch) ∧
        s.sameRegs t [F.FLT_CHAIN_DECIM.addr ch] ∧ t = { s with regs := t.regs, clk := t.clk, chans := t.chans }) ∧
    (∀ p en, exec (.chnEnWrite p en) s = .next (s.accepted p fun u => (u.wrB F.CHN_CTL_EN 0 en).chnSync)) ∧
    (s.rdB F.CHN_CTL_EN = true → s.stage < 2 → ∃ n, s.chnSync.chn.start = some n ∧
      (s.chn.start = none → n % 8192 = 0 ∧ s.clk.count ≤ n) ∧ (∀ k, s.chn.start = some k → n = k)) ∧
    (s.rdB F.CHN_CTL_EN = false ∨ 2 ≤ s.stage → s.chnSync.chn.start = none) ∧
    (∀ p, ∃ t n, exec (.prototypeSwap p) s = .next t ∧ t.chn.swapAt = some n ∧ t.rdB F.CHN_CTL_SWAP_PENDING = true ∧
      (s.chn.swapAt = none → n % 8192 = 0 ∧ s.clk.count + 32 ≤ n ∧ n < s.clk.count + 32 + 8192) ∧
      s.sameRegs t (F.CHN_CTL :: (List.range 64).map F.WCH_CHAN_K.addr) ∧ t = { s with free := s.free + 1, regs := t.regs, ports := t.ports, chn := t.chn }) ∧
    (∀ n, s.chn.swapAt = some n →
      ∃ t, exec .prototypeSwapApply s = .next t ∧ t.chn = { s.chn with swapAt := none, swapped := some n } ∧
        t.rd F.CHN_CTL_BANK = 1 - s.rd F.CHN_CTL_BANK ∧ t.rdB F.CHN_CTL_SWAP_PENDING = false ∧
        (∀ a, F.CHN_COEF ≤ a → a < F.CHN_COEF + 65536 → t.regGet a = s.bankGet a ∧ t.bankGet a = s.regGet a) ∧
        (∀ a, a ≠ F.CHN_CTL → a < F.CHN_COEF ∨ F.CHN_COEF + 65536 ≤ a → t.regGet a = s.regGet a) ∧ t = { s with regs := t.regs, banks := t.banks, clk := t.clk, chn := t.chn }) ∧
    (∀ m ups a b, s.producing ch = true → (s.chan ch).since = some a → a ≤ 8192 * m → s.chn.start = some b →
      b ≤ 8192 * m → (∀ x ∈ s.chn.records, x.ch ≠ ch.val) → (s.wchan ch).last = none →
      (∃ y ∈ (s.chan ch).recent, y.n = 8192 * m + 8128) →
      ∃ t x, exec (.spectrumFrame ch m ups) s = .next t ∧ t.chn = { s.chn with records := s.chn.records ++ [x] } ∧
        x.ch = ch.val ∧ x.m = m ∧ x.power.length = 4096 ∧ (∀ q ∈ x.power, -32768 ≤ q ∧ q ≤ 32767) ∧
        (∃ off : Int, x.power = (List.range 4096).map fun k =>
          binPower ((s.frameBins ch m ups).getD (if s.secondZone ch = true then 4096 - k else k) (-65536) + off)) ∧
        (s.clk.running = true → t.clk.count = max s.clk.count (8192 * m + 8192)) ∧
        s.sameMain t [F.CHN_FRAME_LO, F.CHN_FRAME_HI] ∧ t = { s with free := s.free + 1, regs := t.regs, clk := t.clk, chn := t.chn, wch := t.wch })

/-- Watch cells and masks (R151 to R167): a new K puts the channel into PRIMING at its next frame; SEG_SWAP and MASK_SWAP wait for
their frame boundary, where valid shadow tables become the active ones and invalid ones are refused; the records of the
oldest frame reach cells and masks; the storage sweep counts a corrected bit and rewrites an uncorrectable cell to 0. -/
def Obligations.WatchCells : Prop :=
  ∀ (s : State), s.Working →
    (∀ (p : Fin 10) (ch : Fin 64) (k : Fin 32), clampNat 4 16 k ≠ s.rd F.WCH_CHAN_K ch → s.wch.chans.length = 64 →
      ∃ t, exec (.kChange p ch k) s = .next t ∧ t.rd F.WCH_CHAN_K ch = clampNat 4 16 k ∧ (t.wchan ch).reprime = true ∧
        (∀ c : Fin 64, c ≠ ch → t.wchan c = s.wchan c) ∧
        s.sameRegs t [F.WCH_CHAN_K.addr ch] ∧ t = { s with free := s.free + 1, regs := t.regs, ports := t.ports, wch := t.wch }) ∧
    (∀ p, ∃ t n, exec (.segSwap p) s = .next t ∧ t.wch.segAt = some n ∧ t.rdB F.WCH_CTL_SWAP_PENDING = true ∧
      s.sameRegs t (F.WCH_CTL :: (List.range 64).map F.WCH_CHAN_K.addr) ∧ t = { s with free := s.free + 1, regs := t.regs, ports := t.ports, wch := t.wch }) ∧
    (s.wch.segAt = none → s.doSegSwap.wch.segAt = some (boundaryAfter 8192 s.clk.count)) ∧
    (∀ n, s.wch.segAt = some n → s.doSegSwap.wch.segAt = some n) ∧
    (∀ p, ∃ t n, exec (.maskSwap p) s = .next t ∧ t.wch.maskAt = some n ∧ t.rdB F.WCH_CTL_SWAP_PENDING = true ∧
      s.sameRegs t (F.WCH_CTL :: (List.range 64).map F.WCH_CHAN_K.addr) ∧ t = { s with free := s.free + 1, regs := t.regs, ports := t.ports, wch := t.wch }) ∧
    (s.wch.maskAt = none → s.doMaskSwap.wch.maskAt = some (boundaryAfter 8192 s.clk.count)) ∧
    (∀ n, s.wch.maskAt = some n → s.doMaskSwap.wch.maskAt = some n) ∧
    (∀ n, s.wch.segAt = some n → s.chn.records = [] →
      ∃ t, exec .segSwapApply s = .next t ∧ t.wch.segAt = none ∧
        ((∀ ch ∈ allChans, s.shadowSegmentsOk ch = true) → t.rd F.WCH_CTL_SEG_BANK = 1 - s.rd F.WCH_CTL_SEG_BANK ∧
          ∀ a, F.WCH_SEG ≤ a → a < F.WCH_SEG + 8192 → t.regGet a = s.bankGet a ∧ t.bankGet a = s.regGet a) ∧
        ((∃ ch ∈ allChans, s.shadowSegmentsOk ch = false) → t.banks = s.banks ∧ s.sameMain t [F.WCH_CTL]) ∧
        t = { s with free := t.free, regs := t.regs, banks := t.banks, clk := t.clk, tim := t.tim, que := t.que, fau := t.fau, wch := t.wch }) ∧
    (∀ n, s.wch.maskAt = some n → s.chn.records = [] →
      ∃ t, exec .maskSwapApply s = .next t ∧ t.wch.maskAt = none ∧
        ((∀ i < 16, s.shadowMaskOk i = true) → (∀ x ∈ s.wch.runs, x.viol = false) → ∀ a, F.WCH_MASK_TABLE ≤ a → a < F.WCH_MASK_TABLE + 16384 →
          t.bankGet a = s.regGet a) ∧
        ((∃ i < 16, s.shadowMaskOk i = false) → t.banks = s.banks ∧ s.sameMain t [F.WCH_CTL]) ∧
        t = { s with free := t.free, regs := t.regs, banks := t.banks, clk := t.clk, tim := t.tim, que := t.que, fau := t.fau, chans := t.chans, wch := t.wch }) ∧
    (∀ x, s.chn.records = [x] → s.wch.segAt = none → s.wch.maskAt = none →
      ∃ t, exec .frameRecord s = .next t ∧ t.chn = { s.chn with records := [] } ∧
        (∃ j, t.wch.tokenFrame = some j ∧ x.m + 1 ≤ j) ∧
        s.sameMain t [F.WCH_CHAN_K.addr x.ch, F.WCH_MASK_ACTIVE_VIOL.addr x.ch, F.WCH_EVT_STAT, F.WCH_EVT_DROPPED] ∧
        t = { s with free := t.free, regs := t.regs, tim := t.tim, que := t.que, fau := t.fau, chans := t.chans, chn := t.chn, wch := t.wch, trg := t.trg }) ∧
    (∀ (ch : Fin 64) (sub : Fin 4096) errors, tableWf (fun _ => 0) s.wch.cells = true →
      (errors = 1 → ∃ t, exec (.eccSweep ch sub errors) s = .next t ∧ t.wch = s.wch ∧
        t.fau = { s.fau with corrSecond := s.fau.corrSecond + 1 } ∧ s.sameMain t [] ∧ t = { s with regs := t.regs, fau := t.fau }) ∧
      (2 ≤ errors → ∃ t, exec (.eccSweep ch sub errors) s = .next t ∧ t.cell ch sub = 0 ∧
        (∀ c u, 4096 * c + u ≠ 4096 * ch.val + sub.val → t.cell c u = s.cell c u) ∧
        s.sameMain t [F.WCH_CHAN_K.addr ch] ∧ t = { s with free := t.free, regs := t.regs, fau := t.fau, wch := t.wch }))

/-- Sources of cues (R173 to R175, R178): once an estimation window's samples are in, its end takes the means of what entered it,
for the samples after it; the first sample at or above the threshold fires: it proposes the interpolated peak of its 16 samples and
starts the dead time, and one below the threshold, in dead time or not the first does nothing;
an accepted edge of a trigger input proposes its time less DELAY, and one within 100 ns of it is ignored; a write of FIRE
proposes the present count. -/
def Obligations.CueSources : Prop :=
  ∀ (s : State), s.Working →
    (∀ (ch : Fin 64) (d : Det), d = (s.chan ch).det →
      (d.stop ≤ d.summed → ∃ t, exec (.detectorWindowEnd ch) s = .next t ∧
        t.chan ch = { s.chan ch with det := { d with
          dcOld := d.dc, noiseOld := d.noise, from_ := d.stop, stop := (d.summed / 65536 + 1) * 65536
          dc := if 2 ^ 15 ≤ d.nX then rhe (64 * d.sumX) d.nX else d.dc
          noise := if 2 ^ 15 ≤ d.nE then (rhe d.sumE (d.nE * 2 ^ 32)).toNat else d.noise
          sumX := 0, nX := 0, sumE := 0, nE := 0 } } ∧
        (∀ q : Fin 64, q ≠ ch → t.chan q = s.chan q) ∧ t = { s with chans := t.chans }) ∧
      (d.summed < d.stop → exec (.detectorWindowEnd ch) s = .next s)) ∧
    (∀ (ch : Fin 64) (n a : Nat) (c : Chan), c = s.chan ch → s.rdB F.TRG_DET_EN ch = true → s.producing ch = true →
      c.det.start = some a → a ≤ n → c.det.dead ≤ n → c.skips n = false → s.threshold ch n ≤ c.envAt n →
      (∀ k, a ≤ k → c.det.dead ≤ k → k < n → s.aboveAt ch k = false) →
      (c.sampleAt n).isSome = true → (c.sampleAt (n + 23)).isSome = true →
      ∃ t x np, exec (.impulseDetectorFire ch n) s = .next t ∧ n ≤ np ∧ np < n + 16 ∧
        (∀ k, n ≤ k → k < n + 16 → c.skips k = false → c.envAt k ≤ c.envAt np) ∧
        t.trg.proposals = s.trg.proposals ++ [x] ∧ x.bit = 0 ∧ x.units = 2 ^ ch.val ∧ x.loc = s.locUnit ch ∧
        (x.c, x.frac) = interpolate np (c.envAt (np - 1)) (c.envAt np) (c.envAt (np + 1)) ∧
        t.chan ch = { c with det := { c.det with dead := np + 64 * s.rd F.TRG_DET_HOLDOFF ch } } ∧
        t = { s with chans := t.chans, trg := t.trg }) ∧
    (∀ (ch : Fin 64) n, s.rdB F.TRG_DET_EN ch = false ∨ n < (s.chan ch).det.dead ∨ (s.chan ch).envAt n < s.threshold ch n →
      exec (.impulseDetectorFire ch n) s = .next s) ∧
    (∀ (ch : Fin 64) (n a k : Nat), (s.chan ch).det.start = some a → a ≤ k → (s.chan ch).det.dead ≤ k → k < n →
      s.aboveAt ch k = true → (∃ b ∈ (s.chan ch).recent.getLast?, b.n ≤ k) → exec (.impulseDetectorFire ch n) s = .next s) ∧
    (∀ (n : Fin 2) (k : Nat) (phi : Fin 64), s.trg.edges.length = 2 → s.rdB F.TRG_EXT_EN n = true → s.clk.running = true →
      (s.trg.edges.getD n none = none →
        ∃ t c, exec (.triggerInputEdge n k phi (s.rdB F.TRG_EXT_EDGE n)) s = .next t ∧
          c = ((k * 64 + phi.val : Nat) - s.rdS F.TRG_EXT_DELAY n).toNat ∧
          t.trg = { s.trg with edges := s.trg.edges.set n (some (k * 64 + phi.val : Nat)),
                               proposals := s.trg.proposals ++ [{ bit := 3 + n.val, c := c / 64, frac := c % 64, loc := s.locCx }] } ∧
          s.reached t k ∧ t = { s with clk := t.clk, trg := t.trg }) ∧
      (∀ a, s.trg.edges.getD n none = some a → ((k * 64 + phi.val : Nat) - a) * 1000000000 < 64 * 100 * s.clk.fs →
        ∃ t, exec (.triggerInputEdge n k phi (s.rdB F.TRG_EXT_EDGE n)) s = .next t ∧
          t.trg = { s.trg with ignored := s.trg.ignored.modify n.val (· + 1) } ∧ s.reached t k ∧
          t = { s with clk := t.clk, trg := t.trg })) ∧
    (∀ (n : Fin 2) k phi falling, s.rdB F.TRG_EXT_EN n = false ∨ s.rdB F.TRG_EXT_EDGE n ≠ falling →
      exec (.triggerInputEdge n k phi falling) s = .next s) ∧
    (∀ p, exec (.softwareCue p) s
      = .next (s.accepted p fun u => u.propose { bit := 6, c := s.clk.count, frac := 0, loc := s.locCx }))

/-- A proposal at the cue engine (R180, R189, R202): nothing is taken with EN 0; a proposal that does not pass the prescaler
is counted; one whose channels' ring holds it opens a cue with the next CUE_ID, the scope's channels and its source's
window; with the ring frozen it is blind. -/
def Obligations.CueEngine : Prop :=
  ∀ (s : State) (i : Nat) (x : Proposal) (n set : Nat), s.Working → s.trg.sources.length = 9 → (∀ l ∈ s.trg.firings, l = []) →
    s.trg.proposals[i]? = some x → x.bit < 9 → n = (s.trg.sources.getD x.bit {}).pcount + 1 → set = s.scopeSet x &&& s.trg.map →
    (s.rdB F.TRG_CTL_EN = false ∨ s.trg.running = false →
      exec (.cueProposal i) s = .next { s with trg := { s.trg with proposals := s.trg.proposals.eraseIdx i } }) ∧
    (s.rdB F.TRG_CTL_EN = true → s.trg.running = true →
      (n % 2 ^ s.rd F.TRG_SRC_STAT_K x.bit ≠ 0 →
        ∃ t, exec (.cueProposal i) s = .next t ∧
          t.rd F.TRG_SRC_STAT_NOT_PASSED x.bit = min (2 ^ F.TRG_SRC_STAT_NOT_PASSED.width - 1) (s.rd F.TRG_SRC_STAT_NOT_PASSED x.bit + 1) ∧
          (t.trg.sources.getD x.bit {}).pcount = n ∧ t.trg.cues = s.trg.cues ∧ t.trg.nextId = s.trg.nextId ∧
          s.sameMain t [F.TRG_SRC_STAT + 16 * x.bit] ∧ t = { s with regs := t.regs, trg := t.trg }) ∧
      (n % 2 ^ s.rd F.TRG_SRC_STAT_K x.bit = 0 → (s.ringState = ringFrozen ∨ s.ringState = ringRearming) →
        ∃ t, exec (.cueProposal i) s = .next t ∧ t.trg.cues = s.trg.cues ∧ t.trg.blindRun = s.trg.blindRun + 1 ∧
          t.trg.lastBlind = true ∧ t.rd F.TRG_BLIND_TOTAL_COUNT = min (2 ^ 32 - 1) (s.rd F.TRG_BLIND_TOTAL_COUNT + 1) ∧
          s.sameMain t [F.TRG_BLIND_TOTAL, F.TRG_EVT] ∧
          t = { s with regs := t.regs, tim := t.tim, que := t.que, trg := t.trg }) ∧
      (n % 2 ^ s.rd F.TRG_SRC_STAT_K x.bit = 0 → s.ringState = ringArmed → (∃ ch ∈ mapChans set, s.vOf ch ≤ x.c) →
        (∀ q ∈ s.trg.cues, q.c ≠ x.c) → x.stop = false →
        ∃ t q, exec (.cueProposal i) s = .next t ∧ t.trg.cues = s.trg.cues ++ [q] ∧ q.c = x.c ∧ q.frac = x.frac ∧
          q.id = s.trg.nextId ∧ q.conds = 2 ^ x.bit ∧ q.set = set ∧ q.loc = x.loc ∧
          q.pre = 64 * s.rd F.TRG_SRC_WIN_PRE_BLK x.bit ∧ q.post = 64 * s.rd F.TRG_SRC_WIN_POST_BLK x.bit ∧
          q.record = s.rdB F.TRG_SRC_CFG_REC_EN x.bit ∧ q.snip = s.rdB F.TRG_SRC_CFG_SNIP_EN x.bit ∧
          t.trg.nextId = (if s.trg.nextId = 2 ^ 24 - 1 then 1 else s.trg.nextId + 1) ∧ t.trg.lastBlind = false ∧
          (∀ ch : Fin 64, (t.chan ch).cue = if set.testBit ch then s.clk.count :: (s.chan ch).cue else (s.chan ch).cue) ∧
          s.sameMain t [] ∧ t = { s with regs := t.regs, chans := t.chans, trg := t.trg }) ∧
      (n % 2 ^ s.rd F.TRG_SRC_STAT_K x.bit = 0 → s.ringState = ringArmed → (∃ ch ∈ mapChans set, s.vOf ch ≤ x.c) → x.stop = true →
        ∃ t z, exec (.cueProposal i) s = .next t ∧ t.ringState = ringPending ∧ t.trg.z = some z ∧ z % 64 = 0 ∧
          s.sameMain t [F.TRG_CTL] ∧ t = { s with regs := t.regs, chans := t.chans, trg := t.trg }))

/-- The close of a cue, the end of the trigger output's pulse, and a budget interval (R181, R185, R187, R189): the open cue of
the lowest count closes 32,768 samples after it, and with SNIP_EN, channels and a free place it becomes a snippet job of
its window; each interval moves the prescaler exponents by its rule. -/
def Obligations.CueClose : Prop :=
  ∀ (s : State), s.Working →
    (∀ q ∈ s.trg.cues, (∀ y ∈ s.trg.cues, y ≠ q → q.c < y.c) →
      ∃ t, exec (.cueClose) s = .next t ∧ t.trg.cues = s.trg.cues.erase q ∧ s.reached t (q.c + 32768) ∧
        (q.snip = false ∨ q.set = 0 ∨ 64 ≤ s.trg.jobs.length → t.trg.jobs = s.trg.jobs) ∧
        (q.snip = true → q.set ≠ 0 → s.trg.jobs.length < 64 →
          ∃ j, t.trg.jobs = s.trg.jobs ++ [j] ∧ j.id = q.id ∧ j.set = q.set ∧ j.conds = q.conds ∧ j.running = false ∧
            j.start = max ((q.c - q.pre) / 64 * 64) (s.vMax (mapChans q.set)) ∧
            (s.trg.z = none → j.stop = nextMultiple 64 (q.c + q.post)) ∧
            (∀ z, s.trg.z = some z → j.stop = min (nextMultiple 64 (q.c + q.post)) z) ∧
            (j.start ≤ q.c → j.preActual = q.c - j.start) ∧ t.rd F.TRG_SNIP_STAT_JOBS = s.trg.jobs.length + 1) ∧
        s.sameMain t [F.TRG_EVT2, F.TRG_SNIP_STAT, F.TRG_RO_STAT] ∧
        t = { s with free := t.free, regs := t.regs, clk := t.clk, tim := t.tim, que := t.que, trg := t.trg }) ∧
    (s.trg.cues = [] → exec (.cueClose) s = .next s) ∧
    (∀ n, s.trg.outUntil = some n →
      ∃ t, exec (.trigOutEnd) s = .next t ∧ t.trg = { s.trg with outUntil := none } ∧ s.reached t n ∧
        t = { s with clk := t.clk, trg := t.trg }) ∧
    (s.trg.outUntil = none → exec (.trigOutEnd) s = .next s) ∧
    (s.clk.running = true → s.trg.sources.length = 9 →
      ∃ t, exec (.budgetIntervalEnd) s = .next t ∧ t.clk.count = max s.clk.count s.trg.budgetNext ∧
        t.trg.budgetNext = s.trg.budgetNext + (rhe s.clk.fs 1000).toNat ∧
        (∀ i ∈ [0, 1, 2, 3, 4, 6, 7], ∀ (x : Source) (b k : Nat), x = s.trg.sources.getD i {} →
          b = s.rd F.TRG_SRC_BUDGET_BYTES_PER_S i → k = s.rd F.TRG_SRC_STAT_K i →
          (b = 0 → t.rd F.TRG_SRC_STAT_K i = k) ∧
          (0 < b → b / 1000 < x.charge → t.rd F.TRG_SRC_STAT_K i = min 15 (k + 1)) ∧
          (0 < b → x.charge ≤ b / 1000 / 2 → x.quiet + 1 = s.rd F.TRG_RATE_CFG_QUIET_N → t.rd F.TRG_SRC_STAT_K i = k - 1) ∧
          (0 < b → b / 1000 / 2 < x.charge → x.charge ≤ b / 1000 → t.rd F.TRG_SRC_STAT_K i = k) ∧
          (t.trg.sources.getD i {}).charge = 0) ∧
        s.sameMain t ((List.range 9).map fun i => F.TRG_SRC_STAT + 16 * i) ∧
        t = { s with regs := t.regs, clk := t.clk, tim := t.tim, que := t.que, trg := t.trg }) ∧
    (s.clk.running = false → exec (.budgetIntervalEnd) s = .next s)

/-- Snippets and readouts (R32, R187, R188, R190, R195 to R198, R200): the read port's next burst goes to the next place of the
round 4 : 3 : 1 whose share has data, and to that share alone (the order of the round is the model's choice, log entry 83); the
waiting job with the earliest end begins once its last count has been written, and its header enters class 3; a job whose window
has been read leaves the table; a duplicate request within 1 ms is only counted; one that is declined adds no readout and is
answered with its reason, one that is accepted adds a readout of its window and channels, whose status tells whether all of it was
there; a readout whose window has been read completes. -/
def Obligations.SnippetsAndReadouts : Prop :=
  ∀ (s : State), s.Working →
    (∀ i < 8, s.skipAll = s → s.shareReady (shareOf (s.trg.port.slot + i)) = true →
      (∀ j < i, s.shareReady (shareOf (s.trg.port.slot + j)) = false) →
      ∃ t, s.portStep = some t ∧ t.trg.port.slot = (s.trg.port.slot + i + 1) % 8 ∧ t.trg.port.n = s.trg.port.n + 1 ∧
        (shareOf (s.trg.port.slot + i) ≠ 0 → t.trg.readouts = s.trg.readouts) ∧
        (shareOf (s.trg.port.slot + i) ≠ 1 → t.trg.jobs = s.trg.jobs) ∧
        (shareOf (s.trg.port.slot + i) ≠ 2 → t.codec = s.codec)) ∧
    (∀ j ∈ s.trg.jobs, j.running = false → (∀ x ∈ s.trg.jobs, x.running = false → x ≠ j → j.stop < x.stop) →
      (∀ ch ∈ mapChans j.set, s.avail ch (j.stop / 64 - 1) ≠ .later) →
      ∃ t, exec (.snippetExtractStart) s = .next t ∧
        t.trg = { s.runPort.trg with jobs := s.runPort.trg.jobs.map fun x =>
          if x = j then { j with running := true, rd := { at_ := firstPlace j.set j.start j.stop } } else x } ∧
        t.codec = s.runPort.codec ∧
        ((s.queue 3).blocked = [] → (s.queue 3).fill + 6 ≤ queueCap 3 →
          ∃ x, (t.queue 3).waiting = (s.queue 3).waiting ++ [x] ∧ x.words = packetWords (s.snipHeader j)) ∧
        s.sameMain t [] ∧ t = { s with regs := t.regs, tim := t.tim, que := t.que, trg := t.trg, codec := t.codec }) ∧
    ((∀ j ∈ s.trg.jobs, j.running = true) → exec (.snippetExtractStart) s = .next s) ∧
    (∀ (id : BitVec 32) size flips bad u, u = s.readSnippet id.toNat →
      (∀ j, u.snippetOf id.toNat = some j → j.rd.at_ = none → s.trg.jobs.length ≤ 64 →
        ∃ t, exec (.snippetComplete id size flips bad) s = .next t ∧ t.trg = { u.trg with jobs := u.trg.jobs.erase j } ∧
          t.codec = u.codec ∧ t.clk = u.clk ∧ t.rd F.TRG_SNIP_STAT_JOBS = s.trg.jobs.length - 1 ∧
          s.sameMain t [F.CDC_VERIFY, F.CDC_VERIFY_TOTAL, F.TRG_EVT2, F.TRG_SNIP_STAT, F.TRG_RO_STAT] ∧
          t = { s with free := t.free, regs := t.regs, clk := t.clk, tim := t.tim, que := t.que, fau := t.fau, trg := t.trg
                       codec := t.codec }) ∧
      (u.snippetOf id.toNat = none → exec (.snippetComplete id size flips bad) s = .next s) ∧
      (∀ j, u.snippetOf id.toNat = some j → j.rd.at_ ≠ none → exec (.snippetComplete id size flips bad) s = .next s)) ∧
    (∀ (req len : BitVec 32) (at_ : BitVec 48) (map : BitVec 64) (first stop : Nat),
      first = s.countAt (s.nearTime at_.toNat) / 64 * 64 →
      stop = nextMultiple 64 (s.countAt (s.nearTime at_.toNat + len.toNat * 65536)) →
      (∀ c, (req.toNat, c) ∈ s.trg.served → s.clk.count < c + s.samplesUs 1000 →
        ∃ t, exec (.readoutRequest req len at_ map) s = .next t ∧
          t.rd F.TRG_RO_STAT_DUPLICATES = min (2 ^ 16 - 1) (s.rd F.TRG_RO_STAT_DUPLICATES + 1) ∧
          s.sameRegs t [F.TRG_RO_STAT] ∧ t = { s with regs := t.regs }) ∧
      ((∀ c, (req.toNat, c) ∈ s.trg.served → c + s.samplesUs 1000 ≤ s.clk.count) →
        (∀ n, s.declineReason len.toNat map.toNat first = n → n ≠ 0 →
          ∃ t, exec (.readoutRequest req len at_ map) s = .next t ∧ t.trg.readouts = s.trg.readouts ∧ s.sameMain t [] ∧
            ((s.queue 2).blocked = [] → (s.queue 2).fill + 5 ≤ queueCap 2 →
              ∃ x, (t.queue 2).waiting = (s.queue 2).waiting ++ [x] ∧
                x.words = packetWords [word64 [(56, 0x15), (52, 5), (48, 3), (44, n), (0, req.toNat)], 0, 0, 0, 0]) ∧
            t = { s with regs := t.regs, tim := t.tim, que := t.que, trg := t.trg }) ∧
        (s.declineReason len.toNat map.toNat first = 0 → s.ringState = ringArmed → ∀ f,
          f = firstCount s.clk.fs (mapChans (map.toNat &&& s.trg.map)).length (s.vMax (mapChans (map.toNat &&& s.trg.map))) first
            stop (s.rd F.TRG_RO_CFG_GUARD_NS) s.readAhead →
          ∃ t, exec (.readoutRequest req len at_ map) s = .next t ∧
            (stop ≤ f → t.trg.readouts = s.trg.readouts) ∧
            (f < stop → ∃ l r, t.trg.readouts = l ++ [r] ∧
              (l.map fun x => { x with rd := {} }) = (s.trg.readouts.map fun x => { x with rd := {} }) ∧
              r.req = req.toNat ∧ r.first = f ∧ r.stop = stop ∧ r.map = map.toNat &&& s.trg.map ∧ r.first % 64 = 0 ∧
              r.absent = ((mapChans r.map).map fun ch => s.lacks ch f stop).sum ∧
              (r.status = 0 ↔ f = first ∧ r.map = map.toNat ∧ r.absent = 0) ∧ r.rd = { at_ := firstPlace r.map f stop } ∧
              t.rd F.TRG_RO_STAT_ACTIVE = s.trg.readouts.length + 1) ∧
            s.sameMain t [F.TRG_SNIP_STAT, F.TRG_RO_STAT] ∧
            t = { s with regs := t.regs, tim := t.tim, que := t.que, trg := t.trg, codec := t.codec }))) ∧
    (∀ (req : BitVec 32) size flips bad u, u = s.readReadout req.toNat →
      (∀ r, u.readoutOf req.toNat = some r → r.rd.at_ = none → s.trg.readouts.length ≤ 8 →
        ∃ t, exec (.readoutComplete req size flips bad) s = .next t ∧ t.trg = { u.trg with readouts := u.trg.readouts.erase r } ∧
          t.codec = u.codec ∧ t.clk = u.clk ∧ t.rd F.TRG_RO_STAT_ACTIVE = s.trg.readouts.length - 1 ∧
          s.sameMain t [F.CDC_VERIFY, F.CDC_VERIFY_TOTAL, F.TRG_SNIP_STAT, F.TRG_RO_STAT] ∧
          t = { s with free := t.free, regs := t.regs, clk := t.clk, tim := t.tim, que := t.que, fau := t.fau, trg := t.trg
                       codec := t.codec }) ∧
      (u.readoutOf req.toNat = none → exec (.readoutComplete req size flips bad) s = .next s) ∧
      (∀ r, u.readoutOf req.toNat = some r → r.rd.at_ ≠ none → exec (.readoutComplete req size flips bad) s = .next s))

/-- Freeze and re-arm (R191, R193, R194): a FREEZE in ARMED makes the ring FREEZE_PENDING with Z a multiple of 64 at least 32
samples later; at Z it is FROZEN and TRG_FREEZE holds Z; REARM cuts the running codec job's source and leads through REARMING,
in which the log is cleared once readouts and jobs are done, to ARMED at R with every channel written anew from R. -/
def Obligations.FreezeAndRearm : Prop :=
  ∀ (s : State), s.Working →
    (∀ p, s.ringState = ringArmed → s.trg.running = true →
      ∃ t z, exec (.freeze p) s = .next t ∧ t.ringState = ringPending ∧ t.trg = { s.trg with z := some z } ∧ z % 64 = 0 ∧
        s.clk.count + 32 ≤ z ∧ z < s.clk.count + 96 ∧ s.sameRegs t [F.TRG_CTL] ∧ t.rdB F.TRG_CTL_EN = s.rdB F.TRG_CTL_EN ∧
        t = { s with free := s.free + 1, regs := t.regs, ports := t.ports, trg := t.trg }) ∧
    (∀ p, s.ringState ≠ ringArmed →
      ∃ t, exec (.freeze p) s = .next t ∧ t.ringState = s.ringState ∧ t.trg = s.trg ∧ s.sameRegs t [] ∧
        t = { s with free := s.free + 1, regs := t.regs, ports := t.ports }) ∧
    (∀ z, s.trg.z = some z → s.ringState = ringPending →
      ∃ t, exec (.freezeStop) s = .next t ∧ t.ringState = ringFrozen ∧ s.reached t z ∧ t.trg = { s.trg with blindRun := 0 } ∧
        t.rd F.TRG_FREEZE_LO_COUNT + 2 ^ 32 * t.rd F.TRG_FREEZE_HI_COUNT = z % 2 ^ 64 ∧
        s.sameMain t [F.TRG_CTL, F.TRG_EVT, F.TRG_FREEZE_LO, F.TRG_FREEZE_HI] ∧
        t = { s with regs := t.regs, clk := t.clk, tim := t.tim, que := t.que, trg := t.trg }) ∧
    (s.ringState ≠ ringPending → exec (.freezeStop) s = .next s) ∧
    (∀ p, s.ringState = ringFrozen →
      ∃ t, exec (.rearm p) s = .next t ∧ t.ringState = ringRearming ∧ s.sameRegs t [F.TRG_CTL] ∧
        t.trg = { s.trg with readouts := t.trg.readouts, jobs := t.trg.jobs, port := t.trg.port } ∧
        (∀ j ∈ t.codec, j.running = true → j.cut = true) ∧
        t = { s with free := t.free, regs := t.regs, ports := t.ports, trg := t.trg, codec := t.codec }) ∧
    (∀ p, s.ringState ≠ ringFrozen →
      ∃ t, exec (.rearm p) s = .next t ∧ t.ringState = s.ringState ∧ s.sameRegs t [] ∧
        t = { s with free := s.free + 1, regs := t.regs, ports := t.ports }) ∧
    (∀ ns, s.ringState = ringRearming → s.trg.readouts = [] → s.trg.jobs = [] → s.trg.r = none →
      ∃ t r, exec (.rearmLogClear ns) s = .next t ∧ t.trg = { s.trg with alog := [], r := some r } ∧ r % 1024 = 0 ∧
        t.clk.count + 32 ≤ r ∧ r < t.clk.count + 1056 ∧
        (∀ ch : Fin 64, t.chan ch = { s.chan ch with log := [], logNo := 0, attr := none }) ∧
        t = { s with clk := t.clk, chans := t.chans, trg := t.trg }) ∧
    (∀ ns, s.trg.readouts ≠ [] ∨ s.trg.jobs ≠ [] → exec (.rearmLogClear ns) s = .next s) ∧
    (∀ r, s.trg.r = some r → s.ringState = ringRearming →
      ∃ t, exec (.rearmResume) s = .next t ∧ t.ringState = ringArmed ∧
        t.trg = { s.trg with restart := r, r := none, z := none, readouts := t.trg.readouts, jobs := t.trg.jobs
                             port := t.trg.port } ∧
        s.reached t r ∧ (∀ ch : Fin 64, t.chan ch = { s.chan ch with w := r, log := [], logNo := 0, attr := none, gaps := [] }) ∧
        s.sameMain t [F.TRG_CTL] ∧
        t = { s with free := t.free, regs := t.regs, clk := t.clk, tim := t.tim, que := t.que, chans := t.chans, trg := t.trg,
                     codec := t.codec })

/-- Stream packets and modes (R210 to R212, R232, R236): a packet whose samples were taken is stored whole in its sub-queue
when its space was reserved, once its last block has left the encoder, and not before one of its group that is complete earlier; an APPLY that admission refuses sets REFUSED with the path, one it accepts waits; it takes
effect at the channel's packet boundary. -/
def Obligations.StreamPackets : Prop :=
  ∀ (s : State), s.Working →
    (∀ (ch : Fin 64) (n0 span words : Nat) flips bad, span = 1024 * 2 ^ ((s.chan ch).chainAtCount n0).1 →
      packetLen ((s.chan ch).modeAt n0) ≠ 0 → n0 % span = 0 → (s.chan ch).took n0 (n0 + span) = true →
      (∀ m, (s.chan ch).sent = some m → m < n0) →
      (s.queue (4 + ch.val / 8)).progress.find? (fun p => p.1 == ch.val && p.2.1 == n0) = some (ch.val, n0, words) → words ≠ 0 →
      (ch.val, n0) ∉ (s.queue (4 + ch.val / 8)).flushSet → (s.chan ch).roadFull n0 span = true → s.packetBefore ch n0 = false →
      ∃ t x w, exec (.streamPacketComplete ch n0 flips bad) s = .next t ∧
        (t.queue (4 + ch.val / 8)).waiting = (s.queue (4 + ch.val / 8)).waiting ++ [x] ∧ x.ch = ch.val ∧ x.n0 = n0 ∧
        x.words = packetWords (streamHeader ch ((s.chan ch).chainAtCount n0).1 ((s.chan ch).modeAt n0) n0 :: w) ∧
        (t.chan ch).sent = some n0 ∧ (∀ q : Fin 64, q ≠ ch → t.chan q = s.chan q) ∧ s.reached t (max (n0 + span) (s.leaves ch n0 15)) ∧
        s.sameMain t [F.CDC_VERIFY, F.CDC_VERIFY_TOTAL] ∧
        t = { s with free := t.free, regs := t.regs, clk := t.clk, tim := t.tim, que := t.que, fau := t.fau, chans := t.chans,
                     pmc := t.pmc }) ∧
    (∀ (ch : Fin 64) n0 flips bad, packetLen ((s.chan ch).modeAt n0) = 0 ∨ s.packetBefore ch n0 = true →
      exec (.streamPacketComplete ch n0 flips bad) s = .next s) ∧
    (∀ p, s.stagedRefused = none →
      ∃ t, exec (.streamApply p) s = .next t ∧ t.rdB F.CDC_STREAM_STAT_APPLY_PENDING = true ∧
        t.rdB F.CDC_STREAM_STAT_REFUSED = false ∧ t.stream = { s.stream with
          pend := some (s.stagedModes, s.rdB F.CDC_STREAM_CTL_EN, s.clk.count + 32, 0xFFFFFFFFFFFFFFFF) } ∧
        s.sameRegs t [F.CDC_STREAM_STAT] ∧
        t = { s with free := s.free + 1, regs := t.regs, ports := t.ports, stream := t.stream }) ∧
    (∀ p path, s.stagedRefused = some path → path < 4 →
      ∃ t, exec (.streamApply p) s = .next t ∧ t.rdB F.CDC_STREAM_STAT_REFUSED = true ∧
        t.rd F.CDC_STREAM_STAT_REFUSED_PATH = path ∧ s.sameMain t [F.CDC_STREAM_STAT] ∧
        t = { s with free := t.free, regs := t.regs, ports := t.ports, fau := t.fau }) ∧
    (∀ (ch : Fin 64) modes en least, s.stream.pend = some (modes, en, least, 2 ^ ch.val) → modes.getD ch 0 < 16 →
      ∃ t, exec (.streamApplyTakeEffect) s = .next t ∧ t.rd F.CDC_STREAM_MODE_ACTIVE ch = modes.getD ch 0 ∧
        t.rdB F.CDC_STREAM_CTL_EN_ACTIVE = en ∧ t.rdB F.CDC_STREAM_STAT_APPLY_PENDING = false ∧ t.stream.pend = none ∧
        t.stream.on.testBit ch = en ∧ s.reached t (nextMultiple (1024 * s.decimOf ch) least) ∧
        (∀ q : Fin 64, q ≠ ch → t.chan q = s.chan q) ∧
        s.sameMain t [F.CDC_STREAM_CTL, F.CDC_STREAM_STAT, F.CDC_STREAM_MODE + 4 * ch.val] ∧
        t = { s with regs := t.regs, clk := t.clk, que := t.que, stream := t.stream, chans := t.chans }) ∧
    (s.stream.pend = none → exec (.streamApplyTakeEffect) s = .next s) ∧
    (∀ (cls : Fin 4) n, (s.queue (if cls.val = 1 then 1 else 3)).oldest = some n →
      ∃ t, exec (.lingerExpiry cls) s = .next t ∧ s.reached t (n + s.linger cls) ∧ s.sameMain t [] ∧
        t = { s with free := t.free, regs := t.regs, clk := t.clk, tim := t.tim, lnk := t.lnk, que := t.que, fau := t.fau,
                     prm := t.prm }) ∧
    (∀ (cls : Fin 4), (s.queue (if cls.val = 1 then 1 else 3)).oldest = none → exec (.lingerExpiry cls) s = .next s)

/-- Codec jobs (R218 to R223): with EN and no job running the oldest waiting job starts at its cursor,
or ends with BAD_DESC; a job that codes its blocks, finds no room, or misses a block ends with its status; CANCEL ends
every job. -/
def Obligations.CodecJobs : Prop :=
  ∀ (s : State), s.Working →
    (s.rdB F.CDC_JOB_CTL_EN = false ∨ (∃ j ∈ s.codec, j.running = true) → exec (.codecJobStart) s = .next s) ∧
    (∀ j rest, s.rdB F.CDC_JOB_CTL_EN = true → s.codec = j :: rest → (∀ x ∈ s.codec, x.running = false) →
      (j.bad = false → rest.length < 32 →
        ∃ t, exec (.codecJobStart) s = .next t ∧
          t.codec = { j with running := true, rd := { at_ := some (j.curCh, j.curBlock) } } :: rest ∧
          t.rdB F.CDC_JOB_STAT_ACTIVE = true ∧ t.rd F.CDC_JOB_STAT_WAITING = rest.length ∧ s.sameRegs t [F.CDC_JOB_STAT] ∧
          t = { s with regs := t.regs, trg := t.trg, codec := t.codec }) ∧
      (j.bad = true →
        ∃ t, exec (.codecJobStart) s = .next t ∧ t.codec = rest ∧ t.rd F.CDC_JOB_STAT_LAST_STATUS = 4 ∧
          t = { s with regs := t.regs, lnk := t.lnk, prm := t.prm, trg := t.trg, codec := t.codec })) ∧
    (∀ flips bad u j (r : CRun × CStop × LWord), u = s.readJob → u.codec.find? (fun x => x.running) = some j → r = u.jobEnd j { flips := flips, bad := bad } →
      (r.2.1 = .wait → exec (.codecJobComplete flips bad) s = .next s) ∧
      (∀ n, (r.2.1 = .done ∧ n = 0) ∨ (r.2.1 = .outFull ∧ n = 1) ∨ (r.2.1 = .lost ∧ n = 2) ∨ (r.2.1 = .frozen ∧ n = 3) →
        ∃ t, exec (.codecJobComplete flips bad) s = .next t ∧ t.codec = u.codec.erase j ∧ t.clk = u.clk ∧ t.trg = u.trg ∧
          t.rd F.CDC_JOB_STAT_LAST_STATUS = n ∧
          t = { s with free := t.free, regs := t.regs, clk := t.clk, tim := t.tim, trg := t.trg, lnk := t.lnk, que := t.que, fau := t.fau, prm := t.prm,
                       codec := t.codec })) ∧
    ((∀ j ∈ s.codec, j.running = false) → ∀ flips bad, exec (.codecJobComplete flips bad) s = .next s) ∧
    (∀ p, ∃ t, exec (.codecCancel p) s = .next t ∧ t.codec = [] ∧ (s.codec ≠ [] → t.rd F.CDC_JOB_STAT_LAST_STATUS = 5) ∧
      t.rdB F.CDC_JOB_CTL_EN = s.rdB F.CDC_JOB_CTL_EN ∧
      t = { s with free := t.free, regs := t.regs, ports := t.ports, tim := t.tim, lnk := t.lnk, que := t.que, fau := t.fau,
                   prm := t.prm, trg := t.trg, codec := t.codec })

/-- Flush, drop and high-water marks (R240 to R243): a flush discards the waiting packets of its sub-queue and counts them; it
ends at once when nothing is in progress or being read, and otherwise when that has gone; DROP3 cuts the class 3 packet
being read, or notes that there is none; a write of QUE_HWM takes the present fill. -/
def Obligations.QueueCommands : Prop :=
  ∀ (s : State), s.Working →
    (∀ (p : Fin 10) (g : Fin 8), s.flushBusy g = true → exec (.queueFlush p g) s = .next (s.accepted p fun u => u)) ∧
    (∀ (p : Fin 10) (g : Fin 8) (x : Queue), s.flushBusy g = false → x = s.queue (4 + g.val) →
      ∃ t, exec (.queueFlush p g) s = .next t ∧ (t.queue (4 + g.val)).waiting = [] ∧
        (t.queue (4 + g.val)).progress = x.progress ∧ (t.queue (4 + g.val)).reading = x.reading ∧
        (x.progress = [] → x.reading = none → t.flushBusy g = false ∧
          t.rd F.QUE_DISCARD_COUNT (4 + g.val) = min (2 ^ 32 - 1) (s.rd F.QUE_DISCARD_COUNT (4 + g.val) + x.waiting.length)) ∧
        (x.reading ≠ none → t.flushBusy g = true) ∧
        (∀ q : Fin 12, q.val ≠ 4 + g.val → t.queue q = s.queue q) ∧ s.sameMain t [] ∧
        t = { s with free := s.free + 1, regs := t.regs, ports := t.ports, que := t.que, fau := t.fau, pmc := t.pmc }) ∧
    (∀ (g : Fin 8) (x : Queue), x = s.queue (4 + g.val) →
      (s.flushBusy g = true → x.flushSet = [] → x.flushRead = false →
        ∃ t, exec (.queueFlushDone g) s = .next t ∧ t.flushBusy g = false ∧
          t.rd F.QUE_DISCARD_COUNT (4 + g.val) = min (2 ^ 32 - 1) (s.rd F.QUE_DISCARD_COUNT (4 + g.val) + x.flushCount) ∧
          t.queue (4 + g.val) = { x with flushCount := 0 } ∧ s.sameRegs t [F.QUE_CMD_STAT, F.QUE_DISCARD + 16 * (4 + g.val)] ∧
          t = { s with regs := t.regs, que := t.que }) ∧
      (s.flushBusy g = false ∨ x.flushSet ≠ [] ∨ x.flushRead = true → exec (.queueFlushDone g) s = .next s)) ∧
    (∀ p, s.rdB F.QUE_CMD_STAT_DROP_BUSY = false →
      ((s.queue 3).reading = none → exec (.drop3 p) s = .next (s.accepted p fun u => u.flag F.QUE_EVT 2)) ∧
      ((s.queue 3).reading ≠ none →
        ∃ t, exec (.drop3 p) s = .next t ∧ t.rdB F.QUE_CMD_STAT_DROP_BUSY = true ∧
          t.queue 3 = { s.queue 3 with dropRead := true } ∧ s.sameRegs t [F.QUE_CMD_STAT] ∧
          t = { s with free := s.free + 1, regs := t.regs, ports := t.ports, que := t.que })) ∧
    (s.rdB F.QUE_CMD_STAT_DROP_BUSY = true →
      ∃ t, exec (.drop3Done) s = .next t ∧ t.rdB F.QUE_CMD_STAT_DROP_BUSY = false ∧
        ((s.queue 3).dropRead = true → (t.queue 3).reading = none ∧
          t.rd F.QUE_DISCARD_COUNT 3 = min (2 ^ 32 - 1) (s.rd F.QUE_DISCARD_COUNT 3 + 1)) ∧
        ((s.queue 3).dropRead = false → t.que = s.que ∧ (t.regGet F.QUE_EVT).getLsbD 2 = true) ∧
        s.sameMain t [] ∧ t = { s with regs := t.regs, tim := t.tim, que := t.que }) ∧
    (s.rdB F.QUE_CMD_STAT_DROP_BUSY = false → exec (.drop3Done) s = .next s) ∧
    (∀ (p : Fin 10) (q : Fin 12) w, (s.queue q).fill < 2 ^ 17 →
      ∃ t, exec (.hwmReset p q w) s = .next t ∧ t.rd F.QUE_HWM_WORDS q = (s.queue q).fill ∧
        s.sameRegs t [F.QUE_HWM + 16 * q.val] ∧ t = { s with free := s.free + 1, regs := t.regs, ports := t.ports })

/-- Incidents (R20, R419 to R426): a report of a code that R419 does not assign, or from a place that it does not give the code or
whose location code does not occur, is none; with nothing open, any other opens an incident in a free entry under NEXT_ID; a
report of the same root counts, one of an open root's dependent counts in the root; a held incident is released 2 ms after
it opened; one whose condition is over closes 10 ms after its last report, the overflow incident once an entry has become free too;
a host CLOSE closes it at once and has a lasting
condition reported again; PURGE_PREVIOUS frees the PREVIOUS entries. -/
def Obligations.Incidents : Prop :=
  ∀ (s : State), s.Awake → s.fau.inc.length = 256 → 0 < s.clk.fs →
    (∀ (code place : BitVec 16) (detail : BitVec 32) (l : Nat), l = s.moduleId * 65536 + place.toNat →
      (codeAt code.toNat place.toNat = false → exec (.faultReport code place detail) s = .next s) ∧
      (∀ e, codeAt code.toNat place.toNat = true → (∀ x ∈ s.fau.inc, x.st ≠ .opened) → s.incAlloc = some e →
        ∃ t, exec (.faultReport code place detail) s = .next t ∧ (t.incAt e).id = s.rd F.FAU_STAT_NEXT_ID ∧
          (t.incAt e).code = code.toNat ∧ (t.incAt e).loc = l ∧ (t.incAt e).detail = detail.toNat ∧ (t.incAt e).count = 1 ∧
          (t.incAt e).st = .opened ∧ (t.incAt e).tFirst = s.nowT48 ∧ (t.incAt e).openTick = s.clk.tick ∧
          (t.incAt e).held = heldCode code.toNat l ∧ (t.incAt e).pending = !heldCode code.toNat l ∧
          (∀ q : Fin 256, q.val ≠ e → t.incAt q = s.incAt q) ∧
          t.rd F.FAU_STAT_NEXT_ID = (if s.rd F.FAU_STAT_NEXT_ID = 65535 then 1 else s.rd F.FAU_STAT_NEXT_ID + 1) ∧
          s.sameMain t [] ∧ t = { s with free := t.free, regs := t.regs, fau := t.fau }) ∧
      (∀ e, codeAt code.toNat place.toNat = true → s.rootFor code.toNat l detail.toNat = none →
        s.sameRoot code.toNat l detail.toNat = some e →
        ∃ t, exec (.faultReport code place detail) s = .next t ∧ (t.incAt e).count = min 0xFFFFFFFF ((s.incAt e).count + 1) ∧
          (t.incAt e).tLast = s.nowT48 ∧ (t.incAt e).id = (s.incAt e).id ∧ (t.incAt e).st = .opened ∧
          (code.toNat ≠ 0x3009 → (t.incAt e).detail = detail.toNat) ∧
          (∀ q : Fin 256, q.val ≠ e → t.incAt q = s.incAt q) ∧ t = { s with fau := t.fau }) ∧
      (∀ r, codeAt code.toNat place.toNat = true → s.rootFor code.toNat l detail.toNat = some r →
        ∃ t, exec (.faultReport code place detail) s = .next t ∧
          t.incAt r = { s.incAt r with count := min 0xFFFFFFFF ((s.incAt r).count + 1), lastTick := s.clk.tick,
                                       pending := !(s.incAt r).held } ∧
          (∀ q : Fin 256, q.val ≠ r → t.incAt q = s.incAt q) ∧ t = { s with fau := t.fau })) ∧
    (∀ e : Fin 256, (s.incAt e).st = .opened → (s.incAt e).held = true →
      ∃ t, exec (.incidentHoldExpiry e) s = .next t ∧ t.incAt e = { s.incAt e with held := false, pending := true } ∧
        (s.incAt e).openTick + 2 ≤ t.clk.tick ∧ (∀ q : Fin 256, q ≠ e → t.incAt q = s.incAt q) ∧
        t = { s with clk := t.clk, fau := t.fau }) ∧
    (∀ e : Fin 256, (s.incAt e).st ≠ .opened ∨ (s.incAt e).held = false → exec (.incidentHoldExpiry e) s = .next s) ∧
    (∀ (e : Fin 256) cleared, (s.incAt e).st = .opened →
      (cleared = true ∧ ((s.incAt e).outer = true ∨ ownCondition (s.incAt e).code = false)) ∨ (s.incAt e).lasting = false →
      e.val ≠ 255 ∨ s.incAlloc ≠ none →
      ∃ t, exec (.incidentCloseTimer e cleared) s = .next t ∧
        t.incAt e = { s.incAt e with st := .closed, tLast := t.nowT48, held := false, pending := true, lasting := false } ∧
        (s.incAt e).lastTick + 10 ≤ t.clk.tick ∧ (∀ q : Fin 256, q ≠ e → t.incAt q = s.incAt q) ∧
        (e.val = 255 → t.rdB F.FAU_STAT_OVERFLOW = false) ∧ s.sameRegs t (if e.val = 255 then [F.FAU_STAT] else []) ∧
        t = { s with regs := t.regs, clk := t.clk, fau := t.fau }) ∧
    (∀ (e : Fin 256) cleared, (s.incAt e).st ≠ .opened ∨ ((s.incAt e).lasting = true ∧ (cleared = false ∨
        ((s.incAt e).outer = false ∧ ownCondition (s.incAt e).code = true))) ∨ (e.val = 255 ∧ s.incAlloc = none) →
      exec (.incidentCloseTimer e cleared) s = .next s) ∧
    (∀ (p : Fin 10) (e : Fin 256), s.Working → (s.incAt e).st = .opened →
      ∃ t, exec (.close p e) s = .next t ∧
        t.incAt e = { s.incAt e with st := .closed, tLast := s.nowT48, held := false, pending := true, lasting := false } ∧
        t.fau.again = (if (s.incAt e).lasting then
          s.fau.again ++ [((s.incAt e).code, (s.incAt e).loc, (s.incAt e).detail, s.clk.tick)] else s.fau.again) ∧
        (∀ q : Fin 256, q ≠ e → t.incAt q = s.incAt q) ∧ s.sameRegs t [F.FAU_STAT] ∧
        t = { s with free := s.free + 1, regs := t.regs, ports := t.ports, fau := t.fau }) ∧
    (∀ (p : Fin 10) (e : Fin 256), s.Working → (s.incAt e).st ≠ .opened →
      exec (.close p e) s = .next (s.accepted p fun u => u)) ∧
    (∀ p, s.Working → exec (.purgePrevious p) s
      = .next (s.accepted p fun u => { u with fau := { u.fau with inc := s.fau.inc.map fun x => if x.previous then {} else x } }))

/-- Reports of incidents (R69, R425, R426): a waiting report is sent when an essential lane is UP and the module has an ID, as a
packet of class 0 with the entry's words, no sooner than 100 ms after the last one of its incident; the first report of a
station-wide event is sent by the other command; otherwise nothing happens. -/
def Obligations.IncidentReports : Prop :=
  ∀ (s : State) (e : Fin 256) (x : Incident), s.Working → s.fau.inc.length = 256 → 0 < s.clk.fs → x = s.incAt e →
    (x.pending = true → s.mayReport = true → (s.queue 0).blocked = [] → (s.queue 0).fill + 5 ≤ queueCap 0 →
      (x.held = false → (x.station = false ∨ x.sentTick ≠ none) →
        ∃ t y, exec (.incidentReportSend e) s = .next t ∧ t.incAt e = { x with pending := false, sentTick := some t.clk.tick } ∧
          (∀ n, x.sentTick = some n → n + 100 ≤ t.clk.tick) ∧ (∀ q : Fin 256, q ≠ e → t.incAt q = s.incAt q) ∧
          (t.queue 0).waiting = (s.queue 0).waiting ++ [y] ∧
          y.words = packetWords (word64 [(56, 0x05), (52, 5), (50, x.event)] :: (t.incAt e).words) ∧ s.sameMain t [] ∧
          t = { s with regs := t.regs, clk := t.clk, tim := t.tim, que := t.que, fau := t.fau }) ∧
      (x.station = true → x.sentTick = none →
        ∃ t y, exec (.stationWideReport e) s = .next t ∧ t.incAt e = { x with pending := false, sentTick := some t.clk.tick } ∧
          (s.clk.running = true → s.countAt (x.dueNs * 65536 : Nat) ≤ t.clk.count) ∧
          (∀ q : Fin 256, q ≠ e → t.incAt q = s.incAt q) ∧
          (t.queue 0).waiting = (s.queue 0).waiting ++ [y] ∧
          y.words = packetWords (word64 [(56, 0x05), (52, 5), (50, x.event)] :: (t.incAt e).words) ∧ s.sameMain t [] ∧
          t = { s with regs := t.regs, clk := t.clk, tim := t.tim, que := t.que, fau := t.fau })) ∧
    (x.pending = false ∨ s.mayReport = false →
      exec (.incidentReportSend e) s = .next s ∧ exec (.stationWideReport e) s = .next s) ∧
    (x.station = true → x.sentTick = none → exec (.incidentReportSend e) s = .next s) ∧
    (x.station = false ∨ x.sentTick ≠ none → exec (.stationWideReport e) s = .next s)

/-- Background work (R430, R431, R433): a configuration word whose copies all differ takes its cold value, one copy that differs is
counted; the flash refresh goes on to the next block 337.5 s after the last one, and a block that cannot be erased is retired; the telemetry packet of
a second enters class 3 and its sums start anew. -/
def Obligations.BackgroundWork : Prop :=
  ∀ (s : State), s.Working →
    (∀ (a : BitVec 32) kind, isConfig a.toNat = false ∨ kind = 0 → exec (.configScrub a kind) s = .next s) ∧
    (∀ (a : BitVec 32), isConfig a.toNat = true →
      ∃ t, exec (.configScrub a 1) s = .next t ∧
        t.rd F.FAU_SCRUB_TOTAL_COUNT = min (2 ^ 32 - 1) (s.rd F.FAU_SCRUB_TOTAL_COUNT + 1) ∧
        t.fau.scrubSecond = s.fau.scrubSecond + 1 ∧ (a.toNat, s.clk.tick) ∈ t.fau.scrubHits ∧ s.sameMain t [] ∧
        t = { s with free := t.free, regs := t.regs, fau := t.fau }) ∧
    (∀ (a : BitVec 32) (r : RegDef), isConfig a.toNat = true → a.toNat < 0x380000 → regAt a.toNat = some r →
      (∀ f ∈ r.fields, f.acc ≠ .rwl) →
      (∀ (u : State) (n : Nat), u.writeMgt r 0 a.toNat (coldWrite r a.toNat) = none ∧
        u.writeFront r a.toNat (coldWrite r a.toNat) n = none ∧ u.writeCore r a.toNat (coldWrite r a.toNat) = none ∧
        u.writeLink r a.toNat (coldWrite r a.toNat) = none) →
      ∃ t, exec (.configScrub a 2) s = .next t ∧
        t.regGet a.toNat = storedWord r s.locked (s.regGet a.toNat) (coldWrite r a.toNat) ∧ s.sameMain t [a.toNat] ∧
        t = { s with free := t.free, regs := t.regs, fau := t.fau }) ∧
    (∀ (worst : Fin 4) (eraseOk : Bool) (item : Nat), s.plane.hot.getD 4 false = true →
      exec (.flashRefresh worst eraseOk item) s = .next s) ∧
    (∀ (worst : Fin 4) (eraseOk : Bool) (item b : Nat), s.plane.hot.getD 4 false = false → b = s.nextBlock s.fau.refreshNext →
      0 < s.clk.fs →
      (worst.val < 2 ∨ (worst.val = 2 ∧ eraseOk = true) →
        ∃ t, exec (.flashRefresh worst eraseOk item) s = .next t ∧ s.fau.refreshTick + 337500 ≤ t.clk.tick ∧
          t = { s with clk := t.clk, fau := { s.fau with refreshNext := (b + 1) % 256, refreshTick := t.clk.tick } }) ∧
      (worst.val = 2 → eraseOk = false →
        ∃ t, exec (.flashRefresh worst eraseOk item) s = .next t ∧ t.fau.retired = s.fau.retired ++ [b] ∧
          t.fau.refreshNext = (b + 1) % 256 ∧ t.fau.refreshTick = t.clk.tick ∧ s.fau.refreshTick + 337500 ≤ t.clk.tick ∧
          (s.fau.retired.length < 511 → t.rd F.FAU_FLASH_STAT_RETIRED = s.fau.retired.length + 1) ∧ s.sameMain t [] ∧
          t = { s with free := t.free, regs := t.regs, clk := t.clk, fau := t.fau }) ∧
      (worst.val = 3 →
        ∃ t, exec (.flashRefresh worst eraseOk item) s = .next t ∧ t.fau.refreshNext = (b + 1) % 256 ∧
          (∀ c, (item = 1 ∨ item = 2) → t.adc.saved[item - 1]? = some c → c.valid = false) ∧
          (∀ r, 3 ≤ item → t.book.records[item - 3]? = some r → r.valid = false) ∧
          t.fau.refreshTick = t.clk.tick ∧ s.fau.refreshTick + 337500 ≤ t.clk.tick ∧ s.sameMain t [F.ADC_REH_STAT] ∧
          t = { s with free := t.free, regs := t.regs, clk := t.clk, fau := t.fau, adc := t.adc, book := t.book })) ∧
    ((s.queue 3).blocked = [] → (s.queue 3).fill + 8 ≤ queueCap 3 →
      ∃ t k y, exec (.telemetry) s = .next t ∧
        k = (if secondsOf s.now = s.fau.lastSecond then secondsOf s.now + 1 else secondsOf s.now) ∧
        t.fau = { s.fau with corrSecond := 0, scrubSecond := 0, discardSecond := 0, verifySecond := 0, lastSecond := k } ∧
        (t.queue 3).waiting = (s.queue 3).waiting ++ [y] ∧ y.words = packetWords (s.telemetryWords k) ∧
        s.reached t (s.countAt (k * 65536000000000)) ∧ s.sameMain t [] ∧
        t = { s with regs := t.regs, clk := t.clk, tim := t.tim, que := t.que, fau := t.fau })

/-- Temperatures and stages (R62, R391 to R396): a die above its threshold takes its thermal action once, and 10 degrees below it
undoes it; a tick takes the VIN samples since the last one and the supplies, and enters the stage in force when it is deeper; after 100 ticks a shallower stage in
force moves the controller up by one; FORCE requests a stage up to 4; a change of stage is told by a notice. -/
def Obligations.Stages : Prop :=
  ∀ (s : State), s.Working → s.plane.hot.length = 5 → 0 < s.clk.fs →
    (∀ (d : Fin 5) tj, tj ≤ thermalLimit d ∨ s.plane.hot.getD d true = true →
      exec (.thermalThreshold d tj) s = .next { s with plane := { s.plane with temps := s.plane.temps.set d tj } }) ∧
    (∀ (d : Fin 5) tj, thermalLimit d < tj → s.plane.hot.getD d true = false → s.stage < 5 →
      ∃ t, exec (.thermalThreshold d tj) s = .next t ∧ t.plane.hot = s.plane.hot.set d true ∧
        t.plane.temps = s.plane.temps.set d tj ∧
        (∀ r : Fin 4, r.val / 2 = d.val → (t.region r).thermal = true ∧ (t.region r).locked = false) ∧
        (d.val = 2 → 4 ≤ t.inForce ∧ t.regions = s.regions) ∧ (d.val = 3 → t.stage = 5) ∧
        (d.val = 4 → t = { s with plane := t.plane })) ∧
    (∀ (d : Fin 5) tj, thermalLimit d - 10 < tj ∨ s.plane.hot.getD d false = false →
      exec (.thermalRecover d tj) s = .next { s with plane := { s.plane with temps := s.plane.temps.set d tj } }) ∧
    (∀ (d : Fin 5) tj, tj ≤ thermalLimit d - 10 → s.plane.hot.getD d false = true →
      ∃ t, exec (.thermalRecover d tj) s = .next t ∧
        t.plane = { s.plane with temps := s.plane.temps.set d tj, hot := s.plane.hot.set d false } ∧
        (∀ r : Fin 4, t.region r = if r.val / 2 = d.val then { s.region r with thermal := false } else s.region r) ∧
        s.sameRegs t [F.PWR_STAGE] ∧ t = { s with regs := t.regs, fau := t.fau, plane := t.plane, regions := t.regions }) ∧
    (∀ (vins : List (BitVec 14)) (vaux vfeed : BitVec 12) (power : BitVec 10) (x : VinRun) (v f : Nat),
      s.pwr.stop = 0 → s.reqStage ≤ 5 → s.stage ≤ 5 → s.rd F.PWR_STAGE_VIN_STAGE ≤ 5 → x = s.vinRun (vins.map BitVec.toNat) →
      v = (if x.lost then 5 else x.stage) → f = max v s.reqStage →
      ∃ t, exec (.stageTick vins vaux vfeed power) s = .next t ∧ t.stage = max s.stage f ∧
        t.rd F.PWR_STAGE_VIN_STAGE = v ∧ t.rd F.PWR_VIN_VIN_10MV = x.filtered % 2 ^ 14 ∧
        t.rd F.PWR_VIN_MIN_10MV = x.least ∧ t.rd F.PWR_AUX_VAUX24_10MV = vaux.toNat ∧ t.rd F.PWR_AUX_VFEED_10MV = vfeed.toNat ∧
        t.rd F.PWR_POWER_INPUT_DW = power.toNat ∧ (s.stage < f → t.pwr.entry = s.clk.tick) ∧ t.clk = s.clk ∧
        (f ≤ s.stage → x.opened = none → x.above = true ∨ s.pwr.overVin = false →
          s.sameRegs t [F.PWR_STAGE, F.PWR_VIN, F.PWR_AUX, F.PWR_POWER] ∧
          t = { s with regs := t.regs, pwr := { s.pwr with vins := x.recent, overRun := x.run, overVin := x.above } })) ∧
    (s.inForce < s.stage → s.stage < 5 →
      ∃ t, exec (.stageRestore) s = .next t ∧ t.stage = s.stage - 1 ∧ s.pwr.entry + 100 ≤ t.clk.tick ∧
        t.pwr.entry = t.clk.tick ∧ t.saf = s.saf ∧ t.book = s.book ∧ t.adc = s.adc ∧ t.sns = s.sns ∧ t.start = s.start) ∧
    (s.stage ≤ s.inForce ∨ s.stage = 5 → exec (.stageRestore) s = .next s) ∧
    (∀ p (k : Fin 8),
      ∃ t, exec (.forceStage p k) s = .next t ∧ t.rd F.PWR_FORCE_STAGE = min 4 k.val ∧ min 4 k.val ≤ t.inForce ∧
        s.sameRegs t [F.PWR_FORCE, F.PWR_STAGE] ∧ t = { s with free := s.free + 1, regs := t.regs, ports := t.ports }) ∧
    (s.pwr.noticeDue = true → s.moduleId ≠ 0 → s.plane.cxOn = true →
      ∃ t, exec (.sheddingNotice) s = .next t ∧
        t.pwr = { s.pwr with noticeTick := some t.clk.tick, noticeDue := false, deepest := 0 } ∧
        (∀ n, s.pwr.noticeTick = some n → n + 100 ≤ t.clk.tick) ∧ s.sameMain t [] ∧
        t = { s with free := t.free, regs := t.regs, clk := t.clk, tim := t.tim, que := t.que, fau := t.fau, pwr := t.pwr }) ∧
    (s.pwr.noticeDue = false ∨ s.moduleId = 0 → exec (.sheddingNotice) s = .next s)

/-- The end of supply, over-voltage and rails (R323, R388 to R390, R393, R398, R403): power-fail and filtered VIN below 28.0 V enter
S5 at once; once the commit has ended the keeper halts with CX off and time stopped; a drop-out stops the keeper; with the 101st
filtered sample in a row above 75 V over-voltage is reported, and one at or below ends it; a rail fault is reported once, a region's rail fails the region and a CX rail stops the data plane. -/
def Obligations.SupplyEnds : Prop :=
  ∀ (s : State),
    (s.Sound → exec (.keeperDropOut) s = .next { s with
      clk := { s.clk with running := false }, book := { s.book with running := none, waiting := [] },
      plane := { s.plane with cxOn := false, ingest := false, monitors := false }, pwr := { s.pwr with alive := false } }) ∧
    (s.Working →
      (s.stage < 5 →
        ∃ t, exec (.keeperPowerFail) s = .next t ∧ t.stage = 5 ∧ t.pwr.failed = true ∧ t.pwr.stop = 1 ∧ t.plane.ingest = false ∧
          t.clk = s.clk ∧ t.start = s.start ∧ t.access = s.access) ∧
      (∀ (vins : List (BitVec 14)) (x : VinRun), x = s.vinRun (vins.map BitVec.toNat) → s.pwr.stop = 0 → s.stage < 5 →
        x.lost = true ∨ (s.reqStage = 5 ∧ x.stage ≤ 5) →
        ∃ t, exec (.orderlyStop vins) s = .next t ∧ t.stage = 5 ∧ t.pwr.stop = 1 ∧
          t.rd F.PWR_VIN_VIN_10MV = x.filtered % 2 ^ 14 ∧ t.plane.ingest = false) ∧
      (∀ vins, s.pwr.stop = 1 → s.book.running = none → s.book.waiting = [] →
        ∃ t, exec (.orderlyStop vins) s = .next t ∧ t.pwr = { s.pwr with stop := 2 } ∧ t.plane.cxOn = false ∧
          t.clk.running = false ∧ t.book = s.book ∧ t.saf = s.saf) ∧
      (∀ vins, s.pwr.stop = 1 → s.book.running ≠ none → exec (.orderlyStop vins) s = .next s) ∧
      (∀ (vins : List (BitVec 14)) (x : VinRun), x = s.vinRun (vins.map BitVec.toNat) → x.lost = false → s.pwr.overVin = false →
        (x.opened = none → ∃ t, exec (.vinOvervoltage vins) s = .next t ∧ s.sameRegs t [F.PWR_VIN, F.PWR_STAGE] ∧
          t.rd F.PWR_VIN_VIN_10MV = x.filtered % 2 ^ 14 ∧
          t = { s with regs := t.regs, pwr := { s.pwr with vins := x.recent, overRun := x.run, overVin := x.above } }) ∧
        (x.opened ≠ none →
          ∃ t, exec (.vinOvervoltage vins) s = .next t ∧
            t.pwr = { s.pwr with vins := x.recent, overRun := x.run, overVin := x.above } ∧
            (t.regGet F.PWR_EVT).getLsbD 1 = true ∧ s.sameMain t [F.PWR_VIN, F.PWR_STAGE, F.PWR_EVT] ∧
            t = { s with free := t.free, regs := t.regs, fau := t.fau, pwr := t.pwr, book := t.book })) ∧
      (s.pwr.overVin = true →
        ∃ t, exec .overVoltageEnd s = .next t ∧ t.pwr = { s.pwr with vins := [], overRun := 0, overVin := false } ∧
          t = { s with fau := t.fau, pwr := t.pwr }) ∧
      (s.pwr.overVin = false →
        exec .overVoltageEnd s = .next { s with pwr := { s.pwr with vins := [], overRun := 0, overVin := false } }) ∧
      (∀ (rail : Fin 4) (scope : Fin 5), railOf rail scope = false → exec (.railFault rail scope) s = .next s) ∧
      (∀ (rail : Fin 4) (r : Fin 4), rail.val ≤ 1 →
        ((s.region r).monitored = true →
          ∃ t, exec (.railFault rail r.castSucc) s = .next t ∧ (t.region r).failed = true ∧ (t.region r).locked = false ∧
            (∀ q : Fin 4, q ≠ r → t.region q = s.region q) ∧ t.plane = s.plane ∧ t.saf = s.saf) ∧
        ((s.region r).monitored = false → exec (.railFault rail r.castSucc) s = .next s)) ∧
      (∀ (rail : Fin 4), rail.val ≠ 1 → s.plane.cxOn = true → s.plane.cxFault = false →
        ∃ t, exec (.railFault rail 4) s = .next t ∧ t.plane.cxFault = true ∧ t.plane.ingest = false ∧ t.regions = s.regions))

/-- The prompt book (R400, R401, R404): a commit with none running takes the next record of its kind, and one that finds another
running waits; a good read-back makes the record valid; a failed one is written again once, and a second failure is
reported. -/
def Obligations.PromptBook : Prop :=
  ∀ (s : State), s.Working →
    (∀ p, s.book.running = none → s.book.waiting = [] →
      ∃ t r, exec (.pbCommit p) s = .next t ∧ t.book = { s.book with running := some (3, false), records := (r :: s.book.records).take 1024 } ∧
        r.kind = 3 ∧ r.valid = false ∧ r.recno = (s.rd F.PWR_PB_STAT_RECNO + 1) % 2 ^ 24 ∧ r.incidents = s.fau.inc ∧
        t.rdB F.PWR_PB_STAT_BUSY = true ∧ s.sameRegs t [F.PWR_PB_STAT] ∧
        t = { s with free := s.free + 1, regs := t.regs, ports := t.ports, book := t.book }) ∧
    (∀ p, s.book.running ≠ none → exec (.pbCommit p) s
      = .next (s.accepted p fun u => { u with book := { s.book with waiting := s.book.waiting ++ [3] } })) ∧
    (s.rd F.PWR_PB_CFG_PERIOD_S = 0 → exec (.pbPeriodicCommit) s = .next s) ∧
    (0 < s.rd F.PWR_PB_CFG_PERIOD_S → s.book.running = none → s.book.waiting = [] → 0 < s.clk.fs →
      ∃ t r, exec (.pbPeriodicCommit) s = .next t ∧ s.book.periodTick + 1000 * s.rd F.PWR_PB_CFG_PERIOD_S ≤ t.clk.tick ∧
        t.book = { s.book with running := some (4, false), records := (r :: s.book.records).take 1024, periodTick := t.clk.tick } ∧
        r.kind = 4 ∧ r.valid = false ∧ s.sameRegs t [F.PWR_PB_STAT] ∧
        t = { s with regs := t.regs, clk := t.clk, book := t.book }) ∧
    (∀ k again r rest, s.book.running = some (k, again) → s.book.records = r :: rest → s.book.waiting = [] → k < 8 →
      r.recno < 2 ^ 24 →
      (∃ t, exec (.pbCommitDone true) s = .next t ∧
        t.book = { s.book with running := none, records := { r with valid := true } :: rest } ∧
        t.rd F.PWR_PB_STAT_LAST_KIND = k ∧ t.rdB F.PWR_PB_STAT_LAST_OK = true ∧ t.rd F.PWR_PB_STAT_RECNO = r.recno ∧
        t.rdB F.PWR_PB_STAT_BUSY = false ∧ s.sameRegs t [F.PWR_PB_STAT] ∧ t = { s with regs := t.regs, book := t.book }) ∧
      (again = false → exec (.pbCommitDone false) s
        = .next { s with book := { s.book with running := some (k, true), records := (r :: r :: rest).take 1024 } }) ∧
      (again = true →
        ∃ t, exec (.pbCommitDone false) s = .next t ∧ t.book = { s.book with running := none } ∧
          t.rdB F.PWR_PB_STAT_LAST_OK = false ∧ t.rdB F.PWR_PB_STAT_BUSY = false ∧ (t.regGet F.PWR_EVT).getLsbD 2 = true ∧
          s.sameMain t [F.PWR_PB_STAT, F.PWR_EVT] ∧
          t = { s with free := t.free, regs := t.regs, fau := t.fau, book := t.book })) ∧
    (s.book.running = none → ∀ ok, exec (.pbCommitDone ok) s = .next s) ∧
    (∀ p, exec (.vinClrMin p) s = .next (s.accepted p fun u => u.wr F.PWR_VIN_MIN_10MV 0 (s.rd F.PWR_VIN_VIN_10MV)))

/-- Counters, dumps and tracers (R440 to R448): SNAP latches all 528 counters and the count; CLR_WRAP clears every sticky bit; a
dump has its number, and falls due only at S0; a write of a focus filter clears its counter and its sticky bit; the record
of a tagged block enters class 3. -/
def Obligations.Counting : Prop :=
  ∀ (s : State), s.Working →
    (∀ p, ∃ t, exec (.snap p) s = .next t ∧
      (∀ j < 528, t.rdPair F.PMC_SNAP_LO_VALUE F.PMC_SNAP_HI_VALUE j = s.counterAt j ∧ t.counterAt j = s.counterAt j) ∧
      t.rdPair F.PMC_SNAP_COUNT_LO_L F.PMC_SNAP_COUNT_HI_L 0 = s.clk.count % 2 ^ 64 ∧ s.sameMain t [] ∧
      t = { s with free := s.free + 1, regs := t.regs, ports := t.ports }) ∧
    (∀ p, ∃ t, exec (.clrWrap p) s = .next t ∧ (∀ j < 528, t.wrapped j = false ∧ t.counterAt j = s.counterAt j) ∧
      s.sameMain t [] ∧ t = { s with free := s.free + 1, regs := t.regs, ports := t.ports }) ∧
    (∀ p, s.stage ≠ 0 → exec (.dumpNow p) s = .next (s.accepted p fun u => u)) ∧
    (∀ p, s.stage = 0 →
      ∃ t, exec (.dumpNow p) s = .next t ∧ t.rd F.PMC_DUMP_NO_NO = (s.rd F.PMC_DUMP_NO_NO + 1) % 2 ^ 32 ∧
        (s.dumpWaits = true → t.que = s.que ∧ t.rd F.PMC_DUMP_SKIP_COUNT = min (2 ^ 32 - 1) (s.rd F.PMC_DUMP_SKIP_COUNT + 1)) ∧
        (s.dumpWaits = false → (s.queue 3).blocked = [] → (s.queue 3).fill + 600 ≤ queueCap 3 →
          ∃ l, (t.queue 3).waiting = (s.queue 3).waiting ++ l ∧ l.length = 5) ∧
        s.sameMain t [] ∧ t = { s with free := s.free + 1, regs := t.regs, ports := t.ports, tim := t.tim, que := t.que }) ∧
    (s.rdB F.PMC_CTL_DUMP_EN = true → s.stage = 0 → 0 < s.clk.fs →
      ∃ t, exec (.periodicDump) s = .next t ∧ t.rd F.PMC_DUMP_NO_NO = (s.rd F.PMC_DUMP_NO_NO + 1) % 2 ^ 32 ∧
        t.pmc = { s.pmc with base := s.pmc.base + s.rd F.PMC_CTL_PERIOD_MS } ∧
        s.pmc.base + s.rd F.PMC_CTL_PERIOD_MS ≤ t.clk.tick ∧ s.sameMain t [] ∧
        t = { s with regs := t.regs, clk := t.clk, tim := t.tim, que := t.que, pmc := t.pmc }) ∧
    (s.rdB F.PMC_CTL_DUMP_EN = false ∨ s.stage ≠ 0 → exec (.periodicDump) s = .next s) ∧
    (∀ p (f : Fin 16) (isLoc : Bool) w,
      ∃ t, exec (.focusConfigWrite p f isLoc w) s = .next t ∧ t.counterAt (512 + f.val) = 0 ∧ t.wrapped (512 + f.val) = false ∧
        t.regGet (F.PMC_FOCUS_CFG + 16 * f.val) = (if isLoc then s.regGet (F.PMC_FOCUS_CFG + 16 * f.val) else w &&& 0x3FFFF) ∧
        t.regGet (F.PMC_FOCUS_LOC + 16 * f.val) = (if isLoc then w else s.regGet (F.PMC_FOCUS_LOC + 16 * f.val)) ∧
        (∀ j < 528, j ≠ 512 + f.val → t.counterAt j = s.counterAt j ∧ t.wrapped j = s.wrapped j) ∧ s.sameMain t [] ∧
        t = { s with free := s.free + 1, regs := t.regs, ports := t.ports }) ∧
    (∀ i x offsets, s.pmc.tags[i]? = some x → (s.queue 3).blocked = [] → (s.queue 3).fill + 6 ≤ queueCap 3 →
      ∃ t y, exec (.tracerRecord i offsets) s = .next t ∧ t.pmc = { s.pmc with tags := s.pmc.tags.eraseIdx i } ∧
        (t.queue 3).waiting = (s.queue 3).waiting ++ [y] ∧ y.words = packetWords (s.tracerWords x offsets) ∧ s.sameMain t [] ∧
        t = { s with regs := t.regs, tim := t.tim, que := t.que, pmc := t.pmc }) ∧
    (∀ i offsets, s.pmc.tags[i]? = none → exec (.tracerRecord i offsets) s = .next s)

/-- Sending frames and granting credits (R21, R280 to R282, R284, R286, R287, R289, R291): at a chance on a path a held copy of
class 0 goes first, on lane 0 or 12; then the oldest class 0 item, with the next SEQ, and its copy waits for the other path;
nothing goes while the module has no ID. A CREDIT frame received sets the limits of its path, one sent grants 64 frames beyond
those taken. A class policy is stored when admission lets it. -/
def Obligations.LinkFrames : Prop :=
  ∀ (s : State), s.Working → s.lnk.held.length = 8 →
    (∀ path, s.moduleId = 0 → exec (.frameStart path) s = .next s ∧ exec (.creditSend path) s = .next s) ∧
    (∀ (path : Fin 2) (f : TxFrame) rest, s.moduleId ≠ 0 → s.rdB F.PRM_STAT_COMMITTED = false → s.prm.cmds = [] →
      s.laneUp (12 * path.val) = true → (s.runPath path).slotRoom (12 * path.val) = true →
      s.lnk.held.getD path.val [] = f :: rest → f.cls = 0 → f.ftype ≠ 0x01 →
      (∀ x, (s.queue 0).waiting.head? = some x → x.only = none ∧ ∃ ws, x.words = packetWords ws) →
      ∃ t, exec (.frameStart path) s = .next t ∧ t.lnk.held.getD path.val [] = rest ∧
        (t.lane (12 * path.val)).slot0 = [{ f with path := path.val, lane := 12 * path.val }] ∧ t.que = s.que ∧
        s.sameMain t [F.LNK_CREDIT_WAIT] ∧ t = { s with regs := t.regs, lnk := t.lnk, prm := t.prm }) ∧
    (∀ (path : Fin 2) (x : Packet) (ws : List LWord) rest, s.moduleId ≠ 0 → s.rdB F.PRM_STAT_COMMITTED = false → s.prm.cmds = [] →
      s.laneUp (12 * path.val) = true → (s.runPath path).slotRoom (12 * path.val) = true → s.lnk.held.getD path.val [] = [] →
      (s.queue 0).waiting = x :: rest → (s.queue 0).reading = none → (s.queue 0).blocked = [] → x.only = none → x.ftype ≠ 0x01 →
      x.words = packetWords ws → ws ≠ [] → (s.lnk.held.getD (1 - path.val) []).length < 64 →
      ∃ t f, exec (.frameStart path) s = .next t ∧ (t.lane (12 * path.val)).slot0 = [f] ∧ f.words = ws ∧ f.cls = 0 ∧
        f.ftype = x.ftype ∧ f.seq = s.rd F.LNK_SEQ_NEXT 0 ∧ f.module_ = s.moduleId ∧ f.path = path.val ∧ f.cut = false ∧
        t.rd F.LNK_SEQ_NEXT 0 = (s.rd F.LNK_SEQ_NEXT 0 + 1) % 2 ^ 24 ∧ (t.queue 0).waiting = rest ∧ (t.queue 0).reading = none ∧
        (s.pathUp (1 - path.val) = true → ∃ g, t.lnk.held.getD (1 - path.val) [] = s.lnk.held.getD (1 - path.val) [] ++ [g] ∧
          g.words = ws ∧ g.seq = f.seq ∧ g.path = 1 - path.val) ∧
        s.sameMain t [F.LNK_CREDIT_WAIT, F.LNK_SEQ, F.LNK_TX_DISCARD] ∧
        t = { s with regs := t.regs, lnk := t.lnk, que := t.que, prm := t.prm }) ∧
    (∀ (path : Fin 2) w, s.lnk.limit.length = 6 →
      ∃ t, exec (.creditFrame path w) s = .next t ∧ t.lnk.limit.getD (3 * path.val) 0 = w.toNat / 2 ^ 48 ∧
        t.lnk.limit.getD (3 * path.val + 1) 0 = w.toNat / 2 ^ 32 % 65536 ∧
        t.lnk.limit.getD (3 * path.val + 2) 0 = w.toNat / 2 ^ 16 % 65536 ∧
        t.rd F.LNK_CREDIT_STAT_WAITING path.val = 0 ∧
        (∀ c : Fin 3, t.credit (1 - path.val) (c.val + 1) = s.credit (1 - path.val) (c.val + 1)) ∧
        t.lnk = { s.lnk with limit := t.lnk.limit } ∧ s.sameRegs t [F.LNK_CREDIT_STAT + 4 * path.val] ∧
        t = { s with regs := t.regs, lnk := t.lnk }) ∧
    (∀ (path : Fin 2) n u, s.moduleId ≠ 0 → u = s.runPath path → u.earliestLane path = some n → s.lnk.granted.length = 2 →
      ∃ t f, exec (.creditSend path) s = .next t ∧ (t.lane n).buf = (u.lane n).buf ++ [f] ∧ f.ftype = 0x01 ∧ f.cls = 0 ∧
        f.seq = 0 ∧ f.words = [word64 [(48, (s.lnk.taken.getD path.val 0 + 64) % 65536)]] ∧
        t.lnk.granted.getD path.val 0 = (s.lnk.taken.getD path.val 0 + 64) % 65536 ∧
        s.sameRegs t [F.LNK_LANE_STAT + 4 * n] ∧ t = { s with regs := t.regs, lnk := t.lnk }) ∧
    (∀ path : Fin 2, s.upLanes path = [] → exec (.creditSend path) s = .next s) ∧
    (∀ p (w : Word) (verdict : Option Nat), verdict = (if getField w 2 2 ≠ s.rd F.LNK_CLASS_POL_C2_POL ∨
          getField w 16 8 ≠ s.rd F.LNK_CLASS_POL_SPLIT_MAP then
        AdmitCfg.refusedBy { s.admitCfg with policy := getField w 2 2, split := getField w 16 8 } s.clk.fs else none) →
      (∀ q, verdict = some q → exec (.classPolicyWrite p w) s = .next (s.accepted p fun u => u.admitFault q)) ∧
      (verdict = none →
        ∃ t, exec (.classPolicyWrite p w) s = .next t ∧ t.rd F.LNK_CLASS_POL_C1_POL = getField w 0 2 ∧
          t.rd F.LNK_CLASS_POL_C2_POL = getField w 2 2 ∧ t.rd F.LNK_CLASS_POL_C3_POL = getField w 4 2 ∧
          t.rd F.LNK_CLASS_POL_C1_FAILOVER = getField w 8 1 ∧ t.rd F.LNK_CLASS_POL_C3_FAILOVER = getField w 9 1 ∧
          t.rd F.LNK_CLASS_POL_SPLIT_MAP = getField w 16 8 ∧ s.sameRegs t [F.LNK_CLASS_POL] ∧
          t = { s with free := s.free + 1, regs := t.regs, ports := t.ports }))

/-- Receiving a downlink frame (R255, R272, R273, R274, R292, R293, R299): a lane that takes no frames leaves everything as it is; a
WORDS above 32 is a marker error; a bad CRC and a frame that is not the module's are counted and discarded; an accepted frame
of class 0 ahead of a missing SEQ is held; one in order acts, after which the next SEQ is expected; a held frame is passed on
when its wait is over. -/
def Obligations.FrameReception : Prop :=
  ∀ (s : State), s.Working → s.lnk.expect.length = 8 →
    (∀ (n : Fin 24) h pay crc k phi, s.hears n = false ∨ (s.laneUp n = false ∧ s.rd F.LNK_LANE_STAT_STATE n ≠ 1) →
      exec (.frameReceived n h pay crc k phi) s = .next s) ∧
    (∀ (n : Fin 24) (h : LWord) pay (crc : BitVec 32) k (phi : Fin 1024) (ws : List LWord) (f : RxHeld),
      ws = pay.take (hdrWords h) →
      f = { path := n.val / 12, cls := hdrClass h, seq := hdrSeq h, ftype := hdrType h, lane := n.val, words := ws, at_ := k,
            phi := phi.val } → s.hears n = true → s.laneUp n = true → s.rd F.LNK_LANE_STAT_RX_SUB n = 0 →
      (32 < hdrWords h → exec (.frameReceived n h pay crc k phi) s = .next ((s.toCount k).enterRealign n false)) ∧
      (hdrWords h ≤ 32 → crc.toNat ≠ crcWords (h :: ws) →
        ∃ t, exec (.frameReceived n h pay crc k phi) s = .next t ∧
          t.rd F.LNK_LANE_RX_CRC n = min 65535 (s.rd F.LNK_LANE_RX_CRC n + 1) ∧ s.reached t k ∧
          (t.lane n).rxScr = scrAdvance (s.lane n).rxScr (bodyBits ws.length) ∧
          t.lnk = { s.lnk with lanes := t.lnk.lanes } ∧ s.sameMain t [F.LNK_LANE_RX + 4 * n.val, F.LNK_RX_EVT] ∧
          t = { s with regs := t.regs, clk := t.clk, lnk := t.lnk }) ∧
      (hdrWords h ≤ 32 → crc.toNat = crcWords (h :: ws) → s.rxFull n = true ∨ s.accepts n h = false →
        ∃ t, exec (.frameReceived n h pay crc k phi) s = .next t ∧
          t.rd F.LNK_LANE_RX_REJECT n = min 65535 (s.rd F.LNK_LANE_RX_REJECT n + 1) ∧ s.reached t k ∧
          t.lnk = { s.lnk with lanes := t.lnk.lanes } ∧ s.sameRegs t [F.LNK_LANE_RX + 4 * n.val, F.LNK_RX_EVT] ∧
          t = { s with regs := t.regs, clk := t.clk, lnk := t.lnk }) ∧
      (∀ e, hdrWords h ≤ 32 → crc.toNat = crcWords (h :: ws) → s.rxFull n = false → s.accepts n h = true → (hdrType h = 0x08 ∨ hdrType h = 0x09) →
        s.expected (n.val / 12) 0 = some e → hdrSeq h ≠ e → (hdrSeq h + 2 ^ 24 - e) % 2 ^ 24 < 2 ^ 23 →
        ∃ t, exec (.frameReceived n h pay crc k phi) s = .next t ∧ s.reached t k ∧
          t.lnk = { s.lnk with lanes := t.lnk.lanes, hold := s.lnk.hold ++ [f] } ∧ t = { s with clk := t.clk, lnk := t.lnk }) ∧
      (hdrWords h ≤ 32 → crc.toNat = crcWords (h :: ws) → s.accepts n h = true → (hdrType h = 0x08 ∨ hdrType h = 0x09) →
        (s.expected (n.val / 12) 0 = none ∨ s.expected (n.val / 12) 0 = some (hdrSeq h)) → s.lnk.hold = [] →
        ∃ u, exec (.frameReceived n h pay crc k phi) s = .next (u.takeFrame f) ∧ s.reached u k ∧
          u.expected (n.val / 12) 0 = some ((hdrSeq h + 1) % 2 ^ 24) ∧
          u.lnk = { s.lnk with lanes := u.lnk.lanes, expect := u.lnk.expect } ∧ u = { s with clk := u.clk, lnk := u.lnk }) ∧
      (hdrWords h ≤ 32 → crc.toNat = crcWords (h :: ws) → s.accepts n h = true → hdrType h = 0x10 →
        s.lnk.granted.getD (n.val / 12) 0 = s.lnk.taken.getD (n.val / 12) 0 → s.lnk.taken.getD (n.val / 12) 0 < 65536 →
        ∃ t, exec (.frameReceived n h pay crc k phi) s = .next t ∧
          t.rd F.LNK_LANE_RX_REJECT n = min 65535 (s.rd F.LNK_LANE_RX_REJECT n + 1) ∧ t.trg = s.trg ∧
          t = { s with regs := t.regs, clk := t.clk, lnk := t.lnk })) ∧
    (∀ (n : Fin 24) (h : LWord) pay (crc : BitVec 32) k (phi : Fin 1024) (ws : List LWord), ws = pay.take (hdrWords h) →
      s.hears n = true → s.rd F.LNK_LANE_STAT_STATE n = 1 →
      (32 < hdrWords h → exec (.frameReceived n h pay crc k phi) s = .next s) ∧
      (hdrWords h ≤ 32 → crc.toNat ≠ crcWords (h :: ws) → exec (.frameReceived n h pay crc k phi) s
        = .next (((s.rxAdvance n ws.length).crcFailed n).takeBringup n false 0)) ∧
      (hdrWords h ≤ 32 → crc.toNat = crcWords (h :: ws) → s.accepts n h = true → hdrType h = 0x00 →
        exec (.frameReceived n h pay crc k phi) s = .next ((s.rxAdvance n ws.length).takeBringup n true (ws.headD 0)))) ∧
    (s.lnk.hold = [] → exec .reorderTimeout s = .next s) ∧
    (∀ f : RxHeld, s.lnk.hold = [f] → (f.ftype = 0x08 ∨ f.ftype = 0x09 ∨ f.ftype = 0x10) → f.path < 2 → f.cls < 2 →
      ∃ u, exec .reorderTimeout s = .next (u.takeFrame f) ∧ u.lnk.hold = [] ∧
        u.expected f.path f.cls = some ((f.seq + 1) % 2 ^ 24) ∧ (u.regGet F.LNK_RX_EVT).getLsbD 2 = true ∧
        s.reached u (f.at_ + ceilDiv (s.rd F.LNK_RX_CFG_REORDER * 10 * s.clk.fs) 1000000000) ∧
        s.sameRegs u [F.LNK_RX_EVT] ∧ u = { s with regs := u.regs, clk := u.clk, lnk := u.lnk })

/-- Lanes (R247, R248, R250, R251, R254, R255, R257 to R266, R269, R280): an attempt locks the PLL, starts with a new nonzero
scrambler state and sends training groups with bring-up frames; matching bring-up frames count towards 16 and, with two from a
partner that is good, lead to the last 8 training groups, after which the lane is UP; the first UP lane of a path resets its
credits; an attempt of 400 us ends in WAIT, and 100 us later the next one begins; a SEED gives the receiver its state, and every
body moves the state on. A marker error or stuffing violation leads an UP lane to REALIGN; 1 ms there, a loss of signal, the
partner's training and RETRAIN return it to BRINGUP with DOWN_SEEN and empty buffers; electrical idle is entered, refreshed and
left; a lane whose PLL unlocks goes OFF; CLR_ERR clears the counters of every lane. A receiver set to the wrong polarity takes
nothing (the model's choice, log entry 86). -/
def Obligations.Lanes : Prop :=
  ∀ (s : State) (n : Fin 24) (l : Lane), s.Working → l = s.lane n →
    (s.rd F.LNK_LANE_STAT_STATE n = 0 → s.laneAllowed n = true → s.clk.refclk = true →
      ∃ t st f, exec (.bringupAttempt n) s = .next t ∧ t.rd F.LNK_LANE_STAT_STATE n = 1 ∧ t.rd F.LNK_LANE_STAT_MISMATCH n = 0 ∧
        t.rd F.LNK_LANE_STAT_TX_SUB n = 0 ∧ t.rd F.LNK_LANE_STAT_RX_SUB n = 0 ∧ 0 < st ∧ st < 2 ^ 31 ∧
        (t.lane n).line = [.burst, .seed st, .frame st f, .fill 1] ∧ (t.lane n).txScr = scrAdvance st (bodyBits 1) ∧
        f.ftype = 0x00 ∧ f.cls = 0 ∧ f.seq = 0 ∧ f.lane = n.val ∧
        f.words = [word64 [(56, 1), (48, s.pathRate (n.val / 12)), (33, 0), (32, 0), (0, (l.attempt + 1) % 2 ^ 32)]] ∧
        (t.lane n).attempt = (l.attempt + 1) % 2 ^ 32 ∧ (t.lane n).goodRun = 0 ∧ (t.lane n).aligned = false ∧
        (t.lane n).groups = none ∧ (t.lane n).pll = true ∧ (∀ m : Fin 24, m ≠ n → t.lane m = s.lane m) ∧
        s.sameRegs t [F.LNK_LANE_STAT + 4 * n.val] ∧ t = { s with free := s.free + 1, regs := t.regs, lnk := t.lnk }) ∧
    (s.rd F.LNK_LANE_STAT_STATE n ≠ 0 ∨ s.laneAllowed n = false ∨ s.clk.refclk = false →
      exec (.bringupAttempt n) s = .next s) ∧
    (s.rd F.LNK_LANE_STAT_STATE n ≠ 1 → exec (.laneUp n) s = .next s ∧ exec (.bringupTimeout n) s = .next s) ∧
    (s.hears n = false ∨ (s.rd F.LNK_LANE_STAT_STATE n ≠ 1 ∧ s.laneUp n = false) →
      ∀ ok w, exec (.bringupFrameReceived n ok w) s = .next s) ∧
    (s.hears n = true → s.laneUp n = true → s.rd F.LNK_LANE_STAT_RX_SUB n = 0 → ∀ w,
      exec (.bringupFrameReceived n true w) s = .next (s.rxAdvance n 1) ∧
      exec (.bringupFrameReceived n false w) s = .next ((s.rxAdvance n 1).crcFailed n)) ∧
    (s.rd F.LNK_LANE_STAT_STATE n = 1 →
      (∀ w, s.hears n = true →
        ∃ t, exec (.bringupFrameReceived n false w) s = .next t ∧ (t.lane n).aligned = true ∧ (t.lane n).goodRun = 0 ∧
          (t.lane n).partnerRun = 0 ∧ (t.lane n).rxScr = scrAdvance l.rxScr (bodyBits 1) ∧
          t.rd F.LNK_LANE_RX_CRC n = min 65535 (s.rd F.LNK_LANE_RX_CRC n + 1) ∧
          s.sameMain t [F.LNK_LANE_RX + 4 * n.val, F.LNK_RX_EVT] ∧ t = { s with regs := t.regs, lnk := t.lnk }) ∧
      (∀ (w : LWord), s.hears n = true → w.toNat / 2 ^ 56 = 1 → w.toNat / 2 ^ 48 % 256 = s.pathRate (n.val / 12) →
        ∃ t, exec (.bringupFrameReceived n true w) s = .next t ∧ (t.lane n).aligned = true ∧ (t.lane n).goodRun = l.goodRun + 1 ∧
          (t.lane n).rxGood = (l.rxGood || decide (16 ≤ l.goodRun + 1)) ∧
          (t.lane n).partnerRun = (if w.getLsbD 32 then l.partnerRun + 1 else 0) ∧
          (t.lane n).rxScr = scrAdvance l.rxScr (bodyBits 1) ∧ t.rdB F.LNK_LANE_STAT_PARTNER_GOOD n = w.getLsbD 32 ∧
          (l.groups = none → ((t.lane n).groups = some 8 ↔ (t.lane n).rxGood = true ∧ 2 ≤ (t.lane n).partnerRun)) ∧
          s.sameRegs t [F.LNK_LANE_STAT + 4 * n.val] ∧ t = { s with regs := t.regs, lnk := t.lnk }) ∧
      (∀ (w : LWord), s.hears n = true → w.toNat / 2 ^ 56 ≠ 1 ∨ w.toNat / 2 ^ 48 % 256 ≠ s.pathRate (n.val / 12) →
        ∃ t, exec (.bringupFrameReceived n true w) s = .next t ∧ (t.lane n).goodRun = 0 ∧
          t.rdB F.LNK_LANE_STAT_MISMATCH n = true ∧
          t.rd F.LNK_LANE_VIOL_MARKER n = min 65535 (s.rd F.LNK_LANE_VIOL_MARKER n + 1) ∧
          s.sameRegs t [F.LNK_LANE_STAT + 4 * n.val, F.LNK_LANE_VIOL + 8 * n.val] ∧ t = { s with regs := t.regs, lnk := t.lnk }) ∧
      (l.groups ≠ none →
        ∃ t st, exec (.laneUp n) s = .next t ∧ t.laneUp n = true ∧ t.rd F.LNK_LANE_STAT_FAIL_ATTEMPTS n = 0 ∧
          t.rd F.LNK_LANE_STAT_TX_SUB n = 0 ∧ t.rd F.LNK_LANE_STAT_RX_SUB n = 0 ∧ 0 < st ∧ st < 2 ^ 31 ∧
          t.lane n = { l with groups := none, txScr := st, free := s.uiNow (n.val / 12), bufEnd := s.uiNow (n.val / 12)
                              slotEnd := s.uiNow (n.val / 12), lastFrame := s.uiNow (n.val / 12) } ∧
          (s.pathUp (n.val / 12) = false → t.rd F.LNK_CREDIT_STAT_WAITING (n.val / 12) = 1 ∧
            ∀ i < 3, t.lnk.sent.getD (3 * (n.val / 12) + i) 0 = 0 ∧ t.lnk.limit.getD (3 * (n.val / 12) + i) 0 = 0) ∧
          (s.pathUp (n.val / 12) = true → t.lnk = { s.lnk with lanes := t.lnk.lanes }) ∧
          (s.phase = 5 → s.moduleId ≠ 0 → n.val = 0 ∨ n.val = 12 → t.phase = 6 ∧ t.start.waitFrom = some s.clk.tick) ∧
          (s.phase ≠ 5 → t.phase = s.phase ∧ t.start = s.start) ∧
          s.sameRegs t [F.LNK_LANE_STAT + 4 * n.val, F.LNK_CREDIT_STAT + 4 * (n.val / 12), F.MGT_START_STAT] ∧
          t = { s with free := s.free + 1, regs := t.regs, lnk := t.lnk, fau := t.fau, start := t.start }) ∧
      (∃ t, exec (.bringupTimeout n) s = .next t ∧ t.rd F.LNK_LANE_STAT_STATE n = 3 ∧
        t.rd F.LNK_LANE_STAT_FAIL_ATTEMPTS n = min 255 (s.rd F.LNK_LANE_STAT_FAIL_ATTEMPTS n + 1) ∧
        t.lane n = { l with waitAt := t.clk.count, groups := none } ∧ s.reached t (l.attemptAt + s.samplesUs 400) ∧
        s.sameMain t [F.LNK_LANE_STAT + 4 * n.val] ∧
        t = { s with free := t.free, regs := t.regs, clk := t.clk, lnk := t.lnk, fau := t.fau })) ∧
    (s.rd F.LNK_LANE_STAT_STATE n = 3 → s.laneAllowed n = true → l.pll = true →
      ∃ t, exec (.waitExpiry n) s = .next t ∧ t.rd F.LNK_LANE_STAT_STATE n = 1 ∧ s.reached t (l.waitAt + s.samplesUs 100) ∧
        (t.lane n).attempt = (l.attempt + 1) % 2 ^ 32 ∧ (t.lane n).attemptAt = t.clk.count ∧
        s.sameRegs t [F.LNK_LANE_STAT + 4 * n.val] ∧ t = { s with free := s.free + 1, regs := t.regs, clk := t.clk, lnk := t.lnk }) ∧
    (s.rd F.LNK_LANE_STAT_STATE n ≠ 3 → exec (.waitExpiry n) s = .next s) ∧
    (∀ (seed : BitVec 31), s.rxAligned n = true →
      (l.rxScr = seed.toNat → exec (.seedReceived n seed) s = .next s) ∧
      (l.rxScr ≠ seed.toNat →
        ∃ t, exec (.seedReceived n seed) s = .next t ∧ t.lane n = { l with rxScr := seed.toNat } ∧
          t.rd F.LNK_LANE_SYNC_SLIP n = min 65535 (s.rd F.LNK_LANE_SYNC_SLIP n + 1) ∧ t.rdB F.LNK_EVT_SLIP_SEEN = true ∧
          s.sameRegs t [F.LNK_LANE_SYNC + 8 * n.val, F.LNK_EVT] ∧ t = { s with regs := t.regs, lnk := t.lnk })) ∧
    (∀ (seed : BitVec 31), s.rxAligned n = false → exec (.seedReceived n seed) s = .next s) ∧
    (s.hears n = false → (∀ seed followed, exec (.seedFound n seed followed) s = .next s) ∧
      exec (.partnerTraining n) s = .next s ∧ exec (.hushReceived n) s = .next s) ∧
    (∀ (seed : BitVec 31) followed, s.hears n = true →
      (s.rd F.LNK_LANE_STAT_STATE n = 1 → exec (.seedFound n seed followed) s
        = .next ((s.onLane n fun x => { x with rxScr := seed.toNat, aligned := followed || x.aligned }).train n)) ∧
      (s.laneUp n = true → s.rd F.LNK_LANE_STAT_RX_SUB n ≠ 0 →
        ∃ t, exec (.seedFound n seed true) s = .next t ∧ t.lane n = { l with rxScr := seed.toNat } ∧
          t.rd F.LNK_LANE_STAT_RX_SUB n = 0 ∧ s.sameRegs t [F.LNK_LANE_STAT + 4 * n.val] ∧
          t = { s with regs := t.regs, lnk := t.lnk }) ∧
      (s.laneUp n = true → s.rd F.LNK_LANE_STAT_RX_SUB n ≠ 0 →
        exec (.seedFound n seed false) s = .next (s.enterRealign n false))) ∧
    (∀ marker, s.laneUp n = false ∨ s.rd F.LNK_LANE_STAT_RX_SUB n = 2 ∨
        (∃ bits : BitVec 33, marker = some bits ∧ markerError bits.toNat = false) → exec (.realign n marker) s = .next s) ∧
    (s.laneUp n = false → exec (.realignTimeout n) s = .next s ∧
      exec (.lossOfSignal n) s = .next s ∧ exec (.partnerTraining n) s = .next s ∧ exec (.idleEntry n) s = .next s ∧
      exec (.hushReceived n) s = .next s ∧ exec (.fastExit n) s = .next s ∧ exec (.refreshBurst n) s = .next s ∧
      ∃ t, exec (.lanePllUnlock n) s = .next t ∧ t.rd F.LNK_LANE_STAT_STATE n = 0 ∧
        t.lane n = { l with pll := false, groups := none, line := [] } ∧
        s.sameRegs t [F.LNK_LANE_STAT + 4 * n.val] ∧ t = { s with regs := t.regs, lnk := t.lnk }) ∧
    (s.laneUp n = true →
      (∀ marker : Option (BitVec 33), s.rd F.LNK_LANE_STAT_RX_SUB n ≠ 2 → (∀ bits, marker = some bits → markerError bits.toNat = true) →
        ∃ t, exec (.realign n marker) s = .next t ∧ t.rd F.LNK_LANE_STAT_RX_SUB n = 2 ∧
          t.rd F.LNK_LANE_SYNC_REALIGN n = min 65535 (s.rd F.LNK_LANE_SYNC_REALIGN n + 1) ∧
          t.rd F.LNK_LANE_VIOL_STUFF n = (if marker = none then min 65535 (s.rd F.LNK_LANE_VIOL_STUFF n + 1)
            else s.rd F.LNK_LANE_VIOL_STUFF n) ∧
          t.rd F.LNK_LANE_VIOL_MARKER n = (if marker = none then s.rd F.LNK_LANE_VIOL_MARKER n
            else min 65535 (s.rd F.LNK_LANE_VIOL_MARKER n + 1)) ∧
          t.rdB F.LNK_EVT_REALIGN_SEEN = true ∧ t.lane n = { l with realignAt := s.clk.count } ∧
          s.sameRegs t [F.LNK_LANE_STAT + 4 * n.val, F.LNK_LANE_VIOL + 8 * n.val, F.LNK_LANE_SYNC + 8 * n.val, F.LNK_EVT] ∧
          t = { s with regs := t.regs, lnk := t.lnk }) ∧
      (s.rd F.LNK_LANE_STAT_RX_SUB n = 2 →
        ∃ t, exec (.realignTimeout n) s = .next t ∧ t.rd F.LNK_LANE_STAT_STATE n = 1 ∧ t.rdB F.LNK_EVT_DOWN_SEEN = true ∧
          (t.lane n).slot0 = [] ∧ (t.lane n).buf = [] ∧ s.reached t (l.realignAt + s.samplesUs 1000) ∧
          s.laneLeft t n ∧ t = { s with free := t.free, regs := t.regs, clk := t.clk, tim := t.tim, lnk := t.lnk, fau := t.fau }) ∧
      (s.rd F.LNK_LANE_STAT_RX_SUB n ≠ 2 → exec (.realignTimeout n) s = .next s) ∧
      (s.rd F.LNK_LANE_STAT_RX_SUB n ≠ 1 →
        ∃ t, exec (.lossOfSignal n) s = .next t ∧ t.rd F.LNK_LANE_STAT_STATE n = 1 ∧ t.rdB F.LNK_EVT_DOWN_SEEN = true ∧
          (t.lane n).slot0 = [] ∧ (t.lane n).buf = [] ∧
          s.laneLeft t n ∧ t = { s with free := t.free, regs := t.regs, tim := t.tim, lnk := t.lnk, fau := t.fau }) ∧
      (s.rd F.LNK_LANE_STAT_RX_SUB n = 1 → exec (.lossOfSignal n) s = .next s) ∧
      (s.hears n = true →
        ∃ t, exec (.partnerTraining n) s = .next t ∧ t.rd F.LNK_LANE_STAT_STATE n = 1 ∧ t.rdB F.LNK_EVT_DOWN_SEEN = true ∧
          (t.lane n).slot0 = [] ∧ (t.lane n).buf = [] ∧
          s.laneLeft t n ∧ t = { s with free := t.free, regs := t.regs, tim := t.tim, lnk := t.lnk, fau := t.fau }) ∧
      (∀ p, (n.val ≠ 0 ∧ n.val ≠ 12) ∨ s.rd F.LNK_LANE_CTL_EN n = 1 →
        ∃ t, exec (.retrain p n) s = .next t ∧ t.rd F.LNK_LANE_STAT_STATE n = 1 ∧ t.rdB F.LNK_EVT_DOWN_SEEN = true ∧
          (t.lane n).slot0 = [] ∧ (t.lane n).buf = [] ∧
          s.laneLeft t n ∧ t = { s with free := t.free, regs := t.regs, ports := t.ports, tim := t.tim, lnk := t.lnk, fau := t.fau }) ∧
      (n.val ≠ 0 → n.val ≠ 12 → s.rd F.LNK_LANE_STAT_TX_SUB n = 0 → 0 < s.rd F.LNK_PATH_CFG_IDLE_US → l.slot0 = [] → l.buf = [] →
        ∃ t, exec (.idleEntry n) s = .next t ∧ t.rd F.LNK_LANE_STAT_TX_SUB n = 1 ∧ (t.lane n).idleAt = t.clk.count ∧
          (t.lane n).line.getLast? = some .hush ∧ (t.lane n).txScr = l.txScr ∧
          (0 < s.clk.fs → l.lastFrame + s.rd F.LNK_PATH_CFG_IDLE_US * 1000 * s.pathRate (n.val / 12) ≤ t.uiNow (n.val / 12)) ∧
          (∀ m : Fin 24, m ≠ n → t.lane m = s.lane m) ∧
          s.sameRegs t [F.LNK_LANE_STAT + 4 * n.val] ∧ t = { s with regs := t.regs, clk := t.clk, lnk := t.lnk }) ∧
      (n.val = 0 ∨ n.val = 12 ∨ s.rd F.LNK_PATH_CFG_IDLE_US = 0 ∨ s.rd F.LNK_LANE_STAT_TX_SUB n ≠ 0 →
        exec (.idleEntry n) s = .next s) ∧
      (s.hears n = true → s.rd F.LNK_LANE_STAT_RX_SUB n = 0 →
        exec (.hushReceived n) s = .next (s.wr F.LNK_LANE_STAT_RX_SUB n 1)) ∧
      (s.rd F.LNK_LANE_STAT_RX_SUB n ≠ 0 → exec (.hushReceived n) s = .next s) ∧
      (s.rd F.LNK_LANE_STAT_TX_SUB n = 2 → exec (.fastExit n) s
        = .next ((s.wr F.LNK_LANE_STAT_TX_SUB n 0).onLane n fun x =>
          { x with items := 0, frames := 0, line := [.burst, .seed x.txScr]
                   free := max (s.uiNow (n.val / 12)) (x.wakeAt + wakeLeast (s.pathRate (n.val / 12))) })) ∧
      (s.rd F.LNK_LANE_STAT_TX_SUB n ≠ 2 → exec (.fastExit n) s = .next s) ∧
      (s.rd F.LNK_LANE_STAT_TX_SUB n = 1 →
        ∃ t, exec (.refreshBurst n) s = .next t ∧
          t.lane n = { l with idleAt := t.clk.count, items := 0, frames := 0, line := [.burst, .seed l.txScr, .fill 1, .hush] } ∧
          s.reached t (l.idleAt + s.samplesUs 8000) ∧ t = { s with clk := t.clk, lnk := t.lnk }) ∧
      (s.rd F.LNK_LANE_STAT_TX_SUB n ≠ 1 → exec (.refreshBurst n) s = .next s) ∧
      (∃ t, exec (.lanePllUnlock n) s = .next t ∧ t.rd F.LNK_LANE_STAT_STATE n = 0 ∧ (t.lane n).pll = false ∧
        t.rdB F.LNK_EVT_DOWN_SEEN = true ∧ (t.lane n).slot0 = [] ∧ (t.lane n).buf = [] ∧
        s.laneLeft t n ∧ t = { s with free := t.free, regs := t.regs, tim := t.tim, lnk := t.lnk, fau := t.fau })) ∧
    (∀ p, ∃ t, exec (.clrErr p) s = .next t ∧
      (∀ m : Fin 24, t.regGet (F.LNK_LANE_VIOL + 8 * m.val) = 0 ∧ t.regGet (F.LNK_LANE_SYNC + 8 * m.val) = 0 ∧
        t.regGet (F.LNK_LANE_RX + 4 * m.val) = 0) ∧
      s.sameRegs t ((List.range 24).flatMap fun m => [F.LNK_LANE_VIOL + 8 * m, F.LNK_LANE_SYNC + 8 * m, F.LNK_LANE_RX + 4 * m]) ∧
      t = { s with free := s.free + 1, regs := t.regs, ports := t.ports })

/-- LANE_SET_CHANGE (R265, R267, R269): a rate code of 3 is a configuration fault; with both rates as they are only IDLE_US is
stored; a rate change that admission lets moves every lane of its path out of UP; one that it refuses changes no rate; a
lane's inversions and S1_KEEP are stored, switching a lane off takes it to OFF, and switching one on from OFF starts its bring-up. -/
def Obligations.LaneSetChange : Prop :=
  ∀ (s : State) (p : Fin 10) (w : Word), s.Working →
    (getField w 0 2 = 3 ∨ getField w 2 2 = 3 →
      exec (.laneSetChange p none w) s = .next (s.accepted p fun u =>
        (u.wr F.LNK_PATH_CFG_IDLE_US 0 (min 1000 (getField w 8 10))).configFault s.locCx F.LNK_PATH_CFG)) ∧
    (getField w 0 2 ≠ 3 → getField w 2 2 ≠ 3 →
      getField w 0 2 = s.rd F.LNK_PATH_CFG_RATE_A → getField w 2 2 = s.rd F.LNK_PATH_CFG_RATE_B →
      ∃ t, exec (.laneSetChange p none w) s = .next t ∧ t.rd F.LNK_PATH_CFG_IDLE_US = min 1000 (getField w 8 10) ∧
        t.rd F.LNK_PATH_CFG_RATE_A = getField w 0 2 ∧ t.rd F.LNK_PATH_CFG_RATE_B = getField w 2 2 ∧
        s.sameRegs t [F.LNK_PATH_CFG] ∧ t = { s with free := s.free + 1, regs := t.regs, ports := t.ports }) ∧
    (getField w 0 2 ≠ 3 → getField w 2 2 ≠ 3 → getField w 0 2 ≠ s.rd F.LNK_PATH_CFG_RATE_A →
      (∀ q, AdmitCfg.refusedBy { s.admitCfg with rateA := getField w 0 2, rateB := getField w 2 2 } s.clk.fs = some q →
        exec (.laneSetChange p none w) s = .next (s.accepted p fun u =>
          (u.wr F.LNK_PATH_CFG_IDLE_US 0 (min 1000 (getField w 8 10))).admitFault q)) ∧
      (AdmitCfg.refusedBy { s.admitCfg with rateA := getField w 0 2, rateB := getField w 2 2 } s.clk.fs = none →
        ∃ t, exec (.laneSetChange p none w) s = .next t ∧ t.rd F.LNK_PATH_CFG_RATE_A = getField w 0 2 ∧
          t.rd F.LNK_PATH_CFG_RATE_B = getField w 2 2 ∧ (∀ n < 12, t.laneUp n = false) ∧
          s.sameMain t ([F.LNK_PATH_CFG, F.TIM_LAT_RX_UI.addr 0, F.TIM_LAT_RX_UI.addr 1] ++ (List.range 24).flatMap laneDownRegs) ∧
          t = { s with free := t.free, regs := t.regs, ports := t.ports, tim := t.tim, lnk := t.lnk, fau := t.fau })) ∧
    (∀ n : Fin 24, n.val ≠ 0 → n.val ≠ 12 → getField w 4 1 = 0 →
      (getField w 0 1 = s.rd F.LNK_LANE_CTL_EN n →
        ∃ t, exec (.laneSetChange p (some n) w) s = .next t ∧ t.rd F.LNK_LANE_CTL_TX_INV n = getField w 1 1 ∧
          t.rd F.LNK_LANE_CTL_RX_INV n = getField w 2 1 ∧ t.rd F.LNK_LANE_CTL_S1_KEEP n = getField w 3 1 ∧
          t.rd F.LNK_LANE_CTL_EN n = getField w 0 1 ∧ s.sameRegs t [F.LNK_LANE_CTL + 4 * n.val] ∧
          t = { s with free := s.free + 1, regs := t.regs, ports := t.ports }) ∧
      (getField w 0 1 = 1 → s.rd F.LNK_LANE_CTL_EN n = 0 →
        AdmitCfg.refusedBy { s.admitCfg with lanes := s.admitCfg.lanes ||| 2 ^ n.val } s.clk.fs = none →
        s.rd F.LNK_LANE_STAT_STATE n = 0 → (s.lane n).pll = true → (s.lane n).shed = false →
        ∃ t, exec (.laneSetChange p (some n) w) s = .next t ∧ t.rd F.LNK_LANE_CTL_EN n = 1 ∧ t.rd F.LNK_LANE_STAT_STATE n = 1 ∧
          (t.lane n).attempt = ((s.lane n).attempt + 1) % 2 ^ 32 ∧
          s.sameRegs t [F.LNK_LANE_CTL + 4 * n.val, F.LNK_LANE_STAT + 4 * n.val] ∧
          t = { s with free := t.free, regs := t.regs, ports := t.ports, lnk := t.lnk }) ∧
      (getField w 0 1 = 0 → s.rd F.LNK_LANE_CTL_EN n = 1 → s.admitCfg.lanes.testBit n = true →
        (AdmitCfg.refusedBy { s.admitCfg with lanes := s.admitCfg.lanes - 2 ^ n.val } s.clk.fs = none →
          ∃ t, exec (.laneSetChange p (some n) w) s = .next t ∧ t.rd F.LNK_LANE_CTL_EN n = 0 ∧
            t.rd F.LNK_LANE_STAT_STATE n = 0 ∧
            s.sameMain t (F.LNK_LANE_CTL_EN.addr n :: laneDownRegs n) ∧
            t = { s with free := t.free, regs := t.regs, ports := t.ports, tim := t.tim, lnk := t.lnk, fau := t.fau }) ∧
        (∀ q, AdmitCfg.refusedBy { s.admitCfg with lanes := s.admitCfg.lanes - 2 ^ n.val } s.clk.fs = some q →
          ∃ t, exec (.laneSetChange p (some n) w) s = .next t ∧ t.rd F.LNK_LANE_CTL_EN n = 1 ∧ t.lnk = s.lnk ∧
            s.sameMain t [F.LNK_LANE_CTL + 4 * n.val] ∧
            t = { s with free := t.free, regs := t.regs, ports := t.ports, fau := t.fau })))

/-- Host memory as the module reaches it (R294, R295, R299, R331, R332, R342, R345): a nudge starts a poll or has one follow; an
answer to no outstanding read is rejected, one of a poll is kept, one that failed fails the poll or stops its ring, and
descriptors move their ring's index on; a failed write stops its ring or fails the command whose output it was; the oldest read, or
a poll of which a read was never sent, times out; a change of path drops
the reads not yet sent, and ends in a poll on the new path. -/
def Obligations.HostMemory : Prop :=
  ∀ (s : State), s.Working → s.prm.rings.length = 36 →
    (s.mayPoll = true → ∃ t, exec .nudge s = .next t ∧ t.prm.pollAt = some s.clk.count ∧ t.prm.nudge = false ∧
      t.lnk.mem = s.lnk.mem ++ [{ pos := 1, ftype := 0x21, addr := s.dbBase, data := [18], key := 200 },
        { pos := 1, ftype := 0x21, addr := s.dbBase + 0x90, data := [18], key := 201 }] ∧
      t = { s with lnk := t.lnk, prm := t.prm }) ∧
    (s.mayPoll = false → s.rdB F.PRM_STAT_COMMITTED = true → exec .nudge s = .next { s with prm := { s.prm with nudge := true } }) ∧
    (s.rdB F.PRM_STAT_COMMITTED = false → exec .nudge s = .next s) ∧
    (∀ (lane : Fin 24) (tag : BitVec 16) status data,
      s.lnk.reads.find? (fun r => r.path == lane.val / 12 && r.tag == tag.toNat) = none →
      exec (.memRdData lane tag status data) s = .next (s.rejectFrame lane)) ∧
    (∀ (lane : Fin 24) (tag : BitVec 16) (status : Fin 4) data (r : MemRead),
      s.lnk.reads.find? (fun r => r.path == lane.val / 12 && r.tag == tag.toNat) = some r →
      (∀ i : Fin 2, r.purpose = 200 + i.val → status.val = 0 →
        ∃ t, exec (.memRdData lane tag status data) s = .next t ∧ t.lnk = { s.lnk with reads := s.lnk.reads.erase r } ∧
          t.prm = { s.prm with answers := s.prm.answers.set i.val (some data) } ∧ t = { s with lnk := t.lnk, prm := t.prm }) ∧
      (∀ i : Fin 2, r.purpose = 200 + i.val → status.val ≠ 0 →
        ∃ t, exec (.memRdData lane tag status data) s = .next t ∧ t.prm.pollAt = none ∧ t.prm.failRun = s.prm.failRun + 1 ∧
          t.rdB F.PRM_EVT_POLL_FAIL_SEEN = true ∧ (t.regGet F.LNK_MEM_EVT).getLsbD 1 = true ∧
          s.sameMain t [F.PRM_EVT, F.LNK_MEM_EVT] ∧
          t = { s with free := t.free, regs := t.regs, tim := t.tim, lnk := t.lnk, que := t.que, fau := t.fau, prm := t.prm }) ∧
      (∀ ring : Fin 8, r.purpose = 210 + ring.val → status.val ≠ 0 →
        ∃ t, exec (.memRdData lane tag status data) s = .next t ∧ t.rdB F.PRM_RING_STAT_STOPPED ring = true ∧
          t.rd F.PRM_RING_STAT_ERR ring = 3 ∧ t.lnk = { s.lnk with reads := s.lnk.reads.erase r } ∧
          (t.regGet F.LNK_MEM_EVT).getLsbD 1 = true ∧
          s.sameMain t [F.PRM_RING_STAT + 16 * ring.val, F.PRM_EVT, F.LNK_MEM_EVT] ∧
          t = { s with regs := t.regs, tim := t.tim, lnk := t.lnk, que := t.que }) ∧
      (∀ ring : Fin 8, r.purpose = 210 + ring.val → status.val = 0 →
        ∃ t, exec (.memRdData lane tag status data) s = .next t ∧
          (t.ring ring).head = ((s.ring ring).head + r.count / 4) % 2 ^ 64 ∧
          s.sameMain t (F.PRM_EVT :: (List.range 8).map fun q => F.PRM_RING_STAT + 16 * q) ∧
          t = { s with free := t.free, regs := t.regs, tim := t.tim, lnk := t.lnk, que := t.que, fau := t.fau, prm := t.prm })) ∧
    (∀ addr, exec (.memWrErr (addr, 0)) s = .next s) ∧
    (∀ (addr : BitVec 64) (status : Fin 8) (cmds : List PCmd), status ≠ 0 →
      cmds = s.prm.cmds.map (fun c => if c.outputs (addr.toNat / 8 * 8) 1 then { c with status := 14 } else c) →
      (∀ r, s.ringAt (addr.toNat / 8 * 8) = some r → r < 36 →
        ∃ t, exec (.memWrErr (addr, status)) s = .next t ∧ t.rdB F.PRM_RING_STAT_STOPPED r = true ∧ t.rd F.PRM_RING_STAT_ERR r = 4 ∧
          (t.regGet F.LNK_MEM_EVT).getLsbD 1 = true ∧ s.sameMain t [F.PRM_RING_STAT + 16 * r, F.PRM_EVT, F.LNK_MEM_EVT] ∧
          t = { s with regs := t.regs, tim := t.tim, que := t.que }) ∧
      (s.ringAt (addr.toNat / 8 * 8) = none →
        ∃ t, exec (.memWrErr (addr, status)) s = .next t ∧ t.prm = { s.prm with cmds := cmds } ∧
          (t.regGet F.LNK_MEM_EVT).getLsbD 1 = true ∧
          s.sameRegs t [F.LNK_MEM_EVT] ∧ t = { s with regs := t.regs, prm := t.prm })) ∧
    (s.lnk.reads = [] → s.pollUnsent = false ∨ s.prm.pollAt = none → exec .memReadTimeout s = .next s) ∧
    (∀ n, s.lnk.reads = [] → s.pollUnsent = true → s.prm.pollAt = some n →
      ∃ t, exec .memReadTimeout s = .next t ∧ t.prm.pollAt = none ∧ t.prm.failRun = s.prm.failRun + 1 ∧
        t.rdB F.PRM_EVT_POLL_FAIL_SEEN = true ∧ (t.regGet F.LNK_MEM_EVT).getLsbD 0 = true ∧
        s.reached t (n + s.samplesUs (s.rd F.LNK_MEM_CFG_TIMEOUT_US)) ∧ s.sameMain t [F.PRM_EVT, F.LNK_MEM_EVT] ∧
        t = { s with free := t.free, regs := t.regs, clk := t.clk, tim := t.tim, lnk := t.lnk, que := t.que, fau := t.fau
                     prm := t.prm }) ∧
    (∀ r rest, s.lnk.reads = r :: rest → 202 ≤ r.purpose →
      s.pollUnsent = false ∨ s.prm.pollAt = none ∨ (∃ n, s.prm.pollAt = some n ∧ r.at_ < n) →
      ∃ t, exec .memReadTimeout s = .next t ∧ t.lnk = { s.lnk with reads := rest } ∧ (t.regGet F.LNK_MEM_EVT).getLsbD 0 = true ∧
        s.reached t (r.at_ + s.samplesUs (s.rd F.LNK_MEM_CFG_TIMEOUT_US)) ∧ s.sameMain t [F.LNK_MEM_EVT] ∧
        t = { s with free := t.free, regs := t.regs, clk := t.clk, lnk := t.lnk, fau := t.fau }) ∧
    (s.rdB F.PRM_STAT_COMMITTED = true → s.prm.paused = false → s.wantedPath ≠ s.prm.path →
      ∃ t, exec .memPathChange s = .next t ∧ t.prm.paused = true ∧ t.prm.resuming = false ∧ t.prm.changeAt = s.clk.count ∧
        t.lnk.mem = s.lnk.mem.filter (fun x => x.ftype != 0x21) ∧ t = { s with lnk := t.lnk, prm := t.prm }) ∧
    (s.rdB F.PRM_STAT_COMMITTED = false ∨ s.prm.paused = true ∨ s.wantedPath = s.prm.path →
      exec .memPathChange s = .next s) ∧
    (s.prm.paused = true → s.prm.resuming = false → (∀ r ∈ s.lnk.reads, r.path ≠ s.prm.path) →
      ∃ t, exec .memPathResume s = .next t ∧ t.prm.path = s.wantedPath ∧ t.prm.resuming = true ∧
        t.prm.pollAt = some t.clk.count ∧ s.reached t (s.prm.lastWrite + s.samplesUs (s.rd F.LNK_MEM_CFG_TIMEOUT_US)) ∧
        t = { s with clk := t.clk, lnk := t.lnk, prm := t.prm }) ∧
    (s.prm.paused = false ∨ s.prm.resuming = true ∨ (∃ r ∈ s.lnk.reads, r.path = s.prm.path) →
      exec .memPathResume s = .next s)

/-- COMMIT, polls and RESUME (R329 to R331): a COMMIT that fails a check stores its code, one that passes locks the set-up and
starts polling; a poll starts two reads of the doorbell page; its completion takes every valid index; RESUME asks for a
stopped ring. -/
def Obligations.PrompterControl : Prop :=
  ∀ (s : State), s.Working → s.prm.rings.length = 36 →
    (∀ p, s.rdB F.PRM_STAT_COMMITTED = true → exec (.commit p) s = .next (s.accepted p fun u => u)) ∧
    (∀ p, s.rdB F.PRM_STAT_COMMITTED = false → s.commitErr ≠ 0 →
      ∃ t, exec (.commit p) s = .next t ∧ t.rd F.PRM_STAT_COMMIT_ERR = s.commitErr ∧ t.rdB F.PRM_STAT_COMMITTED = false ∧
        s.sameRegs t [F.PRM_STAT] ∧ t = { s with free := s.free + 1, regs := t.regs, ports := t.ports }) ∧
    (∀ p, s.rdB F.PRM_STAT_COMMITTED = false → s.commitErr = 0 →
      ∃ t, exec (.commit p) s = .next t ∧ t.rd F.PRM_STAT_COMMIT_ERR = 0 ∧ t.rdB F.PRM_STAT_COMMITTED = true ∧
        t.locked = true ∧ t.rdB F.PRM_STAT_POLLING = decide (s.stage < 4) ∧
        t.prm = { s.prm with path := s.wantedPath, lastPoll := none, pollAt := none } ∧ s.sameRegs t [F.PRM_STAT] ∧
        t = { s with free := s.free + 1, regs := t.regs, ports := t.ports, prm := t.prm }) ∧
    (s.mayPoll = true →
      ∃ t, exec .pollStart s = .next t ∧ t.prm.pollAt = some t.clk.count ∧ t.prm.lastPoll = some t.clk.count ∧
        t.prm.answers = [none, none] ∧
        (∀ n, s.prm.lastPoll = some n → s.prm.nudge = false → s.reached t (n + s.pollInterval)) ∧
        t.lnk.mem = s.lnk.mem ++ [{ pos := 1, ftype := 0x21, addr := s.dbBase, data := [18], key := 200 },
          { pos := 1, ftype := 0x21, addr := s.dbBase + 0x90, data := [18], key := 201 }] ∧
        t = { s with clk := t.clk, lnk := t.lnk, prm := t.prm }) ∧
    (s.mayPoll = false → exec .pollStart s = .next s) ∧
    (∀ n a b, s.prm.pollAt = some n → s.prm.answers = [some a, some b] → s.prm.resuming = false →
      ∃ t, exec .pollComplete s = .next t ∧ t.prm.pollAt = none ∧ t.prm.failRun = 0 ∧
        t.rd F.PRM_POLL_TOTAL_COUNT = min (2 ^ 32 - 1) (s.rd F.PRM_POLL_TOTAL_COUNT + 1) ∧
        (∀ (r : Fin 36) (i : Nat), i = ((a ++ b).getD r.val 0).toNat → s.ringEn r = true → s.ringStopped r = false →
          ((if r.val < 8 then idxDiff i (s.ring r).head else idxDiff (s.ring r).head i) ≤ s.ringLen r →
            (t.ring r).tail = i) ∧
          (s.ringLen r < (if r.val < 8 then idxDiff i (s.ring r).head else idxDiff (s.ring r).head i) →
            t.rdB F.PRM_RING_STAT_STOPPED r = true ∧ t.rd F.PRM_RING_STAT_ERR r = 1)) ∧
        s.sameMain t (F.PRM_POLL_TOTAL :: F.PRM_EVT :: F.PRM_STAT :: (List.range 36).map fun r => F.PRM_RING_STAT + 16 * r) ∧
        t = { s with free := t.free, regs := t.regs, tim := t.tim, lnk := t.lnk, que := t.que, fau := t.fau, prm := t.prm }) ∧
    (s.prm.pollAt = none → exec .pollComplete s = .next s) ∧
    (∀ p (ring : Fin 36), s.ringStopped ring = true →
      ∃ t, exec (.ringResume p ring) s = .next t ∧ t.ring ring = { s.ring ring with resume := true } ∧
        (∀ q : Fin 36, q ≠ ring → t.ring q = s.ring q) ∧ s.sameRegs t [] ∧
        t = { s with free := s.free + 1, regs := t.regs, ports := t.ports, prm := t.prm }) ∧
    (∀ p (ring : Fin 36), s.ringStopped ring = false → exec (.ringResume p ring) s = .next (s.accepted p fun u => u))

/-- The Prompter's commands (R333 to R335): the command whose turn has come completes with its entry: NOP and FENCE with DONE,
REG_WR with the status of the write, REG_RD with the value read, BLOCK_RD with its bytes as output or with the status of what
its descriptor lacks, INJECT with its refusal or as a request that waits, CODEC as a job that waits. One whose turn has not
come does nothing. -/
def Obligations.PrompterCommands : Prop :=
  ∀ (s : State), s.Working →
    (s.turnOf 0x00 = none → exec .nop s = .next s) ∧ (s.turnOf 0x01 = none → exec .fence s = .next s) ∧
    (s.turnOf 0x02 = none → exec .regWr s = .next s) ∧ (s.turnOf 0x03 = none → exec .regRd s = .next s) ∧
    (s.turnOf 0x04 = none → exec .blockRd s = .next s) ∧ (s.turnOf 0x10 = none → ∀ ns, exec (.inject ns) s = .next s) ∧
    (s.turnOf 0x20 = none → exec .codec s = .next s) ∧
    (∀ (c : PCmd) (a n : Nat), s.soleCmd c → a = (c.words.getD 1 0).toNat % 2 ^ 32 → n = (c.words.getD 2 0).toNat % 2 ^ 32 →
      (c.opcode = 0x00 → ∃ t, exec .nop s = .next t ∧ s.completed t c 0 0 0 0 ∧
        s.sameRegs t [F.PRM_RING_STAT + 16 * c.ring] ∧ t = { s with regs := t.regs, lnk := t.lnk, prm := t.prm }) ∧
      (c.opcode = 0x01 → ∃ t, exec .fence s = .next t ∧ s.completed t c 0 0 0 0 ∧
        s.sameRegs t [F.PRM_RING_STAT + 16 * c.ring] ∧ t = { s with regs := t.regs, lnk := t.lnk, prm := t.prm }) ∧
      (c.opcode = 0x02 → (inCells a || inRingWindow a) = false → (a % 4 ≠ 0 ∨ regAt a = none) →
        ∃ t, exec .regWr s = .next t ∧ s.completed t c 0 2 0 0 ∧ s.sameMain t [F.PRM_RING_STAT + 16 * c.ring] ∧
          t = { s with regs := t.regs, lnk := t.lnk, prm := t.prm }) ∧
      (∀ r, c.opcode = 0x02 → a % 4 = 0 → regAt a = some r → 0x300000 ≤ a → a < 0x340000 →
        ∃ t, exec .regWr s = .next t ∧ s.completed t c 0 1 0 0 ∧ s.sameRegs t [F.PRM_RING_STAT + 16 * c.ring] ∧
          t = { s with regs := t.regs, lnk := t.lnk, prm := t.prm }) ∧
      (∀ r w, c.opcode = 0x02 → w = BitVec.ofNat 32 (c.words.getD 2 0).toNat → a % 4 = 0 → regAt a = some r → a < 0x2C0000 →
        (∀ f ∈ r.fields, f.acc ≠ .rwl) →
        (∀ u : State, u.writeMgt r (2 + c.ring) a w = none ∧ u.writeFront r a w s.writeNs = none ∧ u.writeCore r a w = none ∧
          u.writeLink r a w = none) →
        ∃ t, exec .regWr s = .next t ∧ s.completed t c 0 0 0 0 ∧ t.regGet a = storedWord r s.locked (s.regGet a) w ∧
          s.sameRegs t [a, F.PRM_RING_STAT + 16 * c.ring] ∧
          t = { s with free := s.free + 1, regs := t.regs, lnk := t.lnk, prm := t.prm }) ∧
      (c.opcode = 0x03 →
        ∃ t, exec .regRd s = .next t ∧
          s.completed t c (BitVec.ofNat 64 ((s.portRead (2 + c.ring) a).port (2 + c.ring)).value.toNat)
            (if assigned a then 0 else 2) 0 0 ∧
          (inRingWindow a = false → t.trg = s.trg ∧ t.codec = s.codec) ∧ s.sameRegs t [F.PRM_RING_STAT + 16 * c.ring] ∧
          t = { s with regs := t.regs, ports := t.ports, lnk := t.lnk, prm := t.prm, trg := t.trg, codec := t.codec }) ∧
      (c.opcode = 0x04 → (n % 8 ≠ 0 ∨ n < 8 ∨ 16777216 < n ∨ (c.words.getD 3 0).toNat % 8 ≠ 0) →
        ∃ t, exec .blockRd s = .next t ∧ s.completed t c 0 4 0 0 ∧ s.sameRegs t [F.PRM_RING_STAT + 16 * c.ring] ∧
          t = { s with regs := t.regs, lnk := t.lnk, prm := t.prm }) ∧
      (c.opcode = 0x04 → n % 8 = 0 → 8 ≤ n → n ≤ 16777216 → (c.words.getD 3 0).toNat % 8 = 0 →
        (a % 8 ≠ 0 ∨ inOneBlock a n = false) →
        ∃ t, exec .blockRd s = .next t ∧ s.completed t c 0 2 0 0 ∧ s.sameRegs t [F.PRM_RING_STAT + 16 * c.ring] ∧
          t = { s with regs := t.regs, lnk := t.lnk, prm := t.prm }) ∧
      (c.opcode = 0x04 → n % 8 = 0 → 8 ≤ n → n ≤ 16777216 → (c.words.getD 3 0).toNat % 8 = 0 → a % 8 = 0 →
        inOneBlock a n = true →
        ∃ t d, exec .blockRd s = .next t ∧ t.prm.cmds = [d] ∧ d.finished = true ∧ d.status = 0 ∧ d.low = n ∧
          d.outAddr = (c.words.getD 3 0).toNat ∧ d.outLen = n ∧ (inRingWindow a = false → t.trg = s.trg ∧ t.codec = s.codec) ∧
          s.sameMain t [] ∧ t = { s with regs := t.regs, tim := t.tim, que := t.que, prm := t.prm, trg := t.trg, codec := t.codec }) ∧
      (∀ (ns : Nat) (x : Inject) st, c.opcode = 0x10 →
        x = { ch := (c.words.getD 1 0).toNat % 64, signal := ((c.words.getD 1 0).toNat / 64 % 8,
              (c.words.getD 1 0).toNat / 512 % 1024, (c.words.getD 1 0).toNat / 2 ^ 19 % 4), prm := some (c.ring, c.idx) } →
        s.injRefusal x = some st →
        ∃ t res, exec (.inject ns) s = .next t ∧ s.completed t c res st 0 0 ∧ t.rd F.ADC_INJ_STAT_LAST_STATUS (x.ch / 4) = st ∧
          t = { s with free := t.free, regs := t.regs, lnk := t.lnk, prm := t.prm }) ∧
      (∀ (ns : Nat) (x : Inject), c.opcode = 0x10 →
        x = { ch := (c.words.getD 1 0).toNat % 64, signal := ((c.words.getD 1 0).toNat / 64 % 8,
              (c.words.getD 1 0).toNat / 512 % 1024, (c.words.getD 1 0).toNat / 2 ^ 19 % 4), prm := some (c.ring, c.idx) } →
        s.injRefusal x = none → s.adc.inj.length = 16 →
        ∃ t y, exec (.inject ns) s = .next t ∧ t.prm.cmds = [{ c with started := true }] ∧
          y ∈ t.injQueue (x.ch / 4) ∧ y.ch = x.ch ∧ y.prm = some (c.ring, c.idx) ∧ y.at_ = s.clk.count ∧ y.signal = x.signal ∧
          (t.injQueue (x.ch / 4)).length = (s.injQueue (x.ch / 4)).length + 1 ∧
          (∀ u : Fin 64, u.val / 4 ≠ x.ch / 4 → t.chan u = s.chan u) ∧
          s.sameRegs t [F.ADC_INJ_STAT + 4 * (x.ch / 4)] ∧
          t = { s with regs := t.regs, chans := t.chans, prm := t.prm, adc := t.adc }) ∧
      (c.opcode = 0x20 → (s.codec.filter fun j => !j.running).length < 16 →
        ∃ t, exec .codec s = .next t ∧ t.codec = s.codec ++ [{ ring := c.ring, idx := c.idx, words := c.words }] ∧
          t.prm.cmds = [{ c with started := true }] ∧
          t.rd F.CDC_JOB_STAT_WAITING = (s.codec.filter fun j => !j.running).length + 1 ∧ s.sameRegs t [F.CDC_JOB_STAT] ∧
          t = { s with regs := t.regs, prm := t.prm, codec := t.codec }))

/-- The time exchange (R309 to R313): ORIGIN on lane 0 or 12 opens a round with t2; FOLLOW gives t1; PROBE_SEND stamps t3, 20 to
100 us after t2, and sends PROBE; ANSWER gives t4, before or after FOLLOW: with its four stamps the round is computed, is accepted
or rejected by the delay gate, and is reported. A frame of another round or later than 10 ms after t2 gives the round up, which is
counted as rejected; one on another lane is itself rejected, and one that finds no round has no effect. -/
def Obligations.TimeExchange : Prop :=
  ∀ (s : State), s.Working → s.tim.rounds.length = 2 → s.tim.delays.length = 2 → s.tim.lastTheta.length = 2 →
    s.moduleId ≠ 0 → s.clk.running = true →
    (∀ (lane : Fin 24) (round master : BitVec 16) (k : Nat) (phi : Fin 1024) (p : Nat), p = lane.val / 12 →
      (s.laneUp lane = false → exec (.origin lane round master k phi) s = .next s) ∧
      (s.laneUp lane = true → lane.val ≠ 0 → lane.val ≠ 12 →
        ∃ t, exec (.origin lane round master k phi) s = .next t ∧
          t.rd F.LNK_LANE_RX_REJECT lane = min (2 ^ F.LNK_LANE_RX_REJECT.width - 1) (s.rd F.LNK_LANE_RX_REJECT lane + 1) ∧
          s.sameRegs t [F.LNK_RX_EVT, F.LNK_LANE_RX_REJECT.addr lane] ∧ t = { s with regs := t.regs }) ∧
      (s.laneUp lane = true → (lane.val = 0 ∨ lane.val = 12) → s.tim.rounds.getD p none = none →
        ∃ t, exec (.origin lane round master k phi) s = .next t ∧
          t.tim = { s.tim with
            rounds := s.tim.rounds.set p (some { round := round.toNat, t2Count := k
                                                 t2 := s.stampUnits k phi - s.rd F.TIM_LAT_RX_UI p * s.uiUnits p })
            master := s.tim.master.set p master.toNat } ∧
          s.reached t k ∧ t = { s with clk := t.clk, tim := t.tim })) ∧
    (∀ (lane : Fin 24) (round : BitVec 16) ns frac, exchangeLane lane = false →
      exec (.follow lane round ns frac) s = .next (s.rejectFrame lane) ∧
      exec (.answer lane round ns frac) s = .next (s.rejectFrame lane)) ∧
    (∀ (lane : Fin 24) (round : BitVec 16) (ns : BitVec 64) (frac : BitVec 16) (p : Nat), p = lane.val / 12 →
      exchangeLane lane = true →
      (s.tim.rounds.getD p none = none →
        exec (.follow lane round ns frac) s = .next s ∧ exec (.answer lane round ns frac) s = .next s) ∧
      (∀ r u, s.tim.rounds.getD p none = some r → r.round = round.toNat → s.roundLate r = false →
        u = { s with tim := { s.tim with
          rounds := s.tim.rounds.set p (some { r with t1 := some (nsUnits ns.toNat frac.toNat) }) } } →
        (r.t3 = none ∨ r.t4 = none → exec (.follow lane round ns frac) s = .next u) ∧
        (r.t3 ≠ none → r.t4 ≠ none → exec (.follow lane round ns frac) s = .next (u.computeRound p))) ∧
      (∀ r u, s.tim.rounds.getD p none = some r → r.round = round.toNat → s.roundLate r = false → r.t3 ≠ none →
        u = { s with tim := { s.tim with
          rounds := s.tim.rounds.set p (some { r with t4 := some (nsUnits ns.toNat frac.toNat) }) } } →
        (r.t1 = none → exec (.answer lane round ns frac) s = .next u) ∧
        (r.t1 ≠ none → exec (.answer lane round ns frac) s = .next (u.computeRound p))) ∧
      (∀ r, s.tim.rounds.getD p none = some r → r.round ≠ round.toNat ∨ s.roundLate r = true →
        ∃ t, exec (.follow lane round ns frac) s = .next t ∧ t.tim = { s.tim with rounds := s.tim.rounds.set p none } ∧
          t.rd F.TIM_PATH_CNT_REJECTED p = min 65535 (s.rd F.TIM_PATH_CNT_REJECTED p + 1) ∧
          s.sameRegs t [F.TIM_PATH_CNT_REJECTED.addr p] ∧ t = { s with regs := t.regs, tim := t.tim }) ∧
      (∀ r, s.tim.rounds.getD p none = some r → r.round ≠ round.toNat ∨ s.roundLate r = true ∨ r.t3 = none →
        ∃ t, exec (.answer lane round ns frac) s = .next t ∧ t.tim = { s.tim with rounds := s.tim.rounds.set p none } ∧
          t.rd F.TIM_PATH_CNT_REJECTED p = min 65535 (s.rd F.TIM_PATH_CNT_REJECTED p + 1) ∧
          s.sameRegs t [F.TIM_PATH_CNT_REJECTED.addr p] ∧ t = { s with regs := t.regs, tim := t.tim })) ∧
    (∀ (path : Fin 2) (k : Nat) (phi : Fin 1024),
      (s.tim.rounds.getD path none = none ∨ (∃ r, s.tim.rounds.getD path none = some r ∧ r.t3 ≠ none) →
        exec (.probeSend path k phi) s = .next s) ∧
      (∀ r, s.tim.rounds.getD path none = some r → r.t3 = none →
        s.laneUp (12 * path.val) = false ∨ r.t2Count + s.samplesUs 100 < s.clk.count →
        ∃ t, exec (.probeSend path k phi) s = .next t ∧ t.tim = { s.tim with rounds := s.tim.rounds.set path none } ∧
          t.rd F.TIM_PATH_CNT_REJECTED path = min 65535 (s.rd F.TIM_PATH_CNT_REJECTED path + 1) ∧
          s.sameRegs t [F.TIM_PATH_CNT_REJECTED.addr path] ∧ t = { s with regs := t.regs, tim := t.tim }) ∧
      (∀ r n, s.tim.rounds.getD path none = some r → r.t3 = none → s.laneUp (12 * path.val) = true →
        s.clk.count ≤ r.t2Count + s.samplesUs 100 → n = clampNat (r.t2Count + s.samplesUs 20) (r.t2Count + s.samplesUs 100) k →
        (s.queue 0).fill + 1 ≤ queueCap 0 →
        ∃ t y, exec (.probeSend path k phi) s = .next t ∧
          t.tim = { s.tim with
            rounds := s.tim.rounds.set path
              (some { r with t3 := some (s.stampUnits n phi + s.rd F.TIM_LAT_TX_UI path * s.uiUnits path) }) } ∧
          (t.queue 0).waiting = (s.queue 0).waiting ++ [y] ∧ y.words = packetWords [s.timeWord 3 r.round] ∧
          y.ftype = 0x08 ∧ y.only = some path.val ∧ s.reached t n ∧ s.sameMain t [] ∧
          t = { s with regs := t.regs, clk := t.clk, tim := t.tim, que := t.que })) ∧
    (∀ (p : Fin 2) r t1 t3 t4, s.tim.rounds.getD p none = some r → r.t1 = some t1 → r.t3 = some t3 → r.t4 = some t4 →
      ∀ v t, v = roundValues t1 r.t2 t3 t4 (s.rdS F.TIM_ASYM_PS p) → t = s.computeRound p →
      (s.queue 0).fill + 4 ≤ queueCap 0 → ∃ y, (t.queue 0).waiting = (s.queue 0).waiting ++ [y] ∧
        t.tim.rounds = s.tim.rounds.set p none ∧ y.words.length = 4 ∧ y.ftype = 0x08 ∧ y.only = some p.val ∧
        (s.delayGate p v.2 = true → t.rd F.TIM_PATH_CNT_ACCEPTED p = min 65535 (s.rd F.TIM_PATH_CNT_ACCEPTED p + 1) ∧
          t.pathGood p = true ∧ t.tim.delays.getD p [] = (v.2 :: s.tim.delays.getD p []).take 16 ∧
          t.tim.lastTheta.getD p 0 = v.1) ∧
        (s.delayGate p v.2 = false → t.rd F.TIM_PATH_CNT_REJECTED p = min 65535 (s.rd F.TIM_PATH_CNT_REJECTED p + 1) ∧
          t.tim = { s.tim with rounds := s.tim.rounds.set p none } ∧ s.sameMain t [F.TIM_PATH_CNT_REJECTED.addr p]) ∧
        t = { s with free := t.free, regs := t.regs, tim := t.tim, que := t.que, fau := t.fau })

/-- The clock (R304, R306, R314 to R317): an accepted round of the path in use moves a free clock to acquisition, steers a locked one
by the servo's rate at N_e, is refused when it lies beyond the jump threshold, and makes one step, by the latest refused offset,
after ACCEPT_JUMP; at N_e the oldest relation takes force, and the marks of elapsed time move with its step; a repeat sends the
one in force. -/
def Obligations.TimeServo : Prop :=
  ∀ (s : State), s.Working → s.clk.running = true →
    (∀ (lane : Fin 24) (round : BitVec 16) (ns : BitVec 64) (frac : BitVec 16) (p : Nat), p = lane.val / 12 →
      ∀ r, s.tim.rounds.getD p none = some r → ∀ t1, r.t1 = some t1 → ∀ t3, r.t3 = some t3 →
      ∀ (v : Int × Int), v = roundValues t1 r.t2 t3 (nsUnits ns.toNat frac.toNat) (s.rdS F.TIM_ASYM_PS p) →
      ∀ theta, theta = v.1 → r.round = round.toNat → exchangeLane lane = true → s.roundLate r = false →
      s.delayGate p v.2 = true → s.rd F.TIM_CTL_PRIMARY = p → s.ppsMode = false →
      ∃ t, exec (.answer lane round ns frac) s = .next t ∧ t.pathInUse = p ∧
        (s.timState = timFree → t.timState = timAcquiring ∧ t.tim.points = [(rhe r.t2 1000, theta)]) ∧
        (s.timState = timLocked → s.beyondJump theta = false →
          t.timState = timLocked ∧ t.tim.integ = s.tim.integ + theta ∧
          ∃ x, t.tim.pending = s.tim.pending ++ [x] ∧ x.ne = effectiveCount s.clk.count ∧ x.step = false ∧
            x.rate = clampInt (-2 ^ 31) (2 ^ 31 - 1) (s.tim.projected.rate -
              rhe ((theta * 2 ^ s.rd F.TIM_SERVO_KI + (s.tim.integ + theta) * 2 ^ s.rd F.TIM_SERVO_KP) * 2 ^ 40)
                (2 ^ (s.rd F.TIM_SERVO_KP + s.rd F.TIM_SERVO_KI + 16) * 62500000))) ∧
        (s.timState = timLocked ∨ s.timState = timHoldover ∨ (s.timState = timRefused ∧ s.tim.accept = false) →
          s.beyondJump theta = true → t.timState = timRefused ∧ t.tim.pending = s.tim.pending ∧ t.tim.integ = s.tim.integ ∧
          t.tim.refused = theta ∧ t.rdPair F.TIM_JUMP_OFS_LO_OFS F.TIM_JUMP_OFS_HI_OFS 0 = wrapBits 64 (-theta)) ∧
        (s.timState = timRefused → s.tim.accept = true →
          t.timState = timLocked ∧ t.tim.accept = false ∧ t.tim.integ = 0 ∧
          ∃ x, t.tim.pending = s.tim.pending ++ [x] ∧ x.ne = effectiveCount s.clk.count ∧ x.step = true ∧
            x.rate = s.tim.projected.rate ∧
            x.offset = newOffset s.tim.projected (effectiveCount s.clk.count) s.tim.projected.rate s.tim.projected.tnom
              (-s.tim.refused))) ∧
    (s.tim.pending = [] → exec .rebase s = .next s) ∧
    (∀ r rest (u : Tim), s.tim.pending = r :: rest →
      u = { s.tim with offset := r.offset, rate := r.rate, tnom := r.tnom, pending := rest, relation := r } →
      ∃ t, exec .rebase s = .next t ∧ t.tim = u.shift (u.at_ r.ne 1 - s.tim.at_ r.ne 1) ∧
        s.reached t r.ne ∧ t = { s with clk := t.clk, tim := t.tim }) ∧
    (∀ r, r = s.tim.relation → (s.queue 1).blocked = [] → (s.queue 1).fill + 5 ≤ queueCap 1 →
      ∃ t y, exec .relationRepeat s = .next t ∧ (t.queue 1).waiting = (s.queue 1).waiting ++ [y] ∧
        y.words = packetWords
          [ word64 [(56, 0x13), (52, 5), (49, s.timState), (48, r.step.toNat), (32, r.master), (0, s.locCx)],
            BitVec.ofNat 64 r.ne, BitVec.ofInt 64 (r.offset / 65536),
            word64 [(48, (r.offset % 65536).toNat), (14, r.tnom)],
            word64 [(32, wrapBits 32 r.rate), (0, r.seq % 2 ^ 32)] ] ∧
        t.tim.relationAt = s.now ∧ t.tim.relation = r ∧ t.tim.pending = s.tim.pending ∧ s.sameMain t [] ∧
        t = { s with regs := t.regs, tim := t.tim, que := t.que }) ∧
    (∀ p, exec (.acceptJump p) s
      = .next (s.accepted p fun u => if s.timState = timRefused then { u with tim := { s.tim with accept := true } } else u))

/-- Losses, PPS, calibration and voting (R307, R316, R318 to R320, R322): a path or the PPS that fails is not good any more, and a
locked clock with no good source enters HOLDOVER; an edge of the polarity chosen, 1 s after the last one, makes PPS good and counts
towards a calibration of CAL_N edges, whose mean replaces the asymmetry, and one at another distance has PPS lost; a copy that
disagrees 16 times in a second is taken out; the heartbeat, 500 ms of network time after the last time-stamp. -/
def Obligations.TimeEvents : Prop :=
  ∀ (s : State), s.Working → s.clk.running = true →
    (∀ path : Fin 2, s.pathGood path = false → exec (.pathLoss path) s = .next s) ∧
    (∀ path : Fin 2, s.pathGood path = true → s.tim.delays.length = 2 →
      ∃ t, exec (.pathLoss path) s = .next t ∧ t.pathGood path = false ∧
        t.pathGood (1 - path.val) = s.pathGood (1 - path.val) ∧ t.tim.delays.getD path [] = [] ∧
        (t.regGet F.TIM_EVT2).getLsbD 0 = true ∧
        (∀ c, s.tim.cal = some c → t.tim.cal = if c.1 = path.val then none else s.tim.cal) ∧
        (0 < s.tim.tnom * (2 ^ 40 + s.tim.rate) →
          (s.tim.lastAccept.getD path none).getD 0 + s.rd F.TIM_SERVO_LOSS_ROUNDS * 62500000 * 65536 ≤ t.now) ∧
        t.pathInUse = (if s.rd F.TIM_CTL_PRIMARY ≠ path.val ∧ s.pathGood (s.rd F.TIM_CTL_PRIMARY) then s.rd F.TIM_CTL_PRIMARY
          else 1 - s.rd F.TIM_CTL_PRIMARY) ∧
        (s.timState = timLocked → s.ppsMode = false → s.pathGood (1 - path.val) = false → t.timState = timHoldover) ∧
        (s.timState ≠ timLocked ∨ s.pathGood (1 - path.val) = true → s.ppsMode = false → t.timState = s.timState) ∧
        s.sameMain t [F.TIM_STAT, F.TIM_EVT, F.TIM_EVT2, F.TIM_ASYM_MEAS] ∧
        t = { s with free := t.free, regs := t.regs, clk := t.clk, tim := t.tim, que := t.que, fau := t.fau }) ∧
    (s.rdB F.TIM_STAT_PPS_GOOD = false ∨ s.tim.ppsLast = none → exec .ppsLoss s = .next s) ∧
    (∀ last, s.rdB F.TIM_STAT_PPS_GOOD = true → s.tim.ppsLast = some last →
      ∃ t, exec .ppsLoss s = .next t ∧ t.rdB F.TIM_STAT_PPS_GOOD = false ∧ t.tim.cal = none ∧ t.tim.ppsLast = none ∧
        (0 < s.tim.tnom * (2 ^ 40 + s.tim.rate) → last + 2001000000 * 65536 ≤ t.now) ∧
        (s.timState = timLocked → s.ppsMode = true → t.timState = timHoldover) ∧
        s.sameMain t [F.TIM_STAT, F.TIM_EVT, F.TIM_ASYM_MEAS] ∧
        t = { s with free := t.free, regs := t.regs, clk := t.clk, tim := t.tim, que := t.que, fau := t.fau }) ∧
    (∀ (k : Nat) (phi : Fin 1024) rising, s.rdB F.TIM_PPS_CFG_EN = false ∨ s.rdB F.TIM_PPS_CFG_EDGE = rising →
      exec (.ppsEdge k (phi, rising)) s = .next s) ∧
    (∀ (k : Nat) (phi : Fin 1024) rising stamp (near : Bool), s.rdB F.TIM_PPS_CFG_EN = true → s.rdB F.TIM_PPS_CFG_EDGE ≠ rising →
      stamp = s.stampUnits k phi →
      near = (s.tim.ppsLast.any fun x => decide ((rhe stamp 1000 - x - 1000000000 * 65536).natAbs ≤ 1000000 * 65536)) →
      (s.ppsMode = false →
        ∃ t, exec (.ppsEdge k (phi, rising)) s = .next t ∧ t.tim.ppsLast = some (rhe stamp 1000) ∧
          t.rdB F.TIM_STAT_PPS_GOOD = near ∧
          (∀ p n sum, s.tim.cal = some (p, n, sum) → near = true ∨ s.rdB F.TIM_STAT_PPS_GOOD = false →
            t.tim.cal = if n < s.rd F.TIM_PPS_CFG_CAL_N then some (p, n + 1, sum + s.secondError stamp (s.nearestSecond stamp))
              else some (p, n, sum)) ∧
          (near = false → s.rdB F.TIM_STAT_PPS_GOOD = true → t.tim.cal = none) ∧ (s.tim.cal = none → t.tim.cal = none) ∧ s.reached t k ∧
          (near = true → s.sameRegs t [F.TIM_STAT]) ∧ s.sameMain t [F.TIM_STAT, F.TIM_EVT, F.TIM_ASYM_MEAS] ∧
          t = { s with free := t.free, regs := t.regs, clk := t.clk, tim := t.tim, que := t.que, fau := t.fau }) ∧
      (s.ppsMode = true →
        ∃ t, exec (.ppsEdge k (phi, rising)) s = .next t ∧ t.ppsSec = (s.ppsSec + 1) % 2 ^ 64 ∧ s.reached t k ∧
          (s.timState = timFree → t.timState = timAcquiring ∧
            t.tim.points = [(rhe stamp 1000, rhe (s.secondError stamp s.ppsSec) 1000)]))) ∧
    (∀ p, exec (.asymCal p) s = .next (s.accepted p fun u =>
      { (u.wr F.TIM_ASYM_MEAS_BUSY 0 1).wr F.TIM_ASYM_MEAS_VALID 0 0 with tim := { s.tim with cal := some (s.pathInUse, 0, 0) } })) ∧
    (s.tim.cal = none → exec .asymCalDone s = .next s) ∧
    (∀ p n sum, s.tim.cal = some (p, n, sum) → n < s.rd F.TIM_PPS_CFG_CAL_N ∨ n = 0 → exec .asymCalDone s = .next s) ∧
    (∀ p n sum, s.tim.cal = some (p, n, sum) → p < 2 → 0 < n → s.rd F.TIM_PPS_CFG_CAL_N ≤ n →
      ∀ ps, ps = s.rdS F.TIM_ASYM_PS p - rhe sum (65536 * n) →
      ∃ t, exec .asymCalDone s = .next t ∧ t.tim = { s.tim with cal := none } ∧ t.rdB F.TIM_ASYM_MEAS_VALID = true ∧
        t.rdB F.TIM_ASYM_MEAS_BUSY = false ∧ t.rd F.TIM_ASYM_MEAS_PATH = p ∧
        (-32768 ≤ ps → ps ≤ 32767 → t.rdS F.TIM_ASYM_MEAS_PS = ps) ∧ s.sameRegs t [F.TIM_ASYM_MEAS] ∧
        t = { s with free := t.free, regs := t.regs, tim := t.tim }) ∧
    (∀ p, exec (.asymApply p) s = .next (s.accepted p fun u =>
      if s.rdB F.TIM_ASYM_MEAS_VALID then u.wr F.TIM_ASYM_PS (s.rd F.TIM_ASYM_MEAS_PATH) (s.rd F.TIM_ASYM_MEAS_PS) else u)) ∧
    (∀ c : Fin 3, s.rdB F.TIM_STAT_VOTE_DEGRADED = true → s.tim.out.getD c false = true →
      exec (.voteCorrection c) s = .next s) ∧
    (∀ c : Fin 3, s.rdB F.TIM_STAT_VOTE_DEGRADED = true → s.tim.out.getD c false = false →
      ∃ t, exec (.voteCorrection c) s = .next t ∧ t.timState = timFree ∧ t.tim.acquired = false ∧
        t.tim.acquiredOnce = s.tim.acquiredOnce ∧ s.sameMain t [F.TIM_STAT] ∧
        t = { s with free := t.free, regs := t.regs, tim := t.tim, fau := t.fau }) ∧
    (∀ (c : Fin 3) (n : Nat), s.rdB F.TIM_STAT_VOTE_DEGRADED = false →
      n = ((s.tim.votes.getD c []).filter fun k => decide (s.clk.count < k + s.clk.fs)).length → 0 < s.clk.fs →
      ∃ t, exec (.voteCorrection c) s = .next t ∧ t.timState = s.timState ∧
        t.rd F.TIM_VOTE_TOTAL_COUNT = min (2 ^ 32 - 1) (s.rd F.TIM_VOTE_TOTAL_COUNT + 1) ∧
        t.rdB F.TIM_STAT_VOTE_DEGRADED = decide (15 ≤ n) ∧ t.tim.out = (if 15 ≤ n then s.tim.out.set c true else s.tim.out) ∧
        s.sameMain t [F.TIM_STAT, F.TIM_EVT2, F.TIM_VOTE_TOTAL] ∧
        t = { s with free := t.free, regs := t.regs, tim := t.tim, fau := t.fau }) ∧
    (∀ cls : Fin 4, cls.val ≠ 1 → cls.val ≠ 3 → exec (.heartbeat cls) s = .next s) ∧
    (∀ (cls : Fin 4) (q : Nat), cls.val = 1 ∨ cls.val = 3 → q = cls.val → (s.queue q).blocked = [] →
      (s.queue q).fill + 2 ≤ queueCap q →
      ∃ t y, exec (.heartbeat cls) s = .next t ∧ (t.queue q).waiting = (s.queue q).waiting ++ [y] ∧
        y.words = packetWords [word64 [(56, 0x0F), (52, 2), (0, s.locCx)], word64 [(16, t.nowT48)]] ∧
        (if q = 1 then t.tim.lastT48C1 else t.tim.lastT48C3) = t.now ∧
        (0 < s.tim.tnom * (2 ^ 40 + s.tim.rate) →
          (if q = 1 then s.tim.lastT48C1 else s.tim.lastT48C3) + 500000000 * 65536 ≤ t.now) ∧ s.sameMain t [] ∧
        t = { s with regs := t.regs, clk := t.clk, tim := t.tim, que := t.que })

/-- The safety cycle (R349, R352, R354, R355, R359, R360, R363): each input's channels pass their filters, and the incremental count
moves by its edges; with closed curtains an input of function STO that is not effective, or of which a channel read 0 within the
cycle, opens them and one of function SS1 ends RUN; VAUX24 out of range for a second cycle opens them; a readback other than off
and a cycle of a wrong length lock out; RUN, agreed before, closes the curtains when nothing stands against it. -/
def Obligations.SafetyCycle : Prop :=
  ∀ (s : State) (x : SafetySeen), s.Awake → 0 < s.clk.fs →
    (s.saf.on = false → exec (.safetyCycle x.samples x.up x.down x.cut x.z x.ssi x.line x.vaux x.balls x.differ x.cycleUs) s = .next s) ∧
    (s.saf.on = true → s.monitorEn = false →
      ∃ t, exec (.safetyCycle x.samples x.up x.down x.cut x.z x.ssi x.line x.vaux x.balls x.differ x.cycleUs) s = .next t ∧
        t.saf = { s.saf with cycle := t.clk.tick, runs := t.saf.runs, low := t.saf.low } ∧ s.saf.cycle + 1 ≤ t.clk.tick ∧
        (∀ i : Fin 8, t.rdB F.SAF_SI_STAT_A i = ({ s with clk := t.clk }.filterChannel i 0 x.samples).level ∧
          t.rdB F.SAF_SI_STAT_B i = ({ s with clk := t.clk }.filterChannel i 1 x.samples).level) ∧
        s.sameRegs t ((List.range 8).map F.SAF_SI_STAT_A.addr) ∧ t = { s with regs := t.regs, clk := t.clk, saf := t.saf }) ∧
    (s.monitorEn = true →
      ∃ t, exec (.safetyCycle x.samples x.up x.down x.cut x.z x.ssi x.line x.vaux x.balls x.differ x.cycleUs) s = .next t ∧
        t.saf.cycle = t.clk.tick ∧ s.saf.cycle + 1 ≤ t.clk.tick ∧ t.saf.runReq = none ∧
        t.saf.encoder = s.saf.encoder + x.up - x.down ∧ t.saf.vaux = x.vaux ∧
        (∀ (i : Fin 8) (a b : Filtered), a = { s with clk := t.clk }.filterChannel i 0 x.samples →
          b = { s with clk := t.clk }.filterChannel i 1 x.samples →
          t.rdB F.SAF_SI_STAT_A i = a.level ∧ t.rdB F.SAF_SI_STAT_B i = b.level ∧
          (s.saf.low.length = 8 → a.level = false ∨ b.level = false ∨ a.low = true ∨ b.low = true →
            (s.rd F.SAF_SI_CFG_FUNC i = 1 → closedIn t.safState = false) ∧
            (s.rd F.SAF_SI_CFG_FUNC i = 2 → t.safState ≠ 1 ∧ t.safState ≠ 3))) ∧
        (1 ≤ s.saf.vauxOut → x.vaux < 1920 ∨ 3000 < x.vaux →
          closedIn t.safState = false ∧ t.rdB F.SAF_STAT_VAUX_OK = false) ∧
        (s.safState ≠ 4 → x.differ = 0 → x.cycleUs < 950 ∨ 1050 < x.cycleUs → s.lockedBy t 0x5603) ∧
        (∀ n : Fin 2, closedIn s.safState = false → s.rd F.SAF_STAT_FC_CLOSED = 0 →
          ({ s with saf := { s.saf with vaux := x.vaux } }.notOff x.balls).testBit n = true →
          s.saf.fcBad.testBit n = false → t.safState = 4) ∧
        (s.safState = 0 → s.saf.runReq = some 3 →
          (∀ (i : Fin 8) (c : Fin 2) (f : Filtered), f = { s with clk := t.clk }.filterChannel i c x.samples →
            f.level = true ∧ f.low = false) →
          (∀ i : Fin 8, s.rdB F.SAF_SI_STAT_LOCKED i = false) → s.saf.low.length = 8 →
          s.sensorDemand 0 = false → s.sensorDemand 1 = false → s.incFault x = false →
          s.ssiFault x.ssi x.line = false → s.saf.apart < 2 → s.rdB F.SAF_STAT_PATH_A_OK = true →
          s.rdB F.SAF_STAT_PATH_B_OK = true → s.saf.slpStop = false → s.saf.lost = none → 1920 ≤ x.vaux → x.vaux ≤ 3000 →
          { s with saf := { s.saf with vaux := x.vaux } }.notOff x.balls = 0 → x.differ = 0 → 950 ≤ x.cycleUs →
          x.cycleUs ≤ 1050 → t.safState = 1 ∧ t.rd F.SAF_STAT_FC_CLOSED = s.rd F.SAF_FC_EN) ∧
        s.sameButSafety t ∧
        t = { s with free := t.free, regs := t.regs, clk := t.clk, fau := t.fau, saf := t.saf, book := t.book })

/-- The monitor's other events (R353, R359, R366): a test pulse whose last sample
is not as it must be locks its input; a curtain test that fails and an
overload lock out with the curtain's code, a test that passes changes nothing but its time; DEGRADED expires into a
lock-out with 0x5401. -/
def Obligations.SafetyEvents : Prop :=
  ∀ (s : State), s.Awake → 0 < s.clk.fs →
    (s.monitorEn = false → (∀ source a b, exec (.siTestPulse source a b) s = .next s) ∧
      (∀ balls, exec (.curtainTest balls) s = .next s) ∧ (∀ n, exec (.curtainOverload n) s = .next s) ∧
      exec .degradedExpiry s = .next s) ∧
    (∀ (source : Fin 2) (a b : BitVec 8), s.monitorEn = true →
      ∃ t, exec (.siTestPulse source a b) s = .next t ∧
        (∀ (i : Fin 8) (good : Bool),
          good = (if source.val = 0 then !a.toNat.testBit i && b.toNat.testBit i == s.rdB F.SAF_SI_STAT_B i
                  else !b.toNat.testBit i && a.toNat.testBit i == s.rdB F.SAF_SI_STAT_A i) →
          (s.rdB F.SAF_SI_CFG_TP_EN i = true → good = false → t.rdB F.SAF_SI_STAT_LOCKED i = true) ∧
          (s.rdB F.SAF_SI_CFG_TP_EN i = true → good = true → s.rdB F.SAF_SI_STAT_LOCKED i = false →
            t.rdB F.SAF_SI_STAT_LOCKED i = false) ∧
          (s.rdB F.SAF_SI_CFG_TP_EN i = true → good = true → s.rdB F.SAF_SI_STAT_LOCKED i = true →
            s.saf.zeroSeen.getD i false = true → source.val = 0 → s.saf.passedB.getD i false = true →
            s.saf.passedA.length = 8 → t.rdB F.SAF_SI_STAT_LOCKED i = false) ∧
          (s.rdB F.SAF_SI_CFG_TP_EN i = false → t.rdB F.SAF_SI_STAT_LOCKED i = s.rdB F.SAF_SI_STAT_LOCKED i)) ∧
        t.safState = s.safState ∧
        (s.saf.pulseUs.length = 2 → t.saf.pulseUs.getD source 0 = s.nextPulse source) ∧
        (s.nextPulse source + s.rd F.SAF_TP_WIDTH_US) / 1000 ≤ t.clk.tick ∧ s.sameButSafety t ∧
        t = { s with free := t.free, regs := t.regs, clk := t.clk, fau := t.fau, saf := t.saf }) ∧
    (∀ (balls : List (Nat × Nat)) (m : Nat), s.monitorEn = true → m = s.notOff balls →
      (closedIn s.safState = false → exec (.curtainTest balls) s = .next s) ∧
      (closedIn s.safState = true → m = 0 →
        ∃ t, exec (.curtainTest balls) s = .next t ∧ t.saf = { s.saf with testTick := t.clk.tick } ∧
          s.saf.testTick + 1000 * s.rd F.SAF_FC_TEST_PERIOD_S ≤ t.clk.tick ∧ t = { s with clk := t.clk, saf := t.saf }) ∧
      (closedIn s.safState = true → m ≠ 0 →
        ∃ t, exec (.curtainTest balls) s = .next t ∧ s.lockedBy t (if m.testBit 0 then 0x5500 else 0x5501) ∧
          s.sameButSafety t ∧
          t = { s with free := t.free, regs := t.regs, clk := t.clk, fau := t.fau, saf := t.saf, book := t.book })) ∧
    (∀ n : Fin 2, s.monitorEn = true →
      ((s.rd F.SAF_STAT_FC_CLOSED).testBit n = false → exec (.curtainOverload n) s = .next s) ∧
      ((s.rd F.SAF_STAT_FC_CLOSED).testBit n = true → s.safState ≠ 4 →
        ∃ t, exec (.curtainOverload n) s = .next t ∧ s.lockedBy t (0x5500 + n.val) ∧ s.sameButSafety t ∧
          t = { s with free := t.free, regs := t.regs, fau := t.fau, saf := t.saf, book := t.book })) ∧
    (s.monitorEn = true → s.safState ≠ 3 → exec .degradedExpiry s = .next s) ∧
    (s.monitorEn = true → s.safState = 3 →
      ∃ t, exec .degradedExpiry s = .next t ∧ s.lockedBy t 0x5401 ∧
        s.saf.degEntry + 1000 * s.rd F.SAF_CFG_DEG_TIME_S ≤ t.clk.tick ∧ s.sameButSafety t ∧
        t = { s with free := t.free, regs := t.regs, clk := t.clk, fau := t.fau, saf := t.saf, book := t.book })

/-- Safety telegrams (R361 to R364): STATUS goes out on both paths with the next TCOUNT; a COMMAND with a wrong SCRC or an old
TCOUNT is discarded; a first copy acts only towards safety and waits; an equal second copy acts in full; a different one locks out
with 0x5303; a silent path is lost, which degrades RUN, and both silent lock out with 0x5304 while the curtains are closed. -/
def Obligations.SafetyTelegrams : Prop :=
  ∀ (s : State), s.Working → 0 < s.clk.fs →
    (s.monitorEn = false ∨ s.moduleId = 0 → exec .safetyStatusSend s = .next s) ∧
    (∀ n, s.monitorEn = true → s.moduleId ≠ 0 → s.saf.accepted = some n → (s.queue 0).fill + 4 ≤ queueCap 0 →
      ∃ t y, exec .safetyStatusSend s = .next t ∧ s.saf.statusTick + 4 ≤ t.clk.tick ∧
        t.saf = { s.saf with tcount := (s.saf.tcount + 1) % 65536, statusTick := t.clk.tick } ∧
        (t.queue 0).waiting = (s.queue 0).waiting ++ [y] ∧ y.ftype = 0x09 ∧ y.only = none ∧
        y.words = packetWords ({ s with clk := t.clk }.statusWords n) ∧ s.sameMain t [] ∧
        t = { s with regs := t.regs, clk := t.clk, que := t.que, saf := t.saf }) ∧
    (∀ (path : Fin 2) (w0 w1 : LWord) (tc : Nat), tc = telCount [w0, w1] → ∀ req, req = telField w0 41 3 →
      ∀ sel, sel = telField w0 39 2 → ∀ sdi, sdi = telField w0 37 2 →
      (s.monitorEn = false ∨ telKind [w0, w1] ≠ 2 → exec (.safetyCommand path w0 w1) s = .next s) ∧
      (s.monitorEn = true → telKind [w0, w1] = 2 →
        (s.scrcOk [w0, w1] = false ∨
            (s.waitingCopy path tc = none ∧ s.saf.accepted ≠ some tc ∧ s.isNew tc = false) →
          ∃ t, exec (.safetyCommand path w0 w1) s = .next t ∧
            t.rd F.SAF_CNT2_TEL_DISCARD = min 255 (s.rd F.SAF_CNT2_TEL_DISCARD + 1) ∧ s.sameRegs t [F.SAF_CNT2] ∧
            t = { s with regs := t.regs }) ∧
        (s.scrcOk [w0, w1] = true → s.waitingCopy path tc = none → s.saf.accepted = some tc →
          exec (.safetyCommand path w0 w1) s
            = .next { s with saf := { s.saf with lastCmd := s.saf.lastCmd.set path s.clk.tick } }) ∧
        (s.scrcOk [w0, w1] = true → s.waitingCopy path tc = none → s.saf.accepted ≠ some tc → s.isNew tc = true →
          ∃ t, exec (.safetyCommand path w0 w1) s = .next t ∧
            t.saf.copies = s.saf.copies ++ [{ path := path, words := [w0, w1], tick := s.clk.tick }] ∧
            t.saf.accepted = s.saf.accepted ∧ t.saf.runReq = s.saf.runReq ∧ t.saf.sel = min sel s.saf.sel ∧
            t.saf.sdi = (if s.saf.sdi = 0 ∧ (sdi = 1 ∨ sdi = 2) then sdi else s.saf.sdi) ∧
            t.safState = (if req = 1 ∧ closedIn s.safState then 0
              else if req = 2 ∧ (s.safState = 1 ∨ s.safState = 3) then 2 else s.safState) ∧
            s.sameRegs t [F.SAF_STAT] ∧ t = { s with regs := t.regs, saf := t.saf }) ∧
        (∀ c, s.scrcOk [w0, w1] = true → s.waitingCopy path tc = some c → c.words = [w0, w1] → s.saf.agreed.length = 2 →
          s.saf.goodSince.length = 4 →
          ∃ t, exec (.safetyCommand path w0 w1) s = .next t ∧ t.saf.accepted = some tc ∧
            t.saf.copies = s.saf.copies.erase c ∧ t.saf.sel = sel ∧ t.saf.sdi = (if sdi = 3 then s.saf.sdi else sdi) ∧
            t.saf.runReq = (if req = 3 ∨ req = 4 then some req else s.saf.runReq) ∧
            t.saf.agreed = s.saf.agreed.map (· + 1) ∧
            (2 ≤ s.saf.agreed.getD 0 0 → t.rdB F.SAF_STAT_PATH_A_OK = true) ∧
            (2 ≤ s.saf.agreed.getD 1 0 → t.rdB F.SAF_STAT_PATH_B_OK = true) ∧ t.safState = s.safState ∧
            s.sameRegs t [F.SAF_STAT] ∧ t = { s with regs := t.regs, fau := t.fau, saf := t.saf }) ∧
        (∀ c, s.scrcOk [w0, w1] = true → s.waitingCopy path tc = some c → c.words ≠ [w0, w1] → s.safState ≠ 4 →
          ∃ t, exec (.safetyCommand path w0 w1) s = .next t ∧ s.lockedBy t 0x5303 ∧ t.saf.agreed = [0, 0] ∧
            s.sameButSafety t ∧
            t = { s with free := t.free, regs := t.regs, fau := t.fau, saf := t.saf, book := t.book }))) ∧
    (s.monitorEn = false ∨ s.nextTimeout = none → exec .commandCopyTimeout s = .next s) ∧
    (∀ k n, s.monitorEn = true → s.nextTimeout = some (k, n) →
      ∃ t, exec .commandCopyTimeout s = .next t ∧ n ≤ t.clk.tick ∧ s.sameButSafety t ∧
        (k = 4 → closedIn s.safState = true → s.lockedBy t 0x5304) ∧
        (k = 4 → t.rdB F.SAF_STAT_PATH_A_OK = false ∧ t.rdB F.SAF_STAT_PATH_B_OK = false ∧
          (closedIn s.safState = false → t.safState = s.safState)) ∧
        (k ≤ 1 → t.rdB (pathOk k) = false) ∧
        (k = 2 ∨ k = 3 → t.rdB (pathOk (k - 2)) = false ∧
          (s.safState = 1 → t.safState = 3 ∧ t.saf.lost = some (k - 2) ∧ t.saf.degEntry = t.clk.tick ∧
            t.rd F.SAF_STAT_DEG_LEFT_S = s.rd F.SAF_CFG_DEG_TIME_S) ∧
          (s.safState = 3 → s.saf.lost ≠ some (k - 2) → s.lockedBy t 0x5402)) ∧
        t = { s with free := t.free, regs := t.regs, clk := t.clk, fau := t.fau, saf := t.saf, book := t.book })

/-- Recovery and parameters (R368, R370): a press of SAFE_RESET of 100 to 2000 ms opens the window for the ACK and a longer one is
stuck; two agreeing ACKs with LOCK_SEQ clear the lock-out when its cause is gone; an agreed PARAM pair stages one word,
except in RUN; an agreed ACTIVATE whose checks pass starts the write of the staged set, and the written set takes force. -/
def Obligations.SafetyRecovery : Prop :=
  ∀ (s : State), s.Working →
    (∀ ms, s.monitorEn = false → exec (.safeResetRelease ms) s = .next s ∧ exec .safeResetStuck s = .next s) ∧
    (∀ ms, s.monitorEn = true → s.rdB F.SAF_STAT_RESET_STUCK = false → s.saf.highSince = none →
      (100 < ms → ms < 2000 →
        ∃ t, exec (.safeResetRelease ms) s = .next t ∧ t.saf = { s.saf with release := some s.clk.tick, ack := none } ∧
          s.sameRegs t [F.SAF_STAT] ∧ t = { s with regs := t.regs, saf := t.saf }) ∧
      (ms < 100 →
        ∃ t, exec (.safeResetRelease ms) s = .next t ∧ t.saf = { s.saf with ack := none } ∧
          s.sameRegs t [F.SAF_STAT] ∧ t = { s with regs := t.regs, saf := t.saf }) ∧
      (2000 < ms →
        ∃ t, exec (.safeResetRelease ms) s = .next t ∧ t.rdB F.SAF_STAT_RESET_STUCK = true ∧
          t.saf = { s.saf with release := none, highSince := some s.clk.tick } ∧
          s.sameRegs t [F.SAF_STAT, F.SAF_CNT] ∧ t = { s with regs := t.regs, saf := t.saf }) ∧
      (∃ t, exec .safeResetStuck s = .next t ∧ t.rdB F.SAF_STAT_RESET_STUCK = true ∧
        t.rd F.SAF_CNT_RESET_IGNORED = min 255 (s.rd F.SAF_CNT_RESET_IGNORED + 1) ∧
        t.saf = { s.saf with release := none, highSince := none } ∧
        s.sameRegs t [F.SAF_STAT, F.SAF_CNT] ∧ t = { s with regs := t.regs, saf := t.saf })) ∧
    (∀ (path : Fin 2) (w0 w1 : LWord), s.monitorEn = true → telKind [w0, w1] = 3 →
      (s.scrcOk [w0, w1] = false →
        ∃ t, exec (.safetyAck path w0 w1) s = .next t ∧
          t.rd F.SAF_CNT2_TEL_DISCARD = min 255 (s.rd F.SAF_CNT2_TEL_DISCARD + 1) ∧ s.sameRegs t [F.SAF_CNT2] ∧
          t = { s with regs := t.regs }) ∧
      (s.scrcOk [w0, w1] = true → s.saf.release = none → exec (.safetyAck path w0 w1) s = .next s) ∧
      (∀ r, s.scrcOk [w0, w1] = true → s.saf.release = some r →
        (r + 5000 < s.clk.tick ∨ s.safState ≠ 4 →
          exec (.safetyAck path w0 w1) s = .next { s with saf := { s.saf with release := none, ack := none } }) ∧
        (s.clk.tick ≤ r + 5000 → s.safState = 4 → s.saf.ack = none →
          exec (.safetyAck path w0 w1) s = .next { s with
            saf := { s.saf with ack := some { path := path, words := [w0, w1], tick := s.clk.tick } } }) ∧
        (∀ c, s.clk.tick ≤ r + 5000 → s.safState = 4 → s.saf.ack = some c → c.path ≠ path.val →
          (c.words ≠ [w0, w1] ∨ telField w0 0 16 ≠ s.rd F.SAF_CAUSE_LOCK_SEQ ∨ s.causeGone = false →
            exec (.safetyAck path w0 w1) s = .next { s with saf := { s.saf with release := none, ack := none } }) ∧
          (c.words = [w0, w1] → telField w0 0 16 = s.rd F.SAF_CAUSE_LOCK_SEQ → s.causeGone = true →
            ∃ t, exec (.safetyAck path w0 w1) s = .next t ∧ t.safState = 0 ∧ t.rd F.SAF_STAT_FC_CLOSED = 0 ∧
              t.saf = { s.saf with latch := false, release := none, ack := none, accepted := none, copies := []
                                   incRef := none, zRef := none, apart := 0 } ∧
              (∀ x ∈ t.book.records, x.locked = false) ∧ s.sameRegs t [F.SAF_STAT] ∧
              t = { s with regs := t.regs, fau := t.fau, saf := t.saf, book := t.book })))) ∧
    (∀ (path : Fin 2) (w0 w1 : LWord), s.saf.on = true → telKind [w0, w1] = 5 → s.scrcOk [w0, w1] = true →
      (s.saf.param = none →
        exec (.safetyParam path w0 w1) s = .next { s with
          saf := { s.saf with param := some { path := path, words := [w0, w1], tick := s.clk.tick } } }) ∧
      (∀ c, s.saf.param = some c → c.path ≠ path.val → c.words = [w0, w1] →
        (s.safState = 1 →
          ∃ t, exec (.safetyParam path w0 w1) s = .next t ∧ t.saf = { s.saf with param := none } ∧
            t.rd F.SAF_CNT2_ACT_REFUSED = min 255 (s.rd F.SAF_CNT2_ACT_REFUSED + 1) ∧ s.sameRegs t [F.SAF_CNT2] ∧
            t = { s with regs := t.regs, saf := t.saf }) ∧
        (s.safState ≠ 1 → telField w0 32 12 < 25 →
          exec (.safetyParam path w0 w1) s = .next { s with saf := { s.saf with
            param := none
            staged := (telField w0 32 12, BitVec.ofNat 32 w0.toNat) ::
              s.saf.staged.filter fun q => q.1 != telField w0 32 12 } }))) ∧
    (∀ (path : Fin 2) (w0 w1 w2 : LWord), s.saf.on = true → telKind [w0, w1, w2] = 6 → s.scrcOk [w0, w1, w2] = true →
      (s.saf.activate = none →
        exec (.safetyActivate path w0 w1 w2) s = .next { s with
          saf := { s.saf with activate := some { path := path, words := [w0, w1, w2], tick := s.clk.tick } } }) ∧
      (∀ c, s.saf.activate = some c → c.path ≠ path.val → c.words = [w0, w1, w2] → s.saf.writing = none →
        (s.clk.tick ≤ c.tick + 5000 → s.safState ≠ 1 → s.mayActivate (telField w0 0 32) w1.toNat = true →
          exec (.safetyActivate path w0 w1 w2) s = .next { s with
            saf := { s.saf with activate := none, writing := some s.stagedSet } }) ∧
        (c.tick + 5000 < s.clk.tick ∨ s.safState = 1 ∨ s.mayActivate (telField w0 0 32) w1.toNat = false →
          ∃ t, exec (.safetyActivate path w0 w1 w2) s = .next t ∧ t.saf = { s.saf with staged := [], activate := none } ∧
            t.rd F.SAF_CNT2_ACT_REFUSED = min 255 (s.rd F.SAF_CNT2_ACT_REFUSED + 1) ∧ s.sameRegs t [F.SAF_CNT2] ∧
            t = { s with regs := t.regs, saf := t.saf }))) ∧
    (s.saf.writing = none → exec .safetySetWritten s = .next s) ∧
    (∀ ws, s.saf.writing = some ws →
      ∃ t, exec .safetySetWritten s = .next t ∧
        (∀ i < 25, t.regGet (F.SAF_CFG + 4 * i) = ws.getD i 0) ∧ t.rd F.SAF_SET_CRC_CRC = setCrc ws % 2 ^ 32 ∧
        t.safState = (if getField (ws.getD 0 0) 0 1 = 0 then 7 else if s.saf.latch then 4 else 0) ∧
        t.rd F.SAF_STAT_FC_CLOSED = 0 ∧
        t.saf = { s.saf with writing := none, stored := some ws, staged := [], accepted := none, copies := [] } ∧
        s.sameRegs t (F.SAF_STAT :: F.SAF_SET_CRC :: (List.range 25).map fun i => F.SAF_CFG + 4 * i) ∧
        t = { s with regs := t.regs, saf := t.saf })

/-- Slow sensors (R376 to R381): in a free slot the due input is excited; a conversion gives CODE, VALUE, OPEN and CONV_CNT; on the
next tick the switch of an input counts and, at its DEBOUNCE, changes. -/
def Obligations.SlowSensors : Prop :=
  ∀ (s : State), s.Awake → 0 < s.clk.fs → s.sns.pulses.length = 2 → s.sns.last.length = 2 → s.sns.waiting.length = 16 →
    s.sns.counts.length = 32 →
    (∀ parity : Fin 2, s.sns.on = false ∨ s.rdB F.SNS_CTL_EN = false ∨ s.sns.last.getD parity none = some s.clk.tick →
      exec (.sensorPulse parity) s = .next s) ∧
    (∀ (parity : Fin 2) (i : Nat), s.sns.on = true → s.rdB F.SNS_CTL_EN = true →
      s.sns.last.getD parity none ≠ some s.clk.tick → i < 16 → i % 2 = parity.val → s.pulsed i = true →
      (∀ j < 16, j % 2 = parity.val → j ≠ i → s.pulsed j = false) → s.sns.seen.getD parity 0 < s.clk.tick →
      s.clk.tick % max 1 (s.rd F.SNS_IN_CFG_PERIOD_MS i) = i / 2 →
      ∃ t, exec (.sensorPulse parity) s = .next t ∧
        t.sns.pulses = s.sns.pulses.set parity
          (some { input := i, mode := s.rd F.SNS_IN_CFG_MODE i, iexc := s.rd F.SNS_IEXC_CAL_NA i }) ∧
        t.sns.waiting.getD i none = none ∧ t.sns.last = s.sns.last.set parity (some s.clk.tick) ∧ t = { s with sns := t.sns }) ∧
    (∀ (parity : Fin 2), s.sns.on = true → s.rdB F.SNS_CTL_EN = true → s.sns.last.getD parity none ≠ some s.clk.tick →
      (∀ j < 16, j % 2 = parity.val → s.pulsed j = false) →
      ∃ t, exec (.sensorPulse parity) s = .next t ∧ t.sns.pulses = s.sns.pulses ∧ t.sns.last = s.sns.last ∧
        t = { s with sns := t.sns }) ∧
    (∀ (parity : Fin 2) s1 s2 above t1 t2 tabove, s.sns.pulses.getD parity none = none →
      exec (.sensorConversion parity s1 s2 above t1 t2 tabove) s = .next s) ∧
    (∀ (parity : Fin 2) (s1 s2 : BitVec 16) above (t1 t2 : BitVec 16) tabove (x : Pulse) (bad : Bool),
      s.sns.pulses.getD parity none = some x → x.input < 16 →
      bad = ((SensorSample.mk s1.toNat s2.toNat above).isOpen (s.rd F.SNS_CTL_STEP_LSB) ||
        (x.mode == 3 && (SensorSample.mk t1.toNat t2.toNat tabove).isOpen (s.rd F.SNS_CTL_STEP_LSB))) →
      ∃ t, exec (.sensorConversion parity s1 s2 above t1 t2 tabove) s = .next t ∧
        t.sns = { s.sns with pulses := s.sns.pulses.set parity none, toEval := s.sns.toEval ++ [(x.input, s.clk.tick)] } ∧
        t.rd F.SNS_IN_STAT_CONV_CNT x.input = (s.rd F.SNS_IN_STAT_CONV_CNT x.input + 1) % 256 ∧
        t.rdB F.SNS_IN_STAT_OPEN x.input = bad ∧
        (bad = true → t.rd F.SNS_IN_STAT_CODE x.input = 0xFFFF ∧ t.rd F.SNS_IN_VALUE_VALUE x.input = 0x7FFFFFFF ∧
          (t.regGet F.SNS_EVT).getLsbD 0 = true) ∧
        (bad = false → t.rd F.SNS_IN_STAT_CODE x.input = s2.toNat ∧
          (-2 ^ 31 ≤ sensorValue x s2.toNat t2.toNat → sensorValue x s2.toNat t2.toNat < 2 ^ 31 →
            t.rdS F.SNS_IN_VALUE_VALUE x.input = sensorValue x s2.toNat t2.toNat)) ∧
        s.sameMain t [F.SNS_IN_STAT_CODE.addr x.input, F.SNS_IN_VALUE_VALUE.addr x.input, F.SNS_EVT] ∧
        t = { s with free := t.free, regs := t.regs, fau := t.fau, sns := t.sns }) ∧
    (∀ i : Fin 16, (∀ x ∈ s.sns.toEval, x.1 ≠ i.val) → exec (.switchEvaluate i) s = .next s) ∧
    (∀ (i : Fin 16) (j k : Nat) (x : Nat × Nat), (s.sns.toEval.find? fun p => p.1 == i.val) = some x →
      s.rd F.SNS_IN_CFG_MODE i ≠ 0 → s.ratioPartner i = false → (j, k) = (2 * i.val, 2 * i.val + 1) ∨ (j, k) = (2 * i.val + 1, 2 * i.val) →
      s.rdB F.SNS_SW_CFG_EN j = true → s.rdB F.SNS_SW_CFG_EN k = false →
      ∃ t, exec (.switchEvaluate i) s = .next t ∧ x.2 + 1 ≤ t.clk.tick ∧ t.sns.toEval = s.sns.toEval.erase x ∧
        (∀ m < 32, m ≠ j → t.switchOn m = s.switchOn m ∧ t.sns.counts.getD m 0 = s.sns.counts.getD m 0) ∧
        (s.rdB F.SNS_IN_STAT_OPEN i = true → t.sns.counts.getD j 0 = 0 ∧
          t.switchOn j = (s.switchOn j || s.rdB F.SNS_SW_CFG_OPEN_ON j)) ∧
        (∀ want n, s.rdB F.SNS_IN_STAT_OPEN i = false →
          want = switchWants (s.rdB F.SNS_SW_CFG_DIR j) (s.switchOn j) (s.rdS F.SNS_IN_VALUE_VALUE i)
            (s.rdS F.SNS_SW_ON_ON_THR j) (s.rdS F.SNS_SW_OFF_OFF_THR j) →
          n = s.sns.counts.getD j 0 + 1 →
          (want = false → t.sns.counts.getD j 0 = 0 ∧ t.switchOn j = s.switchOn j) ∧
          (want = true → n ≠ s.rd F.SNS_SW_CFG_DEBOUNCE j → t.sns.counts.getD j 0 = n ∧ t.switchOn j = s.switchOn j) ∧
          (want = true → n = s.rd F.SNS_SW_CFG_DEBOUNCE j → t.sns.counts.getD j 0 = 0 ∧ t.switchOn j = !s.switchOn j)) ∧
        s.sameMain t [F.SNS_SW_STAT, F.SNS_EVT] ∧
        t = { s with free := t.free, regs := t.regs, clk := t.clk, fau := t.fau, sns := t.sns })

/-- Resets (R17, R390, R398, R406 to R410): a keeper without supply makes a cold start when VIN rises, the halted one when VIN and its
temperature allow; a filtered low of RESET_N and a WARM command hold CX in reset; the release samples the straps and goes on from step 3;
a low of 30 s is stuck and is released where STUCK_RESET_RELEASE is set; OVERRIDE clears after 1 s high. -/
def Obligations.Resets : Prop :=
  ∀ (s : State), s.Sound → 0 < s.clk.fs →
    (∀ straps, s.pwr.alive = true → s.start.booted = true → exec (.coldReset straps) s = .next s) ∧
    (∀ (straps : BitVec 4), s.pwr.alive = false ∨ s.start.booted = false →
      ∃ t, exec (.coldReset straps) s = .next t ∧ s.coldStarted t straps.toNat) ∧
    (∀ straps tj, s.pwr.vinHigh = none ∨ s.pwr.alive = false ∨ s.pwr.stop ≠ 2 ∨ 125 < tj →
      exec (.keeperRestart straps tj) s = .next s) ∧
    (∀ (straps : BitVec 4) tj n, s.pwr.vinHigh = some n → s.pwr.alive = true → s.pwr.stop = 2 → tj ≤ 125 →
      ∃ t, exec (.keeperRestart straps tj) s = .next t ∧ s.coldStarted t straps.toNat) ∧
    (s.rdB F.MGT_RESET_CAUSE_OVERRIDE = true ∨ s.pwr.stop ≠ 0 ∨ s.keeperRuns = false →
      exec .resetNAssert s = .next { s with start := { s.start with pinLow := true, highSince := none } }) ∧
    (s.rdB F.MGT_RESET_CAUSE_OVERRIDE = false → s.pwr.stop = 0 → s.keeperRuns = true →
      (s.start.hold = none → ∃ t, exec .resetNAssert s = .next t ∧ s.heldWarm t true ∧ t.start.pinLow = true) ∧
      (∀ n, s.start.hold = some n → exec .resetNAssert s = .next { s with
        start := { s.start with pinLow := true, highSince := none, fromPin := true, hold := some s.clk.tick } })) ∧
    (∀ straps, s.start.hold = none → s.start.pinLow = true →
      exec (.resetNRelease straps) s = .next { s with start := { s.start with pinLow := false, highSince := some s.clk.tick } }) ∧
    (∀ (straps : BitVec 4) n, s.start.hold = some n →
      ∃ t, exec (.resetNRelease straps) s = .next t ∧ t.start.hold = none ∧ t.start.pinLow = false ∧ t.start.stuck = false ∧
        t.rd F.MGT_RESET_CAUSE_KIND = 1 ∧ t.phase = (if straps.toNat % 2 = 1 then 9 else 3) ∧
        t.rd F.MGT_STRAP_SMB_ADDR = straps.toNat / 4 ∧ (t.regGet F.MGT_RESET_EVT).getLsbD (if s.start.fromPin then 0 else 1) = true ∧
        (s.start.fromPin = false → n + 1 ≤ t.clk.tick) ∧ (s.start.fromPin = true → t.clk = s.clk) ∧
        s.sameRegs t [F.MGT_RESET_CAUSE, F.MGT_START_STAT, F.MGT_STRAP, F.MGT_RESET_EVT] ∧
        t = { s with regs := t.regs, clk := t.clk, start := t.start }) ∧
    (∀ p : Fin 10, s.Awake → s.pwr.stop ≠ 0 ∨ s.start.hold ≠ none → exec (.warm p) s = .next (s.accepted p fun u => u)) ∧
    (∀ p : Fin 10, s.Awake → s.pwr.stop = 0 → s.start.hold = none →
      ∃ t, exec (.warm p) s = .next t ∧ s.heldWarm t false ∧ t.rd F.MGT_RESET_CAUSE_CMD_PORT = min 2 p.val) ∧
    (∀ straps, s.start.hold = none ∨ s.start.fromPin = false ∨ s.start.pinLow = false ∨ s.start.stuck = true →
      exec (.stuckReset straps) s = .next s) ∧
    (∀ (straps : BitVec 4) n, s.keeperRuns = true → s.start.hold = some n → s.start.fromPin = true → s.start.pinLow = true →
      s.start.stuck = false →
      ∃ t, exec (.stuckReset straps) s = .next t ∧ n + 30000 ≤ t.clk.tick ∧ (t.regGet F.MGT_RESET_EVT).getLsbD 2 = true ∧
        t.access = { s.access with ackStuck := false } ∧
        (s.rdB F.MGT_CFG_STUCK_RESET_RELEASE = false → t.start = { s.start with stuck := true } ∧
          s.sameMain t [F.MGT_RESET_EVT]) ∧
        (s.rdB F.MGT_CFG_STUCK_RESET_RELEASE = true → t.start.hold = none ∧ t.rdB F.MGT_RESET_CAUSE_OVERRIDE = true ∧
          t.phase = (if straps.toNat % 2 = 1 then 9 else 3) ∧
          s.sameMain t [F.MGT_RESET_CAUSE, F.MGT_START_STAT, F.MGT_STRAP, F.MGT_RESET_EVT]) ∧
        t = { s with free := t.free, regs := t.regs, clk := t.clk, fau := t.fau, start := t.start, access := t.access }) ∧
    (s.start.highSince = none ∨ s.rdB F.MGT_RESET_CAUSE_OVERRIDE = false → exec .overrideClear s = .next s) ∧
    (∀ n, s.keeperRuns = true → s.start.highSince = some n → s.rdB F.MGT_RESET_CAUSE_OVERRIDE = true →
      ∃ t, exec .overrideClear s = .next t ∧ t.rdB F.MGT_RESET_CAUSE_OVERRIDE = false ∧ n + 1000 ≤ t.clk.tick ∧
        s.sameRegs t [F.MGT_RESET_CAUSE] ∧ t = { s with regs := t.regs, clk := t.clk, fau := t.fau })

/-- Start-up and restart (R407, R411, R412, R414): the image's load powers CX and starts the counter at 0; the wait for time
expires; Rehearsal follows time and READY follows it; RESTART stops ingest at a multiple of 1024, empties the stream queues
and resumes 3.0 ms after its start. -/
def Obligations.StartUp : Prop :=
  ∀ (s : State), s.Sound → 0 < s.clk.fs →
    (∀ slot failed valid image sensorCal safOk, s.phase ≠ 3 ∨ s.start.hold ≠ none ∨ s.plane.cxOn = true →
      exec (.configurationImageLoaded slot failed valid image sensorCal safOk) s = .next s) ∧
    (∀ slot failed valid image sensorCal safOk, s.keeperRuns = true → s.pwr.stop = 0 → s.phase = 3 → s.start.hold = none →
      s.plane.cxOn = false → failed ≠ 2 ∨ s.rd F.MGT_RESET_CAUSE_KIND = 1 →
      ∃ t, exec (.configurationImageLoaded slot failed valid image sensorCal safOk) s = .next t ∧ t.cxRuns = true ∧
        t.clk.running = true ∧ t.clk.count = 0 ∧ t.plane.ingest = true ∧ (t.phase = 5 ∨ t.phase = 6) ∧
        t.rdB F.MGT_START_STAT_IMAGE_VALID = (valid && !s.rdB F.MGT_STRAP_DEFAULT_IMAGE) ∧ t.regions.length = 4 ∧
        t.chans.length = 64 ∧ t.pending = s.pending) ∧
    (∀ slot valid image sensorCal safOk, s.keeperRuns = true → s.phase = 3 → s.start.hold = none → s.plane.cxOn = false →
      s.rd F.MGT_RESET_CAUSE_KIND ≠ 1 →
      ∃ t, exec (.configurationImageLoaded slot 2 valid image sensorCal safOk) s = .next t ∧ t.phase = 9 ∧
        t.access = { s.access with bootFail := true } ∧ s.sameMain t [F.MGT_START_STAT] ∧
        t = { s with free := t.free, regs := t.regs, fau := t.fau, access := t.access }) ∧
    (s.start.waitFrom = none ∨ s.phase ≠ 6 ∨ s.timState = timLocked ∨ s.rdB F.MGT_START_STAT_TIME_WAIT_EXPIRED = true →
      exec .timeWaitExpiry s = .next s) ∧
    (∀ n, s.Working → s.start.waitFrom = some n → s.phase = 6 → s.timState ≠ timLocked →
      s.rdB F.MGT_START_STAT_TIME_WAIT_EXPIRED = false →
      ∃ t, exec .timeWaitExpiry s = .next t ∧ t.rdB F.MGT_START_STAT_TIME_WAIT_EXPIRED = true ∧
        n + 1000 * s.rd F.MGT_CFG_TIME_WAIT_S ≤ t.clk.tick ∧ s.sameMain t [F.MGT_START_STAT] ∧
        t = { s with free := t.free, regs := t.regs, clk := t.clk, fau := t.fau }) ∧
    (∀ ns, s.phase ≠ 6 ∨ (s.timState ≠ timLocked ∧ s.rdB F.MGT_START_STAT_TIME_WAIT_EXPIRED = false) →
      exec (.startupRehearsal ns) s = .next s) ∧
    (∀ ns, s.Working → s.phase = 6 → s.timState = timLocked ∨ s.rdB F.MGT_START_STAT_TIME_WAIT_EXPIRED = true →
      ∃ t, exec (.startupRehearsal ns) s = .next t ∧ t.phase = 7 ∧
        (s.rdB F.MGT_CFG_AUTO_REHEARSAL = false ∨ s.factoryTrim = true → s.sameRegs t [F.MGT_START_STAT] ∧
          t = { s with regs := t.regs }) ∧
        t = { s with free := t.free, regs := t.regs, fau := t.fau, adc := t.adc }) ∧
    (s.phase ≠ 7 ∨ s.rehIdle = false → exec .startupReady s = .next s) ∧
    (s.Working → s.phase = 7 → s.rehIdle = true →
      ∃ t, exec .startupReady s = .next t ∧ t.phase = 8 ∧ t.rdB F.MGT_START_STAT_READY = true ∧
        (s.rdB F.CDC_STREAM_CTL_EN = false → s.sameRegs t [F.MGT_START_STAT] ∧ t = { s with regs := t.regs }) ∧
        t = { s with free := t.free, regs := t.regs, fau := t.fau, stream := t.stream }) ∧
    (∀ p : Fin 10, s.Awake → s.start.hold ≠ none ∨ s.rdB F.MGT_START_STAT_READY = false ∨ s.restarting = true →
      exec (.restart p) s = .next (s.accepted p fun u => u)) ∧
    (∀ p : Fin 10, s.Awake → s.start.hold = none → s.rdB F.MGT_START_STAT_READY = true → s.restarting = false →
      s.plane.switch = none →
      ∃ t, exec (.restart p) s = .next t ∧
        t.start = { s.start with restartAt := some (nextMultiple 1024 (s.clk.count + 1), s.clk.count), restartStopped := false } ∧
        t.restarting = true ∧ t.rd F.MGT_RESET_CAUSE_CMD_PORT = min 2 p.val ∧ (t.regGet F.MGT_RESET_EVT).getLsbD 1 = true ∧
        s.sameRegs t [F.MGT_RESET_CAUSE, F.MGT_START_STAT, F.MGT_RESET_EVT] ∧
        t = { s with free := s.free + 1, regs := t.regs, ports := t.ports, start := t.start }) ∧
    (s.start.restartAt = none ∨ s.start.restartStopped = true ∨ s.restarting = false → exec .restartIngestStop s = .next s) ∧
    (∀ n k, s.Working → s.start.restartAt = some (n, k) → s.start.restartStopped = false → s.restarting = true →
      ∃ t, exec .restartIngestStop s = .next t ∧ t.plane = { s.plane with ingest := false, switch := none } ∧
        t.start = { s.start with restartStopped := true } ∧ s.reached t n ∧ t.codec = [] ∧
        (∀ q : Fin 12, 4 ≤ q.val → t.queue q = {}) ∧ t.regions = s.regions ∧ t.saf = s.saf ∧ t.pending = s.pending) ∧
    (s.start.restartAt = none ∨ s.start.restartStopped = false → ∀ us, exec (.restartResume us) s = .next s) ∧
    (∀ n k us, s.Working → s.clk.running = true → s.start.restartAt = some (n, k) → s.start.restartStopped = true →
      ∃ t, exec (.restartResume us) s = .next t ∧ t.start = { s.start with restartAt := none, restartStopped := false } ∧
        t.plane.ingest = true ∧ t.rd F.MGT_RESET_CAUSE_KIND = 2 ∧ t.restarting = false ∧ t.clk.count % 1024 = 0 ∧
        k + s.samplesUs 3000 + 32 ≤ t.clk.count ∧ t.saf = s.saf ∧ t.pending = s.pending)

/-- One step (the block's own form of fetch and run): the front command is taken from the queue and runs on the rest; on an empty
queue one sample period passes and, while CX runs, the lanes send, and the queue stays empty (the model's choice, log entry 3). -/
def Obligations.StepTakesFront : Prop :=
  (∀ (s : State) (c : Instr) (rest : List Instr), s.pending = c :: rest → step s = exec c { s with pending := rest }) ∧
    ∀ s : State, s.pending = [] → ∃ t, step s = .next t ∧ t.pending = [] ∧
      (s.keeperRuns = false ∨ s.cxRuns = false → t = s.pass 1) ∧
      (s.keeperRuns = true → s.cxRuns = true → t = (s.pass 1).forEach (List.range 24) State.laneRun)

/-- Every command completes (the model's own claim): it answers a next state and leaves the queue alone; only the pins, JTAG and
the start act while the keeper does not run, and a command of CX does nothing while CX is off or held in reset; and in a module
whose keeper and CX run, each of the 241 commands answers, for all its operands, the next state that its own operation gives. -/
def Obligations.CommandsComplete : Prop :=
  (∀ (c : Instr) (s : State), (∃ t, exec c s = .next t ∧ t.pending = s.pending) ∧
    (s.keeperRuns = false → actsAlone c = false → exec c s = .next s) ∧
    (s.keeperRuns = false ∨ s.cxRuns = false → needsCx c = true → exec c s = .next s)) ∧
  ∀ s : State, s.Working →
    ((∀ p a w, exec (.registerWrite p a w) s = .next (s.doRegisterWrite p a.toNat w)) ∧
      (∀ p a, exec (.pairLowRead p a) s = .next (s.doPairRead p a.toNat)) ∧
      (∀ p cell high, exec (.watchCellRead p cell high) s = .next (s.doCellRead p cell high)) ∧
      (∀ p word, exec (.diagWindowRead p word) s = .next (s.doDiagRead p word)) ∧
      exec .refclkLoss s = .next s.doRefclkLoss ∧
      (∀ ch n, exec (.elasticBufferOverflow ch n) s = .next (s.doOverflow ch n)) ∧
      (∀ margins, exec (.paceLoopTick margins) s = .next (s.doPaceTick margins)) ∧
      exec .vcoreStepDown s = .next s.doStepDown ∧
      exec .paceFault s = .next s.doPaceFault ∧
      exec .autoFallback s = .next s.doAutoFallback ∧
      (∀ p, exec (.paceSwitch p) s = .next (s.hostBit p F.PWR_PACE_CMD_SWITCH 0)) ∧
      (∀ p, exec (.paceRestore p) s = .next (s.hostBit p F.PWR_PACE_CMD_RESTORE 0)) ∧
      (∀ p, exec (.paceClrMin p) s = .next (s.hostBit p F.PWR_PACE_CMD_CLR_MIN 0)) ∧
      exec .rateSwitchIngestStop s = .next s.doSwitchStop ∧
      (∀ periods readings, exec (.rateSwitchRelock periods readings) s = .next (s.doRelock periods readings)) ∧
      exec .rateSwitchResume s = .next s.doSwitchResumeStart) ∧
    (exec .paceFaultClear s = .next s.doPaceClear ∧
      (∀ ch n0 flips bad, exec (.streamPacketComplete ch n0 flips bad) s = .next (s.doStreamPacket ch n0 flips bad)) ∧
      (∀ ch n conv ahead, exec (.rawBlockWrite ch n conv ahead) s = .next (s.doRawBlock ch n (conv ++ ahead))) ∧
      (∀ p id, exec (.moduleIdWrite p id) s = .next (s.hostWrite p F.MGT_MODULE_ID (BitVec.ofNat 32 id.toNat))) ∧
      (∀ p half w, exec (.unitEnableWrite p half w) s = .next (s.hostWrite p (F.AFE_UNIT_EN + 4 * half) w)) ∧
      exec .unitEnableTakeEffect s = .next s.doUnitEnableEffect ∧
      (∀ e, exec (.stationWideReport e) s = .next (s.doStationReport e)) ∧
      (∀ r kind, exec (.regionFault r kind) s = .next (s.doRegionFault r kind)) ∧
      (∀ g, exec (.calSourceFault g) s = .next (s.doSourceFault g)) ∧
      (∀ d tj, exec (.thermalThreshold d tj) s = .next (s.doThermal d tj)) ∧
      (∀ d tj, exec (.thermalRecover d tj) s = .next (s.doThermalRecover d tj)) ∧
      (∀ p ch w, exec (.rangeWrite p ch w) s = .next (s.hostWrite p (F.AFE_RANGE + 4 * ch) w)) ∧
      (∀ ch, exec (.rangeChangeApply ch) s = .next (s.doRangeApply ch)) ∧
      (∀ ch, exec (.autoRangeDecision ch) s = .next (s.doAutoRange ch)) ∧
      (∀ p w, exec (.arThrWrite p w) s = .next (s.hostWrite p F.AFE_AR_THR w)) ∧
      (∀ current opened lineUp back, exec (.feedStateTick current opened lineUp back) s
        = .next (s.doFeedTick current opened.toNat lineUp.toNat back.toNat))) ∧
    ((∀ p w, exec (.feedEnWrite p w) s = .next (s.hostWrite p F.AFE_FEED_EN w)) ∧
      (∀ a, exec (.feedOverloadTrip a) s = .next (s.doFeedTrip a)) ∧
      (∀ a, exec (.feedRetry a) s = .next (s.doFeedRetry a)) ∧
      (∀ p, exec (.feedSweep p) s = .next (s.hostBit p F.AFE_FEED_TP_SWEEP 0)) ∧
      exec .feedSweepPeriodic s = .next s.doFeedSweepPeriodic ∧
      exec .feedSweepStartUp s = .next s.doFeedSweepStartUp ∧
      (∀ before, exec (.feedTestPulse before) s = .next (s.doFeedPulse before)) ∧
      (∀ lineHigh now, exec (.feedPulseEnd lineHigh now) s = .next (s.doFeedPulseEnd lineHigh now)) ∧
      exec .feedSweepEnd s = .next s.doFeedSweepEnd ∧
      (∀ mv10, exec (.vfeedUndervoltage mv10) s = .next (s.doVfeedUnder mv10)) ∧
      (∀ mv10, exec (.vfeedRecover mv10) s = .next (s.doVfeedRecover mv10)) ∧
      (∀ ch levels share spur edges,
        exec (.bgWindowEnd ch levels share spur edges) s = .next (s.doBgWindow ch share spur (bgErrors levels edges))) ∧
      (∀ p mask, exec (.rehearsalStart p mask) s = .next (s.hostWrite p F.ADC_REH_CMD (BitVec.ofNat 32 mask.toNat))) ∧
      (∀ r, exec (.rehearsalConnect r) s = .next (s.doRehearsalConnect r)) ∧
      (∀ r meas, exec (.rehearsalPhase r meas) s = .next (s.doRehearsalPhase r meas)) ∧
      (∀ r tj, exec (.rehearsalReconnect (r, tj)) s = .next (s.doRehearsalReconnect r tj))) ∧
    ((∀ p, exec (.calSave p) s = .next (s.hostBit p F.ADC_REH_CMD_SAVE 0)) ∧
      (∀ ok, exec (.calSaveDone ok) s = .next (s.doCalSaveDone ok)) ∧
      (∀ p, exec (.calLoad p) s = .next (s.hostBit p F.ADC_REH_CMD_LOAD 0)) ∧
      (∀ r reading, exec (.regionPllLock r reading) s = .next (s.doPllLock r reading)) ∧
      (∀ p w, exec (.injectRequest p w) s = .next (s.hostWrite p F.ADC_INJ_REQ w)) ∧
      (∀ g, exec (.injectWindowStart g) s = .next (s.doInjectStart g)) ∧
      (∀ g, exec (.injectComplete g) s = .next (s.doInjectComplete g)) ∧
      (∀ p ch w, exec (.skewWrite p ch w) s = .next (s.hostWrite p (F.FLT_SKEW + 4 * ch) w)) ∧
      (∀ ch, exec (.skewChangeApply ch) s = .next (s.doSkewApply ch)) ∧
      (∀ p mask, exec (.skewCalRequest p mask) s = .next (s.hostWrite p F.FLT_SKEW_CAL (BitVec.ofNat 32 mask.toNat))) ∧
      (∀ g meas, exec (.skewCalComplete g meas) s = .next (s.doSkewCalComplete g meas)) ∧
      (∀ p j w, exec (.notchWrite p j w) s = .next (s.hostWrite p (F.FLT_NOTCH + 8 * j) w)) ∧
      (∀ p j w, exec (.notchBwWrite p j w) s = .next (s.hostWrite p (F.FLT_NOTCH_BW + 8 * j) w)) ∧
      (∀ ch, exec (.notchChangeApply ch) s = .next (s.doNotchApply ch)) ∧
      (∀ p ch, exec (.firBankSwap p ch) s = .next (s.hostBit p F.FLT_CHAIN_SWAP ch)) ∧
      (∀ p ch decim order, exec (.chainConfigWrite p ch decim order) s
        = .next (s.hostWrite p (F.FLT_CHAIN + 4 * ch) (BitVec.ofNat 32 (decim + 4 * order))))) ∧
    ((∀ ch, exec (.chainChangeApply ch) s = .next (s.doChainApply ch)) ∧
      (∀ ch m ups, exec (.spectrumFrame ch m ups) s = .next (s.doSpectrumFrame ch m ups)) ∧
      (∀ p, exec (.prototypeSwap p) s = .next (s.hostBit p F.CHN_CTL_SWAP 0)) ∧
      exec .prototypeSwapApply s = .next s.doProtoSwapApply ∧
      (∀ p en, exec (.chnEnWrite p en) s = .next (s.hostField p F.CHN_CTL_EN 0 en.toNat)) ∧
      exec .frameRecord s = .next s.doFrameRecord ∧
      (∀ p ch k, exec (.kChange p ch k) s = .next (s.hostField p F.WCH_CHAN_K ch k)) ∧
      (∀ p, exec (.segSwap p) s = .next (s.hostBit p F.WCH_CTL_SEG_SWAP 0)) ∧
      exec .segSwapApply s = .next s.doSegSwapApply ∧
      (∀ p, exec (.maskSwap p) s = .next (s.hostBit p F.WCH_CTL_MASK_SWAP 0)) ∧
      exec .maskSwapApply s = .next s.doMaskSwapApply ∧
      (∀ ch sub errors, exec (.eccSweep ch sub errors) s = .next (s.doEccSweep ch sub errors)) ∧
      (∀ ch, exec (.detectorWindowEnd ch) s = .next (s.doDetectorWindowEnd ch)) ∧
      (∀ ch n, exec (.impulseDetectorFire ch n) s = .next (s.doImpulseFire ch n)) ∧
      (∀ n k phi falling, exec (.triggerInputEdge n k phi falling) s = .next (s.doTriggerEdge n k phi falling)) ∧
      (∀ p, exec (.softwareCue p) s = .next (s.hostBit p F.TRG_SW_FIRE 0))) ∧
    ((∀ i, exec (.cueProposal i) s = .next (s.doCueProposal i)) ∧
      exec .cueClose s = .next s.doCueClose ∧
      exec .trigOutEnd s = .next s.doTrigOutEnd ∧
      exec .budgetIntervalEnd s = .next s.doBudgetIntervalEnd ∧
      exec .snippetExtractStart s = .next s.doSnippetStart ∧
      (∀ id size flips bad,
        exec (.snippetComplete id size flips bad) s = .next (s.doSnippetComplete id.toNat size { flips := flips, bad := bad })) ∧
      (∀ p, exec (.freeze p) s = .next (s.hostBit p F.TRG_CTL_FREEZE 0)) ∧
      exec .freezeStop s = .next s.doFreezeStop ∧
      (∀ p, exec (.rearm p) s = .next (s.hostBit p F.TRG_CTL_REARM 0)) ∧
      (∀ ns, exec (.rearmLogClear ns) s = .next (s.doRearmLogClear ns)) ∧
      exec .rearmResume s = .next s.doRearmResume ∧
      (∀ req len t map, exec (.readoutRequest req len t map) s
        = .next (s.doReadoutRequest req.toNat len.toNat t.toNat map.toNat)) ∧
      (∀ req size flips bad,
        exec (.readoutComplete req size flips bad) s = .next (s.doReadoutComplete req.toNat size { flips := flips, bad := bad })) ∧
      (∀ p, exec (.streamApply p) s = .next (s.hostBit p F.CDC_STREAM_CMD_APPLY 0)) ∧
      exec .streamApplyTakeEffect s = .next s.doStreamApplyEffect ∧
      exec .codecJobStart s = .next s.doCodecStart) ∧
    ((∀ flips bad, exec (.codecJobComplete flips bad) s = .next (s.doCodecComplete { flips := flips, bad := bad })) ∧
      (∀ p, exec (.codecCancel p) s = .next (s.hostBit p F.CDC_JOB_CTL_CANCEL 0)) ∧
      (∀ path, exec (.frameStart path) s = .next (s.doFrameStart path)) ∧
      (∀ cls, exec (.lingerExpiry cls) s = .next (s.doLingerExpiry cls)) ∧
      (∀ p g, exec (.queueFlush p g) s = .next (s.hostWrite p F.QUE_CMD (BitVec.ofNat 32 (2 ^ g.val)))) ∧
      (∀ g, exec (.queueFlushDone g) s = .next (s.doFlushDone g)) ∧
      (∀ p, exec (.drop3 p) s = .next (s.hostBit p F.QUE_CMD_DROP3 0)) ∧
      exec .drop3Done s = .next s.doDrop3Done ∧
      (∀ p q w, exec (.hwmReset p q w) s = .next (s.hostWrite p (F.QUE_HWM + 16 * q) w)) ∧
      (∀ n, exec (.bringupAttempt n) s = .next (s.doBringupAttempt n)) ∧
      (∀ n crcOk w, exec (.bringupFrameReceived n crcOk w) s = .next (s.doBringupFrame n crcOk w)) ∧
      (∀ n, exec (.laneUp n) s = .next (s.doLaneUpStart n)) ∧
      (∀ n, exec (.bringupTimeout n) s = .next (s.doBringupTimeout n)) ∧
      (∀ n, exec (.waitExpiry n) s = .next (s.doWaitExpiry n)) ∧
      (∀ n seed, exec (.seedReceived n seed) s = .next (s.doSeedReceived n seed.toNat)) ∧
      (∀ n marker, exec (.realign n marker) s = .next (s.doRealign n marker.isNone (marker.getD 0).toNat))) ∧
    ((∀ n, exec (.realignTimeout n) s = .next (s.doRealignTimeout n)) ∧
      (∀ n, exec (.lossOfSignal n) s = .next (s.doLossOfSignal n)) ∧
      (∀ n, exec (.partnerTraining n) s = .next (s.doPartnerTraining n)) ∧
      (∀ p n, exec (.retrain p n) s = .next (s.hostBit p F.LNK_LANE_CTL_RETRAIN n)) ∧
      (∀ n, exec (.idleEntry n) s = .next (s.doIdleEntry n)) ∧
      (∀ n, exec (.hushReceived n) s = .next (s.doHushReceived n)) ∧
      (∀ n, exec (.fastExit n) s = .next (s.doFastExit n)) ∧
      (∀ n, exec (.refreshBurst n) s = .next (s.doRefreshBurst n)) ∧
      (∀ p, exec (.clrErr p) s = .next (s.hostBit p F.LNK_CMD_CLR_ERR 0)) ∧
      (∀ p lane w, exec (.laneSetChange p lane w) s
        = .next (s.hostWrite p (match lane with | none => F.LNK_PATH_CFG | some n => F.LNK_LANE_CTL + 4 * n) w)) ∧
      (∀ p w, exec (.classPolicyWrite p w) s = .next (s.hostWrite p F.LNK_CLASS_POL w)) ∧
      (∀ n header payload crc k phi, exec (.frameReceived n header payload crc k phi) s
        = .next (s.doFrameReceived n header payload crc.toNat k phi)) ∧
      (∀ path w, exec (.creditFrame path w) s = .next (s.doCreditFrame path w)) ∧
      (∀ path, exec (.creditSend path) s = .next (s.doCreditSend path)) ∧
      exec .reorderTimeout s = .next s.doReorderTimeout ∧
      exec .nudge s = .next s.doNudge) ∧
    ((∀ lane tag status data, exec (.memRdData lane tag status data) s = .next (s.doMemRdData lane tag.toNat status data)) ∧
      (∀ addr status, exec (.memWrErr (addr, status)) s = .next (s.doMemWrErr (addr.toNat / 8 * 8) status)) ∧
      exec .memReadTimeout s = .next s.doMemReadTimeout ∧
      exec .memPathChange s = .next s.doMemPathChange ∧
      exec .memPathResume s = .next s.doMemPathResume ∧
      (∀ lane round master k phi, exec (.origin lane round master k phi) s
        = .next (s.doOrigin lane round.toNat master.toNat k phi)) ∧
      (∀ lane round ns frac, exec (.follow lane round ns frac) s = .next (s.doFollow lane round.toNat ns.toNat frac.toNat)) ∧
      (∀ path k phi, exec (.probeSend path k phi) s = .next (s.doProbeSend path k phi)) ∧
      (∀ lane round ns frac, exec (.answer lane round ns frac) s = .next (s.doAnswer lane round.toNat ns.toNat frac.toNat)) ∧
      exec .rebase s = .next s.doRebase ∧
      exec .relationRepeat s = .next s.doRelationRepeat ∧
      (∀ cls, exec (.heartbeat cls) s = .next (s.doHeartbeat cls)) ∧
      (∀ path, exec (.pathLoss path) s = .next (s.doPathLoss path)) ∧
      (∀ k phi rising, exec (.ppsEdge k (phi, rising)) s = .next (s.doPpsEdge k phi rising)) ∧
      exec .ppsLoss s = .next s.doPpsLoss ∧
      (∀ p, exec (.acceptJump p) s = .next (s.hostBit p F.TIM_CMD_ACCEPT_JUMP 0))) ∧
    ((∀ p, exec (.asymCal p) s = .next (s.hostBit p F.TIM_CMD_ASYM_CAL 0)) ∧
      exec .asymCalDone s = .next s.doAsymCalDone ∧
      (∀ p, exec (.asymApply p) s = .next (s.hostBit p F.TIM_CMD_ASYM_APPLY 0)) ∧
      (∀ c, exec (.voteCorrection c) s = .next (s.doVoteCorrection c)) ∧
      (∀ p, exec (.commit p) s = .next (s.hostBit p F.PRM_CTL_COMMIT 0)) ∧
      exec .pollStart s = .next s.doPollStart ∧
      exec .pollComplete s = .next s.doPollComplete ∧
      (∀ p ring, exec (.ringResume p ring) s = .next (s.hostWrite p F.PRM_RING_CMD (BitVec.ofNat 32 (256 + ring.val)))) ∧
      exec .nop s = .next s.doNop ∧
      exec .fence s = .next s.doFence ∧
      exec .regWr s = .next s.doRegWr ∧
      exec .regRd s = .next s.doRegRd ∧
      exec .blockRd s = .next s.doBlockRd ∧
      (∀ ns, exec (.inject ns) s = .next (s.doPrmInject ns)) ∧
      exec .codec s = .next s.doPrmCodec ∧
      (∀ x : SafetySeen, exec (.safetyCycle x.samples x.up x.down x.cut x.z x.ssi x.line x.vaux x.balls x.differ x.cycleUs) s
        = .next (s.doSafetyCycle x))) ∧
    ((∀ source a b, exec (.siTestPulse source a b) s = .next (s.doTestPulse source a.toNat b.toNat)) ∧
      (∀ balls, exec (.curtainTest balls) s = .next (s.doCurtainTest balls)) ∧
      exec .safetyStatusSend s = .next s.doStatusSend ∧
      (∀ path w0 w1, exec (.safetyCommand path w0 w1) s = .next (s.doSafetyCommand path w0 w1)) ∧
      exec .commandCopyTimeout s = .next s.doCopyTimeout ∧
      exec .degradedExpiry s = .next s.doDegradedExpiry ∧
      (∀ ms, exec (.safeResetRelease ms) s = .next (s.doSafeResetRelease ms)) ∧
      exec .safeResetStuck s = .next s.doSafeResetStuck ∧
      (∀ path w0 w1, exec (.safetyAck path w0 w1) s = .next (s.doSafetyAck path w0 w1)) ∧
      (∀ path w0 w1, exec (.safetyParam path w0 w1) s = .next (s.doSafetyParam path w0 w1)) ∧
      (∀ path w0 w1 w2, exec (.safetyActivate path w0 w1 w2) s = .next (s.doSafetyActivate path w0 w1 w2)) ∧
      (∀ parity, exec (.sensorPulse parity) s = .next (s.doSensorPulse parity)) ∧
      (∀ parity s1 s2 above t1 t2 tabove, exec (.sensorConversion parity s1 s2 above t1 t2 tabove) s
        = .next (s.doSensorConversion parity ⟨s1.toNat, s2.toNat, above⟩ ⟨t1.toNat, t2.toNat, tabove⟩)) ∧
      (∀ i, exec (.switchEvaluate i) s = .next (s.doSwitchEvaluate i)) ∧
      (∀ vins vaux vfeed power, exec (.stageTick vins vaux vfeed power) s
        = .next (s.doStageTick (vins.map BitVec.toNat) vaux.toNat vfeed.toNat power.toNat)) ∧
      exec .stageRestore s = .next s.doStageRestore) ∧
    ((∀ p k, exec (.forceStage p k) s = .next (s.hostWrite p F.PWR_FORCE (BitVec.ofNat 32 k))) ∧
      exec .sheddingNotice s = .next s.doSheddingNotice ∧
      exec .keeperPowerFail s = .next s.doPowerFail ∧
      (∀ vins, exec (.orderlyStop vins) s = .next (s.doOrderlyStop (vins.map BitVec.toNat))) ∧
      (∀ straps tj, exec (.keeperRestart straps tj) s = .next (s.doKeeperRestart straps.toNat tj)) ∧
      exec .keeperDropOut s = .next s.doDropOut ∧
      (∀ vins, exec (.vinOvervoltage vins) s = .next (s.doOverVoltage (vins.map BitVec.toNat))) ∧
      (∀ rail scope, exec (.railFault rail scope) s = .next (s.doRailFault rail scope)) ∧
      (∀ r, exec (.regionRestore r) s = .next (s.doRegionRestore r)) ∧
      (∀ p, exec (.pbCommit p) s = .next (s.hostBit p F.PWR_CMD_PB_COMMIT 0)) ∧
      exec .pbPeriodicCommit s = .next s.doPbPeriodic ∧
      (∀ ok, exec (.pbCommitDone ok) s = .next (s.doCommitDone ok)) ∧
      (∀ p, exec (.vinClrMin p) s = .next (s.hostBit p F.PWR_CMD_CLR_MIN 0)) ∧
      (∀ straps, exec (.coldReset straps) s = .next (s.doColdReset straps.toNat)) ∧
      exec .resetNAssert s = .next s.doResetAssert ∧
      (∀ straps, exec (.resetNRelease straps) s = .next (s.doResetRelease straps.toNat))) ∧
    ((∀ p, exec (.warm p) s = .next (s.hostWrite p F.MGT_RESET_CMD 0x4B570001#32)) ∧
      (∀ p, exec (.restart p) s = .next (s.hostWrite p F.MGT_RESET_CMD 0x4B570002#32)) ∧
      exec .restartIngestStop s = .next s.doRestartStop ∧
      (∀ us, exec (.restartResume us) s = .next (s.doRestartResume us)) ∧
      (∀ straps, exec (.stuckReset straps) s = .next (s.doStuckReset straps.toNat)) ∧
      exec .overrideClear s = .next s.doOverrideClear ∧
      (∀ ns, exec (.startupRehearsal ns) s = .next (s.doStartRehearsal ns)) ∧
      exec .startupReady s = .next s.doStartReady ∧
      exec .timeWaitExpiry s = .next s.doTimeWaitExpiry ∧
      (∀ code place detail, exec (.faultReport code place detail) s
        = .next (s.doFaultReport code.toNat place.toNat detail.toNat)) ∧
      (∀ e, exec (.incidentHoldExpiry e) s = .next (s.doHoldExpiry e)) ∧
      (∀ e cleared, exec (.incidentCloseTimer e cleared) s = .next (s.doCloseTimer e cleared)) ∧
      (∀ e, exec (.incidentReportSend e) s = .next (s.doReportSend e)) ∧
      (∀ p e, exec (.close p e) s = .next (s.hostWrite p F.FAU_CMD (BitVec.ofNat 32 (256 + e.val)))) ∧
      (∀ p, exec (.purgePrevious p) s = .next (s.hostBit p F.FAU_CMD_PURGE_PREVIOUS 0)) ∧
      (∀ a kind, exec (.configScrub a kind) s = .next (s.doConfigScrub a.toNat kind))) ∧
    ((∀ worst eraseOk item, exec (.flashRefresh worst eraseOk item) s = .next (s.doFlashRefresh worst eraseOk item)) ∧
      exec .telemetry s = .next s.doTelemetry ∧
      (∀ p, exec (.snap p) s = .next (s.hostBit p F.PMC_CMD_SNAP 0)) ∧
      (∀ p, exec (.clrWrap p) s = .next (s.hostBit p F.PMC_CMD_CLR_WRAP 0)) ∧
      (∀ p, exec (.dumpNow p) s = .next (s.hostBit p F.PMC_CMD_DUMP_NOW 0)) ∧
      exec .periodicDump s = .next s.doPeriodicDump ∧
      (∀ p f loc w, exec (.focusConfigWrite p f loc w) s
        = .next (s.hostWrite p ((if loc then F.PMC_FOCUS_LOC else F.PMC_FOCUS_CFG) + 16 * f) w)) ∧
      (∀ i offsets, exec (.tracerRecord i offsets) s = .next (s.doTracerRecord i offsets)) ∧
      (∀ a w pecOk, exec (.smbusWrite a w pecOk) s = .next (s.doSmbusWrite a.toNat w pecOk)) ∧
      (∀ a pecOk, exec (.smbusSetReadAddress a pecOk) s = .next (s.doSmbusAddress a.toNat pecOk)) ∧
      exec .smbusRead s = .next s.doSmbusRead ∧
      exec .alertResponse s = .next s.doAlertResponse ∧
      (∀ a w crc, exec (.uartWrite a w crc) s = .next (s.doUartWrite a.toNat w crc.toNat)) ∧
      (∀ a w crc, exec (.uartRead a w crc) s = .next (s.doUartRead a.toNat w crc.toNat)) ∧
      (∀ key crcOk, exec (.keyProvisioning key crcOk) s = .next (s.doKeyProvisioning key.toNat crcOk)) ∧
      exec .jtagTestLogicReset s = .next s.doTestLogicReset) ∧
    (exec .bypass s = .next s.doBypass ∧
      exec .idcode s = .next s.doIdcode ∧
      (∀ balls shifted, exec (.samplePreload balls shifted) s = .next (s.doSamplePreload balls.toNat shifted.toNat)) ∧
      (∀ balls shifted, exec (.extest balls shifted) s = .next (s.doExtest balls.toNat shifted.toNat)) ∧
      exec .clamp s = .next s.doClamp ∧
      exec .highz s = .next s.doHighz ∧
      (∀ ch, exec (.unitFailure ch) s = .next (s.doUnitFailure ch)) ∧
      (∀ d, exec (.dieFault d) s = .next (s.doDieFault d)) ∧
      exec .refclkReturn s = .next s.doRefclkReturn ∧
      (∀ n, exec (.lanePllUnlock n) s = .next (s.doLanePllUnlock n)) ∧
      (∀ n seed followed, exec (.seedFound n seed followed) s = .next (s.doSeedFound n seed.toNat followed)) ∧
      (∀ slot failed valid image sensorCal safOk, exec (.configurationImageLoaded slot failed valid image sensorCal safOk) s
        = .next (s.doImageLoaded slot failed valid image sensorCal safOk)) ∧
      exec .overVoltageEnd s = .next s.doOverVoltageEnd ∧
      (∀ n, exec (.curtainOverload n) s = .next (s.doCurtainOverload n)) ∧
      exec .safetySetWritten s = .next s.doSafetySetWritten ∧
      exec .uartFrameGap s = .next s.doUartGap) ∧
    (exec .smbusClockLowTimeout s = .next s.doSmbusTimeout)

/-- The state after reset (R11, R17, R390, R411): it is sound, no command waits, neither the keeper nor CX runs, and every field
whose cold column gives a value holds it. -/
def Obligations.ResetState : Prop :=
  State.reset.Sound ∧ State.reset.pending = [] ∧ State.reset.keeperRuns = false ∧ State.reset.cxRuns = false ∧
    ∀ a r f n, regAt a = some r → f ∈ r.fields → f.cold = .val n →
      getField (State.reset.regGet a) f.lo f.width = n % 2 ^ f.width

/-- Soundness is an invariant: whatever command a step takes, in every sound state and not only in those that a run reaches, the
register file and the banks keep their canonical form, and no port, queue, lane, channel or region is lost. -/
def Obligations.SoundKept : Prop :=
  ∀ s t : State, s.Sound → step s = .next t → t.Sound

/-- The safety monitor and the supplies are out of reach (R347, R348, R371): no command but those named reaches the monitor's state,
no register write, no Prompter command and no link event among them, and none but those named reaches that of the supplies. -/
def Obligations.SafetyIsolation : Prop :=
  ∀ (c : Instr) (s t : State), exec c s = .next t →
    (reachesSafety c = false → t.saf = s.saf) ∧ (reachesPower c = false → t.pwr = s.pwr)

/-- The line code (R248 to R253, R273): descrambling is scrambling with the same state; no stuffed body holds 14 identical bits,
so it holds no marker; the body of a frame is read back whole from its line; the CRC has its check value. -/
def Obligations.LineCoding : Prop :=
  (∀ st bits, scramble st (scramble st bits) = bits) ∧
    (∀ bits pre run post b, stuff bits = pre ++ run ++ post → run = List.replicate run.length b → run.length ≤ 13) ∧
    (∀ st (f : TxFrame) (rest : List Bool), ∃ line, frameLine st f = syncBits ++ line ∧
      (destuff (bodyBits f.words.length) (line ++ rest)).map (fun r => (scramble st r.1, r.2)) = some (frameBody f, rest)) ∧
    crc32c ("123456789".toList.map Char.toNat) = 0xE3069283

/-- What a write stores and a read shows, by access code (R13 to R15, R455): RW and RWV take the written value, RWL until it is
locked; RO and WO keep what they hold, and WO shows 0; W1C clears the bits written 1; a set-event count is cleared by a 0; a
field with limits stores the nearer one, and bits of no field keep what they hold. -/
def Obligations.AccessCodes : Prop :=
  ∀ (a : Nat) (r : RegDef) (locked : Bool) (old w : Word), regAt a = some r →
    (∀ f ∈ r.fields,
      (f.acc = .rw ∨ f.acc = .rwv ∨ (f.acc = .rwl ∧ locked = false) →
        getField (storedWord r locked old w) f.lo f.width = stored r.base f.lo (getField w f.lo f.width) % 2 ^ f.width) ∧
      (f.acc = .ro ∨ f.acc = .wo ∨ (f.acc = .rwl ∧ locked = true) →
        getField (storedWord r locked old w) f.lo f.width = getField old f.lo f.width) ∧
      (f.acc = .w1c → ∀ i < f.width, (getField (storedWord r locked old w) f.lo f.width).testBit i =
        ((getField old f.lo f.width).testBit i && !(getField w f.lo f.width).testBit i)) ∧
      (f.acc = .cnt → getField (storedWord r locked old w) f.lo f.width =
        (if getField w f.lo f.width = 0 then 0 else getField old f.lo f.width)) ∧
      (f.acc = .wo → getField (r.shown old) f.lo f.width = 0) ∧
      (f.acc ≠ .wo → getField (r.shown old) f.lo f.width = getField old f.lo f.width)) ∧
    (∀ i < 32, (∀ f ∈ r.fields, i < f.lo ∨ f.lo + f.width ≤ i) → (storedWord r locked old w).getLsbD i = old.getLsbD i) ∧
    ∀ b lo v, (∀ x ∈ clamps, x.1 = b → x.2.1 = lo → stored b lo v = clampNat x.2.2.1 x.2.2.2 v) ∧
      ((∀ x ∈ clamps, x.1 = b → x.2.1 ≠ lo) → (b = F.TRG_SRC_CFG → lo = 2 → v < 6) → (b = F.ADC_CTL → lo = 0 → v < 2) →
        stored b lo v = v)

/-- R452: an address in no block or window, or not a multiple of 4, reads 0 with ADDR_ERROR; a write is discarded and counted
under 0x160 with the die field of its block, or F outside every block; REG_RD and REG_WR of it complete ADDR_ERROR. -/
def Obligations.UnassignedAddresses : Prop :=
  ∀ (s : State) (a : BitVec 32) (n : Nat), n = a.toNat →
    (n % 4 ≠ 0 ∨ (0x400000 ≤ n ∧ (n < 0x1000000 ∨ 0x1200000 ≤ n) ∧ (n < 0x2000000 ∨ 0x3000000 ≤ n))) →
    s.peek n = 0 ∧
    (∀ b ∈ [(0, 0x40000, 3), (0x40000, 0x100000, 15), (0x100000, 0x300000, 2), (0x300000, 0x380000, 3),
      (0x380000, 0x400000, 2), (0x400000, 0x1000000, 15), (0x1000000, 0x1200000, 2), (0x1200000, 0x2000000, 15),
      (0x2000000, 0x3000000, 2), (0x3000000, 0x100000000, 15)], b.1 ≤ n → n < b.2.1 → dieOfAddr n = b.2.2) ∧
    (∀ p : Fin 10, s.Awake → n % 4 ≠ 0 ∨ (s.port p).words.find? (fun w => w.1 == n) = none →
      ∃ t, exec (.pairLowRead p a) s = .next t ∧ (t.port p).value = 0 ∧ (t.port p).status = 2 ∧ t = { s with ports := t.ports }) ∧
    (∀ (p : Fin 10) (w : Word), s.Awake → exec (.registerWrite p a w) s
      = .next ((s.count 0x160 (s.locDie (dieOfAddr n)) 1).onPort p fun x => { x with status := 2 })) ∧
    (∀ c : PCmd, s.Working → s.soleCmd c → n = (c.words.getD 1 0).toNat % 2 ^ 32 →
      (c.opcode = 0x02 → ∃ t, exec .regWr s = .next t ∧ s.completed t c 0 2 0 0 ∧
        s.sameMain t [F.PRM_RING_STAT + 16 * c.ring] ∧
        ∀ b, 0x3C0000 ≤ b → t.regGet b = (s.count 0x160 (s.locDie (dieOfAddr n)) 1).regGet b) ∧
      (c.opcode = 0x03 → n % 4 ≠ 0 ∨ (s.port (2 + c.ring)).words.find? (fun w => w.1 == n) = none →
        ∃ t, exec .regRd s = .next t ∧ s.completed t c 0 2 0 0))

/-- R227: a queue word of 68 bits holds its DATA in [63:0], EOP in [64], TAG in [66:65] and even parity in [67]; parity detects any
odd number of flipped bits, and a packet of n words fills n places of a queue, TAG NORMAL, the last of them with EOP. -/
def Obligations.QueueWords : Prop :=
  (∀ (d : LWord) (eop : Bool) (tag : Fin 4) (w : QWord), w = mkQWord d eop tag →
    (∀ i < 64, w.getLsbD i = d.getLsbD i) ∧ w.getLsbD 64 = eop ∧
    w.getLsbD 65 = tag.val.testBit 0 ∧ w.getLsbD 66 = tag.val.testBit 1 ∧
    ((List.range 68).filter fun i => w.getLsbD i).length % 2 = 0 ∧ qParityOk w = true ∧
    qData w = d ∧ qEop w = eop ∧ qTag w = tag.val ∧
    ∀ m : QWord, ((List.range 68).filter fun i => m.getLsbD i).length % 2 = 1 → qParityOk (w ^^^ m) = false) ∧
  ∀ ws : List LWord, (packetWords ws).length = ws.length ∧ (packetWords ws).map qData = ws ∧
    ((packetWords ws).all fun w => qParityOk w && qTag w == 0) = true ∧
    (∀ i < ws.length, ((packetWords ws).map qEop)[i]? = some (decide (i + 1 = ws.length))) ∧
    ∀ (q : Queue) (p : Packet), p.words = packetWords ws →
      ({ q with waiting := q.waiting ++ [p] } : Queue).fill = q.fill + ws.length

/-- R14: every W1C flag has a companion 8-bit count; a hardware set sets the flag and adds 1 to the count, up to 255, and changes no
other bit and no other register; a write clears the flag by a 1 and the count by a 0, and leaves the count by any other value;
a hardware set beside a clearing write leaves the flag set and the count at 1. -/
def Obligations.SetEventCounts : Prop :=
  ∀ (s : State) (a : BitVec 32) (r : RegDef) (k : Nat), s.Working → regAt a.toNat = some r → a.toNat % 4 = 0 →
    (∃ f ∈ r.fields, f.acc = .w1c ∧ f.lo = k) →
    (∃ f ∈ r.fields, f.acc = .cnt ∧ f.lo = 8 * (k + 1) ∧ f.width = 8) ∧
    (∀ u : State, u.Sound →
      ((u.flag a.toNat k).regGet a.toNat).getLsbD k = true ∧
      getField ((u.flag a.toNat k).regGet a.toNat) (8 * (k + 1)) 8 = min 255 (getField (u.regGet a.toNat) (8 * (k + 1)) 8 + 1) ∧
      (∀ i < 32, i ≠ k → i < 8 * (k + 1) ∨ 8 * (k + 2) ≤ i →
        ((u.flag a.toNat k).regGet a.toNat).getLsbD i = (u.regGet a.toNat).getLsbD i) ∧
      u.sameRegs (u.flag a.toNat k) [a.toNat] ∧ u.flag a.toNat k = { u with regs := (u.flag a.toNat k).regs }) ∧
    ∀ (p : Fin 10) (w : Word), ∃ t, exec (.registerWrite p a w) s = .next t ∧
      (t.regGet a.toNat).getLsbD k = ((s.regGet a.toNat).getLsbD k && !w.getLsbD k) ∧
      getField (t.regGet a.toNat) (8 * (k + 1)) 8 =
        (if getField w (8 * (k + 1)) 8 = 0 then 0 else getField (s.regGet a.toNat) (8 * (k + 1)) 8) ∧
      ((t.flag a.toNat k).regGet a.toNat).getLsbD k = true ∧
      (getField w (8 * (k + 1)) 8 = 0 → getField ((t.flag a.toNat k).regGet a.toNat) (8 * (k + 1)) 8 = 1) ∧
      s.sameRegs t [a.toNat] ∧ t = { s with free := s.free + 1, regs := t.regs, ports := t.ports }

/-- R252: a transmitter sends each scrambled bit and after every 12 identical ones the complement, run and last bit being counted
as the rule's program counts them; a receiver deletes it and recovers the body, and its last bits' insertion with them; a 13th
identical bit is a violation. Stuffing acts on the scrambled body and on the seed. -/
def Obligations.Stuffing : Prop :=
  (∀ bits : List Bool, stuff bits = (bits.foldl (fun x b =>
      let run := if 0 < x.1 ∧ b = x.2.1 then x.1 + 1 else 1
      if run = 12 then (0, b, x.2.2 ++ [b, !b]) else (run, b, x.2.2 ++ [b])) ((0, false, []) : Nat × Bool × List Bool)).2.2) ∧
    (∀ bits rest : List Bool, destuff bits.length (stuff bits ++ rest) = some (bits, rest)) ∧
    (∀ (pre : List Bool) (b : Bool) (n : Nat) (rest : List Bool), pre.length + 12 ≤ n →
      pre = [] ∨ pre.getLast? = some (!b) → destuff n (stuff pre ++ List.replicate 13 b ++ rest) = none) ∧
    (∀ st (f : TxFrame), frameLine st f = syncBits ++ stuff (scramble st (frameBody f))) ∧
    ∀ st, seedBits st = List.replicate 32 false ++ true :: stuff (bitsMsb 31 st)
end

