-- ==== Sys2Proof/Laws/Commands.lean ====
section
/-! SUPPORT. What guards a command: in a state in which the keeper runs, or the keeper and CX, it acts as its operation does, and
else it leaves the state as it is. -/

namespace Sys2Proof.Machine

/-- Where the keeper and CX run, the keeper runs. -/
theorem State.Working.awake {s : State} (h : s.Working) : s.Awake := ⟨h.sound, h.keeper⟩

/-- A command of the keeper acts where the keeper runs. -/
theorem State.Awake.keeperDo {s : State} (h : s.Awake) (f : State → State) : s.keeperDo f = f s := by
  simp [State.keeperDo, h.keeper]

/-- A command of CX acts where the keeper and CX run. -/
theorem State.Working.cxDo {s : State} (h : s.Working) (f : State → State) : s.cxDo f = f s := by
  simp [State.cxDo, h.keeper, h.cx]

/-- A command that a halted keeper takes acts where the keeper runs. -/
theorem State.Awake.bootedDo {s : State} (h : s.Awake) (f : State → State) : s.bootedDo f = f s := by
  have k := h.keeper
  simp only [State.keeperRuns, Bool.and_eq_true] at k
  simp [State.bootedDo, k]

/-- A command of the keeper leaves the state as it is where the keeper does not run. -/
theorem State.keeperDo_idle {s : State} (h : s.keeperRuns = false) (f : State → State) : s.keeperDo f = s := by
  simp [State.keeperDo, h]

/-- A command of CX leaves the state as it is where the keeper or CX does not run. -/
theorem State.cxDo_idle {s : State} (h : s.keeperRuns = false ∨ s.cxRuns = false) (f : State → State) : s.cxDo f = s := by
  rcases h with h | h <;> simp [State.cxDo, h]

end Sys2Proof.Machine
end

