-- ==== Sys2Proof/Laws/Kept.lean ====
section
/-! SUPPORT. Footprints: Kept m r s says that s is sound and differs from r in the parts of State that the mask m names, part i
being field i of State, and no others. -/

namespace Sys2Proof.Machine

set_option Elab.async false

/-- Is the bit of weight p, a power of two, set in a mask? -/
def hasBit (m p : Nat) : Bool := m / p % 2 == 1

/-- A state whose parts of the mask m are blanked: two states that are equal so differ in those parts alone. Part i of the mask is
field i of State. -/
def State.blank (m : Nat) (s : State) : State :=
  { pending := bif hasBit m 1 then default else s.pending
    free := bif hasBit m 2 then default else s.free
    regs := bif hasBit m 4 then default else s.regs
    banks := bif hasBit m 8 then default else s.banks
    clk := bif hasBit m 16 then default else s.clk
    ports := bif hasBit m 32 then default else s.ports
    tim := bif hasBit m 64 then default else s.tim
    lnk := bif hasBit m 128 then default else s.lnk
    que := bif hasBit m 256 then default else s.que
    fau := bif hasBit m 512 then default else s.fau
    prm := bif hasBit m 1024 then default else s.prm
    stream := bif hasBit m 2048 then default else s.stream
    plane := bif hasBit m 4096 then default else s.plane
    regions := bif hasBit m 8192 then default else s.regions
    chans := bif hasBit m 16384 then default else s.chans
    feeds := bif hasBit m 32768 then default else s.feeds
    adc := bif hasBit m 65536 then default else s.adc
    chn := bif hasBit m 131072 then default else s.chn
    wch := bif hasBit m 262144 then default else s.wch
    trg := bif hasBit m 524288 then default else s.trg
    codec := bif hasBit m 1048576 then default else s.codec
    pmc := bif hasBit m 2097152 then default else s.pmc
    sns := bif hasBit m 4194304 then default else s.sns
    saf := bif hasBit m 8388608 then default else s.saf
    book := bif hasBit m 16777216 then default else s.book
    pwr := bif hasBit m 33554432 then default else s.pwr
    start := bif hasBit m 67108864 then default else s.start
    access := bif hasBit m 134217728 then default else s.access }

/-- A sound state that differs from r in the parts of the mask m alone. -/
structure Kept (msk : Nat) (ref s : State) : Prop where
  regs : tableWf coldWord s.regs = true
  banks : tableWf coldWord s.banks = true
  ports : s.ports.length = 10
  que : s.que.length = 12
  lanes : s.lnk.lanes.length = 24
  chans : s.chans.length = 64
  regions : s.regions.length = 4
  only : s.blank msk = ref.blank msk

variable {msk K : Nat} {ref : State}

theorem mask_sub {a b m : Nat} (h : a &&& m = a) (e : b &&& a = b) : b &&& m = b := by
  rw [← e, Nat.and_assoc, h]

theorem testBit_sub {a m : Nat} (h : a &&& m = a) (i : Nat) (e : a.testBit i = true) : m.testBit i = true := by
  rw [← h, Nat.testBit_and, Bool.and_eq_true] at e; exact e.2

theorem hasBit_pow (m i : Nat) : hasBit m (2 ^ i) = m.testBit i := by
  rw [Bool.eq_iff_iff]; simp [hasBit, Nat.testBit_eq_decide_div_mod_eq]

theorem cond_hasBit {a m : Nat} (h : a &&& m = a) (i p : Nat) (hp : p = 2 ^ i) {v : Type} (d x : v) :
    (bif hasBit m p then d else bif hasBit a p then d else x) = bif hasBit m p then d else x := by
  subst hp
  rw [hasBit_pow, hasBit_pow]
  cases hm : m.testBit i with
  | true => rfl
  | false =>
    cases ha : a.testBit i with
    | false => rfl
    | true => rw [testBit_sub h i ha] at hm; cases hm

theorem State.blank_blank {a m : Nat} (h : a &&& m = a) (s : State) : (s.blank a).blank m = s.blank m := by
  simp only [State.blank, cond_hasBit h 0 1 rfl, cond_hasBit h 1 2 rfl, cond_hasBit h 2 4 rfl, cond_hasBit h 3 8 rfl, cond_hasBit h 4 16 rfl, cond_hasBit h 5 32 rfl, cond_hasBit h 6 64 rfl, cond_hasBit h 7 128 rfl, cond_hasBit h 8 256 rfl, cond_hasBit h 9 512 rfl, cond_hasBit h 10 1024 rfl, cond_hasBit h 11 2048 rfl, cond_hasBit h 12 4096 rfl, cond_hasBit h 13 8192 rfl, cond_hasBit h 14 16384 rfl, cond_hasBit h 15 32768 rfl, cond_hasBit h 16 65536 rfl, cond_hasBit h 17 131072 rfl, cond_hasBit h 18 262144 rfl, cond_hasBit h 19 524288 rfl, cond_hasBit h 20 1048576 rfl, cond_hasBit h 21 2097152 rfl, cond_hasBit h 22 4194304 rfl, cond_hasBit h 23 8388608 rfl, cond_hasBit h 24 16777216 rfl, cond_hasBit h 25 33554432 rfl, cond_hasBit h 26 67108864 rfl, cond_hasBit h 27 134217728 rfl]

theorem only_trans {s t : State} (h : s.blank msk = ref.blank msk) (hm : K &&& msk = K) (e : t.blank K = s.blank K) :
    t.blank msk = ref.blank msk := by
  rw [← State.blank_blank hm t, e, State.blank_blank hm s, h]

theorem tableWf_cons {v : Type} [DecidableEq v] (u : Nat → v) (a : Nat) (x : v) (t : Table v) :
    tableWf u ((a, x) :: t) = true ↔ x ≠ u a ∧ (∀ q ∈ t.head?, a < q.1) ∧ tableWf u t = true := by
  cases t <;> simp [tableWf, and_assoc]

theorem tableWf_iff {v : Type} [DecidableEq v] (u : Nat → v) (t : Table v) :
    tableWf u t = true ↔ (∀ p ∈ t, p.2 ≠ u p.1) ∧ t.Pairwise fun p q => p.1 < q.1 := by
  induction t with
  | nil => simp [tableWf]
  | cons p t ih =>
    obtain ⟨a, x⟩ := p
    rw [tableWf_cons, ih, List.pairwise_cons]
    constructor
    · rintro ⟨h1, h2, h3, h4⟩
      refine ⟨?_, ?_, h4⟩
      · rintro p (_ | ⟨_, hp⟩)
        · exact h1
        · exact h3 p hp
      · intro q hq
        cases t with
        | nil => cases hq
        | cons r t =>
          have hr : a < r.1 := h2 r (by simp)
          rcases List.mem_cons.1 hq with rfl | hq
          · exact hr
          · exact Nat.lt_trans hr (List.rel_of_pairwise_cons h4 hq)
    · rintro ⟨h1, h2, h3⟩
      refine ⟨h1 (a, x) (by simp), ?_, fun p hp => h1 p (by simp [hp]), h3⟩
      intro q hq
      exact h2 q (List.mem_of_mem_head? hq)

theorem tablePut_wf {v : Type} [DecidableEq v] (u : Nat → v) (k : Nat) (x : v) (t : Table v) (h : tableWf u t = true) :
    tableWf u (tablePut (u k) k x t) = true
      ∧ ∀ b, b < k → (∀ q ∈ t.head?, b < q.1) → ∀ q ∈ (tablePut (u k) k x t).head?, b < q.1 := by
  induction t with
  | nil =>
    simp only [tablePut]
    split
    · simp [tableWf]
    · exact ⟨by simp_all [tableWf], by simp⟩
  | cons p rest ih =>
    obtain ⟨a, y⟩ := p
    obtain ⟨hy, hr, hw⟩ := (tableWf_cons u a y rest).1 h
    obtain ⟨ih1, ih2⟩ := ih hw
    simp only [tablePut]
    split
    · rename_i hka
      split
      · exact ⟨h, fun b _ hb => hb⟩
      · rename_i hx
        exact ⟨(tableWf_cons u k x _).2 ⟨hx, by simpa using hka, h⟩, fun b hb _ q hq => by simp at hq; subst hq; exact hb⟩
    · split
      · rename_i hak
        subst hak
        split
        · refine ⟨hw, fun b hb _ q hq => Nat.lt_trans hb (hr q hq)⟩
        · rename_i hx
          exact ⟨(tableWf_cons u a x rest).2 ⟨hx, hr, hw⟩, by simp⟩
      · rename_i h1 h2
        refine ⟨(tableWf_cons u a y _).2 ⟨hy, ih2 a (by omega) hr, ih1⟩, fun b _ hb => by simpa using hb⟩

theorem State.regPut_kept {s : State} (a : Nat) (w : Word) (h : Kept msk ref s) (hm : 4 &&& msk = 4) : Kept msk ref (s.regPut a w) :=
  ⟨(tablePut_wf coldWord a w s.regs h.regs).1, h.banks, h.ports, h.que, h.lanes, h.chans, h.regions, only_trans h.only hm rfl⟩

theorem Kept.congr {s t : State} (h : Kept msk ref s) (h1 : t.regs = s.regs) (h0 : t.banks = s.banks) (h2 : t.ports = s.ports)
    (h3 : t.que = s.que) (h4 : t.lnk.lanes = s.lnk.lanes) (h5 : t.chans = s.chans) (h6 : t.regions = s.regions)
    (hm : K &&& msk = K) (e : t.blank K = s.blank K) : Kept msk ref t :=
  ⟨h1 ▸ h.regs, h0 ▸ h.banks, h2 ▸ h.ports, h3 ▸ h.que, h4 ▸ h.lanes, h5 ▸ h.chans, h6 ▸ h.regions, only_trans h.only hm e⟩

theorem Kept.size {s t : State} (h : Kept msk ref s) (h1 : t.regs = s.regs) (h0 : t.banks = s.banks) (h2 : t.ports.length = s.ports.length)
    (h3 : t.que.length = s.que.length) (h4 : t.lnk.lanes.length = s.lnk.lanes.length)
    (h5 : t.chans.length = s.chans.length) (h6 : t.regions.length = s.regions.length)
    (hm : K &&& msk = K) (e : t.blank K = s.blank K) : Kept msk ref t :=
  ⟨h1 ▸ h.regs, h0 ▸ h.banks, h2 ▸ h.ports, h3 ▸ h.que, h4 ▸ h.lanes, h5 ▸ h.chans, h6 ▸ h.regions, only_trans h.only hm e⟩

theorem mk_kept {s : State} {pending : List Instr} {free : Nat} {regs : Table Word} {banks : Table Word} {clk : Clk} {ports : List Port} {tim : Tim} {lnk : Lnk} {que : List Queue} {fau : Fau} {prm : Prm} {stream : Stream} {plane : Plane} {regions : List Region} {chans : List Chan} {feeds : Feeds} {adc : Adc} {chn : Chn} {wch : Wch} {trg : Trg} {codec : List CJob} {pmc : Pmc} {sns : Sns} {saf : Saf} {book : Book} {pwr : Pwr} {start : Start} {access : Access}
    (h : Kept msk ref s) (h1 : regs = s.regs) (h0 : banks = s.banks) (h2 : ports = s.ports) (h3 : que = s.que)
    (h4 : lnk.lanes = s.lnk.lanes) (h5 : chans = s.chans) (h6 : regions = s.regions) (hm : K &&& msk = K)
    (e : (State.mk pending free regs banks clk ports tim lnk que fau prm stream plane regions chans feeds adc chn wch trg codec pmc sns saf book pwr start access).blank K = s.blank K := by
      simp only [State.blank, hasBit, Nat.reduceDiv, Nat.reduceMod, Nat.reduceBEq, cond_true, cond_false]) :
    Kept msk ref (State.mk pending free regs banks clk ports tim lnk que fau prm stream plane regions chans feeds adc chn wch trg codec pmc sns saf book pwr start access) :=
  h.congr h1 h0 h2 h3 h4 h5 h6 hm e

theorem mk_sized {s : State} {pending : List Instr} {free : Nat} {regs : Table Word} {banks : Table Word} {clk : Clk} {ports : List Port} {tim : Tim} {lnk : Lnk} {que : List Queue} {fau : Fau} {prm : Prm} {stream : Stream} {plane : Plane} {regions : List Region} {chans : List Chan} {feeds : Feeds} {adc : Adc} {chn : Chn} {wch : Wch} {trg : Trg} {codec : List CJob} {pmc : Pmc} {sns : Sns} {saf : Saf} {book : Book} {pwr : Pwr} {start : Start} {access : Access}
    (h : Kept msk ref s) (h1 : regs = s.regs) (h0 : banks = s.banks) (h2 : ports.length = s.ports.length) (h3 : que.length = s.que.length)
    (h4 : lnk.lanes.length = s.lnk.lanes.length) (h5 : chans.length = s.chans.length) (h6 : regions.length = s.regions.length)
    (hm : K &&& msk = K) (e : (State.mk pending free regs banks clk ports tim lnk que fau prm stream plane regions chans feeds adc chn wch trg codec pmc sns saf book pwr start access).blank K = s.blank K := by
      simp only [State.blank, hasBit, Nat.reduceDiv, Nat.reduceMod, Nat.reduceBEq, cond_true, cond_false]) :
    Kept msk ref (State.mk pending free regs banks clk ports tim lnk que fau prm stream plane regions chans feeds adc chn wch trg codec pmc sns saf book pwr start access) :=
  h.size h1 h0 h2 h3 h4 h5 h6 hm e

theorem ite_kept {c : Prop} [Decidable c] {s t : State} (hs : Kept msk ref s) (ht : Kept msk ref t) : Kept msk ref (if c then s else t) := by
  split <;> assumption

theorem State.forEach_kept {a : Type} {s : State} {l : List a} {f : State → a → State} (h : Kept msk ref s)
    (hf : ∀ s x, Kept msk ref s → Kept msk ref (f s x)) : Kept msk ref (s.forEach l f) := by
  unfold State.forEach
  induction l generalizing s with
  | nil => exact h
  | cons x l ih => exact ih (hf s x h)

theorem State.when_kept {s : State} {c : Bool} {f : State → State} (h : Kept msk ref s) (hf : ∀ s, Kept msk ref s → Kept msk ref (f s)) :
    Kept msk ref (s.when c f) := by
  unfold State.when; split
  · exact hf s h
  · exact h

theorem foldl_kept {a : Type} {s : State} {l : List a} {f : State → a → State} (h : Kept msk ref s)
    (hf : ∀ s x, Kept msk ref s → Kept msk ref (f s x)) : Kept msk ref (l.foldl f s) := by
  induction l generalizing s with
  | nil => exact h
  | cons x l ih => exact ih (hf s x h)

/-- If a state comes of an operation, it is sound. -/
structure OKept (msk : Nat) (ref : State) (o : Option State) : Prop where
  imp : ∀ t, o = some t → Kept msk ref t

theorem OKept.none : OKept msk ref none := ⟨by intro t h; cases h⟩
theorem OKept.some {s : State} (h : Kept msk ref s) : OKept msk ref (some s) := ⟨by intro t e; cases e; exact h⟩
theorem OKept.ite {c : Prop} [Decidable c] {s t : Option State} (hs : OKept msk ref s) (ht : OKept msk ref t) :
    OKept msk ref (if c then s else t) := by split <;> assumption
theorem OKept.out {o : Option State} {t : State} (e : o = Option.some t) (h : OKept msk ref o) : Kept msk ref t := h.imp t e
theorem fst_out {b : Type} {p : State × b} {s : State} {x : b} (e : p = (s, x)) (h : Kept msk ref p.1) : Kept msk ref s := by
  rw [e] at h; exact h
theorem snd_out {b : Type} {p : b × State} {s : State} {x : b} (e : p = (x, s)) (h : Kept msk ref p.2) : Kept msk ref s := by
  rw [e] at h; exact h
theorem foldl_fst_kept {a b : Type} {p : State × b} {l : List a} {f : State × b → a → State × b} (h : Kept msk ref p.1)
    (hf : ∀ p x, Kept msk ref p.1 → Kept msk ref (f p x).1) : Kept msk ref (l.foldl f p).1 := by
  induction l generalizing p with
  | nil => exact h
  | cons x l ih => exact ih (hf p x h)
theorem foldl_snd_kept {a b : Type} {p : b × State} {l : List a} {f : b × State → a → b × State} (h : Kept msk ref p.2)
    (hf : ∀ p x, Kept msk ref p.2 → Kept msk ref (f p x).2) : Kept msk ref (l.foldl f p).2 := by
  induction l generalizing p with
  | nil => exact h
  | cons x l ih => exact ih (hf p x h)

end Sys2Proof.Machine
end

