-- ==== Sys2Proof/Laws/Fields.lean ====
section
/-! SUPPORT. Fields of registers: what reading a field gives after a field or a register is written. -/

namespace Sys2Proof.Machine

set_option Elab.async false

theorem getLsbD_setField (w : Word) (lo width v i : Nat) :
    (setField w lo width v).getLsbD i =
      (if i < 32 ∧ lo ≤ i ∧ i < lo + width then (v % 2 ^ width).testBit (i - lo) else w.getLsbD i) := by
  unfold setField
  simp only [BitVec.getLsbD_or, BitVec.getLsbD_and, BitVec.getLsbD_not, BitVec.getLsbD_shiftLeft, BitVec.getLsbD_ofNat,
    Nat.testBit_two_pow_sub_one, Nat.testBit_mod_two_pow]
  by_cases h : i < 32
  · have hb : i - lo < 32 := by omega
    by_cases h1 : lo ≤ i
    · by_cases h2 : i < lo + width
      · have h3 : i - lo < width := by omega
        simp [h, h1, h2, h3, hb, Nat.not_lt.2 h1]
      · have h3 : ¬ i - lo < width := by omega
        simp [h, h2, h3, hb]
    · simp [h, h1, Nat.lt_of_not_le h1]
  · simp [h, BitVec.getLsbD_of_ge _ _ (Nat.le_of_not_lt h)]

theorem testBit_getField (w : Word) (lo width i : Nat) :
    (getField w lo width).testBit i = (decide (i < width) && w.getLsbD (lo + i)) := by
  simp [getField, Nat.testBit_mod_two_pow, Nat.testBit_div_two_pow, BitVec.getLsbD, Nat.add_comm]

theorem getField_setField (w : Word) (lo width v : Nat) (h : lo + width ≤ 32) :
    getField (setField w lo width v) lo width = v % 2 ^ width := by
  apply Nat.eq_of_testBit_eq
  intro i
  rw [testBit_getField, getLsbD_setField]
  by_cases hi : i < width
  · have h1 : lo + i < 32 := by omega
    simp [hi, h1]
  · simp [hi, Nat.testBit_mod_two_pow]

theorem getField_setField_ne (w : Word) (lo width v lo' width' : Nat) (h : lo' + width' ≤ lo ∨ lo + width ≤ lo') :
    getField (setField w lo width v) lo' width' = getField w lo' width' := by
  apply Nat.eq_of_testBit_eq
  intro i
  rw [testBit_getField, testBit_getField, getLsbD_setField]
  by_cases hi : i < width'
  · have h1 : ¬ (lo' + i < 32 ∧ lo ≤ lo' + i ∧ lo' + i < lo + width) := by omega
    simp [hi, h1]
  · simp [hi]

theorem tableGet_lt {v : Type} [DecidableEq v] (u : Nat → v) (b : Nat) (t : Table v) (h : tableWf u t = true)
    (hb : ∀ q ∈ t.head?, b < q.1) : tableGet (u b) t b = u b := by
  induction t with
  | nil => rfl
  | cons p rest ih =>
    obtain ⟨a, y⟩ := p
    have hw := (tableWf_iff u _).1 h
    have ha : b < a := hb (a, y) (by simp)
    have h1 : tableWf u rest = true := (tableWf_iff u rest).2 ⟨fun q hq => hw.1 q (List.mem_cons_of_mem _ hq), hw.2.of_cons⟩
    rw [tableGet, if_neg (by omega)]
    refine ih h1 fun q hq => ?_
    have := (List.pairwise_cons.1 hw.2).1 q (List.mem_of_mem_head? hq)
    exact Nat.lt_trans ha this

theorem tableGet_tablePut {v : Type} [DecidableEq v] (u : Nat → v) (k b : Nat) (x : v) (t : Table v) (h : tableWf u t = true) :
    tableGet (u b) (tablePut (u k) k x t) b = if b = k then x else tableGet (u b) t b := by
  induction t with
  | nil =>
    unfold tablePut
    split
    · rename_i hx; split
      · rename_i hb; subst hb; exact hx.symm
      · rfl
    · simp only [tableGet]
      by_cases hb : b = k
      · simp [hb]
      · simp [hb, Ne.symm hb]
  | cons p rest ih =>
    obtain ⟨a, y⟩ := p
    have hc := (tableWf_cons u a y rest).1 h
    have ih := ih hc.2.2
    unfold tablePut
    split
    · rename_i hka
      have hl : b = k → tableGet (u b) ((a, y) :: rest) b = u b := fun e =>
        tableGet_lt u b _ h (by simp; omega)
      split
      · rename_i hx; split
        · rename_i hb; rw [hl hb, hx, hb]
        · rfl
      · by_cases hb : b = k
        · simp [hb, tableGet]
        · simp [hb, Ne.symm hb, tableGet]
    · split
      · rename_i h1 h2
        subst h2
        split
        · rename_i hx
          by_cases hb : b = a
          · subst hb
            simp only [if_pos]
            rw [tableGet_lt u b rest hc.2.2 hc.2.1, hx]
          · simp [hb, tableGet, Ne.symm hb]
        · by_cases hb : b = a
          · simp [hb, tableGet]
          · simp [hb, Ne.symm hb, tableGet]
      · rename_i h1 h2
        simp only [tableGet]
        by_cases hb : a = b
        · have : b ≠ k := by omega
          simp [hb, this]
        · simp only [hb, if_false]
          exact ih

theorem State.regGet_regPut {s : State} (h : tableWf coldWord s.regs = true) (a b : Nat) (w : Word) :
    (s.regPut a w).regGet b = if b = a then w else s.regGet b :=
  tableGet_tablePut coldWord a b w s.regs h

theorem State.rd_wr {s : State} (h : tableWf coldWord s.regs = true) (f : Fld) (i v : Nat) (hf : f.lo + f.width ≤ 32) :
    (s.wr f i v).rd f i = v % 2 ^ f.width := by
  simp only [State.rd, State.wr, State.regGet_regPut h, if_pos, getField_setField _ _ _ _ hf]

theorem State.rd_wr_ne {s : State} (h : tableWf coldWord s.regs = true) (f g : Fld) (i j v : Nat)
    (hf : g.addr j ≠ f.addr i ∨ g.lo + g.width ≤ f.lo ∨ f.lo + f.width ≤ g.lo) :
    (s.wr f i v).rd g j = s.rd g j := by
  simp only [State.rd, State.wr, State.regGet_regPut h]
  split
  · rename_i e
    rcases hf with hf | hf
    · exact absurd e hf
    · rw [getField_setField_ne _ _ _ _ _ _ hf, e]
  · rfl

end Sys2Proof.Machine
end

