-- ==== Sys2Proof/Laws/KeptParts.lean ====
section
/-! SUPPORT. Footprints of the operations of registers, blocks, inputs, cues, streams, watch cells and converters: one lemma for each, which says what it can change and that it
keeps a state sound. -/

namespace Sys2Proof.Machine

set_option Elab.async false

set_option linter.unreachableTactic false
set_option linter.unusedTactic false

variable {msk : Nat} {ref : State}

theorem State.freeBelow_kept {s : State} (n : Nat) (h : Kept msk ref s) (hm : 2 &&& msk = 2) : Kept msk ref (s.freeBelow n).2 :=
  Kept.congr h rfl rfl rfl rfl rfl rfl rfl hm rfl
theorem freeBelow_out {s t : State} {n b : Nat} (e : s.freeBelow b = (n, t)) (h : Kept msk ref s) (hm : 2 &&& msk = 2) : Kept msk ref t := by
  have := State.freeBelow_kept b h hm; rw [e] at this; exact this

theorem State.wr_kept (s : State) (f : Fld) (i v : Nat) (hs : Kept msk ref s) (hm : 4 &&& msk = 4) : Kept msk ref (State.wr s f i v) := by
  unfold State.wr
  repeat' first
    | with_reducible assumption
    | exact mask_sub hm rfl
    | with_reducible apply State.regPut_kept

theorem State.wrB_kept (s : State) (f : Fld) (i : Nat) (b : Bool) (hs : Kept msk ref s) (hm : 4 &&& msk = 4) : Kept msk ref (State.wrB s f i b) := by
  unfold State.wrB
  repeat' first
    | with_reducible assumption
    | exact mask_sub hm rfl
    | with_reducible apply State.wr_kept

theorem State.wrS_kept (s : State) (f : Fld) (i : Nat) (v : Int) (hs : Kept msk ref s) (hm : 4 &&& msk = 4) : Kept msk ref (State.wrS s f i v) := by
  unfold State.wrS
  repeat' first
    | with_reducible assumption
    | exact mask_sub hm rfl
    | with_reducible apply State.wr_kept

theorem State.flag_kept (s : State) (a k : Nat) (hs : Kept msk ref s) (hm : 4 &&& msk = 4) : Kept msk ref (State.flag s a k) := by
  unfold State.flag
  repeat' first
    | with_reducible assumption
    | exact mask_sub hm rfl
    | with_reducible apply State.regPut_kept

theorem State.satAdd_kept (s : State) (f : Fld) (i n : Nat) (hs : Kept msk ref s) (hm : 4 &&& msk = 4) : Kept msk ref (State.satAdd s f i n) := by
  unfold State.satAdd
  repeat' first
    | with_reducible assumption
    | exact mask_sub hm rfl
    | with_reducible apply State.wr_kept

theorem State.pass_kept (s : State) (n : Nat) (hs : Kept msk ref s) (hm : 16 &&& msk = 16) : Kept msk ref (State.pass s n) := by
  unfold State.pass
  repeat' first
    | with_reducible assumption
    | exact mask_sub hm rfl
    | with_reducible apply State.count_kept
    | (intro x; refine (fun (hx : Kept msk ref x) => ?_) ?_; on_goal 1 => clear_value x)
    | (intro x; refine (fun (hx : Kept msk ref x.1) => ?_) ?_; on_goal 1 => clear_value x)
    | (intro x; refine (fun (hx : Kept msk ref x.2) => ?_) ?_; on_goal 1 => clear_value x)
    | (intro x; clear_value x)
    | lift_lets
    | dsimp only
    | with_reducible apply ite_kept
    | intro _ _ _
    | intro _ _
    | fail_if_no_progress (with_reducible refine mk_kept ?_ rfl rfl rfl rfl rfl rfl rfl hm)

theorem State.toCount_kept (s : State) (n : Nat) (hs : Kept msk ref s) (hm : 16 &&& msk = 16) : Kept msk ref (State.toCount s n) := by
  unfold State.toCount
  repeat' first
    | with_reducible assumption
    | exact mask_sub hm rfl
    | with_reducible apply State.count_kept
    | with_reducible apply State.pass_kept
    | dsimp only
    | with_reducible apply ite_kept

theorem State.toTick_kept (s : State) (t : Nat) (hs : Kept msk ref s) (hm : 16 &&& msk = 16) : Kept msk ref (State.toTick s t) := by
  unfold State.toTick
  repeat' first
    | with_reducible assumption
    | exact mask_sub hm rfl
    | with_reducible apply State.pass_kept
    | dsimp only
    | with_reducible apply ite_kept

theorem State.wrPair_kept (s : State) (lo hi : Fld) (i v : Nat) (hs : Kept msk ref s) (hm : 4 &&& msk = 4) : Kept msk ref (State.wrPair s lo hi i v) := by
  unfold State.wrPair
  repeat' first
    | with_reducible assumption
    | exact mask_sub hm rfl
    | with_reducible apply State.wr_kept

theorem State.pmcWrapped_kept (s : State) (j : Nat) (hs : Kept msk ref s) (hm : 4 &&& msk = 4) : Kept msk ref (State.pmcWrapped s j) := by
  unfold State.pmcWrapped
  repeat' first
    | with_reducible assumption
    | exact mask_sub hm rfl
    | with_reducible apply State.flag_kept
    | with_reducible apply State.wr_kept

theorem State.pmcAdd_kept (s : State) (lo hi : Fld) (i j amount : Nat) (hs : Kept msk ref s) (hm : 4 &&& msk = 4) : Kept msk ref (State.pmcAdd s lo hi i j amount) := by
  unfold State.pmcAdd
  repeat' first
    | with_reducible assumption
    | exact mask_sub hm rfl
    | with_reducible apply State.pmcWrapped_kept
    | with_reducible apply State.wrPair_kept
    | (intro x; refine (fun (hx : Kept msk ref x) => ?_) ?_; on_goal 1 => clear_value x)
    | (intro x; refine (fun (hx : Kept msk ref x.1) => ?_) ?_; on_goal 1 => clear_value x)
    | (intro x; refine (fun (hx : Kept msk ref x.2) => ?_) ?_; on_goal 1 => clear_value x)
    | (intro x; clear_value x)
    | lift_lets
    | dsimp only
    | with_reducible apply ite_kept

theorem State.count_kept (s : State) (e l amount : Nat) (hs : Kept msk ref s) (hm : 4 &&& msk = 4) : Kept msk ref (State.count s e l amount) := by
  unfold State.count
  repeat' first
    | with_reducible assumption
    | exact mask_sub hm rfl
    | with_reducible apply State.forEach_kept
    | with_reducible apply State.pmcAdd_kept
    | dsimp only
    | with_reducible apply ite_kept
    | intro _ _ _

theorem State.setQueue_kept (s : State) (q : Nat) (x : Queue) (h : Kept msk ref s) (hm : 256 &&& msk = 256) : Kept msk ref (State.setQueue s q x) :=
  Kept.size h rfl rfl rfl (by simp [State.setQueue]) rfl rfl rfl hm rfl

theorem State.onQueue_kept (s : State) (q : Nat) (f : Queue → Queue) (hs : Kept msk ref s) (hm : 256 &&& msk = 256) : Kept msk ref (State.onQueue s q f) := by
  unfold State.onQueue
  repeat' first
    | with_reducible assumption
    | exact mask_sub hm rfl
    | with_reducible apply State.setQueue_kept

theorem State.hwm_kept (s : State) (q : Nat) (hs : Kept msk ref s) (hm : 4 &&& msk = 4) : Kept msk ref (State.hwm s q) := by
  unfold State.hwm
  repeat' first
    | with_reducible assumption
    | exact mask_sub hm rfl
    | with_reducible apply State.wr_kept

theorem State.noteT48_kept (s : State) (q : Nat) (p : Packet) (hs : Kept msk ref s) (hm : 64 &&& msk = 64) : Kept msk ref (State.noteT48 s q p) := by
  unfold State.noteT48
  repeat' first
    | with_reducible assumption
    | exact mask_sub hm rfl
    | dsimp only
    | with_reducible apply ite_kept
    | intro _ _ _
    | intro _ _
    | fail_if_no_progress (with_reducible refine mk_kept ?_ rfl rfl rfl rfl rfl rfl rfl hm)

theorem State.enqueue_kept (s : State) (q : Nat) (p : Packet) (hs : Kept msk ref s) (hm : 324 &&& msk = 324) : Kept msk ref (State.enqueue s q p) := by
  unfold State.enqueue
  repeat' first
    | with_reducible assumption
    | exact mask_sub hm rfl
    | with_reducible apply State.count_kept
    | with_reducible apply State.hwm_kept
    | with_reducible apply State.noteT48_kept
    | with_reducible apply State.onQueue_kept

theorem State.unblock_kept (s : State) (q : Nat) (hs : Kept msk ref s) (hm : 324 &&& msk = 324) : Kept msk ref (State.unblock s q) := by
  unfold State.unblock
  repeat' first
    | with_reducible assumption
    | exact mask_sub hm rfl
    | with_reducible apply State.enqueue_kept
    | with_reducible apply State.forEach_kept
    | with_reducible apply State.onQueue_kept
    | dsimp only
    | with_reducible apply ite_kept
    | intro _ _ _

theorem State.onInc_kept (s : State) (e : Nat) (f : Incident → Incident) (hs : Kept msk ref s) (hm : 512 &&& msk = 512) : Kept msk ref (State.onInc s e f) := by
  unfold State.onInc
  repeat' first
    | with_reducible assumption
    | exact mask_sub hm rfl
    | dsimp only
    | intro _ _ _
    | intro _ _
    | fail_if_no_progress (with_reducible refine mk_kept ?_ rfl rfl rfl rfl rfl rfl rfl hm)

theorem State.foldInc_kept (s : State) (r e : Nat) (hs : Kept msk ref s) (hm : 516 &&& msk = 516) : Kept msk ref (State.foldInc s r e) := by
  unfold State.foldInc
  repeat' first
    | with_reducible assumption
    | exact mask_sub hm rfl
    | with_reducible apply State.count_kept
    | with_reducible apply State.onInc_kept

theorem State.stationDelay_kept (s : State) (hs : Kept msk ref s) (hm : 2 &&& msk = 2) : Kept msk ref (State.stationDelay s).2 := by
  unfold State.stationDelay
  repeat' first
    | with_reducible assumption
    | exact mask_sub hm rfl
    | with_reducible apply State.freeBelow_kept

theorem State.openInc_kept (s : State) (e c l d : Nat) (hs : Kept msk ref s) (hm : 518 &&& msk = 518) : Kept msk ref (State.openInc s e c l d) := by
  unfold State.openInc
  repeat' first
    | with_reducible assumption
    | exact mask_sub hm rfl
    | with_reducible apply State.count_kept
    | with_reducible apply State.flag_kept
    | with_reducible apply State.foldInc_kept
    | with_reducible apply State.forEach_kept
    | with_reducible apply State.onInc_kept
    | with_reducible apply State.stationDelay_kept
    | with_reducible apply State.wr_kept
    | (intro x; refine (fun (hx : Kept msk ref x) => ?_) ?_; on_goal 1 => clear_value x)
    | (intro x; refine (fun (hx : Kept msk ref x.1) => ?_) ?_; on_goal 1 => clear_value x)
    | (intro x; refine (fun (hx : Kept msk ref x.2) => ?_) ?_; on_goal 1 => clear_value x)
    | (intro x; clear_value x)
    | lift_lets
    | dsimp only
    | with_reducible apply ite_kept
    | intro _ _ _
    | intro _ _
    | fail_if_no_progress (with_reducible refine mk_kept ?_ rfl rfl rfl rfl rfl rfl rfl hm)
    | (with_reducible refine mk_sized ?_ rfl rfl ?_ ?_ ?_ ?_ ?_ hm <;> first | with_reducible assumption | with_reducible rfl | (simp; done))
    | split

theorem State.incOverflow_kept (s : State) (hs : Kept msk ref s) (hm : 516 &&& msk = 516) : Kept msk ref (State.incOverflow s) := by
  unfold State.incOverflow
  repeat' first
    | with_reducible assumption
    | exact mask_sub hm rfl
    | with_reducible apply State.count_kept
    | with_reducible apply State.flag_kept
    | with_reducible apply State.onInc_kept
    | with_reducible apply State.wr_kept
    | (intro x; refine (fun (hx : Kept msk ref x) => ?_) ?_; on_goal 1 => clear_value x)
    | (intro x; refine (fun (hx : Kept msk ref x.1) => ?_) ?_; on_goal 1 => clear_value x)
    | (intro x; refine (fun (hx : Kept msk ref x.2) => ?_) ?_; on_goal 1 => clear_value x)
    | (intro x; clear_value x)
    | lift_lets
    | dsimp only
    | with_reducible apply ite_kept

theorem State.report_kept (s : State) (c l d : Nat) (hs : Kept msk ref s) (hm : 518 &&& msk = 518) : Kept msk ref (State.report s c l d) := by
  unfold State.report
  repeat' first
    | with_reducible assumption
    | exact mask_sub hm rfl
    | with_reducible apply State.count_kept
    | with_reducible apply State.incOverflow_kept
    | with_reducible apply State.onInc_kept
    | with_reducible apply State.openInc_kept
    | dsimp only
    | with_reducible apply ite_kept
    | intro _ _ _
    | intro _ _
    | fail_if_no_progress (with_reducible refine mk_kept ?_ rfl rfl rfl rfl rfl rfl rfl hm)
    | (with_reducible refine mk_sized ?_ rfl rfl ?_ ?_ ?_ ?_ ?_ hm <;> first | with_reducible assumption | with_reducible rfl | (simp; done))
    | split

theorem State.conditionOver_kept (s : State) (c l : Nat) (hs : Kept msk ref s) (hm : 512 &&& msk = 512) : Kept msk ref (State.conditionOver s c l) := by
  unfold State.conditionOver
  repeat' first
    | with_reducible assumption
    | exact mask_sub hm rfl
    | dsimp only
    | with_reducible apply ite_kept
    | intro _ _ _
    | intro _ _
    | fail_if_no_progress (with_reducible refine mk_kept ?_ rfl rfl rfl rfl rfl rfl rfl hm)

theorem State.conditionOverAt_kept (s : State) (c l d : Nat) (hs : Kept msk ref s) (hm : 512 &&& msk = 512) : Kept msk ref (State.conditionOverAt s c l d) := by
  unfold State.conditionOverAt
  repeat' first
    | with_reducible assumption
    | exact mask_sub hm rfl
    | dsimp only
    | with_reducible apply ite_kept
    | intro _ _ _
    | intro _ _
    | fail_if_no_progress (with_reducible refine mk_kept ?_ rfl rfl rfl rfl rfl rfl rfl hm)

theorem State.configFault_kept (s : State) (l addr : Nat) (hs : Kept msk ref s) (hm : 518 &&& msk = 518) : Kept msk ref (State.configFault s l addr) := by
  unfold State.configFault
  repeat' first
    | with_reducible assumption
    | exact mask_sub hm rfl
    | with_reducible apply State.report_kept

theorem State.pushTime_kept (s : State) (path : Nat) (ws : List LWord) (hs : Kept msk ref s) (hm : 838 &&& msk = 838) : Kept msk ref (State.pushTime s path ws) := by
  unfold State.pushTime
  repeat' first
    | with_reducible assumption
    | exact mask_sub hm rfl
    | with_reducible apply State.count_kept
    | with_reducible apply State.enqueue_kept
    | with_reducible apply State.flag_kept
    | with_reducible apply State.report_kept
    | with_reducible apply State.satAdd_kept
    | (intro x; refine (fun (hx : Kept msk ref x) => ?_) ?_; on_goal 1 => clear_value x)
    | (intro x; refine (fun (hx : Kept msk ref x.1) => ?_) ?_; on_goal 1 => clear_value x)
    | (intro x; refine (fun (hx : Kept msk ref x.2) => ?_) ?_; on_goal 1 => clear_value x)
    | (intro x; clear_value x)
    | lift_lets
    | dsimp only
    | with_reducible apply ite_kept

theorem State.pushSafety_kept (s : State) (only : Option Nat) (ws : List LWord) (hs : Kept msk ref s) (hm : 838 &&& msk = 838) : Kept msk ref (State.pushSafety s only ws) := by
  unfold State.pushSafety
  repeat' first
    | with_reducible assumption
    | exact mask_sub hm rfl
    | with_reducible apply State.count_kept
    | with_reducible apply State.enqueue_kept
    | with_reducible apply State.flag_kept
    | with_reducible apply State.report_kept
    | with_reducible apply State.satAdd_kept
    | (intro x; refine (fun (hx : Kept msk ref x) => ?_) ?_; on_goal 1 => clear_value x)
    | (intro x; refine (fun (hx : Kept msk ref x.1) => ?_) ?_; on_goal 1 => clear_value x)
    | (intro x; refine (fun (hx : Kept msk ref x.2) => ?_) ?_; on_goal 1 => clear_value x)
    | (intro x; clear_value x)
    | lift_lets
    | dsimp only
    | with_reducible apply ite_kept

theorem State.pushPkt_kept (s : State) (q : Nat) (p : Packet) (hs : Kept msk ref s) (hm : 838 &&& msk = 838) : Kept msk ref (State.pushPkt s q p) := by
  unfold State.pushPkt
  repeat' first
    | with_reducible assumption
    | exact mask_sub hm rfl
    | with_reducible apply State.enqueue_kept
    | with_reducible apply State.flag_kept
    | with_reducible apply State.onQueue_kept
    | with_reducible apply State.report_kept
    | with_reducible apply State.satAdd_kept
    | dsimp only
    | with_reducible apply ite_kept

theorem State.push_kept (s : State) (q : Nat) (ws : List LWord) (hs : Kept msk ref s) (hm : 838 &&& msk = 838) : Kept msk ref (State.push s q ws) := by
  unfold State.push
  repeat' first
    | with_reducible assumption
    | exact mask_sub hm rfl
    | with_reducible apply State.count_kept
    | with_reducible apply State.pushPkt_kept

theorem State.pushSteered_kept (s : State) (q : Nat) (ch : Option Nat) (ws : List LWord) (hs : Kept msk ref s) (hm : 838 &&& msk = 838) : Kept msk ref (State.pushSteered s q ch ws) := by
  unfold State.pushSteered
  repeat' first
    | with_reducible assumption
    | exact mask_sub hm rfl
    | with_reducible apply State.count_kept
    | with_reducible apply State.pushPkt_kept

theorem State.onChan_kept (s : State) (ch : Nat) (f : Chan → Chan) (h : Kept msk ref s) (hm : 16384 &&& msk = 16384) : Kept msk ref (State.onChan s ch f) :=
  Kept.size h rfl rfl rfl rfl rfl (by simp [State.onChan]) rfl hm rfl

theorem State.onRegion_kept (s : State) (i : Nat) (f : Region → Region) (h : Kept msk ref s) (hm : 8192 &&& msk = 8192) : Kept msk ref (State.onRegion s i f) :=
  Kept.size h rfl rfl rfl rfl rfl rfl (by simp [State.onRegion]) hm rfl

theorem State.onPlane_kept (s : State) (f : Plane → Plane) (hs : Kept msk ref s) (hm : 4096 &&& msk = 4096) : Kept msk ref (State.onPlane s f) := by
  unfold State.onPlane
  repeat' first
    | with_reducible assumption
    | exact mask_sub hm rfl
    | dsimp only
    | intro _ _ _
    | intro _ _
    | fail_if_no_progress (with_reducible refine mk_kept ?_ rfl rfl rfl rfl rfl rfl rfl hm)

theorem State.moveChanges_kept (s : State) (ch : Nat) (hs : Kept msk ref s) (hm : 16384 &&& msk = 16384) : Kept msk ref (State.moveChanges s ch) := by
  unfold State.moveChanges
  repeat' first
    | with_reducible assumption
    | exact mask_sub hm rfl
    | with_reducible apply State.onChan_kept

theorem State.mark_kept (s : State) (ch : Nat) (x : Span) (hs : Kept msk ref s) (hm : 16384 &&& msk = 16384) : Kept msk ref (State.mark s ch x) := by
  unfold State.mark
  repeat' first
    | with_reducible assumption
    | exact mask_sub hm rfl
    | with_reducible apply State.onChan_kept

theorem State.onSource_kept (s : State) (ch a : Nat) (f : Span → Span) (hs : Kept msk ref s) (hm : 16384 &&& msk = 16384) : Kept msk ref (State.onSource s ch a f) := by
  unfold State.onSource
  repeat' first
    | with_reducible assumption
    | exact mask_sub hm rfl
    | with_reducible apply State.onChan_kept

theorem State.scheduleRange_kept (s : State) (ch code n : Nat) (hs : Kept msk ref s) (hm : 16388 &&& msk = 16388) : Kept msk ref (State.scheduleRange s ch code n) := by
  unfold State.scheduleRange
  repeat' first
    | with_reducible assumption
    | exact mask_sub hm rfl
    | with_reducible apply State.onChan_kept
    | with_reducible apply State.wr_kept
    | (intro x; refine (fun (hx : Kept msk ref x) => ?_) ?_; on_goal 1 => clear_value x)
    | (intro x; refine (fun (hx : Kept msk ref x.1) => ?_) ?_; on_goal 1 => clear_value x)
    | (intro x; refine (fun (hx : Kept msk ref x.2) => ?_) ?_; on_goal 1 => clear_value x)
    | (intro x; clear_value x)
    | lift_lets
    | dsimp only
    | with_reducible apply ite_kept

theorem State.applyRange_kept (s : State) (ch n : Nat) (hs : Kept msk ref s) (hm : 16388 &&& msk = 16388) : Kept msk ref (State.applyRange s ch n) := by
  unfold State.applyRange
  repeat' first
    | with_reducible assumption
    | exact mask_sub hm rfl
    | with_reducible apply State.mark_kept
    | with_reducible apply State.onChan_kept
    | with_reducible apply State.wr_kept

theorem State.autoReset_kept (s : State) (ch : Nat) (hs : Kept msk ref s) (hm : 16384 &&& msk = 16384) : Kept msk ref (State.autoReset s ch) := by
  unfold State.autoReset
  repeat' first
    | with_reducible assumption
    | exact mask_sub hm rfl
    | with_reducible apply State.onChan_kept

theorem State.doRangeWrite_kept (s : State) (ch : Nat) (w : Word) (ns : Nat) (hs : Kept msk ref s) (hm : 16902 &&& msk = 16902) : Kept msk ref (State.doRangeWrite s ch w ns) := by
  unfold State.doRangeWrite
  repeat' first
    | with_reducible assumption
    | exact mask_sub hm rfl
    | with_reducible apply State.autoReset_kept
    | with_reducible apply State.configFault_kept
    | with_reducible apply State.scheduleRange_kept
    | with_reducible apply State.wr_kept
    | (intro x; refine (fun (hx : Kept msk ref x) => ?_) ?_; on_goal 1 => clear_value x)
    | (intro x; refine (fun (hx : Kept msk ref x.1) => ?_) ?_; on_goal 1 => clear_value x)
    | (intro x; refine (fun (hx : Kept msk ref x.2) => ?_) ?_; on_goal 1 => clear_value x)
    | (intro x; clear_value x)
    | lift_lets
    | dsimp only
    | with_reducible apply ite_kept

theorem State.doRangeApply_kept (s : State) (ch : Nat) (hs : Kept msk ref s) (hm : 16404 &&& msk = 16404) : Kept msk ref (State.doRangeApply s ch) := by
  unfold State.doRangeApply
  repeat' first
    | with_reducible assumption
    | exact mask_sub hm rfl
    | with_reducible apply State.applyRange_kept
    | with_reducible apply State.toCount_kept
    | dsimp only
    | intro _ _ _
    | intro _ _
    | split

theorem State.releaseRange_kept (s : State) (ch n : Nat) (hs : Kept msk ref s) (hm : 16384 &&& msk = 16384) : Kept msk ref (State.releaseRange s ch n) := by
  unfold State.releaseRange
  repeat' first
    | with_reducible assumption
    | exact mask_sub hm rfl
    | with_reducible apply State.autoReset_kept
    | with_reducible apply State.onChan_kept
    | (intro x; refine (fun (hx : Kept msk ref x) => ?_) ?_; on_goal 1 => clear_value x)
    | (intro x; refine (fun (hx : Kept msk ref x.1) => ?_) ?_; on_goal 1 => clear_value x)
    | (intro x; refine (fun (hx : Kept msk ref x.2) => ?_) ?_; on_goal 1 => clear_value x)
    | (intro x; clear_value x)
    | lift_lets
    | dsimp only
    | with_reducible apply ite_kept

theorem State.storeDwell_kept (s : State) (n : Nat) (hs : Kept msk ref s) (hm : 4100 &&& msk = 4100) : Kept msk ref (State.storeDwell s n) := by
  unfold State.storeDwell
  repeat' first
    | with_reducible assumption
    | exact mask_sub hm rfl
    | with_reducible apply State.onPlane_kept
    | with_reducible apply State.wr_kept

theorem State.doArThrWrite_kept (s : State) (w : Word) (hs : Kept msk ref s) (hm : 518 &&& msk = 518) : Kept msk ref (State.doArThrWrite s w) := by
  unfold State.doArThrWrite
  repeat' first
    | with_reducible assumption
    | exact mask_sub hm rfl
    | with_reducible apply State.configFault_kept
    | with_reducible apply State.wr_kept
    | (intro x; refine (fun (hx : Kept msk ref x) => ?_) ?_; on_goal 1 => clear_value x)
    | (intro x; refine (fun (hx : Kept msk ref x.1) => ?_) ?_; on_goal 1 => clear_value x)
    | (intro x; refine (fun (hx : Kept msk ref x.2) => ?_) ?_; on_goal 1 => clear_value x)
    | (intro x; clear_value x)
    | lift_lets
    | dsimp only
    | with_reducible apply ite_kept

theorem State.doAutoRange_kept (s : State) (ch : Nat) (hs : Kept msk ref s) (hm : 16388 &&& msk = 16388) : Kept msk ref (State.doAutoRange s ch) := by
  unfold State.doAutoRange
  repeat' first
    | with_reducible assumption
    | exact mask_sub hm rfl
    | with_reducible apply State.autoReset_kept
    | with_reducible apply State.scheduleRange_kept
    | (intro x; refine (fun (hx : Kept msk ref x) => ?_) ?_; on_goal 1 => clear_value x)
    | (intro x; refine (fun (hx : Kept msk ref x.1) => ?_) ?_; on_goal 1 => clear_value x)
    | (intro x; refine (fun (hx : Kept msk ref x.2) => ?_) ?_; on_goal 1 => clear_value x)
    | (intro x; clear_value x)
    | lift_lets
    | dsimp only
    | with_reducible apply ite_kept
    | intro _ _ _
    | intro _ _
    | dsimp only [x]
    | split

theorem State.autoBlock_kept (s : State) (ch n : Nat) (peak : Nat) (hs : Kept msk ref s) (hm : 16388 &&& msk = 16388) : Kept msk ref (State.autoBlock s ch n peak) := by
  unfold State.autoBlock
  repeat' first
    | with_reducible assumption
    | exact mask_sub hm rfl
    | with_reducible apply State.doAutoRange_kept
    | with_reducible apply State.onChan_kept
    | (intro x; refine (fun (hx : Kept msk ref x) => ?_) ?_; on_goal 1 => clear_value x)
    | (intro x; refine (fun (hx : Kept msk ref x.1) => ?_) ?_; on_goal 1 => clear_value x)
    | (intro x; refine (fun (hx : Kept msk ref x.2) => ?_) ?_; on_goal 1 => clear_value x)
    | (intro x; clear_value x)
    | lift_lets
    | dsimp only
    | with_reducible apply ite_kept

theorem State.onFeeds_kept (s : State) (f : Feeds → Feeds) (hs : Kept msk ref s) (hm : 32768 &&& msk = 32768) : Kept msk ref (State.onFeeds s f) := by
  unfold State.onFeeds
  repeat' first
    | with_reducible assumption
    | exact mask_sub hm rfl
    | dsimp only
    | intro _ _ _
    | intro _ _
    | fail_if_no_progress (with_reducible refine mk_kept ?_ rfl rfl rfl rfl rfl rfl rfl hm)

theorem State.onFeed_kept (s : State) (a : Nat) (f : Feed → Feed) (hs : Kept msk ref s) (hm : 32768 &&& msk = 32768) : Kept msk ref (State.onFeed s a f) := by
  unfold State.onFeed
  repeat' first
    | with_reducible assumption
    | exact mask_sub hm rfl
    | with_reducible apply State.onFeeds_kept

theorem State.feedCleared_kept (s : State) (a old new : Nat) (hs : Kept msk ref s) (hm : 512 &&& msk = 512) : Kept msk ref (State.feedCleared s a old new) := by
  unfold State.feedCleared
  repeat' first
    | with_reducible assumption
    | exact mask_sub hm rfl
    | with_reducible apply State.conditionOver_kept
    | (intro x; refine (fun (hx : Kept msk ref x) => ?_) ?_; on_goal 1 => clear_value x)
    | (intro x; refine (fun (hx : Kept msk ref x.1) => ?_) ?_; on_goal 1 => clear_value x)
    | (intro x; refine (fun (hx : Kept msk ref x.2) => ?_) ?_; on_goal 1 => clear_value x)
    | (intro x; clear_value x)
    | lift_lets
    | dsimp only
    | with_reducible apply ite_kept

theorem State.enterFeed_kept (s : State) (a new : Nat) (detail : Nat) (hs : Kept msk ref s) (hm : 518 &&& msk = 518) : Kept msk ref (State.enterFeed s a new detail) := by
  unfold State.enterFeed
  repeat' first
    | with_reducible assumption
    | exact mask_sub hm rfl
    | with_reducible apply State.feedCleared_kept
    | with_reducible apply State.flag_kept
    | with_reducible apply State.report_kept
    | with_reducible apply State.wr_kept
    | (intro x; refine (fun (hx : Kept msk ref x) => ?_) ?_; on_goal 1 => clear_value x)
    | (intro x; refine (fun (hx : Kept msk ref x.1) => ?_) ?_; on_goal 1 => clear_value x)
    | (intro x; refine (fun (hx : Kept msk ref x.2) => ?_) ?_; on_goal 1 => clear_value x)
    | (intro x; clear_value x)
    | lift_lets
    | dsimp only
    | with_reducible apply ite_kept

theorem State.feedSwitchOn_kept (s : State) (a : Nat) (retrying : Bool) (hs : Kept msk ref s) (hm : 32768 &&& msk = 32768) : Kept msk ref (State.feedSwitchOn s a retrying) := by
  unfold State.feedSwitchOn
  repeat' first
    | with_reducible assumption
    | exact mask_sub hm rfl
    | with_reducible apply State.onFeed_kept

theorem State.dropPulse_kept (s : State) (a : Nat) (skip : Bool) (hs : Kept msk ref s) (hm : 32768 &&& msk = 32768) : Kept msk ref (State.dropPulse s a skip) := by
  unfold State.dropPulse
  repeat' first
    | with_reducible assumption
    | exact mask_sub hm rfl
    | with_reducible apply State.onFeeds_kept

theorem State.doFeedEnWrite_kept (s : State) (w : Word) (hs : Kept msk ref s) (hm : 32772 &&& msk = 32772) : Kept msk ref (State.doFeedEnWrite s w) := by
  unfold State.doFeedEnWrite
  repeat' first
    | with_reducible assumption
    | exact mask_sub hm rfl
    | with_reducible apply State.dropPulse_kept
    | with_reducible apply State.feedSwitchOn_kept
    | with_reducible apply State.forEach_kept
    | with_reducible apply State.onFeed_kept
    | with_reducible apply State.wr_kept
    | (intro x; refine (fun (hx : Kept msk ref x) => ?_) ?_; on_goal 1 => clear_value x)
    | (intro x; refine (fun (hx : Kept msk ref x.1) => ?_) ?_; on_goal 1 => clear_value x)
    | (intro x; refine (fun (hx : Kept msk ref x.2) => ?_) ?_; on_goal 1 => clear_value x)
    | (intro x; clear_value x)
    | lift_lets
    | dsimp only
    | with_reducible apply ite_kept
    | intro _ _ _

theorem State.feedOverloaded_kept (s : State) (a : Nat) (hs : Kept msk ref s) (hm : 33286 &&& msk = 33286) : Kept msk ref (State.feedOverloaded s a) := by
  unfold State.feedOverloaded
  repeat' first
    | with_reducible assumption
    | exact mask_sub hm rfl
    | with_reducible apply State.enterFeed_kept
    | with_reducible apply State.flag_kept
    | with_reducible apply State.onFeed_kept
    | with_reducible apply State.report_kept
    | (intro x; refine (fun (hx : Kept msk ref x) => ?_) ?_; on_goal 1 => clear_value x)
    | (intro x; refine (fun (hx : Kept msk ref x.1) => ?_) ?_; on_goal 1 => clear_value x)
    | (intro x; refine (fun (hx : Kept msk ref x.2) => ?_) ?_; on_goal 1 => clear_value x)
    | (intro x; clear_value x)
    | lift_lets
    | dsimp only
    | with_reducible apply ite_kept

theorem State.feedOnState_kept (s : State) (a current : Nat) (opened back blanked : Bool) (hs : Kept msk ref s) (hm : 518 &&& msk = 518) : Kept msk ref (State.feedOnState s a current opened back blanked) := by
  unfold State.feedOnState
  repeat' first
    | with_reducible assumption
    | exact mask_sub hm rfl
    | with_reducible apply State.enterFeed_kept
    | (intro x; refine (fun (hx : Kept msk ref x) => ?_) ?_; on_goal 1 => clear_value x)
    | (intro x; refine (fun (hx : Kept msk ref x.1) => ?_) ?_; on_goal 1 => clear_value x)
    | (intro x; refine (fun (hx : Kept msk ref x.2) => ?_) ?_; on_goal 1 => clear_value x)
    | (intro x; clear_value x)
    | lift_lets
    | dsimp only
    | with_reducible apply ite_kept

theorem State.feedTick_kept (s : State) (a current : Nat) (opened lineUp back : Bool) (hs : Kept msk ref s) (hm : 33286 &&& msk = 33286) : Kept msk ref (State.feedTick s a current opened lineUp back) := by
  unfold State.feedTick
  repeat' first
    | with_reducible assumption
    | exact mask_sub hm rfl
    | with_reducible apply State.enterFeed_kept
    | with_reducible apply State.feedOnState_kept
    | with_reducible apply State.feedOverloaded_kept
    | with_reducible apply State.onFeed_kept
    | with_reducible apply State.wr_kept
    | (intro x; refine (fun (hx : Kept msk ref x) => ?_) ?_; on_goal 1 => clear_value x)
    | (intro x; refine (fun (hx : Kept msk ref x.1) => ?_) ?_; on_goal 1 => clear_value x)
    | (intro x; refine (fun (hx : Kept msk ref x.2) => ?_) ?_; on_goal 1 => clear_value x)
    | (intro x; clear_value x)
    | lift_lets
    | dsimp only
    | with_reducible apply ite_kept
    | intro _ _ _
    | intro _ _
    | fail_if_no_progress (with_reducible refine mk_kept ?_ rfl rfl rfl rfl rfl rfl rfl hm)
    | (with_reducible refine mk_sized ?_ rfl rfl ?_ ?_ ?_ ?_ ?_ hm <;> first | with_reducible assumption | with_reducible rfl | (simp; done))
    | dsimp only [x]
    | split

theorem State.doFeedTick_kept (s : State) (current : List Nat) (opened lineUp back : Nat) (hs : Kept msk ref s) (hm : 33286 &&& msk = 33286) : Kept msk ref (State.doFeedTick s current opened lineUp back) := by
  unfold State.doFeedTick
  repeat' first
    | with_reducible assumption
    | exact mask_sub hm rfl
    | with_reducible apply State.feedTick_kept
    | with_reducible apply State.forEach_kept
    | dsimp only
    | intro _ _ _

theorem State.doFeedTrip_kept (s : State) (a : Nat) (hs : Kept msk ref s) (hm : 32768 &&& msk = 32768) : Kept msk ref (State.doFeedTrip s a) := by
  unfold State.doFeedTrip
  repeat' first
    | with_reducible assumption
    | exact mask_sub hm rfl
    | with_reducible apply State.onFeed_kept
    | (intro x; refine (fun (hx : Kept msk ref x) => ?_) ?_; on_goal 1 => clear_value x)
    | (intro x; refine (fun (hx : Kept msk ref x.1) => ?_) ?_; on_goal 1 => clear_value x)
    | (intro x; refine (fun (hx : Kept msk ref x.2) => ?_) ?_; on_goal 1 => clear_value x)
    | (intro x; clear_value x)
    | lift_lets
    | dsimp only
    | with_reducible apply ite_kept

theorem State.doFeedRetry_kept (s : State) (a : Nat) (hs : Kept msk ref s) (hm : 32788 &&& msk = 32788) : Kept msk ref (State.doFeedRetry s a) := by
  unfold State.doFeedRetry
  repeat' first
    | with_reducible assumption
    | exact mask_sub hm rfl
    | with_reducible apply State.onFeed_kept
    | with_reducible apply State.toTick_kept
    | with_reducible apply State.wr_kept
    | (intro x; refine (fun (hx : Kept msk ref x) => ?_) ?_; on_goal 1 => clear_value x)
    | lift_lets
    | dsimp only
    | with_reducible apply ite_kept
    | intro _ _ _
    | intro _ _
    | fail_if_no_progress (with_reducible refine mk_kept ?_ rfl rfl rfl rfl rfl rfl rfl hm)
    | (with_reducible refine mk_sized ?_ rfl rfl ?_ ?_ ?_ ?_ ?_ hm <;> first | with_reducible assumption | with_reducible rfl | (simp; done))
    | dsimp only [x]
    | split

theorem State.shedFeeds_kept (s : State) (r : Nat) (off : Bool) (hs : Kept msk ref s) (hm : 33286 &&& msk = 33286) : Kept msk ref (State.shedFeeds s r off) := by
  unfold State.shedFeeds
  repeat' first
    | with_reducible assumption
    | exact mask_sub hm rfl
    | with_reducible apply State.dropPulse_kept
    | with_reducible apply State.enterFeed_kept
    | with_reducible apply State.feedSwitchOn_kept
    | with_reducible apply State.forEach_kept
    | with_reducible apply State.onFeed_kept
    | with_reducible apply State.onFeeds_kept
    | (intro x; refine (fun (hx : Kept msk ref x) => ?_) ?_; on_goal 1 => clear_value x)
    | lift_lets
    | dsimp only
    | with_reducible apply ite_kept
    | intro _ _ _

theorem State.doVfeedUnder_kept (s : State) (mv10 : Nat) (hs : Kept msk ref s) (hm : 33286 &&& msk = 33286) : Kept msk ref (State.doVfeedUnder s mv10) := by
  unfold State.doVfeedUnder
  repeat' first
    | with_reducible assumption
    | exact mask_sub hm rfl
    | with_reducible apply State.onFeeds_kept
    | with_reducible apply State.report_kept
    | with_reducible apply State.wr_kept
    | (intro x; refine (fun (hx : Kept msk ref x) => ?_) ?_; on_goal 1 => clear_value x)
    | (intro x; refine (fun (hx : Kept msk ref x.1) => ?_) ?_; on_goal 1 => clear_value x)
    | (intro x; refine (fun (hx : Kept msk ref x.2) => ?_) ?_; on_goal 1 => clear_value x)
    | (intro x; clear_value x)
    | lift_lets
    | dsimp only
    | with_reducible apply ite_kept

theorem State.doVfeedRecover_kept (s : State) (mv10 : Nat) (hs : Kept msk ref s) (hm : 33284 &&& msk = 33284) : Kept msk ref (State.doVfeedRecover s mv10) := by
  unfold State.doVfeedRecover
  repeat' first
    | with_reducible assumption
    | exact mask_sub hm rfl
    | with_reducible apply State.conditionOver_kept
    | with_reducible apply State.feedSwitchOn_kept
    | with_reducible apply State.forEach_kept
    | with_reducible apply State.onFeeds_kept
    | with_reducible apply State.wr_kept
    | (intro x; refine (fun (hx : Kept msk ref x) => ?_) ?_; on_goal 1 => clear_value x)
    | lift_lets
    | dsimp only
    | with_reducible apply ite_kept
    | intro _ _ _

theorem State.startSweep_kept (s : State) (hs : Kept msk ref s) (hm : 32772 &&& msk = 32772) : Kept msk ref (State.startSweep s) := by
  unfold State.startSweep
  repeat' first
    | with_reducible assumption
    | exact mask_sub hm rfl
    | with_reducible apply State.onFeeds_kept
    | with_reducible apply State.wr_kept
    | dsimp only
    | with_reducible apply ite_kept

theorem State.doFeedSweep_kept (s : State) (hs : Kept msk ref s) (hm : 32772 &&& msk = 32772) : Kept msk ref (State.doFeedSweep s) := by
  unfold State.doFeedSweep
  repeat' first
    | with_reducible assumption
    | exact mask_sub hm rfl
    | with_reducible apply State.startSweep_kept

theorem State.doFeedSweepPeriodic_kept (s : State) (hs : Kept msk ref s) (hm : 32788 &&& msk = 32788) : Kept msk ref (State.doFeedSweepPeriodic s) := by
  unfold State.doFeedSweepPeriodic
  repeat' first
    | with_reducible assumption
    | exact mask_sub hm rfl
    | with_reducible apply State.onFeeds_kept
    | with_reducible apply State.startSweep_kept
    | with_reducible apply State.toTick_kept
    | (intro x; refine (fun (hx : Kept msk ref x) => ?_) ?_; on_goal 1 => clear_value x)
    | lift_lets
    | dsimp only
    | with_reducible apply ite_kept

theorem State.doFeedSweepStartUp_kept (s : State) (hs : Kept msk ref s) (hm : 32772 &&& msk = 32772) : Kept msk ref (State.doFeedSweepStartUp s) := by
  unfold State.doFeedSweepStartUp
  repeat' first
    | with_reducible assumption
    | exact mask_sub hm rfl
    | with_reducible apply State.onFeeds_kept
    | with_reducible apply State.startSweep_kept
    | dsimp only
    | with_reducible apply ite_kept

theorem State.sweepTick_kept (s : State) (w : Sweep) (hs : Kept msk ref s) (hm : 16 &&& msk = 16) : Kept msk ref (State.sweepTick s w) := by
  unfold State.sweepTick
  repeat' first
    | with_reducible assumption
    | exact mask_sub hm rfl
    | with_reducible apply State.toTick_kept
    | dsimp only
    | intro _ _ _
    | intro _ _
    | split

theorem State.doFeedPulse_kept (s : State) (before : List Nat) (hs : Kept msk ref s) (hm : 49168 &&& msk = 49168) : Kept msk ref (State.doFeedPulse s before) := by
  unfold State.doFeedPulse
  repeat' first
    | with_reducible assumption
    | exact mask_sub hm rfl
    | with_reducible apply State.count_kept
    | with_reducible apply State.forEach_kept
    | with_reducible apply State.mark_kept
    | with_reducible apply State.onFeeds_kept
    | with_reducible apply State.sweepTick_kept
    | (intro x; refine (fun (hx : Kept msk ref x) => ?_) ?_; on_goal 1 => clear_value x)
    | (intro x; refine (fun (hx : Kept msk ref x.1) => ?_) ?_; on_goal 1 => clear_value x)
    | (intro x; refine (fun (hx : Kept msk ref x.2) => ?_) ?_; on_goal 1 => clear_value x)
    | (intro x; clear_value x)
    | lift_lets
    | dsimp only
    | with_reducible apply ite_kept
    | intro _ _ _
    | intro _ _
    | fail_if_no_progress (with_reducible refine mk_kept ?_ rfl rfl rfl rfl rfl rfl rfl hm)
    | (with_reducible refine mk_sized ?_ rfl rfl ?_ ?_ ?_ ?_ ?_ hm <;> first | with_reducible assumption | with_reducible rfl | (simp; done))
    | dsimp only [x]
    | split

theorem State.doFeedPulseEnd_kept (s : State) (lineHigh : Bool) (now : List Nat) (hs : Kept msk ref s) (hm : 32788 &&& msk = 32788) : Kept msk ref (State.doFeedPulseEnd s lineHigh now) := by
  unfold State.doFeedPulseEnd
  repeat' first
    | with_reducible assumption
    | exact mask_sub hm rfl
    | with_reducible apply State.feedSwitchOn_kept
    | with_reducible apply State.onFeed_kept
    | with_reducible apply State.onFeeds_kept
    | with_reducible apply State.toCount_kept
    | with_reducible apply State.wrB_kept
    | with_reducible apply State.wr_kept
    | (intro x; refine (fun (hx : Kept msk ref x) => ?_) ?_; on_goal 1 => clear_value x)
    | (intro x; refine (fun (hx : Kept msk ref x.1) => ?_) ?_; on_goal 1 => clear_value x)
    | (intro x; refine (fun (hx : Kept msk ref x.2) => ?_) ?_; on_goal 1 => clear_value x)
    | (intro x; clear_value x)
    | lift_lets
    | dsimp only
    | with_reducible apply ite_kept
    | intro _ _ _
    | intro _ _
    | fail_if_no_progress (with_reducible refine mk_kept ?_ rfl rfl rfl rfl rfl rfl rfl hm)
    | (with_reducible refine mk_sized ?_ rfl rfl ?_ ?_ ?_ ?_ ?_ hm <;> first | with_reducible assumption | with_reducible rfl | (simp; done))
    | dsimp only [x]
    | split

theorem State.closeSweep_kept (s : State) (skipped : List Nat) (stopped : Bool) (hs : Kept msk ref s) (hm : 32772 &&& msk = 32772) : Kept msk ref (State.closeSweep s skipped stopped) := by
  unfold State.closeSweep
  repeat' first
    | with_reducible assumption
    | exact mask_sub hm rfl
    | with_reducible apply State.onFeeds_kept
    | with_reducible apply State.wr_kept

theorem State.doFeedSweepEnd_kept (s : State) (hs : Kept msk ref s) (hm : 32788 &&& msk = 32788) : Kept msk ref (State.doFeedSweepEnd s) := by
  unfold State.doFeedSweepEnd
  repeat' first
    | with_reducible assumption
    | exact mask_sub hm rfl
    | with_reducible apply State.closeSweep_kept
    | with_reducible apply State.sweepTick_kept
    | dsimp only
    | with_reducible apply ite_kept
    | intro _ _ _
    | intro _ _
    | split

theorem State.rateDropPulse_kept (s : State) (hs : Kept msk ref s) (hm : 32768 &&& msk = 32768) : Kept msk ref (State.rateDropPulse s) := by
  unfold State.rateDropPulse
  repeat' first
    | with_reducible assumption
    | exact mask_sub hm rfl
    | with_reducible apply State.dropPulse_kept
    | with_reducible apply State.feedSwitchOn_kept
    | dsimp only
    | intro _ _ _
    | intro _ _
    | split

theorem State.stopSweep_kept (s : State) (hs : Kept msk ref s) (hm : 32772 &&& msk = 32772) : Kept msk ref (State.stopSweep s) := by
  unfold State.stopSweep
  repeat' first
    | with_reducible assumption
    | exact mask_sub hm rfl
    | with_reducible apply State.closeSweep_kept
    | with_reducible apply State.rateDropPulse_kept
    | dsimp only
    | intro _ _ _
    | intro _ _
    | split

theorem State.admitFault_kept (s : State) (path : Nat) (hs : Kept msk ref s) (hm : 518 &&& msk = 518) : Kept msk ref (State.admitFault s path) := by
  unfold State.admitFault
  repeat' first
    | with_reducible assumption
    | exact mask_sub hm rfl
    | with_reducible apply State.report_kept

theorem State.judge_kept (s : State) (v : Option Nat) (f : State → Nat → State) (g : State → State)
    (hf : ∀ s p, Kept msk ref s → Kept msk ref (f s p)) (hg : ∀ s, Kept msk ref s → Kept msk ref (g s)) (h : Kept msk ref s) : Kept msk ref (s.judge v f g) := by
  cases v with
  | none => exact hg s h
  | some p => exact hf s p h

theorem State.setRingState_kept (s : State) (n : Nat) (hs : Kept msk ref s) (hm : 4 &&& msk = 4) : Kept msk ref (State.setRingState s n) := by
  unfold State.setRingState
  repeat' first
    | with_reducible assumption
    | exact mask_sub hm rfl
    | with_reducible apply State.wr_kept

theorem State.onTrg_kept (s : State) (f : Trg → Trg) (hs : Kept msk ref s) (hm : 524288 &&& msk = 524288) : Kept msk ref (State.onTrg s f) := by
  unfold State.onTrg
  repeat' first
    | with_reducible assumption
    | exact mask_sub hm rfl
    | dsimp only
    | intro _ _ _
    | intro _ _
    | fail_if_no_progress (with_reducible refine mk_kept ?_ rfl rfl rfl rfl rfl rfl rfl hm)

theorem State.pushCue_kept (s : State) (disp conds loc c frac id w3 set : Nat) (hs : Kept msk ref s) (hm : 838 &&& msk = 838) : Kept msk ref (State.pushCue s disp conds loc c frac id w3 set) := by
  unfold State.pushCue
  repeat' first
    | with_reducible assumption
    | exact mask_sub hm rfl
    | with_reducible apply State.pushSteered_kept
    | with_reducible apply State.push_kept
    | (intro x; refine (fun (hx : Kept msk ref x) => ?_) ?_; on_goal 1 => clear_value x)
    | (intro x; refine (fun (hx : Kept msk ref x.1) => ?_) ?_; on_goal 1 => clear_value x)
    | (intro x; refine (fun (hx : Kept msk ref x.2) => ?_) ?_; on_goal 1 => clear_value x)
    | (intro x; clear_value x)
    | lift_lets
    | dsimp only
    | intro _ _ _
    | intro _ _
    | dsimp only [x]
    | split

theorem State.pushMark_kept (s : State) (kind c source k n : Nat) (hs : Kept msk ref s) (hm : 838 &&& msk = 838) : Kept msk ref (State.pushMark s kind c source k n) := by
  unfold State.pushMark
  repeat' first
    | with_reducible assumption
    | exact mask_sub hm rfl
    | with_reducible apply State.pushCue_kept

theorem State.skipAll_kept (s : State) (hs : Kept msk ref s) (hm : 524288 &&& msk = 524288) : Kept msk ref (State.skipAll s) := by
  unfold State.skipAll
  repeat' first
    | with_reducible assumption
    | exact mask_sub hm rfl
    | with_reducible apply State.onTrg_kept

theorem State.serveShare_kept (s : State) (k : Nat) (hs : Kept msk ref s) (hm : 1572864 &&& msk = 1572864) : Kept msk ref (State.serveShare s k) := by
  unfold State.serveShare
  repeat' first
    | with_reducible assumption
    | exact mask_sub hm rfl
    | with_reducible apply State.onTrg_kept
    | dsimp only
    | with_reducible apply ite_kept
    | intro _ _ _
    | intro _ _
    | fail_if_no_progress (with_reducible refine mk_kept ?_ rfl rfl rfl rfl rfl rfl rfl hm)
    | (with_reducible refine mk_sized ?_ rfl rfl ?_ ?_ ?_ ?_ ?_ hm <;> first | with_reducible assumption | with_reducible rfl | (simp; done))
    | split

theorem State.portStep_kept (s : State) (hs : Kept msk ref s) (hm : 1572864 &&& msk = 1572864) : OKept msk ref (State.portStep s) := by
  unfold State.portStep
  repeat' first
    | with_reducible assumption
    | exact mask_sub hm rfl
    | with_reducible apply State.onTrg_kept
    | with_reducible apply State.serveShare_kept
    | with_reducible apply State.skipAll_kept
    | (intro x; refine (fun (hx : Kept msk ref x) => ?_) ?_; on_goal 1 => clear_value x)
    | lift_lets
    | dsimp only
    | with_reducible apply OKept.map
    | intro _
    | with_reducible exact OKept.none
    | with_reducible apply OKept.some
    | with_reducible apply OKept.ite
    | intro _ _ _
    | intro _ _
    | fail_if_no_progress (with_reducible refine mk_kept ?_ rfl rfl rfl rfl rfl rfl rfl hm)
    | (with_reducible refine mk_sized ?_ rfl rfl ?_ ?_ ?_ ?_ ?_ hm <;> first | with_reducible assumption | with_reducible rfl | (simp; done))
    | dsimp only [x]
    | split

theorem State.portUntil_kept (s : State) (done : State → Bool) (fuel : Nat) (hs : Kept msk ref s) (hm : 1572864 &&& msk = 1572864) : Kept msk ref (State.portUntil s done fuel) := by
  induction fuel generalizing s with
  | zero => exact hs
  | succ fuel ih =>
  unfold State.portUntil
  repeat' first
    | with_reducible assumption
    | exact mask_sub hm rfl
    | with_reducible apply State.portStep_kept
    | with_reducible apply ih
    | dsimp only
    | with_reducible apply ite_kept
    | intro _ _ _
    | intro _ _
    | split
    | with_reducible refine OKept.out ‹_ = some _› ?_

theorem State.runPort_kept (s : State) (hs : Kept msk ref s) (hm : 1572864 &&& msk = 1572864) : Kept msk ref (State.runPort s) := by
  unfold State.runPort
  repeat' first
    | with_reducible assumption
    | exact mask_sub hm rfl
    | with_reducible apply State.count_kept
    | with_reducible apply State.onTrg_kept
    | with_reducible apply State.portUntil_kept
    | with_reducible apply State.skipAll_kept

theorem State.runPortTo_kept (s : State) (done : State → Bool) (hs : Kept msk ref s) (hm : 1572880 &&& msk = 1572880) : Kept msk ref (State.runPortTo s done) := by
  unfold State.runPortTo
  repeat' first
    | with_reducible assumption
    | exact mask_sub hm rfl
    | with_reducible apply State.portUntil_kept
    | with_reducible apply State.runPort_kept
    | with_reducible apply State.skipAll_kept
    | with_reducible apply State.toCount_kept

theorem State.logEntry_kept (s : State) (ch n attr : Nat) (hs : Kept msk ref s) (hm : 540672 &&& msk = 540672) : Kept msk ref (State.logEntry s ch n attr) := by
  unfold State.logEntry
  repeat' first
    | with_reducible assumption
    | exact mask_sub hm rfl
    | with_reducible apply State.onChan_kept
    | with_reducible apply State.onTrg_kept
    | (intro x; refine (fun (hx : Kept msk ref x) => ?_) ?_; on_goal 1 => clear_value x)
    | (intro x; refine (fun (hx : Kept msk ref x.1) => ?_) ?_; on_goal 1 => clear_value x)
    | (intro x; refine (fun (hx : Kept msk ref x.2) => ?_) ?_; on_goal 1 => clear_value x)
    | (intro x; clear_value x)
    | lift_lets
    | dsimp only
    | with_reducible apply ite_kept

theorem State.ringWrite_kept (s : State) (ch n attr : Nat) (xs : List Int) (hs : Kept msk ref s) (hm : 1590086 &&& msk = 1590086) : Kept msk ref (State.ringWrite s ch n attr xs) := by
  unfold State.ringWrite
  repeat' first
    | with_reducible assumption
    | exact mask_sub hm rfl
    | with_reducible apply State.logEntry_kept
    | with_reducible apply State.onChan_kept
    | with_reducible apply State.onTrg_kept
    | with_reducible apply State.pushMark_kept
    | with_reducible apply State.runPort_kept
    | (intro x; refine (fun (hx : Kept msk ref x) => ?_) ?_; on_goal 1 => clear_value x)
    | lift_lets
    | dsimp only
    | with_reducible apply ite_kept

theorem State.verifyFail_kept (s : State) (ch : Nat) (hs : Kept msk ref s) (hm : 518 &&& msk = 518) : Kept msk ref (State.verifyFail s ch) := by
  unfold State.verifyFail
  repeat' first
    | with_reducible assumption
    | exact mask_sub hm rfl
    | with_reducible apply State.count_kept
    | with_reducible apply State.flag_kept
    | with_reducible apply State.report_kept
    | with_reducible apply State.satAdd_kept
    | (intro x; refine (fun (hx : Kept msk ref x) => ?_) ?_; on_goal 1 => clear_value x)
    | lift_lets
    | dsimp only
    | intro _ _ _
    | intro _ _
    | fail_if_no_progress (with_reducible refine mk_kept ?_ rfl rfl rfl rfl rfl rfl rfl hm)

theorem State.verifyAll_kept (s : State) (mode : Nat) (bad : Upsets) (bs : List ReadBlk) (hs : Kept msk ref s) (hm : 518 &&& msk = 518) : Kept msk ref (State.verifyAll s mode bad bs) := by
  unfold State.verifyAll
  repeat' first
    | with_reducible assumption
    | exact mask_sub hm rfl
    | with_reducible apply State.forEach_kept
    | with_reducible apply State.verifyFail_kept
    | dsimp only
    | intro _ _ _

theorem State.freeUpsets_kept (s : State) (bs : List ReadBlk) (hs : Kept msk ref s) (hm : 2 &&& msk = 2) : Kept msk ref (State.freeUpsets s bs).2 := by
  unfold State.freeUpsets
  repeat' first
    | with_reducible assumption
    | exact mask_sub hm rfl
    | (intro x; refine (fun (hx : Kept msk ref x) => ?_) ?_; on_goal 1 => clear_value x)
    | (intro x; refine (fun (hx : Kept msk ref x.1) => ?_) ?_; on_goal 1 => clear_value x)
    | (intro x; refine (fun (hx : Kept msk ref x.2) => ?_) ?_; on_goal 1 => clear_value x)
    | (intro x; clear_value x)
    | lift_lets
    | dsimp only
    | intro _ _ _
    | intro _ _
    | fail_if_no_progress (with_reducible refine mk_kept ?_ rfl rfl rfl rfl rfl rfl rfl hm)

theorem State.pushSegments_kept (s : State) (ch : Option Nat) (segs : List (List LWord)) (hs : Kept msk ref s) (hm : 838 &&& msk = 838) : Kept msk ref (State.pushSegments s ch segs) := by
  unfold State.pushSegments
  repeat' first
    | with_reducible assumption
    | exact mask_sub hm rfl
    | with_reducible apply State.forEach_kept
    | with_reducible apply State.pushSteered_kept
    | dsimp only
    | intro _ _ _

theorem State.endSnippet_kept (s : State) (j : SnipJob) (size : Nat) (aborted : Bool) (bad : Upsets) (hs : Kept msk ref s) (hm : 838 &&& msk = 838) : Kept msk ref (State.endSnippet s j size aborted bad) := by
  unfold State.endSnippet
  repeat' first
    | with_reducible assumption
    | exact mask_sub hm rfl
    | with_reducible apply State.count_kept
    | with_reducible apply State.flag_kept
    | with_reducible apply State.pushSegments_kept
    | with_reducible apply State.pushSteered_kept
    | with_reducible apply State.verifyAll_kept
    | (intro x; refine (fun (hx : Kept msk ref x) => ?_) ?_; on_goal 1 => clear_value x)
    | (intro x; refine (fun (hx : Kept msk ref x.1) => ?_) ?_; on_goal 1 => clear_value x)
    | (intro x; refine (fun (hx : Kept msk ref x.2) => ?_) ?_; on_goal 1 => clear_value x)
    | (intro x; clear_value x)
    | lift_lets
    | dsimp only
    | with_reducible apply ite_kept

theorem State.showJobs_kept (s : State) (hs : Kept msk ref s) (hm : 4 &&& msk = 4) : Kept msk ref (State.showJobs s) := by
  unfold State.showJobs
  repeat' first
    | with_reducible assumption
    | exact mask_sub hm rfl
    | with_reducible apply State.wr_kept

theorem State.endReadout_kept (s : State) (r : Readout) (size : Nat) (aborted : Bool) (bad : Upsets) (hs : Kept msk ref s) (hm : 838 &&& msk = 838) : Kept msk ref (State.endReadout s r size aborted bad) := by
  unfold State.endReadout
  repeat' first
    | with_reducible assumption
    | exact mask_sub hm rfl
    | with_reducible apply State.pushSegments_kept
    | with_reducible apply State.pushSteered_kept
    | with_reducible apply State.verifyAll_kept

theorem State.abortJobs_kept (s : State) (hs : Kept msk ref s) (hm : 1573702 &&& msk = 1573702) : Kept msk ref (State.abortJobs s) := by
  unfold State.abortJobs
  repeat' first
    | with_reducible assumption
    | exact mask_sub hm rfl
    | with_reducible apply State.endReadout_kept
    | with_reducible apply State.endSnippet_kept
    | with_reducible apply State.forEach_kept
    | with_reducible apply State.freeUpsets_kept
    | with_reducible apply State.onTrg_kept
    | with_reducible apply State.pushSteered_kept
    | with_reducible apply State.runPort_kept
    | with_reducible apply State.showJobs_kept
    | (intro x; refine (fun (hx : Kept msk ref x) => ?_) ?_; on_goal 1 => clear_value x)
    | (intro x; refine (fun (hx : Kept msk ref x.1) => ?_) ?_; on_goal 1 => clear_value x)
    | (intro x; refine (fun (hx : Kept msk ref x.2) => ?_) ?_; on_goal 1 => clear_value x)
    | (intro x; clear_value x)
    | lift_lets
    | dsimp only
    | with_reducible apply ite_kept
    | intro _ _ _

theorem State.cutCodec_kept (s : State) (hs : Kept msk ref s) (hm : 1572864 &&& msk = 1572864) : Kept msk ref (State.cutCodec s) := by
  unfold State.cutCodec
  repeat' first
    | with_reducible assumption
    | exact mask_sub hm rfl
    | with_reducible apply State.runPort_kept
    | (intro x; refine (fun (hx : Kept msk ref x) => ?_) ?_; on_goal 1 => clear_value x)
    | lift_lets
    | dsimp only
    | intro _ _ _
    | intro _ _
    | fail_if_no_progress (with_reducible refine mk_kept ?_ rfl rfl rfl rfl rfl rfl rfl hm)

theorem State.ringRestart_kept (s : State) (n : Nat) (hs : Kept msk ref s) (hm : 1589248 &&& msk = 1589248) : Kept msk ref (State.ringRestart s n) := by
  unfold State.ringRestart
  repeat' first
    | with_reducible assumption
    | exact mask_sub hm rfl
    | with_reducible apply State.cutCodec_kept
    | with_reducible apply State.onTrg_kept
    | (intro x; refine (fun (hx : Kept msk ref x) => ?_) ?_; on_goal 1 => clear_value x)
    | lift_lets
    | dsimp only
    | intro _ _ _
    | intro _ _
    | fail_if_no_progress (with_reducible refine mk_kept ?_ rfl rfl rfl rfl rfl rfl rfl hm)
    | (with_reducible refine mk_sized ?_ rfl rfl ?_ ?_ ?_ ?_ ?_ hm <;> first | with_reducible assumption | with_reducible rfl | (simp; done))

theorem State.divideRing_kept (s : State) (map n : Nat) (hs : Kept msk ref s) (hm : 1590086 &&& msk = 1590086) : Kept msk ref (State.divideRing s map n) := by
  unfold State.divideRing
  repeat' first
    | with_reducible assumption
    | exact mask_sub hm rfl
    | with_reducible apply State.abortJobs_kept
    | with_reducible apply State.onTrg_kept
    | with_reducible apply State.pushMark_kept
    | with_reducible apply State.ringRestart_kept
    | with_reducible apply State.wr_kept

theorem State.startDetector_kept (s : State) (ch n : Nat) (hs : Kept msk ref s) (hm : 16384 &&& msk = 16384) : Kept msk ref (State.startDetector s ch n) := by
  unfold State.startDetector
  repeat' first
    | with_reducible assumption
    | exact mask_sub hm rfl
    | with_reducible apply State.onChan_kept

theorem State.sumBlock_kept (s : State) (ch n : Nat) (hs : Kept msk ref s) (hm : 16384 &&& msk = 16384) : Kept msk ref (State.sumBlock s ch n) := by
  unfold State.sumBlock
  repeat' first
    | with_reducible assumption
    | exact mask_sub hm rfl
    | with_reducible apply State.onChan_kept

theorem State.doDetectorWindowEnd_kept (s : State) (ch : Nat) (hs : Kept msk ref s) (hm : 16384 &&& msk = 16384) : Kept msk ref (State.doDetectorWindowEnd s ch) := by
  unfold State.doDetectorWindowEnd
  repeat' first
    | with_reducible assumption
    | exact mask_sub hm rfl
    | with_reducible apply State.onChan_kept

theorem State.propose_kept (s : State) (p : Proposal) (hs : Kept msk ref s) (hm : 524288 &&& msk = 524288) : Kept msk ref (State.propose s p) := by
  unfold State.propose
  repeat' first
    | with_reducible assumption
    | exact mask_sub hm rfl
    | with_reducible apply State.onTrg_kept

theorem State.fireCombiner_kept (s : State) (f : Firing) (hs : Kept msk ref s) (hm : 524288 &&& msk = 524288) : Kept msk ref (State.fireCombiner s f) := by
  unfold State.fireCombiner
  repeat' first
    | with_reducible assumption
    | exact mask_sub hm rfl
    | with_reducible apply State.onTrg_kept
    | (intro x; refine (fun (hx : Kept msk ref x) => ?_) ?_; on_goal 1 => clear_value x)
    | (intro x; refine (fun (hx : Kept msk ref x.1) => ?_) ?_; on_goal 1 => clear_value x)
    | (intro x; refine (fun (hx : Kept msk ref x.2) => ?_) ?_; on_goal 1 => clear_value x)
    | (intro x; clear_value x)
    | lift_lets
    | dsimp only
    | with_reducible apply ite_kept

theorem State.doImpulseFire_kept (s : State) (ch n : Nat) (hs : Kept msk ref s) (hm : 540672 &&& msk = 540672) : Kept msk ref (State.doImpulseFire s ch n) := by
  unfold State.doImpulseFire
  repeat' first
    | with_reducible assumption
    | exact mask_sub hm rfl
    | with_reducible apply State.fireCombiner_kept
    | with_reducible apply State.onChan_kept
    | with_reducible apply State.propose_kept
    | (intro x; refine (fun (hx : Kept msk ref x) => ?_) ?_; on_goal 1 => clear_value x)
    | (intro x; refine (fun (hx : Kept msk ref x.1) => ?_) ?_; on_goal 1 => clear_value x)
    | (intro x; refine (fun (hx : Kept msk ref x.2) => ?_) ?_; on_goal 1 => clear_value x)
    | (intro x; clear_value x)
    | lift_lets
    | dsimp only
    | with_reducible apply ite_kept

theorem State.checkCombiner_kept (s : State) (g : Nat) (hs : Kept msk ref s) (hm : 518 &&& msk = 518) : Kept msk ref (State.checkCombiner s g) := by
  unfold State.checkCombiner
  repeat' first
    | with_reducible assumption
    | exact mask_sub hm rfl
    | with_reducible apply State.configFault_kept
    | dsimp only
    | with_reducible apply ite_kept

theorem State.combine_kept (s : State) (g : Nat) (hs : Kept msk ref s) (hm : 524288 &&& msk = 524288) : Kept msk ref (State.combine s g) := by
  unfold State.combine
  repeat' first
    | with_reducible assumption
    | exact mask_sub hm rfl
    | with_reducible apply State.count_kept
    | with_reducible apply State.onTrg_kept
    | with_reducible apply State.propose_kept
    | (intro x; refine (fun (hx : Kept msk ref x) => ?_) ?_; on_goal 1 => clear_value x)
    | (intro x; refine (fun (hx : Kept msk ref x.1) => ?_) ?_; on_goal 1 => clear_value x)
    | (intro x; refine (fun (hx : Kept msk ref x.2) => ?_) ?_; on_goal 1 => clear_value x)
    | (intro x; clear_value x)
    | lift_lets
    | dsimp only
    | with_reducible apply ite_kept
    | with_reducible apply foldl_kept
    | with_reducible apply foldl_fst_kept
    | with_reducible apply foldl_snd_kept
    | intro _ _ _
    | intro _ _
    | fail_if_no_progress (with_reducible refine mk_kept ?_ rfl rfl rfl rfl rfl rfl rfl hm)
    | (with_reducible refine mk_sized ?_ rfl rfl ?_ ?_ ?_ ?_ ?_ hm <;> first | with_reducible assumption | with_reducible rfl | (simp; done))
    | dsimp only [x]
    | split

theorem State.combineAll_kept (s : State) (hs : Kept msk ref s) (hm : 524288 &&& msk = 524288) : Kept msk ref (State.combineAll s) := by
  unfold State.combineAll
  repeat' first
    | with_reducible assumption
    | exact mask_sub hm rfl
    | with_reducible apply State.combine_kept
    | with_reducible apply State.forEach_kept
    | dsimp only
    | intro _ _ _

theorem State.doTriggerEdge_kept (s : State) (n k phi : Nat) (falling : Bool) (hs : Kept msk ref s) (hm : 524304 &&& msk = 524304) : Kept msk ref (State.doTriggerEdge s n k phi falling) := by
  unfold State.doTriggerEdge
  repeat' first
    | with_reducible assumption
    | exact mask_sub hm rfl
    | with_reducible apply State.onTrg_kept
    | with_reducible apply State.propose_kept
    | with_reducible apply State.toCount_kept
    | (intro x; refine (fun (hx : Kept msk ref x) => ?_) ?_; on_goal 1 => clear_value x)
    | (intro x; refine (fun (hx : Kept msk ref x.1) => ?_) ?_; on_goal 1 => clear_value x)
    | (intro x; refine (fun (hx : Kept msk ref x.2) => ?_) ?_; on_goal 1 => clear_value x)
    | (intro x; clear_value x)
    | lift_lets
    | dsimp only
    | with_reducible apply ite_kept

theorem State.doSoftwareCue_kept (s : State) (hs : Kept msk ref s) (hm : 524288 &&& msk = 524288) : Kept msk ref (State.doSoftwareCue s) := by
  unfold State.doSoftwareCue
  repeat' first
    | with_reducible assumption
    | exact mask_sub hm rfl
    | with_reducible apply State.count_kept
    | with_reducible apply State.propose_kept

theorem State.requestFreeze_kept (s : State) (z : Nat) (hs : Kept msk ref s) (hm : 524292 &&& msk = 524292) : Kept msk ref (State.requestFreeze s z) := by
  unfold State.requestFreeze
  repeat' first
    | with_reducible assumption
    | exact mask_sub hm rfl
    | with_reducible apply State.count_kept
    | with_reducible apply State.onTrg_kept
    | with_reducible apply State.setRingState_kept
    | (intro x; refine (fun (hx : Kept msk ref x) => ?_) ?_; on_goal 1 => clear_value x)
    | (intro x; refine (fun (hx : Kept msk ref x.1) => ?_) ?_; on_goal 1 => clear_value x)
    | (intro x; refine (fun (hx : Kept msk ref x.2) => ?_) ?_; on_goal 1 => clear_value x)
    | (intro x; clear_value x)
    | lift_lets
    | dsimp only
    | with_reducible apply ite_kept

theorem State.pulseOut_kept (s : State) (bit : Nat) (hs : Kept msk ref s) (hm : 524288 &&& msk = 524288) : Kept msk ref (State.pulseOut s bit) := by
  unfold State.pulseOut
  repeat' first
    | with_reducible assumption
    | exact mask_sub hm rfl
    | with_reducible apply State.count_kept
    | with_reducible apply State.onTrg_kept
    | dsimp only
    | with_reducible apply ite_kept

theorem State.acceptProposal_kept (s : State) (p : Proposal) (set : Nat) (hs : Kept msk ref s) (hm : 540676 &&& msk = 540676) : Kept msk ref (State.acceptProposal s p set) := by
  unfold State.acceptProposal
  repeat' first
    | with_reducible assumption
    | exact mask_sub hm rfl
    | with_reducible apply State.count_kept
    | with_reducible apply State.forEach_kept
    | with_reducible apply State.onChan_kept
    | with_reducible apply State.onTrg_kept
    | with_reducible apply State.pulseOut_kept
    | (intro x; refine (fun (hx : Kept msk ref x) => ?_) ?_; on_goal 1 => clear_value x)
    | (intro x; refine (fun (hx : Kept msk ref x.1) => ?_) ?_; on_goal 1 => clear_value x)
    | (intro x; refine (fun (hx : Kept msk ref x.2) => ?_) ?_; on_goal 1 => clear_value x)
    | (intro x; clear_value x)
    | lift_lets
    | dsimp only
    | with_reducible apply ite_kept
    | intro _ _ _

theorem State.blindProposal_kept (s : State) (p : Proposal) (hs : Kept msk ref s) (hm : 525126 &&& msk = 525126) : Kept msk ref (State.blindProposal s p) := by
  unfold State.blindProposal
  repeat' first
    | with_reducible assumption
    | exact mask_sub hm rfl
    | with_reducible apply State.count_kept
    | with_reducible apply State.flag_kept
    | with_reducible apply State.onTrg_kept
    | with_reducible apply State.pushMark_kept
    | with_reducible apply State.satAdd_kept
    | (intro x; refine (fun (hx : Kept msk ref x) => ?_) ?_; on_goal 1 => clear_value x)
    | lift_lets
    | dsimp only
    | with_reducible apply ite_kept

theorem State.takeProposal_kept (s : State) (p : Proposal) (hs : Kept msk ref s) (hm : 541510 &&& msk = 541510) : Kept msk ref (State.takeProposal s p) := by
  unfold State.takeProposal
  repeat' first
    | with_reducible assumption
    | exact mask_sub hm rfl
    | with_reducible apply State.acceptProposal_kept
    | with_reducible apply State.blindProposal_kept
    | with_reducible apply State.count_kept
    | with_reducible apply State.onTrg_kept
    | with_reducible apply State.requestFreeze_kept
    | with_reducible apply State.satAdd_kept
    | (intro x; refine (fun (hx : Kept msk ref x) => ?_) ?_; on_goal 1 => clear_value x)
    | (intro x; refine (fun (hx : Kept msk ref x.1) => ?_) ?_; on_goal 1 => clear_value x)
    | (intro x; refine (fun (hx : Kept msk ref x.2) => ?_) ?_; on_goal 1 => clear_value x)
    | (intro x; clear_value x)
    | lift_lets
    | dsimp only
    | with_reducible apply ite_kept
    | intro _ _ _
    | intro _ _
    | fail_if_no_progress (with_reducible refine mk_kept ?_ rfl rfl rfl rfl rfl rfl rfl hm)
    | (with_reducible refine mk_sized ?_ rfl rfl ?_ ?_ ?_ ?_ ?_ hm <;> first | with_reducible assumption | with_reducible rfl | (simp; done))
    | dsimp only [x]
    | split

theorem State.doCueProposal_kept (s : State) (i : Nat) (hs : Kept msk ref s) (hm : 541510 &&& msk = 541510) : Kept msk ref (State.doCueProposal s i) := by
  unfold State.doCueProposal
  repeat' first
    | with_reducible assumption
    | exact mask_sub hm rfl
    | with_reducible apply State.combineAll_kept
    | with_reducible apply State.onTrg_kept
    | with_reducible apply State.takeProposal_kept
    | (intro x; refine (fun (hx : Kept msk ref x) => ?_) ?_; on_goal 1 => clear_value x)
    | lift_lets
    | dsimp only
    | intro _ _ _
    | intro _ _
    | fail_if_no_progress (with_reducible refine mk_kept ?_ rfl rfl rfl rfl rfl rfl rfl hm)
    | (with_reducible refine mk_sized ?_ rfl rfl ?_ ?_ ?_ ?_ ?_ hm <;> first | with_reducible assumption | with_reducible rfl | (simp; done))
    | dsimp only [x]
    | split

theorem State.cueRecord_kept (s : State) (q : Cue) (disp : Nat) (hs : Kept msk ref s) (hm : 838 &&& msk = 838) : Kept msk ref (State.cueRecord s q disp) := by
  unfold State.cueRecord
  repeat' first
    | with_reducible assumption
    | exact mask_sub hm rfl
    | with_reducible apply State.pushCue_kept
    | dsimp only
    | with_reducible apply ite_kept

theorem State.chargeSnippet_kept (s : State) (conds bytes : Nat) (hs : Kept msk ref s) (hm : 524288 &&& msk = 524288) : Kept msk ref (State.chargeSnippet s conds bytes) := by
  unfold State.chargeSnippet
  repeat' first
    | with_reducible assumption
    | exact mask_sub hm rfl
    | with_reducible apply State.forEach_kept
    | with_reducible apply State.onTrg_kept
    | dsimp only
    | intro _ _ _

theorem State.snippetJob_kept (s : State) (q : Cue) (hs : Kept msk ref s) (hm : 2 &&& msk = 2) : Kept msk ref (State.snippetJob s q).2 := by
  unfold State.snippetJob
  repeat' first
    | with_reducible assumption
    | exact mask_sub hm rfl
    | with_reducible apply State.freeBelow_kept

theorem State.closeCue_kept (s : State) (q : Cue) (hs : Kept msk ref s) (hm : 525126 &&& msk = 525126) : Kept msk ref (State.closeCue s q) := by
  unfold State.closeCue
  repeat' first
    | with_reducible assumption
    | exact mask_sub hm rfl
    | with_reducible apply State.chargeSnippet_kept
    | with_reducible apply State.cueRecord_kept
    | with_reducible apply State.flag_kept
    | with_reducible apply State.onTrg_kept
    | with_reducible apply State.showJobs_kept
    | with_reducible apply State.snippetJob_kept
    | (intro x; refine (fun (hx : Kept msk ref x) => ?_) ?_; on_goal 1 => clear_value x)
    | (intro x; refine (fun (hx : Kept msk ref x.1) => ?_) ?_; on_goal 1 => clear_value x)
    | (intro x; refine (fun (hx : Kept msk ref x.2) => ?_) ?_; on_goal 1 => clear_value x)
    | (intro x; clear_value x)
    | lift_lets
    | dsimp only
    | with_reducible apply ite_kept

theorem State.doCueClose_kept (s : State) (hs : Kept msk ref s) (hm : 525142 &&& msk = 525142) : Kept msk ref (State.doCueClose s) := by
  unfold State.doCueClose
  repeat' first
    | with_reducible assumption
    | exact mask_sub hm rfl
    | with_reducible apply State.closeCue_kept
    | with_reducible apply State.toCount_kept
    | dsimp only
    | with_reducible apply ite_kept
    | with_reducible apply foldl_kept
    | with_reducible apply foldl_fst_kept
    | with_reducible apply foldl_snd_kept
    | intro _ _ _
    | intro _ _
    | split

theorem State.closeCuesEarly_kept (s : State) (hs : Kept msk ref s) (hm : 525126 &&& msk = 525126) : Kept msk ref (State.closeCuesEarly s) := by
  unfold State.closeCuesEarly
  repeat' first
    | with_reducible assumption
    | exact mask_sub hm rfl
    | with_reducible apply State.cueRecord_kept
    | with_reducible apply State.forEach_kept
    | with_reducible apply State.onTrg_kept
    | dsimp only
    | intro _ _ _

theorem State.doTrigOutEnd_kept (s : State) (hs : Kept msk ref s) (hm : 524304 &&& msk = 524304) : Kept msk ref (State.doTrigOutEnd s) := by
  unfold State.doTrigOutEnd
  repeat' first
    | with_reducible assumption
    | exact mask_sub hm rfl
    | with_reducible apply State.onTrg_kept
    | with_reducible apply State.toCount_kept
    | dsimp only
    | intro _ _ _
    | intro _ _
    | fail_if_no_progress (with_reducible refine mk_kept ?_ rfl rfl rfl rfl rfl rfl rfl hm)
    | (with_reducible refine mk_sized ?_ rfl rfl ?_ ?_ ?_ ?_ ?_ hm <;> first | with_reducible assumption | with_reducible rfl | (simp; done))
    | split

theorem State.setPrescale_kept (s : State) (i k n : Nat) (hs : Kept msk ref s) (hm : 525126 &&& msk = 525126) : Kept msk ref (State.setPrescale s i k n) := by
  unfold State.setPrescale
  repeat' first
    | with_reducible assumption
    | exact mask_sub hm rfl
    | with_reducible apply State.onTrg_kept
    | with_reducible apply State.pushMark_kept
    | with_reducible apply State.wr_kept

theorem State.budgetSource_kept (s : State) (n i : Nat) (hs : Kept msk ref s) (hm : 525126 &&& msk = 525126) : Kept msk ref (State.budgetSource s n i) := by
  unfold State.budgetSource
  repeat' first
    | with_reducible assumption
    | exact mask_sub hm rfl
    | with_reducible apply State.onTrg_kept
    | with_reducible apply State.setPrescale_kept
    | dsimp only
    | (intro x; refine (fun (hx : Kept msk ref x) => ?_) ?_; on_goal 1 => clear_value x)
    | (intro x; refine (fun (hx : Kept msk ref x.1) => ?_) ?_; on_goal 1 => clear_value x)
    | (intro x; refine (fun (hx : Kept msk ref x.2) => ?_) ?_; on_goal 1 => clear_value x)
    | (intro x; clear_value x)
    | lift_lets
    | dsimp only
    | with_reducible apply ite_kept

theorem State.doBudgetIntervalEnd_kept (s : State) (hs : Kept msk ref s) (hm : 525142 &&& msk = 525142) : Kept msk ref (State.doBudgetIntervalEnd s) := by
  unfold State.doBudgetIntervalEnd
  repeat' first
    | with_reducible assumption
    | exact mask_sub hm rfl
    | with_reducible apply State.budgetSource_kept
    | with_reducible apply State.forEach_kept
    | with_reducible apply State.onTrg_kept
    | with_reducible apply State.toCount_kept
    | (intro x; refine (fun (hx : Kept msk ref x) => ?_) ?_; on_goal 1 => clear_value x)
    | (intro x; refine (fun (hx : Kept msk ref x.1) => ?_) ?_; on_goal 1 => clear_value x)
    | (intro x; refine (fun (hx : Kept msk ref x.2) => ?_) ?_; on_goal 1 => clear_value x)
    | (intro x; clear_value x)
    | lift_lets
    | dsimp only
    | with_reducible apply ite_kept
    | intro _ _ _

theorem State.startBudget_kept (s : State) (n : Nat) (hs : Kept msk ref s) (hm : 524288 &&& msk = 524288) : Kept msk ref (State.startBudget s n) := by
  unfold State.startBudget
  repeat' first
    | with_reducible assumption
    | exact mask_sub hm rfl
    | with_reducible apply State.onTrg_kept

theorem State.doFreeze_kept (s : State) (hs : Kept msk ref s) (hm : 524292 &&& msk = 524292) : Kept msk ref (State.doFreeze s) := by
  unfold State.doFreeze
  repeat' first
    | with_reducible assumption
    | exact mask_sub hm rfl
    | with_reducible apply State.count_kept
    | with_reducible apply State.requestFreeze_kept

theorem State.doFreezeStop_kept (s : State) (hs : Kept msk ref s) (hm : 525142 &&& msk = 525142) : Kept msk ref (State.doFreezeStop s) := by
  unfold State.doFreezeStop
  repeat' first
    | with_reducible assumption
    | exact mask_sub hm rfl
    | with_reducible apply State.flag_kept
    | with_reducible apply State.onTrg_kept
    | with_reducible apply State.pushMark_kept
    | with_reducible apply State.setRingState_kept
    | with_reducible apply State.toCount_kept
    | with_reducible apply State.wrPair_kept
    | (intro x; refine (fun (hx : Kept msk ref x) => ?_) ?_; on_goal 1 => clear_value x)
    | lift_lets
    | dsimp only
    | with_reducible apply ite_kept
    | intro _ _ _
    | intro _ _
    | fail_if_no_progress (with_reducible refine mk_kept ?_ rfl rfl rfl rfl rfl rfl rfl hm)
    | (with_reducible refine mk_sized ?_ rfl rfl ?_ ?_ ?_ ?_ ?_ hm <;> first | with_reducible assumption | with_reducible rfl | (simp; done))
    | dsimp only [x]
    | split

theorem State.doRearm_kept (s : State) (hs : Kept msk ref s) (hm : 1572868 &&& msk = 1572868) : Kept msk ref (State.doRearm s) := by
  unfold State.doRearm
  repeat' first
    | with_reducible assumption
    | exact mask_sub hm rfl
    | with_reducible apply State.cutCodec_kept
    | with_reducible apply State.setRingState_kept
    | dsimp only
    | with_reducible apply ite_kept

theorem State.doRearmLogClear_kept (s : State) (ns : Nat) (hs : Kept msk ref s) (hm : 540688 &&& msk = 540688) : Kept msk ref (State.doRearmLogClear s ns) := by
  unfold State.doRearmLogClear
  repeat' first
    | with_reducible assumption
    | exact mask_sub hm rfl
    | with_reducible apply State.count_kept
    | with_reducible apply State.onTrg_kept
    | with_reducible apply State.pass_kept
    | (intro x; refine (fun (hx : Kept msk ref x) => ?_) ?_; on_goal 1 => clear_value x)
    | lift_lets
    | dsimp only
    | with_reducible apply ite_kept
    | intro _ _ _
    | intro _ _
    | fail_if_no_progress (with_reducible refine mk_kept ?_ rfl rfl rfl rfl rfl rfl rfl hm)
    | (with_reducible refine mk_sized ?_ rfl rfl ?_ ?_ ?_ ?_ ?_ hm <;> first | with_reducible assumption | with_reducible rfl | (simp; done))

theorem State.doRearmResume_kept (s : State) (hs : Kept msk ref s) (hm : 1590102 &&& msk = 1590102) : Kept msk ref (State.doRearmResume s) := by
  unfold State.doRearmResume
  repeat' first
    | with_reducible assumption
    | exact mask_sub hm rfl
    | with_reducible apply State.onTrg_kept
    | with_reducible apply State.pushMark_kept
    | with_reducible apply State.ringRestart_kept
    | with_reducible apply State.setRingState_kept
    | with_reducible apply State.toCount_kept
    | (intro x; refine (fun (hx : Kept msk ref x) => ?_) ?_; on_goal 1 => clear_value x)
    | lift_lets
    | dsimp only
    | with_reducible apply ite_kept
    | intro _ _ _
    | intro _ _
    | fail_if_no_progress (with_reducible refine mk_kept ?_ rfl rfl rfl rfl rfl rfl rfl hm)
    | (with_reducible refine mk_sized ?_ rfl rfl ?_ ?_ ?_ ?_ ?_ hm <;> first | with_reducible assumption | with_reducible rfl | (simp; done))
    | dsimp only [x]
    | split

theorem State.stopRing_kept (s : State) (hs : Kept msk ref s) (hm : 1590086 &&& msk = 1590086) : Kept msk ref (State.stopRing s) := by
  unfold State.stopRing
  repeat' first
    | with_reducible assumption
    | exact mask_sub hm rfl
    | with_reducible apply State.abortJobs_kept
    | with_reducible apply State.closeCuesEarly_kept
    | with_reducible apply State.cutCodec_kept
    | with_reducible apply State.onTrg_kept
    | with_reducible apply State.setRingState_kept
    | (intro x; refine (fun (hx : Kept msk ref x) => ?_) ?_; on_goal 1 => clear_value x)
    | lift_lets
    | dsimp only
    | with_reducible apply ite_kept
    | intro _ _ _
    | intro _ _
    | fail_if_no_progress (with_reducible refine mk_kept ?_ rfl rfl rfl rfl rfl rfl rfl hm)
    | (with_reducible refine mk_sized ?_ rfl rfl ?_ ?_ ?_ ?_ ?_ hm <;> first | with_reducible assumption | with_reducible rfl | (simp; done))

theorem State.startRing_kept (s : State) (n : Nat) (hs : Kept msk ref s) (hm : 1589248 &&& msk = 1589248) : Kept msk ref (State.startRing s n) := by
  unfold State.startRing
  repeat' first
    | with_reducible assumption
    | exact mask_sub hm rfl
    | with_reducible apply State.onTrg_kept
    | with_reducible apply State.ringRestart_kept

theorem foldl_unit_kept {a : Type} {u : WriteUnit} {l : List a} {f : WriteUnit → a → WriteUnit} (h : Kept msk ref u.s)
    (hf : ∀ u x, Kept msk ref u.s → Kept msk ref (f u x).s) : Kept msk ref (l.foldl f u).s := by
  induction l generalizing u with
  | nil => exact h
  | cons x l ih => exact ih (hf u x h)

theorem State.onLnk_kept (s : State) (f : Lnk → Lnk) (h : Kept msk ref s)
    (hf : (f s.lnk).lanes.length = s.lnk.lanes.length) (hm : 128 &&& msk = 128) : Kept msk ref (s.onLnk f) :=
  Kept.size h rfl rfl rfl rfl hf rfl rfl hm rfl

theorem State.onPrm_kept (s : State) (f : Prm → Prm) (hs : Kept msk ref s) (hm : 1024 &&& msk = 1024) : Kept msk ref (State.onPrm s f) := by
  unfold State.onPrm
  repeat' first
    | with_reducible assumption
    | exact mask_sub hm rfl
    | dsimp only
    | intro _ _ _
    | intro _ _
    | fail_if_no_progress (with_reducible refine mk_kept ?_ rfl rfl rfl rfl rfl rfl rfl hm)

theorem State.onRing_kept (s : State) (r : Nat) (f : PRing → PRing) (hs : Kept msk ref s) (hm : 1024 &&& msk = 1024) : Kept msk ref (State.onRing s r f) := by
  unfold State.onRing
  repeat' first
    | with_reducible assumption
    | exact mask_sub hm rfl
    | with_reducible apply State.onPrm_kept

theorem State.memPush_kept (s : State) (x : MemTx) (hs : Kept msk ref s) (hm : 128 &&& msk = 128) : Kept msk ref (State.memPush s x) := by
  unfold State.memPush
  repeat' first
    | with_reducible assumption
    | exact mask_sub hm rfl
    | with_reducible apply State.onLnk_kept
    | dsimp only

theorem State.memAppend_kept (s : State) (pos key addr : Nat) (w : LWord) (hs : Kept msk ref s) (hm : 128 &&& msk = 128) : Kept msk ref (State.memAppend s pos key addr w) := by
  unfold State.memAppend
  repeat' first
    | with_reducible assumption
    | exact mask_sub hm rfl
    | with_reducible apply State.memPush_kept
    | with_reducible apply State.onLnk_kept
    | dsimp only
    | with_reducible apply ite_kept
    | intro _ _ _
    | intro _ _
    | fail_if_no_progress (with_reducible refine mk_kept ?_ rfl rfl rfl rfl rfl rfl rfl hm)
    | (with_reducible refine mk_sized ?_ rfl rfl ?_ ?_ ?_ ?_ ?_ hm <;> first | with_reducible assumption | with_reducible rfl | (simp; done))
    | split

theorem State.memWrite_kept (s : State) (pos key addr : Nat) (ws : List LWord) (hs : Kept msk ref s) (hm : 128 &&& msk = 128) : Kept msk ref (State.memWrite s pos key addr ws) := by
  unfold State.memWrite
  repeat' first
    | with_reducible assumption
    | exact mask_sub hm rfl
    | with_reducible apply State.memAppend_kept
    | dsimp only
    | with_reducible apply foldl_kept
    | with_reducible apply foldl_fst_kept
    | with_reducible apply foldl_snd_kept
    | with_reducible apply foldl_unit_kept
    | intro _ _ _

theorem State.pushStatus_kept (s : State) (r : Nat) (hs : Kept msk ref s) (hm : 1152 &&& msk = 1152) : Kept msk ref (State.pushStatus s r) := by
  unfold State.pushStatus
  repeat' first
    | with_reducible assumption
    | exact mask_sub hm rfl
    | with_reducible apply State.count_kept
    | with_reducible apply State.memPush_kept
    | with_reducible apply State.onLnk_kept
    | with_reducible apply State.onRing_kept
    | (intro x; refine (fun (hx : Kept msk ref x) => ?_) ?_; on_goal 1 => clear_value x)
    | (intro x; refine (fun (hx : Kept msk ref x.1) => ?_) ?_; on_goal 1 => clear_value x)
    | (intro x; refine (fun (hx : Kept msk ref x.2) => ?_) ?_; on_goal 1 => clear_value x)
    | (intro x; clear_value x)
    | lift_lets
    | dsimp only

theorem State.writeStatus_kept (s : State) (r : Nat) (hs : Kept msk ref s) (hm : 1152 &&& msk = 1152) : Kept msk ref (State.writeStatus s r) := by
  unfold State.writeStatus
  repeat' first
    | with_reducible assumption
    | exact mask_sub hm rfl
    | with_reducible apply State.count_kept
    | with_reducible apply State.onRing_kept
    | with_reducible apply State.pushStatus_kept
    | dsimp only
    | with_reducible apply ite_kept

theorem State.catchStatus_kept (s : State) (hs : Kept msk ref s) (hm : 1152 &&& msk = 1152) : Kept msk ref (State.catchStatus s) := by
  unfold State.catchStatus
  repeat' first
    | with_reducible assumption
    | exact mask_sub hm rfl
    | with_reducible apply State.forEach_kept
    | with_reducible apply State.writeStatus_kept
    | dsimp only
    | with_reducible apply ite_kept
    | intro _ _ _

theorem State.advanceWi_kept (s : State) (r bytes : Nat) (hs : Kept msk ref s) (hm : 1024 &&& msk = 1024) : Kept msk ref (State.advanceWi s r bytes) := by
  unfold State.advanceWi
  repeat' first
    | with_reducible assumption
    | exact mask_sub hm rfl
    | with_reducible apply State.count_kept
    | with_reducible apply State.onRing_kept

theorem State.startPacket_kept (s : State) (q : Nat) (hs : Kept msk ref s) (hm : 256 &&& msk = 256) : Kept msk ref (State.startPacket s q) := by
  unfold State.startPacket
  repeat' first
    | with_reducible assumption
    | exact mask_sub hm rfl
    | with_reducible apply State.onQueue_kept
    | dsimp only
    | intro _ _ _
    | intro _ _
    | fail_if_no_progress (with_reducible refine mk_kept ?_ rfl rfl rfl rfl rfl rfl rfl hm)
    | (with_reducible refine mk_sized ?_ rfl rfl ?_ ?_ ?_ ?_ ?_ hm <;> first | with_reducible assumption | with_reducible rfl | (simp; done))
    | split

theorem State.endPacket_kept (s : State) (q : Nat) (hs : Kept msk ref s) (hm : 324 &&& msk = 324) : Kept msk ref (State.endPacket s q) := by
  unfold State.endPacket
  repeat' first
    | with_reducible assumption
    | exact mask_sub hm rfl
    | with_reducible apply State.onQueue_kept
    | with_reducible apply State.unblock_kept

theorem State.takeWord_kept (s : State) (q : Nat) (hs : Kept msk ref s) (hm : 838 &&& msk = 838) : Kept msk ref (State.takeWord s q).1 := by
  unfold State.takeWord
  repeat' first
    | with_reducible assumption
    | exact mask_sub hm rfl
    | with_reducible apply State.count_kept
    | with_reducible apply State.endPacket_kept
    | with_reducible apply State.flag_kept
    | with_reducible apply State.onQueue_kept
    | with_reducible apply State.report_kept
    | with_reducible apply State.satAdd_kept
    | (intro x; refine (fun (hx : Kept msk ref x) => ?_) ?_; on_goal 1 => clear_value x)
    | (intro x; refine (fun (hx : Kept msk ref x.1) => ?_) ?_; on_goal 1 => clear_value x)
    | (intro x; refine (fun (hx : Kept msk ref x.2) => ?_) ?_; on_goal 1 => clear_value x)
    | (intro x; clear_value x)
    | lift_lets
    | dsimp only
    | with_reducible apply ite_kept
    | intro _ _ _
    | intro _ _
    | fail_if_no_progress (with_reducible refine mk_kept ?_ rfl rfl rfl rfl rfl rfl rfl hm)
    | (with_reducible refine mk_sized ?_ rfl rfl ?_ ?_ ?_ ?_ ?_ hm <;> first | with_reducible assumption | with_reducible rfl | (simp; done))
    | dsimp only [x]
    | split

theorem State.takePacket_kept (s : State) (q n : Nat) (h : Kept msk ref s) (hm : 838 &&& msk = 838) : Kept msk ref (s.takePacket q n).1 := by
  induction n generalizing s with
  | zero => exact h
  | succ n ih =>
    have hw := State.takeWord_kept s q h (mask_sub hm rfl)
    unfold State.takePacket
    split
    · exact fst_out ‹_ = (_, _)› hw
    · exact fst_out ‹_ = (_, _)› hw
    · exact ih _ (fst_out ‹_ = (_, _)› hw)

theorem WriteUnit.put_kept (u : WriteUnit) (key addr : Nat) (w : LWord) (isLoc : Bool) (hs : Kept msk ref u.s) (hm : 0 &&& msk = 0) : Kept msk ref (WriteUnit.put u key addr w isLoc).s := by
  unfold WriteUnit.put
  repeat' first
    | with_reducible assumption

theorem State.setWriting_kept (s : State) (q : Nat) (w : Option RecWrite) (hs : Kept msk ref s) (hm : 1024 &&& msk = 1024) : Kept msk ref (State.setWriting s q w) := by
  unfold State.setWriting
  repeat' first
    | with_reducible assumption
    | exact mask_sub hm rfl
    | with_reducible apply State.onPrm_kept

theorem WriteUnit.endRecord_kept (u : WriteUnit) (q : Nat) (w : RecWrite) (hs : Kept msk ref u.s) (hm : 1024 &&& msk = 1024) : Kept msk ref (WriteUnit.endRecord u q w).s := by
  unfold WriteUnit.endRecord
  repeat' first
    | with_reducible assumption
    | exact mask_sub hm rfl
    | with_reducible apply State.advanceWi_kept
    | with_reducible apply State.setWriting_kept
    | (intro x; refine (fun (hx : Kept msk ref x) => ?_) ?_; on_goal 1 => clear_value x)
    | lift_lets
    | dsimp only
    | intro _ _ _
    | intro _ _
    | fail_if_no_progress (with_reducible refine mk_kept ?_ rfl rfl rfl rfl rfl rfl rfl hm)
    | (with_reducible refine mk_sized ?_ rfl rfl ?_ ?_ ?_ ?_ ?_ hm <;> first | with_reducible assumption | with_reducible rfl | (simp; done))
    | dsimp only [x]
    | split

theorem WriteUnit.flush_kept (u : WriteUnit) (q : Nat) (hs : Kept msk ref u.s) (hm : 128 &&& msk = 128) : Kept msk ref (WriteUnit.flush u q).s := by
  unfold WriteUnit.flush
  repeat' first
    | with_reducible assumption
    | exact mask_sub hm rfl
    | with_reducible apply State.memPush_kept
    | dsimp only
    | with_reducible apply ite_kept
    | intro _ _ _
    | intro _ _
    | fail_if_no_progress (with_reducible refine mk_kept ?_ rfl rfl rfl rfl rfl rfl rfl hm)
    | (with_reducible refine mk_sized ?_ rfl rfl ?_ ?_ ?_ ?_ ?_ hm <;> first | with_reducible assumption | with_reducible rfl | (simp; done))
    | split

theorem WriteUnit.cutRecord_kept (u : WriteUnit) (q : Nat) (w : RecWrite) (hs : Kept msk ref u.s) (hm : 1152 &&& msk = 1152) : Kept msk ref (WriteUnit.cutRecord u q w).s := by
  unfold WriteUnit.cutRecord
  repeat' first
    | with_reducible assumption
    | exact mask_sub hm rfl
    | with_reducible apply WriteUnit.endRecord_kept
    | with_reducible apply WriteUnit.flush_kept
    | (intro x; refine (fun (hx : Kept msk ref x) => ?_) ?_; on_goal 1 => clear_value x)
    | (intro x; refine (fun (hx : Kept msk ref x.1) => ?_) ?_; on_goal 1 => clear_value x)
    | (intro x; refine (fun (hx : Kept msk ref x.2) => ?_) ?_; on_goal 1 => clear_value x)
    | (intro x; clear_value x)
    | lift_lets
    | dsimp only
    | intro _ _ _
    | intro _ _
    | fail_if_no_progress (with_reducible refine mk_kept ?_ rfl rfl rfl rfl rfl rfl rfl hm)
    | (with_reducible refine mk_sized ?_ rfl rfl ?_ ?_ ?_ ?_ ?_ hm <;> first | with_reducible assumption | with_reducible rfl | (simp; done))
    | dsimp only [x]
    | split

theorem WriteUnit.goOn_kept (u : WriteUnit) (q : Nat) (w : RecWrite) (hs : Kept msk ref u.s) (hm : 1990 &&& msk = 1990) : Kept msk ref (WriteUnit.goOn u q w).s := by
  unfold WriteUnit.goOn
  repeat' first
    | with_reducible assumption
    | exact mask_sub hm rfl
    | with_reducible apply State.setWriting_kept
    | with_reducible apply State.takeWord_kept
    | with_reducible apply WriteUnit.cutRecord_kept
    | with_reducible apply WriteUnit.endRecord_kept
    | with_reducible apply WriteUnit.put_kept
    | (intro x; refine (fun (hx : Kept msk ref x) => ?_) ?_; on_goal 1 => clear_value x)
    | (intro x; refine (fun (hx : Kept msk ref x.1) => ?_) ?_; on_goal 1 => clear_value x)
    | (intro x; refine (fun (hx : Kept msk ref x.2) => ?_) ?_; on_goal 1 => clear_value x)
    | (intro x; clear_value x)
    | lift_lets
    | dsimp only
    | with_reducible apply ite_kept
    | intro _ _ _
    | intro _ _
    | fail_if_no_progress (with_reducible refine mk_kept ?_ rfl rfl rfl rfl rfl rfl rfl hm)
    | (with_reducible refine mk_sized ?_ rfl rfl ?_ ?_ ?_ ?_ ?_ hm <;> first | with_reducible assumption | with_reducible rfl | (simp; done))
    | dsimp only [x]
    | split
    | with_reducible refine OKept.out ‹_ = some _› ?_
    | with_reducible refine fst_out ‹_ = (_, _)› ?_

theorem WriteUnit.begin__kept (u : WriteUnit) (q : Nat) (hs : Kept msk ref u.s) (hm : 1280 &&& msk = 1280) : Kept msk ref (WriteUnit.begin_ u q).s := by
  unfold WriteUnit.begin_
  repeat' first
    | with_reducible assumption
    | exact mask_sub hm rfl
    | with_reducible apply State.advanceWi_kept
    | with_reducible apply State.setWriting_kept
    | with_reducible apply State.startPacket_kept
    | with_reducible apply WriteUnit.put_kept
    | (intro x; refine (fun (hx : Kept msk ref x) => ?_) ?_; on_goal 1 => clear_value x)
    | (intro x; refine (fun (hx : Kept msk ref x.1) => ?_) ?_; on_goal 1 => clear_value x)
    | (intro x; refine (fun (hx : Kept msk ref x.2) => ?_) ?_; on_goal 1 => clear_value x)
    | (intro x; clear_value x)
    | lift_lets
    | dsimp only
    | with_reducible apply ite_kept
    | intro _ _ _
    | intro _ _
    | fail_if_no_progress (with_reducible refine mk_kept ?_ rfl rfl rfl rfl rfl rfl rfl hm)
    | (with_reducible refine mk_sized ?_ rfl rfl ?_ ?_ ?_ ?_ ?_ hm <;> first | with_reducible assumption | with_reducible rfl | (simp; done))
    | dsimp only [x]
    | split

theorem WriteUnit.move_kept (q : Nat) (u : WriteUnit) (hs : Kept msk ref u.s) (hm : 1990 &&& msk = 1990) : Kept msk ref (WriteUnit.move q u).s := by
  unfold WriteUnit.move
  repeat' first
    | with_reducible assumption
    | exact mask_sub hm rfl
    | with_reducible apply Assembly.begin__kept
    | with_reducible apply Assembly.goOn_kept
    | with_reducible apply WriteUnit.begin__kept
    | with_reducible apply WriteUnit.goOn_kept
    | dsimp only
    | with_reducible apply ite_kept
    | intro _ _ _
    | intro _ _
    | fail_if_no_progress (with_reducible refine mk_kept ?_ rfl rfl rfl rfl rfl rfl rfl hm)
    | (with_reducible refine mk_sized ?_ rfl rfl ?_ ?_ ?_ ?_ ?_ hm <;> first | with_reducible assumption | with_reducible rfl | (simp; done))
    | split

theorem State.writeUnit_kept (s : State) (q : Nat) (hs : Kept msk ref s) (hm : 1990 &&& msk = 1990) : Kept msk ref (State.writeUnit s q) := by
  unfold State.writeUnit
  repeat' first
    | with_reducible assumption
    | exact mask_sub hm rfl
    | with_reducible apply Assembly.move_kept
    | with_reducible apply State.forEach_kept
    | with_reducible apply State.writeStatus_kept
    | with_reducible apply WriteUnit.flush_kept
    | with_reducible apply WriteUnit.move_kept
    | (intro x; refine (fun (hx : Kept msk ref x) => ?_) ?_; on_goal 1 => clear_value x)
    | (intro x; refine (fun (hx : Kept msk ref x.1) => ?_) ?_; on_goal 1 => clear_value x)
    | (intro x; refine (fun (hx : Kept msk ref x.2) => ?_) ?_; on_goal 1 => clear_value x)
    | (intro x; clear_value x)
    | lift_lets
    | dsimp only
    | with_reducible apply foldl_kept
    | with_reducible apply foldl_fst_kept
    | with_reducible apply foldl_snd_kept
    | with_reducible apply foldl_unit_kept
    | intro _ _ _

theorem State.memService_kept (s : State) (hs : Kept msk ref s) (hm : 1990 &&& msk = 1990) : Kept msk ref (State.memService s) := by
  unfold State.memService
  repeat' first
    | with_reducible assumption
    | exact mask_sub hm rfl
    | with_reducible apply State.forEach_kept
    | with_reducible apply State.writeUnit_kept
    | dsimp only
    | with_reducible apply ite_kept
    | intro _ _ _

theorem State.cutWrites_kept (s : State) (hs : Kept msk ref s) (hm : 1152 &&& msk = 1152) : Kept msk ref (State.cutWrites s) := by
  unfold State.cutWrites
  repeat' first
    | with_reducible assumption
    | exact mask_sub hm rfl
    | with_reducible apply State.forEach_kept
    | with_reducible apply State.writeStatus_kept
    | with_reducible apply WriteUnit.cutRecord_kept
    | (intro x; refine (fun (hx : Kept msk ref x) => ?_) ?_; on_goal 1 => clear_value x)
    | (intro x; refine (fun (hx : Kept msk ref x.1) => ?_) ?_; on_goal 1 => clear_value x)
    | (intro x; refine (fun (hx : Kept msk ref x.2) => ?_) ?_; on_goal 1 => clear_value x)
    | (intro x; clear_value x)
    | lift_lets
    | dsimp only
    | intro _ _ _
    | intro _ _
    | fail_if_no_progress (with_reducible refine mk_kept ?_ rfl rfl rfl rfl rfl rfl rfl hm)
    | (with_reducible refine mk_sized ?_ rfl rfl ?_ ?_ ?_ ?_ ?_ hm <;> first | with_reducible assumption | with_reducible rfl | (simp; done))
    | dsimp only [x]
    | split

theorem State.showFlight_kept (s : State) (r : Nat) (hs : Kept msk ref s) (hm : 4 &&& msk = 4) : Kept msk ref (State.showFlight s r) := by
  unfold State.showFlight
  repeat' first
    | with_reducible assumption
    | exact mask_sub hm rfl
    | with_reducible apply State.wr_kept

theorem State.postEntry_kept (s : State) (c : PCmd) (hs : Kept msk ref s) (hm : 1156 &&& msk = 1156) : Kept msk ref (State.postEntry s c) := by
  unfold State.postEntry
  repeat' first
    | with_reducible assumption
    | exact mask_sub hm rfl
    | with_reducible apply State.count_kept
    | with_reducible apply State.memWrite_kept
    | with_reducible apply State.onPrm_kept
    | with_reducible apply State.onRing_kept
    | with_reducible apply State.showFlight_kept
    | with_reducible apply State.writeStatus_kept

theorem State.postAll_kept (s : State) (hs : Kept msk ref s) (hm : 1156 &&& msk = 1156) : Kept msk ref (State.postAll s) := by
  unfold State.postAll
  repeat' first
    | with_reducible assumption
    | exact mask_sub hm rfl
    | with_reducible apply State.forEach_kept
    | with_reducible apply State.postEntry_kept
    | dsimp only
    | with_reducible apply ite_kept
    | intro _ _ _

theorem State.finishCmd_kept (s : State) (ring idx : Nat) (result : LWord) (status blocks low : Nat) (hs : Kept msk ref s) (hm : 1156 &&& msk = 1156) : Kept msk ref (State.finishCmd s ring idx result status blocks low) := by
  unfold State.finishCmd
  repeat' first
    | with_reducible assumption
    | exact mask_sub hm rfl
    | with_reducible apply State.onPrm_kept
    | with_reducible apply State.postAll_kept

theorem State.pushOutput_kept (s : State) (ring idx addr : Nat) (ws : List LWord) (hs : Kept msk ref s) (hm : 1862 &&& msk = 1862) : Kept msk ref (State.pushOutput s ring idx addr ws) := by
  unfold State.pushOutput
  repeat' first
    | with_reducible assumption
    | exact mask_sub hm rfl
    | with_reducible apply State.count_kept
    | with_reducible apply State.forEach_kept
    | with_reducible apply State.onPrm_kept
    | with_reducible apply State.pushPkt_kept
    | (intro x; refine (fun (hx : Kept msk ref x) => ?_) ?_; on_goal 1 => clear_value x)
    | lift_lets
    | dsimp only
    | with_reducible apply ite_kept
    | intro _ _ _

theorem State.beginPacket_kept (s : State) (ch n0 len : Nat) (hs : Kept msk ref s) (hm : 260 &&& msk = 260) : Kept msk ref (State.beginPacket s ch n0 len) := by
  unfold State.beginPacket
  repeat' first
    | with_reducible assumption
    | exact mask_sub hm rfl
    | with_reducible apply State.hwm_kept
    | with_reducible apply State.onQueue_kept
    | (intro x; refine (fun (hx : Kept msk ref x) => ?_) ?_; on_goal 1 => clear_value x)
    | (intro x; refine (fun (hx : Kept msk ref x.1) => ?_) ?_; on_goal 1 => clear_value x)
    | (intro x; refine (fun (hx : Kept msk ref x.2) => ?_) ?_; on_goal 1 => clear_value x)
    | (intro x; clear_value x)
    | lift_lets
    | dsimp only
    | with_reducible apply ite_kept

theorem State.beginFrom_kept (s : State) (ch n : Nat) (hs : Kept msk ref s) (hm : 260 &&& msk = 260) : Kept msk ref (State.beginFrom s ch n) := by
  unfold State.beginFrom
  repeat' first
    | with_reducible assumption
    | exact mask_sub hm rfl
    | with_reducible apply State.beginPacket_kept
    | (intro x; refine (fun (hx : Kept msk ref x) => ?_) ?_; on_goal 1 => clear_value x)
    | (intro x; refine (fun (hx : Kept msk ref x.1) => ?_) ?_; on_goal 1 => clear_value x)
    | (intro x; refine (fun (hx : Kept msk ref x.2) => ?_) ?_; on_goal 1 => clear_value x)
    | (intro x; clear_value x)
    | lift_lets
    | dsimp only
    | with_reducible apply ite_kept

theorem State.flushOne_kept (s : State) (q ch n0 : Nat) (hs : Kept msk ref s) (hm : 772 &&& msk = 772) : Kept msk ref (State.flushOne s q ch n0) := by
  unfold State.flushOne
  repeat' first
    | with_reducible assumption
    | exact mask_sub hm rfl
    | with_reducible apply State.count_kept
    | with_reducible apply State.onQueue_kept
    | (intro x; refine (fun (hx : Kept msk ref x) => ?_) ?_; on_goal 1 => clear_value x)
    | lift_lets
    | dsimp only
    | intro _ _ _
    | intro _ _
    | fail_if_no_progress (with_reducible refine mk_kept ?_ rfl rfl rfl rfl rfl rfl rfl hm)

theorem State.discardTags_kept (s : State) (ch a b : Nat) (hs : Kept msk ref s) (hm : 2097152 &&& msk = 2097152) : Kept msk ref (State.discardTags s ch a b) := by
  unfold State.discardTags
  repeat' first
    | with_reducible assumption
    | exact mask_sub hm rfl
    | dsimp only
    | with_reducible apply ite_kept
    | intro _ _ _
    | intro _ _
    | fail_if_no_progress (with_reducible refine mk_kept ?_ rfl rfl rfl rfl rfl rfl rfl hm)

theorem State.dropProgress_kept (s : State) (ch n : Nat) (hs : Kept msk ref s) (hm : 2097924 &&& msk = 2097924) : Kept msk ref (State.dropProgress s ch n) := by
  unfold State.dropProgress
  repeat' first
    | with_reducible assumption
    | exact mask_sub hm rfl
    | with_reducible apply State.discardTags_kept
    | with_reducible apply State.flushOne_kept
    | with_reducible apply State.forEach_kept
    | with_reducible apply State.onQueue_kept
    | (intro x; refine (fun (hx : Kept msk ref x) => ?_) ?_; on_goal 1 => clear_value x)
    | (intro x; refine (fun (hx : Kept msk ref x.1) => ?_) ?_; on_goal 1 => clear_value x)
    | (intro x; refine (fun (hx : Kept msk ref x.2) => ?_) ?_; on_goal 1 => clear_value x)
    | (intro x; clear_value x)
    | lift_lets
    | dsimp only
    | intro _ _ _

theorem State.startChannel_kept (s : State) (ch n : Nat) (notches : List Notch) (hs : Kept msk ref s) (hm : 16644 &&& msk = 16644) : Kept msk ref (State.startChannel s ch n notches) := by
  unfold State.startChannel
  repeat' first
    | with_reducible assumption
    | exact mask_sub hm rfl
    | with_reducible apply State.beginFrom_kept
    | with_reducible apply State.onChan_kept
    | with_reducible apply State.order_kept
    | with_reducible apply State.startDetector_kept
    | (intro x; refine (fun (hx : Kept msk ref x) => ?_) ?_; on_goal 1 => clear_value x)
    | (intro x; refine (fun (hx : Kept msk ref x.1) => ?_) ?_; on_goal 1 => clear_value x)
    | (intro x; refine (fun (hx : Kept msk ref x.2) => ?_) ?_; on_goal 1 => clear_value x)
    | (intro x; clear_value x)
    | lift_lets
    | dsimp only
    | with_reducible apply ite_kept

theorem State.stopChannel_kept (s : State) (ch n : Nat) (hs : Kept msk ref s) (hm : 2114308 &&& msk = 2114308) : Kept msk ref (State.stopChannel s ch n) := by
  unfold State.stopChannel
  repeat' first
    | with_reducible assumption
    | exact mask_sub hm rfl
    | with_reducible apply State.dropProgress_kept
    | with_reducible apply State.onChan_kept
    | dsimp only
    | intro _ _ _
    | intro _ _
    | fail_if_no_progress (with_reducible refine mk_kept ?_ rfl rfl rfl rfl rfl rfl rfl hm)
    | (with_reducible refine mk_sized ?_ rfl rfl ?_ ?_ ?_ ?_ ?_ hm <;> first | with_reducible assumption | with_reducible rfl | (simp; done))
    | split

theorem State.firBlock_kept (s : State) (ch n : Nat) (hs : Kept msk ref s) (hm : 4 &&& msk = 4) : Kept msk ref (State.firBlock s ch n) := by
  unfold State.firBlock
  repeat' first
    | with_reducible assumption
    | exact mask_sub hm rfl
    | with_reducible apply State.count_kept
    | with_reducible apply State.order_kept
    | (intro x; refine (fun (hx : Kept msk ref x) => ?_) ?_; on_goal 1 => clear_value x)
    | (intro x; refine (fun (hx : Kept msk ref x.1) => ?_) ?_; on_goal 1 => clear_value x)
    | (intro x; refine (fun (hx : Kept msk ref x.2) => ?_) ?_; on_goal 1 => clear_value x)
    | (intro x; clear_value x)
    | lift_lets
    | dsimp only
    | with_reducible apply ite_kept

theorem State.traceBlock_kept (s : State) (ch n mode decim : Nat) (hs : Kept msk ref s) (hm : 2097158 &&& msk = 2097158) : Kept msk ref (State.traceBlock s ch n mode decim) := by
  unfold State.traceBlock
  repeat' first
    | with_reducible assumption
    | exact mask_sub hm rfl
    | with_reducible apply State.flag_kept
    | with_reducible apply State.freeBelow_kept
    | with_reducible apply State.satAdd_kept
    | (intro x; refine (fun (hx : Kept msk ref x) => ?_) ?_; on_goal 1 => clear_value x)
    | (intro x; refine (fun (hx : Kept msk ref x.1) => ?_) ?_; on_goal 1 => clear_value x)
    | (intro x; refine (fun (hx : Kept msk ref x.2) => ?_) ?_; on_goal 1 => clear_value x)
    | (intro x; clear_value x)
    | lift_lets
    | dsimp only
    | with_reducible apply ite_kept
    | intro _ _ _
    | intro _ _
    | fail_if_no_progress (with_reducible refine mk_kept ?_ rfl rfl rfl rfl rfl rfl rfl hm)

theorem State.discardPacket_kept (s : State) (ch : Nat) (hs : Kept msk ref s) (hm : 518 &&& msk = 518) : Kept msk ref (State.discardPacket s ch) := by
  unfold State.discardPacket
  repeat' first
    | with_reducible assumption
    | exact mask_sub hm rfl
    | with_reducible apply State.count_kept
    | with_reducible apply State.flag_kept
    | with_reducible apply State.report_kept
    | with_reducible apply State.satAdd_kept
    | (intro x; refine (fun (hx : Kept msk ref x) => ?_) ?_; on_goal 1 => clear_value x)
    | (intro x; refine (fun (hx : Kept msk ref x.1) => ?_) ?_; on_goal 1 => clear_value x)
    | (intro x; refine (fun (hx : Kept msk ref x.2) => ?_) ?_; on_goal 1 => clear_value x)
    | (intro x; clear_value x)
    | lift_lets
    | dsimp only
    | intro _ _ _
    | intro _ _
    | fail_if_no_progress (with_reducible refine mk_kept ?_ rfl rfl rfl rfl rfl rfl rfl hm)

theorem State.storePacket_kept (s : State) (ch n0 d : Nat) (ws : List LWord) (hs : Kept msk ref s) (hm : 2097990 &&& msk = 2097990) : Kept msk ref (State.storePacket s ch n0 d ws) := by
  unfold State.storePacket
  repeat' first
    | with_reducible assumption
    | exact mask_sub hm rfl
    | with_reducible apply State.count_kept
    | with_reducible apply State.discardPacket_kept
    | with_reducible apply State.discardTags_kept
    | with_reducible apply State.enqueue_kept
    | with_reducible apply State.flushOne_kept
    | with_reducible apply State.onQueue_kept
    | (intro x; refine (fun (hx : Kept msk ref x) => ?_) ?_; on_goal 1 => clear_value x)
    | (intro x; refine (fun (hx : Kept msk ref x.1) => ?_) ?_; on_goal 1 => clear_value x)
    | (intro x; refine (fun (hx : Kept msk ref x.2) => ?_) ?_; on_goal 1 => clear_value x)
    | (intro x; clear_value x)
    | lift_lets
    | dsimp only
    | with_reducible apply ite_kept

theorem State.doStreamPacket_kept (s : State) (ch n0 : Nat) (flips : List (Nat × Nat)) (bad : List Nat) (hs : Kept msk ref s) (hm : 2114390 &&& msk = 2114390) : Kept msk ref (State.doStreamPacket s ch n0 flips bad) := by
  unfold State.doStreamPacket
  repeat' first
    | with_reducible assumption
    | exact mask_sub hm rfl
    | with_reducible apply State.beginPacket_kept
    | with_reducible apply State.forEach_kept
    | with_reducible apply State.onChan_kept
    | with_reducible apply State.order_kept
    | with_reducible apply State.storePacket_kept
    | with_reducible apply State.toCount_kept
    | with_reducible apply State.traceBlock_kept
    | with_reducible apply State.verifyFail_kept
    | (intro x; refine (fun (hx : Kept msk ref x) => ?_) ?_; on_goal 1 => clear_value x)
    | (intro x; refine (fun (hx : Kept msk ref x.1) => ?_) ?_; on_goal 1 => clear_value x)
    | (intro x; refine (fun (hx : Kept msk ref x.2) => ?_) ?_; on_goal 1 => clear_value x)
    | (intro x; clear_value x)
    | lift_lets
    | dsimp only
    | with_reducible apply ite_kept
    | intro _ _ _

theorem State.acceptApply_kept (s : State) (hs : Kept msk ref s) (hm : 2052 &&& msk = 2052) : Kept msk ref (State.acceptApply s) := by
  unfold State.acceptApply
  repeat' first
    | with_reducible assumption
    | exact mask_sub hm rfl
    | with_reducible apply State.count_kept
    | with_reducible apply State.wr_kept
    | (intro x; refine (fun (hx : Kept msk ref x) => ?_) ?_; on_goal 1 => clear_value x)
    | (intro x; refine (fun (hx : Kept msk ref x.1) => ?_) ?_; on_goal 1 => clear_value x)
    | (intro x; refine (fun (hx : Kept msk ref x.2) => ?_) ?_; on_goal 1 => clear_value x)
    | (intro x; clear_value x)
    | lift_lets
    | dsimp only
    | intro _ _ _
    | intro _ _
    | fail_if_no_progress (with_reducible refine mk_kept ?_ rfl rfl rfl rfl rfl rfl rfl hm)

theorem State.doStreamApply_kept (s : State) (hs : Kept msk ref s) (hm : 2566 &&& msk = 2566) : Kept msk ref (State.doStreamApply s) := by
  unfold State.doStreamApply
  repeat' first
    | with_reducible assumption
    | exact mask_sub hm rfl
    | with_reducible apply State.acceptApply_kept
    | with_reducible apply State.admitFault_kept
    | with_reducible apply State.judge_kept
    | with_reducible apply State.wr_kept
    | dsimp only
    | intro _ _ _
    | intro _ _

theorem State.setMode_kept (s : State) (ch n mode : Nat) (en : Bool) (hs : Kept msk ref s) (hm : 18692 &&& msk = 18692) : Kept msk ref (State.setMode s ch n mode en) := by
  unfold State.setMode
  repeat' first
    | with_reducible assumption
    | exact mask_sub hm rfl
    | with_reducible apply State.beginFrom_kept
    | with_reducible apply State.onChan_kept
    | with_reducible apply State.onQueue_kept
    | with_reducible apply State.wr_kept
    | (intro x; refine (fun (hx : Kept msk ref x) => ?_) ?_; on_goal 1 => clear_value x)
    | (intro x; refine (fun (hx : Kept msk ref x.1) => ?_) ?_; on_goal 1 => clear_value x)
    | (intro x; refine (fun (hx : Kept msk ref x.2) => ?_) ?_; on_goal 1 => clear_value x)
    | (intro x; clear_value x)
    | lift_lets
    | dsimp only
    | with_reducible apply ite_kept
    | intro _ _ _
    | intro _ _
    | fail_if_no_progress (with_reducible refine mk_kept ?_ rfl rfl rfl rfl rfl rfl rfl hm)

theorem State.doStreamApplyEffect_kept (s : State) (hs : Kept msk ref s) (hm : 18708 &&& msk = 18708) : Kept msk ref (State.doStreamApplyEffect s) := by
  unfold State.doStreamApplyEffect
  repeat' first
    | with_reducible assumption
    | exact mask_sub hm rfl
    | with_reducible apply State.forEach_kept
    | with_reducible apply State.setMode_kept
    | with_reducible apply State.toCount_kept
    | with_reducible apply State.wrB_kept
    | (intro x; refine (fun (hx : Kept msk ref x) => ?_) ?_; on_goal 1 => clear_value x)
    | (intro x; refine (fun (hx : Kept msk ref x.1) => ?_) ?_; on_goal 1 => clear_value x)
    | (intro x; refine (fun (hx : Kept msk ref x.2) => ?_) ?_; on_goal 1 => clear_value x)
    | (intro x; clear_value x)
    | lift_lets
    | dsimp only
    | with_reducible apply ite_kept
    | intro _ _ _
    | intro _ _
    | fail_if_no_progress (with_reducible refine mk_kept ?_ rfl rfl rfl rfl rfl rfl rfl hm)
    | (with_reducible refine mk_sized ?_ rfl rfl ?_ ?_ ?_ ?_ ?_ hm <;> first | with_reducible assumption | with_reducible rfl | (simp; done))
    | dsimp only [x]
    | split

theorem State.holdStream_kept (s : State) (held : Bool) (hs : Kept msk ref s) (hm : 18692 &&& msk = 18692) : Kept msk ref (State.holdStream s held) := by
  unfold State.holdStream
  repeat' first
    | with_reducible assumption
    | exact mask_sub hm rfl
    | with_reducible apply State.beginFrom_kept
    | with_reducible apply State.count_kept
    | with_reducible apply State.forEach_kept
    | with_reducible apply State.onChan_kept
    | with_reducible apply State.onQueue_kept
    | (intro x; refine (fun (hx : Kept msk ref x) => ?_) ?_; on_goal 1 => clear_value x)
    | (intro x; refine (fun (hx : Kept msk ref x.1) => ?_) ?_; on_goal 1 => clear_value x)
    | (intro x; refine (fun (hx : Kept msk ref x.2) => ?_) ?_; on_goal 1 => clear_value x)
    | (intro x; clear_value x)
    | lift_lets
    | dsimp only
    | with_reducible apply ite_kept
    | intro _ _ _
    | intro _ _
    | fail_if_no_progress (with_reducible refine mk_kept ?_ rfl rfl rfl rfl rfl rfl rfl hm)

theorem State.setFlushBusy_kept (s : State) (g : Nat) (b : Bool) (hs : Kept msk ref s) (hm : 4 &&& msk = 4) : Kept msk ref (State.setFlushBusy s g b) := by
  unfold State.setFlushBusy
  repeat' first
    | with_reducible assumption
    | exact mask_sub hm rfl
    | with_reducible apply State.wr_kept

theorem State.doFlushDone_kept (s : State) (g : Nat) (hs : Kept msk ref s) (hm : 260 &&& msk = 260) : Kept msk ref (State.doFlushDone s g) := by
  unfold State.doFlushDone
  repeat' first
    | with_reducible assumption
    | exact mask_sub hm rfl
    | with_reducible apply State.onQueue_kept
    | with_reducible apply State.satAdd_kept
    | with_reducible apply State.setFlushBusy_kept
    | (intro x; refine (fun (hx : Kept msk ref x) => ?_) ?_; on_goal 1 => clear_value x)
    | (intro x; refine (fun (hx : Kept msk ref x.1) => ?_) ?_; on_goal 1 => clear_value x)
    | (intro x; refine (fun (hx : Kept msk ref x.2) => ?_) ?_; on_goal 1 => clear_value x)
    | (intro x; clear_value x)
    | lift_lets
    | dsimp only
    | with_reducible apply ite_kept

theorem State.doQueueFlush_kept (s : State) (g : Nat) (hs : Kept msk ref s) (hm : 2097924 &&& msk = 2097924) : Kept msk ref (State.doQueueFlush s g) := by
  unfold State.doQueueFlush
  repeat' first
    | with_reducible assumption
    | exact mask_sub hm rfl
    | with_reducible apply State.count_kept
    | with_reducible apply State.discardTags_kept
    | with_reducible apply State.doFlushDone_kept
    | with_reducible apply State.flushOne_kept
    | with_reducible apply State.forEach_kept
    | with_reducible apply State.onQueue_kept
    | with_reducible apply State.setFlushBusy_kept
    | (intro x; refine (fun (hx : Kept msk ref x) => ?_) ?_; on_goal 1 => clear_value x)
    | (intro x; refine (fun (hx : Kept msk ref x.1) => ?_) ?_; on_goal 1 => clear_value x)
    | (intro x; refine (fun (hx : Kept msk ref x.2) => ?_) ?_; on_goal 1 => clear_value x)
    | (intro x; clear_value x)
    | lift_lets
    | dsimp only
    | with_reducible apply ite_kept
    | intro _ _ _

theorem State.doDrop3_kept (s : State) (hs : Kept msk ref s) (hm : 260 &&& msk = 260) : Kept msk ref (State.doDrop3 s) := by
  unfold State.doDrop3
  repeat' first
    | with_reducible assumption
    | exact mask_sub hm rfl
    | with_reducible apply State.flag_kept
    | with_reducible apply State.onQueue_kept
    | with_reducible apply State.wr_kept
    | dsimp only
    | with_reducible apply ite_kept

theorem State.doDrop3Done_kept (s : State) (hs : Kept msk ref s) (hm : 324 &&& msk = 324) : Kept msk ref (State.doDrop3Done s) := by
  unfold State.doDrop3Done
  repeat' first
    | with_reducible assumption
    | exact mask_sub hm rfl
    | with_reducible apply State.endPacket_kept
    | with_reducible apply State.flag_kept
    | with_reducible apply State.satAdd_kept
    | with_reducible apply State.wr_kept
    | (intro x; refine (fun (hx : Kept msk ref x) => ?_) ?_; on_goal 1 => clear_value x)
    | lift_lets
    | dsimp only
    | with_reducible apply ite_kept

theorem State.doHwmReset_kept (s : State) (q : Nat) (hs : Kept msk ref s) (hm : 4 &&& msk = 4) : Kept msk ref (State.doHwmReset s q) := by
  unfold State.doHwmReset
  repeat' first
    | with_reducible assumption
    | exact mask_sub hm rfl
    | with_reducible apply State.wr_kept

theorem swapRange_wf (lo hi : Nat) (a b : Table Word) (ha : tableWf coldWord a = true) (hb : tableWf coldWord b = true) :
    tableWf coldWord (swapRange lo hi a b) = true := by
  rw [tableWf_iff] at *
  unfold swapRange
  refine ⟨?_, ?_⟩
  · intro p hp
    simp only [List.append_assoc, List.mem_append, List.mem_filter] at hp
    rcases hp with hp | hp | hp
    · exact ha.1 p hp.1
    · exact hb.1 p hp.1
    · exact ha.1 p hp.1
  · simp only [List.append_assoc, List.pairwise_append, List.mem_append, List.mem_filter, decide_eq_true_eq]
    refine ⟨ha.2.filter _, ⟨hb.2.filter _, ha.2.filter _, ?_⟩, ?_⟩
    · intro p hp q hq; omega
    · rintro p hp q (hq | hq) <;> omega
theorem State.swapBanks_kept (s : State) (lo hi : Nat) (h : Kept msk ref s) (hm : 12 &&& msk = 12) : Kept msk ref (s.swapBanks lo hi) :=
  ⟨swapRange_wf lo hi _ _ h.regs h.banks, swapRange_wf lo hi _ _ h.banks h.regs, h.ports, h.que, h.lanes, h.chans,
    h.regions, only_trans h.only hm rfl⟩

theorem State.onWch_kept (s : State) (f : Wch → Wch) (hs : Kept msk ref s) (hm : 262144 &&& msk = 262144) : Kept msk ref (State.onWch s f) := by
  unfold State.onWch
  repeat' first
    | with_reducible assumption
    | exact mask_sub hm rfl
    | dsimp only
    | intro _ _ _
    | intro _ _
    | fail_if_no_progress (with_reducible refine mk_kept ?_ rfl rfl rfl rfl rfl rfl rfl hm)

theorem State.onWchan_kept (s : State) (ch : Nat) (f : WChan → WChan) (hs : Kept msk ref s) (hm : 262144 &&& msk = 262144) : Kept msk ref (State.onWchan s ch f) := by
  unfold State.onWchan
  repeat' first
    | with_reducible assumption
    | exact mask_sub hm rfl
    | with_reducible apply State.onWch_kept

theorem State.prime_kept (s : State) (ch : Nat) (hs : Kept msk ref s) (hm : 262148 &&& msk = 262148) : Kept msk ref (State.prime s ch) := by
  unfold State.prime
  repeat' first
    | with_reducible assumption
    | exact mask_sub hm rfl
    | with_reducible apply State.onWchan_kept
    | with_reducible apply State.wr_kept

theorem State.feedTokens_kept (s : State) (m : Nat) (hs : Kept msk ref s) (hm : 262144 &&& msk = 262144) : Kept msk ref (State.feedTokens s m) := by
  unfold State.feedTokens
  repeat' first
    | with_reducible assumption
    | exact mask_sub hm rfl
    | with_reducible apply State.onWch_kept
    | (intro x; refine (fun (hx : Kept msk ref x) => ?_) ?_; on_goal 1 => clear_value x)
    | (intro x; refine (fun (hx : Kept msk ref x.1) => ?_) ?_; on_goal 1 => clear_value x)
    | (intro x; refine (fun (hx : Kept msk ref x.2) => ?_) ?_; on_goal 1 => clear_value x)
    | (intro x; clear_value x)
    | lift_lets
    | dsimp only
    | with_reducible apply ite_kept

theorem State.sendRecord_kept (s : State) (event : Nat) (rec_ : Bool → List LWord) (hs : Kept msk ref s) (hm : 262982 &&& msk = 262982) : Kept msk ref (State.sendRecord s event rec_).2 := by
  unfold State.sendRecord
  repeat' first
    | with_reducible assumption
    | exact mask_sub hm rfl
    | with_reducible apply State.count_kept
    | with_reducible apply State.flag_kept
    | with_reducible apply State.onWch_kept
    | with_reducible apply State.push_kept
    | with_reducible apply State.satAdd_kept
    | (intro x; refine (fun (hx : Kept msk ref x) => ?_) ?_; on_goal 1 => clear_value x)
    | (intro x; refine (fun (hx : Kept msk ref x.1) => ?_) ?_; on_goal 1 => clear_value x)
    | (intro x; refine (fun (hx : Kept msk ref x.2) => ?_) ?_; on_goal 1 => clear_value x)
    | (intro x; clear_value x)
    | lift_lets
    | dsimp only
    | with_reducible apply ite_kept
    | intro _ _ _
    | intro _ _
    | fail_if_no_progress (with_reducible refine mk_kept ?_ rfl rfl rfl rfl rfl rfl rfl hm)
    | (with_reducible refine mk_sized ?_ rfl rfl ?_ ?_ ?_ ?_ ?_ hm <;> first | with_reducible assumption | with_reducible rfl | (simp; done))
    | split

theorem State.occupancy_kept (s : State) (ch sub m : Nat) (x : Cell) (hs : Kept msk ref s) (hm : 787270 &&& msk = 787270) : Kept msk ref (State.occupancy s ch sub m x) := by
  unfold State.occupancy
  repeat' first
    | with_reducible assumption
    | exact mask_sub hm rfl
    | with_reducible apply State.propose_kept
    | with_reducible apply State.sendRecord_kept
    | (intro x; refine (fun (hx : Kept msk ref x) => ?_) ?_; on_goal 1 => clear_value x)
    | (intro x; refine (fun (hx : Kept msk ref x.1) => ?_) ?_; on_goal 1 => clear_value x)
    | (intro x; refine (fun (hx : Kept msk ref x.2) => ?_) ?_; on_goal 1 => clear_value x)
    | (intro x; clear_value x)
    | lift_lets
    | dsimp only
    | with_reducible apply ite_kept
    | intro _ _ _
    | intro _ _
    | fail_if_no_progress (with_reducible refine mk_kept ?_ rfl rfl rfl rfl rfl rfl rfl hm)
    | (with_reducible refine mk_sized ?_ rfl rfl ?_ ?_ ?_ ?_ ?_ hm <;> first | with_reducible assumption | with_reducible rfl | (simp; done))
    | split

theorem State.mapCells_kept (s : State) (ch : Nat) (f : Nat → Cell → Cell) (hs : Kept msk ref s) (hm : 262144 &&& msk = 262144) : Kept msk ref (State.mapCells s ch f) := by
  unfold State.mapCells
  repeat' first
    | with_reducible assumption
    | exact mask_sub hm rfl
    | with_reducible apply State.onWch_kept

theorem State.cellFrame_kept (s : State) (r : FrameRec) (hs : Kept msk ref s) (hm : 787270 &&& msk = 787270) : Kept msk ref (State.cellFrame s r) := by
  unfold State.cellFrame
  repeat' first
    | with_reducible assumption
    | exact mask_sub hm rfl
    | with_reducible apply State.forEach_kept
    | with_reducible apply State.mapCells_kept
    | with_reducible apply State.mark_kept
    | with_reducible apply State.occupancy_kept
    | with_reducible apply State.onWchan_kept
    | with_reducible apply State.prime_kept
    | with_reducible apply State.wrB_kept
    | with_reducible apply State.wr_kept
    | (intro x; refine (fun (hx : Kept msk ref x) => ?_) ?_; on_goal 1 => clear_value x)
    | (intro x; refine (fun (hx : Kept msk ref x.1) => ?_) ?_; on_goal 1 => clear_value x)
    | (intro x; refine (fun (hx : Kept msk ref x.2) => ?_) ?_; on_goal 1 => clear_value x)
    | (intro x; clear_value x)
    | lift_lets
    | dsimp only
    | with_reducible apply ite_kept
    | intro _ _ _

theorem State.onMaskRun_kept (s : State) (ch n : Nat) (f : MaskRun → MaskRun) (hs : Kept msk ref s) (hm : 262144 &&& msk = 262144) : Kept msk ref (State.onMaskRun s ch n f) := by
  unfold State.onMaskRun
  repeat' first
    | with_reducible assumption
    | exact mask_sub hm rfl
    | with_reducible apply State.onWch_kept

theorem State.maskEnter_kept (s : State) (ch n m : Nat) (hs : Kept msk ref s) (hm : 803654 &&& msk = 803654) : Kept msk ref (State.maskEnter s ch n m) := by
  unfold State.maskEnter
  repeat' first
    | with_reducible assumption
    | exact mask_sub hm rfl
    | with_reducible apply State.flag_kept
    | with_reducible apply State.onChan_kept
    | with_reducible apply State.propose_kept
    | with_reducible apply State.sendRecord_kept
    | with_reducible apply State.wr_kept
    | (intro x; refine (fun (hx : Kept msk ref x) => ?_) ?_; on_goal 1 => clear_value x)
    | lift_lets
    | dsimp only
    | with_reducible apply ite_kept

theorem State.maskExit_kept (s : State) (ch n m reason : Nat) (hs : Kept msk ref s) (hm : 279366 &&& msk = 279366) : Kept msk ref (State.maskExit s ch n m reason) := by
  unfold State.maskExit
  repeat' first
    | with_reducible assumption
    | exact mask_sub hm rfl
    | with_reducible apply State.onChan_kept
    | with_reducible apply State.onMaskRun_kept
    | with_reducible apply State.sendRecord_kept
    | with_reducible apply State.wr_kept

theorem State.maskTest_kept (s : State) (r : FrameRec) (n : Nat) (hs : Kept msk ref s) (hm : 803654 &&& msk = 803654) : Kept msk ref (State.maskTest s r n) := by
  unfold State.maskTest
  repeat' first
    | with_reducible assumption
    | exact mask_sub hm rfl
    | with_reducible apply State.mark_kept
    | with_reducible apply State.maskEnter_kept
    | with_reducible apply State.maskExit_kept
    | with_reducible apply State.onMaskRun_kept
    | (intro x; refine (fun (hx : Kept msk ref x) => ?_) ?_; on_goal 1 => clear_value x)
    | (intro x; refine (fun (hx : Kept msk ref x.1) => ?_) ?_; on_goal 1 => clear_value x)
    | (intro x; refine (fun (hx : Kept msk ref x.2) => ?_) ?_; on_goal 1 => clear_value x)
    | (intro x; clear_value x)
    | lift_lets
    | dsimp only
    | with_reducible apply ite_kept

theorem State.maskFrame_kept (s : State) (r : FrameRec) (hs : Kept msk ref s) (hm : 803654 &&& msk = 803654) : Kept msk ref (State.maskFrame s r) := by
  unfold State.maskFrame
  repeat' first
    | with_reducible assumption
    | exact mask_sub hm rfl
    | with_reducible apply State.forEach_kept
    | with_reducible apply State.mark_kept
    | with_reducible apply State.maskTest_kept
    | dsimp only
    | with_reducible apply ite_kept
    | intro _ _ _

theorem State.clearMasks_kept (s : State) (ch m reason : Nat) (hs : Kept msk ref s) (hm : 279366 &&& msk = 279366) : Kept msk ref (State.clearMasks s ch m reason) := by
  unfold State.clearMasks
  repeat' first
    | with_reducible assumption
    | exact mask_sub hm rfl
    | with_reducible apply State.forEach_kept
    | with_reducible apply State.maskExit_kept
    | with_reducible apply State.onMaskRun_kept
    | dsimp only
    | with_reducible apply ite_kept
    | intro _ _ _

theorem State.wchSync_kept (s : State) (hs : Kept msk ref s) (hm : 279366 &&& msk = 279366) : Kept msk ref (State.wchSync s) := by
  unfold State.wchSync
  repeat' first
    | with_reducible assumption
    | exact mask_sub hm rfl
    | with_reducible apply State.clearMasks_kept
    | with_reducible apply State.count_kept
    | with_reducible apply State.forEach_kept
    | with_reducible apply State.wr_kept
    | dsimp only
    | with_reducible apply ite_kept
    | intro _ _ _

theorem State.showSwaps_kept (s : State) (hs : Kept msk ref s) (hm : 4 &&& msk = 4) : Kept msk ref (State.showSwaps s) := by
  unfold State.showSwaps
  repeat' first
    | with_reducible assumption
    | exact mask_sub hm rfl
    | with_reducible apply State.wrB_kept

theorem State.doSegSwap_kept (s : State) (hs : Kept msk ref s) (hm : 262148 &&& msk = 262148) : Kept msk ref (State.doSegSwap s) := by
  unfold State.doSegSwap
  repeat' first
    | with_reducible assumption
    | exact mask_sub hm rfl
    | with_reducible apply State.count_kept
    | with_reducible apply State.onWch_kept
    | with_reducible apply State.showSwaps_kept

theorem State.segSwapNow_kept (s : State) (hs : Kept msk ref s) (hm : 262670 &&& msk = 262670) : Kept msk ref (State.segSwapNow s) := by
  unfold State.segSwapNow
  repeat' first
    | with_reducible assumption
    | exact mask_sub hm rfl
    | with_reducible apply State.configFault_kept
    | with_reducible apply State.onWch_kept
    | with_reducible apply State.showSwaps_kept
    | with_reducible apply State.swapBanks_kept
    | with_reducible apply State.wr_kept
    | (intro x; refine (fun (hx : Kept msk ref x) => ?_) ?_; on_goal 1 => clear_value x)
    | lift_lets
    | dsimp only
    | intro _ _ _
    | intro _ _
    | fail_if_no_progress (with_reducible refine mk_kept ?_ rfl rfl rfl rfl rfl rfl rfl hm)
    | (with_reducible refine mk_sized ?_ rfl rfl ?_ ?_ ?_ ?_ ?_ hm <;> first | with_reducible assumption | with_reducible rfl | (simp; done))
    | dsimp only [x]
    | split

theorem State.doMaskSwap_kept (s : State) (hs : Kept msk ref s) (hm : 262148 &&& msk = 262148) : Kept msk ref (State.doMaskSwap s) := by
  unfold State.doMaskSwap
  repeat' first
    | with_reducible assumption
    | exact mask_sub hm rfl
    | with_reducible apply State.count_kept
    | with_reducible apply State.onWch_kept
    | with_reducible apply State.showSwaps_kept

theorem State.maskSwapNow_kept (s : State) (n : Nat) (hs : Kept msk ref s) (hm : 279374 &&& msk = 279374) : Kept msk ref (State.maskSwapNow s n) := by
  unfold State.maskSwapNow
  repeat' first
    | with_reducible assumption
    | exact mask_sub hm rfl
    | with_reducible apply State.clearMasks_kept
    | with_reducible apply State.configFault_kept
    | with_reducible apply State.forEach_kept
    | with_reducible apply State.onWch_kept
    | with_reducible apply State.showSwaps_kept
    | with_reducible apply State.swapBanks_kept
    | with_reducible apply State.wr_kept
    | (intro x; refine (fun (hx : Kept msk ref x) => ?_) ?_; on_goal 1 => clear_value x)
    | lift_lets
    | dsimp only
    | with_reducible apply ite_kept
    | intro _ _ _

theorem State.frameRecords_kept (s : State) (m : Nat) (hs : Kept msk ref s) (hm : 934726 &&& msk = 934726) : Kept msk ref (State.frameRecords s m) := by
  unfold State.frameRecords
  repeat' first
    | with_reducible assumption
    | exact mask_sub hm rfl
    | with_reducible apply State.cellFrame_kept
    | with_reducible apply State.feedTokens_kept
    | with_reducible apply State.forEach_kept
    | with_reducible apply State.maskFrame_kept
    | (intro x; refine (fun (hx : Kept msk ref x) => ?_) ?_; on_goal 1 => clear_value x)
    | (intro x; refine (fun (hx : Kept msk ref x.1) => ?_) ?_; on_goal 1 => clear_value x)
    | (intro x; refine (fun (hx : Kept msk ref x.2) => ?_) ?_; on_goal 1 => clear_value x)
    | (intro x; clear_value x)
    | lift_lets
    | dsimp only
    | intro _ _ _
    | intro _ _
    | fail_if_no_progress (with_reducible refine mk_kept ?_ rfl rfl rfl rfl rfl rfl rfl hm)

theorem State.swapsBefore_kept (s : State) (m : Nat) (hs : Kept msk ref s) (hm : 279374 &&& msk = 279374) : Kept msk ref (State.swapsBefore s m) := by
  unfold State.swapsBefore
  repeat' first
    | with_reducible assumption
    | exact mask_sub hm rfl
    | with_reducible apply State.maskSwapNow_kept
    | with_reducible apply State.segSwapNow_kept
    | (intro x; refine (fun (hx : Kept msk ref x) => ?_) ?_; on_goal 1 => clear_value x)
    | lift_lets
    | dsimp only
    | with_reducible apply ite_kept
    | intro _ _ _
    | intro _ _
    | dsimp only [x]
    | split

theorem State.doFrameRecord_kept (s : State) (hs : Kept msk ref s) (hm : 934734 &&& msk = 934734) : Kept msk ref (State.doFrameRecord s) := by
  unfold State.doFrameRecord
  repeat' first
    | with_reducible assumption
    | exact mask_sub hm rfl
    | with_reducible apply State.frameRecords_kept
    | with_reducible apply State.swapsBefore_kept
    | dsimp only
    | intro _ _ _
    | intro _ _
    | split

theorem State.drainBefore_kept (s : State) (n : Nat) (fuel : Nat) (hs : Kept msk ref s) (hm : 934734 &&& msk = 934734) : Kept msk ref (State.drainBefore s n fuel) := by
  induction fuel generalizing s with
  | zero => exact hs
  | succ fuel ih =>
  unfold State.drainBefore
  repeat' first
    | with_reducible assumption
    | exact mask_sub hm rfl
    | with_reducible apply State.doFrameRecord_kept
    | with_reducible apply ih
    | dsimp only
    | with_reducible apply ite_kept
    | intro _ _ _
    | intro _ _
    | split

theorem State.doSegSwapApply_kept (s : State) (hs : Kept msk ref s) (hm : 934750 &&& msk = 934750) : Kept msk ref (State.doSegSwapApply s) := by
  unfold State.doSegSwapApply
  repeat' first
    | with_reducible assumption
    | exact mask_sub hm rfl
    | with_reducible apply State.drainBefore_kept
    | with_reducible apply State.segSwapNow_kept
    | with_reducible apply State.toCount_kept
    | (intro x; refine (fun (hx : Kept msk ref x) => ?_) ?_; on_goal 1 => clear_value x)
    | lift_lets
    | dsimp only
    | with_reducible apply ite_kept
    | intro _ _ _
    | intro _ _
    | dsimp only [x]
    | split

theorem State.doMaskSwapApply_kept (s : State) (hs : Kept msk ref s) (hm : 934750 &&& msk = 934750) : Kept msk ref (State.doMaskSwapApply s) := by
  unfold State.doMaskSwapApply
  repeat' first
    | with_reducible assumption
    | exact mask_sub hm rfl
    | with_reducible apply State.drainBefore_kept
    | with_reducible apply State.maskSwapNow_kept
    | with_reducible apply State.toCount_kept
    | (intro x; refine (fun (hx : Kept msk ref x) => ?_) ?_; on_goal 1 => clear_value x)
    | lift_lets
    | dsimp only
    | with_reducible apply ite_kept
    | intro _ _ _
    | intro _ _
    | dsimp only [x]
    | split

theorem State.doKChange_kept (s : State) (ch k : Nat) (hs : Kept msk ref s) (hm : 262148 &&& msk = 262148) : Kept msk ref (State.doKChange s ch k) := by
  unfold State.doKChange
  repeat' first
    | with_reducible assumption
    | exact mask_sub hm rfl
    | with_reducible apply State.onWchan_kept
    | with_reducible apply State.wr_kept
    | (intro x; refine (fun (hx : Kept msk ref x) => ?_) ?_; on_goal 1 => clear_value x)
    | (intro x; refine (fun (hx : Kept msk ref x.1) => ?_) ?_; on_goal 1 => clear_value x)
    | (intro x; refine (fun (hx : Kept msk ref x.2) => ?_) ?_; on_goal 1 => clear_value x)
    | (intro x; clear_value x)
    | lift_lets
    | dsimp only
    | with_reducible apply ite_kept

theorem State.cellError_kept (s : State) (ch sub : Nat) (correctable : Bool) (hs : Kept msk ref s) (hm : 262662 &&& msk = 262662) : Kept msk ref (State.cellError s ch sub correctable) := by
  unfold State.cellError
  repeat' first
    | with_reducible assumption
    | exact mask_sub hm rfl
    | with_reducible apply State.count_kept
    | with_reducible apply State.onWch_kept
    | with_reducible apply State.onWchan_kept
    | with_reducible apply State.prime_kept
    | with_reducible apply State.report_kept
    | with_reducible apply State.satAdd_kept
    | (intro x; refine (fun (hx : Kept msk ref x) => ?_) ?_; on_goal 1 => clear_value x)
    | lift_lets
    | dsimp only
    | with_reducible apply ite_kept
    | intro _ _ _
    | intro _ _
    | fail_if_no_progress (with_reducible refine mk_kept ?_ rfl rfl rfl rfl rfl rfl rfl hm)

theorem State.doEccSweep_kept (s : State) (ch sub errors : Nat) (hs : Kept msk ref s) (hm : 262662 &&& msk = 262662) : Kept msk ref (State.doEccSweep s ch sub errors) := by
  unfold State.doEccSweep
  repeat' first
    | with_reducible assumption
    | exact mask_sub hm rfl
    | with_reducible apply State.cellError_kept
    | dsimp only
    | with_reducible apply ite_kept

theorem State.wchRestart_kept (s : State) (hs : Kept msk ref s) (hm : 262148 &&& msk = 262148) : Kept msk ref (State.wchRestart s) := by
  unfold State.wchRestart
  repeat' first
    | with_reducible assumption
    | exact mask_sub hm rfl
    | with_reducible apply State.forEach_kept
    | with_reducible apply State.mapCells_kept
    | with_reducible apply State.prime_kept
    | dsimp only
    | intro _ _ _

theorem State.formSkew_kept (s : State) (ch n : Nat) (hs : Kept msk ref s) (hm : 16902 &&& msk = 16902) : Kept msk ref (State.formSkew s ch n) := by
  unfold State.formSkew
  repeat' first
    | with_reducible assumption
    | exact mask_sub hm rfl
    | with_reducible apply State.configFault_kept
    | with_reducible apply State.mark_kept
    | with_reducible apply State.onChan_kept
    | with_reducible apply State.wrB_kept
    | with_reducible apply State.wrS_kept
    | (intro x; refine (fun (hx : Kept msk ref x) => ?_) ?_; on_goal 1 => clear_value x)
    | (intro x; refine (fun (hx : Kept msk ref x.1) => ?_) ?_; on_goal 1 => clear_value x)
    | (intro x; refine (fun (hx : Kept msk ref x.2) => ?_) ?_; on_goal 1 => clear_value x)
    | (intro x; clear_value x)
    | lift_lets
    | dsimp only
    | with_reducible apply ite_kept

theorem State.applySkew_kept (s : State) (ch n : Nat) (host phase : Bool) (hs : Kept msk ref s) (hm : 16902 &&& msk = 16902) : Kept msk ref (State.applySkew s ch n host phase) := by
  unfold State.applySkew
  repeat' first
    | with_reducible assumption
    | exact mask_sub hm rfl
    | with_reducible apply State.formSkew_kept
    | with_reducible apply State.onChan_kept
    | with_reducible apply State.wrB_kept

theorem State.doSkewWrite_kept (s : State) (ch : Nat) (w : Word) (ns : Nat) (hs : Kept msk ref s) (hm : 16388 &&& msk = 16388) : Kept msk ref (State.doSkewWrite s ch w ns) := by
  unfold State.doSkewWrite
  repeat' first
    | with_reducible assumption
    | exact mask_sub hm rfl
    | with_reducible apply State.onChan_kept
    | with_reducible apply State.wrS_kept
    | with_reducible apply State.wr_kept
    | (intro x; refine (fun (hx : Kept msk ref x) => ?_) ?_; on_goal 1 => clear_value x)
    | (intro x; refine (fun (hx : Kept msk ref x.1) => ?_) ?_; on_goal 1 => clear_value x)
    | (intro x; refine (fun (hx : Kept msk ref x.2) => ?_) ?_; on_goal 1 => clear_value x)
    | (intro x; clear_value x)
    | lift_lets
    | dsimp only
    | with_reducible apply ite_kept

theorem State.phaseChanged_kept (s : State) (r : Nat) (hs : Kept msk ref s) (hm : 16388 &&& msk = 16388) : Kept msk ref (State.phaseChanged s r) := by
  unfold State.phaseChanged
  repeat' first
    | with_reducible assumption
    | exact mask_sub hm rfl
    | with_reducible apply State.count_kept
    | with_reducible apply State.forEach_kept
    | with_reducible apply State.onChan_kept
    | with_reducible apply State.wr_kept
    | (intro x; refine (fun (hx : Kept msk ref x) => ?_) ?_; on_goal 1 => clear_value x)
    | (intro x; refine (fun (hx : Kept msk ref x.1) => ?_) ?_; on_goal 1 => clear_value x)
    | (intro x; refine (fun (hx : Kept msk ref x.2) => ?_) ?_; on_goal 1 => clear_value x)
    | (intro x; clear_value x)
    | lift_lets
    | dsimp only
    | with_reducible apply ite_kept
    | intro _ _ _

theorem State.doSkewApply_kept (s : State) (ch : Nat) (hs : Kept msk ref s) (hm : 16918 &&& msk = 16918) : Kept msk ref (State.doSkewApply s ch) := by
  unfold State.doSkewApply
  repeat' first
    | with_reducible assumption
    | exact mask_sub hm rfl
    | with_reducible apply State.applySkew_kept
    | with_reducible apply State.toCount_kept
    | (intro x; refine (fun (hx : Kept msk ref x) => ?_) ?_; on_goal 1 => clear_value x)
    | (intro x; refine (fun (hx : Kept msk ref x.1) => ?_) ?_; on_goal 1 => clear_value x)
    | (intro x; refine (fun (hx : Kept msk ref x.2) => ?_) ?_; on_goal 1 => clear_value x)
    | (intro x; clear_value x)
    | lift_lets
    | dsimp only
    | intro _ _ _
    | intro _ _
    | dsimp only [x]
    | split

theorem State.scheduleNotch_kept (s : State) (j settle n : Nat) (hs : Kept msk ref s) (hm : 16388 &&& msk = 16388) : Kept msk ref (State.scheduleNotch s j settle n) := by
  unfold State.scheduleNotch
  repeat' first
    | with_reducible assumption
    | exact mask_sub hm rfl
    | with_reducible apply State.onChan_kept
    | with_reducible apply State.wr_kept

theorem State.doNotchWrite_kept (s : State) (j : Nat) (w : Word) (ns : Nat) (hs : Kept msk ref s) (hm : 16902 &&& msk = 16902) : Kept msk ref (State.doNotchWrite s j w ns) := by
  unfold State.doNotchWrite
  repeat' first
    | with_reducible assumption
    | exact mask_sub hm rfl
    | with_reducible apply State.configFault_kept
    | with_reducible apply State.scheduleNotch_kept
    | with_reducible apply State.wrB_kept
    | with_reducible apply State.wr_kept
    | (intro x; refine (fun (hx : Kept msk ref x) => ?_) ?_; on_goal 1 => clear_value x)
    | (intro x; refine (fun (hx : Kept msk ref x.1) => ?_) ?_; on_goal 1 => clear_value x)
    | (intro x; refine (fun (hx : Kept msk ref x.2) => ?_) ?_; on_goal 1 => clear_value x)
    | (intro x; clear_value x)
    | lift_lets
    | dsimp only
    | with_reducible apply ite_kept

theorem State.doNotchBwWrite_kept (s : State) (j : Nat) (w : Word) (ns : Nat) (hs : Kept msk ref s) (hm : 16902 &&& msk = 16902) : Kept msk ref (State.doNotchBwWrite s j w ns) := by
  unfold State.doNotchBwWrite
  repeat' first
    | with_reducible assumption
    | exact mask_sub hm rfl
    | with_reducible apply State.configFault_kept
    | with_reducible apply State.scheduleNotch_kept
    | with_reducible apply State.wr_kept
    | (intro x; refine (fun (hx : Kept msk ref x) => ?_) ?_; on_goal 1 => clear_value x)
    | (intro x; refine (fun (hx : Kept msk ref x.1) => ?_) ?_; on_goal 1 => clear_value x)
    | (intro x; refine (fun (hx : Kept msk ref x.2) => ?_) ?_; on_goal 1 => clear_value x)
    | (intro x; clear_value x)
    | lift_lets
    | dsimp only
    | with_reducible apply ite_kept

theorem State.showNotches_kept (s : State) (ch : Nat) (hs : Kept msk ref s) (hm : 4 &&& msk = 4) : Kept msk ref (State.showNotches s ch) := by
  unfold State.showNotches
  repeat' first
    | with_reducible assumption
    | exact mask_sub hm rfl
    | with_reducible apply State.forEach_kept
    | with_reducible apply State.wrB_kept
    | dsimp only
    | intro _ _ _

theorem State.applyNotch_kept (s : State) (ch n : Nat) (p : Nat × List NotchChg) (hs : Kept msk ref s) (hm : 16388 &&& msk = 16388) : Kept msk ref (State.applyNotch s ch n p) := by
  unfold State.applyNotch
  repeat' first
    | with_reducible assumption
    | exact mask_sub hm rfl
    | with_reducible apply State.mark_kept
    | with_reducible apply State.onChan_kept
    | with_reducible apply State.showNotches_kept

theorem State.doNotchApply_kept (s : State) (ch : Nat) (hs : Kept msk ref s) (hm : 16404 &&& msk = 16404) : Kept msk ref (State.doNotchApply s ch) := by
  unfold State.doNotchApply
  repeat' first
    | with_reducible assumption
    | exact mask_sub hm rfl
    | with_reducible apply State.applyNotch_kept
    | with_reducible apply State.toCount_kept
    | dsimp only
    | with_reducible apply ite_kept
    | intro _ _ _
    | intro _ _
    | split

theorem State.roadBlock_kept (s : State) (ch n : Nat) (ys : List Int) (hs : Kept msk ref s) (hm : 16384 &&& msk = 16384) : Kept msk ref (State.roadBlock s ch n ys) := by
  unfold State.roadBlock
  repeat' first
    | with_reducible assumption
    | exact mask_sub hm rfl
    | with_reducible apply State.onChan_kept

theorem State.scheduleChain_kept (s : State) (ch decim order : Nat) (swap : Bool) (n : Nat) (hs : Kept msk ref s) (hm : 16388 &&& msk = 16388) : Kept msk ref (State.scheduleChain s ch decim order swap n) := by
  unfold State.scheduleChain
  repeat' first
    | with_reducible assumption
    | exact mask_sub hm rfl
    | with_reducible apply State.onChan_kept
    | with_reducible apply State.order_kept
    | with_reducible apply State.wr_kept

theorem State.writeChain_kept (s : State) (ch decim order : Nat) (swap : Bool) (ns : Nat) (hs : Kept msk ref s) (hm : 16902 &&& msk = 16902) : Kept msk ref (State.writeChain s ch decim order swap ns) := by
  unfold State.writeChain
  repeat' first
    | with_reducible assumption
    | exact mask_sub hm rfl
    | with_reducible apply State.admitFault_kept
    | with_reducible apply State.configFault_kept
    | with_reducible apply State.judge_kept
    | with_reducible apply State.order_kept
    | with_reducible apply State.scheduleChain_kept
    | with_reducible apply State.wr_kept
    | (intro x; refine (fun (hx : Kept msk ref x) => ?_) ?_; on_goal 1 => clear_value x)
    | (intro x; refine (fun (hx : Kept msk ref x.1) => ?_) ?_; on_goal 1 => clear_value x)
    | (intro x; refine (fun (hx : Kept msk ref x.2) => ?_) ?_; on_goal 1 => clear_value x)
    | (intro x; clear_value x)
    | lift_lets
    | dsimp only
    | with_reducible apply ite_kept
    | intro _ _ _
    | intro _ _

theorem State.doFirSwap_kept (s : State) (ch ns : Nat) (hs : Kept msk ref s) (hm : 16902 &&& msk = 16902) : Kept msk ref (State.doFirSwap s ch ns) := by
  unfold State.doFirSwap
  repeat' first
    | with_reducible assumption
    | exact mask_sub hm rfl
    | with_reducible apply State.writeChain_kept

theorem State.doChainWrite_kept (s : State) (ch decim order ns : Nat) (hs : Kept msk ref s) (hm : 16902 &&& msk = 16902) : Kept msk ref (State.doChainWrite s ch decim order ns) := by
  unfold State.doChainWrite
  repeat' first
    | with_reducible assumption
    | exact mask_sub hm rfl
    | with_reducible apply State.order_kept
    | with_reducible apply State.writeChain_kept

theorem State.applyChain_kept (s : State) (ch n : Nat) (p : Nat × Bool × Nat × Nat) (hs : Kept msk ref s) (hm : 16388 &&& msk = 16388) : Kept msk ref (State.applyChain s ch n p) := by
  unfold State.applyChain
  repeat' first
    | with_reducible assumption
    | exact mask_sub hm rfl
    | with_reducible apply State.mark_kept
    | with_reducible apply State.onChan_kept
    | with_reducible apply State.order_kept
    | with_reducible apply State.wrB_kept
    | with_reducible apply State.wr_kept

theorem State.doChainApply_kept (s : State) (ch : Nat) (hs : Kept msk ref s) (hm : 16404 &&& msk = 16404) : Kept msk ref (State.doChainApply s ch) := by
  unfold State.doChainApply
  repeat' first
    | with_reducible assumption
    | exact mask_sub hm rfl
    | with_reducible apply State.applyChain_kept
    | with_reducible apply State.toCount_kept
    | dsimp only
    | with_reducible apply ite_kept
    | intro _ _ _
    | intro _ _
    | split

theorem State.writeFir_kept (s : State) (i : Nat) (w : Word) (hs : Kept msk ref s) (hm : 518 &&& msk = 518) : Kept msk ref (State.writeFir s i w) := by
  unfold State.writeFir
  repeat' first
    | with_reducible assumption
    | exact mask_sub hm rfl
    | with_reducible apply State.configFault_kept
    | with_reducible apply State.wr_kept
    | (intro x; refine (fun (hx : Kept msk ref x) => ?_) ?_; on_goal 1 => clear_value x)
    | (intro x; refine (fun (hx : Kept msk ref x.1) => ?_) ?_; on_goal 1 => clear_value x)
    | (intro x; refine (fun (hx : Kept msk ref x.2) => ?_) ?_; on_goal 1 => clear_value x)
    | (intro x; clear_value x)
    | lift_lets
    | dsimp only
    | with_reducible apply ite_kept

theorem State.chnSync_kept (s : State) (hs : Kept msk ref s) (hm : 410438 &&& msk = 410438) : Kept msk ref (State.chnSync s) := by
  unfold State.chnSync
  repeat' first
    | with_reducible assumption
    | exact mask_sub hm rfl
    | with_reducible apply State.count_kept
    | with_reducible apply State.wchSync_kept
    | (intro x; refine (fun (hx : Kept msk ref x) => ?_) ?_; on_goal 1 => clear_value x)
    | (intro x; refine (fun (hx : Kept msk ref x.1) => ?_) ?_; on_goal 1 => clear_value x)
    | (intro x; refine (fun (hx : Kept msk ref x.2) => ?_) ?_; on_goal 1 => clear_value x)
    | (intro x; clear_value x)
    | lift_lets
    | dsimp only
    | with_reducible apply ite_kept
    | intro _ _ _
    | intro _ _
    | fail_if_no_progress (with_reducible refine mk_kept ?_ rfl rfl rfl rfl rfl rfl rfl hm)

theorem State.doChnEnWrite_kept (s : State) (en : Bool) (hs : Kept msk ref s) (hm : 410438 &&& msk = 410438) : Kept msk ref (State.doChnEnWrite s en) := by
  unfold State.doChnEnWrite
  repeat' first
    | with_reducible assumption
    | exact mask_sub hm rfl
    | with_reducible apply State.chnSync_kept
    | with_reducible apply State.wrB_kept

theorem State.doProtoSwap_kept (s : State) (hs : Kept msk ref s) (hm : 131076 &&& msk = 131076) : Kept msk ref (State.doProtoSwap s) := by
  unfold State.doProtoSwap
  repeat' first
    | with_reducible assumption
    | exact mask_sub hm rfl
    | with_reducible apply State.count_kept
    | with_reducible apply State.wr_kept
    | (intro x; refine (fun (hx : Kept msk ref x) => ?_) ?_; on_goal 1 => clear_value x)
    | (intro x; refine (fun (hx : Kept msk ref x.1) => ?_) ?_; on_goal 1 => clear_value x)
    | (intro x; refine (fun (hx : Kept msk ref x.2) => ?_) ?_; on_goal 1 => clear_value x)
    | (intro x; clear_value x)
    | lift_lets
    | dsimp only
    | intro _ _ _
    | intro _ _
    | fail_if_no_progress (with_reducible refine mk_kept ?_ rfl rfl rfl rfl rfl rfl rfl hm)

theorem State.doProtoSwapApply_kept (s : State) (hs : Kept msk ref s) (hm : 131100 &&& msk = 131100) : Kept msk ref (State.doProtoSwapApply s) := by
  unfold State.doProtoSwapApply
  repeat' first
    | with_reducible assumption
    | exact mask_sub hm rfl
    | with_reducible apply State.swapBanks_kept
    | with_reducible apply State.toCount_kept
    | with_reducible apply State.wr_kept
    | (intro x; refine (fun (hx : Kept msk ref x) => ?_) ?_; on_goal 1 => clear_value x)
    | lift_lets
    | dsimp only
    | intro _ _ _
    | intro _ _
    | fail_if_no_progress (with_reducible refine mk_kept ?_ rfl rfl rfl rfl rfl rfl rfl hm)
    | (with_reducible refine mk_sized ?_ rfl rfl ?_ ?_ ?_ ?_ ?_ hm <;> first | with_reducible assumption | with_reducible rfl | (simp; done))
    | dsimp only [x]
    | split

theorem State.doSpectrumFrame_kept (s : State) (ch m : Nat) (ups : List Bool) (hs : Kept msk ref s) (hm : 393238 &&& msk = 393238) : Kept msk ref (State.doSpectrumFrame s ch m ups) := by
  unfold State.doSpectrumFrame
  repeat' first
    | with_reducible assumption
    | exact mask_sub hm rfl
    | with_reducible apply State.feedTokens_kept
    | with_reducible apply State.freeBelow_kept
    | with_reducible apply State.mark_kept
    | with_reducible apply State.toCount_kept
    | with_reducible apply State.wrPair_kept
    | (intro x; refine (fun (hx : Kept msk ref x) => ?_) ?_; on_goal 1 => clear_value x)
    | (intro x; refine (fun (hx : Kept msk ref x.1) => ?_) ?_; on_goal 1 => clear_value x)
    | (intro x; refine (fun (hx : Kept msk ref x.2) => ?_) ?_; on_goal 1 => clear_value x)
    | (intro x; clear_value x)
    | lift_lets
    | dsimp only
    | with_reducible apply ite_kept
    | intro _ _ _
    | intro _ _
    | fail_if_no_progress (with_reducible refine mk_kept ?_ rfl rfl rfl rfl rfl rfl rfl hm)

theorem State.onAdc_kept (s : State) (f : Adc → Adc) (hs : Kept msk ref s) (hm : 65536 &&& msk = 65536) : Kept msk ref (State.onAdc s f) := by
  unfold State.onAdc
  repeat' first
    | with_reducible assumption
    | exact mask_sub hm rfl
    | dsimp only
    | intro _ _ _
    | intro _ _
    | fail_if_no_progress (with_reducible refine mk_kept ?_ rfl rfl rfl rfl rfl rfl rfl hm)

theorem State.putFactors_kept (s : State) (ch : Nat) (vs : List (Nat × Nat)) (hs : Kept msk ref s) (hm : 16388 &&& msk = 16388) : Kept msk ref (State.putFactors s ch vs) := by
  unfold State.putFactors
  repeat' first
    | with_reducible assumption
    | exact mask_sub hm rfl
    | with_reducible apply State.count_kept
    | with_reducible apply State.forEach_kept
    | with_reducible apply State.onChan_kept
    | with_reducible apply State.wr_kept
    | (intro x; refine (fun (hx : Kept msk ref x) => ?_) ?_; on_goal 1 => clear_value x)
    | (intro x; refine (fun (hx : Kept msk ref x.1) => ?_) ?_; on_goal 1 => clear_value x)
    | (intro x; refine (fun (hx : Kept msk ref x.2) => ?_) ?_; on_goal 1 => clear_value x)
    | (intro x; clear_value x)
    | lift_lets
    | dsimp only
    | with_reducible apply ite_kept
    | intro _ _ _

theorem State.loadFactors_kept (s : State) (ch : Nat) (vs : List Nat) (hs : Kept msk ref s) (hm : 16388 &&& msk = 16388) : Kept msk ref (State.loadFactors s ch vs) := by
  unfold State.loadFactors
  repeat' first
    | with_reducible assumption
    | exact mask_sub hm rfl
    | with_reducible apply State.putFactors_kept

theorem State.writeCal_kept (s : State) (i : Nat) (w : Word) (hs : Kept msk ref s) (hm : 16388 &&& msk = 16388) : Kept msk ref (State.writeCal s i w) := by
  unfold State.writeCal
  repeat' first
    | with_reducible assumption
    | exact mask_sub hm rfl
    | with_reducible apply State.putFactors_kept

theorem State.bgBlock_kept (s : State) (ch n : Nat) (xs : List Int) (clips : List Bool) (hs : Kept msk ref s) (hm : 16384 &&& msk = 16384) : Kept msk ref (State.bgBlock s ch n xs clips) := by
  unfold State.bgBlock
  repeat' first
    | with_reducible assumption
    | exact mask_sub hm rfl
    | with_reducible apply State.onChan_kept
    | (intro x; refine (fun (hx : Kept msk ref x) => ?_) ?_; on_goal 1 => clear_value x)
    | (intro x; refine (fun (hx : Kept msk ref x.1) => ?_) ?_; on_goal 1 => clear_value x)
    | (intro x; refine (fun (hx : Kept msk ref x.2) => ?_) ?_; on_goal 1 => clear_value x)
    | (intro x; clear_value x)
    | lift_lets
    | dsimp only
    | with_reducible apply ite_kept

theorem State.bgMove_kept (s : State) (ch : Nat) (errors : List Int) (hs : Kept msk ref s) (hm : 16390 &&& msk = 16390) : Kept msk ref (State.bgMove s ch errors) := by
  unfold State.bgMove
  repeat' first
    | with_reducible assumption
    | exact mask_sub hm rfl
    | with_reducible apply State.freeBelow_kept
    | with_reducible apply State.putFactors_kept

theorem State.doBgWindow_kept (s : State) (ch : Nat) (share spur : Nat) (errors : List Int) (hs : Kept msk ref s) (hm : 16534 &&& msk = 16534) : Kept msk ref (State.doBgWindow s ch share spur errors) := by
  unfold State.doBgWindow
  repeat' first
    | with_reducible assumption
    | exact mask_sub hm rfl
    | with_reducible apply State.bgMove_kept
    | with_reducible apply State.idle_kept
    | with_reducible apply State.onChan_kept
    | with_reducible apply State.toCount_kept
    | with_reducible apply State.wr_kept
    | (intro x; refine (fun (hx : Kept msk ref x) => ?_) ?_; on_goal 1 => clear_value x)
    | (intro x; refine (fun (hx : Kept msk ref x.1) => ?_) ?_; on_goal 1 => clear_value x)
    | (intro x; refine (fun (hx : Kept msk ref x.2) => ?_) ?_; on_goal 1 => clear_value x)
    | (intro x; clear_value x)
    | lift_lets
    | dsimp only
    | with_reducible apply ite_kept
    | intro _ _ _
    | intro _ _
    | fail_if_no_progress (with_reducible refine mk_kept ?_ rfl rfl rfl rfl rfl rfl rfl hm)
    | (with_reducible refine mk_sized ?_ rfl rfl ?_ ?_ ?_ ?_ ?_ hm <;> first | with_reducible assumption | with_reducible rfl | (simp; done))
    | dsimp only [x]
    | split

theorem State.setInjQueue_kept (s : State) (g : Nat) (q : List Inject) (hs : Kept msk ref s) (hm : 65540 &&& msk = 65540) : Kept msk ref (State.setInjQueue s g q) := by
  unfold State.setInjQueue
  repeat' first
    | with_reducible assumption
    | exact mask_sub hm rfl
    | with_reducible apply State.onAdc_kept
    | with_reducible apply State.wr_kept

theorem State.injResult_kept (s : State) (x : Inject) (status : Nat) (hs : Kept msk ref s) (hm : 2 &&& msk = 2) : Kept msk ref (State.injResult s x status).2 := by
  unfold State.injResult
  repeat' first
    | with_reducible assumption
    | exact mask_sub hm rfl
    | with_reducible apply State.freeBelow_kept
    | dsimp only
    | with_reducible apply ite_kept
    | intro _ _ _
    | intro _ _
    | split

theorem State.injComplete_kept (s : State) (x : Inject) (status : Nat) (hs : Kept msk ref s) (hm : 1158 &&& msk = 1158) : Kept msk ref (State.injComplete s x status) := by
  unfold State.injComplete
  repeat' first
    | with_reducible assumption
    | exact mask_sub hm rfl
    | with_reducible apply State.finishCmd_kept
    | with_reducible apply State.forEach_kept
    | with_reducible apply State.injResult_kept
    | with_reducible apply State.wrB_kept
    | with_reducible apply State.wr_kept
    | (intro x; refine (fun (hx : Kept msk ref x) => ?_) ?_; on_goal 1 => clear_value x)
    | (intro x; refine (fun (hx : Kept msk ref x.1) => ?_) ?_; on_goal 1 => clear_value x)
    | (intro x; refine (fun (hx : Kept msk ref x.2) => ?_) ?_; on_goal 1 => clear_value x)
    | (intro x; clear_value x)
    | lift_lets
    | dsimp only
    | with_reducible apply ite_kept
    | intro _ _ _
    | intro _ _
    | dsimp only [x]
    | split

theorem State.clearWindows_kept (s : State) (g : Nat) (hs : Kept msk ref s) (hm : 16384 &&& msk = 16384) : Kept msk ref (State.clearWindows s g) := by
  unfold State.clearWindows
  repeat' first
    | with_reducible assumption
    | exact mask_sub hm rfl
    | with_reducible apply State.forEach_kept
    | with_reducible apply State.moveChanges_kept
    | dsimp only
    | intro _ _ _

theorem State.assignInject_kept (s : State) (g n : Nat) (hs : Kept msk ref s) (hm : 83078 &&& msk = 83078) : Kept msk ref (State.assignInject s g n) := by
  unfold State.assignInject
  repeat' first
    | with_reducible assumption
    | exact mask_sub hm rfl
    | with_reducible apply State.clearWindows_kept
    | with_reducible apply State.forEach_kept
    | with_reducible apply State.injComplete_kept
    | with_reducible apply State.setInjQueue_kept
    | dsimp only
    | with_reducible apply ite_kept
    | intro _ _ _
    | intro _ _
    | fail_if_no_progress (with_reducible refine mk_kept ?_ rfl rfl rfl rfl rfl rfl rfl hm)
    | (with_reducible refine mk_sized ?_ rfl rfl ?_ ?_ ?_ ?_ ?_ hm <;> first | with_reducible assumption | with_reducible rfl | (simp; done))
    | split

theorem State.requestInject_kept (s : State) (x : Inject) (ns : Nat) (hs : Kept msk ref s) (hm : 83078 &&& msk = 83078) : Kept msk ref (State.requestInject s x ns) := by
  unfold State.requestInject
  repeat' first
    | with_reducible assumption
    | exact mask_sub hm rfl
    | with_reducible apply State.assignInject_kept
    | with_reducible apply State.clearWindows_kept
    | with_reducible apply State.count_kept
    | with_reducible apply State.injComplete_kept
    | with_reducible apply State.setInjQueue_kept
    | (intro x; refine (fun (hx : Kept msk ref x) => ?_) ?_; on_goal 1 => clear_value x)
    | (intro x; refine (fun (hx : Kept msk ref x.1) => ?_) ?_; on_goal 1 => clear_value x)
    | (intro x; refine (fun (hx : Kept msk ref x.2) => ?_) ?_; on_goal 1 => clear_value x)
    | (intro x; clear_value x)
    | lift_lets
    | dsimp only
    | intro _ _ _
    | intro _ _
    | fail_if_no_progress (with_reducible refine mk_kept ?_ rfl rfl rfl rfl rfl rfl rfl hm)
    | (with_reducible refine mk_sized ?_ rfl rfl ?_ ?_ ?_ ?_ ?_ hm <;> first | with_reducible assumption | with_reducible rfl | (simp; done))
    | dsimp only [x]
    | split

theorem State.doInjectRequest_kept (s : State) (w : Word) (ns : Nat) (hs : Kept msk ref s) (hm : 83078 &&& msk = 83078) : Kept msk ref (State.doInjectRequest s w ns) := by
  unfold State.doInjectRequest
  repeat' first
    | with_reducible assumption
    | exact mask_sub hm rfl
    | with_reducible apply State.requestInject_kept

theorem State.doInjectStart_kept (s : State) (g : Nat) (hs : Kept msk ref s) (hm : 81940 &&& msk = 81940) : Kept msk ref (State.doInjectStart s g) := by
  unfold State.doInjectStart
  repeat' first
    | with_reducible assumption
    | exact mask_sub hm rfl
    | with_reducible apply State.forEach_kept
    | with_reducible apply State.mark_kept
    | with_reducible apply State.setInjQueue_kept
    | with_reducible apply State.toCount_kept
    | (intro x; refine (fun (hx : Kept msk ref x) => ?_) ?_; on_goal 1 => clear_value x)
    | lift_lets
    | dsimp only
    | with_reducible apply ite_kept
    | intro _ _ _
    | intro _ _
    | fail_if_no_progress (with_reducible refine mk_kept ?_ rfl rfl rfl rfl rfl rfl rfl hm)
    | (with_reducible refine mk_sized ?_ rfl rfl ?_ ?_ ?_ ?_ ?_ hm <;> first | with_reducible assumption | with_reducible rfl | (simp; done))
    | dsimp only [x]
    | split

theorem State.popInject_kept (s : State) (g status n : Nat) (hs : Kept msk ref s) (hm : 83078 &&& msk = 83078) : Kept msk ref (State.popInject s g status n) := by
  unfold State.popInject
  repeat' first
    | with_reducible assumption
    | exact mask_sub hm rfl
    | with_reducible apply State.assignInject_kept
    | with_reducible apply State.injComplete_kept
    | with_reducible apply State.setInjQueue_kept
    | dsimp only
    | intro _ _ _
    | intro _ _
    | split

theorem State.endWindow_kept (s : State) (g : Nat) (x : Inject) (n : Nat) (hs : Kept msk ref s) (hm : 83094 &&& msk = 83094) : Kept msk ref (State.endWindow s g x n) := by
  unfold State.endWindow
  repeat' first
    | with_reducible assumption
    | exact mask_sub hm rfl
    | with_reducible apply State.forEach_kept
    | with_reducible apply State.mark_kept
    | with_reducible apply State.onSource_kept
    | with_reducible apply State.popInject_kept
    | with_reducible apply State.toCount_kept
    | (intro x; refine (fun (hx : Kept msk ref x) => ?_) ?_; on_goal 1 => clear_value x)
    | (intro x; refine (fun (hx : Kept msk ref x.1) => ?_) ?_; on_goal 1 => clear_value x)
    | (intro x; refine (fun (hx : Kept msk ref x.2) => ?_) ?_; on_goal 1 => clear_value x)
    | (intro x; clear_value x)
    | lift_lets
    | dsimp only
    | intro _ _ _

theorem State.doInjectComplete_kept (s : State) (g : Nat) (hs : Kept msk ref s) (hm : 83094 &&& msk = 83094) : Kept msk ref (State.doInjectComplete s g) := by
  unfold State.doInjectComplete
  repeat' first
    | with_reducible assumption
    | exact mask_sub hm rfl
    | with_reducible apply State.endWindow_kept
    | dsimp only
    | with_reducible apply ite_kept
    | intro _ _ _
    | intro _ _
    | split

theorem State.doSkewCal_kept (s : State) (mask ns : Nat) (hs : Kept msk ref s) (hm : 83078 &&& msk = 83078) : Kept msk ref (State.doSkewCal s mask ns) := by
  unfold State.doSkewCal
  repeat' first
    | with_reducible assumption
    | exact mask_sub hm rfl
    | with_reducible apply State.forEach_kept
    | with_reducible apply State.requestInject_kept
    | with_reducible apply State.wr_kept
    | (intro x; refine (fun (hx : Kept msk ref x) => ?_) ?_; on_goal 1 => clear_value x)
    | lift_lets
    | dsimp only
    | intro _ _ _

theorem State.doSkewCalComplete_kept (s : State) (g : Nat) (meas : List Int) (hs : Kept msk ref s) (hm : 83094 &&& msk = 83094) : Kept msk ref (State.doSkewCalComplete s g meas) := by
  unfold State.doSkewCalComplete
  repeat' first
    | with_reducible assumption
    | exact mask_sub hm rfl
    | with_reducible apply State.endWindow_kept
    | with_reducible apply State.forEach_kept
    | with_reducible apply State.toCount_kept
    | with_reducible apply State.wrS_kept
    | with_reducible apply State.wr_kept
    | (intro x; refine (fun (hx : Kept msk ref x) => ?_) ?_; on_goal 1 => clear_value x)
    | lift_lets
    | dsimp only
    | with_reducible apply ite_kept
    | intro _ _ _
    | intro _ _
    | dsimp only [x]
    | split

theorem State.dropInjects_kept (s : State) (g running waiting n : Nat) (hs : Kept msk ref s) (hm : 83078 &&& msk = 83078) : Kept msk ref (State.dropInjects s g running waiting n) := by
  unfold State.dropInjects
  repeat' first
    | with_reducible assumption
    | exact mask_sub hm rfl
    | with_reducible apply State.forEach_kept
    | with_reducible apply State.injComplete_kept
    | with_reducible apply State.onSource_kept
    | with_reducible apply State.setInjQueue_kept
    | (intro x; refine (fun (hx : Kept msk ref x) => ?_) ?_; on_goal 1 => clear_value x)
    | (intro x; refine (fun (hx : Kept msk ref x.1) => ?_) ?_; on_goal 1 => clear_value x)
    | (intro x; refine (fun (hx : Kept msk ref x.2) => ?_) ?_; on_goal 1 => clear_value x)
    | (intro x; clear_value x)
    | lift_lets
    | dsimp only
    | with_reducible apply ite_kept
    | intro _ _ _

theorem State.onReh_kept (s : State) (r : Nat) (f : Reh → Reh) (hs : Kept msk ref s) (hm : 65536 &&& msk = 65536) : Kept msk ref (State.onReh s r f) := by
  unfold State.onReh
  repeat' first
    | with_reducible assumption
    | exact mask_sub hm rfl
    | with_reducible apply State.onAdc_kept

theorem State.doSourceFault_kept (s : State) (g : Nat) (hs : Kept msk ref s) (hm : 87686 &&& msk = 87686) : Kept msk ref (State.doSourceFault s g) := by
  unfold State.doSourceFault
  repeat' first
    | with_reducible assumption
    | exact mask_sub hm rfl
    | with_reducible apply State.forEach_kept
    | with_reducible apply State.injComplete_kept
    | with_reducible apply State.loadFactors_kept
    | with_reducible apply State.onPlane_kept
    | with_reducible apply State.report_kept
    | with_reducible apply State.setInjQueue_kept
    | (intro x; refine (fun (hx : Kept msk ref x) => ?_) ?_; on_goal 1 => clear_value x)
    | (intro x; refine (fun (hx : Kept msk ref x.1) => ?_) ?_; on_goal 1 => clear_value x)
    | (intro x; refine (fun (hx : Kept msk ref x.2) => ?_) ?_; on_goal 1 => clear_value x)
    | (intro x; clear_value x)
    | lift_lets
    | dsimp only
    | with_reducible apply ite_kept
    | intro _ _ _

theorem State.setRehBusy_kept (s : State) (r : Nat) (b : Bool) (hs : Kept msk ref s) (hm : 4 &&& msk = 4) : Kept msk ref (State.setRehBusy s r b) := by
  unfold State.setRehBusy
  repeat' first
    | with_reducible assumption
    | exact mask_sub hm rfl
    | with_reducible apply State.wr_kept

theorem State.startRehearsal_kept (s : State) (r ns : Nat) (hs : Kept msk ref s) (hm : 65540 &&& msk = 65540) : Kept msk ref (State.startRehearsal s r ns) := by
  unfold State.startRehearsal
  repeat' first
    | with_reducible assumption
    | exact mask_sub hm rfl
    | with_reducible apply State.flag_kept
    | with_reducible apply State.onReh_kept
    | with_reducible apply State.setRehBusy_kept
    | with_reducible apply State.wr_kept
    | (intro x; refine (fun (hx : Kept msk ref x) => ?_) ?_; on_goal 1 => clear_value x)
    | (intro x; refine (fun (hx : Kept msk ref x.1) => ?_) ?_; on_goal 1 => clear_value x)
    | (intro x; refine (fun (hx : Kept msk ref x.2) => ?_) ?_; on_goal 1 => clear_value x)
    | (intro x; clear_value x)
    | lift_lets
    | dsimp only
    | with_reducible apply ite_kept
    | intro _ _ _
    | intro _ _
    | fail_if_no_progress (with_reducible refine mk_kept ?_ rfl rfl rfl rfl rfl rfl rfl hm)
    | (with_reducible refine mk_sized ?_ rfl rfl ?_ ?_ ?_ ?_ ?_ hm <;> first | with_reducible assumption | with_reducible rfl | (simp; done))
    | dsimp only [x]
    | split

theorem State.doRehearsalStart_kept (s : State) (mask ns : Nat) (hs : Kept msk ref s) (hm : 66054 &&& msk = 66054) : Kept msk ref (State.doRehearsalStart s mask ns) := by
  unfold State.doRehearsalStart
  repeat' first
    | with_reducible assumption
    | exact mask_sub hm rfl
    | with_reducible apply State.configFault_kept
    | with_reducible apply State.forEach_kept
    | with_reducible apply State.startRehearsal_kept
    | dsimp only
    | with_reducible apply ite_kept
    | intro _ _ _

theorem State.doRehearsalConnect_kept (s : State) (r : Nat) (hs : Kept msk ref s) (hm : 81936 &&& msk = 81936) : Kept msk ref (State.doRehearsalConnect s r) := by
  unfold State.doRehearsalConnect
  repeat' first
    | with_reducible assumption
    | exact mask_sub hm rfl
    | with_reducible apply State.forEach_kept
    | with_reducible apply State.mark_kept
    | with_reducible apply State.onReh_kept
    | with_reducible apply State.toCount_kept
    | (intro x; refine (fun (hx : Kept msk ref x) => ?_) ?_; on_goal 1 => clear_value x)
    | (intro x; refine (fun (hx : Kept msk ref x.1) => ?_) ?_; on_goal 1 => clear_value x)
    | (intro x; refine (fun (hx : Kept msk ref x.2) => ?_) ?_; on_goal 1 => clear_value x)
    | (intro x; clear_value x)
    | lift_lets
    | dsimp only
    | with_reducible apply ite_kept
    | intro _ _ _

theorem State.phaseEnd_kept (s : State) (r phase : Nat) (hs : Kept msk ref s) (hm : 81924 &&& msk = 81924) : Kept msk ref (State.phaseEnd s r phase) := by
  unfold State.phaseEnd
  repeat' first
    | with_reducible assumption
    | exact mask_sub hm rfl
    | with_reducible apply State.forEach_kept
    | with_reducible apply State.onReh_kept
    | with_reducible apply State.phaseChanged_kept
    | with_reducible apply State.putFactors_kept
    | with_reducible apply State.wrS_kept
    | with_reducible apply State.wr_kept
    | (intro x; refine (fun (hx : Kept msk ref x) => ?_) ?_; on_goal 1 => clear_value x)
    | (intro x; refine (fun (hx : Kept msk ref x.1) => ?_) ?_; on_goal 1 => clear_value x)
    | (intro x; refine (fun (hx : Kept msk ref x.2) => ?_) ?_; on_goal 1 => clear_value x)
    | (intro x; clear_value x)
    | lift_lets
    | dsimp only
    | with_reducible apply ite_kept
    | intro _ _ _

theorem State.doRehearsalPhase_kept (s : State) (r : Nat) (meas : List Int) (hs : Kept msk ref s) (hm : 81940 &&& msk = 81940) : Kept msk ref (State.doRehearsalPhase s r meas) := by
  unfold State.doRehearsalPhase
  repeat' first
    | with_reducible assumption
    | exact mask_sub hm rfl
    | with_reducible apply State.onReh_kept
    | with_reducible apply State.phaseEnd_kept
    | with_reducible apply State.toCount_kept
    | (intro x; refine (fun (hx : Kept msk ref x) => ?_) ?_; on_goal 1 => clear_value x)
    | (intro x; refine (fun (hx : Kept msk ref x.1) => ?_) ?_; on_goal 1 => clear_value x)
    | (intro x; refine (fun (hx : Kept msk ref x.2) => ?_) ?_; on_goal 1 => clear_value x)
    | (intro x; clear_value x)
    | lift_lets
    | dsimp only
    | with_reducible apply ite_kept

theorem State.releaseRehearsal_kept (s : State) (r n : Nat) (hs : Kept msk ref s) (hm : 83078 &&& msk = 83078) : Kept msk ref (State.releaseRehearsal s r n) := by
  unfold State.releaseRehearsal
  repeat' first
    | with_reducible assumption
    | exact mask_sub hm rfl
    | with_reducible apply State.assignInject_kept
    | with_reducible apply State.flag_kept
    | with_reducible apply State.forEach_kept
    | with_reducible apply State.onReh_kept
    | with_reducible apply State.releaseRange_kept
    | with_reducible apply State.setRehBusy_kept
    | (intro x; refine (fun (hx : Kept msk ref x) => ?_) ?_; on_goal 1 => clear_value x)
    | lift_lets
    | dsimp only
    | intro _ _ _

theorem State.doRehearsalReconnect_kept (s : State) (r : Nat) (tj : Int) (hs : Kept msk ref s) (hm : 83606 &&& msk = 83606) : Kept msk ref (State.doRehearsalReconnect s r tj) := by
  unfold State.doRehearsalReconnect
  repeat' first
    | with_reducible assumption
    | exact mask_sub hm rfl
    | with_reducible apply State.forEach_kept
    | with_reducible apply State.loadFactors_kept
    | with_reducible apply State.mark_kept
    | with_reducible apply State.onSource_kept
    | with_reducible apply State.pass_kept
    | with_reducible apply State.regPut_kept
    | with_reducible apply State.releaseRehearsal_kept
    | with_reducible apply State.report_kept
    | with_reducible apply State.toCount_kept
    | with_reducible apply State.wrS_kept
    | with_reducible apply State.wr_kept
    | (intro x; refine (fun (hx : Kept msk ref x) => ?_) ?_; on_goal 1 => clear_value x)
    | (intro x; refine (fun (hx : Kept msk ref x.1) => ?_) ?_; on_goal 1 => clear_value x)
    | (intro x; refine (fun (hx : Kept msk ref x.2) => ?_) ?_; on_goal 1 => clear_value x)
    | (intro x; clear_value x)
    | lift_lets
    | dsimp only
    | with_reducible apply ite_kept
    | intro _ _ _

theorem State.stopRehearsal_kept (s : State) (r result n : Nat) (hs : Kept msk ref s) (hm : 83078 &&& msk = 83078) : Kept msk ref (State.stopRehearsal s r result n) := by
  unfold State.stopRehearsal
  repeat' first
    | with_reducible assumption
    | exact mask_sub hm rfl
    | with_reducible apply State.forEach_kept
    | with_reducible apply State.loadFactors_kept
    | with_reducible apply State.onChan_kept
    | with_reducible apply State.phaseChanged_kept
    | with_reducible apply State.regPut_kept
    | with_reducible apply State.releaseRehearsal_kept
    | with_reducible apply State.wr_kept
    | (intro x; refine (fun (hx : Kept msk ref x) => ?_) ?_; on_goal 1 => clear_value x)
    | (intro x; refine (fun (hx : Kept msk ref x.1) => ?_) ?_; on_goal 1 => clear_value x)
    | (intro x; refine (fun (hx : Kept msk ref x.2) => ?_) ?_; on_goal 1 => clear_value x)
    | (intro x; clear_value x)
    | lift_lets
    | dsimp only
    | with_reducible apply ite_kept
    | intro _ _ _

theorem State.doCalSave_kept (s : State) (hs : Kept msk ref s) (hm : 66054 &&& msk = 66054) : Kept msk ref (State.doCalSave s) := by
  unfold State.doCalSave
  repeat' first
    | with_reducible assumption
    | exact mask_sub hm rfl
    | with_reducible apply State.configFault_kept
    | with_reducible apply State.onAdc_kept
    | with_reducible apply State.wr_kept
    | (intro x; refine (fun (hx : Kept msk ref x) => ?_) ?_; on_goal 1 => clear_value x)
    | (intro x; refine (fun (hx : Kept msk ref x.1) => ?_) ?_; on_goal 1 => clear_value x)
    | (intro x; refine (fun (hx : Kept msk ref x.2) => ?_) ?_; on_goal 1 => clear_value x)
    | (intro x; clear_value x)
    | lift_lets
    | dsimp only
    | with_reducible apply ite_kept

theorem State.doCalSaveDone_kept (s : State) (ok : Bool) (hs : Kept msk ref s) (hm : 65540 &&& msk = 65540) : Kept msk ref (State.doCalSaveDone s ok) := by
  unfold State.doCalSaveDone
  repeat' first
    | with_reducible assumption
    | exact mask_sub hm rfl
    | with_reducible apply State.onAdc_kept
    | with_reducible apply State.wrB_kept
    | with_reducible apply State.wr_kept
    | (intro x; refine (fun (hx : Kept msk ref x) => ?_) ?_; on_goal 1 => clear_value x)
    | lift_lets
    | dsimp only
    | intro _ _ _
    | intro _ _
    | fail_if_no_progress (with_reducible refine mk_kept ?_ rfl rfl rfl rfl rfl rfl rfl hm)
    | (with_reducible refine mk_sized ?_ rfl rfl ?_ ?_ ?_ ?_ ?_ hm <;> first | with_reducible assumption | with_reducible rfl | (simp; done))
    | dsimp only [x]
    | split

theorem State.loadCal_kept (s : State) (hs : Kept msk ref s) (hm : 16388 &&& msk = 16388) : Kept msk ref (State.loadCal s) := by
  unfold State.loadCal
  repeat' first
    | with_reducible assumption
    | exact mask_sub hm rfl
    | with_reducible apply State.forEach_kept
    | with_reducible apply State.loadFactors_kept
    | dsimp only
    | intro _ _ _

theorem State.doCalLoad_kept (s : State) (hs : Kept msk ref s) (hm : 16902 &&& msk = 16902) : Kept msk ref (State.doCalLoad s) := by
  unfold State.doCalLoad
  repeat' first
    | with_reducible assumption
    | exact mask_sub hm rfl
    | with_reducible apply State.configFault_kept
    | with_reducible apply State.loadCal_kept
    | dsimp only
    | with_reducible apply ite_kept

theorem State.takePhase_kept (s : State) (r : Nat) (reading : Int) (hs : Kept msk ref s) (hm : 16388 &&& msk = 16388) : Kept msk ref (State.takePhase s r reading) := by
  unfold State.takePhase
  repeat' first
    | with_reducible assumption
    | exact mask_sub hm rfl
    | with_reducible apply State.phaseChanged_kept
    | with_reducible apply State.wrS_kept
    | with_reducible apply State.wr_kept

end Sys2Proof.Machine
end

