-- ==== Sys2Proof/Laws/KeptTraffic.lean ====
section
/-! SUPPORT. Footprints of the operations of readout, faults, time, the data plane, codec, lanes, frames and the Prompter: one lemma for each, which says what it can change and that it
keeps a state sound. -/

namespace Sys2Proof.Machine

set_option Elab.async false

set_option linter.unreachableTactic false
set_option linter.unusedTactic false

variable {msk : Nat} {ref : State}

theorem State.doSnippetStart_kept (s : State) (hs : Kept msk ref s) (hm : 1573702 &&& msk = 1573702) : Kept msk ref (State.doSnippetStart s) := by
  unfold State.doSnippetStart
  repeat' first
    | with_reducible assumption
    | exact mask_sub hm rfl
    | with_reducible apply State.onTrg_kept
    | with_reducible apply State.pushSteered_kept
    | with_reducible apply State.runPort_kept
    | (intro x; refine (fun (hx : Kept msk ref x) => ?_) ?_; on_goal 1 => clear_value x)
    | (intro x; refine (fun (hx : Kept msk ref x.1) => ?_) ?_; on_goal 1 => clear_value x)
    | (intro x; refine (fun (hx : Kept msk ref x.2) => ?_) ?_; on_goal 1 => clear_value x)
    | (intro x; clear_value x)
    | lift_lets
    | dsimp only
    | with_reducible apply ite_kept
    | intro _ _ _
    | intro _ _
    | fail_if_no_progress (with_reducible refine mk_kept ?_ rfl rfl rfl rfl rfl rfl rfl hm)
    | (with_reducible refine mk_sized ?_ rfl rfl ?_ ?_ ?_ ?_ ?_ hm <;> first | with_reducible assumption | with_reducible rfl | (simp; done))
    | dsimp only [x]
    | split

theorem State.readSnippet_kept (s : State) (id : Nat) (hs : Kept msk ref s) (hm : 1572880 &&& msk = 1572880) : Kept msk ref (State.readSnippet s id) := by
  unfold State.readSnippet
  repeat' first
    | with_reducible assumption
    | exact mask_sub hm rfl
    | with_reducible apply State.runPortTo_kept

theorem State.doSnippetComplete_kept (s : State) (id size : Nat) (bad : Upsets) (hs : Kept msk ref s) (hm : 1573718 &&& msk = 1573718) : Kept msk ref (State.doSnippetComplete s id size bad) := by
  unfold State.doSnippetComplete
  repeat' first
    | with_reducible assumption
    | exact mask_sub hm rfl
    | with_reducible apply State.endSnippet_kept
    | with_reducible apply State.onTrg_kept
    | with_reducible apply State.readSnippet_kept
    | with_reducible apply State.showJobs_kept
    | (intro x; refine (fun (hx : Kept msk ref x) => ?_) ?_; on_goal 1 => clear_value x)
    | (intro x; refine (fun (hx : Kept msk ref x.1) => ?_) ?_; on_goal 1 => clear_value x)
    | (intro x; refine (fun (hx : Kept msk ref x.2) => ?_) ?_; on_goal 1 => clear_value x)
    | (intro x; clear_value x)
    | lift_lets
    | dsimp only
    | with_reducible apply ite_kept
    | intro _ _ _
    | intro _ _
    | fail_if_no_progress (with_reducible refine mk_kept ?_ rfl rfl rfl rfl rfl rfl rfl hm)
    | (with_reducible refine mk_sized ?_ rfl rfl ?_ ?_ ?_ ?_ ?_ hm <;> first | with_reducible assumption | with_reducible rfl | (simp; done))
    | dsimp only [x]
    | split

theorem State.pushAnswer_kept (s : State) (req status reason first blocks skipped map : Nat) (hs : Kept msk ref s) (hm : 838 &&& msk = 838) : Kept msk ref (State.pushAnswer s req status reason first blocks skipped map) := by
  unfold State.pushAnswer
  repeat' first
    | with_reducible assumption
    | exact mask_sub hm rfl
    | with_reducible apply State.count_kept
    | with_reducible apply State.pushSteered_kept

theorem State.doReadoutRequest_kept (s : State) (req len t map : Nat) (hs : Kept msk ref s) (hm : 1573702 &&& msk = 1573702) : Kept msk ref (State.doReadoutRequest s req len t map) := by
  unfold State.doReadoutRequest
  repeat' first
    | with_reducible assumption
    | exact mask_sub hm rfl
    | with_reducible apply State.count_kept
    | with_reducible apply State.onTrg_kept
    | with_reducible apply State.pushAnswer_kept
    | with_reducible apply State.runPort_kept
    | with_reducible apply State.satAdd_kept
    | with_reducible apply State.showJobs_kept
    | (intro x; refine (fun (hx : Kept msk ref x) => ?_) ?_; on_goal 1 => clear_value x)
    | (intro x; refine (fun (hx : Kept msk ref x.1) => ?_) ?_; on_goal 1 => clear_value x)
    | (intro x; refine (fun (hx : Kept msk ref x.2) => ?_) ?_; on_goal 1 => clear_value x)
    | (intro x; clear_value x)
    | lift_lets
    | dsimp only
    | with_reducible apply ite_kept

theorem State.readReadout_kept (s : State) (req : Nat) (hs : Kept msk ref s) (hm : 1572880 &&& msk = 1572880) : Kept msk ref (State.readReadout s req) := by
  unfold State.readReadout
  repeat' first
    | with_reducible assumption
    | exact mask_sub hm rfl
    | with_reducible apply State.runPortTo_kept

theorem State.doReadoutComplete_kept (s : State) (req size : Nat) (bad : Upsets) (hs : Kept msk ref s) (hm : 1573718 &&& msk = 1573718) : Kept msk ref (State.doReadoutComplete s req size bad) := by
  unfold State.doReadoutComplete
  repeat' first
    | with_reducible assumption
    | exact mask_sub hm rfl
    | with_reducible apply State.endReadout_kept
    | with_reducible apply State.onTrg_kept
    | with_reducible apply State.readReadout_kept
    | with_reducible apply State.showJobs_kept
    | (intro x; refine (fun (hx : Kept msk ref x) => ?_) ?_; on_goal 1 => clear_value x)
    | (intro x; refine (fun (hx : Kept msk ref x.1) => ?_) ?_; on_goal 1 => clear_value x)
    | (intro x; refine (fun (hx : Kept msk ref x.2) => ?_) ?_; on_goal 1 => clear_value x)
    | (intro x; clear_value x)
    | lift_lets
    | dsimp only
    | with_reducible apply ite_kept
    | intro _ _ _
    | intro _ _
    | fail_if_no_progress (with_reducible refine mk_kept ?_ rfl rfl rfl rfl rfl rfl rfl hm)
    | (with_reducible refine mk_sized ?_ rfl rfl ?_ ?_ ?_ ?_ ?_ hm <;> first | with_reducible assumption | with_reducible rfl | (simp; done))
    | dsimp only [x]
    | split

theorem State.diagRead_kept (s : State) (n : Nat) (hs : Kept msk ref s) (hm : 1572864 &&& msk = 1572864) : Kept msk ref (State.diagRead s n) := by
  unfold State.diagRead
  repeat' first
    | with_reducible assumption
    | exact mask_sub hm rfl
    | with_reducible apply State.onTrg_kept
    | with_reducible apply State.runPort_kept
    | dsimp only
    | with_reducible apply ite_kept

theorem State.onFau_kept (s : State) (f : Fau → Fau) (hs : Kept msk ref s) (hm : 512 &&& msk = 512) : Kept msk ref (State.onFau s f) := by
  unfold State.onFau
  repeat' first
    | with_reducible assumption
    | exact mask_sub hm rfl
    | dsimp only
    | intro _ _ _
    | intro _ _
    | fail_if_no_progress (with_reducible refine mk_kept ?_ rfl rfl rfl rfl rfl rfl rfl hm)

theorem State.doFaultReport_kept (s : State) (code place detail : Nat) (hs : Kept msk ref s) (hm : 518 &&& msk = 518) : Kept msk ref (State.doFaultReport s code place detail) := by
  unfold State.doFaultReport
  repeat' first
    | with_reducible assumption
    | exact mask_sub hm rfl
    | with_reducible apply State.onInc_kept
    | with_reducible apply State.report_kept
    | (intro x; refine (fun (hx : Kept msk ref x) => ?_) ?_; on_goal 1 => clear_value x)
    | (intro x; refine (fun (hx : Kept msk ref x.1) => ?_) ?_; on_goal 1 => clear_value x)
    | (intro x; refine (fun (hx : Kept msk ref x.2) => ?_) ?_; on_goal 1 => clear_value x)
    | (intro x; clear_value x)
    | lift_lets
    | dsimp only
    | with_reducible apply ite_kept
    | intro _ _ _
    | intro _ _
    | fail_if_no_progress (with_reducible refine mk_kept ?_ rfl rfl rfl rfl rfl rfl rfl hm)
    | (with_reducible refine mk_sized ?_ rfl rfl ?_ ?_ ?_ ?_ ?_ hm <;> first | with_reducible assumption | with_reducible rfl | (simp; done))
    | dsimp only [x]
    | split

theorem State.closeInc_kept (s : State) (e : Nat) (hs : Kept msk ref s) (hm : 516 &&& msk = 516) : Kept msk ref (State.closeInc s e) := by
  unfold State.closeInc
  repeat' first
    | with_reducible assumption
    | exact mask_sub hm rfl
    | with_reducible apply State.onInc_kept
    | with_reducible apply State.wr_kept
    | (intro x; refine (fun (hx : Kept msk ref x) => ?_) ?_; on_goal 1 => clear_value x)
    | (intro x; refine (fun (hx : Kept msk ref x.1) => ?_) ?_; on_goal 1 => clear_value x)
    | (intro x; refine (fun (hx : Kept msk ref x.2) => ?_) ?_; on_goal 1 => clear_value x)
    | (intro x; clear_value x)
    | lift_lets
    | dsimp only
    | with_reducible apply ite_kept

theorem State.doHoldExpiry_kept (s : State) (e : Nat) (hs : Kept msk ref s) (hm : 528 &&& msk = 528) : Kept msk ref (State.doHoldExpiry s e) := by
  unfold State.doHoldExpiry
  repeat' first
    | with_reducible assumption
    | exact mask_sub hm rfl
    | with_reducible apply State.onInc_kept
    | with_reducible apply State.toTick_kept
    | (intro x; refine (fun (hx : Kept msk ref x) => ?_) ?_; on_goal 1 => clear_value x)
    | (intro x; refine (fun (hx : Kept msk ref x.1) => ?_) ?_; on_goal 1 => clear_value x)
    | (intro x; refine (fun (hx : Kept msk ref x.2) => ?_) ?_; on_goal 1 => clear_value x)
    | (intro x; clear_value x)
    | lift_lets
    | dsimp only
    | with_reducible apply ite_kept

theorem State.doCloseTimer_kept (s : State) (e : Nat) (cleared : Bool) (hs : Kept msk ref s) (hm : 532 &&& msk = 532) : Kept msk ref (State.doCloseTimer s e cleared) := by
  unfold State.doCloseTimer
  repeat' first
    | with_reducible assumption
    | exact mask_sub hm rfl
    | with_reducible apply State.closeInc_kept
    | with_reducible apply State.toTick_kept
    | (intro x; refine (fun (hx : Kept msk ref x) => ?_) ?_; on_goal 1 => clear_value x)
    | (intro x; refine (fun (hx : Kept msk ref x.1) => ?_) ?_; on_goal 1 => clear_value x)
    | (intro x; refine (fun (hx : Kept msk ref x.2) => ?_) ?_; on_goal 1 => clear_value x)
    | (intro x; clear_value x)
    | lift_lets
    | dsimp only
    | with_reducible apply ite_kept

theorem State.sendIncident_kept (s : State) (e : Nat) (hs : Kept msk ref s) (hm : 854 &&& msk = 854) : Kept msk ref (State.sendIncident s e) := by
  unfold State.sendIncident
  repeat' first
    | with_reducible assumption
    | exact mask_sub hm rfl
    | with_reducible apply State.count_kept
    | with_reducible apply State.onFau_kept
    | with_reducible apply State.onInc_kept
    | with_reducible apply State.push_kept
    | with_reducible apply State.toCount_kept
    | (intro x; refine (fun (hx : Kept msk ref x) => ?_) ?_; on_goal 1 => clear_value x)
    | (intro x; refine (fun (hx : Kept msk ref x.1) => ?_) ?_; on_goal 1 => clear_value x)
    | (intro x; refine (fun (hx : Kept msk ref x.2) => ?_) ?_; on_goal 1 => clear_value x)
    | (intro x; clear_value x)
    | lift_lets
    | dsimp only
    | intro _ _ _
    | intro _ _
    | fail_if_no_progress (with_reducible refine mk_kept ?_ rfl rfl rfl rfl rfl rfl rfl hm)
    | (with_reducible refine mk_sized ?_ rfl rfl ?_ ?_ ?_ ?_ ?_ hm <;> first | with_reducible assumption | with_reducible rfl | (simp; done))
    | dsimp only [x]
    | split

theorem State.doReportSend_kept (s : State) (e : Nat) (hs : Kept msk ref s) (hm : 854 &&& msk = 854) : Kept msk ref (State.doReportSend s e) := by
  unfold State.doReportSend
  repeat' first
    | with_reducible assumption
    | exact mask_sub hm rfl
    | with_reducible apply State.sendIncident_kept
    | with_reducible apply State.toTick_kept
    | (intro x; refine (fun (hx : Kept msk ref x) => ?_) ?_; on_goal 1 => clear_value x)
    | (intro x; refine (fun (hx : Kept msk ref x.1) => ?_) ?_; on_goal 1 => clear_value x)
    | (intro x; refine (fun (hx : Kept msk ref x.2) => ?_) ?_; on_goal 1 => clear_value x)
    | (intro x; clear_value x)
    | lift_lets
    | dsimp only
    | with_reducible apply ite_kept
    | intro _ _ _
    | intro _ _
    | dsimp only [x]
    | split

theorem State.doStationReport_kept (s : State) (e : Nat) (hs : Kept msk ref s) (hm : 854 &&& msk = 854) : Kept msk ref (State.doStationReport s e) := by
  unfold State.doStationReport
  repeat' first
    | with_reducible assumption
    | exact mask_sub hm rfl
    | with_reducible apply State.sendIncident_kept
    | with_reducible apply State.toCount_kept
    | (intro x; refine (fun (hx : Kept msk ref x) => ?_) ?_; on_goal 1 => clear_value x)
    | (intro x; refine (fun (hx : Kept msk ref x.1) => ?_) ?_; on_goal 1 => clear_value x)
    | (intro x; refine (fun (hx : Kept msk ref x.2) => ?_) ?_; on_goal 1 => clear_value x)
    | (intro x; clear_value x)
    | lift_lets
    | dsimp only
    | with_reducible apply ite_kept

theorem State.doClose_kept (s : State) (e : Nat) (hs : Kept msk ref s) (hm : 516 &&& msk = 516) : Kept msk ref (State.doClose s e) := by
  unfold State.doClose
  repeat' first
    | with_reducible assumption
    | exact mask_sub hm rfl
    | with_reducible apply State.closeInc_kept
    | with_reducible apply State.onFau_kept
    | (intro x; refine (fun (hx : Kept msk ref x) => ?_) ?_; on_goal 1 => clear_value x)
    | (intro x; refine (fun (hx : Kept msk ref x.1) => ?_) ?_; on_goal 1 => clear_value x)
    | (intro x; refine (fun (hx : Kept msk ref x.2) => ?_) ?_; on_goal 1 => clear_value x)
    | (intro x; clear_value x)
    | lift_lets
    | dsimp only
    | with_reducible apply ite_kept

theorem State.reportAgain_kept (s : State) (hs : Kept msk ref s) (hm : 518 &&& msk = 518) : Kept msk ref (State.reportAgain s) := by
  unfold State.reportAgain
  repeat' first
    | with_reducible assumption
    | exact mask_sub hm rfl
    | with_reducible apply State.forEach_kept
    | with_reducible apply State.onFau_kept
    | with_reducible apply State.report_kept
    | (intro x; refine (fun (hx : Kept msk ref x) => ?_) ?_; on_goal 1 => clear_value x)
    | (intro x; refine (fun (hx : Kept msk ref x.1) => ?_) ?_; on_goal 1 => clear_value x)
    | (intro x; refine (fun (hx : Kept msk ref x.2) => ?_) ?_; on_goal 1 => clear_value x)
    | (intro x; clear_value x)
    | lift_lets
    | dsimp only
    | intro _ _ _

theorem State.doPurgePrevious_kept (s : State) (hs : Kept msk ref s) (hm : 512 &&& msk = 512) : Kept msk ref (State.doPurgePrevious s) := by
  unfold State.doPurgePrevious
  repeat' first
    | with_reducible assumption
    | exact mask_sub hm rfl
    | with_reducible apply State.onFau_kept

theorem State.doTelemetry_kept (s : State) (hs : Kept msk ref s) (hm : 854 &&& msk = 854) : Kept msk ref (State.doTelemetry s) := by
  unfold State.doTelemetry
  repeat' first
    | with_reducible assumption
    | exact mask_sub hm rfl
    | with_reducible apply State.onFau_kept
    | with_reducible apply State.push_kept
    | with_reducible apply State.toCount_kept
    | (intro x; refine (fun (hx : Kept msk ref x) => ?_) ?_; on_goal 1 => clear_value x)
    | (intro x; refine (fun (hx : Kept msk ref x.1) => ?_) ?_; on_goal 1 => clear_value x)
    | (intro x; refine (fun (hx : Kept msk ref x.2) => ?_) ?_; on_goal 1 => clear_value x)
    | (intro x; clear_value x)
    | lift_lets
    | dsimp only
    | with_reducible apply ite_kept

theorem State.setTimState_kept (s : State) (n : Nat) (hs : Kept msk ref s) (hm : 4 &&& msk = 4) : Kept msk ref (State.setTimState s n) := by
  unfold State.setTimState
  repeat' first
    | with_reducible assumption
    | exact mask_sub hm rfl
    | with_reducible apply State.wr_kept

theorem State.onTim_kept (s : State) (f : Tim → Tim) (hs : Kept msk ref s) (hm : 64 &&& msk = 64) : Kept msk ref (State.onTim s f) := by
  unfold State.onTim
  repeat' first
    | with_reducible assumption
    | exact mask_sub hm rfl
    | dsimp only
    | intro _ _ _
    | intro _ _
    | fail_if_no_progress (with_reducible refine mk_kept ?_ rfl rfl rfl rfl rfl rfl rfl hm)

theorem State.setPathGood_kept (s : State) (p : Nat) (b : Bool) (hs : Kept msk ref s) (hm : 4 &&& msk = 4) : Kept msk ref (State.setPathGood s p b) := by
  unfold State.setPathGood
  repeat' first
    | with_reducible assumption
    | exact mask_sub hm rfl
    | with_reducible apply State.wrB_kept
    | dsimp only
    | with_reducible apply ite_kept

theorem State.toTime_kept (s : State) (t : Int) (hs : Kept msk ref s) (hm : 16 &&& msk = 16) : Kept msk ref (State.toTime s t) := by
  unfold State.toTime
  repeat' first
    | with_reducible assumption
    | exact mask_sub hm rfl
    | with_reducible apply State.toCount_kept

theorem State.show32_kept (s : State) (v : Int) (hs : Kept msk ref s) (hm : 2 &&& msk = 2) : Kept msk ref (State.show32 s v).2 := by
  unfold State.show32
  repeat' first
    | with_reducible assumption
    | exact mask_sub hm rfl
    | with_reducible apply State.freeBelow_kept
    | dsimp only
    | with_reducible apply ite_kept
    | intro _ _ _
    | intro _ _
    | split

theorem State.pushRelation_kept (s : State) (r : Relation) (hs : Kept msk ref s) (hm : 838 &&& msk = 838) : Kept msk ref (State.pushRelation s r) := by
  unfold State.pushRelation
  repeat' first
    | with_reducible assumption
    | exact mask_sub hm rfl
    | with_reducible apply State.onTim_kept
    | with_reducible apply State.push_kept

theorem State.decideRebase_kept (s : State) (rate : Int) (step : Int) (stepped : Bool) (hs : Kept msk ref s) (hm : 838 &&& msk = 838) : Kept msk ref (State.decideRebase s rate step stepped) := by
  unfold State.decideRebase
  repeat' first
    | with_reducible assumption
    | exact mask_sub hm rfl
    | with_reducible apply State.count_kept
    | with_reducible apply State.onTim_kept
    | with_reducible apply State.pushRelation_kept

theorem State.doRebase_kept (s : State) (hs : Kept msk ref s) (hm : 80 &&& msk = 80) : Kept msk ref (State.doRebase s) := by
  unfold State.doRebase
  repeat' first
    | with_reducible assumption
    | exact mask_sub hm rfl
    | with_reducible apply State.onTim_kept
    | with_reducible apply State.toCount_kept
    | (intro x; refine (fun (hx : Kept msk ref x) => ?_) ?_; on_goal 1 => clear_value x)
    | (intro x; refine (fun (hx : Kept msk ref x.1) => ?_) ?_; on_goal 1 => clear_value x)
    | (intro x; refine (fun (hx : Kept msk ref x.2) => ?_) ?_; on_goal 1 => clear_value x)
    | (intro x; clear_value x)
    | lift_lets
    | dsimp only
    | intro _ _ _
    | intro _ _
    | fail_if_no_progress (with_reducible refine mk_kept ?_ rfl rfl rfl rfl rfl rfl rfl hm)
    | (with_reducible refine mk_sized ?_ rfl rfl ?_ ?_ ?_ ?_ ?_ hm <;> first | with_reducible assumption | with_reducible rfl | (simp; done))
    | dsimp only [x]
    | split

theorem State.relationNow_kept (s : State) (n : Nat) (offset : Int) (tnom : Nat) (hs : Kept msk ref s) (hm : 838 &&& msk = 838) : Kept msk ref (State.relationNow s n offset tnom) := by
  unfold State.relationNow
  repeat' first
    | with_reducible assumption
    | exact mask_sub hm rfl
    | with_reducible apply State.onTim_kept
    | with_reducible apply State.pushRelation_kept

theorem State.doRelationRepeat_kept (s : State) (hs : Kept msk ref s) (hm : 838 &&& msk = 838) : Kept msk ref (State.doRelationRepeat s) := by
  unfold State.doRelationRepeat
  repeat' first
    | with_reducible assumption
    | exact mask_sub hm rfl
    | with_reducible apply State.pushRelation_kept

theorem State.selectPath_kept (s : State) (hs : Kept msk ref s) (hm : 4 &&& msk = 4) : Kept msk ref (State.selectPath s) := by
  unfold State.selectPath
  repeat' first
    | with_reducible assumption
    | exact mask_sub hm rfl
    | with_reducible apply State.wrB_kept
    | with_reducible apply State.wr_kept

theorem State.checkHoldover_kept (s : State) (hs : Kept msk ref s) (hm : 838 &&& msk = 838) : Kept msk ref (State.checkHoldover s) := by
  unfold State.checkHoldover
  repeat' first
    | with_reducible assumption
    | exact mask_sub hm rfl
    | with_reducible apply State.flag_kept
    | with_reducible apply State.relationNow_kept
    | with_reducible apply State.report_kept
    | with_reducible apply State.setTimState_kept
    | (intro x; refine (fun (hx : Kept msk ref x) => ?_) ?_; on_goal 1 => clear_value x)
    | lift_lets
    | dsimp only
    | with_reducible apply ite_kept

theorem State.endCal_kept (s : State) (hs : Kept msk ref s) (hm : 68 &&& msk = 68) : Kept msk ref (State.endCal s) := by
  unfold State.endCal
  repeat' first
    | with_reducible assumption
    | exact mask_sub hm rfl
    | with_reducible apply State.onTim_kept
    | with_reducible apply State.wr_kept
    | dsimp only
    | with_reducible apply ite_kept

theorem State.servo_kept (s : State) (theta : Int) (hs : Kept msk ref s) (hm : 838 &&& msk = 838) : Kept msk ref (State.servo s theta) := by
  unfold State.servo
  repeat' first
    | with_reducible assumption
    | exact mask_sub hm rfl
    | with_reducible apply State.decideRebase_kept
    | with_reducible apply State.onTim_kept

theorem State.stepBy_kept (s : State) (rate step : Int) (hs : Kept msk ref s) (hm : 838 &&& msk = 838) : Kept msk ref (State.stepBy s rate step) := by
  unfold State.stepBy
  repeat' first
    | with_reducible assumption
    | exact mask_sub hm rfl
    | with_reducible apply State.decideRebase_kept
    | with_reducible apply State.onTim_kept

theorem State.acquireRound_kept (s : State) (at_ theta : Int) (hs : Kept msk ref s) (hm : 838 &&& msk = 838) : Kept msk ref (State.acquireRound s at_ theta) := by
  unfold State.acquireRound
  repeat' first
    | with_reducible assumption
    | exact mask_sub hm rfl
    | with_reducible apply State.count_kept
    | with_reducible apply State.onTim_kept
    | with_reducible apply State.setTimState_kept
    | with_reducible apply State.stepBy_kept
    | (intro x; refine (fun (hx : Kept msk ref x) => ?_) ?_; on_goal 1 => clear_value x)
    | (intro x; refine (fun (hx : Kept msk ref x.1) => ?_) ?_; on_goal 1 => clear_value x)
    | (intro x; refine (fun (hx : Kept msk ref x.2) => ?_) ?_; on_goal 1 => clear_value x)
    | (intro x; clear_value x)
    | lift_lets
    | dsimp only
    | with_reducible apply ite_kept

theorem State.refuseJump_kept (s : State) (theta : Int) (hs : Kept msk ref s) (hm : 582 &&& msk = 582) : Kept msk ref (State.refuseJump s theta) := by
  unfold State.refuseJump
  repeat' first
    | with_reducible assumption
    | exact mask_sub hm rfl
    | with_reducible apply State.flag_kept
    | with_reducible apply State.onTim_kept
    | with_reducible apply State.report_kept
    | with_reducible apply State.setTimState_kept
    | with_reducible apply State.wrPair_kept

theorem State.relock_kept (s : State) (hs : Kept msk ref s) (hm : 516 &&& msk = 516) : Kept msk ref (State.relock s) := by
  unfold State.relock
  repeat' first
    | with_reducible assumption
    | exact mask_sub hm rfl
    | with_reducible apply State.conditionOver_kept
    | with_reducible apply State.setTimState_kept

theorem State.governRound_kept (s : State) (at_ theta : Int) (hs : Kept msk ref s) (hm : 838 &&& msk = 838) : Kept msk ref (State.governRound s at_ theta) := by
  unfold State.governRound
  repeat' first
    | with_reducible assumption
    | exact mask_sub hm rfl
    | with_reducible apply State.acquireRound_kept
    | with_reducible apply State.onTim_kept
    | with_reducible apply State.refuseJump_kept
    | with_reducible apply State.relock_kept
    | with_reducible apply State.servo_kept
    | with_reducible apply State.stepBy_kept
    | dsimp only
    | with_reducible apply ite_kept

theorem State.roundAccepted_kept (s : State) (p : Nat) (theta delay : Int) (hs : Kept msk ref s) (hm : 582 &&& msk = 582) : Kept msk ref (State.roundAccepted s p theta delay) := by
  unfold State.roundAccepted
  repeat' first
    | with_reducible assumption
    | exact mask_sub hm rfl
    | with_reducible apply State.conditionOverAt_kept
    | with_reducible apply State.onTim_kept
    | with_reducible apply State.satAdd_kept
    | with_reducible apply State.selectPath_kept
    | with_reducible apply State.setPathGood_kept
    | with_reducible apply State.show32_kept
    | with_reducible apply State.wr_kept

theorem State.roundRejected_kept (s : State) (p : Nat) (hs : Kept msk ref s) (hm : 4 &&& msk = 4) : Kept msk ref (State.roundRejected s p) := by
  unfold State.roundRejected
  repeat' first
    | with_reducible assumption
    | exact mask_sub hm rfl
    | with_reducible apply State.satAdd_kept

theorem State.dropRound_kept (s : State) (p : Nat) (hs : Kept msk ref s) (hm : 68 &&& msk = 68) : Kept msk ref (State.dropRound s p) := by
  unfold State.dropRound
  repeat' first
    | with_reducible assumption
    | exact mask_sub hm rfl
    | with_reducible apply State.onTim_kept
    | with_reducible apply State.roundRejected_kept
    | dsimp only
    | with_reducible apply ite_kept

theorem State.rejectFrame_kept (s : State) (lane : Nat) (hs : Kept msk ref s) (hm : 4 &&& msk = 4) : Kept msk ref (State.rejectFrame s lane) := by
  unfold State.rejectFrame
  repeat' first
    | with_reducible assumption
    | exact mask_sub hm rfl
    | with_reducible apply State.flag_kept
    | with_reducible apply State.satAdd_kept

theorem State.doOrigin_kept (s : State) (lane round master k phi : Nat) (hs : Kept msk ref s) (hm : 84 &&& msk = 84) : Kept msk ref (State.doOrigin s lane round master k phi) := by
  unfold State.doOrigin
  repeat' first
    | with_reducible assumption
    | exact mask_sub hm rfl
    | with_reducible apply State.dropRound_kept
    | with_reducible apply State.onTim_kept
    | with_reducible apply State.rejectFrame_kept
    | with_reducible apply State.toCount_kept
    | (intro x; refine (fun (hx : Kept msk ref x) => ?_) ?_; on_goal 1 => clear_value x)
    | (intro x; refine (fun (hx : Kept msk ref x.1) => ?_) ?_; on_goal 1 => clear_value x)
    | (intro x; refine (fun (hx : Kept msk ref x.2) => ?_) ?_; on_goal 1 => clear_value x)
    | (intro x; clear_value x)
    | lift_lets
    | dsimp only
    | with_reducible apply ite_kept

theorem State.doProbeSend_kept (s : State) (p k phi : Nat) (hs : Kept msk ref s) (hm : 854 &&& msk = 854) : Kept msk ref (State.doProbeSend s p k phi) := by
  unfold State.doProbeSend
  repeat' first
    | with_reducible assumption
    | exact mask_sub hm rfl
    | with_reducible apply State.count_kept
    | with_reducible apply State.dropRound_kept
    | with_reducible apply State.onTim_kept
    | with_reducible apply State.pushTime_kept
    | with_reducible apply State.toCount_kept
    | (intro x; refine (fun (hx : Kept msk ref x) => ?_) ?_; on_goal 1 => clear_value x)
    | (intro x; refine (fun (hx : Kept msk ref x.1) => ?_) ?_; on_goal 1 => clear_value x)
    | (intro x; refine (fun (hx : Kept msk ref x.2) => ?_) ?_; on_goal 1 => clear_value x)
    | (intro x; clear_value x)
    | lift_lets
    | dsimp only
    | with_reducible apply ite_kept
    | intro _ _ _
    | intro _ _
    | fail_if_no_progress (with_reducible refine mk_kept ?_ rfl rfl rfl rfl rfl rfl rfl hm)
    | (with_reducible refine mk_sized ?_ rfl rfl ?_ ?_ ?_ ?_ ?_ hm <;> first | with_reducible assumption | with_reducible rfl | (simp; done))
    | dsimp only [x]
    | split

theorem State.sendReport_kept (s : State) (p round : Nat) (theta delay t2 : Int) (hs : Kept msk ref s) (hm : 838 &&& msk = 838) : Kept msk ref (State.sendReport s p round theta delay t2) := by
  unfold State.sendReport
  repeat' first
    | with_reducible assumption
    | exact mask_sub hm rfl
    | with_reducible apply State.pushTime_kept
    | with_reducible apply State.show32_kept

theorem State.computeRound_kept (s : State) (p : Nat) (hs : Kept msk ref s) (hm : 838 &&& msk = 838) : Kept msk ref (State.computeRound s p) := by
  unfold State.computeRound
  repeat' first
    | with_reducible assumption
    | exact mask_sub hm rfl
    | with_reducible apply State.governRound_kept
    | with_reducible apply State.onTim_kept
    | with_reducible apply State.roundAccepted_kept
    | with_reducible apply State.roundRejected_kept
    | with_reducible apply State.sendReport_kept
    | (intro x; refine (fun (hx : Kept msk ref x) => ?_) ?_; on_goal 1 => clear_value x)
    | (intro x; refine (fun (hx : Kept msk ref x.1) => ?_) ?_; on_goal 1 => clear_value x)
    | (intro x; refine (fun (hx : Kept msk ref x.2) => ?_) ?_; on_goal 1 => clear_value x)
    | (intro x; clear_value x)
    | lift_lets
    | dsimp only
    | with_reducible apply ite_kept
    | intro _ _ _
    | intro _ _
    | fail_if_no_progress (with_reducible refine mk_kept ?_ rfl rfl rfl rfl rfl rfl rfl hm)
    | (with_reducible refine mk_sized ?_ rfl rfl ?_ ?_ ?_ ?_ ?_ hm <;> first | with_reducible assumption | with_reducible rfl | (simp; done))
    | dsimp only [x]
    | split

theorem State.doFollow_kept (s : State) (lane round ns frac : Nat) (hs : Kept msk ref s) (hm : 838 &&& msk = 838) : Kept msk ref (State.doFollow s lane round ns frac) := by
  unfold State.doFollow
  repeat' first
    | with_reducible assumption
    | exact mask_sub hm rfl
    | with_reducible apply State.computeRound_kept
    | with_reducible apply State.dropRound_kept
    | with_reducible apply State.onTim_kept
    | with_reducible apply State.rejectFrame_kept
    | (intro x; refine (fun (hx : Kept msk ref x) => ?_) ?_; on_goal 1 => clear_value x)
    | (intro x; refine (fun (hx : Kept msk ref x.1) => ?_) ?_; on_goal 1 => clear_value x)
    | (intro x; refine (fun (hx : Kept msk ref x.2) => ?_) ?_; on_goal 1 => clear_value x)
    | (intro x; clear_value x)
    | lift_lets
    | dsimp only
    | with_reducible apply ite_kept
    | intro _ _ _
    | intro _ _
    | fail_if_no_progress (with_reducible refine mk_kept ?_ rfl rfl rfl rfl rfl rfl rfl hm)
    | (with_reducible refine mk_sized ?_ rfl rfl ?_ ?_ ?_ ?_ ?_ hm <;> first | with_reducible assumption | with_reducible rfl | (simp; done))
    | dsimp only [x]
    | split

theorem State.doAnswer_kept (s : State) (lane round ns frac : Nat) (hs : Kept msk ref s) (hm : 838 &&& msk = 838) : Kept msk ref (State.doAnswer s lane round ns frac) := by
  unfold State.doAnswer
  repeat' first
    | with_reducible assumption
    | exact mask_sub hm rfl
    | with_reducible apply State.computeRound_kept
    | with_reducible apply State.dropRound_kept
    | with_reducible apply State.onTim_kept
    | with_reducible apply State.rejectFrame_kept
    | (intro x; refine (fun (hx : Kept msk ref x) => ?_) ?_; on_goal 1 => clear_value x)
    | (intro x; refine (fun (hx : Kept msk ref x.1) => ?_) ?_; on_goal 1 => clear_value x)
    | (intro x; refine (fun (hx : Kept msk ref x.2) => ?_) ?_; on_goal 1 => clear_value x)
    | (intro x; clear_value x)
    | lift_lets
    | dsimp only
    | with_reducible apply ite_kept
    | intro _ _ _
    | intro _ _
    | fail_if_no_progress (with_reducible refine mk_kept ?_ rfl rfl rfl rfl rfl rfl rfl hm)
    | (with_reducible refine mk_sized ?_ rfl rfl ?_ ?_ ?_ ?_ ?_ hm <;> first | with_reducible assumption | with_reducible rfl | (simp; done))
    | dsimp only [x]
    | split

theorem State.doPathLoss_kept (s : State) (p : Nat) (hs : Kept msk ref s) (hm : 854 &&& msk = 854) : Kept msk ref (State.doPathLoss s p) := by
  unfold State.doPathLoss
  repeat' first
    | with_reducible assumption
    | exact mask_sub hm rfl
    | with_reducible apply State.checkHoldover_kept
    | with_reducible apply State.endCal_kept
    | with_reducible apply State.flag_kept
    | with_reducible apply State.onTim_kept
    | with_reducible apply State.report_kept
    | with_reducible apply State.selectPath_kept
    | with_reducible apply State.setPathGood_kept
    | with_reducible apply State.toTime_kept
    | (intro x; refine (fun (hx : Kept msk ref x) => ?_) ?_; on_goal 1 => clear_value x)
    | (intro x; refine (fun (hx : Kept msk ref x.1) => ?_) ?_; on_goal 1 => clear_value x)
    | (intro x; refine (fun (hx : Kept msk ref x.2) => ?_) ?_; on_goal 1 => clear_value x)
    | (intro x; clear_value x)
    | lift_lets
    | dsimp only
    | with_reducible apply ite_kept

theorem State.doHeartbeat_kept (s : State) (cls : Nat) (hs : Kept msk ref s) (hm : 854 &&& msk = 854) : Kept msk ref (State.doHeartbeat s cls) := by
  unfold State.doHeartbeat
  repeat' first
    | with_reducible assumption
    | exact mask_sub hm rfl
    | with_reducible apply State.push_kept
    | with_reducible apply State.toTime_kept
    | (intro x; refine (fun (hx : Kept msk ref x) => ?_) ?_; on_goal 1 => clear_value x)
    | lift_lets
    | dsimp only
    | with_reducible apply ite_kept

theorem State.calEdge_kept (s : State) (stamp : Int) (hs : Kept msk ref s) (hm : 64 &&& msk = 64) : Kept msk ref (State.calEdge s stamp) := by
  unfold State.calEdge
  repeat' first
    | with_reducible assumption
    | exact mask_sub hm rfl
    | with_reducible apply State.onTim_kept
    | dsimp only
    | with_reducible apply ite_kept
    | intro _ _ _
    | intro _ _
    | fail_if_no_progress (with_reducible refine mk_kept ?_ rfl rfl rfl rfl rfl rfl rfl hm)
    | (with_reducible refine mk_sized ?_ rfl rfl ?_ ?_ ?_ ?_ ?_ hm <;> first | with_reducible assumption | with_reducible rfl | (simp; done))
    | split

theorem State.losePps_kept (s : State) (hs : Kept msk ref s) (hm : 838 &&& msk = 838) : Kept msk ref (State.losePps s) := by
  unfold State.losePps
  repeat' first
    | with_reducible assumption
    | exact mask_sub hm rfl
    | with_reducible apply State.checkHoldover_kept
    | with_reducible apply State.endCal_kept
    | with_reducible apply State.report_kept
    | with_reducible apply State.wr_kept
    | dsimp only
    | with_reducible apply ite_kept

theorem State.doPpsEdge_kept (s : State) (k phi : Nat) (rising : Bool) (hs : Kept msk ref s) (hm : 854 &&& msk = 854) : Kept msk ref (State.doPpsEdge s k phi rising) := by
  unfold State.doPpsEdge
  repeat' first
    | with_reducible assumption
    | exact mask_sub hm rfl
    | with_reducible apply State.calEdge_kept
    | with_reducible apply State.conditionOver_kept
    | with_reducible apply State.governRound_kept
    | with_reducible apply State.losePps_kept
    | with_reducible apply State.onTim_kept
    | with_reducible apply State.toCount_kept
    | with_reducible apply State.wrPair_kept
    | with_reducible apply State.wr_kept
    | (intro x; refine (fun (hx : Kept msk ref x) => ?_) ?_; on_goal 1 => clear_value x)
    | (intro x; refine (fun (hx : Kept msk ref x.1) => ?_) ?_; on_goal 1 => clear_value x)
    | (intro x; refine (fun (hx : Kept msk ref x.2) => ?_) ?_; on_goal 1 => clear_value x)
    | (intro x; clear_value x)
    | lift_lets
    | dsimp only
    | with_reducible apply ite_kept

theorem State.doPpsLoss_kept (s : State) (hs : Kept msk ref s) (hm : 854 &&& msk = 854) : Kept msk ref (State.doPpsLoss s) := by
  unfold State.doPpsLoss
  repeat' first
    | with_reducible assumption
    | exact mask_sub hm rfl
    | with_reducible apply State.losePps_kept
    | with_reducible apply State.onTim_kept
    | with_reducible apply State.toTime_kept
    | dsimp only
    | intro _ _ _
    | intro _ _
    | fail_if_no_progress (with_reducible refine mk_kept ?_ rfl rfl rfl rfl rfl rfl rfl hm)
    | (with_reducible refine mk_sized ?_ rfl rfl ?_ ?_ ?_ ?_ ?_ hm <;> first | with_reducible assumption | with_reducible rfl | (simp; done))
    | split

theorem State.doAcceptJump_kept (s : State) (hs : Kept msk ref s) (hm : 64 &&& msk = 64) : Kept msk ref (State.doAcceptJump s) := by
  unfold State.doAcceptJump
  repeat' first
    | with_reducible assumption
    | exact mask_sub hm rfl
    | with_reducible apply State.onTim_kept
    | dsimp only
    | with_reducible apply ite_kept

theorem State.doAsymCal_kept (s : State) (hs : Kept msk ref s) (hm : 68 &&& msk = 68) : Kept msk ref (State.doAsymCal s) := by
  unfold State.doAsymCal
  repeat' first
    | with_reducible assumption
    | exact mask_sub hm rfl
    | with_reducible apply State.onTim_kept
    | with_reducible apply State.wr_kept

theorem State.doAsymCalDone_kept (s : State) (hs : Kept msk ref s) (hm : 70 &&& msk = 70) : Kept msk ref (State.doAsymCalDone s) := by
  unfold State.doAsymCalDone
  repeat' first
    | with_reducible assumption
    | exact mask_sub hm rfl
    | with_reducible apply State.freeBelow_kept
    | with_reducible apply State.onTim_kept
    | with_reducible apply State.wrS_kept
    | with_reducible apply State.wr_kept
    | (intro x; refine (fun (hx : Kept msk ref x) => ?_) ?_; on_goal 1 => clear_value x)
    | (intro x; refine (fun (hx : Kept msk ref x.1) => ?_) ?_; on_goal 1 => clear_value x)
    | (intro x; refine (fun (hx : Kept msk ref x.2) => ?_) ?_; on_goal 1 => clear_value x)
    | (intro x; clear_value x)
    | lift_lets
    | dsimp only
    | with_reducible apply ite_kept
    | intro _ _ _
    | intro _ _
    | fail_if_no_progress (with_reducible refine mk_kept ?_ rfl rfl rfl rfl rfl rfl rfl hm)
    | (with_reducible refine mk_sized ?_ rfl rfl ?_ ?_ ?_ ?_ ?_ hm <;> first | with_reducible assumption | with_reducible rfl | (simp; done))
    | dsimp only [x]
    | split

theorem State.doAsymApply_kept (s : State) (hs : Kept msk ref s) (hm : 4 &&& msk = 4) : Kept msk ref (State.doAsymApply s) := by
  unfold State.doAsymApply
  repeat' first
    | with_reducible assumption
    | exact mask_sub hm rfl
    | with_reducible apply State.wr_kept
    | dsimp only
    | with_reducible apply ite_kept

theorem State.doVoteCorrection_kept (s : State) (c : Nat) (hs : Kept msk ref s) (hm : 582 &&& msk = 582) : Kept msk ref (State.doVoteCorrection s c) := by
  unfold State.doVoteCorrection
  repeat' first
    | with_reducible assumption
    | exact mask_sub hm rfl
    | with_reducible apply State.count_kept
    | with_reducible apply State.flag_kept
    | with_reducible apply State.onTim_kept
    | with_reducible apply State.report_kept
    | with_reducible apply State.satAdd_kept
    | with_reducible apply State.setTimState_kept
    | with_reducible apply State.wr_kept
    | (intro x; refine (fun (hx : Kept msk ref x) => ?_) ?_; on_goal 1 => clear_value x)
    | (intro x; refine (fun (hx : Kept msk ref x.1) => ?_) ?_; on_goal 1 => clear_value x)
    | (intro x; refine (fun (hx : Kept msk ref x.2) => ?_) ?_; on_goal 1 => clear_value x)
    | (intro x; clear_value x)
    | lift_lets
    | dsimp only
    | with_reducible apply ite_kept

theorem State.settleFrom_kept (s : State) (ch n : Nat) (hs : Kept msk ref s) (hm : 16384 &&& msk = 16384) : Kept msk ref (State.settleFrom s ch n) := by
  unfold State.settleFrom
  repeat' first
    | with_reducible assumption
    | exact mask_sub hm rfl
    | with_reducible apply State.mark_kept

theorem State.joinRehearsal_kept (s : State) (ch n : Nat) (hs : Kept msk ref s) (hm : 16384 &&& msk = 16384) : Kept msk ref (State.joinRehearsal s ch n) := by
  unfold State.joinRehearsal
  repeat' first
    | with_reducible assumption
    | exact mask_sub hm rfl
    | with_reducible apply State.mark_kept
    | (intro x; refine (fun (hx : Kept msk ref x) => ?_) ?_; on_goal 1 => clear_value x)
    | (intro x; refine (fun (hx : Kept msk ref x.1) => ?_) ?_; on_goal 1 => clear_value x)
    | (intro x; refine (fun (hx : Kept msk ref x.2) => ?_) ?_; on_goal 1 => clear_value x)
    | (intro x; clear_value x)
    | lift_lets
    | dsimp only
    | with_reducible apply ite_kept

theorem State.beginChan_kept (s : State) (settle : Bool) (ch n : Nat) (hs : Kept msk ref s) (hm : 17158 &&& msk = 17158) : Kept msk ref (State.beginChan s settle ch n) := by
  unfold State.beginChan
  repeat' first
    | with_reducible assumption
    | exact mask_sub hm rfl
    | with_reducible apply State.applyChain_kept
    | with_reducible apply State.applyNotch_kept
    | with_reducible apply State.applyRange_kept
    | with_reducible apply State.applySkew_kept
    | with_reducible apply State.forEach_kept
    | with_reducible apply State.joinRehearsal_kept
    | with_reducible apply State.settleFrom_kept
    | with_reducible apply State.startChannel_kept
    | (intro x; refine (fun (hx : Kept msk ref x) => ?_) ?_; on_goal 1 => clear_value x)
    | lift_lets
    | dsimp only
    | with_reducible apply ite_kept
    | intro _ _ _

theorem State.endChan_kept (s : State) (ch n : Nat) (hs : Kept msk ref s) (hm : 2114308 &&& msk = 2114308) : Kept msk ref (State.endChan s ch n) := by
  unfold State.endChan
  repeat' first
    | with_reducible assumption
    | exact mask_sub hm rfl
    | with_reducible apply State.onChan_kept
    | with_reducible apply State.stopChannel_kept

theorem State.beginAll_kept (s : State) (settle : Bool) (n : Nat) (hs : Kept msk ref s) (hm : 17158 &&& msk = 17158) : Kept msk ref (State.beginAll s settle n) := by
  unfold State.beginAll
  repeat' first
    | with_reducible assumption
    | exact mask_sub hm rfl
    | with_reducible apply State.beginChan_kept
    | with_reducible apply State.forEach_kept
    | dsimp only
    | intro _ _ _

theorem State.endAll_kept (s : State) (n : Nat) (hs : Kept msk ref s) (hm : 2180998 &&& msk = 2180998) : Kept msk ref (State.endAll s n) := by
  unfold State.endAll
  repeat' first
    | with_reducible assumption
    | exact mask_sub hm rfl
    | with_reducible apply State.dropInjects_kept
    | with_reducible apply State.endChan_kept
    | with_reducible apply State.forEach_kept
    | with_reducible apply State.stopRehearsal_kept
    | (intro x; refine (fun (hx : Kept msk ref x) => ?_) ?_; on_goal 1 => clear_value x)
    | lift_lets
    | dsimp only
    | intro _ _ _

theorem State.discardAllTags_kept (s : State) (hs : Kept msk ref s) (hm : 2097152 &&& msk = 2097152) : Kept msk ref (State.discardAllTags s) := by
  unfold State.discardAllTags
  repeat' first
    | with_reducible assumption
    | exact mask_sub hm rfl
    | dsimp only
    | intro _ _ _
    | intro _ _
    | fail_if_no_progress (with_reducible refine mk_kept ?_ rfl rfl rfl rfl rfl rfl rfl hm)

theorem State.doUnitEnableWrite_kept (s : State) (half : Nat) (w : Word) (hs : Kept msk ref s) (hm : 4614 &&& msk = 4614) : Kept msk ref (State.doUnitEnableWrite s half w) := by
  unfold State.doUnitEnableWrite
  repeat' first
    | with_reducible assumption
    | exact mask_sub hm rfl
    | with_reducible apply State.admitFault_kept
    | with_reducible apply State.count_kept
    | with_reducible apply State.judge_kept
    | with_reducible apply State.onPlane_kept
    | with_reducible apply State.wr_kept
    | (intro x; refine (fun (hx : Kept msk ref x) => ?_) ?_; on_goal 1 => clear_value x)
    | (intro x; refine (fun (hx : Kept msk ref x.1) => ?_) ?_; on_goal 1 => clear_value x)
    | (intro x; refine (fun (hx : Kept msk ref x.2) => ?_) ?_; on_goal 1 => clear_value x)
    | (intro x; clear_value x)
    | lift_lets
    | dsimp only
    | with_reducible apply ite_kept
    | intro _ _ _
    | intro _ _

theorem State.takeUnits_kept (s : State) (map n : Nat) (hs : Kept msk ref s) (hm : 1594182 &&& msk = 1594182) : Kept msk ref (State.takeUnits s map n) := by
  unfold State.takeUnits
  repeat' first
    | with_reducible assumption
    | exact mask_sub hm rfl
    | with_reducible apply State.checkCombiner_kept
    | with_reducible apply State.divideRing_kept
    | with_reducible apply State.forEach_kept
    | with_reducible apply State.onPlane_kept
    | with_reducible apply State.onTrg_kept
    | with_reducible apply State.wr_kept
    | (intro x; refine (fun (hx : Kept msk ref x) => ?_) ?_; on_goal 1 => clear_value x)
    | lift_lets
    | dsimp only
    | with_reducible apply ite_kept
    | intro _ _ _

theorem State.doUnitEnableEffect_kept (s : State) (hs : Kept msk ref s) (hm : 3953494 &&& msk = 3953494) : Kept msk ref (State.doUnitEnableEffect s) := by
  unfold State.doUnitEnableEffect
  repeat' first
    | with_reducible assumption
    | exact mask_sub hm rfl
    | with_reducible apply State.autoReset_kept
    | with_reducible apply State.beginChan_kept
    | with_reducible apply State.endChan_kept
    | with_reducible apply State.forEach_kept
    | with_reducible apply State.onPlane_kept
    | with_reducible apply State.takeUnits_kept
    | with_reducible apply State.toCount_kept
    | with_reducible apply State.wchSync_kept
    | (intro x; refine (fun (hx : Kept msk ref x) => ?_) ?_; on_goal 1 => clear_value x)
    | (intro x; refine (fun (hx : Kept msk ref x.1) => ?_) ?_; on_goal 1 => clear_value x)
    | (intro x; refine (fun (hx : Kept msk ref x.2) => ?_) ?_; on_goal 1 => clear_value x)
    | (intro x; clear_value x)
    | lift_lets
    | dsimp only
    | with_reducible apply ite_kept
    | intro _ _ _
    | intro _ _
    | fail_if_no_progress (with_reducible refine mk_kept ?_ rfl rfl rfl rfl rfl rfl rfl hm)
    | (with_reducible refine mk_sized ?_ rfl rfl ?_ ?_ ?_ ?_ ?_ hm <;> first | with_reducible assumption | with_reducible rfl | (simp; done))
    | dsimp only [x]
    | split

theorem State.doUnitFailure_kept (s : State) (ch : Nat) (hs : Kept msk ref s) (hm : 16384 &&& msk = 16384) : Kept msk ref (State.doUnitFailure s ch) := by
  unfold State.doUnitFailure
  repeat' first
    | with_reducible assumption
    | exact mask_sub hm rfl
    | with_reducible apply State.count_kept
    | with_reducible apply State.mark_kept
    | with_reducible apply State.onChan_kept
    | dsimp only
    | with_reducible apply ite_kept

theorem State.doOverflow_kept (s : State) (ch n : Nat) (hs : Kept msk ref s) (hm : 16902 &&& msk = 16902) : Kept msk ref (State.doOverflow s ch n) := by
  unfold State.doOverflow
  repeat' first
    | with_reducible assumption
    | exact mask_sub hm rfl
    | with_reducible apply State.conditionOver_kept
    | with_reducible apply State.mark_kept
    | with_reducible apply State.onChan_kept
    | with_reducible apply State.report_kept
    | (intro x; refine (fun (hx : Kept msk ref x) => ?_) ?_; on_goal 1 => clear_value x)
    | (intro x; refine (fun (hx : Kept msk ref x.1) => ?_) ?_; on_goal 1 => clear_value x)
    | (intro x; refine (fun (hx : Kept msk ref x.2) => ?_) ?_; on_goal 1 => clear_value x)
    | (intro x; clear_value x)
    | lift_lets
    | dsimp only
    | with_reducible apply ite_kept

theorem State.clipBlock_kept (s : State) (ch n hits : Nat) (hs : Kept msk ref s) (hm : 16388 &&& msk = 16388) : Kept msk ref (State.clipBlock s ch n hits) := by
  unfold State.clipBlock
  repeat' first
    | with_reducible assumption
    | exact mask_sub hm rfl
    | with_reducible apply State.count_kept
    | with_reducible apply State.flag_kept
    | with_reducible apply State.onChan_kept
    | dsimp only
    | with_reducible apply ite_kept

theorem State.doRawBlock_kept (s : State) (ch n : Nat) (conv : List Int) (hs : Kept msk ref s) (hm : 1590102 &&& msk = 1590102) : Kept msk ref (State.doRawBlock s ch n conv) := by
  unfold State.doRawBlock
  repeat' first
    | with_reducible assumption
    | exact mask_sub hm rfl
    | with_reducible apply State.autoBlock_kept
    | with_reducible apply State.bgBlock_kept
    | with_reducible apply State.clipBlock_kept
    | with_reducible apply State.firBlock_kept
    | with_reducible apply State.onChan_kept
    | with_reducible apply State.ringWrite_kept
    | with_reducible apply State.roadBlock_kept
    | with_reducible apply State.sumBlock_kept
    | with_reducible apply State.toCount_kept
    | (intro x; refine (fun (hx : Kept msk ref x) => ?_) ?_; on_goal 1 => clear_value x)
    | (intro x; refine (fun (hx : Kept msk ref x.1) => ?_) ?_; on_goal 1 => clear_value x)
    | (intro x; refine (fun (hx : Kept msk ref x.2) => ?_) ?_; on_goal 1 => clear_value x)
    | (intro x; clear_value x)
    | lift_lets
    | dsimp only
    | with_reducible apply ite_kept

theorem State.stopRegion_kept (s : State) (r result n : Nat) (hs : Kept msk ref s) (hm : 3098574 &&& msk = 3098574) : Kept msk ref (State.stopRegion s r result n) := by
  unfold State.stopRegion
  repeat' first
    | with_reducible assumption
    | exact mask_sub hm rfl
    | with_reducible apply State.drainBefore_kept
    | with_reducible apply State.dropInjects_kept
    | with_reducible apply State.endChan_kept
    | with_reducible apply State.forEach_kept
    | with_reducible apply State.stopRehearsal_kept
    | with_reducible apply State.wchSync_kept
    | (intro x; refine (fun (hx : Kept msk ref x) => ?_) ?_; on_goal 1 => clear_value x)
    | lift_lets
    | dsimp only
    | intro _ _ _

theorem State.failRegion_kept (s : State) (r result : Nat) (hs : Kept msk ref s) (hm : 3106766 &&& msk = 3106766) : Kept msk ref (State.failRegion s r result) := by
  unfold State.failRegion
  repeat' first
    | with_reducible assumption
    | exact mask_sub hm rfl
    | with_reducible apply State.count_kept
    | with_reducible apply State.onRegion_kept
    | with_reducible apply State.stopRegion_kept

theorem State.doRegionFault_kept (s : State) (r kind : Nat) (hs : Kept msk ref s) (hm : 3106766 &&& msk = 3106766) : Kept msk ref (State.doRegionFault s r kind) := by
  unfold State.doRegionFault
  repeat' first
    | with_reducible assumption
    | exact mask_sub hm rfl
    | with_reducible apply State.failRegion_kept
    | with_reducible apply State.report_kept
    | (intro x; refine (fun (hx : Kept msk ref x) => ?_) ?_; on_goal 1 => clear_value x)
    | (intro x; refine (fun (hx : Kept msk ref x.1) => ?_) ?_; on_goal 1 => clear_value x)
    | (intro x; refine (fun (hx : Kept msk ref x.2) => ?_) ?_; on_goal 1 => clear_value x)
    | (intro x; clear_value x)
    | lift_lets
    | dsimp only
    | with_reducible apply ite_kept

theorem State.stopPlane_kept (s : State) (hs : Kept msk ref s) (hm : 2447302 &&& msk = 2447302) : Kept msk ref (State.stopPlane s) := by
  unfold State.stopPlane
  repeat' first
    | with_reducible assumption
    | exact mask_sub hm rfl
    | with_reducible apply State.count_kept
    | with_reducible apply State.endAll_kept
    | with_reducible apply State.onPlane_kept
    | with_reducible apply State.wchSync_kept
    | dsimp only
    | with_reducible apply ite_kept

theorem State.doDieFault_kept (s : State) (d : Nat) (hs : Kept msk ref s) (hm : 3110862 &&& msk = 3110862) : Kept msk ref (State.doDieFault s d) := by
  unfold State.doDieFault
  repeat' first
    | with_reducible assumption
    | exact mask_sub hm rfl
    | with_reducible apply State.failRegion_kept
    | with_reducible apply State.forEach_kept
    | with_reducible apply State.onPlane_kept
    | with_reducible apply State.report_kept
    | with_reducible apply State.stopPlane_kept
    | (intro x; refine (fun (hx : Kept msk ref x) => ?_) ?_; on_goal 1 => clear_value x)
    | lift_lets
    | dsimp only
    | with_reducible apply ite_kept
    | intro _ _ _

theorem State.regionHealed_kept (s : State) (r : Nat) (hs : Kept msk ref s) (hm : 4608 &&& msk = 4608) : Kept msk ref (State.regionHealed s r) := by
  unfold State.regionHealed
  repeat' first
    | with_reducible assumption
    | exact mask_sub hm rfl
    | with_reducible apply State.conditionOver_kept
    | with_reducible apply State.forEach_kept
    | with_reducible apply State.onPlane_kept
    | (intro x; refine (fun (hx : Kept msk ref x) => ?_) ?_; on_goal 1 => clear_value x)
    | lift_lets
    | dsimp only
    | with_reducible apply ite_kept
    | intro _ _ _

theorem State.doPllLock_kept (s : State) (r : Nat) (reading : Int) (hs : Kept msk ref s) (hm : 29188 &&& msk = 29188) : Kept msk ref (State.doPllLock s r reading) := by
  unfold State.doPllLock
  repeat' first
    | with_reducible assumption
    | exact mask_sub hm rfl
    | with_reducible apply State.count_kept
    | with_reducible apply State.onRegion_kept
    | with_reducible apply State.regionHealed_kept
    | with_reducible apply State.takePhase_kept
    | (intro x; refine (fun (hx : Kept msk ref x) => ?_) ?_; on_goal 1 => clear_value x)
    | (intro x; refine (fun (hx : Kept msk ref x.1) => ?_) ?_; on_goal 1 => clear_value x)
    | (intro x; refine (fun (hx : Kept msk ref x.2) => ?_) ?_; on_goal 1 => clear_value x)
    | (intro x; clear_value x)
    | lift_lets
    | dsimp only
    | with_reducible apply ite_kept

theorem State.doRegionRestore_kept (s : State) (r : Nat) (hs : Kept msk ref s) (hm : 287574 &&& msk = 287574) : Kept msk ref (State.doRegionRestore s r) := by
  unfold State.doRegionRestore
  repeat' first
    | with_reducible assumption
    | exact mask_sub hm rfl
    | with_reducible apply State.beginChan_kept
    | with_reducible apply State.forEach_kept
    | with_reducible apply State.onRegion_kept
    | with_reducible apply State.toCount_kept
    | with_reducible apply State.wchSync_kept
    | (intro x; refine (fun (hx : Kept msk ref x) => ?_) ?_; on_goal 1 => clear_value x)
    | lift_lets
    | dsimp only
    | with_reducible apply ite_kept
    | intro _ _ _
    | intro _ _
    | fail_if_no_progress (with_reducible refine mk_kept ?_ rfl rfl rfl rfl rfl rfl rfl hm)
    | (with_reducible refine mk_sized ?_ rfl rfl ?_ ?_ ?_ ?_ ?_ hm <;> first | with_reducible assumption | with_reducible rfl | (simp; done))
    | dsimp only [x]
    | split

theorem State.showMargin_kept (s : State) (m : Int) (hs : Kept msk ref s) (hm : 2 &&& msk = 2) : Kept msk ref (State.showMargin s m).2 := by
  unfold State.showMargin
  repeat' first
    | with_reducible assumption
    | exact mask_sub hm rfl
    | with_reducible apply State.freeBelow_kept
    | dsimp only
    | with_reducible apply ite_kept
    | intro _ _ _
    | intro _ _
    | split

theorem State.takeMargin_kept (s : State) (n : Nat) (m : Int) (hs : Kept msk ref s) (hm : 6 &&& msk = 6) : Kept msk ref (State.takeMargin s n m) := by
  unfold State.takeMargin
  repeat' first
    | with_reducible assumption
    | exact mask_sub hm rfl
    | with_reducible apply State.showMargin_kept
    | with_reducible apply State.wr_kept

theorem State.doPaceTick_kept (s : State) (margins : List Int) (hs : Kept msk ref s) (hm : 4630 &&& msk = 4630) : Kept msk ref (State.doPaceTick s margins) := by
  unfold State.doPaceTick
  repeat' first
    | with_reducible assumption
    | exact mask_sub hm rfl
    | with_reducible apply State.flag_kept
    | with_reducible apply State.forEach_kept
    | with_reducible apply State.onPlane_kept
    | with_reducible apply State.reportAgain_kept
    | with_reducible apply State.showMargin_kept
    | with_reducible apply State.takeMargin_kept
    | with_reducible apply State.toTick_kept
    | with_reducible apply State.wrB_kept
    | with_reducible apply State.wr_kept
    | (intro x; refine (fun (hx : Kept msk ref x) => ?_) ?_; on_goal 1 => clear_value x)
    | (intro x; refine (fun (hx : Kept msk ref x.1) => ?_) ?_; on_goal 1 => clear_value x)
    | (intro x; refine (fun (hx : Kept msk ref x.2) => ?_) ?_; on_goal 1 => clear_value x)
    | (intro x; clear_value x)
    | lift_lets
    | dsimp only
    | with_reducible apply ite_kept
    | intro _ _ _

theorem State.doStepDown_kept (s : State) (hs : Kept msk ref s) (hm : 4100 &&& msk = 4100) : Kept msk ref (State.doStepDown s) := by
  unfold State.doStepDown
  repeat' first
    | with_reducible assumption
    | exact mask_sub hm rfl
    | with_reducible apply State.onPlane_kept
    | with_reducible apply State.wr_kept
    | dsimp only
    | with_reducible apply ite_kept

theorem State.doPaceFault_kept (s : State) (hs : Kept msk ref s) (hm : 2447302 &&& msk = 2447302) : Kept msk ref (State.doPaceFault s) := by
  unfold State.doPaceFault
  repeat' first
    | with_reducible assumption
    | exact mask_sub hm rfl
    | with_reducible apply State.count_kept
    | with_reducible apply State.flag_kept
    | with_reducible apply State.onPlane_kept
    | with_reducible apply State.report_kept
    | with_reducible apply State.stopPlane_kept
    | with_reducible apply State.wr_kept
    | (intro x; refine (fun (hx : Kept msk ref x) => ?_) ?_; on_goal 1 => clear_value x)
    | (intro x; refine (fun (hx : Kept msk ref x.1) => ?_) ?_; on_goal 1 => clear_value x)
    | (intro x; refine (fun (hx : Kept msk ref x.2) => ?_) ?_; on_goal 1 => clear_value x)
    | (intro x; clear_value x)
    | lift_lets
    | dsimp only
    | with_reducible apply ite_kept

theorem State.doPaceClear_kept (s : State) (hs : Kept msk ref s) (hm : 4612 &&& msk = 4612) : Kept msk ref (State.doPaceClear s) := by
  unfold State.doPaceClear
  repeat' first
    | with_reducible assumption
    | exact mask_sub hm rfl
    | with_reducible apply State.conditionOver_kept
    | with_reducible apply State.count_kept
    | with_reducible apply State.forEach_kept
    | with_reducible apply State.onPlane_kept
    | with_reducible apply State.wr_kept
    | (intro x; refine (fun (hx : Kept msk ref x) => ?_) ?_; on_goal 1 => clear_value x)
    | lift_lets
    | dsimp only
    | with_reducible apply ite_kept
    | intro _ _ _

theorem State.doPaceClrMin_kept (s : State) (hs : Kept msk ref s) (hm : 4 &&& msk = 4) : Kept msk ref (State.doPaceClrMin s) := by
  unfold State.doPaceClrMin
  repeat' first
    | with_reducible assumption
    | exact mask_sub hm rfl
    | with_reducible apply State.forEach_kept
    | with_reducible apply State.wr_kept
    | dsimp only
    | intro _ _ _

theorem State.decideSwitch_kept (s : State) (target : Nat) (restore : Bool) (hs : Kept msk ref s) (hm : 4096 &&& msk = 4096) : Kept msk ref (State.decideSwitch s target restore) := by
  unfold State.decideSwitch
  repeat' first
    | with_reducible assumption
    | exact mask_sub hm rfl
    | with_reducible apply State.count_kept
    | with_reducible apply State.onPlane_kept
    | dsimp only
    | with_reducible apply ite_kept

theorem State.doPaceSwitch_kept (s : State) (hs : Kept msk ref s) (hm : 4096 &&& msk = 4096) : Kept msk ref (State.doPaceSwitch s) := by
  unfold State.doPaceSwitch
  repeat' first
    | with_reducible assumption
    | exact mask_sub hm rfl
    | with_reducible apply State.decideSwitch_kept
    | dsimp only
    | with_reducible apply ite_kept

theorem State.doAutoFallback_kept (s : State) (hs : Kept msk ref s) (hm : 4096 &&& msk = 4096) : Kept msk ref (State.doAutoFallback s) := by
  unfold State.doAutoFallback
  repeat' first
    | with_reducible assumption
    | exact mask_sub hm rfl
    | with_reducible apply State.doPaceSwitch_kept
    | dsimp only
    | with_reducible apply ite_kept

theorem State.doPaceRestore_kept (s : State) (hs : Kept msk ref s) (hm : 4096 &&& msk = 4096) : Kept msk ref (State.doPaceRestore s) := by
  unfold State.doPaceRestore
  repeat' first
    | with_reducible assumption
    | exact mask_sub hm rfl
    | with_reducible apply State.decideSwitch_kept
    | dsimp only
    | with_reducible apply ite_kept

theorem State.dropAcquisition_kept (s : State) (hs : Kept msk ref s) (hm : 64 &&& msk = 64) : Kept msk ref (State.dropAcquisition s) := by
  unfold State.dropAcquisition
  repeat' first
    | with_reducible assumption
    | exact mask_sub hm rfl
    | with_reducible apply State.onTim_kept
    | dsimp only
    | with_reducible apply ite_kept

theorem State.doSwitchStop_kept (s : State) (hs : Kept msk ref s) (hm : 4184030 &&& msk = 4184030) : Kept msk ref (State.doSwitchStop s) := by
  unfold State.doSwitchStop
  repeat' first
    | with_reducible assumption
    | exact mask_sub hm rfl
    | with_reducible apply State.abortJobs_kept
    | with_reducible apply State.closeCuesEarly_kept
    | with_reducible apply State.count_kept
    | with_reducible apply State.cutCodec_kept
    | with_reducible apply State.discardAllTags_kept
    | with_reducible apply State.drainBefore_kept
    | with_reducible apply State.dropAcquisition_kept
    | with_reducible apply State.dropRound_kept
    | with_reducible apply State.endAll_kept
    | with_reducible apply State.onPlane_kept
    | with_reducible apply State.rateDropPulse_kept
    | with_reducible apply State.toCount_kept
    | with_reducible apply State.wchSync_kept
    | (intro x; refine (fun (hx : Kept msk ref x) => ?_) ?_; on_goal 1 => clear_value x)
    | (intro x; refine (fun (hx : Kept msk ref x.1) => ?_) ?_; on_goal 1 => clear_value x)
    | (intro x; refine (fun (hx : Kept msk ref x.2) => ?_) ?_; on_goal 1 => clear_value x)
    | (intro x; clear_value x)
    | lift_lets
    | dsimp only
    | with_reducible apply ite_kept
    | intro _ _ _
    | intro _ _
    | fail_if_no_progress (with_reducible refine mk_kept ?_ rfl rfl rfl rfl rfl rfl rfl hm)
    | (with_reducible refine mk_sized ?_ rfl rfl ?_ ?_ ?_ ?_ ?_ hm <;> first | with_reducible assumption | with_reducible rfl | (simp; done))
    | dsimp only [x]
    | split

theorem State.doRelock_kept (s : State) (periods : Nat) (readings : List Int) (hs : Kept msk ref s) (hm : 21334 &&& msk = 21334) : Kept msk ref (State.doRelock s periods readings) := by
  unfold State.doRelock
  repeat' first
    | with_reducible assumption
    | exact mask_sub hm rfl
    | with_reducible apply State.forEach_kept
    | with_reducible apply State.onPlane_kept
    | with_reducible apply State.pass_kept
    | with_reducible apply State.relationNow_kept
    | with_reducible apply State.takePhase_kept
    | (intro x; refine (fun (hx : Kept msk ref x) => ?_) ?_; on_goal 1 => clear_value x)
    | (intro x; refine (fun (hx : Kept msk ref x.1) => ?_) ?_; on_goal 1 => clear_value x)
    | (intro x; refine (fun (hx : Kept msk ref x.2) => ?_) ?_; on_goal 1 => clear_value x)
    | (intro x; clear_value x)
    | lift_lets
    | dsimp only
    | with_reducible apply ite_kept
    | intro _ _ _
    | intro _ _
    | fail_if_no_progress (with_reducible refine mk_kept ?_ rfl rfl rfl rfl rfl rfl rfl hm)
    | (with_reducible refine mk_sized ?_ rfl rfl ?_ ?_ ?_ ?_ ?_ hm <;> first | with_reducible assumption | with_reducible rfl | (simp; done))
    | dsimp only [x]
    | split

theorem State.bypassNotches_kept (s : State) (ch : Nat) (hs : Kept msk ref s) (hm : 16902 &&& msk = 16902) : Kept msk ref (State.bypassNotches s ch) := by
  unfold State.bypassNotches
  repeat' first
    | with_reducible assumption
    | exact mask_sub hm rfl
    | with_reducible apply State.configFault_kept
    | with_reducible apply State.forEach_kept
    | with_reducible apply State.onChan_kept
    | (intro x; refine (fun (hx : Kept msk ref x) => ?_) ?_; on_goal 1 => clear_value x)
    | (intro x; refine (fun (hx : Kept msk ref x.1) => ?_) ?_; on_goal 1 => clear_value x)
    | (intro x; refine (fun (hx : Kept msk ref x.2) => ?_) ?_; on_goal 1 => clear_value x)
    | (intro x; clear_value x)
    | lift_lets
    | dsimp only
    | intro _ _ _

theorem State.ringAfterSwitch_kept (s : State) (n : Nat) (hs : Kept msk ref s) (hm : 1590086 &&& msk = 1590086) : Kept msk ref (State.ringAfterSwitch s n) := by
  unfold State.ringAfterSwitch
  repeat' first
    | with_reducible assumption
    | exact mask_sub hm rfl
    | with_reducible apply State.onTrg_kept
    | with_reducible apply State.pushMark_kept
    | with_reducible apply State.ringRestart_kept
    | with_reducible apply State.startBudget_kept
    | (intro x; refine (fun (hx : Kept msk ref x) => ?_) ?_; on_goal 1 => clear_value x)
    | lift_lets
    | dsimp only
    | with_reducible apply ite_kept

theorem State.doSwitchResume_kept (s : State) (hs : Kept msk ref s) (hm : 1995606 &&& msk = 1995606) : Kept msk ref (State.doSwitchResume s) := by
  unfold State.doSwitchResume
  repeat' first
    | with_reducible assumption
    | exact mask_sub hm rfl
    | with_reducible apply State.beginAll_kept
    | with_reducible apply State.bypassNotches_kept
    | with_reducible apply State.chnSync_kept
    | with_reducible apply State.forEach_kept
    | with_reducible apply State.onPlane_kept
    | with_reducible apply State.onRegion_kept
    | with_reducible apply State.ringAfterSwitch_kept
    | with_reducible apply State.storeDwell_kept
    | with_reducible apply State.wrB_kept
    | (intro x; refine (fun (hx : Kept msk ref x) => ?_) ?_; on_goal 1 => clear_value x)
    | lift_lets
    | dsimp only
    | with_reducible apply ite_kept
    | intro _ _ _
    | intro _ _
    | fail_if_no_progress (with_reducible refine mk_kept ?_ rfl rfl rfl rfl rfl rfl rfl hm)
    | (with_reducible refine mk_sized ?_ rfl rfl ?_ ?_ ?_ ?_ ?_ hm <;> first | with_reducible assumption | with_reducible rfl | (simp; done))
    | dsimp only [x]
    | split

theorem State.verifyCoded_kept (s : State) (j : CJob) (bad : Upsets) (blocks : Nat) (hs : Kept msk ref s) (hm : 518 &&& msk = 518) : Kept msk ref (State.verifyCoded s j bad blocks) := by
  unfold State.verifyCoded
  repeat' first
    | with_reducible assumption
    | exact mask_sub hm rfl
    | with_reducible apply State.verifyAll_kept

theorem State.showCodec_kept (s : State) (hs : Kept msk ref s) (hm : 4 &&& msk = 4) : Kept msk ref (State.showCodec s) := by
  unfold State.showCodec
  repeat' first
    | with_reducible assumption
    | exact mask_sub hm rfl
    | with_reducible apply State.wrB_kept
    | with_reducible apply State.wr_kept

theorem State.endJob_kept (s : State) (j : CJob) (r : CRun) (status : Nat) (token : LWord) (hs : Kept msk ref s) (hm : 1050566 &&& msk = 1050566) : Kept msk ref (State.endJob s j r status token) := by
  unfold State.endJob
  repeat' first
    | with_reducible assumption
    | exact mask_sub hm rfl
    | with_reducible apply State.finishCmd_kept
    | with_reducible apply State.pushOutput_kept
    | with_reducible apply State.showCodec_kept
    | with_reducible apply State.wr_kept
    | (intro x; refine (fun (hx : Kept msk ref x) => ?_) ?_; on_goal 1 => clear_value x)
    | lift_lets
    | dsimp only
    | with_reducible apply ite_kept
    | intro _ _ _
    | intro _ _
    | fail_if_no_progress (with_reducible refine mk_kept ?_ rfl rfl rfl rfl rfl rfl rfl hm)

theorem State.doCodecStart_kept (s : State) (hs : Kept msk ref s) (hm : 1574854 &&& msk = 1574854) : Kept msk ref (State.doCodecStart s) := by
  unfold State.doCodecStart
  repeat' first
    | with_reducible assumption
    | exact mask_sub hm rfl
    | with_reducible apply State.endJob_kept
    | with_reducible apply State.runPort_kept
    | with_reducible apply State.showCodec_kept
    | (intro x; refine (fun (hx : Kept msk ref x) => ?_) ?_; on_goal 1 => clear_value x)
    | lift_lets
    | dsimp only
    | with_reducible apply ite_kept
    | intro _ _ _
    | intro _ _
    | fail_if_no_progress (with_reducible refine mk_kept ?_ rfl rfl rfl rfl rfl rfl rfl hm)
    | (with_reducible refine mk_sized ?_ rfl rfl ?_ ?_ ?_ ?_ ?_ hm <;> first | with_reducible assumption | with_reducible rfl | (simp; done))
    | dsimp only [x]
    | split

theorem State.readJob_kept (s : State) (hs : Kept msk ref s) (hm : 1572880 &&& msk = 1572880) : Kept msk ref (State.readJob s) := by
  unfold State.readJob
  repeat' first
    | with_reducible assumption
    | exact mask_sub hm rfl
    | with_reducible apply State.runPortTo_kept

theorem State.doCodecComplete_kept (s : State) (bad : Upsets) (hs : Kept msk ref s) (hm : 1574870 &&& msk = 1574870) : Kept msk ref (State.doCodecComplete s bad) := by
  unfold State.doCodecComplete
  repeat' first
    | with_reducible assumption
    | exact mask_sub hm rfl
    | with_reducible apply State.endJob_kept
    | with_reducible apply State.readJob_kept
    | with_reducible apply State.verifyCoded_kept
    | (intro x; refine (fun (hx : Kept msk ref x) => ?_) ?_; on_goal 1 => clear_value x)
    | (intro x; refine (fun (hx : Kept msk ref x.1) => ?_) ?_; on_goal 1 => clear_value x)
    | (intro x; refine (fun (hx : Kept msk ref x.2) => ?_) ?_; on_goal 1 => clear_value x)
    | (intro x; clear_value x)
    | lift_lets
    | dsimp only
    | intro _ _ _
    | intro _ _
    | dsimp only [x]
    | split

theorem State.stopJob_kept (s : State) (j : CJob) (status : Nat) (hs : Kept msk ref s) (hm : 1050566 &&& msk = 1050566) : Kept msk ref (State.stopJob s j status) := by
  unfold State.stopJob
  repeat' first
    | with_reducible assumption
    | exact mask_sub hm rfl
    | with_reducible apply State.endJob_kept
    | with_reducible apply State.freeUpsets_kept
    | with_reducible apply State.verifyCoded_kept
    | (intro x; refine (fun (hx : Kept msk ref x) => ?_) ?_; on_goal 1 => clear_value x)
    | (intro x; refine (fun (hx : Kept msk ref x.1) => ?_) ?_; on_goal 1 => clear_value x)
    | (intro x; refine (fun (hx : Kept msk ref x.2) => ?_) ?_; on_goal 1 => clear_value x)
    | (intro x; clear_value x)
    | lift_lets
    | dsimp only
    | with_reducible apply ite_kept

theorem State.stopJobs_kept (s : State) (status : Nat) (hs : Kept msk ref s) (hm : 1574854 &&& msk = 1574854) : Kept msk ref (State.stopJobs s status) := by
  unfold State.stopJobs
  repeat' first
    | with_reducible assumption
    | exact mask_sub hm rfl
    | with_reducible apply State.forEach_kept
    | with_reducible apply State.runPort_kept
    | with_reducible apply State.stopJob_kept
    | (intro x; refine (fun (hx : Kept msk ref x) => ?_) ?_; on_goal 1 => clear_value x)
    | lift_lets
    | dsimp only
    | intro _ _ _

theorem State.doCodecCancel_kept (s : State) (hs : Kept msk ref s) (hm : 1574854 &&& msk = 1574854) : Kept msk ref (State.doCodecCancel s) := by
  unfold State.doCodecCancel
  repeat' first
    | with_reducible assumption
    | exact mask_sub hm rfl
    | with_reducible apply State.onPrm_kept
    | with_reducible apply State.stopJobs_kept

theorem State.onLane_kept (s : State) (n : Nat) (f : Lane → Lane) (h : Kept msk ref s) (hm : 128 &&& msk = 128) : Kept msk ref (State.onLane s n f) :=
  Kept.size h rfl rfl rfl rfl (by simp [State.onLane, State.onLnk]) rfl rfl hm rfl

theorem State.setLaneState_kept (s : State) (n st : Nat) (hs : Kept msk ref s) (hm : 4 &&& msk = 4) : Kept msk ref (State.setLaneState s n st) := by
  unfold State.setLaneState
  repeat' first
    | with_reducible assumption
    | exact mask_sub hm rfl
    | with_reducible apply State.wr_kept

theorem State.toUi_kept (s : State) (p u : Nat) (hs : Kept msk ref s) (hm : 16 &&& msk = 16) : Kept msk ref (State.toUi s p u) := by
  unfold State.toUi
  repeat' first
    | with_reducible assumption
    | exact mask_sub hm rfl
    | with_reducible apply State.pass_kept

theorem State.laneRun_kept (s : State) (n : Nat) (hs : Kept msk ref s) (hm : 128 &&& msk = 128) : Kept msk ref (State.laneRun s n) := by
  unfold State.laneRun
  repeat' first
    | with_reducible assumption
    | exact mask_sub hm rfl
    | with_reducible apply State.onLane_kept
    | dsimp only
    | with_reducible apply ite_kept

theorem State.runPath_kept (s : State) (p : Nat) (hs : Kept msk ref s) (hm : 128 &&& msk = 128) : Kept msk ref (State.runPath s p) := by
  unfold State.runPath
  repeat' first
    | with_reducible assumption
    | exact mask_sub hm rfl
    | with_reducible apply State.forEach_kept
    | with_reducible apply State.laneRun_kept
    | dsimp only
    | intro _ _ _

theorem State.runLanes_kept (s : State) (hs : Kept msk ref s) (hm : 128 &&& msk = 128) : Kept msk ref (State.runLanes s) := by
  unfold State.runLanes
  repeat' first
    | with_reducible assumption
    | exact mask_sub hm rfl
    | with_reducible apply State.forEach_kept
    | with_reducible apply State.laneRun_kept
    | dsimp only
    | intro _ _ _

theorem State.awaitRoom_kept (s : State) (p : Nat) (zero : Bool) (hs : Kept msk ref s) (hm : 144 &&& msk = 144) : Kept msk ref (State.awaitRoom s p zero) := by
  unfold State.awaitRoom
  repeat' first
    | with_reducible assumption
    | exact mask_sub hm rfl
    | with_reducible apply State.runPath_kept
    | with_reducible apply State.toUi_kept
    | (intro x; refine (fun (hx : Kept msk ref x) => ?_) ?_; on_goal 1 => clear_value x)
    | (intro x; refine (fun (hx : Kept msk ref x.1) => ?_) ?_; on_goal 1 => clear_value x)
    | (intro x; refine (fun (hx : Kept msk ref x.2) => ?_) ?_; on_goal 1 => clear_value x)
    | (intro x; clear_value x)
    | lift_lets
    | dsimp only
    | with_reducible apply ite_kept
    | intro _ _ _
    | intro _ _
    | dsimp only [x]
    | split

theorem State.wakeLane_kept (s : State) (n : Nat) (hs : Kept msk ref s) (hm : 132 &&& msk = 132) : Kept msk ref (State.wakeLane s n) := by
  unfold State.wakeLane
  repeat' first
    | with_reducible assumption
    | exact mask_sub hm rfl
    | with_reducible apply State.onLane_kept
    | with_reducible apply State.wr_kept
    | dsimp only
    | with_reducible apply ite_kept

theorem State.putOnLane_kept (s : State) (n : Nat) (f : TxFrame) (hs : Kept msk ref s) (hm : 132 &&& msk = 132) : Kept msk ref (State.putOnLane s n f) := by
  unfold State.putOnLane
  repeat' first
    | with_reducible assumption
    | exact mask_sub hm rfl
    | with_reducible apply State.onLane_kept
    | with_reducible apply State.wakeLane_kept

theorem State.putOnSlot_kept (s : State) (n : Nat) (f : TxFrame) (hs : Kept msk ref s) (hm : 128 &&& msk = 128) : Kept msk ref (State.putOnSlot s n f) := by
  unfold State.putOnSlot
  repeat' first
    | with_reducible assumption
    | exact mask_sub hm rfl
    | with_reducible apply State.onLane_kept

theorem State.txDiscard_kept (s : State) (c : Nat) (hs : Kept msk ref s) (hm : 4 &&& msk = 4) : Kept msk ref (State.txDiscard s c) := by
  unfold State.txDiscard
  repeat' first
    | with_reducible assumption
    | exact mask_sub hm rfl
    | with_reducible apply State.satAdd_kept

theorem State.assignFrame_kept (s : State) (p : Nat) (f : TxFrame) (hs : Kept msk ref s) (hm : 132 &&& msk = 132) : Kept msk ref (State.assignFrame s p f) := by
  unfold State.assignFrame
  repeat' first
    | with_reducible assumption
    | exact mask_sub hm rfl
    | with_reducible apply State.putOnLane_kept
    | with_reducible apply State.putOnSlot_kept
    | with_reducible apply State.txDiscard_kept
    | (intro x; refine (fun (hx : Kept msk ref x) => ?_) ?_; on_goal 1 => clear_value x)
    | (intro x; refine (fun (hx : Kept msk ref x.1) => ?_) ?_; on_goal 1 => clear_value x)
    | (intro x; refine (fun (hx : Kept msk ref x.2) => ?_) ?_; on_goal 1 => clear_value x)
    | (intro x; clear_value x)
    | lift_lets
    | dsimp only
    | with_reducible apply ite_kept
    | intro _ _ _
    | intro _ _
    | fail_if_no_progress (with_reducible refine mk_kept ?_ rfl rfl rfl rfl rfl rfl rfl hm)
    | (with_reducible refine mk_sized ?_ rfl rfl ?_ ?_ ?_ ?_ ?_ hm <;> first | with_reducible assumption | with_reducible rfl | (simp; done))
    | dsimp only [x]
    | split

theorem State.showCredits_kept (s : State) (p : Nat) (hs : Kept msk ref s) (hm : 4 &&& msk = 4) : Kept msk ref (State.showCredits s p) := by
  unfold State.showCredits
  repeat' first
    | with_reducible assumption
    | exact mask_sub hm rfl
    | with_reducible apply State.wr_kept

theorem State.resetCredits_kept (s : State) (p : Nat) (hs : Kept msk ref s) (hm : 132 &&& msk = 132) : Kept msk ref (State.resetCredits s p) := by
  unfold State.resetCredits
  repeat' first
    | with_reducible assumption
    | exact mask_sub hm rfl
    | with_reducible apply State.onLnk_kept
    | with_reducible apply State.showCredits_kept
    | with_reducible apply State.wr_kept
    | (intro x; refine (fun (hx : Kept msk ref x) => ?_) ?_; on_goal 1 => clear_value x)
    | (intro x; refine (fun (hx : Kept msk ref x.1) => ?_) ?_; on_goal 1 => clear_value x)
    | (intro x; refine (fun (hx : Kept msk ref x.2) => ?_) ?_; on_goal 1 => clear_value x)
    | (intro x; clear_value x)
    | lift_lets
    | dsimp only

theorem State.train_kept (s : State) (n : Nat) (hs : Kept msk ref s) (hm : 128 &&& msk = 128) : Kept msk ref (State.train s n) := by
  unfold State.train
  repeat' first
    | with_reducible assumption
    | exact mask_sub hm rfl
    | with_reducible apply State.onLane_kept

theorem State.freeScr_kept (s : State) (hs : Kept msk ref s) (hm : 2 &&& msk = 2) : Kept msk ref (State.freeScr s).2 := by
  unfold State.freeScr
  repeat' first
    | with_reducible assumption
    | exact mask_sub hm rfl
    | with_reducible apply State.freeBelow_kept

theorem State.startAttempt_kept (s : State) (n : Nat) (hs : Kept msk ref s) (hm : 134 &&& msk = 134) : Kept msk ref (State.startAttempt s n) := by
  unfold State.startAttempt
  repeat' first
    | with_reducible assumption
    | exact mask_sub hm rfl
    | with_reducible apply State.count_kept
    | with_reducible apply State.freeScr_kept
    | with_reducible apply State.onLane_kept
    | with_reducible apply State.setLaneState_kept
    | with_reducible apply State.train_kept
    | with_reducible apply State.wr_kept
    | (intro x; refine (fun (hx : Kept msk ref x) => ?_) ?_; on_goal 1 => clear_value x)
    | (intro x; refine (fun (hx : Kept msk ref x.1) => ?_) ?_; on_goal 1 => clear_value x)
    | (intro x; refine (fun (hx : Kept msk ref x.2) => ?_) ?_; on_goal 1 => clear_value x)
    | (intro x; clear_value x)
    | lift_lets
    | dsimp only
    | with_reducible apply ite_kept

theorem State.doBringupAttempt_kept (s : State) (n : Nat) (hs : Kept msk ref s) (hm : 134 &&& msk = 134) : Kept msk ref (State.doBringupAttempt s n) := by
  unfold State.doBringupAttempt
  repeat' first
    | with_reducible assumption
    | exact mask_sub hm rfl
    | with_reducible apply State.onLane_kept
    | with_reducible apply State.startAttempt_kept
    | dsimp only
    | with_reducible apply ite_kept

theorem State.crcFailed_kept (s : State) (n : Nat) (hs : Kept msk ref s) (hm : 4 &&& msk = 4) : Kept msk ref (State.crcFailed s n) := by
  unfold State.crcFailed
  repeat' first
    | with_reducible assumption
    | exact mask_sub hm rfl
    | with_reducible apply State.count_kept
    | with_reducible apply State.flag_kept
    | with_reducible apply State.satAdd_kept

theorem State.takeBringup_kept (s : State) (n : Nat) (crcOk : Bool) (w : LWord) (hs : Kept msk ref s) (hm : 132 &&& msk = 132) : Kept msk ref (State.takeBringup s n crcOk w) := by
  unfold State.takeBringup
  repeat' first
    | with_reducible assumption
    | exact mask_sub hm rfl
    | with_reducible apply State.onLane_kept
    | with_reducible apply State.satAdd_kept
    | with_reducible apply State.train_kept
    | with_reducible apply State.wrB_kept
    | with_reducible apply State.wr_kept
    | (intro x; refine (fun (hx : Kept msk ref x) => ?_) ?_; on_goal 1 => clear_value x)
    | (intro x; refine (fun (hx : Kept msk ref x.1) => ?_) ?_; on_goal 1 => clear_value x)
    | (intro x; refine (fun (hx : Kept msk ref x.2) => ?_) ?_; on_goal 1 => clear_value x)
    | (intro x; clear_value x)
    | lift_lets
    | dsimp only
    | with_reducible apply ite_kept

theorem State.rxAdvance_kept (s : State) (n words : Nat) (hs : Kept msk ref s) (hm : 128 &&& msk = 128) : Kept msk ref (State.rxAdvance s n words) := by
  unfold State.rxAdvance
  repeat' first
    | with_reducible assumption
    | exact mask_sub hm rfl
    | with_reducible apply State.onLane_kept

theorem State.doBringupFrame_kept (s : State) (n : Nat) (crcOk : Bool) (w : LWord) (hs : Kept msk ref s) (hm : 132 &&& msk = 132) : Kept msk ref (State.doBringupFrame s n crcOk w) := by
  unfold State.doBringupFrame
  repeat' first
    | with_reducible assumption
    | exact mask_sub hm rfl
    | with_reducible apply State.crcFailed_kept
    | with_reducible apply State.rxAdvance_kept
    | with_reducible apply State.takeBringup_kept
    | (intro x; refine (fun (hx : Kept msk ref x) => ?_) ?_; on_goal 1 => clear_value x)
    | (intro x; refine (fun (hx : Kept msk ref x.1) => ?_) ?_; on_goal 1 => clear_value x)
    | (intro x; refine (fun (hx : Kept msk ref x.2) => ?_) ?_; on_goal 1 => clear_value x)
    | (intro x; clear_value x)
    | lift_lets
    | dsimp only
    | with_reducible apply ite_kept

theorem State.doLaneUp_kept (s : State) (n : Nat) (hs : Kept msk ref s) (hm : 646 &&& msk = 646) : Kept msk ref (State.doLaneUp s n) := by
  unfold State.doLaneUp
  repeat' first
    | with_reducible assumption
    | exact mask_sub hm rfl
    | with_reducible apply State.conditionOverAt_kept
    | with_reducible apply State.freeScr_kept
    | with_reducible apply State.onLane_kept
    | with_reducible apply State.resetCredits_kept
    | with_reducible apply State.setLaneState_kept
    | with_reducible apply State.wr_kept
    | (intro x; refine (fun (hx : Kept msk ref x) => ?_) ?_; on_goal 1 => clear_value x)
    | (intro x; refine (fun (hx : Kept msk ref x.1) => ?_) ?_; on_goal 1 => clear_value x)
    | (intro x; refine (fun (hx : Kept msk ref x.2) => ?_) ?_; on_goal 1 => clear_value x)
    | (intro x; clear_value x)
    | lift_lets
    | dsimp only
    | with_reducible apply ite_kept

theorem State.doBringupTimeout_kept (s : State) (n : Nat) (hs : Kept msk ref s) (hm : 662 &&& msk = 662) : Kept msk ref (State.doBringupTimeout s n) := by
  unfold State.doBringupTimeout
  repeat' first
    | with_reducible assumption
    | exact mask_sub hm rfl
    | with_reducible apply State.count_kept
    | with_reducible apply State.onLane_kept
    | with_reducible apply State.report_kept
    | with_reducible apply State.satAdd_kept
    | with_reducible apply State.setLaneState_kept
    | with_reducible apply State.toCount_kept
    | (intro x; refine (fun (hx : Kept msk ref x) => ?_) ?_; on_goal 1 => clear_value x)
    | lift_lets
    | dsimp only
    | with_reducible apply ite_kept

theorem State.doWaitExpiry_kept (s : State) (n : Nat) (hs : Kept msk ref s) (hm : 150 &&& msk = 150) : Kept msk ref (State.doWaitExpiry s n) := by
  unfold State.doWaitExpiry
  repeat' first
    | with_reducible assumption
    | exact mask_sub hm rfl
    | with_reducible apply State.startAttempt_kept
    | with_reducible apply State.toCount_kept
    | dsimp only
    | with_reducible apply ite_kept

theorem State.moveRead_kept (s : State) (p : Nat) (f : TxFrame) (hs : Kept msk ref s) (hm : 128 &&& msk = 128) : Kept msk ref (State.moveRead s p f) := by
  unfold State.moveRead
  repeat' first
    | with_reducible assumption
    | exact mask_sub hm rfl
    | with_reducible apply State.onLnk_kept
    | (intro x; refine (fun (hx : Kept msk ref x) => ?_) ?_; on_goal 1 => clear_value x)
    | (intro x; refine (fun (hx : Kept msk ref x.1) => ?_) ?_; on_goal 1 => clear_value x)
    | (intro x; refine (fun (hx : Kept msk ref x.2) => ?_) ?_; on_goal 1 => clear_value x)
    | (intro x; clear_value x)
    | lift_lets
    | dsimp only
    | with_reducible apply ite_kept

theorem State.rehome_kept (s : State) (p : Nat) (f : TxFrame) (hs : Kept msk ref s) (hm : 132 &&& msk = 132) : Kept msk ref (State.rehome s p f) := by
  unfold State.rehome
  repeat' first
    | with_reducible assumption
    | exact mask_sub hm rfl
    | with_reducible apply State.assignFrame_kept
    | with_reducible apply State.moveRead_kept
    | with_reducible apply State.txDiscard_kept
    | dsimp only
    | with_reducible apply ite_kept

theorem State.dropHeld_kept (s : State) (p : Nat) (hs : Kept msk ref s) (hm : 132 &&& msk = 132) : Kept msk ref (State.dropHeld s p) := by
  unfold State.dropHeld
  repeat' first
    | with_reducible assumption
    | exact mask_sub hm rfl
    | with_reducible apply State.forEach_kept
    | with_reducible apply State.onLnk_kept
    | with_reducible apply State.satAdd_kept
    | (intro x; refine (fun (hx : Kept msk ref x) => ?_) ?_; on_goal 1 => clear_value x)
    | lift_lets
    | dsimp only
    | intro _ _ _

theorem State.leaveUp_kept (s : State) (n st : Nat) (seen : Bool) (hs : Kept msk ref s) (hm : 710 &&& msk = 710) : Kept msk ref (State.leaveUp s n st seen) := by
  unfold State.leaveUp
  repeat' first
    | with_reducible assumption
    | exact mask_sub hm rfl
    | with_reducible apply State.count_kept
    | with_reducible apply State.dropHeld_kept
    | with_reducible apply State.dropRound_kept
    | with_reducible apply State.flag_kept
    | with_reducible apply State.forEach_kept
    | with_reducible apply State.laneRun_kept
    | with_reducible apply State.onLane_kept
    | with_reducible apply State.rehome_kept
    | with_reducible apply State.report_kept
    | with_reducible apply State.setLaneState_kept
    | with_reducible apply State.wr_kept
    | (intro x; refine (fun (hx : Kept msk ref x) => ?_) ?_; on_goal 1 => clear_value x)
    | (intro x; refine (fun (hx : Kept msk ref x.1) => ?_) ?_; on_goal 1 => clear_value x)
    | (intro x; refine (fun (hx : Kept msk ref x.2) => ?_) ?_; on_goal 1 => clear_value x)
    | (intro x; clear_value x)
    | lift_lets
    | dsimp only
    | with_reducible apply ite_kept
    | intro _ _ _

theorem State.laneDown_kept (s : State) (n : Nat) (hs : Kept msk ref s) (hm : 710 &&& msk = 710) : Kept msk ref (State.laneDown s n) := by
  unfold State.laneDown
  repeat' first
    | with_reducible assumption
    | exact mask_sub hm rfl
    | with_reducible apply State.leaveUp_kept
    | with_reducible apply State.startAttempt_kept
    | dsimp only
    | with_reducible apply ite_kept

theorem State.laneOff_kept (s : State) (n : Nat) (hs : Kept msk ref s) (hm : 710 &&& msk = 710) : Kept msk ref (State.laneOff s n) := by
  unfold State.laneOff
  repeat' first
    | with_reducible assumption
    | exact mask_sub hm rfl
    | with_reducible apply State.leaveUp_kept
    | with_reducible apply State.onLane_kept
    | with_reducible apply State.setLaneState_kept
    | dsimp only
    | with_reducible apply ite_kept

theorem State.laneStart_kept (s : State) (n : Nat) (hs : Kept msk ref s) (hm : 134 &&& msk = 134) : Kept msk ref (State.laneStart s n) := by
  unfold State.laneStart
  repeat' first
    | with_reducible assumption
    | exact mask_sub hm rfl
    | with_reducible apply State.startAttempt_kept
    | dsimp only
    | with_reducible apply ite_kept

theorem State.doLossOfSignal_kept (s : State) (n : Nat) (hs : Kept msk ref s) (hm : 710 &&& msk = 710) : Kept msk ref (State.doLossOfSignal s n) := by
  unfold State.doLossOfSignal
  repeat' first
    | with_reducible assumption
    | exact mask_sub hm rfl
    | with_reducible apply State.laneDown_kept
    | with_reducible apply State.onLane_kept
    | (intro x; refine (fun (hx : Kept msk ref x) => ?_) ?_; on_goal 1 => clear_value x)
    | (intro x; refine (fun (hx : Kept msk ref x.1) => ?_) ?_; on_goal 1 => clear_value x)
    | (intro x; refine (fun (hx : Kept msk ref x.2) => ?_) ?_; on_goal 1 => clear_value x)
    | (intro x; clear_value x)
    | lift_lets
    | dsimp only
    | with_reducible apply ite_kept

theorem State.doPartnerTraining_kept (s : State) (n : Nat) (hs : Kept msk ref s) (hm : 710 &&& msk = 710) : Kept msk ref (State.doPartnerTraining s n) := by
  unfold State.doPartnerTraining
  repeat' first
    | with_reducible assumption
    | exact mask_sub hm rfl
    | with_reducible apply State.laneDown_kept
    | dsimp only
    | with_reducible apply ite_kept

theorem State.doRetrain_kept (s : State) (n : Nat) (hs : Kept msk ref s) (hm : 710 &&& msk = 710) : Kept msk ref (State.doRetrain s n) := by
  unfold State.doRetrain
  repeat' first
    | with_reducible assumption
    | exact mask_sub hm rfl
    | with_reducible apply State.laneDown_kept

theorem State.doLanePllUnlock_kept (s : State) (n : Nat) (hs : Kept msk ref s) (hm : 710 &&& msk = 710) : Kept msk ref (State.doLanePllUnlock s n) := by
  unfold State.doLanePllUnlock
  repeat' first
    | with_reducible assumption
    | exact mask_sub hm rfl
    | with_reducible apply State.laneOff_kept
    | with_reducible apply State.leaveUp_kept
    | with_reducible apply State.onLane_kept
    | (intro x; refine (fun (hx : Kept msk ref x) => ?_) ?_; on_goal 1 => clear_value x)
    | lift_lets
    | dsimp only
    | with_reducible apply ite_kept

theorem State.doSeedReceived_kept (s : State) (n seed : Nat) (hs : Kept msk ref s) (hm : 132 &&& msk = 132) : Kept msk ref (State.doSeedReceived s n seed) := by
  unfold State.doSeedReceived
  repeat' first
    | with_reducible assumption
    | exact mask_sub hm rfl
    | with_reducible apply State.flag_kept
    | with_reducible apply State.onLane_kept
    | with_reducible apply State.satAdd_kept
    | dsimp only
    | with_reducible apply ite_kept

theorem State.enterRealign_kept (s : State) (n : Nat) (stuffing : Bool) (hs : Kept msk ref s) (hm : 132 &&& msk = 132) : Kept msk ref (State.enterRealign s n stuffing) := by
  unfold State.enterRealign
  repeat' first
    | with_reducible assumption
    | exact mask_sub hm rfl
    | with_reducible apply State.count_kept
    | with_reducible apply State.flag_kept
    | with_reducible apply State.onLane_kept
    | with_reducible apply State.satAdd_kept
    | with_reducible apply State.wr_kept
    | (intro x; refine (fun (hx : Kept msk ref x) => ?_) ?_; on_goal 1 => clear_value x)
    | lift_lets
    | dsimp only
    | with_reducible apply ite_kept

theorem State.doRealign_kept (s : State) (n : Nat) (stuffing : Bool) (bits : Nat) (hs : Kept msk ref s) (hm : 132 &&& msk = 132) : Kept msk ref (State.doRealign s n stuffing bits) := by
  unfold State.doRealign
  repeat' first
    | with_reducible assumption
    | exact mask_sub hm rfl
    | with_reducible apply State.enterRealign_kept
    | dsimp only
    | with_reducible apply ite_kept

theorem State.doRealignTimeout_kept (s : State) (n : Nat) (hs : Kept msk ref s) (hm : 726 &&& msk = 726) : Kept msk ref (State.doRealignTimeout s n) := by
  unfold State.doRealignTimeout
  repeat' first
    | with_reducible assumption
    | exact mask_sub hm rfl
    | with_reducible apply State.laneDown_kept
    | with_reducible apply State.toCount_kept
    | dsimp only
    | with_reducible apply ite_kept

theorem State.doSeedFound_kept (s : State) (n seed : Nat) (followed : Bool) (hs : Kept msk ref s) (hm : 132 &&& msk = 132) : Kept msk ref (State.doSeedFound s n seed followed) := by
  unfold State.doSeedFound
  repeat' first
    | with_reducible assumption
    | exact mask_sub hm rfl
    | with_reducible apply State.enterRealign_kept
    | with_reducible apply State.onLane_kept
    | with_reducible apply State.train_kept
    | with_reducible apply State.wr_kept
    | dsimp only
    | with_reducible apply ite_kept

theorem State.doIdleEntry_kept (s : State) (n : Nat) (hs : Kept msk ref s) (hm : 148 &&& msk = 148) : Kept msk ref (State.doIdleEntry s n) := by
  unfold State.doIdleEntry
  repeat' first
    | with_reducible assumption
    | exact mask_sub hm rfl
    | with_reducible apply State.count_kept
    | with_reducible apply State.laneRun_kept
    | with_reducible apply State.onLane_kept
    | with_reducible apply State.toUi_kept
    | with_reducible apply State.wr_kept
    | (intro x; refine (fun (hx : Kept msk ref x) => ?_) ?_; on_goal 1 => clear_value x)
    | (intro x; refine (fun (hx : Kept msk ref x.1) => ?_) ?_; on_goal 1 => clear_value x)
    | (intro x; refine (fun (hx : Kept msk ref x.2) => ?_) ?_; on_goal 1 => clear_value x)
    | (intro x; clear_value x)
    | lift_lets
    | dsimp only
    | with_reducible apply ite_kept

theorem State.doHushReceived_kept (s : State) (n : Nat) (hs : Kept msk ref s) (hm : 4 &&& msk = 4) : Kept msk ref (State.doHushReceived s n) := by
  unfold State.doHushReceived
  repeat' first
    | with_reducible assumption
    | exact mask_sub hm rfl
    | with_reducible apply State.wr_kept
    | dsimp only
    | with_reducible apply ite_kept

theorem State.doFastExit_kept (s : State) (n : Nat) (hs : Kept msk ref s) (hm : 132 &&& msk = 132) : Kept msk ref (State.doFastExit s n) := by
  unfold State.doFastExit
  repeat' first
    | with_reducible assumption
    | exact mask_sub hm rfl
    | with_reducible apply State.onLane_kept
    | with_reducible apply State.wr_kept
    | (intro x; refine (fun (hx : Kept msk ref x) => ?_) ?_; on_goal 1 => clear_value x)
    | (intro x; refine (fun (hx : Kept msk ref x.1) => ?_) ?_; on_goal 1 => clear_value x)
    | (intro x; refine (fun (hx : Kept msk ref x.2) => ?_) ?_; on_goal 1 => clear_value x)
    | (intro x; clear_value x)
    | lift_lets
    | dsimp only
    | with_reducible apply ite_kept

theorem State.doRefreshBurst_kept (s : State) (n : Nat) (hs : Kept msk ref s) (hm : 144 &&& msk = 144) : Kept msk ref (State.doRefreshBurst s n) := by
  unfold State.doRefreshBurst
  repeat' first
    | with_reducible assumption
    | exact mask_sub hm rfl
    | with_reducible apply State.count_kept
    | with_reducible apply State.onLane_kept
    | with_reducible apply State.toCount_kept
    | (intro x; refine (fun (hx : Kept msk ref x) => ?_) ?_; on_goal 1 => clear_value x)
    | lift_lets
    | dsimp only
    | with_reducible apply ite_kept

theorem State.doClrErr_kept (s : State) (hs : Kept msk ref s) (hm : 4 &&& msk = 4) : Kept msk ref (State.doClrErr s) := by
  unfold State.doClrErr
  repeat' first
    | with_reducible assumption
    | exact mask_sub hm rfl
    | with_reducible apply State.forEach_kept
    | with_reducible apply State.regPut_kept
    | dsimp only
    | intro _ _ _

theorem State.retractLoss_kept (s : State) (n : Nat) (hs : Kept msk ref s) (hm : 4 &&& msk = 4) : Kept msk ref (State.retractLoss s n) := by
  unfold State.retractLoss
  repeat' first
    | with_reducible assumption
    | exact mask_sub hm rfl
    | with_reducible apply State.wrB_kept
    | with_reducible apply State.wr_kept
    | dsimp only
    | with_reducible apply ite_kept
    | intro _ _ _
    | intro _ _
    | split

theorem State.shedLanes_kept (s : State) (ns : List Nat) (hs : Kept msk ref s) (hm : 710 &&& msk = 710) : Kept msk ref (State.shedLanes s ns) := by
  unfold State.shedLanes
  repeat' first
    | with_reducible assumption
    | exact mask_sub hm rfl
    | with_reducible apply State.forEach_kept
    | with_reducible apply State.laneOff_kept
    | with_reducible apply State.onLane_kept
    | with_reducible apply State.retractLoss_kept
    | dsimp only
    | intro _ _ _

theorem State.unshedLanes_kept (s : State) (ns : List Nat) (hs : Kept msk ref s) (hm : 134 &&& msk = 134) : Kept msk ref (State.unshedLanes s ns) := by
  unfold State.unshedLanes
  repeat' first
    | with_reducible assumption
    | exact mask_sub hm rfl
    | with_reducible apply State.forEach_kept
    | with_reducible apply State.laneStart_kept
    | with_reducible apply State.onLane_kept
    | dsimp only
    | intro _ _ _

theorem foldl_asm_kept {a : Type} {u : Assembly} {l : List a} {f : Assembly → a → Assembly} (h : Kept msk ref u.s)
    (hf : ∀ u x, Kept msk ref u.s → Kept msk ref (f u x).s) : Kept msk ref (l.foldl f u).s := by
  induction l generalizing u with
  | nil => exact h
  | cons x l ih => exact ih (hf u x h)
theorem OKept.map {a : Type} {o : Option a} {f : a → State} (h : ∀ x, Kept msk ref (f x)) : OKept msk ref (o.map f) := by
  cases o with
  | none => exact OKept.none
  | some x => exact OKept.some (h x)

theorem State.useCredit_kept (s : State) (p c : Nat) (hs : Kept msk ref s) (hm : 132 &&& msk = 132) : Kept msk ref (State.useCredit s p c) := by
  unfold State.useCredit
  repeat' first
    | with_reducible assumption
    | exact mask_sub hm rfl
    | with_reducible apply State.onLnk_kept
    | with_reducible apply State.showCredits_kept
    | dsimp only
    | with_reducible apply ite_kept

theorem State.holdCopy_kept (s : State) (p : Nat) (f : TxFrame) (hs : Kept msk ref s) (hm : 132 &&& msk = 132) : Kept msk ref (State.holdCopy s p f) := by
  unfold State.holdCopy
  repeat' first
    | with_reducible assumption
    | exact mask_sub hm rfl
    | with_reducible apply State.onLnk_kept
    | with_reducible apply State.satAdd_kept
    | (intro x; refine (fun (hx : Kept msk ref x) => ?_) ?_; on_goal 1 => clear_value x)
    | (intro x; refine (fun (hx : Kept msk ref x.1) => ?_) ?_; on_goal 1 => clear_value x)
    | (intro x; refine (fun (hx : Kept msk ref x.2) => ?_) ?_; on_goal 1 => clear_value x)
    | (intro x; clear_value x)
    | lift_lets
    | dsimp only
    | with_reducible apply ite_kept

theorem State.takeSeq_kept (s : State) (c : Nat) (hs : Kept msk ref s) (hm : 4 &&& msk = 4) : Kept msk ref (State.takeSeq s c).2 := by
  unfold State.takeSeq
  repeat' first
    | with_reducible assumption
    | exact mask_sub hm rfl
    | with_reducible apply State.count_kept
    | with_reducible apply State.wr_kept

theorem State.sendCopy_kept (s : State) (p : Nat) (f : TxFrame) (hs : Kept msk ref s) (hm : 132 &&& msk = 132) : Kept msk ref (State.sendCopy s p f) := by
  unfold State.sendCopy
  repeat' first
    | with_reducible assumption
    | exact mask_sub hm rfl
    | with_reducible apply State.assignFrame_kept
    | with_reducible apply State.txDiscard_kept
    | with_reducible apply State.useCredit_kept
    | dsimp only
    | with_reducible apply ite_kept

theorem State.sendFrame_kept (s : State) (p c ftype : Nat) (ws : List LWord) (locs : List Nat) (cut both : Bool) (hs : Kept msk ref s) (hm : 132 &&& msk = 132) : Kept msk ref (State.sendFrame s p c ftype ws locs cut both) := by
  unfold State.sendFrame
  repeat' first
    | with_reducible assumption
    | exact mask_sub hm rfl
    | with_reducible apply State.holdCopy_kept
    | with_reducible apply State.sendCopy_kept
    | with_reducible apply State.takeSeq_kept
    | with_reducible apply State.txDiscard_kept
    | (intro x; refine (fun (hx : Kept msk ref x) => ?_) ?_; on_goal 1 => clear_value x)
    | (intro x; refine (fun (hx : Kept msk ref x.1) => ?_) ?_; on_goal 1 => clear_value x)
    | (intro x; refine (fun (hx : Kept msk ref x.2) => ?_) ?_; on_goal 1 => clear_value x)
    | (intro x; clear_value x)
    | lift_lets
    | dsimp only
    | with_reducible apply ite_kept

theorem State.endCurrent_kept (s : State) (c : Nat) (hs : Kept msk ref s) (hm : 128 &&& msk = 128) : Kept msk ref (State.endCurrent s c) := by
  unfold State.endCurrent
  repeat' first
    | with_reducible assumption
    | exact mask_sub hm rfl
    | with_reducible apply State.onLnk_kept
    | dsimp only

theorem Assembly.goOn_kept (c q : Nat) (open_ : Bool) (a : Assembly) (hs : Kept msk ref a.s) (hm : 966 &&& msk = 966) : Kept msk ref (Assembly.goOn c q open_ a).s := by
  unfold Assembly.goOn
  repeat' first
    | with_reducible assumption
    | exact mask_sub hm rfl
    | with_reducible apply State.endCurrent_kept
    | with_reducible apply State.takeWord_kept
    | (intro x; refine (fun (hx : Kept msk ref x) => ?_) ?_; on_goal 1 => clear_value x)
    | lift_lets
    | dsimp only
    | with_reducible apply ite_kept
    | intro _ _ _
    | intro _ _
    | fail_if_no_progress (with_reducible refine mk_kept ?_ rfl rfl rfl rfl rfl rfl rfl hm)
    | (with_reducible refine mk_sized ?_ rfl rfl ?_ ?_ ?_ ?_ ?_ hm <;> first | with_reducible assumption | with_reducible rfl | (simp; done))
    | dsimp only [x]
    | split
    | with_reducible refine OKept.out ‹_ = some _› ?_
    | with_reducible refine fst_out ‹_ = (_, _)› ?_

theorem Assembly.begin__kept (p c : Nat) (a : Assembly) (hs : Kept msk ref a.s) (hm : 384 &&& msk = 384) : Kept msk ref (Assembly.begin_ p c a).s := by
  unfold Assembly.begin_
  repeat' first
    | with_reducible assumption
    | exact mask_sub hm rfl
    | with_reducible apply State.onLnk_kept
    | with_reducible apply State.startPacket_kept
    | (intro x; refine (fun (hx : Kept msk ref x) => ?_) ?_; on_goal 1 => clear_value x)
    | (intro x; refine (fun (hx : Kept msk ref x.1) => ?_) ?_; on_goal 1 => clear_value x)
    | (intro x; refine (fun (hx : Kept msk ref x.2) => ?_) ?_; on_goal 1 => clear_value x)
    | (intro x; clear_value x)
    | lift_lets
    | dsimp only
    | with_reducible apply ite_kept
    | intro _ _ _
    | intro _ _
    | fail_if_no_progress (with_reducible refine mk_kept ?_ rfl rfl rfl rfl rfl rfl rfl hm)
    | (with_reducible refine mk_sized ?_ rfl rfl ?_ ?_ ?_ ?_ ?_ hm <;> first | with_reducible assumption | with_reducible rfl | (simp; done))
    | dsimp only [x]
    | split

theorem Assembly.move_kept (p c : Nat) (a : Assembly) (hs : Kept msk ref a.s) (hm : 1990 &&& msk = 1990) : Kept msk ref (Assembly.move p c a).s := by
  unfold Assembly.move
  repeat' first
    | with_reducible assumption
    | exact mask_sub hm rfl
    | with_reducible apply Assembly.begin__kept
    | with_reducible apply Assembly.goOn_kept
    | with_reducible apply WriteUnit.begin__kept
    | with_reducible apply WriteUnit.goOn_kept
    | dsimp only
    | with_reducible apply ite_kept
    | intro _ _ _
    | intro _ _
    | fail_if_no_progress (with_reducible refine mk_kept ?_ rfl rfl rfl rfl rfl rfl rfl hm)
    | (with_reducible refine mk_sized ?_ rfl rfl ?_ ?_ ?_ ?_ ?_ hm <;> first | with_reducible assumption | with_reducible rfl | (simp; done))
    | split

theorem assemble_kept (s : State) (p c : Nat) (hs : Kept msk ref s) (hm : 1990 &&& msk = 1990) : Kept msk ref (assemble s p c).s := by
  unfold assemble
  repeat' first
    | with_reducible assumption
    | exact mask_sub hm rfl
    | with_reducible apply Assembly.move_kept
    | with_reducible apply WriteUnit.move_kept
    | dsimp only
    | with_reducible apply foldl_kept
    | with_reducible apply foldl_fst_kept
    | with_reducible apply foldl_snd_kept
    | with_reducible apply foldl_asm_kept
    | intro _ _ _

theorem State.setRun_kept (s : State) (p c : Nat) (both : Bool) (hs : Kept msk ref s) (hm : 128 &&& msk = 128) : Kept msk ref (State.setRun s p c both) := by
  unfold State.setRun
  repeat' first
    | with_reducible assumption
    | exact mask_sub hm rfl
    | with_reducible apply State.onLnk_kept
    | (intro x; refine (fun (hx : Kept msk ref x) => ?_) ?_; on_goal 1 => clear_value x)
    | (intro x; refine (fun (hx : Kept msk ref x.1) => ?_) ?_; on_goal 1 => clear_value x)
    | (intro x; refine (fun (hx : Kept msk ref x.2) => ?_) ?_; on_goal 1 => clear_value x)
    | (intro x; clear_value x)
    | lift_lets
    | dsimp only

theorem State.buildData_kept (s : State) (p c : Nat) (hs : Kept msk ref s) (hm : 1990 &&& msk = 1990) : Kept msk ref (State.buildData s p c) := by
  unfold State.buildData
  repeat' first
    | with_reducible assumption
    | exact mask_sub hm rfl
    | with_reducible apply State.sendFrame_kept
    | with_reducible apply State.setRun_kept
    | with_reducible apply assemble_kept
    | (intro x; refine (fun (hx : Kept msk ref x) => ?_) ?_; on_goal 1 => clear_value x)
    | (intro x; refine (fun (hx : Kept msk ref x.1) => ?_) ?_; on_goal 1 => clear_value x)
    | (intro x; refine (fun (hx : Kept msk ref x.2) => ?_) ?_; on_goal 1 => clear_value x)
    | (intro x; clear_value x)
    | lift_lets
    | dsimp only
    | with_reducible apply ite_kept

theorem State.tryData_kept (s : State) (p c : Nat) (hs : Kept msk ref s) (hm : 1990 &&& msk = 1990) : OKept msk ref (State.tryData s p c) := by
  unfold State.tryData
  repeat' first
    | with_reducible assumption
    | exact mask_sub hm rfl
    | with_reducible apply State.buildData_kept
    | with_reducible apply State.onLnk_kept
    | with_reducible apply State.sendCopy_kept
    | dsimp only
    | with_reducible apply ite_kept
    | with_reducible exact OKept.none
    | with_reducible apply OKept.some
    | with_reducible apply OKept.ite
    | intro _ _ _
    | intro _ _
    | fail_if_no_progress (with_reducible refine mk_kept ?_ rfl rfl rfl rfl rfl rfl rfl hm)
    | (with_reducible refine mk_sized ?_ rfl rfl ?_ ?_ ?_ ?_ ?_ hm <;> first | with_reducible assumption | with_reducible rfl | (simp; done))
    | split

theorem State.noteCreditWait_kept (s : State) (p : Nat) (memory : Bool) (hs : Kept msk ref s) (hm : 132 &&& msk = 132) : Kept msk ref (State.noteCreditWait s p memory) := by
  unfold State.noteCreditWait
  repeat' first
    | with_reducible assumption
    | exact mask_sub hm rfl
    | with_reducible apply State.onLnk_kept
    | with_reducible apply State.satAdd_kept
    | (intro x; refine (fun (hx : Kept msk ref x) => ?_) ?_; on_goal 1 => clear_value x)
    | (intro x; refine (fun (hx : Kept msk ref x.1) => ?_) ?_; on_goal 1 => clear_value x)
    | (intro x; refine (fun (hx : Kept msk ref x.2) => ?_) ?_; on_goal 1 => clear_value x)
    | (intro x; clear_value x)
    | lift_lets
    | dsimp only
    | with_reducible apply ite_kept

theorem State.clearHead_kept (s : State) (p : Nat) (hs : Kept msk ref s) (hm : 966 &&& msk = 966) : Kept msk ref (State.clearHead s p) := by
  unfold State.clearHead
  repeat' first
    | with_reducible assumption
    | exact mask_sub hm rfl
    | with_reducible apply State.holdCopy_kept
    | with_reducible apply State.startPacket_kept
    | with_reducible apply State.takePacket_kept
    | with_reducible apply State.takeSeq_kept
    | with_reducible apply State.txDiscard_kept
    | (intro x; refine (fun (hx : Kept msk ref x) => ?_) ?_; on_goal 1 => clear_value x)
    | (intro x; refine (fun (hx : Kept msk ref x.1) => ?_) ?_; on_goal 1 => clear_value x)
    | (intro x; refine (fun (hx : Kept msk ref x.2) => ?_) ?_; on_goal 1 => clear_value x)
    | (intro x; clear_value x)
    | lift_lets
    | dsimp only
    | with_reducible apply ite_kept
    | intro _ _ _
    | intro _ _
    | fail_if_no_progress (with_reducible refine mk_kept ?_ rfl rfl rfl rfl rfl rfl rfl hm)
    | (with_reducible refine mk_sized ?_ rfl rfl ?_ ?_ ?_ ?_ ?_ hm <;> first | with_reducible assumption | with_reducible rfl | (simp; done))
    | dsimp only [x]
    | split

theorem State.clearClass0_kept (s : State) (p : Nat) (hs : Kept msk ref s) (hm : 966 &&& msk = 966) : Kept msk ref (State.clearClass0 s p) := by
  unfold State.clearClass0
  repeat' first
    | with_reducible assumption
    | exact mask_sub hm rfl
    | with_reducible apply State.clearHead_kept
    | with_reducible apply State.forEach_kept
    | with_reducible apply State.onLnk_kept
    | with_reducible apply State.txDiscard_kept
    | (intro x; refine (fun (hx : Kept msk ref x) => ?_) ?_; on_goal 1 => clear_value x)
    | (intro x; refine (fun (hx : Kept msk ref x.1) => ?_) ?_; on_goal 1 => clear_value x)
    | (intro x; refine (fun (hx : Kept msk ref x.2) => ?_) ?_; on_goal 1 => clear_value x)
    | (intro x; clear_value x)
    | lift_lets
    | dsimp only
    | intro _ _ _

theorem State.tryClass0_kept (s : State) (p : Nat) (hs : Kept msk ref s) (hm : 966 &&& msk = 966) : OKept msk ref (State.tryClass0 s p) := by
  unfold State.tryClass0
  repeat' first
    | with_reducible assumption
    | exact mask_sub hm rfl
    | with_reducible apply State.onLnk_kept
    | with_reducible apply State.sendCopy_kept
    | with_reducible apply State.sendFrame_kept
    | with_reducible apply State.startPacket_kept
    | with_reducible apply State.takePacket_kept
    | (intro x; refine (fun (hx : Kept msk ref x) => ?_) ?_; on_goal 1 => clear_value x)
    | (intro x; refine (fun (hx : Kept msk ref x.1) => ?_) ?_; on_goal 1 => clear_value x)
    | (intro x; refine (fun (hx : Kept msk ref x.2) => ?_) ?_; on_goal 1 => clear_value x)
    | (intro x; clear_value x)
    | lift_lets
    | dsimp only
    | with_reducible apply ite_kept
    | with_reducible exact OKept.none
    | with_reducible apply OKept.some
    | with_reducible apply OKept.ite
    | intro _ _ _
    | intro _ _
    | fail_if_no_progress (with_reducible refine mk_kept ?_ rfl rfl rfl rfl rfl rfl rfl hm)
    | (with_reducible refine mk_sized ?_ rfl rfl ?_ ?_ ?_ ?_ ?_ hm <;> first | with_reducible assumption | with_reducible rfl | (simp; done))
    | dsimp only [x]
    | split

theorem State.memGo_kept (s : State) (p : Nat) (x : MemTx) (hs : Kept msk ref s) (hm : 1152 &&& msk = 1152) : Kept msk ref (State.memGo s p x).1 := by
  unfold State.memGo
  repeat' first
    | with_reducible assumption
    | exact mask_sub hm rfl
    | with_reducible apply State.count_kept
    | with_reducible apply State.onLnk_kept
    | with_reducible apply State.onPrm_kept
    | (intro x; refine (fun (hx : Kept msk ref x) => ?_) ?_; on_goal 1 => clear_value x)
    | (intro x; refine (fun (hx : Kept msk ref x.1) => ?_) ?_; on_goal 1 => clear_value x)
    | (intro x; refine (fun (hx : Kept msk ref x.2) => ?_) ?_; on_goal 1 => clear_value x)
    | (intro x; clear_value x)
    | lift_lets
    | dsimp only
    | with_reducible apply ite_kept
    | intro _ _ _
    | intro _ _
    | fail_if_no_progress (with_reducible refine mk_kept ?_ rfl rfl rfl rfl rfl rfl rfl hm)
    | (with_reducible refine mk_sized ?_ rfl rfl ?_ ?_ ?_ ?_ ?_ hm <;> first | with_reducible assumption | with_reducible rfl | (simp; done))
    | split

theorem State.tryMem_kept (s : State) (p pos : Nat) (hs : Kept msk ref s) (hm : 1156 &&& msk = 1156) : OKept msk ref (State.tryMem s p pos) := by
  unfold State.tryMem
  repeat' first
    | with_reducible assumption
    | exact mask_sub hm rfl
    | with_reducible apply State.memGo_kept
    | with_reducible apply State.onLnk_kept
    | with_reducible apply State.sendFrame_kept
    | (intro x; refine (fun (hx : Kept msk ref x) => ?_) ?_; on_goal 1 => clear_value x)
    | (intro x; refine (fun (hx : Kept msk ref x.1) => ?_) ?_; on_goal 1 => clear_value x)
    | (intro x; refine (fun (hx : Kept msk ref x.2) => ?_) ?_; on_goal 1 => clear_value x)
    | (intro x; clear_value x)
    | lift_lets
    | dsimp only
    | with_reducible apply ite_kept
    | with_reducible apply OKept.map
    | intro _
    | with_reducible exact OKept.none
    | with_reducible apply OKept.some
    | with_reducible apply OKept.ite

theorem firstOf_kept (s : State) (l : List (Option State)) (h : Kept msk ref s) (hl : ∀ o ∈ l, OKept msk ref o) :
    Kept msk ref (firstOf s l) := by
  induction l with
  | nil => exact h
  | cons o l ih =>
    cases o with
    | none => exact ih fun o ho => hl o (List.mem_cons_of_mem _ ho)
    | some t => exact OKept.out rfl (hl (some t) (by simp))

theorem State.discardPath_kept (s : State) (p : Nat) (hs : Kept msk ref s) (hm : 1990 &&& msk = 1990) : Kept msk ref (State.discardPath s p) := by
  unfold State.discardPath
  repeat' first
    | with_reducible assumption
    | exact mask_sub hm rfl
    | with_reducible apply State.buildData_kept
    | with_reducible apply State.forEach_kept
    | (intro x; refine (fun (hx : Kept msk ref x) => ?_) ?_; on_goal 1 => clear_value x)
    | (intro x; refine (fun (hx : Kept msk ref x.1) => ?_) ?_; on_goal 1 => clear_value x)
    | (intro x; refine (fun (hx : Kept msk ref x.2) => ?_) ?_; on_goal 1 => clear_value x)
    | (intro x; clear_value x)
    | lift_lets
    | dsimp only
    | with_reducible apply ite_kept
    | intro _ _ _

theorem State.chance_kept (s : State) (p : Nat) (hs : Kept msk ref s) (hm : 1990 &&& msk = 1990) : Kept msk ref (State.chance s p) := by
  unfold State.chance
  have hx := State.clearClass0_kept s p hs (mask_sub hm rfl)
  dsimp only
  have on : ∀ t : Option State, OKept msk ref t → OKept msk ref (if ((s.clearClass0 p).roomy p).isEmpty then none else t) :=
    fun t ht => OKept.ite OKept.none ht
  apply firstOf_kept _ _ hx
  intro o ho
  simp only [List.mem_cons, List.not_mem_nil, or_false] at ho
  rcases ho with rfl | rfl | rfl | rfl | rfl | rfl | rfl
  · exact State.tryClass0_kept _ _ hx (mask_sub hm rfl)
  all_goals apply on; first | exact State.tryData_kept _ _ _ hx (mask_sub hm rfl) | exact State.tryMem_kept _ _ _ hx (mask_sub hm rfl)

theorem State.doFrameStart_kept (s : State) (p : Nat) (hs : Kept msk ref s) (hm : 2006 &&& msk = 2006) : Kept msk ref (State.doFrameStart s p) := by
  unfold State.doFrameStart
  repeat' first
    | with_reducible assumption
    | exact mask_sub hm rfl
    | with_reducible apply State.awaitRoom_kept
    | with_reducible apply State.catchStatus_kept
    | with_reducible apply State.chance_kept
    | with_reducible apply State.discardPath_kept
    | with_reducible apply State.memService_kept
    | with_reducible apply State.noteCreditWait_kept
    | with_reducible apply State.postAll_kept
    | with_reducible apply State.runPath_kept
    | (intro x; refine (fun (hx : Kept msk ref x) => ?_) ?_; on_goal 1 => clear_value x)
    | lift_lets
    | dsimp only
    | with_reducible apply ite_kept

theorem State.doLingerExpiry_kept (s : State) (c : Nat) (hs : Kept msk ref s) (hm : 2006 &&& msk = 2006) : Kept msk ref (State.doLingerExpiry s c) := by
  unfold State.doLingerExpiry
  repeat' first
    | with_reducible assumption
    | exact mask_sub hm rfl
    | with_reducible apply State.memService_kept
    | with_reducible apply State.runLanes_kept
    | with_reducible apply State.toCount_kept
    | (intro x; refine (fun (hx : Kept msk ref x) => ?_) ?_; on_goal 1 => clear_value x)
    | (intro x; refine (fun (hx : Kept msk ref x.1) => ?_) ?_; on_goal 1 => clear_value x)
    | (intro x; refine (fun (hx : Kept msk ref x.2) => ?_) ?_; on_goal 1 => clear_value x)
    | (intro x; clear_value x)
    | lift_lets
    | dsimp only
    | with_reducible apply ite_kept
    | intro _ _ _
    | intro _ _
    | dsimp only [x]
    | split

theorem State.doCreditFrame_kept (s : State) (p : Nat) (w : LWord) (hs : Kept msk ref s) (hm : 132 &&& msk = 132) : Kept msk ref (State.doCreditFrame s p w) := by
  unfold State.doCreditFrame
  repeat' first
    | with_reducible assumption
    | exact mask_sub hm rfl
    | with_reducible apply State.onLnk_kept
    | with_reducible apply State.showCredits_kept
    | with_reducible apply State.wr_kept
    | (intro x; refine (fun (hx : Kept msk ref x) => ?_) ?_; on_goal 1 => clear_value x)
    | (intro x; refine (fun (hx : Kept msk ref x.1) => ?_) ?_; on_goal 1 => clear_value x)
    | (intro x; refine (fun (hx : Kept msk ref x.2) => ?_) ?_; on_goal 1 => clear_value x)
    | (intro x; clear_value x)
    | lift_lets
    | dsimp only

theorem State.doCreditSend_kept (s : State) (p : Nat) (hs : Kept msk ref s) (hm : 148 &&& msk = 148) : Kept msk ref (State.doCreditSend s p) := by
  unfold State.doCreditSend
  repeat' first
    | with_reducible assumption
    | exact mask_sub hm rfl
    | with_reducible apply State.awaitRoom_kept
    | with_reducible apply State.count_kept
    | with_reducible apply State.onLnk_kept
    | with_reducible apply State.putOnLane_kept
    | with_reducible apply State.runPath_kept
    | (intro x; refine (fun (hx : Kept msk ref x) => ?_) ?_; on_goal 1 => clear_value x)
    | (intro x; refine (fun (hx : Kept msk ref x.1) => ?_) ?_; on_goal 1 => clear_value x)
    | (intro x; refine (fun (hx : Kept msk ref x.2) => ?_) ?_; on_goal 1 => clear_value x)
    | (intro x; clear_value x)
    | lift_lets
    | dsimp only
    | with_reducible apply ite_kept
    | intro _ _ _
    | intro _ _
    | fail_if_no_progress (with_reducible refine mk_kept ?_ rfl rfl rfl rfl rfl rfl rfl hm)
    | (with_reducible refine mk_sized ?_ rfl rfl ?_ ?_ ?_ ?_ ?_ hm <;> first | with_reducible assumption | with_reducible rfl | (simp; done))
    | dsimp only [x]
    | split

theorem State.stopPath_kept (s : State) (p : Nat) (hs : Kept msk ref s) (hm : 710 &&& msk = 710) : Kept msk ref (State.stopPath s p) := by
  unfold State.stopPath
  repeat' first
    | with_reducible assumption
    | exact mask_sub hm rfl
    | with_reducible apply State.forEach_kept
    | with_reducible apply State.laneOff_kept
    | with_reducible apply State.leaveUp_kept
    | dsimp only
    | with_reducible apply ite_kept
    | intro _ _ _

theorem State.startPath_kept (s : State) (p : Nat) (hs : Kept msk ref s) (hm : 134 &&& msk = 134) : Kept msk ref (State.startPath s p) := by
  unfold State.startPath
  repeat' first
    | with_reducible assumption
    | exact mask_sub hm rfl
    | with_reducible apply State.forEach_kept
    | with_reducible apply State.laneStart_kept
    | dsimp only
    | intro _ _ _

theorem State.loadLat_kept (s : State) (p : Nat) (hs : Kept msk ref s) (hm : 4 &&& msk = 4) : Kept msk ref (State.loadLat s p) := by
  unfold State.loadLat
  repeat' first
    | with_reducible assumption
    | exact mask_sub hm rfl
    | with_reducible apply State.wr_kept

theorem State.writePathCfg_kept (s : State) (w : Word) (hs : Kept msk ref s) (hm : 710 &&& msk = 710) : Kept msk ref (State.writePathCfg s w) := by
  unfold State.writePathCfg
  repeat' first
    | with_reducible assumption
    | exact mask_sub hm rfl
    | with_reducible apply State.admitFault_kept
    | with_reducible apply State.configFault_kept
    | with_reducible apply State.dropRound_kept
    | with_reducible apply State.forEach_kept
    | with_reducible apply State.judge_kept
    | with_reducible apply State.loadLat_kept
    | with_reducible apply State.startPath_kept
    | with_reducible apply State.stopPath_kept
    | with_reducible apply State.wr_kept
    | (intro x; refine (fun (hx : Kept msk ref x) => ?_) ?_; on_goal 1 => clear_value x)
    | (intro x; refine (fun (hx : Kept msk ref x.1) => ?_) ?_; on_goal 1 => clear_value x)
    | (intro x; refine (fun (hx : Kept msk ref x.2) => ?_) ?_; on_goal 1 => clear_value x)
    | (intro x; clear_value x)
    | lift_lets
    | dsimp only
    | with_reducible apply ite_kept
    | intro _ _ _
    | intro _ _

theorem State.writeLaneCtl_kept (s : State) (n : Nat) (w : Word) (hs : Kept msk ref s) (hm : 710 &&& msk = 710) : Kept msk ref (State.writeLaneCtl s n w) := by
  unfold State.writeLaneCtl
  repeat' first
    | with_reducible assumption
    | exact mask_sub hm rfl
    | with_reducible apply State.admitFault_kept
    | with_reducible apply State.doRetrain_kept
    | with_reducible apply State.judge_kept
    | with_reducible apply State.laneOff_kept
    | with_reducible apply State.laneStart_kept
    | with_reducible apply State.leaveUp_kept
    | with_reducible apply State.wr_kept
    | (intro x; refine (fun (hx : Kept msk ref x) => ?_) ?_; on_goal 1 => clear_value x)
    | (intro x; refine (fun (hx : Kept msk ref x.1) => ?_) ?_; on_goal 1 => clear_value x)
    | (intro x; refine (fun (hx : Kept msk ref x.2) => ?_) ?_; on_goal 1 => clear_value x)
    | (intro x; clear_value x)
    | lift_lets
    | dsimp only
    | with_reducible apply ite_kept
    | intro _ _ _
    | intro _ _

theorem State.doClassPolicyWrite_kept (s : State) (w : Word) (hs : Kept msk ref s) (hm : 518 &&& msk = 518) : Kept msk ref (State.doClassPolicyWrite s w) := by
  unfold State.doClassPolicyWrite
  repeat' first
    | with_reducible assumption
    | exact mask_sub hm rfl
    | with_reducible apply State.admitFault_kept
    | with_reducible apply State.judge_kept
    | with_reducible apply State.wr_kept
    | (intro x; refine (fun (hx : Kept msk ref x) => ?_) ?_; on_goal 1 => clear_value x)
    | (intro x; refine (fun (hx : Kept msk ref x.1) => ?_) ?_; on_goal 1 => clear_value x)
    | (intro x; refine (fun (hx : Kept msk ref x.2) => ?_) ?_; on_goal 1 => clear_value x)
    | (intro x; clear_value x)
    | lift_lets
    | dsimp only
    | with_reducible apply ite_kept
    | intro _ _ _
    | intro _ _

theorem State.prmEvent_kept (s : State) (kind r err w2 : Nat) (hs : Kept msk ref s) (hm : 838 &&& msk = 838) : Kept msk ref (State.prmEvent s kind r err w2) := by
  unfold State.prmEvent
  repeat' first
    | with_reducible assumption
    | exact mask_sub hm rfl
    | with_reducible apply State.push_kept

theorem State.stopPrmRing_kept (s : State) (r err index : Nat) (hs : Kept msk ref s) (hm : 838 &&& msk = 838) : Kept msk ref (State.stopPrmRing s r err index) := by
  unfold State.stopPrmRing
  repeat' first
    | with_reducible assumption
    | exact mask_sub hm rfl
    | with_reducible apply State.flag_kept
    | with_reducible apply State.prmEvent_kept
    | with_reducible apply State.wr_kept

theorem State.takeIndex_kept (s : State) (r idx : Nat) (hs : Kept msk ref s) (hm : 1862 &&& msk = 1862) : Kept msk ref (State.takeIndex s r idx) := by
  unfold State.takeIndex
  repeat' first
    | with_reducible assumption
    | exact mask_sub hm rfl
    | with_reducible apply State.onRing_kept
    | with_reducible apply State.stopPrmRing_kept
    | with_reducible apply State.wr_kept
    | (intro x; refine (fun (hx : Kept msk ref x) => ?_) ?_; on_goal 1 => clear_value x)
    | (intro x; refine (fun (hx : Kept msk ref x.1) => ?_) ?_; on_goal 1 => clear_value x)
    | (intro x; refine (fun (hx : Kept msk ref x.2) => ?_) ?_; on_goal 1 => clear_value x)
    | (intro x; clear_value x)
    | lift_lets
    | dsimp only
    | with_reducible apply ite_kept

theorem State.doRingResume_kept (s : State) (r : Nat) (hs : Kept msk ref s) (hm : 1024 &&& msk = 1024) : Kept msk ref (State.doRingResume s r) := by
  unfold State.doRingResume
  repeat' first
    | with_reducible assumption
    | exact mask_sub hm rfl
    | with_reducible apply State.onRing_kept
    | dsimp only
    | with_reducible apply ite_kept

theorem State.doCommit_kept (s : State) (hs : Kept msk ref s) (hm : 1028 &&& msk = 1028) : Kept msk ref (State.doCommit s) := by
  unfold State.doCommit
  repeat' first
    | with_reducible assumption
    | exact mask_sub hm rfl
    | with_reducible apply State.onPrm_kept
    | with_reducible apply State.wrB_kept
    | with_reducible apply State.wr_kept
    | (intro x; refine (fun (hx : Kept msk ref x) => ?_) ?_; on_goal 1 => clear_value x)
    | (intro x; refine (fun (hx : Kept msk ref x.1) => ?_) ?_; on_goal 1 => clear_value x)
    | (intro x; refine (fun (hx : Kept msk ref x.2) => ?_) ?_; on_goal 1 => clear_value x)
    | (intro x; clear_value x)
    | lift_lets
    | dsimp only
    | with_reducible apply ite_kept

theorem State.memRead_kept (s : State) (key addr n : Nat) (hs : Kept msk ref s) (hm : 128 &&& msk = 128) : Kept msk ref (State.memRead s key addr n) := by
  unfold State.memRead
  repeat' first
    | with_reducible assumption
    | exact mask_sub hm rfl
    | with_reducible apply State.memPush_kept

theorem State.startPoll_kept (s : State) (hs : Kept msk ref s) (hm : 1152 &&& msk = 1152) : Kept msk ref (State.startPoll s) := by
  unfold State.startPoll
  repeat' first
    | with_reducible assumption
    | exact mask_sub hm rfl
    | with_reducible apply State.count_kept
    | with_reducible apply State.memRead_kept
    | with_reducible apply State.onPrm_kept

theorem State.doPollStart_kept (s : State) (hs : Kept msk ref s) (hm : 1168 &&& msk = 1168) : Kept msk ref (State.doPollStart s) := by
  unfold State.doPollStart
  repeat' first
    | with_reducible assumption
    | exact mask_sub hm rfl
    | with_reducible apply State.startPoll_kept
    | with_reducible apply State.toCount_kept
    | dsimp only
    | with_reducible apply ite_kept
    | intro _ _ _
    | intro _ _
    | split

theorem State.doNudge_kept (s : State) (hs : Kept msk ref s) (hm : 1152 &&& msk = 1152) : Kept msk ref (State.doNudge s) := by
  unfold State.doNudge
  repeat' first
    | with_reducible assumption
    | exact mask_sub hm rfl
    | with_reducible apply State.onPrm_kept
    | with_reducible apply State.startPoll_kept
    | dsimp only
    | with_reducible apply ite_kept

theorem State.pollFailed_kept (s : State) (hs : Kept msk ref s) (hm : 1990 &&& msk = 1990) : Kept msk ref (State.pollFailed s) := by
  unfold State.pollFailed
  repeat' first
    | with_reducible assumption
    | exact mask_sub hm rfl
    | with_reducible apply State.flag_kept
    | with_reducible apply State.onLnk_kept
    | with_reducible apply State.onPrm_kept
    | with_reducible apply State.prmEvent_kept
    | with_reducible apply State.report_kept
    | (intro x; refine (fun (hx : Kept msk ref x) => ?_) ?_; on_goal 1 => clear_value x)
    | (intro x; refine (fun (hx : Kept msk ref x.1) => ?_) ?_; on_goal 1 => clear_value x)
    | (intro x; refine (fun (hx : Kept msk ref x.2) => ?_) ?_; on_goal 1 => clear_value x)
    | (intro x; clear_value x)
    | lift_lets
    | dsimp only
    | with_reducible apply ite_kept

theorem State.fetchRing_kept (s : State) (r : Nat) (hs : Kept msk ref s) (hm : 128 &&& msk = 128) : Kept msk ref (State.fetchRing s r) := by
  unfold State.fetchRing
  repeat' first
    | with_reducible assumption
    | exact mask_sub hm rfl
    | with_reducible apply State.memRead_kept
    | (intro x; refine (fun (hx : Kept msk ref x) => ?_) ?_; on_goal 1 => clear_value x)
    | (intro x; refine (fun (hx : Kept msk ref x.1) => ?_) ?_; on_goal 1 => clear_value x)
    | (intro x; refine (fun (hx : Kept msk ref x.2) => ?_) ?_; on_goal 1 => clear_value x)
    | (intro x; clear_value x)
    | lift_lets
    | dsimp only
    | with_reducible apply ite_kept

theorem State.fetchAll_kept (s : State) (hs : Kept msk ref s) (hm : 128 &&& msk = 128) : Kept msk ref (State.fetchAll s) := by
  unfold State.fetchAll
  repeat' first
    | with_reducible assumption
    | exact mask_sub hm rfl
    | with_reducible apply State.fetchRing_kept
    | with_reducible apply State.forEach_kept
    | dsimp only
    | intro _ _ _

theorem State.startCmd_kept (s : State) (c : PCmd) (hs : Kept msk ref s) (hm : 1024 &&& msk = 1024) : Kept msk ref (State.startCmd s c) := by
  unfold State.startCmd
  repeat' first
    | with_reducible assumption
    | exact mask_sub hm rfl
    | with_reducible apply State.onPrm_kept

theorem State.serveBad_kept (s : State) (fuel : Nat) (hs : Kept msk ref s) (hm : 1990 &&& msk = 1990) : Kept msk ref (State.serveBad s fuel) := by
  induction fuel generalizing s with
  | zero => exact hs
  | succ fuel ih =>
  unfold State.serveBad
  repeat' first
    | with_reducible assumption
    | exact mask_sub hm rfl
    | with_reducible apply State.finishCmd_kept
    | with_reducible apply State.onPrm_kept
    | with_reducible apply State.showFlight_kept
    | with_reducible apply State.startCmd_kept
    | with_reducible apply State.stopPrmRing_kept
    | with_reducible apply ih
    | (intro x; refine (fun (hx : Kept msk ref x) => ?_) ?_; on_goal 1 => clear_value x)
    | lift_lets
    | dsimp only
    | with_reducible apply ite_kept
    | intro _ _ _
    | intro _ _
    | fail_if_no_progress (with_reducible refine mk_kept ?_ rfl rfl rfl rfl rfl rfl rfl hm)
    | (with_reducible refine mk_sized ?_ rfl rfl ?_ ?_ ?_ ?_ ?_ hm <;> first | with_reducible assumption | with_reducible rfl | (simp; done))
    | dsimp only [x]
    | split

theorem State.serve_kept (s : State) (hs : Kept msk ref s) (hm : 1990 &&& msk = 1990) : Kept msk ref (State.serve s) := by
  unfold State.serve
  repeat' first
    | with_reducible assumption
    | exact mask_sub hm rfl
    | with_reducible apply State.serveBad_kept

theorem State.doNop_kept (s : State) (hs : Kept msk ref s) (hm : 1990 &&& msk = 1990) : Kept msk ref (State.doNop s) := by
  unfold State.doNop
  repeat' first
    | with_reducible assumption
    | exact mask_sub hm rfl
    | with_reducible apply State.finishCmd_kept
    | with_reducible apply State.serve_kept
    | with_reducible apply State.startCmd_kept
    | dsimp only
    | intro _ _ _
    | intro _ _
    | split

theorem State.doFence_kept (s : State) (hs : Kept msk ref s) (hm : 1990 &&& msk = 1990) : Kept msk ref (State.doFence s) := by
  unfold State.doFence
  repeat' first
    | with_reducible assumption
    | exact mask_sub hm rfl
    | with_reducible apply State.finishCmd_kept
    | with_reducible apply State.serve_kept
    | with_reducible apply State.startCmd_kept
    | dsimp only
    | intro _ _ _
    | intro _ _
    | split

theorem State.doPrmInject_kept (s : State) (ns : Nat) (hs : Kept msk ref s) (hm : 83910 &&& msk = 83910) : Kept msk ref (State.doPrmInject s ns) := by
  unfold State.doPrmInject
  repeat' first
    | with_reducible assumption
    | exact mask_sub hm rfl
    | with_reducible apply State.requestInject_kept
    | with_reducible apply State.serve_kept
    | with_reducible apply State.startCmd_kept
    | (intro x; refine (fun (hx : Kept msk ref x) => ?_) ?_; on_goal 1 => clear_value x)
    | (intro x; refine (fun (hx : Kept msk ref x.1) => ?_) ?_; on_goal 1 => clear_value x)
    | (intro x; refine (fun (hx : Kept msk ref x.2) => ?_) ?_; on_goal 1 => clear_value x)
    | (intro x; clear_value x)
    | lift_lets
    | dsimp only
    | intro _ _ _
    | intro _ _
    | fail_if_no_progress (with_reducible refine mk_kept ?_ rfl rfl rfl rfl rfl rfl rfl hm)
    | (with_reducible refine mk_sized ?_ rfl rfl ?_ ?_ ?_ ?_ ?_ hm <;> first | with_reducible assumption | with_reducible rfl | (simp; done))
    | dsimp only [x]
    | split

theorem State.doPrmCodec_kept (s : State) (hs : Kept msk ref s) (hm : 1050566 &&& msk = 1050566) : Kept msk ref (State.doPrmCodec s) := by
  unfold State.doPrmCodec
  repeat' first
    | with_reducible assumption
    | exact mask_sub hm rfl
    | with_reducible apply State.serve_kept
    | with_reducible apply State.showCodec_kept
    | with_reducible apply State.startCmd_kept
    | (intro x; refine (fun (hx : Kept msk ref x) => ?_) ?_; on_goal 1 => clear_value x)
    | (intro x; refine (fun (hx : Kept msk ref x.1) => ?_) ?_; on_goal 1 => clear_value x)
    | (intro x; refine (fun (hx : Kept msk ref x.2) => ?_) ?_; on_goal 1 => clear_value x)
    | (intro x; clear_value x)
    | lift_lets
    | dsimp only
    | intro _ _ _
    | intro _ _
    | fail_if_no_progress (with_reducible refine mk_kept ?_ rfl rfl rfl rfl rfl rfl rfl hm)
    | (with_reducible refine mk_sized ?_ rfl rfl ?_ ?_ ?_ ?_ ?_ hm <;> first | with_reducible assumption | with_reducible rfl | (simp; done))
    | dsimp only [x]
    | split

theorem State.takeDescriptors_kept (s : State) (r n : Nat) (ws : List LWord) (hs : Kept msk ref s) (hm : 1990 &&& msk = 1990) : Kept msk ref (State.takeDescriptors s r n ws) := by
  unfold State.takeDescriptors
  repeat' first
    | with_reducible assumption
    | exact mask_sub hm rfl
    | with_reducible apply State.fetchRing_kept
    | with_reducible apply State.onPrm_kept
    | with_reducible apply State.onRing_kept
    | with_reducible apply State.serve_kept
    | with_reducible apply State.showFlight_kept
    | with_reducible apply State.writeStatus_kept

theorem State.doMemRdData_kept (s : State) (lane tag status : Nat) (ws : List LWord) (hs : Kept msk ref s) (hm : 1990 &&& msk = 1990) : Kept msk ref (State.doMemRdData s lane tag status ws) := by
  unfold State.doMemRdData
  repeat' first
    | with_reducible assumption
    | exact mask_sub hm rfl
    | with_reducible apply State.count_kept
    | with_reducible apply State.flag_kept
    | with_reducible apply State.onLnk_kept
    | with_reducible apply State.onPrm_kept
    | with_reducible apply State.pollFailed_kept
    | with_reducible apply State.rejectFrame_kept
    | with_reducible apply State.stopPrmRing_kept
    | with_reducible apply State.takeDescriptors_kept
    | (intro x; refine (fun (hx : Kept msk ref x) => ?_) ?_; on_goal 1 => clear_value x)
    | (intro x; refine (fun (hx : Kept msk ref x.1) => ?_) ?_; on_goal 1 => clear_value x)
    | (intro x; refine (fun (hx : Kept msk ref x.2) => ?_) ?_; on_goal 1 => clear_value x)
    | (intro x; clear_value x)
    | lift_lets
    | dsimp only
    | with_reducible apply ite_kept
    | intro _ _ _
    | intro _ _
    | fail_if_no_progress (with_reducible refine mk_kept ?_ rfl rfl rfl rfl rfl rfl rfl hm)
    | (with_reducible refine mk_sized ?_ rfl rfl ?_ ?_ ?_ ?_ ?_ hm <;> first | with_reducible assumption | with_reducible rfl | (simp; done))
    | dsimp only [x]
    | split

theorem State.finishPathChange_kept (s : State) (hs : Kept msk ref s) (hm : 1990 &&& msk = 1990) : Kept msk ref (State.finishPathChange s) := by
  unfold State.finishPathChange
  repeat' first
    | with_reducible assumption
    | exact mask_sub hm rfl
    | with_reducible apply State.flag_kept
    | with_reducible apply State.forEach_kept
    | with_reducible apply State.memWrite_kept
    | with_reducible apply State.onPrm_kept
    | with_reducible apply State.prmEvent_kept
    | with_reducible apply State.pushStatus_kept
    | (intro x; refine (fun (hx : Kept msk ref x) => ?_) ?_; on_goal 1 => clear_value x)
    | (intro x; refine (fun (hx : Kept msk ref x.1) => ?_) ?_; on_goal 1 => clear_value x)
    | (intro x; refine (fun (hx : Kept msk ref x.2) => ?_) ?_; on_goal 1 => clear_value x)
    | (intro x; clear_value x)
    | lift_lets
    | dsimp only
    | with_reducible apply ite_kept
    | intro _ _ _
    | intro _ _
    | fail_if_no_progress (with_reducible refine mk_kept ?_ rfl rfl rfl rfl rfl rfl rfl hm)
    | (with_reducible refine mk_sized ?_ rfl rfl ?_ ?_ ?_ ?_ ?_ hm <;> first | with_reducible assumption | with_reducible rfl | (simp; done))
    | dsimp only [x]
    | split

theorem State.doPollComplete_kept (s : State) (hs : Kept msk ref s) (hm : 1990 &&& msk = 1990) : Kept msk ref (State.doPollComplete s) := by
  unfold State.doPollComplete
  repeat' first
    | with_reducible assumption
    | exact mask_sub hm rfl
    | with_reducible apply State.conditionOverAt_kept
    | with_reducible apply State.fetchAll_kept
    | with_reducible apply State.finishPathChange_kept
    | with_reducible apply State.forEach_kept
    | with_reducible apply State.memService_kept
    | with_reducible apply State.onPrm_kept
    | with_reducible apply State.postAll_kept
    | with_reducible apply State.satAdd_kept
    | with_reducible apply State.takeIndex_kept
    | (intro x; refine (fun (hx : Kept msk ref x) => ?_) ?_; on_goal 1 => clear_value x)
    | (intro x; refine (fun (hx : Kept msk ref x.1) => ?_) ?_; on_goal 1 => clear_value x)
    | (intro x; refine (fun (hx : Kept msk ref x.2) => ?_) ?_; on_goal 1 => clear_value x)
    | (intro x; clear_value x)
    | lift_lets
    | dsimp only
    | with_reducible apply ite_kept
    | intro _ _ _
    | intro _ _
    | fail_if_no_progress (with_reducible refine mk_kept ?_ rfl rfl rfl rfl rfl rfl rfl hm)
    | (with_reducible refine mk_sized ?_ rfl rfl ?_ ?_ ?_ ?_ ?_ hm <;> first | with_reducible assumption | with_reducible rfl | (simp; done))
    | dsimp only [x]
    | split

theorem State.readTimedOut_kept (s : State) (path : Nat) (hs : Kept msk ref s) (hm : 518 &&& msk = 518) : Kept msk ref (State.readTimedOut s path) := by
  unfold State.readTimedOut
  repeat' first
    | with_reducible assumption
    | exact mask_sub hm rfl
    | with_reducible apply State.flag_kept
    | with_reducible apply State.report_kept

theorem State.doMemReadTimeout_kept (s : State) (hs : Kept msk ref s) (hm : 2006 &&& msk = 2006) : Kept msk ref (State.doMemReadTimeout s) := by
  unfold State.doMemReadTimeout
  repeat' first
    | with_reducible assumption
    | exact mask_sub hm rfl
    | with_reducible apply State.onLnk_kept
    | with_reducible apply State.pollFailed_kept
    | with_reducible apply State.readTimedOut_kept
    | with_reducible apply State.toCount_kept
    | (intro x; refine (fun (hx : Kept msk ref x) => ?_) ?_; on_goal 1 => clear_value x)
    | (intro x; refine (fun (hx : Kept msk ref x.1) => ?_) ?_; on_goal 1 => clear_value x)
    | (intro x; refine (fun (hx : Kept msk ref x.2) => ?_) ?_; on_goal 1 => clear_value x)
    | (intro x; clear_value x)
    | lift_lets
    | dsimp only
    | with_reducible apply ite_kept
    | intro _ _ _
    | intro _ _
    | fail_if_no_progress (with_reducible refine mk_kept ?_ rfl rfl rfl rfl rfl rfl rfl hm)
    | (with_reducible refine mk_sized ?_ rfl rfl ?_ ?_ ?_ ?_ ?_ hm <;> first | with_reducible assumption | with_reducible rfl | (simp; done))
    | dsimp only [x]
    | split

theorem State.writeFailed_kept (s : State) (addr : Nat) (ring : Option Nat) (hs : Kept msk ref s) (hm : 1862 &&& msk = 1862) : Kept msk ref (State.writeFailed s addr ring) := by
  unfold State.writeFailed
  repeat' first
    | with_reducible assumption
    | exact mask_sub hm rfl
    | with_reducible apply State.onPrm_kept
    | with_reducible apply State.stopPrmRing_kept
    | dsimp only
    | with_reducible apply ite_kept
    | intro _ _ _
    | intro _ _
    | fail_if_no_progress (with_reducible refine mk_kept ?_ rfl rfl rfl rfl rfl rfl rfl hm)
    | (with_reducible refine mk_sized ?_ rfl rfl ?_ ?_ ?_ ?_ ?_ hm <;> first | with_reducible assumption | with_reducible rfl | (simp; done))
    | split

theorem State.doMemWrErr_kept (s : State) (addr status : Nat) (hs : Kept msk ref s) (hm : 1862 &&& msk = 1862) : Kept msk ref (State.doMemWrErr s addr status) := by
  unfold State.doMemWrErr
  repeat' first
    | with_reducible assumption
    | exact mask_sub hm rfl
    | with_reducible apply State.flag_kept
    | with_reducible apply State.writeFailed_kept
    | (intro x; refine (fun (hx : Kept msk ref x) => ?_) ?_; on_goal 1 => clear_value x)
    | lift_lets
    | dsimp only
    | with_reducible apply ite_kept

theorem State.doMemPathChange_kept (s : State) (hs : Kept msk ref s) (hm : 1152 &&& msk = 1152) : Kept msk ref (State.doMemPathChange s) := by
  unfold State.doMemPathChange
  repeat' first
    | with_reducible assumption
    | exact mask_sub hm rfl
    | with_reducible apply State.count_kept
    | with_reducible apply State.onLnk_kept
    | with_reducible apply State.onPrm_kept
    | (intro x; refine (fun (hx : Kept msk ref x) => ?_) ?_; on_goal 1 => clear_value x)
    | (intro x; refine (fun (hx : Kept msk ref x.1) => ?_) ?_; on_goal 1 => clear_value x)
    | (intro x; refine (fun (hx : Kept msk ref x.2) => ?_) ?_; on_goal 1 => clear_value x)
    | (intro x; clear_value x)
    | lift_lets
    | dsimp only
    | with_reducible apply ite_kept

theorem State.doMemPathResume_kept (s : State) (hs : Kept msk ref s) (hm : 1168 &&& msk = 1168) : Kept msk ref (State.doMemPathResume s) := by
  unfold State.doMemPathResume
  repeat' first
    | with_reducible assumption
    | exact mask_sub hm rfl
    | with_reducible apply State.onPrm_kept
    | with_reducible apply State.startPoll_kept
    | with_reducible apply State.toCount_kept
    | (intro x; refine (fun (hx : Kept msk ref x) => ?_) ?_; on_goal 1 => clear_value x)
    | lift_lets
    | dsimp only
    | with_reducible apply ite_kept

theorem State.prmShed_kept (s : State) (hs : Kept msk ref s) (hm : 1574854 &&& msk = 1574854) : Kept msk ref (State.prmShed s) := by
  unfold State.prmShed
  repeat' first
    | with_reducible assumption
    | exact mask_sub hm rfl
    | with_reducible apply State.finishCmd_kept
    | with_reducible apply State.forEach_kept
    | with_reducible apply State.onLnk_kept
    | with_reducible apply State.onPrm_kept
    | with_reducible apply State.stopJobs_kept
    | with_reducible apply State.wr_kept
    | (intro x; refine (fun (hx : Kept msk ref x) => ?_) ?_; on_goal 1 => clear_value x)
    | lift_lets
    | dsimp only
    | with_reducible apply ite_kept
    | intro _ _ _

theorem State.prmUnshed_kept (s : State) (hs : Kept msk ref s) (hm : 4 &&& msk = 4) : Kept msk ref (State.prmUnshed s) := by
  unfold State.prmUnshed
  repeat' first
    | with_reducible assumption
    | exact mask_sub hm rfl
    | with_reducible apply State.wr_kept
    | dsimp only
    | with_reducible apply ite_kept

theorem State.prmRestart_kept (s : State) (hs : Kept msk ref s) (hm : 1574854 &&& msk = 1574854) : Kept msk ref (State.prmRestart s) := by
  unfold State.prmRestart
  repeat' first
    | with_reducible assumption
    | exact mask_sub hm rfl
    | with_reducible apply State.finishCmd_kept
    | with_reducible apply State.forEach_kept
    | with_reducible apply State.freeBelow_kept
    | with_reducible apply State.stopJobs_kept
    | (intro x; refine (fun (hx : Kept msk ref x) => ?_) ?_; on_goal 1 => clear_value x)
    | (intro x; refine (fun (hx : Kept msk ref x.1) => ?_) ?_; on_goal 1 => clear_value x)
    | (intro x; refine (fun (hx : Kept msk ref x.2) => ?_) ?_; on_goal 1 => clear_value x)
    | (intro x; clear_value x)
    | lift_lets
    | dsimp only
    | with_reducible apply ite_kept
    | intro _ _ _

end Sys2Proof.Machine
end

