-- ==== Sys2Proof/Laws/KeptMonitor.lean ====
section
/-! SUPPORT. Footprints of the operations of counters, the prompt book, sensors, the monitor, power, telegrams, resets and the bus: one lemma for each, which says what it can change and that it
keeps a state sound. -/

namespace Sys2Proof.Machine

set_option Elab.async false

set_option linter.unreachableTactic false
set_option linter.unusedTactic false

variable {msk : Nat} {ref : State}

theorem State.doSnap_kept (s : State) (hs : Kept msk ref s) (hm : 4 &&& msk = 4) : Kept msk ref (State.doSnap s) := by
  unfold State.doSnap
  repeat' first
    | with_reducible assumption
    | exact mask_sub hm rfl
    | with_reducible apply State.count_kept
    | with_reducible apply State.forEach_kept
    | with_reducible apply State.wrPair_kept
    | dsimp only
    | intro _ _ _

theorem State.doClrWrap_kept (s : State) (hs : Kept msk ref s) (hm : 4 &&& msk = 4) : Kept msk ref (State.doClrWrap s) := by
  unfold State.doClrWrap
  repeat' first
    | with_reducible assumption
    | exact mask_sub hm rfl
    | with_reducible apply State.forEach_kept
    | with_reducible apply State.wr_kept
    | dsimp only
    | intro _ _ _

theorem State.dump_kept (s : State) (hs : Kept msk ref s) (hm : 838 &&& msk = 838) : Kept msk ref (State.dump s) := by
  unfold State.dump
  repeat' first
    | with_reducible assumption
    | exact mask_sub hm rfl
    | with_reducible apply State.flag_kept
    | with_reducible apply State.forEach_kept
    | with_reducible apply State.push_kept
    | with_reducible apply State.satAdd_kept
    | with_reducible apply State.wr_kept
    | (intro x; refine (fun (hx : Kept msk ref x) => ?_) ?_; on_goal 1 => clear_value x)
    | lift_lets
    | dsimp only
    | with_reducible apply ite_kept
    | intro _ _ _

theorem State.doDumpNow_kept (s : State) (hs : Kept msk ref s) (hm : 838 &&& msk = 838) : Kept msk ref (State.doDumpNow s) := by
  unfold State.doDumpNow
  repeat' first
    | with_reducible assumption
    | exact mask_sub hm rfl
    | with_reducible apply State.dump_kept
    | dsimp only
    | with_reducible apply ite_kept

theorem State.doPeriodicDump_kept (s : State) (hs : Kept msk ref s) (hm : 2098006 &&& msk = 2098006) : Kept msk ref (State.doPeriodicDump s) := by
  unfold State.doPeriodicDump
  repeat' first
    | with_reducible assumption
    | exact mask_sub hm rfl
    | with_reducible apply State.dump_kept
    | with_reducible apply State.toTick_kept
    | (intro x; refine (fun (hx : Kept msk ref x) => ?_) ?_; on_goal 1 => clear_value x)
    | (intro x; refine (fun (hx : Kept msk ref x.1) => ?_) ?_; on_goal 1 => clear_value x)
    | (intro x; refine (fun (hx : Kept msk ref x.2) => ?_) ?_; on_goal 1 => clear_value x)
    | (intro x; clear_value x)
    | lift_lets
    | dsimp only
    | with_reducible apply ite_kept
    | intro _ _ _
    | intro _ _
    | fail_if_no_progress (with_reducible refine mk_kept ?_ rfl rfl rfl rfl rfl rfl rfl hm)

theorem State.doFocusWrite_kept (s : State) (f part : Nat) (w : Word) (hs : Kept msk ref s) (hm : 4 &&& msk = 4) : Kept msk ref (State.doFocusWrite s f part w) := by
  unfold State.doFocusWrite
  repeat' first
    | with_reducible assumption
    | exact mask_sub hm rfl
    | with_reducible apply State.regPut_kept
    | with_reducible apply State.wrPair_kept
    | with_reducible apply State.wr_kept
    | (intro x; refine (fun (hx : Kept msk ref x) => ?_) ?_; on_goal 1 => clear_value x)
    | lift_lets
    | dsimp only
    | with_reducible apply ite_kept

theorem State.doTracerRecord_kept (s : State) (i : Nat) (offsets : List (Option Nat)) (hs : Kept msk ref s) (hm : 2097990 &&& msk = 2097990) : Kept msk ref (State.doTracerRecord s i offsets) := by
  unfold State.doTracerRecord
  repeat' first
    | with_reducible assumption
    | exact mask_sub hm rfl
    | with_reducible apply State.push_kept
    | dsimp only
    | with_reducible apply ite_kept
    | intro _ _ _
    | intro _ _
    | fail_if_no_progress (with_reducible refine mk_kept ?_ rfl rfl rfl rfl rfl rfl rfl hm)
    | (with_reducible refine mk_sized ?_ rfl rfl ?_ ?_ ?_ ?_ ?_ hm <;> first | with_reducible assumption | with_reducible rfl | (simp; done))
    | split

theorem State.onBook_kept (s : State) (f : Book → Book) (hs : Kept msk ref s) (hm : 16777216 &&& msk = 16777216) : Kept msk ref (State.onBook s f) := by
  unfold State.onBook
  repeat' first
    | with_reducible assumption
    | exact mask_sub hm rfl
    | dsimp only
    | intro _ _ _
    | intro _ _
    | fail_if_no_progress (with_reducible refine mk_kept ?_ rfl rfl rfl rfl rfl rfl rfl hm)

theorem State.startCommit_kept (s : State) (hs : Kept msk ref s) (hm : 16777220 &&& msk = 16777220) : Kept msk ref (State.startCommit s) := by
  unfold State.startCommit
  repeat' first
    | with_reducible assumption
    | exact mask_sub hm rfl
    | with_reducible apply State.onBook_kept
    | with_reducible apply State.wr_kept
    | (intro x; refine (fun (hx : Kept msk ref x) => ?_) ?_; on_goal 1 => clear_value x)
    | (intro x; refine (fun (hx : Kept msk ref x.1) => ?_) ?_; on_goal 1 => clear_value x)
    | (intro x; refine (fun (hx : Kept msk ref x.2) => ?_) ?_; on_goal 1 => clear_value x)
    | (intro x; clear_value x)
    | lift_lets
    | dsimp only
    | intro _ _ _
    | intro _ _
    | fail_if_no_progress (with_reducible refine mk_kept ?_ rfl rfl rfl rfl rfl rfl rfl hm)
    | (with_reducible refine mk_sized ?_ rfl rfl ?_ ?_ ?_ ?_ ?_ hm <;> first | with_reducible assumption | with_reducible rfl | (simp; done))
    | dsimp only [x]
    | split

theorem State.requestCommit_kept (s : State) (kind : Nat) (hs : Kept msk ref s) (hm : 16777220 &&& msk = 16777220) : Kept msk ref (State.requestCommit s kind) := by
  unfold State.requestCommit
  repeat' first
    | with_reducible assumption
    | exact mask_sub hm rfl
    | with_reducible apply State.onBook_kept
    | with_reducible apply State.startCommit_kept

theorem State.doPbCommit_kept (s : State) (hs : Kept msk ref s) (hm : 16777220 &&& msk = 16777220) : Kept msk ref (State.doPbCommit s) := by
  unfold State.doPbCommit
  repeat' first
    | with_reducible assumption
    | exact mask_sub hm rfl
    | with_reducible apply State.requestCommit_kept

theorem State.doPbPeriodic_kept (s : State) (hs : Kept msk ref s) (hm : 16777236 &&& msk = 16777236) : Kept msk ref (State.doPbPeriodic s) := by
  unfold State.doPbPeriodic
  repeat' first
    | with_reducible assumption
    | exact mask_sub hm rfl
    | with_reducible apply State.onBook_kept
    | with_reducible apply State.requestCommit_kept
    | with_reducible apply State.toTick_kept
    | (intro x; refine (fun (hx : Kept msk ref x) => ?_) ?_; on_goal 1 => clear_value x)
    | (intro x; refine (fun (hx : Kept msk ref x.1) => ?_) ?_; on_goal 1 => clear_value x)
    | (intro x; refine (fun (hx : Kept msk ref x.2) => ?_) ?_; on_goal 1 => clear_value x)
    | (intro x; clear_value x)
    | lift_lets
    | dsimp only
    | with_reducible apply ite_kept

theorem State.doCommitDone_kept (s : State) (ok : Bool) (hs : Kept msk ref s) (hm : 16777734 &&& msk = 16777734) : Kept msk ref (State.doCommitDone s ok) := by
  unfold State.doCommitDone
  repeat' first
    | with_reducible assumption
    | exact mask_sub hm rfl
    | with_reducible apply State.flag_kept
    | with_reducible apply State.onBook_kept
    | with_reducible apply State.report_kept
    | with_reducible apply State.startCommit_kept
    | with_reducible apply State.wr_kept
    | (intro x; refine (fun (hx : Kept msk ref x) => ?_) ?_; on_goal 1 => clear_value x)
    | lift_lets
    | dsimp only
    | with_reducible apply ite_kept
    | intro _ _ _
    | intro _ _
    | fail_if_no_progress (with_reducible refine mk_kept ?_ rfl rfl rfl rfl rfl rfl rfl hm)
    | (with_reducible refine mk_sized ?_ rfl rfl ?_ ?_ ?_ ?_ ?_ hm <;> first | with_reducible assumption | with_reducible rfl | (simp; done))
    | dsimp only [x]
    | split

theorem State.onSns_kept (s : State) (f : Sns → Sns) (hs : Kept msk ref s) (hm : 4194304 &&& msk = 4194304) : Kept msk ref (State.onSns s f) := by
  unfold State.onSns
  repeat' first
    | with_reducible assumption
    | exact mask_sub hm rfl
    | dsimp only
    | intro _ _ _
    | intro _ _
    | fail_if_no_progress (with_reducible refine mk_kept ?_ rfl rfl rfl rfl rfl rfl rfl hm)

theorem State.noteDue_kept (s : State) (parity : Nat) (hs : Kept msk ref s) (hm : 4194304 &&& msk = 4194304) : Kept msk ref (State.noteDue s parity) := by
  unfold State.noteDue
  repeat' first
    | with_reducible assumption
    | exact mask_sub hm rfl
    | with_reducible apply State.forEach_kept
    | with_reducible apply State.onSns_kept
    | (intro x; refine (fun (hx : Kept msk ref x) => ?_) ?_; on_goal 1 => clear_value x)
    | (intro x; refine (fun (hx : Kept msk ref x.1) => ?_) ?_; on_goal 1 => clear_value x)
    | (intro x; refine (fun (hx : Kept msk ref x.2) => ?_) ?_; on_goal 1 => clear_value x)
    | (intro x; clear_value x)
    | lift_lets
    | dsimp only
    | with_reducible apply ite_kept
    | intro _ _ _

theorem State.doSensorPulse_kept (s : State) (parity : Nat) (hs : Kept msk ref s) (hm : 4194304 &&& msk = 4194304) : Kept msk ref (State.doSensorPulse s parity) := by
  unfold State.doSensorPulse
  repeat' first
    | with_reducible assumption
    | exact mask_sub hm rfl
    | with_reducible apply State.noteDue_kept
    | with_reducible apply State.onSns_kept
    | (intro x; refine (fun (hx : Kept msk ref x) => ?_) ?_; on_goal 1 => clear_value x)
    | (intro x; refine (fun (hx : Kept msk ref x.1) => ?_) ?_; on_goal 1 => clear_value x)
    | (intro x; refine (fun (hx : Kept msk ref x.2) => ?_) ?_; on_goal 1 => clear_value x)
    | (intro x; clear_value x)
    | lift_lets
    | dsimp only
    | with_reducible apply ite_kept
    | intro _ _ _
    | intro _ _
    | fail_if_no_progress (with_reducible refine mk_kept ?_ rfl rfl rfl rfl rfl rfl rfl hm)
    | (with_reducible refine mk_sized ?_ rfl rfl ?_ ?_ ?_ ?_ ?_ hm <;> first | with_reducible assumption | with_reducible rfl | (simp; done))
    | dsimp only [x]
    | split

theorem State.doSensorConversion_kept (s : State) (parity : Nat) (own odd : SensorSample) (hs : Kept msk ref s) (hm : 4194822 &&& msk = 4194822) : Kept msk ref (State.doSensorConversion s parity own odd) := by
  unfold State.doSensorConversion
  repeat' first
    | with_reducible assumption
    | exact mask_sub hm rfl
    | with_reducible apply State.conditionOver_kept
    | with_reducible apply State.flag_kept
    | with_reducible apply State.onSns_kept
    | with_reducible apply State.report_kept
    | with_reducible apply State.show32_kept
    | with_reducible apply State.wr_kept
    | (intro x; refine (fun (hx : Kept msk ref x) => ?_) ?_; on_goal 1 => clear_value x)
    | (intro x; refine (fun (hx : Kept msk ref x.1) => ?_) ?_; on_goal 1 => clear_value x)
    | (intro x; refine (fun (hx : Kept msk ref x.2) => ?_) ?_; on_goal 1 => clear_value x)
    | (intro x; clear_value x)
    | lift_lets
    | dsimp only
    | with_reducible apply ite_kept
    | intro _ _ _
    | intro _ _
    | fail_if_no_progress (with_reducible refine mk_kept ?_ rfl rfl rfl rfl rfl rfl rfl hm)
    | (with_reducible refine mk_sized ?_ rfl rfl ?_ ?_ ?_ ?_ ?_ hm <;> first | with_reducible assumption | with_reducible rfl | (simp; done))
    | dsimp only [x]
    | split

theorem State.setSwitch_kept (s : State) (j : Nat) (on : Bool) (hs : Kept msk ref s) (hm : 518 &&& msk = 518) : Kept msk ref (State.setSwitch s j on) := by
  unfold State.setSwitch
  repeat' first
    | with_reducible assumption
    | exact mask_sub hm rfl
    | with_reducible apply State.conditionOver_kept
    | with_reducible apply State.flag_kept
    | with_reducible apply State.report_kept
    | with_reducible apply State.wr_kept
    | (intro x; refine (fun (hx : Kept msk ref x) => ?_) ?_; on_goal 1 => clear_value x)
    | (intro x; refine (fun (hx : Kept msk ref x.1) => ?_) ?_; on_goal 1 => clear_value x)
    | (intro x; refine (fun (hx : Kept msk ref x.2) => ?_) ?_; on_goal 1 => clear_value x)
    | (intro x; clear_value x)
    | lift_lets
    | dsimp only
    | with_reducible apply ite_kept

theorem State.setSwitchCount_kept (s : State) (j n : Nat) (hs : Kept msk ref s) (hm : 4194304 &&& msk = 4194304) : Kept msk ref (State.setSwitchCount s j n) := by
  unfold State.setSwitchCount
  repeat' first
    | with_reducible assumption
    | exact mask_sub hm rfl
    | with_reducible apply State.onSns_kept

theorem State.evalSwitch_kept (s : State) (j : Nat) (hs : Kept msk ref s) (hm : 4194822 &&& msk = 4194822) : Kept msk ref (State.evalSwitch s j) := by
  unfold State.evalSwitch
  repeat' first
    | with_reducible assumption
    | exact mask_sub hm rfl
    | with_reducible apply State.setSwitchCount_kept
    | with_reducible apply State.setSwitch_kept
    | (intro x; refine (fun (hx : Kept msk ref x) => ?_) ?_; on_goal 1 => clear_value x)
    | (intro x; refine (fun (hx : Kept msk ref x.1) => ?_) ?_; on_goal 1 => clear_value x)
    | (intro x; refine (fun (hx : Kept msk ref x.2) => ?_) ?_; on_goal 1 => clear_value x)
    | (intro x; clear_value x)
    | lift_lets
    | dsimp only
    | with_reducible apply ite_kept

theorem State.doSwitchEvaluate_kept (s : State) (i : Nat) (hs : Kept msk ref s) (hm : 4194838 &&& msk = 4194838) : Kept msk ref (State.doSwitchEvaluate s i) := by
  unfold State.doSwitchEvaluate
  repeat' first
    | with_reducible assumption
    | exact mask_sub hm rfl
    | with_reducible apply State.evalSwitch_kept
    | with_reducible apply State.onSns_kept
    | with_reducible apply State.toTick_kept
    | (intro x; refine (fun (hx : Kept msk ref x) => ?_) ?_; on_goal 1 => clear_value x)
    | lift_lets
    | dsimp only
    | with_reducible apply ite_kept
    | intro _ _ _
    | intro _ _
    | fail_if_no_progress (with_reducible refine mk_kept ?_ rfl rfl rfl rfl rfl rfl rfl hm)
    | (with_reducible refine mk_sized ?_ rfl rfl ?_ ?_ ?_ ?_ ?_ hm <;> first | with_reducible assumption | with_reducible rfl | (simp; done))
    | dsimp only [x]
    | split

theorem State.loadIexc_kept (s : State) (i : Nat) (hs : Kept msk ref s) (hm : 4 &&& msk = 4) : Kept msk ref (State.loadIexc s i) := by
  unfold State.loadIexc
  repeat' first
    | with_reducible assumption
    | exact mask_sub hm rfl
    | with_reducible apply State.wr_kept

theorem State.switchesOff_kept (s : State) (i : Nat) (hs : Kept msk ref s) (hm : 4194822 &&& msk = 4194822) : Kept msk ref (State.switchesOff s i) := by
  unfold State.switchesOff
  repeat' first
    | with_reducible assumption
    | exact mask_sub hm rfl
    | with_reducible apply State.setSwitchCount_kept
    | with_reducible apply State.setSwitch_kept

theorem State.writeSensorCfg_kept (s : State) (i : Nat) (w : Word) (hs : Kept msk ref s) (hm : 4194822 &&& msk = 4194822) : Kept msk ref (State.writeSensorCfg s i w) := by
  unfold State.writeSensorCfg
  repeat' first
    | with_reducible assumption
    | exact mask_sub hm rfl
    | with_reducible apply State.configFault_kept
    | with_reducible apply State.loadIexc_kept
    | with_reducible apply State.switchesOff_kept
    | with_reducible apply State.wr_kept
    | (intro x; refine (fun (hx : Kept msk ref x) => ?_) ?_; on_goal 1 => clear_value x)
    | (intro x; refine (fun (hx : Kept msk ref x.1) => ?_) ?_; on_goal 1 => clear_value x)
    | (intro x; refine (fun (hx : Kept msk ref x.2) => ?_) ?_; on_goal 1 => clear_value x)
    | (intro x; clear_value x)
    | lift_lets
    | dsimp only
    | with_reducible apply ite_kept

theorem State.writeSensorCtl_kept (s : State) (w : Word) (hs : Kept msk ref s) (hm : 4194308 &&& msk = 4194308) : Kept msk ref (State.writeSensorCtl s w) := by
  unfold State.writeSensorCtl
  repeat' first
    | with_reducible assumption
    | exact mask_sub hm rfl
    | with_reducible apply State.onSns_kept
    | with_reducible apply State.wr_kept
    | (intro x; refine (fun (hx : Kept msk ref x) => ?_) ?_; on_goal 1 => clear_value x)
    | (intro x; refine (fun (hx : Kept msk ref x.1) => ?_) ?_; on_goal 1 => clear_value x)
    | (intro x; refine (fun (hx : Kept msk ref x.2) => ?_) ?_; on_goal 1 => clear_value x)
    | (intro x; clear_value x)
    | lift_lets
    | dsimp only
    | with_reducible apply ite_kept

theorem State.writeSwitchCfg_kept (s : State) (j : Nat) (w : Word) (hs : Kept msk ref s) (hm : 4194822 &&& msk = 4194822) : Kept msk ref (State.writeSwitchCfg s j w) := by
  unfold State.writeSwitchCfg
  repeat' first
    | with_reducible assumption
    | exact mask_sub hm rfl
    | with_reducible apply State.configFault_kept
    | with_reducible apply State.setSwitchCount_kept
    | with_reducible apply State.setSwitch_kept
    | with_reducible apply State.wr_kept
    | (intro x; refine (fun (hx : Kept msk ref x) => ?_) ?_; on_goal 1 => clear_value x)
    | (intro x; refine (fun (hx : Kept msk ref x.1) => ?_) ?_; on_goal 1 => clear_value x)
    | (intro x; refine (fun (hx : Kept msk ref x.2) => ?_) ?_; on_goal 1 => clear_value x)
    | (intro x; clear_value x)
    | lift_lets
    | dsimp only
    | with_reducible apply ite_kept

theorem State.writeSwitchThr_kept (s : State) (j : Nat) (isOn : Bool) (w : Word) (hs : Kept msk ref s) (hm : 4194822 &&& msk = 4194822) : Kept msk ref (State.writeSwitchThr s j isOn w) := by
  unfold State.writeSwitchThr
  repeat' first
    | with_reducible assumption
    | exact mask_sub hm rfl
    | with_reducible apply State.configFault_kept
    | with_reducible apply State.setSwitchCount_kept
    | with_reducible apply State.wr_kept
    | (intro x; refine (fun (hx : Kept msk ref x) => ?_) ?_; on_goal 1 => clear_value x)
    | (intro x; refine (fun (hx : Kept msk ref x.1) => ?_) ?_; on_goal 1 => clear_value x)
    | (intro x; refine (fun (hx : Kept msk ref x.2) => ?_) ?_; on_goal 1 => clear_value x)
    | (intro x; clear_value x)
    | lift_lets
    | dsimp only
    | with_reducible apply ite_kept

theorem State.startSensors_kept (s : State) (calValid : Bool) (hs : Kept msk ref s) (hm : 4194308 &&& msk = 4194308) : Kept msk ref (State.startSensors s calValid) := by
  unfold State.startSensors
  repeat' first
    | with_reducible assumption
    | exact mask_sub hm rfl
    | with_reducible apply State.forEach_kept
    | with_reducible apply State.loadIexc_kept
    | with_reducible apply State.onSns_kept
    | with_reducible apply State.wr_kept
    | (intro x; refine (fun (hx : Kept msk ref x) => ?_) ?_; on_goal 1 => clear_value x)
    | lift_lets
    | dsimp only
    | intro _ _ _

theorem State.stopSensors_kept (s : State) (hs : Kept msk ref s) (hm : 4194304 &&& msk = 4194304) : Kept msk ref (State.stopSensors s) := by
  unfold State.stopSensors
  repeat' first
    | with_reducible assumption
    | exact mask_sub hm rfl
    | with_reducible apply State.onSns_kept

theorem State.onSaf_kept (s : State) (f : Saf → Saf) (hs : Kept msk ref s) (hm : 8388608 &&& msk = 8388608) : Kept msk ref (State.onSaf s f) := by
  unfold State.onSaf
  repeat' first
    | with_reducible assumption
    | exact mask_sub hm rfl
    | dsimp only
    | intro _ _ _
    | intro _ _
    | fail_if_no_progress (with_reducible refine mk_kept ?_ rfl rfl rfl rfl rfl rfl rfl hm)

theorem State.setSaf_kept (s : State) (st : Nat) (hs : Kept msk ref s) (hm : 4 &&& msk = 4) : Kept msk ref (State.setSaf s st) := by
  unfold State.setSaf
  repeat' first
    | with_reducible assumption
    | exact mask_sub hm rfl
    | with_reducible apply State.wr_kept

theorem State.safReport_kept (s : State) (code : Nat) (hs : Kept msk ref s) (hm : 8389126 &&& msk = 8389126) : Kept msk ref (State.safReport s code) := by
  unfold State.safReport
  repeat' first
    | with_reducible assumption
    | exact mask_sub hm rfl
    | with_reducible apply State.onSaf_kept
    | with_reducible apply State.report_kept

theorem State.lockOut_kept (s : State) (code : Nat) (hs : Kept msk ref s) (hm : 25165828 &&& msk = 25165828) : Kept msk ref (State.lockOut s code) := by
  unfold State.lockOut
  repeat' first
    | with_reducible assumption
    | exact mask_sub hm rfl
    | with_reducible apply State.onSaf_kept
    | with_reducible apply State.release_kept
    | with_reducible apply State.requestCommit_kept
    | with_reducible apply State.satAdd_kept
    | with_reducible apply State.setSaf_kept
    | with_reducible apply State.wr_kept
    | (intro x; refine (fun (hx : Kept msk ref x) => ?_) ?_; on_goal 1 => clear_value x)
    | lift_lets
    | dsimp only
    | with_reducible apply ite_kept

theorem State.safLock_kept (s : State) (code : Nat) (hs : Kept msk ref s) (hm : 25166342 &&& msk = 25166342) : Kept msk ref (State.safLock s code) := by
  unfold State.safLock
  repeat' first
    | with_reducible assumption
    | exact mask_sub hm rfl
    | with_reducible apply State.lockOut_kept
    | with_reducible apply State.safReport_kept

theorem State.enterSto_kept (s : State) (hs : Kept msk ref s) (hm : 8388612 &&& msk = 8388612) : Kept msk ref (State.enterSto s) := by
  unfold State.enterSto
  repeat' first
    | with_reducible assumption
    | exact mask_sub hm rfl
    | with_reducible apply State.onSaf_kept
    | with_reducible apply State.setSaf_kept
    | with_reducible apply State.wr_kept
    | dsimp only
    | with_reducible apply ite_kept

theorem State.enterSs1_kept (s : State) (hs : Kept msk ref s) (hm : 8388612 &&& msk = 8388612) : Kept msk ref (State.enterSs1 s) := by
  unfold State.enterSs1
  repeat' first
    | with_reducible assumption
    | exact mask_sub hm rfl
    | with_reducible apply State.onSaf_kept
    | with_reducible apply State.setSaf_kept
    | with_reducible apply State.wr_kept
    | (intro x; refine (fun (hx : Kept msk ref x) => ?_) ?_; on_goal 1 => clear_value x)
    | (intro x; refine (fun (hx : Kept msk ref x.1) => ?_) ?_; on_goal 1 => clear_value x)
    | (intro x; refine (fun (hx : Kept msk ref x.2) => ?_) ?_; on_goal 1 => clear_value x)
    | (intro x; clear_value x)
    | lift_lets
    | dsimp only
    | with_reducible apply ite_kept

theorem State.followSls_kept (s : State) (hs : Kept msk ref s) (hm : 8388612 &&& msk = 8388612) : Kept msk ref (State.followSls s) := by
  unfold State.followSls
  repeat' first
    | with_reducible assumption
    | exact mask_sub hm rfl
    | with_reducible apply State.onSaf_kept
    | with_reducible apply State.wr_kept
    | (intro x; refine (fun (hx : Kept msk ref x) => ?_) ?_; on_goal 1 => clear_value x)
    | (intro x; refine (fun (hx : Kept msk ref x.1) => ?_) ?_; on_goal 1 => clear_value x)
    | (intro x; refine (fun (hx : Kept msk ref x.2) => ?_) ?_; on_goal 1 => clear_value x)
    | (intro x; clear_value x)
    | lift_lets
    | dsimp only
    | with_reducible apply ite_kept

theorem State.enterDegraded_kept (s : State) (elem : Nat) (hs : Kept msk ref s) (hm : 8388612 &&& msk = 8388612) : Kept msk ref (State.enterDegraded s elem) := by
  unfold State.enterDegraded
  repeat' first
    | with_reducible assumption
    | exact mask_sub hm rfl
    | with_reducible apply State.followSls_kept
    | with_reducible apply State.onSaf_kept
    | with_reducible apply State.satAdd_kept
    | with_reducible apply State.setSaf_kept
    | with_reducible apply State.wr_kept

theorem State.loseElement_kept (s : State) (elem code : Nat) (hs : Kept msk ref s) (hm : 25166342 &&& msk = 25166342) : Kept msk ref (State.loseElement s elem code) := by
  unfold State.loseElement
  repeat' first
    | with_reducible assumption
    | exact mask_sub hm rfl
    | with_reducible apply State.enterDegraded_kept
    | with_reducible apply State.onSaf_kept
    | with_reducible apply State.safLock_kept
    | with_reducible apply State.safReport_kept
    | (intro x; refine (fun (hx : Kept msk ref x) => ?_) ?_; on_goal 1 => clear_value x)
    | lift_lets
    | dsimp only
    | with_reducible apply ite_kept

theorem State.elementGood_kept (s : State) (elem : Nat) (hs : Kept msk ref s) (hm : 8388608 &&& msk = 8388608) : Kept msk ref (State.elementGood s elem) := by
  unfold State.elementGood
  repeat' first
    | with_reducible assumption
    | exact mask_sub hm rfl
    | with_reducible apply State.onSaf_kept

theorem State.voterDiffers_kept (s : State) (k : Nat) (hs : Kept msk ref s) (hm : 25166342 &&& msk = 25166342) : Kept msk ref (State.voterDiffers s k) := by
  unfold State.voterDiffers
  repeat' first
    | with_reducible assumption
    | exact mask_sub hm rfl
    | with_reducible apply State.onSaf_kept
    | with_reducible apply State.safLock_kept
    | with_reducible apply State.safReport_kept
    | with_reducible apply State.wr_kept
    | (intro x; refine (fun (hx : Kept msk ref x) => ?_) ?_; on_goal 1 => clear_value x)
    | (intro x; refine (fun (hx : Kept msk ref x.1) => ?_) ?_; on_goal 1 => clear_value x)
    | (intro x; refine (fun (hx : Kept msk ref x.2) => ?_) ?_; on_goal 1 => clear_value x)
    | (intro x; clear_value x)
    | lift_lets
    | dsimp only
    | with_reducible apply ite_kept

theorem State.lockInput_kept (s : State) (i code : Nat) (hs : Kept msk ref s) (hm : 8389126 &&& msk = 8389126) : Kept msk ref (State.lockInput s i code) := by
  unfold State.lockInput
  repeat' first
    | with_reducible assumption
    | exact mask_sub hm rfl
    | with_reducible apply State.onSaf_kept
    | with_reducible apply State.safReport_kept
    | with_reducible apply State.satAdd_kept
    | with_reducible apply State.wr_kept

theorem State.tryUnlock_kept (s : State) (i : Nat) (hs : Kept msk ref s) (hm : 516 &&& msk = 516) : Kept msk ref (State.tryUnlock s i) := by
  unfold State.tryUnlock
  repeat' first
    | with_reducible assumption
    | exact mask_sub hm rfl
    | with_reducible apply State.conditionOver_kept
    | with_reducible apply State.wr_kept
    | (intro x; refine (fun (hx : Kept msk ref x) => ?_) ?_; on_goal 1 => clear_value x)
    | (intro x; refine (fun (hx : Kept msk ref x.1) => ?_) ?_; on_goal 1 => clear_value x)
    | (intro x; refine (fun (hx : Kept msk ref x.2) => ?_) ?_; on_goal 1 => clear_value x)
    | (intro x; clear_value x)
    | lift_lets
    | dsimp only
    | with_reducible apply ite_kept

theorem State.checkDiscrepancy_kept (s : State) (i : Nat) (a b : Bool) (hs : Kept msk ref s) (hm : 8389126 &&& msk = 8389126) : Kept msk ref (State.checkDiscrepancy s i a b) := by
  unfold State.checkDiscrepancy
  repeat' first
    | with_reducible assumption
    | exact mask_sub hm rfl
    | with_reducible apply State.freeBelow_kept
    | with_reducible apply State.lockInput_kept
    | with_reducible apply State.onSaf_kept
    | (intro x; refine (fun (hx : Kept msk ref x) => ?_) ?_; on_goal 1 => clear_value x)
    | (intro x; refine (fun (hx : Kept msk ref x.1) => ?_) ?_; on_goal 1 => clear_value x)
    | (intro x; refine (fun (hx : Kept msk ref x.2) => ?_) ?_; on_goal 1 => clear_value x)
    | (intro x; clear_value x)
    | lift_lets
    | dsimp only
    | with_reducible apply ite_kept
    | intro _ _ _
    | intro _ _
    | fail_if_no_progress (with_reducible refine mk_kept ?_ rfl rfl rfl rfl rfl rfl rfl hm)
    | (with_reducible refine mk_sized ?_ rfl rfl ?_ ?_ ?_ ?_ ?_ hm <;> first | with_reducible assumption | with_reducible rfl | (simp; done))
    | split

theorem State.filterInput_kept (s : State) (i : Nat) (xs : List (BitVec 16)) (hs : Kept msk ref s) (hm : 8388612 &&& msk = 8388612) : Kept msk ref (State.filterInput s i xs) := by
  unfold State.filterInput
  repeat' first
    | with_reducible assumption
    | exact mask_sub hm rfl
    | with_reducible apply State.onSaf_kept
    | with_reducible apply State.wrB_kept

theorem State.takeInput_kept (s : State) (i : Nat) (xs : List (BitVec 16)) (hs : Kept msk ref s) (hm : 8389126 &&& msk = 8389126) : Kept msk ref (State.takeInput s i xs) := by
  unfold State.takeInput
  repeat' first
    | with_reducible assumption
    | exact mask_sub hm rfl
    | with_reducible apply State.checkDiscrepancy_kept
    | with_reducible apply State.filterInput_kept
    | with_reducible apply State.onSaf_kept
    | with_reducible apply State.tryUnlock_kept
    | (intro x; refine (fun (hx : Kept msk ref x) => ?_) ?_; on_goal 1 => clear_value x)
    | (intro x; refine (fun (hx : Kept msk ref x.1) => ?_) ?_; on_goal 1 => clear_value x)
    | (intro x; refine (fun (hx : Kept msk ref x.2) => ?_) ?_; on_goal 1 => clear_value x)
    | (intro x; clear_value x)
    | lift_lets
    | dsimp only
    | with_reducible apply ite_kept

theorem State.doTestPulse_kept (s : State) (source a b : Nat) (hs : Kept msk ref s) (hm : 8389142 &&& msk = 8389142) : Kept msk ref (State.doTestPulse s source a b) := by
  unfold State.doTestPulse
  repeat' first
    | with_reducible assumption
    | exact mask_sub hm rfl
    | with_reducible apply State.forEach_kept
    | with_reducible apply State.lockInput_kept
    | with_reducible apply State.onSaf_kept
    | with_reducible apply State.toTick_kept
    | with_reducible apply State.tryUnlock_kept
    | (intro x; refine (fun (hx : Kept msk ref x) => ?_) ?_; on_goal 1 => clear_value x)
    | (intro x; refine (fun (hx : Kept msk ref x.1) => ?_) ?_; on_goal 1 => clear_value x)
    | (intro x; refine (fun (hx : Kept msk ref x.2) => ?_) ?_; on_goal 1 => clear_value x)
    | (intro x; clear_value x)
    | lift_lets
    | dsimp only
    | with_reducible apply ite_kept
    | intro _ _ _

theorem State.freeDiv_kept (s : State) (n : Int) (d : Nat) (hs : Kept msk ref s) (hm : 2 &&& msk = 2) : Kept msk ref (State.freeDiv s n d).2 := by
  unfold State.freeDiv
  repeat' first
    | with_reducible assumption
    | exact mask_sub hm rfl
    | with_reducible apply State.freeBelow_kept
    | (intro x; refine (fun (hx : Kept msk ref x) => ?_) ?_; on_goal 1 => clear_value x)
    | (intro x; refine (fun (hx : Kept msk ref x.1) => ?_) ?_; on_goal 1 => clear_value x)
    | (intro x; refine (fun (hx : Kept msk ref x.2) => ?_) ?_; on_goal 1 => clear_value x)
    | (intro x; clear_value x)
    | lift_lets
    | dsimp only
    | with_reducible apply ite_kept
    | intro _ _ _
    | intro _ _
    | split

theorem State.pInc_kept (s : State) (count : Int) (hs : Kept msk ref s) (hm : 2 &&& msk = 2) : Kept msk ref (State.pInc s count).2 := by
  unfold State.pInc
  repeat' first
    | with_reducible assumption
    | exact mask_sub hm rfl
    | with_reducible apply State.count_kept
    | with_reducible apply State.freeDiv_kept

theorem State.takeSource_kept (s : State) (k : Nat) (bad : Bool) (hs : Kept msk ref s) (hm : 8389124 &&& msk = 8389124) : Kept msk ref (State.takeSource s k bad) := by
  unfold State.takeSource
  repeat' first
    | with_reducible assumption
    | exact mask_sub hm rfl
    | with_reducible apply State.conditionOver_kept
    | with_reducible apply State.elementGood_kept
    | with_reducible apply State.onSaf_kept
    | with_reducible apply State.wrB_kept
    | (intro x; refine (fun (hx : Kept msk ref x) => ?_) ?_; on_goal 1 => clear_value x)
    | lift_lets
    | dsimp only
    | with_reducible apply ite_kept

theorem State.sourceLost_kept (s : State) (k : Nat) (wait : Bool) (hs : Kept msk ref s) (hm : 25166342 &&& msk = 25166342) : Kept msk ref (State.sourceLost s k wait) := by
  unfold State.sourceLost
  repeat' first
    | with_reducible assumption
    | exact mask_sub hm rfl
    | with_reducible apply State.loseElement_kept
    | with_reducible apply State.onSaf_kept
    | with_reducible apply State.safReport_kept
    | (intro x; refine (fun (hx : Kept msk ref x) => ?_) ?_; on_goal 1 => clear_value x)
    | (intro x; refine (fun (hx : Kept msk ref x.1) => ?_) ?_; on_goal 1 => clear_value x)
    | (intro x; refine (fun (hx : Kept msk ref x.2) => ?_) ?_; on_goal 1 => clear_value x)
    | (intro x; clear_value x)
    | lift_lets
    | dsimp only
    | with_reducible apply ite_kept

theorem State.takeSources_kept (s : State) (seen : SafetySeen) (hs : Kept msk ref s) (hm : 25166342 &&& msk = 25166342) : Kept msk ref (State.takeSources s seen) := by
  unfold State.takeSources
  repeat' first
    | with_reducible assumption
    | exact mask_sub hm rfl
    | with_reducible apply State.count_kept
    | with_reducible apply State.freeDiv_kept
    | with_reducible apply State.onSaf_kept
    | with_reducible apply State.pInc_kept
    | with_reducible apply State.safLock_kept
    | with_reducible apply State.show32_kept
    | with_reducible apply State.sourceLost_kept
    | with_reducible apply State.takeSource_kept
    | with_reducible apply State.wr_kept
    | (intro x; refine (fun (hx : Kept msk ref x) => ?_) ?_; on_goal 1 => clear_value x)
    | (intro x; refine (fun (hx : Kept msk ref x.1) => ?_) ?_; on_goal 1 => clear_value x)
    | (intro x; refine (fun (hx : Kept msk ref x.2) => ?_) ?_; on_goal 1 => clear_value x)
    | (intro x; clear_value x)
    | lift_lets
    | dsimp only
    | with_reducible apply ite_kept

theorem State.checkSls_kept (s : State) (hs : Kept msk ref s) (hm : 8388612 &&& msk = 8388612) : Kept msk ref (State.checkSls s) := by
  unfold State.checkSls
  repeat' first
    | with_reducible assumption
    | exact mask_sub hm rfl
    | with_reducible apply State.enterSs1_kept
    | with_reducible apply State.enterSto_kept
    | with_reducible apply State.followSls_kept
    | with_reducible apply State.onSaf_kept
    | (intro x; refine (fun (hx : Kept msk ref x) => ?_) ?_; on_goal 1 => clear_value x)
    | (intro x; refine (fun (hx : Kept msk ref x.1) => ?_) ?_; on_goal 1 => clear_value x)
    | (intro x; refine (fun (hx : Kept msk ref x.2) => ?_) ?_; on_goal 1 => clear_value x)
    | (intro x; clear_value x)
    | lift_lets
    | dsimp only
    | with_reducible apply ite_kept

theorem State.checkSlp_kept (s : State) (hs : Kept msk ref s) (hm : 8388612 &&& msk = 8388612) : Kept msk ref (State.checkSlp s) := by
  unfold State.checkSlp
  repeat' first
    | with_reducible assumption
    | exact mask_sub hm rfl
    | with_reducible apply State.enterSs1_kept
    | with_reducible apply State.onSaf_kept
    | (intro x; refine (fun (hx : Kept msk ref x) => ?_) ?_; on_goal 1 => clear_value x)
    | (intro x; refine (fun (hx : Kept msk ref x.1) => ?_) ?_; on_goal 1 => clear_value x)
    | (intro x; refine (fun (hx : Kept msk ref x.2) => ?_) ?_; on_goal 1 => clear_value x)
    | (intro x; clear_value x)
    | lift_lets
    | dsimp only
    | with_reducible apply ite_kept

theorem State.checkSdi_kept (s : State) (hs : Kept msk ref s) (hm : 8388612 &&& msk = 8388612) : Kept msk ref (State.checkSdi s) := by
  unfold State.checkSdi
  repeat' first
    | with_reducible assumption
    | exact mask_sub hm rfl
    | with_reducible apply State.enterSto_kept
    | with_reducible apply State.onSaf_kept
    | (intro x; refine (fun (hx : Kept msk ref x) => ?_) ?_; on_goal 1 => clear_value x)
    | (intro x; refine (fun (hx : Kept msk ref x.1) => ?_) ?_; on_goal 1 => clear_value x)
    | (intro x; refine (fun (hx : Kept msk ref x.2) => ?_) ?_; on_goal 1 => clear_value x)
    | (intro x; clear_value x)
    | lift_lets
    | dsimp only
    | with_reducible apply ite_kept

theorem State.checkSs1_kept (s : State) (hs : Kept msk ref s) (hm : 8388612 &&& msk = 8388612) : Kept msk ref (State.checkSs1 s) := by
  unfold State.checkSs1
  repeat' first
    | with_reducible assumption
    | exact mask_sub hm rfl
    | with_reducible apply State.enterSto_kept
    | with_reducible apply State.onSaf_kept
    | (intro x; refine (fun (hx : Kept msk ref x) => ?_) ?_; on_goal 1 => clear_value x)
    | (intro x; refine (fun (hx : Kept msk ref x.1) => ?_) ?_; on_goal 1 => clear_value x)
    | (intro x; refine (fun (hx : Kept msk ref x.2) => ?_) ?_; on_goal 1 => clear_value x)
    | (intro x; clear_value x)
    | lift_lets
    | dsimp only
    | with_reducible apply ite_kept
    | intro _ _ _
    | intro _ _
    | fail_if_no_progress (with_reducible refine mk_kept ?_ rfl rfl rfl rfl rfl rfl rfl hm)
    | (with_reducible refine mk_sized ?_ rfl rfl ?_ ?_ ?_ ?_ ?_ hm <;> first | with_reducible assumption | with_reducible rfl | (simp; done))
    | dsimp only [x]
    | split

theorem State.doDegradedExpiry_kept (s : State) (hs : Kept msk ref s) (hm : 25166358 &&& msk = 25166358) : Kept msk ref (State.doDegradedExpiry s) := by
  unfold State.doDegradedExpiry
  repeat' first
    | with_reducible assumption
    | exact mask_sub hm rfl
    | with_reducible apply State.safLock_kept
    | with_reducible apply State.toTick_kept
    | dsimp only
    | with_reducible apply ite_kept

theorem State.checkFunctions_kept (s : State) (hs : Kept msk ref s) (hm : 25166342 &&& msk = 25166342) : Kept msk ref (State.checkFunctions s) := by
  unfold State.checkFunctions
  repeat' first
    | with_reducible assumption
    | exact mask_sub hm rfl
    | with_reducible apply State.checkSdi_kept
    | with_reducible apply State.checkSlp_kept
    | with_reducible apply State.checkSls_kept
    | with_reducible apply State.checkSs1_kept
    | with_reducible apply State.enterSs1_kept
    | with_reducible apply State.enterSto_kept
    | with_reducible apply State.onSaf_kept
    | with_reducible apply State.safLock_kept
    | with_reducible apply State.when_kept
    | with_reducible apply State.wr_kept
    | (intro x; refine (fun (hx : Kept msk ref x) => ?_) ?_; on_goal 1 => clear_value x)
    | (intro x; refine (fun (hx : Kept msk ref x.1) => ?_) ?_; on_goal 1 => clear_value x)
    | (intro x; refine (fun (hx : Kept msk ref x.2) => ?_) ?_; on_goal 1 => clear_value x)
    | (intro x; clear_value x)
    | lift_lets
    | dsimp only
    | with_reducible apply ite_kept
    | intro _ _ _
    | intro _ _

theorem State.enterRun_kept (s : State) (hs : Kept msk ref s) (hm : 8388612 &&& msk = 8388612) : Kept msk ref (State.enterRun s) := by
  unfold State.enterRun
  repeat' first
    | with_reducible assumption
    | exact mask_sub hm rfl
    | with_reducible apply State.followSls_kept
    | with_reducible apply State.onSaf_kept
    | with_reducible apply State.setSaf_kept

theorem State.takeRequest_kept (s : State) (hs : Kept msk ref s) (hm : 8388612 &&& msk = 8388612) : Kept msk ref (State.takeRequest s) := by
  unfold State.takeRequest
  repeat' first
    | with_reducible assumption
    | exact mask_sub hm rfl
    | with_reducible apply State.enterRun_kept
    | with_reducible apply State.followSls_kept
    | with_reducible apply State.onSaf_kept
    | with_reducible apply State.setSaf_kept
    | with_reducible apply State.wr_kept
    | (intro x; refine (fun (hx : Kept msk ref x) => ?_) ?_; on_goal 1 => clear_value x)
    | (intro x; refine (fun (hx : Kept msk ref x.1) => ?_) ?_; on_goal 1 => clear_value x)
    | (intro x; refine (fun (hx : Kept msk ref x.2) => ?_) ?_; on_goal 1 => clear_value x)
    | (intro x; clear_value x)
    | lift_lets
    | dsimp only
    | with_reducible apply ite_kept

theorem State.curtainFault_kept (s : State) (n : Nat) (hs : Kept msk ref s) (hm : 25166342 &&& msk = 25166342) : Kept msk ref (State.curtainFault s n) := by
  unfold State.curtainFault
  repeat' first
    | with_reducible assumption
    | exact mask_sub hm rfl
    | with_reducible apply State.safLock_kept

theorem State.takeReadback_kept (s : State) (balls : List (Nat × Nat)) (hs : Kept msk ref s) (hm : 25166342 &&& msk = 25166342) : Kept msk ref (State.takeReadback s balls) := by
  unfold State.takeReadback
  repeat' first
    | with_reducible assumption
    | exact mask_sub hm rfl
    | with_reducible apply State.curtainFault_kept
    | with_reducible apply State.forEach_kept
    | with_reducible apply State.onSaf_kept
    | (intro x; refine (fun (hx : Kept msk ref x) => ?_) ?_; on_goal 1 => clear_value x)
    | (intro x; refine (fun (hx : Kept msk ref x.1) => ?_) ?_; on_goal 1 => clear_value x)
    | (intro x; refine (fun (hx : Kept msk ref x.2) => ?_) ?_; on_goal 1 => clear_value x)
    | (intro x; clear_value x)
    | lift_lets
    | dsimp only
    | with_reducible apply ite_kept
    | intro _ _ _

theorem State.takeVaux_kept (s : State) (vaux : Nat) (hs : Kept msk ref s) (hm : 8388612 &&& msk = 8388612) : Kept msk ref (State.takeVaux s vaux) := by
  unfold State.takeVaux
  repeat' first
    | with_reducible assumption
    | exact mask_sub hm rfl
    | with_reducible apply State.enterSto_kept
    | with_reducible apply State.onSaf_kept
    | with_reducible apply State.wr_kept
    | (intro x; refine (fun (hx : Kept msk ref x) => ?_) ?_; on_goal 1 => clear_value x)
    | (intro x; refine (fun (hx : Kept msk ref x.1) => ?_) ?_; on_goal 1 => clear_value x)
    | (intro x; refine (fun (hx : Kept msk ref x.2) => ?_) ?_; on_goal 1 => clear_value x)
    | (intro x; clear_value x)
    | lift_lets
    | dsimp only
    | with_reducible apply ite_kept

theorem State.freeReset_kept (s : State) (hs : Kept msk ref s) (hm : 4 &&& msk = 4) : Kept msk ref (State.freeReset s) := by
  unfold State.freeReset
  repeat' first
    | with_reducible assumption
    | exact mask_sub hm rfl
    | with_reducible apply State.wr_kept
    | dsimp only
    | with_reducible apply ite_kept
    | intro _ _ _
    | intro _ _
    | split

theorem State.doSafetyCycle_kept (s : State) (x : SafetySeen) (hs : Kept msk ref s) (hm : 25166358 &&& msk = 25166358) : Kept msk ref (State.doSafetyCycle s x) := by
  unfold State.doSafetyCycle
  repeat' first
    | with_reducible assumption
    | exact mask_sub hm rfl
    | with_reducible apply State.checkFunctions_kept
    | with_reducible apply State.filterInput_kept
    | with_reducible apply State.forEach_kept
    | with_reducible apply State.freeReset_kept
    | with_reducible apply State.onSaf_kept
    | with_reducible apply State.safLock_kept
    | with_reducible apply State.takeInput_kept
    | with_reducible apply State.takeReadback_kept
    | with_reducible apply State.takeRequest_kept
    | with_reducible apply State.takeSources_kept
    | with_reducible apply State.takeVaux_kept
    | with_reducible apply State.toTick_kept
    | with_reducible apply State.voterDiffers_kept
    | with_reducible apply State.when_kept
    | (intro x; refine (fun (hx : Kept msk ref x) => ?_) ?_; on_goal 1 => clear_value x)
    | lift_lets
    | dsimp only
    | with_reducible apply ite_kept
    | intro _ _ _
    | intro _ _

theorem State.doCurtainTest_kept (s : State) (balls : List (Nat × Nat)) (hs : Kept msk ref s) (hm : 25166358 &&& msk = 25166358) : Kept msk ref (State.doCurtainTest s balls) := by
  unfold State.doCurtainTest
  repeat' first
    | with_reducible assumption
    | exact mask_sub hm rfl
    | with_reducible apply State.curtainFault_kept
    | with_reducible apply State.forEach_kept
    | with_reducible apply State.onSaf_kept
    | with_reducible apply State.toTick_kept
    | (intro x; refine (fun (hx : Kept msk ref x) => ?_) ?_; on_goal 1 => clear_value x)
    | (intro x; refine (fun (hx : Kept msk ref x.1) => ?_) ?_; on_goal 1 => clear_value x)
    | (intro x; refine (fun (hx : Kept msk ref x.2) => ?_) ?_; on_goal 1 => clear_value x)
    | (intro x; clear_value x)
    | lift_lets
    | dsimp only
    | with_reducible apply ite_kept
    | intro _ _ _

theorem State.doCurtainOverload_kept (s : State) (n : Nat) (hs : Kept msk ref s) (hm : 25166342 &&& msk = 25166342) : Kept msk ref (State.doCurtainOverload s n) := by
  unfold State.doCurtainOverload
  repeat' first
    | with_reducible assumption
    | exact mask_sub hm rfl
    | with_reducible apply State.curtainFault_kept
    | dsimp only
    | with_reducible apply ite_kept

theorem State.doSafeResetStuck_kept (s : State) (hs : Kept msk ref s) (hm : 8388612 &&& msk = 8388612) : Kept msk ref (State.doSafeResetStuck s) := by
  unfold State.doSafeResetStuck
  repeat' first
    | with_reducible assumption
    | exact mask_sub hm rfl
    | with_reducible apply State.onSaf_kept
    | with_reducible apply State.release_kept
    | with_reducible apply State.satAdd_kept
    | with_reducible apply State.wr_kept
    | dsimp only
    | with_reducible apply ite_kept

theorem State.pressCounts_kept (s : State) (ms : Nat) (hs : Kept msk ref s) (hm : 2 &&& msk = 2) : Kept msk ref (State.pressCounts s ms).2 := by
  unfold State.pressCounts
  repeat' first
    | with_reducible assumption
    | exact mask_sub hm rfl
    | with_reducible apply State.freeBelow_kept
    | (intro x; refine (fun (hx : Kept msk ref x) => ?_) ?_; on_goal 1 => clear_value x)
    | (intro x; refine (fun (hx : Kept msk ref x.1) => ?_) ?_; on_goal 1 => clear_value x)
    | (intro x; refine (fun (hx : Kept msk ref x.2) => ?_) ?_; on_goal 1 => clear_value x)
    | (intro x; clear_value x)
    | lift_lets
    | dsimp only
    | with_reducible apply ite_kept
    | intro _ _ _
    | intro _ _
    | split

theorem State.doSafeResetRelease_kept (s : State) (ms : Nat) (hs : Kept msk ref s) (hm : 8388614 &&& msk = 8388614) : Kept msk ref (State.doSafeResetRelease s ms) := by
  unfold State.doSafeResetRelease
  repeat' first
    | with_reducible assumption
    | exact mask_sub hm rfl
    | with_reducible apply State.doSafeResetStuck_kept
    | with_reducible apply State.onSaf_kept
    | with_reducible apply State.pressCounts_kept
    | with_reducible apply State.release_kept
    | with_reducible apply State.wr_kept
    | (intro x; refine (fun (hx : Kept msk ref x) => ?_) ?_; on_goal 1 => clear_value x)
    | (intro x; refine (fun (hx : Kept msk ref x.1) => ?_) ?_; on_goal 1 => clear_value x)
    | (intro x; refine (fun (hx : Kept msk ref x.2) => ?_) ?_; on_goal 1 => clear_value x)
    | (intro x; clear_value x)
    | lift_lets
    | dsimp only
    | with_reducible apply ite_kept

theorem State.safPowerOff_kept (s : State) (hs : Kept msk ref s) (hm : 8388612 &&& msk = 8388612) : Kept msk ref (State.safPowerOff s) := by
  unfold State.safPowerOff
  repeat' first
    | with_reducible assumption
    | exact mask_sub hm rfl
    | with_reducible apply State.enterSto_kept
    | with_reducible apply State.onSaf_kept

theorem State.onPwr_kept (s : State) (f : Pwr → Pwr) (hs : Kept msk ref s) (hm : 33554432 &&& msk = 33554432) : Kept msk ref (State.onPwr s f) := by
  unfold State.onPwr
  repeat' first
    | with_reducible assumption
    | exact mask_sub hm rfl
    | dsimp only
    | intro _ _ _
    | intro _ _
    | fail_if_no_progress (with_reducible refine mk_kept ?_ rfl rfl rfl rfl rfl rfl rfl hm)

theorem State.showStage_kept (s : State) (hs : Kept msk ref s) (hm : 4 &&& msk = 4) : Kept msk ref (State.showStage s) := by
  unfold State.showStage
  repeat' first
    | with_reducible assumption
    | exact mask_sub hm rfl
    | with_reducible apply State.wrB_kept
    | with_reducible apply State.wr_kept

theorem State.shedRegion_kept (s : State) (r : Nat) (hs : Kept msk ref s) (hm : 3139534 &&& msk = 3139534) : Kept msk ref (State.shedRegion s r) := by
  unfold State.shedRegion
  repeat' first
    | with_reducible assumption
    | exact mask_sub hm rfl
    | with_reducible apply State.count_kept
    | with_reducible apply State.onRegion_kept
    | with_reducible apply State.shedFeeds_kept
    | with_reducible apply State.stopRegion_kept
    | (intro x; refine (fun (hx : Kept msk ref x) => ?_) ?_; on_goal 1 => clear_value x)
    | lift_lets
    | dsimp only
    | with_reducible apply ite_kept

theorem State.unshedRegion_kept (s : State) (r : Nat) (hs : Kept msk ref s) (hm : 41478 &&& msk = 41478) : Kept msk ref (State.unshedRegion s r) := by
  unfold State.unshedRegion
  repeat' first
    | with_reducible assumption
    | exact mask_sub hm rfl
    | with_reducible apply State.onRegion_kept
    | with_reducible apply State.shedFeeds_kept

theorem State.shedStep_kept (s : State) (k : Nat) (hs : Kept msk ref s) (hm : 4190158 &&& msk = 4190158) : Kept msk ref (State.shedStep s k) := by
  unfold State.shedStep
  repeat' first
    | with_reducible assumption
    | exact mask_sub hm rfl
    | with_reducible apply State.chnSync_kept
    | with_reducible apply State.forEach_kept
    | with_reducible apply State.holdStream_kept
    | with_reducible apply State.prmShed_kept
    | with_reducible apply State.shedLanes_kept
    | with_reducible apply State.shedRegion_kept
    | with_reducible apply State.stopRing_kept
    | with_reducible apply State.wr_kept
    | (intro x; refine (fun (hx : Kept msk ref x) => ?_) ?_; on_goal 1 => clear_value x)
    | lift_lets
    | dsimp only
    | intro _ _ _
    | intro _ _
    | dsimp only [x]
    | split

theorem State.restoreLanes_kept (s : State) (k : Nat) (hs : Kept msk ref s) (hm : 134 &&& msk = 134) : Kept msk ref (State.restoreLanes s k) := by
  unfold State.restoreLanes
  repeat' first
    | with_reducible assumption
    | exact mask_sub hm rfl
    | with_reducible apply State.unshedLanes_kept

theorem State.unshedStep_kept (s : State) (k : Nat) (hs : Kept msk ref s) (hm : 4123590 &&& msk = 4123590) : Kept msk ref (State.unshedStep s k) := by
  unfold State.unshedStep
  repeat' first
    | with_reducible assumption
    | exact mask_sub hm rfl
    | with_reducible apply State.chnSync_kept
    | with_reducible apply State.count_kept
    | with_reducible apply State.forEach_kept
    | with_reducible apply State.holdStream_kept
    | with_reducible apply State.prmUnshed_kept
    | with_reducible apply State.restoreLanes_kept
    | with_reducible apply State.startRing_kept
    | with_reducible apply State.unshedRegion_kept
    | with_reducible apply State.wr_kept
    | (intro x; refine (fun (hx : Kept msk ref x) => ?_) ?_; on_goal 1 => clear_value x)
    | lift_lets
    | dsimp only
    | with_reducible apply ite_kept
    | intro _ _ _
    | intro _ _
    | fail_if_no_progress (with_reducible refine mk_kept ?_ rfl rfl rfl rfl rfl rfl rfl hm)
    | (with_reducible refine mk_sized ?_ rfl rfl ?_ ?_ ?_ ?_ ?_ hm <;> first | with_reducible assumption | with_reducible rfl | (simp; done))
    | dsimp only [x]
    | split

theorem State.noteStage_kept (s : State) (hs : Kept msk ref s) (hm : 33554432 &&& msk = 33554432) : Kept msk ref (State.noteStage s) := by
  unfold State.noteStage
  repeat' first
    | with_reducible assumption
    | exact mask_sub hm rfl
    | with_reducible apply State.onPwr_kept

theorem State.enterStage_kept (s : State) (k : Nat) (hs : Kept msk ref s) (hm : 37744590 &&& msk = 37744590) : Kept msk ref (State.enterStage s k) := by
  unfold State.enterStage
  repeat' first
    | with_reducible assumption
    | exact mask_sub hm rfl
    | with_reducible apply State.flag_kept
    | with_reducible apply State.forEach_kept
    | with_reducible apply State.noteStage_kept
    | with_reducible apply State.shedStep_kept
    | dsimp only
    | with_reducible apply ite_kept
    | intro _ _ _

theorem State.sendNotice_kept (s : State) (hs : Kept msk ref s) (hm : 33555270 &&& msk = 33555270) : Kept msk ref (State.sendNotice s) := by
  unfold State.sendNotice
  repeat' first
    | with_reducible assumption
    | exact mask_sub hm rfl
    | with_reducible apply State.onPwr_kept
    | with_reducible apply State.push_kept

theorem State.doSheddingNotice_kept (s : State) (hs : Kept msk ref s) (hm : 33555286 &&& msk = 33555286) : Kept msk ref (State.doSheddingNotice s) := by
  unfold State.doSheddingNotice
  repeat' first
    | with_reducible assumption
    | exact mask_sub hm rfl
    | with_reducible apply State.sendNotice_kept
    | with_reducible apply State.toTick_kept
    | dsimp only
    | with_reducible apply ite_kept
    | intro _ _ _
    | intro _ _
    | split

theorem State.abandonWrites_kept (s : State) (hs : Kept msk ref s) (hm : 8454148 &&& msk = 8454148) : Kept msk ref (State.abandonWrites s) := by
  unfold State.abandonWrites
  repeat' first
    | with_reducible assumption
    | exact mask_sub hm rfl
    | with_reducible apply State.onAdc_kept
    | with_reducible apply State.onSaf_kept
    | with_reducible apply State.wr_kept

theorem State.enterS5_kept (s : State) (hs : Kept msk ref s) (hm : 67108814 &&& msk = 67108814) : Kept msk ref (State.enterS5 s) := by
  unfold State.enterS5
  repeat' first
    | with_reducible assumption
    | exact mask_sub hm rfl
    | with_reducible apply State.abandonWrites_kept
    | with_reducible apply State.flag_kept
    | with_reducible apply State.forEach_kept
    | with_reducible apply State.noteStage_kept
    | with_reducible apply State.onPwr_kept
    | with_reducible apply State.requestCommit_kept
    | with_reducible apply State.safPowerOff_kept
    | with_reducible apply State.sendNotice_kept
    | with_reducible apply State.shedFeeds_kept
    | with_reducible apply State.shedStep_kept
    | with_reducible apply State.showStage_kept
    | with_reducible apply State.stopPlane_kept
    | with_reducible apply State.stopRing_kept
    | with_reducible apply State.stopSensors_kept
    | with_reducible apply State.wr_kept
    | (intro x; refine (fun (hx : Kept msk ref x) => ?_) ?_; on_goal 1 => clear_value x)
    | lift_lets
    | dsimp only
    | with_reducible apply ite_kept
    | intro _ _ _

theorem State.haltKeeper_kept (s : State) (hs : Kept msk ref s) (hm : 33559254 &&& msk = 33559254) : Kept msk ref (State.haltKeeper s) := by
  unfold State.haltKeeper
  repeat' first
    | with_reducible assumption
    | exact mask_sub hm rfl
    | with_reducible apply State.onPlane_kept
    | with_reducible apply State.onPwr_kept
    | with_reducible apply State.shedLanes_kept
    | (intro x; refine (fun (hx : Kept msk ref x) => ?_) ?_; on_goal 1 => clear_value x)
    | lift_lets
    | dsimp only
    | intro _ _ _
    | intro _ _
    | fail_if_no_progress (with_reducible refine mk_kept ?_ rfl rfl rfl rfl rfl rfl rfl hm)

theorem State.keepSurge_kept (s : State) (hs : Kept msk ref s) (hm : 16777216 &&& msk = 16777216) : Kept msk ref (State.keepSurge s) := by
  unfold State.keepSurge
  repeat' first
    | with_reducible assumption
    | exact mask_sub hm rfl
    | with_reducible apply State.onBook_kept
    | dsimp only
    | with_reducible apply ite_kept

theorem State.noteOverVoltage_kept (s : State) (r : VinRun) (hs : Kept msk ref s) (hm : 50332166 &&& msk = 50332166) : Kept msk ref (State.noteOverVoltage s r) := by
  unfold State.noteOverVoltage
  repeat' first
    | with_reducible assumption
    | exact mask_sub hm rfl
    | with_reducible apply State.conditionOver_kept
    | with_reducible apply State.flag_kept
    | with_reducible apply State.keepSurge_kept
    | with_reducible apply State.onPwr_kept
    | with_reducible apply State.report_kept
    | (intro x; refine (fun (hx : Kept msk ref x) => ?_) ?_; on_goal 1 => clear_value x)
    | (intro x; refine (fun (hx : Kept msk ref x.1) => ?_) ?_; on_goal 1 => clear_value x)
    | (intro x; refine (fun (hx : Kept msk ref x.2) => ?_) ?_; on_goal 1 => clear_value x)
    | (intro x; clear_value x)
    | lift_lets
    | dsimp only
    | with_reducible apply ite_kept
    | intro _ _ _
    | intro _ _
    | fail_if_no_progress (with_reducible refine mk_kept ?_ rfl rfl rfl rfl rfl rfl rfl hm)
    | (with_reducible refine mk_sized ?_ rfl rfl ?_ ?_ ?_ ?_ ?_ hm <;> first | with_reducible assumption | with_reducible rfl | (simp; done))
    | dsimp only [x]
    | split

theorem State.takeVin_kept (s : State) (vins : List Nat) (hs : Kept msk ref s) (hm : 67108814 &&& msk = 67108814) : Kept msk ref (State.takeVin s vins) := by
  unfold State.takeVin
  repeat' first
    | with_reducible assumption
    | exact mask_sub hm rfl
    | with_reducible apply State.enterS5_kept
    | with_reducible apply State.noteOverVoltage_kept
    | with_reducible apply State.wr_kept
    | (intro x; refine (fun (hx : Kept msk ref x) => ?_) ?_; on_goal 1 => clear_value x)
    | (intro x; refine (fun (hx : Kept msk ref x.1) => ?_) ?_; on_goal 1 => clear_value x)
    | (intro x; refine (fun (hx : Kept msk ref x.2) => ?_) ?_; on_goal 1 => clear_value x)
    | (intro x; clear_value x)
    | lift_lets
    | dsimp only
    | with_reducible apply ite_kept

theorem State.doOrderlyStop_kept (s : State) (vins : List Nat) (hs : Kept msk ref s) (hm : 67108830 &&& msk = 67108830) : Kept msk ref (State.doOrderlyStop s vins) := by
  unfold State.doOrderlyStop
  repeat' first
    | with_reducible assumption
    | exact mask_sub hm rfl
    | with_reducible apply State.enterS5_kept
    | with_reducible apply State.haltKeeper_kept
    | with_reducible apply State.takeVin_kept
    | (intro x; refine (fun (hx : Kept msk ref x) => ?_) ?_; on_goal 1 => clear_value x)
    | lift_lets
    | dsimp only
    | with_reducible apply ite_kept

theorem State.doPowerFail_kept (s : State) (hs : Kept msk ref s) (hm : 67108814 &&& msk = 67108814) : Kept msk ref (State.doPowerFail s) := by
  unfold State.doPowerFail
  repeat' first
    | with_reducible assumption
    | exact mask_sub hm rfl
    | with_reducible apply State.enterS5_kept
    | with_reducible apply State.onPwr_kept

theorem State.doDropOut_kept (s : State) (hs : Kept msk ref s) (hm : 50335760 &&& msk = 50335760) : Kept msk ref (State.doDropOut s) := by
  unfold State.doDropOut
  repeat' first
    | with_reducible assumption
    | exact mask_sub hm rfl
    | with_reducible apply State.onBook_kept
    | with_reducible apply State.onPlane_kept
    | with_reducible apply State.onPwr_kept
    | (intro x; refine (fun (hx : Kept msk ref x) => ?_) ?_; on_goal 1 => clear_value x)
    | lift_lets
    | dsimp only
    | intro _ _ _
    | intro _ _
    | fail_if_no_progress (with_reducible refine mk_kept ?_ rfl rfl rfl rfl rfl rfl rfl hm)

theorem State.takeSupplies_kept (s : State) (vaux vfeed power : Nat) (hs : Kept msk ref s) (hm : 4 &&& msk = 4) : Kept msk ref (State.takeSupplies s vaux vfeed power) := by
  unfold State.takeSupplies
  repeat' first
    | with_reducible assumption
    | exact mask_sub hm rfl
    | with_reducible apply State.wr_kept

theorem State.watchVin_kept (s : State) (vins : List Nat) (hs : Kept msk ref s) (hm : 33554432 &&& msk = 33554432) : Kept msk ref (State.watchVin s vins) := by
  unfold State.watchVin
  repeat' first
    | with_reducible assumption
    | exact mask_sub hm rfl
    | with_reducible apply State.onPwr_kept

theorem State.doStageTick_kept (s : State) (vins : List Nat) (vaux vfeed power : Nat) (hs : Kept msk ref s) (hm : 67108814 &&& msk = 67108814) : Kept msk ref (State.doStageTick s vins vaux vfeed power) := by
  unfold State.doStageTick
  repeat' first
    | with_reducible assumption
    | exact mask_sub hm rfl
    | with_reducible apply State.enterS5_kept
    | with_reducible apply State.enterStage_kept
    | with_reducible apply State.showStage_kept
    | with_reducible apply State.takeSupplies_kept
    | with_reducible apply State.takeVin_kept
    | with_reducible apply State.watchVin_kept
    | (intro x; refine (fun (hx : Kept msk ref x) => ?_) ?_; on_goal 1 => clear_value x)
    | (intro x; refine (fun (hx : Kept msk ref x.1) => ?_) ?_; on_goal 1 => clear_value x)
    | (intro x; refine (fun (hx : Kept msk ref x.2) => ?_) ?_; on_goal 1 => clear_value x)
    | (intro x; clear_value x)
    | lift_lets
    | dsimp only
    | with_reducible apply ite_kept

theorem State.doStageRestore_kept (s : State) (hs : Kept msk ref s) (hm : 37678038 &&& msk = 37678038) : Kept msk ref (State.doStageRestore s) := by
  unfold State.doStageRestore
  repeat' first
    | with_reducible assumption
    | exact mask_sub hm rfl
    | with_reducible apply State.noteStage_kept
    | with_reducible apply State.showStage_kept
    | with_reducible apply State.toTick_kept
    | with_reducible apply State.unshedStep_kept
    | (intro x; refine (fun (hx : Kept msk ref x) => ?_) ?_; on_goal 1 => clear_value x)
    | lift_lets
    | dsimp only
    | with_reducible apply ite_kept

theorem State.doForceStage_kept (s : State) (w : Word) (hs : Kept msk ref s) (hm : 4 &&& msk = 4) : Kept msk ref (State.doForceStage s w) := by
  unfold State.doForceStage
  repeat' first
    | with_reducible assumption
    | exact mask_sub hm rfl
    | with_reducible apply State.showStage_kept
    | with_reducible apply State.wr_kept

theorem State.doVinClrMin_kept (s : State) (hs : Kept msk ref s) (hm : 4 &&& msk = 4) : Kept msk ref (State.doVinClrMin s) := by
  unfold State.doVinClrMin
  repeat' first
    | with_reducible assumption
    | exact mask_sub hm rfl
    | with_reducible apply State.wr_kept

theorem State.doOverVoltage_kept (s : State) (vins : List Nat) (hs : Kept msk ref s) (hm : 67108814 &&& msk = 67108814) : Kept msk ref (State.doOverVoltage s vins) := by
  unfold State.doOverVoltage
  repeat' first
    | with_reducible assumption
    | exact mask_sub hm rfl
    | with_reducible apply State.takeVin_kept

theorem State.doOverVoltageEnd_kept (s : State) (hs : Kept msk ref s) (hm : 33554944 &&& msk = 33554944) : Kept msk ref (State.doOverVoltageEnd s) := by
  unfold State.doOverVoltageEnd
  repeat' first
    | with_reducible assumption
    | exact mask_sub hm rfl
    | with_reducible apply State.conditionOver_kept
    | with_reducible apply State.onPwr_kept
    | dsimp only
    | with_reducible apply ite_kept

theorem State.doRailFault_kept (s : State) (rail scope : Nat) (hs : Kept msk ref s) (hm : 3110862 &&& msk = 3110862) : Kept msk ref (State.doRailFault s rail scope) := by
  unfold State.doRailFault
  repeat' first
    | with_reducible assumption
    | exact mask_sub hm rfl
    | with_reducible apply State.failRegion_kept
    | with_reducible apply State.onPlane_kept
    | with_reducible apply State.report_kept
    | with_reducible apply State.stopPlane_kept
    | dsimp only
    | with_reducible apply ite_kept

theorem State.heatRegion_kept (s : State) (r : Nat) (hs : Kept msk ref s) (hm : 3106766 &&& msk = 3106766) : Kept msk ref (State.heatRegion s r) := by
  unfold State.heatRegion
  repeat' first
    | with_reducible assumption
    | exact mask_sub hm rfl
    | with_reducible apply State.count_kept
    | with_reducible apply State.onRegion_kept
    | with_reducible apply State.stopRegion_kept
    | (intro x; refine (fun (hx : Kept msk ref x) => ?_) ?_; on_goal 1 => clear_value x)
    | (intro x; refine (fun (hx : Kept msk ref x.1) => ?_) ?_; on_goal 1 => clear_value x)
    | (intro x; refine (fun (hx : Kept msk ref x.2) => ?_) ?_; on_goal 1 => clear_value x)
    | (intro x; clear_value x)
    | lift_lets
    | dsimp only
    | with_reducible apply ite_kept

theorem State.takeTemp_kept (s : State) (d : Nat) (tj : Int) (hs : Kept msk ref s) (hm : 4096 &&& msk = 4096) : Kept msk ref (State.takeTemp s d tj) := by
  unfold State.takeTemp
  repeat' first
    | with_reducible assumption
    | exact mask_sub hm rfl
    | with_reducible apply State.onPlane_kept

theorem State.doThermal_kept (s : State) (d : Nat) (tj : Int) (hs : Kept msk ref s) (hm : 67108814 &&& msk = 67108814) : Kept msk ref (State.doThermal s d tj) := by
  unfold State.doThermal
  repeat' first
    | with_reducible assumption
    | exact mask_sub hm rfl
    | with_reducible apply State.enterS5_kept
    | with_reducible apply State.forEach_kept
    | with_reducible apply State.heatRegion_kept
    | with_reducible apply State.onPlane_kept
    | with_reducible apply State.report_kept
    | with_reducible apply State.showStage_kept
    | with_reducible apply State.takeTemp_kept
    | (intro x; refine (fun (hx : Kept msk ref x) => ?_) ?_; on_goal 1 => clear_value x)
    | lift_lets
    | dsimp only
    | with_reducible apply ite_kept
    | intro _ _ _

theorem State.doThermalRecover_kept (s : State) (d : Nat) (tj : Int) (hs : Kept msk ref s) (hm : 12804 &&& msk = 12804) : Kept msk ref (State.doThermalRecover s d tj) := by
  unfold State.doThermalRecover
  repeat' first
    | with_reducible assumption
    | exact mask_sub hm rfl
    | with_reducible apply State.conditionOver_kept
    | with_reducible apply State.forEach_kept
    | with_reducible apply State.onPlane_kept
    | with_reducible apply State.onRegion_kept
    | with_reducible apply State.showStage_kept
    | with_reducible apply State.takeTemp_kept
    | (intro x; refine (fun (hx : Kept msk ref x) => ?_) ?_; on_goal 1 => clear_value x)
    | lift_lets
    | dsimp only
    | with_reducible apply ite_kept
    | intro _ _ _

theorem State.telDiscard_kept (s : State) (hs : Kept msk ref s) (hm : 4 &&& msk = 4) : Kept msk ref (State.telDiscard s) := by
  unfold State.telDiscard
  repeat' first
    | with_reducible assumption
    | exact mask_sub hm rfl
    | with_reducible apply State.satAdd_kept

theorem State.doStatusSend_kept (s : State) (hs : Kept msk ref s) (hm : 8389462 &&& msk = 8389462) : Kept msk ref (State.doStatusSend s) := by
  unfold State.doStatusSend
  repeat' first
    | with_reducible assumption
    | exact mask_sub hm rfl
    | with_reducible apply State.freeBelow_kept
    | with_reducible apply State.onSaf_kept
    | with_reducible apply State.pushSafety_kept
    | with_reducible apply State.toTick_kept
    | (intro x; refine (fun (hx : Kept msk ref x) => ?_) ?_; on_goal 1 => clear_value x)
    | (intro x; refine (fun (hx : Kept msk ref x.1) => ?_) ?_; on_goal 1 => clear_value x)
    | (intro x; refine (fun (hx : Kept msk ref x.2) => ?_) ?_; on_goal 1 => clear_value x)
    | (intro x; clear_value x)
    | lift_lets
    | dsimp only
    | with_reducible apply ite_kept
    | intro _ _ _
    | intro _ _
    | fail_if_no_progress (with_reducible refine mk_kept ?_ rfl rfl rfl rfl rfl rfl rfl hm)
    | (with_reducible refine mk_sized ?_ rfl rfl ?_ ?_ ?_ ?_ ?_ hm <;> first | with_reducible assumption | with_reducible rfl | (simp; done))
    | dsimp only [x]
    | split

theorem State.losePath_kept (s : State) (p : Nat) (hs : Kept msk ref s) (hm : 25166342 &&& msk = 25166342) : Kept msk ref (State.losePath s p) := by
  unfold State.losePath
  repeat' first
    | with_reducible assumption
    | exact mask_sub hm rfl
    | with_reducible apply State.loseElement_kept
    | with_reducible apply State.onSaf_kept
    | with_reducible apply State.wr_kept
    | (intro x; refine (fun (hx : Kept msk ref x) => ?_) ?_; on_goal 1 => clear_value x)
    | (intro x; refine (fun (hx : Kept msk ref x.1) => ?_) ?_; on_goal 1 => clear_value x)
    | (intro x; refine (fun (hx : Kept msk ref x.2) => ?_) ?_; on_goal 1 => clear_value x)
    | (intro x; clear_value x)
    | lift_lets
    | dsimp only
    | with_reducible apply ite_kept

theorem State.agreedOn_kept (s : State) (p : Nat) (hs : Kept msk ref s) (hm : 8389124 &&& msk = 8389124) : Kept msk ref (State.agreedOn s p) := by
  unfold State.agreedOn
  repeat' first
    | with_reducible assumption
    | exact mask_sub hm rfl
    | with_reducible apply State.conditionOver_kept
    | with_reducible apply State.elementGood_kept
    | with_reducible apply State.onSaf_kept
    | with_reducible apply State.wr_kept
    | (intro x; refine (fun (hx : Kept msk ref x) => ?_) ?_; on_goal 1 => clear_value x)
    | (intro x; refine (fun (hx : Kept msk ref x.1) => ?_) ?_; on_goal 1 => clear_value x)
    | (intro x; refine (fun (hx : Kept msk ref x.2) => ?_) ?_; on_goal 1 => clear_value x)
    | (intro x; clear_value x)
    | lift_lets
    | dsimp only
    | with_reducible apply ite_kept

theorem State.saferParts_kept (s : State) (w : LWord) (hs : Kept msk ref s) (hm : 8388612 &&& msk = 8388612) : Kept msk ref (State.saferParts s w) := by
  unfold State.saferParts
  repeat' first
    | with_reducible assumption
    | exact mask_sub hm rfl
    | with_reducible apply State.enterSs1_kept
    | with_reducible apply State.enterSto_kept
    | with_reducible apply State.followSls_kept
    | with_reducible apply State.onSaf_kept
    | (intro x; refine (fun (hx : Kept msk ref x) => ?_) ?_; on_goal 1 => clear_value x)
    | (intro x; refine (fun (hx : Kept msk ref x.1) => ?_) ?_; on_goal 1 => clear_value x)
    | (intro x; refine (fun (hx : Kept msk ref x.2) => ?_) ?_; on_goal 1 => clear_value x)
    | (intro x; clear_value x)
    | lift_lets
    | dsimp only
    | with_reducible apply ite_kept

theorem State.agreedParts_kept (s : State) (w : LWord) (hs : Kept msk ref s) (hm : 8388612 &&& msk = 8388612) : Kept msk ref (State.agreedParts s w) := by
  unfold State.agreedParts
  repeat' first
    | with_reducible assumption
    | exact mask_sub hm rfl
    | with_reducible apply State.followSls_kept
    | with_reducible apply State.onSaf_kept
    | (intro x; refine (fun (hx : Kept msk ref x) => ?_) ?_; on_goal 1 => clear_value x)
    | (intro x; refine (fun (hx : Kept msk ref x.1) => ?_) ?_; on_goal 1 => clear_value x)
    | (intro x; refine (fun (hx : Kept msk ref x.2) => ?_) ?_; on_goal 1 => clear_value x)
    | (intro x; clear_value x)
    | lift_lets
    | dsimp only
    | with_reducible apply ite_kept

theorem State.sawCommand_kept (s : State) (p : Nat) (hs : Kept msk ref s) (hm : 8388608 &&& msk = 8388608) : Kept msk ref (State.sawCommand s p) := by
  unfold State.sawCommand
  repeat' first
    | with_reducible assumption
    | exact mask_sub hm rfl
    | with_reducible apply State.onSaf_kept

theorem State.secondCopy_kept (s : State) (c : Copy) (ws : List LWord) (hs : Kept msk ref s) (hm : 25166342 &&& msk = 25166342) : Kept msk ref (State.secondCopy s c ws) := by
  unfold State.secondCopy
  repeat' first
    | with_reducible assumption
    | exact mask_sub hm rfl
    | with_reducible apply State.agreedOn_kept
    | with_reducible apply State.agreedParts_kept
    | with_reducible apply State.onSaf_kept
    | with_reducible apply State.safLock_kept
    | (intro x; refine (fun (hx : Kept msk ref x) => ?_) ?_; on_goal 1 => clear_value x)
    | lift_lets
    | dsimp only
    | with_reducible apply ite_kept

theorem State.doSafetyCommand_kept (s : State) (path : Nat) (w0 w1 : LWord) (hs : Kept msk ref s) (hm : 25166342 &&& msk = 25166342) : Kept msk ref (State.doSafetyCommand s path w0 w1) := by
  unfold State.doSafetyCommand
  repeat' first
    | with_reducible assumption
    | exact mask_sub hm rfl
    | with_reducible apply State.onSaf_kept
    | with_reducible apply State.saferParts_kept
    | with_reducible apply State.sawCommand_kept
    | with_reducible apply State.secondCopy_kept
    | with_reducible apply State.telDiscard_kept
    | (intro x; refine (fun (hx : Kept msk ref x) => ?_) ?_; on_goal 1 => clear_value x)
    | (intro x; refine (fun (hx : Kept msk ref x.1) => ?_) ?_; on_goal 1 => clear_value x)
    | (intro x; refine (fun (hx : Kept msk ref x.2) => ?_) ?_; on_goal 1 => clear_value x)
    | (intro x; clear_value x)
    | lift_lets
    | dsimp only
    | with_reducible apply ite_kept
    | intro _ _ _
    | intro _ _
    | fail_if_no_progress (with_reducible refine mk_kept ?_ rfl rfl rfl rfl rfl rfl rfl hm)
    | (with_reducible refine mk_sized ?_ rfl rfl ?_ ?_ ?_ ?_ ?_ hm <;> first | with_reducible assumption | with_reducible rfl | (simp; done))
    | dsimp only [x]
    | split

theorem State.bothSilent_kept (s : State) (hs : Kept msk ref s) (hm : 25166342 &&& msk = 25166342) : Kept msk ref (State.bothSilent s) := by
  unfold State.bothSilent
  repeat' first
    | with_reducible assumption
    | exact mask_sub hm rfl
    | with_reducible apply State.onSaf_kept
    | with_reducible apply State.safLock_kept
    | with_reducible apply State.wr_kept
    | (intro x; refine (fun (hx : Kept msk ref x) => ?_) ?_; on_goal 1 => clear_value x)
    | (intro x; refine (fun (hx : Kept msk ref x.1) => ?_) ?_; on_goal 1 => clear_value x)
    | (intro x; refine (fun (hx : Kept msk ref x.2) => ?_) ?_; on_goal 1 => clear_value x)
    | (intro x; clear_value x)
    | lift_lets
    | dsimp only
    | with_reducible apply ite_kept

theorem State.doCopyTimeout_kept (s : State) (hs : Kept msk ref s) (hm : 25166358 &&& msk = 25166358) : Kept msk ref (State.doCopyTimeout s) := by
  unfold State.doCopyTimeout
  repeat' first
    | with_reducible assumption
    | exact mask_sub hm rfl
    | with_reducible apply State.bothSilent_kept
    | with_reducible apply State.losePath_kept
    | with_reducible apply State.onSaf_kept
    | with_reducible apply State.toTick_kept
    | (intro x; refine (fun (hx : Kept msk ref x) => ?_) ?_; on_goal 1 => clear_value x)
    | lift_lets
    | dsimp only
    | with_reducible apply ite_kept
    | intro _ _ _
    | intro _ _
    | fail_if_no_progress (with_reducible refine mk_kept ?_ rfl rfl rfl rfl rfl rfl rfl hm)
    | (with_reducible refine mk_sized ?_ rfl rfl ?_ ?_ ?_ ?_ ?_ hm <;> first | with_reducible assumption | with_reducible rfl | (simp; done))
    | dsimp only [x]
    | split

theorem State.safConditionsOver_kept (s : State) (hs : Kept msk ref s) (hm : 512 &&& msk = 512) : Kept msk ref (State.safConditionsOver s) := by
  unfold State.safConditionsOver
  repeat' first
    | with_reducible assumption
    | exact mask_sub hm rfl
    | with_reducible apply State.conditionOver_kept
    | with_reducible apply State.forEach_kept
    | dsimp only
    | intro _ _ _

theorem State.clearLockout_kept (s : State) (hs : Kept msk ref s) (hm : 25166340 &&& msk = 25166340) : Kept msk ref (State.clearLockout s) := by
  unfold State.clearLockout
  repeat' first
    | with_reducible assumption
    | exact mask_sub hm rfl
    | with_reducible apply State.onBook_kept
    | with_reducible apply State.onSaf_kept
    | with_reducible apply State.release_kept
    | with_reducible apply State.safConditionsOver_kept
    | with_reducible apply State.setSaf_kept

theorem State.doSafetyAck_kept (s : State) (path : Nat) (w0 w1 : LWord) (hs : Kept msk ref s) (hm : 25166340 &&& msk = 25166340) : Kept msk ref (State.doSafetyAck s path w0 w1) := by
  unfold State.doSafetyAck
  repeat' first
    | with_reducible assumption
    | exact mask_sub hm rfl
    | with_reducible apply State.clearLockout_kept
    | with_reducible apply State.onSaf_kept
    | with_reducible apply State.release_kept
    | with_reducible apply State.telDiscard_kept
    | (intro x; refine (fun (hx : Kept msk ref x) => ?_) ?_; on_goal 1 => clear_value x)
    | (intro x; refine (fun (hx : Kept msk ref x.1) => ?_) ?_; on_goal 1 => clear_value x)
    | (intro x; refine (fun (hx : Kept msk ref x.2) => ?_) ?_; on_goal 1 => clear_value x)
    | (intro x; clear_value x)
    | lift_lets
    | dsimp only
    | with_reducible apply ite_kept
    | intro _ _ _
    | intro _ _
    | fail_if_no_progress (with_reducible refine mk_kept ?_ rfl rfl rfl rfl rfl rfl rfl hm)
    | (with_reducible refine mk_sized ?_ rfl rfl ?_ ?_ ?_ ?_ ?_ hm <;> first | with_reducible assumption | with_reducible rfl | (simp; done))
    | dsimp only [x]
    | split

theorem State.doSafetyParam_kept (s : State) (path : Nat) (w0 w1 : LWord) (hs : Kept msk ref s) (hm : 8388612 &&& msk = 8388612) : Kept msk ref (State.doSafetyParam s path w0 w1) := by
  unfold State.doSafetyParam
  repeat' first
    | with_reducible assumption
    | exact mask_sub hm rfl
    | with_reducible apply State.onSaf_kept
    | with_reducible apply State.satAdd_kept
    | with_reducible apply State.telDiscard_kept
    | (intro x; refine (fun (hx : Kept msk ref x) => ?_) ?_; on_goal 1 => clear_value x)
    | (intro x; refine (fun (hx : Kept msk ref x.1) => ?_) ?_; on_goal 1 => clear_value x)
    | (intro x; refine (fun (hx : Kept msk ref x.2) => ?_) ?_; on_goal 1 => clear_value x)
    | (intro x; clear_value x)
    | lift_lets
    | dsimp only
    | with_reducible apply ite_kept
    | intro _ _ _
    | intro _ _
    | fail_if_no_progress (with_reducible refine mk_kept ?_ rfl rfl rfl rfl rfl rfl rfl hm)
    | (with_reducible refine mk_sized ?_ rfl rfl ?_ ?_ ?_ ?_ ?_ hm <;> first | with_reducible assumption | with_reducible rfl | (simp; done))
    | dsimp only [x]
    | split

theorem State.refuseActivation_kept (s : State) (hs : Kept msk ref s) (hm : 8388612 &&& msk = 8388612) : Kept msk ref (State.refuseActivation s) := by
  unfold State.refuseActivation
  repeat' first
    | with_reducible assumption
    | exact mask_sub hm rfl
    | with_reducible apply State.onSaf_kept
    | with_reducible apply State.satAdd_kept

theorem State.doSafetyActivate_kept (s : State) (path : Nat) (w0 w1 w2 : LWord) (hs : Kept msk ref s) (hm : 8388612 &&& msk = 8388612) : Kept msk ref (State.doSafetyActivate s path w0 w1 w2) := by
  unfold State.doSafetyActivate
  repeat' first
    | with_reducible assumption
    | exact mask_sub hm rfl
    | with_reducible apply State.onSaf_kept
    | with_reducible apply State.refuseActivation_kept
    | with_reducible apply State.telDiscard_kept
    | (intro x; refine (fun (hx : Kept msk ref x) => ?_) ?_; on_goal 1 => clear_value x)
    | (intro x; refine (fun (hx : Kept msk ref x.1) => ?_) ?_; on_goal 1 => clear_value x)
    | (intro x; refine (fun (hx : Kept msk ref x.2) => ?_) ?_; on_goal 1 => clear_value x)
    | (intro x; clear_value x)
    | lift_lets
    | dsimp only
    | with_reducible apply ite_kept
    | intro _ _ _
    | intro _ _
    | fail_if_no_progress (with_reducible refine mk_kept ?_ rfl rfl rfl rfl rfl rfl rfl hm)
    | (with_reducible refine mk_sized ?_ rfl rfl ?_ ?_ ?_ ?_ ?_ hm <;> first | with_reducible assumption | with_reducible rfl | (simp; done))
    | dsimp only [x]
    | split

theorem State.loadSafetySet_kept (s : State) (ws : List Word) (crc : Nat) (hs : Kept msk ref s) (hm : 4 &&& msk = 4) : Kept msk ref (State.loadSafetySet s ws crc) := by
  unfold State.loadSafetySet
  repeat' first
    | with_reducible assumption
    | exact mask_sub hm rfl
    | with_reducible apply State.forEach_kept
    | with_reducible apply State.regPut_kept
    | with_reducible apply State.wr_kept
    | (intro x; refine (fun (hx : Kept msk ref x) => ?_) ?_; on_goal 1 => clear_value x)
    | (intro x; refine (fun (hx : Kept msk ref x.1) => ?_) ?_; on_goal 1 => clear_value x)
    | (intro x; refine (fun (hx : Kept msk ref x.2) => ?_) ?_; on_goal 1 => clear_value x)
    | (intro x; clear_value x)
    | lift_lets
    | dsimp only
    | intro _ _ _

theorem State.doSafetySetWritten_kept (s : State) (hs : Kept msk ref s) (hm : 8388612 &&& msk = 8388612) : Kept msk ref (State.doSafetySetWritten s) := by
  unfold State.doSafetySetWritten
  repeat' first
    | with_reducible assumption
    | exact mask_sub hm rfl
    | with_reducible apply State.loadSafetySet_kept
    | with_reducible apply State.onSaf_kept
    | with_reducible apply State.setSaf_kept
    | (intro x; refine (fun (hx : Kept msk ref x) => ?_) ?_; on_goal 1 => clear_value x)
    | lift_lets
    | dsimp only
    | with_reducible apply ite_kept
    | intro _ _ _
    | intro _ _
    | fail_if_no_progress (with_reducible refine mk_kept ?_ rfl rfl rfl rfl rfl rfl rfl hm)
    | (with_reducible refine mk_sized ?_ rfl rfl ?_ ?_ ?_ ?_ ?_ hm <;> first | with_reducible assumption | with_reducible rfl | (simp; done))
    | dsimp only [x]
    | split

theorem State.onAccess_kept (s : State) (f : Access → Access) (hs : Kept msk ref s) (hm : 134217728 &&& msk = 134217728) : Kept msk ref (State.onAccess s f) := by
  unfold State.onAccess
  repeat' first
    | with_reducible assumption
    | exact mask_sub hm rfl
    | dsimp only
    | intro _ _ _
    | intro _ _
    | fail_if_no_progress (with_reducible refine mk_kept ?_ rfl rfl rfl rfl rfl rfl rfl hm)

theorem State.onStart_kept (s : State) (f : Start → Start) (hs : Kept msk ref s) (hm : 67108864 &&& msk = 67108864) : Kept msk ref (State.onStart s f) := by
  unfold State.onStart
  repeat' first
    | with_reducible assumption
    | exact mask_sub hm rfl
    | dsimp only
    | intro _ _ _
    | intro _ _
    | fail_if_no_progress (with_reducible refine mk_kept ?_ rfl rfl rfl rfl rfl rfl rfl hm)

theorem State.setPhase_kept (s : State) (n : Nat) (hs : Kept msk ref s) (hm : 4 &&& msk = 4) : Kept msk ref (State.setPhase s n) := by
  unfold State.setPhase
  repeat' first
    | with_reducible assumption
    | exact mask_sub hm rfl
    | with_reducible apply State.wr_kept

theorem State.takeColumn_kept (s : State) (column : FieldDef → Rst) (hs : Kept msk ref s) (hm : 4 &&& msk = 4) : Kept msk ref (State.takeColumn s column) := by
  unfold State.takeColumn
  repeat' first
    | with_reducible assumption
    | exact mask_sub hm rfl
    | with_reducible apply State.forEach_kept
    | with_reducible apply State.regPut_kept
    | dsimp only
    | intro _ _ _

theorem State.keepEnabled_kept (s : State) (hs : Kept msk ref s) (hm : 4 &&& msk = 4) : Kept msk ref (State.keepEnabled s) := by
  unfold State.keepEnabled
  repeat' first
    | with_reducible assumption
    | exact mask_sub hm rfl
    | with_reducible apply State.forEach_kept
    | with_reducible apply State.wrB_kept
    | dsimp only
    | intro _ _ _

theorem State.loadImage_kept (s : State) (column : FieldDef → Rst) (image : List (Nat × Nat)) (hs : Kept msk ref s) (hm : 4 &&& msk = 4) : Kept msk ref (State.loadImage s column image) := by
  unfold State.loadImage
  repeat' first
    | with_reducible assumption
    | exact mask_sub hm rfl
    | with_reducible apply State.forEach_kept
    | with_reducible apply State.keepEnabled_kept
    | with_reducible apply State.regPut_kept
    | dsimp only
    | with_reducible apply ite_kept
    | intro _ _ _

theorem State.loadBanks_kept (s : State) (h : Kept msk ref s) (hm : 8 &&& msk = 8) : Kept msk ref s.loadBanks := by
  refine ⟨h.regs, ?_, h.ports, h.que, h.lanes, h.chans, h.regions, only_trans h.only hm rfl⟩
  have hr := (tableWf_iff _ _).1 h.regs
  exact (tableWf_iff _ _).2 ⟨fun p hp => hr.1 p (List.mem_of_mem_filter hp), hr.2.filter _⟩

theorem State.setModuleId_kept (s : State) (id : Nat) (h : Kept msk ref s) (hm : 525188 &&& msk = 525188) : Kept msk ref (s.setModuleId id) := by
  have hw := State.wr_kept _ F.MGT_MODULE_ID_ID 0 id (State.runLanes_kept s h (mask_sub hm rfl)) (mask_sub hm rfl)
  exact ⟨hw.regs, hw.banks, hw.ports, by simpa [State.setModuleId] using hw.que,
    by simpa [State.setModuleId] using hw.lanes, hw.chans, hw.regions, only_trans hw.only hm rfl⟩

theorem State.noteStart_kept (s : State) (hs : Kept msk ref s) (hm : 67108868 &&& msk = 67108868) : Kept msk ref (State.noteStart s) := by
  unfold State.noteStart
  repeat' first
    | with_reducible assumption
    | exact mask_sub hm rfl
    | with_reducible apply State.onStart_kept
    | with_reducible apply State.setPhase_kept
    | dsimp only
    | with_reducible apply ite_kept

theorem State.doModuleId_kept (s : State) (w : Word) (hs : Kept msk ref s) (hm : 67634052 &&& msk = 67634052) : Kept msk ref (State.doModuleId s w) := by
  unfold State.doModuleId
  repeat' first
    | with_reducible assumption
    | exact mask_sub hm rfl
    | with_reducible apply State.noteStart_kept
    | with_reducible apply State.setModuleId_kept

theorem State.doLaneUpStart_kept (s : State) (n : Nat) (hs : Kept msk ref s) (hm : 67109510 &&& msk = 67109510) : Kept msk ref (State.doLaneUpStart s n) := by
  unfold State.doLaneUpStart
  repeat' first
    | with_reducible assumption
    | exact mask_sub hm rfl
    | with_reducible apply State.doLaneUp_kept
    | with_reducible apply State.noteStart_kept
    | dsimp only
    | with_reducible apply ite_kept

theorem State.restoreIncidents_kept (s : State) (inc : List Incident) (hs : Kept msk ref s) (hm : 516 &&& msk = 516) : Kept msk ref (State.restoreIncidents s inc) := by
  unfold State.restoreIncidents
  repeat' first
    | with_reducible assumption
    | exact mask_sub hm rfl
    | with_reducible apply State.wr_kept
    | (intro x; refine (fun (hx : Kept msk ref x) => ?_) ?_; on_goal 1 => clear_value x)
    | (intro x; refine (fun (hx : Kept msk ref x.1) => ?_) ?_; on_goal 1 => clear_value x)
    | (intro x; refine (fun (hx : Kept msk ref x.2) => ?_) ?_; on_goal 1 => clear_value x)
    | (intro x; clear_value x)
    | lift_lets
    | dsimp only
    | with_reducible apply ite_kept
    | with_reducible apply foldl_kept
    | with_reducible apply foldl_fst_kept
    | with_reducible apply foldl_snd_kept
    | intro _ _ _
    | intro _ _
    | fail_if_no_progress (with_reducible refine mk_kept ?_ rfl rfl rfl rfl rfl rfl rfl hm)

theorem State.coldState_kept (s : State) (h : Kept msk ref s) (hm : 268435454 &&& msk = 268435454) : Kept msk ref s.coldState := by
  unfold State.coldState
  refine State.takeColumn_kept _ _ ?_ (mask_sub hm rfl)
  exact ⟨h.regs, rfl, rfl, rfl, by simp [h.lanes], rfl, rfl, only_trans h.only hm rfl⟩

theorem State.takeStraps_kept (s : State) (straps : Nat) (hs : Kept msk ref s) (hm : 4 &&& msk = 4) : Kept msk ref (State.takeStraps s straps) := by
  unfold State.takeStraps
  repeat' first
    | with_reducible assumption
    | exact mask_sub hm rfl
    | with_reducible apply State.wr_kept

theorem State.readBook_kept (s : State) (hs : Kept msk ref s) (hm : 518 &&& msk = 518) : Kept msk ref (State.readBook s) := by
  unfold State.readBook
  repeat' first
    | with_reducible assumption
    | exact mask_sub hm rfl
    | with_reducible apply State.flag_kept
    | with_reducible apply State.report_kept
    | with_reducible apply State.restoreIncidents_kept
    | with_reducible apply State.wr_kept
    | (intro x; refine (fun (hx : Kept msk ref x) => ?_) ?_; on_goal 1 => clear_value x)
    | lift_lets
    | dsimp only
    | with_reducible apply ite_kept
    | intro _ _ _
    | intro _ _
    | dsimp only [x]
    | split

theorem State.startSafety_kept (s : State) (hs : Kept msk ref s) (hm : 8388612 &&& msk = 8388612) : Kept msk ref (State.startSafety s) := by
  unfold State.startSafety
  repeat' first
    | with_reducible assumption
    | exact mask_sub hm rfl
    | with_reducible apply State.onSaf_kept
    | with_reducible apply State.wr_kept

theorem State.enterLoad_kept (s : State) (hs : Kept msk ref s) (hm : 4 &&& msk = 4) : Kept msk ref (State.enterLoad s) := by
  unfold State.enterLoad
  repeat' first
    | with_reducible assumption
    | exact mask_sub hm rfl
    | with_reducible apply State.setPhase_kept

theorem State.coldStart_kept (s : State) (straps : Nat) (hs : Kept msk ref s) (hm : 268435454 &&& msk = 268435454) : Kept msk ref (State.coldStart s straps) := by
  unfold State.coldStart
  repeat' first
    | with_reducible assumption
    | exact mask_sub hm rfl
    | with_reducible apply State.coldState_kept
    | with_reducible apply State.enterLoad_kept
    | with_reducible apply State.readBook_kept
    | with_reducible apply State.startSafety_kept
    | with_reducible apply State.takeStraps_kept

theorem State.doColdReset_kept (s : State) (straps : Nat) (hs : Kept msk ref s) (hm : 268435454 &&& msk = 268435454) : Kept msk ref (State.doColdReset s straps) := by
  unfold State.doColdReset
  repeat' first
    | with_reducible assumption
    | exact mask_sub hm rfl
    | with_reducible apply State.coldStart_kept
    | dsimp only
    | with_reducible apply ite_kept

theorem State.doKeeperRestart_kept (s : State) (straps : Nat) (tj : Int) (hs : Kept msk ref s) (hm : 268435454 &&& msk = 268435454) : Kept msk ref (State.doKeeperRestart s straps tj) := by
  unfold State.doKeeperRestart
  repeat' first
    | with_reducible assumption
    | exact mask_sub hm rfl
    | with_reducible apply State.coldStart_kept
    | with_reducible apply State.toTick_kept
    | dsimp only
    | with_reducible apply ite_kept
    | intro _ _ _
    | intro _ _
    | split

theorem State.startRegions_kept (s : State) (h : Kept msk ref s) (hm : 8192 &&& msk = 8192) : Kept msk ref s.startRegions :=
  ⟨h.regs, h.banks, h.ports, h.que, h.lanes, h.chans, by simp [State.startRegions], only_trans h.only hm rfl⟩

theorem State.startLanes_kept (s : State) (hs : Kept msk ref s) (hm : 134 &&& msk = 134) : Kept msk ref (State.startLanes s) := by
  unfold State.startLanes
  repeat' first
    | with_reducible assumption
    | exact mask_sub hm rfl
    | with_reducible apply State.forEach_kept
    | with_reducible apply State.laneStart_kept
    | with_reducible apply State.onLane_kept
    | dsimp only
    | with_reducible apply ite_kept
    | intro _ _ _

theorem State.preloadTime_kept (s : State) (cold : Bool) (hs : Kept msk ref s) (hm : 64 &&& msk = 64) : Kept msk ref (State.preloadTime s cold) := by
  unfold State.preloadTime
  repeat' first
    | with_reducible assumption
    | exact mask_sub hm rfl
    | with_reducible apply State.onTim_kept

theorem State.initChans_kept (s : State) (h : Kept msk ref s) (hm : 16400 &&& msk = 16400) : Kept msk ref s.initChans :=
  ⟨h.regs, h.banks, h.ports, h.que, h.lanes, by simp [State.initChans], h.regions, only_trans h.only hm rfl⟩

theorem State.clearSpans_kept (s : State) (hs : Kept msk ref s) (hm : 16384 &&& msk = 16384) : Kept msk ref (State.clearSpans s) := by
  unfold State.clearSpans
  repeat' first
    | with_reducible assumption
    | exact mask_sub hm rfl
    | dsimp only
    | intro _ _ _
    | intro _ _
    | fail_if_no_progress (with_reducible refine mk_kept ?_ rfl rfl rfl rfl rfl rfl rfl hm)
    | (with_reducible refine mk_sized ?_ rfl rfl ?_ ?_ ?_ ?_ ?_ hm <;> first | with_reducible assumption | with_reducible rfl | (simp; done))

theorem State.startCx_kept (s : State) (cold : Bool) (hs : Kept msk ref s) (hm : 4092886 &&& msk = 4092886) : Kept msk ref (State.startCx s cold) := by
  unfold State.startCx
  repeat' first
    | with_reducible assumption
    | exact mask_sub hm rfl
    | with_reducible apply State.chnSync_kept
    | with_reducible apply State.clearSpans_kept
    | with_reducible apply State.forEach_kept
    | with_reducible apply State.formSkew_kept
    | with_reducible apply State.initChans_kept
    | with_reducible apply State.loadCal_kept
    | with_reducible apply State.onPlane_kept
    | with_reducible apply State.preloadTime_kept
    | with_reducible apply State.setPhase_kept
    | with_reducible apply State.startBudget_kept
    | with_reducible apply State.startLanes_kept
    | with_reducible apply State.startRegions_kept
    | with_reducible apply State.startRing_kept
    | with_reducible apply State.storeDwell_kept
    | with_reducible apply State.takeUnits_kept
    | with_reducible apply State.wrB_kept
    | (intro x; refine (fun (hx : Kept msk ref x) => ?_) ?_; on_goal 1 => clear_value x)
    | lift_lets
    | dsimp only
    | with_reducible apply ite_kept
    | intro _ _ _
    | intro _ _
    | fail_if_no_progress (with_reducible refine mk_kept ?_ rfl rfl rfl rfl rfl rfl rfl hm)

theorem State.loadSafety_kept (s : State) (image : List (Nat × Nat)) (ok : Bool) (hs : Kept msk ref s) (hm : 25166342 &&& msk = 25166342) : Kept msk ref (State.loadSafety s image ok) := by
  unfold State.loadSafety
  repeat' first
    | with_reducible assumption
    | exact mask_sub hm rfl
    | with_reducible apply State.loadSafetySet_kept
    | with_reducible apply State.safLock_kept
    | with_reducible apply State.wr_kept
    | (intro x; refine (fun (hx : Kept msk ref x) => ?_) ?_; on_goal 1 => clear_value x)
    | (intro x; refine (fun (hx : Kept msk ref x.1) => ?_) ?_; on_goal 1 => clear_value x)
    | (intro x; refine (fun (hx : Kept msk ref x.2) => ?_) ?_; on_goal 1 => clear_value x)
    | (intro x; clear_value x)
    | lift_lets
    | dsimp only
    | with_reducible apply ite_kept

theorem State.startKeeperIo_kept (s : State) (sensorCal : Bool) (hs : Kept msk ref s) (hm : 4227076 &&& msk = 4227076) : Kept msk ref (State.startKeeperIo s sensorCal) := by
  unfold State.startKeeperIo
  repeat' first
    | with_reducible assumption
    | exact mask_sub hm rfl
    | with_reducible apply State.doFeedEnWrite_kept
    | with_reducible apply State.startSensors_kept
    | with_reducible apply State.wr_kept

theorem State.bootFirmware_kept (s : State) (slot failed : Nat) (hs : Kept msk ref s) (hm : 134218246 &&& msk = 134218246) : Kept msk ref (State.bootFirmware s slot failed) := by
  unfold State.bootFirmware
  repeat' first
    | with_reducible assumption
    | exact mask_sub hm rfl
    | with_reducible apply State.onAccess_kept
    | with_reducible apply State.report_kept
    | with_reducible apply State.setPhase_kept
    | with_reducible apply State.wr_kept
    | (intro x; refine (fun (hx : Kept msk ref x) => ?_) ?_; on_goal 1 => clear_value x)
    | lift_lets
    | dsimp only
    | with_reducible apply ite_kept

theorem State.doImageLoaded_kept (s : State) (slot failed : Nat) (valid : Bool) (image : List (Nat × Nat)) (sensorCal safOk : Bool) (hs : Kept msk ref s) (hm : 234812382 &&& msk = 234812382) : Kept msk ref (State.doImageLoaded s slot failed valid image sensorCal safOk) := by
  unfold State.doImageLoaded
  repeat' first
    | with_reducible assumption
    | exact mask_sub hm rfl
    | with_reducible apply State.bootFirmware_kept
    | with_reducible apply State.loadBanks_kept
    | with_reducible apply State.loadImage_kept
    | with_reducible apply State.loadSafety_kept
    | with_reducible apply State.noteStart_kept
    | with_reducible apply State.report_kept
    | with_reducible apply State.startCx_kept
    | with_reducible apply State.startKeeperIo_kept
    | with_reducible apply State.wrB_kept
    | with_reducible apply State.wr_kept
    | (intro x; refine (fun (hx : Kept msk ref x) => ?_) ?_; on_goal 1 => clear_value x)
    | (intro x; refine (fun (hx : Kept msk ref x.1) => ?_) ?_; on_goal 1 => clear_value x)
    | (intro x; refine (fun (hx : Kept msk ref x.2) => ?_) ?_; on_goal 1 => clear_value x)
    | (intro x; clear_value x)
    | lift_lets
    | dsimp only
    | with_reducible apply ite_kept

theorem State.beginWarm_kept (s : State) (fromPin : Bool) (h : Kept msk ref s) (hm : 71303164 &&& msk = 71303164) : Kept msk ref (s.beginWarm fromPin) := by
  have h := State.stopSweep_kept s h (mask_sub hm rfl)
  unfold State.beginWarm
  apply State.setModuleId_kept (hm := mask_sub hm rfl)
  apply State.restoreIncidents_kept (hm := mask_sub hm rfl)
  apply State.setPhase_kept (hm := mask_sub hm rfl)
  apply State.takeColumn_kept (hm := mask_sub hm rfl)
  exact ⟨h.regs, rfl, by simp [h.ports], rfl, by simp [h.lanes], rfl, rfl, only_trans h.only hm rfl⟩

theorem State.release_kept (s : State) (straps : Nat) (hs : Kept msk ref s) (hm : 67108868 &&& msk = 67108868) : Kept msk ref (State.release s straps) := by
  unfold State.release
  repeat' first
    | with_reducible assumption
    | exact mask_sub hm rfl
    | with_reducible apply State.enterLoad_kept
    | with_reducible apply State.flag_kept
    | with_reducible apply State.onStart_kept
    | with_reducible apply State.takeStraps_kept
    | with_reducible apply State.wr_kept

theorem State.doResetAssert_kept (s : State) (hs : Kept msk ref s) (hm : 71303164 &&& msk = 71303164) : Kept msk ref (State.doResetAssert s) := by
  unfold State.doResetAssert
  repeat' first
    | with_reducible assumption
    | exact mask_sub hm rfl
    | with_reducible apply State.beginWarm_kept
    | with_reducible apply State.onStart_kept
    | (intro x; refine (fun (hx : Kept msk ref x) => ?_) ?_; on_goal 1 => clear_value x)
    | lift_lets
    | dsimp only
    | with_reducible apply ite_kept

theorem State.doResetRelease_kept (s : State) (straps : Nat) (hs : Kept msk ref s) (hm : 67109396 &&& msk = 67109396) : Kept msk ref (State.doResetRelease s straps) := by
  unfold State.doResetRelease
  repeat' first
    | with_reducible assumption
    | exact mask_sub hm rfl
    | with_reducible apply State.conditionOver_kept
    | with_reducible apply State.onStart_kept
    | with_reducible apply State.release_kept
    | with_reducible apply State.toTick_kept
    | (intro x; refine (fun (hx : Kept msk ref x) => ?_) ?_; on_goal 1 => clear_value x)
    | lift_lets
    | dsimp only
    | with_reducible apply ite_kept
    | intro _ _ _
    | intro _ _
    | fail_if_no_progress (with_reducible refine mk_kept ?_ rfl rfl rfl rfl rfl rfl rfl hm)
    | (with_reducible refine mk_sized ?_ rfl rfl ?_ ?_ ?_ ?_ ?_ hm <;> first | with_reducible assumption | with_reducible rfl | (simp; done))
    | dsimp only [x]
    | split

theorem State.doWarm_kept (s : State) (port : Nat) (hs : Kept msk ref s) (hm : 71303164 &&& msk = 71303164) : Kept msk ref (State.doWarm s port) := by
  unfold State.doWarm
  repeat' first
    | with_reducible assumption
    | exact mask_sub hm rfl
    | with_reducible apply State.beginWarm_kept
    | with_reducible apply State.wr_kept
    | dsimp only
    | with_reducible apply ite_kept

theorem State.doStuckReset_kept (s : State) (straps : Nat) (hs : Kept msk ref s) (hm : 201327126 &&& msk = 201327126) : Kept msk ref (State.doStuckReset s straps) := by
  unfold State.doStuckReset
  repeat' first
    | with_reducible assumption
    | exact mask_sub hm rfl
    | with_reducible apply State.flag_kept
    | with_reducible apply State.freeBelow_kept
    | with_reducible apply State.onStart_kept
    | with_reducible apply State.release_kept
    | with_reducible apply State.report_kept
    | with_reducible apply State.toTick_kept
    | with_reducible apply State.wr_kept
    | (intro x; refine (fun (hx : Kept msk ref x) => ?_) ?_; on_goal 1 => clear_value x)
    | (intro x; refine (fun (hx : Kept msk ref x.1) => ?_) ?_; on_goal 1 => clear_value x)
    | (intro x; refine (fun (hx : Kept msk ref x.2) => ?_) ?_; on_goal 1 => clear_value x)
    | (intro x; clear_value x)
    | lift_lets
    | dsimp only
    | with_reducible apply ite_kept
    | intro _ _ _
    | intro _ _
    | fail_if_no_progress (with_reducible refine mk_kept ?_ rfl rfl rfl rfl rfl rfl rfl hm)
    | (with_reducible refine mk_sized ?_ rfl rfl ?_ ?_ ?_ ?_ ?_ hm <;> first | with_reducible assumption | with_reducible rfl | (simp; done))
    | dsimp only [x]
    | split

theorem State.doOverrideClear_kept (s : State) (hs : Kept msk ref s) (hm : 532 &&& msk = 532) : Kept msk ref (State.doOverrideClear s) := by
  unfold State.doOverrideClear
  repeat' first
    | with_reducible assumption
    | exact mask_sub hm rfl
    | with_reducible apply State.conditionOver_kept
    | with_reducible apply State.toTick_kept
    | with_reducible apply State.wr_kept
    | dsimp only
    | with_reducible apply ite_kept
    | intro _ _ _
    | intro _ _
    | split

theorem State.doTimeWaitExpiry_kept (s : State) (hs : Kept msk ref s) (hm : 534 &&& msk = 534) : Kept msk ref (State.doTimeWaitExpiry s) := by
  unfold State.doTimeWaitExpiry
  repeat' first
    | with_reducible assumption
    | exact mask_sub hm rfl
    | with_reducible apply State.report_kept
    | with_reducible apply State.toTick_kept
    | with_reducible apply State.wr_kept
    | dsimp only
    | with_reducible apply ite_kept
    | intro _ _ _
    | intro _ _
    | split

theorem State.doStartRehearsal_kept (s : State) (ns : Nat) (hs : Kept msk ref s) (hm : 66054 &&& msk = 66054) : Kept msk ref (State.doStartRehearsal s ns) := by
  unfold State.doStartRehearsal
  repeat' first
    | with_reducible assumption
    | exact mask_sub hm rfl
    | with_reducible apply State.doRehearsalStart_kept
    | with_reducible apply State.setPhase_kept
    | (intro x; refine (fun (hx : Kept msk ref x) => ?_) ?_; on_goal 1 => clear_value x)
    | lift_lets
    | dsimp only
    | with_reducible apply ite_kept

theorem State.doStartReady_kept (s : State) (hs : Kept msk ref s) (hm : 2566 &&& msk = 2566) : Kept msk ref (State.doStartReady s) := by
  unfold State.doStartReady
  repeat' first
    | with_reducible assumption
    | exact mask_sub hm rfl
    | with_reducible apply State.doStreamApply_kept
    | with_reducible apply State.setPhase_kept
    | with_reducible apply State.wr_kept
    | (intro x; refine (fun (hx : Kept msk ref x) => ?_) ?_; on_goal 1 => clear_value x)
    | lift_lets
    | dsimp only
    | with_reducible apply ite_kept

theorem State.doRestart_kept (s : State) (port : Nat) (hs : Kept msk ref s) (hm : 67112964 &&& msk = 67112964) : Kept msk ref (State.doRestart s port) := by
  unfold State.doRestart
  repeat' first
    | with_reducible assumption
    | exact mask_sub hm rfl
    | with_reducible apply State.count_kept
    | with_reducible apply State.flag_kept
    | with_reducible apply State.onPlane_kept
    | with_reducible apply State.onStart_kept
    | with_reducible apply State.wr_kept
    | (intro x; refine (fun (hx : Kept msk ref x) => ?_) ?_; on_goal 1 => clear_value x)
    | (intro x; refine (fun (hx : Kept msk ref x.1) => ?_) ?_; on_goal 1 => clear_value x)
    | (intro x; refine (fun (hx : Kept msk ref x.2) => ?_) ?_; on_goal 1 => clear_value x)
    | (intro x; clear_value x)
    | lift_lets
    | dsimp only
    | with_reducible apply ite_kept

theorem State.doSwitchResumeStart_kept (s : State) (hs : Kept msk ref s) (hm : 69104470 &&& msk = 69104470) : Kept msk ref (State.doSwitchResumeStart s) := by
  unfold State.doSwitchResumeStart
  repeat' first
    | with_reducible assumption
    | exact mask_sub hm rfl
    | with_reducible apply State.count_kept
    | with_reducible apply State.doSwitchResume_kept
    | with_reducible apply State.onPlane_kept
    | with_reducible apply State.onStart_kept
    | with_reducible apply State.wr_kept
    | (intro x; refine (fun (hx : Kept msk ref x) => ?_) ?_; on_goal 1 => clear_value x)
    | (intro x; refine (fun (hx : Kept msk ref x.1) => ?_) ?_; on_goal 1 => clear_value x)
    | (intro x; refine (fun (hx : Kept msk ref x.2) => ?_) ?_; on_goal 1 => clear_value x)
    | (intro x; clear_value x)
    | lift_lets
    | dsimp only
    | with_reducible apply ite_kept

theorem State.dropPackets_kept (s : State) (h : Kept msk ref s) (hm : 256 &&& msk = 256) : Kept msk ref s.dropPackets :=
  ⟨h.regs, h.banks, h.ports, by simp [State.dropPackets, h.que], h.lanes, h.chans, h.regions, only_trans h.only hm rfl⟩

theorem State.emptyQueues_kept (s : State) (hs : Kept msk ref s) (hm : 388 &&& msk = 388) : Kept msk ref (State.emptyQueues s) := by
  unfold State.emptyQueues
  repeat' first
    | with_reducible assumption
    | exact mask_sub hm rfl
    | with_reducible apply State.dropPackets_kept
    | with_reducible apply State.onLnk_kept
    | with_reducible apply State.wr_kept
    | (intro x; refine (fun (hx : Kept msk ref x) => ?_) ?_; on_goal 1 => clear_value x)
    | lift_lets
    | dsimp only

theorem State.doRestartStop_kept (s : State) (hs : Kept msk ref s) (hm : 71260126 &&& msk = 71260126) : Kept msk ref (State.doRestartStop s) := by
  unfold State.doRestartStop
  repeat' first
    | with_reducible assumption
    | exact mask_sub hm rfl
    | with_reducible apply State.abortJobs_kept
    | with_reducible apply State.closeCuesEarly_kept
    | with_reducible apply State.cutWrites_kept
    | with_reducible apply State.discardAllTags_kept
    | with_reducible apply State.drainBefore_kept
    | with_reducible apply State.emptyQueues_kept
    | with_reducible apply State.endAll_kept
    | with_reducible apply State.endCal_kept
    | with_reducible apply State.onPlane_kept
    | with_reducible apply State.onStart_kept
    | with_reducible apply State.prmRestart_kept
    | with_reducible apply State.toCount_kept
    | with_reducible apply State.wchSync_kept
    | (intro x; refine (fun (hx : Kept msk ref x) => ?_) ?_; on_goal 1 => clear_value x)
    | lift_lets
    | dsimp only
    | with_reducible apply ite_kept
    | intro _ _ _
    | intro _ _
    | fail_if_no_progress (with_reducible refine mk_kept ?_ rfl rfl rfl rfl rfl rfl rfl hm)
    | (with_reducible refine mk_sized ?_ rfl rfl ?_ ?_ ?_ ?_ ?_ hm <;> first | with_reducible assumption | with_reducible rfl | (simp; done))
    | dsimp only [x]
    | split

theorem State.settlePending_kept (s : State) (ch n : Nat) (hs : Kept msk ref s) (hm : 16902 &&& msk = 16902) : Kept msk ref (State.settlePending s ch n) := by
  unfold State.settlePending
  repeat' first
    | with_reducible assumption
    | exact mask_sub hm rfl
    | with_reducible apply State.applyChain_kept
    | with_reducible apply State.applyNotch_kept
    | with_reducible apply State.applyRange_kept
    | with_reducible apply State.applySkew_kept
    | with_reducible apply State.forEach_kept
    | (intro x; refine (fun (hx : Kept msk ref x) => ?_) ?_; on_goal 1 => clear_value x)
    | lift_lets
    | dsimp only
    | with_reducible apply ite_kept
    | intro _ _ _

theorem State.settleSwaps_kept (s : State) (n : Nat) (hs : Kept msk ref s) (hm : 412510 &&& msk = 412510) : Kept msk ref (State.settleSwaps s n) := by
  unfold State.settleSwaps
  repeat' first
    | with_reducible assumption
    | exact mask_sub hm rfl
    | with_reducible apply State.doProtoSwapApply_kept
    | with_reducible apply State.forEach_kept
    | with_reducible apply State.maskSwapNow_kept
    | with_reducible apply State.segSwapNow_kept
    | with_reducible apply State.setMode_kept
    | with_reducible apply State.wrB_kept
    | with_reducible apply State.wr_kept
    | (intro x; refine (fun (hx : Kept msk ref x) => ?_) ?_; on_goal 1 => clear_value x)
    | lift_lets
    | dsimp only
    | with_reducible apply ite_kept
    | intro _ _ _
    | intro _ _
    | fail_if_no_progress (with_reducible refine mk_kept ?_ rfl rfl rfl rfl rfl rfl rfl hm)
    | (with_reducible refine mk_sized ?_ rfl rfl ?_ ?_ ?_ ?_ ?_ hm <;> first | with_reducible assumption | with_reducible rfl | (simp; done))
    | dsimp only [x]
    | split

theorem State.restartPace_kept (s : State) (hs : Kept msk ref s) (hm : 4608 &&& msk = 4608) : Kept msk ref (State.restartPace s) := by
  unfold State.restartPace
  repeat' first
    | with_reducible assumption
    | exact mask_sub hm rfl
    | with_reducible apply State.conditionOver_kept
    | with_reducible apply State.count_kept
    | with_reducible apply State.forEach_kept
    | with_reducible apply State.onPlane_kept
    | (intro x; refine (fun (hx : Kept msk ref x) => ?_) ?_; on_goal 1 => clear_value x)
    | lift_lets
    | dsimp only
    | with_reducible apply ite_kept
    | intro _ _ _

theorem State.doRestartResume_kept (s : State) (us : Nat) (hs : Kept msk ref s) (hm : 69106526 &&& msk = 69106526) : Kept msk ref (State.doRestartResume s us) := by
  unfold State.doRestartResume
  repeat' first
    | with_reducible assumption
    | exact mask_sub hm rfl
    | with_reducible apply State.beginAll_kept
    | with_reducible apply State.chnSync_kept
    | with_reducible apply State.conditionOver_kept
    | with_reducible apply State.count_kept
    | with_reducible apply State.forEach_kept
    | with_reducible apply State.onPlane_kept
    | with_reducible apply State.onRegion_kept
    | with_reducible apply State.onStart_kept
    | with_reducible apply State.onTrg_kept
    | with_reducible apply State.restartPace_kept
    | with_reducible apply State.setPrescale_kept
    | with_reducible apply State.settlePending_kept
    | with_reducible apply State.settleSwaps_kept
    | with_reducible apply State.startRing_kept
    | with_reducible apply State.takeColumn_kept
    | with_reducible apply State.toCount_kept
    | with_reducible apply State.wchRestart_kept
    | with_reducible apply State.wr_kept
    | (intro x; refine (fun (hx : Kept msk ref x) => ?_) ?_; on_goal 1 => clear_value x)
    | (intro x; refine (fun (hx : Kept msk ref x.1) => ?_) ?_; on_goal 1 => clear_value x)
    | (intro x; refine (fun (hx : Kept msk ref x.2) => ?_) ?_; on_goal 1 => clear_value x)
    | (intro x; clear_value x)
    | lift_lets
    | dsimp only
    | with_reducible apply ite_kept
    | intro _ _ _
    | intro _ _
    | fail_if_no_progress (with_reducible refine mk_kept ?_ rfl rfl rfl rfl rfl rfl rfl hm)
    | (with_reducible refine mk_sized ?_ rfl rfl ?_ ?_ ?_ ?_ ?_ hm <;> first | with_reducible assumption | with_reducible rfl | (simp; done))
    | dsimp only [x]
    | split

theorem State.onPort_kept (s : State) (p : Nat) (f : Port → Port) (h : Kept msk ref s) (hm : 32 &&& msk = 32) : Kept msk ref (State.onPort s p f) :=
  Kept.size h rfl rfl (by simp [State.onPort]) rfl rfl rfl rfl hm rfl

theorem State.portRead_kept (s : State) (p a : Nat) (hs : Kept msk ref s) (hm : 1572896 &&& msk = 1572896) : Kept msk ref (State.portRead s p a) := by
  unfold State.portRead
  repeat' first
    | with_reducible assumption
    | exact mask_sub hm rfl
    | with_reducible apply State.diagRead_kept
    | with_reducible apply State.onPort_kept
    | (intro x; refine (fun (hx : Kept msk ref x) => ?_) ?_; on_goal 1 => clear_value x)
    | (intro x; refine (fun (hx : Kept msk ref x.1) => ?_) ?_; on_goal 1 => clear_value x)
    | (intro x; refine (fun (hx : Kept msk ref x.2) => ?_) ?_; on_goal 1 => clear_value x)
    | (intro x; clear_value x)
    | lift_lets
    | dsimp only
    | with_reducible apply ite_kept

theorem State.store_kept (s : State) (r : RegDef) (a : Nat) (w : Word) (hs : Kept msk ref s) (hm : 4 &&& msk = 4) : Kept msk ref (State.store s r a w) := by
  unfold State.store
  repeat' first
    | with_reducible assumption
    | exact mask_sub hm rfl
    | with_reducible apply State.regPut_kept

/-- Every operation of a command register keeps a state sound. -/
structure CmdsKept (msk : Nat) (ref : State) (ops : List (Nat × (State → State))) : Prop where
  imp : ∀ p ∈ ops, ∀ s, Kept msk ref s → Kept msk ref (p.2 s)
theorem CmdsKept.nil : CmdsKept msk ref [] := ⟨by simp⟩
theorem CmdsKept.cons {n : Nat} {f : State → State} {ops : List (Nat × (State → State))}
    (hf : ∀ s, Kept msk ref s → Kept msk ref (f s)) (h : CmdsKept msk ref ops) : CmdsKept msk ref ((n, f) :: ops) := by
  refine ⟨fun p hp => ?_⟩
  rcases List.mem_cons.1 hp with rfl | hp
  · exact hf
  · exact h.imp p hp
theorem CmdsKept.append {a b : List (Nat × (State → State))} (ha : CmdsKept msk ref a) (hb : CmdsKept msk ref b) : CmdsKept msk ref (a ++ b) := by
  refine ⟨fun p hp => ?_⟩
  rcases List.mem_append.1 hp with hp | hp
  · exact ha.imp p hp
  · exact hb.imp p hp
theorem CmdsKept.map {l : List Nat} {k : Nat → Nat} {f : Nat → State → State} (h : ∀ i s, Kept msk ref s → Kept msk ref (f i s)) :
    CmdsKept msk ref (l.map fun i => (k i, f i)) := by
  refine ⟨fun p hp => ?_⟩
  obtain ⟨i, _, rfl⟩ := List.mem_map.1 hp
  exact h i
theorem State.commands_kept (s : State) (w : Word) (ops : List (Nat × (State → State))) (h : Kept msk ref s)
    (ho : CmdsKept msk ref ops) : Kept msk ref (s.commands w ops) := by
  unfold State.commands
  induction ops generalizing s with
  | nil => exact h
  | cons p ops ih =>
    have hr : CmdsKept msk ref ops := ⟨fun q hq => ho.imp q (List.mem_cons_of_mem _ hq)⟩
    refine ih _ ?_ hr
    beta_reduce
    split
    · exact ho.imp p (by simp) s h
    · exact h

theorem State.writeMgt_kept (s : State) (r : RegDef) (port a : Nat) (w : Word) (hs : Kept msk ref s) (hm : 92274686 &&& msk = 92274686) : OKept msk ref (State.writeMgt s r port a w) := by
  unfold State.writeMgt
  repeat' first
    | with_reducible assumption
    | exact mask_sub hm rfl
    | with_reducible apply CmdsKept.append
    | with_reducible apply CmdsKept.cons
    | with_reducible apply CmdsKept.map
    | with_reducible apply State.commands_kept
    | with_reducible apply State.doFeedEnWrite_kept
    | with_reducible apply State.doFeedSweep_kept
    | with_reducible apply State.doForceStage_kept
    | with_reducible apply State.doModuleId_kept
    | with_reducible apply State.doPaceClrMin_kept
    | with_reducible apply State.doPaceRestore_kept
    | with_reducible apply State.doPaceSwitch_kept
    | with_reducible apply State.doPbCommit_kept
    | with_reducible apply State.doRestart_kept
    | with_reducible apply State.doVinClrMin_kept
    | with_reducible apply State.doWarm_kept
    | with_reducible apply State.store_kept
    | with_reducible apply State.writeSensorCfg_kept
    | with_reducible apply State.writeSensorCtl_kept
    | with_reducible apply State.writeSwitchCfg_kept
    | with_reducible apply State.writeSwitchThr_kept
    | with_reducible exact CmdsKept.nil
    | (intro x; refine (fun (hx : Kept msk ref x) => ?_) ?_; on_goal 1 => clear_value x)
    | (intro x; refine (fun (hx : Kept msk ref x.1) => ?_) ?_; on_goal 1 => clear_value x)
    | (intro x; refine (fun (hx : Kept msk ref x.2) => ?_) ?_; on_goal 1 => clear_value x)
    | (intro x; clear_value x)
    | lift_lets
    | dsimp only
    | with_reducible apply ite_kept
    | with_reducible exact OKept.none
    | with_reducible apply OKept.some
    | with_reducible apply OKept.ite
    | intro _ _ _
    | intro _ _

theorem State.writeAdcCtl_kept (s : State) (r : RegDef) (w : Word) (hs : Kept msk ref s) (hm : 518 &&& msk = 518) : Kept msk ref (State.writeAdcCtl s r w) := by
  unfold State.writeAdcCtl
  repeat' first
    | with_reducible assumption
    | exact mask_sub hm rfl
    | with_reducible apply State.configFault_kept
    | with_reducible apply State.store_kept
    | (intro x; refine (fun (hx : Kept msk ref x) => ?_) ?_; on_goal 1 => clear_value x)
    | (intro x; refine (fun (hx : Kept msk ref x.1) => ?_) ?_; on_goal 1 => clear_value x)
    | (intro x; refine (fun (hx : Kept msk ref x.2) => ?_) ?_; on_goal 1 => clear_value x)
    | (intro x; clear_value x)
    | lift_lets
    | dsimp only
    | with_reducible apply ite_kept

theorem State.writeFltChain_kept (s : State) (ch : Nat) (w : Word) (ns : Nat) (hs : Kept msk ref s) (hm : 16902 &&& msk = 16902) : Kept msk ref (State.writeFltChain s ch w ns) := by
  unfold State.writeFltChain
  repeat' first
    | with_reducible assumption
    | exact mask_sub hm rfl
    | with_reducible apply State.writeChain_kept

theorem State.writeFront_kept (s : State) (r : RegDef) (a : Nat) (w : Word) (ns : Nat) (hs : Kept msk ref s) (hm : 87686 &&& msk = 87686) : OKept msk ref (State.writeFront s r a w ns) := by
  unfold State.writeFront
  repeat' first
    | with_reducible assumption
    | exact mask_sub hm rfl
    | with_reducible apply CmdsKept.append
    | with_reducible apply CmdsKept.cons
    | with_reducible apply CmdsKept.map
    | with_reducible apply State.commands_kept
    | with_reducible apply State.doArThrWrite_kept
    | with_reducible apply State.doCalLoad_kept
    | with_reducible apply State.doCalSave_kept
    | with_reducible apply State.doInjectRequest_kept
    | with_reducible apply State.doNotchBwWrite_kept
    | with_reducible apply State.doNotchWrite_kept
    | with_reducible apply State.doRangeWrite_kept
    | with_reducible apply State.doRehearsalStart_kept
    | with_reducible apply State.doSkewCal_kept
    | with_reducible apply State.doSkewWrite_kept
    | with_reducible apply State.doUnitEnableWrite_kept
    | with_reducible apply State.storeDwell_kept
    | with_reducible apply State.writeAdcCtl_kept
    | with_reducible apply State.writeCal_kept
    | with_reducible apply State.writeFir_kept
    | with_reducible apply State.writeFltChain_kept
    | with_reducible exact CmdsKept.nil
    | (intro x; refine (fun (hx : Kept msk ref x) => ?_) ?_; on_goal 1 => clear_value x)
    | (intro x; refine (fun (hx : Kept msk ref x.1) => ?_) ?_; on_goal 1 => clear_value x)
    | (intro x; refine (fun (hx : Kept msk ref x.2) => ?_) ?_; on_goal 1 => clear_value x)
    | (intro x; clear_value x)
    | lift_lets
    | dsimp only
    | with_reducible apply ite_kept
    | with_reducible exact OKept.none
    | with_reducible apply OKept.some
    | with_reducible apply OKept.ite
    | intro _ _ _
    | intro _ _

theorem State.writeBucket_kept (s : State) (r : RegDef) (w : Word) (hs : Kept msk ref s) (hm : 262148 &&& msk = 262148) : Kept msk ref (State.writeBucket s r w) := by
  unfold State.writeBucket
  repeat' first
    | with_reducible assumption
    | exact mask_sub hm rfl
    | with_reducible apply State.count_kept
    | with_reducible apply State.feedTokens_kept
    | with_reducible apply State.onWch_kept
    | with_reducible apply State.store_kept
    | (intro x; refine (fun (hx : Kept msk ref x) => ?_) ?_; on_goal 1 => clear_value x)
    | lift_lets
    | dsimp only
    | with_reducible apply ite_kept

theorem State.writeWchCtl_kept (s : State) (r : RegDef) (w : Word) (hs : Kept msk ref s) (hm : 279366 &&& msk = 279366) : Kept msk ref (State.writeWchCtl s r w) := by
  unfold State.writeWchCtl
  repeat' first
    | with_reducible assumption
    | exact mask_sub hm rfl
    | with_reducible apply CmdsKept.append
    | with_reducible apply CmdsKept.cons
    | with_reducible apply CmdsKept.map
    | with_reducible apply State.commands_kept
    | with_reducible apply State.doMaskSwap_kept
    | with_reducible apply State.doSegSwap_kept
    | with_reducible apply State.store_kept
    | with_reducible apply State.wchSync_kept
    | with_reducible exact CmdsKept.nil
    | dsimp only
    | intro _ _ _
    | intro _ _

theorem State.writeWchan_kept (s : State) (r : RegDef) (ch : Nat) (w : Word) (hs : Kept msk ref s) (hm : 262148 &&& msk = 262148) : Kept msk ref (State.writeWchan s r ch w) := by
  unfold State.writeWchan
  repeat' first
    | with_reducible assumption
    | exact mask_sub hm rfl
    | with_reducible apply State.doKChange_kept
    | with_reducible apply State.store_kept

theorem State.writeDet_kept (s : State) (r : RegDef) (ch : Nat) (w : Word) (hs : Kept msk ref s) (hm : 16388 &&& msk = 16388) : Kept msk ref (State.writeDet s r ch w) := by
  unfold State.writeDet
  repeat' first
    | with_reducible assumption
    | exact mask_sub hm rfl
    | with_reducible apply State.count_kept
    | with_reducible apply State.startDetector_kept
    | with_reducible apply State.store_kept
    | (intro x; refine (fun (hx : Kept msk ref x) => ?_) ?_; on_goal 1 => clear_value x)
    | (intro x; refine (fun (hx : Kept msk ref x.1) => ?_) ?_; on_goal 1 => clear_value x)
    | (intro x; refine (fun (hx : Kept msk ref x.2) => ?_) ?_; on_goal 1 => clear_value x)
    | (intro x; clear_value x)
    | lift_lets
    | dsimp only
    | with_reducible apply ite_kept

theorem State.writeStreamMode_kept (s : State) (r : RegDef) (ch : Nat) (w : Word) (hs : Kept msk ref s) (hm : 518 &&& msk = 518) : Kept msk ref (State.writeStreamMode s r ch w) := by
  unfold State.writeStreamMode
  repeat' first
    | with_reducible assumption
    | exact mask_sub hm rfl
    | with_reducible apply State.configFault_kept
    | with_reducible apply State.store_kept
    | (intro x; refine (fun (hx : Kept msk ref x) => ?_) ?_; on_goal 1 => clear_value x)
    | (intro x; refine (fun (hx : Kept msk ref x.1) => ?_) ?_; on_goal 1 => clear_value x)
    | (intro x; refine (fun (hx : Kept msk ref x.2) => ?_) ?_; on_goal 1 => clear_value x)
    | (intro x; clear_value x)
    | lift_lets
    | dsimp only
    | with_reducible apply ite_kept

theorem State.writeCore_kept (s : State) (r : RegDef) (a : Nat) (w : Word) (hs : Kept msk ref s) (hm : 4083654 &&& msk = 4083654) : OKept msk ref (State.writeCore s r a w) := by
  unfold State.writeCore
  repeat' first
    | with_reducible assumption
    | exact mask_sub hm rfl
    | with_reducible apply CmdsKept.append
    | with_reducible apply CmdsKept.cons
    | with_reducible apply CmdsKept.map
    | with_reducible apply State.checkCombiner_kept
    | with_reducible apply State.commands_kept
    | with_reducible apply State.doChnEnWrite_kept
    | with_reducible apply State.doCodecCancel_kept
    | with_reducible apply State.doDrop3_kept
    | with_reducible apply State.doFreeze_kept
    | with_reducible apply State.doHwmReset_kept
    | with_reducible apply State.doProtoSwap_kept
    | with_reducible apply State.doQueueFlush_kept
    | with_reducible apply State.doRearm_kept
    | with_reducible apply State.doSoftwareCue_kept
    | with_reducible apply State.doStreamApply_kept
    | with_reducible apply State.store_kept
    | with_reducible apply State.writeBucket_kept
    | with_reducible apply State.writeDet_kept
    | with_reducible apply State.writeStreamMode_kept
    | with_reducible apply State.writeWchCtl_kept
    | with_reducible apply State.writeWchan_kept
    | with_reducible exact CmdsKept.nil
    | (intro x; refine (fun (hx : Kept msk ref x) => ?_) ?_; on_goal 1 => clear_value x)
    | (intro x; refine (fun (hx : Kept msk ref x.1) => ?_) ?_; on_goal 1 => clear_value x)
    | (intro x; refine (fun (hx : Kept msk ref x.2) => ?_) ?_; on_goal 1 => clear_value x)
    | (intro x; clear_value x)
    | lift_lets
    | dsimp only
    | with_reducible apply ite_kept
    | with_reducible apply OKept.map
    | intro _
    | with_reducible exact OKept.none
    | with_reducible apply OKept.some
    | with_reducible apply OKept.ite

theorem State.writeMemCfg_kept (s : State) (r : RegDef) (w : Word) (hs : Kept msk ref s) (hm : 518 &&& msk = 518) : Kept msk ref (State.writeMemCfg s r w) := by
  unfold State.writeMemCfg
  repeat' first
    | with_reducible assumption
    | exact mask_sub hm rfl
    | with_reducible apply State.admitFault_kept
    | with_reducible apply State.judge_kept
    | with_reducible apply State.store_kept
    | (intro x; refine (fun (hx : Kept msk ref x) => ?_) ?_; on_goal 1 => clear_value x)
    | (intro x; refine (fun (hx : Kept msk ref x.1) => ?_) ?_; on_goal 1 => clear_value x)
    | (intro x; refine (fun (hx : Kept msk ref x.2) => ?_) ?_; on_goal 1 => clear_value x)
    | (intro x; clear_value x)
    | lift_lets
    | dsimp only
    | with_reducible apply ite_kept
    | intro _ _ _
    | intro _ _

theorem State.writeTimCtl_kept (s : State) (r : RegDef) (w : Word) (hs : Kept msk ref s) (hm : 838 &&& msk = 838) : Kept msk ref (State.writeTimCtl s r w) := by
  unfold State.writeTimCtl
  repeat' first
    | with_reducible assumption
    | exact mask_sub hm rfl
    | with_reducible apply State.checkHoldover_kept
    | with_reducible apply State.endCal_kept
    | with_reducible apply State.selectPath_kept
    | with_reducible apply State.store_kept
    | (intro x; refine (fun (hx : Kept msk ref x) => ?_) ?_; on_goal 1 => clear_value x)
    | (intro x; refine (fun (hx : Kept msk ref x.1) => ?_) ?_; on_goal 1 => clear_value x)
    | (intro x; refine (fun (hx : Kept msk ref x.2) => ?_) ?_; on_goal 1 => clear_value x)
    | (intro x; clear_value x)
    | lift_lets
    | dsimp only
    | with_reducible apply ite_kept

theorem State.writeLink_kept (s : State) (r : RegDef) (a : Nat) (w : Word) (hs : Kept msk ref s) (hm : 2099142 &&& msk = 2099142) : OKept msk ref (State.writeLink s r a w) := by
  unfold State.writeLink
  repeat' first
    | with_reducible assumption
    | exact mask_sub hm rfl
    | with_reducible apply CmdsKept.append
    | with_reducible apply CmdsKept.cons
    | with_reducible apply CmdsKept.map
    | with_reducible apply State.commands_kept
    | with_reducible apply State.doAcceptJump_kept
    | with_reducible apply State.doAsymApply_kept
    | with_reducible apply State.doAsymCal_kept
    | with_reducible apply State.doClassPolicyWrite_kept
    | with_reducible apply State.doClose_kept
    | with_reducible apply State.doClrErr_kept
    | with_reducible apply State.doClrWrap_kept
    | with_reducible apply State.doCommit_kept
    | with_reducible apply State.doDumpNow_kept
    | with_reducible apply State.doFocusWrite_kept
    | with_reducible apply State.doPurgePrevious_kept
    | with_reducible apply State.doRingResume_kept
    | with_reducible apply State.doSnap_kept
    | with_reducible apply State.store_kept
    | with_reducible apply State.writeLaneCtl_kept
    | with_reducible apply State.writeMemCfg_kept
    | with_reducible apply State.writePathCfg_kept
    | with_reducible apply State.writeTimCtl_kept
    | with_reducible exact CmdsKept.nil
    | (intro x; refine (fun (hx : Kept msk ref x) => ?_) ?_; on_goal 1 => clear_value x)
    | (intro x; refine (fun (hx : Kept msk ref x.1) => ?_) ?_; on_goal 1 => clear_value x)
    | (intro x; refine (fun (hx : Kept msk ref x.2) => ?_) ?_; on_goal 1 => clear_value x)
    | (intro x; clear_value x)
    | lift_lets
    | dsimp only
    | with_reducible apply ite_kept
    | with_reducible exact OKept.none
    | with_reducible apply OKept.some
    | with_reducible apply OKept.ite
    | intro _ _ _
    | intro _ _
    | fail_if_no_progress (with_reducible refine mk_kept ?_ rfl rfl rfl rfl rfl rfl rfl hm)

theorem State.writeReg_kept (s : State) (r : RegDef) (port a : Nat) (w : Word) (ns : Nat) (hs : Kept msk ref s) (hm : 92274686 &&& msk = 92274686) : Kept msk ref (State.writeReg s r port a w ns) := by
  unfold State.writeReg
  repeat' first
    | with_reducible assumption
    | exact mask_sub hm rfl
    | with_reducible apply State.store_kept
    | with_reducible apply State.writeCore_kept
    | with_reducible apply State.writeFront_kept
    | with_reducible apply State.writeLink_kept
    | with_reducible apply State.writeMgt_kept
    | dsimp only
    | intro _ _ _
    | intro _ _
    | split
    | with_reducible refine OKept.out ‹_ = some _› ?_

theorem State.unassignedWrite_kept (s : State) (a : Nat) (hs : Kept msk ref s) (hm : 4 &&& msk = 4) : Kept msk ref (State.unassignedWrite s a) := by
  unfold State.unassignedWrite
  repeat' first
    | with_reducible assumption
    | exact mask_sub hm rfl
    | with_reducible apply State.count_kept

theorem State.lockedWrite_kept (s : State) (a : Nat) (hs : Kept msk ref s) (hm : 518 &&& msk = 518) : Kept msk ref (State.lockedWrite s a) := by
  unfold State.lockedWrite
  repeat' first
    | with_reducible assumption
    | exact mask_sub hm rfl
    | with_reducible apply State.count_kept
    | with_reducible apply State.report_kept

theorem State.portWrite_kept (s : State) (p a : Nat) (w : Word) (hs : Kept msk ref s) (hm : 92274686 &&& msk = 92274686) : Kept msk ref (State.portWrite s p a w).2 := by
  unfold State.portWrite
  repeat' first
    | with_reducible assumption
    | exact mask_sub hm rfl
    | with_reducible apply State.freeBelow_kept
    | with_reducible apply State.lockedWrite_kept
    | with_reducible apply State.unassignedWrite_kept
    | with_reducible apply State.writeReg_kept
    | (intro x; refine (fun (hx : Kept msk ref x) => ?_) ?_; on_goal 1 => clear_value x)
    | (intro x; refine (fun (hx : Kept msk ref x.1) => ?_) ?_; on_goal 1 => clear_value x)
    | (intro x; refine (fun (hx : Kept msk ref x.2) => ?_) ?_; on_goal 1 => clear_value x)
    | (intro x; clear_value x)
    | lift_lets
    | dsimp only
    | with_reducible apply ite_kept
    | intro _ _ _
    | intro _ _
    | dsimp only [x]
    | split

theorem State.portStore_kept (s : State) (p a : Nat) (w : Word) (hs : Kept msk ref s) (hm : 92274686 &&& msk = 92274686) : Kept msk ref (State.portStore s p a w) := by
  unfold State.portStore
  repeat' first
    | with_reducible assumption
    | exact mask_sub hm rfl
    | with_reducible apply State.onPort_kept
    | with_reducible apply State.portWrite_kept

theorem State.doRegisterWrite_kept (s : State) (p a : Nat) (w : Word) (hs : Kept msk ref s) (hm : 92274686 &&& msk = 92274686) : Kept msk ref (State.doRegisterWrite s p a w) := by
  unfold State.doRegisterWrite
  repeat' first
    | with_reducible assumption
    | exact mask_sub hm rfl
    | with_reducible apply State.portStore_kept

theorem State.doPairRead_kept (s : State) (p a : Nat) (hs : Kept msk ref s) (hm : 1572896 &&& msk = 1572896) : Kept msk ref (State.doPairRead s p a) := by
  unfold State.doPairRead
  repeat' first
    | with_reducible assumption
    | exact mask_sub hm rfl
    | with_reducible apply State.portRead_kept

theorem State.doCellRead_kept (s : State) (p cell : Nat) (high : Bool) (hs : Kept msk ref s) (hm : 1572896 &&& msk = 1572896) : Kept msk ref (State.doCellRead s p cell high) := by
  unfold State.doCellRead
  repeat' first
    | with_reducible assumption
    | exact mask_sub hm rfl
    | with_reducible apply State.portRead_kept

theorem State.doDiagRead_kept (s : State) (p word : Nat) (hs : Kept msk ref s) (hm : 1572896 &&& msk = 1572896) : Kept msk ref (State.doDiagRead s p word) := by
  unfold State.doDiagRead
  repeat' first
    | with_reducible assumption
    | exact mask_sub hm rfl
    | with_reducible apply State.portRead_kept

theorem State.doRegWr_kept (s : State) (hs : Kept msk ref s) (hm : 92274686 &&& msk = 92274686) : Kept msk ref (State.doRegWr s) := by
  unfold State.doRegWr
  repeat' first
    | with_reducible assumption
    | exact mask_sub hm rfl
    | with_reducible apply State.finishCmd_kept
    | with_reducible apply State.portWrite_kept
    | with_reducible apply State.serve_kept
    | with_reducible apply State.startCmd_kept
    | (intro x; refine (fun (hx : Kept msk ref x) => ?_) ?_; on_goal 1 => clear_value x)
    | (intro x; refine (fun (hx : Kept msk ref x.1) => ?_) ?_; on_goal 1 => clear_value x)
    | (intro x; refine (fun (hx : Kept msk ref x.2) => ?_) ?_; on_goal 1 => clear_value x)
    | (intro x; clear_value x)
    | lift_lets
    | dsimp only
    | with_reducible apply ite_kept
    | intro _ _ _
    | intro _ _
    | dsimp only [x]
    | split

theorem State.doRegRd_kept (s : State) (hs : Kept msk ref s) (hm : 1574886 &&& msk = 1574886) : Kept msk ref (State.doRegRd s) := by
  unfold State.doRegRd
  repeat' first
    | with_reducible assumption
    | exact mask_sub hm rfl
    | with_reducible apply State.finishCmd_kept
    | with_reducible apply State.portRead_kept
    | with_reducible apply State.serve_kept
    | with_reducible apply State.startCmd_kept
    | (intro x; refine (fun (hx : Kept msk ref x) => ?_) ?_; on_goal 1 => clear_value x)
    | (intro x; refine (fun (hx : Kept msk ref x.1) => ?_) ?_; on_goal 1 => clear_value x)
    | (intro x; refine (fun (hx : Kept msk ref x.2) => ?_) ?_; on_goal 1 => clear_value x)
    | (intro x; clear_value x)
    | lift_lets
    | dsimp only
    | intro _ _ _
    | intro _ _
    | dsimp only [x]
    | split

theorem State.doBlockRd_kept (s : State) (hs : Kept msk ref s) (hm : 1574854 &&& msk = 1574854) : Kept msk ref (State.doBlockRd s) := by
  unfold State.doBlockRd
  repeat' first
    | with_reducible assumption
    | exact mask_sub hm rfl
    | with_reducible apply State.diagRead_kept
    | with_reducible apply State.finishCmd_kept
    | with_reducible apply State.pushOutput_kept
    | with_reducible apply State.serve_kept
    | with_reducible apply State.startCmd_kept
    | (intro x; refine (fun (hx : Kept msk ref x) => ?_) ?_; on_goal 1 => clear_value x)
    | (intro x; refine (fun (hx : Kept msk ref x.1) => ?_) ?_; on_goal 1 => clear_value x)
    | (intro x; refine (fun (hx : Kept msk ref x.2) => ?_) ?_; on_goal 1 => clear_value x)
    | (intro x; clear_value x)
    | lift_lets
    | dsimp only
    | with_reducible apply ite_kept
    | intro _ _ _
    | intro _ _
    | dsimp only [x]
    | split

theorem State.doConfigScrub_kept (s : State) (a kind : Nat) (hs : Kept msk ref s) (hm : 92274686 &&& msk = 92274686) : Kept msk ref (State.doConfigScrub s a kind) := by
  unfold State.doConfigScrub
  repeat' first
    | with_reducible assumption
    | exact mask_sub hm rfl
    | with_reducible apply State.count_kept
    | with_reducible apply State.flag_kept
    | with_reducible apply State.freeBelow_kept
    | with_reducible apply State.onFau_kept
    | with_reducible apply State.regPut_kept
    | with_reducible apply State.report_kept
    | with_reducible apply State.satAdd_kept
    | with_reducible apply State.writeReg_kept
    | (intro x; refine (fun (hx : Kept msk ref x) => ?_) ?_; on_goal 1 => clear_value x)
    | (intro x; refine (fun (hx : Kept msk ref x.1) => ?_) ?_; on_goal 1 => clear_value x)
    | (intro x; refine (fun (hx : Kept msk ref x.2) => ?_) ?_; on_goal 1 => clear_value x)
    | (intro x; clear_value x)
    | lift_lets
    | dsimp only
    | with_reducible apply ite_kept
    | intro _ _ _
    | intro _ _
    | fail_if_no_progress (with_reducible refine mk_kept ?_ rfl rfl rfl rfl rfl rfl rfl hm)
    | (with_reducible refine mk_sized ?_ rfl rfl ?_ ?_ ?_ ?_ ?_ hm <;> first | with_reducible assumption | with_reducible rfl | (simp; done))
    | dsimp only [x]
    | split

theorem State.loseItem_kept (s : State) (item : Nat) (hs : Kept msk ref s) (hm : 16842756 &&& msk = 16842756) : Kept msk ref (State.loseItem s item) := by
  unfold State.loseItem
  repeat' first
    | with_reducible assumption
    | exact mask_sub hm rfl
    | with_reducible apply State.onAdc_kept
    | with_reducible apply State.onBook_kept
    | with_reducible apply State.wrB_kept
    | (intro x; refine (fun (hx : Kept msk ref x) => ?_) ?_; on_goal 1 => clear_value x)
    | lift_lets
    | dsimp only
    | with_reducible apply ite_kept

theorem State.doFlashRefresh_kept (s : State) (worst : Nat) (eraseOk : Bool) (item : Nat) (hs : Kept msk ref s) (hm : 16843286 &&& msk = 16843286) : Kept msk ref (State.doFlashRefresh s worst eraseOk item) := by
  unfold State.doFlashRefresh
  repeat' first
    | with_reducible assumption
    | exact mask_sub hm rfl
    | with_reducible apply State.loseItem_kept
    | with_reducible apply State.onFau_kept
    | with_reducible apply State.report_kept
    | with_reducible apply State.toTick_kept
    | with_reducible apply State.wr_kept
    | (intro x; refine (fun (hx : Kept msk ref x) => ?_) ?_; on_goal 1 => clear_value x)
    | (intro x; refine (fun (hx : Kept msk ref x.1) => ?_) ?_; on_goal 1 => clear_value x)
    | (intro x; refine (fun (hx : Kept msk ref x.2) => ?_) ?_; on_goal 1 => clear_value x)
    | (intro x; clear_value x)
    | lift_lets
    | dsimp only
    | with_reducible apply ite_kept

theorem State.doRefclkLoss_kept (s : State) (hs : Kept msk ref s) (hm : 534 &&& msk = 534) : Kept msk ref (State.doRefclkLoss s) := by
  unfold State.doRefclkLoss
  repeat' first
    | with_reducible assumption
    | exact mask_sub hm rfl
    | with_reducible apply State.report_kept
    | dsimp only
    | with_reducible apply ite_kept
    | intro _ _ _
    | intro _ _
    | fail_if_no_progress (with_reducible refine mk_kept ?_ rfl rfl rfl rfl rfl rfl rfl hm)

theorem State.doRefclkReturn_kept (s : State) (hs : Kept msk ref s) (hm : 528 &&& msk = 528) : Kept msk ref (State.doRefclkReturn s) := by
  unfold State.doRefclkReturn
  repeat' first
    | with_reducible assumption
    | exact mask_sub hm rfl
    | with_reducible apply State.conditionOver_kept
    | (intro x; refine (fun (hx : Kept msk ref x) => ?_) ?_; on_goal 1 => clear_value x)
    | (intro x; refine (fun (hx : Kept msk ref x.1) => ?_) ?_; on_goal 1 => clear_value x)
    | (intro x; refine (fun (hx : Kept msk ref x.2) => ?_) ?_; on_goal 1 => clear_value x)
    | (intro x; clear_value x)
    | lift_lets
    | dsimp only
    | with_reducible apply ite_kept
    | intro _ _ _
    | intro _ _
    | fail_if_no_progress (with_reducible refine mk_kept ?_ rfl rfl rfl rfl rfl rfl rfl hm)

end Sys2Proof.Machine
end

