-- ==== Sys2Proof/Laws/KeptCommands.lean ====
section
/-! SUPPORT. Footprints of the commands: one lemma for each, which says what it can change and that it
keeps a state sound. -/

namespace Sys2Proof.Machine

set_option Elab.async false

set_option linter.unreachableTactic false
set_option linter.unusedTactic false

variable {msk : Nat} {ref : State}

theorem State.doSmbusWrite_kept (s : State) (a : Nat) (w : Word) (pecOk : Bool) (hs : Kept msk ref s) (hm : 92274686 &&& msk = 92274686) : Kept msk ref (State.doSmbusWrite s a w pecOk) := by
  unfold State.doSmbusWrite
  repeat' first
    | with_reducible assumption
    | exact mask_sub hm rfl
    | with_reducible apply State.portStore_kept
    | dsimp only
    | with_reducible apply ite_kept

theorem State.doSmbusAddress_kept (s : State) (a : Nat) (pecOk : Bool) (hs : Kept msk ref s) (hm : 134217728 &&& msk = 134217728) : Kept msk ref (State.doSmbusAddress s a pecOk) := by
  unfold State.doSmbusAddress
  repeat' first
    | with_reducible assumption
    | exact mask_sub hm rfl
    | with_reducible apply State.onAccess_kept
    | dsimp only
    | with_reducible apply ite_kept

theorem State.doSmbusRead_kept (s : State) (hs : Kept msk ref s) (hm : 135790624 &&& msk = 135790624) : Kept msk ref (State.doSmbusRead s) := by
  unfold State.doSmbusRead
  repeat' first
    | with_reducible assumption
    | exact mask_sub hm rfl
    | with_reducible apply State.onAccess_kept
    | with_reducible apply State.portRead_kept

theorem State.doAlertResponse_kept (s : State) (hs : Kept msk ref s) (hm : 134217728 &&& msk = 134217728) : Kept msk ref (State.doAlertResponse s) := by
  unfold State.doAlertResponse
  repeat' first
    | with_reducible assumption
    | exact mask_sub hm rfl
    | with_reducible apply State.onAccess_kept
    | (intro x; refine (fun (hx : Kept msk ref x) => ?_) ?_; on_goal 1 => clear_value x)
    | (intro x; refine (fun (hx : Kept msk ref x.1) => ?_) ?_; on_goal 1 => clear_value x)
    | (intro x; refine (fun (hx : Kept msk ref x.2) => ?_) ?_; on_goal 1 => clear_value x)
    | (intro x; clear_value x)
    | lift_lets
    | dsimp only
    | with_reducible apply ite_kept

theorem State.uartAnswer_kept (s : State) (op a : Nat) (data : List Nat) (hs : Kept msk ref s) (hm : 134217728 &&& msk = 134217728) : Kept msk ref (State.uartAnswer s op a data) := by
  unfold State.uartAnswer
  repeat' first
    | with_reducible assumption
    | exact mask_sub hm rfl
    | with_reducible apply State.onAccess_kept

theorem State.doUartWrite_kept (s : State) (a : Nat) (w : Word) (crc : Nat) (hs : Kept msk ref s) (hm : 226492414 &&& msk = 226492414) : Kept msk ref (State.doUartWrite s a w crc) := by
  unfold State.doUartWrite
  repeat' first
    | with_reducible assumption
    | exact mask_sub hm rfl
    | with_reducible apply State.freeBelow_kept
    | with_reducible apply State.portStore_kept
    | with_reducible apply State.uartAnswer_kept
    | (intro x; refine (fun (hx : Kept msk ref x) => ?_) ?_; on_goal 1 => clear_value x)
    | (intro x; refine (fun (hx : Kept msk ref x.1) => ?_) ?_; on_goal 1 => clear_value x)
    | (intro x; refine (fun (hx : Kept msk ref x.2) => ?_) ?_; on_goal 1 => clear_value x)
    | (intro x; clear_value x)
    | lift_lets
    | dsimp only
    | with_reducible apply ite_kept

theorem State.doUartRead_kept (s : State) (a : Nat) (w : Word) (crc : Nat) (hs : Kept msk ref s) (hm : 135790624 &&& msk = 135790624) : Kept msk ref (State.doUartRead s a w crc) := by
  unfold State.doUartRead
  repeat' first
    | with_reducible assumption
    | exact mask_sub hm rfl
    | with_reducible apply State.portRead_kept
    | with_reducible apply State.uartAnswer_kept
    | (intro x; refine (fun (hx : Kept msk ref x) => ?_) ?_; on_goal 1 => clear_value x)
    | (intro x; refine (fun (hx : Kept msk ref x.1) => ?_) ?_; on_goal 1 => clear_value x)
    | (intro x; refine (fun (hx : Kept msk ref x.2) => ?_) ?_; on_goal 1 => clear_value x)
    | (intro x; clear_value x)
    | lift_lets
    | dsimp only
    | with_reducible apply ite_kept

theorem State.doKeyProvisioning_kept (s : State) (key : Nat) (crcOk : Bool) (hs : Kept msk ref s) (hm : 142606342 &&& msk = 142606342) : Kept msk ref (State.doKeyProvisioning s key crcOk) := by
  unfold State.doKeyProvisioning
  repeat' first
    | with_reducible assumption
    | exact mask_sub hm rfl
    | with_reducible apply State.freeBelow_kept
    | with_reducible apply State.onSaf_kept
    | with_reducible apply State.uartAnswer_kept
    | with_reducible apply State.wr_kept
    | (intro x; refine (fun (hx : Kept msk ref x) => ?_) ?_; on_goal 1 => clear_value x)
    | (intro x; refine (fun (hx : Kept msk ref x.1) => ?_) ?_; on_goal 1 => clear_value x)
    | (intro x; refine (fun (hx : Kept msk ref x.2) => ?_) ?_; on_goal 1 => clear_value x)
    | (intro x; clear_value x)
    | lift_lets
    | dsimp only
    | with_reducible apply ite_kept

theorem State.doUartGap_kept (s : State) (hs : Kept msk ref s) (hm : 0 &&& msk = 0) : Kept msk ref (State.doUartGap s) := by
  unfold State.doUartGap
  repeat' first
    | with_reducible assumption

theorem State.doSmbusTimeout_kept (s : State) (hs : Kept msk ref s) (hm : 0 &&& msk = 0) : Kept msk ref (State.doSmbusTimeout s) := by
  unfold State.doSmbusTimeout
  repeat' first
    | with_reducible assumption

theorem State.jtagSelect_kept (s : State) (ir dr : Nat) (mode : ScanMode) (hs : Kept msk ref s) (hm : 134217728 &&& msk = 134217728) : Kept msk ref (State.jtagSelect s ir dr mode) := by
  unfold State.jtagSelect
  repeat' first
    | with_reducible assumption
    | exact mask_sub hm rfl
    | with_reducible apply State.onAccess_kept

theorem State.doTestLogicReset_kept (s : State) (hs : Kept msk ref s) (hm : 134217728 &&& msk = 134217728) : Kept msk ref (State.doTestLogicReset s) := by
  unfold State.doTestLogicReset
  repeat' first
    | with_reducible assumption
    | exact mask_sub hm rfl
    | with_reducible apply State.jtagSelect_kept

theorem State.doBypass_kept (s : State) (hs : Kept msk ref s) (hm : 134217728 &&& msk = 134217728) : Kept msk ref (State.doBypass s) := by
  unfold State.doBypass
  repeat' first
    | with_reducible assumption
    | exact mask_sub hm rfl
    | with_reducible apply State.jtagSelect_kept

theorem State.doIdcode_kept (s : State) (hs : Kept msk ref s) (hm : 134217728 &&& msk = 134217728) : Kept msk ref (State.doIdcode s) := by
  unfold State.doIdcode
  repeat' first
    | with_reducible assumption
    | exact mask_sub hm rfl
    | with_reducible apply State.jtagSelect_kept

theorem State.doSamplePreload_kept (s : State) (balls shifted : Nat) (hs : Kept msk ref s) (hm : 134217728 &&& msk = 134217728) : Kept msk ref (State.doSamplePreload s balls shifted) := by
  unfold State.doSamplePreload
  repeat' first
    | with_reducible assumption
    | exact mask_sub hm rfl
    | with_reducible apply State.jtagSelect_kept
    | with_reducible apply State.onAccess_kept

theorem State.doExtest_kept (s : State) (balls shifted : Nat) (hs : Kept msk ref s) (hm : 134217728 &&& msk = 134217728) : Kept msk ref (State.doExtest s balls shifted) := by
  unfold State.doExtest
  repeat' first
    | with_reducible assumption
    | exact mask_sub hm rfl
    | with_reducible apply State.jtagSelect_kept
    | with_reducible apply State.onAccess_kept

theorem State.doClamp_kept (s : State) (hs : Kept msk ref s) (hm : 134217728 &&& msk = 134217728) : Kept msk ref (State.doClamp s) := by
  unfold State.doClamp
  repeat' first
    | with_reducible assumption
    | exact mask_sub hm rfl
    | with_reducible apply State.jtagSelect_kept

theorem State.doHighz_kept (s : State) (hs : Kept msk ref s) (hm : 134217728 &&& msk = 134217728) : Kept msk ref (State.doHighz s) := by
  unfold State.doHighz
  repeat' first
    | with_reducible assumption
    | exact mask_sub hm rfl
    | with_reducible apply State.jtagSelect_kept

theorem State.keeperDo_kept (s : State) (f : State → State) (hf : ∀ s, Kept msk ref s → Kept msk ref (f s)) (h : Kept msk ref s) :
    Kept msk ref (s.keeperDo f) := by
  unfold State.keeperDo
  exact ite_kept (hf s h) h

theorem State.cxDo_kept (s : State) (f : State → State) (hf : ∀ s, Kept msk ref s → Kept msk ref (f s)) (h : Kept msk ref s) :
    Kept msk ref (s.cxDo f) := by
  unfold State.cxDo
  exact ite_kept (hf s h) h

theorem State.bootedDo_kept (s : State) (f : State → State) (hf : ∀ s, Kept msk ref s → Kept msk ref (f s)) (h : Kept msk ref s) :
    Kept msk ref (s.bootedDo f) := by
  unfold State.bootedDo
  exact ite_kept (hf s h) h

theorem State.hostWrite_kept (s : State) (p a : Nat) (w : Word) (hs : Kept msk ref s) (hm : 92274686 &&& msk = 92274686) : Kept msk ref (State.hostWrite s p a w) := by
  unfold State.hostWrite
  repeat' first
    | with_reducible assumption
    | exact mask_sub hm rfl
    | with_reducible apply State.portStore_kept

theorem State.hostField_kept (s : State) (p : Nat) (f : Fld) (i n : Nat) (hs : Kept msk ref s) (hm : 92274686 &&& msk = 92274686) : Kept msk ref (State.hostField s p f i n) := by
  unfold State.hostField
  repeat' first
    | with_reducible assumption
    | exact mask_sub hm rfl
    | with_reducible apply State.hostWrite_kept

theorem State.hostBit_kept (s : State) (p : Nat) (f : Fld) (i : Nat) (hs : Kept msk ref s) (hm : 92274686 &&& msk = 92274686) : Kept msk ref (State.hostBit s p f i) := by
  unfold State.hostBit
  repeat' first
    | with_reducible assumption
    | exact mask_sub hm rfl
    | with_reducible apply State.hostField_kept

theorem State.takeTime_kept (s : State) (n k phi : Nat) (ws : List LWord) (hs : Kept msk ref s) (hm : 854 &&& msk = 854) : Kept msk ref (State.takeTime s n k phi ws) := by
  unfold State.takeTime
  repeat' first
    | with_reducible assumption
    | exact mask_sub hm rfl
    | with_reducible apply State.doAnswer_kept
    | with_reducible apply State.doFollow_kept
    | with_reducible apply State.doOrigin_kept
    | with_reducible apply State.rejectFrame_kept
    | (intro x; refine (fun (hx : Kept msk ref x) => ?_) ?_; on_goal 1 => clear_value x)
    | (intro x; refine (fun (hx : Kept msk ref x.1) => ?_) ?_; on_goal 1 => clear_value x)
    | (intro x; refine (fun (hx : Kept msk ref x.2) => ?_) ?_; on_goal 1 => clear_value x)
    | (intro x; clear_value x)
    | lift_lets
    | dsimp only
    | with_reducible apply ite_kept

theorem State.takeSafety_kept (s : State) (p : Nat) (ws : List LWord) (hs : Kept msk ref s) (hm : 25166342 &&& msk = 25166342) : Kept msk ref (State.takeSafety s p ws) := by
  unfold State.takeSafety
  repeat' first
    | with_reducible assumption
    | exact mask_sub hm rfl
    | with_reducible apply State.doSafetyAck_kept
    | with_reducible apply State.doSafetyActivate_kept
    | with_reducible apply State.doSafetyCommand_kept
    | with_reducible apply State.doSafetyParam_kept
    | with_reducible apply State.telDiscard_kept
    | dsimp only
    | intro _ _ _
    | intro _ _
    | split

theorem State.takeFrame_kept (s : State) (f : RxHeld) (hs : Kept msk ref s) (hm : 26740694 &&& msk = 26740694) : Kept msk ref (State.takeFrame s f) := by
  unfold State.takeFrame
  repeat' first
    | with_reducible assumption
    | exact mask_sub hm rfl
    | with_reducible apply State.doMemRdData_kept
    | with_reducible apply State.doMemWrErr_kept
    | with_reducible apply State.doNudge_kept
    | with_reducible apply State.doReadoutRequest_kept
    | with_reducible apply State.takeSafety_kept
    | with_reducible apply State.takeTime_kept
    | (intro x; refine (fun (hx : Kept msk ref x) => ?_) ?_; on_goal 1 => clear_value x)
    | (intro x; refine (fun (hx : Kept msk ref x.1) => ?_) ?_; on_goal 1 => clear_value x)
    | (intro x; refine (fun (hx : Kept msk ref x.2) => ?_) ?_; on_goal 1 => clear_value x)
    | (intro x; clear_value x)
    | lift_lets
    | dsimp only
    | with_reducible apply ite_kept

theorem State.passOn_kept (s : State) (f : RxHeld) (hs : Kept msk ref s) (hm : 26740694 &&& msk = 26740694) : Kept msk ref (State.passOn s f) := by
  unfold State.passOn
  repeat' first
    | with_reducible assumption
    | exact mask_sub hm rfl
    | with_reducible apply State.onLnk_kept
    | with_reducible apply State.takeFrame_kept
    | dsimp only

theorem State.passHeld_kept (s : State) (p c : Nat) (hs : Kept msk ref s) (hm : 26740694 &&& msk = 26740694) : Kept msk ref (State.passHeld s p c) := by
  unfold State.passHeld
  repeat' first
    | with_reducible assumption
    | exact mask_sub hm rfl
    | with_reducible apply State.forEach_kept
    | with_reducible apply State.passOn_kept
    | dsimp only
    | intro _ _ _
    | intro _ _
    | split

theorem State.order_kept (s : State) (f : RxHeld) (hs : Kept msk ref s) (hm : 26740694 &&& msk = 26740694) : Kept msk ref (State.order s f) := by
  unfold State.order
  repeat' first
    | with_reducible assumption
    | exact mask_sub hm rfl
    | with_reducible apply State.onLnk_kept
    | with_reducible apply State.passHeld_kept
    | with_reducible apply State.passOn_kept
    | with_reducible apply State.takeFrame_kept
    | (intro x; refine (fun (hx : Kept msk ref x) => ?_) ?_; on_goal 1 => clear_value x)
    | (intro x; refine (fun (hx : Kept msk ref x.1) => ?_) ?_; on_goal 1 => clear_value x)
    | (intro x; refine (fun (hx : Kept msk ref x.2) => ?_) ?_; on_goal 1 => clear_value x)
    | (intro x; clear_value x)
    | lift_lets
    | dsimp only
    | with_reducible apply ite_kept
    | intro _ _ _
    | intro _ _
    | fail_if_no_progress (with_reducible refine mk_kept ?_ rfl rfl rfl rfl rfl rfl rfl hm)
    | (with_reducible refine mk_sized ?_ rfl rfl ?_ ?_ ?_ ?_ ?_ hm <;> first | with_reducible assumption | with_reducible rfl | (simp; done))
    | dsimp only [x]
    | split

theorem State.takeCredit_kept (s : State) (p : Nat) (hs : Kept msk ref s) (hm : 128 &&& msk = 128) : OKept msk ref (State.takeCredit s p) := by
  unfold State.takeCredit
  repeat' first
    | with_reducible assumption
    | exact mask_sub hm rfl
    | with_reducible apply State.onLnk_kept
    | (intro x; refine (fun (hx : Kept msk ref x) => ?_) ?_; on_goal 1 => clear_value x)
    | (intro x; refine (fun (hx : Kept msk ref x.1) => ?_) ?_; on_goal 1 => clear_value x)
    | (intro x; refine (fun (hx : Kept msk ref x.2) => ?_) ?_; on_goal 1 => clear_value x)
    | (intro x; clear_value x)
    | lift_lets
    | dsimp only
    | with_reducible apply ite_kept
    | with_reducible exact OKept.none
    | with_reducible apply OKept.some
    | with_reducible apply OKept.ite

theorem State.goodFrame_kept (s : State) (n : Nat) (h : LWord) (ws : List LWord) (k phi : Nat) (hs : Kept msk ref s) (hm : 26740694 &&& msk = 26740694) : Kept msk ref (State.goodFrame s n h ws k phi) := by
  unfold State.goodFrame
  repeat' first
    | with_reducible assumption
    | exact mask_sub hm rfl
    | with_reducible apply State.doCreditFrame_kept
    | with_reducible apply State.order_kept
    | with_reducible apply State.rejectFrame_kept
    | with_reducible apply State.takeBringup_kept
    | with_reducible apply State.takeCredit_kept
    | (intro x; refine (fun (hx : Kept msk ref x) => ?_) ?_; on_goal 1 => clear_value x)
    | (intro x; refine (fun (hx : Kept msk ref x.1) => ?_) ?_; on_goal 1 => clear_value x)
    | (intro x; refine (fun (hx : Kept msk ref x.2) => ?_) ?_; on_goal 1 => clear_value x)
    | (intro x; clear_value x)
    | lift_lets
    | dsimp only
    | with_reducible apply ite_kept
    | intro _ _ _
    | intro _ _
    | fail_if_no_progress (with_reducible refine mk_kept ?_ rfl rfl rfl rfl rfl rfl rfl hm)
    | (with_reducible refine mk_sized ?_ rfl rfl ?_ ?_ ?_ ?_ ?_ hm <;> first | with_reducible assumption | with_reducible rfl | (simp; done))
    | dsimp only [x]
    | split
    | with_reducible refine OKept.out ‹_ = some _› ?_

theorem State.doFrameReceived_kept (s : State) (n : Nat) (h : LWord) (payload : List LWord) (crc k phi : Nat) (hs : Kept msk ref s) (hm : 26740694 &&& msk = 26740694) : Kept msk ref (State.doFrameReceived s n h payload crc k phi) := by
  unfold State.doFrameReceived
  repeat' first
    | with_reducible assumption
    | exact mask_sub hm rfl
    | with_reducible apply State.crcFailed_kept
    | with_reducible apply State.enterRealign_kept
    | with_reducible apply State.goodFrame_kept
    | with_reducible apply State.rejectFrame_kept
    | with_reducible apply State.rxAdvance_kept
    | with_reducible apply State.takeBringup_kept
    | with_reducible apply State.toCount_kept
    | (intro x; refine (fun (hx : Kept msk ref x) => ?_) ?_; on_goal 1 => clear_value x)
    | (intro x; refine (fun (hx : Kept msk ref x.1) => ?_) ?_; on_goal 1 => clear_value x)
    | (intro x; refine (fun (hx : Kept msk ref x.2) => ?_) ?_; on_goal 1 => clear_value x)
    | (intro x; clear_value x)
    | lift_lets
    | dsimp only
    | with_reducible apply ite_kept

theorem State.passUntil_kept (s : State) (f : RxHeld) (hs : Kept msk ref s) (hm : 26740694 &&& msk = 26740694) : Kept msk ref (State.passUntil s f) := by
  unfold State.passUntil
  repeat' first
    | with_reducible assumption
    | exact mask_sub hm rfl
    | with_reducible apply State.forEach_kept
    | with_reducible apply State.passOn_kept
    | dsimp only
    | with_reducible apply ite_kept
    | intro _ _ _
    | intro _ _
    | split

theorem State.doReorderTimeout_kept (s : State) (hs : Kept msk ref s) (hm : 26740694 &&& msk = 26740694) : Kept msk ref (State.doReorderTimeout s) := by
  unfold State.doReorderTimeout
  repeat' first
    | with_reducible assumption
    | exact mask_sub hm rfl
    | with_reducible apply State.flag_kept
    | with_reducible apply State.passHeld_kept
    | with_reducible apply State.passUntil_kept
    | with_reducible apply State.toCount_kept
    | (intro x; refine (fun (hx : Kept msk ref x) => ?_) ?_; on_goal 1 => clear_value x)
    | lift_lets
    | dsimp only
    | intro _ _ _
    | intro _ _
    | dsimp only [x]
    | split

end Sys2Proof.Machine
end

