-- ==== Sys2Proof/Laws/State.lean ====
section
/-! SUPPORT. The small lemmas of the state: what each plain update leaves of each part, true by unfolding. -/

namespace Sys2Proof.Machine

set_option Elab.async false

@[simp] theorem State.regPut_pending (s : State) (a : Nat) (w : Word) : (s.regPut a w).pending = s.pending := rfl
@[simp] theorem State.regPut_free (s : State) (a : Nat) (w : Word) : (s.regPut a w).free = s.free := rfl
@[simp] theorem State.regPut_banks (s : State) (a : Nat) (w : Word) : (s.regPut a w).banks = s.banks := rfl
@[simp] theorem State.regPut_clk (s : State) (a : Nat) (w : Word) : (s.regPut a w).clk = s.clk := rfl
@[simp] theorem State.regPut_ports (s : State) (a : Nat) (w : Word) : (s.regPut a w).ports = s.ports := rfl
@[simp] theorem State.regPut_tim (s : State) (a : Nat) (w : Word) : (s.regPut a w).tim = s.tim := rfl
@[simp] theorem State.regPut_lnk (s : State) (a : Nat) (w : Word) : (s.regPut a w).lnk = s.lnk := rfl
@[simp] theorem State.regPut_que (s : State) (a : Nat) (w : Word) : (s.regPut a w).que = s.que := rfl
@[simp] theorem State.regPut_fau (s : State) (a : Nat) (w : Word) : (s.regPut a w).fau = s.fau := rfl
@[simp] theorem State.regPut_prm (s : State) (a : Nat) (w : Word) : (s.regPut a w).prm = s.prm := rfl
@[simp] theorem State.regPut_stream (s : State) (a : Nat) (w : Word) : (s.regPut a w).stream = s.stream := rfl
@[simp] theorem State.regPut_plane (s : State) (a : Nat) (w : Word) : (s.regPut a w).plane = s.plane := rfl
@[simp] theorem State.regPut_regions (s : State) (a : Nat) (w : Word) : (s.regPut a w).regions = s.regions := rfl
@[simp] theorem State.regPut_chans (s : State) (a : Nat) (w : Word) : (s.regPut a w).chans = s.chans := rfl
@[simp] theorem State.regPut_feeds (s : State) (a : Nat) (w : Word) : (s.regPut a w).feeds = s.feeds := rfl
@[simp] theorem State.regPut_adc (s : State) (a : Nat) (w : Word) : (s.regPut a w).adc = s.adc := rfl
@[simp] theorem State.regPut_chn (s : State) (a : Nat) (w : Word) : (s.regPut a w).chn = s.chn := rfl
@[simp] theorem State.regPut_wch (s : State) (a : Nat) (w : Word) : (s.regPut a w).wch = s.wch := rfl
@[simp] theorem State.regPut_trg (s : State) (a : Nat) (w : Word) : (s.regPut a w).trg = s.trg := rfl
@[simp] theorem State.regPut_codec (s : State) (a : Nat) (w : Word) : (s.regPut a w).codec = s.codec := rfl
@[simp] theorem State.regPut_pmc (s : State) (a : Nat) (w : Word) : (s.regPut a w).pmc = s.pmc := rfl
@[simp] theorem State.regPut_sns (s : State) (a : Nat) (w : Word) : (s.regPut a w).sns = s.sns := rfl
@[simp] theorem State.regPut_saf (s : State) (a : Nat) (w : Word) : (s.regPut a w).saf = s.saf := rfl
@[simp] theorem State.regPut_book (s : State) (a : Nat) (w : Word) : (s.regPut a w).book = s.book := rfl
@[simp] theorem State.regPut_pwr (s : State) (a : Nat) (w : Word) : (s.regPut a w).pwr = s.pwr := rfl
@[simp] theorem State.regPut_start (s : State) (a : Nat) (w : Word) : (s.regPut a w).start = s.start := rfl
@[simp] theorem State.regPut_access (s : State) (a : Nat) (w : Word) : (s.regPut a w).access = s.access := rfl

@[simp] theorem State.wr_pending (s : State) (f : Fld) (i v : Nat) : (s.wr f i v).pending = s.pending := rfl
@[simp] theorem State.wr_free (s : State) (f : Fld) (i v : Nat) : (s.wr f i v).free = s.free := rfl
@[simp] theorem State.wr_banks (s : State) (f : Fld) (i v : Nat) : (s.wr f i v).banks = s.banks := rfl
@[simp] theorem State.wr_clk (s : State) (f : Fld) (i v : Nat) : (s.wr f i v).clk = s.clk := rfl
@[simp] theorem State.wr_ports (s : State) (f : Fld) (i v : Nat) : (s.wr f i v).ports = s.ports := rfl
@[simp] theorem State.wr_tim (s : State) (f : Fld) (i v : Nat) : (s.wr f i v).tim = s.tim := rfl
@[simp] theorem State.wr_lnk (s : State) (f : Fld) (i v : Nat) : (s.wr f i v).lnk = s.lnk := rfl
@[simp] theorem State.wr_que (s : State) (f : Fld) (i v : Nat) : (s.wr f i v).que = s.que := rfl
@[simp] theorem State.wr_fau (s : State) (f : Fld) (i v : Nat) : (s.wr f i v).fau = s.fau := rfl
@[simp] theorem State.wr_prm (s : State) (f : Fld) (i v : Nat) : (s.wr f i v).prm = s.prm := rfl
@[simp] theorem State.wr_stream (s : State) (f : Fld) (i v : Nat) : (s.wr f i v).stream = s.stream := rfl
@[simp] theorem State.wr_plane (s : State) (f : Fld) (i v : Nat) : (s.wr f i v).plane = s.plane := rfl
@[simp] theorem State.wr_regions (s : State) (f : Fld) (i v : Nat) : (s.wr f i v).regions = s.regions := rfl
@[simp] theorem State.wr_chans (s : State) (f : Fld) (i v : Nat) : (s.wr f i v).chans = s.chans := rfl
@[simp] theorem State.wr_feeds (s : State) (f : Fld) (i v : Nat) : (s.wr f i v).feeds = s.feeds := rfl
@[simp] theorem State.wr_adc (s : State) (f : Fld) (i v : Nat) : (s.wr f i v).adc = s.adc := rfl
@[simp] theorem State.wr_chn (s : State) (f : Fld) (i v : Nat) : (s.wr f i v).chn = s.chn := rfl
@[simp] theorem State.wr_wch (s : State) (f : Fld) (i v : Nat) : (s.wr f i v).wch = s.wch := rfl
@[simp] theorem State.wr_trg (s : State) (f : Fld) (i v : Nat) : (s.wr f i v).trg = s.trg := rfl
@[simp] theorem State.wr_codec (s : State) (f : Fld) (i v : Nat) : (s.wr f i v).codec = s.codec := rfl
@[simp] theorem State.wr_pmc (s : State) (f : Fld) (i v : Nat) : (s.wr f i v).pmc = s.pmc := rfl
@[simp] theorem State.wr_sns (s : State) (f : Fld) (i v : Nat) : (s.wr f i v).sns = s.sns := rfl
@[simp] theorem State.wr_saf (s : State) (f : Fld) (i v : Nat) : (s.wr f i v).saf = s.saf := rfl
@[simp] theorem State.wr_book (s : State) (f : Fld) (i v : Nat) : (s.wr f i v).book = s.book := rfl
@[simp] theorem State.wr_pwr (s : State) (f : Fld) (i v : Nat) : (s.wr f i v).pwr = s.pwr := rfl
@[simp] theorem State.wr_start (s : State) (f : Fld) (i v : Nat) : (s.wr f i v).start = s.start := rfl
@[simp] theorem State.wr_access (s : State) (f : Fld) (i v : Nat) : (s.wr f i v).access = s.access := rfl

@[simp] theorem State.wrB_pending (s : State) (f : Fld) (i : Nat) (b : Bool) : (s.wrB f i b).pending = s.pending := rfl
@[simp] theorem State.wrB_free (s : State) (f : Fld) (i : Nat) (b : Bool) : (s.wrB f i b).free = s.free := rfl
@[simp] theorem State.wrB_banks (s : State) (f : Fld) (i : Nat) (b : Bool) : (s.wrB f i b).banks = s.banks := rfl
@[simp] theorem State.wrB_clk (s : State) (f : Fld) (i : Nat) (b : Bool) : (s.wrB f i b).clk = s.clk := rfl
@[simp] theorem State.wrB_ports (s : State) (f : Fld) (i : Nat) (b : Bool) : (s.wrB f i b).ports = s.ports := rfl
@[simp] theorem State.wrB_tim (s : State) (f : Fld) (i : Nat) (b : Bool) : (s.wrB f i b).tim = s.tim := rfl
@[simp] theorem State.wrB_lnk (s : State) (f : Fld) (i : Nat) (b : Bool) : (s.wrB f i b).lnk = s.lnk := rfl
@[simp] theorem State.wrB_que (s : State) (f : Fld) (i : Nat) (b : Bool) : (s.wrB f i b).que = s.que := rfl
@[simp] theorem State.wrB_fau (s : State) (f : Fld) (i : Nat) (b : Bool) : (s.wrB f i b).fau = s.fau := rfl
@[simp] theorem State.wrB_prm (s : State) (f : Fld) (i : Nat) (b : Bool) : (s.wrB f i b).prm = s.prm := rfl
@[simp] theorem State.wrB_stream (s : State) (f : Fld) (i : Nat) (b : Bool) : (s.wrB f i b).stream = s.stream := rfl
@[simp] theorem State.wrB_plane (s : State) (f : Fld) (i : Nat) (b : Bool) : (s.wrB f i b).plane = s.plane := rfl
@[simp] theorem State.wrB_regions (s : State) (f : Fld) (i : Nat) (b : Bool) : (s.wrB f i b).regions = s.regions := rfl
@[simp] theorem State.wrB_chans (s : State) (f : Fld) (i : Nat) (b : Bool) : (s.wrB f i b).chans = s.chans := rfl
@[simp] theorem State.wrB_feeds (s : State) (f : Fld) (i : Nat) (b : Bool) : (s.wrB f i b).feeds = s.feeds := rfl
@[simp] theorem State.wrB_adc (s : State) (f : Fld) (i : Nat) (b : Bool) : (s.wrB f i b).adc = s.adc := rfl
@[simp] theorem State.wrB_chn (s : State) (f : Fld) (i : Nat) (b : Bool) : (s.wrB f i b).chn = s.chn := rfl
@[simp] theorem State.wrB_wch (s : State) (f : Fld) (i : Nat) (b : Bool) : (s.wrB f i b).wch = s.wch := rfl
@[simp] theorem State.wrB_trg (s : State) (f : Fld) (i : Nat) (b : Bool) : (s.wrB f i b).trg = s.trg := rfl
@[simp] theorem State.wrB_codec (s : State) (f : Fld) (i : Nat) (b : Bool) : (s.wrB f i b).codec = s.codec := rfl
@[simp] theorem State.wrB_pmc (s : State) (f : Fld) (i : Nat) (b : Bool) : (s.wrB f i b).pmc = s.pmc := rfl
@[simp] theorem State.wrB_sns (s : State) (f : Fld) (i : Nat) (b : Bool) : (s.wrB f i b).sns = s.sns := rfl
@[simp] theorem State.wrB_saf (s : State) (f : Fld) (i : Nat) (b : Bool) : (s.wrB f i b).saf = s.saf := rfl
@[simp] theorem State.wrB_book (s : State) (f : Fld) (i : Nat) (b : Bool) : (s.wrB f i b).book = s.book := rfl
@[simp] theorem State.wrB_pwr (s : State) (f : Fld) (i : Nat) (b : Bool) : (s.wrB f i b).pwr = s.pwr := rfl
@[simp] theorem State.wrB_start (s : State) (f : Fld) (i : Nat) (b : Bool) : (s.wrB f i b).start = s.start := rfl
@[simp] theorem State.wrB_access (s : State) (f : Fld) (i : Nat) (b : Bool) : (s.wrB f i b).access = s.access := rfl

@[simp] theorem State.wrS_pending (s : State) (f : Fld) (i : Nat) (v : Int) : (s.wrS f i v).pending = s.pending := rfl
@[simp] theorem State.wrS_free (s : State) (f : Fld) (i : Nat) (v : Int) : (s.wrS f i v).free = s.free := rfl
@[simp] theorem State.wrS_banks (s : State) (f : Fld) (i : Nat) (v : Int) : (s.wrS f i v).banks = s.banks := rfl
@[simp] theorem State.wrS_clk (s : State) (f : Fld) (i : Nat) (v : Int) : (s.wrS f i v).clk = s.clk := rfl
@[simp] theorem State.wrS_ports (s : State) (f : Fld) (i : Nat) (v : Int) : (s.wrS f i v).ports = s.ports := rfl
@[simp] theorem State.wrS_tim (s : State) (f : Fld) (i : Nat) (v : Int) : (s.wrS f i v).tim = s.tim := rfl
@[simp] theorem State.wrS_lnk (s : State) (f : Fld) (i : Nat) (v : Int) : (s.wrS f i v).lnk = s.lnk := rfl
@[simp] theorem State.wrS_que (s : State) (f : Fld) (i : Nat) (v : Int) : (s.wrS f i v).que = s.que := rfl
@[simp] theorem State.wrS_fau (s : State) (f : Fld) (i : Nat) (v : Int) : (s.wrS f i v).fau = s.fau := rfl
@[simp] theorem State.wrS_prm (s : State) (f : Fld) (i : Nat) (v : Int) : (s.wrS f i v).prm = s.prm := rfl
@[simp] theorem State.wrS_stream (s : State) (f : Fld) (i : Nat) (v : Int) : (s.wrS f i v).stream = s.stream := rfl
@[simp] theorem State.wrS_plane (s : State) (f : Fld) (i : Nat) (v : Int) : (s.wrS f i v).plane = s.plane := rfl
@[simp] theorem State.wrS_regions (s : State) (f : Fld) (i : Nat) (v : Int) : (s.wrS f i v).regions = s.regions := rfl
@[simp] theorem State.wrS_chans (s : State) (f : Fld) (i : Nat) (v : Int) : (s.wrS f i v).chans = s.chans := rfl
@[simp] theorem State.wrS_feeds (s : State) (f : Fld) (i : Nat) (v : Int) : (s.wrS f i v).feeds = s.feeds := rfl
@[simp] theorem State.wrS_adc (s : State) (f : Fld) (i : Nat) (v : Int) : (s.wrS f i v).adc = s.adc := rfl
@[simp] theorem State.wrS_chn (s : State) (f : Fld) (i : Nat) (v : Int) : (s.wrS f i v).chn = s.chn := rfl
@[simp] theorem State.wrS_wch (s : State) (f : Fld) (i : Nat) (v : Int) : (s.wrS f i v).wch = s.wch := rfl
@[simp] theorem State.wrS_trg (s : State) (f : Fld) (i : Nat) (v : Int) : (s.wrS f i v).trg = s.trg := rfl
@[simp] theorem State.wrS_codec (s : State) (f : Fld) (i : Nat) (v : Int) : (s.wrS f i v).codec = s.codec := rfl
@[simp] theorem State.wrS_pmc (s : State) (f : Fld) (i : Nat) (v : Int) : (s.wrS f i v).pmc = s.pmc := rfl
@[simp] theorem State.wrS_sns (s : State) (f : Fld) (i : Nat) (v : Int) : (s.wrS f i v).sns = s.sns := rfl
@[simp] theorem State.wrS_saf (s : State) (f : Fld) (i : Nat) (v : Int) : (s.wrS f i v).saf = s.saf := rfl
@[simp] theorem State.wrS_book (s : State) (f : Fld) (i : Nat) (v : Int) : (s.wrS f i v).book = s.book := rfl
@[simp] theorem State.wrS_pwr (s : State) (f : Fld) (i : Nat) (v : Int) : (s.wrS f i v).pwr = s.pwr := rfl
@[simp] theorem State.wrS_start (s : State) (f : Fld) (i : Nat) (v : Int) : (s.wrS f i v).start = s.start := rfl
@[simp] theorem State.wrS_access (s : State) (f : Fld) (i : Nat) (v : Int) : (s.wrS f i v).access = s.access := rfl

@[simp] theorem State.flag_pending (s : State) (a k : Nat) : (s.flag a k).pending = s.pending := rfl
@[simp] theorem State.flag_free (s : State) (a k : Nat) : (s.flag a k).free = s.free := rfl
@[simp] theorem State.flag_banks (s : State) (a k : Nat) : (s.flag a k).banks = s.banks := rfl
@[simp] theorem State.flag_clk (s : State) (a k : Nat) : (s.flag a k).clk = s.clk := rfl
@[simp] theorem State.flag_ports (s : State) (a k : Nat) : (s.flag a k).ports = s.ports := rfl
@[simp] theorem State.flag_tim (s : State) (a k : Nat) : (s.flag a k).tim = s.tim := rfl
@[simp] theorem State.flag_lnk (s : State) (a k : Nat) : (s.flag a k).lnk = s.lnk := rfl
@[simp] theorem State.flag_que (s : State) (a k : Nat) : (s.flag a k).que = s.que := rfl
@[simp] theorem State.flag_fau (s : State) (a k : Nat) : (s.flag a k).fau = s.fau := rfl
@[simp] theorem State.flag_prm (s : State) (a k : Nat) : (s.flag a k).prm = s.prm := rfl
@[simp] theorem State.flag_stream (s : State) (a k : Nat) : (s.flag a k).stream = s.stream := rfl
@[simp] theorem State.flag_plane (s : State) (a k : Nat) : (s.flag a k).plane = s.plane := rfl
@[simp] theorem State.flag_regions (s : State) (a k : Nat) : (s.flag a k).regions = s.regions := rfl
@[simp] theorem State.flag_chans (s : State) (a k : Nat) : (s.flag a k).chans = s.chans := rfl
@[simp] theorem State.flag_feeds (s : State) (a k : Nat) : (s.flag a k).feeds = s.feeds := rfl
@[simp] theorem State.flag_adc (s : State) (a k : Nat) : (s.flag a k).adc = s.adc := rfl
@[simp] theorem State.flag_chn (s : State) (a k : Nat) : (s.flag a k).chn = s.chn := rfl
@[simp] theorem State.flag_wch (s : State) (a k : Nat) : (s.flag a k).wch = s.wch := rfl
@[simp] theorem State.flag_trg (s : State) (a k : Nat) : (s.flag a k).trg = s.trg := rfl
@[simp] theorem State.flag_codec (s : State) (a k : Nat) : (s.flag a k).codec = s.codec := rfl
@[simp] theorem State.flag_pmc (s : State) (a k : Nat) : (s.flag a k).pmc = s.pmc := rfl
@[simp] theorem State.flag_sns (s : State) (a k : Nat) : (s.flag a k).sns = s.sns := rfl
@[simp] theorem State.flag_saf (s : State) (a k : Nat) : (s.flag a k).saf = s.saf := rfl
@[simp] theorem State.flag_book (s : State) (a k : Nat) : (s.flag a k).book = s.book := rfl
@[simp] theorem State.flag_pwr (s : State) (a k : Nat) : (s.flag a k).pwr = s.pwr := rfl
@[simp] theorem State.flag_start (s : State) (a k : Nat) : (s.flag a k).start = s.start := rfl
@[simp] theorem State.flag_access (s : State) (a k : Nat) : (s.flag a k).access = s.access := rfl

@[simp] theorem State.satAdd_pending (s : State) (f : Fld) (i n : Nat) : (s.satAdd f i n).pending = s.pending := rfl
@[simp] theorem State.satAdd_free (s : State) (f : Fld) (i n : Nat) : (s.satAdd f i n).free = s.free := rfl
@[simp] theorem State.satAdd_banks (s : State) (f : Fld) (i n : Nat) : (s.satAdd f i n).banks = s.banks := rfl
@[simp] theorem State.satAdd_clk (s : State) (f : Fld) (i n : Nat) : (s.satAdd f i n).clk = s.clk := rfl
@[simp] theorem State.satAdd_ports (s : State) (f : Fld) (i n : Nat) : (s.satAdd f i n).ports = s.ports := rfl
@[simp] theorem State.satAdd_tim (s : State) (f : Fld) (i n : Nat) : (s.satAdd f i n).tim = s.tim := rfl
@[simp] theorem State.satAdd_lnk (s : State) (f : Fld) (i n : Nat) : (s.satAdd f i n).lnk = s.lnk := rfl
@[simp] theorem State.satAdd_que (s : State) (f : Fld) (i n : Nat) : (s.satAdd f i n).que = s.que := rfl
@[simp] theorem State.satAdd_fau (s : State) (f : Fld) (i n : Nat) : (s.satAdd f i n).fau = s.fau := rfl
@[simp] theorem State.satAdd_prm (s : State) (f : Fld) (i n : Nat) : (s.satAdd f i n).prm = s.prm := rfl
@[simp] theorem State.satAdd_stream (s : State) (f : Fld) (i n : Nat) : (s.satAdd f i n).stream = s.stream := rfl
@[simp] theorem State.satAdd_plane (s : State) (f : Fld) (i n : Nat) : (s.satAdd f i n).plane = s.plane := rfl
@[simp] theorem State.satAdd_regions (s : State) (f : Fld) (i n : Nat) : (s.satAdd f i n).regions = s.regions := rfl
@[simp] theorem State.satAdd_chans (s : State) (f : Fld) (i n : Nat) : (s.satAdd f i n).chans = s.chans := rfl
@[simp] theorem State.satAdd_feeds (s : State) (f : Fld) (i n : Nat) : (s.satAdd f i n).feeds = s.feeds := rfl
@[simp] theorem State.satAdd_adc (s : State) (f : Fld) (i n : Nat) : (s.satAdd f i n).adc = s.adc := rfl
@[simp] theorem State.satAdd_chn (s : State) (f : Fld) (i n : Nat) : (s.satAdd f i n).chn = s.chn := rfl
@[simp] theorem State.satAdd_wch (s : State) (f : Fld) (i n : Nat) : (s.satAdd f i n).wch = s.wch := rfl
@[simp] theorem State.satAdd_trg (s : State) (f : Fld) (i n : Nat) : (s.satAdd f i n).trg = s.trg := rfl
@[simp] theorem State.satAdd_codec (s : State) (f : Fld) (i n : Nat) : (s.satAdd f i n).codec = s.codec := rfl
@[simp] theorem State.satAdd_pmc (s : State) (f : Fld) (i n : Nat) : (s.satAdd f i n).pmc = s.pmc := rfl
@[simp] theorem State.satAdd_sns (s : State) (f : Fld) (i n : Nat) : (s.satAdd f i n).sns = s.sns := rfl
@[simp] theorem State.satAdd_saf (s : State) (f : Fld) (i n : Nat) : (s.satAdd f i n).saf = s.saf := rfl
@[simp] theorem State.satAdd_book (s : State) (f : Fld) (i n : Nat) : (s.satAdd f i n).book = s.book := rfl
@[simp] theorem State.satAdd_pwr (s : State) (f : Fld) (i n : Nat) : (s.satAdd f i n).pwr = s.pwr := rfl
@[simp] theorem State.satAdd_start (s : State) (f : Fld) (i n : Nat) : (s.satAdd f i n).start = s.start := rfl
@[simp] theorem State.satAdd_access (s : State) (f : Fld) (i n : Nat) : (s.satAdd f i n).access = s.access := rfl

@[simp] theorem State.pass_pending (s : State) (n : Nat) : (s.pass n).pending = s.pending := rfl
@[simp] theorem State.pass_free (s : State) (n : Nat) : (s.pass n).free = s.free := rfl
@[simp] theorem State.pass_regs (s : State) (n : Nat) : (s.pass n).regs = s.regs := rfl
@[simp] theorem State.pass_banks (s : State) (n : Nat) : (s.pass n).banks = s.banks := rfl
@[simp] theorem State.pass_ports (s : State) (n : Nat) : (s.pass n).ports = s.ports := rfl
@[simp] theorem State.pass_tim (s : State) (n : Nat) : (s.pass n).tim = s.tim := rfl
@[simp] theorem State.pass_lnk (s : State) (n : Nat) : (s.pass n).lnk = s.lnk := rfl
@[simp] theorem State.pass_que (s : State) (n : Nat) : (s.pass n).que = s.que := rfl
@[simp] theorem State.pass_fau (s : State) (n : Nat) : (s.pass n).fau = s.fau := rfl
@[simp] theorem State.pass_prm (s : State) (n : Nat) : (s.pass n).prm = s.prm := rfl
@[simp] theorem State.pass_stream (s : State) (n : Nat) : (s.pass n).stream = s.stream := rfl
@[simp] theorem State.pass_plane (s : State) (n : Nat) : (s.pass n).plane = s.plane := rfl
@[simp] theorem State.pass_regions (s : State) (n : Nat) : (s.pass n).regions = s.regions := rfl
@[simp] theorem State.pass_chans (s : State) (n : Nat) : (s.pass n).chans = s.chans := rfl
@[simp] theorem State.pass_feeds (s : State) (n : Nat) : (s.pass n).feeds = s.feeds := rfl
@[simp] theorem State.pass_adc (s : State) (n : Nat) : (s.pass n).adc = s.adc := rfl
@[simp] theorem State.pass_chn (s : State) (n : Nat) : (s.pass n).chn = s.chn := rfl
@[simp] theorem State.pass_wch (s : State) (n : Nat) : (s.pass n).wch = s.wch := rfl
@[simp] theorem State.pass_trg (s : State) (n : Nat) : (s.pass n).trg = s.trg := rfl
@[simp] theorem State.pass_codec (s : State) (n : Nat) : (s.pass n).codec = s.codec := rfl
@[simp] theorem State.pass_pmc (s : State) (n : Nat) : (s.pass n).pmc = s.pmc := rfl
@[simp] theorem State.pass_sns (s : State) (n : Nat) : (s.pass n).sns = s.sns := rfl
@[simp] theorem State.pass_saf (s : State) (n : Nat) : (s.pass n).saf = s.saf := rfl
@[simp] theorem State.pass_book (s : State) (n : Nat) : (s.pass n).book = s.book := rfl
@[simp] theorem State.pass_pwr (s : State) (n : Nat) : (s.pass n).pwr = s.pwr := rfl
@[simp] theorem State.pass_start (s : State) (n : Nat) : (s.pass n).start = s.start := rfl
@[simp] theorem State.pass_access (s : State) (n : Nat) : (s.pass n).access = s.access := rfl

@[simp] theorem State.onQueue_pending (s : State) (q : Nat) (f : Queue → Queue) : (s.onQueue q f).pending = s.pending := rfl
@[simp] theorem State.onQueue_free (s : State) (q : Nat) (f : Queue → Queue) : (s.onQueue q f).free = s.free := rfl
@[simp] theorem State.onQueue_regs (s : State) (q : Nat) (f : Queue → Queue) : (s.onQueue q f).regs = s.regs := rfl
@[simp] theorem State.onQueue_banks (s : State) (q : Nat) (f : Queue → Queue) : (s.onQueue q f).banks = s.banks := rfl
@[simp] theorem State.onQueue_clk (s : State) (q : Nat) (f : Queue → Queue) : (s.onQueue q f).clk = s.clk := rfl
@[simp] theorem State.onQueue_ports (s : State) (q : Nat) (f : Queue → Queue) : (s.onQueue q f).ports = s.ports := rfl
@[simp] theorem State.onQueue_tim (s : State) (q : Nat) (f : Queue → Queue) : (s.onQueue q f).tim = s.tim := rfl
@[simp] theorem State.onQueue_lnk (s : State) (q : Nat) (f : Queue → Queue) : (s.onQueue q f).lnk = s.lnk := rfl
@[simp] theorem State.onQueue_fau (s : State) (q : Nat) (f : Queue → Queue) : (s.onQueue q f).fau = s.fau := rfl
@[simp] theorem State.onQueue_prm (s : State) (q : Nat) (f : Queue → Queue) : (s.onQueue q f).prm = s.prm := rfl
@[simp] theorem State.onQueue_stream (s : State) (q : Nat) (f : Queue → Queue) : (s.onQueue q f).stream = s.stream := rfl
@[simp] theorem State.onQueue_plane (s : State) (q : Nat) (f : Queue → Queue) : (s.onQueue q f).plane = s.plane := rfl
@[simp] theorem State.onQueue_regions (s : State) (q : Nat) (f : Queue → Queue) : (s.onQueue q f).regions = s.regions := rfl
@[simp] theorem State.onQueue_chans (s : State) (q : Nat) (f : Queue → Queue) : (s.onQueue q f).chans = s.chans := rfl
@[simp] theorem State.onQueue_feeds (s : State) (q : Nat) (f : Queue → Queue) : (s.onQueue q f).feeds = s.feeds := rfl
@[simp] theorem State.onQueue_adc (s : State) (q : Nat) (f : Queue → Queue) : (s.onQueue q f).adc = s.adc := rfl
@[simp] theorem State.onQueue_chn (s : State) (q : Nat) (f : Queue → Queue) : (s.onQueue q f).chn = s.chn := rfl
@[simp] theorem State.onQueue_wch (s : State) (q : Nat) (f : Queue → Queue) : (s.onQueue q f).wch = s.wch := rfl
@[simp] theorem State.onQueue_trg (s : State) (q : Nat) (f : Queue → Queue) : (s.onQueue q f).trg = s.trg := rfl
@[simp] theorem State.onQueue_codec (s : State) (q : Nat) (f : Queue → Queue) : (s.onQueue q f).codec = s.codec := rfl
@[simp] theorem State.onQueue_pmc (s : State) (q : Nat) (f : Queue → Queue) : (s.onQueue q f).pmc = s.pmc := rfl
@[simp] theorem State.onQueue_sns (s : State) (q : Nat) (f : Queue → Queue) : (s.onQueue q f).sns = s.sns := rfl
@[simp] theorem State.onQueue_saf (s : State) (q : Nat) (f : Queue → Queue) : (s.onQueue q f).saf = s.saf := rfl
@[simp] theorem State.onQueue_book (s : State) (q : Nat) (f : Queue → Queue) : (s.onQueue q f).book = s.book := rfl
@[simp] theorem State.onQueue_pwr (s : State) (q : Nat) (f : Queue → Queue) : (s.onQueue q f).pwr = s.pwr := rfl
@[simp] theorem State.onQueue_start (s : State) (q : Nat) (f : Queue → Queue) : (s.onQueue q f).start = s.start := rfl
@[simp] theorem State.onQueue_access (s : State) (q : Nat) (f : Queue → Queue) : (s.onQueue q f).access = s.access := rfl

@[simp] theorem State.onInc_pending (s : State) (e : Nat) (f : Incident → Incident) : (s.onInc e f).pending = s.pending := rfl
@[simp] theorem State.onInc_free (s : State) (e : Nat) (f : Incident → Incident) : (s.onInc e f).free = s.free := rfl
@[simp] theorem State.onInc_regs (s : State) (e : Nat) (f : Incident → Incident) : (s.onInc e f).regs = s.regs := rfl
@[simp] theorem State.onInc_banks (s : State) (e : Nat) (f : Incident → Incident) : (s.onInc e f).banks = s.banks := rfl
@[simp] theorem State.onInc_clk (s : State) (e : Nat) (f : Incident → Incident) : (s.onInc e f).clk = s.clk := rfl
@[simp] theorem State.onInc_ports (s : State) (e : Nat) (f : Incident → Incident) : (s.onInc e f).ports = s.ports := rfl
@[simp] theorem State.onInc_tim (s : State) (e : Nat) (f : Incident → Incident) : (s.onInc e f).tim = s.tim := rfl
@[simp] theorem State.onInc_lnk (s : State) (e : Nat) (f : Incident → Incident) : (s.onInc e f).lnk = s.lnk := rfl
@[simp] theorem State.onInc_que (s : State) (e : Nat) (f : Incident → Incident) : (s.onInc e f).que = s.que := rfl
@[simp] theorem State.onInc_prm (s : State) (e : Nat) (f : Incident → Incident) : (s.onInc e f).prm = s.prm := rfl
@[simp] theorem State.onInc_stream (s : State) (e : Nat) (f : Incident → Incident) : (s.onInc e f).stream = s.stream := rfl
@[simp] theorem State.onInc_plane (s : State) (e : Nat) (f : Incident → Incident) : (s.onInc e f).plane = s.plane := rfl
@[simp] theorem State.onInc_regions (s : State) (e : Nat) (f : Incident → Incident) : (s.onInc e f).regions = s.regions := rfl
@[simp] theorem State.onInc_chans (s : State) (e : Nat) (f : Incident → Incident) : (s.onInc e f).chans = s.chans := rfl
@[simp] theorem State.onInc_feeds (s : State) (e : Nat) (f : Incident → Incident) : (s.onInc e f).feeds = s.feeds := rfl
@[simp] theorem State.onInc_adc (s : State) (e : Nat) (f : Incident → Incident) : (s.onInc e f).adc = s.adc := rfl
@[simp] theorem State.onInc_chn (s : State) (e : Nat) (f : Incident → Incident) : (s.onInc e f).chn = s.chn := rfl
@[simp] theorem State.onInc_wch (s : State) (e : Nat) (f : Incident → Incident) : (s.onInc e f).wch = s.wch := rfl
@[simp] theorem State.onInc_trg (s : State) (e : Nat) (f : Incident → Incident) : (s.onInc e f).trg = s.trg := rfl
@[simp] theorem State.onInc_codec (s : State) (e : Nat) (f : Incident → Incident) : (s.onInc e f).codec = s.codec := rfl
@[simp] theorem State.onInc_pmc (s : State) (e : Nat) (f : Incident → Incident) : (s.onInc e f).pmc = s.pmc := rfl
@[simp] theorem State.onInc_sns (s : State) (e : Nat) (f : Incident → Incident) : (s.onInc e f).sns = s.sns := rfl
@[simp] theorem State.onInc_saf (s : State) (e : Nat) (f : Incident → Incident) : (s.onInc e f).saf = s.saf := rfl
@[simp] theorem State.onInc_book (s : State) (e : Nat) (f : Incident → Incident) : (s.onInc e f).book = s.book := rfl
@[simp] theorem State.onInc_pwr (s : State) (e : Nat) (f : Incident → Incident) : (s.onInc e f).pwr = s.pwr := rfl
@[simp] theorem State.onInc_start (s : State) (e : Nat) (f : Incident → Incident) : (s.onInc e f).start = s.start := rfl
@[simp] theorem State.onInc_access (s : State) (e : Nat) (f : Incident → Incident) : (s.onInc e f).access = s.access := rfl
@[simp] theorem State.onInc_fau (s : State) (e : Nat) (f : Incident → Incident) : (s.onInc e f).fau = { s.fau with inc := s.fau.inc.modify e f } := rfl

@[simp] theorem State.onChan_pending (s : State) (ch : Nat) (f : Chan → Chan) : (s.onChan ch f).pending = s.pending := rfl
@[simp] theorem State.onChan_free (s : State) (ch : Nat) (f : Chan → Chan) : (s.onChan ch f).free = s.free := rfl
@[simp] theorem State.onChan_regs (s : State) (ch : Nat) (f : Chan → Chan) : (s.onChan ch f).regs = s.regs := rfl
@[simp] theorem State.onChan_banks (s : State) (ch : Nat) (f : Chan → Chan) : (s.onChan ch f).banks = s.banks := rfl
@[simp] theorem State.onChan_clk (s : State) (ch : Nat) (f : Chan → Chan) : (s.onChan ch f).clk = s.clk := rfl
@[simp] theorem State.onChan_ports (s : State) (ch : Nat) (f : Chan → Chan) : (s.onChan ch f).ports = s.ports := rfl
@[simp] theorem State.onChan_tim (s : State) (ch : Nat) (f : Chan → Chan) : (s.onChan ch f).tim = s.tim := rfl
@[simp] theorem State.onChan_lnk (s : State) (ch : Nat) (f : Chan → Chan) : (s.onChan ch f).lnk = s.lnk := rfl
@[simp] theorem State.onChan_que (s : State) (ch : Nat) (f : Chan → Chan) : (s.onChan ch f).que = s.que := rfl
@[simp] theorem State.onChan_fau (s : State) (ch : Nat) (f : Chan → Chan) : (s.onChan ch f).fau = s.fau := rfl
@[simp] theorem State.onChan_prm (s : State) (ch : Nat) (f : Chan → Chan) : (s.onChan ch f).prm = s.prm := rfl
@[simp] theorem State.onChan_stream (s : State) (ch : Nat) (f : Chan → Chan) : (s.onChan ch f).stream = s.stream := rfl
@[simp] theorem State.onChan_plane (s : State) (ch : Nat) (f : Chan → Chan) : (s.onChan ch f).plane = s.plane := rfl
@[simp] theorem State.onChan_regions (s : State) (ch : Nat) (f : Chan → Chan) : (s.onChan ch f).regions = s.regions := rfl
@[simp] theorem State.onChan_feeds (s : State) (ch : Nat) (f : Chan → Chan) : (s.onChan ch f).feeds = s.feeds := rfl
@[simp] theorem State.onChan_adc (s : State) (ch : Nat) (f : Chan → Chan) : (s.onChan ch f).adc = s.adc := rfl
@[simp] theorem State.onChan_chn (s : State) (ch : Nat) (f : Chan → Chan) : (s.onChan ch f).chn = s.chn := rfl
@[simp] theorem State.onChan_wch (s : State) (ch : Nat) (f : Chan → Chan) : (s.onChan ch f).wch = s.wch := rfl
@[simp] theorem State.onChan_trg (s : State) (ch : Nat) (f : Chan → Chan) : (s.onChan ch f).trg = s.trg := rfl
@[simp] theorem State.onChan_codec (s : State) (ch : Nat) (f : Chan → Chan) : (s.onChan ch f).codec = s.codec := rfl
@[simp] theorem State.onChan_pmc (s : State) (ch : Nat) (f : Chan → Chan) : (s.onChan ch f).pmc = s.pmc := rfl
@[simp] theorem State.onChan_sns (s : State) (ch : Nat) (f : Chan → Chan) : (s.onChan ch f).sns = s.sns := rfl
@[simp] theorem State.onChan_saf (s : State) (ch : Nat) (f : Chan → Chan) : (s.onChan ch f).saf = s.saf := rfl
@[simp] theorem State.onChan_book (s : State) (ch : Nat) (f : Chan → Chan) : (s.onChan ch f).book = s.book := rfl
@[simp] theorem State.onChan_pwr (s : State) (ch : Nat) (f : Chan → Chan) : (s.onChan ch f).pwr = s.pwr := rfl
@[simp] theorem State.onChan_start (s : State) (ch : Nat) (f : Chan → Chan) : (s.onChan ch f).start = s.start := rfl
@[simp] theorem State.onChan_access (s : State) (ch : Nat) (f : Chan → Chan) : (s.onChan ch f).access = s.access := rfl
@[simp] theorem State.onChan_chans (s : State) (ch : Nat) (f : Chan → Chan) : (s.onChan ch f).chans = s.chans.modify ch f := rfl

@[simp] theorem State.onRegion_pending (s : State) (r : Nat) (f : Region → Region) : (s.onRegion r f).pending = s.pending := rfl
@[simp] theorem State.onRegion_free (s : State) (r : Nat) (f : Region → Region) : (s.onRegion r f).free = s.free := rfl
@[simp] theorem State.onRegion_regs (s : State) (r : Nat) (f : Region → Region) : (s.onRegion r f).regs = s.regs := rfl
@[simp] theorem State.onRegion_banks (s : State) (r : Nat) (f : Region → Region) : (s.onRegion r f).banks = s.banks := rfl
@[simp] theorem State.onRegion_clk (s : State) (r : Nat) (f : Region → Region) : (s.onRegion r f).clk = s.clk := rfl
@[simp] theorem State.onRegion_ports (s : State) (r : Nat) (f : Region → Region) : (s.onRegion r f).ports = s.ports := rfl
@[simp] theorem State.onRegion_tim (s : State) (r : Nat) (f : Region → Region) : (s.onRegion r f).tim = s.tim := rfl
@[simp] theorem State.onRegion_lnk (s : State) (r : Nat) (f : Region → Region) : (s.onRegion r f).lnk = s.lnk := rfl
@[simp] theorem State.onRegion_que (s : State) (r : Nat) (f : Region → Region) : (s.onRegion r f).que = s.que := rfl
@[simp] theorem State.onRegion_fau (s : State) (r : Nat) (f : Region → Region) : (s.onRegion r f).fau = s.fau := rfl
@[simp] theorem State.onRegion_prm (s : State) (r : Nat) (f : Region → Region) : (s.onRegion r f).prm = s.prm := rfl
@[simp] theorem State.onRegion_stream (s : State) (r : Nat) (f : Region → Region) : (s.onRegion r f).stream = s.stream := rfl
@[simp] theorem State.onRegion_plane (s : State) (r : Nat) (f : Region → Region) : (s.onRegion r f).plane = s.plane := rfl
@[simp] theorem State.onRegion_chans (s : State) (r : Nat) (f : Region → Region) : (s.onRegion r f).chans = s.chans := rfl
@[simp] theorem State.onRegion_feeds (s : State) (r : Nat) (f : Region → Region) : (s.onRegion r f).feeds = s.feeds := rfl
@[simp] theorem State.onRegion_adc (s : State) (r : Nat) (f : Region → Region) : (s.onRegion r f).adc = s.adc := rfl
@[simp] theorem State.onRegion_chn (s : State) (r : Nat) (f : Region → Region) : (s.onRegion r f).chn = s.chn := rfl
@[simp] theorem State.onRegion_wch (s : State) (r : Nat) (f : Region → Region) : (s.onRegion r f).wch = s.wch := rfl
@[simp] theorem State.onRegion_trg (s : State) (r : Nat) (f : Region → Region) : (s.onRegion r f).trg = s.trg := rfl
@[simp] theorem State.onRegion_codec (s : State) (r : Nat) (f : Region → Region) : (s.onRegion r f).codec = s.codec := rfl
@[simp] theorem State.onRegion_pmc (s : State) (r : Nat) (f : Region → Region) : (s.onRegion r f).pmc = s.pmc := rfl
@[simp] theorem State.onRegion_sns (s : State) (r : Nat) (f : Region → Region) : (s.onRegion r f).sns = s.sns := rfl
@[simp] theorem State.onRegion_saf (s : State) (r : Nat) (f : Region → Region) : (s.onRegion r f).saf = s.saf := rfl
@[simp] theorem State.onRegion_book (s : State) (r : Nat) (f : Region → Region) : (s.onRegion r f).book = s.book := rfl
@[simp] theorem State.onRegion_pwr (s : State) (r : Nat) (f : Region → Region) : (s.onRegion r f).pwr = s.pwr := rfl
@[simp] theorem State.onRegion_start (s : State) (r : Nat) (f : Region → Region) : (s.onRegion r f).start = s.start := rfl
@[simp] theorem State.onRegion_access (s : State) (r : Nat) (f : Region → Region) : (s.onRegion r f).access = s.access := rfl
@[simp] theorem State.onRegion_regions (s : State) (r : Nat) (f : Region → Region) : (s.onRegion r f).regions = s.regions.modify r f := rfl

@[simp] theorem State.onPlane_pending (s : State) (f : Plane → Plane) : (s.onPlane f).pending = s.pending := rfl
@[simp] theorem State.onPlane_free (s : State) (f : Plane → Plane) : (s.onPlane f).free = s.free := rfl
@[simp] theorem State.onPlane_regs (s : State) (f : Plane → Plane) : (s.onPlane f).regs = s.regs := rfl
@[simp] theorem State.onPlane_banks (s : State) (f : Plane → Plane) : (s.onPlane f).banks = s.banks := rfl
@[simp] theorem State.onPlane_clk (s : State) (f : Plane → Plane) : (s.onPlane f).clk = s.clk := rfl
@[simp] theorem State.onPlane_ports (s : State) (f : Plane → Plane) : (s.onPlane f).ports = s.ports := rfl
@[simp] theorem State.onPlane_tim (s : State) (f : Plane → Plane) : (s.onPlane f).tim = s.tim := rfl
@[simp] theorem State.onPlane_lnk (s : State) (f : Plane → Plane) : (s.onPlane f).lnk = s.lnk := rfl
@[simp] theorem State.onPlane_que (s : State) (f : Plane → Plane) : (s.onPlane f).que = s.que := rfl
@[simp] theorem State.onPlane_fau (s : State) (f : Plane → Plane) : (s.onPlane f).fau = s.fau := rfl
@[simp] theorem State.onPlane_prm (s : State) (f : Plane → Plane) : (s.onPlane f).prm = s.prm := rfl
@[simp] theorem State.onPlane_stream (s : State) (f : Plane → Plane) : (s.onPlane f).stream = s.stream := rfl
@[simp] theorem State.onPlane_regions (s : State) (f : Plane → Plane) : (s.onPlane f).regions = s.regions := rfl
@[simp] theorem State.onPlane_chans (s : State) (f : Plane → Plane) : (s.onPlane f).chans = s.chans := rfl
@[simp] theorem State.onPlane_feeds (s : State) (f : Plane → Plane) : (s.onPlane f).feeds = s.feeds := rfl
@[simp] theorem State.onPlane_adc (s : State) (f : Plane → Plane) : (s.onPlane f).adc = s.adc := rfl
@[simp] theorem State.onPlane_chn (s : State) (f : Plane → Plane) : (s.onPlane f).chn = s.chn := rfl
@[simp] theorem State.onPlane_wch (s : State) (f : Plane → Plane) : (s.onPlane f).wch = s.wch := rfl
@[simp] theorem State.onPlane_trg (s : State) (f : Plane → Plane) : (s.onPlane f).trg = s.trg := rfl
@[simp] theorem State.onPlane_codec (s : State) (f : Plane → Plane) : (s.onPlane f).codec = s.codec := rfl
@[simp] theorem State.onPlane_pmc (s : State) (f : Plane → Plane) : (s.onPlane f).pmc = s.pmc := rfl
@[simp] theorem State.onPlane_sns (s : State) (f : Plane → Plane) : (s.onPlane f).sns = s.sns := rfl
@[simp] theorem State.onPlane_saf (s : State) (f : Plane → Plane) : (s.onPlane f).saf = s.saf := rfl
@[simp] theorem State.onPlane_book (s : State) (f : Plane → Plane) : (s.onPlane f).book = s.book := rfl
@[simp] theorem State.onPlane_pwr (s : State) (f : Plane → Plane) : (s.onPlane f).pwr = s.pwr := rfl
@[simp] theorem State.onPlane_start (s : State) (f : Plane → Plane) : (s.onPlane f).start = s.start := rfl
@[simp] theorem State.onPlane_access (s : State) (f : Plane → Plane) : (s.onPlane f).access = s.access := rfl
@[simp] theorem State.onPlane_plane (s : State) (f : Plane → Plane) : (s.onPlane f).plane = f s.plane := rfl

@[simp] theorem State.onFeeds_pending (s : State) (f : Feeds → Feeds) : (s.onFeeds f).pending = s.pending := rfl
@[simp] theorem State.onFeeds_free (s : State) (f : Feeds → Feeds) : (s.onFeeds f).free = s.free := rfl
@[simp] theorem State.onFeeds_regs (s : State) (f : Feeds → Feeds) : (s.onFeeds f).regs = s.regs := rfl
@[simp] theorem State.onFeeds_banks (s : State) (f : Feeds → Feeds) : (s.onFeeds f).banks = s.banks := rfl
@[simp] theorem State.onFeeds_clk (s : State) (f : Feeds → Feeds) : (s.onFeeds f).clk = s.clk := rfl
@[simp] theorem State.onFeeds_ports (s : State) (f : Feeds → Feeds) : (s.onFeeds f).ports = s.ports := rfl
@[simp] theorem State.onFeeds_tim (s : State) (f : Feeds → Feeds) : (s.onFeeds f).tim = s.tim := rfl
@[simp] theorem State.onFeeds_lnk (s : State) (f : Feeds → Feeds) : (s.onFeeds f).lnk = s.lnk := rfl
@[simp] theorem State.onFeeds_que (s : State) (f : Feeds → Feeds) : (s.onFeeds f).que = s.que := rfl
@[simp] theorem State.onFeeds_fau (s : State) (f : Feeds → Feeds) : (s.onFeeds f).fau = s.fau := rfl
@[simp] theorem State.onFeeds_prm (s : State) (f : Feeds → Feeds) : (s.onFeeds f).prm = s.prm := rfl
@[simp] theorem State.onFeeds_stream (s : State) (f : Feeds → Feeds) : (s.onFeeds f).stream = s.stream := rfl
@[simp] theorem State.onFeeds_plane (s : State) (f : Feeds → Feeds) : (s.onFeeds f).plane = s.plane := rfl
@[simp] theorem State.onFeeds_regions (s : State) (f : Feeds → Feeds) : (s.onFeeds f).regions = s.regions := rfl
@[simp] theorem State.onFeeds_chans (s : State) (f : Feeds → Feeds) : (s.onFeeds f).chans = s.chans := rfl
@[simp] theorem State.onFeeds_adc (s : State) (f : Feeds → Feeds) : (s.onFeeds f).adc = s.adc := rfl
@[simp] theorem State.onFeeds_chn (s : State) (f : Feeds → Feeds) : (s.onFeeds f).chn = s.chn := rfl
@[simp] theorem State.onFeeds_wch (s : State) (f : Feeds → Feeds) : (s.onFeeds f).wch = s.wch := rfl
@[simp] theorem State.onFeeds_trg (s : State) (f : Feeds → Feeds) : (s.onFeeds f).trg = s.trg := rfl
@[simp] theorem State.onFeeds_codec (s : State) (f : Feeds → Feeds) : (s.onFeeds f).codec = s.codec := rfl
@[simp] theorem State.onFeeds_pmc (s : State) (f : Feeds → Feeds) : (s.onFeeds f).pmc = s.pmc := rfl
@[simp] theorem State.onFeeds_sns (s : State) (f : Feeds → Feeds) : (s.onFeeds f).sns = s.sns := rfl
@[simp] theorem State.onFeeds_saf (s : State) (f : Feeds → Feeds) : (s.onFeeds f).saf = s.saf := rfl
@[simp] theorem State.onFeeds_book (s : State) (f : Feeds → Feeds) : (s.onFeeds f).book = s.book := rfl
@[simp] theorem State.onFeeds_pwr (s : State) (f : Feeds → Feeds) : (s.onFeeds f).pwr = s.pwr := rfl
@[simp] theorem State.onFeeds_start (s : State) (f : Feeds → Feeds) : (s.onFeeds f).start = s.start := rfl
@[simp] theorem State.onFeeds_access (s : State) (f : Feeds → Feeds) : (s.onFeeds f).access = s.access := rfl
@[simp] theorem State.onFeeds_feeds (s : State) (f : Feeds → Feeds) : (s.onFeeds f).feeds = f s.feeds := rfl

@[simp] theorem State.onFeed_pending (s : State) (a : Nat) (f : Feed → Feed) : (s.onFeed a f).pending = s.pending := rfl
@[simp] theorem State.onFeed_free (s : State) (a : Nat) (f : Feed → Feed) : (s.onFeed a f).free = s.free := rfl
@[simp] theorem State.onFeed_regs (s : State) (a : Nat) (f : Feed → Feed) : (s.onFeed a f).regs = s.regs := rfl
@[simp] theorem State.onFeed_banks (s : State) (a : Nat) (f : Feed → Feed) : (s.onFeed a f).banks = s.banks := rfl
@[simp] theorem State.onFeed_clk (s : State) (a : Nat) (f : Feed → Feed) : (s.onFeed a f).clk = s.clk := rfl
@[simp] theorem State.onFeed_ports (s : State) (a : Nat) (f : Feed → Feed) : (s.onFeed a f).ports = s.ports := rfl
@[simp] theorem State.onFeed_tim (s : State) (a : Nat) (f : Feed → Feed) : (s.onFeed a f).tim = s.tim := rfl
@[simp] theorem State.onFeed_lnk (s : State) (a : Nat) (f : Feed → Feed) : (s.onFeed a f).lnk = s.lnk := rfl
@[simp] theorem State.onFeed_que (s : State) (a : Nat) (f : Feed → Feed) : (s.onFeed a f).que = s.que := rfl
@[simp] theorem State.onFeed_fau (s : State) (a : Nat) (f : Feed → Feed) : (s.onFeed a f).fau = s.fau := rfl
@[simp] theorem State.onFeed_prm (s : State) (a : Nat) (f : Feed → Feed) : (s.onFeed a f).prm = s.prm := rfl
@[simp] theorem State.onFeed_stream (s : State) (a : Nat) (f : Feed → Feed) : (s.onFeed a f).stream = s.stream := rfl
@[simp] theorem State.onFeed_plane (s : State) (a : Nat) (f : Feed → Feed) : (s.onFeed a f).plane = s.plane := rfl
@[simp] theorem State.onFeed_regions (s : State) (a : Nat) (f : Feed → Feed) : (s.onFeed a f).regions = s.regions := rfl
@[simp] theorem State.onFeed_chans (s : State) (a : Nat) (f : Feed → Feed) : (s.onFeed a f).chans = s.chans := rfl
@[simp] theorem State.onFeed_adc (s : State) (a : Nat) (f : Feed → Feed) : (s.onFeed a f).adc = s.adc := rfl
@[simp] theorem State.onFeed_chn (s : State) (a : Nat) (f : Feed → Feed) : (s.onFeed a f).chn = s.chn := rfl
@[simp] theorem State.onFeed_wch (s : State) (a : Nat) (f : Feed → Feed) : (s.onFeed a f).wch = s.wch := rfl
@[simp] theorem State.onFeed_trg (s : State) (a : Nat) (f : Feed → Feed) : (s.onFeed a f).trg = s.trg := rfl
@[simp] theorem State.onFeed_codec (s : State) (a : Nat) (f : Feed → Feed) : (s.onFeed a f).codec = s.codec := rfl
@[simp] theorem State.onFeed_pmc (s : State) (a : Nat) (f : Feed → Feed) : (s.onFeed a f).pmc = s.pmc := rfl
@[simp] theorem State.onFeed_sns (s : State) (a : Nat) (f : Feed → Feed) : (s.onFeed a f).sns = s.sns := rfl
@[simp] theorem State.onFeed_saf (s : State) (a : Nat) (f : Feed → Feed) : (s.onFeed a f).saf = s.saf := rfl
@[simp] theorem State.onFeed_book (s : State) (a : Nat) (f : Feed → Feed) : (s.onFeed a f).book = s.book := rfl
@[simp] theorem State.onFeed_pwr (s : State) (a : Nat) (f : Feed → Feed) : (s.onFeed a f).pwr = s.pwr := rfl
@[simp] theorem State.onFeed_start (s : State) (a : Nat) (f : Feed → Feed) : (s.onFeed a f).start = s.start := rfl
@[simp] theorem State.onFeed_access (s : State) (a : Nat) (f : Feed → Feed) : (s.onFeed a f).access = s.access := rfl

@[simp] theorem State.onTrg_pending (s : State) (f : Trg → Trg) : (s.onTrg f).pending = s.pending := rfl
@[simp] theorem State.onTrg_free (s : State) (f : Trg → Trg) : (s.onTrg f).free = s.free := rfl
@[simp] theorem State.onTrg_regs (s : State) (f : Trg → Trg) : (s.onTrg f).regs = s.regs := rfl
@[simp] theorem State.onTrg_banks (s : State) (f : Trg → Trg) : (s.onTrg f).banks = s.banks := rfl
@[simp] theorem State.onTrg_clk (s : State) (f : Trg → Trg) : (s.onTrg f).clk = s.clk := rfl
@[simp] theorem State.onTrg_ports (s : State) (f : Trg → Trg) : (s.onTrg f).ports = s.ports := rfl
@[simp] theorem State.onTrg_tim (s : State) (f : Trg → Trg) : (s.onTrg f).tim = s.tim := rfl
@[simp] theorem State.onTrg_lnk (s : State) (f : Trg → Trg) : (s.onTrg f).lnk = s.lnk := rfl
@[simp] theorem State.onTrg_que (s : State) (f : Trg → Trg) : (s.onTrg f).que = s.que := rfl
@[simp] theorem State.onTrg_fau (s : State) (f : Trg → Trg) : (s.onTrg f).fau = s.fau := rfl
@[simp] theorem State.onTrg_prm (s : State) (f : Trg → Trg) : (s.onTrg f).prm = s.prm := rfl
@[simp] theorem State.onTrg_stream (s : State) (f : Trg → Trg) : (s.onTrg f).stream = s.stream := rfl
@[simp] theorem State.onTrg_plane (s : State) (f : Trg → Trg) : (s.onTrg f).plane = s.plane := rfl
@[simp] theorem State.onTrg_regions (s : State) (f : Trg → Trg) : (s.onTrg f).regions = s.regions := rfl
@[simp] theorem State.onTrg_chans (s : State) (f : Trg → Trg) : (s.onTrg f).chans = s.chans := rfl
@[simp] theorem State.onTrg_feeds (s : State) (f : Trg → Trg) : (s.onTrg f).feeds = s.feeds := rfl
@[simp] theorem State.onTrg_adc (s : State) (f : Trg → Trg) : (s.onTrg f).adc = s.adc := rfl
@[simp] theorem State.onTrg_chn (s : State) (f : Trg → Trg) : (s.onTrg f).chn = s.chn := rfl
@[simp] theorem State.onTrg_wch (s : State) (f : Trg → Trg) : (s.onTrg f).wch = s.wch := rfl
@[simp] theorem State.onTrg_codec (s : State) (f : Trg → Trg) : (s.onTrg f).codec = s.codec := rfl
@[simp] theorem State.onTrg_pmc (s : State) (f : Trg → Trg) : (s.onTrg f).pmc = s.pmc := rfl
@[simp] theorem State.onTrg_sns (s : State) (f : Trg → Trg) : (s.onTrg f).sns = s.sns := rfl
@[simp] theorem State.onTrg_saf (s : State) (f : Trg → Trg) : (s.onTrg f).saf = s.saf := rfl
@[simp] theorem State.onTrg_book (s : State) (f : Trg → Trg) : (s.onTrg f).book = s.book := rfl
@[simp] theorem State.onTrg_pwr (s : State) (f : Trg → Trg) : (s.onTrg f).pwr = s.pwr := rfl
@[simp] theorem State.onTrg_start (s : State) (f : Trg → Trg) : (s.onTrg f).start = s.start := rfl
@[simp] theorem State.onTrg_access (s : State) (f : Trg → Trg) : (s.onTrg f).access = s.access := rfl
@[simp] theorem State.onTrg_trg (s : State) (f : Trg → Trg) : (s.onTrg f).trg = f s.trg := rfl

@[simp] theorem State.onLnk_pending (s : State) (f : Lnk → Lnk) : (s.onLnk f).pending = s.pending := rfl
@[simp] theorem State.onLnk_free (s : State) (f : Lnk → Lnk) : (s.onLnk f).free = s.free := rfl
@[simp] theorem State.onLnk_regs (s : State) (f : Lnk → Lnk) : (s.onLnk f).regs = s.regs := rfl
@[simp] theorem State.onLnk_banks (s : State) (f : Lnk → Lnk) : (s.onLnk f).banks = s.banks := rfl
@[simp] theorem State.onLnk_clk (s : State) (f : Lnk → Lnk) : (s.onLnk f).clk = s.clk := rfl
@[simp] theorem State.onLnk_ports (s : State) (f : Lnk → Lnk) : (s.onLnk f).ports = s.ports := rfl
@[simp] theorem State.onLnk_tim (s : State) (f : Lnk → Lnk) : (s.onLnk f).tim = s.tim := rfl
@[simp] theorem State.onLnk_que (s : State) (f : Lnk → Lnk) : (s.onLnk f).que = s.que := rfl
@[simp] theorem State.onLnk_fau (s : State) (f : Lnk → Lnk) : (s.onLnk f).fau = s.fau := rfl
@[simp] theorem State.onLnk_prm (s : State) (f : Lnk → Lnk) : (s.onLnk f).prm = s.prm := rfl
@[simp] theorem State.onLnk_stream (s : State) (f : Lnk → Lnk) : (s.onLnk f).stream = s.stream := rfl
@[simp] theorem State.onLnk_plane (s : State) (f : Lnk → Lnk) : (s.onLnk f).plane = s.plane := rfl
@[simp] theorem State.onLnk_regions (s : State) (f : Lnk → Lnk) : (s.onLnk f).regions = s.regions := rfl
@[simp] theorem State.onLnk_chans (s : State) (f : Lnk → Lnk) : (s.onLnk f).chans = s.chans := rfl
@[simp] theorem State.onLnk_feeds (s : State) (f : Lnk → Lnk) : (s.onLnk f).feeds = s.feeds := rfl
@[simp] theorem State.onLnk_adc (s : State) (f : Lnk → Lnk) : (s.onLnk f).adc = s.adc := rfl
@[simp] theorem State.onLnk_chn (s : State) (f : Lnk → Lnk) : (s.onLnk f).chn = s.chn := rfl
@[simp] theorem State.onLnk_wch (s : State) (f : Lnk → Lnk) : (s.onLnk f).wch = s.wch := rfl
@[simp] theorem State.onLnk_trg (s : State) (f : Lnk → Lnk) : (s.onLnk f).trg = s.trg := rfl
@[simp] theorem State.onLnk_codec (s : State) (f : Lnk → Lnk) : (s.onLnk f).codec = s.codec := rfl
@[simp] theorem State.onLnk_pmc (s : State) (f : Lnk → Lnk) : (s.onLnk f).pmc = s.pmc := rfl
@[simp] theorem State.onLnk_sns (s : State) (f : Lnk → Lnk) : (s.onLnk f).sns = s.sns := rfl
@[simp] theorem State.onLnk_saf (s : State) (f : Lnk → Lnk) : (s.onLnk f).saf = s.saf := rfl
@[simp] theorem State.onLnk_book (s : State) (f : Lnk → Lnk) : (s.onLnk f).book = s.book := rfl
@[simp] theorem State.onLnk_pwr (s : State) (f : Lnk → Lnk) : (s.onLnk f).pwr = s.pwr := rfl
@[simp] theorem State.onLnk_start (s : State) (f : Lnk → Lnk) : (s.onLnk f).start = s.start := rfl
@[simp] theorem State.onLnk_access (s : State) (f : Lnk → Lnk) : (s.onLnk f).access = s.access := rfl
@[simp] theorem State.onLnk_lnk (s : State) (f : Lnk → Lnk) : (s.onLnk f).lnk = f s.lnk := rfl

@[simp] theorem State.onPrm_pending (s : State) (f : Prm → Prm) : (s.onPrm f).pending = s.pending := rfl
@[simp] theorem State.onPrm_free (s : State) (f : Prm → Prm) : (s.onPrm f).free = s.free := rfl
@[simp] theorem State.onPrm_regs (s : State) (f : Prm → Prm) : (s.onPrm f).regs = s.regs := rfl
@[simp] theorem State.onPrm_banks (s : State) (f : Prm → Prm) : (s.onPrm f).banks = s.banks := rfl
@[simp] theorem State.onPrm_clk (s : State) (f : Prm → Prm) : (s.onPrm f).clk = s.clk := rfl
@[simp] theorem State.onPrm_ports (s : State) (f : Prm → Prm) : (s.onPrm f).ports = s.ports := rfl
@[simp] theorem State.onPrm_tim (s : State) (f : Prm → Prm) : (s.onPrm f).tim = s.tim := rfl
@[simp] theorem State.onPrm_lnk (s : State) (f : Prm → Prm) : (s.onPrm f).lnk = s.lnk := rfl
@[simp] theorem State.onPrm_que (s : State) (f : Prm → Prm) : (s.onPrm f).que = s.que := rfl
@[simp] theorem State.onPrm_fau (s : State) (f : Prm → Prm) : (s.onPrm f).fau = s.fau := rfl
@[simp] theorem State.onPrm_stream (s : State) (f : Prm → Prm) : (s.onPrm f).stream = s.stream := rfl
@[simp] theorem State.onPrm_plane (s : State) (f : Prm → Prm) : (s.onPrm f).plane = s.plane := rfl
@[simp] theorem State.onPrm_regions (s : State) (f : Prm → Prm) : (s.onPrm f).regions = s.regions := rfl
@[simp] theorem State.onPrm_chans (s : State) (f : Prm → Prm) : (s.onPrm f).chans = s.chans := rfl
@[simp] theorem State.onPrm_feeds (s : State) (f : Prm → Prm) : (s.onPrm f).feeds = s.feeds := rfl
@[simp] theorem State.onPrm_adc (s : State) (f : Prm → Prm) : (s.onPrm f).adc = s.adc := rfl
@[simp] theorem State.onPrm_chn (s : State) (f : Prm → Prm) : (s.onPrm f).chn = s.chn := rfl
@[simp] theorem State.onPrm_wch (s : State) (f : Prm → Prm) : (s.onPrm f).wch = s.wch := rfl
@[simp] theorem State.onPrm_trg (s : State) (f : Prm → Prm) : (s.onPrm f).trg = s.trg := rfl
@[simp] theorem State.onPrm_codec (s : State) (f : Prm → Prm) : (s.onPrm f).codec = s.codec := rfl
@[simp] theorem State.onPrm_pmc (s : State) (f : Prm → Prm) : (s.onPrm f).pmc = s.pmc := rfl
@[simp] theorem State.onPrm_sns (s : State) (f : Prm → Prm) : (s.onPrm f).sns = s.sns := rfl
@[simp] theorem State.onPrm_saf (s : State) (f : Prm → Prm) : (s.onPrm f).saf = s.saf := rfl
@[simp] theorem State.onPrm_book (s : State) (f : Prm → Prm) : (s.onPrm f).book = s.book := rfl
@[simp] theorem State.onPrm_pwr (s : State) (f : Prm → Prm) : (s.onPrm f).pwr = s.pwr := rfl
@[simp] theorem State.onPrm_start (s : State) (f : Prm → Prm) : (s.onPrm f).start = s.start := rfl
@[simp] theorem State.onPrm_access (s : State) (f : Prm → Prm) : (s.onPrm f).access = s.access := rfl
@[simp] theorem State.onPrm_prm (s : State) (f : Prm → Prm) : (s.onPrm f).prm = f s.prm := rfl

@[simp] theorem State.onRing_pending (s : State) (r : Nat) (f : PRing → PRing) : (s.onRing r f).pending = s.pending := rfl
@[simp] theorem State.onRing_free (s : State) (r : Nat) (f : PRing → PRing) : (s.onRing r f).free = s.free := rfl
@[simp] theorem State.onRing_regs (s : State) (r : Nat) (f : PRing → PRing) : (s.onRing r f).regs = s.regs := rfl
@[simp] theorem State.onRing_banks (s : State) (r : Nat) (f : PRing → PRing) : (s.onRing r f).banks = s.banks := rfl
@[simp] theorem State.onRing_clk (s : State) (r : Nat) (f : PRing → PRing) : (s.onRing r f).clk = s.clk := rfl
@[simp] theorem State.onRing_ports (s : State) (r : Nat) (f : PRing → PRing) : (s.onRing r f).ports = s.ports := rfl
@[simp] theorem State.onRing_tim (s : State) (r : Nat) (f : PRing → PRing) : (s.onRing r f).tim = s.tim := rfl
@[simp] theorem State.onRing_lnk (s : State) (r : Nat) (f : PRing → PRing) : (s.onRing r f).lnk = s.lnk := rfl
@[simp] theorem State.onRing_que (s : State) (r : Nat) (f : PRing → PRing) : (s.onRing r f).que = s.que := rfl
@[simp] theorem State.onRing_fau (s : State) (r : Nat) (f : PRing → PRing) : (s.onRing r f).fau = s.fau := rfl
@[simp] theorem State.onRing_stream (s : State) (r : Nat) (f : PRing → PRing) : (s.onRing r f).stream = s.stream := rfl
@[simp] theorem State.onRing_plane (s : State) (r : Nat) (f : PRing → PRing) : (s.onRing r f).plane = s.plane := rfl
@[simp] theorem State.onRing_regions (s : State) (r : Nat) (f : PRing → PRing) : (s.onRing r f).regions = s.regions := rfl
@[simp] theorem State.onRing_chans (s : State) (r : Nat) (f : PRing → PRing) : (s.onRing r f).chans = s.chans := rfl
@[simp] theorem State.onRing_feeds (s : State) (r : Nat) (f : PRing → PRing) : (s.onRing r f).feeds = s.feeds := rfl
@[simp] theorem State.onRing_adc (s : State) (r : Nat) (f : PRing → PRing) : (s.onRing r f).adc = s.adc := rfl
@[simp] theorem State.onRing_chn (s : State) (r : Nat) (f : PRing → PRing) : (s.onRing r f).chn = s.chn := rfl
@[simp] theorem State.onRing_wch (s : State) (r : Nat) (f : PRing → PRing) : (s.onRing r f).wch = s.wch := rfl
@[simp] theorem State.onRing_trg (s : State) (r : Nat) (f : PRing → PRing) : (s.onRing r f).trg = s.trg := rfl
@[simp] theorem State.onRing_codec (s : State) (r : Nat) (f : PRing → PRing) : (s.onRing r f).codec = s.codec := rfl
@[simp] theorem State.onRing_pmc (s : State) (r : Nat) (f : PRing → PRing) : (s.onRing r f).pmc = s.pmc := rfl
@[simp] theorem State.onRing_sns (s : State) (r : Nat) (f : PRing → PRing) : (s.onRing r f).sns = s.sns := rfl
@[simp] theorem State.onRing_saf (s : State) (r : Nat) (f : PRing → PRing) : (s.onRing r f).saf = s.saf := rfl
@[simp] theorem State.onRing_book (s : State) (r : Nat) (f : PRing → PRing) : (s.onRing r f).book = s.book := rfl
@[simp] theorem State.onRing_pwr (s : State) (r : Nat) (f : PRing → PRing) : (s.onRing r f).pwr = s.pwr := rfl
@[simp] theorem State.onRing_start (s : State) (r : Nat) (f : PRing → PRing) : (s.onRing r f).start = s.start := rfl
@[simp] theorem State.onRing_access (s : State) (r : Nat) (f : PRing → PRing) : (s.onRing r f).access = s.access := rfl

@[simp] theorem State.onWch_pending (s : State) (f : Wch → Wch) : (s.onWch f).pending = s.pending := rfl
@[simp] theorem State.onWch_free (s : State) (f : Wch → Wch) : (s.onWch f).free = s.free := rfl
@[simp] theorem State.onWch_regs (s : State) (f : Wch → Wch) : (s.onWch f).regs = s.regs := rfl
@[simp] theorem State.onWch_banks (s : State) (f : Wch → Wch) : (s.onWch f).banks = s.banks := rfl
@[simp] theorem State.onWch_clk (s : State) (f : Wch → Wch) : (s.onWch f).clk = s.clk := rfl
@[simp] theorem State.onWch_ports (s : State) (f : Wch → Wch) : (s.onWch f).ports = s.ports := rfl
@[simp] theorem State.onWch_tim (s : State) (f : Wch → Wch) : (s.onWch f).tim = s.tim := rfl
@[simp] theorem State.onWch_lnk (s : State) (f : Wch → Wch) : (s.onWch f).lnk = s.lnk := rfl
@[simp] theorem State.onWch_que (s : State) (f : Wch → Wch) : (s.onWch f).que = s.que := rfl
@[simp] theorem State.onWch_fau (s : State) (f : Wch → Wch) : (s.onWch f).fau = s.fau := rfl
@[simp] theorem State.onWch_prm (s : State) (f : Wch → Wch) : (s.onWch f).prm = s.prm := rfl
@[simp] theorem State.onWch_stream (s : State) (f : Wch → Wch) : (s.onWch f).stream = s.stream := rfl
@[simp] theorem State.onWch_plane (s : State) (f : Wch → Wch) : (s.onWch f).plane = s.plane := rfl
@[simp] theorem State.onWch_regions (s : State) (f : Wch → Wch) : (s.onWch f).regions = s.regions := rfl
@[simp] theorem State.onWch_chans (s : State) (f : Wch → Wch) : (s.onWch f).chans = s.chans := rfl
@[simp] theorem State.onWch_feeds (s : State) (f : Wch → Wch) : (s.onWch f).feeds = s.feeds := rfl
@[simp] theorem State.onWch_adc (s : State) (f : Wch → Wch) : (s.onWch f).adc = s.adc := rfl
@[simp] theorem State.onWch_chn (s : State) (f : Wch → Wch) : (s.onWch f).chn = s.chn := rfl
@[simp] theorem State.onWch_trg (s : State) (f : Wch → Wch) : (s.onWch f).trg = s.trg := rfl
@[simp] theorem State.onWch_codec (s : State) (f : Wch → Wch) : (s.onWch f).codec = s.codec := rfl
@[simp] theorem State.onWch_pmc (s : State) (f : Wch → Wch) : (s.onWch f).pmc = s.pmc := rfl
@[simp] theorem State.onWch_sns (s : State) (f : Wch → Wch) : (s.onWch f).sns = s.sns := rfl
@[simp] theorem State.onWch_saf (s : State) (f : Wch → Wch) : (s.onWch f).saf = s.saf := rfl
@[simp] theorem State.onWch_book (s : State) (f : Wch → Wch) : (s.onWch f).book = s.book := rfl
@[simp] theorem State.onWch_pwr (s : State) (f : Wch → Wch) : (s.onWch f).pwr = s.pwr := rfl
@[simp] theorem State.onWch_start (s : State) (f : Wch → Wch) : (s.onWch f).start = s.start := rfl
@[simp] theorem State.onWch_access (s : State) (f : Wch → Wch) : (s.onWch f).access = s.access := rfl
@[simp] theorem State.onWch_wch (s : State) (f : Wch → Wch) : (s.onWch f).wch = f s.wch := rfl

@[simp] theorem State.onWchan_pending (s : State) (ch : Nat) (f : WChan → WChan) : (s.onWchan ch f).pending = s.pending := rfl
@[simp] theorem State.onWchan_free (s : State) (ch : Nat) (f : WChan → WChan) : (s.onWchan ch f).free = s.free := rfl
@[simp] theorem State.onWchan_regs (s : State) (ch : Nat) (f : WChan → WChan) : (s.onWchan ch f).regs = s.regs := rfl
@[simp] theorem State.onWchan_banks (s : State) (ch : Nat) (f : WChan → WChan) : (s.onWchan ch f).banks = s.banks := rfl
@[simp] theorem State.onWchan_clk (s : State) (ch : Nat) (f : WChan → WChan) : (s.onWchan ch f).clk = s.clk := rfl
@[simp] theorem State.onWchan_ports (s : State) (ch : Nat) (f : WChan → WChan) : (s.onWchan ch f).ports = s.ports := rfl
@[simp] theorem State.onWchan_tim (s : State) (ch : Nat) (f : WChan → WChan) : (s.onWchan ch f).tim = s.tim := rfl
@[simp] theorem State.onWchan_lnk (s : State) (ch : Nat) (f : WChan → WChan) : (s.onWchan ch f).lnk = s.lnk := rfl
@[simp] theorem State.onWchan_que (s : State) (ch : Nat) (f : WChan → WChan) : (s.onWchan ch f).que = s.que := rfl
@[simp] theorem State.onWchan_fau (s : State) (ch : Nat) (f : WChan → WChan) : (s.onWchan ch f).fau = s.fau := rfl
@[simp] theorem State.onWchan_prm (s : State) (ch : Nat) (f : WChan → WChan) : (s.onWchan ch f).prm = s.prm := rfl
@[simp] theorem State.onWchan_stream (s : State) (ch : Nat) (f : WChan → WChan) : (s.onWchan ch f).stream = s.stream := rfl
@[simp] theorem State.onWchan_plane (s : State) (ch : Nat) (f : WChan → WChan) : (s.onWchan ch f).plane = s.plane := rfl
@[simp] theorem State.onWchan_regions (s : State) (ch : Nat) (f : WChan → WChan) : (s.onWchan ch f).regions = s.regions := rfl
@[simp] theorem State.onWchan_chans (s : State) (ch : Nat) (f : WChan → WChan) : (s.onWchan ch f).chans = s.chans := rfl
@[simp] theorem State.onWchan_feeds (s : State) (ch : Nat) (f : WChan → WChan) : (s.onWchan ch f).feeds = s.feeds := rfl
@[simp] theorem State.onWchan_adc (s : State) (ch : Nat) (f : WChan → WChan) : (s.onWchan ch f).adc = s.adc := rfl
@[simp] theorem State.onWchan_chn (s : State) (ch : Nat) (f : WChan → WChan) : (s.onWchan ch f).chn = s.chn := rfl
@[simp] theorem State.onWchan_trg (s : State) (ch : Nat) (f : WChan → WChan) : (s.onWchan ch f).trg = s.trg := rfl
@[simp] theorem State.onWchan_codec (s : State) (ch : Nat) (f : WChan → WChan) : (s.onWchan ch f).codec = s.codec := rfl
@[simp] theorem State.onWchan_pmc (s : State) (ch : Nat) (f : WChan → WChan) : (s.onWchan ch f).pmc = s.pmc := rfl
@[simp] theorem State.onWchan_sns (s : State) (ch : Nat) (f : WChan → WChan) : (s.onWchan ch f).sns = s.sns := rfl
@[simp] theorem State.onWchan_saf (s : State) (ch : Nat) (f : WChan → WChan) : (s.onWchan ch f).saf = s.saf := rfl
@[simp] theorem State.onWchan_book (s : State) (ch : Nat) (f : WChan → WChan) : (s.onWchan ch f).book = s.book := rfl
@[simp] theorem State.onWchan_pwr (s : State) (ch : Nat) (f : WChan → WChan) : (s.onWchan ch f).pwr = s.pwr := rfl
@[simp] theorem State.onWchan_start (s : State) (ch : Nat) (f : WChan → WChan) : (s.onWchan ch f).start = s.start := rfl
@[simp] theorem State.onWchan_access (s : State) (ch : Nat) (f : WChan → WChan) : (s.onWchan ch f).access = s.access := rfl

@[simp] theorem State.onMaskRun_pending (s : State) (ch n : Nat) (f : MaskRun → MaskRun) : (s.onMaskRun ch n f).pending = s.pending := rfl
@[simp] theorem State.onMaskRun_free (s : State) (ch n : Nat) (f : MaskRun → MaskRun) : (s.onMaskRun ch n f).free = s.free := rfl
@[simp] theorem State.onMaskRun_regs (s : State) (ch n : Nat) (f : MaskRun → MaskRun) : (s.onMaskRun ch n f).regs = s.regs := rfl
@[simp] theorem State.onMaskRun_banks (s : State) (ch n : Nat) (f : MaskRun → MaskRun) : (s.onMaskRun ch n f).banks = s.banks := rfl
@[simp] theorem State.onMaskRun_clk (s : State) (ch n : Nat) (f : MaskRun → MaskRun) : (s.onMaskRun ch n f).clk = s.clk := rfl
@[simp] theorem State.onMaskRun_ports (s : State) (ch n : Nat) (f : MaskRun → MaskRun) : (s.onMaskRun ch n f).ports = s.ports := rfl
@[simp] theorem State.onMaskRun_tim (s : State) (ch n : Nat) (f : MaskRun → MaskRun) : (s.onMaskRun ch n f).tim = s.tim := rfl
@[simp] theorem State.onMaskRun_lnk (s : State) (ch n : Nat) (f : MaskRun → MaskRun) : (s.onMaskRun ch n f).lnk = s.lnk := rfl
@[simp] theorem State.onMaskRun_que (s : State) (ch n : Nat) (f : MaskRun → MaskRun) : (s.onMaskRun ch n f).que = s.que := rfl
@[simp] theorem State.onMaskRun_fau (s : State) (ch n : Nat) (f : MaskRun → MaskRun) : (s.onMaskRun ch n f).fau = s.fau := rfl
@[simp] theorem State.onMaskRun_prm (s : State) (ch n : Nat) (f : MaskRun → MaskRun) : (s.onMaskRun ch n f).prm = s.prm := rfl
@[simp] theorem State.onMaskRun_stream (s : State) (ch n : Nat) (f : MaskRun → MaskRun) : (s.onMaskRun ch n f).stream = s.stream := rfl
@[simp] theorem State.onMaskRun_plane (s : State) (ch n : Nat) (f : MaskRun → MaskRun) : (s.onMaskRun ch n f).plane = s.plane := rfl
@[simp] theorem State.onMaskRun_regions (s : State) (ch n : Nat) (f : MaskRun → MaskRun) : (s.onMaskRun ch n f).regions = s.regions := rfl
@[simp] theorem State.onMaskRun_chans (s : State) (ch n : Nat) (f : MaskRun → MaskRun) : (s.onMaskRun ch n f).chans = s.chans := rfl
@[simp] theorem State.onMaskRun_feeds (s : State) (ch n : Nat) (f : MaskRun → MaskRun) : (s.onMaskRun ch n f).feeds = s.feeds := rfl
@[simp] theorem State.onMaskRun_adc (s : State) (ch n : Nat) (f : MaskRun → MaskRun) : (s.onMaskRun ch n f).adc = s.adc := rfl
@[simp] theorem State.onMaskRun_chn (s : State) (ch n : Nat) (f : MaskRun → MaskRun) : (s.onMaskRun ch n f).chn = s.chn := rfl
@[simp] theorem State.onMaskRun_trg (s : State) (ch n : Nat) (f : MaskRun → MaskRun) : (s.onMaskRun ch n f).trg = s.trg := rfl
@[simp] theorem State.onMaskRun_codec (s : State) (ch n : Nat) (f : MaskRun → MaskRun) : (s.onMaskRun ch n f).codec = s.codec := rfl
@[simp] theorem State.onMaskRun_pmc (s : State) (ch n : Nat) (f : MaskRun → MaskRun) : (s.onMaskRun ch n f).pmc = s.pmc := rfl
@[simp] theorem State.onMaskRun_sns (s : State) (ch n : Nat) (f : MaskRun → MaskRun) : (s.onMaskRun ch n f).sns = s.sns := rfl
@[simp] theorem State.onMaskRun_saf (s : State) (ch n : Nat) (f : MaskRun → MaskRun) : (s.onMaskRun ch n f).saf = s.saf := rfl
@[simp] theorem State.onMaskRun_book (s : State) (ch n : Nat) (f : MaskRun → MaskRun) : (s.onMaskRun ch n f).book = s.book := rfl
@[simp] theorem State.onMaskRun_pwr (s : State) (ch n : Nat) (f : MaskRun → MaskRun) : (s.onMaskRun ch n f).pwr = s.pwr := rfl
@[simp] theorem State.onMaskRun_start (s : State) (ch n : Nat) (f : MaskRun → MaskRun) : (s.onMaskRun ch n f).start = s.start := rfl
@[simp] theorem State.onMaskRun_access (s : State) (ch n : Nat) (f : MaskRun → MaskRun) : (s.onMaskRun ch n f).access = s.access := rfl

@[simp] theorem State.onAdc_pending (s : State) (f : Adc → Adc) : (s.onAdc f).pending = s.pending := rfl
@[simp] theorem State.onAdc_free (s : State) (f : Adc → Adc) : (s.onAdc f).free = s.free := rfl
@[simp] theorem State.onAdc_regs (s : State) (f : Adc → Adc) : (s.onAdc f).regs = s.regs := rfl
@[simp] theorem State.onAdc_banks (s : State) (f : Adc → Adc) : (s.onAdc f).banks = s.banks := rfl
@[simp] theorem State.onAdc_clk (s : State) (f : Adc → Adc) : (s.onAdc f).clk = s.clk := rfl
@[simp] theorem State.onAdc_ports (s : State) (f : Adc → Adc) : (s.onAdc f).ports = s.ports := rfl
@[simp] theorem State.onAdc_tim (s : State) (f : Adc → Adc) : (s.onAdc f).tim = s.tim := rfl
@[simp] theorem State.onAdc_lnk (s : State) (f : Adc → Adc) : (s.onAdc f).lnk = s.lnk := rfl
@[simp] theorem State.onAdc_que (s : State) (f : Adc → Adc) : (s.onAdc f).que = s.que := rfl
@[simp] theorem State.onAdc_fau (s : State) (f : Adc → Adc) : (s.onAdc f).fau = s.fau := rfl
@[simp] theorem State.onAdc_prm (s : State) (f : Adc → Adc) : (s.onAdc f).prm = s.prm := rfl
@[simp] theorem State.onAdc_stream (s : State) (f : Adc → Adc) : (s.onAdc f).stream = s.stream := rfl
@[simp] theorem State.onAdc_plane (s : State) (f : Adc → Adc) : (s.onAdc f).plane = s.plane := rfl
@[simp] theorem State.onAdc_regions (s : State) (f : Adc → Adc) : (s.onAdc f).regions = s.regions := rfl
@[simp] theorem State.onAdc_chans (s : State) (f : Adc → Adc) : (s.onAdc f).chans = s.chans := rfl
@[simp] theorem State.onAdc_feeds (s : State) (f : Adc → Adc) : (s.onAdc f).feeds = s.feeds := rfl
@[simp] theorem State.onAdc_chn (s : State) (f : Adc → Adc) : (s.onAdc f).chn = s.chn := rfl
@[simp] theorem State.onAdc_wch (s : State) (f : Adc → Adc) : (s.onAdc f).wch = s.wch := rfl
@[simp] theorem State.onAdc_trg (s : State) (f : Adc → Adc) : (s.onAdc f).trg = s.trg := rfl
@[simp] theorem State.onAdc_codec (s : State) (f : Adc → Adc) : (s.onAdc f).codec = s.codec := rfl
@[simp] theorem State.onAdc_pmc (s : State) (f : Adc → Adc) : (s.onAdc f).pmc = s.pmc := rfl
@[simp] theorem State.onAdc_sns (s : State) (f : Adc → Adc) : (s.onAdc f).sns = s.sns := rfl
@[simp] theorem State.onAdc_saf (s : State) (f : Adc → Adc) : (s.onAdc f).saf = s.saf := rfl
@[simp] theorem State.onAdc_book (s : State) (f : Adc → Adc) : (s.onAdc f).book = s.book := rfl
@[simp] theorem State.onAdc_pwr (s : State) (f : Adc → Adc) : (s.onAdc f).pwr = s.pwr := rfl
@[simp] theorem State.onAdc_start (s : State) (f : Adc → Adc) : (s.onAdc f).start = s.start := rfl
@[simp] theorem State.onAdc_access (s : State) (f : Adc → Adc) : (s.onAdc f).access = s.access := rfl
@[simp] theorem State.onAdc_adc (s : State) (f : Adc → Adc) : (s.onAdc f).adc = f s.adc := rfl

@[simp] theorem State.onReh_pending (s : State) (r : Nat) (f : Reh → Reh) : (s.onReh r f).pending = s.pending := rfl
@[simp] theorem State.onReh_free (s : State) (r : Nat) (f : Reh → Reh) : (s.onReh r f).free = s.free := rfl
@[simp] theorem State.onReh_regs (s : State) (r : Nat) (f : Reh → Reh) : (s.onReh r f).regs = s.regs := rfl
@[simp] theorem State.onReh_banks (s : State) (r : Nat) (f : Reh → Reh) : (s.onReh r f).banks = s.banks := rfl
@[simp] theorem State.onReh_clk (s : State) (r : Nat) (f : Reh → Reh) : (s.onReh r f).clk = s.clk := rfl
@[simp] theorem State.onReh_ports (s : State) (r : Nat) (f : Reh → Reh) : (s.onReh r f).ports = s.ports := rfl
@[simp] theorem State.onReh_tim (s : State) (r : Nat) (f : Reh → Reh) : (s.onReh r f).tim = s.tim := rfl
@[simp] theorem State.onReh_lnk (s : State) (r : Nat) (f : Reh → Reh) : (s.onReh r f).lnk = s.lnk := rfl
@[simp] theorem State.onReh_que (s : State) (r : Nat) (f : Reh → Reh) : (s.onReh r f).que = s.que := rfl
@[simp] theorem State.onReh_fau (s : State) (r : Nat) (f : Reh → Reh) : (s.onReh r f).fau = s.fau := rfl
@[simp] theorem State.onReh_prm (s : State) (r : Nat) (f : Reh → Reh) : (s.onReh r f).prm = s.prm := rfl
@[simp] theorem State.onReh_stream (s : State) (r : Nat) (f : Reh → Reh) : (s.onReh r f).stream = s.stream := rfl
@[simp] theorem State.onReh_plane (s : State) (r : Nat) (f : Reh → Reh) : (s.onReh r f).plane = s.plane := rfl
@[simp] theorem State.onReh_regions (s : State) (r : Nat) (f : Reh → Reh) : (s.onReh r f).regions = s.regions := rfl
@[simp] theorem State.onReh_chans (s : State) (r : Nat) (f : Reh → Reh) : (s.onReh r f).chans = s.chans := rfl
@[simp] theorem State.onReh_feeds (s : State) (r : Nat) (f : Reh → Reh) : (s.onReh r f).feeds = s.feeds := rfl
@[simp] theorem State.onReh_chn (s : State) (r : Nat) (f : Reh → Reh) : (s.onReh r f).chn = s.chn := rfl
@[simp] theorem State.onReh_wch (s : State) (r : Nat) (f : Reh → Reh) : (s.onReh r f).wch = s.wch := rfl
@[simp] theorem State.onReh_trg (s : State) (r : Nat) (f : Reh → Reh) : (s.onReh r f).trg = s.trg := rfl
@[simp] theorem State.onReh_codec (s : State) (r : Nat) (f : Reh → Reh) : (s.onReh r f).codec = s.codec := rfl
@[simp] theorem State.onReh_pmc (s : State) (r : Nat) (f : Reh → Reh) : (s.onReh r f).pmc = s.pmc := rfl
@[simp] theorem State.onReh_sns (s : State) (r : Nat) (f : Reh → Reh) : (s.onReh r f).sns = s.sns := rfl
@[simp] theorem State.onReh_saf (s : State) (r : Nat) (f : Reh → Reh) : (s.onReh r f).saf = s.saf := rfl
@[simp] theorem State.onReh_book (s : State) (r : Nat) (f : Reh → Reh) : (s.onReh r f).book = s.book := rfl
@[simp] theorem State.onReh_pwr (s : State) (r : Nat) (f : Reh → Reh) : (s.onReh r f).pwr = s.pwr := rfl
@[simp] theorem State.onReh_start (s : State) (r : Nat) (f : Reh → Reh) : (s.onReh r f).start = s.start := rfl
@[simp] theorem State.onReh_access (s : State) (r : Nat) (f : Reh → Reh) : (s.onReh r f).access = s.access := rfl

@[simp] theorem State.onFau_pending (s : State) (f : Fau → Fau) : (s.onFau f).pending = s.pending := rfl
@[simp] theorem State.onFau_free (s : State) (f : Fau → Fau) : (s.onFau f).free = s.free := rfl
@[simp] theorem State.onFau_regs (s : State) (f : Fau → Fau) : (s.onFau f).regs = s.regs := rfl
@[simp] theorem State.onFau_banks (s : State) (f : Fau → Fau) : (s.onFau f).banks = s.banks := rfl
@[simp] theorem State.onFau_clk (s : State) (f : Fau → Fau) : (s.onFau f).clk = s.clk := rfl
@[simp] theorem State.onFau_ports (s : State) (f : Fau → Fau) : (s.onFau f).ports = s.ports := rfl
@[simp] theorem State.onFau_tim (s : State) (f : Fau → Fau) : (s.onFau f).tim = s.tim := rfl
@[simp] theorem State.onFau_lnk (s : State) (f : Fau → Fau) : (s.onFau f).lnk = s.lnk := rfl
@[simp] theorem State.onFau_que (s : State) (f : Fau → Fau) : (s.onFau f).que = s.que := rfl
@[simp] theorem State.onFau_prm (s : State) (f : Fau → Fau) : (s.onFau f).prm = s.prm := rfl
@[simp] theorem State.onFau_stream (s : State) (f : Fau → Fau) : (s.onFau f).stream = s.stream := rfl
@[simp] theorem State.onFau_plane (s : State) (f : Fau → Fau) : (s.onFau f).plane = s.plane := rfl
@[simp] theorem State.onFau_regions (s : State) (f : Fau → Fau) : (s.onFau f).regions = s.regions := rfl
@[simp] theorem State.onFau_chans (s : State) (f : Fau → Fau) : (s.onFau f).chans = s.chans := rfl
@[simp] theorem State.onFau_feeds (s : State) (f : Fau → Fau) : (s.onFau f).feeds = s.feeds := rfl
@[simp] theorem State.onFau_adc (s : State) (f : Fau → Fau) : (s.onFau f).adc = s.adc := rfl
@[simp] theorem State.onFau_chn (s : State) (f : Fau → Fau) : (s.onFau f).chn = s.chn := rfl
@[simp] theorem State.onFau_wch (s : State) (f : Fau → Fau) : (s.onFau f).wch = s.wch := rfl
@[simp] theorem State.onFau_trg (s : State) (f : Fau → Fau) : (s.onFau f).trg = s.trg := rfl
@[simp] theorem State.onFau_codec (s : State) (f : Fau → Fau) : (s.onFau f).codec = s.codec := rfl
@[simp] theorem State.onFau_pmc (s : State) (f : Fau → Fau) : (s.onFau f).pmc = s.pmc := rfl
@[simp] theorem State.onFau_sns (s : State) (f : Fau → Fau) : (s.onFau f).sns = s.sns := rfl
@[simp] theorem State.onFau_saf (s : State) (f : Fau → Fau) : (s.onFau f).saf = s.saf := rfl
@[simp] theorem State.onFau_book (s : State) (f : Fau → Fau) : (s.onFau f).book = s.book := rfl
@[simp] theorem State.onFau_pwr (s : State) (f : Fau → Fau) : (s.onFau f).pwr = s.pwr := rfl
@[simp] theorem State.onFau_start (s : State) (f : Fau → Fau) : (s.onFau f).start = s.start := rfl
@[simp] theorem State.onFau_access (s : State) (f : Fau → Fau) : (s.onFau f).access = s.access := rfl
@[simp] theorem State.onFau_fau (s : State) (f : Fau → Fau) : (s.onFau f).fau = f s.fau := rfl

@[simp] theorem State.onTim_pending (s : State) (f : Tim → Tim) : (s.onTim f).pending = s.pending := rfl
@[simp] theorem State.onTim_free (s : State) (f : Tim → Tim) : (s.onTim f).free = s.free := rfl
@[simp] theorem State.onTim_regs (s : State) (f : Tim → Tim) : (s.onTim f).regs = s.regs := rfl
@[simp] theorem State.onTim_banks (s : State) (f : Tim → Tim) : (s.onTim f).banks = s.banks := rfl
@[simp] theorem State.onTim_clk (s : State) (f : Tim → Tim) : (s.onTim f).clk = s.clk := rfl
@[simp] theorem State.onTim_ports (s : State) (f : Tim → Tim) : (s.onTim f).ports = s.ports := rfl
@[simp] theorem State.onTim_lnk (s : State) (f : Tim → Tim) : (s.onTim f).lnk = s.lnk := rfl
@[simp] theorem State.onTim_que (s : State) (f : Tim → Tim) : (s.onTim f).que = s.que := rfl
@[simp] theorem State.onTim_fau (s : State) (f : Tim → Tim) : (s.onTim f).fau = s.fau := rfl
@[simp] theorem State.onTim_prm (s : State) (f : Tim → Tim) : (s.onTim f).prm = s.prm := rfl
@[simp] theorem State.onTim_stream (s : State) (f : Tim → Tim) : (s.onTim f).stream = s.stream := rfl
@[simp] theorem State.onTim_plane (s : State) (f : Tim → Tim) : (s.onTim f).plane = s.plane := rfl
@[simp] theorem State.onTim_regions (s : State) (f : Tim → Tim) : (s.onTim f).regions = s.regions := rfl
@[simp] theorem State.onTim_chans (s : State) (f : Tim → Tim) : (s.onTim f).chans = s.chans := rfl
@[simp] theorem State.onTim_feeds (s : State) (f : Tim → Tim) : (s.onTim f).feeds = s.feeds := rfl
@[simp] theorem State.onTim_adc (s : State) (f : Tim → Tim) : (s.onTim f).adc = s.adc := rfl
@[simp] theorem State.onTim_chn (s : State) (f : Tim → Tim) : (s.onTim f).chn = s.chn := rfl
@[simp] theorem State.onTim_wch (s : State) (f : Tim → Tim) : (s.onTim f).wch = s.wch := rfl
@[simp] theorem State.onTim_trg (s : State) (f : Tim → Tim) : (s.onTim f).trg = s.trg := rfl
@[simp] theorem State.onTim_codec (s : State) (f : Tim → Tim) : (s.onTim f).codec = s.codec := rfl
@[simp] theorem State.onTim_pmc (s : State) (f : Tim → Tim) : (s.onTim f).pmc = s.pmc := rfl
@[simp] theorem State.onTim_sns (s : State) (f : Tim → Tim) : (s.onTim f).sns = s.sns := rfl
@[simp] theorem State.onTim_saf (s : State) (f : Tim → Tim) : (s.onTim f).saf = s.saf := rfl
@[simp] theorem State.onTim_book (s : State) (f : Tim → Tim) : (s.onTim f).book = s.book := rfl
@[simp] theorem State.onTim_pwr (s : State) (f : Tim → Tim) : (s.onTim f).pwr = s.pwr := rfl
@[simp] theorem State.onTim_start (s : State) (f : Tim → Tim) : (s.onTim f).start = s.start := rfl
@[simp] theorem State.onTim_access (s : State) (f : Tim → Tim) : (s.onTim f).access = s.access := rfl
@[simp] theorem State.onTim_tim (s : State) (f : Tim → Tim) : (s.onTim f).tim = f s.tim := rfl

@[simp] theorem State.onLane_pending (s : State) (n : Nat) (f : Lane → Lane) : (s.onLane n f).pending = s.pending := rfl
@[simp] theorem State.onLane_free (s : State) (n : Nat) (f : Lane → Lane) : (s.onLane n f).free = s.free := rfl
@[simp] theorem State.onLane_regs (s : State) (n : Nat) (f : Lane → Lane) : (s.onLane n f).regs = s.regs := rfl
@[simp] theorem State.onLane_banks (s : State) (n : Nat) (f : Lane → Lane) : (s.onLane n f).banks = s.banks := rfl
@[simp] theorem State.onLane_clk (s : State) (n : Nat) (f : Lane → Lane) : (s.onLane n f).clk = s.clk := rfl
@[simp] theorem State.onLane_ports (s : State) (n : Nat) (f : Lane → Lane) : (s.onLane n f).ports = s.ports := rfl
@[simp] theorem State.onLane_tim (s : State) (n : Nat) (f : Lane → Lane) : (s.onLane n f).tim = s.tim := rfl
@[simp] theorem State.onLane_que (s : State) (n : Nat) (f : Lane → Lane) : (s.onLane n f).que = s.que := rfl
@[simp] theorem State.onLane_fau (s : State) (n : Nat) (f : Lane → Lane) : (s.onLane n f).fau = s.fau := rfl
@[simp] theorem State.onLane_prm (s : State) (n : Nat) (f : Lane → Lane) : (s.onLane n f).prm = s.prm := rfl
@[simp] theorem State.onLane_stream (s : State) (n : Nat) (f : Lane → Lane) : (s.onLane n f).stream = s.stream := rfl
@[simp] theorem State.onLane_plane (s : State) (n : Nat) (f : Lane → Lane) : (s.onLane n f).plane = s.plane := rfl
@[simp] theorem State.onLane_regions (s : State) (n : Nat) (f : Lane → Lane) : (s.onLane n f).regions = s.regions := rfl
@[simp] theorem State.onLane_chans (s : State) (n : Nat) (f : Lane → Lane) : (s.onLane n f).chans = s.chans := rfl
@[simp] theorem State.onLane_feeds (s : State) (n : Nat) (f : Lane → Lane) : (s.onLane n f).feeds = s.feeds := rfl
@[simp] theorem State.onLane_adc (s : State) (n : Nat) (f : Lane → Lane) : (s.onLane n f).adc = s.adc := rfl
@[simp] theorem State.onLane_chn (s : State) (n : Nat) (f : Lane → Lane) : (s.onLane n f).chn = s.chn := rfl
@[simp] theorem State.onLane_wch (s : State) (n : Nat) (f : Lane → Lane) : (s.onLane n f).wch = s.wch := rfl
@[simp] theorem State.onLane_trg (s : State) (n : Nat) (f : Lane → Lane) : (s.onLane n f).trg = s.trg := rfl
@[simp] theorem State.onLane_codec (s : State) (n : Nat) (f : Lane → Lane) : (s.onLane n f).codec = s.codec := rfl
@[simp] theorem State.onLane_pmc (s : State) (n : Nat) (f : Lane → Lane) : (s.onLane n f).pmc = s.pmc := rfl
@[simp] theorem State.onLane_sns (s : State) (n : Nat) (f : Lane → Lane) : (s.onLane n f).sns = s.sns := rfl
@[simp] theorem State.onLane_saf (s : State) (n : Nat) (f : Lane → Lane) : (s.onLane n f).saf = s.saf := rfl
@[simp] theorem State.onLane_book (s : State) (n : Nat) (f : Lane → Lane) : (s.onLane n f).book = s.book := rfl
@[simp] theorem State.onLane_pwr (s : State) (n : Nat) (f : Lane → Lane) : (s.onLane n f).pwr = s.pwr := rfl
@[simp] theorem State.onLane_start (s : State) (n : Nat) (f : Lane → Lane) : (s.onLane n f).start = s.start := rfl
@[simp] theorem State.onLane_access (s : State) (n : Nat) (f : Lane → Lane) : (s.onLane n f).access = s.access := rfl

@[simp] theorem State.onBook_pending (s : State) (f : Book → Book) : (s.onBook f).pending = s.pending := rfl
@[simp] theorem State.onBook_free (s : State) (f : Book → Book) : (s.onBook f).free = s.free := rfl
@[simp] theorem State.onBook_regs (s : State) (f : Book → Book) : (s.onBook f).regs = s.regs := rfl
@[simp] theorem State.onBook_banks (s : State) (f : Book → Book) : (s.onBook f).banks = s.banks := rfl
@[simp] theorem State.onBook_clk (s : State) (f : Book → Book) : (s.onBook f).clk = s.clk := rfl
@[simp] theorem State.onBook_ports (s : State) (f : Book → Book) : (s.onBook f).ports = s.ports := rfl
@[simp] theorem State.onBook_tim (s : State) (f : Book → Book) : (s.onBook f).tim = s.tim := rfl
@[simp] theorem State.onBook_lnk (s : State) (f : Book → Book) : (s.onBook f).lnk = s.lnk := rfl
@[simp] theorem State.onBook_que (s : State) (f : Book → Book) : (s.onBook f).que = s.que := rfl
@[simp] theorem State.onBook_fau (s : State) (f : Book → Book) : (s.onBook f).fau = s.fau := rfl
@[simp] theorem State.onBook_prm (s : State) (f : Book → Book) : (s.onBook f).prm = s.prm := rfl
@[simp] theorem State.onBook_stream (s : State) (f : Book → Book) : (s.onBook f).stream = s.stream := rfl
@[simp] theorem State.onBook_plane (s : State) (f : Book → Book) : (s.onBook f).plane = s.plane := rfl
@[simp] theorem State.onBook_regions (s : State) (f : Book → Book) : (s.onBook f).regions = s.regions := rfl
@[simp] theorem State.onBook_chans (s : State) (f : Book → Book) : (s.onBook f).chans = s.chans := rfl
@[simp] theorem State.onBook_feeds (s : State) (f : Book → Book) : (s.onBook f).feeds = s.feeds := rfl
@[simp] theorem State.onBook_adc (s : State) (f : Book → Book) : (s.onBook f).adc = s.adc := rfl
@[simp] theorem State.onBook_chn (s : State) (f : Book → Book) : (s.onBook f).chn = s.chn := rfl
@[simp] theorem State.onBook_wch (s : State) (f : Book → Book) : (s.onBook f).wch = s.wch := rfl
@[simp] theorem State.onBook_trg (s : State) (f : Book → Book) : (s.onBook f).trg = s.trg := rfl
@[simp] theorem State.onBook_codec (s : State) (f : Book → Book) : (s.onBook f).codec = s.codec := rfl
@[simp] theorem State.onBook_pmc (s : State) (f : Book → Book) : (s.onBook f).pmc = s.pmc := rfl
@[simp] theorem State.onBook_sns (s : State) (f : Book → Book) : (s.onBook f).sns = s.sns := rfl
@[simp] theorem State.onBook_saf (s : State) (f : Book → Book) : (s.onBook f).saf = s.saf := rfl
@[simp] theorem State.onBook_pwr (s : State) (f : Book → Book) : (s.onBook f).pwr = s.pwr := rfl
@[simp] theorem State.onBook_start (s : State) (f : Book → Book) : (s.onBook f).start = s.start := rfl
@[simp] theorem State.onBook_access (s : State) (f : Book → Book) : (s.onBook f).access = s.access := rfl
@[simp] theorem State.onBook_book (s : State) (f : Book → Book) : (s.onBook f).book = f s.book := rfl

@[simp] theorem State.onSns_pending (s : State) (f : Sns → Sns) : (s.onSns f).pending = s.pending := rfl
@[simp] theorem State.onSns_free (s : State) (f : Sns → Sns) : (s.onSns f).free = s.free := rfl
@[simp] theorem State.onSns_regs (s : State) (f : Sns → Sns) : (s.onSns f).regs = s.regs := rfl
@[simp] theorem State.onSns_banks (s : State) (f : Sns → Sns) : (s.onSns f).banks = s.banks := rfl
@[simp] theorem State.onSns_clk (s : State) (f : Sns → Sns) : (s.onSns f).clk = s.clk := rfl
@[simp] theorem State.onSns_ports (s : State) (f : Sns → Sns) : (s.onSns f).ports = s.ports := rfl
@[simp] theorem State.onSns_tim (s : State) (f : Sns → Sns) : (s.onSns f).tim = s.tim := rfl
@[simp] theorem State.onSns_lnk (s : State) (f : Sns → Sns) : (s.onSns f).lnk = s.lnk := rfl
@[simp] theorem State.onSns_que (s : State) (f : Sns → Sns) : (s.onSns f).que = s.que := rfl
@[simp] theorem State.onSns_fau (s : State) (f : Sns → Sns) : (s.onSns f).fau = s.fau := rfl
@[simp] theorem State.onSns_prm (s : State) (f : Sns → Sns) : (s.onSns f).prm = s.prm := rfl
@[simp] theorem State.onSns_stream (s : State) (f : Sns → Sns) : (s.onSns f).stream = s.stream := rfl
@[simp] theorem State.onSns_plane (s : State) (f : Sns → Sns) : (s.onSns f).plane = s.plane := rfl
@[simp] theorem State.onSns_regions (s : State) (f : Sns → Sns) : (s.onSns f).regions = s.regions := rfl
@[simp] theorem State.onSns_chans (s : State) (f : Sns → Sns) : (s.onSns f).chans = s.chans := rfl
@[simp] theorem State.onSns_feeds (s : State) (f : Sns → Sns) : (s.onSns f).feeds = s.feeds := rfl
@[simp] theorem State.onSns_adc (s : State) (f : Sns → Sns) : (s.onSns f).adc = s.adc := rfl
@[simp] theorem State.onSns_chn (s : State) (f : Sns → Sns) : (s.onSns f).chn = s.chn := rfl
@[simp] theorem State.onSns_wch (s : State) (f : Sns → Sns) : (s.onSns f).wch = s.wch := rfl
@[simp] theorem State.onSns_trg (s : State) (f : Sns → Sns) : (s.onSns f).trg = s.trg := rfl
@[simp] theorem State.onSns_codec (s : State) (f : Sns → Sns) : (s.onSns f).codec = s.codec := rfl
@[simp] theorem State.onSns_pmc (s : State) (f : Sns → Sns) : (s.onSns f).pmc = s.pmc := rfl
@[simp] theorem State.onSns_saf (s : State) (f : Sns → Sns) : (s.onSns f).saf = s.saf := rfl
@[simp] theorem State.onSns_book (s : State) (f : Sns → Sns) : (s.onSns f).book = s.book := rfl
@[simp] theorem State.onSns_pwr (s : State) (f : Sns → Sns) : (s.onSns f).pwr = s.pwr := rfl
@[simp] theorem State.onSns_start (s : State) (f : Sns → Sns) : (s.onSns f).start = s.start := rfl
@[simp] theorem State.onSns_access (s : State) (f : Sns → Sns) : (s.onSns f).access = s.access := rfl
@[simp] theorem State.onSns_sns (s : State) (f : Sns → Sns) : (s.onSns f).sns = f s.sns := rfl

@[simp] theorem State.onSaf_pending (s : State) (f : Saf → Saf) : (s.onSaf f).pending = s.pending := rfl
@[simp] theorem State.onSaf_free (s : State) (f : Saf → Saf) : (s.onSaf f).free = s.free := rfl
@[simp] theorem State.onSaf_regs (s : State) (f : Saf → Saf) : (s.onSaf f).regs = s.regs := rfl
@[simp] theorem State.onSaf_banks (s : State) (f : Saf → Saf) : (s.onSaf f).banks = s.banks := rfl
@[simp] theorem State.onSaf_clk (s : State) (f : Saf → Saf) : (s.onSaf f).clk = s.clk := rfl
@[simp] theorem State.onSaf_ports (s : State) (f : Saf → Saf) : (s.onSaf f).ports = s.ports := rfl
@[simp] theorem State.onSaf_tim (s : State) (f : Saf → Saf) : (s.onSaf f).tim = s.tim := rfl
@[simp] theorem State.onSaf_lnk (s : State) (f : Saf → Saf) : (s.onSaf f).lnk = s.lnk := rfl
@[simp] theorem State.onSaf_que (s : State) (f : Saf → Saf) : (s.onSaf f).que = s.que := rfl
@[simp] theorem State.onSaf_fau (s : State) (f : Saf → Saf) : (s.onSaf f).fau = s.fau := rfl
@[simp] theorem State.onSaf_prm (s : State) (f : Saf → Saf) : (s.onSaf f).prm = s.prm := rfl
@[simp] theorem State.onSaf_stream (s : State) (f : Saf → Saf) : (s.onSaf f).stream = s.stream := rfl
@[simp] theorem State.onSaf_plane (s : State) (f : Saf → Saf) : (s.onSaf f).plane = s.plane := rfl
@[simp] theorem State.onSaf_regions (s : State) (f : Saf → Saf) : (s.onSaf f).regions = s.regions := rfl
@[simp] theorem State.onSaf_chans (s : State) (f : Saf → Saf) : (s.onSaf f).chans = s.chans := rfl
@[simp] theorem State.onSaf_feeds (s : State) (f : Saf → Saf) : (s.onSaf f).feeds = s.feeds := rfl
@[simp] theorem State.onSaf_adc (s : State) (f : Saf → Saf) : (s.onSaf f).adc = s.adc := rfl
@[simp] theorem State.onSaf_chn (s : State) (f : Saf → Saf) : (s.onSaf f).chn = s.chn := rfl
@[simp] theorem State.onSaf_wch (s : State) (f : Saf → Saf) : (s.onSaf f).wch = s.wch := rfl
@[simp] theorem State.onSaf_trg (s : State) (f : Saf → Saf) : (s.onSaf f).trg = s.trg := rfl
@[simp] theorem State.onSaf_codec (s : State) (f : Saf → Saf) : (s.onSaf f).codec = s.codec := rfl
@[simp] theorem State.onSaf_pmc (s : State) (f : Saf → Saf) : (s.onSaf f).pmc = s.pmc := rfl
@[simp] theorem State.onSaf_sns (s : State) (f : Saf → Saf) : (s.onSaf f).sns = s.sns := rfl
@[simp] theorem State.onSaf_book (s : State) (f : Saf → Saf) : (s.onSaf f).book = s.book := rfl
@[simp] theorem State.onSaf_pwr (s : State) (f : Saf → Saf) : (s.onSaf f).pwr = s.pwr := rfl
@[simp] theorem State.onSaf_start (s : State) (f : Saf → Saf) : (s.onSaf f).start = s.start := rfl
@[simp] theorem State.onSaf_access (s : State) (f : Saf → Saf) : (s.onSaf f).access = s.access := rfl
@[simp] theorem State.onSaf_saf (s : State) (f : Saf → Saf) : (s.onSaf f).saf = f s.saf := rfl

@[simp] theorem State.onPwr_pending (s : State) (f : Pwr → Pwr) : (s.onPwr f).pending = s.pending := rfl
@[simp] theorem State.onPwr_free (s : State) (f : Pwr → Pwr) : (s.onPwr f).free = s.free := rfl
@[simp] theorem State.onPwr_regs (s : State) (f : Pwr → Pwr) : (s.onPwr f).regs = s.regs := rfl
@[simp] theorem State.onPwr_banks (s : State) (f : Pwr → Pwr) : (s.onPwr f).banks = s.banks := rfl
@[simp] theorem State.onPwr_clk (s : State) (f : Pwr → Pwr) : (s.onPwr f).clk = s.clk := rfl
@[simp] theorem State.onPwr_ports (s : State) (f : Pwr → Pwr) : (s.onPwr f).ports = s.ports := rfl
@[simp] theorem State.onPwr_tim (s : State) (f : Pwr → Pwr) : (s.onPwr f).tim = s.tim := rfl
@[simp] theorem State.onPwr_lnk (s : State) (f : Pwr → Pwr) : (s.onPwr f).lnk = s.lnk := rfl
@[simp] theorem State.onPwr_que (s : State) (f : Pwr → Pwr) : (s.onPwr f).que = s.que := rfl
@[simp] theorem State.onPwr_fau (s : State) (f : Pwr → Pwr) : (s.onPwr f).fau = s.fau := rfl
@[simp] theorem State.onPwr_prm (s : State) (f : Pwr → Pwr) : (s.onPwr f).prm = s.prm := rfl
@[simp] theorem State.onPwr_stream (s : State) (f : Pwr → Pwr) : (s.onPwr f).stream = s.stream := rfl
@[simp] theorem State.onPwr_plane (s : State) (f : Pwr → Pwr) : (s.onPwr f).plane = s.plane := rfl
@[simp] theorem State.onPwr_regions (s : State) (f : Pwr → Pwr) : (s.onPwr f).regions = s.regions := rfl
@[simp] theorem State.onPwr_chans (s : State) (f : Pwr → Pwr) : (s.onPwr f).chans = s.chans := rfl
@[simp] theorem State.onPwr_feeds (s : State) (f : Pwr → Pwr) : (s.onPwr f).feeds = s.feeds := rfl
@[simp] theorem State.onPwr_adc (s : State) (f : Pwr → Pwr) : (s.onPwr f).adc = s.adc := rfl
@[simp] theorem State.onPwr_chn (s : State) (f : Pwr → Pwr) : (s.onPwr f).chn = s.chn := rfl
@[simp] theorem State.onPwr_wch (s : State) (f : Pwr → Pwr) : (s.onPwr f).wch = s.wch := rfl
@[simp] theorem State.onPwr_trg (s : State) (f : Pwr → Pwr) : (s.onPwr f).trg = s.trg := rfl
@[simp] theorem State.onPwr_codec (s : State) (f : Pwr → Pwr) : (s.onPwr f).codec = s.codec := rfl
@[simp] theorem State.onPwr_pmc (s : State) (f : Pwr → Pwr) : (s.onPwr f).pmc = s.pmc := rfl
@[simp] theorem State.onPwr_sns (s : State) (f : Pwr → Pwr) : (s.onPwr f).sns = s.sns := rfl
@[simp] theorem State.onPwr_saf (s : State) (f : Pwr → Pwr) : (s.onPwr f).saf = s.saf := rfl
@[simp] theorem State.onPwr_book (s : State) (f : Pwr → Pwr) : (s.onPwr f).book = s.book := rfl
@[simp] theorem State.onPwr_start (s : State) (f : Pwr → Pwr) : (s.onPwr f).start = s.start := rfl
@[simp] theorem State.onPwr_access (s : State) (f : Pwr → Pwr) : (s.onPwr f).access = s.access := rfl
@[simp] theorem State.onPwr_pwr (s : State) (f : Pwr → Pwr) : (s.onPwr f).pwr = f s.pwr := rfl

@[simp] theorem State.onAccess_pending (s : State) (f : Access → Access) : (s.onAccess f).pending = s.pending := rfl
@[simp] theorem State.onAccess_free (s : State) (f : Access → Access) : (s.onAccess f).free = s.free := rfl
@[simp] theorem State.onAccess_regs (s : State) (f : Access → Access) : (s.onAccess f).regs = s.regs := rfl
@[simp] theorem State.onAccess_banks (s : State) (f : Access → Access) : (s.onAccess f).banks = s.banks := rfl
@[simp] theorem State.onAccess_clk (s : State) (f : Access → Access) : (s.onAccess f).clk = s.clk := rfl
@[simp] theorem State.onAccess_ports (s : State) (f : Access → Access) : (s.onAccess f).ports = s.ports := rfl
@[simp] theorem State.onAccess_tim (s : State) (f : Access → Access) : (s.onAccess f).tim = s.tim := rfl
@[simp] theorem State.onAccess_lnk (s : State) (f : Access → Access) : (s.onAccess f).lnk = s.lnk := rfl
@[simp] theorem State.onAccess_que (s : State) (f : Access → Access) : (s.onAccess f).que = s.que := rfl
@[simp] theorem State.onAccess_fau (s : State) (f : Access → Access) : (s.onAccess f).fau = s.fau := rfl
@[simp] theorem State.onAccess_prm (s : State) (f : Access → Access) : (s.onAccess f).prm = s.prm := rfl
@[simp] theorem State.onAccess_stream (s : State) (f : Access → Access) : (s.onAccess f).stream = s.stream := rfl
@[simp] theorem State.onAccess_plane (s : State) (f : Access → Access) : (s.onAccess f).plane = s.plane := rfl
@[simp] theorem State.onAccess_regions (s : State) (f : Access → Access) : (s.onAccess f).regions = s.regions := rfl
@[simp] theorem State.onAccess_chans (s : State) (f : Access → Access) : (s.onAccess f).chans = s.chans := rfl
@[simp] theorem State.onAccess_feeds (s : State) (f : Access → Access) : (s.onAccess f).feeds = s.feeds := rfl
@[simp] theorem State.onAccess_adc (s : State) (f : Access → Access) : (s.onAccess f).adc = s.adc := rfl
@[simp] theorem State.onAccess_chn (s : State) (f : Access → Access) : (s.onAccess f).chn = s.chn := rfl
@[simp] theorem State.onAccess_wch (s : State) (f : Access → Access) : (s.onAccess f).wch = s.wch := rfl
@[simp] theorem State.onAccess_trg (s : State) (f : Access → Access) : (s.onAccess f).trg = s.trg := rfl
@[simp] theorem State.onAccess_codec (s : State) (f : Access → Access) : (s.onAccess f).codec = s.codec := rfl
@[simp] theorem State.onAccess_pmc (s : State) (f : Access → Access) : (s.onAccess f).pmc = s.pmc := rfl
@[simp] theorem State.onAccess_sns (s : State) (f : Access → Access) : (s.onAccess f).sns = s.sns := rfl
@[simp] theorem State.onAccess_saf (s : State) (f : Access → Access) : (s.onAccess f).saf = s.saf := rfl
@[simp] theorem State.onAccess_book (s : State) (f : Access → Access) : (s.onAccess f).book = s.book := rfl
@[simp] theorem State.onAccess_pwr (s : State) (f : Access → Access) : (s.onAccess f).pwr = s.pwr := rfl
@[simp] theorem State.onAccess_start (s : State) (f : Access → Access) : (s.onAccess f).start = s.start := rfl
@[simp] theorem State.onAccess_access (s : State) (f : Access → Access) : (s.onAccess f).access = f s.access := rfl

@[simp] theorem State.onStart_pending (s : State) (f : Start → Start) : (s.onStart f).pending = s.pending := rfl
@[simp] theorem State.onStart_free (s : State) (f : Start → Start) : (s.onStart f).free = s.free := rfl
@[simp] theorem State.onStart_regs (s : State) (f : Start → Start) : (s.onStart f).regs = s.regs := rfl
@[simp] theorem State.onStart_banks (s : State) (f : Start → Start) : (s.onStart f).banks = s.banks := rfl
@[simp] theorem State.onStart_clk (s : State) (f : Start → Start) : (s.onStart f).clk = s.clk := rfl
@[simp] theorem State.onStart_ports (s : State) (f : Start → Start) : (s.onStart f).ports = s.ports := rfl
@[simp] theorem State.onStart_tim (s : State) (f : Start → Start) : (s.onStart f).tim = s.tim := rfl
@[simp] theorem State.onStart_lnk (s : State) (f : Start → Start) : (s.onStart f).lnk = s.lnk := rfl
@[simp] theorem State.onStart_que (s : State) (f : Start → Start) : (s.onStart f).que = s.que := rfl
@[simp] theorem State.onStart_fau (s : State) (f : Start → Start) : (s.onStart f).fau = s.fau := rfl
@[simp] theorem State.onStart_prm (s : State) (f : Start → Start) : (s.onStart f).prm = s.prm := rfl
@[simp] theorem State.onStart_stream (s : State) (f : Start → Start) : (s.onStart f).stream = s.stream := rfl
@[simp] theorem State.onStart_plane (s : State) (f : Start → Start) : (s.onStart f).plane = s.plane := rfl
@[simp] theorem State.onStart_regions (s : State) (f : Start → Start) : (s.onStart f).regions = s.regions := rfl
@[simp] theorem State.onStart_chans (s : State) (f : Start → Start) : (s.onStart f).chans = s.chans := rfl
@[simp] theorem State.onStart_feeds (s : State) (f : Start → Start) : (s.onStart f).feeds = s.feeds := rfl
@[simp] theorem State.onStart_adc (s : State) (f : Start → Start) : (s.onStart f).adc = s.adc := rfl
@[simp] theorem State.onStart_chn (s : State) (f : Start → Start) : (s.onStart f).chn = s.chn := rfl
@[simp] theorem State.onStart_wch (s : State) (f : Start → Start) : (s.onStart f).wch = s.wch := rfl
@[simp] theorem State.onStart_trg (s : State) (f : Start → Start) : (s.onStart f).trg = s.trg := rfl
@[simp] theorem State.onStart_codec (s : State) (f : Start → Start) : (s.onStart f).codec = s.codec := rfl
@[simp] theorem State.onStart_pmc (s : State) (f : Start → Start) : (s.onStart f).pmc = s.pmc := rfl
@[simp] theorem State.onStart_sns (s : State) (f : Start → Start) : (s.onStart f).sns = s.sns := rfl
@[simp] theorem State.onStart_saf (s : State) (f : Start → Start) : (s.onStart f).saf = s.saf := rfl
@[simp] theorem State.onStart_book (s : State) (f : Start → Start) : (s.onStart f).book = s.book := rfl
@[simp] theorem State.onStart_pwr (s : State) (f : Start → Start) : (s.onStart f).pwr = s.pwr := rfl
@[simp] theorem State.onStart_access (s : State) (f : Start → Start) : (s.onStart f).access = s.access := rfl
@[simp] theorem State.onStart_start (s : State) (f : Start → Start) : (s.onStart f).start = f s.start := rfl

@[simp] theorem State.onPort_pending (s : State) (p : Nat) (f : Port → Port) : (s.onPort p f).pending = s.pending := rfl
@[simp] theorem State.onPort_free (s : State) (p : Nat) (f : Port → Port) : (s.onPort p f).free = s.free := rfl
@[simp] theorem State.onPort_regs (s : State) (p : Nat) (f : Port → Port) : (s.onPort p f).regs = s.regs := rfl
@[simp] theorem State.onPort_banks (s : State) (p : Nat) (f : Port → Port) : (s.onPort p f).banks = s.banks := rfl
@[simp] theorem State.onPort_clk (s : State) (p : Nat) (f : Port → Port) : (s.onPort p f).clk = s.clk := rfl
@[simp] theorem State.onPort_tim (s : State) (p : Nat) (f : Port → Port) : (s.onPort p f).tim = s.tim := rfl
@[simp] theorem State.onPort_lnk (s : State) (p : Nat) (f : Port → Port) : (s.onPort p f).lnk = s.lnk := rfl
@[simp] theorem State.onPort_que (s : State) (p : Nat) (f : Port → Port) : (s.onPort p f).que = s.que := rfl
@[simp] theorem State.onPort_fau (s : State) (p : Nat) (f : Port → Port) : (s.onPort p f).fau = s.fau := rfl
@[simp] theorem State.onPort_prm (s : State) (p : Nat) (f : Port → Port) : (s.onPort p f).prm = s.prm := rfl
@[simp] theorem State.onPort_stream (s : State) (p : Nat) (f : Port → Port) : (s.onPort p f).stream = s.stream := rfl
@[simp] theorem State.onPort_plane (s : State) (p : Nat) (f : Port → Port) : (s.onPort p f).plane = s.plane := rfl
@[simp] theorem State.onPort_regions (s : State) (p : Nat) (f : Port → Port) : (s.onPort p f).regions = s.regions := rfl
@[simp] theorem State.onPort_chans (s : State) (p : Nat) (f : Port → Port) : (s.onPort p f).chans = s.chans := rfl
@[simp] theorem State.onPort_feeds (s : State) (p : Nat) (f : Port → Port) : (s.onPort p f).feeds = s.feeds := rfl
@[simp] theorem State.onPort_adc (s : State) (p : Nat) (f : Port → Port) : (s.onPort p f).adc = s.adc := rfl
@[simp] theorem State.onPort_chn (s : State) (p : Nat) (f : Port → Port) : (s.onPort p f).chn = s.chn := rfl
@[simp] theorem State.onPort_wch (s : State) (p : Nat) (f : Port → Port) : (s.onPort p f).wch = s.wch := rfl
@[simp] theorem State.onPort_trg (s : State) (p : Nat) (f : Port → Port) : (s.onPort p f).trg = s.trg := rfl
@[simp] theorem State.onPort_codec (s : State) (p : Nat) (f : Port → Port) : (s.onPort p f).codec = s.codec := rfl
@[simp] theorem State.onPort_pmc (s : State) (p : Nat) (f : Port → Port) : (s.onPort p f).pmc = s.pmc := rfl
@[simp] theorem State.onPort_sns (s : State) (p : Nat) (f : Port → Port) : (s.onPort p f).sns = s.sns := rfl
@[simp] theorem State.onPort_saf (s : State) (p : Nat) (f : Port → Port) : (s.onPort p f).saf = s.saf := rfl
@[simp] theorem State.onPort_book (s : State) (p : Nat) (f : Port → Port) : (s.onPort p f).book = s.book := rfl
@[simp] theorem State.onPort_pwr (s : State) (p : Nat) (f : Port → Port) : (s.onPort p f).pwr = s.pwr := rfl
@[simp] theorem State.onPort_start (s : State) (p : Nat) (f : Port → Port) : (s.onPort p f).start = s.start := rfl
@[simp] theorem State.onPort_access (s : State) (p : Nat) (f : Port → Port) : (s.onPort p f).access = s.access := rfl
@[simp] theorem State.onPort_ports (s : State) (p : Nat) (f : Port → Port) : (s.onPort p f).ports = s.ports.modify p f := rfl

@[simp] theorem State.setQueue_pending (s : State) (q : Nat) (x : Queue) : (s.setQueue q x).pending = s.pending := rfl
@[simp] theorem State.setQueue_free (s : State) (q : Nat) (x : Queue) : (s.setQueue q x).free = s.free := rfl
@[simp] theorem State.setQueue_regs (s : State) (q : Nat) (x : Queue) : (s.setQueue q x).regs = s.regs := rfl
@[simp] theorem State.setQueue_banks (s : State) (q : Nat) (x : Queue) : (s.setQueue q x).banks = s.banks := rfl
@[simp] theorem State.setQueue_clk (s : State) (q : Nat) (x : Queue) : (s.setQueue q x).clk = s.clk := rfl
@[simp] theorem State.setQueue_ports (s : State) (q : Nat) (x : Queue) : (s.setQueue q x).ports = s.ports := rfl
@[simp] theorem State.setQueue_tim (s : State) (q : Nat) (x : Queue) : (s.setQueue q x).tim = s.tim := rfl
@[simp] theorem State.setQueue_lnk (s : State) (q : Nat) (x : Queue) : (s.setQueue q x).lnk = s.lnk := rfl
@[simp] theorem State.setQueue_fau (s : State) (q : Nat) (x : Queue) : (s.setQueue q x).fau = s.fau := rfl
@[simp] theorem State.setQueue_prm (s : State) (q : Nat) (x : Queue) : (s.setQueue q x).prm = s.prm := rfl
@[simp] theorem State.setQueue_stream (s : State) (q : Nat) (x : Queue) : (s.setQueue q x).stream = s.stream := rfl
@[simp] theorem State.setQueue_plane (s : State) (q : Nat) (x : Queue) : (s.setQueue q x).plane = s.plane := rfl
@[simp] theorem State.setQueue_regions (s : State) (q : Nat) (x : Queue) : (s.setQueue q x).regions = s.regions := rfl
@[simp] theorem State.setQueue_chans (s : State) (q : Nat) (x : Queue) : (s.setQueue q x).chans = s.chans := rfl
@[simp] theorem State.setQueue_feeds (s : State) (q : Nat) (x : Queue) : (s.setQueue q x).feeds = s.feeds := rfl
@[simp] theorem State.setQueue_adc (s : State) (q : Nat) (x : Queue) : (s.setQueue q x).adc = s.adc := rfl
@[simp] theorem State.setQueue_chn (s : State) (q : Nat) (x : Queue) : (s.setQueue q x).chn = s.chn := rfl
@[simp] theorem State.setQueue_wch (s : State) (q : Nat) (x : Queue) : (s.setQueue q x).wch = s.wch := rfl
@[simp] theorem State.setQueue_trg (s : State) (q : Nat) (x : Queue) : (s.setQueue q x).trg = s.trg := rfl
@[simp] theorem State.setQueue_codec (s : State) (q : Nat) (x : Queue) : (s.setQueue q x).codec = s.codec := rfl
@[simp] theorem State.setQueue_pmc (s : State) (q : Nat) (x : Queue) : (s.setQueue q x).pmc = s.pmc := rfl
@[simp] theorem State.setQueue_sns (s : State) (q : Nat) (x : Queue) : (s.setQueue q x).sns = s.sns := rfl
@[simp] theorem State.setQueue_saf (s : State) (q : Nat) (x : Queue) : (s.setQueue q x).saf = s.saf := rfl
@[simp] theorem State.setQueue_book (s : State) (q : Nat) (x : Queue) : (s.setQueue q x).book = s.book := rfl
@[simp] theorem State.setQueue_pwr (s : State) (q : Nat) (x : Queue) : (s.setQueue q x).pwr = s.pwr := rfl
@[simp] theorem State.setQueue_start (s : State) (q : Nat) (x : Queue) : (s.setQueue q x).start = s.start := rfl
@[simp] theorem State.setQueue_access (s : State) (q : Nat) (x : Queue) : (s.setQueue q x).access = s.access := rfl

end Sys2Proof.Machine
end

