-- ==== Sys2Proof/WellFormed.lean ====
section
/-! DEFINITION. What a well-formed command is: the lists that it carries have the lengths that the manual gives them, and
its readings the widths. Every other operand is bounded by its type. -/

namespace Sys2Proof

/-- Does a value fit a width in two's complement? -/
def fitsSigned (width : Nat) (x : Int) : Bool := decide (-(2 ^ (width - 1) : Nat) ≤ x) && decide (x < (2 ^ (width - 1) : Nat))

/-- The check of each command: R170 and R211 for blocks, with the 30 results after its own that the filters of R99 and R127 reach,
R42 for the ten pace monitors, R45 for the four regions, R87 and R91 for the 32 feeds, R100 for the 32 factors, R129 for the
four units of a cluster, R271 for payloads, R294 for read answers, R448 for the eight offsets, R355 to R360 for the monitor's
readings, R188 and R200 for segments. -/
def Instr.wf (i : Instr) : Bool :=
  match i with
  | .registerWrite .. => true
  | .pairLowRead .. => true
  | .watchCellRead .. => true
  | .diagWindowRead .. => true
  | .refclkLoss => true
  | .elasticBufferOverflow _ n => n % 64 == 0
  | .paceLoopTick margins => margins.length == 10
  | .vcoreStepDown => true
  | .paceFault => true
  | .autoFallback => true
  | .paceSwitch .. => true
  | .paceRestore .. => true
  | .paceClrMin .. => true
  | .rateSwitchIngestStop => true
  | .rateSwitchRelock _ readings => readings.length == 4
  | .rateSwitchResume => true
  | .paceFaultClear => true
  | .streamPacketComplete _ n0 _ _ => n0 % 64 == 0
  | .rawBlockWrite _ n conv ahead => n % 64 == 0 && conv.length == 64 && decide (30 ≤ ahead.length)
  | .moduleIdWrite .. => true
  | .unitEnableWrite .. => true
  | .unitEnableTakeEffect => true
  | .stationWideReport .. => true
  | .regionFault .. => true
  | .calSourceFault .. => true
  | .thermalThreshold .. => true
  | .thermalRecover .. => true
  | .rangeWrite .. => true
  | .rangeChangeApply .. => true
  | .autoRangeDecision .. => true
  | .arThrWrite .. => true
  | .feedStateTick current _ _ _ => current.length == 32
  | .feedEnWrite .. => true
  | .feedOverloadTrip .. => true
  | .feedRetry .. => true
  | .feedSweep .. => true
  | .feedSweepPeriodic => true
  | .feedSweepStartUp => true
  | .feedTestPulse before => before.length == 32
  | .feedPulseEnd _ now => now.length == 32
  | .feedSweepEnd => true
  | .vfeedUndervoltage .. => true
  | .vfeedRecover .. => true
  | .bgWindowEnd _ levels share _ edges => decide (share ≤ 100) && levels.length == 16 && edges.length == 16
  | .rehearsalStart .. => true
  | .rehearsalConnect .. => true
  | .rehearsalPhase .. => true
  | .rehearsalReconnect .. => true
  | .calSave .. => true
  | .calSaveDone .. => true
  | .calLoad .. => true
  | .regionPllLock .. => true
  | .injectRequest .. => true
  | .injectWindowStart .. => true
  | .injectComplete .. => true
  | .skewWrite .. => true
  | .skewChangeApply .. => true
  | .skewCalRequest .. => true
  | .skewCalComplete _ meas => meas.length == 4
  | .notchWrite .. => true
  | .notchBwWrite .. => true
  | .notchChangeApply .. => true
  | .firBankSwap .. => true
  | .chainConfigWrite .. => true
  | .chainChangeApply .. => true
  | .spectrumFrame _ _ ups => ups.length == 4097
  | .prototypeSwap .. => true
  | .prototypeSwapApply => true
  | .chnEnWrite .. => true
  | .frameRecord => true
  | .kChange .. => true
  | .segSwap .. => true
  | .segSwapApply => true
  | .maskSwap .. => true
  | .maskSwapApply => true
  | .eccSweep .. => true
  | .detectorWindowEnd .. => true
  | .impulseDetectorFire .. => true
  | .triggerInputEdge .. => true
  | .softwareCue .. => true
  | .cueProposal .. => true
  | .cueClose => true
  | .trigOutEnd => true
  | .budgetIntervalEnd => true
  | .snippetExtractStart => true
  | .snippetComplete _ size _ _ => decide (1 ≤ size)
  | .freeze .. => true
  | .freezeStop => true
  | .rearm .. => true
  | .rearmLogClear .. => true
  | .rearmResume => true
  | .readoutRequest .. => true
  | .readoutComplete _ size _ _ => decide (1 ≤ size)
  | .streamApply .. => true
  | .streamApplyTakeEffect => true
  | .codecJobStart => true
  | .codecJobComplete .. => true
  | .codecCancel .. => true
  | .frameStart .. => true
  | .lingerExpiry .. => true
  | .queueFlush .. => true
  | .queueFlushDone .. => true
  | .drop3 .. => true
  | .drop3Done => true
  | .hwmReset .. => true
  | .bringupAttempt .. => true
  | .bringupFrameReceived .. => true
  | .laneUp .. => true
  | .bringupTimeout .. => true
  | .waitExpiry .. => true
  | .seedReceived .. => true
  | .realign .. => true
  | .realignTimeout .. => true
  | .lossOfSignal .. => true
  | .partnerTraining .. => true
  | .retrain .. => true
  | .idleEntry .. => true
  | .hushReceived .. => true
  | .fastExit .. => true
  | .refreshBurst .. => true
  | .clrErr .. => true
  | .laneSetChange .. => true
  | .classPolicyWrite .. => true
  | .frameReceived _ header payload _ _ _ => payload.length == header.toNat / 2 ^ 48 % 64 && decide (payload.length ≤ 32)
  | .creditFrame .. => true
  | .creditSend .. => true
  | .reorderTimeout => true
  | .nudge => true
  | .memRdData _ _ _ data => decide (data.length ≤ 31)
  | .memWrErr .. => true
  | .memReadTimeout => true
  | .memPathChange => true
  | .memPathResume => true
  | .origin .. => true
  | .follow .. => true
  | .probeSend .. => true
  | .answer .. => true
  | .rebase => true
  | .relationRepeat => true
  | .heartbeat .. => true
  | .pathLoss .. => true
  | .ppsEdge .. => true
  | .ppsLoss => true
  | .acceptJump .. => true
  | .asymCal .. => true
  | .asymCalDone => true
  | .asymApply .. => true
  | .voteCorrection .. => true
  | .commit .. => true
  | .pollStart => true
  | .pollComplete => true
  | .ringResume .. => true
  | .nop => true
  | .fence => true
  | .regWr => true
  | .regRd => true
  | .blockRd => true
  | .inject .. => true
  | .codec => true
  | .safetyCycle samples _ _ _ _ ssi line vaux balls differ _ => decide (samples.length ≤ 100) && decide (ssi < 2 ^ 33) && decide (line < 8) && decide (vaux < 4096) && decide (balls.length = 2) && decide (differ ≤ 3)
  | .siTestPulse .. => true
  | .curtainTest balls => decide (balls.length = 2)
  | .safetyStatusSend => true
  | .safetyCommand .. => true
  | .commandCopyTimeout => true
  | .degradedExpiry => true
  | .safeResetRelease .. => true
  | .safeResetStuck => true
  | .safetyAck .. => true
  | .safetyParam .. => true
  | .safetyActivate .. => true
  | .sensorPulse .. => true
  | .sensorConversion .. => true
  | .switchEvaluate .. => true
  | .stageTick .. => true
  | .stageRestore => true
  | .forceStage .. => true
  | .sheddingNotice => true
  | .keeperPowerFail => true
  | .orderlyStop .. => true
  | .keeperRestart .. => true
  | .keeperDropOut => true
  | .vinOvervoltage .. => true
  | .railFault .. => true
  | .regionRestore .. => true
  | .pbCommit .. => true
  | .pbPeriodicCommit => true
  | .pbCommitDone .. => true
  | .vinClrMin .. => true
  | .coldReset .. => true
  | .resetNAssert .. => true
  | .resetNRelease .. => true
  | .warm .. => true
  | .restart .. => true
  | .restartIngestStop => true
  | .restartResume .. => true
  | .stuckReset .. => true
  | .overrideClear => true
  | .startupRehearsal .. => true
  | .startupReady => true
  | .timeWaitExpiry => true
  | .faultReport .. => true
  | .incidentHoldExpiry .. => true
  | .incidentCloseTimer .. => true
  | .incidentReportSend .. => true
  | .close .. => true
  | .purgePrevious .. => true
  | .configScrub .. => true
  | .flashRefresh .. => true
  | .telemetry => true
  | .snap .. => true
  | .clrWrap .. => true
  | .dumpNow .. => true
  | .periodicDump => true
  | .focusConfigWrite .. => true
  | .tracerRecord _ offsets => offsets.length == 8
  | .smbusWrite .. => true
  | .smbusSetReadAddress .. => true
  | .smbusRead => true
  | .alertResponse => true
  | .uartWrite .. => true
  | .uartRead .. => true
  | .keyProvisioning .. => true
  | .jtagTestLogicReset => true
  | .bypass => true
  | .idcode => true
  | .samplePreload .. => true
  | .extest .. => true
  | .clamp => true
  | .highz => true
  | .unitFailure .. => true
  | .dieFault .. => true
  | .refclkReturn => true
  | .lanePllUnlock .. => true
  | .seedFound .. => true
  | .configurationImageLoaded _ _ _ image _ _ => image.all fun p => p.1 % 4 == 0 && decide (p.1 < 2 ^ 32) && decide (p.2 < 2 ^ 32)
  | .overVoltageEnd .. => true
  | .curtainOverload .. => true
  | .safetySetWritten => true
  | .uartFrameGap => true
  | .smbusClockLowTimeout => true

end Sys2Proof
end

