-- ==== Sys2Proof/Tests/Slice0.lean ====
section
/-! SUPPORT. Tests: worked examples of the manual, ill-formed commands, and for every statement with hypotheses a witness that
they can be met: for each clause a state and operands, the operands at a bound of their range where they have one. -/

open Sys2Proof Sys2Proof.Machine
namespace Sys2Proof.Tests
set_option Elab.async false
/-- A powered region with its PLL locked. -/
def region0 : Region := { powered := true, locked := true }
/-- A channel that has produced samples since count 64. -/
def chan0 : Chan := { since := some 64, range := 15 }
/-- The registers of `ready`: start-up is done (phase 8) and the stage is S0. -/
def regs0 : Table Word := [(F.MGT_START_STAT, 8), (F.PWR_STAGE, 0x220)]
/-- A module at work: CX and every unit run, with each region locked. -/
def ready : State :=
  { start := { booted := true }
    plane := { cxOn := true, ingest := true, unitOn := 2 ^ 64 - 1, monitors := true }
    clk := { count := 100000, running := true, tick := 500 }
    regions := List.replicate 4 region0
    chans := List.replicate 64 chan0
    sns := { on := true }, saf := { on := true }
    regs := regs0 }
/-- Every stream in mode 5 (84). -/
def modes5 (s : State) : State :=
  { s with
    regs := regs0 ++ (List.range 64).map fun n => (F.CDC_STREAM_MODE + 4 * n, 84)
    stream := { on := 2 ^ 64 - 1 } }
/-- `ready` with every stream in mode 5 (84) and no lane enabled, so that admission refuses. -/
def heavy : State :=
  { ready with
    regs := regs0 ++ (List.range 64).map (fun n => (F.CDC_STREAM_MODE + 4 * n, 84)) ++
      (List.range 24).map fun n => (F.LNK_LANE_CTL + 4 * n, 8)
    stream := { on := 2 ^ 64 - 1 } }

/-- Whether a state is sound, as a decidable value. -/
def isSound (s : State) : Bool :=
  tableWf coldWord s.regs && tableWf coldWord s.banks && s.ports.length == 10 && s.que.length == 12 &&
    s.lnk.lanes.length == 24 && s.chans.length == 64 && s.regions.length == 4
/-- Whether a state is sound and its keeper runs. -/
def isAwake (s : State) : Bool := isSound s && s.keeperRuns
/-- Whether a state is sound and both its keeper and CX run. -/
def isWorking (s : State) : Bool := isAwake s && s.cxRuns

/-- The Bool says what the hypothesis says. -/
theorem sound {s : State} (h : isSound s = true) : s.Sound := by
  simp only [isSound, Bool.and_eq_true, beq_iff_eq] at h
  obtain ⟨⟨⟨⟨⟨⟨a, b⟩, c⟩, d⟩, e⟩, f⟩, g⟩ := h
  exact ⟨a, b, c, d, e, f, g⟩
/-- The Bool says what the hypothesis says. -/
theorem awake {s : State} (h : isAwake s = true) : s.Awake := by
  simp only [isAwake, Bool.and_eq_true] at h
  exact ⟨sound h.1, h.2⟩
/-- The Bool says what the hypothesis says. -/
theorem working {s : State} (h : isWorking s = true) : s.Working := by
  simp only [isWorking, Bool.and_eq_true] at h
  exact ⟨(awake h.1).sound, (awake h.1).keeper, h.2⟩

/-- Both sample modules are at work. -/
theorem test_samples_work : isWorking ready = true ∧ isWorking heavy = true := by decide +kernel

/-! ### The worked examples of the manual -/

/-- Module 1207 (0x04B7). -/
def module1207 : State := { ready with regs := [(F.MGT_START_STAT, 8), (F.MGT_MODULE_ID, 0x04B7), (F.PWR_STAGE, 0x220)] }

/-- The locations of 00_scope.md, "location codes on module 1207". -/
theorem test_locations :
    module1207.locUnit 45 = 0x04B71231 ∧ module1207.locCxUnit 45 = 0x04B72231 ∧ module1207.locRegion 2 = 0x04B712FF ∧
      module1207.locKeeper = 0x04B73FFF ∧ module1207.locModule = 0x04B7FFFF := by decide +kernel

/-- The SEED of 10_barif_lanes.md, "a SEED, a SYNC and the first body bits": 66 bits, with a 1 after each 12 zeros. -/
theorem test_seed :
    seedBits 0x08000000 = List.replicate 32 false ++ [true, false, false, false, true] ++ List.replicate 12 false ++ [true] ++
      List.replicate 12 false ++ [true] ++ List.replicate 3 false := by decide +kernel

/-- The first 20 body bits of the same example take 21 bits, 0110 1111 1111 1111 0 0000, and leave 0x0009_0000. -/
theorem test_body_bits :
    stuff (scramble 0x08000000 (List.replicate 16 true ++ List.replicate 4 false)) =
        [false, true, true, false] ++ List.replicate 12 true ++ [false] ++ List.replicate 4 false ∧
      scrAdvance 0x08000000 20 = 0x00090000 := by decide +kernel

/-- The two headers of 11_barif_frames_and_paths.md, "an S4 stream and a cue record on module 1207". -/
theorem test_headers :
    frameHeader { ftype := 0x80, cls := 1, seq := 0x1A2B, lane := 3, module_ := 0x04B7, words := [0, 0, 0, 0, 0] } =
        0x8045001A2B0304B7 ∧
      frameHeader { ftype := 0x80, cls := 1, seq := 0x1A2B, path := 1, lane := 14, module_ := 0x04B7, words := [0, 0, 0, 0, 0] } =
        0x8045001A2B8E04B7 := by decide +kernel

/-- The interval of 06_watch_cells.md, "a carrier switching on at 137.55 MHz"; LEVEL shows as 0x2C6. -/
theorem test_cell :
    ({ acc := -80328, level := -350, duty := 12, last := 412 } : Cell).evaluate 8 (-320) (-336) 4 true =
        { on := true, acc := 0, level := -314, duty := 27, dwell := 127, last := 0 } ∧
      wrapBits 10 (-314) = 0x2C6 := by decide +kernel

/-- The packet header and the block of 08_sage_codec.md, "one S3 block on channel 22": EXP 8, 0x3862_0000, then 011 010 000 110. -/
theorem test_s3_block :
    streamHeader 22 0 3 3600000000 = 0x583000000035A4E9 ∧ sExp 3 [731, 412, -97, -604] = 8 ∧
      bitsVal ((codeBlock 3 ([731, 412, -97, -604] ++ List.replicate 60 0) { range := 6, settle := true } {}).take 44) =
        0x38620000686 := by decide +kernel

/-- The second decoder of R216: the same block passes as coded, and fails with the sign of its second sample inverted; a Sage L block
with its first bit inverted fails, and is sent in mode 0x9. -/
theorem test_verify :
    blockFails 3 ([731, 412, -97, -604] ++ List.replicate 60 0) {} = false ∧
      blockFails 3 ([731, 412, -97, -604] ++ List.replicate 60 0) { flips := [3] } = true ∧
      bitsVal ((codeBlock 8 (List.replicate 64 5) {} { flips := [0] }).take 4) = 9 := by decide +kernel

/-- The reading of 15_slow_sensors.md, "an enclosure over-temperature and a broken lead". -/
theorem test_resistance : sensorValue { input := 5, mode := 1, iexc := 1000000 } 32307 0 = 1232414 := by decide +kernel

/-- The addresses of 20_register_index.md, "two addresses on module 1207": the cell of channel 45 and subband 939, and word 3 of
incident entry 17. -/
theorem test_addresses :
    inCells 0x01169D58 = true ∧ latchedBy 0x01169D58 = [0x01169D5C] ∧ (0x01169D58 - 0x01000000) / 8 = 4096 * 45 + 939 ∧
      latchedBy (F.FAU_INC_LO + 8 * 71) = [0x00381 * 0x1000 + 0x23C] := by decide +kernel

/-- The incidents of 18_faults_and_background.md, "a region PLL fault on module 1207", with 3 of its 16 overflows: the PLL fault
is the root, its COUNT takes in theirs, and they name it. -/
theorem test_incident_fold :
    let s := ((List.range 3).foldl (fun s k => s.report 0x2201 (s.locUnit (32 + k)) 0) module1207).report 0x2101
      (module1207.locRegion 2) 0
    (s.fau.inc.map fun x => x.count).take 4 = [1, 1, 1, 4] ∧ (s.fau.inc.map fun x => x.root).take 3 = [4, 4, 4] := by
  decide +kernel

/-! ### Commands -/

/-- A field of the state after a command. -/
def after (c : Instr) (s : State) (f : State → Nat) : Option Nat :=
  match exec c s with
  | .next t => some (f t)
  | _ => none

/-- A field with limits stores the nearer one (R455): QUE_LINGER.C1_LINGER holds 1000 after a write of 1023. -/
theorem test_write_clamps : after (.registerWrite 0 (BitVec.ofNat 32 F.QUE_LINGER) 0x000503FF) ready (fun t => t.rd F.QUE_LINGER_C1_LINGER) = some 1000 := by
  decide +kernel

/-- A write of the safety monitor is refused (R371). -/
theorem test_safety_refused : after (.registerWrite 3 (BitVec.ofNat 32 F.SAF_CFG) 1) ready (fun t => (t.port 3).status) = some 1 := by
  decide +kernel

/-- A pace loop tick with one margin below 10% raises VCORE by 10 mV (R42). -/
theorem test_pace_step : after (.paceLoopTick [50, 50, 9, 50, 50, 50, 50, 50, 50, 50]) (ready.wr F.PWR_PACE_CTL_LOOP_EN 0 1)
    (fun t => t.rd F.PWR_VCORE_SETPOINT_MV) = some (ready.rd F.PWR_VCORE_SETPOINT_MV + 10) := by decide +kernel

/-- No row of the table has bits, so no word spells a command. -/
theorem test_no_word (n w : Nat) : decodeTableWord n w = none := rfl

/-! ### Ill-formed commands: one for each check of Instr.wf -/

theorem test_wf_overflow : Instr.wf (.elasticBufferOverflow 0 63) = false := by decide
theorem test_wf_pace : Instr.wf (.paceLoopTick [1, 2, 3]) = false := by decide
theorem test_wf_relock : Instr.wf (.rateSwitchRelock 0 [0]) = false := by decide
theorem test_wf_packet_count : Instr.wf (.streamPacketComplete 0 1 [] []) = false := by decide
theorem test_wf_block_count : Instr.wf (.rawBlockWrite 0 63 (List.replicate 64 0) (List.replicate 30 0)) = false := by decide
theorem test_wf_block_results : Instr.wf (.rawBlockWrite 0 64 (List.replicate 63 0) (List.replicate 30 0)) = false := by decide
theorem test_wf_block_ahead : Instr.wf (.rawBlockWrite 0 64 (List.replicate 64 0) (List.replicate 29 0)) = false := by decide
theorem test_wf_bins : Instr.wf (.spectrumFrame 0 3 []) = false := by decide
theorem test_wf_feeds : Instr.wf (.feedStateTick [200] 0 0 0) = false := by decide
theorem test_wf_pulse : Instr.wf (.feedTestPulse []) = false := by decide
theorem test_wf_pulse_end : Instr.wf (.feedPulseEnd true (List.replicate 31 0)) = false := by decide
theorem test_wf_share : Instr.wf (.bgWindowEnd 0 (List.replicate 16 0) 101 0 (List.replicate 16 0)) = false := by decide
theorem test_wf_errors : Instr.wf (.bgWindowEnd 0 (List.replicate 16 0) 100 0 []) = false := by decide
theorem test_wf_skew : Instr.wf (.skewCalComplete 0 [1, 2, 3]) = false := by decide
theorem test_wf_snippet : Instr.wf (.snippetComplete 0 0 [] []) = false := by decide
theorem test_wf_readout : Instr.wf (.readoutComplete 0 0 [] []) = false := by decide
theorem test_wf_payload : Instr.wf (.frameReceived 0 0x8045001A2B0304B7 [] 0 0 0) = false := by decide
theorem test_wf_payload_size : Instr.wf (.frameReceived 0 0x8061001A2B0304B7 (List.replicate 33 0) 0 0 0) = false := by decide
theorem test_wf_data : Instr.wf (.memRdData 0 0 0 (List.replicate 32 0)) = false := by decide
theorem test_wf_samples : Instr.wf (.safetyCycle (List.replicate 101 0) 0 0 false none 0 3 2400 [(0, 0), (0, 0)] 0 1000) = false := by decide
theorem test_wf_ssi : Instr.wf (.safetyCycle [] 0 0 false none (2 ^ 33) 3 2400 [(0, 0), (0, 0)] 0 1000) = false := by decide
theorem test_wf_line : Instr.wf (.safetyCycle [] 0 0 false none 0 8 2400 [(0, 0), (0, 0)] 0 1000) = false := by decide
theorem test_wf_vaux : Instr.wf (.safetyCycle [] 0 0 false none 0 3 4096 [(0, 0), (0, 0)] 0 1000) = false := by decide
theorem test_wf_balls : Instr.wf (.safetyCycle [] 0 0 false none 0 3 2400 [(0, 0)] 0 1000) = false := by decide
theorem test_wf_differ : Instr.wf (.safetyCycle [] 0 0 false none 0 3 2400 [(0, 0), (0, 0)] 4 1000) = false := by decide
theorem test_wf_curtain_test : Instr.wf (.curtainTest []) = false := by decide
theorem test_wf_offsets : Instr.wf (.tracerRecord 0 []) = false := by decide
theorem test_wf_image_aligned : Instr.wf (.configurationImageLoaded 0 0 true [(2, 0)] true true) = false := by decide
theorem test_wf_image_address : Instr.wf (.configurationImageLoaded 0 0 true [(4294967296, 0)] true true) = false := by decide
theorem test_wf_image_word : Instr.wf (.configurationImageLoaded 0 0 true [(0, 4294967296)] true true) = false := by decide
theorem test_wf_good : Instr.wf (.frameReceived 0 0x8041001A2B0304B7 [0] 0 0 0) = true := by decide

end Sys2Proof.Tests

namespace Sys2Proof.Tests.Ports
set_option Elab.async false

def s0 : State := ready
def s1 : State := ready.wr F.PRM_STAT_COMMITTED 0 1
def s2 : State := { ready with clk := { ready.clk with refclk := false } }
def s3 : State := ready.report 0x3107 ready.locKeeper 0
def s4 : State := ready.wr F.SAF_STAT_STATE 0 7
theorem works_s0 : s0.Working := working (by decide +kernel)
theorem awakes_s0 : s0.Awake := awake (by decide +kernel)
theorem awakes_s1 : s1.Awake := awake (by decide +kernel)
theorem awakes_s2 : s2.Awake := awake (by decide +kernel)
theorem awakes_s3 : s3.Awake := awake (by decide +kernel)
theorem awakes_s4 : s4.Awake := awake (by decide +kernel)

/-- The hypotheses of PortWriteOutcomes are met, those of each clause by a state and operands of its own. -/
theorem witness_PortWriteOutcomes :
    (∃ (s : State) (a : BitVec 32), s.Awake ∧ (inCells a.toNat || inRingWindow a.toNat) = true ∧ a.toNat % 4 = 0) ∧
    (∃ (s : State) (a : BitVec 32), s.Awake ∧ (a.toNat % 4 ≠ 0 ∨ (inCells a.toNat || inRingWindow a.toNat) = false ∧ regAt
      a.toNat = none)) ∧
    (∃ (s : State) (a : BitVec 32) (r : RegDef), s.Awake ∧ (inCells a.toNat || inRingWindow a.toNat) = false ∧ a.toNat % 4 =
      0 ∧ regAt a.toNat = some r ∧ 0x300000 ≤ a.toNat ∧ a.toNat < 0x340000) ∧
    (∃ (s : State) (a : BitVec 32) (w : Word) (r : RegDef), s.Awake ∧ (inCells a.toNat || inRingWindow a.toNat) = false ∧
      a.toNat % 4 = 0 ∧ regAt a.toNat = some r ∧ (a.toNat < 0x300000 ∨ 0x340000 ≤ a.toNat) ∧ (onKeeper a.toNat = true ∨
      s.cxRuns = true) ∧ (s.locked = false ∨ changesLocked r (s.regGet a.toNat) w = false)) ∧
    (∃ (s : State) (a : BitVec 32) (w : Word) (r : RegDef), s.Awake ∧ (inCells a.toNat || inRingWindow a.toNat) = false ∧
      a.toNat % 4 = 0 ∧ regAt a.toNat = some r ∧ (a.toNat < 0x300000 ∨ 0x340000 ≤ a.toNat) ∧ (onKeeper a.toNat = true ∨
      s.cxRuns = true) ∧ s.locked = true ∧ changesLocked r (s.regGet a.toNat) w = true) :=
  ⟨⟨s0, 0x2000010, awakes_s0, by decide +kernel⟩,
   ⟨s0, 6, awakes_s0, by decide +kernel⟩,
   ⟨s0, 0x300000, ((regAt (0x300000 : BitVec 32).toNat).get (by decide +kernel)), awakes_s0, by decide +kernel⟩,
   ⟨s0, 0, 0, ((regAt (0 : BitVec 32).toNat).get (by decide +kernel)), awakes_s0, by decide +kernel⟩,
   ⟨s1, 0x2C0010, 0x10004, ((regAt (0x2C0010 : BitVec 32).toNat).get (by decide +kernel)), awakes_s1,
      by decide +kernel⟩⟩

/-- The hypotheses of PlainWriteStores are met, those of each clause by a state and operands of its own. -/
theorem witness_PlainWriteStores :
    (∃ (s : State) (p : Fin 10) (a : BitVec 32) (w : Word) (r : RegDef), s.Working ∧ (inCells a.toNat || inRingWindow
      a.toNat) = false ∧ a.toNat % 4 = 0 ∧ regAt a.toNat = some r ∧ (a.toNat < 0x300000 ∨ 0x340000 ≤ a.toNat) ∧
      (s.locked = false ∨ changesLocked r (s.regGet a.toNat) w = false) ∧ (∀ u : State, u.writeMgt r p a.toNat w = none
      ∧ u.writeFront r a.toNat w s.writeNs = none ∧ u.writeCore r a.toNat w = none ∧ u.writeLink r a.toNat w = none)) :=
  ⟨s0, 0, 0, 0, ((regAt (0 : BitVec 32).toNat).get (by decide +kernel)), works_s0, by decide +kernel,
      by decide +kernel, by decide +kernel, by decide +kernel, by decide +kernel, fun u => ⟨rfl, rfl, rfl, rfl⟩⟩

/-- The hypotheses of ManagementPorts are met, those of each clause by a state and operands of its own. -/
theorem witness_ManagementPorts :
    (∃ (s : State), s.Awake ∧ s.smbAlert = true) ∧
    (∃ (s : State) (a : BitVec 32) (w : Word) (c : BitVec 8), s.Awake ∧ c.toNat = crc8 (uartBody 0x10 a.toNat (wordBytes
      w.toNat))) ∧
    (∃ (s : State) (a : BitVec 32) (w : Word) (c : BitVec 8), s.Awake ∧ c.toNat = crc8 (uartBody 0x12 a.toNat (wordBytes
      w.toNat))) ∧
    (∃ (s : State) (a : BitVec 32) (w : Word) (c : BitVec 8), s.Awake ∧ c.toNat ≠ crc8 (uartBody 0x10 a.toNat (wordBytes
      w.toNat))) ∧
    (∃ (s : State) (a : BitVec 32) (w : Word) (c : BitVec 8), s.Awake ∧ c.toNat ≠ crc8 (uartBody 0x12 a.toNat (wordBytes
      w.toNat))) :=
  ⟨⟨s3, awakes_s3, by decide +kernel⟩,
   ⟨s0, 0, 0, 0x85, awakes_s0, by decide +kernel⟩,
   ⟨s0, 0, 0, 0x77, awakes_s0, by decide +kernel⟩,
   ⟨s0, 0, 0, 0, awakes_s0, by decide +kernel⟩,
   ⟨s0, 0, 0, 0, awakes_s0, by decide +kernel⟩⟩

/-- The hypotheses of KeeperCommands are met, those of each clause by a state and operands of its own. -/
theorem witness_KeeperCommands :
    (∃ (s : State), s.Awake ∧ s.clk.refclk = true) ∧
    (∃ (s : State), s.Awake ∧ s.clk.refclk = false) ∧
    (∃ (s : State), s.Awake ∧ (s.safState = 7 ∨ s.safState = 4)) ∧
    (∃ (s : State), s.Awake ∧ s.safState ≠ 7 ∧ s.safState ≠ 4) :=
  ⟨⟨s0, awakes_s0, by decide +kernel⟩,
   ⟨s2, awakes_s2, by decide +kernel⟩,
   ⟨s4, awakes_s4, by decide +kernel⟩,
   ⟨s0, awakes_s0, by decide +kernel⟩⟩

end Sys2Proof.Tests.Ports

namespace Sys2Proof.Tests.Inputs
set_option Elab.async false
def upd (s : State) (f : Plane → Plane) : State := { s with plane := f s.plane }
def fst (s : State) (i v : Nat) : State := s.wr F.AFE_FEED_STAT_STATE i v
def feedsOn : State :=
  { ready with regs := regs0 ++ (F.AFE_FEED_EN, 0xFFFFFFFF) :: (List.range 32).map fun n => (F.AFE_FEED_STAT + 4 * n, 1) }
def onc (s : State) (ch : Nat) (f : Chan → Chan) : State := s.onChan ch f
def s0 : State := ready
def s1 : State := (((onc ready 5 fun c => { c with age := 20000, hot := true, arDue := some 100096 }).wr F.AFE_RANGE_AR_EN 5 1).wr F.AFE_RANGE_AR_MAX 5 15).wr F.AFE_RANGE_RANGE 5 7
def s5 : State := heavy.wr F.AFE_UNIT_EN_EN 0 3
def s6 : State := upd (ready.wr F.PWR_PACE_CTL_LOOP_EN 0 1) (fun p => { p with good := 1200, low := 12, ok := 2000 })
def s9 : State := upd (((ready.wr F.PWR_PACE_STAT_PACE_FAULT 0 1).wr F.PWR_PACE_CTL_AUTO_FALLBACK 0 1).wr F.PWR_PACE_FMAX_FMAX_MHZ 0 1100) (fun p => { p with ok := 1000, reduced := [(64, none)] })
def s10 : State := upd (ready.wr F.PWR_PACE_STAT_SWITCHED 0 1) (fun p => { p with reduced := [(64, none)] })
def s11 : State := { upd ready (fun p => { p with switch := some { target := 1000000000, n := 101376 } }) with pmc := { tags := [{ ch := 3 }] } }
def s12 : State := { upd ready (fun p => { p with ingest := false, switch := some { target := 1000000000, n := 101376, stage := 1 } }) with clk := { ready.clk with count := 101376, running := false } }
def s13 : State := { upd ready (fun p => { p with ingest := false, switch := some { target := 1000000000, n := 101376, stage := 2 } }) with clk := { ready.clk with count := 101376, running := false } }
def s15 : State := upd (ready.wr F.AFE_UNIT_EN_EN 0 3) (fun p => { p with unitOn := 3, unitPend := [(5, true, 102400), (1, false, 103424)] })
def s17 : State := { ready with regions := [{ region0 with failed := true, locked := false }, { region0 with locked := false }, region0, { region0 with resumeAt := some 102400 }] }
def s22 : State := ((onc ready 5 fun c => { c with rangeAt := some 100096 }).wr F.AFE_RANGE_RANGE 5 7).wr F.AFE_RANGE_PENDING 5 1
def s26 : State := feedsOn
def s28 : State := { fst feedsOn 5 feedOverload with feeds := { ready.feeds with feeds := (List.replicate 32 {}).set 5 { retryAt := some 600 } } }
def s29 : State := { fst feedsOn 5 feedNoSupply with feeds := { ready.feeds with vfeedOk := false } }
def s30 : State := feedsOn.wr F.AFE_FEED_TP_PERIODIC 0 1
def s31 : State := { feedsOn with feeds := { feedsOn.feeds with sweep := some {} } }
def s32 : State := { feedsOn.wr F.AFE_FEED_TP_BUSY 0 1 with feeds := { feedsOn.feeds with sweep := some { next := 5, pulse := some (5, 100000), before := List.replicate 32 200 } } }
def s33 : State := { ready.wr F.AFE_FEED_TP_BUSY 0 1 with feeds := { feedsOn.feeds with sweep := some { next := 5, skipped := [1, 2] } } }
def s90 : State := fst feedsOn 5 feedOpen
def s91 : State := { feedsOn with feeds := { feedsOn.feeds with vfeedOk := false } }
def s92 : State := { feedsOn with feeds := { feedsOn.feeds with shed := [true, true, true, true] } }
def s93 : State := ready
def s94 : State := { feedsOn with feeds := { feedsOn.feeds with feeds := (List.replicate 32 {}).set 5 { trip := true } } }
def s95 : State := { feedsOn with feeds := { feedsOn.feeds with feeds := (List.replicate 32 {}).set 5 { short := some 4 } } }
def s96 : State := feedsOn
theorem works_s0 : s0.Working := working (by decide +kernel)
theorem awakes_s0 : s0.Awake := awake (by decide +kernel)
theorem works_s1 : s1.Working := working (by decide +kernel)
theorem works_s5 : s5.Working := working (by decide +kernel)
theorem awakes_s6 : s6.Awake := awake (by decide +kernel)
theorem awakes_s9 : s9.Awake := awake (by decide +kernel)
theorem awakes_s10 : s10.Awake := awake (by decide +kernel)
theorem awakes_s11 : s11.Awake := awake (by decide +kernel)
theorem awakes_s12 : s12.Awake := awake (by decide +kernel)
theorem awakes_s13 : s13.Awake := awake (by decide +kernel)
theorem works_s15 : s15.Working := working (by decide +kernel)
theorem works_s17 : s17.Working := working (by decide +kernel)
theorem works_s22 : s22.Working := working (by decide +kernel)
theorem awakes_s26 : s26.Awake := awake (by decide +kernel)
theorem awakes_s28 : s28.Awake := awake (by decide +kernel)
theorem awakes_s29 : s29.Awake := awake (by decide +kernel)
theorem awakes_s30 : s30.Awake := awake (by decide +kernel)
theorem awakes_s31 : s31.Awake := awake (by decide +kernel)
theorem awakes_s32 : s32.Awake := awake (by decide +kernel)
theorem awakes_s33 : s33.Awake := awake (by decide +kernel)
theorem awakes_s90 : s90.Awake := awake (by decide +kernel)
theorem awakes_s91 : s91.Awake := awake (by decide +kernel)
theorem awakes_s92 : s92.Awake := awake (by decide +kernel)
theorem awakes_s93 : s93.Awake := awake (by decide +kernel)
theorem awakes_s94 : s94.Awake := awake (by decide +kernel)
theorem awakes_s95 : s95.Awake := awake (by decide +kernel)
theorem awakes_s96 : s96.Awake := awake (by decide +kernel)

/-- The hypotheses of PaceLoop are met, those of each clause by a state and operands of its own. -/
theorem witness_PaceLoop :
    (∃ (s : State), s.Awake ∧ s.plane.monitors = true ∧ s.fau.again = []) ∧
    (∃ (s : State), s.Awake ∧ s.cxRuns = true ∧ 1000 ≤ s.plane.good ∧ s.rdB F.PWR_PACE_CTL_LOOP_EN = true) ∧
    (∃ (s : State), s.Awake ∧ s.cxRuns = true ∧ 1000 ≤ s.plane.ok ∧ s.rdB F.PWR_PACE_STAT_PACE_FAULT = true ∧ s.rdB
      F.PWR_PACE_STAT_SWITCHED = false) ∧
    (∃ (s : State), s.Awake ∧ s.cxRuns = true ∧ 10 ≤ s.plane.low) :=
  ⟨⟨s0, awakes_s0, by decide +kernel⟩,
   ⟨s6, awakes_s6, by decide +kernel⟩,
   ⟨s9, awakes_s9, by decide +kernel⟩,
   ⟨s6, awakes_s6, by decide +kernel⟩⟩

/-- The hypotheses of RateSwitch are met, those of each clause by a state and operands of its own. -/
theorem witness_RateSwitch :
    (∃ (s : State), s.Awake ∧ s.rdB F.PWR_PACE_STAT_PACE_FAULT = true ∧ s.plane.switch = none ∧ s.plane.ingest = true) ∧
    (∃ (s : State), s.Awake ∧ s.rdB F.PWR_PACE_STAT_SWITCHED = true ∧ s.plane.switch = none ∧ s.plane.ingest = true) ∧
    (∃ (s : State), s.Awake ∧ s.cxRuns = true ∧ s.rdB F.PWR_PACE_CTL_AUTO_FALLBACK = true ∧ s.rdB F.PWR_PACE_STAT_PACE_FAULT
      = true ∧ s.plane.switch = none ∧ s.plane.ingest = true) ∧
    (∃ (s : State) (w : RateSwitch), s.Awake ∧ s.cxRuns = true ∧ s.plane.switch = some w ∧ w.stage = 0 ∧ s.restarting =
      false ∧ s.clk.running = true ∧ s.clk.count ≤ w.n) ∧
    (∃ (s : State) (w : RateSwitch), s.Awake ∧ s.cxRuns = true ∧ s.plane.switch = some w ∧ w.stage = 1 ∧ s.clk.running =
      false ∧ s.clk.refclk = true) ∧
    (∃ (s : State) (w : RateSwitch), s.Awake ∧ s.cxRuns = true ∧ s.plane.switch = some w ∧ w.stage = 2) :=
  ⟨⟨s9, awakes_s9, by decide +kernel⟩,
   ⟨s10, awakes_s10, by decide +kernel⟩,
   ⟨s9, awakes_s9, by decide +kernel⟩,
   ⟨s11, ((s11.plane.switch).get (by decide +kernel)), awakes_s11, by decide +kernel⟩,
   ⟨s12, ((s12.plane.switch).get (by decide +kernel)), awakes_s12, by decide +kernel⟩,
   ⟨s13, ((s13.plane.switch).get (by decide +kernel)), awakes_s13, by decide +kernel⟩⟩

/-- The hypotheses of RawBlocks are met, those of each clause by a state and operands of its own. -/
theorem witness_RawBlocks :
    (∃ (s : State) (ch : Fin 64) (n : Nat), s.Working ∧ (s.chan ch).drops.contains (n / 64 * 64) = false ∧ (s.chan ch).since
      ≠ none) ∧
    (∃ (s : State) (ch : Fin 64), s.Working ∧ (s.chan ch).failed = false) ∧
    (∃ (s : State) (ch : Fin 64) (n : Nat) (a : Nat), s.Working ∧ s.producing ch = true ∧ n % 64 = 0 ∧ (s.chan ch).since =
      some a ∧ a ≤ n ∧ (∀ b ∈ (s.chan ch).recent, b.n < n)) ∧
    (∃ (s : State) (n : Nat), s.Working ∧ (s.plane.unitPend.map fun p => p.2.2).min? = some n ∧ s.clk.running = true ∧
      s.clk.count ≤ n) ∧
    (∃ (s : State) (half : Fin 2) (w : Word) (old : Nat) (new : Nat), s.Working ∧ old = s.unitMap ∧ new = (if half.val = 0
      then old / 2 ^ 32 * 2 ^ 32 + w.toNat else w.toNat * 2 ^ 32 + old % 2 ^ 32) ∧ s.locked = false ∧ ((∀ c : Fin 64,
      new.testBit c = true → old.testBit c = true) ∨ AdmitCfg.refusedBy { s.admitCfg with units := new } s.clk.fs =
      none)) ∧
    (∃ (s : State) (half : Fin 2) (w : Word) (old : Nat) (new : Nat) (q : Nat), s.Working ∧ old = s.unitMap ∧ new = (if
      half.val = 0 then old / 2 ^ 32 * 2 ^ 32 + w.toNat else w.toNat * 2 ^ 32 + old % 2 ^ 32) ∧ s.locked = false ∧ (¬ (∀
      c : Fin 64, new.testBit c = true → old.testBit c = true)) ∧ AdmitCfg.refusedBy { s.admitCfg with units := new }
      s.clk.fs = some q) :=
  ⟨⟨s0, 0, 0, works_s0, by decide +kernel⟩,
   ⟨s0, 0, works_s0, by decide +kernel⟩,
   ⟨s0, 0, 99968, (((s0.chan (0 : Fin 64)).since).get (by decide +kernel)), works_s0, by decide +kernel⟩,
   ⟨s15, (((s15.plane.unitPend.map fun p => p.2.2).min?).get (by decide +kernel)), works_s15, by decide +kernel⟩,
   ⟨s0, 0, 0, s0.unitMap, (if (0 : Fin 2).val = 0 then (s0.unitMap : Nat) / 2 ^ 32 * 2 ^ 32 + (0 : Word).toNat else (0
      : Word).toNat * 2 ^ 32 + (s0.unitMap : Nat) % 2 ^ 32), works_s0, by decide +kernel⟩,
   ⟨s5, 0, 0x12345678, s5.unitMap, (if (0 : Fin 2).val = 0 then (s5.unitMap : Nat) / 2 ^ 32 * 2 ^ 32 + (0x12345678 :
      Word).toNat else (0x12345678 : Word).toNat * 2 ^ 32 + (s5.unitMap : Nat) % 2 ^ 32), ((AdmitCfg.refusedBy
      { s5.admitCfg with units := ((if (0 : Fin 2).val = 0 then (s5.unitMap : Nat) / 2 ^ 32 * 2 ^ 32 + (0x12345678 : Word).toNat else (0x12345678 : Word).toNat * 2 ^ 32 + (s5.unitMap : Nat) % 2 ^ 32) : Nat) }
      s5.clk.fs).get (by decide +kernel)), works_s5, by decide +kernel⟩⟩

/-- The hypotheses of RegionFaults are met, those of each clause by a state and operands of its own. -/
theorem witness_RegionFaults :
    (∃ (s : State) (r : Fin 4), s.Working ∧ (s.region r).monitored = true) ∧
    (∃ (s : State) (d : Fin 2), s.Working ∧ s.plane.qfFault.getD d false = false ∧ d.val < s.plane.qfFault.length) ∧
    (∃ (s : State), s.Working ∧ s.plane.cxFault = false) ∧
    (∃ (s : State) (r : Fin 4), s.Working ∧ (s.region r).powered = true ∧ (s.region r).locked = false ∧ (s.region r).thermal
      = false ∧ (s.region r).shed = false ∧ ((s.region r).failed = false ∨ s.restarting = true) ∧ s.clk.refclk = true) ∧
    (∃ (s : State) (r : Fin 4) (n : Nat), s.Working ∧ (s.region r).resumeAt = some n ∧ (s.region r).live = true ∧
      s.plane.ingest = true ∧ s.clk.running = true ∧ s.restarting = false) :=
  ⟨⟨s0, 0, works_s0, by decide +kernel⟩,
   ⟨s0, 0, works_s0, by decide +kernel⟩,
   ⟨s0, works_s0, by decide +kernel⟩,
   ⟨s17, 1, works_s17, by decide +kernel⟩,
   ⟨s17, 3, (((s17.region (3 : Fin 4)).resumeAt).get (by decide +kernel)), works_s17, by decide +kernel⟩⟩

/-- The hypotheses of Ranges are met, those of each clause by a state and operands of its own. -/
theorem witness_Ranges :
    (∃ (s : State) (w : Word), s.Working ∧ getField w 12 4 < getField w 8 4) ∧
    (∃ (s : State) (w : Word), s.Working ∧ getField w 8 4 ≤ getField w 12 4) ∧
    (∃ (s : State) (ch : Fin 64) (n : Nat), s.Working ∧ (s.chan ch).rangeAt = some n) ∧
    (∃ (s : State) (ch : Fin 64) (n : Nat), s.Working ∧ s.rdB F.AFE_RANGE_AR_EN ch = true ∧ s.rehearsing (ch.val / 16) =
      false ∧ (s.chan ch).arDue = some n) ∧
    (∃ (s : State) (w : Word), s.Working ∧ 1303 * getField w 16 12 < 1000 * getField w 0 12) ∧
    (∃ (s : State) (w : Word), s.Working ∧ 1000 * getField w 0 12 ≤ 1303 * getField w 16 12) :=
  ⟨⟨s0, 0x12345678, works_s0, by decide +kernel⟩,
   ⟨s0, 0, works_s0, by decide +kernel⟩,
   ⟨s22, 5, (((s22.chan (5 : Fin 64)).rangeAt).get (by decide +kernel)), works_s22, by decide +kernel⟩,
   ⟨s1, 5, (((s1.chan (5 : Fin 64)).arDue).get (by decide +kernel)), works_s1, by decide +kernel⟩,
   ⟨s0, 0x12345678, works_s0, by decide +kernel⟩,
   ⟨s0, 0, works_s0, by decide +kernel⟩⟩

/-- The hypotheses of Feeds are met, those of each clause by a state and operands of its own (part 1). -/
theorem witness_Feeds :
    (∃ (s : State) (a : Fin 32) (c : Nat) (u : State), s.Awake ∧ u = (s.wr F.AFE_FEED_STAT_CURRENT_MA a (min 1023 c)).onFeed
      a (fun x => { x with soft := x.soft - 1, short := none, clear := false }) ∧ s.feeds.vfeedOk = false) ∧
    (∃ (s : State) (a : Fin 32) (c : Nat) (u : State), s.Awake ∧ u = (s.wr F.AFE_FEED_STAT_CURRENT_MA a (min 1023 c)).onFeed
      a (fun x => { x with soft := x.soft - 1, short := none, clear := false }) ∧ s.feeds.vfeedOk = true ∧ s.feedsShed a
      = true) ∧
    (∃ (s : State) (a : Fin 32) (c : Nat) (u : State), s.Awake ∧ u = (s.wr F.AFE_FEED_STAT_CURRENT_MA a (min 1023 c)).onFeed
      a (fun x => { x with soft := x.soft - 1, short := none, clear := false }) ∧ s.feedFed a = true ∧ s.feedEn a =
      false) ∧
    (∃ (s : State) (a : Fin 32) (c : Nat) (u : State), s.Awake ∧ u = (s.wr F.AFE_FEED_STAT_CURRENT_MA a (min 1023 c)).onFeed
      a (fun x => { x with soft := x.soft - 1, short := none, clear := false }) ∧ s.feedFed a = true ∧ s.feedEn a = true
      ∧ (s.feed a).trip = true ∧ s.feedState a ≠ feedOverload) ∧
    (∃ (s : State) (a : Fin 32) (c : Nat) (u : State) (d : Nat), s.Awake ∧ u = (s.wr F.AFE_FEED_STAT_CURRENT_MA a (min 1023
      c)).onFeed a (fun x => { x with soft := x.soft - 1, short := none, clear := false }) ∧ s.feedFed a = true ∧
      s.feedEn a = true ∧ (s.feed a).trip = false ∧ s.feedState a ≠ feedOverload ∧ (s.feed a).short = some d) ∧
    (∃ (s : State) (a : Fin 32) (c : Nat) (b : Bool) (u : State), s.Awake ∧ u = (s.wr F.AFE_FEED_STAT_CURRENT_MA a (min 1023
      c)).onFeed a (fun x => { x with soft := x.soft - 1, short := none, clear := false }) ∧ s.feedFed a = true ∧
      s.feedEn a = true ∧ (s.feed a).trip = false ∧ s.feedState a ≠ feedOverload ∧ (s.feed a).short = none ∧ s.feedState
      a = feedOpen ∧ b = true) ∧
    (∃ (s : State) (a : Fin 32) (c : Nat) (o : Bool) (u : State), s.Awake ∧ u = (s.wr F.AFE_FEED_STAT_CURRENT_MA a (min 1023
      c)).onFeed a (fun x => { x with soft := x.soft - 1, short := none, clear := false }) ∧ s.feedFed a = true ∧
      s.feedEn a = true ∧ (s.feed a).trip = false ∧ s.feedState a ≠ feedOverload ∧ (s.feed a).short = none ∧ s.feedState
      a = feedOn ∧ o = true ∧ (s.feed a).soft ≤ 1 ∧ s.pulsing a = false) ∧
    (∃ (s : State) (a : Fin 32), s.Awake ∧ s.feedEn a = true ∧ s.feedFed a = true ∧ (s.feed a).trip = false ∧ ((s.feed
      a).retrying = true ∨ (s.feed a).soft = 0 ∧ s.feedState a ≠ feedOverload)) :=
  ⟨⟨s91, 5, 0, (s91.wr F.AFE_FEED_STAT_CURRENT_MA (5 : Fin 32) (min 1023 (0 : Nat))).onFeed (5 : Fin 32) (fun x =>
      { x with soft := x.soft - 1, short := none, clear := false }), awakes_s91, by decide +kernel⟩,
   ⟨s92, 31, 1023, (s92.wr F.AFE_FEED_STAT_CURRENT_MA (31 : Fin 32) (min 1023 (1023 : Nat))).onFeed (31 : Fin 32) (fun
      x => { x with soft := x.soft - 1, short := none, clear := false }), awakes_s92, by decide +kernel⟩,
   ⟨s93, 0, 0, (s93.wr F.AFE_FEED_STAT_CURRENT_MA (0 : Fin 32) (min 1023 (0 : Nat))).onFeed (0 : Fin 32) (fun x =>
      { x with soft := x.soft - 1, short := none, clear := false }), awakes_s93, by decide +kernel⟩,
   ⟨s94, 5, 1024, (s94.wr F.AFE_FEED_STAT_CURRENT_MA (5 : Fin 32) (min 1023 (1024 : Nat))).onFeed (5 : Fin 32) (fun x
      => { x with soft := x.soft - 1, short := none, clear := false }), awakes_s94, by decide +kernel⟩,
   ⟨s95, 5, 500, (s95.wr F.AFE_FEED_STAT_CURRENT_MA (5 : Fin 32) (min 1023 (500 : Nat))).onFeed (5 : Fin 32) (fun x =>
      { x with soft := x.soft - 1, short := none, clear := false }), 4, awakes_s95, by decide +kernel⟩,
   ⟨s90, 5, 0, true, (s90.wr F.AFE_FEED_STAT_CURRENT_MA (5 : Fin 32) (min 1023 (0 : Nat))).onFeed (5 : Fin 32) (fun x
      => { x with soft := x.soft - 1, short := none, clear := false }), awakes_s90, by decide +kernel⟩,
   ⟨s96, 5, 0, true, (s96.wr F.AFE_FEED_STAT_CURRENT_MA (5 : Fin 32) (min 1023 (0 : Nat))).onFeed (5 : Fin 32) (fun x
      => { x with soft := x.soft - 1, short := none, clear := false }), awakes_s96, by decide +kernel⟩,
   ⟨s26, 0, awakes_s26, by decide +kernel⟩⟩

/-- The hypotheses of Feeds are met, those of each clause by a state and operands of its own (part 2). -/
theorem witness_Feeds_2 :
    (∃ (s : State) (a : Fin 32) (k : Nat), s.Awake ∧ (s.feed a).retryAt = some k ∧ s.feedState a = feedOverload ∧ s.feedEn a
      = true ∧ s.feedFed a = true ∧ s.feeds.feeds.length = 32) ∧
    (∃ (s : State), s.Awake ∧ s.feeds.vfeedOk = true) ∧
    (∃ (s : State), s.Awake ∧ s.feeds.vfeedOk = false) ∧
    (∃ (s : State), s.Awake ∧ s.feeds.sweep = none) ∧
    (∃ (s : State), s.Awake ∧ s.rdB F.AFE_FEED_TP_PERIODIC = true ∧ s.feeds.sweep = none) ∧
    (∃ (s : State), s.Awake ∧ s.feeds.startSwept = false ∧ (∀ x ∈ s.feeds.feeds, x.soft = 0) ∧ s.sns.on = true ∧
      s.feeds.sweep = none) ∧
    (∃ (s : State) (w : Sweep) (a : Nat), s.Awake ∧ s.feeds.sweep = some w ∧ w.pulse = none ∧ (∀ x, s.plane.switch = some x
      → x.stage = 0) ∧ ((List.range 32).filter fun b => decide (w.next ≤ b)).find? (fun b => s.eligible b) = some a) ∧
    (∃ (s : State) (w : Sweep) (a : Nat) (n : Nat), s.Awake ∧ s.feeds.sweep = some w ∧ w.pulse = some (a, n)) :=
  ⟨⟨s28, 5, (((s28.feed (5 : Fin 32)).retryAt).get (by decide +kernel)), awakes_s28, by decide +kernel⟩,
   ⟨s0, awakes_s0, by decide +kernel⟩,
   ⟨s29, awakes_s29, by decide +kernel⟩,
   ⟨s0, awakes_s0, by decide +kernel⟩,
   ⟨s30, awakes_s30, by decide +kernel⟩,
   ⟨s0, awakes_s0, by decide +kernel⟩,
   ⟨s31, ((s31.feeds.sweep).get (by decide +kernel)), ((((List.range 32).filter fun b => decide
      ((((s31.feeds.sweep).get (by decide +kernel)) : Sweep).next ≤ b)).find? (fun b => s31.eligible b)).get
      (by decide +kernel)), awakes_s31, by decide +kernel⟩,
   ⟨s32, ((s32.feeds.sweep).get (by decide +kernel)), 5, 100000, awakes_s32, by decide +kernel⟩⟩

/-- The hypotheses of Feeds are met, those of each clause by a state and operands of its own (part 3). -/
theorem witness_Feeds_3 :
    (∃ (s : State) (w : Sweep), s.Awake ∧ s.feeds.sweep = some w ∧ w.pulse = none ∧ (∀ a < 32, w.next ≤ a → s.eligible a =
      false)) :=
  ⟨s33, ((s33.feeds.sweep).get (by decide +kernel)), awakes_s33, by decide +kernel⟩

end Sys2Proof.Tests.Inputs

namespace Sys2Proof.Tests.Filters
set_option Elab.async false
def onc (s : State) (ch : Nat) (f : Chan → Chan) : State := s.onChan ch f
def inj (s : State) (g : Nat) (l : List Inject) : State := { s with adc := { s.adc with inj := s.adc.inj.set g l } }
def reh (s : State) (r : Reh) : State := { s with adc := { s.adc with reh := List.replicate 4 r } }
def rec0 : FrameRec := { ch := 5, m := 12, power := List.replicate 4096 (-300) }
def ready1 : State := ready.wr F.ADC_CTL_BG_EN 0 1
def valid : CalSet := { cal := List.replicate 2048 77, phases := [0, 0, 0, 0], valid := true, seq := 1 }
def trim (s : State) : State := { s.wr F.ADC_CTL_CAL_MODE 0 1 with plane := { s.plane with trim := true } }
def notch1 : State := (ready1.wr F.FLT_NOTCH_FC 0 0x100000).wr F.FLT_NOTCH_EN 0 1
def bgc (b : BgWin) : State := onc ready1 0 fun c => { c with bg := b, bgIdle := 15 }
def blk (n : Nat) : RawBlk := { n := n, xs := (List.range 64).map fun (k : Nat) => (k : Int) - 7, clips := [] }
def frm (a : Nat) : State := { onc ready1 5 fun c => { c with recent := (List.range 600).map fun i => blk (106496 - 64 * (i + 1)) } with chn := { start := some a } }
def s0 : State := ready1
def s1 : State := bgc { start := some 64 }
def s2 : State := bgc { start := some 64, num := List.replicate 8 10, power := List.replicate 8 100000 }
def s4 : State := { (ready1.wr F.WCH_CTL_SWAP_PENDING 0 1).regPut F.WCH_MASK_TABLE 0x00040000 with wch := { maskAt := some 106496 } }
def s5 : State := frm 0
def s8 : State := heavy
def s9 : State := trim ready1
def s11 : State := { ready1.wr F.ADC_REH_STAT_SAVE_BUSY 0 1 with adc := { ready1.adc with saving := some 1, saved := [valid, valid] } }
def s12 : State := reh ready1 { busy := true, ns := 100096 }
def s13 : State := reh ready1 { busy := true, ns := 100096, connected := true, phase := 1, units := [0, 1] }
def s14 : State := reh ready1 { busy := true, ns := 100096, connected := true, phase := 8, units := [0, 1], factors := List.replicate 512 0, meas := List.replicate 8 [] }
def s15 : State := inj ready1 0 [{ ch := 1, least := 100096, ni := some 100096 }]
def s16 : State := inj ready1 0 [{ ch := 1, least := 100096, ni := some 100096, running := true }]
def s17 : State := inj ready1 0 [{ ch := 0, skew := true, least := 100096, ni := some 100096, running := true }]
def s18 : State := inj ready1 0 [{ ch := 0, skew := true, least := 100096, ni := some 100096 }, { ch := 1, least := 100096, prm := some (0, 0) }]
def s19 : State := onc ready1 0 fun c => { c with skewAt := some 100096 }
def s21 : State := notch1.wr F.FLT_NOTCH_FC 0 200
def s23 : State := onc notch1 0 fun c => { c with notchAt := [(100096, [{ notch := 0, settle := 100, en := true, fc := 0x100000, bw := 3 }])] }
def s25 : State := onc ready1 0 fun c => { c with chainAt := [(106496, true, 1, 0)] }
def s27 : State := reh (ready1.wr F.ADC_REH_STAT_BUSY 0 15) { busy := true, ns := 100096, connected := true, phase := 5, units := [0, 100, 3] }
def s29 : State := { ready1 with chn := { start := some 8192, records := [{ rec0 with ch := 100 }] } }
def s30 : State := { (ready1.wr F.WCH_SEG_OFF_THR 0 9).wr F.WCH_CTL_SWAP_PENDING 0 1 with wch := { segAt := some 106496 } }
def s31 : State := ready1.wr F.CHN_CTL_EN 0 0
def s35 : State := { ready1.wr F.CHN_CTL_SWAP_PENDING 0 1 with chn := { swapAt := some 106496 } }
theorem works_s0 : s0.Working := working (by decide +kernel)
theorem works_s1 : s1.Working := working (by decide +kernel)
theorem works_s2 : s2.Working := working (by decide +kernel)
theorem works_s4 : s4.Working := working (by decide +kernel)
theorem works_s5 : s5.Working := working (by decide +kernel)
theorem works_s8 : s8.Working := working (by decide +kernel)
theorem works_s9 : s9.Working := working (by decide +kernel)
theorem works_s11 : s11.Working := working (by decide +kernel)
theorem works_s12 : s12.Working := working (by decide +kernel)
theorem works_s13 : s13.Working := working (by decide +kernel)
theorem works_s14 : s14.Working := working (by decide +kernel)
theorem works_s15 : s15.Working := working (by decide +kernel)
theorem works_s16 : s16.Working := working (by decide +kernel)
theorem works_s17 : s17.Working := working (by decide +kernel)
theorem works_s18 : s18.Working := working (by decide +kernel)
theorem works_s19 : s19.Working := working (by decide +kernel)
theorem works_s21 : s21.Working := working (by decide +kernel)
theorem works_s23 : s23.Working := working (by decide +kernel)
theorem works_s25 : s25.Working := working (by decide +kernel)
theorem works_s27 : s27.Working := working (by decide +kernel)
theorem works_s29 : s29.Working := working (by decide +kernel)
theorem works_s30 : s30.Working := working (by decide +kernel)
theorem works_s31 : s31.Working := working (by decide +kernel)
theorem works_s35 : s35.Working := working (by decide +kernel)

/-- The hypotheses of CalibrationSets are met, those of each clause by a state and operands of its own. -/
theorem witness_CalibrationSets :
    (∃ (s : State) (ch : Fin 64) (share : Nat) (a : Nat), s.Working ∧ (s.chan ch).bg.start = some a ∧ s.bgRuns ch = true ∧
      ((s.chan ch).bg.strong = false ∨ 90 < share)) ∧
    (∃ (s : State) (ch : Fin 64) (share : Nat) (a : Nat), s.Working ∧ (s.chan ch).bg.start = some a ∧ s.bgRuns ch = true ∧
      (s.chan ch).bg.strong = true ∧ share ≤ 90) ∧
    (∃ (s : State), s.Working ∧ s.factoryTrim = false ∧ s.rehIdle = true ∧ s.adc.saving = none ∧ s.adc.saved.length = 2) ∧
    (∃ (s : State), s.Working ∧ (s.factoryTrim = true ∨ s.rehIdle = false)) ∧
    (∃ (s : State) (i : Nat), s.Working ∧ s.adc.saving = some i) ∧
    (∃ (s : State), s.Working ∧ s.rehIdle = true) ∧
    (∃ (s : State), s.Working ∧ s.rehIdle = false) :=
  ⟨⟨s1, 0, 0, (((s1.chan (0 : Fin 64)).bg.start).get (by decide +kernel)), works_s1, by decide +kernel⟩,
   ⟨s2, 0, 0, (((s2.chan (0 : Fin 64)).bg.start).get (by decide +kernel)), works_s2, by decide +kernel⟩,
   ⟨s0, works_s0, by decide +kernel⟩,
   ⟨s9, works_s9, by decide +kernel⟩,
   ⟨s11, ((s11.adc.saving).get (by decide +kernel)), works_s11, by decide +kernel⟩,
   ⟨s0, works_s0, by decide +kernel⟩,
   ⟨s27, works_s27, by decide +kernel⟩⟩

/-- The hypotheses of Rehearsal are met, those of each clause by a state and operands of its own. -/
theorem witness_Rehearsal :
    (∃ (s : State) (r : Fin 4) (mask : BitVec 4), s.Working ∧ s.adc.reh.length = 4 ∧ mask.toNat = 2 ^ r.val ∧ s.factoryTrim
      = false ∧ (s.rehOf r).busy = false ∧ (s.region r).live = true ∧ s.plane.ingest = true) ∧
    (∃ (s : State) (mask : BitVec 4), s.Working ∧ s.adc.reh.length = 4 ∧ mask.toNat ≠ 0 ∧ s.factoryTrim = true) ∧
    (∃ (s : State) (r : Fin 4), s.Working ∧ s.adc.reh.length = 4 ∧ (s.rehOf r).busy = true ∧ (s.rehOf r).connected = false) ∧
    (∃ (s : State) (r : Fin 4), s.Working ∧ s.adc.reh.length = 4 ∧ (s.rehOf r).connected = true ∧ (s.rehOf r).phase < 8) ∧
    (∃ (s : State) (r : Fin 4), s.Working ∧ s.adc.reh.length = 4 ∧ (s.rehOf r).connected = true ∧ (s.rehOf r).phase = 8) :=
  ⟨⟨s0, 0, 1, works_s0, by decide +kernel⟩,
   ⟨s9, 1, works_s9, by decide +kernel⟩,
   ⟨s12, 0, works_s12, by decide +kernel⟩,
   ⟨s13, 0, works_s13, by decide +kernel⟩,
   ⟨s14, 0, works_s14, by decide +kernel⟩⟩

/-- The hypotheses of Injection are met, those of each clause by a state and operands of its own. -/
theorem witness_Injection :
    (∃ (s : State) (w : Word) (x : Inject), s.Working ∧ s.adc.inj.length = 16 ∧ x =
      { ch := getField w 0 6, signal := (getField w 6 3, getField w 9 10, getField w 19 2) } ∧ s.injRefusal x = none ∧
      s.injQueue (x.ch / 4) = [] ∧ (s.adc.reh.getD (x.ch / 4 / 4) {}).busy = false) ∧
    (∃ (s : State) (w : Word) (x : Inject) (st : Nat), s.Working ∧ s.adc.inj.length = 16 ∧ x =
      { ch := getField w 0 6, signal := (getField w 6 3, getField w 9 10, getField w 19 2) } ∧ s.injRefusal x = some st) ∧
    (∃ (s : State) (g : Fin 16) (x : Inject) (rest : List Inject) (n : Nat), s.Working ∧ s.adc.inj.length = 16 ∧ s.injQueue
      g = x :: rest ∧ x.ni = some n ∧ x.running = false) ∧
    (∃ (s : State) (g : Fin 16) (x : Inject) (n : Nat), s.Working ∧ s.adc.inj.length = 16 ∧ s.injQueue g = [x] ∧ x.ni = some
      n ∧ x.running = true ∧ x.skew = false ∧ x.prm = none ∧ x.ch / 4 = g.val) ∧
    (∃ (s : State) (mask : BitVec 16) (g : Fin 16), s.Working ∧ s.adc.inj.length = 16 ∧ mask.toNat = 2 ^ g.val ∧
      s.injRefusal { ch := 4 * g.val, skew := true } = none ∧ s.injQueue g = [] ∧ (s.adc.reh.getD (g.val / 4) {}).busy =
      false) ∧
    (∃ (s : State) (g : Fin 16) (x : Inject) (n : Nat), s.Working ∧ s.adc.inj.length = 16 ∧ s.injQueue g = [x] ∧ x.ni = some
      n ∧ x.running = true ∧ x.skew = true ∧ x.prm = none ∧ x.ch = 4 * g.val) ∧
    (∃ (s : State) (g : Fin 16), s.Working ∧ s.adc.inj.length = 16 ∧ s.plane.sourceFault.contains g.val = false) :=
  ⟨⟨s0, 0,
      { ch := getField (0 : Word) 0 6, signal := (getField (0 : Word) 6 3, getField (0 : Word) 9 10, getField (0 : Word) 19 2) },
      works_s0, by decide +kernel⟩,
   ⟨s18, 0,
      { ch := getField (0 : Word) 0 6, signal := (getField (0 : Word) 6 3, getField (0 : Word) 9 10, getField (0 : Word) 19 2) },
      ((s18.injRefusal
      ({ ch := getField (0 : Word) 0 6, signal := (getField (0 : Word) 6 3, getField (0 : Word) 9 10, getField (0 : Word) 19 2) }
      : Inject)).get (by decide +kernel)), works_s18, by decide +kernel⟩,
   ⟨s15, 0, ((s15.injQueue (0 : Fin 16)).head (by decide +kernel)), [], (((((s15.injQueue (0 : Fin 16)).head
      (by decide +kernel)) : Inject).ni).get (by decide +kernel)), works_s15, by decide +kernel⟩,
   ⟨s16, 0, ((s16.injQueue (0 : Fin 16)).head (by decide +kernel)), (((((s16.injQueue (0 : Fin 16)).head
      (by decide +kernel)) : Inject).ni).get (by decide +kernel)), works_s16, by decide +kernel⟩,
   ⟨s0, 1, 0, works_s0, by decide +kernel⟩,
   ⟨s17, 0, ((s17.injQueue (0 : Fin 16)).head (by decide +kernel)), (((((s17.injQueue (0 : Fin 16)).head
      (by decide +kernel)) : Inject).ni).get (by decide +kernel)), works_s17, by decide +kernel⟩,
   ⟨s0, 0, works_s0, by decide +kernel⟩⟩

/-- The hypotheses of SkewAndNotches are met, those of each clause by a state and operands of its own. -/
theorem witness_SkewAndNotches :
    (∃ (s : State) (ch : Fin 64) (n : Nat), s.Working ∧ (s.chan ch).skewAt = some n ∧ (s.chan ch).phaseAt = none) ∧
    (∃ (s : State) (j : Fin 512) (w : Word), s.Working ∧ getField w 31 1 = 1 ∧ s.notchOk (j.val / 8) (getField w 0 24) (s.rd
      F.FLT_NOTCH_BW_BW j) = false) ∧
    (∃ (s : State) (j : Fin 512) (w : Word), s.Working ∧ (getField w 31 1 = 0 ∨ s.notchOk (j.val / 8) (getField w 0 24)
      (s.rd F.FLT_NOTCH_BW_BW j) = true)) ∧
    (∃ (s : State) (j : Fin 512) (w : Word), s.Working ∧ s.rdB F.FLT_NOTCH_EN j = true ∧ s.notchOk (j.val / 8) (s.rd
      F.FLT_NOTCH_FC j) (clampNat 100 100000 (getField w 0 17)) = false) ∧
    (∃ (s : State) (j : Fin 512) (w : Word), s.Working ∧ (s.rdB F.FLT_NOTCH_EN j = false ∨ s.notchOk (j.val / 8) (s.rd
      F.FLT_NOTCH_FC j) (clampNat 100 100000 (getField w 0 17)) = true)) ∧
    (∃ (s : State) (ch : Fin 64) (n : Nat) (l : List NotchChg), s.Working ∧ (s.chan ch).since ≠ none ∧ (s.chan ch).notchAt =
      [(n, l)]) :=
  ⟨⟨s19, 0, (((s19.chan (0 : Fin 64)).skewAt).get (by decide +kernel)), works_s19, by decide +kernel⟩,
   ⟨s0, 0, 0x80000000, works_s0, by decide +kernel⟩,
   ⟨s0, 0, 0, works_s0, by decide +kernel⟩,
   ⟨s21, 0, 0x12345678, works_s21, by decide +kernel⟩,
   ⟨s0, 0, 0, works_s0, by decide +kernel⟩,
   ⟨s23, 0, 100096, [{ notch := 0, settle := 100, en := true, fc := 1048576, bw := 3 }], works_s23, by decide +kernel⟩⟩

/-- The hypotheses of ChainsAndChanneliser are met, those of each clause by a state and operands of its own. -/
theorem witness_ChainsAndChanneliser :
    (∃ (s : State) (ch : Fin 64) (d : Fin 4) (o : Fin 4), s.Working ∧ o ≠ 3 ∧ (d.val = s.rd F.FLT_CHAIN_DECIM ch ∨
      AdmitCfg.refusedBy { s.admitCfg with decims := s.admitCfg.decims.set ch d } s.clk.fs = none)) ∧
    (∃ (s : State) (ch : Fin 64) (d : Fin 4) (o : Fin 4) (q : Nat), s.Working ∧ o ≠ 3 ∧ d.val ≠ s.rd F.FLT_CHAIN_DECIM ch ∧
      AdmitCfg.refusedBy { s.admitCfg with decims := s.admitCfg.decims.set ch d } s.clk.fs = some q) ∧
    (∃ (s : State) (ch : Fin 64), s.Working ∧ s.rd F.FLT_CHAIN_ORDER ch ≠ 3 ∧ (s.chan ch).since ≠ none ∧ (s.chan ch).chainAt
      = []) ∧
    (∃ (s : State) (ch : Fin 64) (n : Nat) (sw : Bool) (d : Nat) (o : Nat), s.Working ∧ (s.chan ch).since ≠ none ∧ (s.chan
      ch).chainAt = [(n, sw, d, o)]) ∧
    (∃ (s : State), s.Working ∧ s.rdB F.CHN_CTL_EN = true ∧ s.stage < 2) ∧
    (∃ (s : State), s.Working ∧ (s.rdB F.CHN_CTL_EN = false ∨ 2 ≤ s.stage)) ∧
    (∃ (s : State) (n : Nat), s.Working ∧ s.chn.swapAt = some n) ∧
    (∃ (s : State) (ch : Fin 64) (m : Nat) (a : Nat) (b : Nat), s.Working ∧ s.producing ch = true ∧ (s.chan ch).since = some
      a ∧ a ≤ 8192 * m ∧ s.chn.start = some b ∧ b ≤ 8192 * m ∧ (∀ x ∈ s.chn.records, x.ch ≠ ch.val) ∧ (s.wchan ch).last
      = none ∧ (∃ y ∈ (s.chan ch).recent, y.n = 8192 * m + 8128)) :=
  ⟨⟨s0, 0, 0, 0, works_s0, by decide +kernel⟩,
   ⟨s8, 0, 1, 0, ((AdmitCfg.refusedBy { s8.admitCfg with decims := s8.admitCfg.decims.set (0 : Fin 64) (1 : Fin 4) }
      s8.clk.fs).get (by decide +kernel)), works_s8, by decide +kernel⟩,
   ⟨s0, 0, works_s0, by decide +kernel⟩,
   ⟨s25, 0, 106496, true, 1, 0, works_s25, by decide +kernel⟩,
   ⟨s5, works_s5, by decide +kernel⟩,
   ⟨s31, works_s31, by decide +kernel⟩,
   ⟨s35, ((s35.chn.swapAt).get (by decide +kernel)), works_s35, by decide +kernel⟩,
   ⟨s5, 5, 12, (((s5.chan (5 : Fin 64)).since).get (by decide +kernel)), ((s5.chn.start).get (by decide +kernel)),
      works_s5, by decide +kernel⟩⟩

/-- The hypotheses of WatchCells are met, those of each clause by a state and operands of its own (part 1). -/
theorem witness_WatchCells :
    (∃ (s : State) (ch : Fin 64) (k : Fin 32), s.Working ∧ clampNat 4 16 k ≠ s.rd F.WCH_CHAN_K ch ∧ s.wch.chans.length = 64) ∧
    (∃ (s : State), s.Working ∧ s.wch.segAt = none) ∧
    (∃ (s : State) (n : Nat), s.Working ∧ s.wch.segAt = some n) ∧
    (∃ (s : State), s.Working ∧ s.wch.maskAt = none) ∧
    (∃ (s : State) (n : Nat), s.Working ∧ s.wch.maskAt = some n) ∧
    (∃ (s : State) (n : Nat), s.Working ∧ s.wch.segAt = some n ∧ s.chn.records = []) ∧
    (∃ (s : State) (n : Nat), s.Working ∧ s.wch.maskAt = some n ∧ s.chn.records = []) ∧
    (∃ (s : State) (x : FrameRec), s.Working ∧ s.chn.records = [x] ∧ s.wch.segAt = none ∧ s.wch.maskAt = none) :=
  ⟨⟨s0, 0, 0, works_s0, by decide +kernel⟩,
   ⟨s0, works_s0, by decide +kernel⟩,
   ⟨s30, ((s30.wch.segAt).get (by decide +kernel)), works_s30, by decide +kernel⟩,
   ⟨s0, works_s0, by decide +kernel⟩,
   ⟨s4, ((s4.wch.maskAt).get (by decide +kernel)), works_s4, by decide +kernel⟩,
   ⟨s30, ((s30.wch.segAt).get (by decide +kernel)), works_s30, by decide +kernel⟩,
   ⟨s4, ((s4.wch.maskAt).get (by decide +kernel)), works_s4, by decide +kernel⟩,
   ⟨s29, { rec0 with ch := 100 }, works_s29, rfl, rfl, rfl⟩⟩

/-- The hypotheses of WatchCells are met, those of each clause by a state and operands of its own (part 2). -/
theorem witness_WatchCells_2 :
    (∃ (s : State) (errors : Nat), s.Working ∧ tableWf (fun _ => 0) s.wch.cells = true ∧ errors = 1) ∧
    (∃ (s : State) (errors : Nat), s.Working ∧ tableWf (fun _ => 0) s.wch.cells = true ∧ 2 ≤ errors) :=
  ⟨⟨s0, 1, works_s0, by decide +kernel⟩,
   ⟨s0, 7, works_s0, by decide +kernel⟩⟩

end Sys2Proof.Tests.Filters

namespace Sys2Proof.Tests.Cues
set_option Elab.async false
def onc (s : State) (ch : Nat) (f : Chan → Chan) : State := s.onChan ch f
def onT (s : State) (f : Trg → Trg) : State := { s with trg := f s.trg }
def onQ (s : State) (i : Nat) (f : Queue → Queue) : State := { s with que := s.que.modify i f }
def impu (k : Nat) : List Int := (List.range 64).map fun i => if i = k then 900 else if i = k + 1 then 500 else 0
def det1 : State := onc (ready.wr F.TRG_DET_EN 0 1) 0 fun c => { c with det := { start := some 99976, nX := 40000, sumX := 80000, nE := 40000, sumE := 2 ^ 50 }, recent := [{ n := 100096, xs := impu 3, clips := [] }, { n := 100032, xs := impu 70, clips := [] }, { n := 99968, xs := impu 10, clips := [] }, { n := 99904, xs := impu 70, clips := [] }] }
def map64 : Nat := 2 ^ 64 - 1
def ring : State := { onT (ready.wr F.TRG_CTL_EN 0 1) fun t => { t with map := map64, running := true, restart := 64, proposals := [{ bit := 0, c := 99000, units := 3 }] } with
  chans := List.replicate 64 { chan0 with w := 99968 } }
def ringS (n : Nat) : State := ring.wr F.TRG_CTL_RING_STATE 0 n
def cueX : Cue := { c := 99000, id := 3, set := 3, pre := 640, post := 640, snip := true }
def jobX : SnipJob := { id := 3, set := 3, start := 98368, stop := 99712 }
def roX : Readout := { req := 7, first := 98368, stop := 99712, map := 3 }
def pkt (n : Nat) : Packet := { words := packetWords (List.replicate n 5), at_ := 99000 }
def strm : State := let s := modes5 ready; { onQ s 4 (fun q => { q with progress := [(0, 99328, 100)] }) with chans := s.chans.map fun c => { c with streams := [(0, 5)] } }
def cdc (o : Nat) : CJob := { ring := 0, idx := 0, words := [word64 [(56, 0x20), (32, o)], 0, 0, 0] }
def job1 : CJob := { words := [word64 [(52, 5), (0, 4096)], 1560, 1562, 4096] }
def road0 (n : Nat) : List (Nat × List Int) := (List.range n).map fun i => (98304 + 64 * i, (List.range 64).map fun (k : Nat) => ((k : Int) - 30) * 2 ^ 32)
def strmR : State := onc { strm with que := strm.que.modify 4 fun q => { q with progress := [(0, 98304, 100), (3, 99328, 50)] } } 0 fun c => { c with road := road0 24 }
def jr (j : SnipJob) : SnipJob := { j with running := true, id := 7, rd := { at_ := firstPlace j.set j.start j.stop } }
def rr (r : Readout) : Readout := { r with rd := { at_ := firstPlace r.map r.first r.stop } }
def s0 : State := strmR
def s3 : State := onT ring fun t => { t with jobs := [jr jobX] }
def s4 : State := onT ring fun t => { t with readouts := [rr roX] }
def s5 : State := onT ring fun t => { t with jobs := [jr jobX, jobX], readouts := [rr roX] }
def s6 : State := onT ring fun t => { t with jobs := [jr { jobX with stop := 200000 / 64 * 64 }] }
def s7 : State := onT ring fun t => { t with readouts := [rr { roX with stop := 200000 / 64 * 64 }] }
def s15 : State := ring.wr F.TRG_CTL_EN 0 0
def s16 : State := ring.wr F.TRG_SRC_STAT_K 0 1
def s17 : State := ringS 1
def s18 : State := ringS 2
def s19 : State := ringS 3
def s20 : State := onT ring fun t => { t with proposals := t.proposals.map fun x => { x with stop := true } }
def s22 : State := onT ring fun t => { t with cues := [cueX] }
def s26 : State := onT ring fun t => { t with cues := [{ cueX with c := 98000 }, cueX], outUntil := some 100100 }
def s32 : State := onT ring fun t => { t with served := [(7, 99999)] }
def s35 : State := { ring with clk := { ring.clk with running := false } }
def s36 : State := onT (ringS 1) fun t => { t with z := some 100096 }
def s37 : State := onT (ringS 3) fun t => { t with r := some 101376 }
def s40 : State := strm.wr F.CDC_STREAM_CTL_EN 0 1
def s42 : State := { ready with stream := { pend := some (List.replicate 64 4, true, 100032, 1) } }
def s44 : State := onQ (onQ ready 3 fun q => { q with waiting := [pkt 3] }) 1 fun q => { q with waiting := [pkt 2], reading := some (pkt 1) }
def s45 : State := { ring.wr F.CDC_JOB_CTL_EN 0 1 with codec := [cdc 0, cdc 0] }
def s46 : State := { ring.wr F.CDC_JOB_CTL_EN 0 1 with codec := [job1] }
def s47 : State := { ring.wr F.CDC_JOB_CTL_EN 0 1 with codec := [{ job1 with running := true }] }
def s52 : State := onc strm 0 fun c => { c with streams := [] }
def s56 : State := (onQ ready 4 fun q => { q with waiting := [pkt 3, pkt 4], flushSet := [(0, 64)], progress := [(0, 64, 10)] }).wr F.QUE_CMD_STAT_FLUSH_BUSY 0 1
def s57 : State := (onQ ready 4 fun q => { q with flushCount := 5 }).wr F.QUE_CMD_STAT_FLUSH_BUSY 0 1
def s60 : State := onQ ready 3 fun q => { q with reading := some (pkt 2) }
def s61 : State := (onQ ready 3 fun q => { q with reading := some (pkt 2), dropRead := true }).wr F.QUE_CMD_STAT_DROP_BUSY 0 1
def s91 : State := { ring.wr F.CDC_JOB_CTL_EN 0 1 with codec := [{ job1 with running := true, rd := { at_ := some (0, 1563) } }] }
def s92 : State := onc { strm with que := strm.que.modify 4 fun q => { q with progress := [(0, 98304, 100)] } } 0 fun c => { c with road := road0 24 }
def c0 : State := ready
def c1 : State := det1
def c3 : State := onc det1 0 fun c => { c with det := { c.det with summed := 99968, stop := 131072 } }
def c4 : State := (ready.wr F.TRG_EXT_EN 0 1).wr F.TRG_EXT_EN 1 1
def c5 : State := onT (ready.wr F.TRG_EXT_EN 0 1) fun t => { t with edges := [some (100000 * 64), none] }
theorem works_s0 : s0.Working := working (by decide +kernel)
theorem works_s3 : s3.Working := working (by decide +kernel)
theorem works_s4 : s4.Working := working (by decide +kernel)
theorem works_s5 : s5.Working := working (by decide +kernel)
theorem works_s6 : s6.Working := working (by decide +kernel)
theorem works_s7 : s7.Working := working (by decide +kernel)
theorem works_s15 : s15.Working := working (by decide +kernel)
theorem works_s16 : s16.Working := working (by decide +kernel)
theorem works_s17 : s17.Working := working (by decide +kernel)
theorem works_s18 : s18.Working := working (by decide +kernel)
theorem works_s19 : s19.Working := working (by decide +kernel)
theorem works_s20 : s20.Working := working (by decide +kernel)
theorem works_s22 : s22.Working := working (by decide +kernel)
theorem works_s26 : s26.Working := working (by decide +kernel)
theorem works_s32 : s32.Working := working (by decide +kernel)
theorem works_s35 : s35.Working := working (by decide +kernel)
theorem works_s36 : s36.Working := working (by decide +kernel)
theorem works_s37 : s37.Working := working (by decide +kernel)
theorem works_s40 : s40.Working := working (by decide +kernel)
theorem works_s42 : s42.Working := working (by decide +kernel)
theorem works_s44 : s44.Working := working (by decide +kernel)
theorem works_s45 : s45.Working := working (by decide +kernel)
theorem works_s46 : s46.Working := working (by decide +kernel)
theorem works_s47 : s47.Working := working (by decide +kernel)
theorem works_s52 : s52.Working := working (by decide +kernel)
theorem works_s56 : s56.Working := working (by decide +kernel)
theorem works_s57 : s57.Working := working (by decide +kernel)
theorem works_s60 : s60.Working := working (by decide +kernel)
theorem works_s61 : s61.Working := working (by decide +kernel)
theorem works_s91 : s91.Working := working (by decide +kernel)
theorem works_s92 : s92.Working := working (by decide +kernel)
theorem works_c0 : c0.Working := working (by decide +kernel)
theorem works_c1 : c1.Working := working (by decide +kernel)
theorem works_c3 : c3.Working := working (by decide +kernel)
theorem works_c4 : c4.Working := working (by decide +kernel)
theorem works_c5 : c5.Working := working (by decide +kernel)

/-- The hypotheses of CueSources are met, those of each clause by a state and operands of its own. -/
theorem witness_CueSources :
    (∃ (s : State) (ch : Fin 64) (d : Det), s.Working ∧ d = (s.chan ch).det ∧ d.stop ≤ d.summed) ∧
    (∃ (s : State) (ch : Fin 64) (d : Det), s.Working ∧ d = (s.chan ch).det ∧ d.summed < d.stop) ∧
    (∃ (s : State) (ch : Fin 64) (n : Nat) (a : Nat) (c : Chan), s.Working ∧ c = s.chan ch ∧ s.rdB F.TRG_DET_EN ch = true ∧
      s.producing ch = true ∧ c.det.start = some a ∧ a ≤ n ∧ c.det.dead ≤ n ∧ c.skips n = false ∧ s.threshold ch n ≤
      c.envAt n ∧ (∀ k, a ≤ k → c.det.dead ≤ k → k < n → s.aboveAt ch k = false) ∧ (c.sampleAt n).isSome = true ∧
      (c.sampleAt (n + 23)).isSome = true) ∧
    (∃ (s : State) (ch : Fin 64) (n : Nat), s.Working ∧ (s.rdB F.TRG_DET_EN ch = false ∨ n < (s.chan ch).det.dead ∨ (s.chan
      ch).envAt n < s.threshold ch n)) ∧
    (∃ (s : State) (ch : Fin 64) (n : Nat) (a : Nat) (k : Nat), s.Working ∧ (s.chan ch).det.start = some a ∧ a ≤ k ∧ (s.chan
      ch).det.dead ≤ k ∧ k < n ∧ s.aboveAt ch k = true ∧ (∃ b ∈ (s.chan ch).recent.getLast?, b.n ≤ k)) ∧
    (∃ (s : State) (n : Fin 2), s.Working ∧ s.trg.edges.length = 2 ∧ s.rdB F.TRG_EXT_EN n = true ∧ s.clk.running = true ∧
      s.trg.edges.getD n none = none) ∧
    (∃ (s : State) (n : Fin 2) (k : Nat) (phi : Fin 64) (a : Int), s.Working ∧ s.trg.edges.length = 2 ∧ s.rdB F.TRG_EXT_EN n
      = true ∧ s.clk.running = true ∧ s.trg.edges.getD n none = some a ∧ ((k * 64 + phi.val : Nat) - a) * 1000000000 <
      64 * 100 * s.clk.fs) ∧
    (∃ (s : State) (n : Fin 2) (falling : Bool), s.Working ∧ (s.rdB F.TRG_EXT_EN n = false ∨ s.rdB F.TRG_EXT_EDGE n ≠
      falling)) :=
  ⟨⟨c0, 0, (c0.chan (0 : Fin 64)).det, works_c0, by decide +kernel⟩,
   ⟨c3, 0, (c3.chan (0 : Fin 64)).det, works_c3, by decide +kernel⟩,
   ⟨c1, 0, 99976, 99976, c1.chan (0 : Fin 64), works_c1, by decide +kernel, by decide +kernel, by decide +kernel,
      by decide +kernel, by decide +kernel, by decide +kernel, by decide +kernel, by decide +kernel, fun k h _ h' =>
      absurd h' (Nat.not_lt.mpr h), by decide +kernel, by decide +kernel⟩,
   ⟨c0, 0, 100000, works_c0, by decide +kernel⟩,
   ⟨c1, 0, 100000, (((c1.chan (0 : Fin 64)).det.start).get (by decide +kernel)), 99976, works_c1, by decide +kernel⟩,
   ⟨c4, 0, works_c4, by decide +kernel⟩,
   ⟨c5, 0, 100000, 0, ((c5.trg.edges.getD (0 : Fin 2) none).get (by decide +kernel)), works_c5, by decide +kernel⟩,
   ⟨c0, 0, false, works_c0, by decide +kernel⟩⟩

/-- The hypotheses of CueEngine are met, those of each clause by a state and operands of its own. -/
theorem witness_CueEngine :
    (∃ (s : State) (i : Nat) (x : Proposal) (n : Nat) (set : Nat), s.Working ∧ s.trg.sources.length = 9 ∧ (∀ l ∈
      s.trg.firings, l = []) ∧ s.trg.proposals[i]? = some x ∧ x.bit < 9 ∧ n = (s.trg.sources.getD x.bit {}).pcount + 1 ∧
      set = s.scopeSet x &&& s.trg.map ∧ (s.rdB F.TRG_CTL_EN = false ∨ s.trg.running = false)) ∧
    (∃ (s : State) (i : Nat) (x : Proposal) (n : Nat) (set : Nat), s.Working ∧ s.trg.sources.length = 9 ∧ (∀ l ∈
      s.trg.firings, l = []) ∧ s.trg.proposals[i]? = some x ∧ x.bit < 9 ∧ n = (s.trg.sources.getD x.bit {}).pcount + 1 ∧
      set = s.scopeSet x &&& s.trg.map ∧ s.rdB F.TRG_CTL_EN = true ∧ s.trg.running = true ∧ n % 2 ^ s.rd
      F.TRG_SRC_STAT_K x.bit ≠ 0) ∧
    (∃ (s : State) (i : Nat) (x : Proposal) (n : Nat) (set : Nat), s.Working ∧ s.trg.sources.length = 9 ∧ (∀ l ∈
      s.trg.firings, l = []) ∧ s.trg.proposals[i]? = some x ∧ x.bit < 9 ∧ n = (s.trg.sources.getD x.bit {}).pcount + 1 ∧
      set = s.scopeSet x &&& s.trg.map ∧ s.rdB F.TRG_CTL_EN = true ∧ s.trg.running = true ∧ n % 2 ^ s.rd
      F.TRG_SRC_STAT_K x.bit = 0 ∧ (s.ringState = ringFrozen ∨ s.ringState = ringRearming)) ∧
    (∃ (s : State) (i : Nat) (x : Proposal) (n : Nat) (set : Nat), s.Working ∧ s.trg.sources.length = 9 ∧ (∀ l ∈
      s.trg.firings, l = []) ∧ s.trg.proposals[i]? = some x ∧ x.bit < 9 ∧ n = (s.trg.sources.getD x.bit {}).pcount + 1 ∧
      set = s.scopeSet x &&& s.trg.map ∧ s.rdB F.TRG_CTL_EN = true ∧ s.trg.running = true ∧ n % 2 ^ s.rd
      F.TRG_SRC_STAT_K x.bit = 0 ∧ s.ringState = ringArmed ∧ (∃ ch ∈ mapChans set, s.vOf ch ≤ x.c) ∧ (∀ q ∈ s.trg.cues,
      q.c ≠ x.c) ∧ x.stop = false) ∧
    (∃ (s : State) (i : Nat) (x : Proposal) (n : Nat) (set : Nat), s.Working ∧ s.trg.sources.length = 9 ∧ (∀ l ∈
      s.trg.firings, l = []) ∧ s.trg.proposals[i]? = some x ∧ x.bit < 9 ∧ n = (s.trg.sources.getD x.bit {}).pcount + 1 ∧
      set = s.scopeSet x &&& s.trg.map ∧ s.rdB F.TRG_CTL_EN = true ∧ s.trg.running = true ∧ n % 2 ^ s.rd
      F.TRG_SRC_STAT_K x.bit = 0 ∧ s.ringState = ringArmed ∧ (∃ ch ∈ mapChans set, s.vOf ch ≤ x.c) ∧ x.stop = true) :=
  ⟨⟨s15, 0, ((s15.trg.proposals[(0 : Nat)]?).get (by decide +kernel)), (s15.trg.sources.getD (((s15.trg.proposals[(0 :
      Nat)]?).get (by decide +kernel)) : Proposal).bit {}).pcount + 1, s15.scopeSet (((s15.trg.proposals[(0 :
      Nat)]?).get (by decide +kernel)) : Proposal) &&& s15.trg.map, works_s15, by decide +kernel⟩,
   ⟨s16, 0, ((s16.trg.proposals[(0 : Nat)]?).get (by decide +kernel)), (s16.trg.sources.getD (((s16.trg.proposals[(0 :
      Nat)]?).get (by decide +kernel)) : Proposal).bit {}).pcount + 1, s16.scopeSet (((s16.trg.proposals[(0 :
      Nat)]?).get (by decide +kernel)) : Proposal) &&& s16.trg.map, works_s16, by decide +kernel⟩,
   ⟨s18, 0, ((s18.trg.proposals[(0 : Nat)]?).get (by decide +kernel)), (s18.trg.sources.getD (((s18.trg.proposals[(0 :
      Nat)]?).get (by decide +kernel)) : Proposal).bit {}).pcount + 1, s18.scopeSet (((s18.trg.proposals[(0 :
      Nat)]?).get (by decide +kernel)) : Proposal) &&& s18.trg.map, works_s18, by decide +kernel⟩,
   ⟨s3, 0, ((s3.trg.proposals[(0 : Nat)]?).get (by decide +kernel)), (s3.trg.sources.getD (((s3.trg.proposals[(0 :
      Nat)]?).get (by decide +kernel)) : Proposal).bit {}).pcount + 1, s3.scopeSet (((s3.trg.proposals[(0 :
      Nat)]?).get (by decide +kernel)) : Proposal) &&& s3.trg.map, works_s3, by decide +kernel⟩,
   ⟨s20, 0, ((s20.trg.proposals[(0 : Nat)]?).get (by decide +kernel)), (s20.trg.sources.getD (((s20.trg.proposals[(0 :
      Nat)]?).get (by decide +kernel)) : Proposal).bit {}).pcount + 1, s20.scopeSet (((s20.trg.proposals[(0 :
      Nat)]?).get (by decide +kernel)) : Proposal) &&& s20.trg.map, works_s20, by decide +kernel⟩⟩

/-- The hypotheses of CueClose are met, those of each clause by a state and operands of its own. -/
theorem witness_CueClose :
    (∃ (s : State) (q : Cue), s.Working ∧ q ∈ s.trg.cues ∧ (∀ y ∈ s.trg.cues, y ≠ q → q.c < y.c)) ∧
    (∃ (s : State), s.Working ∧ s.trg.cues = []) ∧
    (∃ (s : State) (n : Nat), s.Working ∧ s.trg.outUntil = some n) ∧
    (∃ (s : State), s.Working ∧ s.trg.outUntil = none) ∧
    (∃ (s : State), s.Working ∧ s.clk.running = true ∧ s.trg.sources.length = 9) ∧
    (∃ (s : State), s.Working ∧ s.clk.running = false) :=
  ⟨⟨s22, ((s22.trg.cues).head (by decide +kernel)), works_s22, by decide +kernel⟩,
   ⟨s0, works_s0, by decide +kernel⟩,
   ⟨s26, ((s26.trg.outUntil).get (by decide +kernel)), works_s26, by decide +kernel⟩,
   ⟨s0, works_s0, by decide +kernel⟩,
   ⟨s0, works_s0, by decide +kernel⟩,
   ⟨s35, works_s35, by decide +kernel⟩⟩

/-- The hypotheses of SnippetsAndReadouts are met, those of each clause by a state and operands of its own (part 1). -/
theorem witness_SnippetsAndReadouts :
    (∃ (s : State) (i : Nat), s.Working ∧ i < 8 ∧ s.skipAll = s ∧ s.shareReady (shareOf (s.trg.port.slot + i)) = true ∧ (∀ j
      < i, s.shareReady (shareOf (s.trg.port.slot + j)) = false)) ∧
    (∃ (s : State) (j : SnipJob), s.Working ∧ j ∈ s.trg.jobs ∧ j.running = false ∧ (∀ x ∈ s.trg.jobs, x.running = false → x
      ≠ j → j.stop < x.stop) ∧ (∀ ch ∈ mapChans j.set, s.avail ch (j.stop / 64 - 1) ≠ .later)) ∧
    (∃ (s : State), s.Working ∧ (∀ j ∈ s.trg.jobs, j.running = true)) ∧
    (∃ (s : State) (id : BitVec 32) (u : State) (j : SnipJob), s.Working ∧ u = s.readSnippet id.toNat ∧ u.snippetOf id.toNat
      = some j ∧ j.rd.at_ = none ∧ s.trg.jobs.length ≤ 64) ∧
    (∃ (s : State) (id : BitVec 32) (u : State), s.Working ∧ u = s.readSnippet id.toNat ∧ u.snippetOf id.toNat = none) ∧
    (∃ (s : State) (id : BitVec 32) (u : State) (j : SnipJob), s.Working ∧ u = s.readSnippet id.toNat ∧ u.snippetOf id.toNat
      = some j ∧ j.rd.at_ ≠ none) ∧
    (∃ (s : State) (req : BitVec 32) (len : BitVec 32) (at_ : BitVec 48) (first : Nat) (stop : Nat) (c : Nat), s.Working ∧
      first = s.countAt (s.nearTime at_.toNat) / 64 * 64 ∧ stop = nextMultiple 64 (s.countAt (s.nearTime at_.toNat +
      len.toNat * 65536)) ∧ (req.toNat, c) ∈ s.trg.served ∧ s.clk.count < c + s.samplesUs 1000) ∧
    (∃ (s : State) (req : BitVec 32) (len : BitVec 32) (at_ : BitVec 48) (map : BitVec 64) (first : Nat) (stop : Nat) (n :
      Nat), s.Working ∧ first = s.countAt (s.nearTime at_.toNat) / 64 * 64 ∧ stop = nextMultiple 64 (s.countAt
      (s.nearTime at_.toNat + len.toNat * 65536)) ∧ (∀ c, (req.toNat, c) ∈ s.trg.served → c + s.samplesUs 1000 ≤
      s.clk.count) ∧ s.declineReason len.toNat map.toNat first = n ∧ n ≠ 0) :=
  ⟨⟨s3, 4, works_s3, by decide +kernel⟩,
   ⟨s5, (s5.trg.jobs.getLast (by decide +kernel)), works_s5, by decide +kernel⟩,
   ⟨s0, works_s0, by decide +kernel⟩,
   ⟨s3, 7, s3.readSnippet (7 : BitVec 32).toNat, (((s3.readSnippet (7 : BitVec 32).toNat : State).snippetOf (7 : BitVec
      32).toNat).get (by decide +kernel)), works_s3, by decide +kernel⟩,
   ⟨s0, 0, s0.readSnippet (0 : BitVec 32).toNat, works_s0, by decide +kernel⟩,
   ⟨s6, 7, s6.readSnippet (7 : BitVec 32).toNat, (((s6.readSnippet (7 : BitVec 32).toNat : State).snippetOf (7 : BitVec
      32).toNat).get (by decide +kernel)), works_s6, by decide +kernel⟩,
   ⟨s32, 7, 0, 0, s32.countAt (s32.nearTime (0 : BitVec 48).toNat) / 64 * 64, nextMultiple 64 (s32.countAt
      (s32.nearTime (0 : BitVec 48).toNat + (0 : BitVec 32).toNat * 65536)), 99999, works_s32, by decide +kernel⟩,
   ⟨s0, 0, 0, 0, 0, s0.countAt (s0.nearTime (0 : BitVec 48).toNat) / 64 * 64, nextMultiple 64 (s0.countAt (s0.nearTime
      (0 : BitVec 48).toNat + (0 : BitVec 32).toNat * 65536)), (s0.declineReason (0 : BitVec 32).toNat (0 : BitVec
      64).toNat (s0.countAt (s0.nearTime (0 : BitVec 48).toNat) / 64 * 64 : Nat)), works_s0, by decide +kernel,
      by decide +kernel, fun c h => absurd (show (_, c) ∈ ([] : List (Nat × Nat)) from h) List.not_mem_nil,
      by decide +kernel, by decide +kernel⟩⟩

/-- The hypotheses of SnippetsAndReadouts are met, those of each clause by a state and operands of its own (part 2). -/
theorem witness_SnippetsAndReadouts_2 :
    (∃ (s : State) (req : BitVec 32) (len : BitVec 32) (at_ : BitVec 48) (map : BitVec 64) (first : Nat) (stop : Nat) (f :
      Nat), s.Working ∧ first = s.countAt (s.nearTime at_.toNat) / 64 * 64 ∧ stop = nextMultiple 64 (s.countAt
      (s.nearTime at_.toNat + len.toNat * 65536)) ∧ (∀ c, (req.toNat, c) ∈ s.trg.served → c + s.samplesUs 1000 ≤
      s.clk.count) ∧ s.declineReason len.toNat map.toNat first = 0 ∧ s.ringState = ringArmed ∧ f = firstCount s.clk.fs
      (mapChans (map.toNat &&& s.trg.map)).length (s.vMax (mapChans (map.toNat &&& s.trg.map))) first stop (s.rd
      F.TRG_RO_CFG_GUARD_NS) s.readAhead) ∧
    (∃ (s : State) (req : BitVec 32) (u : State) (r : Readout), s.Working ∧ u = s.readReadout req.toNat ∧ u.readoutOf
      req.toNat = some r ∧ r.rd.at_ = none ∧ s.trg.readouts.length ≤ 8) ∧
    (∃ (s : State) (req : BitVec 32) (u : State), s.Working ∧ u = s.readReadout req.toNat ∧ u.readoutOf req.toNat = none) ∧
    (∃ (s : State) (req : BitVec 32) (u : State) (r : Readout), s.Working ∧ u = s.readReadout req.toNat ∧ u.readoutOf
      req.toNat = some r ∧ r.rd.at_ ≠ none) :=
  ⟨⟨s3, 0, 7, 0, 3, s3.countAt (s3.nearTime (0 : BitVec 48).toNat) / 64 * 64, nextMultiple 64 (s3.countAt (s3.nearTime
      (0 : BitVec 48).toNat + (7 : BitVec 32).toNat * 65536)), firstCount s3.clk.fs (mapChans ((3 : BitVec 64).toNat
      &&& s3.trg.map)).length (s3.vMax (mapChans ((3 : BitVec 64).toNat &&& s3.trg.map))) (s3.countAt (s3.nearTime
      (0 : BitVec 48).toNat) / 64 * 64 : Nat) (nextMultiple 64 (s3.countAt (s3.nearTime (0 : BitVec 48).toNat + (7 :
      BitVec 32).toNat * 65536)) : Nat) (s3.rd F.TRG_RO_CFG_GUARD_NS) s3.readAhead, works_s3, by decide +kernel,
      by decide +kernel, fun c h => absurd (show (_, c) ∈ ([] : List (Nat × Nat)) from h) List.not_mem_nil,
      by decide +kernel, by decide +kernel, by decide +kernel⟩,
   ⟨s4, 7, s4.readReadout (7 : BitVec 32).toNat, (((s4.readReadout (7 : BitVec 32).toNat : State).readoutOf (7 : BitVec
      32).toNat).get (by decide +kernel)), works_s4, by decide +kernel⟩,
   ⟨s0, 0, s0.readReadout (0 : BitVec 32).toNat, works_s0, by decide +kernel⟩,
   ⟨s7, 7, s7.readReadout (7 : BitVec 32).toNat, (((s7.readReadout (7 : BitVec 32).toNat : State).readoutOf (7 : BitVec
      32).toNat).get (by decide +kernel)), works_s7, by decide +kernel⟩⟩

/-- The hypotheses of FreezeAndRearm are met, those of each clause by a state and operands of its own (part 1). -/
theorem witness_FreezeAndRearm :
    (∃ (s : State), s.Working ∧ s.ringState = ringArmed ∧ s.trg.running = true) ∧
    (∃ (s : State), s.Working ∧ s.ringState ≠ ringArmed) ∧
    (∃ (s : State) (z : Nat), s.Working ∧ s.trg.z = some z ∧ s.ringState = ringPending) ∧
    (∃ (s : State), s.Working ∧ s.ringState ≠ ringPending) ∧
    (∃ (s : State), s.Working ∧ s.ringState = ringFrozen) ∧
    (∃ (s : State), s.Working ∧ s.ringState ≠ ringFrozen) ∧
    (∃ (s : State), s.Working ∧ s.ringState = ringRearming ∧ s.trg.readouts = [] ∧ s.trg.jobs = [] ∧ s.trg.r = none) ∧
    (∃ (s : State), s.Working ∧ (s.trg.readouts ≠ [] ∨ s.trg.jobs ≠ [])) :=
  ⟨⟨s3, works_s3, by decide +kernel⟩,
   ⟨s17, works_s17, by decide +kernel⟩,
   ⟨s36, ((s36.trg.z).get (by decide +kernel)), works_s36, by decide +kernel⟩,
   ⟨s0, works_s0, by decide +kernel⟩,
   ⟨s18, works_s18, by decide +kernel⟩,
   ⟨s0, works_s0, by decide +kernel⟩,
   ⟨s19, works_s19, by decide +kernel⟩,
   ⟨s3, works_s3, by decide +kernel⟩⟩

/-- The hypotheses of FreezeAndRearm are met, those of each clause by a state and operands of its own (part 2). -/
theorem witness_FreezeAndRearm_2 :
    (∃ (s : State) (r : Nat), s.Working ∧ s.trg.r = some r ∧ s.ringState = ringRearming) :=
  ⟨s37, ((s37.trg.r).get (by decide +kernel)), works_s37, by decide +kernel⟩

/-- The hypotheses of StreamPackets are met, those of each clause by a state and operands of its own. -/
theorem witness_StreamPackets :
    (∃ (s : State) (ch : Fin 64) (n0 : Nat) (span : Nat) (words : Nat), s.Working ∧ span = 1024 * 2 ^ ((s.chan
      ch).chainAtCount n0).1 ∧ packetLen ((s.chan ch).modeAt n0) ≠ 0 ∧ n0 % span = 0 ∧ (s.chan ch).took n0 (n0 + span) =
      true ∧ (∀ m, (s.chan ch).sent = some m → m < n0) ∧ (s.queue (4 + ch.val / 8)).progress.find? (fun p => p.1 ==
      ch.val && p.2.1 == n0) = some (ch.val, n0, words) ∧ words ≠ 0 ∧ (ch.val, n0) ∉ (s.queue (4 + ch.val / 8)).flushSet
      ∧ (s.chan ch).roadFull n0 span = true ∧ s.packetBefore ch n0 = false) ∧
    (∃ (s : State) (ch : Fin 64) (n0 : Nat), s.Working ∧ (packetLen ((s.chan ch).modeAt n0) = 0 ∨ s.packetBefore ch n0 =
      true)) ∧
    (∃ (s : State), s.Working ∧ s.stagedRefused = none) ∧
    (∃ (s : State) (path : Nat), s.Working ∧ s.stagedRefused = some path ∧ path < 4) ∧
    (∃ (s : State) (ch : Fin 64) (modes : List Nat) (en : Bool) (least : Nat), s.Working ∧ s.stream.pend = some (modes, en,
      least, 2 ^ ch.val) ∧ modes.getD ch 0 < 16) ∧
    (∃ (s : State), s.Working ∧ s.stream.pend = none) ∧
    (∃ (s : State) (cls : Fin 4) (n : Nat), s.Working ∧ (s.queue (if cls.val = 1 then 1 else 3)).oldest = some n) ∧
    (∃ (s : State) (cls : Fin 4), s.Working ∧ (s.queue (if cls.val = 1 then 1 else 3)).oldest = none) :=
  ⟨⟨s92, 0, 98304, 1024 * 2 ^ ((s92.chan (0 : Fin 64)).chainAtCount (98304 : Nat)).1, 100, works_s92,
      by decide +kernel⟩,
   ⟨s52, 0, 0, works_s52, by decide +kernel⟩,
   ⟨s0, works_s0, by decide +kernel⟩,
   ⟨s40, ((s40.stagedRefused).get (by decide +kernel)), works_s40, by decide +kernel⟩,
   ⟨s42, 0, ((s42.stream.pend).get (by decide +kernel)).1, true, 100032, works_s42, by decide +kernel⟩,
   ⟨s0, works_s0, by decide +kernel⟩,
   ⟨s44, 0, (((s44.queue (if (0 : Fin 4).val = 1 then 1 else 3)).oldest).get (by decide +kernel)), works_s44,
      by decide +kernel⟩,
   ⟨s0, 0, works_s0, by decide +kernel⟩⟩

/-- The hypotheses of CodecJobs are met, those of each clause by a state and operands of its own. -/
theorem witness_CodecJobs :
    (∃ (s : State), s.Working ∧ (s.rdB F.CDC_JOB_CTL_EN = false ∨ (∃ j ∈ s.codec, j.running = true))) ∧
    (∃ (s : State) (j : CJob) (rest : List CJob), s.Working ∧ s.rdB F.CDC_JOB_CTL_EN = true ∧ s.codec = j :: rest ∧ (∀ x ∈
      s.codec, x.running = false) ∧ j.bad = false ∧ rest.length < 32) ∧
    (∃ (s : State) (j : CJob) (rest : List CJob), s.Working ∧ s.rdB F.CDC_JOB_CTL_EN = true ∧ s.codec = j :: rest ∧ (∀ x ∈
      s.codec, x.running = false) ∧ j.bad = true) ∧
    (∃ (s : State) (flips : List (Nat × Nat × Nat)) (bad : List (Nat × Nat)) (u : State) (j : CJob) (r : CRun × CStop × LWord), s.Working ∧ u = s.readJob ∧
      u.codec.find? (fun x => x.running) = some j ∧ r = u.jobEnd j { flips := flips, bad := bad } ∧ r.2.1 = .wait) ∧
    (∃ (s : State) (flips : List (Nat × Nat × Nat)) (bad : List (Nat × Nat)) (u : State) (j : CJob) (r : CRun × CStop × LWord) (n : Nat), s.Working ∧ u =
      s.readJob ∧ u.codec.find? (fun x => x.running) = some j ∧ r = u.jobEnd j { flips := flips, bad := bad } ∧ ((r.2.1 = .done ∧ n = 0) ∨ (r.2.1 =
      .outFull ∧ n = 1) ∨ (r.2.1 = .lost ∧ n = 2) ∨ (r.2.1 = .frozen ∧ n = 3))) ∧
    (∃ (s : State), s.Working ∧ (∀ j ∈ s.codec, j.running = false)) :=
  ⟨⟨s47, works_s47, by decide +kernel⟩,
   ⟨s46, ((s46.codec).head (by decide +kernel)), [], works_s46, by decide +kernel⟩,
   ⟨s45, ((s45.codec).head (by decide +kernel)), ((s45.codec).tail), works_s45, by decide +kernel⟩,
   ⟨s91, [], [], s91.readJob, (((s91.readJob : State).codec.find? (fun x => x.running)).get (by decide +kernel)),
      (s91.readJob : State).jobEnd ((((s91.readJob : State).codec.find? (fun x => x.running)).get
      (by decide +kernel)) : CJob) {}, works_s91, by decide +kernel⟩,
   ⟨s47, [], [], s47.readJob, (((s47.readJob : State).codec.find? (fun x => x.running)).get (by decide +kernel)),
      (s47.readJob : State).jobEnd ((((s47.readJob : State).codec.find? (fun x => x.running)).get
      (by decide +kernel)) : CJob) {}, 0, works_s47, by decide +kernel⟩,
   ⟨s0, works_s0, by decide +kernel⟩⟩

/-- The hypotheses of QueueCommands are met, those of each clause by a state and operands of its own (part 1). -/
theorem witness_QueueCommands :
    (∃ (s : State) (g : Fin 8), s.Working ∧ s.flushBusy g = true) ∧
    (∃ (s : State) (g : Fin 8) (x : Queue), s.Working ∧ s.flushBusy g = false ∧ x = s.queue (4 + g.val)) ∧
    (∃ (s : State) (g : Fin 8) (x : Queue), s.Working ∧ x = s.queue (4 + g.val) ∧ s.flushBusy g = true ∧ x.flushSet = [] ∧
      x.flushRead = false) ∧
    (∃ (s : State) (g : Fin 8) (x : Queue), s.Working ∧ x = s.queue (4 + g.val) ∧ (s.flushBusy g = false ∨ x.flushSet ≠ [] ∨
      x.flushRead = true)) ∧
    (∃ (s : State), s.Working ∧ s.rdB F.QUE_CMD_STAT_DROP_BUSY = false ∧ (s.queue 3).reading = none) ∧
    (∃ (s : State), s.Working ∧ s.rdB F.QUE_CMD_STAT_DROP_BUSY = false ∧ (s.queue 3).reading ≠ none) ∧
    (∃ (s : State), s.Working ∧ s.rdB F.QUE_CMD_STAT_DROP_BUSY = true) ∧
    (∃ (s : State), s.Working ∧ s.rdB F.QUE_CMD_STAT_DROP_BUSY = false) :=
  ⟨⟨s56, 0, works_s56, by decide +kernel⟩,
   ⟨s0, 0, s0.queue (4 + (0 : Fin 8).val), works_s0, by decide +kernel⟩,
   ⟨s57, 0, s57.queue (4 + (0 : Fin 8).val), works_s57, by decide +kernel⟩,
   ⟨s0, 0, s0.queue (4 + (0 : Fin 8).val), works_s0, by decide +kernel⟩,
   ⟨s0, works_s0, by decide +kernel⟩,
   ⟨s60, works_s60, by decide +kernel⟩,
   ⟨s61, works_s61, by decide +kernel⟩,
   ⟨s0, works_s0, by decide +kernel⟩⟩

/-- The hypotheses of QueueCommands are met, those of each clause by a state and operands of its own (part 2). -/
theorem witness_QueueCommands_2 :
    (∃ (s : State) (q : Fin 12), s.Working ∧ (s.queue q).fill < 2 ^ 17) :=
  ⟨s0, 0, works_s0, by decide +kernel⟩

end Sys2Proof.Tests.Cues

namespace Sys2Proof.Tests.Faults
set_option Elab.async false
def inc0 : Incident := { id := 1, code := 0x2101, loc := 0x2101, st := .opened, held := true, pending := false, openTick := 499, lastTick := 495, count := 1 }
def incs (l : List Incident) : State := { ready with fau := { inc := l ++ List.replicate (256 - l.length) {} } }
def upLane (s : State) : State := (((s.wr F.LNK_LANE_STAT_STATE 0 2).wr F.MGT_MODULE_ID_ID 0 9).wr F.LNK_LANE_STAT_STATE 12 2)
def rec1 : Record := { recno := 66, kind := 3 }
def r255 : State := let s := incs [{ inc0 with held := false, lasting := true }]; { s.wr F.FAU_STAT_OVERFLOW 0 1 with fau := { s.fau with inc := (s.fau.inc.set 255 { inc0 with held := false, lasting := true, code := 0x6001, outer := true }) } }
def s0 : State := ready
def s1 : State := r255
def s2 : State := incs [{ inc0 with code := 0x2101, loc := 0x00FF }]
def s14 : State := upLane (incs [{ inc0 with pending := true, held := false }])
def s16 : State := upLane (incs [{ inc0 with pending := true, held := false, station := true, dueNs := 90000 }])
def s18 : State := { ready with plane := { ready.plane with hot := [true, true, true, true, true] } }
def s21 : State := (ready.wr F.PWR_STAGE_STAGE 0 2).wr F.PWR_STAGE_VIN_STAGE 0 1
def s24 : State := { (ready.wr F.MGT_MODULE_ID_ID 0 9) with pwr := { noticeDue := true, noticeTick := some 450 } }
def s25 : State := { ready with pwr := { stop := 1 } }
def s26 : State := { ready with pwr := { stop := 1 }, book := { running := some (1, false), records := [rec1] } }
def s27 : State := { ready with pwr := { overVin := true } }
def s28 : State := { ready with regions := (List.replicate 4 region0).set 1 { region0 with powered := false } }
def s30 : State := { ready with book := { running := some (3, true), records := [rec1, rec1] } }
def s31 : State := ready.wr F.PWR_PB_CFG_PERIOD_S 0 0
def s33 : State := ready.wr F.PMC_CTL_DUMP_EN 0 1
def s37 : State := { ready with pmc := { tags := [{ ch := 3, n := 9984 }, { ch := 5, n := 9984, mode := 5, decim := 1 }] } }
theorem works_s0 : s0.Working := working (by decide +kernel)
theorem awakes_s0 : s0.Awake := awake (by decide +kernel)
theorem works_s1 : s1.Working := working (by decide +kernel)
theorem awakes_s1 : s1.Awake := awake (by decide +kernel)
theorem awakes_s2 : s2.Awake := awake (by decide +kernel)
theorem works_s14 : s14.Working := working (by decide +kernel)
theorem works_s16 : s16.Working := working (by decide +kernel)
theorem works_s18 : s18.Working := working (by decide +kernel)
theorem works_s21 : s21.Working := working (by decide +kernel)
theorem works_s24 : s24.Working := working (by decide +kernel)
theorem works_s25 : s25.Working := working (by decide +kernel)
theorem works_s26 : s26.Working := working (by decide +kernel)
theorem works_s27 : s27.Working := working (by decide +kernel)
theorem works_s28 : s28.Working := working (by decide +kernel)
theorem works_s30 : s30.Working := working (by decide +kernel)
theorem works_s31 : s31.Working := working (by decide +kernel)
theorem works_s33 : s33.Working := working (by decide +kernel)
theorem works_s37 : s37.Working := working (by decide +kernel)

/-- The hypotheses of Incidents are met, those of each clause by a state and operands of its own (part 1). -/
theorem witness_Incidents :
    (∃ (s : State) (code : BitVec 16) (place : BitVec 16) (l : Nat), s.Awake ∧ s.fau.inc.length = 256 ∧ 0 < s.clk.fs ∧ l =
      s.moduleId * 65536 + place.toNat ∧ codeAt code.toNat place.toNat = false) ∧
    (∃ (s : State) (code : BitVec 16) (place : BitVec 16) (l : Nat) (e : Nat), s.Awake ∧ s.fau.inc.length = 256 ∧ 0 <
      s.clk.fs ∧ l = s.moduleId * 65536 + place.toNat ∧ codeAt code.toNat place.toNat = true ∧ (∀ x ∈ s.fau.inc, x.st ≠
      .opened) ∧ s.incAlloc = some e) ∧
    (∃ (s : State) (code : BitVec 16) (place : BitVec 16) (detail : BitVec 32) (l : Nat) (e : Nat), s.Awake ∧
      s.fau.inc.length = 256 ∧ 0 < s.clk.fs ∧ l = s.moduleId * 65536 + place.toNat ∧ codeAt code.toNat place.toNat =
      true ∧ s.rootFor code.toNat l detail.toNat = none ∧ s.sameRoot code.toNat l detail.toNat = some e) ∧
    (∃ (s : State) (code : BitVec 16) (place : BitVec 16) (detail : BitVec 32) (l : Nat) (r : Nat), s.Awake ∧
      s.fau.inc.length = 256 ∧ 0 < s.clk.fs ∧ l = s.moduleId * 65536 + place.toNat ∧ codeAt code.toNat place.toNat =
      true ∧ s.rootFor code.toNat l detail.toNat = some r) ∧
    (∃ (s : State) (e : Fin 256), s.Awake ∧ s.fau.inc.length = 256 ∧ 0 < s.clk.fs ∧ (s.incAt e).st = .opened ∧ (s.incAt
      e).held = true) ∧
    (∃ (s : State) (e : Fin 256), s.Awake ∧ s.fau.inc.length = 256 ∧ 0 < s.clk.fs ∧ ((s.incAt e).st ≠ .opened ∨ (s.incAt
      e).held = false)) ∧
    (∃ (s : State) (e : Fin 256) (cleared : Bool), s.Awake ∧ s.fau.inc.length = 256 ∧ 0 < s.clk.fs ∧ (s.incAt e).st =
      .opened ∧ ((cleared = true ∧ ((s.incAt e).outer = true ∨ ownCondition (s.incAt e).code = false)) ∨ (s.incAt
      e).lasting = false) ∧ (e.val ≠ 255 ∨ s.incAlloc ≠ none)) ∧
    (∃ (s : State) (e : Fin 256) (cleared : Bool), s.Awake ∧ s.fau.inc.length = 256 ∧ 0 < s.clk.fs ∧ ((s.incAt e).st ≠
      .opened ∨ ((s.incAt e).lasting = true ∧ (cleared = false ∨ ((s.incAt e).outer = false ∧ ownCondition (s.incAt
      e).code = true))) ∨ (e.val = 255 ∧ s.incAlloc = none))) :=
  ⟨⟨s0, 0x1001, 0x1001, s0.moduleId * 65536 + (0x1001 : BitVec 16).toNat, awakes_s0, by decide +kernel⟩,
   ⟨s0, 0x1001, 0x2201, s0.moduleId * 65536 + (0x2201 : BitVec 16).toNat, ((s0.incAlloc).get (by decide +kernel)),
      awakes_s0, by decide +kernel⟩,
   ⟨s2, 0x2101, 0xFF, 0, s2.moduleId * 65536 + (0xFF : BitVec 16).toNat, ((s2.sameRoot (0x2101 : BitVec 16).toNat
      (s2.moduleId * 65536 + (0xFF : BitVec 16).toNat : Nat) (0 : BitVec 32).toNat).get (by decide +kernel)),
      awakes_s2, by decide +kernel⟩,
   ⟨s2, 0x2201, 1, 0, s2.moduleId * 65536 + (1 : BitVec 16).toNat, ((s2.rootFor (0x2201 : BitVec 16).toNat (s2.moduleId
      * 65536 + (1 : BitVec 16).toNat : Nat) (0 : BitVec 32).toNat).get (by decide +kernel)), awakes_s2,
      by decide +kernel⟩,
   ⟨s2, 0, awakes_s2, by decide +kernel⟩,
   ⟨s0, 0, awakes_s0, by decide +kernel⟩,
   ⟨s1, 255, true, awakes_s1, by decide +kernel⟩,
   ⟨s0, 0, false, awakes_s0, by decide +kernel⟩⟩

/-- The hypotheses of Incidents are met, those of each clause by a state and operands of its own (part 2). -/
theorem witness_Incidents_2 :
    (∃ (s : State) (e : Fin 256), s.Awake ∧ s.Working ∧ s.fau.inc.length = 256 ∧ 0 < s.clk.fs ∧ (s.incAt e).st = .opened) ∧
    (∃ (s : State) (e : Fin 256), s.Awake ∧ s.Working ∧ s.fau.inc.length = 256 ∧ 0 < s.clk.fs ∧ (s.incAt e).st ≠ .opened) ∧
    (∃ (s : State), s.Awake ∧ s.Working ∧ s.fau.inc.length = 256 ∧ 0 < s.clk.fs) :=
  ⟨⟨s1, 0, awakes_s1, works_s1, by decide +kernel⟩,
   ⟨s0, 0, awakes_s0, works_s0, by decide +kernel⟩,
   ⟨s0, awakes_s0, works_s0, by decide +kernel⟩⟩

/-- The hypotheses of IncidentReports are met, those of each clause by a state and operands of its own. -/
theorem witness_IncidentReports :
    (∃ (s : State) (e : Fin 256) (x : Incident), s.Working ∧ s.fau.inc.length = 256 ∧ 0 < s.clk.fs ∧ x = s.incAt e ∧
      x.pending = true ∧ s.mayReport = true ∧ (s.queue 0).blocked = [] ∧ (s.queue 0).fill + 5 ≤ queueCap 0 ∧ x.held =
      false ∧ (x.station = false ∨ x.sentTick ≠ none)) ∧
    (∃ (s : State) (e : Fin 256) (x : Incident), s.Working ∧ s.fau.inc.length = 256 ∧ 0 < s.clk.fs ∧ x = s.incAt e ∧
      x.pending = true ∧ s.mayReport = true ∧ (s.queue 0).blocked = [] ∧ (s.queue 0).fill + 5 ≤ queueCap 0 ∧ x.station =
      true ∧ x.sentTick = none) ∧
    (∃ (s : State) (e : Fin 256) (x : Incident), s.Working ∧ s.fau.inc.length = 256 ∧ 0 < s.clk.fs ∧ x = s.incAt e ∧
      (x.pending = false ∨ s.mayReport = false)) ∧
    (∃ (s : State) (e : Fin 256) (x : Incident), s.Working ∧ s.fau.inc.length = 256 ∧ 0 < s.clk.fs ∧ x = s.incAt e ∧
      x.station = true ∧ x.sentTick = none) ∧
    (∃ (s : State) (e : Fin 256) (x : Incident), s.Working ∧ s.fau.inc.length = 256 ∧ 0 < s.clk.fs ∧ x = s.incAt e ∧
      (x.station = false ∨ x.sentTick ≠ none)) :=
  ⟨⟨s14, 0, s14.incAt (0 : Fin 256), works_s14, by decide +kernel⟩,
   ⟨s16, 0, s16.incAt (0 : Fin 256), works_s16, by decide +kernel⟩,
   ⟨s0, 0, s0.incAt (0 : Fin 256), works_s0, by decide +kernel⟩,
   ⟨s16, 0, s16.incAt (0 : Fin 256), works_s16, by decide +kernel⟩,
   ⟨s0, 0, s0.incAt (0 : Fin 256), works_s0, by decide +kernel⟩⟩

/-- The hypotheses of BackgroundWork are met, those of each clause by a state and operands of its own. -/
theorem witness_BackgroundWork :
    (∃ (s : State) (a : BitVec 32) (kind : Fin 3), s.Working ∧ (isConfig a.toNat = false ∨ kind = 0)) ∧
    (∃ (s : State) (a : BitVec 32), s.Working ∧ isConfig a.toNat = true) ∧
    (∃ (s : State) (a : BitVec 32) (r : RegDef), s.Working ∧ isConfig a.toNat = true ∧ a.toNat < 0x380000 ∧ regAt a.toNat =
      some r ∧ (∀ f ∈ r.fields, f.acc ≠ .rwl) ∧ (∀ (u : State) (n : Nat), u.writeMgt r 0 a.toNat (coldWrite r a.toNat) =
      none ∧ u.writeFront r a.toNat (coldWrite r a.toNat) n = none ∧ u.writeCore r a.toNat (coldWrite r a.toNat) = none
      ∧ u.writeLink r a.toNat (coldWrite r a.toNat) = none)) ∧
    (∃ (s : State), s.Working ∧ s.plane.hot.getD 4 false = true) ∧
    (∃ (s : State) (worst : Fin 4) (eraseOk : Bool) (b : Nat), s.Working ∧ s.plane.hot.getD 4 false = false ∧ b =
      s.nextBlock s.fau.refreshNext ∧ 0 < s.clk.fs ∧ (worst.val < 2 ∨ (worst.val = 2 ∧ eraseOk = true))) ∧
    (∃ (s : State) (worst : Fin 4) (eraseOk : Bool) (b : Nat), s.Working ∧ s.plane.hot.getD 4 false = false ∧ b =
      s.nextBlock s.fau.refreshNext ∧ 0 < s.clk.fs ∧ worst.val = 2 ∧ eraseOk = false) ∧
    (∃ (s : State) (worst : Fin 4) (b : Nat), s.Working ∧ s.plane.hot.getD 4 false = false ∧ b = s.nextBlock
      s.fau.refreshNext ∧ 0 < s.clk.fs ∧ worst.val = 3) ∧
    (∃ (s : State), s.Working ∧ (s.queue 3).blocked = [] ∧ (s.queue 3).fill + 8 ≤ queueCap 3) :=
  ⟨⟨s0, 0, 0, works_s0, by decide +kernel⟩,
   ⟨s0, 0x10004, works_s0, by decide +kernel⟩,
   ⟨s0, 0x200000, ((regAt (0x200000 : BitVec 32).toNat).get (by decide +kernel)), works_s0, by decide +kernel,
      by decide +kernel, by decide +kernel, by decide +kernel, fun u n => ⟨rfl, rfl, rfl, rfl⟩⟩,
   ⟨s18, works_s18, by decide +kernel⟩,
   ⟨s0, 0, false, s0.nextBlock s0.fau.refreshNext, works_s0, by decide +kernel⟩,
   ⟨s0, 2, false, s0.nextBlock s0.fau.refreshNext, works_s0, by decide +kernel⟩,
   ⟨s0, 3, s0.nextBlock s0.fau.refreshNext, works_s0, by decide +kernel⟩,
   ⟨s0, works_s0, by decide +kernel⟩⟩

/-- The hypotheses of Stages are met, those of each clause by a state and operands of its own (part 1). -/
theorem witness_Stages :
    (∃ (s : State) (d : Fin 5) (tj : Int), s.Working ∧ s.plane.hot.length = 5 ∧ 0 < s.clk.fs ∧ (tj ≤ thermalLimit d ∨
      s.plane.hot.getD d true = true)) ∧
    (∃ (s : State) (d : Fin 5) (tj : Int), s.Working ∧ s.plane.hot.length = 5 ∧ 0 < s.clk.fs ∧ thermalLimit d < tj ∧
      s.plane.hot.getD d true = false ∧ s.stage < 5) ∧
    (∃ (s : State) (d : Fin 5) (tj : Int), s.Working ∧ s.plane.hot.length = 5 ∧ 0 < s.clk.fs ∧ (thermalLimit d - 10 < tj ∨
      s.plane.hot.getD d false = false)) ∧
    (∃ (s : State) (d : Fin 5) (tj : Int), s.Working ∧ s.plane.hot.length = 5 ∧ 0 < s.clk.fs ∧ tj ≤ thermalLimit d - 10 ∧
      s.plane.hot.getD d false = true) ∧
    (∃ (s : State) (vins : List (BitVec 14)) (x : VinRun) (v : Nat) (f : Nat), s.Working ∧ s.plane.hot.length = 5 ∧ 0 <
      s.clk.fs ∧ s.pwr.stop = 0 ∧ s.reqStage ≤ 5 ∧ s.stage ≤ 5 ∧ s.rd F.PWR_STAGE_VIN_STAGE ≤ 5 ∧ x = s.vinRun (vins.map
      BitVec.toNat) ∧ v = (if x.lost then 5 else x.stage) ∧ f = max v s.reqStage) ∧
    (∃ (s : State), s.Working ∧ s.plane.hot.length = 5 ∧ 0 < s.clk.fs ∧ s.inForce < s.stage ∧ s.stage < 5) ∧
    (∃ (s : State), s.Working ∧ s.plane.hot.length = 5 ∧ 0 < s.clk.fs ∧ (s.stage ≤ s.inForce ∨ s.stage = 5)) ∧
    (∃ (s : State), s.Working ∧ s.plane.hot.length = 5 ∧ 0 < s.clk.fs) :=
  ⟨⟨s0, 0, -50, works_s0, by decide +kernel⟩,
   ⟨s0, 0, 140, works_s0, by decide +kernel⟩,
   ⟨s0, 0, -50, works_s0, by decide +kernel⟩,
   ⟨s18, 0, -50, works_s18, by decide +kernel⟩,
   ⟨s0, [], s0.vinRun (([] : List (BitVec 14)).map BitVec.toNat), (if (s0.vinRun (([] : List (BitVec 14)).map
      BitVec.toNat) : VinRun).lost then 5 else (s0.vinRun (([] : List (BitVec 14)).map BitVec.toNat) :
      VinRun).stage), max ((if (s0.vinRun (([] : List (BitVec 14)).map BitVec.toNat) : VinRun).lost then 5 else
      (s0.vinRun (([] : List (BitVec 14)).map BitVec.toNat) : VinRun).stage) : Nat) s0.reqStage, works_s0,
      by decide +kernel⟩,
   ⟨s21, works_s21, by decide +kernel⟩,
   ⟨s0, works_s0, by decide +kernel⟩,
   ⟨s0, works_s0, by decide +kernel⟩⟩

/-- The hypotheses of Stages are met, those of each clause by a state and operands of its own (part 2). -/
theorem witness_Stages_2 :
    (∃ (s : State), s.Working ∧ s.plane.hot.length = 5 ∧ 0 < s.clk.fs ∧ s.pwr.noticeDue = true ∧ s.moduleId ≠ 0 ∧
      s.plane.cxOn = true) ∧
    (∃ (s : State), s.Working ∧ s.plane.hot.length = 5 ∧ 0 < s.clk.fs ∧ (s.pwr.noticeDue = false ∨ s.moduleId = 0)) :=
  ⟨⟨s24, works_s24, by decide +kernel⟩,
   ⟨s0, works_s0, by decide +kernel⟩⟩

/-- The hypotheses of SupplyEnds are met, those of each clause by a state and operands of its own (part 1). -/
theorem witness_SupplyEnds :
    (∃ (s : State), s.Working ∧ s.stage < 5) ∧
    (∃ (s : State) (vins : List (BitVec 14)) (x : VinRun), s.Working ∧ x = s.vinRun (vins.map BitVec.toNat) ∧ s.pwr.stop = 0
      ∧ s.stage < 5 ∧ (x.lost = true ∨ (s.reqStage = 5 ∧ x.stage ≤ 5))) ∧
    (∃ (s : State), s.Working ∧ s.pwr.stop = 1 ∧ s.book.running = none ∧ s.book.waiting = []) ∧
    (∃ (s : State), s.Working ∧ s.pwr.stop = 1 ∧ s.book.running ≠ none) ∧
    (∃ (s : State) (vins : List (BitVec 14)) (x : VinRun), s.Working ∧ x = s.vinRun (vins.map BitVec.toNat) ∧ x.lost = false
      ∧ s.pwr.overVin = false ∧ x.opened = none) ∧
    (∃ (s : State) (vins : List (BitVec 14)) (x : VinRun), s.Working ∧ x = s.vinRun (vins.map BitVec.toNat) ∧ x.lost = false
      ∧ s.pwr.overVin = false ∧ x.opened ≠ none) ∧
    (∃ (s : State), s.Working ∧ s.pwr.overVin = true) ∧
    (∃ (s : State), s.Working ∧ s.pwr.overVin = false) ∧
    (∃ (s : State) (rail : Fin 4) (scope : Fin 5), s.Working ∧ railOf rail scope = false) :=
  ⟨⟨s0, works_s0, by decide +kernel⟩,
   ⟨s0, List.replicate 100 0x7D0, s0.vinRun ((List.replicate 100 0x7D0 : List (BitVec 14)).map BitVec.toNat), works_s0,
      by decide +kernel⟩,
   ⟨s25, works_s25, by decide +kernel⟩,
   ⟨s26, works_s26, by decide +kernel⟩,
   ⟨s0, [], s0.vinRun (([] : List (BitVec 14)).map BitVec.toNat), works_s0, by decide +kernel⟩,
   ⟨s0, List.replicate 120 0x1DB0, s0.vinRun ((List.replicate 120 0x1DB0 : List (BitVec 14)).map BitVec.toNat),
      works_s0, by decide +kernel⟩,
   ⟨s27, works_s27, by decide +kernel⟩,
   ⟨s0, works_s0, by decide +kernel⟩,
   ⟨s0, 1, 4, works_s0, by decide +kernel⟩⟩

/-- The hypotheses of SupplyEnds are met, those of each clause by a state and operands of its own (part 2). -/
theorem witness_SupplyEnds_2 :
    (∃ (s : State) (rail : Fin 4) (r : Fin 4), s.Working ∧ rail.val ≤ 1 ∧ (s.region r).monitored = true) ∧
    (∃ (s : State) (rail : Fin 4) (r : Fin 4), s.Working ∧ rail.val ≤ 1 ∧ (s.region r).monitored = false) ∧
    (∃ (s : State) (rail : Fin 4), s.Working ∧ rail.val ≠ 1 ∧ s.plane.cxOn = true ∧ s.plane.cxFault = false) :=
  ⟨⟨s0, 0, 0, works_s0, by decide +kernel⟩,
   ⟨s28, 0, 1, works_s28, by decide +kernel⟩,
   ⟨s0, 0, works_s0, by decide +kernel⟩⟩

/-- The hypotheses of PromptBook are met, those of each clause by a state and operands of its own. -/
theorem witness_PromptBook :
    (∃ (s : State), s.Working ∧ s.book.running = none ∧ s.book.waiting = []) ∧
    (∃ (s : State), s.Working ∧ s.book.running ≠ none) ∧
    (∃ (s : State), s.Working ∧ s.rd F.PWR_PB_CFG_PERIOD_S = 0) ∧
    (∃ (s : State), s.Working ∧ 0 < s.rd F.PWR_PB_CFG_PERIOD_S ∧ s.book.running = none ∧ s.book.waiting = [] ∧ 0 < s.clk.fs) ∧
    (∃ (s : State) (k : Nat) (again : Bool) (r : Record) (rest : List Record), s.Working ∧ s.book.running = some (k, again)
      ∧ s.book.records = r :: rest ∧ s.book.waiting = [] ∧ k < 8 ∧ r.recno < 2 ^ 24) ∧
    (∃ (s : State) (k : Nat) (again : Bool) (r : Record) (rest : List Record), s.Working ∧ s.book.running = some (k, again)
      ∧ s.book.records = r :: rest ∧ s.book.waiting = [] ∧ k < 8 ∧ r.recno < 2 ^ 24 ∧ again = false) ∧
    (∃ (s : State) (k : Nat) (again : Bool) (r : Record) (rest : List Record), s.Working ∧ s.book.running = some (k, again)
      ∧ s.book.records = r :: rest ∧ s.book.waiting = [] ∧ k < 8 ∧ r.recno < 2 ^ 24 ∧ again = true) ∧
    (∃ (s : State), s.Working ∧ s.book.running = none) :=
  ⟨⟨s0, works_s0, by decide +kernel⟩,
   ⟨s26, works_s26, by decide +kernel⟩,
   ⟨s31, works_s31, by decide +kernel⟩,
   ⟨s0, works_s0, by decide +kernel⟩,
   ⟨s26, 1, false, ((s26.book.records).head (by decide +kernel)), [], works_s26, by decide +kernel⟩,
   ⟨s26, 1, false, ((s26.book.records).head (by decide +kernel)), [], works_s26, by decide +kernel⟩,
   ⟨s30, 3, true, ((s30.book.records).head (by decide +kernel)), ((s30.book.records).tail), works_s30,
      by decide +kernel⟩,
   ⟨s0, works_s0, by decide +kernel⟩⟩

/-- The hypotheses of Counting are met, those of each clause by a state and operands of its own. -/
theorem witness_Counting :
    (∃ (s : State), s.Working ∧ s.stage ≠ 0) ∧
    (∃ (s : State), s.Working ∧ s.stage = 0) ∧
    (∃ (s : State), s.Working ∧ s.rdB F.PMC_CTL_DUMP_EN = true ∧ s.stage = 0 ∧ 0 < s.clk.fs) ∧
    (∃ (s : State), s.Working ∧ (s.rdB F.PMC_CTL_DUMP_EN = false ∨ s.stage ≠ 0)) ∧
    (∃ (s : State) (i : Nat) (x : TraceTag), s.Working ∧ s.pmc.tags[i]? = some x ∧ (s.queue 3).blocked = [] ∧ (s.queue
      3).fill + 6 ≤ queueCap 3) ∧
    (∃ (s : State) (i : Nat), s.Working ∧ s.pmc.tags[i]? = none) :=
  ⟨⟨s21, works_s21, by decide +kernel⟩,
   ⟨s0, works_s0, by decide +kernel⟩,
   ⟨s33, works_s33, by decide +kernel⟩,
   ⟨s0, works_s0, by decide +kernel⟩,
   ⟨s37, 0, ((s37.pmc.tags[(0 : Nat)]?).get (by decide +kernel)), works_s37, by decide +kernel⟩,
   ⟨s0, 0, works_s0, by decide +kernel⟩⟩

end Sys2Proof.Tests.Faults

namespace Sys2Proof.Tests.Links
set_option Elab.async false
def onQ (s : State) (i : Nat) (f : Queue → Queue) : State := { s with que := s.que.modify i f }
def lane (s : State) (n st : Nat) : State := s.wr F.LNK_LANE_STAT_STATE n st
def rxs (s : State) (n st : Nat) : State := s.wr F.LNK_LANE_STAT_RX_SUB n st
def txs (s : State) (n st : Nat) : State := s.wr F.LNK_LANE_STAT_TX_SUB n st
def onL (s : State) (n : Nat) (f : Lane → Lane) : State := s.onLane n f
def lnk (s : State) (f : Lnk → Lnk) : State := { s with lnk := f s.lnk }
def prm (s : State) (f : Prm → Prm) : State := { s with prm := f s.prm }
def id9 : State := { ready with regs := [(F.MGT_START_STAT, 8), (F.MGT_MODULE_ID, 9), (F.PWR_STAGE, 0x220)] }
def up : State := { ready with regs := [(F.MGT_START_STAT, 8), (F.MGT_MODULE_ID, 9), (F.PWR_STAGE, 0x220), (F.LNK_LANE_STAT, 2), (F.LNK_LANE_STAT + 20, 2), (F.LNK_LANE_STAT + 48, 2)] }
def pkt1 : Packet := { words := packetWords [5, 6], at_ := 99000 }
def com : State := { ready with regs :=
  [(F.MGT_START_STAT, 8), (F.MGT_MODULE_ID, 9), (F.PWR_STAGE, 0x220), (F.LNK_LANE_STAT, 2), (F.LNK_LANE_STAT + 20, 2), (F.LNK_LANE_STAT + 48, 2), (F.PRM_STAT, 3), (F.PRM_DB_BASE_LO, 0x10000)] }
def rd (p n : Nat) : MemRead := { path := 0, tag := 7, addr := 4096, count := n, at_ := 99000, purpose := p }
def ringsOn : State := { ready with regs :=
  [(F.MGT_START_STAT, 8), (F.MGT_MODULE_ID, 9), (F.PWR_STAGE, 0x220), (F.LNK_LANE_STAT, 2), (F.LNK_LANE_STAT + 20, 2), (F.LNK_LANE_STAT + 48, 2), (F.PRM_STAT, 3), (F.PRM_DB_BASE_LO, 0x10000), (F.PRM_RING_CFG, 260), (F.PRM_RING_CFG + 128, 260)] }
def cmd (ws : List LWord) : PCmd := { words := ws }
def oneCmd (ws : List LWord) : State := prm ringsOn fun p => { p with cmds := [cmd ws] }
def held1 : RxHeld := { path := 0, cls := 0, seq := 6, ftype := 9, lane := 0, words := [0], at_ := 99000 }
def s0 : State := ready
def s1 : State := lane (up.wr F.LNK_LANE_CTL_EN 5 0) 5 0
def s2 : State := lnk (prm com (fun p => { p with pollAt := some 99000, answers := [none, none] })) (fun l => { l with mem := [{ key := 200 }, { key := 201 }] })
def s5 : State := lane id9 0 1
def s8 : State := lane (onL id9 5 fun l => { l with groups := some 3 }) 5 1
def s10 : State := lane id9 5 3
def s11 : State := rxs up 5 2
def s12 : State := rxs up 0 1
def s14 : State := txs up 5 1
def s15 : State := txs up 5 2
def s23 : State := lane (heavy.wr F.LNK_LANE_CTL_EN 5 1) 5 2
def s27 : State := lnk up (fun l => { l with held := l.held.set 0 [{ words := [1] }, {}] })
def s28 : State := onQ up 0 fun q => { q with waiting := [pkt1, pkt1] }
def s34 : State := com
def s37 : State := lnk com (fun l => { l with reads := [rd 200 18] })
def s39 : State := lnk com (fun l => { l with reads := [rd 217 4] })
def s41 : State := prm com (fun p => { p with paused := true })
def s43 : State := prm (com.wr F.LNK_MEM_CFG_PATH 0 1) (fun p => { p with path := 0 })
def s46 : State := (id9.wr F.PRM_DB_BASE_LO_ADDR 0 16).wr F.PRM_ST_BASE_LO_ADDR 0 32
def s48 : State := prm ringsOn (fun p => { p with pollAt := some 99000, answers := [some (List.replicate 18 3), some (List.replicate 18 0)] })
def s49 : State := prm (ringsOn.wr F.PRM_ST_BASE_LO_ADDR 0 0x1000) (fun p => { p with pollAt := some 99000, answers := [some (List.replicate 18 300), some (List.replicate 18 300)] })
def s50 : State := ringsOn.wr F.PRM_RING_STAT_STOPPED 0 1
def s52 : State := oneCmd [word64 [(56, 0)], 0, 0, 0]
def s53 : State := oneCmd [word64 [(56, 1)], 0, 0, 0]
def s54 : State := oneCmd [word64 [(56, 2)], 0x3, 5, 0]
def s55 : State := oneCmd [word64 [(56, 2)], 0x300000, 5, 0]
def s56 : State := oneCmd [word64 [(56, 2)], BitVec.ofNat 64 (F.QUE_LINGER_C1_LINGER.addr 0), 5, 0]
def s59 : State := oneCmd [word64 [(56, 3)], BitVec.ofNat 64 (F.TRG_DET_MULT.addr 3), 5, 0]
def s62 : State := oneCmd [word64 [(56, 4)], 0, 5, 0]
def s63 : State := oneCmd [word64 [(56, 4)], 4, 8, 0]
def s64 : State := oneCmd [word64 [(56, 4)], 0x100000, 16, 64]
def s65 : State := oneCmd [word64 [(56, 0x10)], 3, 5, 0]
def s66 : State := oneCmd [word64 [(56, 0x10)], 0x1C3, 5, 0]
def s67 : State := oneCmd [word64 [(56, 0x20)], 3, 5, 0]
def x0 : State := id9
def x1 : State := up
def x2 : State := lane id9 0 1
def x4 : State := lnk up (fun l => { l with expect := l.expect.set 0 (some 5) })
def x8 : State := lnk up (fun l => { l with hold := [held1] })
def x9 : State := (onL up 5 fun l => { l with swapped := true })
theorem works_s0 : s0.Working := working (by decide +kernel)
theorem works_s1 : s1.Working := working (by decide +kernel)
theorem works_s2 : s2.Working := working (by decide +kernel)
theorem works_s5 : s5.Working := working (by decide +kernel)
theorem works_s8 : s8.Working := working (by decide +kernel)
theorem works_s10 : s10.Working := working (by decide +kernel)
theorem works_s11 : s11.Working := working (by decide +kernel)
theorem works_s12 : s12.Working := working (by decide +kernel)
theorem works_s14 : s14.Working := working (by decide +kernel)
theorem works_s15 : s15.Working := working (by decide +kernel)
theorem works_s23 : s23.Working := working (by decide +kernel)
theorem works_s27 : s27.Working := working (by decide +kernel)
theorem works_s28 : s28.Working := working (by decide +kernel)
theorem works_s34 : s34.Working := working (by decide +kernel)
theorem works_s37 : s37.Working := working (by decide +kernel)
theorem works_s39 : s39.Working := working (by decide +kernel)
theorem works_s41 : s41.Working := working (by decide +kernel)
theorem works_s43 : s43.Working := working (by decide +kernel)
theorem works_s46 : s46.Working := working (by decide +kernel)
theorem works_s48 : s48.Working := working (by decide +kernel)
theorem works_s49 : s49.Working := working (by decide +kernel)
theorem works_s50 : s50.Working := working (by decide +kernel)
theorem works_s52 : s52.Working := working (by decide +kernel)
theorem works_s53 : s53.Working := working (by decide +kernel)
theorem works_s54 : s54.Working := working (by decide +kernel)
theorem works_s55 : s55.Working := working (by decide +kernel)
theorem works_s56 : s56.Working := working (by decide +kernel)
theorem works_s59 : s59.Working := working (by decide +kernel)
theorem works_s62 : s62.Working := working (by decide +kernel)
theorem works_s63 : s63.Working := working (by decide +kernel)
theorem works_s64 : s64.Working := working (by decide +kernel)
theorem works_s65 : s65.Working := working (by decide +kernel)
theorem works_s66 : s66.Working := working (by decide +kernel)
theorem works_s67 : s67.Working := working (by decide +kernel)
theorem works_x0 : x0.Working := working (by decide +kernel)
theorem works_x1 : x1.Working := working (by decide +kernel)
theorem works_x2 : x2.Working := working (by decide +kernel)
theorem works_x4 : x4.Working := working (by decide +kernel)
theorem works_x8 : x8.Working := working (by decide +kernel)
theorem works_x9 : x9.Working := working (by decide +kernel)

/-- The hypotheses of LinkFrames are met, those of each clause by a state and operands of its own. -/
theorem witness_LinkFrames :
    (∃ (s : State), s.Working ∧ s.lnk.held.length = 8 ∧ s.moduleId = 0) ∧
    (∃ (s : State) (path : Fin 2) (f : TxFrame) (rest : List TxFrame), s.Working ∧ s.lnk.held.length = 8 ∧ s.moduleId ≠ 0 ∧
      s.rdB F.PRM_STAT_COMMITTED = false ∧ s.prm.cmds = [] ∧ s.laneUp (12 * path.val) = true ∧ (s.runPath path).slotRoom
      (12 * path.val) = true ∧ s.lnk.held.getD path.val [] = f :: rest ∧ f.cls = 0 ∧ f.ftype ≠ 0x01 ∧ (∀ x, (s.queue
      0).waiting.head? = some x → x.only = none ∧ ∃ ws, x.words = packetWords ws)) ∧
    (∃ (s : State) (path : Fin 2) (x : Packet) (ws : List LWord) (rest : List Packet), s.Working ∧ s.lnk.held.length = 8 ∧
      s.moduleId ≠ 0 ∧ s.rdB F.PRM_STAT_COMMITTED = false ∧ s.prm.cmds = [] ∧ s.laneUp (12 * path.val) = true ∧
      (s.runPath path).slotRoom (12 * path.val) = true ∧ s.lnk.held.getD path.val [] = [] ∧ (s.queue 0).waiting = x ::
      rest ∧ (s.queue 0).reading = none ∧ (s.queue 0).blocked = [] ∧ x.only = none ∧ x.ftype ≠ 0x01 ∧ x.words =
      packetWords ws ∧ ws ≠ [] ∧ (s.lnk.held.getD (1 - path.val) []).length < 64) ∧
    (∃ (s : State), s.Working ∧ s.lnk.held.length = 8 ∧ s.lnk.limit.length = 6) ∧
    (∃ (s : State) (path : Fin 2) (n : Nat) (u : State), s.Working ∧ s.lnk.held.length = 8 ∧ s.moduleId ≠ 0 ∧ u = s.runPath
      path ∧ u.earliestLane path = some n ∧ s.lnk.granted.length = 2) ∧
    (∃ (s : State) (path : Fin 2), s.Working ∧ s.lnk.held.length = 8 ∧ s.upLanes path = []) ∧
    (∃ (s : State) (w : Word) (verdict : Option Nat) (q : Nat), s.Working ∧ s.lnk.held.length = 8 ∧ (verdict = (if getField
      w 2 2 ≠ s.rd F.LNK_CLASS_POL_C2_POL ∨ getField w 16 8 ≠ s.rd F.LNK_CLASS_POL_SPLIT_MAP then AdmitCfg.refusedBy
      { s.admitCfg with policy := getField w 2 2, split := getField w 16 8 } s.clk.fs else none)) ∧ verdict = some q) ∧
    (∃ (s : State) (w : Word) (verdict : Option Nat), s.Working ∧ s.lnk.held.length = 8 ∧ (verdict = (if getField w 2 2 ≠
      s.rd F.LNK_CLASS_POL_C2_POL ∨ getField w 16 8 ≠ s.rd F.LNK_CLASS_POL_SPLIT_MAP then AdmitCfg.refusedBy
      { s.admitCfg with policy := getField w 2 2, split := getField w 16 8 } s.clk.fs else none)) ∧ verdict = none) :=
  ⟨⟨s0, works_s0, by decide +kernel⟩,
   ⟨s27, 0, ((s27.lnk.held.getD (0 : Fin 2).val []).head (by decide +kernel)), ((s27.lnk.held.getD (0 : Fin 2).val
      []).tail), works_s27, by decide +kernel, by decide +kernel, by decide +kernel, by decide +kernel,
      by decide +kernel, by decide +kernel, by decide +kernel, by decide +kernel, by decide +kernel, (fun x h => by
      simp [show (s27.queue 0).waiting.head? = none from by decide +kernel] at h)⟩,
   ⟨s28, 0, (((s28.queue 0).waiting).head (by decide +kernel)), [5, 6], (((s28.queue 0).waiting).tail), works_s28,
      by decide +kernel⟩,
   ⟨x0, works_x0, by decide +kernel⟩,
   ⟨s1, 0, 0, s1.runPath (0 : Fin 2), works_s1, by decide +kernel⟩,
   ⟨x0, 0, works_x0, by decide +kernel⟩,
   ⟨s23, 0, (if getField (0 : Word) 2 2 ≠ s23.rd F.LNK_CLASS_POL_C2_POL ∨ getField (0 : Word) 16 8 ≠ s23.rd
      F.LNK_CLASS_POL_SPLIT_MAP then AdmitCfg.refusedBy
      { s23.admitCfg with policy := getField (0 : Word) 2 2, split := getField (0 : Word) 16 8 } s23.clk.fs else
      none), ((((if getField (0 : Word) 2 2 ≠ s23.rd F.LNK_CLASS_POL_C2_POL ∨ getField (0 : Word) 16 8 ≠ s23.rd
      F.LNK_CLASS_POL_SPLIT_MAP then AdmitCfg.refusedBy
      { s23.admitCfg with policy := getField (0 : Word) 2 2, split := getField (0 : Word) 16 8 } s23.clk.fs else
      none) : Option Nat)).get (by decide +kernel)), works_s23, by decide +kernel⟩,
   ⟨x0, 0, (if getField (0 : Word) 2 2 ≠ x0.rd F.LNK_CLASS_POL_C2_POL ∨ getField (0 : Word) 16 8 ≠ x0.rd
      F.LNK_CLASS_POL_SPLIT_MAP then AdmitCfg.refusedBy
      { x0.admitCfg with policy := getField (0 : Word) 2 2, split := getField (0 : Word) 16 8 } x0.clk.fs else
      none), works_x0, by decide +kernel⟩⟩

/-- The hypotheses of FrameReception are met, those of each clause by a state and operands of its own (part 1). -/
theorem witness_FrameReception :
    (∃ (s : State) (n : Fin 24), s.Working ∧ s.lnk.expect.length = 8 ∧ (s.hears n = false ∨ (s.laneUp n = false ∧ s.rd
      F.LNK_LANE_STAT_STATE n ≠ 1))) ∧
    (∃ (s : State) (n : Fin 24) (h : LWord) (pay : List LWord) (k : Nat) (phi : Fin 1024) (ws : List LWord) (f : RxHeld),
      s.Working ∧ s.lnk.expect.length = 8 ∧ ws = pay.take (hdrWords h) ∧ f =
      { path := n.val / 12, cls := hdrClass h, seq := hdrSeq h, ftype := hdrType h, lane := n.val, words := ws, at_ := k, phi := phi.val }
      ∧ s.hears n = true ∧ s.laneUp n = true ∧ s.rd F.LNK_LANE_STAT_RX_SUB n = 0 ∧ 32 < hdrWords h) ∧
    (∃ (s : State) (n : Fin 24) (h : LWord) (pay : List LWord) (crc : BitVec 32) (k : Nat) (phi : Fin 1024) (ws : List
      LWord) (f : RxHeld), s.Working ∧ s.lnk.expect.length = 8 ∧ ws = pay.take (hdrWords h) ∧ f =
      { path := n.val / 12, cls := hdrClass h, seq := hdrSeq h, ftype := hdrType h, lane := n.val, words := ws, at_ := k, phi := phi.val }
      ∧ s.hears n = true ∧ s.laneUp n = true ∧ s.rd F.LNK_LANE_STAT_RX_SUB n = 0 ∧ hdrWords h ≤ 32 ∧ crc.toNat ≠
      crcWords (h :: ws)) ∧
    (∃ (s : State) (n : Fin 24) (h : LWord) (pay : List LWord) (crc : BitVec 32) (k : Nat) (phi : Fin 1024) (ws : List
      LWord) (f : RxHeld), s.Working ∧ s.lnk.expect.length = 8 ∧ ws = pay.take (hdrWords h) ∧ f =
      { path := n.val / 12, cls := hdrClass h, seq := hdrSeq h, ftype := hdrType h, lane := n.val, words := ws, at_ := k, phi := phi.val }
      ∧ s.hears n = true ∧ s.laneUp n = true ∧ s.rd F.LNK_LANE_STAT_RX_SUB n = 0 ∧ hdrWords h ≤ 32 ∧ crc.toNat =
      crcWords (h :: ws) ∧ (s.rxFull n = true ∨ s.accepts n h = false)) ∧
    (∃ (s : State) (n : Fin 24) (h : LWord) (pay : List LWord) (crc : BitVec 32) (k : Nat) (phi : Fin 1024) (ws : List
      LWord) (f : RxHeld) (e : Nat), s.Working ∧ s.lnk.expect.length = 8 ∧ ws = pay.take (hdrWords h) ∧ f =
      { path := n.val / 12, cls := hdrClass h, seq := hdrSeq h, ftype := hdrType h, lane := n.val, words := ws, at_ := k, phi := phi.val }
      ∧ s.hears n = true ∧ s.laneUp n = true ∧ s.rd F.LNK_LANE_STAT_RX_SUB n = 0 ∧ hdrWords h ≤ 32 ∧ crc.toNat =
      crcWords (h :: ws) ∧ s.rxFull n = false ∧ s.accepts n h = true ∧ (hdrType h = 0x08 ∨ hdrType h = 0x09) ∧
      s.expected (n.val / 12) 0 = some e ∧ hdrSeq h ≠ e ∧ (hdrSeq h + 2 ^ 24 - e) % 2 ^ 24 < 2 ^ 23) ∧
    (∃ (s : State) (n : Fin 24) (h : LWord) (pay : List LWord) (crc : BitVec 32) (k : Nat) (phi : Fin 1024) (ws : List
      LWord) (f : RxHeld), s.Working ∧ s.lnk.expect.length = 8 ∧ ws = pay.take (hdrWords h) ∧ f =
      { path := n.val / 12, cls := hdrClass h, seq := hdrSeq h, ftype := hdrType h, lane := n.val, words := ws, at_ := k, phi := phi.val }
      ∧ s.hears n = true ∧ s.laneUp n = true ∧ s.rd F.LNK_LANE_STAT_RX_SUB n = 0 ∧ hdrWords h ≤ 32 ∧ crc.toNat =
      crcWords (h :: ws) ∧ s.accepts n h = true ∧ (hdrType h = 0x08 ∨ hdrType h = 0x09) ∧ (s.expected (n.val / 12) 0 =
      none ∨ s.expected (n.val / 12) 0 = some (hdrSeq h)) ∧ s.lnk.hold = []) ∧
    (∃ (s : State) (n : Fin 24) (h : LWord) (pay : List LWord) (crc : BitVec 32) (k : Nat) (phi : Fin 1024) (ws : List
      LWord) (f : RxHeld), s.Working ∧ s.lnk.expect.length = 8 ∧ ws = pay.take (hdrWords h) ∧ f =
      { path := n.val / 12, cls := hdrClass h, seq := hdrSeq h, ftype := hdrType h, lane := n.val, words := ws, at_ := k, phi := phi.val }
      ∧ s.hears n = true ∧ s.laneUp n = true ∧ s.rd F.LNK_LANE_STAT_RX_SUB n = 0 ∧ hdrWords h ≤ 32 ∧ crc.toNat =
      crcWords (h :: ws) ∧ s.accepts n h = true ∧ hdrType h = 0x10 ∧ s.lnk.granted.getD (n.val / 12) 0 =
      s.lnk.taken.getD (n.val / 12) 0 ∧ s.lnk.taken.getD (n.val / 12) 0 < 65536) ∧
    (∃ (s : State) (n : Fin 24) (h : LWord) (pay : List LWord) (ws : List LWord), s.Working ∧ s.lnk.expect.length = 8 ∧ ws =
      pay.take (hdrWords h) ∧ s.hears n = true ∧ s.rd F.LNK_LANE_STAT_STATE n = 1 ∧ 32 < hdrWords h) :=
  ⟨⟨x0, 0, works_x0, by decide +kernel⟩,
   ⟨x1, 0, 0x828000000000009, [], 100200, 0, ([] : List LWord).take (hdrWords (0x828000000000009 : LWord)),
      { path := (0 : Fin 24).val / 12, cls := hdrClass (0x828000000000009 : LWord), seq := hdrSeq (0x828000000000009 : LWord), ftype := hdrType (0x828000000000009 : LWord), lane := (0 : Fin 24).val, words := (([] : List LWord).take (hdrWords (0x828000000000009 : LWord)) : List LWord), at_ := (100200 : Nat), phi := (0 : Fin 1024).val },
      works_x1, by decide +kernel⟩,
   ⟨x1, 0, 0x1000000000009, [], 0, 100200, 0, ([] : List LWord).take (hdrWords (0x1000000000009 : LWord)),
      { path := (0 : Fin 24).val / 12, cls := hdrClass (0x1000000000009 : LWord), seq := hdrSeq (0x1000000000009 : LWord), ftype := hdrType (0x1000000000009 : LWord), lane := (0 : Fin 24).val, words := (([] : List LWord).take (hdrWords (0x1000000000009 : LWord)) : List LWord), at_ := (100200 : Nat), phi := (0 : Fin 1024).val },
      works_x1, by decide +kernel⟩,
   ⟨x1, 0, 0x80100000500004D, [], 0xFE2450BC, 100200, 0, ([] : List LWord).take (hdrWords (0x80100000500004D : LWord)),
      { path := (0 : Fin 24).val / 12, cls := hdrClass (0x80100000500004D : LWord), seq := hdrSeq (0x80100000500004D : LWord), ftype := hdrType (0x80100000500004D : LWord), lane := (0 : Fin 24).val, words := (([] : List LWord).take (hdrWords (0x80100000500004D : LWord)) : List LWord), at_ := (100200 : Nat), phi := (0 : Fin 1024).val },
      works_x1, by decide +kernel⟩,
   ⟨x4, 0, 0x901000007000009, [], 0x8E9E84B9, 100200, 0, ([] : List LWord).take (hdrWords (0x901000007000009 : LWord)),
      { path := (0 : Fin 24).val / 12, cls := hdrClass (0x901000007000009 : LWord), seq := hdrSeq (0x901000007000009 : LWord), ftype := hdrType (0x901000007000009 : LWord), lane := (0 : Fin 24).val, words := (([] : List LWord).take (hdrWords (0x901000007000009 : LWord)) : List LWord), at_ := (100200 : Nat), phi := (0 : Fin 1024).val },
      ((x4.expected ((0 : Fin 24).val / 12) 0).get (by decide +kernel)), works_x4, by decide +kernel⟩,
   ⟨x1, 0, 0x801000005000009, [], 0x78C5DA1F, 100200, 0, ([] : List LWord).take (hdrWords (0x801000005000009 : LWord)),
      { path := (0 : Fin 24).val / 12, cls := hdrClass (0x801000005000009 : LWord), seq := hdrSeq (0x801000005000009 : LWord), ftype := hdrType (0x801000005000009 : LWord), lane := (0 : Fin 24).val, words := (([] : List LWord).take (hdrWords (0x801000005000009 : LWord)) : List LWord), at_ := (100200 : Nat), phi := (0 : Fin 1024).val },
      works_x1, by decide +kernel⟩,
   ⟨x1, 0, 0x1043000000000009, [], 0xB25E12D0, 100200, 0, ([] : List LWord).take (hdrWords (0x1043000000000009 :
      LWord)),
      { path := (0 : Fin 24).val / 12, cls := hdrClass (0x1043000000000009 : LWord), seq := hdrSeq (0x1043000000000009 : LWord), ftype := hdrType (0x1043000000000009 : LWord), lane := (0 : Fin 24).val, words := (([] : List LWord).take (hdrWords (0x1043000000000009 : LWord)) : List LWord), at_ := (100200 : Nat), phi := (0 : Fin 1024).val },
      works_x1, by decide +kernel⟩,
   ⟨x2, 0, 0x828000000000009, [], ([] : List LWord).take (hdrWords (0x828000000000009 : LWord)), works_x2,
      by decide +kernel⟩⟩

/-- The hypotheses of FrameReception are met, those of each clause by a state and operands of its own (part 2). -/
theorem witness_FrameReception_2 :
    (∃ (s : State) (n : Fin 24) (h : LWord) (pay : List LWord) (crc : BitVec 32) (ws : List LWord), s.Working ∧
      s.lnk.expect.length = 8 ∧ ws = pay.take (hdrWords h) ∧ s.hears n = true ∧ s.rd F.LNK_LANE_STAT_STATE n = 1 ∧
      hdrWords h ≤ 32 ∧ crc.toNat ≠ crcWords (h :: ws)) ∧
    (∃ (s : State) (n : Fin 24) (h : LWord) (pay : List LWord) (crc : BitVec 32) (ws : List LWord), s.Working ∧
      s.lnk.expect.length = 8 ∧ ws = pay.take (hdrWords h) ∧ s.hears n = true ∧ s.rd F.LNK_LANE_STAT_STATE n = 1 ∧
      hdrWords h ≤ 32 ∧ crc.toNat = crcWords (h :: ws) ∧ s.accepts n h = true ∧ hdrType h = 0x00) ∧
    (∃ (s : State), s.Working ∧ s.lnk.expect.length = 8 ∧ s.lnk.hold = []) ∧
    (∃ (s : State) (f : RxHeld), s.Working ∧ s.lnk.expect.length = 8 ∧ s.lnk.hold = [f] ∧ (f.ftype = 0x08 ∨ f.ftype = 0x09 ∨
      f.ftype = 0x10) ∧ f.path < 2 ∧ f.cls < 2) :=
  ⟨⟨x2, 0, 0x1000000000009, [], 0, ([] : List LWord).take (hdrWords (0x1000000000009 : LWord)), works_x2,
      by decide +kernel⟩,
   ⟨x2, 0, 0x1000000000009, [], 0x9C99458E, ([] : List LWord).take (hdrWords (0x1000000000009 : LWord)), works_x2,
      by decide +kernel⟩,
   ⟨x0, works_x0, by decide +kernel⟩,
   ⟨x8, ((x8.lnk.hold).head (by decide +kernel)), works_x8, by decide +kernel⟩⟩

/-- The hypotheses of Lanes are met, those of each clause by a state and operands of its own (part 1). -/
theorem witness_Lanes :
    (∃ (s : State) (n : Fin 24) (l : Lane), s.Working ∧ l = s.lane n ∧ s.rd F.LNK_LANE_STAT_STATE n = 0 ∧ s.laneAllowed n =
      true ∧ s.clk.refclk = true) ∧
    (∃ (s : State) (n : Fin 24) (l : Lane), s.Working ∧ l = s.lane n ∧ (s.rd F.LNK_LANE_STAT_STATE n ≠ 0 ∨ s.laneAllowed n =
      false ∨ s.clk.refclk = false)) ∧
    (∃ (s : State) (n : Fin 24) (l : Lane), s.Working ∧ l = s.lane n ∧ s.rd F.LNK_LANE_STAT_STATE n ≠ 1) ∧
    (∃ (s : State) (n : Fin 24) (l : Lane), s.Working ∧ l = s.lane n ∧ (s.hears n = false ∨ (s.rd F.LNK_LANE_STAT_STATE n ≠
      1 ∧ s.laneUp n = false))) ∧
    (∃ (s : State) (n : Fin 24) (l : Lane), s.Working ∧ l = s.lane n ∧ s.hears n = true ∧ s.laneUp n = true ∧ s.rd
      F.LNK_LANE_STAT_RX_SUB n = 0) ∧
    (∃ (s : State) (n : Fin 24) (l : Lane), s.Working ∧ l = s.lane n ∧ s.rd F.LNK_LANE_STAT_STATE n = 1 ∧ s.hears n = true) ∧
    (∃ (s : State) (n : Fin 24) (l : Lane) (w : LWord), s.Working ∧ l = s.lane n ∧ s.rd F.LNK_LANE_STAT_STATE n = 1 ∧
      s.hears n = true ∧ w.toNat / 2 ^ 56 = 1 ∧ w.toNat / 2 ^ 48 % 256 = s.pathRate (n.val / 12)) ∧
    (∃ (s : State) (n : Fin 24) (l : Lane) (w : LWord), s.Working ∧ l = s.lane n ∧ s.rd F.LNK_LANE_STAT_STATE n = 1 ∧
      s.hears n = true ∧ (w.toNat / 2 ^ 56 ≠ 1 ∨ w.toNat / 2 ^ 48 % 256 ≠ s.pathRate (n.val / 12))) :=
  ⟨⟨s0, 0, s0.lane (0 : Fin 24), works_s0, by decide +kernel⟩,
   ⟨s1, 0, s1.lane (0 : Fin 24), works_s1, by decide +kernel⟩,
   ⟨s0, 0, s0.lane (0 : Fin 24), works_s0, by decide +kernel⟩,
   ⟨s0, 0, s0.lane (0 : Fin 24), works_s0, by decide +kernel⟩,
   ⟨s1, 0, s1.lane (0 : Fin 24), works_s1, by decide +kernel⟩,
   ⟨s5, 0, s5.lane (0 : Fin 24), works_s5, by decide +kernel⟩,
   ⟨s5, 0, s5.lane (0 : Fin 24), 0x10A000000000000, works_s5, by decide +kernel⟩,
   ⟨s5, 0, s5.lane (0 : Fin 24), 0x801000005000009, works_s5, by decide +kernel⟩⟩

/-- The hypotheses of Lanes are met, those of each clause by a state and operands of its own (part 2). -/
theorem witness_Lanes_2 :
    (∃ (s : State) (n : Fin 24) (l : Lane), s.Working ∧ l = s.lane n ∧ s.rd F.LNK_LANE_STAT_STATE n = 1 ∧ l.groups ≠ none) ∧
    (∃ (s : State) (n : Fin 24) (l : Lane), s.Working ∧ l = s.lane n ∧ s.rd F.LNK_LANE_STAT_STATE n = 1) ∧
    (∃ (s : State) (n : Fin 24) (l : Lane), s.Working ∧ l = s.lane n ∧ s.rd F.LNK_LANE_STAT_STATE n = 3 ∧ s.laneAllowed n =
      true ∧ l.pll = true) ∧
    (∃ (s : State) (n : Fin 24) (l : Lane), s.Working ∧ l = s.lane n ∧ s.rd F.LNK_LANE_STAT_STATE n ≠ 3) ∧
    (∃ (s : State) (n : Fin 24) (l : Lane) (seed : BitVec 31), s.Working ∧ l = s.lane n ∧ s.rxAligned n = true ∧ l.rxScr =
      seed.toNat) ∧
    (∃ (s : State) (n : Fin 24) (l : Lane) (seed : BitVec 31), s.Working ∧ l = s.lane n ∧ s.rxAligned n = true ∧ l.rxScr ≠
      seed.toNat) ∧
    (∃ (s : State) (n : Fin 24) (l : Lane), s.Working ∧ l = s.lane n ∧ s.rxAligned n = false) ∧
    (∃ (s : State) (n : Fin 24) (l : Lane), s.Working ∧ l = s.lane n ∧ s.hears n = false) :=
  ⟨⟨s8, 5, s8.lane (5 : Fin 24), works_s8, by decide +kernel⟩,
   ⟨s5, 0, s5.lane (0 : Fin 24), works_s5, by decide +kernel⟩,
   ⟨s10, 5, s10.lane (5 : Fin 24), works_s10, by decide +kernel⟩,
   ⟨s0, 0, s0.lane (0 : Fin 24), works_s0, by decide +kernel⟩,
   ⟨s1, 0, s1.lane (0 : Fin 24), 1, works_s1, by decide +kernel⟩,
   ⟨s1, 0, s1.lane (0 : Fin 24), 5, works_s1, by decide +kernel⟩,
   ⟨s0, 0, s0.lane (0 : Fin 24), works_s0, by decide +kernel⟩,
   ⟨x9, 5, x9.lane (5 : Fin 24), works_x9, by decide +kernel⟩⟩

/-- The hypotheses of Lanes are met, those of each clause by a state and operands of its own (part 3). -/
theorem witness_Lanes_3 :
    (∃ (s : State) (n : Fin 24) (l : Lane), s.Working ∧ l = s.lane n ∧ s.hears n = true ∧ s.rd F.LNK_LANE_STAT_STATE n = 1) ∧
    (∃ (s : State) (n : Fin 24) (l : Lane), s.Working ∧ l = s.lane n ∧ s.hears n = true ∧ s.laneUp n = true ∧ s.rd
      F.LNK_LANE_STAT_RX_SUB n ≠ 0) ∧
    (∃ (s : State) (n : Fin 24) (l : Lane) (marker : Option (BitVec 33)), s.Working ∧ l = s.lane n ∧ (s.laneUp n =
      false ∨ s.rd F.LNK_LANE_STAT_RX_SUB n = 2 ∨ (∃ bits : BitVec 33, marker = some bits ∧ markerError bits.toNat = false))) ∧
    (∃ (s : State) (n : Fin 24) (l : Lane), s.Working ∧ l = s.lane n ∧ s.laneUp n = false) ∧
    (∃ (s : State) (n : Fin 24) (l : Lane) (marker : Option (BitVec 33)), s.Working ∧ l = s.lane n ∧ s.laneUp n =
      true ∧ s.rd F.LNK_LANE_STAT_RX_SUB n ≠ 2 ∧ (∀ bits, marker = some bits → markerError bits.toNat = true)) ∧
    (∃ (s : State) (n : Fin 24) (l : Lane), s.Working ∧ l = s.lane n ∧ s.laneUp n = true ∧ s.rd F.LNK_LANE_STAT_RX_SUB n =
      2) ∧
    (∃ (s : State) (n : Fin 24) (l : Lane), s.Working ∧ l = s.lane n ∧ s.laneUp n = true ∧ s.rd F.LNK_LANE_STAT_RX_SUB n ≠
      2) ∧
    (∃ (s : State) (n : Fin 24) (l : Lane), s.Working ∧ l = s.lane n ∧ s.laneUp n = true ∧ s.rd F.LNK_LANE_STAT_RX_SUB n ≠
      1) :=
  ⟨⟨s5, 0, s5.lane (0 : Fin 24), works_s5, by decide +kernel⟩,
   ⟨s11, 5, s11.lane (5 : Fin 24), works_s11, by decide +kernel⟩,
   ⟨s0, 0, s0.lane (0 : Fin 24), none, works_s0, rfl, Or.inl (by decide +kernel)⟩,
   ⟨s0, 0, s0.lane (0 : Fin 24), works_s0, by decide +kernel⟩,
   ⟨s1, 0, s1.lane (0 : Fin 24), some 0, works_s1, rfl, by decide +kernel, by decide +kernel,
      fun b h => by cases h; decide +kernel⟩,
   ⟨s11, 5, s11.lane (5 : Fin 24), works_s11, by decide +kernel⟩,
   ⟨s1, 0, s1.lane (0 : Fin 24), works_s1, by decide +kernel⟩,
   ⟨s1, 0, s1.lane (0 : Fin 24), works_s1, by decide +kernel⟩⟩

/-- The hypotheses of Lanes are met, those of each clause by a state and operands of its own (part 4). -/
theorem witness_Lanes_4 :
    (∃ (s : State) (n : Fin 24) (l : Lane), s.Working ∧ l = s.lane n ∧ s.laneUp n = true ∧ s.rd F.LNK_LANE_STAT_RX_SUB n =
      1) ∧
    (∃ (s : State) (n : Fin 24) (l : Lane), s.Working ∧ l = s.lane n ∧ s.laneUp n = true ∧ s.hears n = true) ∧
    (∃ (s : State) (n : Fin 24) (l : Lane), s.Working ∧ l = s.lane n ∧ s.laneUp n = true ∧ ((n.val ≠ 0 ∧ n.val ≠ 12) ∨ s.rd
      F.LNK_LANE_CTL_EN n = 1)) ∧
    (∃ (s : State) (n : Fin 24) (l : Lane), s.Working ∧ l = s.lane n ∧ s.laneUp n = true ∧ n.val ≠ 0 ∧ n.val ≠ 12 ∧ s.rd
      F.LNK_LANE_STAT_TX_SUB n = 0 ∧ 0 < s.rd F.LNK_PATH_CFG_IDLE_US ∧ l.slot0 = [] ∧ l.buf = []) ∧
    (∃ (s : State) (n : Fin 24) (l : Lane), s.Working ∧ l = s.lane n ∧ s.laneUp n = true ∧ (n.val = 0 ∨ n.val = 12 ∨ s.rd
      F.LNK_PATH_CFG_IDLE_US = 0 ∨ s.rd F.LNK_LANE_STAT_TX_SUB n ≠ 0)) ∧
    (∃ (s : State) (n : Fin 24) (l : Lane), s.Working ∧ l = s.lane n ∧ s.laneUp n = true ∧ s.hears n = true ∧ s.rd
      F.LNK_LANE_STAT_RX_SUB n = 0) ∧
    (∃ (s : State) (n : Fin 24) (l : Lane), s.Working ∧ l = s.lane n ∧ s.laneUp n = true ∧ s.rd F.LNK_LANE_STAT_RX_SUB n ≠
      0) ∧
    (∃ (s : State) (n : Fin 24) (l : Lane), s.Working ∧ l = s.lane n ∧ s.laneUp n = true ∧ s.rd F.LNK_LANE_STAT_TX_SUB n =
      2) :=
  ⟨⟨s12, 0, s12.lane (0 : Fin 24), works_s12, by decide +kernel⟩,
   ⟨s1, 0, s1.lane (0 : Fin 24), works_s1, by decide +kernel⟩,
   ⟨s1, 0, s1.lane (0 : Fin 24), works_s1, by decide +kernel⟩,
   ⟨s2, 5, s2.lane (5 : Fin 24), works_s2, by decide +kernel⟩,
   ⟨s1, 0, s1.lane (0 : Fin 24), works_s1, by decide +kernel⟩,
   ⟨s1, 0, s1.lane (0 : Fin 24), works_s1, by decide +kernel⟩,
   ⟨s11, 5, s11.lane (5 : Fin 24), works_s11, by decide +kernel⟩,
   ⟨s15, 5, s15.lane (5 : Fin 24), works_s15, by decide +kernel⟩⟩

/-- The hypotheses of Lanes are met, those of each clause by a state and operands of its own (part 5). -/
theorem witness_Lanes_5 :
    (∃ (s : State) (n : Fin 24) (l : Lane), s.Working ∧ l = s.lane n ∧ s.laneUp n = true ∧ s.rd F.LNK_LANE_STAT_TX_SUB n ≠
      2) ∧
    (∃ (s : State) (n : Fin 24) (l : Lane), s.Working ∧ l = s.lane n ∧ s.laneUp n = true ∧ s.rd F.LNK_LANE_STAT_TX_SUB n =
      1) ∧
    (∃ (s : State) (n : Fin 24) (l : Lane), s.Working ∧ l = s.lane n ∧ s.laneUp n = true ∧ s.rd F.LNK_LANE_STAT_TX_SUB n ≠
      1) ∧
    (∃ (s : State) (n : Fin 24) (l : Lane), s.Working ∧ l = s.lane n ∧ s.laneUp n = true) ∧
    (∃ (s : State) (n : Fin 24) (l : Lane), s.Working ∧ l = s.lane n) :=
  ⟨⟨s1, 0, s1.lane (0 : Fin 24), works_s1, by decide +kernel⟩,
   ⟨s14, 5, s14.lane (5 : Fin 24), works_s14, by decide +kernel⟩,
   ⟨s1, 0, s1.lane (0 : Fin 24), works_s1, by decide +kernel⟩,
   ⟨s1, 0, s1.lane (0 : Fin 24), works_s1, by decide +kernel⟩,
   ⟨s0, 0, s0.lane (0 : Fin 24), works_s0, by decide +kernel⟩⟩

/-- The hypotheses of LaneSetChange are met, those of each clause by a state and operands of its own. -/
theorem witness_LaneSetChange :
    (∃ (s : State) (w : Word), s.Working ∧ (getField w 0 2 = 3 ∨ getField w 2 2 = 3)) ∧
    (∃ (s : State) (w : Word), s.Working ∧ getField w 0 2 ≠ 3 ∧ getField w 2 2 ≠ 3 ∧ getField w 0 2 = s.rd
      F.LNK_PATH_CFG_RATE_A ∧ getField w 2 2 = s.rd F.LNK_PATH_CFG_RATE_B) ∧
    (∃ (s : State) (w : Word) (q : Nat), s.Working ∧ getField w 0 2 ≠ 3 ∧ getField w 2 2 ≠ 3 ∧ getField w 0 2 ≠ s.rd
      F.LNK_PATH_CFG_RATE_A ∧ AdmitCfg.refusedBy { s.admitCfg with rateA := getField w 0 2, rateB := getField w 2 2 }
      s.clk.fs = some q) ∧
    (∃ (s : State) (w : Word), s.Working ∧ getField w 0 2 ≠ 3 ∧ getField w 2 2 ≠ 3 ∧ getField w 0 2 ≠ s.rd
      F.LNK_PATH_CFG_RATE_A ∧ AdmitCfg.refusedBy { s.admitCfg with rateA := getField w 0 2, rateB := getField w 2 2 }
      s.clk.fs = none) ∧
    (∃ (s : State) (w : Word) (n : Fin 24), s.Working ∧ n.val ≠ 0 ∧ n.val ≠ 12 ∧ getField w 4 1 = 0 ∧ getField w 0 1 = s.rd
      F.LNK_LANE_CTL_EN n) ∧
    (∃ (s : State) (w : Word) (n : Fin 24), s.Working ∧ n.val ≠ 0 ∧ n.val ≠ 12 ∧ getField w 4 1 = 0 ∧ getField w 0 1 = 1 ∧
      s.rd F.LNK_LANE_CTL_EN n = 0 ∧ AdmitCfg.refusedBy { s.admitCfg with lanes := s.admitCfg.lanes ||| 2 ^ n.val }
      s.clk.fs = none ∧ s.rd F.LNK_LANE_STAT_STATE n = 0 ∧ (s.lane n).pll = true ∧ (s.lane n).shed = false) ∧
    (∃ (s : State) (w : Word) (n : Fin 24), s.Working ∧ n.val ≠ 0 ∧ n.val ≠ 12 ∧ getField w 4 1 = 0 ∧ getField w 0 1 = 0 ∧
      s.rd F.LNK_LANE_CTL_EN n = 1 ∧ s.admitCfg.lanes.testBit n = true ∧ AdmitCfg.refusedBy
      { s.admitCfg with lanes := s.admitCfg.lanes - 2 ^ n.val } s.clk.fs = none) ∧
    (∃ (s : State) (w : Word) (n : Fin 24) (q : Nat), s.Working ∧ n.val ≠ 0 ∧ n.val ≠ 12 ∧ getField w 4 1 = 0 ∧ getField w 0
      1 = 0 ∧ s.rd F.LNK_LANE_CTL_EN n = 1 ∧ s.admitCfg.lanes.testBit n = true ∧ AdmitCfg.refusedBy
      { s.admitCfg with lanes := s.admitCfg.lanes - 2 ^ n.val } s.clk.fs = some q) :=
  ⟨⟨s0, 0x18030C, works_s0, by decide +kernel⟩,
   ⟨s0, 0, works_s0, by decide +kernel⟩,
   ⟨s23, 5, ((AdmitCfg.refusedBy
      { s23.admitCfg with rateA := getField (5 : Word) 0 2, rateB := getField (5 : Word) 2 2 } s23.clk.fs).get
      (by decide +kernel)), works_s23, by decide +kernel⟩,
   ⟨s0, 5, works_s0, by decide +kernel⟩,
   ⟨s0, 5, 5, works_s0, by decide +kernel⟩,
   ⟨s1, 5, 5, works_s1, by decide +kernel⟩,
   ⟨s0, 0, 5, works_s0, by decide +kernel⟩,
   ⟨s23, 0, 5, ((AdmitCfg.refusedBy { s23.admitCfg with lanes := s23.admitCfg.lanes - 2 ^ (5 : Fin 24).val }
      s23.clk.fs).get (by decide +kernel)), works_s23, by decide +kernel⟩⟩

/-- The hypotheses of HostMemory are met, those of each clause by a state and operands of its own (part 1). -/
theorem witness_HostMemory :
    (∃ (s : State), s.Working ∧ s.prm.rings.length = 36 ∧ s.mayPoll = true) ∧
    (∃ (s : State), s.Working ∧ s.prm.rings.length = 36 ∧ s.mayPoll = false ∧ s.rdB F.PRM_STAT_COMMITTED = true) ∧
    (∃ (s : State), s.Working ∧ s.prm.rings.length = 36 ∧ s.rdB F.PRM_STAT_COMMITTED = false) ∧
    (∃ (s : State) (lane : Fin 24) (tag : BitVec 16), s.Working ∧ s.prm.rings.length = 36 ∧ s.lnk.reads.find? (fun r =>
      r.path == lane.val / 12 && r.tag == tag.toNat) = none) ∧
    (∃ (s : State) (lane : Fin 24) (tag : BitVec 16) (status : Fin 4) (r : MemRead) (i : Fin 2), s.Working ∧
      s.prm.rings.length = 36 ∧ s.lnk.reads.find? (fun r => r.path == lane.val / 12 && r.tag == tag.toNat) = some r ∧
      r.purpose = 200 + i.val ∧ status.val = 0) ∧
    (∃ (s : State) (lane : Fin 24) (tag : BitVec 16) (status : Fin 4) (r : MemRead) (i : Fin 2), s.Working ∧
      s.prm.rings.length = 36 ∧ s.lnk.reads.find? (fun r => r.path == lane.val / 12 && r.tag == tag.toNat) = some r ∧
      r.purpose = 200 + i.val ∧ status.val ≠ 0) ∧
    (∃ (s : State) (lane : Fin 24) (tag : BitVec 16) (status : Fin 4) (r : MemRead) (ring : Fin 8), s.Working ∧
      s.prm.rings.length = 36 ∧ s.lnk.reads.find? (fun r => r.path == lane.val / 12 && r.tag == tag.toNat) = some r ∧
      r.purpose = 210 + ring.val ∧ status.val ≠ 0) ∧
    (∃ (s : State) (lane : Fin 24) (tag : BitVec 16) (status : Fin 4) (r : MemRead) (ring : Fin 8), s.Working ∧
      s.prm.rings.length = 36 ∧ s.lnk.reads.find? (fun r => r.path == lane.val / 12 && r.tag == tag.toNat) = some r ∧
      r.purpose = 210 + ring.val ∧ status.val = 0) :=
  ⟨⟨s34, works_s34, by decide +kernel⟩,
   ⟨s2, works_s2, by decide +kernel⟩,
   ⟨s0, works_s0, by decide +kernel⟩,
   ⟨s0, 0, 0, works_s0, by decide +kernel⟩,
   ⟨s37, 0, 7, 0, ((s37.lnk.reads.find? (fun r => r.path == (0 : Fin 24).val / 12 && r.tag == (7 : BitVec
      16).toNat)).get (by decide +kernel)), 0, works_s37, by decide +kernel⟩,
   ⟨s37, 0, 7, 1, ((s37.lnk.reads.find? (fun r => r.path == (0 : Fin 24).val / 12 && r.tag == (7 : BitVec
      16).toNat)).get (by decide +kernel)), 0, works_s37, by decide +kernel⟩,
   ⟨s39, 0, 7, 1, ((s39.lnk.reads.find? (fun r => r.path == (0 : Fin 24).val / 12 && r.tag == (7 : BitVec
      16).toNat)).get (by decide +kernel)), 7, works_s39, by decide +kernel⟩,
   ⟨s39, 0, 7, 0, ((s39.lnk.reads.find? (fun r => r.path == (0 : Fin 24).val / 12 && r.tag == (7 : BitVec
      16).toNat)).get (by decide +kernel)), 7, works_s39, by decide +kernel⟩⟩

/-- The hypotheses of HostMemory are met, those of each clause by a state and operands of its own (part 2). -/
theorem witness_HostMemory_2 :
    (∃ (s : State), s.Working ∧ s.prm.rings.length = 36) ∧
    (∃ (s : State) (addr : BitVec 64) (status : Fin 8) (cmds : List PCmd) (r : Nat), s.Working ∧ s.prm.rings.length = 36 ∧
      status ≠ 0 ∧ cmds = s.prm.cmds.map (fun c => if c.outputs (addr.toNat / 8 * 8) 1 then { c with status := 14 } else
      c) ∧ s.ringAt (addr.toNat / 8 * 8) = some r ∧ r < 36) ∧
    (∃ (s : State) (addr : BitVec 64) (status : Fin 8) (cmds : List PCmd), s.Working ∧ s.prm.rings.length = 36 ∧ status ≠ 0
      ∧ cmds = s.prm.cmds.map (fun c => if c.outputs (addr.toNat / 8 * 8) 1 then { c with status := 14 } else c) ∧
      s.ringAt (addr.toNat / 8 * 8) = none) ∧
    (∃ (s : State), s.Working ∧ s.prm.rings.length = 36 ∧ s.lnk.reads = [] ∧ (s.pollUnsent = false ∨ s.prm.pollAt = none)) ∧
    (∃ (s : State) (n : Nat), s.Working ∧ s.prm.rings.length = 36 ∧ s.lnk.reads = [] ∧ s.pollUnsent = true ∧ s.prm.pollAt =
      some n) ∧
    (∃ (s : State) (r : MemRead) (rest : List MemRead), s.Working ∧ s.prm.rings.length = 36 ∧ s.lnk.reads = r :: rest ∧ 202
      ≤ r.purpose ∧ (s.pollUnsent = false ∨ s.prm.pollAt = none ∨ (∃ n, s.prm.pollAt = some n ∧ r.at_ < n))) ∧
    (∃ (s : State), s.Working ∧ s.prm.rings.length = 36 ∧ s.rdB F.PRM_STAT_COMMITTED = true ∧ s.prm.paused = false ∧
      s.wantedPath ≠ s.prm.path) ∧
    (∃ (s : State), s.Working ∧ s.prm.rings.length = 36 ∧ (s.rdB F.PRM_STAT_COMMITTED = false ∨ s.prm.paused = true ∨
      s.wantedPath = s.prm.path)) :=
  ⟨⟨s0, works_s0, by decide +kernel⟩,
   ⟨s49, 0x1000000, 7, s49.prm.cmds.map (fun c => if c.outputs ((0x1000000 : BitVec 64).toNat / 8 * 8) 1 then
      { c with status := 14 } else c), ((s49.ringAt ((0x1000000 : BitVec 64).toNat / 8 * 8)).get
      (by decide +kernel)), works_s49, by decide +kernel⟩,
   ⟨s0, 0x801000005000009, 7, s0.prm.cmds.map (fun c => if c.outputs ((0x801000005000009 : BitVec 64).toNat / 8 * 8) 1
      then { c with status := 14 } else c), works_s0, by decide +kernel⟩,
   ⟨s0, works_s0, by decide +kernel⟩,
   ⟨s2, ((s2.prm.pollAt).get (by decide +kernel)), works_s2, by decide +kernel⟩,
   ⟨s39, ((s39.lnk.reads).head (by decide +kernel)), [], works_s39, by decide +kernel⟩,
   ⟨s43, works_s43, by decide +kernel⟩,
   ⟨s0, works_s0, by decide +kernel⟩⟩

/-- The hypotheses of HostMemory are met, those of each clause by a state and operands of its own (part 3). -/
theorem witness_HostMemory_3 :
    (∃ (s : State), s.Working ∧ s.prm.rings.length = 36 ∧ s.prm.paused = true ∧ s.prm.resuming = false ∧ (∀ r ∈ s.lnk.reads,
      r.path ≠ s.prm.path)) ∧
    (∃ (s : State), s.Working ∧ s.prm.rings.length = 36 ∧ (s.prm.paused = false ∨ s.prm.resuming = true ∨ (∃ r ∈
      s.lnk.reads, r.path = s.prm.path))) :=
  ⟨⟨s41, works_s41, by decide +kernel⟩,
   ⟨s0, works_s0, by decide +kernel⟩⟩

/-- The hypotheses of PrompterControl are met, those of each clause by a state and operands of its own (part 1). -/
theorem witness_PrompterControl :
    (∃ (s : State), s.Working ∧ s.prm.rings.length = 36 ∧ s.rdB F.PRM_STAT_COMMITTED = true) ∧
    (∃ (s : State), s.Working ∧ s.prm.rings.length = 36 ∧ s.rdB F.PRM_STAT_COMMITTED = false ∧ s.commitErr ≠ 0) ∧
    (∃ (s : State), s.Working ∧ s.prm.rings.length = 36 ∧ s.rdB F.PRM_STAT_COMMITTED = false ∧ s.commitErr = 0) ∧
    (∃ (s : State), s.Working ∧ s.prm.rings.length = 36 ∧ s.mayPoll = true) ∧
    (∃ (s : State), s.Working ∧ s.prm.rings.length = 36 ∧ s.mayPoll = false) ∧
    (∃ (s : State) (n : Nat) (a : List LWord) (b : List LWord), s.Working ∧ s.prm.rings.length = 36 ∧ s.prm.pollAt = some n
      ∧ s.prm.answers = [some a, some b] ∧ s.prm.resuming = false) ∧
    (∃ (s : State), s.Working ∧ s.prm.rings.length = 36 ∧ s.prm.pollAt = none) ∧
    (∃ (s : State) (ring : Fin 36), s.Working ∧ s.prm.rings.length = 36 ∧ s.ringStopped ring = true) :=
  ⟨⟨s2, works_s2, by decide +kernel⟩,
   ⟨s0, works_s0, by decide +kernel⟩,
   ⟨s46, works_s46, by decide +kernel⟩,
   ⟨s34, works_s34, by decide +kernel⟩,
   ⟨s0, works_s0, by decide +kernel⟩,
   ⟨s48, ((s48.prm.pollAt).get (by decide +kernel)), List.replicate 18 3, List.replicate 18 0, works_s48,
      by decide +kernel⟩,
   ⟨s0, works_s0, by decide +kernel⟩,
   ⟨s50, 0, works_s50, by decide +kernel⟩⟩

/-- The hypotheses of PrompterControl are met, those of each clause by a state and operands of its own (part 2). -/
theorem witness_PrompterControl_2 :
    (∃ (s : State) (ring : Fin 36), s.Working ∧ s.prm.rings.length = 36 ∧ s.ringStopped ring = false) :=
  ⟨s0, 0, works_s0, by decide +kernel⟩

/-- The hypotheses of PrompterCommands are met, those of each clause by a state and operands of its own (part 1). -/
theorem witness_PrompterCommands :
    (∃ (s : State), s.Working ∧ s.turnOf 0x00 = none) ∧
    (∃ (s : State), s.Working ∧ s.turnOf 0x01 = none) ∧
    (∃ (s : State), s.Working ∧ s.turnOf 0x02 = none) ∧
    (∃ (s : State), s.Working ∧ s.turnOf 0x03 = none) ∧
    (∃ (s : State), s.Working ∧ s.turnOf 0x04 = none) ∧
    (∃ (s : State), s.Working ∧ s.turnOf 0x10 = none) ∧
    (∃ (s : State), s.Working ∧ s.turnOf 0x20 = none) ∧
    (∃ (s : State) (c : PCmd) (a : Nat) (n : Nat), s.Working ∧ s.soleCmd c ∧ a = (c.words.getD 1 0).toNat % 2 ^ 32 ∧ n =
      (c.words.getD 2 0).toNat % 2 ^ 32 ∧ c.opcode = 0x00) :=
  ⟨⟨s0, works_s0, by decide +kernel⟩,
   ⟨s0, works_s0, by decide +kernel⟩,
   ⟨s0, works_s0, by decide +kernel⟩,
   ⟨s0, works_s0, by decide +kernel⟩,
   ⟨s0, works_s0, by decide +kernel⟩,
   ⟨s0, works_s0, by decide +kernel⟩,
   ⟨s0, works_s0, by decide +kernel⟩,
   ⟨s52, ((s52.prm.cmds).head (by decide +kernel)), ((((s52.prm.cmds).head (by decide +kernel)) : PCmd).words.getD 1
      0).toNat % 2 ^ 32, ((((s52.prm.cmds).head (by decide +kernel)) : PCmd).words.getD 2 0).toNat % 2 ^ 32,
      works_s52, (by unfold State.soleCmd; decide +kernel), by decide +kernel, by decide +kernel, by decide +kernel⟩⟩

/-- The hypotheses of PrompterCommands are met, those of each clause by a state and operands of its own (part 2). -/
theorem witness_PrompterCommands_2 :
    (∃ (s : State) (c : PCmd) (a : Nat) (n : Nat), s.Working ∧ s.soleCmd c ∧ a = (c.words.getD 1 0).toNat % 2 ^ 32 ∧ n =
      (c.words.getD 2 0).toNat % 2 ^ 32 ∧ c.opcode = 0x01) ∧
    (∃ (s : State) (c : PCmd) (a : Nat) (n : Nat), s.Working ∧ s.soleCmd c ∧ a = (c.words.getD 1 0).toNat % 2 ^ 32 ∧ n =
      (c.words.getD 2 0).toNat % 2 ^ 32 ∧ c.opcode = 0x02 ∧ (inCells a || inRingWindow a) = false ∧ (a % 4 ≠ 0 ∨ regAt a
      = none)) ∧
    (∃ (s : State) (c : PCmd) (a : Nat) (n : Nat) (r : RegDef), s.Working ∧ s.soleCmd c ∧ a = (c.words.getD 1 0).toNat % 2 ^
      32 ∧ n = (c.words.getD 2 0).toNat % 2 ^ 32 ∧ c.opcode = 0x02 ∧ a % 4 = 0 ∧ regAt a = some r ∧ 0x300000 ≤ a ∧ a <
      0x340000) ∧
    (∃ (s : State) (c : PCmd) (a : Nat) (n : Nat) (r : RegDef) (w : BitVec 32), s.Working ∧ s.soleCmd c ∧ a = (c.words.getD
      1 0).toNat % 2 ^ 32 ∧ n = (c.words.getD 2 0).toNat % 2 ^ 32 ∧ c.opcode = 0x02 ∧ w = BitVec.ofNat 32 (c.words.getD
      2 0).toNat ∧ a % 4 = 0 ∧ regAt a = some r ∧ a < 0x2C0000 ∧ (∀ f ∈ r.fields, f.acc ≠ .rwl) ∧ (∀ u : State,
      u.writeMgt r (2 + c.ring) a w = none ∧ u.writeFront r a w s.writeNs = none ∧ u.writeCore r a w = none ∧
      u.writeLink r a w = none)) ∧
    (∃ (s : State) (c : PCmd) (a : Nat) (n : Nat), s.Working ∧ s.soleCmd c ∧ a = (c.words.getD 1 0).toNat % 2 ^ 32 ∧ n =
      (c.words.getD 2 0).toNat % 2 ^ 32 ∧ c.opcode = 0x03) ∧
    (∃ (s : State) (c : PCmd) (a : Nat) (n : Nat), s.Working ∧ s.soleCmd c ∧ a = (c.words.getD 1 0).toNat % 2 ^ 32 ∧ n =
      (c.words.getD 2 0).toNat % 2 ^ 32 ∧ c.opcode = 0x04 ∧ (n % 8 ≠ 0 ∨ n < 8 ∨ 16777216 < n ∨ (c.words.getD 3 0).toNat
      % 8 ≠ 0)) ∧
    (∃ (s : State) (c : PCmd) (a : Nat) (n : Nat), s.Working ∧ s.soleCmd c ∧ a = (c.words.getD 1 0).toNat % 2 ^ 32 ∧ n =
      (c.words.getD 2 0).toNat % 2 ^ 32 ∧ c.opcode = 0x04 ∧ n % 8 = 0 ∧ 8 ≤ n ∧ n ≤ 16777216 ∧ (c.words.getD 3 0).toNat
      % 8 = 0 ∧ (a % 8 ≠ 0 ∨ inOneBlock a n = false)) ∧
    (∃ (s : State) (c : PCmd) (a : Nat) (n : Nat), s.Working ∧ s.soleCmd c ∧ a = (c.words.getD 1 0).toNat % 2 ^ 32 ∧ n =
      (c.words.getD 2 0).toNat % 2 ^ 32 ∧ c.opcode = 0x04 ∧ n % 8 = 0 ∧ 8 ≤ n ∧ n ≤ 16777216 ∧ (c.words.getD 3 0).toNat
      % 8 = 0 ∧ a % 8 = 0 ∧ inOneBlock a n = true) :=
  ⟨⟨s53, ((s53.prm.cmds).head (by decide +kernel)), ((((s53.prm.cmds).head (by decide +kernel)) : PCmd).words.getD 1
      0).toNat % 2 ^ 32, ((((s53.prm.cmds).head (by decide +kernel)) : PCmd).words.getD 2 0).toNat % 2 ^ 32,
      works_s53, (by unfold State.soleCmd; decide +kernel), by decide +kernel, by decide +kernel, by decide +kernel⟩,
   ⟨s54, ((s54.prm.cmds).head (by decide +kernel)), ((((s54.prm.cmds).head (by decide +kernel)) : PCmd).words.getD 1
      0).toNat % 2 ^ 32, ((((s54.prm.cmds).head (by decide +kernel)) : PCmd).words.getD 2 0).toNat % 2 ^ 32,
      works_s54, (by unfold State.soleCmd; decide +kernel), by decide +kernel, by decide +kernel, by decide +kernel,
      by decide +kernel, by decide +kernel⟩,
   ⟨s55, ((s55.prm.cmds).head (by decide +kernel)), ((((s55.prm.cmds).head (by decide +kernel)) : PCmd).words.getD 1
      0).toNat % 2 ^ 32, ((((s55.prm.cmds).head (by decide +kernel)) : PCmd).words.getD 2 0).toNat % 2 ^ 32, ((regAt
      (((((s55.prm.cmds).head (by decide +kernel)) : PCmd).words.getD 1 0).toNat % 2 ^ 32 : Nat)).get
      (by decide +kernel)), works_s55, (by unfold State.soleCmd; decide +kernel), by decide +kernel,
      by decide +kernel, by decide +kernel, by decide +kernel, by decide +kernel, by decide +kernel,
      by decide +kernel⟩,
   ⟨s56, ((s56.prm.cmds).head (by decide +kernel)), ((((s56.prm.cmds).head (by decide +kernel)) : PCmd).words.getD 1
      0).toNat % 2 ^ 32, ((((s56.prm.cmds).head (by decide +kernel)) : PCmd).words.getD 2 0).toNat % 2 ^ 32, ((regAt
      (((((s56.prm.cmds).head (by decide +kernel)) : PCmd).words.getD 1 0).toNat % 2 ^ 32 : Nat)).get
      (by decide +kernel)), BitVec.ofNat 32 ((((s56.prm.cmds).head (by decide +kernel)) : PCmd).words.getD 2
      0).toNat, works_s56, (by unfold State.soleCmd; decide +kernel), by decide +kernel, by decide +kernel,
      by decide +kernel, by decide +kernel, by decide +kernel, by decide +kernel, by decide +kernel,
      by decide +kernel, fun u => ⟨rfl, rfl, rfl, rfl⟩⟩,
   ⟨s59, ((s59.prm.cmds).head (by decide +kernel)), ((((s59.prm.cmds).head (by decide +kernel)) : PCmd).words.getD 1
      0).toNat % 2 ^ 32, ((((s59.prm.cmds).head (by decide +kernel)) : PCmd).words.getD 2 0).toNat % 2 ^ 32,
      works_s59, (by unfold State.soleCmd; decide +kernel), by decide +kernel, by decide +kernel, by decide +kernel⟩,
   ⟨s62, ((s62.prm.cmds).head (by decide +kernel)), ((((s62.prm.cmds).head (by decide +kernel)) : PCmd).words.getD 1
      0).toNat % 2 ^ 32, ((((s62.prm.cmds).head (by decide +kernel)) : PCmd).words.getD 2 0).toNat % 2 ^ 32,
      works_s62, (by unfold State.soleCmd; decide +kernel), by decide +kernel, by decide +kernel, by decide +kernel,
      by decide +kernel⟩,
   ⟨s63, ((s63.prm.cmds).head (by decide +kernel)), ((((s63.prm.cmds).head (by decide +kernel)) : PCmd).words.getD 1
      0).toNat % 2 ^ 32, ((((s63.prm.cmds).head (by decide +kernel)) : PCmd).words.getD 2 0).toNat % 2 ^ 32,
      works_s63, (by unfold State.soleCmd; decide +kernel), by decide +kernel, by decide +kernel, by decide +kernel,
      by decide +kernel, by decide +kernel, by decide +kernel, by decide +kernel, by decide +kernel⟩,
   ⟨s64, ((s64.prm.cmds).head (by decide +kernel)), ((((s64.prm.cmds).head (by decide +kernel)) : PCmd).words.getD 1
      0).toNat % 2 ^ 32, ((((s64.prm.cmds).head (by decide +kernel)) : PCmd).words.getD 2 0).toNat % 2 ^ 32,
      works_s64, (by unfold State.soleCmd; decide +kernel), by decide +kernel, by decide +kernel, by decide +kernel,
      by decide +kernel, by decide +kernel, by decide +kernel, by decide +kernel, by decide +kernel,
      by decide +kernel⟩⟩

/-- The hypotheses of PrompterCommands are met, those of each clause by a state and operands of its own (part 3). -/
theorem witness_PrompterCommands_3 :
    (∃ (s : State) (c : PCmd) (a : Nat) (n : Nat) (x : Inject) (st : Nat), s.Working ∧ s.soleCmd c ∧ a = (c.words.getD 1
      0).toNat % 2 ^ 32 ∧ n = (c.words.getD 2 0).toNat % 2 ^ 32 ∧ c.opcode = 0x10 ∧ x =
      { ch := (c.words.getD 1 0).toNat % 64, signal := ((c.words.getD 1 0).toNat / 64 % 8, (c.words.getD 1 0).toNat / 512 % 1024, (c.words.getD 1 0).toNat / 2 ^ 19 % 4), prm := some (c.ring, c.idx) }
      ∧ s.injRefusal x = some st) ∧
    (∃ (s : State) (c : PCmd) (a : Nat) (n : Nat) (x : Inject), s.Working ∧ s.soleCmd c ∧ a = (c.words.getD 1 0).toNat % 2 ^
      32 ∧ n = (c.words.getD 2 0).toNat % 2 ^ 32 ∧ c.opcode = 0x10 ∧ x =
      { ch := (c.words.getD 1 0).toNat % 64, signal := ((c.words.getD 1 0).toNat / 64 % 8, (c.words.getD 1 0).toNat / 512 % 1024, (c.words.getD 1 0).toNat / 2 ^ 19 % 4), prm := some (c.ring, c.idx) }
      ∧ s.injRefusal x = none ∧ s.adc.inj.length = 16) ∧
    (∃ (s : State) (c : PCmd) (a : Nat) (n : Nat), s.Working ∧ s.soleCmd c ∧ a = (c.words.getD 1 0).toNat % 2 ^ 32 ∧ n =
      (c.words.getD 2 0).toNat % 2 ^ 32 ∧ c.opcode = 0x20 ∧ (s.codec.filter fun j => !j.running).length < 16) :=
  ⟨⟨s66, ((s66.prm.cmds).head (by decide +kernel)), ((((s66.prm.cmds).head (by decide +kernel)) : PCmd).words.getD 1
      0).toNat % 2 ^ 32, ((((s66.prm.cmds).head (by decide +kernel)) : PCmd).words.getD 2 0).toNat % 2 ^ 32,
      { ch := ((((s66.prm.cmds).head (by decide +kernel)) : PCmd).words.getD 1 0).toNat % 64, signal := (((((s66.prm.cmds).head (by decide +kernel)) : PCmd).words.getD 1 0).toNat / 64 % 8, ((((s66.prm.cmds).head (by decide +kernel)) : PCmd).words.getD 1 0).toNat / 512 % 1024, ((((s66.prm.cmds).head (by decide +kernel)) : PCmd).words.getD 1 0).toNat / 2 ^ 19 % 4), prm := some ((((s66.prm.cmds).head (by decide +kernel)) : PCmd).ring, (((s66.prm.cmds).head (by decide +kernel)) : PCmd).idx) },
      ((s66.injRefusal
      ({ ch := ((((s66.prm.cmds).head (by decide +kernel)) : PCmd).words.getD 1 0).toNat % 64, signal := (((((s66.prm.cmds).head (by decide +kernel)) : PCmd).words.getD 1 0).toNat / 64 % 8, ((((s66.prm.cmds).head (by decide +kernel)) : PCmd).words.getD 1 0).toNat / 512 % 1024, ((((s66.prm.cmds).head (by decide +kernel)) : PCmd).words.getD 1 0).toNat / 2 ^ 19 % 4), prm := some ((((s66.prm.cmds).head (by decide +kernel)) : PCmd).ring, (((s66.prm.cmds).head (by decide +kernel)) : PCmd).idx) }
      : Inject)).get (by decide +kernel)), works_s66, (by unfold State.soleCmd; decide +kernel), by decide +kernel,
      by decide +kernel, by decide +kernel, by decide +kernel, by decide +kernel⟩,
   ⟨s65, ((s65.prm.cmds).head (by decide +kernel)), ((((s65.prm.cmds).head (by decide +kernel)) : PCmd).words.getD 1
      0).toNat % 2 ^ 32, ((((s65.prm.cmds).head (by decide +kernel)) : PCmd).words.getD 2 0).toNat % 2 ^ 32,
      { ch := ((((s65.prm.cmds).head (by decide +kernel)) : PCmd).words.getD 1 0).toNat % 64, signal := (((((s65.prm.cmds).head (by decide +kernel)) : PCmd).words.getD 1 0).toNat / 64 % 8, ((((s65.prm.cmds).head (by decide +kernel)) : PCmd).words.getD 1 0).toNat / 512 % 1024, ((((s65.prm.cmds).head (by decide +kernel)) : PCmd).words.getD 1 0).toNat / 2 ^ 19 % 4), prm := some ((((s65.prm.cmds).head (by decide +kernel)) : PCmd).ring, (((s65.prm.cmds).head (by decide +kernel)) : PCmd).idx) },
      works_s65, (by unfold State.soleCmd; decide +kernel), by decide +kernel, by decide +kernel, by decide +kernel,
      by decide +kernel, by decide +kernel, by decide +kernel⟩,
   ⟨s67, ((s67.prm.cmds).head (by decide +kernel)), ((((s67.prm.cmds).head (by decide +kernel)) : PCmd).words.getD 1
      0).toNat % 2 ^ 32, ((((s67.prm.cmds).head (by decide +kernel)) : PCmd).words.getD 2 0).toNat % 2 ^ 32,
      works_s67, (by unfold State.soleCmd; decide +kernel), by decide +kernel, by decide +kernel, by decide +kernel,
      by decide +kernel⟩⟩

end Sys2Proof.Tests.Links

namespace Sys2Proof.Tests.Time
set_option Elab.async false
def lane (s : State) (n st : Nat) : State := s.wr F.LNK_LANE_STAT_STATE n st
def id9 : State := ready.wr F.MGT_MODULE_ID_ID 0 9
def up : State := lane (lane (lane id9 0 2) 12 2) 5 2
def tm (s : State) (f : Tim → Tim) : State := { s with tim := f s.tim }
def r0 : TimeRound := { round := 7, t2Count := 99000, t2 := nsUnits 1000100 0 }
def r1 : TimeRound := { r0 with t1 := some (nsUnits 1000000 0) }
def r2 : TimeRound := { r1 with t3 := some (nsUnits 1050100 500) }
def rr (s : State) (r : TimeRound) : State := tm s fun t => { t with rounds := [some r, some r] }
def st (s : State) (n : Nat) : State := s.wr F.TIM_STAT_STATE 0 n
def good (s : State) : State := (s.wr F.TIM_STAT_PATH_A_GOOD 0 1).wr F.TIM_STAT_PATH_B_GOOD 0 1
def pps (s : State) : State := s.wr F.TIM_PPS_CFG_EN 0 1
def ppsM (s : State) : State := (pps s).wr F.TIM_CTL_SOURCE 0 1
def s0 : State := ready
def s1 : State := tm (rr up { r2 with t4 := some (nsUnits 1050200 0) }) (fun t => { t with delays := [List.replicate 16 6553, List.replicate 16 6553] })
def s3 : State := rr id9 r0
def s4 : State := rr up { r2 with t4 := some (nsUnits 1050200 0) }
def s5 : State := rr up { r0 with t3 := r2.t3 }
def s7 : State := (tm (pps up) (fun t => { t with ppsLast := some (t.at_ 100400 1 - 1000000000 * 65536), cal := some (0, 3, 4000) })).wr F.TIM_STAT_PPS_GOOD 0 1
def s8 : State := (tm (ppsM (st up 2)) (fun t => { t with ppsLast := some (t.at_ 100400 1 - 1000000000 * 65536), cal := some (0, 3, 4000) })).wr F.TIM_STAT_PPS_GOOD 0 1
def s10 : State := rr up r0
def s17 : State := tm (st (rr up r2) 4) (fun t => { t with accept := true, integ := 55, pending := [{ ne := 102400, offset := 5 }] })
def s23 : State := good up
def s35 : State := tm up (fun t => { t with cal := some (1, 5000, 65536 * 4000) })
def s40 : State := (st up 2).wr F.TIM_STAT_VOTE_DEGRADED 0 1
def s41 : State := tm (up.wr F.TIM_STAT_VOTE_DEGRADED 0 1) (fun t => { t with out := [true, false, false] })
theorem works_s0 : s0.Working := working (by decide +kernel)
theorem works_s1 : s1.Working := working (by decide +kernel)
theorem works_s3 : s3.Working := working (by decide +kernel)
theorem works_s4 : s4.Working := working (by decide +kernel)
theorem works_s5 : s5.Working := working (by decide +kernel)
theorem works_s7 : s7.Working := working (by decide +kernel)
theorem works_s8 : s8.Working := working (by decide +kernel)
theorem works_s10 : s10.Working := working (by decide +kernel)
theorem works_s17 : s17.Working := working (by decide +kernel)
theorem works_s23 : s23.Working := working (by decide +kernel)
theorem works_s35 : s35.Working := working (by decide +kernel)
theorem works_s40 : s40.Working := working (by decide +kernel)
theorem works_s41 : s41.Working := working (by decide +kernel)

/-- The hypotheses of TimeExchange are met, those of each clause by a state and operands of its own (part 1). -/
theorem witness_TimeExchange :
    (∃ (s : State) (lane : Fin 24) (p : Nat), s.Working ∧ s.tim.rounds.length = 2 ∧ s.tim.delays.length = 2 ∧
      s.tim.lastTheta.length = 2 ∧ s.moduleId ≠ 0 ∧ s.clk.running = true ∧ p = lane.val / 12 ∧ s.laneUp lane = false) ∧
    (∃ (s : State) (lane : Fin 24) (p : Nat), s.Working ∧ s.tim.rounds.length = 2 ∧ s.tim.delays.length = 2 ∧
      s.tim.lastTheta.length = 2 ∧ s.moduleId ≠ 0 ∧ s.clk.running = true ∧ p = lane.val / 12 ∧ s.laneUp lane = true ∧
      lane.val ≠ 0 ∧ lane.val ≠ 12) ∧
    (∃ (s : State) (lane : Fin 24) (p : Nat), s.Working ∧ s.tim.rounds.length = 2 ∧ s.tim.delays.length = 2 ∧
      s.tim.lastTheta.length = 2 ∧ s.moduleId ≠ 0 ∧ s.clk.running = true ∧ p = lane.val / 12 ∧ s.laneUp lane = true ∧
      (lane.val = 0 ∨ lane.val = 12) ∧ s.tim.rounds.getD p none = none) ∧
    (∃ (s : State) (lane : Fin 24), s.Working ∧ s.tim.rounds.length = 2 ∧ s.tim.delays.length = 2 ∧ s.tim.lastTheta.length =
      2 ∧ s.moduleId ≠ 0 ∧ s.clk.running = true ∧ exchangeLane lane = false) ∧
    (∃ (s : State) (lane : Fin 24) (p : Nat), s.Working ∧ s.tim.rounds.length = 2 ∧ s.tim.delays.length = 2 ∧
      s.tim.lastTheta.length = 2 ∧ s.moduleId ≠ 0 ∧ s.clk.running = true ∧ p = lane.val / 12 ∧ exchangeLane lane = true
      ∧ s.tim.rounds.getD p none = none) ∧
    (∃ (s : State) (lane : Fin 24) (round : BitVec 16) (ns : BitVec 64) (frac : BitVec 16) (p : Nat) (r : TimeRound) (u :
      State), s.Working ∧ s.tim.rounds.length = 2 ∧ s.tim.delays.length = 2 ∧ s.tim.lastTheta.length = 2 ∧ s.moduleId ≠
      0 ∧ s.clk.running = true ∧ p = lane.val / 12 ∧ exchangeLane lane = true ∧ s.tim.rounds.getD p none = some r ∧
      r.round = round.toNat ∧ s.roundLate r = false ∧ u =
      { s with tim := { s.tim with rounds := s.tim.rounds.set p (some { r with t1 := some (nsUnits ns.toNat frac.toNat) }) } }
      ∧ (r.t3 = none ∨ r.t4 = none)) ∧
    (∃ (s : State) (lane : Fin 24) (round : BitVec 16) (ns : BitVec 64) (frac : BitVec 16) (p : Nat) (r : TimeRound) (u :
      State), s.Working ∧ s.tim.rounds.length = 2 ∧ s.tim.delays.length = 2 ∧ s.tim.lastTheta.length = 2 ∧ s.moduleId ≠
      0 ∧ s.clk.running = true ∧ p = lane.val / 12 ∧ exchangeLane lane = true ∧ s.tim.rounds.getD p none = some r ∧
      r.round = round.toNat ∧ s.roundLate r = false ∧ u =
      { s with tim := { s.tim with rounds := s.tim.rounds.set p (some { r with t1 := some (nsUnits ns.toNat frac.toNat) }) } }
      ∧ r.t3 ≠ none ∧ r.t4 ≠ none) ∧
    (∃ (s : State) (lane : Fin 24) (round : BitVec 16) (ns : BitVec 64) (frac : BitVec 16) (p : Nat) (r : TimeRound) (u :
      State), s.Working ∧ s.tim.rounds.length = 2 ∧ s.tim.delays.length = 2 ∧ s.tim.lastTheta.length = 2 ∧ s.moduleId ≠
      0 ∧ s.clk.running = true ∧ p = lane.val / 12 ∧ exchangeLane lane = true ∧ s.tim.rounds.getD p none = some r ∧
      r.round = round.toNat ∧ s.roundLate r = false ∧ r.t3 ≠ none ∧ u =
      { s with tim := { s.tim with rounds := s.tim.rounds.set p (some { r with t4 := some (nsUnits ns.toNat frac.toNat) }) } }
      ∧ r.t1 = none) :=
  ⟨⟨s1, 23, (23 : Fin 24).val / 12, works_s1, by decide +kernel⟩,
   ⟨s1, 5, (5 : Fin 24).val / 12, works_s1, by decide +kernel⟩,
   ⟨s7, 0, (0 : Fin 24).val / 12, works_s7, by decide +kernel⟩,
   ⟨s1, 5, works_s1, by decide +kernel⟩,
   ⟨s7, 0, (0 : Fin 24).val / 12, works_s7, by decide +kernel⟩,
   ⟨s3, 0, 7, 0x100658, 7, (0 : Fin 24).val / 12, ((s3.tim.rounds.getD ((0 : Fin 24).val / 12 : Nat) none).get
      (by decide +kernel)),
      { s3 with tim := { s3.tim with rounds := s3.tim.rounds.set ((0 : Fin 24).val / 12 : Nat) (some { (((s3.tim.rounds.getD ((0 : Fin 24).val / 12 : Nat) none).get (by decide +kernel)) : TimeRound) with t1 := some (nsUnits (0x100658 : BitVec 64).toNat (7 : BitVec 16).toNat) }) } },
      works_s3, by decide +kernel⟩,
   ⟨s1, 0, 7, 0x100658, 7, (0 : Fin 24).val / 12, ((s1.tim.rounds.getD ((0 : Fin 24).val / 12 : Nat) none).get
      (by decide +kernel)),
      { s1 with tim := { s1.tim with rounds := s1.tim.rounds.set ((0 : Fin 24).val / 12 : Nat) (some { (((s1.tim.rounds.getD ((0 : Fin 24).val / 12 : Nat) none).get (by decide +kernel)) : TimeRound) with t1 := some (nsUnits (0x100658 : BitVec 64).toNat (7 : BitVec 16).toNat) }) } },
      works_s1, by decide +kernel⟩,
   ⟨s5, 0, 7, 0x100658, 7, (0 : Fin 24).val / 12, ((s5.tim.rounds.getD ((0 : Fin 24).val / 12 : Nat) none).get
      (by decide +kernel)),
      { s5 with tim := { s5.tim with rounds := s5.tim.rounds.set ((0 : Fin 24).val / 12 : Nat) (some { (((s5.tim.rounds.getD ((0 : Fin 24).val / 12 : Nat) none).get (by decide +kernel)) : TimeRound) with t4 := some (nsUnits (0x100658 : BitVec 64).toNat (7 : BitVec 16).toNat) }) } },
      works_s5, by decide +kernel⟩⟩

/-- The hypotheses of TimeExchange are met, those of each clause by a state and operands of its own (part 2). -/
theorem witness_TimeExchange_2 :
    (∃ (s : State) (lane : Fin 24) (round : BitVec 16) (ns : BitVec 64) (frac : BitVec 16) (p : Nat) (r : TimeRound) (u :
      State), s.Working ∧ s.tim.rounds.length = 2 ∧ s.tim.delays.length = 2 ∧ s.tim.lastTheta.length = 2 ∧ s.moduleId ≠
      0 ∧ s.clk.running = true ∧ p = lane.val / 12 ∧ exchangeLane lane = true ∧ s.tim.rounds.getD p none = some r ∧
      r.round = round.toNat ∧ s.roundLate r = false ∧ r.t3 ≠ none ∧ u =
      { s with tim := { s.tim with rounds := s.tim.rounds.set p (some { r with t4 := some (nsUnits ns.toNat frac.toNat) }) } }
      ∧ r.t1 ≠ none) ∧
    (∃ (s : State) (lane : Fin 24) (round : BitVec 16) (p : Nat) (r : TimeRound), s.Working ∧ s.tim.rounds.length = 2 ∧
      s.tim.delays.length = 2 ∧ s.tim.lastTheta.length = 2 ∧ s.moduleId ≠ 0 ∧ s.clk.running = true ∧ p = lane.val / 12 ∧
      exchangeLane lane = true ∧ s.tim.rounds.getD p none = some r ∧ (r.round ≠ round.toNat ∨ s.roundLate r = true)) ∧
    (∃ (s : State) (lane : Fin 24) (round : BitVec 16) (p : Nat) (r : TimeRound), s.Working ∧ s.tim.rounds.length = 2 ∧
      s.tim.delays.length = 2 ∧ s.tim.lastTheta.length = 2 ∧ s.moduleId ≠ 0 ∧ s.clk.running = true ∧ p = lane.val / 12 ∧
      exchangeLane lane = true ∧ s.tim.rounds.getD p none = some r ∧ (r.round ≠ round.toNat ∨ s.roundLate r = true ∨
      r.t3 = none)) ∧
    (∃ (s : State) (path : Fin 2), s.Working ∧ s.tim.rounds.length = 2 ∧ s.tim.delays.length = 2 ∧ s.tim.lastTheta.length =
      2 ∧ s.moduleId ≠ 0 ∧ s.clk.running = true ∧ (s.tim.rounds.getD path none = none ∨ (∃ r, s.tim.rounds.getD path
      none = some r ∧ r.t3 ≠ none))) ∧
    (∃ (s : State) (path : Fin 2) (r : TimeRound), s.Working ∧ s.tim.rounds.length = 2 ∧ s.tim.delays.length = 2 ∧
      s.tim.lastTheta.length = 2 ∧ s.moduleId ≠ 0 ∧ s.clk.running = true ∧ s.tim.rounds.getD path none = some r ∧ r.t3 =
      none ∧ (s.laneUp (12 * path.val) = false ∨ r.t2Count + s.samplesUs 100 < s.clk.count)) ∧
    (∃ (s : State) (path : Fin 2) (k : Nat) (r : TimeRound) (n : Nat), s.Working ∧ s.tim.rounds.length = 2 ∧
      s.tim.delays.length = 2 ∧ s.tim.lastTheta.length = 2 ∧ s.moduleId ≠ 0 ∧ s.clk.running = true ∧ s.tim.rounds.getD
      path none = some r ∧ r.t3 = none ∧ s.laneUp (12 * path.val) = true ∧ s.clk.count ≤ r.t2Count + s.samplesUs 100 ∧ n
      = clampNat (r.t2Count + s.samplesUs 20) (r.t2Count + s.samplesUs 100) k ∧ (s.queue 0).fill + 1 ≤ queueCap 0) ∧
    (∃ (s : State) (p : Fin 2) (r : TimeRound) (t1 : Int) (t3 : Int) (t4 : Int) (v : Int × Int) (t : State), s.Working ∧
      s.tim.rounds.length = 2 ∧ s.tim.delays.length = 2 ∧ s.tim.lastTheta.length = 2 ∧ s.moduleId ≠ 0 ∧ s.clk.running =
      true ∧ s.tim.rounds.getD p none = some r ∧ r.t1 = some t1 ∧ r.t3 = some t3 ∧ r.t4 = some t4 ∧ v = roundValues t1
      r.t2 t3 t4 (s.rdS F.TIM_ASYM_PS p) ∧ t = s.computeRound p ∧ (s.queue 0).fill + 4 ≤ queueCap 0) :=
  ⟨⟨s1, 0, 7, 0x100658, 7, (0 : Fin 24).val / 12, ((s1.tim.rounds.getD ((0 : Fin 24).val / 12 : Nat) none).get
      (by decide +kernel)),
      { s1 with tim := { s1.tim with rounds := s1.tim.rounds.set ((0 : Fin 24).val / 12 : Nat) (some { (((s1.tim.rounds.getD ((0 : Fin 24).val / 12 : Nat) none).get (by decide +kernel)) : TimeRound) with t4 := some (nsUnits (0x100658 : BitVec 64).toNat (7 : BitVec 16).toNat) }) } },
      works_s1, by decide +kernel⟩,
   ⟨s1, 0, 0, (0 : Fin 24).val / 12, ((s1.tim.rounds.getD ((0 : Fin 24).val / 12 : Nat) none).get (by decide +kernel)),
      works_s1, by decide +kernel⟩,
   ⟨s1, 0, 0, (0 : Fin 24).val / 12, ((s1.tim.rounds.getD ((0 : Fin 24).val / 12 : Nat) none).get (by decide +kernel)),
      works_s1, by decide +kernel⟩,
   ⟨s1, 0, works_s1, by decide +kernel⟩,
   ⟨s3, 0, ((s3.tim.rounds.getD (0 : Fin 2) none).get (by decide +kernel)), works_s3, by decide +kernel⟩,
   ⟨s10, 0, 100400, ((s10.tim.rounds.getD (0 : Fin 2) none).get (by decide +kernel)), clampNat ((((s10.tim.rounds.getD
      (0 : Fin 2) none).get (by decide +kernel)) : TimeRound).t2Count + s10.samplesUs 20) ((((s10.tim.rounds.getD (0
      : Fin 2) none).get (by decide +kernel)) : TimeRound).t2Count + s10.samplesUs 100) (100400 : Nat), works_s10,
      by decide +kernel⟩,
   ⟨s1, 0, ((s1.tim.rounds.getD (0 : Fin 2) none).get (by decide +kernel)), (((((s1.tim.rounds.getD (0 : Fin 2)
      none).get (by decide +kernel)) : TimeRound).t1).get (by decide +kernel)), (((((s1.tim.rounds.getD (0 : Fin 2)
      none).get (by decide +kernel)) : TimeRound).t3).get (by decide +kernel)), (((((s1.tim.rounds.getD (0 : Fin 2)
      none).get (by decide +kernel)) : TimeRound).t4).get (by decide +kernel)), roundValues ((((((s1.tim.rounds.getD
      (0 : Fin 2) none).get (by decide +kernel)) : TimeRound).t1).get (by decide +kernel)) : Int)
      (((s1.tim.rounds.getD (0 : Fin 2) none).get (by decide +kernel)) : TimeRound).t2 ((((((s1.tim.rounds.getD (0 :
      Fin 2) none).get (by decide +kernel)) : TimeRound).t3).get (by decide +kernel)) : Int)
      ((((((s1.tim.rounds.getD (0 : Fin 2) none).get (by decide +kernel)) : TimeRound).t4).get (by decide +kernel))
      : Int) (s1.rdS F.TIM_ASYM_PS (0 : Fin 2)), s1.computeRound (0 : Fin 2), works_s1, by decide +kernel⟩⟩

/-- The hypotheses of TimeServo are met, those of each clause by a state and operands of its own. -/
theorem witness_TimeServo :
    (∃ (s : State) (lane : Fin 24) (round : BitVec 16) (ns : BitVec 64) (frac : BitVec 16) (p : Nat) (r : TimeRound) (t1 :
      Int) (t3 : Int) (v : Int × Int) (theta : Int), s.Working ∧ s.clk.running = true ∧ p = lane.val / 12 ∧
      s.tim.rounds.getD p none = some r ∧ r.t1 = some t1 ∧ r.t3 = some t3 ∧ v = roundValues t1 r.t2 t3 (nsUnits ns.toNat
      frac.toNat) (s.rdS F.TIM_ASYM_PS p) ∧ theta = v.1 ∧ r.round = round.toNat ∧ exchangeLane lane = true ∧ s.roundLate
      r = false ∧ s.delayGate p v.2 = true ∧ s.rd F.TIM_CTL_PRIMARY = p ∧ s.ppsMode = false) ∧
    (∃ (s : State), s.Working ∧ s.clk.running = true ∧ s.tim.pending = []) ∧
    (∃ (s : State) (r : Relation) (rest : List Relation) (u : Tim), s.Working ∧ s.clk.running = true ∧ s.tim.pending = r ::
      rest ∧ u = { s.tim with offset := r.offset, rate := r.rate, tnom := r.tnom, pending := rest, relation := r }) ∧
    (∃ (s : State) (r : Relation), s.Working ∧ s.clk.running = true ∧ r = s.tim.relation ∧ (s.queue 1).blocked = [] ∧
      (s.queue 1).fill + 5 ≤ queueCap 1) ∧
    (∃ (s : State), s.Working ∧ s.clk.running = true) :=
  ⟨⟨s4, 0, 7, 0x100658, 7, (0 : Fin 24).val / 12, ((s4.tim.rounds.getD ((0 : Fin 24).val / 12 : Nat) none).get
      (by decide +kernel)), (((((s4.tim.rounds.getD ((0 : Fin 24).val / 12 : Nat) none).get (by decide +kernel)) :
      TimeRound).t1).get (by decide +kernel)), (((((s4.tim.rounds.getD ((0 : Fin 24).val / 12 : Nat) none).get
      (by decide +kernel)) : TimeRound).t3).get (by decide +kernel)), roundValues ((((((s4.tim.rounds.getD ((0 : Fin
      24).val / 12 : Nat) none).get (by decide +kernel)) : TimeRound).t1).get (by decide +kernel)) : Int)
      (((s4.tim.rounds.getD ((0 : Fin 24).val / 12 : Nat) none).get (by decide +kernel)) : TimeRound).t2
      ((((((s4.tim.rounds.getD ((0 : Fin 24).val / 12 : Nat) none).get (by decide +kernel)) : TimeRound).t3).get
      (by decide +kernel)) : Int) (nsUnits (0x100658 : BitVec 64).toNat (7 : BitVec 16).toNat) (s4.rdS F.TIM_ASYM_PS
      ((0 : Fin 24).val / 12 : Nat)), (roundValues ((((((s4.tim.rounds.getD ((0 : Fin 24).val / 12 : Nat) none).get
      (by decide +kernel)) : TimeRound).t1).get (by decide +kernel)) : Int) (((s4.tim.rounds.getD ((0 : Fin 24).val
      / 12 : Nat) none).get (by decide +kernel)) : TimeRound).t2 ((((((s4.tim.rounds.getD ((0 : Fin 24).val / 12 :
      Nat) none).get (by decide +kernel)) : TimeRound).t3).get (by decide +kernel)) : Int) (nsUnits (0x100658 :
      BitVec 64).toNat (7 : BitVec 16).toNat) (s4.rdS F.TIM_ASYM_PS ((0 : Fin 24).val / 12 : Nat)) : Int × Int).1,
      works_s4, by decide +kernel⟩,
   ⟨s0, works_s0, by decide +kernel⟩,
   ⟨s17, ((s17.tim.pending).head (by decide +kernel)), [],
      { s17.tim with offset := (((s17.tim.pending).head (by decide +kernel)) : Relation).offset, rate := (((s17.tim.pending).head (by decide +kernel)) : Relation).rate, tnom := (((s17.tim.pending).head (by decide +kernel)) : Relation).tnom, pending := ([] : List Relation), relation := (((s17.tim.pending).head (by decide +kernel)) : Relation) },
      works_s17, by decide +kernel⟩,
   ⟨s0, s0.tim.relation, works_s0, by decide +kernel⟩,
   ⟨s0, works_s0, by decide +kernel⟩⟩

/-- The hypotheses of TimeEvents are met, those of each clause by a state and operands of its own (part 1). -/
theorem witness_TimeEvents :
    (∃ (s : State) (path : Fin 2), s.Working ∧ s.clk.running = true ∧ s.pathGood path = false) ∧
    (∃ (s : State) (path : Fin 2), s.Working ∧ s.clk.running = true ∧ s.pathGood path = true ∧ s.tim.delays.length = 2) ∧
    (∃ (s : State), s.Working ∧ s.clk.running = true ∧ (s.rdB F.TIM_STAT_PPS_GOOD = false ∨ s.tim.ppsLast = none)) ∧
    (∃ (s : State) (last : Int), s.Working ∧ s.clk.running = true ∧ s.rdB F.TIM_STAT_PPS_GOOD = true ∧ s.tim.ppsLast = some
      last) ∧
    (∃ (s : State) (rising : Bool), s.Working ∧ s.clk.running = true ∧ (s.rdB F.TIM_PPS_CFG_EN = false ∨ s.rdB
      F.TIM_PPS_CFG_EDGE = rising)) ∧
    (∃ (s : State) (k : Nat) (phi : Fin 1024) (rising : Bool) (stamp : Int) (near : Bool), s.Working ∧ s.clk.running = true
      ∧ s.rdB F.TIM_PPS_CFG_EN = true ∧ s.rdB F.TIM_PPS_CFG_EDGE ≠ rising ∧ stamp = s.stampUnits k phi ∧ near =
      (s.tim.ppsLast.any fun x => decide ((rhe stamp 1000 - x - 1000000000 * 65536).natAbs ≤ 1000000 * 65536)) ∧
      s.ppsMode = false) ∧
    (∃ (s : State) (k : Nat) (phi : Fin 1024) (rising : Bool) (stamp : Int) (near : Bool), s.Working ∧ s.clk.running = true
      ∧ s.rdB F.TIM_PPS_CFG_EN = true ∧ s.rdB F.TIM_PPS_CFG_EDGE ≠ rising ∧ stamp = s.stampUnits k phi ∧ near =
      (s.tim.ppsLast.any fun x => decide ((rhe stamp 1000 - x - 1000000000 * 65536).natAbs ≤ 1000000 * 65536)) ∧
      s.ppsMode = true) ∧
    (∃ (s : State), s.Working ∧ s.clk.running = true) :=
  ⟨⟨s0, 0, works_s0, by decide +kernel⟩,
   ⟨s23, 0, works_s23, by decide +kernel⟩,
   ⟨s0, works_s0, by decide +kernel⟩,
   ⟨s7, ((s7.tim.ppsLast).get (by decide +kernel)), works_s7, by decide +kernel⟩,
   ⟨s0, false, works_s0, by decide +kernel⟩,
   ⟨s7, 100400, 0, true, s7.stampUnits (100400 : Nat) (0 : Fin 1024), (s7.tim.ppsLast.any fun x => decide ((rhe
      (s7.stampUnits (100400 : Nat) (0 : Fin 1024) : Int) 1000 - x - 1000000000 * 65536).natAbs ≤ 1000000 * 65536)),
      works_s7, by decide +kernel⟩,
   ⟨s8, 100400, 0, true, s8.stampUnits (100400 : Nat) (0 : Fin 1024), (s8.tim.ppsLast.any fun x => decide ((rhe
      (s8.stampUnits (100400 : Nat) (0 : Fin 1024) : Int) 1000 - x - 1000000000 * 65536).natAbs ≤ 1000000 * 65536)),
      works_s8, by decide +kernel⟩,
   ⟨s0, works_s0, by decide +kernel⟩⟩

/-- The hypotheses of TimeEvents are met, those of each clause by a state and operands of its own (part 2). -/
theorem witness_TimeEvents_2 :
    (∃ (s : State), s.Working ∧ s.clk.running = true ∧ s.tim.cal = none) ∧
    (∃ (s : State) (p : Nat) (n : Nat) (sum : Int), s.Working ∧ s.clk.running = true ∧ s.tim.cal = some (p, n, sum) ∧ (n <
      s.rd F.TIM_PPS_CFG_CAL_N ∨ n = 0)) ∧
    (∃ (s : State) (p : Nat) (n : Nat) (sum : Int) (ps : Int), s.Working ∧ s.clk.running = true ∧ s.tim.cal = some (p, n,
      sum) ∧ p < 2 ∧ 0 < n ∧ s.rd F.TIM_PPS_CFG_CAL_N ≤ n ∧ ps = s.rdS F.TIM_ASYM_PS p - rhe sum (65536 * n)) ∧
    (∃ (s : State) (c : Fin 3), s.Working ∧ s.clk.running = true ∧ s.rdB F.TIM_STAT_VOTE_DEGRADED = true ∧ s.tim.out.getD c
      false = true) ∧
    (∃ (s : State) (c : Fin 3), s.Working ∧ s.clk.running = true ∧ s.rdB F.TIM_STAT_VOTE_DEGRADED = true ∧ s.tim.out.getD c
      false = false) ∧
    (∃ (s : State) (c : Fin 3) (n : Nat), s.Working ∧ s.clk.running = true ∧ s.rdB F.TIM_STAT_VOTE_DEGRADED = false ∧ n =
      ((s.tim.votes.getD c []).filter fun k => decide (s.clk.count < k + s.clk.fs)).length ∧ 0 < s.clk.fs) ∧
    (∃ (s : State) (cls : Fin 4), s.Working ∧ s.clk.running = true ∧ cls.val ≠ 1 ∧ cls.val ≠ 3) ∧
    (∃ (s : State) (cls : Fin 4) (q : Nat), s.Working ∧ s.clk.running = true ∧ (cls.val = 1 ∨ cls.val = 3) ∧ q = cls.val ∧
      (s.queue q).blocked = [] ∧ (s.queue q).fill + 2 ≤ queueCap q) :=
  ⟨⟨s0, works_s0, by decide +kernel⟩,
   ⟨s7, ((s7.tim.cal).get (by decide +kernel)).1, ((s7.tim.cal).get (by decide +kernel)).2.1, ((s7.tim.cal).get
      (by decide +kernel)).2.2, works_s7, by decide +kernel⟩,
   ⟨s35, ((s35.tim.cal).get (by decide +kernel)).1, ((s35.tim.cal).get (by decide +kernel)).2.1, ((s35.tim.cal).get
      (by decide +kernel)).2.2, s35.rdS F.TIM_ASYM_PS (((s35.tim.cal).get (by decide +kernel)).1 : Nat) - rhe
      (((s35.tim.cal).get (by decide +kernel)).2.2 : Int) (65536 * (((s35.tim.cal).get (by decide +kernel)).2.1 :
      Nat)), works_s35, by decide +kernel⟩,
   ⟨s41, 0, works_s41, by decide +kernel⟩,
   ⟨s40, 0, works_s40, by decide +kernel⟩,
   ⟨s0, 0, ((s0.tim.votes.getD (0 : Fin 3) []).filter fun k => decide (s0.clk.count < k + s0.clk.fs)).length, works_s0,
      by decide +kernel⟩,
   ⟨s0, 0, works_s0, by decide +kernel⟩,
   ⟨s0, 1, (1 : Fin 4).val, works_s0, by decide +kernel⟩⟩

end Sys2Proof.Tests.Time

namespace Sys2Proof.Tests.Safety
set_option Elab.async false
def setW : List Word := [0x00050001, 0x001001F4] ++ List.replicate 8 0x00020000 ++ [0x1000, 0x318, 0, 1000, 2000, 3000, 4000, 500, 100, 0, 0, 0, 0, 0, 0x00C80A03]
def sealT (s : State) (l : List LWord) : List LWord := s.sealed l
def cmds : List LWord := [word64 [(60, 2), (44, 7)], word64 [(60, 2), (44, 7), (41, 1)], word64 [(60, 2), (44, 7), (41, 2), (39, 1), (37, 1)], word64 [(60, 2), (44, 7), (41, 3), (39, 2), (37, 3)], word64 [(60, 2), (44, 300), (41, 4), (37, 2)],
  word64 [(60, 3)], word64 [(60, 3), (0, 5)], word64 [(60, 5), (32, 3), (0, 77)], word64 [(60, 5), (32, 30), (0, 77)], word64 [(60, 5), (32, 24), (0, 0xFFFFFFFF)]]
def w3s (s : State) : List (LWord × LWord × LWord) :=
  let w := word64 [(60, 6), (0, setCrc s.stagedSet)]
  let t := BitVec.ofNat 64 (s.setTag 5 s.stagedSet)
  [(w, t, (sealT s [w, t, 0]).getD 2 0), (w, t + 1, (sealT s [w, t + 1, 0]).getD 2 0), (w, t, 9), (w + 1, t, (sealT s [w + 1, t, 0]).getD 2 0)]
def id9 : State := { (ready.wr F.MGT_MODULE_ID_ID 0 9) with pwr := { ready.pwr with alive := true } }
def sf (s : State) (f : Saf → Saf) : State := { s with saf := f s.saf }
def en : State := { id9 with regs :=
  [(F.MGT_START_STAT, 8), (F.MGT_MODULE_ID, 9), (F.PWR_STAGE, 0x220), (F.SAF_CFG, 0x00050001), (F.SAF_CFG + 4, 0x001001F4)] }
def okp (s : State) : State := ((((s.wr F.SAF_STAT_PATH_A_OK 0 1).wr F.SAF_STAT_PATH_B_OK 0 1).wr F.SAF_STAT_INC_OK 0 1).wr F.SAF_STAT_SSI_OK 0 1).wr F.SAF_STAT_VAUX_OK 0 1
def st (s : State) (n : Nat) : State := (s.wr F.SAF_STAT_STATE 0 n).wr F.SAF_STAT_FC_CLOSED 0 (if closedIn n then 3 else 0)
def cop (s : State) (p : Nat) (ws : LWord) (v : LWord := 0) (ago : Nat := 0) : State := sf s fun x => { x with accepted := some 5, copies := [{ path := p, words := sealT s [ws, v], tick := 500 - ago }] }
def enFull : State := (List.range 25).foldl (fun s i => s.regPut (F.SAF_CFG + 4 * i) (setW.getD i 0)) id9
def s0 : State := id9
def s1 : State := sf id9 (fun x => { x with on := false })
def s2 : State := okp (st en 0)
def s4 : State := okp (st en 1)
def s6 : State := sf (okp (st en 3)) (fun x => { x with lost := some 0, degEntry := 400 })
def s17 : State := sf (okp (st en 1)) (fun x => { x with accepted := some 7, tcount := 65535, statusTick := 498 })
def s19 : State := cop (okp (st en 1)) 0 (cmds.getD 3 0)
def s32 : State := sf (okp (st en 4)) (fun x => { x with release := some 499 })
def s33 : State := sf ((okp (st en 4)).wr F.SAF_CAUSE_LOCK_SEQ 0 5) (fun x => { x with release := some 499, ack := some { path := 0, words := sealT en [word64 [(60, 3), (0, 5)], 0], tick := 500 } })
def s35 : State := sf (okp (st en 1)) (fun x => { x with release := some 499 })
def s39 : State := sf (okp (st en 0)) (fun x => { x with param := some { path := 0, words := sealT en [cmds.getD 7 0, 0], tick := 500 } })
def s40 : State := sf (okp (st en 1)) (fun x => { x with param := some { path := 0, words := sealT en [cmds.getD 7 0, 0], tick := 500 } })
def s43 : State := let s := sf (okp (st enFull 0)) (fun x => { x with key := some 5, staged := [(0, 0x00060001)] }); let w := (w3s s).getD 0 (0, 0, 0); sf s (fun x => { x with activate := some { path := 0, words := [w.1, w.2.1, w.2.2], tick := 490 } })
def s44 : State := let s := sf (okp (st enFull 1)) (fun x => { x with key := some 5, staged := [(0, 0x00060001)] }); let w := (w3s s).getD 0 (0, 0, 0); sf s (fun x => { x with activate := some { path := 1, words := [w.1, w.2.1, w.2.2], tick := 490 } })
def s46 : State := sf (okp (st en 0)) (fun x => { x with writing := some setW })
theorem works_s0 : s0.Working := working (by decide +kernel)
theorem awakes_s0 : s0.Awake := awake (by decide +kernel)
theorem awakes_s1 : s1.Awake := awake (by decide +kernel)
theorem works_s2 : s2.Working := working (by decide +kernel)
theorem awakes_s2 : s2.Awake := awake (by decide +kernel)
theorem awakes_s4 : s4.Awake := awake (by decide +kernel)
theorem awakes_s6 : s6.Awake := awake (by decide +kernel)
theorem works_s17 : s17.Working := working (by decide +kernel)
theorem works_s19 : s19.Working := working (by decide +kernel)
theorem works_s32 : s32.Working := working (by decide +kernel)
theorem works_s33 : s33.Working := working (by decide +kernel)
theorem works_s35 : s35.Working := working (by decide +kernel)
theorem works_s39 : s39.Working := working (by decide +kernel)
theorem works_s40 : s40.Working := working (by decide +kernel)
theorem works_s43 : s43.Working := working (by decide +kernel)
theorem works_s44 : s44.Working := working (by decide +kernel)
theorem works_s46 : s46.Working := working (by decide +kernel)

/-- The hypotheses of SafetyCycle are met, those of each clause by a state and operands of its own. -/
theorem witness_SafetyCycle :
    (∃ (s : State), s.Awake ∧ 0 < s.clk.fs ∧ s.saf.on = false) ∧
    (∃ (s : State), s.Awake ∧ 0 < s.clk.fs ∧ s.saf.on = true ∧ s.monitorEn = false) ∧
    (∃ (s : State), s.Awake ∧ 0 < s.clk.fs ∧ s.monitorEn = true) :=
  ⟨⟨s1, awakes_s1, by decide +kernel⟩,
   ⟨s0, awakes_s0, by decide +kernel⟩,
   ⟨s2, awakes_s2, by decide +kernel⟩⟩

/-- The hypotheses of SafetyEvents are met, those of each clause by a state and operands of its own (part 1). -/
theorem witness_SafetyEvents :
    (∃ (s : State), s.Awake ∧ 0 < s.clk.fs ∧ s.monitorEn = false) ∧
    (∃ (s : State), s.Awake ∧ 0 < s.clk.fs ∧ s.monitorEn = true) ∧
    (∃ (s : State) (balls : List (Nat × Nat)) (m : Nat), s.Awake ∧ 0 < s.clk.fs ∧ s.monitorEn = true ∧ m = s.notOff balls ∧
      closedIn s.safState = false) ∧
    (∃ (s : State) (balls : List (Nat × Nat)) (m : Nat), s.Awake ∧ 0 < s.clk.fs ∧ s.monitorEn = true ∧ m = s.notOff balls ∧
      closedIn s.safState = true ∧ m = 0) ∧
    (∃ (s : State) (balls : List (Nat × Nat)) (m : Nat), s.Awake ∧ 0 < s.clk.fs ∧ s.monitorEn = true ∧ m = s.notOff balls ∧
      closedIn s.safState = true ∧ m ≠ 0) ∧
    (∃ (s : State) (n : Fin 2), s.Awake ∧ 0 < s.clk.fs ∧ s.monitorEn = true ∧ (s.rd F.SAF_STAT_FC_CLOSED).testBit n = false) ∧
    (∃ (s : State) (n : Fin 2), s.Awake ∧ 0 < s.clk.fs ∧ s.monitorEn = true ∧ (s.rd F.SAF_STAT_FC_CLOSED).testBit n = true ∧
      s.safState ≠ 4) ∧
    (∃ (s : State), s.Awake ∧ 0 < s.clk.fs ∧ s.monitorEn = true ∧ s.safState ≠ 3) :=
  ⟨⟨s0, awakes_s0, by decide +kernel⟩,
   ⟨s2, awakes_s2, by decide +kernel⟩,
   ⟨s2, [(0, 2400), (0, 2400)], s2.notOff ([(0, 2400), (0, 2400)] : List (Nat × Nat)), awakes_s2, by decide +kernel⟩,
   ⟨s4, [(0, 2400), (0, 2400)], s4.notOff ([(0, 2400), (0, 2400)] : List (Nat × Nat)), awakes_s4, by decide +kernel⟩,
   ⟨s4, [(2400, 0), (2400, 0)], s4.notOff ([(2400, 0), (2400, 0)] : List (Nat × Nat)), awakes_s4, by decide +kernel⟩,
   ⟨s2, 0, awakes_s2, by decide +kernel⟩,
   ⟨s4, 0, awakes_s4, by decide +kernel⟩,
   ⟨s2, awakes_s2, by decide +kernel⟩⟩

/-- The hypotheses of SafetyEvents are met, those of each clause by a state and operands of its own (part 2). -/
theorem witness_SafetyEvents_2 :
    (∃ (s : State), s.Awake ∧ 0 < s.clk.fs ∧ s.monitorEn = true ∧ s.safState = 3) :=
  ⟨s6, awakes_s6, by decide +kernel⟩

/-- The hypotheses of SafetyTelegrams are met, those of each clause by a state and operands of its own (part 1). -/
theorem witness_SafetyTelegrams :
    (∃ (s : State), s.Working ∧ 0 < s.clk.fs ∧ (s.monitorEn = false ∨ s.moduleId = 0)) ∧
    (∃ (s : State) (n : Nat), s.Working ∧ 0 < s.clk.fs ∧ s.monitorEn = true ∧ s.moduleId ≠ 0 ∧ s.saf.accepted = some n ∧
      (s.queue 0).fill + 4 ≤ queueCap 0) ∧
    (∃ (s : State) (w0 : LWord) (w1 : LWord) (tc : Nat) (req : Nat) (sel : Nat) (sdi : Nat), s.Working ∧ 0 < s.clk.fs ∧ tc =
      telCount [w0, w1] ∧ req = telField w0 41 3 ∧ sel = telField w0 39 2 ∧ sdi = telField w0 37 2 ∧ (s.monitorEn =
      false ∨ telKind [w0, w1] ≠ 2)) ∧
    (∃ (s : State) (path : Fin 2) (w0 : LWord) (w1 : LWord) (tc : Nat) (req : Nat) (sel : Nat) (sdi : Nat), s.Working ∧ 0 <
      s.clk.fs ∧ tc = telCount [w0, w1] ∧ req = telField w0 41 3 ∧ sel = telField w0 39 2 ∧ sdi = telField w0 37 2 ∧
      s.monitorEn = true ∧ telKind [w0, w1] = 2 ∧ (s.scrcOk [w0, w1] = false ∨ (s.waitingCopy path tc = none ∧
      s.saf.accepted ≠ some tc ∧ s.isNew tc = false))) ∧
    (∃ (s : State) (path : Fin 2) (w0 : LWord) (w1 : LWord) (tc : Nat) (req : Nat) (sel : Nat) (sdi : Nat), s.Working ∧ 0 <
      s.clk.fs ∧ tc = telCount [w0, w1] ∧ req = telField w0 41 3 ∧ sel = telField w0 39 2 ∧ sdi = telField w0 37 2 ∧
      s.monitorEn = true ∧ telKind [w0, w1] = 2 ∧ s.scrcOk [w0, w1] = true ∧ s.waitingCopy path tc = none ∧
      s.saf.accepted = some tc) ∧
    (∃ (s : State) (path : Fin 2) (w0 : LWord) (w1 : LWord) (tc : Nat) (req : Nat) (sel : Nat) (sdi : Nat), s.Working ∧ 0 <
      s.clk.fs ∧ tc = telCount [w0, w1] ∧ req = telField w0 41 3 ∧ sel = telField w0 39 2 ∧ sdi = telField w0 37 2 ∧
      s.monitorEn = true ∧ telKind [w0, w1] = 2 ∧ s.scrcOk [w0, w1] = true ∧ s.waitingCopy path tc = none ∧
      s.saf.accepted ≠ some tc ∧ s.isNew tc = true) ∧
    (∃ (s : State) (path : Fin 2) (w0 : LWord) (w1 : LWord) (tc : Nat) (req : Nat) (sel : Nat) (sdi : Nat) (c : Copy),
      s.Working ∧ 0 < s.clk.fs ∧ tc = telCount [w0, w1] ∧ req = telField w0 41 3 ∧ sel = telField w0 39 2 ∧ sdi =
      telField w0 37 2 ∧ s.monitorEn = true ∧ telKind [w0, w1] = 2 ∧ s.scrcOk [w0, w1] = true ∧ s.waitingCopy path tc =
      some c ∧ c.words = [w0, w1] ∧ s.saf.agreed.length = 2 ∧ s.saf.goodSince.length = 4) ∧
    (∃ (s : State) (path : Fin 2) (w0 : LWord) (w1 : LWord) (tc : Nat) (req : Nat) (sel : Nat) (sdi : Nat) (c : Copy),
      s.Working ∧ 0 < s.clk.fs ∧ tc = telCount [w0, w1] ∧ req = telField w0 41 3 ∧ sel = telField w0 39 2 ∧ sdi =
      telField w0 37 2 ∧ s.monitorEn = true ∧ telKind [w0, w1] = 2 ∧ s.scrcOk [w0, w1] = true ∧ s.waitingCopy path tc =
      some c ∧ c.words ≠ [w0, w1] ∧ s.safState ≠ 4) :=
  ⟨⟨s0, works_s0, by decide +kernel⟩,
   ⟨s17, ((s17.saf.accepted).get (by decide +kernel)), works_s17, by decide +kernel⟩,
   ⟨s0, 0x2000700000000000, 0x59AAB32C, telCount [(0x2000700000000000 : LWord), (0x59AAB32C : LWord)], telField
      (0x2000700000000000 : LWord) 41 3, telField (0x2000700000000000 : LWord) 39 2, telField (0x2000700000000000 :
      LWord) 37 2, works_s0, by decide +kernel⟩,
   ⟨s2, 0, 0x2000700000000000, 0x55, telCount [(0x2000700000000000 : LWord), (0x55 : LWord)], telField
      (0x2000700000000000 : LWord) 41 3, telField (0x2000700000000000 : LWord) 39 2, telField (0x2000700000000000 :
      LWord) 37 2, works_s2, by decide +kernel⟩,
   ⟨s17, 0, 0x2000700000000000, 0x59AAB32C, telCount [(0x2000700000000000 : LWord), (0x59AAB32C : LWord)], telField
      (0x2000700000000000 : LWord) 41 3, telField (0x2000700000000000 : LWord) 39 2, telField (0x2000700000000000 :
      LWord) 37 2, works_s17, by decide +kernel⟩,
   ⟨s2, 0, 0x2000700000000000, 0x59AAB32C, telCount [(0x2000700000000000 : LWord), (0x59AAB32C : LWord)], telField
      (0x2000700000000000 : LWord) 41 3, telField (0x2000700000000000 : LWord) 39 2, telField (0x2000700000000000 :
      LWord) 37 2, works_s2, by decide +kernel⟩,
   ⟨s19, 1, 0x2000776000000000, 0x19042286, telCount [(0x2000776000000000 : LWord), (0x19042286 : LWord)], telField
      (0x2000776000000000 : LWord) 41 3, telField (0x2000776000000000 : LWord) 39 2, telField (0x2000776000000000 :
      LWord) 37 2, ((s19.waitingCopy (1 : Fin 2) (telCount [(0x2000776000000000 : LWord), (0x19042286 : LWord)] :
      Nat)).get (by decide +kernel)), works_s19, by decide +kernel⟩,
   ⟨s19, 1, 0x2000700000000000, 0x59AAB32C, telCount [(0x2000700000000000 : LWord), (0x59AAB32C : LWord)], telField
      (0x2000700000000000 : LWord) 41 3, telField (0x2000700000000000 : LWord) 39 2, telField (0x2000700000000000 :
      LWord) 37 2, ((s19.waitingCopy (1 : Fin 2) (telCount [(0x2000700000000000 : LWord), (0x59AAB32C : LWord)] :
      Nat)).get (by decide +kernel)), works_s19, by decide +kernel⟩⟩

/-- The hypotheses of SafetyTelegrams are met, those of each clause by a state and operands of its own (part 2). -/
theorem witness_SafetyTelegrams_2 :
    (∃ (s : State), s.Working ∧ 0 < s.clk.fs ∧ (s.monitorEn = false ∨ s.nextTimeout = none)) ∧
    (∃ (s : State) (k : Nat) (n : Nat), s.Working ∧ 0 < s.clk.fs ∧ s.monitorEn = true ∧ s.nextTimeout = some (k, n)) :=
  ⟨⟨s0, works_s0, by decide +kernel⟩,
   ⟨s2, ((s2.nextTimeout).get (by decide +kernel)).1, ((s2.nextTimeout).get (by decide +kernel)).2, works_s2,
      by decide +kernel⟩⟩

/-- The hypotheses of SafetyRecovery are met, those of each clause by a state and operands of its own (part 1). -/
theorem witness_SafetyRecovery :
    (∃ (s : State), s.Working ∧ s.monitorEn = false) ∧
    (∃ (s : State) (ms : Nat), s.Working ∧ s.monitorEn = true ∧ s.rdB F.SAF_STAT_RESET_STUCK = false ∧ s.saf.highSince =
      none ∧ 100 < ms ∧ ms < 2000) ∧
    (∃ (s : State) (ms : Nat), s.Working ∧ s.monitorEn = true ∧ s.rdB F.SAF_STAT_RESET_STUCK = false ∧ s.saf.highSince =
      none ∧ ms < 100) ∧
    (∃ (s : State) (ms : Nat), s.Working ∧ s.monitorEn = true ∧ s.rdB F.SAF_STAT_RESET_STUCK = false ∧ s.saf.highSince =
      none ∧ 2000 < ms) ∧
    (∃ (s : State), s.Working ∧ s.monitorEn = true ∧ s.rdB F.SAF_STAT_RESET_STUCK = false ∧ s.saf.highSince = none) ∧
    (∃ (s : State) (w0 : LWord) (w1 : LWord), s.Working ∧ s.monitorEn = true ∧ telKind [w0, w1] = 3 ∧ s.scrcOk [w0, w1] =
      false) ∧
    (∃ (s : State) (w0 : LWord) (w1 : LWord), s.Working ∧ s.monitorEn = true ∧ telKind [w0, w1] = 3 ∧ s.scrcOk [w0, w1] =
      true ∧ s.saf.release = none) ∧
    (∃ (s : State) (w0 : LWord) (w1 : LWord) (r : Nat), s.Working ∧ s.monitorEn = true ∧ telKind [w0, w1] = 3 ∧ s.scrcOk
      [w0, w1] = true ∧ s.saf.release = some r ∧ (r + 5000 < s.clk.tick ∨ s.safState ≠ 4)) :=
  ⟨⟨s0, works_s0, by decide +kernel⟩,
   ⟨s2, 500, works_s2, by decide +kernel⟩,
   ⟨s2, 0, works_s2, by decide +kernel⟩,
   ⟨s2, 2500, works_s2, by decide +kernel⟩,
   ⟨s2, works_s2, by decide +kernel⟩,
   ⟨s2, 0x3000000000000000, 0x55, works_s2, by decide +kernel⟩,
   ⟨s2, 0x3000000000000000, 0xEEBED278, works_s2, by decide +kernel⟩,
   ⟨s35, 0x3000000000000000, 0xEEBED278, ((s35.saf.release).get (by decide +kernel)), works_s35, by decide +kernel⟩⟩

/-- The hypotheses of SafetyRecovery are met, those of each clause by a state and operands of its own (part 2). -/
theorem witness_SafetyRecovery_2 :
    (∃ (s : State) (w0 : LWord) (w1 : LWord) (r : Nat), s.Working ∧ s.monitorEn = true ∧ telKind [w0, w1] = 3 ∧ s.scrcOk
      [w0, w1] = true ∧ s.saf.release = some r ∧ s.clk.tick ≤ r + 5000 ∧ s.safState = 4 ∧ s.saf.ack = none) ∧
    (∃ (s : State) (path : Fin 2) (w0 : LWord) (w1 : LWord) (r : Nat) (c : Copy), s.Working ∧ s.monitorEn = true ∧ telKind
      [w0, w1] = 3 ∧ s.scrcOk [w0, w1] = true ∧ s.saf.release = some r ∧ s.clk.tick ≤ r + 5000 ∧ s.safState = 4 ∧
      s.saf.ack = some c ∧ c.path ≠ path.val ∧ (c.words ≠ [w0, w1] ∨ telField w0 0 16 ≠ s.rd F.SAF_CAUSE_LOCK_SEQ ∨
      s.causeGone = false)) ∧
    (∃ (s : State) (path : Fin 2) (w0 : LWord) (w1 : LWord) (r : Nat) (c : Copy), s.Working ∧ s.monitorEn = true ∧ telKind
      [w0, w1] = 3 ∧ s.scrcOk [w0, w1] = true ∧ s.saf.release = some r ∧ s.clk.tick ≤ r + 5000 ∧ s.safState = 4 ∧
      s.saf.ack = some c ∧ c.path ≠ path.val ∧ c.words = [w0, w1] ∧ telField w0 0 16 = s.rd F.SAF_CAUSE_LOCK_SEQ ∧
      s.causeGone = true) ∧
    (∃ (s : State) (w0 : LWord) (w1 : LWord), s.Working ∧ s.saf.on = true ∧ telKind [w0, w1] = 5 ∧ s.scrcOk [w0, w1] = true
      ∧ s.saf.param = none) ∧
    (∃ (s : State) (path : Fin 2) (w0 : LWord) (w1 : LWord) (c : Copy), s.Working ∧ s.saf.on = true ∧ telKind [w0, w1] = 5 ∧
      s.scrcOk [w0, w1] = true ∧ s.saf.param = some c ∧ c.path ≠ path.val ∧ c.words = [w0, w1] ∧ s.safState = 1) ∧
    (∃ (s : State) (path : Fin 2) (w0 : LWord) (w1 : LWord) (c : Copy), s.Working ∧ s.saf.on = true ∧ telKind [w0, w1] = 5 ∧
      s.scrcOk [w0, w1] = true ∧ s.saf.param = some c ∧ c.path ≠ path.val ∧ c.words = [w0, w1] ∧ s.safState ≠ 1 ∧
      telField w0 32 12 < 25) ∧
    (∃ (s : State) (w0 : LWord) (w1 : LWord) (w2 : LWord), s.Working ∧ s.saf.on = true ∧ telKind [w0, w1, w2] = 6 ∧ s.scrcOk
      [w0, w1, w2] = true ∧ s.saf.activate = none) ∧
    (∃ (s : State) (path : Fin 2) (w0 : LWord) (w1 : LWord) (w2 : LWord) (c : Copy), s.Working ∧ s.saf.on = true ∧ telKind
      [w0, w1, w2] = 6 ∧ s.scrcOk [w0, w1, w2] = true ∧ s.saf.activate = some c ∧ c.path ≠ path.val ∧ c.words = [w0, w1,
      w2] ∧ s.saf.writing = none ∧ s.clk.tick ≤ c.tick + 5000 ∧ s.safState ≠ 1 ∧ s.mayActivate (telField w0 0 32)
      w1.toNat = true) :=
  ⟨⟨s32, 0x3000000000000000, 0xEEBED278, ((s32.saf.release).get (by decide +kernel)), works_s32, by decide +kernel⟩,
   ⟨s33, 1, 0x3000000000000000, 0xEEBED278, ((s33.saf.release).get (by decide +kernel)), ((s33.saf.ack).get
      (by decide +kernel)), works_s33, by decide +kernel⟩,
   ⟨s33, 1, 0x3000000000000005, 0x36EA0364, ((s33.saf.release).get (by decide +kernel)), ((s33.saf.ack).get
      (by decide +kernel)), works_s33, by decide +kernel⟩,
   ⟨s0, 0x500000030000004D, 0x8B87BE18, works_s0, by decide +kernel⟩,
   ⟨s40, 1, 0x500000030000004D, 0x8B87BE18, ((s40.saf.param).get (by decide +kernel)), works_s40, by decide +kernel⟩,
   ⟨s39, 1, 0x500000030000004D, 0x8B87BE18, ((s39.saf.param).get (by decide +kernel)), works_s39, by decide +kernel⟩,
   ⟨s0, 0x600000009C22F4E3, 0xC9EE1B2D64EBE9C3, 0xEBAC450B, works_s0, by decide +kernel⟩,
   ⟨s43, 1, 0x600000007790CCA5, 0x99C39D274A3D3571, 0x2B06E04B, ((s43.saf.activate).get (by decide +kernel)),
      works_s43, by decide +kernel⟩⟩

/-- The hypotheses of SafetyRecovery are met, those of each clause by a state and operands of its own (part 3). -/
theorem witness_SafetyRecovery_3 :
    (∃ (s : State) (path : Fin 2) (w0 : LWord) (w1 : LWord) (w2 : LWord) (c : Copy), s.Working ∧ s.saf.on = true ∧ telKind
      [w0, w1, w2] = 6 ∧ s.scrcOk [w0, w1, w2] = true ∧ s.saf.activate = some c ∧ c.path ≠ path.val ∧ c.words = [w0, w1,
      w2] ∧ s.saf.writing = none ∧ (c.tick + 5000 < s.clk.tick ∨ s.safState = 1 ∨ s.mayActivate (telField w0 0 32)
      w1.toNat = false)) ∧
    (∃ (s : State), s.Working ∧ s.saf.writing = none) ∧
    (∃ (s : State) (ws : List Word), s.Working ∧ s.saf.writing = some ws) :=
  ⟨⟨s44, 0, 0x600000007790CCA5, 0x99C39D274A3D3571, 0x2B06E04B, ((s44.saf.activate).get (by decide +kernel)),
      works_s44, by decide +kernel⟩,
   ⟨s0, works_s0, by decide +kernel⟩,
   ⟨s46, ((s46.saf.writing).get (by decide +kernel)), works_s46, by decide +kernel⟩⟩

end Sys2Proof.Tests.Safety

namespace Sys2Proof.Tests.Starting
set_option Elab.async false
def id9 : State := (ready.wr F.MGT_MODULE_ID_ID 0 9).wr F.MGT_START_STAT_READY 0 1
def sn (s : State) (f : Sns → Sns) : State := { s with sns := f s.sns }
def sto (s : State) (f : Start → Start) : State := { s with start := f s.start }
def pw (s : State) (f : Pwr → Pwr) : State := { s with pwr := f s.pwr }
def ph (s : State) (n : Nat) : State := s.wr F.MGT_START_STAT_PHASE 0 n
def cxOff (s : State) : State := { s with plane := {} , regions := List.replicate 4 {}, chans := List.replicate 64 {}, clk := { s.clk with running := false, count := 0 } }
def sw : State := ((id9.wr F.SNS_CTL_EN 0 1).wr F.SNS_IN_CFG_MODE 4 1).wr F.SNS_IN_CFG_PERIOD_MS 4 3
def due : State := { sw with clk := { sw.clk with tick := 503 } }
def pl (m : Nat) : State := sn sw fun x => { x with pulses := [some { input := 4, mode := m, iexc := 100000 }, some { input := 15, mode := m, iexc := 1 }] }
def ev (j : Nat) (s : State := sw) : State := sn (((s.wr F.SNS_SW_CFG_EN j 1).wr F.SNS_SW_CFG_DEBOUNCE j 2).wr F.SNS_IN_STAT_OPEN 4 0) fun x => { x with toEval := [(3, 498), (4, 499)] }
def warmd (s : State) (pin : Bool) : State := sto s fun x => { x with hold := some 490, fromPin := pin, pinLow := pin }
def ov (s : State) : State := s.wr F.MGT_RESET_CAUSE_OVERRIDE 0 1
def s0 : State := id9
def s1 : State := sw
def s4 : State := sn due (fun x => { x with last := [some 503, none] })
def s5 : State := pl 1
def s8 : State := ev 8
def s16 : State := State.reset
def s18 : State := pw id9 (fun x => { x with stop := 2, vinHigh := some 450 })
def s19 : State := pw id9 (fun x => { x with stop := 1 })
def s21 : State := ov (sto id9 fun x => { x with highSince := some 100 })
def s22 : State := sto id9 (fun x => { x with pinLow := true })
def s23 : State := cxOff (warmd id9 true)
def s30 : State := cxOff (ph id9 3)
def s33 : State := sto (ph id9 6) (fun x => { x with waitFrom := some 100 })
def s34 : State := (ph id9 6).wr F.TIM_STAT_STATE 0 2
def s37 : State := ph id9 7
def s39 : State := sto (id9.wr F.MGT_START_STAT_RESTART_BUSY 0 1) (fun x => { x with restartAt := some (100352, 100000) })
def s40 : State := sto (id9.wr F.MGT_START_STAT_RESTART_BUSY 0 1) (fun x => { x with restartAt := some (100352, 100000), restartStopped := true })
theorem awakes_s0 : s0.Awake := awake (by decide +kernel)
theorem sounds_s0 : s0.Sound := sound (by decide +kernel)
theorem awakes_s1 : s1.Awake := awake (by decide +kernel)
theorem awakes_s4 : s4.Awake := awake (by decide +kernel)
theorem awakes_s5 : s5.Awake := awake (by decide +kernel)
theorem awakes_s8 : s8.Awake := awake (by decide +kernel)
theorem sounds_s16 : s16.Sound := sound (by decide +kernel)
theorem sounds_s18 : s18.Sound := sound (by decide +kernel)
theorem awakes_s19 : s19.Awake := awake (by decide +kernel)
theorem sounds_s19 : s19.Sound := sound (by decide +kernel)
theorem sounds_s21 : s21.Sound := sound (by decide +kernel)
theorem sounds_s22 : s22.Sound := sound (by decide +kernel)
theorem awakes_s23 : s23.Awake := awake (by decide +kernel)
theorem sounds_s23 : s23.Sound := sound (by decide +kernel)
theorem sounds_s30 : s30.Sound := sound (by decide +kernel)
theorem works_s33 : s33.Working := working (by decide +kernel)
theorem sounds_s33 : s33.Sound := sound (by decide +kernel)
theorem works_s34 : s34.Working := working (by decide +kernel)
theorem sounds_s34 : s34.Sound := sound (by decide +kernel)
theorem works_s37 : s37.Working := working (by decide +kernel)
theorem sounds_s37 : s37.Sound := sound (by decide +kernel)
theorem works_s39 : s39.Working := working (by decide +kernel)
theorem sounds_s39 : s39.Sound := sound (by decide +kernel)
theorem works_s40 : s40.Working := working (by decide +kernel)
theorem sounds_s40 : s40.Sound := sound (by decide +kernel)

/-- The hypotheses of SlowSensors are met, those of each clause by a state and operands of its own. -/
theorem witness_SlowSensors :
    (∃ (s : State) (parity : Fin 2), s.Awake ∧ 0 < s.clk.fs ∧ s.sns.pulses.length = 2 ∧ s.sns.last.length = 2 ∧
      s.sns.waiting.length = 16 ∧ s.sns.counts.length = 32 ∧ (s.sns.on = false ∨ s.rdB F.SNS_CTL_EN = false ∨
      s.sns.last.getD parity none = some s.clk.tick)) ∧
    (∃ (s : State) (parity : Fin 2) (i : Nat), s.Awake ∧ 0 < s.clk.fs ∧ s.sns.pulses.length = 2 ∧ s.sns.last.length = 2 ∧
      s.sns.waiting.length = 16 ∧ s.sns.counts.length = 32 ∧ s.sns.on = true ∧ s.rdB F.SNS_CTL_EN = true ∧
      s.sns.last.getD parity none ≠ some s.clk.tick ∧ i < 16 ∧ i % 2 = parity.val ∧ s.pulsed i = true ∧ (∀ j < 16, j % 2
      = parity.val → j ≠ i → s.pulsed j = false) ∧ s.sns.seen.getD parity 0 < s.clk.tick ∧ s.clk.tick % max 1 (s.rd
      F.SNS_IN_CFG_PERIOD_MS i) = i / 2) ∧
    (∃ (s : State) (parity : Fin 2), s.Awake ∧ 0 < s.clk.fs ∧ s.sns.pulses.length = 2 ∧ s.sns.last.length = 2 ∧
      s.sns.waiting.length = 16 ∧ s.sns.counts.length = 32 ∧ s.sns.on = true ∧ s.rdB F.SNS_CTL_EN = true ∧
      s.sns.last.getD parity none ≠ some s.clk.tick ∧ (∀ j < 16, j % 2 = parity.val → s.pulsed j = false)) ∧
    (∃ (s : State) (parity : Fin 2), s.Awake ∧ 0 < s.clk.fs ∧ s.sns.pulses.length = 2 ∧ s.sns.last.length = 2 ∧
      s.sns.waiting.length = 16 ∧ s.sns.counts.length = 32 ∧ s.sns.pulses.getD parity none = none) ∧
    (∃ (s : State) (parity : Fin 2) (s1 : BitVec 16) (s2 : BitVec 16) (above : Bool) (t1 : BitVec 16) (t2 : BitVec 16)
      (tabove : Bool) (x : Pulse) (bad : Bool), s.Awake ∧ 0 < s.clk.fs ∧ s.sns.pulses.length = 2 ∧ s.sns.last.length = 2
      ∧ s.sns.waiting.length = 16 ∧ s.sns.counts.length = 32 ∧ s.sns.pulses.getD parity none = some x ∧ x.input < 16 ∧
      bad = ((SensorSample.mk s1.toNat s2.toNat above).isOpen (s.rd F.SNS_CTL_STEP_LSB) || (x.mode == 3 &&
      (SensorSample.mk t1.toNat t2.toNat tabove).isOpen (s.rd F.SNS_CTL_STEP_LSB)))) ∧
    (∃ (s : State) (i : Fin 16), s.Awake ∧ 0 < s.clk.fs ∧ s.sns.pulses.length = 2 ∧ s.sns.last.length = 2 ∧
      s.sns.waiting.length = 16 ∧ s.sns.counts.length = 32 ∧ (∀ x ∈ s.sns.toEval, x.1 ≠ i.val)) ∧
    (∃ (s : State) (i : Fin 16) (j : Nat) (k : Nat) (x : Nat × Nat), s.Awake ∧ 0 < s.clk.fs ∧ s.sns.pulses.length = 2 ∧
      s.sns.last.length = 2 ∧ s.sns.waiting.length = 16 ∧ s.sns.counts.length = 32 ∧ (s.sns.toEval.find? fun p => p.1 ==
      i.val) = some x ∧ s.rd F.SNS_IN_CFG_MODE i ≠ 0 ∧ s.ratioPartner i = false ∧ ((j, k) = (2 * i.val, 2 * i.val + 1) ∨
      (j, k) = (2 * i.val + 1, 2 * i.val)) ∧ s.rdB F.SNS_SW_CFG_EN j = true ∧ s.rdB F.SNS_SW_CFG_EN k = false) :=
  ⟨⟨s4, 0, awakes_s4, by decide +kernel⟩,
   ⟨s1, 0, 4, awakes_s1, by decide +kernel⟩,
   ⟨s0, 0, awakes_s0, by decide +kernel⟩,
   ⟨s0, 0, awakes_s0, by decide +kernel⟩,
   ⟨s5, 0, 0x64, 0x64, false, 0x64, 0x64, false, ((s5.sns.pulses.getD (0 : Fin 2) none).get (by decide +kernel)),
      ((SensorSample.mk (0x64 : BitVec 16).toNat (0x64 : BitVec 16).toNat (false : Bool)).isOpen (s5.rd
      F.SNS_CTL_STEP_LSB) || ((((s5.sns.pulses.getD (0 : Fin 2) none).get (by decide +kernel)) : Pulse).mode == 3 &&
      (SensorSample.mk (0x64 : BitVec 16).toNat (0x64 : BitVec 16).toNat (false : Bool)).isOpen (s5.rd
      F.SNS_CTL_STEP_LSB))), awakes_s5, by decide +kernel⟩,
   ⟨s0, 0, awakes_s0, by decide +kernel⟩,
   ⟨s8, 4, 8, 9, (4, 499), awakes_s8, by decide +kernel⟩⟩

/-- The hypotheses of Resets are met, those of each clause by a state and operands of its own (part 1). -/
theorem witness_Resets :
    (∃ (s : State), s.Sound ∧ 0 < s.clk.fs ∧ s.pwr.alive = true ∧ s.start.booted = true) ∧
    (∃ (s : State), s.Sound ∧ 0 < s.clk.fs ∧ (s.pwr.alive = false ∨ s.start.booted = false)) ∧
    (∃ (s : State) (tj : Int), s.Sound ∧ 0 < s.clk.fs ∧ (s.pwr.vinHigh = none ∨ s.pwr.alive = false ∨ s.pwr.stop ≠ 2 ∨ 125 <
      tj)) ∧
    (∃ (s : State) (tj : Int) (n : Nat), s.Sound ∧ 0 < s.clk.fs ∧ s.pwr.vinHigh = some n ∧ s.pwr.alive = true ∧ s.pwr.stop =
      2 ∧ tj ≤ 125) ∧
    (∃ (s : State), s.Sound ∧ 0 < s.clk.fs ∧ (s.rdB F.MGT_RESET_CAUSE_OVERRIDE = true ∨ s.pwr.stop ≠ 0
      ∨ s.keeperRuns = false)) ∧
    (∃ (s : State), s.Sound ∧ 0 < s.clk.fs ∧ s.rdB F.MGT_RESET_CAUSE_OVERRIDE = false ∧ s.pwr.stop = 0
      ∧ s.keeperRuns = true ∧ s.start.hold = none) ∧
    (∃ (s : State) (n : Nat), s.Sound ∧ 0 < s.clk.fs ∧ s.rdB F.MGT_RESET_CAUSE_OVERRIDE = false ∧
      s.pwr.stop = 0 ∧ s.keeperRuns = true ∧ s.start.hold = some n) :=
  ⟨⟨s0, sounds_s0, by decide +kernel⟩,
   ⟨s16, sounds_s16, by decide +kernel⟩,
   ⟨s0, -50, sounds_s0, by decide +kernel⟩,
   ⟨s18, -50, ((s18.pwr.vinHigh).get (by decide +kernel)), sounds_s18, by decide +kernel⟩,
   ⟨s16, sounds_s16, by decide +kernel⟩,
   ⟨s0, sounds_s0, by decide +kernel⟩,
   ⟨s23, ((s23.start.hold).get (by decide +kernel)), sounds_s23, by decide +kernel⟩⟩

/-- The hypotheses of Resets are met, those of each clause by a state and operands of its own (part 2). -/
theorem witness_Resets_2 :
    (∃ (s : State), s.Sound ∧ 0 < s.clk.fs ∧ s.start.hold = none ∧ s.start.pinLow = true) ∧
    (∃ (s : State) (n : Nat), s.Sound ∧ 0 < s.clk.fs ∧ s.start.hold = some n) ∧
    (∃ (s : State), s.Sound ∧ s.Awake ∧ 0 < s.clk.fs ∧ (s.pwr.stop ≠ 0 ∨ s.start.hold ≠ none)) ∧
    (∃ (s : State), s.Sound ∧ s.Awake ∧ 0 < s.clk.fs ∧ s.pwr.stop = 0 ∧ s.start.hold = none) ∧
    (∃ (s : State), s.Sound ∧ 0 < s.clk.fs ∧ (s.start.hold = none ∨ s.start.fromPin = false ∨ s.start.pinLow = false ∨
      s.start.stuck = true)) ∧
    (∃ (s : State) (n : Nat), s.Sound ∧ 0 < s.clk.fs ∧ s.keeperRuns = true ∧ s.start.hold = some n ∧ s.start.fromPin = true
      ∧ s.start.pinLow = true ∧ s.start.stuck = false) ∧
    (∃ (s : State), s.Sound ∧ 0 < s.clk.fs ∧ (s.start.highSince = none ∨ s.rdB F.MGT_RESET_CAUSE_OVERRIDE = false)) ∧
    (∃ (s : State) (n : Nat), s.Sound ∧ 0 < s.clk.fs ∧ s.keeperRuns = true ∧ s.start.highSince = some n ∧ s.rdB
      F.MGT_RESET_CAUSE_OVERRIDE = true) :=
  ⟨⟨s22, sounds_s22, by decide +kernel⟩,
   ⟨s23, ((s23.start.hold).get (by decide +kernel)), sounds_s23, by decide +kernel⟩,
   ⟨s19, sounds_s19, awakes_s19, by decide +kernel⟩,
   ⟨s0, sounds_s0, awakes_s0, by decide +kernel⟩,
   ⟨s0, sounds_s0, by decide +kernel⟩,
   ⟨s23, ((s23.start.hold).get (by decide +kernel)), sounds_s23, by decide +kernel⟩,
   ⟨s0, sounds_s0, by decide +kernel⟩,
   ⟨s21, ((s21.start.highSince).get (by decide +kernel)), sounds_s21, by decide +kernel⟩⟩

/-- The hypotheses of StartUp are met, those of each clause by a state and operands of its own (part 1). -/
theorem witness_StartUp :
    (∃ (s : State), s.Sound ∧ 0 < s.clk.fs ∧ (s.phase ≠ 3 ∨ s.start.hold ≠ none ∨ s.plane.cxOn = true)) ∧
    (∃ (s : State) (failed : Fin 3), s.Sound ∧ 0 < s.clk.fs ∧ s.keeperRuns = true ∧ s.pwr.stop = 0 ∧ s.phase = 3 ∧
      s.start.hold = none ∧ s.plane.cxOn = false ∧ (failed ≠ 2 ∨ s.rd F.MGT_RESET_CAUSE_KIND = 1)) ∧
    (∃ (s : State), s.Sound ∧ 0 < s.clk.fs ∧ s.keeperRuns = true ∧ s.phase = 3 ∧ s.start.hold = none ∧ s.plane.cxOn = false
      ∧ s.rd F.MGT_RESET_CAUSE_KIND ≠ 1) ∧
    (∃ (s : State), s.Sound ∧ 0 < s.clk.fs ∧ (s.start.waitFrom = none ∨ s.phase ≠ 6 ∨ s.timState = timLocked ∨ s.rdB
      F.MGT_START_STAT_TIME_WAIT_EXPIRED = true)) ∧
    (∃ (s : State) (n : Nat), s.Sound ∧ s.Working ∧ 0 < s.clk.fs ∧ s.start.waitFrom = some n ∧ s.phase = 6 ∧ s.timState ≠
      timLocked ∧ s.rdB F.MGT_START_STAT_TIME_WAIT_EXPIRED = false) ∧
    (∃ (s : State), s.Sound ∧ 0 < s.clk.fs ∧ (s.phase ≠ 6 ∨ (s.timState ≠ timLocked ∧ s.rdB
      F.MGT_START_STAT_TIME_WAIT_EXPIRED = false))) ∧
    (∃ (s : State), s.Sound ∧ s.Working ∧ 0 < s.clk.fs ∧ s.phase = 6 ∧ (s.timState = timLocked ∨ s.rdB
      F.MGT_START_STAT_TIME_WAIT_EXPIRED = true)) ∧
    (∃ (s : State), s.Sound ∧ 0 < s.clk.fs ∧ (s.phase ≠ 7 ∨ s.rehIdle = false)) :=
  ⟨⟨s0, sounds_s0, by decide +kernel⟩,
   ⟨s30, 0, sounds_s30, by decide +kernel⟩,
   ⟨s30, sounds_s30, by decide +kernel⟩,
   ⟨s0, sounds_s0, by decide +kernel⟩,
   ⟨s33, ((s33.start.waitFrom).get (by decide +kernel)), sounds_s33, works_s33, by decide +kernel⟩,
   ⟨s0, sounds_s0, by decide +kernel⟩,
   ⟨s34, sounds_s34, works_s34, by decide +kernel⟩,
   ⟨s0, sounds_s0, by decide +kernel⟩⟩

/-- The hypotheses of StartUp are met, those of each clause by a state and operands of its own (part 2). -/
theorem witness_StartUp_2 :
    (∃ (s : State), s.Sound ∧ s.Working ∧ 0 < s.clk.fs ∧ s.phase = 7 ∧ s.rehIdle = true) ∧
    (∃ (s : State), s.Sound ∧ s.Awake ∧ 0 < s.clk.fs ∧ (s.start.hold ≠ none ∨ s.rdB F.MGT_START_STAT_READY = false ∨
      s.restarting = true)) ∧
    (∃ (s : State), s.Sound ∧ s.Awake ∧ 0 < s.clk.fs ∧ s.start.hold = none ∧ s.rdB F.MGT_START_STAT_READY = true ∧
      s.restarting = false ∧ s.plane.switch = none) ∧
    (∃ (s : State), s.Sound ∧ 0 < s.clk.fs ∧ (s.start.restartAt = none ∨ s.start.restartStopped = true ∨ s.restarting =
      false)) ∧
    (∃ (s : State) (n : Nat) (k : Nat), s.Sound ∧ s.Working ∧ 0 < s.clk.fs ∧ s.start.restartAt = some (n, k) ∧
      s.start.restartStopped = false ∧ s.restarting = true) ∧
    (∃ (s : State), s.Sound ∧ 0 < s.clk.fs ∧ (s.start.restartAt = none ∨ s.start.restartStopped = false)) ∧
    (∃ (s : State) (n : Nat) (k : Nat), s.Sound ∧ s.Working ∧ 0 < s.clk.fs ∧ s.clk.running = true ∧ s.start.restartAt = some
      (n, k) ∧ s.start.restartStopped = true) :=
  ⟨⟨s37, sounds_s37, works_s37, by decide +kernel⟩,
   ⟨s23, sounds_s23, awakes_s23, by decide +kernel⟩,
   ⟨s0, sounds_s0, awakes_s0, by decide +kernel⟩,
   ⟨s0, sounds_s0, by decide +kernel⟩,
   ⟨s39, ((s39.start.restartAt).get (by decide +kernel)).1, ((s39.start.restartAt).get (by decide +kernel)).2,
      sounds_s39, works_s39, by decide +kernel⟩,
   ⟨s0, sounds_s0, by decide +kernel⟩,
   ⟨s40, ((s40.start.restartAt).get (by decide +kernel)).1, ((s40.start.restartAt).get (by decide +kernel)).2,
      sounds_s40, works_s40, by decide +kernel⟩⟩

end Sys2Proof.Tests.Starting

namespace Sys2Proof.Tests.Whole
set_option Elab.async false
def id9 : State := (ready.wr F.MGT_MODULE_ID_ID 0 9).wr F.PRM_STAT_COMMITTED 0 1
def ringsOn : State := [0, 8].foldl (fun s r => (s.wr F.PRM_RING_CFG_EN r 1).wr F.PRM_RING_CFG_SIZE r 4) id9
def oneCmd (ws : List LWord) : State := { ringsOn with prm := { ringsOn.prm with cmds := [{ words := ws }] } }
def s1 : State := oneCmd [word64 [(56, 2)], 1, 5, 0]
def s2 : State := oneCmd [word64 [(56, 3)], 1, 5, 0]
def s0 : State := ready
theorem works_s1 : s1.Working := working (by decide +kernel)
theorem works_s2 : s2.Working := working (by decide +kernel)
theorem awakes_s0 : s0.Awake := awake (by decide +kernel)

/-- The hypotheses of StepTakesFront are met, those of each clause by a state and operands of its own. -/
theorem witness_StepTakesFront :
    (∃ (s : State) (c : Instr) (rest : List Instr), s.pending = c :: rest) ∧
    (∃ s : State, s.pending = [] ∧ (s.keeperRuns = false ∨ s.cxRuns = false)) ∧
    (∃ s : State, s.pending = [] ∧ s.keeperRuns = true ∧ s.cxRuns = true) :=
  ⟨⟨{ State.reset with pending := [.calSave 0] }, .calSave 0, [], rfl⟩,
   ⟨State.reset, rfl, Or.inl rfl⟩,
   ⟨ready, rfl, by decide +kernel, by decide +kernel⟩⟩

/-- The hypotheses of CommandsComplete are met, those of each clause by a state and operands of its own. -/
theorem witness_CommandsComplete :
    (∃ (c : Instr) (s : State), s.keeperRuns = false ∧ actsAlone c = false) ∧
    (∃ (c : Instr) (s : State), (s.keeperRuns = false ∨ s.cxRuns = false) ∧ needsCx c = true) ∧
    (∃ s : State, s.Working) :=
  ⟨⟨.calSave 0, State.reset, rfl, rfl⟩,
   ⟨.bgWindowEnd 63 [] 0 0 [], State.reset, Or.inl rfl, rfl⟩,
   ⟨ready, working (by decide +kernel)⟩⟩

/-- The hypotheses of ResetState are met, those of each clause by a state and operands of its own. -/
theorem witness_ResetState :
    (∃ a r f n, regAt a = some r ∧ f ∈ r.fields ∧ f.cold = .val n) :=
  ⟨4, (regAt 4).get (by decide +kernel), ((regAt 4).get (by decide +kernel)).fields.head (by decide +kernel), 0,
      by decide +kernel, by decide +kernel, by decide +kernel⟩

/-- The hypotheses of SoundKept are met, those of each clause by a state and operands of its own. -/
theorem witness_SoundKept :
    (∃ s t : State, s.Sound ∧ step s = .next t) :=
  ⟨State.reset, State.reset.idle, sound (by decide +kernel), rfl⟩

/-- The hypotheses of SafetyIsolation are met, those of each clause by a state and operands of its own. -/
theorem witness_SafetyIsolation :
    (∃ (c : Instr) (s t : State), exec c s = .next t ∧ reachesSafety c = false ∧ reachesPower c = false) :=
  ⟨.calSave 0, State.reset, State.reset, rfl, rfl, rfl⟩

/-- The hypotheses of LineCoding are met, those of each clause by a state and operands of its own. -/
theorem witness_LineCoding :
    (∃ bits pre run post b, stuff bits = pre ++ run ++ post ∧ run = List.replicate run.length b) :=
  ⟨List.replicate 12 false, [], List.replicate 12 false, [true], false, by decide +kernel⟩

/-- The hypotheses of AccessCodes are met, those of each clause by a state and operands of its own. -/
theorem witness_AccessCodes :
    (∃ (r : RegDef) (f : FieldDef), regAt F.MGT_CFG = some r ∧ f ∈ r.fields ∧ f.acc = .rw) ∧
    (∃ (r : RegDef) (f : FieldDef), regAt F.AFE_RANGE = some r ∧ f ∈ r.fields ∧ f.acc = .rwv) ∧
    (∃ (r : RegDef) (f : FieldDef), regAt F.AFE_ZONE = some r ∧ f ∈ r.fields ∧ f.acc = .rwl) ∧
    (∃ (r : RegDef) (f : FieldDef), regAt F.MGT_RESET_CAUSE = some r ∧ f ∈ r.fields ∧ f.acc = .ro) ∧
    (∃ (r : RegDef) (f : FieldDef), regAt F.MGT_RESET_CMD = some r ∧ f ∈ r.fields ∧ f.acc = .wo) ∧
    (∃ (r : RegDef) (f : FieldDef), regAt F.MGT_RESET_EVT = some r ∧ f ∈ r.fields ∧ f.acc = .w1c ∧ 0 < f.width) ∧
    (∃ (r : RegDef) (f : FieldDef), regAt F.MGT_RESET_EVT = some r ∧ f ∈ r.fields ∧ f.acc = .cnt) ∧
    (∃ r : RegDef, regAt F.MGT_CFG = some r ∧ ∀ f ∈ r.fields, 31 < f.lo ∨ f.lo + f.width ≤ 31) ∧
    (∃ x ∈ clamps, x.1 = F.PMC_CTL ∧ x.2.1 = 16) ∧
    (∀ x ∈ clamps, x.1 = F.MGT_CFG → x.2.1 ≠ 0) :=
  ⟨⟨(regAt F.MGT_CFG).get (by decide +kernel), ((regAt F.MGT_CFG).get
      (by decide +kernel)).fields[2]'(by decide +kernel), by decide +kernel⟩,
   ⟨(regAt F.AFE_RANGE).get (by decide +kernel), ((regAt F.AFE_RANGE).get
      (by decide +kernel)).fields[0]'(by decide +kernel), by decide +kernel⟩,
   ⟨(regAt F.AFE_ZONE).get (by decide +kernel), ((regAt F.AFE_ZONE).get
      (by decide +kernel)).fields[0]'(by decide +kernel), by decide +kernel⟩,
   ⟨(regAt F.MGT_RESET_CAUSE).get (by decide +kernel), ((regAt F.MGT_RESET_CAUSE).get
      (by decide +kernel)).fields[0]'(by decide +kernel), by decide +kernel⟩,
   ⟨(regAt F.MGT_RESET_CMD).get (by decide +kernel), ((regAt F.MGT_RESET_CMD).get
      (by decide +kernel)).fields[2]'(by decide +kernel), by decide +kernel⟩,
   ⟨(regAt F.MGT_RESET_EVT).get (by decide +kernel), ((regAt F.MGT_RESET_EVT).get
      (by decide +kernel)).fields[2]'(by decide +kernel), by decide +kernel⟩,
   ⟨(regAt F.MGT_RESET_EVT).get (by decide +kernel), ((regAt F.MGT_RESET_EVT).get
      (by decide +kernel)).fields[5]'(by decide +kernel), by decide +kernel⟩,
   ⟨(regAt F.MGT_CFG).get (by decide +kernel), by decide +kernel⟩,
   ⟨(F.PMC_CTL, 16, 8, 24), by decide +kernel⟩,
   by decide +kernel⟩

/-- The hypotheses of UnassignedAddresses are met, those of each clause by a state and operands of its own. -/
theorem witness_UnassignedAddresses :
    (∃ (a : BitVec 32) (n : Nat), n = a.toNat ∧ (n % 4 ≠ 0 ∨ (0x400000 ≤ n ∧ (n < 0x1000000 ∨ 0x1200000 ≤ n) ∧ (n <
      0x2000000 ∨ 0x3000000 ≤ n)))) ∧
    (∃ (a : BitVec 32) (n : Nat) (b : Nat × Nat × Nat), n = a.toNat ∧ (n % 4 ≠ 0 ∨ (0x400000 ≤ n ∧ (n < 0x1000000 ∨
      0x1200000 ≤ n) ∧ (n < 0x2000000 ∨ 0x3000000 ≤ n))) ∧ b ∈ [(0, 0x40000, 3), (0x40000, 0x100000, 15), (0x100000,
      0x300000, 2), (0x300000, 0x380000, 3), (0x380000, 0x400000, 2), (0x400000, 0x1000000, 15), (0x1000000, 0x1200000,
      2), (0x1200000, 0x2000000, 15), (0x2000000, 0x3000000, 2), (0x3000000, 0x100000000, 15)] ∧ b.1 ≤ n ∧ n < b.2.1) ∧
    (∃ (s : State) (a : BitVec 32) (n : Nat) (p : Fin 10), s.Awake ∧ n = a.toNat ∧ (n % 4 ≠ 0 ∨ (0x400000 ≤ n ∧ (n <
      0x1000000 ∨ 0x1200000 ≤ n) ∧ (n < 0x2000000 ∨ 0x3000000 ≤ n))) ∧ (n % 4 ≠ 0 ∨ (s.port p).words.find? (fun w => w.1
      == n) = none)) ∧
    (∃ (s : State) (a : BitVec 32) (n : Nat), s.Awake ∧ n = a.toNat ∧ (n % 4 ≠ 0 ∨ (0x400000 ≤ n ∧ (n < 0x1000000 ∨
      0x1200000 ≤ n) ∧ (n < 0x2000000 ∨ 0x3000000 ≤ n)))) ∧
    (∃ (s : State) (a : BitVec 32) (n : Nat) (c : PCmd), s.Working ∧ n = a.toNat ∧ (n % 4 ≠ 0 ∨ (0x400000 ≤ n ∧ (n <
      0x1000000 ∨ 0x1200000 ≤ n) ∧ (n < 0x2000000 ∨ 0x3000000 ≤ n))) ∧ s.soleCmd c ∧ n = (c.words.getD 1 0).toNat % 2 ^
      32 ∧ c.opcode = 0x02) ∧
    (∃ (s : State) (a : BitVec 32) (n : Nat) (c : PCmd), s.Working ∧ n = a.toNat ∧ (n % 4 ≠ 0 ∨ (0x400000 ≤ n ∧ (n <
      0x1000000 ∨ 0x1200000 ≤ n) ∧ (n < 0x2000000 ∨ 0x3000000 ≤ n))) ∧ s.soleCmd c ∧ n = (c.words.getD 1 0).toNat % 2 ^
      32 ∧ c.opcode = 0x03 ∧ (n % 4 ≠ 0 ∨ (s.port (2 + c.ring)).words.find? (fun w => w.1 == n) = none)) :=
  ⟨⟨0xFFFFFFFF, (0xFFFFFFFF : BitVec 32).toNat, by decide +kernel⟩,
   ⟨0xFFFFFFFF, (0xFFFFFFFF : BitVec 32).toNat, (50331648, 4294967296, 15), by decide +kernel⟩,
   ⟨s0, 0xFFFFFFFF, (0xFFFFFFFF : BitVec 32).toNat, 0, awakes_s0, by decide +kernel⟩,
   ⟨s0, 0xFFFFFFFF, (0xFFFFFFFF : BitVec 32).toNat, awakes_s0, by decide +kernel⟩,
   ⟨s1, 1, (1 : BitVec 32).toNat, ((s1.prm.cmds).head (by decide +kernel)), works_s1, by decide +kernel,
      by decide +kernel, (by unfold State.soleCmd; decide +kernel), by decide +kernel, by decide +kernel⟩,
   ⟨s2, 1, (1 : BitVec 32).toNat, ((s2.prm.cmds).head (by decide +kernel)), works_s2, by decide +kernel,
      by decide +kernel, (by unfold State.soleCmd; decide +kernel), by decide +kernel, by decide +kernel,
      by decide +kernel⟩⟩

/-- The hypotheses of QueueWords are met, those of each clause by a state and operands of its own. -/
theorem witness_QueueWords :
    (∃ m : QWord, ((List.range 68).filter fun i => m.getLsbD i).length % 2 = 1) ∧
    (∃ (ws : List LWord) (i : Nat), i < ws.length) ∧
    (∃ (p : Packet) (ws : List LWord), p.words = packetWords ws) :=
  ⟨⟨1, by decide +kernel⟩,
   ⟨[0], 0, by decide +kernel⟩,
   ⟨{ words := packetWords [3] }, [3], rfl⟩⟩

/-- The hypotheses of SetEventCounts are met, those of each clause by a state and operands of its own. -/
theorem witness_SetEventCounts :
    (∃ (s : State) (a : BitVec 32) (r : RegDef) (k : Nat), s.Working ∧ regAt a.toNat = some r ∧ a.toNat % 4 = 0 ∧ ∃ f ∈
      r.fields, f.acc = .w1c ∧ f.lo = k) ∧
    (∃ u : State, u.Sound) ∧
    (∃ w : Word, getField w 24 8 = 0) :=
  ⟨⟨ready, 24, (regAt (24 : BitVec 32).toNat).get (by decide +kernel), 2, working (by decide +kernel),
      by decide +kernel⟩,
   ⟨ready, sound (by decide +kernel)⟩,
   ⟨4, by decide +kernel⟩⟩

/-- The hypotheses of Stuffing are met, those of each clause by a state and operands of its own. -/
theorem witness_Stuffing :
    (∃ (pre : List Bool) (b : Bool) (n : Nat), pre.length + 12 ≤ n ∧ (pre = [] ∨ pre.getLast? = some (!b))) :=
  ⟨[true], false, 13, by decide +kernel⟩

end Sys2Proof.Tests.Whole
end

section
/-! SUPPORT. What a write stores in the fields of a register (R13 to R15), and what the register table fixes of them. -/

namespace Sys2Proof.Machine

/-! ### Words built field by field -/

theorem getField_lt (w : Word) (lo width : Nat) : getField w lo width < 2 ^ width := Nat.mod_lt _ (Nat.two_pow_pos _)

theorem getField_congr {x y : Word} {lo width : Nat} (h : ∀ i < width, x.getLsbD (lo + i) = y.getLsbD (lo + i)) :
    getField x lo width = getField y lo width := by
  apply Nat.eq_of_testBit_eq
  intro i
  rw [testBit_getField, testBit_getField]
  by_cases hi : i < width
  · rw [h i hi]
  · simp [hi]

theorem getLsbD_setField_outside {w : Word} {lo width v i : Nat} (h : i < lo ∨ lo + width ≤ i) :
    (setField w lo width v).getLsbD i = w.getLsbD i := by
  rw [getLsbD_setField, if_neg (by omega)]

/-- Two fields that share no bit. -/
abbrev FieldDef.Apart (f g : FieldDef) : Prop := f.lo + f.width ≤ g.lo ∨ g.lo + g.width ≤ f.lo

/-- A change of a word for one field that leaves the bits outside the field. -/
def FieldLocal (step : Word → FieldDef → Word) : Prop :=
  ∀ x f i, i < f.lo ∨ f.lo + f.width ≤ i → (step x f).getLsbD i = x.getLsbD i

theorem FieldLocal.getLsbD_foldl {step : Word → FieldDef → Word} (hs : FieldLocal step) {fs : List FieldDef} {i : Nat}
    (h : ∀ f ∈ fs, i < f.lo ∨ f.lo + f.width ≤ i) (x : Word) : (fs.foldl step x).getLsbD i = x.getLsbD i := by
  induction fs generalizing x with
  | nil => rfl
  | cons f fs ih =>
    rw [List.foldl_cons, ih fun g hg => h g (List.mem_cons_of_mem f hg)]
    exact hs x f i (h f List.mem_cons_self)

/-- When the fields of a list share no bit, one of them holds at the end what its own step has given it. -/
theorem FieldLocal.getField_foldl {step : Word → FieldDef → Word} (hs : FieldLocal step) {fs : List FieldDef}
    (hp : fs.Pairwise FieldDef.Apart) {f : FieldDef} (hf : f ∈ fs) (x : Word) :
    ∃ y, getField y f.lo f.width = getField x f.lo f.width ∧
      getField (fs.foldl step x) f.lo f.width = getField (step y f) f.lo f.width := by
  induction fs generalizing x with
  | nil => cases hf
  | cons g fs ih =>
    obtain ⟨hg, hp⟩ := List.pairwise_cons.1 hp
    rcases List.mem_cons.1 hf with rfl | hf
    · refine ⟨x, rfl, getField_congr fun i hi => ?_⟩
      rw [List.foldl_cons]
      refine hs.getLsbD_foldl (fun k hk => ?_) (step x f)
      have := hg k hk
      omega
    · obtain ⟨y, hy, hfold⟩ := ih hp hf (step x g)
      refine ⟨y, hy.trans (getField_congr fun i hi => hs x g _ ?_), hfold⟩
      have := hg f hf
      omega

/-! ### The register table (R455) -/

theorem regTable_fields_in_word : ∀ r ∈ regTable, ∀ f ∈ r.fields, f.lo + f.width ≤ 32 := by decide +kernel

theorem regTable_fields_apart : ∀ r ∈ regTable, r.fields.Pairwise FieldDef.Apart := by decide +kernel

theorem mem_regTable_of_regAt {a : Nat} {r : RegDef} (h : regAt a = some r) : r ∈ regTable := List.mem_of_find?_eq_some h

theorem holds_of_regAt {a : Nat} {r : RegDef} (h : regAt a = some r) : r.holds a = true :=
  List.find?_some (p := fun r : RegDef => r.holds a) h

/-- An address of a register lies between the base of its row and the row's end. -/
theorem addr_range_of_regAt {a : Nat} {r : RegDef} (h : regAt a = some r) :
    r.base ≤ a ∧ (a - r.base) % r.stride = 0 ∧ (a - r.base) / r.stride < r.count := by
  have hh := holds_of_regAt h
  simp only [RegDef.holds, Bool.and_eq_true, decide_eq_true_eq, beq_iff_eq] at hh
  exact ⟨hh.1.1.1, hh.1.1.2, hh.1.2⟩

/-! ### Stores by access code -/

/-- What a field of the register with base b holds after a write of w to a word old, by its access code. -/
def FieldDef.written (f : FieldDef) (b : Nat) (locked : Bool) (old w : Word) : Nat :=
  match f.acc with
  | .rw | .rwv => stored b f.lo (getField w f.lo f.width) % 2 ^ f.width
  | .rwl => if locked then getField old f.lo f.width else stored b f.lo (getField w f.lo f.width) % 2 ^ f.width
  | .w1c => getField old f.lo f.width &&& (2 ^ f.width - 1 - getField w f.lo f.width)
  | .cnt => if getField w f.lo f.width = 0 then 0 else getField old f.lo f.width
  | .ro | .wo => getField old f.lo f.width

/-- The step of storedWord for one field. -/
def storeField (r : RegDef) (locked : Bool) (old w x : Word) (f : FieldDef) : Word :=
  match f.acc with
  | .rw | .rwv => setField x f.lo f.width (stored r.base f.lo (getField w f.lo f.width))
  | .rwl => if locked then x else setField x f.lo f.width (stored r.base f.lo (getField w f.lo f.width))
  | .w1c => setField x f.lo f.width (getField old f.lo f.width &&& (2 ^ f.width - 1 - getField w f.lo f.width))
  | .cnt => if getField w f.lo f.width = 0 then setField x f.lo f.width 0 else x
  | .ro | .wo => x

theorem storedWord_eq_foldl (r : RegDef) (locked : Bool) (old w : Word) :
    storedWord r locked old w = r.fields.foldl (storeField r locked old w) old := rfl

theorem storeField_local (r : RegDef) (locked : Bool) (old w : Word) : FieldLocal (storeField r locked old w) := by
  intro x f i hi
  unfold storeField
  split
  case h_3 | h_5 => split <;> simp only [getLsbD_setField_outside hi]
  all_goals simp only [getLsbD_setField_outside hi]

theorem getField_storeField {r : RegDef} {locked : Bool} {old w x : Word} {f : FieldDef} (hf : f.lo + f.width ≤ 32)
    (hx : getField x f.lo f.width = getField old f.lo f.width) :
    getField (storeField r locked old w x f) f.lo f.width = f.written r.base locked old w := by
  have hset := fun v => getField_setField x f.lo f.width v hf
  have hand : ∀ m, (getField old f.lo f.width &&& m) % 2 ^ f.width = getField old f.lo f.width &&& m := fun m =>
    Nat.mod_eq_of_lt (Nat.lt_of_le_of_lt Nat.and_le_left (getField_lt _ _ _))
  cases hacc : f.acc <;> simp only [storeField, FieldDef.written, hacc, hset, hx, hand]
  case rwl => split <;> simp only [hset, hx]
  case cnt => split <;> simp only [hset, hx, Nat.zero_mod]

/-- A field of an assigned register holds after a write what its access code says. -/
theorem getField_storedWord {a : Nat} {r : RegDef} (hr : regAt a = some r) {f : FieldDef} (hf : f ∈ r.fields) (locked : Bool)
    (old w : Word) : getField (storedWord r locked old w) f.lo f.width = f.written r.base locked old w := by
  have hmem := mem_regTable_of_regAt hr
  obtain ⟨y, hy, hfold⟩ := (storeField_local r locked old w).getField_foldl (regTable_fields_apart r hmem) hf old
  rw [storedWord_eq_foldl, hfold, getField_storeField (regTable_fields_in_word r hmem f hf) hy]

theorem getLsbD_storedWord_outside {r : RegDef} {i : Nat} (h : ∀ f ∈ r.fields, i < f.lo ∨ f.lo + f.width ≤ i)
    (locked : Bool) (old w : Word) : (storedWord r locked old w).getLsbD i = old.getLsbD i :=
  (storeField_local r locked old w).getLsbD_foldl h old

/-- A W1C field keeps the bits that the written word leaves 0. -/
theorem testBit_written_w1c {f : FieldDef} (hf : f.acc = .w1c) (b : Nat) (locked : Bool) (old w : Word) {i : Nat}
    (hi : i < f.width) : (f.written b locked old w).testBit i =
      ((getField old f.lo f.width).testBit i && !(getField w f.lo f.width).testBit i) := by
  have hw := getField_lt w f.lo f.width
  simp only [FieldDef.written, hf, Nat.testBit_and]
  rw [show 2 ^ f.width - 1 - getField w f.lo f.width = 2 ^ f.width - (getField w f.lo f.width + 1) by omega,
    Nat.testBit_two_pow_sub_succ hw]
  simp [hi]

/-! ### Reads of write-only fields -/

/-- The step of RegDef.shown for one field. -/
def showField (x : Word) (f : FieldDef) : Word := if f.acc == .wo then setField x f.lo f.width 0 else x

theorem shown_eq_foldl (r : RegDef) (w : Word) : r.shown w = r.fields.foldl showField w := rfl

theorem showField_local : FieldLocal showField := by
  intro x f i hi
  unfold showField
  split
  · exact getLsbD_setField_outside hi
  · rfl

/-- A write-only field of an assigned register reads 0, and any other field what it holds. -/
theorem getField_shown {a : Nat} {r : RegDef} (hr : regAt a = some r) {f : FieldDef} (hf : f ∈ r.fields) (w : Word) :
    getField (r.shown w) f.lo f.width = if f.acc = .wo then 0 else getField w f.lo f.width := by
  have hmem := mem_regTable_of_regAt hr
  obtain ⟨y, hy, hfold⟩ := showField_local.getField_foldl (regTable_fields_apart r hmem) hf w
  rw [shown_eq_foldl, hfold, showField]
  by_cases h : f.acc = .wo
  · simp [h, getField_setField _ _ _ _ (regTable_fields_in_word r hmem f hf)]
  · simp [h, hy]

/-! ### Limits of fields -/

theorem clamps_find_self : ∀ x ∈ clamps, clamps.find? (fun c => c.1 == x.1 && c.2.1 == x.2.1) = some x := by decide +kernel

theorem clamps_bases : ∀ x ∈ clamps, x.1 ≠ F.TRG_SRC_CFG ∧ (x.1 = F.ADC_CTL → x.2.1 ≠ 0) := by decide +kernel

/-- A field with limits stores the nearer one. -/
theorem stored_of_mem_clamps {x : Nat × Nat × Nat × Nat} (hx : x ∈ clamps) (v : Nat) :
    stored x.1 x.2.1 v = clampNat x.2.2.1 x.2.2.2 v := by
  obtain ⟨hsrc, hadc⟩ := clamps_bases x hx
  rw [stored, if_neg fun h => hsrc h.1, if_neg fun h => hadc h.1 h.2.1, clamps_find_self x hx]

/-- A field without limits stores what is written. -/
theorem stored_of_no_clamp {b lo v : Nat} (h : ∀ x ∈ clamps, x.1 = b → x.2.1 ≠ lo)
    (hsrc : b = F.TRG_SRC_CFG → lo = 2 → v < 6) (hadc : b = F.ADC_CTL → lo = 0 → v < 2) : stored b lo v = v := by
  have hnone : clamps.find? (fun c => c.1 == b && c.2.1 == lo) = none :=
    List.find?_eq_none.2 fun x hx hc => by
      simp only [Bool.and_eq_true, beq_iff_eq] at hc
      exact h x hx hc.1 hc.2
  rw [stored, if_neg fun g => Nat.not_lt.2 g.2.2 (hsrc g.1 g.2.1),
    if_neg fun g => Nat.not_lt.2 g.2.2 (hadc g.1 g.2.1), hnone]

end Sys2Proof.Machine

open Sys2Proof Sys2Proof.Machine

/-- Settles O56: the fields of a register share no bit, so each holds after the write what its own step of the store gave it. -/
theorem accessCodes : Obligations.AccessCodes := by
  intro a r locked old w hr
  refine ⟨fun f hf => ?_, fun i _ hi => getLsbD_storedWord_outside hi locked old w, fun b lo v =>
    ⟨?_, stored_of_no_clamp⟩⟩
  · have hw := getField_storedWord hr hf locked old w
    have hs := getField_shown hr hf old
    refine ⟨?_, ?_, fun h i hi => ?_, fun h => ?_, fun h => ?_, fun h => ?_⟩
    · rw [hw, FieldDef.written]
      rintro (h | h | ⟨h, rfl⟩) <;> simp [h]
    · rw [hw, FieldDef.written]
      rintro (h | h | ⟨h, rfl⟩) <;> simp [h]
    · rw [hw, testBit_written_w1c h r.base locked old w hi]
    · rw [hw, FieldDef.written, h]
    · rw [hs, if_pos h]
    · rw [hs, if_neg h]
  · rintro x hx rfl rfl
    exact stored_of_mem_clamps hx v
end

section
/-! SUPPORT. Register writes of a port (R12 to R15, R335): what each kind of address makes of them. -/

namespace Sys2Proof.Machine

/-! ### Ports -/

theorem State.Sound.kept {s : State} (h : s.Sound) (msk : Nat) : Kept msk s s :=
  ⟨h.regs, h.banks, h.ports, h.que, h.lanes, h.chans, h.regions, rfl⟩

theorem Kept.sound {msk : Nat} {r s : State} (h : Kept msk r s) : s.Sound :=
  ⟨h.regs, h.banks, h.ports, h.que, h.lanes, h.chans, h.regions⟩

/-- A changed port holds what the change makes of it. -/
theorem State.port_onPort {s : State} {p : Nat} (hp : p < s.ports.length) (f : Port → Port) :
    (s.onPort p f).port p = f (s.port p) := by
  simp [State.port, State.onPort, List.getD_eq_getElem?_getD, hp]

theorem State.Sound.port_onPort {s : State} (h : s.Sound) (p : Fin 10) (f : Port → Port) :
    (s.onPort p f).port p = f (s.port p) :=
  State.port_onPort (by rw [h.ports]; exact p.isLt) f

/-! ### The cases of a write -/

theorem State.portWrite_window {s : State} {p a : Nat} {w : Word} (h : (inCells a || inRingWindow a) = true) :
    s.portWrite p a w = (if a % 4 = 0 then accRefused else accAddr, s.unassignedWrite a) := by
  rw [State.portWrite, if_pos h]

theorem State.portWrite_misaligned {s : State} {p a : Nat} {w : Word} (h : a % 4 ≠ 0) :
    s.portWrite p a w = (accAddr, s.unassignedWrite a) := by
  rw [State.portWrite, if_neg h, if_pos h, ite_self]

theorem State.portWrite_unassigned {s : State} {p a : Nat} {w : Word} (hwin : (inCells a || inRingWindow a) = false)
    (hr : regAt a = none) : s.portWrite p a w = (accAddr, s.unassignedWrite a) := by
  simp only [State.portWrite, hwin, hr, Bool.false_eq_true, if_false, ite_self]

section
variable {s : State} {p a : Nat} {w : Word} {r : RegDef} (hwin : (inCells a || inRingWindow a) = false) (h4 : a % 4 = 0)
  (hr : regAt a = some r)
include hwin h4 hr

theorem State.portWrite_monitor (hlo : 0x300000 ≤ a) (hhi : a < 0x340000) : s.portWrite p a w = (accRefused, s) := by
  have hm : F.SAF_STAT ≤ a ∧ a < F.SAF_STAT + 0x40000 := ⟨hlo, hhi⟩
  simp only [State.portWrite, hwin, h4, hr, hm, Bool.false_eq_true, ne_eq, not_true, if_false, and_self, if_true]

variable (hm : a < 0x300000 ∨ 0x340000 ≤ a) (hcx : onKeeper a = true ∨ s.cxRuns = true)
include hm hcx

/-- A write of a register outside the monitor, where its block runs. -/
theorem State.portWrite_register : s.portWrite p a w =
    if s.locked && changesLocked r (s.regGet a) w then
      (accRefused, (State.lockedWrite { s with free := s.free + 1 } a).writeReg r p a (keepLocked r (s.regGet a) w) s.writeNs)
    else (accDone, State.writeReg { s with free := s.free + 1 } r p a w s.writeNs) := by
  have hmon : ¬ (F.SAF_STAT ≤ a ∧ a < F.SAF_STAT + 0x40000) := by
    unfold F.SAF_STAT
    omega
  have hrun : (!onKeeper a && !s.cxRuns) = false := by
    rcases hcx with h | h <;> simp [h]
  simp only [State.portWrite, hwin, h4, hr, hmon, hrun, Bool.false_eq_true, ne_eq, not_true, if_false]
  rfl

theorem State.portStore_taken (hl : s.locked = false ∨ changesLocked r (s.regGet a) w = false) :
    s.portStore p a w = s.accepted p fun u => u.writeReg r p a w s.writeNs := by
  have hno : (s.locked && changesLocked r (s.regGet a) w) = false := by
    rcases hl with h | h <;> simp [h]
  rw [State.portStore, State.portWrite_register hwin h4 hr hm hcx, hno]
  rfl

/-- A write that would change a locked field is refused, and the register's other fields take it (R15). -/
theorem State.portStore_locked (hl : s.locked = true) (hc : changesLocked r (s.regGet a) w = true) :
    s.portStore p a w =
      ((State.lockedWrite { s with free := s.free + 1 } a).writeReg r p a (keepLocked r (s.regGet a) w) s.writeNs).onPort p
        fun x => { x with status := accRefused } := by
  rw [State.portStore, State.portWrite_register hwin h4 hr hm hcx, hl, hc]
  rfl

end

/-- A write of a locked field keeps the ten ports. -/
theorem State.Sound.lockedWrite_ports_length {s : State} (hs : s.Sound) (r : RegDef) (p a : Nat) (w : Word) (ns : Nat) :
    ((State.lockedWrite { s with free := s.free + 1 } a).writeReg r p a w ns).ports.length = 10 := by
  have hfree : Kept 92274686 s { s with free := s.free + 1 } :=
    mk_kept (K := 2) (hs.kept _) rfl rfl rfl rfl rfl rfl rfl rfl
  exact (State.writeReg_kept _ r p a w ns (State.lockedWrite_kept _ a hfree rfl) rfl).ports

/-- REGISTER_WRITE is a store of its port (R13). -/
theorem exec_registerWrite {s : State} (h : s.Awake) (p : Fin 10) (a : BitVec 32) (w : Word) :
    exec (.registerWrite p a w) s = .next (s.portStore p a.toNat w) := by
  change Host.Outcome.next (s.keeperDo fun s => s.doRegisterWrite p a.toNat w) = _
  rw [h.keeperDo, State.doRegisterWrite, Nat.mod_eq_of_lt p.isLt, Nat.mod_eq_of_lt a.isLt]

theorem sound_of_registerWrite {s t : State} (h : s.Awake) {p : Fin 10} {a : BitVec 32} {w : Word}
    (ht : exec (.registerWrite p a w) s = .next t) : t.Sound := by
  rw [exec_registerWrite h] at ht
  cases ht
  exact (State.portStore_kept s p a.toNat w (h.sound.kept 92274686) rfl).sound

/-! ### Registers without an effect of their own -/

theorem State.writeReg_plain {s : State} {r : RegDef} {p a : Nat} {w : Word} {ns : Nat} (hmgt : s.writeMgt r p a w = none)
    (hfront : s.writeFront r a w ns = none) (hcore : s.writeCore r a w = none) (hlink : s.writeLink r a w = none) :
    s.writeReg r p a w ns = s.store r a w := by
  simp only [State.writeReg, hmgt, hfront, hcore, hlink]

end Sys2Proof.Machine

open Sys2Proof Sys2Proof.Machine

/-- Settles O1, by the kind of address: window, unassigned, monitor, a register that takes the write, a locked one. -/
theorem portWriteOutcomes : Obligations.PortWriteOutcomes := by
  intro s p a w hs
  refine ⟨fun hwin h4 => ?_, fun h => ?_, fun r hwin h4 hr =>
    ⟨fun hlo hhi => ?_, fun hm hcx => ⟨fun hl => ?_, fun hl hc => ?_⟩⟩⟩
  · rw [exec_registerWrite hs, State.portStore, State.portWrite_window hwin, if_pos h4]
    rfl
  · rw [exec_registerWrite hs, State.portStore]
    rcases h with h | ⟨hwin, hr⟩
    · rw [State.portWrite_misaligned h]
      rfl
    · rw [State.portWrite_unassigned hwin hr]
      rfl
  · rw [exec_registerWrite hs, State.portStore, State.portWrite_monitor hwin h4 hr hlo hhi]
    rfl
  · rw [exec_registerWrite hs, State.portStore_taken hwin h4 hr hm hcx hl]
  · refine ⟨_, exec_registerWrite hs p a w, ?_, ?_⟩
    · rw [State.portStore_locked hwin h4 hr hm hcx hl hc, State.port_onPort]
      · rfl
      · rw [hs.sound.lockedWrite_ports_length]
        exact p.isLt
    · rw [State.portStore_locked hwin h4 hr hm hcx hl hc]
      rfl

/-- Settles O2: a write that is taken and has no effect of its own puts the stored word into the register file alone. -/
theorem plainWriteStores : Obligations.PlainWriteStores := by
  intro s p a w r hs hwin h4 hr hm hl hplain
  obtain ⟨hmgt, hfront, hcore, hlink⟩ := hplain { s with free := s.free + 1 }
  have hget := State.regGet_regPut (s := { s with free := s.free + 1 }) hs.sound.regs a.toNat
  refine ⟨_, exec_registerWrite hs.awake p a w, ?_⟩
  rw [State.portStore_taken hwin h4 hr hm (.inr hs.cx) hl, State.accepted, State.writeReg_plain hmgt hfront hcore hlink]
  refine ⟨(hget _ _).trans (if_pos rfl), fun b hb => (hget b _).trans (if_neg hb), rfl⟩
end

section
/-! SUPPORT. Event flags and their counts (R14): where they stand in the register table, and that no write of theirs has another
effect. -/

namespace Sys2Proof.Machine

/-! ### Registers whose writes start nothing -/

/-- Bases of the registers whose writes have an effect of their own. -/
def effectBases : List Nat :=
  [F.MGT_RESET_CMD, F.MGT_MODULE_ID, F.PWR_FORCE, F.PWR_CMD, F.PWR_PACE_CMD, F.AFE_FEED_EN, F.AFE_FEED_TP, F.SNS_IN_CFG,
    F.SNS_CTL, F.SNS_SW_CFG, F.SNS_SW_ON, F.SNS_SW_OFF, F.AFE_UNIT_EN, F.AFE_RANGE, F.AFE_AR_THR, F.AFE_AR_DWELL, F.ADC_CTL,
    F.ADC_REH_CMD, F.ADC_INJ_REQ, F.ADC_CAL, F.FLT_CHAIN, F.FLT_SKEW, F.FLT_SKEW_CAL, F.FLT_NOTCH, F.FLT_NOTCH_BW,
    F.FLT_FIR_COEF, F.CHN_CTL, F.WCH_CTL, F.WCH_EVT_BUCKET, F.WCH_CHAN, F.TRG_CTL, F.TRG_SW, F.TRG_DET, F.TRG_COINC,
    F.CDC_STREAM_CMD, F.CDC_JOB_CTL, F.CDC_STREAM_MODE, F.QUE_CMD, F.QUE_HWM, F.LNK_PATH_CFG, F.LNK_CMD, F.LNK_LANE_CTL,
    F.LNK_CLASS_POL, F.LNK_MEM_CFG, F.TIM_CTL, F.TIM_CMD, F.PRM_CTL, F.PRM_RING_CMD, F.FAU_CMD, F.PMC_CTL, F.PMC_CMD,
    F.PMC_FOCUS_CFG, F.PMC_FOCUS_LOC]

section
variable {r : RegDef} (h : r.base ∉ effectBases) (s : State) (a : Nat) (w : Word)
include h

theorem State.writeMgt_of_plain (p : Nat) : s.writeMgt r p a w = none := by
  simp only [effectBases, List.mem_cons, not_or] at h
  simp only [State.writeMgt, h, if_false]

theorem State.writeFront_of_plain (ns : Nat) : s.writeFront r a w ns = none := by
  simp only [effectBases, List.mem_cons, not_or] at h
  simp only [State.writeFront, h, if_false]

theorem State.writeCore_of_plain (hd : deadSource a = false) : s.writeCore r a w = none := by
  simp only [effectBases, List.mem_cons, not_or] at h
  simp only [State.writeCore, h, hd, Bool.false_eq_true, if_false]

theorem State.writeLink_of_plain : s.writeLink r a w = none := by
  simp only [effectBases, List.mem_cons, not_or] at h
  simp only [State.writeLink, h, if_false]

end

/-! ### Event registers of the table -/

/-- Does the register have a W1C flag? -/
def RegDef.hasFlag (r : RegDef) : Bool := r.fields.any fun f => f.acc == .w1c

/-- Every W1C flag is one bit and has its count: flag k stands in bit k, its count in [8 (k + 1) + 7 : 8 (k + 1)]. -/
theorem regTable_flag_counted : ∀ r ∈ regTable, ∀ f ∈ r.fields, f.acc = .w1c →
    f.width = 1 ∧ ∃ g ∈ r.fields, g.acc = .cnt ∧ g.lo = 8 * (f.lo + 1) ∧ g.width = 8 := by decide +kernel

/-- The registers with flags are arrays of single words, below the cue sources or above them and outside the monitor; no
write of theirs starts anything, and none of their fields can be locked. -/
theorem regTable_flag_register : ∀ r ∈ regTable, r.hasFlag = true →
    r.base ∉ effectBases ∧ (∀ f ∈ r.fields, f.acc ≠ .rwl) ∧ r.stride = 4 ∧
      (r.base + 4 * r.count ≤ 0x180100 ∨ 0x180248 ≤ r.base ∧ r.base + 4 * r.count ≤ 0x300000 ∨
        0x340000 ≤ r.base ∧ r.base + 4 * r.count ≤ 0x400000) := by decide +kernel

theorem RegDef.hasFlag_of_mem {r : RegDef} {f : FieldDef} (hf : f ∈ r.fields) (h : f.acc = .w1c) : r.hasFlag = true :=
  List.any_eq_true.2 ⟨f, hf, beq_iff_eq.2 h⟩

/-- Where the address of a register with flags lies. -/
theorem flag_addr_range {a : Nat} {r : RegDef} (hr : regAt a = some r) (hf : r.hasFlag = true) :
    a < 0x180100 ∨ 0x180248 ≤ a ∧ a < 0x300000 ∨ 0x340000 ≤ a ∧ a < 0x400000 := by
  obtain ⟨-, -, hstride, hrange⟩ := regTable_flag_register r (mem_regTable_of_regAt hr) hf
  obtain ⟨hlo, hmod, hcount⟩ := addr_range_of_regAt hr
  rw [hstride] at hmod hcount
  omega

theorem flag_not_window {a : Nat} {r : RegDef} (hr : regAt a = some r) (hf : r.hasFlag = true) :
    (inCells a || inRingWindow a) = false := by
  have := flag_addr_range hr hf
  simp only [inCells, inRingWindow, Bool.or_eq_false_iff, decide_eq_false_iff_not]
  omega

theorem flag_not_deadSource {a : Nat} {r : RegDef} (hr : regAt a = some r) (hf : r.hasFlag = true) :
    deadSource a = false := by
  have hrange := flag_addr_range hr hf
  have hcfg : ¬ (F.TRG_SRC_CFG ≤ a ∧ a < F.TRG_SRC_CFG + 0x90) := by
    unfold F.TRG_SRC_CFG
    omega
  have hmap : ¬ (F.TRG_SRC_MAP_LO ≤ a ∧ a < F.TRG_SRC_MAP_LO + 0x48) := by
    unfold F.TRG_SRC_MAP_LO
    omega
  simp only [deadSource, hcfg, hmap, decide_false, Bool.false_and, Bool.or_self]

theorem flag_not_locked {r : RegDef} (hr : r ∈ regTable) (hf : r.hasFlag = true) (old w : Word) :
    changesLocked r old w = false := by
  obtain ⟨-, hrwl, -, -⟩ := regTable_flag_register r hr hf
  simp only [changesLocked, List.any_eq_false]
  intro f hmem
  simp [hrwl f hmem]

/-! ### A hardware set (R14) -/

/-- The word of an event register after hardware has set its flag k. -/
def flagWord (w : Word) (k : Nat) : Word :=
  setField (setField w k 1 1) (8 * (k + 1)) 8 (min 255 (getField w (8 * (k + 1)) 8 + 1))

theorem State.flag_regs (s : State) (a k : Nat) : s.flag a k = s.regPut a (flagWord (s.regGet a) k) := rfl

theorem State.Sound.regGet_flag {s : State} (h : s.Sound) (a k b : Nat) :
    (s.flag a k).regGet b = if b = a then flagWord (s.regGet a) k else s.regGet b := by
  rw [State.flag_regs, State.regGet_regPut h.regs]

section
variable (w : Word) {k : Nat} (hk : k ≤ 2)
include hk

theorem flagWord_flag : (flagWord w k).getLsbD k = true := by
  rw [flagWord, getLsbD_setField_outside (by omega), getLsbD_setField, if_pos (by omega), Nat.sub_self]
  rfl

theorem flagWord_count : getField (flagWord w k) (8 * (k + 1)) 8 = min 255 (getField w (8 * (k + 1)) 8 + 1) := by
  rw [flagWord, getField_setField _ _ _ _ (by omega)]
  omega

theorem flagWord_other {i : Nat} (hik : i ≠ k) (hi : i < 8 * (k + 1) ∨ 8 * (k + 2) ≤ i) :
    (flagWord w k).getLsbD i = w.getLsbD i := by
  rw [flagWord, getLsbD_setField_outside (by omega), getLsbD_setField_outside (by omega)]

end

/-- A hardware set of flag k: the flag, its count, every other bit, every other register and every other part (R14). -/
theorem State.Sound.flag_outcome {u : State} (hu : u.Sound) (a : Nat) {k : Nat} (hk : k ≤ 2) :
    ((u.flag a k).regGet a).getLsbD k = true ∧
    getField ((u.flag a k).regGet a) (8 * (k + 1)) 8 = min 255 (getField (u.regGet a) (8 * (k + 1)) 8 + 1) ∧
    (∀ i < 32, i ≠ k → i < 8 * (k + 1) ∨ 8 * (k + 2) ≤ i → ((u.flag a k).regGet a).getLsbD i = (u.regGet a).getLsbD i) ∧
    u.sameRegs (u.flag a k) [a] ∧ u.flag a k = { u with regs := (u.flag a k).regs } := by
  rw [show (u.flag a k).regGet a = flagWord (u.regGet a) k from (hu.regGet_flag a k a).trans (if_pos rfl)]
  refine ⟨flagWord_flag _ hk, flagWord_count _ hk, fun i _ => flagWord_other _ hk, fun b hb => ?_, rfl⟩
  exact (hu.regGet_flag a k b).trans (if_neg fun h => hb (List.mem_singleton.2 h))

/-! ### A write of a flag and its count -/

theorem getLsbD_eq_testBit_getField (w : Word) (k : Nat) : w.getLsbD k = (getField w k 1).testBit 0 := by
  rw [testBit_getField]
  rfl

/-- A flag is cleared by a 1 (R13). -/
theorem getLsbD_storedWord_flag {a : Nat} {r : RegDef} (hr : regAt a = some r) {f : FieldDef} (hf : f ∈ r.fields)
    (hacc : f.acc = .w1c) (hwidth : f.width = 1) (locked : Bool) (old w : Word) :
    (storedWord r locked old w).getLsbD f.lo = (old.getLsbD f.lo && !w.getLsbD f.lo) := by
  have hw := getField_storedWord hr hf locked old w
  have hbit := testBit_written_w1c hacc r.base locked old w (i := 0) (by omega)
  rw [← hw, hwidth] at hbit
  simpa only [← getLsbD_eq_testBit_getField] using hbit

/-- A set-event count is cleared by a 0 (R14). -/
theorem getField_storedWord_count {a : Nat} {r : RegDef} (hr : regAt a = some r) {g : FieldDef} (hg : g ∈ r.fields)
    (hacc : g.acc = .cnt) (locked : Bool) (old w : Word) : getField (storedWord r locked old w) g.lo g.width =
      if getField w g.lo g.width = 0 then 0 else getField old g.lo g.width := by
  rw [getField_storedWord hr hg, FieldDef.written, hacc]

/-- A write of an event register stores by access code alone, and nothing of it is locked (R13, R14). -/
theorem State.Working.registerWrite_flag {s : State} (hs : s.Working) (p : Fin 10) {a : BitVec 32} {r : RegDef} (w : Word)
    (hr : regAt a.toNat = some r) (h4 : a.toNat % 4 = 0) (hf : r.hasFlag = true) :
    ∃ t, exec (.registerWrite p a w) s = .next t ∧
      t.regGet a.toNat = storedWord r s.locked (s.regGet a.toNat) w ∧
      (∀ b, b ≠ a.toNat → t.regGet b = s.regGet b) ∧
      t = { s with regs := t.regs, ports := t.ports, free := s.free + 1 } := by
  have hmem := mem_regTable_of_regAt hr
  obtain ⟨hbase, -, -, -⟩ := regTable_flag_register r hmem hf
  have hmon : a.toNat < 0x300000 ∨ 0x340000 ≤ a.toNat := by
    have := flag_addr_range hr hf
    omega
  exact plainWriteStores s p a w r hs (flag_not_window hr hf) h4 hr hmon (.inr (flag_not_locked hmem hf _ w)) fun u =>
    ⟨u.writeMgt_of_plain hbase _ w p, u.writeFront_of_plain hbase _ w _,
      u.writeCore_of_plain hbase _ w (flag_not_deadSource hr hf), u.writeLink_of_plain hbase _ w⟩

end Sys2Proof.Machine

open Sys2Proof Sys2Proof.Machine

/-- Settles O59: the layout of the event registers is read off the table; a write of one of them stores by access code alone
(State.Working.registerWrite_flag), so the flag and the count follow from their codes. -/
theorem setEventCounts : Obligations.SetEventCounts := by
  rintro s a r k hs hr h4 ⟨f, hf, hacc, rfl⟩
  have hmem := mem_regTable_of_regAt hr
  obtain ⟨hwidth, g, hg, hcnt, hglo, hgwidth⟩ := regTable_flag_counted r hmem f hf hacc
  have hk : f.lo ≤ 2 := by
    have := regTable_fields_in_word r hmem g hg
    omega
  refine ⟨⟨g, hg, hcnt, hglo, hgwidth⟩, fun u hu => hu.flag_outcome a.toNat hk, fun p w => ?_⟩
  obtain ⟨t, hexec, hself, hother, ht⟩ := hs.registerWrite_flag p w hr h4 (RegDef.hasFlag_of_mem hf hacc)
  have hbit := getLsbD_storedWord_flag hr hf hacc hwidth s.locked (s.regGet a.toNat) w
  have hcount := getField_storedWord_count hr hg hcnt s.locked (s.regGet a.toNat) w
  rw [hglo, hgwidth, ← hself] at hcount
  obtain ⟨hset, hset_count, -⟩ := (sound_of_registerWrite hs.awake hexec).flag_outcome a.toNat hk
  refine ⟨t, hexec, hself ▸ hbit, hcount, hset, fun hzero => ?_,
    fun b hb => hother b fun h => hb (List.mem_singleton.2 h), ht⟩
  rw [hset_count, hcount, if_pos hzero]
  rfl
end

section
/-! SUPPORT. Reads of a port (R11, R156, R453): what the latch and the port hold, and that the read port of the ring leaves the
ring's content. -/

namespace Sys2Proof.Machine

/-! ### The ring read port leaves the ring's content (R190) -/

/-- t holds the blocks of the capture ring and their log as s does. -/
structure State.SameRing (s t : State) : Prop where
  blocks : t.trg.blocks = s.trg.blocks
  alog : t.trg.alog = s.trg.alog

theorem State.SameRing.refl (s : State) : s.SameRing s := ⟨rfl, rfl⟩

theorem State.SameRing.trans {s t u : State} (h : s.SameRing t) (g : t.SameRing u) : s.SameRing u :=
  ⟨g.blocks.trans h.blocks, g.alog.trans h.alog⟩

theorem State.sameRing_skipAll (s : State) : s.SameRing s.skipAll := ⟨rfl, rfl⟩

theorem State.sameRing_serveShare (s : State) (k : Nat) : s.SameRing (s.serveShare k) := by
  unfold State.serveShare
  split
  · split
    · exact .refl s
    · exact ⟨rfl, rfl⟩
  · split
    · split
      · exact .refl s
      · exact ⟨rfl, rfl⟩
    · split <;> exact ⟨rfl, rfl⟩

theorem State.sameRing_portStep {s t : State} (h : s.portStep = some t) : s.SameRing t := by
  unfold State.portStep at h
  dsimp only at h
  split at h
  · cases h
  · cases h
    exact (s.sameRing_skipAll.trans (State.sameRing_serveShare _ _)).trans ⟨rfl, rfl⟩

theorem State.sameRing_portUntil (s : State) (done : State → Bool) (fuel : Nat) : s.SameRing (s.portUntil done fuel) := by
  induction fuel generalizing s with
  | zero => exact .refl s
  | succ fuel ih =>
    unfold State.portUntil
    split
    · exact .refl s
    · split
      · exact .refl s
      · next t ht => exact (State.sameRing_portStep ht).trans (ih t)

theorem State.sameRing_runPort (s : State) : s.SameRing s.runPort :=
  ((s.sameRing_portUntil _ _).trans (State.sameRing_skipAll _)).trans ⟨rfl, rfl⟩

theorem State.sameRing_diagRead (s : State) (n : Nat) : s.SameRing (s.diagRead n) := by
  unfold State.diagRead
  split
  · exact s.sameRing_runPort.trans ⟨rfl, rfl⟩
  · exact .refl s

/-- A running ring takes a diagnostic word as one burst of the last share. -/
theorem State.diagRead_port {s : State} (h : s.trg.running = true) :
    (s.diagRead 4).trg.port.diag = s.runPort.trg.port.diag + 1 := by
  rw [State.diagRead, if_pos h]
  rfl

/-- States that are equal but for the parts of the capture ring and of the codec. -/
theorem Kept.ring_only {s t : State} (h : Kept 1572864 s t) : t = { s with trg := t.trg, codec := t.codec } := by
  have e := h.only
  simp only [State.blank, hasBit, Nat.reduceDiv, Nat.reduceMod, Nat.reduceBEq, cond_true, cond_false, State.mk.injEq,
    true_and] at e
  cases s
  cases t
  simp only [State.mk.injEq, true_and]
  exact e

theorem State.Sound.diagRead_only {s : State} (h : s.Sound) (n : Nat) :
    s.diagRead n = { s with trg := (s.diagRead n).trg, codec := (s.diagRead n).codec } :=
  (State.diagRead_kept s n (h.kept _) rfl).ring_only

theorem State.Sound.diagRead_sound {s : State} (h : s.Sound) (n : Nat) : (s.diagRead n).Sound :=
  (State.diagRead_kept s n (h.kept 1572864) rfl).sound

/-! ### Windows -/

theorem State.peek_ringWindow {s : State} {a : Nat} (hwin : inRingWindow a = true) (h4 : a % 4 = 0) :
    s.peek a = s.ringWord (a - 0x02000000) := by
  have hcells : inCells a = false := by
    simp only [inCells, inRingWindow, decide_eq_true_eq, decide_eq_false_iff_not] at *
    omega
  rw [State.peek, if_neg (not_not.2 h4), if_neg (ne_true_of_eq_false hcells), if_pos hwin]

/-- Every word of the ring window stands at an aligned address of it. -/
theorem ringWindow_word (c : Fin 4194304) : inRingWindow (0x02000000 + 4 * c) = true ∧ (0x02000000 + 4 * c.val) % 4 = 0 := by
  have := c.isLt
  simp only [inRingWindow, decide_eq_true_eq]
  omega

theorem assigned_ringWindow {a : Nat} (hwin : inRingWindow a = true) (h4 : a % 4 = 0) : assigned a = true := by
  simp [assigned, hwin, h4]

theorem State.SameRing.ringWord {s t : State} (h : s.SameRing t) (off : Nat) : t.ringWord off = s.ringWord off := by
  rw [State.ringWord, State.ringWord, h.blocks, h.alog]

theorem pairs_below_windows : ∀ p ∈ pairs, p.1 + p.2.1 * p.2.2.1 ≤ 0x400000 ∧ 0 < p.2.1 := by decide +kernel

/-- No word of the ring window is the low word of a pair. -/
theorem latchedBy_ringWindow {a : Nat} (hwin : inRingWindow a = true) : latchedBy a = [] := by
  simp only [inRingWindow, decide_eq_true_eq] at hwin
  have hofs : a ≠ F.TIM_OFFSET_LO := by
    unfold F.TIM_OFFSET_LO
    omega
  have hcells : inCells a = false := by
    simp only [inCells, decide_eq_false_iff_not]
    omega
  have hnone : pairs.find? (fun p => decide (p.1 ≤ a) && (a - p.1) % p.2.1 == 0 && decide ((a - p.1) / p.2.1 < p.2.2.1))
      = none := by
    refine List.find?_eq_none.2 fun p hp h => ?_
    obtain ⟨hend, hpos⟩ := pairs_below_windows p hp
    simp only [Bool.and_eq_true, decide_eq_true_eq] at h
    have := (Nat.div_lt_iff_lt_mul hpos).1 h.2
    rw [Nat.mul_comm] at this
    omega
  rw [latchedBy, if_neg hofs, hcells, hnone]
  rfl

theorem inCells_cell {c : Nat} (hc : c < 262144) :
    inCells (0x01000000 + 8 * c) = true ∧ inCells (0x01000000 + 8 * c + 4) = true := by
  simp only [inCells, decide_eq_true_eq]
  omega

theorem not_inRingWindow_cell {c : Nat} (hc : c < 262144) :
    inRingWindow (0x01000000 + 8 * c) = false ∧ inRingWindow (0x01000000 + 8 * c + 4) = false := by
  simp only [inRingWindow, decide_eq_false_iff_not]
  omega

theorem not_burst_of_not_window {a : Nat} (h : inRingWindow a = false) : (inRingWindow a && a % 4 == 0) = false := by
  rw [h, Bool.false_and]

theorem State.peek_cell_low (s : State) {c : Nat} (hc : c < 262144) :
    s.peek (0x01000000 + 8 * c) = BitVec.ofNat 32 (tableGet 0 s.wch.cells c).toNat := by
  have hplace : (0x01000000 + 8 * c - 0x01000000) / 8 = c := by omega
  have hlow : (0x01000000 + 8 * c) % 8 = 0 := by omega
  rw [State.peek, if_neg (by omega), if_pos (inCells_cell hc).1]
  simp only [hplace, hlow, if_true]

theorem State.peek_cell_high (s : State) {c : Nat} (hc : c < 262144) :
    s.peek (0x01000000 + 8 * c + 4) = BitVec.ofNat 32 ((tableGet 0 s.wch.cells c).toNat / 2 ^ 32) := by
  have hplace : (0x01000000 + 8 * c + 4 - 0x01000000) / 8 = c := by omega
  have hhigh : ¬ (0x01000000 + 8 * c + 4) % 8 = 0 := by omega
  rw [State.peek, if_neg (by omega), if_pos (inCells_cell hc).2]
  simp only [hplace, hhigh, if_false]

/-- The low word of a watch cell latches the high one, which latches nothing. -/
theorem latchedBy_cell {c : Nat} (hc : c < 262144) :
    latchedBy (0x01000000 + 8 * c) = [0x01000000 + 8 * c + 4] ∧ latchedBy (0x01000000 + 8 * c + 4) = [] := by
  constructor
  · rw [latchedBy, if_neg (by unfold F.TIM_OFFSET_LO; omega), (inCells_cell hc).1, if_pos rfl, if_pos (by omega)]
  · rw [latchedBy, if_neg (by unfold F.TIM_OFFSET_LO; omega), (inCells_cell hc).2, if_pos rfl, if_neg (by omega)]

/-! ### What a port holds after a read (R11) -/

/-- What a port that holds x makes of a read of address a. -/
def State.readInto (s : State) (a : Nat) (x : Port) : Port :=
  { low := if (latchedBy a).isEmpty then x.low else some a
    words := if (latchedBy a).isEmpty then x.words else (latchedBy a).map fun b => (b, s.peek b)
    value := if (latchedBy a).isEmpty then
        (match x.words.find? fun w => w.1 == a with
          | some w => if a % 4 = 0 then w.2 else 0
          | none => s.peek a)
      else s.peek a
    status := if assigned a then accDone else accAddr }

section
variable {s : State} {a : Nat} {x : Port}

theorem State.readInto_pair (h : latchedBy a ≠ []) : s.readInto a x =
    { low := some a, words := (latchedBy a).map fun b => (b, s.peek b), value := s.peek a
      status := if assigned a then 0 else 2 } := by
  simp only [State.readInto, List.isEmpty_iff, h, if_false]
  rfl

theorem State.readInto_latched (h : latchedBy a = []) {w : Nat × Word} (hw : x.words.find? (fun w => w.1 == a) = some w)
    (h4 : a % 4 = 0) : s.readInto a x = { x with value := w.2, status := if assigned a then 0 else 2 } := by
  simp only [State.readInto, h, List.isEmpty_nil, if_true, hw, h4]
  rfl

theorem State.readInto_unlatched (h : latchedBy a = []) (hw : x.words.find? (fun w => w.1 == a) = none) :
    s.readInto a x = { x with value := s.peek a, status := if assigned a then 0 else 2 } := by
  simp only [State.readInto, h, List.isEmpty_nil, if_true, hw]
  rfl

end

/-- Outside the ring window a read changes its port alone. -/
theorem State.portRead_frame {s : State} {a : Nat} (h : (inRingWindow a && a % 4 == 0) = false) (p : Nat) :
    s.portRead p a = { s with ports := (s.portRead p a).ports } := by
  rw [State.portRead, h]
  rfl

/-- A read of the ring window is a read of its port after a burst of the read port. -/
theorem State.portRead_frame_ring {s : State} {a : Nat} (h : (inRingWindow a && a % 4 == 0) = true) (p : Nat) :
    s.portRead p a = { s.diagRead 4 with ports := (s.portRead p a).ports } := by
  rw [State.portRead, h]
  rfl

theorem State.Sound.port_portRead_plain {s : State} (hs : s.Sound) (p : Fin 10) {a : Nat}
    (h : (inRingWindow a && a % 4 == 0) = false) : (s.portRead p a).port p = s.readInto a (s.port p) := by
  rw [State.portRead, h]
  exact hs.port_onPort p _

/-- Whatever the address, the port holds the value of the state in which the read was made. -/
theorem State.Sound.port_portRead {s : State} (hs : s.Sound) (p : Fin 10) (a : Nat) :
    (s.portRead p a).port p = s.readInto a (s.port p) := by
  cases h : inRingWindow a && a % 4 == 0 with
  | false => exact hs.port_portRead_plain p h
  | true =>
    obtain ⟨hwin, h4⟩ := Bool.and_eq_true_iff.1 h
    have h4 : a % 4 = 0 := beq_iff_eq.1 h4
    have hport : (s.diagRead 4).port p = s.port p := by rw [hs.diagRead_only]; rfl
    have hpeek : (s.diagRead 4).peek a = s.peek a := by
      rw [State.peek_ringWindow hwin h4, State.peek_ringWindow hwin h4, (s.sameRing_diagRead 4).ringWord]
    have hread : (s.portRead p a).port p = (s.diagRead 4).readInto a ((s.diagRead 4).port p) := by
      rw [State.portRead, h]
      exact (hs.diagRead_sound 4).port_onPort p _
    rw [hread, hport]
    simp only [State.readInto, hpeek, latchedBy_ringWindow hwin, List.isEmpty_nil, if_true]

theorem State.Awake.of_ports {s t : State} (h : s.Awake) (ht : t = { s with ports := t.ports }) (hp : t.ports.length = 10) :
    t.Awake := by
  rw [ht]
  exact ⟨⟨h.sound.regs, h.sound.banks, hp, h.sound.que, h.sound.lanes, h.sound.chans, h.sound.regions⟩, h.keeper⟩

theorem State.Awake.portRead_plain {s : State} (h : s.Awake) (p : Fin 10) {a : Nat}
    (ha : (inRingWindow a && a % 4 == 0) = false) : (s.portRead p a).Awake :=
  h.of_ports (State.portRead_frame ha p) (State.portRead_kept s p a (h.sound.kept 1572896) rfl).ports

/-! ### The commands -/

section
variable {s : State} (h : s.Awake) (p : Fin 10)
include h

theorem exec_pairLowRead (a : BitVec 32) : exec (.pairLowRead p a) s = .next (s.portRead p a.toNat) := by
  change Host.Outcome.next (s.keeperDo fun s => s.doPairRead p a.toNat) = _
  rw [h.keeperDo, State.doPairRead, Nat.mod_eq_of_lt p.isLt, Nat.mod_eq_of_lt a.isLt]

theorem exec_watchCellRead (c : Fin 262144) (high : Bool) : exec (.watchCellRead p c high) s
    = .next (s.portRead p (0x01000000 + 8 * c + if high then 4 else 0)) := by
  change Host.Outcome.next (s.keeperDo fun s => s.doCellRead p c high) = _
  rw [h.keeperDo, State.doCellRead, Nat.mod_eq_of_lt p.isLt, Nat.mod_eq_of_lt c.isLt]

theorem exec_diagWindowRead (c : Fin 4194304) : exec (.diagWindowRead p c) s = .next (s.portRead p (0x02000000 + 4 * c)) := by
  change Host.Outcome.next (s.keeperDo fun s => s.doDiagRead p c) = _
  rw [h.keeperDo, State.doDiagRead, Nat.mod_eq_of_lt p.isLt, Nat.mod_eq_of_lt (show c.val < 2 ^ 22 from c.isLt)]

end

/-! ### The reads by kind -/

/-- A read of any address (R11). -/
theorem State.Awake.pairLowRead_outcome {s : State} (hs : s.Awake) (p : Fin 10) (a : BitVec 32) :
    ∃ t, exec (.pairLowRead p a) s = .next t ∧
      ((inRingWindow a.toNat && a.toNat % 4 == 0) = false → t = { s with ports := t.ports }) ∧
      ((inRingWindow a.toNat && a.toNat % 4 == 0) = true →
        t = { s.diagRead 4 with ports := t.ports } ∧ s.diagRead 4 = { s with trg := t.trg, codec := t.codec }) ∧
      t.port p = s.readInto a.toNat (s.port p) := by
  refine ⟨_, exec_pairLowRead hs p a, fun h => State.portRead_frame h p, fun h => ?_, hs.sound.port_portRead p a.toNat⟩
  have hframe := State.portRead_frame_ring (s := s) h p
  refine ⟨hframe, ?_⟩
  rw [hframe]
  exact hs.sound.diagRead_only 4

/-- The two words of a watch cell (R156): the low read latches the high word. -/
theorem State.Awake.watchCellRead_outcome {s : State} (hs : s.Awake) (p : Fin 10) (c : Fin 262144) :
    ∃ t, exec (.watchCellRead p c false) s = .next t ∧ t = { s with ports := t.ports } ∧
      (t.port p).value = BitVec.ofNat 32 (tableGet 0 s.wch.cells c).toNat ∧
      ∃ u, exec (.watchCellRead p c true) t = .next u ∧ u = { s with ports := u.ports } ∧
        (u.port p).value = BitVec.ofNat 32 ((tableGet 0 s.wch.cells c).toNat / 2 ^ 32) := by
  obtain ⟨hlatch, hlatch'⟩ := latchedBy_cell c.isLt
  obtain ⟨hwin, hwin'⟩ := not_inRingWindow_cell c.isLt
  have hplain := not_burst_of_not_window hwin
  have hplain' := not_burst_of_not_window hwin'
  have ht := State.portRead_frame (s := s) hplain p
  have hport : (s.portRead p (0x01000000 + 8 * c.val)).port p = _ :=
    (hs.sound.port_portRead p _).trans (State.readInto_pair (by simp [hlatch]))
  have hawake := hs.portRead_plain p hplain
  refine ⟨_, exec_watchCellRead hs p c false, ht, ?_, _, exec_watchCellRead hawake p c true, ?_, ?_⟩
  · exact (congrArg Port.value hport).trans (s.peek_cell_low c.isLt)
  · refine (State.portRead_frame hplain' p).trans ?_
    rw [ht]
    rfl
  · have hu := (hawake.sound.port_portRead p (0x01000000 + 8 * c + 4)).trans
      (State.readInto_latched (w := (0x01000000 + 8 * c + 4, s.peek (0x01000000 + 8 * c + 4))) hlatch'
        (by rw [hport, hlatch]; simp) (by omega))
    exact (congrArg Port.value hu).trans (s.peek_cell_high c.isLt)

/-- A word of the ring window (R453). -/
theorem State.Awake.diagWindowRead_outcome {s : State} (hs : s.Awake) (p : Fin 10) (c : Fin 4194304) :
    ∃ t, exec (.diagWindowRead p c) s = .next t ∧ t = { s.diagRead 4 with ports := t.ports } ∧
      t.port p = s.readInto (0x02000000 + 4 * c) (s.port p) := by
  obtain ⟨hwin, h4⟩ := ringWindow_word c
  have hring : (inRingWindow (0x02000000 + 4 * c.val) && (0x02000000 + 4 * c.val) % 4 == 0) = true := by rw [hwin, h4]; rfl
  exact ⟨_, exec_diagWindowRead hs p c, State.portRead_frame_ring hring p, hs.sound.port_portRead p _⟩

end Sys2Proof.Machine

open Sys2Proof Sys2Proof.Machine

/-- Settles O3: what the port holds is readInto, and the read port of the ring leaves the ring's content. -/
theorem portReads : Obligations.PortReads := by
  intro s p hs
  refine ⟨fun a => ?_, hs.watchCellRead_outcome p, fun c => ?_⟩
  · obtain ⟨t, hexec, hplain, hring, hport⟩ := hs.pairLowRead_outcome p a
    exact ⟨t, hexec, hplain, hring, fun hl w hw h4 => hport.trans (State.readInto_latched hl hw h4),
      fun hl => hport.trans (State.readInto_pair hl), fun hl hw => hport.trans (State.readInto_unlatched hl hw)⟩
  · obtain ⟨t, hexec, ht, hport⟩ := hs.diagWindowRead_outcome p c
    have htrg : t.trg = (s.diagRead 4).trg := by rw [ht]
    have hsame := s.sameRing_diagRead 4
    refine ⟨t, hexec, ht, htrg ▸ hsame.blocks, htrg ▸ hsame.alog, fun hrun => htrg ▸ State.diagRead_port hrun,
      fun hw => ?_⟩
    obtain ⟨hwin, h4⟩ := ringWindow_word c
    rw [hport, State.readInto_unlatched (latchedBy_ringWindow hwin) hw, assigned_ringWindow hwin h4]
    refine ⟨(State.peek_ringWindow hwin h4).trans ?_, rfl⟩
    rw [Nat.add_sub_cancel_left]
end

section
/-! SUPPORT. Footprints as equations, the passing of time, and the registers that an operation or a fault report leaves. -/

namespace Sys2Proof.Machine

/-! ### Footprints as equations -/

/-- s with the parts of the mask m taken from t: part i of the mask is field i of State. -/
def State.withParts (m : Nat) (s t : State) : State :=
  { pending := bif hasBit m 1 then t.pending else s.pending
    free := bif hasBit m 2 then t.free else s.free
    regs := bif hasBit m 4 then t.regs else s.regs
    banks := bif hasBit m 8 then t.banks else s.banks
    clk := bif hasBit m 16 then t.clk else s.clk
    ports := bif hasBit m 32 then t.ports else s.ports
    tim := bif hasBit m 64 then t.tim else s.tim
    lnk := bif hasBit m 128 then t.lnk else s.lnk
    que := bif hasBit m 256 then t.que else s.que
    fau := bif hasBit m 512 then t.fau else s.fau
    prm := bif hasBit m 1024 then t.prm else s.prm
    stream := bif hasBit m 2048 then t.stream else s.stream
    plane := bif hasBit m 4096 then t.plane else s.plane
    regions := bif hasBit m 8192 then t.regions else s.regions
    chans := bif hasBit m 16384 then t.chans else s.chans
    feeds := bif hasBit m 32768 then t.feeds else s.feeds
    adc := bif hasBit m 65536 then t.adc else s.adc
    chn := bif hasBit m 131072 then t.chn else s.chn
    wch := bif hasBit m 262144 then t.wch else s.wch
    trg := bif hasBit m 524288 then t.trg else s.trg
    codec := bif hasBit m 1048576 then t.codec else s.codec
    pmc := bif hasBit m 2097152 then t.pmc else s.pmc
    sns := bif hasBit m 4194304 then t.sns else s.sns
    saf := bif hasBit m 8388608 then t.saf else s.saf
    book := bif hasBit m 16777216 then t.book else s.book
    pwr := bif hasBit m 33554432 then t.pwr else s.pwr
    start := bif hasBit m 67108864 then t.start else s.start
    access := bif hasBit m 134217728 then t.access else s.access }

theorem cond_else_cond {v : Type} (b : Bool) (x d y : v) : (bif b then x else bif b then d else y) = bif b then x else y := by
  cases b <;> rfl

theorem State.withParts_self (m : Nat) (s : State) : s.withParts m s = s := by
  simp only [State.withParts, Bool.cond_self]

theorem State.withParts_blank (m : Nat) (s t : State) : State.withParts m (s.blank m) t = s.withParts m t := by
  simp only [State.withParts, State.blank, cond_else_cond]

/-- A footprint as an equation: t is s but for the parts of the mask. -/
theorem Kept.eq_withParts {m : Nat} {s t : State} (h : Kept m s t) : t = s.withParts m t := by
  calc t = t.withParts m t := (t.withParts_self m).symm
    _ = State.withParts m (t.blank m) t := (t.withParts_blank m t).symm
    _ = State.withParts m (s.blank m) t := by rw [h.only]
    _ = s.withParts m t := s.withParts_blank m t

/-- A command of the keeper's own acts where the keeper runs. -/
theorem State.Awake.next_keeperDo {s : State} (h : s.Awake) (f : State → State) :
    (Host.Outcome.next (s.keeperDo f) : Host.Outcome State Fault Refusal) = .next (f s) := by
  rw [h.keeperDo]

/-! ### Time passes -/

theorem State.toTick_only (s : State) (n : Nat) : s.toTick n = { s with clk := (s.toTick n).clk } := by
  unfold State.toTick
  split <;> rfl

theorem State.toCount_only (s : State) (n : Nat) : s.toCount n = { s with clk := (s.toCount n).clk } := by
  unfold State.toCount
  split <;> rfl

theorem State.sweepTick_only (s : State) (w : Sweep) : s.sweepTick w = { s with clk := (s.sweepTick w).clk } := by
  unfold State.sweepTick
  split
  · exact s.toTick_only _
  · rfl

@[simp] theorem State.toTick_regs (s : State) (n : Nat) : (s.toTick n).regs = s.regs := by
  rw [s.toTick_only n]
@[simp] theorem State.toTick_feeds (s : State) (n : Nat) : (s.toTick n).feeds = s.feeds := by
  rw [s.toTick_only n]
@[simp] theorem State.toCount_regs (s : State) (n : Nat) : (s.toCount n).regs = s.regs := by
  rw [s.toCount_only n]
@[simp] theorem State.toCount_feeds (s : State) (n : Nat) : (s.toCount n).feeds = s.feeds := by
  rw [s.toCount_only n]
@[simp] theorem State.sweepTick_regs (s : State) (w : Sweep) : (s.sweepTick w).regs = s.regs := by
  rw [s.sweepTick_only w]
@[simp] theorem State.sweepTick_feeds (s : State) (w : Sweep) : (s.sweepTick w).feeds = s.feeds := by
  rw [s.sweepTick_only w]

/-! ### Registers that an operation leaves -/

theorem State.sameRegs.trans {s t u : State} {l : List Nat} (h : s.sameRegs t l) (g : t.sameRegs u l) : s.sameRegs u l :=
  fun b hb => (g b hb).trans (h b hb)

theorem State.sameRegs_of_regs {s t : State} (h : t.regs = s.regs) (l : List Nat) : s.sameRegs t l := fun b _ => by
  rw [State.regGet, State.regGet, h]

section
variable {s : State} (h : tableWf coldWord s.regs = true)
include h

theorem State.wf_regPut (a : Nat) (w : Word) : tableWf coldWord (s.regPut a w).regs = true := (tablePut_wf coldWord a w s.regs h).1

theorem State.wf_wr (f : Fld) (i v : Nat) : tableWf coldWord (s.wr f i v).regs = true := State.wf_regPut h _ _

theorem State.sameRegs_regPut (a : Nat) (w : Word) : s.sameRegs (s.regPut a w) [a] := fun b hb => by
  rw [State.regGet_regPut h, if_neg fun e => hb (List.mem_singleton.2 e)]

theorem State.sameRegs_wr (f : Fld) (i v : Nat) : s.sameRegs (s.wr f i v) [f.addr i] := State.sameRegs_regPut h _ _

/-- A state whose registers are those of s with one field written holds the others as s does. -/
theorem State.sameRegs_of_wr {t : State} {f : Fld} {i v : Nat} (e : t.regs = (s.wr f i v).regs) : s.sameRegs t [f.addr i] :=
  (State.sameRegs_wr h f i v).trans (State.sameRegs_of_regs e _)

end

/-! ### What a fault report writes (R421, R424, R438) -/

/-- t's registers are in canonical form, and those below the blocks FAU and PMC are as they are in r (R451). -/
structure LowKept (r t : State) : Prop where
  wf : tableWf coldWord t.regs = true
  low : ∀ b < 0x380000, t.regGet b = r.regGet b

section
variable {r t u : State}

theorem LowKept.congr (h : LowKept r t) (e : u.regs = t.regs) : LowKept r u :=
  ⟨e ▸ h.wf, fun b hb => (State.sameRegs_of_regs e [] b List.not_mem_nil).trans (h.low b hb)⟩

variable (h : LowKept r t)
include h

theorem LowKept.regPut {a : Nat} (ha : 0x380000 ≤ a) (w : Word) : LowKept r (t.regPut a w) :=
  ⟨State.wf_regPut h.wf a w, fun b hb =>
    (State.sameRegs_regPut h.wf a w b fun hm => by have := List.mem_singleton.1 hm; omega).trans (h.low b hb)⟩

theorem LowKept.wr {f : Fld} (hf : 0x380000 ≤ f.base) (i v : Nat) : LowKept r (t.wr f i v) :=
  h.regPut (Nat.le_add_right_of_le hf) _

theorem LowKept.flag {a : Nat} (ha : 0x380000 ≤ a) (k : Nat) : LowKept r (t.flag a k) := h.regPut ha _

theorem LowKept.pmcWrapped (j : Nat) : LowKept r (t.pmcWrapped j) := (h.wr (by decide) _ _).flag (by decide) 0

theorem LowKept.pmcAdd {lo hi : Fld} (hlo : 0x380000 ≤ lo.base) (hhi : 0x380000 ≤ hi.base) (i j n : Nat) :
    LowKept r (t.pmcAdd lo hi i j n) := by
  have hp (v : Nat) : LowKept r (t.wrPair lo hi i v) := (h.wr hlo _ _).wr hhi _ _
  unfold State.pmcAdd
  dsimp only
  split
  · exact (hp _).pmcWrapped j
  · exact hp _

theorem LowKept.forEach {a : Type} {f : State → a → State} (hf : ∀ t x, LowKept r t → LowKept r (f t x)) (l : List a) :
    LowKept r (t.forEach l f) := by
  unfold State.forEach
  induction l generalizing t with
  | nil => exact h
  | cons x l ih => exact ih (hf t x h)

theorem LowKept.count (e l n : Nat) : LowKept r (t.count e l n) := by
  unfold State.count
  split
  · exact h
  · refine (h.pmcAdd (by decide) (by decide) _ _ _).forEach (fun t f ht => ?_) _
    split
    · exact ht.pmcAdd (by decide) (by decide) _ _ _
    · exact ht

theorem LowKept.foldInc (root e : Nat) : LowKept r (t.foldInc root e) := h.congr rfl

theorem LowKept.openInc (e c l d : Nat) : LowKept r (t.openInc e c l d) := by
  have hdelay : (if stationCode c then t.stationDelay else (0, t)).2.regs = t.regs := by
    split <;> rfl
  unfold State.openInc
  dsimp only
  generalize (if stationCode c = true then t.stationDelay else (0, t)) = p at hdelay
  have hopen (f : Incident → Incident) : LowKept r (p.2.onInc e f) := h.congr hdelay
  exact ((((hopen _).wr (by decide) 0 _).flag (by decide) 0).count _ _ _).forEach (fun _ _ ht => ht.foldInc _ _) _

theorem LowKept.incOverflow : LowKept r t.incOverflow := by
  have hinc (f : Incident → Incident) : LowKept r (t.onInc 255 f) := h.congr rfl
  unfold State.incOverflow
  dsimp only
  split
  · exact (((((hinc _).wr (by decide) 0 _).flag (by decide) 0).count _ _ _).flag (by decide) 1).wr (by decide) 0 1
  · exact ((hinc _).flag (by decide) 1).wr (by decide) 0 1

/-- A fault report writes no register below the blocks FAU and PMC. -/
theorem LowKept.report (c l d : Nat) : LowKept r (t.report c l d) := by
  unfold State.report
  split
  · exact h.congr rfl
  · split
    · exact h.congr rfl
    · split
      · exact h.openInc _ c l d
      · exact h.incOverflow

end

theorem LowKept.refl {s : State} (h : tableWf coldWord s.regs = true) : LowKept s s := ⟨h, fun _ _ => rfl⟩

end Sys2Proof.Machine
end

section
/-! SUPPORT. The antenna feeds and their sweeps (R86 to R95): what each of their operations does. -/

namespace Sys2Proof.Machine

/-! ### Own state of the feeds -/

theorem State.feed_onFeed {s : State} {a : Nat} (h : a < s.feeds.feeds.length) (f : Feed → Feed) :
    (s.onFeed a f).feed a = f (s.feed a) := by
  simp [State.feed, State.onFeed, List.getD_eq_getElem?_getD, h]

theorem State.feed_onFeed_ne (s : State) {a b : Nat} (h : b ≠ a) (f : Feed → Feed) : (s.onFeed a f).feed b = s.feed b := by
  simp [State.feed, State.onFeed, List.getD_eq_getElem?_getD, h.symm]

theorem State.feeds_length_onFeed (s : State) (a : Nat) (f : Feed → Feed) :
    (s.onFeed a f).feeds.feeds.length = s.feeds.feeds.length := by
  simp [State.onFeed]

theorem State.feedFed_eq_true {s : State} {a : Nat} :
    s.feedFed a = true ↔ s.feeds.vfeedOk = true ∧ s.feedsShed a = false := by
  simp [State.feedFed]

/-! ### Writes of the feeds' registers (R13, R87, R91) -/

/-- The two command registers of the feeds stand in the register table by themselves, with no field that COMMIT locks. -/
theorem regAt_feed_command : ∀ a ∈ [F.AFE_FEED_EN, F.AFE_FEED_TP],
    (regAt a).any (fun r => r.base == a && r.fields.all fun f => f.acc != .rwl) = true := by decide +kernel

/-- A write of one of them is taken. -/
theorem State.portStore_feed (s : State) (p : Nat) {a : Nat} (ha : a ∈ [F.AFE_FEED_EN, F.AFE_FEED_TP]) (w : Word) :
    ∃ r : RegDef, r.base = a ∧ s.portStore p a w = s.accepted p fun u => u.writeReg r p a w s.writeNs := by
  obtain ⟨r, hr, hr'⟩ := (Option.any_eq_true _ _).1 (regAt_feed_command a ha)
  simp only [Bool.and_eq_true, beq_iff_eq, List.all_eq_true, bne_iff_ne] at hr'
  obtain ⟨hbase, hrwl⟩ := hr'
  have hunlocked (old : Word) : changesLocked r old w = false := by
    simp only [changesLocked, List.any_eq_false]
    intro f hf
    simp [hrwl f hf]
  have hplace : a % 4 = 0 ∧ (inCells a || inRingWindow a) = false ∧ a < 0x300000 ∧ onKeeper a = true := by
    have hall : ∀ x ∈ [F.AFE_FEED_EN, F.AFE_FEED_TP],
        x % 4 = 0 ∧ (inCells x || inRingWindow x) = false ∧ x < 0x300000 ∧ onKeeper x = true := by decide
    exact hall a ha
  obtain ⟨h4, hwin, hlt, hkeeper⟩ := hplace
  exact ⟨r, hbase, State.portStore_taken hwin h4 hr (.inl hlt) (.inl hkeeper) (.inr (hunlocked _))⟩

theorem State.writeReg_feedEn (s : State) {r : RegDef} (hr : r.base = F.AFE_FEED_EN) (p a : Nat) (w : Word) (ns : Nat) :
    s.writeReg r p a w ns = s.doFeedEnWrite w := by
  rw [State.writeReg, State.writeMgt, hr]
  rfl

theorem State.writeReg_feedTp (s : State) {r : RegDef} (hr : r.base = F.AFE_FEED_TP) (p a : Nat) {w : Word} (ns : Nat)
    (hw : w.toNat.testBit 1 = true) : s.writeReg r p a w ns = (s.store r a w).doFeedSweep := by
  rw [State.writeReg, State.writeMgt, hr]
  change (s.store r a w).commands w [(1, State.doFeedSweep)] = _
  simp [State.commands, hw]

theorem testBit_setField_one (x : Word) : (setField x 1 1 1).toNat.testBit 1 = true := by
  rw [← BitVec.getLsbD, getLsbD_setField, if_pos (by omega)]
  rfl

/-! ### A feed on a tick (R87 to R91) -/

/-- A feed on a tick with its current taken and what was latched of its pulse spent. -/
def State.feedSampled (s : State) (a c : Nat) : State :=
  (s.wr F.AFE_FEED_STAT_CURRENT_MA a (min 1023 c)).onFeed a fun x => { x with soft := x.soft - 1, short := none, clear := false }

section
variable {s : State} (hwf : tableWf coldWord s.regs = true) (a c : Nat)
include hwf

theorem State.feedState_feedSampled : (s.feedSampled a c).feedState a = s.feedState a :=
  State.rd_wr_ne hwf _ F.AFE_FEED_STAT_STATE a a _ (by right; decide)

theorem State.retryLeft_feedSampled :
    (s.feedSampled a c).rd F.AFE_FEED_STAT_RETRY_LEFT a = s.rd F.AFE_FEED_STAT_RETRY_LEFT a :=
  State.rd_wr_ne hwf _ _ a a _ (by right; decide)

theorem State.feedEn_feedSampled : (s.feedSampled a c).feedEn a = s.feedEn a := by
  have h : F.AFE_FEED_EN_EN.addr 0 ≠ F.AFE_FEED_STAT_CURRENT_MA.addr a := by
    simp only [Fld.addr]
    omega
  exact congrArg (·.testBit a) (State.rd_wr_ne hwf _ F.AFE_FEED_EN_EN a 0 _ (.inl h))

end
section
variable {s : State} {a : Nat} (c : Nat) (o l b : Bool)

theorem State.feedTick_noSupply (h : s.feeds.vfeedOk = false) :
    s.feedTick a c o l b = (s.feedSampled a c).enterFeed a feedNoSupply a :=
  if_pos (show (!s.feeds.vfeedOk) = true by rw [h]; rfl)

theorem State.feedTick_shed (h : s.feeds.vfeedOk = true) (hshed : s.feedsShed a = true) :
    s.feedTick a c o l b = (s.feedSampled a c).enterFeed a feedShed a :=
  (if_neg (show ¬ (!s.feeds.vfeedOk) = true by simp [h])).trans (if_pos hshed)

variable (hwf : tableWf coldWord s.regs = true) (hfed : s.feedFed a = true)
include hwf hfed

theorem State.feedTick_disabled (hen : s.feedEn a = false) :
    s.feedTick a c o l b = (s.feedSampled a c).enterFeed a (if l = true then feedOpenOff else feedOff) a := by
  obtain ⟨hv, hshed⟩ := State.feedFed_eq_true.1 hfed
  refine (if_neg (show ¬ (!s.feeds.vfeedOk) = true by simp [hv])).trans ?_
  refine (if_neg (show ¬ s.feedsShed a = true by simp [hshed])).trans ?_
  exact if_pos (show (!(s.feedSampled a c).feedEn a) = true by rw [State.feedEn_feedSampled hwf, hen]; rfl)

variable (hen : s.feedEn a = true)
include hen

/-- The branches of a feed that is on: what its trip, its old state and its pulse latched. -/
theorem State.feedTick_enabled : s.feedTick a c o l b =
    if (s.feed a).trip then (s.feedSampled a c).feedOverloaded a
    else if (s.feedSampled a c).feedState a = feedOverload then
      if (s.feed a).retrying && (s.feed a).soft == 1 then
        (((s.feedSampled a c).onFeed a fun _ => {}).wr F.AFE_FEED_STAT_RETRY_LEFT a
          ((s.feedSampled a c).rd F.AFE_FEED_CFG_RETRIES)).enterFeed a feedOn a
      else s.feedSampled a c
    else
      match (s.feed a).short with
      | some d => (s.feedSampled a c).enterFeed a feedShorted d
      | none =>
        if (s.feedSampled a c).feedState a = feedShorted && !(s.feed a).clear then s.feedSampled a c
        else (s.feedSampled a c).feedOnState a c o b (decide (1 < (s.feed a).soft) || s.pulsing a) := by
  obtain ⟨hv, hshed⟩ := State.feedFed_eq_true.1 hfed
  refine (if_neg (show ¬ (!s.feeds.vfeedOk) = true by simp [hv])).trans ?_
  refine (if_neg (show ¬ s.feedsShed a = true by simp [hshed])).trans ?_
  exact if_neg (show ¬ (!(s.feedSampled a c).feedEn a) = true by rw [State.feedEn_feedSampled hwf, hen]; simp)

section
variable (hst : s.feedState a ≠ feedOverload)
include hst

/-- A trip that was latched enters OVERLOAD, with the next retry 100 ticks later while any is left (R90). -/
theorem State.feedTick_tripped (hs : s.Sound) (htrip : (s.feed a).trip = true) : s.feedTick a c o l b =
    ((s.feedSampled a c).enterFeed a feedOverload a).onFeed a fun _ =>
      { retryAt := if 0 < s.rd F.AFE_FEED_STAT_RETRY_LEFT a then some (s.clk.tick + 100) else none } := by
  have hsampled : Kept 33286 s (s.feedSampled a c) := State.onFeed_kept _ a _ (State.wr_kept s _ a _ (hs.kept _) rfl) rfl
  have hclk : ((s.feedSampled a c).enterFeed a feedOverload a).clk = s.clk := by
    rw [(State.enterFeed_kept _ a feedOverload a hsampled rfl).eq_withParts]
    rfl
  simp only [State.feedTick_enabled c o l b hwf hfed hen, htrip, if_true, State.feedOverloaded,
    State.feedState_feedSampled hwf, State.retryLeft_feedSampled hwf, hst, if_false, hclk]

/-- What a pulse latched enters SHORTED with its report's DETAIL (R91). -/
theorem State.feedTick_shorted (htrip : (s.feed a).trip = false) {d : Nat} (hshort : (s.feed a).short = some d) :
    s.feedTick a c o l b = (s.feedSampled a c).enterFeed a feedShorted d := by
  simp only [State.feedTick_enabled c o l b hwf hfed hen, htrip, hshort, State.feedState_feedSampled hwf, hst, Bool.false_eq_true,
    if_false]

end

variable (htrip : (s.feed a).trip = false) (hshort : (s.feed a).short = none)
include htrip hshort

/-- An OPEN feed that draws current again is ON (R88). -/
theorem State.feedTick_drawing (hopen : s.feedState a = feedOpen) :
    s.feedTick a c o l true = (s.feedSampled a c).enterFeed a feedOn a := by
  have hu := (State.feedState_feedSampled hwf a c).trans hopen
  simp only [State.feedTick_enabled c o l true hwf hfed hen, htrip, hshort, State.feedOnState, hu]
  rfl

/-- A comparator that trips outside soft start and pulse opens an ON feed (R88). -/
theorem State.feedTick_opened (hon : s.feedState a = feedOn) (hsoft : (s.feed a).soft ≤ 1) (hpulse : s.pulsing a = false) :
    s.feedTick a c true l b = (s.feedSampled a c).enterFeed a feedOpen a := by
  have hu := (State.feedState_feedSampled hwf a c).trans hon
  simp only [State.feedTick_enabled c true l b hwf hfed hen, htrip, hshort, State.feedOnState, hu, hpulse,
    decide_eq_false (Nat.not_lt.2 hsoft)]
  rfl

end

/-! ### Overloads and retries (R90) -/

theorem State.doFeedTrip_trips {s : State} {a : Nat} (hen : s.feedEn a = true) (hfed : s.feedFed a = true)
    (htrip : (s.feed a).trip = false)
    (hon : (s.feed a).retrying = true ∨ (s.feed a).soft = 0 ∧ s.feedState a ≠ feedOverload) :
    s.doFeedTrip a = s.onFeed a fun _ => { trip := true } := by
  refine if_pos ?_
  rcases hon with h | ⟨h, h'⟩ <;> simp [*]

/-- The feed of a retry, the retries left, and the other feeds (R90). -/
theorem State.Sound.doFeedRetry_outcome {s : State} (hs : s.Sound) {a k : Nat} (ha : a < s.feeds.feeds.length)
    (hk : (s.feed a).retryAt = some k) (hst : s.feedState a = feedOverload) (hen : s.feedEn a = true) (hfed : s.feedFed a = true) :
    (s.doFeedRetry a).feed a = { soft := 10, retrying := true } ∧
    (s.doFeedRetry a).rd F.AFE_FEED_STAT_RETRY_LEFT a = s.rd F.AFE_FEED_STAT_RETRY_LEFT a - 1 ∧
    (∀ b, b ≠ a → (s.doFeedRetry a).feed b = s.feed b) ∧
    s.sameRegs (s.doFeedRetry a) [F.AFE_FEED_STAT_STATE.addr a] := by
  have hregs := s.toTick_regs k
  have hwf : tableWf coldWord (s.toTick k).regs = true := hregs ▸ hs.regs
  have hretry : s.doFeedRetry a = ((s.toTick k).wr F.AFE_FEED_STAT_RETRY_LEFT a
      (s.rd F.AFE_FEED_STAT_RETRY_LEFT a - 1)).onFeed a fun _ => { soft := 10, retrying := true } := by
    simp only [State.doFeedRetry, hk, hst, hen, hfed, and_self, if_true]
  rw [hretry]
  refine ⟨State.feed_onFeed (by simpa using ha) _, ?_, fun b hb => (State.feed_onFeed_ne _ hb _).trans ?_, ?_⟩
  · have hlt : s.rd F.AFE_FEED_STAT_RETRY_LEFT a < 2 ^ 4 := getField_lt _ _ _
    exact (State.rd_wr hwf _ a _ (by decide)).trans (Nat.mod_eq_of_lt (Nat.lt_of_le_of_lt (Nat.sub_le _ _) hlt))
  · simp [State.feed]
  · exact (State.sameRegs_of_regs hregs _).trans (State.sameRegs_of_wr (f := F.AFE_FEED_STAT_RETRY_LEFT) hwf rfl)

/-! ### The supply of the feeds (R87, R94) -/

theorem State.Sound.report_only {s : State} (hs : s.Sound) (c l d : Nat) : s.report c l d =
    { s with free := (s.report c l d).free, regs := (s.report c l d).regs, fau := (s.report c l d).fau } :=
  (State.report_kept s c l d (hs.kept 518) rfl).eq_withParts

/-- The feeds without VFEED: each is off, and a sweep has stopped (R94, R95). -/
def Feeds.lost (x : Feeds) : Feeds :=
  { x with vfeedOk := false, sweep := none
           lastSkipped := (x.sweep.map fun w => w.skipped).getD x.lastSkipped
           lastStopped := x.sweep.isSome || x.lastStopped
           feeds := List.replicate 32 {} }

theorem State.doVfeedUnder_eq {s : State} (mv : Nat) (h : s.feeds.vfeedOk = true) :
    ∃ l, s.doVfeedUnder mv =
      (((s.wr F.PWR_AUX_VFEED_10MV 0 mv).onFeeds Feeds.lost).wr F.AFE_FEED_TP_BUSY 0 0).report 0x4504 l mv :=
  ⟨_, if_pos (show s.feeds.vfeedOk = true from h)⟩

/-- The loss of VFEED takes every feed's own state and the sweep; its report writes registers of FAU and PMC alone. -/
theorem State.Sound.doVfeedUnder_outcome {s : State} (hs : s.Sound) (mv : Nat) (h : s.feeds.vfeedOk = true) :
    (s.doVfeedUnder mv).feeds = s.feeds.lost ∧ s.sameMain (s.doVfeedUnder mv) [F.AFE_FEED_TP, F.PWR_AUX] := by
  obtain ⟨l, hl⟩ := State.doVfeedUnder_eq mv h
  have haux : Kept 32772 s ((s.wr F.PWR_AUX_VFEED_10MV 0 mv).onFeeds Feeds.lost) :=
    State.onFeeds_kept _ _ (State.wr_kept s _ 0 mv (hs.kept _) rfl) rfl
  have hbusy := State.wr_kept _ F.AFE_FEED_TP_BUSY 0 0 haux rfl
  rw [hl]
  constructor
  · rw [hbusy.sound.report_only]
    rfl
  · intro b _ hb hmem
    obtain ⟨htp, hpwr⟩ : b ∉ [F.AFE_FEED_TP] ∧ b ∉ [F.PWR_AUX] := by simpa using hmem
    calc _ = State.regGet (((s.wr F.PWR_AUX_VFEED_10MV 0 mv).onFeeds Feeds.lost).wr F.AFE_FEED_TP_BUSY 0 0) b :=
          ((LowKept.refl hbusy.regs).report _ _ _).low b hb
      _ = ((s.wr F.PWR_AUX_VFEED_10MV 0 mv).onFeeds Feeds.lost).regGet b := State.sameRegs_wr haux.regs _ _ _ b htp
      _ = s.regGet b := State.sameRegs_wr hs.regs F.PWR_AUX_VFEED_10MV 0 mv b hpwr

/-- A feed, switched on with a soft start if it is on. -/
def Feed.returned (x : Feed) (on : Bool) : Feed := if on then { x with soft := 10, retrying := false, trip := false } else x

/-- s with these feeds. -/
def State.putFeeds (s : State) (l : List Feed) : State := s.onFeeds fun x => { x with feeds := l }

/-- What VFEED's return does to feed a (R87). -/
def State.feedReturn (s : State) (a : Nat) : State := if s.feedEn a && s.feedFed a then s.feedSwitchOn a false else s

theorem State.feedReturn_eq (s : State) (a : Nat) :
    s.feedReturn a = s.putFeeds (s.feeds.feeds.modify a fun x => x.returned (s.feedEn a && s.feedFed a)) := by
  unfold State.feedReturn Feed.returned
  split
  · rfl
  · rw [show (fun x : Feed => x) = id from rfl, List.modify_id]
    rfl

theorem modify_mapIdx_returned (l : List Feed) (on : Nat → Bool) (n : Nat) :
    (l.mapIdx fun a x => x.returned (decide (a < n) && on a)).modify n (fun x => x.returned (on n)) =
      l.mapIdx fun a x => x.returned (decide (a < n + 1) && on a) := by
  refine List.ext_getElem? fun a => ?_
  rw [List.getElem?_modify, List.getElem?_mapIdx, List.getElem?_mapIdx]
  rcases l[a]? with _ | x
  · rfl
  · by_cases h : n = a
    · subst h
      simp [Feed.returned]
    · have hlt : a < n + 1 ↔ a < n := by omega
      simp only [h, hlt, if_false]
      rfl

/-- VFEED's return to the first n feeds. -/
theorem State.forEach_feedReturn (s : State) (n : Nat) : s.forEach (List.range n) State.feedReturn =
    s.putFeeds (s.feeds.feeds.mapIdx fun a x => x.returned (decide (a < n) && (s.feedEn a && s.feedFed a))) := by
  induction n with
  | zero =>
    rw [show (s.feeds.feeds.mapIdx fun a x => x.returned (decide (a < 0) && (s.feedEn a && s.feedFed a))) = s.feeds.feeds from
      List.ext_getElem? fun a => by simp [Feed.returned]]
    rfl
  | succ n ih =>
    calc s.forEach (List.range (n + 1)) State.feedReturn
        = (s.forEach (List.range n) State.feedReturn).feedReturn n := by
          simp only [State.forEach, List.range_succ, List.foldl_append, List.foldl_cons, List.foldl_nil]
      _ = s.putFeeds ((s.feeds.feeds.mapIdx fun a x => x.returned (decide (a < n) && (s.feedEn a && s.feedFed a))).modify n
            fun x => x.returned (s.feedEn n && s.feedFed n)) := by
          rw [ih, State.feedReturn_eq]
          rfl
      _ = _ := by rw [modify_mapIdx_returned]

theorem State.doVfeedRecover_eq {s : State} (mv : Nat) (h : s.feeds.vfeedOk = false) : s.doVfeedRecover mv =
    (((s.wr F.PWR_AUX_VFEED_10MV 0 mv).onFeeds fun x => { x with vfeedOk := true }).conditionOver 0x4504
      (s.wr F.PWR_AUX_VFEED_10MV 0 mv).locKeeper).forEach (List.range 32) State.feedReturn :=
  if_neg (show ¬ s.feeds.vfeedOk = true by simp [h])

/-- The return of VFEED gives each feed that is enabled and not shed a soft start (R87, R93). -/
theorem State.Sound.doVfeedRecover_outcome {s : State} (hs : s.Sound) (mv : Nat) (h : s.feeds.vfeedOk = false) :
    (s.doVfeedRecover mv).feeds.vfeedOk = true ∧
    (s.feeds.feeds.length = 32 → ∀ a < 32, (s.doVfeedRecover mv).feed a =
      if s.feedEn a = true ∧ s.feedsShed a = false then { s.feed a with soft := 10, retrying := false, trip := false }
      else s.feed a) ∧
    s.sameRegs (s.doVfeedRecover mv) [F.PWR_AUX] := by
  rw [State.doVfeedRecover_eq mv h, State.forEach_feedReturn]
  refine ⟨rfl, fun hlen a ha => ?_, State.sameRegs_of_wr (f := F.PWR_AUX_VFEED_10MV) (i := 0) (v := mv) hs.regs rfl⟩
  have hen : (s.wr F.PWR_AUX_VFEED_10MV 0 mv).feedEn a = s.feedEn a :=
    congrArg (·.testBit a) (State.rd_wr_ne hs.regs _ F.AFE_FEED_EN_EN 0 0 _ (.inl (by decide)))
  change (List.mapIdx (fun a x => x.returned (decide (a < 32) &&
    ((s.wr F.PWR_AUX_VFEED_10MV 0 mv).feedEn a && (true && !s.feedsShed a)))) s.feeds.feeds).getD a {} = _
  have hfeed : s.feeds.feeds[a]? = some (s.feed a) := by
    simp [State.feed, hlen, ha]
  rw [List.getD_eq_getElem?_getD, List.getElem?_mapIdx, hfeed]
  simp [Feed.returned, hen, ha]

/-! ### The start of a sweep (R91) -/

theorem State.startSweep_eq {s : State} (h : s.feeds.sweep = none) : s.startSweep = (s.wr F.AFE_FEED_TP_BUSY 0 1).onFeeds fun x =>
    { x with sweep := some {}, lastSweepTick := s.clk.tick } :=
  if_neg (by simp [h])

theorem State.startSweep_outcome {s : State} (hwf : tableWf coldWord s.regs = true) (h : s.feeds.sweep = none) :
    s.startSweep.feeds = { s.feeds with sweep := some {}, lastSweepTick := s.clk.tick } ∧
    s.startSweep.rdB F.AFE_FEED_TP_BUSY = true ∧ s.sameRegs s.startSweep [F.AFE_FEED_TP] := by
  rw [State.startSweep_eq h]
  refine ⟨rfl, ?_, State.sameRegs_of_wr (f := F.AFE_FEED_TP_BUSY) (i := 0) (v := 1) hwf rfl⟩
  exact beq_iff_eq.2 (State.rd_wr hwf F.AFE_FEED_TP_BUSY 0 1 (by decide))


/-- A write of SWEEP stores the word of its register and starts a sweep. -/
theorem State.hostBit_sweep (s : State) (p : Nat) : ∃ r w,
    s.hostBit p F.AFE_FEED_TP_SWEEP 0 = s.accepted p fun u => (u.store r F.AFE_FEED_TP w).startSweep := by
  obtain ⟨r, hr, hstore⟩ := s.portStore_feed p (a := F.AFE_FEED_TP) (by decide) (setField (s.shown F.AFE_FEED_TP) 1 1 1)
  have hwrite (u : State) := u.writeReg_feedTp hr p F.AFE_FEED_TP s.writeNs (testBit_setField_one (s.shown F.AFE_FEED_TP))
  exact ⟨r, _, hstore.trans (congrArg (s.accepted p) (funext hwrite))⟩

theorem State.Sound.hostBit_sweep_outcome {s : State} (hs : s.Sound) (p : Nat) (h : s.feeds.sweep = none) :
    (s.hostBit p F.AFE_FEED_TP_SWEEP 0).feeds = { s.feeds with sweep := some {}, lastSweepTick := s.clk.tick } ∧
    (s.hostBit p F.AFE_FEED_TP_SWEEP 0).rdB F.AFE_FEED_TP_BUSY = true ∧
    s.sameRegs (s.hostBit p F.AFE_FEED_TP_SWEEP 0) [F.AFE_FEED_TP] ∧
    s.hostBit p F.AFE_FEED_TP_SWEEP 0 = { s with
      free := s.free + 1, regs := (s.hostBit p F.AFE_FEED_TP_SWEEP 0).regs, ports := (s.hostBit p F.AFE_FEED_TP_SWEEP 0).ports
      feeds := (s.hostBit p F.AFE_FEED_TP_SWEEP 0).feeds } := by
  obtain ⟨r, w, hsweep⟩ := s.hostBit_sweep p
  have hwf : tableWf coldWord (State.store { s with free := s.free + 1 } r F.AFE_FEED_TP w).regs = true :=
    State.wf_regPut hs.regs _ _
  obtain ⟨hfeeds, hbusy, hregs⟩ := State.startSweep_outcome hwf h
  rw [hsweep]
  refine ⟨hfeeds, hbusy, (State.sameRegs_regPut hs.regs _ _).trans hregs, ?_⟩
  rw [State.accepted, State.startSweep_eq (by exact h)]
  rfl

theorem State.Sound.doFeedSweepPeriodic_outcome {s : State} (hs : s.Sound) (hper : s.rdB F.AFE_FEED_TP_PERIODIC = true)
    (h : s.feeds.sweep = none) :
    s.doFeedSweepPeriodic.feeds = { s.feeds with sweep := some {}, lastSweepTick := s.doFeedSweepPeriodic.clk.tick } ∧
    s.doFeedSweepPeriodic.rdB F.AFE_FEED_TP_BUSY = true ∧ s.sameRegs s.doFeedSweepPeriodic [F.AFE_FEED_TP] := by
  obtain ⟨u, hu, hregs, hfeeds⟩ : ∃ u : State, s.doFeedSweepPeriodic = u.startSweep ∧ u.regs = s.regs ∧
      u.feeds = { s.feeds with lastSweepTick := u.clk.tick } :=
    ⟨_, if_pos hper, s.toTick_regs _, by simp only [State.onFeeds_feeds, State.onFeeds_clk, State.toTick_feeds]⟩
  have hnone : u.feeds.sweep = none := by rw [hfeeds, h]
  obtain ⟨hstart, hbusy, hsame⟩ := State.startSweep_outcome (hregs ▸ hs.regs) hnone
  have hclk : u.startSweep.clk = u.clk := by
    rw [State.startSweep_eq hnone]
    rfl
  rw [hu]
  refine ⟨?_, hbusy, (State.sameRegs_of_regs hregs _).trans hsame⟩
  rw [hstart, hclk, hfeeds]

theorem State.Sound.doFeedSweepStartUp_outcome {s : State} (hs : s.Sound) (hstart : s.feeds.startSwept = false)
    (hsoft : ∀ x ∈ s.feeds.feeds, x.soft = 0) (hon : s.sns.on = true) (h : s.feeds.sweep = none) :
    s.doFeedSweepStartUp.feeds = { s.feeds with startSwept := true, sweep := some {}, lastSweepTick := s.clk.tick } ∧
    s.sameRegs s.doFeedSweepStartUp [F.AFE_FEED_TP] := by
  have hany : (s.feeds.feeds.any fun x => decide (0 < x.soft)) = false := by
    simp only [List.any_eq_false, decide_eq_true_eq]
    intro x hx
    simp [hsoft x hx]
  have hstep : s.doFeedSweepStartUp = (s.onFeeds fun x => { x with startSwept := true }).startSweep :=
    if_neg (by simp [hstart, hany, hon])
  obtain ⟨hfeeds, -, hregs⟩ :=
    State.startSweep_outcome (s := s.onFeeds fun x => { x with startSwept := true }) hs.regs h
  rw [hstep]
  exact ⟨hfeeds, hregs⟩

/-! ### The steps of a sweep (R91, R92) -/

theorem State.doFeedSweepEnd_eq {s : State} {w : Sweep} (hw : s.feeds.sweep = some w) (hp : w.pulse = none)
    (hdone : ∀ a < 32, w.next ≤ a → s.eligible a = false) : s.doFeedSweepEnd =
      (s.sweepTick w).closeSweep (w.skipped ++ (List.range 32).filter fun a => decide (w.next ≤ a)) false := by
  have hany : ((List.range 32).any fun a => decide (w.next ≤ a) && s.eligible a) = false := by
    simp only [List.any_eq_false, List.mem_range, Bool.and_eq_true, decide_eq_true_eq, not_and, Bool.not_eq_true]
    exact hdone
  simp only [State.doFeedSweepEnd, hw, hp, hany, Option.isSome_none, Bool.or_self, Bool.false_eq_true, if_false]

theorem State.Sound.doFeedSweepEnd_outcome {s : State} (hs : s.Sound) {w : Sweep} (hw : s.feeds.sweep = some w)
    (hp : w.pulse = none) (hdone : ∀ a < 32, w.next ≤ a → s.eligible a = false) :
    s.doFeedSweepEnd.feeds = { s.feeds with
      sweep := none, lastStopped := false, lastSkipped := w.skipped ++ (List.range 32).filter fun a => decide (w.next ≤ a) } ∧
    s.doFeedSweepEnd.rdB F.AFE_FEED_TP_BUSY = false ∧ s.sameRegs s.doFeedSweepEnd [F.AFE_FEED_TP] ∧
    s.doFeedSweepEnd.clk = (s.sweepTick w).clk := by
  have hregs := s.sweepTick_regs w
  have hwf : tableWf coldWord (s.sweepTick w).regs = true := hregs ▸ hs.regs
  rw [State.doFeedSweepEnd_eq hw hp hdone]
  refine ⟨?_, ?_, ?_, rfl⟩
  · simp only [State.closeSweep, State.wr_feeds, State.onFeeds_feeds, State.sweepTick_feeds]
  · rw [State.closeSweep, State.rdB, State.rd_wr (by exact hwf) _ _ _ (by decide)]
    rfl
  · exact (State.sameRegs_of_regs hregs _).trans (State.sameRegs_of_wr (f := F.AFE_FEED_TP_BUSY) (i := 0) (v := 0) hwf rfl)

theorem State.eligible_sweepTick (s : State) (w : Sweep) (a : Nat) : (s.sweepTick w).eligible a = s.eligible a := by
  rw [s.sweepTick_only w]
  rfl

theorem State.spans_mark {s : State} {ch : Nat} (h : ch < s.chans.length) (x : Span) : x ∈ ((s.mark ch x).chan ch).spans := by
  simp [State.chan, State.mark, State.onChan, List.getD_eq_getElem?_getD, h]

/-- A mark of one channel leaves what is marked. -/
theorem State.spans_mark_of_mem {s : State} {c : Nat} {x : Span} (ch : Nat) (y : Span) (h : x ∈ (s.chan c).spans) :
    x ∈ ((s.mark ch y).chan c).spans := by
  simp only [State.chan, State.mark, State.onChan, List.getD_eq_getElem?_getD, List.getElem?_modify] at h ⊢
  cases hc : s.chans[c]? with
  | none => simp [hc] at h
  | some z =>
    by_cases hch : ch = c
    · simp only [hc, hch, if_pos, Option.map_eq_map, Option.map_some, Option.getD_some] at h ⊢
      exact List.mem_cons_of_mem _ h
    · simpa [hc, hch] using h

/-- The window of the data that a pulse marks from count n on (R92). -/
def State.pulseSpan (s : State) : Span :=
  { kind := .pulse, a := s.clk.count, f := 0
    b := s.clk.count + ((rhe (s.clk.fs * 50) 1000000).toNat +
      (rhe (s.clk.fs * s.rd F.AFE_FEED_TP_RECOV_US) 1000000).toNat) - 1 }

/-- A sweep that pulses feed a at the state's count. -/
def State.pulseSweep (s : State) (w : Sweep) (a : Nat) (before : List Nat) : Sweep :=
  { w with next := a, tick := some s.clk.tick, pulse := some (a, s.clk.count), before := before
           skipped := w.skipped ++ (List.range 32).filter fun b => decide (w.next ≤ b ∧ b < a) }

theorem State.doFeedPulse_eq {s : State} {w : Sweep} {a : Nat} (before : List Nat) (hw : s.feeds.sweep = some w)
    (hp : w.pulse = none) (hswitch : ∀ x, s.plane.switch = some x → x.stage = 0)
    (ha : ((List.range 32).filter fun b => decide (w.next ≤ b)).find? (fun b => s.eligible b) = some a) :
    s.doFeedPulse before =
      (((s.sweepTick w).onFeeds fun x => { x with sweep := some ((s.sweepTick w).pulseSweep w a before) }).mark (2 * a)
        (s.sweepTick w).pulseSpan).mark (2 * a + 1) (s.sweepTick w).pulseSpan := by
  have hidle : (s.plane.switch.any fun x => x.stage != 0) = false := by
    cases hx : s.plane.switch with
    | none => rfl
    | some x => simp [hswitch x hx]
  simp only [State.doFeedPulse, hw, hp, hidle, State.eligible_sweepTick, ha, Option.isSome_none, Bool.or_self, Bool.false_eq_true,
    if_false]
  rfl

theorem State.Sound.doFeedPulse_outcome {s : State} (hs : s.Sound) {w : Sweep} {a : Nat} (before : List Nat)
    (hw : s.feeds.sweep = some w) (hp : w.pulse = none) (hswitch : ∀ x, s.plane.switch = some x → x.stage = 0)
    (ha : ((List.range 32).filter fun b => decide (w.next ≤ b)).find? (fun b => s.eligible b) = some a) :
    (s.doFeedPulse before).feeds = { s.feeds with sweep := some ((s.sweepTick w).pulseSweep w a before) } ∧
    (s.doFeedPulse before).clk = (s.sweepTick w).clk ∧
    ∀ c ∈ [2 * a, 2 * a + 1], (s.sweepTick w).pulseSpan ∈ ((s.doFeedPulse before).chan c).spans := by
  have hlt : a < 32 := List.mem_range.1 (List.mem_filter.1 (List.mem_of_find?_eq_some ha)).1
  have hchans : (s.sweepTick w).chans.length = 64 := by
    rw [s.sweepTick_only w]
    exact hs.chans
  rw [State.doFeedPulse_eq before hw hp hswitch ha]
  refine ⟨?_, rfl, fun c hc => ?_⟩
  · simp only [State.mark, State.onChan_feeds, State.onFeeds_feeds, State.sweepTick_feeds]
  · rcases List.mem_pair.1 hc with rfl | rfl
    · exact State.spans_mark_of_mem _ _ (State.spans_mark (by rw [State.onFeeds_chans, hchans]; omega) _)
    · exact State.spans_mark (by simp [State.mark, hchans]; omega) _

/-- A foldl that keeps its value or takes an element of the list ends with its first value or an element. -/
theorem foldl_eq_some_mem {α : Type} {f : Option α → α → Option α} (hf : ∀ o x, f o x = some x ∨ f o x = o) (l : List α)
    {o : Option α} {b : α} (h : l.foldl f o = some b) : o = some b ∨ b ∈ l := by
  induction l generalizing o with
  | nil => exact .inl h
  | cons x l ih =>
    rcases ih h with h' | h'
    · rcases hf o x with e | e
      · rw [e] at h'
        cases h'
        exact .inr List.mem_cons_self
      · exact .inl (e.symm.trans h')
    · exact .inr (List.mem_cons_of_mem _ h')

/-- The partner of a shorted feed is another feed (R91). -/
theorem partnerOf_ne {a b : Nat} {before now : List Nat} (h : partnerOf a before now = some b) : b ≠ a := by
  refine (foldl_eq_some_mem (fun o x => ?_) _ h).elim (fun h => by cases h) fun h => ?_
  · cases o with
    | none => exact .inl rfl
    | some c =>
      dsimp only
      split
      · exact .inl rfl
      · exact .inr rfl
  · simp only [List.mem_filter, Bool.and_eq_true, bne_iff_ne] at h
    exact h.2.1

/-- The end of a pulse on feed a, for a itself: its partner is shown, the sweep moves on, and the feed switches on with what was
found (R87, R91). -/
def State.pulseOver (s : State) (w : Sweep) (a : Nat) (high : Bool) (partner : Option Nat) : State :=
  ((((s.wr F.AFE_FEED_STAT_PARTNER a (partner.getD 0)).wrB F.AFE_FEED_STAT_PARTNER_VALID a partner.isSome).onFeeds fun x =>
    { x with sweep := some { w with pulse := none, next := a + 1 } }).feedSwitchOn a false).onFeed a fun x =>
      { x with short := if high then some (feedDetail a partner) else none, clear := !high }

theorem State.doFeedPulseEnd_eq {s : State} {w : Sweep} {a n : Nat} (high : Bool) (now : List Nat) (hw : s.feeds.sweep = some w)
    (hp : w.pulse = some (a, n)) : ∃ m partner, s.doFeedPulseEnd high now = (s.toCount m).pulseOver w a high partner ∨
      ∃ b f, b ≠ a ∧ s.doFeedPulseEnd high now = ((s.toCount m).pulseOver w a high partner).onFeed b f := by
  refine ⟨n + (rhe (s.clk.fs * 50) 1000000).toNat, if high then partnerOf a w.before now else none, ?_⟩
  simp only [State.doFeedPulseEnd, hw, hp]
  generalize hpart : (if high = true then partnerOf a w.before now else none) = partner
  cases partner with
  | none => exact .inl rfl
  | some b =>
    refine .inr ⟨b, _, ?_, rfl⟩
    split at hpart
    · exact partnerOf_ne hpart
    · cases hpart

section
variable {s : State} (w : Sweep) (a : Nat) (high : Bool) (partner : Option Nat)

theorem State.pulseOver_feed (h : a < s.feeds.feeds.length) : ((s.pulseOver w a high partner).feed a).soft = 10 ∧
    ((s.pulseOver w a high partner).feed a).short.isSome = high ∧ ((s.pulseOver w a high partner).feed a).clear = !high := by
  rw [State.pulseOver, State.feed_onFeed (by simpa [State.feedSwitchOn, State.feeds_length_onFeed] using h)]
  refine ⟨congrArg Feed.soft (State.feed_onFeed (by simpa using h) _), ?_, rfl⟩
  cases high <;> rfl

theorem State.pulseOver_sameRegs (h : tableWf coldWord s.regs = true) :
    s.sameRegs (s.pulseOver w a high partner) [F.AFE_FEED_STAT_STATE.addr a] :=
  (State.sameRegs_wr h F.AFE_FEED_STAT_PARTNER a (partner.getD 0)).trans
    (State.sameRegs_of_wr (f := F.AFE_FEED_STAT_PARTNER_VALID) (i := a) (v := partner.isSome.toNat) (State.wf_wr h _ _ _) rfl)

end

theorem State.Sound.doFeedPulseEnd_outcome {s : State} (hs : s.Sound) {w : Sweep} {a n : Nat} (high : Bool) (now : List Nat)
    (hw : s.feeds.sweep = some w) (hp : w.pulse = some (a, n)) :
    (s.doFeedPulseEnd high now).feeds.sweep = some { w with pulse := none, next := a + 1 } ∧
    (a < s.feeds.feeds.length → ((s.doFeedPulseEnd high now).feed a).soft = 10 ∧
      ((s.doFeedPulseEnd high now).feed a).short.isSome = high ∧ ((s.doFeedPulseEnd high now).feed a).clear = !high) ∧
    s.sameRegs (s.doFeedPulseEnd high now) [F.AFE_FEED_STAT_STATE.addr a] := by
  obtain ⟨m, partner, hend⟩ := State.doFeedPulseEnd_eq high now hw hp
  have hregs := (State.sameRegs_of_regs (s.toCount_regs m) _).trans
    (State.pulseOver_sameRegs w a high partner (s.toCount_regs m ▸ hs.regs))
  have hfeed (h : a < s.feeds.feeds.length) :=
    State.pulseOver_feed (s := s.toCount m) w a high partner (by rwa [State.toCount_feeds])
  rcases hend with hend | ⟨b, f, hb, hend⟩
  · rw [hend]
    exact ⟨rfl, hfeed, hregs⟩
  · rw [hend]
    refine ⟨rfl, fun h => ?_, hregs.trans (State.sameRegs_of_regs rfl _)⟩
    rw [State.feed_onFeed_ne _ hb.symm]
    exact hfeed h

/-! ### The commands -/

theorem State.Awake.exec_feedEnWrite {s : State} (hs : s.Awake) (p : Fin 10) (w : Word) : exec (.feedEnWrite p w) s =
    .next (s.accepted p fun u => u.doFeedEnWrite w) := by
  obtain ⟨r, hr, hstore⟩ := s.portStore_feed p (a := F.AFE_FEED_EN) (by decide) w
  rw [← funext fun u : State => u.writeReg_feedEn hr p F.AFE_FEED_EN w s.writeNs, ← hstore]
  exact hs.next_keeperDo fun s => s.hostWrite p F.AFE_FEED_EN w

end Sys2Proof.Machine

open Sys2Proof Sys2Proof.Machine

/-- Settles O11, clause by clause: what a command leaves follows from its footprint (Kept.eq_withParts), what it does from the
equation of its operation. -/
theorem feeds : Obligations.Feeds := by
  intro s hs
  refine ⟨fun p w => ?_, fun cs o l b => hs.next_keeperDo fun s => s.doFeedTick cs o.toNat l.toNat b.toNat,
    fun a c o l b u hu => ?_, fun a hen hfed htrip hon => ?_, fun a k hk hst hen hfed hlen => ?_,
    fun mv hv => ?_, fun mv hv => ?_, fun p hsweep => ?_, fun hper hsweep => ?_, fun hstart hsoft hon hsweep => ?_,
    fun w a before hw hp hswitch ha => ?_, fun w a n high now hw hp => ?_, fun w hw hp hdone => ?_⟩
  · rw [hs.exec_feedEnWrite]
    simp only [State.accepted, State.doFeedEnWrite, beq_iff_eq]
    rfl
  · subst hu
    have hwf := hs.sound.regs
    refine ⟨State.feedTick_noSupply c o l b, State.feedTick_shed c o l b, State.feedTick_disabled c o l b hwf,
      fun hfed hen htrip hst => State.feedTick_tripped c o l b hwf hfed hen hst hs.sound htrip,
      fun hfed hen htrip hst => ⟨fun d => State.feedTick_shorted c o l b hwf hfed hen hst htrip, ?_, ?_⟩⟩
    · rintro hshort hopen rfl
      exact State.feedTick_drawing c o l hwf hfed hen htrip hshort hopen
    · rintro hshort hon rfl
      exact State.feedTick_opened c l b hwf hfed hen htrip hshort hon
  · rw [← State.doFeedTrip_trips hen hfed htrip hon]
    exact hs.next_keeperDo fun s => s.doFeedTrip a
  · obtain ⟨hfeed, hleft, hothers, hregs⟩ := hs.sound.doFeedRetry_outcome (by omega) hk hst hen hfed
    exact ⟨_, hs.next_keeperDo fun s => s.doFeedRetry a, hfeed, hleft, fun b hb => hothers b (Fin.val_ne_of_ne hb), hregs,
      (State.doFeedRetry_kept s a (hs.sound.kept 32788) rfl).eq_withParts⟩
  · obtain ⟨hfeeds, hregs⟩ := hs.sound.doVfeedUnder_outcome mv hv
    exact ⟨_, hs.next_keeperDo fun s => s.doVfeedUnder mv, congrArg Feeds.vfeedOk hfeeds,
      congrArg Feeds.sweep hfeeds, congrArg Feeds.feeds hfeeds, hregs,
      (State.doVfeedUnder_kept s mv (hs.sound.kept 33286) rfl).eq_withParts⟩
  · obtain ⟨hok, hfeed, hregs⟩ := hs.sound.doVfeedRecover_outcome mv hv
    exact ⟨_, hs.next_keeperDo fun s => s.doVfeedRecover mv, hok, fun hlen a => hfeed hlen a a.isLt, hregs,
      (State.doVfeedRecover_kept s mv (hs.sound.kept 33284) rfl).eq_withParts⟩
  · exact ⟨_, hs.next_keeperDo fun s => s.hostBit p F.AFE_FEED_TP_SWEEP 0, hs.sound.hostBit_sweep_outcome p hsweep⟩
  · obtain ⟨hfeeds, hbusy, hregs⟩ := hs.sound.doFeedSweepPeriodic_outcome hper hsweep
    exact ⟨_, hs.next_keeperDo State.doFeedSweepPeriodic, hfeeds, hbusy, hregs,
      (State.doFeedSweepPeriodic_kept s (hs.sound.kept 32788) rfl).eq_withParts⟩
  · obtain ⟨hfeeds, hregs⟩ := hs.sound.doFeedSweepStartUp_outcome hstart hsoft hon hsweep
    exact ⟨_, hs.next_keeperDo State.doFeedSweepStartUp, hfeeds, hregs,
      (State.doFeedSweepStartUp_kept s (hs.sound.kept 32772) rfl).eq_withParts⟩
  · obtain ⟨hfeeds, hclk, hspans⟩ := hs.sound.doFeedPulse_outcome before hw hp hswitch ha
    refine ⟨_, _, hs.next_keeperDo fun s => s.doFeedPulse before, hfeeds, ?_, rfl, ?_, fun c hc => ⟨_, hspans c hc, rfl, ?_⟩, ?_⟩
    · rw [hclk]; rfl
    · rw [hclk]; rfl
    · rw [hclk]; rfl
    · rw [← hclk]
      exact (State.doFeedPulse_kept s before (hs.sound.kept 49168) rfl).eq_withParts
  · obtain ⟨hsweep, hfeed, hregs⟩ := hs.sound.doFeedPulseEnd_outcome high now hw hp
    exact ⟨_, _, hs.next_keeperDo fun s => s.doFeedPulseEnd high now, hsweep, rfl, rfl, fun ha hlen => hfeed (by omega), hregs,
      (State.doFeedPulseEnd_kept s high now (hs.sound.kept 32788) rfl).eq_withParts⟩
  · obtain ⟨hfeeds, hbusy, hregs, hclk⟩ := hs.sound.doFeedSweepEnd_outcome hw hp hdone
    refine ⟨_, hs.next_keeperDo State.doFeedSweepEnd, hfeeds, hbusy, hregs, ?_⟩
    rw [← hclk]
    exact (State.doFeedSweepEnd_kept s (hs.sound.kept 32788) rfl).eq_withParts

end

section
/-! SUPPORT. Skew correction and notches (R126 to R132): the counts at which changes take effect, the writes of FLT_SKEW, FLT_NOTCH
and FLT_NOTCH_BW, and what a channel holds when a change has taken effect. -/

namespace Sys2Proof.Machine

/-! ### Boundaries of changes (R128) -/

theorem nextMultiple_mod (m x : Nat) : nextMultiple m x % m = 0 := Nat.mul_mod_left _ _

theorem le_nextMultiple {m : Nat} (hm : 0 < m) (x : Nat) : x ≤ nextMultiple m x := by
  have hdiv := Nat.div_add_mod (x + m - 1) m
  have hmod := Nat.mod_lt (x + m - 1) hm
  rw [nextMultiple, ceilDiv, Nat.mul_comm]
  omega

/-- A boundary that moves clear of the windows stays a multiple of 64 and is no earlier (R128). -/
theorem State.boundary_clearOfInject (s : State) (ch : Nat) {n k : Nat} (hk : k % 64 = 0 ∧ n ≤ k) :
    s.clearOfInject ch k % 64 = 0 ∧ n ≤ s.clearOfInject ch k := by
  unfold State.clearOfInject
  induction injWindows (s.adc.inj.getD (ch / 4) []) generalizing k with
  | nil => exact hk
  | cons w ws ih =>
    refine ih ?_
    dsimp only
    split
    · next hin =>
      obtain ⟨-, hw⟩ := Bool.and_eq_true_iff.1 hin
      have hend := le_nextMultiple (m := 64) (by omega) w.2.2
      exact ⟨nextMultiple_mod 64 _, by have := of_decide_eq_true hw; omega⟩
    · exact hk

/-- N_k of a write is a multiple of 64 at least 32 samples later (R128). -/
theorem State.boundary_of_write (s : State) (ch ns : Nat) : s.clearOfInject ch (boundaryAfter 64 (s.reach ns)) % 64 = 0 ∧
    s.clk.count + 32 ≤ s.clearOfInject ch (boundaryAfter 64 (s.reach ns)) := by
  refine s.boundary_clearOfInject ch ⟨nextMultiple_mod 64 _, ?_⟩
  have hnext := le_nextMultiple (m := 64) (by omega) (s.reach ns + 32)
  unfold boundaryAfter
  unfold State.reach at hnext ⊢
  omega

/-! ### Time passes until a count -/

@[simp] theorem State.toCount_chans (s : State) (n : Nat) : (s.toCount n).chans = s.chans := by
  rw [s.toCount_only n]

@[simp] theorem State.toCount_fs (s : State) (n : Nat) : (s.toCount n).clk.fs = s.clk.fs := by
  unfold State.toCount
  split <;> rfl

@[simp] theorem State.toCount_fsCfg (s : State) (n : Nat) : (s.toCount n).clk.fsCfg = s.clk.fsCfg := by
  unfold State.toCount
  split <;> rfl

theorem State.toCount_count {s : State} (h : s.clk.running = true) (n : Nat) :
    (s.toCount n).clk.count = max s.clk.count n := by
  simp only [State.toCount, State.pass, h, if_true]
  omega

theorem State.Sound.toCount {s : State} (hs : s.Sound) (n : Nat) : (s.toCount n).Sound :=
  (State.toCount_kept s n (hs.kept 16) rfl).sound

/-! ### Channels -/

theorem State.chan_onChan {s : State} {ch : Nat} (h : ch < s.chans.length) (f : Chan → Chan) :
    (s.onChan ch f).chan ch = f (s.chan ch) := by
  simp [State.chan, State.onChan, List.getD_eq_getElem?_getD, h]

@[simp] theorem State.length_chans_onChan (s : State) (ch : Nat) (f : Chan → Chan) :
    (s.onChan ch f).chans.length = s.chans.length := by
  simp [State.onChan]

theorem State.chan_of_chans {s t : State} (h : t.chans = s.chans) (ch : Nat) : t.chan ch = s.chan ch := by
  rw [State.chan, State.chan, h]

/-! ### Fields read after writes -/

theorem State.rd_of_regs {s t : State} (h : t.regs = s.regs) (f : Fld) (i : Nat) : t.rd f i = s.rd f i := by
  rw [State.rd, State.rd, State.regGet, State.regGet, h]

theorem State.rd_of_regGet {s t : State} {f : Fld} {i : Nat} (h : t.regGet (f.addr i) = s.regGet (f.addr i)) :
    t.rd f i = s.rd f i := by
  rw [State.rd, State.rd, h]

/-- Two's complement gives back a value that the width holds. -/
theorem signed_wrapBits {k : Nat} {v : Int} (hlo : -2 ^ k ≤ v) (hhi : v < 2 ^ k) :
    signed (k + 1) (wrapBits (k + 1) v) = v := by
  have hcast : ((2 ^ (k + 1) : Nat) : Int) = 2 * 2 ^ k := by push_cast; ring
  have hwrap : v % ((2 ^ (k + 1) : Nat) : Int) = if v < 0 then v + 2 * 2 ^ k else v := by
    rw [hcast]
    split
    · rw [← Int.add_emod_right, Int.emod_eq_of_lt (by omega) (by omega)]
    · exact Int.emod_eq_of_lt (by omega) (by omega)
  have hpos : (0 : Int) < 2 ^ k := by positivity
  have hnat : ((2 ^ k : Nat) : Int) = 2 ^ k := by push_cast; rfl
  have hmod : wrapBits (k + 1) v % 2 ^ (k + 1) = wrapBits (k + 1) v := Nat.mod_eq_of_lt (by
    rw [wrapBits, hwrap]
    split <;> omega)
  rw [signed, hmod, Nat.add_sub_cancel, wrapBits, hwrap]
  split <;> split <;> omega

theorem clampInt_bounds {lo hi : Int} (h : lo ≤ hi) (x : Int) : lo ≤ clampInt lo hi x ∧ clampInt lo hi x ≤ hi := by
  unfold clampInt
  omega

theorem clampNat_bounds {lo hi : Nat} (h : lo ≤ hi) (x : Nat) : lo ≤ clampNat lo hi x ∧ clampNat lo hi x ≤ hi := by
  unfold clampNat
  omega

section
variable {s : State} (h : tableWf coldWord s.regs = true) (f : Fld) (i : Nat)
include h

/-- A signed field reads as it is written when its width holds the value. -/
theorem State.rdS_wrS (hf : f.lo + f.width ≤ 32) {k : Nat} (hwidth : f.width = k + 1) {v : Int} (hlo : -2 ^ k ≤ v)
    (hhi : v < 2 ^ k) : (s.wrS f i v).rdS f i = v := by
  have hsmall : wrapBits f.width v < 2 ^ f.width := by
    have := Int.emod_lt_of_pos v (b := (2 ^ f.width : Nat)) (by positivity)
    have := Int.emod_nonneg v (b := (2 ^ f.width : Nat)) (by positivity)
    unfold wrapBits
    omega
  rw [State.rdS, State.wrS, State.rd_wr h f i _ hf, Nat.mod_eq_of_lt hsmall, hwidth, signed_wrapBits hlo hhi]

/-- A field of one bit reads as it is written. -/
theorem State.rdB_wrB (hf : f.lo + f.width ≤ 32) (hwidth : f.width = 1) (b : Bool) : (s.wrB f i b).rdB f i = b := by
  rw [State.rdB, State.wrB, State.rd_wr h f i _ hf, hwidth]
  cases b <;> rfl

end

/-! ### Writes of the filters' registers (R13, R146) -/

theorem regTable_stride_pos : ∀ r ∈ regTable, 0 < r.stride := by decide +kernel

/-- The register arrays of skew and notches: base, stride and number of registers (R146). -/
def filterArrays : List (Nat × Nat × Nat) := [(F.FLT_SKEW, 4, 64), (F.FLT_NOTCH, 8, 512), (F.FLT_NOTCH_BW, 8, 512)]

/-- Each is a row of the register table without gaps. -/
theorem filterArrays_rows : ∀ x ∈ filterArrays, ∃ r ∈ regTable, r.base = x.1 ∧ r.stride = x.2.1 ∧ r.count = x.2.2 ∧
    r.group = 1 ∧ r.used = 1 := by decide +kernel

/-- Any other row ends before the array, begins after it, or alternates with it; the row itself has no field that COMMIT
locks. -/
theorem filterArrays_apart : ∀ x ∈ filterArrays, ∀ r ∈ regTable,
    r.base + r.stride * r.count ≤ x.1 ∨ x.1 + x.2.1 * x.2.2 ≤ r.base ∨ (r.stride = x.2.1 ∧ r.base % x.2.1 ≠ x.1 % x.2.1) ∨
      (r.base = x.1 ∧ r.stride = x.2.1 ∧ ∀ f ∈ r.fields, f.acc ≠ .rwl) := by decide +kernel

/-- Their registers are words of the block FLT. -/
theorem filterArrays_place : ∀ x ∈ filterArrays, 0 < x.2.1 ∧ x.1 % 4 = 0 ∧ x.2.1 % 4 = 0 ∧ 0xC0000 ≤ x.1 ∧
    x.1 + x.2.1 * x.2.2 ≤ 0x100000 := by decide

section
variable {b d k i : Nat} (hx : (b, d, k) ∈ filterArrays) (hi : i < k)
include hx hi

/-- Register i of one of the arrays is found in the array's own row (R455). -/
theorem regAt_filter : ∃ r : RegDef, regAt (b + d * i) = some r ∧ r.base = b ∧ r.stride = d ∧
    ∀ f ∈ r.fields, f.acc ≠ .rwl := by
  obtain ⟨hpos, -⟩ := filterArrays_place _ hx
  obtain ⟨q, hq, hbase, hstride, hcount, hgroup, hused⟩ := filterArrays_rows _ hx
  have hholds : q.holds (b + d * i) = true := by
    simp [RegDef.holds, hbase, hstride, hcount, hgroup, hused, Nat.mul_div_cancel_left i hpos, hi, Nat.mod_one]
  have hfound := (List.find?_isSome (p := fun r : RegDef => r.holds (b + d * i))).2 ⟨q, hq, hholds⟩
  obtain ⟨r, hr⟩ := Option.isSome_iff_exists.1 hfound
  obtain ⟨hle, hmod, hlt⟩ := addr_range_of_regAt hr
  refine ⟨r, hr, ?_⟩
  have hend : d * i < d * k := Nat.mul_lt_mul_of_pos_left hi hpos
  rcases filterArrays_apart _ hx r (mem_regTable_of_regAt hr) with hbefore | hafter | ⟨hstep, hoff⟩ | hself
  · have hin := (Nat.div_lt_iff_lt_mul (regTable_stride_pos r (mem_regTable_of_regAt hr))).1 hlt
    exact absurd hin (by rw [Nat.mul_comm r.count]; dsimp only at hbefore; omega)
  · exact absurd hafter (by dsimp only; omega)
  · have hsame : r.base ≡ b + d * i [MOD d] := (Nat.modEq_iff_dvd' hle).2 (Nat.dvd_of_mod_eq_zero (by rwa [hstep] at hmod))
    exact absurd (hsame.trans (Nat.add_mul_mod_self_left b d i)) hoff
  · exact hself

end

theorem not_changesLocked {r : RegDef} (h : ∀ f ∈ r.fields, f.acc ≠ .rwl) (old w : Word) : changesLocked r old w = false := by
  simp only [changesLocked, List.any_eq_false]
  intro f hf
  simp [h f hf]

/-- A write of one of them is taken. -/
theorem State.Working.portStore_filter {s : State} (hs : s.Working) (p : Nat) {b d k i : Nat} (hx : (b, d, k) ∈ filterArrays)
    (hi : i < k) (w : Word) : ∃ r : RegDef, r.base = b ∧ r.stride = d ∧
      s.portStore p (b + d * i) w = s.accepted p fun u => u.writeReg r p (b + d * i) w s.writeNs := by
  obtain ⟨r, hr, hbase, hstride, hrwl⟩ := regAt_filter hx hi
  obtain ⟨hpos, hb4, hd4, hlo, hhi⟩ := filterArrays_place _ hx
  have hat : b + d * i < 0x100000 := Nat.lt_of_lt_of_le (Nat.add_lt_add_left (Nat.mul_lt_mul_of_pos_left hi hpos) b) hhi
  have h4 : (b + d * i) % 4 = 0 := by
    rw [Nat.add_mod, Nat.mul_mod, hd4, Nat.zero_mul, hb4]
  have hwin : (inCells (b + d * i) || inRingWindow (b + d * i)) = false := by
    simp only [inCells, inRingWindow, Bool.or_eq_false_iff, decide_eq_false_iff_not]
    omega
  exact ⟨r, hbase, hstride, State.portStore_taken hwin h4 hr (.inl (by omega)) (.inr hs.cx) (.inr (not_changesLocked hrwl _ w))⟩

section
variable (s : State) {r : RegDef} (p i : Nat) (w : Word) (ns : Nat)

theorem State.writeReg_skew (hb : r.base = F.FLT_SKEW) (hd : r.stride = 4) :
    s.writeReg r p (F.FLT_SKEW + 4 * i) w ns = s.doSkewWrite i w ns := by
  have hi : (F.FLT_SKEW + 4 * i - F.FLT_SKEW) / 4 = i := by omega
  rw [State.writeReg, State.writeMgt, State.writeFront, hb, hd, hi]
  rfl

theorem State.writeReg_notch (hb : r.base = F.FLT_NOTCH) (hd : r.stride = 8) :
    s.writeReg r p (F.FLT_NOTCH + 8 * i) w ns = s.doNotchWrite i w ns := by
  have hi : (F.FLT_NOTCH + 8 * i - F.FLT_NOTCH) / 8 = i := by omega
  rw [State.writeReg, State.writeMgt, State.writeFront, hb, hd, hi]
  rfl

theorem State.writeReg_notchBw (hb : r.base = F.FLT_NOTCH_BW) (hd : r.stride = 8) :
    s.writeReg r p (F.FLT_NOTCH_BW + 8 * i) w ns = s.doNotchBwWrite i w ns := by
  have hi : (F.FLT_NOTCH_BW + 8 * i - F.FLT_NOTCH_BW) / 8 = i := by omega
  rw [State.writeReg, State.writeMgt, State.writeFront, hb, hd, hi]
  rfl

end

section
variable {s : State} (hs : s.Working) (p : Fin 10) (w : Word)
include hs

theorem State.Working.exec_skewWrite (ch : Fin 64) :
    exec (.skewWrite p ch w) s = .next (s.accepted p fun u => u.doSkewWrite ch w s.writeNs) := by
  obtain ⟨r, hb, hd, hstore⟩ := hs.portStore_filter p (b := F.FLT_SKEW) (d := 4) (by decide) ch.isLt w
  rw [← funext fun u : State => u.writeReg_skew p ch w s.writeNs hb hd, ← hstore]
  exact hs.awake.next_keeperDo fun s => s.hostWrite p (F.FLT_SKEW + 4 * ch) w

theorem State.Working.exec_notchWrite (j : Fin 512) :
    exec (.notchWrite p j w) s = .next (s.accepted p fun u => u.doNotchWrite j w s.writeNs) := by
  obtain ⟨r, hb, hd, hstore⟩ := hs.portStore_filter p (b := F.FLT_NOTCH) (d := 8) (by decide) j.isLt w
  rw [← funext fun u : State => u.writeReg_notch p j w s.writeNs hb hd, ← hstore]
  exact hs.awake.next_keeperDo fun s => s.hostWrite p (F.FLT_NOTCH + 8 * j) w

theorem State.Working.exec_notchBwWrite (j : Fin 512) :
    exec (.notchBwWrite p j w) s = .next (s.accepted p fun u => u.doNotchBwWrite j w s.writeNs) := by
  obtain ⟨r, hb, hd, hstore⟩ := hs.portStore_filter p (b := F.FLT_NOTCH_BW) (d := 8) (by decide) j.isLt w
  rw [← funext fun u : State => u.writeReg_notchBw p j w s.writeNs hb hd, ← hstore]
  exact hs.awake.next_keeperDo fun s => s.hostWrite p (F.FLT_NOTCH_BW + 8 * j) w

end

/-- A command of CX acts where the keeper and CX run. -/
theorem State.Working.next_cxDo {s : State} (h : s.Working) (f : State → State) :
    (Host.Outcome.next (s.cxDo f) : Host.Outcome State Fault Refusal) = .next (f s) := by
  rw [h.cxDo]

theorem State.Sound.drawFree {s : State} (hs : s.Sound) : State.Sound { s with free := s.free + 1 } := { hs with }

/-- A write whose effect reaches registers and channels alone leaves the rest but its port and the free value (R77, R335). -/
theorem State.accepted_eq {s : State} {p : Nat} {f : State → State}
    (h : Kept 16420 { s with free := s.free + 1 } (f { s with free := s.free + 1 })) :
    s.accepted p f = { s with
      free := s.free + 1, regs := (s.accepted p f).regs, ports := (s.accepted p f).ports, chans := (s.accepted p f).chans } :=
  (State.onPort_kept _ p (fun x => { x with status := accDone }) h rfl).eq_withParts

/-! ### Skew (R126, R128) -/

theorem State.doSkewWrite_regs (s : State) (ch : Nat) (w : Word) (ns : Nat) : (s.doSkewWrite ch w ns).regs =
    ((s.wrS F.FLT_SKEW_SKEW ch (clampInt (-4096) 4096 (signed 14 w.toNat))).wr F.FLT_SKEW_PENDING ch 1).regs := by
  unfold State.doSkewWrite
  dsimp only
  split <;> rfl

theorem State.doSkewWrite_chans {s : State} {ch : Nat} (w : Word) (ns : Nat)
    (h : (s.chan ch).skewAt ≠ none ∨ (s.chan ch).since = none) : (s.doSkewWrite ch w ns).chans = s.chans := by
  have hc : ((s.chan ch).skewAt.isSome || (s.chan ch).since.isNone) = true := by
    simpa [Option.isSome_iff_ne_none] using h
  change State.chans (if ((s.chan ch).skewAt.isSome || (s.chan ch).since.isNone) = true then _ else _) = _
  rw [if_pos hc]
  rfl

theorem State.doSkewWrite_skewAt {s : State} {ch : Nat} (hch : ch < s.chans.length) (w : Word) (ns : Nat)
    (hidle : (s.chan ch).skewAt = none) (hsince : (s.chan ch).since ≠ none) :
    ∃ n, ((s.doSkewWrite ch w ns).chan ch).skewAt = some n ∧ n % 64 = 0 ∧ s.clk.count + 32 ≤ n := by
  have hc : ¬ ((s.chan ch).skewAt.isSome || (s.chan ch).since.isNone) = true := by
    simpa [hidle] using hsince
  refine ⟨s.clearOfInject ch (boundaryAfter 64 (s.reach ns)), ?_, s.boundary_of_write ch ns⟩
  change (State.chan (if ((s.chan ch).skewAt.isSome || (s.chan ch).since.isNone) = true then _ else _) ch).skewAt = _
  rw [if_neg hc, State.chan_onChan (by exact hch)]
  rfl

/-- A write of FLT_SKEW: the value held, PENDING, and the other registers (R126, R128). -/
theorem State.doSkewWrite_fields {s : State} (h : tableWf coldWord s.regs = true) (ch : Nat) (w : Word) (ns : Nat) :
    (s.doSkewWrite ch w ns).rdS F.FLT_SKEW_SKEW ch = clampInt (-4096) 4096 (signed 14 w.toNat) ∧
    (s.doSkewWrite ch w ns).rdB F.FLT_SKEW_PENDING ch = true ∧
    s.sameRegs (s.doSkewWrite ch w ns) [F.FLT_SKEW_SKEW.addr ch] := by
  obtain ⟨hlo, hhi⟩ := clampInt_bounds (lo := -4096) (hi := 4096) (by decide) (signed 14 w.toNat)
  have hregs := s.doSkewWrite_regs ch w ns
  have hwf : tableWf coldWord (s.wrS F.FLT_SKEW_SKEW ch (clampInt (-4096) 4096 (signed 14 w.toNat))).regs = true :=
    State.wf_wr h _ _ _
  refine ⟨?_, ?_, ?_⟩
  · rw [State.rdS, State.rd_of_regs hregs, State.rd_wr_ne hwf _ _ _ _ _ (.inr (by decide))]
    exact State.rdS_wrS h F.FLT_SKEW_SKEW ch (by decide) (k := 13) rfl (by omega) (by omega)
  · rw [State.rdB, State.rd_of_regs hregs, State.rd_wr hwf _ _ _ (by decide)]
    rfl
  · exact (State.sameRegs_wr h _ _ _).trans (State.sameRegs_of_wr (f := F.FLT_SKEW_PENDING) (i := ch) hwf hregs)

/-- The state in which formSkew writes: s, with a configuration fault when SAT becomes 1 (R126). -/
def State.skewReported (s : State) (ch : Nat) : State :=
  if decide (s.skewHost ch + (s.chan ch).phase < -4096 ∨ 4096 < s.skewHost ch + (s.chan ch).phase) &&
      !s.rdB F.FLT_SKEW_EFF_SAT ch then
    s.configFault (s.locUnit ch) (F.FLT_SKEW + 4 * ch)
  else s

theorem State.skewReported_low {s : State} (h : tableWf coldWord s.regs = true) (ch : Nat) : LowKept s (s.skewReported ch) := by
  unfold State.skewReported
  split
  · exact (LowKept.refl h).report _ _ _
  · exact LowKept.refl h

theorem State.Sound.skewReported_chans {s : State} (hs : s.Sound) (ch : Nat) : (s.skewReported ch).chans = s.chans := by
  unfold State.skewReported
  split
  · have hfault := congrArg State.chans
      (State.configFault_kept s (s.locUnit ch) (F.FLT_SKEW + 4 * ch) (hs.kept 518) rfl).eq_withParts
    exact hfault
  · rfl

theorem State.formSkew_regs (s : State) (ch n : Nat) : ∃ sat, (s.formSkew ch n).regs =
    (((s.skewReported ch).wrS F.FLT_SKEW_EFF_EFF ch
      (clampInt (-4096) 4096 (s.skewHost ch + (s.chan ch).phase))).wrB F.FLT_SKEW_EFF_SAT ch sat).regs := by
  refine ⟨decide (s.skewHost ch + (s.chan ch).phase < -4096 ∨ 4096 < s.skewHost ch + (s.chan ch).phase), ?_⟩
  unfold State.formSkew
  dsimp only
  split <;> rfl

/-- The effective skew is held within ±4096, and no other register outside FAU and PMC moves (R126). -/
theorem State.formSkew_fields {s : State} (h : tableWf coldWord s.regs = true) (ch n : Nat) :
    (s.formSkew ch n).rdS F.FLT_SKEW_EFF_EFF ch = clampInt (-4096) 4096 (s.skewHost ch + (s.chan ch).phase) ∧
    s.sameMain (s.formSkew ch n) [F.FLT_SKEW_EFF_EFF.addr ch] := by
  obtain ⟨sat, hregs⟩ := s.formSkew_regs ch n
  obtain ⟨hwf, hlow⟩ := State.skewReported_low h ch
  obtain ⟨hlo, hhi⟩ := clampInt_bounds (lo := -4096) (hi := 4096) (by decide) (s.skewHost ch + (s.chan ch).phase)
  generalize clampInt (-4096) 4096 (s.skewHost ch + (s.chan ch).phase) = e at hregs hlo hhi ⊢
  have hwf' : tableWf coldWord ((s.skewReported ch).wrS F.FLT_SKEW_EFF_EFF ch e).regs = true := State.wf_wr hwf _ _ _
  refine ⟨?_, fun b _ hb hnot => ?_⟩
  · rw [State.rdS, State.rd_of_regs hregs]
    unfold State.wrB
    rw [State.rd_wr_ne hwf' _ _ _ _ _ (.inr (by decide))]
    exact State.rdS_wrS hwf F.FLT_SKEW_EFF_EFF ch (by decide) (k := 15) rfl (by omega) (by omega)
  · have hwrites : (s.skewReported ch).sameRegs (s.formSkew ch n) [F.FLT_SKEW_EFF_EFF.addr ch] :=
      (State.sameRegs_wr hwf _ _ _).trans (State.sameRegs_of_wr (f := F.FLT_SKEW_EFF_SAT) (i := ch) hwf' hregs)
    exact (hwrites b hnot).trans (hlow b hb)

/-- Forming the skew leaves the host skew and the waiting change. -/
theorem State.Sound.formSkew_chan {s : State} (hs : s.Sound) {ch : Nat} (hch : ch < 64) (n : Nat) :
    ((s.formSkew ch n).chan ch).host = (s.chan ch).host ∧ ((s.formSkew ch n).chan ch).skewAt = (s.chan ch).skewAt := by
  have hchans := hs.skewReported_chans ch
  have hlen : ch < (s.skewReported ch).chans.length := by rwa [hchans, hs.chans]
  rw [← State.chan_of_chans hchans ch]
  unfold State.formSkew
  dsimp only
  split
  · rw [State.chan_onChan (by exact hlen)]
    exact ⟨rfl, rfl⟩
  · rw [State.mark, State.chan_onChan (by rw [State.length_chans_onChan]; exact hlen), State.chan_onChan (by exact hlen)]
    exact ⟨rfl, rfl⟩

/-- The state in which the host skew of a channel has been taken, before its effective skew is formed (R126). -/
def State.hostTaken (s : State) (ch : Nat) : State :=
  (s.onChan ch fun c => { c with host := s.rdS F.FLT_SKEW_SKEW ch, skewAt := none }).wrB F.FLT_SKEW_PENDING ch
    (s.chan ch).phaseAt.isSome

theorem State.Sound.applySkew_host {s : State} (hs : s.Sound) {ch : Nat} (hch : ch < 64) (n : Nat) :
    s.applySkew ch n true false = (s.hostTaken ch).formSkew ch n := by
  have hlen : ch < s.chans.length := by rwa [hs.chans]
  unfold State.applySkew
  dsimp only
  rw [State.chan_onChan hlen]
  rfl

theorem State.Sound.hostTaken {s : State} (hs : s.Sound) (ch : Nat) : (s.hostTaken ch).Sound :=
  (State.wrB_kept _ _ ch _ (State.onChan_kept s ch _ (hs.kept 16388) rfl) rfl).sound

theorem State.Sound.chan_hostTaken {s : State} (hs : s.Sound) {ch : Nat} (hch : ch < 64) :
    (s.hostTaken ch).chan ch = { s.chan ch with host := s.rdS F.FLT_SKEW_SKEW ch, skewAt := none } :=
  State.chan_onChan (by rwa [hs.chans]) _

theorem State.doSkewApply_host {s : State} {ch n : Nat} (hat : (s.chan ch).skewAt = some n) (hphase : (s.chan ch).phaseAt = none) :
    s.doSkewApply ch = (s.toCount n).applySkew ch n true false := by
  simp only [State.doSkewApply, hat, hphase]

/-- SKEW_CHANGE_APPLY of a host write: what the channel and the registers hold after it (R126, R128). -/
theorem State.Sound.doSkewApply_outcome {s : State} (hs : s.Sound) {ch n : Nat} (hch : ch < 64)
    (hat : (s.chan ch).skewAt = some n) (hphase : (s.chan ch).phaseAt = none) :
    ((s.doSkewApply ch).chan ch).host = s.rdS F.FLT_SKEW_SKEW ch ∧ ((s.doSkewApply ch).chan ch).skewAt = none ∧
    (s.doSkewApply ch).rdB F.FLT_SKEW_PENDING ch = false ∧
    (s.doSkewApply ch).rdS F.FLT_SKEW_EFF_EFF ch = clampInt (-4096) 4096
      (rhe (s.rdS F.FLT_SKEW_SKEW ch * s.clk.fs) s.clk.fsCfg + (s.chan ch).phase) ∧
    s.sameMain (s.doSkewApply ch) [F.FLT_SKEW_SKEW.addr ch, F.FLT_SKEW_EFF_EFF.addr ch] := by
  have hu := hs.toCount n
  have hskew : (s.toCount n).rdS F.FLT_SKEW_SKEW ch = s.rdS F.FLT_SKEW_SKEW ch :=
    congrArg (signed 14) (State.rd_of_regs (s.toCount_regs n) F.FLT_SKEW_SKEW ch)
  have hchan : (s.toCount n).chan ch = s.chan ch := State.chan_of_chans (s.toCount_chans n) ch
  rw [State.doSkewApply_host hat hphase, hu.applySkew_host hch]
  obtain ⟨hhost, hskewAt⟩ := (hu.hostTaken ch).formSkew_chan hch n
  obtain ⟨heff, hmain⟩ := State.formSkew_fields (hu.hostTaken ch).regs ch n
  have hfresh := hu.chan_hostTaken hch
  rw [hskew, hchan] at hfresh
  have htaken : (s.toCount n).sameRegs ((s.toCount n).hostTaken ch) [F.FLT_SKEW_SKEW.addr ch] :=
    State.sameRegs_of_wr (f := F.FLT_SKEW_PENDING) (i := ch) hu.regs rfl
  refine ⟨hhost.trans (congrArg Chan.host hfresh), hskewAt.trans (congrArg Chan.skewAt hfresh), ?_, ?_,
    fun b hlow hpmc hb => ?_⟩
  · have hsame := hmain (F.FLT_SKEW_PENDING.addr ch) (.inl (by simp only [Fld.addr]; omega)) (by simp only [Fld.addr]; omega)
      (by simp only [Fld.addr, List.mem_singleton]; omega)
    rw [State.rdB, State.rd_of_regGet hsame]
    refine (State.rdB_wrB (s := (s.toCount n).onChan ch _) hu.regs F.FLT_SKEW_PENDING ch (by decide) rfl _).trans ?_
    rw [hchan, hphase]
    rfl
  · rw [heff, State.skewHost, hfresh]
    simp only [State.hostTaken, State.wrB_clk, State.onChan_clk, State.toCount_fs, State.toCount_fsCfg]
  · simp only [List.mem_cons, not_or] at hb
    obtain ⟨hb1, hb2, -⟩ := hb
    calc _ = ((s.toCount n).hostTaken ch).regGet b := hmain b hlow hpmc (by simpa using hb2)
      _ = (s.toCount n).regGet b := htaken b (by simpa using hb1)
      _ = s.regGet b := State.sameRegs_of_regs (s.toCount_regs n) [] b List.not_mem_nil

/-! ### Notch writes (R131, R132) -/

theorem State.scheduleNotch_regs (s : State) (j settle n : Nat) :
    (s.scheduleNotch j settle n).regs = (s.wr F.FLT_NOTCH_PENDING j 1).regs := rfl

/-- A scheduled notch waits at its channel, in a change of its own or in one that it joins (R132). -/
theorem State.scheduleNotch_waits {s : State} {j : Nat} (hj : j / 8 < s.chans.length) (settle n : Nat) :
    ∃ q ∈ ((s.scheduleNotch j settle n).chan (j / 8)).notchAt, ∃ x ∈ q.2, x.notch = j % 8 := by
  unfold State.scheduleNotch
  dsimp only
  rw [State.chan_onChan (by exact hj)]
  split
  next q hq => exact ⟨_, List.mem_map.2 ⟨q, List.mem_of_find?_eq_some hq, if_pos rfl⟩, _, List.mem_cons_self, rfl⟩
  next => exact ⟨_, List.mem_append_right _ (List.mem_singleton_self _), _, List.mem_singleton_self _, rfl⟩

/-- t is u with a change of notch j scheduled, or u itself where c does not ask for one. -/
def State.ScheduledIf (c : Prop) (u t : State) (j : Nat) : Prop := (¬ c ∧ t = u) ∨ ∃ settle n, t = u.scheduleNotch j settle n

section
variable {c : Prop} {u t : State} {j : Nat} (h : u.ScheduledIf c t j)
include h

theorem State.ScheduledIf.kept {msk : Nat} {r : State} (hm : 16388 &&& msk = 16388) (hu : Kept msk r u) : Kept msk r t := by
  rcases h with ⟨-, rfl⟩ | ⟨settle, n, rfl⟩
  · exact hu
  · exact State.scheduleNotch_kept u j settle n hu hm

variable (hwf : tableWf coldWord u.regs = true)
include hwf

theorem State.ScheduledIf.sameRegs : u.sameRegs t [F.FLT_NOTCH_FC.addr j] := by
  rcases h with ⟨-, rfl⟩ | ⟨settle, n, rfl⟩
  · exact State.sameRegs_of_regs rfl _
  · exact State.sameRegs_of_wr (f := F.FLT_NOTCH_PENDING) hwf (u.scheduleNotch_regs j settle n)

/-- A schedule leaves every field but PENDING. -/
theorem State.ScheduledIf.rd {f : Fld} (hf : f.addr j ≠ F.FLT_NOTCH_PENDING.addr j ∨ f.lo + f.width ≤ 30 ∨ 31 ≤ f.lo) :
    t.rd f j = u.rd f j := by
  rcases h with ⟨-, rfl⟩ | ⟨settle, n, rfl⟩
  · rfl
  · rw [State.rd_of_regs (u.scheduleNotch_regs j settle n), State.rd_wr_ne hwf _ _ _ _ _ hf]

/-- A change that is asked for shows in PENDING and waits at the channel (R132). -/
theorem State.ScheduledIf.pending (hj : j / 8 < u.chans.length) (hc : c) : t.rdB F.FLT_NOTCH_PENDING j = true ∧
    ∃ q ∈ (t.chan (j / 8)).notchAt, ∃ x ∈ q.2, x.notch = j % 8 := by
  rcases h with ⟨hno, -⟩ | ⟨settle, n, rfl⟩
  · exact absurd hc hno
  · refine ⟨?_, State.scheduleNotch_waits hj settle n⟩
    rw [State.rdB, State.rd_of_regs (u.scheduleNotch_regs j settle n), State.rd_wr hwf _ _ _ (by decide)]
    rfl

end

/-- The notch register with FC and EN of a written word (R131). -/
def State.notchStored (s : State) (j : Nat) (w : Word) : State :=
  (s.wr F.FLT_NOTCH_FC j (getField w 0 24)).wrB F.FLT_NOTCH_EN j (getField w 31 1 == 1)

theorem getField_bit (w : Word) (lo : Nat) : getField w lo 1 = 0 ∨ getField w lo 1 = 1 := by
  have := getField_lt w lo 1
  omega

section
variable {s : State} {j : Nat} {w : Word} (ns : Nat)

theorem State.doNotchWrite_refused (hen : getField w 31 1 = 1)
    (hbad : s.notchOk (j / 8) (getField w 0 24) (s.rd F.FLT_NOTCH_BW_BW j) = false) :
    s.doNotchWrite j w ns = s.configFault (s.locUnit (j / 8)) (F.FLT_NOTCH + 8 * j) :=
  if_pos (by rw [hen, hbad]; rfl)

theorem State.doNotchWrite_taken (h : getField w 31 1 = 0 ∨
      s.notchOk (j / 8) (getField w 0 24) (s.rd F.FLT_NOTCH_BW_BW j) = true) :
    (s.notchStored j w).ScheduledIf (getField w 31 1 ≠ s.rd F.FLT_NOTCH_EN j) (s.doNotchWrite j w ns) j := by
  have hok : ¬ (getField w 31 1 == 1 && !s.notchOk (j / 8) (getField w 0 24) (s.rd F.FLT_NOTCH_BW_BW j)) = true := by
    rcases h with h | h <;> simp [h]
  unfold State.doNotchWrite
  dsimp only
  rw [if_neg hok]
  split
  next => exact .inr ⟨_, _, rfl⟩
  next hsame =>
    simp only [Bool.or_eq_true, not_or, bne_iff_ne, ne_eq, not_not] at hsame
    obtain ⟨hsame, -⟩ := hsame
    refine .inl ⟨not_not.2 ?_, rfl⟩
    have hw := getField_lt w 31 1
    have hen : s.rd F.FLT_NOTCH_EN j < 2 ^ 1 := getField_lt _ _ _
    rw [State.rdB, Bool.eq_iff_iff, beq_iff_eq, beq_iff_eq] at hsame
    omega

theorem State.doNotchBwWrite_refused (hen : s.rdB F.FLT_NOTCH_EN j = true)
    (hbad : s.notchOk (j / 8) (s.rd F.FLT_NOTCH_FC j) (clampNat 100 100000 (getField w 0 17)) = false) :
    s.doNotchBwWrite j w ns = s.configFault (s.locUnit (j / 8)) (F.FLT_NOTCH_BW + 8 * j) :=
  if_pos (by rw [hen, hbad]; rfl)

theorem State.doNotchBwWrite_taken (h : s.rdB F.FLT_NOTCH_EN j = false ∨
      s.notchOk (j / 8) (s.rd F.FLT_NOTCH_FC j) (clampNat 100 100000 (getField w 0 17)) = true) :
    (s.wr F.FLT_NOTCH_BW_BW j (clampNat 100 100000 (getField w 0 17))).ScheduledIf
      (s.rdB F.FLT_NOTCH_EN j = true ∧ s.rd F.FLT_NOTCH_BW_BW j ≠ clampNat 100 100000 (getField w 0 17))
      (s.doNotchBwWrite j w ns) j := by
  have hok : ¬ (s.rdB F.FLT_NOTCH_EN j &&
      !s.notchOk (j / 8) (s.rd F.FLT_NOTCH_FC j) (clampNat 100 100000 (getField w 0 17))) = true := by
    rcases h with h | h <;> simp [h]
  unfold State.doNotchBwWrite
  dsimp only
  rw [if_neg hok]
  split
  next => exact .inr ⟨_, _, rfl⟩
  next hsame =>
    refine .inl ⟨fun ⟨hen, hne⟩ => hsame ?_, rfl⟩
    rw [hen, Bool.true_and, bne_iff_ne]
    exact hne.symm

end

section
variable {s : State} (h : tableWf coldWord s.regs = true) (j : Nat) (w : Word)
include h

theorem State.notchStored_fields : (s.notchStored j w).rd F.FLT_NOTCH_FC j = getField w 0 24 ∧
    (s.notchStored j w).rd F.FLT_NOTCH_EN j = getField w 31 1 ∧
    s.sameRegs (s.notchStored j w) [F.FLT_NOTCH_FC.addr j] := by
  have hwf : tableWf coldWord (s.wr F.FLT_NOTCH_FC j (getField w 0 24)).regs = true := State.wf_wr h _ _ _
  refine ⟨?_, ?_, (State.sameRegs_wr h _ _ _).trans (State.sameRegs_wr hwf F.FLT_NOTCH_EN j _)⟩
  · unfold State.notchStored State.wrB
    rw [State.rd_wr_ne hwf _ _ _ _ _ (.inr (by decide)), State.rd_wr h _ _ _ (by decide)]
    exact Nat.mod_eq_of_lt (getField_lt w 0 24)
  · unfold State.notchStored State.wrB
    rw [State.rd_wr hwf _ _ _ (by decide)]
    rcases getField_bit w 31 with hbit | hbit <;> rw [hbit] <;> rfl

theorem State.rd_wr_notchBw : (s.wr F.FLT_NOTCH_BW_BW j (clampNat 100 100000 (getField w 0 17))).rd F.FLT_NOTCH_BW_BW j =
    clampNat 100 100000 (getField w 0 17) := by
  obtain ⟨-, hhi⟩ := clampNat_bounds (lo := 100) (hi := 100000) (by decide) (getField w 0 17)
  rw [State.rd_wr h _ _ _ (by decide)]
  exact Nat.mod_eq_of_lt (by simp only; omega)

end

/-! ### A notch change takes effect (R132) -/

theorem State.forEach_same {a b : Type} (g : State → b) {f : State → a → State} (hf : ∀ s x, g (f s x) = g s) (l : List a)
    (s : State) : g (s.forEach l f) = g s := by
  unfold State.forEach
  induction l generalizing s with
  | nil => rfl
  | cons x l ih => exact (ih (f s x)).trans (hf s x)

/-- Writing v to a field of the instances of a list: each reads v, and no other register moves. -/
theorem State.forEach_wr (f : Fld) (v : Nat) (hf : f.lo + f.width ≤ 32) (hv : v < 2 ^ f.width) (g : Nat → Nat) (l : List Nat)
    {s : State} (h : tableWf coldWord s.regs = true) :
    (∀ k, (∃ i ∈ l, g i = k) ∨ s.rd f k = v → (s.forEach l fun u i => u.wr f (g i) v).rd f k = v) ∧
    s.sameRegs (s.forEach l fun u i => u.wr f (g i) v) (l.map fun i => f.addr (g i)) := by
  unfold State.forEach
  induction l generalizing s with
  | nil => exact ⟨fun k hk => by simpa using hk, fun _ _ => rfl⟩
  | cons i l ih =>
    obtain ⟨hread, hsame⟩ := ih (State.wf_wr h f (g i) v)
    refine ⟨fun k hk => hread k ?_, fun b hb => ?_⟩
    · by_cases hki : f.addr k = f.addr (g i)
      · right
        rw [State.rd, hki]
        exact (State.rd_wr h f (g i) v hf).trans (Nat.mod_eq_of_lt hv)
      · rcases hk with ⟨m, hm, rfl⟩ | hk
        · rcases List.mem_cons.1 hm with rfl | hm
          · exact absurd rfl hki
          · exact .inl ⟨m, hm, rfl⟩
        · exact .inr ((State.rd_wr_ne h _ _ _ _ _ (.inl hki)).trans hk)
    · simp only [List.map_cons, List.mem_cons, not_or] at hb
      exact (hsame b hb.2).trans (State.sameRegs_wr h f (g i) v b (by simpa using hb.1))

@[simp] theorem State.showNotches_chans (s : State) (ch : Nat) : (s.showNotches ch).chans = s.chans := by
  unfold State.showNotches
  refine State.forEach_same State.chans (fun u i => ?_) _ s
  rfl

@[simp] theorem State.showNotches_clk (s : State) (ch : Nat) : (s.showNotches ch).clk = s.clk := by
  unfold State.showNotches
  refine State.forEach_same State.clk (fun u i => ?_) _ s
  rfl

/-- With no change waiting, PENDING of the channel's notches is cleared. -/
theorem State.showNotches_clear {s : State} {ch : Nat} (h : (s.chan ch).notchAt = []) :
    s.showNotches ch = s.forEach (List.range 8) fun u i => u.wr F.FLT_NOTCH_PENDING (8 * ch + i) 0 := by
  unfold State.showNotches State.forEach
  generalize List.range 8 = l
  induction l generalizing s with
  | nil => rw [List.foldl_nil, List.foldl_nil]
  | cons i l ih =>
    rw [List.foldl_cons, List.foldl_cons, h]
    exact ih (s := s.wr F.FLT_NOTCH_PENDING (8 * ch + i) 0) h

/-- The SETTLE mark of a change of notches at count n (R132). -/
def State.notchSpan (s : State) (ch n : Nat) (l : List NotchChg) : Span :=
  { kind := .settle, a := n, b := n + s.notchSettle (((l.map fun q => q.settle).min?).getD 100000) - 1, raw := false
    f := s.firHalf ch }

/-- A channel's only change of notches takes effect: what the channel holds then (R132). -/
theorem State.applyNotch_chan {s : State} {ch n : Nat} {l : List NotchChg} (hch : ch < s.chans.length)
    (h : (s.chan ch).notchAt = [(n, l)]) : ((s.applyNotch ch n (n, l)).chan ch).notchAt = [] ∧
    s.notchSpan ch n l ∈ ((s.applyNotch ch n (n, l)).chan ch).spans := by
  unfold State.applyNotch
  dsimp only
  rw [State.chan_of_chans (State.showNotches_chans _ ch),
    State.chan_onChan (by rw [State.mark, State.length_chans_onChan]; exact hch), State.mark, State.chan_onChan hch]
  refine ⟨?_, List.mem_cons_self⟩
  simp [h]

theorem State.applyNotch_clk (s : State) (ch n : Nat) (q : Nat × List NotchChg) : (s.applyNotch ch n q).clk = s.clk :=
  State.showNotches_clk _ ch

theorem State.doNotchApply_only {s : State} {ch n : Nat} {l : List NotchChg} (hsince : (s.chan ch).since ≠ none)
    (h : (s.chan ch).notchAt = [(n, l)]) : s.doNotchApply ch = (s.toCount n).applyNotch ch n (n, l) := by
  have hno : ¬ (s.chan ch).since.isNone = true := by simpa using hsince
  rw [State.doNotchApply, if_neg hno, h]
  rfl

/-- The registers after a channel's only change of notches: PENDING of its eight notches is 0, and no other moves. -/
theorem State.applyNotch_regs {s : State} (hwf : tableWf coldWord s.regs = true) {ch n : Nat} {l : List NotchChg}
    (hch : ch < s.chans.length) (h : (s.chan ch).notchAt = [(n, l)]) :
    (∀ i < 8, (s.applyNotch ch n (n, l)).rdB F.FLT_NOTCH_PENDING (8 * ch + i) = false) ∧
    s.sameRegs (s.applyNotch ch n (n, l)) ((List.range 8).map fun i => F.FLT_NOTCH_FC.addr (8 * ch + i)) := by
  have hnone := (State.applyNotch_chan hch h).1
  unfold State.applyNotch at hnone ⊢
  dsimp only at hnone ⊢
  rw [State.chan_of_chans (State.showNotches_chans _ ch)] at hnone
  rw [State.showNotches_clear hnone]
  generalize hu : State.onChan _ _ _ = u
  have hregs : u.regs = s.regs := by rw [← hu]; rfl
  obtain ⟨hread, hsame⟩ := State.forEach_wr F.FLT_NOTCH_PENDING 0 (by decide) (by decide) (fun i => 8 * ch + i) (List.range 8)
    (hregs ▸ hwf)
  refine ⟨fun i hi => ?_, (State.sameRegs_of_regs hregs _).trans hsame⟩
  rw [State.rdB, hread _ (.inl ⟨i, List.mem_range.2 hi, rfl⟩)]
  rfl

/-- NOTCH_CHANGE_APPLY of a channel's only change: what the channel, the registers and the clock hold after it (R132). -/
theorem State.Sound.doNotchApply_outcome {s : State} (hs : s.Sound) {ch n : Nat} {l : List NotchChg} (hch : ch < 64)
    (hsince : (s.chan ch).since ≠ none) (h : (s.chan ch).notchAt = [(n, l)]) :
    ((s.doNotchApply ch).chan ch).notchAt = [] ∧
    (∀ i < 8, (s.doNotchApply ch).rdB F.FLT_NOTCH_PENDING (8 * ch + i) = false) ∧
    (s.toCount n).notchSpan ch n l ∈ ((s.doNotchApply ch).chan ch).spans ∧ (s.doNotchApply ch).clk = (s.toCount n).clk ∧
    s.sameRegs (s.doNotchApply ch) ((List.range 8).map fun i => F.FLT_NOTCH_FC.addr (8 * ch + i)) := by
  have hlen : ch < (s.toCount n).chans.length := by rwa [s.toCount_chans n, hs.chans]
  have hat : ((s.toCount n).chan ch).notchAt = [(n, l)] := by rwa [State.chan_of_chans (s.toCount_chans n) ch]
  obtain ⟨hnone, hspan⟩ := State.applyNotch_chan hlen hat
  obtain ⟨hpending, hregs⟩ := State.applyNotch_regs (hs.toCount n).regs hlen hat
  rw [State.doNotchApply_only hsince h]
  exact ⟨hnone, hpending, hspan, State.applyNotch_clk _ _ _ _, (State.sameRegs_of_regs (s.toCount_regs n) _).trans hregs⟩

end Sys2Proof.Machine

open Sys2Proof Sys2Proof.Machine

/-- Settles O15, clause by clause: each write of a port is its operation (exec_skewWrite and the like), and each change that takes
effect is what its operation makes of the registers and of the channel at N_k. -/
theorem skewAndNotches : Obligations.SkewAndNotches := by
  intro s p ch j w hs
  have hfree := hs.sound.drawFree
  have hch : ch.val < s.chans.length := by rw [hs.sound.chans]; exact ch.isLt
  have hj : j.val / 8 < s.chans.length := by rw [hs.sound.chans]; omega
  refine ⟨?_, fun n hat hphase => ?_, fun hen hbad => ?_, fun hok => ?_, fun hen hbad => ?_, fun hok => ?_,
    fun n l hsince hat => ?_⟩
  · obtain ⟨hskew, hpending, hregs⟩ := State.doSkewWrite_fields hfree.regs ch w s.writeNs
    exact ⟨_, hs.exec_skewWrite p w ch, hskew, hpending,
      State.doSkewWrite_skewAt (s := { s with free := s.free + 1 }) hch w s.writeNs,
      State.doSkewWrite_chans (s := { s with free := s.free + 1 }) w s.writeNs, hregs,
      State.accepted_eq (State.doSkewWrite_kept _ ch w _ (hfree.kept 16420) rfl)⟩
  · obtain ⟨hhost, hskewAt, hpending, heff, hregs⟩ := hs.sound.doSkewApply_outcome ch.isLt hat hphase
    exact ⟨_, hs.next_cxDo fun s => s.doSkewApply ch, hhost, hskewAt, hpending, heff, hregs,
      (State.doSkewApply_kept s ch (hs.sound.kept 16918) rfl).eq_withParts⟩
  · rw [hs.exec_notchWrite p w j]
    exact congrArg (fun u => Host.Outcome.next (State.onPort u p _)) (State.doNotchWrite_refused s.writeNs hen hbad)
  · have hset := State.doNotchWrite_taken (s := { s with free := s.free + 1 }) s.writeNs hok
    obtain ⟨hfc, hen, hregs⟩ := State.notchStored_fields hfree.regs j w
    have hkept := State.wrB_kept _ F.FLT_NOTCH_EN j (getField w 31 1 == 1)
      (State.wr_kept _ F.FLT_NOTCH_FC j (getField w 0 24) (hfree.kept 16420) rfl) rfl
    exact ⟨_, hs.exec_notchWrite p w j, (hset.rd hkept.regs (.inr (by decide))).trans hfc,
      (hset.rd hkept.regs (.inr (by decide))).trans hen, hset.pending hkept.regs hj, hregs.trans (hset.sameRegs hkept.regs),
      State.accepted_eq (hset.kept rfl hkept)⟩
  · rw [hs.exec_notchBwWrite p w j]
    exact congrArg (fun u => Host.Outcome.next (State.onPort u p _)) (State.doNotchBwWrite_refused s.writeNs hen hbad)
  · have hset := State.doNotchBwWrite_taken (s := { s with free := s.free + 1 }) s.writeNs hok
    have hkept := State.wr_kept _ F.FLT_NOTCH_BW_BW j (clampNat 100 100000 (getField w 0 17)) (hfree.kept 16420) rfl
    refine ⟨_, hs.exec_notchBwWrite p w j, (hset.rd hkept.regs (.inr (by decide))).trans (State.rd_wr_notchBw hfree.regs j w),
      fun hen hne => (hset.pending hkept.regs hj ⟨hen, hne⟩).1, fun b hb => ?_, State.accepted_eq (hset.kept rfl hkept)⟩
    simp only [List.mem_cons, not_or] at hb
    obtain ⟨hfc, hbw, -⟩ := hb
    exact (hset.sameRegs hkept.regs b (by simpa using hfc)).trans (State.sameRegs_wr hfree.regs _ _ _ b (by simpa using hbw))
  · obtain ⟨hnone, hpending, hspan, hclk, hregs⟩ := hs.sound.doNotchApply_outcome ch.isLt hsince hat
    exact ⟨_, hs.next_cxDo fun s => s.doNotchApply ch, hnone, hpending, ⟨_, hspan, rfl, rfl, rfl⟩,
      fun hrun => by rw [hclk, State.toCount_count hrun], hregs,
      (State.doNotchApply_kept s ch (hs.sound.kept 16404) rfl).eq_withParts⟩

end

section
/-! SUPPORT. Sources of cues (R173 to R175, R178): what the impulse detectors, the trigger inputs and a write of FIRE propose. -/

namespace Sys2Proof.Machine

/-! ### Channels -/

theorem State.chan_onChan_ne (s : State) {ch q : Nat} (h : q ≠ ch) (f : Chan → Chan) : (s.onChan ch f).chan q = s.chan q := by
  simp [State.chan, State.onChan, List.getD_eq_getElem?_getD, h.symm]

/-- A change that a channel's state stands still under changes nothing. -/
theorem State.onChan_eq_self {s : State} {ch : Nat} {f : Chan → Chan} (h : f (s.chan ch) = s.chan ch) : s.onChan ch f = s := by
  have hchans : s.chans.modify ch f = s.chans := by
    refine List.ext_getElem? fun i => ?_
    rw [List.getElem?_modify]
    rcases hi : s.chans[i]? with _ | c
    · rfl
    · by_cases hch : ch = i
      · have hc : s.chan ch = c := by simp [State.chan, List.getD_eq_getElem?_getD, hch, hi]
        subst hch
        simp [← hc, h]
      · simp [hch]
  rw [State.onChan, hchans]

/-! ### Estimation windows (R174) -/

theorem Det.closeWindow_of_lt {d : Det} (h : d.summed < d.stop) : d.closeWindow = d := if_pos h

theorem State.doDetectorWindowEnd_of_lt {s : State} {ch : Nat} (h : (s.chan ch).det.summed < (s.chan ch).det.stop) :
    s.doDetectorWindowEnd ch = s := by
  refine State.onChan_eq_self ?_
  rw [Det.closeWindow_of_lt h]

/-! ### Impulse detectors (R174, R175) -/

/-- The count from which a channel's detector may fire, beyond the sample at n while detection does not run (R174). -/
def Chan.armedFrom (c : Chan) (n : Nat) : Nat :=
  match c.det.start with
  | some a => max a c.det.dead
  | none => n + 1

/-- Does the detector of channel ch fire on the sample at n: is it the first at or above the threshold (R174)? -/
def State.fires (s : State) (ch n : Nat) : Bool :=
  s.rdB F.TRG_DET_EN ch && s.producing ch && decide ((s.chan ch).armedFrom n ≤ n) && s.aboveAt ch n
    && ((s.chan ch).sampleAt (n + 23)).isSome
    && !(((s.chan ch).heldFrom ((s.chan ch).armedFrom n) n).any fun k => s.aboveAt ch k)

/-- n_p: where the envelope peaks in the 16 samples from n (R175). -/
def Chan.peakAt (c : Chan) (n : Nat) : Nat :=
  (((List.range 16).map fun i => n + i).filter fun k => !c.skips k).foldl
    (fun best k => if c.envAt best < c.envAt k then k else best) n

/-- The peak in code, and whether a sample at it or beside it clipped (R175, R183). -/
def Chan.peakCode (c : Chan) (np : Nat) : Nat := isqrt ((c.envAt np).toNat / 2 ^ 36) 32

def Chan.peakClips (c : Chan) (np : Nat) : Bool := [np - 1, np, np + 1].any fun k => ((c.sampleAt k).getD (0, false)).2

/-- c and fraction of the peak (R175). -/
def Chan.peakTime (c : Chan) (np : Nat) : Nat × Nat := interpolate np (c.envAt (np - 1)) (c.envAt np) (c.envAt (np + 1))

/-- What a detector that fired proposes (R175). -/
def State.peakProposal (s : State) (ch np : Nat) : Proposal :=
  { bit := 0, c := ((s.chan ch).peakTime np).1, frac := ((s.chan ch).peakTime np).2, loc := s.locUnit ch, units := 2 ^ ch
    peak := (s.chan ch).peakCode np, members := 2 ^ (ch % 4), clip := (s.chan ch).peakClips np }

/-- The firing that its combiner takes (R177). -/
def State.peakFiring (s : State) (ch np : Nat) : Firing :=
  { ch := ch, c := ((s.chan ch).peakTime np).1, frac := ((s.chan ch).peakTime np).2
    peak := (s.chan ch).peakCode np, clip := (s.chan ch).peakClips np }

theorem State.doImpulseFire_eq (s : State) (ch n : Nat) : s.doImpulseFire ch n =
    if s.fires ch n then
      ((s.onChan ch fun c => { c with det := { c.det with
          dead := (s.chan ch).peakAt n + 64 * s.rd F.TRG_DET_HOLDOFF ch } }).propose
        (s.peakProposal ch ((s.chan ch).peakAt n))).fireCombiner (s.peakFiring ch ((s.chan ch).peakAt n))
    else s := rfl

/-- A combiner's firings are all that a firing changes (R177). -/
theorem State.fireCombiner_eq (s : State) (f : Firing) :
    s.fireCombiner f = s.onTrg fun t => { t with firings := (s.fireCombiner f).trg.firings } := by
  unfold State.fireCombiner
  dsimp only
  split <;> rfl

theorem Chan.mem_heldFrom {c : Chan} {a n k : Nat} :
    k ∈ c.heldFrom a n ↔ a ≤ k ∧ (c.recent.getLast?.map fun b => b.n).getD n ≤ k ∧ k < n := by
  simp only [Chan.heldFrom, List.mem_map, List.mem_range]
  constructor
  · rintro ⟨i, hi, rfl⟩
    omega
  · rintro ⟨ha, hb, hn⟩
    exact ⟨k - max a ((c.recent.getLast?.map fun b => b.n).getD n), by omega, by omega⟩

/-- A run along a list that keeps the place of the greater value ends at a greatest one. -/
theorem foldl_greatest (e : Nat → Int) (l : List Nat) (n : Nat) :
    l.foldl (fun best k => if e best < e k then k else best) n ∈ n :: l ∧
      ∀ k ∈ n :: l, e k ≤ e (l.foldl (fun best k => if e best < e k then k else best) n) := by
  induction l generalizing n with
  | nil => simp
  | cons x l ih =>
    obtain ⟨hmem, hmax⟩ := ih (if e n < e x then x else n)
    rw [List.foldl_cons]
    have hstart : e n ≤ e (if e n < e x then x else n) ∧ e x ≤ e (if e n < e x then x else n) := by split <;> omega
    have hbest := hmax _ List.mem_cons_self
    refine ⟨?_, fun k hk => ?_⟩
    · rcases List.mem_cons.1 hmem with h | h
      · rw [h]
        split <;> simp
      · simp [h]
    · rcases List.mem_cons.1 hk with rfl | hk
      · exact hstart.1.trans hbest
      rcases List.mem_cons.1 hk with rfl | hk
      · exact hstart.2.trans hbest
      · exact hmax k (List.mem_cons_of_mem _ hk)

/-- n_p lies in the 16 samples, and no sample of theirs that counts has a greater envelope (R175). -/
theorem Chan.peakAt_spec (c : Chan) (n : Nat) : n ≤ c.peakAt n ∧ c.peakAt n < n + 16 ∧
    ∀ k, n ≤ k → k < n + 16 → c.skips k = false → c.envAt k ≤ c.envAt (c.peakAt n) := by
  obtain ⟨hmem, hmax⟩ := foldl_greatest c.envAt (((List.range 16).map fun i => n + i).filter fun k => !c.skips k) n
  have hplace : ∀ k ∈ ((List.range 16).map fun i => n + i).filter fun k => !c.skips k, n ≤ k ∧ k < n + 16 := by
    simp only [List.mem_filter, List.mem_map, List.mem_range]
    rintro k ⟨⟨i, hi, rfl⟩, -⟩
    omega
  have hrange : n ≤ c.peakAt n ∧ c.peakAt n < n + 16 := by
    rcases List.mem_cons.1 hmem with h | h
    · rw [Chan.peakAt, h]
      omega
    · exact hplace _ h
  refine ⟨hrange.1, hrange.2, fun k hk hk' hskip => hmax k (List.mem_cons_of_mem _ ?_)⟩
  simp only [List.mem_filter, List.mem_map, List.mem_range]
  exact ⟨⟨k - n, by omega, by omega⟩, by rw [hskip]; rfl⟩

section
variable {s : State} {ch n : Nat}

theorem State.doImpulseFire_of_not_fires (h : s.fires ch n = false) : s.doImpulseFire ch n = s := by
  rw [State.doImpulseFire_eq, h]
  rfl

/-- The sample that fires (R174). -/
theorem State.fires_of_first {a : Nat} (hen : s.rdB F.TRG_DET_EN ch = true) (hprod : s.producing ch = true)
    (hstart : (s.chan ch).det.start = some a) (ha : a ≤ n) (hdead : (s.chan ch).det.dead ≤ n)
    (habove : s.aboveAt ch n = true)
    (hfirst : ∀ k, a ≤ k → (s.chan ch).det.dead ≤ k → k < n → s.aboveAt ch k = false)
    (hafter : ((s.chan ch).sampleAt (n + 23)).isSome = true) : s.fires ch n = true := by
  have harmed : (s.chan ch).armedFrom n = max a (s.chan ch).det.dead := by rw [Chan.armedFrom, hstart]
  have hnone : (((s.chan ch).heldFrom ((s.chan ch).armedFrom n) n).any fun k => s.aboveAt ch k) = false := by
    refine List.any_eq_false.2 fun k hk => ?_
    obtain ⟨hlo, -, hhi⟩ := Chan.mem_heldFrom.1 hk
    rw [harmed] at hlo
    rw [hfirst k (by omega) (by omega) hhi]
    exact Bool.false_ne_true
  have hin : (s.chan ch).armedFrom n ≤ n := by omega
  simp [State.fires, hen, hprod, hin, habove, hafter, hnone]

theorem Chan.armedFrom_gt {c : Chan} (h : n < c.det.dead) : n < c.armedFrom n := by
  unfold Chan.armedFrom
  split <;> omega

/-- A detector that is off, in dead time or below its threshold does not fire (R174). -/
theorem State.not_fires (h : s.rdB F.TRG_DET_EN ch = false ∨ n < (s.chan ch).det.dead ∨
    (s.chan ch).envAt n < s.threshold ch n) : s.fires ch n = false := by
  rcases h with hen | hdead | hlow
  · simp [State.fires, hen]
  · have := Chan.armedFrom_gt hdead
    simp [State.fires, show ¬ (s.chan ch).armedFrom n ≤ n by omega]
  · simp [State.fires, State.aboveAt, show ¬ s.threshold ch n ≤ (s.chan ch).envAt n by omega]

/-- Nor does one fire after another sample at or above the threshold that is held (R174). -/
theorem State.not_fires_of_earlier {a k : Nat} (hstart : (s.chan ch).det.start = some a) (ha : a ≤ k)
    (hdead : (s.chan ch).det.dead ≤ k) (hk : k < n) (habove : s.aboveAt ch k = true)
    (hheld : ∃ b ∈ (s.chan ch).recent.getLast?, b.n ≤ k) : s.fires ch n = false := by
  obtain ⟨b, hb, hbk⟩ := hheld
  have hmem : k ∈ (s.chan ch).heldFrom ((s.chan ch).armedFrom n) n := by
    refine Chan.mem_heldFrom.2 ⟨?_, ?_, hk⟩
    · rw [Chan.armedFrom, hstart]
      exact max_le ha hdead
    · rw [Option.mem_def.1 hb]
      exact hbk
  have hany : (((s.chan ch).heldFrom ((s.chan ch).armedFrom n) n).any fun k => s.aboveAt ch k) = true :=
    List.any_eq_true.2 ⟨k, hmem, habove⟩
  simp [State.fires, hany]

/-- What a detector that fires does: its proposal, its dead time, and its combiner's firings (R174, R175, R177). -/
theorem State.doImpulseFire_fires (h : s.fires ch n = true) : ∃ fs, s.doImpulseFire ch n =
    ((s.onChan ch fun c => { c with det := { c.det with
        dead := (s.chan ch).peakAt n + 64 * s.rd F.TRG_DET_HOLDOFF ch } }).propose
      (s.peakProposal ch ((s.chan ch).peakAt n))).onTrg fun t => { t with firings := fs } := by
  rw [State.doImpulseFire_eq, if_pos h, State.fireCombiner_eq]
  exact ⟨_, rfl⟩

end

/-! ### Trigger inputs (R178) -/

@[simp] theorem State.toCount_trg (s : State) (n : Nat) : (s.toCount n).trg = s.trg := by
  rw [s.toCount_only n]

section
variable {s : State} {n k phi : Nat}

theorem State.doTriggerEdge_ignored {falling : Bool} (h : s.rdB F.TRG_EXT_EN n = false ∨ s.rdB F.TRG_EXT_EDGE n ≠ falling) :
    s.doTriggerEdge n k phi falling = s := by
  refine if_neg ?_
  rcases h with h | h <;> simp [h]

variable (hen : s.rdB F.TRG_EXT_EN n = true) (hrun : s.clk.running = true) (hphi : phi < 64)
include hen hrun hphi

/-- An edge with none accepted before it proposes its time less DELAY (R178). -/
theorem State.doTriggerEdge_first (hnone : s.trg.edges.getD n none = none) :
    s.doTriggerEdge n k phi (s.rdB F.TRG_EXT_EDGE n) =
      ((s.toCount k).onTrg fun x => { x with edges := x.edges.set n (some (k * 64 + phi : Nat)) }).propose
        { bit := 3 + n, c := ((k * 64 + phi : Nat) - s.rdS F.TRG_EXT_DELAY n).toNat / 64
          frac := ((k * 64 + phi : Nat) - s.rdS F.TRG_EXT_DELAY n).toNat % 64, loc := s.locCx } := by
  have hloc : (s.toCount k).locCx = s.locCx := by rw [s.toCount_only k]; rfl
  have hdelay : (s.toCount k).rdS F.TRG_EXT_DELAY n = s.rdS F.TRG_EXT_DELAY n := by
    rw [State.rdS, State.rdS, State.rd_of_regs (s.toCount_regs k)]
  rw [← hloc, ← hdelay]
  simp only [State.doTriggerEdge, hen, hrun, beq_self_eq_true, Bool.and_self, if_true, State.toCount_trg, hnone,
    Nat.mod_eq_of_lt hphi, Bool.false_eq_true, if_false]
  rfl

/-- An edge within 100 ns of an accepted one is ignored and counted (R178). -/
theorem State.doTriggerEdge_dead {a : Int} (ha : s.trg.edges.getD n none = some a)
    (hdead : ((k * 64 + phi : Nat) - a) * 1000000000 < 64 * 100 * s.clk.fs) :
    s.doTriggerEdge n k phi (s.rdB F.TRG_EXT_EDGE n) =
      (s.toCount k).onTrg fun x => { x with ignored := x.ignored.modify n (· + 1) } := by
  simp only [State.doTriggerEdge, hen, hrun, beq_self_eq_true, Bool.and_self, if_true, State.toCount_trg, ha,
    Nat.mod_eq_of_lt hphi, State.toCount_fs, hdead, decide_true]

end

theorem State.reached_toCount (s : State) (n : Nat) : s.reached (s.toCount n) n := fun h => State.toCount_count h n

/-! ### A write of FIRE (R173, R202) -/

/-- TRG_SW stands in the register table by itself, with no field that COMMIT locks. -/
theorem regAt_trgSw : (regAt F.TRG_SW).any (fun r => r.base == F.TRG_SW && r.fields.all fun f => f.acc != .rwl) = true := by
  decide +kernel

/-- A write of it is taken. -/
theorem State.Working.portStore_trgSw {s : State} (hs : s.Working) (p : Nat) (w : Word) : ∃ r : RegDef, r.base = F.TRG_SW ∧
    s.portStore p F.TRG_SW w = s.accepted p fun u => u.writeReg r p F.TRG_SW w s.writeNs := by
  obtain ⟨r, hr, hr'⟩ := (Option.any_eq_true _ _).1 regAt_trgSw
  simp only [Bool.and_eq_true, beq_iff_eq, List.all_eq_true, bne_iff_ne] at hr'
  obtain ⟨hbase, hrwl⟩ := hr'
  exact ⟨r, hbase, State.portStore_taken (by decide) (by decide) hr (.inl (by decide)) (.inr hs.cx)
    (.inr (not_changesLocked hrwl _ w))⟩

/-- A write of 1 to FIRE is a software cue. -/
theorem State.writeReg_trgSw (s : State) {r : RegDef} (hr : r.base = F.TRG_SW) (p : Nat) {w : Word} (ns : Nat)
    (hw : w.toNat.testBit 0 = true) : s.writeReg r p F.TRG_SW w ns = s.doSoftwareCue := by
  rw [State.writeReg, State.writeMgt, State.writeFront, State.writeCore, hr]
  change s.commands w [(0, State.doSoftwareCue)] = _
  simp [State.commands, hw]

theorem State.Working.exec_softwareCue {s : State} (hs : s.Working) (p : Fin 10) :
    exec (.softwareCue p) s = .next (s.accepted p State.doSoftwareCue) := by
  have hw : (setField (s.shown F.TRG_SW) 0 1 1).toNat.testBit 0 = true := by
    rw [← BitVec.getLsbD, getLsbD_setField, if_pos (by omega)]
    rfl
  obtain ⟨r, hr, hstore⟩ := hs.portStore_trgSw p (setField (s.shown F.TRG_SW) 0 1 1)
  rw [← funext fun u : State => u.writeReg_trgSw hr p s.writeNs hw, ← hstore]
  exact hs.awake.next_keeperDo fun s => s.hostBit p F.TRG_SW_FIRE 0

end Sys2Proof.Machine

open Sys2Proof Sys2Proof.Machine

/-- Settles O18, clause by clause: a detector fires where State.fires says so, at the peak of Chan.peakAt_spec. -/
theorem cueSources : Obligations.CueSources := by
  intro s hs
  have hch (ch : Fin 64) : ch.val < s.chans.length := by rw [hs.sound.chans]; exact ch.isLt
  refine ⟨?_, ?_, ?_, ?_, ?_, ?_, hs.exec_softwareCue⟩
  · rintro ch d rfl
    refine ⟨fun h => ?_, fun h => ?_⟩
    · refine ⟨_, hs.next_cxDo fun s => s.doDetectorWindowEnd ch, ?_, fun q hq => ?_, rfl⟩
      · rw [State.doDetectorWindowEnd, State.chan_onChan (hch ch), Det.closeWindow, if_neg (Nat.not_lt.2 h)]
      · exact s.chan_onChan_ne (fun e => hq (Fin.ext e)) _
    · exact (hs.next_cxDo fun s => s.doDetectorWindowEnd ch).trans (congrArg _ (State.doDetectorWindowEnd_of_lt h))
  · rintro ch n a c rfl hen hprod hstart ha hdead hskip hthr hfirst hsample hafter
    have habove : s.aboveAt ch n = true := by simp [State.aboveAt, hsample, hskip, hthr]
    obtain ⟨fs, hfire⟩ := State.doImpulseFire_fires (State.fires_of_first hen hprod hstart ha hdead habove hfirst hafter)
    obtain ⟨hlo, hhi, hpeak⟩ := (s.chan ch).peakAt_spec n
    refine ⟨_, s.peakProposal ch ((s.chan ch).peakAt n), (s.chan ch).peakAt n,
      (hs.next_cxDo fun s => s.doImpulseFire ch n).trans (congrArg _ hfire), hlo, hhi, hpeak, rfl, rfl, rfl, rfl, rfl, ?_, rfl⟩
    exact State.chan_onChan (hch ch) _
  · intro ch n h
    exact (hs.next_cxDo fun s => s.doImpulseFire ch n).trans
      (congrArg _ (State.doImpulseFire_of_not_fires (State.not_fires h)))
  · intro ch n a k hstart ha hdead hk habove hheld
    exact (hs.next_cxDo fun s => s.doImpulseFire ch n).trans
      (congrArg _ (State.doImpulseFire_of_not_fires (State.not_fires_of_earlier hstart ha hdead hk habove hheld)))
  · intro n k phi hlen hen hrun
    have hexec := hs.next_cxDo fun s => s.doTriggerEdge n k phi (s.rdB F.TRG_EXT_EDGE n)
    refine ⟨fun hnone => ?_, fun a ha hdead => ?_⟩
    · refine ⟨_, _, hexec.trans (congrArg _ (State.doTriggerEdge_first hen hrun phi.isLt hnone)), rfl, ?_,
        s.reached_toCount k, ?_⟩
      · simp only [State.propose, State.onTrg_trg, State.toCount_trg]
      · rw [s.toCount_only k]
        rfl
    · refine ⟨_, hexec.trans (congrArg _ (State.doTriggerEdge_dead hen hrun phi.isLt ha hdead)), ?_, s.reached_toCount k, ?_⟩
      · simp only [State.onTrg_trg, State.toCount_trg]
      · rw [s.toCount_only k]
        rfl
  · intro n k phi falling h
    exact (hs.next_cxDo fun s => s.doTriggerEdge n k phi falling).trans (congrArg _ (State.doTriggerEdge_ignored h))
end

section
/-! SUPPORT. Footprints with registers: the parts of the module and the registers outside the blocks QUE, FAU and PMC that a run of
operations leaves (R233, R243, R438, R451). -/

namespace Sys2Proof.Machine

/-- t is a sound state that differs from r in the parts of the mask m alone, and in the registers of l alone outside the blocks
QUE, FAU and PMC. Of the weights of a mask the free values have 2, registers 4, the clock 16, time 64, queues 256, channels 16384 and
the cue engine with the ring 524288. -/
structure MainKept (m : Nat) (l : List Nat) (r t : State) : Prop where
  kept : Kept m r t
  main : r.sameMain t l

/-- May an operation that is to keep every main register but those of l write address a? -/
abbrev MayWrite (l : List Nat) (a : Nat) : Prop := a ∈ l ∨ (0x200000 ≤ a ∧ a < 0x240000) ∨ 0x380000 ≤ a

theorem State.sameMain.trans {s t u : State} {l : List Nat} (h : s.sameMain t l) (g : t.sameMain u l) : s.sameMain u l :=
  fun b hq hb hl => (g b hq hb hl).trans (h b hq hb hl)

section
variable {m : Nat} {r t : State} (h : Kept m r t)
include h

theorem Kept.clk (hm : hasBit m 16 = false) : t.clk = r.clk := by
  rw [h.eq_withParts]
  simp only [State.withParts, hm, cond_false]

theorem Kept.chans_eq (hm : hasBit m 16384 = false) : t.chans = r.chans := by
  rw [h.eq_withParts]
  simp only [State.withParts, hm, cond_false]

theorem Kept.trg (hm : hasBit m 524288 = false) : t.trg = r.trg := by
  rw [h.eq_withParts]
  simp only [State.withParts, hm, cond_false]

theorem Kept.mono {m' : Nat} (hm : m &&& m' = m) : Kept m' r t :=
  ⟨h.regs, h.banks, h.ports, h.que, h.lanes, h.chans, h.regions, only_trans rfl hm h.only⟩

end

/-! ### Packets stored in another queue than that of class 0 (R233) -/

section
variable {m : Nat} {r s : State} {q : Nat} (hq : q ≠ 0)
include hq

/-- With no space the producer waits, and no report is made. -/
theorem State.pushPkt_eq (s : State) (p : Packet) : s.pushPkt q p =
    if (s.queue q).blocked = [] ∧ (s.queue q).fill + p.words.length ≤ queueCap q then s.enqueue q p
    else (s.onQueue q fun x => { x with blocked := x.blocked ++ [p] }).flag F.QUE_EVT 1 := by
  rw [State.pushPkt, if_neg hq]

theorem Kept.pushPkt (h : Kept m r s) (hm : 324 &&& m = 324) (p : Packet) : Kept m r (s.pushPkt q p) := by
  rw [State.pushPkt_eq hq]
  exact ite_kept (State.enqueue_kept s q p h hm)
    (State.flag_kept _ _ _ (State.onQueue_kept s q _ h (mask_sub hm rfl)) (mask_sub hm rfl))

end

theorem State.enqueue_regs (s : State) (q : Nat) (p : Packet) : (s.enqueue q p).regs =
    ((s.onQueue q fun x => { x with waiting := x.waiting ++ [{ p with at_ := s.clk.count }] }).hwm q).regs := by
  unfold State.enqueue State.noteT48
  split
  · split
    · rfl
    · split <;> rfl
  · rfl

/-! ### Operations -/

section
variable {m : Nat} {l : List Nat} {r t u : State}

theorem MainKept.refl (h : r.Sound) (m : Nat) (l : List Nat) : MainKept m l r r := ⟨h.kept m, fun _ _ _ _ => rfl⟩

variable (h : MainKept m l r t)
include h

theorem MainKept.trans (g : MainKept m l t u) : MainKept m l r u :=
  ⟨⟨g.kept.regs, g.kept.banks, g.kept.ports, g.kept.que, g.kept.lanes, g.kept.chans, g.kept.regions,
    g.kept.only.trans h.kept.only⟩, h.main.trans g.main⟩

theorem MainKept.mono {m' : Nat} {l' : List Nat} (hm : m &&& m' = m) (hl : l ⊆ l') : MainKept m' l' r t :=
  ⟨h.kept.mono hm, fun b hq hb hn => h.main b hq hb fun hb' => hn (hl hb')⟩

/-- An operation that leaves the registers. -/
theorem MainKept.of_regs (hk : Kept m r u) (e : u.regs = t.regs) : MainKept m l r u :=
  ⟨hk, fun b hq hb hl => (State.sameRegs_of_regs e [] b List.not_mem_nil).trans (h.main b hq hb hl)⟩

theorem MainKept.regPut (hm : 4 &&& m = 4) {a : Nat} (ha : MayWrite l a) (w : Word) : MainKept m l r (t.regPut a w) :=
  ⟨State.regPut_kept a w h.kept hm, fun b hq hb hl =>
    (State.sameRegs_regPut h.kept.regs a w b fun hmem => by
      obtain rfl := List.mem_singleton.1 hmem
      rcases ha with ha | ha | ha
      · exact hl ha
      all_goals omega).trans (h.main b hq hb hl)⟩

theorem MainKept.wr (hm : 4 &&& m = 4) (f : Fld) (i : Nat) (hf : MayWrite l (f.addr i)) (v : Nat) :
    MainKept m l r (t.wr f i v) := h.regPut hm hf _

theorem MainKept.flag (hm : 4 &&& m = 4) {a : Nat} (ha : MayWrite l a) (k : Nat) : MainKept m l r (t.flag a k) :=
  h.regPut hm ha _

theorem MainKept.count (hm : 4 &&& m = 4) (e loc n : Nat) : MainKept m l r (t.count e loc n) :=
  ⟨State.count_kept t e loc n h.kept hm, fun b hq hb hl =>
    (((LowKept.refl h.kept.regs).count e loc n).low b hb).trans (h.main b hq hb hl)⟩

theorem MainKept.onTrg (hm : 524288 &&& m = 524288) (f : Trg → Trg) : MainKept m l r (t.onTrg f) :=
  h.of_regs (State.onTrg_kept t f h.kept hm) rfl

theorem MainKept.toCount (hm : 16 &&& m = 16) (n : Nat) : MainKept m l r (t.toCount n) :=
  h.of_regs (State.toCount_kept t n h.kept hm) (t.toCount_regs n)

theorem MainKept.hwm (hm : 4 &&& m = 4) {q : Nat} (hq : q < 12) : MainKept m l r (t.hwm q) :=
  h.wr hm _ _ (.inr (.inl (by simp only [Fld.addr]; omega))) _

/-- A packet of class 1, 2 or 3 is stored, or waits. -/
theorem MainKept.pushPkt (hm : 324 &&& m = 324) {q : Nat} (hq : q ≠ 0) (hq' : q < 12) (p : Packet) :
    MainKept m l r (t.pushPkt q p) := by
  have hque (f : Queue → Queue) : MainKept m l r (t.onQueue q f) :=
    h.of_regs (State.onQueue_kept t q f h.kept (mask_sub hm rfl)) rfl
  refine ⟨h.kept.pushPkt hq hm p, ?_⟩
  rw [State.pushPkt_eq hq]
  split
  · exact (((hque _).hwm (mask_sub hm rfl) hq').of_regs (State.enqueue_kept t q p h.kept hm) (t.enqueue_regs q p)).main
  · exact ((hque _).flag (mask_sub hm rfl) (.inr (.inl (by decide))) 1).main

/-- A cue record or a mark (R183). -/
theorem MainKept.pushCue (hm : 324 &&& m = 324) (disp conds loc c frac id w3 set : Nat) :
    MainKept m l r (t.pushCue disp conds loc c frac id w3 set) := by
  unfold State.pushCue
  dsimp only
  split
  · exact h.pushPkt hm (by decide) (by decide) _
  · exact h.pushPkt hm (by decide) (by decide) _

theorem MainKept.pushMark (hm : 324 &&& m = 324) (kind c source k n : Nat) : MainKept m l r (t.pushMark kind c source k n) :=
  h.pushCue hm ..

/-! ### What is read afterwards -/

theorem MainKept.rd {f : Fld} {i : Nat} (hf : f.addr i < 0x200000) (hl : f.addr i ∉ l) : t.rd f i = r.rd f i :=
  State.rd_of_regGet (h.main _ (.inl hf) (by omega) hl)

end

end Sys2Proof.Machine
end

section
/-! SUPPORT. From proposal to cue (R177, R179, R180, R189, R202): what the engine makes of a proposal at the prescaler, at the blind
check and at its acceptance. -/

namespace Sys2Proof.Machine

/-! ### Combiners (R177) -/

/-- With no firing that waits the combiners have nothing to decide. -/
theorem State.combineAll_idle {s : State} (h : ∀ l ∈ s.trg.firings, l = []) : s.combineAll = s := by
  have hnone (g : Nat) : s.trg.firings.getD g [] = [] := by
    rw [List.getD_eq_getElem?_getD]
    rcases hg : s.trg.firings[g]? with _ | l
    · rfl
    · exact h l (List.mem_of_getElem? hg)
  unfold State.combineAll State.forEach
  induction List.range 16 with
  | nil => rfl
  | cons g l ih => rw [List.foldl_cons, hnone]; exact ih

/-! ### Prescaler (R189) -/

/-- The number of a proposal among those of its source (R180). -/
def State.proposalNo (s : State) (p : Proposal) : Nat := (s.trg.sources.getD p.bit {}).pcount + 1

/-- The engine has counted a proposal. -/
def State.counted (s : State) (p : Proposal) : State :=
  (s.count (0x100 + p.bit) p.loc 1).onTrg fun t =>
    { t with sources := t.sources.modify p.bit fun x =>
        { x with pcount := (s.count (0x100 + p.bit) p.loc 1).proposalNo p } }

/-- The proposal does not pass (R189). -/
def State.missed (s : State) (p : Proposal) : State :=
  ((s.counted p).satAdd F.TRG_SRC_STAT_NOT_PASSED p.bit 1).onTrg fun t =>
    { t with sources := t.sources.modify p.bit fun x => { x with missed := x.missed + 1 } }

/-- The channels of a cue of this proposal (R179). -/
def State.cueSet (s : State) (p : Proposal) : Nat := s.scopeSet p &&& s.trg.map

/-- Is every channel of a proposal past its count (R180, step 2)? -/
def State.tooOld (s : State) (p : Proposal) : Bool :=
  !(mapChans (s.cueSet p)).isEmpty && (mapChans (s.cueSet p)).all fun ch => decide (p.c < s.vOf ch)

theorem State.takeProposal_off {s : State} {p : Proposal} (h : s.rdB F.TRG_CTL_EN = false ∨ s.trg.running = false) :
    s.takeProposal p = s := by
  refine if_pos ?_
  rcases h with h | h <;> simp [h]

/-- The engine with a proposal that has passed the blind check taken into a cue (R180, steps 3 and 4). -/
def State.taken (s : State) (p : Proposal) : State :=
  (s.onTrg fun t => { t with lastBlind := false }).acceptProposal p (s.cueSet p)

/-- The same, with the freeze that it asks for (R193). -/
def State.takeSeen (s : State) (p : Proposal) : State :=
  if p.stop then
    match (s.taken p).trg.cues.find? fun q => q.c == p.c with
    | some q => (s.taken p).requestFreeze (nextMultiple 64 (q.c + q.post))
    | none => s.taken p
  else s.taken p

theorem State.takeSeen_of_not_stop {s : State} {p : Proposal} (h : p.stop = false) : s.takeSeen p = s.taken p :=
  if_neg (ne_true_of_eq_false h)

theorem State.takeSeen_of_stop {s : State} {p : Proposal} (h : p.stop = true) {q : Cue}
    (hq : (s.taken p).trg.cues.find? (fun q => q.c == p.c) = some q) :
    s.takeSeen p = (s.taken p).requestFreeze (nextMultiple 64 (q.c + q.post)) := by
  rw [State.takeSeen, if_pos h, hq]

section
variable {s : State} (hs : s.Sound) (p : Proposal)
include hs

theorem State.Sound.count_trg (e l n : Nat) : (s.count e l n).trg = s.trg := (State.count_kept s e l n (hs.kept 4) rfl).trg rfl

theorem State.Sound.counted_main : MainKept 524292 [] s (s.counted p) := ((MainKept.refl hs _ _).count rfl _ _ _).onTrg rfl _

theorem State.Sound.counted_trg : (s.counted p).trg =
    { s.trg with sources := s.trg.sources.modify p.bit fun x => { x with pcount := s.proposalNo p } } := by
  simp only [State.counted, State.onTrg_trg, State.proposalNo, hs.count_trg]

/-- Counting a proposal leaves what the ring says of its channels. -/
theorem State.Sound.vOf_counted (ch : Nat) : (s.counted p).vOf ch = s.vOf ch := by
  have hchan : (s.counted p).chan ch = s.chan ch := State.chan_of_chans ((hs.counted_main p).kept.chans_eq rfl) ch
  simp only [State.vOf, hchan, State.ringB, State.ringN, hs.counted_trg p]

/-- The fields of a cue source stand below the blocks that an operation writes by the way. -/
theorem State.Sound.rd_counted {f : Fld} (hf : f.addr p.bit < 0x200000) : (s.counted p).rd f p.bit = s.rd f p.bit :=
  (hs.counted_main p).rd hf List.not_mem_nil

theorem State.Sound.ringState_counted : (s.counted p).ringState = s.ringState :=
  (hs.counted_main p).rd (by decide) List.not_mem_nil

end

/-- The fields of a cue source that the engine reads (R202). -/
def sourceFields : List Fld :=
  [F.TRG_SRC_CFG_REC_EN, F.TRG_SRC_CFG_SNIP_EN, F.TRG_SRC_CFG_SCOPE, F.TRG_SRC_WIN_PRE_BLK, F.TRG_SRC_WIN_POST_BLK,
    F.TRG_SRC_BUDGET_BYTES_PER_S, F.TRG_SRC_STAT_K, F.TRG_SRC_STAT_NOT_PASSED, F.TRG_SRC_MAP_LO_MAP, F.TRG_SRC_MAP_HI_MAP]

theorem sourceFields_place : ∀ f ∈ sourceFields, f.base < 0x190000 ∧ f.stride ≤ 16 := by decide

theorem sourceField_addr {f : Fld} (hf : f ∈ sourceFields) {i : Nat} (hi : i < 9) : f.addr i < 0x200000 := by
  obtain ⟨hbase, hstride⟩ := sourceFields_place f hf
  have := Nat.mul_le_mul hstride hi.le
  rw [Fld.addr]
  omega

section
variable {s : State} (hs : s.Sound) {p : Proposal} (hbit : p.bit < 9)
include hs hbit

theorem State.Sound.cueSet_counted : (s.counted p).cueSet p = s.cueSet p := by
  simp only [State.cueSet, State.scopeSet, hs.rd_counted p (sourceField_addr (f := F.TRG_SRC_CFG_SCOPE) (by decide) hbit),
    hs.rd_counted p (sourceField_addr (f := F.TRG_SRC_MAP_LO_MAP) (by decide) hbit),
    hs.rd_counted p (sourceField_addr (f := F.TRG_SRC_MAP_HI_MAP) (by decide) hbit), hs.counted_trg p]

theorem State.Sound.tooOld_counted : (s.counted p).tooOld p = s.tooOld p := by
  simp only [State.tooOld, hs.cueSet_counted hbit, hs.vOf_counted p]

variable (hen : s.rdB F.TRG_CTL_EN = true) (hrun : s.trg.running = true)
include hen hrun

/-- The engine's way with a proposal: prescaler, blind check, acceptance (R180). -/
theorem State.Sound.takeProposal_on : s.takeProposal p =
    if s.proposalNo p % 2 ^ s.rd F.TRG_SRC_STAT_K p.bit ≠ 0 then s.missed p
    else if s.ringState = ringFrozen ∨ s.ringState = ringRearming ∨ s.tooOld p = true then (s.counted p).blindProposal p
    else (s.counted p).takeSeen p := by
  have hno : (s.count (0x100 + p.bit) p.loc 1).proposalNo p = s.proposalNo p := by
    rw [State.proposalNo, hs.count_trg, State.proposalNo]
  rw [← hno, ← hs.rd_counted p (sourceField_addr (f := F.TRG_SRC_STAT_K) (by decide) hbit), ← hs.ringState_counted p,
    ← hs.tooOld_counted hbit]
  refine (if_neg ?_).trans rfl
  simp [hen, hrun]

theorem State.Sound.takeProposal_missed (h : s.proposalNo p % 2 ^ s.rd F.TRG_SRC_STAT_K p.bit ≠ 0) :
    s.takeProposal p = s.missed p :=
  (hs.takeProposal_on hbit hen hrun).trans (if_pos h)

variable (hpass : s.proposalNo p % 2 ^ s.rd F.TRG_SRC_STAT_K p.bit = 0)
include hpass

theorem State.Sound.takeProposal_blind (h : s.ringState = ringFrozen ∨ s.ringState = ringRearming) :
    s.takeProposal p = (s.counted p).blindProposal p :=
  (hs.takeProposal_on hbit hen hrun).trans ((if_neg (not_not.2 hpass)).trans (if_pos (or_assoc.1 (.inl h))))

/-- An armed ring that holds the proposal's count for one of its channels is not blind to it (R180, step 2). -/
theorem State.Sound.takeProposal_seen (harmed : s.ringState = ringArmed) (h : ∃ ch ∈ mapChans (s.cueSet p), s.vOf ch ≤ p.c) :
    s.takeProposal p = (s.counted p).takeSeen p := by
  obtain ⟨ch, hch, hv⟩ := h
  have hall : ((mapChans (s.cueSet p)).all fun ch => decide (p.c < s.vOf ch)) = false :=
    List.all_eq_false.2 ⟨ch, hch, by simpa using hv⟩
  have hold : s.tooOld p = false := by rw [State.tooOld, hall, Bool.and_false]
  refine (hs.takeProposal_on hbit hen hrun).trans ((if_neg (not_not.2 hpass)).trans (if_neg ?_))
  rw [harmed, hold]
  decide

end

/-! ### A proposal that does not pass (R189) -/

theorem getD_modify_same {a : Type} {l : List a} {i : Nat} (h : i < l.length) (f : a → a) (d : a) :
    (l.modify i f).getD i d = f (l.getD i d) := by
  simp [List.getD_eq_getElem?_getD, h]

theorem getD_modify_ne {a : Type} (l : List a) {i j : Nat} (h : j ≠ i) (f : a → a) (d : a) :
    (l.modify i f).getD j d = l.getD j d := by
  simp [List.getD_eq_getElem?_getD, h.symm]

/-- A count field holds the sum, or its greatest value. -/
theorem State.rd_satAdd {s : State} (h : tableWf coldWord s.regs = true) {f : Fld} (hf : f.lo + f.width ≤ 32) (i n : Nat) :
    (s.satAdd f i n).rd f i = min (2 ^ f.width - 1) (s.rd f i + n) := by
  have hpos := Nat.two_pow_pos f.width
  rw [State.satAdd, State.rd_wr h f i _ hf]
  exact Nat.mod_eq_of_lt (by omega)

theorem State.Sound.missed_outcome {s : State} (hs : s.Sound) {p : Proposal} (hbit : p.bit < 9)
    (hlen : s.trg.sources.length = 9) :
    (s.missed p).rd F.TRG_SRC_STAT_NOT_PASSED p.bit =
      min (2 ^ F.TRG_SRC_STAT_NOT_PASSED.width - 1) (s.rd F.TRG_SRC_STAT_NOT_PASSED p.bit + 1) ∧
    ((s.missed p).trg.sources.getD p.bit {}).pcount = s.proposalNo p ∧ (s.missed p).trg.cues = s.trg.cues ∧
    (s.missed p).trg.nextId = s.trg.nextId ∧ MainKept 524292 [F.TRG_SRC_STAT + 16 * p.bit] s (s.missed p) := by
  have hcount := (hs.counted_main p).mono (m' := 524292) rfl (List.nil_subset [F.TRG_SRC_STAT + 16 * p.bit])
  have htrg : (s.missed p).trg = { s.trg with
      sources := (s.trg.sources.modify p.bit fun x => { x with pcount := s.proposalNo p }).modify p.bit
        fun x => { x with missed := x.missed + 1 } } := by
    simp only [State.missed, State.onTrg_trg, State.satAdd_trg, hs.counted_trg]
  rw [htrg]
  refine ⟨?_, ?_, rfl, rfl, (hcount.wr rfl _ _ (.inl (List.mem_singleton.2 rfl)) _).onTrg rfl _⟩
  · rw [← hs.rd_counted p (sourceField_addr (f := F.TRG_SRC_STAT_NOT_PASSED) (by decide) hbit)]
    exact State.rd_satAdd hcount.kept.regs (by decide) _ _
  · rw [getD_modify_same (by simpa [hlen] using hbit), getD_modify_same (by simpa [hlen] using hbit)]

/-! ### A blind proposal (R180, step 2) -/

/-- The state after a blind proposal was counted. -/
def State.blindCounted (s : State) : State :=
  (((s.satAdd F.TRG_BLIND_TOTAL_COUNT 0 1).flag F.TRG_EVT 1).count 0x10A s.locCx 1).onTrg fun t =>
    { t with blindRun := t.blindRun + 1 }

section
variable {s : State} (hs : s.Sound)
include hs

theorem State.Sound.blindCounted_main : MainKept 524292 [F.TRG_EVT] (s.satAdd F.TRG_BLIND_TOTAL_COUNT 0 1) s.blindCounted :=
  have hsound := (State.satAdd_kept s F.TRG_BLIND_TOTAL_COUNT 0 1 (hs.kept 4) rfl).sound
  (((MainKept.refl hsound _ _).flag rfl (.inl (by decide)) 1).count rfl _ _ _).onTrg rfl _

theorem State.Sound.blindCounted_trg : s.blindCounted.trg = { s.trg with blindRun := s.trg.blindRun + 1 } := by
  have hsound := (State.flag_kept _ F.TRG_EVT 1 (State.satAdd_kept s F.TRG_BLIND_TOTAL_COUNT 0 1 (hs.kept 4) rfl) rfl).sound
  simp only [State.blindCounted, State.onTrg_trg, hsound.count_trg, State.flag_trg, State.satAdd_trg]

theorem State.Sound.blindProposal_outcome (p : Proposal) :
    (s.blindProposal p).trg = { s.trg with blindRun := s.trg.blindRun + 1, lastBlind := true } ∧
    (s.blindProposal p).rd F.TRG_BLIND_TOTAL_COUNT = min (2 ^ 32 - 1) (s.rd F.TRG_BLIND_TOTAL_COUNT + 1) ∧
    MainKept 524612 [F.TRG_BLIND_TOTAL, F.TRG_EVT] s (s.blindProposal p) := by
  obtain ⟨v, hv, htrg, hmain⟩ : ∃ v : State, s.blindProposal p = v.onTrg (fun t => { t with lastBlind := true }) ∧
      v.trg = s.blindCounted.trg ∧ MainKept 524612 [F.TRG_EVT] (s.satAdd F.TRG_BLIND_TOTAL_COUNT 0 1) v := by
    have hc := hs.blindCounted_main.mono (m' := 524612) rfl (List.Subset.refl _)
    refine ⟨if s.blindCounted.trg.lastBlind then s.blindCounted else s.blindCounted.pushMark markBlind p.c 0 0 0, rfl, ?_, ?_⟩
    · split
      · rfl
      · exact ((MainKept.refl (l := []) hc.kept.sound 324).pushMark rfl ..).kept.trg rfl
    · split
      · exact hc
      · exact hc.pushMark rfl ..
  rw [hv]
  refine ⟨?_, ?_, ?_⟩
  · rw [State.onTrg_trg, htrg, hs.blindCounted_trg]
  · exact (hmain.rd (f := F.TRG_BLIND_TOTAL_COUNT) (i := 0) (by decide) (by decide)).trans
      (State.rd_satAdd hs.regs (by decide) 0 1)
  · have hsum : MainKept 524612 [F.TRG_BLIND_TOTAL, F.TRG_EVT] s (s.satAdd F.TRG_BLIND_TOTAL_COUNT 0 1) :=
      (MainKept.refl hs _ _).wr rfl _ _ (.inl (by decide)) _
    exact (hsum.trans (hmain.mono rfl (List.subset_cons_self _ _))).onTrg rfl _

end

/-! ### A proposal that is accepted (R180, R182, R185) -/

/-- The cue that a proposal opens. -/
def State.newCue (s : State) (p : Proposal) (set : Nat) : Cue :=
  { c := p.c, frac := p.frac, id := s.trg.nextId, conds := 2 ^ p.bit, loc := p.loc, set := set
    pre := 64 * s.rd F.TRG_SRC_WIN_PRE_BLK p.bit, post := 64 * s.rd F.TRG_SRC_WIN_POST_BLK p.bit
    record := s.rdB F.TRG_SRC_CFG_REC_EN p.bit, snip := s.rdB F.TRG_SRC_CFG_SNIP_EN p.bit
    peak := p.peak, members := p.members, clip := p.clip, freezes := p.stop }

theorem State.newCue_congr {s t : State} {p : Proposal} (hrd : ∀ f ∈ sourceFields, t.rd f p.bit = s.rd f p.bit)
    (hid : t.trg.nextId = s.trg.nextId) (set : Nat) : t.newCue p set = s.newCue p set := by
  simp only [State.newCue, State.rdB, hid, hrd F.TRG_SRC_WIN_PRE_BLK (by decide), hrd F.TRG_SRC_WIN_POST_BLK (by decide),
    hrd F.TRG_SRC_CFG_REC_EN (by decide), hrd F.TRG_SRC_CFG_SNIP_EN (by decide)]

/-- The engine with the new cue open. -/
def State.openCue (s : State) (p : Proposal) (set : Nat) : State :=
  s.onTrg fun t => { t with
    nextId := if s.trg.nextId = 2 ^ 24 - 1 then 1 else s.trg.nextId + 1, cues := t.cues ++ [s.newCue p set] }

/-- A channel's stream is to flag a cue accepted now (R182). -/
def State.flagCue (s : State) (ch : Nat) : State := s.onChan ch fun c => { c with cue := s.clk.count :: c.cue }

theorem State.acceptProposal_new {s : State} {p : Proposal} (h : ∀ q ∈ s.trg.cues, q.c ≠ p.c) (set : Nat) :
    s.acceptProposal p set = (((s.openCue p set).forEach (mapChans set) State.flagCue).count 0x109
      ((s.openCue p set).forEach (mapChans set) State.flagCue).locCx 1).pulseOut p.bit := by
  have hany : (s.trg.cues.any fun q => q.c == p.c) = false := by
    simpa only [List.any_eq_false, beq_iff_eq] using h
  exact if_neg (ne_true_of_eq_false hany)

theorem mem_mapChans {m ch : Nat} : ch ∈ mapChans m ↔ ch < 64 ∧ m.testBit ch = true := by
  simp [mapChans, allChans]

theorem nodup_mapChans (m : Nat) : (mapChans m).Nodup := List.nodup_range.filter _

/-- Flagging a cue for the channels of a list leaves all but channels. -/
theorem State.forEach_flagCue_eq (s : State) (l : List Nat) :
    s.forEach l State.flagCue = { s with chans := (s.forEach l State.flagCue).chans } := by
  unfold State.forEach
  induction l generalizing s with
  | nil => rfl
  | cons ch l ih => exact ih (s.flagCue ch)

theorem State.chan_forEach_flagCue {s : State} {l : List Nat} (hl : l.Nodup) {ch : Nat} (hch : ch < s.chans.length) :
    ((s.forEach l State.flagCue).chan ch).cue =
      if ch ∈ l then s.clk.count :: (s.chan ch).cue else (s.chan ch).cue := by
  unfold State.forEach
  induction l generalizing s with
  | nil => rfl
  | cons x l ih =>
    obtain ⟨hx, hl⟩ := List.nodup_cons.1 hl
    refine (ih (s := s.flagCue x) hl (by simpa [State.flagCue] using hch)).trans ?_
    by_cases h : ch = x
    · subst h
      rw [if_neg hx, if_pos List.mem_cons_self, State.flagCue, State.chan_onChan hch]
    · simp only [List.mem_cons, h, false_or, State.flagCue, State.chan_onChan_ne s h]
      rfl

theorem State.pulseOut_eq (s : State) (bit : Nat) : ∃ o, s.pulseOut bit = s.onTrg fun t => { t with outUntil := o } := by
  unfold State.pulseOut
  split <;> exact ⟨_, rfl⟩

section
variable {s : State} (hs : s.Sound) (p : Proposal) (set : Nat)
include hs

theorem State.Sound.openCue_main :
    MainKept 540676 [] s ((s.openCue p set).forEach (mapChans set) State.flagCue) := by
  have hopen : MainKept 540676 [] s (s.openCue p set) := (MainKept.refl hs _ _).onTrg rfl _
  refine hopen.of_regs (State.forEach_kept hopen.kept fun s ch h => State.onChan_kept s ch _ h rfl) ?_
  rw [State.forEach_flagCue_eq]

/-- The acceptance of a new cue (R180, R182). -/
theorem State.Sound.acceptProposal_new_outcome (hnew : ∀ q ∈ s.trg.cues, q.c ≠ p.c) :
    (∃ o, (s.acceptProposal p set).trg = { (s.openCue p set).trg with outUntil := o }) ∧
    (∀ ch < 64, ((s.acceptProposal p set).chan ch).cue =
      if set.testBit ch then s.clk.count :: (s.chan ch).cue else (s.chan ch).cue) ∧
    MainKept 540676 [] s (s.acceptProposal p set) := by
  rw [State.acceptProposal_new hnew]
  have hmain := hs.openCue_main p set
  have hcount := State.count_kept _ 0x109 ((s.openCue p set).forEach (mapChans set) State.flagCue).locCx 1
    (hmain.kept.sound.kept 4) rfl
  obtain ⟨o, ho⟩ := State.pulseOut_eq
    (State.count _ 0x109 ((s.openCue p set).forEach (mapChans set) State.flagCue).locCx 1) p.bit
  rw [ho]
  refine ⟨⟨o, ?_⟩, fun ch hch => ?_, (hmain.count rfl _ _ _).onTrg rfl _⟩
  · rw [State.onTrg_trg, hcount.trg rfl, State.forEach_flagCue_eq]
  · refine (congrArg Chan.cue (State.chan_of_chans (hcount.chans_eq rfl) ch)).trans ?_
    rw [State.chan_forEach_flagCue (nodup_mapChans set) (s := s.openCue p set) (by simpa [State.openCue, hs.chans] using hch)]
    simp only [mem_mapChans, hch, true_and]
    rfl

omit hs in
/-- With a cue of its count open already, a proposal joins it (R180, step 3). -/
theorem State.acceptProposal_join (h : ∃ q ∈ s.trg.cues, q.c = p.c) : ∃ f : Cue → Cue, (∀ q, (f q).c = q.c) ∧
    s.acceptProposal p set = s.onTrg fun t => { t with cues := t.cues.map f } := by
  have hany : (s.trg.cues.any fun q => q.c == p.c) = true := by simpa only [List.any_eq_true, beq_iff_eq] using h
  refine ⟨_, fun q => ?_, if_pos hany⟩
  split <;> rfl

/-- Whether a proposal joins a cue or opens one, a cue of its count is open then, and the engine runs as it did. -/
theorem State.Sound.acceptProposal_outcome : MainKept 540676 [] s (s.acceptProposal p set) ∧
    (s.acceptProposal p set).trg.running = s.trg.running ∧ ∃ q ∈ (s.acceptProposal p set).trg.cues, q.c = p.c := by
  by_cases h : ∃ q ∈ s.trg.cues, q.c = p.c
  · obtain ⟨f, hf, hjoin⟩ := State.acceptProposal_join p set h
    obtain ⟨q, hq, hc⟩ := h
    rw [hjoin]
    exact ⟨(MainKept.refl hs _ _).onTrg rfl _, rfl, f q, List.mem_map_of_mem hq, (hf q).trans hc⟩
  · obtain ⟨⟨o, htrg⟩, -, hmain⟩ := hs.acceptProposal_new_outcome p set fun q hq hc => h ⟨q, hq, hc⟩
    rw [htrg]
    exact ⟨hmain, rfl, s.newCue p set, List.mem_append_right _ (List.mem_singleton.2 rfl), rfl⟩

end

/-! ### The freeze (R193) -/

/-- The freeze that an armed ring takes: Z is a multiple of 64 (R193, step 1). -/
theorem State.requestFreeze_armed {s : State} (harmed : s.ringState = ringArmed) (hrun : s.trg.running = true) {z : Nat}
    (hz : z % 64 = 0) : ∃ z', z' % 64 = 0 ∧
      s.requestFreeze z = (s.setRingState ringPending).onTrg fun t => { t with z := some z' } := by
  refine ⟨_, ?_, if_pos ⟨harmed, hrun⟩⟩
  split
  · exact nextMultiple_mod 64 _
  · exact hz

section
variable {s : State} (hs : s.Sound) {p : Proposal}
include hs

theorem State.Sound.seen_main : MainKept 540676 [] s (s.onTrg fun t => { t with lastBlind := false }) :=
  (MainKept.refl hs _ _).onTrg rfl _

/-- A proposal that asks for the freeze and finds the ring armed (R164, R193). -/
theorem State.Sound.takeSeen_stop (harmed : s.ringState = ringArmed) (hrun : s.trg.running = true) (hstop : p.stop = true) :
    ∃ z, z % 64 = 0 ∧ (s.takeSeen p).trg.z = some z ∧ (s.takeSeen p).ringState = ringPending ∧
      MainKept 540676 [F.TRG_CTL] s (s.takeSeen p) := by
  obtain ⟨haccept, hrun', q, hq, hc⟩ := hs.seen_main.kept.sound.acceptProposal_outcome p (s.cueSet p)
  obtain ⟨y, hy⟩ := Option.isSome_iff_exists.1
    ((List.find?_isSome (p := fun q : Cue => q.c == p.c)).2 ⟨q, hq, beq_iff_eq.2 hc⟩)
  have htaken : MainKept 540676 [] s (s.taken p) := hs.seen_main.trans haccept
  have hstate : (s.taken p).ringState = ringArmed :=
    (htaken.rd (f := F.TRG_CTL_RING_STATE) (i := 0) (by decide) List.not_mem_nil).trans harmed
  obtain ⟨z, hz, hfreeze⟩ := State.requestFreeze_armed hstate (hrun'.trans hrun) (nextMultiple_mod 64 (y.c + y.post))
  have hmain := htaken.mono (m' := 540676) rfl (List.nil_subset [F.TRG_CTL])
  rw [State.takeSeen_of_stop hstop hy, hfreeze]
  exact ⟨z, hz, rfl, State.rd_wr hmain.kept.regs _ 0 _ (by decide), (hmain.wr rfl _ _ (.inl (by decide)) _).onTrg rfl _⟩

/-- A proposal with a count that no open cue has, of a source that asks for no freeze, opens a cue (R180, step 4). -/
theorem State.Sound.takeSeen_new (hnew : ∀ q ∈ s.trg.cues, q.c ≠ p.c) (hstop : p.stop = false) :
    (s.takeSeen p).trg.cues = s.trg.cues ++ [s.newCue p (s.cueSet p)] ∧
    (s.takeSeen p).trg.nextId = (if s.trg.nextId = 2 ^ 24 - 1 then 1 else s.trg.nextId + 1) ∧
    (s.takeSeen p).trg.lastBlind = false ∧
    (∀ ch < 64, ((s.takeSeen p).chan ch).cue =
      if (s.cueSet p).testBit ch then s.clk.count :: (s.chan ch).cue else (s.chan ch).cue) ∧
    MainKept 540676 [] s (s.takeSeen p) := by
  obtain ⟨⟨o, htrg⟩, hcue, hmain⟩ := hs.seen_main.kept.sound.acceptProposal_new_outcome p (s.cueSet p) hnew
  have hcues : (s.onTrg fun t => { t with lastBlind := false }).newCue p (s.cueSet p) = s.newCue p (s.cueSet p) :=
    State.newCue_congr (fun f _ => rfl) rfl _
  rw [State.takeSeen_of_not_stop hstop, State.taken, htrg, ← hcues]
  exact ⟨rfl, rfl, rfl, hcue, hs.seen_main.trans hmain⟩

end

/-! ### CUE_PROPOSAL -/

/-- The engine with a proposal off its way. -/
def State.arrived (s : State) (i : Nat) : State := s.onTrg fun t => { t with proposals := t.proposals.eraseIdx i }

theorem State.doCueProposal_eq {s : State} {i : Nat} {p : Proposal} (h : ∀ l ∈ s.trg.firings, l = [])
    (hp : s.trg.proposals[i]? = some p) : s.doCueProposal i = (s.arrived i).takeProposal p := by
  unfold State.doCueProposal
  rw [State.combineAll_idle h]
  dsimp only
  rw [hp, State.arrived]

end Sys2Proof.Machine

open Sys2Proof Sys2Proof.Machine

/-- Settles O19, by what the engine makes of a proposal: nothing, or it is missed, blind, a new cue or a freeze. -/
theorem cueEngine : Obligations.CueEngine := by
  rintro s i x n set hs hlen hfirings hx hbit rfl rfl
  have hexec : exec (.cueProposal i) s = .next ((s.arrived i).takeProposal x) :=
    (hs.next_cxDo fun s => s.doCueProposal i).trans (congrArg _ (State.doCueProposal_eq hfirings hx))
  have harrived (m : Nat) (l : List Nat) (hm : 524288 &&& m = 524288) : MainKept m l s (s.arrived i) :=
    (MainKept.refl hs.sound m l).onTrg hm _
  have hu : (s.arrived i).Sound := (harrived 524288 [] rfl).kept.sound
  have hcount := hu.counted_main x
  have htrg := hu.counted_trg x
  refine ⟨fun hoff => ?_, fun hen hrun => ⟨fun hmiss => ?_, fun hpass hring => ?_, fun hpass hring hheld hnew hstop => ?_,
    fun hpass hring hheld hstop => ?_⟩⟩
  · exact hexec.trans (congrArg _ (State.takeProposal_off hoff))
  · obtain ⟨hmissed, hno, hcues, hid, hmain⟩ := hu.missed_outcome hbit hlen
    have hall := (harrived 524292 _ rfl).trans hmain
    exact ⟨_, hexec.trans (congrArg _ (hu.takeProposal_missed hbit hen hrun hmiss)), hmissed, hno, hcues, hid, hall.main,
      hall.kept.eq_withParts⟩
  · obtain ⟨hblind, htotal, hmain⟩ := hcount.kept.sound.blindProposal_outcome x
    have hall := (harrived 524612 _ rfl).trans ((hcount.mono rfl (List.nil_subset _)).trans hmain)
    rw [hcount.rd (f := F.TRG_BLIND_TOTAL_COUNT) (i := 0) (by decide) (by decide)] at htotal
    rw [htrg] at hblind
    exact ⟨_, hexec.trans (congrArg _ (hu.takeProposal_blind hbit hen hrun hpass hring)), by rw [hblind]; rfl,
      by rw [hblind]; rfl, by rw [hblind], htotal, hall.main, hall.kept.eq_withParts⟩
  · obtain ⟨hcues, hid, hlast, hcue, hmain⟩ := hcount.kept.sound.takeSeen_new (p := x) (by rw [htrg]; exact hnew) hstop
    have hall := (harrived 540676 _ rfl).trans ((hcount.mono rfl (List.nil_subset _)).trans hmain)
    have hcue_eq := State.newCue_congr (s := s) (t := (s.arrived i).counted x) (p := x)
      (fun f hf => hu.rd_counted x (sourceField_addr hf hbit)) (by rw [htrg]; rfl)
    rw [hu.cueSet_counted hbit, hcue_eq] at hcues
    rw [hu.cueSet_counted hbit] at hcue
    have hchan (ch : Nat) : ((s.arrived i).counted x).chan ch = s.chan ch :=
      State.chan_of_chans (t := (s.arrived i).counted x) (hcount.kept.chans_eq rfl) ch
    have hclk : ((s.arrived i).counted x).clk = s.clk := hcount.kept.clk rfl
    refine ⟨_, s.newCue x _, hexec.trans (congrArg _ (hu.takeProposal_seen hbit hen hrun hpass hring hheld)),
      by rw [hcues, htrg]; rfl, rfl, rfl, rfl, rfl, rfl, rfl, rfl, rfl, rfl, rfl, by rw [hid, htrg]; rfl, hlast, fun ch => ?_,
      hall.main, hall.kept.eq_withParts⟩
    refine (hcue ch ch.isLt).trans ?_
    rw [hchan, hclk]
    rfl
  · obtain ⟨z, hz, hfreeze, hstate, hmain⟩ := hcount.kept.sound.takeSeen_stop (p := x) ((hu.ringState_counted x).trans hring)
      (by rw [htrg]; exact hrun) hstop
    have hall := (harrived 540676 _ rfl).trans ((hcount.mono rfl (List.nil_subset _)).trans hmain)
    exact ⟨_, z, hexec.trans (congrArg _ (hu.takeProposal_seen hbit hen hrun hpass hring hheld)), hstate, hfreeze, hz,
      hall.main, hall.kept.eq_withParts⟩
end

section
/-! SUPPORT. The close of a cue (R181, R183, R187), the trigger output (R185) and the budget intervals (R189). -/

namespace Sys2Proof.Machine

/-! ### The cue that closes (R181) -/

/-- Of two cues the one with the lower count, or the one that was there (R181). -/
def keepEarlier (best : Option Cue) (q : Cue) : Option Cue :=
  match best with
  | none => some q
  | some b => if q.c < b.c then some q else some b

/-- The open cue of the lowest count. -/
def State.nextToClose (s : State) : Option Cue := s.trg.cues.foldl keepEarlier none

theorem State.doCueClose_eq (s : State) : s.doCueClose =
    match s.nextToClose with
    | none => s
    | some q => (s.toCount (q.c + 32768)).closeCue q := rfl

theorem keepEarlier_cases (best : Option Cue) (x : Cue) : keepEarlier best x = some x ∧ (∀ b ∈ best, x.c < b.c) ∨
    ∃ b ∈ best, keepEarlier best x = some b ∧ b.c ≤ x.c := by
  rcases best with _ | b
  · exact .inl ⟨rfl, by simp⟩
  · by_cases h : x.c < b.c
    · exact .inl ⟨if_pos h, by simpa using h⟩
    · exact .inr ⟨b, rfl, if_neg h, Nat.not_lt.1 h⟩

/-- A run along a list that keeps the earlier cue ends at one that is earlier than every other. -/
theorem foldl_keepEarlier {q : Cue} (l : List Cue) (best : Option Cue) (hq : q ∈ l ∨ best = some q)
    (hl : ∀ y ∈ l, y ≠ q → q.c < y.c) (hbest : ∀ y ∈ best, y ≠ q → q.c < y.c) : l.foldl keepEarlier best = some q := by
  induction l generalizing best with
  | nil => simpa using hq
  | cons x l ih =>
    have hx := hl x List.mem_cons_self
    refine ih _ ?_ (fun y hy => hl y (List.mem_cons_of_mem x hy)) ?_
    · by_cases hmem : q ∈ l
      · exact .inl hmem
      right
      rcases keepEarlier_cases best x with ⟨hkeep, hlt⟩ | ⟨b, hb, hkeep, hle⟩ <;> rw [hkeep]
      · by_contra hne
        have hne : x ≠ q := fun h => hne (congrArg some h)
        rcases hq with hq | rfl
        · rcases List.mem_cons.1 hq with rfl | hq
          · exact hne rfl
          · exact hmem hq
        · exact absurd (hlt q rfl) (Nat.not_lt.2 (hx hne).le)
      · by_contra hne
        have hne : b ≠ q := fun h => hne (congrArg some h)
        rcases hq with hq | rfl
        · rcases List.mem_cons.1 hq with rfl | hq
          · exact absurd (hbest b hb hne) (Nat.not_lt.2 hle)
          · exact hmem hq
        · exact hne (Option.some.inj hb).symm
    · rcases keepEarlier_cases best x with ⟨hkeep, -⟩ | ⟨b, hb, hkeep, -⟩ <;> rw [hkeep] <;> rintro y ⟨⟩
      · exact hx
      · exact hbest b hb

theorem State.nextToClose_eq {s : State} {q : Cue} (hq : q ∈ s.trg.cues) (h : ∀ y ∈ s.trg.cues, y ≠ q → q.c < y.c) :
    s.nextToClose = some q := foldl_keepEarlier s.trg.cues none (.inl hq) h (by simp)

theorem State.doCueClose_next {s : State} {q : Cue} (hq : q ∈ s.trg.cues) (h : ∀ y ∈ s.trg.cues, y ≠ q → q.c < y.c) :
    s.doCueClose = (s.toCount (q.c + 32768)).closeCue q := by
  rw [State.doCueClose_eq, State.nextToClose_eq hq h]

theorem State.doCueClose_none {s : State} (h : s.trg.cues = []) : s.doCueClose = s := by
  rw [State.doCueClose_eq, State.nextToClose, h]
  rfl

/-! ### Records and snippet jobs (R183, R187, R189) -/

section
variable {m : Nat} {l : List Nat} {r t : State} (h : MainKept m l r t)
include h

theorem MainKept.cueRecord (hm : 324 &&& m = 324) (q : Cue) (disp : Nat) : MainKept m l r (t.cueRecord q disp) := by
  unfold State.cueRecord
  split
  · exact h.pushCue hm ..
  · exact h

theorem MainKept.showJobs (hm : 4 &&& m = 4) (hsnip : F.TRG_SNIP_STAT ∈ l) (hro : F.TRG_RO_STAT ∈ l) :
    MainKept m l r t.showJobs :=
  (h.wr hm F.TRG_SNIP_STAT_JOBS 0 (.inl hsnip) _).wr hm F.TRG_RO_STAT_ACTIVE 0 (.inl hro) _

end

theorem State.Sound.cueRecord_main {s : State} (hs : s.Sound) (q : Cue) (disp : Nat) :
    MainKept 324 [] s (s.cueRecord q disp) := (MainKept.refl hs 324 []).cueRecord rfl q disp

/-- Charging a snippet moves the sources alone. -/
theorem State.chargeSnippet_eq (s : State) (conds bytes : Nat) :
    ∃ l, s.chargeSnippet conds bytes = s.onTrg fun t => { t with sources := l } := by
  unfold State.chargeSnippet State.forEach
  induction (List.range 9).filter fun i => conds.testBit i generalizing s with
  | nil => exact ⟨s.trg.sources, rfl⟩
  | cons i is ih =>
    obtain ⟨l, hl⟩ := ih (s.onTrg fun t =>
      { t with sources := t.sources.modify i fun x => { x with charge := x.charge + bytes } })
    exact ⟨l, hl⟩

/-- The window of a snippet job: raised to V, lowered to Z (R187). -/
theorem State.snippetJob_window (s : State) (q : Cue) :
    (s.snippetJob q).1.start = max ((q.c - q.pre) / 64 * 64) (s.vMax (mapChans q.set)) ∧
    (s.trg.z = none → (s.snippetJob q).1.stop = nextMultiple 64 (q.c + q.post)) ∧
    (∀ z, s.trg.z = some z → (s.snippetJob q).1.stop = min (nextMultiple 64 (q.c + q.post)) z) ∧
    ((s.snippetJob q).1.start ≤ q.c → (s.snippetJob q).1.preActual = q.c - (s.snippetJob q).1.start) := by
  refine ⟨rfl, fun h => ?_, fun z h => ?_, fun h => if_pos h⟩ <;> simp only [State.snippetJob, h]

/-- The passing of time leaves what the ring holds. -/
theorem State.vMax_toCount (s : State) (n : Nat) (chs : List Nat) : (s.toCount n).vMax chs = s.vMax chs := by
  rw [s.toCount_only n]
  rfl

/-- The cue q is no longer open. -/
def State.cueTaken (s : State) (q : Cue) : State := s.onTrg fun t => { t with cues := t.cues.erase q }

/-- A closing cue becomes a snippet job (R187). -/
def State.snippetQueued (s : State) (q : Cue) : State :=
  (((s.snippetJob q).2.cueRecord q 0).onTrg fun t => { t with jobs := t.jobs ++ [(s.snippetJob q).1] }).chargeSnippet q.conds
    (100 * (((s.snippetJob q).1.stop - (s.snippetJob q).1.start) / 64) * (mapChans (s.snippetJob q).1.set).length)

theorem State.closeCue_eq (s : State) (q : Cue) : s.closeCue q =
    if !q.snip then (s.cueTaken q).cueRecord q 1
    else if q.set = 0 then (s.cueTaken q).cueRecord q 3
    else if 64 ≤ s.trg.jobs.length then ((s.cueTaken q).cueRecord q 2).flag F.TRG_EVT2 0
    else ((s.cueTaken q).snippetQueued q).showJobs := rfl

theorem State.closeCue_queues {s : State} {q : Cue} (hsnip : q.snip = true) (hset : q.set ≠ 0)
    (hjobs : s.trg.jobs.length < 64) : s.closeCue q = ((s.cueTaken q).snippetQueued q).showJobs := by
  rw [State.closeCue_eq, if_neg (by simp [hsnip]), if_neg hset, if_neg (Nat.not_le.2 hjobs)]

section
variable {s : State} (hs : s.Sound) (q : Cue)
include hs

/-- The job of a closing cue, at the end of the table (R187). -/
theorem State.Sound.snippetQueued_outcome : MainKept 524614 [] s (s.snippetQueued q) ∧
    ∃ l, (s.snippetQueued q).trg = { s.trg with jobs := s.trg.jobs ++ [(s.snippetJob q).1], sources := l } := by
  have hjob : MainKept 524614 [] s (s.snippetJob q).2 :=
    (MainKept.refl hs _ _).of_regs (State.snippetJob_kept s q (hs.kept 524614) rfl) rfl
  obtain ⟨l, hcharge⟩ := State.chargeSnippet_eq
    (((s.snippetJob q).2.cueRecord q 0).onTrg fun t => { t with jobs := t.jobs ++ [(s.snippetJob q).1] }) q.conds
    (100 * (((s.snippetJob q).1.stop - (s.snippetJob q).1.start) / 64) * (mapChans (s.snippetJob q).1.set).length)
  rw [State.snippetQueued, hcharge]
  refine ⟨((hjob.cueRecord rfl q 0).onTrg rfl _).onTrg rfl _, l, ?_⟩
  rw [State.onTrg_trg, State.onTrg_trg, (hjob.kept.sound.cueRecord_main q 0).kept.trg rfl]
  rfl

theorem State.Sound.cueTaken_main : MainKept 524614 [F.TRG_EVT2, F.TRG_SNIP_STAT, F.TRG_RO_STAT] s (s.cueTaken q) :=
  (MainKept.refl hs _ _).onTrg rfl _

theorem State.Sound.closeCue_main : MainKept 524614 [F.TRG_EVT2, F.TRG_SNIP_STAT, F.TRG_RO_STAT] s (s.closeCue q) := by
  have htaken := hs.cueTaken_main q
  rw [State.closeCue_eq]
  split
  · exact htaken.cueRecord rfl q 1
  split
  · exact htaken.cueRecord rfl q 3
  split
  · exact (htaken.cueRecord rfl q 2).flag rfl (.inl (by decide)) 0
  · exact (htaken.trans ((htaken.kept.sound.snippetQueued_outcome q).1.mono rfl (List.nil_subset _))).showJobs rfl (by decide)
      (by decide)

/-- A cue without a job: its record, and a flag for a table that is full (R181). -/
theorem State.Sound.closeCue_records (h : q.snip = false ∨ q.set = 0 ∨ 64 ≤ s.trg.jobs.length) :
    (s.closeCue q).trg = (s.cueTaken q).trg := by
  have hrecord (disp : Nat) : ((s.cueTaken q).cueRecord q disp).trg = (s.cueTaken q).trg :=
    ((hs.cueTaken_main q).kept.sound.cueRecord_main q disp).kept.trg rfl
  rw [State.closeCue_eq]
  split
  · exact hrecord 1
  split
  · exact hrecord 3
  split
  · exact hrecord 2
  · simp_all

/-- A cue with a job: the jobs, and their number in TRG_SNIP_STAT (R187, R202). -/
theorem State.Sound.closeCue_job (hsnip : q.snip = true) (hset : q.set ≠ 0) (hjobs : s.trg.jobs.length < 64) :
    (s.closeCue q).trg.cues = s.trg.cues.erase q ∧
    (s.closeCue q).trg.jobs = s.trg.jobs ++ [((s.cueTaken q).snippetJob q).1] ∧
    (s.closeCue q).rd F.TRG_SNIP_STAT_JOBS = s.trg.jobs.length + 1 := by
  obtain ⟨hmain, l, htrg⟩ := (hs.cueTaken_main q).kept.sound.snippetQueued_outcome q
  have hshown := State.wf_wr hmain.kept.regs F.TRG_SNIP_STAT_JOBS 0 ((s.cueTaken q).snippetQueued q).trg.jobs.length
  rw [State.closeCue_queues hsnip hset hjobs]
  refine ⟨congrArg Trg.cues htrg, congrArg Trg.jobs htrg, ?_⟩
  rw [State.showJobs, State.rd_wr_ne hshown _ _ _ _ _ (.inl (by decide)), State.rd_wr hmain.kept.regs _ _ _ (by decide), htrg]
  have hlen : (s.trg.jobs ++ [((s.cueTaken q).snippetJob q).1]).length = s.trg.jobs.length + 1 := by simp
  exact (congrArg (· % 2 ^ 7) hlen).trans (Nat.mod_eq_of_lt (by omega))

theorem State.Sound.closeCue_cues : (s.closeCue q).trg.cues = s.trg.cues.erase q := by
  by_cases h : q.snip = false ∨ q.set = 0 ∨ 64 ≤ s.trg.jobs.length
  · exact congrArg Trg.cues (hs.closeCue_records q h)
  · simp only [not_or, Bool.not_eq_false, Nat.not_le] at h
    obtain ⟨hsnip, hset, hjobs⟩ := h
    exact (hs.closeCue_job q hsnip hset hjobs).1

end

/-! ### The trigger output (R185) -/

theorem State.doTrigOutEnd_some {s : State} {n : Nat} (h : s.trg.outUntil = some n) :
    s.doTrigOutEnd = (s.toCount n).onTrg fun t => { t with outUntil := none } := by
  rw [State.doTrigOutEnd, h]

theorem State.doTrigOutEnd_none {s : State} (h : s.trg.outUntil = none) : s.doTrigOutEnd = s := by
  rw [State.doTrigOutEnd, h]

/-! ### Budget intervals (R189) -/

theorem State.rd_onTrg (s : State) (f : Trg → Trg) (g : Fld) (i : Nat) : (s.onTrg f).rd g i = s.rd g i := rfl

/-- Source i of the engine. -/
def State.source (s : State) (i : Nat) : Source := s.trg.sources.getD i {}

/-- The exponent of source i's prescaler after an interval (R189). -/
def State.exponentAfter (s : State) (i : Nat) : Nat :=
  let allow := s.rd F.TRG_SRC_BUDGET_BYTES_PER_S i / 1000
  if s.rd F.TRG_SRC_BUDGET_BYTES_PER_S i = 0 then s.rd F.TRG_SRC_STAT_K i
  else if allow < (s.source i).charge then min 15 (s.rd F.TRG_SRC_STAT_K i + 1)
  else if (s.source i).charge ≤ allow / 2 ∧ (s.source i).quiet + 1 = s.rd F.TRG_RATE_CFG_QUIET_N then
    s.rd F.TRG_SRC_STAT_K i - 1
  else s.rd F.TRG_SRC_STAT_K i

/-- The rule of the exponents, case by case. -/
theorem State.exponentAfter_rule (s : State) (i : Nat) {b k charge : Nat} (hb : b = s.rd F.TRG_SRC_BUDGET_BYTES_PER_S i)
    (hk : k = s.rd F.TRG_SRC_STAT_K i) (hcharge : charge = (s.source i).charge) :
    (b = 0 → s.exponentAfter i = k) ∧ (0 < b → b / 1000 < charge → s.exponentAfter i = min 15 (k + 1)) ∧
    (0 < b → charge ≤ b / 1000 / 2 → (s.source i).quiet + 1 = s.rd F.TRG_RATE_CFG_QUIET_N → s.exponentAfter i = k - 1) ∧
    (0 < b → b / 1000 / 2 < charge → charge ≤ b / 1000 → s.exponentAfter i = k) := by
  simp only [State.exponentAfter, ← hb, ← hk, ← hcharge]
  refine ⟨fun h => if_pos h, fun h hover => ?_, fun h hlow hquiet => ?_, fun h hlow hover => ?_⟩ <;>
    rw [if_neg (Nat.pos_iff_ne_zero.1 h)]
  · rw [if_pos hover]
  · rw [if_neg (by omega), if_pos ⟨hlow, hquiet⟩]
  · rw [if_neg (by omega), if_neg fun h => Nat.not_le.2 hlow h.1]

/-- From s to t the engine has changed its sources of the list l alone, and their registers TRG_SRC_STAT. -/
structure SourcesKept (l : List Nat) (s t : State) : Prop where
  main : MainKept 524612 (l.map fun i => F.TRG_SRC_STAT + 16 * i) s t
  trg : t.trg = { s.trg with sources := t.trg.sources }
  length : t.trg.sources.length = s.trg.sources.length
  other : ∀ j, j ∉ l → t.source j = s.source j

section
variable {l : List Nat} {s t u : State}

theorem SourcesKept.refl (hs : s.Sound) (l : List Nat) : SourcesKept l s s := ⟨.refl hs _ _, rfl, rfl, fun _ _ => rfl⟩

theorem SourcesKept.trans (h : SourcesKept l s t) (g : SourcesKept l t u) : SourcesKept l s u :=
  ⟨h.main.trans g.main, by rw [g.trg, h.trg], g.length.trans h.length, fun j hj => (g.other j hj).trans (h.other j hj)⟩

theorem SourcesKept.mono (h : SourcesKept l s t) {l' : List Nat} (hl : l ⊆ l') : SourcesKept l' s t :=
  ⟨h.main.mono rfl (List.map_subset _ hl), h.trg, h.length, fun j hj => h.other j fun hj' => hj (hl hj')⟩

variable (h : SourcesKept l s t)
include h

/-- A change of a source of the list. -/
theorem SourcesKept.modify {i : Nat} (hi : i ∈ l) (f : Source → Source) :
    SourcesKept l s (t.onTrg fun x => { x with sources := x.sources.modify i f }) := by
  refine ⟨h.main.onTrg rfl _, ?_, ?_, fun j hj => ?_⟩
  · rw [State.onTrg_trg, h.trg]
  · simpa using h.length
  · exact (getD_modify_ne _ (ne_of_mem_of_not_mem hi hj).symm f {}).trans (h.other j hj)

/-- What is read of a source outside the list. -/
theorem SourcesKept.rd_other {f : Fld} (hf : f ∈ [F.TRG_SRC_STAT_K, F.TRG_SRC_BUDGET_BYTES_PER_S]) {j : Nat} (hj : j ∉ l)
    (hj' : j < 9) : t.rd f j = s.rd f j := by
  have hfield : f ∈ sourceFields := by
    have hall : ∀ f ∈ [F.TRG_SRC_STAT_K, F.TRG_SRC_BUDGET_BYTES_PER_S], f ∈ sourceFields := by decide
    exact hall f hf
  refine h.main.rd (sourceField_addr hfield hj') fun hmem => ?_
  obtain ⟨i, hi, he⟩ := List.mem_map.1 hmem
  simp only [List.mem_cons, List.not_mem_nil, or_false] at hf
  rcases hf with rfl | rfl <;> simp only [Fld.addr, F.TRG_SRC_STAT] at he
  · exact hj ((show i = j by omega) ▸ hi)
  · omega

theorem SourcesKept.quietN : t.rd F.TRG_RATE_CFG_QUIET_N = s.rd F.TRG_RATE_CFG_QUIET_N := by
  refine h.main.rd (by decide) fun hmem => ?_
  obtain ⟨i, hi, he⟩ := List.mem_map.1 hmem
  simp only [Fld.addr, F.TRG_SRC_STAT] at he
  omega

theorem SourcesKept.exponentAfter {j : Nat} (hj : j ∉ l) (hj' : j < 9) :
    t.exponentAfter j = s.exponentAfter j := by
  simp only [State.exponentAfter, h.other j hj, h.rd_other (f := F.TRG_SRC_STAT_K) (by decide) hj hj',
    h.rd_other (f := F.TRG_SRC_BUDGET_BYTES_PER_S) (by decide) hj hj', h.quietN]

end

/-- Source i begins a new interval with no charge and q quiet ones behind it. -/
def State.settle (s : State) (i q : Nat) : State :=
  s.onTrg fun t => { t with sources := t.sources.modify i fun x => { x with quiet := q, charge := 0 } }

/-- Source i with its exponent one higher, to 15 at most, and one lower, to 0 at least. -/
def State.prescaleUp (s : State) (n i : Nat) : State :=
  if s.rd F.TRG_SRC_STAT_K i < 15 then s.setPrescale i (s.rd F.TRG_SRC_STAT_K i + 1) n else s

def State.prescaleDown (s : State) (n i : Nat) : State :=
  if 0 < s.rd F.TRG_SRC_STAT_K i then s.setPrescale i (s.rd F.TRG_SRC_STAT_K i - 1) n else s

theorem State.budgetSource_eq (s : State) (n i : Nat) : s.budgetSource n i =
    if s.rd F.TRG_SRC_BUDGET_BYTES_PER_S i = 0 then s.settle i (s.source i).quiet
    else if s.rd F.TRG_SRC_BUDGET_BYTES_PER_S i / 1000 < (s.source i).charge then
      (s.prescaleUp n i).settle i 0
    else if (s.source i).charge ≤ s.rd F.TRG_SRC_BUDGET_BYTES_PER_S i / 1000 / 2 then
      if (s.source i).quiet + 1 = s.rd F.TRG_RATE_CFG_QUIET_N then (s.prescaleDown n i).settle i 0
      else s.settle i ((s.source i).quiet + 1)
    else s.settle i 0 := rfl

section
variable {s : State} (hs : s.Sound) {i : Nat} (hi : i < 9) (n : Nat)
include hs hi

/-- A new exponent, with its mark (R186, R189). -/
theorem State.Sound.setPrescale_outcome {k : Nat} (hk : k < 16) : SourcesKept [i] s (s.setPrescale i k n) ∧
    (s.setPrescale i k n).rd F.TRG_SRC_STAT_K i = k := by
  have hwr : MainKept 524612 [F.TRG_SRC_STAT + 16 * i] s (s.wr F.TRG_SRC_STAT_K i k) :=
    (MainKept.refl hs _ _).wr rfl F.TRG_SRC_STAT_K i (.inl (List.mem_singleton.2 rfl)) k
  have hmark : MainKept 324 [] (s.wr F.TRG_SRC_STAT_K i k)
      ((s.wr F.TRG_SRC_STAT_K i k).pushMark markPrescale n i k (s.source i).missed) :=
    (MainKept.refl hwr.kept.sound _ _).pushMark rfl ..
  have htrg := hmark.kept.trg rfl
  have hset : SourcesKept [i] s ((s.wr F.TRG_SRC_STAT_K i k).pushMark markPrescale n i k (s.source i).missed) :=
    ⟨hwr.trans (hmark.mono rfl (List.nil_subset _)), by rw [htrg]; rfl, by rw [htrg]; rfl, fun j _ => by
      rw [State.source, htrg]; rfl⟩
  refine ⟨hset.modify List.mem_cons_self fun x => { x with missed := 0 }, ?_⟩
  refine (hmark.rd (f := F.TRG_SRC_STAT_K) (i := i) (sourceField_addr (by decide) hi) List.not_mem_nil).trans ?_
  rw [State.rd_wr hs.regs _ _ _ (by decide)]
  exact Nat.mod_eq_of_lt hk

theorem State.Sound.prescaleUp_outcome : SourcesKept [i] s (s.prescaleUp n i) ∧
    (s.prescaleUp n i).rd F.TRG_SRC_STAT_K i = min 15 (s.rd F.TRG_SRC_STAT_K i + 1) := by
  have hk : s.rd F.TRG_SRC_STAT_K i < 2 ^ 4 := getField_lt _ _ _
  unfold State.prescaleUp
  split
  · obtain ⟨hset, hread⟩ := hs.setPrescale_outcome hi n (k := s.rd F.TRG_SRC_STAT_K i + 1) (by omega)
    exact ⟨hset, by omega⟩
  · exact ⟨.refl hs _, by omega⟩

theorem State.Sound.prescaleDown_outcome : SourcesKept [i] s (s.prescaleDown n i) ∧
    (s.prescaleDown n i).rd F.TRG_SRC_STAT_K i = s.rd F.TRG_SRC_STAT_K i - 1 := by
  have hk : s.rd F.TRG_SRC_STAT_K i < 2 ^ 4 := getField_lt _ _ _
  unfold State.prescaleDown
  split
  · exact hs.setPrescale_outcome hi n (by omega)
  · exact ⟨.refl hs _, by omega⟩

/-- At an interval's end a source takes its new exponent and begins anew. -/
theorem State.Sound.budgetSource_settles : ∃ u q, s.budgetSource n i = u.settle i q ∧ SourcesKept [i] s u ∧
    u.rd F.TRG_SRC_STAT_K i = s.exponentAfter i := by
  have hself : SourcesKept [i] s s := .refl hs _
  rw [State.budgetSource_eq, State.exponentAfter]
  by_cases hfree : s.rd F.TRG_SRC_BUDGET_BYTES_PER_S i = 0
  · simp only [hfree, if_true]
    exact ⟨s, _, rfl, hself, rfl⟩
  by_cases hover : s.rd F.TRG_SRC_BUDGET_BYTES_PER_S i / 1000 < (s.source i).charge
  · simp only [hfree, hover, if_true, if_false]
    exact ⟨_, _, rfl, hs.prescaleUp_outcome hi n⟩
  by_cases hlow : (s.source i).charge ≤ s.rd F.TRG_SRC_BUDGET_BYTES_PER_S i / 1000 / 2
  · by_cases hquiet : (s.source i).quiet + 1 = s.rd F.TRG_RATE_CFG_QUIET_N
    · simp only [hfree, hover, hlow, hquiet, and_self, if_true, if_false]
      exact ⟨_, _, rfl, hs.prescaleDown_outcome hi n⟩
    · simp only [hfree, hover, hlow, hquiet, and_false, if_true, if_false]
      exact ⟨s, _, rfl, hself, rfl⟩
  · simp only [hfree, hover, hlow, false_and, if_false]
    exact ⟨s, _, rfl, hself, rfl⟩

theorem State.Sound.budgetSource_outcome (hlen : s.trg.sources.length = 9) : SourcesKept [i] s (s.budgetSource n i) ∧
    (s.budgetSource n i).rd F.TRG_SRC_STAT_K i = s.exponentAfter i ∧ ((s.budgetSource n i).source i).charge = 0 := by
  obtain ⟨u, q, hu, hkept, hread⟩ := hs.budgetSource_settles hi n
  rw [hu]
  refine ⟨hkept.modify List.mem_cons_self _, hread, ?_⟩
  exact congrArg Source.charge (getD_modify_same (by rw [hkept.length, hlen]; exact hi) _ _)

end

/-- The end of an interval for the sources of a list (R189). -/
theorem State.Sound.budgetSources_outcome {s : State} (hs : s.Sound) (n : Nat) {l : List Nat} (hl : l.Nodup)
    (hl9 : ∀ i ∈ l, i < 9) (hlen : s.trg.sources.length = 9) :
    SourcesKept l s (s.forEach l fun s i => s.budgetSource n i) ∧
    ∀ i ∈ l, (s.forEach l fun s i => s.budgetSource n i).rd F.TRG_SRC_STAT_K i = s.exponentAfter i ∧
      ((s.forEach l fun s i => s.budgetSource n i).source i).charge = 0 := by
  unfold State.forEach
  induction l generalizing s with
  | nil => exact ⟨.refl hs _, by simp⟩
  | cons i l ih =>
    obtain ⟨hi, hl⟩ := List.nodup_cons.1 hl
    have hi9 := hl9 i List.mem_cons_self
    have hrest : ∀ j ∈ l, j < 9 := fun j hj => hl9 j (List.mem_cons_of_mem i hj)
    obtain ⟨hstep, hread, hcharge⟩ := hs.budgetSource_outcome hi9 n hlen
    obtain ⟨hafter, hall⟩ := ih hstep.main.kept.sound hl hrest (hstep.length.trans hlen)
    rw [List.foldl_cons]
    refine ⟨(hstep.mono (by simp)).trans (hafter.mono (List.subset_cons_self i l)), fun j hj => ?_⟩
    rcases List.mem_cons.1 hj with rfl | hj
    · exact ⟨(hafter.rd_other (f := F.TRG_SRC_STAT_K) (by decide) hi hi9).trans hread,
        (congrArg Source.charge (hafter.other j hi)).trans hcharge⟩
    · obtain ⟨hexp, hzero⟩ := hall j hj
      have hji : j ∉ [i] := by simpa using ne_of_mem_of_not_mem hj hi
      exact ⟨hexp.trans (hstep.exponentAfter hji (hrest j hj)), hzero⟩

/-- The sources whose exponents an interval moves (R189). -/
def budgeted : List Nat := [0, 1, 2, 3, 4, 6, 7]

theorem State.doBudgetIntervalEnd_idle {s : State} (h : s.clk.running = false) : s.doBudgetIntervalEnd = s :=
  if_pos (by rw [h]; rfl)

/-- The sources at the end of the interval under way. -/
def State.budgetEnd (s : State) : State :=
  (s.toCount s.trg.budgetNext).forEach budgeted fun u i => u.budgetSource s.trg.budgetNext i

theorem State.doBudgetIntervalEnd_running {s : State} (h : s.clk.running = true) : s.doBudgetIntervalEnd =
    s.budgetEnd.onTrg fun t => { t with budgetNext := s.trg.budgetNext + s.budgetEnd.budgetInterval } :=
  if_neg (by rw [h]; decide)

theorem State.exponentAfter_toCount (s : State) (n i : Nat) : (s.toCount n).exponentAfter i = s.exponentAfter i := by
  have hsource : (s.toCount n).source i = s.source i := by rw [State.source, State.toCount_trg, State.source]
  simp only [State.exponentAfter, hsource, State.rd_of_regs (s.toCount_regs n)]

theorem State.Sound.budgetEnd_outcome {s : State} (hs : s.Sound) (hlen : s.trg.sources.length = 9) :
    MainKept 524628 ((List.range 9).map fun i => F.TRG_SRC_STAT + 16 * i) s s.budgetEnd ∧
    s.budgetEnd.clk = (s.toCount s.trg.budgetNext).clk ∧
    ∀ i ∈ budgeted, s.budgetEnd.rd F.TRG_SRC_STAT_K i = s.exponentAfter i ∧ (s.budgetEnd.source i).charge = 0 := by
  have hlist : budgeted.Nodup ∧ budgeted ⊆ List.range 9 := by decide
  obtain ⟨hkept, hall⟩ := (hs.toCount s.trg.budgetNext).budgetSources_outcome s.trg.budgetNext hlist.1
    (fun i hi => List.mem_range.1 (hlist.2 hi)) (by simpa using hlen)
  refine ⟨?_, hkept.main.kept.clk rfl, fun i hi => ?_⟩
  · exact ((MainKept.refl hs _ _).toCount rfl _).trans (hkept.main.mono rfl (List.map_subset _ hlist.2))
  · obtain ⟨hexp, hcharge⟩ := hall i hi
    exact ⟨hexp.trans (s.exponentAfter_toCount _ i), hcharge⟩

end Sys2Proof.Machine

open Sys2Proof Sys2Proof.Machine

/-- Settles O20: the cue that closes is State.nextToClose, its job State.snippetJob, and each source takes the exponent
State.exponentAfter. -/
theorem cueClose : Obligations.CueClose := by
  intro s hs
  refine ⟨fun q hq hmin => ?_, fun hnone => ?_, fun n hn => ?_, fun hnone => ?_, fun hrun hlen => ?_, fun hstop => ?_⟩
  · have htime := hs.sound.toCount (q.c + 32768)
    have htrg : (s.toCount (q.c + 32768)).trg = s.trg := s.toCount_trg _
    have hclose := htime.closeCue_main q
    have hmain := ((MainKept.refl hs.sound 524630 _).toCount rfl (q.c + 32768)).trans (hclose.mono rfl (List.Subset.refl _))
    refine ⟨_, (hs.next_cxDo fun s => s.doCueClose).trans (congrArg _ (State.doCueClose_next hq hmin)), ?_, fun hrun => ?_,
      fun h => ?_, fun hsnip hset hjobs => ?_, hmain.main, hmain.kept.eq_withParts⟩
    · rw [htime.closeCue_cues, htrg]
    · rw [hclose.kept.clk rfl, State.toCount_count hrun]
    · rw [htime.closeCue_records q (by rwa [htrg]), State.cueTaken, State.onTrg_trg, htrg]
    · obtain ⟨-, hjob, hshown⟩ := htime.closeCue_job q hsnip hset (by rwa [htrg])
      obtain ⟨hstart, hnone, hsome, hpre⟩ := ((s.toCount (q.c + 32768)).cueTaken q).snippetJob_window q
      have hz : ((s.toCount (q.c + 32768)).cueTaken q).trg.z = s.trg.z := by
        rw [State.cueTaken, State.onTrg_trg, htrg]
      rw [htrg] at hjob hshown
      exact ⟨_, hjob, rfl, rfl, rfl, rfl, hstart.trans (congrArg _ (s.vMax_toCount _ _)), fun h => hnone (hz.trans h),
        fun z h => hsome z (hz.trans h), hpre, hshown⟩
  · exact (hs.next_cxDo fun s => s.doCueClose).trans (congrArg _ (State.doCueClose_none hnone))
  · refine ⟨_, (hs.next_cxDo fun s => s.doTrigOutEnd).trans (congrArg _ (State.doTrigOutEnd_some hn)), ?_,
      s.reached_toCount n, ?_⟩
    · rw [State.onTrg_trg, State.toCount_trg]
    · rw [s.toCount_only n]
      rfl
  · exact (hs.next_cxDo fun s => s.doTrigOutEnd).trans (congrArg _ (State.doTrigOutEnd_none hnone))
  · obtain ⟨hmain, hclk, hall⟩ := hs.sound.budgetEnd_outcome hlen
    have hend := hmain.onTrg rfl fun t => { t with budgetNext := s.trg.budgetNext + s.budgetEnd.budgetInterval }
    refine ⟨_, (hs.next_cxDo fun s => s.doBudgetIntervalEnd).trans (congrArg _ (State.doBudgetIntervalEnd_running hrun)),
      ?_, ?_, ?_, hend.main, hend.kept.eq_withParts⟩
    · rw [State.onTrg_clk, hclk, State.toCount_count hrun]
    · rw [State.onTrg_trg, State.budgetInterval, hclk, State.toCount_fs]
    · rintro i hi x b k rfl rfl rfl
      obtain ⟨hexp, hcharge⟩ := hall i hi
      obtain ⟨hfree, hover, hlow, hkeep⟩ := s.exponentAfter_rule i rfl rfl rfl
      rw [State.rd_onTrg, hexp, State.onTrg_trg]
      rw [State.source] at hcharge
      exact ⟨hfree, hover, hlow, hkeep, hcharge⟩
  · exact (hs.next_cxDo fun s => s.doBudgetIntervalEnd).trans (congrArg _ (State.doBudgetIntervalEnd_idle hstop))
end

section
/-! SUPPORT. Queue words (R227): parity as the oddness of the number of one bits, the four fields of a word, and the words of a
packet. -/

namespace Sys2Proof.Machine

/-! ### Parity -/

theorem parityOf_succ (k n : Nat) : parityOf (k + 1) n = (parityOf k n ^^ n.testBit k) := by
  simp [parityOf, List.range_succ]

/-- The parity of a word depends on its bits below the width alone. -/
theorem parityOf_congr {k m n : Nat} (h : ∀ i < k, m.testBit i = n.testBit i) : parityOf k m = parityOf k n := by
  induction k with
  | zero => rfl
  | succ k ih => rw [parityOf_succ, parityOf_succ, ih fun i hi => h i (by omega), h k (by omega)]

/-- Parity is additive in the flipped bits. -/
theorem parityOf_xor (k m n : Nat) : parityOf k (m ^^^ n) = (parityOf k m ^^ parityOf k n) := by
  induction k with
  | zero => rfl
  | succ k ih =>
    rw [parityOf_succ, parityOf_succ, parityOf_succ, ih, Nat.testBit_xor, Bool.xor_assoc, Bool.xor_assoc,
      Bool.xor_left_comm (parityOf k n)]

/-- The parity bit says whether the number of one bits is odd. -/
theorem parityOf_iff_odd (k n : Nat) :
    parityOf k n = true ↔ ((List.range k).filter fun i => n.testBit i).length % 2 = 1 := by
  induction k with
  | zero => simp [parityOf]
  | succ k ih =>
    rw [parityOf_succ, List.range_succ, List.filter_append, List.length_append]
    cases hb : n.testBit k with
    | false => simpa [hb] using ih
    | true =>
      simp only [hb, Bool.xor_true, List.filter_cons, List.filter_nil, if_true, List.length_singleton]
      rw [Bool.not_eq_true', ← Bool.not_eq_true, ih]
      omega

/-- A word passes the check exactly when the number of its one bits is even (R227). -/
theorem qParityOk_iff_even (w : QWord) :
    qParityOk w = true ↔ ((List.range 68).filter fun i => w.getLsbD i).length % 2 = 0 := by
  rw [qParityOk, Bool.not_eq_true', ← Bool.not_eq_true, parityOf_iff_odd]
  exact Nat.mod_two_ne_one

/-- A flip of an odd number of bits turns the outcome of the check (R229). -/
theorem qParityOk_xor_of_odd {m : QWord} (hm : ((List.range 68).filter fun i => m.getLsbD i).length % 2 = 1) (w : QWord) :
    qParityOk (w ^^^ m) = !qParityOk w := by
  have hodd : parityOf 68 m.toNat = true := (parityOf_iff_odd 68 m.toNat).2 hm
  rw [qParityOk, qParityOk, BitVec.toNat_xor, parityOf_xor, hodd, Bool.xor_true]

/-! ### The fields of a queue word -/

theorem getLsbD_qData (w : QWord) {i : Nat} (hi : i < 64) : (qData w).getLsbD i = w.getLsbD i := by
  rw [qData, BitVec.getLsbD_ofNat, decide_eq_true hi, Bool.true_and, BitVec.testBit_toNat]

theorem testBit_qTag (w : QWord) {i : Nat} (hi : i < 2) : (qTag w).testBit i = w.getLsbD (65 + i) := by
  rw [qTag, show 4 = 2 ^ 2 from rfl, Nat.testBit_mod_two_pow, Nat.testBit_div_two_pow, Nat.add_comm i]
  simp [hi, BitVec.getLsbD]

/-- The bits of a queue word below PARITY. -/
def queueBody (d : LWord) (eop : Bool) (tag : Nat) : Nat := d.toNat + eop.toNat * 2 ^ 64 + tag % 4 * 2 ^ 65

theorem queueBody_lt (d : LWord) (eop : Bool) (tag : Nat) : queueBody d eop tag < 2 ^ 67 := by
  have hd := d.isLt
  have he := eop.toNat_lt
  have ht := Nat.mod_lt tag (show 0 < 4 by decide)
  rw [queueBody]
  omega

/-- PARITY stands above the body and makes the number of ones even. -/
theorem toNat_mkQWord (d : LWord) (eop : Bool) (tag : Nat) :
    (mkQWord d eop tag).toNat = 2 ^ 67 * (parityOf 67 (queueBody d eop tag)).toNat + queueBody d eop tag := by
  have hbody := queueBody_lt d eop tag
  have hparity := (parityOf 67 (queueBody d eop tag)).toNat_lt
  rw [mkQWord, BitVec.toNat_ofNat, ← queueBody, Nat.mod_eq_of_lt (by omega), Nat.add_comm, Nat.mul_comm]

@[simp] theorem qData_mkQWord (d : LWord) (eop : Bool) (tag : Nat) : qData (mkQWord d eop tag) = d := by
  apply BitVec.eq_of_toNat_eq
  have hd := d.isLt
  rw [qData, BitVec.toNat_ofNat, toNat_mkQWord, queueBody]
  omega

@[simp] theorem qEop_mkQWord (d : LWord) (eop : Bool) (tag : Nat) : qEop (mkQWord d eop tag) = eop := by
  have hd := d.isLt
  have hbit : (mkQWord d eop tag).toNat / 2 ^ 64 % 2 = eop.toNat := by
    have he := eop.toNat_lt
    rw [toNat_mkQWord, queueBody]
    omega
  rw [qEop, Nat.testBit_eq_decide_div_mod_eq, hbit]
  cases eop <;> rfl

@[simp] theorem qTag_mkQWord (d : LWord) (eop : Bool) (tag : Nat) : qTag (mkQWord d eop tag) = tag % 4 := by
  have hd := d.isLt
  have he := eop.toNat_lt
  rw [qTag, toNat_mkQWord, queueBody]
  omega

/-- A word is made with even parity: PARITY is the parity of the 67 bits below it. -/
@[simp] theorem qParityOk_mkQWord (d : LWord) (eop : Bool) (tag : Nat) : qParityOk (mkQWord d eop tag) = true := by
  have hbits := Nat.testBit_two_pow_mul_add (parityOf 67 (queueBody d eop tag)).toNat (queueBody_lt d eop tag)
  have hbelow : parityOf 67 (mkQWord d eop tag).toNat = parityOf 67 (queueBody d eop tag) :=
    parityOf_congr fun i hi => by rw [toNat_mkQWord, hbits, if_pos hi]
  have htop : (mkQWord d eop tag).toNat.testBit 67 = parityOf 67 (queueBody d eop tag) := by
    rw [toNat_mkQWord, hbits, if_neg (Nat.lt_irrefl 67), Nat.sub_self, Nat.testBit_bool_toNat, decide_eq_true rfl, Bool.true_and]
  rw [qParityOk, parityOf_succ, hbelow, htop, Bool.xor_self, Bool.not_false]

/-! ### The words of a packet -/

/-- A packet word has EOP exactly where no word follows. -/
@[simp] theorem packetWords_cons (w : LWord) (ws : List LWord) :
    packetWords (w :: ws) = mkQWord w ws.isEmpty 0 :: packetWords ws := by
  cases ws <;> rfl

@[simp] theorem length_packetWords (ws : List LWord) : (packetWords ws).length = ws.length := by
  induction ws with
  | nil => rfl
  | cons w ws ih => simp [ih]

theorem map_qData_packetWords (ws : List LWord) : (packetWords ws).map qData = ws := by
  induction ws with
  | nil => rfl
  | cons w ws ih => simp [ih]

/-- Every word of a packet passes the parity check and is NORMAL (R228). -/
theorem packetWords_normal (ws : List LWord) : ((packetWords ws).all fun w => qParityOk w && qTag w == 0) = true := by
  induction ws with
  | nil => rfl
  | cons w ws ih => simpa using ih

theorem getElem?_map_qEop_packetWords {ws : List LWord} {i : Nat} (hi : i < ws.length) :
    ((packetWords ws).map qEop)[i]? = some (decide (i + 1 = ws.length)) := by
  induction ws generalizing i with
  | nil => cases hi
  | cons w ws ih =>
    rw [packetWords_cons, List.map_cons]
    cases i with
    | zero => cases ws <;> simp
    | succ i => simpa using ih (Nat.lt_of_succ_lt_succ hi)

/-- A packet that joins a queue fills a place for each of its words (R243). -/
theorem Queue.fill_append_waiting (q : Queue) (p : Packet) :
    ({ q with waiting := q.waiting ++ [p] } : Queue).fill = q.fill + p.words.length := by
  simp only [Queue.fill, List.map_append, List.sum_append, List.map_cons, List.map_nil, List.sum_singleton]
  omega

end Sys2Proof.Machine

open Sys2Proof Sys2Proof.Machine

/-- Settles O58: the fields of a word are those it was made of, its parity is even, and an odd flip turns the parity; the words of a
packet follow by induction on them. -/
theorem queueWords : Obligations.QueueWords := by
  refine ⟨?_, fun ws => ⟨length_packetWords ws, map_qData_packetWords ws, packetWords_normal ws,
    fun i hi => getElem?_map_qEop_packetWords hi, fun q p hp => ?_⟩⟩
  · rintro d eop tag w rfl
    have hdata := qData_mkQWord d eop tag
    have hok := qParityOk_mkQWord d eop tag
    have htag : qTag (mkQWord d eop tag) = tag.val := by rw [qTag_mkQWord, Nat.mod_eq_of_lt tag.isLt]
    have htagBit {i : Nat} (hi : i < 2) : (mkQWord d eop tag).getLsbD (65 + i) = tag.val.testBit i := by
      rw [← testBit_qTag _ hi, htag]
    refine ⟨fun i hi => ?_, qEop_mkQWord d eop tag, htagBit Nat.two_pos, htagBit Nat.one_lt_two,
      (qParityOk_iff_even _).1 hok, hok, hdata, qEop_mkQWord d eop tag, htag, fun m hm => ?_⟩
    · rw [← getLsbD_qData _ hi, hdata]
    · rw [qParityOk_xor_of_odd hm, hok, Bool.not_true]
  · rw [Queue.fill_append_waiting, hp, length_packetWords]
end

section
/-! SUPPORT. Bit stuffing (R252): the run that a transmitter and a receiver both count, and what a receiver makes of stuffed bits
and of 13 identical ones. -/

namespace Sys2Proof.Machine

/-! ### The run of identical bits -/

/-- The length of the current run once bit b has followed a run of bit last. -/
def runWith (run : Nat) (last b : Bool) : Nat := if 0 < run ∧ b = last then run + 1 else 1

/-- The run and its bit after bit b was sent, 0 when the inserted bit has ended the run. -/
def runStep (x : Nat × Bool) (b : Bool) : Nat × Bool := (if runWith x.1 x.2 b = 12 then 0 else runWith x.1 x.2 b, b)

/-- What goes on the line for bit b. -/
def stuffedBit (run : Nat) (last b : Bool) : List Bool := if runWith run last b = 12 then [b, !b] else [b]

theorem runStep_ne (x : Nat × Bool) (b : Bool) : (runStep x b).1 ≠ 12 := by
  rw [runStep]
  split
  · exact Nat.zero_ne_add_one 11
  · assumption

theorem foldl_runStep_ne (bits : List Bool) {x : Nat × Bool} (hx : x.1 ≠ 12) : (bits.foldl runStep x).1 ≠ 12 := by
  induction bits generalizing x with
  | nil => exact hx
  | cons b bits ih => exact ih (runStep_ne x b)

theorem foldl_runStep_last {bits : List Bool} {c : Bool} (h : bits.getLast? = some c) (x : Nat × Bool) :
    (bits.foldl runStep x).2 = c := by
  obtain ⟨l, rfl⟩ := List.getLast?_eq_some_iff.1 h
  rw [List.foldl_concat]
  rfl

/-! ### The transmitter -/

theorem stuffFrom_cons (x : Nat × Bool) (b : Bool) (bits : List Bool) :
    stuffFrom x.1 x.2 (b :: bits) = stuffedBit x.1 x.2 b ++ stuffFrom (runStep x b).1 (runStep x b).2 bits := by
  rw [stuffFrom, stuffedBit, runStep]
  change (if runWith x.1 x.2 b = 12 then _ else b :: stuffFrom (runWith x.1 x.2 b) b bits) = _
  split <;> rfl

/-! ### The receiver -/

/-- With no run to count, the bit before does not matter. -/
theorem destuffFrom_zero (a b : Bool) (n : Nat) (line : List Bool) : destuffFrom 0 a n line = destuffFrom 0 b n line := by
  cases line with
  | nil => rfl
  | cons c rest => cases n <;> rfl

/-- A bit that neither is an inserted one nor continues to one belongs to the body. -/
theorem destuffFrom_cons {run : Nat} (hrun : run ≠ 12) (last c : Bool) (n : Nat) (rest : List Bool) :
    destuffFrom run last (n + 1) (c :: rest) = (destuffFrom (runWith run last c) c n rest).map fun r => (c :: r.1, r.2) := by
  rw [destuffFrom, if_neg hrun]
  rfl

/-- After 12 identical bits the next one is inserted, and must differ. -/
theorem destuffFrom_twelve (last c : Bool) (n : Nat) (line : List Bool) :
    destuffFrom 12 last n (c :: line) = if c = last then none else destuffFrom 0 c n line := by
  cases n <;> rfl

theorem destuffFrom_inserted (b : Bool) (n : Nat) (line : List Bool) :
    destuffFrom 12 b n ((!b) :: line) = destuffFrom 0 b n line := by
  rw [destuffFrom_twelve, if_neg (Bool.not_ne_self b), destuffFrom_zero]

/-- A 13th identical bit is a violation. -/
theorem destuffFrom_violation (b : Bool) (n : Nat) (line : List Bool) : destuffFrom 12 b n (b :: line) = none := by
  rw [destuffFrom_twelve, if_pos rfl]

theorem destuffFrom_stuffedBit {x : Nat × Bool} (hx : x.1 ≠ 12) (b : Bool) (n : Nat) (line : List Bool) :
    destuffFrom x.1 x.2 (n + 1) (stuffedBit x.1 x.2 b ++ line) =
      (destuffFrom (runStep x b).1 (runStep x b).2 n line).map fun r => (b :: r.1, r.2) := by
  rw [stuffedBit, runStep]
  split
  case isTrue h =>
    rw [List.cons_append, destuffFrom_cons hx, h, List.singleton_append, destuffFrom_inserted]
  case isFalse => exact destuffFrom_cons hx _ _ _ _

/-- A receiver takes the stuffed bits as the body's, and goes on with the run that the transmitter has. -/
theorem destuffFrom_stuffFrom (bits : List Bool) {x : Nat × Bool} (hx : x.1 ≠ 12) (n : Nat) (line : List Bool) :
    destuffFrom x.1 x.2 (bits.length + n) (stuffFrom x.1 x.2 bits ++ line) =
      (destuffFrom (bits.foldl runStep x).1 (bits.foldl runStep x).2 n line).map fun r => (bits ++ r.1, r.2) := by
  induction bits generalizing x with
  | nil => simp [stuffFrom]
  | cons b bits ih =>
    rw [stuffFrom_cons, List.append_assoc, List.length_cons, Nat.add_right_comm, destuffFrom_stuffedBit hx,
      ih (runStep_ne x b), Option.map_map]
    rfl

theorem destuffFrom_none_left {run : Nat} (hrun : run ≠ 12) (last : Bool) (line : List Bool) :
    destuffFrom run last 0 line = some ([], line) := by
  cases line with
  | nil => rw [destuffFrom, if_pos ⟨rfl, hrun⟩]
  | cons c rest => rw [destuffFrom, if_neg hrun]

/-- A run of 12 - k bits that k + 1 more of them follow ends in a violation. -/
theorem destuffFrom_run (b : Bool) (m : Nat) (rest : List Bool) (k : Nat) (hk : k < 12) :
    destuffFrom (12 - k) b (m + k) (List.replicate (k + 1) b ++ rest) = none := by
  induction k with
  | zero => exact destuffFrom_violation b m rest
  | succ k ih =>
    have hrun : runWith (12 - (k + 1)) b b = 12 - k := by
      rw [runWith, if_pos ⟨by omega, rfl⟩]
      omega
    rw [List.replicate_succ, List.cons_append, ← Nat.add_assoc, destuffFrom_cons (by omega), hrun, ih (by omega)]
    rfl

/-- 13 identical bits that continue no run are a violation. -/
theorem destuffFrom_thirteen {x : Nat × Bool} (hx : x.1 ≠ 12) {b : Bool} (hb : x.1 = 0 ∨ x.2 = !b) (m : Nat)
    (rest : List Bool) : destuffFrom x.1 x.2 (m + 12) (List.replicate 13 b ++ rest) = none := by
  have hrun : runWith x.1 x.2 b = 1 := by
    rw [runWith, if_neg]
    rcases hb with h | h <;> simp [h]
  rw [List.replicate_succ, List.cons_append, destuffFrom_cons hx, hrun, destuffFrom_run b m rest 11 (by decide)]
  rfl

/-! ### The rule's program -/

/-- A step of the rule's program: the run, its bit, and the line so far. -/
def sendBit (x : Nat × Bool × List Bool) (b : Bool) : Nat × Bool × List Bool :=
  let run := if 0 < x.1 ∧ b = x.2.1 then x.1 + 1 else 1
  if run = 12 then (0, b, x.2.2 ++ [b, !b]) else (run, b, x.2.2 ++ [b])

theorem sendBit_eq (x : Nat × Bool × List Bool) (b : Bool) :
    sendBit x b = ((runStep (x.1, x.2.1) b).1, (runStep (x.1, x.2.1) b).2, x.2.2 ++ stuffedBit x.1 x.2.1 b) := by
  rw [runStep, stuffedBit]
  change (if runWith x.1 x.2.1 b = 12 then _ else (runWith x.1 x.2.1 b, _, _)) = _
  split <;> rfl

theorem foldl_sendBit (bits : List Bool) (x : Nat × Bool × List Bool) :
    (bits.foldl sendBit x).2.2 = x.2.2 ++ stuffFrom x.1 x.2.1 bits := by
  induction bits generalizing x with
  | nil => exact (List.append_nil _).symm
  | cons b bits ih => rw [List.foldl_cons, ih, sendBit_eq, List.append_assoc, ← stuffFrom_cons (x.1, x.2.1)]

end Sys2Proof.Machine

open Sys2Proof Sys2Proof.Machine

/-- Settles O60: transmitter and receiver count one run, by induction over the body. -/
theorem stuffing : Obligations.Stuffing := by
  have hzero : ((0, false) : Nat × Bool).1 ≠ 12 := by decide
  refine ⟨fun bits => (foldl_sendBit bits (0, false, [])).symm, fun bits rest => ?_, fun pre b n rest hn hpre => ?_,
    fun _ _ => rfl, fun _ => rfl⟩
  · have h := destuffFrom_stuffFrom bits hzero 0 rest
    rw [destuffFrom_none_left (foldl_runStep_ne bits hzero)] at h
    simpa [destuff, stuff] using h
  · have hlast : (pre.foldl runStep (0, false)).1 = 0 ∨ (pre.foldl runStep (0, false)).2 = !b :=
      hpre.imp (fun h => by rw [h]; rfl) fun h => foldl_runStep_last h _
    obtain ⟨m, rfl⟩ := Nat.exists_eq_add_of_le hn
    have h := destuffFrom_stuffFrom pre hzero (m + 12) (List.replicate 13 b ++ rest)
    rw [destuffFrom_thirteen (foldl_runStep_ne pre hzero) hlast] at h
    rwa [← List.append_assoc, Nat.add_comm m, ← Nat.add_assoc] at h
end

section
/-! SUPPORT. A write of RETRAIN to lane 0 (R261, R265, R269): a state in which it also changes S1_KEEP. -/

namespace Sys2Proof.Machine

/-- A module at work whose lane 0 is enabled and UP, and whose S1_KEEP of lane 0 holds 0. -/
def laneZeroUnkept : State :=
  { start := { booted := true }, plane := { cxOn := true }, regs := [(F.LNK_LANE_CTL, 1), (F.LNK_LANE_STAT, 2)] }

theorem laneZeroUnkept_working : laneZeroUnkept.Working :=
  ⟨⟨by decide +kernel, rfl, rfl, rfl, rfl, rfl, rfl⟩, rfl, rfl⟩

/-- S1_KEEP of lane 0 takes 1 whatever is written (R265), so RETRAIN changes LNK_LANE_CTL[0] from 1 to 9. -/
theorem laneZeroUnkept_retrain : laneZeroUnkept.regGet F.LNK_LANE_CTL = 1 ∧
    (laneZeroUnkept.hostBit 0 F.LNK_LANE_CTL_RETRAIN 0).regGet F.LNK_LANE_CTL = 9 := by
  decide +kernel

end Sys2Proof.Machine

open Sys2Proof Sys2Proof.Machine

/-- Refutes O35: its RETRAIN clause asks lane 0 or 12 for EN = 1, but not for S1_KEEP = 1. Where S1_KEEP holds 0 the write sets
it, and State.laneLeft does not let LNK_LANE_CTL change. -/
theorem not_lanes : ¬ Obligations.Lanes := by
  intro h
  have hw := laneZeroUnkept_working
  obtain ⟨-, -, -, -, -, -, -, -, -, -, -, -, -, -, hup, -⟩ := h laneZeroUnkept 0 _ hw rfl
  obtain ⟨-, -, -, -, -, -, hretrain, -⟩ := hup (by decide +kernel)
  obtain ⟨t, hexec, -, -, -, -, ⟨hmain, -⟩, -⟩ := hretrain 0 (.inr (by decide +kernel))
  have ht : laneZeroUnkept.hostBit 0 F.LNK_LANE_CTL_RETRAIN 0 = t :=
    Host.Outcome.next.inj ((hw.awake.next_keeperDo fun s => s.hostBit 0 F.LNK_LANE_CTL_RETRAIN 0).symm.trans hexec)
  have hsame : t.regGet F.LNK_LANE_CTL = laneZeroUnkept.regGet F.LNK_LANE_CTL :=
    hmain F.LNK_LANE_CTL (.inr (by decide)) (by decide) (by decide)
  obtain ⟨hbefore, hafter⟩ := laneZeroUnkept_retrain
  rw [← ht, hbefore, hafter] at hsame
  exact absurd hsame (by decide)
end

section
/-! SUPPORT. Descriptors that a read brings (R333, R341, R345): a state in which they let an entry be posted that counts down the
commands in flight of a ring that is no command ring. -/

namespace Sys2Proof.Machine

/-- A module at work with a read of command ring 0 outstanding, completion ring 8 in use, and a command that has finished, whose
entry is still to be posted, noted under ring 20, which is a data ring; PRM_RING_STAT[20] shows it in flight. -/
def strayCommand : State :=
  { start := { booted := true }, plane := { cxOn := true }
    regs := [(F.PRM_RING_CFG + 16 * 8, 0x104), (F.PRM_RING_STAT + 16 * 20, 0x10000)]
    lnk := { reads := [{ count := 4, purpose := 210 }] }
    prm := { cmds := [{ ring := 20, started := true, finished := true }] } }

theorem strayCommand_working : strayCommand.Working :=
  ⟨⟨by decide +kernel, rfl, rfl, rfl, rfl, rfl, rfl⟩, rfl, rfl⟩

/-- A descriptor of an opcode that R334 does not have. -/
def badDescriptor : List LWord := [0x0500000000000000, 0, 0, 0]

/-- Its entry is posted at once (R335), that of the finished command with it, and IN_FLIGHT of ring 20 falls to 0. -/
theorem strayCommand_answered : strayCommand.regGet (F.PRM_RING_STAT + 16 * 20) = 0x10000 ∧
    (strayCommand.doMemRdData 0 0 0 badDescriptor).regGet (F.PRM_RING_STAT + 16 * 20) = 0 := by
  decide +kernel

end Sys2Proof.Machine

open Sys2Proof Sys2Proof.Machine

/-- Refutes O37: its clause on descriptors lets PRM_EVT and the states of the eight command rings change, but a Working state may
hold a command of another ring, and IN_FLIGHT of that ring moves when its entry is posted with that of a descriptor just read. -/
theorem not_hostMemory : ¬ Obligations.HostMemory := by
  intro h
  have hw := strayCommand_working
  obtain ⟨-, -, -, -, hanswer, -⟩ := h strayCommand hw (by decide +kernel)
  obtain ⟨-, -, -, hdescriptors⟩ := hanswer 0 0 0 badDescriptor { count := 4, purpose := 210 } (by decide +kernel)
  obtain ⟨t, hexec, -, hmain, -⟩ := hdescriptors 0 rfl rfl
  have ht : strayCommand.doMemRdData 0 0 0 badDescriptor = t :=
    Host.Outcome.next.inj ((hw.next_cxDo fun s => s.doMemRdData 0 0 0 badDescriptor).symm.trans hexec)
  have hsame : t.regGet (F.PRM_RING_STAT + 16 * 20) = strayCommand.regGet (F.PRM_RING_STAT + 16 * 20) :=
    hmain _ (.inr (by decide)) (by decide) (by decide)
  obtain ⟨hbefore, hafter⟩ := strayCommand_answered
  rw [← ht, hbefore, hafter] at hsame
  exact absurd hsame (by decide)
end

section
/-! SUPPORT. What the receiver of a lane does with a frame (R255, R272 to R274, R282, R292, R299). -/

namespace Sys2Proof.Machine

/-! ### Lanes and the link layer -/

theorem Kept.lnk {m : Nat} {r t : State} (h : Kept m r t) (hm : hasBit m 128 = false) : t.lnk = r.lnk := by
  rw [h.eq_withParts]
  simp only [State.withParts, hm, cond_false]

theorem State.lane_onLane {s : State} {n : Nat} (h : n < s.lnk.lanes.length) (f : Lane → Lane) :
    (s.onLane n f).lane n = f (s.lane n) := getD_modify_same h f {}

@[simp] theorem State.toCount_lnk (s : State) (n : Nat) : (s.toCount n).lnk = s.lnk := by
  rw [s.toCount_only n]

/-! ### Frames that are counted and discarded -/

section
variable {s : State} (hs : s.Sound) {n : Nat} (hn : n < 24)
include hs

/-- A frame that is not accepted: the counter of its lane, and the registers that stay (R274, R300). -/
theorem State.Sound.rejectFrame_outcome (n : Nat) :
    (s.rejectFrame n).rd F.LNK_LANE_RX_REJECT n = min 65535 (s.rd F.LNK_LANE_RX_REJECT n + 1) ∧
    s.sameRegs (s.rejectFrame n) [F.LNK_LANE_RX + 4 * n, F.LNK_RX_EVT] := by
  have hwf : tableWf coldWord (s.flag F.LNK_RX_EVT 1).regs = true := State.wf_regPut hs.regs _ _
  have hlane : F.LNK_LANE_RX_REJECT.addr n ≠ F.LNK_RX_EVT := by
    simp only [Fld.addr, F.LNK_RX_EVT]
    omega
  constructor
  · calc (s.rejectFrame n).rd F.LNK_LANE_RX_REJECT n
        = min (2 ^ 16 - 1) ((s.flag F.LNK_RX_EVT 1).rd F.LNK_LANE_RX_REJECT n + 1) := State.rd_satAdd hwf (by decide) n 1
      _ = min 65535 (s.rd F.LNK_LANE_RX_REJECT n + 1) := by
        rw [State.rd_of_regGet ((hs.regGet_flag F.LNK_RX_EVT 1 _).trans (if_neg hlane))]
        rfl
  · intro b hb
    obtain ⟨hrx, hevt⟩ : b ∉ [F.LNK_LANE_RX + 4 * n] ∧ b ≠ F.LNK_RX_EVT := by simpa using hb
    exact (State.sameRegs_wr hwf F.LNK_LANE_RX_REJECT n _ b hrx).trans ((hs.regGet_flag _ _ _).trans (if_neg hevt))

include hn

/-- A frame with a bad CRC: the counter of its lane, and what stays (R273). -/
theorem State.Sound.crcFailed_outcome :
    (s.crcFailed n).rd F.LNK_LANE_RX_CRC n = min 65535 (s.rd F.LNK_LANE_RX_CRC n + 1) ∧
    MainKept 4 [F.LNK_LANE_RX + 4 * n, F.LNK_RX_EVT] s (s.crcFailed n) := by
  have hadd : MainKept 4 [F.LNK_LANE_RX + 4 * n, F.LNK_RX_EVT] s (s.satAdd F.LNK_LANE_RX_CRC n 1) :=
    (MainKept.refl hs 4 [F.LNK_LANE_RX + 4 * n, F.LNK_RX_EVT]).wr rfl F.LNK_LANE_RX_CRC n (.inl (.head _)) _
  have hflag := hadd.flag rfl (a := F.LNK_RX_EVT) (.inl (.tail _ (.head _))) 0
  have haddr : F.LNK_LANE_RX_CRC.addr n < 0x380000 ∧ F.LNK_LANE_RX_CRC.addr n ≠ F.LNK_RX_EVT := by
    simp only [Fld.addr, F.LNK_RX_EVT]
    omega
  refine ⟨?_, hflag.count rfl _ _ _⟩
  calc (s.crcFailed n).rd F.LNK_LANE_RX_CRC n
      = ((s.satAdd F.LNK_LANE_RX_CRC n 1).flag F.LNK_RX_EVT 0).rd F.LNK_LANE_RX_CRC n :=
        State.rd_of_regGet (((LowKept.refl hflag.kept.regs).count _ _ _).low _ haddr.1)
    _ = (s.satAdd F.LNK_LANE_RX_CRC n 1).rd F.LNK_LANE_RX_CRC n :=
        State.rd_of_regGet ((hadd.kept.sound.regGet_flag _ _ _).trans (if_neg haddr.2))
    _ = min 65535 (s.rd F.LNK_LANE_RX_CRC n + 1) := State.rd_satAdd hs.regs (by decide) n 1

end

/-! ### A frame that has arrived (R255, R262) -/

theorem State.doFrameReceived_deaf {s : State} {n : Nat} (hdr : LWord) (pay : List LWord) (crc k phi : Nat)
    (h : s.hears n = false ∨ (s.laneUp n = false ∧ s.rd F.LNK_LANE_STAT_STATE n ≠ 1)) :
    s.doFrameReceived n hdr pay crc k phi = s := by
  refine if_pos ?_
  rcases h with h | ⟨hup, hst⟩ <;> simp [*]

/-- The state in which a frame with m payload words has reached an UP lane n at count k. -/
def State.received (s : State) (n k m : Nat) : State := (s.toCount k).rxAdvance n m

section
variable (s : State) (n k m : Nat)

@[simp] theorem State.received_regs : (s.received n k m).regs = s.regs := s.toCount_regs k

theorem State.received_lnk : (s.received n k m).lnk = { s.lnk with lanes := (s.received n k m).lnk.lanes } := by
  simp only [State.received, State.rxAdvance, State.onLane, State.onLnk, State.toCount_lnk]

theorem State.reached_received : s.reached (s.received n k m) k := s.reached_toCount k

theorem State.expected_received (p c : Nat) : (s.received n k m).expected p c = s.expected p c := by
  rw [State.expected, s.received_lnk]
  rfl

theorem State.rxFull_received : (s.received n k m).rxFull n = s.rxFull n := by
  rw [State.rxFull, s.received_lnk]
  rfl

theorem State.laneUp_received : (s.received n k m).laneUp n = s.laneUp n := by
  rw [State.laneUp, State.rd_of_regs (s.received_regs n k m)]
  rfl

theorem State.accepts_received (hdr : LWord) : (s.received n k m).accepts n hdr = s.accepts n hdr := by
  rw [State.accepts, State.moduleId, State.rd_of_regs (s.received_regs n k m)]
  rfl

variable {s}

theorem State.Sound.received_kept (hs : s.Sound) : Kept 144 s (s.received n k m) :=
  State.rxAdvance_kept _ n m (State.toCount_kept s k (hs.kept 144) rfl) rfl

theorem State.Sound.rxScr_received (hs : s.Sound) (hn : n < 24) :
    ((s.received n k m).lane n).rxScr = scrAdvance (s.lane n).rxScr (bodyBits m) := by
  have hlen : n < (s.toCount k).lnk.lanes.length := by rwa [State.toCount_lnk, hs.lanes]
  rw [State.received, State.rxAdvance, State.lane_onLane hlen, State.lane, State.toCount_lnk]
  rfl

end

section
variable {s : State} {n : Nat} {hdr : LWord} {pay : List LWord} {crc k phi : Nat}

/-- On an UP lane whose receiver is active. -/
theorem State.doFrameReceived_up (hhears : s.hears n = true) (hup : s.laneUp n = true)
    (hsub : s.rd F.LNK_LANE_STAT_RX_SUB n = 0) {ws : List LWord} (hws : ws = pay.take (hdrWords hdr)) :
    s.doFrameReceived n hdr pay crc k phi =
      if 32 < hdrWords hdr then (s.toCount k).enterRealign n false
      else if crc ≠ crcWords (hdr :: ws) then ((s.received n k ws.length).crcFailed n).takeBringup n false 0
      else if s.rxFull n then (s.received n k ws.length).rejectFrame n
      else (s.received n k ws.length).goodFrame n hdr ws k (phi % 1024) := by
  subst hws
  rw [← s.rxFull_received n k (pay.take (hdrWords hdr)).length]
  simp only [State.doFrameReceived, hhears, hup, hsub, beq_self_eq_true, Bool.and_self, Bool.not_true, Bool.true_or, Bool.or_self,
    Bool.false_eq_true, if_false, if_true, Bool.true_and, State.received]
  rfl

/-- On a lane in BRINGUP. -/
theorem State.doFrameReceived_bringup (hhears : s.hears n = true) (hst : s.rd F.LNK_LANE_STAT_STATE n = 1)
    {ws : List LWord} (hws : ws = pay.take (hdrWords hdr)) :
    s.doFrameReceived n hdr pay crc k phi =
      if 32 < hdrWords hdr then s
      else if crc ≠ crcWords (hdr :: ws) then ((s.rxAdvance n ws.length).crcFailed n).takeBringup n false 0
      else (s.rxAdvance n ws.length).goodFrame n hdr ws k (phi % 1024) := by
  have hup : s.laneUp n = false := by simp [State.laneUp, hst]
  subst hws
  simp [State.doFrameReceived, hhears, hup, hst]

end

/-! ### A frame with a good CRC (R274, R282, R293) -/

/-- What the types of the statement take: CLASS by TYPE (R274). -/
theorem State.hdrClass_of_accepts {s : State} {n : Nat} {hdr : LWord} (h : s.accepts n hdr = true) {c lo hi : Nat}
    (hd : downType (hdrType hdr) = some (c, lo, hi)) : hdrClass hdr = c := by
  simp only [State.accepts, hd, Bool.and_eq_true, beq_iff_eq] at h
  exact h.2.1.1

/-- A TIME frame and a safety telegram are of class 0. -/
theorem State.hdrClass_eq_zero {s : State} {n : Nat} {hdr : LWord} (h : s.accepts n hdr = true)
    (ht : hdrType hdr = 0x08 ∨ hdrType hdr = 0x09) : hdrClass hdr = 0 := by
  rcases ht with ht | ht <;> exact State.hdrClass_of_accepts h (by rw [ht]; rfl)

section
variable {s : State} {n : Nat} {hdr : LWord} (ws : List LWord) (k phi : Nat)

theorem State.goodFrame_rejected (h : s.accepts n hdr = false) : s.goodFrame n hdr ws k phi = s.rejectFrame n := by
  simp only [State.goodFrame, h, Bool.not_false, if_true]

theorem State.goodFrame_bringup (h : s.accepts n hdr = true) (ht : hdrType hdr = 0x00) :
    s.goodFrame n hdr ws k phi = s.takeBringup n true (ws.headD 0) := by
  simp only [State.goodFrame, h, ht, Bool.not_true, Bool.false_eq_true, if_false, if_true]

variable (h : s.accepts n hdr = true) (hup : s.laneUp n = true)
include h hup

/-- A frame of class 0 that is no link control takes its place in SEQ order. -/
theorem State.goodFrame_class0 (ht : hdrType hdr = 0x08 ∨ hdrType hdr = 0x09) : s.goodFrame n hdr ws k phi =
    s.order { path := n / 12, cls := hdrClass hdr, seq := hdrSeq hdr, ftype := hdrType hdr, lane := n, words := ws, at_ := k
              phi := phi } := by
  have hc := State.hdrClass_eq_zero h ht
  rcases ht with ht | ht <;> simp [State.goodFrame, h, hup, ht, hc]

/-- A readout request beyond the credit granted (R299). -/
theorem State.goodFrame_beyondCredit (ht : hdrType hdr = 0x10)
    (hcredit : s.lnk.granted.getD (n / 12) 0 = s.lnk.taken.getD (n / 12) 0) :
    s.goodFrame n hdr ws k phi = s.rejectFrame n := by
  have hc : hdrClass hdr = 1 := State.hdrClass_of_accepts h (by rw [ht]; rfl)
  have hleft : (s.lnk.granted.getD (n / 12) 0 + 65536 - s.lnk.taken.getD (n / 12) 0) % 65536 = 0 := by omega
  have hnone : s.takeCredit (n / 12) = none := if_pos (.inl hleft)
  simp [State.goodFrame, h, hup, ht, hc, hnone]

end

/-! ### SEQ order (R292) -/

/-- What a frame that is passed on leaves of the order: the next SEQ is expected, and the frame is held no more. -/
def State.passed (s : State) (f : RxHeld) : State :=
  s.onLnk fun l => { l with expect := l.expect.set (2 * f.path + f.cls) (some ((f.seq + 1) % 2 ^ 24)), hold := l.hold.erase f }

theorem State.passOn_eq (s : State) (f : RxHeld) : s.passOn f = (s.passed f).takeFrame f := rfl

theorem State.passHeld_nil {s : State} (h : s.lnk.hold = []) (p c : Nat) : s.passHeld p c = s := by
  rw [State.passHeld, h]
  rfl

/-- A TIME frame, a safety telegram and a readout request act on other parts than the link layer. -/
theorem State.Sound.takeFrame_lnk {s : State} (hs : s.Sound) {f : RxHeld}
    (hf : f.ftype = 0x08 ∨ f.ftype = 0x09 ∨ f.ftype = 0x10) : (s.takeFrame f).lnk = s.lnk := by
  rcases hf with hf | hf | hf
  · have htime : s.takeFrame f = s.takeTime f.lane f.at_ f.phi f.words := by simp [State.takeFrame, hf]
    rw [htime]
    exact (State.takeTime_kept s _ _ _ _ (hs.kept 854) rfl).lnk rfl
  · have hsafety : s.takeFrame f = s.takeSafety f.path f.words := by simp [State.takeFrame, hf]
    rw [hsafety]
    exact (State.takeSafety_kept s _ _ (hs.kept 25166342) rfl).lnk rfl
  · have hrequest : ∃ req len t map, s.takeFrame f = s.doReadoutRequest req len t map :=
      ⟨_, _, _, _, by simp only [State.takeFrame, hf, Nat.reduceEqDiff, if_false, if_true]; rfl⟩
    obtain ⟨req, len, t, map, hrequest⟩ := hrequest
    rw [hrequest]
    exact (State.doReadoutRequest_kept s _ _ _ _ (hs.kept 1573702) rfl).lnk rfl

section
variable {s : State} (hs : s.Sound) {f : RxHeld}
include hs

theorem State.Sound.passed_kept (f : RxHeld) : Kept 128 s (s.passed f) :=
  State.onLnk_kept s _ (hs.kept 128) rfl rfl

/-- When no other frame is held, a frame that is passed on is the only one. -/
theorem State.Sound.passHeld_passOn (hf : f.ftype = 0x08 ∨ f.ftype = 0x09 ∨ f.ftype = 0x10) (hhold : s.lnk.hold.erase f = [])
    (p c : Nat) : (s.passOn f).passHeld p c = (s.passed f).takeFrame f := by
  rw [State.passHeld_nil, State.passOn_eq]
  rw [State.passOn_eq, (hs.passed_kept f).sound.takeFrame_lnk hf]
  exact hhold

/-- A frame in order acts. -/
theorem State.Sound.order_next (hf : f.ftype = 0x08 ∨ f.ftype = 0x09 ∨ f.ftype = 0x10) (hhold : s.lnk.hold = [])
    (he : s.expected f.path f.cls = none ∨ s.expected f.path f.cls = some f.seq) : s.order f = (s.passed f).takeFrame f := by
  rw [← hs.passHeld_passOn hf (by rw [hhold]; rfl) f.path f.cls]
  rcases he with he | he <;> simp [State.order, he]

omit hs in
/-- A frame ahead of a missing SEQ is held. -/
theorem State.order_ahead {e : Nat} (he : s.expected f.path f.cls = some e) (hne : f.seq ≠ e)
    (hahead : (f.seq + 2 ^ 24 - e) % 2 ^ 24 < 2 ^ 23) :
    s.order f = s.onLnk fun l => { l with hold := s.lnk.hold ++ [f] } := by
  simp only [State.order, he, hne, hahead, if_false, if_true]

end

theorem State.expected_passed {s : State} {f : RxHeld} (h : 2 * f.path + f.cls < s.lnk.expect.length) :
    (s.passed f).expected f.path f.cls = some ((f.seq + 1) % 2 ^ 24) := by
  simp [State.expected, State.passed, State.onLnk, List.getD_eq_getElem?_getD, h]

theorem State.passed_lnk {s : State} (h : s.lnk.hold = []) (f : RxHeld) :
    (s.passed f).lnk = { s.lnk with expect := (s.passed f).lnk.expect } := by
  simp only [State.passed, State.onLnk_lnk, h]
  rfl

/-! ### The end of a wait (R292) -/

/-- The state in which the wait of the frame held longest is over, and the gap noted. -/
def State.gapNoted (s : State) (f : RxHeld) : State :=
  (s.toCount (f.at_ + ceilDiv (s.rd F.LNK_RX_CFG_REORDER * 10 * s.clk.fs) 1000000000)).flag F.LNK_RX_EVT 2

theorem State.passUntil_single {s : State} {f : RxHeld} (h : s.lnk.hold = [f]) : s.passUntil f = s.passOn f := by
  simp [State.passUntil, State.firstHeld, State.forEach, h]

section
variable {s : State} {f : RxHeld} (hs : s.Sound)
include hs

theorem State.Sound.gapNoted_kept (f : RxHeld) : Kept 20 s (s.gapNoted f) :=
  State.flag_kept _ _ _ (State.toCount_kept s _ (hs.kept 20) rfl) rfl

/-- A frame that alone is held is passed on. -/
theorem State.Sound.doReorderTimeout_single (h : s.lnk.hold = [f]) (hf : f.ftype = 0x08 ∨ f.ftype = 0x09 ∨ f.ftype = 0x10) :
    s.doReorderTimeout = ((s.gapNoted f).passed f).takeFrame f := by
  have hhold : (s.gapNoted f).lnk.hold = [f] := by simp [State.gapNoted, h]
  rw [← (hs.gapNoted_kept f).sound.passHeld_passOn hf (by simp [hhold]) f.path f.cls, ← State.passUntil_single hhold]
  simp only [State.doReorderTimeout, h]
  rfl

end

/-! ### The parts of the statement -/

section
variable {s : State} (hs : s.Sound) (n : Fin 24) (k : Nat) (ws : List LWord)
include hs

/-- A frame with a bad CRC on an UP lane (R273). -/
theorem State.Sound.crcFailed_received (hup : s.laneUp n = true) :
    ∃ t, ((s.received n k ws.length).crcFailed n).takeBringup n false 0 = t ∧
      t.rd F.LNK_LANE_RX_CRC n = min 65535 (s.rd F.LNK_LANE_RX_CRC n + 1) ∧ s.reached t k ∧
      (t.lane n).rxScr = scrAdvance (s.lane n).rxScr (bodyBits ws.length) ∧
      t.lnk = { s.lnk with lanes := t.lnk.lanes } ∧ s.sameMain t [F.LNK_LANE_RX + 4 * n.val, F.LNK_RX_EVT] ∧
      t = { s with regs := t.regs, clk := t.clk, lnk := t.lnk } := by
  have hrec := hs.received_kept n k ws.length
  obtain ⟨hcount, hmain⟩ := hrec.sound.crcFailed_outcome n.isLt
  have hregs := s.received_regs n k ws.length
  have hst : ((s.received n k ws.length).crcFailed n).rd F.LNK_LANE_STAT_STATE n ≠ 1 := by
    have haddr := n.isLt
    have hsame : ((s.received n k ws.length).crcFailed n).rd F.LNK_LANE_STAT_STATE n = s.rd F.LNK_LANE_STAT_STATE n := by
      refine (State.rd_of_regGet (hmain.main _ (.inr ?_) ?_ ?_)).trans (State.rd_of_regs hregs _ _)
      all_goals simp only [Fld.addr, F.LNK_LANE_RX, F.LNK_RX_EVT, List.mem_cons, List.not_mem_nil, or_false]
      all_goals omega
    rw [hsame, beq_iff_eq.1 hup]
    decide
  have hlnk := hmain.kept.lnk rfl
  refine ⟨(s.received n k ws.length).crcFailed n, if_pos hst, ?_, fun hrun => ?_, ?_, ?_, ?_, ?_⟩
  · rw [hcount, State.rd_of_regs hregs]
  · rw [hmain.kept.clk rfl]
    exact s.reached_received n k ws.length hrun
  · rw [State.lane, hlnk]
    exact hs.rxScr_received n k ws.length n.isLt
  · rw [hlnk]
    exact s.received_lnk n k ws.length
  · exact State.sameMain.trans (fun b _ _ _ => State.sameRegs_of_regs hregs [] b List.not_mem_nil) hmain.main
  · exact (State.crcFailed_kept _ _ (hrec.mono (m' := 148) rfl) rfl).eq_withParts

/-- A frame that an UP lane rejects (R274, R299). -/
theorem State.Sound.rejectFrame_received :
    ∃ t, (s.received n k ws.length).rejectFrame n = t ∧
      t.rd F.LNK_LANE_RX_REJECT n = min 65535 (s.rd F.LNK_LANE_RX_REJECT n + 1) ∧ s.reached t k ∧
      t.lnk = { s.lnk with lanes := t.lnk.lanes } ∧ s.sameRegs t [F.LNK_LANE_RX + 4 * n.val, F.LNK_RX_EVT] ∧
      t = { s with regs := t.regs, clk := t.clk, lnk := t.lnk } := by
  have hrec := hs.received_kept n k ws.length
  obtain ⟨hcount, hsame⟩ := hrec.sound.rejectFrame_outcome n
  have hregs := s.received_regs n k ws.length
  refine ⟨_, rfl, ?_, s.reached_received n k ws.length, s.received_lnk n k ws.length,
    (State.sameRegs_of_regs hregs _).trans hsame,
    (State.rejectFrame_kept _ _ (hrec.mono (m' := 148) rfl) rfl).eq_withParts⟩
  rw [hcount, State.rd_of_regs hregs]

end

end Sys2Proof.Machine

open Sys2Proof Sys2Proof.Machine

/-- Settles O34, by what FRAME_RECEIVED makes of a frame: the receiver's equation on an UP lane and on one in BRINGUP, then the
branches of a frame with a good CRC and of its place in SEQ order. -/
theorem frameReception : Obligations.FrameReception := by
  intro s hw hlen
  have hs := hw.sound
  have hexec (n : Fin 24) (h : LWord) (pay : List LWord) (crc : BitVec 32) (k : Nat) (phi : Fin 1024) :
      exec (.frameReceived n h pay crc k phi) s = .next (s.doFrameReceived n h pay crc.toNat k phi) :=
    hw.next_cxDo fun s => s.doFrameReceived n h pay crc.toNat k phi
  have htimeout : exec .reorderTimeout s = .next s.doReorderTimeout := hw.next_cxDo State.doReorderTimeout
  refine ⟨fun n h pay crc k phi hdeaf => ?_, fun n h pay crc k phi ws f hws hf hhears hup hsub => ?_,
    fun n h pay crc k phi ws hws hhears hst => ?_, fun hhold => ?_, fun f hhold hf hpath hcls => ?_⟩
  · rw [hexec, State.doFrameReceived_deaf _ _ _ _ _ hdeaf]
  · have hrec := hs.received_kept n k ws.length
    have hphi : phi.val % 1024 = phi.val := Nat.mod_eq_of_lt phi.isLt
    have hupRec := (s.laneUp_received n k ws.length).trans hup
    rw [hexec, State.doFrameReceived_up hhears hup hsub hws, hphi]
    refine ⟨fun hbig => by rw [if_pos hbig], fun hwords hcrc => ?_, fun hwords hcrc hrej => ?_,
      fun e hwords hcrc hroom hacc ht he hne hahead => ?_, fun hwords hcrc hacc ht he hhold => ?_,
      fun hwords hcrc hacc ht hcredit _ => ?_⟩
    all_goals rw [if_neg (Nat.not_lt.2 hwords)]
    · rw [if_pos hcrc]
      obtain ⟨t, ht, hout⟩ := hs.crcFailed_received n k ws hup
      exact ⟨t, congrArg _ ht, hout⟩
    · have hrejected : (if s.rxFull n then (s.received n k ws.length).rejectFrame n
          else (s.received n k ws.length).goodFrame n h ws k phi) = (s.received n k ws.length).rejectFrame n := by
        rcases hrej with hfull | hacc
        · rw [if_pos hfull]
        · rw [State.goodFrame_rejected _ _ _ ((s.accepts_received n k ws.length h).trans hacc), ite_self]
      rw [if_neg (not_not.2 hcrc), hrejected]
      obtain ⟨t, ht, hout⟩ := hs.rejectFrame_received n k ws
      exact ⟨t, congrArg _ ht, hout⟩
    all_goals have hacc' := (s.accepts_received n k ws.length h).trans hacc
    all_goals rw [if_neg (not_not.2 hcrc)]
    · have hcls : hdrClass h = 0 := State.hdrClass_eq_zero hacc ht
      rw [if_neg (ne_true_of_eq_false hroom), State.goodFrame_class0 ws k phi hacc' hupRec ht, ← hf,
        State.order_ahead (e := e) (by rw [s.expected_received]; subst hf; exact hcls ▸ he) (by subst hf; exact hne)
          (by subst hf; exact hahead)]
      refine ⟨_, rfl, s.reached_received n k ws.length, ?_, ?_⟩
      · rw [State.onLnk_lnk, s.received_lnk]
      · exact (State.onLnk_kept _ _ hrec rfl rfl).eq_withParts
    · have hcls := State.hdrClass_eq_zero hacc ht
      have hnone : (s.received n k ws.length).lnk.hold = [] := by rw [s.received_lnk]; exact hhold
      have hroom : s.rxFull n = false := by simp [State.rxFull, hhold]
      have hpath : 2 * f.path + f.cls < (s.received n k ws.length).lnk.expect.length := by
        rw [s.received_lnk, hf]
        simp only [hcls, hlen]
        omega
      have hnext := hrec.sound.order_next (f := f) (by subst hf; exact ht.imp_right .inl) hnone
        (by rw [s.expected_received]; subst hf; exact hcls ▸ he)
      refine ⟨(s.received n k ws.length).passed f, ?_, s.reached_received n k ws.length, ?_, ?_, ?_⟩
      · rw [if_neg (ne_true_of_eq_false hroom), State.goodFrame_class0 ws k phi hacc' hupRec ht, ← hf, hnext]
      · have hseq := State.expected_passed hpath
        subst hf
        exact hcls ▸ hseq
      · rw [State.passed_lnk hnone, s.received_lnk]
      · exact (State.onLnk_kept _ _ hrec rfl rfl).eq_withParts
    · have hlnk := s.received_lnk n k ws.length
      have hrejected := State.goodFrame_beyondCredit ws k phi hacc' hupRec ht (by rw [hlnk]; exact hcredit)
      rw [hrejected, ite_self]
      obtain ⟨t, rfl, hcount, -, -, -, hout⟩ := hs.rejectFrame_received n k ws
      exact ⟨_, rfl, hcount, by rw [hout], hout⟩
  · rw [hexec, State.doFrameReceived_bringup hhears hst hws]
    refine ⟨fun hbig => by rw [if_pos hbig], fun hwords hcrc => ?_, fun hwords hcrc hacc ht => ?_⟩
    all_goals rw [if_neg (Nat.not_lt.2 hwords)]
    · rw [if_pos hcrc]
    · rw [if_neg (not_not.2 hcrc), State.goodFrame_bringup _ _ _ (by exact hacc) ht]
  · rw [htimeout, State.doReorderTimeout, hhold]
  · have hgap := hs.gapNoted_kept f
    have hclk := s.toCount_regs (f.at_ + ceilDiv (s.rd F.LNK_RX_CFG_REORDER * 10 * s.clk.fs) 1000000000)
    obtain ⟨hflag, -, -, hsame, -⟩ := (hs.toCount _).flag_outcome F.LNK_RX_EVT (k := 2) (by decide)
    have hhold' : (s.gapNoted f).lnk.hold = [f] := by rw [hgap.lnk rfl, hhold]
    have hplace : 2 * f.path + f.cls < (s.gapNoted f).lnk.expect.length := by
      rw [hgap.lnk rfl, hlen]
      omega
    rw [htimeout, hs.doReorderTimeout_single hhold hf]
    refine ⟨_, rfl, ?_, State.expected_passed hplace, hflag, s.reached_toCount _,
      (State.sameRegs_of_regs hclk _).trans hsame,
      (State.onLnk_kept _ _ (hgap.mono (m' := 148) rfl) rfl rfl).eq_withParts⟩
    rw [State.passed, State.onLnk_lnk, hhold']
    simp
end

section
/-! SUPPORT. Class policies, credits and CREDIT frames (R280 to R282, R286, R287). -/

namespace Sys2Proof.Machine

/-! ### A write of LNK_CLASS_POL (R287) -/

/-- LNK_CLASS_POL stands in the register table by itself, with no field that COMMIT locks. -/
theorem regAt_classPol :
    (regAt F.LNK_CLASS_POL).any (fun r => r.base == F.LNK_CLASS_POL && r.fields.all fun f => f.acc != .rwl) = true := by
  decide +kernel

/-- A write of it is judged by admission, whatever the port. -/
theorem State.writeReg_classPol (s : State) {r : RegDef} (hr : r.base = F.LNK_CLASS_POL) (p : Nat) (w : Word) (ns : Nat) :
    s.writeReg r p F.LNK_CLASS_POL w ns = s.doClassPolicyWrite w := by
  rw [State.writeReg, State.writeMgt, State.writeFront, State.writeCore, State.writeLink, hr]
  rfl

theorem State.Working.exec_classPolicyWrite {s : State} (hs : s.Working) (p : Fin 10) (w : Word) :
    exec (.classPolicyWrite p w) s = .next (s.accepted p fun u => u.doClassPolicyWrite w) := by
  obtain ⟨r, hr, hr'⟩ := (Option.any_eq_true _ _).1 regAt_classPol
  simp only [Bool.and_eq_true, beq_iff_eq, List.all_eq_true, bne_iff_ne] at hr'
  obtain ⟨hbase, hrwl⟩ := hr'
  have hstore : s.portStore p F.LNK_CLASS_POL w = s.accepted p fun u => u.writeReg r p F.LNK_CLASS_POL w s.writeNs :=
    State.portStore_taken (by decide) (by decide) hr (.inl (by decide)) (.inr hs.cx) (.inr (not_changesLocked hrwl _ w))
  rw [← funext fun u : State => u.writeReg_classPol hbase p w s.writeNs, ← hstore]
  exact hs.awake.next_keeperDo fun s => s.hostWrite p F.LNK_CLASS_POL w

/-- What admission says of a policy word (R38). -/
def State.policyVerdict (s : State) (w : Word) : Option Nat :=
  if getField w 2 2 ≠ s.rd F.LNK_CLASS_POL_C2_POL ∨ getField w 16 8 ≠ s.rd F.LNK_CLASS_POL_SPLIT_MAP then
    AdmitCfg.refusedBy { s.admitCfg with policy := getField w 2 2, split := getField w 16 8 } s.clk.fs
  else none

/-- The register takes the six fields of an accepted word. -/
def State.putPolicy (s : State) (w : Word) : State :=
  (((((s.wr F.LNK_CLASS_POL_C1_POL 0 (getField w 0 2)).wr F.LNK_CLASS_POL_C2_POL 0 (getField w 2 2)).wr
    F.LNK_CLASS_POL_C3_POL 0 (getField w 4 2)).wr F.LNK_CLASS_POL_C1_FAILOVER 0 (getField w 8 1)).wr
    F.LNK_CLASS_POL_C3_FAILOVER 0 (getField w 9 1)).wr F.LNK_CLASS_POL_SPLIT_MAP 0 (getField w 16 8)

theorem State.doClassPolicyWrite_eq (s : State) (w : Word) :
    s.doClassPolicyWrite w = s.judge (s.policyVerdict w) State.admitFault fun s => s.putPolicy w := rfl

/-- The verdict is as it was before the port drew its free value. -/
theorem State.accepted_classPolicy_refused {s : State} {w : Word} {q : Nat} (h : s.policyVerdict w = some q) (p : Nat) :
    (s.accepted p fun u => u.doClassPolicyWrite w) = s.accepted p fun u => u.admitFault q := by
  have hdrawn : State.policyVerdict { s with free := s.free + 1 } w = some q := h
  rw [State.accepted, State.doClassPolicyWrite_eq, hdrawn]
  rfl

theorem State.accepted_classPolicy {s : State} {w : Word} (h : s.policyVerdict w = none) (p : Nat) :
    (s.accepted p fun u => u.doClassPolicyWrite w) = s.accepted p fun u => u.putPolicy w := by
  have hdrawn : State.policyVerdict { s with free := s.free + 1 } w = none := h
  rw [State.accepted, State.doClassPolicyWrite_eq, hdrawn]
  rfl

theorem State.Sound.accepted_putPolicy {s : State} (hs : s.Sound) (p : Nat) (w : Word) :
    (s.accepted p fun u => u.putPolicy w) = { s with
      free := s.free + 1, regs := (s.accepted p fun u => u.putPolicy w).regs
      ports := (s.accepted p fun u => u.putPolicy w).ports } := by
  have hwr {u : State} (h : Kept 36 { s with free := s.free + 1 } u) (f : Fld) (v : Nat) :
      Kept 36 { s with free := s.free + 1 } (u.wr f 0 v) := State.wr_kept u f 0 v h rfl
  have hput : Kept 36 { s with free := s.free + 1 } (State.putPolicy { s with free := s.free + 1 } w) :=
    hwr (hwr (hwr (hwr (hwr (hwr (hs.drawFree.kept 36) _ _) _ _) _ _) _ _) _ _) _ _
  exact (State.onPort_kept _ p (fun x => { x with status := accDone }) hput rfl).eq_withParts

/-- Six fields of one register that share no bit hold what was written to each. -/
theorem State.putPolicy_fields {s : State} (h : tableWf coldWord s.regs = true) (w : Word) :
    (s.putPolicy w).rd F.LNK_CLASS_POL_C1_POL = getField w 0 2 ∧ (s.putPolicy w).rd F.LNK_CLASS_POL_C2_POL = getField w 2 2 ∧
    (s.putPolicy w).rd F.LNK_CLASS_POL_C3_POL = getField w 4 2 ∧
    (s.putPolicy w).rd F.LNK_CLASS_POL_C1_FAILOVER = getField w 8 1 ∧
    (s.putPolicy w).rd F.LNK_CLASS_POL_C3_FAILOVER = getField w 9 1 ∧
    (s.putPolicy w).rd F.LNK_CLASS_POL_SPLIT_MAP = getField w 16 8 ∧ s.sameRegs (s.putPolicy w) [F.LNK_CLASS_POL] := by
  have hwr {u : State} (hu : tableWf coldWord u.regs = true) (f : Fld) (v : Nat) := State.wf_wr hu f 0 v
  have hsame {u : State} (hu : tableWf coldWord u.regs = true) (f : Fld) (v : Nat) := State.sameRegs_wr hu f 0 v
  have h1 := hwr h F.LNK_CLASS_POL_C1_POL (getField w 0 2)
  have h2 := hwr h1 F.LNK_CLASS_POL_C2_POL (getField w 2 2)
  have h3 := hwr h2 F.LNK_CLASS_POL_C3_POL (getField w 4 2)
  have h4 := hwr h3 F.LNK_CLASS_POL_C1_FAILOVER (getField w 8 1)
  have h5 := hwr h4 F.LNK_CLASS_POL_C3_FAILOVER (getField w 9 1)
  refine ⟨?_, ?_, ?_, ?_, ?_, ?_, ?_⟩
  case refine_7 =>
    exact (((((hsame h F.LNK_CLASS_POL_C1_POL _).trans (hsame h1 F.LNK_CLASS_POL_C2_POL _)).trans
      (hsame h2 F.LNK_CLASS_POL_C3_POL _)).trans (hsame h3 F.LNK_CLASS_POL_C1_FAILOVER _)).trans
      (hsame h4 F.LNK_CLASS_POL_C3_FAILOVER _)).trans (hsame h5 F.LNK_CLASS_POL_SPLIT_MAP _)
  all_goals simp (disch := decide) only [State.putPolicy, State.rd_wr h, State.rd_wr h1, State.rd_wr h2, State.rd_wr h3,
    State.rd_wr h4, State.rd_wr h5, State.rd_wr_ne h1, State.rd_wr_ne h2, State.rd_wr_ne h3, State.rd_wr_ne h4,
    State.rd_wr_ne h5]
  all_goals exact Nat.mod_eq_of_lt (getField_lt _ _ _)

/-! ### Lists of the link layer -/

theorem getD_set_same {a : Type} {l : List a} {i : Nat} (h : i < l.length) (x d : a) : (l.set i x).getD i d = x := by
  simp [List.getD_eq_getElem?_getD, h]

theorem getD_set_ne {a : Type} (l : List a) {i j : Nat} (h : j ≠ i) (x d : a) : (l.set i x).getD j d = l.getD j d := by
  simp [List.getD_eq_getElem?_getD, h.symm]

/-! ### CREDIT frames received (R281) -/

/-- LNK_CREDIT_STAT of a path is all that showing its credits writes, and WAITING stays. -/
theorem State.showCredits_outcome {s : State} (h : tableWf coldWord s.regs = true) (p : Nat) :
    s.sameRegs (s.showCredits p) [F.LNK_CREDIT_STAT + 4 * p] ∧
    (s.showCredits p).rd F.LNK_CREDIT_STAT_WAITING p = s.rd F.LNK_CREDIT_STAT_WAITING p := by
  have h1 := State.wf_wr h F.LNK_CREDIT_STAT_C1 p (min 255 (s.credit p 1))
  have h2 := State.wf_wr h1 F.LNK_CREDIT_STAT_C2 p (min 255 (s.credit p 2))
  refine ⟨((State.sameRegs_wr h F.LNK_CREDIT_STAT_C1 p _).trans (State.sameRegs_wr h1 F.LNK_CREDIT_STAT_C2 p _)).trans
    (State.sameRegs_wr h2 F.LNK_CREDIT_STAT_C3 p _), ?_⟩
  have hapart {u : State} (hu : tableWf coldWord u.regs = true) (f : Fld) (hf : f.lo + f.width ≤ 24) (v : Nat) :
      (u.wr f p v).rd F.LNK_CREDIT_STAT_WAITING p = u.rd F.LNK_CREDIT_STAT_WAITING p :=
    State.rd_wr_ne hu f _ p p v (.inr (.inr hf))
  exact ((hapart h2 F.LNK_CREDIT_STAT_C3 (by decide) _).trans (hapart h1 F.LNK_CREDIT_STAT_C2 (by decide) _)).trans
    (hapart h F.LNK_CREDIT_STAT_C1 (by decide) _)

/-- The link layer with the limits that a CREDIT frame carries. -/
def Lnk.limited (l : Lnk) (p : Nat) (w : LWord) : Lnk :=
  { l with
    limit := (((l.limit.set (3 * p) (w.toNat / 2 ^ 48)).set (3 * p + 1) (w.toNat / 2 ^ 32 % 65536)).set (3 * p + 2)
      (w.toNat / 2 ^ 16 % 65536)) }

theorem State.doCreditFrame_eq (s : State) (p : Nat) (w : LWord) : s.doCreditFrame p w =
    ((s.onLnk fun l => l.limited p w).wr F.LNK_CREDIT_STAT_WAITING p 0).showCredits p := rfl

theorem Lnk.limited_limit {l : Lnk} (h : l.limit.length = 6) (p : Fin 2) (w : LWord) :
    (l.limited p w).limit.getD (3 * p.val) 0 = w.toNat / 2 ^ 48 ∧
    (l.limited p w).limit.getD (3 * p.val + 1) 0 = w.toNat / 2 ^ 32 % 65536 ∧
    (l.limited p w).limit.getD (3 * p.val + 2) 0 = w.toNat / 2 ^ 16 % 65536 := by
  have hp := p.isLt
  refine ⟨?_, ?_, ?_⟩
  · rw [Lnk.limited, getD_set_ne _ (by omega), getD_set_ne _ (by omega), getD_set_same (by omega)]
  · rw [Lnk.limited, getD_set_ne _ (by omega), getD_set_same (by simp [h]; omega)]
  · rw [Lnk.limited, getD_set_same (by simp [h]; omega)]

/-- The limits of the other path stay. -/
theorem Lnk.limited_limit_other (l : Lnk) (p : Fin 2) (w : LWord) (c : Fin 3) :
    (l.limited p w).limit.getD (3 * (1 - p.val) + (c.val + 1) - 1) 0 = l.limit.getD (3 * (1 - p.val) + (c.val + 1) - 1) 0 := by
  have hp := p.isLt
  have hc := c.isLt
  rw [Lnk.limited, getD_set_ne _ (by omega), getD_set_ne _ (by omega), getD_set_ne _ (by omega)]

theorem State.doCreditFrame_credit (s : State) (p : Fin 2) (w : LWord) (c : Fin 3) :
    (s.doCreditFrame p w).credit (1 - p.val) (c.val + 1) = s.credit (1 - p.val) (c.val + 1) := by
  have hlnk : (s.doCreditFrame p w).lnk = s.lnk.limited p w := rfl
  rw [State.credit, hlnk, Lnk.limited_limit_other]
  rfl

theorem State.Sound.doCreditFrame_regs {s : State} (hs : s.Sound) (p : Nat) (w : LWord) :
    (s.doCreditFrame p w).rd F.LNK_CREDIT_STAT_WAITING p = 0 ∧
    s.sameRegs (s.doCreditFrame p w) [F.LNK_CREDIT_STAT + 4 * p] := by
  have hlim : tableWf coldWord (s.onLnk fun l => l.limited p w).regs = true := hs.regs
  obtain ⟨hsame, hwait⟩ := State.showCredits_outcome (State.wf_wr hlim F.LNK_CREDIT_STAT_WAITING p 0) p
  rw [State.doCreditFrame_eq]
  exact ⟨hwait.trans (State.rd_wr hlim _ p 0 (by decide)), State.sameRegs.trans
    (State.sameRegs_of_wr (f := F.LNK_CREDIT_STAT_WAITING) (i := p) (v := 0) hs.regs rfl) hsame⟩

end Sys2Proof.Machine
end

section
/-! SUPPORT. The lanes of a path as their lines run, and CREDIT frames sent (R28, R282, R286). -/

namespace Sys2Proof.Machine

/-! ### The lines of a path run (R28) -/

/-- What the first state has and every round keeps, the last state has. -/
theorem State.forEach_induction {a : Type} {P : State → Prop} {s : State} {l : List a} {f : State → a → State} (h : P s)
    (hf : ∀ t, ∀ x ∈ l, P t → P (f t x)) : P (s.forEach l f) :=
  List.foldlRecOn l f h fun t ht x hx => hf t x hx ht

/-- A round that leaves the state as it is for every element leaves it for all of them. -/
theorem State.forEach_id {a : Type} {s : State} {l : List a} {f : State → a → State} (h : ∀ x ∈ l, f s x = s) :
    s.forEach l f = s :=
  State.forEach_induction (P := fun t => t = s) rfl fun t x hx (ht : t = s) => by rw [ht, h x hx]

/-- The lanes are all that changes while lines run. -/
theorem State.runPath_lanes (s : State) (p : Nat) : ∃ ls, s.runPath p = s.onLnk fun l => { l with lanes := ls } := by
  refine State.forEach_induction (P := fun t => ∃ ls, t = s.onLnk fun l => { l with lanes := ls }) ⟨s.lnk.lanes, rfl⟩ ?_
  rintro t n - ⟨ls, rfl⟩
  unfold State.laneRun
  split
  · exact ⟨_, rfl⟩
  · exact ⟨ls, rfl⟩

section
variable (s : State) (p : Nat)

@[simp] theorem State.runPath_regs : (s.runPath p).regs = s.regs := by
  obtain ⟨ls, h⟩ := s.runPath_lanes p
  rw [h]
  rfl

theorem State.runPath_lnk : (s.runPath p).lnk = { s.lnk with lanes := (s.runPath p).lnk.lanes } := by
  obtain ⟨ls, h⟩ := s.runPath_lanes p
  rw [h]
  rfl

theorem State.laneUp_of_regs {t : State} (h : t.regs = s.regs) (n : Nat) : t.laneUp n = s.laneUp n := by
  rw [State.laneUp, State.rd_of_regs h]
  rfl

variable {s p}

theorem State.mem_upLanes {n : Nat} : n ∈ s.upLanes p ↔ (12 * p ≤ n ∧ n < 12 * p + 12) ∧ s.laneUp n = true := by
  simp only [State.upLanes, List.mem_filter, List.mem_map, List.mem_range]
  refine and_congr_left' ⟨?_, fun h => ⟨n - 12 * p, by omega, by omega⟩⟩
  rintro ⟨i, hi, rfl⟩
  omega

/-- With no UP lane no line runs. -/
theorem State.runPath_down (h : s.upLanes p = []) : s.runPath p = s := by
  refine State.forEach_id fun n hn => if_neg fun hruns => ?_
  obtain ⟨i, hi, rfl⟩ := List.mem_map.1 hn
  have hi := List.mem_range.1 hi
  have hmem : 12 * p + i ∈ s.upLanes p := State.mem_upLanes.2 ⟨by omega, (Bool.and_eq_true_iff.1 hruns).1⟩
  rw [h] at hmem
  cases hmem

/-! ### The lane that takes the next frame (R286) -/

/-- It is an UP lane of the path with room. -/
theorem State.earliestLane_mem {n : Nat} (h : s.earliestLane p = some n) : n ∈ s.roomy p := by
  refine (foldl_eq_some_mem (fun o x => ?_) _ h).elim (fun h => by cases h) id
  cases o with
  | none => exact .inl rfl
  | some b =>
    dsimp only
    split
    · exact .inl rfl
    · exact .inr rfl

theorem State.upLanes_of_earliestLane {n : Nat} (h : s.earliestLane p = some n) : n ∈ s.upLanes p :=
  (List.mem_filter.1 (State.earliestLane_mem h)).1

/-- With a lane that has room no time passes. -/
theorem State.awaitRoom_of_earliestLane {n : Nat} (h : s.earliestLane p = some n) (zero : Bool) : s.awaitRoom p zero = s := by
  have hroom : (s.roomy p).isEmpty = false :=
    List.isEmpty_eq_false_iff.2 (List.ne_nil_of_mem (State.earliestLane_mem h))
  simp [State.awaitRoom, hroom]

end

/-! ### A frame in a lane's buffer (R263) -/

section
variable {s : State} (hs : s.Sound) {n : Nat}
include hs

/-- A lane that wakes keeps its buffer, and its sub-state is all that changes of the registers. -/
theorem State.Sound.wakeLane_outcome (hn : n < 24) :
    ((s.wakeLane n).lane n).buf = (s.lane n).buf ∧ s.sameRegs (s.wakeLane n) [F.LNK_LANE_STAT + 4 * n] := by
  unfold State.wakeLane
  split
  · refine ⟨?_, State.sameRegs_of_wr (f := F.LNK_LANE_STAT_TX_SUB) (i := n) (v := 2) hs.regs rfl⟩
    have hlen : n < (s.wr F.LNK_LANE_STAT_TX_SUB n 2).lnk.lanes.length := hn.trans_eq hs.lanes.symm
    rw [State.lane_onLane hlen]
    rfl
  · exact ⟨rfl, State.sameRegs_of_regs rfl _⟩

/-- A frame is the newest of the buffer it was placed in. -/
theorem State.Sound.putOnLane_outcome (hn : n < 24) (f : TxFrame) :
    ((s.putOnLane n f).lane n).buf = (s.lane n).buf ++ [{ f with lane := n }] ∧
    s.sameRegs (s.putOnLane n f) [F.LNK_LANE_STAT + 4 * n] := by
  have hput : State.Sound (s.onLane n fun l => { l with buf := l.buf ++ [{ f with lane := n }] }) :=
    (State.onLane_kept s n _ (hs.kept 128) rfl).sound
  obtain ⟨hbuf, hsame⟩ := hput.wakeLane_outcome hn
  exact ⟨hbuf.trans (congrArg Lane.buf (State.lane_onLane (by rwa [hs.lanes]) _)),
    (State.sameRegs_of_regs rfl _).trans hsame⟩

end

theorem State.wakeLane_granted (s : State) (n : Nat) : (s.wakeLane n).lnk.granted = s.lnk.granted := by
  unfold State.wakeLane
  split <;> rfl

/-! ### CREDIT_SEND (R282) -/

/-- The CREDIT frame of a path. -/
def State.creditOf (s : State) (p : Nat) : TxFrame :=
  { ftype := 0x01, cls := 0, seq := 0, path := p, module_ := s.moduleId
    words := [word64 [(48, (s.lnk.taken.getD p 0 + 64) % 65536)]] }

theorem State.doCreditSend_eq {s : State} {p n : Nat} (hid : s.moduleId ≠ 0) (h : (s.runPath p).earliestLane p = some n) :
    s.doCreditSend p = ((s.runPath p).putOnLane n (s.creditOf p)).onLnk fun l =>
      { l with granted := l.granted.set p ((s.lnk.taken.getD p 0 + 64) % 65536), creditAt := l.creditAt.set p s.clk.count } := by
  obtain ⟨ls, hl⟩ := s.runPath_lanes p
  rw [State.doCreditSend, if_neg hid, State.awaitRoom_of_earliestLane h]
  simp only [h]
  rw [hl]
  rfl

theorem State.Sound.doCreditSend_outcome {s : State} (hs : s.Sound) {p n : Nat} (hp : p < 2) (hid : s.moduleId ≠ 0)
    (h : (s.runPath p).earliestLane p = some n) (hgranted : s.lnk.granted.length = 2) :
    ∃ t f, s.doCreditSend p = t ∧ (t.lane n).buf = ((s.runPath p).lane n).buf ++ [f] ∧ f.ftype = 0x01 ∧ f.cls = 0 ∧
      f.seq = 0 ∧ f.words = [word64 [(48, (s.lnk.taken.getD p 0 + 64) % 65536)]] ∧
      t.lnk.granted.getD p 0 = (s.lnk.taken.getD p 0 + 64) % 65536 ∧
      s.sameRegs t [F.LNK_LANE_STAT + 4 * n] ∧ t = { s with regs := t.regs, lnk := t.lnk } := by
  have hrun : Kept 132 s (s.runPath p) := State.runPath_kept s p (hs.kept 132) rfl
  obtain ⟨⟨-, hn⟩, -⟩ := State.mem_upLanes.1 (State.upLanes_of_earliestLane h)
  obtain ⟨hbuf, hsame⟩ := hrun.sound.putOnLane_outcome (by omega : n < 24) (s.creditOf p)
  have hlimits : ((s.runPath p).putOnLane n (s.creditOf p)).lnk.granted = s.lnk.granted := by
    rw [State.putOnLane, State.wakeLane_granted, State.onLane, State.onLnk_lnk, s.runPath_lnk]
  rw [State.doCreditSend_eq hid h]
  refine ⟨_, _, rfl, hbuf, rfl, rfl, rfl, rfl, ?_, (State.sameRegs_of_regs (s.runPath_regs p) _).trans hsame, ?_⟩
  · exact getD_set_same (by rw [hlimits, hgranted]; exact hp) _ _
  · exact (State.onLnk_kept _ _ (State.putOnLane_kept _ _ _ hrun rfl) rfl rfl).eq_withParts

theorem State.doCreditSend_down {s : State} {p : Nat} (h : s.upLanes p = []) : s.doCreditSend p = s := by
  have hroom : s.roomy p = [] := by rw [State.roomy, h]; rfl
  have hwait : s.awaitRoom p false = s := by simp [State.awaitRoom, hroom, h]
  have hnone : s.earliestLane p = none := by rw [State.earliestLane, hroom]; rfl
  simp [State.doCreditSend, State.runPath_down h, hwait, hnone]

end Sys2Proof.Machine
end

section
/-! SUPPORT. A class 0 item read whole, and what precedes a chance on a path (R229, R232, R284, R340). -/

namespace Sys2Proof.Machine

/-! ### A packet read whole (R229) -/

section
variable {s : State} {q : Nat} (hq : q < s.que.length)
include hq

theorem State.queue_onQueue (f : Queue → Queue) : (s.onQueue q f).queue q = f (s.queue q) := getD_set_same hq _ _

theorem State.onQueue_onQueue (f g : Queue → Queue) : (s.onQueue q f).onQueue q g = s.onQueue q fun x => g (f x) := by
  simp only [State.onQueue, State.setQueue, State.queue, getD_set_same hq, List.set_set]

/-- The end of a packet forgets what was left of it. -/
theorem State.endPacket_onQueue (f : Queue → Queue) (hf : ∀ x, { f x with reading := none } = { x with reading := none }) :
    (s.onQueue q f).endPacket q = s.endPacket q := by
  have hrest (x : Queue) : { f x with reading := none, readTotal := 0, flushRead := false, dropRead := false } =
      { x with reading := none, readTotal := 0, flushRead := false, dropRead := false } :=
    congrArg (fun y : Queue => { y with readTotal := 0, flushRead := false, dropRead := false }) (hf x)
  rw [State.endPacket, State.onQueue_onQueue hq]
  simp only [hrest]
  rfl

/-- Every word of a packet of sound words is read, and the last one ends it. -/
theorem State.takePacket_sound {x : Packet} {ws : List LWord} (h : (s.queue q).reading = some x) (hx : x.words = packetWords ws)
    {k : Nat} (hk : ws.length ≤ k) :
    (s.takePacket q k).2 = ws ∧ (ws ≠ [] → (s.takePacket q k).1 = s.endPacket q) := by
  induction ws generalizing s x k with
  | nil =>
    refine ⟨?_, fun h => absurd rfl h⟩
    cases k with
    | zero => rfl
    | succ k => simp [State.takePacket, State.takeWord, h, hx, packetWords]
  | cons w ws ih =>
    obtain ⟨k, rfl⟩ : ∃ j, k = j + 1 := ⟨k - 1, by simp at hk; omega⟩
    have hk : ws.length ≤ k := by simpa using hk
    by_cases hlast : ws = []
    · subst hlast
      simp [State.takePacket, State.takeWord, h, hx]
    · have hnext := ih (s := s.onQueue q fun y => { y with reading := some { x with words := packetWords ws } })
        (by simpa [State.onQueue, State.setQueue] using hq) (by rw [State.queue_onQueue hq]) rfl hk
      have hword : s.takePacket q (k + 1) =
          (((s.onQueue q fun y => { y with reading := some { x with words := packetWords ws } }).takePacket q k).1,
            w :: ((s.onQueue q fun y => { y with reading := some { x with words := packetWords ws } }).takePacket q k).2) := by
        simp [State.takePacket, State.takeWord, h, hx, hlast]
      rw [hword]
      refine ⟨congrArg _ hnext.1, fun _ => (hnext.2 hlast).trans ?_⟩
      exact State.endPacket_onQueue hq _ fun _ => rfl

/-- Queue q once the packet before the rest has been read. -/
def State.itemTaken (s : State) (q : Nat) (rest : List Packet) : State := s.onQueue q fun y =>
  { y with waiting := rest, reading := none, readTotal := 0, flushRead := false, dropRead := false }

/-- An item of sound words, started and read. -/
theorem State.startPacket_takePacket {x : Packet} {rest : List Packet} {ws : List LWord} (h : (s.queue q).waiting = x :: rest)
    (hx : x.words = packetWords ws) :
    ((s.startPacket q).takePacket q (x.words.length + 1)).2 = ws ∧
    (ws ≠ [] → (s.queue q).blocked = [] → ((s.startPacket q).takePacket q (x.words.length + 1)).1 = s.itemTaken q rest) := by
  have hstart : s.startPacket q = s.onQueue q fun y =>
      { y with waiting := rest, reading := some { x with steer := some (pktChannel x) }, readTotal := x.words.length } := by
    rw [State.startPacket, h]
  have hlen : q < (s.startPacket q).que.length := by rw [hstart]; simpa [State.onQueue, State.setQueue] using hq
  obtain ⟨hwords, hend⟩ := State.takePacket_sound (x := { x with steer := some (pktChannel x) }) hlen
    (by rw [hstart, State.queue_onQueue hq]) hx (k := x.words.length + 1) (by rw [hx, length_packetWords]; omega)
  refine ⟨hwords, fun hne hblocked => (hend hne).trans ?_⟩
  rw [State.endPacket, hstart, State.onQueue_onQueue hq, State.unblock, State.queue_onQueue hq]
  dsimp only
  rw [hblocked]
  rfl

end

/-! ### What precedes a chance (R284, R340) -/

/-- Slots that are written wait as memory transactions, and their rings note it: no other part changes. -/
theorem State.catchStatus_mem (s : State) :
    ∃ m rs, s.catchStatus = (s.onLnk fun l => { l with mem := m }).onPrm fun r => { r with rings := rs } := by
  refine State.forEach_induction
    (P := fun t => ∃ m rs, t = (s.onLnk fun l => { l with mem := m }).onPrm fun r => { r with rings := rs })
    ⟨s.lnk.mem, s.prm.rings, rfl⟩ ?_
  rintro t r - ⟨m, rs, rfl⟩
  split
  · unfold State.writeStatus
    split
    · exact ⟨_, _, rfl⟩
    · exact ⟨_, _, rfl⟩
  · exact ⟨m, rs, rfl⟩

/-- Without COMMIT the Prompter starts no memory transaction. -/
theorem State.memService_uncommitted {s : State} (h : s.rdB F.PRM_STAT_COMMITTED = false) : s.memService = s :=
  if_neg (by simp [State.memOpen, h])

/-- The wait for credit is noted and counted: no other part changes. -/
theorem State.noteCreditWait_outcome (s : State) (p : Nat) (memory : Bool) :
    ∃ w, s.noteCreditWait p memory = s.onLnk (fun l => { l with waited := w }) ∨
      s.noteCreditWait p memory = (s.satAdd F.LNK_CREDIT_WAIT_COUNT 0 1).onLnk fun l => { l with waited := w } := by
  unfold State.noteCreditWait
  dsimp only
  split
  · exact ⟨_, .inr rfl⟩
  · exact ⟨_, .inl rfl⟩

/-- The state once path p has run and the slots that were behind are written. -/
def State.caughtUp (s : State) (p : Nat) : State := if (s.runPath p).prm.paused then s.runPath p else (s.runPath p).catchStatus

theorem State.caughtUp_eq (s : State) (p : Nat) :
    ∃ m rs, s.caughtUp p = ((s.runPath p).onLnk fun l => { l with mem := m }).onPrm fun r => { r with rings := rs } := by
  unfold State.caughtUp
  split
  · exact ⟨(s.runPath p).lnk.mem, (s.runPath p).prm.rings, rfl⟩
  · exact (s.runPath p).catchStatus_mem

@[simp] theorem State.caughtUp_regs (s : State) (p : Nat) : (s.caughtUp p).regs = s.regs := by
  obtain ⟨m, rs, h⟩ := s.caughtUp_eq p
  rw [h]
  exact s.runPath_regs p

/-- The state at a chance on path p that no time has passed for: a wait for credit is noted too. -/
def State.atChance (s : State) (p : Nat) : State :=
  (s.caughtUp p).noteCreditWait p ([1, 2, 3].any fun pos => ((s.caughtUp p).memNext p pos).isSome)

/-- What stands before a chance differs in the lanes as they run, the memory transactions, the waits and the index slots. -/
structure AtChance (p : Nat) (s u : State) : Prop where
  main : MainKept 1156 [F.LNK_CREDIT_WAIT] s u
  lnk : u.lnk = { s.lnk with lanes := (s.runPath p).lnk.lanes, mem := u.lnk.mem, waited := u.lnk.waited }
  prm : u.prm = { s.prm with rings := u.prm.rings }

theorem State.Sound.atChance {s : State} (hs : s.Sound) (p : Nat) : AtChance p s (s.atChance p) := by
  obtain ⟨ls, hrun⟩ := s.runPath_lanes p
  obtain ⟨m, rs, hstatus⟩ := s.caughtUp_eq p
  have hkept : MainKept 1156 [F.LNK_CREDIT_WAIT] s
      (((s.runPath p).onLnk fun l => { l with mem := m }).onPrm fun r => { r with rings := rs }) :=
    (MainKept.refl hs _ _).of_regs (State.onPrm_kept _ _ (State.onLnk_kept _ _
      (State.runPath_kept s p (hs.kept 1156) rfl) rfl rfl) rfl) (s.runPath_regs p)
  rw [State.atChance, hstatus]
  obtain ⟨w, hwait | hwait⟩ := State.noteCreditWait_outcome
    (((s.runPath p).onLnk fun l => { l with mem := m }).onPrm fun r => { r with rings := rs }) p _
  · rw [hwait]
    exact ⟨hkept.of_regs (State.onLnk_kept _ _ hkept.kept rfl rfl) rfl, by rw [hrun]; rfl, by rw [hrun]; rfl⟩
  · rw [hwait]
    exact ⟨(hkept.wr rfl F.LNK_CREDIT_WAIT_COUNT 0 (.inl (.head _)) _).of_regs
      (State.onLnk_kept _ _ (State.satAdd_kept _ _ _ _ hkept.kept rfl) rfl rfl) rfl, by rw [hrun]; rfl, by rw [hrun]; rfl⟩

end Sys2Proof.Machine
end

section
/-! SUPPORT. A chance that class 0 takes (R284, R286, R289, R291). -/

namespace Sys2Proof.Machine

/-! ### Registers that a footprint beyond LNK_LANE_STAT leaves -/

section
variable {m : Nat} {l : List Nat} {r t : State} (h : MainKept m l r t) (hl : ∀ b ∈ l, 0x241000 ≤ b)
include h hl

theorem MainKept.rd_below {f : Fld} {i : Nat} (hf : f.addr i < 0x200000 ∨ 0x240000 ≤ f.addr i) (hf' : f.addr i < 0x241000) :
    t.rd f i = r.rd f i :=
  State.rd_of_regGet (h.main _ hf (by omega) fun hmem => absurd (hl _ hmem) (by omega))

theorem MainKept.moduleId : t.moduleId = r.moduleId := h.rd_below hl (.inl (by decide)) (by decide)

theorem MainKept.laneUp {n : Nat} (hn : n < 24) : t.laneUp n = r.laneUp n := by
  rw [State.laneUp, h.rd_below hl (.inr ?_) ?_]
  · rfl
  all_goals simp only [Fld.addr]; omega

theorem MainKept.pathUp {p : Nat} (hp : p < 2) : t.pathUp p = r.pathUp p := by
  have hlanes : t.upLanes p = r.upLanes p := List.filter_congr fun n hn => by
    obtain ⟨i, hi, rfl⟩ := List.mem_map.1 hn
    have hi := List.mem_range.1 hi
    exact h.laneUp hl (by omega)
  rw [State.pathUp, hlanes]
  rfl

theorem MainKept.pathRate (p : Nat) : t.pathRate p = r.pathRate p := by
  have hsame {f : Fld} (hf : f.addr 0 = 0x240000) : t.rd f = r.rd f := h.rd_below hl (.inr (by omega)) (by omega)
  rw [State.pathRate, hsame rfl, hsame rfl]
  rfl

end

section
variable {m : Nat} {r t : State} (h : Kept m r t)
include h

theorem Kept.queues (hm : hasBit m 256 = false) : t.que = r.que := by
  rw [h.eq_withParts]
  simp only [State.withParts, hm, cond_false]

theorem Kept.prm (hm : hasBit m 1024 = false) : t.prm = r.prm := by
  rw [h.eq_withParts]
  simp only [State.withParts, hm, cond_false]

end

/-! ### Class 0 frames leave by the slot (R286) -/

section
variable {s : State} {p : Nat}

theorem State.pathUp_of_laneUp (h : s.laneUp (12 * p) = true) : s.pathUp p = true := by
  have hmem : 12 * p ∈ s.upLanes p := State.mem_upLanes.2 ⟨by omega, h⟩
  simpa [State.pathUp] using List.ne_nil_of_mem hmem

theorem State.sendCopy_slot (h : s.laneUp (12 * p) = true) {f : TxFrame} (hc : f.cls = 0) (ht : f.ftype ≠ 0x01) :
    s.sendCopy p f = s.putOnSlot (12 * p) { f with path := p } := by
  simp [State.sendCopy, State.pathUp_of_laneUp h, State.useCredit, State.assignFrame, hc, ht, h]

/-- A copy waits behind those of its class and path. -/
theorem State.holdCopy_room {f : TxFrame} (hc : f.cls = 0) (h : (s.lnk.held.getD p []).length < 64) :
    s.holdCopy p f = s.onLnk fun l => { l with held := l.held.set p (s.lnk.held.getD p [] ++ [{ f with path := p }]) } := by
  have hroom : ¬ 64 ≤ (s.lnk.held.getD p []).length := by omega
  simp only [State.holdCopy, hc, Nat.mul_zero, Nat.zero_add, ge_iff_le, hroom, if_false]

/-! ### A chance for class 0 (R284) -/

/-- A head that both paths carry, of sound words, stays while lane 0 or 12 of the path is UP. -/
theorem State.clearClass0_id (hup : s.laneUp (12 * p) = true) (hlen : 0 < s.que.length)
    (hhead : ∀ x, (s.queue 0).waiting.head? = some x → x.only = none ∧ ∃ ws, x.words = packetWords ws) : s.clearClass0 p = s := by
  have hkeep (t : Nat) : s.timeLost p t = false := by simp [State.timeLost, hup]
  have hheld : (s.onLnk fun l => { l with held := l.held.modify p fun q => q.filter fun f => !s.timeLost p f.ftype }) = s := by
    have hsame (l : List (List TxFrame)) : l.modify p (fun q => q) = l := List.modify_id p l
    simp only [hkeep, Bool.not_false, List.filter_true, hsame]
    rfl
  have hclear : s.clearHead p = s := by
    unfold State.clearHead
    rcases hw : (s.queue 0).waiting with _ | ⟨x, rest⟩
    · rfl
    · obtain ⟨honly, ws, hx⟩ := hhead x (by rw [hw]; rfl)
      obtain ⟨hread, -⟩ := State.startPacket_takePacket hlen hw hx
      have hwhole : ¬ ws.length < x.words.length := by simp [hx]
      dsimp only
      rw [hread, if_neg hwhole, honly, Option.getD_none, hkeep, if_neg Bool.false_ne_true, if_pos rfl]
  rw [State.clearClass0, hheld]
  simp only [hkeep, List.filter_false]
  exact State.forEach_id fun _ _ => hclear

theorem State.chance_class0 {t : State} (hclear : s.clearClass0 p = s) (h : s.tryClass0 p = some t) : s.chance p = t := by
  rw [State.chance, hclear]
  simp only [h, firstOf]

theorem State.tryClass0_held (hup : s.laneUp (12 * p) = true) (hslot : s.slotRoom (12 * p) = true) {f : TxFrame}
    {rest : List TxFrame} (h : s.lnk.held.getD p [] = f :: rest) :
    s.tryClass0 p = some ((s.onLnk fun l => { l with held := l.held.set p rest }).sendCopy p f) := by
  simp only [State.tryClass0, hup, hslot, h, if_true, Bool.not_true, Bool.false_eq_true, if_false]

/-- The words that hold location codes in a class 0 item. -/
def Packet.locsOf (x : Packet) : List Nat := if x.ftype = 0x80 then (locWordOf (pktType x)).toList else []

theorem State.tryClass0_item (hup : s.laneUp (12 * p) = true) (hslot : s.slotRoom (12 * p) = true)
    (hheld : s.lnk.held.getD p [] = []) {x : Packet} {rest : List Packet} (h : (s.queue 0).waiting = x :: rest) :
    s.tryClass0 p = some ((((s.startPacket 0).takePacket 0 (x.words.length + 1)).1).sendFrame p 0 x.ftype
      ((s.startPacket 0).takePacket 0 (x.words.length + 1)).2 x.locsOf false x.only.isNone) := by
  simp only [State.tryClass0, hup, hslot, hheld, h, Packet.locsOf, if_true, Bool.not_true, Bool.false_eq_true, if_false]

theorem State.postAll_idle (h : s.prm.cmds = []) : s.postAll = s := by
  rw [State.postAll, h]
  rfl

end

/-! ### FRAME_START with class 0 ready (R284) -/

section
variable {p : Nat} {s u : State} (h : AtChance p s u)
include h

theorem AtChance.lane (n : Nat) : u.lane n = (s.runPath p).lane n := by
  rw [State.lane, h.lnk]
  rfl

theorem AtChance.held : u.lnk.held = s.lnk.held := by rw [h.lnk]

theorem AtChance.que : u.que = s.que := h.main.kept.queues rfl

theorem AtChance.queue (q : Nat) : u.queue q = s.queue q := congrArg (fun l : List Queue => l.getD q {}) h.que

theorem AtChance.laneUp {n : Nat} (hn : n < 24) : u.laneUp n = s.laneUp n := h.main.laneUp (by decide) hn

theorem AtChance.slotRoom (n : Nat) : u.slotRoom n = (s.runPath p).slotRoom n := by
  obtain ⟨ls, hrun⟩ := s.runPath_lanes p
  have hnow (q : Nat) : u.uiNow q = (s.runPath p).uiNow q := by
    rw [State.uiNow, h.main.kept.clk rfl, h.main.pathRate (by decide) q, hrun]
    rfl
  simp only [State.slotRoom, h.lane, hnow]

theorem AtChance.prm_cmds (hc : s.prm.cmds = []) : u.prm.cmds = [] := by rw [h.prm]; exact hc

end

/-- With class 0 ready and its slot free the chance comes at once. -/
theorem State.doFrameStart_class0 {s t : State} {p : Nat} (hid : s.moduleId ≠ 0) (hcommit : s.rdB F.PRM_STAT_COMMITTED = false)
    (hup : s.laneUp (12 * p) = true) (hslot : (s.runPath p).slotRoom (12 * p) = true) (hready : s.class0Ready p = true)
    (hp : (s.atChance p).pathUp p = true) (ht : (s.atChance p).chance p = t) (hcmds : t.prm.cmds = []) : s.doFrameStart p = t := by
  have hupRun : (s.runPath p).laneUp (12 * p) = true := (s.laneUp_of_regs (s.runPath_regs p) _).trans hup
  have hwait : (s.runPath p).awaitRoom p true = s.runPath p := if_pos (by simp [hupRun, hslot])
  have hcommitted : (s.caughtUp p).rdB F.PRM_STAT_COMMITTED = false := by
    rw [← hcommit, State.rdB, State.rd_of_regs (s.caughtUp_regs p)]
    rfl
  have hchance : s.doFrameStart p = ((s.atChance p).chance p).postAll := by
    rw [State.doFrameStart, if_neg hid, hready]
    dsimp only
    rw [hwait, ← State.caughtUp, State.memService_uncommitted hcommitted, ← State.atChance, hp]
    rfl
  rw [hchance, ht, State.postAll_idle hcmds]

end Sys2Proof.Machine
end

section
/-! SUPPORT. What goes by the class 0 slot (R286, R289, R291), and the parts of the statement about frames sent. -/

namespace Sys2Proof.Machine

/-- A frame placed in an empty slot is alone in it. -/
theorem State.slot0_putOnSlot {s : State} {n : Nat} (hn : n < s.lnk.lanes.length) (h : (s.lane n).slot0 = []) (f : TxFrame) :
    ((s.putOnSlot n f).lane n).slot0 = [{ f with lane := n }] := by
  rw [State.putOnSlot, State.lane_onLane hn]
  dsimp only
  rw [h]
  rfl

theorem State.slot0_of_slotRoom {s : State} {n : Nat} (h : s.slotRoom n = true) : (s.lane n).slot0 = [] :=
  List.isEmpty_iff.1 (Bool.and_eq_true_iff.1 h).1

/-! ### The next SEQ (R291) -/

section
variable {s : State} (hs : s.Sound)
include hs

theorem State.Sound.takeSeq_outcome : (s.takeSeq 0).1 = s.rd F.LNK_SEQ_NEXT 0 ∧
    (s.takeSeq 0).2.rd F.LNK_SEQ_NEXT 0 = (s.rd F.LNK_SEQ_NEXT 0 + 1) % 2 ^ 24 ∧ MainKept 4 [F.LNK_SEQ] s (s.takeSeq 0).2 := by
  have hwr : MainKept 4 [F.LNK_SEQ] s (s.wr F.LNK_SEQ_NEXT 0 ((s.rd F.LNK_SEQ_NEXT 0 + 1) % 2 ^ 24)) :=
    (MainKept.refl hs _ _).wr rfl F.LNK_SEQ_NEXT 0 (.inl (by decide)) _
  refine ⟨rfl, ?_, hwr.count rfl (0x130 + 0) s.locCx 1⟩
  calc (s.takeSeq 0).2.rd F.LNK_SEQ_NEXT 0
      = (s.wr F.LNK_SEQ_NEXT 0 ((s.rd F.LNK_SEQ_NEXT 0 + 1) % 2 ^ 24)).rd F.LNK_SEQ_NEXT 0 :=
        State.rd_of_regGet (((LowKept.refl hwr.kept.regs).count _ _ _).low _ (by decide))
    _ = (s.rd F.LNK_SEQ_NEXT 0 + 1) % 2 ^ 24 :=
        (State.rd_wr hs.regs F.LNK_SEQ_NEXT 0 _ (by decide)).trans (Nat.mod_mod _ _)

end

/-- The frame of a class 0 item that goes on path p. -/
def State.frame0 (s : State) (p ftype : Nat) (ws : List LWord) (locs : List Nat) : TxFrame :=
  { ftype := ftype, cls := 0, seq := s.rd F.LNK_SEQ_NEXT 0, path := p, module_ := s.moduleId, words := ws, locs := locs }

/-- A class 0 item that goes on both paths: its frame is in the slot of path p; the copy waits, or is counted as discarded. -/
theorem State.Sound.sendFrame_class0 {s : State} (hs : s.Sound) {p : Nat} (hp : p < 2) (hup : s.laneUp (12 * p) = true)
    {ftype : Nat} (ht : ftype ≠ 0x01) (ws : List LWord) (locs : List Nat) :
    s.sendFrame p 0 ftype ws locs false true =
      if s.pathUp (1 - p) then ((s.takeSeq 0).2.putOnSlot (12 * p) (s.frame0 p ftype ws locs)).holdCopy (1 - p)
        (s.frame0 p ftype ws locs)
      else ((s.takeSeq 0).2.putOnSlot (12 * p) (s.frame0 p ftype ws locs)).txDiscard 0 := by
  obtain ⟨-, -, hmain⟩ := hs.takeSeq_outcome
  have hmod := hmain.moduleId (by decide)
  have hslot : (s.takeSeq 0).2.sendCopy p (s.frame0 p ftype ws locs) =
      (s.takeSeq 0).2.putOnSlot (12 * p) (s.frame0 p ftype ws locs) :=
    State.sendCopy_slot ((hmain.laneUp (by decide) (by omega)).trans hup) rfl ht
  have hpath : ((s.takeSeq 0).2.putOnSlot (12 * p) (s.frame0 p ftype ws locs)).pathUp (1 - p) = s.pathUp (1 - p) :=
    hmain.pathUp (by decide) (by omega)
  rw [← hpath, ← hslot, State.frame0, ← hmod]
  rfl

/-- What such a frame leaves behind: it is alone in the slot, SEQ has moved on, and the copy is the newest that waits. -/
theorem State.Sound.sendFrame_outcome {s : State} (hs : s.Sound) {p : Nat} (hp : p < 2) (hup : s.laneUp (12 * p) = true)
    (hslot : (s.lane (12 * p)).slot0 = []) (hheld : s.lnk.held.length = 8) (hroom : (s.lnk.held.getD (1 - p) []).length < 64)
    {ftype : Nat} (ht : ftype ≠ 0x01) (ws : List LWord) (locs : List Nat) :
    ∃ t, s.sendFrame p 0 ftype ws locs false true = t ∧
      (t.lane (12 * p)).slot0 = [{ s.frame0 p ftype ws locs with lane := 12 * p }] ∧
      t.rd F.LNK_SEQ_NEXT 0 = (s.rd F.LNK_SEQ_NEXT 0 + 1) % 2 ^ 24 ∧
      (s.pathUp (1 - p) = true → t.lnk.held.getD (1 - p) [] =
        s.lnk.held.getD (1 - p) [] ++ [{ s.frame0 p ftype ws locs with path := 1 - p }]) ∧
      MainKept 132 [F.LNK_SEQ, F.LNK_TX_DISCARD] s t := by
  obtain ⟨-, hseq, hmain⟩ := hs.takeSeq_outcome
  have hlnk := hmain.kept.lnk rfl
  have hlane : (s.takeSeq 0).2.lane (12 * p) = s.lane (12 * p) := congrArg (fun l : Lnk => l.lanes.getD (12 * p) {}) hlnk
  have hslot0 := State.slot0_putOnSlot ((by omega : 12 * p < 24).trans_eq hmain.kept.lanes.symm) (by rw [hlane]; exact hslot)
    (s.frame0 p ftype ws locs)
  have hput : MainKept 132 [F.LNK_SEQ, F.LNK_TX_DISCARD] s ((s.takeSeq 0).2.putOnSlot (12 * p) (s.frame0 p ftype ws locs)) :=
    (hmain.mono rfl (by simp)).of_regs (State.putOnSlot_kept _ _ _ (hmain.kept.mono rfl) rfl) rfl
  have hheldPut : ((s.takeSeq 0).2.putOnSlot (12 * p) (s.frame0 p ftype ws locs)).lnk.held = s.lnk.held := by
    rw [State.putOnSlot, State.onLane, State.onLnk_lnk, hlnk]
  rw [hs.sendFrame_class0 hp hup ht]
  split
  next =>
    rw [State.holdCopy_room rfl (by rw [hheldPut]; exact hroom), hheldPut]
    refine ⟨_, rfl, hslot0, hseq, fun _ => ?_, hput.of_regs (State.onLnk_kept _ _ hput.kept rfl rfl) rfl⟩
    exact getD_set_same (by rw [hheldPut, hheld]; omega) _ _
  next hdown =>
    refine ⟨_, rfl, hslot0, ?_, fun h => absurd h hdown, hput.wr rfl F.LNK_TX_DISCARD_COUNT 0 (.inl (by decide)) _⟩
    have hcount := (MainKept.refl hput.kept.sound 4 [F.LNK_TX_DISCARD]).wr rfl F.LNK_TX_DISCARD_COUNT 0 (.inl (by decide))
    exact (State.rd_of_regGet ((hcount _).main _ (.inr (by decide)) (by decide) (by decide))).trans hseq

/-! ### The parts of the statement -/

section
variable {s : State} (hs : s.Sound) (hheld : s.lnk.held.length = 8) {p : Nat} (hp : p < 2) (hid : s.moduleId ≠ 0)
  (hcommit : s.rdB F.PRM_STAT_COMMITTED = false) (hcmds : s.prm.cmds = []) (hup : s.laneUp (12 * p) = true)
  (hslot : (s.runPath p).slotRoom (12 * p) = true)
include hs hheld hp hid hcommit hcmds hup hslot

/-- A held copy goes first (R284, R289). -/
theorem State.Sound.doFrameStart_held {f : TxFrame} {rest : List TxFrame} (hf : s.lnk.held.getD p [] = f :: rest)
    (hcls : f.cls = 0) (htype : f.ftype ≠ 0x01)
    (hhead : ∀ x, (s.queue 0).waiting.head? = some x → x.only = none ∧ ∃ ws, x.words = packetWords ws) :
    ∃ t, s.doFrameStart p = t ∧ t.lnk.held.getD p [] = rest ∧
      (t.lane (12 * p)).slot0 = [{ f with path := p, lane := 12 * p }] ∧ t.que = s.que ∧
      s.sameMain t [F.LNK_CREDIT_WAIT] ∧ t = { s with regs := t.regs, lnk := t.lnk, prm := t.prm } := by
  have hu := hs.atChance p
  have hq := hu.queue 0
  have hupU : (s.atChance p).laneUp (12 * p) = true := (hu.laneUp (by omega)).trans hup
  have hslotU : (s.atChance p).slotRoom (12 * p) = true := (hu.slotRoom _).trans hslot
  have hclear : (s.atChance p).clearClass0 p = s.atChance p :=
    State.clearClass0_id hupU (by rw [hu.que, hs.que]; decide) (by rw [hq]; exact hhead)
  have htry := State.tryClass0_held hupU hslotU (by rw [hu.held]; exact hf)
  have hready : s.class0Ready p = true := by simp only [State.class0Ready, hf]; rfl
  have hchance := State.chance_class0 hclear htry
  rw [State.sendCopy_slot (by exact hupU) hcls htype] at hchance
  refine ⟨_, State.doFrameStart_class0 hid hcommit hup hslot hready (State.pathUp_of_laneUp hupU) hchance (hu.prm_cmds hcmds),
    ?_, ?_, hu.que, hu.main.main, ?_⟩
  · exact getD_set_same (by rw [hu.held, hheld]; omega) _ _
  · refine State.slot0_putOnSlot ?_ (State.slot0_of_slotRoom hslotU) _
    exact (by omega : 12 * p < 24).trans_eq hu.main.kept.lanes.symm
  · exact (State.putOnSlot_kept _ _ _ (State.onLnk_kept _ _ hu.main.kept rfl rfl) rfl).eq_withParts

/-- Else the oldest item goes, with the next SEQ, and its copy waits for the other path (R284, R289, R291). -/
theorem State.Sound.doFrameStart_item {x : Packet} {ws : List LWord} {rest : List Packet} (hnone : s.lnk.held.getD p [] = [])
    (hwait : (s.queue 0).waiting = x :: rest) (hblocked : (s.queue 0).blocked = []) (honly : x.only = none)
    (htype : x.ftype ≠ 0x01) (hx : x.words = packetWords ws) (hne : ws ≠ [])
    (hroom : (s.lnk.held.getD (1 - p) []).length < 64) :
    ∃ t f, s.doFrameStart p = t ∧ (t.lane (12 * p)).slot0 = [f] ∧ f.words = ws ∧ f.cls = 0 ∧ f.ftype = x.ftype ∧
      f.seq = s.rd F.LNK_SEQ_NEXT 0 ∧ f.module_ = s.moduleId ∧ f.path = p ∧ f.cut = false ∧
      t.rd F.LNK_SEQ_NEXT 0 = (s.rd F.LNK_SEQ_NEXT 0 + 1) % 2 ^ 24 ∧ (t.queue 0).waiting = rest ∧ (t.queue 0).reading = none ∧
      (s.pathUp (1 - p) = true → ∃ g, t.lnk.held.getD (1 - p) [] = s.lnk.held.getD (1 - p) [] ++ [g] ∧
        g.words = ws ∧ g.seq = f.seq ∧ g.path = 1 - p) ∧
      s.sameMain t [F.LNK_CREDIT_WAIT, F.LNK_SEQ, F.LNK_TX_DISCARD] ∧
      t = { s with regs := t.regs, lnk := t.lnk, que := t.que, prm := t.prm } := by
  have hu := hs.atChance p
  have hq := hu.queue 0
  have hlen : 0 < (s.atChance p).que.length := by rw [hu.que, hs.que]; decide
  have hupU : (s.atChance p).laneUp (12 * p) = true := (hu.laneUp (by omega)).trans hup
  have hslotU : (s.atChance p).slotRoom (12 * p) = true := (hu.slotRoom _).trans hslot
  have hclear : (s.atChance p).clearClass0 p = s.atChance p := by
    refine State.clearClass0_id hupU hlen fun y hy => ?_
    obtain rfl : x = y := by simpa [hq, hwait] using hy
    exact ⟨honly, ws, hx⟩
  have htry := State.tryClass0_item hupU hslotU (by rw [hu.held]; exact hnone) (by rw [hq]; exact hwait)
  obtain ⟨hwords, hread⟩ := State.startPacket_takePacket hlen (by rw [hq]; exact hwait) hx
  rw [hwords, hread hne (by rw [hq]; exact hblocked), honly] at htry
  have hv : MainKept 1412 [F.LNK_CREDIT_WAIT, F.LNK_SEQ, F.LNK_TX_DISCARD] s ((s.atChance p).itemTaken 0 rest) :=
    (hu.main.mono rfl (by simp)).of_regs (State.onQueue_kept _ _ _ (hu.main.kept.mono rfl) rfl) rfl
  have hnext : ((s.atChance p).itemTaken 0 rest).rd F.LNK_SEQ_NEXT 0 = s.rd F.LNK_SEQ_NEXT 0 :=
    State.rd_of_regGet (hu.main.main _ (.inr (by decide)) (by decide) (by decide))
  have hmod : ((s.atChance p).itemTaken 0 rest).moduleId = s.moduleId := hu.main.moduleId (by decide)
  have hother : ((s.atChance p).itemTaken 0 rest).pathUp (1 - p) = s.pathUp (1 - p) :=
    hu.main.pathUp (by decide) (by omega)
  have hheldTaken : ((s.atChance p).itemTaken 0 rest).lnk.held = s.lnk.held := hu.held
  obtain ⟨t, hsend, hslot0, hseq, hcopy, hmain⟩ := hv.kept.sound.sendFrame_outcome hp (by exact hupU)
    (by exact State.slot0_of_slotRoom hslotU) (by rw [hheldTaken]; exact hheld) (by rw [hheldTaken]; exact hroom) htype ws x.locsOf
  have hqueue : t.queue 0 = ((s.atChance p).itemTaken 0 rest).queue 0 :=
    congrArg (fun l : List Queue => l.getD 0 {}) (hmain.kept.queues rfl)
  rw [State.itemTaken, State.queue_onQueue hlen] at hqueue
  have hchance := State.chance_class0 hclear (htry.trans (congrArg some hsend))
  have hready : s.class0Ready p = true := by simp [State.class0Ready, hwait]
  have hidle : t.prm.cmds = [] := (congrArg Prm.cmds (hmain.kept.prm rfl)).trans (hu.prm_cmds hcmds)
  have hall := hv.trans (hmain.mono rfl (by simp))
  refine ⟨t, _, State.doFrameStart_class0 hid hcommit hup hslot hready (State.pathUp_of_laneUp hupU) hchance hidle, hslot0, rfl, rfl,
    rfl, hnext, hmod, rfl, rfl, hseq.trans (by rw [hnext]), by rw [hqueue], by rw [hqueue], fun h => ?_, hall.main,
    hall.kept.eq_withParts⟩
  rw [hheldTaken] at hcopy
  exact ⟨_, hcopy (hother.trans h), rfl, rfl, rfl⟩

end

end Sys2Proof.Machine
open Sys2Proof Sys2Proof.Machine

/-- Settles O33, by what a chance on a path does for class 0 (a held copy, then the oldest item, both by the slot of lane 0 or 12),
by the lane that takes a CREDIT frame, and by the footprints of the registers written. -/
theorem linkFrames : Obligations.LinkFrames := by
  intro s hw hheld
  have hs := hw.sound
  have hstart (path : Fin 2) : exec (.frameStart path) s = .next (s.doFrameStart path) := hw.next_cxDo fun s => s.doFrameStart path
  have hsend (path : Fin 2) : exec (.creditSend path) s = .next (s.doCreditSend path) := hw.next_cxDo fun s => s.doCreditSend path
  refine ⟨fun path hid => ?_, fun path f rest hid hcommit hcmds hup hslot hf hcls htype hhead => ?_,
    fun path x ws rest hid hcommit hcmds hup hslot hnone hwait _ hblocked honly htype hx hne hroom => ?_,
    fun path w hlimit => ?_, fun path n u hid hu hn hgranted => ?_, fun path hdown => ?_, fun p w verdict hv => ?_⟩
  · rw [hstart, hsend]
    exact ⟨congrArg _ (if_pos hid), congrArg _ (if_pos hid)⟩
  · obtain ⟨t, ht, hout⟩ := hs.doFrameStart_held hheld path.isLt hid hcommit hcmds hup hslot hf hcls htype hhead
    exact ⟨t, (hstart path).trans (congrArg _ ht), hout⟩
  · obtain ⟨t, f, ht, hout⟩ := hs.doFrameStart_item hheld path.isLt hid hcommit hcmds hup hslot hnone hwait hblocked honly htype hx
      hne hroom
    exact ⟨t, f, (hstart path).trans (congrArg _ ht), hout⟩
  · obtain ⟨h1, h2, h3⟩ := Lnk.limited_limit hlimit path w
    obtain ⟨hwaiting, hsame⟩ := hs.doCreditFrame_regs path w
    refine ⟨s.doCreditFrame path w, hw.next_cxDo fun s => s.doCreditFrame path w, h1, h2, h3, hwaiting, s.doCreditFrame_credit path w,
      rfl, hsame, rfl⟩
  · subst hu
    obtain ⟨t, f, ht, hout⟩ := hs.doCreditSend_outcome path.isLt hid hn hgranted
    exact ⟨t, f, (hsend path).trans (congrArg _ ht), hout⟩
  · rw [hsend, State.doCreditSend_down hdown]
  · rw [hw.exec_classPolicyWrite]
    obtain rfl : verdict = s.policyVerdict w := hv
    refine ⟨fun q hq => ?_, fun hnone => ?_⟩
    · rw [State.accepted_classPolicy_refused hq]
    · obtain ⟨h1, h2, h3, h4, h5, h6, hsame⟩ := State.putPolicy_fields hs.drawFree.regs w
      have hregs : (s.accepted p fun u => u.putPolicy w).regs = (State.putPolicy { s with free := s.free + 1 } w).regs := rfl
      have hrd (f : Fld) := State.rd_of_regs hregs f 0
      rw [State.accepted_classPolicy hnone]
      exact ⟨_, rfl, (hrd _).trans h1, (hrd _).trans h2, (hrd _).trans h3, (hrd _).trans h4, (hrd _).trans h5, (hrd _).trans h6,
        hsame.trans (State.sameRegs_of_regs hregs _), hs.accepted_putPolicy p w⟩
end

section
/-! SUPPORT. Footprints by fields: the fields of registers outside the blocks QUE, FAU and PMC that a run of operations leaves (R233,
R243, R438, R451). -/

namespace Sys2Proof.Machine

/-- A field of a register: its place and its index. -/
abbrev RegField := Fld × Nat

/-- Outside the blocks QUE, FAU and PMC (R451). -/
abbrev MainAddr (a : Nat) : Prop := (a < 0x200000 ∨ 0x240000 ≤ a) ∧ a < 0x380000

/-- Two fields share no bit. -/
abbrev FieldsApart (x y : RegField) : Prop :=
  x.1.addr x.2 ≠ y.1.addr y.2 ∨ x.1.lo + x.1.width ≤ y.1.lo ∨ y.1.lo + y.1.width ≤ x.1.lo

/-- Flag k of the event register at address a, and its count (R14). -/
abbrev flagFields (a k : Nat) : List RegField := [(⟨a, 4, k, 1⟩, 0), (⟨a, 4, 8 * (k + 1), 8⟩, 0)]

/-- t's registers are in canonical form, and each field outside the blocks QUE, FAU and PMC that is apart from those of W holds what
it holds in r. -/
structure FieldsKept (W : List RegField) (r t : State) : Prop where
  wf : tableWf coldWord t.regs = true
  same : ∀ x : RegField, MainAddr (x.1.addr x.2) → (∀ y ∈ W, FieldsApart x y) → t.rd x.1 x.2 = r.rd x.1 x.2

section
variable {W : List RegField} {r t u : State}

theorem FieldsKept.refl (h : tableWf coldWord r.regs = true) (W : List RegField) : FieldsKept W r r := ⟨h, fun _ _ _ => rfl⟩

variable (h : FieldsKept W r t)
include h

theorem FieldsKept.trans (g : FieldsKept W t u) : FieldsKept W r u :=
  ⟨g.wf, fun x ha hx => (g.same x ha hx).trans (h.same x ha hx)⟩

theorem FieldsKept.mono {W' : List RegField} (hW : ∀ y ∈ W, y ∈ W') : FieldsKept W' r t :=
  ⟨h.wf, fun x ha hx => h.same x ha fun y hy => hx y (hW y hy)⟩

/-- The registers but those that hold a field of W. -/
theorem FieldsKept.sameMain : r.sameMain t (W.map fun y => y.1.addr y.2) := by
  intro b hq hb hW
  have hword (s : State) : s.rd ⟨b, 0, 0, 32⟩ 0 = (s.regGet b).toNat := by
    have := (s.regGet b).isLt
    simp only [State.rd, Fld.addr, getField, Nat.mul_zero, Nat.add_zero, pow_zero, Nat.div_one]
    omega
  have hsame := h.same (⟨b, 0, 0, 32⟩, 0) ⟨hq, hb⟩ fun y hy => .inl fun e => hW (List.mem_map.2 ⟨y, hy, e.symm⟩)
  dsimp only at hsame
  rw [hword, hword] at hsame
  exact BitVec.eq_of_toNat_eq hsame

theorem FieldsKept.congr (e : u.regs = t.regs) : FieldsKept W r u :=
  ⟨e ▸ h.wf, fun x ha hx => (State.rd_of_regs e _ _).trans (h.same x ha hx)⟩

theorem FieldsKept.wr {f : Fld} {i : Nat} (hf : (f, i) ∈ W ∨ ¬ MainAddr (f.addr i)) (v : Nat) : FieldsKept W r (t.wr f i v) := by
  refine ⟨State.wf_wr h.wf _ _ _, fun x ha hx => (State.rd_wr_ne h.wf _ _ _ _ _ ?_).trans (h.same x ha hx)⟩
  rcases hf with hf | hf
  · exact hx _ hf
  · exact .inl fun e => hf (e ▸ ha)

theorem FieldsKept.flag {a k : Nat} (ha : (∀ y ∈ flagFields a k, y ∈ W) ∨ ¬ MainAddr a) : FieldsKept W r (t.flag a k) := by
  refine ⟨State.wf_regPut h.wf _ _, fun x hm hx => Eq.trans ?_ (h.same x hm hx)⟩
  rw [State.rd, State.rd, State.flag_regs, State.regGet_regPut h.wf]
  split
  · next e =>
    rcases ha with ha | ha
    · have hapart (y : RegField) (hy : y ∈ flagFields a k) (hya : y.1.addr y.2 = a) := (hx y (ha y hy)).resolve_left (by
        rw [hya]; exact not_not.2 e)
      have hbit := hapart _ List.mem_cons_self rfl
      have hcount := hapart _ (List.mem_cons_of_mem _ List.mem_cons_self) rfl
      rw [flagWord, getField_setField_ne _ _ _ _ _ _ hcount, getField_setField_ne _ _ _ _ _ _ hbit, e]
    · exact absurd (e ▸ hm) ha
  · rfl

theorem FieldsKept.report (c l d : Nat) : FieldsKept W r (t.report c l d) := by
  have hlow := (LowKept.refl h.wf).report c l d
  exact ⟨hlow.wf, fun x ha hx => (State.rd_of_regGet (hlow.low _ ha.2)).trans (h.same x ha hx)⟩

theorem FieldsKept.enqueue {q : Nat} (hq : q < 12) (p : Packet) : FieldsKept W r (t.enqueue q p) :=
  ((h.congr rfl).wr (f := F.QUE_HWM_WORDS) (i := q) (.inr (by simp only [MainAddr, Fld.addr]; omega)) _).congr
    (t.enqueue_regs q p)

theorem FieldsKept.pushPkt {q : Nat} (hq : q ≠ 0) (hq' : q < 12) (p : Packet) : FieldsKept W r (t.pushPkt q p) := by
  rw [State.pushPkt_eq hq]
  split
  · exact h.enqueue hq' p
  · exact (h.congr (u := t.onQueue q _) rfl).flag (.inr (by decide))

end

end Sys2Proof.Machine
end

section
/-! SUPPORT. Time passes until a network time (R303), packets that enter a queue (R232, R307), and what the servo, holdover and the
choice of the path leave of the time unit (R304 to R306, R314 to R318). -/

namespace Sys2Proof.Machine

/-! ### Network time (R303) -/

@[simp] theorem State.toCount_tim (s : State) (n : Nat) : (s.toCount n).tim = s.tim := by
  rw [s.toCount_only n]
@[simp] theorem State.toTime_tim (s : State) (x : Int) : (s.toTime x).tim = s.tim := s.toCount_tim _
@[simp] theorem State.toTime_regs (s : State) (x : Int) : (s.toTime x).regs = s.regs := s.toCount_regs _

/-- The count and the relation in force give network time (R303). -/
theorem State.now_congr {s t : State} (hclk : t.clk = s.clk) (hoffset : t.tim.offset = s.tim.offset)
    (htnom : t.tim.tnom = s.tim.tnom) (hrate : t.tim.rate = s.tim.rate) : t.now = s.now := by
  rw [State.now, State.now, State.timeOf, State.timeOf, Tim.at_, Tim.at_, hclk, hoffset, htnom, hrate]

/-- A rounded quotient is no less than a whole number that the quotient is not below. -/
theorem le_rhe {n x : Int} {d : Nat} (hd : 0 < d) (h : x * d ≤ n) : x ≤ rhe n d := by
  have hq : x ≤ n / (d : Int) := (Int.le_ediv_iff_mul_le (by exact_mod_cast hd)).2 h
  unfold rhe
  dsimp only
  split
  · exact hq
  · split
    · omega
    · split <;> omega

/-- Where network time rises with the count, it has come to x when time has passed until x. -/
theorem State.le_now_toTime {s : State} (hrun : s.clk.running = true) (hstep : 0 < s.tim.tnom * (2 ^ 40 + s.tim.rate)) (x : Int) :
    x ≤ (s.toTime x).now := by
  have hcount : (s.toTime x).clk.count = max s.clk.count (((x - s.tim.offset) * 2 ^ 56 +
      s.tim.tnom * (2 ^ 40 + s.tim.rate) - 1) / (s.tim.tnom * (2 ^ 40 + s.tim.rate))).toNat := State.toCount_count hrun _
  rw [State.now, State.timeOf, State.toTime_tim, Tim.at_]
  refine le_rhe (by positivity) ?_
  generalize (s.toTime x).clk.count = c at hcount
  generalize hst : (s.tim.tnom : Int) * (2 ^ 40 + s.tim.rate) = st at hstep hcount
  have hceil : (x - s.tim.offset) * 2 ^ 56 ≤ st * (((x - s.tim.offset) * 2 ^ 56 + st - 1) / st) := by
    have := Int.emod_add_mul_ediv ((x - s.tim.offset) * 2 ^ 56 + st - 1) st
    have := Int.emod_lt_of_pos ((x - s.tim.offset) * 2 ^ 56 + st - 1) hstep
    omega
  have hle : ((x - s.tim.offset) * 2 ^ 56 + st - 1) / st ≤ (c : Int) := by omega
  have hmul := Int.mul_le_mul_of_nonneg_left hle hstep.le
  have hprod : (c : Int) * s.tim.tnom * (2 ^ 40 + s.tim.rate) = st * c := by rw [← hst]; ring
  rw [hprod]
  push_cast
  linarith

/-! ### Packets that enter a queue (R232, R307) -/

section
variable (s : State) (q : Nat) (p : Packet)

theorem State.enqueue_que : (s.enqueue q p).que =
    s.que.set q { s.queue q with waiting := (s.queue q).waiting ++ [{ p with at_ := s.clk.count }] } := by
  unfold State.enqueue State.noteT48
  split
  · split
    · rfl
    · split <;> rfl
  · rfl

/-- Of the time unit a packet moves the start of the heartbeat interval of its class. -/
theorem State.enqueue_tim : (s.enqueue q p).tim =
    { s.tim with lastT48C1 := (s.enqueue q p).tim.lastT48C1, lastT48C3 := (s.enqueue q p).tim.lastT48C3 } := by
  unfold State.enqueue State.noteT48
  split
  · split
    · rfl
    · split <;> rfl
  · rfl

/-- A class 0 item moves none. -/
theorem State.enqueue_tim_zero : (s.enqueue 0 p).tim = s.tim := by
  unfold State.enqueue State.noteT48
  split <;> rfl

theorem State.queue_of_que {t : State} (h : t.que = s.que) : t.queue q = s.queue q := congrArg (fun l : List Queue => l.getD q {}) h

theorem State.queue_onQueue_ne {q' : Nat} (h : q' ≠ q) (f : Queue → Queue) : (s.onQueue q f).queue q' = s.queue q' :=
  getD_set_ne _ h _ _

theorem State.queue_enqueue_ne {q' : Nat} (h : q' ≠ q) : (s.enqueue q p).queue q' = s.queue q' :=
  (congrArg (fun l : List Queue => l.getD q' {}) (s.enqueue_que q p)).trans (getD_set_ne _ h _ _)

variable {s q}

theorem State.waiting_enqueue (h : q < s.que.length) :
    ((s.enqueue q p).queue q).waiting = (s.queue q).waiting ++ [{ p with at_ := s.clk.count }] := by
  have hque : (s.enqueue q p).queue q = { s.queue q with waiting := (s.queue q).waiting ++ [{ p with at_ := s.clk.count }] } :=
    (congrArg (fun l : List Queue => l.getD q {}) (s.enqueue_que q p)).trans (getD_set_same h _ _)
  rw [hque]

end

/-! ### What the servo leaves of the time unit -/

/-- The time unit's own state without what acquisition, servo, jumps, relation records and heartbeats keep in it. -/
def Tim.unsteered (t : Tim) : Tim :=
  { t with integ := 0, acquired := false, acquiredOnce := false, points := [], lockRun := 0, stepped := false, afterStep := false
           pending := [], relation := {}, relationSeq := 0, relationAt := 0, accept := false, refused := 0
           lastT48C1 := 0, lastT48C3 := 0 }

/-- From r to t the clock may have been steered: of the registers outside QUE, FAU and PMC only the fields of W may have changed, of
the time unit only what Tim.unsteered leaves out, and nothing has entered the class 0 queue. -/
structure Steered (W : List RegField) (r t : State) : Prop where
  kept : Kept 838 r t
  fields : FieldsKept W r t
  tim : t.tim.unsteered = r.tim.unsteered
  queue : t.queue 0 = r.queue 0

theorem Steered.refl {r : State} (h : r.Sound) (W : List RegField) : Steered W r r := ⟨h.kept _, .refl h.regs W, rfl, rfl⟩

section
variable {W : List RegField} {r t : State} (h : Steered W r t)
include h

theorem Steered.clk : t.clk = r.clk := h.kept.clk rfl

/-- The same network time (R303). -/
theorem Steered.now : t.now = r.now :=
  State.now_congr h.clk (congrArg Tim.offset h.tim :) (congrArg Tim.tnom h.tim :) (congrArg Tim.rate h.tim :)

theorem Steered.wr {f : Fld} {i : Nat} (hf : (f, i) ∈ W) (v : Nat) : Steered W r (t.wr f i v) :=
  ⟨State.wr_kept _ _ _ _ h.kept rfl, h.fields.wr (.inl hf) v, h.tim, h.queue⟩

theorem Steered.flag {a k : Nat} (ha : ∀ y ∈ flagFields a k, y ∈ W) : Steered W r (t.flag a k) :=
  ⟨State.flag_kept _ _ _ h.kept rfl, h.fields.flag (.inl ha), h.tim, h.queue⟩

theorem Steered.onTim {f : Tim → Tim} (hf : ∀ x : Tim, (f x).unsteered = x.unsteered := by intro _; rfl) : Steered W r (t.onTim f) :=
  ⟨State.onTim_kept _ _ h.kept rfl, h.fields.congr rfl, (hf _).trans h.tim, h.queue⟩

theorem Steered.report (c l d : Nat) : Steered W r (t.report c l d) := by
  refine ⟨State.report_kept _ _ _ _ h.kept rfl, h.fields.report c l d, ?_, ?_⟩
  · rw [h.kept.sound.report_only]
    exact h.tim
  · rw [h.kept.sound.report_only]
    exact h.queue

theorem Steered.conditionOver (c l : Nat) : Steered W r (t.conditionOver c l) :=
  ⟨State.conditionOver_kept _ _ _ h.kept rfl, h.fields.congr rfl, h.tim, h.queue⟩

/-- A packet enters another queue than that of class 0, or waits. -/
theorem Steered.pushPkt {q : Nat} (hq : q ≠ 0) (hq' : q < 12) (p : Packet) : Steered W r (t.pushPkt q p) := by
  refine ⟨h.kept.pushPkt hq rfl p, h.fields.pushPkt hq hq' p, ?_, ?_⟩
  all_goals
    rw [State.pushPkt_eq hq]
    split
  · rw [State.enqueue_tim]
    exact h.tim
  · exact h.tim
  · exact (t.queue_enqueue_ne q p hq.symm).trans h.queue
  · exact (State.queue_of_que _ 0 (State.flag_que _ _ _)).trans ((t.queue_onQueue_ne q hq.symm _).trans h.queue)

/-- A relation record (R306). -/
theorem Steered.pushRelation (x : Relation) : Steered W r (t.pushRelation x) :=
  (h.pushPkt (by decide) (by decide) _).onTim

/-- A relation that announces a change of state, with the offset and t_nom in force (R318). -/
theorem Steered.relationNow (n : Nat) : Steered W r (t.relationNow n t.tim.offset t.tim.tnom) := by
  refine Steered.pushRelation ⟨State.onTim_kept _ _ h.kept rfl, h.fields.congr rfl, ?_, h.queue⟩ _
  exact h.tim

theorem Steered.decideRebase (rate step : Int) (stepped : Bool) : Steered W r (t.decideRebase rate step stepped) :=
  Steered.pushRelation h.onTim _

theorem Steered.stepBy (rate step : Int) : Steered W r (t.stepBy rate step) :=
  Steered.decideRebase h.onTim _ _ _

theorem Steered.servo (theta : Int) : Steered W r (t.servo theta) := Steered.decideRebase h.onTim _ _ _

section
variable (hstate : (F.TIM_STAT_STATE, 0) ∈ W)
include hstate

theorem Steered.setTimState (n : Nat) : Steered W r (t.setTimState n) := h.wr hstate n

theorem Steered.relock : Steered W r t.relock := ((h.setTimState hstate _).conditionOver _ _).conditionOver _ _

theorem Steered.checkHoldover (hevt : ∀ y ∈ flagFields F.TIM_EVT 0, y ∈ W) : Steered W r t.checkHoldover := by
  have hheld := (h.setTimState hstate timHoldover).flag hevt
  unfold State.checkHoldover
  split
  · exact (hheld.relationNow _).report _ _ _
  · exact h

theorem Steered.acquireRound (at_ theta : Int) : Steered W r (t.acquireRound at_ theta) := by
  have hstart : Steered W r (if t.timState = timFree then (t.setTimState timAcquiring).onTim fun t =>
      { t with points := [], lockRun := 0, stepped := false, afterStep := false } else t) := by
    split
    · exact (h.setTimState hstate _).onTim
    · exact h
  unfold State.acquireRound
  dsimp only
  generalize (if t.timState = timFree then (t.setTimState timAcquiring).onTim fun t =>
      { t with points := [], lockRun := 0, stepped := false, afterStep := false } else t) = u at hstart
  have hagain : Steered W r (if u.tim.afterStep ∧ (65536000 ≤ theta ∨ theta ≤ -65536000) then
      u.onTim fun t => { t with points := [], lockRun := 0, stepped := false, afterStep := false }
      else u.onTim fun t => { t with afterStep := false }) := by
    split <;> exact hstart.onTim
  generalize (if u.tim.afterStep ∧ (65536000 ≤ theta ∨ theta ≤ -65536000) then
      u.onTim fun t => { t with points := [], lockRun := 0, stepped := false, afterStep := false }
      else u.onTim fun t => { t with afterStep := false }) = v at hagain
  split
  · have hrun (n : Nat) : Steered W r (v.onTim fun t => { t with lockRun := n }) := hagain.onTim
    generalize (if -65536 < theta ∧ theta < 65536 then v.tim.lockRun + 1 else 0) = n
    split
    · exact (hrun n).setTimState hstate _
    · exact hrun n
  · split
    · exact hagain.onTim
    · exact Steered.stepBy hagain.onTim _ _

variable (hjump : ∀ y ∈ flagFields F.TIM_EVT 1 ++ [(F.TIM_JUMP_OFS_LO_OFS, 0), (F.TIM_JUMP_OFS_HI_OFS, 0)], y ∈ W)
include hjump

theorem Steered.refuseJump (theta : Int) : Steered W r (t.refuseJump theta) := by
  have hflag := (h.setTimState hstate timRefused).flag fun y hy => hjump y (List.mem_append_left _ hy)
  have hlo := Steered.wr (hflag.onTim (f := fun t => { t with refused := theta }))
    (hjump (F.TIM_JUMP_OFS_LO_OFS, 0) (by decide))
  exact ((hlo _).wr (hjump (F.TIM_JUMP_OFS_HI_OFS, 0) (by decide)) _).report _ _ _

/-- A round or edge of the governing source steers the clock (R314 to R318). -/
theorem Steered.governRound (at_ theta : Int) : Steered W r (t.governRound at_ theta) := by
  unfold State.governRound
  split
  · exact h.acquireRound hstate _ _
  · split
    · exact Steered.stepBy (Steered.relock h.onTim hstate) _ _
    · split
      · exact h.refuseJump hstate hjump _
      · refine Steered.servo ?_ _
        split
        · exact h
        · exact h.relock hstate

end
end

/-! ### The path in use (R316) -/

theorem FieldsKept.selectPath {W : List RegField} {r t : State} (h : FieldsKept W r t)
    (hW : ∀ y ∈ [(F.TIM_STAT_PATH_IN_USE, 0), (F.TIM_STAT_DISAGREE, 0)], y ∈ W) : FieldsKept W r t.selectPath :=
  (h.wr (.inl (hW _ (by decide))) _).wr (f := F.TIM_STAT_DISAGREE) (.inl (hW _ (by decide))) _

theorem FieldsKept.pathGood {W : List RegField} {r t : State} (h : FieldsKept W r t)
    (hW : ∀ y ∈ W, FieldsApart (F.TIM_STAT_PATH_A_GOOD, 0) y ∧ FieldsApart (F.TIM_STAT_PATH_B_GOOD, 0) y) (p : Nat) :
    t.pathGood p = r.pathGood p := by
  have hA := h.same (F.TIM_STAT_PATH_A_GOOD, 0) (by decide) fun y hy => (hW y hy).1
  have hB := h.same (F.TIM_STAT_PATH_B_GOOD, 0) (by decide) fun y hy => (hW y hy).2
  simp only [State.pathGood, State.rdB, hA, hB]

theorem FieldsKept.setPathGood {W : List RegField} {r t : State} (h : FieldsKept W r t)
    (hW : ∀ y ∈ [(F.TIM_STAT_PATH_A_GOOD, 0), (F.TIM_STAT_PATH_B_GOOD, 0)], y ∈ W) (p : Nat) (b : Bool) :
    FieldsKept W r (t.setPathGood p b) := by
  unfold State.setPathGood
  split
  · exact h.wr (.inl (hW _ (by decide))) _
  · exact h.wr (.inl (hW _ (by decide))) _

section
variable {s : State} (h : tableWf coldWord s.regs = true) (p : Nat) (b : Bool)
include h

theorem State.pathGood_setPathGood : (s.setPathGood p b).pathGood p = b := by
  unfold State.setPathGood State.pathGood
  split
  · exact State.rdB_wrB h _ _ (by decide) rfl b
  · exact State.rdB_wrB h _ _ (by decide) rfl b

theorem State.pathGood_setPathGood_other {q : Nat} (hpq : p = 0 ↔ q ≠ 0) : (s.setPathGood p b).pathGood q = s.pathGood q := by
  unfold State.setPathGood State.pathGood
  by_cases hp : p = 0
  · have hq := hpq.1 hp
    simp only [hp, hq, if_true, if_false, State.rdB, State.wrB]
    rw [State.rd_wr_ne h _ _ _ _ _ (by decide)]
  · have hq : q = 0 := by omega
    simp only [hp, hq, if_true, if_false, State.rdB, State.wrB]
    rw [State.rd_wr_ne h _ _ _ _ _ (by decide)]

end

end Sys2Proof.Machine
end

section
/-! SUPPORT. The time exchange (R309 to R313): what the frames of a round make of it, and what a computed round leaves. -/

namespace Sys2Proof.Machine

/-! ### TIME frames that enter the class 0 queue (R289, R310) -/

/-- The class 0 item of a TIME frame of one path. -/
def State.timeItem (s : State) (path : Nat) (ws : List LWord) : Packet :=
  { words := packetWords ws, at_ := s.clk.count, ftype := 0x08, only := some path }

section
variable {s : State} (hs : s.Sound) (path : Nat) {ws : List LWord} (hroom : (s.queue 0).fill + ws.length ≤ queueCap 0)
include hroom

theorem State.pushTime_room : s.pushTime path ws = s.enqueue 0 (s.timeItem path ws) := if_pos hroom

include hs

theorem State.Sound.pushTime_outcome : (s.pushTime path ws).tim = s.tim ∧
    ((s.pushTime path ws).queue 0).waiting = (s.queue 0).waiting ++ [s.timeItem path ws] ∧
    FieldsKept [] s (s.pushTime path ws) := by
  rw [State.pushTime_room path hroom]
  exact ⟨s.enqueue_tim_zero _, State.waiting_enqueue _ (by rw [hs.que]; decide),
    (FieldsKept.refl hs.regs _).enqueue (by decide) _⟩

end

theorem State.show32_only (s : State) (v : Int) : (s.show32 v).2 = { s with free := (s.show32 v).2.free } := by
  unfold State.show32
  split <;> rfl

/-- The REPORT of a round enters the class 0 queue and changes nothing else of the time unit (R310). -/
theorem State.Sound.sendReport_outcome {s : State} (hs : s.Sound) (p round : Nat) (theta delay t2 : Int)
    (hroom : (s.queue 0).fill + 4 ≤ queueCap 0) : (s.sendReport p round theta delay t2).tim = s.tim ∧
    (∃ y, ((s.sendReport p round theta delay t2).queue 0).waiting = (s.queue 0).waiting ++ [y] ∧ y.words.length = 4 ∧
      y.ftype = 0x08 ∧ y.only = some p) ∧ FieldsKept [] s (s.sendReport p round theta delay t2) := by
  obtain ⟨ws, n, hlen, hsend⟩ : ∃ ws n, ws.length = 4 ∧
      s.sendReport p round theta delay t2 = State.pushTime { s with free := n } p ws := by
    unfold State.sendReport
    dsimp only
    rw [State.show32_only _ delay, State.show32_only _ theta]
    exact ⟨_, _, rfl, rfl⟩
  have hfree : State.Sound { s with free := n } := { hs with }
  obtain ⟨htim, hqueue, hfields⟩ := hfree.pushTime_outcome p (ws := ws) (by rw [hlen]; exact hroom)
  rw [hsend]
  exact ⟨htim, ⟨_, hqueue, (length_packetWords ws).trans hlen, rfl, rfl⟩,
    ((FieldsKept.refl hs.regs []).congr (u := { s with free := n }) rfl).trans hfields⟩

/-! ### A round given up (R311) -/

/-- Path p has no round any more. -/
def State.clearRound (s : State) (p : Nat) : State := s.onTim fun t => { t with rounds := t.rounds.set p none }

section
variable {s : State} {p : Nat} {r : TimeRound} (hround : s.tim.rounds.getD p none = some r)
include hround

theorem State.dropRound_eq : s.dropRound p = (s.clearRound p).roundRejected p :=
  if_pos (by rw [hround]; rfl)

theorem State.Sound.dropRound_outcome (hs : s.Sound) : (s.dropRound p).tim = { s.tim with rounds := s.tim.rounds.set p none } ∧
    (s.dropRound p).rd F.TIM_PATH_CNT_REJECTED p = min 65535 (s.rd F.TIM_PATH_CNT_REJECTED p + 1) ∧
    s.sameRegs (s.dropRound p) [F.TIM_PATH_CNT_REJECTED.addr p] ∧
    s.dropRound p = { s with regs := (s.dropRound p).regs, tim := (s.dropRound p).tim } := by
  rw [State.dropRound_eq hround]
  exact ⟨rfl, State.rd_satAdd (s := s.clearRound p) hs.regs (by decide) p 1,
    State.sameRegs_of_wr (f := F.TIM_PATH_CNT_REJECTED) (i := p) hs.regs rfl, rfl⟩

end

theorem State.dropRound_none {s : State} {p : Nat} (h : s.tim.rounds.getD p none = none) : s.dropRound p = s :=
  if_neg (by rw [h]; exact Bool.false_ne_true)

/-! ### ORIGIN (R309, R311) -/

section
variable {s : State} {lane round master k phi : Nat}

theorem State.doOrigin_down (h : s.laneUp lane = false) : s.doOrigin lane round master k phi = s := if_pos (by rw [h]; rfl)

variable (hup : s.laneUp lane = true) (hid : s.moduleId ≠ 0) (hrun : s.clk.running = true)
include hup hid hrun

theorem State.doOrigin_other (h0 : lane ≠ 0) (h12 : lane ≠ 12) : s.doOrigin lane round master k phi = s.rejectFrame lane :=
  (if_neg (by simp [hup, hid, hrun])).trans (if_pos ⟨h0, h12⟩)

theorem State.doOrigin_opens (hlane : lane = 0 ∨ lane = 12) (hnone : s.tim.rounds.getD (lane / 12) none = none) (hphi : phi < 1024) :
    s.doOrigin lane round master k phi = (s.toCount k).onTim fun t =>
      { t with
        rounds := t.rounds.set (lane / 12) (some
          { round := round, t2Count := k
            t2 := s.stampUnits k phi - s.rd F.TIM_LAT_RX_UI (lane / 12) * s.uiUnits (lane / 12) })
        master := t.master.set (lane / 12) master } := by
  have hdrop : (s.toCount k).dropRound (lane / 12) = s.toCount k := State.dropRound_none (by rw [State.toCount_tim]; exact hnone)
  refine (if_neg (by simp [hup, hid, hrun])).trans ((if_neg (by omega)).trans ?_)
  rw [hdrop, Nat.mod_eq_of_lt hphi]
  rw [s.toCount_only k]
  rfl

end

/-! ### FOLLOW and ANSWER (R309 to R311) -/

/-- The round r of path p has its stamp. -/
def State.putRound (s : State) (p : Nat) (r : TimeRound) : State := s.onTim fun t => { t with rounds := t.rounds.set p (some r) }

section
variable {s : State} {lane round ns frac : Nat}

theorem State.doFollow_other (h : exchangeLane lane = false) : s.doFollow lane round ns frac = s.rejectFrame lane :=
  if_pos (by rw [h]; rfl)

theorem State.doAnswer_other (h : exchangeLane lane = false) : s.doAnswer lane round ns frac = s.rejectFrame lane :=
  if_pos (by rw [h]; rfl)

variable (hlane : exchangeLane lane = true)
include hlane

theorem State.doFollow_none (h : s.tim.rounds.getD (lane / 12) none = none) : s.doFollow lane round ns frac = s := by
  simp only [State.doFollow, hlane, h, Bool.not_true, Bool.false_eq_true, if_false]

theorem State.doAnswer_none (h : s.tim.rounds.getD (lane / 12) none = none) : s.doAnswer lane round ns frac = s := by
  simp only [State.doAnswer, hlane, h, Bool.not_true, Bool.false_eq_true, if_false]

variable {r : TimeRound} (hround : s.tim.rounds.getD (lane / 12) none = some r)
include hround

/-- FOLLOW stamps t1, but one of another round and a late one give the round up. -/
theorem State.doFollow_round : s.doFollow lane round ns frac =
    if r.round ≠ round ∨ s.roundLate r = true then s.dropRound (lane / 12)
    else (s.putRound (lane / 12) { r with t1 := some (nsUnits ns frac) }).computeRound (lane / 12) := by
  simp only [State.doFollow, hlane, hround, Bool.not_true, Bool.false_eq_true, if_false]
  rfl

/-- ANSWER stamps t4; one before its PROBE gives the round up too. -/
theorem State.doAnswer_round : s.doAnswer lane round ns frac =
    if r.round ≠ round ∨ s.roundLate r = true ∨ r.t3 = none then s.dropRound (lane / 12)
    else (s.putRound (lane / 12) { r with t4 := some (nsUnits ns frac) }).computeRound (lane / 12) := by
  simp only [State.doAnswer, hlane, hround, Bool.not_true, Bool.false_eq_true, if_false, Option.isNone_iff_eq_none]
  rfl

end

/-! ### PROBE_SEND (R311, R312) -/

section
variable {s : State} {p k phi : Nat}

theorem State.doProbeSend_idle (h : s.tim.rounds.getD p none = none ∨ ∃ r, s.tim.rounds.getD p none = some r ∧ r.t3 ≠ none) :
    s.doProbeSend p k phi = s := by
  rcases h with h | ⟨r, h, ht3⟩
  · simp only [State.doProbeSend, h]
  · simp only [State.doProbeSend, h, Option.isSome_iff_ne_none.2 ht3, if_true]

variable {r : TimeRound} (hround : s.tim.rounds.getD p none = some r) (ht3 : r.t3 = none)
include hround ht3

theorem State.doProbeSend_fails (h : s.laneUp (12 * p) = false ∨ r.t2Count + s.samplesUs 100 < s.clk.count) :
    s.doProbeSend p k phi = s.dropRound p := by
  have hfails : (!s.laneUp (12 * p) || s.moduleId == 0 || decide (r.t2Count + s.samplesUs 100 < s.clk.count)) = true := by
    rcases h with h | h <;> simp [h]
  simp only [State.doProbeSend, hround, ht3, hfails, Option.isSome_none, Bool.false_eq_true, if_false, if_true]

/-- PROBE leaves at the count n of t3, with the stamp held. -/
theorem State.doProbeSend_sends (hup : s.laneUp (12 * p) = true) (hid : s.moduleId ≠ 0)
    (hintime : s.clk.count ≤ r.t2Count + s.samplesUs 100) (hphi : phi < 1024) {n : Nat}
    (hn : n = clampNat (r.t2Count + s.samplesUs 20) (r.t2Count + s.samplesUs 100) k) :
    s.doProbeSend p k phi = ((s.toCount n).putRound p
      { r with t3 := some (s.stampUnits n phi + s.rd F.TIM_LAT_TX_UI p * s.uiUnits p) }).pushTime p [s.timeWord 3 r.round] := by
  have hsends : (!s.laneUp (12 * p) || s.moduleId == 0 || decide (r.t2Count + s.samplesUs 100 < s.clk.count)) = false := by
    simp [hup, hid, hintime]
  subst hn
  simp only [State.doProbeSend, hround, ht3, hsends, Option.isSome_none, Bool.false_eq_true, if_false, Nat.mod_eq_of_lt hphi]
  rw [State.toCount_only]
  rfl

end

/-! ### A round computed (R313, R316) -/

/-- The round accepted, which steers the clock when its path governs time (R313 to R316). -/
def State.roundTaken (s : State) (p : Nat) (at_ theta delay : Int) : State :=
  if !(s.roundAccepted p theta delay).ppsMode && (s.roundAccepted p theta delay).pathInUse == p then
    (s.roundAccepted p theta delay).governRound at_ theta
  else s.roundAccepted p theta delay

section
variable {s : State} {p : Nat} {r : TimeRound} (hround : s.tim.rounds.getD p none = some r)
include hround

/-- A round waits for its four stamps. -/
theorem State.computeRound_waits (h : r.t1 = none ∨ r.t3 = none ∨ r.t4 = none) : s.computeRound p = s := by
  simp only [State.computeRound, hround]
  split
  · next h1 h3 h4 => simp [h1, h3, h4] at h
  · rfl

theorem State.computeRound_full {t1 t3 t4 : Int} (h1 : r.t1 = some t1) (h3 : r.t3 = some t3) (h4 : r.t4 = some t4) {v : Int × Int}
    (hv : v = roundValues t1 r.t2 t3 t4 (s.rdS F.TIM_ASYM_PS p)) : s.computeRound p =
      (if s.delayGate p v.2 then (s.clearRound p).roundTaken p (rhe r.t2 1000) v.1 v.2
       else (s.clearRound p).roundRejected p).sendReport p r.round v.1 v.2 r.t2 := by
  subst hv
  simp only [State.computeRound, hround, h1, h3, h4]
  rfl

end

end Sys2Proof.Machine
end

section
/-! SUPPORT. What a computed round leaves (R313, R316). -/

namespace Sys2Proof.Machine

/-! ### A round accepted -/

/-- The fields in which an accepted round of path p shows. -/
abbrev acceptFields (p : Nat) : List RegField :=
  [(F.TIM_PATH_THETA_THETA, p), (F.TIM_PATH_DELAY_DELAY, p), (F.TIM_PATH_CNT_ACCEPTED, p), (F.TIM_STAT_PATH_A_GOOD, 0),
    (F.TIM_STAT_PATH_B_GOOD, 0), (F.TIM_STAT_PATH_IN_USE, 0), (F.TIM_STAT_DISAGREE, 0)]

/-- The time unit with an accepted round of path p at network time x (R313, R316). -/
def Tim.accepted (t : Tim) (p : Nat) (x theta delay : Int) : Tim :=
  { t with delays := t.delays.set p ((delay :: t.delays.getD p []).take 16), lastAccept := t.lastAccept.set p (some x)
           lastTheta := t.lastTheta.set p theta }

/-- The state in which an accepted round of path p has been counted. -/
def State.roundCounted (s : State) (p th dl : Nat) : State :=
  ((s.wr F.TIM_PATH_THETA_THETA p th).wr F.TIM_PATH_DELAY_DELAY p dl).satAdd F.TIM_PATH_CNT_ACCEPTED p 1

theorem State.roundAccepted_eq (s : State) (p : Nat) (theta delay : Int) : ∃ n th dl l, s.roundAccepted p theta delay =
    ((((State.roundCounted { s with free := n, tim := s.tim.accepted p s.now theta delay } p th dl).setPathGood p true).conditionOverAt
      0x3101 l p).selectPath) := by
  unfold State.roundAccepted
  dsimp only
  rw [State.show32_only _ delay, State.show32_only _ theta]
  exact ⟨_, _, _, _, rfl⟩

section
variable {s : State} (h : tableWf coldWord s.regs = true) (p : Fin 2) (th dl : Nat)
include h

theorem State.roundCounted_fields : FieldsKept (acceptFields p) s (s.roundCounted p th dl) :=
  (((FieldsKept.refl h _).wr (.inl (by simp)) th).wr (f := F.TIM_PATH_DELAY_DELAY) (.inl (by simp)) dl).wr
    (f := F.TIM_PATH_CNT_ACCEPTED) (.inl (by simp)) _

theorem State.rd_roundCounted : (s.roundCounted p th dl).rd F.TIM_PATH_CNT_ACCEPTED p =
    min 65535 (s.rd F.TIM_PATH_CNT_ACCEPTED p + 1) := by
  have hshown : FieldsKept [(F.TIM_PATH_THETA_THETA, p.val), (F.TIM_PATH_DELAY_DELAY, p.val)] s
      ((s.wr F.TIM_PATH_THETA_THETA p th).wr F.TIM_PATH_DELAY_DELAY p dl) :=
    ((FieldsKept.refl h _).wr (.inl (by simp)) th).wr (.inl (by simp)) dl
  have happart : ∀ p : Fin 2, MainAddr (F.TIM_PATH_CNT_ACCEPTED.addr p) ∧
      ∀ y ∈ [(F.TIM_PATH_THETA_THETA, p.val), (F.TIM_PATH_DELAY_DELAY, p.val)],
        FieldsApart (F.TIM_PATH_CNT_ACCEPTED, p.val) y := by decide
  have hsame := hshown.same (F.TIM_PATH_CNT_ACCEPTED, p.val) (happart p).1 (happart p).2
  rw [State.roundCounted, State.rd_satAdd hshown.wf (by decide)]
  exact congrArg (fun n => min 65535 (n + 1)) hsame

end

theorem State.Sound.roundAccepted_outcome {s : State} (hs : s.Sound) (p : Fin 2) (theta delay : Int) :
    (s.roundAccepted p theta delay).tim = s.tim.accepted p s.now theta delay ∧
    (s.roundAccepted p theta delay).rd F.TIM_PATH_CNT_ACCEPTED p = min 65535 (s.rd F.TIM_PATH_CNT_ACCEPTED p + 1) ∧
    (s.roundAccepted p theta delay).pathGood p = true ∧ FieldsKept (acceptFields p) s (s.roundAccepted p theta delay) := by
  obtain ⟨n, th, dl, l, heq⟩ := s.roundAccepted_eq p theta delay
  have hfields := (FieldsKept.refl hs.regs (acceptFields p)).congr
    (u := { s with free := n, tim := s.tim.accepted p s.now theta delay }) rfl
  have hcount := State.rd_roundCounted hfields.wf p th dl
  have hcounted := State.roundCounted_fields hfields.wf p th dl
  generalize hu : State.roundCounted { s with free := n, tim := s.tim.accepted p s.now theta delay } p th dl = u at *
  have hgood : FieldsKept [(F.TIM_STAT_PATH_A_GOOD, 0), (F.TIM_STAT_PATH_B_GOOD, 0)] u (u.setPathGood p true) :=
    (FieldsKept.refl hcounted.wf _).setPathGood (by simp) p true
  have hselect (W : List RegField) (hW : ∀ y ∈ [(F.TIM_STAT_PATH_IN_USE, 0), (F.TIM_STAT_DISAGREE, 0)], y ∈ W) :
      FieldsKept W (u.setPathGood p true) (s.roundAccepted p theta delay) := by
    rw [heq]
    exact ((FieldsKept.refl hgood.wf W).congr (u := (u.setPathGood p true).conditionOverAt 0x3101 l p) rfl).selectPath hW
  have happart : ∀ p : Fin 2, MainAddr (F.TIM_PATH_CNT_ACCEPTED.addr p) ∧
      (∀ y ∈ [(F.TIM_STAT_PATH_A_GOOD, 0), (F.TIM_STAT_PATH_B_GOOD, 0)], FieldsApart (F.TIM_PATH_CNT_ACCEPTED, p.val) y) ∧
      ∀ y ∈ [(F.TIM_STAT_PATH_IN_USE, 0), (F.TIM_STAT_DISAGREE, 0)], FieldsApart (F.TIM_PATH_CNT_ACCEPTED, p.val) y := by decide
  obtain ⟨hmain, hA, hB⟩ := happart p
  have hpick := hselect _ fun _ hy => hy
  refine ⟨?_, ?_, ?_, ?_⟩
  · rw [heq, ← hu]
    unfold State.setPathGood
    split <;> rfl
  · exact (hpick.same (_, _) hmain hB).trans ((hgood.same (_, _) hmain hA).trans hcount)
  · exact (hpick.pathGood (by decide) p).trans (State.pathGood_setPathGood hcounted.wf p true)
  · exact ((hfields.trans hcounted).trans (hgood.mono (by simp))).trans (hselect _ (by simp))

/-! ### A round taken -/

/-- The fields in which the servo and a refused jump show. -/
abbrev governFields : List RegField :=
  (F.TIM_STAT_STATE, 0) :: (flagFields F.TIM_EVT 1 ++ [(F.TIM_JUMP_OFS_LO_OFS, 0), (F.TIM_JUMP_OFS_HI_OFS, 0)])

/-- Beyond its acceptance a round that is taken steers the clock alone. -/
theorem State.Sound.roundTaken_steered {s : State} (hs : s.Sound) (p : Nat) (at_ theta delay : Int) :
    Steered governFields (s.roundAccepted p theta delay) (s.roundTaken p at_ theta delay) := by
  have haccepted : (s.roundAccepted p theta delay).Sound := (State.roundAccepted_kept s p theta delay (hs.kept 582) rfl).sound
  unfold State.roundTaken
  split
  · exact (Steered.refl haccepted _).governRound (by decide) (by decide) _ _
  · exact Steered.refl haccepted _

theorem State.Sound.roundTaken_outcome {s : State} (hs : s.Sound) (p : Fin 2) (at_ theta delay : Int) :
    (s.roundTaken p at_ theta delay).rd F.TIM_PATH_CNT_ACCEPTED p = min 65535 (s.rd F.TIM_PATH_CNT_ACCEPTED p + 1) ∧
    (s.roundTaken p at_ theta delay).pathGood p = true ∧
    (s.roundTaken p at_ theta delay).tim.unsteered = (s.tim.accepted p s.now theta delay).unsteered ∧
    (s.roundTaken p at_ theta delay).queue 0 = s.queue 0 ∧ (s.roundTaken p at_ theta delay).Sound := by
  obtain ⟨htim, hcount, hgood, -⟩ := hs.roundAccepted_outcome p theta delay
  have hsteer := hs.roundTaken_steered p at_ theta delay
  have happart : ∀ p : Fin 2, MainAddr (F.TIM_PATH_CNT_ACCEPTED.addr p) ∧
      ∀ y ∈ governFields, FieldsApart (F.TIM_PATH_CNT_ACCEPTED, p.val) y := by decide
  refine ⟨(hsteer.fields.same (_, _) (happart p).1 (happart p).2).trans hcount,
    (hsteer.fields.pathGood (by decide) p).trans hgood, hsteer.tim.trans (congrArg _ htim), ?_, hsteer.kept.sound⟩
  exact hsteer.queue.trans (State.queue_of_que s 0 ((State.roundAccepted_kept s p theta delay (hs.kept 582) rfl).queues rfl))

/-! ### The parts of the statement -/

/-- PROBE in the class 0 queue at the count n of t3 (R310, R311). -/
theorem State.Sound.probe_outcome {s : State} (hs : s.Sound) (p : Nat) (r x : TimeRound) (n : Nat)
    (hroom : (s.queue 0).fill + 1 ≤ queueCap 0) :
    ∃ t y, ((s.toCount n).putRound p x).pushTime p [s.timeWord 3 r.round] = t ∧
      t.tim = { s.tim with rounds := s.tim.rounds.set p (some x) } ∧
      (t.queue 0).waiting = (s.queue 0).waiting ++ [y] ∧ y.words = packetWords [s.timeWord 3 r.round] ∧ y.ftype = 0x08 ∧
      y.only = some p ∧ s.reached t n ∧ s.sameMain t [] ∧
      t = { s with regs := t.regs, clk := t.clk, tim := t.tim, que := t.que } := by
  have hkept : Kept 340 s ((s.toCount n).putRound p x) := State.onTim_kept _ _ (State.toCount_kept s n (hs.kept _) rfl) rfl
  have hque : ((s.toCount n).putRound p x).queue 0 = s.queue 0 := by
    refine State.queue_of_que s 0 ?_
    rw [s.toCount_only n]
    rfl
  have hroom' : (((s.toCount n).putRound p x).queue 0).fill + [s.timeWord 3 r.round].length ≤ queueCap 0 := by rwa [hque]
  obtain ⟨htim, hqueue, hfields⟩ := hkept.sound.pushTime_outcome p hroom'
  have hsent : Kept 340 s (((s.toCount n).putRound p x).pushTime p [s.timeWord 3 r.round]) := by
    rw [State.pushTime_room p hroom']
    exact State.enqueue_kept _ _ _ hkept rfl
  have hclk : (((s.toCount n).putRound p x).pushTime p [s.timeWord 3 r.round]).clk = (s.toCount n).clk := by
    rw [State.pushTime_room p hroom']
    exact (State.enqueue_kept _ _ _ (hkept.sound.kept 324) rfl).clk rfl
  refine ⟨_, ((s.toCount n).putRound p x).timeItem p [s.timeWord 3 r.round], rfl, ?_, ?_, rfl, rfl, rfl, fun hrun => ?_, ?_,
    hsent.eq_withParts⟩
  · rw [htim, State.putRound, State.onTim_tim, State.toCount_tim]
  · rw [hqueue, hque]
  · rw [hclk]
    exact s.reached_toCount n hrun
  · exact (((FieldsKept.refl hs.regs []).congr (u := (s.toCount n).putRound p x) (s.toCount_regs n)).trans hfields).sameMain

/-- A round with its four stamps (R313). -/
theorem State.Sound.computeRound_outcome {s : State} (hs : s.Sound) (hdelays : s.tim.delays.length = 2)
    (hthetas : s.tim.lastTheta.length = 2) {p : Fin 2} {r : TimeRound} {t1 t3 t4 : Int} {v : Int × Int}
    (hround : s.tim.rounds.getD p none = some r) (h1 : r.t1 = some t1) (h3 : r.t3 = some t3) (h4 : r.t4 = some t4)
    (hv : v = roundValues t1 r.t2 t3 t4 (s.rdS F.TIM_ASYM_PS p)) (hroom : (s.queue 0).fill + 4 ≤ queueCap 0) :
    ∃ y, ((s.computeRound p).queue 0).waiting = (s.queue 0).waiting ++ [y] ∧
      (s.computeRound p).tim.rounds = s.tim.rounds.set p none ∧ y.words.length = 4 ∧ y.ftype = 0x08 ∧ y.only = some p.val ∧
      (s.delayGate p v.2 = true →
        (s.computeRound p).rd F.TIM_PATH_CNT_ACCEPTED p = min 65535 (s.rd F.TIM_PATH_CNT_ACCEPTED p + 1) ∧
        (s.computeRound p).pathGood p = true ∧
        (s.computeRound p).tim.delays.getD p [] = (v.2 :: s.tim.delays.getD p []).take 16 ∧
        (s.computeRound p).tim.lastTheta.getD p 0 = v.1) ∧
      (s.delayGate p v.2 = false →
        (s.computeRound p).rd F.TIM_PATH_CNT_REJECTED p = min 65535 (s.rd F.TIM_PATH_CNT_REJECTED p + 1) ∧
        (s.computeRound p).tim = { s.tim with rounds := s.tim.rounds.set p none } ∧
        s.sameMain (s.computeRound p) [F.TIM_PATH_CNT_REJECTED.addr p]) := by
  have hgone : Kept 64 s (s.clearRound p) := State.onTim_kept s _ (hs.kept _) rfl
  rw [State.computeRound_full hround h1 h3 h4 hv]
  by_cases hgate : s.delayGate p v.2 = true
  · rw [if_pos hgate]
    obtain ⟨hcount, hgood, htim, hqueue, hsound⟩ := hgone.sound.roundTaken_outcome p (rhe r.t2 1000) v.1 v.2
    generalize (s.clearRound p).roundTaken p (rhe r.t2 1000) v.1 v.2 = u at *
    have hroom' : (u.queue 0).fill + 4 ≤ queueCap 0 := by rw [hqueue]; exact hroom
    obtain ⟨hsent, ⟨y, hy, hlen, htype, honly⟩, hfields⟩ := hsound.sendReport_outcome p r.round v.1 v.2 r.t2 hroom'
    rw [hqueue] at hy
    have hmain : ∀ p : Fin 2, MainAddr (F.TIM_PATH_CNT_ACCEPTED.addr p) := by decide
    have hdelay : p.val < s.tim.delays.length := by omega
    have htheta : p.val < s.tim.lastTheta.length := by omega
    refine ⟨y, hy, ?_, hlen, htype, honly, fun _ => ⟨?_, ?_, ?_, ?_⟩, fun h => absurd hgate (by simp [h])⟩
    · rw [hsent]
      exact (congrArg Tim.rounds htim :)
    · exact (hfields.same (_, _) (hmain p) (by simp)).trans hcount
    · exact (hfields.pathGood (by simp) p).trans hgood
    · rw [hsent]
      exact (congrArg (fun t : Tim => t.delays.getD p []) htim :).trans (getD_set_same hdelay _ _)
    · rw [hsent]
      exact (congrArg (fun t : Tim => t.lastTheta.getD p 0) htim :).trans (getD_set_same htheta _ _)
  · rw [if_neg hgate]
    have hcount := State.rd_satAdd (f := F.TIM_PATH_CNT_REJECTED) hgone.regs (by decide) p 1
    have hrejected : FieldsKept [(F.TIM_PATH_CNT_REJECTED, p.val)] s
        ((s.clearRound p).roundRejected p) :=
      ((FieldsKept.refl hs.regs _).congr (u := s.clearRound p) rfl).wr
        (f := F.TIM_PATH_CNT_REJECTED) (.inl (by simp)) _
    obtain ⟨hsent, ⟨y, hy, hlen, htype, honly⟩, hfields⟩ :=
      (State.roundRejected_kept _ p (hgone.sound.kept 4) rfl).sound.sendReport_outcome p r.round v.1 v.2 r.t2 hroom
    have hmain : ∀ p : Fin 2, MainAddr (F.TIM_PATH_CNT_REJECTED.addr p) := by decide
    refine ⟨y, hy, congrArg Tim.rounds hsent, hlen, htype, honly, fun h => absurd h hgate, fun _ => ⟨?_, hsent, ?_⟩⟩
    · exact (hfields.same (_, _) (hmain p) (by simp)).trans hcount
    · exact (hrejected.trans (hfields.mono (by simp))).sameMain

end Sys2Proof.Machine

open Sys2Proof Sys2Proof.Machine

/-- Settles O40, by the equation of each command for each state of its round, and by what a computed round leaves. -/
theorem timeExchange : Obligations.TimeExchange := by
  intro s hw hrounds hdelays hthetas hid hrun
  have hs := hw.sound
  refine ⟨?_, ?_, ?_, ?_, ?_⟩
  · rintro lane round master k phi p rfl
    have hexec : exec (.origin lane round master k phi) s = .next (s.doOrigin lane round.toNat master.toNat k phi) :=
      hw.next_cxDo fun s => s.doOrigin lane round.toNat master.toNat k phi
    rw [hexec]
    refine ⟨fun hdown => ?_, fun hup h0 h12 => ?_, fun hup hlane hnone => ?_⟩
    · rw [State.doOrigin_down hdown]
    · rw [State.doOrigin_other hup hid hrun h0 h12]
      obtain ⟨hcount, hsame⟩ := hs.rejectFrame_outcome lane
      refine ⟨_, rfl, hcount, fun b hb => hsame b ?_, rfl⟩
      simp only [List.mem_cons, List.not_mem_nil, or_false, not_or] at hb ⊢
      exact ⟨hb.2, hb.1⟩
    · rw [State.doOrigin_opens hup hid hrun hlane hnone phi.isLt]
      refine ⟨_, rfl, ?_, s.reached_toCount k, ?_⟩
      · rw [State.onTim_tim, State.toCount_tim]
      · rw [s.toCount_only k]
        rfl
  · intro lane round ns frac hlane
    exact ⟨(hw.next_cxDo fun s => s.doFollow lane round.toNat ns.toNat frac.toNat).trans (congrArg _ (State.doFollow_other hlane)),
      (hw.next_cxDo fun s => s.doAnswer lane round.toNat ns.toNat frac.toNat).trans (congrArg _ (State.doAnswer_other hlane))⟩
  · rintro lane round ns frac p rfl hlane
    have hlen : lane.val / 12 < s.tim.rounds.length := by omega
    have hfollow : exec (.follow lane round ns frac) s = .next (s.doFollow lane round.toNat ns.toNat frac.toNat) :=
      hw.next_cxDo fun s => s.doFollow lane round.toNat ns.toNat frac.toNat
    have hanswer : exec (.answer lane round ns frac) s = .next (s.doAnswer lane round.toNat ns.toNat frac.toNat) :=
      hw.next_cxDo fun s => s.doAnswer lane round.toNat ns.toNat frac.toNat
    have hput (x : TimeRound) : (s.putRound (lane.val / 12) x).tim.rounds.getD (lane.val / 12) none = some x :=
      getD_set_same hlen _ _
    refine ⟨fun hnone => ?_, ?_, ?_, fun r hr hstale => ?_, fun r hr hstale => ?_⟩
    · rw [hfollow, hanswer, State.doFollow_none hlane hnone, State.doAnswer_none hlane hnone]
      exact ⟨rfl, rfl⟩
    · rintro r u hr hno hlate rfl
      rw [hfollow, State.doFollow_round hlane hr, if_neg (by simp [hno, hlate])]
      refine ⟨fun hwait => congrArg _ (State.computeRound_waits (hput _) (.inr hwait)), fun _ _ => rfl⟩
    · rintro r u hr hno hlate ht3 rfl
      rw [hanswer, State.doAnswer_round hlane hr, if_neg (by simp [hno, hlate, ht3])]
      refine ⟨fun hwait => congrArg _ (State.computeRound_waits (hput _) (.inl hwait)), fun _ => rfl⟩
    · rw [hfollow, State.doFollow_round hlane hr, if_pos hstale]
      exact ⟨_, rfl, State.Sound.dropRound_outcome hr hs⟩
    · rw [hanswer, State.doAnswer_round hlane hr, if_pos hstale]
      exact ⟨_, rfl, State.Sound.dropRound_outcome hr hs⟩
  · intro path k phi
    have hexec : exec (.probeSend path k phi) s = .next (s.doProbeSend path k phi) := hw.next_cxDo fun s => s.doProbeSend path k phi
    rw [hexec]
    refine ⟨fun hidle => congrArg _ (State.doProbeSend_idle hidle), fun r hr ht3 hfails => ?_,
      fun r n hr ht3 hup hintime hn hroom => ?_⟩
    · rw [State.doProbeSend_fails hr ht3 hfails]
      exact ⟨_, rfl, State.Sound.dropRound_outcome hr hs⟩
    · rw [State.doProbeSend_sends hr ht3 hup hid hintime phi.isLt hn]
      obtain ⟨t, y, ht, hout⟩ := hs.probe_outcome path r
        { r with t3 := some (s.stampUnits n phi + s.rd F.TIM_LAT_TX_UI path * s.uiUnits path) } n hroom
      exact ⟨t, y, congrArg _ ht, hout⟩
  · rintro p r t1 t3 t4 hr h1 h3 h4 v t hv rfl hroom
    obtain ⟨y, hy, hset, hlen, htype, honly, haccepted, hrejected⟩ :=
      hs.computeRound_outcome hdelays hthetas hr h1 h3 h4 hv hroom
    exact ⟨y, hy, hset, hlen, htype, honly, haccepted, hrejected, (State.computeRound_kept s p (hs.kept 838) rfl).eq_withParts⟩
end

section
/-! SUPPORT. A path lost (R316), holdover (R318), and the end of an asymmetry calibration (R320). -/

namespace Sys2Proof.Machine

/-- Outside the blocks QUE, FAU and PMC only registers that hold a field of W have changed. -/
theorem FieldsKept.sameMain_of {W : List RegField} {r t : State} (h : FieldsKept W r t) {l : List Nat}
    (hl : ∀ y ∈ W, y.1.addr y.2 ∈ l) : r.sameMain t l := fun b hq hb hmem =>
  h.sameMain b hq hb fun hin => hmem <| by
    obtain ⟨y, hy, rfl⟩ := List.mem_map.1 hin
    exact hl y hy

/-! ### Holdover (R318) -/

/-- The fields in which an entry into holdover shows. -/
abbrev holdoverFields : List RegField := (F.TIM_STAT_STATE, 0) :: flagFields F.TIM_EVT 0

theorem State.checkHoldover_idle {s : State} (h : s.timState ≠ timLocked) : s.checkHoldover = s := if_neg fun hc => h hc.1

theorem State.Sound.timState_checkHoldover {s : State} (hs : s.Sound) : s.checkHoldover.timState =
    if s.timState = timLocked ∧ s.sourceGood = false then timHoldover else s.timState := by
  rw [State.checkHoldover]
  simp only [Bool.not_eq_true']
  split
  · have hheld : (s.setTimState timHoldover).Sound := (State.wr_kept s F.TIM_STAT_STATE 0 _ (hs.kept 4) rfl).sound
    have hflagged := (Steered.refl hheld (flagFields F.TIM_EVT 0)).flag fun _ hy => hy
    have hafter := (hflagged.relationNow s.tim.relation.ne).report 0x3102
      ((s.setTimState timHoldover).flag F.TIM_EVT 0).locModule 0
    exact (hafter.fields.same (F.TIM_STAT_STATE, 0) (by decide) (by decide)).trans (State.rd_wr hs.regs _ _ _ (by decide))
  · rfl

/-- In PPS mode the source is PPS, and else the paths are. -/
theorem State.sourceGood_pps {s : State} (h : s.ppsMode = true) : s.sourceGood = s.rdB F.TIM_STAT_PPS_GOOD := by
  simp [State.sourceGood, h]

theorem State.sourceGood_paths {s : State} (h : s.ppsMode = false) (p : Fin 2) :
    s.sourceGood = (s.pathGood p || s.pathGood (1 - p.val)) := by
  fin_cases p
  · simp [State.sourceGood, h]
  · simp [State.sourceGood, h, Bool.or_comm]

/-! ### The end of a calibration (R320) -/

theorem State.endCal_tim (s : State) : s.endCal.tim = { s.tim with cal := none } := by
  unfold State.endCal
  split
  · rfl
  · next h =>
    rw [Bool.not_eq_true, Option.isSome_eq_false_iff, Option.isNone_iff_eq_none] at h
    rw [← h]

theorem FieldsKept.endCal {W : List RegField} {r t : State} (h : FieldsKept W r t)
    (hW : ∀ y ∈ [(F.TIM_ASYM_MEAS_VALID, 0), (F.TIM_ASYM_MEAS_BUSY, 0)], y ∈ W) : FieldsKept W r t.endCal := by
  unfold State.endCal
  split
  · exact ((h.wr (.inl (hW _ (by decide))) 0).wr (f := F.TIM_ASYM_MEAS_BUSY) (.inl (hW _ (by decide))) 0).congr rfl
  · exact h

/-! ### The path in use (R316) -/

theorem State.pathInUse_selectPath {s : State} (h : tableWf coldWord s.regs = true) : s.selectPath.pathInUse =
    if s.pathGood (s.rd F.TIM_CTL_PRIMARY) then s.rd F.TIM_CTL_PRIMARY else 1 - s.rd F.TIM_CTL_PRIMARY := by
  have hprimary : s.rd F.TIM_CTL_PRIMARY < 2 := getField_lt _ _ _
  have hwritten := State.rd_wr h F.TIM_STAT_PATH_IN_USE 0
    (if s.pathGood (s.rd F.TIM_CTL_PRIMARY) then s.rd F.TIM_CTL_PRIMARY else 1 - s.rd F.TIM_CTL_PRIMARY) (by decide)
  refine (State.rd_wr_ne (State.wf_wr h _ _ _) F.TIM_STAT_DISAGREE F.TIM_STAT_PATH_IN_USE 0 0 _ (by decide)).trans
    (hwritten.trans (Nat.mod_eq_of_lt ?_))
  split
  · exact hprimary
  · change _ < 2
    omega

/-! ### A path lost (R316) -/

/-- Hardware has set a flag (R14). -/
theorem State.rd_flag {s : State} (h : tableWf coldWord s.regs = true) (a : Nat) {k : Nat} (hk : k ≤ 2) :
    (s.flag a k).rd ⟨a, 4, k, 1⟩ 0 = 1 := by
  have hflag : (s.flag a k).regGet a = flagWord (s.regGet a) k := (State.regGet_regPut h a a _).trans (if_pos rfl)
  change getField ((s.flag a k).regGet a) k 1 = 1
  rw [hflag, flagWord, getField_setField_ne _ _ _ _ _ _ (by omega), getField_setField _ _ _ _ (by omega)]
  rfl

/-- The network time at which path p is lost. -/
def State.lossTime (s : State) (p : Nat) : Int :=
  (s.tim.lastAccept.getD p none).getD 0 + s.rd F.TIM_SERVO_LOSS_ROUNDS * 62500000 * 65536

/-- The state in which path p has failed: it is not good any more, and its history is clear. -/
def State.pathFailed (s : State) (p : Nat) : State :=
  (((s.toTime (s.lossTime p)).setPathGood p false).flag F.TIM_EVT2 0).onTim fun t => { t with delays := t.delays.set p [] }

/-- A calibration against path p ends. -/
def State.endCalOf (s : State) (p : Nat) : State := if s.tim.cal.any fun c => c.1 == p then s.endCal else s

theorem State.doPathLoss_eq {s : State} {p : Nat} (h : s.pathGood p = true) : ∃ l, s.doPathLoss p =
    ((((s.pathFailed p).endCalOf p).selectPath).report 0x3101 l p).checkHoldover :=
  ⟨_, if_neg (by simp [h])⟩

/-- The fields in which the failure of a path shows. -/
abbrev pathFailFields : List RegField :=
  [(F.TIM_STAT_PATH_A_GOOD, 0), (F.TIM_STAT_PATH_B_GOOD, 0), (F.TIM_ASYM_MEAS_VALID, 0), (F.TIM_ASYM_MEAS_BUSY, 0)] ++
    flagFields F.TIM_EVT2 0

theorem State.endCalOf_tim (s : State) (p : Nat) : (s.endCalOf p).tim =
    { s.tim with cal := if s.tim.cal.any fun c => c.1 == p then none else s.tim.cal } := by
  unfold State.endCalOf
  split
  · exact s.endCal_tim
  · rfl

theorem State.pathFailed_clk (s : State) (p : Nat) : ((s.pathFailed p).endCalOf p).clk = (s.toTime (s.lossTime p)).clk := by
  have hfailed : (s.pathFailed p).clk = (s.toTime (s.lossTime p)).clk := by
    unfold State.pathFailed State.setPathGood
    split <;> rfl
  unfold State.endCalOf State.endCal
  split
  · split <;> exact hfailed
  · exact hfailed

theorem State.pathFailed_tim (s : State) (p : Nat) : (s.pathFailed p).tim = { s.tim with delays := s.tim.delays.set p [] } := by
  unfold State.pathFailed State.setPathGood
  rw [State.onTim_tim, State.flag_tim]
  split <;> rw [State.wrB_tim, State.toTime_tim]

section
variable {s : State} (hs : s.Sound) (p : Fin 2)
include hs

theorem State.Sound.pathFailed_kept : Kept 84 s ((s.pathFailed p).endCalOf p) := by
  have hfailed : Kept 84 s (s.pathFailed p) := State.onTim_kept _ _ (State.flag_kept _ _ _ (State.setPathGood_kept _ _ _
    (State.toTime_kept s _ (hs.kept _) rfl) rfl) rfl) rfl
  unfold State.endCalOf
  split
  · exact State.endCal_kept _ hfailed rfl
  · exact hfailed

theorem State.Sound.pathFailed_fields : FieldsKept pathFailFields s ((s.pathFailed p).endCalOf p) ∧
    ((s.pathFailed p).endCalOf p).pathGood p = false ∧
    ((s.pathFailed p).endCalOf p).pathGood (1 - p.val) = s.pathGood (1 - p.val) ∧
    ((s.pathFailed p).endCalOf p).rd F.TIM_EVT2_PATH_LOSS_SEEN = 1 := by
  have hend (W : List RegField) (hW : ∀ y ∈ [(F.TIM_ASYM_MEAS_VALID, 0), (F.TIM_ASYM_MEAS_BUSY, 0)], y ∈ W) :
      ∀ u : State, tableWf coldWord u.regs = true → FieldsKept W u (u.endCalOf p) := by
    intro u hu
    unfold State.endCalOf
    split
    · exact (FieldsKept.refl hu W).endCal hW
    · exact .refl hu W
  have htime : FieldsKept pathFailFields s (s.toTime (s.lossTime p)) := (FieldsKept.refl hs.regs _).congr (s.toTime_regs _)
  generalize hu : s.toTime (s.lossTime p) = u at *
  have hgood := htime.setPathGood (by decide) p false
  have hflag := hgood.flag (a := F.TIM_EVT2) (k := 0) (.inl (by decide))
  have hafter : FieldsKept [(F.TIM_ASYM_MEAS_VALID, 0), (F.TIM_ASYM_MEAS_BUSY, 0)] ((u.setPathGood p false).flag F.TIM_EVT2 0)
      ((s.pathFailed p).endCalOf p) := by
    refine ((FieldsKept.refl hflag.wf _).congr (u := s.pathFailed p) ?_).trans (hend _ (fun _ hy => hy) _ ?_)
    all_goals rw [State.pathFailed, hu]
    · rfl
    · exact hflag.wf
  have hpath : FieldsKept ([(F.TIM_ASYM_MEAS_VALID, 0), (F.TIM_ASYM_MEAS_BUSY, 0)] ++ flagFields F.TIM_EVT2 0)
      (u.setPathGood p false) ((s.pathFailed p).endCalOf p) :=
    ((FieldsKept.refl hgood.wf _).flag (.inl (by decide))).trans (hafter.mono (by decide))
  have hseen : ((u.setPathGood p false).flag F.TIM_EVT2 0).rd F.TIM_EVT2_PATH_LOSS_SEEN = 1 :=
    State.rd_flag hgood.wf F.TIM_EVT2 (by decide)
  refine ⟨hflag.trans (hafter.mono (by decide)), ?_, ?_, ?_⟩
  · exact (hpath.pathGood (by decide) p).trans (State.pathGood_setPathGood htime.wf p false)
  · refine (hpath.pathGood (by decide) _).trans ((State.pathGood_setPathGood_other htime.wf p false (by omega)).trans ?_)
    rw [← hu]
    exact (((FieldsKept.refl hs.regs []).congr (s.toTime_regs _)).pathGood (by simp) _)
  · exact (hafter.same (F.TIM_EVT2_PATH_LOSS_SEEN, 0) (by decide) (by decide)).trans hseen

end

end Sys2Proof.Machine
end

section
/-! SUPPORT. What PATH_LOSS leaves (R316, R318). -/

namespace Sys2Proof.Machine

/-- The state in which path p is lost, and reported with location l. -/
def State.pathLost (s : State) (p l : Nat) : State := (((s.pathFailed p).endCalOf p).selectPath).report 0x3101 l p

/-- The fields in which a lost path shows. -/
abbrev pathLossFields : List RegField := [(F.TIM_STAT_PATH_IN_USE, 0), (F.TIM_STAT_DISAGREE, 0)] ++ pathFailFields

theorem State.doPathLoss_idle {s : State} {p : Nat} (h : s.pathGood p = false) : s.doPathLoss p = s := if_pos (by simp [h])

section
variable {s : State} (hs : s.Sound) (p : Fin 2) (l : Nat)
include hs

theorem State.Sound.pathLost_steered : Steered [] ((s.pathFailed p).endCalOf p).selectPath (s.pathLost p l) :=
  (Steered.refl (State.selectPath_kept _ (hs.pathFailed_kept p) rfl).sound _).report _ _ _

theorem State.Sound.pathLost_fields : FieldsKept pathLossFields s (s.pathLost p l) ∧ (s.pathLost p l).pathGood p = false ∧
    (s.pathLost p l).pathGood (1 - p.val) = s.pathGood (1 - p.val) ∧
    (s.pathLost p l).rd F.TIM_EVT2_PATH_LOSS_SEEN = 1 ∧
    (s.pathLost p l).pathInUse =
      if s.rd F.TIM_CTL_PRIMARY ≠ p.val ∧ s.pathGood (s.rd F.TIM_CTL_PRIMARY) then s.rd F.TIM_CTL_PRIMARY
      else 1 - s.rd F.TIM_CTL_PRIMARY := by
  obtain ⟨hfailed, hlost, hother, hseen⟩ := hs.pathFailed_fields p
  have hsteered := hs.pathLost_steered p l
  generalize hu : (s.pathFailed p).endCalOf p = u at *
  have hselect : FieldsKept [(F.TIM_STAT_PATH_IN_USE, 0), (F.TIM_STAT_DISAGREE, 0)] u (s.pathLost p l) :=
    ((FieldsKept.refl hfailed.wf _).selectPath fun _ hy => hy).trans (hsteered.fields.mono (by simp))
  refine ⟨(hfailed.mono fun y hy => List.mem_append_right _ hy).trans (hselect.mono fun y hy => List.mem_append_left _ hy),
    (hselect.pathGood (by decide) p).trans hlost, (hselect.pathGood (by decide) _).trans hother,
    (hselect.same (F.TIM_EVT2_PATH_LOSS_SEEN, 0) (by decide) (by decide)).trans hseen, ?_⟩
  have hprimary : u.rd F.TIM_CTL_PRIMARY = s.rd F.TIM_CTL_PRIMARY :=
    hfailed.same (F.TIM_CTL_PRIMARY, 0) (by decide) (by decide)
  have hbound : s.rd F.TIM_CTL_PRIMARY < 2 := getField_lt _ _ _
  rw [State.pathInUse, hsteered.fields.same (F.TIM_STAT_PATH_IN_USE, 0) (by decide) (by simp)]
  refine (State.pathInUse_selectPath hfailed.wf).trans ?_
  rw [hprimary]
  by_cases hp : s.rd F.TIM_CTL_PRIMARY = p.val
  · rw [hp, hlost]
    simp
  · have hq : s.rd F.TIM_CTL_PRIMARY = 1 - p.val := by omega
    rw [hq, hother, ← hq]
    simp [hp]

end

/-- A good path that is lost (R316, R318). -/
theorem State.Sound.doPathLoss_outcome {s : State} (hs : s.Sound) {p : Fin 2} (hgood : s.pathGood p = true)
    (hrun : s.clk.running = true) (hdelays : s.tim.delays.length = 2) :
    (s.doPathLoss p).pathGood p = false ∧ (s.doPathLoss p).pathGood (1 - p.val) = s.pathGood (1 - p.val) ∧
    (s.doPathLoss p).tim.delays.getD p [] = [] ∧ ((s.doPathLoss p).regGet F.TIM_EVT2).getLsbD 0 = true ∧
    (∀ c, s.tim.cal = some c → (s.doPathLoss p).tim.cal = if c.1 = p.val then none else s.tim.cal) ∧
    (0 < s.tim.tnom * (2 ^ 40 + s.tim.rate) → s.lossTime p ≤ (s.doPathLoss p).now) ∧
    (s.doPathLoss p).pathInUse =
      (if s.rd F.TIM_CTL_PRIMARY ≠ p.val ∧ s.pathGood (s.rd F.TIM_CTL_PRIMARY) then s.rd F.TIM_CTL_PRIMARY
       else 1 - s.rd F.TIM_CTL_PRIMARY) ∧
    (s.ppsMode = false → (s.doPathLoss p).timState =
      if s.timState = timLocked ∧ s.pathGood (1 - p.val) = false then timHoldover else s.timState) ∧
    s.sameMain (s.doPathLoss p) [F.TIM_STAT, F.TIM_EVT, F.TIM_EVT2, F.TIM_ASYM_MEAS] := by
  obtain ⟨l, heq⟩ := State.doPathLoss_eq hgood
  obtain ⟨hfields, hlost, hother, hseen, huse⟩ := hs.pathLost_fields p l
  have hsteered := hs.pathLost_steered p l
  have hsound := hsteered.kept.sound
  have hstate := hsound.timState_checkHoldover
  have hheld : Steered holdoverFields (s.pathLost p l) (s.doPathLoss p) := by
    rw [heq]
    exact (Steered.refl hsound _).checkHoldover (by decide) (by decide)
  have htim : (s.doPathLoss p).tim.unsteered = ((s.pathFailed p).endCalOf p).tim.unsteered := hheld.tim.trans hsteered.tim
  rw [State.endCalOf_tim, State.pathFailed_tim] at htim
  have hnow : (s.doPathLoss p).now = (s.toTime (s.lossTime p)).now := by
    rw [hheld.now, hsteered.now]
    have hfailed : ((s.pathFailed p).endCalOf p).now = (s.toTime (s.lossTime p)).now := by
      refine State.now_congr (State.pathFailed_clk s p) ?_ ?_ ?_
      all_goals rw [State.endCalOf_tim, State.pathFailed_tim, State.toTime_tim]
    exact hfailed
  refine ⟨(hheld.fields.pathGood (by decide) p).trans hlost, (hheld.fields.pathGood (by decide) _).trans hother,
    ?_, ?_, fun c hc => ?_, fun hstep => ?_,
    (hheld.fields.same (F.TIM_STAT_PATH_IN_USE, 0) (by decide) (by decide)).trans huse, fun hpps => ?_, ?_⟩
  · exact (congrArg (fun t : Tim => t.delays.getD p []) htim :).trans (getD_set_same (by omega) _ _)
  · have hkept : (s.doPathLoss p).rd F.TIM_EVT2_PATH_LOSS_SEEN = 1 :=
      (hheld.fields.same (F.TIM_EVT2_PATH_LOSS_SEEN, 0) (by decide) (by decide)).trans hseen
    rw [getLsbD_eq_testBit_getField]
    exact congrArg (fun n => n.testBit 0) hkept
  · have hcal : (s.doPathLoss p).tim.cal = if s.tim.cal.any fun c => c.1 == p.val then none else s.tim.cal :=
      (congrArg Tim.cal htim :)
    simp [hcal, hc]
  · rw [hnow]
    exact State.le_now_toTime hrun hstep _
  · have hmode : (s.pathLost p l).ppsMode = false := by
      rw [State.ppsMode, State.rdB, hfields.same (F.TIM_CTL_SOURCE, 0) (by decide) (by decide)]
      exact hpps
    have hsource : (s.pathLost p l).sourceGood = s.pathGood (1 - p.val) := by
      rw [State.sourceGood_paths hmode p, hlost, hother, Bool.false_or]
    have htimState : (s.pathLost p l).timState = s.timState := hfields.same (F.TIM_STAT_STATE, 0) (by decide) (by decide)
    rw [hsource, htimState] at hstate
    rw [heq]
    exact hstate
  · exact ((hfields.mono fun y hy => List.mem_append_right holdoverFields hy).trans
      (hheld.fields.mono fun y hy => List.mem_append_left pathLossFields hy)).sameMain_of (by decide)

end Sys2Proof.Machine
end

section
/-! SUPPORT. PPS lost and the edges of PPS_IN (R319, R320). -/

namespace Sys2Proof.Machine

/-! ### PPS lost (R319) -/

/-- The state in which PPS is lost, and reported. -/
def State.ppsLost (s : State) : State := (s.wr F.TIM_STAT_PPS_GOOD 0 0).endCal.report 0x3104 s.locModule 0

/-- The fields in which a lost PPS shows. -/
abbrev ppsLossFields : List RegField :=
  [(F.TIM_STAT_PPS_GOOD, 0), (F.TIM_ASYM_MEAS_VALID, 0), (F.TIM_ASYM_MEAS_BUSY, 0)] ++ holdoverFields

theorem State.losePps_good {s : State} (h : s.rdB F.TIM_STAT_PPS_GOOD = true) : s.losePps = s.ppsLost.checkHoldover := if_pos h

theorem State.losePps_bad {s : State} (h : s.rdB F.TIM_STAT_PPS_GOOD = false) : s.losePps = s := if_neg (by simp [h])

section
variable {s : State} (hs : s.Sound)
include hs

theorem State.Sound.ppsLost_outcome : Kept 582 s s.ppsLost ∧ s.ppsLost.tim = { s.tim with cal := none } ∧
    s.ppsLost.rdB F.TIM_STAT_PPS_GOOD = false ∧
    FieldsKept [(F.TIM_STAT_PPS_GOOD, 0), (F.TIM_ASYM_MEAS_VALID, 0), (F.TIM_ASYM_MEAS_BUSY, 0)] s s.ppsLost := by
  have hended : Kept 582 s (s.wr F.TIM_STAT_PPS_GOOD 0 0).endCal :=
    State.endCal_kept _ (State.wr_kept _ _ _ _ (hs.kept _) rfl) rfl
  have hwf := State.wf_wr hs.regs F.TIM_STAT_PPS_GOOD 0 0
  have hrest := ((FieldsKept.refl hwf _).endCal fun _ hy => hy).report 0x3104 s.locModule 0
  refine ⟨State.report_kept _ _ _ _ hended rfl, ?_, ?_, ?_⟩
  · rw [State.ppsLost, hended.sound.report_only]
    exact State.endCal_tim _
  · have hbad : s.ppsLost.rd F.TIM_STAT_PPS_GOOD = 0 :=
      (hrest.same (F.TIM_STAT_PPS_GOOD, 0) (by decide) (by decide)).trans (State.rd_wr hs.regs _ _ _ (by decide))
    rw [State.rdB, hbad]
    rfl
  · exact ((FieldsKept.refl hs.regs _).wr (.inl (by decide)) 0).trans (hrest.mono (by decide))

/-- PPS is not good afterwards; where it was, a calibration has ended, and a locked clock in PPS mode is in holdover. -/
theorem State.Sound.losePps_outcome : s.losePps.rdB F.TIM_STAT_PPS_GOOD = false ∧
    s.losePps.tim.unsteered =
      ({ s.tim with cal := if s.rdB F.TIM_STAT_PPS_GOOD then none else s.tim.cal } : Tim).unsteered ∧
    s.losePps.clk = s.clk ∧ FieldsKept ppsLossFields s s.losePps ∧
    (s.timState ≠ timLocked → s.losePps.timState = s.timState ∧ s.losePps.tim.points = s.tim.points) ∧
    (s.rdB F.TIM_STAT_PPS_GOOD = true → s.timState = timLocked → s.ppsMode = true → s.losePps.timState = timHoldover) := by
  by_cases hgood : s.rdB F.TIM_STAT_PPS_GOOD = true
  · obtain ⟨hkept, htim, hbad, hfields⟩ := hs.ppsLost_outcome
    have hheld : Steered holdoverFields s.ppsLost s.losePps := by
      rw [State.losePps_good hgood]
      exact (Steered.refl hkept.sound _).checkHoldover (by decide) (by decide)
    have hsame : s.ppsLost.timState = s.timState := hfields.same (F.TIM_STAT_STATE, 0) (by decide) (by decide)
    refine ⟨?_, ?_, hheld.clk.trans (hkept.clk rfl), ?_, fun hfree => ?_, fun _ hlocked hpps => ?_⟩
    · rw [State.rdB, hheld.fields.same (F.TIM_STAT_PPS_GOOD, 0) (by decide) (by decide)]
      exact hbad
    · rw [hheld.tim, htim, hgood, if_pos rfl]
    · exact (hfields.mono fun y hy => List.mem_append_left _ hy).trans (hheld.fields.mono fun y hy => List.mem_append_right _ hy)
    · rw [State.losePps_good hgood, State.checkHoldover_idle (by rwa [hsame]), htim]
      exact ⟨hsame, rfl⟩
    · have hmode : s.ppsLost.ppsMode = true := by
        rw [State.ppsMode, State.rdB, hfields.same (F.TIM_CTL_SOURCE, 0) (by decide) (by decide)]
        exact hpps
      rw [State.losePps_good hgood, hkept.sound.timState_checkHoldover, if_pos]
      rw [State.sourceGood_pps hmode, hsame]
      exact ⟨hlocked, hbad⟩
  · rw [Bool.not_eq_true] at hgood
    rw [State.losePps_bad hgood, hgood]
    exact ⟨rfl, rfl, rfl, .refl hs.regs _, fun _ => ⟨rfl, rfl⟩, fun h => absurd h Bool.false_ne_true⟩

end

/-! ### PPS_LOSS (R319) -/

theorem State.doPpsLoss_idle {s : State} (h : s.rdB F.TIM_STAT_PPS_GOOD = false ∨ s.tim.ppsLast = none) : s.doPpsLoss = s := by
  unfold State.doPpsLoss
  split
  · next hgood hlast => simp [hgood, hlast] at h
  · rfl

theorem State.doPpsLoss_due {s : State} {last : Int} (hgood : s.rdB F.TIM_STAT_PPS_GOOD = true) (hlast : s.tim.ppsLast = some last) :
    s.doPpsLoss = ((s.toTime (last + 2001000000 * 65536)).onTim fun t => { t with ppsLast := none }).losePps := by
  simp only [State.doPpsLoss, hgood, hlast]

theorem State.Sound.doPpsLoss_outcome {s : State} (hs : s.Sound) (hrun : s.clk.running = true) {last : Int}
    (hgood : s.rdB F.TIM_STAT_PPS_GOOD = true) (hlast : s.tim.ppsLast = some last) :
    s.doPpsLoss.rdB F.TIM_STAT_PPS_GOOD = false ∧ s.doPpsLoss.tim.cal = none ∧ s.doPpsLoss.tim.ppsLast = none ∧
    (0 < s.tim.tnom * (2 ^ 40 + s.tim.rate) → last + 2001000000 * 65536 ≤ s.doPpsLoss.now) ∧
    (s.timState = timLocked → s.ppsMode = true → s.doPpsLoss.timState = timHoldover) ∧
    s.sameMain s.doPpsLoss [F.TIM_STAT, F.TIM_EVT, F.TIM_ASYM_MEAS] := by
  generalize hx : last + 2001000000 * 65536 = x
  have hkept : Kept 80 s ((s.toTime x).onTim fun t => { t with ppsLast := none }) :=
    State.onTim_kept _ _ (State.toTime_kept s x (hs.kept _) rfl) rfl
  have hregs : ((s.toTime x).onTim fun t => { t with ppsLast := none }).regs = s.regs := s.toTime_regs x
  have hsame (f : Fld) (i : Nat) : ((s.toTime x).onTim fun t => { t with ppsLast := none }).rd f i = s.rd f i :=
    State.rd_of_regs hregs f i
  have hloses := State.doPpsLoss_due hgood hlast
  obtain ⟨hbad, htim, hclk, hfields, -, hheld⟩ := hkept.sound.losePps_outcome
  rw [hx] at hloses
  rw [← hloses] at hbad htim hclk hfields hheld
  have hwas : ((s.toTime x).onTim fun t => { t with ppsLast := none }).rdB F.TIM_STAT_PPS_GOOD = true := by
    rw [State.rdB, hsame]
    exact hgood
  rw [hwas, if_pos rfl, State.onTim_tim, State.toTime_tim] at htim
  refine ⟨hbad, (congrArg Tim.cal htim :), (congrArg Tim.ppsLast htim :), fun hstep => ?_, fun hlocked hpps => ?_, ?_⟩
  · have hnow : s.doPpsLoss.now = (s.toTime x).now := by
      refine State.now_congr hclk ?_ ?_ ?_
      all_goals rw [State.toTime_tim]
      · exact (congrArg Tim.offset htim :)
      · exact (congrArg Tim.tnom htim :)
      · exact (congrArg Tim.rate htim :)
    rw [hnow]
    exact State.le_now_toTime hrun hstep x
  · refine hheld hwas ?_ ?_
    · rw [State.timState, hsame]
      exact hlocked
    · rw [State.ppsMode, State.rdB, hsame]
      exact hpps
  · exact (((FieldsKept.refl hs.regs []).congr hregs).mono (by simp) |>.trans hfields).sameMain_of (by decide)

end Sys2Proof.Machine
end

section
/-! SUPPORT. What an edge of PPS_IN leaves (R319, R320). -/

namespace Sys2Proof.Machine

/-! ### An edge counts towards a calibration (R320) -/

/-- A calibration after an edge with this stamp. -/
def State.calCounted (s : State) (stamp : Int) : Nat × Nat × Int → Nat × Nat × Int
  | (p, n, sum) => if n < s.rd F.TIM_PPS_CFG_CAL_N then (p, n + 1, sum + s.secondError stamp (s.nearestSecond stamp)) else (p, n, sum)

/-- The state with this calibration. -/
def State.withCal (s : State) (c : Option (Nat × Nat × Int)) : State := s.onTim fun t => { t with cal := c }

theorem State.withCal_self {s : State} {c : Option (Nat × Nat × Int)} (h : s.tim.cal = c) : s.withCal c = s := by
  rw [← h]
  rfl

theorem State.calEdge_eq (s : State) (stamp : Int) : s.calEdge stamp = s.withCal (s.tim.cal.map (s.calCounted stamp)) := by
  unfold State.calEdge
  split
  · next h =>
    rw [h]
    exact (State.withCal_self h).symm
  · next p n sum h =>
    rw [h, Option.map_some, State.calCounted]
    split
    · next hfull =>
      rw [if_neg (by omega)]
      exact (State.withCal_self h).symm
    · next hfull =>
      rw [if_pos (by omega)]
      rfl

theorem State.calCounted_of_rd {s t : State} (hdelay : t.rd F.TIM_PPS_DELAY_PS = s.rd F.TIM_PPS_DELAY_PS)
    (hcount : t.rd F.TIM_PPS_CFG_CAL_N = s.rd F.TIM_PPS_CFG_CAL_N) (stamp : Int) : t.calCounted stamp = s.calCounted stamp := by
  funext ⟨p, n, sum⟩
  simp only [State.calCounted, State.secondError, State.nearestSecond, State.rdS, hdelay, hcount]

/-! ### An edge seen (R319) -/

/-- The state after an edge at count k with this stamp, near where it comes 1 s after the last one, before it is a round. -/
def State.edgeSeen (s : State) (k : Nat) (stamp : Int) (near : Bool) : State :=
  let u := (s.toCount k).onTim fun t => { t with ppsLast := some (rhe stamp 1000) }
  (if near then (u.wr F.TIM_STAT_PPS_GOOD 0 1).conditionOver 0x3104 u.locModule else u).calEdge stamp

/-- In PPS mode an edge is a round (R319). -/
def State.edgeRound (s : State) (stamp : Int) : State :=
  let u := s.governRound (rhe stamp 1000) (rhe (s.secondError stamp s.ppsSec) 1000)
  u.wrPair F.TIM_PPS_SEC_LO_SEC F.TIM_PPS_SEC_HI_SEC 0 ((u.ppsSec + 1) % 2 ^ 64)

section
variable {s : State} {k phi : Nat} {rising : Bool}

theorem State.doPpsEdge_ignored (h : s.rdB F.TIM_PPS_CFG_EN = false ∨ s.rdB F.TIM_PPS_CFG_EDGE = rising) :
    s.doPpsEdge k phi rising = s := if_pos (by rcases h with h | h <;> simp [h])

theorem State.doPpsEdge_taken (hrun : s.clk.running = true) (hen : s.rdB F.TIM_PPS_CFG_EN = true)
    (hedge : s.rdB F.TIM_PPS_CFG_EDGE ≠ rising) (hphi : phi < 1024) {stamp : Int} (hstamp : stamp = s.stampUnits k phi) {near : Bool}
    (hnear : near = s.tim.ppsLast.any fun x => decide ((rhe stamp 1000 - x - 1000000000 * 65536).natAbs ≤ 1000000 * 65536))
    {u v : State} (hu : u = s.edgeSeen k stamp near) (hv : v = if u.ppsMode then u.edgeRound stamp else u) :
    s.doPpsEdge k phi rising = if near then v else v.losePps := by
  have hsame : (s.toCount k).stampUnits k (phi % 1024) = stamp := by
    rw [hstamp, State.stampUnits, State.stampUnits, State.toCount_tim, Nat.mod_eq_of_lt hphi]
  have htaken : (!s.rdB F.TIM_PPS_CFG_EN || !s.clk.running || rising == s.rdB F.TIM_PPS_CFG_EDGE) = false := by
    simp [hen, hrun, Ne.symm hedge]
  have hlast : (s.toCount k).tim.ppsLast = s.tim.ppsLast := by rw [State.toCount_tim]
  unfold State.doPpsEdge
  rw [if_neg (by simp [htaken])]
  dsimp only
  rw [hsame]
  subst hv hu
  cases hwhen : s.tim.ppsLast
  all_goals
    rw [hwhen] at hlast hnear
    subst hnear
    rw [hlast]
    rfl

end

section
variable {s : State} (hs : s.Sound) (k : Nat) (stamp : Int) (near : Bool)

include hs

/-- PPS is good after an edge near 1 s, and each field beside PPS_GOOD is kept. -/
theorem State.Sound.edgeSeen_outcome : Kept 596 s (s.edgeSeen k stamp near) ∧
    (s.edgeSeen k stamp near).tim =
      { s.tim with ppsLast := some (rhe stamp 1000), cal := s.tim.cal.map (s.calCounted stamp) } ∧
    (s.edgeSeen k stamp near).clk = (s.toCount k).clk ∧
    FieldsKept [(F.TIM_STAT_PPS_GOOD, 0)] s (s.edgeSeen k stamp near) ∧
    (s.edgeSeen k stamp near).rdB F.TIM_STAT_PPS_GOOD = (near || s.rdB F.TIM_STAT_PPS_GOOD) ∧
    (near = true → s.sameRegs (s.edgeSeen k stamp near) [F.TIM_STAT]) := by
  have htime : Kept 596 s ((s.toCount k).onTim fun t => { t with ppsLast := some (rhe stamp 1000) }) :=
    State.onTim_kept _ _ (State.toCount_kept s k (hs.kept _) rfl) rfl
  have hregs : ((s.toCount k).onTim fun t => { t with ppsLast := some (rhe stamp 1000) }).regs = s.regs := s.toCount_regs k
  have htim : ((s.toCount k).onTim fun t => { t with ppsLast := some (rhe stamp 1000) }).tim =
      { s.tim with ppsLast := some (rhe stamp 1000) } := by rw [State.onTim_tim, State.toCount_tim]
  have hclk : ((s.toCount k).onTim fun t => { t with ppsLast := some (rhe stamp 1000) }).clk = (s.toCount k).clk := rfl
  have hfields := (FieldsKept.refl hs.regs [(F.TIM_STAT_PPS_GOOD, 0)]).congr hregs
  rw [State.edgeSeen]
  generalize ((s.toCount k).onTim fun t => { t with ppsLast := some (rhe stamp 1000) }) = u at *
  dsimp only
  generalize hv : (if near then (u.wr F.TIM_STAT_PPS_GOOD 0 1).conditionOver 0x3104 u.locModule else u) = v
  have hgood : Kept 596 s v ∧ v.tim = u.tim ∧ v.clk = u.clk ∧ FieldsKept [(F.TIM_STAT_PPS_GOOD, 0)] s v ∧
      v.rdB F.TIM_STAT_PPS_GOOD = (near || s.rdB F.TIM_STAT_PPS_GOOD) ∧
      (near = true → s.sameRegs v [F.TIM_STAT]) := by
    subst hv
    cases near
    · exact ⟨htime, rfl, rfl, hfields, congrArg (· == 1) (State.rd_of_regs hregs _ _), fun h => absurd h Bool.false_ne_true⟩
    · refine ⟨State.conditionOver_kept _ _ _ (State.wr_kept _ _ _ _ htime rfl) rfl, rfl, rfl,
        (hfields.wr (.inl (by decide)) 1).congr rfl, ?_, fun _ => ?_⟩
      · exact State.rdB_wrB htime.regs _ _ (by decide) rfl true
      · exact (State.sameRegs_of_regs hregs _).trans (State.sameRegs_wr htime.regs F.TIM_STAT_PPS_GOOD 0 1)
  obtain ⟨hkept, hvtim, hvclk, hvfields, hvgood, hvregs⟩ := hgood
  have hcount : v.calCounted stamp = s.calCounted stamp :=
    State.calCounted_of_rd (hvfields.same (F.TIM_PPS_DELAY_PS, 0) (by decide) (by decide))
      (hvfields.same (F.TIM_PPS_CFG_CAL_N, 0) (by decide) (by decide)) stamp
  refine ⟨State.calEdge_kept _ _ hkept rfl, ?_⟩
  rw [State.calEdge_eq, hcount, hvtim, htim]
  refine ⟨?_, hvclk.trans hclk, hvfields.congr rfl, hvgood, hvregs⟩
  rw [State.withCal, State.onTim_tim, hvtim, htim]

end

end Sys2Proof.Machine
end

section
/-! SUPPORT. PPS_EDGE with PPS as a witness alone and as the source of time (R319, R320). -/

namespace Sys2Proof.Machine

/-! ### PPS_SEC -/

theorem FieldsKept.ppsSec {W : List RegField} {r t : State} (h : FieldsKept W r t)
    (hW : ∀ y ∈ W, FieldsApart (F.TIM_PPS_SEC_LO_SEC, 0) y ∧ FieldsApart (F.TIM_PPS_SEC_HI_SEC, 0) y) : t.ppsSec = r.ppsSec := by
  have hlo := h.same (F.TIM_PPS_SEC_LO_SEC, 0) (by decide) fun y hy => (hW y hy).1
  have hhi := h.same (F.TIM_PPS_SEC_HI_SEC, 0) (by decide) fun y hy => (hW y hy).2
  exact congrArg₂ (fun lo hi => lo + 2 ^ 32 * hi) hlo hhi

theorem State.ppsSec_wrPair {s : State} (h : tableWf coldWord s.regs = true) {v : Nat} (hv : v < 2 ^ 64) :
    (s.wrPair F.TIM_PPS_SEC_LO_SEC F.TIM_PPS_SEC_HI_SEC 0 v).ppsSec = v := by
  have hlo : (s.wrPair F.TIM_PPS_SEC_LO_SEC F.TIM_PPS_SEC_HI_SEC 0 v).rd F.TIM_PPS_SEC_LO_SEC = v % 2 ^ 32 % 2 ^ 32 :=
    (State.rd_wr_ne (State.wf_wr h _ _ _) F.TIM_PPS_SEC_HI_SEC F.TIM_PPS_SEC_LO_SEC 0 0 _ (by decide)).trans
      (State.rd_wr h _ _ _ (by decide))
  have hhi : (s.wrPair F.TIM_PPS_SEC_LO_SEC F.TIM_PPS_SEC_HI_SEC 0 v).rd F.TIM_PPS_SEC_HI_SEC = v / 2 ^ 32 % 2 ^ 32 :=
    State.rd_wr (State.wf_wr h F.TIM_PPS_SEC_LO_SEC 0 _) F.TIM_PPS_SEC_HI_SEC 0 _ (by decide)
  rw [State.ppsSec, State.rdPair, hlo, hhi]
  omega

theorem FieldsKept.wrPair {W : List RegField} {r t : State} (h : FieldsKept W r t) {lo hi : Fld} {i : Nat} (hlo : (lo, i) ∈ W)
    (hhi : (hi, i) ∈ W) (v : Nat) : FieldsKept W r (t.wrPair lo hi i v) :=
  (h.wr (.inl hlo) _).wr (.inl hhi) _

/-! ### An edge that is a round (R314, R319) -/

/-- A free clock begins an acquisition. -/
theorem State.governRound_free {s : State} (h : s.timState = timFree) (at_ theta : Int) : s.governRound at_ theta =
    (s.setTimState timAcquiring).onTim fun t =>
      { t with points := [(at_, theta)], lockRun := 0, stepped := false, afterStep := false } := by
  rw [State.governRound, if_pos (.inl h), State.acquireRound, if_pos h]
  rfl

section
variable {s : State} (hs : s.Sound) (stamp : Int)
include hs

theorem State.Sound.edgeRound_outcome : (s.edgeRound stamp).Sound ∧ (s.edgeRound stamp).clk = s.clk ∧
    (s.edgeRound stamp).ppsSec = (s.ppsSec + 1) % 2 ^ 64 ∧
    (s.timState = timFree → (s.edgeRound stamp).timState = timAcquiring ∧
      (s.edgeRound stamp).tim.points = [(rhe stamp 1000, rhe (s.secondError stamp s.ppsSec) 1000)]) := by
  have hsteered := (Steered.refl hs governFields).governRound (by decide) (by decide) (rhe stamp 1000)
    (rhe (s.secondError stamp s.ppsSec) 1000)
  have hpps := hsteered.fields.ppsSec (by decide)
  refine ⟨(State.wrPair_kept _ _ _ _ _ (hsteered.kept.sound.kept 4) rfl).sound, hsteered.clk, ?_, fun hfree => ?_⟩
  · rw [← hpps]
    exact State.ppsSec_wrPair hsteered.fields.wf (Nat.mod_lt _ (by decide))
  · have hwritten : FieldsKept [(F.TIM_PPS_SEC_LO_SEC, 0), (F.TIM_PPS_SEC_HI_SEC, 0)]
        (s.governRound (rhe stamp 1000) (rhe (s.secondError stamp s.ppsSec) 1000)) (s.edgeRound stamp) :=
      (FieldsKept.refl hsteered.fields.wf _).wrPair (by decide) (by decide) _
    have hstate : (s.edgeRound stamp).timState = timAcquiring := by
      refine (hwritten.same (F.TIM_STAT_STATE, 0) (by decide) (by decide)).trans ?_
      rw [State.governRound_free hfree]
      exact State.rd_wr hs.regs F.TIM_STAT_STATE 0 timAcquiring (by decide)
    refine ⟨hstate, ?_⟩
    change (s.governRound (rhe stamp 1000) (rhe (s.secondError stamp s.ppsSec) 1000)).tim.points = _
    rw [State.governRound_free hfree]
    rfl

end

/-! ### PPS_EDGE -/

/-- An edge of the polarity chosen (R319). -/
structure EdgeTaken (s : State) (k phi : Nat) (rising : Bool) (stamp : Int) (near : Bool) : Prop where
  sound : s.Sound
  running : s.clk.running = true
  enabled : s.rdB F.TIM_PPS_CFG_EN = true
  edge : s.rdB F.TIM_PPS_CFG_EDGE ≠ rising
  phase : phi < 1024
  stamp_eq : stamp = s.stampUnits k phi
  near_eq : near = s.tim.ppsLast.any fun x => decide ((rhe stamp 1000 - x - 1000000000 * 65536).natAbs ≤ 1000000 * 65536)

section
variable {s : State} {k phi : Nat} {rising : Bool} {stamp : Int} {near : Bool} (h : EdgeTaken s k phi rising stamp near)
include h

theorem EdgeTaken.ppsMode_edgeSeen : (s.edgeSeen k stamp near).ppsMode = s.ppsMode := by
  obtain ⟨-, -, -, hfields, -⟩ := h.sound.edgeSeen_outcome k stamp near
  rw [State.ppsMode, State.rdB, hfields.same (F.TIM_CTL_SOURCE, 0) (by decide) (by decide)]
  rfl

/-- Outside PPS mode an edge tells whether PPS is good, and counts towards a calibration. -/
theorem EdgeTaken.witness_eq (hmode : s.ppsMode = false) : s.doPpsEdge k phi rising =
    if near then s.edgeSeen k stamp near else (s.edgeSeen k stamp near).losePps :=
  State.doPpsEdge_taken h.running h.enabled h.edge h.phase h.stamp_eq h.near_eq rfl
    (by rw [h.ppsMode_edgeSeen, hmode, if_neg Bool.false_ne_true])

/-- In PPS mode it is a round. -/
theorem EdgeTaken.source_eq (hmode : s.ppsMode = true) : s.doPpsEdge k phi rising =
    if near then (s.edgeSeen k stamp near).edgeRound stamp else ((s.edgeSeen k stamp near).edgeRound stamp).losePps :=
  State.doPpsEdge_taken h.running h.enabled h.edge h.phase h.stamp_eq h.near_eq rfl
    (by rw [h.ppsMode_edgeSeen, hmode, if_pos rfl])

theorem EdgeTaken.witness_outcome (hmode : s.ppsMode = false) :
    (s.doPpsEdge k phi rising).tim.ppsLast = some (rhe stamp 1000) ∧
    (s.doPpsEdge k phi rising).rdB F.TIM_STAT_PPS_GOOD = near ∧
    (s.doPpsEdge k phi rising).tim.cal =
      (if near = false ∧ s.rdB F.TIM_STAT_PPS_GOOD = true then none else s.tim.cal.map (s.calCounted stamp)) ∧
    s.reached (s.doPpsEdge k phi rising) k ∧ (near = true → s.sameRegs (s.doPpsEdge k phi rising) [F.TIM_STAT]) ∧
    s.sameMain (s.doPpsEdge k phi rising) [F.TIM_STAT, F.TIM_EVT, F.TIM_ASYM_MEAS] := by
  rw [h.witness_eq hmode]
  obtain ⟨hkept, htim, hclk, hfields, hgood, hregs⟩ := h.sound.edgeSeen_outcome k stamp near
  generalize s.edgeSeen k stamp near = u at *
  cases near
  · obtain ⟨hbad, htim', hclk', hfields', -⟩ := hkept.sound.losePps_outcome
    rw [htim, hgood, Bool.false_or] at htim'
    refine ⟨(congrArg Tim.ppsLast htim' :), hbad, ?_, fun hrun => ?_, fun hn => absurd hn Bool.false_ne_true,
      ((hfields.mono (by decide)).trans hfields').sameMain_of (by decide)⟩
    · have hcal : u.losePps.tim.cal =
          if s.rdB F.TIM_STAT_PPS_GOOD then none else s.tim.cal.map (s.calCounted stamp) := (congrArg Tim.cal htim' :)
      simpa using hcal
    · change u.losePps.clk.count = _
      rw [hclk', hclk]
      exact s.reached_toCount k hrun
  · refine ⟨?_, hgood, ?_, fun hrun => ?_, hregs, hfields.sameMain_of (by decide)⟩
    · rw [if_pos rfl, htim]
    · rw [if_pos rfl, htim, if_neg (by simp)]
    · change u.clk.count = _
      rw [hclk]
      exact s.reached_toCount k hrun

theorem EdgeTaken.source_outcome (hmode : s.ppsMode = true) :
    (s.doPpsEdge k phi rising).ppsSec = (s.ppsSec + 1) % 2 ^ 64 ∧ s.reached (s.doPpsEdge k phi rising) k ∧
    (s.timState = timFree → (s.doPpsEdge k phi rising).timState = timAcquiring ∧
      (s.doPpsEdge k phi rising).tim.points = [(rhe stamp 1000, rhe (s.secondError stamp s.ppsSec) 1000)]) := by
  rw [h.source_eq hmode]
  obtain ⟨hkept, -, hclk, hfields, -⟩ := h.sound.edgeSeen_outcome k stamp near
  obtain ⟨hsound, hclkR, hsec, hfree⟩ := hkept.sound.edgeRound_outcome stamp
  have hstate : (s.edgeSeen k stamp near).timState = s.timState := hfields.same (F.TIM_STAT_STATE, 0) (by decide) (by decide)
  have herror (n : Nat) : (s.edgeSeen k stamp near).secondError stamp n = s.secondError stamp n := by
    have hdelay := hfields.same (F.TIM_PPS_DELAY_PS, 0) (by decide) (by decide)
    dsimp only at hdelay
    rw [State.secondError, State.secondError, State.rdS, State.rdS, hdelay]
  rw [hfields.ppsSec (by decide), herror, hstate] at hfree
  rw [hfields.ppsSec (by decide)] at hsec
  rw [hclk] at hclkR
  generalize (s.edgeSeen k stamp near).edgeRound stamp = v at *
  obtain ⟨-, -, hclkL, hfieldsL, hidle, -⟩ := hsound.losePps_outcome
  cases near
  · refine ⟨(hfieldsL.ppsSec (by decide)).trans hsec, fun hrun => ?_, fun hwas => ?_⟩
    · change v.losePps.clk.count = _
      rw [hclkL, hclkR]
      exact s.reached_toCount k hrun
    · obtain ⟨hacq, hpoints⟩ := hfree hwas
      obtain ⟨hs, hp⟩ := hidle (by rw [hacq]; decide)
      exact ⟨hs.trans hacq, hp.trans hpoints⟩
  · refine ⟨hsec, fun hrun => ?_, hfree⟩
    change v.clk.count = _
    rw [hclkR]
    exact s.reached_toCount k hrun

end

end Sys2Proof.Machine
end

section
/-! SUPPORT. Asymmetry calibration (R320) and the command bits of TIM_CMD (R324). -/

namespace Sys2Proof.Machine

/-! ### TIM_CMD (R324) -/

/-- TIM_CMD stands in the register table by itself; its command bits read 0. -/
theorem regAt_timCmd : (regAt F.TIM_CMD).any (fun r => r.base == F.TIM_CMD && (r.fields.all fun f => f.acc == .wo) &&
    (List.range 3).all fun k => r.fields.any fun f => f.lo == k && f.width == 1) = true := by
  decide +kernel

/-- The word that a write of 1 to command bit k stores. -/
def State.timCmdWord (s : State) (k : Nat) : Word := setField (s.shown F.TIM_CMD) k 1 1

theorem State.testBit_timCmdWord (s : State) {k j : Nat} (hk : k < 3) (hj : j < 3) :
    (s.timCmdWord k).toNat.testBit j = decide (j = k) := by
  obtain ⟨r, hr, hr'⟩ := (Option.any_eq_true _ _).1 regAt_timCmd
  simp only [Bool.and_eq_true, beq_iff_eq, List.all_eq_true, List.any_eq_true, List.mem_range] at hr'
  obtain ⟨⟨-, hwo⟩, hbits⟩ := hr'
  obtain ⟨f, hf, hlo, hwidth⟩ := hbits j hj
  have hzero : getField (s.shown F.TIM_CMD) j 1 = 0 := by
    rw [State.shown, hr]
    have hshown := getField_shown hr hf (s.regGet F.TIM_CMD)
    rwa [hlo, hwidth, if_pos (hwo f hf)] at hshown
  rw [← BitVec.getLsbD, State.timCmdWord, getLsbD_setField, getLsbD_eq_testBit_getField, hzero]
  by_cases h : j = k
  · rw [if_pos (by omega), h, Nat.sub_self]
    simp
  · rw [if_neg (by omega)]
    simp [h]

/-- The operations of its bits (R317, R320). -/
abbrev timOps : List (Nat × (State → State)) := [(0, State.doAcceptJump), (1, State.doAsymCal), (2, State.doAsymApply)]

theorem State.writeReg_timCmd (s : State) {r : RegDef} (hr : r.base = F.TIM_CMD) (p ns : Nat) (w : Word) :
    s.writeReg r p F.TIM_CMD w ns = s.commands w timOps := by
  rw [State.writeReg, State.writeMgt, State.writeFront, State.writeCore, State.writeLink, hr]
  rfl

/-- A write of 1 to a command bit starts the one operation of its bit. -/
theorem State.commands_timCmdWord (s u : State) {k : Nat} (hk : k < 3) {f : State → State} (hf : (k, f) ∈ timOps) :
    u.commands (s.timCmdWord k) timOps = f u := by
  have hbit {j : Nat} (hj : j < 3) := s.testBit_timCmdWord hk hj
  have hcommands : u.commands (s.timCmdWord k) timOps =
      timOps.foldl (fun v x => if decide (x.1 = k) then x.2 v else v) u := by
    simp only [State.commands, timOps, List.foldl_cons, List.foldl_nil, hbit (j := 0) (by decide), hbit (j := 1) (by decide),
      hbit (j := 2) (by decide)]
  rw [hcommands]
  simp only [List.mem_cons, Prod.mk.injEq, List.not_mem_nil, or_false] at hf
  rcases hf with ⟨rfl, rfl⟩ | ⟨rfl, rfl⟩ | ⟨rfl, rfl⟩
  all_goals rfl

theorem State.Working.portStore_timCmd {s : State} (hs : s.Working) (p : Nat) {k : Nat} (hk : k < 3) {f : State → State}
    (hf : (k, f) ∈ timOps) : s.portStore p F.TIM_CMD (s.timCmdWord k) = s.accepted p f := by
  obtain ⟨r, hr, hr'⟩ := (Option.any_eq_true _ _).1 regAt_timCmd
  simp only [Bool.and_eq_true, beq_iff_eq, List.all_eq_true] at hr'
  obtain ⟨⟨hbase, hwo⟩, -⟩ := hr'
  have hrwl : ∀ f ∈ r.fields, f.acc ≠ .rwl := fun f hf => by rw [hwo f hf]; decide
  rw [State.portStore_taken (by decide) (by decide) hr (.inl (by decide)) (.inr hs.cx) (.inr (not_changesLocked hrwl _ _))]
  exact congrArg (s.accepted p) (funext fun u => (u.writeReg_timCmd hbase p _ _).trans (s.commands_timCmdWord u hk hf))

/-- Of an effect an accepted write sees what it makes of the state at hand. -/
theorem State.accepted_congr {s : State} {p : Nat} {f g : State → State}
    (h : f { s with free := s.free + 1 } = g { s with free := s.free + 1 }) : s.accepted p f = s.accepted p g :=
  congrArg (fun u : State => u.onPort p fun x => { x with status := accDone }) h

section
variable {s : State} (hs : s.Working) (p : Fin 10)
include hs

/-- ASYM_CAL starts a calibration against the path in use. -/
theorem State.Working.exec_asymCal : exec (.asymCal p) s = .next (s.accepted p fun u =>
    { (u.wr F.TIM_ASYM_MEAS_BUSY 0 1).wr F.TIM_ASYM_MEAS_VALID 0 0 with
      tim := { s.tim with cal := some (s.pathInUse, 0, 0) } }) := by
  have hexec : exec (.asymCal p) s = .next (s.portStore p F.TIM_CMD (s.timCmdWord 1)) :=
    hs.awake.next_keeperDo fun s => s.hostBit p F.TIM_CMD_ASYM_CAL 0
  rw [hexec, hs.portStore_timCmd p (f := State.doAsymCal) (by decide) (.tail _ (.head _))]
  exact congrArg _ (State.accepted_congr rfl)

/-- ASYM_APPLY copies a valid result. -/
theorem State.Working.exec_asymApply : exec (.asymApply p) s = .next (s.accepted p fun u =>
    if s.rdB F.TIM_ASYM_MEAS_VALID then u.wr F.TIM_ASYM_PS (s.rd F.TIM_ASYM_MEAS_PATH) (s.rd F.TIM_ASYM_MEAS_PS) else u) := by
  have hexec : exec (.asymApply p) s = .next (s.portStore p F.TIM_CMD (s.timCmdWord 2)) :=
    hs.awake.next_keeperDo fun s => s.hostBit p F.TIM_CMD_ASYM_APPLY 0
  rw [hexec, hs.portStore_timCmd p (f := State.doAsymApply) (by decide) (.tail _ (.tail _ (.head _)))]
  exact congrArg _ (State.accepted_congr rfl)

end

/-! ### ASYM_CAL_DONE (R320) -/

/-- The state in which TIM_ASYM_MEAS says that its result is valid for path p. -/
def State.asymMeasured (s : State) (p : Nat) : State :=
  (((s.wr F.TIM_ASYM_MEAS_PATH 0 p).wr F.TIM_ASYM_MEAS_VALID 0 1).wr F.TIM_ASYM_MEAS_BUSY 0 0).withCal none

theorem State.asymMeasured_outcome {s : State} (h : tableWf coldWord s.regs = true) {p : Nat} (hp : p < 2) :
    (s.asymMeasured p).rdB F.TIM_ASYM_MEAS_VALID = true ∧ (s.asymMeasured p).rdB F.TIM_ASYM_MEAS_BUSY = false ∧
    (s.asymMeasured p).rd F.TIM_ASYM_MEAS_PATH = p ∧ (s.asymMeasured p).rd F.TIM_ASYM_MEAS_PS = s.rd F.TIM_ASYM_MEAS_PS ∧
    s.sameRegs (s.asymMeasured p) [F.TIM_ASYM_MEAS] := by
  have hpath := State.wf_wr h F.TIM_ASYM_MEAS_PATH 0 p
  have hvalid := State.wf_wr hpath F.TIM_ASYM_MEAS_VALID 0 1
  have hbusy (f : Fld) : (s.asymMeasured p).rd f =
      (((s.wr F.TIM_ASYM_MEAS_PATH 0 p).wr F.TIM_ASYM_MEAS_VALID 0 1).wr F.TIM_ASYM_MEAS_BUSY 0 0).rd f := rfl
  refine ⟨?_, ?_, ?_, ?_, ?_⟩
  · rw [State.rdB, hbusy, State.rd_wr_ne hvalid _ _ _ _ _ (by decide), State.rd_wr hpath _ _ _ (by decide)]
    rfl
  · rw [State.rdB, hbusy, State.rd_wr hvalid _ _ _ (by decide)]
    rfl
  · rw [hbusy, State.rd_wr_ne hvalid _ _ _ _ _ (by decide), State.rd_wr_ne hpath _ _ _ _ _ (by decide),
      State.rd_wr h _ _ _ (by decide)]
    exact Nat.mod_eq_of_lt hp
  · rw [hbusy, State.rd_wr_ne hvalid _ _ _ _ _ (by decide), State.rd_wr_ne hpath _ _ _ _ _ (by decide),
      State.rd_wr_ne h _ _ _ _ _ (by decide)]
  · exact ((State.sameRegs_wr h F.TIM_ASYM_MEAS_PATH 0 p).trans (State.sameRegs_wr hpath F.TIM_ASYM_MEAS_VALID 0 1)).trans
      (State.sameRegs_wr hvalid F.TIM_ASYM_MEAS_BUSY 0 0)

theorem State.doAsymCalDone_none {s : State} (h : s.tim.cal = none) : s.doAsymCalDone = s := by
  simp only [State.doAsymCalDone, h]

section
variable {s : State} {p n : Nat} {sum : Int} (hcal : s.tim.cal = some (p, n, sum))
include hcal

theorem State.doAsymCalDone_early (h : n < s.rd F.TIM_PPS_CFG_CAL_N ∨ n = 0) : s.doAsymCalDone = s := by
  simp only [State.doAsymCalDone, hcal, h, if_true]

/-- The result is shown where it fits its field. -/
theorem State.doAsymCalDone_due (hn : 0 < n) (hfull : s.rd F.TIM_PPS_CFG_CAL_N ≤ n) {ps : Int}
    (hps : ps = s.rdS F.TIM_ASYM_PS p - rhe sum (65536 * n)) : ∃ m v, (-32768 ≤ ps → ps ≤ 32767 → v = wrapBits 16 ps) ∧
    s.doAsymCalDone = (State.wr { s with free := m } F.TIM_ASYM_MEAS_PS 0 v).asymMeasured p := by
  subst hps
  simp only [State.doAsymCalDone, hcal]
  rw [if_neg (by omega)]
  split
  · exact ⟨s.free, _, fun _ _ => rfl, rfl⟩
  · next hout => exact ⟨s.free + 1, _, fun hlo hhi => absurd ⟨hlo, hhi⟩ hout, rfl⟩

theorem State.Sound.doAsymCalDone_outcome (hs : s.Sound) (hp : p < 2) (hn : 0 < n) (hfull : s.rd F.TIM_PPS_CFG_CAL_N ≤ n) {ps : Int}
    (hps : ps = s.rdS F.TIM_ASYM_PS p - rhe sum (65536 * n)) : s.doAsymCalDone.tim = { s.tim with cal := none } ∧
    s.doAsymCalDone.rdB F.TIM_ASYM_MEAS_VALID = true ∧ s.doAsymCalDone.rdB F.TIM_ASYM_MEAS_BUSY = false ∧
    s.doAsymCalDone.rd F.TIM_ASYM_MEAS_PATH = p ∧
    (-32768 ≤ ps → ps ≤ 32767 → s.doAsymCalDone.rdS F.TIM_ASYM_MEAS_PS = ps) ∧
    s.sameRegs s.doAsymCalDone [F.TIM_ASYM_MEAS] := by
  obtain ⟨m, v, hv, heq⟩ := State.doAsymCalDone_due hcal hn hfull hps
  have hfree : tableWf coldWord (State.regs { s with free := m }) = true := hs.regs
  have hshown := State.rd_wr hfree F.TIM_ASYM_MEAS_PS 0 v (by decide)
  have hkept := State.sameRegs_wr hfree F.TIM_ASYM_MEAS_PS 0 v
  obtain ⟨hvalid, hbusy, hpath, hresult, hregs⟩ :=
    State.asymMeasured_outcome (State.wf_wr hfree F.TIM_ASYM_MEAS_PS 0 v) hp
  rw [heq]
  refine ⟨rfl, hvalid, hbusy, hpath, fun hlo hhi => ?_, hkept.trans hregs⟩
  rw [State.rdS, hresult, hv hlo hhi]
  exact State.rdS_wrS hfree F.TIM_ASYM_MEAS_PS 0 (by decide) (k := 15) rfl hlo (by omega)

end

end Sys2Proof.Machine
end

section
/-! SUPPORT. Voting (R322) and heartbeats (R307). -/

namespace Sys2Proof.Machine

/-! ### Voting (R322) -/

/-- The state in which a correction of copy c has been counted. -/
def State.voteCounted (s : State) (c : Nat) : State :=
  ((s.flag F.TIM_EVT2 1).satAdd F.TIM_VOTE_TOTAL_COUNT 0 1).onTim fun t =>
    { t with votes := t.votes.set c (((s.clk.count :: t.votes.getD c []).filter fun n =>
        decide (s.clk.count < n + s.clk.fs)).take 16) }

/-- The state in which copy c has been taken out. -/
def State.voteOut (s : State) (c : Nat) : State :=
  ((s.wr F.TIM_STAT_VOTE_DEGRADED 0 1).onTim fun t => { t with out := t.out.set c true }).report 0x3105 s.locCx 0

/-- The fields in which a counted correction shows. -/
abbrev voteFields : List RegField := (F.TIM_VOTE_TOTAL_COUNT, 0) :: flagFields F.TIM_EVT2 1

section
variable {s : State} {c : Nat}

theorem State.doVoteCorrection_out (hdegraded : s.rdB F.TIM_STAT_VOTE_DEGRADED = true) (hout : s.tim.out.getD c false = true) :
    s.doVoteCorrection c = s := (if_pos hdegraded).trans (if_pos hout)

/-- With one copy out a disagreement starts a new acquisition. -/
theorem State.doVoteCorrection_lost (hdegraded : s.rdB F.TIM_STAT_VOTE_DEGRADED = true) (hout : s.tim.out.getD c false = false) :
    s.doVoteCorrection c = ((s.report 0x3106 s.locCx 0).setTimState timFree).onTim fun t =>
      { t with points := [], lockRun := 0, stepped := false, afterStep := false, accept := false, acquired := false } :=
  (if_pos hdegraded).trans (if_neg (by simp only [hout, Bool.false_eq_true, not_false_eq_true]))

/-- A copy that disagrees 16 times within 1 s is taken out. -/
theorem State.doVoteCorrection_counts (hdegraded : s.rdB F.TIM_STAT_VOTE_DEGRADED = false) (hfs : 0 < s.clk.fs) {n : Nat}
    (hn : n = ((s.tim.votes.getD c []).filter fun k => decide (s.clk.count < k + s.clk.fs)).length) :
    s.doVoteCorrection c = if 15 ≤ n then (s.voteCounted c).voteOut c else s.voteCounted c := by
  have hhits : ((s.clk.count :: s.tim.votes.getD c []).filter fun k => decide (s.clk.count < k + s.clk.fs)).length = n + 1 := by
    rw [hn, List.filter_cons_of_pos (by simp [hfs]), List.length_cons]
  have hsplit : s.doVoteCorrection c =
      if ((s.clk.count :: s.tim.votes.getD c []).filter fun k => decide (s.clk.count < k + s.clk.fs)).length ≥ 16 then
        (s.voteCounted c).voteOut c else s.voteCounted c := if_neg (by simp [hdegraded])
  rw [hsplit, hhits]
  exact if_congr (by omega) rfl rfl

variable (hs : s.Sound)
include hs

theorem State.Sound.lost_outcome (hdegraded : s.rdB F.TIM_STAT_VOTE_DEGRADED = true) (hout : s.tim.out.getD c false = false) :
    (s.doVoteCorrection c).timState = timFree ∧ (s.doVoteCorrection c).tim.acquired = false ∧
    (s.doVoteCorrection c).tim.acquiredOnce = s.tim.acquiredOnce ∧ s.sameMain (s.doVoteCorrection c) [F.TIM_STAT] := by
  have hreport : Kept 518 s (s.report 0x3106 s.locCx 0) := State.report_kept _ _ _ _ (hs.kept _) rfl
  have hfields := ((FieldsKept.refl hs.regs [(F.TIM_STAT_STATE, 0)]).report 0x3106 s.locCx 0).wr
    (f := F.TIM_STAT_STATE) (i := 0) (.inl (by decide)) timFree
  have htim : (s.report 0x3106 s.locCx 0).tim = s.tim := by rw [hs.report_only]
  rw [State.doVoteCorrection_lost hdegraded hout]
  refine ⟨State.rd_wr hreport.regs F.TIM_STAT_STATE 0 timFree (by decide), rfl, ?_, hfields.sameMain_of (by decide)⟩
  change (s.report 0x3106 s.locCx 0).tim.acquiredOnce = _
  rw [htim]

theorem State.Sound.voteCounted_outcome : FieldsKept voteFields s (s.voteCounted c) ∧
    (s.voteCounted c).rd F.TIM_VOTE_TOTAL_COUNT = min (2 ^ 32 - 1) (s.rd F.TIM_VOTE_TOTAL_COUNT + 1) ∧
    (s.voteCounted c).tim.out = s.tim.out ∧ (s.voteCounted c).Sound := by
  have hflag : FieldsKept (flagFields F.TIM_EVT2 1) s (s.flag F.TIM_EVT2 1) :=
    (FieldsKept.refl hs.regs _).flag (.inl fun _ hy => hy)
  have htotal := hflag.same (F.TIM_VOTE_TOTAL_COUNT, 0) (by decide) (by decide)
  have hcount := State.rd_satAdd hflag.wf (f := F.TIM_VOTE_TOTAL_COUNT) (by decide) 0 1
  refine ⟨((hflag.mono (by decide)).wr (f := F.TIM_VOTE_TOTAL_COUNT) (i := 0) (.inl (by decide)) _).congr rfl, ?_, rfl, ?_⟩
  · exact hcount.trans (congrArg (fun n => min (2 ^ 32 - 1) (n + 1)) htotal)
  · exact (State.onTim_kept _ _ (State.satAdd_kept _ _ _ _ (State.flag_kept s _ _ (hs.kept 582) rfl) rfl) rfl).sound

theorem State.Sound.voteOut_outcome : FieldsKept [(F.TIM_STAT_VOTE_DEGRADED, 0)] s (s.voteOut c) ∧
    (s.voteOut c).rdB F.TIM_STAT_VOTE_DEGRADED = true ∧ (s.voteOut c).tim.out = s.tim.out.set c true := by
  have hout : Kept 582 s ((s.wr F.TIM_STAT_VOTE_DEGRADED 0 1).onTim fun t => { t with out := t.out.set c true }) :=
    State.onTim_kept _ _ (State.wr_kept _ _ _ _ (hs.kept _) rfl) rfl
  have hwritten := State.rd_wr hs.regs F.TIM_STAT_VOTE_DEGRADED 0 1 (by decide)
  have hreport : FieldsKept [] (s.wr F.TIM_STAT_VOTE_DEGRADED 0 1) (s.voteOut c) :=
    ((FieldsKept.refl (State.wf_wr hs.regs _ _ _) _).congr
      (u := (s.wr F.TIM_STAT_VOTE_DEGRADED 0 1).onTim fun t => { t with out := t.out.set c true }) rfl).report _ _ _
  refine ⟨((FieldsKept.refl hs.regs _).wr (.inl (by decide)) 1).trans (hreport.mono (by simp)), ?_, ?_⟩
  · rw [State.rdB, hreport.same (F.TIM_STAT_VOTE_DEGRADED, 0) (by decide) (by simp)]
    exact congrArg (· == 1) hwritten
  · rw [State.voteOut, hout.sound.report_only]
    rfl

theorem State.Sound.counts_outcome (hdegraded : s.rdB F.TIM_STAT_VOTE_DEGRADED = false) (hfs : 0 < s.clk.fs) {n : Nat}
    (hn : n = ((s.tim.votes.getD c []).filter fun k => decide (s.clk.count < k + s.clk.fs)).length) :
    (s.doVoteCorrection c).timState = s.timState ∧
    (s.doVoteCorrection c).rd F.TIM_VOTE_TOTAL_COUNT = min (2 ^ 32 - 1) (s.rd F.TIM_VOTE_TOTAL_COUNT + 1) ∧
    (s.doVoteCorrection c).rdB F.TIM_STAT_VOTE_DEGRADED = decide (15 ≤ n) ∧
    (s.doVoteCorrection c).tim.out = (if 15 ≤ n then s.tim.out.set c true else s.tim.out) ∧
    s.sameMain (s.doVoteCorrection c) [F.TIM_STAT, F.TIM_EVT2, F.TIM_VOTE_TOTAL] := by
  obtain ⟨hfields, hcount, hout, hsound⟩ := hs.voteCounted_outcome (c := c)
  have hstate := hfields.same (F.TIM_STAT_STATE, 0) (by decide) (by decide)
  have hstill := hfields.same (F.TIM_STAT_VOTE_DEGRADED, 0) (by decide) (by decide)
  rw [State.doVoteCorrection_counts hdegraded hfs hn]
  by_cases hmany : 15 ≤ n
  · obtain ⟨hfieldsO, hset, houtO⟩ := hsound.voteOut_outcome (c := c)
    rw [if_pos hmany, if_pos hmany, decide_eq_true hmany]
    refine ⟨(hfieldsO.same (F.TIM_STAT_STATE, 0) (by decide) (by decide)).trans hstate,
      (hfieldsO.same (F.TIM_VOTE_TOTAL_COUNT, 0) (by decide) (by decide)).trans hcount, hset, houtO.trans (by rw [hout]), ?_⟩
    exact ((hfields.mono fun y hy => List.mem_append_left [(F.TIM_STAT_VOTE_DEGRADED, 0)] hy).trans
      (hfieldsO.mono fun y hy => List.mem_append_right voteFields hy)).sameMain_of (by decide)
  · rw [if_neg hmany, if_neg hmany, decide_eq_false hmany]
    refine ⟨hstate, hcount, ?_, hout, hfields.sameMain_of (by decide)⟩
    rw [← hdegraded]
    exact congrArg (· == 1) hstill

end

/-! ### Heartbeats (R307) -/

/-- A heartbeat of the module (R307). -/
def State.heartbeatWords (s : State) : List LWord := [word64 [(56, 0x0F), (52, 2), (0, s.locCx)], word64 [(16, s.nowT48)]]

theorem State.doHeartbeat_none {s : State} {cls : Nat} (h1 : cls ≠ 1) (h3 : cls ≠ 3) : s.doHeartbeat cls = s := if_pos ⟨h1, h3⟩

theorem State.queue_toTime (s : State) (x : Int) (q : Nat) : (s.toTime x).queue q = s.queue q :=
  State.queue_of_que s q (by rw [State.toTime, State.toCount_only])

/-- The parts that time and a packet that enters its queue may change. -/
theorem Kept.queued_only {s t : State} (h : Kept 340 s t) :
    t = { s with regs := t.regs, clk := t.clk, tim := t.tim, que := t.que } := h.eq_withParts

/-- The network time of the heartbeat of class q. -/
def State.heartbeatTime (s : State) (q : Nat) : Int := (if q = 1 then s.tim.lastT48C1 else s.tim.lastT48C3) + 500000000 * 65536

theorem State.locCx_lt (s : State) : s.locCx < 2 ^ 52 := by
  have hid : s.moduleId < 2 ^ 16 := getField_lt _ _ _
  simp only [State.locCx, State.locDie, State.loc]
  omega

/-- It bears a T48. -/
theorem State.t48Bearing_heartbeat (s : State) : t48Bearing ((qData ((packetWords s.heartbeatWords).headD 0)).toNat / 2 ^ 56) = true := by
  have hloc := s.locCx_lt
  have htype : (word64 [(56, 0x0F), (52, 2), (0, s.locCx)]).toNat / 2 ^ 56 = 0x0F := by
    simp only [word64, List.foldl_cons, List.foldl_nil, BitVec.toNat_ofNat]
    omega
  rw [State.heartbeatWords, packetWords_cons, List.headD_cons, qData_mkQWord, htype]
  rfl

/-- Its entry into its queue starts the interval of its class anew. -/
theorem State.lastT48_heartbeat (s : State) {q : Nat} (hq : q = 1 ∨ q = 3) {x : Packet} (hx : x.words = packetWords s.heartbeatWords) :
    (if q = 1 then (s.enqueue q x).tim.lastT48C1 else (s.enqueue q x).tim.lastT48C3) = s.now := by
  have hbears : t48Bearing ((qData (x.words.headD 0)).toNat / 2 ^ 56) = true := by rw [hx, s.t48Bearing_heartbeat]
  unfold State.enqueue State.noteT48
  rw [if_pos hbears]
  rcases hq with rfl | rfl <;> rfl

section
variable {s : State} (hs : s.Sound) {q : Nat} (hq : q = 1 ∨ q = 3) (hblocked : (s.queue q).blocked = [])
  (hroom : (s.queue q).fill + 2 ≤ queueCap q)
include hq hblocked hroom

theorem State.doHeartbeat_eq : s.doHeartbeat q = (s.toTime (s.heartbeatTime q)).enqueue q
    { words := packetWords (s.toTime (s.heartbeatTime q)).heartbeatWords, at_ := (s.toTime (s.heartbeatTime q)).clk.count } := by
  refine (if_neg (by omega)).trans ((State.pushPkt_eq (by omega) _ _).trans (if_pos ?_))
  change ((s.toTime (s.heartbeatTime q)).queue q).blocked = [] ∧ ((s.toTime (s.heartbeatTime q)).queue q).fill + _ ≤ queueCap q
  rw [State.queue_toTime, length_packetWords]
  exact ⟨hblocked, hroom⟩

include hs

/-- It enters its queue, and with it network time has come to the end of the interval. -/
theorem State.Sound.doHeartbeat_outcome (hrun : s.clk.running = true) : ∃ y : Packet,
    ((s.doHeartbeat q).queue q).waiting = (s.queue q).waiting ++ [y] ∧
    y.words = packetWords [word64 [(56, 0x0F), (52, 2), (0, s.locCx)], word64 [(16, (s.doHeartbeat q).nowT48)]] ∧
    (if q = 1 then (s.doHeartbeat q).tim.lastT48C1 else (s.doHeartbeat q).tim.lastT48C3) = (s.doHeartbeat q).now ∧
    (0 < s.tim.tnom * (2 ^ 40 + s.tim.rate) → s.heartbeatTime q ≤ (s.doHeartbeat q).now) ∧
    s.sameMain (s.doHeartbeat q) [] ∧ Kept 340 s (s.doHeartbeat q) := by
  rw [State.doHeartbeat_eq hq hblocked hroom]
  have htime : Kept 340 s (s.toTime (s.heartbeatTime q)) := State.toTime_kept s _ (hs.kept _) rfl
  have hdue := fun hstep => State.le_now_toTime hrun hstep (s.heartbeatTime q)
  have hfields := (FieldsKept.refl hs.regs []).congr (s.toTime_regs (s.heartbeatTime q))
  have hqueue := s.queue_toTime (s.heartbeatTime q) q
  have hloc : (s.toTime (s.heartbeatTime q)).locCx = s.locCx := by
    simp only [State.locCx, State.locDie, State.loc, State.moduleId, State.rd, State.regGet, State.toTime_regs]
  generalize s.toTime (s.heartbeatTime q) = u at *
  generalize hx : ({ words := packetWords u.heartbeatWords, at_ := u.clk.count } : Packet) = x
  have hwords : x.words = packetWords u.heartbeatWords := by rw [← hx]
  have hkept : Kept 340 s (u.enqueue q x) := State.enqueue_kept _ _ _ htime rfl
  have hnow : (u.enqueue q x).now = u.now := by
    refine State.now_congr ((State.enqueue_kept u q x (htime.sound.kept 324) rfl).clk rfl) ?_ ?_ ?_
    all_goals rw [State.enqueue_tim]
  refine ⟨_, (State.waiting_enqueue x (by rw [htime.que]; omega)).trans (by rw [hqueue]), ?_, ?_, fun hstep => ?_, ?_, hkept⟩
  · rw [State.nowT48, hnow, ← hloc]
    exact hwords
  · rw [hnow]
    exact u.lastT48_heartbeat hq hwords
  · rw [hnow]
    exact hdue hstep
  · exact (hfields.enqueue (by omega) x).sameMain

end

end Sys2Proof.Machine
end

section
open Sys2Proof Sys2Proof.Machine

/-- Settles O42, by the equation of each command for each state of what it watches, and by what each lost source, edge,
correction and heartbeat leaves. -/
theorem timeEvents : Obligations.TimeEvents := by
  intro s hw hrun
  have hs := hw.sound
  have hloss (path : Fin 2) : exec (.pathLoss path) s = .next (s.doPathLoss path) := hw.next_cxDo fun s => s.doPathLoss path
  have hppsLoss : exec .ppsLoss s = .next s.doPpsLoss := hw.next_cxDo fun s => s.doPpsLoss
  have hedge (k : Nat) (phi : Fin 1024) (rising : Bool) : exec (.ppsEdge k (phi, rising)) s = .next (s.doPpsEdge k phi rising) :=
    hw.next_cxDo fun s => s.doPpsEdge k phi rising
  have hdone : exec .asymCalDone s = .next s.doAsymCalDone := hw.next_cxDo fun s => s.doAsymCalDone
  have hvote (c : Fin 3) : exec (.voteCorrection c) s = .next (s.doVoteCorrection c) := hw.next_cxDo fun s => s.doVoteCorrection c
  have hbeat (cls : Fin 4) : exec (.heartbeat cls) s = .next (s.doHeartbeat cls) := hw.next_cxDo fun s => s.doHeartbeat cls
  refine ⟨fun path hbad => ?_, fun path hgood hdelays => ?_, fun hidle => ?_, fun last hgood hlast => ?_,
    fun k phi rising hignored => ?_, fun k phi rising stamp near hen hpol hstamp hnear => ?_, hw.exec_asymCal, fun hnone => ?_,
    fun p n sum hcal hearly => ?_, fun p n sum hcal hp hn hfull ps hps => ?_, hw.exec_asymApply, fun c hdegraded hout => ?_,
    fun c hdegraded hout => ?_, fun c n hdegraded hn hfs => ?_, fun cls h1 h3 => ?_, fun cls q hcls hq hblocked hroom => ?_⟩
  · rw [hloss, State.doPathLoss_idle hbad]
  · obtain ⟨hlost, hother, hclear, hseen, hcal, hdue, huse, hstate, hmain⟩ := hs.doPathLoss_outcome hgood hrun hdelays
    refine ⟨_, hloss path, hlost, hother, hclear, hseen, hcal, hdue, huse, fun hlocked hpps hbad => ?_, fun hidle hpps => ?_, hmain,
      (State.doPathLoss_kept s path (hs.kept 854) rfl).eq_withParts⟩
    · rw [hstate hpps, if_pos ⟨hlocked, hbad⟩]
    · rw [hstate hpps, if_neg]
      rintro ⟨hlocked, hbad⟩
      rcases hidle with hidle | hidle
      · exact hidle hlocked
      · simp [hbad] at hidle
  · rw [hppsLoss, State.doPpsLoss_idle hidle]
  · obtain ⟨hbad, hcal, hclear, hdue, hheld, hmain⟩ := hs.doPpsLoss_outcome hrun hgood hlast
    exact ⟨_, hppsLoss, hbad, hcal, hclear, hdue, hheld, hmain, (State.doPpsLoss_kept s (hs.kept 854) rfl).eq_withParts⟩
  · rw [hedge, State.doPpsEdge_ignored hignored]
  · have htaken : EdgeTaken s k phi rising stamp near := ⟨hs, hrun, hen, hpol, phi.isLt, hstamp, hnear⟩
    refine ⟨fun hmode => ?_, fun hmode => ?_⟩
    · obtain ⟨hlast, hgood, hcal, hreached, hregs, hmain⟩ := htaken.witness_outcome hmode
      refine ⟨_, hedge k phi rising, hlast, hgood, fun p n sum hrunning hkeeps => ?_, fun hfar hwas => ?_, fun hnone => ?_,
        hreached, hregs, hmain, (State.doPpsEdge_kept s k phi rising (hs.kept 854) rfl).eq_withParts⟩
      · rw [hcal, if_neg (by rcases hkeeps with h | h <;> simp [h]), hrunning, Option.map_some, State.calCounted]
        split <;> rfl
      · rw [hcal, if_pos ⟨hfar, hwas⟩]
      · rw [hcal, hnone, Option.map_none, ite_self]
    · obtain ⟨hsec, hreached, hfree⟩ := htaken.source_outcome hmode
      exact ⟨_, hedge k phi rising, hsec, hreached, hfree⟩
  · rw [hdone, State.doAsymCalDone_none hnone]
  · rw [hdone, State.doAsymCalDone_early hcal hearly]
  · obtain ⟨htim, hvalid, hbusy, hpath, hresult, hregs⟩ := State.Sound.doAsymCalDone_outcome hcal hs hp hn hfull hps
    exact ⟨_, hdone, htim, hvalid, hbusy, hpath, hresult, hregs, (State.doAsymCalDone_kept s (hs.kept 70) rfl).eq_withParts⟩
  · rw [hvote, State.doVoteCorrection_out hdegraded hout]
  · obtain ⟨hfree, hacquired, honce, hmain⟩ := hs.lost_outcome hdegraded hout
    exact ⟨_, hvote c, hfree, hacquired, honce, hmain, (State.doVoteCorrection_kept s c (hs.kept 582) rfl).eq_withParts⟩
  · obtain ⟨hstate, htotal, hset, hout, hmain⟩ := hs.counts_outcome hdegraded hfs hn
    exact ⟨_, hvote c, hstate, htotal, hset, hout, hmain, (State.doVoteCorrection_kept s c (hs.kept 582) rfl).eq_withParts⟩
  · rw [hbeat, State.doHeartbeat_none h1 h3]
  · subst hq
    obtain ⟨y, hentered, hwords, hmark, hdue, hmain, hkept⟩ := hs.doHeartbeat_outcome hcls hblocked hroom hrun
    exact ⟨_, y, hbeat cls, hentered, hwords, hmark, hdue, hmain, hkept.queued_only⟩
end

section
/-! SUPPORT. A poll that completes while a finished command waits whose ring the module does not have (R328, R331, R341). -/

namespace Sys2Proof.Machine

/-- A module at work whose poll has both its answers, with completion ring 8 in use, and a command that has finished, whose entry
is still to be posted, noted under ring 36, one more than the last of the 36 rings; the word where the state of such a ring would
stand shows it in flight. -/
def ringlessCommand : State :=
  { start := { booted := true }, plane := { cxOn := true }
    regs := [(F.PRM_RING_CFG + 16 * 8, 0x104), (F.PRM_RING_STAT + 16 * 36, 0x10000)]
    prm := { pollAt := some 0, answers := [some [], some []], cmds := [{ ring := 36, started := true, finished := true }] } }

theorem ringlessCommand_working : ringlessCommand.Working :=
  ⟨⟨by decide +kernel, rfl, rfl, rfl, rfl, rfl, rfl⟩, rfl, rfl⟩

/-- The completion of the poll posts its entry, and the count in flight falls to 0 behind the states of the 36 rings. -/
theorem ringlessCommand_polled : ringlessCommand.regGet (F.PRM_RING_STAT + 16 * 36) = 0x10000 ∧
    ringlessCommand.doPollComplete.regGet (F.PRM_RING_STAT + 16 * 36) = 0 := by
  decide +kernel

end Sys2Proof.Machine

open Sys2Proof Sys2Proof.Machine

/-- Refutes O38: its clause on a poll's completion lets the states of the 36 rings change, but a Working state may hold a command
of a ring beyond them, and IN_FLIGHT at that ring's address moves when the completion posts the command's entry. A premise that
every command's ring is below 8 would exclude it. -/
theorem not_prompterControl : ¬ Obligations.PrompterControl := by
  intro h
  have hw := ringlessCommand_working
  obtain ⟨-, -, -, -, -, hcompletes, -⟩ := h ringlessCommand hw rfl
  obtain ⟨t, hexec, -, -, -, -, hmain, -⟩ := hcompletes 0 [] [] rfl rfl rfl
  have ht : ringlessCommand.doPollComplete = t :=
    Host.Outcome.next.inj ((hw.next_cxDo fun s => s.doPollComplete).symm.trans hexec)
  have hsame : t.regGet (F.PRM_RING_STAT + 16 * 36) = ringlessCommand.regGet (F.PRM_RING_STAT + 16 * 36) :=
    hmain _ (.inr (by decide)) (by decide) (by decide)
  obtain ⟨hbefore, hafter⟩ := ringlessCommand_polled
  rw [← ht, hbefore, hafter] at hsame
  exact absurd hsame (by decide)
end

section
/-! SUPPORT. Footprints in the safety monitor (R347 to R367): the fields of registers and the part of the monitor's own state that a
run of its operations leaves. -/

namespace Sys2Proof.Machine

/-! ### Time passes until a slow tick (R27) -/

theorem State.le_tick_toTick {s : State} (hfs : 0 < s.clk.fs) (n : Nat) : n ≤ (s.toTick n).clk.tick := by
  unfold State.toTick
  split
  · next hlate =>
    have hceil : (n - s.clk.tick) * s.clk.fs - s.clk.phase ≤
        ceilDiv ((n - s.clk.tick) * s.clk.fs - s.clk.phase) 1000 * 1000 := le_nextMultiple (by decide) _
    have hticks : n - s.clk.tick ≤
        (s.clk.phase + ceilDiv ((n - s.clk.tick) * s.clk.fs - s.clk.phase) 1000 * 1000) / s.clk.fs := by
      rw [Nat.le_div_iff_mul_le hfs]
      omega
    change n ≤ s.clk.tick + _
    omega
  · next hdue => exact Nat.le_of_not_lt hdue

/-! ### Footprints -/

/-- From r to t the safety monitor may have acted: of the registers outside QUE, FAU and PMC only the fields of W may have changed, of
its own state only what the view p leaves out, and of the other parts of the module the free values, faults and the prompt book. -/
structure MonKept {α : Type} (W : List RegField) (p : Saf → α) (r t : State) : Prop where
  kept : Kept 25166342 r t
  fields : FieldsKept W r t
  saf : p t.saf = p r.saf

section
variable {α β : Type} {W V : List RegField} {p : Saf → α} {q : Saf → β} {r t u : State}

theorem MonKept.refl (h : r.Sound) (W : List RegField) (p : Saf → α) : MonKept W p r r := ⟨h.kept _, .refl h.regs W, rfl⟩

variable (h : MonKept W p r t)
include h

theorem MonKept.sound : t.Sound := h.kept.sound

theorem MonKept.clk : t.clk = r.clk := h.kept.clk rfl

theorem MonKept.rd {f : Fld} {i : Nat} (ha : MainAddr (f.addr i)) (hf : ∀ y ∈ W, FieldsApart (f, i) y) : t.rd f i = r.rd f i :=
  h.fields.same (f, i) ha hf

theorem MonKept.trans (g : MonKept W p t u) : MonKept W p r u :=
  ⟨⟨g.kept.regs, g.kept.banks, g.kept.ports, g.kept.que, g.kept.lanes, g.kept.chans, g.kept.regions,
    g.kept.only.trans h.kept.only⟩, h.fields.trans g.fields, g.saf.trans h.saf⟩

/-- A footprint with more fields and a view of less. -/
theorem MonKept.mono (hW : ∀ y ∈ W, y ∈ V) (hp : ∀ x y, p x = p y → q x = q y) : MonKept V q r t :=
  ⟨h.kept, h.fields.mono hW, hp _ _ h.saf⟩

/-- A view of less is left too. -/
theorem MonKept.seen (hp : ∀ x y, p x = p y → q x = q y) : q t.saf = q r.saf := hp _ _ h.saf

theorem MonKept.wr {f : Fld} {i : Nat} (hf : (f, i) ∈ W) (v : Nat) : MonKept W p r (t.wr f i v) :=
  ⟨State.wr_kept _ _ _ _ h.kept rfl, h.fields.wr (.inl hf) v, h.saf⟩

theorem MonKept.wrB {f : Fld} {i : Nat} (hf : (f, i) ∈ W) (b : Bool) : MonKept W p r (t.wrB f i b) := h.wr hf _

theorem MonKept.satAdd {f : Fld} {i : Nat} (hf : (f, i) ∈ W) (n : Nat) : MonKept W p r (t.satAdd f i n) := h.wr hf _

theorem MonKept.onSaf {g : Saf → Saf} (hg : p (g t.saf) = p t.saf := by rfl) : MonKept W p r (t.onSaf g) :=
  ⟨State.onSaf_kept _ _ h.kept rfl, h.fields.congr rfl, hg.trans h.saf⟩

theorem MonKept.setSaf (hW : ∀ y ∈ [(F.SAF_STAT_STATE, 0), (F.SAF_STAT_FC_CLOSED, 0)], y ∈ W) (n : Nat) : MonKept W p r (t.setSaf n) :=
  (h.wr (hW _ (by decide)) _).wr (hW _ (by decide)) _

theorem MonKept.followSls (hsel : (F.SAF_STAT_SLS_SEL, 0) ∈ W)
    (hp : ∀ (x : Saf) (ramp : Option (Nat × Nat × Nat)) (n : Nat), p { x with ramp := ramp, target := n } = p x) :
    MonKept W p r t.followSls := by
  unfold State.followSls
  dsimp only
  split
  · exact h.wr hsel _
  · exact (h.wr hsel _).onSaf (hp _ _ _)

theorem MonKept.conditionOver (c l : Nat) : MonKept W p r (t.conditionOver c l) :=
  ⟨State.conditionOver_kept _ _ _ h.kept rfl, h.fields.congr rfl, h.saf⟩

theorem MonKept.freeBelow (n : Nat) : MonKept W p r (t.freeBelow n).2 :=
  ⟨State.freeBelow_kept _ h.kept rfl, h.fields.congr rfl, h.saf⟩

theorem MonKept.freeDiv (n : Int) (d : Nat) : MonKept W p r (t.freeDiv n d).2 := by
  unfold State.freeDiv
  split
  · exact h
  · exact h.freeBelow 2

theorem MonKept.pInc (n : Int) : MonKept W p r (t.pInc n).2 := h.freeDiv _ _

theorem MonKept.show32 (v : Int) : MonKept W p r (t.show32 v).2 := by
  rw [State.show32]
  split
  · exact h
  · exact h.freeBelow _

theorem MonKept.report (c l d : Nat) : MonKept W p r (t.report c l d) := by
  refine ⟨State.report_kept _ _ _ _ h.kept rfl, h.fields.report c l d, ?_⟩
  rw [h.sound.report_only]
  exact h.saf

theorem MonKept.safReport {code : Nat} (hp : ∀ x : Saf, p { x with lastCode := code } = p x) : MonKept W p r (t.safReport code) :=
  (h.report _ _ _).onSaf (hp _)

theorem MonKept.requestCommit (hf : (F.PWR_PB_STAT_BUSY, 0) ∈ W) (kind : Nat) : MonKept W p r (t.requestCommit kind) := by
  refine ⟨State.requestCommit_kept _ _ h.kept rfl, ?_, ?_⟩
  all_goals
    unfold State.requestCommit State.startCommit
    dsimp only
    split
  · exact FieldsKept.congr (FieldsKept.wr (h.fields.congr rfl) (.inl hf) 1) rfl
  · exact h.fields.congr rfl
  · exact h.saf
  · exact h.saf

theorem MonKept.forEach {a : Type} {f : State → a → State} {l : List a} (hf : ∀ u, ∀ x ∈ l, MonKept W p r u → MonKept W p r (f u x)) :
    MonKept W p r (t.forEach l f) :=
  State.forEach_induction h hf

theorem MonKept.when {c : Bool} {f : State → State} (hf : MonKept W p r (f t)) : MonKept W p r (t.when c f) := by
  unfold State.when
  split
  · exact hf
  · exact h

end

/-! ### What locks out, opens the curtains or slows down -/

/-- What the safety cycle has read, and what no fault, safety function or request changes: the monitor's state without the rest. -/
def Saf.sensed (x : Saf) : Saf :=
  { x with latch := false, differ := [], twoOut := false, discrepant := [], zeroSeen := [], passedA := [], passedB := [], incRef := none
           positions := [], faulty := [], ss1 := none, still := 0, slsHold := false, ramp := none, target := 0, slsRun := 0, sdiRef := 0
           slpStop := false, slpRecover := false, degEntry := 0, lost := none, second := false, goodSince := [], testTick := 0
           runReq := none, lastCode := 0, release := none, ack := none }

/-- The monitor's own state after an entry into LOCKOUT (R367). -/
def Saf.lockedOut (x : Saf) : Saf := { x with latch := true, ss1 := none, runReq := none, second := false, release := none, ack := none }

/-- The state with the registers of an entry into LOCKOUT by a fault code (R367). -/
def State.lockCaused (s : State) (code : Nat) : State :=
  let s := (s.setSaf 4).wr F.SAF_CAUSE_LOCK_SEQ 0 ((s.rd F.SAF_CAUSE_LOCK_SEQ + 1) % 65536)
  ((s.wr F.SAF_CAUSE_CODE 0 code).satAdd F.SAF_CNT_LOCKOUTS 0 1).wr F.SAF_STAT_DEG_LEFT_S 0 0

theorem State.lockOut_locked {s : State} (h : s.safState = 4) (code : Nat) : s.lockOut code = s := if_pos h

theorem State.lockOut_eq {s : State} (h : s.safState ≠ 4) (code : Nat) : s.lockOut code =
    ((s.lockCaused code).onSaf Saf.lockedOut).requestCommit commitLockout := if_neg h

/-- The fields in which a lock-out or another change of the monitor's state shows. -/
abbrev lockFields : List RegField :=
  [(F.SAF_STAT_STATE, 0), (F.SAF_STAT_FC_CLOSED, 0), (F.SAF_STAT_DEG_LEFT_S, 0), (F.SAF_CAUSE_LOCK_SEQ, 0), (F.SAF_CAUSE_CODE, 0),
    (F.SAF_CNT_LOCKOUTS, 0), (F.PWR_PB_STAT_BUSY, 0)]

/-- A footprint with room for a lock-out: its fields hold those of a lock-out, and its view shows no more than what the cycle has
read. -/
structure TakesLock {α : Type} (W : List RegField) (p : Saf → α) : Prop where
  fields : ∀ y ∈ lockFields, y ∈ W
  view : ∀ x y : Saf, x.sensed = y.sensed → p x = p y

theorem takesLock_sensed {W : List RegField} (hW : ∀ y ∈ lockFields, y ∈ W) : TakesLock W Saf.sensed := ⟨hW, fun _ _ h => h⟩

section
variable {α : Type} {W : List RegField} {p : Saf → α} {r t : State} (h : MonKept W p r t) (hl : TakesLock W p)
include h hl

theorem MonKept.onSensed {g : Saf → Saf} (hg : (g t.saf).sensed = t.saf.sensed := by rfl) : MonKept W p r (t.onSaf g) :=
  h.onSaf (hl.view _ _ hg)

theorem MonKept.faultReport (code : Nat) : MonKept W p r (t.safReport code) := h.safReport fun _ => hl.view _ _ rfl

theorem MonKept.enterState (n : Nat) : MonKept W p r (t.setSaf n) := h.setSaf (fun y hy => hl.fields y (by revert y; decide)) n

theorem MonKept.lockOut (code : Nat) : MonKept W p r (t.lockOut code) := by
  have hcause := ((h.enterState hl 4).wr (hl.fields (F.SAF_CAUSE_LOCK_SEQ, 0) (by decide))
    ((t.rd F.SAF_CAUSE_LOCK_SEQ + 1) % 65536)).wr (hl.fields (F.SAF_CAUSE_CODE, 0) (by decide)) code
  have hcounted : MonKept W p r (t.lockCaused code) := (hcause.satAdd (hl.fields (F.SAF_CNT_LOCKOUTS, 0) (by decide)) 1).wr
    (hl.fields (F.SAF_STAT_DEG_LEFT_S, 0) (by decide)) 0
  by_cases hlocked : t.safState = 4
  · rw [State.lockOut_locked hlocked]
    exact h
  · rw [State.lockOut_eq hlocked]
    exact (hcounted.onSensed hl (g := Saf.lockedOut)).requestCommit (hl.fields _ (by decide)) _

theorem MonKept.safLock (code : Nat) : MonKept W p r (t.safLock code) := (h.faultReport hl code).lockOut hl code

theorem MonKept.enterSto : MonKept W p r t.enterSto := by
  unfold State.enterSto
  split
  · exact ((h.enterState hl 0).wr (hl.fields _ (by decide)) 0).onSensed hl
  · exact h

theorem MonKept.enterSs1 : MonKept W p r t.enterSs1 := by
  unfold State.enterSs1
  split
  · exact ((h.enterState hl 2).wr (hl.fields _ (by decide)) 0).onSensed hl
  · exact h

theorem MonKept.voterDiffers (hv : (F.SAF_STAT_VOTERS, 0) ∈ W) (k : Nat) : MonKept W p r (t.voterDiffers k) := by
  unfold State.voterDiffers
  dsimp only
  split
  · exact h
  · split
    · exact (h.onSensed hl).safLock hl _
    · split
      · exact h.onSensed hl
      · exact ((h.onSensed hl).wr hv _).faultReport hl _

section
variable (hsel : (F.SAF_STAT_SLS_SEL, 0) ∈ W)
include hsel

theorem MonKept.enterDegraded (hcnt : (F.SAF_CNT_DEGRADED, 0) ∈ W) (elem : Nat) : MonKept W p r (t.enterDegraded elem) :=
  ((((h.enterState hl 3).satAdd hcnt 1).wr (hl.fields _ (by decide)) _).onSensed hl).followSls hsel fun _ _ _ => hl.view _ _ rfl

theorem MonKept.loseElement (hcnt : (F.SAF_CNT_DEGRADED, 0) ∈ W) (elem code : Nat) : MonKept W p r (t.loseElement elem code) := by
  have hseen := (h.faultReport hl code).onSensed hl (g := fun x => { x with goodSince := x.goodSince.set elem none })
  unfold State.loseElement
  dsimp only
  split
  · exact hseen.enterDegraded hl hsel hcnt elem
  · split
    · exact hseen.safLock hl _
    · exact hseen

theorem MonKept.sourceLost (hcnt : (F.SAF_CNT_DEGRADED, 0) ∈ W) (k : Nat) (wait : Bool) : MonKept W p r (t.sourceLost k wait) := by
  have hfaulty := h.onSensed hl (g := fun x => { x with faulty := x.faulty.set k true })
  unfold State.sourceLost
  dsimp only
  split
  · exact (hfaulty.faultReport hl _).onSensed hl
  · exact hfaulty.loseElement hl hsel hcnt _ _

end

end

/-! ### Fields that the monitor leaves -/

/-- The fields that a safety cycle writes beside those of the safe inputs. -/
abbrev monitorFields : List RegField :=
  lockFields ++ [(F.SAF_STAT_VOTERS, 0), (F.SAF_STAT_VAUX_OK, 0), (F.SAF_STAT_INC_OK, 0), (F.SAF_STAT_SSI_OK, 0),
    (F.SAF_STAT_SLS_SEL, 0), (F.SAF_STAT_RESET_STUCK, 0), (F.SAF_CNT_DEGRADED, 0), (F.SAF_POS_MDEG, 0), (F.SAF_SPEED_MDEG_S, 0)]

/-- The fields that the safe inputs write in a safety cycle. -/
abbrev inputFields : List RegField :=
  (F.SAF_CNT_INPUT_FAULTS, 0) ::
    (List.range 8).flatMap fun i => [(F.SAF_SI_STAT_A, i), (F.SAF_SI_STAT_B, i), (F.SAF_SI_STAT_LOCKED, i)]

abbrev cycleFields : List RegField := monitorFields ++ inputFields

theorem cycleFields_place : ∀ y ∈ cycleFields, y.1.addr y.2 < 0x300100 := by decide

theorem cycleFields_safety : ∀ y ∈ cycleFields, 0x300000 ≤ y.1.addr y.2 ∧ y.1.addr y.2 < 0x340000 ∨ y.1.addr y.2 = F.PWR_PB_STAT := by
  decide

/-- The active set and the sensors' registers stay (R373, R386). -/
theorem MonKept.config {α : Type} {W : List RegField} {p : Saf → α} {r t : State} (h : MonKept W p r t)
    (hW : ∀ y ∈ W, y ∈ cycleFields) {f : Fld} {i : Nat} (hlo : 0x300100 ≤ f.addr i) (hhi : f.addr i < 0x380000) :
    t.rd f i = r.rd f i :=
  h.rd ⟨.inr (by omega), hhi⟩ fun y hy => .inl fun e => by
    have hplace := cycleFields_place y (hW y hy)
    dsimp only at e
    omega

end Sys2Proof.Machine
end


section
/-! SUPPORT. The state of the safety monitor through its operations (R351, R358, R365 to R367). -/

namespace Sys2Proof.Machine

/-! ### The state that an operation enters -/

section
variable {s : State} (h : tableWf coldWord s.regs = true)
include h

theorem State.safState_setSaf {n : Nat} (hn : n < 8) : (s.setSaf n).safState = n :=
  (State.rd_wr_ne (State.wf_wr h _ _ _) F.SAF_STAT_FC_CLOSED F.SAF_STAT_STATE 0 0 _ (by decide)).trans
    ((State.rd_wr h F.SAF_STAT_STATE 0 n (by decide)).trans (Nat.mod_eq_of_lt hn))

theorem State.closed_setSaf (n : Nat) : (s.setSaf n).rd F.SAF_STAT_FC_CLOSED = if closedIn n then s.rd F.SAF_FC_EN else 0 := by
  refine (State.rd_wr (State.wf_wr h _ _ _) F.SAF_STAT_FC_CLOSED 0 _ (by decide)).trans (Nat.mod_eq_of_lt ?_)
  have hen : s.rd F.SAF_FC_EN < 2 ^ 2 := getField_lt _ _ _
  change _ < 2 ^ 2
  split <;> omega

/-- The curtains' state goes over to n, with no second left of DEGRADED. -/
theorem FieldsKept.setSaf_left (n : Nat) : FieldsKept [(F.SAF_STAT_DEG_LEFT_S, 0)] (s.setSaf n) ((s.setSaf n).wr F.SAF_STAT_DEG_LEFT_S 0 0) :=
  (FieldsKept.refl (State.wf_wr (State.wf_wr h _ _ _) _ _ _) _).wr (.inl List.mem_cons_self) 0

theorem State.safState_enterSto : s.enterSto.safState = if closedIn s.safState then 0 else s.safState := by
  rw [State.enterSto]
  split
  · exact (((FieldsKept.setSaf_left h 0).congr rfl).same (F.SAF_STAT_STATE, 0) (by decide) (by decide)).trans
      (State.safState_setSaf h (by decide))
  · rfl

theorem State.safState_enterSs1 : s.enterSs1.safState = if s.safState = 1 ∨ s.safState = 3 then 2 else s.safState := by
  rw [State.enterSs1]
  split
  · exact (((FieldsKept.setSaf_left h 2).congr rfl).same (F.SAF_STAT_STATE, 0) (by decide) (by decide)).trans
      (State.safState_setSaf h (by decide))
  · rfl

end

theorem State.enterSto_open {s : State} (h : closedIn s.safState = false) : s.enterSto = s := if_neg (by simp [h])

theorem closedIn_of_ne {n : Nat} (h : closedIn n = false) : n ≠ 1 ∧ n ≠ 2 ∧ n ≠ 3 := by
  simp only [closedIn, Bool.or_eq_false_iff, beq_eq_false_iff_ne] at h
  exact ⟨h.1.1, h.1.2, h.2⟩

/-! ### The standing of the monitor -/

/-- What of the monitor's own state tells where it stands: latch, SS1, request, SLP stop and lost element. -/
abbrev Saf.standing (x : Saf) : Bool × Option (Nat × Int) × Option Nat × Bool × Option Nat :=
  (x.latch, x.ss1, x.runReq, x.slpStop, x.lost)

abbrev standingFields : List Fld := [F.SAF_STAT_STATE, F.SAF_STAT_FC_CLOSED, F.SAF_CAUSE_CODE, F.SAF_CAUSE_LOCK_SEQ]

/-- t's monitor stands where that of r does. -/
structure SameStanding (r t : State) : Prop where
  fields : ∀ f ∈ standingFields, t.rd f 0 = r.rd f 0
  saf : t.saf.standing = r.saf.standing

section
variable {r t u : State}

theorem SameStanding.refl (r : State) : SameStanding r r := ⟨fun _ _ => rfl, rfl⟩

theorem SameStanding.trans (h : SameStanding r t) (g : SameStanding t u) : SameStanding r u :=
  ⟨fun f hf => (g.fields f hf).trans (h.fields f hf), g.saf.trans h.saf⟩

theorem SameStanding.safState (h : SameStanding r t) : t.safState = r.safState := h.fields _ (by decide)

theorem SameStanding.lockedBy (g : SameStanding t u) {code : Nat} (h : r.lockedBy t code) : r.lockedBy u code := by
  obtain ⟨hstate, hclosed, hcode, hseq, hlatch, hss1, hreq⟩ := h
  have hsaf := g.saf
  simp only [Prod.mk.injEq] at hsaf
  obtain ⟨hl, hs, hr, -, -⟩ := hsaf
  exact ⟨g.safState.trans hstate, (g.fields _ (by decide)).trans hclosed, (g.fields _ (by decide)).trans hcode,
    (g.fields _ (by decide)).trans hseq, hl.trans hlatch, hs.trans hss1, hr.trans hreq⟩

/-- Operations that write no field of the standing leave it. -/
theorem MonKept.standing {α : Type} {W : List RegField} {p : Saf → α} (h : MonKept W p r t)
    (hW : ∀ f ∈ standingFields, ∀ y ∈ W, FieldsApart (f, 0) y) (hp : ∀ x y, p x = p y → x.standing = y.standing) : SameStanding r t :=
  ⟨fun f hf => h.rd (by revert f; decide) (hW f hf), hp _ _ h.saf⟩

end

theorem State.safReport_standing {s : State} (hs : s.Sound) (code : Nat) : SameStanding s (s.safReport code) :=
  ((MonKept.refl hs [] Saf.standing).safReport fun _ => rfl).standing (by simp) fun _ _ h => h

/-! ### Lock-outs (R367) -/

theorem State.requestCommit_saf (s : State) (kind : Nat) : (s.requestCommit kind).saf = s.saf := by
  unfold State.requestCommit State.startCommit
  dsimp only
  split <;> rfl

/-- The fields that an entry into LOCKOUT counts and shows beside the standing. -/
abbrev lockCountFields : List RegField := [(F.SAF_CNT_LOCKOUTS, 0), (F.SAF_STAT_DEG_LEFT_S, 0), (F.PWR_PB_STAT_BUSY, 0)]

/-- What follows the cause in an entry into LOCKOUT: the count, the monitor's own state and the commit. -/
theorem MonKept.lockCounted {W : List RegField} (hW : ∀ y ∈ lockCountFields, y ∈ W) {r t : State} (h : MonKept W (fun _ => ()) r t) :
    MonKept W (fun _ => ()) r ((((t.satAdd F.SAF_CNT_LOCKOUTS 0 1).wr F.SAF_STAT_DEG_LEFT_S 0 0).onSaf Saf.lockedOut).requestCommit
      commitLockout) := by
  have hcounted := h.satAdd (hW (F.SAF_CNT_LOCKOUTS, 0) (by decide)) 1
  have hleft := hcounted.wr (hW (F.SAF_STAT_DEG_LEFT_S, 0) (by decide)) 0
  exact (hleft.onSaf (g := Saf.lockedOut)).requestCommit (hW _ (by decide)) _

/-- A state other than LOCKOUT is left with the code, the next LOCK_SEQ and open curtains. -/
theorem State.Sound.lockOut_lockedBy {s : State} (hs : s.Sound) (h : s.safState ≠ 4) {code : Nat} (hcode : code < 65536) :
    s.lockedBy (s.lockOut code) code := by
  have hset : (s.setSaf 4).Sound := (State.setSaf_kept s 4 (hs.kept 4) rfl).sound
  obtain ⟨u, hu⟩ : ∃ u, u = (s.setSaf 4).wr F.SAF_CAUSE_LOCK_SEQ 0 ((s.rd F.SAF_CAUSE_LOCK_SEQ + 1) % 65536) := ⟨_, rfl⟩
  have hus : u.Sound := hu ▸ (State.wr_kept _ _ _ _ (hset.kept 4) rfl).sound
  have hvs : (u.wr F.SAF_CAUSE_CODE 0 code).Sound := (State.wr_kept _ _ _ _ (hus.kept 4) rfl).sound
  have heq : s.lockOut code = (((((u.wr F.SAF_CAUSE_CODE 0 code).satAdd F.SAF_CNT_LOCKOUTS 0 1).wr F.SAF_STAT_DEG_LEFT_S 0 0).onSaf
      Saf.lockedOut).requestCommit commitLockout) := by
    rw [State.lockOut_eq h, hu]
    rfl
  have hstate : MonKept ((F.SAF_CAUSE_LOCK_SEQ, 0) :: (F.SAF_CAUSE_CODE, 0) :: lockCountFields) (fun _ => ()) (s.setSaf 4)
      (s.lockOut code) := by
    have hseq := (MonKept.refl hset ((F.SAF_CAUSE_LOCK_SEQ, 0) :: (F.SAF_CAUSE_CODE, 0) :: lockCountFields) fun _ => ()).wr
      (f := F.SAF_CAUSE_LOCK_SEQ) (i := 0) (by decide) ((s.rd F.SAF_CAUSE_LOCK_SEQ + 1) % 65536)
    rw [heq, hu]
    exact (hseq.wr (f := F.SAF_CAUSE_CODE) (i := 0) (by decide) code).lockCounted (by decide)
  have hseq : MonKept ((F.SAF_CAUSE_CODE, 0) :: lockCountFields) (fun _ => ()) u (s.lockOut code) :=
    heq ▸ ((MonKept.refl hus _ _).wr (f := F.SAF_CAUSE_CODE) (i := 0) (by decide) code).lockCounted (by decide)
  have hcause : MonKept lockCountFields (fun _ => ()) (u.wr F.SAF_CAUSE_CODE 0 code) (s.lockOut code) :=
    heq ▸ (MonKept.refl hvs _ _).lockCounted (by decide)
  have hsaf : (s.lockOut code).saf = s.saf.lockedOut := by
    rw [heq, State.requestCommit_saf, hu]
    rfl
  refine ⟨(hstate.rd (by decide) (by decide)).trans (State.safState_setSaf hs.regs (by decide)),
    (hstate.rd (by decide) (by decide)).trans (State.closed_setSaf hs.regs 4),
    (hcause.rd (by decide) (by decide)).trans ((State.rd_wr hus.regs _ _ _ (by decide)).trans (Nat.mod_eq_of_lt hcode)),
    (hseq.rd (by decide) (by decide)).trans ?_, ?_, ?_, ?_⟩
  · rw [hu]
    exact (State.rd_wr hset.regs _ _ _ (by decide)).trans (Nat.mod_mod _ _)
  all_goals
    rw [hsaf]
    rfl

theorem State.Sound.safLock_lockedBy {s : State} (hs : s.Sound) (h : s.safState ≠ 4) {code : Nat} (hcode : code < 65536) :
    s.lockedBy (s.safLock code) code := by
  have hreport := s.safReport_standing hs code
  have hsound : (s.safReport code).Sound := (State.safReport_kept s code (hs.kept 8389126) rfl).sound
  obtain ⟨hstate, hclosed, hcode, hseq, hown⟩ := hsound.lockOut_lockedBy (by rwa [hreport.safState]) hcode
  exact ⟨hstate, hclosed, hcode, hseq.trans (by rw [hreport.fields _ (by decide)]), hown⟩

theorem State.Sound.safLock_locked {s : State} (hs : s.Sound) (h : s.safState = 4) (code : Nat) : SameStanding s (s.safLock code) := by
  have hreport := s.safReport_standing hs code
  rw [State.safLock, State.lockOut_locked (hreport.safState.trans h)]
  exact hreport

/-! ### Open curtains -/

/-- With open curtains the monitor has stood still, or it has locked out. -/
def StaysOpen (r t : State) : Prop := SameStanding r t ∨ r.safState ≠ 4 ∧ t.safState = 4 ∧ t.rd F.SAF_STAT_FC_CLOSED = 0

section
variable {r t u : State}

theorem StaysOpen.trans (h : StaysOpen r t) (g : StaysOpen t u) : StaysOpen r u := by
  rcases h with h | ⟨hr, ht, hclosed⟩
  · rcases g with g | ⟨ht, hu, hclosed⟩
    · exact .inl (h.trans g)
    · exact .inr ⟨h.safState ▸ ht, hu, hclosed⟩
  · rcases g with g | ⟨hne, -⟩
    · exact .inr ⟨hr, g.safState.trans ht, (g.fields _ (by decide)).trans hclosed⟩
    · exact absurd ht hne

/-- LOCKOUT stays. -/
theorem StaysOpen.locked (h : StaysOpen r t) (hr : r.safState = 4) : SameStanding r t := h.resolve_right fun hn => hn.1 hr

theorem StaysOpen.closedIn (h : StaysOpen r t) (hr : closedIn r.safState = false) : closedIn t.safState = false := by
  rcases h with h | ⟨-, ht, -⟩
  · rwa [h.safState]
  · rw [ht]
    rfl

theorem StaysOpen.closed (h : StaysOpen r t) (hr : r.rd F.SAF_STAT_FC_CLOSED = 0) : t.rd F.SAF_STAT_FC_CLOSED = 0 := by
  rcases h with h | ⟨-, -, hclosed⟩
  · exact (h.fields _ (by decide)).trans hr
  · exact hclosed

end

theorem State.Sound.safLock_open {s : State} (hs : s.Sound) {code : Nat} (hcode : code < 65536) : StaysOpen s (s.safLock code) := by
  by_cases h : s.safState = 4
  · exact .inl (hs.safLock_locked h code)
  · obtain ⟨hstate, hclosed, -⟩ := hs.safLock_lockedBy h hcode
    exact .inr ⟨h, hstate, hclosed⟩

theorem State.Sound.safLock_state {s : State} (hs : s.Sound) {code : Nat} (hcode : code < 65536) : (s.safLock code).safState = 4 := by
  by_cases h : s.safState = 4
  · exact (hs.safLock_locked h code).safState.trans h
  · exact (hs.safLock_lockedBy h hcode).1

/-- A view of the monitor's own state that shows the standing. -/
theorem State.onSaf_standing {s : State} {g : Saf → Saf} (hg : (g s.saf).standing = s.saf.standing := by rfl) :
    SameStanding s (s.onSaf g) := ⟨fun _ _ => rfl, hg⟩

theorem State.Sound.voterDiffers_open {s : State} (hs : s.Sound) (k : Nat) : StaysOpen s (s.voterDiffers k) := by
  have hon (g : Saf → Saf) : (s.onSaf g).Sound := (State.onSaf_kept s g (hs.kept 8388608) rfl).sound
  have hout {u : State} (hu : u.Sound) (v : Nat) : SameStanding u ((u.wr F.SAF_STAT_VOTERS 0 v).safReport 0x5601) :=
    (((MonKept.refl hu [(F.SAF_STAT_VOTERS, 0)] Saf.standing).wr List.mem_cons_self v).safReport fun _ => rfl).standing
      (by decide) fun _ _ h => h
  unfold State.voterDiffers
  dsimp only
  split
  · exact .inl (.refl s)
  · split
    · exact StaysOpen.trans (.inl State.onSaf_standing) ((hon _).safLock_open (by decide))
    · split
      · exact .inl State.onSaf_standing
      · exact .inl (SameStanding.trans State.onSaf_standing (hout (hon _) _))

/-- With open curtains an element that is lost changes nothing of the standing (R366). -/
theorem State.Sound.loseElement_open {s : State} (hs : s.Sound) (h : closedIn s.safState = false) (elem code : Nat) :
    SameStanding s (s.loseElement elem code) := by
  have hseen := ((MonKept.refl hs [] Saf.standing).safReport (code := code) fun _ => rfl).onSaf
    (g := fun x => { x with goodSince := x.goodSince.set elem none })
  have hstanding : SameStanding s _ := hseen.standing (by simp) fun _ _ h => h
  obtain ⟨h1, -, h3⟩ := closedIn_of_ne h
  unfold State.loseElement
  dsimp only
  rw [if_neg (by rwa [hstanding.safState]), if_neg fun hc => h3 (hstanding.safState ▸ hc.1)]
  exact hstanding

theorem State.Sound.sourceLost_open {s : State} (hs : s.Sound) (h : closedIn s.safState = false) (k : Nat) (wait : Bool) :
    SameStanding s (s.sourceLost k wait) := by
  have hfaulty : MonKept [] Saf.standing s (s.onSaf fun x => { x with faulty := x.faulty.set k true }) :=
    (MonKept.refl hs _ _).onSaf
  unfold State.sourceLost
  dsimp only
  split
  · exact ((hfaulty.safReport fun _ => rfl).onSaf).standing (by simp) fun _ _ h => h
  · have hstanding : SameStanding s _ := hfaulty.standing (by simp) fun _ _ h => h
    exact hstanding.trans (hfaulty.sound.loseElement_open h _ _)

end Sys2Proof.Machine
end


section
/-! SUPPORT. The safe inputs in a safety cycle (R352 to R354): what the filter of each channel leaves, whatever the other inputs do. -/

namespace Sys2Proof.Machine

/-! ### What an input is judged by -/

/-- The fields of an input: its channels, its lock and its configuration (R352, R373). -/
abbrev ownInputFields : List Fld :=
  [F.SAF_SI_STAT_A, F.SAF_SI_STAT_B, F.SAF_SI_STAT_LOCKED, F.SAF_SI_CFG_FUNC, F.SAF_SI_CFG_TP_EN, F.SAF_SI_CFG_FILTER_MS]

/-- From s to t input i is as it was: its fields, the test pulses' times, the tick, its filter's runs and what it read in the cycle. -/
structure InputLeft (i : Nat) (s t : State) : Prop where
  own : ∀ f ∈ ownInputFields, t.rd f i = s.rd f i
  pulse : ∀ f ∈ [F.SAF_TP_WIDTH_US, F.SAF_TP_PERIOD_MS], t.rd f 0 = s.rd f 0
  tick : t.clk.tick = s.clk.tick
  runs : ∀ c < 2, t.saf.runs.getD (8 * c + i) 0 = s.saf.runs.getD (8 * c + i) 0
  low : t.saf.low.getD i false = s.saf.low.getD i false
  length : t.saf.low.length = s.saf.low.length

theorem ownInputFields_main : ∀ i < 8, ∀ f ∈ ownInputFields, MainAddr (f.addr i) := by decide

theorem ownInputFields_apart : ∀ i < 8, ∀ f ∈ ownInputFields, ∀ y ∈ monitorFields, FieldsApart (f, i) y := by decide +kernel

/-- The channels of input i. -/
abbrev channelFields (i : Nat) : List RegField := [(F.SAF_SI_STAT_A, i), (F.SAF_SI_STAT_B, i)]

/-- The lock of input i, and the count of locks. -/
abbrev lockedFields (i : Nat) : List RegField := [(F.SAF_SI_STAT_LOCKED, i), (F.SAF_CNT_INPUT_FAULTS, 0)]

theorem takenFields_input : ∀ i < 8, ∀ y ∈ channelFields i ++ lockedFields i, y ∈ inputFields := by decide +kernel

theorem otherInput_apart : ∀ i < 8, ∀ j < 8, j ≠ i → ∀ f ∈ ownInputFields, ∀ y ∈ channelFields i ++ lockedFields i,
    FieldsApart (f, j) y := by decide +kernel

theorem locked_apart : ∀ i < 8, ∀ y ∈ channelFields i, FieldsApart (F.SAF_SI_STAT_LOCKED, i) y := by decide

theorem channels_apart : ∀ i < 8, ∀ f ∈ [F.SAF_SI_STAT_A, F.SAF_SI_STAT_B], ∀ y ∈ lockedFields i, FieldsApart (f, i) y := by decide

section
variable {i : Nat} {s t u : State}

theorem InputLeft.refl (i : Nat) (s : State) : InputLeft i s s :=
  ⟨fun _ _ => rfl, fun _ _ => rfl, rfl, fun _ _ => rfl, rfl, rfl⟩

theorem InputLeft.trans (h : InputLeft i s t) (g : InputLeft i t u) : InputLeft i s u :=
  ⟨fun f hf => (g.own f hf).trans (h.own f hf), fun f hf => (g.pulse f hf).trans (h.pulse f hf), g.tick.trans h.tick,
    fun c hc => (g.runs c hc).trans (h.runs c hc), g.low.trans h.low, g.length.trans h.length⟩

variable (h : InputLeft i s t)
include h

theorem InputLeft.rdB {f : Fld} (hf : f ∈ ownInputFields) : t.rdB f i = s.rdB f i := by rw [State.rdB, State.rdB, h.own f hf]

theorem InputLeft.inputSamples (xs : List (BitVec 16)) : t.inputSamples i xs = s.inputSamples i xs := by
  have hmasked (us : Nat) : t.masked us = s.masked us := by
    rw [State.masked, State.masked, h.pulse _ (by decide), h.pulse _ (by decide)]
  simp only [State.inputSamples, h.rdB (f := F.SAF_SI_CFG_TP_EN) (by decide), hmasked, h.tick]

/-- The filter of a channel starts and ends as it would from s. -/
theorem InputLeft.filterChannel {c : Nat} (hc : c < 2) (xs : List (BitVec 16)) : t.filterChannel i c xs = s.filterChannel i c xs := by
  have hlevel : t.rdB (if c = 0 then F.SAF_SI_STAT_A else F.SAF_SI_STAT_B) i =
      s.rdB (if c = 0 then F.SAF_SI_STAT_A else F.SAF_SI_STAT_B) i := h.rdB (by split <;> decide)
  simp only [State.filterChannel, hlevel, h.inputSamples, h.runs c hc, h.own F.SAF_SI_CFG_FILTER_MS (by decide)]

theorem InputLeft.inputEff : t.inputEff i = s.inputEff i := by
  simp only [State.inputEff, h.rdB (f := F.SAF_SI_STAT_A) (by decide), h.rdB (f := F.SAF_SI_STAT_B) (by decide),
    h.rdB (f := F.SAF_SI_STAT_LOCKED) (by decide)]

end

/-- What leaves the fields and the readings of an input leaves the input. -/
theorem MonKept.inputLeft {α : Type} {W : List RegField} {p : Saf → α} {r t : State} (h : MonKept W p r t) (hW : ∀ y ∈ W, y ∈ cycleFields)
    {i : Nat} (hi : i < 8) (hown : ∀ f ∈ ownInputFields, ∀ y ∈ W, FieldsApart (f, i) y)
    (hruns : ∀ c < 2, t.saf.runs.getD (8 * c + i) 0 = r.saf.runs.getD (8 * c + i) 0)
    (hlow : t.saf.low.getD i false = r.saf.low.getD i false) (hlength : t.saf.low.length = r.saf.low.length) : InputLeft i r t :=
  ⟨fun f hf => h.rd (ownInputFields_main i hi f hf) (hown f hf), fun f hf => h.config hW (by revert f; decide) (by revert f; decide),
    congrArg Clk.tick h.clk, hruns, hlow, hlength⟩

/-- Faults, position sources, safety functions and requests leave every input. -/
theorem MonKept.inputsLeft {α : Type} {W : List RegField} {p : Saf → α} {r t : State} (h : MonKept W p r t) (hW : ∀ y ∈ W, y ∈ monitorFields)
    (hp : ∀ x y, p x = p y → (x.runs, x.low) = (y.runs, y.low)) {i : Nat} (hi : i < 8) : InputLeft i r t := by
  have hsame := hp _ _ h.saf
  rw [Prod.mk.injEq] at hsame
  obtain ⟨hruns, hlow⟩ := hsame
  exact h.inputLeft (fun y hy => List.mem_append_left _ (hW y hy)) hi (fun f hf y hy => ownInputFields_apart i hi f hf y (hW y hy))
    (fun _ _ => by rw [hruns]) (by rw [hlow]) (by rw [hlow])

/-! ### An input in its cycle -/

/-- From s to t input i has had its cycle with the samples xs: its channels read as their filters leave them, it notes whether one
read 0, and it does not lock while both read 1. -/
structure InputTaken (xs : List (BitVec 16)) (i : Nat) (s t : State) : Prop where
  levelA : t.rdB F.SAF_SI_STAT_A i = (s.filterChannel i 0 xs).level
  levelB : t.rdB F.SAF_SI_STAT_B i = (s.filterChannel i 1 xs).level
  low : i < s.saf.low.length → t.saf.low.getD i false = ((s.filterChannel i 0 xs).low || (s.filterChannel i 1 xs).low)
  unlocked : (s.filterChannel i 0 xs).level = true → (s.filterChannel i 1 xs).level = true →
    s.rdB F.SAF_SI_STAT_LOCKED i = false → t.rdB F.SAF_SI_STAT_LOCKED i = false

/-- Input i has its cycle, and the other inputs stay. -/
structure InputStep (xs : List (BitVec 16)) (i : Nat) (s t : State) : Prop where
  sound : t.Sound
  taken : InputTaken xs i s t
  others : ∀ j < 8, j ≠ i → InputLeft j s t

section
variable {xs : List (BitVec 16)} {i : Nat} {s t u : State}

theorem InputTaken.of_left (h : InputTaken xs i t u) (g : InputLeft i s t) : InputTaken xs i s u := by
  obtain ⟨ha, hb, hlow, hunlocked⟩ := h
  rw [g.filterChannel (by decide)] at ha hb hlow hunlocked
  rw [g.filterChannel (by decide)] at hlow hunlocked
  rw [g.length] at hlow
  rw [g.rdB (by decide)] at hunlocked
  exact ⟨ha, hb, hlow, hunlocked⟩

theorem InputTaken.left (h : InputTaken xs i s t) (g : InputLeft i t u) : InputTaken xs i s u :=
  ⟨(g.rdB (by decide)).trans h.levelA, (g.rdB (by decide)).trans h.levelB, fun hi => g.low.trans (h.low hi),
    fun ha hb hl => (g.rdB (by decide)).trans (h.unlocked ha hb hl)⟩

end

/-- The inputs of a list have their cycles one after another, and the others stay. -/
theorem State.Sound.forEach_inputs {xs : List (BitVec 16)} {f : State → Nat → State}
    (hf : ∀ (s : State) (i : Nat), s.Sound → i < 8 → InputStep xs i s (f s i)) {l : List Nat} (hl : l.Nodup) (hlt : ∀ i ∈ l, i < 8)
    {s : State} (hs : s.Sound) : (∀ i ∈ l, InputTaken xs i s (s.forEach l f)) ∧ ∀ j < 8, j ∉ l → InputLeft j s (s.forEach l f) := by
  induction l generalizing s with
  | nil => exact ⟨fun _ hi => absurd hi List.not_mem_nil, fun j _ _ => .refl j s⟩
  | cons i l ih =>
    obtain ⟨hil, hl⟩ := List.nodup_cons.1 hl
    obtain ⟨hi, hlt⟩ := List.forall_mem_cons.1 hlt
    have hstep := hf s i hs hi
    obtain ⟨htaken, hleft⟩ := ih hl hlt hstep.sound
    refine ⟨fun j hj => ?_, fun j hj hjl => ?_⟩
    · rcases List.mem_cons.1 hj with rfl | hj
      · exact hstep.taken.left (hleft j hi hil)
      · exact (htaken j hj).of_left (hstep.others j (hlt j hj) fun e => hil (e ▸ hj))
    · rw [List.mem_cons, not_or] at hjl
      exact (hstep.others j hj hjl.1).trans (hleft j hj hjl.2)

/-! ### The filter alone (R348, R352) -/

/-- The monitor's own state without the runs of the filters and what the inputs read. -/
def Saf.sansFilters (x : Saf) : Saf := { x with runs := [], low := [] }

/-- The filter's runs and what was read in the cycle, after input i. -/
def Saf.filtered (x : Saf) (i : Nat) (a b : Filtered) : Saf :=
  { x with runs := (x.runs.set i a.run).set (8 + i) b.run, low := x.low.set i (a.low || b.low) }

theorem Saf.filtered_others {x : Saf} {i j : Nat} (hi : i < 8) (hj : j < 8) (hji : j ≠ i) (a b : Filtered) :
    (∀ c < 2, (x.filtered i a b).runs.getD (8 * c + j) 0 = x.runs.getD (8 * c + j) 0) ∧
      (x.filtered i a b).low.getD j false = x.low.getD j false ∧ (x.filtered i a b).low.length = x.low.length :=
  ⟨fun c _ => (getD_set_ne _ (by omega) _ _).trans (getD_set_ne _ (by omega) _ _), getD_set_ne _ hji _ _, List.length_set⟩

section
variable {s : State} (hs : s.Sound) {i : Nat} (xs : List (BitVec 16))

theorem State.filterInput_saf : (s.filterInput i xs).saf = s.saf.filtered i (s.filterChannel i 0 xs) (s.filterChannel i 1 xs) := rfl

include hs

theorem State.Sound.filterInput_kept : MonKept (channelFields i) Saf.sansFilters s (s.filterInput i xs) := by
  unfold State.filterInput
  exact (((MonKept.refl hs _ _).wrB List.mem_cons_self _).wrB (List.mem_cons_of_mem _ List.mem_cons_self) _).onSaf

theorem State.Sound.filterInput_levels : (s.filterInput i xs).rdB F.SAF_SI_STAT_A i = (s.filterChannel i 0 xs).level ∧
    (s.filterInput i xs).rdB F.SAF_SI_STAT_B i = (s.filterChannel i 1 xs).level := by
  have hwa : tableWf coldWord (s.wrB F.SAF_SI_STAT_A i (s.filterChannel i 0 xs).level).regs = true := State.wf_wr hs.regs _ _ _
  exact ⟨(congrArg (· == 1) (State.rd_wr_ne hwa F.SAF_SI_STAT_B F.SAF_SI_STAT_A i i _ (.inr (by decide)))).trans
    (State.rdB_wrB hs.regs _ _ (by decide) rfl _), State.rdB_wrB hwa F.SAF_SI_STAT_B i (by decide) rfl _⟩

theorem State.Sound.filterInput_locked (hi : i < 8) :
    (s.filterInput i xs).rdB F.SAF_SI_STAT_LOCKED i = s.rdB F.SAF_SI_STAT_LOCKED i :=
  congrArg (· == 1) ((hs.filterInput_kept xs).rd (ownInputFields_main i hi _ (by decide)) (locked_apart i hi))

/-- An input that runs its filter, and what writes its lock alone after that, make its cycle. -/
theorem State.Sound.filterInput_step (hi : i < 8) {t : State}
    (h : MonKept (lockedFields i) (fun x => (x.runs, x.low)) (s.filterInput i xs) t)
    (hunlocked : (s.filterChannel i 0 xs).level = true → (s.filterChannel i 1 xs).level = true →
      s.rdB F.SAF_SI_STAT_LOCKED i = false → t.rdB F.SAF_SI_STAT_LOCKED i = false) : InputStep xs i s t := by
  obtain ⟨hlevelA, hlevelB⟩ := hs.filterInput_levels (i := i) xs
  have hsame := h.saf
  rw [State.filterInput_saf, Prod.mk.injEq] at hsame
  obtain ⟨hruns, hlow⟩ := hsame
  have hall : MonKept (channelFields i ++ lockedFields i) (fun _ => ()) s t :=
    ((hs.filterInput_kept xs).mono (fun y hy => List.mem_append_left _ hy) fun _ _ _ => rfl).trans
      (h.mono (fun y hy => List.mem_append_right _ hy) fun _ _ _ => rfl)
  refine ⟨h.sound, ⟨?_, ?_, fun hlt => ?_, hunlocked⟩, fun j hj hji => ?_⟩
  · exact (congrArg (· == 1) (h.rd (ownInputFields_main i hi _ (by decide)) (channels_apart i hi _ (by decide)))).trans hlevelA
  · exact (congrArg (· == 1) (h.rd (ownInputFields_main i hi _ (by decide)) (channels_apart i hi _ (by decide)))).trans hlevelB
  · rw [hlow]
    exact getD_set_same hlt _ _
  · obtain ⟨hothers, hread, hlength⟩ := Saf.filtered_others (x := s.saf) hi hj hji (s.filterChannel i 0 xs) (s.filterChannel i 1 xs)
    refine hall.inputLeft (fun y hy => List.mem_append_right _ (takenFields_input i hi y hy)) hj (otherInput_apart i hi j hj hji) ?_ ?_ ?_
    · rwa [hruns]
    · rwa [hlow]
    · rwa [hlow]

end

/-! ### Discrepancies and locks (R354) -/

/-- The monitor's own state without the discrepancies of the inputs and the faults reported. -/
def Saf.sansDiscrepancies (x : Saf) : Saf :=
  { x with discrepant := [], zeroSeen := [], passedA := [], passedB := [], lastCode := 0 }

section
variable {r t : State} {i : Nat} (h : MonKept (lockedFields i) Saf.sansDiscrepancies r t)
include h

theorem MonKept.lockInput (code : Nat) : MonKept (lockedFields i) Saf.sansDiscrepancies r (t.lockInput i code) := by
  unfold State.lockInput
  exact (((h.safReport fun _ => rfl).wr List.mem_cons_self 1).satAdd (List.mem_cons_of_mem _ List.mem_cons_self) 1).onSaf

theorem MonKept.checkDiscrepancy (a b : Bool) : MonKept (lockedFields i) Saf.sansDiscrepancies r (t.checkDiscrepancy i a b) := by
  have hcounted {u : State} (hu : MonKept (lockedFields i) Saf.sansDiscrepancies r u) (c : Prop) [Decidable c] (n : Nat) :
      MonKept (lockedFields i) Saf.sansDiscrepancies r
        (if c then u.lockInput i (0x5100 + i) else u.onSaf fun x => { x with discrepant := x.discrepant.set i n }) := by
    split
    · exact hu.lockInput _
    · exact hu.onSaf
  unfold State.checkDiscrepancy
  dsimp only
  split
  · exact h.onSaf
  · split
    · exact h
    · split
      · exact hcounted (h.freeBelow 2) _ _
      · exact hcounted h _ _

theorem MonKept.tryUnlock : MonKept (lockedFields i) Saf.sansDiscrepancies r (t.tryUnlock i) := by
  unfold State.tryUnlock
  dsimp only
  split
  · exact ((h.wr List.mem_cons_self 0).conditionOver _ _).conditionOver _ _
  · exact h

end

/-- An unlocked input has nothing to unlock. -/
theorem State.tryUnlock_unlocked {s : State} {i : Nat} (h : s.rdB F.SAF_SI_STAT_LOCKED i = false) : s.tryUnlock i = s :=
  if_neg (by simp [h])

/-- What follows the filter of input i in its cycle. -/
def State.inputJudged (s : State) (i : Nat) : State :=
  let a := s.rdB F.SAF_SI_STAT_A i
  let b := s.rdB F.SAF_SI_STAT_B i
  let s := s.checkDiscrepancy i a b
  let s := if !a && !b then s.onSaf fun x => { x with zeroSeen := x.zeroSeen.set i true } else s
  s.tryUnlock i

theorem State.takeInput_eq (s : State) (i : Nat) (xs : List (BitVec 16)) : s.takeInput i xs = (s.filterInput i xs).inputJudged i := rfl

/-- Where both channels read 1, an unlocked input stays unlocked. -/
theorem State.inputJudged_unlocked {s : State} {i : Nat} (ha : s.rdB F.SAF_SI_STAT_A i = true) (hb : s.rdB F.SAF_SI_STAT_B i = true)
    (hl : s.rdB F.SAF_SI_STAT_LOCKED i = false) : (s.inputJudged i).rdB F.SAF_SI_STAT_LOCKED i = false := by
  have hagree : s.checkDiscrepancy i true true = s.onSaf fun x => { x with discrepant := x.discrepant.set i 0 } := if_pos rfl
  have hnothing : s.inputJudged i = (s.checkDiscrepancy i true true).tryUnlock i := by
    rw [State.inputJudged, ha, hb]
    rfl
  rw [hnothing, hagree, State.tryUnlock_unlocked (by exact hl)]
  exact hl

section
variable {s : State} (hs : s.Sound) {i : Nat}
include hs

theorem State.Sound.inputJudged_kept : MonKept (lockedFields i) Saf.sansDiscrepancies s (s.inputJudged i) := by
  have hchecked := (MonKept.refl hs _ _).checkDiscrepancy (i := i) (s.rdB F.SAF_SI_STAT_A i) (s.rdB F.SAF_SI_STAT_B i)
  unfold State.inputJudged
  dsimp only
  split
  · exact hchecked.onSaf.tryUnlock
  · exact hchecked.tryUnlock

theorem State.Sound.takeInput_step (xs : List (BitVec 16)) (hi : i < 8) : InputStep xs i s (s.takeInput i xs) := by
  have hfiltered := hs.filterInput_kept (i := i) xs
  obtain ⟨hlevelA, hlevelB⟩ := hs.filterInput_levels (i := i) xs
  rw [s.takeInput_eq i xs]
  refine hs.filterInput_step xs hi (hfiltered.sound.inputJudged_kept.mono (fun _ hy => hy)
    fun _ _ h => (congrArg (fun x : Saf => (x.runs, x.low)) h :)) fun ha hb hl => ?_
  exact State.inputJudged_unlocked (hlevelA.trans ha) (hlevelB.trans hb) ((hs.filterInput_locked xs hi).trans hl)

theorem State.Sound.filterInput_alone (xs : List (BitVec 16)) (hi : i < 8) : InputStep xs i s (s.filterInput i xs) :=
  hs.filterInput_step xs hi (.refl (hs.filterInput_kept xs).sound _ _) fun _ _ hl => (hs.filterInput_locked xs hi).trans hl

end

/-! ### All inputs -/

/-- The monitor's own state without what the inputs' cycles change in it. -/
def Saf.sansInputs (x : Saf) : Saf := x.sansFilters.sansDiscrepancies

theorem State.Sound.takeInputs_kept {s : State} (hs : s.Sound) (xs : List (BitVec 16)) :
    MonKept inputFields Saf.sansInputs s (s.forEach (List.range 8) fun s i => s.takeInput i xs) := by
  refine (MonKept.refl hs _ _).forEach fun u i hi h => h.trans ?_
  have hfields := takenFields_input i (List.mem_range.1 hi)
  rw [u.takeInput_eq i xs]
  have hfiltered := h.sound.filterInput_kept (i := i) xs
  exact (hfiltered.mono (fun y hy => hfields y (List.mem_append_left _ hy)) fun _ _ h => congrArg Saf.sansDiscrepancies h).trans
    (hfiltered.sound.inputJudged_kept.mono (fun y hy => hfields y (List.mem_append_right _ hy)) fun _ _ h => congrArg Saf.sansFilters h)

end Sys2Proof.Machine
end


section
/-! SUPPORT. What the cycle reads beside the inputs: position sources (R355 to R357, R365), VAUX24 (R360) and the readback of the
curtains (R359). -/

namespace Sys2Proof.Machine

/-! ### Position sources -/

/-- The monitor's own state without the count, the alignment and the faults of the sources. -/
def Saf.sansAlignment (x : Saf) : Saf :=
  { x with encoder := 0, incRef := none, zRef := none, ssiLast := none, faulty := [], goodSince := [] }

/-- The monitor's own state without the positions of the last cycles. -/
def Saf.sansPositions (x : Saf) : Saf := { x with positions := [] }

/-- The same, and without the cycles in which the positions were apart. -/
def Saf.sansMotion (x : Saf) : Saf := { x with positions := [], apart := 0 }

/-- The monitor's own state without what the position sources' readings change in it. -/
def Saf.sansSources (x : Saf) : Saf := x.sansAlignment.sansMotion

/-- The fields in which the verdict on the sources shows. -/
abbrev sourceOkFields : List RegField := [(F.SAF_STAT_INC_OK, 0), (F.SAF_STAT_SSI_OK, 0)]

/-- The fields in which position and speed show. -/
abbrev motionFields : List RegField := [(F.SAF_POS_MDEG, 0), (F.SAF_SPEED_MDEG_S, 0)]

/-- The state in which both sources are judged good or faulty. -/
def State.sourcesJudged (s : State) (x : SafetySeen) : State :=
  (s.takeSource 0 (s.incFault x)).takeSource 1 (s.ssiFault x.ssi x.line)

/-- p_ssi of the cycle (R356). -/
def State.ssiPosition (s : State) (x : SafetySeen) : Int × State :=
  (s.sourcesJudged x).freeDiv (((s.ssiFrame x.ssi).1 : Int) * 360000) (2 ^ (s.sourcesJudged x).rd F.SAF_SSI_ST_BITS)

/-- The count and the alignment of the cycle (R355, R357). -/
def Saf.aligned (s : State) (x : SafetySeen) (y : Saf) : Saf :=
  { y with encoder := s.saf.encoder + x.up - x.down, ssiLast := some (s.ssiFrame x.ssi).1
           zRef := if y.zRef.isNone && !s.incFault x then s.zCount x else y.zRef
           incRef := if y.incRef.isNone && !s.incFault x && !s.ssiFault x.ssi x.line then
             some (s.saf.encoder + x.up - x.down, (s.ssiPosition x).1) else y.incRef }

theorem Saf.sansAlignment_aligned (s : State) (x : SafetySeen) (y : Saf) : (Saf.aligned s x y).sansAlignment = y.sansAlignment := rfl

theorem Saf.encoder_aligned (s : State) (x : SafetySeen) (y : Saf) : (Saf.aligned s x y).encoder = s.saf.encoder + x.up - x.down := rfl

def State.sourcesAligned (s : State) (x : SafetySeen) : State := (s.ssiPosition x).2.onSaf (Saf.aligned s x)

/-- p_inc of the cycle (R357). -/
def State.incPosition (s : State) (x : SafetySeen) : Int × State := (s.sourcesAligned x).pInc (s.saf.encoder + x.up - x.down)

/-- Do the two positions differ by more than the tolerance while both sources are good (R357)? -/
def State.positionsApart (s : State) (x : SafetySeen) : Bool :=
  !s.incFault x && !s.ssiFault x.ssi x.line &&
    decide ((s.incPosition x).2.rd F.SAF_POS_TOL_MDEG < ((s.incPosition x).1 - (s.ssiPosition x).1).natAbs)

def State.sourcesCompared (s : State) (x : SafetySeen) : State :=
  (s.incPosition x).2.onSaf fun y => { y with apart := if s.positionsApart x then y.apart + 1 else 0 }

/-- Position p and the speed over the last four cycles are shown (R357). -/
def State.motionShown (s : State) (p : Int) : State :=
  let old := s.saf.positions
  let s := s.onSaf fun x => { x with positions := (p :: old).take 4 }
  let pv := s.show32 p
  let vv := pv.2.show32 ((p - old.getD 3 (old.getLastD p)) * 250)
  (vv.2.wr F.SAF_POS_MDEG 0 pv.1).wr F.SAF_SPEED_MDEG_S 0 vv.1

/-- The state with the readings of the position sources. -/
def State.sourcesRead (s : State) (x : SafetySeen) : State :=
  (s.sourcesCompared x).motionShown (if s.incFault x then (s.ssiPosition x).1 else (s.incPosition x).1)

/-- Source k is lost under a condition (R365, R366). -/
def State.lostIf (s : State) (b : Bool) (k : Nat) (wait : Bool) : State := if b then s.sourceLost k wait else s

/-- Positions apart for a third cycle lock out (R357). -/
def State.apartLocked (s : State) : State := if s.saf.apart = 3 then s.safLock 0x5203 else s

/-- What follows the sources that are lost in a cycle, and positions that stay apart. -/
def State.sourcesActed (s : State) (newSsi newInc : Bool) : State :=
  ((s.lostIf newSsi 1 false).lostIf newInc 0 (newSsi && s.safState == 1)).apartLocked

theorem State.takeSources_eq (s : State) (x : SafetySeen) : s.takeSources x =
    (s.sourcesRead x).sourcesActed (s.ssiFault x.ssi x.line && !s.saf.faulty.getD 1 false)
      (s.incFault x && !s.saf.faulty.getD 0 false) := rfl

/-! ### What the readings leave -/

section
variable {α : Type} {W : List RegField} {p : Saf → α} {r t : State} (h : MonKept W p r t)
include h

theorem MonKept.takeSource {k : Nat} (hf : (if k = 0 then F.SAF_STAT_INC_OK else F.SAF_STAT_SSI_OK, 0) ∈ W)
    (hp : ∀ x y : Saf, x.sansAlignment = y.sansAlignment → p x = p y) (bad : Bool) : MonKept W p r (t.takeSource k bad) := by
  have hgood {u : State} (hu : MonKept W p r u) (e : Nat) : MonKept W p r (u.elementGood e) := by
    refine hu.onSaf (hp _ _ ?_)
    split <;> rfl
  unfold State.takeSource
  dsimp only
  split
  · exact h.wrB hf _
  · exact (hgood ((h.wrB hf _).onSaf (hp _ _ rfl)) _).conditionOver _ _

theorem MonKept.motionShown (hf : ∀ y ∈ motionFields, y ∈ W) (hp : ∀ x y : Saf, x.sansPositions = y.sansPositions → p x = p y) (n : Int) :
    MonKept W p r (t.motionShown n) :=
  ((((h.onSaf (hp _ _ rfl)).show32 _).show32 _).wr (hf _ (by decide)) _).wr (hf _ (by decide)) _

end

theorem State.takeSource_regs (s : State) (k : Nat) (bad : Bool) : (s.takeSource k bad).regs =
    (s.wrB (if k = 0 then F.SAF_STAT_INC_OK else F.SAF_STAT_SSI_OK) 0 !bad).regs := by
  unfold State.takeSource
  dsimp only
  split <;> rfl

section
variable {s : State} (hs : s.Sound) (x : SafetySeen)
include hs

theorem State.Sound.sourcesJudged_kept : MonKept sourceOkFields Saf.sansAlignment s (s.sourcesJudged x) :=
  ((MonKept.refl hs _ _).takeSource (k := 0) (by decide) (fun _ _ h => h) _).takeSource (k := 1) (by decide) (fun _ _ h => h) _

theorem State.Sound.sourcesJudged_ok : (s.sourcesJudged x).rdB F.SAF_STAT_INC_OK = (!s.incFault x) ∧
    (s.sourcesJudged x).rdB F.SAF_STAT_SSI_OK = (!s.ssiFault x.ssi x.line) := by
  have hinc := (MonKept.refl hs sourceOkFields Saf.sansAlignment).takeSource (k := 0) (by decide) (fun _ _ h => h) (s.incFault x)
  have hssi := (MonKept.refl hinc.sound [(F.SAF_STAT_SSI_OK, 0)] Saf.sansAlignment).takeSource (k := 1) (by decide)
    (fun _ _ h => h) (s.ssiFault x.ssi x.line)
  refine ⟨(congrArg (· == 1) (hssi.rd (f := F.SAF_STAT_INC_OK) (by decide) (by decide))).trans ?_, ?_⟩
  · exact (congrArg (· == 1) (State.rd_of_regs (s.takeSource_regs 0 _) F.SAF_STAT_INC_OK 0)).trans
      (State.rdB_wrB hs.regs _ _ (by decide) rfl _)
  · exact (congrArg (· == 1) (State.rd_of_regs (State.takeSource_regs _ 1 _) F.SAF_STAT_SSI_OK 0)).trans
      (State.rdB_wrB hinc.sound.regs _ _ (by decide) rfl _)

theorem State.Sound.ssiPosition_kept : MonKept [] id (s.sourcesJudged x) (s.ssiPosition x).2 :=
  (MonKept.refl (hs.sourcesJudged_kept x).sound _ _).freeDiv _ _

theorem State.Sound.sourcesAligned_kept : MonKept [] Saf.sansAlignment (s.ssiPosition x).2 (s.sourcesAligned x) :=
  (MonKept.refl (hs.ssiPosition_kept x).sound _ _).onSaf (Saf.sansAlignment_aligned s x _)

theorem State.Sound.incPosition_kept : MonKept [] id (s.sourcesAligned x) (s.incPosition x).2 :=
  (MonKept.refl (hs.sourcesAligned_kept x).sound _ _).pInc _

/-- From the verdict on the sources to p_inc only the count and the alignment change. -/
theorem State.Sound.judged_incPosition : MonKept [] Saf.sansAlignment (s.sourcesJudged x) (s.incPosition x).2 :=
  (((hs.ssiPosition_kept x).mono (fun _ hy => hy) fun _ _ h => congrArg Saf.sansAlignment h).trans (hs.sourcesAligned_kept x)).trans
    ((hs.incPosition_kept x).mono (fun _ hy => hy) fun _ _ h => congrArg Saf.sansAlignment h)

theorem State.Sound.incPosition_encoder : (s.incPosition x).2.saf.encoder = s.saf.encoder + x.up - x.down :=
  (congrArg Saf.encoder (hs.incPosition_kept x).saf :).trans (Saf.encoder_aligned s x _)

/-- The readings of the sources leave the rest, count the edges, show what each source is, and count the cycles apart. -/
theorem State.Sound.sourcesRead_outcome : MonKept (sourceOkFields ++ motionFields) Saf.sansSources s (s.sourcesRead x) ∧
    (s.sourcesRead x).saf.encoder = s.saf.encoder + x.up - x.down ∧
    (s.sourcesRead x).rdB F.SAF_STAT_INC_OK = (!s.incFault x) ∧
    (s.sourcesRead x).rdB F.SAF_STAT_SSI_OK = (!s.ssiFault x.ssi x.line) ∧ (s.sourcesRead x).saf.apart ≤ s.saf.apart + 1 := by
  have hpos := (hs.sourcesJudged_kept x).trans ((hs.judged_incPosition x).mono (by simp) fun _ _ h => h)
  have hcompared : MonKept [] Saf.sansMotion (s.incPosition x).2 (s.sourcesCompared x) := (MonKept.refl hpos.sound _ _).onSaf
  have hshown : MonKept motionFields Saf.sansPositions (s.sourcesCompared x) (s.sourcesRead x) :=
    (MonKept.refl hcompared.sound _ _).motionShown (fun _ hy => hy) (fun _ _ h => h) _
  have hmotion : MonKept motionFields Saf.sansMotion (s.incPosition x).2 (s.sourcesRead x) :=
    (hcompared.mono (by simp) fun _ _ h => h).trans (hshown.mono (fun _ hy => hy) fun _ _ h => (congrArg Saf.sansMotion h :))
  obtain ⟨hinc, hssi⟩ := hs.sourcesJudged_ok x
  have hjudged : MonKept motionFields (fun _ => ()) (s.sourcesJudged x) (s.sourcesRead x) :=
    ((hs.judged_incPosition x).mono (by simp) fun _ _ _ => rfl).trans
      (hmotion.mono (fun _ hy => hy) fun _ _ _ => rfl)
  refine ⟨(hpos.mono (fun _ hy => List.mem_append_left _ hy) fun _ _ h => congrArg Saf.sansMotion h).trans
      (hmotion.mono (fun _ hy => List.mem_append_right _ hy) fun _ _ h => congrArg Saf.sansAlignment h),
    (hmotion.seen (q := Saf.encoder) fun _ _ h => (congrArg Saf.encoder h :)).trans (hs.incPosition_encoder x),
    (congrArg (· == 1) (hjudged.rd (by decide) (by decide))).trans hinc,
    (congrArg (· == 1) (hjudged.rd (by decide) (by decide))).trans hssi, ?_⟩
  have hapart : (s.sourcesRead x).saf.apart = (s.sourcesCompared x).saf.apart := (hshown.seen (q := Saf.apart) fun _ _ h => (congrArg Saf.apart h :))
  have hbefore : (s.incPosition x).2.saf.apart = s.saf.apart := (hpos.seen (q := Saf.apart) fun _ _ h => (congrArg Saf.apart h :))
  rw [hapart, ← hbefore]
  change (if s.positionsApart x then _ else 0) ≤ _
  split
  · exact Nat.le_refl _
  · exact Nat.zero_le _

end

/-! ### What the sources' faults lead to -/

/-- The fields that a fault of a source may write. -/
abbrev sourceFaultFields : List RegField := lockFields ++ [(F.SAF_STAT_SLS_SEL, 0), (F.SAF_CNT_DEGRADED, 0)]

section
variable {s : State} (hs : s.Sound)
include hs

theorem State.Sound.lostIf_kept (b : Bool) (k : Nat) (wait : Bool) : MonKept sourceFaultFields Saf.sensed s (s.lostIf b k wait) := by
  unfold State.lostIf
  split
  · exact (MonKept.refl hs _ _).sourceLost (takesLock_sensed (by decide)) (by decide) (by decide) k wait
  · exact .refl hs _ _

theorem State.Sound.lostIf_open (h : closedIn s.safState = false) (b : Bool) (k : Nat) (wait : Bool) :
    SameStanding s (s.lostIf b k wait) := by
  unfold State.lostIf
  split
  · exact hs.sourceLost_open h k wait
  · exact .refl s

theorem State.Sound.apartLocked_kept : MonKept sourceFaultFields Saf.sensed s s.apartLocked := by
  unfold State.apartLocked
  split
  · exact (MonKept.refl hs _ _).safLock (takesLock_sensed (by decide)) _
  · exact .refl hs _ _

theorem State.Sound.apartLocked_open : StaysOpen s s.apartLocked := by
  unfold State.apartLocked
  split
  · exact hs.safLock_open (by decide)
  · exact .inl (.refl s)

theorem State.Sound.sourcesActed_kept (newSsi newInc : Bool) :
    MonKept sourceFaultFields Saf.sensed s (s.sourcesActed newSsi newInc) := by
  have hssi := hs.lostIf_kept newSsi 1 false
  have hinc := hssi.trans (hssi.sound.lostIf_kept newInc 0 (newSsi && s.safState == 1))
  exact hinc.trans hinc.sound.apartLocked_kept

/-- With open curtains the sources' faults lead to nothing but a lock-out. -/
theorem State.Sound.sourcesActed_open (h : closedIn s.safState = false) (newSsi newInc : Bool) :
    StaysOpen s (s.sourcesActed newSsi newInc) := by
  have hssi := hs.lostIf_kept newSsi 1 false
  have hsame := hs.lostIf_open h newSsi 1 false
  have hinc := hssi.sound.lostIf_kept newInc 0 (newSsi && s.safState == 1)
  have hboth := hsame.trans (hssi.sound.lostIf_open (hsame.safState ▸ h) newInc 0 (newSsi && s.safState == 1))
  exact StaysOpen.trans (.inl hboth) hinc.sound.apartLocked_open

omit hs in
theorem State.sourcesActed_quiet (h : s.saf.apart ≠ 3) : s.sourcesActed false false = s := if_neg h

variable (x : SafetySeen)

theorem State.Sound.takeSources_kept : MonKept monitorFields (fun y => y.sansSources.sensed) s (s.takeSources x) ∧
    (s.takeSources x).saf.encoder = s.saf.encoder + x.up - x.down := by
  obtain ⟨hread, hencoder, -⟩ := hs.sourcesRead_outcome x
  have hacted := hread.sound.sourcesActed_kept (s.ssiFault x.ssi x.line && !s.saf.faulty.getD 1 false)
    (s.incFault x && !s.saf.faulty.getD 0 false)
  rw [s.takeSources_eq x]
  exact ⟨(hread.mono (by decide) fun _ _ h => congrArg Saf.sensed h).trans
    (hacted.mono (by decide) fun _ _ h => congrArg Saf.sansSources h), (hacted.seen (q := Saf.encoder) fun _ _ h => (congrArg Saf.encoder h :)).trans hencoder⟩

theorem State.Sound.takeSources_open (h : closedIn s.safState = false) : StaysOpen s (s.takeSources x) := by
  obtain ⟨hread, -⟩ := hs.sourcesRead_outcome x
  have hsame : SameStanding s (s.sourcesRead x) := hread.standing (by decide) fun _ _ h => (congrArg Saf.standing h :)
  rw [s.takeSources_eq x]
  exact StaysOpen.trans (.inl hsame) (hread.sound.sourcesActed_open (hsame.safState ▸ h) _ _)

/-- Two good sources whose positions have not been apart for two cycles change nothing of the standing. -/
theorem State.Sound.takeSources_good (hinc : s.incFault x = false) (hssi : s.ssiFault x.ssi x.line = false) (hapart : s.saf.apart < 2) :
    SameStanding s (s.takeSources x) ∧ (s.takeSources x).rdB F.SAF_STAT_INC_OK = true ∧
      (s.takeSources x).rdB F.SAF_STAT_SSI_OK = true := by
  obtain ⟨hread, -, hincOk, hssiOk, hcycles⟩ := hs.sourcesRead_outcome x
  have heq : s.takeSources x = s.sourcesRead x := by
    rw [s.takeSources_eq x, hinc, hssi]
    exact State.sourcesActed_quiet (by omega)
  rw [hinc] at hincOk
  rw [hssi] at hssiOk
  rw [heq]
  exact ⟨hread.standing (by decide) fun _ _ h => (congrArg Saf.standing h :), hincOk, hssiOk⟩

end

/-! ### VAUX24 (R360) -/

/-- The monitor's own state without what VAUX24 changes in it. -/
def Saf.sansVaux (x : Saf) : Saf := { x with vaux := 0, vauxOut := 0 }

section
variable {s : State} (hs : s.Sound) (v : Nat)

theorem State.takeVaux_inside (h : 1920 ≤ v ∧ v ≤ 3000) : s.takeVaux v =
    (((s.onSaf fun x => { x with vaux := v }).wr F.SAF_STAT_VAUX_OK 0 1).onSaf fun x => { x with vauxOut := 0 }) := if_pos h

/-- The state in which a cycle with VAUX24 out of range is counted. -/
def State.vauxCounted (s : State) (v : Nat) : State :=
  (s.onSaf fun x => { x with vaux := v }).onSaf fun x => { x with vauxOut := x.vauxOut + 1 }

theorem State.takeVaux_outside (h : ¬ (1920 ≤ v ∧ v ≤ 3000)) : s.takeVaux v =
    if s.saf.vauxOut + 1 < 2 then s.vauxCounted v else ((s.vauxCounted v).wr F.SAF_STAT_VAUX_OK 0 0).enterSto := if_neg h

include hs

theorem State.Sound.takeVaux_kept :
    MonKept ((F.SAF_STAT_VAUX_OK, 0) :: lockFields) (fun x => x.sansVaux.sensed) s (s.takeVaux v) ∧ (s.takeVaux v).saf.vaux = v := by
  have hcounted : MonKept ((F.SAF_STAT_VAUX_OK, 0) :: lockFields) (fun x => x.sansVaux.sensed) s (s.vauxCounted v) :=
    ((MonKept.refl hs _ _).onSaf (g := fun x => { x with vaux := v })).onSaf
  by_cases h : 1920 ≤ v ∧ v ≤ 3000
  · rw [s.takeVaux_inside v h]
    have hseen : MonKept ((F.SAF_STAT_VAUX_OK, 0) :: lockFields) (fun x => x.sansVaux.sensed) s (s.onSaf fun x => { x with vaux := v }) :=
      (MonKept.refl hs _ _).onSaf
    exact ⟨(hseen.wr List.mem_cons_self 1).onSaf, rfl⟩
  · rw [s.takeVaux_outside v h]
    split
    · exact ⟨hcounted, rfl⟩
    · have hwritten := hcounted.wr (f := F.SAF_STAT_VAUX_OK) (i := 0) List.mem_cons_self 0
      have hsto := (MonKept.refl hwritten.sound lockFields Saf.sensed).enterSto (takesLock_sensed fun _ hy => hy)
      exact ⟨hwritten.trans (hsto.mono (fun _ hy => List.mem_cons_of_mem _ hy) fun _ _ h => congrArg Saf.sansVaux h),
        (hsto.seen (q := Saf.vaux) fun _ _ h => (congrArg Saf.vaux h :))⟩

/-- VAUX24 in range changes nothing of the standing. -/
theorem State.Sound.takeVaux_good (h : 1920 ≤ v ∧ v ≤ 3000) : SameStanding s (s.takeVaux v) ∧
    (s.takeVaux v).rdB F.SAF_STAT_VAUX_OK = true := by
  have hseen : (s.onSaf fun x => { x with vaux := v }).Sound := (State.onSaf_kept s _ (hs.kept 8388608) rfl).sound
  have hok : MonKept [(F.SAF_STAT_VAUX_OK, 0)] Saf.standing (s.onSaf fun x => { x with vaux := v }) (s.takeVaux v) := by
    rw [s.takeVaux_inside v h]
    exact ((MonKept.refl hseen _ _).wr List.mem_cons_self 1).onSaf
  refine ⟨SameStanding.trans State.onSaf_standing (hok.standing (by decide) fun _ _ h => h), ?_⟩
  rw [s.takeVaux_inside v h]
  exact State.rdB_wrB hseen.regs F.SAF_STAT_VAUX_OK 0 (by decide) rfl true

/-- Open curtains stay open whatever VAUX24 is. -/
theorem State.Sound.takeVaux_open (h : closedIn s.safState = false) : SameStanding s (s.takeVaux v) := by
  by_cases hv : 1920 ≤ v ∧ v ≤ 3000
  · exact (hs.takeVaux_good v hv).1
  · have hcounted : MonKept [(F.SAF_STAT_VAUX_OK, 0)] Saf.standing s (s.vauxCounted v) :=
      ((MonKept.refl hs _ _).onSaf (g := fun x => { x with vaux := v })).onSaf
    have hwritten := hcounted.wr (f := F.SAF_STAT_VAUX_OK) (i := 0) List.mem_cons_self 0
    have hsame : SameStanding s _ := hwritten.standing (by decide) fun _ _ h => h
    rw [s.takeVaux_outside v hv]
    split
    · exact hcounted.standing (by decide) fun _ _ h => h
    · rw [State.enterSto_open (by rwa [hsame.safState])]
      exact hsame

/-- A second cycle out of range opens the curtains. -/
theorem State.Sound.takeVaux_second (hv : ¬ (1920 ≤ v ∧ v ≤ 3000)) (hn : 1 ≤ s.saf.vauxOut) :
    closedIn (s.takeVaux v).safState = false ∧ (s.takeVaux v).rdB F.SAF_STAT_VAUX_OK = false := by
  have hcounted : MonKept [(F.SAF_STAT_VAUX_OK, 0)] (fun _ => ()) s (s.vauxCounted v) :=
    ((MonKept.refl hs _ _).onSaf (g := fun x => { x with vaux := v })).onSaf
  have hwritten := hcounted.wr (f := F.SAF_STAT_VAUX_OK) (i := 0) List.mem_cons_self 0
  have hsto := (MonKept.refl hwritten.sound lockFields Saf.sensed).enterSto (takesLock_sensed fun _ hy => hy)
  rw [s.takeVaux_outside v hv, if_neg (by omega)]
  refine ⟨?_, (congrArg (· == 1) (hsto.rd (by decide) (by decide))).trans ?_⟩
  · rw [State.safState_enterSto hwritten.sound.regs]
    split
    · rfl
    · next hopen => simpa using hopen
  · exact State.rdB_wrB hcounted.sound.regs F.SAF_STAT_VAUX_OK 0 (by decide) rfl false

end

/-! ### Readback (R359) -/

/-- The monitor's own state without the curtains that failed a readback. -/
def Saf.sansReadback (x : Saf) : Saf := { x with fcBad := 0 }

/-- The curtains that fail the readback of this cycle. -/
def State.readbackBad (s : State) (balls : List (Nat × Nat)) : Nat := if s.rd F.SAF_STAT_FC_CLOSED = 0 then s.notOff balls else 0

theorem State.takeReadback_eq (s : State) (balls : List (Nat × Nat)) : s.takeReadback balls =
    (s.onSaf fun x => { x with fcBad := s.readbackBad balls }).forEach
      ((List.range 2).filter fun n => (s.readbackBad balls).testBit n && !s.saf.fcBad.testBit n) State.curtainFault := rfl

section
variable {s : State} (hs : s.Sound) (balls : List (Nat × Nat))
include hs

theorem State.Sound.takeReadback_kept : MonKept lockFields (fun x => x.sansReadback.sensed) s (s.takeReadback balls) := by
  have hl : TakesLock lockFields Saf.sensed := takesLock_sensed fun _ hy => hy
  rw [s.takeReadback_eq balls]
  refine MonKept.forEach (MonKept.onSaf (.refl hs _ _)) fun u n _ h => h.trans ?_
  exact ((MonKept.refl h.sound _ _).safLock hl _).mono (fun _ hy => hy) fun _ _ h => congrArg Saf.sansReadback h

/-- A readback leads to nothing but a lock-out. -/
theorem State.Sound.takeReadback_open : StaysOpen s (s.takeReadback balls) := by
  have hseen : (s.onSaf fun x => { x with fcBad := s.readbackBad balls }).Sound := (State.onSaf_kept s _ (hs.kept 8388608) rfl).sound
  rw [s.takeReadback_eq balls]
  refine (State.forEach_induction (P := fun u => u.Sound ∧ StaysOpen s u) ⟨hseen, .inl State.onSaf_standing⟩ fun u n hn h => ?_).2
  obtain ⟨hu, hopen⟩ := h
  have hlt := List.mem_range.1 (List.mem_of_mem_filter hn)
  exact ⟨(State.safLock_kept _ _ (hu.kept 25166342) rfl).sound, hopen.trans (hu.safLock_open (by omega))⟩

omit hs in
/-- With every ball off nothing of the standing changes. -/
theorem State.takeReadback_off (h : s.notOff balls = 0) : SameStanding s (s.takeReadback balls) := by
  have hnone : s.readbackBad balls = 0 := by
    rw [State.readbackBad, h, ite_self]
  rw [s.takeReadback_eq balls, hnone]
  simp only [Nat.zero_testBit, Bool.false_and, List.filter_false]
  exact State.onSaf_standing (g := fun x => { x with fcBad := 0 })

/-- A ball that is newly not off, with every curtain open, locks out. -/
theorem State.Sound.takeReadback_locks (hclosed : s.rd F.SAF_STAT_FC_CLOSED = 0) {n : Nat} (hn : n < 2)
    (hbad : (s.notOff balls).testBit n = true) (hfresh : s.saf.fcBad.testBit n = false) : (s.takeReadback balls).safState = 4 := by
  have hseen : (s.onSaf fun x => { x with fcBad := s.readbackBad balls }).Sound := (State.onSaf_kept s _ (hs.kept 8388608) rfl).sound
  have hmem : n ∈ (List.range 2).filter fun n => (s.readbackBad balls).testBit n && !s.saf.fcBad.testBit n := by
    rw [List.mem_filter, State.readbackBad, if_pos hclosed, hbad, hfresh]
    exact ⟨List.mem_range.2 hn, rfl⟩
  rw [s.takeReadback_eq balls]
  cases hl : (List.range 2).filter fun n => (s.readbackBad balls).testBit n && !s.saf.fcBad.testBit n with
  | nil => rw [hl] at hmem; exact absurd hmem List.not_mem_nil
  | cons k l =>
    have hlt (m : Nat) (hm : m ∈ k :: l) : m < 2 := List.mem_range.1 (List.mem_of_mem_filter (hl ▸ hm))
    have hlock {u : State} (hu : u.Sound) {m : Nat} (hm : m < 2) : (u.curtainFault m).Sound ∧ (u.curtainFault m).safState = 4 :=
      ⟨(State.safLock_kept _ _ (hu.kept 25166342) rfl).sound, hu.safLock_state (by omega)⟩
    exact (State.forEach_induction (P := fun u => u.Sound ∧ u.safState = 4) (hlock hseen (hlt k List.mem_cons_self))
      fun u m hm h => hlock h.1 (hlt m (List.mem_cons_of_mem _ hm))).2

end

end Sys2Proof.Machine
end


section
/-! SUPPORT. Safety functions (R358, R366), requests (R363) and SAFE_RESET (R368) in a safety cycle. -/

namespace Sys2Proof.Machine

/-! ### Operations that slow down or stop -/

/-- The fields that the safety functions may write. -/
abbrev functionFields : List RegField := lockFields ++ [(F.SAF_STAT_SLS_SEL, 0)]

theorem takesLock_functions : TakesLock functionFields Saf.sensed := takesLock_sensed (by decide)

/-- From r to t the safety functions may have acted: the state is as it was, STO or SS1. -/
structure Slows (r t : State) : Prop where
  kept : MonKept functionFields Saf.sensed r t
  state : t.safState = r.safState ∨ t.safState = 0 ∨ t.safState = 2

section
variable {r t u : State}

theorem Slows.refl (h : r.Sound) : Slows r r := ⟨.refl h _ _, .inl rfl⟩

variable (h : Slows r t)
include h

/-- What writes no field of a lock-out keeps the state. -/
theorem Slows.of_kept {W : List RegField} (hW : ∀ y ∈ W, y ∈ functionFields ∧ FieldsApart (F.SAF_STAT_STATE, 0) y)
    (g : MonKept W Saf.sensed t u) : Slows r u :=
  ⟨h.kept.trans (g.mono (fun y hy => (hW y hy).1) fun _ _ h => h), by
    have hsame : u.safState = t.safState := g.rd (by decide) fun y hy => (hW y hy).2
    rw [hsame]
    exact h.state⟩

theorem Slows.onSaf {g : Saf → Saf} (hg : (g t.saf).sensed = t.saf.sensed := by rfl) : Slows r (t.onSaf g) :=
  ⟨h.kept.onSaf hg, h.state⟩

theorem Slows.enterSto : Slows r t.enterSto := by
  refine ⟨h.kept.enterSto takesLock_functions, ?_⟩
  rw [State.safState_enterSto h.kept.sound.regs]
  split
  · exact .inr (.inl rfl)
  · exact h.state

theorem Slows.enterSs1 : Slows r t.enterSs1 := by
  refine ⟨h.kept.enterSs1 takesLock_functions, ?_⟩
  rw [State.safState_enterSs1 h.kept.sound.regs]
  split
  · exact .inr (.inr rfl)
  · exact h.state

theorem Slows.when {c : Bool} {f : State → State} (hf : Slows r (f t)) : Slows r (t.when c f) := by
  unfold State.when
  split
  · exact hf
  · exact h

theorem Slows.checkSdi : Slows r t.checkSdi := by
  unfold State.checkSdi
  dsimp only
  split
  · split
    · exact h.onSaf.enterSto
    · exact h.onSaf
  · split
    · split
      · exact h.onSaf.enterSto
      · exact h.onSaf
    · exact h

theorem Slows.checkSlp : Slows r t.checkSlp := by
  have hstop (back : Bool) (kept : Prop) [Decidable kept] : Slows r (if kept then t.onSaf fun x => { x with slpRecover := back }
      else ((t.onSaf fun x => { x with slpRecover := back }).onSaf fun x => { x with slpStop := true }).enterSs1) := by
    have hback : Slows r (t.onSaf fun x => { x with slpRecover := back }) := h.onSaf
    split
    · exact hback
    · exact hback.onSaf.enterSs1
  unfold State.checkSlp
  dsimp only
  split
  · exact h
  · exact hstop _ _

theorem Slows.followSls : Slows r t.followSls :=
  h.of_kept (W := [(F.SAF_STAT_SLS_SEL, 0)]) (by decide)
    ((MonKept.refl h.kept.sound _ _).followSls List.mem_cons_self fun _ _ _ => rfl)

theorem Slows.checkSls : Slows r t.checkSls := by
  have hact (n : Nat) (react : Prop) [Decidable react] : Slows r (if n < 2 then t.followSls.onSaf fun x => { x with slsRun := n }
      else if react then (t.followSls.onSaf fun x => { x with slsRun := n }).enterSto
      else (t.followSls.onSaf fun x => { x with slsRun := n }).enterSs1) := by
    have hrun : Slows r (t.followSls.onSaf fun x => { x with slsRun := n }) := h.followSls.onSaf
    split
    · exact hrun
    · split
      · exact hrun.enterSto
      · exact hrun.enterSs1
  unfold State.checkSls
  exact hact _ _

theorem Slows.checkSs1 : Slows r t.checkSs1 := by
  have hact (n : Nat) (outside ended : Prop) [Decidable outside] [Decidable ended] :
      Slows r (if outside then (t.onSaf fun x => { x with still := n }).enterSto
        else if ended then (t.onSaf fun x => { x with still := n }).enterSto else t.onSaf fun x => { x with still := n }) := by
    have hstill : Slows r (t.onSaf fun x => { x with still := n }) := h.onSaf
    split
    · exact hstill.enterSto
    · split
      · exact hstill.enterSto
      · exact hstill
  unfold State.checkSs1
  split
  · exact h
  · exact hact _ _ _

end

/-! ### The functions of a cycle -/

/-- A demand of function SLS holds the lowest limit (R352, R358). -/
def State.slsHeld (s : State) : State := if s.inputDemand 3 then s.onSaf fun x => { x with slsHold := true } else s

/-- STO is entered under a condition, and SS1. -/
def State.stoIf (s : State) (b : Bool) : State := if b then s.enterSto else s

def State.ss1If (s : State) (b : Bool) : State := if b then s.enterSs1 else s

/-- The demands for STO act (R352, R383). -/
def State.stoMet (s : State) : State := s.slsHeld.stoIf (s.slsHeld.inputDemand 1 || s.slsHeld.sensorDemand 1)

/-- The demands of inputs and sensors act (R352, R383). -/
def State.demandsMet (s : State) : State := s.stoMet.ss1If (s.stoMet.inputDemand 2 || s.stoMet.sensorDemand 0)

/-- SDI, SLP, SLS and SS1 watch position and speed (R358). -/
def State.motionWatched (s : State) : State :=
  let s := s.when (closedIn s.safState) State.checkSdi
  let s := s.when (closedIn s.safState) State.checkSlp
  let s := s.when (closedIn s.safState) State.checkSls
  s.when (s.safState == 2) State.checkSs1

/-- DEGRADED expires, or shows the seconds left (R366). -/
def State.degradedTimed (s : State) : State :=
  if s.safState = 3 then
    let expiry := s.saf.degEntry + 1000 * s.rd F.SAF_CFG_DEG_TIME_S
    if expiry ≤ s.clk.tick then s.safLock 0x5401 else s.wr F.SAF_STAT_DEG_LEFT_S 0 ((expiry - s.clk.tick) / 1000)
  else s

theorem State.checkFunctions_eq (s : State) : s.checkFunctions = s.demandsMet.motionWatched.degradedTimed := rfl

theorem State.degradedTimed_other {s : State} (h : s.safState ≠ 3) : s.degradedTimed = s := if_neg h

/-- In STO nothing watches the motion. -/
theorem State.motionWatched_sto {s : State} (h : s.safState = 0) : s.motionWatched = s := by
  simp [State.motionWatched, State.when, closedIn, h]

theorem State.slsHeld_safState (s : State) : s.slsHeld.safState = s.safState := by
  unfold State.slsHeld
  split <;> rfl

theorem State.slsHeld_demand (s : State) (func : Nat) : s.slsHeld.inputDemand func = s.inputDemand func := by
  unfold State.slsHeld
  split <;> rfl

/-- What leaves the inputs leaves their demands. -/
theorem State.inputDemand_of_left {s t : State} (h : ∀ i < 8, InputLeft i s t) (func : Nat) : t.inputDemand func = s.inputDemand func := by
  rw [Bool.eq_iff_iff, State.inputDemand, State.inputDemand, List.any_eq_true, List.any_eq_true]
  refine exists_congr fun i => and_congr_right fun hi => ?_
  have hleft := h i (List.mem_range.1 hi)
  rw [hleft.own F.SAF_SI_CFG_FUNC (by decide), hleft.inputEff, hleft.low]

/-- An input of a function that is not effective, or of which a channel read 0, demands the function. -/
theorem State.inputDemand_of {s : State} {i func : Nat} (hi : i < 8) (hf : s.rd F.SAF_SI_CFG_FUNC i = func)
    (hd : s.inputEff i = false ∨ s.saf.low.getD i false = true) : s.inputDemand func = true := by
  refine List.any_eq_true.2 ⟨i, List.mem_range.2 hi, ?_⟩
  rcases hd with hd | hd
  · rw [hf, hd, beq_self_eq_true]
    rfl
  · rw [hf, hd, beq_self_eq_true, Bool.or_true]
    rfl

section
variable {s : State} (hs : s.Sound)
include hs

theorem State.Sound.slsHeld_slows : Slows s s.slsHeld := by
  unfold State.slsHeld
  split
  · exact (Slows.refl hs).onSaf
  · exact .refl hs

theorem State.Sound.stoMet_slows : Slows s s.stoMet := by
  unfold State.stoMet State.stoIf
  split
  · exact hs.slsHeld_slows.enterSto
  · exact hs.slsHeld_slows

theorem State.Sound.demandsMet_slows : Slows s s.demandsMet := by
  unfold State.demandsMet State.ss1If
  split
  · exact hs.stoMet_slows.enterSs1
  · exact hs.stoMet_slows

theorem State.Sound.motionWatched_slows : Slows s s.motionWatched := by
  have hwatch {u : State} (hu : Slows s u) {f : State → State} (hf : ∀ u, Slows s u → Slows s (f u)) (c : Bool) : Slows s (u.when c f) :=
    hu.when (hf u hu)
  have hsls (b c d : Bool) := hwatch (hwatch (hwatch (.refl hs) (fun _ h => h.checkSdi) b) (fun _ h => h.checkSlp) c)
    (fun _ h => h.checkSls) d
  exact hwatch (hsls _ _ _) (fun _ h => h.checkSs1) _

theorem State.Sound.checkFunctions_kept : MonKept functionFields Saf.sensed s s.checkFunctions := by
  have hmet := hs.demandsMet_slows.kept
  have hslows := hmet.trans hmet.sound.motionWatched_slows.kept
  rw [s.checkFunctions_eq]
  unfold State.degradedTimed
  dsimp only
  split
  · split
    · exact hslows.safLock takesLock_functions _
    · exact hslows.wr (by decide) _
  · exact hslows

/-- A demand for STO opens the curtains. -/
theorem State.Sound.checkFunctions_sto (hc : closedIn s.safState = true) (hd : s.inputDemand 1 = true) : s.checkFunctions.safState = 0 := by
  have hsto : s.stoMet.safState = 0 := by
    rw [State.stoMet, s.slsHeld_demand 1, hd, Bool.true_or, State.stoIf, if_pos rfl,
      State.safState_enterSto hs.slsHeld_slows.kept.sound.regs, s.slsHeld_safState, hc, if_pos rfl]
  have hmet : s.demandsMet.safState = 0 := by
    unfold State.demandsMet State.ss1If
    split
    · rw [State.safState_enterSs1 hs.stoMet_slows.kept.sound.regs, hsto]
      rfl
    · exact hsto
  rw [s.checkFunctions_eq, State.motionWatched_sto hmet, State.degradedTimed_other (by rw [hmet]; decide)]
  exact hmet

/-- A demand for SS1 ends RUN and DEGRADED. -/
theorem State.Sound.checkFunctions_ss1 (hd : s.inputDemand 2 = true) : s.checkFunctions.safState ≠ 1 ∧ s.checkFunctions.safState ≠ 3 := by
  have hdemand : s.stoMet.inputDemand 2 = true := (State.inputDemand_of_left (fun i hi => hs.stoMet_slows.kept.inputsLeft (by decide)
    (fun _ _ h => (congrArg (fun x : Saf => (x.runs, x.low)) h :)) hi) 2).trans hd
  have hmet : s.demandsMet.safState ≠ 1 ∧ s.demandsMet.safState ≠ 3 := by
    rw [State.demandsMet, hdemand, Bool.true_or, State.ss1If, if_pos rfl, State.safState_enterSs1 hs.stoMet_slows.kept.sound.regs]
    split <;> omega
  have hwatched : s.demandsMet.motionWatched.safState ≠ 1 ∧ s.demandsMet.motionWatched.safState ≠ 3 := by
    have hstate := hs.demandsMet_slows.kept.sound.motionWatched_slows.state
    omega
  rw [s.checkFunctions_eq, State.degradedTimed_other hwatched.2]
  exact hwatched

end

/-! ### Requests (R363) -/

/-- The monitor's own state without what an entry into RUN changes in it. -/
def Saf.sansRun (x : Saf) : Saf :=
  { x with slpStop := false, slpRecover := false, slsHold := false, lost := none, slsRun := 0, ramp := none, testTick := 0, sdiRef := 0
           target := 0 }

/-- The request is taken up. -/
def State.requestTaken (s : State) : State := s.onSaf fun x => { x with runReq := none }

theorem State.takeRequest_run {s : State} (hr : s.saf.runReq = some 3) (hm : s.mayRun = true) : s.takeRequest = s.requestTaken.enterRun :=
  if_pos ⟨hr, hm⟩

theorem State.takeRequest_refused {s : State} (hm : s.mayRun = false) (h3 : s.safState ≠ 3) : s.takeRequest = s.requestTaken := by
  unfold State.takeRequest
  dsimp only
  rw [if_neg (by simp [hm]), if_neg fun hc => h3 hc.2.1]
  rfl

section
variable {s : State} (hs : s.Sound)
include hs

theorem State.Sound.requestTaken : s.requestTaken.Sound := (State.onSaf_kept s _ (hs.kept 8388608) rfl).sound

theorem State.Sound.takeRequest_kept : MonKept functionFields Saf.sansRun s.requestTaken s.takeRequest := by
  have hset (n : Nat) : MonKept functionFields Saf.sansRun s.requestTaken (s.requestTaken.setSaf n) :=
    (MonKept.refl hs.requestTaken _ _).setSaf (by decide) n
  unfold State.takeRequest
  dsimp only
  split
  · unfold State.enterRun
    exact (((hset 1).onSaf).onSaf).followSls (by decide) fun _ _ _ => rfl
  · split
    · exact (((hset 1).wr (by decide) 0).onSaf).followSls (by decide) fun _ _ _ => rfl
    · exact .refl hs.requestTaken _ _

/-- RUN is entered, and the curtains in use close. -/
theorem State.Sound.enterRun_outcome : s.enterRun.safState = 1 ∧ s.enterRun.rd F.SAF_STAT_FC_CLOSED = s.rd F.SAF_FC_EN := by
  have hset : (s.setSaf 1).Sound := (State.setSaf_kept s 1 (hs.kept 4) rfl).sound
  have hrun : MonKept [(F.SAF_STAT_SLS_SEL, 0)] (fun _ => ()) (s.setSaf 1) s.enterRun := by
    unfold State.enterRun
    exact ((MonKept.refl hset _ _).onSaf.onSaf).followSls (by decide) fun _ _ _ => rfl
  exact ⟨(hrun.rd (by decide) (by decide)).trans (State.safState_setSaf hs.regs (by decide)),
    (hrun.rd (by decide) (by decide)).trans (State.closed_setSaf hs.regs 1)⟩

theorem State.Sound.freeReset_kept : MonKept [(F.SAF_STAT_RESET_STUCK, 0)] id s s.freeReset := by
  unfold State.freeReset
  split
  · split
    · exact (MonKept.refl hs _ _).wr (by decide) _
    · exact .refl hs _ _
  · exact .refl hs _ _

end

end Sys2Proof.Machine
end


section
/-! SUPPORT. The phases of a safety cycle (R349): it begins, the voter channels and its length are judged, the inputs are taken, the
sources, VAUX24 and the readback are read, and functions and request act. -/

namespace Sys2Proof.Machine

/-! ### The cycle begins -/

/-- The safety cycle of the next slow tick begins. -/
def State.cycleBegun (s : State) : State := (s.toTick (s.saf.cycle + 1)).onSaf fun y => { y with cycle := (s.toTick (s.saf.cycle + 1)).clk.tick }

section
variable (s : State)

theorem State.cycleBegun_regs : s.cycleBegun.regs = s.regs := s.toTick_regs _

theorem State.cycleBegun_saf : s.cycleBegun.saf = { s.saf with cycle := s.cycleBegun.clk.tick } := by
  unfold State.cycleBegun
  rw [s.toTick_only]
  rfl

theorem State.cycleBegun_monitorEn : s.cycleBegun.monitorEn = s.monitorEn := by
  have hen : s.cycleBegun.rdB F.SAF_CFG_MONITOR_EN = s.rdB F.SAF_CFG_MONITOR_EN :=
    congrArg (· == 1) (State.rd_of_regs s.cycleBegun_regs F.SAF_CFG_MONITOR_EN 0)
  rw [State.monitorEn, State.monitorEn, hen, s.cycleBegun_saf]

theorem State.cycleBegun_standing : SameStanding s s.cycleBegun :=
  ⟨fun f _ => State.rd_of_regs s.cycleBegun_regs f 0, by rw [s.cycleBegun_saf]⟩

/-- The inputs are as they were, but for the tick. -/
theorem State.cycleBegun_left (i : Nat) : InputLeft i { s with clk := s.cycleBegun.clk } s.cycleBegun := by
  refine ⟨fun f _ => State.rd_of_regs s.cycleBegun_regs f i, fun f _ => State.rd_of_regs s.cycleBegun_regs f 0, rfl, ?_, ?_, ?_⟩
  · rw [s.cycleBegun_saf]
    exact fun _ _ => rfl
  all_goals rw [s.cycleBegun_saf]

theorem State.Sound.cycleBegun {s : State} (hs : s.Sound) : s.cycleBegun.Sound :=
  (State.onSaf_kept _ _ (State.toTick_kept s _ (hs.kept 8388624) rfl) rfl).sound

end

/-! ### The phases of a monitored cycle -/

/-- The filters of all inputs run. -/
def State.filtersRun (s : State) (x : SafetySeen) : State := s.forEach (List.range 8) fun s i => s.filterInput i x.samples

/-- A voter channel that differs is judged (R349). -/
def State.voterJudged (s : State) (x : SafetySeen) : State := if x.differ = 0 then s else s.voterDiffers (x.differ - 1)

/-- The length of the cycle is judged (R349). -/
def State.lengthJudged (s : State) (x : SafetySeen) : State :=
  if x.cycleUs < 950 ∨ 1050 < x.cycleUs then s.safLock 0x5603 else s

/-- A second source lost in the last cycle is judged (R366). -/
def State.secondJudged (s : State) : State := if s.saf.second && s.safState == 3 then s.safLock 0x5402 else s

/-- What is judged before the inputs (R349, R366). -/
def State.channelsJudged (s : State) (x : SafetySeen) : State := ((s.voterJudged x).lengthJudged x).secondJudged

/-- The safe inputs are taken (R352). -/
def State.inputsTaken (s : State) (x : SafetySeen) : State := s.forEach (List.range 8) fun s i => s.takeInput i x.samples

/-- VAUX24 and the readback are read (R359, R360). -/
def State.curtainsRead (s : State) (x : SafetySeen) : State := (s.takeVaux x.vaux).takeReadback x.balls

/-- Sources, VAUX24 and the readback are read (R355, R359, R360). -/
def State.cycleRead (s : State) (x : SafetySeen) : State := (s.takeSources x).curtainsRead x

/-- The safety functions act while the curtains are closed (R358). -/
def State.functionsRun (s : State) : State := s.when (closedIn s.safState) State.checkFunctions

/-- Functions, request and SAFE_RESET act (R358, R363, R368). -/
def State.cycleActed (s : State) : State := s.functionsRun.takeRequest.freeReset

/-- The state of a cycle once the inputs are taken. -/
def State.cycleSampled (s : State) (x : SafetySeen) : State := (s.cycleBegun.channelsJudged x).inputsTaken x

/-- The state of a cycle once all is read. -/
def State.cycleSensed (s : State) (x : SafetySeen) : State := (s.cycleSampled x).cycleRead x

theorem State.doSafetyCycle_off {s : State} (h : s.saf.on = false) (x : SafetySeen) : s.doSafetyCycle x = s := if_pos (by simp [h])

theorem State.doSafetyCycle_begun {s : State} (h : s.saf.on = true) (x : SafetySeen) : s.doSafetyCycle x =
    if !s.cycleBegun.monitorEn then s.cycleBegun.filtersRun x
    else (s.cycleSensed x).cycleActed := if_neg (by simp [h])

theorem State.doSafetyCycle_filters {s : State} (h : s.saf.on = true) (hen : s.monitorEn = false) (x : SafetySeen) :
    s.doSafetyCycle x = s.cycleBegun.filtersRun x := by
  rw [State.doSafetyCycle_begun h, s.cycleBegun_monitorEn, hen]
  rfl

theorem State.doSafetyCycle_monitored {s : State} (hen : s.monitorEn = true) (x : SafetySeen) :
    s.doSafetyCycle x = (s.cycleSensed x).cycleActed := by
  have hon : s.saf.on = true := (Bool.and_eq_true_iff.1 hen).1
  rw [State.doSafetyCycle_begun hon, s.cycleBegun_monitorEn, hen]
  rfl

/-! ### Voter channels and length (R349) -/

section
variable {s : State} (hs : s.Sound) (x : SafetySeen)

theorem State.voterJudged_none (h : x.differ = 0) : s.voterJudged x = s := if_pos h

theorem State.secondJudged_other (h : s.safState ≠ 3) : s.secondJudged = s := if_neg (by simp [h])

theorem State.channelsJudged_quiet (hdiffer : x.differ = 0) (hlo : 950 ≤ x.cycleUs) (hhi : x.cycleUs ≤ 1050) (h3 : s.safState ≠ 3) :
    s.channelsJudged x = s := by
  have hlength : s.lengthJudged x = s := if_neg (by omega)
  rw [State.channelsJudged, State.voterJudged_none x hdiffer, hlength, State.secondJudged_other h3]

include hs

theorem State.Sound.voterJudged_outcome : MonKept ((F.SAF_STAT_VOTERS, 0) :: lockFields) Saf.sensed s (s.voterJudged x) ∧
    StaysOpen s (s.voterJudged x) := by
  unfold State.voterJudged
  split
  · exact ⟨.refl hs _ _, .inl (.refl s)⟩
  · exact ⟨(MonKept.refl hs _ _).voterDiffers (takesLock_sensed fun _ hy => List.mem_cons_of_mem _ hy) List.mem_cons_self _,
      hs.voterDiffers_open _⟩

theorem State.Sound.lengthJudged_outcome : MonKept lockFields Saf.sensed s (s.lengthJudged x) ∧ StaysOpen s (s.lengthJudged x) := by
  unfold State.lengthJudged
  split
  · exact ⟨(MonKept.refl hs _ _).safLock (takesLock_sensed fun _ hy => hy) _, hs.safLock_open (by decide)⟩
  · exact ⟨.refl hs _ _, .inl (.refl s)⟩

theorem State.Sound.secondJudged_outcome : MonKept lockFields Saf.sensed s s.secondJudged ∧ StaysOpen s s.secondJudged := by
  unfold State.secondJudged
  split
  · exact ⟨(MonKept.refl hs _ _).safLock (takesLock_sensed fun _ hy => hy) _, hs.safLock_open (by decide)⟩
  · exact ⟨.refl hs _ _, .inl (.refl s)⟩

/-- All that is judged first leads to nothing but a lock-out. -/
theorem State.Sound.channelsJudged_outcome : MonKept ((F.SAF_STAT_VOTERS, 0) :: lockFields) Saf.sensed s (s.channelsJudged x) ∧
    StaysOpen s (s.channelsJudged x) := by
  have hmore : ∀ y ∈ lockFields, y ∈ (F.SAF_STAT_VOTERS, 0) :: lockFields := fun _ hy => List.mem_cons_of_mem _ hy
  obtain ⟨hvoters, hvotersOpen⟩ := hs.voterJudged_outcome x
  obtain ⟨hlength, hlengthOpen⟩ := hvoters.sound.lengthJudged_outcome x
  obtain ⟨hsecond, hsecondOpen⟩ := hlength.sound.secondJudged_outcome
  exact ⟨(hvoters.trans (hlength.mono hmore fun _ _ h => h)).trans (hsecond.mono hmore fun _ _ h => h),
    (hvotersOpen.trans hlengthOpen).trans hsecondOpen⟩

/-- A cycle of a wrong length locks out. -/
theorem State.Sound.channelsJudged_length (h4 : s.safState ≠ 4) (hdiffer : x.differ = 0) (hlen : x.cycleUs < 950 ∨ 1050 < x.cycleUs) :
    s.lockedBy (s.channelsJudged x) 0x5603 := by
  have hlocked := hs.safLock_lockedBy h4 (code := 0x5603) (by decide)
  have hlength : s.lengthJudged x = s.safLock 0x5603 := if_pos hlen
  rw [State.channelsJudged, State.voterJudged_none x hdiffer, hlength, State.secondJudged_other (by rw [hlocked.1]; decide)]
  exact hlocked

/-! ### Inputs -/

theorem State.Sound.inputsTaken_outcome : MonKept inputFields Saf.sansInputs s (s.inputsTaken x) ∧ SameStanding s (s.inputsTaken x) ∧
    ∀ i < 8, InputTaken x.samples i s (s.inputsTaken x) := by
  have hkept : MonKept inputFields Saf.sansInputs s (s.inputsTaken x) := hs.takeInputs_kept x.samples
  obtain ⟨htaken, -⟩ := hs.forEach_inputs (xs := x.samples) (f := fun s i => s.takeInput i x.samples)
    (fun _ _ h hi => h.takeInput_step x.samples hi) List.nodup_range fun _ => List.mem_range.1
  exact ⟨hkept, hkept.standing (by decide) fun _ _ h => (congrArg Saf.standing h :), fun i hi => htaken i (List.mem_range.2 hi)⟩

/-! ### Sources, VAUX24 and readback -/

end

theorem State.notOff_congr {s t : State} (hv : t.saf.vaux = s.saf.vaux) (hen : t.rd F.SAF_FC_EN = s.rd F.SAF_FC_EN)
    (balls : List (Nat × Nat)) : t.notOff balls = s.notOff balls := by
  simp only [State.notOff, hv, hen]

/-- The same curtains in use fail the same readback. -/
theorem State.notOff_withVaux {s t : State} (hen : t.rd F.SAF_FC_EN = s.rd F.SAF_FC_EN) (v : Nat) (balls : List (Nat × Nat)) :
    { t with saf := { t.saf with vaux := v } }.notOff balls = { s with saf := { s.saf with vaux := v } }.notOff balls := by
  refine State.notOff_congr ?_ ?_ balls
  · rfl
  · exact hen

/-- The monitor's own state without what VAUX24, the readback, faults and functions change in it. -/
def Saf.sansCurtains (x : Saf) : Saf := x.sansVaux.sansReadback.sensed

section
variable {s : State} (hs : s.Sound) (x : SafetySeen)
include hs

theorem State.Sound.curtainsRead_outcome : MonKept ((F.SAF_STAT_VAUX_OK, 0) :: lockFields) Saf.sansCurtains s (s.curtainsRead x) ∧
    (s.curtainsRead x).saf.vaux = x.vaux := by
  obtain ⟨hvaux, hseen⟩ := hs.takeVaux_kept x.vaux
  have hread := hvaux.sound.takeReadback_kept x.balls
  refine ⟨(hvaux.mono (fun _ hy => hy) fun _ _ h => ?_).trans (hread.mono (fun _ hy => List.mem_cons_of_mem _ hy) fun _ _ h => ?_),
    (hread.seen (q := Saf.vaux) fun _ _ h => (congrArg Saf.vaux h :)).trans hseen⟩
  · exact congrArg Saf.sansReadback h
  · exact congrArg Saf.sansVaux h

/-- With open curtains VAUX24 and the readback lead to nothing but a lock-out. -/
theorem State.Sound.curtainsRead_open (h : closedIn s.safState = false) : StaysOpen s (s.curtainsRead x) :=
  StaysOpen.trans (.inl (hs.takeVaux_open x.vaux h)) ((hs.takeVaux_kept x.vaux).1.sound.takeReadback_open x.balls)

/-- VAUX24 out of range for a second cycle leaves the curtains open. -/
theorem State.Sound.curtainsRead_vaux (hn : 1 ≤ s.saf.vauxOut) (hv : ¬ (1920 ≤ x.vaux ∧ x.vaux ≤ 3000)) :
    closedIn (s.curtainsRead x).safState = false ∧ (s.curtainsRead x).rdB F.SAF_STAT_VAUX_OK = false := by
  obtain ⟨hopen, hok⟩ := hs.takeVaux_second x.vaux hv hn
  have hvaux := (hs.takeVaux_kept x.vaux).1
  exact ⟨(hvaux.sound.takeReadback_open x.balls).closedIn hopen,
    (congrArg (· == 1) ((hvaux.sound.takeReadback_kept x.balls).rd (by decide) (by decide))).trans hok⟩

/-- With VAUX24 in range and every ball off nothing of the standing changes, and VAUX24 shows as good. -/
theorem State.Sound.curtainsRead_good (hv : 1920 ≤ x.vaux ∧ x.vaux ≤ 3000)
    (hoff : { s with saf := { s.saf with vaux := x.vaux } }.notOff x.balls = 0) :
    SameStanding s (s.curtainsRead x) ∧ (s.curtainsRead x).rdB F.SAF_STAT_VAUX_OK = true := by
  obtain ⟨hsame, hok⟩ := hs.takeVaux_good x.vaux hv
  obtain ⟨hvaux, hseen⟩ := hs.takeVaux_kept x.vaux
  have hoffNow : (s.takeVaux x.vaux).notOff x.balls = 0 :=
    (State.notOff_congr (s := { s with saf := { s.saf with vaux := x.vaux } }) hseen
      (hvaux.config (by decide) (by decide) (by decide)) _).trans hoff
  exact ⟨hsame.trans (State.takeReadback_off x.balls hoffNow),
    (congrArg (· == 1) ((hvaux.sound.takeReadback_kept x.balls).rd (by decide) (by decide))).trans hok⟩

/-- A ball that is newly not off, with every curtain open, has the monitor lock out. -/
theorem State.Sound.curtainsRead_locks (h : closedIn s.safState = false) (hclosed : s.rd F.SAF_STAT_FC_CLOSED = 0) {n : Nat} (hn : n < 2)
    (hbad : ({ s with saf := { s.saf with vaux := x.vaux } }.notOff x.balls).testBit n = true) (hfresh : s.saf.fcBad.testBit n = false) :
    (s.curtainsRead x).safState = 4 := by
  obtain ⟨hvaux, hseen⟩ := hs.takeVaux_kept x.vaux
  have hsame := hs.takeVaux_open x.vaux h
  refine hvaux.sound.takeReadback_locks x.balls ((hsame.fields _ (by decide)).trans hclosed) hn ?_ ?_
  · rwa [State.notOff_congr (s := { s with saf := { s.saf with vaux := x.vaux } }) hseen
      (hvaux.config (by decide) (by decide) (by decide))]
  · rwa [hvaux.seen (q := Saf.fcBad) fun _ _ h => (congrArg Saf.fcBad h :)]

end

/-- What the readings and all that follows leave: when the cycle began, the filters' runs and what the inputs read. -/
abbrev Saf.sampled (x : Saf) : Nat × List Nat × List Bool := (x.cycle, x.runs, x.low)

section
variable {s : State} (hs : s.Sound) (x : SafetySeen)
include hs

theorem State.Sound.cycleRead_outcome : MonKept monitorFields Saf.sampled s (s.cycleRead x) ∧
    (s.cycleRead x).saf.encoder = s.saf.encoder + x.up - x.down ∧ (s.cycleRead x).saf.vaux = x.vaux := by
  obtain ⟨hsources, hencoder⟩ := hs.takeSources_kept x
  obtain ⟨hread, hvaux⟩ := hsources.sound.curtainsRead_outcome x
  refine ⟨(hsources.mono (fun _ hy => hy) fun _ _ h => ?_).trans (hread.mono (by decide) fun _ _ h => ?_),
    (hread.seen (q := Saf.encoder) fun _ _ h => (congrArg Saf.encoder h :)).trans hencoder, hvaux⟩
  · exact (congrArg Saf.sampled h :)
  · exact (congrArg Saf.sampled h :)

/-- With open curtains what is read leads to nothing but a lock-out. -/
theorem State.Sound.cycleRead_open (h : closedIn s.safState = false) : StaysOpen s (s.cycleRead x) := by
  have hopen := hs.takeSources_open x h
  exact hopen.trans ((hs.takeSources_kept x).1.sound.curtainsRead_open x (hopen.closedIn h))

end

end Sys2Proof.Machine
end


section
/-! SUPPORT. What a safety cycle leaves (R349, R352, R354, R358 to R360, R363). -/

namespace Sys2Proof.Machine

/-! ### The end of a cycle -/

section
variable {s : State} (hs : s.Sound)

theorem State.functionsRun_open (h : closedIn s.safState = false) : s.functionsRun = s := if_neg (by simp [h])

/-- Without effective inputs of STO and SS1, without VAUX24 or in a state other than STO there is no RUN (R363). -/
theorem State.mayRun_false (h : s.inputDemand 1 = true ∨ s.inputDemand 2 = true ∨ s.rdB F.SAF_STAT_VAUX_OK = false ∨ s.safState ≠ 0) :
    s.mayRun = false := by
  unfold State.mayRun
  rcases h with h | h | h | h <;> simp [h]

include hs

theorem State.Sound.functionsRun_kept : MonKept functionFields Saf.sensed s s.functionsRun :=
  (MonKept.refl hs _ _).when hs.checkFunctions_kept

/-- After the cycle's end there is no request, and what was read stays. -/
theorem State.Sound.cycleActed_kept : MonKept monitorFields Saf.sensed s s.cycleActed ∧ s.cycleActed.saf.runReq = none := by
  have hfunctions := hs.functionsRun_kept
  have htaken : MonKept functionFields Saf.sensed s.functionsRun s.functionsRun.requestTaken := (MonKept.refl hfunctions.sound _ _).onSaf
  have hrequest := hfunctions.sound.takeRequest_kept
  have hreset := hrequest.sound.freeReset_kept
  refine ⟨(((hfunctions.trans htaken).trans (hrequest.mono (fun _ hy => hy) fun _ _ h => ?_)).mono (by decide) fun _ _ h => h).trans
    (hreset.mono (by decide) fun _ _ h => congrArg Saf.sensed h), ?_⟩
  · exact (congrArg Saf.sensed h :)
  · exact (hreset.seen (q := Saf.runReq) fun _ _ h => congrArg Saf.runReq h).trans
      (hrequest.seen (q := Saf.runReq) fun _ _ h => (congrArg Saf.runReq h :))

/-- What VAUX24 shows as stays. -/
theorem State.Sound.cycleActed_vaux : s.cycleActed.rd F.SAF_STAT_VAUX_OK = s.rd F.SAF_STAT_VAUX_OK := by
  have hfunctions := hs.functionsRun_kept
  have hrequest := hfunctions.sound.takeRequest_kept
  exact (hrequest.sound.freeReset_kept.rd (by decide) (by decide)).trans
    ((hrequest.rd (by decide) (by decide)).trans (hfunctions.rd (by decide) (by decide)))

theorem State.Sound.freeReset_safState : s.freeReset.safState = s.safState := hs.freeReset_kept.rd (by decide) (by decide)

/-- Where RUN is refused and the monitor is not in DEGRADED, the cycle ends in the state that the functions leave. -/
theorem State.Sound.cycleActed_refused (hm : s.functionsRun.mayRun = false) (h3 : s.functionsRun.safState ≠ 3) :
    s.cycleActed.safState = s.functionsRun.safState := by
  rw [State.cycleActed, State.takeRequest_refused hm h3]
  exact hs.functionsRun_kept.sound.requestTaken.freeReset_safState

/-- With open curtains in another state than STO the monitor keeps its state. -/
theorem State.Sound.cycleActed_open (h : closedIn s.safState = false) (hm : s.mayRun = false) : s.cycleActed.safState = s.safState := by
  have hrun := State.functionsRun_open h
  have hended := hs.cycleActed_refused (by rwa [hrun]) (by rw [hrun]; exact (closedIn_of_ne h).2.2)
  rwa [hrun] at hended

/-- LOCKOUT outlasts the cycle. -/
theorem State.Sound.cycleActed_lockedBy {r : State} {code : Nat} (h : r.lockedBy s code) : r.lockedBy s.cycleActed code := by
  have h4 := h.1
  have hrun : s.functionsRun = s := State.functionsRun_open (by rw [h4]; rfl)
  have hrefused := State.takeRequest_refused (State.mayRun_false (.inr (.inr (.inr (by rw [h4]; decide))))) (by rw [h4]; decide)
  have hreset := hs.requestTaken.freeReset_kept.standing (by decide) fun _ _ h => congrArg Saf.standing h
  rw [State.cycleActed, hrun, hrefused]
  obtain ⟨hstate, hclosed, hcode, hseq, hlatch, hss1, -⟩ := h
  exact hreset.lockedBy ⟨hstate, hclosed, hcode, hseq, hlatch, hss1, rfl⟩

/-- A demand for STO leaves the curtains open. -/
theorem State.Sound.cycleActed_sto (hd : s.inputDemand 1 = true) : closedIn s.cycleActed.safState = false := by
  have hleft (i : Nat) (hi : i < 8) : InputLeft i s s.functionsRun := hs.functionsRun_kept.inputsLeft (by decide)
    (fun _ _ h => (congrArg (fun x : Saf => (x.runs, x.low)) h :)) hi
  have hdemand : s.functionsRun.inputDemand 1 = true := (State.inputDemand_of_left hleft 1).trans hd
  have hopen : closedIn s.functionsRun.safState = false := by
    cases hc : closedIn s.safState with
    | true =>
      rw [State.functionsRun, State.when, hc, if_pos rfl, hs.checkFunctions_sto hc hd]
      rfl
    | false => rw [State.functionsRun_open hc, hc]
  rw [hs.cycleActed_refused (State.mayRun_false (.inl hdemand)) (closedIn_of_ne hopen).2.2]
  exact hopen

/-- A demand for SS1 leaves neither RUN nor DEGRADED. -/
theorem State.Sound.cycleActed_ss1 (hd : s.inputDemand 2 = true) : s.cycleActed.safState ≠ 1 ∧ s.cycleActed.safState ≠ 3 := by
  have hleft (i : Nat) (hi : i < 8) : InputLeft i s s.functionsRun := hs.functionsRun_kept.inputsLeft (by decide)
    (fun _ _ h => (congrArg (fun x : Saf => (x.runs, x.low)) h :)) hi
  have hdemand : s.functionsRun.inputDemand 2 = true := (State.inputDemand_of_left hleft 2).trans hd
  have hended : s.functionsRun.safState ≠ 1 ∧ s.functionsRun.safState ≠ 3 := by
    cases hc : closedIn s.safState with
    | true =>
      rw [State.functionsRun, State.when, hc, if_pos rfl]
      exact hs.checkFunctions_ss1 hd
    | false =>
      obtain ⟨h1, -, h3⟩ := closedIn_of_ne hc
      rw [State.functionsRun_open hc]
      exact ⟨h1, h3⟩
  rw [hs.cycleActed_refused (State.mayRun_false (.inr (.inl hdemand))) hended.2]
  exact hended

end

/-! ### The active set in a cycle -/

/-- From s to t the active set of the monitor and the sensors' registers stay (R373, R386). -/
def SameConfig (s t : State) : Prop := ∀ (f : Fld) (i : Nat), 0x300100 ≤ f.addr i → f.addr i < 0x380000 → t.rd f i = s.rd f i

section
variable {s t : State} (h : SameConfig s t)
include h

theorem SameConfig.rdB {f : Fld} {i : Nat} (hlo : 0x300100 ≤ f.addr i) (hhi : f.addr i < 0x380000) : t.rdB f i = s.rdB f i := by
  rw [State.rdB, State.rdB, h f i hlo hhi]

/-- The same incremental source is faulty (R355). -/
theorem SameConfig.incFault (hz : t.saf.zRef = s.saf.zRef) (he : t.saf.encoder = s.saf.encoder) (x : SafetySeen) :
    t.incFault x = s.incFault x := by
  simp only [State.incFault, State.zFault, State.zCount, hz, he, h F.SAF_INC_CPR 0 (by decide) (by decide),
    h F.SAF_INC_ZTOL 0 (by decide) (by decide)]

/-- The same SSI source is faulty (R356). -/
theorem SameConfig.ssiFault (hlast : t.saf.ssiLast = s.saf.ssiLast) (raw line : Nat) : t.ssiFault raw line = s.ssiFault raw line := by
  have hframe : t.ssiFrame raw = s.ssiFrame raw := by
    simp only [State.ssiFrame, h.rdB (f := F.SAF_SSI_ERRBIT) (i := 0) (by decide) (by decide), h F.SAF_SSI_LEN 0 (by decide) (by decide),
      h.rdB (f := F.SAF_SSI_GRAY) (i := 0) (by decide) (by decide)]
  have hjump (v w : Nat) : t.ssiJump v w = s.ssiJump v w := by
    simp only [State.ssiJump, h F.SAF_SLS_LIM_MDEG_S 3 (by decide) (by decide), h F.SAF_SSI_ST_BITS 0 (by decide) (by decide)]
  simp only [State.ssiFault, hframe, hjump, hlast]

/-- The sensors demand the same (R382, R383). -/
theorem SameConfig.sensorDemand (param : Nat) : t.sensorDemand param = s.sensorDemand param := by
  rw [Bool.eq_iff_iff, State.sensorDemand, State.sensorDemand, List.any_eq_true, List.any_eq_true]
  refine exists_congr fun j => and_congr_right fun hj => ?_
  have hj := List.mem_range.1 hj
  rw [State.switchOn, State.switchOn, h F.SNS_SW_STAT_STATE 0 (by decide) (by decide),
    h F.SNS_SW_CFG_ACTION j (by simp only [Fld.addr]; omega) (by simp only [Fld.addr]; omega),
    h F.SNS_SW_CFG_PARAM j (by simp only [Fld.addr]; omega) (by simp only [Fld.addr]; omega)]

end

/-! ### A monitored cycle -/

section
variable {s : State} (hs : s.Sound) (x : SafetySeen)

/-- What no phase before the readings changes, but for the inputs. -/
def Saf.sansSamples (y : Saf) : Saf := y.sansInputs.sensed

include hs

/-- Until the sources are read a cycle writes the inputs' fields and those of a lock-out. -/
theorem State.Sound.cycleSampled_outcome : MonKept cycleFields Saf.sansSamples s.cycleBegun (s.cycleSampled x) ∧
    StaysOpen s.cycleBegun (s.cycleSampled x) ∧
    ∀ i < 8, InputTaken x.samples i { s with clk := s.cycleBegun.clk } (s.cycleSampled x) := by
  obtain ⟨hjudged, hopen⟩ := hs.cycleBegun.channelsJudged_outcome x
  obtain ⟨htaken, hsame, hinputs⟩ := hjudged.sound.inputsTaken_outcome x
  refine ⟨(hjudged.mono (by decide) fun _ _ h => ?_).trans (htaken.mono (fun _ hy => List.mem_append_right _ hy) fun _ _ h => ?_),
    hopen.trans (.inl hsame), fun i hi => ?_⟩
  · exact (congrArg Saf.sansInputs h :)
  · exact congrArg Saf.sensed h
  · exact ((hinputs i hi).of_left (hjudged.inputsLeft (by decide) (fun _ _ h => (congrArg (fun x : Saf => (x.runs, x.low)) h :)) hi)).of_left
      (s.cycleBegun_left i)

/-- Once all is read the inputs have had their cycles, from s with the clock of the cycle. -/
theorem State.Sound.cycleSensed_inputs {i : Nat} (hi : i < 8) :
    InputTaken x.samples i { s with clk := s.cycleBegun.clk } (s.cycleSensed x) := by
  obtain ⟨hsampled, -, hinputs⟩ := hs.cycleSampled_outcome x
  have hread : MonKept monitorFields Saf.sampled (s.cycleSampled x) (s.cycleSensed x) := (hsampled.sound.cycleRead_outcome x).1
  exact (hinputs i hi).left (hread.inputsLeft (fun _ hy => hy) (fun _ _ h => (Prod.mk.inj h).2) hi)

/-- Once all is read the count has moved by the edges, and VAUX24 is noted. -/
theorem State.Sound.cycleSensed_outcome : MonKept cycleFields Saf.cycle s.cycleBegun (s.cycleSensed x) ∧
    (s.cycleSensed x).saf.encoder = s.saf.encoder + x.up - x.down ∧ (s.cycleSensed x).saf.vaux = x.vaux := by
  obtain ⟨hsampled, -⟩ := hs.cycleSampled_outcome x
  obtain ⟨hread, hencoder, hvaux⟩ := hsampled.sound.cycleRead_outcome x
  have hbefore : (s.cycleSampled x).saf.encoder = s.saf.encoder := by
    rw [hsampled.seen (q := Saf.encoder) fun _ _ h => (congrArg Saf.encoder h :), s.cycleBegun_saf]
  exact ⟨(hsampled.mono (fun _ hy => hy) fun _ _ h => (congrArg Saf.cycle h :)).trans
    (hread.mono (fun _ hy => List.mem_append_left _ hy) fun _ _ h => (Prod.mk.inj h).1), hbefore ▸ hencoder, hvaux⟩

/-- The active set and the sensors' registers are as they were before the cycle. -/
theorem State.Sound.cycleSensed_config : SameConfig s (s.cycleSensed x) := fun f i hlo hhi =>
  ((hs.cycleSensed_outcome x).1.config (fun _ hy => hy) hlo hhi).trans (State.rd_of_regs s.cycleBegun_regs f i)

theorem State.Sound.cycleSampled_config : SameConfig s (s.cycleSampled x) := fun f i hlo hhi =>
  ((hs.cycleSampled_outcome x).1.config (fun _ hy => hy) hlo hhi).trans (State.rd_of_regs s.cycleBegun_regs f i)

/-- A channel that reads 0, or has read 0 within the cycle, demands the function of its input (R352). -/
theorem State.Sound.cycleSensed_demand {i : Nat} (hi : i < 8) {a b : Filtered}
    (ha : a = { s with clk := s.cycleBegun.clk }.filterChannel i 0 x.samples)
    (hb : b = { s with clk := s.cycleBegun.clk }.filterChannel i 1 x.samples) (hlen : s.saf.low.length = 8)
    (hzero : a.level = false ∨ b.level = false ∨ a.low = true ∨ b.low = true) {func : Nat} (hf : s.rd F.SAF_SI_CFG_FUNC i = func) :
    (s.cycleSensed x).inputDemand func = true := by
  obtain ⟨hlevelA, hlevelB, hlow, -⟩ := hs.cycleSensed_inputs x hi
  have hlow := hlow (by change i < s.saf.low.length; omega)
  rw [← ha] at hlevelA hlow
  rw [← hb] at hlevelB hlow
  have hfunc : (s.cycleSensed x).rd F.SAF_SI_CFG_FUNC i = func :=
    (hs.cycleSensed_config x _ _ (by simp only [Fld.addr]; omega) (by simp only [Fld.addr]; omega)).trans hf
  refine State.inputDemand_of hi hfunc ?_
  rw [State.inputEff, hlevelA, hlevelB, hlow]
  rcases hzero with h | h | h | h <;> simp [h]

/-! ### What the clauses of the statement say -/

/-- A cycle of a wrong length locks out (R349). -/
theorem State.Sound.cycle_length (h4 : s.safState ≠ 4) (hdiffer : x.differ = 0) (hlen : x.cycleUs < 950 ∨ 1050 < x.cycleUs) :
    s.lockedBy (s.cycleSensed x).cycleActed 0x5603 := by
  have hbegun := s.cycleBegun_standing
  have hlocked : s.lockedBy (s.cycleBegun.channelsJudged x) 0x5603 := by
    obtain ⟨hstate, hclosed, hcode, hseq, hown⟩ := hs.cycleBegun.channelsJudged_length x (by rwa [hbegun.safState]) hdiffer hlen
    exact ⟨hstate, hclosed, hcode, by rw [hseq, hbegun.fields _ (by decide)], hown⟩
  obtain ⟨htaken, hsame⟩ : (s.cycleSampled x).Sound ∧ SameStanding (s.cycleBegun.channelsJudged x) (s.cycleSampled x) :=
    have hinputs := (hs.cycleBegun.channelsJudged_outcome x).1.sound.inputsTaken_outcome x
    ⟨hinputs.1.sound, hinputs.2.1⟩
  have h4 : (s.cycleSampled x).safState = 4 := hsame.safState.trans hlocked.1
  have hread := (htaken.cycleRead_open x (by rw [h4]; rfl)).locked h4
  exact (htaken.cycleRead_outcome x).1.sound.cycleActed_lockedBy (hread.lockedBy (hsame.lockedBy hlocked))

/-- VAUX24 out of range for a second cycle opens the curtains (R360). -/
theorem State.Sound.cycle_vaux (hn : 1 ≤ s.saf.vauxOut) (hv : x.vaux < 1920 ∨ 3000 < x.vaux) :
    closedIn (s.cycleSensed x).cycleActed.safState = false ∧ (s.cycleSensed x).cycleActed.rdB F.SAF_STAT_VAUX_OK = false := by
  obtain ⟨hsampled, -⟩ := hs.cycleSampled_outcome x
  have hsources := (hsampled.sound.takeSources_kept x).1
  have hcount : ((s.cycleSampled x).takeSources x).saf.vauxOut = s.saf.vauxOut := by
    rw [hsources.seen (q := Saf.vauxOut) fun _ _ h => (congrArg Saf.vauxOut h :),
      hsampled.seen (q := Saf.vauxOut) fun _ _ h => (congrArg Saf.vauxOut h :), s.cycleBegun_saf]
  obtain ⟨hopen, hok⟩ : closedIn (s.cycleSensed x).safState = false ∧ (s.cycleSensed x).rdB F.SAF_STAT_VAUX_OK = false :=
    hsources.sound.curtainsRead_vaux x (by rwa [hcount]) (by omega)
  have hsensed := (hs.cycleSensed_outcome x).1.sound
  refine ⟨?_, ?_⟩
  · rwa [hsensed.cycleActed_open hopen (State.mayRun_false (.inr (.inr (.inl hok))))]
  · exact (congrArg (· == 1) (hsensed.cycleActed_vaux)).trans hok

/-- A ball that is newly not off, with every curtain open, locks out (R359). -/
theorem State.Sound.cycle_readback (h : closedIn s.safState = false) (hclosed : s.rd F.SAF_STAT_FC_CLOSED = 0) {n : Nat} (hn : n < 2)
    (hbad : ({ s with saf := { s.saf with vaux := x.vaux } }.notOff x.balls).testBit n = true) (hfresh : s.saf.fcBad.testBit n = false) :
    (s.cycleSensed x).cycleActed.safState = 4 := by
  obtain ⟨hsampled, hopen, -⟩ := hs.cycleSampled_outcome x
  have hopen := StaysOpen.trans (.inl s.cycleBegun_standing) hopen
  have hsources := (hsampled.sound.takeSources_kept x).1
  have hopen := hopen.trans (hsampled.sound.takeSources_open x (hopen.closedIn h))
  have hcurtain : ((s.cycleSampled x).takeSources x).rd F.SAF_FC_EN = s.rd F.SAF_FC_EN :=
    (hsources.config (by decide) (by decide) (by decide)).trans (hs.cycleSampled_config x _ _ (by decide) (by decide))
  have h4 : (s.cycleSensed x).safState = 4 := by
    refine hsources.sound.curtainsRead_locks x (hopen.closedIn h) (hopen.closed hclosed) hn ?_ ?_
    · rwa [State.notOff_withVaux hcurtain]
    · rwa [hsources.seen (q := Saf.fcBad) fun _ _ h => (congrArg Saf.fcBad h :),
        hsampled.seen (q := Saf.fcBad) fun _ _ h => (congrArg Saf.fcBad h :), s.cycleBegun_saf]
  rw [(hs.cycleSensed_outcome x).1.sound.cycleActed_open (by rw [h4]; rfl) (State.mayRun_false (.inr (.inr (.inr (by rw [h4]; decide)))))]
  exact h4

end

end Sys2Proof.Machine
end


section
/-! SUPPORT. RUN in a safety cycle (R363), the cycle without the monitor (R348), and what a cycle changes at all. -/

namespace Sys2Proof.Machine

/-! ### RUN is carried out -/

/-- RUN is agreed in STO, and nothing that the cycle sees stands against it (R349, R352, R359, R360, R363). -/
structure RunGranted (s : State) (x : SafetySeen) : Prop where
  sto : s.safState = 0
  request : s.saf.runReq = some 3
  inputs : ∀ i < 8, ∀ c < 2, ({ s with clk := s.cycleBegun.clk }.filterChannel i c x.samples).level = true ∧
    ({ s with clk := s.cycleBegun.clk }.filterChannel i c x.samples).low = false
  unlocked : ∀ i < 8, s.rdB F.SAF_SI_STAT_LOCKED i = false
  noted : s.saf.low.length = 8
  sensors : s.sensorDemand 0 = false ∧ s.sensorDemand 1 = false
  sources : s.incFault x = false ∧ s.ssiFault x.ssi x.line = false ∧ s.saf.apart < 2
  paths : s.rdB F.SAF_STAT_PATH_A_OK = true ∧ s.rdB F.SAF_STAT_PATH_B_OK = true
  motion : s.saf.slpStop = false ∧ s.saf.lost = none
  vaux : 1920 ≤ x.vaux ∧ x.vaux ≤ 3000
  off : { s with saf := { s.saf with vaux := x.vaux } }.notOff x.balls = 0
  channels : x.differ = 0 ∧ 950 ≤ x.cycleUs ∧ x.cycleUs ≤ 1050

section
variable {s : State} {x : SafetySeen} (h : RunGranted s x) (hs : s.Sound)
include h hs

/-- The inputs change nothing of the standing. -/
theorem RunGranted.sampled : SameStanding s (s.cycleSampled x) := by
  obtain ⟨hdiffer, hlo, hhi⟩ := h.channels
  have hbegun := s.cycleBegun_standing
  have hquiet : s.cycleBegun.channelsJudged x = s.cycleBegun :=
    State.channelsJudged_quiet x hdiffer hlo hhi (by rw [hbegun.safState, h.sto]; decide)
  rw [State.cycleSampled, hquiet]
  exact hbegun.trans (hs.cycleBegun.inputsTaken_outcome x).2.1

/-- Nor do sources, VAUX24 and readback, which all show as good. -/
theorem RunGranted.sensed : SameStanding s (s.cycleSensed x) ∧ (s.cycleSensed x).rdB F.SAF_STAT_VAUX_OK = true ∧
    (s.cycleSensed x).rdB F.SAF_STAT_INC_OK = true ∧ (s.cycleSensed x).rdB F.SAF_STAT_SSI_OK = true := by
  obtain ⟨hinc, hssi, hapart⟩ := h.sources
  have hconfig := hs.cycleSampled_config x
  obtain ⟨hsampled, -⟩ := hs.cycleSampled_outcome x
  have hz : (s.cycleSampled x).saf.zRef = s.saf.zRef := by
    rw [hsampled.seen (q := Saf.zRef) fun _ _ h => (congrArg Saf.zRef h :), s.cycleBegun_saf]
  have hcount : (s.cycleSampled x).saf.encoder = s.saf.encoder := by
    rw [hsampled.seen (q := Saf.encoder) fun _ _ h => (congrArg Saf.encoder h :), s.cycleBegun_saf]
  have hlast : (s.cycleSampled x).saf.ssiLast = s.saf.ssiLast := by
    rw [hsampled.seen (q := Saf.ssiLast) fun _ _ h => (congrArg Saf.ssiLast h :), s.cycleBegun_saf]
  have hfar : (s.cycleSampled x).saf.apart = s.saf.apart := by
    rw [hsampled.seen (q := Saf.apart) fun _ _ h => (congrArg Saf.apart h :), s.cycleBegun_saf]
  obtain ⟨hsame, hincOk, hssiOk⟩ := hsampled.sound.takeSources_good x ((hconfig.incFault hz hcount x).trans hinc)
    ((hconfig.ssiFault hlast _ _).trans hssi) (by rwa [hfar])
  have hsources := (hsampled.sound.takeSources_kept x).1
  have hen : ((s.cycleSampled x).takeSources x).rd F.SAF_FC_EN = s.rd F.SAF_FC_EN :=
    (hsources.config (fun _ hy => List.mem_append_left _ hy) (by decide) (by decide)).trans (hconfig _ _ (by decide) (by decide))
  obtain ⟨hgood, hvauxOk⟩ := hsources.sound.curtainsRead_good x h.vaux (by rw [State.notOff_withVaux hen]; exact h.off)
  have hread := (hsources.sound.curtainsRead_outcome x).1
  exact ⟨((h.sampled hs).trans hsame).trans hgood, hvauxOk,
    (congrArg (· == 1) (hread.rd (by decide) (by decide))).trans hincOk, (congrArg (· == 1) (hread.rd (by decide) (by decide))).trans hssiOk⟩

/-- No input demands a function. -/
theorem RunGranted.inputDemand (func : Nat) : (s.cycleSensed x).inputDemand func = false := by
  rw [State.inputDemand, List.any_eq_false]
  intro i hi
  have hi := List.mem_range.1 hi
  obtain ⟨hlevelA, hlevelB, hlow, hunlocked⟩ := hs.cycleSensed_inputs x hi
  obtain ⟨ha, hlowA⟩ := h.inputs i hi 0 (by decide)
  obtain ⟨hb, hlowB⟩ := h.inputs i hi 1 (by decide)
  have hlow := hlow (by have := h.noted; change i < s.saf.low.length; omega)
  have hunlocked := hunlocked ha hb (h.unlocked i hi)
  rw [ha] at hlevelA
  rw [hb] at hlevelB
  rw [hlowA, hlowB] at hlow
  rw [State.inputEff, hlevelA, hlevelB, hunlocked, hlow]
  simp

/-- RUN may be carried out. -/
theorem RunGranted.mayRun : (s.cycleSensed x).mayRun = true := by
  obtain ⟨hsame, hvaux, hinc, hssi⟩ := h.sensed hs
  have hsaf := hsame.saf
  simp only [Prod.mk.injEq] at hsaf
  obtain ⟨-, -, -, hslp, hlost⟩ := hsaf
  have hconfig := hs.cycleSensed_config x
  have hpath {f : Fld} (hf : f ∈ [F.SAF_STAT_PATH_A_OK, F.SAF_STAT_PATH_B_OK]) : (s.cycleSensed x).rdB f = s.rdB f :=
    congrArg (· == 1) (((hs.cycleSensed_outcome x).1.rd (by revert f; decide) (by revert f; decide)).trans
      (State.rd_of_regs s.cycleBegun_regs f 0))
  have hgood : (s.cycleSensed x).lostGood = true := by
    rw [State.lostGood, hlost, h.motion.2]
  rw [State.mayRun, hsame.safState, h.sto, hvaux, h.inputDemand hs, h.inputDemand hs, h.inputDemand hs, hconfig.sensorDemand,
    hconfig.sensorDemand, h.sensors.1, h.sensors.2, hinc, hssi, hpath (by decide), hpath (by decide), h.paths.1, h.paths.2, hslp, h.motion.1,
    hgood]
  rfl

/-- RUN is entered, and the curtains in use close. -/
theorem RunGranted.runs : (s.cycleSensed x).cycleActed.safState = 1 ∧
    (s.cycleSensed x).cycleActed.rd F.SAF_STAT_FC_CLOSED = s.rd F.SAF_FC_EN := by
  obtain ⟨hsame, -⟩ := h.sensed hs
  have hsaf := hsame.saf
  simp only [Prod.mk.injEq] at hsaf
  obtain ⟨-, -, hreq, -⟩ := hsaf
  have hsensed := (hs.cycleSensed_outcome x).1.sound
  have hfunctions : (s.cycleSensed x).functionsRun = s.cycleSensed x :=
    State.functionsRun_open (by rw [hsame.safState, h.sto]; rfl)
  obtain ⟨hstate, hclosed⟩ := hsensed.requestTaken.enterRun_outcome
  have hrun := (hsensed.takeRequest_kept).sound
  rw [State.takeRequest_run (hreq.trans h.request) (h.mayRun hs)] at hrun
  rw [State.cycleActed, hfunctions, State.takeRequest_run (hreq.trans h.request) (h.mayRun hs)]
  have hreset := hrun.freeReset_kept
  exact ⟨(hreset.rd (by decide) (by decide)).trans hstate,
    ((hreset.rd (by decide) (by decide)).trans hclosed).trans (hs.cycleSensed_config x F.SAF_FC_EN 0 (by decide) (by decide))⟩

end

/-! ### What a monitored cycle changes at all -/

section
variable {s : State} (hs : s.Sound) (x : SafetySeen)
include hs

theorem State.Sound.cycle_outcome : MonKept cycleFields Saf.cycle s.cycleBegun (s.cycleSensed x).cycleActed ∧
    (s.cycleSensed x).cycleActed.saf.runReq = none ∧
    (s.cycleSensed x).cycleActed.saf.encoder = s.saf.encoder + x.up - x.down ∧ (s.cycleSensed x).cycleActed.saf.vaux = x.vaux := by
  obtain ⟨hsensed, hencoder, hvaux⟩ := hs.cycleSensed_outcome x
  obtain ⟨hacted, hrequest⟩ := hsensed.sound.cycleActed_kept
  exact ⟨hsensed.trans (hacted.mono (fun _ hy => List.mem_append_left _ hy) fun _ _ h => (congrArg Saf.cycle h :)), hrequest,
    (hacted.seen (q := Saf.encoder) fun _ _ h => (congrArg Saf.encoder h :)).trans hencoder,
    (hacted.seen (q := Saf.vaux) fun _ _ h => (congrArg Saf.vaux h :)).trans hvaux⟩

/-- The inputs end the cycle as their filters leave them. -/
theorem State.Sound.cycle_inputs {i : Nat} (hi : i < 8) :
    InputTaken x.samples i { s with clk := s.cycleBegun.clk } (s.cycleSensed x).cycleActed :=
  (hs.cycleSensed_inputs x hi).left ((hs.cycleSensed_outcome x).1.sound.cycleActed_kept.1.inputsLeft (fun _ hy => hy)
    (fun _ _ h => (congrArg (fun y : Saf => (y.runs, y.low)) h :)) hi)

theorem State.Sound.cycle_sameButSafety : s.sameButSafety (s.cycleSensed x).cycleActed := by
  intro b hqueues hsafety hhi hbook
  have hmain := (hs.cycle_outcome x).1.fields.sameMain b hqueues hhi fun hmem => by
    obtain ⟨y, hy, rfl⟩ := List.mem_map.1 hmem
    rcases cycleFields_safety y hy with hplace | hplace
    · omega
    · exact hbook hplace
  exact hmain.trans (State.sameRegs_of_regs s.cycleBegun_regs [] b List.not_mem_nil)

end

/-! ### The cycle without the monitor (R348, R352) -/

/-- States that agree but for the filters differ in the filters alone. -/
theorem Saf.eq_of_sansFilters {x y : Saf} (h : y.sansFilters = x.sansFilters) : y = { x with runs := y.runs, low := y.low } :=
  calc y = { y.sansFilters with runs := y.runs, low := y.low } := rfl
    _ = { x.sansFilters with runs := y.runs, low := y.low } := by rw [h]

section
variable {s : State} (hs : s.Sound) (x : SafetySeen)
include hs

theorem State.Sound.filtersRun_kept : MonKept inputFields Saf.sansFilters s (s.filtersRun x) :=
  (MonKept.refl hs _ _).forEach fun _ i hi h => h.trans ((h.sound.filterInput_kept (i := i) x.samples).mono
    (fun y hy => takenFields_input i (List.mem_range.1 hi) y (List.mem_append_left _ hy)) fun _ _ h => h)

/-- The status registers of the inputs are all that changes. -/
theorem State.Sound.filtersRun_regs : s.sameRegs (s.filtersRun x) ((List.range 8).map F.SAF_SI_STAT_A.addr) := by
  refine (State.forEach_induction (P := fun u => u.Sound ∧ s.sameRegs u ((List.range 8).map F.SAF_SI_STAT_A.addr)) ⟨hs, fun _ _ => rfl⟩
    fun u i hi h => ?_).2
  obtain ⟨hu, hsame⟩ := h
  have hwritten := State.wf_wr hu.regs F.SAF_SI_STAT_A i (u.filterChannel i 0 x.samples).level.toNat
  refine ⟨(hu.filterInput_kept x.samples).sound, hsame.trans fun b hb => ?_⟩
  have hother : b ∉ [F.SAF_SI_STAT_A.addr i] := fun hmem => hb (List.mem_map.2 ⟨i, hi, (List.mem_singleton.1 hmem).symm⟩)
  exact (State.sameRegs_wr hwritten F.SAF_SI_STAT_B i _ b hother).trans (State.sameRegs_wr hu.regs F.SAF_SI_STAT_A i _ b hother)

/-- The filters change registers, the tick and what the safety keeps, and nothing else. -/
theorem State.Sound.filtersRun_parts : s.cycleBegun.filtersRun x =
    { s with regs := (s.cycleBegun.filtersRun x).regs, clk := (s.cycleBegun.filtersRun x).clk, saf := (s.cycleBegun.filtersRun x).saf } :=
  (State.forEach_kept (State.onSaf_kept _ _ (State.toTick_kept s _ (hs.kept 8388628) rfl) rfl) fun t i ht =>
    State.filterInput_kept t i x.samples ht rfl).eq_withParts

/-- Levels and notes of the inputs are what a cycle without the monitor leaves, and its tick. -/
theorem State.Sound.cycle_filters : (s.cycleBegun.filtersRun x).saf =
      { s.saf with cycle := (s.cycleBegun.filtersRun x).clk.tick, runs := (s.cycleBegun.filtersRun x).saf.runs
                   low := (s.cycleBegun.filtersRun x).saf.low } ∧
    (s.cycleBegun.filtersRun x).clk = s.cycleBegun.clk ∧
    ∀ i < 8, InputTaken x.samples i { s with clk := s.cycleBegun.clk } (s.cycleBegun.filtersRun x) := by
  have hkept := hs.cycleBegun.filtersRun_kept x
  obtain ⟨htaken, -⟩ := hs.cycleBegun.forEach_inputs (xs := x.samples) (f := fun s i => s.filterInput i x.samples)
    (fun _ _ h hi => h.filterInput_alone x.samples hi) List.nodup_range fun _ => List.mem_range.1
  refine ⟨?_, hkept.clk, fun i hi => (htaken i (List.mem_range.2 hi)).of_left (s.cycleBegun_left i)⟩
  have hsaf := Saf.eq_of_sansFilters hkept.saf
  rw [s.cycleBegun_saf] at hsaf
  rw [hkept.clk]
  exact hsaf

end

end Sys2Proof.Machine

open Sys2Proof Sys2Proof.Machine

/-- Settles O43, by the phases of the cycle: what is judged first, the inputs, what is read, the functions and the request. -/
theorem safetyCycle : Obligations.SafetyCycle := by
  intro s x hawake hfs
  have hs := hawake.sound
  have hnext : exec (.safetyCycle x.samples x.up x.down x.cut x.z x.ssi x.line x.vaux x.balls x.differ x.cycleUs) s =
      .next (s.doSafetyCycle x) := hawake.next_keeperDo fun s => s.doSafetyCycle x
  have htick : s.saf.cycle + 1 ≤ s.cycleBegun.clk.tick := State.le_tick_toTick hfs _
  refine ⟨fun hoff => ?_, fun hon hen => ?_, fun hen => ?_⟩
  · rw [hnext, State.doSafetyCycle_off hoff]
  · obtain ⟨hsaf, hclk, htaken⟩ := hs.cycle_filters x
    rw [hnext, State.doSafetyCycle_filters hon hen]
    refine ⟨_, rfl, hsaf, by rw [hclk]; exact htick, fun i => ?_,
      (State.sameRegs_of_regs s.cycleBegun_regs _).trans (hs.cycleBegun.filtersRun_regs x), hs.filtersRun_parts x⟩
    rw [hclk]
    exact ⟨(htaken i i.isLt).levelA, (htaken i i.isLt).levelB⟩
  · obtain ⟨hkept, hrequest, hencoder, hvaux⟩ := hs.cycle_outcome x
    have hall := (State.doSafetyCycle_kept s x (hs.kept 25166358) rfl).eq_withParts
    rw [hnext, State.doSafetyCycle_monitored hen]
    rw [State.doSafetyCycle_monitored hen] at hall
    have hclk := hkept.clk
    have hcycle : (s.cycleSensed x).cycleActed.saf.cycle = (s.cycleSensed x).cycleActed.clk.tick := by
      rw [hkept.saf, s.cycleBegun_saf, hclk]
    refine ⟨_, rfl, hcycle, by rw [hclk]; exact htick, hrequest, hencoder, hvaux, fun i a b ha hb => ?_, fun hn hv => hs.cycle_vaux x hn hv,
      fun h4 hdiffer hlen => hs.cycle_length x h4 hdiffer hlen, fun n hopen hclosed hbad hfresh => ?_, ?_, hs.cycle_sameButSafety x, hall⟩
    · rw [hclk] at ha hb
      obtain ⟨hlevelA, hlevelB, -⟩ := hs.cycle_inputs x i.isLt
      refine ⟨ha ▸ hlevelA, hb ▸ hlevelB, fun hlen hzero => ⟨fun hf => ?_, fun hf => ?_⟩⟩
      · exact (hs.cycleSensed_outcome x).1.sound.cycleActed_sto (hs.cycleSensed_demand x i.isLt ha hb hlen hzero hf)
      · exact (hs.cycleSensed_outcome x).1.sound.cycleActed_ss1 (hs.cycleSensed_demand x i.isLt ha hb hlen hzero hf)
    · exact hs.cycle_readback x hopen hclosed n.isLt hbad hfresh
    · intro h0 hreq hinputs hunlocked hlen hsensor0 hsensor1 hinc hssi hapart hpathA hpathB hslp hlost hvlo hvhi hoff hdiffer hclo hchi
      rw [hclk] at hinputs
      exact RunGranted.runs ⟨h0, hreq, fun i hi c hc => hinputs ⟨i, hi⟩ ⟨c, hc⟩ _ rfl, fun i hi => hunlocked ⟨i, hi⟩, hlen,
        ⟨hsensor0, hsensor1⟩, ⟨hinc, hssi, hapart⟩, ⟨hpathA, hpathB⟩, ⟨hslp, hlost⟩, ⟨hvlo, hvhi⟩, hoff, ⟨hdiffer, hclo, hchi⟩⟩ hs
end

section
/-! SUPPORT. The pulse slots of the slow sensors (R376 to R378): which inputs wait, and which input a free slot excites. -/

namespace Sys2Proof.Machine

/-- What the run's step at one element establishes and its other steps keep, the run ends with. -/
theorem foldl_of_mem {α β : Type} {P Q : β → Prop} {f : β → α → β} {l : List α} {x : α} (hx : x ∈ l) {b : β}
    (hb : Q b) (hQ : ∀ b, ∀ y ∈ l, Q b → Q (f b y)) (hset : ∀ b, Q b → P (f b x)) (hP : ∀ b, ∀ y ∈ l, P b → P (f b y)) :
    P (l.foldl f b) := by
  obtain ⟨before, after, rfl⟩ := List.append_of_mem hx
  have hbefore : Q (before.foldl f b) := List.foldlRecOn before f hb fun b hb y hy => hQ b y (List.mem_append_left _ hy) hb
  rw [List.foldl_append, List.foldl_cons]
  exact List.foldlRecOn after f (hset _ hbefore) fun b hb y hy =>
    hP b y (List.mem_append_right _ (List.mem_cons_of_mem _ hy)) hb

/-! ### Inputs that fall due (R377) -/

theorem mem_parityInputs {parity i : Nat} (hp : parity < 2) : i ∈ parityInputs parity ↔ i < 16 ∧ i % 2 = parity := by
  simp only [parityInputs, List.mem_map, List.mem_range]
  constructor
  · rintro ⟨k, hk, rfl⟩
    omega
  · rintro ⟨hi, hpar⟩
    exact ⟨i / 2, by omega, by omega⟩

/-- The first due tick after one is no later than any due tick after it. -/
theorem State.nextDue_le {s : State} {i seen t : Nat} (hseen : seen < t)
    (hdue : t % max 1 (s.rd F.SNS_IN_CFG_PERIOD_MS i) = i / 2) : s.nextDue i seen ≤ t := by
  unfold State.nextDue
  dsimp only
  have hpos : 0 < max 1 (s.rd F.SNS_IN_CFG_PERIOD_MS i) := by omega
  generalize max 1 (s.rd F.SNS_IN_CFG_PERIOD_MS i) = p at hpos hdue
  obtain ⟨d, rfl⟩ : ∃ d, t = seen + 1 + d := ⟨t - (seen + 1), by omega⟩
  have hfrom := Nat.mod_lt (seen + 1) hpos
  have hwait := Nat.mod_lt d hpos
  suffices h : (i / 2 + p - (seen + 1) % p) % p = d % p by
    have := Nat.mod_le d p
    omega
  rw [Nat.add_mod] at hdue
  by_cases hwrap : (seen + 1) % p + d % p < p
  · rw [Nat.mod_eq_of_lt hwrap] at hdue
    rw [show i / 2 + p - (seen + 1) % p = d % p + p by omega, Nat.add_mod_right, Nat.mod_mod]
  · rw [Nat.mod_eq_sub_mod (Nat.le_of_not_lt hwrap), Nat.mod_eq_of_lt (by omega)] at hdue
    rw [show i / 2 + p - (seen + 1) % p = d % p by omega, Nat.mod_mod]

/-- The waits of the inputs after input i has been looked at: one that fell due waits from its due tick on. -/
def State.noteInput (s : State) (seen : Nat) (w : List (Option Nat)) (i : Nat) : List (Option Nat) :=
  if (w.getD i none).isNone && s.pulsed i && decide (s.nextDue i seen ≤ s.clk.tick) then w.set i (some (s.nextDue i seen)) else w

/-- The waits of the inputs after those of a parity that fell due have been noted. -/
def State.dueWaiting (s : State) (parity : Nat) : List (Option Nat) :=
  (parityInputs parity).foldl (s.noteInput (s.sns.seen.getD parity 0)) s.sns.waiting

/-- s with these waits of the inputs. -/
def State.putWaiting (s : State) (w : List (Option Nat)) : State := s.onSns fun x => { x with waiting := w }

/-- What noting the due inputs does to the state for input i. -/
def State.noteStep (seen : Nat) (s : State) (i : Nat) : State :=
  if (s.sns.waiting.getD i none).isNone && s.pulsed i && decide (s.nextDue i seen ≤ s.clk.tick) then
    s.onSns fun x => { x with waiting := x.waiting.set i (some (s.nextDue i seen)) }
  else s

theorem State.noteStep_putWaiting (s : State) (seen : Nat) (w : List (Option Nat)) (i : Nat) :
    (s.putWaiting w).noteStep seen i = s.putWaiting (s.noteInput seen w i) := by
  unfold State.noteInput
  exact (apply_ite s.putWaiting _ _ _).symm

/-- The state after the due inputs of a parity have been noted, with these waits. -/
def State.noted (s : State) (parity : Nat) (w : List (Option Nat)) : State :=
  s.onSns fun x => { x with waiting := w, seen := x.seen.set parity s.clk.tick }

theorem State.noteDue_steps (s : State) (parity : Nat) : s.noteDue parity =
    (fun u : State => u.onSns fun x => { x with seen := x.seen.set parity u.clk.tick })
      (s.forEach (parityInputs parity) (State.noteStep (s.sns.seen.getD parity 0))) := by
  unfold State.noteDue
  dsimp only
  unfold State.noteStep
  rfl

theorem State.noteDue_eq (s : State) (parity : Nat) : s.noteDue parity = s.noted parity (s.dueWaiting parity) := by
  have hrun : s.forEach (parityInputs parity) (State.noteStep (s.sns.seen.getD parity 0)) = s.putWaiting (s.dueWaiting parity) :=
    List.foldl_hom s.putWaiting (s.noteStep_putWaiting _)
  rw [State.noteDue_steps, hrun]
  generalize s.dueWaiting parity = w
  rfl

section
variable {s : State} {seen : Nat} {w : List (Option Nat)} {i j : Nat}

theorem State.length_noteInput : (s.noteInput seen w j).length = w.length := by
  unfold State.noteInput
  split
  · exact List.length_set
  · rfl

/-- An input that waits goes on waiting. -/
theorem State.noteInput_waits (h : (w.getD i none).isSome = true) : ((s.noteInput seen w j).getD i none).isSome = true := by
  unfold State.noteInput
  split
  · next hnew =>
    have hij : i ≠ j := by
      rintro rfl
      rw [Option.isNone_eq_false_iff.2 h] at hnew
      cases hnew
    rwa [getD_set_ne w hij]
  · exact h

/-- An input that runs pulses and has fallen due waits. -/
theorem State.noteInput_due (hi : i < w.length) (hpulsed : s.pulsed i = true) (hdue : s.nextDue i seen ≤ s.clk.tick) :
    ((s.noteInput seen w i).getD i none).isSome = true := by
  unfold State.noteInput
  split
  · rw [getD_set_same hi]
    rfl
  · next h => simpa [hpulsed, hdue, Option.isSome_iff_ne_none] using h

end

/-- Once noted, an input that has fallen due in the present tick waits. -/
theorem State.dueWaiting_due {s : State} {parity i : Nat} (hlen : s.sns.waiting.length = 16) (hi : i < 16)
    (hmem : i ∈ parityInputs parity) (hpulsed : s.pulsed i = true)
    (hdue : s.nextDue i (s.sns.seen.getD parity 0) ≤ s.clk.tick) : ∃ k, (s.dueWaiting parity).getD i none = some k := by
  refine Option.isSome_iff_exists.1 ?_
  exact foldl_of_mem (P := fun w : List (Option Nat) => (w.getD i none).isSome = true) (Q := fun w => w.length = 16) hmem hlen
    (fun w j _ hw => State.length_noteInput.trans hw) (fun w hw => State.noteInput_due (hw.symm ▸ hi) hpulsed hdue)
    (fun w j _ hw => State.noteInput_waits hw)

theorem State.length_dueWaiting (s : State) (parity : Nat) : (s.dueWaiting parity).length = s.sns.waiting.length :=
  List.foldlRecOn (motive := fun w : List (Option Nat) => w.length = s.sns.waiting.length) (parityInputs parity) _ rfl
    fun _ hw _ _ => State.length_noteInput.trans hw

/-! ### The input that has waited longest (R377) -/

/-- The longest-waiting of the inputs looked at so far and of input i. -/
def State.longerWaiting (s : State) (best : Option Nat) (i : Nat) : Option Nat :=
  match if s.pulsed i then s.sns.waiting.getD i none else none with
  | none => best
  | some k =>
    match best with
    | none => some i
    | some b => if k < (s.sns.waiting.getD b none).getD 0 then some i else some b

theorem State.longestWaiting_eq (s : State) (parity : Nat) :
    s.longestWaiting parity = (parityInputs parity).foldl s.longerWaiting none := rfl

theorem State.longerWaiting_idle {s : State} {i : Nat} (h : s.pulsed i = false) (best : Option Nat) :
    s.longerWaiting best i = best := by
  simp [State.longerWaiting, h]

/-- An input that waits is the longest-waiting one where no other has been. -/
theorem State.longerWaiting_sole {s : State} {i k : Nat} (hpulsed : s.pulsed i = true)
    (hwait : s.sns.waiting.getD i none = some k) {best : Option Nat} (hbest : best = none ∨ best = some i) :
    s.longerWaiting best i = some i := by
  rcases hbest with rfl | rfl <;> simp only [State.longerWaiting, hpulsed, hwait, if_true, ite_self]

theorem State.longestWaiting_none {s : State} {parity : Nat} (h : ∀ j ∈ parityInputs parity, s.pulsed j = false) :
    s.longestWaiting parity = none := by
  rw [State.longestWaiting_eq]
  exact List.foldlRecOn (motive := fun best => best = none) _ _ rfl fun best hbest j hj =>
    (State.longerWaiting_idle (h j hj) best).trans hbest

/-- The only input of a parity that runs pulses is the longest-waiting one once it waits. -/
theorem State.longestWaiting_sole {s : State} {parity i k : Nat} (hmem : i ∈ parityInputs parity) (hpulsed : s.pulsed i = true)
    (hwait : s.sns.waiting.getD i none = some k) (hothers : ∀ j ∈ parityInputs parity, j ≠ i → s.pulsed j = false) :
    s.longestWaiting parity = some i := by
  have hkeep {P : Option Nat → Prop} (hi : ∀ best, P best → P (s.longerWaiting best i)) (best : Option Nat) (j : Nat)
      (hj : j ∈ parityInputs parity) (hbest : P best) : P (s.longerWaiting best j) := by
    rcases eq_or_ne j i with rfl | hji
    · exact hi best hbest
    · rwa [State.longerWaiting_idle (hothers j hj hji)]
  have hsole {best : Option Nat} := State.longerWaiting_sole hpulsed hwait (best := best)
  rw [State.longestWaiting_eq]
  exact foldl_of_mem (P := fun best => best = some i) (Q := fun best => best = none ∨ best = some i) hmem (.inl rfl)
    (hkeep fun best hbest => .inr (hsole hbest)) (fun best => hsole) (hkeep fun best hbest => hsole (.inr hbest))

/-! ### The slot of a parity on a tick (R377, R378) -/

/-- The excitation of input i switches on in the slot of a parity. -/
def State.excite (s : State) (parity i : Nat) : State :=
  s.onSns fun x => { x with
    waiting := x.waiting.set i none
    last := x.last.set parity (some s.clk.tick)
    pulses := x.pulses.set parity
      (some { input := i, mode := s.rd F.SNS_IN_CFG_MODE i, iexc := s.rd F.SNS_IEXC_CAL_NA i }) }

theorem State.doSensorPulse_idle {s : State} {parity : Nat} (hp : parity < 2)
    (h : s.sns.on = false ∨ s.rdB F.SNS_CTL_EN = false ∨ s.sns.last.getD parity none = some s.clk.tick) :
    s.doSensorPulse parity = s := by
  rw [State.doSensorPulse, Nat.mod_eq_of_lt hp]
  refine if_pos ?_
  rcases h with h | h | h <;> simp only [h, Bool.not_false, Bool.true_or, Bool.or_true, beq_self_eq_true]

section
variable {s : State} {parity : Nat} (hp : parity < 2) (hon : s.sns.on = true) (hen : s.rdB F.SNS_CTL_EN = true)
  (hfree : s.sns.last.getD parity none ≠ some s.clk.tick)
include hp hon hen hfree

/-- A free slot serves the input that has waited longest, if one waits. -/
theorem State.doSensorPulse_free : s.doSensorPulse parity =
    ((s.noteDue parity).longestWaiting parity).elim (s.noteDue parity) ((s.noteDue parity).excite parity) := by
  have hslot : (!s.sns.on || !s.rdB F.SNS_CTL_EN || s.sns.last.getD parity none == some s.clk.tick) = false := by
    simp only [hon, hen, Bool.not_true, Bool.false_or, beq_eq_false_iff_ne, ne_eq, hfree, not_false_eq_true]
  rw [State.doSensorPulse, Nat.mod_eq_of_lt hp, hslot, if_neg Bool.false_ne_true]
  dsimp only
  split <;> next h => rw [h]; rfl

/-- The only input of a parity that runs pulses and falls due is excited. -/
theorem State.doSensorPulse_sole {i : Nat} (hlen : s.sns.waiting.length = 16) (hmem : i ∈ parityInputs parity)
    (hpulsed : s.pulsed i = true) (hothers : ∀ j ∈ parityInputs parity, j ≠ i → s.pulsed j = false)
    (hdue : s.nextDue i (s.sns.seen.getD parity 0) ≤ s.clk.tick) :
    ∃ w, w.length = 16 ∧ s.doSensorPulse parity = (s.noted parity w).excite parity i := by
  have hi := ((mem_parityInputs hp).1 hmem).1
  obtain ⟨k, hwait⟩ := State.dueWaiting_due hlen hi hmem hpulsed hdue
  have hlength := (s.length_dueWaiting parity).trans hlen
  rw [State.doSensorPulse_free hp hon hen hfree, State.noteDue_eq]
  generalize s.dueWaiting parity = w at hwait hlength
  have hnext : (s.noted parity w).longestWaiting parity = some i :=
    State.longestWaiting_sole (s := s.noted parity w) hmem hpulsed hwait hothers
  exact ⟨w, hlength, by rw [hnext]; rfl⟩

/-- Where no input of a parity runs pulses, its slot stays empty. -/
theorem State.doSensorPulse_none (hnone : ∀ j ∈ parityInputs parity, s.pulsed j = false) :
    ∃ w, s.doSensorPulse parity = s.noted parity w := by
  rw [State.doSensorPulse_free hp hon hen hfree, State.noteDue_eq]
  generalize s.dueWaiting parity = w
  have hnext : (s.noted parity w).longestWaiting parity = none := State.longestWaiting_none (s := s.noted parity w) hnone
  exact ⟨w, by rw [hnext]; rfl⟩

end

end Sys2Proof.Machine
end

section
/-! SUPPORT. Conversions of the slow sensors (R376, R378, R379): what an OPEN conversion and one that passes leave. -/

namespace Sys2Proof.Machine

theorem Kept.sns {m : Nat} {r t : State} (h : Kept m r t) (hm : hasBit m 4194304 = false) : t.sns = r.sns := by
  rw [h.eq_withParts]
  simp only [State.withParts, hm, cond_false]

theorem State.Sound.report_sns {s : State} (hs : s.Sound) (c l d : Nat) : (s.report c l d).sns = s.sns :=
  (State.report_kept s c l d (hs.kept 518) rfl).sns rfl

/-- A field of another register is apart from a flag and its count. -/
theorem apart_flagFields {x : RegField} {a : Nat} (h : x.1.addr x.2 ≠ a) (k : Nat) : ∀ y ∈ flagFields a k, FieldsApart x y := by
  intro y hy
  refine .inl ?_
  rcases List.mem_pair.1 hy with rfl | rfl <;> exact h

/-! ### What both kinds of conversion do (R378) -/

/-- The pulse x of a slot has ended: it is gone, its input's switches are to be evaluated, and CONV_CNT has counted. -/
def State.pulseEnded (s : State) (parity : Nat) (x : Pulse) : State :=
  (s.onSns fun y => { y with pulses := y.pulses.set parity none, toEval := y.toEval ++ [(x.input, s.clk.tick)] }).wr
    F.SNS_IN_STAT_CONV_CNT x.input ((s.rd F.SNS_IN_STAT_CONV_CNT x.input + 1) % 256)

/-- Input i shows a conversion's CODE, VALUE and OPEN. -/
def State.resultShown (s : State) (i code value mark : Nat) : State :=
  ((s.wr F.SNS_IN_STAT_CODE i code).wr F.SNS_IN_VALUE_VALUE i value).wr F.SNS_IN_STAT_OPEN i mark

/-- The fields that a conversion of input i writes. -/
abbrev conversionFields (i : Nat) : List RegField :=
  [(F.SNS_IN_STAT_CODE, i), (F.SNS_IN_VALUE_VALUE, i), (F.SNS_IN_STAT_OPEN, i), (F.SNS_IN_STAT_CONV_CNT, i)] ++
    flagFields F.SNS_EVT 0

theorem FieldsKept.pulseEnded {s : State} (h : tableWf coldWord s.regs = true) (parity : Nat) (x : Pulse) {W : List RegField}
    (hW : (F.SNS_IN_STAT_CONV_CNT, x.input) ∈ W) : FieldsKept W s (s.pulseEnded parity x) :=
  FieldsKept.wr (t := s.onSns _) ((FieldsKept.refl h W).congr rfl) (.inl hW) _

theorem FieldsKept.resultShown {W : List RegField} {r t : State} (h : FieldsKept W r t) {i : Nat}
    (hW : ∀ y ∈ [(F.SNS_IN_STAT_CODE, i), (F.SNS_IN_VALUE_VALUE, i), (F.SNS_IN_STAT_OPEN, i)], y ∈ W)
    (code value mark : Nat) : FieldsKept W r (t.resultShown i code value mark) :=
  ((h.wr (.inl (hW _ (by simp))) code).wr (.inl (hW _ (by simp))) value).wr (.inl (hW _ (by simp))) mark

section
variable {s : State} (h : tableWf coldWord s.regs = true) (i code value mark : Nat)
include h

theorem State.rd_resultShown_code : (s.resultShown i code value mark).rd F.SNS_IN_STAT_CODE i = code % 2 ^ 16 := by
  have hcode := State.wf_wr h F.SNS_IN_STAT_CODE i code
  refine (State.rd_wr_ne (State.wf_wr hcode _ _ _) _ _ _ _ _ (.inr (by decide))).trans ?_
  refine (State.rd_wr_ne hcode _ _ _ _ _ (.inl ?_)).trans (State.rd_wr h _ i code (by decide))
  simp only [Fld.addr]
  omega

theorem State.rd_resultShown_value : (s.resultShown i code value mark).rd F.SNS_IN_VALUE_VALUE i = value % 2 ^ 32 := by
  have hcode := State.wf_wr h F.SNS_IN_STAT_CODE i code
  refine (State.rd_wr_ne (State.wf_wr hcode _ _ _) _ _ _ _ _ (.inl ?_)).trans (State.rd_wr hcode _ i value (by decide))
  simp only [Fld.addr]
  omega

theorem State.rd_resultShown_open : (s.resultShown i code value mark).rd F.SNS_IN_STAT_OPEN i = mark % 2 :=
  State.rd_wr (State.wf_wr (State.wf_wr h _ _ _) _ _ _) F.SNS_IN_STAT_OPEN i mark (by decide)

theorem State.rd_resultShown_count :
    (s.resultShown i code value mark).rd F.SNS_IN_STAT_CONV_CNT i = s.rd F.SNS_IN_STAT_CONV_CNT i := by
  have hcode := State.wf_wr h F.SNS_IN_STAT_CODE i code
  refine (State.rd_wr_ne (State.wf_wr hcode _ _ _) _ _ _ _ _ (.inr (by decide))).trans ?_
  refine (State.rd_wr_ne hcode _ _ _ _ _ (.inl ?_)).trans (State.rd_wr_ne h _ _ _ _ _ (.inr (by decide)))
  simp only [Fld.addr]
  omega

end

/-- What a conversion of the pulse x with these CODE, VALUE and OPEN leaves in the registers. -/
structure State.Converted (s t : State) (x : Pulse) (code value mark : Nat) : Prop where
  count : t.rd F.SNS_IN_STAT_CONV_CNT x.input = (s.rd F.SNS_IN_STAT_CONV_CNT x.input + 1) % 256
  code : t.rd F.SNS_IN_STAT_CODE x.input = code % 2 ^ 16
  value : t.rd F.SNS_IN_VALUE_VALUE x.input = value % 2 ^ 32
  mark : t.rd F.SNS_IN_STAT_OPEN x.input = mark % 2
  fields : FieldsKept (conversionFields x.input) s t

/-- Whatever follows may set OPEN_SEEN and report a fault. -/
theorem State.Converted.of_kept {s u t : State} (hwf : tableWf coldWord s.regs = true) {parity : Nat} {x : Pulse}
    {code value mark : Nat} (hi : x.input < 16) (hu : u.regs = (s.pulseEnded parity x).regs)
    (ht : FieldsKept (flagFields F.SNS_EVT 0) (u.resultShown x.input code value mark) t) : s.Converted t x code value mark := by
  have hended := FieldsKept.pulseEnded hwf parity x (W := conversionFields x.input) (by simp)
  have hwfu : tableWf coldWord u.regs = true := hu ▸ hended.wf
  have hstat : MainAddr (F.SNS_IN_STAT_CODE.addr x.input) ∧ F.SNS_IN_STAT_CODE.addr x.input ≠ F.SNS_EVT := by
    simp only [MainAddr, Fld.addr, F.SNS_EVT]
    omega
  have hvalue : MainAddr (F.SNS_IN_VALUE_VALUE.addr x.input) ∧ F.SNS_IN_VALUE_VALUE.addr x.input ≠ F.SNS_EVT := by
    simp only [MainAddr, Fld.addr, F.SNS_EVT]
    omega
  have hcount : u.rd F.SNS_IN_STAT_CONV_CNT x.input = (s.rd F.SNS_IN_STAT_CONV_CNT x.input + 1) % 256 :=
    (State.rd_of_regs hu _ _).trans ((State.rd_wr hwf _ _ _ (by decide)).trans (Nat.mod_mod _ 256))
  refine ⟨?_, ?_, ?_, ?_, ?_⟩
  · exact (ht.same (F.SNS_IN_STAT_CONV_CNT, _) hstat.1 (apart_flagFields hstat.2 0)).trans
      ((State.rd_resultShown_count hwfu _ _ _ _).trans hcount)
  · exact (ht.same (F.SNS_IN_STAT_CODE, _) hstat.1 (apart_flagFields hstat.2 0)).trans (State.rd_resultShown_code hwfu _ _ _ _)
  · exact (ht.same (F.SNS_IN_VALUE_VALUE, _) hvalue.1 (apart_flagFields hvalue.2 0)).trans
      (State.rd_resultShown_value hwfu _ _ _ _)
  · exact (ht.same (F.SNS_IN_STAT_OPEN, _) hstat.1 (apart_flagFields hstat.2 0)).trans (State.rd_resultShown_open hwfu _ _ _ _)
  · exact ((hended.congr hu).resultShown (by simp) code value mark).trans (ht.mono (by simp))

/-! ### The two kinds of conversion (R379) -/

/-- Is the conversion of the pulse x OPEN? -/
def State.conversionOpen (s : State) (x : Pulse) (own odd : SensorSample) : Bool :=
  own.isOpen (s.rd F.SNS_CTL_STEP_LSB) || (x.mode == 3 && odd.isOpen (s.rd F.SNS_CTL_STEP_LSB))

/-- What the result codes of the pulse x give in its mode (R376). -/
def conversionValue (x : Pulse) (own odd : SensorSample) : Int := sensorValue x (own.s2 % 65536) (odd.s2 % 65536)

theorem conversionValue_word (x : Pulse) (s1 s2 : BitVec 16) (above : Bool) (t1 t2 : BitVec 16) (tabove : Bool) :
    conversionValue x ⟨s1.toNat, s2.toNat, above⟩ ⟨t1.toNat, t2.toNat, tabove⟩ = sensorValue x s2.toNat t2.toNat := by
  rw [conversionValue, Nat.mod_eq_of_lt s2.isLt, Nat.mod_eq_of_lt t2.isLt]

section
variable {s : State} {parity : Nat} (hp : parity < 2) {own odd : SensorSample}
include hp

theorem State.doSensorConversion_none (h : s.sns.pulses.getD parity none = none) : s.doSensorConversion parity own odd = s := by
  rw [State.doSensorConversion, Nat.mod_eq_of_lt hp, h]

variable {x : Pulse} (h : s.sns.pulses.getD parity none = some x)
include h

theorem State.doSensorConversion_open (hopen : s.conversionOpen x own odd = true) : ∃ l, s.doSensorConversion parity own odd =
    (((s.pulseEnded parity x).resultShown x.input 0xFFFF 0x7FFFFFFF 1).flag F.SNS_EVT 0).report (0x4100 + x.input) l
      0x7FFFFFFF := by
  rw [State.doSensorConversion, Nat.mod_eq_of_lt hp, h]
  exact ⟨_, if_pos hopen⟩

theorem State.doSensorConversion_passed (hopen : s.conversionOpen x own odd = false) :
    ∃ l, s.doSensorConversion parity own odd =
      (((s.pulseEnded parity x).show32 (conversionValue x own odd)).2.resultShown x.input own.s2
        ((s.pulseEnded parity x).show32 (conversionValue x own odd)).1 0).conditionOver
          (0x4100 + x.input) l := by
  rw [State.doSensorConversion, Nat.mod_eq_of_lt hp, h]
  exact ⟨_, if_neg (ne_true_of_eq_false hopen)⟩

variable (hs : s.Sound) (hi : x.input < 16)
include hs hi

/-- An OPEN conversion: CODE and VALUE at their ends, OPEN and OPEN_SEEN set. -/
theorem State.Sound.doSensorConversion_open (hopen : s.conversionOpen x own odd = true) :
    s.Converted (s.doSensorConversion parity own odd) x 0xFFFF 0x7FFFFFFF 1 ∧
    ((s.doSensorConversion parity own odd).regGet F.SNS_EVT).getLsbD 0 = true ∧
    (s.doSensorConversion parity own odd).sns = (s.pulseEnded parity x).sns := by
  obtain ⟨l, hl⟩ := State.doSensorConversion_open hp h hopen
  have hshown : Kept 4194308 s ((s.pulseEnded parity x).resultShown x.input 0xFFFF 0x7FFFFFFF 1) :=
    State.wr_kept _ _ _ _ (State.wr_kept _ _ _ _ (State.wr_kept _ _ _ _ (State.wr_kept _ _ _ _
      (State.onSns_kept _ _ (hs.kept _) rfl) rfl) rfl) rfl) rfl
  have hflag := State.flag_kept _ F.SNS_EVT 0 hshown rfl
  rw [hl]
  refine ⟨State.Converted.of_kept (parity := parity) hs.regs hi rfl ?_, ?_, hflag.sound.report_sns _ _ _⟩
  · exact ((FieldsKept.refl hshown.regs _).flag (.inl fun _ hy => hy)).report _ _ _
  · rw [((LowKept.refl hflag.regs).report _ _ _).low F.SNS_EVT (by decide), hshown.sound.regGet_flag, if_pos rfl]
    exact flagWord_flag _ (by decide)

/-- A conversion that passes both tests: CODE is S2, VALUE what the mode makes of it, and OPEN clears. -/
theorem State.Sound.doSensorConversion_passed (hopen : s.conversionOpen x own odd = false) :
    ∃ v, s.Converted (s.doSensorConversion parity own odd) x own.s2 v 0 ∧
      (-2 ^ 31 ≤ conversionValue x own odd → conversionValue x own odd < 2 ^ 31 →
        v = wrapBits 32 (conversionValue x own odd)) ∧
      (s.doSensorConversion parity own odd).sns = (s.pulseEnded parity x).sns := by
  obtain ⟨l, hl⟩ := State.doSensorConversion_passed hp h hopen
  have hended := FieldsKept.pulseEnded hs.regs parity x List.mem_cons_self (W := [(F.SNS_IN_STAT_CONV_CNT, x.input)])
  have honly := (s.pulseEnded parity x).show32_only (conversionValue x own odd)
  have hregs := congrArg State.regs honly
  have hshown := (FieldsKept.refl (hregs ▸ hended.wf) [(F.SNS_IN_STAT_CODE, x.input), (F.SNS_IN_VALUE_VALUE, x.input),
    (F.SNS_IN_STAT_OPEN, x.input)]).resultShown (fun _ hy => hy) own.s2
      ((s.pulseEnded parity x).show32 (conversionValue x own odd)).1 0
  rw [hl]
  refine ⟨_, State.Converted.of_kept hs.regs hi hregs ((FieldsKept.refl hshown.wf _).congr rfl), ?_,
    (congrArg State.sns honly :)⟩
  intro hlo hhi
  rw [State.show32, if_pos ⟨hlo, hhi⟩]

end

theorem State.Converted.rdS_value {s t : State} {x : Pulse} {code mark : Nat} {v : Int}
    (h : s.Converted t x code (wrapBits 32 v) mark) (hlo : -2 ^ 31 ≤ v) (hhi : v < 2 ^ 31) :
    t.rdS F.SNS_IN_VALUE_VALUE x.input = v := by
  rw [State.rdS, h.value, signed, Nat.mod_mod]
  exact signed_wrapBits hlo hhi

theorem State.Converted.rdB_open {s t : State} {x : Pulse} {code value : Nat} {b : Bool}
    (h : s.Converted t x code value b.toNat) : t.rdB F.SNS_IN_STAT_OPEN x.input = b := by
  rw [State.rdB, h.mark]
  cases b <;> rfl

end Sys2Proof.Machine
end

section
/-! SUPPORT. Threshold switches (R381): what the rule makes of a switch's count and state, and what its evaluation leaves. -/

namespace Sys2Proof.Machine

/-! ### A bit set or cleared in a word -/

theorem testBit_add_two_pow {v j : Nat} (h : v.testBit j = false) (m : Nat) :
    (v + 2 ^ j).testBit m = if m = j then true else v.testBit m := by
  split
  · next e => rw [e, Nat.add_comm, Nat.testBit_two_pow_add_eq, h, Bool.not_false]
  · next hm =>
    rcases Nat.lt_or_gt_of_ne hm with hlt | hgt
    · rw [Nat.add_comm, Nat.testBit_two_pow_add_gt hlt]
    · obtain ⟨k, rfl⟩ : ∃ k, m = k + 1 + j := ⟨m - j - 1, by omega⟩
      have heven : v / 2 ^ j % 2 = 0 := by
        simpa [Nat.testBit_eq_decide_div_mod_eq] using h
      rw [Nat.testBit_add (v + 2 ^ j), Nat.testBit_add v (k + 1), Nat.add_div_right _ (Nat.two_pow_pos j),
        Nat.testBit_add_one, Nat.testBit_add_one]
      congr 1
      omega

theorem testBit_sub_two_pow {v j : Nat} (h : v.testBit j = true) (m : Nat) :
    (v - 2 ^ j).testBit m = if m = j then false else v.testBit m := by
  obtain ⟨u, rfl⟩ : ∃ u, v = u + 2 ^ j := ⟨v - 2 ^ j, (Nat.sub_add_cancel (Nat.ge_two_pow_of_testBit h)).symm⟩
  have hclear : u.testBit j = false := by
    rwa [Nat.add_comm, Nat.testBit_two_pow_add_eq, Bool.not_eq_true'] at h
  rw [Nat.add_sub_cancel, testBit_add_two_pow hclear]
  split
  · next e => rw [e, hclear]
  · rfl

/-! ### A switch changes (R381, R382) -/

/-- The fields that a change of a switch writes. -/
abbrev switchFields : List RegField := (F.SNS_SW_STAT_STATE, 0) :: flagFields F.SNS_EVT 1

/-- The settings of the switches lie behind those fields. -/
theorem apart_switchFields {x : RegField} (h : 0x340008 < x.1.addr x.2) : ∀ y ∈ switchFields, FieldsApart x y := by
  refine List.forall_mem_cons.2 ⟨.inl (Nat.ne_of_gt h), apart_flagFields ?_ 1⟩
  unfold F.SNS_EVT
  omega

/-- The state after switch j's bit of SNS_SW_STAT has changed and SW_SEEN has been set. -/
def State.switchSet (s : State) (j : Nat) (on : Bool) : State :=
  (s.wr F.SNS_SW_STAT_STATE 0 (if on then s.rd F.SNS_SW_STAT_STATE + 2 ^ j else s.rd F.SNS_SW_STAT_STATE - 2 ^ j)).flag F.SNS_EVT 1

theorem State.setSwitch_same {s : State} {j : Nat} {on : Bool} (h : s.switchOn j = on) : s.setSwitch j on = s :=
  if_pos (beq_iff_eq.2 h)

/-- A change of a switch may report an incident or end its condition. -/
theorem State.setSwitch_change {s : State} {j : Nat} {on : Bool} (h : s.switchOn j ≠ on) :
    (∃ c l, s.setSwitch j on = (s.switchSet j on).conditionOver c l) ∨
    (∃ c l d, s.setSwitch j on = (s.switchSet j on).report c l d) ∨ s.setSwitch j on = s.switchSet j on := by
  rw [State.setSwitch, if_neg (mt beq_iff_eq.1 h)]
  cases on
  case false => exact .inl ⟨_, _, rfl⟩
  case true =>
    by_cases hact : (s.switchSet j true).rd F.SNS_SW_CFG_ACTION j = 1
    · exact .inr (.inl ⟨_, _, _, if_pos hact⟩)
    · exact .inr (.inr (if_neg hact))

section
variable {s : State} (hs : s.Sound) (j : Nat)
include hs

theorem State.Sound.switchOn_switchSet {j : Nat} {on : Bool} (h : s.switchOn j ≠ on) {m : Nat} (hm : m < 32) :
    (s.switchSet j on).switchOn m = if m = j then on else s.switchOn m := by
  have hset := State.wf_wr hs.regs F.SNS_SW_STAT_STATE 0
    (if on then s.rd F.SNS_SW_STAT_STATE + 2 ^ j else s.rd F.SNS_SW_STAT_STATE - 2 ^ j)
  have hstate := ((FieldsKept.refl hset (flagFields F.SNS_EVT 1)).flag (.inl fun _ hy => hy)).same (F.SNS_SW_STAT_STATE, 0)
    (by decide) (apart_flagFields (by decide) 1)
  rw [State.switchOn, State.switchSet, hstate, State.rd_wr hs.regs _ _ _ (by decide), Nat.testBit_mod_two_pow,
    decide_eq_true hm, Bool.true_and]
  cases on
  · exact testBit_sub_two_pow (Bool.ne_false_iff.1 h) m
  · exact testBit_add_two_pow (eq_false_of_ne_true h) m

/-- Once switch j has been set it is in that state; other switches, other registers and the sensors' own state stay. -/
theorem State.Sound.setSwitch_outcome (on : Bool) :
    (∀ m < 32, (s.setSwitch j on).switchOn m = if m = j then on else s.switchOn m) ∧
    FieldsKept switchFields s (s.setSwitch j on) ∧ (s.setSwitch j on).sns = s.sns := by
  have hsns : (s.setSwitch j on).sns = s.sns := (State.setSwitch_kept s j on (hs.kept 518) rfl).sns rfl
  by_cases h : s.switchOn j = on
  · rw [State.setSwitch_same h]
    refine ⟨fun m _ => ?_, .refl hs.regs _, rfl⟩
    split
    · next e => rw [e, h]
    · rfl
  · have hset : FieldsKept switchFields s (s.switchSet j on) :=
      ((FieldsKept.refl hs.regs _).wr (.inl List.mem_cons_self) _).flag (.inl fun _ hy => List.mem_cons_of_mem _ hy)
    have hafter : FieldsKept [] (s.switchSet j on) (s.setSwitch j on) := by
      rcases State.setSwitch_change h with ⟨c, l, e⟩ | ⟨c, l, d, e⟩ | e <;> rw [e]
      · exact (FieldsKept.refl hset.wf _).congr rfl
      · exact (FieldsKept.refl hset.wf _).report _ _ _
      · exact .refl hset.wf _
    refine ⟨fun m hm => ?_, hset.trans (hafter.mono (by simp)), hsns⟩
    rw [← hs.switchOn_switchSet h hm, State.switchOn, State.switchOn,
      hafter.same (F.SNS_SW_STAT_STATE, 0) (by decide) (by simp)]

end

/-! ### The rule of a switch (R381) -/

/-- Does switch j want to change at the VALUE of its input? -/
def State.switchDue (s : State) (j : Nat) : Bool :=
  switchWants (s.rdB F.SNS_SW_CFG_DIR j) (s.switchOn j) (s.rdS F.SNS_IN_VALUE_VALUE (j / 2)) (s.rdS F.SNS_SW_ON_ON_THR j)
    (s.rdS F.SNS_SW_OFF_OFF_THR j)

/-- The conversions in a row, with the present one, at which switch j has wanted to change. -/
def State.switchCount (s : State) (j : Nat) : Nat := if s.switchDue j then s.sns.counts.getD j 0 + 1 else 0

/-- The debounce count and the state that the rule of R381 gives switch j. -/
def State.switchNext (s : State) (j : Nat) : Nat × Bool :=
  if s.rdB F.SNS_IN_STAT_OPEN (j / 2) then (0, s.switchOn j || s.rdB F.SNS_SW_CFG_OPEN_ON j)
  else if s.switchCount j = s.rd F.SNS_SW_CFG_DEBOUNCE j ∧ s.switchCount j ≠ 0 then (0, !s.switchOn j)
  else (s.switchCount j, s.switchOn j)

section
variable {s : State} {j : Nat}

theorem State.switchNext_open (h : s.rdB F.SNS_IN_STAT_OPEN (j / 2) = true) :
    s.switchNext j = (0, s.switchOn j || s.rdB F.SNS_SW_CFG_OPEN_ON j) := if_pos h

variable (h : s.rdB F.SNS_IN_STAT_OPEN (j / 2) = false)
include h

theorem State.switchNext_passed : s.switchNext j =
    if s.switchCount j = s.rd F.SNS_SW_CFG_DEBOUNCE j ∧ s.switchCount j ≠ 0 then (0, !s.switchOn j)
    else (s.switchCount j, s.switchOn j) := if_neg (ne_true_of_eq_false h)

theorem State.switchNext_held (hdue : s.switchDue j = false) : s.switchNext j = (0, s.switchOn j) := by
  have hcount : s.switchCount j = 0 := if_neg (ne_true_of_eq_false hdue)
  rw [State.switchNext_passed h, hcount]
  exact if_neg fun hn => hn.2 rfl

variable (hdue : s.switchDue j = true)
include hdue

theorem State.switchNext_counts (hn : s.sns.counts.getD j 0 + 1 ≠ s.rd F.SNS_SW_CFG_DEBOUNCE j) :
    s.switchNext j = (s.sns.counts.getD j 0 + 1, s.switchOn j) := by
  have hcount : s.switchCount j = s.sns.counts.getD j 0 + 1 := if_pos hdue
  rw [State.switchNext_passed h, hcount]
  exact if_neg fun hd => hn hd.1

theorem State.switchNext_changes (hn : s.sns.counts.getD j 0 + 1 = s.rd F.SNS_SW_CFG_DEBOUNCE j) :
    s.switchNext j = (0, !s.switchOn j) := by
  have hcount : s.switchCount j = s.sns.counts.getD j 0 + 1 := if_pos hdue
  rw [State.switchNext_passed h, hcount]
  exact if_pos ⟨hn, Nat.succ_ne_zero _⟩

end

theorem State.evalSwitch_disabled {s : State} {j : Nat} (h : s.rdB F.SNS_SW_CFG_EN j = false) : s.evalSwitch j = s :=
  if_pos (by rw [h, Bool.not_false])

section
variable {s : State} {j : Nat} (hen : s.rdB F.SNS_SW_CFG_EN j = true)
include hen

theorem State.evalSwitch_open (h : s.rdB F.SNS_IN_STAT_OPEN (j / 2) = true) : s.evalSwitch j =
    if s.rdB F.SNS_SW_CFG_OPEN_ON j then (s.setSwitchCount j 0).setSwitch j true else s.setSwitchCount j 0 :=
  (if_neg (by simp [hen])).trans (if_pos h)

theorem State.evalSwitch_passed (h : s.rdB F.SNS_IN_STAT_OPEN (j / 2) = false) : s.evalSwitch j =
    if s.switchCount j = s.rd F.SNS_SW_CFG_DEBOUNCE j ∧ s.switchCount j ≠ 0 then (s.setSwitchCount j 0).setSwitch j !s.switchOn j
    else s.setSwitchCount j (s.switchCount j) :=
  (if_neg (by simp [hen])).trans (if_neg (ne_true_of_eq_false h))

/-- An enabled switch takes the count and the state of the rule. -/
theorem State.evalSwitch_enabled :
    s.evalSwitch j = (s.setSwitchCount j (s.switchNext j).1).setSwitch j (s.switchNext j).2 := by
  have hheld (n : Nat) : (s.setSwitchCount j n).setSwitch j (s.switchOn j) = s.setSwitchCount j n := State.setSwitch_same rfl
  cases h : s.rdB F.SNS_IN_STAT_OPEN (j / 2)
  case true =>
    rw [State.evalSwitch_open hen h, State.switchNext_open h]
    cases s.rdB F.SNS_SW_CFG_OPEN_ON j
    · rw [Bool.or_false, hheld, if_neg Bool.false_ne_true]
    · rw [Bool.or_true, if_pos rfl]
  case false =>
    rw [State.evalSwitch_passed hen h, State.switchNext_passed h]
    split
    · rfl
    · exact (hheld _).symm

end

/-- What the evaluation of an enabled switch leaves. -/
theorem State.Sound.evalSwitch_outcome {s : State} (hs : s.Sound) {j : Nat} (hen : s.rdB F.SNS_SW_CFG_EN j = true) :
    (∀ m < 32, (s.evalSwitch j).switchOn m = if m = j then (s.switchNext j).2 else s.switchOn m) ∧
    (s.evalSwitch j).sns = { s.sns with counts := s.sns.counts.set j (s.switchNext j).1 } ∧
    FieldsKept switchFields s (s.evalSwitch j) := by
  have hcount := (State.setSwitchCount_kept s j (s.switchNext j).1 (hs.kept 4194304) rfl).sound
  obtain ⟨hon, hfields, hsns⟩ := hcount.setSwitch_outcome j (s.switchNext j).2
  rw [State.evalSwitch_enabled hen]
  exact ⟨hon, hsns, ((FieldsKept.refl hs.regs _).congr (u := s.setSwitchCount j _) rfl).trans hfields⟩

/-! ### The evaluation of an input's switches (R378 step 6, R381) -/

theorem State.doSwitchEvaluate_none {s : State} {i : Nat} (h : ∀ x ∈ s.sns.toEval, x.1 ≠ i) : s.doSwitchEvaluate i = s := by
  have hnone : (s.sns.toEval.find? fun p => p.1 == i) = none :=
    List.find?_eq_none.2 fun x hx he => h x hx (beq_iff_eq.1 he)
  rw [State.doSwitchEvaluate, hnone]

/-- On the tick after the conversion x its input's switches are no longer to be evaluated. -/
def State.evaluating (s : State) (x : Nat × Nat) : State :=
  (s.toTick (x.2 + 1)).onSns fun y => { y with toEval := y.toEval.erase x }

theorem State.evaluating_sns (s : State) (x : Nat × Nat) : (s.evaluating x).sns = { s.sns with toEval := s.sns.toEval.erase x } := by
  rw [State.evaluating, s.toTick_only]
  rfl

theorem State.evaluating_regs (s : State) (x : Nat × Nat) : (s.evaluating x).regs = s.regs := s.toTick_regs _

theorem State.Sound.evaluating {s : State} (hs : s.Sound) (x : Nat × Nat) : (s.evaluating x).Sound :=
  (State.onSns_kept _ _ (State.toTick_kept s _ (hs.kept 4194320) rfl) rfl).sound

/-- The rule reads the registers and the counts alone. -/
theorem State.switchNext_congr {s t : State} (hregs : t.regs = s.regs) (hcounts : t.sns.counts = s.sns.counts) (j : Nat) :
    t.switchNext j = s.switchNext j := by
  have hrdB (f : Fld) (n : Nat) : t.rdB f n = s.rdB f n := by rw [State.rdB, State.rdB, State.rd_of_regs hregs]
  have hrdS (f : Fld) (n : Nat) : t.rdS f n = s.rdS f n := by rw [State.rdS, State.rdS, State.rd_of_regs hregs]
  have hon : t.switchOn j = s.switchOn j := by rw [State.switchOn, State.switchOn, State.rd_of_regs hregs]
  have hdue : t.switchDue j = s.switchDue j := by simp only [State.switchDue, hrdB, hrdS, hon]
  have hcount : t.switchCount j = s.switchCount j := by rw [State.switchCount, State.switchCount, hdue, hcounts]
  simp only [State.switchNext, hrdB, hon, hcount, State.rd_of_regs hregs]

section
variable {s : State} {i : Nat} {x : Nat × Nat} (hfind : (s.sns.toEval.find? fun p => p.1 == i) = some x)
  (hmode : s.rd F.SNS_IN_CFG_MODE i ≠ 0) (hratio : s.ratioPartner i = false)
include hfind hmode hratio

theorem State.doSwitchEvaluate_some :
    s.doSwitchEvaluate i = ((s.evaluating x).evalSwitch (2 * i)).evalSwitch (2 * i + 1) := by
  have hregs := s.evaluating_regs x
  have hruns : ¬ ((s.evaluating x).rd F.SNS_IN_CFG_MODE i = 0 ∨ (s.evaluating x).ratioPartner i = true) := by
    simp only [State.ratioPartner, State.rd_of_regs hregs] at hratio ⊢
    simp only [hmode, hratio, Bool.false_eq_true, or_self, not_false_eq_true]
  rw [State.doSwitchEvaluate, hfind]
  exact if_neg hruns

variable (hs : s.Sound) {j k : Nat} (hjk : (j, k) = (2 * i, 2 * i + 1) ∨ (j, k) = (2 * i + 1, 2 * i))
  (hj : s.rdB F.SNS_SW_CFG_EN j = true) (hk : s.rdB F.SNS_SW_CFG_EN k = false)
include hs hjk hj hk

/-- Where the other switch of the input is disabled, the evaluation is that of the one. -/
theorem State.Sound.doSwitchEvaluate_one (hi : i < 16) : s.doSwitchEvaluate i = (s.evaluating x).evalSwitch j := by
  have hen (n : Nat) : (s.evaluating x).rdB F.SNS_SW_CFG_EN n = s.rdB F.SNS_SW_CFG_EN n := by
    rw [State.rdB, State.rdB, State.rd_of_regs (s.evaluating_regs x)]
  rw [State.doSwitchEvaluate_some hfind hmode hratio]
  rcases hjk with e | e <;> obtain ⟨rfl, rfl⟩ := Prod.mk.inj e
  · obtain ⟨-, -, hfields⟩ := (hs.evaluating x).evalSwitch_outcome ((hen _).trans hj)
    refine State.evalSwitch_disabled (Eq.trans ?_ ((hen _).trans hk))
    rw [State.rdB, State.rdB, hfields.same (F.SNS_SW_CFG_EN, 2 * i + 1) (by simp only [MainAddr, Fld.addr]; omega)
      (apart_switchFields (by simp only [Fld.addr]; omega))]
  · rw [State.evalSwitch_disabled ((hen _).trans hk)]

/-- What the evaluation of an input with one enabled switch leaves. -/
theorem State.Sound.doSwitchEvaluate_outcome (hi : i < 16) (hfs : 0 < s.clk.fs) :
    x.2 + 1 ≤ (s.doSwitchEvaluate i).clk.tick ∧
    (s.doSwitchEvaluate i).sns =
      { s.sns with toEval := s.sns.toEval.erase x, counts := s.sns.counts.set j (s.switchNext j).1 } ∧
    (∀ m < 32, (s.doSwitchEvaluate i).switchOn m = if m = j then (s.switchNext j).2 else s.switchOn m) ∧
    FieldsKept switchFields s (s.doSwitchEvaluate i) := by
  have hregs := s.evaluating_regs x
  have hsound := hs.evaluating x
  have hnext : (s.evaluating x).switchNext j = s.switchNext j :=
    State.switchNext_congr hregs (congrArg Sns.counts (s.evaluating_sns x) :) j
  obtain ⟨hon, hsns, hfields⟩ := hsound.evalSwitch_outcome (j := j)
    (by rw [State.rdB, State.rd_of_regs hregs]; exact hj)
  rw [hs.doSwitchEvaluate_one hfind hmode hratio hjk hj hk hi]
  refine ⟨?_, ?_, fun m hm => ?_, ((FieldsKept.refl hs.regs _).congr hregs).trans hfields⟩
  · rw [(State.evalSwitch_kept _ j (hsound.kept 4194822) rfl).clk rfl]
    exact State.le_tick_toTick hfs _
  · rw [hsns, hnext, s.evaluating_sns]
  · rw [hon m hm, hnext, State.switchOn, State.rd_of_regs hregs, State.switchOn]

end

end Sys2Proof.Machine

open Sys2Proof Sys2Proof.Machine

/-- Settles O47, by the equation of each command for each state of its slot, pulse or switch, and by what a conversion and the rule
of a switch leave. -/
theorem slowSensors : Obligations.SlowSensors := by
  intro s hawake hfs hpulses hlast hwaiting hcounts
  have hs := hawake.sound
  have hpulse (parity : Fin 2) : exec (.sensorPulse parity) s = .next (s.doSensorPulse parity) :=
    hawake.next_keeperDo fun s => s.doSensorPulse parity
  have hconv (parity : Fin 2) (s1 s2 : BitVec 16) (above : Bool) (t1 t2 : BitVec 16) (tabove : Bool) :
      exec (.sensorConversion parity s1 s2 above t1 t2 tabove) s =
        .next (s.doSensorConversion parity ⟨s1.toNat, s2.toNat, above⟩ ⟨t1.toNat, t2.toNat, tabove⟩) :=
    hawake.next_keeperDo fun s => s.doSensorConversion parity ⟨s1.toNat, s2.toNat, above⟩ ⟨t1.toNat, t2.toNat, tabove⟩
  have heval (i : Fin 16) : exec (.switchEvaluate i) s = .next (s.doSwitchEvaluate i) :=
    hawake.next_keeperDo fun s => s.doSwitchEvaluate i
  refine ⟨fun parity h => ?_, fun parity i hon hen hfree hi hpar hpulsed hothers hseen hdue => ?_,
    fun parity hon hen hfree hnone => ?_, fun parity s1 s2 above t1 t2 tabove h => ?_,
    fun parity s1 s2 above t1 t2 tabove x bad h hi hbad => ?_, fun i h => ?_,
    fun i j k x hfind hmode hratio hjk hj hk => ?_⟩
  · rw [hpulse, State.doSensorPulse_idle parity.isLt h]
  · have hinputs (j : Nat) := mem_parityInputs (i := j) parity.isLt
    obtain ⟨w, hlen, hsole⟩ := State.doSensorPulse_sole parity.isLt hon hen hfree hwaiting ((hinputs i).2 ⟨hi, hpar⟩) hpulsed
      (fun j hj => hothers j ((hinputs j).1 hj).1 ((hinputs j).1 hj).2) (State.nextDue_le hseen hdue)
    exact ⟨_, hpulse parity, by rw [hsole]; rfl, by rw [hsole]; exact getD_set_same (hlen.symm ▸ hi) _ _, by rw [hsole]; rfl,
      by rw [hsole]; rfl⟩
  · obtain ⟨w, hslot⟩ := State.doSensorPulse_none parity.isLt hon hen hfree fun j hj =>
      hnone j ((mem_parityInputs parity.isLt).1 hj).1 ((mem_parityInputs parity.isLt).1 hj).2
    exact ⟨_, hpulse parity, by rw [hslot]; rfl, by rw [hslot]; rfl, by rw [hslot]; rfl⟩
  · rw [hconv, State.doSensorConversion_none parity.isLt h]
  · have hall := (State.doSensorConversion_kept s parity ⟨s1.toNat, s2.toNat, above⟩ ⟨t1.toNat, t2.toNat, tabove⟩
      (hs.kept 4194822) rfl).eq_withParts
    have hmain {t : State} {code value mark : Nat} (ht : s.Converted t x code value mark) :
        s.sameMain t [F.SNS_IN_STAT_CODE.addr x.input, F.SNS_IN_VALUE_VALUE.addr x.input, F.SNS_EVT] :=
      ht.fields.sameMain_of (by simp [Fld.addr, F.SNS_EVT])
    cases bad
    case true =>
      obtain ⟨ht, hevt, hsns⟩ := hs.doSensorConversion_open parity.isLt h hi hbad.symm
      exact ⟨_, hconv parity s1 s2 above t1 t2 tabove, hsns, ht.count, ht.rdB_open (b := true),
        fun _ => ⟨ht.code, ht.value, hevt⟩, fun hb => Bool.noConfusion hb, hmain ht, hall⟩
    case false =>
      obtain ⟨v, ht, hv, hsns⟩ := hs.doSensorConversion_passed parity.isLt h hi hbad.symm
      refine ⟨_, hconv parity s1 s2 above t1 t2 tabove, hsns, ht.count, ht.rdB_open (b := false), fun hb => Bool.noConfusion hb,
        fun _ => ⟨ht.code.trans (Nat.mod_eq_of_lt s2.isLt), fun hlo hhi => ?_⟩, hmain ht, hall⟩
      rw [conversionValue_word] at hv
      rw [hv hlo hhi] at ht
      exact ht.rdS_value hlo hhi
  · rw [heval, State.doSwitchEvaluate_none h]
  · obtain ⟨hinput, hjlt⟩ : j / 2 = i.val ∧ j < 32 := by
      have := i.isLt
      rcases hjk with e | e <;> obtain ⟨rfl, rfl⟩ := Prod.mk.inj e <;> omega
    have hall := (State.doSwitchEvaluate_kept s i (hs.kept 4194838) rfl).eq_withParts
    obtain ⟨htick, hsns, hon, hfields⟩ := hs.doSwitchEvaluate_outcome hfind hmode hratio hjk hj hk i.isLt hfs
    have hnext {n : Nat} {b : Bool} (h : s.switchNext j = (n, b)) :
        (s.doSwitchEvaluate i).sns.counts.getD j 0 = n ∧ (s.doSwitchEvaluate i).switchOn j = b := by
      rw [hsns, hon j hjlt, if_pos rfl, h]
      exact ⟨getD_set_same (hcounts.symm ▸ hjlt) n 0, rfl⟩
    refine ⟨_, heval i, htick, congrArg Sns.toEval hsns, fun m hm hmj => ⟨?_, ?_⟩, fun hopen => ?_, ?_, ?_, hall⟩
    · rw [hon m hm, if_neg hmj]
    · rw [hsns]
      exact getD_set_ne _ hmj _ _
    · exact hnext (State.switchNext_open (by rwa [hinput]))
    · rintro want n hopen hwant rfl
      have hdue : s.switchDue j = want := by rw [hwant, State.switchDue, hinput]
      rw [← hinput] at hopen
      exact ⟨fun hw => hnext (State.switchNext_held hopen (hdue.trans hw)),
        fun hw hn => hnext (State.switchNext_counts hopen (hdue.trans hw) hn),
        fun hw hn => hnext (State.switchNext_changes hopen (hdue.trans hw) hn)⟩
    · exact hfields.sameMain_of (by decide)
end

section
/-! SUPPORT. The line code (R248 to R253): descrambling, and the runs of identical bits that stuffing leaves. -/

namespace Sys2Proof.Machine

/-! ### Scrambling (R250) -/

theorem length_scramble (st : Nat) (bits : List Bool) : (scramble st bits).length = bits.length := by
  induction bits generalizing st with
  | nil => rfl
  | cons d bits ih => simp only [scramble, List.length_cons, ih]

/-- The scrambler adds a sequence that does not depend on the bits, so a second pass takes it away. -/
theorem scramble_scramble (st : Nat) (bits : List Bool) : scramble st (scramble st bits) = bits := by
  induction bits generalizing st with
  | nil => rfl
  | cons d bits ih => simp only [scramble, ih, Bool.xor_assoc, Bool.xor_self, Bool.xor_false]

/-! ### Runs on the line (R252) -/

/-- No run of more than 13 identical bits stands in a line that follows j bits c. -/
def RunsShort (j : Nat) (c : Bool) : List Bool → Prop
  | [] => True
  | b :: rest => (if b = c then j + 1 else 1) ≤ 13 ∧ RunsShort (if b = c then j + 1 else 1) b rest

theorem RunsShort.replicate {n : Nat} {b : Bool} {rest : List Bool} {j : Nat} (hj : j ≤ 13)
    (h : RunsShort j b (List.replicate n b ++ rest)) : j + n ≤ 13 := by
  induction n generalizing j with
  | zero => exact hj
  | succ n ih =>
    rw [List.replicate_succ, List.cons_append, RunsShort, if_pos rfl] at h
    have := ih h.1 h.2
    omega

/-- Wherever a run stands in such a line, it is short. -/
theorem RunsShort.length_le {pre : List Bool} {n : Nat} {b : Bool} {post : List Bool} {j : Nat} {c : Bool} (hj : j ≤ 13)
    (h : RunsShort j c (pre ++ List.replicate n b ++ post)) : n ≤ 13 := by
  induction pre generalizing j c with
  | nil =>
    cases n with
    | zero => exact Nat.zero_le 13
    | succ n =>
      rw [List.nil_append, List.replicate_succ, List.cons_append, RunsShort] at h
      have hrun := RunsShort.replicate h.1 h.2
      split at hrun <;> omega
  | cons a pre ih =>
    rw [List.cons_append, List.cons_append, RunsShort] at h
    exact ih h.1 h.2

/-- The run on the line is at most one longer than the transmitter's count, by the inserted bit that began it. -/
theorem runsShort_stuffFrom (bits : List Bool) {x : Nat × Bool} (hx : x.1 < 12) {j : Nat} {c : Bool} (hj : j ≤ x.1 + 1)
    (hc : 0 < x.1 → c = x.2) : RunsShort j c (stuffFrom x.1 x.2 bits) := by
  induction bits generalizing x j c with
  | nil => trivial
  | cons b bits ih =>
    have hrun : runWith x.1 x.2 b ≤ 12 ∧ (if b = c then j + 1 else 1) ≤ runWith x.1 x.2 b + 1 := by
      rw [runWith]
      by_cases hpos : 0 < x.1
      · rw [hc hpos]
        by_cases hb : b = x.2 <;> simp only [hpos, hb, and_self, and_false, if_true, if_false] <;> omega
      · simp only [hpos, false_and, if_false]
        split <;> omega
    rw [stuffFrom_cons, stuffedBit, runStep]
    obtain ⟨hle, hcount⟩ := hrun
    by_cases h12 : runWith x.1 x.2 b = 12
    · rw [if_pos h12, if_pos h12, List.cons_append, List.singleton_append, RunsShort, RunsShort, if_neg (Bool.not_ne_self b)]
      exact ⟨by omega, by decide, ih (Nat.succ_pos 11) (Nat.le_refl 1) fun h => absurd h (Nat.lt_irrefl 0)⟩
    · rw [if_neg h12, if_neg h12, List.singleton_append, RunsShort]
      exact ⟨by omega, ih (by change runWith x.1 x.2 b < 12; omega) hcount fun _ => rfl⟩

/-! ### The body of a frame (R273) -/

theorem length_bitsMsb (n v : Nat) : (bitsMsb n v).length = n := by
  rw [bitsMsb, List.length_map, List.length_range]

theorem length_frameBody (f : TxFrame) : (frameBody f).length = bodyBits f.words.length := by
  have hwords (ws : List LWord) : (ws.flatMap fun w => bitsMsb 64 w.toNat).length = 64 * ws.length := by
    simp [List.length_flatMap, length_bitsMsb, Nat.mul_comm]
  rw [frameBody, bodyBits, List.length_append, hwords, length_bitsMsb, List.length_cons]
  omega

end Sys2Proof.Machine

open Sys2Proof Sys2Proof.Machine

/-- Settles O55: the run on the line exceeds the transmitter's count by the inserted bit at most, and what the receiver has
destuffed is the scrambled body. -/
theorem lineCoding : Obligations.LineCoding := by
  obtain ⟨-, hback, -⟩ := stuffing
  refine ⟨scramble_scramble, fun bits pre run post b h hrun => ?_, fun st f rest => ?_, by decide +kernel⟩
  · rw [hrun] at h
    refine RunsShort.length_le (pre := pre) (b := b) (post := post) (Nat.zero_le 13) (c := false) ?_
    rw [← h]
    exact runsShort_stuffFrom bits (x := (0, false)) (by decide) (Nat.zero_le 1) fun h => absurd h (by decide)
  · refine ⟨stuff (scramble st (frameBody f)), rfl, ?_⟩
    rw [← length_frameBody, ← length_scramble st, hback, Option.map_some, scramble_scramble]
end

section
/-! SUPPORT. The footprint of a command: whatever it is, it answers a state that is sound if the state before was, and that has the
same queue of waiting commands. -/

namespace Sys2Proof.Machine

variable {msk : Nat} {ref : State}

/-- Every command, by the footprint of its operation. -/
theorem exec_kept (c : Instr) {s : State} (hs : Kept 268435454 ref s) : ∃ t, exec c s = .next t ∧ Kept 268435454 ref t := by
  cases c with
  | registerWrite _ _ _ => exact ⟨_, rfl, State.keeperDo_kept s _ (fun _ h => State.doRegisterWrite_kept (hs := h) (hm := rfl) ..) hs⟩
  | pairLowRead _ _ => exact ⟨_, rfl, State.keeperDo_kept s _ (fun _ h => State.doPairRead_kept (hs := h) (hm := rfl) ..) hs⟩
  | watchCellRead _ _ _ => exact ⟨_, rfl, State.keeperDo_kept s _ (fun _ h => State.doCellRead_kept (hs := h) (hm := rfl) ..) hs⟩
  | diagWindowRead _ _ => exact ⟨_, rfl, State.keeperDo_kept s _ (fun _ h => State.doDiagRead_kept (hs := h) (hm := rfl) ..) hs⟩
  | refclkLoss => exact ⟨_, rfl, State.keeperDo_kept s _ (fun _ h => State.doRefclkLoss_kept (hs := h) (hm := rfl) ..) hs⟩
  | elasticBufferOverflow _ _ => exact ⟨_, rfl, State.cxDo_kept s _ (fun _ h => State.doOverflow_kept (hs := h) (hm := rfl) ..) hs⟩
  | paceLoopTick _ => exact ⟨_, rfl, State.keeperDo_kept s _ (fun _ h => State.doPaceTick_kept (hs := h) (hm := rfl) ..) hs⟩
  | vcoreStepDown => exact ⟨_, rfl, State.cxDo_kept s _ (fun _ h => State.doStepDown_kept (hs := h) (hm := rfl) ..) hs⟩
  | paceFault => exact ⟨_, rfl, State.cxDo_kept s _ (fun _ h => State.doPaceFault_kept (hs := h) (hm := rfl) ..) hs⟩
  | autoFallback => exact ⟨_, rfl, State.cxDo_kept s _ (fun _ h => State.doAutoFallback_kept (hs := h) (hm := rfl) ..) hs⟩
  | paceSwitch _ => exact ⟨_, rfl, State.keeperDo_kept s _ (fun _ h => State.hostBit_kept (hs := h) (hm := rfl) ..) hs⟩
  | paceRestore _ => exact ⟨_, rfl, State.keeperDo_kept s _ (fun _ h => State.hostBit_kept (hs := h) (hm := rfl) ..) hs⟩
  | paceClrMin _ => exact ⟨_, rfl, State.keeperDo_kept s _ (fun _ h => State.hostBit_kept (hs := h) (hm := rfl) ..) hs⟩
  | rateSwitchIngestStop => exact ⟨_, rfl, State.cxDo_kept s _ (fun _ h => State.doSwitchStop_kept (hs := h) (hm := rfl) ..) hs⟩
  | rateSwitchRelock _ _ => exact ⟨_, rfl, State.cxDo_kept s _ (fun _ h => State.doRelock_kept (hs := h) (hm := rfl) ..) hs⟩
  | rateSwitchResume => exact ⟨_, rfl, State.cxDo_kept s _ (fun _ h => State.doSwitchResumeStart_kept (hs := h) (hm := rfl) ..) hs⟩
  | paceFaultClear => exact ⟨_, rfl, State.cxDo_kept s _ (fun _ h => State.doPaceClear_kept (hs := h) (hm := rfl) ..) hs⟩
  | streamPacketComplete _ _ _ _ => exact ⟨_, rfl, State.cxDo_kept s _ (fun _ h => State.doStreamPacket_kept (hs := h) (hm := rfl) ..) hs⟩
  | rawBlockWrite _ _ _ _ => exact ⟨_, rfl, State.cxDo_kept s _ (fun _ h => State.doRawBlock_kept (hs := h) (hm := rfl) ..) hs⟩
  | moduleIdWrite _ _ => exact ⟨_, rfl, State.keeperDo_kept s _ (fun _ h => State.hostWrite_kept (hs := h) (hm := rfl) ..) hs⟩
  | unitEnableWrite _ _ _ => exact ⟨_, rfl, State.keeperDo_kept s _ (fun _ h => State.hostWrite_kept (hs := h) (hm := rfl) ..) hs⟩
  | unitEnableTakeEffect => exact ⟨_, rfl, State.cxDo_kept s _ (fun _ h => State.doUnitEnableEffect_kept (hs := h) (hm := rfl) ..) hs⟩
  | stationWideReport _ => exact ⟨_, rfl, State.cxDo_kept s _ (fun _ h => State.doStationReport_kept (hs := h) (hm := rfl) ..) hs⟩
  | regionFault _ _ => exact ⟨_, rfl, State.cxDo_kept s _ (fun _ h => State.doRegionFault_kept (hs := h) (hm := rfl) ..) hs⟩
  | calSourceFault _ => exact ⟨_, rfl, State.cxDo_kept s _ (fun _ h => State.doSourceFault_kept (hs := h) (hm := rfl) ..) hs⟩
  | thermalThreshold _ _ => exact ⟨_, rfl, State.keeperDo_kept s _ (fun _ h => State.doThermal_kept (hs := h) (hm := rfl) ..) hs⟩
  | thermalRecover _ _ => exact ⟨_, rfl, State.keeperDo_kept s _ (fun _ h => State.doThermalRecover_kept (hs := h) (hm := rfl) ..) hs⟩
  | rangeWrite _ _ _ => exact ⟨_, rfl, State.keeperDo_kept s _ (fun _ h => State.hostWrite_kept (hs := h) (hm := rfl) ..) hs⟩
  | rangeChangeApply _ => exact ⟨_, rfl, State.cxDo_kept s _ (fun _ h => State.doRangeApply_kept (hs := h) (hm := rfl) ..) hs⟩
  | autoRangeDecision _ => exact ⟨_, rfl, State.cxDo_kept s _ (fun _ h => State.doAutoRange_kept (hs := h) (hm := rfl) ..) hs⟩
  | arThrWrite _ _ => exact ⟨_, rfl, State.keeperDo_kept s _ (fun _ h => State.hostWrite_kept (hs := h) (hm := rfl) ..) hs⟩
  | feedStateTick _ _ _ _ => exact ⟨_, rfl, State.keeperDo_kept s _ (fun _ h => State.doFeedTick_kept (hs := h) (hm := rfl) ..) hs⟩
  | feedEnWrite _ _ => exact ⟨_, rfl, State.keeperDo_kept s _ (fun _ h => State.hostWrite_kept (hs := h) (hm := rfl) ..) hs⟩
  | feedOverloadTrip _ => exact ⟨_, rfl, State.keeperDo_kept s _ (fun _ h => State.doFeedTrip_kept (hs := h) (hm := rfl) ..) hs⟩
  | feedRetry _ => exact ⟨_, rfl, State.keeperDo_kept s _ (fun _ h => State.doFeedRetry_kept (hs := h) (hm := rfl) ..) hs⟩
  | feedSweep _ => exact ⟨_, rfl, State.keeperDo_kept s _ (fun _ h => State.hostBit_kept (hs := h) (hm := rfl) ..) hs⟩
  | feedSweepPeriodic => exact ⟨_, rfl, State.keeperDo_kept s _ (fun _ h => State.doFeedSweepPeriodic_kept (hs := h) (hm := rfl) ..) hs⟩
  | feedSweepStartUp => exact ⟨_, rfl, State.keeperDo_kept s _ (fun _ h => State.doFeedSweepStartUp_kept (hs := h) (hm := rfl) ..) hs⟩
  | feedTestPulse _ => exact ⟨_, rfl, State.keeperDo_kept s _ (fun _ h => State.doFeedPulse_kept (hs := h) (hm := rfl) ..) hs⟩
  | feedPulseEnd _ _ => exact ⟨_, rfl, State.keeperDo_kept s _ (fun _ h => State.doFeedPulseEnd_kept (hs := h) (hm := rfl) ..) hs⟩
  | feedSweepEnd => exact ⟨_, rfl, State.keeperDo_kept s _ (fun _ h => State.doFeedSweepEnd_kept (hs := h) (hm := rfl) ..) hs⟩
  | vfeedUndervoltage _ => exact ⟨_, rfl, State.keeperDo_kept s _ (fun _ h => State.doVfeedUnder_kept (hs := h) (hm := rfl) ..) hs⟩
  | vfeedRecover _ => exact ⟨_, rfl, State.keeperDo_kept s _ (fun _ h => State.doVfeedRecover_kept (hs := h) (hm := rfl) ..) hs⟩
  | bgWindowEnd _ _ _ _ _ => exact ⟨_, rfl, State.cxDo_kept s _ (fun _ h => State.doBgWindow_kept (hs := h) (hm := rfl) ..) hs⟩
  | rehearsalStart _ _ => exact ⟨_, rfl, State.keeperDo_kept s _ (fun _ h => State.hostWrite_kept (hs := h) (hm := rfl) ..) hs⟩
  | rehearsalConnect _ => exact ⟨_, rfl, State.cxDo_kept s _ (fun _ h => State.doRehearsalConnect_kept (hs := h) (hm := rfl) ..) hs⟩
  | rehearsalPhase _ _ => exact ⟨_, rfl, State.cxDo_kept s _ (fun _ h => State.doRehearsalPhase_kept (hs := h) (hm := rfl) ..) hs⟩
  | rehearsalReconnect _ => exact ⟨_, rfl, State.cxDo_kept s _ (fun _ h => State.doRehearsalReconnect_kept (hs := h) (hm := rfl) ..) hs⟩
  | calSave _ => exact ⟨_, rfl, State.keeperDo_kept s _ (fun _ h => State.hostBit_kept (hs := h) (hm := rfl) ..) hs⟩
  | calSaveDone _ => exact ⟨_, rfl, State.cxDo_kept s _ (fun _ h => State.doCalSaveDone_kept (hs := h) (hm := rfl) ..) hs⟩
  | calLoad _ => exact ⟨_, rfl, State.keeperDo_kept s _ (fun _ h => State.hostBit_kept (hs := h) (hm := rfl) ..) hs⟩
  | regionPllLock _ _ => exact ⟨_, rfl, State.cxDo_kept s _ (fun _ h => State.doPllLock_kept (hs := h) (hm := rfl) ..) hs⟩
  | injectRequest _ _ => exact ⟨_, rfl, State.keeperDo_kept s _ (fun _ h => State.hostWrite_kept (hs := h) (hm := rfl) ..) hs⟩
  | injectWindowStart _ => exact ⟨_, rfl, State.cxDo_kept s _ (fun _ h => State.doInjectStart_kept (hs := h) (hm := rfl) ..) hs⟩
  | injectComplete _ => exact ⟨_, rfl, State.cxDo_kept s _ (fun _ h => State.doInjectComplete_kept (hs := h) (hm := rfl) ..) hs⟩
  | skewWrite _ _ _ => exact ⟨_, rfl, State.keeperDo_kept s _ (fun _ h => State.hostWrite_kept (hs := h) (hm := rfl) ..) hs⟩
  | skewChangeApply _ => exact ⟨_, rfl, State.cxDo_kept s _ (fun _ h => State.doSkewApply_kept (hs := h) (hm := rfl) ..) hs⟩
  | skewCalRequest _ _ => exact ⟨_, rfl, State.keeperDo_kept s _ (fun _ h => State.hostWrite_kept (hs := h) (hm := rfl) ..) hs⟩
  | skewCalComplete _ _ => exact ⟨_, rfl, State.cxDo_kept s _ (fun _ h => State.doSkewCalComplete_kept (hs := h) (hm := rfl) ..) hs⟩
  | notchWrite _ _ _ => exact ⟨_, rfl, State.keeperDo_kept s _ (fun _ h => State.hostWrite_kept (hs := h) (hm := rfl) ..) hs⟩
  | notchBwWrite _ _ _ => exact ⟨_, rfl, State.keeperDo_kept s _ (fun _ h => State.hostWrite_kept (hs := h) (hm := rfl) ..) hs⟩
  | notchChangeApply _ => exact ⟨_, rfl, State.cxDo_kept s _ (fun _ h => State.doNotchApply_kept (hs := h) (hm := rfl) ..) hs⟩
  | firBankSwap _ _ => exact ⟨_, rfl, State.keeperDo_kept s _ (fun _ h => State.hostBit_kept (hs := h) (hm := rfl) ..) hs⟩
  | chainConfigWrite _ _ _ _ => exact ⟨_, rfl, State.keeperDo_kept s _ (fun _ h => State.hostWrite_kept (hs := h) (hm := rfl) ..) hs⟩
  | chainChangeApply _ => exact ⟨_, rfl, State.cxDo_kept s _ (fun _ h => State.doChainApply_kept (hs := h) (hm := rfl) ..) hs⟩
  | spectrumFrame _ _ _ => exact ⟨_, rfl, State.cxDo_kept s _ (fun _ h => State.doSpectrumFrame_kept (hs := h) (hm := rfl) ..) hs⟩
  | prototypeSwap _ => exact ⟨_, rfl, State.keeperDo_kept s _ (fun _ h => State.hostBit_kept (hs := h) (hm := rfl) ..) hs⟩
  | prototypeSwapApply => exact ⟨_, rfl, State.cxDo_kept s _ (fun _ h => State.doProtoSwapApply_kept (hs := h) (hm := rfl) ..) hs⟩
  | chnEnWrite _ _ => exact ⟨_, rfl, State.keeperDo_kept s _ (fun _ h => State.hostField_kept (hs := h) (hm := rfl) ..) hs⟩
  | frameRecord => exact ⟨_, rfl, State.cxDo_kept s _ (fun _ h => State.doFrameRecord_kept (hs := h) (hm := rfl) ..) hs⟩
  | kChange _ _ _ => exact ⟨_, rfl, State.keeperDo_kept s _ (fun _ h => State.hostField_kept (hs := h) (hm := rfl) ..) hs⟩
  | segSwap _ => exact ⟨_, rfl, State.keeperDo_kept s _ (fun _ h => State.hostBit_kept (hs := h) (hm := rfl) ..) hs⟩
  | segSwapApply => exact ⟨_, rfl, State.cxDo_kept s _ (fun _ h => State.doSegSwapApply_kept (hs := h) (hm := rfl) ..) hs⟩
  | maskSwap _ => exact ⟨_, rfl, State.keeperDo_kept s _ (fun _ h => State.hostBit_kept (hs := h) (hm := rfl) ..) hs⟩
  | maskSwapApply => exact ⟨_, rfl, State.cxDo_kept s _ (fun _ h => State.doMaskSwapApply_kept (hs := h) (hm := rfl) ..) hs⟩
  | eccSweep _ _ _ => exact ⟨_, rfl, State.cxDo_kept s _ (fun _ h => State.doEccSweep_kept (hs := h) (hm := rfl) ..) hs⟩
  | detectorWindowEnd _ => exact ⟨_, rfl, State.cxDo_kept s _ (fun _ h => State.doDetectorWindowEnd_kept (hs := h) (hm := rfl) ..) hs⟩
  | impulseDetectorFire _ _ => exact ⟨_, rfl, State.cxDo_kept s _ (fun _ h => State.doImpulseFire_kept (hs := h) (hm := rfl) ..) hs⟩
  | triggerInputEdge _ _ _ _ => exact ⟨_, rfl, State.cxDo_kept s _ (fun _ h => State.doTriggerEdge_kept (hs := h) (hm := rfl) ..) hs⟩
  | softwareCue _ => exact ⟨_, rfl, State.keeperDo_kept s _ (fun _ h => State.hostBit_kept (hs := h) (hm := rfl) ..) hs⟩
  | cueProposal _ => exact ⟨_, rfl, State.cxDo_kept s _ (fun _ h => State.doCueProposal_kept (hs := h) (hm := rfl) ..) hs⟩
  | cueClose => exact ⟨_, rfl, State.cxDo_kept s _ (fun _ h => State.doCueClose_kept (hs := h) (hm := rfl) ..) hs⟩
  | trigOutEnd => exact ⟨_, rfl, State.cxDo_kept s _ (fun _ h => State.doTrigOutEnd_kept (hs := h) (hm := rfl) ..) hs⟩
  | budgetIntervalEnd => exact ⟨_, rfl, State.cxDo_kept s _ (fun _ h => State.doBudgetIntervalEnd_kept (hs := h) (hm := rfl) ..) hs⟩
  | snippetExtractStart => exact ⟨_, rfl, State.cxDo_kept s _ (fun _ h => State.doSnippetStart_kept (hs := h) (hm := rfl) ..) hs⟩
  | snippetComplete _ _ _ _ => exact ⟨_, rfl, State.cxDo_kept s _ (fun _ h => State.doSnippetComplete_kept (hs := h) (hm := rfl) ..) hs⟩
  | freeze _ => exact ⟨_, rfl, State.keeperDo_kept s _ (fun _ h => State.hostBit_kept (hs := h) (hm := rfl) ..) hs⟩
  | freezeStop => exact ⟨_, rfl, State.cxDo_kept s _ (fun _ h => State.doFreezeStop_kept (hs := h) (hm := rfl) ..) hs⟩
  | rearm _ => exact ⟨_, rfl, State.keeperDo_kept s _ (fun _ h => State.hostBit_kept (hs := h) (hm := rfl) ..) hs⟩
  | rearmLogClear _ => exact ⟨_, rfl, State.cxDo_kept s _ (fun _ h => State.doRearmLogClear_kept (hs := h) (hm := rfl) ..) hs⟩
  | rearmResume => exact ⟨_, rfl, State.cxDo_kept s _ (fun _ h => State.doRearmResume_kept (hs := h) (hm := rfl) ..) hs⟩
  | readoutRequest _ _ _ _ => exact ⟨_, rfl, State.cxDo_kept s _ (fun _ h => State.doReadoutRequest_kept (hs := h) (hm := rfl) ..) hs⟩
  | readoutComplete _ _ _ _ => exact ⟨_, rfl, State.cxDo_kept s _ (fun _ h => State.doReadoutComplete_kept (hs := h) (hm := rfl) ..) hs⟩
  | streamApply _ => exact ⟨_, rfl, State.keeperDo_kept s _ (fun _ h => State.hostBit_kept (hs := h) (hm := rfl) ..) hs⟩
  | streamApplyTakeEffect => exact ⟨_, rfl, State.cxDo_kept s _ (fun _ h => State.doStreamApplyEffect_kept (hs := h) (hm := rfl) ..) hs⟩
  | codecJobStart => exact ⟨_, rfl, State.cxDo_kept s _ (fun _ h => State.doCodecStart_kept (hs := h) (hm := rfl) ..) hs⟩
  | codecJobComplete _ _ => exact ⟨_, rfl, State.cxDo_kept s _ (fun _ h => State.doCodecComplete_kept (hs := h) (hm := rfl) ..) hs⟩
  | codecCancel _ => exact ⟨_, rfl, State.keeperDo_kept s _ (fun _ h => State.hostBit_kept (hs := h) (hm := rfl) ..) hs⟩
  | frameStart _ => exact ⟨_, rfl, State.cxDo_kept s _ (fun _ h => State.doFrameStart_kept (hs := h) (hm := rfl) ..) hs⟩
  | lingerExpiry _ => exact ⟨_, rfl, State.cxDo_kept s _ (fun _ h => State.doLingerExpiry_kept (hs := h) (hm := rfl) ..) hs⟩
  | queueFlush _ _ => exact ⟨_, rfl, State.keeperDo_kept s _ (fun _ h => State.hostWrite_kept (hs := h) (hm := rfl) ..) hs⟩
  | queueFlushDone _ => exact ⟨_, rfl, State.cxDo_kept s _ (fun _ h => State.doFlushDone_kept (hs := h) (hm := rfl) ..) hs⟩
  | drop3 _ => exact ⟨_, rfl, State.keeperDo_kept s _ (fun _ h => State.hostBit_kept (hs := h) (hm := rfl) ..) hs⟩
  | drop3Done => exact ⟨_, rfl, State.cxDo_kept s _ (fun _ h => State.doDrop3Done_kept (hs := h) (hm := rfl) ..) hs⟩
  | hwmReset _ _ _ => exact ⟨_, rfl, State.keeperDo_kept s _ (fun _ h => State.hostWrite_kept (hs := h) (hm := rfl) ..) hs⟩
  | bringupAttempt _ => exact ⟨_, rfl, State.cxDo_kept s _ (fun _ h => State.doBringupAttempt_kept (hs := h) (hm := rfl) ..) hs⟩
  | bringupFrameReceived _ _ _ => exact ⟨_, rfl, State.cxDo_kept s _ (fun _ h => State.doBringupFrame_kept (hs := h) (hm := rfl) ..) hs⟩
  | laneUp _ => exact ⟨_, rfl, State.cxDo_kept s _ (fun _ h => State.doLaneUpStart_kept (hs := h) (hm := rfl) ..) hs⟩
  | bringupTimeout _ => exact ⟨_, rfl, State.cxDo_kept s _ (fun _ h => State.doBringupTimeout_kept (hs := h) (hm := rfl) ..) hs⟩
  | waitExpiry _ => exact ⟨_, rfl, State.cxDo_kept s _ (fun _ h => State.doWaitExpiry_kept (hs := h) (hm := rfl) ..) hs⟩
  | seedReceived _ _ => exact ⟨_, rfl, State.cxDo_kept s _ (fun _ h => State.doSeedReceived_kept (hs := h) (hm := rfl) ..) hs⟩
  | realign _ _ => exact ⟨_, rfl, State.cxDo_kept s _ (fun _ h => State.doRealign_kept (hs := h) (hm := rfl) ..) hs⟩
  | realignTimeout _ => exact ⟨_, rfl, State.cxDo_kept s _ (fun _ h => State.doRealignTimeout_kept (hs := h) (hm := rfl) ..) hs⟩
  | lossOfSignal _ => exact ⟨_, rfl, State.cxDo_kept s _ (fun _ h => State.doLossOfSignal_kept (hs := h) (hm := rfl) ..) hs⟩
  | partnerTraining _ => exact ⟨_, rfl, State.cxDo_kept s _ (fun _ h => State.doPartnerTraining_kept (hs := h) (hm := rfl) ..) hs⟩
  | retrain _ _ => exact ⟨_, rfl, State.keeperDo_kept s _ (fun _ h => State.hostBit_kept (hs := h) (hm := rfl) ..) hs⟩
  | idleEntry _ => exact ⟨_, rfl, State.cxDo_kept s _ (fun _ h => State.doIdleEntry_kept (hs := h) (hm := rfl) ..) hs⟩
  | hushReceived _ => exact ⟨_, rfl, State.cxDo_kept s _ (fun _ h => State.doHushReceived_kept (hs := h) (hm := rfl) ..) hs⟩
  | fastExit _ => exact ⟨_, rfl, State.cxDo_kept s _ (fun _ h => State.doFastExit_kept (hs := h) (hm := rfl) ..) hs⟩
  | refreshBurst _ => exact ⟨_, rfl, State.cxDo_kept s _ (fun _ h => State.doRefreshBurst_kept (hs := h) (hm := rfl) ..) hs⟩
  | clrErr _ => exact ⟨_, rfl, State.keeperDo_kept s _ (fun _ h => State.hostBit_kept (hs := h) (hm := rfl) ..) hs⟩
  | laneSetChange _ _ _ => exact ⟨_, rfl, State.keeperDo_kept s _ (fun _ h => State.hostWrite_kept (hs := h) (hm := rfl) ..) hs⟩
  | classPolicyWrite _ _ => exact ⟨_, rfl, State.keeperDo_kept s _ (fun _ h => State.hostWrite_kept (hs := h) (hm := rfl) ..) hs⟩
  | frameReceived _ _ _ _ _ _ => exact ⟨_, rfl, State.cxDo_kept s _ (fun _ h => State.doFrameReceived_kept (hs := h) (hm := rfl) ..) hs⟩
  | creditFrame _ _ => exact ⟨_, rfl, State.cxDo_kept s _ (fun _ h => State.doCreditFrame_kept (hs := h) (hm := rfl) ..) hs⟩
  | creditSend _ => exact ⟨_, rfl, State.cxDo_kept s _ (fun _ h => State.doCreditSend_kept (hs := h) (hm := rfl) ..) hs⟩
  | reorderTimeout => exact ⟨_, rfl, State.cxDo_kept s _ (fun _ h => State.doReorderTimeout_kept (hs := h) (hm := rfl) ..) hs⟩
  | nudge => exact ⟨_, rfl, State.cxDo_kept s _ (fun _ h => State.doNudge_kept (hs := h) (hm := rfl) ..) hs⟩
  | memRdData _ _ _ _ => exact ⟨_, rfl, State.cxDo_kept s _ (fun _ h => State.doMemRdData_kept (hs := h) (hm := rfl) ..) hs⟩
  | memWrErr _ => exact ⟨_, rfl, State.cxDo_kept s _ (fun _ h => State.doMemWrErr_kept (hs := h) (hm := rfl) ..) hs⟩
  | memReadTimeout => exact ⟨_, rfl, State.cxDo_kept s _ (fun _ h => State.doMemReadTimeout_kept (hs := h) (hm := rfl) ..) hs⟩
  | memPathChange => exact ⟨_, rfl, State.cxDo_kept s _ (fun _ h => State.doMemPathChange_kept (hs := h) (hm := rfl) ..) hs⟩
  | memPathResume => exact ⟨_, rfl, State.cxDo_kept s _ (fun _ h => State.doMemPathResume_kept (hs := h) (hm := rfl) ..) hs⟩
  | origin _ _ _ _ _ => exact ⟨_, rfl, State.cxDo_kept s _ (fun _ h => State.doOrigin_kept (hs := h) (hm := rfl) ..) hs⟩
  | follow _ _ _ _ => exact ⟨_, rfl, State.cxDo_kept s _ (fun _ h => State.doFollow_kept (hs := h) (hm := rfl) ..) hs⟩
  | probeSend _ _ _ => exact ⟨_, rfl, State.cxDo_kept s _ (fun _ h => State.doProbeSend_kept (hs := h) (hm := rfl) ..) hs⟩
  | answer _ _ _ _ => exact ⟨_, rfl, State.cxDo_kept s _ (fun _ h => State.doAnswer_kept (hs := h) (hm := rfl) ..) hs⟩
  | rebase => exact ⟨_, rfl, State.cxDo_kept s _ (fun _ h => State.doRebase_kept (hs := h) (hm := rfl) ..) hs⟩
  | relationRepeat => exact ⟨_, rfl, State.cxDo_kept s _ (fun _ h => State.doRelationRepeat_kept (hs := h) (hm := rfl) ..) hs⟩
  | heartbeat _ => exact ⟨_, rfl, State.cxDo_kept s _ (fun _ h => State.doHeartbeat_kept (hs := h) (hm := rfl) ..) hs⟩
  | pathLoss _ => exact ⟨_, rfl, State.cxDo_kept s _ (fun _ h => State.doPathLoss_kept (hs := h) (hm := rfl) ..) hs⟩
  | ppsEdge _ _ => exact ⟨_, rfl, State.cxDo_kept s _ (fun _ h => State.doPpsEdge_kept (hs := h) (hm := rfl) ..) hs⟩
  | ppsLoss => exact ⟨_, rfl, State.cxDo_kept s _ (fun _ h => State.doPpsLoss_kept (hs := h) (hm := rfl) ..) hs⟩
  | acceptJump _ => exact ⟨_, rfl, State.keeperDo_kept s _ (fun _ h => State.hostBit_kept (hs := h) (hm := rfl) ..) hs⟩
  | asymCal _ => exact ⟨_, rfl, State.keeperDo_kept s _ (fun _ h => State.hostBit_kept (hs := h) (hm := rfl) ..) hs⟩
  | asymCalDone => exact ⟨_, rfl, State.cxDo_kept s _ (fun _ h => State.doAsymCalDone_kept (hs := h) (hm := rfl) ..) hs⟩
  | asymApply _ => exact ⟨_, rfl, State.keeperDo_kept s _ (fun _ h => State.hostBit_kept (hs := h) (hm := rfl) ..) hs⟩
  | voteCorrection _ => exact ⟨_, rfl, State.cxDo_kept s _ (fun _ h => State.doVoteCorrection_kept (hs := h) (hm := rfl) ..) hs⟩
  | commit _ => exact ⟨_, rfl, State.keeperDo_kept s _ (fun _ h => State.hostBit_kept (hs := h) (hm := rfl) ..) hs⟩
  | pollStart => exact ⟨_, rfl, State.cxDo_kept s _ (fun _ h => State.doPollStart_kept (hs := h) (hm := rfl) ..) hs⟩
  | pollComplete => exact ⟨_, rfl, State.cxDo_kept s _ (fun _ h => State.doPollComplete_kept (hs := h) (hm := rfl) ..) hs⟩
  | ringResume _ _ => exact ⟨_, rfl, State.keeperDo_kept s _ (fun _ h => State.hostWrite_kept (hs := h) (hm := rfl) ..) hs⟩
  | nop => exact ⟨_, rfl, State.cxDo_kept s _ (fun _ h => State.doNop_kept (hs := h) (hm := rfl) ..) hs⟩
  | fence => exact ⟨_, rfl, State.cxDo_kept s _ (fun _ h => State.doFence_kept (hs := h) (hm := rfl) ..) hs⟩
  | regWr => exact ⟨_, rfl, State.cxDo_kept s _ (fun _ h => State.doRegWr_kept (hs := h) (hm := rfl) ..) hs⟩
  | regRd => exact ⟨_, rfl, State.cxDo_kept s _ (fun _ h => State.doRegRd_kept (hs := h) (hm := rfl) ..) hs⟩
  | blockRd => exact ⟨_, rfl, State.cxDo_kept s _ (fun _ h => State.doBlockRd_kept (hs := h) (hm := rfl) ..) hs⟩
  | inject _ => exact ⟨_, rfl, State.cxDo_kept s _ (fun _ h => State.doPrmInject_kept (hs := h) (hm := rfl) ..) hs⟩
  | codec => exact ⟨_, rfl, State.cxDo_kept s _ (fun _ h => State.doPrmCodec_kept (hs := h) (hm := rfl) ..) hs⟩
  | safetyCycle _ _ _ _ _ _ _ _ _ _ _ => exact ⟨_, rfl, State.keeperDo_kept s _ (fun _ h => State.doSafetyCycle_kept (hs := h) (hm := rfl) ..) hs⟩
  | siTestPulse _ _ _ => exact ⟨_, rfl, State.keeperDo_kept s _ (fun _ h => State.doTestPulse_kept (hs := h) (hm := rfl) ..) hs⟩
  | curtainTest _ => exact ⟨_, rfl, State.keeperDo_kept s _ (fun _ h => State.doCurtainTest_kept (hs := h) (hm := rfl) ..) hs⟩
  | safetyStatusSend => exact ⟨_, rfl, State.cxDo_kept s _ (fun _ h => State.doStatusSend_kept (hs := h) (hm := rfl) ..) hs⟩
  | safetyCommand _ _ _ => exact ⟨_, rfl, State.cxDo_kept s _ (fun _ h => State.doSafetyCommand_kept (hs := h) (hm := rfl) ..) hs⟩
  | commandCopyTimeout => exact ⟨_, rfl, State.keeperDo_kept s _ (fun _ h => State.doCopyTimeout_kept (hs := h) (hm := rfl) ..) hs⟩
  | degradedExpiry => exact ⟨_, rfl, State.keeperDo_kept s _ (fun _ h => State.doDegradedExpiry_kept (hs := h) (hm := rfl) ..) hs⟩
  | safeResetRelease _ => exact ⟨_, rfl, State.keeperDo_kept s _ (fun _ h => State.doSafeResetRelease_kept (hs := h) (hm := rfl) ..) hs⟩
  | safeResetStuck => exact ⟨_, rfl, State.keeperDo_kept s _ (fun _ h => State.doSafeResetStuck_kept (hs := h) (hm := rfl) ..) hs⟩
  | safetyAck _ _ _ => exact ⟨_, rfl, State.cxDo_kept s _ (fun _ h => State.doSafetyAck_kept (hs := h) (hm := rfl) ..) hs⟩
  | safetyParam _ _ _ => exact ⟨_, rfl, State.cxDo_kept s _ (fun _ h => State.doSafetyParam_kept (hs := h) (hm := rfl) ..) hs⟩
  | safetyActivate _ _ _ _ => exact ⟨_, rfl, State.cxDo_kept s _ (fun _ h => State.doSafetyActivate_kept (hs := h) (hm := rfl) ..) hs⟩
  | sensorPulse _ => exact ⟨_, rfl, State.keeperDo_kept s _ (fun _ h => State.doSensorPulse_kept (hs := h) (hm := rfl) ..) hs⟩
  | sensorConversion _ _ _ _ _ _ _ => exact ⟨_, rfl, State.keeperDo_kept s _ (fun _ h => State.doSensorConversion_kept (hs := h) (hm := rfl) ..) hs⟩
  | switchEvaluate _ => exact ⟨_, rfl, State.keeperDo_kept s _ (fun _ h => State.doSwitchEvaluate_kept (hs := h) (hm := rfl) ..) hs⟩
  | stageTick _ _ _ _ => exact ⟨_, rfl, State.bootedDo_kept s _ (fun _ h => State.doStageTick_kept (hs := h) (hm := rfl) ..) hs⟩
  | stageRestore => exact ⟨_, rfl, State.keeperDo_kept s _ (fun _ h => State.doStageRestore_kept (hs := h) (hm := rfl) ..) hs⟩
  | forceStage _ _ => exact ⟨_, rfl, State.keeperDo_kept s _ (fun _ h => State.hostWrite_kept (hs := h) (hm := rfl) ..) hs⟩
  | sheddingNotice => exact ⟨_, rfl, State.cxDo_kept s _ (fun _ h => State.doSheddingNotice_kept (hs := h) (hm := rfl) ..) hs⟩
  | keeperPowerFail => exact ⟨_, rfl, State.keeperDo_kept s _ (fun _ h => State.doPowerFail_kept (hs := h) (hm := rfl) ..) hs⟩
  | orderlyStop _ => exact ⟨_, rfl, State.keeperDo_kept s _ (fun _ h => State.doOrderlyStop_kept (hs := h) (hm := rfl) ..) hs⟩
  | keeperRestart _ _ => exact ⟨_, rfl, State.doKeeperRestart_kept (hs := hs) (hm := rfl) ..⟩
  | keeperDropOut => exact ⟨_, rfl, State.doDropOut_kept (hs := hs) (hm := rfl) ..⟩
  | vinOvervoltage _ => exact ⟨_, rfl, State.keeperDo_kept s _ (fun _ h => State.doOverVoltage_kept (hs := h) (hm := rfl) ..) hs⟩
  | railFault _ _ => exact ⟨_, rfl, State.keeperDo_kept s _ (fun _ h => State.doRailFault_kept (hs := h) (hm := rfl) ..) hs⟩
  | regionRestore _ => exact ⟨_, rfl, State.cxDo_kept s _ (fun _ h => State.doRegionRestore_kept (hs := h) (hm := rfl) ..) hs⟩
  | pbCommit _ => exact ⟨_, rfl, State.keeperDo_kept s _ (fun _ h => State.hostBit_kept (hs := h) (hm := rfl) ..) hs⟩
  | pbPeriodicCommit => exact ⟨_, rfl, State.keeperDo_kept s _ (fun _ h => State.doPbPeriodic_kept (hs := h) (hm := rfl) ..) hs⟩
  | pbCommitDone _ => exact ⟨_, rfl, State.keeperDo_kept s _ (fun _ h => State.doCommitDone_kept (hs := h) (hm := rfl) ..) hs⟩
  | vinClrMin _ => exact ⟨_, rfl, State.keeperDo_kept s _ (fun _ h => State.hostBit_kept (hs := h) (hm := rfl) ..) hs⟩
  | coldReset _ => exact ⟨_, rfl, State.doColdReset_kept (hs := hs) (hm := rfl) ..⟩
  | resetNAssert => exact ⟨_, rfl, State.doResetAssert_kept (hs := hs) (hm := rfl) ..⟩
  | resetNRelease _ => exact ⟨_, rfl, State.doResetRelease_kept (hs := hs) (hm := rfl) ..⟩
  | warm _ => exact ⟨_, rfl, State.keeperDo_kept s _ (fun _ h => State.hostWrite_kept (hs := h) (hm := rfl) ..) hs⟩
  | restart _ => exact ⟨_, rfl, State.keeperDo_kept s _ (fun _ h => State.hostWrite_kept (hs := h) (hm := rfl) ..) hs⟩
  | restartIngestStop => exact ⟨_, rfl, State.cxDo_kept s _ (fun _ h => State.doRestartStop_kept (hs := h) (hm := rfl) ..) hs⟩
  | restartResume _ => exact ⟨_, rfl, State.cxDo_kept s _ (fun _ h => State.doRestartResume_kept (hs := h) (hm := rfl) ..) hs⟩
  | stuckReset _ => exact ⟨_, rfl, State.keeperDo_kept s _ (fun _ h => State.doStuckReset_kept (hs := h) (hm := rfl) ..) hs⟩
  | overrideClear => exact ⟨_, rfl, State.keeperDo_kept s _ (fun _ h => State.doOverrideClear_kept (hs := h) (hm := rfl) ..) hs⟩
  | startupRehearsal _ => exact ⟨_, rfl, State.cxDo_kept s _ (fun _ h => State.doStartRehearsal_kept (hs := h) (hm := rfl) ..) hs⟩
  | startupReady => exact ⟨_, rfl, State.cxDo_kept s _ (fun _ h => State.doStartReady_kept (hs := h) (hm := rfl) ..) hs⟩
  | timeWaitExpiry => exact ⟨_, rfl, State.cxDo_kept s _ (fun _ h => State.doTimeWaitExpiry_kept (hs := h) (hm := rfl) ..) hs⟩
  | faultReport _ _ _ => exact ⟨_, rfl, State.keeperDo_kept s _ (fun _ h => State.doFaultReport_kept (hs := h) (hm := rfl) ..) hs⟩
  | incidentHoldExpiry _ => exact ⟨_, rfl, State.keeperDo_kept s _ (fun _ h => State.doHoldExpiry_kept (hs := h) (hm := rfl) ..) hs⟩
  | incidentCloseTimer _ _ => exact ⟨_, rfl, State.keeperDo_kept s _ (fun _ h => State.doCloseTimer_kept (hs := h) (hm := rfl) ..) hs⟩
  | incidentReportSend _ => exact ⟨_, rfl, State.cxDo_kept s _ (fun _ h => State.doReportSend_kept (hs := h) (hm := rfl) ..) hs⟩
  | close _ _ => exact ⟨_, rfl, State.keeperDo_kept s _ (fun _ h => State.hostWrite_kept (hs := h) (hm := rfl) ..) hs⟩
  | purgePrevious _ => exact ⟨_, rfl, State.keeperDo_kept s _ (fun _ h => State.hostBit_kept (hs := h) (hm := rfl) ..) hs⟩
  | configScrub _ _ => exact ⟨_, rfl, State.keeperDo_kept s _ (fun _ h => State.doConfigScrub_kept (hs := h) (hm := rfl) ..) hs⟩
  | flashRefresh _ _ _ => exact ⟨_, rfl, State.keeperDo_kept s _ (fun _ h => State.doFlashRefresh_kept (hs := h) (hm := rfl) ..) hs⟩
  | telemetry => exact ⟨_, rfl, State.cxDo_kept s _ (fun _ h => State.doTelemetry_kept (hs := h) (hm := rfl) ..) hs⟩
  | snap _ => exact ⟨_, rfl, State.keeperDo_kept s _ (fun _ h => State.hostBit_kept (hs := h) (hm := rfl) ..) hs⟩
  | clrWrap _ => exact ⟨_, rfl, State.keeperDo_kept s _ (fun _ h => State.hostBit_kept (hs := h) (hm := rfl) ..) hs⟩
  | dumpNow _ => exact ⟨_, rfl, State.keeperDo_kept s _ (fun _ h => State.hostBit_kept (hs := h) (hm := rfl) ..) hs⟩
  | periodicDump => exact ⟨_, rfl, State.cxDo_kept s _ (fun _ h => State.doPeriodicDump_kept (hs := h) (hm := rfl) ..) hs⟩
  | focusConfigWrite _ _ _ _ => exact ⟨_, rfl, State.keeperDo_kept s _ (fun _ h => State.hostWrite_kept (hs := h) (hm := rfl) ..) hs⟩
  | tracerRecord _ _ => exact ⟨_, rfl, State.cxDo_kept s _ (fun _ h => State.doTracerRecord_kept (hs := h) (hm := rfl) ..) hs⟩
  | smbusWrite _ _ _ => exact ⟨_, rfl, State.keeperDo_kept s _ (fun _ h => State.doSmbusWrite_kept (hs := h) (hm := rfl) ..) hs⟩
  | smbusSetReadAddress _ _ => exact ⟨_, rfl, State.keeperDo_kept s _ (fun _ h => State.doSmbusAddress_kept (hs := h) (hm := rfl) ..) hs⟩
  | smbusRead => exact ⟨_, rfl, State.keeperDo_kept s _ (fun _ h => State.doSmbusRead_kept (hs := h) (hm := rfl) ..) hs⟩
  | alertResponse => exact ⟨_, rfl, State.keeperDo_kept s _ (fun _ h => State.doAlertResponse_kept (hs := h) (hm := rfl) ..) hs⟩
  | uartWrite _ _ _ => exact ⟨_, rfl, State.keeperDo_kept s _ (fun _ h => State.doUartWrite_kept (hs := h) (hm := rfl) ..) hs⟩
  | uartRead _ _ _ => exact ⟨_, rfl, State.keeperDo_kept s _ (fun _ h => State.doUartRead_kept (hs := h) (hm := rfl) ..) hs⟩
  | keyProvisioning _ _ => exact ⟨_, rfl, State.keeperDo_kept s _ (fun _ h => State.doKeyProvisioning_kept (hs := h) (hm := rfl) ..) hs⟩
  | jtagTestLogicReset => exact ⟨_, rfl, State.doTestLogicReset_kept (hs := hs) (hm := rfl) ..⟩
  | bypass => exact ⟨_, rfl, State.doBypass_kept (hs := hs) (hm := rfl) ..⟩
  | idcode => exact ⟨_, rfl, State.doIdcode_kept (hs := hs) (hm := rfl) ..⟩
  | samplePreload _ _ => exact ⟨_, rfl, State.doSamplePreload_kept (hs := hs) (hm := rfl) ..⟩
  | extest _ _ => exact ⟨_, rfl, State.doExtest_kept (hs := hs) (hm := rfl) ..⟩
  | clamp => exact ⟨_, rfl, State.doClamp_kept (hs := hs) (hm := rfl) ..⟩
  | highz => exact ⟨_, rfl, State.doHighz_kept (hs := hs) (hm := rfl) ..⟩
  | unitFailure _ => exact ⟨_, rfl, State.cxDo_kept s _ (fun _ h => State.doUnitFailure_kept (hs := h) (hm := rfl) ..) hs⟩
  | dieFault _ => exact ⟨_, rfl, State.cxDo_kept s _ (fun _ h => State.doDieFault_kept (hs := h) (hm := rfl) ..) hs⟩
  | refclkReturn => exact ⟨_, rfl, State.keeperDo_kept s _ (fun _ h => State.doRefclkReturn_kept (hs := h) (hm := rfl) ..) hs⟩
  | lanePllUnlock _ => exact ⟨_, rfl, State.cxDo_kept s _ (fun _ h => State.doLanePllUnlock_kept (hs := h) (hm := rfl) ..) hs⟩
  | seedFound _ _ _ => exact ⟨_, rfl, State.cxDo_kept s _ (fun _ h => State.doSeedFound_kept (hs := h) (hm := rfl) ..) hs⟩
  | configurationImageLoaded _ _ _ _ _ _ => exact ⟨_, rfl, State.keeperDo_kept s _ (fun _ h => State.doImageLoaded_kept (hs := h) (hm := rfl) ..) hs⟩
  | overVoltageEnd => exact ⟨_, rfl, State.keeperDo_kept s _ (fun _ h => State.doOverVoltageEnd_kept (hs := h) (hm := rfl) ..) hs⟩
  | curtainOverload _ => exact ⟨_, rfl, State.keeperDo_kept s _ (fun _ h => State.doCurtainOverload_kept (hs := h) (hm := rfl) ..) hs⟩
  | safetySetWritten => exact ⟨_, rfl, State.keeperDo_kept s _ (fun _ h => State.doSafetySetWritten_kept (hs := h) (hm := rfl) ..) hs⟩
  | uartFrameGap => exact ⟨_, rfl, State.doUartGap_kept (hs := hs) (hm := rfl) ..⟩
  | smbusClockLowTimeout => exact ⟨_, rfl, State.doSmbusTimeout_kept (hs := hs) (hm := rfl) ..⟩

theorem State.idle_kept (s : State) (hs : Kept 268435454 ref s) : Kept 268435454 ref s.idle :=
  State.cxDo_kept _ _ (fun _ h => State.runLanes_kept (hs := h) (hm := rfl) ..) (State.pass_kept s 1 hs rfl)

end Sys2Proof.Machine

open Sys2Proof Sys2Proof.Machine

/-- Settles O53: what a step takes is a command, whose operation has a footprint, or the passing of one sample period. -/
theorem soundKept : Obligations.SoundKept := by
  intro s t hs ht
  rw [step] at ht
  split at ht
  case h_1 =>
    cases ht
    exact (State.idle_kept s (hs.kept _)).sound
  case h_2 c rest _ =>
    have hrest : State.Sound { s with pending := rest } :=
      ⟨hs.regs, hs.banks, hs.ports, hs.que, hs.lanes, hs.chans, hs.regions⟩
    obtain ⟨u, hu, hkept⟩ := exec_kept c (hrest.kept _)
    cases hu.symm.trans ht
    exact hkept.sound
end

section
/-! SUPPORT. One step (R302) and the state after reset (R17): what passing time leaves of the queue of commands, and what a register
holds after a cold reset. -/

namespace Sys2Proof.Machine

/-! ### The step on an empty queue -/

theorem State.laneRun_pending (s : State) (n : Nat) : (s.laneRun n).pending = s.pending := by
  rw [State.laneRun]
  split <;> rfl

theorem State.forEach_pending {a : Type} {f : State → a → State} (hf : ∀ s x, (f s x).pending = s.pending) (l : List a)
    (s : State) : (s.forEach l f).pending = s.pending := by
  rw [State.forEach]
  induction l generalizing s with
  | nil => rfl
  | cons x l ih => exact (ih (f s x)).trans (hf s x)

theorem State.cxDo_pending {f : State → State} (s : State) (hf : (f s).pending = s.pending) : (s.cxDo f).pending = s.pending := by
  rw [State.cxDo]
  split
  · exact hf
  · rfl

theorem State.idle_pending (s : State) : s.idle.pending = s.pending :=
  State.cxDo_pending (s.pass 1) (State.forEach_pending State.laneRun_pending _ _)

theorem State.idle_resting {s : State} (h : s.keeperRuns = false ∨ s.cxRuns = false) : s.idle = s.pass 1 :=
  State.cxDo_idle (s := s.pass 1) h _

theorem State.idle_running {s : State} (hk : s.keeperRuns = true) (hc : s.cxRuns = true) :
    s.idle = (s.pass 1).forEach (List.range 24) State.laneRun := by
  rw [State.idle, State.cxDo, if_pos]
  · rfl
  · exact Bool.and_eq_true_iff.2 ⟨hk, hc⟩

/-! ### Cold columns (R17) -/

/-- The step of coldWord for one field. -/
def coldField (w : Word) (f : FieldDef) : Word := setField w f.lo f.width f.cold.coldValue

theorem coldField_local : FieldLocal coldField := fun _ _ _ => getLsbD_setField_outside

/-- The registers whose cold content is no table value have no field with one. -/
theorem regTable_cold_special : ∀ r ∈ regTable, r.base = firBase ∨ r.base = F.CHN_COEF → ∀ f ∈ r.fields,
    f.cold ≠ .val f.cold.coldValue := by decide +kernel

theorem getField_coldWord {a : Nat} {r : RegDef} {f : FieldDef} {n : Nat} (hr : regAt a = some r) (hf : f ∈ r.fields)
    (hn : f.cold = .val n) : getField (coldWord a) f.lo f.width = n % 2 ^ f.width := by
  have hmem := mem_regTable_of_regAt hr
  have hval : f.cold = .val f.cold.coldValue := by rw [hn]; rfl
  have hplain := fun h => regTable_cold_special r hmem h f hf hval
  obtain ⟨y, -, hfold⟩ := coldField_local.getField_foldl (regTable_fields_apart r hmem) hf 0
  have hword : coldWord a = r.fields.foldl coldField 0 := by
    simp only [coldWord, hr]
    rw [if_neg fun h => hplain (.inl h), if_neg fun h => hplain (.inr h)]
    rfl
  rw [hword, hfold, coldField, getField_setField _ _ _ _ (regTable_fields_in_word r hmem f hf), hn]
  rfl

end Sys2Proof.Machine

open Sys2Proof Sys2Proof.Machine

/-- Settles O50, by the two cases of the queue. -/
theorem stepTakesFront : Obligations.StepTakesFront := by
  refine ⟨fun s c rest h => by rw [step, h], fun s h => ⟨s.idle, by rw [step, h], s.idle_pending.trans h,
    State.idle_resting, State.idle_running⟩⟩

/-- Settles O52: no register has been written, so each holds its cold word. -/
theorem resetState : Obligations.ResetState :=
  ⟨⟨rfl, rfl, rfl, rfl, rfl, rfl, rfl⟩, rfl, rfl, rfl, fun _ _ _ _ => getField_coldWord⟩
end

section
/-! SUPPORT. Commands of the Prompter (R333 to R335): whose turn it is when there is one command, and what its completion leaves. -/

namespace Sys2Proof.Machine

/-! ### The turn of the only command (R333) -/

/-- The head of a ring when there is one command, not yet started. -/
theorem State.soleCmd.ringHead {s : State} {c : PCmd} (h : s.soleCmd c) (r : Nat) :
    s.ringHead r = if c.ring = r then some c else none := by
  obtain ⟨hcmds, hstarted, -⟩ := h
  simp [State.ringHead, hcmds, hstarted, List.find?_cons]
  split <;> simp_all

theorem State.soleCmd.nextCmd {s : State} {c : PCmd} (h : s.soleCmd c) (hstart : s.canStart c = true) : s.nextCmd = some c := by
  have hring : c.ring < 8 := by
    obtain ⟨-, -, -, -, -, hring, -⟩ := h
    exact hring
  rw [State.nextCmd]
  set heads := (List.range 8).filterMap fun i => s.ringHead ((s.prm.turn + i) % 8) with hheads
  have hmem : c ∈ heads := by
    refine List.mem_filterMap.2 ⟨(c.ring + 8 - s.prm.turn % 8) % 8, List.mem_range.2 (Nat.mod_lt _ (by decide)), ?_⟩
    rw [h.ringHead, if_pos (by omega)]
  have honly : ∀ d ∈ heads, d = c := fun d hd => by
    obtain ⟨i, -, hi⟩ := List.mem_filterMap.1 hd
    rw [h.ringHead] at hi
    split at hi
    · exact (Option.some.inj hi).symm
    · cases hi
  cases hfind : heads.find? s.canStart with
  | none => exact absurd hstart (List.find?_eq_none.1 hfind c hmem)
  | some d => rw [honly d (List.mem_of_find?_eq_some hfind)]

theorem State.soleCmd.turnOf {s : State} {c : PCmd} (h : s.soleCmd c) (hstart : s.canStart c = true) {op : Nat}
    (hop : c.opcode = op) : s.turnOf op = some c := by
  simp only [State.turnOf, h.nextCmd hstart, hop, if_true]

/-- Any command but a codec job may start when it is alone (R223, R334). -/
theorem State.soleCmd.canStart {s : State} {c : PCmd} (h : s.soleCmd c) (hop : c.opcode ≠ 0x20) : s.canStart c = true := by
  obtain ⟨hcmds, -⟩ := h
  simp [State.canStart, hcmds, hop]

/-! ### A command that has started -/

/-- c is the only command, and has started. -/
structure State.OnlyStarted (u : State) (c : PCmd) : Prop where
  sound : u.Sound
  cmds : u.prm.cmds = [{ c with started := true }]
  rings : u.prm.rings.length = 36
  ring : c.ring < 8
  cpl : c.cpl < 8
  room : u.cplRoom c.cpl = true
  noOutput : c.outLen = 0
  noStatus : c.status = 0

theorem State.soleCmd.startCmd {s : State} {c : PCmd} (h : s.soleCmd c) (hs : s.Sound) : (s.startCmd c).OnlyStarted c := by
  obtain ⟨hcmds, -, -, hstatus, hout, hring, hcpl, hroom, hrings⟩ := h
  refine ⟨(State.startCmd_kept s c (hs.kept 1024) rfl).sound, ?_, hrings, hring, hcpl, hroom, hout, hstatus⟩
  simp [State.startCmd, State.onPrm, hcmds]

/-- What the Prompter sees of a command stays where neither the Prompter nor its registers change. -/
theorem State.OnlyStarted.congr {u v : State} {c : PCmd} (h : u.OnlyStarted c) (hv : v.Sound) (hprm : v.prm = u.prm)
    (hcfg : v.regGet (F.PRM_RING_CFG_EN.addr (8 + c.cpl)) = u.regGet (F.PRM_RING_CFG_EN.addr (8 + c.cpl)))
    (hstat : v.regGet (F.PRM_RING_STAT_STOPPED.addr (8 + c.cpl)) = u.regGet (F.PRM_RING_STAT_STOPPED.addr (8 + c.cpl))) :
    v.OnlyStarted c := by
  refine ⟨hv, hprm ▸ h.cmds, hprm ▸ h.rings, h.ring, h.cpl, ?_, h.noOutput, h.noStatus⟩
  rw [← h.room]
  have hen : v.ringEn (8 + c.cpl) = u.ringEn (8 + c.cpl) := by
    rw [State.ringEn, State.rdB, State.rd_of_regGet hcfg]
    rfl
  have hstop : v.ringStopped (8 + c.cpl) = u.ringStopped (8 + c.cpl) := by
    rw [State.ringStopped, State.rdB, State.rd_of_regGet hstat]
    rfl
  have hlen : v.ringLen (8 + c.cpl) = u.ringLen (8 + c.cpl) := by
    rw [State.ringLen, State.rd_of_regGet (f := F.PRM_RING_CFG_SIZE) hcfg]
    rfl
  simp only [State.cplRoom, hen, hstop, hlen, State.ring, hprm]
  rfl

/-! ### Its completion (R335, R341) -/

/-- The command with its completion. -/
def PCmd.done (c : PCmd) (result : LWord) (status blocks low : Nat) : PCmd :=
  { c with finished := true, result := result, status := status, blocks := blocks, low := low }

/-- Writing a status slot leaves the Prompter but for the ring's own account of it. -/
theorem State.writeStatus_prm (s : State) (r : Nat) :
    ∃ f : PRing → PRing, (∀ x, (f x).head = x.head) ∧ (s.writeStatus r).prm = { s.prm with rings := s.prm.rings.modify r f } := by
  rw [State.writeStatus]
  split
  · exact ⟨fun x => { x with behind := true }, fun _ => rfl, rfl⟩
  · exact ⟨fun x => { x with statusAt := some s.clk.count, behind := false }, fun _ => rfl, rfl⟩

theorem State.writeStatus_regs (s : State) (r : Nat) : (s.writeStatus r).regs = s.regs := by
  rw [State.writeStatus]
  split <;> rfl

theorem State.writeStatus_clk (s : State) (r : Nat) : (s.writeStatus r).clk = s.clk := by
  rw [State.writeStatus]
  split <;> rfl

theorem State.memAppend_only (s : State) (pos key addr : Nat) (w : LWord) :
    s.memAppend pos key addr w = { s with lnk := (s.memAppend pos key addr w).lnk } := by
  rw [State.memAppend]
  split
  · split <;> rfl
  · rfl

theorem State.memWrite_only (s : State) (pos key addr : Nat) (ws : List LWord) :
    s.memWrite pos key addr ws = { s with lnk := (s.memWrite pos key addr ws).lnk } := by
  rw [State.memWrite]
  induction ws generalizing s addr with
  | nil => rfl
  | cons w ws ih =>
    rw [List.foldl_cons, ih, s.memAppend_only]

section
variable {u : State} {c : PCmd} (h : u.OnlyStarted c) (result : LWord) (status blocks low : Nat)
include h

/-- The only command has finished. -/
def State.finished (u : State) (d : PCmd) : State := u.onPrm fun p => { p with cmds := [d] }

theorem State.OnlyStarted.mayPost (d : PCmd) (hd : d = PCmd.done { c with started := true } result status blocks low) :
    (u.finished d).mayPost d = true := by
  have hroom : (u.finished d).cplRoom d.cpl = true := by
    rw [hd]
    exact h.room
  have hout (a n : Nat) : d.outputs a n = false := by
    rw [PCmd.outputs, decide_eq_false_iff_not, hd]
    exact fun hlt => absurd hlt.1 (by rw [PCmd.done, h.noOutput]; exact Nat.lt_irrefl 0)
  have hbehind : (u.finished d).cancelBehind d = false := by
    rw [State.cancelBehind, Bool.and_eq_false_iff]
    refine .inr (List.any_eq_false.2 fun x hx => ?_)
    have hne : ((d.ring, d.idx) == x) = false := beq_false_of_ne (Ne.symm 
      (of_decide_eq_true (List.mem_takeWhile_imp (p := fun x => decide (x ≠ (d.ring, d.idx))) hx)))
    simp only [State.finished, State.onPrm, List.any_cons, List.any_nil, hne, Bool.false_and, Bool.or_false, Bool.false_eq_true,
      not_false_eq_true]
  simp only [State.mayPost, hroom, hbehind, State.outputWaits, hout]
  simp [State.finished, State.onPrm, hd, PCmd.done]

theorem State.OnlyStarted.finishCmd_eq : u.finishCmd c.ring c.idx result status blocks low =
    (u.finished (PCmd.done { c with started := true } result status blocks low)).postEntry
      (PCmd.done { c with started := true } result status blocks low) := by
  have hpost := h.mayPost result status blocks low _ rfl
  have hcmds : u.onPrm (fun p => { p with cmds := p.cmds.map fun d => if d.ring = c.ring ∧ d.idx = c.idx then
      { d with finished := true, result := result, status := if d.status = 14 then 14 else status, blocks := blocks, low := low }
      else d }) = u.finished (PCmd.done { c with started := true } result status blocks low) := by
    simp [State.onPrm, State.finished, h.cmds, PCmd.done, h.noStatus]
  rw [State.finishCmd, hcmds, State.postAll]
  change State.forEach _ [_] _ = _
  rw [State.forEach, List.foldl_cons, List.foldl_nil, if_pos hpost]

end

/-- A completion entry is noted, its ring's index moves on, and the command is gone (R335, R341). -/
theorem State.postEntry_outcome (u : State) (d : PCmd) (hrings : 8 + d.cpl < u.prm.rings.length) :
    (u.postEntry d).prm.cmds = u.prm.cmds.erase d ∧
      ((u.postEntry d).ring (8 + d.cpl)).head = ((u.ring (8 + d.cpl)).head + 1) % 2 ^ 64 ∧
      (u.postEntry d).prm.entries.getLast? = some (8 + d.cpl, (u.ring (8 + d.cpl)).head,
        completionWords d (u.rd F.PRM_RING_CFG_SIZE (8 + d.cpl)) (u.ring (8 + d.cpl)).head, (u.postEntry d).clk.count) ∧
      (u.postEntry d).regs = ((u.onPrm fun p => { p with cmds := p.cmds.erase d }).showFlight d.ring).regs := by
  rw [State.postEntry]
  generalize completionWords d _ _ = ws
  have hmem := u.memWrite_only 1 (8 + d.cpl) (u.ringBase (8 + d.cpl) + (u.ring (8 + d.cpl)).head % u.ringLen (8 + d.cpl) * 16) ws
  revert hmem
  generalize u.memWrite _ _ _ _ = v
  intro hv
  set w := (State.onPrm (v.onRing (8 + d.cpl) _) _) with hw
  obtain ⟨f, hhead, hprm⟩ := w.writeStatus_prm (8 + d.cpl)
  have hcmds : w.prm.cmds = u.prm.cmds.erase d := by rw [hw, hv]; rfl
  have hentries : w.prm.entries.getLast? = some (8 + d.cpl, (u.ring (8 + d.cpl)).head, ws, w.clk.count) := by
    rw [hw, hv]
    exact List.getLast?_concat
  have hindex : (w.ring (8 + d.cpl)).head = ((u.ring (8 + d.cpl)).head + 1) % 2 ^ 64 := by
    rw [hw, hv]
    exact congrArg PRing.head (getD_modify_same hrings _ {})
  have hlen : 8 + d.cpl < w.prm.rings.length := by
    rw [hw, hv]
    exact (List.length_modify ..).symm ▸ hrings
  refine ⟨?_, ?_, ?_, ?_⟩
  · simp only [State.showFlight, State.wr_prm, hprm, hcmds]
  · simp only [State.showFlight, State.ring, State.wr_prm, hprm]
    rw [getD_modify_same hlen f {}, hhead]
    exact hindex
  · simp only [State.showFlight, State.wr_prm, State.wr_clk, hprm, State.writeStatus_clk]
    exact hentries
  · simp only [State.showFlight, State.wr, State.regPut, State.regGet, State.writeStatus_regs, hprm, hcmds]
    rw [hw, hv]
    rfl

section
variable {u : State} {c : PCmd} (h : u.OnlyStarted c) (result : LWord) (status blocks low : Nat)
include h

/-- The only command completes: no other comes to its turn, and the Prompter's state and the count of its ring in flight are all
that changes. -/
theorem State.OnlyStarted.complete :
    u.completed ((u.finishCmd c.ring c.idx result status blocks low).serve) c result status blocks low ∧
      u.sameRegs ((u.finishCmd c.ring c.idx result status blocks low).serve) [F.PRM_RING_STAT + 16 * c.ring] ∧
      Kept 1156 u ((u.finishCmd c.ring c.idx result status blocks low).serve) := by
  set d := PCmd.done { c with started := true } result status blocks low with hd
  have hcpl : d.cpl = c.cpl := rfl
  obtain ⟨hcmds, hhead, hentry, hregs⟩ := (u.finished d).postEntry_outcome d (by
    have := h.cpl
    change 8 + c.cpl < u.prm.rings.length
    rw [h.rings]
    omega)
  have hnone : ((u.finished d).postEntry d).prm.cmds = [] := by
    rw [hcmds]
    exact List.erase_cons_head ..
  have hserve : (u.finishCmd c.ring c.idx result status blocks low).serve = (u.finished d).postEntry d := by
    rw [h.finishCmd_eq, ← hd, State.serve, State.serveBad]
    simp [State.nextCmd, State.ringHead, hnone]
  have hkept : Kept 1156 u ((u.finished d).postEntry d) :=
    State.postEntry_kept _ d (State.onPrm_kept u _ (h.sound.kept _) rfl) rfl
  rw [hserve]
  refine ⟨⟨hnone, hhead, hentry⟩, ?_, hkept⟩
  exact State.sameRegs_of_wr h.sound.regs (f := F.PRM_RING_STAT_IN_FLIGHT) (i := c.ring) hregs

end

end Sys2Proof.Machine
end

section
/-! SUPPORT. Unassigned addresses (R12, R452): what a read and a write of one give, and the REG_WR and REG_RD of one (R335). -/

namespace Sys2Proof.Machine

/-! ### Addresses (R451, R452) -/

/-- An address in no block or window of R451, or not a multiple of 4. -/
abbrev Unassigned (n : Nat) : Prop :=
  n % 4 ≠ 0 ∨ (0x400000 ≤ n ∧ (n < 0x1000000 ∨ 0x1200000 ≤ n) ∧ (n < 0x2000000 ∨ 0x3000000 ≤ n))

theorem regTable_below_windows : ∀ r ∈ regTable, r.base + r.stride * r.count ≤ 0x400000 ∧ 0 < r.stride := by decide +kernel

theorem regAt_beyond_blocks {n : Nat} (h : 0x400000 ≤ n) : regAt n = none := by
  cases hr : regAt n with
  | none => rfl
  | some r =>
    obtain ⟨hbase, hmod, hdiv⟩ := addr_range_of_regAt hr
    obtain ⟨hend, hpos⟩ := regTable_below_windows r (mem_regTable_of_regAt hr)
    have hlt := (Nat.div_lt_iff_lt_mul hpos).1 hdiv
    rw [Nat.mul_comm] at hlt
    omega

theorem outside_windows {n : Nat} (h : 0x400000 ≤ n ∧ (n < 0x1000000 ∨ 0x1200000 ≤ n) ∧ (n < 0x2000000 ∨ 0x3000000 ≤ n)) :
    inCells n = false ∧ inRingWindow n = false ∧ regAt n = none :=
  ⟨decide_eq_false (by omega), decide_eq_false (by omega), regAt_beyond_blocks h.1⟩

section
variable {n : Nat} (h : Unassigned n)
include h

theorem State.peek_unassigned (s : State) : s.peek n = 0 := by
  rw [State.peek]
  rcases h with h4 | hout
  · exact if_pos h4
  · obtain ⟨hcells, hring, hreg⟩ := outside_windows hout
    simp [hcells, hring, isReg, hreg]

theorem assigned_unassigned : assigned n = false := by
  rcases h with h4 | hout
  · simp [assigned, h4]
  · obtain ⟨hcells, hring, hreg⟩ := outside_windows hout
    simp [assigned, hcells, hring, isReg, hreg]

theorem not_burst_unassigned : (inRingWindow n && n % 4 == 0) = false := by
  rcases h with h4 | hout
  · simp [h4]
  · exact not_burst_of_not_window (outside_windows hout).2.1

theorem State.portWrite_of_unassigned (s : State) (p : Nat) (w : Word) :
    s.portWrite p n w = (accAddr, s.unassignedWrite n) := by
  rcases h with h4 | hout
  · exact State.portWrite_misaligned h4
  · obtain ⟨hcells, hring, hreg⟩ := outside_windows hout
    exact State.portWrite_unassigned (by rw [hcells, hring]; rfl) hreg

/-- A port that reads it returns 0 and ADDR_ERROR, unless its latch holds a word for that address. -/
theorem State.readInto_of_unassigned (s : State) {x : Port} (hx : n % 4 ≠ 0 ∨ x.words.find? (fun w => w.1 == n) = none) :
    (s.readInto n x).value = 0 ∧ (s.readInto n x).status = 2 := by
  refine ⟨?_, ?_⟩
  · rw [State.readInto]
    dsimp only
    split
    · split
      · next w hw =>
        rcases hx with h4 | hnone
        · exact if_neg h4
        · rw [hnone] at hw
          cases hw
      · exact s.peek_unassigned h
    · exact s.peek_unassigned h
  · rw [State.readInto, assigned_unassigned h]
    rfl

theorem State.Sound.portRead_of_unassigned {s : State} (hs : s.Sound) (p : Fin 10)
    (hx : n % 4 ≠ 0 ∨ (s.port p).words.find? (fun w => w.1 == n) = none) :
    ((s.portRead p n).port p).value = 0 ∧ ((s.portRead p n).port p).status = 2 := by
  rw [hs.port_portRead p n]
  exact s.readInto_of_unassigned h hx

end

/-! ### The die field of a discarded write (R451) -/

theorem blocks_whole : ∀ b ∈ blocks, b.1 % 65536 = 0 := by decide

theorem dieOfAddr_block {n : Nat} (h : n < 0x400000) : dieOfAddr n = dieOfAddr (65536 * (n / 65536)) := by
  have hfilter : blocks.filter (fun b => decide (b.1 ≤ n)) = blocks.filter fun b => decide (b.1 ≤ 65536 * (n / 65536)) :=
    List.filter_congr fun b hb => by
      have := blocks_whole b hb
      exact decide_eq_decide.2 (by omega)
  have hwin {m : Nat} (hm : m < 0x400000) : (inCells m || inRingWindow m) = false := by
    rw [inCells, inRingWindow, decide_eq_false (by omega), decide_eq_false (by omega)]
    rfl
  have hm : 65536 * (n / 65536) < 0x400000 := by omega
  simp only [dieOfAddr, hwin h, hwin hm, hfilter, h, hm]

/-- The ranges of R451 with their die fields, F outside every block. -/
def dieRanges : List (Nat × Nat × Nat) :=
  [(0, 0x40000, 3), (0x40000, 0x100000, 15), (0x100000, 0x300000, 2), (0x300000, 0x380000, 3),
    (0x380000, 0x400000, 2), (0x400000, 0x1000000, 15), (0x1000000, 0x1200000, 2), (0x1200000, 0x2000000, 15),
    (0x2000000, 0x3000000, 2), (0x3000000, 0x100000000, 15)]

theorem dieRanges_whole : ∀ b ∈ dieRanges, b.1 % 65536 = 0 ∧ b.2.1 % 65536 = 0 := by decide

theorem dieOfAddr_of_blocks : ∀ k < 64, ∀ b ∈ dieRanges, b.1 ≤ 65536 * k → 65536 * k < b.2.1 → dieOfAddr (65536 * k) = b.2.2 := by
  decide +kernel

/-- Beyond the blocks the die field is CX's in the windows, and F elsewhere. -/
theorem dieOfAddr_beyond_blocks {n : Nat} (hn : 0x400000 ≤ n) : dieOfAddr n = if inCells n || inRingWindow n then 2 else 15 := by
  rw [dieOfAddr, if_neg (Nat.not_lt.2 hn)]

theorem dieOfAddr_in_blocks {n : Nat} (hn : n < 0x400000) {b : Nat × Nat × Nat} (hb : b ∈ dieRanges) (hlo : b.1 ≤ n)
    (hhi : n < b.2.1) : dieOfAddr n = b.2.2 := by
  obtain ⟨hlow, hhigh⟩ := dieRanges_whole b hb
  rw [dieOfAddr_block hn]
  exact dieOfAddr_of_blocks _ (by omega) b hb (by omega) (by omega)

theorem dieOfAddr_in_windows {n : Nat} (hn : 0x400000 ≤ n) : ∀ b ∈ dieRanges, b.1 ≤ n → n < b.2.1 → dieOfAddr n = b.2.2 := by
  rw [dieOfAddr_beyond_blocks hn, inCells, inRingWindow]
  simp only [dieRanges, List.forall_mem_cons, Bool.or_eq_true, decide_eq_true_eq]
  refine ⟨?_, ?_, ?_, ?_, ?_, ?_, ?_, ?_, ?_, ?_, fun _ h => absurd h List.not_mem_nil⟩ <;> intro hlo hhi <;> split <;> omega

theorem dieOfAddr_of_range {n : Nat} {b : Nat × Nat × Nat} (hb : b ∈ dieRanges) (hlo : b.1 ≤ n) (hhi : n < b.2.1) :
    dieOfAddr n = b.2.2 :=
  (Nat.lt_or_ge n 0x400000).elim (fun hn => dieOfAddr_in_blocks hn hb hlo hhi) fun hn => dieOfAddr_in_windows hn b hb hlo hhi

/-! ### Counting writes registers by registers alone (R438) -/

section
variable {s t : State} (h : t.regs = s.regs)
include h

theorem State.wr_regs_congr (f : Fld) (i v : Nat) : (t.wr f i v).regs = (s.wr f i v).regs := by
  simp only [State.wr, State.regPut, State.regGet, h]

theorem State.flag_regs_congr (a k : Nat) : (t.flag a k).regs = (s.flag a k).regs := by
  simp only [State.flag, State.regPut, State.regGet, h]

theorem State.pmcAdd_regs_congr (lo hi : Fld) (i j n : Nat) : (t.pmcAdd lo hi i j n).regs = (s.pmcAdd lo hi i j n).regs := by
  have hpair : t.rdPair lo hi i = s.rdPair lo hi i := by
    rw [State.rdPair, State.rdPair, State.rd_of_regs h, State.rd_of_regs h]
  have hput (v : Nat) : (t.wrPair lo hi i v).regs = (s.wrPair lo hi i v).regs :=
    State.wr_regs_congr (State.wr_regs_congr h _ _ _) _ _ _
  rw [State.pmcAdd, State.pmcAdd, hpair]
  split
  · rw [State.pmcWrapped, State.pmcWrapped, State.rd_of_regs (hput _)]
    exact State.flag_regs_congr (State.wr_regs_congr (hput _) _ _ _) _ _
  · exact hput _

theorem State.count_regs_congr (e l n : Nat) : (t.count e l n).regs = (s.count e l n).regs := by
  have hloop (fs : List Nat) {u v : State} (huv : v.regs = u.regs) :
      (v.forEach fs (fun s f =>
        if s.focusTakes f e l then s.pmcAdd F.PMC_FOCUS_LO_VALUE F.PMC_FOCUS_HI_VALUE f (512 + f) n else s)).regs =
      (u.forEach fs fun s f =>
        if s.focusTakes f e l then s.pmcAdd F.PMC_FOCUS_LO_VALUE F.PMC_FOCUS_HI_VALUE f (512 + f) n else s).regs := by
    simp only [State.forEach]
    induction fs generalizing u v with
    | nil => exact huv
    | cons f fs ih =>
      rw [List.foldl_cons, List.foldl_cons]
      have htakes : v.focusTakes f e l = u.focusTakes f e l := by simp only [State.focusTakes, State.rd_of_regs huv]
      rw [htakes]
      split
      · exact ih (State.pmcAdd_regs_congr huv _ _ _ _ _)
      · exact ih huv
  rw [State.count, State.count]
  split
  · exact h
  · exact hloop _ (State.pmcAdd_regs_congr h _ _ _ _ _)

end

/-! ### The Prompter's register commands (R334, R335) -/

section
variable {n : Nat} (h : Unassigned n) {s : State} (hs : s.Working) {c : PCmd} (hc : s.soleCmd c)
  (hn : n = (c.words.getD 1 0).toNat % 2 ^ 32)
include h hs hc hn

theorem State.Working.regWr_of_unassigned (hop : c.opcode = 0x02) : ∃ t, exec .regWr s = .next t ∧ s.completed t c 0 2 0 0 ∧
    s.sameMain t [F.PRM_RING_STAT + 16 * c.ring] ∧
    ∀ b, 0x3C0000 ≤ b → t.regGet b = (s.count 0x160 (s.locDie (dieOfAddr n)) 1).regGet b := by
  have hstarted := hc.startCmd hs.sound
  set u := (s.startCmd c).unassignedWrite n with hu
  have hcount : u.regs = (s.count 0x160 (s.locDie (dieOfAddr n)) 1).regs :=
    State.count_regs_congr (s := s) (t := s.startCmd c) rfl _ _ _
  have hkept : Kept 4 (s.startCmd c) u := State.count_kept _ _ _ _ (hstarted.sound.kept _) rfl
  have hlow : LowKept (s.startCmd c) u := (LowKept.refl hstarted.sound.regs).count _ _ _
  have honly : u.OnlyStarted c := by
    have := hstarted.cpl
    refine hstarted.congr hkept.sound (hkept.prm rfl) (hlow.low _ ?_) (hlow.low _ ?_) <;> simp only [Fld.addr] <;> omega
  have hhold : u.start.hold.isSome = false := by
    have hstart : u.start = s.start := (congrArg State.start hkept.eq_withParts).trans rfl
    have hcx := hs.cx
    rw [State.cxRuns, Bool.and_eq_true] at hcx
    rw [hstart, ← Option.not_isNone, hcx.2]
    rfl
  have hring : u.ring (8 + c.cpl) = s.ring (8 + c.cpl) := by rw [State.ring, hkept.prm rfl]; rfl
  have hsize : u.rd F.PRM_RING_CFG_SIZE (8 + c.cpl) = s.rd F.PRM_RING_CFG_SIZE (8 + c.cpl) :=
    State.rd_of_regGet (hlow.low _ (by have := hstarted.cpl; simp only [Fld.addr]; omega))
  have hdo : s.doRegWr = (u.finishCmd c.ring c.idx 0 2 0 0).serve := by
    rw [State.doRegWr, hc.turnOf (hc.canStart (by rw [hop]; decide)) hop]
    dsimp only
    rw [← hn, State.portWrite_of_unassigned h]
    dsimp only
    rw [← hu, hhold]
    rfl
  obtain ⟨⟨hcmds, hhead, hentry⟩, hregs, hfoot⟩ := honly.complete 0 2 0 0
  refine ⟨_, hs.next_cxDo State.doRegWr, ?_⟩
  rw [hdo]
  refine ⟨⟨hcmds, ?_, ?_⟩, fun b hq hb hl => ?_, fun b hb => ?_⟩
  · rw [hhead, hring]
  · rw [hentry, hring, hsize]
  · rw [hregs b hl]
    exact hlow.low b hb
  · rw [hregs b ?_, State.regGet, hcount]
    · rfl
    · have := hstarted.ring
      simp only [List.mem_singleton]
      have : F.PRM_RING_STAT = 0x2C010C := rfl
      omega

theorem State.Working.regRd_of_unassigned (hop : c.opcode = 0x03)
    (hx : n % 4 ≠ 0 ∨ (s.port (2 + c.ring)).words.find? (fun w => w.1 == n) = none) :
    ∃ t, exec .regRd s = .next t ∧ s.completed t c 0 2 0 0 := by
  have hstarted := hc.startCmd hs.sound
  have hport : 2 + c.ring < 10 := by
    have := hstarted.ring
    omega
  obtain ⟨hvalue, hstatus⟩ := hstarted.sound.portRead_of_unassigned h ⟨2 + c.ring, hport⟩ hx
  have hframe := State.portRead_frame (s := s.startCmd c) (not_burst_unassigned h) (2 + c.ring)
  revert hvalue hstatus hframe
  generalize hu : (s.startCmd c).portRead (2 + c.ring) n = u
  intro hvalue hstatus hframe
  have honly : u.OnlyStarted c := by
    have hkept : Kept 1572896 (s.startCmd c) u := hu ▸ State.portRead_kept _ _ _ (hstarted.sound.kept _) rfl
    refine hstarted.congr hkept.sound (by rw [hframe]) ?_ ?_ <;> rw [hframe] <;> rfl
  have hdo : s.doRegRd = (u.finishCmd c.ring c.idx 0 2 0 0).serve := by
    rw [State.doRegRd, hc.turnOf (hc.canStart (by rw [hop]; decide)) hop]
    dsimp only
    rw [← hn, hu, hvalue, hstatus]
    rfl
  obtain ⟨⟨hcmds, hhead, hentry⟩, -, -⟩ := honly.complete 0 2 0 0
  refine ⟨_, hs.next_cxDo State.doRegRd, ?_⟩
  rw [hdo]
  refine ⟨hcmds, ?_, ?_⟩
  · rw [hhead, hframe]
    rfl
  · rw [hentry, hframe]
    rfl

end

end Sys2Proof.Machine

open Sys2Proof Sys2Proof.Machine

/-- Settles O57: no access reaches anything at such an address; the write is counted under the die field of its range, and the
Prompter's commands complete with what its port returns. -/
theorem unassignedAddresses : Obligations.UnassignedAddresses := by
  rintro s a n rfl hn
  refine ⟨s.peek_unassigned hn, fun b hb => dieOfAddr_of_range hb, fun p hs hx => ?_, fun p w hs => ?_, fun c hs hc ha =>
    ⟨hs.regWr_of_unassigned hn hc ha, hs.regRd_of_unassigned hn hc ha⟩⟩
  · obtain ⟨hvalue, hstatus⟩ := hs.sound.portRead_of_unassigned hn p hx
    exact ⟨_, exec_pairLowRead hs p a, hvalue, hstatus, State.portRead_frame (not_burst_unassigned hn) p⟩
  · rw [exec_registerWrite hs, State.portStore, State.portWrite_of_unassigned hn]
    rfl
end

section
/-! SUPPORT. An INJECT command behind a request whose unit has been switched off since (R122, R334): what becomes of the queue. -/

namespace Sys2Proof.Machine

/-- A module at work in whose first cluster unit 0 is enabled alone, with a request of unit 1 that still waits for its window, and
an INJECT command of unit 0, the only command, with room in its completion ring. -/
def staleRequest : State :=
  { start := { booted := true }, plane := { cxOn := true, ingest := true, unitOn := 1 }
    regions := List.replicate 4 { powered := true, locked := true }
    regs := [(F.PRM_RING_CFG + 16 * 8, 0x104)]
    adc := { inj := [{ ch := 1, at_ := 1 }] :: List.replicate 15 [] }
    prm := { cmds := [{ words := [0x1000000000000000, 0, 0, 0] }] } }

/-- The INJECT command of staleRequest. -/
def injectCmd : PCmd := { words := [0x1000000000000000, 0, 0, 0] }

theorem staleRequest_working : staleRequest.Working :=
  ⟨⟨by decide +kernel, rfl, rfl, rfl, rfl, rfl, rfl⟩, rfl, rfl⟩

theorem staleRequest_soleCmd : staleRequest.soleCmd injectCmd :=
  ⟨rfl, rfl, rfl, rfl, rfl, by decide, by decide +kernel, by decide +kernel, rfl⟩

/-- The waiting request of the disabled unit leaves the queue as DISABLED when the new one joins it. -/
theorem staleRequest_inject : (staleRequest.injQueue 0).length = 1 ∧ ((staleRequest.doPrmInject 0).injQueue 0).length = 1 := by
  decide +kernel

end Sys2Proof.Machine

open Sys2Proof Sys2Proof.Machine

/-- Refutes O39: its clause on an INJECT that is taken says that the cluster's queue is one longer, but the request at its head may
wait for a unit that has been disabled since, and is then completed as DISABLED when the new one joins (R122). A premise that the
units of the waiting requests are enabled would exclude it. -/
theorem not_prompterCommands : ¬ Obligations.PrompterCommands := by
  intro h
  have hw := staleRequest_working
  obtain ⟨-, -, -, -, -, -, -, hcmd⟩ := h staleRequest hw
  obtain ⟨-, -, -, -, -, -, -, -, -, -, htaken, -⟩ := hcmd injectCmd _ _ staleRequest_soleCmd rfl rfl
  obtain ⟨t, y, hexec, -, -, -, -, -, -, hlen, -⟩ := htaken 0 _ (by decide +kernel) rfl (by decide +kernel) rfl
  have ht : staleRequest.doPrmInject 0 = t :=
    Host.Outcome.next.inj ((hw.next_cxDo fun s => s.doPrmInject 0).symm.trans hexec)
  obtain ⟨hbefore, hafter⟩ := staleRequest_inject
  change (t.injQueue 0).length = (staleRequest.injQueue 0).length + 1 at hlen
  rw [← ht, hafter, hbefore] at hlen
  exact absurd hlen (by decide)
end

section
/-! SUPPORT. Writes of registers that COMMIT does not lock, and the words that command bits are written with (R13, R15). -/

namespace Sys2Proof.Machine

/-! ### Registers that any port may write -/

/-- An address of a register outside the windows and the block SAF, none of whose fields COMMIT locks. -/
def openReg (a : Nat) : Bool :=
  a % 4 == 0 && !(inCells a || inRingWindow a) && (decide (a < 0x300000) || decide (0x340000 ≤ a)) &&
    (regAt a).any fun r => r.fields.all fun f => f.acc != .rwl

theorem openReg_iff {a : Nat} : openReg a = true ↔ a % 4 = 0 ∧ (inCells a || inRingWindow a) = false ∧
    (a < 0x300000 ∨ 0x340000 ≤ a) ∧ ∃ r, regAt a = some r ∧ ∀ f ∈ r.fields, f.acc ≠ .rwl := by
  simp only [openReg, Bool.and_eq_true, beq_iff_eq, Bool.not_eq_true', Bool.or_eq_true, decide_eq_true_eq,
    Option.any_eq_true, List.all_eq_true, bne_iff_ne, and_assoc]

/-- A write of such a register is taken where its block runs. -/
theorem State.portStore_open {s : State} (p : Nat) {a : Nat} (hrun : onKeeper a = true ∨ s.cxRuns = true) (ha : openReg a = true)
    (w : Word) : ∃ r, regAt a = some r ∧ s.portStore p a w = s.accepted p fun u => u.writeReg r p a w s.writeNs := by
  obtain ⟨h4, hwin, hsaf, r, hr, hrwl⟩ := openReg_iff.1 ha
  exact ⟨r, hr, State.portStore_taken hwin h4 hr hsaf hrun (.inr (not_changesLocked hrwl _ _))⟩

theorem State.Working.portStore_open {s : State} (hs : s.Working) (p : Nat) {a : Nat} (ha : openReg a = true) (w : Word) :
    ∃ r, regAt a = some r ∧ s.portStore p a w = s.accepted p fun u => u.writeReg r p a w s.writeNs :=
  State.portStore_open p (.inr hs.cx) ha w

/-- The row of a register that stands first in its row. -/
def baseOf (a : Nat) : Option Nat := (regAt a).map fun r => r.base

theorem base_of_baseOf {a b : Nat} {r : RegDef} (h : baseOf a = some b) (hr : regAt a = some r) : r.base = b := by
  rw [baseOf, hr] at h
  exact Option.some.inj h

/-! ### Command bits -/

/-- Is bit j of the register at address a one of a write-only field? -/
def woBit (a j : Nat) : Bool :=
  (regAt a).any fun r => r.fields.any fun f => f.acc == .wo && decide (f.lo ≤ j) && decide (j < f.lo + f.width)

/-- Such a bit reads 0. -/
theorem State.getLsbD_shown_woBit (s : State) {a j : Nat} (h : woBit a j = true) : (s.shown a).getLsbD j = false := by
  obtain ⟨r, hr, hany⟩ := (Option.any_eq_true _ _).1 h
  obtain ⟨f, hf, hbit⟩ := List.any_eq_true.1 hany
  simp only [Bool.and_eq_true, beq_iff_eq, decide_eq_true_eq] at hbit
  obtain ⟨⟨hwo, hlo⟩, hhi⟩ := hbit
  have hzero := getField_shown hr hf (s.regGet a)
  rw [if_pos hwo] at hzero
  have htest := testBit_getField (r.shown (s.regGet a)) f.lo f.width (j - f.lo)
  rw [hzero, Nat.zero_testBit, decide_eq_true (by omega), Bool.true_and, Nat.add_sub_cancel' hlo] at htest
  rw [State.shown, hr]
  exact htest.symm

/-- In the word that sets command bit k the other command bits are 0. -/
theorem State.testBit_cmdWord (s : State) {a j k : Nat} (h : woBit a j = true) (hk : k < 32) :
    (setField (s.shown a) k 1 1).toNat.testBit j = decide (j = k) := by
  rw [← BitVec.getLsbD, getLsbD_setField, s.getLsbD_shown_woBit h]
  by_cases hj : j = k
  · rw [if_pos (by omega), hj, Nat.sub_self, decide_eq_true rfl]
    rfl
  · rw [if_neg (by omega), decide_eq_false hj]

/-- Of an effect an accepted write sees what it makes of the state at hand; its frame is that of the effect, but for the free value
drawn and the port. -/
theorem State.accepted_of_kept {s : State} {p m : Nat} {f : State → State} (hm : 34 &&& m = 34)
    (h : Kept m s (f { s with free := s.free + 1 })) : Kept m s (s.accepted p f) :=
  State.onPort_kept _ p (fun x => { x with status := accDone }) h (mask_sub hm rfl)

theorem State.Sound.drawFree_kept {s : State} (hs : s.Sound) {m : Nat} (hm : 2 &&& m = 2) :
    Kept m s { s with free := s.free + 1 } :=
  (hs.kept m).congr (K := 2) rfl rfl rfl rfl rfl rfl rfl hm rfl

/-- The state that an accepted write acts on: the free value of its time has been drawn. -/
def State.drawn (s : State) : State := { s with free := s.free + 1 }

theorem State.accepted_of_drawn {s t : State} {p : Nat} {f : State → State} (h : f s.drawn = t) :
    s.accepted p f = t.onPort p fun x => { x with status := accDone } :=
  congrArg (fun u : State => u.onPort p fun x => { x with status := accDone }) h

theorem State.accepted_kept {s : State} {p m : Nat} {f : State → State} (hm : 32 &&& m = 32) (h : Kept m s.drawn (f s.drawn)) :
    Kept m s.drawn (s.accepted p f) := State.onPort_kept _ p (fun x => { x with status := accDone }) h hm

theorem State.Sound.drawn {s : State} (hs : s.Sound) : s.drawn.Sound := (hs.drawFree_kept (m := 2) rfl).sound

/-! ### Writes of command bits -/

theorem State.commands_cons (u : State) (w : Word) (x : Nat × (State → State)) (ops : List (Nat × (State → State))) :
    u.commands w (x :: ops) = (if w.toNat.testBit x.1 then x.2 u else u).commands w ops := rfl

/-- A word with no command bit set starts nothing. -/
theorem State.commands_of_clear {w : Word} : ∀ {ops : List (Nat × (State → State))} (u : State),
    (∀ x ∈ ops, w.toNat.testBit x.1 = false) → u.commands w ops = u
  | [], _, _ => rfl
  | x :: ops, u, h => by
    rw [State.commands_cons, h x (.head _)]
    exact commands_of_clear u fun y hy => h y (.tail _ hy)

/-- A word with one command bit set starts the operation of that bit. -/
theorem State.commands_of_one {w : Word} {k : Nat} {f : State → State} {ops : List (Nat × (State → State))} (u : State)
    (hbit : ∀ x ∈ ops, w.toNat.testBit x.1 = decide (x.1 = k)) (hnd : (ops.map Prod.fst).Nodup) (hf : (k, f) ∈ ops) :
    u.commands w ops = f u := by
  induction ops generalizing u with
  | nil => cases hf
  | cons x ops ih =>
    rw [List.map_cons, List.nodup_cons] at hnd
    have hhead := hbit x (.head _)
    have htail : ∀ y ∈ ops, w.toNat.testBit y.1 = decide (y.1 = k) := fun y hy => hbit y (.tail _ hy)
    rw [State.commands_cons, hhead]
    by_cases hx : x.1 = k
    · have hfx : f = x.2 := by
        rcases List.mem_cons.1 hf with h | h
        · exact congrArg Prod.snd h
        · exact absurd (hx ▸ List.mem_map_of_mem (f := Prod.fst) h) hnd.1
      rw [decide_eq_true hx, if_pos rfl, State.commands_of_clear, hfx]
      intro y hy
      rw [htail y hy, decide_eq_false]
      intro hyk
      exact hnd.1 (hx ▸ hyk ▸ List.mem_map_of_mem (f := Prod.fst) hy)
    · have hmem : (k, f) ∈ ops := by
        rcases List.mem_cons.1 hf with h | h
        · exact absurd (congrArg Prod.fst h).symm hx
        · exact h
      rw [decide_eq_false hx, if_neg Bool.false_ne_true]
      exact ih u htail hnd.2 hmem

/-- A write of 1 to a command bit starts the one operation of its bit, and stores nothing. -/
theorem State.hostBit_command {s : State} (p : Nat) {fld : Fld} {f : State → State}
    {ops : List (Nat × (State → State))} (hrun : onKeeper fld.base = true ∨ s.cxRuns = true) (ha : openReg fld.base = true)
    (hb : baseOf fld.base = some fld.base) (hwidth : fld.width = 1) (hlo : fld.lo < 32)
    (hwrite : ∀ (r : RegDef), r.base = fld.base → ∀ (u : State) (w : Word) (ns : Nat),
      u.writeReg r p fld.base w ns = u.commands w ops)
    (hwo : ops.all (fun x => woBit fld.base x.1) = true) (hnd : (ops.map Prod.fst).Nodup) (hf : (fld.lo, f) ∈ ops) :
    s.hostBit p fld 0 = s.accepted p f := by
  obtain ⟨r, hr, hstore⟩ := s.portStore_open p hrun ha (setField (s.shown fld.base) fld.lo 1 1)
  have hhost : s.hostBit p fld 0 = s.portStore p fld.base (setField (s.shown fld.base) fld.lo 1 1) := by
    rw [State.hostBit, State.hostField, State.hostWrite, hwidth, Nat.mul_zero, Nat.add_zero]
  rw [hhost, hstore]
  refine congrArg (s.accepted p) (funext fun u => (hwrite r (base_of_baseOf hb hr) u _ _).trans ?_)
  exact u.commands_of_one (fun x hx => s.testBit_cmdWord (List.all_eq_true.1 hwo x hx) hlo) hnd hf

theorem State.Working.hostBit_command {s : State} (hs : s.Working) (p : Nat) {fld : Fld} {f : State → State}
    {ops : List (Nat × (State → State))} (ha : openReg fld.base = true) (hb : baseOf fld.base = some fld.base)
    (hwidth : fld.width = 1) (hlo : fld.lo < 32)
    (hwrite : ∀ (r : RegDef), r.base = fld.base → ∀ (u : State) (w : Word) (ns : Nat),
      u.writeReg r p fld.base w ns = u.commands w ops)
    (hwo : ops.all (fun x => woBit fld.base x.1) = true) (hnd : (ops.map Prod.fst).Nodup) (hf : (fld.lo, f) ∈ ops) :
    s.hostBit p fld 0 = s.accepted p f :=
  s.hostBit_command p (.inr hs.cx) ha hb hwidth hlo hwrite hwo hnd hf

/-! ### Writes of one register of an array -/

/-- Is each of the k registers from b on, d apart, found in the array's own row, and free for any port to write? -/
def openArray (b d k : Nat) : Bool :=
  (List.range k).all fun i => openReg (b + d * i) && (regAt (b + d * i)).any fun r => r.base == b && r.stride == d

theorem State.Working.portStore_array {s : State} (hs : s.Working) (p : Nat) {b d k i : Nat} (h : openArray b d k = true)
    (hi : i < k) (w : Word) : ∃ r : RegDef, r.base = b ∧ r.stride = d ∧
      s.portStore p (b + d * i) w = s.accepted p fun u => u.writeReg r p (b + d * i) w s.writeNs := by
  have hrow := List.all_eq_true.1 h i (List.mem_range.2 hi)
  simp only [Bool.and_eq_true, Option.any_eq_true, beq_iff_eq] at hrow
  obtain ⟨hopen, q, hq, hbase, hstride⟩ := hrow
  obtain ⟨r, hr, hstore⟩ := hs.portStore_open p hopen w
  obtain rfl := Option.some.inj (hq.symm.trans hr)
  exact ⟨q, hbase, hstride, hstore⟩

/-- No dead source lies beyond the maps of the sources (R185). -/
theorem deadSource_of_lt {a : Nat} (h : 0x180248 ≤ a) : deadSource a = false := by
  have hcfg : ¬(0x180100 ≤ a ∧ a < 0x180190) := by omega
  have hmap : ¬(0x180200 ≤ a ∧ a < 0x180248) := by omega
  simp [deadSource, F.TRG_SRC_CFG, F.TRG_SRC_MAP_LO, hcfg, hmap]

end Sys2Proof.Machine
end

section
/-! SUPPORT. Footprints over the whole register file: the fields of registers that a run of operations leaves. -/

namespace Sys2Proof.Machine

/-- t's registers are in canonical form, and each field that is apart from those of W holds what it holds in r. -/
structure OnlyFields (W : List RegField) (r t : State) : Prop where
  wf : tableWf coldWord t.regs = true
  same : ∀ x : RegField, (∀ y ∈ W, FieldsApart x y) → t.rd x.1 x.2 = r.rd x.1 x.2

section
variable {W : List RegField} {r t u : State}

theorem OnlyFields.refl (h : tableWf coldWord r.regs = true) (W : List RegField) : OnlyFields W r r := ⟨h, fun _ _ => rfl⟩

variable (h : OnlyFields W r t)
include h

theorem OnlyFields.trans (g : OnlyFields W t u) : OnlyFields W r u :=
  ⟨g.wf, fun x hx => (g.same x hx).trans (h.same x hx)⟩

theorem OnlyFields.mono {W' : List RegField} (hW : ∀ y ∈ W, y ∈ W') : OnlyFields W' r t :=
  ⟨h.wf, fun x hx => h.same x fun y hy => hx y (hW y hy)⟩

theorem OnlyFields.congr (e : u.regs = t.regs) : OnlyFields W r u :=
  ⟨e ▸ h.wf, fun x hx => (State.rd_of_regs e _ _).trans (h.same x hx)⟩

theorem OnlyFields.wr {f : Fld} {i : Nat} (hf : (f, i) ∈ W) (v : Nat) : OnlyFields W r (t.wr f i v) :=
  ⟨State.wf_wr h.wf _ _ _, fun x hx => (State.rd_wr_ne h.wf _ _ _ _ _ (hx _ hf)).trans (h.same x hx)⟩

theorem OnlyFields.flag {a k : Nat} (ha : ∀ y ∈ flagFields a k, y ∈ W) : OnlyFields W r (t.flag a k) := by
  refine ⟨State.wf_regPut h.wf _ _, fun x hx => Eq.trans ?_ (h.same x hx)⟩
  rw [State.rd, State.rd, State.flag_regs, State.regGet_regPut h.wf]
  split
  · next e =>
    have hapart (y : RegField) (hy : y ∈ flagFields a k) (hya : y.1.addr y.2 = a) := (hx y (ha y hy)).resolve_left (by
      rw [hya]; exact not_not.2 e)
    have hbit := hapart _ List.mem_cons_self rfl
    have hcount := hapart _ (List.mem_cons_of_mem _ List.mem_cons_self) rfl
    rw [flagWord, getField_setField_ne _ _ _ _ _ _ hcount, getField_setField_ne _ _ _ _ _ _ hbit, e]
  · rfl

/-- A register that holds no field of W. -/
theorem OnlyFields.regGet {b : Nat} (hb : ∀ y ∈ W, y.1.addr y.2 ≠ b) : t.regGet b = r.regGet b := by
  have hword (s : State) : s.rd ⟨b, 0, 0, 32⟩ 0 = (s.regGet b).toNat := by
    have := (s.regGet b).isLt
    simp only [State.rd, Fld.addr, getField, Nat.mul_zero, Nat.add_zero, pow_zero, Nat.div_one]
    omega
  have hsame := h.same (⟨b, 0, 0, 32⟩, 0) fun y hy => .inl fun e => hb y hy e.symm
  dsimp only at hsame
  rw [hword, hword] at hsame
  exact BitVec.eq_of_toNat_eq hsame

theorem OnlyFields.sameRegs_of {l : List Nat} (hl : ∀ y ∈ W, y.1.addr y.2 ∈ l) : r.sameRegs t l :=
  fun _ hb => h.regGet fun y hy e => hb (e ▸ hl y hy)

/-- The same outside the blocks QUE, FAU and PMC. -/
theorem OnlyFields.sameMain_of {l : List Nat} (hl : ∀ y ∈ W, y.1.addr y.2 ∈ l ∨ ¬ MainAddr (y.1.addr y.2)) : r.sameMain t l :=
  fun _ hq hb hl' => h.regGet fun y hy e => (hl y hy).elim (fun g => hl' (e ▸ g)) fun g => g (e ▸ ⟨hq, hb⟩)

theorem OnlyFields.sameRegs_one {a : Nat} (hl : ∀ y ∈ W, y.1.addr y.2 = a) : r.sameRegs t [a] :=
  h.sameRegs_of fun y hy => List.mem_singleton.2 (hl y hy)

end

/-- A field that has been written, and not since. -/
theorem OnlyFields.rd_last {W : List RegField} {r t : State} {f : Fld} {i v : Nat} (g : OnlyFields W (r.wr f i v) t)
    (hr : tableWf coldWord r.regs = true) (hf : f.lo + f.width ≤ 32) (hW : ∀ y ∈ W, FieldsApart (f, i) y) :
    t.rd f i = v % 2 ^ f.width :=
  (g.same (f, i) hW).trans (State.rd_wr hr f i v hf)

/-! ### Counting an event (R438) -/

/-- A counter of events leaves the registers below the block PMC. -/
theorem State.pmcAdd_low {s : State} (hwf : tableWf coldWord s.regs = true) {lo hi : Fld} (hlo : 0x3C0000 ≤ lo.base)
    (hhi : 0x3C0000 ≤ hi.base) (i j n : Nat) {b : Nat} (hb : b < 0x3C0000) :
    tableWf coldWord (s.pmcAdd lo hi i j n).regs = true ∧ (s.pmcAdd lo hi i j n).regGet b = s.regGet b := by
  have hput {t : State} (ht : tableWf coldWord t.regs = true) {f : Fld} (hf : 0x3C0000 ≤ f.base) (i v : Nat) :
      tableWf coldWord (t.wr f i v).regs = true ∧ (t.wr f i v).regGet b = t.regGet b :=
    ⟨State.wf_wr ht _ _ _, State.sameRegs_wr ht f i v b fun e => by
      have := List.mem_singleton.1 e
      simp only [Fld.addr] at this
      omega⟩
  have hpair : tableWf coldWord (s.wrPair lo hi i ((s.rdPair lo hi i + n) % 2 ^ 48)).regs = true ∧
      (s.wrPair lo hi i ((s.rdPair lo hi i + n) % 2 ^ 48)).regGet b = s.regGet b := by
    have h1 := hput hwf hlo i ((s.rdPair lo hi i + n) % 2 ^ 48 % 2 ^ 32)
    have h2 := hput h1.1 hhi i ((s.rdPair lo hi i + n) % 2 ^ 48 / 2 ^ 32)
    exact ⟨h2.1, h2.2.trans h1.2⟩
  rw [State.pmcAdd]
  split
  · have h3 := hput hpair.1 (f := F.PMC_WRAP_WRAPPED) (by decide) (j / 32)
        ((s.wrPair lo hi i ((s.rdPair lo hi i + n) % 2 ^ 48)).rd F.PMC_WRAP_WRAPPED (j / 32) ||| 2 ^ (j % 32))
    refine ⟨State.wf_regPut h3.1 _ _, (State.sameRegs_regPut h3.1 _ _ b fun e => ?_).trans (h3.2.trans hpair.2)⟩
    exact absurd (List.mem_singleton.1 e) (Nat.ne_of_lt (Nat.lt_of_lt_of_le hb (by decide)))
  · exact hpair

theorem State.count_low {s : State} (hwf : tableWf coldWord s.regs = true) (e l n : Nat) {b : Nat} (hb : b < 0x3C0000) :
    (s.count e l n).regGet b = s.regGet b := by
  have hloop (fs : List Nat) {u : State} (hu : tableWf coldWord u.regs = true) :
      (u.forEach fs fun s f =>
        if s.focusTakes f e l then s.pmcAdd F.PMC_FOCUS_LO_VALUE F.PMC_FOCUS_HI_VALUE f (512 + f) n else s).regGet b = u.regGet b := by
    rw [State.forEach]
    induction fs generalizing u with
    | nil => rfl
    | cons f fs ih =>
      rw [List.foldl_cons]
      split
      · have h := State.pmcAdd_low hu (lo := F.PMC_FOCUS_LO_VALUE) (hi := F.PMC_FOCUS_HI_VALUE) (by decide) (by decide) f (512 + f) n hb
        exact (ih h.1).trans h.2
      · exact ih hu
  rw [State.count]
  split
  · rfl
  · have h := State.pmcAdd_low hwf (lo := F.PMC_CNT_LO_VALUE) (hi := F.PMC_CNT_HI_VALUE) (by decide) (by decide) e e n hb
    exact (hloop _ h.1).trans h.2

/-! ### Parts outside a footprint -/

theorem Kept.trans {m : Nat} {r t u : State} (h : Kept m r t) (g : Kept m t u) : Kept m r u :=
  ⟨g.regs, g.banks, g.ports, g.que, g.lanes, g.chans, g.regions, g.only.trans h.only⟩

section
variable {m : Nat} {r t : State} (h : Kept m r t)
include h

theorem Kept.pending (hm : hasBit m 1 = false) : t.pending = r.pending := by
  rw [h.eq_withParts]
  simp only [State.withParts, hm, cond_false]
theorem Kept.free (hm : hasBit m 2 = false) : t.free = r.free := by
  rw [h.eq_withParts]
  simp only [State.withParts, hm, cond_false]
theorem Kept.tim (hm : hasBit m 64 = false) : t.tim = r.tim := by
  rw [h.eq_withParts]
  simp only [State.withParts, hm, cond_false]
theorem Kept.fau (hm : hasBit m 512 = false) : t.fau = r.fau := by
  rw [h.eq_withParts]
  simp only [State.withParts, hm, cond_false]
theorem Kept.stream (hm : hasBit m 2048 = false) : t.stream = r.stream := by
  rw [h.eq_withParts]
  simp only [State.withParts, hm, cond_false]
theorem Kept.plane (hm : hasBit m 4096 = false) : t.plane = r.plane := by
  rw [h.eq_withParts]
  simp only [State.withParts, hm, cond_false]
theorem Kept.feeds (hm : hasBit m 32768 = false) : t.feeds = r.feeds := by
  rw [h.eq_withParts]
  simp only [State.withParts, hm, cond_false]
theorem Kept.adc (hm : hasBit m 65536 = false) : t.adc = r.adc := by
  rw [h.eq_withParts]
  simp only [State.withParts, hm, cond_false]
theorem Kept.chn (hm : hasBit m 131072 = false) : t.chn = r.chn := by
  rw [h.eq_withParts]
  simp only [State.withParts, hm, cond_false]
theorem Kept.wch (hm : hasBit m 262144 = false) : t.wch = r.wch := by
  rw [h.eq_withParts]
  simp only [State.withParts, hm, cond_false]
theorem Kept.codec (hm : hasBit m 1048576 = false) : t.codec = r.codec := by
  rw [h.eq_withParts]
  simp only [State.withParts, hm, cond_false]
theorem Kept.pmc (hm : hasBit m 2097152 = false) : t.pmc = r.pmc := by
  rw [h.eq_withParts]
  simp only [State.withParts, hm, cond_false]
theorem Kept.saf (hm : hasBit m 8388608 = false) : t.saf = r.saf := by
  rw [h.eq_withParts]
  simp only [State.withParts, hm, cond_false]
theorem Kept.book (hm : hasBit m 16777216 = false) : t.book = r.book := by
  rw [h.eq_withParts]
  simp only [State.withParts, hm, cond_false]
theorem Kept.pwr (hm : hasBit m 33554432 = false) : t.pwr = r.pwr := by
  rw [h.eq_withParts]
  simp only [State.withParts, hm, cond_false]
theorem Kept.start (hm : hasBit m 67108864 = false) : t.start = r.start := by
  rw [h.eq_withParts]
  simp only [State.withParts, hm, cond_false]
theorem Kept.access (hm : hasBit m 134217728 = false) : t.access = r.access := by
  rw [h.eq_withParts]
  simp only [State.withParts, hm, cond_false]
theorem Kept.regions_eq (hm : hasBit m 8192 = false) : t.regions = r.regions := by
  rw [h.eq_withParts]
  simp only [State.withParts, hm, cond_false]

end

end Sys2Proof.Machine
end

section
/-! SUPPORT. The prompt book's commits (R400, R401): how one is requested, started and ended. -/

namespace Sys2Proof.Machine

theorem State.wr_onBook (s : State) (b : Book → Book) (f : Fld) (i v : Nat) : (s.onBook b).wr f i v = (s.wr f i v).onBook b := rfl

/-! ### A request (R400) -/

/-- A commit begins: its record goes into the next erased area. -/
def State.commitBegun (s : State) (kind : Nat) : State :=
  { s.wr F.PWR_PB_STAT_BUSY 0 1 with
    book := { s.book with running := some (kind, false), records := (s.makeRecord kind :: s.book.records).take 1024 } }

theorem State.commitBegun_book (s : State) (kind : Nat) : (s.commitBegun kind).book =
    { s.book with running := some (kind, false), records := (s.makeRecord kind :: s.book.records).take 1024 } := rfl

theorem State.requestCommit_idle {s : State} (hrun : s.book.running = none) (hwait : s.book.waiting = []) (kind : Nat) :
    s.requestCommit kind = s.commitBegun kind := by
  have hbook : s.book = { s.book with running := none, waiting := [] } := by rw [← hrun, ← hwait]
  have hask : (s.onBook fun b => { b with waiting := if kind = commitPower then kind :: b.waiting else b.waiting ++ [kind] })
      = { s with book := { s.book with running := none, waiting := [kind] } } := by
    rw [State.onBook, hbook]
    simp
  rw [State.requestCommit, hask, State.commitBegun, hbook]
  rfl

theorem State.startCommit_running {s : State} (hrun : s.book.running ≠ none) : s.startCommit = s := by
  unfold State.startCommit
  split
  · next h _ => exact absurd h hrun
  · rfl

theorem State.startCommit_none {s : State} (hwait : s.book.waiting = []) : s.startCommit = s := by
  unfold State.startCommit
  split
  · next h => rw [hwait] at h; cases h
  · rfl

theorem State.doPbCommit_running {s : State} (hrun : s.book.running ≠ none) :
    s.doPbCommit = { s with book := { s.book with waiting := s.book.waiting ++ [3] } } :=
  State.startCommit_running (s := s.onBook fun b => { b with waiting := b.waiting ++ [3] }) hrun

theorem State.commitBegun_fields {s : State} (h : tableWf coldWord s.regs = true) (kind : Nat) :
    (s.commitBegun kind).rdB F.PWR_PB_STAT_BUSY = true ∧ s.sameRegs (s.commitBegun kind) [F.PWR_PB_STAT] := by
  have hbusy := State.rd_wr h F.PWR_PB_STAT_BUSY 0 1 (by decide)
  refine ⟨?_, State.sameRegs_of_wr h (f := F.PWR_PB_STAT_BUSY) (i := 0) rfl⟩
  change ((s.wr F.PWR_PB_STAT_BUSY 0 1).rd F.PWR_PB_STAT_BUSY 0 == 1) = true
  rw [hbusy]
  rfl

/-- A commit of the period: PERIOD_S seconds since the last one. -/
def State.periodPassed (s : State) (t : Nat) : State :=
  { s.toTick t with book := { s.book with periodTick := (s.toTick t).clk.tick } }

theorem State.doPbPeriodic_due {s : State} (hper : 0 < s.rd F.PWR_PB_CFG_PERIOD_S) (hrun : s.book.running = none)
    (hwait : s.book.waiting = []) : s.doPbPeriodic =
      (s.periodPassed (s.book.periodTick + 1000 * s.rd F.PWR_PB_CFG_PERIOD_S)).commitBegun commitPeriodic := by
  have hpassed (t : Nat) : ((s.toTick t).onBook fun b => { b with periodTick := (s.toTick t).clk.tick }) = s.periodPassed t := by
    have hbook : (s.toTick t).book = s.book := by rw [s.toTick_only t]
    rw [State.periodPassed, ← hbook]
    rfl
  rw [State.doPbPeriodic, if_neg (by omega)]
  dsimp only
  rw [hpassed]
  exact State.requestCommit_idle (s := s.periodPassed _) hrun hwait commitPeriodic

theorem State.periodPassed_only (s : State) (t : Nat) :
    s.periodPassed t = { s with clk := (s.periodPassed t).clk, book := { s.book with periodTick := (s.periodPassed t).clk.tick } } := by
  rw [State.periodPassed, s.toTick_only t]

/-! ### Its end (R396, R401) -/

/-- What a good commit shows in PWR_PB_STAT. -/
def State.commitShown (s : State) (k recno : Nat) : State :=
  (((s.wr F.PWR_PB_STAT_LAST_KIND 0 k).wr F.PWR_PB_STAT_LAST_OK 0 1).wr F.PWR_PB_STAT_RECNO 0 recno).wr F.PWR_PB_STAT_BUSY 0 0

/-- A record that is read back makes its commit a good one. -/
def State.commitGood (s : State) (k : Nat) (r : Record) (rest : List Record) : State :=
  (s.commitShown k r.recno).onBook fun b => { b with records := { r with valid := true } :: rest, running := none }

/-- After a second failure no commit runs, -/
def State.commitFailed (s : State) : State :=
  ({ s with book := { s.book with running := none } }).wr F.PWR_PB_STAT_LAST_OK 0 0

/-- and incident 0x4303 opens. -/
def State.commitBad (s : State) (r : Record) : State :=
  ((s.commitFailed.flag F.PWR_EVT 2).report 0x4303 s.commitFailed.locKeeper r.recno).wr F.PWR_PB_STAT_BUSY 0 0

section
variable {s : State} {k : Nat} {r : Record} {rest : List Record} (hrecords : s.book.records = r :: rest)
  (hwait : s.book.waiting = [])
include hrecords

theorem State.doCommitDone_again (hrun : s.book.running = some (k, false)) : s.doCommitDone false =
    { s with book := { s.book with running := some (k, true), records := (r :: r :: rest).take 1024 } } := by
  unfold State.doCommitDone
  rw [hrun, hrecords]
  rfl

include hwait

theorem State.doCommitDone_good {again : Bool} (hrun : s.book.running = some (k, again)) :
    s.doCommitDone true = s.commitGood k r rest := by
  have hend : s.doCommitDone true = (s.commitGood k r rest).startCommit := by
    unfold State.doCommitDone
    rw [hrun, hrecords]
    dsimp only
    rw [if_pos rfl, State.wr_onBook, State.wr_onBook, State.wr_onBook, State.wr_onBook, State.commitGood, State.commitShown]
  have hbook : (s.commitGood k r rest).book.waiting = s.book.waiting := by
    rw [State.commitGood, State.onBook_book, State.commitShown, State.wr_book, State.wr_book, State.wr_book, State.wr_book]
  rw [hend, State.startCommit_none (hbook.trans hwait)]

theorem State.doCommitDone_bad (hs : s.Sound) (hrun : s.book.running = some (k, true)) :
    s.doCommitDone false = s.commitBad r := by
  have hend : s.doCommitDone false = (s.commitBad r).startCommit := by
    unfold State.doCommitDone
    rw [hrun, hrecords]
    rfl
  rw [hend]
  have hfailed : Kept 16777220 s (s.commitFailed.flag F.PWR_EVT 2) :=
    State.flag_kept _ _ _ (State.wr_kept _ _ _ _ (State.onBook_kept s (fun b => { b with running := none }) (hs.kept _) rfl) rfl) rfl
  refine State.startCommit_none ?_
  rw [State.commitBad, State.wr_book, hfailed.sound.report_only]
  exact hwait

end

theorem State.commitShown_fields {s : State} (h : tableWf coldWord s.regs = true) {k recno : Nat} (hk : k < 8)
    (hr : recno < 2 ^ 24) :
    (s.commitShown k recno).rd F.PWR_PB_STAT_LAST_KIND = k ∧ (s.commitShown k recno).rdB F.PWR_PB_STAT_LAST_OK = true ∧
    (s.commitShown k recno).rd F.PWR_PB_STAT_RECNO = recno ∧ (s.commitShown k recno).rdB F.PWR_PB_STAT_BUSY = false ∧
    s.sameRegs (s.commitShown k recno) [F.PWR_PB_STAT] := by
  have h1 := State.wf_wr h F.PWR_PB_STAT_LAST_KIND 0 k
  have h2 := State.wf_wr h1 F.PWR_PB_STAT_LAST_OK 0 1
  have h3 := State.wf_wr h2 F.PWR_PB_STAT_RECNO 0 recno
  have hbusy : (s.commitShown k recno).rd F.PWR_PB_STAT_BUSY = 0 := State.rd_wr h3 F.PWR_PB_STAT_BUSY 0 0 (by decide)
  have hrecno : (s.commitShown k recno).rd F.PWR_PB_STAT_RECNO = recno % 2 ^ 24 :=
    ((OnlyFields.refl h3 [(F.PWR_PB_STAT_BUSY, 0)]).wr (.head _) 0).rd_last h2 (by decide) (by decide)
  have hok : (s.commitShown k recno).rd F.PWR_PB_STAT_LAST_OK = 1 :=
    (((OnlyFields.refl h2 [(F.PWR_PB_STAT_RECNO, 0), (F.PWR_PB_STAT_BUSY, 0)]).wr (by decide) recno).wr
      (by decide) 0).rd_last h1 (by decide) (by decide)
  have hkind : (s.commitShown k recno).rd F.PWR_PB_STAT_LAST_KIND = k % 2 ^ 3 :=
    ((((OnlyFields.refl h1 [(F.PWR_PB_STAT_LAST_OK, 0), (F.PWR_PB_STAT_RECNO, 0), (F.PWR_PB_STAT_BUSY, 0)]).wr
      (by decide) 1).wr (by decide) recno).wr (by decide) 0).rd_last h (by decide) (by decide)
  have hall : OnlyFields [(F.PWR_PB_STAT_LAST_KIND, 0), (F.PWR_PB_STAT_LAST_OK, 0), (F.PWR_PB_STAT_RECNO, 0),
      (F.PWR_PB_STAT_BUSY, 0)] s (s.commitShown k recno) :=
    ((((OnlyFields.refl h _).wr (by decide) k).wr (by decide) 1).wr (by decide) recno).wr (by decide) 0
  refine ⟨hkind.trans (Nat.mod_eq_of_lt hk), ?_, hrecno.trans (Nat.mod_eq_of_lt hr), ?_, hall.sameRegs_one (by decide)⟩
  · rw [State.rdB, hok]
    rfl
  · rw [State.rdB, hbusy]
    rfl

theorem State.commitGood_book (s : State) (k : Nat) (r : Record) (rest : List Record) :
    (s.commitGood k r rest).book = { s.book with records := { r with valid := true } :: rest, running := none } := by
  rw [State.commitGood, State.onBook_book, State.commitShown, State.wr_book, State.wr_book, State.wr_book, State.wr_book]

theorem State.Sound.commitGood_kept {s : State} (hs : s.Sound) (k : Nat) (r : Record) (rest : List Record) :
    Kept 16777220 s (s.commitGood k r rest) :=
  State.onBook_kept _ _ (State.wr_kept _ _ _ _ (State.wr_kept _ _ _ _ (State.wr_kept _ _ _ _ (State.wr_kept _ _ _ _
    (hs.kept _) rfl) rfl) rfl) rfl) rfl

theorem State.commitGood_fields {s : State} (h : tableWf coldWord s.regs = true) {k : Nat} (hk : k < 8) {r : Record}
    (hr : r.recno < 2 ^ 24) (rest : List Record) :
    (s.commitGood k r rest).rd F.PWR_PB_STAT_LAST_KIND = k ∧ (s.commitGood k r rest).rdB F.PWR_PB_STAT_LAST_OK = true ∧
    (s.commitGood k r rest).rd F.PWR_PB_STAT_RECNO = r.recno ∧ (s.commitGood k r rest).rdB F.PWR_PB_STAT_BUSY = false ∧
    s.sameRegs (s.commitGood k r rest) [F.PWR_PB_STAT] := by
  have hregs : (s.commitGood k r rest).regs = (s.commitShown k r.recno).regs := State.onBook_regs _ _
  obtain ⟨hkind, hok, hrecno, hbusy, hsame⟩ := State.commitShown_fields h hk hr
  rw [State.rdB, State.rdB, State.rd_of_regs hregs, State.rd_of_regs hregs, State.rd_of_regs hregs, State.rd_of_regs hregs]
  exact ⟨hkind, hok, hrecno, hbusy, hsame.trans (State.sameRegs_of_regs hregs _)⟩

/-- What a failed one leaves. -/
theorem State.Sound.commitBad_outcome {s : State} (hs : s.Sound) (r : Record) :
    (s.commitBad r).book = { s.book with running := none } ∧ (s.commitBad r).rdB F.PWR_PB_STAT_LAST_OK = false ∧
    (s.commitBad r).rdB F.PWR_PB_STAT_BUSY = false ∧ ((s.commitBad r).regGet F.PWR_EVT).getLsbD 2 = true ∧
    s.sameMain (s.commitBad r) [F.PWR_PB_STAT, F.PWR_EVT] ∧ Kept 16777734 s (s.commitBad r) := by
  have hfailed : Kept 16777220 s s.commitFailed :=
    State.wr_kept _ _ _ _ (State.onBook_kept s (fun b => { b with running := none }) (hs.kept _) rfl) rfl
  have hflag : Kept 16777220 s (s.commitFailed.flag F.PWR_EVT 2) := State.flag_kept _ _ _ hfailed rfl
  have hreport : Kept 16777734 s ((s.commitFailed.flag F.PWR_EVT 2).report 0x4303 s.commitFailed.locKeeper r.recno) :=
    State.report_kept _ _ _ _ (hflag.mono rfl) rfl
  have hlast : FieldsKept (flagFields F.PWR_EVT 2 ++ [(F.PWR_PB_STAT_BUSY, 0)]) s.commitFailed (s.commitBad r) :=
    (((FieldsKept.refl hfailed.sound.regs _).flag (.inl (by decide))).report _ _ _).wr (.inl (by decide)) 0
  have hok : (s.commitBad r).rd F.PWR_PB_STAT_LAST_OK = 0 :=
    (hlast.same (F.PWR_PB_STAT_LAST_OK, 0) (by decide) (by decide)).trans (State.rd_wr hs.regs _ _ _ (by decide))
  have hbusy : (s.commitBad r).rd F.PWR_PB_STAT_BUSY = 0 := State.rd_wr hreport.sound.regs _ _ _ (by decide)
  have hseen : (s.commitBad r).rd ⟨F.PWR_EVT, 4, 2, 1⟩ 0 = 1 :=
    ((((FieldsKept.refl hflag.sound.regs [(F.PWR_PB_STAT_BUSY, 0)]).report _ _ _).wr (.inl (.head _)) 0).same
      (⟨F.PWR_EVT, 4, 2, 1⟩, 0) (by decide) (by decide)).trans (State.rd_flag hfailed.sound.regs _ (by decide))
  refine ⟨?_, ?_, ?_, ?_, ?_, State.wr_kept _ _ _ _ hreport rfl⟩
  · rw [State.commitBad, State.wr_book, hflag.sound.report_only]
    rfl
  · rw [State.rdB, hok]
    rfl
  · rw [State.rdB, hbusy]
    rfl
  · rw [getLsbD_eq_testBit_getField]
    exact (congrArg (Nat.testBit · 0) hseen).trans rfl
  · have hall := ((FieldsKept.refl hs.regs ((F.PWR_PB_STAT_LAST_OK, 0) :: flagFields F.PWR_EVT 2 ++ [(F.PWR_PB_STAT_BUSY, 0)])).congr
      (u := { s with book := { s.book with running := none } }) rfl |>.wr (.inl (.head _)) 0)
    exact (hall.trans (hlast.mono (by decide))).sameMain_of (by decide)

/-! ### Commands -/

section
variable {s : State} (hs : s.Working) (p : Fin 10)
include hs

theorem State.Working.exec_pbCommit : exec (.pbCommit p) s = .next (s.accepted p State.doPbCommit) := by
  refine (hs.awake.next_keeperDo fun s => s.hostBit p F.PWR_CMD_PB_COMMIT 0).trans (congrArg _ ?_)
  refine hs.hostBit_command p (fld := F.PWR_CMD_PB_COMMIT) (ops := [(0, State.doPbCommit), (1, State.doVinClrMin)])
    (by decide +kernel) (by decide +kernel) rfl (by decide) (fun r hr u w ns => ?_) (by decide +kernel) (by decide) (.head _)
  rw [State.writeReg, State.writeMgt, hr]
  rfl

theorem State.Working.exec_vinClrMin : exec (.vinClrMin p) s = .next (s.accepted p State.doVinClrMin) := by
  refine (hs.awake.next_keeperDo fun s => s.hostBit p F.PWR_CMD_CLR_MIN 0).trans (congrArg _ ?_)
  refine hs.hostBit_command p (fld := F.PWR_CMD_CLR_MIN) (ops := [(0, State.doPbCommit), (1, State.doVinClrMin)])
    (by decide +kernel) (by decide +kernel) rfl (by decide) (fun r hr u w ns => ?_) (by decide +kernel) (by decide) (.tail _ (.head _))
  rw [State.writeReg, State.writeMgt, hr]
  rfl

end

end Sys2Proof.Machine

open Sys2Proof Sys2Proof.Machine

/-- Settles O31, clause by clause: a request with no commit about starts one (commitBegun), a good end shows it (commitShown), a
second failure reports it (commitBad). -/
theorem promptBook : Obligations.PromptBook := by
  unfold Obligations.PromptBook
  intro s hs
  have hregs := hs.sound.regs
  refine ⟨fun p hrun hwait => ?_, fun p hrun => ?_, fun h => ?_, fun hper hrun hwait hfs => ?_,
    fun k again r rest hrun hrecords hwait hk hr => ⟨?_, ?_, ?_⟩, fun hrun ok => ?_, fun p => ?_⟩
  · have hbegun : s.drawn.doPbCommit = s.drawn.commitBegun commitHost := State.requestCommit_idle (s := s.drawn) hrun hwait commitHost
    obtain ⟨hbusy, hsame⟩ := State.commitBegun_fields (s := s.drawn) hregs commitHost
    refine ⟨_, s.makeRecord commitHost, (hs.exec_pbCommit p).trans (congrArg _ (State.accepted_of_drawn hbegun)), rfl, rfl, rfl, rfl,
      rfl, hbusy, hsame, rfl⟩
  · exact (hs.exec_pbCommit p).trans (congrArg _ (State.accepted_congr (State.doPbCommit_running hrun)))
  · refine (hs.awake.next_keeperDo State.doPbPeriodic).trans (congrArg _ ?_)
    rw [State.doPbPeriodic, if_pos h]
  · set u := s.periodPassed (s.book.periodTick + 1000 * s.rd F.PWR_PB_CFG_PERIOD_S) with hu
    have honly : u = { s with clk := u.clk, book := { s.book with periodTick := u.clk.tick } } := s.periodPassed_only _
    have hureg : u.regs = s.regs := by rw [honly]
    obtain ⟨-, hsame⟩ := State.commitBegun_fields (s := u) (hureg ▸ hregs) commitPeriodic
    have hdue := State.doPbPeriodic_due hper hrun hwait
    have hbook : u.book = { s.book with periodTick := u.clk.tick } := congrArg State.book honly
    refine ⟨_, u.makeRecord commitPeriodic, (hs.awake.next_keeperDo State.doPbPeriodic).trans
      (congrArg _ hdue), State.le_tick_toTick hfs _, ?_, rfl, rfl, (State.sameRegs_of_regs hureg _).trans hsame, ?_⟩
    · rw [← hu, State.commitBegun_book, hbook]
      rfl
    · rw [← hdue]
      exact (State.doPbPeriodic_kept s (hs.sound.kept 16777236) rfl).eq_withParts
  · obtain ⟨hkind, hok, hrecno, hbusy, hsame⟩ := State.commitGood_fields hregs hk hr rest
    exact ⟨_, (hs.awake.next_keeperDo fun s => s.doCommitDone true).trans
      (congrArg _ (State.doCommitDone_good hrecords hwait hrun)), s.commitGood_book k r rest, hkind, hok, hrecno, hbusy, hsame,
      (hs.sound.commitGood_kept k r rest).eq_withParts⟩
  · rintro rfl
    exact (hs.awake.next_keeperDo fun s => s.doCommitDone false).trans (congrArg _ (State.doCommitDone_again hrecords hrun))
  · rintro rfl
    obtain ⟨hbook, hok, hbusy, hseen, hmain, hkept⟩ := hs.sound.commitBad_outcome r
    exact ⟨_, (hs.awake.next_keeperDo fun s => s.doCommitDone false).trans
      (congrArg _ (State.doCommitDone_bad hrecords hwait hs.sound hrun)), hbook, hok, hbusy, hseen, hmain, hkept.eq_withParts⟩
  · refine (hs.awake.next_keeperDo fun s => s.doCommitDone ok).trans (congrArg _ ?_)
    unfold State.doCommitDone
    rw [hrun]
  · exact (hs.exec_vinClrMin p).trans (congrArg _ (State.accepted_congr rfl))

end

section
/-! SUPPORT. Flushes of class 2, drops of class 3 and high-water marks (R239 to R241). -/

namespace Sys2Proof.Machine

/-! ### The bits FLUSH_BUSY (R239) -/

theorem State.flushBusy_setFlushBusy {s : State} (h : tableWf coldWord s.regs = true) {g : Nat} (hg : g < 8) (b : Bool) :
    (s.setFlushBusy g b).flushBusy g = b := by
  have hv : s.rd F.QUE_CMD_STAT_FLUSH_BUSY < 2 ^ 8 := Nat.mod_lt _ (by decide)
  have hpow : 2 ^ g < 2 ^ 8 := Nat.pow_lt_pow_right (by decide) hg
  rw [State.setFlushBusy, State.flushBusy, State.rd_wr h _ _ _ (by decide)]
  cases b with
  | true => 
    rw [if_pos rfl, Nat.mod_eq_of_lt (Nat.or_lt_two_pow hv hpow), Nat.testBit_or, Nat.testBit_two_pow_self, Bool.or_true]
  | false =>
    rw [if_neg Bool.false_ne_true, Nat.testBit_mod_two_pow, decide_eq_true hg, Bool.true_and]
    split
    · next hbit => rw [testBit_sub_two_pow hbit, if_pos rfl]
    · next hbit => rwa [Nat.sub_zero, ← Bool.not_eq_true]

theorem State.setFlushBusy_fields {s : State} (h : tableWf coldWord s.regs = true) (g : Nat) (b : Bool) :
    OnlyFields [(F.QUE_CMD_STAT_FLUSH_BUSY, 0)] s (s.setFlushBusy g b) := (OnlyFields.refl h _).wr (.head _) _

theorem discardCount_apart (q : Nat) : FieldsApart (F.QUE_DISCARD_COUNT, q) (F.QUE_CMD_STAT_FLUSH_BUSY, 0) :=
  .inl (by simp only [Fld.addr]; omega)

/-! ### The packets that a flush discards (R239) -/

/-- From u on n more packets of sub-queue q have been discarded: below the block PMC no register has changed, and of the queue only
what is left of the flush. -/
structure State.Discarded (u t : State) (q n : Nat) : Prop where
  kept : Kept 2097924 u t
  low : ∀ b < 0x3C0000, t.regGet b = u.regGet b
  own : ∃ set, ((u.queue q).flushSet = [] → set = []) ∧
    t.queue q = { u.queue q with flushSet := set, flushCount := (u.queue q).flushCount + n }
  others : ∀ r, r ≠ q → t.queue r = u.queue r

section
variable {u : State} (hu : u.Sound) {q : Nat} (hq : q < 12)
include hu

theorem State.Sound.discarded_refl (q : Nat) : u.Discarded u q 0 :=
  ⟨hu.kept _, fun _ _ => rfl, ⟨_, id, rfl⟩, fun _ _ => rfl⟩

omit hu in
include hq in
theorem State.Discarded.one {t : State} {n : Nat} (h : u.Discarded t q n) (ch a b : Nat) :
    u.Discarded ((t.discardTags ch a b).flushOne q ch a) q (n + 1) := by
  obtain ⟨set, hset, hown⟩ := h.own
  have ht := h.kept.sound
  have hlen : q < (t.discardTags ch a b).que.length := by rw [State.discardTags, ht.que]; exact hq
  set v := (t.discardTags ch a b).onQueue q fun x =>
    { x with flushSet := x.flushSet.filter fun p => p != (ch, a), flushCount := x.flushCount + 1 } with hv
  set w := v.count (0xC0 + ch) (v.locCxUnit ch) 1 with hw
  have hone : (t.discardTags ch a b).flushOne q ch a = { w with fau := { v.fau with discardSecond := v.fau.discardSecond + 1 } } := rfl
  have hv' : Kept 2097408 t v := State.onQueue_kept _ _ _ (State.discardTags_kept t ch a b (ht.kept _) rfl) rfl
  have hque' : ((t.discardTags ch a b).flushOne q ch a).que = v.que := by
    rw [hone, hw, (State.count_kept v (0xC0 + ch) (v.locCxUnit ch) 1 (hv'.sound.kept 4) rfl).eq_withParts]
    rfl
  have hque (r : Nat) : ((t.discardTags ch a b).flushOne q ch a).queue r = v.queue r :=
    congrArg (fun l : List Queue => l.getD r {}) hque'
  refine ⟨State.flushOne_kept _ _ _ _ (State.discardTags_kept t ch a b h.kept rfl) rfl, fun c hc => ?_,
    ⟨set.filter fun p => p != (ch, a), fun hempty => ?_, ?_⟩, fun r hr => ?_⟩
  · have hlow : w.regGet c = v.regGet c := State.count_low hv'.sound.regs _ _ _ hc
    rw [hone]
    exact hlow.trans (h.low c hc)
  · rw [hset hempty]
    rfl
  · rw [hque, hv, State.queue_onQueue hlen]
    have hsame : (t.discardTags ch a b).queue q = t.queue q := rfl
    rw [hsame, hown]
    rfl
  · rw [hque, hv, State.queue_onQueue_ne _ _ hr]
    exact h.others r hr

omit hu in
include hq in
/-- Discarding a list of packets one by one. -/
theorem State.Discarded.all (l : List Packet) {t : State} {n : Nat} (h : u.Discarded t q n) :
    u.Discarded (t.forEach l fun t p => (t.discardTags p.ch p.n0 (p.n0 + 1024 * t.decimOf p.ch)).flushOne q p.ch p.n0) q
      (n + l.length) := by
  induction l generalizing t n with
  | nil => exact h
  | cons p l ih =>
    rw [List.length_cons, Nat.add_comm l.length, ← Nat.add_assoc]
    exact ih (h.one hq p.ch p.n0 _)

end

/-! ### The end of a flush (R239) -/

section
variable {s : State} {g : Nat}

theorem State.doFlushDone_waits (h : s.flushBusy g = false ∨ (s.queue (4 + g)).flushSet ≠ [] ∨
    (s.queue (4 + g)).flushRead = true) : s.doFlushDone g = s := by
  unfold State.doFlushDone
  refine if_neg fun hdone => ?_
  simp only [Bool.and_eq_true, Bool.not_eq_true', List.isEmpty_iff] at hdone
  obtain ⟨⟨hbusy, hset⟩, hread⟩ := hdone
  rcases h with h | h | h
  · simp [h] at hbusy
  · exact h hset
  · simp [h] at hread

/-- What the end of a flush leaves. -/
theorem State.Sound.doFlushDone_outcome (hs : s.Sound) (hg : g < 8) (hbusy : s.flushBusy g = true)
    (hset : (s.queue (4 + g)).flushSet = []) (hread : (s.queue (4 + g)).flushRead = false) :
    (s.doFlushDone g).flushBusy g = false ∧
    (s.doFlushDone g).rd F.QUE_DISCARD_COUNT (4 + g) =
      min (2 ^ 32 - 1) (s.rd F.QUE_DISCARD_COUNT (4 + g) + (s.queue (4 + g)).flushCount) ∧
    (s.doFlushDone g).queue (4 + g) = { s.queue (4 + g) with flushCount := 0 } ∧
    (∀ r, r ≠ 4 + g → (s.doFlushDone g).queue r = s.queue r) ∧
    s.sameRegs (s.doFlushDone g) [F.QUE_CMD_STAT, F.QUE_DISCARD + 16 * (4 + g)] := by
  have hdone : s.doFlushDone g = (((s.setFlushBusy g false).satAdd F.QUE_DISCARD_COUNT (4 + g) (s.queue (4 + g)).flushCount).onQueue
      (4 + g) fun x => { x with flushCount := 0 }) := by
    unfold State.doFlushDone
    exact if_pos (by rw [hbusy, hset, hread]; rfl)
  have hfree := State.setFlushBusy_fields hs.regs g false
  have hbit := State.flushBusy_setFlushBusy hs.regs hg false
  set u := s.setFlushBusy g false with hu
  set v := u.satAdd F.QUE_DISCARD_COUNT (4 + g) (s.queue (4 + g)).flushCount with hv
  have hcounted : OnlyFields [(F.QUE_DISCARD_COUNT, 4 + g)] u v := (OnlyFields.refl hfree.wf _).wr (.head _) _
  have hregs : (s.doFlushDone g).regs = v.regs := by rw [hdone]; rfl
  have hque : s.que = v.que := rfl
  have hlen : 4 + g < v.que.length := by rw [← hque, hs.que]; omega
  refine ⟨?_, ?_, ?_, fun r hr => ?_, ?_⟩
  · rw [State.flushBusy, State.rd_of_regs hregs, hcounted.same (F.QUE_CMD_STAT_FLUSH_BUSY, 0)
      (List.forall_mem_singleton.2 (.inl (by simp only [Fld.addr]; omega)))]
    exact hbit
  · rw [State.rd_of_regs hregs, hv, State.rd_satAdd hfree.wf (by decide), 
      hfree.same (F.QUE_DISCARD_COUNT, 4 + g) (List.forall_mem_singleton.2 (discardCount_apart _))]
  · rw [hdone, State.queue_onQueue hlen]
    rfl
  · rw [hdone, State.queue_onQueue_ne _ _ hr]
    rfl
  · exact ((((hfree.mono (W' := [(F.QUE_CMD_STAT_FLUSH_BUSY, 0), (F.QUE_DISCARD_COUNT, 4 + g)]) (by simp)).trans
      (hcounted.mono (by simp))).congr hregs).sameRegs_of (by simp [Fld.addr, F.QUE_CMD_STAT, F.QUE_DISCARD]))

end

/-! ### A flush (R239) -/

/-- A queue of which a flush begins: nothing waits any more, and what is in progress or being read is to go. -/
def Queue.flushed (x : Queue) (now : Nat) : Queue :=
  { x with
    waiting := []
    flushSet := (x.progress.filter fun p => decide (p.2.1 < now)).map fun p => (p.1, p.2.1)
    flushCount := 0
    flushRead := x.reading.isSome }

def State.flushBegun (s : State) (g : Nat) : State := (s.setFlushBusy g true).onQueue (4 + g) fun x => x.flushed s.clk.count

theorem State.doQueueFlush_busy {s : State} {g : Nat} (h : s.flushBusy g = true) : s.doQueueFlush g = s := if_pos h

/-- What the discards leave of a flush that has begun. -/
theorem State.Sound.doQueueFlush_eq {s : State} (hs : s.Sound) {g : Nat} (hg : g < 8) (h : s.flushBusy g = false) :
    ∃ t, s.doQueueFlush g = t.doFlushDone g ∧ (s.flushBegun g).Discarded t (4 + g) (s.queue (4 + g)).waiting.length := by
  have hbegun : (s.flushBegun g).Sound :=
    (State.onQueue_kept _ _ _ (State.setFlushBusy_kept s g true (hs.kept 260) rfl) rfl).sound
  have hflush : s.doQueueFlush g = ((s.flushBegun g).forEach (s.queue (4 + g)).waiting fun t p =>
      (t.discardTags p.ch p.n0 (p.n0 + 1024 * t.decimOf p.ch)).flushOne (4 + g) p.ch p.n0).doFlushDone g := if_neg (by simp [h])
  have hall := (hbegun.discarded_refl (4 + g)).all (by omega) (s.queue (4 + g)).waiting
  rw [Nat.zero_add] at hall
  exact ⟨_, hflush, hall⟩

theorem State.Sound.doQueueFlush_outcome {s : State} (hs : s.Sound) {g : Nat} (hg : g < 8) (h : s.flushBusy g = false) {x : Queue}
    (hx : x = s.queue (4 + g)) :
    ((s.doQueueFlush g).queue (4 + g)).waiting = [] ∧ ((s.doQueueFlush g).queue (4 + g)).progress = x.progress ∧
    ((s.doQueueFlush g).queue (4 + g)).reading = x.reading ∧
    (x.progress = [] → x.reading = none → (s.doQueueFlush g).flushBusy g = false ∧
      (s.doQueueFlush g).rd F.QUE_DISCARD_COUNT (4 + g) =
        min (2 ^ 32 - 1) (s.rd F.QUE_DISCARD_COUNT (4 + g) + x.waiting.length)) ∧
    (x.reading ≠ none → (s.doQueueFlush g).flushBusy g = true) ∧
    (∀ r, r ≠ 4 + g → (s.doQueueFlush g).queue r = s.queue r) ∧ s.sameMain (s.doQueueFlush g) [] := by
  obtain ⟨t, hflush, hdisc⟩ := hs.doQueueFlush_eq hg h
  obtain ⟨set, hset, hown⟩ := hdisc.own
  have hlen : 4 + g < (s.setFlushBusy g true).que.length := by rw [State.setFlushBusy, State.wr_que, hs.que]; omega
  have hbegun : (s.flushBegun g).queue (4 + g) = x.flushed s.clk.count := by
    rw [State.flushBegun, State.queue_onQueue hlen, hx]
    rfl
  have hfree := State.setFlushBusy_fields hs.regs g true
  have hbusy : t.flushBusy g = true := by
    rw [State.flushBusy, State.rd_of_regGet (hdisc.low _ (by decide))]
    exact State.flushBusy_setFlushBusy hs.regs hg true
  have hcount : t.rd F.QUE_DISCARD_COUNT (4 + g) = s.rd F.QUE_DISCARD_COUNT (4 + g) := by
    rw [State.rd_of_regGet (hdisc.low _ (by simp only [Fld.addr]; omega))]
    exact hfree.same (F.QUE_DISCARD_COUNT, 4 + g) (List.forall_mem_singleton.2 (discardCount_apart _))
  have hothers (r : Nat) (hr : r ≠ 4 + g) : t.queue r = s.queue r :=
    (hdisc.others r hr).trans (State.queue_onQueue_ne _ _ hr _)
  rw [hbegun] at hown hset
  have hwait : (t.queue (4 + g)).waiting = [] := by rw [hown]; rfl
  have hprogress : (t.queue (4 + g)).progress = x.progress := by rw [hown]; rfl
  have hreading : (t.queue (4 + g)).reading = x.reading := by rw [hown]; rfl
  have hread : (t.queue (4 + g)).flushRead = x.reading.isSome := by rw [hown]; rfl
  have hmain : s.sameMain t [] := State.sameMain.trans (t := s.flushBegun g)
    ((hfree.congr rfl).sameMain_of fun y hy => by rw [List.mem_singleton.1 hy]; exact .inr (by decide))
    fun b _ hb _ => hdisc.low b (by omega)
  have hnumber : (t.queue (4 + g)).flushCount = x.waiting.length := by
    rw [hown, hx]
    exact Nat.zero_add _
  rw [hflush]
  by_cases hdone : (t.queue (4 + g)).flushSet = [] ∧ (t.queue (4 + g)).flushRead = false
  · obtain ⟨hfree', hcount', hqueue, hothers', hsame⟩ := hdisc.kept.sound.doFlushDone_outcome hg hbusy hdone.1 hdone.2
    rw [hqueue, hcount', hcount, hnumber]
    refine ⟨hwait, hprogress, hreading, fun _ _ => ⟨hfree', rfl⟩, fun hne => ?_, fun r hr => (hothers' r hr).trans (hothers r hr),
      hmain.trans fun b hq hb _ => hsame b ?_⟩
    · rw [hread] at hdone
      exact absurd (Option.isSome_eq_false_iff.1 hdone.2) (by simpa using hne)
    · simp only [List.mem_cons, List.not_mem_nil, or_false, F.QUE_CMD_STAT, F.QUE_DISCARD]
      omega
  · have hwaits : t.doFlushDone g = t := State.doFlushDone_waits (.inr (by
      rcases not_and_or.1 hdone with h | h
      · exact .inl h
      · exact .inr (Bool.eq_true_of_not_eq_false h)))
    rw [hwaits]
    refine ⟨hwait, hprogress, hreading, fun hnone hidle => absurd ⟨?_, ?_⟩ hdone, fun _ => hbusy, hothers, hmain⟩
    · rw [hown]
      refine hset ?_
      rw [Queue.flushed, hnone]
      rfl
    · rw [hread, hidle]
      rfl

/-! ### The end of a packet (R231, R233) -/

/-- A blocked packet that is stored as space comes free moves a high-water mark, and leaves what is being read. -/
theorem State.Sound.unblock_outcome {s : State} (hs : s.Sound) {q : Nat} (hq : q < 12) :
    ((s.unblock q).queue q).reading = (s.queue q).reading ∧ OnlyFields [(F.QUE_HWM_WORDS, q)] s (s.unblock q) := by
  have hloop (l : List Packet) {u : State} (hu : u.Sound) :
      let t := u.forEach l fun s p =>
        if (s.queue q).blocked.head? = some p ∧ (s.queue q).fill + p.words.length ≤ queueCap q then
          (s.onQueue q fun x => { x with blocked := x.blocked.tail }).enqueue q p
        else s
      (t.queue q).reading = (u.queue q).reading ∧ OnlyFields [(F.QUE_HWM_WORDS, q)] u t := by
    induction l generalizing u with
    | nil => exact ⟨rfl, .refl hu.regs _⟩
    | cons p l ih =>
      dsimp only [State.forEach, List.foldl_cons] at ih ⊢
      split
      · set v := u.onQueue q fun x => { x with blocked := x.blocked.tail } with hv
        have hvs : v.Sound := (State.onQueue_kept u q (fun x => { x with blocked := x.blocked.tail }) (hu.kept 256) rfl).sound
        obtain ⟨hread, hfields⟩ := ih (State.enqueue_kept v q p (hvs.kept 324) rfl).sound
        have henq : ((v.enqueue q p).queue q).reading = (u.queue q).reading := by
          have hvq : v.queue q = { u.queue q with blocked := (u.queue q).blocked.tail } :=
            State.queue_onQueue (by rw [hu.que]; exact hq) _
          have hque : (v.enqueue q p).queue q = { v.queue q with waiting := (v.queue q).waiting ++ [{ p with at_ := v.clk.count }] } :=
            (congrArg (fun l : List Queue => l.getD q {}) (v.enqueue_que q p)).trans (getD_set_same (by rw [hvs.que]; exact hq) _ _)
          rw [hque, hvq]
        refine ⟨hread.trans henq, OnlyFields.trans ?_ hfields⟩
        exact (((OnlyFields.refl hu.regs [(F.QUE_HWM_WORDS, q)]).congr (u := v.onQueue q _) rfl).wr (.head _) _).congr
          (v.enqueue_regs q p)
      · exact ih hu
  exact hloop _ hs

theorem State.Sound.endPacket_outcome {s : State} (hs : s.Sound) {q : Nat} (hq : q < 12) :
    ((s.endPacket q).queue q).reading = none ∧ OnlyFields [(F.QUE_HWM_WORDS, q)] s (s.endPacket q) := by
  set u := s.onQueue q fun x => { x with reading := none, readTotal := 0, flushRead := false, dropRead := false } with hu
  have hkept : Kept 256 s u := State.onQueue_kept s q _ (hs.kept _) rfl
  obtain ⟨hread, hfields⟩ := hkept.sound.unblock_outcome hq
  have hown : (u.queue q).reading = none := by rw [hu, State.queue_onQueue (by rw [hs.que]; exact hq)]
  have hend : s.endPacket q = u.unblock q := rfl
  rw [hend]
  exact ⟨hread.trans hown, OnlyFields.trans (t := u) ((OnlyFields.refl hs.regs _).congr rfl) hfields⟩

/-! ### DROP3 (R240) -/

section
variable {s : State}

/-- A drop of the packet being read. -/
theorem State.Sound.doDrop3_outcome (hs : s.Sound) (hbusy : s.rdB F.QUE_CMD_STAT_DROP_BUSY = false)
    (hread : (s.queue 3).reading ≠ none) :
    s.doDrop3.rdB F.QUE_CMD_STAT_DROP_BUSY = true ∧ s.doDrop3.queue 3 = { s.queue 3 with dropRead := true } ∧
    s.sameRegs s.doDrop3 [F.QUE_CMD_STAT] := by
  have hdrop : s.doDrop3 = (s.wr F.QUE_CMD_STAT_DROP_BUSY 0 1).onQueue 3 fun x => { x with dropRead := true } := by
    unfold State.doDrop3
    rw [hbusy, if_neg Bool.false_ne_true, if_neg (by simpa using hread)]
  have hregs : s.doDrop3.regs = (s.wr F.QUE_CMD_STAT_DROP_BUSY 0 1).regs := by rw [hdrop, State.onQueue_regs]
  refine ⟨?_, ?_, State.sameRegs_of_wr hs.regs (f := F.QUE_CMD_STAT_DROP_BUSY) (i := 0) hregs⟩
  · rw [State.rdB, State.rd_of_regs hregs, State.rd_wr hs.regs _ _ _ (by decide)]
    rfl
  · rw [hdrop, State.queue_onQueue (by rw [State.wr_que, hs.que]; decide)]
    rfl

theorem State.doDrop3_busy (hbusy : s.rdB F.QUE_CMD_STAT_DROP_BUSY = true) : s.doDrop3 = s := if_pos hbusy

theorem State.doDrop3_none (hbusy : s.rdB F.QUE_CMD_STAT_DROP_BUSY = false) (hread : (s.queue 3).reading = none) :
    s.doDrop3 = s.flag F.QUE_EVT 2 := by
  unfold State.doDrop3
  rw [hbusy, if_neg Bool.false_ne_true, hread]
  rfl

theorem State.doDrop3Done_idle (hbusy : s.rdB F.QUE_CMD_STAT_DROP_BUSY = false) : s.doDrop3Done = s := by
  unfold State.doDrop3Done
  rw [hbusy]
  rfl

/-- The packet that was being read has gone with its drop. -/
theorem State.Sound.doDrop3Done_dropped (hs : s.Sound) (hbusy : s.rdB F.QUE_CMD_STAT_DROP_BUSY = true)
    (hdrop : (s.queue 3).dropRead = true) :
    s.doDrop3Done.rdB F.QUE_CMD_STAT_DROP_BUSY = false ∧ (s.doDrop3Done.queue 3).reading = none ∧
    s.doDrop3Done.rd F.QUE_DISCARD_COUNT 3 = min (2 ^ 32 - 1) (s.rd F.QUE_DISCARD_COUNT 3 + 1) ∧ s.sameMain s.doDrop3Done [] := by
  set u := s.wr F.QUE_CMD_STAT_DROP_BUSY 0 0 with hu
  have hdone : s.doDrop3Done = (u.endPacket 3).satAdd F.QUE_DISCARD_COUNT 3 1 := by
    unfold State.doDrop3Done
    rw [hbusy, hdrop]
    rfl
  have hus : u.Sound := (State.wr_kept s _ _ _ (hs.kept 4) rfl).sound
  obtain ⟨hread, hfields⟩ := hus.endPacket_outcome (q := 3) (by decide)
  have hall : OnlyFields [(F.QUE_HWM_WORDS, 3), (F.QUE_DISCARD_COUNT, 3)] u s.doDrop3Done := by
    rw [hdone]
    exact (hfields.mono (by simp)).wr (by simp) _
  have hcount : (u.endPacket 3).rd F.QUE_DISCARD_COUNT 3 = s.rd F.QUE_DISCARD_COUNT 3 :=
    (hfields.same (F.QUE_DISCARD_COUNT, 3) (by decide)).trans (State.rd_wr_ne hs.regs _ _ _ _ _ (by decide))
  refine ⟨?_, ?_, ?_, ?_⟩
  · rw [State.rdB, hall.same (F.QUE_CMD_STAT_DROP_BUSY, 0) (by decide), hu, State.rd_wr hs.regs _ _ _ (by decide)]
    rfl
  · rw [hdone]
    exact hread
  · rw [hdone, State.rd_satAdd hfields.wf (by decide), hcount]
  · exact ((OnlyFields.refl hs.regs [(F.QUE_CMD_STAT_DROP_BUSY, 0), (F.QUE_HWM_WORDS, 3), (F.QUE_DISCARD_COUNT, 3)]).wr
      (.head _) 0 |>.trans (hall.mono (by simp))).sameMain_of (by decide)

/-- There was none. -/
theorem State.Sound.doDrop3Done_none (hs : s.Sound) (hbusy : s.rdB F.QUE_CMD_STAT_DROP_BUSY = true)
    (hdrop : (s.queue 3).dropRead = false) :
    s.doDrop3Done.rdB F.QUE_CMD_STAT_DROP_BUSY = false ∧ s.doDrop3Done.que = s.que ∧
    (s.doDrop3Done.regGet F.QUE_EVT).getLsbD 2 = true ∧ s.sameMain s.doDrop3Done [] := by
  set u := s.wr F.QUE_CMD_STAT_DROP_BUSY 0 0 with hu
  have hdone : s.doDrop3Done = u.flag F.QUE_EVT 2 := by
    unfold State.doDrop3Done
    rw [hbusy, hdrop]
    rfl
  have hwf := State.wf_wr hs.regs F.QUE_CMD_STAT_DROP_BUSY 0 0
  have hfields : OnlyFields (flagFields F.QUE_EVT 2) u (u.flag F.QUE_EVT 2) := (OnlyFields.refl hwf _).flag fun _ h => h
  rw [hdone]
  refine ⟨?_, rfl, ?_, ?_⟩
  · rw [State.rdB, hfields.same (F.QUE_CMD_STAT_DROP_BUSY, 0) (by decide), hu, State.rd_wr hs.regs _ _ _ (by decide)]
    rfl
  · rw [getLsbD_eq_testBit_getField]
    exact (congrArg (Nat.testBit · 0) (State.rd_flag hwf F.QUE_EVT (k := 2) (by decide))).trans rfl
  · exact ((OnlyFields.refl hs.regs ((F.QUE_CMD_STAT_DROP_BUSY, 0) :: flagFields F.QUE_EVT 2)).wr (.head _) 0
      |>.trans (hfields.mono fun y hy => .tail _ hy)).sameMain_of (by decide)

end

/-! ### Commands -/

/-- The operations of QUE_CMD. -/
abbrev queOps : List (Nat × (State → State)) :=
  ((List.range 8).map fun g => (g, fun (s : State) => s.doQueueFlush g)) ++ [(8, State.doDrop3)]

theorem State.writeReg_queCmd (u : State) {r : RegDef} (hr : r.base = F.QUE_CMD) (p ns : Nat) (w : Word) :
    u.writeReg r p F.QUE_CMD w ns = u.commands w queOps := by
  rw [State.writeReg, State.writeMgt, State.writeFront, State.writeCore, hr]
  rfl

section
variable {s : State} (hs : s.Working) (p : Fin 10)
include hs

theorem State.Working.exec_queueFlush (g : Fin 8) :
    exec (.queueFlush p g) s = .next (s.accepted p fun u => u.doQueueFlush g) := by
  refine (hs.awake.next_keeperDo fun s => s.hostWrite p F.QUE_CMD (BitVec.ofNat 32 (2 ^ g.val))).trans (congrArg _ ?_)
  obtain ⟨r, hr, hstore⟩ := hs.portStore_open p (a := F.QUE_CMD) (by decide +kernel) (BitVec.ofNat 32 (2 ^ g.val))
  have hbase : r.base = F.QUE_CMD := base_of_baseOf (by decide +kernel) hr
  rw [State.hostWrite, hstore]
  refine congrArg (s.accepted p) (funext fun u => (u.writeReg_queCmd hbase p _ _).trans ?_)
  have hword : (BitVec.ofNat 32 (2 ^ g.val)).toNat = 2 ^ g.val := by
    rw [BitVec.toNat_ofNat, Nat.mod_eq_of_lt (Nat.pow_lt_pow_right (by decide) (by omega))]
  refine u.commands_of_one (k := g.val) (f := fun s => s.doQueueFlush g.val) (ops := queOps) (fun x _ => ?_) (by decide) ?_
  · rw [hword, Nat.testBit_two_pow]
    exact decide_eq_decide.2 eq_comm
  · exact List.mem_append_left _ (List.mem_map.2 ⟨g.val, List.mem_range.2 g.isLt, rfl⟩)

theorem State.Working.exec_drop3 : exec (.drop3 p) s = .next (s.accepted p State.doDrop3) := by
  refine (hs.awake.next_keeperDo fun s => s.hostBit p F.QUE_CMD_DROP3 0).trans (congrArg _ ?_)
  exact hs.hostBit_command p (fld := F.QUE_CMD_DROP3) (ops := queOps) (by decide +kernel) (by decide +kernel) rfl (by decide)
    (fun r hr u w ns => u.writeReg_queCmd hr p ns w) (by decide +kernel) (by decide) (List.mem_append_right _ (.head _))

theorem State.Working.exec_hwmReset (q : Fin 12) (w : Word) :
    exec (.hwmReset p q w) s = .next (s.accepted p fun u => u.doHwmReset q) := by
  refine (hs.awake.next_keeperDo fun s => s.hostWrite p (F.QUE_HWM + 16 * q) w).trans (congrArg _ ?_)
  obtain ⟨r, hbase, hstride, hstore⟩ := hs.portStore_array p (b := F.QUE_HWM) (d := 16) (k := 12) (by decide +kernel) q.isLt w
  rw [State.hostWrite, hstore]
  refine congrArg (s.accepted p) (funext fun u => ?_)
  have hi : (F.QUE_HWM + 16 * q - F.QUE_HWM) / 16 = q.val := by omega
  have hlive : deadSource (F.QUE_HWM + 16 * q) = false := deadSource_of_lt (by simp only [F.QUE_HWM]; omega)
  rw [State.writeReg, State.writeMgt, State.writeFront, State.writeCore, hbase, hstride, hi, hlive]
  rfl

end

end Sys2Proof.Machine

open Sys2Proof Sys2Proof.Machine

/-- Settles O25, clause by clause: what the discards of a flush leave (Discarded), its end, and the end of a packet. -/
theorem queueCommands : Obligations.QueueCommands := by
  unfold Obligations.QueueCommands
  intro s hs
  have hsound := hs.sound
  refine ⟨fun p g hbusy => ?_, fun p g x hbusy hx => ?_, fun g x hx => ⟨fun hbusy hset hread => ?_, fun hwaits => ?_⟩,
    fun p hbusy => ⟨fun hnone => ?_, fun hread => ?_⟩, fun hbusy => ?_, fun hbusy => ?_, fun p q w hfill => ?_⟩
  · exact (hs.exec_queueFlush p g).trans (congrArg _ (State.accepted_congr (State.doQueueFlush_busy (s := s.drawn) hbusy)))
  · obtain ⟨hwait, hprogress, hreading, hidle, hstill, hothers, hmain⟩ :=
      hsound.drawn.doQueueFlush_outcome g.isLt hbusy (x := x) hx
    have hkept : Kept 2097956 s.drawn (s.accepted p fun u => u.doQueueFlush g) :=
      State.accepted_kept rfl (State.doQueueFlush_kept s.drawn g (hsound.drawn.kept _) rfl)
    exact ⟨_, hs.exec_queueFlush p g, hwait, hprogress, hreading, hidle, hstill, fun q hq => hothers q hq, hmain, hkept.eq_withParts⟩
  · obtain ⟨hfree, hcount, hqueue, -, hsame⟩ := hsound.doFlushDone_outcome g.isLt hbusy (hx ▸ hset) (hx ▸ hread)
    exact ⟨_, hs.next_cxDo fun s => s.doFlushDone g, hfree, hx ▸ hcount, hx ▸ hqueue, hsame,
      (State.doFlushDone_kept s g (hsound.kept 260) rfl).eq_withParts⟩
  · exact (hs.next_cxDo fun s => s.doFlushDone g).trans (congrArg _ (State.doFlushDone_waits (by rwa [← hx])))
  · exact (hs.exec_drop3 p).trans (congrArg _ (State.accepted_congr (State.doDrop3_none (s := s.drawn) hbusy hnone)))
  · obtain ⟨hset, hqueue, hsame⟩ := hsound.drawn.doDrop3_outcome hbusy hread
    have hkept : Kept 292 s.drawn (s.accepted p State.doDrop3) :=
      State.accepted_kept rfl (State.doDrop3_kept s.drawn (hsound.drawn.kept _) rfl)
    exact ⟨_, hs.exec_drop3 p, hset, hqueue, hsame, hkept.eq_withParts⟩
  · by_cases hdrop : (s.queue 3).dropRead = true
    · obtain ⟨hfree, hread, hcount, hmain⟩ := hsound.doDrop3Done_dropped hbusy hdrop
      refine ⟨_, hs.next_cxDo State.doDrop3Done, hfree, fun _ => ⟨hread, hcount⟩, fun h => absurd hdrop (by simp [h]), hmain,
        (State.doDrop3Done_kept s (hsound.kept 324) rfl).eq_withParts⟩
    · rw [Bool.not_eq_true] at hdrop
      obtain ⟨hfree, hque, hseen, hmain⟩ := hsound.doDrop3Done_none hbusy hdrop
      refine ⟨_, hs.next_cxDo State.doDrop3Done, hfree, fun h => absurd h (by simp [hdrop]), fun _ => ⟨hque, hseen⟩, hmain,
        (State.doDrop3Done_kept s (hsound.kept 324) rfl).eq_withParts⟩
  · exact (hs.next_cxDo State.doDrop3Done).trans (congrArg _ (State.doDrop3Done_idle hbusy))
  · have hfree : (s.drawn.queue q).fill % 2 ^ 17 = (s.queue q).fill := Nat.mod_eq_of_lt hfill
    refine ⟨_, hs.exec_hwmReset p q w, (State.rd_wr (s := s.drawn) hsound.regs F.QUE_HWM_WORDS q _ (by decide)).trans hfree,
      State.sameRegs_of_wr (s := s) hsound.regs (f := F.QUE_HWM_WORDS) (i := q) (v := (s.queue q).fill) rfl, rfl⟩
end

section
/-! SUPPORT. The rate switch (R45, R46): its decision, its stop, its relock and its resume. -/

namespace Sys2Proof.Machine

theorem State.decideSwitch_free {s : State} (hnone : s.plane.switch = none) (hin : s.plane.ingest = true) (target : Nat)
    (restore : Bool) : s.decideSwitch target restore = s.onPlane fun q => { q with
      switch := some { target := target, n := nextMultiple 1024 (s.clk.count + 1), restore := restore } } := by
  rw [State.decideSwitch, hnone, hin]
  rfl

/-! ### Its commands -/

theorem State.Awake.exec_paceSwitch {s : State} (hs : s.Awake) (p : Fin 10) :
    exec (.paceSwitch p) s = .next (s.accepted p State.doPaceSwitch) := by
  refine (hs.next_keeperDo fun s => s.hostBit p F.PWR_PACE_CMD_SWITCH 0).trans (congrArg _ ?_)
  refine s.hostBit_command p (fld := F.PWR_PACE_CMD_SWITCH)
    (ops := [(0, State.doPaceSwitch), (1, State.doPaceRestore), (2, State.doPaceClrMin)])
    (.inl (by decide)) (by decide +kernel) (by decide +kernel) rfl (by decide) (fun r hr u w ns => ?_) (by decide +kernel)
    (by decide) (.head _)
  rw [State.writeReg, State.writeMgt, hr]
  rfl

theorem State.Awake.exec_paceRestore {s : State} (hs : s.Awake) (p : Fin 10) :
    exec (.paceRestore p) s = .next (s.accepted p State.doPaceRestore) := by
  refine (hs.next_keeperDo fun s => s.hostBit p F.PWR_PACE_CMD_RESTORE 0).trans (congrArg _ ?_)
  refine s.hostBit_command p (fld := F.PWR_PACE_CMD_RESTORE)
    (ops := [(0, State.doPaceSwitch), (1, State.doPaceRestore), (2, State.doPaceClrMin)])
    (.inl (by decide)) (by decide +kernel) (by decide +kernel) rfl (by decide) (fun r hr u w ns => ?_) (by decide +kernel)
    (by decide) (.tail _ (.head _))
  rw [State.writeReg, State.writeMgt, hr]
  rfl

/-! ### Its steps (R45) -/

theorem State.storeDwell_plane (s : State) : (s.storeDwell s.plane.dwell).plane = s.plane := by
  rw [State.storeDwell, State.wr_plane, State.onPlane_plane]

theorem State.discarded_discardAllTags (s : State) : ∀ g ∈ s.discardAllTags.pmc.tags, g.discarded = true := by
  intro g hg
  obtain ⟨y, -, rfl⟩ := List.mem_map.1 hg
  rfl

section
variable {s : State} (hs : s.Sound) {w : RateSwitch} (hw : s.plane.switch = some w)
include hs hw

/-- At N ingest has stopped and the counter holds N; every tagged block is given up. -/
theorem State.Sound.doSwitchStop_outcome (hstage : w.stage = 0) (hrestart : s.restarting = false) (hrun : s.clk.running = true)
    (hn : s.clk.count ≤ w.n) :
    s.doSwitchStop.clk.running = false ∧ s.doSwitchStop.clk.count = w.n ∧
    s.doSwitchStop.plane = { s.plane with switch := some { w with stage := 1 } } ∧
    ∀ g ∈ s.doSwitchStop.pmc.tags, g.discarded = true := by
  set u := s.toCount w.n with hu
  have hclk : u.clk.count = w.n := by
    rw [hu, State.toCount, if_pos hrun, State.pass]
    simp only [hrun, if_true]
    omega
  have hplane : u.plane = s.plane := by rw [hu, s.toCount_only]
  have hus : u.Sound := (State.toCount_kept s w.n (hs.kept 16) rfl).sound
  set x := ((((u.drainBefore w.n u.chn.records.length).endAll w.n).closeCuesEarly).abortJobs.cutCodec).rateDropPulse with hx
  have hxk : Kept 4179918 u x :=
    State.rateDropPulse_kept _ (State.cutCodec_kept _ (State.abortJobs_kept _ (State.closeCuesEarly_kept _
      (State.endAll_kept _ _ (State.drainBefore_kept _ _ _ (hus.kept _) rfl) rfl) rfl) rfl) rfl) rfl
  have hvk : Kept 4179918 u x.discardAllTags := State.discardAllTags_kept _ hxk rfl
  set y := ((x.discardAllTags.dropRound 0).dropRound 1).dropAcquisition with hy
  have hyk : Kept 68 x.discardAllTags y :=
    State.dropAcquisition_kept _ (State.dropRound_kept _ _ (State.dropRound_kept _ _ (hvk.sound.kept _) rfl) rfl) rfl
  set z := ({ y with clk := { y.clk with running := false } } : State).onPlane fun p =>
    { p with switch := some { w with n := w.n, stage := 1 } } with hz
  have hstop : s.doSwitchStop = z.wchSync := by
    rw [State.doSwitchStop, hw]
    dsimp only
    rw [hstage, hrestart, if_neg (by decide), if_pos hn]
  have hzs : z.Sound := ⟨hyk.regs, hyk.banks, hyk.ports, hyk.que, hyk.lanes, hyk.chans, hyk.regions⟩
  have hlast : Kept 279366 z z.wchSync := State.wchSync_kept z (hzs.kept _) rfl
  have hyclk : y.clk = u.clk := (hyk.clk rfl).trans (hvk.clk rfl)
  have hyplane : y.plane = s.plane := ((hyk.plane rfl).trans (hvk.plane rfl)).trans hplane
  rw [hstop, hlast.clk rfl, hlast.plane rfl, hlast.pmc rfl]
  refine ⟨rfl, (congrArg Clk.count hyclk).trans hclk, ?_, ?_⟩
  · rw [hz, State.onPlane_plane]
    dsimp only
    rw [hyplane]
  · have hpmc : z.pmc = x.discardAllTags.pmc := hyk.pmc rfl
    rw [hpmc]
    exact x.discarded_discardAllTags

/-- The relock puts the new rate in force while the counter stands. -/
theorem State.Sound.doRelock_outcome (hstage : w.stage = 1) (hrun : s.clk.running = false) (href : s.clk.refclk = true)
    (periods : Nat) (readings : List Int) :
    (s.doRelock periods readings).clk.fs = w.target ∧ (s.doRelock periods readings).clk.count = s.clk.count ∧
    (s.doRelock periods readings).clk.running = false ∧
    (s.doRelock periods readings).plane = { s.plane with switch := some { w with stage := 2 } } := by
  set u := s.pass (periods * s.clk.fs / 100000000) with hu
  have hcount : u.clk.count = s.clk.count ∧ u.clk.running = false := by
    rw [hu, State.pass]
    simp [hrun]
  set v : State := { u with clk := { u.clk with fs := w.target, phase := u.clk.phase * w.target / u.clk.fs } } with hv
  have hvs : v.Sound := { hs with }
  set x := v.relationNow w.n (newOffset u.tim w.n u.tim.rate (tNomOf w.target) (refclkTime periods u.tim.rate)) (tNomOf w.target) with hx
  have hxk : Kept 17222 v x := State.relationNow_kept _ _ _ _ (hvs.kept _) rfl
  set y := x.forEach ((List.range 4).filter fun r => (x.region r).live) fun s r => s.takePhase r (readings.getD r 0) with hy
  have hyk : Kept 17222 v y := State.forEach_kept hxk fun s r h => State.takePhase_kept s r _ h rfl
  have hlock : s.doRelock periods readings = y.onPlane fun p => { p with switch := some { w with stage := 2 } } := by
    rw [State.doRelock, hw]
    dsimp only
    rw [hstage, href, if_neg (by decide)]
  rw [hlock]
  have hyclk : y.clk = v.clk := hyk.clk rfl
  have hyplane : y.plane = s.plane := hyk.plane rfl
  rw [State.onPlane_clk, State.onPlane_plane, hyclk, hyplane]
  exact ⟨rfl, hcount.1, hcount.2, rfl⟩

/-- The resume lets the counter run again, and none is under way any more. -/
theorem State.Sound.doSwitchResumeStart_outcome (hstage : w.stage = 2) :
    s.doSwitchResumeStart.clk = { s.clk with running := true } ∧ s.doSwitchResumeStart.plane.switch = none ∧
    s.doSwitchResumeStart.plane.restartWait = false := by
  have hrun : State.Sound { s with clk := { s.clk with running := true } } := { hs with }
  set v := (({ s with clk := { s.clk with running := true } } : State).wrB F.PWR_PACE_STAT_SWITCHED 0 !w.restore).onPlane fun p =>
    { p with switch := none, ok := 0 } with hv
  have hvs : v.Sound := (State.onPlane_kept _ _ (State.wrB_kept _ _ _ _ (hrun.kept 4100) rfl) rfl).sound
  set a := v.forEach allChans fun s ch => s.bypassNotches ch with ha
  have hak : Kept 16902 v a := State.forEach_kept (hvs.kept _) fun s ch h => State.bypassNotches_kept s ch h rfl
  set b := a.storeDwell a.plane.dwell with hb
  have hbk : Kept 4100 a b := State.storeDwell_kept _ _ (hak.sound.kept _) rfl
  have hbplane : b.plane = v.plane := a.storeDwell_plane.trans (hak.plane rfl)
  obtain ⟨c, hc⟩ : ∃ c, c = (((b.ringAfterSwitch w.n).forEach (List.range 4) fun s r =>
    s.onRegion r fun x => if x.live then { x with resumeAt := none } else x).beginAll true w.n).chnSync := ⟨_, rfl⟩
  have hck : Kept 1991494 b c := by
    rw [hc]
    exact State.chnSync_kept _ (State.beginAll_kept _ _ _ (State.forEach_kept (State.ringAfterSwitch_kept _ _ (hbk.sound.kept _) rfl)
      fun s r h => State.onRegion_kept s r _ h rfl) rfl) rfl
  have hresume : s.doSwitchResume = c := by
    rw [State.doSwitchResume, hw]
    dsimp only
    rw [hstage, if_neg (by decide), hc]
  have hclk : c.clk = { s.clk with running := true } := (hck.clk rfl).trans ((hbk.clk rfl).trans (hak.clk rfl))
  have hswitch : c.plane.switch = none := congrArg Plane.switch ((hck.plane rfl).trans hbplane)
  rw [State.doSwitchResumeStart, hresume]
  dsimp only
  split
  · exact ⟨hclk, hswitch, rfl⟩
  · next hwait =>
    rw [hswitch, Option.isNone_none, Bool.and_true, Bool.not_eq_true] at hwait
    exact ⟨hclk, hswitch, hwait⟩

end

end Sys2Proof.Machine

open Sys2Proof Sys2Proof.Machine

/-- Settles O7: the decision at the next common count, and each step by what its operations leave of the clock and the plane. -/
theorem rateSwitch : Obligations.RateSwitch := by
  unfold Obligations.RateSwitch
  intro s hs
  refine ⟨fun p hfault hnone hin => ?_, fun p hswitched hnone hin => ?_, fun hcx hauto hfault hnone hin => ?_,
    fun w hcx hw hstage hrestart hrun hn => ?_, fun w periods readings hcx hw hstage hrun href => ?_, fun w hcx hw hstage => ?_⟩
  · refine (hs.exec_paceSwitch p).trans (congrArg _ (State.accepted_congr ?_))
    exact (if_pos hfault).trans (State.decideSwitch_free (s := s.drawn) hnone hin _ _)
  · refine (hs.exec_paceRestore p).trans (congrArg _ (State.accepted_congr ?_))
    exact (if_pos hswitched).trans (State.decideSwitch_free (s := s.drawn) hnone hin _ _)
  · have hwork : s.Working := ⟨hs.sound, hs.keeper, hcx⟩
    refine (hwork.next_cxDo State.doAutoFallback).trans (congrArg _ ?_)
    exact (if_pos hauto).trans ((if_pos hfault).trans (State.decideSwitch_free hnone hin _ _))
  · have hwork : s.Working := ⟨hs.sound, hs.keeper, hcx⟩
    exact ⟨_, hwork.next_cxDo State.doSwitchStop, hs.sound.doSwitchStop_outcome hw hstage hrestart hrun hn⟩
  · have hwork : s.Working := ⟨hs.sound, hs.keeper, hcx⟩
    exact ⟨_, hwork.next_cxDo fun s => s.doRelock periods readings,
      hs.sound.doRelock_outcome hw hstage hrun href periods readings⟩
  · have hwork : s.Working := ⟨hs.sound, hs.keeper, hcx⟩
    exact ⟨_, hwork.next_cxDo State.doSwitchResumeStart, hs.sound.doSwitchResumeStart_outcome hw hstage⟩
end

section
/-! SUPPORT. Commands of the keeper: the module ID (R66) and the safety key (R370). -/

namespace Sys2Proof.Machine

/-! ### The module ID (R66) -/

theorem State.Awake.exec_moduleIdWrite {s : State} (hs : s.Awake) (p : Fin 10) (id : BitVec 16) :
    exec (.moduleIdWrite p id) s = .next (s.accepted p fun u => u.doModuleId (BitVec.ofNat 32 id.toNat)) := by
  refine (hs.next_keeperDo fun s => s.hostWrite p F.MGT_MODULE_ID (BitVec.ofNat 32 id.toNat)).trans (congrArg _ ?_)
  obtain ⟨r, hr, hstore⟩ := s.portStore_open p (a := F.MGT_MODULE_ID) (.inl (by decide)) (by decide +kernel)
    (BitVec.ofNat 32 id.toNat)
  have hbase : r.base = F.MGT_MODULE_ID := base_of_baseOf (by decide +kernel) hr
  rw [State.hostWrite, hstore]
  refine congrArg (s.accepted p) (funext fun u => ?_)
  rw [State.writeReg, State.writeMgt, hbase]
  rfl

theorem State.setModuleId_regs (s : State) (id : Nat) :
    (s.setModuleId id).regs = (s.runLanes.wr F.MGT_MODULE_ID_ID 0 id).regs := rfl

theorem State.Sound.setModuleId_fields {s : State} (hs : s.Sound) (id : BitVec 16) :
    (s.setModuleId id.toNat).moduleId = id.toNat ∧ OnlyFields [(F.MGT_MODULE_ID_ID, 0)] s (s.setModuleId id.toNat) := by
  have hlanes : Kept 128 s s.runLanes := State.runLanes_kept s (hs.kept _) rfl
  have hregs : s.runLanes.regs = s.regs := by rw [hlanes.eq_withParts]; rfl
  refine ⟨?_, ((((OnlyFields.refl hs.regs _).congr hregs).wr (.head _) _).congr (s.setModuleId_regs _))⟩
  rw [State.moduleId, State.rd_of_regs (s.setModuleId_regs _), State.rd_wr hlanes.sound.regs _ _ _ (by decide)]
  exact Nat.mod_eq_of_lt id.isLt

theorem State.noteStart_fields {s : State} (h : tableWf coldWord s.regs = true) :
    OnlyFields [(F.MGT_START_STAT_PHASE, 0)] s s.noteStart := by
  rw [State.noteStart]
  split
  · exact ((OnlyFields.refl h _).wr (.head _) 6).congr rfl
  · exact .refl h _

/-- The module ID is stored, and every location code carries it. -/
theorem State.Sound.doModuleId_outcome {s : State} (hs : s.Sound) (id : BitVec 16) :
    (s.doModuleId (BitVec.ofNat 32 id.toNat)).moduleId = id.toNat ∧
    s.sameRegs (s.doModuleId (BitVec.ofNat 32 id.toNat)) [F.MGT_MODULE_ID, F.MGT_START_STAT] := by
  have hword : (BitVec.ofNat 32 id.toNat).toNat % 65536 = id.toNat := by
    have := id.isLt
    rw [BitVec.toNat_ofNat]
    omega
  obtain ⟨hid, hset⟩ := hs.setModuleId_fields id
  have hnote := State.noteStart_fields hset.wf
  rw [State.doModuleId, hword]
  refine ⟨(hnote.same (F.MGT_MODULE_ID_ID, 0) (by decide)).trans hid, ?_⟩
  exact OnlyFields.sameRegs_of (W := [(F.MGT_MODULE_ID_ID, 0), (F.MGT_START_STAT_PHASE, 0)])
    ((hset.mono (by simp)).trans (hnote.mono (by simp))) (by decide)

/-! ### The safety key (R370) -/

/-- The state in which a UART frame's free values have been drawn. -/
def State.drawnTwo (s : State) : State := { s with free := s.free + 2 }

theorem State.doKeyProvisioning_taken {s : State} (h : s.safState = 7 ∨ s.safState = 4) (key : Nat) :
    ∃ a d, s.doKeyProvisioning key true =
      ((s.drawnTwo.onSaf fun x => { x with key := some (key % 2 ^ 128) }).wr F.SAF_STAT_KEY_SET 0 1).uartAnswer 0x30 a d :=
  ⟨_, _, congrArg (fun u : State => u.uartAnswer 0x30 _ _) (if_pos h)⟩

theorem State.doKeyProvisioning_refused {s : State} (h : ¬(s.safState = 7 ∨ s.safState = 4)) (key : Nat) :
    ∃ a d, s.doKeyProvisioning key true = s.drawnTwo.uartAnswer 0x30 a d :=
  ⟨_, _, congrArg (fun u : State => u.uartAnswer 0x30 _ _) (if_neg h)⟩

end Sys2Proof.Machine

open Sys2Proof Sys2Proof.Machine

/-- Settles O5: the module ID by the one field that its write stores, the key by the monitor's state. -/
theorem keeperCommands : Obligations.KeeperCommands := by
  unfold Obligations.KeeperCommands
  intro s hs
  have hregs := hs.sound.regs
  refine ⟨fun href => ?_, fun href => ?_, fun href => ?_, fun href => ?_, fun p id => ?_, fun key hopen => ?_,
    fun key h7 h4 => ?_, fun key => hs.next_keeperDo fun s => s.doKeyProvisioning key.toNat false⟩
  · exact (hs.next_keeperDo State.doRefclkLoss).trans (congrArg _ (if_pos href))
  · exact (hs.next_keeperDo State.doRefclkReturn).trans (congrArg _ (if_neg (by simp [href])))
  · exact (hs.next_keeperDo State.doRefclkLoss).trans (congrArg _ (if_neg (by simp [href])))
  · exact (hs.next_keeperDo State.doRefclkReturn).trans (congrArg _ (if_pos href))
  · obtain ⟨hid, hsame⟩ := hs.sound.drawn.doModuleId_outcome id
    have hkept : Kept 67634084 s.drawn (s.accepted p fun u => u.doModuleId (BitVec.ofNat 32 id.toNat)) :=
      State.accepted_kept rfl (State.doModuleId_kept s.drawn _ (hs.sound.drawn.kept _) rfl)
    refine ⟨_, hs.exec_moduleIdWrite p id, hid, fun d r c u => ?_, hsame, hkept.eq_withParts⟩
    exact congrArg (fun m => (((m * 16 + d) * 16 + r) * 16 + c) * 16 + u) hid
  · obtain ⟨a, d, hkey⟩ := State.doKeyProvisioning_taken hopen key.toNat
    refine ⟨_, (hs.next_keeperDo fun s => s.doKeyProvisioning key.toNat true).trans (congrArg _ hkey), ?_, ?_, ?_, rfl⟩
    · rw [Nat.mod_eq_of_lt key.isLt]
      rfl
    · have hset := State.rd_wr (s := s.drawnTwo) hregs F.SAF_STAT_KEY_SET 0 1 (by decide)
      exact (congrArg (· == 1) hset).trans rfl
    · exact State.sameRegs_of_wr hregs (f := F.SAF_STAT_KEY_SET) (i := 0) (v := 1) rfl
  · obtain ⟨a, d, hkey⟩ := State.doKeyProvisioning_refused (not_or.2 ⟨h7, h4⟩) key.toNat
    exact ⟨_, (hs.next_keeperDo fun s => s.doKeyProvisioning key.toNat true).trans (congrArg _ hkey), rfl⟩
end

section
/-! SUPPORT. The management ports: SMBus and UART (R476, R478). -/

namespace Sys2Proof.Machine

/-- Where a port holds no latched word of the address, a read gives the word itself. -/
theorem State.readInto_value {s : State} {a : Nat} {x : Port} (hw : x.words.find? (fun w => w.1 == a) = none) :
    (s.readInto a x).value = s.peek a := by
  simp only [State.readInto, hw, ite_self]

/-- Once it is read, the alert is released (R476). -/
theorem State.smbAlert_doAlertResponse {s : State} (h : s.smbAlert = true) : s.doAlertResponse.smbAlert = false := by
  have hids : s.openIds.any (fun i => !s.openIds.contains i) = false := by
    simp
  rw [State.doAlertResponse, if_pos h]
  change ((s.openIds.any fun i => !s.openIds.contains i) || (s.start.stuck && !true) || (s.access.bootFail && !true)) = false
  rw [hids]
  simp

theorem State.doUartWrite_good {s : State} {a : BitVec 32} {w : Word} {c : Nat}
    (h : c = crc8 (uartBody 0x10 a.toNat (wordBytes w.toNat))) :
    ∃ n, s.doUartWrite a.toNat w c = ({ s.portStore 1 a.toNat w with free := (s.portStore 1 a.toNat w).free + 1 } : State).uartAnswer
      0x10 a.toNat ((wordBytes n).take 3 ++ [((s.portStore 1 a.toNat w).port 1).status]) := by
  refine ⟨Config.freeNat (s.portStore 1 a.toNat w).free % 2 ^ 24, ?_⟩
  rw [State.doUartWrite, Nat.mod_eq_of_lt a.isLt]
  exact if_pos h

theorem State.doUartWrite_bad {s : State} {a : BitVec 32} {w : Word} {c : Nat}
    (h : c ≠ crc8 (uartBody 0x10 a.toNat (wordBytes w.toNat))) : s.doUartWrite a.toNat w c = s := by
  rw [State.doUartWrite, Nat.mod_eq_of_lt a.isLt]
  exact if_neg h

theorem State.doUartRead_good {s : State} {a : BitVec 32} {w : Word} {c : Nat}
    (h : c = crc8 (uartBody 0x12 a.toNat (wordBytes w.toNat))) :
    s.doUartRead a.toNat w c = (s.portRead 1 a.toNat).uartAnswer 0x12 a.toNat
      (wordBytes ((s.portRead 1 a.toNat).port 1).value.toNat) := by
  rw [State.doUartRead, Nat.mod_eq_of_lt a.isLt]
  exact if_pos h

theorem State.doUartRead_bad {s : State} {a : BitVec 32} {w : Word} {c : Nat}
    (h : c ≠ crc8 (uartBody 0x12 a.toNat (wordBytes w.toNat))) : s.doUartRead a.toNat w c = s := by
  rw [State.doUartRead, Nat.mod_eq_of_lt a.isLt]
  exact if_neg h

end Sys2Proof.Machine

open Sys2Proof Sys2Proof.Machine

/-- Settles O4: an SMBus or UART access is the access of port 0 or 1 with its answer, and JTAG's commands are their equations. -/
theorem managementPorts : Obligations.ManagementPorts := by
  unfold Obligations.ManagementPorts
  refine ⟨fun s hs => ⟨fun a w => ?_, fun a w => ?_, fun a => ?_, fun a => ?_, ?_, fun halert => ?_⟩,
    fun s a w c hs => ⟨fun hc => ?_, fun hc => ?_, fun hc => ?_, fun hc => ?_⟩,
    fun s => ⟨rfl, rfl, rfl, fun _ _ => rfl, fun _ _ => rfl, rfl, rfl, rfl, rfl⟩⟩
  · refine ⟨s.portStore 0 a.toNat w, ?_, exec_registerWrite hs 0 a w⟩
    refine (hs.next_keeperDo fun s => s.doSmbusWrite a.toNat w true).trans (congrArg _ ?_)
    rw [State.doSmbusWrite, if_pos rfl, Nat.mod_eq_of_lt a.isLt]
  · exact hs.next_keeperDo fun s => s.doSmbusWrite a.toNat w false
  · refine (hs.next_keeperDo fun s => s.doSmbusAddress a.toNat true).trans (congrArg _ ?_)
    rw [State.doSmbusAddress, if_pos rfl, Nat.mod_eq_of_lt a.isLt]
  · exact hs.next_keeperDo fun s => s.doSmbusAddress a.toNat false
  · have haccess : (s.portRead 0 s.access.smbAddr).access = s.access :=
      (State.portRead_kept s 0 s.access.smbAddr (hs.sound.kept 1572896) rfl).access rfl
    refine ⟨_, hs.next_keeperDo State.doSmbusRead, (State.doSmbusRead_kept s (hs.sound.kept 135790624) rfl).eq_withParts,
      fun hwin => ?_, ?_, fun hnone => ?_⟩
    · have hframe := State.portRead_frame (s := s) (not_burst_of_not_window hwin) 0
      exact ⟨(congrArg State.trg hframe :), (congrArg State.codec hframe :)⟩
    · rw [State.doSmbusRead, State.onAccess_access, haccess]
    · exact (congrArg Port.value (hs.sound.port_portRead 0 s.access.smbAddr)).trans (State.readInto_value hnone)
  · exact ⟨_, hs.next_keeperDo State.doAlertResponse, State.smbAlert_doAlertResponse halert,
      by rw [State.doAlertResponse, if_pos halert]; rfl⟩
  · obtain ⟨n, hwrite⟩ := State.doUartWrite_good (s := s) hc
    refine ⟨_, _, (wordBytes n).take 3, (hs.next_keeperDo fun s => s.doUartWrite a.toNat w c.toNat).trans (congrArg _ hwrite),
      exec_registerWrite hs 1 a w, rfl, rfl, rfl⟩
  · refine ⟨_, _, (hs.next_keeperDo fun s => s.doUartRead a.toNat w c.toNat).trans (congrArg _ (State.doUartRead_good hc)),
      exec_pairLowRead hs 1 a, rfl, rfl⟩
  · exact (hs.next_keeperDo fun s => s.doUartWrite a.toNat w c.toNat).trans (congrArg _ (State.doUartWrite_bad hc))
  · exact (hs.next_keeperDo fun s => s.doUartRead a.toNat w c.toNat).trans (congrArg _ (State.doUartRead_bad hc))
end

section
/-! SUPPORT. What the ring's read port moves (R188, R190): its readers' places and its own round. -/

namespace Sys2Proof.Machine

def Readout.unread (x : Readout) : Readout := { x with rd := {} }
def SnipJob.unread (x : SnipJob) : SnipJob := { x with rd := {} }
def CJob.unread (x : CJob) : CJob := { x with rd := {} }

/-- The capture ring but for what its readers have read and the port's own state. -/
def Trg.unread (t : Trg) : Trg :=
  { t with readouts := t.readouts.map Readout.unread, jobs := t.jobs.map SnipJob.unread, port := {} }

/-- From s to t only the read port has moved. -/
structure State.PortMoved (s t : State) : Prop where
  trg : t.trg.unread = s.trg.unread
  codec : t.codec.map CJob.unread = s.codec.map CJob.unread

theorem State.PortMoved.refl (s : State) : s.PortMoved s := ⟨rfl, rfl⟩

theorem State.PortMoved.trans {s t u : State} (h : s.PortMoved t) (g : t.PortMoved u) : s.PortMoved u :=
  ⟨g.trg.trans h.trg, g.codec.trans h.codec⟩

/-- A list whose entries are replaced by ones of the same view has the same views. -/
theorem map_view_map {a b : Type} {v : a → b} {f : a → a} (h : ∀ x, v (f x) = v x) (l : List a) : (l.map f).map v = l.map v := by
  rw [List.map_map]
  exact List.map_congr_left fun x _ => h x

theorem map_view_modify {a b : Type} {v : a → b} {f : a → a} (h : ∀ x, v (f x) = v x) (l : List a) (i : Nat) :
    (l.modify i f).map v = l.map v := by
  induction l generalizing i with
  | nil => rw [List.modify_nil]
  | cons x l ih =>
    cases i with
    | zero => rw [List.modify_zero_cons, List.map_cons, List.map_cons, h]
    | succ i => rw [List.modify_succ_cons, List.map_cons, List.map_cons, ih]

/-- The port's own state, and readers moved on in lists of the same views. -/
theorem State.PortMoved.onTrg (s : State) {f : Trg → Trg} (h : ∀ t, (f t).unread = t.unread) : s.PortMoved (s.onTrg f) :=
  ⟨h s.trg, rfl⟩

theorem State.portMoved_skipAll (s : State) : s.PortMoved s.skipAll := by
  refine .onTrg s fun t => ?_
  have hreadouts := map_view_map (v := Readout.unread) (f := fun x : Readout =>
    { x with rd := s.skip (nextPlace x.map x.stop) (windowBlocks x.map x.first x.stop + 1) x.rd }) (fun _ => rfl) t.readouts
  have hjobs := map_view_map (v := SnipJob.unread) (f := fun x : SnipJob =>
    if x.running then { x with rd := s.skip (nextPlace x.set x.stop) (windowBlocks x.set x.start x.stop + 1) x.rd } else x)
    (fun x => by split <;> rfl) t.jobs
  simp only [Trg.unread, hreadouts, hjobs]

theorem State.portMoved_serveShare (s : State) (k : Nat) : s.PortMoved (s.serveShare k) := by
  unfold State.serveShare
  split
  · split
    · exact .refl s
    · next i _ =>
      refine .onTrg s fun t => ?_
      simp only [Trg.unread, map_view_modify (v := Readout.unread) (f := fun x : Readout =>
        { x with rd := s.burst (nextPlace x.map x.stop) x.rd }) (fun _ => rfl)]
  · split
    · split
      · exact .refl s
      · next x _ =>
        refine .onTrg s fun t => ?_
        have hjobs := map_view_map (v := SnipJob.unread) (f := fun y : SnipJob =>
          if y.id = x.id then { y with rd := s.burst (nextPlace y.set y.stop) y.rd } else y)
          (fun y => by split <;> rfl) t.jobs
        simp only [Trg.unread, hjobs]
    · split
      · exact .onTrg s fun t => rfl
      · exact ⟨rfl, map_view_map (v := CJob.unread) (fun j => by split <;> rfl) s.codec⟩

theorem State.portMoved_portStep {s t : State} (h : s.portStep = some t) : s.PortMoved t := by
  unfold State.portStep at h
  dsimp only at h
  split at h
  · cases h
  · cases h
    exact (s.portMoved_skipAll.trans (State.portMoved_serveShare _ _)).trans (.onTrg _ fun _ => rfl)

theorem State.portMoved_portUntil (s : State) (done : State → Bool) (fuel : Nat) : s.PortMoved (s.portUntil done fuel) := by
  induction fuel generalizing s with
  | zero => exact .refl s
  | succ fuel ih =>
    unfold State.portUntil
    split
    · exact .refl s
    · split
      · exact .refl s
      · next t ht => exact (State.portMoved_portStep ht).trans (ih t)

theorem State.portMoved_runPort (s : State) : s.PortMoved s.runPort :=
  ((s.portMoved_portUntil _ _).trans (State.portMoved_skipAll _)).trans
    (.onTrg _ (f := fun t => { t with port := { t.port with n := max (portTime s.clk.count) t.port.n } }) fun _ => rfl)

theorem State.Sound.runPort_only {s : State} (hs : s.Sound) :
    s.runPort = { s with trg := s.runPort.trg, codec := s.runPort.codec } :=
  (State.runPort_kept s (hs.kept 1572864) rfl).ring_only

/-- The port leaves the other parts of the capture ring. -/
theorem State.PortMoved.trg_only {s t : State} (h : s.PortMoved t) :
    t.trg = { s.trg with readouts := t.trg.readouts, jobs := t.trg.jobs, port := t.trg.port } := by
  have hview : t.trg = { t.trg.unread with readouts := t.trg.readouts, jobs := t.trg.jobs, port := t.trg.port } := rfl
  rw [h.trg] at hview
  exact hview

end Sys2Proof.Machine
end

section
/-! SUPPORT. Writes of command bits in registers that store what else they hold (R13, R15): the register then holds what it did. -/

namespace Sys2Proof.Machine

/-- A register of which a write of the value that it shows changes no field: none is cleared by a 1, or limited. -/
def quietReg (a : Nat) : Bool :=
  (regAt a).any fun r => r.base != F.TRG_SRC_CFG && r.base != F.ADC_CTL && r.fields.all fun f =>
    f.acc == .ro || f.acc == .wo || ((f.acc == .rw || f.acc == .rwv) && clamps.all fun c => c.1 != r.base || c.2.1 != f.lo)

/-- Such a register that is written what it shows and a command bit holds what it did. -/
theorem storedWord_cmdWord {a k : Nat} {r : RegDef} (hr : regAt a = some r) (hq : quietReg a = true) (hk : woBit a k = true)
    (locked : Bool) (old : Word) : storedWord r locked old (setField (r.shown old) k 1 1) = old := by
  rw [quietReg, hr] at hq
  rw [woBit, hr] at hk
  simp only [Option.any_some, Bool.and_eq_true, bne_iff_ne, List.all_eq_true, Bool.or_eq_true, beq_iff_eq, List.any_eq_true,
    decide_eq_true_eq] at hq hk
  obtain ⟨⟨hsrc, hadc⟩, hfields⟩ := hq
  obtain ⟨g, hg, ⟨hgwo, hglo⟩, hghi⟩ := hk
  have hmem := mem_regTable_of_regAt hr
  have hfield : ∀ f ∈ r.fields, getField (storedWord r locked old (setField (r.shown old) k 1 1)) f.lo f.width =
      getField old f.lo f.width := by
    intro f hf
    rw [getField_storedWord hr hf]
    rcases hfields f hf with (hacc | hacc) | ⟨hacc, hclamp⟩
    · rw [FieldDef.written, hacc]
    · rw [FieldDef.written, hacc]
    · have hne : f ≠ g := by
        rintro rfl
        rw [hgwo] at hacc
        exact hacc.elim (fun h => by cases h) fun h => by cases h
      have hsymm : Std.Symm FieldDef.Apart := ⟨fun _ _ h => h.symm⟩
      have hapart : f.Apart g := (regTable_fields_apart r hmem).forall hf hg hne
      have hsame : getField (setField (r.shown old) k 1 1) f.lo f.width = getField old f.lo f.width := by
        rw [getField_setField_ne _ _ _ _ _ _ (by unfold FieldDef.Apart at hapart; omega), getField_shown hr hf, if_neg]
        rintro h
        rw [h] at hacc
        exact hacc.elim (fun h => by cases h) fun h => by cases h
      have hstored : stored r.base f.lo (getField old f.lo f.width) = getField old f.lo f.width :=
        stored_of_no_clamp (fun x hx hb => (hclamp x hx).resolve_left (not_not.2 hb)) (fun h => absurd h hsrc)
          fun h => absurd h hadc
      have hlt := Nat.mod_eq_of_lt (getField_lt old f.lo f.width)
      rcases hacc with hacc | hacc <;> rw [FieldDef.written, hacc] <;> simp only [hsame, hstored, hlt]
  refine BitVec.eq_of_getLsbD_eq fun i hi => ?_
  by_cases hin : ∃ f ∈ r.fields, f.lo ≤ i ∧ i < f.lo + f.width
  · obtain ⟨f, hf, hlo, hhi⟩ := hin
    have hbit := congrArg (Nat.testBit · (i - f.lo)) (hfield f hf)
    simp only [testBit_getField, Nat.add_sub_cancel' hlo] at hbit
    simpa [show i - f.lo < f.width by omega] using hbit
  · refine getLsbD_storedWord_outside (fun f hf => ?_) locked old _
    by_contra hno
    exact hin ⟨f, hf, by omega, by omega⟩

/-- A write of 1 to a command bit of such a register starts the one operation of its bit in a state of the same registers. -/
theorem State.Working.hostBit_quiet {s : State} (hs : s.Working) (p : Nat) {fld : Fld} {f : State → State}
    {ops : List (Nat × (State → State))} (ha : openReg fld.base = true) (hb : baseOf fld.base = some fld.base)
    (hwidth : fld.width = 1) (hlo : fld.lo < 32) (hquiet : quietReg fld.base = true)
    (hwrite : ∀ (r : RegDef), r.base = fld.base → ∀ (u : State) (w : Word) (ns : Nat),
      u.writeReg r p fld.base w ns = (u.store r fld.base w).commands w ops)
    (hwo : ops.all (fun x => woBit fld.base x.1) = true) (hnd : (ops.map Prod.fst).Nodup) (hf : (fld.lo, f) ∈ ops) :
    ∃ u, Kept 4 s.drawn u ∧ OnlyFields [] s u ∧
      s.hostBit p fld 0 = (f u).onPort p fun x => { x with status := accDone } := by
  obtain ⟨r, hr, hstore⟩ := hs.portStore_open p ha (setField (s.shown fld.base) fld.lo 1 1)
  have hword : s.shown fld.base = r.shown (s.regGet fld.base) := by rw [State.shown, hr]
  have hhost : s.hostBit p fld 0 = s.portStore p fld.base (setField (s.shown fld.base) fld.lo 1 1) := by
    rw [State.hostBit, State.hostField, State.hostWrite, hwidth, Nat.mul_zero, Nat.add_zero]
  have hbit : woBit fld.base fld.lo = true := List.all_eq_true.1 hwo _ hf
  have hsame : storedWord r s.drawn.locked (s.drawn.regGet fld.base) (setField (s.shown fld.base) fld.lo 1 1) =
      s.regGet fld.base := by
    rw [hword]
    exact storedWord_cmdWord hr hquiet hbit _ _
  refine ⟨s.drawn.store r fld.base (setField (s.shown fld.base) fld.lo 1 1),
    State.regPut_kept _ _ (hs.sound.drawn.kept 4) rfl, ⟨?_, fun x _ => ?_⟩, ?_⟩
  · exact State.wf_regPut (s := s.drawn) hs.sound.regs _ _
  · refine State.rd_of_regGet ?_
    rw [State.store, hsame, State.regGet_regPut (s := s.drawn) hs.sound.regs]
    split
    · next h => rw [h]
    · rfl
  · rw [hhost, hstore]
    refine State.accepted_of_drawn ?_
    rw [hwrite r (base_of_baseOf hb hr)]
    exact State.commands_of_one _ (fun x hx => s.testBit_cmdWord (List.all_eq_true.1 hwo x hx) hlo) hnd hf

end Sys2Proof.Machine
end

section
/-! SUPPORT. Freeze and re-arm (R191 to R194). -/

namespace Sys2Proof.Machine

/-! ### The ring's state -/

theorem State.ringState_setRingState {s : State} (h : tableWf coldWord s.regs = true) {n : Nat} (hn : n < 4) :
    (s.setRingState n).ringState = n :=
  (State.rd_wr h F.TRG_CTL_RING_STATE 0 n (by decide)).trans (Nat.mod_eq_of_lt hn)

theorem State.setRingState_fields {s : State} (h : tableWf coldWord s.regs = true) (n : Nat) :
    OnlyFields [(F.TRG_CTL_RING_STATE, 0)] s (s.setRingState n) := (OnlyFields.refl h _).wr (.head _) n

/-! ### FREEZE and REARM (R191, R194) -/

theorem State.writeReg_trgCtl (u : State) {r : RegDef} (hr : r.base = F.TRG_CTL) (p ns : Nat) (w : Word) :
    u.writeReg r p F.TRG_CTL w ns = (u.store r F.TRG_CTL w).commands w [(1, State.doFreeze), (2, State.doRearm)] := by
  rw [State.writeReg, State.writeMgt, State.writeFront, State.writeCore, hr]
  rfl

section
variable {s : State} (hs : s.Working) (p : Fin 10)
include hs

theorem State.Working.exec_freeze : ∃ u, Kept 4 s.drawn u ∧ OnlyFields [] s u ∧
    exec (.freeze p) s = .next (u.doFreeze.onPort p fun x => { x with status := accDone }) := by
  obtain ⟨u, hkept, hsame, hbit⟩ := hs.hostBit_quiet p (fld := F.TRG_CTL_FREEZE) (f := State.doFreeze)
    (ops := [(1, State.doFreeze), (2, State.doRearm)])
    (by decide +kernel) (by decide +kernel) rfl (by decide) (by decide +kernel)
    (fun r hr u w ns => u.writeReg_trgCtl hr p ns w) (by decide +kernel) (by decide) (.head _)
  exact ⟨u, hkept, hsame, (hs.awake.next_keeperDo fun s => s.hostBit p F.TRG_CTL_FREEZE 0).trans (congrArg _ hbit)⟩

theorem State.Working.exec_rearm : ∃ u, Kept 4 s.drawn u ∧ OnlyFields [] s u ∧
    exec (.rearm p) s = .next (u.doRearm.onPort p fun x => { x with status := accDone }) := by
  obtain ⟨u, hkept, hsame, hbit⟩ := hs.hostBit_quiet p (fld := F.TRG_CTL_REARM) (f := State.doRearm)
    (ops := [(1, State.doFreeze), (2, State.doRearm)])
    (by decide +kernel) (by decide +kernel) rfl (by decide) (by decide +kernel)
    (fun r hr u w ns => u.writeReg_trgCtl hr p ns w) (by decide +kernel) (by decide) (.tail _ (.head _))
  exact ⟨u, hkept, hsame, (hs.awake.next_keeperDo fun s => s.hostBit p F.TRG_CTL_REARM 0).trans (congrArg _ hbit)⟩

end

/-- In ARMED a freeze of a running ring waits for its count. -/
theorem State.doFreeze_armed {s : State} (h : s.ringState = ringArmed) (hrun : s.trg.running = true) :
    s.doFreeze = (s.setRingState ringPending).onTrg fun t => { t with z := some (boundaryAfter 64 s.clk.count) } := by
  rw [State.doFreeze, State.requestFreeze, if_pos ⟨h, hrun⟩]
  simp only [ite_self]

theorem State.doFreeze_other {s : State} (h : s.ringState ≠ ringArmed) : s.doFreeze = s := by
  rw [State.doFreeze, State.requestFreeze, if_neg fun g => h g.1]

/-- The first multiple of m at least 32 samples later. -/
theorem boundaryAfter_bounds {m : Nat} (hm : 0 < m) (n : Nat) :
    boundaryAfter m n % m = 0 ∧ n + 32 ≤ boundaryAfter m n ∧ boundaryAfter m n < n + 32 + m := by
  refine ⟨Nat.mul_mod_left _ _, le_nextMultiple hm _, ?_⟩
  rw [boundaryAfter, nextMultiple, ceilDiv]
  have := Nat.div_mul_le_self (n + 32 + m - 1) m
  omega

/-! ### The freeze (R193) -/

theorem State.doFreezeStop_idle {s : State} (h : s.ringState ≠ ringPending) : s.doFreezeStop = s := by
  unfold State.doFreezeStop
  split
  · exact if_neg h
  · rfl

/-- At Z the ring is FROZEN, and TRG_FREEZE holds Z. -/
def State.frozenAt (s : State) (z : Nat) : State :=
  (((((s.toCount z).setRingState ringFrozen).flag F.TRG_EVT 0).wrPair F.TRG_FREEZE_LO_COUNT F.TRG_FREEZE_HI_COUNT 0 (z % 2 ^ 64)).onTrg
    fun t => { t with blindRun := 0 })

theorem State.doFreezeStop_due {s : State} {z : Nat} (hz : s.trg.z = some z) (h : s.ringState = ringPending) :
    s.doFreezeStop = (s.frozenAt z).pushMark markFreeze z 0 0 0 := by
  rw [State.doFreezeStop, hz]
  exact if_pos h

section
variable {s : State} (hs : s.Sound) (z : Nat)
include hs

/-- From the ring's new state on, the freeze only shows it. -/
theorem State.Sound.frozenAt_main : MainKept 524628 [F.TRG_EVT, F.TRG_FREEZE_LO, F.TRG_FREEZE_HI]
    ((s.toCount z).setRingState ringFrozen) ((s.frozenAt z).pushMark markFreeze z 0 0 0) := by
  have hset : Kept 20 s ((s.toCount z).setRingState ringFrozen) := State.wr_kept _ _ _ _ (State.toCount_kept s z (hs.kept _) rfl) rfl
  exact ((((((MainKept.refl hset.sound _ _).flag rfl (.inl (.head _)) 0).wr rfl _ 0 (.inl (by decide)) _).wr rfl _ 0
    (.inl (by decide)) _).onTrg rfl _).pushMark rfl _ _ _ _ _)

theorem State.Sound.doFreezeStop_outcome (hz : s.trg.z = some z) (h : s.ringState = ringPending) :
    s.doFreezeStop.ringState = ringFrozen ∧ s.reached s.doFreezeStop z ∧ s.doFreezeStop.trg = { s.trg with blindRun := 0 } ∧
    s.doFreezeStop.rd F.TRG_FREEZE_LO_COUNT + 2 ^ 32 * s.doFreezeStop.rd F.TRG_FREEZE_HI_COUNT = z % 2 ^ 64 ∧
    MainKept 524628 [F.TRG_CTL, F.TRG_EVT, F.TRG_FREEZE_LO, F.TRG_FREEZE_HI] s s.doFreezeStop := by
  have hcount : Kept 20 s (s.toCount z) := State.toCount_kept s z (hs.kept _) rfl
  have hset : Kept 20 s ((s.toCount z).setRingState ringFrozen) := State.wr_kept _ _ _ _ hcount rfl
  have hall := hs.frozenAt_main z
  rw [State.doFreezeStop_due hz h]
  obtain ⟨u, hu⟩ : ∃ u, u = ((s.toCount z).setRingState ringFrozen).flag F.TRG_EVT 0 := ⟨_, rfl⟩
  have hus : u.Sound := hu ▸ (State.flag_kept _ _ _ hset rfl).sound
  have hlo := State.wf_wr hus.regs F.TRG_FREEZE_LO_COUNT 0 (z % 2 ^ 64 % 2 ^ 32)
  have hpair : Kept 4 u (u.wrPair F.TRG_FREEZE_LO_COUNT F.TRG_FREEZE_HI_COUNT 0 (z % 2 ^ 64)) :=
    State.wrPair_kept _ _ _ _ _ (hus.kept _) rfl
  have hlast : MainKept 524612 [] (u.wrPair F.TRG_FREEZE_LO_COUNT F.TRG_FREEZE_HI_COUNT 0 (z % 2 ^ 64))
      ((s.frozenAt z).pushMark markFreeze z 0 0 0) := by
    rw [State.frozenAt, ← hu]
    exact ((MainKept.refl hpair.sound _ _).onTrg rfl _).pushMark rfl _ _ _ _ _
  have hrdlo : ((s.frozenAt z).pushMark markFreeze z 0 0 0).rd F.TRG_FREEZE_LO_COUNT = z % 2 ^ 64 % 2 ^ 32 := by
    rw [hlast.rd (by decide) (by decide), State.wrPair, State.rd_wr_ne hlo _ _ _ _ _ (by decide),
      State.rd_wr hus.regs _ _ _ (by decide)]
    exact Nat.mod_mod _ _
  have hrdhi : ((s.frozenAt z).pushMark markFreeze z 0 0 0).rd F.TRG_FREEZE_HI_COUNT = z % 2 ^ 64 / 2 ^ 32 := by
    rw [hlast.rd (by decide) (by decide), State.wrPair, State.rd_wr hlo _ _ _ (by decide)]
    exact Nat.mod_eq_of_lt (show z % 2 ^ 64 / 2 ^ 32 < 2 ^ 32 by omega)
  refine ⟨?_, fun hrun => ?_, ?_, ?_, ?_⟩
  · exact (hall.rd (f := F.TRG_CTL_RING_STATE) (by decide) (by decide)).trans (State.ringState_setRingState hcount.sound.regs (by decide))
  · have hclk : ((s.frozenAt z).pushMark markFreeze z 0 0 0).clk = (s.toCount z).clk :=
      (hlast.kept.clk rfl).trans ((hpair.clk rfl).trans (by rw [hu]; rfl))
    rw [hclk]
    exact s.reached_toCount z hrun
  · have hmark : Kept 324 (s.frozenAt z) ((s.frozenAt z).pushMark markFreeze z 0 0 0) := by
      have hfrozen : Kept 524292 u (s.frozenAt z) := by
        rw [State.frozenAt, ← hu]
        exact State.onTrg_kept _ _ (hpair.mono rfl) rfl
      exact ((MainKept.refl hfrozen.sound 324 []).pushMark rfl _ _ _ _ _).kept
    have htrg : (s.toCount z).trg = s.trg := by rw [s.toCount_only]
    rw [hmark.trg rfl, State.frozenAt, State.onTrg_trg, ← hu, hpair.trg rfl, hu]
    exact congrArg (fun t : Trg => { t with blindRun := 0 }) htrg
  · rw [hrdlo, hrdhi]
    omega
  · have hbegin : MainKept 524628 [F.TRG_CTL, F.TRG_EVT, F.TRG_FREEZE_LO, F.TRG_FREEZE_HI] s ((s.toCount z).setRingState ringFrozen) :=
      ((MainKept.refl hs _ _).toCount rfl z).wr rfl F.TRG_CTL_RING_STATE 0 (.inl (by decide)) _
    exact hbegin.trans (hall.mono rfl (by decide))

end

/-! ### The codec job's source is cut (R194) -/

theorem State.Sound.cutCodec_outcome {s : State} (hs : s.Sound) : Kept 1572864 s s.cutCodec ∧
    s.cutCodec.trg = { s.trg with readouts := s.cutCodec.trg.readouts, jobs := s.cutCodec.trg.jobs, port := s.cutCodec.trg.port } ∧
    ∀ j ∈ s.cutCodec.codec, j.running = true → j.cut = true := by
  refine ⟨State.cutCodec_kept s (hs.kept _) rfl, s.portMoved_runPort.trg_only, fun j hj hrun => ?_⟩
  obtain ⟨x, -, rfl⟩ := List.mem_map.1 hj
  exact (congrArg (x.cut || ·) hrun).trans (Bool.or_true _)

/-- REARM in FROZEN. -/
theorem State.Sound.doRearm_outcome {s : State} (hs : s.Sound) (h : s.ringState = ringFrozen) :
    s.doRearm.ringState = ringRearming ∧ s.sameRegs s.doRearm [F.TRG_CTL] ∧
    s.doRearm.trg = { s.trg with readouts := s.doRearm.trg.readouts, jobs := s.doRearm.trg.jobs, port := s.doRearm.trg.port } ∧
    (∀ j ∈ s.doRearm.codec, j.running = true → j.cut = true) ∧ Kept 1572868 s s.doRearm := by
  have hrearm : s.doRearm = (s.setRingState ringRearming).cutCodec := if_pos h
  have hset : Kept 4 s (s.setRingState ringRearming) := State.wr_kept _ _ _ _ (hs.kept _) rfl
  obtain ⟨hcut, htrg, hjobs⟩ := hset.sound.cutCodec_outcome
  have hregs : s.doRearm.regs = (s.setRingState ringRearming).regs := by rw [hrearm, hcut.eq_withParts]; rfl
  refine ⟨(State.rd_of_regs hregs _ _).trans (State.ringState_setRingState hs.regs (by decide)),
    State.sameRegs_of_wr hs.regs (f := F.TRG_CTL_RING_STATE) (i := 0) hregs, ?_, ?_, State.doRearm_kept s (hs.kept _) rfl⟩
  · rw [hrearm]
    exact htrg
  · rw [hrearm]
    exact hjobs

theorem State.doRearm_other {s : State} (h : s.ringState ≠ ringFrozen) : s.doRearm = s := if_neg h

/-! ### REARMING (R194) -/

/-- The log is cleared once readouts and jobs are done. -/
theorem State.Sound.doRearmLogClear_outcome {s : State} (hs : s.Sound) (ns : Nat) (h : s.ringState = ringRearming)
    (hreadouts : s.trg.readouts = []) (hjobs : s.trg.jobs = []) (hr : s.trg.r = none) :
    ∃ r, (s.doRearmLogClear ns).trg = { s.trg with alog := [], r := some r } ∧ r % 1024 = 0 ∧
      (s.doRearmLogClear ns).clk.count + 32 ≤ r ∧ r < (s.doRearmLogClear ns).clk.count + 1056 ∧
      (∀ ch : Fin 64, (s.doRearmLogClear ns).chan ch = { s.chan ch with log := [], logNo := 0, attr := none }) ∧
      s.doRearmLogClear ns = { s with clk := (s.doRearmLogClear ns).clk, chans := (s.doRearmLogClear ns).chans,
                                      trg := (s.doRearmLogClear ns).trg } := by
  obtain ⟨u, hu⟩ : ∃ u, u = s.pass (s.samplesNs (clampNat 50 400 ns)) := ⟨_, rfl⟩
  have hclear : s.doRearmLogClear ns =
      { u with trg := { s.trg with alog := [], r := some (boundaryAfter 1024 u.clk.count) },
               chans := s.chans.map fun c => { c with log := [], logNo := 0, attr := none } } := by
    rw [State.doRearmLogClear, if_pos ⟨h, hreadouts, hjobs, hr⟩, hu]
    rfl
  obtain ⟨hmul, hle, hlt⟩ := boundaryAfter_bounds (m := 1024) (by decide) u.clk.count
  refine ⟨boundaryAfter 1024 u.clk.count, ?_, hmul, ?_, ?_, fun ch => ?_, ?_⟩
  · rw [hclear]
  · rw [hclear]
    exact hle
  · rw [hclear]
    exact hlt
  · rw [hclear]
    have hlen : ch.val < s.chans.length := by rw [hs.chans]; exact ch.isLt
    simp [State.chan, List.getD_eq_getElem?_getD, List.getElem?_map, List.getElem?_eq_getElem hlen]
  · rw [hclear, hu]
    rfl

theorem State.doRearmLogClear_waits {s : State} (ns : Nat) (h : s.trg.readouts ≠ [] ∨ s.trg.jobs ≠ []) :
    s.doRearmLogClear ns = s := by
  refine if_neg fun ⟨_, hreadouts, hjobs, _⟩ => ?_
  exact h.elim (fun g => g hreadouts) fun g => g hjobs

/-- The ring begins anew at R. -/
def State.rearmedAt (s : State) (r : Nat) : State :=
  (((s.toCount r).ringRestart r).setRingState ringArmed).onTrg fun t => { t with r := none, z := none }

theorem State.doRearmResume_due {s : State} {r : Nat} (hr : s.trg.r = some r) (h : s.ringState = ringRearming) :
    s.doRearmResume = (s.rearmedAt r).pushMark markRearm r 0 0 (s.rearmedAt r).trg.blindRun := by
  rw [State.doRearmResume, hr]
  exact if_pos h

theorem State.Sound.doRearmResume_outcome {s : State} (hs : s.Sound) {r : Nat} (hr : s.trg.r = some r)
    (h : s.ringState = ringRearming) :
    s.doRearmResume.ringState = ringArmed ∧
    s.doRearmResume.trg = { s.trg with restart := r, r := none, z := none, readouts := s.doRearmResume.trg.readouts
                                       jobs := s.doRearmResume.trg.jobs, port := s.doRearmResume.trg.port } ∧
    s.reached s.doRearmResume r ∧
    (∀ ch : Fin 64, s.doRearmResume.chan ch = { s.chan ch with w := r, log := [], logNo := 0, attr := none, gaps := [] }) ∧
    MainKept 1589588 [F.TRG_CTL] s s.doRearmResume := by
  have hcount : Kept 1589588 s (s.toCount r) := State.toCount_kept s r (hs.kept _) rfl
  obtain ⟨hcut, htrg, -⟩ := hcount.sound.cutCodec_outcome
  obtain ⟨u, hu⟩ : ∃ u, u = (s.toCount r).ringRestart r := ⟨_, rfl⟩
  have huk : Kept 1589248 (s.toCount r) u := hu ▸ State.ringRestart_kept _ _ (hcount.sound.kept _) rfl
  have hutrg : u.trg = { s.trg with restart := r, readouts := u.trg.readouts, jobs := u.trg.jobs, port := u.trg.port } := by
    have hstart : u.trg = { (s.toCount r).cutCodec.trg with restart := r } := by rw [hu]; rfl
    have hwas : (s.toCount r).trg = s.trg := by rw [s.toCount_only]
    rw [hstart, htrg, hwas]
  have huchans : u.chans = s.chans.map fun c => { c with w := r, log := [], logNo := 0, attr := none, gaps := [] } := by
    have hchans : (s.toCount r).cutCodec.chans = s.chans := (hcut.chans_eq rfl).trans (by rw [s.toCount_only])
    rw [hu, ← hchans]
    rfl
  have hset : Kept 524292 u (s.rearmedAt r) := by
    rw [State.rearmedAt, ← hu]
    exact State.onTrg_kept _ _ (State.wr_kept _ _ _ _ (huk.sound.kept _) rfl) rfl
  have hlast := (MainKept.refl hset.sound 324 []).pushMark (kind := markRearm) (c := r) (source := 0) (k := 0)
    (n := (s.rearmedAt r).trg.blindRun) rfl
  rw [← State.doRearmResume_due hr h] at hlast
  have hrearmed : (s.rearmedAt r).trg = { u.trg with r := none, z := none } := by
    rw [State.rearmedAt, ← hu]
    rfl
  refine ⟨?_, ?_, fun hrun => ?_, fun ch => ?_, ?_⟩
  · have hring : (s.rearmedAt r).ringState = ringArmed := by
      rw [State.rearmedAt, ← hu]
      exact State.ringState_setRingState huk.sound.regs (by decide)
    exact (hlast.rd (f := F.TRG_CTL_RING_STATE) (by decide) (by decide)).trans hring
  · rw [hlast.kept.trg rfl, hrearmed, hutrg]
  · rw [hlast.kept.clk rfl, hset.clk rfl, huk.clk rfl]
    exact s.reached_toCount r hrun
  · have hchans : s.doRearmResume.chans = u.chans := (hlast.kept.chans_eq rfl).trans (hset.chans_eq rfl)
    have hlen : ch.val < s.chans.length := by rw [hs.chans]; exact ch.isLt
    rw [State.chan, hchans, huchans]
    simp [State.chan, List.getD_eq_getElem?_getD, List.getElem?_map, List.getElem?_eq_getElem hlen]
  · have hmain : MainKept 1589588 [F.TRG_CTL] s u := by
      refine MainKept.trans ((MainKept.refl hs _ _).toCount rfl r) ⟨huk.mono rfl, fun b _ _ _ => ?_⟩
      rw [State.regGet, State.regGet, huk.eq_withParts]
      rfl
    have hring : MainKept 1589588 [F.TRG_CTL] s (s.rearmedAt r) := by
      rw [State.rearmedAt, ← hu]
      exact (hmain.wr rfl F.TRG_CTL_RING_STATE 0 (.inl (by decide)) _).onTrg rfl _
    exact hring.trans (hlast.mono rfl (by simp))

end Sys2Proof.Machine

open Sys2Proof Sys2Proof.Machine

/-- Settles O22, clause by clause: the write of a command bit leaves the registers (hostBit_quiet), and each step of the ring's
state leaves of the capture ring only what the read port moves. -/
theorem freezeAndRearm : Obligations.FreezeAndRearm := by
  unfold Obligations.FreezeAndRearm
  intro s hs
  have hsound := hs.sound
  refine ⟨fun p harmed hrun => ?_, fun p harmed => ?_, fun z hz hpending => ?_, fun hidle => ?_, fun p hfrozen => ?_,
    fun p hfrozen => ?_, fun ns hstate hreadouts hjobs hr => ?_, fun ns hwaits => ?_, fun r hr hstate => ?_⟩
  · obtain ⟨u, hu, hsame, hexec⟩ := hs.exec_freeze p
    have hstate : u.ringState = s.ringState := hsame.same (F.TRG_CTL_RING_STATE, 0) (by simp)
    have hfreeze := State.doFreeze_armed (hstate.trans harmed) ((congrArg Trg.running (hu.trg rfl)).trans hrun)
    have hclk : u.clk = s.clk := hu.clk rfl
    have htrg : u.trg = s.trg := hu.trg rfl
    rw [hclk] at hfreeze
    have hfields := State.setRingState_fields hu.sound.regs ringPending
    obtain ⟨hmul, hle, hlt⟩ := boundaryAfter_bounds (m := 64) (by decide) s.clk.count
    rw [hfreeze] at hexec
    refine ⟨_, boundaryAfter 64 s.clk.count, hexec, State.ringState_setRingState hu.sound.regs (by decide), ?_, hmul, hle, hlt,
      ?_, ?_, ?_⟩
    · exact congrArg (fun t : Trg => { t with z := some (boundaryAfter 64 s.clk.count) }) htrg
    · exact ((hsame.mono (by simp)).trans hfields).sameRegs_one (by decide)
    · exact congrArg (· == 1) ((hfields.same (F.TRG_CTL_EN, 0) (by decide)).trans (hsame.same (F.TRG_CTL_EN, 0) (by simp)))
    · exact (State.onPort_kept _ p _ (State.onTrg_kept _ _ (State.wr_kept _ _ _ _ (hu.mono (m' := 524324) rfl) rfl) rfl)
        rfl).eq_withParts
  · obtain ⟨u, hu, hsame, hexec⟩ := hs.exec_freeze p
    have hstate : u.ringState = s.ringState := hsame.same (F.TRG_CTL_RING_STATE, 0) (by simp)
    rw [State.doFreeze_other (hstate ▸ harmed)] at hexec
    exact ⟨_, hexec, hstate, hu.trg rfl, hsame.sameRegs_of (by simp),
      (State.onPort_kept _ p _ (hu.mono (m' := 36) rfl) rfl).eq_withParts⟩
  · obtain ⟨hstate, hreached, htrg, hz', hall⟩ := hsound.doFreezeStop_outcome z hz hpending
    exact ⟨_, hs.next_cxDo State.doFreezeStop, hstate, hreached, htrg, hz', hall.main, hall.kept.eq_withParts⟩
  · exact (hs.next_cxDo State.doFreezeStop).trans (congrArg _ (State.doFreezeStop_idle hidle))
  · obtain ⟨u, hu, hsame, hexec⟩ := hs.exec_rearm p
    have hstate : u.ringState = s.ringState := hsame.same (F.TRG_CTL_RING_STATE, 0) (by simp)
    have htrg : u.trg = s.trg := hu.trg rfl
    obtain ⟨hring, hregs, htrg', hcut, hkept⟩ := hu.sound.doRearm_outcome (hstate.trans hfrozen)
    rw [htrg] at htrg'
    have hall : Kept 1572902 s (u.doRearm.onPort p fun x => { x with status := accDone }) :=
      State.onPort_kept _ p _ (State.doRearm_kept u ((hsound.drawFree_kept rfl).trans (hu.mono rfl)) rfl) rfl
    refine ⟨_, hexec, hring, fun b hb => (hregs b hb).trans (hsame.regGet (by simp)), htrg', hcut, hall.eq_withParts⟩
  · obtain ⟨u, hu, hsame, hexec⟩ := hs.exec_rearm p
    have hstate : u.ringState = s.ringState := hsame.same (F.TRG_CTL_RING_STATE, 0) (by simp)
    rw [State.doRearm_other (hstate ▸ hfrozen)] at hexec
    exact ⟨_, hexec, hstate, hsame.sameRegs_of (by simp), (State.onPort_kept _ p _ (hu.mono (m' := 36) rfl) rfl).eq_withParts⟩
  · obtain ⟨r, htrg, hmul, hle, hlt, hchans, honly⟩ := hsound.doRearmLogClear_outcome ns hstate hreadouts hjobs hr
    exact ⟨_, r, hs.next_cxDo fun s => s.doRearmLogClear ns, htrg, hmul, hle, hlt, hchans, honly⟩
  · exact (hs.next_cxDo fun s => s.doRearmLogClear ns).trans (congrArg _ (State.doRearmLogClear_waits ns hwaits))
  · obtain ⟨hring, htrg, hreached, hchans, hall⟩ := hsound.doRearmResume_outcome hr hstate
    have honly := (hall.kept.mono (m' := 1589590) rfl).eq_withParts
    exact ⟨_, hs.next_cxDo State.doRearmResume, hring, htrg, hreached, hchans, hall.main, honly⟩
end

section
/-! SUPPORT. One register that a run of operations leaves as it is. -/

namespace Sys2Proof.Machine

/-- t's registers are in canonical form, and the one at address a holds what it holds in r. -/
structure HeldAt (a : Nat) (r t : State) : Prop where
  wf : tableWf coldWord t.regs = true
  same : t.regGet a = r.regGet a

section
variable {a : Nat} {r t u : State}

theorem HeldAt.refl (h : tableWf coldWord r.regs = true) (a : Nat) : HeldAt a r r := ⟨h, rfl⟩

variable (h : HeldAt a r t)
include h

theorem HeldAt.trans (g : HeldAt a t u) : HeldAt a r u := ⟨g.wf, g.same.trans h.same⟩

theorem HeldAt.congr (e : u.regs = t.regs) : HeldAt a r u :=
  ⟨e ▸ h.wf, (by rw [State.regGet, e]; rfl : u.regGet a = t.regGet a).trans h.same⟩

theorem HeldAt.regPut {b : Nat} (hb : b ≠ a) (w : Word) : HeldAt a r (t.regPut b w) :=
  ⟨State.wf_regPut h.wf _ _, ((State.regGet_regPut h.wf b a w).trans (if_neg fun e => hb e.symm)).trans h.same⟩

theorem HeldAt.wr {f : Fld} {i : Nat} (hf : f.addr i ≠ a) (v : Nat) : HeldAt a r (t.wr f i v) := h.regPut hf _

theorem HeldAt.flag {b : Nat} (hb : b ≠ a) (k : Nat) : HeldAt a r (t.flag b k) := h.regPut hb _

theorem HeldAt.forEach {x : Type} {f : State → x → State} (hf : ∀ t y, HeldAt a r t → HeldAt a r (f t y)) (l : List x) :
    HeldAt a r (t.forEach l f) := by
  rw [State.forEach]
  induction l generalizing t with
  | nil => exact h
  | cons y l ih => exact ih (hf t y h)

theorem HeldAt.report (ha : a < 0x380000) (c l d : Nat) : HeldAt a r (t.report c l d) := by
  have hlow := (LowKept.refl h.wf).report c l d
  exact ⟨hlow.wf, (hlow.low a ha).trans h.same⟩

theorem HeldAt.pushPkt (ha : a < 0x200000) {q : Nat} (hq : q ≠ 0) (p : Packet) : HeldAt a r (t.pushPkt q p) := by
  rw [State.pushPkt_eq hq]
  split
  · have hput : HeldAt a r (t.onQueue q fun x => { x with waiting := x.waiting ++ [{ p with at_ := t.clk.count }] }) := h.congr rfl
    exact (hput.wr (f := F.QUE_HWM_WORDS) (i := q) (by simp only [Fld.addr]; omega) _).congr (t.enqueue_regs q p)
  · exact (h.congr (u := t.onQueue q _) rfl).flag (by simp only [F.QUE_EVT]; omega) 1

theorem HeldAt.count (ha : a < 0x3C0000) (e l n : Nat) : HeldAt a r (t.count e l n) :=
  ⟨((LowKept.refl h.wf).count e l n).wf, (State.count_low h.wf e l n ha).trans h.same⟩

theorem HeldAt.rd {f : Fld} {i : Nat} (hf : f.addr i = a) : t.rd f i = r.rd f i := State.rd_of_regGet (hf ▸ h.same)

end

end Sys2Proof.Machine
end

section
/-! SUPPORT. Codec jobs (R217 to R225): what the start and the end of one leave. -/

namespace Sys2Proof.Machine

/-! ### Registers that an end of a job leaves -/

section
variable {a : Nat} {r t : State} (h : HeldAt a r t) (ha : a < 0x200000)
include h ha

theorem HeldAt.verifyCoded (hv : F.CDC_VERIFY ≠ a) (ht : F.CDC_VERIFY_TOTAL ≠ a) (j : CJob) (bad : Upsets) (blocks : Nat) :
    HeldAt a r (t.verifyCoded j bad blocks) := by
  refine h.forEach (fun u b hu => ?_) _
  obtain ⟨c, hc⟩ : ∃ c, c = ((u.satAdd F.CDC_VERIFY_TOTAL_COUNT 0 1).flag F.CDC_VERIFY 0).count (0x80 + b.ch)
    (u.locCxUnit b.ch) 1 := ⟨_, rfl⟩
  have hcount : HeldAt a r c := by
    rw [hc]
    exact ((hu.wr (f := F.CDC_VERIFY_TOTAL_COUNT) (i := 0) ht _).flag hv 0).count (by omega) _ _ _
  have hfail : u.verifyFail b.ch = State.report { c with fau := { c.fau with verifySecond := c.fau.verifySecond + 1 } } 0x2202
      (State.locUnit { c with fau := { c.fau with verifySecond := c.fau.verifySecond + 1 } } b.ch) 0 := by
    rw [hc]
    rfl
  rw [hfail]
  obtain ⟨d, hd⟩ : ∃ d, d = { c with fau := { c.fau with verifySecond := c.fau.verifySecond + 1 } } := ⟨_, rfl⟩
  have hnoted : HeldAt a r d := hcount.congr (u := d) (by rw [hd])
  rw [← hd]
  exact hnoted.report (by omega) _ _ _

theorem HeldAt.postEntry (c : PCmd) : HeldAt a r (t.postEntry c) := by
  obtain ⟨u, hu, hpost⟩ : ∃ u : State, u.regs = t.regs ∧ t.postEntry c = (u.writeStatus (8 + c.cpl)).showFlight c.ring := by
    refine ⟨_, ?_, rfl⟩
    have hmem (i v w : Nat) (ws : List LWord) : (t.memWrite i v w ws).regs = t.regs := (congrArg State.regs (t.memWrite_only i v w ws) :)
    exact hmem _ _ _ _
  rw [hpost]
  exact ((h.congr (u := u) hu).congr (u.writeStatus_regs _)).wr (f := F.PRM_RING_STAT_IN_FLIGHT) (by simp only [Fld.addr]; omega) _

theorem HeldAt.postAll : HeldAt a r t.postAll := by
  refine h.forEach (fun u c hu => ?_) _
  split
  · exact hu.postEntry ha c
  · exact hu

theorem HeldAt.finishCmd (ring idx : Nat) (result : LWord) (status blocks low : Nat) :
    HeldAt a r (t.finishCmd ring idx result status blocks low) :=
  (h.congr (u := t.onPrm _) rfl).postAll ha

theorem HeldAt.pushOutput (ring idx addr : Nat) (ws : List LWord) : HeldAt a r (t.pushOutput ring idx addr ws) :=
  (h.congr (u := t.onPrm _) rfl).forEach (fun _ _ hu => hu.pushPkt ha (by decide) _) _

end

/-! ### The end of a job (R221, R222) -/

/-- CDC_JOB_STAT shows the status of a job that has ended. -/
def State.jobShown (s : State) (j : CJob) (status : Nat) : State :=
  ({ s with codec := s.codec.erase j }.wr F.CDC_JOB_STAT_LAST_STATUS 0 status).showCodec

theorem State.endJob_eq (s : State) (j : CJob) (r : CRun) (status : Nat) (token : LWord) : ∃ u,
    u = (if r.done.isEmpty then s.jobShown j status else (s.jobShown j status).pushOutput j.ring j.idx j.outAddr r.done) ∧
    s.endJob j r status token = u.finishCmd j.ring j.idx token status r.blocks (8 * r.done.length) := ⟨_, rfl, rfl⟩

theorem State.Sound.endJob_outcome {s : State} (hs : s.Sound) (j : CJob) (r : CRun) {status : Nat} (hst : status < 16)
    (token : LWord) :
    (s.endJob j r status token).codec = s.codec.erase j ∧ (s.endJob j r status token).rd F.CDC_JOB_STAT_LAST_STATUS = status ∧
    (∀ a < 0x200000, F.CDC_JOB_STAT ≠ a → HeldAt a s (s.endJob j r status token)) := by
  obtain ⟨u, hu, hend⟩ := s.endJob_eq j r status token
  have hwf : tableWf coldWord ({ s with codec := s.codec.erase j } : State).regs = true := hs.regs
  have hstatus := State.wf_wr hwf F.CDC_JOB_STAT_LAST_STATUS 0 status
  have hshown : OnlyFields [(F.CDC_JOB_STAT_ACTIVE, 0), (F.CDC_JOB_STAT_WAITING, 0)]
      (({ s with codec := s.codec.erase j } : State).wr F.CDC_JOB_STAT_LAST_STATUS 0 status) (s.jobShown j status) :=
    ((OnlyFields.refl hstatus _).wr (f := F.CDC_JOB_STAT_ACTIVE) (.head _) _).wr (by decide) _
  have hrd : (s.jobShown j status).rd F.CDC_JOB_STAT_LAST_STATUS = status :=
    (hshown.rd_last hwf (by decide) (by decide)).trans (Nat.mod_eq_of_lt hst)
  have hkept : Kept 1048580 s (s.jobShown j status) :=
    State.showCodec_kept _ (State.wr_kept _ _ _ _ (Kept.congr (K := 1048576) (hs.kept _) rfl rfl rfl rfl rfl rfl rfl rfl rfl) rfl) rfl
  have hfinish : ∀ a < 0x200000, HeldAt a (s.jobShown j status) (s.endJob j r status token) := by
    intro a ha
    rw [hend]
    refine HeldAt.finishCmd ?_ ha _ _ _ _ _ _
    rw [hu]
    split
    · exact .refl hshown.wf a
    · exact (HeldAt.refl hshown.wf a).pushOutput ha _ _ _ _
  have hlast : Kept 1862 (s.jobShown j status) u := by
    rw [hu]
    split
    · exact hkept.sound.kept _
    · exact State.pushOutput_kept _ _ _ _ _ (hkept.sound.kept _) rfl
  have hcodec : (s.endJob j r status token).codec = (s.jobShown j status).codec := by
    rw [hend]
    exact (State.finishCmd_kept u j.ring j.idx token status r.blocks (8 * r.done.length) (hlast.sound.kept 1156) rfl).codec rfl |>.trans
      (hlast.codec rfl)
  refine ⟨hcodec, ((hfinish F.CDC_JOB_STAT (by decide)).rd rfl).trans hrd, fun a ha hne => ?_⟩
  have hbefore : HeldAt a s (s.jobShown j status) :=
    ((((HeldAt.refl hs.regs a).congr (u := { s with codec := s.codec.erase j }) rfl).wr (f := F.CDC_JOB_STAT_LAST_STATUS) (i := 0) hne _).wr
      (f := F.CDC_JOB_STAT_ACTIVE) (i := 0) hne _).wr (f := F.CDC_JOB_STAT_WAITING) (i := 0) hne _
  exact hbefore.trans (hfinish a ha)

end Sys2Proof.Machine
end

section
/-! SUPPORT. The start, the completion and the cancelling of codec jobs (R221, R222). -/

namespace Sys2Proof.Machine

/-! ### The port while no job runs -/

/-- No codec job runs. -/
def State.CodecIdle (s : State) : Prop := ∀ j ∈ s.codec, j.running = false

section
variable {s t : State} (h : s.CodecIdle)
include h

theorem State.CodecIdle.map_reads (f : CJob → CJob) : s.codec.map (fun j => if s.codecReads j then f j else j) = s.codec := by
  refine (List.map_congr_left fun j hj => ?_).trans s.codec.map_id
  rw [State.codecReads, h j hj]
  rfl

theorem State.CodecIdle.congr (e : t.codec = s.codec) : t.CodecIdle := fun j hj => h j (e ▸ hj)

theorem State.CodecIdle.serveShare_codec (k : Nat) : (s.serveShare k).codec = s.codec := by
  unfold State.serveShare
  repeat' split
  case isFalse.isFalse.isFalse => exact h.map_reads _
  all_goals rfl

theorem State.CodecIdle.portUntil_codec (done : State → Bool) (fuel : Nat) : (s.portUntil done fuel).codec = s.codec := by
  induction fuel generalizing s with
  | zero => rfl
  | succ fuel ih =>
    unfold State.portUntil
    split
    · rfl
    · split
      · rfl
      · next u hu =>
        unfold State.portStep at hu
        dsimp only at hu
        split at hu
        · cases hu
        · cases hu
          next i _ =>
          have hserved := State.CodecIdle.serveShare_codec (h.congr (t := s.skipAll) rfl) (shareOf i)
          exact (ih (s := (s.skipAll.serveShare (shareOf i)).onTrg _) (h.congr hserved)).trans hserved

theorem State.CodecIdle.runPort_codec : s.runPort.codec = s.codec := h.portUntil_codec _ _

theorem State.CodecIdle.readJob_codec : s.readJob.codec = s.codec := by
  have hrun := h.runPort_codec
  rw [State.readJob, State.runPortTo, State.toCount_only]
  exact ((h.congr hrun).portUntil_codec _ _).trans hrun

end

/-! ### The start of a job -/

theorem State.doCodecStart_idle {s : State} (h : s.rdB F.CDC_JOB_CTL_EN = false ∨ ∃ j ∈ s.codec, j.running = true) :
    s.doCodecStart = s := by
  refine if_pos ?_
  rw [Bool.or_eq_true, Bool.not_eq_true', List.any_eq_true]
  exact h

/-- With EN and no job running the oldest job is taken. -/
theorem State.CodecIdle.doCodecStart_cons {s : State} (h : s.CodecIdle) (hen : s.rdB F.CDC_JOB_CTL_EN = true) {j : CJob}
    {rest : List CJob} (hcodec : s.codec = j :: rest) :
    s.doCodecStart = if j.bad then s.runPort.endJob j {} 4 0
      else { s.runPort with codec := { j with running := true, rd := { at_ := some (j.curCh, j.curBlock) } } :: rest }.showCodec := by
  have hany : (s.codec.any fun j => j.running) = false := List.any_eq_false.2 fun x hx => by rw [h x hx]; decide
  rw [State.doCodecStart, hen, hany]
  dsimp only
  rw [h.runPort_codec.trans hcodec]
  exact if_neg (by decide)

/-- The job that begins is shown as the active one, the others as those that wait. -/
theorem State.Sound.codecStarted {s : State} (hs : s.Sound) {j : CJob} {rest : List CJob} (hrun : j.running = true)
    (hrest : ∀ x ∈ rest, x.running = false) (hlen : rest.length < 32) :
    ({ s with codec := j :: rest }.showCodec).rdB F.CDC_JOB_STAT_ACTIVE = true ∧
    ({ s with codec := j :: rest }.showCodec).rd F.CDC_JOB_STAT_WAITING = rest.length ∧
    s.sameRegs ({ s with codec := j :: rest }.showCodec) [F.CDC_JOB_STAT] ∧ Kept 1048580 s ({ s with codec := j :: rest }.showCodec) := by
  have hwf : tableWf coldWord ({ s with codec := j :: rest } : State).regs = true := hs.regs
  have hany : ((j :: rest).any fun x => x.running) = true := by rw [List.any_cons, hrun, Bool.true_or]
  have hwaits : ((j :: rest).filter fun x => !x.running) = rest := by
    rw [List.filter_cons, hrun]
    exact List.filter_eq_self.2 fun x hx => by rw [hrest x hx]; rfl
  have hshow : ({ s with codec := j :: rest } : State).showCodec =
      (({ s with codec := j :: rest } : State).wr F.CDC_JOB_STAT_ACTIVE 0 1).wr F.CDC_JOB_STAT_WAITING 0 rest.length := by
    rw [State.showCodec]
    dsimp only
    rw [hany, hwaits]
    rfl
  have hactive := State.wf_wr hwf F.CDC_JOB_STAT_ACTIVE 0 1
  refine ⟨?_, ?_, ?_, State.showCodec_kept _ (Kept.congr (K := 1048576) (hs.kept _) rfl rfl rfl rfl rfl rfl rfl rfl rfl) rfl⟩
  · rw [hshow]
    exact congrArg (· == 1) ((State.rd_wr_ne hactive _ _ _ _ _ (by decide)).trans (State.rd_wr hwf _ 0 1 (by decide)))
  · rw [hshow, State.rd_wr hactive _ _ _ (by decide)]
    exact Nat.mod_eq_of_lt hlen
  · have hfields : OnlyFields [(F.CDC_JOB_STAT_ACTIVE, 0), (F.CDC_JOB_STAT_WAITING, 0)] s ({ s with codec := j :: rest }.showCodec) :=
      (((OnlyFields.refl hs.regs _).congr (u := { s with codec := j :: rest }) rfl).wr (f := F.CDC_JOB_STAT_ACTIVE) (.head _) _).wr
        (by decide) _
    exact hfields.sameRegs_one (by decide)

/-- A job that ends with no output leaves the queues. -/
theorem State.Sound.endJob_empty_kept {s : State} (hs : s.Sound) (j : CJob) (status : Nat) (token : LWord) :
    Kept 1049732 s (s.endJob j {} status token) := by
  have hshown : Kept 1049732 s (s.jobShown j status) :=
    State.showCodec_kept _ (State.wr_kept _ _ _ _ (Kept.congr (K := 1049732) (hs.kept _) rfl rfl rfl rfl rfl rfl rfl rfl rfl) rfl) rfl
  exact State.finishCmd_kept (s.jobShown j status) j.ring j.idx token status 0 0 hshown rfl

/-! ### The completion of a job -/

theorem State.doCodecComplete_idle {s : State} (h : s.CodecIdle) (bad : Upsets) : s.doCodecComplete bad = s := by
  have hnone : (s.readJob.codec.find? fun j => j.running) = none := List.find?_eq_none.2 fun j hj => by
    rw [h j (h.readJob_codec ▸ hj)]
    decide
  rw [State.doCodecComplete]
  dsimp only
  rw [hnone]

/-- The status of a job that has stopped; .wait is none. -/
def CStop.Status (c : CStop) (n : Nat) : Prop :=
  (c = .done ∧ n = 0) ∨ (c = .outFull ∧ n = 1) ∨ (c = .lost ∧ n = 2) ∨ (c = .frozen ∧ n = 3)

theorem State.doCodecComplete_wait {s : State} {j : CJob} {bad : Upsets} (hj : (s.readJob.codec.find? fun x => x.running) = some j)
    (h : (s.readJob.jobEnd j bad).2.1 = .wait) : s.doCodecComplete bad = s := by
  rw [State.doCodecComplete]
  dsimp only
  rw [hj]
  dsimp only
  rw [h]

theorem State.doCodecComplete_stop {s : State} {j : CJob} {bad : Upsets} (hj : (s.readJob.codec.find? fun x => x.running) = some j)
    {n : Nat} (h : (s.readJob.jobEnd j bad).2.1.Status n) :
    s.doCodecComplete bad = (s.readJob.verifyCoded j bad (s.readJob.jobEnd j bad).1.blocks).endJob j (s.readJob.jobEnd j bad).1 n
      (s.readJob.jobEnd j bad).2.2 := by
  rw [State.doCodecComplete]
  dsimp only
  rw [hj]
  dsimp only
  obtain ⟨h, rfl⟩ | ⟨h, rfl⟩ | ⟨h, rfl⟩ | ⟨h, rfl⟩ := h <;> rw [h]

/-! ### Cancelling -/

/-- What stopping the jobs that are left does: they leave the list, and the last one's status is shown. -/
structure State.JobsStopped (status : Nat) (s t : State) : Prop where
  codec : t.codec = []
  status : s.codec ≠ [] → t.rd F.CDC_JOB_STAT_LAST_STATUS = status
  enable : HeldAt F.CDC_JOB_CTL s t

theorem State.Sound.stopJob_outcome {s : State} (hs : s.Sound) {j : CJob} {rest : List CJob} (hcodec : s.codec = j :: rest)
    {status : Nat} (hst : status < 16) :
    (s.stopJob j status).codec = rest ∧ (s.stopJob j status).rd F.CDC_JOB_STAT_LAST_STATUS = status ∧
    HeldAt F.CDC_JOB_CTL s (s.stopJob j status) := by
  have hbase {u : State} (hu : u.Sound) (hc : u.codec = s.codec) (hheld : HeldAt F.CDC_JOB_CTL s u) (r : CRun) (token : LWord) :
      (u.endJob j r status token).codec = rest ∧ (u.endJob j r status token).rd F.CDC_JOB_STAT_LAST_STATUS = status ∧
      HeldAt F.CDC_JOB_CTL s (u.endJob j r status token) := by
    obtain ⟨hrest, hstatus, hregs⟩ := hu.endJob_outcome j r hst token
    refine ⟨?_, hstatus, hheld.trans (hregs F.CDC_JOB_CTL (by decide) (by decide))⟩
    rw [hrest, hc, hcodec, List.erase_cons_head]
  have hrefl : HeldAt F.CDC_JOB_CTL s s := .refl hs.regs _
  rw [State.stopJob]
  split
  · obtain ⟨u, hu⟩ : ∃ u, u = (s.freeUpsets j.rd.got).2 := ⟨_, rfl⟩
    have huk : Kept 2 s u := hu ▸ State.freeUpsets_kept s j.rd.got (hs.kept _) rfl
    have hheld : HeldAt F.CDC_JOB_CTL s u := hrefl.congr (by rw [huk.eq_withParts]; rfl)
    dsimp only
    rw [← hu]
    have hv := State.verifyCoded_kept u j (s.freeUpsets j.rd.got).1 (u.jobEnd j (s.freeUpsets j.rd.got).1).1.blocks
      (huk.sound.kept 518) rfl
    exact hbase hv.sound ((hv.codec rfl).trans (huk.codec rfl)) (hheld.verifyCoded (by decide) (by decide) (by decide) _ _ _) _ _
  · exact hbase hs rfl hrefl _ _

theorem State.Sound.stopAll_outcome {s : State} (hs : s.Sound) {status : Nat} (hst : status < 16) :
    State.JobsStopped status s (s.forEach s.codec fun s j => s.stopJob j status) := by
  obtain ⟨l, hl⟩ : ∃ l, s.codec = l := ⟨_, rfl⟩
  rw [hl]
  induction l generalizing s with
  | nil => exact ⟨hl, fun h => absurd hl h, .refl hs.regs _⟩
  | cons j rest ih =>
    obtain ⟨hcodec, hstatus, hheld⟩ := hs.stopJob_outcome hl hst
    have hsound : (s.stopJob j status).Sound := (State.stopJob_kept s j status (hs.kept 1050566) rfl).sound
    have hrest := ih hsound hcodec
    refine ⟨hrest.codec, fun _ => ?_, hheld.trans hrest.enable⟩
    cases rest with
    | nil => exact hstatus
    | cons y l => exact hrest.status (by rw [hcodec]; exact List.cons_ne_nil _ _)

theorem State.Sound.doCodecCancel_outcome {s : State} (hs : s.Sound) :
    State.JobsStopped 5 s s.doCodecCancel ∧ Kept 1574854 s s.doCodecCancel := by
  refine ⟨?_, State.doCodecCancel_kept s (hs.kept _) rfl⟩
  obtain ⟨u, hu⟩ : ∃ u, u = s.onPrm fun p => { p with cancelled := p.cancelled ++ s.codec.map fun j => (j.ring, j.idx) } := ⟨_, rfl⟩
  have hcancel : s.doCodecCancel = u.stopJobs 5 := by rw [State.doCodecCancel, hu]
  have huk : Kept 1024 s u := hu ▸ State.onPrm_kept _ _ (hs.kept _) rfl
  have hrun : Kept 1572864 u u.runPort := State.runPort_kept u (huk.sound.kept _) rfl
  have hstop := hrun.sound.stopAll_outcome (status := 5) (by decide)
  have hview := u.portMoved_runPort.codec
  have hregs : u.runPort.regs = s.regs := by rw [hrun.eq_withParts, huk.eq_withParts]; rfl
  rw [hcancel]
  refine ⟨hstop.codec, fun h => hstop.status fun e => h ?_, ((HeldAt.refl hs.regs _).congr hregs).trans hstop.enable⟩
  rw [e, List.map_nil, eq_comm, List.map_eq_nil_iff] at hview
  exact (huk.codec rfl).symm.trans hview

end Sys2Proof.Machine

open Sys2Proof Sys2Proof.Machine

/-- Settles O24, clause by clause: while no job runs the port leaves the jobs, and the end of a job takes it off the list and shows
its status, so cancelling takes them off one by one. -/
theorem codecJobs : Obligations.CodecJobs := by
  unfold Obligations.CodecJobs
  intro s hs
  have hsound := hs.sound
  refine ⟨fun h => ?_, fun j rest hen hcodec hidle => ?_, fun flips bad u j r hu hj hr => ?_, fun hidle flips bad => ?_, fun p => ?_⟩
  · exact (hs.next_cxDo State.doCodecStart).trans (congrArg _ (State.doCodecStart_idle h))
  · have hstart := State.CodecIdle.doCodecStart_cons hidle hen hcodec
    have hrun : Kept 1572864 s s.runPort := State.runPort_kept s (hsound.kept _) rfl
    have hregs : s.runPort.regs = s.regs := by rw [hrun.eq_withParts]; rfl
    refine ⟨fun hgood hlen => ?_, fun hbad => ?_⟩
    · rw [hgood, if_neg (by decide)] at hstart
      obtain ⟨hactive, hwaits, hsame, hkept⟩ := hrun.sound.codecStarted
        (j := { j with running := true, rd := { at_ := some (j.curCh, j.curBlock) } }) rfl
        (fun x hx => hidle x (hcodec ▸ .tail _ hx)) hlen
      refine ⟨_, (hs.next_cxDo State.doCodecStart).trans (congrArg _ hstart), rfl, hactive, hwaits,
        (State.sameRegs_of_regs hregs _).trans hsame, ?_⟩
      exact ((hrun.mono (m' := 1572868) rfl).trans (hkept.mono rfl)).eq_withParts
    · rw [hbad, if_pos rfl] at hstart
      obtain ⟨hleft, hstatus, -⟩ := hrun.sound.endJob_outcome j {} (status := 4) (by decide) 0
      refine ⟨_, (hs.next_cxDo State.doCodecStart).trans (congrArg _ hstart), ?_, hstatus, ?_⟩
      · rw [hleft, State.CodecIdle.runPort_codec hidle, hcodec, List.erase_cons_head]
      · exact ((hrun.mono (m' := 1574020) rfl).trans ((hrun.sound.endJob_empty_kept j 4 0).mono rfl)).eq_withParts
  · subst hu
    subst hr
    refine ⟨fun hwait => ?_, fun n hn => ?_⟩
    · exact (hs.next_cxDo fun s => s.doCodecComplete { flips := flips, bad := bad }).trans
        (congrArg _ (State.doCodecComplete_wait hj hwait))
    · have hread : Kept 1572880 s s.readJob := State.readJob_kept s (hsound.kept _) rfl
      have hv := State.verifyCoded_kept s.readJob j { flips := flips, bad := bad }
        (s.readJob.jobEnd j { flips := flips, bad := bad }).1.blocks (hread.sound.kept 518) rfl
      have hn16 : n < 16 := by
        obtain ⟨-, rfl⟩ | ⟨-, rfl⟩ | ⟨-, rfl⟩ | ⟨-, rfl⟩ := hn <;> decide
      have hstop := State.doCodecComplete_stop hj hn
      obtain ⟨hleft, hstatus, -⟩ := hv.sound.endJob_outcome j (s.readJob.jobEnd j { flips := flips, bad := bad }).1 hn16
        (s.readJob.jobEnd j { flips := flips, bad := bad }).2.2
      have hend := State.endJob_kept _ j (s.readJob.jobEnd j { flips := flips, bad := bad }).1 n
        (s.readJob.jobEnd j { flips := flips, bad := bad }).2.2 (hv.sound.kept 1050566) rfl
      rw [← hstop] at hleft hstatus hend
      refine ⟨_, hs.next_cxDo fun s => s.doCodecComplete { flips := flips, bad := bad }, ?_, ?_, ?_, hstatus, ?_⟩
      · rw [hleft, hv.codec rfl]
      · exact (hend.clk rfl).trans (hv.clk rfl)
      · exact (hend.trg rfl).trans (hv.trg rfl)
      · exact (State.doCodecComplete_kept s _ (hsound.kept 1574870) rfl).eq_withParts
  · exact (hs.next_cxDo fun s => s.doCodecComplete { flips := flips, bad := bad }).trans
      (congrArg _ (State.doCodecComplete_idle hidle _))
  · obtain ⟨u, hu, hsame, hbit⟩ := hs.hostBit_quiet p (fld := F.CDC_JOB_CTL_CANCEL) (f := State.doCodecCancel)
      (ops := [(1, State.doCodecCancel)]) (by decide +kernel) (by decide +kernel) rfl (by decide) (by decide +kernel)
      (fun r hr u w ns => by rw [State.writeReg, State.writeMgt, State.writeFront, State.writeCore, hr]; rfl)
      (by decide +kernel) (by decide) (.head _)
    obtain ⟨hstop, hkept⟩ := hu.sound.doCodecCancel_outcome
    have hcodec : u.codec = s.codec := hu.codec rfl
    refine ⟨_, (hs.awake.next_keeperDo fun s => s.hostBit p F.CDC_JOB_CTL_CANCEL 0).trans (congrArg _ hbit), hstop.codec,
      fun h => hstop.status (hcodec ▸ h), ?_, ?_⟩
    · exact congrArg (· == 1) ((hstop.enable.rd rfl).trans (hsame.same (F.CDC_JOB_CTL_EN, 0) (by simp)))
    · exact (State.onPort_kept _ p _ (State.doCodecCancel_kept u
        ((hsound.drawFree_kept (m := 1574886) rfl).trans (hu.mono rfl)) rfl) rfl).eq_withParts
end

section
/-! SUPPORT. The incident table (R420 to R424): its entries after an update, which entry a report reaches, and what a report makes
of it. -/

namespace Sys2Proof.Machine

/-! ### Entries -/

theorem State.incAt_onInc {s : State} {e : Nat} (h : e < s.fau.inc.length) (f : Incident → Incident) :
    (s.onInc e f).incAt e = f (s.incAt e) := getD_modify_same h f {}

theorem State.incAt_onInc_ne (s : State) {e q : Nat} (h : q ≠ e) (f : Incident → Incident) :
    (s.onInc e f).incAt q = s.incAt q := by
  simp [State.incAt, State.onInc, List.getD_eq_getElem?_getD, h.symm]

theorem State.incAt_of_fau {s t : State} (h : t.fau = s.fau) (q : Nat) : t.incAt q = s.incAt q := by
  rw [State.incAt, h, State.incAt]

/-- With no entry open, none that is looked up is. -/
theorem State.incAt_not_open {s : State} (h : ∀ x ∈ s.fau.inc, x.st ≠ .opened) (q : Nat) : (s.incAt q).st ≠ .opened := by
  rw [State.incAt, List.getD_eq_getElem?_getD]
  cases hq : s.fau.inc[q]? with
  | none => exact IncState.noConfusion
  | some x => exact h x (List.mem_of_getElem? hq)

/-! ### The entry that a report reaches (R421, R422) -/

section
variable {s : State} {c l d : Nat}

theorem State.rootFor_eq_none : s.rootFor c l d = none ↔
    ∀ e < 255, (s.incAt e).st = .opened → foldsInto (s.incAt e).code (s.incAt e).loc (s.incAt e).detail c l d = false := by
  simp [State.rootFor]

theorem State.sameRoot_isOpen {e : Nat} (h : s.sameRoot c l d = some e) :
    e < 255 ∧ (s.incAt e).st = .opened ∧ (s.incAt e).code = c ∧ (s.incAt e).loc = l := by
  have hp := List.find?_some h
  have he := List.mem_range.1 (List.mem_of_find?_eq_some h)
  simp only [Bool.and_eq_true, beq_iff_eq] at hp
  exact ⟨he, hp.1.1.1, hp.1.1.2, hp.1.2⟩

theorem State.rootFor_lt {r : Nat} (h : s.rootFor c l d = some r) : r < 255 := List.mem_range.1 (List.mem_of_find?_eq_some h)

theorem State.rootFor_of_none_open (h : ∀ e, (s.incAt e).st ≠ .opened) : s.rootFor c l d = none :=
  State.rootFor_eq_none.2 fun e _ ho => absurd ho (h e)

theorem State.sameRoot_of_none_open (h : ∀ e, (s.incAt e).st ≠ .opened) : s.sameRoot c l d = none := by
  cases hs : s.sameRoot c l d with
  | none => rfl
  | some e => exact absurd (State.sameRoot_isOpen hs).2.1 (h e)

/-- A report is no dependent of a root of its own code (log entry 9). -/
theorem foldsInto_self (rl rd c l d : Nat) : foldsInto c rl rd c l d = false := by
  simp [foldsInto]

end

/-- The oldest of the entries that satisfy a test is one of the first 255. -/
theorem State.oldest_lt {s : State} {ok : Incident → Bool} {e : Nat} (h : s.oldest ok = some e) : e < 255 := by
  refine List.mem_range.1 ((foldl_eq_some_mem (fun o x => ?_) _ h).resolve_left fun hnone => by cases hnone)
  split
  · split
    · exact .inl rfl
    · split
      · exact .inl rfl
      · exact .inr rfl
  · exact .inr rfl

theorem State.incAlloc_lt {s : State} {e : Nat} (h : s.incAlloc = some e) : e < 255 := by
  rw [State.incAlloc] at h
  split at h
  · next he =>
    cases h
    exact State.oldest_lt he
  · split at h
    · next he =>
      cases h
      exact State.oldest_lt he
    · exact State.oldest_lt h

/-! ### A report from outside (R421) -/

/-- A report from outside the modelled functions: the entry that holds it is noted to be of such. -/
def State.noteOuter (u : State) (c l d : Nat) : State :=
  match u.takenBy c l d with
  | some e => u.onInc e fun x => { x with outer := true }
  | none => u

theorem State.doFaultReport_eq {s : State} {code place detail : Nat} (hok : codeAt code place = true) (hp : place < 65536)
    (hd : detail < 2 ^ 32) : s.doFaultReport code place detail =
      (s.report code (s.moduleId * 65536 + place) detail).noteOuter code (s.moduleId * 65536 + place) detail := by
  rw [State.doFaultReport, Nat.mod_eq_of_lt hp, Nat.mod_eq_of_lt hd, hok]
  rfl

theorem State.doFaultReport_none {s : State} {code place : Nat} (detail : Nat) (h : codeAt code place = false)
    (hp : place < 65536) : s.doFaultReport code place detail = s := by
  rw [State.doFaultReport, Nat.mod_eq_of_lt hp, h]
  rfl

section
variable {u : State} {c l d e : Nat}

theorem State.noteOuter_root {r : Nat} (h : u.rootFor c l d = some r) : u.noteOuter c l d = u := by
  rw [State.noteOuter, State.takenBy, h]

theorem State.noteOuter_same (hroot : u.rootFor c l d = none) (h : u.sameRoot c l d = some e) :
    u.noteOuter c l d = u.onInc e fun x => { x with outer := true } := by
  rw [State.noteOuter, State.takenBy, hroot]
  simp only [h]

end

/-! ### A report of an open incident's root, and one of a dependent (R421, R422) -/

section
variable {s : State} {c l d e : Nat}

/-- The open incident counts the report. -/
def Incident.counted (x : Incident) (s : State) (c d : Nat) : Incident :=
  { x with count := satAdd32 x.count 1, detail := if c = 0x3009 then satAdd32 x.count 1 else d, tLast := s.nowT48,
           lastTick := s.clk.tick, lasting := !fleetingCode c, pending := !x.held }

theorem State.report_same (hroot : s.rootFor c l d = none) (h : s.sameRoot c l d = some e) :
    s.report c l d = s.onInc e fun x => x.counted s c d := by
  rw [State.report, hroot]
  simp only [h]
  rfl

theorem State.report_root {r : Nat} (h : s.rootFor c l d = some r) : s.report c l d = s.onInc r fun x =>
    { x with count := satAdd32 x.count 1, lastTick := s.clk.tick, pending := !x.held } := by
  rw [State.report, h]

variable (hlen : s.fau.inc.length = 256)
include hlen

/-- A counted report leaves its incident the one of the report's root, and no root covers it now. -/
theorem State.report_same_again (hroot : s.rootFor c l d = none) (h : s.sameRoot c l d = some e) :
    (s.onInc e fun x => x.counted s c d).rootFor c l d = none ∧ (s.onInc e fun x => x.counted s c d).sameRoot c l d = some e := by
  obtain ⟨he, hopen, hcode, hloc⟩ := State.sameRoot_isOpen h
  have hself := State.incAt_onInc (s := s) (e := e) (by omega) fun x => x.counted s c d
  have hother {q : Nat} (hq : q ≠ e) := s.incAt_onInc_ne hq fun x => x.counted s c d
  refine ⟨State.rootFor_eq_none.2 fun q hq ho => ?_, ?_⟩
  · by_cases hqe : q = e
    · rw [hqe, hself]
      change foldsInto (s.incAt e).code _ _ c l d = false
      rw [hcode]
      exact foldsInto_self ..
    · rw [hother hqe] at ho ⊢
      exact State.rootFor_eq_none.1 hroot q hq ho
  · obtain ⟨-, -, hbefore⟩ := List.find?_range_eq_some.1 h
    refine List.find?_range_eq_some.2 ⟨?_, List.mem_range.2 he, fun q hq => ?_⟩
    · dsimp only
      rw [hself, Incident.counted]
      by_cases hc : c = 0x3009
      · simp [hopen, hcode, hloc, hc, detailNamesPath]
      · simp [hopen, hcode, hloc, hc]
    · dsimp only
      rw [hother (Nat.ne_of_lt hq)]
      exact hbefore q hq

/-- A dependent counts in its root, which covers it as before. -/
theorem State.report_root_again {r : Nat} (h : s.rootFor c l d = some r) : (s.onInc r fun x =>
    { x with count := satAdd32 x.count 1, lastTick := s.clk.tick, pending := !x.held }).rootFor c l d = some r := by
  have hr := State.rootFor_lt h
  obtain ⟨hp, -, hbefore⟩ := List.find?_range_eq_some.1 h
  refine List.find?_range_eq_some.2 ⟨?_, List.mem_range.2 hr, fun q hq => ?_⟩
  · dsimp only
    rw [State.incAt_onInc (by omega)]
    exact hp
  · dsimp only
    rw [State.incAt_onInc_ne _ (Nat.ne_of_lt hq)]
    exact hbefore q hq

end

end Sys2Proof.Machine
end

section
/-! SUPPORT. A new incident, and what ends one (R421, R424). -/

namespace Sys2Proof.Machine

/-! ### A new incident with none open (R421) -/

/-- The entry of a first report. -/
def State.firstReport (s : State) (c l d due : Nat) : Incident :=
  { id := s.rd F.FAU_STAT_NEXT_ID, code := c, loc := l, tFirst := s.nowT48, st := .opened, station := stationCode c,
    pending := !heldCode c l, tLast := s.nowT48, count := 1, detail := d, openTick := s.clk.tick, lastTick := s.clk.tick,
    held := heldCode c l, lasting := !fleetingCode c, seenNs := s.nowNs.toNat, dueNs := due }

/-- The new incident is in its entry, and the number after its own is the next. -/
def State.incOpened (s : State) (n e c l d due : Nat) : State :=
  ({ s with free := n }.onInc e fun _ => s.firstReport c l d due).wr F.FAU_STAT_NEXT_ID 0
    (if s.rd F.FAU_STAT_NEXT_ID = 65535 then 1 else s.rd F.FAU_STAT_NEXT_ID + 1)

/-- The opening of an incident, but for the open ones that it takes over. -/
theorem State.openInc_eq (s : State) (e c l d : Nat) : ∃ n due, s.openInc e c l d =
    (((s.incOpened n e c l d due).flag F.FAU_EVT 0).count 0x190 l 1).forEach
      ((List.range 255).filter fun x => (((s.incOpened n e c l d due).flag F.FAU_EVT 0).count 0x190 l 1).foldsNow e x)
      fun s x => s.foldInc e x := by
  obtain ⟨r, hr, n, hn⟩ : ∃ r, r = (if stationCode c then s.stationDelay else (0, s)) ∧ ∃ n, r.2 = { s with free := n } := by
    refine ⟨_, rfl, ?_⟩
    split
    · exact ⟨_, rfl⟩
    · exact ⟨s.free, rfl⟩
  obtain ⟨due, hdue⟩ : ∃ due, due = if stationCode c then max s.nowNs.toNat (r.2.reportInterval s.nowNs.toNat) + r.1 else 0 := ⟨_, rfl⟩
  refine ⟨n, due, ?_⟩
  rw [State.openInc, ← hr]
  dsimp only
  rw [← hdue, hn]
  rfl

section
variable {s : State} {e c l d : Nat}

theorem State.Sound.incOpened_kept (hs : s.Sound) (n due : Nat) : Kept 518 s (s.incOpened n e c l d due) :=
  State.wr_kept _ _ _ _ (State.onInc_kept _ _ _ ((hs.kept 518).congr (K := 2) rfl rfl rfl rfl rfl rfl rfl rfl rfl) rfl) rfl

theorem State.Sound.incOpened_fau (hs : s.Sound) (n due : Nat) :
    (((s.incOpened n e c l d due).flag F.FAU_EVT 0).count 0x190 l 1).fau = (s.onInc e fun _ => s.firstReport c l d due).fau :=
  (State.count_kept _ _ _ _ (State.flag_kept _ _ _ ((hs.incOpened_kept n due).sound.kept 4) rfl) rfl).fau rfl

theorem State.Sound.openInc_alone (hs : s.Sound) (hnone : ∀ x ∈ s.fau.inc, x.st ≠ .opened) : ∃ n due,
    s.openInc e c l d = ((s.incOpened n e c l d due).flag F.FAU_EVT 0).count 0x190 l 1 := by
  obtain ⟨n, due, h⟩ := s.openInc_eq e c l d
  refine ⟨n, due, h.trans ?_⟩
  have hfolds : ((List.range 255).filter fun x => (((s.incOpened n e c l d due).flag F.FAU_EVT 0).count 0x190 l 1).foldsNow e x) = [] := by
    refine List.filter_eq_nil_iff.2 fun x _ => ?_
    simp only [State.foldsNow, Bool.and_eq_true, bne_iff_ne, beq_iff_eq, not_and]
    rintro ⟨⟨hne, hopen⟩, -⟩
    rw [State.incAt_of_fau (hs.incOpened_fau n due), s.incAt_onInc_ne hne] at hopen
    exact absurd hopen (State.incAt_not_open hnone x)
  rw [hfolds, State.forEach, List.foldl_nil]

/-- NEXT_ID after an opening. -/
theorem State.incOpened_nextId (hwf : tableWf coldWord s.regs = true) (n due : Nat) :
    (((s.incOpened n e c l d due).flag F.FAU_EVT 0).count 0x190 l 1).rd F.FAU_STAT_NEXT_ID =
      if s.rd F.FAU_STAT_NEXT_ID = 65535 then 1 else s.rd F.FAU_STAT_NEXT_ID + 1 := by
  have hid : s.rd F.FAU_STAT_NEXT_ID < 2 ^ 16 := getField_lt _ _ _
  have hwf' : tableWf coldWord (s.incOpened n e c l d due).regs = true := State.wf_wr hwf _ _ _
  have hheld : HeldAt F.FAU_STAT (s.incOpened n e c l d due) (((s.incOpened n e c l d due).flag F.FAU_EVT 0).count 0x190 l 1) :=
    ((HeldAt.refl hwf' F.FAU_STAT).flag (by decide) 0).count (by decide) _ _ _
  have hlt : (if s.rd F.FAU_STAT_NEXT_ID = 65535 then 1 else s.rd F.FAU_STAT_NEXT_ID + 1) < 2 ^ 16 := by split <;> omega
  rw [hheld.rd (f := F.FAU_STAT_NEXT_ID) rfl, State.incOpened, State.rd_wr (by exact hwf) _ 0 _ (by decide)]
  exact Nat.mod_eq_of_lt hlt

variable (hlen : s.fau.inc.length = 256) (hnone : ∀ x ∈ s.fau.inc, x.st ≠ .opened) (halloc : s.incAlloc = some e)
include hlen hnone halloc

/-- The first report of an incident is the one that the incident's root is looked up by. -/
theorem State.openInc_same (due : Nat) : (s.onInc e fun _ => s.firstReport c l d due).rootFor c l d = none ∧
    (s.onInc e fun _ => s.firstReport c l d due).sameRoot c l d = some e := by
  have he := State.incAlloc_lt halloc
  have hself := State.incAt_onInc (s := s) (e := e) (by omega) fun _ => s.firstReport c l d due
  have hother {q : Nat} (hq : q ≠ e) := s.incAt_onInc_ne hq fun _ => s.firstReport c l d due
  refine ⟨State.rootFor_eq_none.2 fun q _ ho => ?_, List.find?_range_eq_some.2 ⟨?_, List.mem_range.2 he, fun q hq => ?_⟩⟩
  · by_cases hqe : q = e
    · rw [hqe, hself]
      exact foldsInto_self ..
    · rw [hother hqe] at ho
      exact absurd ho (State.incAt_not_open hnone q)
  · rw [hself]
    simp [State.firstReport]
  · rw [hother (Nat.ne_of_lt hq)]
    simp [State.incAt_not_open hnone q]

omit hlen in
theorem State.report_first : s.report c l d = s.openInc e c l d := by
  have hopen := State.incAt_not_open hnone
  rw [State.report, State.rootFor_of_none_open hopen]
  simp only [State.sameRoot_of_none_open hopen, halloc]

end

/-! ### An entry updated twice -/

section
variable {s u : State} {e : Nat} {f : Incident → Incident} (hfau : u.fau = (s.onInc e f).fau)
include hfau

theorem State.incAt_twice (he : e < s.fau.inc.length) (g : Incident → Incident) : (u.onInc e g).incAt e = g (f (s.incAt e)) := by
  have hlen : e < u.fau.inc.length := by
    rw [hfau]
    exact Nat.lt_of_lt_of_eq he (List.length_modify ..).symm
  rw [State.incAt_onInc hlen, State.incAt_of_fau hfau, State.incAt_onInc he]

theorem State.incAt_twice_ne {q : Nat} (hq : q ≠ e) (g : Incident → Incident) : (u.onInc e g).incAt q = s.incAt q := by
  rw [u.incAt_onInc_ne hq, State.incAt_of_fau hfau, s.incAt_onInc_ne hq]

theorem State.rootFor_of_fau (c l d : Nat) : u.rootFor c l d = (s.onInc e f).rootFor c l d := by
  simp only [State.rootFor, State.incAt_of_fau hfau]

theorem State.sameRoot_of_fau (c l d : Nat) : u.sameRoot c l d = (s.onInc e f).sameRoot c l d := by
  simp only [State.sameRoot, State.incAt_of_fau hfau]

end

/-! ### The end of an incident (R421, R424) -/

/-- The entry of an incident that has ended. -/
def Incident.ended (x : Incident) (t : Nat) : Incident :=
  { x with st := .closed, tLast := t, held := false, pending := true, lasting := false }

theorem State.closeInc_eq (s : State) (e : Nat) : s.closeInc e =
    if e = 255 then (s.onInc e fun x => x.ended s.nowT48).wr F.FAU_STAT_OVERFLOW 0 0 else s.onInc e fun x => x.ended s.nowT48 := rfl

/-- An end changes its entry, and FAU_STAT when the overflow incident ends. -/
theorem State.Sound.closeInc_outcome {s : State} (hs : s.Sound) (e : Nat) :
    (s.closeInc e).fau = (s.onInc e fun x => x.ended s.nowT48).fau ∧ (e = 255 → (s.closeInc e).rdB F.FAU_STAT_OVERFLOW = false) ∧
    s.sameRegs (s.closeInc e) (if e = 255 then [F.FAU_STAT] else []) ∧ Kept 516 s (s.closeInc e) := by
  have hwf : tableWf coldWord (s.onInc e fun x => x.ended s.nowT48).regs = true := hs.regs
  refine ⟨?_, fun h => ?_, ?_, State.closeInc_kept s e (hs.kept _) rfl⟩
  · rw [s.closeInc_eq]
    split <;> rfl
  · rw [s.closeInc_eq, if_pos h]
    exact congrArg (· == 1) (State.rd_wr hwf F.FAU_STAT_OVERFLOW 0 0 (by decide))
  · rw [s.closeInc_eq]
    split
    · exact State.sameRegs_wr hwf F.FAU_STAT_OVERFLOW 0 0
    · exact State.sameRegs_of_regs rfl _

theorem State.doClose_other {s : State} {e : Nat} (h : (s.incAt e).st ≠ .opened) : s.doClose e = s := if_neg h

/-- CLOSE ends the entry; a lasting condition is reported again. -/
theorem State.doClose_opened {s : State} {e : Nat} (h : (s.incAt e).st = .opened) : s.doClose e =
    if (s.incAt e).lasting then (s.closeInc e).onFau fun f =>
      { f with again := f.again ++ [((s.incAt e).code, (s.incAt e).loc, (s.incAt e).detail, (s.closeInc e).clk.tick)] }
    else s.closeInc e := if_pos h

theorem State.Sound.doClose_outcome {s : State} (hs : s.Sound) {e : Nat} (he : e < s.fau.inc.length) (hopen : (s.incAt e).st = .opened) :
    (s.doClose e).incAt e = (s.incAt e).ended s.nowT48 ∧
    (s.doClose e).fau.again = (if (s.incAt e).lasting then
      s.fau.again ++ [((s.incAt e).code, (s.incAt e).loc, (s.incAt e).detail, s.clk.tick)] else s.fau.again) ∧
    (∀ q, q ≠ e → (s.doClose e).incAt q = s.incAt q) ∧ s.sameRegs (s.doClose e) [F.FAU_STAT] := by
  obtain ⟨hfau, -, hregs, hkept⟩ := hs.closeInc_outcome e
  have hinc : (s.doClose e).fau.inc = (s.onInc e fun x => x.ended s.nowT48).fau.inc := by
    rw [State.doClose_opened hopen, ← hfau]
    split <;> rfl
  have hat (q : Nat) : (s.doClose e).incAt q = (s.onInc e fun x => x.ended s.nowT48).incAt q := by
    rw [State.incAt, hinc, State.incAt]
  have hagain : (s.closeInc e).fau.again = s.fau.again := (congrArg Fau.again hfau :)
  refine ⟨(hat e).trans (State.incAt_onInc he _), ?_, fun q hq => (hat q).trans (s.incAt_onInc_ne hq _), fun b hb => ?_⟩
  · rw [State.doClose_opened hopen]
    split
    · rw [hkept.clk rfl]
      exact congrArg (· ++ _) hagain
    · exact hagain
  · have hclosed : (s.closeInc e).regGet b = s.regGet b := hregs b fun h => hb (by split at h <;> simp_all)
    rw [State.doClose_opened hopen]
    split
    · exact hclosed
    · exact hclosed

theorem State.doHoldExpiry_held {s : State} {e : Nat} (hopen : (s.incAt e).st = .opened) (h : (s.incAt e).held = true) :
    s.doHoldExpiry e = (s.toTick ((s.incAt e).openTick + 2)).onInc e fun x => { x with held := false, pending := true } :=
  if_pos ⟨hopen, h⟩

theorem State.doHoldExpiry_other {s : State} {e : Nat} (h : (s.incAt e).st ≠ .opened ∨ (s.incAt e).held = false) :
    s.doHoldExpiry e = s := by
  refine if_neg fun g => h.elim (fun ho => ho g.1) fun hh => ?_
  rw [hh] at g
  cases g.2

/-- An incident's 10 ms may run out: its condition is over, and the overflow incident has a free entry. -/
def State.mayEnd (s : State) (e : Nat) (cleared : Bool) : Prop :=
  ((cleared && ((s.incAt e).outer || !ownCondition (s.incAt e).code)) || !(s.incAt e).lasting) = true ∧
    (e ≠ 255 ∨ s.incAlloc.isSome = true)

theorem State.doCloseTimer_due {s : State} {e : Nat} {cleared : Bool} (hopen : (s.incAt e).st = .opened) (h : s.mayEnd e cleared) :
    s.doCloseTimer e cleared = (s.toTick ((s.incAt e).lastTick + 10)).closeInc e := if_pos ⟨hopen, h⟩

theorem State.doCloseTimer_other {s : State} {e : Nat} {cleared : Bool} (h : (s.incAt e).st = .opened → ¬ s.mayEnd e cleared) :
    s.doCloseTimer e cleared = s := if_neg fun g => h g.1 g.2

/-- The 10 ms that end an incident have passed. -/
theorem State.Sound.doCloseTimer_outcome {s : State} (hs : s.Sound) (hfs : 0 < s.clk.fs) (hlen : s.fau.inc.length = 256) {e : Nat}
    (he : e < 256) {cleared : Bool} (hopen : (s.incAt e).st = .opened) (h : s.mayEnd e cleared) :
    (s.doCloseTimer e cleared).incAt e = (s.incAt e).ended (s.doCloseTimer e cleared).nowT48 ∧
    (s.incAt e).lastTick + 10 ≤ (s.doCloseTimer e cleared).clk.tick ∧
    (∀ q, q ≠ e → (s.doCloseTimer e cleared).incAt q = s.incAt q) ∧
    (e = 255 → (s.doCloseTimer e cleared).rdB F.FAU_STAT_OVERFLOW = false) ∧
    s.sameRegs (s.doCloseTimer e cleared) (if e = 255 then [F.FAU_STAT] else []) := by
  obtain ⟨u, hu⟩ : ∃ u, u = s.toTick ((s.incAt e).lastTick + 10) := ⟨_, rfl⟩
  have huk : Kept 16 s u := hu ▸ State.toTick_kept s _ (hs.kept _) rfl
  have hfau : u.fau = s.fau := huk.fau rfl
  obtain ⟨hended, hover, hregs, hkept⟩ := huk.sound.closeInc_outcome e
  have hclk : (u.closeInc e).clk = u.clk := hkept.clk rfl
  have hnow : (u.closeInc e).nowT48 = u.nowT48 := by
    rw [State.nowT48, State.now, State.timeOf, hclk, hkept.tim rfl]
    rfl
  have hat (q : Nat) : u.incAt q = s.incAt q := State.incAt_of_fau hfau q
  rw [State.doCloseTimer_due hopen h, ← hu]
  refine ⟨?_, ?_, fun q hq => ?_, hover, fun b hb => (hregs b hb).trans ?_⟩
  · rw [hnow, State.incAt_of_fau hended, State.incAt_onInc (by rw [hfau]; omega), hat]
  · rw [hclk, hu]
    exact State.le_tick_toTick hfs _
  · rw [State.incAt_of_fau hended, u.incAt_onInc_ne hq, hat]
  · rw [State.regGet, State.regGet, huk.eq_withParts]
    rfl

/-! ### The host's commands (R421) -/

/-- The commands of FAU_CMD; ENTRY is taken from the written word. -/
def fauOps (w : Word) : List (Nat × (State → State)) := [(8, fun s => s.doClose (getField w 0 8)), (9, State.doPurgePrevious)]

theorem State.Working.hostWrite_fauCmd {s : State} (hs : s.Working) (p : Nat) (w : Word) :
    s.hostWrite p F.FAU_CMD w = s.accepted p fun u => u.commands w (fauOps w) := by
  obtain ⟨r, hr, hstore⟩ := hs.portStore_open p (a := F.FAU_CMD) (by decide +kernel) w
  have hb := base_of_baseOf (b := F.FAU_CMD) (by decide +kernel) hr
  rw [State.hostWrite, hstore]
  refine congrArg (s.accepted p) (funext fun u => ?_)
  rw [State.writeReg, State.writeMgt, State.writeFront, State.writeCore, State.writeLink, hb]
  rfl

/-- A write of FAU_CMD.CLOSE names its entry. -/
theorem State.Working.close_eq {s : State} (hs : s.Working) (p : Nat) {e : Nat} (he : e < 256) :
    s.hostWrite p F.FAU_CMD (BitVec.ofNat 32 (256 + e)) = s.accepted p fun u => u.doClose e := by
  have hnum : (BitVec.ofNat 32 (256 + e)).toNat = 256 + e := Nat.mod_eq_of_lt (by omega)
  have hentry : getField (BitVec.ofNat 32 (256 + e)) 0 8 = e := by
    rw [getField, hnum]
    omega
  have hclose : (256 + e).testBit 8 = true := by
    rw [Nat.testBit_eq_decide_div_mod_eq, decide_eq_true_eq]
    omega
  have hpurge : (256 + e).testBit 9 = false := by
    rw [Nat.testBit_eq_decide_div_mod_eq, decide_eq_false_iff_not]
    omega
  rw [hs.hostWrite_fauCmd]
  refine congrArg (s.accepted p) (funext fun u => ?_)
  rw [fauOps, State.commands_cons, hnum, hclose, hentry, if_pos rfl, State.commands_of_clear _ (by simp [hnum, hpurge])]

theorem State.Working.purge_eq {s : State} (hs : s.Working) (p : Nat) :
    s.hostBit p F.FAU_CMD_PURGE_PREVIOUS 0 = s.accepted p State.doPurgePrevious := by
  have hbit : s.hostBit p F.FAU_CMD_PURGE_PREVIOUS 0 = s.hostWrite p F.FAU_CMD (setField (s.shown F.FAU_CMD) 9 1 1) := rfl
  have hwo : ∀ x ∈ [8, 9], woBit F.FAU_CMD x = true := by decide +kernel
  rw [hbit, hs.hostWrite_fauCmd]
  refine congrArg (s.accepted p) (funext fun u => u.commands_of_one (k := 9) (fun x hx => ?_) (by simp [fauOps]) (.tail _ (.head _)))
  refine s.testBit_cmdWord (hwo x.1 ?_) (by decide)
  exact List.mem_map_of_mem (f := Prod.fst) hx

end Sys2Proof.Machine

open Sys2Proof Sys2Proof.Machine

/-- Settles O26, clause by clause: a report with none open makes the one entry that the next report of its root finds, and an end
changes its entry alone. -/
theorem incidents : Obligations.Incidents := by
  unfold Obligations.Incidents
  intro s hs hlen hfs
  have hsound := hs.sound
  refine ⟨fun code place detail l hl => ⟨fun hnone => ?_, fun e hok hopen halloc => ?_, fun e hok hroot hsame => ?_,
    fun r hok hroot => ?_⟩, fun e hopen hheld => ?_, fun e h => ?_, fun e cleared hopen hover hfree => ?_, fun e cleared h => ?_,
    fun p e hw hopen => ?_, fun p e hw hopen => ?_, fun p hw => ?_⟩
  · exact (hs.next_keeperDo fun s => s.doFaultReport code.toNat place.toNat detail.toNat).trans
      (congrArg _ (State.doFaultReport_none _ hnone place.isLt))
  · have hreport := State.doFaultReport_eq (s := s) hok place.isLt detail.isLt
    obtain ⟨n, due, hnew⟩ := hsound.openInc_alone (e := e) (c := code.toNat) (l := l) (d := detail.toNat) hopen
    rw [← hl, State.report_first hopen halloc, hnew] at hreport
    obtain ⟨hroot, hsame⟩ := State.openInc_same (c := code.toNat) (l := l) (d := detail.toNat) hlen hopen halloc due
    have hfau := hsound.incOpened_fau (e := e) (c := code.toNat) (l := l) (d := detail.toNat) n due
    have hnext := State.incOpened_nextId (e := e) (c := code.toNat) (l := l) (d := detail.toNat) hsound.regs n due
    have hlow := (LowKept.refl hsound.regs).openInc e code.toNat l detail.toNat
    rw [hnew] at hlow
    obtain ⟨u, hu⟩ : ∃ u, u = ((s.incOpened n e code.toNat l detail.toNat due).flag F.FAU_EVT 0).count 0x190 l 1 := ⟨_, rfl⟩
    rw [← hu] at hreport hfau hnext hlow
    rw [State.noteOuter_same ((State.rootFor_of_fau hfau _ _ _).trans hroot) ((State.sameRoot_of_fau hfau _ _ _).trans hsame)] at hreport
    have hentry := State.incAt_twice hfau (hlen ▸ Nat.lt_succ_of_lt (State.incAlloc_lt halloc)) fun x => { x with outer := true }
    refine ⟨_, (hs.next_keeperDo fun s => s.doFaultReport code.toNat place.toNat detail.toNat).trans (congrArg _ hreport), ?_⟩
    rw [hentry]
    refine ⟨rfl, rfl, rfl, rfl, rfl, rfl, rfl, rfl, rfl, rfl, fun q hq => State.incAt_twice_ne hfau hq _, ?_, ?_, ?_⟩
    · exact (State.rd_of_regs rfl _ _).trans hnext
    · intro b _ hb _
      exact hlow.low b hb
    · rw [← hreport]
      exact (State.doFaultReport_kept s _ _ _ (hsound.kept 518) rfl).eq_withParts
  · have hreport := State.doFaultReport_eq (s := s) hok place.isLt detail.isLt
    obtain ⟨he, hst, -, -⟩ := State.sameRoot_isOpen hsame
    obtain ⟨hroot', hsame'⟩ := State.report_same_again hlen hroot hsame
    rw [← hl, State.report_same hroot hsame, State.noteOuter_same hroot' hsame'] at hreport
    have hentry := State.incAt_twice (s := s) (e := e) (f := fun x => x.counted s code.toNat detail.toNat) rfl (by omega)
      fun x => { x with outer := true }
    refine ⟨_, (hs.next_keeperDo fun s => s.doFaultReport code.toNat place.toNat detail.toNat).trans (congrArg _ hreport), ?_⟩
    rw [hentry]
    refine ⟨rfl, rfl, rfl, hst, fun hc => if_neg hc, fun q hq => State.incAt_twice_ne (s := s)
      (f := fun x => x.counted s code.toNat detail.toNat) rfl hq _, rfl⟩
  · have hreport := State.doFaultReport_eq (s := s) hok place.isLt detail.isLt
    have hr := State.rootFor_lt hroot
    rw [← hl, State.report_root hroot, State.noteOuter_root (State.report_root_again hlen hroot)] at hreport
    refine ⟨_, (hs.next_keeperDo fun s => s.doFaultReport code.toNat place.toNat detail.toNat).trans (congrArg _ hreport), ?_,
      fun q hq => s.incAt_onInc_ne hq _, rfl⟩
    exact State.incAt_onInc (by omega) _
  · have hexpiry := State.doHoldExpiry_held hopen hheld
    have hfau : (s.toTick ((s.incAt e).openTick + 2)).fau = s.fau := by rw [s.toTick_only]
    refine ⟨_, (hs.next_keeperDo fun s => s.doHoldExpiry e).trans (congrArg _ hexpiry), ?_, State.le_tick_toTick hfs _,
      fun q hq => ?_, ?_⟩
    · rw [State.incAt_onInc (by rw [hfau]; omega), State.incAt_of_fau hfau]
    · rw [State.incAt_onInc_ne _ (fun h => hq (Fin.ext h)), State.incAt_of_fau hfau]
    · rw [← hexpiry]
      exact (State.doHoldExpiry_kept s e (hsound.kept 528) rfl).eq_withParts
  · exact (hs.next_keeperDo fun s => s.doHoldExpiry e).trans (congrArg _ (State.doHoldExpiry_other h))
  · have hmay : s.mayEnd e cleared := by
      refine ⟨?_, hfree.imp_right Option.isSome_iff_ne_none.2⟩
      rcases hover with ⟨hc, ho⟩ | hl
      · rcases ho with h | h <;> simp [hc, h]
      · simp [hl]
    obtain ⟨hended, htick, hothers, hflag, hregs⟩ := hsound.doCloseTimer_outcome hfs hlen e.isLt hopen hmay
    exact ⟨_, hs.next_keeperDo fun s => s.doCloseTimer e cleared, hended, htick, fun q hq => hothers q fun h => hq (Fin.ext h), hflag,
      hregs, (State.doCloseTimer_kept s e cleared (hsound.kept 532) rfl).eq_withParts⟩
  · refine (hs.next_keeperDo fun s => s.doCloseTimer e cleared).trans (congrArg _ (State.doCloseTimer_other fun hopen hmay => ?_))
    obtain ⟨hover, hfree⟩ := hmay
    rcases h with h | ⟨hl, hc⟩ | ⟨he, hnone⟩
    · exact h hopen
    · rcases hc with hc | ⟨ho, hown⟩
      · simp [hl, hc] at hover
      · simp [hl, ho, hown] at hover
    · rcases hfree with h | h
      · exact h he
      · rw [hnone] at h
        cases h
  · obtain ⟨hentry, hagain, hothers, hregs⟩ := hsound.drawn.doClose_outcome (e := e.val) (by exact hlen.symm ▸ e.isLt) hopen
    have hall : Kept 548 s.drawn (s.accepted p fun u => u.doClose e) :=
      State.accepted_kept rfl (State.doClose_kept s.drawn e (hsound.drawn.kept _) rfl)
    refine ⟨_, (hs.next_keeperDo fun s => s.hostWrite p F.FAU_CMD (BitVec.ofNat 32 (256 + e.val))).trans
      (congrArg _ (hw.close_eq p e.isLt)), hentry, hagain, fun q hq => hothers q fun h => hq (Fin.ext h), ?_, hall.eq_withParts⟩
    exact fun b hb => hregs b hb
  · refine (hs.next_keeperDo fun s => s.hostWrite p F.FAU_CMD (BitVec.ofNat 32 (256 + e.val))).trans (congrArg _ ?_)
    rw [hw.close_eq p e.isLt]
    exact State.accepted_of_drawn (State.doClose_other (s := s.drawn) hopen)
  · refine (hs.next_keeperDo fun s => s.hostBit p F.FAU_CMD_PURGE_PREVIOUS 0).trans (congrArg _ ?_)
    rw [hw.purge_eq p]
    rfl
end

section
/-! SUPPORT. A report of an incident is sent (R425 to R427). -/

namespace Sys2Proof.Machine

/-! ### Its time -/

/-- A later clock of the same module. -/
structure Clk.Later (c d : Clk) : Prop where
  tick : c.tick ≤ d.tick
  count : c.count ≤ d.count
  running : d.running = c.running

theorem Clk.Later.refl (c : Clk) : c.Later c := ⟨Nat.le_refl _, Nat.le_refl _, rfl⟩

theorem Clk.Later.trans {c d e : Clk} (h : c.Later d) (g : d.Later e) : c.Later e :=
  ⟨h.tick.trans g.tick, h.count.trans g.count, g.running.trans h.running⟩

theorem State.later_pass (s : State) (n : Nat) : s.clk.Later (s.pass n).clk := by
  refine ⟨Nat.le_add_right _ _, ?_, rfl⟩
  change s.clk.count ≤ if s.clk.running then s.clk.count + n else s.clk.count
  split <;> omega

theorem State.later_toCount (s : State) (n : Nat) : s.clk.Later (s.toCount n).clk := by
  unfold State.toCount
  split
  · exact s.later_pass _
  · exact .refl _

/-- The time of the next report: 2 us after the last. -/
def State.sendTime (s : State) : State :=
  match s.fau.lastSend with
  | some n => s.toCount (n + s.samplesUs 2)
  | none => s

theorem State.sendTime_clk (s : State) : ∃ c, s.sendTime = { s with clk := c } ∧ s.clk.Later c := by
  rw [State.sendTime]
  split
  · exact ⟨_, s.toCount_only _, s.later_toCount _⟩
  · exact ⟨_, rfl, .refl _⟩

/-! ### The report -/

/-- The entry of an incident whose report is sent. -/
def Incident.sent (x : Incident) (tick : Nat) : Incident := { x with pending := false, sentTick := some tick }

/-- The words of a report. -/
def Incident.report (x y : Incident) : List LWord := word64 [(56, 0x05), (52, 5), (50, x.event)] :: y.words

theorem Incident.report_length (x y : Incident) : (packetWords (x.report y)).length = 5 := rfl

/-- The report enters the queue of class 0. -/
def State.putIncident (s : State) (e : Nat) : State :=
  ((s.onInc e fun x => x.sent s.clk.tick).push 0 ((s.incAt e).report ((s.onInc e fun x => x.sent s.clk.tick).incAt e))).onFau
    fun f => { f with lastSend := some s.clk.count }

theorem State.sendIncident_eq (s : State) (e : Nat) : s.sendIncident e = s.sendTime.putIncident e := rfl

section
variable {s : State} (hs : s.Sound) {e : Nat} (he : e < s.fau.inc.length) (hblocked : (s.queue 0).blocked = [])
  (hroom : (s.queue 0).fill + 5 ≤ queueCap 0)
include hs he hblocked hroom

theorem State.Sound.putIncident_outcome : ∃ y, (s.putIncident e).incAt e = (s.incAt e).sent s.clk.tick ∧
    (∀ q, q ≠ e → (s.putIncident e).incAt q = s.incAt q) ∧
    ((s.putIncident e).queue 0).waiting = (s.queue 0).waiting ++ [y] ∧
    y.words = packetWords ((s.incAt e).report ((s.putIncident e).incAt e)) ∧ s.sameMain (s.putIncident e) [] ∧
    Kept 836 s (s.putIncident e) := by
  obtain ⟨u, hu⟩ : ∃ u, u = s.onInc e fun x => x.sent s.clk.tick := ⟨_, rfl⟩
  have huk : Kept 512 s u := hu ▸ State.onInc_kept s e _ (hs.kept _) rfl
  have hque : u.que = s.que := huk.queues rfl
  have hself : u.incAt e = (s.incAt e).sent s.clk.tick := by rw [hu, State.incAt_onInc he]
  obtain ⟨p, hp⟩ : ∃ p : Packet, p = { words := packetWords ((s.incAt e).report (u.incAt e)), at_ := u.clk.count } := ⟨_, rfl⟩
  have hput : s.putIncident e = (u.enqueue 0 p).onFau fun f => { f with lastSend := some s.clk.count } := by
    have hfits : (u.queue 0).blocked = [] ∧ (u.queue 0).fill + p.words.length ≤ queueCap 0 := by
      rw [State.queue_of_que s 0 hque, hp]
      exact ⟨hblocked, hroom⟩
    rw [State.putIncident, ← hu, State.push, State.pushPkt, ← hp, if_pos hfits]
  have henq : Kept 324 u (u.enqueue 0 p) := State.enqueue_kept u 0 p (huk.sound.kept _) rfl
  have hinc : (s.putIncident e).fau.inc = u.fau.inc := by
    rw [hput]
    exact (congrArg Fau.inc (henq.fau rfl) :)
  have hat (q : Nat) : (s.putIncident e).incAt q = u.incAt q := by rw [State.incAt, hinc, State.incAt]
  refine ⟨{ p with at_ := u.clk.count }, (hat e).trans hself, fun q hq => (hat q).trans (hu ▸ s.incAt_onInc_ne hq _), ?_, ?_, ?_, ?_⟩
  · rw [hput]
    refine (State.waiting_enqueue (s := u) (q := 0) p (by rw [hque, hs.que]; decide)).trans ?_
    rw [State.queue_of_que s 0 hque]
  · rw [hat, hp]
  · have hfields : FieldsKept [] s (u.enqueue 0 p) :=
      ((FieldsKept.refl hs.regs []).congr (u := u) (hu ▸ rfl)).enqueue (by decide) p
    rw [hput]
    exact (hfields.congr rfl).sameMain
  · rw [hput]
    exact State.onFau_kept _ _ ((huk.mono (m' := 836) rfl).trans (henq.mono rfl)) rfl

theorem State.Sound.sendIncident_outcome {u : State} {c : Clk} (hu : u = { s with clk := c }) : ∃ y,
    (u.sendIncident e).incAt e = (s.incAt e).sent (u.sendIncident e).clk.tick ∧ c.Later (u.sendIncident e).clk ∧
    (∀ q, q ≠ e → (u.sendIncident e).incAt q = s.incAt q) ∧
    ((u.sendIncident e).queue 0).waiting = (s.queue 0).waiting ++ [y] ∧
    y.words = packetWords ((s.incAt e).report ((u.sendIncident e).incAt e)) ∧ s.sameMain (u.sendIncident e) [] ∧
    Kept 852 s (u.sendIncident e) := by
  subst hu
  obtain ⟨d, hd, hlate⟩ := State.sendTime_clk { s with clk := c }
  have hclk : Kept 16 s { s with clk := d } := (hs.kept 16).congr (K := 16) rfl rfl rfl rfl rfl rfl rfl rfl rfl
  obtain ⟨y, hself, hothers, hqueue, hwords, hmain, hkept⟩ := hclk.sound.putIncident_outcome he hblocked hroom
  have hsend : ({ s with clk := c } : State).sendIncident e = State.putIncident { s with clk := d } e := by
    rw [State.sendIncident_eq, hd]
  have hnow : (State.putIncident { s with clk := d } e).clk = d := hkept.clk rfl
  rw [hsend]
  refine ⟨y, ?_, ?_, hothers, hqueue, hwords, hmain, (hclk.mono rfl).trans (hkept.mono rfl)⟩
  · rw [hself, hnow]
    rfl
  · rw [hnow]
    exact hlate

end

/-! ### The commands -/

/-- The time of a further report: 100 ms after the incident's last one. -/
def State.repeatTime (s : State) (e : Nat) : State :=
  match (s.incAt e).sentTick with
  | some t => s.toTick (t + 100)
  | none => s

theorem State.repeatTime_clk (s : State) (e : Nat) : ∃ c, s.repeatTime e = { s with clk := c } ∧
    (0 < s.clk.fs → ∀ n, (s.incAt e).sentTick = some n → n + 100 ≤ c.tick) := by
  rw [State.repeatTime]
  cases (s.incAt e).sentTick with
  | none => exact ⟨_, rfl, fun _ n hn => by cases hn⟩
  | some n =>
    refine ⟨_, s.toTick_only _, fun hfs m hm => ?_⟩
    cases hm
    exact State.le_tick_toTick hfs _

theorem State.doReportSend_due {s : State} {e : Nat} (hpending : (s.incAt e).pending = true) (hheld : (s.incAt e).held = false)
    (hmay : s.mayReport = true) (hfirst : (s.incAt e).station = false ∨ (s.incAt e).sentTick ≠ none) :
    s.doReportSend e = (s.repeatTime e).sendIncident e := by
  refine if_pos ?_
  rw [hpending, hheld, hmay]
  rcases hfirst with h | h
  · rw [h]
    rfl
  · rw [Option.isSome_iff_ne_none.2 h, Bool.or_true]
    rfl

theorem State.doReportSend_other {s : State} {e : Nat} (h : (s.incAt e).pending = false ∨ s.mayReport = false ∨
    ((s.incAt e).station = true ∧ (s.incAt e).sentTick = none)) : s.doReportSend e = s := by
  refine if_neg fun g => ?_
  simp only [Bool.and_eq_true, Bool.or_eq_true, Bool.not_eq_true'] at g
  obtain ⟨⟨⟨hpending, -⟩, hmay⟩, hfirst⟩ := g
  rcases h with h | h | ⟨hst, hlast⟩
  · rw [h] at hpending
    cases hpending
  · rw [h] at hmay
    cases hmay
  · rw [hst, hlast] at hfirst
    simp at hfirst

theorem State.doStationReport_due {s : State} {e : Nat} (hpending : (s.incAt e).pending = true) (hst : (s.incAt e).station = true)
    (hmay : s.mayReport = true) (hfirst : (s.incAt e).sentTick = none) :
    s.doStationReport e = (s.toCount (s.countAt ((s.incAt e).dueNs * 65536 : Nat))).sendIncident e := by
  refine if_pos ?_
  rw [hpending, hst, hmay, hfirst]
  rfl

theorem State.doStationReport_other {s : State} {e : Nat} (h : (s.incAt e).pending = false ∨ s.mayReport = false ∨
    (s.incAt e).station = false ∨ (s.incAt e).sentTick ≠ none) : s.doStationReport e = s := by
  refine if_neg fun g => ?_
  simp only [Bool.and_eq_true, Option.isNone_iff_eq_none] at g
  obtain ⟨⟨⟨hpending, hst⟩, hlast⟩, hmay⟩ := g
  rcases h with h | h | h | h
  · rw [h] at hpending
    cases hpending
  · rw [h] at hmay
    cases hmay
  · rw [h] at hst
    cases hst
  · exact h hlast

end Sys2Proof.Machine

open Sys2Proof Sys2Proof.Machine

/-- Settles O27: both commands wait for their time and then put the entry's words into the queue of class 0. -/
theorem incidentReports : Obligations.IncidentReports := by
  unfold Obligations.IncidentReports
  rintro s e x hs hlen hfs rfl
  have hsound := hs.sound
  have he : e.val < s.fau.inc.length := hlen.symm ▸ e.isLt
  have hsend := hs.next_cxDo fun s => s.doReportSend e
  have hstation := hs.next_cxDo fun s => s.doStationReport e
  refine ⟨fun hpending hmay hblocked hroom => ⟨fun hheld hfirst => ?_, fun hst hfirst => ?_⟩, fun h => ⟨?_, ?_⟩, fun hst hfirst => ?_,
    fun h => ?_⟩
  · have hdue := State.doReportSend_due hpending hheld hmay hfirst
    obtain ⟨c, hc, htick⟩ := s.repeatTime_clk e
    obtain ⟨y, hself, hlate, hothers, hqueue, hwords, hmain, hkept⟩ := hsound.sendIncident_outcome he hblocked hroom hc
    exact ⟨_, y, hsend.trans (congrArg _ hdue), hself, fun n hn => (htick hfs n hn).trans hlate.tick,
      fun q hq => hothers q fun h => hq (Fin.ext h), hqueue, hwords, hmain, hkept.eq_withParts⟩
  · have hdue := State.doStationReport_due hpending hst hmay hfirst
    obtain ⟨y, hself, hlate, hothers, hqueue, hwords, hmain, hkept⟩ := hsound.sendIncident_outcome he hblocked hroom
      (s.toCount_only (s.countAt ((s.incAt e).dueNs * 65536 : Nat)))
    refine ⟨_, y, hstation.trans (congrArg _ hdue), hself, fun hrun => ?_,
      fun q hq => hothers q fun h => hq (Fin.ext h), hqueue, hwords, hmain, hkept.eq_withParts⟩
    exact (Nat.le_max_right _ _).trans (Nat.le_of_eq (State.toCount_count hrun _).symm |>.trans hlate.count)
  · exact hsend.trans (congrArg _ (State.doReportSend_other (h.imp_right .inl)))
  · exact hstation.trans (congrArg _ (State.doStationReport_other (h.imp_right .inl)))
  · exact hsend.trans (congrArg _ (State.doReportSend_other (.inr (.inr ⟨hst, hfirst⟩))))
  · exact hstation.trans (congrArg _ (State.doStationReport_other (.inr (.inr h))))
end

section
/-! SUPPORT. A tagged block whose packet still waits in its class 2 sub-queue (R448). -/

namespace Sys2Proof.Machine

/-- A module at work with a tagged block of channel 0 in flight, whose packet is the only one of sub-queue 0 and has not begun. -/
def waitingBlock : State :=
  { start := { booted := true }, plane := { cxOn := true }, pmc := { tags := [{}] }
    que := (List.replicate 12 {}).set 4 { waiting := [{ words := [0] }] } }

theorem waitingBlock_working : waitingBlock.Working := ⟨⟨by decide +kernel, rfl, rfl, rfl, rfl, rfl, rfl⟩, rfl, rfl⟩

/-- The record of a block that has not reached point 9 is not made. -/
theorem waitingBlock_record (offsets : List (Option Nat)) : waitingBlock.doTracerRecord 0 offsets = waitingBlock := rfl

end Sys2Proof.Machine

open Sys2Proof Sys2Proof.Machine

/-- Refutes O32: its clause on the tracer says that the record of every tagged block enters class 3, but a block whose packet still
waits whole in the encoder or in its class 2 sub-queue has not reached point 9, and its tag stays (R448). A premise that the block
was discarded or does not wait (State.tagWaits) would exclude it. -/
theorem not_counting : ¬ Obligations.Counting := by
  intro h
  have hw := waitingBlock_working
  obtain ⟨-, -, -, -, -, -, -, hrecord, -⟩ := h waitingBlock hw
  obtain ⟨t, y, hexec, hpmc, -⟩ := hrecord 0 {} [] rfl rfl (by decide +kernel)
  have ht : waitingBlock.doTracerRecord 0 [] = t :=
    Host.Outcome.next.inj ((hw.next_cxDo fun s => s.doTracerRecord 0 []).symm.trans hexec)
  rw [waitingBlock_record] at ht
  have htags : waitingBlock.pmc.tags = waitingBlock.pmc.tags.eraseIdx 0 := by
    conv_lhs => rw [ht, hpmc]
  exact absurd htags (by decide)
end

section
/-! SUPPORT. Ranges and the auto-ranger's steps (R76 to R85). -/

namespace Sys2Proof.Machine

/-! ### The boundary of a change (R76, R80, R81) -/

theorem State.boundary_rangeBoundary (s : State) (ch : Nat) {n k : Nat} (hk : k % 64 = 0 ∧ n ≤ k) :
    s.rangeBoundary ch k % 64 = 0 ∧ n ≤ s.rangeBoundary ch k := by
  obtain ⟨hmod, hle⟩ := s.boundary_clearOfInject ch hk
  unfold State.rangeBoundary
  dsimp only
  split
  · split
    · refine s.boundary_clearOfInject ch ⟨?_, ?_⟩
      · exact Nat.mod_eq_zero_of_dvd (Dvd.dvd.mul_left (Nat.dvd_mul_right 64 _) _)
      · have hpos : 0 < 64 * s.decimOf ch := Nat.mul_pos (by decide) (Nat.two_pow_pos _)
        have hnext := Nat.lt_div_mul_add hpos (a := s.clearOfInject ch k)
        rw [Nat.succ_mul]
        omega
    · exact ⟨hmod, hle⟩
  · exact ⟨hmod, hle⟩

theorem State.rangeCount_bounds (s : State) (ch n : Nat) : s.rangeCount ch n % 64 = 0 ∧ n + 32 ≤ s.rangeCount ch n := by
  obtain ⟨hmod, hle, -⟩ := boundaryAfter_bounds (m := 64) (by decide) n
  exact s.boundary_rangeBoundary ch ⟨hmod, hle⟩

/-! ### A change is scheduled (R77, R81) -/

/-- Does a new change of a channel wait for no count: one is pending, the channel takes no samples, or Rehearsal runs? -/
def State.holdsRange (s : State) (ch : Nat) : Bool :=
  (s.chan ch).rangeAt.isSome || (s.chan ch).since.isNone || s.rehearsing (regionOf ch)

theorem State.scheduleRange_eq (s : State) (ch code n : Nat) : ∃ nc, nc % 64 = 0 ∧ n + 32 ≤ nc ∧ s.scheduleRange ch code n =
    if s.holdsRange ch then (s.wr F.AFE_RANGE_RANGE ch code).wr F.AFE_RANGE_PENDING ch 1
    else ((s.wr F.AFE_RANGE_RANGE ch code).wr F.AFE_RANGE_PENDING ch 1).onChan ch fun c => { c with rangeAt := some nc } :=
  ⟨_, (State.rangeCount_bounds ..).1, (State.rangeCount_bounds ..).2, rfl⟩

section
variable {s : State} (hs : s.Sound) {ch : Nat} (hch : ch < 64)
include hs

/-- RANGE shows the code, and PENDING is set. -/
theorem State.Sound.scheduleRange_fields {code : Nat} (hcode : code < 16) (n : Nat) :
    (s.scheduleRange ch code n).rd F.AFE_RANGE_RANGE ch = code ∧ (s.scheduleRange ch code n).rdB F.AFE_RANGE_PENDING ch = true ∧
    OnlyFields [(F.AFE_RANGE_RANGE, ch), (F.AFE_RANGE_PENDING, ch)] s (s.scheduleRange ch code n) := by
  obtain ⟨nc, -, -, h⟩ := s.scheduleRange_eq ch code n
  have hregs : (s.scheduleRange ch code n).regs = ((s.wr F.AFE_RANGE_RANGE ch code).wr F.AFE_RANGE_PENDING ch 1).regs := by
    rw [h]
    split <;> rfl
  have hrange := State.wf_wr hs.regs F.AFE_RANGE_RANGE ch code
  refine ⟨?_, ?_, (((OnlyFields.refl hs.regs _).wr (.head _) _).wr (.tail _ (.head _)) _).congr hregs⟩
  · rw [State.rd_of_regs hregs, State.rd_wr_ne hrange _ _ _ _ _ (.inr (by decide)), State.rd_wr hs.regs _ _ _ (by decide)]
    exact Nat.mod_eq_of_lt hcode
  · rw [State.rdB, State.rd_of_regs hregs, State.rd_wr hrange _ _ _ (by decide)]
    rfl

include hch

theorem State.Sound.scheduleRange_chan (code n : Nat) : ∃ at_, (s.scheduleRange ch code n).chan ch = { s.chan ch with rangeAt := at_ } ∧
    (s.holdsRange ch = false → ∃ nc, at_ = some nc ∧ nc % 64 = 0 ∧ n + 32 ≤ nc) ∧
    ∀ q, q ≠ ch → (s.scheduleRange ch code n).chan q = s.chan q := by
  obtain ⟨nc, hmod, hle, h⟩ := s.scheduleRange_eq ch code n
  rw [h]
  split
  · next hhold => exact ⟨_, rfl, fun hfree => (Bool.false_ne_true (hfree.symm.trans hhold)).elim, fun _ _ => rfl⟩
  · exact ⟨some nc, State.chan_onChan (hs.chans.symm ▸ hch) _, fun _ => ⟨nc, rfl, hmod, hle⟩, fun q hq => State.chan_onChan_ne _ hq _⟩

end

/-! ### A write of AFE_RANGE (R77, R84) -/

/-- The auto-ranger's fields of a write are stored, and its window starts anew. -/
def State.rangeStored (s : State) (ch : Nat) (w : Word) : State :=
  (((s.wr F.AFE_RANGE_AR_MIN ch (getField w 8 4)).wr F.AFE_RANGE_AR_MAX ch (getField w 12 4)).wr F.AFE_RANGE_AR_EN ch
    (getField w 16 1)).autoReset ch

def rangeFields (ch : Nat) : List RegField :=
  [(F.AFE_RANGE_RANGE, ch), (F.AFE_RANGE_PENDING, ch), (F.AFE_RANGE_AR_MIN, ch), (F.AFE_RANGE_AR_MAX, ch), (F.AFE_RANGE_AR_EN, ch)]

theorem State.doRangeWrite_refused {s : State} {ch : Nat} {w : Word} (ns : Nat) (h : getField w 12 4 < getField w 8 4) :
    s.doRangeWrite ch w ns = s.configFault (s.locUnit ch) (F.AFE_RANGE + 4 * ch) := if_pos h

theorem State.doRangeWrite_stored {s : State} {ch : Nat} {w : Word} (ns : Nat) (h : getField w 8 4 ≤ getField w 12 4) :
    s.doRangeWrite ch w ns = if getField w 0 4 = (s.rangeStored ch w).rd F.AFE_RANGE_RANGE ch then s.rangeStored ch w
      else (s.rangeStored ch w).scheduleRange ch (getField w 0 4) ((s.rangeStored ch w).reach ns) := if_neg (Nat.not_lt.2 h)

section
variable {s : State} (hs : s.Sound) {ch : Nat} (hch : ch < 64)
include hs

theorem State.Sound.rangeStored_fields (w : Word) :
    (s.rangeStored ch w).rd F.AFE_RANGE_AR_MIN ch = getField w 8 4 ∧ (s.rangeStored ch w).rd F.AFE_RANGE_AR_MAX ch = getField w 12 4 ∧
    (s.rangeStored ch w).rd F.AFE_RANGE_AR_EN ch = getField w 16 1 ∧
    OnlyFields [(F.AFE_RANGE_AR_MIN, ch), (F.AFE_RANGE_AR_MAX, ch), (F.AFE_RANGE_AR_EN, ch)] s (s.rangeStored ch w) := by
  have hmin := State.wf_wr hs.regs F.AFE_RANGE_AR_MIN ch (getField w 8 4)
  have hmax := State.wf_wr hmin F.AFE_RANGE_AR_MAX ch (getField w 12 4)
  have hregs : (s.rangeStored ch w).regs = (((s.wr F.AFE_RANGE_AR_MIN ch (getField w 8 4)).wr F.AFE_RANGE_AR_MAX ch
    (getField w 12 4)).wr F.AFE_RANGE_AR_EN ch (getField w 16 1)).regs := rfl
  refine ⟨?_, ?_, ?_, ((((OnlyFields.refl hs.regs _).wr (.head _) _).wr (.tail _ (.head _)) _).wr (.tail _ (.tail _ (.head _))) _).congr
    hregs⟩
  · rw [State.rd_of_regs hregs, State.rd_wr_ne hmax _ _ _ _ _ (.inr (by decide)), State.rd_wr_ne hmin _ _ _ _ _ (.inr (by decide)),
      State.rd_wr hs.regs _ _ _ (by decide)]
    exact Nat.mod_eq_of_lt (getField_lt _ _ _)
  · rw [State.rd_of_regs hregs, State.rd_wr_ne hmax _ _ _ _ _ (.inr (by decide)), State.rd_wr hmin _ _ _ (by decide)]
    exact Nat.mod_eq_of_lt (getField_lt _ _ _)
  · rw [State.rd_of_regs hregs, State.rd_wr hmax _ _ _ (by decide)]
    exact Nat.mod_eq_of_lt (getField_lt _ _ _)

theorem State.Sound.rangeStored_kept (w : Word) : Kept 16388 s (s.rangeStored ch w) :=
  State.autoReset_kept _ _ (State.wr_kept _ _ _ _ (State.wr_kept _ _ _ _ (State.wr_kept _ _ _ _ (hs.kept _) rfl) rfl) rfl) rfl

/-- What a stored write shows; RANGE and PENDING as the code is another one or not. -/
structure State.RangeWritten (s t : State) (ch : Nat) (w : Word) : Prop where
  range : t.rd F.AFE_RANGE_RANGE ch = getField w 0 4
  least : t.rd F.AFE_RANGE_AR_MIN ch = getField w 8 4
  most : t.rd F.AFE_RANGE_AR_MAX ch = getField w 12 4
  enable : t.rd F.AFE_RANGE_AR_EN ch = getField w 16 1
  age : (t.chan ch).age = 0
  same : getField w 0 4 = s.rd F.AFE_RANGE_RANGE ch →
    (t.chan ch).rangeAt = (s.chan ch).rangeAt ∧ t.rd F.AFE_RANGE_PENDING ch = s.rd F.AFE_RANGE_PENDING ch
  pending : getField w 0 4 ≠ s.rd F.AFE_RANGE_RANGE ch → t.rdB F.AFE_RANGE_PENDING ch = true
  count : getField w 0 4 ≠ s.rd F.AFE_RANGE_RANGE ch → s.holdsRange ch = false →
    ∃ n, (t.chan ch).rangeAt = some n ∧ n % 64 = 0 ∧ s.clk.count + 32 ≤ n
  fields : OnlyFields (rangeFields ch) s t
  kept : Kept 16388 s t

include hch

theorem State.Sound.doRangeWrite_written {w : Word} (ns : Nat) (h : getField w 8 4 ≤ getField w 12 4) :
    State.RangeWritten s (s.doRangeWrite ch w ns) ch w := by
  obtain ⟨u, hu⟩ : ∃ u, u = s.rangeStored ch w := ⟨_, rfl⟩
  obtain ⟨hmin, hmax, hen, hfields⟩ := hs.rangeStored_fields (ch := ch) w
  have hkept := hs.rangeStored_kept (ch := ch) w
  have hchan : u.chan ch = { s.chan ch with age := 0, hot := false, quiet := true, arDue := none } := by
    rw [hu]
    exact State.chan_onChan (hs.chans.symm ▸ hch) _
  have hclk : u.clk = s.clk := hu ▸ hkept.clk rfl
  have hadc : u.adc = s.adc := hu ▸ hkept.adc rfl
  have hrange : u.rd F.AFE_RANGE_RANGE ch = s.rd F.AFE_RANGE_RANGE ch := hu ▸ hfields.same (F.AFE_RANGE_RANGE, ch) (by simp [FieldsApart])
  have hpend : u.rd F.AFE_RANGE_PENDING ch = s.rd F.AFE_RANGE_PENDING ch :=
    hu ▸ hfields.same (F.AFE_RANGE_PENDING, ch) (by simp [FieldsApart])
  rw [State.doRangeWrite_stored ns h, ← hu, hrange]
  rw [← hu] at hmin hmax hen hfields hkept
  split
  · next hcode =>
    exact ⟨hrange.trans hcode.symm, hmin, hmax, hen, by rw [hchan], fun _ => ⟨by rw [hchan], hpend⟩, fun g => absurd hcode g,
      fun g => absurd hcode g, hfields.mono (by simp [rangeFields]), hkept⟩
  · next hcode =>
    obtain ⟨hshown, hset, hother⟩ := hkept.sound.scheduleRange_fields (ch := ch) (code := getField w 0 4) (getField_lt _ _ _) (u.reach ns)
    obtain ⟨at_, hat, hcount, -⟩ := hkept.sound.scheduleRange_chan hch (getField w 0 4) (u.reach ns)
    refine ⟨hshown, ?_, ?_, ?_, ?_, fun g => absurd g hcode, fun _ => hset, fun _ hfree => ?_, ?_,
      State.scheduleRange_kept u ch _ _ hkept rfl⟩
    · exact (hother.same (F.AFE_RANGE_AR_MIN, ch) (by simp [FieldsApart])).trans hmin
    · exact (hother.same (F.AFE_RANGE_AR_MAX, ch) (by simp [FieldsApart])).trans hmax
    · exact (hother.same (F.AFE_RANGE_AR_EN, ch) (by simp [FieldsApart])).trans hen
    · rw [hat, hchan]
    · have hholds : u.holdsRange ch = s.holdsRange ch := by
        rw [State.holdsRange, hchan, State.rehearsing, hadc]
        rfl
      obtain ⟨n, hn, hmod, hle⟩ := hcount (hholds.trans hfree)
      refine ⟨n, by rw [hat, hn], hmod, ?_⟩
      have hreach : u.clk.count ≤ u.reach ns := Nat.le_add_right _ _
      rw [hclk] at hreach
      omega
    · exact (hfields.mono (by simp [rangeFields])).trans (hother.mono (by simp [rangeFields]))

end

/-! ### The change takes effect (R76) -/

/-- A channel whose requested range is in force from count n on. -/
def Chan.ranged (c : Chan) (n new : Nat) : Chan :=
  { c with range := new, rangeAt := none, ranges := (n, new) :: (if c.ranges.isEmpty then [(0, c.range)] else c.ranges) }

theorem State.doRangeApply_due {s : State} {ch n : Nat} (h : (s.chan ch).rangeAt = some n) :
    s.doRangeApply ch = (s.toCount n).applyRange ch n := by rw [State.doRangeApply, h]

theorem State.Sound.applyRange_outcome {s : State} (hs : s.Sound) {ch : Nat} (hch : ch < 64) (n : Nat) :
    ((s.applyRange ch n).chan ch).range = s.rd F.AFE_RANGE_RANGE ch ∧ ((s.applyRange ch n).chan ch).rangeAt = none ∧
    (s.applyRange ch n).rdB F.AFE_RANGE_PENDING ch = false ∧
    ({ kind := .rangeSettle, a := n, b := n + 15, f := s.firHalf ch } : Span) ∈ ((s.applyRange ch n).chan ch).spans ∧
    (∀ q, q ≠ ch → (s.applyRange ch n).chan q = s.chan q) ∧ s.sameRegs (s.applyRange ch n) [F.AFE_RANGE_RANGE.addr ch] := by
  obtain ⟨u, hu⟩ : ∃ u, u = (s.onChan ch fun c => c.ranged n (s.rd F.AFE_RANGE_RANGE ch)).mark ch
    { kind := .rangeChg, a := n, b := n, f := s.firHalf ch } := ⟨_, rfl⟩
  have hlen : ch < u.chans.length := by
    rw [hu, State.mark, State.length_chans_onChan, State.length_chans_onChan, hs.chans]
    exact hch
  have hranged : ∃ l, u.chan ch = { (s.chan ch).ranged n (s.rd F.AFE_RANGE_RANGE ch) with spans := l } := by
    rw [hu, State.mark, State.chan_onChan (by rw [State.length_chans_onChan, hs.chans]; exact hch),
      State.chan_onChan (hs.chans.symm ▸ hch)]
    exact ⟨_, rfl⟩
  have hmark := State.chan_onChan hlen fun c =>
    { c with spans := ({ kind := .rangeSettle, a := n, b := n + 15, f := s.firHalf ch } : Span) :: c.spans }
  have hregs : u.regs = s.regs := by rw [hu]; rfl
  have happly : s.applyRange ch n = (u.mark ch { kind := .rangeSettle, a := n, b := n + 15, f := s.firHalf ch }).wr F.AFE_RANGE_PENDING ch 0 := by
    rw [hu]
    rfl
  obtain ⟨l, hl⟩ := hranged
  have hchan : (s.applyRange ch n).chan ch =
      { u.chan ch with spans := { kind := .rangeSettle, a := n, b := n + 15, f := s.firHalf ch } :: (u.chan ch).spans } := by
    rw [happly]
    exact hmark
  have hwf : tableWf coldWord (u.mark ch { kind := .rangeSettle, a := n, b := n + 15, f := s.firHalf ch }).regs = true :=
    hregs ▸ hs.regs
  refine ⟨?_, ?_, ?_, ?_, fun q hq => ?_, ?_⟩
  · rw [hchan, hl]
    rfl
  · rw [hchan, hl]
    rfl
  · rw [happly, State.rdB, State.rd_wr hwf _ _ _ (by decide)]
    rfl
  · rw [hchan]
    exact .head _
  · rw [happly]
    refine (State.chan_onChan_ne u hq _).trans ?_
    rw [hu]
    exact (State.chan_onChan_ne _ hq _).trans (State.chan_onChan_ne _ hq _)
  · rw [happly]
    refine State.sameRegs.trans (State.sameRegs_of_regs ?_ _) (State.sameRegs_wr hwf F.AFE_RANGE_PENDING ch 0)
    exact hregs

/-! ### The auto-ranger's decision (R84) -/

/-- The code that the decision of a dwell window leads to. -/
def State.rangeStep (s : State) (ch : Nat) : Nat :=
  if (s.chan ch).hot = true ∧ s.rd F.AFE_RANGE_RANGE ch < s.rd F.AFE_RANGE_AR_MAX ch then s.rd F.AFE_RANGE_RANGE ch + 1
  else if (s.chan ch).hot = false ∧ (s.chan ch).quiet = true ∧ s.rd F.AFE_RANGE_AR_MIN ch < s.rd F.AFE_RANGE_RANGE ch then
    s.rd F.AFE_RANGE_RANGE ch - 1
  else s.rd F.AFE_RANGE_RANGE ch

/-- A decision schedules its step, or leaves the range. -/
theorem State.doAutoRange_due {s : State} {ch n : Nat} (hen : s.rdB F.AFE_RANGE_AR_EN ch = true)
    (hreh : s.rehearsing (regionOf ch) = false) (hdue : (s.chan ch).arDue = some n) :
    (s.rangeStep ch < 16 ∧ s.doAutoRange ch = (s.scheduleRange ch (s.rangeStep ch) n).autoReset ch) ∨
    (s.rangeStep ch = s.rd F.AFE_RANGE_RANGE ch ∧ s.doAutoRange ch = s.autoReset ch) := by
  have hrange : s.rd F.AFE_RANGE_RANGE ch < 2 ^ 4 := getField_lt _ _ _
  have hmax : s.rd F.AFE_RANGE_AR_MAX ch < 2 ^ 4 := getField_lt _ _ _
  rw [State.doAutoRange]
  dsimp only
  rw [hdue, hen, hreh, State.rangeStep]
  simp only [Bool.and_eq_true, decide_eq_true_eq, Bool.not_eq_true', Bool.not_false, and_self, if_true, and_assoc]
  split
  · exact .inl ⟨by omega, rfl⟩
  · split
    · exact .inl ⟨by omega, rfl⟩
    · exact .inr ⟨rfl, rfl⟩

theorem State.Sound.doAutoRange_outcome {s : State} (hs : s.Sound) {ch n : Nat} (hch : ch < 64)
    (hen : s.rdB F.AFE_RANGE_AR_EN ch = true) (hreh : s.rehearsing (regionOf ch) = false) (hdue : (s.chan ch).arDue = some n) :
    ((s.doAutoRange ch).chan ch).age = 0 ∧ (s.doAutoRange ch).rd F.AFE_RANGE_RANGE ch = s.rangeStep ch ∧
    (∀ q, q ≠ ch → (s.doAutoRange ch).chan q = s.chan q) ∧ s.sameRegs (s.doAutoRange ch) [F.AFE_RANGE_RANGE.addr ch] := by
  have hage {u : State} (hu : u.Sound) : ((u.autoReset ch).chan ch).age = 0 := by
    rw [State.autoReset, State.chan_onChan (hu.chans.symm ▸ hch)]
  have hothers (u : State) {q : Nat} (hq : q ≠ ch) : (u.autoReset ch).chan q = u.chan q := State.chan_onChan_ne u hq _
  rcases State.doAutoRange_due hen hreh hdue with ⟨hstep, h⟩ | ⟨hstep, h⟩
  · obtain ⟨hshown, -, hfields⟩ := hs.scheduleRange_fields (ch := ch) hstep n
    obtain ⟨at_, -, -, hchans⟩ := hs.scheduleRange_chan hch (s.rangeStep ch) n
    rw [h]
    refine ⟨hage (State.scheduleRange_kept s ch _ n (hs.kept 16388) rfl).sound, (State.rd_of_regs rfl _ _).trans hshown,
      fun q hq => (hothers _ hq).trans (hchans q hq), ?_⟩
    exact (hfields.congr rfl).sameRegs_one (by simp [Fld.addr])
  · rw [h, hstep]
    exact ⟨hage hs, State.rd_of_regs rfl _ _, fun q hq => hothers _ hq, State.sameRegs_of_regs rfl _⟩

end Sys2Proof.Machine

open Sys2Proof Sys2Proof.Machine

/-- Settles O10, clause by clause: a change is scheduled by a write and by a decision in the same way (scheduleRange), and takes
effect at its count. -/
theorem ranges : Obligations.Ranges := by
  unfold Obligations.Ranges
  intro s p ch w hs
  have hsound := hs.sound
  obtain ⟨r, hb, hstride, hstore⟩ := hs.portStore_array p (b := F.AFE_RANGE) (d := 4) (k := 64) (by decide +kernel) ch.isLt w
  have hwrite : exec (.rangeWrite p ch w) s = .next (s.accepted p fun u => u.doRangeWrite ch w s.writeNs) := by
    refine (hs.awake.next_keeperDo fun s => s.hostWrite p (F.AFE_RANGE + 4 * ch) w).trans (congrArg _ (hstore.trans ?_))
    refine congrArg (s.accepted p) (funext fun u => ?_)
    rw [State.writeReg, State.writeMgt, State.writeFront, hb, hstride, Nat.add_sub_cancel_left, Nat.mul_div_cancel_left _ (by decide)]
    rfl
  obtain ⟨r, hr, hthr⟩ := hs.portStore_open p (a := F.AFE_AR_THR) (by decide +kernel) w
  have hthrWrite : exec (.arThrWrite p w) s = .next (s.accepted p fun u => u.doArThrWrite w) := by
    refine (hs.awake.next_keeperDo fun s => s.hostWrite p F.AFE_AR_THR w).trans (congrArg _ (hthr.trans ?_))
    refine congrArg (s.accepted p) (funext fun u => ?_)
    rw [State.writeReg, State.writeMgt, State.writeFront, base_of_baseOf (b := F.AFE_AR_THR) (by decide +kernel) hr]
    rfl
  refine ⟨fun h => ?_, fun h => ?_, fun n hn => ?_, fun n hen hreh hdue => ?_, fun h => ?_, fun h => ?_⟩
  · exact hwrite.trans (congrArg _ (State.accepted_of_drawn (State.doRangeWrite_refused _ h)))
  · have hdone := hsound.drawn.doRangeWrite_written ch.isLt s.writeNs h
    refine ⟨_, hwrite, hdone.range, hdone.least, hdone.most, hdone.enable, hdone.age, hdone.same, hdone.pending,
      fun hcode hat hsince hreh => hdone.count hcode ?_, ?_, ?_⟩
    · have hh : s.drawn.holdsRange ch = s.holdsRange ch := rfl
      rw [hh, State.holdsRange, hat, regionOf, hreh]
      cases hx : (s.chan ch).since with
      | none => exact absurd hx hsince
      | some _ => rfl
    · exact (hdone.fields.congr rfl).sameRegs_one (by simp [rangeFields, Fld.addr])
    · exact (State.accepted_kept (m := 16420) rfl (hdone.kept.mono rfl)).eq_withParts
  · have hcount : Kept 16 s (s.toCount n) := State.toCount_kept s n (hsound.kept _) rfl
    obtain ⟨hrange, hat, hpend, hspan, hothers, hregs⟩ := hcount.sound.applyRange_outcome ch.isLt n
    have hold (q : Nat) : (s.toCount n).chan q = s.chan q := by rw [s.toCount_only]; rfl
    have hregs' : (s.toCount n).regs = s.regs := s.toCount_regs n
    refine ⟨_, (hs.next_cxDo fun s => s.doRangeApply ch).trans (congrArg _ (State.doRangeApply_due hn)), ?_, hat, hpend, ?_,
      fun c hc => (hothers c fun e => hc (Fin.ext e)).trans (hold c), (State.sameRegs_of_regs hregs' _).trans hregs, ?_⟩
    · exact hrange.trans (State.rd_of_regs hregs' _ _)
    · rw [State.firHalf, hold] at hspan
      exact hspan
    · exact (State.applyRange_kept _ _ _ (hcount.mono (m' := 16404) rfl) rfl).eq_withParts
  · obtain ⟨hage, hshown, hothers, hregs⟩ := hsound.doAutoRange_outcome ch.isLt hen hreh hdue
    exact ⟨_, hs.next_cxDo fun s => s.doAutoRange ch, hage, hshown, fun c hc => hothers c fun e => hc (Fin.ext e), hregs,
      (State.doAutoRange_kept s ch (hsound.kept 16388) rfl).eq_withParts⟩
  · exact hthrWrite.trans (congrArg _ (congrArg (s.accepted p) (funext fun u => if_pos h)))
  · exact hthrWrite.trans (congrArg _ (State.accepted_of_drawn (if_neg (Nat.not_lt.2 h))))
end

section
/-! SUPPORT. The factors of ADC_CAL as they are put (R99 to R101), and a row of fields written one after another. -/

namespace Sys2Proof.Machine

/-! ### A row of n fields -/

/-- Fields b to b + n - 1 of f are written. -/
def State.wrRow (s : State) (f : Fld) (b n : Nat) (v : Nat → Nat) : State :=
  s.forEach (List.range n) fun u k => u.wr f (b + k) (v k)

theorem State.wrRow_succ (s : State) (f : Fld) (b n : Nat) (v : Nat → Nat) :
    s.wrRow f b (n + 1) v = (s.wrRow f b n v).wr f (b + n) (v n) := by
  rw [State.wrRow, State.forEach, List.range_succ, List.foldl_append]
  rfl

theorem State.wrRow_chans (s : State) (f : Fld) (b n : Nat) (v : Nat → Nat) : (s.wrRow f b n v).chans = s.chans := by
  rw [State.wrRow]
  refine State.forEach_same State.chans (fun u k => ?_) _ s
  rfl

theorem State.wrRow_fields {s : State} (h : tableWf coldWord s.regs = true) {f : Fld} (hf : f.lo + f.width ≤ 32)
    (hstride : 0 < f.stride) (b n : Nat) (v : Nat → Nat) :
    tableWf coldWord (s.wrRow f b n v).regs = true ∧ (∀ k < n, (s.wrRow f b n v).rd f (b + k) = v k % 2 ^ f.width) ∧
    s.sameRegs (s.wrRow f b n v) ((List.range n).map fun k => f.addr (b + k)) := by
  induction n with
  | zero => exact ⟨h, fun k hk => absurd hk (Nat.not_lt_zero k), fun _ _ => rfl⟩
  | succ n ih =>
    obtain ⟨hwf, hrd, hsame⟩ := ih
    rw [s.wrRow_succ]
    refine ⟨State.wf_wr hwf _ _ _, fun k hk => ?_, fun a ha => ?_⟩
    · by_cases hkn : k = n
      · rw [hkn]
        exact State.rd_wr hwf f (b + n) (v n) hf
      · have hne : f.addr (b + k) ≠ f.addr (b + n) := by
          simp only [Fld.addr, ne_eq, Nat.add_left_cancel_iff, Nat.mul_right_inj hstride.ne']
          omega
        exact (State.rd_wr_ne hwf _ _ _ _ _ (.inl hne)).trans (hrd k (by omega))
    · rw [List.range_succ, List.map_append, List.mem_append, not_or] at ha
      exact (State.sameRegs_wr hwf f (b + n) (v n) a ha.2).trans (hsame a ha.1)

/-! ### The factors of a channel (R101) -/

/-- The factors before a change, for the blocks before the next boundary. -/
def Chan.keptFactors (c : Chan) (s : State) (ch : Nat) : Chan :=
  { c with calOld := match c.calOld with
      | some p => if s.clk.count < p.1 then some p else some (nextMultiple 64 s.clk.count, s.factors ch)
      | none => some (nextMultiple 64 s.clk.count, s.factors ch) }

theorem State.putFactors_row (s : State) (ch : Nat) (v : Nat → Nat) : s.putFactors ch ((List.range 32).map fun k => (k, v k)) =
    (s.onChan ch fun c => c.keptFactors s ch).wrRow F.ADC_CAL_VALUE (32 * ch) 32 v := by
  rw [State.putFactors, State.forEach, List.foldl_map]
  rfl

/-- The registers of channel ch in ADC_CAL. -/
def calRegs (ch : Nat) : List Nat := (List.range 32).map fun k => F.ADC_CAL_VALUE.addr (32 * ch + k)

theorem mem_calRegs {ch a : Nat} : a ∈ calRegs ch ↔ ∃ k < 32, F.ADC_CAL_VALUE.addr (32 * ch + k) = a := by
  simp [calRegs]

/-- The 32 factors of a channel are replaced, and no other register is written. -/
theorem State.Sound.putFactors_outcome {s : State} (hs : s.Sound) {ch : Nat} (hch : ch < 64) (v : Nat → Nat) :
    (∀ k < 32, (s.putFactors ch ((List.range 32).map fun k => (k, v k))).rd F.ADC_CAL_VALUE (32 * ch + k) = v k % 2 ^ 16) ∧
    s.sameRegs (s.putFactors ch ((List.range 32).map fun k => (k, v k))) (calRegs ch) ∧
    (s.putFactors ch ((List.range 32).map fun k => (k, v k))).chan ch = (s.chan ch).keptFactors s ch ∧
    Kept 16388 s (s.putFactors ch ((List.range 32).map fun k => (k, v k))) := by
  have hwf : tableWf coldWord (s.onChan ch fun c => c.keptFactors s ch).regs = true := hs.regs
  obtain ⟨-, hrd, hsame⟩ := State.wrRow_fields hwf (f := F.ADC_CAL_VALUE) (by decide) (by decide) (32 * ch) 32 v
  have hkept := State.putFactors_kept s ch ((List.range 32).map fun k => (k, v k)) (hs.kept 16388) rfl
  rw [s.putFactors_row] at hkept ⊢
  refine ⟨hrd, hsame, ?_, hkept⟩
  rw [State.chan, State.wrRow_chans]
  exact State.chan_onChan (hs.chans.symm ▸ hch) _

end Sys2Proof.Machine
end

section
/-! SUPPORT. The background correction's windows and the saved sets (R102 to R104, R112 to R114). -/

namespace Sys2Proof.Machine

/-! ### The end of a window (R102, R103) -/

/-- The next window has begun. -/
def State.bgNext (s : State) (ch a : Nat) : State := (s.toCount (a + 2 ^ 20)).onChan ch fun c => { c with bg := { start := some (a + 2 ^ 20) } }

theorem State.doBgWindow_weak {s : State} {ch share a : Nat} (spur : Nat) (errors : List Int) (hstart : (s.chan ch).bg.start = some a)
    (hruns : s.bgRuns ch = true) (hweak : (s.chan ch).bg.strong = false ∨ 90 < share) : s.doBgWindow ch share spur errors =
      if 16 ≤ ((s.bgNext ch a).chan ch).bgIdle + 1 then
        ((s.bgNext ch a).onChan ch fun c => { c with bgIdle := ((s.bgNext ch a).chan ch).bgIdle + 1 }).wr F.ADC_BG_STAT_HOLD ch 1
      else (s.bgNext ch a).onChan ch fun c => { c with bgIdle := ((s.bgNext ch a).chan ch).bgIdle + 1 } := by
  have hcond : (!(s.chan ch).bg.strong || decide (90 < share)) = true := by
    rcases hweak with h | h
    · rw [h]
      rfl
    · rw [decide_eq_true h, Bool.or_true]
  rw [State.doBgWindow, hstart]
  dsimp only
  rw [hruns, hcond, if_neg (by decide), if_pos rfl]
  rfl

theorem State.Sound.bgNext_outcome {s : State} (hs : s.Sound) {ch : Nat} (hch : ch < 64) (a : Nat) :
    (s.bgNext ch a).chan ch = { s.chan ch with bg := { start := some (a + 2 ^ 20) } } ∧ (s.bgNext ch a).regs = s.regs ∧
    Kept 16400 s (s.bgNext ch a) := by
  have hcount : Kept 16 s (s.toCount (a + 2 ^ 20)) := State.toCount_kept s _ (hs.kept _) rfl
  refine ⟨?_, s.toCount_regs _, State.onChan_kept _ _ _ (hcount.mono (m' := 16400) rfl) rfl⟩
  refine (State.chan_onChan (by rw [State.toCount_chans, hs.chans]; exact hch) _).trans ?_
  rw [State.chan, State.toCount_chans, State.chan]

/-- BGGOOD's next value. -/
def State.bgGoodAfter (s : State) (ch spur : Nat) : Nat := if 80 ≤ spur then (s.chan ch).bgGood + 1 else 0

/-- The state after the factors of an excited window have moved. -/
def State.bgMoved (s : State) (ch spur : Nat) (errors : List Int) : State :=
  (s.bgMove ch errors).onChan ch fun c => { c with bgIdle := 0, bgGood := s.bgGoodAfter ch spur }

/-- ADC_BG_STAT after an excited window. -/
def State.bgShown (s : State) (ch spur good : Nat) : State :=
  if 8 ≤ good then ((s.wr F.ADC_BG_STAT_HOLD ch 0).wr F.ADC_BG_STAT_RESID ch (min 255 spur)).wr F.ADC_BG_STAT_CONVERGED ch 1
  else if spur < 78 then ((s.wr F.ADC_BG_STAT_HOLD ch 0).wr F.ADC_BG_STAT_RESID ch (min 255 spur)).wr F.ADC_BG_STAT_CONVERGED ch 0
  else (s.wr F.ADC_BG_STAT_HOLD ch 0).wr F.ADC_BG_STAT_RESID ch (min 255 spur)

theorem State.doBgWindow_strong {s : State} {ch share a : Nat} (spur : Nat) (errors : List Int) (hstart : (s.chan ch).bg.start = some a)
    (hruns : s.bgRuns ch = true) (hstrong : (s.chan ch).bg.strong = true) (hshare : share ≤ 90) : s.doBgWindow ch share spur errors =
      ((s.bgNext ch a).bgMoved ch spur errors).bgShown ch spur ((s.bgNext ch a).bgGoodAfter ch spur) := by
  have hcond : (!(s.chan ch).bg.strong || decide (90 < share)) = false := by
    rw [hstrong, decide_eq_false (Nat.not_lt.2 hshare)]
    rfl
  rw [State.doBgWindow, hstart]
  dsimp only
  rw [hruns, hcond, if_neg (by decide), if_neg (by decide)]
  rfl

theorem State.Sound.bgShown_outcome {s : State} (hs : s.Sound) (ch spur good : Nat) :
    s.sameRegs (s.bgShown ch spur good) [F.ADC_BG_STAT_HOLD.addr ch] ∧ (s.bgShown ch spur good).chans = s.chans ∧
    Kept 4 s (s.bgShown ch spur good) := by
  obtain ⟨u, hu⟩ : ∃ u, u = (s.wr F.ADC_BG_STAT_HOLD ch 0).wr F.ADC_BG_STAT_RESID ch (min 255 spur) := ⟨_, rfl⟩
  have hkept : Kept 4 s u := hu ▸ State.wr_kept _ _ _ _ (State.wr_kept _ _ _ _ (hs.kept _) rfl) rfl
  have hsame : s.sameRegs u [F.ADC_BG_STAT_HOLD.addr ch] := hu ▸ (State.sameRegs_wr hs.regs F.ADC_BG_STAT_HOLD ch 0).trans
    (State.sameRegs_wr (State.wf_wr hs.regs _ _ _) F.ADC_BG_STAT_RESID ch (min 255 spur))
  have hconv (v : Nat) : s.sameRegs (u.wr F.ADC_BG_STAT_CONVERGED ch v) [F.ADC_BG_STAT_HOLD.addr ch] ∧
      (u.wr F.ADC_BG_STAT_CONVERGED ch v).chans = s.chans ∧ Kept 4 s (u.wr F.ADC_BG_STAT_CONVERGED ch v) :=
    ⟨hsame.trans (State.sameRegs_wr hkept.regs F.ADC_BG_STAT_CONVERGED ch v), hkept.chans_eq rfl, State.wr_kept _ _ _ _ hkept rfl⟩
  rw [State.bgShown, ← hu]
  split
  · exact hconv 1
  · split
    · exact hconv 0
    · exact ⟨hsame, hkept.chans_eq rfl, hkept⟩

/-- The value that a factor takes: its error over 2^BG_MU, rounded either way, and held within its range. -/
def State.bgStep (s : State) (ch : Nat) (errors : List Int) (free k : Nat) : Nat :=
  wrapBits 16 (factorLimit (s.rdS F.ADC_CAL_VALUE (32 * ch + k) + (errors.getD k 0 / (2 ^ s.rd F.ADC_CTL_BG_MU : Nat) +
    (if errors.getD k 0 % (2 ^ s.rd F.ADC_CTL_BG_MU : Nat) = 0 then 0 else ((free.testBit k).toNat : Int)))))

theorem State.bgMove_eq (s : State) (ch : Nat) (errors : List Int) : ∃ free,
    s.bgMove ch errors = s.drawn.putFactors ch ((List.range 32).map fun k => (k, s.bgStep ch errors free k)) := ⟨_, rfl⟩

theorem wrapBits_lt (width : Nat) (x : Int) : wrapBits width x < 2 ^ width := by
  have hpos : (0 : Int) < (2 ^ width : Nat) := Int.natCast_pos.2 (Nat.two_pow_pos _)
  have := Int.emod_lt_of_pos x hpos
  have := Int.emod_nonneg x hpos.ne'
  unfold wrapBits
  omega

theorem State.Sound.bgMoved_outcome {s : State} (hs : s.Sound) {ch : Nat} (hch : ch < 64) (spur : Nat) (errors : List Int) :
    (∀ k < 32, ∃ d : Int, (d = 0 ∨ d = 1) ∧ (s.bgMoved ch spur errors).rd F.ADC_CAL_VALUE (32 * ch + k) =
      wrapBits 16 (factorLimit (s.rdS F.ADC_CAL_VALUE (32 * ch + k) + errors.getD k 0 / (2 ^ s.rd F.ADC_CTL_BG_MU : Nat) + d))) ∧
    s.sameRegs (s.bgMoved ch spur errors) (calRegs ch) ∧
    (∃ old, (s.bgMoved ch spur errors).chan ch = { s.chan ch with calOld := old, bgIdle := 0, bgGood := s.bgGoodAfter ch spur }) ∧
    Kept 16390 s (s.bgMoved ch spur errors) ∧ (s.bgMoved ch spur errors).free = s.free + 1 := by
  obtain ⟨free, hmove⟩ := s.bgMove_eq ch errors
  obtain ⟨hrd, hsame, hchan, hkept⟩ := hs.drawn.putFactors_outcome hch (s.bgStep ch errors free)
  have hregs : (s.bgMoved ch spur errors).regs = (s.drawn.putFactors ch ((List.range 32).map fun k =>
      (k, s.bgStep ch errors free k))).regs := by
    rw [State.bgMoved, hmove, State.onChan_regs]
  refine ⟨fun k hk => ?_, fun b hb => ?_, ⟨((s.chan ch).keptFactors s.drawn ch).calOld, ?_⟩, ?_, ?_⟩
  · refine ⟨if errors.getD k 0 % (2 ^ s.rd F.ADC_CTL_BG_MU : Nat) = 0 then 0 else ((free.testBit k).toNat : Int), ?_, ?_⟩
    · split
      · exact .inl rfl
      · cases free.testBit k
        · exact .inl rfl
        · exact .inr rfl
    · rw [State.rd_of_regs hregs, hrd k hk, State.bgStep, ← Int.add_assoc]
      exact Nat.mod_eq_of_lt (wrapBits_lt _ _)
  · rw [State.regGet, hregs]
    exact hsame b hb
  · rw [State.bgMoved, hmove, State.chan_onChan (hkept.chans.symm ▸ hch), hchan]
    rfl
  · rw [State.bgMoved, hmove]
    exact State.onChan_kept _ _ _ ((hs.drawFree_kept (m := 16390) rfl).trans (hkept.mono rfl)) rfl
  · rw [State.bgMoved, hmove, State.onChan_free]
    exact hkept.free rfl

/-! ### Saved sets (R112, R113) -/

theorem State.doCalSave_refused {s : State} (h : s.factoryTrim = true ∨ s.rehIdle = false) :
    s.doCalSave = s.configFault s.locCx F.ADC_REH_CMD := by
  refine if_pos ?_
  rcases h with h | h
  · rw [h]
    rfl
  · rw [h, Bool.not_false, Bool.or_true]

/-- The set that a save captures. -/
def State.savedSet (s : State) : CalSet :=
  { cal := (List.range 2048).map fun i => s.rd F.ADC_CAL_VALUE i
    phases := (List.range 4).map fun r => s.regGet (F.ADC_PLL_PHASE + 4 * r)
    temp := s.regGet F.ADC_REH_TEMP, valid := false, seq := 1 + (s.adc.saved.map fun c => c.seq).foldl max 0 }

theorem State.doCalSave_taken {s : State} (htrim : s.factoryTrim = false) (hidle : s.rehIdle = true) (hsaving : s.adc.saving = none) :
    s.doCalSave = (s.onAdc fun a => { a with saved := a.saved.set s.saveSlot s.savedSet, saving := some s.saveSlot }).wr
      F.ADC_REH_STAT_SAVE_BUSY 0 1 := by
  rw [State.doCalSave, htrim, hidle, hsaving]
  rfl

theorem State.savedSet_cal (s : State) : s.drawn.savedSet.cal = (List.range 2048).map fun i => s.rd F.ADC_CAL_VALUE i := by
  rw [State.savedSet]
  dsimp only
  refine List.map_congr_left fun i _ => ?_
  exact State.rd_of_regs (s := s) (t := s.drawn) rfl F.ADC_CAL_VALUE i

theorem State.saveSlot_lt (s : State) : s.saveSlot < 2 := by
  unfold State.saveSlot
  split
  · decide
  · split <;> decide

theorem State.doCalSaveDone_due {s : State} {i : Nat} (ok : Bool) (h : s.adc.saving = some i) : s.doCalSaveDone ok =
    ((s.onAdc fun a => { a with saved := a.saved.modify i fun c => { c with valid := ok }, saving := none }).wr
      F.ADC_REH_STAT_SAVE_BUSY 0 0).wrB F.ADC_REH_STAT_SAVED_VALID 0
        (s.onAdc fun a => { a with saved := a.saved.modify i fun c => { c with valid := ok }, saving := none }).newestSet.isSome := by
  rw [State.doCalSaveDone, h]

/-! ### Loading (R113, R114) -/

/-- The factors of the first n channels are loaded. -/
def State.loadTo (s : State) (n : Nat) : State :=
  s.forEach (List.range n) fun s ch => s.loadFactors ch ((List.range 32).map fun k => s.loadSource (32 * ch + k))

theorem State.loadTo_succ (s : State) (n : Nat) : s.loadTo (n + 1) =
    (s.loadTo n).putFactors n ((List.range 32).map fun k => (k, ((List.range 32).map fun k => (s.loadTo n).loadSource (32 * n + k)).getD k 0)) := by
  rw [State.loadTo, State.loadTo, State.forEach, State.forEach, List.range_succ (n := n), List.foldl_append, List.foldl_cons,
    List.foldl_nil, State.loadFactors]

theorem State.Sound.loadTo_outcome {s : State} (hs : s.Sound) {n : Nat} (hn : n ≤ 64) : Kept 16388 s (s.loadTo n) ∧
    (∀ i < 32 * n, (s.loadTo n).rd F.ADC_CAL_VALUE i = s.loadSource i % 2 ^ 16) ∧
    s.sameRegs (s.loadTo n) ((List.range (32 * n)).map F.ADC_CAL_VALUE.addr) := by
  induction n with
  | zero => exact ⟨hs.kept _, fun i hi => absurd hi (Nat.not_lt_zero i), fun _ _ => rfl⟩
  | succ n ih =>
    obtain ⟨hkept, hrd, hsame⟩ := ih (Nat.le_of_succ_le hn)
    obtain ⟨hput, hregs, -, hlast⟩ := hkept.sound.putFactors_outcome (ch := n) (by omega)
      fun k => ((List.range 32).map fun k => (s.loadTo n).loadSource (32 * n + k)).getD k 0
    have hsource (i : Nat) : (s.loadTo n).loadSource i = s.loadSource i := by
      rw [State.loadSource, State.factoryTrim, State.newestSet, hkept.plane rfl, hkept.adc rfl]
      rfl
    rw [s.loadTo_succ]
    refine ⟨hkept.trans hlast, fun i hi => ?_, fun b hb => ?_⟩
    · by_cases hlt : i < 32 * n
      · refine (State.rd_of_regGet (hregs _ ?_)).trans (hrd i hlt)
        rw [mem_calRegs]
        rintro ⟨k, -, hk⟩
        simp only [Fld.addr] at hk
        omega
      · obtain ⟨k, rfl⟩ := Nat.exists_eq_add_of_le (Nat.not_lt.1 hlt)
        rw [hput k (by omega), List.getD_eq_getElem?_getD, List.getElem?_map, List.getElem?_range (by omega)]
        exact congrArg (· % 2 ^ 16) (hsource _)
    · have hmem {i : Nat} (hi : i < 32 * (n + 1)) : F.ADC_CAL_VALUE.addr i ≠ b := fun e =>
        hb (e ▸ List.mem_map_of_mem (List.mem_range.2 hi))
      refine (hregs b ?_).trans (hsame b fun h => ?_)
      · rw [mem_calRegs]
        rintro ⟨k, hk, e⟩
        exact hmem (by omega) e
      · obtain ⟨i, hi, e⟩ := List.mem_map.1 h
        exact hmem (by have := List.mem_range.1 hi; omega) e

/-! ### The command register (R112) -/

theorem State.Working.hostBit_rehCmd {s : State} (hs : s.Working) (p : Nat) {fld : Fld} {f : State → State}
    (hbase : fld.base = F.ADC_REH_CMD) (hwidth : fld.width = 1)
    (hf : (fld.lo, f) ∈ [(4, State.doCalSave), (5, State.doCalLoad)]) : s.hostBit p fld 0 = s.accepted p f := by
  have hlo : fld.lo = 4 ∨ fld.lo = 5 := by
    simp only [List.mem_cons, Prod.mk.injEq, List.not_mem_nil, or_false] at hf
    omega
  obtain ⟨w, hw⟩ : ∃ w, w = setField (s.shown F.ADC_REH_CMD) fld.lo 1 1 := ⟨_, rfl⟩
  obtain ⟨r, hr, hstore⟩ := hs.portStore_open p (a := F.ADC_REH_CMD) (by decide +kernel) w
  have hbit : s.hostBit p fld 0 = s.portStore p F.ADC_REH_CMD w := by
    rw [State.hostBit, State.hostField, State.hostWrite, hwidth, hbase, Nat.mul_zero, Nat.add_zero, hw]
  have hwo : ∀ j < 6, woBit F.ADC_REH_CMD j = true := by decide +kernel
  have htest {j : Nat} (hj : j < 6) : w.toNat.testBit j = decide (j = fld.lo) :=
    hw ▸ s.testBit_cmdWord (hwo j hj) (by omega)
  have hstart : getField w 0 4 = 0 := by
    refine Nat.eq_of_testBit_eq fun j => ?_
    rw [testBit_getField, Nat.zero_add, Nat.zero_testBit, Bool.and_eq_false_iff]
    by_cases hj : j < 4
    · exact .inr ((htest (by omega)).trans (decide_eq_false (by omega)))
    · exact .inl (decide_eq_false hj)
  rw [hbit, hstore]
  refine congrArg (s.accepted p) (funext fun u => ?_)
  have hwrite (ns : Nat) : u.writeReg r p F.ADC_REH_CMD w ns = u.commands w [(4, State.doCalSave), (5, State.doCalLoad)] := by
    rw [State.writeReg, State.writeMgt, State.writeFront, base_of_baseOf (b := F.ADC_REH_CMD) (by decide +kernel) hr]
    simp only [hstart, if_true]
    rfl
  rw [hwrite]
  refine u.commands_of_one (k := fld.lo) (fun x hx => htest ?_) (by decide) hf
  simp only [List.mem_cons, List.not_mem_nil, or_false] at hx
  rcases hx with rfl | rfl <;> decide

end Sys2Proof.Machine

open Sys2Proof Sys2Proof.Machine

/-- Settles O12, clause by clause: the factors are put channel by channel, each in its own registers. -/
theorem calibrationSets : Obligations.CalibrationSets := by
  unfold Obligations.CalibrationSets
  intro s hs
  have hsound := hs.sound
  have hsave (p : Fin 10) : exec (.calSave p) s = .next (s.accepted p State.doCalSave) :=
    (hs.awake.next_keeperDo fun s => s.hostBit p F.ADC_REH_CMD_SAVE 0).trans (congrArg _ (hs.hostBit_rehCmd p rfl rfl (.head _)))
  have hload (p : Fin 10) : exec (.calLoad p) s = .next (s.accepted p State.doCalLoad) :=
    (hs.awake.next_keeperDo fun s => s.hostBit p F.ADC_REH_CMD_LOAD 0).trans
      (congrArg _ (hs.hostBit_rehCmd p rfl rfl (.tail _ (.head _))))
  refine ⟨fun ch levels share spur edges a hstart hruns => ⟨fun hweak => ?_, fun hstrong hshare => ?_⟩,
    fun p htrim hidle hsaving hlen => ?_, fun p h => ?_, fun i ok hi => ?_, fun p hidle => ?_, fun p hbusy => ?_⟩
  · obtain ⟨u, hu⟩ : ∃ u, u = s.bgNext ch a := ⟨_, rfl⟩
    obtain ⟨hchan, hregs, hkept⟩ := hsound.bgNext_outcome ch.isLt a
    have hclk : (s.bgNext ch a).clk = (s.toCount (a + 2 ^ 20)).clk := rfl
    have hdo := State.doBgWindow_weak spur (bgErrors levels edges) hstart hruns hweak
    rw [← hu] at hchan hregs hkept hclk hdo
    obtain ⟨v, hv⟩ : ∃ v, v = u.onChan ch fun c => { c with bgIdle := (u.chan ch).bgIdle + 1 } := ⟨_, rfl⟩
    have hvkept : Kept 16400 s v := hv ▸ State.onChan_kept _ _ _ hkept rfl
    have hvchan : v.chan ch = { s.chan ch with bg := { start := some (a + 2 ^ 20) }, bgIdle := (s.chan ch).bgIdle + 1 } := by
      rw [hv, State.chan_onChan (hkept.chans.symm ▸ ch.isLt), hchan]
    have hvregs : v.regs = s.regs := by rw [hv, State.onChan_regs, hregs]
    have hreached : s.reached v (a + 2 ^ 20) := by
      have hvclk : v.clk = (s.toCount (a + 2 ^ 20)).clk := by
        rw [hv, State.onChan_clk, hclk]
      intro hrun
      rw [hvclk]
      exact s.reached_toCount (a + 2 ^ 20) hrun
    rw [← hv, hchan] at hdo
    have hexec := (hs.next_cxDo fun s => s.doBgWindow ch share spur (bgErrors levels edges)).trans (congrArg _ hdo)
    by_cases h16 : 16 ≤ (s.chan ch).bgIdle + 1
    · rw [if_pos h16] at hexec
      refine ⟨_, hexec, hvchan, fun _ => ?_, hreached, ?_, (State.wr_kept v _ _ _ (hvkept.mono (m' := 16404) rfl) rfl).eq_withParts⟩
      · rw [State.rdB, State.rd_wr hvkept.regs _ _ _ (by decide)]
        rfl
      · exact (State.sameRegs_of_regs hvregs _).trans (State.sameRegs_wr hvkept.regs F.ADC_BG_STAT_HOLD ch 1)
    · rw [if_neg h16] at hexec
      exact ⟨_, hexec, hvchan, fun h => absurd h h16, hreached, State.sameRegs_of_regs hvregs _,
        (hvkept.mono (m' := 16404) rfl).eq_withParts⟩
  · obtain ⟨u, hu⟩ : ∃ u, u = s.bgNext ch a := ⟨_, rfl⟩
    obtain ⟨hchan, hregs, hkept⟩ := hsound.bgNext_outcome ch.isLt a
    have hclk : (s.bgNext ch a).clk = (s.toCount (a + 2 ^ 20)).clk := rfl
    have hdo := State.doBgWindow_strong spur (bgErrors levels edges) hstart hruns hstrong hshare
    rw [← hu] at hchan hregs hkept hclk hdo
    obtain ⟨hfactors, hsame, ⟨old, hvchan⟩, hvkept, hfree⟩ := hkept.sound.bgMoved_outcome ch.isLt spur (bgErrors levels edges)
    obtain ⟨v, hv⟩ : ∃ v, v = u.bgMoved ch spur (bgErrors levels edges) := ⟨_, rfl⟩
    rw [← hv] at hfactors hsame hvchan hvkept hfree hdo
    obtain ⟨hshown, hchans, hskept⟩ := hvkept.sound.bgShown_outcome ch spur (u.bgGoodAfter ch spur)
    obtain ⟨t, ht⟩ : ∃ t, t = v.bgShown ch spur (u.bgGoodAfter ch spur) := ⟨_, rfl⟩
    rw [← ht] at hshown hchans hskept hdo
    have htchan : t.chan ch = v.chan ch := by rw [State.chan, hchans, State.chan]
    have hgood : u.bgGoodAfter ch spur = if 80 ≤ spur then (s.chan ch).bgGood + 1 else 0 := by
      rw [State.bgGoodAfter, hchan]
    have hstat {k : Nat} : F.ADC_CAL_VALUE.addr (32 * ch.val + k) ∉ [F.ADC_BG_STAT_HOLD.addr ch.val] := by
      simp only [List.mem_singleton, Fld.addr]
      omega
    have hsregs : s.sameRegs t (F.ADC_BG_STAT_HOLD.addr ch.val :: calRegs ch) := fun b hb => by
      rw [List.mem_cons, not_or] at hb
      refine (hshown b (by simpa using hb.1)).trans ((hsame b hb.2).trans ?_)
      rw [State.regGet, hregs, State.regGet]
    have hclk' : t.clk = (s.toCount (a + 2 ^ 20)).clk := (hskept.clk rfl).trans ((hvkept.clk rfl).trans hclk)
    refine ⟨t, (hs.next_cxDo fun s => s.doBgWindow ch share spur (bgErrors levels edges)).trans (congrArg _ hdo), ?_, ?_,
      fun hrun => ?_, ?_, fun k => ?_, fun b _ _ hb => hsregs b hb, ?_⟩
    · rw [htchan, hvchan]
    · rw [htchan, hvchan, hchan]
    · rw [hclk']
      exact s.reached_toCount (a + 2 ^ 20) hrun
    · rw [htchan, hvchan, hgood]
    · obtain ⟨d, hd, hvalue⟩ := hfactors k k.isLt
      refine ⟨d, hd, (State.rd_of_regGet (hshown _ hstat)).trans ?_⟩
      rw [hvalue, State.rdS, State.rd_of_regs hregs, State.rd_of_regs hregs, State.rdS]
    · have hall : Kept 16406 s t := (hkept.mono (m' := 16406) rfl).trans ((hvkept.mono rfl).trans (hskept.mono rfl))
      have hfree' : t.free = s.free + 1 := (hskept.free rfl).trans (hfree.trans (congrArg (· + 1) (hkept.free rfl)))
      have hframe : t = { s with free := t.free, regs := t.regs, clk := t.clk, chans := t.chans } := hall.eq_withParts
      rw [hfree'] at hframe
      exact hframe
  · obtain ⟨t, ht⟩ : ∃ t, t = s.drawn.onAdc fun a =>
        { a with saved := a.saved.set s.drawn.saveSlot s.drawn.savedSet, saving := some s.drawn.saveSlot } := ⟨_, rfl⟩
    have hkept : Kept 65536 s.drawn t := ht ▸ State.onAdc_kept _ _ (hsound.drawn.kept _) rfl
    have hadc : t.adc = { s.adc with saved := s.adc.saved.set s.drawn.saveSlot s.drawn.savedSet, saving := some s.drawn.saveSlot } := by
      rw [ht]
      rfl
    have hregs : t.regs = s.regs := by
      rw [ht]
      rfl
    have hdo : s.drawn.doCalSave = t.wr F.ADC_REH_STAT_SAVE_BUSY 0 1 := by
      rw [State.doCalSave_taken (s := s.drawn) htrim hidle hsaving, ht]
    refine ⟨_, s.drawn.saveSlot, s.drawn.savedSet, (hsave p).trans (congrArg _ (State.accepted_of_drawn hdo)), ?_, ?_, s.savedSet_cal, ?_,
      ?_, ?_, ?_⟩
    · exact congrArg Adc.saving hadc
    · change (t.adc.saved)[s.drawn.saveSlot]? = _
      rw [hadc]
      exact List.getElem?_set_self (hlen.symm ▸ s.drawn.saveSlot_lt)
    · rw [State.savedSet]
    · exact congrArg (· == 1) (State.rd_wr hkept.regs F.ADC_REH_STAT_SAVE_BUSY 0 1 (by decide))
    · exact (State.sameRegs_of_regs hregs _).trans (State.sameRegs_wr hkept.regs F.ADC_REH_STAT_SAVE_BUSY 0 1)
    · exact (State.onPort_kept _ p _ (State.wr_kept t _ _ _ (hkept.mono (m' := 65572) rfl) rfl) rfl).eq_withParts
  · refine (hsave p).trans (congrArg _ (State.accepted_of_drawn (State.doCalSave_refused (s := s.drawn) h)))
  · have hdo := State.doCalSaveDone_due ok hi
    obtain ⟨u, hu⟩ : ∃ u, u = s.onAdc fun a => { a with saved := a.saved.modify i fun c => { c with valid := ok }, saving := none } :=
      ⟨_, rfl⟩
    have hkept : Kept 65536 s u := hu ▸ State.onAdc_kept _ _ (hsound.kept _) rfl
    have hadc : u.adc = { s.adc with saved := s.adc.saved.modify i fun c => { c with valid := ok }, saving := none } := by
      rw [hu]
      rfl
    have hregs : u.regs = s.regs := by
      rw [hu]
      rfl
    rw [← hu] at hdo
    have hbusy := State.wf_wr hkept.regs F.ADC_REH_STAT_SAVE_BUSY 0 0
    refine ⟨_, (hs.next_cxDo fun s => s.doCalSaveDone ok).trans (congrArg _ hdo), congrArg Adc.saving hadc, congrArg Adc.saved hadc,
      ?_, ?_, ?_, ?_⟩
    · exact congrArg (· == 1) ((State.rd_wr_ne hbusy _ _ _ _ _ (by decide)).trans (State.rd_wr hkept.regs _ 0 0 (by decide)))
    · rw [State.rdB, State.wrB, State.rd_wr hbusy _ _ _ (by decide)]
      have hset : ((u.wr F.ADC_REH_STAT_SAVE_BUSY 0 0).wr F.ADC_REH_STAT_SAVED_VALID 0 u.newestSet.isSome.toNat).newestSet = u.newestSet := rfl
      rw [hset]
      cases u.newestSet.isSome <;> rfl
    · exact (State.sameRegs_of_regs hregs _).trans ((State.sameRegs_wr hkept.regs F.ADC_REH_STAT_SAVE_BUSY 0 0).trans
        (State.sameRegs_wr hbusy F.ADC_REH_STAT_SAVED_VALID 0 _))
    · exact (State.wr_kept _ _ _ _ (State.wr_kept u _ _ _ (hkept.mono (m' := 65540) rfl) rfl) rfl).eq_withParts
  · obtain ⟨hkept, hrd, hsame⟩ := hsound.drawn.loadTo_outcome (n := 64) (by decide)
    have hdo : s.drawn.doCalLoad = s.drawn.loadTo 64 := if_pos (c := s.drawn.rehIdle = true) hidle
    obtain ⟨u, hu⟩ : ∃ u, u = s.drawn.loadTo 64 := ⟨_, rfl⟩
    rw [← hu] at hkept hrd hsame hdo
    exact ⟨_, (hload p).trans (congrArg _ (State.accepted_of_drawn hdo)), fun i => hrd i i.isLt, hsame,
      (State.onPort_kept u p _ (hkept.mono (m' := 16420) rfl) rfl).eq_withParts⟩
  · exact (hload p).trans (congrArg _ (State.accepted_of_drawn (if_neg (Bool.eq_false_iff.1 hbusy))))
end

section
/-! SUPPORT. The injection queues (R57, R119 to R122, R129): what a queue's change and a completion show. -/

namespace Sys2Proof.Machine

theorem OnlyFields.forEach {W : List RegField} {r t : State} {a : Type} {f : State → a → State} {l : List a} (h : OnlyFields W r t)
    (hf : ∀ u, ∀ x ∈ l, OnlyFields W r u → OnlyFields W r (f u x)) : OnlyFields W r (t.forEach l f) :=
  State.forEach_induction h hf

/-- A footprint without the registers leaves them. -/
theorem Kept.regs_eq {m : Nat} {r t : State} (h : Kept m r t) (hm : hasBit m 4 = false) : t.regs = r.regs := by
  rw [h.eq_withParts]
  simp only [State.withParts, hm, cond_false]

/-! ### Queues -/

theorem State.injQueue_of_adc {s t : State} (h : t.adc = s.adc) (g : Nat) : t.injQueue g = s.injQueue g := by
  rw [State.injQueue, h, State.injQueue]

section
variable {s : State} (hlen : s.adc.inj.length = 16) {g : Nat}
include hlen

theorem State.injQueue_setInjQueue (hg : g < 16) (q : List Inject) : (s.setInjQueue g q).injQueue g = q :=
  getD_set_same (hlen.symm ▸ hg) _ _

omit hlen in
theorem State.injQueue_setInjQueue_ne {k : Nat} (h : k ≠ g) (q : List Inject) : (s.setInjQueue g q).injQueue k = s.injQueue k :=
  getD_set_ne _ h _ _

end

/-- The registers of a queue's state. -/
abbrev injStat (g : Nat) : Nat := F.ADC_INJ_STAT + 4 * g

section
variable {s : State} (hs : s.Sound) (g : Nat) (q : List Inject)
include hs

theorem State.Sound.setInjQueue_kept : Kept 65540 s (s.setInjQueue g q) := State.setInjQueue_kept s g q (hs.kept _) rfl

theorem State.Sound.setInjQueue_fields : OnlyFields [(F.ADC_INJ_STAT_PENDING, g)] s (s.setInjQueue g q) :=
  ((OnlyFields.refl hs.regs _).congr (u := s.onAdc _) rfl).wr (.head _) _

theorem State.Sound.setInjQueue_pending (hq : q.length < 4) : (s.setInjQueue g q).rd F.ADC_INJ_STAT_PENDING g = q.length := by
  have hwf : tableWf coldWord (s.onAdc fun a => { a with inj := a.inj.set g q }).regs = true := hs.regs
  rw [State.setInjQueue, State.rd_wr hwf _ _ _ (by decide)]
  exact Nat.mod_eq_of_lt hq

end

/-! ### Completions (R122, R129) -/

/-- The completion of a request in ADC_INJ_STAT. -/
def State.injTold (s : State) (x : Inject) (status : Nat) : State :=
  ((s.wr F.ADC_INJ_STAT_LAST_STATUS (x.ch / 4) status).wr F.ADC_INJ_STAT_LAST_CH (x.ch / 4)
    (if x.skew then 4 * (x.ch / 4) else x.ch)).wrB F.ADC_INJ_STAT_LAST_KIND (x.ch / 4) x.skew

/-- What a completion shows: ADC_INJ_STAT, and the end of a skew calibration unless another one follows. -/
def State.injShown (s : State) (x : Inject) (status : Nat) : State :=
  if x.skew && !(s.injQueue (x.ch / 4)).any fun y => y.skew then
    (s.injTold x status).forEach (clusterChans (x.ch / 4)) fun s ch => s.wr F.FLT_SKEW_MEAS_PENDING ch 0
  else s.injTold x status

/-- A completion shows, and a Prompter's request gets its entry. -/
theorem State.injComplete_eq (s : State) (x : Inject) (status : Nat) : s.injComplete x status =
    match x.prm with
    | some p => ((s.injShown x status).injResult x status).2.finishCmd p.1 p.2
        (BitVec.ofNat 64 ((s.injShown x status).injResult x status).1) status 0 0
    | none => s.injShown x status := rfl

theorem State.injComplete_host {x : Inject} (h : x.prm = none) (s : State) (status : Nat) : s.injComplete x status = s.injShown x status := by
  rw [s.injComplete_eq, h]

/-- The fields that a completion in cluster g writes. -/
def doneFields (g : Nat) : List RegField :=
  [(F.ADC_INJ_STAT_LAST_STATUS, g), (F.ADC_INJ_STAT_LAST_CH, g), (F.ADC_INJ_STAT_LAST_KIND, g)] ++
    (clusterChans g).map fun ch => (F.FLT_SKEW_MEAS_PENDING, ch)

theorem pending_mem_doneFields {g ch : Nat} (h : ch ∈ clusterChans g) : (F.FLT_SKEW_MEAS_PENDING, ch) ∈ doneFields g :=
  List.mem_append_right _ (List.mem_map_of_mem h)

section
variable {s : State} (hs : s.Sound) (x : Inject) (status : Nat)
include hs

theorem State.Sound.injTold_outcome : Kept 4 s (s.injTold x status) ∧
    (s.injTold x status).rd F.ADC_INJ_STAT_LAST_STATUS (x.ch / 4) = status % 8 ∧
    (s.injTold x status).rd F.ADC_INJ_STAT_LAST_CH (x.ch / 4) = (if x.skew then 4 * (x.ch / 4) else x.ch) % 64 ∧
    OnlyFields [(F.ADC_INJ_STAT_LAST_STATUS, x.ch / 4), (F.ADC_INJ_STAT_LAST_CH, x.ch / 4), (F.ADC_INJ_STAT_LAST_KIND, x.ch / 4)] s
      (s.injTold x status) := by
  have hst := State.wf_wr hs.regs F.ADC_INJ_STAT_LAST_STATUS (x.ch / 4) status
  have hch := State.wf_wr hst F.ADC_INJ_STAT_LAST_CH (x.ch / 4) (if x.skew then 4 * (x.ch / 4) else x.ch)
  refine ⟨State.wr_kept _ _ _ _ (State.wr_kept _ _ _ _ (State.wr_kept _ _ _ _ (hs.kept _) rfl) rfl) rfl, ?_, ?_,
    (((OnlyFields.refl hs.regs _).wr (.head _) _).wr (.tail _ (.head _)) _).wr (.tail _ (.tail _ (.head _))) _⟩
  · rw [State.injTold, State.wrB, State.rd_wr_ne hch _ _ _ _ _ (.inr (by decide)), State.rd_wr_ne hst _ _ _ _ _ (.inr (by decide)),
      State.rd_wr hs.regs _ _ _ (by decide)]
    rfl
  · rw [State.injTold, State.wrB, State.rd_wr_ne hch _ _ _ _ _ (.inr (by decide)), State.rd_wr hst _ _ _ (by decide)]
    rfl

/-- Outside its fields a completion leaves the registers. -/
theorem State.Sound.injShown_fields : OnlyFields (doneFields (x.ch / 4)) s (s.injShown x status) ∧ Kept 4 s (s.injShown x status) := by
  obtain ⟨hkept, -, -, hfields⟩ := hs.injTold_outcome x status
  have htold := hfields.mono (W' := doneFields (x.ch / 4)) fun y hy => List.mem_append_left _ hy
  rw [State.injShown]
  split
  · exact ⟨htold.forEach fun u ch hch hu => hu.wr (pending_mem_doneFields hch) _,
      State.forEach_kept hkept fun u ch hu => State.wr_kept u _ _ _ hu rfl⟩
  · exact ⟨htold, hkept⟩

end

/-- What a completion shows. -/
structure State.InjDone (s t : State) (x : Inject) (status : Nat) : Prop where
  status : t.rd F.ADC_INJ_STAT_LAST_STATUS (x.ch / 4) = status % 8
  chan : t.rd F.ADC_INJ_STAT_LAST_CH (x.ch / 4) = (if x.skew then 4 * (x.ch / 4) else x.ch) % 64
  plain : x.skew = false → s.sameRegs t [injStat (x.ch / 4)]
  ended : x.skew = true → s.injQueue (x.ch / 4) = [] → ∀ ch ∈ clusterChans (x.ch / 4), t.rd F.FLT_SKEW_MEAS_PENDING ch = 0

theorem State.Sound.injShown_done {s : State} (hs : s.Sound) {x : Inject} (hx : x.ch < 64) (status : Nat) :
    State.InjDone s (s.injShown x status) x status := by
  obtain ⟨hkept, hstatus, hchan, hfields⟩ := hs.injTold_outcome x status
  have htold : s.sameRegs (s.injTold x status) [injStat (x.ch / 4)] := hfields.sameRegs_one (by simp [Fld.addr, F.ADC_INJ_STAT])
  rw [State.injShown]
  split
  · next hend =>
    have hskew : x.skew = true := (Bool.and_eq_true_iff.1 hend).1
    obtain ⟨u, hu⟩ : ∃ u, u = s.injTold x status := ⟨_, rfl⟩
    rw [← hu] at hkept hstatus hchan ⊢
    obtain ⟨hzero, hsame⟩ := State.forEach_wr F.FLT_SKEW_MEAS_PENDING 0 (by decide) (by decide) id (clusterChans (x.ch / 4)) hkept.regs
    have hstat : injStat (x.ch / 4) ∉ (clusterChans (x.ch / 4)).map fun ch => F.FLT_SKEW_MEAS_PENDING.addr (id ch) := by
      simp only [List.mem_map, not_exists, not_and, Fld.addr, id_eq, injStat, F.ADC_INJ_STAT]
      omega
    have hheld := hsame _ hstat
    exact ⟨(State.rd_of_regGet (f := F.ADC_INJ_STAT_LAST_STATUS) (i := x.ch / 4) hheld).trans hstatus,
      (State.rd_of_regGet (f := F.ADC_INJ_STAT_LAST_CH) (i := x.ch / 4) hheld).trans hchan,
      fun h => (Bool.false_ne_true (h.symm.trans hskew)).elim, fun _ _ ch hch => hzero ch (.inl ⟨ch, hch, rfl⟩)⟩
  · next hend =>
    refine ⟨hstatus, hchan, fun _ => htold, fun hskew hq => absurd ?_ hend⟩
    rw [hskew, hq]
    rfl

/-! ### A window's count is assigned, and the head leaves (R57, R119, R120) -/

/-- The changes of a cluster's channels move, and nothing else. -/
theorem State.Sound.clearWindows_outcome {s : State} (hs : s.Sound) (g : Nat) : Kept 16384 s (s.clearWindows g) ∧
    ∀ c, c / 4 ≠ g → (s.clearWindows g).chan c = s.chan c := by
  refine ⟨State.clearWindows_kept s g (hs.kept _) rfl, fun c hc => ?_⟩
  refine State.forEach_induction (P := fun t => t.chan c = s.chan c) rfl fun t ch hch ht => ?_
  have hne : c ≠ ch := by
    obtain ⟨i, hi, rfl⟩ := List.mem_map.1 hch
    have := List.mem_range.1 hi
    omega
  exact (State.chan_onChan_ne t hne _).trans ht

/-- A request that is alone in its queue, while its units are on and its region does not rehearse, gets its window. -/
theorem State.assignInject_sole {s : State} {g n : Nat} {x : Inject} (hq : s.injQueue g = [x]) (hni : x.ni = none)
    (hreh : (s.adc.reh.getD (g / 4) {}).busy = false)
    (hon : (if x.skew then (clusterChans g).all fun ch => !s.unitOn ch else !s.unitOn x.ch) = false) :
    s.assignInject g n = (s.setInjQueue g [{ x with ni := some (max x.least (nextMultiple 64 n)) }]).clearWindows g := by
  rw [State.assignInject, hq, State.forEach, List.foldl_cons, List.foldl_nil, hq]
  dsimp only
  rw [hni, hreh, hon, bne_self_eq_false]
  rfl

theorem State.assignInject_empty {s : State} {g : Nat} (hq : s.injQueue g = []) (n : Nat) : s.assignInject g n = s := by
  rw [State.assignInject, hq]
  rfl

/-- The sole request of a queue leaves it. -/
theorem State.popInject_sole {s : State} (hlen : s.adc.inj.length = 16) {g : Nat} (hg : g < 16) {x : Inject} (hq : s.injQueue g = [x])
    (hprm : x.prm = none) (status n : Nat) (hs : s.Sound) : s.popInject g status n = (s.setInjQueue g []).injShown x status := by
  have hempty : ((s.setInjQueue g []).injShown x status).injQueue g = [] :=
    (State.injQueue_of_adc (((hs.setInjQueue_kept g []).sound.injShown_fields x status).2.adc rfl) g).trans
      (State.injQueue_setInjQueue hlen hg [])
  rw [State.popInject, hq]
  dsimp only
  rw [State.injComplete_host hprm, State.assignInject_empty hempty]

end Sys2Proof.Machine
end

section
/-! SUPPORT. Requests and windows of injected conversions and skew calibrations (R119 to R122, R129). -/

namespace Sys2Proof.Machine

/-! ### A request (R57, R119) -/

/-- A request that is not refused finds a unit on. -/
theorem State.injRefusal_on {s : State} {x : Inject} (h : s.injRefusal x = none) :
    (if x.skew then (clusterChans (x.ch / 4)).all fun ch => !s.unitOn ch else !s.unitOn x.ch) = false := by
  rw [State.injRefusal] at h
  generalize (if x.skew then (clusterChans (x.ch / 4)).all fun ch => !s.unitOn ch else !s.unitOn x.ch) = off at h ⊢
  cases off with
  | false => rfl
  | true =>
    split at h <;> cases h

/-- The request with its window, while none is before it. -/
def State.injPlanned (s : State) (x : Inject) (ns : Nat) : Inject :=
  { x with at_ := s.clk.count, least := boundaryAfter 64 (s.reach ns), ni := some (boundaryAfter 64 (s.reach ns)) }

theorem State.injPlanned_bounds (s : State) (ns : Nat) :
    boundaryAfter 64 (s.reach ns) % 64 = 0 ∧ s.clk.count + 32 ≤ boundaryAfter 64 (s.reach ns) := by
  obtain ⟨hmod, hle, -⟩ := boundaryAfter_bounds (m := 64) (by decide) (s.reach ns)
  have hreach : s.clk.count ≤ s.reach ns := Nat.le_add_right _ _
  exact ⟨hmod, by omega⟩

/-- What a request that is taken into an empty queue leaves. -/
structure State.Requested (s t : State) (x y : Inject) : Prop where
  queue : t.injQueue (x.ch / 4) = [y]
  pending : t.rd F.ADC_INJ_STAT_PENDING (x.ch / 4) = 1
  fields : OnlyFields [(F.ADC_INJ_STAT_PENDING, x.ch / 4)] s t
  others : ∀ c, c / 4 ≠ x.ch / 4 → t.chan c = s.chan c
  kept : Kept 81924 s t

theorem State.requestInject_refused {s : State} {x : Inject} {st : Nat} (h : s.injRefusal x = some st) (ns : Nat) :
    s.requestInject x ns = s.injComplete x st := by rw [State.requestInject, h]

theorem State.Sound.requestInject_taken {s : State} (hs : s.Sound) (hlen : s.adc.inj.length = 16) {x : Inject} (hx : x.ch < 64)
    (hok : s.injRefusal x = none) (hq : s.injQueue (x.ch / 4) = []) (hreh : (s.adc.reh.getD (x.ch / 4 / 4) {}).busy = false)
    (hni : x.ni = none) (ns : Nat) : State.Requested s (s.requestInject x ns) x (s.injPlanned x ns) := by
  obtain ⟨g, hg⟩ : ∃ g, g = x.ch / 4 := ⟨_, rfl⟩
  obtain ⟨y, hy⟩ : ∃ y : Inject, y = { x with at_ := s.clk.count, least := boundaryAfter 64 (s.reach ns) } := ⟨_, rfl⟩
  obtain ⟨u, hu⟩ : ∃ u, u = s.setInjQueue g [y] := ⟨_, rfl⟩
  have hg16 : g < 16 := by omega
  have huk : Kept 65540 s u := hu ▸ hs.setInjQueue_kept g [y]
  have hadc : u.adc = { s.adc with inj := s.adc.inj.set g [y] } := by
    rw [hu]
    rfl
  have hulen : u.adc.inj.length = 16 := by
    rw [hadc]
    exact (List.length_set ..).trans hlen
  have huq : u.injQueue g = [y] := hu ▸ State.injQueue_setInjQueue hlen hg16 _
  have huon : (if y.skew then (clusterChans g).all fun ch => !u.unitOn ch else !u.unitOn y.ch) = false := by
    have hon := State.injRefusal_on hok
    rw [← hg] at hon
    simp only [State.unitOn, huk.plane rfl, hy]
    exact hon
  have hureh : (u.adc.reh.getD (g / 4) {}).busy = false := by
    rw [hadc, hg]
    exact hreh
  have hplan : ({ y with ni := some (max y.least (nextMultiple 64 0)) } : Inject) = s.injPlanned x ns := by
    have hmax : max y.least (nextMultiple 64 0) = boundaryAfter 64 (s.reach ns) := by
      rw [hy]
      exact Nat.max_eq_left (Nat.zero_le _)
    rw [hmax, hy]
    rfl
  have hdo : s.requestInject x ns = ((u.setInjQueue g [s.injPlanned x ns]).clearWindows g).clearWindows g := by
    have hassign := State.assignInject_sole (n := 0) huq (by rw [hy]; exact hni) hureh huon
    rw [hplan] at hassign
    rw [State.requestInject, hok]
    dsimp only
    rw [hq, ← hg, ← hassign, hu, hy]
    rfl
  obtain ⟨v, hv⟩ : ∃ v, v = u.setInjQueue g [s.injPlanned x ns] := ⟨_, rfl⟩
  have hvk : Kept 65540 u v := hv ▸ huk.sound.setInjQueue_kept g _
  have hvq : v.injQueue g = [s.injPlanned x ns] := hv ▸ State.injQueue_setInjQueue hulen hg16 _
  have hvp : v.rd F.ADC_INJ_STAT_PENDING g = 1 := hv ▸ huk.sound.setInjQueue_pending g [s.injPlanned x ns] (Nat.lt_of_sub_eq_succ rfl)
  have hvf : OnlyFields [(F.ADC_INJ_STAT_PENDING, g)] s v :=
    (hu ▸ hs.setInjQueue_fields g [y]).trans (hv ▸ huk.sound.setInjQueue_fields g _)
  obtain ⟨hw, hwo⟩ := hvk.sound.clearWindows_outcome g
  obtain ⟨hw', hwo'⟩ := hw.sound.clearWindows_outcome g
  have hclear : Kept 16384 v ((v.clearWindows g).clearWindows g) := hw.trans hw'
  have hregs : ((v.clearWindows g).clearWindows g).regs = v.regs := hclear.regs_eq rfl
  rw [← hv] at hdo
  rw [hdo]
  refine ⟨?_, ?_, ?_, fun c hc => ?_, (huk.mono rfl).trans ((hvk.mono rfl).trans (hclear.mono rfl))⟩
  · rw [← hg]
    exact (State.injQueue_of_adc (hclear.adc rfl) g).trans hvq
  · rw [← hg]
    exact (State.rd_of_regs hregs _ _).trans hvp
  · rw [← hg]
    exact hvf.congr hregs
  · rw [← hg] at hc
    refine (hwo' c hc).trans ((hwo c hc).trans ?_)
    rw [State.chan, hvk.chans_eq rfl, huk.chans_eq rfl, State.chan]

/-! ### The start of a window (R120, R121) -/

theorem Inject.len_pos (x : Inject) : 0 < x.len := by
  unfold Inject.len
  split <;> decide

/-- The window of a request begins. -/
def State.openWindow (s : State) (g : Nat) (x : Inject) (rest : List Inject) (n : Nat) : State :=
  (s.toCount n).setInjQueue g ({ x with running := true } :: rest)

/-- A channel's marks at the start of a window. -/
def State.markWindow (s : State) (x : Inject) (n ch : Nat) : State :=
  (s.mark ch { kind := .rehearsal, a := n, b := n + x.len - 1, f := s.firHalf ch }).mark ch
    { kind := .settle, a := n, b := n + 15, stream := false }

theorem State.doInjectStart_due {s : State} {g n : Nat} {x : Inject} {rest : List Inject} (hq : s.injQueue g = x :: rest)
    (hni : x.ni = some n) (hrun : x.running = false) :
    s.doInjectStart g = (s.openWindow g x rest n).forEach x.chans fun s ch => s.markWindow x n ch := by
  obtain ⟨ch, skew, signal, at_, least, ni, running, prm⟩ := x
  obtain rfl : ni = some n := hni
  obtain rfl : running = false := hrun
  rw [State.doInjectStart, hq]
  rfl

theorem State.markWindow_kept {m : Nat} {r s : State} (h : Kept m r s) (hm : 16384 &&& m = 16384) (x : Inject) (n ch : Nat) :
    Kept m r (s.markWindow x n ch) := State.mark_kept _ _ _ (State.mark_kept _ _ _ h hm) hm

/-- Each channel of a window carries its mark. -/
theorem State.Sound.markWindows_marked {s : State} (hs : s.Sound) (x : Inject) (n : Nat) (l : List Nat) {ch : Nat} (hmem : ch ∈ l)
    (hch : ch < 64) : ∃ y ∈ ((s.forEach l fun s ch => s.markWindow x n ch).chan ch).spans,
      y.kind = .rehearsal ∧ y.a = n ∧ y.b + 1 = n + x.len := by
  have hlen := x.len_pos
  have hstay (l : List Nat) {u : State} {y : Span} (hy : y ∈ (u.chan ch).spans) :
      y ∈ ((u.forEach l fun s ch => s.markWindow x n ch).chan ch).spans :=
    State.forEach_induction (P := fun t => y ∈ (t.chan ch).spans) hy fun t q _ ht =>
      State.spans_mark_of_mem q _ (State.spans_mark_of_mem q _ ht)
  induction l generalizing s with
  | nil => cases hmem
  | cons q l ih =>
    rcases List.mem_cons.1 hmem with rfl | hmem
    · refine ⟨{ kind := .rehearsal, a := n, b := n + x.len - 1, f := s.firHalf ch }, hstay l (State.spans_mark_of_mem ch _ ?_), rfl,
        rfl, Nat.sub_add_cancel (Nat.le_add_left_of_le hlen)⟩
      rw [State.mark, State.chan_onChan (hs.chans.symm ▸ hch)]
      exact .head _
    · exact ih (State.markWindow_kept (hs.kept 16384) rfl x n q).sound hmem

/-! ### The end of a window (R120, R122) -/

theorem State.doInjectComplete_due {s : State} {g n : Nat} {x : Inject} {rest : List Inject} (hq : s.injQueue g = x :: rest)
    (hni : x.ni = some n) (hrun : x.running = true) (hskew : x.skew = false) : s.doInjectComplete g = s.endWindow g x n := by
  rw [State.doInjectComplete, hq]
  dsimp only
  rw [hni]
  dsimp only
  rw [hrun, hskew]
  rfl

/-- The end of the window of a sole request of the host. -/
structure State.WindowEnded (s t : State) (g : Nat) (x : Inject) (n : Nat) : Prop where
  queue : t.injQueue g = []
  count : s.clk.running = true → t.clk.count = max s.clk.count (n + x.len)
  shown : ∃ u : State, u.regs = s.regs ∧ u.Sound ∧ State.InjDone (u.setInjQueue g []) t x 0 ∧ (u.setInjQueue g []).injQueue g = [] ∧
    OnlyFields ((F.ADC_INJ_STAT_PENDING, g) :: doneFields (x.ch / 4)) s t
  kept : Kept 81940 s t

theorem State.Sound.endWindow_ended {s : State} (hs : s.Sound) (hlen : s.adc.inj.length = 16) {g n : Nat} (hg : g < 16) {x : Inject}
    (hx : x.ch < 64) (hq : s.injQueue g = [x]) (hprm : x.prm = none) : State.WindowEnded s (s.endWindow g x n) g x n := by
  obtain ⟨u, hu⟩ : ∃ u, u = (s.toCount (n + x.len)).forEach x.chans fun s ch =>
    (s.onSource ch n fun y => { y with fe := some (s.firHalf ch) }).mark ch
      { kind := .settle, a := n + x.len, b := n + x.len + 15, f := s.firHalf ch } := ⟨_, rfl⟩
  have hcount : Kept 16 s (s.toCount (n + x.len)) := State.toCount_kept s _ (hs.kept _) rfl
  have hmarks : Kept 16384 (s.toCount (n + x.len)) u := by
    rw [hu]
    exact State.forEach_kept (hcount.sound.kept _) fun v ch hv => State.mark_kept _ _ _ (State.onSource_kept v ch n _ hv rfl) rfl
  have hregs : u.regs = s.regs := (hmarks.regs_eq rfl).trans (s.toCount_regs _)
  have hadc : u.adc = s.adc := (hmarks.adc rfl).trans (hcount.adc rfl)
  have huq : u.injQueue g = [x] := (State.injQueue_of_adc hadc g).trans hq
  have hulen : u.adc.inj.length = 16 := hadc ▸ hlen
  have hend : s.endWindow g x n = (u.setInjQueue g []).injShown x 0 := by
    rw [← State.popInject_sole hulen hg huq hprm 0 (n + x.len) hmarks.sound, hu]
    rfl
  have hset : Kept 65540 u (u.setInjQueue g []) := hmarks.sound.setInjQueue_kept g []
  obtain ⟨hfields, hkept⟩ := hset.sound.injShown_fields x 0
  have hempty : (u.setInjQueue g []).injQueue g = [] := State.injQueue_setInjQueue hulen hg []
  rw [hend]
  refine ⟨?_, fun hrun => ?_, ⟨u, hregs, hmarks.sound, hset.sound.injShown_done hx 0, hempty, ?_⟩, ?_⟩
  · exact (State.injQueue_of_adc (hkept.adc rfl) g).trans hempty
  · rw [hkept.clk rfl, hset.clk rfl, hmarks.clk rfl]
    exact State.toCount_count hrun _
  · have hpend := (hmarks.sound.setInjQueue_fields g []).mono (W' := (F.ADC_INJ_STAT_PENDING, g) :: doneFields (x.ch / 4)) (by simp)
    exact ((((OnlyFields.refl hs.regs _).congr hregs).trans hpend)).trans (hfields.mono fun y hy => .tail _ hy)
  · exact (hcount.mono rfl).trans ((hmarks.mono rfl).trans ((hset.mono rfl).trans (hkept.mono rfl)))

end Sys2Proof.Machine
end

section
/-! SUPPORT. Skew calibrations and faulty sources (R58, R129). -/

namespace Sys2Proof.Machine

/-- What each step of a loop establishes for its entry, and no other step undoes, holds for every entry at the end. -/
theorem State.forEach_each {a : Type} {I : State → Prop} {Q : a → State → Prop} {f : State → a → State} {s : State} (hs : I s)
    (l : List a) (hstep : ∀ t, ∀ x ∈ l, I t → I (f t x) ∧ Q x (f t x))
    (hkeep : ∀ t, ∀ x ∈ l, ∀ y ∈ l, x ≠ y → I t → Q y t → Q y (f t x)) : I (s.forEach l f) ∧ ∀ x ∈ l, Q x (s.forEach l f) := by
  classical
  have hfold {done : List a} (todo : List a) (hl : ∀ x ∈ todo, x ∈ l) (hd : ∀ x ∈ done, x ∈ l) {t : State} (ht : I t)
      (hq : ∀ x ∈ done, Q x t) : I (t.forEach todo f) ∧ ∀ x, x ∈ done ∨ x ∈ todo → Q x (t.forEach todo f) := by
    induction todo generalizing done t with
    | nil => exact ⟨ht, fun x hx => hq x (hx.resolve_right List.not_mem_nil)⟩
    | cons y todo ih =>
      obtain ⟨hi, hy⟩ := hstep t y (hl y (.head _)) ht
      have hnext := ih (done := y :: done) (fun x hx => hl x (.tail _ hx)) (fun x hx => by
        rcases List.mem_cons.1 hx with rfl | hx
        · exact hl _ (.head _)
        · exact hd x hx) hi fun x hx => by
          by_cases hxy : y = x
          · exact hxy ▸ hy
          · have hx' := (List.mem_cons.1 hx).resolve_left fun e => hxy e.symm
            exact hkeep t y (hl y (.head _)) x (hd x hx') hxy ht (hq x hx')
      refine ⟨hnext.1, fun x hx => hnext.2 x ?_⟩
      rcases hx with hx | hx
      · exact .inl (.tail _ hx)
      · rcases List.mem_cons.1 hx with rfl | hx
        · exact .inl (.head _)
        · exact .inr hx
  have hall := hfold (done := []) l (fun _ h => h) (fun x hx => absurd hx List.not_mem_nil) hs fun x hx => absurd hx List.not_mem_nil
  exact ⟨hall.1, fun x hx => hall.2 x (.inr hx)⟩

theorem mem_clusterChans {g ch : Nat} : ch ∈ clusterChans g ↔ ∃ u < 4, 4 * g + u = ch := by
  simp [clusterChans]

theorem clusterChans_lt {g ch : Nat} (hg : g < 16) (h : ch ∈ clusterChans g) : ch < 64 := by
  obtain ⟨u, hu, rfl⟩ := mem_clusterChans.1 h
  omega

theorem State.injRefusal_congr {s t : State} (hp : t.plane = s.plane) (hr : t.regions = s.regions) (ha : t.adc = s.adc) (x : Inject) :
    t.injRefusal x = s.injRefusal x := by
  unfold State.injRefusal State.unitOn State.region State.injQueue
  rw [hp, hr, ha]

theorem State.injRefusal_lt {s : State} {x : Inject} {st : Nat} (h : s.injRefusal x = some st) : st < 8 := by
  rw [State.injRefusal] at h
  generalize (if x.skew then (clusterChans (x.ch / 4)).all fun ch => !s.unitOn ch else !s.unitOn x.ch) = off at h
  repeat' split at h
  all_goals cases h
  all_goals decide

/-! ### The request of a skew calibration (R129) -/

/-- The cluster's units show a calibration under way. -/
def State.skewAsked (s : State) (g : Nat) : State :=
  s.forEach (clusterChans g) fun s ch => (s.wr F.FLT_SKEW_MEAS_PENDING ch 1).wr F.FLT_SKEW_MEAS_VALID ch 0

/-- The request of a skew calibration of a cluster. -/
def skewReq (g : Nat) : Inject := { ch := 4 * g, skew := true, signal := (3, 1, 1) }

theorem oneHot_filter : ∀ g : Fin 16, (List.range 16).filter (fun k => (2 ^ g.val).testBit k) = [g.val] := by decide

theorem State.doSkewCal_one (s : State) (g : Fin 16) (ns : Nat) :
    s.doSkewCal (2 ^ g.val) ns = (s.skewAsked g).requestInject (skewReq g) ns := by
  rw [State.doSkewCal, oneHot_filter]
  rfl

/-- The fields of a cluster's measurements. -/
def skewFields (g : Nat) : List RegField :=
  (clusterChans g).flatMap fun ch => [(F.FLT_SKEW_MEAS_PENDING, ch), (F.FLT_SKEW_MEAS_VALID, ch), (F.FLT_SKEW_MEAS_MEAS, ch)]

/-- They stand in the cluster's registers of FLT_SKEW_MEAS. -/
theorem skewFields_regs {g : Nat} : ∀ y ∈ skewFields g, y.1.addr y.2 ∈ (List.range 4).map fun u => F.FLT_SKEW_MEAS_VALID.addr (4 * g + u) := by
  intro y hy
  obtain ⟨ch, hch, hy⟩ := List.mem_flatMap.1 hy
  obtain ⟨u, hu, rfl⟩ := mem_clusterChans.1 hch
  refine List.mem_map.2 ⟨u, List.mem_range.2 hu, ?_⟩
  simp only [List.mem_cons, List.not_mem_nil, or_false] at hy
  rcases hy with rfl | rfl | rfl <;> rfl

/-- A completion's fields stand in ADC_INJ_STAT and in the cluster's registers of FLT_SKEW_MEAS. -/
theorem doneFields_regs (g : Nat) : ∀ y ∈ doneFields g, y.1.addr y.2 ∈ injStat g :: (List.range 4).map fun u =>
    F.FLT_SKEW_MEAS_VALID.addr (4 * g + u) := by
  intro y hy
  rcases List.mem_append.1 hy with hy | hy
  · simp only [List.mem_cons, List.not_mem_nil, or_false] at hy
    rcases hy with rfl | rfl | rfl <;> exact .head _
  · obtain ⟨ch, hch, rfl⟩ := List.mem_map.1 hy
    obtain ⟨u, hu, rfl⟩ := mem_clusterChans.1 hch
    exact .tail _ (List.mem_map.2 ⟨u, List.mem_range.2 hu, rfl⟩)

/-- The end of a request leaves VALID. -/
theorem doneFields_apart_valid {g ch : Nat} (hg : g < 16) :
    ∀ y ∈ (F.ADC_INJ_STAT_PENDING, g) :: doneFields g, FieldsApart (F.FLT_SKEW_MEAS_VALID, ch) y := by
  intro y hy
  have hstat {f : Fld} (hb : f.base = F.ADC_INJ_STAT) (hstride : f.stride = 4) : FieldsApart (F.FLT_SKEW_MEAS_VALID, ch) (f, g) := by
    refine .inl ?_
    simp only [Fld.addr, hb, hstride, F.ADC_INJ_STAT]
    omega
  simp only [doneFields, List.cons_append, List.nil_append, List.mem_cons, List.mem_map] at hy
  rcases hy with rfl | rfl | rfl | rfl | ⟨q, -, rfl⟩
  · exact hstat rfl rfl
  · exact hstat rfl rfl
  · exact hstat rfl rfl
  · exact hstat rfl rfl
  · exact .inr (.inl (Nat.le_refl 17))

theorem mem_skewFields {g ch : Nat} (h : ch ∈ clusterChans g) {y : RegField}
    (hy : y ∈ [(F.FLT_SKEW_MEAS_PENDING, ch), (F.FLT_SKEW_MEAS_VALID, ch), (F.FLT_SKEW_MEAS_MEAS, ch)]) : y ∈ skewFields g :=
  List.mem_flatMap.2 ⟨ch, h, hy⟩

/-- Two writes in one register of a row leave the row's other registers. -/
theorem State.rd_wr_wr_other {t : State} (hwf : tableWf coldWord t.regs = true) (f f₁ f₂ : Fld) (h₁ : f₁.base = f.base ∧ f₁.stride = 4)
    (h₂ : f₂.base = f.base ∧ f₂.stride = 4) (hf : f.stride = 4) {ch q : Nat} (h : q ≠ ch) (v₁ v₂ : Nat) :
    ((t.wr f₁ q v₁).wr f₂ q v₂).rd f ch = t.rd f ch := by
  have hne {f' : Fld} (hf' : f'.base = f.base ∧ f'.stride = 4) : f.addr ch ≠ f'.addr q := by
    simp only [Fld.addr, hf, hf'.1, hf'.2]
    omega
  rw [State.rd_wr_ne (State.wf_wr hwf _ _ _) _ _ _ _ _ (.inl (hne h₂)), State.rd_wr_ne hwf _ _ _ _ _ (.inl (hne h₁))]

theorem State.Sound.skewAsked_outcome {s : State} (hs : s.Sound) (g : Nat) :
    (Kept 4 s (s.skewAsked g) ∧ OnlyFields (skewFields g) s (s.skewAsked g)) ∧ ∀ ch ∈ clusterChans g,
      (s.skewAsked g).rd F.FLT_SKEW_MEAS_PENDING ch = 1 ∧ (s.skewAsked g).rd F.FLT_SKEW_MEAS_VALID ch = 0 := by
  refine State.forEach_each (I := fun t => Kept 4 s t ∧ OnlyFields (skewFields g) s t)
    (Q := fun ch t => t.rd F.FLT_SKEW_MEAS_PENDING ch = 1 ∧ t.rd F.FLT_SKEW_MEAS_VALID ch = 0)
    ⟨hs.kept 4, .refl hs.regs _⟩ (clusterChans g) (fun t ch hch ⟨hk, hf⟩ => ⟨⟨?_, ?_⟩, ?_, ?_⟩) fun t q _ ch _ hne ⟨hk, _⟩ hq => ?_
  · exact State.wr_kept _ _ _ _ (State.wr_kept _ _ _ _ hk rfl) rfl
  · exact (hf.wr (mem_skewFields hch (.head _)) _).wr (mem_skewFields hch (.tail _ (.head _))) _
  · rw [State.rd_wr_ne (State.wf_wr hk.regs _ _ _) _ _ _ _ _ (.inr (by decide)), State.rd_wr hk.regs _ _ _ (by decide)]
    rfl
  · rw [State.rd_wr (State.wf_wr hk.regs _ _ _) _ _ _ (by decide)]
    rfl
  · have hother (f : Fld) (hb : f.base = F.FLT_SKEW_MEAS_VALID.base ∧ f.stride = 4) :=
      State.rd_wr_wr_other hk.regs f F.FLT_SKEW_MEAS_PENDING F.FLT_SKEW_MEAS_VALID ⟨hb.1.symm, rfl⟩ ⟨hb.1.symm, rfl⟩ hb.2 hne 1 0
    exact ⟨(hother F.FLT_SKEW_MEAS_PENDING ⟨rfl, rfl⟩).trans hq.1, (hother F.FLT_SKEW_MEAS_VALID ⟨rfl, rfl⟩).trans hq.2⟩

/-! ### The end of a skew calibration (R129) -/

/-- The measurements of the cluster's enabled units. -/
def State.skewMeasured (s : State) (g : Nat) (meas : List Int) : State :=
  s.forEach (clusterChans g) fun s ch =>
    if s.unitOn ch then (s.wrS F.FLT_SKEW_MEAS_MEAS ch (meas.getD (ch % 4) 0)).wr F.FLT_SKEW_MEAS_VALID ch 1 else s

theorem State.doSkewCalComplete_due {s : State} {g n : Nat} {x : Inject} {rest : List Inject} (meas : List Int)
    (hq : s.injQueue g = x :: rest) (hni : x.ni = some n) (hrun : x.running = true) (hskew : x.skew = true) :
    s.doSkewCalComplete g meas = ((s.toCount (n + x.len)).skewMeasured g meas).endWindow g x n := by
  obtain ⟨ch, skew, signal, at_, least, ni, running, prm⟩ := x
  obtain rfl : ni = some n := hni
  obtain rfl : running = true := hrun
  obtain rfl : skew = true := hskew
  rw [State.doSkewCalComplete, hq]
  rfl

theorem State.Sound.skewMeasured_outcome {s : State} (hs : s.Sound) (g : Nat) (meas : List Int) :
    (Kept 4 s (s.skewMeasured g meas) ∧ OnlyFields (skewFields g) s (s.skewMeasured g meas)) ∧ ∀ ch ∈ clusterChans g,
      s.unitOn ch = true → (s.skewMeasured g meas).rd F.FLT_SKEW_MEAS_VALID ch = 1 := by
  refine State.forEach_each (I := fun t => Kept 4 s t ∧ OnlyFields (skewFields g) s t)
    (Q := fun ch t => s.unitOn ch = true → t.rd F.FLT_SKEW_MEAS_VALID ch = 1)
    ⟨hs.kept 4, .refl hs.regs _⟩ (clusterChans g) (fun t ch hch ⟨hk, hf⟩ => ?_) fun t q _ ch _ hne ⟨hk, _⟩ hq hon => ?_
  · have hon : t.unitOn ch = s.unitOn ch := by rw [State.unitOn, hk.plane rfl, State.unitOn]
    split
    · refine ⟨⟨State.wr_kept _ _ _ _ (State.wr_kept _ _ _ _ hk rfl) rfl,
        (hf.wr (mem_skewFields hch (.tail _ (.tail _ (.head _)))) _).wr (mem_skewFields hch (.tail _ (.head _))) _⟩, fun _ => ?_⟩
      exact State.rd_wr (State.wf_wr hk.regs _ _ _) F.FLT_SKEW_MEAS_VALID ch 1 (by decide)
    · next hoff => exact ⟨⟨hk, hf⟩, fun h => absurd (hon.trans h) hoff⟩
  · split
    · exact (State.rd_wr_wr_other hk.regs F.FLT_SKEW_MEAS_VALID F.FLT_SKEW_MEAS_MEAS F.FLT_SKEW_MEAS_VALID ⟨rfl, rfl⟩ ⟨rfl, rfl⟩ rfl
        hne _ 1).trans (hq hon)
    · exact hq hon

/-! ### A faulty source (R58, R112) -/

/-- The fault is noted and reported. -/
def State.sourceNoted (s : State) (g : Nat) : State :=
  (s.onPlane fun p => { p with sourceFault := g :: p.sourceFault }).report 0x2204
    ((s.onPlane fun p => { p with sourceFault := g :: p.sourceFault }).locCluster g) 0

/-- The requests of cluster g that wait are refused. -/
def State.waitsRefused (s : State) (g : Nat) : State :=
  (s.setInjQueue g ((s.injQueue g).filter fun x => x.running)).forEach ((s.injQueue g).filter fun x => !x.running)
    fun s x => s.injComplete x injSource

/-- The previous factors come back. -/
def State.factorsBack (s : State) (g : Nat) (x : Reh) : State :=
  s.forEach ((clusterChans g).filter fun ch => x.units.contains ch) fun s ch => s.loadFactors ch (x.old ch)

theorem State.doSourceFault_eq {s : State} {g : Nat} (h : s.plane.sourceFault.contains g = false) : ∃ u,
    u = (s.sourceNoted g).waitsRefused g ∧ s.doSourceFault g =
      if (u.rehOf (g / 4)).connected && decide (5 < (u.rehOf (g / 4)).phase) then u.factorsBack g (u.rehOf (g / 4)) else u :=
  ⟨_, rfl, if_neg (Bool.eq_false_iff.1 h)⟩

section
variable {s : State} (hs : s.Sound) {g : Nat}
include hs

theorem State.Sound.sourceNoted_outcome (g : Nat) : (s.sourceNoted g).plane = { s.plane with sourceFault := g :: s.plane.sourceFault } ∧
    (s.sourceNoted g).adc = s.adc ∧ LowKept s (s.sourceNoted g) ∧ Kept 4614 s (s.sourceNoted g) := by
  obtain ⟨u, hu⟩ : ∃ u, u = s.onPlane fun p => { p with sourceFault := g :: p.sourceFault } := ⟨_, rfl⟩
  have hplane : u.plane = { s.plane with sourceFault := g :: s.plane.sourceFault } := by rw [hu]; rfl
  have huk : Kept 4096 s u := hu ▸ State.onPlane_kept _ _ (hs.kept _) rfl
  have hnoted : s.sourceNoted g = u.report 0x2204 (u.locCluster g) 0 := by rw [hu]; rfl
  have hreport : Kept 518 u (s.sourceNoted g) := hnoted ▸ State.report_kept u _ _ _ (huk.sound.kept _) rfl
  refine ⟨(hreport.plane rfl).trans hplane, (hreport.adc rfl).trans (huk.adc rfl), ?_, (huk.mono rfl).trans (hreport.mono rfl)⟩
  rw [hnoted]
  exact ((LowKept.refl hs.regs).congr (huk.regs_eq rfl)).report _ _ _

theorem State.Sound.waitsRefused_outcome (hlen : s.adc.inj.length = 16) (hg : g < 16) :
    (s.waitsRefused g).adc = (s.setInjQueue g ((s.injQueue g).filter fun x => x.running)).adc ∧
    (s.waitsRefused g).injQueue g = (s.injQueue g).filter (fun x => x.running) ∧ Kept 66694 s (s.waitsRefused g) := by
  have hset := hs.setInjQueue_kept g ((s.injQueue g).filter fun x => x.running)
  have hall : Kept 1158 (s.setInjQueue g ((s.injQueue g).filter fun x => x.running)) (s.waitsRefused g) :=
    State.forEach_kept (hset.sound.kept _) fun u x hu => State.injComplete_kept u x injSource hu rfl
  exact ⟨hall.adc rfl, (State.injQueue_of_adc (hall.adc rfl) g).trans (State.injQueue_setInjQueue hlen hg _),
    (hset.mono rfl).trans (hall.mono rfl)⟩

/-- The registers in which the end of a queue's requests shows. -/
def refusedRegs (g : Nat) (q : List Inject) : List Nat :=
  injStat g :: q.flatMap fun x => injStat (x.ch / 4) :: (List.range 4).map fun u => F.FLT_SKEW_MEAS_VALID.addr (4 * (x.ch / 4) + u)

/-- Requests of the host end in those registers alone. -/
theorem State.Sound.waitsRefused_host (hhost : ∀ x ∈ s.injQueue g, x.running = true ∨ x.prm = none) :
    s.sameRegs (s.waitsRefused g) (refusedRegs g (s.injQueue g)) ∧ Kept 65540 s (s.waitsRefused g) := by
  have hset := hs.setInjQueue_kept g ((s.injQueue g).filter fun x => x.running)
  have hfields := hs.setInjQueue_fields g ((s.injQueue g).filter fun x => x.running)
  have hstart : s.sameRegs (s.setInjQueue g ((s.injQueue g).filter fun x => x.running)) (refusedRegs g (s.injQueue g)) :=
    hfields.sameRegs_of fun y hy => by
      obtain rfl := List.mem_singleton.1 hy
      exact .head _
  refine State.forEach_induction (P := fun t => s.sameRegs t (refusedRegs g (s.injQueue g)) ∧ Kept 65540 s t) ⟨hstart, hset⟩
    fun t x hx ⟨hsame, hk⟩ => ?_
  obtain ⟨hmem, hwaits⟩ := List.mem_filter.1 hx
  have hprm : x.prm = none := (hhost x hmem).resolve_left fun h => by
    rw [h] at hwaits
    cases hwaits
  obtain ⟨hdone, hkept⟩ := hk.sound.injShown_fields x injSource
  rw [State.injComplete_host hprm]
  refine ⟨hsame.trans (hdone.sameRegs_of fun y hy => .tail _ (List.mem_flatMap.2 ⟨x, hmem, ?_⟩)), hk.trans (hkept.mono rfl)⟩
  exact doneFields_regs _ y hy

theorem State.Sound.factorsBack_outcome (hg : g < 16) (x : Reh) : Kept 16388 s (s.factorsBack g x) ∧
    ∀ ch ∈ (clusterChans g).filter fun ch => x.units.contains ch, ∀ k < 32,
      (s.factorsBack g x).rd F.ADC_CAL_VALUE (32 * ch + k) = (x.old ch).getD k 0 % 2 ^ 16 := by
  refine State.forEach_each (I := fun t => Kept 16388 s t)
    (Q := fun ch t => ∀ k < 32, t.rd F.ADC_CAL_VALUE (32 * ch + k) = (x.old ch).getD k 0 % 2 ^ 16) (hs.kept _) _
    (fun t ch hch ht => ?_) fun t q hq ch _ hne ht hread k hk => ?_
  · obtain ⟨hrd, -, -, hput⟩ := ht.sound.putFactors_outcome (clusterChans_lt hg (List.mem_filter.1 hch).1) fun k => (x.old ch).getD k 0
    exact ⟨ht.trans hput, hrd⟩
  · obtain ⟨-, hsame, -, -⟩ := ht.sound.putFactors_outcome (clusterChans_lt hg (List.mem_filter.1 hq).1) fun k => (x.old q).getD k 0
    refine (State.rd_of_regGet (hsame _ ?_)).trans (hread k hk)
    rw [mem_calRegs]
    rintro ⟨j, hj, e⟩
    simp only [Fld.addr] at e
    omega

end

end Sys2Proof.Machine

open Sys2Proof Sys2Proof.Machine

/-- Settles O14, clause by clause: a queue's change and a completion each write their own fields (setInjQueue, injShown), and the
rest of a window is marks. -/
theorem injection : Obligations.Injection := by
  unfold Obligations.Injection
  intro s hs hlen
  have hsound := hs.sound
  have hdrawn := hsound.drawn
  refine ⟨fun p w x hx => ?_, fun g x rest n hq hni hrun => ?_, fun g x n hq hni hrun hskew hprm hch => ?_,
    fun p mask g hmask hok hq hreh => ?_, fun g x n meas hq hni hrun hskew hprm hch => ?_, fun g hfault => ?_⟩
  · have hch : x.ch < 64 := by
      rw [hx]
      exact getField_lt _ _ _
    have hni : x.ni = none := by rw [hx]
    have hprm : x.prm = none := by rw [hx]
    have hskew : x.skew = false := by rw [hx]
    have hexec : exec (.injectRequest p w) s = .next (s.accepted p fun u => u.requestInject x s.writeNs) := by
      obtain ⟨r, hr, hstore⟩ := hs.portStore_open p (a := F.ADC_INJ_REQ) (by decide +kernel) w
      refine (hs.awake.next_keeperDo fun s => s.hostWrite p F.ADC_INJ_REQ w).trans (congrArg _ (hstore.trans ?_))
      refine congrArg (s.accepted p) (funext fun u => ?_)
      rw [State.writeReg, State.writeMgt, State.writeFront, base_of_baseOf (b := F.ADC_INJ_REQ) (by decide +kernel) hr, hx]
      rfl
    refine ⟨fun hok hq hreh => ?_, fun st hst => ?_⟩
    · have hdone := hdrawn.requestInject_taken hlen hch hok hq hreh hni s.writeNs
      obtain ⟨hmod, hle⟩ := s.drawn.injPlanned_bounds s.writeNs
      exact ⟨_, _, hexec, hdone.queue, hmod, hle, hdone.pending, (hdone.fields.congr rfl).sameRegs_one (by simp [Fld.addr, F.ADC_INJ_STAT]),
        fun c hc => hdone.others c hc, (State.accepted_kept (m := 81956) rfl (hdone.kept.mono rfl)).eq_withParts⟩
    · have hdo : s.drawn.requestInject x s.writeNs = s.drawn.injShown x st :=
        (State.requestInject_refused (s := s.drawn) hst s.writeNs).trans (State.injComplete_host hprm _ _)
      have hdone := hdrawn.injShown_done hch st
      obtain ⟨-, hkept⟩ := hdrawn.injShown_fields x st
      refine ⟨_, hexec.trans (congrArg _ (State.accepted_of_drawn hdo)), ?_, ?_, hdone.plain hskew,
        (State.onPort_kept _ p _ (hkept.mono (m' := 36) rfl) rfl).eq_withParts⟩
      · exact hdone.status.trans (Nat.mod_eq_of_lt (State.injRefusal_lt hst))
      · refine hdone.chan.trans ?_
        rw [hskew]
        exact Nat.mod_eq_of_lt hch
  · have hdue := State.doInjectStart_due hq hni hrun
    have hcount : Kept 16 s (s.toCount n) := State.toCount_kept s n (hsound.kept _) rfl
    have hset : Kept 65540 (s.toCount n) (s.openWindow g x rest n) := hcount.sound.setInjQueue_kept g _
    have hmarks : Kept 16384 (s.openWindow g x rest n) ((s.openWindow g x rest n).forEach x.chans fun s ch => s.markWindow x n ch) :=
      State.forEach_kept (hset.sound.kept _) fun u ch hu => State.markWindow_kept hu rfl x n ch
    have hlen' : (s.toCount n).adc.inj.length = 16 := (congrArg (fun a : Adc => a.inj.length) (hcount.adc rfl)).trans hlen
    refine ⟨_, (hs.next_cxDo fun s => s.doInjectStart g).trans (congrArg _ hdue), ?_,
      fun ch hch h64 => hset.sound.markWindows_marked x n x.chans hch h64, ?_, ?_⟩
    · exact (State.injQueue_of_adc (hmarks.adc rfl) g).trans (State.injQueue_setInjQueue hlen' g.isLt _)
    · have hfields := (hcount.sound.setInjQueue_fields g ({ x with running := true } :: rest)).sameRegs_one (a := injStat g)
        (by simp [Fld.addr, F.ADC_INJ_STAT])
      exact ((State.sameRegs_of_regs (s.toCount_regs n) _).trans hfields).trans (State.sameRegs_of_regs (hmarks.regs_eq rfl) _)
    · exact ((hcount.mono (m' := 81940) rfl).trans ((hset.mono rfl).trans (hmarks.mono rfl))).eq_withParts
  · have hdue := State.doInjectComplete_due hq hni hrun hskew
    have hended := hsound.endWindow_ended (n := n) hlen g.isLt (x := x) (by omega) hq hprm
    obtain ⟨u, hu, husound, hdone, -, -⟩ := hended.shown
    have hset := (husound.setInjQueue_fields g []).sameRegs_one (a := injStat g) (by simp [Fld.addr, F.ADC_INJ_STAT])
    have hregs := hdone.plain hskew
    have hstatus := hdone.status
    have hlast := hdone.chan
    rw [hch] at hregs hstatus hlast
    rw [hskew] at hlast
    refine ⟨_, (hs.next_cxDo fun s => s.doInjectComplete g).trans (congrArg _ hdue), hended.queue, hstatus, hlast, fun hclk => ?_,
      (State.sameRegs_of_regs hu _).trans (hset.trans hregs), (hended.kept.mono (m' := 81940) rfl).eq_withParts⟩
    rw [hended.count hclk, Inject.len, hskew]
    rfl
  · obtain ⟨r, hr, hstore⟩ := hs.portStore_open p (a := F.FLT_SKEW_CAL) (by decide +kernel) (BitVec.ofNat 32 mask.toNat)
    have hlt := mask.isLt
    have hmask' : getField (BitVec.ofNat 32 mask.toNat) 0 16 = 2 ^ g.val := by
      rw [getField, BitVec.toNat_ofNat, pow_zero, Nat.div_one, ← hmask]
      omega
    have hexec : exec (.skewCalRequest p mask) s =
        .next (s.accepted p fun u => (u.skewAsked g).requestInject (skewReq g) s.writeNs) := by
      refine (hs.awake.next_keeperDo fun s => s.hostWrite p F.FLT_SKEW_CAL (BitVec.ofNat 32 mask.toNat)).trans
        (congrArg _ (hstore.trans ?_))
      refine congrArg (s.accepted p) (funext fun u => ?_)
      rw [State.writeReg, State.writeMgt, State.writeFront, base_of_baseOf (b := F.FLT_SKEW_CAL) (by decide +kernel) hr]
      have hcal : u.doSkewCal (getField (BitVec.ofNat 32 mask.toNat) 0 16) s.writeNs =
          (u.skewAsked g).requestInject (skewReq g) s.writeNs := by
        rw [hmask', u.doSkewCal_one]
      exact hcal
    obtain ⟨⟨hasked, haskedFields⟩, hshown⟩ := hdrawn.skewAsked_outcome g
    obtain ⟨u, hu⟩ : ∃ u, u = s.drawn.skewAsked g := ⟨_, rfl⟩
    rw [← hu] at hasked haskedFields hshown
    have hadc : u.adc = s.adc := hasked.adc rfl
    have hg : (skewReq g).ch / 4 = g := Nat.mul_div_cancel_left _ (by decide)
    have hlen' : u.adc.inj.length = 16 := hadc ▸ hlen
    have hclk : u.clk = s.clk := hasked.clk rfl
    have hok' : u.injRefusal (skewReq g) = none :=
      (State.injRefusal_congr (hasked.plane rfl) (hasked.regions_eq rfl) hadc _).trans hok
    have hreq := hasked.sound.requestInject_taken hlen' (x := skewReq g) (by simp only [skewReq]; omega) hok'
      (by rw [hg]; exact (State.injQueue_of_adc hadc g).trans hq) (by rw [hg, hadc]; exact hreh) rfl s.writeNs
    obtain ⟨hmod, hle⟩ := u.injPlanned_bounds s.writeNs
    obtain ⟨t, ht⟩ : ∃ t, t = u.requestInject (skewReq g) s.writeNs := ⟨_, rfl⟩
    have hdo : (s.drawn.skewAsked g).requestInject (skewReq g) s.writeNs = t := by rw [ht, hu]
    rw [← ht] at hreq
    have hqueue := hreq.queue
    have hfields := hreq.fields
    rw [hg] at hqueue hfields
    have hheld {f : Fld} (hf : f.base = F.FLT_SKEW_MEAS) (hf' : f.stride = 4) (ch : Nat) : t.rd f ch = u.rd f ch :=
      hfields.same (f, ch) fun y hy => by
        obtain rfl := List.mem_singleton.1 hy
        refine .inl ?_
        simp only [Fld.addr, hf, hf', F.FLT_SKEW_MEAS]
        omega
    refine ⟨_, _, hexec.trans (congrArg _ (State.accepted_of_drawn hdo)), ?_, hmod, hclk ▸ hle, fun v hv => ?_, ?_, ?_⟩
    · refine hqueue.trans ?_
      rw [State.injPlanned, hclk]
      rfl
    · obtain ⟨hpend, hvalid⟩ := hshown (4 * g + v) (mem_clusterChans.2 ⟨v, hv, rfl⟩)
      exact ⟨congrArg (· == 1) ((hheld rfl rfl _).trans hpend), congrArg (· == 1) ((hheld rfl rfl _).trans hvalid)⟩
    · have hstat : u.sameRegs t [injStat g] := hfields.sameRegs_one (by simp [Fld.addr, F.ADC_INJ_STAT])
      exact fun b hb => (hstat b fun h => hb (List.mem_singleton.1 h ▸ .head _)).trans
        (haskedFields.sameRegs_of skewFields_regs b fun h => hb (.tail _ h))
    · exact (State.onPort_kept t p _ ((hasked.mono (m' := 81956) rfl).trans (hreq.kept.mono rfl)) rfl).eq_withParts
  · have hch' : x.ch / 4 = g := by rw [hch]; exact Nat.mul_div_cancel_left _ (by decide)
    have hxlen : x.len = 16384 := by rw [Inject.len, hskew]; rfl
    have hdue := State.doSkewCalComplete_due meas hq hni hrun hskew
    have hcount : Kept 16 s (s.toCount (n + x.len)) := State.toCount_kept s _ (hsound.kept _) rfl
    obtain ⟨⟨hmeas, hmeasFields⟩, hvalid⟩ := hcount.sound.skewMeasured_outcome g meas
    obtain ⟨u, hu⟩ : ∃ u, u = (s.toCount (n + x.len)).skewMeasured g meas := ⟨_, rfl⟩
    rw [← hu] at hdue hmeas hmeasFields hvalid
    have hadc : u.adc = s.adc := (hmeas.adc rfl).trans (hcount.adc rfl)
    have hended := hmeas.sound.endWindow_ended (n := n) (hadc ▸ hlen) g.isLt (x := x) (by omega)
      ((State.injQueue_of_adc hadc g).trans hq) hprm
    obtain ⟨v, hv, hvsound, hdone, hempty, hfields⟩ := hended.shown
    obtain ⟨t, ht⟩ : ∃ t, t = u.endWindow g x n := ⟨_, rfl⟩
    rw [← ht] at hdue hended hdone hfields
    have hstatus := hdone.status
    have hpend := hdone.ended hskew
    rw [hch'] at hstatus hpend hfields
    have hsame : u.sameRegs t (injStat g :: (List.range 4).map fun k => F.FLT_SKEW_MEAS_VALID.addr (4 * g.val + k)) :=
      hfields.sameRegs_of fun y hy => by
        rcases List.mem_cons.1 hy with rfl | hy
        · exact .head _
        · exact doneFields_regs g y hy
    refine ⟨t, (hs.next_cxDo fun s => s.doSkewCalComplete g meas).trans (congrArg _ hdue), hended.queue, hstatus,
      fun k hk hon => ⟨?_, ?_⟩, fun hclk => ?_, fun b hb => ?_, ?_⟩
    · have hon' : (s.toCount (n + x.len)).unitOn (4 * g + k) = true := by
        rw [State.unitOn, hcount.plane rfl]
        exact hon
      have hkept : t.rd F.FLT_SKEW_MEAS_VALID (4 * g + k) = u.rd F.FLT_SKEW_MEAS_VALID (4 * g + k) :=
        hfields.same (F.FLT_SKEW_MEAS_VALID, 4 * g + k) (doneFields_apart_valid g.isLt)
      exact congrArg (· == 1) (hkept.trans (hvalid _ (mem_clusterChans.2 ⟨k, hk, rfl⟩) hon'))
    · exact congrArg (· == 1) (hpend hempty _ (mem_clusterChans.2 ⟨k, hk, rfl⟩))
    · have huclk : u.clk = (s.toCount (n + x.len)).clk := hmeas.clk rfl
      have hcount' := State.toCount_count hclk (n + x.len)
      have hrun' : (s.toCount (n + x.len)).clk.running = true := (s.later_toCount _).running.trans hclk
      rw [hended.count (by rw [huclk]; exact hrun'), huclk, hcount', hxlen]
      omega
    · refine (hsame b hb).trans ((hmeasFields.sameRegs_of skewFields_regs b fun h => hb (.tail _ h)).trans ?_)
      rw [State.regGet, s.toCount_regs, State.regGet]
    · exact ((hcount.mono (m' := 81940) rfl).trans ((hmeas.mono rfl).trans (hended.kept.mono rfl))).eq_withParts
  · obtain ⟨u, hu, hdo⟩ := State.doSourceFault_eq (s := s) (g := g.val) hfault
    obtain ⟨hplane, hadc, hlow, hnoted⟩ := hsound.sourceNoted_outcome g.val
    have hlen' : (s.sourceNoted g).adc.inj.length = 16 := hadc ▸ hlen
    obtain ⟨hadc', hqueue, hrefused⟩ := hnoted.sound.waitsRefused_outcome hlen' g.isLt
    have hq : (s.sourceNoted g).injQueue g = s.injQueue g := State.injQueue_of_adc hadc g
    have hreh : u.rehOf (g / 4) = s.rehOf (g / 4) := by
      have hu' : u.adc.reh = s.adc.reh := by
        rw [hu, hadc', ← hadc]
        rfl
      rw [State.rehOf, hu', State.rehOf]
    have huk : Kept 71302 s u := hu ▸ (hnoted.mono rfl).trans (hrefused.mono rfl)
    have huplane : u.plane = { s.plane with sourceFault := g.val :: s.plane.sourceFault } :=
      hu ▸ (hrefused.plane rfl).trans hplane
    have huq : u.injQueue g = (s.injQueue g).filter fun x => x.running := by
      rw [hu, hqueue, hq]
    obtain ⟨hback, hfactors⟩ := huk.sound.factorsBack_outcome g.isLt (s.rehOf (g / 4))
    rw [hreh] at hdo
    have hexec := (hs.next_cxDo fun s => s.doSourceFault g).trans (congrArg _ hdo)
    by_cases hc : ((s.rehOf (g / 4)).connected && decide (5 < (s.rehOf (g / 4)).phase)) = true
    · rw [if_pos hc] at hexec
      obtain ⟨hconn, hphase⟩ := Bool.and_eq_true_iff.1 hc
      refine ⟨_, hexec, (hback.plane rfl).trans huplane, (State.injQueue_of_adc (hback.adc rfl) g).trans huq,
        fun _ _ ch hch hg k => hfactors ch (List.mem_filter.2 ⟨mem_clusterChans.2 ⟨ch % 4, by omega, by omega⟩, ?_⟩) k k.isLt,
        fun _ h => ?_, ?_⟩
      · exact List.contains_iff_mem.2 hch
      · rcases h with h | h
        · rw [h] at hconn
          cases hconn
        · exact absurd (of_decide_eq_true hphase) (Nat.not_lt.2 h)
      · exact ((huk.mono (m' := 87686) rfl).trans (hback.mono rfl)).eq_withParts
    · rw [if_neg hc] at hexec
      refine ⟨_, hexec, huplane, huq, fun hconn hphase => absurd ?_ hc, fun hhost _ => ?_, (huk.mono (m' := 87686) rfl).eq_withParts⟩
      · rw [hconn, decide_eq_true hphase]
        rfl
      · obtain ⟨hsame, hkept⟩ := hnoted.sound.waitsRefused_host (g := g.val) (by rw [hq]; exact hhost)
        rw [hq, ← hu] at hsame
        rw [← hu] at hkept
        refine ⟨fun b _ hb hmem => (hsame b hmem).trans (hlow.low b hb), ((hnoted.mono (m' := 70150) rfl).trans (hkept.mono rfl)).eq_withParts⟩
end

section
/-! SUPPORT. The read port's round, and what the jobs that it serves give out (R32, R188 to R191, R195 to R200). -/

namespace Sys2Proof.Machine

/-! ### One burst of the round (R32) -/

section
variable (s : State) (k : Nat)

theorem State.serveShare_readouts (h : k ≠ 0) : (s.serveShare k).trg.readouts = s.trg.readouts := by
  rw [State.serveShare, if_neg h]
  repeat' split
  all_goals rfl

theorem State.serveShare_jobs (h : k ≠ 1) : (s.serveShare k).trg.jobs = s.trg.jobs := by
  rw [State.serveShare, if_neg h]
  repeat' split
  all_goals rfl

theorem State.serveShare_codec (hk : k < 3) (h : k ≠ 2) : (s.serveShare k).codec = s.codec := by
  have hk : k = 0 ∨ k = 1 := by omega
  rw [State.serveShare]
  rcases hk with rfl | rfl
  · rw [if_pos rfl]
    split <;> rfl
  · rw [if_neg (by decide), if_pos rfl]
    split <;> rfl

theorem State.serveShare_bursts : (s.serveShare k).trg.port.n = s.trg.port.n := by
  unfold State.serveShare
  repeat' split
  all_goals rfl

end

theorem shareOf_lt (n : Nat) : shareOf n < 3 := by
  unfold shareOf
  split
  · decide
  · split <;> decide

/-- The first place of the round whose share has data is served. -/
theorem State.portStep_first {s : State} {i : Nat} (hi : i < 8) (hskip : s.skipAll = s)
    (hready : s.shareReady (shareOf (s.trg.port.slot + i)) = true)
    (hbefore : ∀ j < i, s.shareReady (shareOf (s.trg.port.slot + j)) = false) :
    s.portStep = some ((s.serveShare (shareOf (s.trg.port.slot + i))).onTrg fun t =>
      { t with port := { t.port with n := t.port.n + 1, slot := (s.trg.port.slot + i + 1) % 8 } }) := by
  have hfind : ((List.range 8).map fun i => s.trg.port.slot + i).find? (fun i => s.shareReady (shareOf i)) = some (s.trg.port.slot + i) := by
    have hplace : (List.range 8).find? ((fun i => s.shareReady (shareOf i)) ∘ fun i => s.trg.port.slot + i) = some i :=
      List.find?_range_eq_some.2 ⟨hready, List.mem_range.2 hi, fun j hj => congrArg (!·) (hbefore j hj)⟩
    rw [List.find?_map, hplace]
    rfl
  rw [State.portStep, hskip]
  dsimp only
  rw [hfind]

/-! ### Packets of the jobs -/

theorem State.Sound.pushPkt_room {s : State} (hs : s.Sound) {q : Nat} (hq : q < 12) {p : Packet} (hblocked : (s.queue q).blocked = [])
    (hroom : (s.queue q).fill + p.words.length ≤ queueCap q) :
    ∃ x, ((s.pushPkt q p).queue q).waiting = (s.queue q).waiting ++ [x] ∧ x.words = p.words := by
  rw [State.pushPkt, if_pos ⟨hblocked, hroom⟩]
  exact ⟨_, State.waiting_enqueue p (hs.que.symm ▸ hq), rfl⟩

theorem State.Sound.queue_of_kept {m : Nat} {s t : State} (h : Kept m s t) (hm : hasBit m 256 = false) (q : Nat) : t.queue q = s.queue q :=
  State.queue_of_que s q (h.queues hm)

section
variable {m : Nat} {l : List Nat} {r t : State} (h : MainKept m l r t)
include h

theorem MainKept.report (hm : 518 &&& m = 518) (c loc d : Nat) : MainKept m l r (t.report c loc d) := by
  have hlow := (LowKept.refl h.kept.regs).report c loc d
  exact ⟨State.report_kept t c loc d h.kept hm, fun b hq hb hl => (hlow.low b hb).trans (h.main b hq hb hl)⟩

theorem MainKept.forEach {a : Type} {f : State → a → State} {xs : List a} (hf : ∀ u, ∀ x ∈ xs, MainKept m l r u → MainKept m l r (f u x)) :
    MainKept m l r (t.forEach xs f) := State.forEach_induction h hf

theorem MainKept.pushSteered (hm : 324 &&& m = 324) {q : Nat} (hq : q ≠ 0) (hq' : q < 12) (ch : Option Nat) (ws : List LWord) :
    MainKept m l r (t.pushSteered q ch ws) := h.pushPkt hm hq hq' _

theorem MainKept.verifyAll (hm : 518 &&& m = 518) (hv : F.CDC_VERIFY ∈ l) (ht : F.CDC_VERIFY_TOTAL ∈ l) (mode : Nat) (bad : Upsets)
    (bs : List ReadBlk) : MainKept m l r (t.verifyAll mode bad bs) := by
  refine h.forEach fun u b _ hu => ?_
  obtain ⟨c, hc⟩ : ∃ c, c = ((u.satAdd F.CDC_VERIFY_TOTAL_COUNT 0 1).flag F.CDC_VERIFY 0).count (0x80 + b.ch) (u.locCxUnit b.ch) 1 :=
    ⟨_, rfl⟩
  have hmr : 4 &&& m = 4 := mask_sub hm rfl
  have hcount : MainKept m l r c := hc ▸ ((hu.wr hmr F.CDC_VERIFY_TOTAL_COUNT 0 (.inl ht) _).flag hmr (.inl hv) 0).count hmr _ _ _
  obtain ⟨d, hd⟩ : ∃ d, d = { c with fau := { c.fau with verifySecond := c.fau.verifySecond + 1 } } := ⟨_, rfl⟩
  have hnoted : MainKept m l r d := by
    refine hcount.of_regs ?_ (by rw [hd])
    rw [hd]
    exact hcount.kept.congr (K := 512) rfl rfl rfl rfl rfl rfl rfl (mask_sub hm rfl) rfl
  have hfail : u.verifyFail b.ch = d.report 0x2202 (d.locUnit b.ch) 0 := by
    rw [hd, hc]
    rfl
  rw [hfail]
  exact hnoted.report hm _ _ _

end

/-- The registers in which the verification of coded blocks shows. -/
abbrev verifyRegs : List Nat := [F.CDC_VERIFY, F.CDC_VERIFY_TOTAL]

section
variable {s : State} (hs : s.Sound) (size : Nat) (aborted : Bool) (bad : Upsets)
include hs

theorem State.Sound.endSnippet_main (j : SnipJob) :
    MainKept 838 [F.CDC_VERIFY, F.CDC_VERIFY_TOTAL, F.TRG_EVT2] s (s.endSnippet j size aborted bad) := by
  obtain ⟨u, hu⟩ : ∃ u, u = s.verifyAll 8 bad (readOrder j.start size j.rd.got) := ⟨_, rfl⟩
  have hverify : MainKept 838 [F.CDC_VERIFY, F.CDC_VERIFY_TOTAL, F.TRG_EVT2] s u :=
    hu ▸ (MainKept.refl hs 838 _).verifyAll rfl (.head _) (.tail _ (.head _)) _ _ _
  have hpush (v : State) (hv : MainKept 838 [F.CDC_VERIFY, F.CDC_VERIFY_TOTAL, F.TRG_EVT2] s v) (segs : List (List LWord)) (ws : List LWord) :
      MainKept 838 [F.CDC_VERIFY, F.CDC_VERIFY_TOTAL, F.TRG_EVT2] s ((v.pushSegments (setSteer j.set) segs).pushSteered 3 (setSteer j.set) ws) :=
    (hv.forEach fun w ws _ hw => hw.pushSteered rfl (by decide) (by decide) _ ws).pushSteered rfl (by decide) (by decide) _ ws
  rw [State.endSnippet, ← hu]
  have hend := hpush u hverify (segmentsOf 0x32 size bad (readOrder j.start size j.rd.got))
  split
  · split
    · exact (hend _).flag rfl (.inl (.tail _ (.tail _ (.head _)))) 1
    · exact hend _
  · split
    · exact ((hend _).flag rfl (.inl (.tail _ (.tail _ (.head _)))) 1).count rfl _ _ _
    · exact (hend _).count rfl _ _ _

theorem State.Sound.endReadout_main (r : Readout) :
    MainKept 838 [F.CDC_VERIFY, F.CDC_VERIFY_TOTAL] s (s.endReadout r size aborted bad) := by
  have hverify : MainKept 838 [F.CDC_VERIFY, F.CDC_VERIFY_TOTAL] s (s.verifyAll 8 bad (readOrder r.first size r.rd.got)) :=
    (MainKept.refl hs 838 _).verifyAll rfl (.head _) (.tail _ (.head _)) _ _ _
  rw [State.endReadout]
  exact (hverify.forEach fun w ws _ hw => hw.pushSteered rfl (by decide) (by decide) _ ws).pushSteered rfl (by decide) (by decide) _ _

end

/-- The counts of jobs and readouts as they are shown. -/
theorem State.Sound.showJobs_shown {s : State} (hs : s.Sound) :
    s.showJobs.rd F.TRG_SNIP_STAT_JOBS = s.trg.jobs.length % 2 ^ 7 ∧ s.showJobs.rd F.TRG_RO_STAT_ACTIVE = s.trg.readouts.length % 2 ^ 4 := by
  have hwf := State.wf_wr hs.regs F.TRG_SNIP_STAT_JOBS 0 s.trg.jobs.length
  refine ⟨?_, State.rd_wr hwf _ _ _ (by decide)⟩
  exact (State.rd_wr_ne hwf _ _ _ _ _ (.inl (by decide))).trans (State.rd_wr hs.regs _ _ _ (by decide))

/-! ### What the port leaves of the lists -/

theorem State.portMoved_runPortTo (s : State) (done : State → Bool) : s.PortMoved (s.runPortTo done) := by
  obtain ⟨u, hu⟩ : ∃ u, u = (s.runPort.portUntil done s.runPort.portLeft).skipAll := ⟨_, rfl⟩
  have hmoved : s.PortMoved u := hu ▸ (s.portMoved_runPort.trans (State.portMoved_portUntil _ _ _)).trans (State.portMoved_skipAll _)
  have hto : s.runPortTo done = u.toCount (ceilDiv (32 * u.trg.port.n) 3) := by rw [hu]; rfl
  rw [hto, u.toCount_only]
  exact ⟨hmoved.trg, hmoved.codec⟩

section
variable {s t : State} (h : s.PortMoved t)
include h

theorem State.PortMoved.jobs_length : t.trg.jobs.length = s.trg.jobs.length := by
  have hview := congrArg (fun t : Trg => t.jobs.length) h.trg
  exact (List.length_map _).symm.trans (hview.trans (List.length_map _))

theorem State.PortMoved.readouts_length : t.trg.readouts.length = s.trg.readouts.length := by
  have hview := congrArg (fun t : Trg => t.readouts.length) h.trg
  exact (List.length_map _).symm.trans (hview.trans (List.length_map _))

end

end Sys2Proof.Machine
end

section
/-! SUPPORT. Snippet jobs and readouts (R188 to R191, R195 to R200). -/

namespace Sys2Proof.Machine

/-! ### The start of a snippet job -/

/-- Does no waiting job end before j? -/
def State.endsFirst (s : State) (j : SnipJob) : Bool := (s.trg.jobs.filter fun j => !j.running).all fun x => decide (j.stop ≤ x.stop)

/-- Of the waiting jobs the one with the earliest end is taken. -/
theorem State.doSnippetStart_earliest {s : State} {j : SnipJob} (hj : j ∈ s.trg.jobs) (hrun : j.running = false)
    (hleast : ∀ x ∈ s.trg.jobs, x.running = false → x ≠ j → j.stop < x.stop)
    (hwritten : ∀ ch ∈ mapChans j.set, s.avail ch (j.stop / 64 - 1) ≠ .later) :
    s.doSnippetStart = (s.runPort.onTrg fun t => { t with jobs := t.jobs.map fun x =>
        if x = j then { j with running := true, rd := { at_ := firstPlace j.set j.start j.stop } } else x }).pushSteered 3 (setSteer j.set)
      ((s.runPort.onTrg fun t => { t with jobs := t.jobs.map fun x =>
        if x = j then { j with running := true, rd := { at_ := firstPlace j.set j.start j.stop } } else x }).snipHeader j) := by
  have hmem (x : SnipJob) : x ∈ s.trg.jobs.filter (fun j => !j.running) ↔ x ∈ s.trg.jobs ∧ x.running = false := by
    rw [List.mem_filter, Bool.not_eq_true']
  have hle (x : SnipJob) (hx : x ∈ s.trg.jobs ∧ x.running = false) : j.stop ≤ x.stop := by
    by_cases hxj : x = j
    · rw [hxj]
    · exact Nat.le_of_lt (hleast x hx.1 hx.2 hxj)
  have hok : s.endsFirst j = true := List.all_eq_true.2 fun x hx => decide_eq_true (hle x ((hmem x).1 hx))
  have hfind : (s.trg.jobs.filter fun j => !j.running).find? s.endsFirst = some j := by
    obtain ⟨y, hy⟩ := Option.isSome_iff_exists.1 (List.find?_isSome.2 ⟨j, (hmem j).2 ⟨hj, hrun⟩, hok⟩)
    have hyj : y = j := by
      by_contra hne
      have hfirst : s.endsFirst y = true := List.find?_some hy
      have hall := of_decide_eq_true (List.all_eq_true.1 hfirst j ((hmem j).2 ⟨hj, hrun⟩))
      obtain ⟨hy₁, hy₂⟩ := (hmem y).1 (List.mem_of_find?_eq_some hy)
      exact Nat.not_lt.2 hall (hleast y hy₁ hy₂ hne)
    rw [hy, hyj]
  have hnone : ((mapChans j.set).any fun ch => decide (s.avail ch (j.stop / 64 - 1) = .later)) = false :=
    List.any_eq_false.2 fun ch hch => by simpa using hwritten ch hch
  have htaken : (s.trg.jobs.filter fun j => !j.running).find?
      (fun j => (s.trg.jobs.filter fun j => !j.running).all fun x => decide (j.stop ≤ x.stop)) = some j := hfind
  rw [State.doSnippetStart]
  dsimp only
  rw [htaken]
  dsimp only
  rw [hnone, if_neg Bool.false_ne_true]

theorem State.doSnippetStart_idle {s : State} (h : ∀ j ∈ s.trg.jobs, j.running = true) : s.doSnippetStart = s := by
  have hnone : s.trg.jobs.filter (fun j => !j.running) = [] := List.filter_eq_nil_iff.2 fun j hj => by
    rw [h j hj]
    decide
  rw [State.doSnippetStart, hnone]
  rfl

/-! ### The end of a snippet job, and of a readout -/

theorem State.doSnippetComplete_none {s : State} {id : Nat} (h : (s.readSnippet id).snippetOf id = none) (size : Nat) (bad : Upsets) :
    s.doSnippetComplete id size bad = s := by
  rw [State.doSnippetComplete, h]

theorem State.doSnippetComplete_some {s : State} {id : Nat} {j : SnipJob} (h : (s.readSnippet id).snippetOf id = some j) (size : Nat)
    (bad : Upsets) : s.doSnippetComplete id size bad = if j.rd.at_.isSome then s
      else (((s.readSnippet id).onTrg fun x => { x with jobs := x.jobs.erase j }).endSnippet j size false bad).showJobs := by
  rw [State.doSnippetComplete, h]

theorem State.doReadoutComplete_none {s : State} {req : Nat} (h : (s.readReadout req).readoutOf req = none) (size : Nat) (bad : Upsets) :
    s.doReadoutComplete req size bad = s := by
  rw [State.doReadoutComplete, h]

theorem State.doReadoutComplete_some {s : State} {req : Nat} {r : Readout} (h : (s.readReadout req).readoutOf req = some r) (size : Nat)
    (bad : Upsets) : s.doReadoutComplete req size bad = if r.rd.at_.isSome then s
      else (((s.readReadout req).onTrg fun x => { x with readouts := x.readouts.erase r }).endReadout r size false bad).showJobs := by
  rw [State.doReadoutComplete, h]

/-- The registers that show the jobs. -/
abbrev jobRegs : List Nat := [F.CDC_VERIFY, F.CDC_VERIFY_TOTAL, F.TRG_EVT2, F.TRG_SNIP_STAT, F.TRG_RO_STAT]

/-- The output of a job that has left the table follows, and the counts are shown. -/
theorem State.jobEnded_outcome {s v w : State} (hv : Kept 1572880 s v) {l : List Nat} (hw : MainKept 838 l v w)
    (hl : ∀ a ∈ [F.TRG_SNIP_STAT, F.TRG_RO_STAT], a ∈ l) :
    w.showJobs.trg = v.trg ∧ w.showJobs.codec = v.codec ∧ w.showJobs.clk = v.clk ∧
    w.showJobs.rd F.TRG_SNIP_STAT_JOBS = v.trg.jobs.length % 2 ^ 7 ∧ w.showJobs.rd F.TRG_RO_STAT_ACTIVE = v.trg.readouts.length % 2 ^ 4 ∧
    s.sameMain w.showJobs l ∧ Kept 1573718 s w.showJobs := by
  have hshow := hw.showJobs rfl (hl _ (.head _)) (hl _ (.tail _ (.head _)))
  obtain ⟨hjobs, hro⟩ := hw.kept.sound.showJobs_shown
  have htrg : w.trg = v.trg := hw.kept.trg rfl
  rw [htrg] at hjobs hro
  refine ⟨hshow.kept.trg rfl, hshow.kept.codec rfl, hshow.kept.clk rfl, hjobs, hro, fun b hq hb hmem => ?_,
    (hv.mono rfl).trans (hshow.kept.mono rfl)⟩
  refine (hshow.main b hq hb hmem).trans ?_
  rw [State.regGet, hv.regs_eq rfl, State.regGet]

/-! ### Requests (R195, R196) -/

/-- A duplicate of a request within 1 ms is only counted. -/
theorem State.doReadoutRequest_duplicate {s : State} {req c : Nat} (h : (req, c) ∈ s.trg.served) (hc : s.clk.count < c + s.samplesUs 1000)
    (len t map : Nat) : s.doReadoutRequest req len t map = s.satAdd F.TRG_RO_STAT_DUPLICATES 0 1 := by
  refine if_pos (List.any_eq_true.2 ⟨_, h, ?_⟩)
  rw [beq_self_eq_true, decide_eq_true hc]
  rfl

/-- A new request is noted for 1 ms. -/
def State.requestNoted (s : State) (req : Nat) : State :=
  s.onTrg fun x =>
    { x with served := (req, s.clk.count) :: x.served.filter fun p => decide (s.clk.count < p.2 + s.samplesUs 1000) }

/-- A readout is taken: its answer is sent, and it joins the table. -/
def State.readoutTaken (s : State) (r : Readout) (first : Nat) : State :=
  (((s.runPort).pushAnswer r.req r.status 0 r.first ((r.stop - r.first) / 64) ((r.first - first) / 64) r.map).onTrg fun x =>
    { x with readouts := x.readouts ++ [r] }).showJobs

/-- The readout of a request of map from f on, where stop is its end and e0 the end asked for; its status is 0 when all of the
request is there. -/
def State.newReadout (s : State) (req first f stop e0 map : Nat) : Readout :=
  { req := req, first := f, stop := stop, map := map &&& s.trg.map
    status := if f = first ∧ stop = e0 ∧ map &&& s.trg.map = map ∧
      ((mapChans (map &&& s.trg.map)).map fun ch => s.lacks ch f stop).sum = 0 then 0 else 1
    absent := ((mapChans (map &&& s.trg.map)).map fun ch => s.lacks ch f stop).sum
    rd := { at_ := firstPlace (map &&& s.trg.map) f stop } }

/-- The first count that can still be read of a window. -/
def State.firstRead (s : State) (fs first stop map : Nat) : Nat :=
  firstCount fs (mapChans (map &&& s.trg.map)).length (s.vMax (mapChans (map &&& s.trg.map))) first stop
    (s.rd F.TRG_RO_CFG_GUARD_NS) s.readAhead

/-- A request that is new is declined, finds nothing left, or becomes a readout. -/
def State.requestJudged (s : State) (req map first e0 reason : Nat) : State :=
  if reason ≠ 0 then s.pushAnswer req 3 reason 0 0 0 0
  else
    let stop := if s.ringState = ringFrozen then min e0 (s.trg.z.getD e0) else e0
    let f := s.firstRead (if s.ringState = ringFrozen then 0 else s.clk.fs) first stop map
    if stop ≤ f then s.pushAnswer req 2 0 f 0 ((f - first) / 64) (map &&& s.trg.map)
    else s.readoutTaken (s.newReadout req first f stop e0 map) first

theorem State.requestJudged_armed {s : State} {req map first e0 : Nat} (h : s.ringState = ringArmed) :
    s.requestJudged req map first e0 0 = if e0 ≤ s.firstRead s.clk.fs first e0 map then
      s.pushAnswer req 2 0 (s.firstRead s.clk.fs first e0 map) 0 ((s.firstRead s.clk.fs first e0 map - first) / 64) (map &&& s.trg.map)
    else s.readoutTaken (s.newReadout req first (s.firstRead s.clk.fs first e0 map) e0 e0 map) first := by
  have hfrozen : ¬ s.ringState = ringFrozen := by
    rw [h]
    decide
  rw [State.requestJudged, if_neg (not_not.2 rfl)]
  simp only [if_neg hfrozen]

theorem State.doReadoutRequest_new {s : State} {req : Nat} (hnew : ∀ c, (req, c) ∈ s.trg.served → c + s.samplesUs 1000 ≤ s.clk.count)
    (len t map : Nat) : s.doReadoutRequest req len t map = (s.requestNoted req).requestJudged req map
      ((s.requestNoted req).countAt ((s.requestNoted req).nearTime t) / 64 * 64)
      (nextMultiple 64 ((s.requestNoted req).countAt ((s.requestNoted req).nearTime t + len * 65536)))
      ((s.requestNoted req).declineReason len map ((s.requestNoted req).countAt ((s.requestNoted req).nearTime t) / 64 * 64)) := by
  refine if_neg (Bool.eq_false_iff.1 (List.any_eq_false.2 fun p hp => ?_))
  rw [Bool.and_eq_true, beq_iff_eq, decide_eq_true_eq]
  rintro ⟨rfl, hlt⟩
  exact absurd (hnew p.2 hp) (Nat.not_le.2 hlt)

theorem State.readouts_lt_of_accepted {s : State} {len map first : Nat} (h : s.declineReason len map first = 0) :
    s.trg.readouts.length < 8 := by
  by_contra hge
  rw [State.declineReason] at h
  split at h
  · exact absurd h (by decide)
  · split at h
    · exact absurd h (by decide)
    · rw [if_pos (Nat.not_lt.1 hge)] at h
      exact absurd h (by decide)

/-- A readout's status is 0 when all that was asked for is there. -/
theorem State.newReadout_status (s : State) (req first f e map : Nat) : (s.newReadout req first f e e map).status = 0 ↔
    f = first ∧ (s.newReadout req first f e e map).map = map ∧ (s.newReadout req first f e e map).absent = 0 := by
  rw [State.newReadout]
  split
  next h =>
    obtain ⟨hf, -, hmap, habsent⟩ := h
    exact ⟨fun _ => ⟨hf, hmap, habsent⟩, fun _ => rfl⟩
  next h => exact ⟨fun hs => absurd hs Nat.one_ne_zero, fun ⟨hf, hmap, habsent⟩ => absurd ⟨hf, rfl, hmap, habsent⟩ h⟩

/-! ### Answers -/

section
variable {s : State} (hs : s.Sound)
include hs

theorem State.Sound.pushAnswer_main (req status reason first blocks skipped map : Nat) :
    MainKept 324 [] s (s.pushAnswer req status reason first blocks skipped map) :=
  ((MainKept.refl hs 324 []).pushSteered rfl (by decide) (by decide) _ _).count rfl _ _ _

/-- A refusal finds room in the queue of class 2's answers. -/
theorem State.Sound.pushAnswer_declined (req n : Nat) (hblocked : (s.queue 2).blocked = []) (hroom : (s.queue 2).fill + 5 ≤ queueCap 2) :
    ∃ x, ((s.pushAnswer req 3 n 0 0 0 0).queue 2).waiting = (s.queue 2).waiting ++ [x] ∧
      x.words = packetWords [word64 [(56, 0x15), (52, 5), (48, 3), (44, n), (0, req)], 0, 0, 0, 0] := by
  obtain ⟨ws, hws⟩ : ∃ ws : List LWord, ws = [word64 [(56, 0x15), (52, 5), (48, 3), (44, n), (0, req)], 0, 0, 0, 0] := ⟨_, rfl⟩
  have hlen : (packetWords ws).length = 5 := by
    rw [hws]
    rfl
  obtain ⟨u, hu⟩ : ∃ u, u = s.pushSteered 2 (setSteer 0) ws := ⟨_, rfl⟩
  obtain ⟨x, hx, hwords⟩ := hs.pushPkt_room (q := 2) (by decide)
    (p := { words := packetWords ws, at_ := s.clk.count, steer := some (setSteer 0) }) hblocked (by rw [hlen]; exact hroom)
  have hpush : MainKept 324 [] s u := hu ▸ (MainKept.refl hs 324 []).pushSteered rfl (by decide) (by decide) _ ws
  have hanswer : s.pushAnswer req 3 n 0 0 0 0 = u.count 0x10C s.locCx 1 := by
    have hblocks : word64 [(32, 0), (0, 0)] = 0#64 := by decide +kernel
    rw [hu, hws, State.pushAnswer]
    have hzero : (0 : LWord) = 0#64 := rfl
    rw [hblocks, if_pos rfl, hzero]
  refine ⟨x, ?_, by rw [hwords, hws]⟩
  rw [hanswer, State.Sound.queue_of_kept (State.count_kept u 0x10C s.locCx 1 (hpush.kept.sound.kept 4) rfl) rfl 2, hu]
  exact hx

/-- A readout joins the table, whose other readouts the port may have moved on. -/
theorem State.Sound.readoutTaken_outcome (r : Readout) (first : Nat) :
    (∃ l, (s.readoutTaken r first).trg.readouts = l ++ [r] ∧ l.map Readout.unread = s.trg.readouts.map Readout.unread) ∧
    (s.readoutTaken r first).rd F.TRG_RO_STAT_ACTIVE = (s.trg.readouts.length + 1) % 2 ^ 4 ∧
    MainKept 1573188 [F.TRG_SNIP_STAT, F.TRG_RO_STAT] s (s.readoutTaken r first) := by
  have hrun : Kept 1572864 s s.runPort := State.runPort_kept s (hs.kept _) rfl
  have hmoved := s.portMoved_runPort
  obtain ⟨v, hv⟩ : ∃ v, v = s.runPort.pushAnswer r.req r.status 0 r.first ((r.stop - r.first) / 64) ((r.first - first) / 64) r.map :=
    ⟨_, rfl⟩
  have hanswer : MainKept 324 [] s.runPort v := hv ▸ hrun.sound.pushAnswer_main _ _ _ _ _ _ _
  obtain ⟨w, hw⟩ : ∃ w, w = v.onTrg fun x => { x with readouts := x.readouts ++ [r] } := ⟨_, rfl⟩
  have hjoined : MainKept 524612 [] s.runPort w := hw ▸ (hanswer.mono rfl (List.Subset.refl _)).onTrg rfl _
  have hro : w.trg.readouts = s.runPort.trg.readouts ++ [r] := by
    rw [hw, State.onTrg_trg, hanswer.kept.trg rfl]
  have htaken : s.readoutTaken r first = w.showJobs := by
    rw [State.readoutTaken, hw, hv]
  have hshow : MainKept 524612 [F.TRG_SNIP_STAT, F.TRG_RO_STAT] s.runPort w.showJobs :=
    (hjoined.mono rfl (List.nil_subset _)).showJobs rfl (.head _) (.tail _ (.head _))
  have hlen : w.trg.readouts.length = s.trg.readouts.length + 1 := by
    rw [hro, List.length_append, hmoved.readouts_length]
    rfl
  have hactive := hjoined.kept.sound.showJobs_shown.2
  rw [hlen] at hactive
  rw [htaken]
  refine ⟨⟨s.runPort.trg.readouts, ?_, congrArg Trg.readouts hmoved.trg⟩, hactive, (hrun.mono rfl).trans (hshow.kept.mono rfl),
    fun b hq hb hl => (hshow.main b hq hb hl).trans ?_⟩
  · have hshown : w.showJobs.trg = w.trg := rfl
    rw [hshown, hro]
  · rw [State.regGet, hrun.regs_eq rfl, State.regGet]

end

end Sys2Proof.Machine

open Sys2Proof Sys2Proof.Machine

/-- Settles O21, clause by clause: the port moves its readers alone (State.PortMoved), and a job's output and the counts show outside
the table. -/
theorem snippetsAndReadouts : Obligations.SnippetsAndReadouts := by
  unfold Obligations.SnippetsAndReadouts
  intro s hs
  have hsound := hs.sound
  refine ⟨fun i hi hskip hready hbefore => ?_, fun j hj hrun hleast hwritten => ?_, fun h => ?_, fun id size flips bad u hu => ?_,
    fun req len at_ map first stop hfirst hstop => ⟨fun c hc hlt => ?_, fun hnew => ⟨fun n hreason hn => ?_,
      fun hreason harmed f hf => ?_⟩⟩, fun req size flips bad u hu => ?_⟩
  · refine ⟨_, State.portStep_first hi hskip hready hbefore, rfl, congrArg (· + 1) (s.serveShare_bursts _),
      fun h => s.serveShare_readouts _ h, fun h => s.serveShare_jobs _ h, fun h => s.serveShare_codec _ (shareOf_lt _) h⟩
  · obtain ⟨v, hv⟩ : ∃ v, v = s.runPort.onTrg fun t => { t with jobs := t.jobs.map fun x =>
        if x = j then { j with running := true, rd := { at_ := firstPlace j.set j.start j.stop } } else x } := ⟨_, rfl⟩
    have hdo := State.doSnippetStart_earliest hj hrun hleast hwritten
    rw [← hv] at hdo
    have hport : Kept 1572864 s s.runPort := State.runPort_kept s (hsound.kept _) rfl
    have hvk : Kept 1572864 s v := hv ▸ State.onTrg_kept _ _ hport rfl
    have hpush : MainKept 324 [] v (v.pushSteered 3 (setSteer j.set) (v.snipHeader j)) :=
      (MainKept.refl hvk.sound 324 []).pushSteered rfl (by decide) (by decide) _ _
    have hqueue : v.queue 3 = s.queue 3 := State.Sound.queue_of_kept hvk rfl 3
    have hheader : v.snipHeader j = s.snipHeader j := by
      rw [State.snipHeader, State.timeOf, hvk.tim rfl]
      rfl
    refine ⟨_, (hs.next_cxDo State.doSnippetStart).trans (congrArg _ hdo), ?_, ?_, fun hblocked hroom => ?_, ?_, ?_⟩
    · rw [hpush.kept.trg rfl, hv]
      rfl
    · rw [hpush.kept.codec rfl, hv]
      rfl
    · obtain ⟨x, hx, hwords⟩ := hvk.sound.pushPkt_room (q := 3) (by decide)
        (p := { words := packetWords (v.snipHeader j), at_ := v.clk.count, steer := some (setSteer j.set) })
        (by rw [hqueue]; exact hblocked) (by rw [hqueue]; exact hroom)
      rw [hqueue] at hx
      exact ⟨x, hx, by rw [hwords, hheader]⟩
    · intro b hq hb hl
      refine (hpush.main b hq hb hl).trans ?_
      rw [State.regGet, hvk.regs_eq rfl, State.regGet]
    · exact ((hvk.mono (m' := 1573188) rfl).trans (hpush.kept.mono rfl)).eq_withParts
  · exact (hs.next_cxDo State.doSnippetStart).trans (congrArg _ (State.doSnippetStart_idle h))
  · subst hu
    have hexec := hs.next_cxDo fun s => s.doSnippetComplete id.toNat size { flips := flips, bad := bad }
    refine ⟨fun j hj hend hlen => ?_, fun hnone => ?_, fun j hj hend => ?_⟩
    · have hdo := State.doSnippetComplete_some hj size { flips := flips, bad := bad }
      rw [hend, Option.isSome_none, if_neg Bool.false_ne_true] at hdo
      obtain ⟨v, hv⟩ : ∃ v, v = (s.readSnippet id.toNat).onTrg fun x => { x with jobs := x.jobs.erase j } := ⟨_, rfl⟩
      have hread : Kept 1572880 s (s.readSnippet id.toNat) := State.readSnippet_kept s _ (hsound.kept _) rfl
      have hvk : Kept 1572880 s v := hv ▸ State.onTrg_kept _ _ hread rfl
      rw [← hv] at hdo
      have hend := hvk.sound.endSnippet_main size false { flips := flips, bad := bad } j
      obtain ⟨htrg, hcodec, hclk, hjobs, -, hmain, hkept⟩ := State.jobEnded_outcome hvk
        (l := [F.CDC_VERIFY, F.CDC_VERIFY_TOTAL, F.TRG_EVT2, F.TRG_SNIP_STAT, F.TRG_RO_STAT]) (hend.mono rfl (by simp)) (by simp)
      have hcount : v.trg.jobs.length = s.trg.jobs.length - 1 := by
        have hlist : (s.readSnippet id.toNat).trg.jobs.length = s.trg.jobs.length := (s.portMoved_runPortTo _).jobs_length
        rw [hv, State.onTrg_trg, List.length_erase_of_mem (List.mem_of_find?_eq_some hj), hlist]
      refine ⟨_, hexec.trans (congrArg _ hdo), ?_, ?_, ?_, ?_, hmain, hkept.eq_withParts⟩
      · rw [htrg, hv]
        rfl
      · rw [hcodec, hv]
        rfl
      · rw [hclk, hv]
        rfl
      · rw [hjobs, hcount]
        exact Nat.mod_eq_of_lt (by omega)
    · exact hexec.trans (congrArg _ (State.doSnippetComplete_none hnone _ _))
    · refine hexec.trans (congrArg _ ((State.doSnippetComplete_some hj _ _).trans (if_pos ?_)))
      exact Option.isSome_iff_ne_none.2 hend
  · refine ⟨_, (hs.next_cxDo fun s => s.doReadoutRequest req.toNat len.toNat at_.toNat map.toNat).trans
      (congrArg _ (State.doReadoutRequest_duplicate hc hlt _ _ _)), State.rd_satAdd hsound.regs (by decide) 0 1,
      State.sameRegs_wr hsound.regs F.TRG_RO_STAT_DUPLICATES 0 _, rfl⟩
  · have hreason' : (s.requestNoted req.toNat).declineReason len.toNat map.toNat
        ((s.requestNoted req.toNat).countAt ((s.requestNoted req.toNat).nearTime at_.toNat) / 64 * 64) = n := by
      rw [← hreason, hfirst]
      rfl
    have hdo := State.doReadoutRequest_new hnew len.toNat at_.toNat map.toNat
    rw [hreason', State.requestJudged, if_pos hn] at hdo
    obtain ⟨v, hv⟩ : ∃ v, v = s.requestNoted req.toNat := ⟨_, rfl⟩
    have hvk : Kept 524288 s v := hv ▸ State.onTrg_kept _ _ (hsound.kept _) rfl
    have hvro : v.trg.readouts = s.trg.readouts := by
      rw [hv]
      rfl
    have hqueue : v.queue 2 = s.queue 2 := State.Sound.queue_of_kept hvk rfl 2
    rw [← hv] at hdo
    have hanswer := hvk.sound.pushAnswer_main req.toNat 3 n 0 0 0 0
    refine ⟨_, (hs.next_cxDo fun s => s.doReadoutRequest req.toNat len.toNat at_.toNat map.toNat).trans (congrArg _ hdo), ?_,
      fun b hq hb hl => ?_, fun hblocked hroom => ?_, ((hvk.mono (m' := 524612) rfl).trans (hanswer.kept.mono rfl)).eq_withParts⟩
    · rw [hanswer.kept.trg rfl, hvro]
    · refine (hanswer.main b hq hb hl).trans ?_
      rw [State.regGet, hvk.regs_eq rfl, State.regGet]
    · have := hvk.sound.pushAnswer_declined req.toNat n (by rw [hqueue]; exact hblocked) (by rw [hqueue]; exact hroom)
      rw [hqueue] at this
      exact this
  · subst hf
    have hdo := State.doReadoutRequest_new hnew len.toNat at_.toNat map.toNat
    obtain ⟨v, hv⟩ : ∃ v, v = s.requestNoted req.toNat := ⟨_, rfl⟩
    have hvk : Kept 524288 s v := hv ▸ State.onTrg_kept _ _ (hsound.kept _) rfl
    have hvro : v.trg.readouts = s.trg.readouts := by
      rw [hv]
      rfl
    have hvreason : v.declineReason len.toNat map.toNat first = 0 := by
      rw [← hreason, hv]
      rfl
    have hvarmed : v.ringState = ringArmed := by
      rw [← harmed, hv]
      rfl
    have hfirst' : v.countAt (v.nearTime at_.toNat) / 64 * 64 = first := by
      rw [hfirst, hv]
      rfl
    have hstop' : nextMultiple 64 (v.countAt (v.nearTime at_.toNat + len.toNat * 65536)) = stop := by
      rw [hstop, hv]
      rfl
    have hread : v.firstRead v.clk.fs first stop map.toNat = s.firstRead s.clk.fs first stop map.toNat := by
      rw [hv]
      rfl
    have hnew : v.newReadout req.toNat first (s.firstRead s.clk.fs first stop map.toNat) stop stop map.toNat =
        s.newReadout req.toNat first (s.firstRead s.clk.fs first stop map.toNat) stop stop map.toNat := by
      rw [hv]
      rfl
    rw [← hv, hfirst', hstop', hvreason, State.requestJudged_armed hvarmed, hread, hnew] at hdo
    obtain ⟨f, hf⟩ : ∃ f, f = s.firstRead s.clk.fs first stop map.toNat := ⟨_, rfl⟩
    have hf64 : f % 64 = 0 := hf ▸ nextMultiple_mod _ _
    have hexec := (hs.next_cxDo fun s => s.doReadoutRequest req.toNat len.toNat at_.toNat map.toNat).trans (congrArg _ hdo)
    rw [show firstCount _ _ _ _ _ _ _ = f from hf.symm]
    rw [← hf] at hexec
    by_cases hle : stop ≤ f
    · rw [if_pos hle] at hexec
      have hanswer := hvk.sound.pushAnswer_main req.toNat 2 0 f 0 ((f - first) / 64) (map.toNat &&& v.trg.map)
      refine ⟨_, hexec, fun _ => (congrArg Trg.readouts (hanswer.kept.trg rfl)).trans hvro, fun hlt => absurd hle (Nat.not_le.2 hlt),
        fun b hq hb hl => ?_, ((hvk.mono (m' := 1573188) rfl).trans (hanswer.kept.mono rfl)).eq_withParts⟩
      refine (hanswer.main b hq hb (List.not_mem_nil)).trans ?_
      rw [State.regGet, hvk.regs_eq rfl, State.regGet]
    · rw [if_neg hle] at hexec
      have hlen : s.trg.readouts.length < 8 := State.readouts_lt_of_accepted hreason
      obtain ⟨hlist, hactive, hmain⟩ := hvk.sound.readoutTaken_outcome (s.newReadout req.toNat first f stop stop map.toNat) first
      rw [hvro] at hlist hactive
      obtain ⟨l, hl, hunread⟩ := hlist
      refine ⟨_, hexec, fun h => absurd h hle, fun _ => ⟨l, _, hl, hunread, rfl, rfl, rfl, rfl, hf64, rfl, ?_, rfl, ?_⟩,
        fun b hq hb hl => ?_, ((hvk.mono (m' := 1573188) rfl).trans hmain.kept).eq_withParts⟩
      · exact s.newReadout_status _ _ _ _ _
      · rw [hactive]
        exact Nat.mod_eq_of_lt (by omega)
      · refine (hmain.main b hq hb hl).trans ?_
        rw [State.regGet, hvk.regs_eq rfl, State.regGet]
  · subst hu
    have hexec := hs.next_cxDo fun s => s.doReadoutComplete req.toNat size { flips := flips, bad := bad }
    refine ⟨fun r hr hend hlen => ?_, fun hnone => ?_, fun r hr hend => ?_⟩
    · have hdo := State.doReadoutComplete_some hr size { flips := flips, bad := bad }
      rw [hend, Option.isSome_none, if_neg Bool.false_ne_true] at hdo
      obtain ⟨v, hv⟩ : ∃ v, v = (s.readReadout req.toNat).onTrg fun x => { x with readouts := x.readouts.erase r } := ⟨_, rfl⟩
      have hread : Kept 1572880 s (s.readReadout req.toNat) := State.readReadout_kept s _ (hsound.kept _) rfl
      have hvk : Kept 1572880 s v := hv ▸ State.onTrg_kept _ _ hread rfl
      rw [← hv] at hdo
      have hend := hvk.sound.endReadout_main size false { flips := flips, bad := bad } r
      obtain ⟨htrg, hcodec, hclk, -, hactive, hmain, hkept⟩ := State.jobEnded_outcome hvk
        (l := [F.CDC_VERIFY, F.CDC_VERIFY_TOTAL, F.TRG_SNIP_STAT, F.TRG_RO_STAT]) (hend.mono rfl (by simp)) (by simp)
      have hcount : v.trg.readouts.length = s.trg.readouts.length - 1 := by
        have hlist : (s.readReadout req.toNat).trg.readouts.length = s.trg.readouts.length :=
          (s.portMoved_runPortTo _).readouts_length
        rw [hv, State.onTrg_trg, List.length_erase_of_mem (List.mem_of_find?_eq_some hr), hlist]
      refine ⟨_, hexec.trans (congrArg _ hdo), ?_, ?_, ?_, ?_, hmain, hkept.eq_withParts⟩
      · rw [htrg, hv]
        rfl
      · rw [hcodec, hv]
        rfl
      · rw [hclk, hv]
        rfl
      · rw [hactive, hcount]
        exact Nat.mod_eq_of_lt (by omega)
    · exact hexec.trans (congrArg _ (State.doReadoutComplete_none hnone _ _))
    · refine hexec.trans (congrArg _ ((State.doReadoutComplete_some hr _ _).trans (if_pos ?_)))
      exact Option.isSome_iff_ne_none.2 hend
end

section
/-! SUPPORT. What a report leaves of the other fault state and of the registers beside its own (R421). -/

namespace Sys2Proof.Machine

/-- The fault state beside the incidents. -/
def Fau.rest (f : Fau) : Fau := { f with inc := [] }

theorem State.pmcAdd_fau (s : State) (lo hi : Fld) (i j n : Nat) : (s.pmcAdd lo hi i j n).fau = s.fau := by
  unfold State.pmcAdd
  dsimp only
  split <;> rfl

@[simp] theorem State.count_fau (s : State) (e l n : Nat) : (s.count e l n).fau = s.fau := by
  unfold State.count
  split
  · rfl
  · refine State.forEach_induction (P := fun u => u.fau = s.fau) (s.pmcAdd_fau _ _ _ _ _) fun u f _ hu => ?_
    split
    · exact (u.pmcAdd_fau _ _ _ _ _).trans hu
    · exact hu

/-- A report changes the incidents alone. -/
theorem State.report_rest (s : State) (c l d : Nat) : (s.report c l d).fau.rest = s.fau.rest := by
  rw [State.report]
  split
  · rfl
  · split
    · rfl
    · split
      next e _ =>
        obtain ⟨n, due, hopen⟩ := s.openInc_eq e c l d
        rw [hopen]
        refine State.forEach_induction (P := fun u => u.fau.rest = s.fau.rest) ?_ fun u x _ hu => ?_
        · rw [State.count_fau]
          rfl
        · exact hu
      · unfold State.incOverflow
        dsimp only
        split
        · rw [State.wr_fau, State.flag_fau, State.count_fau]
          rfl
        · rfl

section
variable {a : Nat} {r t : State} (h : HeldAt a r t) (ha : a < 0x3C0000)
include h ha

theorem HeldAt.count_low (e l n : Nat) : HeldAt a r (t.count e l n) :=
  ⟨((LowKept.refl h.wf).count e l n).wf, (State.count_low h.wf e l n ha).trans h.same⟩

/-- A report writes FAU_STAT, FAU_EVT and the event counters. -/
theorem HeldAt.report_side (hstat : F.FAU_STAT ≠ a) (hevt : F.FAU_EVT ≠ a) (c l d : Nat) : HeldAt a r (t.report c l d) := by
  rw [State.report]
  split
  · exact h.congr rfl
  · split
    · exact h.congr rfl
    · split
      next e _ =>
        obtain ⟨n, due, hopen⟩ := t.openInc_eq e c l d
        rw [hopen]
        have hput : HeldAt a r ({ t with free := n }.onInc e fun _ => t.firstReport c l d due) := h.congr rfl
        have hnew : HeldAt a r (t.incOpened n e c l d due) := hput.wr (f := F.FAU_STAT_NEXT_ID) (i := 0) hstat _
        exact ((hnew.flag hevt 0).count_low ha 0x190 l 1).forEach (f := fun u x => u.foldInc e x) (fun u x hu => hu.congr rfl) _
      · have hinc (f : Incident → Incident) : HeldAt a r (t.onInc 255 f) := h.congr rfl
        unfold State.incOverflow
        dsimp only
        split
        · exact (((((hinc _).wr (f := F.FAU_STAT_NEXT_ID) (i := 0) hstat _).flag hevt 0).count_low ha _ _ _).flag hevt 1).wr
            (f := F.FAU_STAT_OVERFLOW) (i := 0) hstat 1
        · exact ((hinc _).flag hevt 1).wr (f := F.FAU_STAT_OVERFLOW) (i := 0) hstat 1

end

end Sys2Proof.Machine
end

section
/-! SUPPORT. Scrubbing, the flash refresh and telemetry (R427 to R434). -/

namespace Sys2Proof.Machine

/-! ### Scrubbing -/

/-- One differing copy is counted. -/
def State.scrubCounted (s : State) (a : Nat) : State :=
  ((s.satAdd F.FAU_SCRUB_TOTAL_COUNT 0 1).flag F.FAU_EVT 2).count 0x181 (s.ownerLoc a) 1

/-- It is noted, for 1 s. -/
def State.scrubNoted (s : State) (a : Nat) : State :=
  s.onFau fun f => { f with scrubHits := (a, s.clk.tick) :: s.fau.scrubHits.filter fun h => decide (s.clk.tick < h.2 + 1000)
                            scrubSecond := f.scrubSecond + 1 }

theorem State.doConfigScrub_none {s : State} {a k : Nat} (h : isConfig a = false ∨ k = 0) : s.doConfigScrub a k = s := by
  refine if_pos ?_
  rcases h with h | rfl
  · rw [h]
    rfl
  · exact Bool.or_true _

theorem State.doConfigScrub_one {s : State} {a : Nat} (h : isConfig a = true) : s.doConfigScrub a 1 = (s.scrubCounted a).scrubNoted a ∨
    s.doConfigScrub a 1 = ((s.scrubCounted a).scrubNoted a).report 0x6002 (s.ownerLoc a) a := by
  rw [State.doConfigScrub, h, if_neg (by decide), if_pos rfl]
  dsimp only
  split
  · exact .inr rfl
  · exact .inl rfl

/-- The count of the scrubber holds what it held, and one more. -/
theorem State.Sound.scrubNoted_outcome {s : State} (hs : s.Sound) (a : Nat) : Kept 518 s ((s.scrubCounted a).scrubNoted a) ∧
    HeldAt F.FAU_SCRUB_TOTAL (s.satAdd F.FAU_SCRUB_TOTAL_COUNT 0 1) ((s.scrubCounted a).scrubNoted a) ∧
    LowKept s ((s.scrubCounted a).scrubNoted a) ∧ ((s.scrubCounted a).scrubNoted a).fau.scrubSecond = s.fau.scrubSecond + 1 ∧
    (a, s.clk.tick) ∈ ((s.scrubCounted a).scrubNoted a).fau.scrubHits := by
  obtain ⟨u, hu⟩ : ∃ u, u = s.scrubCounted a := ⟨_, rfl⟩
  obtain ⟨v, hv⟩ : ∃ v, v = (s.satAdd F.FAU_SCRUB_TOTAL_COUNT 0 1).flag F.FAU_EVT 2 := ⟨_, rfl⟩
  have hcount : u = v.count 0x181 (s.ownerLoc a) 1 := by rw [hu, hv, State.scrubCounted]
  have hvk : Kept 4 s v := hv ▸ State.flag_kept _ _ _ (State.satAdd_kept _ _ _ _ (hs.kept 4) rfl) rfl
  have huk : Kept 4 s u := hcount ▸ State.count_kept v _ _ _ hvk rfl
  have hwf : tableWf coldWord (s.satAdd F.FAU_SCRUB_TOTAL_COUNT 0 1).regs = true := State.wf_wr hs.regs _ _ _
  have hheld : HeldAt F.FAU_SCRUB_TOTAL (s.satAdd F.FAU_SCRUB_TOTAL_COUNT 0 1) u := by
    rw [hcount, hv]
    exact ((HeldAt.refl hwf _).flag (by decide) 2).count_low (by decide) _ _ _
  have hlow : LowKept s u := by
    rw [hcount, hv]
    exact (((LowKept.refl hs.regs).wr (by decide) 0 _).flag (by decide) 2).count _ _ _
  rw [← hu]
  exact ⟨State.onFau_kept _ _ (huk.mono rfl) rfl, hheld.congr rfl, hlow.congr rfl, congrArg (· + 1) (congrArg Fau.scrubSecond (huk.fau rfl)),
    by rw [← huk.clk rfl]; exact List.mem_cons_self⟩

/-- A word whose copies all differ is stored anew with its cold value. -/
theorem State.doConfigScrub_all {s : State} {a : Nat} {r : RegDef} (h : isConfig a = true) (hr : regAt a = some r)
    (hrwl : ∀ f ∈ r.fields, f.acc ≠ .rwl)
    (hplain : ∀ (u : State) (n : Nat), u.writeMgt r 0 a (coldWrite r a) = none ∧ u.writeFront r a (coldWrite r a) n = none ∧
      u.writeCore r a (coldWrite r a) = none ∧ u.writeLink r a (coldWrite r a) = none) :
    s.doConfigScrub a 2 = (s.report 0x6003 (s.ownerLoc a) a).drawn.store r a (coldWrite r a) := by
  have hnone : (r.fields.any fun f => f.acc == .rwl) = false := List.any_eq_false.2 fun f hf => by
    rw [beq_iff_eq]
    exact hrwl f hf
  obtain ⟨u, hu⟩ : ∃ u, u = (s.report 0x6003 (s.ownerLoc a) a).drawn := ⟨_, rfl⟩
  have hwrite (n : Nat) : u.writeReg r 0 a (coldWrite r a) n = u.store r a (coldWrite r a) := by
    obtain ⟨hmgt, hfront, hcore, hlink⟩ := hplain u n
    rw [State.writeReg, hmgt, hfront, hcore, hlink]
  rw [State.doConfigScrub, h, if_neg (by decide), if_neg (by decide), hr, ← hu, ← hwrite]
  dsimp only
  rw [hnone, if_neg Bool.false_ne_true, hu]
  rfl

/-! ### The flash refresh (R431) -/

/-- The refresh has gone on past block b, with the clock at c. -/
def State.refreshed (s : State) (c : Clk) (b : Nat) : State :=
  { s with clk := c, fau := { s.fau with refreshNext := (b + 1) % 256, refreshTick := c.tick } }

/-- A block that cannot be erased joins the retired ones. -/
def State.blockRetired (s : State) (b : Nat) : State :=
  (s.onFau fun f => { f with retired := f.retired ++ [b] }).wr F.FAU_FLASH_STAT_RETIRED 0 (s.fau.retired ++ [b]).length

section
variable {s : State} {c : Clk} (h : s.plane.hot.getD 4 false = false) (hc : s.toTick (s.fau.refreshTick + 337500) = { s with clk := c })
include h hc

theorem State.doFlashRefresh_good {worst : Nat} {eraseOk : Bool} (hw : worst < 2 ∨ worst = 2 ∧ eraseOk = true) (item : Nat) :
    s.doFlashRefresh worst eraseOk item = s.refreshed c (s.nextBlock s.fau.refreshNext) := by
  have hlow : ¬ 3 ≤ worst := by omega
  have hok : (worst = 2 && !eraseOk) = false := by
    rcases hw with hw | ⟨-, rfl⟩
    · rw [decide_eq_false (by omega)]
      rfl
    · exact Bool.and_false _
  rw [State.doFlashRefresh, h, if_neg Bool.false_ne_true]
  dsimp only
  rw [hc, if_neg hlow, hok, if_neg Bool.false_ne_true]
  rfl

theorem State.doFlashRefresh_retired (item : Nat) : ∃ l, s.doFlashRefresh 2 false item =
    ((s.refreshed c (s.nextBlock s.fau.refreshNext)).blockRetired (s.nextBlock s.fau.refreshNext)).report 0x6004 l
      (s.nextBlock s.fau.refreshNext) := by
  rw [State.doFlashRefresh, h, if_neg Bool.false_ne_true]
  dsimp only
  rw [hc, if_neg (by decide), if_pos (by decide), State.blockRetired]
  exact ⟨_, rfl⟩

theorem State.doFlashRefresh_lost (eraseOk : Bool) (item : Nat) : ∃ l, s.doFlashRefresh 3 eraseOk item =
    ((s.refreshed c (s.nextBlock s.fau.refreshNext)).report 0x6005 l (s.nextBlock s.fau.refreshNext)).loseItem item := by
  rw [State.doFlashRefresh, h, if_neg Bool.false_ne_true]
  dsimp only
  rw [hc, if_pos (by decide)]
  exact ⟨_, rfl⟩

end

/-- What is lost with a block is no longer valid. -/
theorem State.Sound.loseItem_outcome {s : State} (hs : s.Sound) (item : Nat) :
    (∀ c, (item = 1 ∨ item = 2) → (s.loseItem item).adc.saved[item - 1]? = some c → c.valid = false) ∧
    (∀ r, 3 ≤ item → (s.loseItem item).book.records[item - 3]? = some r → r.valid = false) ∧ (s.loseItem item).fau = s.fau ∧
    (s.loseItem item).clk = s.clk ∧ s.sameRegs (s.loseItem item) [F.ADC_REH_STAT] := by
  rw [State.loseItem]
  split
  next h => exact ⟨fun _ _ => by omega, fun _ _ => by omega, rfl, rfl, fun _ _ => rfl⟩
  next h =>
    split
    next h' =>
      refine ⟨fun c _ hc => ?_, fun _ _ => by omega, rfl, rfl, ?_⟩
      · obtain ⟨old, -, rfl⟩ := Option.map_eq_some_iff.1 ((List.getElem?_modify_eq _ _ _).symm.trans hc)
        rfl
      · exact State.sameRegs_wr hs.regs F.ADC_REH_STAT_SAVED_VALID 0 _
    next h' =>
      refine ⟨fun _ _ => by omega, fun r _ hr => ?_, rfl, rfl, fun _ _ => rfl⟩
      obtain ⟨old, -, rfl⟩ := Option.map_eq_some_iff.1 ((List.getElem?_modify_eq _ _ _).symm.trans hr)
      rfl

/-! ### Telemetry -/

theorem State.telemetryWords_toCount (s : State) (n : Nat) (k : Int) : (s.toCount n).telemetryWords k = s.telemetryWords k := by
  rw [State.toCount]
  split
  · rfl
  · rfl

/-- The second that the next telemetry packet ends. -/
def State.telemetrySecond (s : State) : Int :=
  if secondsOf s.now = s.fau.lastSecond then secondsOf s.now + 1 else secondsOf s.now

/-- The sums of the second start anew. -/
def Fau.nextSecond (f : Fau) (k : Int) : Fau :=
  { f with corrSecond := 0, scrubSecond := 0, discardSecond := 0, verifySecond := 0, lastSecond := k }

theorem State.doTelemetry_on {s : State} (h : s.plane.cxOn = true) : s.doTelemetry =
    ((s.toCount (s.countAt (s.telemetrySecond * 65536000000000))).push 3 (s.telemetryWords s.telemetrySecond)).onFau fun f =>
      f.nextSecond s.telemetrySecond := by
  rw [State.doTelemetry, h, Bool.not_true, if_neg Bool.false_ne_true, ← s.telemetryWords_toCount]
  rfl

end Sys2Proof.Machine

open Sys2Proof Sys2Proof.Machine

/-- Settles O28, clause by clause: a report changes the incidents and registers of its own alone (State.report_rest). -/
theorem backgroundWork : Obligations.BackgroundWork := by
  unfold Obligations.BackgroundWork
  intro s hs
  have hsound := hs.sound
  refine ⟨fun a kind h => ?_, fun a ha => ?_, fun a r ha hlow' hr hrwl hplain => ?_, fun worst eraseOk item hhot => ?_,
    fun worst eraseOk item b hhot hb hfs => ?_, fun hblocked hroom => ?_⟩
  · exact (hs.awake.next_keeperDo fun s => s.doConfigScrub a.toNat kind).trans
      (congrArg _ (State.doConfigScrub_none (h.imp_right fun h => congrArg Fin.val h)))
  · have hexec := hs.awake.next_keeperDo fun s => s.doConfigScrub a.toNat 1
    obtain ⟨v, hv⟩ : ∃ v, v = (s.scrubCounted a.toNat).scrubNoted a.toNat := ⟨_, rfl⟩
    obtain ⟨hkept, hheld, hlow, hsecond, hmem⟩ := hsound.scrubNoted_outcome a.toNat
    rw [← hv] at hkept hheld hlow hsecond hmem
    have hrd : (s.satAdd F.FAU_SCRUB_TOTAL_COUNT 0 1).rd F.FAU_SCRUB_TOTAL_COUNT =
      min (2 ^ 32 - 1) (s.rd F.FAU_SCRUB_TOTAL_COUNT + 1) := State.rd_satAdd hsound.regs (by decide) 0 1
    rcases State.doConfigScrub_one (s := s) ha with hdo | hdo
    · rw [← hv] at hdo
      exact ⟨_, hexec.trans (congrArg _ hdo), (hheld.rd rfl).trans hrd, hsecond, hmem, fun b _ hb _ => hlow.low b hb, hkept.eq_withParts⟩
    · rw [← hv] at hdo
      have hrest := v.report_rest 0x6002 (s.ownerLoc a.toNat) a.toNat
      refine ⟨_, hexec.trans (congrArg _ hdo), ?_, (congrArg Fau.scrubSecond hrest).trans hsecond, ?_,
        fun b _ hb _ => (hlow.report _ _ _).low b hb, (State.report_kept v _ _ _ hkept rfl).eq_withParts⟩
      · exact ((hheld.report_side (by decide) (by decide) (by decide) _ _ _).rd rfl).trans hrd
      · have hhits : (v.report 0x6002 (s.ownerLoc a.toNat) a.toNat).fau.scrubHits = v.fau.scrubHits := (congrArg Fau.scrubHits hrest :)
        rw [hhits]
        exact hmem
  · have hexec := hs.awake.next_keeperDo fun s => s.doConfigScrub a.toNat 2
    obtain ⟨u, hu⟩ : ∃ u, u = (s.report 0x6003 (s.ownerLoc a.toNat) a.toNat).drawn := ⟨_, rfl⟩
    have hdo := State.doConfigScrub_all (s := s) ha hr hrwl hplain
    rw [← hu] at hdo
    have hlow : LowKept s u := hu ▸ ((LowKept.refl hsound.regs).report _ _ _).congr rfl
    have hreport : Kept 518 s (s.report 0x6003 (s.ownerLoc a.toNat) a.toNat) := State.report_kept s _ _ _ (hsound.kept _) rfl
    have huk : Kept 518 s u := hu ▸ hreport.congr (K := 2) rfl rfl rfl rfl rfl rfl rfl rfl rfl
    have hlocked : u.locked = s.locked := by
      rw [State.locked, State.locked, State.rdB, State.rdB, State.rd_of_regGet (hlow.low _ (by decide))]
    refine ⟨_, hexec.trans (congrArg _ hdo), ?_, fun b hq hb hmem => ?_, ?_⟩
    · rw [State.store, State.regGet_regPut hlow.wf, if_pos rfl, hlocked, hlow.low _ hlow']
    · exact (State.sameRegs_regPut hlow.wf _ _ b hmem).trans (hlow.low b hb)
    · exact (State.regPut_kept _ _ huk rfl).eq_withParts
  · exact (hs.awake.next_keeperDo fun s => s.doFlashRefresh worst eraseOk item).trans (congrArg _ (if_pos hhot))
  · have hexec := hs.awake.next_keeperDo fun s => s.doFlashRefresh worst eraseOk item
    subst hb
    obtain ⟨b, hb⟩ : ∃ b, b = s.nextBlock s.fau.refreshNext := ⟨_, rfl⟩
    obtain ⟨c, hc, htick⟩ : ∃ c, s.toTick (s.fau.refreshTick + 337500) = { s with clk := c } ∧ s.fau.refreshTick + 337500 ≤ c.tick :=
      ⟨_, s.toTick_only _, State.le_tick_toTick hfs _⟩
    obtain ⟨u, hu⟩ : ∃ u, u = s.refreshed c b := ⟨_, rfl⟩
    have huclk : u.clk = c := by rw [hu]; rfl
    have hufau : u.fau = { s.fau with refreshNext := (b + 1) % 256, refreshTick := c.tick } := by rw [hu]; rfl
    have huk : Kept 528 s u := hu ▸ (hsound.kept _).congr (K := 528) rfl rfl rfl rfl rfl rfl rfl rfl rfl
    have huregs : u.regs = s.regs := huk.regs_eq rfl
    rw [← hb]
    refine ⟨fun hw => ?_, fun hw herase => ?_, fun hw => ?_⟩
    · have hdo := State.doFlashRefresh_good hhot hc hw item
      rw [← hb] at hdo
      exact ⟨s.refreshed c b, hexec.trans (congrArg _ hdo), htick, rfl⟩
    · obtain ⟨l, hdo⟩ := State.doFlashRefresh_retired hhot hc item
      rw [← hb, ← hu] at hdo
      obtain rfl : worst = 2 := Fin.ext hw
      rw [herase] at hexec ⊢
      obtain ⟨v, hv⟩ : ∃ v, v = u.blockRetired b := ⟨_, rfl⟩
      have hvfau : v.fau = { u.fau with retired := u.fau.retired ++ [b] } := by rw [hv]; rfl
      have hvk : Kept 532 s v := hv ▸ State.wr_kept _ _ _ _ (State.onFau_kept _ _ (huk.mono rfl) rfl) rfl
      have hvwr : HeldAt F.FAU_FLASH_STAT v (v.report 0x6004 l b) := (HeldAt.refl hvk.regs _).report_side (by decide) (by decide) (by decide) _ _ _
      have hlow : LowKept s v := hv ▸ ((LowKept.refl hsound.regs).congr (u := u.onFau _) huregs).wr (by decide) 0 _
      have hrest := v.report_rest 0x6004 l b
      have hclk : (v.report 0x6004 l b).clk = v.clk := (State.report_kept v _ _ _ (hvk.sound.kept 518) rfl).clk rfl
      rw [← hv] at hdo
      have hvclk : v.clk = c := by rw [hv, ← huclk]; rfl
      have hvrd : v.rd F.FAU_FLASH_STAT_RETIRED = (s.fau.retired ++ [b]).length % 2 ^ 9 := by
        rw [hv, State.blockRetired, hufau, State.rd_wr (by rw [State.onFau_regs, huregs]; exact hsound.regs) _ _ _ (by decide)]
      refine ⟨_, hexec.trans (congrArg _ hdo), (congrArg Fau.retired hrest).trans ?_, (congrArg Fau.refreshNext hrest).trans ?_,
        (congrArg Fau.refreshTick hrest).trans ?_, ?_, fun hlen => ?_, fun b _ hb _ => (hlow.report _ _ _).low b hb,
        ((hvk.mono (m' := 534) rfl).trans (State.report_kept v _ _ _ (hvk.sound.kept 534) rfl)).eq_withParts⟩
      · rw [hvfau, hufau]
        rfl
      · rw [hvfau, hufau]
        rfl
      · rw [hvfau, hufau, hclk, hvclk]
        rfl
      · rw [hclk, hvclk]
        exact htick
      · rw [hvwr.rd (f := F.FAU_FLASH_STAT_RETIRED) rfl, hvrd, List.length_append, List.length_singleton]
        exact Nat.mod_eq_of_lt (by omega)
    · obtain ⟨l, hdo⟩ := State.doFlashRefresh_lost hhot hc eraseOk item
      rw [← hb, ← hu] at hdo
      obtain rfl : worst = 3 := Fin.ext hw
      obtain ⟨v, hv⟩ : ∃ v, v = u.report 0x6005 l b := ⟨_, rfl⟩
      have hvk : Kept 534 s v := hv ▸ State.report_kept u _ _ _ (huk.mono rfl) rfl
      have hlow : LowKept s v := hv ▸ ((LowKept.refl hsound.regs).congr huregs).report _ _ _
      have hrest : v.fau.rest = u.fau.rest := hv ▸ u.report_rest _ _ _
      have hclk : v.clk = c := by
        rw [hv, ← huclk]
        exact (State.report_kept u _ _ _ (huk.sound.kept 518) rfl).clk rfl
      rw [← hv] at hdo
      obtain ⟨hsets, hrecords, hfau, hclk', hregs⟩ := hvk.sound.loseItem_outcome item
      refine ⟨_, hexec.trans (congrArg _ hdo), ?_, hsets, hrecords, ?_, ?_, fun b hq hb hl => (hregs b hl).trans (hlow.low b hb),
        (State.loseItem_kept v item (hvk.mono (m' := 16843286) rfl) rfl).eq_withParts⟩
      · rw [hfau]
        refine (congrArg Fau.refreshNext hrest).trans ?_
        rw [hufau]
        rfl
      · rw [hfau, hclk', hclk]
        refine (congrArg Fau.refreshTick hrest).trans ?_
        rw [hufau]
        rfl
      · rw [hclk', hclk]
        exact htick
  · obtain ⟨k, hk⟩ : ∃ k, k = s.telemetrySecond := ⟨_, rfl⟩
    have hdo := State.doTelemetry_on (s := s) (Bool.and_eq_true_iff.1 hs.cx).1
    rw [← hk] at hdo
    obtain ⟨v, hv⟩ : ∃ v, v = s.toCount (s.countAt (k * 65536000000000)) := ⟨_, rfl⟩
    have hvk : Kept 16 s v := hv ▸ State.toCount_kept s _ (hsound.kept _) rfl
    rw [← hv] at hdo
    have hqueue : v.queue 3 = s.queue 3 := State.Sound.queue_of_kept hvk rfl 3
    have hpush : MainKept 324 [] v (v.push 3 (s.telemetryWords k)) := (MainKept.refl hvk.sound 324 []).pushPkt rfl (by decide) (by decide) _
    obtain ⟨y, hy, hwords⟩ := hvk.sound.pushPkt_room (q := 3) (by decide) (p := { words := packetWords (s.telemetryWords k), at_ := v.clk.count })
      (by rw [hqueue]; exact hblocked) (by rw [hqueue]; exact hroom)
    rw [hqueue] at hy
    refine ⟨_, k, y, (hs.next_cxDo State.doTelemetry).trans (congrArg _ hdo), hk, ?_, hy, hwords, ?_, fun b hq hb hl => ?_, ?_⟩
    · rw [State.onFau_fau, hpush.kept.fau rfl, hvk.fau rfl]
      rfl
    · intro hrun
      have hclk : ((v.push 3 (s.telemetryWords k)).onFau fun f => f.nextSecond k).clk = v.clk := hpush.kept.clk rfl
      rw [hclk, hv]
      exact s.reached_toCount _ hrun
    · refine (hpush.main b hq hb hl).trans ?_
      rw [State.regGet, hvk.regs_eq rfl, State.regGet]
    · exact (State.onFau_kept _ _ ((hvk.mono (m' := 852) rfl).trans (hpush.kept.mono rfl)) rfl).eq_withParts
end

section
/-! SUPPORT. Operations of the safety monitor that act on their own (R353, R359, R366): test pulses, curtain tests and expiries. -/

namespace Sys2Proof.Machine

/-! ### Registers beside the monitor's -/

/-- The monitor's own operations leave the registers beside the safety block and the prompt book's. -/
theorem MonKept.sameButSafety {α : Type} {W : List RegField} {p : Saf → α} {r t : State} (h : MonKept W p r t)
    (hW : ∀ y ∈ W, 0x300000 ≤ y.1.addr y.2 ∧ y.1.addr y.2 < 0x340000 ∨ y.1.addr y.2 = F.PWR_PB_STAT) : r.sameButSafety t := by
  intro b hq hsafety hhi hbook
  refine h.fields.sameMain b hq hhi fun hmem => ?_
  obtain ⟨y, hy, rfl⟩ := List.mem_map.1 hmem
  rcases hW y hy with hplace | hplace
  · omega
  · exact hbook hplace

theorem State.sameButSafety_trans {s t u : State} (h : s.sameButSafety t) (g : t.sameButSafety u) : s.sameButSafety u :=
  fun b hq hs hb hp => (g b hq hs hb hp).trans (h b hq hs hb hp)

theorem State.sameButSafety_of_regs {s t : State} (h : t.regs = s.regs) : s.sameButSafety t :=
  fun b _ _ _ _ => State.sameRegs_of_regs h [] b List.not_mem_nil

/-- LOCKOUT seen from a state with the same registers. -/
theorem State.lockedBy_of_regs {s t u : State} (h : t.regs = s.regs) {code : Nat} (hl : t.lockedBy u code) : s.lockedBy u code := by
  obtain ⟨hstate, hclosed, hcode, hseq, hown⟩ := hl
  exact ⟨hstate, hclosed, hcode, hseq.trans (by rw [State.rd_of_regs h]), hown⟩

/-! ### Lock-outs -/

theorem lockFields_place : ∀ y ∈ lockFields, 0x300000 ≤ y.1.addr y.2 ∧ y.1.addr y.2 < 0x340000 ∨ y.1.addr y.2 = F.PWR_PB_STAT := by
  decide

section
variable {s : State} (hs : s.Sound)
include hs

theorem State.Sound.safLock_kept (code : Nat) : MonKept lockFields Saf.sensed s (s.safLock code) :=
  (MonKept.refl hs _ _).safLock (takesLock_sensed fun _ h => h) code

theorem State.Sound.curtainFaults_kept (l : List Nat) : MonKept lockFields Saf.sensed s (s.forEach l State.curtainFault) :=
  (MonKept.refl hs _ _).forEach fun _ n _ hu => hu.safLock (takesLock_sensed fun _ h => h) (0x5500 + n)

/-- The first of several curtains that fail gives the cause. -/
theorem State.Sound.curtainFaults_lockedBy (h : s.safState ≠ 4) {n : Nat} (hn : n < 2) (l : List Nat) :
    s.lockedBy (s.forEach (n :: l) State.curtainFault) (0x5500 + n) := by
  have hfirst : s.lockedBy (s.safLock (0x5500 + n)) (0x5500 + n) := hs.safLock_lockedBy h (by omega)
  have hrest : (s.safLock (0x5500 + n)).forEach l State.curtainFault = s.forEach (n :: l) State.curtainFault := rfl
  obtain ⟨hsame, -⟩ := State.forEach_induction (f := State.curtainFault) (s := s.safLock (0x5500 + n)) (l := l)
    (P := fun u => SameStanding (s.safLock (0x5500 + n)) u ∧ u.Sound) ⟨.refl _, (hs.safLock_kept _).sound⟩ fun u k _ ⟨hsame, hu⟩ =>
      ⟨hsame.trans (hu.safLock_locked (hsame.safState.trans hfirst.1) _), (hu.safLock_kept _).sound⟩
  rw [← hrest]
  exact hsame.lockedBy hfirst

end

/-- The curtains that fail a test, lowest first. -/
theorem failedCurtains {m : Nat} (hm : m < 4) : (List.range 2).filter (fun n => m.testBit n) =
    if m = 0 then [] else (if m.testBit 0 then 0 else 1) :: (if m = 3 then [1] else []) := by
  interval_cases m <;> rfl

theorem State.notOff_lt (s : State) (balls : List (Nat × Nat)) : s.notOff balls < 4 := by
  refine Nat.lt_of_le_of_lt Nat.and_le_left ?_
  simp only [List.range_succ, List.range_zero, List.nil_append, List.map_append, List.map_cons, List.map_nil, List.sum_append,
    List.sum_cons, List.sum_nil]
  split <;> split <;> decide

end Sys2Proof.Machine
end

section
/-! SUPPORT. The test pulses of the safe inputs (R353, R354). -/

namespace Sys2Proof.Machine

/-! ### Loops whose steps leave one another's entries -/

/-- A loop over entries of which each step establishes D for its own and leaves the others by L. -/
theorem State.forEach_apart {I : State → Prop} {L D : Nat → State → State → Prop} {f : State → Nat → State} {l : List Nat} (hl : l.Nodup)
    (hrefl : ∀ i s, L i s s) (htrans : ∀ {i s t u}, L i s t → L i t u → L i s u) (hleft : ∀ {i s t u}, L i s t → D i t u → D i s u)
    (hright : ∀ {i s t u}, D i s t → L i t u → D i s u)
    (hstep : ∀ t, ∀ i ∈ l, I t → I (f t i) ∧ D i t (f t i) ∧ ∀ j, j ≠ i → L j t (f t i)) {s : State} (hs : I s) :
    I (s.forEach l f) ∧ (∀ i ∈ l, D i s (s.forEach l f)) ∧ ∀ j, j ∉ l → L j s (s.forEach l f) := by
  induction l generalizing s with
  | nil => exact ⟨hs, fun _ hi => absurd hi List.not_mem_nil, fun j _ => hrefl j s⟩
  | cons i l ih =>
    obtain ⟨hil, hl⟩ := List.nodup_cons.1 hl
    obtain ⟨hi, hown, hothers⟩ := hstep s i (.head _) hs
    obtain ⟨hend, hdone, hkept⟩ := ih hl (fun t j hj => hstep t j (.tail _ hj)) hi
    refine ⟨hend, fun j hj => ?_, fun j hj => ?_⟩
    · rcases List.mem_cons.1 hj with rfl | hj
      · exact hright hown (hkept j hil)
      · exact hleft (hothers j fun e => hil (e ▸ hj)) (hdone j hj)
    · rw [List.mem_cons, not_or] at hj
      exact htrans (hothers j hj.1) (hkept j hj.2)

/-! ### One input in a test pulse -/

theorem inputFaults_apart : ∀ i < 8, FieldsApart (F.SAF_SI_STAT_LOCKED, i) (F.SAF_CNT_INPUT_FAULTS, 0) := by decide

/-- From s to t what a test pulse judges input i by is left. -/
structure PulseLeft (i : Nat) (s t : State) : Prop where
  own : ∀ f ∈ [F.SAF_SI_STAT_A, F.SAF_SI_STAT_B, F.SAF_SI_STAT_LOCKED], i < 8 → t.rdB f i = s.rdB f i
  zero : t.saf.zeroSeen.getD i false = s.saf.zeroSeen.getD i false
  passed : t.saf.passedB.getD i false = s.saf.passedB.getD i false
  length : t.saf.passedA.length = s.saf.passedA.length

/-- Does the pulsed channel of input i read 0, and the other one as before (R353)? -/
def State.pulsePasses (s : State) (source a b i : Nat) : Bool :=
  if source = 0 then !a.testBit i && b.testBit i == s.rdB F.SAF_SI_STAT_B i else !b.testBit i && a.testBit i == s.rdB F.SAF_SI_STAT_A i

/-- Input i in a test pulse. -/
def State.pulseTaken (s : State) (source a b i : Nat) : State :=
  if !s.pulsePasses source a b i then s.lockInput i (0x5110 + i)
  else
    (s.onSaf fun x =>
      if source = 0 then { x with passedA := x.passedA.set i true }
      else { x with passedB := x.passedB.set i true }).tryUnlock i

/-- What a test pulse does to the lock of input i, from s to t (R354). -/
structure PulseJudged (source a b i : Nat) (s t : State) : Prop where
  locks : s.pulsePasses source a b i = false → t.rdB F.SAF_SI_STAT_LOCKED i = true
  stays : s.pulsePasses source a b i = true → s.rdB F.SAF_SI_STAT_LOCKED i = false → t.rdB F.SAF_SI_STAT_LOCKED i = false
  unlocks : s.pulsePasses source a b i = true → s.rdB F.SAF_SI_STAT_LOCKED i = true → s.saf.zeroSeen.getD i false = true →
    source = 0 → s.saf.passedB.getD i false = true → i < s.saf.passedA.length → t.rdB F.SAF_SI_STAT_LOCKED i = false

section
variable {source a b i : Nat} {s t u : State}

theorem PulseLeft.refl (i : Nat) (s : State) : PulseLeft i s s := ⟨fun _ _ _ => rfl, rfl, rfl, rfl⟩

theorem PulseLeft.trans (h : PulseLeft i s t) (g : PulseLeft i t u) : PulseLeft i s u :=
  ⟨fun f hf hi => (g.own f hf hi).trans (h.own f hf hi), g.zero.trans h.zero, g.passed.trans h.passed, g.length.trans h.length⟩

theorem PulseLeft.pulsePasses (h : PulseLeft i s t) (hi : i < 8) (source a b : Nat) :
    t.pulsePasses source a b i = s.pulsePasses source a b i := by
  rw [State.pulsePasses, State.pulsePasses, h.own F.SAF_SI_STAT_A (by decide) hi, h.own F.SAF_SI_STAT_B (by decide) hi]

theorem PulseJudged.left (h : PulseJudged source a b i s t) (hi : i < 8) (g : PulseLeft i t u) : PulseJudged source a b i s u := by
  have hlocked := g.own F.SAF_SI_STAT_LOCKED (by decide) hi
  exact ⟨fun hp => hlocked.trans (h.locks hp), fun hp hl => hlocked.trans (h.stays hp hl),
    fun hp hl hz hsrc hpb hlen => hlocked.trans (h.unlocks hp hl hz hsrc hpb hlen)⟩

theorem PulseJudged.of_left (h : PulseJudged source a b i t u) (hi : i < 8) (g : PulseLeft i s t) : PulseJudged source a b i s u := by
  obtain ⟨hlocks, hstays, hunlocks⟩ := h
  rw [g.pulsePasses hi, g.own F.SAF_SI_STAT_LOCKED (by decide) hi] at hstays hunlocks
  rw [g.pulsePasses hi] at hlocks
  rw [g.zero, g.passed, g.length] at hunlocks
  exact ⟨hlocks, hstays, hunlocks⟩

section
variable (hs : s.Sound) (source a b i)
include hs

theorem State.Sound.pulseTaken_kept : MonKept (lockedFields i) Saf.sansDiscrepancies s (s.pulseTaken source a b i) := by
  have hpassed : MonKept (lockedFields i) Saf.sansDiscrepancies s (s.onSaf fun x =>
      if source = 0 then { x with passedA := x.passedA.set i true } else { x with passedB := x.passedB.set i true }) :=
    (MonKept.refl hs _ _).onSaf (by split <;> rfl)
  unfold State.pulseTaken
  split
  · exact (MonKept.refl hs _ _).lockInput _
  · exact hpassed.tryUnlock

theorem State.Sound.lockInput_saf (i code : Nat) : (s.lockInput i code).saf = { s.saf with
    lastCode := code, discrepant := s.saf.discrepant.set i 0, zeroSeen := s.saf.zeroSeen.set i false
    passedA := s.saf.passedA.set i false, passedB := s.saf.passedB.set i false } := by
  have hreport : (s.report code s.locKeeper 0).saf = s.saf := (State.report_kept s _ _ _ (hs.kept 518) rfl).saf rfl
  rw [State.lockInput, State.safReport, State.onSaf_saf, State.satAdd_saf, State.wr_saf, State.onSaf_saf, hreport]

/-- An input that locks shows it. -/
theorem State.Sound.lockInput_locked {i : Nat} (hi : i < 8) (code : Nat) : (s.lockInput i code).rdB F.SAF_SI_STAT_LOCKED i = true := by
  have hreport : (s.safReport code).Sound := (State.safReport_kept s code (hs.kept 8389126) rfl).sound
  have hwr : ((s.safReport code).wr F.SAF_SI_STAT_LOCKED i 1).Sound := (State.wr_kept _ _ _ _ (hreport.kept 4) rfl).sound
  have hkept : MonKept [(F.SAF_CNT_INPUT_FAULTS, 0)] Saf.sansDiscrepancies ((s.safReport code).wr F.SAF_SI_STAT_LOCKED i 1)
      (s.lockInput i code) := by
    unfold State.lockInput
    exact ((MonKept.refl hwr _ _).satAdd List.mem_cons_self 1).onSaf
  have hrd : (s.lockInput i code).rd F.SAF_SI_STAT_LOCKED i = ((s.safReport code).wr F.SAF_SI_STAT_LOCKED i 1).rd F.SAF_SI_STAT_LOCKED i :=
    hkept.rd (ownInputFields_main i hi _ (by decide)) fun y hy => List.mem_singleton.1 hy ▸ inputFaults_apart i hi
  rw [State.rdB, hrd, State.rd_wr hreport.regs _ _ _ (by decide)]
  rfl

end

theorem State.tryUnlock_saf (s : State) (i : Nat) : (s.tryUnlock i).saf = s.saf := by
  unfold State.tryUnlock
  dsimp only
  split <;> rfl

/-- A locked input that has read 0 on both channels unlocks when its pulses have passed. -/
theorem State.Sound.tryUnlock_passed {s : State} (hs : s.Sound) {i : Nat} (hl : s.rdB F.SAF_SI_STAT_LOCKED i = true)
    (hz : s.saf.zeroSeen.getD i false = true) (ha : s.saf.passedA.getD i false = true) (hb : s.saf.passedB.getD i false = true) :
    (s.tryUnlock i).rdB F.SAF_SI_STAT_LOCKED i = false := by
  have hunlock : s.tryUnlock i = ((s.wr F.SAF_SI_STAT_LOCKED i 0).conditionOver (0x5100 + i) s.locKeeper).conditionOver (0x5110 + i)
      s.locKeeper := if_pos (by rw [hl, hz, ha, hb, Bool.and_self, Bool.or_true]; rfl)
  have hrd : (s.tryUnlock i).rd F.SAF_SI_STAT_LOCKED i = (s.wr F.SAF_SI_STAT_LOCKED i 0).rd F.SAF_SI_STAT_LOCKED i :=
    State.rd_of_regs (hunlock ▸ rfl) _ _
  rw [State.rdB, hrd, State.rd_wr hs.regs _ _ _ (by decide)]
  rfl

section
variable (hs : s.Sound) (source a b i)
include hs

/-- An input's pulse leaves the others. -/
theorem State.Sound.pulseTaken_others (hi : i < 8) {j : Nat} (hji : j ≠ i) : PulseLeft j s (s.pulseTaken source a b i) := by
  have hown (f : Fld) (hf : f ∈ [F.SAF_SI_STAT_A, F.SAF_SI_STAT_B, F.SAF_SI_STAT_LOCKED]) (hj : j < 8) :
      (s.pulseTaken source a b i).rdB f j = s.rdB f j := by
    have hf' : f ∈ ownInputFields := by
      revert f
      decide
    exact congrArg (· == 1) ((hs.pulseTaken_kept source a b i).rd (ownInputFields_main j hj f hf') fun y hy =>
      otherInput_apart i hi j hj hji f hf' y (List.mem_append_right _ hy))
  by_cases hp : s.pulsePasses source a b i = true
  · have hsaf : (s.pulseTaken source a b i).saf = if source = 0 then { s.saf with passedA := s.saf.passedA.set i true }
        else { s.saf with passedB := s.saf.passedB.set i true } := by
      rw [State.pulseTaken, hp, if_neg (by decide), State.tryUnlock_saf, State.onSaf_saf]
    refine ⟨hown, ?_, ?_, ?_⟩ <;> rw [hsaf] <;> split
    · rfl
    · rfl
    · rfl
    · exact getD_set_ne _ hji _ _
    · exact List.length_set
    · rfl
  · have hsaf : (s.pulseTaken source a b i).saf = (s.lockInput i (0x5110 + i)).saf := by
      rw [State.pulseTaken, Bool.eq_false_iff.2 hp, Bool.not_false, if_pos rfl]
    rw [hs.lockInput_saf] at hsaf
    refine ⟨hown, ?_, ?_, ?_⟩ <;> rw [hsaf]
    · exact getD_set_ne _ hji _ _
    · exact getD_set_ne _ hji _ _
    · exact List.length_set

/-- A failed pulse locks, and one that passes unlocks an input that has seen the other source's pass and both channels at 0. -/
theorem State.Sound.pulseTaken_judged (hi : i < 8) : PulseJudged source a b i s (s.pulseTaken source a b i) := by
  refine ⟨fun hp => ?_, fun hp hl => ?_, fun hp hl hz hsrc hpb hlen => ?_⟩
  · rw [State.pulseTaken, hp, Bool.not_false, if_pos rfl]
    exact hs.lockInput_locked hi _
  · rw [State.pulseTaken, hp, if_neg (by decide), State.tryUnlock_unlocked (by exact hl)]
    exact hl
  · rw [State.pulseTaken, hp, if_neg (by decide), hsrc]
    simp only [if_true]
    exact ((State.onSaf_kept s _ (hs.kept 8388608) rfl).sound).tryUnlock_passed (by exact hl) (by exact hz) (getD_set_same hlen _ _)
      (by exact hpb)

end

end

end Sys2Proof.Machine
end

section
/-! SUPPORT. What the test pulse, the curtain test and the expiry of DEGRADED do in a running monitor (R353, R359, R366). -/

namespace Sys2Proof.Machine

/-! ### Test pulses -/

/-- The test pulse of a source is under way, with the clock at c. -/
def State.pulseBegun (s : State) (c : Clk) (source : Nat) : State :=
  { s with clk := c, saf := { s.saf with pulseUs := s.saf.pulseUs.set source (s.nextPulse source) } }

/-- The inputs with test pulses, each with its pulse. -/
def State.pulsesTaken (s : State) (source a b : Nat) : State :=
  s.forEach ((List.range 8).filter fun i => s.rdB F.SAF_SI_CFG_TP_EN i) fun s i => s.pulseTaken source a b i

theorem State.doTestPulse_begun {s : State} {c : Clk} {source : Nat} (hen : s.monitorEn = true)
    (hc : s.toTick ((s.nextPulse source + s.rd F.SAF_TP_WIDTH_US) / 1000) = { s with clk := c }) (a b : Nat) :
    s.doTestPulse source a b = (s.pulseBegun c source).pulsesTaken source a b := by
  rw [State.doTestPulse, hen, Bool.not_true, if_neg Bool.false_ne_true]
  dsimp only
  rw [hc]
  rfl

theorem State.doTestPulse_off {s : State} (hen : s.monitorEn = false) (source a b : Nat) : s.doTestPulse source a b = s := by
  rw [State.doTestPulse, hen, Bool.not_false, if_pos rfl]

theorem inputFields_standing : ∀ f ∈ standingFields, ∀ y ∈ inputFields, FieldsApart (f, 0) y := by decide

theorem inputFields_place : ∀ y ∈ inputFields, 0x300000 ≤ y.1.addr y.2 ∧ y.1.addr y.2 < 0x340000 ∨ y.1.addr y.2 = F.PWR_PB_STAT := by
  decide

section
variable {s : State} (hs : s.Sound) (source a b : Nat)
include hs

theorem State.Sound.pulsesTaken_outcome : MonKept inputFields Saf.sansDiscrepancies s (s.pulsesTaken source a b) ∧
    (∀ i < 8, s.rdB F.SAF_SI_CFG_TP_EN i = true → PulseJudged source a b i s (s.pulsesTaken source a b)) ∧
    ∀ i < 8, s.rdB F.SAF_SI_CFG_TP_EN i = false → PulseLeft i s (s.pulsesTaken source a b) := by
  have hmem (i : Nat) : i ∈ (List.range 8).filter (fun i => s.rdB F.SAF_SI_CFG_TP_EN i) ↔ i < 8 ∧ s.rdB F.SAF_SI_CFG_TP_EN i = true := by
    rw [List.mem_filter, List.mem_range]
  have hkept {t : State} {i : Nat} (hi : i < 8) (ht : MonKept inputFields Saf.sansDiscrepancies s t) :
      MonKept inputFields Saf.sansDiscrepancies s (t.pulseTaken source a b i) :=
    ht.trans ((ht.sound.pulseTaken_kept source a b i).mono (fun y hy => takenFields_input i hi y (List.mem_append_right _ hy))
      fun _ _ h => h)
  obtain ⟨hall, hdone, hleft⟩ := State.forEach_apart (I := MonKept inputFields Saf.sansDiscrepancies s)
    (L := fun i t u => i < 8 → PulseLeft i t u) (D := fun i t u => i < 8 → PulseJudged source a b i t u)
    (f := fun s i => s.pulseTaken source a b i) (List.nodup_range.filter fun i => s.rdB F.SAF_SI_CFG_TP_EN i)
    (fun i s _ => .refl i s) (fun h g hi => (h hi).trans (g hi)) (fun h g hi => (g hi).of_left hi (h hi))
    (fun h g hi => (h hi).left hi (g hi))
    (fun t i hi ht => ⟨hkept ((hmem i).1 hi).1 ht, fun hi => ht.sound.pulseTaken_judged source a b i hi,
      fun j hji _ => ht.sound.pulseTaken_others source a b i ((hmem i).1 hi).1 hji⟩) (MonKept.refl hs _ _)
  refine ⟨hall, fun i hi hen => hdone i ((hmem i).2 ⟨hi, hen⟩) hi, fun i hi hen => hleft i (fun h => ?_) hi⟩
  rw [((hmem i).1 h).2] at hen
  exact absurd hen (by decide)

end

/-! ### Curtain tests -/

/-- A test of the curtains is made, with the clock at c. -/
def State.curtainsTested (s : State) (c : Clk) (bad : Nat) : State :=
  { s with clk := c, saf := { s.saf with testTick := c.tick, fcBad := s.saf.fcBad ||| bad } }

theorem State.doCurtainTest_open {s : State} (h : s.monitorEn = false ∨ closedIn s.safState = false) (balls : List (Nat × Nat)) :
    s.doCurtainTest balls = s := by
  refine if_neg fun hand => ?_
  rw [Bool.and_eq_true] at hand
  rcases h with h | h
  · exact absurd hand.1 (by rw [h]; decide)
  · exact absurd hand.2 (by rw [h]; decide)

theorem State.doCurtainTest_closed {s : State} {c : Clk} (hen : s.monitorEn = true) (hclosed : closedIn s.safState = true)
    (hc : s.toTick (s.saf.testTick + 1000 * s.rd F.SAF_FC_TEST_PERIOD_S) = { s with clk := c }) (balls : List (Nat × Nat)) :
    s.doCurtainTest balls = (s.curtainsTested c (s.notOff balls)).forEach ((List.range 2).filter fun n => (s.notOff balls).testBit n)
      State.curtainFault := by
  rw [State.doCurtainTest, hen, hclosed, Bool.and_self, if_pos rfl]
  dsimp only
  rw [hc]
  rfl

/-! ### The expiry of DEGRADED -/

theorem State.doDegradedExpiry_due {s : State} {c : Clk} (hen : s.monitorEn = true) (h3 : s.safState = 3)
    (hc : s.toTick (s.saf.degEntry + 1000 * s.rd F.SAF_CFG_DEG_TIME_S) = { s with clk := c }) :
    s.doDegradedExpiry = { s with clk := c }.safLock 0x5401 := by
  rw [State.doDegradedExpiry, hen, h3, if_pos (by decide), hc]

theorem State.doDegradedExpiry_none {s : State} (h : s.monitorEn = false ∨ s.safState ≠ 3) : s.doDegradedExpiry = s := by
  refine if_neg fun hand => ?_
  rw [Bool.and_eq_true, beq_iff_eq] at hand
  rcases h with h | h
  · exact absurd hand.1 (by rw [h]; decide)
  · exact h hand.2

end Sys2Proof.Machine

open Sys2Proof Sys2Proof.Machine

/-- Settles O44, clause by clause: an input's pulse leaves the other inputs (PulseLeft), and a lock-out stays the first one. -/
theorem safetyEvents : Obligations.SafetyEvents := by
  unfold Obligations.SafetyEvents
  intro s hs hfs
  have hsound := hs.sound
  have hsame (c : Clk) : s.sameButSafety { s with clk := c } := State.sameButSafety_of_regs rfl
  have hclk (n : Nat) : ∃ c, s.toTick n = { s with clk := c } ∧ n ≤ c.tick :=
    ⟨_, s.toTick_only n, State.le_tick_toTick hfs n⟩
  refine ⟨fun hen => ⟨fun source a b => ?_, fun balls => ?_, fun n => ?_, ?_⟩, fun source a b hen => ?_, fun balls m hen hm =>
    ⟨fun hopen => ?_, fun hclosed h0 => ?_, fun hclosed h0 => ?_⟩, fun n hen => ⟨fun hopen => ?_, fun hclosed h4 => ?_⟩,
    fun hen h3 => ?_, fun hen h3 => ?_⟩
  · exact (hs.next_keeperDo fun s => s.doTestPulse source a.toNat b.toNat).trans (congrArg _ (State.doTestPulse_off hen _ _ _))
  · exact (hs.next_keeperDo fun s => s.doCurtainTest balls).trans (congrArg _ (State.doCurtainTest_open (.inl hen) balls))
  · refine (hs.next_keeperDo fun s => s.doCurtainOverload n).trans (congrArg _ (if_neg ?_))
    rw [hen]
    exact Bool.false_ne_true
  · exact (hs.next_keeperDo State.doDegradedExpiry).trans (congrArg _ (State.doDegradedExpiry_none (.inl hen)))
  · obtain ⟨c, hc, htick⟩ := hclk ((s.nextPulse source + s.rd F.SAF_TP_WIDTH_US) / 1000)
    have hdo := State.doTestPulse_begun hen hc a.toNat b.toNat
    obtain ⟨u, hu⟩ : ∃ u, u = s.pulseBegun c source := ⟨_, rfl⟩
    have huk : Kept 8388624 s u := hu ▸ (hsound.kept _).congr (K := 8388624) rfl rfl rfl rfl rfl rfl rfl rfl rfl
    have huregs : u.regs = s.regs := huk.regs_eq rfl
    have hread (f : Fld) (i : Nat) : u.rdB f i = s.rdB f i := by rw [State.rdB, State.rdB, State.rd_of_regs huregs]
    have hleft (i : Nat) : PulseLeft i s u := ⟨fun f _ _ => hread f i, by rw [hu]; rfl, by rw [hu]; rfl, by rw [hu]; rfl⟩
    rw [← hu] at hdo
    obtain ⟨hkept, hjudged, hothers⟩ := huk.sound.pulsesTaken_outcome source a.toNat b.toNat
    refine ⟨_, (hs.next_keeperDo fun s => s.doTestPulse source a.toNat b.toNat).trans (congrArg _ hdo), fun i good hgood => ?_, ?_,
      fun hlen => ?_, ?_, ?_, ?_⟩
    · have hpass : s.pulsePasses source a.toNat b.toNat i = good := hgood.symm
      refine ⟨fun hen hbad => ?_, fun hen hok hl => ?_, fun hen hok hl hz hsrc hpb hlen => ?_, fun hen => ?_⟩
      · exact ((hjudged i i.isLt ((hread _ _).trans hen)).of_left i.isLt (hleft i)).locks (hpass.trans hbad)
      · exact ((hjudged i i.isLt ((hread _ _).trans hen)).of_left i.isLt (hleft i)).stays (hpass.trans hok) hl
      · exact ((hjudged i i.isLt ((hread _ _).trans hen)).of_left i.isLt (hleft i)).unlocks (hpass.trans hok) hl hz hsrc hpb
          (by rw [hlen]; exact i.isLt)
      · exact ((hothers i i.isLt ((hread _ _).trans hen)).own _ (by decide) i.isLt).trans (hread _ _)
    · exact (hkept.standing inputFields_standing fun _ _ h => (congrArg Saf.standing h :)).safState.trans (State.rd_of_regs huregs _ _)
    · rw [hkept.seen (q := Saf.pulseUs) fun _ _ h => (congrArg Saf.pulseUs h :), hu]
      exact getD_set_same (by rw [hlen]; exact source.isLt) _ _
    · rw [hkept.clk, hu]
      exact htick
    · exact State.sameButSafety_trans (State.sameButSafety_of_regs huregs) (hkept.sameButSafety inputFields_place)
    · exact hdo ▸ (State.doTestPulse_kept s source a.toNat b.toNat (hsound.kept 8389142) rfl).eq_withParts
  · exact (hs.next_keeperDo fun s => s.doCurtainTest balls).trans (congrArg _ (State.doCurtainTest_open (.inr hopen) balls))
  · obtain ⟨c, hc, htick⟩ := hclk (s.saf.testTick + 1000 * s.rd F.SAF_FC_TEST_PERIOD_S)
    have hdo := State.doCurtainTest_closed hen hclosed hc balls
    rw [← hm, h0, failedCurtains (by decide), if_pos rfl] at hdo
    exact ⟨_, (hs.next_keeperDo fun s => s.doCurtainTest balls).trans (congrArg _ hdo), by rw [State.curtainsTested, Nat.or_zero]; rfl,
      htick, rfl⟩
  · obtain ⟨c, hc, htick⟩ := hclk (s.saf.testTick + 1000 * s.rd F.SAF_FC_TEST_PERIOD_S)
    have hdo := State.doCurtainTest_closed hen hclosed hc balls
    have hm4 : m < 4 := hm ▸ s.notOff_lt balls
    obtain ⟨u, hu⟩ : ∃ u, u = s.curtainsTested c m := ⟨_, rfl⟩
    have huk : Kept 25166358 s u := hu ▸ (hsound.kept _).congr (K := 25166358) rfl rfl rfl rfl rfl rfl rfl rfl rfl
    have huregs : u.regs = s.regs := by rw [hu]; rfl
    have hu4 : u.safState ≠ 4 := by
      rw [State.safState, State.rd_of_regs huregs]
      intro h
      rw [State.safState, h] at hclosed
      exact absurd hclosed (by decide)
    rw [← hm, ← hu, failedCurtains hm4, if_neg h0] at hdo
    refine ⟨_, (hs.next_keeperDo fun s => s.doCurtainTest balls).trans (congrArg _ hdo), ?_, ?_, ?_⟩
    · have hlocked := huk.sound.curtainFaults_lockedBy hu4 (n := if m.testBit 0 then 0 else 1) (by split <;> decide)
        (if m = 3 then [1] else [])
      refine State.lockedBy_of_regs huregs ?_
      split
      next h =>
        rw [if_pos h] at hlocked
        exact hlocked
      next h =>
        rw [if_neg h] at hlocked
        exact hlocked
    · exact State.sameButSafety_trans (State.sameButSafety_of_regs huregs)
        ((huk.sound.curtainFaults_kept _).sameButSafety lockFields_place)
    · exact (huk.trans ((huk.sound.curtainFaults_kept _).kept.mono rfl)).eq_withParts
  · refine (hs.next_keeperDo fun s => s.doCurtainOverload n).trans (congrArg _ (if_neg ?_))
    rw [Nat.mod_eq_of_lt n.isLt, hopen, Bool.and_false]
    exact Bool.false_ne_true
  · have hdo : s.doCurtainOverload n = s.safLock (0x5500 + n) := by
      rw [State.doCurtainOverload, Nat.mod_eq_of_lt n.isLt, hen, hclosed, Bool.and_self, if_pos rfl, State.curtainFault]
    have hkept := hsound.safLock_kept (0x5500 + n)
    exact ⟨_, (hs.next_keeperDo fun s => s.doCurtainOverload n).trans (congrArg _ hdo),
      hsound.safLock_lockedBy h4 (by have := n.isLt; omega), hkept.sameButSafety lockFields_place, hkept.kept.eq_withParts⟩
  · exact (hs.next_keeperDo State.doDegradedExpiry).trans (congrArg _ (State.doDegradedExpiry_none (.inr h3)))
  · obtain ⟨c, hc, htick⟩ := hclk (s.saf.degEntry + 1000 * s.rd F.SAF_CFG_DEG_TIME_S)
    have hdo := State.doDegradedExpiry_due hen h3 hc
    obtain ⟨u, hu⟩ : ∃ u, u = { s with clk := c } := ⟨_, rfl⟩
    have huk : Kept 25166358 s u := hu ▸ (hsound.kept _).congr (K := 25166358) rfl rfl rfl rfl rfl rfl rfl rfl rfl
    have huregs : u.regs = s.regs := by rw [hu]
    have hu4 : u.safState ≠ 4 := by
      rw [State.safState, State.rd_of_regs huregs, ← State.safState, h3]
      decide
    rw [← hu] at hdo
    have hkept := huk.sound.safLock_kept 0x5401
    refine ⟨_, (hs.next_keeperDo State.doDegradedExpiry).trans (congrArg _ hdo),
      State.lockedBy_of_regs huregs (huk.sound.safLock_lockedBy hu4 (by decide)), ?_,
      State.sameButSafety_trans (State.sameButSafety_of_regs huregs) (hkept.sameButSafety lockFields_place),
      (huk.trans (hkept.kept.mono rfl)).eq_withParts⟩
    rw [hkept.clk, hu]
    exact htick
end

section
/-! SUPPORT. What a COMMAND telegram sets in the monitor (R363, R364): the parts of its first copy, and those of an agreed one. -/

namespace Sys2Proof.Machine

/-! ### Footprints within SAF_STAT -/

/-- The monitor's own state without SS1 and the ramp of SLS. -/
def Saf.unslowed (x : Saf) : Saf := { x with ss1 := none, second := false, still := 0, ramp := none, target := 0 }

/-- The fields that show the monitor's state. -/
abbrev stateFields : List RegField := [(F.SAF_STAT_STATE, 0), (F.SAF_STAT_FC_CLOSED, 0), (F.SAF_STAT_DEG_LEFT_S, 0)]

/-- From r to t only the fields of W changed, and of the monitor's own state at most SS1 and the ramp. -/
structure SlowKept (W : List RegField) (r t : State) : Prop where
  fields : OnlyFields W r t
  saf : t.saf.unslowed = r.saf.unslowed

section
variable {W : List RegField} {r t u : State}

theorem SlowKept.refl (h : tableWf coldWord r.regs = true) (W : List RegField) : SlowKept W r r := ⟨.refl h W, rfl⟩

variable (h : SlowKept W r t)
include h

theorem SlowKept.wr {f : Fld} {i : Nat} (hf : (f, i) ∈ W) (v : Nat) : SlowKept W r (t.wr f i v) := ⟨h.fields.wr hf v, h.saf⟩

theorem SlowKept.onSaf {g : Saf → Saf} (hg : (g t.saf).unslowed = t.saf.unslowed := by rfl) : SlowKept W r (t.onSaf g) :=
  ⟨h.fields.congr rfl, hg.trans h.saf⟩

theorem SlowKept.followSls (hf : (F.SAF_STAT_SLS_SEL, 0) ∈ W) : SlowKept W r t.followSls := by
  unfold State.followSls
  dsimp only
  split
  · exact h.wr hf _
  · exact (h.wr hf _).onSaf

theorem SlowKept.stateLeft (hW : ∀ y ∈ stateFields, y ∈ W) (n : Nat) : SlowKept W r ((t.setSaf n).wr F.SAF_STAT_DEG_LEFT_S 0 0) :=
  ((h.wr (hW (F.SAF_STAT_STATE, 0) (by decide)) _).wr (hW (F.SAF_STAT_FC_CLOSED, 0) (by decide)) _).wr
    (hW (F.SAF_STAT_DEG_LEFT_S, 0) (by decide)) 0

theorem SlowKept.enterSto (hW : ∀ y ∈ stateFields, y ∈ W) : SlowKept W r t.enterSto := by
  unfold State.enterSto
  split
  · exact (h.stateLeft hW 0).onSaf
  · exact h

theorem SlowKept.enterSs1 (hW : ∀ y ∈ stateFields, y ∈ W) : SlowKept W r t.enterSs1 := by
  unfold State.enterSs1
  split
  · exact (h.stateLeft hW 2).onSaf
  · exact h

end

/-! ### The safer parts of a first copy (R363) -/

/-- The selections that a first copy may take. -/
def Saf.saferSelections (x : Saf) (w : LWord) (pos : Int) : Saf :=
  { x with sel := min (telField w 39 2) x.sel
           sdi := if x.sdi = 0 ∧ (telField w 37 2 = 1 ∨ telField w 37 2 = 2) then telField w 37 2 else x.sdi
           sdiRef := if x.sdi = 0 ∧ (telField w 37 2 = 1 ∨ telField w 37 2 = 2) then pos else x.sdiRef }

/-- They are taken, and the SLS limit follows. -/
def State.saferSelected (s : State) (w : LWord) : State :=
  let s := if telField w 39 2 < s.saf.sel then s.onSaf fun x => { x with sel := telField w 39 2 } else s
  let s := if s.saf.sdi = 0 ∧ (telField w 37 2 = 1 ∨ telField w 37 2 = 2) then
      s.onSaf fun x => { x with sdi := telField w 37 2, sdiRef := s.rdS F.SAF_POS_MDEG }
    else s
  if closedIn s.safState then s.followSls else s

theorem State.saferParts_eq (s : State) (w : LWord) : s.saferParts w = if telField w 41 3 = 1 then (s.saferSelected w).enterSto
    else if telField w 41 3 = 2 then (s.saferSelected w).enterSs1 else s.saferSelected w := rfl

section
variable {s : State} (h : tableWf coldWord s.regs = true) (w : LWord)
include h

theorem State.saferSelected_outcome : OnlyFields [(F.SAF_STAT_SLS_SEL, 0)] s (s.saferSelected w) ∧
    (s.saferSelected w).saf.unslowed = (s.saf.saferSelections w (s.rdS F.SAF_POS_MDEG)).unslowed := by
  obtain ⟨u, hu⟩ : ∃ u, u = if telField w 39 2 < s.saf.sel then s.onSaf fun x => { x with sel := telField w 39 2 } else s := ⟨_, rfl⟩
  have husaf : u.saf = { s.saf with sel := min (telField w 39 2) s.saf.sel } := by
    rw [hu]
    split
    next hlt => rw [State.onSaf_saf, Nat.min_eq_left (Nat.le_of_lt hlt)]
    next hge => rw [Nat.min_eq_right (Nat.not_lt.1 hge)]
  have huregs : u.regs = s.regs := by
    rw [hu]
    split <;> rfl
  obtain ⟨v, hv⟩ : ∃ v, v = if u.saf.sdi = 0 ∧ (telField w 37 2 = 1 ∨ telField w 37 2 = 2) then
      u.onSaf fun x => { x with sdi := telField w 37 2, sdiRef := u.rdS F.SAF_POS_MDEG } else u := ⟨_, rfl⟩
  have hvregs : v.regs = s.regs := by
    rw [hv, ← huregs]
    split <;> rfl
  have hpos : u.rdS F.SAF_POS_MDEG = s.rdS F.SAF_POS_MDEG := by rw [State.rdS, State.rdS, State.rd_of_regs huregs]
  have hvsaf : v.saf = s.saf.saferSelections w (s.rdS F.SAF_POS_MDEG) := by
    have hsdi : u.saf.sdi = s.saf.sdi := by rw [husaf]
    rw [hv, hsdi, hpos, Saf.saferSelections]
    split
    · rw [State.onSaf_saf, husaf]
    · rw [husaf]
  have heq : s.saferSelected w = if closedIn v.safState then v.followSls else v := by
    rw [hv, hu]
    rfl
  have hwf : tableWf coldWord v.regs = true := hvregs ▸ h
  have hkept : SlowKept [(F.SAF_STAT_SLS_SEL, 0)] v (s.saferSelected w) := by
    rw [heq]
    split
    · exact (SlowKept.refl hwf _).followSls (.head _)
    · exact .refl hwf _
  exact ⟨((OnlyFields.refl h _).congr hvregs).trans hkept.fields, hkept.saf.trans (congrArg Saf.unslowed hvsaf)⟩

/-- A first copy acts towards safety alone. -/
theorem State.saferParts_outcome : OnlyFields ((F.SAF_STAT_SLS_SEL, 0) :: stateFields) s (s.saferParts w) ∧
    (s.saferParts w).saf.unslowed = (s.saf.saferSelections w (s.rdS F.SAF_POS_MDEG)).unslowed ∧
    (s.saferParts w).safState = if telField w 41 3 = 1 ∧ closedIn s.safState then 0
      else if telField w 41 3 = 2 ∧ (s.safState = 1 ∨ s.safState = 3) then 2 else s.safState := by
  obtain ⟨hfields, hsaf⟩ := State.saferSelected_outcome h w
  have hstate : (s.saferSelected w).safState = s.safState := hfields.same (F.SAF_STAT_STATE, 0) (by decide)
  have hfrom : SlowKept ((F.SAF_STAT_SLS_SEL, 0) :: stateFields) (s.saferSelected w) (s.saferSelected w) := .refl hfields.wf _
  have hsel := hfields.mono (W' := (F.SAF_STAT_SLS_SEL, 0) :: stateFields) (by decide)
  have hW : ∀ y ∈ stateFields, y ∈ (F.SAF_STAT_SLS_SEL, 0) :: stateFields := fun y hy => .tail _ hy
  rw [State.saferParts_eq]
  split
  next h1 =>
    have hsto := hfrom.enterSto hW
    refine ⟨hsel.trans hsto.fields, hsto.saf.trans hsaf, ?_⟩
    rw [State.safState_enterSto hfields.wf, hstate]
    split
    next hc => rw [if_pos ⟨h1, hc⟩]
    next hc => rw [if_neg fun hand => hc hand.2, if_neg fun hand => absurd (h1.symm.trans hand.1) (by decide)]
  next h1 =>
    rw [if_neg fun hand : _ ∧ _ => h1 hand.1]
    split
    next h2 =>
      have hss1 := hfrom.enterSs1 hW
      refine ⟨hsel.trans hss1.fields, hss1.saf.trans hsaf, ?_⟩
      rw [State.safState_enterSs1 hfields.wf, hstate]
      split
      next hc => rw [if_pos ⟨h2, hc⟩]
      next hc => rw [if_neg fun hand : _ ∧ _ => hc hand.2]
    next h2 => exact ⟨hsel, hsaf, by rw [if_neg fun hand : _ ∧ _ => h2 hand.1, hstate]⟩

end

/-! ### An agreed command (R363, R364) -/

/-- The monitor's own state without the memory of the paths' losses. -/
def Saf.unpathed (x : Saf) : Saf := { x with lossSeen := [], goodSince := [] }

/-- One more agreed command came by path p. -/
def Saf.agreedOnce (x : Saf) (p : Nat) : Saf := { x with agreed := x.agreed.set p (x.agreed.getD p 0 + 1) }

theorem State.elementGood_unpathed (s : State) (e : Nat) : (s.elementGood e).saf.unpathed = s.saf.unpathed := by
  rw [State.elementGood, State.onSaf_saf]
  split <;> rfl

section
variable {s : State} (h : tableWf coldWord s.regs = true) (p : Nat)
include h

/-- The third agreed command in a row makes path p good. -/
theorem State.agreedOn_outcome : OnlyFields [(pathOk p, 0)] s (s.agreedOn p) ∧
    (s.agreedOn p).saf.unpathed = (s.saf.agreedOnce p).unpathed ∧ (2 ≤ s.saf.agreed.getD p 0 → (s.agreedOn p).rdB (pathOk p) = true) := by
  obtain ⟨u, hu⟩ : ∃ u, u = s.onSaf fun x => { x with agreed := x.agreed.set p (s.saf.agreed.getD p 0 + 1) } := ⟨_, rfl⟩
  have husaf : u.saf = s.saf.agreedOnce p := by
    rw [hu]
    rfl
  have huregs : u.regs = s.regs := by
    rw [hu]
    rfl
  have hufields : OnlyFields [(pathOk p, 0)] s u := (OnlyFields.refl h _).congr huregs
  have heq : s.agreedOn p = if s.saf.agreed.getD p 0 + 1 < 3 then u else
      (((u.wr (pathOk p) 0 1).onSaf fun x => { x with lossSeen := x.lossSeen.set p false }).elementGood p).conditionOver (0x5301 + p)
        u.locKeeper := by
    rw [hu]
    rfl
  rw [heq]
  split
  next hlt => exact ⟨hufields, congrArg Saf.unpathed husaf, fun h2 => absurd h2 (by omega)⟩
  next hge =>
    have hwidth : (pathOk p).lo + (pathOk p).width ≤ 32 := by
      unfold pathOk
      split <;> decide
    have hone : (pathOk p).width = 1 := by
      unfold pathOk
      split <;> rfl
    refine ⟨(hufields.wr (.head _) 1).congr rfl, ?_, fun _ => ?_⟩
    · refine (State.elementGood_unpathed _ _).trans ?_
      rw [← husaf]
      rfl
    · have hrd := State.rd_wr (huregs ▸ h : tableWf coldWord u.regs = true) (pathOk p) 0 1 hwidth
      rw [hone] at hrd
      refine congrArg (· == 1) ((State.rd_of_regs rfl _ _).trans hrd)

end

/-- The parts of an agreed command that the monitor holds. -/
def Saf.agreedSelections (x : Saf) (w : LWord) (pos : Int) (free : Bool) : Saf :=
  { x with sel := telField w 39 2, slsHold := x.slsHold && !free
           sdi := if telField w 37 2 = 3 then x.sdi else telField w 37 2
           sdiRef := if telField w 37 2 = 3 ∨ telField w 37 2 = x.sdi then x.sdiRef else pos
           runReq := if telField w 41 3 = 3 ∨ telField w 41 3 = 4 then some (telField w 41 3) else x.runReq
           recoverReq := telField w 36 1 == 1 }

theorem Saf.unpathed_unslowed (x : Saf) : x.unpathed.unslowed = x.unslowed.unpathed := rfl

theorem Saf.agreedOnce_unpathed (x : Saf) (p : Nat) : (x.agreedOnce p).unpathed = x.unpathed.agreedOnce p := rfl

theorem Saf.agreedSelections_unpathed (x : Saf) (w : LWord) (pos : Int) (free : Bool) :
    (x.agreedSelections w pos free).unpathed = x.unpathed.agreedSelections w pos free := rfl

theorem Saf.agreedTwice {x : Saf} {a b : Nat} (h : x.agreed = [a, b]) :
    (x.agreedOnce 0).agreedOnce 1 = { x with agreed := [a + 1, b + 1] } := by
  rw [Saf.agreedOnce, Saf.agreedOnce, h]
  rfl

section
variable {s : State} (h : tableWf coldWord s.regs = true)
include h

theorem State.agreedParts_outcome (w : LWord) : ∃ pos free, SlowKept [(F.SAF_STAT_SLS_SEL, 0)]
    (s.onSaf fun x => x.agreedSelections w pos free) (s.agreedParts w) := by
  refine ⟨s.rdS F.SAF_POS_MDEG, telField w 39 2 != s.saf.sel && !s.inputDemand 3, ?_⟩
  obtain ⟨v, hv⟩ : ∃ v, v = s.onSaf fun x => x.agreedSelections w (s.rdS F.SAF_POS_MDEG)
    (telField w 39 2 != s.saf.sel && !s.inputDemand 3) := ⟨_, rfl⟩
  have heq : s.agreedParts w = if closedIn v.safState then v.followSls else v := by
    rw [hv]
    rfl
  have hwf : tableWf coldWord v.regs = true := by
    rw [hv]
    exact h
  rw [heq, ← hv]
  split
  · exact (SlowKept.refl hwf _).followSls (.head _)
  · exact .refl hwf _

/-- What an agreed command leaves: its selections and request hold, and each path has one more agreed command. -/
theorem State.agreed_outcome (w : LWord) {a b : Nat} (hagreed : s.saf.agreed = [a, b]) (u : State) (hu : u = ((s.agreedOn 0).agreedOn 1).agreedParts w) :
    OnlyFields [(F.SAF_STAT_SLS_SEL, 0), (F.SAF_STAT_PATH_A_OK, 0), (F.SAF_STAT_PATH_B_OK, 0)] s u ∧
    (∃ pos free, u.saf.unpathed.unslowed = ({ s.saf with agreed := [a + 1, b + 1] }.agreedSelections w pos free).unpathed.unslowed) ∧
    (2 ≤ a → u.rdB F.SAF_STAT_PATH_A_OK = true) ∧ (2 ≤ b → u.rdB F.SAF_STAT_PATH_B_OK = true) := by
  obtain ⟨hfirst, hfirstSaf, hA⟩ := State.agreedOn_outcome h 0
  obtain ⟨hsecond, hsecondSaf, hB⟩ := State.agreedOn_outcome hfirst.wf 1
  obtain ⟨pos, free, hparts⟩ := State.agreedParts_outcome hsecond.wf w
  rw [← hu] at hparts
  have hselected : OnlyFields [(F.SAF_STAT_SLS_SEL, 0)] ((s.agreedOn 0).agreedOn 1) u :=
    OnlyFields.trans (t := ((s.agreedOn 0).agreedOn 1).onSaf fun x => x.agreedSelections w pos free)
      ((OnlyFields.refl hsecond.wf _).congr rfl) hparts.fields
  have htwice : ((s.agreedOn 0).agreedOn 1).saf.unpathed = { s.saf with agreed := [a + 1, b + 1] }.unpathed := by
    rw [hsecondSaf, Saf.agreedOnce_unpathed, hfirstSaf, ← Saf.agreedOnce_unpathed, Saf.agreedTwice hagreed]
  have hagreed1 : (s.agreedOn 0).saf.agreed.getD 1 0 = b := by
    have hlist : (s.agreedOn 0).saf.agreed = (s.saf.agreedOnce 0).agreed := (congrArg Saf.agreed hfirstSaf :)
    rw [hlist, Saf.agreedOnce, hagreed]
    rfl
  have hagreed0 : s.saf.agreed.getD 0 0 = a := by
    rw [hagreed]
    rfl
  refine ⟨((hfirst.mono (by decide)).trans (hsecond.mono (by decide))).trans (hselected.mono (by decide)), ⟨pos, free, ?_⟩,
    fun h2 => ?_, fun h2 => ?_⟩
  · rw [Saf.unpathed_unslowed, hparts.saf, State.onSaf_saf, ← Saf.unpathed_unslowed, Saf.agreedSelections_unpathed, htwice,
      ← Saf.agreedSelections_unpathed]
  · have hkept : u.rd F.SAF_STAT_PATH_A_OK = (s.agreedOn 0).rd F.SAF_STAT_PATH_A_OK :=
      (hselected.same (F.SAF_STAT_PATH_A_OK, 0) (by decide)).trans (hsecond.same (F.SAF_STAT_PATH_A_OK, 0) (by decide))
    rw [State.rdB, hkept]
    exact hA (by rw [hagreed0]; exact h2)
  · have hkept : u.rd F.SAF_STAT_PATH_B_OK = ((s.agreedOn 0).agreedOn 1).rd F.SAF_STAT_PATH_B_OK :=
      hselected.same (F.SAF_STAT_PATH_B_OK, 0) (by decide)
    rw [State.rdB, hkept]
    exact hB (by rw [hagreed1]; exact h2)

end

end Sys2Proof.Machine
end

section
/-! SUPPORT. The loss of paths and the waits for their telegrams (R364, R366). -/

namespace Sys2Proof.Machine

/-! ### Elements lost -/

/-- LOCKOUT seen from a state with the same LOCK_SEQ. -/
theorem State.lockedBy_of_seq {s t u : State} (h : t.rd F.SAF_CAUSE_LOCK_SEQ = s.rd F.SAF_CAUSE_LOCK_SEQ) {code : Nat}
    (hl : t.lockedBy u code) : s.lockedBy u code := by
  obtain ⟨hstate, hclosed, hcode, hseq, hown⟩ := hl
  exact ⟨hstate, hclosed, hcode, h ▸ hseq, hown⟩

/-- What an entry into DEGRADED shows of the monitor. -/
abbrev degradedFields : List RegField := [(F.SAF_STAT_SLS_SEL, 0), (F.SAF_CNT_DEGRADED, 0)]

section
variable {s : State} (hs : s.Sound)
include hs

theorem State.Sound.enterDegraded_outcome (elem : Nat) : (s.enterDegraded elem).safState = 3 ∧
    (s.enterDegraded elem).saf.lost = some elem ∧ (s.enterDegraded elem).saf.degEntry = s.clk.tick ∧
    (s.enterDegraded elem).rd F.SAF_STAT_DEG_LEFT_S = s.rd F.SAF_CFG_DEG_TIME_S := by
  have hset : (s.setSaf 3).Sound := (State.setSaf_kept s 3 (hs.kept 4) rfl).sound
  obtain ⟨u, hu⟩ : ∃ u, u = (s.setSaf 3).satAdd F.SAF_CNT_DEGRADED 0 1 := ⟨_, rfl⟩
  have hcount : MonKept [(F.SAF_CNT_DEGRADED, 0)] id (s.setSaf 3) u := hu ▸ (MonKept.refl hset _ _).satAdd (.head _) 1
  obtain ⟨v, hv⟩ : ∃ v, v = (u.wr F.SAF_STAT_DEG_LEFT_S 0 (s.rd F.SAF_CFG_DEG_TIME_S)).onSaf fun x =>
      { x with degEntry := u.clk.tick, lost := some elem } := ⟨_, rfl⟩
  have hwr : MonKept [(F.SAF_STAT_DEG_LEFT_S, 0)] (fun _ => ()) u v :=
    hv ▸ ((MonKept.refl hcount.sound _ _).wr (.head _) _).onSaf
  have heq : s.enterDegraded elem = v.followSls := by
    rw [hv, hu]
    rfl
  have hfollow : MonKept [(F.SAF_STAT_SLS_SEL, 0)] (fun x : Saf => (x.lost, x.degEntry)) v v.followSls :=
    (MonKept.refl hwr.sound _ _).followSls (.head _) fun _ _ _ => rfl
  have hsaf := hfollow.saf
  rw [Prod.mk.injEq] at hsaf
  have hsetclk : (s.setSaf 3).clk = s.clk := (State.setSaf_kept s 3 (hs.kept 4) rfl).clk rfl
  rw [heq]
  refine ⟨?_, hsaf.1.trans ?_, hsaf.2.trans ?_, ?_⟩
  · exact (hfollow.rd (by decide) (by decide)).trans ((hwr.rd (by decide) (by decide)).trans
      ((hcount.rd (by decide) (by decide)).trans (State.safState_setSaf hs.regs (by decide))))
  · rw [hv, State.onSaf_saf]
  · rw [hv, State.onSaf_saf, ← hsetclk, ← hcount.clk]
  · rw [hfollow.rd (by decide) (by decide), hv]
    have hrd := State.rd_wr hcount.sound.regs F.SAF_STAT_DEG_LEFT_S 0 (s.rd F.SAF_CFG_DEG_TIME_S) (by decide)
    have hlt : s.rd F.SAF_CFG_DEG_TIME_S < 2 ^ 7 := getField_lt _ _ _
    exact (State.rd_of_regs rfl _ _).trans (hrd.trans (Nat.mod_eq_of_lt hlt))

/-- The monitor that loses an element in RUN goes on DEGRADED, and one DEGRADED by another element locks out. -/
theorem State.Sound.loseElement_outcome (elem code : Nat) : MonKept sourceFaultFields Saf.sensed s (s.loseElement elem code) ∧
    (s.safState = 1 → (s.loseElement elem code).safState = 3 ∧ (s.loseElement elem code).saf.lost = some elem ∧
      (s.loseElement elem code).saf.degEntry = s.clk.tick ∧
      (s.loseElement elem code).rd F.SAF_STAT_DEG_LEFT_S = s.rd F.SAF_CFG_DEG_TIME_S) ∧
    (s.safState = 3 → s.saf.lost ≠ some elem → s.lockedBy (s.loseElement elem code) 0x5402) := by
  have htakes : TakesLock sourceFaultFields Saf.sensed := takesLock_sensed (by decide)
  obtain ⟨v, hv⟩ : ∃ v, v = (s.safReport code).onSaf fun x => { x with goodSince := x.goodSince.set elem none } := ⟨_, rfl⟩
  have hvk : MonKept [] (fun x : Saf => (x.lost, x.standing)) s v := hv ▸ ((MonKept.refl hs _ _).safReport fun _ => rfl).onSaf
  have hstate : v.safState = s.safState := hvk.rd (by decide) (by decide)
  have hlost : v.saf.lost = s.saf.lost := hvk.seen (q := Saf.lost) fun _ _ h => (Prod.mk.inj h).1
  have heq : s.loseElement elem code = if v.safState = 1 then v.enterDegraded elem
      else if v.safState = 3 ∧ v.saf.lost ≠ some elem then v.safLock 0x5402 else v := by
    rw [hv]
    rfl
  refine ⟨(MonKept.refl hs _ _).loseElement htakes (by decide) (by decide) elem code, fun h1 => ?_, fun h3 hne => ?_⟩
  · rw [heq, hstate, if_pos h1]
    obtain ⟨h3, hl, hentry, hleft⟩ := hvk.sound.enterDegraded_outcome elem
    exact ⟨h3, hl, hentry.trans (congrArg Clk.tick hvk.clk), hleft.trans (hvk.rd (by decide) (by decide))⟩
  · rw [heq, hstate, h3, if_neg (by decide), hlost, if_pos ⟨rfl, hne⟩]
    exact State.lockedBy_of_seq (hvk.rd (by decide) (by decide)) (hvk.sound.safLock_lockedBy (by rw [hstate, h3]; decide) (by decide))

end

/-! ### Paths lost -/

/-- The fields that the loss of a path may change. -/
abbrev pathWaitFields : List RegField := sourceFaultFields ++ [(F.SAF_STAT_PATH_A_OK, 0), (F.SAF_STAT_PATH_B_OK, 0)]

theorem pathOk_mem (p : Nat) : (pathOk p, 0) ∈ [((F.SAF_STAT_PATH_A_OK, 0) : RegField), (F.SAF_STAT_PATH_B_OK, 0)] := by
  unfold pathOk
  split <;> decide

theorem pathOk_apart (p : Nat) : MainAddr ((pathOk p).addr 0) ∧ ∀ y ∈ sourceFaultFields, FieldsApart (pathOk p, 0) y := by
  unfold pathOk
  split <;> decide

/-- The path is no longer good, and its count of agreed commands starts anew. -/
def State.pathDropped (s : State) (p : Nat) : State :=
  (s.wr (pathOk p) 0 0).onSaf fun x =>
    { x with agreed := x.agreed.set p 0, lossSeen := x.lossSeen.set p true, goodSince := x.goodSince.set p none }

theorem State.losePath_eq (s : State) (p : Nat) : s.losePath p =
    if s.saf.lossSeen.getD p false then s.pathDropped p else (s.pathDropped p).loseElement p (0x5301 + p) := rfl

section
variable {s : State} (hs : s.Sound)
include hs

theorem State.Sound.pathOk_wr (p : Nat) : (s.wr (pathOk p) 0 0).rdB (pathOk p) = false := by
  have hrd (f : Fld) (hf : f.lo + f.width ≤ 32) : (s.wr f 0 0).rdB f = false := by
    rw [State.rdB, State.rd_wr hs.regs f 0 0 hf, Nat.zero_mod]
    rfl
  unfold pathOk
  split
  · exact hrd _ (by decide)
  · exact hrd _ (by decide)

theorem State.Sound.pathDropped_kept (p : Nat) : MonKept pathWaitFields (fun x : Saf => (x.lost, x.standing)) s (s.pathDropped p) :=
  ((MonKept.refl hs _ _).wr (List.mem_append_right _ (pathOk_mem p)) 0).onSaf

theorem State.Sound.losePath_outcome (p : Nat) : MonKept pathWaitFields (fun _ => ()) s (s.losePath p) ∧
    (s.losePath p).rdB (pathOk p) = false ∧
    (s.saf.lossSeen.getD p false = false →
      (s.safState = 1 → (s.losePath p).safState = 3 ∧ (s.losePath p).saf.lost = some p ∧ (s.losePath p).saf.degEntry = s.clk.tick ∧
        (s.losePath p).rd F.SAF_STAT_DEG_LEFT_S = s.rd F.SAF_CFG_DEG_TIME_S) ∧
      (s.safState = 3 → s.saf.lost ≠ some p → s.lockedBy (s.losePath p) 0x5402)) := by
  have hdrop := hs.pathDropped_kept p
  have hstay : MonKept [(F.SAF_STAT_PATH_A_OK, 0), (F.SAF_STAT_PATH_B_OK, 0)] (fun x : Saf => (x.lost, x.standing)) s (s.pathDropped p) :=
    ((MonKept.refl hs _ _).wr (pathOk_mem p) 0).onSaf
  have hfalse : (s.pathDropped p).rdB (pathOk p) = false := hs.pathOk_wr p
  have hstate : (s.pathDropped p).safState = s.safState := hstay.rd (by decide) (by decide)
  have hlost : (s.pathDropped p).saf.lost = s.saf.lost := hdrop.seen (q := Saf.lost) fun _ _ h => (Prod.mk.inj h).1
  obtain ⟨hkept, hdegraded, hlocked⟩ := hdrop.sound.loseElement_outcome p (0x5301 + p)
  rw [State.losePath_eq]
  split
  next hseen =>
    refine ⟨hdrop.mono (fun _ hy => hy) fun _ _ _ => rfl, hfalse, fun h => ?_⟩
    rw [hseen] at h
    exact absurd h (by decide)
  next hseen =>
    obtain ⟨hmain, hapart⟩ := pathOk_apart p
    refine ⟨(hdrop.mono (fun _ hy => hy) fun _ _ _ => rfl).trans (hkept.mono (fun y hy => List.mem_append_left _ hy) fun _ _ _ => rfl),
      (congrArg (· == 1) (hkept.rd hmain hapart)).trans hfalse, fun _ => ⟨fun h1 => ?_, fun h3 hne => ?_⟩⟩
    · obtain ⟨h3, hl, hentry, hleft⟩ := hdegraded (hstate.trans h1)
      exact ⟨h3, hl, hentry.trans (congrArg Clk.tick hdrop.clk), hleft.trans (hdrop.rd (by decide) (by decide))⟩
    · exact State.lockedBy_of_seq (hstay.rd (by decide) (by decide)) (hlocked (hstate.trans h3) (by rw [hlost]; exact hne))

/-- With both paths silent, the monitor locks out while curtains are closed. -/
theorem State.Sound.bothSilent_outcome : MonKept pathWaitFields (fun _ => ()) s s.bothSilent ∧
    s.bothSilent.rdB F.SAF_STAT_PATH_A_OK = false ∧ s.bothSilent.rdB F.SAF_STAT_PATH_B_OK = false ∧
    (closedIn s.safState = true → s.lockedBy s.bothSilent 0x5304) ∧
    (closedIn s.safState = false → s.bothSilent.safState = s.safState) := by
  obtain ⟨u, hu⟩ : ∃ u, u = ((s.wr F.SAF_STAT_PATH_A_OK 0 0).wr F.SAF_STAT_PATH_B_OK 0 0).onSaf fun x =>
      { x with agreed := [0, 0], goodSince := (x.goodSince.set 0 none).set 1 none } := ⟨_, rfl⟩
  have hdrop : MonKept [(F.SAF_STAT_PATH_A_OK, 0), (F.SAF_STAT_PATH_B_OK, 0)] (fun x : Saf => x.standing) s u :=
    hu ▸ (((MonKept.refl hs _ _).wr (.head _) 0).wr (.tail _ (.head _)) 0).onSaf
  have hA : u.rdB F.SAF_STAT_PATH_A_OK = false := by
    have hw := State.wf_wr hs.regs F.SAF_STAT_PATH_A_OK 0 0
    rw [hu]
    exact congrArg (· == 1) ((State.rd_wr_ne hw _ _ _ _ _ (.inr (by decide))).trans (State.rd_wr hs.regs F.SAF_STAT_PATH_A_OK 0 0 (by decide)))
  have hB : u.rdB F.SAF_STAT_PATH_B_OK = false := by
    have hw := State.wf_wr hs.regs F.SAF_STAT_PATH_A_OK 0 0
    rw [hu]
    exact congrArg (· == 1) (State.rd_wr hw F.SAF_STAT_PATH_B_OK 0 0 (by decide))
  have hstate : u.safState = s.safState := hdrop.rd (by decide) (by decide)
  have hlock := hdrop.sound.safLock_kept 0x5304
  have heq : s.bothSilent = if closedIn s.safState then u.safLock 0x5304 else u := by
    rw [hu]
    rfl
  rw [heq]
  split
  next hc =>
    refine ⟨(hdrop.mono (by decide) fun _ _ _ => rfl).trans (hlock.mono (by decide) fun _ _ _ => rfl),
      (congrArg (· == 1) (hlock.rd (by decide) (by decide))).trans hA, (congrArg (· == 1) (hlock.rd (by decide) (by decide))).trans hB,
      fun _ => State.lockedBy_of_seq (hdrop.rd (by decide) (by decide)) (hdrop.sound.safLock_lockedBy ?_ (by decide)), fun h => ?_⟩
    · rw [hstate]
      intro h4
      rw [h4] at hc
      exact absurd hc (by decide)
    · rw [hc] at h
      exact absurd h (by decide)
  next hc => exact ⟨hdrop.mono (by decide) fun _ _ _ => rfl, hA, hB, fun h => absurd h hc, fun _ => hstate⟩

end

/-! ### Waits -/

/-- The earliest of some waits is one of them. -/
theorem earliest_mem (l : List (Nat × Nat)) (o : Option (Nat × Nat)) {x : Nat × Nat} (h : l.foldl (fun best t =>
    match best with
    | none => some t
    | some b => if t.2 < b.2 then some t else some b) o = some x) : o = some x ∨ x ∈ l := by
  induction l generalizing o with
  | nil => exact .inl h
  | cons y l ih =>
    rcases ih _ h with hx | hx
    · cases o with
      | none => exact .inr (Option.some.inj hx ▸ .head _)
      | some b =>
        dsimp only at hx
        split at hx
        · exact .inr (Option.some.inj hx ▸ .head _)
        · exact .inl hx
    · exact .inr (.tail _ hx)

/-- A wait that ends is that of a copy alone, of a path that the other one outlived, or of both. -/
theorem State.nextTimeout_cases {s : State} {k n : Nat} (h : s.nextTimeout = some (k, n)) :
    (k ≤ 1 ∧ ∃ c ∈ s.saf.copies, (c.path != k && c.tick + 20 == n) = true) ∨
    ((k = 2 ∨ k = 3) ∧ s.saf.lossSeen.getD (k - 2) false = false) ∨ k = 4 := by
  rcases earliest_mem _ _ h with h | h
  · exact absurd h (by simp)
  · rcases List.mem_append.1 h with h | h
    · rcases List.mem_append.1 h with h | h
      · obtain ⟨c, hc, he⟩ := List.mem_map.1 h
        obtain ⟨rfl, rfl⟩ := Prod.mk.inj he
        refine .inl ⟨by omega, c, hc, ?_⟩
        rw [Bool.and_eq_true, bne_iff_ne, beq_iff_eq]
        exact ⟨by omega, rfl⟩
      · obtain ⟨p, hp, he⟩ := List.mem_map.1 h
        obtain ⟨rfl, rfl⟩ := Prod.mk.inj he
        obtain ⟨hp, hseen⟩ := List.mem_filter.1 hp
        rw [Bool.and_eq_true, Bool.not_eq_true'] at hseen
        have hp2 : p = 0 ∨ p = 1 := by simpa using hp
        exact .inr (.inl ⟨by omega, by rw [Nat.add_sub_cancel_left]; exact hseen.1⟩)
    · split at h
      · exact .inr (.inr (Prod.mk.inj (List.mem_singleton.1 h)).1)
      · exact absurd h List.not_mem_nil

/-- The first copy of a wait that ends alone moves the last accepted TCOUNT on. -/
def State.copyLapsed (s : State) (c : Copy) : State :=
  s.onSaf fun x =>
    { x with copies := x.copies.erase c
             accepted := x.accepted.map fun a => if s.isNew (telCount c.words) then telCount c.words else a }

section
variable {s : State} {c : Clk} {k n : Nat} (hen : s.monitorEn = true) (hnext : s.nextTimeout = some (k, n))
  (hc : s.toTick n = { s with clk := c })
include hen hnext hc

theorem State.doCopyTimeout_silent (hk : k = 4) : s.doCopyTimeout = { s with clk := c }.bothSilent := by
  rw [State.doCopyTimeout, hen, Bool.not_true, if_neg Bool.false_ne_true, hnext]
  dsimp only
  rw [hc, if_pos hk]

theorem State.doCopyTimeout_path (hk : k = 2 ∨ k = 3) : s.doCopyTimeout = { s with clk := c }.losePath (k - 2) := by
  rw [State.doCopyTimeout, hen, Bool.not_true, if_neg Bool.false_ne_true, hnext]
  dsimp only
  rw [hc, if_neg (by omega), if_pos (by omega)]

theorem State.doCopyTimeout_copy (hk : k ≤ 1) (hcopy : ∃ x ∈ s.saf.copies, (x.path != k && x.tick + 20 == n) = true) :
    ∃ x, s.doCopyTimeout = ({ s with clk := c }.copyLapsed x).losePath k := by
  obtain ⟨y, hy⟩ := Option.isSome_iff_exists.1 (List.find?_isSome.2 hcopy)
  refine ⟨y, ?_⟩
  rw [State.doCopyTimeout, hen, Bool.not_true, if_neg Bool.false_ne_true, hnext]
  dsimp only
  rw [hc, if_neg (by omega), if_neg (by omega)]
  dsimp only
  rw [hy]
  rfl

end

end Sys2Proof.Machine
end

section
/-! SUPPORT. STATUS and COMMAND telegrams as they are sent and received (R362, R363). -/

namespace Sys2Proof.Machine

/-! ### STATUS -/

/-- The STATUS telegram goes out in a queue with room for it. -/
theorem State.doStatusSend_sent {s : State} {n : Nat} {c : Clk} (hen : s.monitorEn = true) (hcx : s.plane.cxOn = true) (hid : s.moduleId ≠ 0)
    (hlast : s.saf.accepted = some n) (hroom : (s.queue 0).fill + 4 ≤ queueCap 0)
    (hc : s.toTick (s.saf.statusTick + 4) = { s with clk := c }) :
    s.doStatusSend = ({ s with clk := c }.enqueue 0 { words := packetWords ({ s with clk := c }.statusWords n), at_ := c.count, ftype := 0x09, only := none }).onSaf fun x =>
      { x with tcount := (x.tcount + 1) % 65536, statusTick := c.tick } := by
  have hgo : (s.monitorEn && s.plane.cxOn && s.moduleId != 0) = true := by
    rw [hen, hcx, Bool.and_self, Bool.true_and, bne_iff_ne]
    exact hid
  have hlen : ({ s with clk := c }.statusWords n).length = 4 := rfl
  have hpush : { s with clk := c }.pushSafety none ({ s with clk := c }.statusWords n) = { s with clk := c }.enqueue 0
      { words := packetWords ({ s with clk := c }.statusWords n), at_ := c.count, ftype := 0x09, only := none } :=
    if_pos (by rw [hlen]; exact hroom)
  rw [State.doStatusSend, if_pos hgo, hc]
  dsimp only
  rw [hlast]
  dsimp only
  rw [hpush]

theorem State.doStatusSend_none {s : State} (h : s.monitorEn = false ∨ s.moduleId = 0) : s.doStatusSend = s := by
  refine if_neg fun hand => ?_
  rw [Bool.and_eq_true, Bool.and_eq_true, bne_iff_ne] at hand
  obtain ⟨⟨hen, -⟩, hid⟩ := hand
  rcases h with h | h
  · rw [h] at hen
    exact absurd hen (by decide)
  · exact hid h

/-! ### COMMAND -/

section
variable {s : State} {p : Nat} (w0 w1 : LWord)

theorem State.doSafetyCommand_other (h : s.monitorEn = false ∨ telKind [w0, w1] ≠ 2) : s.doSafetyCommand p w0 w1 = s := by
  refine if_pos ?_
  rcases h with h | h
  · rw [h]
    rfl
  · rw [Bool.or_eq_true, bne_iff_ne]
    exact .inr h

variable (hp : p < 2) (hen : s.monitorEn = true) (hkind : telKind [w0, w1] = 2)
include hp hen hkind

theorem State.doSafetyCommand_eq : s.doSafetyCommand p w0 w1 = if !s.scrcOk [w0, w1] then s.telDiscard
    else match s.waitingCopy p (telCount [w0, w1]) with
      | some c => (s.sawCommand p).secondCopy c [w0, w1]
      | none =>
        if s.saf.accepted = some (telCount [w0, w1]) then s.sawCommand p
        else if !s.isNew (telCount [w0, w1]) then s.telDiscard
        else ((s.sawCommand p).onSaf fun x =>
          { x with copies := x.copies ++ [{ path := p, words := [w0, w1], tick := s.clk.tick }] }).saferParts w0 := by
  have hother : (!s.monitorEn || telKind [w0, w1] != 2) = false := by
    rw [hen, hkind]
    rfl
  rw [State.doSafetyCommand, hother, if_neg Bool.false_ne_true, Nat.mod_eq_of_lt hp] <;> rfl

end

/-- What the views without the ramp and the paths' losses show of the commands. -/
theorem Saf.commands_of_view {x y : Saf} (h : x.unpathed.unslowed = y.unpathed.unslowed) : x.copies = y.copies ∧
    x.accepted = y.accepted ∧ x.runReq = y.runReq ∧ x.sel = y.sel ∧ x.sdi = y.sdi ∧ x.agreed = y.agreed :=
  ⟨(congrArg Saf.copies h :), (congrArg Saf.accepted h :), (congrArg Saf.runReq h :), (congrArg Saf.sel h :), (congrArg Saf.sdi h :),
    (congrArg Saf.agreed h :)⟩

/-- A first copy, which waits. -/
def State.copyWaits (s : State) (p : Nat) (w0 w1 : LWord) : State :=
  (s.sawCommand p).onSaf fun x => { x with copies := x.copies ++ [{ path := p, words := [w0, w1], tick := s.clk.tick }] }

section
variable {s : State} (hs : s.Sound) (p : Nat) (w0 w1 : LWord)
include hs

theorem State.Sound.firstCopy_outcome {t : State} (ht : t = (s.copyWaits p w0 w1).saferParts w0) :
    t.saf.copies = s.saf.copies ++ [{ path := p, words := [w0, w1], tick := s.clk.tick }] ∧
    t.saf.accepted = s.saf.accepted ∧ t.saf.runReq = s.saf.runReq ∧ t.saf.sel = min (telField w0 39 2) s.saf.sel ∧
    t.saf.sdi = (if s.saf.sdi = 0 ∧ (telField w0 37 2 = 1 ∨ telField w0 37 2 = 2) then telField w0 37 2 else s.saf.sdi) ∧
    t.safState = (if telField w0 41 3 = 1 ∧ closedIn s.safState then 0
      else if telField w0 41 3 = 2 ∧ (s.safState = 1 ∨ s.safState = 3) then 2 else s.safState) ∧
    s.sameRegs t [F.SAF_STAT] ∧ t = { s with regs := t.regs, saf := t.saf } := by
  obtain ⟨u, hu⟩ : ∃ u, u = s.copyWaits p w0 w1 := ⟨_, rfl⟩
  rw [← hu] at ht
  subst ht
  have husaf : u.saf = { s.saf with lastCmd := s.saf.lastCmd.set p s.clk.tick
                                    copies := s.saf.copies ++ [{ path := p, words := [w0, w1], tick := s.clk.tick }] } := by
    rw [hu]
    rfl
  have huk : Kept 8388608 s u := hu ▸ State.onSaf_kept _ _ (State.onSaf_kept s _ (hs.kept _) rfl) rfl
  have huregs : u.regs = s.regs := huk.regs_eq rfl
  obtain ⟨hfields, hsaf, hstate⟩ := State.saferParts_outcome huk.regs w0
  rw [husaf] at hsaf
  rw [State.safState, State.safState, State.rd_of_regs huregs] at hstate
  have hview := congrArg Saf.unpathed hsaf
  rw [← Saf.unpathed_unslowed, ← Saf.unpathed_unslowed] at hview
  obtain ⟨hcopies, hacc, hreq, hsel, hsdi, -⟩ := Saf.commands_of_view hview
  refine ⟨hcopies, hacc, hreq, hsel, hsdi, hstate, fun b hb => ?_, ?_⟩
  · exact (hfields.sameRegs_one (a := F.SAF_STAT) (by decide) b hb).trans (State.sameRegs_of_regs huregs [] b List.not_mem_nil)
  · exact (State.saferParts_kept u w0 (huk.mono (m' := 8388612) rfl) rfl).eq_withParts

theorem State.Sound.copyAgrees_outcome {c : Copy} (hsame : c.words = [w0, w1]) (hlen : s.saf.agreed.length = 2) {t : State}
    (ht : t = (s.sawCommand p).secondCopy c [w0, w1]) :
    t.saf.accepted = some (telCount [w0, w1]) ∧ t.saf.copies = s.saf.copies.erase c ∧ t.saf.sel = telField w0 39 2 ∧
    t.saf.sdi = (if telField w0 37 2 = 3 then s.saf.sdi else telField w0 37 2) ∧
    t.saf.runReq = (if telField w0 41 3 = 3 ∨ telField w0 41 3 = 4 then some (telField w0 41 3) else s.saf.runReq) ∧
    t.saf.agreed = s.saf.agreed.map (· + 1) ∧ (2 ≤ s.saf.agreed.getD 0 0 → t.rdB F.SAF_STAT_PATH_A_OK = true) ∧
    (2 ≤ s.saf.agreed.getD 1 0 → t.rdB F.SAF_STAT_PATH_B_OK = true) ∧ t.safState = s.safState ∧
    s.sameRegs t [F.SAF_STAT] ∧ t = { s with regs := t.regs, fau := t.fau, saf := t.saf } := by
  obtain ⟨u, hu⟩ : ∃ u, u = ((s.sawCommand p).onSaf fun x => { x with copies := x.copies.erase c }).onSaf fun x =>
    { x with accepted := some (telCount [w0, w1]) } := ⟨_, rfl⟩
  have hsecond : (s.sawCommand p).secondCopy c [w0, w1] = ((u.agreedOn 0).agreedOn 1).agreedParts w0 := by
    rw [State.secondCopy, if_pos hsame, hu]
    rfl
  rw [hsecond] at ht
  subst ht
  have husaf : u.saf = { s.saf with lastCmd := s.saf.lastCmd.set p s.clk.tick, copies := s.saf.copies.erase c
                                    accepted := some (telCount [w0, w1]) } := by
    rw [hu]
    rfl
  have huk : Kept 8388608 s u :=
    hu ▸ State.onSaf_kept _ _ (State.onSaf_kept _ _ (State.onSaf_kept s _ (hs.kept _) rfl) rfl) rfl
  have huregs : u.regs = s.regs := huk.regs_eq rfl
  obtain ⟨a, b, hab⟩ := List.length_eq_two.1 hlen
  obtain ⟨hfields, ⟨pos, free, hsaf⟩, hA, hB⟩ := State.agreed_outcome huk.regs w0 (a := a) (b := b) (by rw [husaf]; exact hab) _ rfl
  rw [husaf] at hsaf
  obtain ⟨hcopies, hacc, hreq, hsel, hsdi, hagreed⟩ := Saf.commands_of_view hsaf
  refine ⟨hacc, hcopies, hsel, hsdi, hreq, hagreed.trans ?_, fun h2 => hA ?_, fun h2 => hB ?_,
    ?_, fun b hb => ?_, ?_⟩
  · rw [hab]
    rfl
  · rw [hab] at h2
    exact h2
  · rw [hab] at h2
    exact h2
  · exact (hfields.same (F.SAF_STAT_STATE, 0) (by decide)).trans (State.rd_of_regs huregs _ _)
  · exact (hfields.sameRegs_one (a := F.SAF_STAT) (by decide) b hb).trans (State.sameRegs_of_regs huregs [] b List.not_mem_nil)
  · exact (State.agreedParts_kept _ w0 (State.agreedOn_kept _ 1 (State.agreedOn_kept u 0 (huk.mono (m' := 8389124) rfl) rfl) rfl)
      rfl).eq_withParts

theorem State.Sound.copyDiffers_outcome {c : Copy} (hdiff : c.words ≠ [w0, w1]) (h4 : s.safState ≠ 4) {t : State}
    (ht : t = (s.sawCommand p).secondCopy c [w0, w1]) : s.lockedBy t 0x5303 ∧ t.saf.agreed = [0, 0] ∧ s.sameButSafety t ∧
    t = { s with free := t.free, regs := t.regs, fau := t.fau, saf := t.saf, book := t.book } := by
  obtain ⟨u, hu⟩ : ∃ u, u = ((s.sawCommand p).onSaf fun x => { x with copies := x.copies.erase c }).onSaf fun x =>
    { x with agreed := [0, 0] } := ⟨_, rfl⟩
  have hsecond : (s.sawCommand p).secondCopy c [w0, w1] = u.safLock 0x5303 := by
    rw [State.secondCopy, if_neg hdiff, hu]
  rw [hsecond] at ht
  subst ht
  have huagreed : u.saf.agreed = [0, 0] := by
    rw [hu]
    rfl
  have huk : Kept 25166342 s u :=
    hu ▸ State.onSaf_kept _ _ (State.onSaf_kept _ _ (State.onSaf_kept s _ (hs.kept _) rfl) rfl) rfl
  have huregs : u.regs = s.regs := by
    rw [hu]
    rfl
  have hkept := huk.sound.safLock_kept 0x5303
  refine ⟨State.lockedBy_of_regs huregs (huk.sound.safLock_lockedBy ?_ (by decide)),
    (hkept.seen (q := Saf.agreed) fun _ _ h => (congrArg Saf.agreed h :)).trans huagreed,
    State.sameButSafety_trans (State.sameButSafety_of_regs huregs) (hkept.sameButSafety lockFields_place),
    (huk.trans hkept.kept).eq_withParts⟩
  rw [State.safState, State.rd_of_regs huregs]
  exact h4

end

/-- A wait that ends. -/
theorem State.Sound.copyTimeout_outcome {s : State} (hs : s.Sound) (hfs : 0 < s.clk.fs) {k n : Nat} (hen : s.monitorEn = true)
    (hnext : s.nextTimeout = some (k, n)) : ∃ t, s.doCopyTimeout = t ∧ n ≤ t.clk.tick ∧ s.sameButSafety t ∧
      (k = 4 → closedIn s.safState = true → s.lockedBy t 0x5304) ∧
      (k = 4 → t.rdB F.SAF_STAT_PATH_A_OK = false ∧ t.rdB F.SAF_STAT_PATH_B_OK = false ∧
        (closedIn s.safState = false → t.safState = s.safState)) ∧
      (k ≤ 1 → t.rdB (pathOk k) = false) ∧
      (k = 2 ∨ k = 3 → t.rdB (pathOk (k - 2)) = false ∧
        (s.safState = 1 → t.safState = 3 ∧ t.saf.lost = some (k - 2) ∧ t.saf.degEntry = t.clk.tick ∧
          t.rd F.SAF_STAT_DEG_LEFT_S = s.rd F.SAF_CFG_DEG_TIME_S) ∧
        (s.safState = 3 → s.saf.lost ≠ some (k - 2) → s.lockedBy t 0x5402)) ∧
      t = { s with free := t.free, regs := t.regs, clk := t.clk, fau := t.fau, saf := t.saf, book := t.book } := by
  obtain ⟨c, hc, htick⟩ : ∃ c, s.toTick n = { s with clk := c } ∧ n ≤ c.tick :=
    ⟨_, s.toTick_only n, State.le_tick_toTick hfs n⟩
  obtain ⟨u, hu⟩ : ∃ u, u = { s with clk := c } := ⟨_, rfl⟩
  have huk : Kept 25166358 s u := hu ▸ (hs.kept _).congr (K := 25166358) rfl rfl rfl rfl rfl rfl rfl rfl rfl
  have huregs : u.regs = s.regs := by rw [hu]
  have hustate : u.safState = s.safState := State.rd_of_regs huregs _ _
  have huclk : u.clk = c := by rw [hu]
  have husaf : u.saf = s.saf := by rw [hu]
  have hdone {t : State} (h : MonKept pathWaitFields (fun _ => ()) u t) : n ≤ t.clk.tick ∧ s.sameButSafety t ∧ Kept 25166358 s t :=
    ⟨by rw [h.clk, huclk]; exact htick, State.sameButSafety_trans (State.sameButSafety_of_regs huregs) (h.sameButSafety (by decide)),
      huk.trans (h.kept.mono rfl)⟩
  rcases State.nextTimeout_cases hnext with ⟨hk, hcopy⟩ | ⟨hk, hseen⟩ | hk
  · obtain ⟨x, hdo⟩ := State.doCopyTimeout_copy hen hnext hc hk hcopy
    rw [← hu] at hdo
    have hlapsed : MonKept pathWaitFields (fun _ => ()) u (u.copyLapsed x) := (MonKept.refl huk.sound _ _).onSaf
    obtain ⟨hkept, hpath, -⟩ := hlapsed.sound.losePath_outcome k
    obtain ⟨htick, hsafe, hparts⟩ := hdone (hlapsed.trans hkept)
    exact ⟨_, hdo, htick, hsafe, fun h => by omega, fun h => by omega, fun _ => hpath, fun h => by omega,
      hparts.eq_withParts⟩
  · have hdo := State.doCopyTimeout_path hen hnext hc hk
    rw [← hu] at hdo
    obtain ⟨hkept, hpath, hlost⟩ := huk.sound.losePath_outcome (k - 2)
    obtain ⟨hdegraded, hlocked⟩ := hlost (by rw [husaf]; exact hseen)
    obtain ⟨htick, hsafe, hparts⟩ := hdone hkept
    refine ⟨_, hdo, htick, hsafe, fun h => by omega, fun h => by omega, fun h => by omega,
      fun _ => ⟨hpath, fun h1 => ?_, fun h3 hne => ?_⟩, hparts.eq_withParts⟩
    · obtain ⟨h3, hl, hentry, hleft⟩ := hdegraded (hustate.trans h1)
      exact ⟨h3, hl, by rw [hentry, hkept.clk], hleft.trans (State.rd_of_regs huregs _ _)⟩
    · exact State.lockedBy_of_regs huregs (hlocked (hustate.trans h3) (by rw [husaf]; exact hne))
  · have hdo := State.doCopyTimeout_silent hen hnext hc hk
    rw [← hu] at hdo
    obtain ⟨hkept, hA, hB, hlocked, hopen⟩ := huk.sound.bothSilent_outcome
    obtain ⟨htick, hsafe, hparts⟩ := hdone hkept
    exact ⟨_, hdo, htick, hsafe, fun _ h => State.lockedBy_of_regs huregs (hlocked (hustate ▸ h)),
      fun _ => ⟨hA, hB, fun h => (hopen (hustate ▸ h)).trans hustate⟩, fun h => by omega, fun h => by omega, hparts.eq_withParts⟩

end Sys2Proof.Machine

open Sys2Proof Sys2Proof.Machine

/-- Settles O45, clause by clause. -/
theorem safetyTelegrams : Obligations.SafetyTelegrams := by
  unfold Obligations.SafetyTelegrams
  intro s hs hfs
  have hsound := hs.sound
  have hclk (n : Nat) : ∃ c, s.toTick n = { s with clk := c } ∧ n ≤ c.tick :=
    ⟨_, s.toTick_only n, State.le_tick_toTick hfs n⟩
  have hstatus := hs.next_cxDo State.doStatusSend
  have htimeout := hs.awake.next_keeperDo State.doCopyTimeout
  refine ⟨fun h => hstatus.trans (congrArg _ (State.doStatusSend_none h)), fun n hen hid hlast hroom => ?_,
    fun path w0 w1 tc htc req hreq sel hsel sdi hsdi => ?_, fun h => ?_, fun k n hen hnext => ?_⟩
  · obtain ⟨c, hc, htick⟩ := hclk (s.saf.statusTick + 4)
    have hdo := State.doStatusSend_sent hen (Bool.and_eq_true_iff.1 hs.cx).1 hid hlast hroom hc
    obtain ⟨v, hv⟩ : ∃ v, v = { s with clk := c } := ⟨_, rfl⟩
    have hvk : Kept 16 s v := hv ▸ (hsound.kept _).congr (K := 16) rfl rfl rfl rfl rfl rfl rfl rfl rfl
    have hvclk : v.clk = c := by rw [hv]
    have hvsaf : v.saf = s.saf := hvk.saf rfl
    have hqueue : v.queue 0 = s.queue 0 := State.Sound.queue_of_kept hvk rfl 0
    obtain ⟨p, hp⟩ : ∃ p : Packet, p = { words := packetWords ({ s with clk := c }.statusWords n), at_ := c.count, ftype := 0x09
                                         only := none } := ⟨_, rfl⟩
    rw [← hv] at hdo
    rw [hv, ← hp, ← hv] at hdo
    have henq : Kept 324 v (v.enqueue 0 p) := State.enqueue_kept v 0 p (hvk.sound.kept _) rfl
    have hfields : FieldsKept [] s (v.enqueue 0 p) :=
      ((FieldsKept.refl hsound.regs []).congr (u := v) (hvk.regs_eq rfl)).enqueue (by decide) p
    have hwait := State.waiting_enqueue (s := v) (q := 0) p (by rw [hvk.sound.que]; decide)
    rw [hqueue] at hwait
    obtain ⟨t, ht⟩ : ∃ t, t = (v.enqueue 0 p).onSaf fun x => { x with tcount := (x.tcount + 1) % 65536, statusTick := c.tick } := ⟨_, rfl⟩
    rw [← ht] at hdo
    have htclk : t.clk = c := by rw [ht, State.onSaf_clk, henq.clk rfl, hvclk]
    have htk : Kept 8388948 s t :=
      ht ▸ State.onSaf_kept _ _ ((hvk.mono (m' := 8388948) rfl).trans (henq.mono rfl)) rfl
    have httim : t.tim = s.tim := by rw [ht, State.onSaf_tim, State.enqueue_tim_zero, hvk.tim rfl]
    have htregs : t.regs = (v.enqueue 0 p).regs := by rw [ht, State.onSaf_regs]
    refine ⟨t, { p with at_ := v.clk.count }, hstatus.trans (congrArg _ hdo), by rw [htclk]; exact htick, ?_, ?_, by rw [hp],
      by rw [hp], by rw [hp, htclk], ?_, ?_⟩
    · rw [htclk, ht, State.onSaf_saf, henq.saf rfl, hvsaf]
    · rw [ht]
      exact hwait
    · exact (hfields.congr htregs).sameMain
    · have hparts : t = { s with regs := t.regs, clk := t.clk, tim := t.tim, que := t.que, saf := t.saf } := htk.eq_withParts
      rw [httim] at hparts
      exact hparts
  · subst htc hreq hsel hsdi
    have hexec := hs.next_cxDo fun s => s.doSafetyCommand path w0 w1
    refine ⟨fun h => hexec.trans (congrArg _ (State.doSafetyCommand_other w0 w1 h)), fun hen hkind => ?_⟩
    have hdo := State.doSafetyCommand_eq w0 w1 path.isLt hen hkind
    refine ⟨fun h => ?_, fun hok hnone hacc => ?_, fun hok hnone hacc hnew => ?_, fun c hok hcopy hsame hlen _ => ?_, fun c hok hcopy hdiff h4 => ?_⟩
    · have hdiscard : s.doSafetyCommand path w0 w1 = s.telDiscard := by
        rcases h with h | ⟨hnone, hacc, hnew⟩
        · rw [hdo, h, Bool.not_false, if_pos rfl]
        · rw [hdo]
          rw [hnone]
          dsimp only
          rw [if_neg hacc, hnew, Bool.not_false, if_pos rfl]
          exact ite_self _
      exact ⟨_, hexec.trans (congrArg _ hdiscard), State.rd_satAdd hsound.regs (by decide) 0 1,
        State.sameRegs_wr hsound.regs F.SAF_CNT2_TEL_DISCARD 0 _, rfl⟩
    · rw [hok, Bool.not_true, if_neg Bool.false_ne_true, hnone] at hdo
      dsimp only at hdo
      rw [if_pos hacc] at hdo
      exact hexec.trans (congrArg _ hdo)
    · rw [hok, Bool.not_true, if_neg Bool.false_ne_true, hnone] at hdo
      dsimp only at hdo
      rw [if_neg hacc, hnew, Bool.not_true, if_neg Bool.false_ne_true] at hdo
      obtain ⟨hcopies, hparts⟩ := hsound.firstCopy_outcome path w0 w1 rfl
      exact ⟨_, hexec.trans (congrArg _ hdo), hcopies, hparts⟩
    · rw [hok, Bool.not_true, if_neg Bool.false_ne_true, hcopy] at hdo
      dsimp only at hdo
      obtain ⟨hacc, hparts⟩ := hsound.copyAgrees_outcome path w0 w1 hsame hlen rfl
      exact ⟨_, hexec.trans (congrArg _ hdo), hacc, hparts⟩
    · rw [hok, Bool.not_true, if_neg Bool.false_ne_true, hcopy] at hdo
      dsimp only at hdo
      obtain ⟨hlocked, hparts⟩ := hsound.copyDiffers_outcome path w0 w1 hdiff h4 rfl
      exact ⟨_, hexec.trans (congrArg _ hdo), hlocked, hparts⟩
  · refine htimeout.trans (congrArg _ ?_)
    rw [State.doCopyTimeout]
    rcases h with h | h
    · rw [h, Bool.not_false, if_pos rfl]
    · rw [h]
      split <;> rfl
  · obtain ⟨t, hdo, htick, hsafe, hparts⟩ := hsound.copyTimeout_outcome hfs hen hnext
    exact ⟨t, htimeout.trans (congrArg _ hdo), htick, hsafe, hparts⟩
end

section
/-! SUPPORT. A set written while an SSI reading is held (R356, R370). -/

namespace Sys2Proof.Machine

/-- A module at work whose flash write of an activated set has ended, with an SSI word of an earlier cycle held. -/
def writtenSet : State :=
  { start := { booted := true }, plane := { cxOn := true }, saf := { on := true, writing := some [], ssiLast := some 0 } }

theorem writtenSet_working : writtenSet.Working := ⟨⟨by decide +kernel, rfl, rfl, rfl, rfl, rfl, rfl⟩, rfl, rfl⟩

/-- The set that takes force drops the SSI word. -/
theorem writtenSet_ssiLast : writtenSet.doSafetySetWritten.saf.ssiLast = none := rfl

end Sys2Proof.Machine

open Sys2Proof Sys2Proof.Machine

/-- Refutes O46: its last clause names the parts of the monitor's own state that a written set changes and leaves out ssiLast, the SSI
word of the cycle before, which loading a set drops as well. (The clause also claims each parameter register to be the set's word, where
the model stores the fields' bits alone, so a set with reserved bits, which a Working state may hold, fails there too.) -/
theorem not_safetyRecovery : ¬ Obligations.SafetyRecovery := by
  intro h
  have hw := writtenSet_working
  obtain ⟨-, -, -, -, -, -, hwritten⟩ := h writtenSet hw
  obtain ⟨t, hexec, -, -, -, -, hsaf, -⟩ := hwritten [] rfl
  have ht : writtenSet.doSafetySetWritten = t :=
    Host.Outcome.next.inj ((hw.awake.next_keeperDo State.doSafetySetWritten).symm.trans hexec)
  have hlast := writtenSet_ssiLast
  rw [ht, hsaf] at hlast
  exact absurd hlast (by decide)
end

section
/-! SUPPORT. The release of a stuck reset that was reported (R409). -/

namespace Sys2Proof.Machine

/-- A module held in reset by its stuck RESET_N, whose report (R409) is an open incident. -/
def stuckModule : State :=
  { start := { booted := true, hold := some 0, fromPin := true, pinLow := true, stuck := true }
    fau := { inc := [{ st := .opened, code := 0x4401, loc := ({} : State).locKeeper, lasting := true }] } }

theorem stuckModule_sound : stuckModule.Sound := ⟨by decide +kernel, rfl, rfl, rfl, rfl, rfl, rfl⟩

/-- Its release ends the condition of that incident. -/
theorem stuckModule_released : (stuckModule.doResetRelease 0).fau.inc.map (fun x => x.lasting) = [false] := by decide +kernel

end Sys2Proof.Machine

open Sys2Proof Sys2Proof.Machine

/-- Refutes O48: its clause on the release of RESET_N lets registers, clock and the start's own state change and nothing else, but the
release of a stuck reset also ends the condition of incident 0x4401, so the entry of an open one changes. A premise that the reset is not
stuck, or the faults among what may change, would mend it. -/
theorem not_resets : ¬ Obligations.Resets := by
  intro h
  obtain ⟨-, -, -, -, -, -, -, hrelease, -⟩ := h stuckModule stuckModule_sound (by decide +kernel)
  obtain ⟨t, hexec, -, -, -, -, -, -, -, -, -, -, hparts⟩ := hrelease 0 0 rfl
  have ht : stuckModule.doResetRelease 0 = t := Host.Outcome.next.inj hexec
  have hinc := stuckModule_released
  have hfau : t.fau = stuckModule.fau := (congrArg State.fau hparts).trans rfl
  rw [ht, hfau] at hinc
  exact absurd hinc (by decide)
end

section
/-! SUPPORT. The start of CX in a module that has lost REFCLK (R411, R302). -/

namespace Sys2Proof.Machine

variable {msk : Nat} {ref : State}

/-- What the start of CX does before its count is 0 (R411). -/
def State.readyCx (s : State) (cold : Bool) : State :=
  let s := s.onPlane fun p =>
    { p with zone := s.rd F.AFE_ZONE_ZONE + 2 ^ 32 * s.rd F.AFE_ZONE_ZONE 1, trim := s.rd F.ADC_CTL_CAL_MODE == 1 }
  let s := (s.preloadTime cold).loadCal
  let s := s.wrB F.ADC_REH_STAT_SAVED_VALID 0 s.newestSet.isSome
  s.onPlane fun p => { p with cxOn := true, monitors := true, ingest := true, unitOn := 0 }

/-- What it does once its count is 0. -/
def State.fillCx (s : State) : State :=
  let s := s.storeDwell (s.rd F.AFE_AR_DWELL_DWELL)
  let s := s.takeUnits s.unitMap 0
  let s := s.forEach allChans fun s ch => s.formSkew ch 0
  let s := s.clearSpans.startRegions
  let s := (if s.stage ≤ 3 then s.startRing 0 else s).startBudget s.budgetInterval
  let s := { s with pmc := { s.pmc with base := s.clk.tick } }
  ((s.chnSync).startLanes).setPhase 5

theorem State.startCx_eq (s : State) (cold : Bool) : s.startCx cold = (s.readyCx cold).initChans.fillCx := rfl

theorem State.readyCx_kept {s : State} (cold : Bool) (h : Kept msk ref s) (hm : 20548 &&& msk = 20548) :
    Kept msk ref (s.readyCx cold) := by
  unfold State.readyCx
  refine State.onPlane_kept _ _ (State.wrB_kept _ _ _ _ (State.loadCal_kept _ ?_ (mask_sub hm rfl)) (mask_sub hm rfl)) (mask_sub hm rfl)
  exact State.preloadTime_kept _ _ (State.onPlane_kept _ _ h (mask_sub hm rfl)) (mask_sub hm rfl)

theorem State.fillCx_kept {s : State} (h : Kept msk ref s) (hm : 4092870 &&& msk = 4092870) : Kept msk ref s.fillCx := by
  unfold State.fillCx
  refine State.setPhase_kept _ _ (State.startLanes_kept _ (State.chnSync_kept _ ?_ (mask_sub hm rfl)) (mask_sub hm rfl))
    (mask_sub hm rfl)
  refine mk_kept (State.startBudget_kept _ _ ?_ (mask_sub hm rfl)) rfl rfl rfl rfl rfl rfl rfl (K := 2097152) (mask_sub hm rfl)
  have hunits := State.takeUnits_kept _ (s.storeDwell (s.rd F.AFE_AR_DWELL_DWELL)).unitMap 0
    (State.storeDwell_kept s (s.rd F.AFE_AR_DWELL_DWELL) h (mask_sub hm rfl)) (mask_sub hm rfl)
  have hskew : Kept msk ref (State.forEach _ allChans fun s ch => s.formSkew ch 0) :=
    State.forEach_kept hunits fun u ch hu => State.formSkew_kept u ch 0 hu (mask_sub hm rfl)
  have hregions := State.startRegions_kept _ (State.clearSpans_kept _ hskew (mask_sub hm rfl)) (mask_sub hm rfl)
  exact ite_kept (State.startRing_kept _ _ hregions (mask_sub hm rfl)) hregions

/-- The counter of a CX that starts runs when REFCLK is there. -/
theorem State.startCx_running {s : State} (hs : s.Sound) (cold : Bool) : (s.startCx cold).clk.running = s.clk.refclk := by
  have hready : Kept 20548 s (s.readyCx cold) := State.readyCx_kept cold (hs.kept _) rfl
  have hinit := State.initChans_kept _ (hready.sound.kept 16400) rfl
  have hfill := State.fillCx_kept (hinit.sound.kept 4092870) rfl
  rw [State.startCx_eq, hfill.clk rfl, ← hready.clk rfl]
  simp only [State.initChans]

/-- What a load does when there is no valid image and CX alone restarts (R408, R411). -/
def State.takeNoImage (s : State) : State :=
  let ignored := s.rdB F.MGT_STRAP_DEFAULT_IMAGE
  let s := s.wrB F.MGT_START_STAT_IMAGE_VALID 0 false
  let s := if !ignored then s.report 0x4402 s.locKeeper 0 else s
  (s.loadBanks).wr F.FAU_FLASH_STAT_RETIRED 0 s.fau.retired.length

theorem State.takeNoImage_kept {s : State} (h : Kept msk ref s) (hm : 526 &&& msk = 526) : Kept msk ref s.takeNoImage := by
  have hvalid := State.wrB_kept s F.MGT_START_STAT_IMAGE_VALID 0 false h (mask_sub hm rfl)
  unfold State.takeNoImage
  refine State.wr_kept _ _ _ _ (State.loadBanks_kept _ (ite_kept ?_ hvalid) (mask_sub hm rfl)) (mask_sub hm rfl)
  exact State.report_kept _ _ _ _ hvalid (mask_sub hm rfl)

/-- So does that of a module whose warm reset finds no valid image. -/
theorem State.doImageLoaded_running {s : State} (hs : s.Sound) (hkind : s.rd F.MGT_RESET_CAUSE_KIND = 1) (hphase : s.phase = 3)
    (hhold : s.start.hold = none) (hcx : s.plane.cxOn = false) (hstop : s.pwr.stop = 0) (slot failed : Nat) (sensorCal safOk : Bool) :
    (s.doImageLoaded slot failed false [] sensorCal safOk).clk.running = s.clk.refclk := by
  have htaken : Kept 526 s s.takeNoImage := State.takeNoImage_kept (hs.kept _) rfl
  have hload : s.doImageLoaded slot failed false [] sensorCal safOk = (s.takeNoImage.startCx false).noteStart := by
    have hread : s.doImageLoaded slot failed false [] sensorCal safOk =
        (if s.takeNoImage.pwr.stop = 0 then s.takeNoImage.startCx false else s.takeNoImage).noteStart := by
      simp [State.doImageLoaded, State.takeNoImage, hkind, hphase, hhold, hcx]
    rw [hread, if_pos (by rw [htaken.pwr rfl, hstop])]
  have hcx : (s.takeNoImage.startCx false).Sound :=
    (State.startCx_kept _ false (htaken.sound.kept 4092886) rfl).sound
  rw [hload, (State.noteStart_kept _ (hcx.kept 67108868) rfl).clk rfl, State.startCx_running htaken.sound, htaken.clk rfl]

/-- A module of which a warm reset has restarted the keeper's start-up, without REFCLK. -/
def lostReference : State :=
  { start := { booted := true }, clk := { refclk := false }
    regs := [(F.MGT_RESET_CAUSE, 1), (F.MGT_START_STAT, 3)] }

theorem lostReference_sound : lostReference.Sound := ⟨by decide +kernel, rfl, rfl, rfl, rfl, rfl, rfl⟩

end Sys2Proof.Machine

open Sys2Proof Sys2Proof.Machine

/-- Refutes O49: its clause on the load of the image has the counter run, with no premise that REFCLK is there, and CX that starts
without REFCLK leaves the counter to wait for it (R302). -/
theorem not_startUp : ¬ Obligations.StartUp := by
  intro h
  obtain ⟨-, hload, -⟩ := h lostReference lostReference_sound (by decide +kernel)
  obtain ⟨t, hexec, -, hrunning, -⟩ := hload 0 0 false [] false true (by decide +kernel) rfl (by decide +kernel) rfl rfl (Or.inl (by decide))
  have hawake : lostReference.Awake := ⟨lostReference_sound, rfl⟩
  have ht : lostReference.doImageLoaded 0 0 false [] false true = t :=
    Host.Outcome.next.inj ((hawake.next_keeperDo fun s => s.doImageLoaded 0 0 false [] false true).symm.trans hexec)
  have hlost := State.doImageLoaded_running lostReference_sound (by decide +kernel) (by decide +kernel) rfl rfl rfl 0 0 false true
  rw [ht, hrunning] at hlost
  exact absurd hlost (by decide)
end

section
/-! SUPPORT. The registers of the blocks MGT and PWR, which nothing that a stage sheds or restores writes (R391 to R395, R451). -/

namespace Sys2Proof.Machine

/-- t is sound, and the registers of the blocks MGT and PWR but those of l are in it as they are in r (R451). -/
structure PowerKept (l : List Nat) (r t : State) : Prop where
  sound : t.Sound
  held : ∀ b < 0x20000, b ∉ l → t.regGet b = r.regGet b

section
variable {l : List Nat} {r t u : State}

theorem PowerKept.refl (h : r.Sound) (l : List Nat) : PowerKept l r r := ⟨h, fun _ _ _ => rfl⟩

theorem PowerKept.trans (h : PowerKept l r t) (g : PowerKept l t u) : PowerKept l r u :=
  ⟨g.sound, fun b hb hl => (g.held b hb hl).trans (h.held b hb hl)⟩

variable (h : PowerKept l r t)
include h

/-- An operation that has no registers in its footprint. The number names every part of State but the registers. -/
theorem PowerKept.quiet (g : Kept 268435451 t t → Kept 268435451 t u) : PowerKept l r u :=
  have hu := g (h.sound.kept _)
  ⟨hu.sound, fun b hb hl => (State.sameRegs_of_regs (hu.regs_eq rfl) [] b List.not_mem_nil).trans (h.held b hb hl)⟩

theorem PowerKept.main {m : Nat} (g : MainKept m [] t u) : PowerKept l r u :=
  ⟨g.kept.sound, fun b hb hl => (g.main b (by omega) (by omega) List.not_mem_nil).trans (h.held b hb hl)⟩

theorem PowerKept.mono {l' : List Nat} (hl : l ⊆ l') : PowerKept l' r t := ⟨h.sound, fun b hb hn => h.held b hb fun hm => hn (hl hm)⟩

theorem PowerKept.rd {f : Fld} {i : Nat} (hf : f.addr i < 0x20000) (hl : f.addr i ∉ l) : t.rd f i = r.rd f i :=
  State.rd_of_regGet (h.held _ hf hl)

theorem PowerKept.put {a : Nat} (ha : a ∈ l ∨ 0x20000 ≤ a) (w : Word) : PowerKept l r (t.regPut a w) :=
  ⟨(State.regPut_kept a w (h.sound.kept 4) rfl).sound, fun b hb hl =>
    (State.sameRegs_regPut h.sound.regs a w b fun hm => by
      obtain rfl := List.mem_singleton.1 hm
      exact ha.elim hl (by omega)).trans (h.held b hb hl)⟩

theorem PowerKept.regPut {a : Nat} (ha : 0x20000 ≤ a) (w : Word) : PowerKept l r (t.regPut a w) := h.put (.inr ha) w

theorem PowerKept.wrOf {f : Fld} {i : Nat} (hf : f.addr i ∈ l) (v : Nat) : PowerKept l r (t.wr f i v) := h.put (.inl hf) _

theorem PowerKept.flagOf {a : Nat} (ha : a ∈ l) (k : Nat) : PowerKept l r (t.flag a k) := h.put (.inl ha) _

theorem PowerKept.wr {f : Fld} (hf : 0x20000 ≤ f.base) (i v : Nat) : PowerKept l r (t.wr f i v) :=
  h.regPut (Nat.le_add_right_of_le hf) _

theorem PowerKept.wrB {f : Fld} (hf : 0x20000 ≤ f.base) (i : Nat) (b : Bool) : PowerKept l r (t.wrB f i b) := h.wr hf i _

theorem PowerKept.satAdd {f : Fld} (hf : 0x20000 ≤ f.base) (i n : Nat) : PowerKept l r (t.satAdd f i n) := h.wr hf i _

theorem PowerKept.flag {a : Nat} (ha : 0x20000 ≤ a) (k : Nat) : PowerKept l r (t.flag a k) := h.regPut ha _

theorem PowerKept.forEach {x : Type} {f : State → x → State} (hf : ∀ t y, PowerKept l r t → PowerKept l r (f t y)) (xs : List x) :
    PowerKept l r (t.forEach xs f) := by
  unfold State.forEach
  induction xs generalizing t with
  | nil => exact h
  | cons y xs ih => exact ih (hf t y h)

theorem PowerKept.ite {c : Prop} [Decidable c] (g : PowerKept l r u) : PowerKept l r (if c then t else u) := by
  split
  · exact h
  · exact g

theorem PowerKept.when {c : Prop} [Decidable c] (g : PowerKept l r t → PowerKept l r u) : PowerKept l r (if c then u else t) :=
  PowerKept.ite (g h) h

theorem PowerKept.unless {c : Prop} [Decidable c] (g : PowerKept l r t → PowerKept l r u) : PowerKept l r (if c then t else u) :=
  h.ite (g h)

theorem PowerKept.count (e c n : Nat) : PowerKept l r (t.count e c n) := h.main (m := 4) ((MainKept.refl h.sound 4 []).count rfl e c n)

theorem PowerKept.report (c a d : Nat) : PowerKept l r (t.report c a d) :=
  h.main (m := 518) ((MainKept.refl h.sound 518 []).report rfl c a d)

/-! ### Queues -/

theorem PowerKept.onQueue (q : Nat) (f : Queue → Queue) : PowerKept l r (t.onQueue q f) := h.quiet fun k => State.onQueue_kept _ _ _ k rfl

theorem PowerKept.enqueue (q : Nat) (p : Packet) : PowerKept l r (t.enqueue q p) :=
  ((h.onQueue q _).wr (by decide) _ _).quiet fun k => State.noteT48_kept _ _ _ k rfl

theorem PowerKept.pushPkt (q : Nat) (p : Packet) : PowerKept l r (t.pushPkt q p) := by
  refine (h.enqueue q p).ite ?_
  refine PowerKept.ite (((h.satAdd (by decide) _ _).flag (by decide) _).report _ _ _) ?_
  exact (h.onQueue q _).flag (by decide) _

theorem PowerKept.push (q : Nat) (ws : List LWord) : PowerKept l r (t.push q ws) := h.pushPkt q _

theorem PowerKept.pushSteered (q : Nat) (ch : Option Nat) (ws : List LWord) : PowerKept l r (t.pushSteered q ch ws) := h.pushPkt q _

theorem PowerKept.flushOne (q ch n : Nat) : PowerKept l r (t.flushOne q ch n) :=
  ((h.onQueue q _).count _ _ _).quiet fun k => mk_kept (K := 512) k rfl rfl rfl rfl rfl rfl rfl rfl

theorem PowerKept.dropProgress (ch n : Nat) : PowerKept l r (t.dropProgress ch n) :=
  ((h.onQueue _ _).forEach (fun _ _ hu => hu.quiet fun k => State.discardTags_kept _ _ _ _ k rfl) _).forEach
    (fun _ _ hu => hu.flushOne _ _ _) _

/-! ### Channels -/

theorem PowerKept.onChan (ch : Nat) (f : Chan → Chan) : PowerKept l r (t.onChan ch f) := h.quiet fun k => State.onChan_kept _ _ _ k rfl

theorem PowerKept.stopChannel (ch n : Nat) : PowerKept l r (t.stopChannel ch n) := by
  unfold State.stopChannel
  split
  · exact h
  · exact (h.onChan ch _).dropProgress ch n

theorem PowerKept.endChan (ch n : Nat) : PowerKept l r (t.endChan ch n) := (h.stopChannel ch n).onChan ch _

/-! ### The Prompter's commands and injected conversions -/

theorem PowerKept.onPrm (f : Prm → Prm) : PowerKept l r (t.onPrm f) := h.quiet fun k => State.onPrm_kept _ _ k rfl

theorem PowerKept.postEntry (c : PCmd) : PowerKept l r (t.postEntry c) := by
  unfold State.postEntry
  refine PowerKept.wr (PowerKept.quiet (PowerKept.onPrm ?_ _) fun k => State.writeStatus_kept _ _ k rfl) (by decide) _ _
  exact (h.quiet fun k => State.memWrite_kept _ _ _ _ _ k rfl).quiet fun k => State.onRing_kept _ _ _ k rfl

theorem PowerKept.finishCmd (ring idx : Nat) (result : LWord) (status blocks low : Nat) :
    PowerKept l r (t.finishCmd ring idx result status blocks low) :=
  (h.onPrm _).forEach (fun _ c hu => (hu.postEntry c).ite hu) _

theorem PowerKept.setInjQueue (g : Nat) (q : List Inject) : PowerKept l r (t.setInjQueue g q) :=
  (h.quiet fun k => State.onAdc_kept _ _ k rfl).wr (by decide) _ _

theorem PowerKept.injComplete (x : Inject) (status : Nat) : PowerKept l r (t.injComplete x status) := by
  have hlast := ((h.wr (f := F.ADC_INJ_STAT_LAST_STATUS) (by decide) (x.ch / 4) status).wr (f := F.ADC_INJ_STAT_LAST_CH) (by decide)
    (x.ch / 4) (if x.skew then 4 * (x.ch / 4) else x.ch)).wrB (f := F.ADC_INJ_STAT_LAST_KIND) (by decide) (x.ch / 4) x.skew
  have hmeas := (hlast.forEach (f := fun s ch => s.wr F.FLT_SKEW_MEAS_PENDING ch 0) (fun _ _ hu => hu.wr (by decide) _ _)
    (clusterChans (x.ch / 4)))
  unfold State.injComplete
  dsimp only
  split
  · exact ((hmeas.ite hlast).quiet fun k => State.injResult_kept _ _ _ k rfl).finishCmd _ _ _ _ _ _
  · exact hmeas.ite hlast

theorem PowerKept.dropInjects (g running waiting n : Nat) : PowerKept l r (t.dropInjects g running waiting n) :=
  (h.setInjQueue g []).forEach (fun _ _ hu => PowerKept.injComplete (PowerKept.ite
    (hu.forEach (fun _ _ hv => hv.quiet fun k => State.onSource_kept _ _ _ _ k rfl) _) hu) _ _) _

theorem PowerKept.assignInject (g n : Nat) : PowerKept l r (t.assignInject g n) := by
  refine h.forEach (fun u y hu => ?_) _
  split
  · exact hu
  · refine hu.ite (PowerKept.ite ((hu.setInjQueue g _).injComplete _ _) ?_)
    exact (hu.setInjQueue g _).quiet fun k => State.clearWindows_kept _ _ k rfl

/-! ### Rehearsal -/

theorem PowerKept.loadFactors (ch : Nat) (vs : List Nat) : PowerKept l r (t.loadFactors ch vs) :=
  (h.onChan ch _).forEach (fun _ _ hu => hu.wr (by decide) _ _) _

theorem PowerKept.phaseChanged (reg : Nat) : PowerKept l r (t.phaseChanged reg) :=
  h.forEach (fun _ ch hu => hu.ite ((hu.wr (by decide) _ _).onChan ch _)) _

theorem PowerKept.setRehBusy (reg : Nat) (b : Bool) : PowerKept l r (t.setRehBusy reg b) := h.wr (by decide) _ _

theorem PowerKept.releaseRehearsal (reg n : Nat) : PowerKept l r (t.releaseRehearsal reg n) := by
  have hidle : PowerKept l r ((t.setRehBusy reg false).onReh reg fun _ => {}) :=
    (h.setRehBusy reg false).quiet fun k => State.onReh_kept _ _ _ k rfl
  have hranges := (hidle.flag (a := F.ADC_REH_EVT) (by decide) 1).forEach (f := fun s ch => s.releaseRange ch n)
    (fun _ _ hu => hu.quiet fun k => State.releaseRange_kept _ _ _ k rfl) (regionChans reg)
  exact hranges.forEach (fun _ g hu => hu.assignInject g n) _

theorem PowerKept.stopRehearsal (reg result n : Nat) : PowerKept l r (t.stopRehearsal reg result n) := by
  unfold State.stopRehearsal
  refine h.ite (PowerKept.releaseRehearsal (PowerKept.wr (PowerKept.ite ?_ h) (show 0x20000 ≤ F.ADC_REH_STAT by decide) _ _) _ _)
  have hload : PowerKept l r (t.forEach (regionChans reg) fun s ch => s.loadFactors ch ((t.rehOf reg).old ch)) :=
    h.forEach (fun _ _ hu => hu.loadFactors _ _) _
  have hback (f : Chan → Chan) := hload.forEach (f := fun s ch => s.onChan ch f) (fun _ _ hu => hu.onChan _ f) (regionChans reg)
  exact (hback _).ite (((hback _).regPut (Nat.le_add_right_of_le (by decide)) _).phaseChanged reg)

theorem PowerKept.endAll (n : Nat) : PowerKept l r (t.endAll n) :=
  ((h.forEach (fun _ _ hu => hu.stopRehearsal _ _ _) _).forEach (fun _ _ hu => hu.dropInjects _ _ _ _) _).forEach
    (fun _ _ hu => hu.endChan _ _) _

end
end Sys2Proof.Machine
end

section
/-! SUPPORT. The same of the watch cells, the feeds and the regions (R150 to R164, R367, R395). -/

namespace Sys2Proof.Machine

/-! ### Exchange of a register's banks (R160) -/

theorem tableGet_append {v : Type} (u : v) {a b : Table v} {k : Nat} (h : ∀ p ∈ b, p.1 ≠ k) : tableGet u (a ++ b) k = tableGet u a k := by
  induction a with
  | nil =>
    induction b with
    | nil => rfl
    | cons p b ih =>
      obtain ⟨a, x⟩ := p
      exact (if_neg (h (a, x) List.mem_cons_self)).trans (ih fun q hq => h q (List.mem_cons_of_mem _ hq))
  | cons p a ih => rw [List.cons_append, tableGet, tableGet, ih]

theorem tableGet_filter {v : Type} (u : v) (f : Nat × v → Bool) {t : Table v} {k : Nat} (h : ∀ x, f (k, x) = true) :
    tableGet u (t.filter f) k = tableGet u t k := by
  induction t with
  | nil => rfl
  | cons p t ih =>
    obtain ⟨a, x⟩ := p
    rw [List.filter_cons]
    by_cases hk : a = k
    · subst hk
      rw [if_pos (h x), tableGet, tableGet, if_pos rfl, if_pos rfl]
    · rw [tableGet, if_neg hk, ← ih]
      split
      · rw [tableGet, if_neg hk]
      · rfl

theorem State.regGet_swapBanks (s : State) {lo hi b : Nat} (hb : b < lo) : (s.swapBanks lo hi).regGet b = s.regGet b := by
  rw [State.regGet, State.swapBanks, swapRange, List.append_assoc, tableGet_append, tableGet_filter]
  · rfl
  · intro x; simpa using hb
  · intro p hp
    simp only [List.mem_append, List.mem_filter, decide_eq_true_eq] at hp
    omega

section
variable {l : List Nat} {r t u : State} (h : PowerKept l r t)
include h

theorem PowerKept.swapBanks {lo hi : Nat} (hlo : 0x20000 ≤ lo) : PowerKept l r (t.swapBanks lo hi) :=
  ⟨(State.swapBanks_kept t lo hi (h.sound.kept 12) rfl).sound, fun b hb hl => (t.regGet_swapBanks (by omega)).trans (h.held b hb hl)⟩

/-! ### Watch cells and masks -/

theorem PowerKept.onWch (f : Wch → Wch) : PowerKept l r (t.onWch f) := h.quiet fun k => State.onWch_kept _ _ k rfl

theorem PowerKept.onMaskRun (ch n : Nat) (f : MaskRun → MaskRun) : PowerKept l r (t.onMaskRun ch n f) :=
  h.quiet fun k => State.onMaskRun_kept _ _ _ _ k rfl

theorem PowerKept.onWchan (ch : Nat) (f : WChan → WChan) : PowerKept l r (t.onWchan ch f) :=
  h.quiet fun k => State.onWchan_kept _ _ _ k rfl

theorem PowerKept.mapCells (ch : Nat) (f : Nat → Cell → Cell) : PowerKept l r (t.mapCells ch f) :=
  h.quiet fun k => State.mapCells_kept _ _ _ k rfl

theorem PowerKept.propose (p : Proposal) : PowerKept l r (t.propose p) := h.quiet fun k => State.propose_kept _ _ k rfl

theorem PowerKept.sendRecord (event : Nat) (record : Bool → List LWord) : PowerKept l r (t.sendRecord event record).2 := by
  unfold State.sendRecord
  split
  · exact (((h.satAdd (f := F.WCH_EVT_DROPPED_COUNT) (by decide) 0 1).flag (a := F.WCH_EVT_STAT) (by decide) 0).count 0x172 t.locCx
      1).onWch fun w => { w with lost := true }
  · exact ((h.onWch fun w => { w with tokens := w.tokens - 1, lost := false }).push 1 (record t.wch.lost)).count event t.locCx 1

theorem PowerKept.maskExit (ch n m reason : Nat) : PowerKept l r (t.maskExit ch n m reason) :=
  (((h.wr (by decide) _ _).onChan ch _).sendRecord _ _).onMaskRun ch n _

theorem PowerKept.clearMasks (ch m reason : Nat) : PowerKept l r (t.clearMasks ch m reason) :=
  h.forEach (fun _ _ hu => (hu.maskExit _ _ _ _).ite (hu.onMaskRun _ _ _)) _

theorem PowerKept.wchSync : PowerKept l r t.wchSync :=
  h.forEach (fun _ _ hu => ((hu.wr (by decide) _ _).clearMasks _ _ _).ite hu) _

theorem PowerKept.occupancy (ch sub m : Nat) (x : Cell) : PowerKept l r (t.occupancy ch sub m x) := by
  have hsent (b : Bool) (f : Bool → List LWord) : PowerKept l r (if b then t.sendRecord 0x170 f else (true, t)).2 := by
    split
    · exact h.sendRecord _ _
    · exact h
  exact ((hsent _ _).propose _).ite (hsent _ _)

theorem PowerKept.maskEnter (ch n m : Nat) : PowerKept l r (t.maskEnter ch n m) := by
  have hsent := fun f => ((((h.wr (f := F.WCH_MASK_ACTIVE_VIOL) (by decide) ch (t.rd F.WCH_MASK_ACTIVE_VIOL ch ||| 2 ^ n)).flag
    (a := F.WCH_EVT_STAT) (by decide) 1).onChan ch
      fun c => { c with masks := (n, 8192 * (m + 2), none) :: c.masks }).sendRecord 0x171 f)
  exact ((hsent _).propose _).ite (hsent _)

theorem PowerKept.maskTest (x : FrameRec) (n : Nat) : PowerKept l r (t.maskTest x n) := by
  have hrun := h.onMaskRun x.ch n
  unfold State.maskTest
  dsimp only
  refine PowerKept.ite (((hrun _).maskExit _ _ _ _).ite (hrun _)) (((hrun _).maskEnter _ _ _).ite (hrun _))

theorem PowerKept.maskFrame (x : FrameRec) : PowerKept l r (t.maskFrame x) :=
  h.ite (h.forEach (fun _ _ hu => (hu.maskTest _ _).ite hu) _)

theorem PowerKept.prime (ch : Nat) : PowerKept l r (t.prime ch) := (h.wr (by decide) _ _).onWchan ch _

theorem PowerKept.cellFrame (x : FrameRec) : PowerKept l r (t.cellFrame x) := by
  unfold State.cellFrame
  refine h.ite ?_
  refine PowerKept.unless (PowerKept.onWchan (PowerKept.when h fun k => k.prime _) _ _) fun hframe => ?_
  refine (hframe.mapCells _ _).ite (PowerKept.onWchan (PowerKept.when (PowerKept.unless ?_ fun k =>
    (k.wrB (by decide) _ _).wr (by decide) _ _) fun k => k.wr (by decide) _ _) _ _)
  exact (hframe.mapCells _ _).forEach (fun _ _ hu => hu.occupancy _ _ _ _) _

theorem PowerKept.frameRecords (m : Nat) : PowerKept l r (t.frameRecords m) := by
  refine PowerKept.forEach (PowerKept.forEach (PowerKept.quiet ?_ fun k => State.feedTokens_kept _ _ k rfl) (fun _ _ hu => hu.maskFrame _) _)
    (fun _ _ hu => hu.cellFrame _) _
  exact h.quiet fun k => mk_kept (K := 131072) k rfl rfl rfl rfl rfl rfl rfl rfl

theorem PowerKept.showSwaps : PowerKept l r t.showSwaps := h.wrB (by decide) _ _

theorem PowerKept.maskSwapNow (n : Nat) : PowerKept l r (t.maskSwapNow n) := by
  have hshown : PowerKept l r ((t.onWch fun w => { w with maskAt := none }).showSwaps) := (h.onWch _).showSwaps
  unfold State.maskSwapNow
  refine PowerKept.ite (PowerKept.wr ?_ (by decide) _ _) (hshown.report _ _ _)
  exact ((hshown.forEach (fun _ _ hu => hu.clearMasks _ _ _) _).swapBanks (by decide)).swapBanks (by decide)

theorem PowerKept.segSwapNow : PowerKept l r t.segSwapNow := by
  have hshown : PowerKept l r ((t.onWch fun w => { w with segAt := none }).showSwaps) := (h.onWch _).showSwaps
  unfold State.segSwapNow
  dsimp only
  split
  · exact hshown.report _ _ _
  · exact (hshown.swapBanks (by decide)).wr (by decide) _ _

theorem PowerKept.swapsBefore (m : Nat) : PowerKept l r (t.swapsBefore m) := by
  unfold State.swapsBefore
  have hseg : PowerKept l r (match t.wch.segAt with | some n => if n ≤ 8192 * m + 8191 then t.segSwapNow else t | none => t) := by
    split
    · exact h.when fun k => k.segSwapNow
    · exact h
  dsimp only
  split
  · exact hseg.when fun k => k.maskSwapNow _
  · exact hseg

theorem PowerKept.doFrameRecord : PowerKept l r t.doFrameRecord := by
  unfold State.doFrameRecord
  split
  · exact h
  · exact (h.swapsBefore _).frameRecords _

theorem PowerKept.drainBefore (n fuel : Nat) : PowerKept l r (t.drainBefore n fuel) := by
  induction fuel generalizing t with
  | zero => exact h
  | succ fuel ih =>
    unfold State.drainBefore
    split
    · exact h
    · exact h.when fun k => ih k.doFrameRecord

/-! ### Feeds, streams and regions -/

theorem PowerKept.enterFeed (a new detail : Nat) : PowerKept l r (t.enterFeed a new detail) := by
  refine h.unless fun k => ?_
  have hcleared := (k.wr (f := F.AFE_FEED_STAT_STATE) (by decide) a new).quiet fun k =>
    State.feedCleared_kept _ a (t.feedState a) new k rfl
  have htold (b c : Nat) := (hcleared.flag (a := F.AFE_FEED_EVT) (by decide) b).report c
  exact (htold 0 0x4501 _ _).ite ((htold 1 0x4502 _ _).ite ((htold 2 0x4503 _ _).ite hcleared))

theorem PowerKept.onFeeds (f : Feeds → Feeds) : PowerKept l r (t.onFeeds f) := h.quiet fun k => State.onFeeds_kept _ _ k rfl

theorem PowerKept.shedFeeds (reg : Nat) (off : Bool) : PowerKept l r (t.shedFeeds reg off) := by
  refine (h.onFeeds _).forEach (fun u a hu => ?_) _
  refine PowerKept.ite (PowerKept.when ?_ fun k => k.enterFeed _ _ _) (hu.when fun k => k.quiet fun k => State.feedSwitchOn_kept _ _ _ k rfl)
  exact (hu.quiet fun k => State.dropPulse_kept _ _ _ k rfl).quiet fun k => State.onFeed_kept _ _ _ k rfl

theorem PowerKept.onRegion (reg : Nat) (f : Region → Region) : PowerKept l r (t.onRegion reg f) := h.quiet fun k => State.onRegion_kept _ _ _ k rfl

theorem PowerKept.unshedRegion (reg : Nat) : PowerKept l r (t.unshedRegion reg) := (h.onRegion _ _).shedFeeds _ _

theorem PowerKept.stopRegion (reg result n : Nat) : PowerKept l r (t.stopRegion reg result n) :=
  ((((h.stopRehearsal _ _ _).forEach (fun _ _ hu => hu.dropInjects _ _ _ _) _).drainBefore _ _).forEach
    (fun _ _ hu => hu.endChan _ _) _).wchSync

theorem PowerKept.shedRegion (reg : Nat) : PowerKept l r (t.shedRegion reg) :=
  ((h.when fun k => k.stopRegion _ _ _).onRegion _ _).shedFeeds _ _

theorem PowerKept.stopPlane : PowerKept l r t.stopPlane :=
  h.when fun k => ((k.endAll _).quiet fun k => State.onPlane_kept _ _ k rfl).wchSync

theorem PowerKept.chnSync : PowerKept l r t.chnSync := by
  refine PowerKept.wchSync ?_
  exact h.quiet fun k => mk_kept (K := 131072) k rfl rfl rfl rfl rfl rfl rfl rfl

theorem PowerKept.beginPacket (ch n len : Nat) : PowerKept l r (t.beginPacket ch n len) :=
  h.unless fun k => (k.onQueue _ _).wr (by decide) _ _

theorem PowerKept.beginFrom (ch n : Nat) : PowerKept l r (t.beginFrom ch n) := h.unless fun k => k.beginPacket _ _ _

theorem PowerKept.holdStream (b : Bool) : PowerKept l r (t.holdStream b) := by
  refine h.unless fun k => PowerKept.forEach (k.quiet fun k => mk_kept (K := 2048) k rfl rfl rfl rfl rfl rfl rfl rfl) (fun u ch hu => ?_) _
  exact ((hu.onChan ch _).onQueue _ _).ite ((hu.onChan ch _).beginFrom ch _)

end
end Sys2Proof.Machine
end

section
/-! SUPPORT. The same of lanes, the ring, codec jobs and the Prompter, and of every stage (R391, R393). -/

namespace Sys2Proof.Machine

section
variable {l : List Nat} {r t u : State} (h : PowerKept l r t)
include h

/-! ### Lanes -/

theorem PowerKept.onLane (n : Nat) (f : Lane → Lane) : PowerKept l r (t.onLane n f) := h.quiet fun k => State.onLane_kept _ _ _ k rfl

theorem PowerKept.setLaneState (n st : Nat) : PowerKept l r (t.setLaneState n st) := h.wr (by decide) _ _

theorem PowerKept.startAttempt (n : Nat) : PowerKept l r (t.startAttempt n) := by
  refine h.unless fun k => PowerKept.quiet (PowerKept.onLane (PowerKept.wr (PowerKept.wr ?_ (by decide) _ _) (by decide) _ _) _ _)
    fun k => State.train_kept _ _ k rfl
  exact ((k.quiet fun k => State.freeScr_kept _ k rfl).setLaneState _ _).wr (by decide) _ _

theorem PowerKept.unshedLanes (ns : List Nat) : PowerKept l r (t.unshedLanes ns) :=
  h.forEach (fun _ n hu => (hu.onLane n _).when fun k => k.startAttempt n) _

theorem PowerKept.restoreLanes (k : Nat) : PowerKept l r (t.restoreLanes k) := h.unshedLanes _

theorem PowerKept.dropRound (p : Nat) : PowerKept l r (t.dropRound p) :=
  h.when fun k => (k.quiet fun k => State.onTim_kept _ _ k rfl).satAdd (by decide) _ _

theorem PowerKept.dropHeld (p : Nat) : PowerKept l r (t.dropHeld p) :=
  (h.forEach (fun _ _ hu => hu.satAdd (by decide) _ _) _).quiet fun k => mk_kept (K := 128) k rfl rfl rfl rfl rfl rfl rfl rfl

theorem PowerKept.txDiscard (c : Nat) : PowerKept l r (t.txDiscard c) := h.satAdd (by decide) _ _

theorem PowerKept.putOnLane (n : Nat) (f : TxFrame) : PowerKept l r (t.putOnLane n f) :=
  (h.onLane n _).when fun k => (k.wr (by decide) _ _).onLane _ _

theorem PowerKept.assignFrame (p : Nat) (f : TxFrame) : PowerKept l r (t.assignFrame p f) := by
  unfold State.assignFrame
  refine (h.quiet fun k => State.putOnSlot_kept _ _ _ k rfl).ite (PowerKept.ite (h.txDiscard _) ?_)
  split
  · exact h.putOnLane _ _
  · exact h.txDiscard _

theorem PowerKept.rehome (p : Nat) (f : TxFrame) : PowerKept l r (t.rehome p f) :=
  (h.assignFrame _ _).ite (PowerKept.ite ((h.quiet fun k => State.moveRead_kept _ _ _ k rfl).assignFrame _ _) (h.txDiscard _))

theorem PowerKept.leaveUp (n st : Nat) (seen : Bool) : PowerKept l r (t.leaveUp n st seen) := by
  have hleft := (h.quiet fun k => State.laneRun_kept _ n k rfl).setLaneState n st
  have hdown : PowerKept l r (if seen then ((t.laneRun n).setLaneState n st).flag F.LNK_EVT 0 else (t.laneRun n).setLaneState n st) :=
    hleft.when fun k => k.flag (by decide) _
  unfold State.leaveUp
  refine PowerKept.when (PowerKept.when (PowerKept.unless (PowerKept.forEach ?_ (fun _ f hu => hu.rehome _ f) _) fun k => k.dropHeld _)
    fun k => k.dropRound _) fun k => k.report _ _ _
  exact ((hdown.onLane n _).wr (by decide) _ _).wr (by decide) _ _

theorem PowerKept.laneOff (n : Nat) : PowerKept l r (t.laneOff n) := (h.leaveUp _ _ _).ite ((h.setLaneState _ _).onLane _ _)

theorem PowerKept.retractLoss (n : Nat) : PowerKept l r (t.retractLoss n) := by
  unfold State.retractLoss
  split
  · exact h.unless fun k => PowerKept.ite ((k.wrB (by decide) _ _).wr (by decide) _ _) (k.wr (by decide) _ _)
  · exact h

theorem PowerKept.shedLanes (ns : List Nat) : PowerKept l r (t.shedLanes ns) :=
  h.forEach (fun _ n hu => ((hu.retractLoss n).onLane n _).laneOff n) _

/-! ### The ring -/

theorem PowerKept.onTrg (f : Trg → Trg) : PowerKept l r (t.onTrg f) := h.quiet fun k => State.onTrg_kept _ _ k rfl

theorem PowerKept.freeUpsets (bs : List ReadBlk) : PowerKept l r (t.freeUpsets bs).2 := h.quiet fun k => State.freeUpsets_kept _ _ k rfl

theorem PowerKept.runPort : PowerKept l r t.runPort := h.quiet fun k => State.runPort_kept _ k rfl

theorem PowerKept.verifyAll (mode : Nat) (bad : Upsets) (bs : List ReadBlk) : PowerKept l r (t.verifyAll mode bad bs) := by
  refine h.forEach (fun u b hu => PowerKept.report (PowerKept.quiet ?_ fun k => mk_kept (K := 512) k rfl rfl rfl rfl rfl rfl rfl rfl) _ _ _) _
  exact ((hu.satAdd (f := F.CDC_VERIFY_TOTAL_COUNT) (by decide) 0 1).flag (a := F.CDC_VERIFY) (by decide) 0).count
    (0x80 + b.ch) (u.locCxUnit b.ch) 1

theorem PowerKept.pushSegments (ch : Option Nat) (segs : List (List LWord)) : PowerKept l r (t.pushSegments ch segs) :=
  h.forEach (fun _ _ hu => hu.pushSteered _ _ _) _

theorem PowerKept.endSnippet (j : SnipJob) (size : Nat) (aborted : Bool) (bad : Upsets) : PowerKept l r (t.endSnippet j size aborted bad) :=
  PowerKept.unless (PowerKept.when (((h.verifyAll _ _ _).pushSegments _ _).pushSteered _ _ _) fun k => k.flag (by decide) _)
    fun k => k.count _ _ _

theorem PowerKept.endReadout (x : Readout) (size : Nat) (aborted : Bool) (bad : Upsets) : PowerKept l r (t.endReadout x size aborted bad) :=
  ((h.verifyAll _ _ _).pushSegments _ _).pushSteered _ _ _

theorem PowerKept.abortJobs : PowerKept l r t.abortJobs := by
  have hread := h.runPort.forEach (f := fun s x => (s.freeUpsets x.rd.got).2.endReadout x 16 true (s.freeUpsets x.rd.got).1)
    (fun _ _ hu => (hu.freeUpsets _).endReadout _ _ _ _) t.runPort.trg.readouts
  refine PowerKept.wr (PowerKept.wr (PowerKept.onTrg (PowerKept.forEach hread (fun u j hu => ?_) _) _) (by decide) _ _) (by decide) _ _
  exact PowerKept.endSnippet ((hu.freeUpsets j.rd.got).unless fun k => k.pushSteered _ _ _) _ _ _ _

theorem PowerKept.cueRecord (q : Cue) (disp : Nat) : PowerKept l r (t.cueRecord q disp) := by
  refine h.when fun k => ?_
  unfold State.pushCue
  dsimp only
  split
  · exact k.pushSteered _ _ _
  · exact k.push _ _

theorem PowerKept.closeCuesEarly : PowerKept l r t.closeCuesEarly := (h.forEach (fun _ _ hu => hu.cueRecord _ _) _).onTrg _

theorem PowerKept.mapChans (f : Chan → Chan) : PowerKept l r { t with chans := t.chans.map f } :=
  h.quiet fun k => k.size (K := 16384) rfl rfl rfl rfl rfl (by simp) rfl rfl rfl

theorem PowerKept.stopRing : PowerKept l r t.stopRing := by
  refine h.when fun k => ?_
  have hcut := (k.closeCuesEarly.abortJobs.quiet fun k => State.cutCodec_kept _ k rfl).wr (f := F.TRG_CTL_RING_STATE) (by decide) 0 ringArmed
  exact (hcut.onTrg _).mapChans _

/-! ### Codec jobs and the Prompter -/

theorem PowerKept.pushOutput (ring idx addr : Nat) (ws : List LWord) : PowerKept l r (t.pushOutput ring idx addr ws) :=
  (h.onPrm _).forEach (fun _ _ hu => hu.pushPkt _ _) _

theorem PowerKept.endJob (j : CJob) (x : CRun) (status : Nat) (token : LWord) : PowerKept l r (t.endJob j x status token) := by
  have herased : PowerKept l r { t with codec := t.codec.erase j } :=
    h.quiet fun k => mk_kept (K := 1048576) k rfl rfl rfl rfl rfl rfl rfl rfl
  have hshown : PowerKept l r ({ t with codec := t.codec.erase j }.wr F.CDC_JOB_STAT_LAST_STATUS 0 status).showCodec :=
    ((herased.wr (by decide) _ _).wrB (by decide) _ _).wr (by decide) _ _
  exact (hshown.unless fun k => k.pushOutput _ _ _ _).finishCmd _ _ _ _ _ _

theorem PowerKept.stopJob (j : CJob) (status : Nat) : PowerKept l r (t.stopJob j status) :=
  (((h.freeUpsets j.rd.got).verifyAll _ _ _).endJob _ _ _ _).ite (h.endJob _ _ _ _)

theorem PowerKept.prmShed : PowerKept l r t.prmShed := by
  have hstopped : PowerKept l r (t.stopJobs 2) := h.runPort.forEach (fun _ _ hu => hu.stopJob _ _) _
  refine PowerKept.quiet (PowerKept.wr (PowerKept.onPrm (hstopped.forEach (fun u c hu => ?_) _) _) (by decide) _ _)
    fun k => mk_kept (K := 128) k rfl rfl rfl rfl rfl rfl rfl rfl
  exact hu.unless fun k => (k.finishCmd _ _ _ _ _ _).ite (k.finishCmd _ _ _ _ _ _)

theorem PowerKept.prmUnshed : PowerKept l r t.prmUnshed := h.when fun k => k.wr (by decide) _ _

/-! ### The safety monitor -/

theorem PowerKept.onSaf (f : Saf → Saf) : PowerKept l r (t.onSaf f) := h.quiet fun k => State.onSaf_kept _ _ k rfl

theorem PowerKept.safPowerOff : PowerKept l r t.safPowerOff := by
  refine PowerKept.onSaf (h.when fun k => PowerKept.onSaf (PowerKept.wr ?_ (by decide) _ _) _) _
  exact (k.wr (by decide) _ _).wr (by decide) _ _

end
end Sys2Proof.Machine
end

section
/-! SUPPORT. What entering a stage and leaving it upward leaves alone (R391, R393, R394, R398). -/

namespace Sys2Proof.Machine

variable {l : List Nat} {r t : State}

theorem PowerKept.shedStep {k : Nat} (h : PowerKept l r (t.wr F.PWR_STAGE_STAGE 0 k)) : PowerKept l r (t.shedStep k) := by
  unfold State.shedStep
  dsimp only
  split
  · exact h.shedLanes _
  · exact h.chnSync
  · exact (h.holdStream true).forEach (fun _ _ hu => hu.shedRegion _) _
  · exact (h.shedRegion 0).stopRing.prmShed.shedLanes _
  · exact h

theorem PowerKept.unshedStep {k : Nat} (h : PowerKept l r (t.wr F.PWR_STAGE_STAGE 0 (k - 1))) : PowerKept l r (t.unshedStep k) := by
  unfold State.unshedStep
  dsimp only
  split
  · exact ((h.unshedRegion 0).when fun k => k.quiet fun k => State.startRing_kept _ _ k rfl).prmUnshed.restoreLanes _
  · exact ((h.forEach (fun _ _ hu => hu.unshedRegion _) _).holdStream false).restoreLanes _
  · exact h.chnSync.restoreLanes _
  · exact (h.restoreLanes _).quiet fun k => mk_kept (K := 2097152) k rfl rfl rfl rfl rfl rfl rfl rfl
  · exact h

/-- The steps into the stages ks write PWR_STAGE alone of the block's registers. -/
theorem PowerKept.shedSteps (h : PowerKept l r t) (hl : F.PWR_STAGE ∈ l) (ks : List Nat) : PowerKept l r (t.forEach ks State.shedStep) :=
  h.forEach (fun _ _ hu => (hu.wrOf (f := F.PWR_STAGE_STAGE) (i := 0) hl _).shedStep) ks

theorem PowerKept.showStage (h : PowerKept l r t) (hl : F.PWR_STAGE ∈ l) : PowerKept l r t.showStage :=
  ((h.wrOf (f := F.PWR_STAGE_REQ_STAGE) (i := 0) hl _).wrOf (f := F.PWR_STAGE_CAUSE) (i := 0) hl _).wrOf
    (f := F.PWR_STAGE_RESTORING) (i := 0) hl _

theorem PowerKept.noteStage (h : PowerKept l r t) : PowerKept l r t.noteStage := h.quiet fun k => State.noteStage_kept _ k rfl

/-- The last of several steps leaves its stage. -/
theorem State.Sound.stage_shedStep (hs : t.Sound) {k : Nat} (hk : k < 8) : (t.shedStep k).stage = k := by
  have hwr : (t.wr F.PWR_STAGE_STAGE 0 k).Sound := (State.wr_kept t F.PWR_STAGE_STAGE 0 k (hs.kept 4) rfl).sound
  rw [State.stage, (PowerKept.refl hwr []).shedStep.rd (by decide) List.not_mem_nil, State.rd_wr hs.regs _ _ _ (by decide)]
  exact Nat.mod_eq_of_lt hk

theorem State.Sound.stage_showStage (hs : t.Sound) : t.showStage.stage = t.stage := by
  have hreq := State.wf_wr hs.regs F.PWR_STAGE_REQ_STAGE 0 t.reqStage
  have hcause := fun v => State.wf_wr hreq F.PWR_STAGE_CAUSE 0 v
  simp only [State.stage, State.showStage, State.wrB]
  rw [State.rd_wr_ne (hcause _) _ _ _ _ _ (.inr (by decide)), State.rd_wr_ne hreq _ _ _ _ _ (.inr (by decide)),
    State.rd_wr_ne hs.regs _ _ _ _ _ (.inr (by decide))]

/-- S5 is entered with the stage shown and noted (R393), -/
def State.stageFive (s : State) : State :=
  ((((s.forEach ((List.range (4 - s.stage)).map fun i => s.stage + 1 + i) State.shedStep).wr F.PWR_STAGE_STAGE 0 5).flag F.PWR_EVT
    0).noteStage).showStage

/-- the data plane, the feeds, the curtains and the sensors stop (R398, steps 1 and 2), -/
def State.sourcesOff (s : State) : State :=
  ((((s.stopPlane.stopRing).forEach [0, 1, 2, 3] fun s r => s.shedFeeds r true).safPowerOff).stopSensors).abandonWrites

/-- and the notice goes out and the commit begins (step 3). -/
def State.powerCommit (s : State) : State :=
  let s := if s.moduleId ≠ 0 ∧ s.plane.cxOn then s.sendNotice else s
  s.requestCommit commitPower

theorem State.enterS5_eq {s : State} (h : s.stage ≠ 5) :
    s.enterS5 = (s.stageFive.sourcesOff.onPwr fun p => { p with stop := 1, vinHigh := none }).powerCommit := if_neg h

theorem PowerKept.abandonWrites (h : PowerKept l r t) : PowerKept l r t.abandonWrites := by
  have hadc : PowerKept l r (t.onAdc fun a => { a with saving := none }) := h.quiet fun k => State.onAdc_kept _ _ k rfl
  unfold State.abandonWrites
  exact (hadc.wr (f := F.ADC_REH_STAT_SAVE_BUSY) (by decide) 0 0).onSaf _

theorem PowerKept.sourcesOff (h : PowerKept l r t) : PowerKept l r t.sourcesOff :=
  ((h.stopPlane.stopRing.forEach (fun _ _ hu => hu.shedFeeds _ _) _).safPowerOff.quiet fun k =>
    State.stopSensors_kept _ k rfl).abandonWrites

theorem PowerKept.sendNotice (h : PowerKept l r t) : PowerKept l r t.sendNotice := by
  unfold State.sendNotice
  exact (h.push _ _).quiet fun k => State.onPwr_kept _ _ k rfl

theorem PowerKept.powerCommit (h : PowerKept l r t) (hl : F.PWR_PB_STAT ∈ l) : PowerKept l r t.powerCommit := by
  have hask : PowerKept l r ((if t.moduleId ≠ 0 ∧ t.plane.cxOn then t.sendNotice else t).onBook fun b =>
      { b with waiting := if commitPower = commitPower then commitPower :: b.waiting else b.waiting ++ [commitPower] }) :=
    (h.when fun k => k.sendNotice).quiet fun k => State.onBook_kept _ _ k rfl
  unfold State.powerCommit State.requestCommit State.startCommit
  dsimp only
  split
  · exact (hask.wrOf (f := F.PWR_PB_STAT_BUSY) (i := 0) hl 1).quiet fun k => State.onBook_kept _ _ k rfl
  · exact hask

section
variable {s : State} (hs : s.Sound)
include hs

theorem State.Sound.stageFive_kept : Kept 37744590 s s.stageFive := by
  unfold State.stageFive
  refine State.showStage_kept _ (State.noteStage_kept _ (State.flag_kept _ _ _ (State.wr_kept _ _ _ _ (State.forEach_kept
    (hs.kept _) fun u k hu => State.shedStep_kept u k hu rfl) rfl) rfl) rfl) rfl

theorem State.Sound.stageFive_held : PowerKept [F.PWR_STAGE, F.PWR_EVT] s s.stageFive := by
  have hsteps : PowerKept [F.PWR_STAGE, F.PWR_EVT] s
      (s.forEach ((List.range (4 - s.stage)).map fun i => s.stage + 1 + i) State.shedStep) :=
    (PowerKept.refl hs _).shedSteps (by decide) _
  have hfive := hsteps.wrOf (f := F.PWR_STAGE_STAGE) (i := 0) (by decide) 5
  exact (hfive.flagOf (a := F.PWR_EVT) (by decide) 0).noteStage.showStage (by decide)

theorem State.Sound.stageFive_stage : s.stageFive.stage = 5 := by
  have hsteps := (State.forEach_kept (hs.kept 4190158) (l := (List.range (4 - s.stage)).map fun i => s.stage + 1 + i)
    fun u k hu => State.shedStep_kept u k hu rfl).sound
  have hfive := (State.wr_kept _ F.PWR_STAGE_STAGE 0 5 (hsteps.kept 4) rfl).sound
  have hflag := (State.flag_kept _ F.PWR_EVT 0 (hfive.kept 4) rfl).sound
  rw [State.stageFive, (State.noteStage_kept _ (hflag.kept 33554432) rfl).sound.stage_showStage]
  refine (State.rd_of_regGet (State.sameRegs_regPut hfive.regs F.PWR_EVT _ F.PWR_STAGE (by decide))).trans ?_
  exact State.rd_wr hsteps.regs _ _ _ (by decide)

/-- The entry of the stage is noted at this tick. -/
theorem State.Sound.stageFive_pwr : s.stageFive.pwr.entry = s.clk.tick ∧ s.stageFive.pwr.failed = s.pwr.failed := by
  have hsteps := State.forEach_kept (hs.kept 4190158) (l := (List.range (4 - s.stage)).map fun i => s.stage + 1 + i)
    fun u k hu => State.shedStep_kept u k hu rfl
  rw [State.stageFive]
  generalize s.forEach _ State.shedStep = u at hsteps
  have hclk : u.clk.tick = s.clk.tick := congrArg Clk.tick (hsteps.clk rfl)
  have hfailed : u.pwr.failed = s.pwr.failed := congrArg Pwr.failed (hsteps.pwr rfl)
  exact ⟨hclk, hfailed⟩

theorem State.Sound.plane_stopPlane : s.stopPlane.plane = { s.plane with ingest := false } := by
  unfold State.stopPlane
  split
  case isTrue =>
    have hend := State.endAll_kept s s.clk.count (hs.kept 2180998) rfl
    have hstop := State.onPlane_kept _ (fun p => { p with ingest := false }) (hend.sound.kept 4096) rfl
    rw [(State.wchSync_kept _ (hstop.sound.kept 279366) rfl).plane rfl, State.onPlane, hend.plane rfl]
  case isFalse h => rw [← Bool.eq_false_of_not_eq_true h]

theorem State.Sound.sourcesOff_kept : Kept 14271302 s.stopPlane s.sourcesOff :=
  have hplane := (State.stopPlane_kept s (hs.kept 2447302) rfl).sound
  State.abandonWrites_kept _ (State.stopSensors_kept _ (State.safPowerOff_kept _ (State.forEach_kept (State.stopRing_kept _
    (hplane.kept _) rfl) fun u r hu => State.shedFeeds_kept u r true hu rfl) rfl) rfl) rfl

/-- The notice and the commit leave the stage's entry and the stop as they are. -/
theorem State.Sound.powerCommit_parts : s.powerCommit.pwr.entry = s.pwr.entry ∧ s.powerCommit.pwr.failed = s.pwr.failed ∧
    s.powerCommit.pwr.stop = s.pwr.stop ∧ s.powerCommit.plane = s.plane := by
  have hnotice : ∀ u : State, u = (if s.moduleId ≠ 0 ∧ s.plane.cxOn then s.sendNotice else s) → u.Sound ∧ u.pwr.entry = s.pwr.entry ∧
      u.pwr.failed = s.pwr.failed ∧ u.pwr.stop = s.pwr.stop ∧ u.plane = s.plane := by
    rintro u rfl
    split
    · have hsent := State.sendNotice_kept s (hs.kept 33555270) rfl
      have hpush (ws : List LWord) : (s.push 0 ws).pwr = s.pwr := (State.push_kept s 0 ws (hs.kept 838) rfl).pwr rfl
      refine ⟨hsent.sound, ?_, ?_, ?_, hsent.plane rfl⟩ <;> simp only [State.sendNotice, State.onPwr, hpush]
    · exact ⟨hs, rfl, rfl, rfl, rfl⟩
  obtain ⟨hsound, hentry, hfailed, hstop, hplane⟩ := hnotice _ rfl
  have hcommit := State.requestCommit_kept _ commitPower (hsound.kept 16777220) rfl
  have hpwr := hcommit.pwr rfl
  exact ⟨(congrArg Pwr.entry hpwr).trans hentry, (congrArg Pwr.failed hpwr).trans hfailed, (congrArg Pwr.stop hpwr).trans hstop,
    (hcommit.plane rfl).trans hplane⟩

/-- What is so once S5 is entered (R393, R398). -/
theorem State.Sound.enterS5_outcome (hstage : s.stage ≠ 5) :
    PowerKept [F.PWR_STAGE, F.PWR_EVT, F.PWR_PB_STAT] s s.enterS5 ∧ s.enterS5.stage = 5 ∧ s.enterS5.pwr.entry = s.clk.tick ∧
      s.enterS5.pwr.failed = s.pwr.failed ∧ s.enterS5.pwr.stop = 1 ∧ s.enterS5.plane = { s.plane with ingest := false } := by
  have hfive := hs.stageFive_kept
  obtain ⟨hentry, hfailed⟩ := hs.stageFive_pwr
  have hoffKept := hfive.sound.sourcesOff_kept
  have hstopKept := State.stopPlane_kept _ (hfive.sound.kept 2447302) rfl
  have hpwr : s.stageFive.sourcesOff.pwr = s.stageFive.pwr := (hoffKept.pwr rfl).trans (hstopKept.pwr rfl)
  have hplane : s.stageFive.sourcesOff.plane = { s.plane with ingest := false } := by
    rw [hoffKept.plane rfl, hfive.sound.plane_stopPlane, hfive.plane rfl]
  have hdown : PowerKept [F.PWR_PB_STAT] s.stageFive (s.stageFive.sourcesOff.onPwr fun p => { p with stop := 1, vinHigh := none }) :=
    (PowerKept.refl hfive.sound _).sourcesOff.quiet fun k => State.onPwr_kept _ _ k rfl
  have hcommit := hdown.powerCommit (by decide)
  rw [State.enterS5_eq hstage]
  obtain ⟨he, hf, hst, hp⟩ := hdown.sound.powerCommit_parts
  refine ⟨(hs.stageFive_held.mono (by decide)).trans (hcommit.mono (by decide)), ?_, he.trans ?_, hf.trans ?_, hst, hp.trans hplane⟩
  · exact (hcommit.rd (by decide) (by decide)).trans hs.stageFive_stage
  · exact (congrArg Pwr.entry hpwr).trans hentry
  · exact (congrArg Pwr.failed hpwr).trans hfailed

end

end Sys2Proof.Machine
end

section
/-! SUPPORT. The VIN monitor's samples and the over-voltage they open (R388, R390, R391). -/

namespace Sys2Proof.Machine

/-- The VIN registers after a run of samples (R404). -/
def State.vinShown (s : State) (r : VinRun) : State :=
  ((s.wr F.PWR_VIN_VIN_10MV 0 r.filtered).wr F.PWR_VIN_MIN_10MV 0 r.least).wr F.PWR_STAGE_VIN_STAGE 0 (if r.lost then 5 else r.stage)

theorem State.takeVin_eq (s : State) (vins : List Nat) : s.takeVin vins =
    (if (s.vinRun vins).lost && ((s.vinShown (s.vinRun vins)).noteOverVoltage (s.vinRun vins)).pwr.stop == 0 then
      ((s.vinShown (s.vinRun vins)).noteOverVoltage (s.vinRun vins)).enterS5
    else (s.vinShown (s.vinRun vins)).noteOverVoltage (s.vinRun vins)) := rfl

section
variable {s : State} (hs : s.Sound) (r : VinRun)
include hs

theorem State.Sound.vinShown_kept : Kept 4 s (s.vinShown r) :=
  State.wr_kept _ _ _ _ (State.wr_kept _ _ _ _ (State.wr_kept _ _ _ _ (hs.kept 4) rfl) rfl) rfl

theorem State.Sound.vinShown_regs : s.sameRegs (s.vinShown r) [F.PWR_VIN, F.PWR_STAGE] := by
  have hvin := State.wf_wr hs.regs F.PWR_VIN_VIN_10MV 0 r.filtered
  have hmin := State.wf_wr hvin F.PWR_VIN_MIN_10MV 0 r.least
  have hstep {u v : State} {f : Fld} {n : Nat} (hu : tableWf coldWord u.regs = true) (e : v = u.wr f 0 n)
      (hf : f.addr 0 ∈ [F.PWR_VIN, F.PWR_STAGE]) : u.sameRegs v [F.PWR_VIN, F.PWR_STAGE] := fun b hb =>
    e ▸ State.sameRegs_wr hu f 0 n b fun hm => hb (List.mem_singleton.1 hm ▸ hf)
  exact ((hstep hs.regs rfl (by decide)).trans (hstep hvin rfl (by decide))).trans (hstep hmin rfl (by decide))

/-- What the monitor shows of a run. -/
theorem State.Sound.vinShown_values : (s.vinShown r).rd F.PWR_VIN_VIN_10MV = r.filtered % 2 ^ 14 ∧
    (s.vinShown r).rd F.PWR_VIN_MIN_10MV = r.least % 2 ^ 14 ∧
    (s.vinShown r).rd F.PWR_STAGE_VIN_STAGE = (if r.lost then 5 else r.stage) % 8 ∧ (s.vinShown r).stage = s.stage := by
  have hvin := State.wf_wr hs.regs F.PWR_VIN_VIN_10MV 0 r.filtered
  have hmin := State.wf_wr hvin F.PWR_VIN_MIN_10MV 0 r.least
  refine ⟨?_, ?_, State.rd_wr hmin _ _ _ (by decide), ?_⟩
  · rw [State.vinShown, State.rd_wr_ne hmin _ _ _ _ _ (.inl (by decide)), State.rd_wr_ne hvin _ _ _ _ _ (.inr (by decide)),
      State.rd_wr hs.regs _ _ _ (by decide)]
  · rw [State.vinShown, State.rd_wr_ne hmin _ _ _ _ _ (.inl (by decide)), State.rd_wr hvin _ _ _ (by decide)]
  · rw [State.stage, State.vinShown, State.rd_wr_ne hmin _ _ _ _ _ (.inr (by decide)), State.rd_wr_ne hvin _ _ _ _ _ (.inl (by decide)),
      State.rd_wr_ne hs.regs _ _ _ _ _ (.inl (by decide)), State.stage]

end

/-- A run that opens no over-voltage and ends none changes the monitor's own state alone. -/
theorem State.noteOverVoltage_quiet {s : State} {r : VinRun} (hopened : r.opened = none) (h : r.above = true ∨ s.pwr.overVin = false) :
    s.noteOverVoltage r = s.onPwr fun p => { p with vins := r.recent, overRun := r.run, overVin := r.above } := by
  rcases h with h | h <;> simp [State.noteOverVoltage, hopened, h]

/-- The monitor's own state after a run. -/
def State.overKept (s : State) (r : VinRun) : State := s.onPwr fun p => { p with vins := r.recent, overRun := r.run, overVin := r.above }

section
variable {s : State} (hs : s.Sound) (r : VinRun)
include hs

theorem State.Sound.overKept_sound : (s.overKept r).Sound := (State.onPwr_kept s _ (hs.kept 33554432) rfl).sound

/-- What the over-voltage that sets in adds to the monitor's own state. -/
theorem State.Sound.noteOverVoltage_opened {f : Nat} (hopened : r.opened = some f) :
    MainKept 16777734 [] ((s.overKept r).flag F.PWR_EVT 1) (s.noteOverVoltage r) := by
  have hflag := (State.flag_kept _ F.PWR_EVT 1 ((hs.overKept_sound r).kept 4) rfl).sound
  have htold : MainKept 16777734 [] ((s.overKept r).flag F.PWR_EVT 1)
      (((s.overKept r).flag F.PWR_EVT 1).report 0x4302 (s.overKept r).locKeeper f).keepSurge := by
    refine ((MainKept.refl hflag 16777734 []).report rfl 0x4302 (s.overKept r).locKeeper f).of_regs
      (State.keepSurge_kept _ ((State.report_kept _ _ _ _ (hflag.kept _) rfl)) rfl) ?_
    unfold State.keepSurge
    split <;> rfl
  simp only [State.noteOverVoltage, hopened]
  split
  · exact htold
  · exact htold.of_regs (State.conditionOver_kept _ _ _ htold.kept rfl) rfl

theorem State.Sound.noteOverVoltage_unopened (hopened : r.opened = none) :
    MainKept 16777734 [] (s.overKept r) (s.noteOverVoltage r) := by
  have hown := MainKept.refl (hs.overKept_sound r) 16777734 []
  simp only [State.noteOverVoltage, hopened]
  split
  · exact hown
  · exact hown.of_regs (State.conditionOver_kept _ _ _ hown.kept rfl) rfl

/-- The registers that a run's over-voltage changes, and the monitor's own state after it. -/
theorem State.Sound.noteOverVoltage_main : MainKept 50332166 [F.PWR_EVT] s (s.noteOverVoltage r) ∧
    (s.noteOverVoltage r).pwr = (s.overKept r).pwr := by
  have hown : MainKept 50332166 [F.PWR_EVT] s (s.overKept r) :=
    (MainKept.refl hs _ _).of_regs (State.onPwr_kept s _ (hs.kept _) rfl) rfl
  cases hopened : r.opened with
  | none =>
    have h := hs.noteOverVoltage_unopened r hopened
    exact ⟨hown.trans (h.mono rfl (by simp)), h.kept.pwr rfl⟩
  | some f =>
    have h := hs.noteOverVoltage_opened r hopened
    exact ⟨(hown.flag rfl (.inl (by simp)) 1).trans (h.mono rfl (by simp)), h.kept.pwr rfl⟩

/-- One that sets in is flagged. -/
theorem State.Sound.noteOverVoltage_flagged (hopened : r.opened ≠ none) : ((s.noteOverVoltage r).regGet F.PWR_EVT).getLsbD 1 = true := by
  obtain ⟨f, hf⟩ := Option.ne_none_iff_exists'.1 hopened
  rw [(hs.noteOverVoltage_opened r hf).main F.PWR_EVT (by decide) (by decide) List.not_mem_nil,
    (hs.overKept_sound r).regGet_flag, if_pos rfl]
  exact flagWord_flag _ (by decide)

end
end Sys2Proof.Machine
end

section
/-! SUPPORT. The stage in force (R392) and what takes it. -/

namespace Sys2Proof.Machine

variable {m : Nat} {l : List Nat} {r t : State}

theorem MainKept.sensorStage (h : MainKept m l r t) (hl : ∀ b ∈ l, b < 0x20000) : t.sensorStage = r.sensorStage := by
  have hstate : t.rd F.SNS_SW_STAT_STATE = r.rd F.SNS_SW_STAT_STATE :=
    State.rd_of_regGet (h.main _ (.inr (by decide)) (by decide) fun hm => absurd (hl _ hm) (by decide))
  have hcfg {lo w : Nat} {j : Nat} (hj : j < 32) : t.rd ⟨F.SNS_SW_CFG, 16, lo, w⟩ j = r.rd ⟨F.SNS_SW_CFG, 16, lo, w⟩ j := by
    have haddr : (⟨F.SNS_SW_CFG, 16, lo, w⟩ : Fld).addr j = 0x340200 + 16 * j := rfl
    refine State.rd_of_regGet (h.main _ (.inr ?_) ?_ fun hm => ?_)
    · omega
    · omega
    · have := hl _ hm
      omega
  have hfilter : ((List.range 32).filter fun j => t.switchOn j && t.rd F.SNS_SW_CFG_ACTION j == 2) =
      (List.range 32).filter fun j => r.switchOn j && r.rd F.SNS_SW_CFG_ACTION j == 2 :=
    List.filter_congr fun j hj => by
      have haction : t.rd F.SNS_SW_CFG_ACTION j = r.rd F.SNS_SW_CFG_ACTION j := hcfg (List.mem_range.1 hj)
      rw [State.switchOn, State.switchOn, hstate, haction]
  rw [State.sensorStage, State.sensorStage, hfilter]
  refine congrArg (List.foldl max 0) (List.map_congr_left fun j hj => ?_)
  exact hcfg (List.mem_range.1 (List.mem_filter.1 hj).1)

/-- The requests (R392) are read from registers outside QUE, FAU and PMC, the dies that are hot, and keeper power-fail. -/
theorem MainKept.reqStage (h : MainKept m l r t) (hforce : F.PWR_FORCE ∉ l) (hl : ∀ b ∈ l, b < 0x20000)
    (hot : t.plane.hot = r.plane.hot) (hfailed : t.pwr.failed = r.pwr.failed) : t.reqStage = r.reqStage := by
  have hstage : t.rd F.PWR_FORCE_STAGE = r.rd F.PWR_FORCE_STAGE := h.rd (f := F.PWR_FORCE_STAGE) (by decide) hforce
  rw [State.reqStage, State.reqStage, State.requests, State.requests, State.keeperHot, State.keeperHot, hstage, h.sensorStage hl, hot, hfailed]

/-! ### VIN taken (R388, R390) -/

/-- The module once it has taken a run of samples, before S5. -/
def State.vinTaken (s : State) (x : VinRun) : State := (s.vinShown x).noteOverVoltage x

section
variable {s : State} (hs : s.Sound) (x : VinRun)
include hs

theorem State.Sound.vinTaken_main : MainKept 50332166 [F.PWR_VIN, F.PWR_STAGE, F.PWR_EVT] s (s.vinTaken x) := by
  have hshown : MainKept 50332166 [F.PWR_VIN, F.PWR_STAGE, F.PWR_EVT] s (s.vinShown x) :=
    ⟨(hs.vinShown_kept x).mono rfl, fun b _ _ hb => hs.vinShown_regs x b fun hm => hb (by simp at hm ⊢; tauto)⟩
  exact hshown.trans ((hshown.kept.sound.noteOverVoltage_main x).1.mono rfl (by simp))

theorem State.Sound.vinTaken_pwr : (s.vinTaken x).pwr = { s.pwr with vins := x.recent, overRun := x.run, overVin := x.above } := by
  rw [State.vinTaken, ((hs.vinShown_kept x).sound.noteOverVoltage_main x).2, State.overKept, State.onPwr, (hs.vinShown_kept x).pwr rfl]

theorem State.Sound.vinTaken_values : (s.vinTaken x).rd F.PWR_VIN_VIN_10MV = x.filtered % 2 ^ 14 ∧
    (s.vinTaken x).rd F.PWR_VIN_MIN_10MV = x.least % 2 ^ 14 ∧
    (s.vinTaken x).rd F.PWR_STAGE_VIN_STAGE = (if x.lost then 5 else x.stage) % 8 ∧ (s.vinTaken x).stage = s.stage := by
  obtain ⟨hvin, hleast, hst, hstage⟩ := hs.vinShown_values x
  have h := ((hs.vinShown_kept x).sound.noteOverVoltage_main x).1
  exact ⟨(h.rd (by decide) (by decide)).trans hvin, (h.rd (by decide) (by decide)).trans hleast,
    (h.rd (by decide) (by decide)).trans hst, (h.rd (f := F.PWR_STAGE_STAGE) (by decide) (by decide)).trans hstage⟩

theorem State.Sound.vinTaken_reqStage : (s.vinTaken x).reqStage = s.reqStage :=
  (hs.vinTaken_main x).reqStage (by decide) (by decide) (congrArg Plane.hot ((hs.vinTaken_main x).kept.plane rfl))
    (by rw [hs.vinTaken_pwr x])

end

theorem State.takeVin_lost {s : State} {vins : List Nat} (hs : s.Sound) (hlost : (s.vinRun vins).lost = true) (hstop : s.pwr.stop = 0) :
    s.takeVin vins = (s.vinTaken (s.vinRun vins)).enterS5 := by
  rw [State.takeVin_eq, if_pos]
  · rfl
  · have h := hs.vinTaken_pwr (s.vinRun vins)
    rw [State.vinTaken] at h
    simp [hlost, h, hstop]

theorem State.takeVin_held {s : State} {vins : List Nat} (hlost : (s.vinRun vins).lost = false) :
    s.takeVin vins = s.vinTaken (s.vinRun vins) := by
  rw [State.takeVin_eq, if_neg (by simp [hlost])]
  rfl

/-- Lost VIN or another demand for S5 enters it (R393, R398). -/
theorem State.doOrderlyStop_enters {s : State} {vins : List Nat} {x : VinRun} (hs : s.Sound) (hx : x = s.vinRun vins)
    (hstop : s.pwr.stop = 0) (h : x.lost = true ∨ (s.reqStage = 5 ∧ x.stage ≤ 5)) (hstage : s.stage < 5) :
    s.doOrderlyStop vins = (s.vinTaken x).enterS5 := by
  subst hx
  have hpwr := hs.vinTaken_pwr (s.vinRun vins)
  obtain ⟨-, -, hvin, hst⟩ := hs.vinTaken_values (s.vinRun vins)
  rw [State.doOrderlyStop, if_pos hstop]
  by_cases hlost : (s.vinRun vins).lost = true
  · have hne : (s.vinTaken (s.vinRun vins)).stage ≠ 5 := by omega
    obtain ⟨-, -, -, -, hfive, -⟩ := (hs.vinTaken_main _).kept.sound.enterS5_outcome hne
    rw [State.takeVin_lost hs hlost hstop]
    exact if_neg fun hc => by omega
  · obtain ⟨hreq, hle⟩ := h.resolve_left hlost
    have hheld := Bool.eq_false_of_not_eq_true hlost
    have hforce : (s.vinTaken (s.vinRun vins)).inForce = 5 := by
      rw [State.inForce, hs.vinTaken_reqStage, hreq, hvin, hheld]
      simp only [Bool.false_eq_true, if_false]
      omega
    rw [State.takeVin_held hheld]
    exact if_pos ⟨by rw [hpwr]; exact hstop, hforce⟩

end Sys2Proof.Machine
end

section
/-! SUPPORT. The ends of supply (R389, R390, R398). -/

namespace Sys2Proof.Machine

theorem State.region_onRegion_self {s : State} {reg : Nat} (h : reg < s.regions.length) (f : Region → Region) :
    (s.onRegion reg f).region reg = f (s.region reg) := by
  simp [State.region, List.getD_eq_getElem?_getD, h]

theorem State.region_onRegion_other {s : State} {reg q : Nat} (h : q ≠ reg) (f : Region → Region) :
    (s.onRegion reg f).region q = s.region q := by
  simp [State.region, List.getD_eq_getElem?_getD, h.symm]

section
variable {s : State} (hs : s.Sound)
include hs

theorem State.Sound.doPowerFail_outcome (hstage : s.stage < 5) :
    s.doPowerFail.stage = 5 ∧ s.doPowerFail.pwr.failed = true ∧ s.doPowerFail.pwr.stop = 1 ∧ s.doPowerFail.plane.ingest = false ∧
      s.doPowerFail.clk = s.clk ∧ s.doPowerFail.start = s.start ∧ s.doPowerFail.access = s.access := by
  have hfail := (State.onPwr_kept s (fun p => { p with failed := true }) (hs.kept 33554432) rfl).sound
  have hne : (s.onPwr fun p => { p with failed := true }).stage ≠ 5 := Nat.ne_of_lt hstage
  obtain ⟨-, hfive, -, hfailed, hstop, hplane⟩ := hfail.enterS5_outcome hne
  have hk : Kept 67108814 s s.doPowerFail := State.doPowerFail_kept s (hs.kept _) rfl
  exact ⟨hfive, hfailed, hstop, congrArg Plane.ingest hplane, hk.clk rfl, hk.start rfl, hk.access rfl⟩

theorem State.Sound.doOrderlyStop_outcome {vins : List Nat} {x : VinRun} (hx : x = s.vinRun vins)
    (hstop : s.pwr.stop = 0) (h : x.lost = true ∨ (s.reqStage = 5 ∧ x.stage ≤ 5)) (hstage : s.stage < 5) :
    (s.doOrderlyStop vins).stage = 5 ∧ (s.doOrderlyStop vins).pwr.stop = 1 ∧
      (s.doOrderlyStop vins).rd F.PWR_VIN_VIN_10MV = x.filtered % 2 ^ 14 ∧ (s.doOrderlyStop vins).plane.ingest = false := by
  rw [State.doOrderlyStop_enters hs hx hstop h hstage]
  obtain ⟨hvin, -, -, hst⟩ := hs.vinTaken_values x
  obtain ⟨hheld, hfive, -, -, hone, hplane⟩ := (hs.vinTaken_main x).kept.sound.enterS5_outcome (by omega)
  exact ⟨hfive, hone, (hheld.rd (by decide) (by decide)).trans hvin, congrArg Plane.ingest hplane⟩

/-- A commit that has ended lets the keeper halt. -/
theorem State.Sound.doOrderlyStop_halts {vins : List Nat} (hstop : s.pwr.stop = 1) (hrun : s.book.running = none)
    (hwait : s.book.waiting = []) :
    (s.doOrderlyStop vins).pwr = { s.pwr with stop := 2 } ∧ (s.doOrderlyStop vins).plane.cxOn = false ∧
      (s.doOrderlyStop vins).clk.running = false ∧ (s.doOrderlyStop vins).book = s.book ∧ (s.doOrderlyStop vins).saf = s.saf := by
  have hhalt : s.doOrderlyStop vins = s.haltKeeper := by simp [State.doOrderlyStop, hstop, hrun, hwait]
  rw [hhalt]
  have hlanes := State.shedLanes_kept s (List.range 24) (hs.kept 710) rfl
  refine ⟨?_, rfl, rfl, hlanes.book rfl, hlanes.saf rfl⟩
  have hpwr := hlanes.pwr rfl
  simp only [State.haltKeeper, State.onPlane, State.onPwr, hpwr]

theorem State.Sound.doOverVoltage_quiet {vins : List Nat} {x : VinRun} (hx : x = s.vinRun vins) (hlost : x.lost = false)
    (hover : s.pwr.overVin = false) (hopened : x.opened = none) :
    s.sameRegs (s.doOverVoltage vins) [F.PWR_VIN, F.PWR_STAGE] ∧ (s.doOverVoltage vins).rd F.PWR_VIN_VIN_10MV = x.filtered % 2 ^ 14 ∧
      s.doOverVoltage vins = { s with regs := (s.doOverVoltage vins).regs,
                                      pwr := { s.pwr with vins := x.recent, overRun := x.run, overVin := x.above } } := by
  subst hx
  have hshown := hs.vinShown_kept (s.vinRun vins)
  have htaken : s.doOverVoltage vins = (s.vinShown (s.vinRun vins)).overKept (s.vinRun vins) := by
    rw [State.doOverVoltage, State.takeVin_held hlost, State.vinTaken, State.noteOverVoltage_quiet hopened]
    · rfl
    · exact .inr ((congrArg Pwr.overVin (hshown.pwr rfl)).trans hover)
  rw [htaken]
  exact ⟨hs.vinShown_regs _, (hs.vinShown_values _).1, rfl⟩

theorem State.Sound.doOverVoltage_opens {vins : List Nat} {x : VinRun} (hx : x = s.vinRun vins) (hlost : x.lost = false)
    (hopened : x.opened ≠ none) :
    (s.doOverVoltage vins).pwr = { s.pwr with vins := x.recent, overRun := x.run, overVin := x.above } ∧
      ((s.doOverVoltage vins).regGet F.PWR_EVT).getLsbD 1 = true ∧
      s.sameMain (s.doOverVoltage vins) [F.PWR_VIN, F.PWR_STAGE, F.PWR_EVT] ∧
      s.doOverVoltage vins = { s with free := (s.doOverVoltage vins).free, regs := (s.doOverVoltage vins).regs,
                                      fau := (s.doOverVoltage vins).fau, pwr := (s.doOverVoltage vins).pwr,
                                      book := (s.doOverVoltage vins).book } := by
  subst hx
  have htaken : s.doOverVoltage vins = s.vinTaken (s.vinRun vins) := State.takeVin_held hlost
  have hmain := hs.vinTaken_main (s.vinRun vins)
  rw [htaken]
  exact ⟨hs.vinTaken_pwr _, (hs.vinShown_kept _).sound.noteOverVoltage_flagged _ hopened, hmain.main, hmain.kept.eq_withParts⟩

/-- A rail of a region that runs fails it, and it alone. -/
theorem State.Sound.doRailFault_region {rail reg : Nat} (hrail : rail ≤ 1) (hreg : reg < 4) (hmon : (s.region reg).monitored = true) :
    ((s.doRailFault rail reg).region reg).failed = true ∧ ((s.doRailFault rail reg).region reg).locked = false ∧
      (∀ q, q ≠ reg → (s.doRailFault rail reg).region q = s.region q) ∧ (s.doRailFault rail reg).plane = s.plane ∧
      (s.doRailFault rail reg).saf = s.saf := by
  have hfault : s.doRailFault rail reg = (s.report 0x4301 (s.locRegion reg) rail).failRegion reg 4 := by
    simp [State.doRailFault, railOf, hrail, hreg, hmon]
  have hk : Kept 3106766 s (s.doRailFault rail reg) := by
    rw [hfault]
    exact State.failRegion_kept _ _ _ (State.report_kept _ _ _ _ (hs.kept _) rfl) rfl
  obtain ⟨u, hu⟩ : ∃ u, u = s.report 0x4301 (s.locRegion reg) rail := ⟨_, rfl⟩
  have huk : Kept 518 s u := hu ▸ State.report_kept _ _ _ _ (hs.kept _) rfl
  have hstop : Kept 3098574 (u.onRegion reg fun x => { x with failed := true, locked := false, resumeAt := none }) (s.doRailFault rail reg) := by
    rw [hfault, ← hu]
    exact State.stopRegion_kept _ _ _ _ ((State.onRegion_kept u reg _ (huk.sound.kept 8192) rfl).sound.kept _) rfl
  have hregion (q : Nat) : (s.doRailFault rail reg).region q =
      (u.onRegion reg fun x => { x with failed := true, locked := false, resumeAt := none }).region q := by
    rw [State.region, hstop.regions_eq rfl, State.region]
  have hself := State.region_onRegion_self (s := u) (reg := reg) (by rw [huk.sound.regions]; exact hreg)
    fun x => { x with failed := true, locked := false, resumeAt := none }
  refine ⟨?_, ?_, fun q hq => ?_, hk.plane rfl, hk.saf rfl⟩
  · rw [hregion, hself]
  · rw [hregion, hself]
  · rw [hregion, State.region_onRegion_other hq, State.region, huk.regions_eq rfl, State.region]

/-- A rail of CX stops the data plane, and no region. -/
theorem State.Sound.doRailFault_cx {rail : Nat} (hrail : rail < 4) (hne : rail ≠ 1) (hcx : s.plane.cxOn = true)
    (hfault : s.plane.cxFault = false) :
    (s.doRailFault rail 4).plane.cxFault = true ∧ (s.doRailFault rail 4).plane.ingest = false ∧
      (s.doRailFault rail 4).regions = s.regions := by
  have hrails : railOf rail 4 = true := by
    simp [railOf]
    omega
  have hstop : s.doRailFault rail 4 = ((s.onPlane fun p => { p with cxFault := true }).report 0x4301 s.locCx rail).stopPlane := by
    simp [State.doRailFault, hrails, hcx, hfault]
  have hplane := State.onPlane_kept s (fun p => { p with cxFault := true }) (hs.kept 4096) rfl
  have hreport := State.report_kept _ 0x4301 s.locCx rail (hplane.sound.kept 518) rfl
  rw [hstop, hreport.sound.plane_stopPlane, hreport.plane rfl]
  refine ⟨rfl, rfl, ?_⟩
  rw [(State.stopPlane_kept _ (hreport.sound.kept 2447302) rfl).regions_eq rfl, hreport.regions_eq rfl]
  rfl

end
end Sys2Proof.Machine

open Sys2Proof Sys2Proof.Machine

/-- Settles O30: entering S5 writes PWR_STAGE, PWR_EVT and PWR_PB_STAT alone of the power controller's registers and stops ingest, and
each end of supply is read from it, from the registers that a run of VIN samples shows, or from what a region's stop leaves. -/
theorem supplyEnds : Obligations.SupplyEnds := by
  intro s
  refine ⟨fun _ => rfl, fun hw => ⟨fun hstage => ?_, fun vins x hx hstop hstage h => ?_, fun vins hstop hrun hwait => ?_,
    fun vins hstop hrun => ?_, fun vins x hx hlost hover => ⟨fun hopened => ?_, fun hopened => ?_⟩, fun hover => ?_, fun hover => ?_,
    fun rail scope h => ?_, fun rail r hrail => ⟨fun hmon => ?_, fun hmon => ?_⟩, fun rail hne hcx hfault => ?_⟩⟩
  · exact ⟨_, hw.awake.next_keeperDo State.doPowerFail, hw.sound.doPowerFail_outcome hstage⟩
  · exact ⟨_, hw.awake.next_keeperDo fun s => s.doOrderlyStop (vins.map BitVec.toNat), hw.sound.doOrderlyStop_outcome hx hstop h hstage⟩
  · exact ⟨_, hw.awake.next_keeperDo fun s => s.doOrderlyStop (vins.map BitVec.toNat), hw.sound.doOrderlyStop_halts hstop hrun hwait⟩
  · refine (hw.awake.next_keeperDo fun s => s.doOrderlyStop (vins.map BitVec.toNat)).trans ?_
    simp [State.doOrderlyStop, hstop, hrun]
  · exact ⟨_, hw.awake.next_keeperDo fun s => s.doOverVoltage (vins.map BitVec.toNat), hw.sound.doOverVoltage_quiet hx hlost hover hopened⟩
  · exact ⟨_, hw.awake.next_keeperDo fun s => s.doOverVoltage (vins.map BitVec.toNat), hw.sound.doOverVoltage_opens hx hlost hopened⟩
  · refine ⟨_, hw.awake.next_keeperDo State.doOverVoltageEnd, ?_⟩
    simp [State.doOverVoltageEnd, hover, State.conditionOver, State.onPwr]
  · refine (hw.awake.next_keeperDo State.doOverVoltageEnd).trans ?_
    simp [State.doOverVoltageEnd, hover, State.onPwr]
  · refine (hw.awake.next_keeperDo fun s => s.doRailFault rail scope).trans ?_
    simp [State.doRailFault, h]
  · obtain ⟨hfailed, hlocked, hother, hplane, hsaf⟩ := hw.sound.doRailFault_region hrail r.isLt hmon
    exact ⟨_, hw.awake.next_keeperDo fun s => s.doRailFault rail r.castSucc, hfailed, hlocked,
      fun q hq => hother q fun e => hq (Fin.ext e), hplane, hsaf⟩
  · refine (hw.awake.next_keeperDo fun s => s.doRailFault rail r.castSucc).trans ?_
    simp [State.doRailFault, hmon]
  · exact ⟨_, hw.awake.next_keeperDo fun s => s.doRailFault rail 4, hw.sound.doRailFault_cx rail.isLt hne hcx hfault⟩
end

section
/-! SUPPORT. What the heat of a die does (R62). -/

namespace Sys2Proof.Machine

/-- The deepest request is at least that of FORCE, and at least S4 while CX is hot (R392). -/
theorem State.force_le_reqStage (s : State) : s.rd F.PWR_FORCE_STAGE ≤ s.reqStage := by
  simp only [State.reqStage, State.requests, List.map_cons, List.map_nil, List.foldl_cons, List.foldl_nil]
  omega

theorem State.four_le_reqStage {s : State} (h : s.plane.hot.getD 2 false = true) : 4 ≤ s.reqStage := by
  simp only [State.reqStage, State.requests, List.map_cons, List.map_nil, List.foldl_cons, List.foldl_nil, h, if_true]
  omega

/-- The plane of a die above its threshold (R62). -/
def State.dieHot (s : State) (d : Nat) (tj : Int) (b : Bool) : State :=
  (s.takeTemp d tj).onPlane fun p => { p with hot := p.hot.set d b }

section
variable {s : State} (hs : s.Sound)
include hs

theorem State.Sound.dieHot_sound (d : Nat) (tj : Int) (b : Bool) : (s.dieHot d tj b).Sound :=
  (State.onPlane_kept _ _ (State.takeTemp_kept s d tj (hs.kept 4096) rfl) rfl).sound

theorem State.Sound.heatRegion_plane (reg : Nat) : (s.heatRegion reg).plane = s.plane :=
  (State.heatRegion_kept s reg (hs.kept 3106766) rfl).plane rfl

theorem State.Sound.heatRegion_region (reg q : Nat) : (s.heatRegion reg).region q =
    (s.onRegion reg fun x => { x with thermal := true, locked := false, resumeAt := none }).region q := by
  unfold State.heatRegion
  dsimp only
  split
  · have hone := (State.onRegion_kept s reg (fun x => { x with thermal := true, locked := false, resumeAt := none }) (hs.kept 8192) rfl).sound
    rw [State.region, (State.stopRegion_kept _ reg 4 _ (hone.kept 3098574) rfl).regions_eq rfl, State.region]
  · rfl

/-- Both regions of a QF die power down by heat. -/
theorem State.Sound.heatRegions (d : Nat) (hd : d < 2) :
    (s.forEach [2 * d, 2 * d + 1] State.heatRegion).plane = s.plane ∧
      ∀ r : Fin 4, r.val / 2 = d → ((s.forEach [2 * d, 2 * d + 1] State.heatRegion).region r).thermal = true ∧
        ((s.forEach [2 * d, 2 * d + 1] State.heatRegion).region r).locked = false := by
  have hone := (State.heatRegion_kept s (2 * d) (hs.kept 3106766) rfl).sound
  have hboth : s.forEach [2 * d, 2 * d + 1] State.heatRegion = (s.heatRegion (2 * d)).heatRegion (2 * d + 1) := rfl
  rw [hboth]
  refine ⟨(hone.heatRegion_plane _).trans (hs.heatRegion_plane _), fun r hr => ?_⟩
  rw [hone.heatRegion_region]
  rcases (by omega : r.val = 2 * d ∨ r.val = 2 * d + 1) with h | h
  · rw [h, State.region_onRegion_other (by omega), hs.heatRegion_region, State.region_onRegion_self (by rw [hs.regions]; omega)]
    exact ⟨rfl, rfl⟩
  · rw [h, State.region_onRegion_self (by rw [hone.regions]; omega)]
    exact ⟨rfl, rfl⟩

end

/-- A die above its threshold takes its action (R62). -/
theorem State.doThermal_eq {s : State} {d : Nat} {tj : Int} (hd : thermalLimit d < tj) (hhot : s.plane.hot.getD d true = false) :
    s.doThermal d tj =
      if d < 2 then ((s.dieHot d tj true).report 0x2110 (s.locDie d) (wrapBits 32 tj)).forEach [2 * d, 2 * d + 1] State.heatRegion
      else if d = 2 then ((s.dieHot d tj true).report 0x2111 s.locCx (wrapBits 32 tj)).showStage
      else if d = 3 then ((s.dieHot d tj true).report 0x4304 s.locKeeper (wrapBits 32 tj)).enterS5
      else s.dieHot d tj true := by
  have hact : ¬ (decide (tj ≤ thermalLimit d) || (s.takeTemp d tj).plane.hot.getD d true) = true := by
    have hsame : (s.takeTemp d tj).plane.hot.getD d true = false := hhot
    rw [hsame, Bool.or_false, decide_eq_true_eq]
    omega
  exact if_neg hact

theorem State.doThermal_idle {s : State} {d : Nat} {tj : Int} (h : tj ≤ thermalLimit d ∨ s.plane.hot.getD d true = true) :
    s.doThermal d tj = s.takeTemp d tj := by
  refine if_pos ?_
  rw [Bool.or_eq_true, decide_eq_true_eq]
  exact h

section
variable {s : State} (hs : s.Sound) {tj : Int}
include hs

theorem State.Sound.doThermal_cx (hlen : s.plane.hot.length = 5) (htj : thermalLimit 2 < tj) (hhot : s.plane.hot.getD 2 true = false) :
    4 ≤ (s.doThermal 2 tj).inForce ∧ (s.doThermal 2 tj).regions = s.regions ∧ (s.doThermal 2 tj).plane = (s.dieHot 2 tj true).plane := by
  have hdie := hs.dieHot_sound 2 tj true
  have hreport := State.report_kept _ 0x2111 s.locCx (wrapBits 32 tj) (hdie.kept 518) rfl
  have hshow := State.showStage_kept _ (hreport.sound.kept 4) rfl
  have heq : s.doThermal 2 tj = ((s.dieHot 2 tj true).report 0x2111 s.locCx (wrapBits 32 tj)).showStage := State.doThermal_eq htj hhot
  have hplane : (s.doThermal 2 tj).plane = (s.dieHot 2 tj true).plane := by rw [heq, hshow.plane rfl, hreport.plane rfl]
  refine ⟨?_, ?_, hplane⟩
  · have hset : (s.doThermal 2 tj).plane.hot.getD 2 false = true := by
      rw [hplane]
      simp [State.dieHot, State.onPlane, State.takeTemp, hlen]
    exact Nat.le_trans (State.four_le_reqStage hset) (Nat.le_max_right _ _)
  · rw [heq, hshow.regions_eq rfl, hreport.regions_eq rfl]
    rfl

theorem State.Sound.doThermal_keeper (htj : thermalLimit 3 < tj) (hhot : s.plane.hot.getD 3 true = false) (hstage : s.stage < 5) :
    (s.doThermal 3 tj).stage = 5 ∧ (s.doThermal 3 tj).plane = { (s.dieHot 3 tj true).plane with ingest := false } := by
  have hdie := hs.dieHot_sound 3 tj true
  have hreport := MainKept.report (MainKept.refl hdie 518 []) rfl 0x4304 s.locKeeper (wrapBits 32 tj)
  have hst : ((s.dieHot 3 tj true).report 0x4304 s.locKeeper (wrapBits 32 tj)).stage = s.stage :=
    hreport.rd (f := F.PWR_STAGE_STAGE) (by decide) (by decide)
  have heq : s.doThermal 3 tj = ((s.dieHot 3 tj true).report 0x4304 s.locKeeper (wrapBits 32 tj)).enterS5 := State.doThermal_eq htj hhot
  obtain ⟨-, hfive, -, -, -, hplane⟩ := hreport.kept.sound.enterS5_outcome (by omega)
  rw [heq]
  exact ⟨hfive, by rw [hplane, hreport.kept.plane rfl]⟩

theorem State.Sound.doThermal_regions {d : Nat} (hd : d < 2) (htj : thermalLimit d < tj) (hhot : s.plane.hot.getD d true = false) :
    (s.doThermal d tj).plane = (s.dieHot d tj true).plane ∧
      ∀ r : Fin 4, r.val / 2 = d → ((s.doThermal d tj).region r).thermal = true ∧ ((s.doThermal d tj).region r).locked = false := by
  have hreport := State.report_kept _ 0x2110 (s.locDie d) (wrapBits 32 tj) ((hs.dieHot_sound d tj true).kept 518) rfl
  obtain ⟨hplane, hregions⟩ := hreport.sound.heatRegions d hd
  rw [State.doThermal_eq htj hhot, if_pos hd]
  exact ⟨hplane.trans (hreport.plane rfl), hregions⟩

end

/-! ### A die that has cooled -/

theorem State.doThermalRecover_idle {s : State} {d : Nat} {tj : Int} (h : thermalLimit d - 10 < tj ∨ s.plane.hot.getD d false = false) :
    s.doThermalRecover d tj = s.takeTemp d tj := by
  refine if_pos ?_
  rw [Bool.or_eq_true, decide_eq_true_eq, Bool.not_eq_true']
  exact h

/-- The regions of a QF die that has cooled. -/
def State.cooled (s : State) (d : Nat) (tj : Int) : State :=
  (s.dieHot d tj false).forEach [2 * d, 2 * d + 1] fun s r => s.onRegion r fun x => { x with thermal := false }

theorem State.doThermalRecover_eq {s : State} {d : Nat} {tj : Int} (hd : tj ≤ thermalLimit d - 10) (hhot : s.plane.hot.getD d false = true) :
    s.doThermalRecover d tj =
      if d < 2 then
        (if (s.cooled d tj).plane.qfFault.getD d false then s.cooled d tj
        else (s.cooled d tj).conditionOver 0x2110 ((s.cooled d tj).locDie d))
      else if d = 2 then ((s.dieHot d tj false).conditionOver 0x2111 (s.dieHot d tj false).locCx).showStage
      else s.dieHot d tj false := by
  have hact : ¬ (decide (thermalLimit d - 10 < tj) || !(s.takeTemp d tj).plane.hot.getD d false) = true := by
    have hsame : (s.takeTemp d tj).plane.hot.getD d false = true := hhot
    rw [hsame, Bool.not_true, Bool.or_false, decide_eq_true_eq]
    omega
  exact if_neg hact

end Sys2Proof.Machine
end

section
/-! SUPPORT. A die that has cooled (R62), and a forced stage (R392). -/

namespace Sys2Proof.Machine

section
variable {s : State} (hs : s.Sound)
include hs

/-- PWR_STAGE alone shows the stage in force (R404). -/
theorem State.Sound.showStage_regs : s.sameRegs s.showStage [F.PWR_STAGE] := by
  have hreq := State.wf_wr hs.regs F.PWR_STAGE_REQ_STAGE 0 s.reqStage
  have hcause := fun v => State.wf_wr hreq F.PWR_STAGE_CAUSE 0 v
  exact ((State.sameRegs_wr hs.regs F.PWR_STAGE_REQ_STAGE 0 _).trans (State.sameRegs_wr hreq F.PWR_STAGE_CAUSE 0 _)).trans
    (State.sameRegs_wr (hcause _) F.PWR_STAGE_RESTORING 0 _)

theorem State.Sound.rd_showStage_vin : s.showStage.rd F.PWR_STAGE_VIN_STAGE = s.rd F.PWR_STAGE_VIN_STAGE := by
  have hreq := State.wf_wr hs.regs F.PWR_STAGE_REQ_STAGE 0 s.reqStage
  have hcause := fun v => State.wf_wr hreq F.PWR_STAGE_CAUSE 0 v
  simp only [State.showStage, State.wrB]
  rw [State.rd_wr_ne (hcause _) _ _ _ _ _ (.inr (by decide)), State.rd_wr_ne hreq _ _ _ _ _ (.inr (by decide)),
    State.rd_wr_ne hs.regs _ _ _ _ _ (.inr (by decide))]

/-- The regions of a die cool with it. -/
theorem State.Sound.coolRegions {d : Nat} (hd : d < 2) (r : Fin 4) :
    (s.forEach [2 * d, 2 * d + 1] fun s r => s.onRegion r fun x => { x with thermal := false }).region r =
      if r.val / 2 = d then { s.region r with thermal := false } else s.region r := by
  have hboth : (s.forEach [2 * d, 2 * d + 1] fun s r => s.onRegion r fun x => { x with thermal := false }) =
      (s.onRegion (2 * d) fun x => { x with thermal := false }).onRegion (2 * d + 1) fun x => { x with thermal := false } := rfl
  have hone := (State.onRegion_kept s (2 * d) (fun x => { x with thermal := false }) (hs.kept 8192) rfl).sound
  rw [hboth]
  by_cases h1 : r.val = 2 * d + 1
  · rw [h1, State.region_onRegion_self (by rw [hone.regions]; omega), State.region_onRegion_other (by omega), if_pos (by omega)]
  · rw [State.region_onRegion_other h1]
    by_cases h0 : r.val = 2 * d
    · rw [h0, State.region_onRegion_self (by rw [hs.regions]; omega), if_pos (by omega)]
    · rw [State.region_onRegion_other h0, if_neg (by omega)]

theorem State.Sound.doThermalRecover_outcome {d : Nat} {tj : Int} (htj : tj ≤ thermalLimit d - 10)
    (hhot : s.plane.hot.getD d false = true) :
    (s.doThermalRecover d tj).plane = { s.plane with temps := s.plane.temps.set d tj, hot := s.plane.hot.set d false } ∧
      (∀ r : Fin 4, (s.doThermalRecover d tj).region r = if r.val / 2 = d then { s.region r with thermal := false } else s.region r) ∧
      s.sameRegs (s.doThermalRecover d tj) [F.PWR_STAGE] ∧
      s.doThermalRecover d tj = { s with regs := (s.doThermalRecover d tj).regs, fau := (s.doThermalRecover d tj).fau,
                                         plane := (s.doThermalRecover d tj).plane, regions := (s.doThermalRecover d tj).regions } := by
  have hk : Kept 12804 s (s.doThermalRecover d tj) := State.doThermalRecover_kept s d tj (hs.kept _) rfl
  have hcooled := hs.dieHot_sound d tj false
  refine ⟨?_, fun r => ?_, ?_, hk.eq_withParts⟩
  all_goals rw [State.doThermalRecover_eq htj hhot]
  · split
    · split <;> rfl
    · split
      · exact (State.showStage_kept _ ((State.conditionOver_kept _ 0x2111 _ (hcooled.kept 512) rfl).sound.kept 4) rfl).plane rfl
      · rfl
  · split
    case isTrue hd =>
      have hregion := hcooled.coolRegions hd r
      split <;> exact hregion
    case isFalse hd =>
      rw [if_neg (show ¬ r.val / 2 = d by have := r.isLt; omega)]
      split
      · rw [State.region, (State.showStage_kept _ ((State.conditionOver_kept _ 0x2111 _ (hcooled.kept 512) rfl).sound.kept 4) rfl).regions_eq rfl]
        rfl
      · rfl
  · have hdie : Kept 12800 s (s.dieHot d tj false) := State.onPlane_kept _ _ (State.takeTemp_kept s d tj (hs.kept _) rfl) rfl
    have hregions : Kept 12800 s (s.cooled d tj) := State.forEach_kept hdie fun u r hu => State.onRegion_kept u r _ hu rfl
    have hover (c l : Nat) := State.conditionOver_kept _ c l hdie rfl
    split
    · split
      · exact State.sameRegs_of_regs (hregions.regs_eq rfl) _
      · exact State.sameRegs_of_regs ((State.conditionOver_kept _ 0x2110 _ hregions rfl).regs_eq rfl) _
    · split
      · exact (State.sameRegs_of_regs ((hover _ _).regs_eq rfl) _).trans (hover _ _).sound.showStage_regs
      · exact State.sameRegs_of_regs (hdie.regs_eq rfl) _

/-- A forced stage up to S4 is requested at once (R392). -/
theorem State.Sound.doForceStage_outcome (w : Word) :
    (s.doForceStage w).rd F.PWR_FORCE_STAGE = min 4 (getField w 0 3) ∧ min 4 (getField w 0 3) ≤ (s.doForceStage w).inForce ∧
      s.sameRegs (s.doForceStage w) [F.PWR_FORCE, F.PWR_STAGE] := by
  have hwr := (State.wr_kept s F.PWR_FORCE_STAGE 0 (min 4 (getField w 0 3)) (hs.kept 4) rfl).sound
  have hset : (s.wr F.PWR_FORCE_STAGE 0 (min 4 (getField w 0 3))).rd F.PWR_FORCE_STAGE = min 4 (getField w 0 3) :=
    (State.rd_wr hs.regs _ _ _ (by decide)).trans (Nat.mod_eq_of_lt (Nat.lt_of_le_of_lt (Nat.min_le_left _ _) (by decide)))
  have hforce : (s.doForceStage w).rd F.PWR_FORCE_STAGE = min 4 (getField w 0 3) :=
    (State.rd_of_regGet (hwr.showStage_regs F.PWR_FORCE (by decide))).trans hset
  refine ⟨hforce, ?_, fun b hb => ?_⟩
  · rw [← hforce]
    exact Nat.le_trans (State.force_le_reqStage _) (Nat.le_max_right _ _)
  · obtain ⟨hf, hst⟩ : b ≠ F.PWR_FORCE ∧ b ≠ F.PWR_STAGE := by simpa using hb
    exact (hwr.showStage_regs b fun hm => hst (List.mem_singleton.1 hm)).trans
      (State.sameRegs_wr hs.regs F.PWR_FORCE_STAGE 0 _ b fun hm => hf (List.mem_singleton.1 hm))

end
end Sys2Proof.Machine
end

section
/-! SUPPORT. The stage in force is entered (R393). -/

namespace Sys2Proof.Machine

section
variable {s : State} (hs : s.Sound)
include hs

theorem State.Sound.rd_shedStep_vin (k : Nat) : (s.shedStep k).rd F.PWR_STAGE_VIN_STAGE = s.rd F.PWR_STAGE_VIN_STAGE := by
  have hwr := (State.wr_kept s F.PWR_STAGE_STAGE 0 k (hs.kept 4) rfl).sound
  rw [(PowerKept.refl hwr []).shedStep.rd (by decide) List.not_mem_nil, State.rd_wr_ne hs.regs _ _ _ _ _ (.inr (by decide))]

theorem State.Sound.rd_shedSteps_vin (ks : List Nat) :
    (s.forEach ks State.shedStep).Sound ∧ (s.forEach ks State.shedStep).rd F.PWR_STAGE_VIN_STAGE = s.rd F.PWR_STAGE_VIN_STAGE := by
  refine State.forEach_induction (P := fun t => t.Sound ∧ t.rd F.PWR_STAGE_VIN_STAGE = s.rd F.PWR_STAGE_VIN_STAGE) ⟨hs, rfl⟩ ?_
  intro t k _ ht
  exact ⟨(State.shedStep_kept t k (ht.1.kept 4190158) rfl).sound, (ht.1.rd_shedStep_vin k).trans ht.2⟩

/-- Steps down to a stage leave it. -/
theorem State.Sound.stage_shedSteps {st k : Nat} (hst : st < k) (hk : k < 8) :
    (s.forEach ((List.range (k - st)).map fun i => st + 1 + i) State.shedStep).stage = k := by
  obtain ⟨n, rfl⟩ : ∃ n, k = st + 1 + n := ⟨k - st - 1, by omega⟩
  have hn : st + 1 + n - st = n + 1 := by omega
  have hlast : s.forEach ((List.range (st + 1 + n - st)).map fun i => st + 1 + i) State.shedStep =
      (s.forEach ((List.range n).map fun i => st + 1 + i) State.shedStep).shedStep (st + 1 + n) := by
    rw [hn, List.range_succ, List.map_append, State.forEach, List.foldl_append, State.forEach]
    rfl
  rw [hlast]
  exact (hs.rd_shedSteps_vin _).1.stage_shedStep hk

theorem State.Sound.rd_flag_stage {f : Fld} (hf : f.addr 0 = F.PWR_STAGE) : (s.flag F.PWR_EVT 0).rd f = s.rd f :=
  State.rd_of_regGet (hf ▸ State.sameRegs_regPut hs.regs F.PWR_EVT _ F.PWR_STAGE (by decide))

theorem State.Sound.rd_stageFive_vin : s.stageFive.rd F.PWR_STAGE_VIN_STAGE = s.rd F.PWR_STAGE_VIN_STAGE := by
  obtain ⟨hsteps, hvin⟩ := hs.rd_shedSteps_vin ((List.range (4 - s.stage)).map fun i => s.stage + 1 + i)
  have hfive := (State.wr_kept _ F.PWR_STAGE_STAGE 0 5 (hsteps.kept 4) rfl).sound
  have hflag := (State.flag_kept _ F.PWR_EVT 0 (hfive.kept 4) rfl).sound
  rw [State.stageFive, (State.noteStage_kept _ (hflag.kept 33554432) rfl).sound.rd_showStage_vin]
  refine (hfive.rd_flag_stage rfl).trans ?_
  rw [State.rd_wr_ne hsteps.regs _ _ _ _ _ (.inr (by decide)), hvin]

theorem State.Sound.rd_enterS5_vin : s.enterS5.rd F.PWR_STAGE_VIN_STAGE = s.rd F.PWR_STAGE_VIN_STAGE := by
  by_cases hstage : s.stage = 5
  · rw [State.enterS5, if_pos hstage]
  · have hfive := hs.stageFive_kept.sound
    have hdown : PowerKept [F.PWR_PB_STAT] s.stageFive (s.stageFive.sourcesOff.onPwr fun p => { p with stop := 1, vinHigh := none }) :=
      (PowerKept.refl hfive _).sourcesOff.quiet fun k => State.onPwr_kept _ _ k rfl
    rw [State.enterS5_eq hstage, (hdown.powerCommit (by decide)).rd (by decide) (by decide), hs.rd_stageFive_vin]

/-- What is so once a stage above S5 is entered. -/
theorem State.Sound.enterStage_outcome {k : Nat} (hk : k < 8) :
    PowerKept [F.PWR_STAGE, F.PWR_EVT] s (s.enterStage k) ∧ (s.enterStage k).rd F.PWR_STAGE_VIN_STAGE = s.rd F.PWR_STAGE_VIN_STAGE ∧
      (s.enterStage k).stage = max s.stage k ∧ (s.stage < k → (s.enterStage k).pwr.entry = s.clk.tick) := by
  by_cases hle : k ≤ s.stage
  · rw [State.enterStage, if_pos hle]
    exact ⟨PowerKept.refl hs _, rfl, by omega, fun h => by omega⟩
  · obtain ⟨hsteps, hvin⟩ := hs.rd_shedSteps_vin ((List.range (k - s.stage)).map fun i => s.stage + 1 + i)
    have hstage := hs.stage_shedSteps (st := s.stage) (k := k) (by omega) hk
    have hheld : PowerKept [F.PWR_STAGE, F.PWR_EVT] s _ :=
      (PowerKept.refl hs _).shedSteps (by decide) ((List.range (k - s.stage)).map fun i => s.stage + 1 + i)
    have hclk := (State.forEach_kept (hs.kept 4190158) (l := (List.range (k - s.stage)).map fun i => s.stage + 1 + i)
      fun u k hu => State.shedStep_kept u k hu rfl).clk rfl
    rw [State.enterStage, if_neg hle]
    refine ⟨(hheld.flagOf (a := F.PWR_EVT) (by decide) 0).noteStage, (hsteps.rd_flag_stage rfl).trans hvin,
      (hsteps.rd_flag_stage (f := F.PWR_STAGE_STAGE) rfl).trans (hstage.trans (by omega)), fun _ => ?_⟩
    exact congrArg Clk.tick hclk

/-- The stage in force, entered (R393). -/
theorem State.Sound.takeStage_outcome {f : Nat} (hf : f ≤ 5) (hstage : s.stage ≤ 5) :
    PowerKept [F.PWR_STAGE, F.PWR_EVT, F.PWR_PB_STAT] s (if f = 5 then s.enterS5 else (s.enterStage f).showStage) ∧
      (if f = 5 then s.enterS5 else (s.enterStage f).showStage).rd F.PWR_STAGE_VIN_STAGE = s.rd F.PWR_STAGE_VIN_STAGE ∧
      (if f = 5 then s.enterS5 else (s.enterStage f).showStage).stage = max s.stage f ∧
      (s.stage < f → (if f = 5 then s.enterS5 else (s.enterStage f).showStage).pwr.entry = s.clk.tick) := by
  by_cases h5 : f = 5
  · subst h5
    simp only [if_true]
    by_cases hfive : s.stage = 5
    · have hsame : s.enterS5 = s := by rw [State.enterS5, if_pos hfive]
      rw [hsame]
      exact ⟨PowerKept.refl hs _, rfl, by omega, fun h => by omega⟩
    · obtain ⟨hheld, hst, hentry, -⟩ := hs.enterS5_outcome hfive
      exact ⟨hheld, hs.rd_enterS5_vin, hst.trans (by omega), fun _ => hentry⟩
  · simp only [if_neg h5]
    obtain ⟨hheld, hvin, hst, hentry⟩ := hs.enterStage_outcome (k := f) (by omega)
    have hshow := State.showStage_kept _ (hheld.sound.kept 4) rfl
    exact ⟨(hheld.mono (by decide)).showStage (by decide), hheld.sound.rd_showStage_vin.trans hvin, hheld.sound.stage_showStage.trans hst,
      fun h => (congrArg Pwr.entry (hshow.pwr rfl)).trans (hentry h)⟩

end
end Sys2Proof.Machine
end

section
/-! SUPPORT. The tick of the controller (R393, R404). -/

namespace Sys2Proof.Machine

theorem vinStage_le (vin cur : Nat) : vinStage vin cur ≤ 5 := by
  unfold vinStage
  split
  · exact Nat.le_refl 5
  · have hmax (l : List Nat) (a : Nat) (ha : a ≤ 5) (hl : ∀ k ∈ l, k ≤ 5) : l.foldl max a ≤ 5 := by
      induction l generalizing a with
      | nil => exact ha
      | cons k l ih =>
        exact ih (max a k) (Nat.max_le.2 ⟨ha, hl k List.mem_cons_self⟩) fun j hj => hl j (List.mem_cons_of_mem _ hj)
    refine hmax _ 0 (by decide) fun k hk => ?_
    have hmem := (List.mem_filter.1 hk).1
    simp only [List.mem_cons, List.not_mem_nil, or_false] at hmem
    omega

/-- A run of samples keeps the VIN stage within 5 and lowers the least value. -/
theorem vinRun_bounds (vins : List Nat) (r : VinRun) (h : r.stage ≤ 5) :
    (vins.foldl VinRun.take r).stage ≤ 5 ∧ (vins.foldl VinRun.take r).least ≤ r.least := by
  induction vins generalizing r with
  | nil => exact ⟨h, Nat.le_refl _⟩
  | cons x vins ih =>
    obtain ⟨hst, hle⟩ := ih (r.take x) (vinStage_le _ _)
    exact ⟨hst, Nat.le_trans hle (Nat.min_le_left _ _)⟩

section
variable {s : State} (hs : s.Sound)
include hs

/-- The supplies as the tick measured them. -/
theorem State.Sound.takeSupplies_outcome {vaux vfeed power : Nat} (ha : vaux < 2 ^ 12) (hf : vfeed < 2 ^ 12) (hp : power < 2 ^ 10) :
    PowerKept [F.PWR_AUX, F.PWR_POWER] s (s.takeSupplies vaux vfeed power) ∧
      s.sameRegs (s.takeSupplies vaux vfeed power) [F.PWR_AUX, F.PWR_POWER] ∧
      (s.takeSupplies vaux vfeed power).rd F.PWR_AUX_VAUX24_10MV = vaux ∧
      (s.takeSupplies vaux vfeed power).rd F.PWR_AUX_VFEED_10MV = vfeed ∧
      (s.takeSupplies vaux vfeed power).rd F.PWR_POWER_INPUT_DW = power := by
  have haux := State.wf_wr hs.regs F.PWR_AUX_VAUX24_10MV 0 vaux
  have hfeed := State.wf_wr haux F.PWR_AUX_VFEED_10MV 0 vfeed
  have hheld : PowerKept [F.PWR_AUX, F.PWR_POWER] s (s.takeSupplies vaux vfeed power) :=
    (((PowerKept.refl hs _).wrOf (f := F.PWR_AUX_VAUX24_10MV) (i := 0) (by decide) _).wrOf (f := F.PWR_AUX_VFEED_10MV) (i := 0)
      (by decide) _).wrOf (f := F.PWR_POWER_INPUT_DW) (i := 0) (by decide) _
  refine ⟨hheld, fun b hb => ?_, ?_, ?_, ?_⟩
  · obtain ⟨hna, hnp⟩ : b ≠ F.PWR_AUX ∧ b ≠ F.PWR_POWER := by simpa using hb
    exact (State.sameRegs_wr hfeed F.PWR_POWER_INPUT_DW 0 _ b fun hm => hnp (List.mem_singleton.1 hm)).trans
      ((State.sameRegs_wr haux F.PWR_AUX_VFEED_10MV 0 _ b fun hm => hna (List.mem_singleton.1 hm)).trans
        (State.sameRegs_wr hs.regs F.PWR_AUX_VAUX24_10MV 0 _ b fun hm => hna (List.mem_singleton.1 hm)))
  · rw [State.takeSupplies, State.rd_wr_ne hfeed _ _ _ _ _ (.inl (by decide)), State.rd_wr_ne haux _ _ _ _ _ (.inr (by decide)),
      State.rd_wr hs.regs _ _ _ (by decide)]
    exact Nat.mod_eq_of_lt ha
  · rw [State.takeSupplies, State.rd_wr_ne hfeed _ _ _ _ _ (.inl (by decide)), State.rd_wr haux _ _ _ (by decide)]
    exact Nat.mod_eq_of_lt hf
  · rw [State.takeSupplies, State.rd_wr hfeed _ _ _ (by decide)]
    exact Nat.mod_eq_of_lt hp

end

/-- The registers of t show the run x, the VIN stage v, and the supplies (R404). -/
structure State.Shows (t : State) (x : VinRun) (v vaux vfeed power : Nat) : Prop where
  vinStage : t.rd F.PWR_STAGE_VIN_STAGE = v
  vin : t.rd F.PWR_VIN_VIN_10MV = x.filtered % 2 ^ 14
  least : t.rd F.PWR_VIN_MIN_10MV = x.least
  aux : t.rd F.PWR_AUX_VAUX24_10MV = vaux
  feed : t.rd F.PWR_AUX_VFEED_10MV = vfeed
  power : t.rd F.PWR_POWER_INPUT_DW = power

/-- Registers held but PWR_STAGE, of which the VIN stage is held, show the same. -/
theorem State.Shows.held {r t : State} {x : VinRun} {v vaux vfeed power : Nat} (h : r.Shows x v vaux vfeed power)
    (hheld : PowerKept [F.PWR_STAGE, F.PWR_EVT, F.PWR_PB_STAT] r t) (hvin : t.rd F.PWR_STAGE_VIN_STAGE = r.rd F.PWR_STAGE_VIN_STAGE) :
    t.Shows x v vaux vfeed power :=
  ⟨hvin.trans h.vinStage, (hheld.rd (by decide) (by decide)).trans h.vin, (hheld.rd (by decide) (by decide)).trans h.least,
    (hheld.rd (by decide) (by decide)).trans h.aux, (hheld.rd (by decide) (by decide)).trans h.feed,
    (hheld.rd (by decide) (by decide)).trans h.power⟩

/-- The samples leave a VIN stage and a least value that the registers hold. -/
theorem State.vinRun_values {s : State} {x : VinRun} {vins : List Nat} (hx : x = s.vinRun vins)
    (hvin : s.rd F.PWR_STAGE_VIN_STAGE ≤ 5) : x.stage ≤ 5 ∧ x.least < 2 ^ 14 := by
  have hmin : s.rd F.PWR_VIN_MIN_10MV < 2 ^ 14 := getField_lt _ _ _
  rw [hx, State.vinRun]
  exact ⟨(vinRun_bounds vins _ hvin).1, Nat.lt_of_le_of_lt (vinRun_bounds vins _ hvin).2 hmin⟩

section
variable {s : State} (hs : s.Sound) {x : VinRun} {vins : List Nat} (hx : x = s.vinRun vins) (hstop : s.pwr.stop = 0)
include hs hx hstop

/-- VIN below 28.0 V enters S5 before the supplies are taken. -/
theorem State.Sound.doStageTick_lost (hlost : x.lost = true) (hstage : s.stage ≠ 5) (vaux vfeed power : Nat) :
    s.doStageTick vins vaux vfeed power = (s.vinTaken x).enterS5.takeSupplies vaux vfeed power := by
  subst hx
  have hst := (hs.vinTaken_values (s.vinRun vins)).2.2.2
  obtain ⟨-, -, -, -, hone, -⟩ := (hs.vinTaken_main (s.vinRun vins)).kept.sound.enterS5_outcome (by omega)
  rw [State.doStageTick, if_neg (by omega), State.takeVin_lost hs hlost hstop]
  exact if_pos hone

/-- Otherwise the controller enters the stage in force, which the registers then show. -/
theorem State.Sound.doStageTick_takes (h : x.lost = false ∨ s.stage = 5) (vaux vfeed power : Nat) :
    s.doStageTick vins vaux vfeed power =
      (if ((s.vinTaken x).takeSupplies vaux vfeed power).inForce = 5 then ((s.vinTaken x).takeSupplies vaux vfeed power).showStage.enterS5
      else (((s.vinTaken x).takeSupplies vaux vfeed power).showStage.enterStage
        ((s.vinTaken x).takeSupplies vaux vfeed power).inForce).showStage) := by
  subst hx
  have hst := (hs.vinTaken_values (s.vinRun vins)).2.2.2
  have htaken : s.takeVin vins = s.vinTaken (s.vinRun vins) := by
    cases hlost : (s.vinRun vins).lost with
    | false => exact State.takeVin_held hlost
    | true =>
      have hfive : s.stage = 5 := h.resolve_left (by simp [hlost])
      rw [State.takeVin_lost hs hlost hstop]
      exact if_pos (hst.trans hfive)
  have hpwr : ((s.vinTaken (s.vinRun vins)).takeSupplies vaux vfeed power).pwr.stop = 0 :=
    (congrArg Pwr.stop (hs.vinTaken_pwr (s.vinRun vins))).trans hstop
  rw [State.doStageTick, if_neg (by omega), htaken]
  exact if_neg (by omega)

omit hstop in
/-- What the registers show once the tick has taken its measurements. -/
theorem State.Sound.measured (hvin : s.rd F.PWR_STAGE_VIN_STAGE ≤ 5) {v : Nat} (hv : v = (if x.lost then 5 else x.stage))
    {vaux vfeed power : Nat} (ha : vaux < 2 ^ 12) (hf : vfeed < 2 ^ 12) (hp : power < 2 ^ 10) {u : State}
    (hheld : PowerKept [F.PWR_STAGE, F.PWR_EVT, F.PWR_PB_STAT] (s.vinTaken x) u)
    (hsame : u.rd F.PWR_STAGE_VIN_STAGE = (s.vinTaken x).rd F.PWR_STAGE_VIN_STAGE) :
    (u.takeSupplies vaux vfeed power).Shows x v vaux vfeed power := by
  obtain ⟨hxst, hleast⟩ := State.vinRun_values hx hvin
  obtain ⟨hfil, hmin, hst, -⟩ := hs.vinTaken_values x
  obtain ⟨hsup, -, haux, hfeed, hpower⟩ := hheld.sound.takeSupplies_outcome ha hf hp
  have hv8 : (if x.lost then 5 else x.stage) % 8 = v := by
    rw [hv]
    split <;> omega
  exact ⟨(hsup.rd (by decide) (by decide)).trans (hsame.trans (hst.trans hv8)),
    (hsup.rd (by decide) (by decide)).trans ((hheld.rd (by decide) (by decide)).trans hfil),
    (hsup.rd (by decide) (by decide)).trans ((hheld.rd (by decide) (by decide)).trans (hmin.trans (Nat.mod_eq_of_lt hleast))),
    haux, hfeed, hpower⟩

omit hstop in
/-- The stage that the tick finds in force, and the one it stands at. -/
theorem State.Sound.tick_inForce (hvin : s.rd F.PWR_STAGE_VIN_STAGE ≤ 5) {v f : Nat} (hv : v = (if x.lost then 5 else x.stage))
    (hf : f = max v s.reqStage) {vaux vfeed power : Nat} (ha : vaux < 2 ^ 12) (hfeed : vfeed < 2 ^ 12) (hp : power < 2 ^ 10) :
    ((s.vinTaken x).takeSupplies vaux vfeed power).inForce = f ∧
      ((s.vinTaken x).takeSupplies vaux vfeed power).showStage.stage = s.stage := by
  have htaken := (hs.vinTaken_main x).kept.sound
  obtain ⟨hsup, hregs, -⟩ := htaken.takeSupplies_outcome ha hfeed hp
  have hkept := State.takeSupplies_kept (s.vinTaken x) vaux vfeed power (htaken.kept 4) rfl
  have hshows := hs.measured hx hvin hv ha hfeed hp (PowerKept.refl htaken _) rfl
  have hreqs : ((s.vinTaken x).takeSupplies vaux vfeed power).reqStage = s.reqStage :=
    (MainKept.reqStage (m := 4) ⟨hkept, fun b _ _ hb => hregs b hb⟩ (by decide) (by decide) (congrArg Plane.hot (hkept.plane rfl))
      (congrArg Pwr.failed (hkept.pwr rfl))).trans (hs.vinTaken_reqStage x)
  exact ⟨by rw [State.inForce, hshows.vinStage, hreqs, hf], hsup.sound.stage_showStage.trans
    ((hsup.rd (f := F.PWR_STAGE_STAGE) (by decide) (by decide)).trans (hs.vinTaken_values x).2.2.2)⟩

/-- A tick (R393): the stage in force is entered when it is deeper, and the registers show what was measured. -/
theorem State.Sound.doStageTick_outcome (hreq : s.reqStage ≤ 5) (hstage : s.stage ≤ 5) (hvin : s.rd F.PWR_STAGE_VIN_STAGE ≤ 5)
    {v f : Nat} (hv : v = (if x.lost then 5 else x.stage)) (hf : f = max v s.reqStage)
    {vaux vfeed power : Nat} (ha : vaux < 2 ^ 12) (hfeed : vfeed < 2 ^ 12) (hp : power < 2 ^ 10) :
    (s.doStageTick vins vaux vfeed power).Shows x v vaux vfeed power ∧ (s.doStageTick vins vaux vfeed power).stage = max s.stage f ∧
      (s.stage < f → (s.doStageTick vins vaux vfeed power).pwr.entry = s.clk.tick) := by
  have hmain := hs.vinTaken_main x
  have htaken := hmain.kept.sound
  have hst := (hs.vinTaken_values x).2.2.2
  have hclk : (s.vinTaken x).clk.tick = s.clk.tick := congrArg Clk.tick (hmain.kept.clk rfl)
  obtain ⟨hxst, -⟩ := State.vinRun_values hx hvin
  by_cases hcase : x.lost = true ∧ s.stage ≠ 5
  · obtain ⟨hlost, hne⟩ := hcase
    obtain ⟨hheld, hfive, hentry, -⟩ := htaken.enterS5_outcome (by omega)
    have hf5 : f = 5 := by rw [hf, hv, if_pos hlost]; omega
    obtain ⟨hsup, -, -⟩ := hheld.sound.takeSupplies_outcome ha hfeed hp
    rw [hs.doStageTick_lost hx hstop hlost hne]
    refine ⟨hs.measured hx hvin hv ha hfeed hp hheld htaken.rd_enterS5_vin,
      (hsup.rd (f := F.PWR_STAGE_STAGE) (by decide) (by decide)).trans (hfive.trans (by omega)), fun _ => ?_⟩
    exact (congrArg Pwr.entry ((State.takeSupplies_kept _ vaux vfeed power (hheld.sound.kept 4) rfl).pwr rfl)).trans (hentry.trans hclk)
  · have hcase : x.lost = false ∨ s.stage = 5 := by
      cases hlost : x.lost with
      | false => exact .inl rfl
      | true => exact .inr (by by_contra hne; exact hcase ⟨hlost, hne⟩)
    obtain ⟨hsup, -, -⟩ := htaken.takeSupplies_outcome ha hfeed hp
    have hkept := State.takeSupplies_kept (s.vinTaken x) vaux vfeed power (htaken.kept 4) rfl
    have hshows := hs.measured hx hvin hv ha hfeed hp (PowerKept.refl htaken _) rfl
    obtain ⟨hforce, hshown⟩ := hs.tick_inForce hx hvin hv hf ha hfeed hp
    have hshow := State.showStage_kept _ (hsup.sound.kept 4) rfl
    obtain ⟨hheld, hsame, hmax, hentry⟩ := hshow.sound.takeStage_outcome (f := f) (by split at hv <;> omega) (by omega)
    rw [hs.doStageTick_takes hx hstop hcase, hforce]
    refine ⟨(hshows.held ((PowerKept.refl hsup.sound _).showStage (by decide)) hsup.sound.rd_showStage_vin).held hheld hsame,
      hmax.trans (by rw [hshown]), fun h => (hentry (by omega)).trans ?_⟩
    exact (congrArg Clk.tick ((hshow.clk rfl).trans (hkept.clk rfl))).trans hclk

/-- A tick that finds nothing deeper and no change of over-voltage measures alone. -/
theorem State.Sound.doStageTick_quiet (hstage : s.stage ≤ 5) {v f : Nat} (hreq : s.reqStage ≤ 5)
    (hvin : s.rd F.PWR_STAGE_VIN_STAGE ≤ 5) (hv : v = (if x.lost then 5 else x.stage)) (hf : f = max v s.reqStage) (hle : f ≤ s.stage)
    (hopened : x.opened = none) (hover : x.above = true ∨ s.pwr.overVin = false)
    {vaux vfeed power : Nat} (ha : vaux < 2 ^ 12) (hfeed : vfeed < 2 ^ 12) (hp : power < 2 ^ 10) :
    s.sameRegs (s.doStageTick vins vaux vfeed power) [F.PWR_STAGE, F.PWR_VIN, F.PWR_AUX, F.PWR_POWER] ∧
      s.doStageTick vins vaux vfeed power =
        { s with regs := (s.doStageTick vins vaux vfeed power).regs, pwr := { s.pwr with vins := x.recent, overRun := x.run, overVin := x.above } } := by
  have htaken := (hs.vinTaken_main x).kept.sound
  have hst := (hs.vinTaken_values x).2.2.2
  obtain ⟨hxst, -⟩ := State.vinRun_values hx hvin
  have hcase : x.lost = false ∨ s.stage = 5 := by
    cases hlost : x.lost with
    | false => exact .inl rfl
    | true =>
      rw [hlost, if_pos rfl] at hv
      exact .inr (by omega)
  obtain ⟨hsup, hregs, -⟩ := htaken.takeSupplies_outcome ha hfeed hp
  obtain ⟨hforce, hshown⟩ := hs.tick_inForce hx hvin hv hf ha hfeed hp
  have hkept := State.takeSupplies_kept (s.vinTaken x) vaux vfeed power (htaken.kept 4) rfl
  have hshow := State.showStage_kept _ (hkept.sound.kept 4) rfl
  have hown : s.vinTaken x = (s.vinShown x).overKept x :=
    State.noteOverVoltage_quiet hopened (hover.imp_right fun h => (congrArg Pwr.overVin ((hs.vinShown_kept x).pwr rfl)).trans h)
  have hall : Kept 33554436 s (s.vinTaken x) := hown ▸ State.onPwr_kept _ _ ((hs.vinShown_kept x).mono rfl) rfl
  have hbefore : s.sameRegs ((s.vinTaken x).takeSupplies vaux vfeed power) [F.PWR_STAGE, F.PWR_VIN, F.PWR_AUX, F.PWR_POWER] := by
    refine State.sameRegs.trans (t := s.vinTaken x) (fun b hb => ?_) fun b hb => hregs b fun hm => hb (by simp at hm ⊢; tauto)
    rw [hown]
    exact hs.vinShown_regs x b fun hm => hb (by simp at hm ⊢; tauto)
  have hend : ∀ t : State, Kept 4 ((s.vinTaken x).takeSupplies vaux vfeed power).showStage t →
      ((s.vinTaken x).takeSupplies vaux vfeed power).showStage.sameRegs t [F.PWR_STAGE] →
      s.sameRegs t [F.PWR_STAGE, F.PWR_VIN, F.PWR_AUX, F.PWR_POWER] ∧
        t = { s with regs := t.regs, pwr := { s.pwr with vins := x.recent, overRun := x.run, overVin := x.above } } := by
    intro t ht hsame
    have hpwr : t.pwr = { s.pwr with vins := x.recent, overRun := x.run, overVin := x.above } := by
      rw [ht.pwr rfl, hshow.pwr rfl, hkept.pwr rfl, hs.vinTaken_pwr x]
    have hparts : t = { s with regs := t.regs, pwr := t.pwr } :=
      (((hall.trans (hkept.mono rfl)).trans (hshow.mono rfl)).trans (ht.mono rfl)).eq_withParts
    rw [hpwr] at hparts
    refine ⟨(hbefore.trans fun b hb => ?_), hparts⟩
    have hb' : b ∉ [F.PWR_STAGE] := fun hm => hb (by simp at hm ⊢; tauto)
    exact (hsame b hb').trans (hsup.sound.showStage_regs b hb')
  rw [hs.doStageTick_takes hx hstop hcase, hforce]
  split
  · rw [State.enterS5, if_pos (by omega)]
    exact hend _ (hshow.sound.kept 4) (State.sameRegs_of_regs rfl _)
  · rw [State.enterStage, if_pos (by omega)]
    exact hend _ (State.showStage_kept _ (hshow.sound.kept 4) rfl) hshow.sound.showStage_regs

end

end Sys2Proof.Machine
end

section
/-! SUPPORT. The step up (R393) and the notice (R396). -/

namespace Sys2Proof.Machine

/-- A packet of class 0, whether it finds room or not (R197). -/
theorem MainKept.pushPkt_zero {m : Nat} {l : List Nat} {r t : State} (h : MainKept m l r t) (hm : 838 &&& m = 838) (p : Packet) :
    MainKept m l r (t.pushPkt 0 p) := by
  have hque (f : Queue → Queue) : MainKept m l r (t.onQueue 0 f) := h.of_regs (State.onQueue_kept t 0 f h.kept (mask_sub hm rfl)) rfl
  unfold State.pushPkt
  split
  · exact ((hque _).hwm (mask_sub hm rfl) (by decide)).of_regs (State.enqueue_kept t 0 p h.kept (mask_sub hm rfl)) (t.enqueue_regs 0 p)
  · rw [if_pos rfl]
    exact ((h.wr (mask_sub hm rfl) F.QUE_DISCARD_COUNT 0 (.inr (.inl (by decide))) _).flag (mask_sub hm rfl)
      (.inr (.inl (by decide))) 1).report (mask_sub hm rfl) _ _ _

section
variable {s : State} (hs : s.Sound) (hfs : 0 < s.clk.fs)
include hs hfs

theorem State.Sound.doStageRestore_outcome (hforce : s.inForce < s.stage) (hstage : s.stage < 5) (hcx : s.plane.cxOn = true) :
    s.doStageRestore.stage = s.stage - 1 ∧ s.pwr.entry + 100 ≤ s.doStageRestore.clk.tick ∧
      s.doStageRestore.pwr.entry = s.doStageRestore.clk.tick ∧ s.doStageRestore.saf = s.saf ∧ s.doStageRestore.book = s.book ∧
      s.doStageRestore.adc = s.adc ∧ s.doStageRestore.sns = s.sns ∧ s.doStageRestore.start = s.start := by
  have hk : Kept 37678038 s s.doStageRestore := State.doStageRestore_kept s (hs.kept _) rfl
  obtain ⟨c, hc, htick⟩ : ∃ c, s.toTick (s.pwr.entry + 100) = { s with clk := c } ∧ s.pwr.entry + 100 ≤ c.tick :=
    ⟨_, s.toTick_only _, State.le_tick_toTick hfs _⟩
  obtain ⟨u, hu⟩ : ∃ u, u = { s with clk := c } := ⟨_, rfl⟩
  have hus : u.Sound := hu ▸ ⟨hs.regs, hs.banks, hs.ports, hs.que, hs.lanes, hs.chans, hs.regions⟩
  have hust : u.stage = s.stage := by rw [hu]; rfl
  have hclk : u.clk.tick = c.tick := by rw [hu]
  have heq : s.doStageRestore = ((u.unshedStep u.stage).noteStage).showStage := by
    rw [State.doStageRestore, if_pos ⟨hforce, hstage, .inl hcx⟩, hc, ← hu]
  have hwr := (State.wr_kept u F.PWR_STAGE_STAGE 0 (u.stage - 1) (hus.kept 4) rfl).sound
  have hsteps := State.unshedStep_kept u u.stage (hus.kept 4123590) rfl
  have hnote := State.noteStage_kept (u.unshedStep u.stage) (hsteps.sound.kept 33554432) rfl
  have hshow := State.showStage_kept _ (hnote.sound.kept 4) rfl
  have hend : s.doStageRestore.clk.tick = c.tick := by
    rw [heq, hshow.clk rfl, hnote.clk rfl, hsteps.clk rfl, hclk]
  refine ⟨?_, hend ▸ htick, ?_, hk.saf rfl, hk.book rfl, hk.adc rfl, hk.sns rfl, hk.start rfl⟩
  · rw [heq, hnote.sound.stage_showStage]
    refine ((PowerKept.refl hwr []).unshedStep.noteStage.rd (f := F.PWR_STAGE_STAGE) (by decide) List.not_mem_nil).trans ?_
    rw [State.rd_wr hus.regs _ _ _ (by decide), hust]
    exact Nat.mod_eq_of_lt (by simp only; omega)
  · rw [hend, ← hclk, heq, hshow.pwr rfl]
    exact congrArg Clk.tick (hsteps.clk rfl)

/-- A notice that is due and may be sent goes out, 100 ms after the one before (R296, R396). -/
theorem State.Sound.doSheddingNotice_outcome (hdue : s.pwr.noticeDue = true) (hid : s.moduleId ≠ 0) (hcx : s.plane.cxOn = true) :
    s.doSheddingNotice.pwr =
        { s.pwr with noticeTick := some s.doSheddingNotice.clk.tick, noticeDue := false, deepest := 0 } ∧
      (∀ n, s.pwr.noticeTick = some n → n + 100 ≤ s.doSheddingNotice.clk.tick) ∧ s.sameMain s.doSheddingNotice [] ∧
      s.doSheddingNotice = { s with free := s.doSheddingNotice.free, regs := s.doSheddingNotice.regs, clk := s.doSheddingNotice.clk,
                                    tim := s.doSheddingNotice.tim, que := s.doSheddingNotice.que, fau := s.doSheddingNotice.fau,
                                    pwr := s.doSheddingNotice.pwr } := by
  have hk : Kept 33555286 s s.doSheddingNotice := State.doSheddingNotice_kept s (hs.kept _) rfl
  obtain ⟨c, hc, htick⟩ : ∃ c, s.doSheddingNotice = ({ s with clk := c } : State).sendNotice ∧
      ∀ n, s.pwr.noticeTick = some n → n + 100 ≤ c.tick := by
    rw [State.doSheddingNotice, hdue, hcx]
    cases hlast : s.pwr.noticeTick with
    | none => exact ⟨s.clk, by simp [hid], by simp⟩
    | some n =>
      obtain ⟨c, hc, htick⟩ : ∃ c, s.toTick (n + 100) = { s with clk := c } ∧ n + 100 ≤ c.tick :=
        ⟨_, s.toTick_only _, State.le_tick_toTick hfs _⟩
      refine ⟨c, by simp [hid, hc], fun m hm => ?_⟩
      cases hm
      exact htick
  obtain ⟨u, hu⟩ : ∃ u, u = { s with clk := c } := ⟨_, rfl⟩
  have hus : u.Sound := hu ▸ ⟨hs.regs, hs.banks, hs.ports, hs.que, hs.lanes, hs.chans, hs.regions⟩
  have hpush (ws : List LWord) : MainKept 838 [] u (u.push 0 ws) := (MainKept.refl hus _ _).pushPkt_zero rfl _
  have hclk : s.doSheddingNotice.clk = c := by
    rw [hc, ← hu]
    exact ((hpush _).kept.clk rfl).trans (by rw [hu])
  refine ⟨?_, fun n hn => hclk ▸ htick n hn, ?_, hk.eq_withParts⟩
  · rw [hclk, hc, ← hu, State.sendNotice, State.onPwr]
    simp only [(hpush _).kept.pwr rfl, (hpush _).kept.clk rfl]
    rw [hu]
  · have hmain : u.sameMain s.doSheddingNotice [] := by
      rw [hc, ← hu]
      exact (hpush _).main
    rw [hu] at hmain
    exact hmain

end

/-- A die above its threshold takes its action, whichever die it is (R62). -/
theorem State.Sound.doThermal_outcome {s : State} (hs : s.Sound) {d : Fin 5} {tj : Int} (hlen : s.plane.hot.length = 5)
    (htj : thermalLimit d < tj) (hhot : s.plane.hot.getD d true = false) (hstage : s.stage < 5) :
    (s.doThermal d tj).plane.hot = s.plane.hot.set d true ∧ (s.doThermal d tj).plane.temps = s.plane.temps.set d tj ∧
      (∀ r : Fin 4, r.val / 2 = d.val → ((s.doThermal d tj).region r).thermal = true ∧ ((s.doThermal d tj).region r).locked = false) ∧
      (d.val = 2 → 4 ≤ (s.doThermal d tj).inForce ∧ (s.doThermal d tj).regions = s.regions) ∧ (d.val = 3 → (s.doThermal d tj).stage = 5) ∧
      (d.val = 4 → s.doThermal d tj = { s with plane := (s.doThermal d tj).plane }) := by
  have hfew : d.val < 2 ∨ d.val = 2 ∨ d.val = 3 ∨ d.val = 4 := by omega
  rcases hfew with h | h | h | h
  · obtain ⟨hplane, hregions⟩ := hs.doThermal_regions h htj hhot
    rw [hplane]
    exact ⟨rfl, rfl, hregions, fun h2 => by omega, fun h3 => by omega, fun h4 => by omega⟩
  · rw [h] at htj hhot ⊢
    obtain ⟨hforce, hregions, hplane⟩ := hs.doThermal_cx hlen htj hhot
    rw [hplane]
    exact ⟨rfl, rfl, fun r hr => by omega, fun _ => ⟨hforce, hregions⟩, fun h3 => by omega, fun h4 => by omega⟩
  · rw [h] at htj hhot ⊢
    obtain ⟨hfive, hplane⟩ := hs.doThermal_keeper htj hhot hstage
    rw [hplane]
    exact ⟨rfl, rfl, fun r hr => by omega, fun h2 => by omega, fun _ => hfive, fun h4 => by omega⟩
  · rw [h] at htj hhot ⊢
    have heq : s.doThermal 4 tj = s.dieHot 4 tj true := State.doThermal_eq htj hhot
    rw [heq]
    exact ⟨rfl, rfl, fun r hr => by omega, fun h2 => by omega, fun h3 => by omega, fun _ => rfl⟩

theorem State.inForce_onPort (u : State) (p : Nat) (f : Port → Port) : (u.onPort p f).inForce = u.inForce := rfl

theorem State.regGet_onPort (u : State) (p : Nat) (f : Port → Port) (a : Nat) : (u.onPort p f).regGet a = u.regGet a := rfl

/-- FORCE, written by a port (R392). -/
theorem State.Working.forceStage_outcome {s : State} (hw : s.Working) (p : Fin 10) (k : Fin 8) :
    ∃ t, exec (.forceStage p k) s = .next t ∧ t.rd F.PWR_FORCE_STAGE = min 4 k.val ∧ min 4 k.val ≤ t.inForce ∧
      s.sameRegs t [F.PWR_FORCE, F.PWR_STAGE] ∧ t = { s with free := s.free + 1, regs := t.regs, ports := t.ports } := by
  obtain ⟨r, hr, hstore⟩ := hw.portStore_open p (a := F.PWR_FORCE) (by decide +kernel) (BitVec.ofNat 32 k)
  have hexec : exec (.forceStage p k) s = .next (s.accepted p fun u => u.doForceStage (BitVec.ofNat 32 k)) := by
    refine (hw.awake.next_keeperDo fun s => s.hostWrite p F.PWR_FORCE (BitVec.ofNat 32 k)).trans (congrArg _ (hstore.trans ?_))
    refine congrArg (s.accepted p) (funext fun u => ?_)
    rw [State.writeReg, State.writeMgt, base_of_baseOf (b := F.PWR_FORCE) (by decide +kernel) hr]
    rfl
  have hk : ∀ k : Fin 8, getField (BitVec.ofNat 32 k) 0 3 = k.val := by decide
  obtain ⟨hset, hle, hsame⟩ := hw.sound.drawn.doForceStage_outcome (BitVec.ofNat 32 k)
  have hkept : Kept 4 s.drawn (s.drawn.doForceStage (BitVec.ofNat 32 k)) := State.doForceStage_kept _ _ (hw.sound.drawn.kept 4) rfl
  rw [hk] at hset hle
  obtain ⟨u, hu⟩ : ∃ u, u = s.drawn.doForceStage (BitVec.ofNat 32 k) := ⟨_, rfl⟩
  have hdone := State.accepted_of_drawn (p := p) (f := fun u => u.doForceStage (BitVec.ofNat 32 k)) hu.symm
  rw [← hu] at hset hle hsame hkept
  rw [hdone] at hexec
  exact ⟨_, hexec, hset, hle, hsame, (State.onPort_kept u p _ (hkept.mono (m' := 36) rfl) rfl).eq_withParts⟩

end Sys2Proof.Machine

open Sys2Proof Sys2Proof.Machine

/-- Settles O29: the registers of the power controller are followed through every step into a stage and out of it, which write PWR_STAGE
alone of them, and a hot die is followed through the stop of its regions. -/
theorem stages : Obligations.Stages := by
  intro s hw hlen hfs
  have hs := hw.sound
  have hcxOn : s.plane.cxOn = true := (Bool.and_eq_true_iff.1 hw.cx).1
  refine ⟨fun d tj h => ?_, fun d tj htj hhot hstage => ?_, fun d tj h => ?_, fun d tj htj hhot => ?_,
    fun vins vaux vfeed power x v f hstop hreq hstage hvin hx hv hf => ?_, fun hforce hstage => ?_, fun h => ?_, fun p k => ?_,
    fun hdue hid hcx => ?_, fun h => ?_⟩
  · exact (hw.awake.next_keeperDo fun s => s.doThermal d tj).trans (congrArg _ (State.doThermal_idle h))
  · refine ⟨_, hw.awake.next_keeperDo fun s => s.doThermal d tj, ?_⟩
    exact hs.doThermal_outcome hlen htj hhot hstage
  · exact (hw.awake.next_keeperDo fun s => s.doThermalRecover d tj).trans (congrArg _ (State.doThermalRecover_idle h))
  · exact ⟨_, hw.awake.next_keeperDo fun s => s.doThermalRecover d tj, hs.doThermalRecover_outcome htj hhot⟩
  · refine ⟨s.doStageTick (vins.map BitVec.toNat) vaux.toNat vfeed.toNat power.toNat,
      congrArg Host.Outcome.next (hw.awake.bootedDo fun s => s.doStageTick (vins.map BitVec.toNat) vaux.toNat vfeed.toNat power.toNat), ?_⟩
    obtain ⟨hshows, hst, hentry⟩ := hs.doStageTick_outcome hx hstop hreq hstage hvin hv hf vaux.isLt vfeed.isLt power.isLt
    exact ⟨hst, hshows.vinStage, hshows.vin, hshows.least, hshows.aux, hshows.feed, hshows.power, hentry,
      (State.doStageTick_kept s _ _ _ _ (hs.kept 67108814) rfl).clk rfl, fun hle hopened hover =>
        hs.doStageTick_quiet hx hstop hstage hreq hvin hv hf hle hopened hover vaux.isLt vfeed.isLt power.isLt⟩
  · exact ⟨_, hw.awake.next_keeperDo State.doStageRestore, hs.doStageRestore_outcome hfs hforce hstage hcxOn⟩
  · refine (hw.awake.next_keeperDo State.doStageRestore).trans (congrArg _ (if_neg fun hc => ?_))
    omega
  · exact hw.forceStage_outcome p k
  · exact ⟨_, hw.next_cxDo State.doSheddingNotice, hs.doSheddingNotice_outcome hfs hdue hid hcx⟩
  · refine (hw.next_cxDo State.doSheddingNotice).trans (congrArg _ (if_neg ?_))
    rcases h with h | h <;> simp [h]
end

section
/-! SUPPORT. What a lane that leaves UP changes (R266, R267, R283). -/

namespace Sys2Proof.Machine

/-- From r to t registers of l may have changed outside QUE, FAU and PMC, and no lane's state. -/
structure LinkMoved (l : List Nat) (r t : State) : Prop where
  main : MainKept 710 l r t
  state : ∀ n < 24, t.rd F.LNK_LANE_STAT_STATE n = r.rd F.LNK_LANE_STAT_STATE n

section
variable {l : List Nat} {r t u : State}

theorem LinkMoved.refl (h : r.Sound) (l : List Nat) : LinkMoved l r r := ⟨MainKept.refl h _ _, fun _ _ => rfl⟩

variable (h : LinkMoved l r t)
include h

theorem LinkMoved.trans (g : LinkMoved l t u) : LinkMoved l r u :=
  ⟨h.main.trans g.main, fun n hn => (g.state n hn).trans (h.state n hn)⟩

theorem LinkMoved.laneUp {n : Nat} (hn : n < 24) : t.laneUp n = r.laneUp n := by rw [State.laneUp, h.state n hn, State.laneUp]

/-- A change of no register. -/
theorem LinkMoved.quiet (g : Kept 710 t t → Kept 710 t u) (e : u.regs = t.regs) : LinkMoved l r u :=
  h.trans ⟨(MainKept.refl h.main.kept.sound _ _).of_regs (g (h.main.kept.sound.kept _)) e,
    fun _ _ => by rw [State.rd, State.regGet, e, State.rd, State.regGet]⟩

/-- A write outside the lanes' states. -/
theorem LinkMoved.wr {f : Fld} {i : Nat} (hf : f.addr i ∈ l) (hst : ∀ n < 24, f.addr i = F.LNK_LANE_STAT + 4 * n → 2 ≤ f.lo) (v : Nat) :
    LinkMoved l r (t.wr f i v) := by
  refine h.trans ⟨(MainKept.refl h.main.kept.sound _ _).wr rfl f i (.inl hf) v, fun n hn => ?_⟩
  refine State.rd_wr_ne h.main.kept.regs _ _ _ _ _ ?_
  by_cases ha : f.addr i = F.LNK_LANE_STAT + 4 * n
  · exact .inr (.inl (hst n hn ha))
  · exact .inl fun e => ha e.symm

/-- A write of another register. -/
theorem LinkMoved.wrApart {f : Fld} {i : Nat} (hf : f.addr i ∈ l) (hst : ∀ n < 24, f.addr i ≠ F.LNK_LANE_STAT + 4 * n) (v : Nat) :
    LinkMoved l r (t.wr f i v) := h.wr hf (fun n hn e => absurd e (hst n hn)) v

theorem LinkMoved.report (c d e : Nat) : LinkMoved l r (t.report c d e) :=
  h.trans ⟨(MainKept.refl h.main.kept.sound _ _).report rfl c d e, fun n hn =>
    State.rd_of_regGet (((MainKept.refl h.main.kept.sound 710 []).report rfl c d e).main _
      (.inr (by simp only [Fld.addr]; omega)) (by simp only [Fld.addr]; omega) List.not_mem_nil)⟩

theorem LinkMoved.forEach {x : Type} {f : State → x → State} {xs : List x} (hf : ∀ t, ∀ y ∈ xs, LinkMoved l r t → LinkMoved l r (f t y)) :
    LinkMoved l r (t.forEach xs f) := State.forEach_induction (P := LinkMoved l r) h fun t y hy ht => hf t y hy ht

theorem LinkMoved.when {c : Prop} [Decidable c] (g : LinkMoved l r t → LinkMoved l r u) : LinkMoved l r (if c then u else t) := by
  split
  · exact g h
  · exact h

theorem LinkMoved.unless {c : Prop} [Decidable c] (g : LinkMoved l r t → LinkMoved l r u) : LinkMoved l r (if c then t else u) := by
  split
  · exact h
  · exact g h

end

/-! ### Frames that find another lane (R283) -/

theorem State.bestLane_mem {s : State} {ns : List Nat} {n : Nat} (h : s.bestLane ns = some n) : n ∈ ns := by
  refine (foldl_eq_some_mem (fun o x => ?_) _ h).elim (fun h => by cases h) id
  cases o with
  | none => exact .inl rfl
  | some b =>
    dsimp only
    split
    · exact .inl rfl
    · exact .inr rfl

/-- The lane that a frame finds is one of its path. -/
theorem State.lane_of_path {s : State} {p n : Nat} (hp : p < 2) (h : (s.earliestLane p).or (s.bestLane (s.upLanes p)) = some n) : n < 24 := by
  have hmem : n ∈ s.upLanes p := (Option.or_eq_some_iff.1 h).elim State.upLanes_of_earliestLane fun h => State.bestLane_mem h.2
  have hrange := (State.mem_upLanes.1 hmem).1
  omega

theorem LinkMoved.onLane {l : List Nat} {r t : State} (h : LinkMoved l r t) (n : Nat) (f : Lane → Lane) : LinkMoved l r (t.onLane n f) :=
  h.quiet (fun k => State.onLane_kept _ _ _ k rfl) rfl

section
variable {l : List Nat} {r t : State} (h : LinkMoved l r t) (hstat : ∀ n < 24, F.LNK_LANE_STAT + 4 * n ∈ l)
include h hstat

theorem LinkMoved.setSub {f : Fld} (hf : f.base = F.LNK_LANE_STAT) (hd : f.stride = 4) (hlo : 2 ≤ f.lo) {n : Nat} (hn : n < 24) (v : Nat) :
    LinkMoved l r (t.wr f n v) :=
  h.wr (by rw [Fld.addr, hf, hd]; exact hstat n hn) (fun _ _ _ => hlo) v

theorem LinkMoved.putOnLane {n : Nat} (hn : n < 24) (f : TxFrame) : LinkMoved l r (t.putOnLane n f) :=
  (h.onLane n _).when fun k => (k.setSub hstat (f := F.LNK_LANE_STAT_TX_SUB) rfl rfl (by decide) hn 2).onLane n _

variable (hdiscard : ∀ c < 4, F.LNK_TX_DISCARD_COUNT.addr c ∈ l)
include hdiscard

omit hstat in
theorem LinkMoved.addDiscard {c : Nat} (hc : c < 4) (n : Nat) : LinkMoved l r (t.satAdd F.LNK_TX_DISCARD_COUNT c n) :=
  h.wrApart (f := F.LNK_TX_DISCARD_COUNT) (hdiscard c hc) (fun n hn => by simp only [Fld.addr, F.LNK_LANE_STAT]; omega) _

omit hstat in
theorem LinkMoved.txDiscard (c : Nat) : LinkMoved l r (t.txDiscard c) := h.addDiscard hdiscard (Nat.mod_lt _ (by decide)) 1

theorem LinkMoved.assignFrame {p : Nat} (hp : p < 2) (f : TxFrame) : LinkMoved l r (t.assignFrame p f) := by
  unfold State.assignFrame
  dsimp only
  split
  · exact h.quiet (fun k => State.putOnSlot_kept _ _ _ k rfl) rfl
  · split
    · exact h.txDiscard hdiscard 0
    · split
      case h_1 n hlane => exact h.putOnLane hstat (State.lane_of_path hp hlane) _
      case h_2 => exact h.txDiscard hdiscard _

theorem LinkMoved.rehome {p : Nat} (hp : p < 2) (f : TxFrame) : LinkMoved l r (t.rehome p f) := by
  have hread : LinkMoved l r (t.moveRead (1 - p) f) := h.quiet (fun k => State.moveRead_kept _ _ _ k rfl) (by unfold State.moveRead; split <;> rfl)
  unfold State.rehome
  split
  · exact h.assignFrame hstat hdiscard hp f
  · split
    · exact hread.assignFrame hstat hdiscard (by omega) f
    · exact h.txDiscard hdiscard _

omit hstat in
theorem LinkMoved.dropHeld (p : Nat) : LinkMoved l r (t.dropHeld p) := by
  have hcounted := h.forEach (xs := [0, 1, 2, 3]) (f := fun s c => s.satAdd F.LNK_TX_DISCARD_COUNT c (s.lnk.held.getD (2 * c + p) []).length)
    fun u c hc hu => hu.addDiscard hdiscard (by simp at hc; omega) _
  unfold State.dropHeld
  exact hcounted.quiet (fun k => mk_kept (K := 128) k rfl rfl rfl rfl rfl rfl rfl rfl) rfl

end

theorem LinkMoved.dropRound {l : List Nat} {r t : State} (h : LinkMoved l r t) {p : Nat} (hp : F.TIM_PATH_CNT_REJECTED.addr p ∈ l) :
    LinkMoved l r (t.dropRound p) := by
  refine h.when fun k => ?_
  have hround : LinkMoved l r (t.onTim fun x => { x with rounds := x.rounds.set p none }) := k.quiet (fun k => State.onTim_kept _ _ k rfl) rfl
  exact hround.wrApart (f := F.TIM_PATH_CNT_REJECTED) hp (fun n hn => by simp only [Fld.addr, F.LNK_LANE_STAT]; omega) _

end Sys2Proof.Machine
end

section
/-! SUPPORT. Lanes and paths that go off and start again (R266, R267). -/

namespace Sys2Proof.Machine

/-- The registers of laneDownRegs (R266). -/
theorem laneDown_mem {l : List Nat} {n : Nat} (hl : laneDownRegs n ⊆ l) : F.LNK_EVT ∈ l ∧ F.TIM_PATH_CNT_REJECTED.addr (n / 12) ∈ l ∧
    (∀ k < 24, F.LNK_LANE_STAT + 4 * k ∈ l) ∧ ∀ c < 4, F.LNK_TX_DISCARD_COUNT.addr c ∈ l := by
  refine ⟨hl (by simp [laneDownRegs]), hl (by simp [laneDownRegs]), fun k hk => hl ?_, fun c hc => hl ?_⟩
  · exact List.mem_cons_of_mem _ (List.mem_cons_of_mem _ (List.mem_append_left _ (List.mem_map.2 ⟨k, List.mem_range.2 hk, rfl⟩)))
  · exact List.mem_cons_of_mem _ (List.mem_cons_of_mem _ (List.mem_append_right _ (List.mem_map.2 ⟨c, List.mem_range.2 hc, rfl⟩)))

theorem LinkMoved.flagEvt {l : List Nat} {r t : State} (h : LinkMoved l r t) (hl : F.LNK_EVT ∈ l) (k : Nat) :
    LinkMoved l r (t.flag F.LNK_EVT k) :=
  h.trans ⟨(MainKept.refl h.main.kept.sound _ _).flag rfl (.inl hl) k, fun n _ =>
    State.rd_of_regGet ((h.main.kept.sound.regGet_flag _ _ _).trans (if_neg (by simp only [Fld.addr, F.LNK_EVT]; omega)))⟩

/-- From r to t the registers of l may have changed outside QUE, FAU and PMC, and the states of the lanes are given by f. -/
structure LanesSet (l : List Nat) (f : Nat → Nat) (r t : State) : Prop where
  main : MainKept 710 l r t
  state : ∀ n < 24, t.rd F.LNK_LANE_STAT_STATE n = f n

theorem LinkMoved.lanesSet {l : List Nat} {f : Nat → Nat} {r t u : State} (h : LinkMoved l t u) (g : LanesSet l f r t) : LanesSet l f r u :=
  ⟨g.main.trans h.main, fun n hn => (h.state n hn).trans (g.state n hn)⟩

theorem LanesSet.congr {l : List Nat} {f g : Nat → Nat} {r t : State} (h : LanesSet l f r t) (e : ∀ n < 24, f n = g n) : LanesSet l g r t :=
  ⟨h.main, fun n hn => (h.state n hn).trans (e n hn)⟩

theorem LanesSet.refl {s : State} (hs : s.Sound) (l : List Nat) : LanesSet l (fun n => s.rd F.LNK_LANE_STAT_STATE n) s s :=
  ⟨MainKept.refl hs _ _, fun _ _ => rfl⟩

section
variable {l : List Nat} {f : Nat → Nat} {r t : State} (h : LanesSet l f r t) {n : Nat} (hn : n < 24)
include h

theorem LanesSet.quiet {u : State} (g : Kept 710 t t → Kept 710 t u) (e : u.regs = t.regs) : LanesSet l f r u :=
  ((LinkMoved.refl h.main.kept.sound l).quiet g e).lanesSet h

theorem LanesSet.setLaneState (hl : F.LNK_LANE_STAT + 4 * n ∈ l) {st : Nat} (hst : st < 4) :
    LanesSet l (Function.update f n st) r (t.setLaneState n st) := by
  refine ⟨h.main.wr rfl F.LNK_LANE_STAT_STATE n (.inl hl) st, fun k hk => ?_⟩
  by_cases hkn : k = n
  · rw [hkn, Function.update_self, State.setLaneState, State.rd_wr h.main.kept.regs _ _ _ (by decide)]
    exact Nat.mod_eq_of_lt hst
  · rw [Function.update_of_ne hkn, State.setLaneState, State.rd_wr_ne h.main.kept.regs _ _ _ _ _ (.inl (by simp only [Fld.addr]; omega))]
    exact h.state k hk

include hn

/-- A lane that leaves UP. -/
theorem LanesSet.leaveUp (hl : laneDownRegs n ⊆ l) {st : Nat} (hst : st < 4) (seen : Bool) :
    LanesSet l (Function.update f n st) r (t.leaveUp n st seen) := by
  obtain ⟨hevt, hround, hstat, hdiscard⟩ := laneDown_mem hl
  have hp : n / 12 < 2 := by omega
  have hrun : LanesSet l f r (t.laneRun n) := h.quiet (fun k => State.laneRun_kept _ n k rfl) (by unfold State.laneRun; split <;> rfl)
  refine LinkMoved.lanesSet ?_ (hrun.setLaneState (hstat n hn) hst)
  have hrefl := LinkMoved.refl (hrun.setLaneState (hstat n hn) hst).main.kept.sound l
  have hsub {u : State} (hu : LinkMoved l ((t.laneRun n).setLaneState n st) u) :
      LinkMoved l ((t.laneRun n).setLaneState n st) ((u.wr F.LNK_LANE_STAT_TX_SUB n 0).wr F.LNK_LANE_STAT_RX_SUB n 0) :=
    (hu.setSub hstat (f := F.LNK_LANE_STAT_TX_SUB) rfl rfl (by decide) hn 0).setSub hstat (f := F.LNK_LANE_STAT_RX_SUB) rfl rfl
      (by decide) hn 0
  unfold State.leaveUp
  refine LinkMoved.when (LinkMoved.when (LinkMoved.unless (LinkMoved.forEach (hsub ?_) fun u x _ hu => hu.rehome hstat hdiscard hp x)
    fun k => k.dropHeld hdiscard _) fun k => k.dropRound hround) fun k => k.report _ _ _
  exact (hrefl.when fun k => k.flagEvt hevt 0).onLane n _

theorem LanesSet.laneOff (hl : laneDownRegs n ⊆ l) : LanesSet l (Function.update f n 0) r (t.laneOff n) := by
  unfold State.laneOff
  split
  · exact h.leaveUp hn hl (by decide) false
  · exact (h.setLaneState ((laneDown_mem hl).2.2.1 n hn) (by decide)).quiet (fun k => State.onLane_kept _ _ _ k rfl) rfl

/-- A lane switched off, or its path. -/
theorem LanesSet.switchOff (hl : laneDownRegs n ⊆ l) :
    LanesSet l (Function.update f n 0) r (if t.laneUp n then t.leaveUp n 0 true else t.laneOff n) := by
  split
  · exact h.leaveUp hn hl (by decide) true
  · exact h.laneOff hn hl

end

/-- Lanes switched off one after the other. -/
theorem LanesSet.switchAllOff {l : List Nat} {f : Nat → Nat} {r t : State} (h : LanesSet l f r t) (xs : List Nat)
    (hxs : ∀ n ∈ xs, n < 24 ∧ laneDownRegs n ⊆ l) :
    LanesSet l (fun k => if k ∈ xs then 0 else f k) r
      (t.forEach xs fun s n => if s.laneUp n then s.leaveUp n 0 true else s.laneOff n) := by
  induction xs generalizing t f with
  | nil => exact h.congr fun n _ => by simp
  | cons x xs ih =>
    obtain ⟨hx, hl⟩ := hxs x List.mem_cons_self
    refine (ih (h.switchOff hx hl) fun n hn => hxs n (List.mem_cons_of_mem _ hn)).congr fun n _ => ?_
    by_cases hnx : n = x <;> by_cases hmem : n ∈ xs <;> simp [hnx, hmem, Function.update]

/-! ### Lanes that start BRINGUP -/

/-- What the registers show of a lane's new attempt (R257). -/
def State.attemptShown (s : State) (n : Nat) : State :=
  (((s.freeScr.2.setLaneState n 1).wr F.LNK_LANE_STAT_MISMATCH n 0).wr F.LNK_LANE_STAT_TX_SUB n 0).wr F.LNK_LANE_STAT_RX_SUB n 0

theorem State.startAttempt_eq {s : State} {n : Nat} (hok : s.laneAllowed n = true) (hpll : (s.lane n).pll = true) :
    ∃ f : Lane → Lane, s.startAttempt n = ((s.attemptShown n).onLane n f).train n ∧ ∀ x, (f x).attempt = (x.attempt + 1) % 2 ^ 32 :=
  ⟨_, if_neg (by rw [hok, hpll]; decide), fun _ => rfl⟩

section
variable {l : List Nat} {s : State} (hs : s.Sound) {n : Nat} (hn : n < 24) (hl : F.LNK_LANE_STAT + 4 * n ∈ l)
include hs hl

theorem State.Sound.attemptShown_set :
    LanesSet l (Function.update (fun k => s.rd F.LNK_LANE_STAT_STATE k) n 1) s (s.attemptShown n) := by
  have hfree : LanesSet l (fun k => s.rd F.LNK_LANE_STAT_STATE k) s s.freeScr.2 :=
    (LanesSet.refl hs l).quiet (fun k => State.freeScr_kept _ k rfl) rfl
  have hset := hfree.setLaneState (n := n) hl (st := 1) (by decide)
  have hstat : ∀ f : Fld, f.base = F.LNK_LANE_STAT → f.stride = 4 → f.addr n ∈ l := fun f hf hd => by
    rw [Fld.addr, hf, hd]
    exact hl
  exact ((((LinkMoved.refl hset.main.kept.sound l).wr (hstat _ rfl rfl) (fun _ _ _ => by decide) 0).wr (hstat _ rfl rfl)
    (fun _ _ _ => by decide) 0).wr (hstat _ rfl rfl) (fun _ _ _ => by decide) 0).lanesSet hset

/-- A lane that may run starts its next attempt. -/
theorem State.Sound.startAttempt_set (hok : s.laneAllowed n = true) (hpll : (s.lane n).pll = true) :
    LanesSet l (Function.update (fun k => s.rd F.LNK_LANE_STAT_STATE k) n 1) s (s.startAttempt n) := by
  obtain ⟨f, hf, -⟩ := State.startAttempt_eq hok hpll
  have hshown := hs.attemptShown_set hl
  rw [hf]
  obtain ⟨u, hu⟩ : ∃ u, u = s.attemptShown n := ⟨_, rfl⟩
  rw [← hu] at hshown ⊢
  have hon := (LinkMoved.refl hshown.main.kept.sound l).onLane n f
  exact (hon.quiet (fun k => State.train_kept _ n k rfl)
    ((State.train_kept _ n (hon.main.kept.sound.kept 128) rfl).regs_eq rfl)).lanesSet hshown



/-- No lane comes UP by it. -/
theorem State.Sound.laneStart_states : MainKept 710 l s (s.laneStart n) ∧
    ∀ k < 24, (s.laneStart n).rd F.LNK_LANE_STAT_STATE k = s.rd F.LNK_LANE_STAT_STATE k ∨ (s.laneStart n).rd F.LNK_LANE_STAT_STATE k = 1 := by
  have hsame : MainKept 710 l s s ∧ ∀ k < 24, s.rd F.LNK_LANE_STAT_STATE k = s.rd F.LNK_LANE_STAT_STATE k ∨ s.rd F.LNK_LANE_STAT_STATE k = 1 :=
    ⟨MainKept.refl hs _ _, fun _ _ => .inl rfl⟩
  unfold State.laneStart
  split
  · by_cases hrun : s.laneAllowed n = true ∧ (s.lane n).pll = true
    · have hset := hs.startAttempt_set hl hrun.1 hrun.2
      refine ⟨hset.main, fun k hk => ?_⟩
      rw [hset.state k hk]
      by_cases hkn : k = n
      · exact .inr (by rw [hkn, Function.update_self])
      · exact .inl (Function.update_of_ne hkn _ _)
    · have hnot : s.startAttempt n = s := if_pos (by
        cases hok : s.laneAllowed n <;> cases hpll : (s.lane n).pll <;> simp_all)
      rw [hnot]
      exact hsame
  · exact hsame

end
end Sys2Proof.Machine
end

section
/-! SUPPORT. What admission reads (R285, R288), and a write of LNK_PATH_CFG (R267, R269). -/

namespace Sys2Proof.Machine

/-- Admission reads nothing of the block LNK below 0x241000 but the rates and the lanes' EN. -/
theorem State.admitCfg_of_rd {s t : State} (hrd : ∀ (g : Fld) (j : Nat), g.addr j < 0x240000 ∨ 0x241000 ≤ g.addr j → t.rd g j = s.rd g j)
    (ha : t.rd F.LNK_PATH_CFG_RATE_A = s.rd F.LNK_PATH_CFG_RATE_A) (hb : t.rd F.LNK_PATH_CFG_RATE_B = s.rd F.LNK_PATH_CFG_RATE_B)
    (hen : ∀ n < 24, t.rd F.LNK_LANE_CTL_EN n = s.rd F.LNK_LANE_CTL_EN n) (hstream : t.stream = s.stream) : t.admitCfg = s.admitCfg := by
  have hmodes : ((List.range 64).map fun ch => t.rd F.CDC_STREAM_MODE_ACTIVE ch) = (List.range 64).map fun ch => s.rd F.CDC_STREAM_MODE_ACTIVE ch :=
    List.map_congr_left fun ch hch => hrd _ _ (.inl (by have := List.mem_range.1 hch; simp only [Fld.addr]; omega))
  have hdecims : ((List.range 64).map fun ch => t.rd F.FLT_CHAIN_DECIM ch) = (List.range 64).map fun ch => s.rd F.FLT_CHAIN_DECIM ch :=
    List.map_congr_left fun ch hch => hrd _ _ (.inl (by have := List.mem_range.1 hch; simp only [Fld.addr]; omega))
  have hlanes : bitMap 24 (fun n => t.rdB F.LNK_LANE_CTL_EN n || n == 0 || n == 12) =
      bitMap 24 fun n => s.rdB F.LNK_LANE_CTL_EN n || n == 0 || n == 12 := by
    refine List.foldl_ext _ _ _ fun m n hn => ?_
    have hbit : (t.rdB F.LNK_LANE_CTL_EN n || n == 0 || n == 12) = (s.rdB F.LNK_LANE_CTL_EN n || n == 0 || n == 12) := by
      simp only [State.rdB, hen n (List.mem_range.1 hn)]
    exact congrArg (fun b : Bool => if b then m + 2 ^ n else m) hbit
  have hunits : t.unitMap = s.unitMap := by
    rw [State.unitMap, hrd _ 0 (.inl (by decide)), hrd _ 1 (.inl (by decide)), State.unitMap]
  have hrest : t.rd F.LNK_CLASS_POL_C2_POL = s.rd F.LNK_CLASS_POL_C2_POL ∧ t.rd F.LNK_CLASS_POL_SPLIT_MAP = s.rd F.LNK_CLASS_POL_SPLIT_MAP ∧
      t.rdB F.PRM_DELIVERY_C2_MEM = s.rdB F.PRM_DELIVERY_C2_MEM ∧ t.rdB F.PRM_STAT_COMMITTED = s.rdB F.PRM_STAT_COMMITTED ∧
      t.rd F.LNK_MEM_CFG_PATH = s.rd F.LNK_MEM_CFG_PATH := by
    simp only [State.rdB]
    refine ⟨?_, ?_, ?_, ?_, ?_⟩
    · exact hrd _ _ (.inr (by decide))
    · exact hrd _ _ (.inr (by decide))
    · rw [hrd _ _ (.inr (by decide))]
    · rw [hrd _ _ (.inr (by decide))]
    · exact hrd _ _ (.inr (by decide))
  obtain ⟨hpol, hsplit, hmem, hcommit, hpath⟩ := hrest
  simp only [State.admitCfg, hmodes, hdecims, hlanes, hunits, hpol, hsplit, hmem, hcommit, hpath, ha, hb, hstream]

/-- IDLE_US as LNK_PATH_CFG takes it (R269). -/
def State.idleShown (s : State) (w : Word) : State := s.wr F.LNK_PATH_CFG_IDLE_US 0 (min 1000 (getField w 8 10))

section
variable {s : State} (hs : s.Sound) {w : Word}
include hs

theorem State.Sound.locCx_wr {f : Fld} {i v : Nat} (hf : f.addr i ≠ F.MGT_MODULE_ID) : (s.wr f i v).locCx = s.locCx := by
  have hid : (s.wr f i v).moduleId = s.moduleId := State.rd_wr_ne hs.regs _ _ _ _ _ (.inl fun e => hf e.symm)
  rw [State.locCx, State.locDie, State.loc, hid, State.locCx, State.locDie, State.loc]

theorem State.Sound.idleShown_admit : (s.idleShown w).admitCfg = s.admitCfg := by
  refine State.admitCfg_of_rd (fun g j hg => State.rd_wr_ne hs.regs _ _ _ _ _ (.inl ?_)) ?_ ?_ (fun n hn => ?_) rfl
  · simp only [Fld.addr] at hg ⊢
    omega
  · exact State.rd_wr_ne hs.regs _ _ _ _ _ (.inr (by decide))
  · exact State.rd_wr_ne hs.regs _ _ _ _ _ (.inr (by decide))
  · exact State.rd_wr_ne hs.regs _ _ _ _ _ (.inl (by simp only [Fld.addr]; omega))

end

/-- The paths whose rate a write of LNK_PATH_CFG changes. -/
def State.newRates (s : State) (w : Word) : List Nat :=
  (if getField w 0 2 = s.rd F.LNK_PATH_CFG_RATE_A then [] else [0]) ++ if getField w 2 2 = s.rd F.LNK_PATH_CFG_RATE_B then [] else [1]

/-- The rates that such a write stores. -/
def State.ratesShown (s : State) (w : Word) : State :=
  (s.wr F.LNK_PATH_CFG_RATE_A 0 (getField w 0 2)).wr F.LNK_PATH_CFG_RATE_B 0 (getField w 2 2)

/-- What it does once admission lets it. -/
def State.takeRates (s : State) (w : Word) (ps : List Nat) : State :=
  ((s.forEach ps State.stopPath).ratesShown w).forEach ps fun s p => ((s.loadLat p).startPath p).dropRound p

theorem State.writePathCfg_eq {s : State} {w : Word} (ha : getField w 0 2 ≠ 3) (hb : getField w 2 2 ≠ 3) :
    s.writePathCfg w = (s.idleShown w).judge
      (AdmitCfg.refusedBy { (s.idleShown w).admitCfg with rateA := getField w 0 2, rateB := getField w 2 2 } (s.idleShown w).clk.fs)
      (fun u p => if getField w 0 2 = s.rd F.LNK_PATH_CFG_RATE_A ∧ getField w 2 2 = s.rd F.LNK_PATH_CFG_RATE_B then u else u.admitFault p)
      fun u => u.takeRates w (s.newRates w) := if_neg (not_or.2 ⟨ha, hb⟩)

section
variable {s : State} (hs : s.Sound) {w : Word}
include hs

/-- A rate code of 3 is a configuration fault. -/
theorem State.Sound.writePathCfg_fault (h : getField w 0 2 = 3 ∨ getField w 2 2 = 3) :
    s.writePathCfg w = (s.idleShown w).configFault s.locCx F.LNK_PATH_CFG := by
  have hloc : (s.idleShown w).locCx = s.locCx := hs.locCx_wr (by decide)
  rw [← hloc]
  exact if_pos h

theorem State.Sound.ratesShown_values : (s.ratesShown w).rd F.LNK_PATH_CFG_RATE_A = getField w 0 2 ∧
    (s.ratesShown w).rd F.LNK_PATH_CFG_RATE_B = getField w 2 2 := by
  have hwa := State.wf_wr hs.regs F.LNK_PATH_CFG_RATE_A 0 (getField w 0 2)
  constructor
  · rw [State.ratesShown, State.rd_wr_ne hwa _ _ _ _ _ (.inr (by decide)), State.rd_wr hs.regs _ _ _ (by decide)]
    exact Nat.mod_eq_of_lt (getField_lt _ _ _)
  · rw [State.ratesShown, State.rd_wr hwa _ _ _ (by decide)]
    exact Nat.mod_eq_of_lt (getField_lt _ _ _)

variable (ha : getField w 0 2 ≠ 3) (hb : getField w 2 2 ≠ 3)
include ha hb

/-- A refused rate change is an admission fault. -/
theorem State.Sound.writePathCfg_refused (hne : getField w 0 2 ≠ s.rd F.LNK_PATH_CFG_RATE_A) {q : Nat}
    (hq : AdmitCfg.refusedBy { s.admitCfg with rateA := getField w 0 2, rateB := getField w 2 2 } s.clk.fs = some q) :
    s.writePathCfg w = (s.idleShown w).admitFault q := by
  have hfs : (s.idleShown w).clk.fs = s.clk.fs := rfl
  rw [State.writePathCfg_eq ha hb, hs.idleShown_admit, hfs, hq]
  exact if_neg fun h => hne h.1

theorem State.Sound.writePathCfg_taken (hok : AdmitCfg.refusedBy { s.admitCfg with rateA := getField w 0 2, rateB := getField w 2 2 } s.clk.fs = none) :
    s.writePathCfg w = (s.idleShown w).takeRates w (s.newRates w) := by
  have hfs : (s.idleShown w).clk.fs = s.clk.fs := rfl
  rw [State.writePathCfg_eq ha hb, hs.idleShown_admit, hfs, hok]
  rfl

/-- With both rates as they are, IDLE_US alone is stored. -/
theorem State.Sound.writePathCfg_idle (hA : getField w 0 2 = s.rd F.LNK_PATH_CFG_RATE_A) (hB : getField w 2 2 = s.rd F.LNK_PATH_CFG_RATE_B) :
    Kept 4 s (s.writePathCfg w) ∧ (s.writePathCfg w).rd F.LNK_PATH_CFG_IDLE_US = min 1000 (getField w 8 10) ∧
      (s.writePathCfg w).rd F.LNK_PATH_CFG_RATE_A = getField w 0 2 ∧ (s.writePathCfg w).rd F.LNK_PATH_CFG_RATE_B = getField w 2 2 ∧
      s.sameRegs (s.writePathCfg w) [F.LNK_PATH_CFG] := by
  have hidle : Kept 4 s (s.idleShown w) := State.wr_kept s _ _ _ (hs.kept _) rfl
  have hus : (s.idleShown w).rd F.LNK_PATH_CFG_IDLE_US = min 1000 (getField w 8 10) :=
    (State.rd_wr hs.regs _ _ _ (by decide)).trans (Nat.mod_eq_of_lt (by simp only; omega))
  have hsame : s.sameRegs (s.idleShown w) [F.LNK_PATH_CFG] := State.sameRegs_wr hs.regs _ _ _
  have hrates : (s.idleShown w).rd F.LNK_PATH_CFG_RATE_A = getField w 0 2 ∧ (s.idleShown w).rd F.LNK_PATH_CFG_RATE_B = getField w 2 2 := by
    rw [hA, hB]
    exact ⟨State.rd_wr_ne hs.regs _ _ _ _ _ (.inr (by decide)), State.rd_wr_ne hs.regs _ _ _ _ _ (.inr (by decide))⟩
  cases hq : AdmitCfg.refusedBy { s.admitCfg with rateA := getField w 0 2, rateB := getField w 2 2 } s.clk.fs with
  | some q =>
    have hfs : (s.idleShown w).clk.fs = s.clk.fs := rfl
    have hnone : s.writePathCfg w = s.idleShown w := by
      rw [State.writePathCfg_eq ha hb, hs.idleShown_admit, hfs, hq]
      exact if_pos ⟨hA, hB⟩
    rw [hnone]
    exact ⟨hidle, hus, hrates.1, hrates.2, hsame⟩
  | none =>
    have hps : s.newRates w = [] := by rw [State.newRates, if_pos hA, if_pos hB, List.append_nil]
    have hset : s.writePathCfg w = (s.idleShown w).ratesShown w := by
      rw [hs.writePathCfg_taken ha hb hq, hps]
      rfl
    have hwa := State.wf_wr hidle.regs F.LNK_PATH_CFG_RATE_A 0 (getField w 0 2)
    rw [hset]
    refine ⟨State.wr_kept _ _ _ _ (State.wr_kept _ _ _ _ hidle rfl) rfl, ?_, ?_, ?_, ?_⟩
    · rw [State.ratesShown, State.rd_wr_ne hwa _ _ _ _ _ (.inr (by decide)), State.rd_wr_ne hidle.regs _ _ _ _ _ (.inr (by decide)), hus]
    · exact hidle.sound.ratesShown_values.1
    · exact hidle.sound.ratesShown_values.2
    · exact (hsame.trans (State.sameRegs_wr hidle.regs _ _ _)).trans (State.sameRegs_wr hwa _ _ _)

end
end Sys2Proof.Machine
end

section
/-! SUPPORT. A rate that changes (R267). -/

namespace Sys2Proof.Machine

/-- The registers that lanes which stop and start again at a new rate may write outside QUE, FAU and PMC. -/
def restartRegs : List Nat := [F.TIM_LAT_RX_UI.addr 0, F.TIM_LAT_RX_UI.addr 1] ++ (List.range 24).flatMap laneDownRegs

theorem laneDown_restartRegs {n : Nat} (hn : n < 24) : laneDownRegs n ⊆ restartRegs := fun _ hb =>
  List.mem_append_right _ (List.mem_flatMap.2 ⟨n, List.mem_range.2 hn, hb⟩)

theorem restartRegs_mem : (∀ k < 24, F.LNK_LANE_STAT + 4 * k ∈ restartRegs) ∧ ∀ p < 2, F.TIM_PATH_CNT_REJECTED.addr p ∈ restartRegs := by
  refine ⟨(laneDown_mem (laneDown_restartRegs (n := 0) (by decide))).2.2.1, fun p hp => ?_⟩
  rcases (by omega : p = 0 ∨ p = 1) with rfl | rfl
  · exact (laneDown_mem (laneDown_restartRegs (n := 0) (by decide))).2.1
  · exact (laneDown_mem (laneDown_restartRegs (n := 12) (by decide))).2.1

/-- From r to t lanes may have started again, and no lane of path A is UP. -/
structure PathDown (r t : State) : Prop where
  main : MainKept 710 restartRegs r t
  down : ∀ n < 12, t.laneUp n = false

section
variable {r t : State}

theorem PathDown.moved {u : State} (h : PathDown r t) (g : LinkMoved restartRegs t u) : PathDown r u :=
  ⟨h.main.trans g.main, fun n hn => (g.laneUp (by omega)).trans (h.down n hn)⟩

theorem PathDown.laneStart (h : PathDown r t) {n : Nat} (hn : n < 24) : PathDown r (t.laneStart n) := by
  obtain ⟨hmain, hst⟩ := h.main.kept.sound.laneStart_states (l := restartRegs) (restartRegs_mem.1 n hn)
  refine ⟨h.main.trans hmain, fun k hk => ?_⟩
  have hdown := h.down k hk
  rw [State.laneUp, beq_eq_false_iff_ne] at hdown ⊢
  rcases hst k (by omega) with e | e <;> omega

theorem PathDown.forEach {x : Type} {f : State → x → State} {xs : List x} (h : PathDown r t)
    (hf : ∀ t, ∀ y ∈ xs, PathDown r t → PathDown r (f t y)) : PathDown r (t.forEach xs f) :=
  State.forEach_induction (P := PathDown r) h fun t y hy ht => hf t y hy ht

/-- The lanes of a path start again at its new rate. -/
theorem PathDown.restart (h : PathDown r t) {p : Nat} (hp : p < 2) : PathDown r (((t.loadLat p).startPath p).dropRound p) := by
  have hlat : F.TIM_LAT_RX_UI.addr p ∈ restartRegs := by
    rcases (by omega : p = 0 ∨ p = 1) with rfl | rfl <;> exact List.mem_append_left _ (by simp)
  have hapart : ∀ n < 24, F.TIM_LAT_RX_UI.addr p ≠ F.LNK_LANE_STAT + 4 * n := fun n hn => by
    simp only [Fld.addr, F.LNK_LANE_STAT]
    omega
  have hload : PathDown r (t.loadLat p) := h.moved (((LinkMoved.refl h.main.kept.sound _).wrApart (f := F.TIM_LAT_TX_UI) hlat hapart _).wrApart
    hlat hapart _)
  have hstart : PathDown r ((t.loadLat p).startPath p) := hload.forEach fun u n hn hu => by
    obtain ⟨i, hi, rfl⟩ := List.mem_map.1 hn
    have := List.mem_range.1 hi
    exact hu.laneStart (by omega)
  exact hstart.moved ((LinkMoved.refl hstart.main.kept.sound _).dropRound (restartRegs_mem.2 p hp))

end

/-- Every lane of a path goes off. -/
theorem LanesSet.stopPath {f : Nat → Nat} {r t : State} (h : LanesSet restartRegs f r t) {p : Nat} (hp : p < 2) :
    LanesSet restartRegs (fun k => if k / 12 = p then 0 else f k) r (t.stopPath p) := by
  refine (h.switchAllOff ((List.range 12).map fun i => 12 * p + i) fun n hn => ?_).congr fun n _ => ?_
  · obtain ⟨i, hi, rfl⟩ := List.mem_map.1 hn
    have := List.mem_range.1 hi
    exact ⟨by omega, laneDown_restartRegs (by omega)⟩
  · have hmem : n ∈ (List.range 12).map (fun i => 12 * p + i) ↔ n / 12 = p := by
      simp only [List.mem_map, List.mem_range]
      exact ⟨fun ⟨i, hi, e⟩ => by omega, fun e => ⟨n - 12 * p, by omega, by omega⟩⟩
    simp only [hmem]

section
variable {s : State} (hs : s.Sound) {w : Word}
include hs

omit hs in
theorem pathCfg_apart : F.LNK_PATH_CFG ∉ restartRegs := by decide +kernel

/-- A change of path A's rate: its lanes are out of UP, and the rates are as written. -/
theorem State.Sound.takeRates_outcome {ps : List Nat} (hps : ps = [0] ∨ ps = [0, 1]) :
    MainKept 710 (F.LNK_PATH_CFG :: restartRegs) s (s.takeRates w ps) ∧ (∀ n < 12, (s.takeRates w ps).laneUp n = false) ∧
      (s.takeRates w ps).rd F.LNK_PATH_CFG_RATE_A = getField w 0 2 ∧ (s.takeRates w ps).rd F.LNK_PATH_CFG_RATE_B = getField w 2 2 := by
  have hstop : ∃ f, LanesSet restartRegs f s (s.forEach ps State.stopPath) ∧ ∀ n < 12, f n = 0 := by
    have hone := (LanesSet.refl hs restartRegs).stopPath (p := 0) (by decide)
    rcases hps with rfl | rfl
    · rw [State.forEach, List.foldl_cons, List.foldl_nil]
      exact ⟨_, hone, fun n hn => if_pos (by omega)⟩
    · rw [State.forEach, List.foldl_cons, List.foldl_cons, List.foldl_nil]
      exact ⟨_, hone.stopPath (p := 1) (by decide), fun n hn => (if_neg (by omega)).trans (if_pos (by omega))⟩
  obtain ⟨f, hset, hzero⟩ := hstop
  have hps2 : ∀ p ∈ ps, p < 2 := by
    rcases hps with rfl | rfl <;> simp
  have hapart : ∀ n < 24, F.LNK_PATH_CFG_RATE_A.addr 0 ≠ F.LNK_LANE_STAT + 4 * n := fun n hn => by
    simp only [Fld.addr, F.LNK_LANE_STAT]
    omega
  have hshown : LinkMoved [F.LNK_PATH_CFG] (s.forEach ps State.stopPath) ((s.forEach ps State.stopPath).ratesShown w) :=
    ((LinkMoved.refl hset.main.kept.sound _).wrApart (f := F.LNK_PATH_CFG_RATE_A) (i := 0) (List.mem_singleton.2 rfl) hapart _).wrApart
      (f := F.LNK_PATH_CFG_RATE_B) (i := 0) (List.mem_singleton.2 rfl) hapart _
  have hdown : PathDown ((s.forEach ps State.stopPath).ratesShown w) ((s.forEach ps State.stopPath).ratesShown w) :=
    ⟨MainKept.refl hshown.main.kept.sound _ _, fun n hn => (hshown.laneUp (by omega)).trans
      (by rw [State.laneUp, hset.state n (by omega), hzero n hn]; rfl)⟩
  have hend : PathDown ((s.forEach ps State.stopPath).ratesShown w) (s.takeRates w ps) := hdown.forEach fun u p hp hu => hu.restart (hps2 p hp)
  obtain ⟨hA, hB⟩ := hset.main.kept.sound.ratesShown_values (w := w)
  refine ⟨?_, hend.down, ?_, ?_⟩
  · exact ((hset.main.mono rfl (List.subset_cons_self _ _)).trans (hshown.main.mono rfl (by simp))).trans
      (hend.main.mono rfl (List.subset_cons_self _ _))
  · refine (State.rd_of_regGet (hend.main.main F.LNK_PATH_CFG (.inr (by decide)) (by decide) pathCfg_apart)).trans hA
  · refine (State.rd_of_regGet (hend.main.main F.LNK_PATH_CFG (.inr (by decide)) (by decide) pathCfg_apart)).trans hB

end
end Sys2Proof.Machine
end

section
/-! SUPPORT. A write of LNK_LANE_CTL (R265, R267). -/

namespace Sys2Proof.Machine

/-- The inversions and S1_KEEP of a lane other than 0 and 12 as a write gives them (R265, R269). -/
def State.laneShown (s : State) (n : Nat) (w : Word) : State :=
  ((s.wr F.LNK_LANE_CTL_TX_INV n (getField w 1 1)).wr F.LNK_LANE_CTL_RX_INV n (getField w 2 1)).wr F.LNK_LANE_CTL_S1_KEEP n (getField w 3 1)

section
variable {s : State} (hs : s.Sound) (n : Nat) (w : Word)
include hs

theorem State.Sound.laneShown_kept : Kept 4 s (s.laneShown n w) :=
  State.wr_kept _ _ _ _ (State.wr_kept _ _ _ _ (State.wr_kept _ _ _ _ (hs.kept _) rfl) rfl) rfl

theorem State.Sound.laneShown_regs : s.sameRegs (s.laneShown n w) [F.LNK_LANE_CTL + 4 * n] := by
  have htx := State.wf_wr hs.regs F.LNK_LANE_CTL_TX_INV n (getField w 1 1)
  have hrx := State.wf_wr htx F.LNK_LANE_CTL_RX_INV n (getField w 2 1)
  exact ((State.sameRegs_wr hs.regs F.LNK_LANE_CTL_TX_INV n _).trans (State.sameRegs_wr htx F.LNK_LANE_CTL_RX_INV n _)).trans
    (State.sameRegs_wr hrx F.LNK_LANE_CTL_S1_KEEP n _)

theorem State.Sound.laneShown_values : (s.laneShown n w).rd F.LNK_LANE_CTL_TX_INV n = getField w 1 1 ∧
    (s.laneShown n w).rd F.LNK_LANE_CTL_RX_INV n = getField w 2 1 ∧ (s.laneShown n w).rd F.LNK_LANE_CTL_S1_KEEP n = getField w 3 1 ∧
    ∀ k, (s.laneShown n w).rd F.LNK_LANE_CTL_EN k = s.rd F.LNK_LANE_CTL_EN k := by
  have htx := State.wf_wr hs.regs F.LNK_LANE_CTL_TX_INV n (getField w 1 1)
  have hrx := State.wf_wr htx F.LNK_LANE_CTL_RX_INV n (getField w 2 1)
  have hbit (lo : Nat) : getField w lo 1 % 2 ^ 1 = getField w lo 1 := Nat.mod_eq_of_lt (getField_lt _ _ _)
  refine ⟨?_, ?_, ?_, fun k => ?_⟩
  · rw [State.laneShown, State.rd_wr_ne hrx _ _ _ _ _ (.inr (by decide)), State.rd_wr_ne htx _ _ _ _ _ (.inr (by decide)),
      State.rd_wr hs.regs _ _ _ (by decide), hbit]
  · rw [State.laneShown, State.rd_wr_ne hrx _ _ _ _ _ (.inr (by decide)), State.rd_wr htx _ _ _ (by decide), hbit]
  · rw [State.laneShown, State.rd_wr hrx _ _ _ (by decide), hbit]
  · rw [State.laneShown, State.rd_wr_ne hrx _ _ _ _ _ (.inr (by decide)), State.rd_wr_ne htx _ _ _ _ _ (.inr (by decide)),
      State.rd_wr_ne hs.regs _ _ _ _ _ (.inr (by decide))]

theorem State.Sound.laneShown_admit (hn : n < 24) : (s.laneShown n w).admitCfg = s.admitCfg := by
  have hsame := hs.laneShown_regs n w
  have hother {g : Fld} {j : Nat} (hg : g.addr j ≠ F.LNK_LANE_CTL + 4 * n) : (s.laneShown n w).rd g j = s.rd g j :=
    State.rd_of_regGet (hsame _ fun hm => hg (List.mem_singleton.1 hm))
  refine State.admitCfg_of_rd (fun g j hg => hother ?_) (hother ?_) (hother ?_) (fun k _ => (hs.laneShown_values n w).2.2.2 k) rfl
  all_goals simp only [Fld.addr, F.LNK_LANE_CTL] at *
  all_goals omega

end

/-- The lanes that admission is asked about (R285). -/
def lanesAsked (c : AdmitCfg) (n en : Nat) : Nat :=
  if en = 1 then c.lanes ||| 2 ^ n else c.lanes - (if c.lanes.testBit n then 2 ^ n else 0)

/-- A lane is switched on or off. -/
def State.switchLane (s : State) (n en : Nat) : State :=
  if en = 1 then (s.wr F.LNK_LANE_CTL_EN n en).laneStart n
  else (if (s.wr F.LNK_LANE_CTL_EN n en).laneUp n then (s.wr F.LNK_LANE_CTL_EN n en).leaveUp n 0 true
    else (s.wr F.LNK_LANE_CTL_EN n en).laneOff n)

theorem State.writeLaneCtl_eq {s : State} {n : Nat} {w : Word} (h0 : n ≠ 0) (h12 : n ≠ 12) (hretrain : getField w 4 1 = 0) :
    s.writeLaneCtl n w =
      if getField w 0 1 = s.rd F.LNK_LANE_CTL_EN n then s.laneShown n w
      else (s.laneShown n w).judge
        (AdmitCfg.refusedBy { (s.laneShown n w).admitCfg with lanes := lanesAsked (s.laneShown n w).admitCfg n (getField w 0 1) }
          (s.laneShown n w).clk.fs) State.admitFault fun u => u.switchLane n (getField w 0 1) := by
  have hfixed : (n == 0 || n == 12) = false := by simp [h0, h12]
  simp only [State.writeLaneCtl, hfixed, hretrain, Bool.false_eq_true, if_false, Nat.zero_ne_one]
  rfl

/-- A new attempt is shown by LNK_LANE_STAT alone. -/
theorem State.Sound.attemptShown_regs {s : State} (hs : s.Sound) (n : Nat) :
    Kept 6 s (s.attemptShown n) ∧ s.sameRegs (s.attemptShown n) [F.LNK_LANE_STAT + 4 * n] := by
  have hfree := State.freeScr_kept s (hs.kept 6) rfl
  have hst := State.wr_kept _ F.LNK_LANE_STAT_STATE n 1 hfree rfl
  have hmis := State.wr_kept _ F.LNK_LANE_STAT_MISMATCH n 0 hst rfl
  have htx := State.wr_kept _ F.LNK_LANE_STAT_TX_SUB n 0 hmis rfl
  refine ⟨State.wr_kept _ F.LNK_LANE_STAT_RX_SUB n 0 htx rfl, ?_⟩
  exact ((((State.sameRegs_of_regs rfl _).trans (State.sameRegs_wr hfree.regs F.LNK_LANE_STAT_STATE n _)).trans
    (State.sameRegs_wr hst.regs F.LNK_LANE_STAT_MISMATCH n _)).trans (State.sameRegs_wr hmis.regs F.LNK_LANE_STAT_TX_SUB n _)).trans
    (State.sameRegs_wr htx.regs F.LNK_LANE_STAT_RX_SUB n _)

section
variable {s : State} (hs : s.Sound) {n : Nat} (hn : n < 24) (h0 : n ≠ 0) (h12 : n ≠ 12) {w : Word} (hretrain : getField w 4 1 = 0)
include hs hn h0 h12 hretrain

/-- What admission answers decides a change of EN. -/
theorem State.Sound.writeLaneCtl_judged (hen : getField w 0 1 ≠ s.rd F.LNK_LANE_CTL_EN n) {v : Option Nat}
    (hv : AdmitCfg.refusedBy { s.admitCfg with lanes := lanesAsked s.admitCfg n (getField w 0 1) } s.clk.fs = v) :
    s.writeLaneCtl n w = (s.laneShown n w).judge v State.admitFault fun u => u.switchLane n (getField w 0 1) := by
  have hfs : (s.laneShown n w).clk.fs = s.clk.fs := rfl
  rw [State.writeLaneCtl_eq h0 h12 hretrain, if_neg hen, hs.laneShown_admit n w hn, hfs, hv]

omit hs h0 h12 hretrain in
/-- A lane switched on from OFF starts its first attempt. -/
theorem State.Sound.switchLane_on {u : State} (hu : u.Sound) (hstate : u.rd F.LNK_LANE_STAT_STATE n = 0) (hpll : (u.lane n).pll = true)
    (hshed : (u.lane n).shed = false) :
    Kept 134 u (u.switchLane n 1) ∧ (u.switchLane n 1).rd F.LNK_LANE_CTL_EN n = 1 ∧ (u.switchLane n 1).rd F.LNK_LANE_STAT_STATE n = 1 ∧
      ((u.switchLane n 1).lane n).attempt = ((u.lane n).attempt + 1) % 2 ^ 32 ∧
      u.sameRegs (u.switchLane n 1) [F.LNK_LANE_CTL + 4 * n, F.LNK_LANE_STAT + 4 * n] := by
  obtain ⟨v, hv⟩ : ∃ v, v = u.wr F.LNK_LANE_CTL_EN n 1 := ⟨_, rfl⟩
  have hvk : Kept 4 u v := hv ▸ State.wr_kept u _ _ _ (hu.kept _) rfl
  have hlane : v.lane n = u.lane n := by rw [State.lane, hvk.lnk rfl, State.lane]
  have hven : v.rd F.LNK_LANE_CTL_EN n = 1 := hv ▸ State.rd_wr hu.regs _ _ _ (by decide)
  have hvst : v.rd F.LNK_LANE_STAT_STATE n = 0 := by
    rw [hv, State.rd_wr_ne hu.regs _ _ _ _ _ (.inl (by simp only [Fld.addr]; omega)), hstate]
  have hok : v.laneAllowed n = true := by simp [State.laneAllowed, State.rdB, hven, hlane, hshed]
  obtain ⟨f, hf, hattempt⟩ := State.startAttempt_eq hok (by rw [hlane, hpll])
  have hon : u.switchLane n 1 = v.startAttempt n := by
    rw [State.switchLane, if_pos rfl, ← hv]
    exact if_pos hvst
  obtain ⟨hshown, hsame⟩ := hvk.sound.attemptShown_regs n
  have hset := hvk.sound.attemptShown_set (l := [F.LNK_LANE_STAT + 4 * n]) (n := n) (List.mem_singleton.2 rfl)
  obtain ⟨x, hx⟩ : ∃ x, x = v.attemptShown n := ⟨_, rfl⟩
  rw [← hx] at hf hshown hsame hset
  have hlen : n < x.lnk.lanes.length := hn.trans_eq hshown.lanes.symm
  have honk := State.onLane_kept x n f (hshown.sound.kept 128) rfl
  have htrain := State.train_kept _ n (honk.sound.kept 128) rfl
  have hregs : (u.switchLane n 1).regs = x.regs := by
    rw [hon, hf, htrain.regs_eq rfl, honk.regs_eq rfl]
  have hend : v.sameRegs (u.switchLane n 1) [F.LNK_LANE_STAT + 4 * n] := hsame.trans (State.sameRegs_of_regs hregs _)
  have hother : ∀ b, b ≠ F.LNK_LANE_STAT + 4 * n → (u.switchLane n 1).regGet b = v.regGet b := fun b hb =>
    hend b fun hm => hb (List.mem_singleton.1 hm)
  refine ⟨?_, ?_, ?_, ?_, fun b hb => ?_⟩
  · rw [hon]
    exact (hvk.mono rfl).trans (State.startAttempt_kept v n (hvk.sound.kept _) rfl)
  · exact (State.rd_of_regGet (hother _ (by simp only [Fld.addr, F.LNK_LANE_STAT]; omega))).trans hven
  · rw [State.rd_of_regs hregs, hset.state n hn, Function.update_self]
  · have hxlane : x.lane n = u.lane n := by rw [State.lane, hshown.lnk rfl, ← hlane, State.lane]
    rw [hon, hf, State.train, State.lane_onLane (by rw [honk.lanes]; exact hn), State.lane_onLane hlen, hattempt, hxlane]
  · simp only [List.mem_cons, List.not_mem_nil, or_false, not_or] at hb
    refine (hother b hb.2).trans ?_
    rw [hv]
    exact State.sameRegs_wr hu.regs F.LNK_LANE_CTL_EN n 1 b fun hm => hb.1 (List.mem_singleton.1 hm)

omit hs h0 h12 hretrain in
/-- A lane switched off goes OFF. -/
theorem State.Sound.switchLane_off {u : State} (hu : u.Sound) :
    MainKept 710 ((F.LNK_LANE_CTL + 4 * n) :: laneDownRegs n) u (u.switchLane n 0) ∧ (u.switchLane n 0).rd F.LNK_LANE_CTL_EN n = 0 ∧
      (u.switchLane n 0).rd F.LNK_LANE_STAT_STATE n = 0 := by
  obtain ⟨v, hv⟩ : ∃ v, v = u.wr F.LNK_LANE_CTL_EN n 0 := ⟨_, rfl⟩
  have hvk : Kept 4 u v := hv ▸ State.wr_kept u _ _ _ (hu.kept _) rfl
  have hven : v.rd F.LNK_LANE_CTL_EN n = 0 := hv ▸ State.rd_wr hu.regs _ _ _ (by decide)
  have hvmain : MainKept 710 ((F.LNK_LANE_CTL + 4 * n) :: laneDownRegs n) u v :=
    hv ▸ (MainKept.refl hu _ _).wr rfl F.LNK_LANE_CTL_EN n (.inl List.mem_cons_self) 0
  have hoff := (LanesSet.refl hvk.sound (laneDownRegs n)).switchOff hn (List.Subset.refl _)
  have heq : u.switchLane n 0 = if v.laneUp n then v.leaveUp n 0 true else v.laneOff n := by rw [hv]; rfl
  rw [← heq] at hoff
  have hctl : F.LNK_LANE_CTL_EN.addr n ∉ laneDownRegs n := by
    simp only [laneDownRegs, List.mem_cons, List.mem_append, List.mem_map, List.mem_range, Fld.addr, F.LNK_EVT]
    omega
  refine ⟨hvmain.trans (hoff.main.mono rfl (List.subset_cons_self _ _)), ?_, ?_⟩
  · exact (State.rd_of_regGet (hoff.main.main _ (.inr (by simp only [Fld.addr]; omega)) (by simp only [Fld.addr]; omega) hctl)).trans hven
  · rw [hoff.state n hn, Function.update_self]

end

end Sys2Proof.Machine
end

section
/-! SUPPORT. The two writes as a port makes them (R265, R267, R269). -/

namespace Sys2Proof.Machine

/-- A port's write has its effect on the module with one value drawn, and is shown DONE. -/
theorem State.accepted_done {s : State} {p : Nat} {i : Instr} {f : State → State} (h : exec i s = .next (s.accepted p f)) :
    ∃ u, u = f s.drawn ∧ exec i s = .next (u.onPort p fun x => { x with status := accDone }) :=
  ⟨_, rfl, h.trans (congrArg _ (State.accepted_of_drawn rfl))⟩

theorem State.drawn_admit (s : State) : s.drawn.admitCfg = s.admitCfg := rfl

theorem State.Working.pathCfg_write {s : State} (hw : s.Working) (p : Fin 10) (w : Word) :
    exec (.laneSetChange p none w) s = .next (s.accepted p fun u => u.writePathCfg w) := by
  obtain ⟨r, hr, hcfg⟩ := hw.portStore_open p (a := F.LNK_PATH_CFG) (by decide +kernel) w
  refine (hw.awake.next_keeperDo fun s => s.hostWrite p F.LNK_PATH_CFG w).trans (congrArg _ (hcfg.trans ?_))
  refine congrArg (s.accepted p) (funext fun u => ?_)
  rw [State.writeReg, State.writeMgt, State.writeFront, State.writeCore, State.writeLink, base_of_baseOf (b := F.LNK_PATH_CFG) (by decide +kernel) hr]
  rfl

theorem laneCtl_alive : ∀ n : Fin 24, deadSource (F.LNK_LANE_CTL + 4 * n.val) = false := by decide +kernel

theorem State.Working.laneCtl_write {s : State} (hw : s.Working) (p : Fin 10) (n : Fin 24) (w : Word) :
    exec (.laneSetChange p (some n) w) s = .next (s.accepted p fun u => u.writeLaneCtl n w) := by
  obtain ⟨r, hb, hstride, hstore⟩ := hw.portStore_array p (b := F.LNK_LANE_CTL) (d := 4) (k := 24) (by decide +kernel) n.isLt w
  refine (hw.awake.next_keeperDo fun s => s.hostWrite p (F.LNK_LANE_CTL + 4 * n) w).trans (congrArg _ (hstore.trans ?_))
  refine congrArg (s.accepted p) (funext fun u => ?_)
  rw [State.writeReg, State.writeMgt, State.writeFront, State.writeCore, State.writeLink, hb, hstride, Nat.add_sub_cancel_left,
    Nat.mul_div_cancel_left _ (by decide), laneCtl_alive n]
  rfl

/-- A rate change of path A that admission lets (R267). -/
theorem State.Working.rateA_taken {s : State} (hw : s.Working) (p : Fin 10) {w : Word} (ha : getField w 0 2 ≠ 3) (hb : getField w 2 2 ≠ 3)
    (hne : getField w 0 2 ≠ s.rd F.LNK_PATH_CFG_RATE_A)
    (hok : AdmitCfg.refusedBy { s.admitCfg with rateA := getField w 0 2, rateB := getField w 2 2 } s.clk.fs = none) :
    ∃ t, exec (.laneSetChange p none w) s = .next t ∧ t.rd F.LNK_PATH_CFG_RATE_A = getField w 0 2 ∧
      t.rd F.LNK_PATH_CFG_RATE_B = getField w 2 2 ∧ (∀ n < 12, t.laneUp n = false) ∧
      s.sameMain t ([F.LNK_PATH_CFG, F.TIM_LAT_RX_UI.addr 0, F.TIM_LAT_RX_UI.addr 1] ++ (List.range 24).flatMap laneDownRegs) ∧
      t = { s with free := t.free, regs := t.regs, ports := t.ports, tim := t.tim, lnk := t.lnk, fau := t.fau } := by
  have hd := hw.sound.drawn
  obtain ⟨u, hu, hexec⟩ := State.accepted_done (hw.pathCfg_write p w)
  have hidle : MainKept 710 (F.LNK_PATH_CFG :: restartRegs) s.drawn (s.drawn.idleShown w) :=
    (MainKept.refl hd _ _).wr rfl F.LNK_PATH_CFG_IDLE_US 0 (.inl List.mem_cons_self) _
  have hps : (s.drawn.newRates w) = [0] ∨ s.drawn.newRates w = [0, 1] := by
    have hnew : getField w 0 2 ≠ s.drawn.rd F.LNK_PATH_CFG_RATE_A := hne
    rw [State.newRates, if_neg hnew]
    split
    · exact .inl rfl
    · exact .inr rfl
  obtain ⟨hmain, hdown, hA, hB⟩ := hidle.kept.sound.takeRates_outcome (w := w) hps
  have htaken : u = (s.drawn.idleShown w).takeRates w (s.drawn.newRates w) := hu.trans (hd.writePathCfg_taken ha hb hok)
  rw [← htaken] at hmain hdown hA hB
  have hall := hidle.trans hmain
  exact ⟨_, hexec, hA, hB, hdown, hall.main, ((hw.sound.drawFree_kept (m := 742) rfl).trans
    (State.onPort_kept u p _ (hall.kept.mono (m' := 742) rfl) rfl)).eq_withParts⟩

section
variable {s : State} (hw : s.Working) (p : Fin 10) {w : Word}
include hw

/-- With both rates as they are IDLE_US is stored. -/
theorem State.Working.idle_stored (ha : getField w 0 2 ≠ 3) (hb : getField w 2 2 ≠ 3) (hA : getField w 0 2 = s.rd F.LNK_PATH_CFG_RATE_A)
    (hB : getField w 2 2 = s.rd F.LNK_PATH_CFG_RATE_B) :
    ∃ t, exec (.laneSetChange p none w) s = .next t ∧ t.rd F.LNK_PATH_CFG_IDLE_US = min 1000 (getField w 8 10) ∧
      t.rd F.LNK_PATH_CFG_RATE_A = getField w 0 2 ∧ t.rd F.LNK_PATH_CFG_RATE_B = getField w 2 2 ∧
      s.sameRegs t [F.LNK_PATH_CFG] ∧ t = { s with free := s.free + 1, regs := t.regs, ports := t.ports } := by
  obtain ⟨u, hu, hexec⟩ := State.accepted_done (hw.pathCfg_write p w)
  obtain ⟨hk, hus, hra, hrb, hsame⟩ := hw.sound.drawn.writePathCfg_idle ha hb hA hB
  rw [← hu] at hk hus hra hrb hsame
  exact ⟨_, hexec, hus, hra, hrb, hsame, (State.onPort_kept u p _ (hk.mono (m' := 36) rfl) rfl).eq_withParts⟩

variable {n : Fin 24} (h0 : n.val ≠ 0) (h12 : n.val ≠ 12) (hretrain : getField w 4 1 = 0)
include h0 h12 hretrain

/-- With EN as it is the inversions and S1_KEEP are stored. -/
theorem State.Working.lane_stored (hen : getField w 0 1 = s.rd F.LNK_LANE_CTL_EN n) :
    ∃ t, exec (.laneSetChange p (some n) w) s = .next t ∧ t.rd F.LNK_LANE_CTL_TX_INV n = getField w 1 1 ∧
      t.rd F.LNK_LANE_CTL_RX_INV n = getField w 2 1 ∧ t.rd F.LNK_LANE_CTL_S1_KEEP n = getField w 3 1 ∧
      t.rd F.LNK_LANE_CTL_EN n = getField w 0 1 ∧ s.sameRegs t [F.LNK_LANE_CTL + 4 * n.val] ∧
      t = { s with free := s.free + 1, regs := t.regs, ports := t.ports } := by
  have hd := hw.sound.drawn
  obtain ⟨u, hu, hexec⟩ := State.accepted_done (hw.laneCtl_write p n w)
  have heq : u = s.drawn.laneShown n w := hu.trans ((State.writeLaneCtl_eq h0 h12 hretrain).trans (if_pos hen))
  obtain ⟨htx, hrx, hkeep, hsame⟩ := hd.laneShown_values n w
  have hk := hd.laneShown_kept n w
  have hregs := hd.laneShown_regs n w
  rw [← heq] at htx hrx hkeep hsame hk hregs
  exact ⟨_, hexec, htx, hrx, hkeep, (hsame n).trans hen.symm, hregs, (State.onPort_kept u p _ (hk.mono (m' := 36) rfl) rfl).eq_withParts⟩

/-- A lane that admission lets be switched on, from OFF. -/
theorem State.Working.lane_on (hon : getField w 0 1 = 1) (hoff : s.rd F.LNK_LANE_CTL_EN n = 0)
    (hok : AdmitCfg.refusedBy { s.admitCfg with lanes := s.admitCfg.lanes ||| 2 ^ n.val } s.clk.fs = none)
    (hst : s.rd F.LNK_LANE_STAT_STATE n = 0) (hpll : (s.lane n).pll = true) (hshed : (s.lane n).shed = false) :
    ∃ t, exec (.laneSetChange p (some n) w) s = .next t ∧ t.rd F.LNK_LANE_CTL_EN n = 1 ∧ t.rd F.LNK_LANE_STAT_STATE n = 1 ∧
      (t.lane n).attempt = ((s.lane n).attempt + 1) % 2 ^ 32 ∧
      s.sameRegs t [F.LNK_LANE_CTL + 4 * n.val, F.LNK_LANE_STAT + 4 * n.val] ∧
      t = { s with free := t.free, regs := t.regs, ports := t.ports, lnk := t.lnk } := by
  have hd := hw.sound.drawn
  obtain ⟨u, hu, hexec⟩ := State.accepted_done (hw.laneCtl_write p n w)
  have hv : AdmitCfg.refusedBy { s.drawn.admitCfg with lanes := lanesAsked s.drawn.admitCfg n (getField w 0 1) } s.drawn.clk.fs = none := by
    rw [State.drawn_admit, lanesAsked, if_pos hon]
    exact hok
  have hne : getField w 0 1 ≠ s.drawn.rd F.LNK_LANE_CTL_EN n := fun e => by
    have hoff' : s.drawn.rd F.LNK_LANE_CTL_EN n = 0 := hoff
    omega
  obtain ⟨v, hv'⟩ : ∃ v, v = s.drawn.laneShown n w := ⟨_, rfl⟩
  have heq : u = v.switchLane n 1 := by
    rw [hu, hd.writeLaneCtl_judged n.isLt h0 h12 hretrain hne hv, hon, hv']
    rfl
  have hvk : Kept 4 s.drawn v := hv' ▸ hd.laneShown_kept n w
  have hvregs : s.drawn.sameRegs v [F.LNK_LANE_CTL + 4 * n.val] := hv' ▸ hd.laneShown_regs n w
  have hlane : v.lane n = s.lane n := by rw [State.lane, hvk.lnk rfl]; rfl
  have hvst : v.rd F.LNK_LANE_STAT_STATE n = 0 := (State.rd_of_regGet (hvregs _ fun hm => by
    have := List.mem_singleton.1 hm
    simp only [Fld.addr, F.LNK_LANE_CTL] at this
    omega)).trans hst
  obtain ⟨hk, hen, hone, hattempt, hregs⟩ := State.Sound.switchLane_on n.isLt hvk.sound hvst (by rw [hlane, hpll]) (by rw [hlane, hshed])
  rw [← heq] at hk hen hone hattempt hregs
  refine ⟨_, hexec, hen, hone, hattempt.trans (by rw [hlane]), fun b hb => (hregs b hb).trans (hvregs b fun hm => hb ?_), ?_⟩
  · exact List.mem_cons.2 (.inl (List.mem_singleton.1 hm))
  · exact ((hw.sound.drawFree_kept (m := 166) rfl).trans ((hvk.mono rfl).trans (State.onPort_kept u p _ (hk.mono (m' := 166) rfl) rfl))).eq_withParts

variable (hoff : getField w 0 1 = 0) (hon : s.rd F.LNK_LANE_CTL_EN n = 1) (hbit : s.admitCfg.lanes.testBit n = true)
include hoff hon hbit

theorem State.Working.lane_off_judged {v : Option Nat}
    (hv : AdmitCfg.refusedBy { s.admitCfg with lanes := s.admitCfg.lanes - 2 ^ n.val } s.clk.fs = v) :
    s.drawn.writeLaneCtl n w = (s.drawn.laneShown n w).judge v State.admitFault fun u => u.switchLane n 0 := by
  have hv' : AdmitCfg.refusedBy { s.drawn.admitCfg with lanes := lanesAsked s.drawn.admitCfg n (getField w 0 1) } s.drawn.clk.fs = v := by
    rw [State.drawn_admit, lanesAsked, if_neg (by omega), if_pos hbit]
    exact hv
  have hne : getField w 0 1 ≠ s.drawn.rd F.LNK_LANE_CTL_EN n := fun e => by
    have hon' : s.drawn.rd F.LNK_LANE_CTL_EN n = 1 := hon
    omega
  rw [hw.sound.drawn.writeLaneCtl_judged n.isLt h0 h12 hretrain hne hv', hoff]

/-- A lane that admission lets be switched off. -/
theorem State.Working.lane_off (hok : AdmitCfg.refusedBy { s.admitCfg with lanes := s.admitCfg.lanes - 2 ^ n.val } s.clk.fs = none) :
    ∃ t, exec (.laneSetChange p (some n) w) s = .next t ∧ t.rd F.LNK_LANE_CTL_EN n = 0 ∧ t.rd F.LNK_LANE_STAT_STATE n = 0 ∧
      s.sameMain t (F.LNK_LANE_CTL_EN.addr n :: laneDownRegs n) ∧
      t = { s with free := t.free, regs := t.regs, ports := t.ports, tim := t.tim, lnk := t.lnk, fau := t.fau } := by
  have hd := hw.sound.drawn
  obtain ⟨u, hu, hexec⟩ := State.accepted_done (hw.laneCtl_write p n w)
  obtain ⟨v, hv⟩ : ∃ v, v = s.drawn.laneShown n w := ⟨_, rfl⟩
  have heq : u = v.switchLane n 0 := by
    rw [hu, hw.lane_off_judged h0 h12 hretrain hoff hon hbit hok, hv]
    rfl
  have hvk : Kept 4 s.drawn v := hv ▸ hd.laneShown_kept n w
  have hvregs : s.drawn.sameRegs v [F.LNK_LANE_CTL + 4 * n.val] := hv ▸ hd.laneShown_regs n w
  obtain ⟨hmain, hen, hst⟩ := State.Sound.switchLane_off n.isLt hvk.sound
  rw [← heq] at hmain hen hst
  refine ⟨_, hexec, hen, hst, fun b hq hb hl => (hmain.main b hq hb hl).trans (hvregs b fun hm => hl ?_), ?_⟩
  · exact List.mem_cons.2 (.inl (List.mem_singleton.1 hm))
  · exact ((hw.sound.drawFree_kept (m := 742) rfl).trans ((hvk.mono rfl).trans
      (State.onPort_kept u p _ (hmain.kept.mono (m' := 742) rfl) rfl))).eq_withParts

/-- One that it refuses stays on. -/
theorem State.Working.lane_off_refused {q : Nat}
    (hq : AdmitCfg.refusedBy { s.admitCfg with lanes := s.admitCfg.lanes - 2 ^ n.val } s.clk.fs = some q) :
    ∃ t, exec (.laneSetChange p (some n) w) s = .next t ∧ t.rd F.LNK_LANE_CTL_EN n = 1 ∧ t.lnk = s.lnk ∧
      s.sameMain t [F.LNK_LANE_CTL + 4 * n.val] ∧ t = { s with free := t.free, regs := t.regs, ports := t.ports, fau := t.fau } := by
  have hd := hw.sound.drawn
  obtain ⟨u, hu, hexec⟩ := State.accepted_done (hw.laneCtl_write p n w)
  obtain ⟨v, hv⟩ : ∃ v, v = s.drawn.laneShown n w := ⟨_, rfl⟩
  have heq : u = v.admitFault q := by
    rw [hu, hw.lane_off_judged h0 h12 hretrain hoff hon hbit hq, hv]
    rfl
  have hvk : Kept 4 s.drawn v := hv ▸ hd.laneShown_kept n w
  have hvregs : s.drawn.sameRegs v [F.LNK_LANE_CTL + 4 * n.val] := hv ▸ hd.laneShown_regs n w
  have hven : v.rd F.LNK_LANE_CTL_EN n = 1 := hv ▸ ((hd.laneShown_values n w).2.2.2 n).trans hon
  have hmain : MainKept 518 [] v u := heq ▸ (MainKept.refl hvk.sound _ _).report rfl _ _ _
  have hall := (hw.sound.drawFree_kept (m := 550) rfl).trans ((hvk.mono rfl).trans
    (State.onPort_kept u p (fun x => { x with status := accDone }) (hmain.kept.mono (m' := 550) rfl) rfl))
  refine ⟨_, hexec, ?_, hall.lnk rfl, fun b hq hb hl => (hmain.main b hq hb List.not_mem_nil).trans (hvregs b hl), hall.eq_withParts⟩
  exact (State.rd_of_regGet (hmain.main _ (.inr (by simp only [Fld.addr]; omega)) (by simp only [Fld.addr]; omega) List.not_mem_nil)).trans hven

end

end Sys2Proof.Machine

open Sys2Proof Sys2Proof.Machine

/-- Settles O36: a change of rates stops every lane of its path, each with the registers that a lane leaving UP writes, and starts them
again from BRINGUP; a change of a lane's EN stops or starts that lane. -/
theorem laneSetChange : Obligations.LaneSetChange := by
  intro s p w hw
  have hd := hw.sound.drawn
  have hwrite := hw.pathCfg_write p w
  refine ⟨fun h => ?_, fun ha hb hA hB => hw.idle_stored p ha hb hA hB, fun ha hb hne => ⟨fun q hq => ?_, fun hok => ?_⟩,
    fun n h0 h12 hretrain => ⟨fun hen => hw.lane_stored p h0 h12 hretrain hen, fun hon hoff hok hst hpll hshed =>
      hw.lane_on p h0 h12 hretrain hon hoff hok hst hpll hshed, fun hoff hon hbit =>
      ⟨fun hok => hw.lane_off p h0 h12 hretrain hoff hon hbit hok, fun q hq => hw.lane_off_refused p h0 h12 hretrain hoff hon hbit hq⟩⟩⟩
  · exact hwrite.trans (congrArg _ ((State.accepted_of_drawn (hd.writePathCfg_fault h)).trans rfl))
  · exact hwrite.trans (congrArg _ ((State.accepted_of_drawn (hd.writePathCfg_refused ha hb hne hq)).trans rfl))
  · exact hw.rateA_taken p ha hb hne hok
end

section
/-! SUPPORT. What acquisition, servo and jumps make of the time unit for an accepted round of the path in use (R304, R314 to R317). -/

namespace Sys2Proof.Machine

/-! ### The relation that a re-base starts from (R304) -/

/-- The same relation in force, and the same ones waiting. -/
structure Tim.SameRelation (t u : Tim) : Prop where
  pending : u.pending = t.pending
  offset : u.offset = t.offset
  tnom : u.tnom = t.tnom
  rate : u.rate = t.rate

section
variable {t u : Tim} (h : t.SameRelation u)
include h

theorem Tim.SameRelation.projected : u.projected.rate = t.projected.rate ∧ u.projected.tnom = t.projected.tnom ∧
    u.projected.offset = t.projected.offset := by
  unfold Tim.projected
  rw [h.pending]
  split
  · exact ⟨h.rate, h.tnom, h.offset⟩
  · exact ⟨rfl, rfl, rfl⟩

theorem Tim.SameRelation.newOffset (ne : Nat) (rate : Int) (tnom : Nat) (step : Int) :
    newOffset u.projected ne rate tnom step = newOffset t.projected ne rate tnom step := by
  obtain ⟨hrate, htnom, hoffset⟩ := h.projected
  rw [Machine.newOffset, Machine.newOffset, Tim.at_, Tim.at_, hrate, htnom, hoffset]

end

/-! ### A re-base decided (R304, R306) -/

/-- Of the time unit a packet moves the start of a heartbeat interval. -/
theorem State.pushPkt_tim (s : State) {q : Nat} (hq : q ≠ 0) (p : Packet) : (s.pushPkt q p).tim =
    { s.tim with lastT48C1 := (s.pushPkt q p).tim.lastT48C1, lastT48C3 := (s.pushPkt q p).tim.lastT48C3 } := by
  rw [State.pushPkt_eq hq]
  split
  · exact s.enqueue_tim q p
  · rfl

/-- The relation that a re-base decides. -/
def State.decided (s : State) (rate step : Int) (stepped : Bool) : Relation :=
  { st := s.timState, step := stepped, master := s.relationMaster, ne := effectiveCount s.clk.count
    offset := newOffset s.tim.projected (effectiveCount s.clk.count) rate s.tim.projected.tnom step
    tnom := s.tim.projected.tnom, rate := rate, seq := s.tim.relationSeq + 1 }

theorem State.pushRelation_tim (s : State) (x : Relation) : ∃ a b c, (s.pushRelation x).tim =
    { s.tim with relationAt := a, lastT48C1 := b, lastT48C3 := c } :=
  ⟨_, _, _, congrArg (fun t : Tim => { t with relationAt := s.now }) (s.pushPkt_tim (by decide) _)⟩

theorem State.decideRebase_tim (s : State) (rate step : Int) (stepped : Bool) : ∃ a b c, (s.decideRebase rate step stepped).tim =
    { s.tim with pending := s.tim.pending ++ [s.decided rate step stepped], relationSeq := s.tim.relationSeq + 1, relationAt := a,
                 lastT48C1 := b, lastT48C3 := c } :=
  (s.onTim fun t => { t with pending := t.pending ++ [s.decided rate step stepped], relationSeq := s.tim.relationSeq + 1 }).pushRelation_tim _

/-! ### The cases of a governing round (R314 to R317) -/

section
variable {s : State} {x theta : Int}

theorem State.governRound_locked (h : s.timState = timLocked) (hjump : s.beyondJump theta = false) :
    s.governRound x theta = s.servo theta := by
  simp [State.governRound, h, hjump, timLocked, timFree, timAcquiring, timRefused]

theorem State.governRound_beyond (h : s.timState = timLocked ∨ s.timState = timHoldover ∨ s.timState = timRefused ∧ s.tim.accept = false)
    (hjump : s.beyondJump theta = true) : s.governRound x theta = s.refuseJump theta := by
  rcases h with h | h | ⟨h, haccept⟩
  · simp [State.governRound, h, hjump, timLocked, timFree, timAcquiring, timRefused]
  · simp [State.governRound, h, hjump, timHoldover, timFree, timAcquiring, timRefused]
  · simp [State.governRound, h, haccept, hjump, timFree, timAcquiring, timRefused]

theorem State.governRound_accepted (h : s.timState = timRefused) (haccept : s.tim.accept = true) : s.governRound x theta =
    ((s.onTim fun t => { t with accept := false }).relock).stepBy s.tim.projected.rate (-s.tim.refused) := by
  simp [State.governRound, h, haccept, timFree, timAcquiring, timRefused]

end

/-- TIM_JUMP_OFS shows a pair of words (R324). -/
theorem State.jumpOfs_wrPair {s : State} (h : tableWf coldWord s.regs = true) {v : Nat} (hv : v < 2 ^ 64) :
    (s.wrPair F.TIM_JUMP_OFS_LO_OFS F.TIM_JUMP_OFS_HI_OFS 0 v).rdPair F.TIM_JUMP_OFS_LO_OFS F.TIM_JUMP_OFS_HI_OFS 0 = v := by
  have hlo : (s.wrPair F.TIM_JUMP_OFS_LO_OFS F.TIM_JUMP_OFS_HI_OFS 0 v).rd F.TIM_JUMP_OFS_LO_OFS = v % 2 ^ 32 % 2 ^ 32 :=
    (State.rd_wr_ne (State.wf_wr h _ _ _) F.TIM_JUMP_OFS_HI_OFS F.TIM_JUMP_OFS_LO_OFS 0 0 _ (by decide)).trans
      (State.rd_wr h _ _ _ (by decide))
  have hhi : (s.wrPair F.TIM_JUMP_OFS_LO_OFS F.TIM_JUMP_OFS_HI_OFS 0 v).rd F.TIM_JUMP_OFS_HI_OFS = v / 2 ^ 32 % 2 ^ 32 :=
    State.rd_wr (State.wf_wr h F.TIM_JUMP_OFS_LO_OFS 0 _) F.TIM_JUMP_OFS_HI_OFS 0 _ (by decide)
  rw [State.rdPair, hlo, hhi]
  omega

section
variable {s : State} (hs : s.Sound)
include hs

theorem State.Sound.setTimState_shown {n : Nat} (hn : n < 8) : (s.setTimState n).timState = n :=
  (State.rd_wr hs.regs F.TIM_STAT_STATE 0 n (by decide)).trans (Nat.mod_eq_of_lt hn)

/-- The servo of a source that is not PPS (R315). -/
theorem State.Sound.servo_outcome (hmode : s.ppsMode = false) (theta : Int) : (s.servo theta).timState = s.timState ∧
    (s.servo theta).tim.integ = s.tim.integ + theta ∧
    ∃ x, (s.servo theta).tim.pending = s.tim.pending ++ [x] ∧ x.ne = effectiveCount s.clk.count ∧ x.step = false ∧
      x.rate = clampInt (-2 ^ 31) (2 ^ 31 - 1) (s.tim.projected.rate -
        rhe ((theta * 2 ^ s.rd F.TIM_SERVO_KI + (s.tim.integ + theta) * 2 ^ s.rd F.TIM_SERVO_KP) * 2 ^ 40)
          (2 ^ (s.rd F.TIM_SERVO_KP + s.rd F.TIM_SERVO_KI + 16) * 62500000)) := by
  have hstate := ((Steered.refl hs []).servo theta).fields.same (F.TIM_STAT_STATE, 0) (by decide) (by simp)
  have hsame : s.tim.SameRelation { s.tim with integ := s.tim.integ + theta } := ⟨rfl, rfl, rfl, rfl⟩
  obtain ⟨a, b, c, htim⟩ := (s.onTim fun t => { t with integ := s.tim.integ + theta }).decideRebase_tim
    (clampInt (-2 ^ 31) (2 ^ 31 - 1) (s.tim.projected.rate -
      rhe ((theta * 2 ^ s.rd F.TIM_SERVO_KI + (s.tim.integ + theta) * 2 ^ s.rd F.TIM_SERVO_KP) * 2 ^ 40)
        (2 ^ (s.rd F.TIM_SERVO_KP + s.rd F.TIM_SERVO_KI + 16) * 62500000))) 0 false
  have hservo : s.servo theta = (s.onTim fun t => { t with integ := s.tim.integ + theta }).decideRebase
      (clampInt (-2 ^ 31) (2 ^ 31 - 1) (s.tim.projected.rate -
        rhe ((theta * 2 ^ s.rd F.TIM_SERVO_KI + (s.tim.integ + theta) * 2 ^ s.rd F.TIM_SERVO_KP) * 2 ^ 40)
          (2 ^ (s.rd F.TIM_SERVO_KP + s.rd F.TIM_SERVO_KI + 16) * 62500000))) 0 false := by
    simp only [State.servo, hmode, Bool.false_eq_true, if_false]
  refine ⟨hstate, ?_, ?_⟩
  all_goals rw [hservo, htim]
  · rfl
  · exact ⟨_, rfl, rfl, rfl, rfl⟩

/-- A refused jump (R317). -/
theorem State.Sound.refuseJump_outcome (theta : Int) : (s.refuseJump theta).timState = timRefused ∧
    (s.refuseJump theta).tim = { s.tim with refused := theta } ∧
    (s.refuseJump theta).rdPair F.TIM_JUMP_OFS_LO_OFS F.TIM_JUMP_OFS_HI_OFS 0 = wrapBits 64 (-theta) := by
  have hset := hs.setTimState_shown (n := timRefused) (by decide)
  have hflag : Kept 4 s ((s.setTimState timRefused).flag F.TIM_EVT 1) :=
    State.flag_kept _ _ _ (State.wr_kept s _ _ _ (hs.kept 4) rfl) rfl
  have hshown : ((s.setTimState timRefused).flag F.TIM_EVT 1).timState = timRefused :=
    (((FieldsKept.refl (State.wf_wr hs.regs F.TIM_STAT_STATE 0 timRefused) (flagFields F.TIM_EVT 1)).flag
      (a := F.TIM_EVT) (k := 1) (.inl fun _ hy => hy)).same (F.TIM_STAT_STATE, 0) (by decide) (by decide)).trans hset
  obtain ⟨u, hu⟩ : ∃ u, u = ((s.setTimState timRefused).flag F.TIM_EVT 1).onTim fun t => { t with refused := theta } := ⟨_, rfl⟩
  have hwf : tableWf coldWord u.regs = true := by rw [hu]; exact hflag.regs
  have htim : u.tim = { s.tim with refused := theta } := by rw [hu]; rfl
  have hustate : u.timState = timRefused := by rw [hu]; exact hshown
  have husound : u.Sound := by
    rw [hu]
    exact (State.onTim_kept _ _ (hflag.sound.kept 68) rfl).sound
  have hjump : s.refuseJump theta = (u.wrPair F.TIM_JUMP_OFS_LO_OFS F.TIM_JUMP_OFS_HI_OFS 0 (wrapBits 64 (-theta))).report 0x3103
      (u.wrPair F.TIM_JUMP_OFS_LO_OFS F.TIM_JUMP_OFS_HI_OFS 0 (wrapBits 64 (-theta))).locModule
      (wrapBits 32 (clampInt (-2 ^ 31) (2 ^ 31 - 1) (rhe (-theta) 65536))) := by rw [hu]; rfl
  have hpair : Kept 4 u (u.wrPair F.TIM_JUMP_OFS_LO_OFS F.TIM_JUMP_OFS_HI_OFS 0 (wrapBits 64 (-theta))) :=
    State.wr_kept _ _ _ _ (State.wr_kept u _ _ _ (husound.kept 4) rfl) rfl
  have hfields : FieldsKept [(F.TIM_JUMP_OFS_LO_OFS, 0), (F.TIM_JUMP_OFS_HI_OFS, 0)] u
      (u.wrPair F.TIM_JUMP_OFS_LO_OFS F.TIM_JUMP_OFS_HI_OFS 0 (wrapBits 64 (-theta))) :=
    (FieldsKept.refl hwf _).wrPair (by decide) (by decide) _
  have hshows := State.jumpOfs_wrPair hwf (wrapBits_lt 64 (-theta))
  rw [hjump]
  obtain ⟨v, hv⟩ : ∃ v, v = u.wrPair F.TIM_JUMP_OFS_LO_OFS F.TIM_JUMP_OFS_HI_OFS 0 (wrapBits 64 (-theta)) := ⟨_, rfl⟩
  have hvtim : v.tim = u.tim := by rw [hv]; rfl
  rw [← hv] at hpair hfields hshows ⊢
  have hafter := (FieldsKept.refl hpair.regs []).report 0x3103 v.locModule
    (wrapBits 32 (clampInt (-2 ^ 31) (2 ^ 31 - 1) (rhe (-theta) 65536)))
  refine ⟨?_, ?_, ?_⟩
  · exact (hafter.same (F.TIM_STAT_STATE, 0) (by decide) (by simp)).trans
      ((hfields.same (F.TIM_STAT_STATE, 0) (by decide) (by decide)).trans hustate)
  · rw [hpair.sound.report_only]
    exact hvtim.trans htim
  · rw [State.rdPair, hafter.same (F.TIM_JUMP_OFS_LO_OFS, 0) (by decide) (by simp),
      hafter.same (F.TIM_JUMP_OFS_HI_OFS, 0) (by decide) (by simp)]
    exact hshows

/-- The one step after ACCEPT_JUMP (R317). -/
theorem State.Sound.jumpTaken_outcome {t : State} (ht : t = ((s.onTim fun t => { t with accept := false }).relock).stepBy
      s.tim.projected.rate (-s.tim.refused)) :
    t.timState = timLocked ∧ t.tim.accept = false ∧ t.tim.integ = 0 ∧
    ∃ x, t.tim.pending = s.tim.pending ++ [x] ∧ x.ne = effectiveCount s.clk.count ∧ x.step = true ∧
      x.rate = s.tim.projected.rate ∧
      x.offset = newOffset s.tim.projected (effectiveCount s.clk.count) s.tim.projected.rate s.tim.projected.tnom (-s.tim.refused) := by
  have hopen : Kept 838 s (s.onTim fun t => { t with accept := false }) := State.onTim_kept s _ (hs.kept _) rfl
  have hlocked := hopen.sound.setTimState_shown (n := timLocked) (by decide)
  obtain ⟨u, hu⟩ : ∃ u, u = (s.onTim fun t => { t with accept := false }).relock := ⟨_, rfl⟩
  have hrelock : Steered [(F.TIM_STAT_STATE, 0)] (s.onTim fun t => { t with accept := false }) u := by
    rw [hu]
    exact (Steered.refl hopen.sound _).relock (by decide)
  have hstate : u.timState = timLocked := by rw [hu]; exact hlocked
  have htim : u.tim = { s.tim with accept := false } := by rw [hu]; rfl
  have hclk : u.clk = s.clk := hrelock.clk
  rw [← hu] at ht
  have hstep := (Steered.refl hrelock.kept.sound []).stepBy s.tim.projected.rate (-s.tim.refused)
  obtain ⟨a, b, c, hdone⟩ := (u.onTim fun t => { t with integ := 0 }).decideRebase_tim s.tim.projected.rate (-s.tim.refused) true
  have hsame : s.tim.SameRelation (u.onTim fun t => { t with integ := 0 }).tim := by
    rw [State.onTim_tim, htim]
    exact ⟨rfl, rfl, rfl, rfl⟩
  have hne : (u.onTim fun t => { t with integ := 0 }).clk.count = s.clk.count := congrArg (·.count) hclk
  rw [ht]
  refine ⟨(hstep.fields.same (F.TIM_STAT_STATE, 0) (by decide) (by simp)).trans hstate, ?_, ?_, ?_⟩
  all_goals rw [State.stepBy, hdone]
  · exact congrArg Tim.accept htim
  · rfl
  · refine ⟨_, congrArg (· ++ [_]) hsame.pending, ?_, rfl, rfl, ?_⟩
    · exact congrArg effectiveCount hne
    · rw [State.decided]
      dsimp only
      rw [hsame.newOffset, hsame.projected.2.1, hne]

end

/-! ### What a governing round leaves -/

/-- t is s after the round at network time x with theta, of a source that is not PPS (R314 to R317). -/
structure State.Governed (s t : State) (x theta : Int) : Prop where
  free : s.timState = timFree → t.timState = timAcquiring ∧ t.tim.points = [(x, theta)]
  locked : s.timState = timLocked → s.beyondJump theta = false → t.timState = timLocked ∧ t.tim.integ = s.tim.integ + theta ∧
    ∃ r, t.tim.pending = s.tim.pending ++ [r] ∧ r.ne = effectiveCount s.clk.count ∧ r.step = false ∧
      r.rate = clampInt (-2 ^ 31) (2 ^ 31 - 1) (s.tim.projected.rate -
        rhe ((theta * 2 ^ s.rd F.TIM_SERVO_KI + (s.tim.integ + theta) * 2 ^ s.rd F.TIM_SERVO_KP) * 2 ^ 40)
          (2 ^ (s.rd F.TIM_SERVO_KP + s.rd F.TIM_SERVO_KI + 16) * 62500000))
  beyond : s.timState = timLocked ∨ s.timState = timHoldover ∨ (s.timState = timRefused ∧ s.tim.accept = false) →
    s.beyondJump theta = true → t.timState = timRefused ∧ t.tim.pending = s.tim.pending ∧ t.tim.integ = s.tim.integ ∧
      t.tim.refused = theta ∧ t.rdPair F.TIM_JUMP_OFS_LO_OFS F.TIM_JUMP_OFS_HI_OFS 0 = wrapBits 64 (-theta)
  accepted : s.timState = timRefused → s.tim.accept = true → t.timState = timLocked ∧ t.tim.accept = false ∧ t.tim.integ = 0 ∧
    ∃ r, t.tim.pending = s.tim.pending ++ [r] ∧ r.ne = effectiveCount s.clk.count ∧ r.step = true ∧
      r.rate = s.tim.projected.rate ∧
      r.offset = newOffset s.tim.projected (effectiveCount s.clk.count) s.tim.projected.rate s.tim.projected.tnom (-s.tim.refused)

theorem State.Sound.governRound_governed {s : State} (hs : s.Sound) (hmode : s.ppsMode = false) (x theta : Int) :
    s.Governed (s.governRound x theta) x theta where
  free h := by
    rw [State.governRound_free h]
    exact ⟨hs.setTimState_shown (n := timAcquiring) (by decide), rfl⟩
  locked h hjump := by
    obtain ⟨hstate, hinteg, hdecided⟩ := hs.servo_outcome hmode theta
    rw [State.governRound_locked h hjump]
    exact ⟨hstate.trans h, hinteg, hdecided⟩
  beyond h hjump := by
    obtain ⟨hstate, htim, hshows⟩ := hs.refuseJump_outcome theta
    rw [State.governRound_beyond h hjump]
    refine ⟨hstate, ?_, ?_, ?_, hshows⟩ <;> rw [htim]
  accepted h haccept := hs.jumpTaken_outcome (State.governRound_accepted h haccept)

/-- A report that follows leaves it. -/
theorem State.Governed.then {s t u : State} {x theta : Int} (h : s.Governed t x theta) (htim : u.tim = t.tim)
    (hu : FieldsKept [] t u) : s.Governed u x theta := by
  have hstate : u.timState = t.timState := hu.same (F.TIM_STAT_STATE, 0) (by decide) (by simp)
  have hpair : u.rdPair F.TIM_JUMP_OFS_LO_OFS F.TIM_JUMP_OFS_HI_OFS 0 = t.rdPair F.TIM_JUMP_OFS_LO_OFS F.TIM_JUMP_OFS_HI_OFS 0 :=
    congrArg₂ (fun lo hi => lo + 2 ^ 32 * hi) (hu.same (F.TIM_JUMP_OFS_LO_OFS, 0) (by decide) (by simp))
      (hu.same (F.TIM_JUMP_OFS_HI_OFS, 0) (by decide) (by simp))
  obtain ⟨hfree, hlocked, hbeyond, haccepted⟩ := h
  rw [← hstate, ← htim] at hfree hlocked hbeyond haccepted
  rw [← hpair] at hbeyond
  exact ⟨hfree, hlocked, hbeyond, haccepted⟩

/-- What precedes it may move what no governing round asks for. -/
theorem State.Governed.before {s u t : State} {x theta : Int} (h : u.Governed t x theta) (hrel : s.tim.SameRelation u.tim)
    (hinteg : u.tim.integ = s.tim.integ) (haccept : u.tim.accept = s.tim.accept) (hrefused : u.tim.refused = s.tim.refused)
    (hclk : u.clk = s.clk)
    (hsame : ∀ f ∈ [F.TIM_STAT_STATE, F.TIM_JUMP_THR_NS, F.TIM_SERVO_KP, F.TIM_SERVO_KI], u.rd f 0 = s.rd f 0) :
    s.Governed t x theta := by
  obtain ⟨hfree, hlocked, hbeyond, haccepted⟩ := h
  have hstate : u.timState = s.timState := hsame _ (by simp)
  have hthr : u.beyondJump theta = s.beyondJump theta := by rw [State.beyondJump, hsame _ (by simp), State.beyondJump]
  obtain ⟨hrate, htnom, -⟩ := hrel.projected
  rw [hstate] at hfree hlocked hbeyond haccepted
  rw [hthr] at hlocked hbeyond
  rw [hrel.pending, hinteg, hclk, hrate, hsame F.TIM_SERVO_KP (by simp), hsame F.TIM_SERVO_KI (by simp)] at hlocked
  rw [haccept, hrel.pending, hinteg] at hbeyond
  rw [haccept, hrel.pending, hclk, hrel.newOffset, hrate, htnom, hrefused] at haccepted
  exact ⟨hfree, hlocked, hbeyond, haccepted⟩

/-! ### An accepted round of the path in use -/

theorem State.Sound.pushTime_quiet {s : State} (hs : s.Sound) (p : Nat) (ws : List LWord) :
    (s.pushTime p ws).tim = s.tim ∧ FieldsKept [] s (s.pushTime p ws) := by
  by_cases hroom : (s.queue 0).fill + ws.length ≤ queueCap 0
  · obtain ⟨htim, -, hfields⟩ := hs.pushTime_outcome p hroom
    exact ⟨htim, hfields⟩
  · have hcounted : Kept 4 s ((s.satAdd F.QUE_DISCARD_COUNT 0 1).flag F.QUE_EVT 1) :=
      State.flag_kept _ _ _ (State.satAdd_kept s _ _ _ (hs.kept 4) rfl) rfl
    rw [State.pushTime, if_neg hroom]
    refine ⟨?_, ?_⟩
    · rw [hcounted.sound.report_only]
      rfl
    · exact (((FieldsKept.refl hs.regs []).wr (f := F.QUE_DISCARD_COUNT) (.inr (by decide)) _).flag
        (.inr (by decide))).report _ _ _

theorem State.Sound.sendReport_quiet {s : State} (hs : s.Sound) (p round : Nat) (theta delay t2 : Int) :
    (s.sendReport p round theta delay t2).tim = s.tim ∧ FieldsKept [] s (s.sendReport p round theta delay t2) := by
  obtain ⟨ws, n, hsend⟩ : ∃ ws n, s.sendReport p round theta delay t2 = State.pushTime { s with free := n } p ws := by
    unfold State.sendReport
    dsimp only
    rw [State.show32_only _ delay, State.show32_only _ theta]
    exact ⟨_, _, rfl⟩
  have hfree : State.Sound { s with free := n } := { hs with }
  obtain ⟨htim, hfields⟩ := hfree.pushTime_quiet p ws
  rw [hsend]
  exact ⟨htim, ((FieldsKept.refl hs.regs []).congr (u := { s with free := n }) rfl).trans hfields⟩

theorem acceptFields_apart : ∀ p : Fin 2, ∀ f ∈ [F.TIM_CTL_PRIMARY, F.TIM_CTL_SOURCE, F.TIM_STAT_STATE, F.TIM_JUMP_THR_NS,
    F.TIM_SERVO_KP, F.TIM_SERVO_KI], MainAddr (f.addr 0) ∧ ∀ y ∈ acceptFields p, FieldsApart (f, 0) y := by decide

section
variable {s : State} (hs : s.Sound) (p : Fin 2) (theta delay : Int)
include hs

/-- The primary path is in use once it has an accepted round (R316). -/
theorem State.Sound.roundAccepted_inUse (hprimary : s.rd F.TIM_CTL_PRIMARY = p.val) :
    (s.roundAccepted p theta delay).pathInUse = p.val := by
  obtain ⟨n, th, dl, l, heq⟩ := s.roundAccepted_eq p theta delay
  have hcounted : FieldsKept (acceptFields p) s
      (State.roundCounted { s with free := n, tim := s.tim.accepted p s.now theta delay } p th dl) := by
    have hstart := (FieldsKept.refl hs.regs (acceptFields p)).congr
      (u := { s with free := n, tim := s.tim.accepted p s.now theta delay }) rfl
    exact hstart.trans (State.roundCounted_fields hstart.wf p th dl)
  generalize State.roundCounted { s with free := n, tim := s.tim.accepted p s.now theta delay } p th dl = u at *
  have hfields : FieldsKept (acceptFields p) s ((u.setPathGood p true).conditionOverAt 0x3101 l p) :=
    (hcounted.setPathGood (by simp) p true).congr rfl
  have hgood : ((u.setPathGood p true).conditionOverAt 0x3101 l p).pathGood p = true := State.pathGood_setPathGood hcounted.wf p true
  have hprim := hfields.same (F.TIM_CTL_PRIMARY, 0) (acceptFields_apart p _ (by simp)).1 (acceptFields_apart p _ (by simp)).2
  dsimp only at hprim
  rw [heq, State.pathInUse_selectPath hfields.wf, hprim, hprimary, if_pos hgood]

/-- Taken, it governs the clock. -/
theorem State.Sound.roundTaken_governed (hprimary : s.rd F.TIM_CTL_PRIMARY = p.val) (hmode : s.ppsMode = false) (x : Int) :
    (s.roundTaken p x theta delay).pathInUse = p.val ∧ s.Governed (s.roundTaken p x theta delay) x theta := by
  obtain ⟨htim, -, -, hfields⟩ := hs.roundAccepted_outcome p theta delay
  have hkept := State.roundAccepted_kept s p theta delay (hs.kept 582) rfl
  have hinUse := hs.roundAccepted_inUse p theta delay hprimary
  have hsteered := hs.roundTaken_steered p x theta delay
  unfold State.roundTaken at hsteered ⊢
  generalize s.roundAccepted p theta delay = u at *
  have hsame (f : Fld) (hf : f ∈ [F.TIM_CTL_PRIMARY, F.TIM_CTL_SOURCE, F.TIM_STAT_STATE, F.TIM_JUMP_THR_NS,
      F.TIM_SERVO_KP, F.TIM_SERVO_KI]) : u.rd f 0 = s.rd f 0 :=
    hfields.same (f, 0) (acceptFields_apart p f hf).1 (acceptFields_apart p f hf).2
  have hmodeU : u.ppsMode = false := by rw [State.ppsMode, State.rdB, hsame _ (by simp)]; exact hmode
  rw [hmodeU, hinUse] at hsteered ⊢
  simp only [Bool.not_false, beq_self_eq_true, Bool.and_self, if_true] at hsteered ⊢
  refine ⟨(hsteered.fields.same (F.TIM_STAT_PATH_IN_USE, 0) (by decide) (by decide)).trans hinUse, ?_⟩
  refine (hkept.sound.governRound_governed hmodeU x theta).before ?_ ?_ ?_ ?_ (hkept.clk rfl) fun f hf => hsame f (by simp_all)
  all_goals rw [htim]
  exacts [⟨rfl, rfl, rfl, rfl⟩, rfl, rfl, rfl]

end

/-- ANSWER for a round that has its other three stamps, is in time, and passes the gate (R311, R313). -/
theorem State.Sound.doAnswer_governed {s : State} (hs : s.Sound) {lane round ns frac : Nat} (p : Fin 2) (hp : p.val = lane / 12)
    {r : TimeRound} (hround : s.tim.rounds.getD p none = some r) {t1 t3 : Int} (h1 : r.t1 = some t1) (h3 : r.t3 = some t3)
    {v : Int × Int} (hv : v = roundValues t1 r.t2 t3 (nsUnits ns frac) (s.rdS F.TIM_ASYM_PS p)) (hno : r.round = round)
    (hlane : exchangeLane lane = true) (hlate : s.roundLate r = false) (hgate : s.delayGate p v.2 = true)
    (hprimary : s.rd F.TIM_CTL_PRIMARY = p.val) (hmode : s.ppsMode = false) :
    (s.doAnswer lane round ns frac).pathInUse = p.val ∧ s.Governed (s.doAnswer lane round ns frac) (rhe r.t2 1000) v.1 := by
  have hset : (s.putRound p { r with t4 := some (nsUnits ns frac) }).tim.rounds.getD p none =
      some { r with t4 := some (nsUnits ns frac) } := by
    refine getD_set_same ?_ _ _
    by_contra hlen
    rw [List.getD_eq_default _ _ (by omega)] at hround
    cases hround
  have hclear : Kept 64 s ((s.putRound p { r with t4 := some (nsUnits ns frac) }).clearRound p) :=
    State.onTim_kept _ _ (State.onTim_kept s _ (hs.kept 64) rfl) rfl
  have hdone : s.doAnswer lane round ns frac = (((s.putRound p { r with t4 := some (nsUnits ns frac) }).clearRound p).roundTaken p
      (rhe r.t2 1000) v.1 v.2).sendReport p r.round v.1 v.2 r.t2 := by
    rw [State.doAnswer_round hlane (hp ▸ hround), if_neg (by simp [hno, hlate, h3]), ← hp,
      State.computeRound_full hset h1 h3 rfl hv]
    exact congrArg (State.sendReport · p r.round v.1 v.2 r.t2) (if_pos hgate)
  obtain ⟨hinUse, hgoverned⟩ := hclear.sound.roundTaken_governed p v.1 v.2 hprimary hmode (rhe r.t2 1000)
  obtain ⟨-, -, -, -, htaken⟩ := hclear.sound.roundTaken_outcome p (rhe r.t2 1000) v.1 v.2
  obtain ⟨htim, hfields⟩ := htaken.sendReport_quiet p r.round v.1 v.2 r.t2
  have hafter := (hgoverned.then htim hfields).before (s := s) ⟨rfl, rfl, rfl, rfl⟩ rfl rfl rfl rfl fun _ _ => rfl
  rw [hdone]
  exact ⟨(hfields.same (F.TIM_STAT_PATH_IN_USE, 0) (by decide) (by simp)).trans hinUse, hafter⟩

/-! ### Relations that take force or are sent again (R304, R306) -/

theorem State.doRebase_takes {s : State} {r : Relation} {rest : List Relation} (h : s.tim.pending = r :: rest) : s.doRebase =
    (s.toCount r.ne).onTim fun t =>
      Tim.shift { t with offset := r.offset, rate := r.rate, tnom := r.tnom, pending := rest, relation := r }
        (Tim.at_ { t with offset := r.offset, rate := r.rate, tnom := r.tnom, pending := rest, relation := r } r.ne 1 - t.at_ r.ne 1) := by
  rw [State.doRebase, h]

/-- The words of a relation record of the module (R306). -/
def State.relationWords (s : State) (r : Relation) : List LWord :=
  [ word64 [(56, 0x13), (52, 5), (49, r.st), (48, r.step.toNat), (32, r.master), (0, s.locCx)], BitVec.ofNat 64 r.ne,
    BitVec.ofInt 64 (r.offset / 65536), word64 [(48, (r.offset % 65536).toNat), (14, r.tnom)],
    word64 [(32, wrapBits 32 r.rate), (0, r.seq % 2 ^ 32)] ]

theorem State.pushRelation_room {s : State} (r : Relation) (hblocked : (s.queue 1).blocked = [])
    (hroom : (s.queue 1).fill + 5 ≤ queueCap 1) : ∃ x : Packet, x.words = packetWords (s.relationWords r) ∧
      s.pushRelation r = (s.enqueue 1 x).onTim fun t => { t with relationAt := s.now } := by
  have hpush : s.pushRelation r =
      (s.pushPkt 1 { words := packetWords (s.relationWords r), at_ := s.clk.count }).onTim fun t => { t with relationAt := s.now } := rfl
  refine ⟨{ words := packetWords (s.relationWords r), at_ := s.clk.count }, rfl, hpush.trans ?_⟩
  rw [State.pushPkt_eq (by decide), if_pos]
  refine ⟨hblocked, ?_⟩
  rw [length_packetWords]
  exact hroom

theorem State.Sound.relationRepeat_outcome {s : State} (hs : s.Sound) (hblocked : (s.queue 1).blocked = [])
    (hroom : (s.queue 1).fill + 5 ≤ queueCap 1) :
    ∃ y, (s.doRelationRepeat.queue 1).waiting = (s.queue 1).waiting ++ [y] ∧
      y.words = packetWords (s.relationWords { s.tim.relation with st := s.timState }) ∧
      s.doRelationRepeat.tim.relationAt = s.now ∧ s.doRelationRepeat.tim.relation = s.tim.relation ∧
      s.doRelationRepeat.tim.pending = s.tim.pending ∧ s.sameMain s.doRelationRepeat [] ∧
      s.doRelationRepeat = { s with regs := s.doRelationRepeat.regs, tim := s.doRelationRepeat.tim, que := s.doRelationRepeat.que } := by
  obtain ⟨x, hwords, hpush⟩ := State.pushRelation_room { s.tim.relation with st := s.timState } hblocked hroom
  have hkept : Kept 324 s (s.enqueue 1 x) := State.enqueue_kept s _ _ (hs.kept _) rfl
  have hqueue := State.waiting_enqueue (s := s) (q := 1) x (by rw [hs.que]; decide)
  have hfields := (FieldsKept.refl hs.regs []).enqueue (q := 1) (by decide) x
  have htim := s.enqueue_tim 1 x
  rw [State.doRelationRepeat, hpush]
  generalize s.enqueue 1 x = u at *
  refine ⟨{ x with at_ := s.clk.count }, hqueue, hwords, rfl, ?_, ?_, (hfields.congr rfl).sameMain,
    (State.onTim_kept _ _ hkept rfl).eq_withParts⟩
  all_goals rw [State.onTim_tim, htim]

/-! ### ACCEPT_JUMP (R317) -/

theorem State.Working.exec_acceptJump {s : State} (hw : s.Working) (p : Fin 10) : exec (.acceptJump p) s =
    .next (s.accepted p fun u => if s.timState = timRefused then { u with tim := { s.tim with accept := true } } else u) := by
  have hexec : exec (.acceptJump p) s = .next (s.portStore p F.TIM_CMD (s.timCmdWord 0)) :=
    hw.awake.next_keeperDo fun s => s.hostBit p F.TIM_CMD_ACCEPT_JUMP 0
  rw [hexec, hw.portStore_timCmd p (f := State.doAcceptJump) (by decide) (.head _)]
  exact congrArg _ (State.accepted_congr rfl)

end Sys2Proof.Machine

open Sys2Proof Sys2Proof.Machine

/-- Settles O41, by the case of the clock that a taken round meets, and the equation of each other command. -/
theorem timeServo : Obligations.TimeServo := by
  intro s hw hrun
  have hs := hw.sound
  have hrebase : exec .rebase s = .next s.doRebase := hw.next_cxDo fun s => s.doRebase
  refine ⟨?_, fun hnone => ?_, ?_, ?_, hw.exec_acceptJump⟩
  · intro lane round ns frac p hp r hround t1 h1 t3 h3 v hv theta rfl hno hlane hlate hgate hprimary hmode
    obtain ⟨hinUse, hfree, hlocked, hbeyond, haccepted⟩ := hs.doAnswer_governed (lane := lane) (round := round.toNat) ⟨p, by omega⟩ hp
      hround h1 h3 hv hno hlane hlate hgate hprimary hmode
    exact ⟨_, hw.next_cxDo fun s => s.doAnswer lane round.toNat ns.toNat frac.toNat, hinUse, hfree, hlocked, hbeyond, haccepted⟩
  · rw [hrebase, State.doRebase, hnone]
  · rintro r rest u hpending rfl
    refine ⟨_, hrebase.trans (congrArg _ (State.doRebase_takes hpending)), ?_, s.reached_toCount r.ne, ?_⟩
    · rw [State.onTim_tim, State.toCount_tim]
    · rw [s.toCount_only r.ne]
      rfl
  · rintro r rfl hblocked hroom
    obtain ⟨y, hout⟩ := hs.relationRepeat_outcome hblocked hroom
    exact ⟨_, y, hw.next_cxDo fun s => s.doRelationRepeat, hout⟩
end

section
/-! SUPPORT. No operation of the module takes a command from its queue, in any state:
the shared operations, the inputs, the capture ring and the cues. -/

namespace Sys2Proof.Machine

/-! ### Loops and choices of states -/

@[simp] theorem State.pending_forEach {a : Type} (s : State) (l : List a) {f : State → a → State}
    (hf : ∀ t x, (f t x).pending = t.pending) : (s.forEach l f).pending = s.pending := State.forEach_pending hf l s

@[simp] theorem State.when_pending (s : State) (c : Bool) {f : State → State} (hf : ∀ t, (f t).pending = t.pending) :
    (s.when c f).pending = s.pending := by
  unfold State.when
  split
  · exact hf s
  · rfl

@[simp] theorem foldl_fst_pending {a b : Type} (p : State × b) (l : List a) {f : State × b → a → State × b}
    (hf : ∀ p x, (f p x).1.pending = p.1.pending) : (l.foldl f p).1.pending = p.1.pending := by
  induction l generalizing p with
  | nil => rfl
  | cons x l ih => exact (ih _).trans (hf p x)

@[simp] theorem State.judge_pending (s : State) (v : Option Nat) {f : State → Nat → State} {g : State → State}
    (hf : ∀ t p, (f t p).pending = t.pending) (hg : ∀ t, (g t).pending = t.pending) : (s.judge v f g).pending = s.pending := by
  unfold State.judge
  split
  · exact hf _ _
  · exact hg s

@[simp] theorem foldl_unit_pending {a : Type} (u : WriteUnit) (l : List a) {f : WriteUnit → a → WriteUnit}
    (hf : ∀ u x, (f u x).s.pending = u.s.pending) : (l.foldl f u).s.pending = u.s.pending := by
  induction l generalizing u with
  | nil => rfl
  | cons x l ih => exact (ih _).trans (hf u x)

@[simp] theorem foldl_asm_pending {a : Type} (u : Assembly) (l : List a) {f : Assembly → a → Assembly}
    (hf : ∀ u x, (f u x).s.pending = u.s.pending) : (l.foldl f u).s.pending = u.s.pending := by
  induction l generalizing u with
  | nil => rfl
  | cons x l ih => exact (ih _).trans (hf u x)

/-- Where it answers a state, nothing has been taken from the queue of commands. -/
def KeepsPending (s : State) (o : Option State) : Prop := ∀ t, o = some t → t.pending = s.pending

@[simp] theorem keepsPending_none (s : State) : KeepsPending s none := fun _ h => by cases h

@[simp] theorem keepsPending_some {s t : State} : KeepsPending s (some t) ↔ t.pending = s.pending :=
  ⟨fun h => h t rfl, fun h _ e => Option.some.inj e ▸ h⟩

theorem KeepsPending.ite {s : State} {c : Prop} [Decidable c] {o p : Option State} (ho : KeepsPending s o) (hp : KeepsPending s p) :
    KeepsPending s (if c then o else p) := by
  split
  · exact ho
  · exact hp

theorem firstOf_pending (s : State) (l : List (Option State)) (hl : ∀ o ∈ l, KeepsPending s o) :
    (firstOf s l).pending = s.pending := by
  induction l with
  | nil => rfl
  | cons o l ih =>
    cases o with
    | none => exact ih fun x hx => hl x (List.mem_cons_of_mem _ hx)
    | some t => exact hl _ List.mem_cons_self t rfl

@[simp] theorem State.commands_pending (s : State) (w : Word) (ops : List (Nat × (State → State)))
    (ho : ∀ x ∈ ops, ∀ t, (x.2 t).pending = t.pending) : (s.commands w ops).pending = s.pending := by
  unfold State.commands
  induction ops generalizing s with
  | nil => rfl
  | cons x ops ih =>
    refine (ih _ fun y hy => ho y (List.mem_cons_of_mem _ hy)).trans ?_
    dsimp only
    split
    · exact ho x List.mem_cons_self s
    · rfl

theorem State.keeperDo_pending (s : State) {f : State → State} (hf : ∀ t, (f t).pending = t.pending) :
    (s.keeperDo f).pending = s.pending := by
  unfold State.keeperDo
  split
  · exact hf s
  · rfl

theorem State.bootedDo_pending (s : State) {f : State → State} (hf : ∀ t, (f t).pending = t.pending) :
    (s.bootedDo f).pending = s.pending := by
  unfold State.bootedDo
  split
  · exact hf s
  · rfl

/-! ### Registers, counters, queues and incidents -/

@[simp] theorem State.freeBelow_pending (s : State) (n : Nat) : (s.freeBelow n).2.pending = s.pending := rfl

@[simp] theorem State.toCount_pending (s : State) (n : Nat) : (s.toCount n).pending = s.pending := by
  simp [State.toCount, apply_ite State.pending]

@[simp] theorem State.toTick_pending (s : State) (t : Nat) : (s.toTick t).pending = s.pending := by
  simp [State.toTick, apply_ite State.pending]

@[simp] theorem State.wrPair_pending (s : State) (lo hi : Fld) (i v : Nat) : (s.wrPair lo hi i v).pending = s.pending := rfl

@[simp] theorem State.pmcWrapped_pending (s : State) (j : Nat) : (s.pmcWrapped j).pending = s.pending := rfl

@[simp] theorem State.pmcAdd_pending (s : State) (lo hi : Fld) (i j amount : Nat) :
    (s.pmcAdd lo hi i j amount).pending = s.pending := by
  simp [State.pmcAdd, apply_ite State.pending]

@[simp] theorem State.count_pending (s : State) (e l amount : Nat) : (s.count e l amount).pending = s.pending := by
  simp [State.count, apply_ite State.pending]

@[simp] theorem State.hwm_pending (s : State) (q : Nat) : (s.hwm q).pending = s.pending := rfl

@[simp] theorem State.noteT48_pending (s : State) (q : Nat) (p : Packet) : (s.noteT48 q p).pending = s.pending := by
  simp [State.noteT48, apply_ite State.pending]

@[simp] theorem State.enqueue_pending (s : State) (q : Nat) (p : Packet) : (s.enqueue q p).pending = s.pending := by
  simp [State.enqueue]

@[simp] theorem State.unblock_pending (s : State) (q : Nat) : (s.unblock q).pending = s.pending := by
  simp [State.unblock, apply_ite State.pending]

@[simp] theorem State.foldInc_pending (s : State) (r e : Nat) : (s.foldInc r e).pending = s.pending := rfl

@[simp] theorem State.stationDelay_pending (s : State) : (s.stationDelay).2.pending = s.pending := rfl

@[simp] theorem State.openInc_pending (s : State) (e c l d : Nat) : (s.openInc e c l d).pending = s.pending := by
  unfold State.openInc
  dsimp only
  repeat' split
  all_goals simp -implicitDefEqProofs

@[simp] theorem State.incOverflow_pending (s : State) : s.incOverflow.pending = s.pending := by
  simp [State.incOverflow, apply_ite State.pending]

@[simp] theorem State.report_pending (s : State) (c l d : Nat) : (s.report c l d).pending = s.pending := by
  unfold State.report
  split
  · rfl
  · split
    · rfl
    · split <;> simp

@[simp] theorem State.conditionOver_pending (s : State) (c l : Nat) : (s.conditionOver c l).pending = s.pending := rfl

@[simp] theorem State.conditionOverAt_pending (s : State) (c l d : Nat) : (s.conditionOverAt c l d).pending = s.pending := rfl

@[simp] theorem State.configFault_pending (s : State) (l addr : Nat) : (s.configFault l addr).pending = s.pending := by
  simp [State.configFault]

@[simp] theorem State.pushTime_pending (s : State) (path : Nat) (ws : List LWord) : (s.pushTime path ws).pending = s.pending := by
  simp [State.pushTime, apply_ite State.pending]

@[simp] theorem State.pushSafety_pending (s : State) (only : Option Nat) (ws : List LWord) :
    (s.pushSafety only ws).pending = s.pending := by
  simp [State.pushSafety, apply_ite State.pending]

@[simp] theorem State.pushPkt_pending (s : State) (q : Nat) (p : Packet) : (s.pushPkt q p).pending = s.pending := by
  simp [State.pushPkt, apply_ite State.pending]

@[simp] theorem State.push_pending (s : State) (q : Nat) (ws : List LWord) : (s.push q ws).pending = s.pending := by
  simp [State.push]

@[simp] theorem State.pushSteered_pending (s : State) (q : Nat) (ch : Option Nat) (ws : List LWord) :
    (s.pushSteered q ch ws).pending = s.pending := by
  simp [State.pushSteered]

/-! ### Channels and regions -/

@[simp] theorem State.moveChanges_pending (s : State) (ch : Nat) : (s.moveChanges ch).pending = s.pending := rfl

@[simp] theorem State.mark_pending (s : State) (ch : Nat) (x : Span) : (s.mark ch x).pending = s.pending := rfl

@[simp] theorem State.onSource_pending (s : State) (ch a : Nat) (f : Span → Span) : (s.onSource ch a f).pending = s.pending := rfl

/-! ### Ranges and feeds -/

@[simp] theorem State.scheduleRange_pending (s : State) (ch code n : Nat) : (s.scheduleRange ch code n).pending = s.pending := by
  simp [State.scheduleRange, apply_ite State.pending]

@[simp] theorem State.applyRange_pending (s : State) (ch n : Nat) : (s.applyRange ch n).pending = s.pending := rfl

@[simp] theorem State.autoReset_pending (s : State) (ch : Nat) : (s.autoReset ch).pending = s.pending := rfl

@[simp] theorem State.doRangeWrite_pending (s : State) (ch : Nat) (w : Word) (ns : Nat) :
    (s.doRangeWrite ch w ns).pending = s.pending := by
  simp [State.doRangeWrite, apply_ite State.pending]

@[simp] theorem State.doRangeApply_pending (s : State) (ch : Nat) : (s.doRangeApply ch).pending = s.pending := by
  unfold State.doRangeApply
  split <;> simp

@[simp] theorem State.releaseRange_pending (s : State) (ch n : Nat) : (s.releaseRange ch n).pending = s.pending := by
  simp [State.releaseRange, apply_ite State.pending]

@[simp] theorem State.storeDwell_pending (s : State) (n : Nat) : (s.storeDwell n).pending = s.pending := rfl

@[simp] theorem State.doArThrWrite_pending (s : State) (w : Word) : (s.doArThrWrite w).pending = s.pending := by
  simp [State.doArThrWrite, apply_ite State.pending]

@[simp] theorem State.doAutoRange_pending (s : State) (ch : Nat) : (s.doAutoRange ch).pending = s.pending := by
  unfold State.doAutoRange
  dsimp only
  repeat' split
  all_goals simp

@[simp] theorem State.autoBlock_pending (s : State) (ch n : Nat) (peak : Nat) : (s.autoBlock ch n peak).pending = s.pending := by
  simp [State.autoBlock, apply_ite State.pending]

@[simp] theorem State.feedCleared_pending (s : State) (a old new : Nat) : (s.feedCleared a old new).pending = s.pending := by
  simp [State.feedCleared, apply_ite State.pending]

@[simp] theorem State.enterFeed_pending (s : State) (a new : Nat) (detail : Nat) :
    (s.enterFeed a new detail).pending = s.pending := by
  simp [State.enterFeed, apply_ite State.pending]

@[simp] theorem State.feedSwitchOn_pending (s : State) (a : Nat) (retrying : Bool) :
    (s.feedSwitchOn a retrying).pending = s.pending := rfl

@[simp] theorem State.dropPulse_pending (s : State) (a : Nat) (skip : Bool) : (s.dropPulse a skip).pending = s.pending := rfl

@[simp] theorem State.doFeedEnWrite_pending (s : State) (w : Word) : (s.doFeedEnWrite w).pending = s.pending := by
  simp [State.doFeedEnWrite, apply_ite State.pending]

@[simp] theorem State.feedOverloaded_pending (s : State) (a : Nat) : (s.feedOverloaded a).pending = s.pending := by
  simp [State.feedOverloaded, apply_ite State.pending]

@[simp] theorem State.feedOnState_pending (s : State) (a current : Nat) (opened back blanked : Bool) :
    (s.feedOnState a current opened back blanked).pending = s.pending := by
  simp [State.feedOnState, apply_ite State.pending]

@[simp] theorem State.feedTick_pending (s : State) (a current : Nat) (opened lineUp back : Bool) :
    (s.feedTick a current opened lineUp back).pending = s.pending := by
  unfold State.feedTick
  dsimp only
  repeat' split
  all_goals simp

@[simp] theorem State.doFeedTick_pending (s : State) (current : List Nat) (opened lineUp back : Nat) :
    (s.doFeedTick current opened lineUp back).pending = s.pending := by
  simp [State.doFeedTick]

@[simp] theorem State.doFeedTrip_pending (s : State) (a : Nat) : (s.doFeedTrip a).pending = s.pending := by
  simp [State.doFeedTrip, apply_ite State.pending]

@[simp] theorem State.doFeedRetry_pending (s : State) (a : Nat) : (s.doFeedRetry a).pending = s.pending := by
  unfold State.doFeedRetry
  split <;> simp [apply_ite State.pending]

@[simp] theorem State.shedFeeds_pending (s : State) (r : Nat) (off : Bool) : (s.shedFeeds r off).pending = s.pending := by
  simp [State.shedFeeds, apply_ite State.pending]

@[simp] theorem State.doVfeedUnder_pending (s : State) (mv10 : Nat) : (s.doVfeedUnder mv10).pending = s.pending := by
  unfold State.doVfeedUnder
  dsimp only
  repeat' split
  all_goals simp

@[simp] theorem State.doVfeedRecover_pending (s : State) (mv10 : Nat) : (s.doVfeedRecover mv10).pending = s.pending := by
  simp [State.doVfeedRecover, apply_ite State.pending]

@[simp] theorem State.startSweep_pending (s : State) : s.startSweep.pending = s.pending := by
  simp [State.startSweep, apply_ite State.pending]

@[simp] theorem State.doFeedSweep_pending (s : State) : s.doFeedSweep.pending = s.pending := by simp [State.doFeedSweep]

@[simp] theorem State.doFeedSweepPeriodic_pending (s : State) : s.doFeedSweepPeriodic.pending = s.pending := by
  simp [State.doFeedSweepPeriodic, apply_ite State.pending]

@[simp] theorem State.doFeedSweepStartUp_pending (s : State) : s.doFeedSweepStartUp.pending = s.pending := by
  simp [State.doFeedSweepStartUp, apply_ite State.pending]

@[simp] theorem State.sweepTick_pending (s : State) (w : Sweep) : (s.sweepTick w).pending = s.pending := by
  unfold State.sweepTick
  split <;> simp

@[simp] theorem State.doFeedPulse_pending (s : State) (before : List Nat) : (s.doFeedPulse before).pending = s.pending := by
  unfold State.doFeedPulse
  dsimp only
  repeat' split
  all_goals simp -implicitDefEqProofs

@[simp] theorem State.doFeedPulseEnd_pending (s : State) (lineHigh : Bool) (now : List Nat) :
    (s.doFeedPulseEnd lineHigh now).pending = s.pending := by
  unfold State.doFeedPulseEnd
  dsimp only
  repeat' split
  all_goals simp

@[simp] theorem State.closeSweep_pending (s : State) (skipped : List Nat) (stopped : Bool) :
    (s.closeSweep skipped stopped).pending = s.pending := rfl

@[simp] theorem State.doFeedSweepEnd_pending (s : State) : s.doFeedSweepEnd.pending = s.pending := by
  unfold State.doFeedSweepEnd
  split <;> simp [apply_ite State.pending]

@[simp] theorem State.rateDropPulse_pending (s : State) : s.rateDropPulse.pending = s.pending := by
  unfold State.rateDropPulse
  split
  · split <;> simp
  · rfl

@[simp] theorem State.stopSweep_pending (s : State) : s.stopSweep.pending = s.pending := by
  unfold State.stopSweep
  split <;> simp

/-! ### Admission -/

@[simp] theorem State.admitFault_pending (s : State) (path : Nat) : (s.admitFault path).pending = s.pending := by
  simp [State.admitFault]

/-! ### The capture ring -/

@[simp] theorem State.setRingState_pending (s : State) (n : Nat) : (s.setRingState n).pending = s.pending := rfl

@[simp] theorem State.pushCue_pending (s : State) (disp conds loc c frac id w3 set : Nat) :
    (s.pushCue disp conds loc c frac id w3 set).pending = s.pending := by
  unfold State.pushCue
  split <;> simp

@[simp] theorem State.pushMark_pending (s : State) (kind c source k n : Nat) :
    (s.pushMark kind c source k n).pending = s.pending := by
  simp [State.pushMark]

@[simp] theorem State.skipAll_pending (s : State) : s.skipAll.pending = s.pending := rfl

@[simp] theorem State.serveShare_pending (s : State) (k : Nat) : (s.serveShare k).pending = s.pending := by
  unfold State.serveShare
  dsimp only
  repeat' split
  all_goals simp

theorem State.portStep_pending (s : State) : KeepsPending s (s.portStep) := by
  intro t h
  unfold State.portStep at h
  dsimp only at h
  split at h
  · cases h
  · cases h
    simp

@[simp] theorem State.portUntil_pending (s : State) (done : State → Bool) (fuel : Nat) :
    (s.portUntil done fuel).pending = s.pending := by
  induction fuel generalizing s with
  | zero => rfl
  | succ fuel ih =>
    unfold State.portUntil
    split
    · rfl
    · split
      · rfl
      · next t ht => exact (ih t).trans (s.portStep_pending t ht)

@[simp] theorem State.runPort_pending (s : State) : s.runPort.pending = s.pending := by simp [State.runPort]

@[simp] theorem State.runPortTo_pending (s : State) (done : State → Bool) : (s.runPortTo done).pending = s.pending := by
  simp [State.runPortTo]

@[simp] theorem State.logEntry_pending (s : State) (ch n attr : Nat) : (s.logEntry ch n attr).pending = s.pending := by
  simp [State.logEntry, apply_ite State.pending]

@[simp] theorem State.ringWrite_pending (s : State) (ch n attr : Nat) (xs : List Int) :
    (s.ringWrite ch n attr xs).pending = s.pending := by
  simp [State.ringWrite, apply_ite State.pending]

@[simp] theorem State.verifyFail_pending (s : State) (ch : Nat) : (s.verifyFail ch).pending = s.pending := by
  simp [State.verifyFail]

@[simp] theorem State.verifyAll_pending (s : State) (mode : Nat) (bad : Upsets) (bs : List ReadBlk) :
    (s.verifyAll mode bad bs).pending = s.pending := by
  simp [State.verifyAll]

@[simp] theorem State.freeUpsets_pending (s : State) (bs : List ReadBlk) : (s.freeUpsets bs).2.pending = s.pending := rfl

@[simp] theorem State.pushSegments_pending (s : State) (ch : Option Nat) (segs : List (List LWord)) :
    (s.pushSegments ch segs).pending = s.pending := by
  simp [State.pushSegments]

@[simp] theorem State.endSnippet_pending (s : State) (j : SnipJob) (size : Nat) (aborted : Bool) (bad : Upsets) :
    (s.endSnippet j size aborted bad).pending = s.pending := by
  simp [State.endSnippet, apply_ite State.pending]

@[simp] theorem State.showJobs_pending (s : State) : s.showJobs.pending = s.pending := rfl

@[simp] theorem State.endReadout_pending (s : State) (r : Readout) (size : Nat) (aborted : Bool) (bad : Upsets) :
    (s.endReadout r size aborted bad).pending = s.pending := by
  simp [State.endReadout]

@[simp] theorem State.abortJobs_pending (s : State) : s.abortJobs.pending = s.pending := by
  simp [State.abortJobs, apply_ite State.pending]

@[simp] theorem State.cutCodec_pending (s : State) : s.cutCodec.pending = s.pending := by simp [State.cutCodec]

@[simp] theorem State.ringRestart_pending (s : State) (n : Nat) : (s.ringRestart n).pending = s.pending := by
  simp [State.ringRestart]

@[simp] theorem State.divideRing_pending (s : State) (map n : Nat) : (s.divideRing map n).pending = s.pending := by
  simp [State.divideRing]

/-! ### Cues -/

@[simp] theorem State.startDetector_pending (s : State) (ch n : Nat) : (s.startDetector ch n).pending = s.pending := rfl

@[simp] theorem State.sumBlock_pending (s : State) (ch n : Nat) : (s.sumBlock ch n).pending = s.pending := rfl

@[simp] theorem State.doDetectorWindowEnd_pending (s : State) (ch : Nat) : (s.doDetectorWindowEnd ch).pending = s.pending := rfl

@[simp] theorem State.propose_pending (s : State) (p : Proposal) : (s.propose p).pending = s.pending := rfl

@[simp] theorem State.fireCombiner_pending (s : State) (f : Firing) : (s.fireCombiner f).pending = s.pending := by
  simp [State.fireCombiner, apply_ite State.pending]

@[simp] theorem State.doImpulseFire_pending (s : State) (ch n : Nat) : (s.doImpulseFire ch n).pending = s.pending := by
  simp [State.doImpulseFire, apply_ite State.pending]

@[simp] theorem State.checkCombiner_pending (s : State) (g : Nat) : (s.checkCombiner g).pending = s.pending := by
  simp [State.checkCombiner, apply_ite State.pending]

@[simp] theorem State.combine_pending (s : State) (g : Nat) : (s.combine g).pending = s.pending := by
  unfold State.combine
  split <;> simp [apply_ite State.pending]

@[simp] theorem State.combineAll_pending (s : State) : s.combineAll.pending = s.pending := by simp [State.combineAll]

@[simp] theorem State.doTriggerEdge_pending (s : State) (n k phi : Nat) (falling : Bool) :
    (s.doTriggerEdge n k phi falling).pending = s.pending := by
  simp [State.doTriggerEdge, apply_ite State.pending]

@[simp] theorem State.doSoftwareCue_pending (s : State) : s.doSoftwareCue.pending = s.pending := rfl

@[simp] theorem State.requestFreeze_pending (s : State) (z : Nat) : (s.requestFreeze z).pending = s.pending := by
  simp [State.requestFreeze, apply_ite State.pending]

@[simp] theorem State.pulseOut_pending (s : State) (bit : Nat) : (s.pulseOut bit).pending = s.pending := by
  simp [State.pulseOut, apply_ite State.pending]

@[simp] theorem State.acceptProposal_pending (s : State) (p : Proposal) (set : Nat) :
    (s.acceptProposal p set).pending = s.pending := by
  simp -implicitDefEqProofs [State.acceptProposal, apply_ite State.pending]

@[simp] theorem State.blindProposal_pending (s : State) (p : Proposal) : (s.blindProposal p).pending = s.pending := by
  unfold State.blindProposal
  dsimp only
  repeat' split
  all_goals simp

@[simp] theorem State.takeProposal_pending (s : State) (p : Proposal) : (s.takeProposal p).pending = s.pending := by
  unfold State.takeProposal
  dsimp only
  repeat' split
  all_goals simp

@[simp] theorem State.doCueProposal_pending (s : State) (i : Nat) : (s.doCueProposal i).pending = s.pending := by
  unfold State.doCueProposal
  dsimp only
  repeat' split
  all_goals simp

@[simp] theorem State.cueRecord_pending (s : State) (q : Cue) (disp : Nat) : (s.cueRecord q disp).pending = s.pending := by
  simp [State.cueRecord, apply_ite State.pending]

@[simp] theorem State.chargeSnippet_pending (s : State) (conds bytes : Nat) :
    (s.chargeSnippet conds bytes).pending = s.pending := by
  simp -implicitDefEqProofs [State.chargeSnippet]

@[simp] theorem State.snippetJob_pending (s : State) (q : Cue) : (s.snippetJob q).2.pending = s.pending := rfl

@[simp] theorem State.closeCue_pending (s : State) (q : Cue) : (s.closeCue q).pending = s.pending := by
  unfold State.closeCue
  dsimp only
  repeat' split
  all_goals simp

@[simp] theorem State.doCueClose_pending (s : State) : s.doCueClose.pending = s.pending := by
  unfold State.doCueClose
  split <;> simp

@[simp] theorem State.closeCuesEarly_pending (s : State) : s.closeCuesEarly.pending = s.pending := by simp [State.closeCuesEarly]

@[simp] theorem State.doTrigOutEnd_pending (s : State) : s.doTrigOutEnd.pending = s.pending := by
  unfold State.doTrigOutEnd
  split <;> simp

@[simp] theorem State.setPrescale_pending (s : State) (i k n : Nat) : (s.setPrescale i k n).pending = s.pending := by
  simp [State.setPrescale]

@[simp] theorem State.budgetSource_pending (s : State) (n i : Nat) : (s.budgetSource n i).pending = s.pending := by
  simp [State.budgetSource, apply_ite State.pending]

@[simp] theorem State.doBudgetIntervalEnd_pending (s : State) : s.doBudgetIntervalEnd.pending = s.pending := by
  simp [State.doBudgetIntervalEnd, apply_ite State.pending]

@[simp] theorem State.startBudget_pending (s : State) (n : Nat) : (s.startBudget n).pending = s.pending := rfl

@[simp] theorem State.doFreeze_pending (s : State) : s.doFreeze.pending = s.pending := by simp [State.doFreeze]

@[simp] theorem State.doFreezeStop_pending (s : State) : s.doFreezeStop.pending = s.pending := by
  unfold State.doFreezeStop
  split <;> simp [apply_ite State.pending]

@[simp] theorem State.doRearm_pending (s : State) : s.doRearm.pending = s.pending := by
  simp [State.doRearm, apply_ite State.pending]

@[simp] theorem State.doRearmLogClear_pending (s : State) (ns : Nat) : (s.doRearmLogClear ns).pending = s.pending := by
  simp [State.doRearmLogClear, apply_ite State.pending]

@[simp] theorem State.doRearmResume_pending (s : State) : s.doRearmResume.pending = s.pending := by
  unfold State.doRearmResume
  split <;> simp [apply_ite State.pending]

@[simp] theorem State.stopRing_pending (s : State) : s.stopRing.pending = s.pending := by
  simp [State.stopRing, apply_ite State.pending]

@[simp] theorem State.startRing_pending (s : State) (n : Nat) : (s.startRing n).pending = s.pending := by simp [State.startRing]

end Sys2Proof.Machine
end

section
/-! SUPPORT. No operation of the module takes a command from its queue, in any state:
host memory, the sample path and the converters. -/

namespace Sys2Proof.Machine

/-! ### Host memory -/

@[simp] theorem State.memPush_pending (s : State) (x : MemTx) : (s.memPush x).pending = s.pending := rfl

@[simp] theorem State.memAppend_pending (s : State) (pos key addr : Nat) (w : LWord) :
    (s.memAppend pos key addr w).pending = s.pending := by
  unfold State.memAppend
  split <;> simp [apply_ite State.pending]

@[simp] theorem State.memWrite_pending (s : State) (pos key addr : Nat) (ws : List LWord) :
    (s.memWrite pos key addr ws).pending = s.pending := by
  simp [State.memWrite]

@[simp] theorem State.pushStatus_pending (s : State) (r : Nat) : (s.pushStatus r).pending = s.pending := rfl

@[simp] theorem State.writeStatus_pending (s : State) (r : Nat) : (s.writeStatus r).pending = s.pending := by
  simp [State.writeStatus, apply_ite State.pending]

@[simp] theorem State.catchStatus_pending (s : State) : s.catchStatus.pending = s.pending := by
  simp [State.catchStatus, apply_ite State.pending]

@[simp] theorem State.advanceWi_pending (s : State) (r bytes : Nat) : (s.advanceWi r bytes).pending = s.pending := rfl

@[simp] theorem State.startPacket_pending (s : State) (q : Nat) : (s.startPacket q).pending = s.pending := by
  unfold State.startPacket
  split <;> simp

@[simp] theorem State.endPacket_pending (s : State) (q : Nat) : (s.endPacket q).pending = s.pending := by simp [State.endPacket]

@[simp] theorem State.takeWord_pending (s : State) (q : Nat) : (s.takeWord q).1.pending = s.pending := by
  unfold State.takeWord
  dsimp only
  repeat' split
  all_goals simp

@[simp] theorem State.takePacket_pending (s : State) (q n : Nat) : (s.takePacket q n).1.pending = s.pending := by
  induction n generalizing s with
  | zero => rfl
  | succ n ih =>
    have hword := s.takeWord_pending q
    unfold State.takePacket
    split <;> simp_all

@[simp] theorem WriteUnit.put_pending (u : WriteUnit) (key addr : Nat) (w : LWord) (isLoc : Bool) :
    (u.put key addr w isLoc).s.pending = u.s.pending := rfl

@[simp] theorem State.setWriting_pending (s : State) (q : Nat) (w : Option RecWrite) :
    (s.setWriting q w).pending = s.pending := rfl

@[simp] theorem WriteUnit.endRecord_pending (u : WriteUnit) (q : Nat) (w : RecWrite) :
    (u.endRecord q w).s.pending = u.s.pending := by
  unfold WriteUnit.endRecord
  split <;> simp

@[simp] theorem WriteUnit.flush_pending (u : WriteUnit) (q : Nat) : (u.flush q).s.pending = u.s.pending := by
  unfold WriteUnit.flush
  split <;> simp

@[simp] theorem WriteUnit.cutRecord_pending (u : WriteUnit) (q : Nat) (w : RecWrite) :
    (u.cutRecord q w).s.pending = u.s.pending := by
  unfold WriteUnit.cutRecord
  split <;> simp

@[simp] theorem WriteUnit.goOn_pending (u : WriteUnit) (q : Nat) (w : RecWrite) : (u.goOn q w).s.pending = u.s.pending := by
  have hword := u.s.takeWord_pending q
  unfold WriteUnit.goOn
  dsimp only
  generalize (w.at_ + 8 * if w.ring.isSome = true then w.done + 1 else w.done) = addr
  split
  · rfl
  · split
    · split <;> simp_all
    · simp_all

@[simp] theorem WriteUnit.begin_pending (u : WriteUnit) (q : Nat) : (u.begin_ q).s.pending = u.s.pending := by
  unfold WriteUnit.begin_
  dsimp only
  repeat' split
  all_goals simp

@[simp] theorem WriteUnit.move_pending (q : Nat) (u : WriteUnit) : (u.move q).s.pending = u.s.pending := by
  unfold WriteUnit.move
  split
  · rfl
  · split <;> simp

@[simp] theorem State.writeUnit_pending (s : State) (q : Nat) : (s.writeUnit q).pending = s.pending := by simp [State.writeUnit]

@[simp] theorem State.memService_pending (s : State) : s.memService.pending = s.pending := by
  simp [State.memService, apply_ite State.pending]

@[simp] theorem State.cutWrites_pending (s : State) : s.cutWrites.pending = s.pending := by
  refine State.forEach_pending (fun t q => ?_) _ _
  split
  · simp -implicitDefEqProofs
  · rfl

@[simp] theorem State.showFlight_pending (s : State) (r : Nat) : (s.showFlight r).pending = s.pending := rfl

@[simp] theorem State.postEntry_pending (s : State) (c : PCmd) : (s.postEntry c).pending = s.pending := by simp [State.postEntry]

@[simp] theorem State.postAll_pending (s : State) : s.postAll.pending = s.pending := by
  simp [State.postAll, apply_ite State.pending]

@[simp] theorem State.finishCmd_pending (s : State) (ring idx : Nat) (result : LWord) (status blocks low : Nat) :
    (s.finishCmd ring idx result status blocks low).pending = s.pending := by
  simp [State.finishCmd]

@[simp] theorem State.pushOutput_pending (s : State) (ring idx addr : Nat) (ws : List LWord) :
    (s.pushOutput ring idx addr ws).pending = s.pending := by
  simp [State.pushOutput]

/-! ### The Sage stream -/

@[simp] theorem State.beginPacket_pending (s : State) (ch n0 len : Nat) : (s.beginPacket ch n0 len).pending = s.pending := by
  simp [State.beginPacket, apply_ite State.pending]

@[simp] theorem State.beginFrom_pending (s : State) (ch n : Nat) : (s.beginFrom ch n).pending = s.pending := by
  simp [State.beginFrom, apply_ite State.pending]

@[simp] theorem State.flushOne_pending (s : State) (q ch n0 : Nat) : (s.flushOne q ch n0).pending = s.pending := by
  simp [State.flushOne]

@[simp] theorem State.discardTags_pending (s : State) (ch a b : Nat) : (s.discardTags ch a b).pending = s.pending := rfl

@[simp] theorem State.dropProgress_pending (s : State) (ch n : Nat) : (s.dropProgress ch n).pending = s.pending := by
  simp -implicitDefEqProofs [State.dropProgress]

@[simp] theorem State.startChannel_pending (s : State) (ch n : Nat) (notches : List Notch) :
    (s.startChannel ch n notches).pending = s.pending := by
  simp [State.startChannel, apply_ite State.pending]

@[simp] theorem State.stopChannel_pending (s : State) (ch n : Nat) : (s.stopChannel ch n).pending = s.pending := by
  unfold State.stopChannel
  split <;> simp

@[simp] theorem State.firBlock_pending (s : State) (ch n : Nat) : (s.firBlock ch n).pending = s.pending := by
  simp [State.firBlock, apply_ite State.pending]

@[simp] theorem State.traceBlock_pending (s : State) (ch n mode decim : Nat) :
    (s.traceBlock ch n mode decim).pending = s.pending := by
  simp [State.traceBlock, apply_ite State.pending]

@[simp] theorem State.discardPacket_pending (s : State) (ch : Nat) : (s.discardPacket ch).pending = s.pending := by
  simp [State.discardPacket]

@[simp] theorem State.storePacket_pending (s : State) (ch n0 d : Nat) (ws : List LWord) :
    (s.storePacket ch n0 d ws).pending = s.pending := by
  simp [State.storePacket, apply_ite State.pending]

@[simp] theorem State.doStreamPacket_pending (s : State) (ch n0 : Nat) (flips : List (Nat × Nat)) (bad : List Nat) :
    (s.doStreamPacket ch n0 flips bad).pending = s.pending := by
  simp [State.doStreamPacket, apply_ite State.pending]

@[simp] theorem State.acceptApply_pending (s : State) : s.acceptApply.pending = s.pending := rfl

@[simp] theorem State.doStreamApply_pending (s : State) : s.doStreamApply.pending = s.pending := by
  simp -implicitDefEqProofs [State.doStreamApply]

@[simp] theorem State.setMode_pending (s : State) (ch n mode : Nat) (en : Bool) :
    (s.setMode ch n mode en).pending = s.pending := by
  simp [State.setMode, apply_ite State.pending]

@[simp] theorem State.doStreamApplyEffect_pending (s : State) : s.doStreamApplyEffect.pending = s.pending := by
  unfold State.doStreamApplyEffect
  dsimp only
  repeat' split
  all_goals simp

@[simp] theorem State.holdStream_pending (s : State) (held : Bool) : (s.holdStream held).pending = s.pending := by
  simp [State.holdStream, apply_ite State.pending]

@[simp] theorem State.setFlushBusy_pending (s : State) (g : Nat) (b : Bool) : (s.setFlushBusy g b).pending = s.pending := rfl

@[simp] theorem State.doFlushDone_pending (s : State) (g : Nat) : (s.doFlushDone g).pending = s.pending := by
  simp [State.doFlushDone, apply_ite State.pending]

@[simp] theorem State.doQueueFlush_pending (s : State) (g : Nat) : (s.doQueueFlush g).pending = s.pending := by
  simp [State.doQueueFlush, apply_ite State.pending]

@[simp] theorem State.doDrop3_pending (s : State) : s.doDrop3.pending = s.pending := by
  simp [State.doDrop3, apply_ite State.pending]

@[simp] theorem State.doDrop3Done_pending (s : State) : s.doDrop3Done.pending = s.pending := by
  simp [State.doDrop3Done, apply_ite State.pending]

@[simp] theorem State.doHwmReset_pending (s : State) (q : Nat) : (s.doHwmReset q).pending = s.pending := rfl

/-! ### Watch cells and masks -/

@[simp] theorem State.swapBanks_pending (s : State) (lo hi : Nat) : (s.swapBanks lo hi).pending = s.pending := rfl

@[simp] theorem State.prime_pending (s : State) (ch : Nat) : (s.prime ch).pending = s.pending := rfl

@[simp] theorem State.feedTokens_pending (s : State) (m : Nat) : (s.feedTokens m).pending = s.pending := by
  simp [State.feedTokens, apply_ite State.pending]

@[simp] theorem State.sendRecord_pending (s : State) (event : Nat) (rec_ : Bool → List LWord) :
    (s.sendRecord event rec_).2.pending = s.pending := by
  unfold State.sendRecord
  split <;> simp

@[simp] theorem State.occupancy_pending (s : State) (ch sub m : Nat) (x : Cell) :
    (s.occupancy ch sub m x).pending = s.pending := by
  unfold State.occupancy
  dsimp only
  repeat' split
  all_goals simp

@[simp] theorem State.mapCells_pending (s : State) (ch : Nat) (f : Nat → Cell → Cell) :
    (s.mapCells ch f).pending = s.pending := rfl

@[simp] theorem State.cellFrame_pending (s : State) (r : FrameRec) : (s.cellFrame r).pending = s.pending := by
  simp [State.cellFrame, apply_ite State.pending]

@[simp] theorem State.maskEnter_pending (s : State) (ch n m : Nat) : (s.maskEnter ch n m).pending = s.pending := by
  simp [State.maskEnter, apply_ite State.pending]

@[simp] theorem State.maskExit_pending (s : State) (ch n m reason : Nat) : (s.maskExit ch n m reason).pending = s.pending := by
  simp [State.maskExit]

@[simp] theorem State.maskTest_pending (s : State) (r : FrameRec) (n : Nat) : (s.maskTest r n).pending = s.pending := by
  simp [State.maskTest, apply_ite State.pending]

@[simp] theorem State.maskFrame_pending (s : State) (r : FrameRec) : (s.maskFrame r).pending = s.pending := by
  simp [State.maskFrame, apply_ite State.pending]

@[simp] theorem State.clearMasks_pending (s : State) (ch m reason : Nat) : (s.clearMasks ch m reason).pending = s.pending := by
  simp [State.clearMasks, apply_ite State.pending]

@[simp] theorem State.wchSync_pending (s : State) : s.wchSync.pending = s.pending := by
  simp [State.wchSync, apply_ite State.pending]

@[simp] theorem State.showSwaps_pending (s : State) : s.showSwaps.pending = s.pending := rfl

@[simp] theorem State.doSegSwap_pending (s : State) : s.doSegSwap.pending = s.pending := rfl

@[simp] theorem State.segSwapNow_pending (s : State) : s.segSwapNow.pending = s.pending := by
  unfold State.segSwapNow
  dsimp only
  repeat' split
  all_goals simp

@[simp] theorem State.doMaskSwap_pending (s : State) : s.doMaskSwap.pending = s.pending := rfl

@[simp] theorem State.maskSwapNow_pending (s : State) (n : Nat) : (s.maskSwapNow n).pending = s.pending := by
  simp -implicitDefEqProofs [State.maskSwapNow, apply_ite State.pending]

@[simp] theorem State.frameRecords_pending (s : State) (m : Nat) : (s.frameRecords m).pending = s.pending := by
  simp [State.frameRecords]

@[simp] theorem State.swapsBefore_pending (s : State) (m : Nat) : (s.swapsBefore m).pending = s.pending := by
  unfold State.swapsBefore
  dsimp only
  repeat' split
  all_goals simp

@[simp] theorem State.doFrameRecord_pending (s : State) : s.doFrameRecord.pending = s.pending := by
  unfold State.doFrameRecord
  split <;> simp

@[simp] theorem State.drainBefore_pending (s : State) (n : Nat) (fuel : Nat) : (s.drainBefore n fuel).pending = s.pending := by
  induction fuel generalizing s with
  | zero => rfl
  | succ fuel ih =>
    unfold State.drainBefore
    split
    · rfl
    · split
      · exact (ih _).trans (by simp)
      · rfl

@[simp] theorem State.doSegSwapApply_pending (s : State) : s.doSegSwapApply.pending = s.pending := by
  unfold State.doSegSwapApply
  split <;> simp [apply_ite State.pending]

@[simp] theorem State.doMaskSwapApply_pending (s : State) : s.doMaskSwapApply.pending = s.pending := by
  unfold State.doMaskSwapApply
  split <;> simp [apply_ite State.pending]

@[simp] theorem State.doKChange_pending (s : State) (ch k : Nat) : (s.doKChange ch k).pending = s.pending := by
  simp [State.doKChange, apply_ite State.pending]

@[simp] theorem State.cellError_pending (s : State) (ch sub : Nat) (correctable : Bool) :
    (s.cellError ch sub correctable).pending = s.pending := by
  simp [State.cellError, apply_ite State.pending]

@[simp] theorem State.doEccSweep_pending (s : State) (ch sub errors : Nat) :
    (s.doEccSweep ch sub errors).pending = s.pending := by
  simp [State.doEccSweep, apply_ite State.pending]

@[simp] theorem State.wchRestart_pending (s : State) : s.wchRestart.pending = s.pending := by
  simp -implicitDefEqProofs [State.wchRestart]

/-! ### Skew, notches, filter chain and channeliser -/

@[simp] theorem State.formSkew_pending (s : State) (ch n : Nat) : (s.formSkew ch n).pending = s.pending := by
  simp [State.formSkew, apply_ite State.pending]

@[simp] theorem State.applySkew_pending (s : State) (ch n : Nat) (host phase : Bool) :
    (s.applySkew ch n host phase).pending = s.pending := by
  simp [State.applySkew]

@[simp] theorem State.doSkewWrite_pending (s : State) (ch : Nat) (w : Word) (ns : Nat) :
    (s.doSkewWrite ch w ns).pending = s.pending := by
  simp [State.doSkewWrite, apply_ite State.pending]

@[simp] theorem State.phaseChanged_pending (s : State) (r : Nat) : (s.phaseChanged r).pending = s.pending := by
  simp [State.phaseChanged, apply_ite State.pending]

@[simp] theorem State.doSkewApply_pending (s : State) (ch : Nat) : (s.doSkewApply ch).pending = s.pending := by
  unfold State.doSkewApply
  dsimp only
  repeat' split
  all_goals simp

@[simp] theorem State.scheduleNotch_pending (s : State) (j settle n : Nat) :
    (s.scheduleNotch j settle n).pending = s.pending := rfl

@[simp] theorem State.doNotchWrite_pending (s : State) (j : Nat) (w : Word) (ns : Nat) :
    (s.doNotchWrite j w ns).pending = s.pending := by
  simp [State.doNotchWrite, apply_ite State.pending]

@[simp] theorem State.doNotchBwWrite_pending (s : State) (j : Nat) (w : Word) (ns : Nat) :
    (s.doNotchBwWrite j w ns).pending = s.pending := by
  simp [State.doNotchBwWrite, apply_ite State.pending]

@[simp] theorem State.showNotches_pending (s : State) (ch : Nat) : (s.showNotches ch).pending = s.pending := by
  simp -implicitDefEqProofs [State.showNotches]

@[simp] theorem State.applyNotch_pending (s : State) (ch n : Nat) (p : Nat × List NotchChg) :
    (s.applyNotch ch n p).pending = s.pending := by
  simp [State.applyNotch]

@[simp] theorem State.doNotchApply_pending (s : State) (ch : Nat) : (s.doNotchApply ch).pending = s.pending := by
  unfold State.doNotchApply
  split
  · rfl
  · split <;> simp

@[simp] theorem State.roadBlock_pending (s : State) (ch n : Nat) (ys : List Int) :
    (s.roadBlock ch n ys).pending = s.pending := rfl

@[simp] theorem State.scheduleChain_pending (s : State) (ch decim order : Nat) (swap : Bool) (n : Nat) :
    (s.scheduleChain ch decim order swap n).pending = s.pending := rfl

@[simp] theorem State.writeChain_pending (s : State) (ch decim order : Nat) (swap : Bool) (ns : Nat) :
    (s.writeChain ch decim order swap ns).pending = s.pending := by
  simp [State.writeChain, apply_ite State.pending]

@[simp] theorem State.doFirSwap_pending (s : State) (ch ns : Nat) : (s.doFirSwap ch ns).pending = s.pending := by
  simp [State.doFirSwap]

@[simp] theorem State.doChainWrite_pending (s : State) (ch decim order ns : Nat) :
    (s.doChainWrite ch decim order ns).pending = s.pending := by
  simp [State.doChainWrite]

@[simp] theorem State.applyChain_pending (s : State) (ch n : Nat) (p : Nat × Bool × Nat × Nat) :
    (s.applyChain ch n p).pending = s.pending := rfl

@[simp] theorem State.doChainApply_pending (s : State) (ch : Nat) : (s.doChainApply ch).pending = s.pending := by
  unfold State.doChainApply
  split
  · rfl
  · split <;> simp

@[simp] theorem State.writeFir_pending (s : State) (i : Nat) (w : Word) : (s.writeFir i w).pending = s.pending := by
  simp [State.writeFir, apply_ite State.pending]

@[simp] theorem State.chnSync_pending (s : State) : s.chnSync.pending = s.pending := by simp [State.chnSync]

@[simp] theorem State.doChnEnWrite_pending (s : State) (en : Bool) : (s.doChnEnWrite en).pending = s.pending := by
  simp [State.doChnEnWrite]

@[simp] theorem State.doProtoSwap_pending (s : State) : s.doProtoSwap.pending = s.pending := rfl

@[simp] theorem State.doProtoSwapApply_pending (s : State) : s.doProtoSwapApply.pending = s.pending := by
  unfold State.doProtoSwapApply
  split <;> simp

@[simp] theorem State.doSpectrumFrame_pending (s : State) (ch m : Nat) (ups : List Bool) :
    (s.doSpectrumFrame ch m ups).pending = s.pending := by
  simp [State.doSpectrumFrame, apply_ite State.pending]

/-! ### Interleaved converters -/

@[simp] theorem State.putFactors_pending (s : State) (ch : Nat) (vs : List (Nat × Nat)) :
    (s.putFactors ch vs).pending = s.pending := by
  simp -implicitDefEqProofs [State.putFactors]

@[simp] theorem State.loadFactors_pending (s : State) (ch : Nat) (vs : List Nat) : (s.loadFactors ch vs).pending = s.pending := by
  simp [State.loadFactors]

@[simp] theorem State.writeCal_pending (s : State) (i : Nat) (w : Word) : (s.writeCal i w).pending = s.pending := rfl

@[simp] theorem State.bgBlock_pending (s : State) (ch n : Nat) (xs : List Int) (clips : List Bool) :
    (s.bgBlock ch n xs clips).pending = s.pending := by
  simp [State.bgBlock, apply_ite State.pending]

@[simp] theorem State.bgMove_pending (s : State) (ch : Nat) (errors : List Int) : (s.bgMove ch errors).pending = s.pending := by
  simp [State.bgMove]

@[simp] theorem State.doBgWindow_pending (s : State) (ch : Nat) (share spur : Nat) (errors : List Int) :
    (s.doBgWindow ch share spur errors).pending = s.pending := by
  unfold State.doBgWindow
  split <;> simp -implicitDefEqProofs [apply_ite State.pending]

@[simp] theorem State.setInjQueue_pending (s : State) (g : Nat) (q : List Inject) : (s.setInjQueue g q).pending = s.pending := rfl

@[simp] theorem State.injResult_pending (s : State) (x : Inject) (status : Nat) :
    (s.injResult x status).2.pending = s.pending := by
  unfold State.injResult
  split
  · split <;> simp
  · rfl

@[simp] theorem State.injComplete_pending (s : State) (x : Inject) (status : Nat) :
    (s.injComplete x status).pending = s.pending := by
  unfold State.injComplete
  dsimp only
  repeat' split
  all_goals simp -implicitDefEqProofs

@[simp] theorem State.clearWindows_pending (s : State) (g : Nat) : (s.clearWindows g).pending = s.pending := by
  simp -implicitDefEqProofs [State.clearWindows]

@[simp] theorem State.assignInject_pending (s : State) (g n : Nat) : (s.assignInject g n).pending = s.pending := by
  refine State.forEach_pending (fun t y => ?_) _ _
  split
  · rfl
  · simp [apply_ite State.pending]

@[simp] theorem State.requestInject_pending (s : State) (x : Inject) (ns : Nat) : (s.requestInject x ns).pending = s.pending := by
  unfold State.requestInject
  split <;> simp

@[simp] theorem State.doInjectRequest_pending (s : State) (w : Word) (ns : Nat) :
    (s.doInjectRequest w ns).pending = s.pending := by
  simp [State.doInjectRequest]

@[simp] theorem State.doInjectStart_pending (s : State) (g : Nat) : (s.doInjectStart g).pending = s.pending := by
  unfold State.doInjectStart
  dsimp only
  repeat' split
  all_goals simp -implicitDefEqProofs

@[simp] theorem State.popInject_pending (s : State) (g status n : Nat) : (s.popInject g status n).pending = s.pending := by
  unfold State.popInject
  split <;> simp

@[simp] theorem State.endWindow_pending (s : State) (g : Nat) (x : Inject) (n : Nat) :
    (s.endWindow g x n).pending = s.pending := by
  simp -implicitDefEqProofs [State.endWindow]

@[simp] theorem State.doInjectComplete_pending (s : State) (g : Nat) : (s.doInjectComplete g).pending = s.pending := by
  unfold State.doInjectComplete
  split
  · split <;> simp [apply_ite State.pending]
  · rfl

@[simp] theorem State.doSkewCal_pending (s : State) (mask ns : Nat) : (s.doSkewCal mask ns).pending = s.pending := by
  simp -implicitDefEqProofs [State.doSkewCal]

@[simp] theorem State.doSkewCalComplete_pending (s : State) (g : Nat) (meas : List Int) :
    (s.doSkewCalComplete g meas).pending = s.pending := by
  unfold State.doSkewCalComplete
  split
  · split <;> simp -implicitDefEqProofs [apply_ite State.pending]
  · rfl

@[simp] theorem State.dropInjects_pending (s : State) (g running waiting n : Nat) :
    (s.dropInjects g running waiting n).pending = s.pending := by
  simp -implicitDefEqProofs [State.dropInjects, apply_ite State.pending]

@[simp] theorem State.doSourceFault_pending (s : State) (g : Nat) : (s.doSourceFault g).pending = s.pending := by
  simp [State.doSourceFault, apply_ite State.pending]

@[simp] theorem State.setRehBusy_pending (s : State) (r : Nat) (b : Bool) : (s.setRehBusy r b).pending = s.pending := rfl

@[simp] theorem State.startRehearsal_pending (s : State) (r ns : Nat) : (s.startRehearsal r ns).pending = s.pending := by
  unfold State.startRehearsal
  dsimp only
  repeat' split
  all_goals simp

@[simp] theorem State.doRehearsalStart_pending (s : State) (mask ns : Nat) :
    (s.doRehearsalStart mask ns).pending = s.pending := by
  simp [State.doRehearsalStart, apply_ite State.pending]

@[simp] theorem State.doRehearsalConnect_pending (s : State) (r : Nat) : (s.doRehearsalConnect r).pending = s.pending := by
  simp -implicitDefEqProofs [State.doRehearsalConnect, apply_ite State.pending]

@[simp] theorem State.phaseEnd_pending (s : State) (r phase : Nat) : (s.phaseEnd r phase).pending = s.pending := by
  simp [State.phaseEnd, apply_ite State.pending]

@[simp] theorem State.doRehearsalPhase_pending (s : State) (r : Nat) (meas : List Int) :
    (s.doRehearsalPhase r meas).pending = s.pending := by
  simp [State.doRehearsalPhase, apply_ite State.pending]

@[simp] theorem State.releaseRehearsal_pending (s : State) (r n : Nat) : (s.releaseRehearsal r n).pending = s.pending := by
  simp [State.releaseRehearsal]

@[simp] theorem State.doRehearsalReconnect_pending (s : State) (r : Nat) (tj : Int) :
    (s.doRehearsalReconnect r tj).pending = s.pending := by
  simp -implicitDefEqProofs [State.doRehearsalReconnect, apply_ite State.pending]

@[simp] theorem State.stopRehearsal_pending (s : State) (r result n : Nat) :
    (s.stopRehearsal r result n).pending = s.pending := by
  simp -implicitDefEqProofs [State.stopRehearsal, apply_ite State.pending]

@[simp] theorem State.doCalSave_pending (s : State) : s.doCalSave.pending = s.pending := by
  simp [State.doCalSave, apply_ite State.pending]

@[simp] theorem State.doCalSaveDone_pending (s : State) (ok : Bool) : (s.doCalSaveDone ok).pending = s.pending := by
  unfold State.doCalSaveDone
  split <;> simp

@[simp] theorem State.loadCal_pending (s : State) : s.loadCal.pending = s.pending := by simp [State.loadCal]

@[simp] theorem State.doCalLoad_pending (s : State) : s.doCalLoad.pending = s.pending := by
  simp [State.doCalLoad, apply_ite State.pending]

@[simp] theorem State.takePhase_pending (s : State) (r : Nat) (reading : Int) : (s.takePhase r reading).pending = s.pending := by
  simp [State.takePhase]

/-! ### Counters and tracers -/

@[simp] theorem State.doSnap_pending (s : State) : s.doSnap.pending = s.pending := by simp -implicitDefEqProofs [State.doSnap]

@[simp] theorem State.doClrWrap_pending (s : State) : s.doClrWrap.pending = s.pending := by
  simp -implicitDefEqProofs [State.doClrWrap]

@[simp] theorem State.dump_pending (s : State) : s.dump.pending = s.pending := by simp [State.dump, apply_ite State.pending]

@[simp] theorem State.doDumpNow_pending (s : State) : s.doDumpNow.pending = s.pending := by
  simp [State.doDumpNow, apply_ite State.pending]

@[simp] theorem State.doPeriodicDump_pending (s : State) : s.doPeriodicDump.pending = s.pending := by
  simp [State.doPeriodicDump, apply_ite State.pending]

@[simp] theorem State.doFocusWrite_pending (s : State) (f part : Nat) (w : Word) :
    (s.doFocusWrite f part w).pending = s.pending := by
  simp [State.doFocusWrite, apply_ite State.pending]

@[simp] theorem State.doTracerRecord_pending (s : State) (i : Nat) (offsets : List (Option Nat)) :
    (s.doTracerRecord i offsets).pending = s.pending := by
  unfold State.doTracerRecord
  split <;> simp [apply_ite State.pending]

/-! ### Snippets and readouts -/

@[simp] theorem State.doSnippetStart_pending (s : State) : s.doSnippetStart.pending = s.pending := by
  unfold State.doSnippetStart
  dsimp only
  repeat' split
  all_goals simp

@[simp] theorem State.readSnippet_pending (s : State) (id : Nat) : (s.readSnippet id).pending = s.pending := by
  simp [State.readSnippet]

@[simp] theorem State.doSnippetComplete_pending (s : State) (id size : Nat) (bad : Upsets) :
    (s.doSnippetComplete id size bad).pending = s.pending := by
  unfold State.doSnippetComplete
  dsimp only
  repeat' split
  all_goals simp

@[simp] theorem State.pushAnswer_pending (s : State) (req status reason first blocks skipped map : Nat) :
    (s.pushAnswer req status reason first blocks skipped map).pending = s.pending := by
  simp [State.pushAnswer]

@[simp] theorem State.doReadoutRequest_pending (s : State) (req len t map : Nat) :
    (s.doReadoutRequest req len t map).pending = s.pending := by
  simp [State.doReadoutRequest, apply_ite State.pending]

@[simp] theorem State.readReadout_pending (s : State) (req : Nat) : (s.readReadout req).pending = s.pending := by
  simp [State.readReadout]

@[simp] theorem State.doReadoutComplete_pending (s : State) (req size : Nat) (bad : Upsets) :
    (s.doReadoutComplete req size bad).pending = s.pending := by
  unfold State.doReadoutComplete
  dsimp only
  repeat' split
  all_goals simp

@[simp] theorem State.diagRead_pending (s : State) (n : Nat) : (s.diagRead n).pending = s.pending := by
  simp [State.diagRead, apply_ite State.pending]

end Sys2Proof.Machine
end

section
/-! SUPPORT. No operation of the module takes a command from its queue, in any state:
incidents, time, the data plane, lanes and frames. -/

namespace Sys2Proof.Machine

/-! ### Incidents as commands, and telemetry -/

@[simp] theorem State.doFaultReport_pending (s : State) (code place detail : Nat) :
    (s.doFaultReport code place detail).pending = s.pending := by
  unfold State.doFaultReport
  dsimp only
  repeat' split
  all_goals simp

@[simp] theorem State.closeInc_pending (s : State) (e : Nat) : (s.closeInc e).pending = s.pending := by
  simp [State.closeInc, apply_ite State.pending]

@[simp] theorem State.doHoldExpiry_pending (s : State) (e : Nat) : (s.doHoldExpiry e).pending = s.pending := by
  simp [State.doHoldExpiry, apply_ite State.pending]

@[simp] theorem State.doCloseTimer_pending (s : State) (e : Nat) (cleared : Bool) :
    (s.doCloseTimer e cleared).pending = s.pending := by
  simp [State.doCloseTimer, apply_ite State.pending]

@[simp] theorem State.sendIncident_pending (s : State) (e : Nat) : (s.sendIncident e).pending = s.pending := by
  unfold State.sendIncident
  split <;> simp

@[simp] theorem State.doReportSend_pending (s : State) (e : Nat) : (s.doReportSend e).pending = s.pending := by
  unfold State.doReportSend
  dsimp only
  repeat' split
  all_goals simp

@[simp] theorem State.doStationReport_pending (s : State) (e : Nat) : (s.doStationReport e).pending = s.pending := by
  simp [State.doStationReport, apply_ite State.pending]

@[simp] theorem State.doClose_pending (s : State) (e : Nat) : (s.doClose e).pending = s.pending := by
  simp [State.doClose, apply_ite State.pending]

@[simp] theorem State.reportAgain_pending (s : State) : s.reportAgain.pending = s.pending := by simp [State.reportAgain]

@[simp] theorem State.doPurgePrevious_pending (s : State) : s.doPurgePrevious.pending = s.pending := rfl

@[simp] theorem State.doTelemetry_pending (s : State) : s.doTelemetry.pending = s.pending := by
  simp [State.doTelemetry, apply_ite State.pending]

/-! ### Laral time -/

@[simp] theorem State.setTimState_pending (s : State) (n : Nat) : (s.setTimState n).pending = s.pending := rfl

@[simp] theorem State.setPathGood_pending (s : State) (p : Nat) (b : Bool) : (s.setPathGood p b).pending = s.pending := by
  simp [State.setPathGood, apply_ite State.pending]

@[simp] theorem State.toTime_pending (s : State) (t : Int) : (s.toTime t).pending = s.pending := by simp [State.toTime]

@[simp] theorem State.show32_pending (s : State) (v : Int) : (s.show32 v).2.pending = s.pending := by
  unfold State.show32
  split <;> simp

@[simp] theorem State.pushRelation_pending (s : State) (r : Relation) : (s.pushRelation r).pending = s.pending := by
  simp [State.pushRelation]

@[simp] theorem State.decideRebase_pending (s : State) (rate : Int) (step : Int) (stepped : Bool) :
    (s.decideRebase rate step stepped).pending = s.pending := by
  simp [State.decideRebase]

@[simp] theorem State.doRebase_pending (s : State) : s.doRebase.pending = s.pending := by
  unfold State.doRebase
  split <;> simp

@[simp] theorem State.relationNow_pending (s : State) (n : Nat) (offset : Int) (tnom : Nat) :
    (s.relationNow n offset tnom).pending = s.pending := by
  simp [State.relationNow]

@[simp] theorem State.doRelationRepeat_pending (s : State) : s.doRelationRepeat.pending = s.pending := by
  simp [State.doRelationRepeat]

@[simp] theorem State.selectPath_pending (s : State) : s.selectPath.pending = s.pending := rfl

@[simp] theorem State.checkHoldover_pending (s : State) : s.checkHoldover.pending = s.pending := by
  simp [State.checkHoldover, apply_ite State.pending]

@[simp] theorem State.endCal_pending (s : State) : s.endCal.pending = s.pending := by simp [State.endCal, apply_ite State.pending]

@[simp] theorem State.servo_pending (s : State) (theta : Int) : (s.servo theta).pending = s.pending := by simp [State.servo]

@[simp] theorem State.stepBy_pending (s : State) (rate step : Int) : (s.stepBy rate step).pending = s.pending := by
  simp [State.stepBy]

@[simp] theorem State.acquireRound_pending (s : State) (at_ theta : Int) : (s.acquireRound at_ theta).pending = s.pending := by
  simp [State.acquireRound, apply_ite State.pending]

@[simp] theorem State.refuseJump_pending (s : State) (theta : Int) : (s.refuseJump theta).pending = s.pending := by
  simp [State.refuseJump]

@[simp] theorem State.relock_pending (s : State) : s.relock.pending = s.pending := rfl

@[simp] theorem State.governRound_pending (s : State) (at_ theta : Int) : (s.governRound at_ theta).pending = s.pending := by
  simp [State.governRound, apply_ite State.pending]

@[simp] theorem State.roundAccepted_pending (s : State) (p : Nat) (theta delay : Int) :
    (s.roundAccepted p theta delay).pending = s.pending := by
  simp [State.roundAccepted]

@[simp] theorem State.roundRejected_pending (s : State) (p : Nat) : (s.roundRejected p).pending = s.pending := rfl

@[simp] theorem State.dropRound_pending (s : State) (p : Nat) : (s.dropRound p).pending = s.pending := by
  simp [State.dropRound, apply_ite State.pending]

@[simp] theorem State.rejectFrame_pending (s : State) (lane : Nat) : (s.rejectFrame lane).pending = s.pending := rfl

@[simp] theorem State.doOrigin_pending (s : State) (lane round master k phi : Nat) :
    (s.doOrigin lane round master k phi).pending = s.pending := by
  simp [State.doOrigin, apply_ite State.pending]

@[simp] theorem State.doProbeSend_pending (s : State) (p k phi : Nat) : (s.doProbeSend p k phi).pending = s.pending := by
  unfold State.doProbeSend
  split <;> simp [apply_ite State.pending]

@[simp] theorem State.sendReport_pending (s : State) (p round : Nat) (theta delay t2 : Int) :
    (s.sendReport p round theta delay t2).pending = s.pending := by
  simp [State.sendReport]

@[simp] theorem State.computeRound_pending (s : State) (p : Nat) : (s.computeRound p).pending = s.pending := by
  unfold State.computeRound
  dsimp only
  repeat' split
  all_goals simp

@[simp] theorem State.doFollow_pending (s : State) (lane round ns frac : Nat) :
    (s.doFollow lane round ns frac).pending = s.pending := by
  unfold State.doFollow
  dsimp only
  repeat' split
  all_goals simp

@[simp] theorem State.doAnswer_pending (s : State) (lane round ns frac : Nat) :
    (s.doAnswer lane round ns frac).pending = s.pending := by
  unfold State.doAnswer
  dsimp only
  repeat' split
  all_goals simp

@[simp] theorem State.doPathLoss_pending (s : State) (p : Nat) : (s.doPathLoss p).pending = s.pending := by
  simp [State.doPathLoss, apply_ite State.pending]

@[simp] theorem State.doHeartbeat_pending (s : State) (cls : Nat) : (s.doHeartbeat cls).pending = s.pending := by
  simp [State.doHeartbeat, apply_ite State.pending]

@[simp] theorem State.calEdge_pending (s : State) (stamp : Int) : (s.calEdge stamp).pending = s.pending := by
  unfold State.calEdge
  split <;> simp [apply_ite State.pending]

@[simp] theorem State.losePps_pending (s : State) : s.losePps.pending = s.pending := by
  simp [State.losePps, apply_ite State.pending]

@[simp] theorem State.doPpsEdge_pending (s : State) (k phi : Nat) (rising : Bool) :
    (s.doPpsEdge k phi rising).pending = s.pending := by
  simp [State.doPpsEdge, apply_ite State.pending]

@[simp] theorem State.doPpsLoss_pending (s : State) : s.doPpsLoss.pending = s.pending := by
  unfold State.doPpsLoss
  split <;> simp

@[simp] theorem State.doAcceptJump_pending (s : State) : s.doAcceptJump.pending = s.pending := by
  simp [State.doAcceptJump, apply_ite State.pending]

@[simp] theorem State.doAsymCal_pending (s : State) : s.doAsymCal.pending = s.pending := rfl

@[simp] theorem State.doAsymCalDone_pending (s : State) : s.doAsymCalDone.pending = s.pending := by
  unfold State.doAsymCalDone
  split <;> simp [apply_ite State.pending]

@[simp] theorem State.doAsymApply_pending (s : State) : s.doAsymApply.pending = s.pending := by
  simp [State.doAsymApply, apply_ite State.pending]

@[simp] theorem State.doVoteCorrection_pending (s : State) (c : Nat) : (s.doVoteCorrection c).pending = s.pending := by
  simp [State.doVoteCorrection, apply_ite State.pending]

/-! ### The prompt book -/

@[simp] theorem State.startCommit_pending (s : State) : s.startCommit.pending = s.pending := by
  unfold State.startCommit
  split <;> simp

@[simp] theorem State.requestCommit_pending (s : State) (kind : Nat) : (s.requestCommit kind).pending = s.pending := by
  simp [State.requestCommit]

@[simp] theorem State.doPbCommit_pending (s : State) : s.doPbCommit.pending = s.pending := by simp [State.doPbCommit]

@[simp] theorem State.doPbPeriodic_pending (s : State) : s.doPbPeriodic.pending = s.pending := by
  simp [State.doPbPeriodic, apply_ite State.pending]

@[simp] theorem State.doCommitDone_pending (s : State) (ok : Bool) : (s.doCommitDone ok).pending = s.pending := by
  unfold State.doCommitDone
  split <;> simp [apply_ite State.pending]

/-! ### Slow sensors -/

@[simp] theorem State.noteDue_pending (s : State) (parity : Nat) : (s.noteDue parity).pending = s.pending := by
  simp [State.noteDue, apply_ite State.pending]

@[simp] theorem State.doSensorPulse_pending (s : State) (parity : Nat) : (s.doSensorPulse parity).pending = s.pending := by
  unfold State.doSensorPulse
  dsimp only
  repeat' split
  all_goals simp

@[simp] theorem State.doSensorConversion_pending (s : State) (parity : Nat) (own odd : SensorSample) :
    (s.doSensorConversion parity own odd).pending = s.pending := by
  unfold State.doSensorConversion
  dsimp only
  repeat' split
  all_goals simp

@[simp] theorem State.setSwitch_pending (s : State) (j : Nat) (on : Bool) : (s.setSwitch j on).pending = s.pending := by
  simp [State.setSwitch, apply_ite State.pending]

@[simp] theorem State.setSwitchCount_pending (s : State) (j n : Nat) : (s.setSwitchCount j n).pending = s.pending := rfl

@[simp] theorem State.evalSwitch_pending (s : State) (j : Nat) : (s.evalSwitch j).pending = s.pending := by
  simp [State.evalSwitch, apply_ite State.pending]

@[simp] theorem State.doSwitchEvaluate_pending (s : State) (i : Nat) : (s.doSwitchEvaluate i).pending = s.pending := by
  unfold State.doSwitchEvaluate
  split <;> simp [apply_ite State.pending]

@[simp] theorem State.loadIexc_pending (s : State) (i : Nat) : (s.loadIexc i).pending = s.pending := rfl

@[simp] theorem State.switchesOff_pending (s : State) (i : Nat) : (s.switchesOff i).pending = s.pending := by
  simp [State.switchesOff]

@[simp] theorem State.writeSensorCfg_pending (s : State) (i : Nat) (w : Word) : (s.writeSensorCfg i w).pending = s.pending := by
  simp [State.writeSensorCfg, apply_ite State.pending]

@[simp] theorem State.writeSensorCtl_pending (s : State) (w : Word) : (s.writeSensorCtl w).pending = s.pending := by
  simp [State.writeSensorCtl, apply_ite State.pending]

@[simp] theorem State.writeSwitchCfg_pending (s : State) (j : Nat) (w : Word) : (s.writeSwitchCfg j w).pending = s.pending := by
  simp [State.writeSwitchCfg, apply_ite State.pending]

@[simp] theorem State.writeSwitchThr_pending (s : State) (j : Nat) (isOn : Bool) (w : Word) :
    (s.writeSwitchThr j isOn w).pending = s.pending := by
  simp [State.writeSwitchThr, apply_ite State.pending]

@[simp] theorem State.startSensors_pending (s : State) (calValid : Bool) : (s.startSensors calValid).pending = s.pending := by
  simp -implicitDefEqProofs [State.startSensors]

@[simp] theorem State.stopSensors_pending (s : State) : s.stopSensors.pending = s.pending := rfl

/-! ### The safety monitor -/

@[simp] theorem State.setSaf_pending (s : State) (st : Nat) : (s.setSaf st).pending = s.pending := rfl

@[simp] theorem State.safReport_pending (s : State) (code : Nat) : (s.safReport code).pending = s.pending := by
  simp [State.safReport]

@[simp] theorem State.lockOut_pending (s : State) (code : Nat) : (s.lockOut code).pending = s.pending := by
  simp [State.lockOut, apply_ite State.pending]

@[simp] theorem State.safLock_pending (s : State) (code : Nat) : (s.safLock code).pending = s.pending := by simp [State.safLock]

@[simp] theorem State.enterSto_pending (s : State) : s.enterSto.pending = s.pending := by
  simp [State.enterSto, apply_ite State.pending]

@[simp] theorem State.enterSs1_pending (s : State) : s.enterSs1.pending = s.pending := by
  simp [State.enterSs1, apply_ite State.pending]

@[simp] theorem State.followSls_pending (s : State) : s.followSls.pending = s.pending := by
  unfold State.followSls
  dsimp only
  repeat' split
  all_goals simp

@[simp] theorem State.enterDegraded_pending (s : State) (elem : Nat) : (s.enterDegraded elem).pending = s.pending := by
  simp -implicitDefEqProofs [State.enterDegraded]

@[simp] theorem State.loseElement_pending (s : State) (elem code : Nat) : (s.loseElement elem code).pending = s.pending := by
  unfold State.loseElement
  dsimp only
  repeat' split
  all_goals simp

@[simp] theorem State.elementGood_pending (s : State) (elem : Nat) : (s.elementGood elem).pending = s.pending := rfl

@[simp] theorem State.voterDiffers_pending (s : State) (k : Nat) : (s.voterDiffers k).pending = s.pending := by
  simp [State.voterDiffers, apply_ite State.pending]

@[simp] theorem State.lockInput_pending (s : State) (i code : Nat) : (s.lockInput i code).pending = s.pending := by
  simp [State.lockInput]

@[simp] theorem State.tryUnlock_pending (s : State) (i : Nat) : (s.tryUnlock i).pending = s.pending := by
  simp [State.tryUnlock, apply_ite State.pending]

@[simp] theorem State.checkDiscrepancy_pending (s : State) (i : Nat) (a b : Bool) :
    (s.checkDiscrepancy i a b).pending = s.pending := by
  unfold State.checkDiscrepancy
  dsimp only
  repeat' split
  all_goals simp

@[simp] theorem State.filterInput_pending (s : State) (i : Nat) (xs : List (BitVec 16)) :
    (s.filterInput i xs).pending = s.pending := rfl

@[simp] theorem State.takeInput_pending (s : State) (i : Nat) (xs : List (BitVec 16)) :
    (s.takeInput i xs).pending = s.pending := by
  simp [State.takeInput, apply_ite State.pending]

@[simp] theorem State.doTestPulse_pending (s : State) (source a b : Nat) : (s.doTestPulse source a b).pending = s.pending := by
  simp [State.doTestPulse, apply_ite State.pending]

@[simp] theorem State.freeDiv_pending (s : State) (n : Int) (d : Nat) : (s.freeDiv n d).2.pending = s.pending := by
  unfold State.freeDiv
  split <;> simp

@[simp] theorem State.pInc_pending (s : State) (count : Int) : (s.pInc count).2.pending = s.pending := by simp [State.pInc]

@[simp] theorem State.takeSource_pending (s : State) (k : Nat) (bad : Bool) : (s.takeSource k bad).pending = s.pending := by
  simp [State.takeSource, apply_ite State.pending]

@[simp] theorem State.sourceLost_pending (s : State) (k : Nat) (wait : Bool) : (s.sourceLost k wait).pending = s.pending := by
  simp [State.sourceLost, apply_ite State.pending]

theorem State.motionShown_pending (s : State) (p : Int) : (s.motionShown p).pending = s.pending := by
  simp [State.motionShown]

theorem State.lostIf_pending (s : State) (b : Bool) (k : Nat) (wait : Bool) : (s.lostIf b k wait).pending = s.pending := by
  simp [State.lostIf, apply_ite State.pending]

theorem State.apartLocked_pending (s : State) : s.apartLocked.pending = s.pending := by
  simp [State.apartLocked, apply_ite State.pending]

theorem State.sourcesRead_pending (s : State) (x : SafetySeen) : (s.sourcesRead x).pending = s.pending := by
  rw [State.sourcesRead, State.motionShown_pending, State.sourcesCompared, State.onSaf_pending, State.incPosition,
    State.pInc_pending, State.sourcesAligned, State.onSaf_pending, State.ssiPosition, State.freeDiv_pending, State.sourcesJudged,
    State.takeSource_pending, State.takeSource_pending]

@[simp] theorem State.takeSources_pending (s : State) (seen : SafetySeen) : (s.takeSources seen).pending = s.pending := by
  rw [State.takeSources_eq, State.sourcesActed, State.apartLocked_pending, State.lostIf_pending, State.lostIf_pending,
    State.sourcesRead_pending]

@[simp] theorem State.checkSls_pending (s : State) : s.checkSls.pending = s.pending := by
  simp [State.checkSls, apply_ite State.pending]

@[simp] theorem State.checkSlp_pending (s : State) : s.checkSlp.pending = s.pending := by
  simp [State.checkSlp, apply_ite State.pending]

@[simp] theorem State.checkSdi_pending (s : State) : s.checkSdi.pending = s.pending := by
  simp [State.checkSdi, apply_ite State.pending]

@[simp] theorem State.checkSs1_pending (s : State) : s.checkSs1.pending = s.pending := by
  unfold State.checkSs1
  split <;> simp [apply_ite State.pending]

@[simp] theorem State.doDegradedExpiry_pending (s : State) : s.doDegradedExpiry.pending = s.pending := by
  simp [State.doDegradedExpiry, apply_ite State.pending]

@[simp] theorem State.checkFunctions_pending (s : State) : s.checkFunctions.pending = s.pending := by
  simp [State.checkFunctions, apply_ite State.pending]

@[simp] theorem State.enterRun_pending (s : State) : s.enterRun.pending = s.pending := by simp [State.enterRun]

@[simp] theorem State.takeRequest_pending (s : State) : s.takeRequest.pending = s.pending := by
  simp [State.takeRequest, apply_ite State.pending]

@[simp] theorem State.curtainFault_pending (s : State) (n : Nat) : (s.curtainFault n).pending = s.pending := by
  simp [State.curtainFault]

@[simp] theorem State.takeReadback_pending (s : State) (balls : List (Nat × Nat)) :
    (s.takeReadback balls).pending = s.pending := by
  simp [State.takeReadback]

@[simp] theorem State.takeVaux_pending (s : State) (vaux : Nat) : (s.takeVaux vaux).pending = s.pending := by
  simp [State.takeVaux, apply_ite State.pending]

@[simp] theorem State.freeReset_pending (s : State) : s.freeReset.pending = s.pending := by
  unfold State.freeReset
  split <;> simp [apply_ite State.pending]

@[simp] theorem State.doSafetyCycle_pending (s : State) (x : SafetySeen) : (s.doSafetyCycle x).pending = s.pending := by
  simp -implicitDefEqProofs [State.doSafetyCycle, apply_ite State.pending]

@[simp] theorem State.doCurtainTest_pending (s : State) (balls : List (Nat × Nat)) :
    (s.doCurtainTest balls).pending = s.pending := by
  simp [State.doCurtainTest, apply_ite State.pending]

@[simp] theorem State.doCurtainOverload_pending (s : State) (n : Nat) : (s.doCurtainOverload n).pending = s.pending := by
  simp [State.doCurtainOverload, apply_ite State.pending]

@[simp] theorem State.doSafeResetStuck_pending (s : State) : s.doSafeResetStuck.pending = s.pending := by
  simp [State.doSafeResetStuck, apply_ite State.pending]

@[simp] theorem State.pressCounts_pending (s : State) (ms : Nat) : (s.pressCounts ms).2.pending = s.pending := by
  unfold State.pressCounts
  split <;> simp

@[simp] theorem State.doSafeResetRelease_pending (s : State) (ms : Nat) : (s.doSafeResetRelease ms).pending = s.pending := by
  simp [State.doSafeResetRelease, apply_ite State.pending]

@[simp] theorem State.safPowerOff_pending (s : State) : s.safPowerOff.pending = s.pending := by simp [State.safPowerOff]

/-! ### The data plane -/

@[simp] theorem State.settleFrom_pending (s : State) (ch n : Nat) : (s.settleFrom ch n).pending = s.pending := rfl

@[simp] theorem State.joinRehearsal_pending (s : State) (ch n : Nat) : (s.joinRehearsal ch n).pending = s.pending := by
  simp [State.joinRehearsal, apply_ite State.pending]

@[simp] theorem State.beginChan_pending (s : State) (settle : Bool) (ch n : Nat) :
    (s.beginChan settle ch n).pending = s.pending := by
  simp -implicitDefEqProofs [State.beginChan, apply_ite State.pending]

@[simp] theorem State.endChan_pending (s : State) (ch n : Nat) : (s.endChan ch n).pending = s.pending := by simp [State.endChan]

@[simp] theorem State.beginAll_pending (s : State) (settle : Bool) (n : Nat) : (s.beginAll settle n).pending = s.pending := by
  simp [State.beginAll]

@[simp] theorem State.endAll_pending (s : State) (n : Nat) : (s.endAll n).pending = s.pending := by simp [State.endAll]

@[simp] theorem State.discardAllTags_pending (s : State) : s.discardAllTags.pending = s.pending := rfl

@[simp] theorem State.doUnitEnableWrite_pending (s : State) (half : Nat) (w : Word) :
    (s.doUnitEnableWrite half w).pending = s.pending := by
  simp -implicitDefEqProofs [State.doUnitEnableWrite]

@[simp] theorem State.takeUnits_pending (s : State) (map n : Nat) : (s.takeUnits map n).pending = s.pending := by
  unfold State.takeUnits
  dsimp only
  repeat' split
  all_goals simp

@[simp] theorem State.doUnitEnableEffect_pending (s : State) : s.doUnitEnableEffect.pending = s.pending := by
  unfold State.doUnitEnableEffect
  split <;> simp [apply_ite State.pending]

@[simp] theorem State.doUnitFailure_pending (s : State) (ch : Nat) : (s.doUnitFailure ch).pending = s.pending := by
  simp [State.doUnitFailure, apply_ite State.pending]

@[simp] theorem State.doOverflow_pending (s : State) (ch n : Nat) : (s.doOverflow ch n).pending = s.pending := by
  simp [State.doOverflow, apply_ite State.pending]

@[simp] theorem State.clipBlock_pending (s : State) (ch n hits : Nat) : (s.clipBlock ch n hits).pending = s.pending := by
  simp [State.clipBlock, apply_ite State.pending]

@[simp] theorem State.doRawBlock_pending (s : State) (ch n : Nat) (conv : List Int) :
    (s.doRawBlock ch n conv).pending = s.pending := by
  simp [State.doRawBlock, apply_ite State.pending]

@[simp] theorem State.stopRegion_pending (s : State) (r result n : Nat) : (s.stopRegion r result n).pending = s.pending := by
  simp [State.stopRegion]

@[simp] theorem State.failRegion_pending (s : State) (r result : Nat) : (s.failRegion r result).pending = s.pending := by
  simp [State.failRegion]

@[simp] theorem State.doRegionFault_pending (s : State) (r kind : Nat) : (s.doRegionFault r kind).pending = s.pending := by
  simp [State.doRegionFault, apply_ite State.pending]

@[simp] theorem State.stopPlane_pending (s : State) : s.stopPlane.pending = s.pending := by
  simp [State.stopPlane, apply_ite State.pending]

@[simp] theorem State.doDieFault_pending (s : State) (d : Nat) : (s.doDieFault d).pending = s.pending := by
  simp [State.doDieFault, apply_ite State.pending]

@[simp] theorem State.regionHealed_pending (s : State) (r : Nat) : (s.regionHealed r).pending = s.pending := by
  simp -implicitDefEqProofs [State.regionHealed, apply_ite State.pending]

@[simp] theorem State.doPllLock_pending (s : State) (r : Nat) (reading : Int) : (s.doPllLock r reading).pending = s.pending := by
  simp [State.doPllLock, apply_ite State.pending]

@[simp] theorem State.doRegionRestore_pending (s : State) (r : Nat) : (s.doRegionRestore r).pending = s.pending := by
  unfold State.doRegionRestore
  split <;> simp [apply_ite State.pending]

@[simp] theorem State.showMargin_pending (s : State) (m : Int) : (s.showMargin m).2.pending = s.pending := by
  unfold State.showMargin
  split <;> simp

@[simp] theorem State.takeMargin_pending (s : State) (n : Nat) (m : Int) : (s.takeMargin n m).pending = s.pending := by
  simp [State.takeMargin]

@[simp] theorem State.doPaceTick_pending (s : State) (margins : List Int) : (s.doPaceTick margins).pending = s.pending := by
  simp [State.doPaceTick, apply_ite State.pending]

@[simp] theorem State.doStepDown_pending (s : State) : s.doStepDown.pending = s.pending := by
  simp [State.doStepDown, apply_ite State.pending]

@[simp] theorem State.doPaceFault_pending (s : State) : s.doPaceFault.pending = s.pending := by
  simp [State.doPaceFault, apply_ite State.pending]

@[simp] theorem State.doPaceClear_pending (s : State) : s.doPaceClear.pending = s.pending := by
  simp -implicitDefEqProofs [State.doPaceClear, apply_ite State.pending]

@[simp] theorem State.doPaceClrMin_pending (s : State) : s.doPaceClrMin.pending = s.pending := by
  simp -implicitDefEqProofs [State.doPaceClrMin]

@[simp] theorem State.decideSwitch_pending (s : State) (target : Nat) (restore : Bool) :
    (s.decideSwitch target restore).pending = s.pending := by
  simp [State.decideSwitch, apply_ite State.pending]

@[simp] theorem State.doPaceSwitch_pending (s : State) : s.doPaceSwitch.pending = s.pending := by
  simp [State.doPaceSwitch, apply_ite State.pending]

@[simp] theorem State.doAutoFallback_pending (s : State) : s.doAutoFallback.pending = s.pending := by
  simp [State.doAutoFallback, apply_ite State.pending]

@[simp] theorem State.doPaceRestore_pending (s : State) : s.doPaceRestore.pending = s.pending := by
  simp [State.doPaceRestore, apply_ite State.pending]

@[simp] theorem State.dropAcquisition_pending (s : State) : s.dropAcquisition.pending = s.pending := by
  simp [State.dropAcquisition, apply_ite State.pending]

@[simp] theorem State.doSwitchStop_pending (s : State) : s.doSwitchStop.pending = s.pending := by
  unfold State.doSwitchStop
  split <;> simp [apply_ite State.pending]

@[simp] theorem State.doRelock_pending (s : State) (periods : Nat) (readings : List Int) :
    (s.doRelock periods readings).pending = s.pending := by
  unfold State.doRelock
  split <;> simp [apply_ite State.pending]

@[simp] theorem State.bypassNotches_pending (s : State) (ch : Nat) : (s.bypassNotches ch).pending = s.pending := by
  simp [State.bypassNotches]

@[simp] theorem State.ringAfterSwitch_pending (s : State) (n : Nat) : (s.ringAfterSwitch n).pending = s.pending := by
  simp [State.ringAfterSwitch, apply_ite State.pending]

@[simp] theorem State.doSwitchResume_pending (s : State) : s.doSwitchResume.pending = s.pending := by
  unfold State.doSwitchResume
  split <;> simp -implicitDefEqProofs [apply_ite State.pending]

/-! ### Codec jobs -/

@[simp] theorem State.verifyCoded_pending (s : State) (j : CJob) (bad : Upsets) (blocks : Nat) :
    (s.verifyCoded j bad blocks).pending = s.pending := by
  simp [State.verifyCoded]

@[simp] theorem State.showCodec_pending (s : State) : s.showCodec.pending = s.pending := rfl

@[simp] theorem State.endJob_pending (s : State) (j : CJob) (r : CRun) (status : Nat) (token : LWord) :
    (s.endJob j r status token).pending = s.pending := by
  simp [State.endJob, apply_ite State.pending]

@[simp] theorem State.doCodecStart_pending (s : State) : s.doCodecStart.pending = s.pending := by
  unfold State.doCodecStart
  dsimp only
  repeat' split
  all_goals simp

@[simp] theorem State.readJob_pending (s : State) : s.readJob.pending = s.pending := by simp [State.readJob]

@[simp] theorem State.doCodecComplete_pending (s : State) (bad : Upsets) : (s.doCodecComplete bad).pending = s.pending := by
  unfold State.doCodecComplete
  dsimp only
  repeat' split
  all_goals simp

@[simp] theorem State.stopJob_pending (s : State) (j : CJob) (status : Nat) : (s.stopJob j status).pending = s.pending := by
  simp [State.stopJob, apply_ite State.pending]

@[simp] theorem State.stopJobs_pending (s : State) (status : Nat) : (s.stopJobs status).pending = s.pending := by
  simp [State.stopJobs]

@[simp] theorem State.doCodecCancel_pending (s : State) : s.doCodecCancel.pending = s.pending := by simp [State.doCodecCancel]

/-! ### Lanes -/

@[simp] theorem State.setLaneState_pending (s : State) (n st : Nat) : (s.setLaneState n st).pending = s.pending := rfl

@[simp] theorem State.toUi_pending (s : State) (p u : Nat) : (s.toUi p u).pending = s.pending := rfl

@[simp] theorem State.runPath_pending (s : State) (p : Nat) : (s.runPath p).pending = s.pending := by
  simp -implicitDefEqProofs [State.runPath, State.laneRun_pending]

@[simp] theorem State.runLanes_pending (s : State) : s.runLanes.pending = s.pending := by
  simp -implicitDefEqProofs [State.runLanes, State.laneRun_pending]

@[simp] theorem State.awaitRoom_pending (s : State) (p : Nat) (zero : Bool) : (s.awaitRoom p zero).pending = s.pending := by
  unfold State.awaitRoom
  dsimp only
  repeat' split
  all_goals simp

@[simp] theorem State.wakeLane_pending (s : State) (n : Nat) : (s.wakeLane n).pending = s.pending := by
  simp [State.wakeLane, apply_ite State.pending]

@[simp] theorem State.putOnLane_pending (s : State) (n : Nat) (f : TxFrame) : (s.putOnLane n f).pending = s.pending := by
  simp [State.putOnLane]

@[simp] theorem State.putOnSlot_pending (s : State) (n : Nat) (f : TxFrame) : (s.putOnSlot n f).pending = s.pending := rfl

@[simp] theorem State.txDiscard_pending (s : State) (c : Nat) : (s.txDiscard c).pending = s.pending := rfl

@[simp] theorem State.assignFrame_pending (s : State) (p : Nat) (f : TxFrame) : (s.assignFrame p f).pending = s.pending := by
  unfold State.assignFrame
  split <;> simp [apply_ite State.pending]

@[simp] theorem State.showCredits_pending (s : State) (p : Nat) : (s.showCredits p).pending = s.pending := rfl

@[simp] theorem State.resetCredits_pending (s : State) (p : Nat) : (s.resetCredits p).pending = s.pending := rfl

@[simp] theorem State.train_pending (s : State) (n : Nat) : (s.train n).pending = s.pending := rfl

@[simp] theorem State.freeScr_pending (s : State) : (s.freeScr).2.pending = s.pending := rfl

@[simp] theorem State.startAttempt_pending (s : State) (n : Nat) : (s.startAttempt n).pending = s.pending := by
  simp [State.startAttempt, apply_ite State.pending]

@[simp] theorem State.doBringupAttempt_pending (s : State) (n : Nat) : (s.doBringupAttempt n).pending = s.pending := by
  simp [State.doBringupAttempt, apply_ite State.pending]

@[simp] theorem State.crcFailed_pending (s : State) (n : Nat) : (s.crcFailed n).pending = s.pending := by simp [State.crcFailed]

@[simp] theorem State.takeBringup_pending (s : State) (n : Nat) (crcOk : Bool) (w : LWord) :
    (s.takeBringup n crcOk w).pending = s.pending := by
  simp [State.takeBringup, apply_ite State.pending]

@[simp] theorem State.rxAdvance_pending (s : State) (n words : Nat) : (s.rxAdvance n words).pending = s.pending := rfl

@[simp] theorem State.doBringupFrame_pending (s : State) (n : Nat) (crcOk : Bool) (w : LWord) :
    (s.doBringupFrame n crcOk w).pending = s.pending := by
  simp [State.doBringupFrame, apply_ite State.pending]

@[simp] theorem State.doLaneUp_pending (s : State) (n : Nat) : (s.doLaneUp n).pending = s.pending := by
  simp [State.doLaneUp, apply_ite State.pending]

@[simp] theorem State.doBringupTimeout_pending (s : State) (n : Nat) : (s.doBringupTimeout n).pending = s.pending := by
  unfold State.doBringupTimeout
  dsimp only
  repeat' split
  all_goals simp

@[simp] theorem State.doWaitExpiry_pending (s : State) (n : Nat) : (s.doWaitExpiry n).pending = s.pending := by
  simp [State.doWaitExpiry, apply_ite State.pending]

@[simp] theorem State.moveRead_pending (s : State) (p : Nat) (f : TxFrame) : (s.moveRead p f).pending = s.pending := by
  simp [State.moveRead, apply_ite State.pending]

@[simp] theorem State.rehome_pending (s : State) (p : Nat) (f : TxFrame) : (s.rehome p f).pending = s.pending := by
  simp [State.rehome, apply_ite State.pending]

@[simp] theorem State.dropHeld_pending (s : State) (p : Nat) : (s.dropHeld p).pending = s.pending := rfl

@[simp] theorem State.leaveUp_pending (s : State) (n st : Nat) (seen : Bool) : (s.leaveUp n st seen).pending = s.pending := by
  simp -implicitDefEqProofs [State.leaveUp, State.laneRun_pending, apply_ite State.pending]

@[simp] theorem State.laneDown_pending (s : State) (n : Nat) : (s.laneDown n).pending = s.pending := by
  simp [State.laneDown, apply_ite State.pending]

@[simp] theorem State.laneOff_pending (s : State) (n : Nat) : (s.laneOff n).pending = s.pending := by
  simp [State.laneOff, apply_ite State.pending]

@[simp] theorem State.laneStart_pending (s : State) (n : Nat) : (s.laneStart n).pending = s.pending := by
  simp [State.laneStart, apply_ite State.pending]

@[simp] theorem State.doLossOfSignal_pending (s : State) (n : Nat) : (s.doLossOfSignal n).pending = s.pending := by
  simp [State.doLossOfSignal, apply_ite State.pending]

@[simp] theorem State.doPartnerTraining_pending (s : State) (n : Nat) : (s.doPartnerTraining n).pending = s.pending := by
  simp [State.doPartnerTraining, apply_ite State.pending]

@[simp] theorem State.doRetrain_pending (s : State) (n : Nat) : (s.doRetrain n).pending = s.pending := by simp [State.doRetrain]

@[simp] theorem State.doLanePllUnlock_pending (s : State) (n : Nat) : (s.doLanePllUnlock n).pending = s.pending := by
  simp [State.doLanePllUnlock, apply_ite State.pending]

@[simp] theorem State.doSeedReceived_pending (s : State) (n seed : Nat) : (s.doSeedReceived n seed).pending = s.pending := by
  simp [State.doSeedReceived, apply_ite State.pending]

@[simp] theorem State.enterRealign_pending (s : State) (n : Nat) (stuffing : Bool) :
    (s.enterRealign n stuffing).pending = s.pending := by
  simp [State.enterRealign, apply_ite State.pending]

@[simp] theorem State.doRealign_pending (s : State) (n : Nat) (stuffing : Bool) (bits : Nat) :
    (s.doRealign n stuffing bits).pending = s.pending := by
  simp [State.doRealign, apply_ite State.pending]

@[simp] theorem State.doRealignTimeout_pending (s : State) (n : Nat) : (s.doRealignTimeout n).pending = s.pending := by
  simp [State.doRealignTimeout, apply_ite State.pending]

@[simp] theorem State.doSeedFound_pending (s : State) (n seed : Nat) (followed : Bool) :
    (s.doSeedFound n seed followed).pending = s.pending := by
  simp [State.doSeedFound, apply_ite State.pending]

@[simp] theorem State.doIdleEntry_pending (s : State) (n : Nat) : (s.doIdleEntry n).pending = s.pending := by
  simp -implicitDefEqProofs [State.doIdleEntry, State.laneRun_pending, apply_ite State.pending]

@[simp] theorem State.doHushReceived_pending (s : State) (n : Nat) : (s.doHushReceived n).pending = s.pending := by
  simp [State.doHushReceived, apply_ite State.pending]

@[simp] theorem State.doFastExit_pending (s : State) (n : Nat) : (s.doFastExit n).pending = s.pending := by
  simp [State.doFastExit, apply_ite State.pending]

@[simp] theorem State.doRefreshBurst_pending (s : State) (n : Nat) : (s.doRefreshBurst n).pending = s.pending := by
  simp [State.doRefreshBurst, apply_ite State.pending]

@[simp] theorem State.doClrErr_pending (s : State) : s.doClrErr.pending = s.pending := by
  simp -implicitDefEqProofs [State.doClrErr]

@[simp] theorem State.retractLoss_pending (s : State) (n : Nat) : (s.retractLoss n).pending = s.pending := by
  unfold State.retractLoss
  split <;> simp [apply_ite State.pending]

@[simp] theorem State.shedLanes_pending (s : State) (ns : List Nat) : (s.shedLanes ns).pending = s.pending := by
  simp [State.shedLanes]

@[simp] theorem State.unshedLanes_pending (s : State) (ns : List Nat) : (s.unshedLanes ns).pending = s.pending := by
  simp [State.unshedLanes]

/-! ### Frames -/

@[simp] theorem State.useCredit_pending (s : State) (p c : Nat) : (s.useCredit p c).pending = s.pending := by
  simp [State.useCredit, apply_ite State.pending]

@[simp] theorem State.holdCopy_pending (s : State) (p : Nat) (f : TxFrame) : (s.holdCopy p f).pending = s.pending := by
  simp [State.holdCopy, apply_ite State.pending]

@[simp] theorem State.takeSeq_pending (s : State) (c : Nat) : (s.takeSeq c).2.pending = s.pending := by simp [State.takeSeq]

@[simp] theorem State.sendCopy_pending (s : State) (p : Nat) (f : TxFrame) : (s.sendCopy p f).pending = s.pending := by
  simp [State.sendCopy, apply_ite State.pending]

@[simp] theorem State.sendFrame_pending (s : State) (p c ftype : Nat) (ws : List LWord) (locs : List Nat) (cut both : Bool) :
    (s.sendFrame p c ftype ws locs cut both).pending = s.pending := by
  simp [State.sendFrame, apply_ite State.pending]

@[simp] theorem State.endCurrent_pending (s : State) (c : Nat) : (s.endCurrent c).pending = s.pending := rfl

@[simp] theorem Assembly.goOn_pending (c q : Nat) (open_ : Bool) (a : Assembly) : (a.goOn c q open_).s.pending = a.s.pending := by
  have hword := a.s.takeWord_pending q
  unfold Assembly.goOn
  split
  · split <;> simp_all
  · split <;> simp_all

@[simp] theorem Assembly.begin_pending (p c : Nat) (a : Assembly) : (a.begin_ p c).s.pending = a.s.pending := by
  unfold Assembly.begin_
  dsimp only
  repeat' split
  all_goals simp

@[simp] theorem Assembly.move_pending (p c : Nat) (a : Assembly) : (a.move p c).s.pending = a.s.pending := by
  unfold Assembly.move
  split
  · rfl
  · split <;> simp

@[simp] theorem assemble_pending (s : State) (p c : Nat) : (assemble s p c).s.pending = s.pending := by simp [assemble]

@[simp] theorem State.setRun_pending (s : State) (p c : Nat) (both : Bool) : (s.setRun p c both).pending = s.pending := rfl

@[simp] theorem State.buildData_pending (s : State) (p c : Nat) : (s.buildData p c).pending = s.pending := by
  simp [State.buildData, apply_ite State.pending]

theorem State.tryData_pending (s : State) (p c : Nat) : KeepsPending s (s.tryData p c) := by
  unfold State.tryData
  refine .ite (by simp) ?_
  split
  · simp
  · exact .ite (by simp) (by simp)

@[simp] theorem State.noteCreditWait_pending (s : State) (p : Nat) (memory : Bool) :
    (s.noteCreditWait p memory).pending = s.pending := by
  simp [State.noteCreditWait, apply_ite State.pending]

@[simp] theorem State.clearHead_pending (s : State) (p : Nat) : (s.clearHead p).pending = s.pending := by
  unfold State.clearHead
  split <;> simp [apply_ite State.pending]

@[simp] theorem State.clearClass0_pending (s : State) (p : Nat) : (s.clearClass0 p).pending = s.pending := by
  simp -implicitDefEqProofs [State.clearClass0]

theorem State.tryClass0_pending (s : State) (p : Nat) : KeepsPending s (s.tryClass0 p) := by
  unfold State.tryClass0
  refine .ite (by simp) ?_
  split <;> simp

@[simp] theorem State.memGo_pending (s : State) (p : Nat) (x : MemTx) : (s.memGo p x).1.pending = s.pending := by
  unfold State.memGo
  split <;> simp

theorem State.tryMem_pending (s : State) (p pos : Nat) : KeepsPending s (s.tryMem p pos) := by
  intro t h
  unfold State.tryMem at h
  split at h
  · cases h
  · obtain ⟨x, -, rfl⟩ := Option.map_eq_some_iff.1 h
    simp

@[simp] theorem State.discardPath_pending (s : State) (p : Nat) : (s.discardPath p).pending = s.pending := by
  simp [State.discardPath, apply_ite State.pending]

@[simp] theorem State.chance_pending (s : State) (p : Nat) : (s.chance p).pending = s.pending := by
  have hon (o : Option State) (ho : KeepsPending (s.clearClass0 p) o) :
      KeepsPending (s.clearClass0 p) (if ((s.clearClass0 p).roomy p).isEmpty then none else o) := .ite (by simp) ho
  refine (firstOf_pending _ _ ?_).trans (s.clearClass0_pending p)
  simp only [List.forall_mem_cons, List.not_mem_nil, false_imp_iff, implies_true, and_true]
  exact ⟨State.tryClass0_pending _ _, hon _ (State.tryData_pending _ _ _), hon _ (State.tryMem_pending _ _ _),
    hon _ (State.tryData_pending _ _ _), hon _ (State.tryMem_pending _ _ _), hon _ (State.tryData_pending _ _ _),
    hon _ (State.tryMem_pending _ _ _)⟩

@[simp] theorem State.doFrameStart_pending (s : State) (p : Nat) : (s.doFrameStart p).pending = s.pending := by
  simp [State.doFrameStart, apply_ite State.pending]

@[simp] theorem State.doLingerExpiry_pending (s : State) (c : Nat) : (s.doLingerExpiry c).pending = s.pending := by
  unfold State.doLingerExpiry
  dsimp only
  repeat' split
  all_goals simp

@[simp] theorem State.doCreditFrame_pending (s : State) (p : Nat) (w : LWord) : (s.doCreditFrame p w).pending = s.pending := rfl

@[simp] theorem State.doCreditSend_pending (s : State) (p : Nat) : (s.doCreditSend p).pending = s.pending := by
  unfold State.doCreditSend
  dsimp only
  repeat' split
  all_goals simp

@[simp] theorem State.stopPath_pending (s : State) (p : Nat) : (s.stopPath p).pending = s.pending := by
  simp [State.stopPath, apply_ite State.pending]

@[simp] theorem State.startPath_pending (s : State) (p : Nat) : (s.startPath p).pending = s.pending := by simp [State.startPath]

@[simp] theorem State.loadLat_pending (s : State) (p : Nat) : (s.loadLat p).pending = s.pending := rfl

@[simp] theorem State.writePathCfg_pending (s : State) (w : Word) : (s.writePathCfg w).pending = s.pending := by
  simp [State.writePathCfg, apply_ite State.pending]

@[simp] theorem State.writeLaneCtl_pending (s : State) (n : Nat) (w : Word) : (s.writeLaneCtl n w).pending = s.pending := by
  simp [State.writeLaneCtl, apply_ite State.pending]

@[simp] theorem State.doClassPolicyWrite_pending (s : State) (w : Word) : (s.doClassPolicyWrite w).pending = s.pending := by
  simp -implicitDefEqProofs [State.doClassPolicyWrite]

end Sys2Proof.Machine
end

section
/-! SUPPORT. No operation of the module takes a command from its queue, in any state:
the Prompter, power, resets, register accesses and the receiver. -/

namespace Sys2Proof.Machine

/-! ### The Prompter -/

@[simp] theorem State.prmEvent_pending (s : State) (kind r err w2 : Nat) : (s.prmEvent kind r err w2).pending = s.pending := by
  simp [State.prmEvent]

@[simp] theorem State.stopPrmRing_pending (s : State) (r err index : Nat) : (s.stopPrmRing r err index).pending = s.pending := by
  simp [State.stopPrmRing]

@[simp] theorem State.takeIndex_pending (s : State) (r idx : Nat) : (s.takeIndex r idx).pending = s.pending := by
  simp [State.takeIndex, apply_ite State.pending]

@[simp] theorem State.doRingResume_pending (s : State) (r : Nat) : (s.doRingResume r).pending = s.pending := by
  simp [State.doRingResume, apply_ite State.pending]

@[simp] theorem State.doCommit_pending (s : State) : s.doCommit.pending = s.pending := by
  simp [State.doCommit, apply_ite State.pending]

@[simp] theorem State.memRead_pending (s : State) (key addr n : Nat) : (s.memRead key addr n).pending = s.pending := rfl

@[simp] theorem State.startPoll_pending (s : State) : s.startPoll.pending = s.pending := rfl

@[simp] theorem State.doPollStart_pending (s : State) : s.doPollStart.pending = s.pending := by
  unfold State.doPollStart
  split
  · split
    · split <;> simp
    · simp
  · rfl

@[simp] theorem State.doNudge_pending (s : State) : s.doNudge.pending = s.pending := by
  simp [State.doNudge, apply_ite State.pending]

@[simp] theorem State.pollFailed_pending (s : State) : s.pollFailed.pending = s.pending := by
  simp [State.pollFailed, apply_ite State.pending]

@[simp] theorem State.fetchRing_pending (s : State) (r : Nat) : (s.fetchRing r).pending = s.pending := by
  simp [State.fetchRing, apply_ite State.pending]

@[simp] theorem State.fetchAll_pending (s : State) : s.fetchAll.pending = s.pending := by simp [State.fetchAll]

@[simp] theorem State.startCmd_pending (s : State) (c : PCmd) : (s.startCmd c).pending = s.pending := rfl

@[simp] theorem State.serveBad_pending (s : State) (fuel : Nat) : (s.serveBad fuel).pending = s.pending := by
  induction fuel generalizing s with
  | zero => rfl
  | succ fuel ih =>
    unfold State.serveBad
    split
    · rfl
    · split
      · exact (ih _).trans (by simp)
      · split
        · exact (ih _).trans (by simp)
        · rfl

@[simp] theorem State.serve_pending (s : State) : s.serve.pending = s.pending := by simp [State.serve]

@[simp] theorem State.doNop_pending (s : State) : s.doNop.pending = s.pending := by
  unfold State.doNop
  split <;> simp

@[simp] theorem State.doFence_pending (s : State) : s.doFence.pending = s.pending := by
  unfold State.doFence
  split <;> simp

@[simp] theorem State.doPrmInject_pending (s : State) (ns : Nat) : (s.doPrmInject ns).pending = s.pending := by
  unfold State.doPrmInject
  split <;> simp

@[simp] theorem State.doPrmCodec_pending (s : State) : s.doPrmCodec.pending = s.pending := by
  unfold State.doPrmCodec
  split <;> simp

@[simp] theorem State.takeDescriptors_pending (s : State) (r n : Nat) (ws : List LWord) :
    (s.takeDescriptors r n ws).pending = s.pending := by
  simp [State.takeDescriptors]

@[simp] theorem State.doMemRdData_pending (s : State) (lane tag status : Nat) (ws : List LWord) :
    (s.doMemRdData lane tag status ws).pending = s.pending := by
  unfold State.doMemRdData
  split <;> simp [apply_ite State.pending]

/-- A completion entry that a change of the memory path may have lost is written again (R345). -/
def State.entryAgain (s : State) (e : Nat × Nat × List LWord × Nat) : State :=
  if idxDiff e.2.1 (s.ring e.1).tail < 2 ^ 63 then s.memWrite 1 e.1 (s.ringBase e.1 + e.2.1 % s.ringLen e.1 * 16) e.2.2.1 else s

theorem State.entryAgain_pending (s : State) (e : Nat × Nat × List LWord × Nat) : (s.entryAgain e).pending = s.pending := by
  unfold State.entryAgain
  split
  · exact s.memWrite_pending _ _ _ _
  · rfl

@[simp] theorem State.finishPathChange_pending (s : State) : s.finishPathChange.pending = s.pending := by
  unfold State.finishPathChange
  dsimp only
  rw [State.flag_pending]
  refine (State.forEach_pending (fun t r => ?_) _ _).trans
    ((State.forEach_pending (fun t r => t.pushStatus_pending r) _ _).trans (State.forEach_pending State.entryAgain_pending _ _))
  split
  · exact t.prmEvent_pending _ _ _ _
  · rfl

@[simp] theorem State.doPollComplete_pending (s : State) : s.doPollComplete.pending = s.pending := by
  unfold State.doPollComplete
  split <;> simp [apply_ite State.pending]

@[simp] theorem State.readTimedOut_pending (s : State) (path : Nat) : (s.readTimedOut path).pending = s.pending := by
  simp [State.readTimedOut]

@[simp] theorem State.doMemReadTimeout_pending (s : State) : s.doMemReadTimeout.pending = s.pending := by
  unfold State.doMemReadTimeout
  dsimp only
  repeat' split
  all_goals simp

@[simp] theorem State.writeFailed_pending (s : State) (addr : Nat) (ring : Option Nat) :
    (s.writeFailed addr ring).pending = s.pending := by
  unfold State.writeFailed
  split <;> simp

@[simp] theorem State.doMemWrErr_pending (s : State) (addr status : Nat) : (s.doMemWrErr addr status).pending = s.pending := by
  simp [State.doMemWrErr, apply_ite State.pending]

@[simp] theorem State.doMemPathChange_pending (s : State) : s.doMemPathChange.pending = s.pending := by
  simp [State.doMemPathChange, apply_ite State.pending]

@[simp] theorem State.doMemPathResume_pending (s : State) : s.doMemPathResume.pending = s.pending := by
  simp [State.doMemPathResume, apply_ite State.pending]

@[simp] theorem State.prmShed_pending (s : State) : s.prmShed.pending = s.pending := by
  simp [State.prmShed, apply_ite State.pending]

@[simp] theorem State.prmUnshed_pending (s : State) : s.prmUnshed.pending = s.pending := by
  simp [State.prmUnshed, apply_ite State.pending]

@[simp] theorem State.prmRestart_pending (s : State) : s.prmRestart.pending = s.pending := by
  simp [State.prmRestart, apply_ite State.pending]

/-! ### Power and shedding -/

@[simp] theorem State.showStage_pending (s : State) : s.showStage.pending = s.pending := rfl

@[simp] theorem State.shedRegion_pending (s : State) (r : Nat) : (s.shedRegion r).pending = s.pending := by
  simp [State.shedRegion, apply_ite State.pending]

@[simp] theorem State.unshedRegion_pending (s : State) (r : Nat) : (s.unshedRegion r).pending = s.pending := by
  simp [State.unshedRegion]

@[simp] theorem State.shedStep_pending (s : State) (k : Nat) : (s.shedStep k).pending = s.pending := by
  unfold State.shedStep
  split <;> simp

@[simp] theorem State.restoreLanes_pending (s : State) (k : Nat) : (s.restoreLanes k).pending = s.pending := by
  simp [State.restoreLanes]

@[simp] theorem State.unshedStep_pending (s : State) (k : Nat) : (s.unshedStep k).pending = s.pending := by
  unfold State.unshedStep
  split <;> simp [apply_ite State.pending]

@[simp] theorem State.noteStage_pending (s : State) : s.noteStage.pending = s.pending := rfl

@[simp] theorem State.enterStage_pending (s : State) (k : Nat) : (s.enterStage k).pending = s.pending := by
  simp [State.enterStage, apply_ite State.pending]

@[simp] theorem State.sendNotice_pending (s : State) : s.sendNotice.pending = s.pending := by simp [State.sendNotice]

@[simp] theorem State.doSheddingNotice_pending (s : State) : s.doSheddingNotice.pending = s.pending := by
  unfold State.doSheddingNotice
  split
  · split <;> simp
  · rfl

@[simp] theorem State.abandonWrites_pending (s : State) : s.abandonWrites.pending = s.pending := rfl

@[simp] theorem State.enterS5_pending (s : State) : s.enterS5.pending = s.pending := by
  unfold State.enterS5
  dsimp only
  repeat' split
  all_goals simp

@[simp] theorem State.haltKeeper_pending (s : State) : s.haltKeeper.pending = s.pending := by simp [State.haltKeeper]

@[simp] theorem State.keepSurge_pending (s : State) : s.keepSurge.pending = s.pending := by
  simp [State.keepSurge, apply_ite State.pending]

@[simp] theorem State.noteOverVoltage_pending (s : State) (r : VinRun) : (s.noteOverVoltage r).pending = s.pending := by
  unfold State.noteOverVoltage
  split <;> simp [apply_ite State.pending]

@[simp] theorem State.takeVin_pending (s : State) (vins : List Nat) : (s.takeVin vins).pending = s.pending := by
  simp [State.takeVin, apply_ite State.pending]

@[simp] theorem State.doOrderlyStop_pending (s : State) (vins : List Nat) : (s.doOrderlyStop vins).pending = s.pending := by
  simp [State.doOrderlyStop, apply_ite State.pending]

@[simp] theorem State.doPowerFail_pending (s : State) : s.doPowerFail.pending = s.pending := by simp [State.doPowerFail]

@[simp] theorem State.doDropOut_pending (s : State) : s.doDropOut.pending = s.pending := rfl

@[simp] theorem State.takeSupplies_pending (s : State) (vaux vfeed power : Nat) :
    (s.takeSupplies vaux vfeed power).pending = s.pending := rfl

@[simp] theorem State.watchVin_pending (s : State) (vins : List Nat) : (s.watchVin vins).pending = s.pending := rfl

@[simp] theorem State.doStageTick_pending (s : State) (vins : List Nat) (vaux vfeed power : Nat) :
    (s.doStageTick vins vaux vfeed power).pending = s.pending := by
  simp [State.doStageTick, apply_ite State.pending]

@[simp] theorem State.doStageRestore_pending (s : State) : s.doStageRestore.pending = s.pending := by
  simp [State.doStageRestore, apply_ite State.pending]

@[simp] theorem State.doForceStage_pending (s : State) (w : Word) : (s.doForceStage w).pending = s.pending := rfl

@[simp] theorem State.doVinClrMin_pending (s : State) : s.doVinClrMin.pending = s.pending := rfl

@[simp] theorem State.doOverVoltage_pending (s : State) (vins : List Nat) : (s.doOverVoltage vins).pending = s.pending := by
  simp [State.doOverVoltage]

@[simp] theorem State.doOverVoltageEnd_pending (s : State) : s.doOverVoltageEnd.pending = s.pending := by
  simp [State.doOverVoltageEnd, apply_ite State.pending]

@[simp] theorem State.doRailFault_pending (s : State) (rail scope : Nat) : (s.doRailFault rail scope).pending = s.pending := by
  simp [State.doRailFault, apply_ite State.pending]

@[simp] theorem State.heatRegion_pending (s : State) (r : Nat) : (s.heatRegion r).pending = s.pending := by
  simp [State.heatRegion, apply_ite State.pending]

@[simp] theorem State.takeTemp_pending (s : State) (d : Nat) (tj : Int) : (s.takeTemp d tj).pending = s.pending := rfl

@[simp] theorem State.doThermal_pending (s : State) (d : Nat) (tj : Int) : (s.doThermal d tj).pending = s.pending := by
  simp [State.doThermal, apply_ite State.pending]

@[simp] theorem State.doThermalRecover_pending (s : State) (d : Nat) (tj : Int) :
    (s.doThermalRecover d tj).pending = s.pending := by
  simp -implicitDefEqProofs [State.doThermalRecover, apply_ite State.pending]

/-! ### Safety telegrams -/

@[simp] theorem State.telDiscard_pending (s : State) : s.telDiscard.pending = s.pending := rfl

@[simp] theorem State.doStatusSend_pending (s : State) : s.doStatusSend.pending = s.pending := by
  unfold State.doStatusSend
  dsimp only
  repeat' split
  all_goals simp

@[simp] theorem State.losePath_pending (s : State) (p : Nat) : (s.losePath p).pending = s.pending := by
  simp [State.losePath, apply_ite State.pending]

@[simp] theorem State.agreedOn_pending (s : State) (p : Nat) : (s.agreedOn p).pending = s.pending := by
  simp [State.agreedOn, apply_ite State.pending]

@[simp] theorem State.saferParts_pending (s : State) (w : LWord) : (s.saferParts w).pending = s.pending := by
  simp [State.saferParts, apply_ite State.pending]

@[simp] theorem State.agreedParts_pending (s : State) (w : LWord) : (s.agreedParts w).pending = s.pending := by
  simp [State.agreedParts, apply_ite State.pending]

@[simp] theorem State.sawCommand_pending (s : State) (p : Nat) : (s.sawCommand p).pending = s.pending := rfl

@[simp] theorem State.secondCopy_pending (s : State) (c : Copy) (ws : List LWord) : (s.secondCopy c ws).pending = s.pending := by
  simp [State.secondCopy, apply_ite State.pending]

@[simp] theorem State.doSafetyCommand_pending (s : State) (path : Nat) (w0 w1 : LWord) :
    (s.doSafetyCommand path w0 w1).pending = s.pending := by
  unfold State.doSafetyCommand
  dsimp only
  repeat' split
  all_goals simp

@[simp] theorem State.bothSilent_pending (s : State) : s.bothSilent.pending = s.pending := by
  simp [State.bothSilent, apply_ite State.pending]

@[simp] theorem State.doCopyTimeout_pending (s : State) : s.doCopyTimeout.pending = s.pending := by
  unfold State.doCopyTimeout
  dsimp only
  repeat' split
  all_goals simp

@[simp] theorem State.safConditionsOver_pending (s : State) : s.safConditionsOver.pending = s.pending := by
  simp -implicitDefEqProofs [State.safConditionsOver]

@[simp] theorem State.clearLockout_pending (s : State) : s.clearLockout.pending = s.pending := by
  simp -implicitDefEqProofs [State.clearLockout]

@[simp] theorem State.doSafetyAck_pending (s : State) (path : Nat) (w0 w1 : LWord) :
    (s.doSafetyAck path w0 w1).pending = s.pending := by
  unfold State.doSafetyAck
  dsimp only
  repeat' split
  all_goals simp

@[simp] theorem State.doSafetyParam_pending (s : State) (path : Nat) (w0 w1 : LWord) :
    (s.doSafetyParam path w0 w1).pending = s.pending := by
  unfold State.doSafetyParam
  split <;> simp [apply_ite State.pending]

@[simp] theorem State.refuseActivation_pending (s : State) : s.refuseActivation.pending = s.pending := rfl

@[simp] theorem State.doSafetyActivate_pending (s : State) (path : Nat) (w0 w1 w2 : LWord) :
    (s.doSafetyActivate path w0 w1 w2).pending = s.pending := by
  unfold State.doSafetyActivate
  split <;> simp [apply_ite State.pending]

@[simp] theorem State.loadSafetySet_pending (s : State) (ws : List Word) (crc : Nat) :
    (s.loadSafetySet ws crc).pending = s.pending := by
  simp -implicitDefEqProofs [State.loadSafetySet]

@[simp] theorem State.doSafetySetWritten_pending (s : State) : s.doSafetySetWritten.pending = s.pending := by
  unfold State.doSafetySetWritten
  split <;> simp

/-! ### Resets and start-up -/

@[simp] theorem State.setPhase_pending (s : State) (n : Nat) : (s.setPhase n).pending = s.pending := rfl

@[simp] theorem State.takeColumn_pending (s : State) (column : FieldDef → Rst) : (s.takeColumn column).pending = s.pending := by
  simp -implicitDefEqProofs [State.takeColumn]

@[simp] theorem State.keepEnabled_pending (s : State) : s.keepEnabled.pending = s.pending := rfl

@[simp] theorem State.loadImage_pending (s : State) (column : FieldDef → Rst) (image : List (Nat × Nat)) :
    (s.loadImage column image).pending = s.pending := by
  simp [State.loadImage, apply_ite State.pending]

@[simp] theorem State.loadBanks_pending (s : State) : s.loadBanks.pending = s.pending := rfl

@[simp] theorem State.setModuleId_pending (s : State) (id : Nat) : (s.setModuleId id).pending = s.pending := by
  simp [State.setModuleId]

@[simp] theorem State.noteStart_pending (s : State) : s.noteStart.pending = s.pending := by
  simp [State.noteStart, apply_ite State.pending]

@[simp] theorem State.doModuleId_pending (s : State) (w : Word) : (s.doModuleId w).pending = s.pending := by
  simp [State.doModuleId]

@[simp] theorem State.doLaneUpStart_pending (s : State) (n : Nat) : (s.doLaneUpStart n).pending = s.pending := by
  simp [State.doLaneUpStart, apply_ite State.pending]

@[simp] theorem State.restoreIncidents_pending (s : State) (inc : List Incident) :
    (s.restoreIncidents inc).pending = s.pending := rfl

@[simp] theorem State.coldState_pending (s : State) : s.coldState.pending = s.pending := by
  unfold State.coldState
  exact State.takeColumn_pending _ _

@[simp] theorem State.takeStraps_pending (s : State) (straps : Nat) : (s.takeStraps straps).pending = s.pending := rfl

@[simp] theorem State.readBook_pending (s : State) : s.readBook.pending = s.pending := by
  unfold State.readBook
  dsimp only
  repeat' split
  all_goals simp

@[simp] theorem State.startSafety_pending (s : State) : s.startSafety.pending = s.pending := rfl

@[simp] theorem State.enterLoad_pending (s : State) : s.enterLoad.pending = s.pending := rfl

@[simp] theorem State.coldStart_pending (s : State) (straps : Nat) : (s.coldStart straps).pending = s.pending := by
  simp [State.coldStart]

@[simp] theorem State.doColdReset_pending (s : State) (straps : Nat) : (s.doColdReset straps).pending = s.pending := by
  simp [State.doColdReset, apply_ite State.pending]

@[simp] theorem State.doKeeperRestart_pending (s : State) (straps : Nat) (tj : Int) :
    (s.doKeeperRestart straps tj).pending = s.pending := by
  unfold State.doKeeperRestart
  split <;> simp [apply_ite State.pending]

@[simp] theorem State.startRegions_pending (s : State) : s.startRegions.pending = s.pending := rfl

@[simp] theorem State.startLanes_pending (s : State) : s.startLanes.pending = s.pending := by
  simp [State.startLanes, apply_ite State.pending]

@[simp] theorem State.preloadTime_pending (s : State) (cold : Bool) : (s.preloadTime cold).pending = s.pending := rfl

@[simp] theorem State.initChans_pending (s : State) : s.initChans.pending = s.pending := rfl

@[simp] theorem State.clearSpans_pending (s : State) : s.clearSpans.pending = s.pending := rfl

@[simp] theorem State.startCx_pending (s : State) (cold : Bool) : (s.startCx cold).pending = s.pending := by
  simp -implicitDefEqProofs [State.startCx, apply_ite State.pending]

@[simp] theorem State.loadSafety_pending (s : State) (image : List (Nat × Nat)) (ok : Bool) :
    (s.loadSafety image ok).pending = s.pending := by
  simp -implicitDefEqProofs [State.loadSafety, apply_ite State.pending]

@[simp] theorem State.startKeeperIo_pending (s : State) (sensorCal : Bool) : (s.startKeeperIo sensorCal).pending = s.pending := by
  simp [State.startKeeperIo]

@[simp] theorem State.bootFirmware_pending (s : State) (slot failed : Nat) :
    (s.bootFirmware slot failed).pending = s.pending := by
  simp [State.bootFirmware, apply_ite State.pending]

@[simp] theorem State.doImageLoaded_pending (s : State) (slot failed : Nat) (valid : Bool) (image : List (Nat × Nat)) (sensorCal safOk : Bool) :
    (s.doImageLoaded slot failed valid image sensorCal safOk).pending = s.pending := by
  simp [State.doImageLoaded, apply_ite State.pending]

@[simp] theorem State.beginWarm_pending (s : State) (fromPin : Bool) : (s.beginWarm fromPin).pending = s.pending := by
  unfold State.beginWarm
  simp only [State.setModuleId_pending, State.restoreIncidents_pending, State.setPhase_pending, State.takeColumn_pending, State.stopSweep_pending]

@[simp] theorem State.release_pending (s : State) (straps : Nat) : (s.release straps).pending = s.pending := by
  simp -implicitDefEqProofs [State.release]

@[simp] theorem State.doResetAssert_pending (s : State) : s.doResetAssert.pending = s.pending := by
  unfold State.doResetAssert
  dsimp only
  repeat' split
  all_goals simp

@[simp] theorem State.doResetRelease_pending (s : State) (straps : Nat) : (s.doResetRelease straps).pending = s.pending := by
  unfold State.doResetRelease
  dsimp only
  repeat' split
  all_goals simp

@[simp] theorem State.doWarm_pending (s : State) (port : Nat) : (s.doWarm port).pending = s.pending := by
  simp [State.doWarm, apply_ite State.pending]

@[simp] theorem State.doStuckReset_pending (s : State) (straps : Nat) : (s.doStuckReset straps).pending = s.pending := by
  unfold State.doStuckReset
  split <;> simp -implicitDefEqProofs [apply_ite State.pending]

@[simp] theorem State.doOverrideClear_pending (s : State) : s.doOverrideClear.pending = s.pending := by
  unfold State.doOverrideClear
  split <;> simp [apply_ite State.pending]

@[simp] theorem State.doTimeWaitExpiry_pending (s : State) : s.doTimeWaitExpiry.pending = s.pending := by
  unfold State.doTimeWaitExpiry
  split <;> simp [apply_ite State.pending]

@[simp] theorem State.doStartRehearsal_pending (s : State) (ns : Nat) : (s.doStartRehearsal ns).pending = s.pending := by
  simp [State.doStartRehearsal, apply_ite State.pending]

@[simp] theorem State.doStartReady_pending (s : State) : s.doStartReady.pending = s.pending := by
  simp [State.doStartReady, apply_ite State.pending]

@[simp] theorem State.doRestart_pending (s : State) (port : Nat) : (s.doRestart port).pending = s.pending := by
  unfold State.doRestart
  dsimp only
  repeat' split
  all_goals simp

@[simp] theorem State.doSwitchResumeStart_pending (s : State) : s.doSwitchResumeStart.pending = s.pending := by
  simp [State.doSwitchResumeStart, apply_ite State.pending]

@[simp] theorem State.dropPackets_pending (s : State) : s.dropPackets.pending = s.pending := rfl

@[simp] theorem State.emptyQueues_pending (s : State) : s.emptyQueues.pending = s.pending := rfl

@[simp] theorem State.doRestartStop_pending (s : State) : s.doRestartStop.pending = s.pending := by
  unfold State.doRestartStop
  split <;> simp [apply_ite State.pending]

@[simp] theorem State.settlePending_pending (s : State) (ch n : Nat) : (s.settlePending ch n).pending = s.pending := by
  simp -implicitDefEqProofs [State.settlePending, apply_ite State.pending]

@[simp] theorem State.settleSwaps_pending (s : State) (n : Nat) : (s.settleSwaps n).pending = s.pending := by
  unfold State.settleSwaps
  dsimp only
  repeat' split
  all_goals simp

@[simp] theorem State.restartPace_pending (s : State) : s.restartPace.pending = s.pending := by
  simp -implicitDefEqProofs [State.restartPace]

@[simp] theorem State.doRestartResume_pending (s : State) (us : Nat) : (s.doRestartResume us).pending = s.pending := by
  unfold State.doRestartResume
  split <;> simp -implicitDefEqProofs [apply_ite State.pending]

/-! ### Register accesses -/

@[simp] theorem State.portRead_pending (s : State) (p a : Nat) : (s.portRead p a).pending = s.pending := by
  simp [State.portRead, apply_ite State.pending]

@[simp] theorem State.store_pending (s : State) (r : RegDef) (a : Nat) (w : Word) : (s.store r a w).pending = s.pending := rfl

theorem State.writeMgt_pending (s : State) (r : RegDef) (port a : Nat) (w : Word) : KeepsPending s (s.writeMgt r port a w) := by
  unfold State.writeMgt
  dsimp only
  repeat' refine KeepsPending.ite ?_ ?_
  all_goals simp -implicitDefEqProofs [apply_ite State.pending]

@[simp] theorem State.writeAdcCtl_pending (s : State) (r : RegDef) (w : Word) : (s.writeAdcCtl r w).pending = s.pending := by
  simp [State.writeAdcCtl, apply_ite State.pending]

@[simp] theorem State.writeFltChain_pending (s : State) (ch : Nat) (w : Word) (ns : Nat) :
    (s.writeFltChain ch w ns).pending = s.pending := by
  simp [State.writeFltChain]

theorem State.writeFront_pending (s : State) (r : RegDef) (a : Nat) (w : Word) (ns : Nat) :
    KeepsPending s (s.writeFront r a w ns) := by
  unfold State.writeFront
  dsimp only
  repeat' refine KeepsPending.ite ?_ ?_
  all_goals simp -implicitDefEqProofs [apply_ite State.pending]

@[simp] theorem State.writeBucket_pending (s : State) (r : RegDef) (w : Word) : (s.writeBucket r w).pending = s.pending := by
  simp [State.writeBucket, apply_ite State.pending]

@[simp] theorem State.writeWchCtl_pending (s : State) (r : RegDef) (w : Word) : (s.writeWchCtl r w).pending = s.pending := by
  simp [State.writeWchCtl]

@[simp] theorem State.writeWchan_pending (s : State) (r : RegDef) (ch : Nat) (w : Word) :
    (s.writeWchan r ch w).pending = s.pending := by
  simp [State.writeWchan]

@[simp] theorem State.writeDet_pending (s : State) (r : RegDef) (ch : Nat) (w : Word) :
    (s.writeDet r ch w).pending = s.pending := by
  simp [State.writeDet, apply_ite State.pending]

@[simp] theorem State.writeStreamMode_pending (s : State) (r : RegDef) (ch : Nat) (w : Word) :
    (s.writeStreamMode r ch w).pending = s.pending := by
  simp [State.writeStreamMode, apply_ite State.pending]

theorem State.writeCore_pending (s : State) (r : RegDef) (a : Nat) (w : Word) : KeepsPending s (s.writeCore r a w) := by
  unfold State.writeCore
  dsimp only
  repeat' refine KeepsPending.ite ?_ ?_
  all_goals simp -implicitDefEqProofs [or_imp, forall_and]

@[simp] theorem State.writeMemCfg_pending (s : State) (r : RegDef) (w : Word) : (s.writeMemCfg r w).pending = s.pending := by
  simp -implicitDefEqProofs [State.writeMemCfg]

@[simp] theorem State.writeTimCtl_pending (s : State) (r : RegDef) (w : Word) : (s.writeTimCtl r w).pending = s.pending := by
  simp [State.writeTimCtl, apply_ite State.pending]

theorem State.writeLink_pending (s : State) (r : RegDef) (a : Nat) (w : Word) : KeepsPending s (s.writeLink r a w) := by
  unfold State.writeLink
  dsimp only
  repeat' refine KeepsPending.ite ?_ ?_
  all_goals simp -implicitDefEqProofs

@[simp] theorem State.writeReg_pending (s : State) (r : RegDef) (port a : Nat) (w : Word) (ns : Nat) :
    (s.writeReg r port a w ns).pending = s.pending := by
  unfold State.writeReg
  split
  · next t ht => exact s.writeMgt_pending r port a w t ht
  · split
    · next t ht => exact s.writeFront_pending r a w ns t ht
    · split
      · next t ht => exact s.writeCore_pending r a w t ht
      · split
        · next t ht => exact s.writeLink_pending r a w t ht
        · simp

@[simp] theorem State.unassignedWrite_pending (s : State) (a : Nat) : (s.unassignedWrite a).pending = s.pending := by
  simp [State.unassignedWrite]

@[simp] theorem State.lockedWrite_pending (s : State) (a : Nat) : (s.lockedWrite a).pending = s.pending := by
  simp [State.lockedWrite]

@[simp] theorem State.portWrite_pending (s : State) (p a : Nat) (w : Word) : (s.portWrite p a w).2.pending = s.pending := by
  unfold State.portWrite
  dsimp only
  repeat' split
  all_goals simp

@[simp] theorem State.portStore_pending (s : State) (p a : Nat) (w : Word) : (s.portStore p a w).pending = s.pending := by
  simp [State.portStore]

@[simp] theorem State.doRegisterWrite_pending (s : State) (p a : Nat) (w : Word) :
    (s.doRegisterWrite p a w).pending = s.pending := by
  simp [State.doRegisterWrite]

@[simp] theorem State.doPairRead_pending (s : State) (p a : Nat) : (s.doPairRead p a).pending = s.pending := by
  simp [State.doPairRead]

@[simp] theorem State.doCellRead_pending (s : State) (p cell : Nat) (high : Bool) :
    (s.doCellRead p cell high).pending = s.pending := by
  simp [State.doCellRead]

@[simp] theorem State.doDiagRead_pending (s : State) (p word : Nat) : (s.doDiagRead p word).pending = s.pending := by
  simp [State.doDiagRead]

@[simp] theorem State.doRegWr_pending (s : State) : s.doRegWr.pending = s.pending := by
  unfold State.doRegWr
  split <;> simp [apply_ite State.pending]

@[simp] theorem State.doRegRd_pending (s : State) : s.doRegRd.pending = s.pending := by
  unfold State.doRegRd
  split <;> simp

@[simp] theorem State.doBlockRd_pending (s : State) : s.doBlockRd.pending = s.pending := by
  unfold State.doBlockRd
  split <;> simp [apply_ite State.pending]

@[simp] theorem State.doConfigScrub_pending (s : State) (a kind : Nat) : (s.doConfigScrub a kind).pending = s.pending := by
  unfold State.doConfigScrub
  dsimp only
  repeat' split
  all_goals simp

@[simp] theorem State.loseItem_pending (s : State) (item : Nat) : (s.loseItem item).pending = s.pending := by
  simp [State.loseItem, apply_ite State.pending]

@[simp] theorem State.doFlashRefresh_pending (s : State) (worst : Nat) (eraseOk : Bool) (item : Nat) :
    (s.doFlashRefresh worst eraseOk item).pending = s.pending := by
  unfold State.doFlashRefresh
  split
  · rfl
  · dsimp only
    split
    · rw [State.loseItem_pending, State.report_pending, State.onFau_pending, State.toTick_pending]
    · split
      · rw [State.report_pending, State.wr_pending, State.onFau_pending, State.onFau_pending, State.toTick_pending]
      · rw [State.onFau_pending, State.toTick_pending]

@[simp] theorem State.doRefclkLoss_pending (s : State) : s.doRefclkLoss.pending = s.pending := by
  simp [State.doRefclkLoss, apply_ite State.pending]

@[simp] theorem State.doRefclkReturn_pending (s : State) : s.doRefclkReturn.pending = s.pending := by
  simp [State.doRefclkReturn, apply_ite State.pending]

/-! ### The access ports -/

@[simp] theorem State.doSmbusWrite_pending (s : State) (a : Nat) (w : Word) (pecOk : Bool) :
    (s.doSmbusWrite a w pecOk).pending = s.pending := by
  simp [State.doSmbusWrite, apply_ite State.pending]

@[simp] theorem State.doSmbusAddress_pending (s : State) (a : Nat) (pecOk : Bool) :
    (s.doSmbusAddress a pecOk).pending = s.pending := by
  simp [State.doSmbusAddress, apply_ite State.pending]

@[simp] theorem State.doSmbusRead_pending (s : State) : s.doSmbusRead.pending = s.pending := by simp [State.doSmbusRead]

@[simp] theorem State.doAlertResponse_pending (s : State) : s.doAlertResponse.pending = s.pending := by
  simp [State.doAlertResponse, apply_ite State.pending]

@[simp] theorem State.uartAnswer_pending (s : State) (op a : Nat) (data : List Nat) :
    (s.uartAnswer op a data).pending = s.pending := rfl

@[simp] theorem State.doUartWrite_pending (s : State) (a : Nat) (w : Word) (crc : Nat) :
    (s.doUartWrite a w crc).pending = s.pending := by
  simp [State.doUartWrite, apply_ite State.pending]

@[simp] theorem State.doUartRead_pending (s : State) (a : Nat) (w : Word) (crc : Nat) :
    (s.doUartRead a w crc).pending = s.pending := by
  simp [State.doUartRead, apply_ite State.pending]

@[simp] theorem State.doKeyProvisioning_pending (s : State) (key : Nat) (crcOk : Bool) :
    (s.doKeyProvisioning key crcOk).pending = s.pending := by
  simp [State.doKeyProvisioning, apply_ite State.pending]

@[simp] theorem State.doUartGap_pending (s : State) : s.doUartGap.pending = s.pending := rfl

@[simp] theorem State.doSmbusTimeout_pending (s : State) : s.doSmbusTimeout.pending = s.pending := rfl

@[simp] theorem State.jtagSelect_pending (s : State) (ir dr : Nat) (mode : ScanMode) :
    (s.jtagSelect ir dr mode).pending = s.pending := rfl

@[simp] theorem State.doTestLogicReset_pending (s : State) : s.doTestLogicReset.pending = s.pending := rfl

@[simp] theorem State.doBypass_pending (s : State) : s.doBypass.pending = s.pending := rfl

@[simp] theorem State.doIdcode_pending (s : State) : s.doIdcode.pending = s.pending := rfl

@[simp] theorem State.doSamplePreload_pending (s : State) (balls shifted : Nat) :
    (s.doSamplePreload balls shifted).pending = s.pending := rfl

@[simp] theorem State.doExtest_pending (s : State) (balls shifted : Nat) : (s.doExtest balls shifted).pending = s.pending := rfl

@[simp] theorem State.doClamp_pending (s : State) : s.doClamp.pending = s.pending := rfl

@[simp] theorem State.doHighz_pending (s : State) : s.doHighz.pending = s.pending := rfl

/-! ### Writes of a port -/

@[simp] theorem State.hostWrite_pending (s : State) (p a : Nat) (w : Word) : (s.hostWrite p a w).pending = s.pending := by
  simp [State.hostWrite]

@[simp] theorem State.hostField_pending (s : State) (p : Nat) (f : Fld) (i n : Nat) :
    (s.hostField p f i n).pending = s.pending := by
  simp [State.hostField]

@[simp] theorem State.hostBit_pending (s : State) (p : Nat) (f : Fld) (i : Nat) : (s.hostBit p f i).pending = s.pending := by
  simp [State.hostBit]

/-! ### The receiver -/

@[simp] theorem State.takeTime_pending (s : State) (n k phi : Nat) (ws : List LWord) :
    (s.takeTime n k phi ws).pending = s.pending := by
  simp [State.takeTime, apply_ite State.pending]

@[simp] theorem State.takeSafety_pending (s : State) (p : Nat) (ws : List LWord) : (s.takeSafety p ws).pending = s.pending := by
  unfold State.takeSafety
  split <;> simp

@[simp] theorem State.takeFrame_pending (s : State) (f : RxHeld) : (s.takeFrame f).pending = s.pending := by
  simp [State.takeFrame, apply_ite State.pending]

@[simp] theorem State.passOn_pending (s : State) (f : RxHeld) : (s.passOn f).pending = s.pending := by simp [State.passOn]

@[simp] theorem State.passHeld_pending (s : State) (p c : Nat) : (s.passHeld p c).pending = s.pending := by
  refine State.forEach_pending (fun t _ => ?_) _ _
  split
  · simp
  · rfl

@[simp] theorem State.order_pending (s : State) (f : RxHeld) : (s.order f).pending = s.pending := by
  unfold State.order
  split <;> simp [apply_ite State.pending]

theorem State.takeCredit_pending (s : State) (p : Nat) : KeepsPending s (s.takeCredit p) := by
  intro t h
  unfold State.takeCredit at h
  dsimp only at h
  split at h
  · cases h
  · cases h
    rfl

@[simp] theorem State.goodFrame_pending (s : State) (n : Nat) (h : LWord) (ws : List LWord) (k phi : Nat) :
    (s.goodFrame n h ws k phi).pending = s.pending := by
  unfold State.goodFrame
  dsimp only
  split
  · simp
  · split
    · simp
    · split
      · rfl
      · split
        · simp
        · split
          · split
            · simp
            · next t ht => exact (State.order_pending _ _).trans (s.takeCredit_pending _ t ht)
          · simp

@[simp] theorem State.doFrameReceived_pending (s : State) (n : Nat) (h : LWord) (payload : List LWord) (crc k phi : Nat) :
    (s.doFrameReceived n h payload crc k phi).pending = s.pending := by
  simp [State.doFrameReceived, apply_ite State.pending]

@[simp] theorem State.passUntil_pending (s : State) (f : RxHeld) : (s.passUntil f).pending = s.pending := by
  refine State.forEach_pending (fun t _ => ?_) _ _
  split
  · split <;> simp
  · rfl

@[simp] theorem State.doReorderTimeout_pending (s : State) : s.doReorderTimeout.pending = s.pending := by
  unfold State.doReorderTimeout
  split <;> simp

end Sys2Proof.Machine
end

section
/-! SUPPORT. Three kinds of commands: those of CX, those of the keeper, and those that act alone (R405, R408). -/

namespace Sys2Proof.Machine

/-- The command is f, run by a way of running operations, and f takes no command from the queue. -/
structure RunsAs (c : Instr) (way : State → (State → State) → State) (f : State → State) : Prop where
  run : ∀ s, exec c s = .next (way s f)
  queue : ∀ s, (f s).pending = s.pending

/-- A command runs where CX does, where the keeper does, or whatever runs. -/
theorem exec_kinds (c : Instr) : (∃ f, RunsAs c State.cxDo f) ∨ (needsCx c = false ∧ ∃ f, RunsAs c State.keeperDo f) ∨
    (needsCx c = false ∧ actsAlone c = true ∧ ∃ f, RunsAs c (fun s f => f s) f) := by
  match c with
  | .elasticBufferOverflow .. | .vcoreStepDown .. | .paceFault .. | .autoFallback .. | .rateSwitchIngestStop ..
  | .rateSwitchRelock .. | .rateSwitchResume .. | .paceFaultClear .. | .streamPacketComplete .. | .rawBlockWrite ..
  | .unitEnableTakeEffect .. | .stationWideReport .. | .regionFault .. | .calSourceFault .. | .rangeChangeApply ..
  | .autoRangeDecision .. | .bgWindowEnd .. | .rehearsalConnect .. | .rehearsalPhase .. | .rehearsalReconnect ..
  | .calSaveDone .. | .regionPllLock .. | .injectWindowStart .. | .injectComplete .. | .skewChangeApply ..
  | .skewCalComplete .. | .notchChangeApply .. | .chainChangeApply .. | .spectrumFrame .. | .prototypeSwapApply ..
  | .frameRecord .. | .segSwapApply .. | .maskSwapApply .. | .eccSweep .. | .detectorWindowEnd .. | .impulseDetectorFire ..
  | .triggerInputEdge .. | .cueProposal .. | .cueClose .. | .trigOutEnd .. | .budgetIntervalEnd .. | .snippetExtractStart ..
  | .snippetComplete .. | .freezeStop .. | .rearmLogClear .. | .rearmResume .. | .readoutRequest .. | .readoutComplete ..
  | .streamApplyTakeEffect .. | .codecJobStart .. | .codecJobComplete .. | .frameStart .. | .lingerExpiry ..
  | .queueFlushDone .. | .drop3Done .. | .bringupAttempt .. | .bringupFrameReceived .. | .laneUp .. | .bringupTimeout ..
  | .waitExpiry .. | .seedReceived .. | .realign .. | .realignTimeout .. | .lossOfSignal .. | .partnerTraining ..
  | .idleEntry .. | .hushReceived .. | .fastExit .. | .refreshBurst .. | .frameReceived .. | .creditFrame .. | .creditSend ..
  | .reorderTimeout .. | .nudge .. | .memRdData .. | .memWrErr .. | .memReadTimeout .. | .memPathChange .. | .memPathResume ..
  | .origin .. | .follow .. | .probeSend .. | .answer .. | .rebase .. | .relationRepeat .. | .heartbeat .. | .pathLoss ..
  | .ppsEdge .. | .ppsLoss .. | .asymCalDone .. | .voteCorrection .. | .pollStart .. | .pollComplete .. | .nop .. | .fence ..
  | .regWr .. | .regRd .. | .blockRd .. | .inject .. | .codec .. | .safetyStatusSend .. | .safetyCommand .. | .safetyAck ..
  | .safetyParam .. | .safetyActivate .. | .sheddingNotice .. | .regionRestore .. | .restartIngestStop .. | .restartResume ..
  | .startupRehearsal .. | .startupReady .. | .timeWaitExpiry .. | .incidentReportSend .. | .telemetry .. | .periodicDump ..
  | .tracerRecord .. | .unitFailure .. | .dieFault .. | .lanePllUnlock .. | .seedFound .. =>
    exact .inl ⟨_, fun _ => rfl, fun _ => by simp⟩
  | .registerWrite .. | .pairLowRead .. | .watchCellRead .. | .diagWindowRead .. | .refclkLoss .. | .paceLoopTick ..
  | .paceSwitch .. | .paceRestore .. | .paceClrMin .. | .moduleIdWrite .. | .unitEnableWrite .. | .thermalThreshold ..
  | .thermalRecover .. | .rangeWrite .. | .arThrWrite .. | .feedStateTick .. | .feedEnWrite .. | .feedOverloadTrip ..
  | .feedRetry .. | .feedSweep .. | .feedSweepPeriodic .. | .feedSweepStartUp .. | .feedTestPulse .. | .feedPulseEnd ..
  | .feedSweepEnd .. | .vfeedUndervoltage .. | .vfeedRecover .. | .rehearsalStart .. | .calSave .. | .calLoad ..
  | .injectRequest .. | .skewWrite .. | .skewCalRequest .. | .notchWrite .. | .notchBwWrite .. | .firBankSwap ..
  | .chainConfigWrite .. | .prototypeSwap .. | .chnEnWrite .. | .kChange .. | .segSwap .. | .maskSwap .. | .softwareCue ..
  | .freeze .. | .rearm .. | .streamApply .. | .codecCancel .. | .queueFlush .. | .drop3 .. | .hwmReset .. | .retrain ..
  | .clrErr .. | .laneSetChange .. | .classPolicyWrite .. | .acceptJump .. | .asymCal .. | .asymApply .. | .commit ..
  | .ringResume .. | .safetyCycle .. | .siTestPulse .. | .curtainTest .. | .commandCopyTimeout .. | .degradedExpiry ..
  | .safeResetRelease .. | .safeResetStuck .. | .sensorPulse .. | .sensorConversion .. | .switchEvaluate .. | .stageRestore ..
  | .forceStage .. | .keeperPowerFail .. | .orderlyStop .. | .vinOvervoltage .. | .railFault .. | .pbCommit ..
  | .pbPeriodicCommit .. | .pbCommitDone .. | .vinClrMin .. | .warm .. | .restart .. | .stuckReset .. | .overrideClear ..
  | .faultReport .. | .incidentHoldExpiry .. | .incidentCloseTimer .. | .close .. | .purgePrevious .. | .configScrub ..
  | .flashRefresh .. | .snap .. | .clrWrap .. | .dumpNow .. | .focusConfigWrite .. | .smbusWrite .. | .smbusSetReadAddress ..
  | .smbusRead .. | .alertResponse .. | .uartWrite .. | .uartRead .. | .keyProvisioning .. | .refclkReturn ..
  | .configurationImageLoaded .. | .overVoltageEnd .. | .curtainOverload .. | .safetySetWritten .. =>
    exact .inr (.inl ⟨rfl, _, fun _ => rfl, fun _ => by simp⟩)
  | .stageTick .. | .keeperRestart .. | .keeperDropOut .. | .coldReset .. | .resetNAssert .. | .resetNRelease ..
  | .jtagTestLogicReset .. | .bypass .. | .idcode .. | .samplePreload .. | .extest .. | .clamp .. | .highz ..
  | .uartFrameGap .. | .smbusClockLowTimeout .. =>
    exact .inr (.inr ⟨rfl, rfl, _, fun _ => rfl, fun _ => by simp [State.bootedDo_pending]⟩)

end Sys2Proof.Machine

open Sys2Proof Sys2Proof.Machine

/-- Settles O51, by the kind of the command for what it does in any state, and by its arm of exec in a module that runs. -/
theorem commandsComplete : Obligations.CommandsComplete := by
  refine ⟨fun c s => ?_, fun s hw => ?_⟩
  · rcases exec_kinds c with ⟨f, hrun, hqueue⟩ | ⟨hkeeper, f, hrun, hqueue⟩ | ⟨hkeeper, halone, f, hrun, hqueue⟩
    · exact ⟨⟨_, hrun s, s.cxDo_pending (hqueue s)⟩,
        fun hstopped _ => (hrun s).trans (congrArg _ (State.cxDo_idle (.inl hstopped) f)),
        fun hidle _ => (hrun s).trans (congrArg _ (State.cxDo_idle hidle f))⟩
    · exact ⟨⟨_, hrun s, s.keeperDo_pending hqueue⟩,
        fun hstopped _ => (hrun s).trans (congrArg _ (if_neg (by simp [hstopped]))),
        fun _ hneeds => absurd hneeds (by simp [hkeeper])⟩
    · exact ⟨⟨_, hrun s, hqueue s⟩, fun _ hwaits => absurd halone (by simp [hwaits]),
        fun _ hneeds => absurd hneeds (by simp [hkeeper])⟩
  · have cx := @State.Working.next_cxDo s hw
    have kp := @State.Awake.next_keeperDo s hw.awake
    have booted (f : State → State) : (Host.Outcome.next (s.bootedDo f) : Host.Outcome State Fault Refusal) = .next (f s) :=
      congrArg _ (hw.awake.bootedDo f)
    refine ⟨⟨fun _ _ _ => kp _, fun _ _ => kp _, fun _ _ _ => kp _, fun _ _ => kp _, kp _, fun _ _ => cx _, fun _ => kp _, cx _,
       cx _, cx _, fun _ => kp _, fun _ => kp _, fun _ => kp _, cx _, fun _ _ => cx _, cx _⟩,
      ⟨cx _, fun _ _ _ _ => cx _, fun _ _ _ _ => cx _, fun _ _ => kp _, fun _ _ _ => kp _, cx _, fun _ => cx _,
       fun _ _ => cx _, fun _ => cx _, fun _ _ => kp _, fun _ _ => kp _, fun _ _ _ => kp _, fun _ => cx _, fun _ => cx _,
       fun _ _ => kp _, fun _ _ _ _ => kp _⟩,
      ⟨fun _ _ => kp _, fun _ => kp _, fun _ => kp _, fun _ => kp _, kp _, kp _, fun _ => kp _, fun _ _ => kp _, kp _,
       fun _ => kp _, fun _ => kp _, fun _ _ _ _ _ => cx _, fun _ _ => kp _, fun _ => cx _, fun _ _ => cx _,
       fun _ _ => cx _⟩,
      ⟨fun _ => kp _, fun _ => cx _, fun _ => kp _, fun _ _ => cx _, fun _ _ => kp _, fun _ => cx _, fun _ => cx _,
       fun _ _ _ => kp _, fun _ => cx _, fun _ _ => kp _, fun _ _ => cx _, fun _ _ _ => kp _, fun _ _ _ => kp _,
       fun _ => cx _, fun _ _ => kp _, fun _ _ _ _ => kp _⟩,
      ⟨fun _ => cx _, fun _ _ _ => cx _, fun _ => kp _, cx _, fun _ _ => kp _, cx _, fun _ _ _ => kp _, fun _ => kp _,
       cx _, fun _ => kp _, cx _, fun _ _ _ => cx _, fun _ => cx _, fun _ _ => cx _, fun _ _ _ _ => cx _, fun _ => kp _⟩,
      ⟨fun _ => cx _, cx _, cx _, cx _, cx _, fun _ _ _ _ => cx _, fun _ => kp _, cx _, fun _ => kp _, fun _ => cx _, cx _,
       fun _ _ _ _ => cx _, fun _ _ _ _ => cx _, fun _ => kp _, cx _, cx _⟩,
      ⟨fun _ _ => cx _, fun _ => kp _, fun _ => cx _, fun _ => cx _, fun _ _ => kp _, fun _ => cx _, fun _ => kp _, cx _,
       fun _ _ _ => kp _, fun _ => cx _, fun _ _ _ => cx _, fun _ => cx _, fun _ => cx _, fun _ => cx _, fun _ _ => cx _,
       fun _ _ => cx _⟩,
      ⟨fun _ => cx _, fun _ => cx _, fun _ => cx _, fun _ _ => kp _, fun _ => cx _, fun _ => cx _, fun _ => cx _,
       fun _ => cx _, fun _ => kp _, fun _ _ _ => kp _, fun _ _ => kp _, fun _ _ _ _ _ _ => cx _, fun _ _ => cx _,
       fun _ => cx _, cx _, cx _⟩,
      ⟨fun _ _ _ _ => cx _, fun _ _ => cx _, cx _, cx _, cx _, fun _ _ _ _ _ => cx _, fun _ _ _ _ => cx _,
       fun _ _ _ => cx _, fun _ _ _ _ => cx _, cx _, cx _, fun _ => cx _, fun _ => cx _, fun _ _ _ => cx _, cx _,
       fun _ => kp _⟩,
      ⟨fun _ => kp _, cx _, fun _ => kp _, fun _ => cx _, fun _ => kp _, cx _, cx _, fun _ _ => kp _, cx _, cx _, cx _,
       cx _, cx _, fun _ => cx _, cx _, fun _ => kp _⟩,
      ⟨fun _ _ _ => kp _, fun _ => kp _, cx _, fun _ _ _ => cx _, kp _, kp _, fun _ => kp _, kp _, fun _ _ _ => cx _,
       fun _ _ _ => cx _, fun _ _ _ _ => cx _, fun _ => kp _, fun _ _ _ _ _ _ _ => kp _, fun _ => kp _,
       fun _ _ _ _ => booted _, kp _⟩,
      ⟨fun _ _ => kp _, cx _, kp _, fun _ => kp _, fun _ _ => rfl, rfl, fun _ => kp _, fun _ _ => kp _, fun _ => cx _,
       fun _ => kp _, kp _, fun _ => kp _, fun _ => kp _, fun _ => rfl, rfl, fun _ => rfl⟩,
      ⟨fun _ => kp _, fun _ => kp _, cx _, fun _ => cx _, fun _ => kp _, kp _, fun _ => cx _, cx _, cx _,
       fun _ _ _ => kp _, fun _ => kp _, fun _ _ => kp _, fun _ => cx _, fun _ _ => kp _, fun _ => kp _, fun _ _ => kp _⟩,
      ⟨fun _ _ _ => kp _, cx _, fun _ => kp _, fun _ => kp _, fun _ => kp _, cx _, fun _ _ _ _ => kp _, fun _ _ => cx _,
       fun _ _ _ => kp _, fun _ _ => kp _, kp _, kp _, fun _ _ _ => kp _, fun _ _ _ => kp _, fun _ _ => kp _, rfl⟩,
      ⟨rfl, rfl, fun _ _ => rfl, fun _ _ => rfl, rfl, rfl, fun _ => cx _, fun _ => cx _, kp _, fun _ => cx _,
       fun _ _ _ => cx _, fun _ _ _ _ _ _ => kp _, kp _, fun _ => kp _, kp _, rfl⟩,
      rfl⟩
end
